-- ==== Sys2Proof/Word.lean ====
section
/-! DEFINITION. The word types of the machine: a control register is 32 bits wide (R7), memory is addressed by bytes,
and every multi-byte field of a memory-resident structure is little-endian (R6). -/

namespace Sys2Proof

/-- A control register (R7). -/
abbrev Word := BitVec 32

/-- One byte of memory, of a mailbox buffer or of a frame. -/
abbrev Byte := BitVec 8

end Sys2Proof
end

