-- ==== Sys2Proof/Syntax.lean ====
section
/-! DEFINITION. The commands that the block takes from outside, one constructor per row of the table, and the records their
operands are made of. An operand carries what the row's event brings with it: who asks, what is written, what was measured. -/

namespace Sys2Proof

/-- Who makes a register access (R14): a Fen core, or Mire. -/
inductive Who where
  | fen (core : Nat)
  | mire
deriving DecidableEq, Repr, Inhabited

/-- One channel bit's samples of readers A, B and C, as ADC codes (R151, R152). -/
structure Sample where
  a : Int := 0
  b : Int := 0
  c : Int := 0
deriving DecidableEq, Repr, Inhabited

/-- A preamble as the readers see it by the time the search window opens (R153): its bits, the peak of reader B at a gain of 0 dB in
1/256 ADC code, and the phase of the fundamental at each of the three readers in 1/64 bit. -/
structure Preamble where
  bits : Nat := 160
  peak : Nat := 10240
  phase : Int × Int × Int := (0, 0, 0)
deriving DecidableEq, Repr, Inhabited

/-- What the verify reader sees of a sector (R196, R197): the peak of the first fragment's preamble at a gain of 0 dB in 1/256 ADC code, the
V input at each bit from the first written bit of each fragment on, one list a fragment, in the same unit, and the mean amplitude in
ADC codes. -/
structure Check where
  preamble : Nat := 10240
  input : List (List Int) := []
  amplitude : Nat := 40
deriving DecidableEq, Repr, Inhabited

/-- What a lane's demodulator reports of a wedge (R44, R86, R87): sync mark found, the position word, the wedge's number, and the
mark's arrival less its predicted MANG. -/
structure Demod where
  found : Bool := true
  pos : Word := 0
  wedge : Nat := 0
  late : Int := 0
deriving DecidableEq, Repr, Inhabited

/-- What is sampled at a strobe (R85, R103): MANG, VCM currents of the sections, strain of the slots (none where invalid), vibration
inputs, as signed 16-bit codes; temperatures in °C; the cell period over the tick in 2^-16 ns, and the phase error of each timing head
in 1/4,096 cell. -/
structure Strobe where
  mang : Word := 0
  period : Nat := 0
  phase : List (Option Int) := []
  imeas : List Int := []
  strain : List (Option Int) := []
  vib : List Int := []
  temp : List Int := []
deriving DecidableEq, Repr, Inhabited

/-- What a timing head showed at an index (R40, R45): its amplitude and agreement tests hold, cells since the last index. -/
structure Head where
  healthy : Bool := true
  cells : Nat := 1048576
deriving DecidableEq, Repr, Inhabited

/-- The test that a timing head fails (R45): amplitude, count, or agreement with what each head counted. -/
inductive HeadTest where
  | amplitude (head lowCells : Nat)
  | count (head cells : Nat)
  | agreement (disagreeing cells0 cells1 : Nat)
deriving DecidableEq, Repr, Inhabited

/-- What a fetched command asks (R291, R302). `zoneSend` carries the zones acted on, `format` and `sanitize` the namespaces. -/
inductive HostOp where
  | read | compare | verify | write | writeZeroes | writeUncorrectable | zoneAppend | deallocate | datasetHint | copy | zoneSend
  | format | sanitize | flush | other
deriving DecidableEq, Repr, Inhabited

/-- A range of LBAs of a namespace (R291), and whether a lock on it is exclusive. -/
structure LbaRange where
  ns : Nat := 0
  first : Nat := 0
  count : Nat := 0
  excl : Bool := false
deriving DecidableEq, Repr, Inhabited

/-- A submission entry as Staithe reads it at the fetch (R288–R291): the 64 bytes, the queue it comes from and that queue's size and
completion queue, and from the entry its CID, NSID, first LBA and number of LBAs (the destination of a Copy). `list` holds the ranges
that the entry or its range list names beside that one, as (NSID, first LBA, count): Dataset Management ranges, Copy sources, zones,
namespaces; `selectAll` is the bit of Zone Management Send (R291). -/
structure HostCommand where
  cntlid : Nat := 0
  sqid : Nat := 0
  cqid : Nat := 0
  size : Nat := 2
  sqe : List Byte := []
  cid : Nat := 0
  op : HostOp := .other
  nsid : Nat := 0
  first : Nat := 0
  count : Nat := 0
  list : List (Nat × Nat × Nat) := []
  selectAll : Bool := false
deriving DecidableEq, Repr, Inhabited

/-- What a configuration request reaches (R285, R286): BAR0, the number of VFs that SR-IOV enables (0: VF Enable is clear), the error
status of AER, or the register at an offset; the places of the first three are PCI Express's. -/
inductive ConfigField where
  | bar0 | vfs | aer
  | other (offset : Nat)
deriving DecidableEq, Repr, Inhabited

/-- What resets controllers (R303): CC.EN from 1 to 0, a Function Level Reset, VF Enable cleared at a port, an NVM Subsystem Reset. -/
inductive CtlReset where
  | ccEnable (k : Nat)
  | functionLevel (k : Nat)
  | vfEnable (port : Nat)
  | subsystem
deriving DecidableEq, Repr, Inhabited

/-- What the check of an SRAM word finds (R377). -/
inductive SramError where
  | clean | single | uncorrectable
deriving DecidableEq, Repr, Inhabited

/-- What an SRAM word held that warm reset keeps (R385): a ledger entry, a record of the poison map, of the fate log, of Peat's
staging, by its index; or something else. -/
inductive SramWord where
  | plain
  | ledger (entry : Nat)
  | poison (index : Nat)
  | fate (index : Nat)
  | peat (index : Nat)
deriving DecidableEq, Repr, Inhabited

/-- What the check of a DRAM block finds (R379): no error, a correctable one, an uncorrectable one, one whose syndrome happens
to be the poison signature (R384), or one of three or more symbols that the code misses, or takes for a correctable one, with the bytes that
the read then returns. -/
inductive DramError where
  | clean | correctable | uncorrectable | signature
  | missed (data : List Byte)
  | miscorrected (data : List Byte)
deriving DecidableEq, Repr, Inhabited

/-- The AMO operations of a Fen core, LR and SC (R361), and a FENCE whose predecessor set includes W (R367), for which no row stands. -/
inductive AmoOp where
  | swap | add | and_ | or_ | xor_ | min_ | max_ | minu | maxu | lr | sc | fence
deriving DecidableEq, Repr, Inhabited

/-- What a Fen core asks of Carr (R361). -/
inductive CarrOp where
  | load
  | store (data : List Byte)
  | amo (op : AmoOp) (operand : Nat)
deriving DecidableEq, Repr, Inhabited

/-- An access of a Fen core to the map window (R360, R361). -/
structure CarrAccess where
  core : Nat := 0
  addr : Nat := 0
  size : Nat := 0
  op : CarrOp := .load
deriving DecidableEq, Repr, Inhabited

/-- A chain that Staithe built for a host channel (R342): its context, where it lies in host staging, and its bytes, 64 to a
descriptor. -/
structure HostDescriptor where
  ctx : Nat := 0
  addr : Nat := 0
  bytes : List Byte := []
deriving DecidableEq, Repr, Inhabited

/-- A valid pointer copy (R438). -/
structure Pointer where
  seq : Nat := 0
  slot : Nat := 0
  trial : Bool := false
  tries : Nat := 0
  prev : Nat := 0
deriving DecidableEq, Repr, Inhabited

/-- A slot in NOR (R436): its state (R250: 0 empty, 1 loading, 2 applied, 3 invalid), the manifest's bytes, the images of parts 0–6. -/
structure Slot where
  state : Nat := 0
  manifest : List Byte := []
  images : List (List Byte) := []
deriving DecidableEq, Repr, Inhabited

/-- A request that is pending at a decision of Causeway (R332, R333, R382): its owner code, the beats of its transfer, and whether it carries
a partial write. -/
structure SlotRequest where
  owner : Nat := 0
  beats : Nat := 4
  partialWrite : Bool := false
deriving DecidableEq, Repr, Inhabited

/-- A decision of Causeway (R333): the target, the slot in which the next cycle falls, the cycles left of it, the requests. -/
structure SlotAsk where
  target : Nat := 0
  slot : Nat := 0
  room : Nat := 4
  requests : List SlotRequest := []
deriving DecidableEq, Repr, Inhabited

/-- The levels of the strap balls at the release of power-on reset (R493). -/
structure Straps where
  dramSize : Nat := 0
  dramRate : Nat := 0
  factory : Bool := false
  xspi : Nat := 0
deriving DecidableEq, Repr, Inhabited

/-- What the boot ROM finds (R430, R436, R438, R455): OTP errors, ROM_TIME, and the pointer copies and slots that a
fixture has programmed since the last boot; and the parts whose copies Aqsia will find to differ twice from the verified hash (R439). -/
structure BootFound where
  otpCorrected : Bool := false
  otpFatal : Bool := false
  time : Nat := 0
  copies : List (Nat × Option Pointer) := []
  slots : List (Nat × Slot) := []
  changed : List Nat := []
deriving DecidableEq, Repr, Inhabited

/-- Motor and timebase calibration in NOR (R437), written at the factory: KE_NOM, TIDE_SURF_OFS by surface, TIDE_T1_OFS, WTH_RET_CFG by
section. -/
structure MotorCal where
  ke : Nat := 0
  surf : List Nat := []
  t1 : Nat := 0
  ret : List Nat := []
deriving DecidableEq, Repr, Inhabited


/-- The commands: one constructor per row of the table of operations and events. -/
inductive Instr where
  /-- REGISTER_WRITE (R8): A store to a register field that has no row of its own sets or acts on the field according to its access code. -/
  | registerWrite (who : Who) (addr width : Nat) (value : Option Word)
  /-- POWER_ON (R397): V12_IN rises through 9.50 V and Weir runs soft-start, starts the regulators and releases power-on reset. -/
  | powerOn (good : Bool) (straps : Straps)
  /-- WEIR_RETRY (R397): 100 ms after a failed start or a regulator fault, Weir retries the power-on sequence. -/
  | weirRetry (good : Bool) (straps : Straps)
  /-- SUPPLY_LOSS (R397): VHB falls through the 9.00 V loss level, and Weir drops BRD_EN, turns off its regulators and holds the other dies in power-on reset. -/
  | supplyLoss
  /-- WEIR_REG_FAULT (R394): A regulator stays out of band for 10 µs, or is not good 5 ms after start, and Weir holds power-on reset and schedules a retry. -/
  | weirRegFault
  /-- WARN_ARM (R396): V12_IN has held above the arming level for 2 ms, so the power-fail warning or commit becomes armed. -/
  | warnArm (commit : Bool)
  /-- POWER_FAIL_WARNING (R398): The armed warning qualifies, and Weir opens the provisional window, holding write admission, SVC_RDY and the scrubber and interrupting Mire. -/
  | powerFailWarning (mv : Nat)
  /-- PF_CANCEL (R399): V12_IN has held above 11.10 V for 2 ms without a commit, so the provisional window is cancelled and the holds are released. -/
  | pfCancel (mv : Nat)
  /-- POWER_FAIL_COMMIT (R400): The commit qualifies, and Withy rectifies, fetches stop, Fen takes an NMI and non-flush Reed operations terminate. -/
  | powerFailCommit (mv : Nat)
  /-- FEN_CLOCK_STOP (R400): 1 ms after the commit, Weir forces the Fen clock domains off until the next reset. -/
  | fenClockStop
  /-- POWER_FAIL_FLUSH (R321): From the commit, Mire writes the HELD and WRITING ledger entries to the media-cache bands through each section's two streams. -/
  | powerFailFlush
  /-- FLUSH_ENTRY_DONE (R321): A ledger entry has been written to its band extent and becomes FLUSHED. -/
  | flushEntryDone (n entry : Nat)
  /-- PF_DONE (R402): Mire writes WEIR_PF_CTRL.DONE after flush, fate-log mirror and park, which ends the sequence. -/
  | pfDone
  /-- WEIR_PF_LATE (R402): DONE is not written by the late point, so Weir interrupts Mire and Aqsia terminates the flush and parks every section. -/
  | weirPfLate
  /-- PF_BUDGET (R403): PF_MS reaches BUDGET, and Weir retracts every section that does not read PARKED and ends the sequence. -/
  | pfBudget
  /-- PF_END (R403): The power-fail sequence ends, Withy leaves RECTIFY, and Weir either restarts by warm reset or powers down the dies. -/
  | pfEnd (restart : Bool)
  /-- ISO_DIODE_OFF (R405): In ideal-diode mode, V12_IN falls below VHB − 20 mV and the isolation FETs turn off, turning on again when V12_IN exceeds VHB. -/
  | isoDiodeOff (v12 vhb : Nat)
  /-- CHOP_ON (R406): VHB reaches 13.60 V and CHOP_GATE turns on, turning off again at 13.30 V. -/
  | chopOn (vhb : Nat)
  /-- CHOP_TEST (R406): A chopper self-test turns the chopper on for 20 µs, once VHB is at or above 10.50 V, and sets or clears CHOP_FAULT from the sensed current. -/
  | chopTest (vhb current : Nat)
  /-- WEIR_CHOP_OPEN (R406): The chopper is commanded on with under 0.5 A sensed for 10 µs, so CHOP_FAULT sets. -/
  | weirChopOpen
  /-- WEIR_CHOP_SHORT (R406): Over 0.5 A is sensed for 10 µs while the chopper is commanded off. -/
  | weirChopShort (current : Nat)
  /-- WEIR_OV_IN (R407): An overvoltage on V12_IN turns ISO_GATE off and starts a commit with cause 2. -/
  | weirOvIn (mv : Nat)
  /-- WEIR_OV_BUS (R407): An overvoltage on VHB with a healthy chopper is recorded, and the chopper stays on under its hysteresis. -/
  | weirOvBus (vhb : Nat)
  /-- WEIR_V5_LOW (R395): V5_IN stays below 4.50 V for 10 µs and a class C fault is recorded. -/
  | weirV5Low (mv : Nat)
  /-- WEIR_MIN_V12_READ (R411): A read of WEIR_MIN_V12 returns the lowest V12_IN since the last read and resets the register to 0xFFFF. -/
  | weirMinV12Read (who : Who)
  /-- WARM_RESET (R22): A warm reset takes hold and resets every subsystem except Tide, Tussock, Withy, Weir, Levee, Staithe links and the retention domain. -/
  | warmReset
  /-- LEV_RESET_WARM (R423): Mire writes LEV_RESET.WARM and a warm reset is requested with cause software. -/
  | levResetWarm (who : Who)
  /-- BLOCK_RESET (R424): A block reset of Reed, Sedge, Carr or Lode is requested by reaction or by LEV_RESET.BLOCK and takes hold after its preparatory actions. -/
  | blockReset (sub : Nat)
  /-- BLOCK_RESET_END (R424): The 1 µs block reset ends, the subsystem's fields are at their reset values and Mire is interrupted. -/
  | blockResetEnd (sub : Nat)
  /-- ROOT_LOCK (R29): The root synthesizer locks and the divided clocks run. -/
  | rootLock
  /-- TIDE_ROOT_UNLOCK (R31): The root synthesizer loses lock, write gates drop and Tide goes to ACQUIRE as a class F fault. -/
  | tideRootUnlock
  /-- TIDE_CG_EN (R33): Mire writes a clock-gate register, and each gate opens or closes at a low phase of its clock, except the ungated domains. -/
  | tideCgEn (i : Nat) (value : Word)
  /-- ACQ_START (R55): Writing ACQ_START in FREE starts acquisition under R40. -/
  | acqStart
  /-- INDEX_MARK (R40): An index mark is seen on a healthy timing head, stepping MANG in acquisition or moving Tide to LOCKED or SINGLE at the second mark. -/
  | indexMark (mang : Word) (t0 t1 : Head) (period : Nat)
  /-- TIDE_ACQ_FAIL (R41): No index, or a wrong cell count, restarts acquisition, and the third failure leaves Tide in ACQUIRE with a class U fault. -/
  | tideAcqFail
  /-- TIDE_HEAD_LOST (R45): A qualified timing head fails its amplitude, count or agreement test, and Tide drops it, going to SINGLE or HOLDOVER. -/
  | tideHeadLost (test : HeadTest)
  /-- TIDE_TIMING_LOST (R46): After 64 revolutions in HOLDOVER, or once no section is track-following, Tide enters FREE and Aqsia parks every section. -/
  | tideTimingLost (stalls : Nat)
  /-- ENC_SYNC_OUT_RISE (R48): At the MANG of pulse k, with ESO_EN set and Tide locked, ENC_SYNC_OUT rises. -/
  | encSyncOutRise (mang : Word)
  /-- ENC_SYNC_OUT_FALL (R48): At the fall MANG of pulse k, ENC_SYNC_OUT falls. -/
  | encSyncOutFall (mang : Word)
  /-- ENC_SYNC_IN_EDGE (R49): A rising edge of ENC_SYNC_IN is measured, qualifying or disqualifying the input and updating the commanded speed and index phase. -/
  | encSyncInEdge (mang : Word) (period high : Nat)
  /-- ESI_EDGE_TIMEOUT (R49): No rising edge arrives within twice the mean period, so the input becomes invalid and the last command is held. -/
  | esiEdgeTimeout
  /-- ESI_PHASE_SUSPEND (R50): No wide pulse arrives for 2 revolutions, so phase control suspends while speed following continues. -/
  | esiPhaseSuspend
  /-- TIDE_OPT_LO (R51): Aqsia writes TIDE_OPT_LO, which commits the operating-time lock and starts the count. -/
  | tideOptLo (value : Word)
  /-- TIDE_OPT_LO_READ (R51): A read of TIDE_OPT_LO latches TIDE_OPT_HI for the same requester's next read. -/
  | tideOptLoRead (who : Who)
  /-- INNER_LOOP_TICK (R90): At each inner-loop tick every section datapath and the loop unit sample, compute and write their outputs at cycle 48. -/
  | innerLoopTick (x : Strobe)
  /-- SHOCK_LIFT (R193): After HOLD consecutive quiet ticks, shock lifts. -/
  | shockLift
  /-- PES_DEMOD (R86): A lane's servo demodulator completes the PES of a wedge, and Tide's slip tracking takes the sync-mark arrival. -/
  | pesDemod (n : Nat) (x : Demod)
  /-- TUS_PES_LOST (R87): A lane has 8 consecutive wedge ticks with invalid PES and continues on prediction alone, with a class U fault. -/
  | tusPesLost (n : Nat)
  /-- TUS_NUM_SAT (R94): A section has 8 consecutive saturated ticks and a class U fault is recorded. -/
  | tusNumSat (k : Nat)
  /-- WINH_LIFT (R117): After 8 consecutive ticks within WINH_THR with no other condition, the position-error write inhibit lifts. -/
  | winhLift (n : Nat)
  /-- SEEK_SETTLED (R115): The plan has ended and SETTLE_CNT valid wedge ticks lie within SETTLE_WIN, so SETTLED sets and MODE returns to 0. -/
  | seekSettled (k : Nat)
  /-- RELOAD (R99): Mire writes TUS_SEC_CTRL.RELOAD and Tussock refetches the active region into the shadow bank. -/
  | reload (k : Nat)
  /-- REGION_FETCH_DONE (R99): A region fetch completes and becomes active at the next outer update unless its tag mismatches. -/
  | regionFetchDone (k : Nat)
  /-- XC_COMMIT (R102): Writing XC_COMMIT copies the coupling shadows to the active matrix at the next strobe. -/
  | xcCommit
  /-- CAP_GO (R108): Writing CAP_GO captures the selected lane's corrected state at the next tick and sets CAP_DONE. -/
  | capGo (k : Nat)
  /-- GO (R109): Mire writes TUS_SEEK_CTRL.GO, which is latched at the next strobe and acts at the next outer update. -/
  | seekGo (k : Nat) (hint abandon : Bool)
  /-- ABANDON (R119): Mire writes ABANDON, which retargets a running hint seek to the nearest track at which a stop would rest. -/
  | seekAbandon (k : Nat)
  /-- RUN_START (R60): Mire writes WTH_SPN_CTRL.RUN = 1 in IDLE, or to withdraw a blocked stop, and the spindle enters OBSERVE. -/
  | runStart
  /-- RUN_STOP (R71): Mire clears RUN and the spindle stops by its state's transition, or waits with STOP_BLOCKED while a section is loaded. -/
  | runStop
  /-- STOP_PROCEED (R71): Every section reads PARKED while a stop is blocked, so the stop proceeds. -/
  | stopProceed
  /-- CLR_FAULT (R60): Writing CLR_FAULT below the rest threshold returns the spindle from FAULT or SHORT to IDLE. -/
  | clrFault (emf : Nat)
  /-- OBSERVE_END (R66): The 40 ms observation ends and Withy chooses ALIGN, RUN, BRAKE, IDLE or STOP. -/
  | observeEnd (emf speed : Nat) (reverse : Bool)
  /-- ALIGN_SECOND_ANGLE (R62): 100 ms into ALIGN the current vector moves to electrical angle 0°. -/
  | alignSecondAngle
  /-- ALIGN_END (R62): After 300 ms of ALIGN the spindle enters RAMP. -/
  | alignEnd
  /-- RAMP_REACHED (R62): The ramp reaches 600 rpm and holds it, and the handover test starts. -/
  | rampReached
  /-- HANDOVER (R63): The observer angle has stayed within ±30° for one electrical period, so the spindle enters RUN under Tussock's loop. -/
  | handover (speed : Nat)
  /-- HANDOVER_FAIL (R63): The test has not passed 250 ms after 600 rpm, so the bridge turns off for 100 ms and ATTEMPT increments. -/
  | handoverFail
  /-- HANDOVER_OBSERVE_END (R63): The 100 ms bridge-off observation ends and Withy chooses ALIGN, RUN or BRAKE. -/
  | handoverObserveEnd (emf speed : Nat) (reverse : Bool)
  /-- BRAKE_REST (R60): In BRAKE or STOP, the back-EMF has stayed below the rest threshold for 50 ms, so the spindle goes to ALIGN or IDLE. -/
  | brakeRest
  /-- WTH_BRAKE_TIMEOUT (R66): BRAKE has not reached rest within 10 s, so the spindle goes to FAULT. -/
  | wthBrakeTimeout
  /-- FOC_PERIOD (R68): Each modulation period the phase-current loops update, the speed flags SPD90 and SPD95 are judged and STOP moves to its low-side short at 300 rpm. -/
  | focPeriod (speed : Nat) (id : Int) (mi : Nat) (elec : Option Nat)
  /-- KE_CHECK_START (R67): RUN first reaches 1,000 rpm, and Withy turns all FETs off for one electrical period to measure the back-EMF constant. -/
  | keCheckStart
  /-- KE_CHECK_END (R67): The measurement period ends, KE_MEAS is written, and the drive resumes or aborts. -/
  | keCheckEnd (emf speed : Nat)
  /-- WTH_SPEED_LIMITED (R69): Field weakening has sat at its floor for 8 revolutions, so FW_SAT sets and a class C fault is recorded. -/
  | wthSpeedLimited
  /-- WTH_SPN_OC (R81): Phase current exceeds 6.0 A for 2 µs, so all spindle FETs turn off and the spindle enters FAULT. -/
  | wthSpnOc
  /-- WTH_CHOP_FAIL (R72): The bus exceeds 14.2 V with a faulty chopper, so Withy shorts the spindle, enters SHORT and retracts every section. -/
  | wthChopFail (vhb : Nat)
  /-- HOLD_COLLAPSE (R74): In RECTIFY, the bus cannot be held above VSET − 0.5 V for 5 ms at IHOLD, so HOLD_COLLAPSE sets. -/
  | holdCollapse (vhb : Nat)
  /-- WTH_VCM_OC (R76): A VCM current exceeds ±3.6 A for 1 µs, so that bridge turns off and EN clears. -/
  | wthVcmOc (k : Nat)
  /-- WTH_MA_OC (R78): A microactuator driver is at its current limit for 100 µs, so HOLD sets. -/
  | wthMaOc (n : Nat)
  /-- WTH_GD_UVLO (R81): Gate-drive supply is below 8.5 V for 5 µs, so every section retracts and the spindle enters FAULT without braking. -/
  | wthGdUvlo
  /-- WTH_HB_LOSS (R79): No heartbeat from the commutation logic reaches the power-control die for 10 µs, so every unparked section retracts. -/
  | wthHbLoss
  /-- RETRACT_GO (R79): Mire writes WTH_RET_CTRL.GO and a retract starts on each named section. -/
  | retractGo (mask : Nat)
  /-- RETRACT_LOW_BUS (R79): The holdup bus falls below 7.0 V and a retract starts on each unparked section. -/
  | retractLowBus (vhb : Nat)
  /-- RETRACT_STALL (R80): The VCM back-EMF stays below VEL/10 for 1 ms at the parking stop, so the timed hold at IMAX/2 begins. -/
  | retractStall (k : Nat)
  /-- WTH_RET_TIMEOUT (R80): No stall is seen by 12 ms, so the timed hold starts and a class U fault is recorded. -/
  | wthRetTimeout (k : Nat)
  /-- RETRACT_END (R80): After the 4 ms hold the bridge turns off, PARKED sets and EN clears. -/
  | retractEnd (k : Nat)
  /-- PARK (R84): Aqsia writes WTH_VCM_CTRL.PARK after a servo unload, so the bridge turns off, EN clears and PARKED sets. -/
  | park (k : Nat)
  /-- VCM_ENABLE (R84): Writing EN = 1 outside a retract enables the bridge and clears PARKED. -/
  | vcmEnable (k : Nat)
  /-- MA_HOLD (R78): Setting HOLD ramps the microactuator output to 0 V, and clearing it returns control to Tussock with strain marked invalid for 20 µs. -/
  | maHold (n : Nat) (hold : Bool)
  /-- REED_GO (R129): Mire writes GO while the stream is IDLE, so Reed copies the operation registers and starts the program at ENTRY. -/
  | reedGo (n : Nat)
  /-- KILL (R141): Mire writes REED_ST_CTRL.KILL and the operation terminates with KILL. -/
  | reedKill (n : Nat)
  /-- RESTART (R141): Mire writes REED_ST_CTRL.RESTART, which is a restart event with cause 3. -/
  | reedRestart (n : Nat)
  /-- ABORT (R142): Mire sets ABORT, which the program tests at each sector boundary to end with ABORTED. -/
  | reedAbort (n : Nat) (set : Bool)
  /-- RESTART_EVENT (R141): A restart drops every gate, restores the snapshot, releases uncommitted staging and resumes at the restart address, or terminates with RESTART_LIMIT. -/
  | restartEvent (n : Nat)
  /-- WAIT (R131): The sequencer stalls until its condition holds, or its timeout sets TO. -/
  | wait (n : Nat)
  /-- WAITC (R131): The sequencer stalls for a given number of CK_CTRL cycles. -/
  | waitc (n : Nat)
  /-- WAITA (R131): The sequencer waits for a MANG target, or sets LATE or waits for the next occurrence. -/
  | waita (n : Nat) (mang : Word)
  /-- GATE (R136): The sequencer changes a read, write or verify gate, subject to the write-gate conditions, which can refuse, restart or terminate. -/
  | gate (n : Nat) (mang : Word) (cause : Option Nat)
  /-- SYNC (R133): With RG open the sequencer searches for a mark in a window, and with WG open it writes the preamble and mark. -/
  | sync (n : Nat) (mang : Word) (p : Preamble)
  /-- SYNC_WINDOW_CLOSE (R134): The search window closes without a detection, so SMISS sets and timed sync is used unless NOTIMED is set. -/
  | syncWindowClose (n : Nat) (mang : Word)
  /-- MARK_DETECTED (R154): Sedge's detector matches the mark pattern inside the window and Reed aligns the data to it. -/
  | markDetected (n : Nat) (mang bits : Word)
  /-- XFER (R128): The sequencer moves one fragment through the open gate and updates the count and G15. -/
  | xfer (n : Nat) (mang : Word) (raw : List Sample)
  /-- SKIPW (R131): The sequencer closes RG and VG and waits past a wedge, returning EARLY cells before its end. -/
  | skipw (n : Nat) (mang : Word)
  /-- MARK (R140): The sequencer commits completed sectors, queues SECTOR events, snapshots its state and sets the restart address. -/
  | mark (n : Nat)
  /-- JMP (R131): The sequencer jumps. -/
  | jmp (n : Nat)
  /-- JCC (R131): The sequencer jumps when its condition holds. -/
  | jcc (n : Nat)
  /-- CALL (R131): The sequencer pushes the return address and jumps, terminating with STACK at a fifth nesting. -/
  | call (n : Nat)
  /-- RET (R131): The sequencer pops and jumps, terminating with STACK when the stack is empty. -/
  | ret (n : Nat)
  /-- LDI (R131): The sequencer loads an immediate into a register or its high half. -/
  | ldi (n : Nat)
  /-- ADD (R131): The sequencer adds to a register and sets EQ and LT. -/
  | microAdd (n : Nat)
  /-- SUB (R131): The sequencer subtracts from a register and sets EQ and LT. -/
  | microSub (n : Nat)
  /-- CMP (R131): The sequencer sets the flags from a difference without changing the register. -/
  | microCmp (n : Nat)
  /-- EMIT (R143): The sequencer queues a program event, stalling while 56 or more entries are occupied. -/
  | emit (n : Nat)
  /-- END (R131): The sequencer commits as MARK does, drops every gate, ends the operation and interrupts Mire. -/
  | microEnd (n : Nat)
  /-- ILLEGAL_MICROWORD (R131): An illegal microword or fetch terminates the operation with ILLEGAL. -/
  | illegalMicroword (n : Nat)
  /-- WAIT_TIMEOUT (R131): A WAIT's timeout expires, TO sets and the program continues. -/
  | waitTimeout (n : Nat)
  /-- PROTECTED_SPAN_START (R127): MANG reaches a wedge's protected span and every gate of the stream drops, cutting any XFER. -/
  | protectedSpanStart (n : Nat) (mang : Word) (raw : List Sample)
  /-- OPERATION_END (R150): Reed interrupts Mire as a stream returns to IDLE, and Mire turns the termination and sector outcomes into a completion status. -/
  | operationEnd (n : Nat)
  /-- CS_WRITE (R145): A write to REED_CS_DATA stores the word in every selected idle sequencer and increments ADDR, or sets ERR. -/
  | csWrite (word : Word)
  /-- CS_READ (R145): A read of REED_CS_DATA returns the word of the lowest selected sequencer and increments ADDR. -/
  | csRead (who : Who)
  /-- REED_EVENT_READ (R143): A read of REED_ST_EVENT removes and returns the oldest event. -/
  | reedEventRead (who : Who) (n : Nat)
  /-- SECTOR_DECODE (R160): The LDPC decode of a sector completes, the seal is checked, and the sector posts, parks or is marked. -/
  | sectorDecode (n : Nat)
  /-- ALIGN_RETRY (R165): When the codec is idle, or after the last sector, Sedge decodes a parked sector at up to six alternate alignments. -/
  | alignRetry (n : Nat) (slot : Nat) (before after : List Sample)
  /-- SECTOR_OVERRUN (R177): A sector starts while both rolling slots are held, so its samples are discarded and it posts OVERRUN or is counted as lost. -/
  | sectorOverrun (n : Nat)
  /-- THERMAL_ASPERITY (R163): A thermal asperity is detected, the high-pass corner switches and the surrounding bits are erased. -/
  | thermalAsperity (n : Nat) (returned : Bool) (bit level run : Nat)
  /-- DROPOUT (R163): Reader B's envelope stays low for LEN bits and the surrounding bits are erased. -/
  | dropout (n : Nat) (recovered : Bool) (bit level run : Nat)
  /-- RESULT_READ (R176): A read of SDG_RESULT removes the oldest sector result and latches its second word. -/
  | resultRead (who : Who) (n : Nat)
  /-- TEL_SNAP (R178): Writing TEL_SNAP copies every stream's counters to the snapshot. -/
  | telSnap (clear : Bool)
  /-- TEL_CLEAR (R178): Writing TEL_CLEAR zeroes the counters after any snapshot written with it. -/
  | telClear
  /-- COEF_WRITE (R157): A write to SDG_COEF_DATA writes the shadow entry at ADDR and increments ADDR. -/
  | coefWrite (n : Nat) (data : Word)
  /-- COEF_READ (R180): A read of SDG_COEF_DATA returns the entry at ADDR and increments ADDR. -/
  | coefRead (who : Who) (n : Nat)
  /-- VERIFY_OUTCOME (R197): The verify checker posts a sector's outcome after its bits pass under the V reader. -/
  | verifyOutcome (n : Nat) (c : Check)
  /-- VFY_RESULT_READ (R198): A read of SDG_VFY_RESULT removes and returns the oldest verify outcome. -/
  | vfyResultRead (who : Who) (n : Nat)
  /-- LADDER_STEP (R168): Aqsia runs the next recovery-ladder step on a failed sector, with re-reads on later revolutions. -/
  | ladderStep (n : Nat)
  /-- RING (R207): A RING on a FREE pair latches the header and moves the pair to PENDING, accepting the request. -/
  | mbxRing (who : Who) (p : Nat)
  /-- ACK (R207): An ACK on a DONE pair returns it to FREE. -/
  | mbxAck (who : Who) (p : Nat)
  /-- CANCEL (R218): A CANCEL answers a PENDING request as CANCELLED, or sets CANCEL_REQ for a running one. -/
  | mbxCancel (who : Who) (p : Nat)
  /-- REQUEST_START (R215): Aqsia takes a PENDING request into RUNNING once its session, MAXRUN and resources allow, running the header checks. -/
  | requestStart (emf : Nat)
  /-- SESSION_IDLE_TIMEOUT (R214): A session's idle timeout expires and the session closes. -/
  | sessionIdleTimeout (id : Nat)
  /-- SESSION_OPEN (R213): Opens a session with the lowest free ID and a new generation, returning the Aqsia version and MAXRUN. -/
  | sessionOpen (p : Nat)
  /-- SESSION_CLOSE (R214): Closes the session, answering its pending requests with SESSION_CLOSED. -/
  | sessionClose (p : Nat)
  /-- SESSION_PING (R213): Returns the operating time. -/
  | sessionPing (p : Nat)
  /-- SPINDLE_SET (R234): Sets spindle speed, source and RUN, optionally waiting for AT_SPEED or IDLE. -/
  | spindleSet (p : Nat)
  /-- SPINDLE_STATUS (R234): Returns the spindle and Tide status registers. -/
  | spindleStatus (p : Nat)
  /-- SECTION_LOAD (R235): Loads the masked parked sections 150 ms apart, retracting any that fail to lock. -/
  | sectionLoad (p : Nat) (lock : Option Nat)
  /-- SECTION_PARK (R236): Stops new operations on the masked sections and unloads them under servo control, retracting on timeout. -/
  | sectionPark (p stalls : Nat)
  /-- RETRACT (R237): Starts the retract sequencer on the masked sections. -/
  | retract (p : Nat)
  /-- MOTOR_CLEAR (R234): Writes CLR_FAULT to leave FAULT or SHORT. -/
  | motorClear (p emf : Nat)
  /-- SECTION_STATUS (R234): Returns a section's VCM, servo and seek status and its reference. -/
  | sectionStatus (p : Nat)
  /-- ENC_SYNC_SET (R234): Sets the ENC_SYNC enables and index phase offset. -/
  | encSyncSet (p : Nat)
  /-- SERVO_RELOAD (R239): Copies the servo table from NOR, checks every tag and sets TABLES_VALID or answers TAG_MISMATCH. -/
  | servoReload (p : Nat)
  /-- SERVO_REGION_WRITE (R239): Writes words of a region entry in servo-table SRAM in factory test mode. -/
  | servoRegionWrite (p : Nat)
  /-- SERVO_LIMITS (R238): Sets a section's settle, seek and write-inhibit limits. -/
  | servoLimits (p : Nat)
  /-- SERVO_COUPLING (R238): Sets the coupling and vibration feedforward enables and optionally writes and commits the coefficients. -/
  | servoCoupling (p : Nat)
  /-- SERVO_CAPTURE (R238): Captures and returns a lane's corrected state. -/
  | servoCapture (p : Nat)
  /-- ZONE_INFO (R240): Returns a zone's tracks, bit density, code and sectors per track. -/
  | zoneInfo (p : Nat)
  /-- CHANNEL_ADAPT (R240): Sets adaptation and iteration settings for the named streams from their next GO. -/
  | channelAdapt (p : Nat)
  /-- CHANNEL_CAL (R240): Calibrates channel items for a head and zone and stores them in NOR, in factory test mode. -/
  | channelCal (p : Nat) (found : List Nat)
  /-- PREAMP_INFO (R240): Returns a preamplifier link's identity and state. -/
  | preampInfo (p : Nat)
  /-- FPROG_BEGIN (R241): Opens a format-program load owned by the session. -/
  | fprogBegin (p : Nat)
  /-- FPROG_DATA (R242): Carries the next words of an open load, in order. -/
  | fprogData (p : Nat)
  /-- FPROG_COMMIT (R243): Validates the loaded program, waits for idle sequencers and writes it into every control store. -/
  | fprogCommit (p : Nat) (norOk : Bool)
  /-- FPROG_BIND (R244): Binds a program to a media opcode and zone range for later operations. -/
  | fprogBind (p : Nat) (norOk : Bool)
  /-- FPROG_DELETE (R244): Removes a program and its bindings. -/
  | fprogDelete (p : Nat) (norOk : Bool)
  /-- FPROG_LIST (R241): Lists the loaded programs. -/
  | fprogList (p : Nat)
  /-- POWER_STATE_SET (R246): Moves the drive to a power state through the ASCALE, park, spindle, load and source steps. -/
  | powerStateSet (p : Nat) (lock : Option Nat) (stalls : Nat)
  /-- POWER_STATUS (R245): Returns the power state, power-fail state, supplies and junction temperature. -/
  | powerStatus (p tj : Nat)
  /-- FEN_GATE (R245): Gates Fen cores 1–7 through TIDE_CG_EN(0). -/
  | fenGate (p : Nat)
  /-- PEAT_APPEND (R248): Appends a drive-maker record and returns its operating time. -/
  | peatAppend (p : Nat)
  /-- PEAT_FREEZE (R466): Freezes an area for the session and returns its record and byte counts. -/
  | peatFreeze (p : Nat)
  /-- PEAT_READ (R466): Returns up to 232 bytes of a frozen area from a cursor. -/
  | peatRead (p : Nat)
  /-- PEAT_RELEASE (R466): Releases the session's freeze of an area. -/
  | peatRelease (p : Nat)
  /-- PEAT_CLEAR (R469): With a verified signature, clears the named circulating areas behind a clear record. -/
  | peatClear (p : Nat) (norOk : Bool)
  /-- PEAT_FLUSH (R248): Starts a flush of Peat's staging buffer to NOR. -/
  | aqPeatFlush (p : Nat) (norOk : Bool)
  /-- UPDATE_BEGIN (R251): Takes ownership of the update and prepares the inactive slot. -/
  | updateBegin (p : Nat) (norOk : Bool)
  /-- UPDATE_DATA (R251): Carries the next package bytes at the expected offset. -/
  | updateData (p : Nat) (norOk : Bool)
  /-- UPDATE_APPLY (R450): Checks the manifest and writes or carries each part into the inactive slot. -/
  | updateApply (p : Nat) (norOk : Bool)
  /-- UPDATE_ACTIVATE (R451): Writes the pointer as TRIAL on the inactive slot, now or at the next reset. -/
  | updateActivate (p : Nat) (norOk : Bool)
  /-- UPDATE_STATUS (R250): Returns the slots, versions, floor and fuses left. -/
  | updateStatus (p : Nat)
  /-- UPDATE_ABORT (R251): Ends the session's ownership of the update. -/
  | updateAbort (p : Nat)
  /-- UPDATE_FLOOR (R452): Blows OTP fuses to raise every floor counter to the running versions. -/
  | updateFloor (p : Nat)
  /-- TEL_VERSIONS (R253): Returns the firmware, microcode, table and chip versions. -/
  | telVersions (p : Nat)
  /-- TEL_CHANNEL (R253): Returns a stream's channel counters, optionally snapshotting or clearing. -/
  | telChannel (p : Nat)
  /-- TEL_SERVO (R253): Returns a section's servo counts, optionally clearing them. -/
  | telServo (p : Nat)
  /-- TEL_ENV (R253): Returns temperatures, supplies, speed, Tide status and operating time. -/
  | telEnv (p : Nat) (temps : List Nat)
  /-- FAULT_HISTORY (R254): Returns fault history entries, newest first. -/
  | faultHistory (p : Nat)
  /-- FAULT_REACTION (R254): Sets a source's reactions unless they are fixed. -/
  | faultReaction (p : Nat)
  /-- FAULT_INJECT (R254): Injects assertions of a fault line in factory test mode. -/
  | faultInject (p : Nat)
  /-- FAULT_CLEAR (R254): Clears the latches of a class C or U source, or of all. -/
  | faultClear (p : Nat)
  /-- ATTEST_READ (R255): Returns part of a certificate, the last quote or the last boot record. -/
  | attestRead (p : Nat)
  /-- ATTEST_QUOTE (R445): Makes a signed quote of the selected measurement registers with a nonce. -/
  | attestQuote (p : Nat)
  /-- AUTH_CHALLENGE (R232): Returns a fresh 32-byte challenge for a signed command. -/
  | authChallenge (p : Nat)
  /-- SPDM_MESSAGE (R256): Passes one SPDM message to the responder and returns its reply. -/
  | spdmMessage (p : Nat)
  /-- FACTORY_UNLOCK (R257): With the strap and a verified signature, enters factory test mode. -/
  | factoryUnlock (p : Nat)
  /-- SVC_REQUEST (R224): A service-port REQUEST copies its bytes to a slot's pair and rings it. -/
  | svcRequest (bytes : List Byte)
  /-- SVC_RESPONSE (R224): A service-port RESPONSE sends a DONE slot's response. -/
  | svcResponse (slot : Nat) (cut : Bool)
  /-- SVC_ACK (R224): A service-port ACK acknowledges a DONE slot. -/
  | svcAck (bytes : List Byte)
  /-- SVC_STATUS (R224): A service-port STATUS returns slot states, LAST_ERR and flags and clears LAST_ERR. -/
  | svcStatus (cut : Bool)
  /-- SVC_CANCEL (R224): A service-port CANCEL cancels a slot's request. -/
  | svcCancel (bytes : List Byte)
  /-- PORT_RESET (R224): A service-port PORT_RESET closes every service-port session. -/
  | portReset (bytes : List Byte)
  /-- MWQ_DB (R263): A write to a queue doorbell sets PEND. -/
  | mwqDb (q : Nat)
  /-- QUEUE_SCAN (R263): Mire scans a pending queue from HEAD, checks and accepts each owned descriptor, or completes it with a check status. -/
  | queueScan (q : Nat)
  /-- MWQ_CFG (R259): Writing EN enables a queue, resetting HEAD, or sets ENERR for a bad placement. -/
  | mwqCfg (q : Nat) (en : Bool) (log2n : Nat)
  /-- MWC_CFG (R259): Writing EN enables a completion ring, resetting PI, CI and PASS, or sets ENERR. -/
  | mwcCfg (k : Nat) (en compat irqEn : Bool) (core log2n : Nat)
  /-- DESCRIPTOR_START (R267): When a head slot can take work, Mire picks the startable descriptor by level and reach and starts it. -/
  | descriptorStart (n q slot : Nat)
  /-- READ (R262): A READ descriptor reads sectors into its buffer, running the ladder up to LADDER. -/
  | mwdRead (n : Nat)
  /-- WRITE (R262): A WRITE descriptor writes sectors from its buffer, or markers with MARKER. -/
  | mwdWrite (n : Nat)
  /-- WRITE_VERIFY (R200): A WRITE_VERIFY descriptor writes with the verify reader armed and rewrites failing sectors. -/
  | writeVerify (n : Nat)
  /-- VERIFY (R262): A VERIFY descriptor reads in MODE VERIFY and delivers nothing. -/
  | mwdVerify (n : Nat)
  /-- READ_AHEAD (R173): A READ_AHEAD descriptor fills a speculative region in MODE SPEC. -/
  | readAhead (n : Nat)
  /-- SEEK_HINT (R120): A SEEK_HINT descriptor moves a section toward a predicted target as a hint seek. -/
  | seekHint (n : Nat)
  /-- FORMAT_TRACKS (R262): A FORMAT_TRACKS descriptor writes every sector of its tracks with zero data and verifies them. -/
  | formatTracks (n : Nat)
  /-- ERASE_BAND (R262): An ERASE_BAND descriptor holds the write gate on the erase pattern over its tracks. -/
  | eraseBand (n : Nat)
  /-- FENCE (R269): A FENCE completes when every earlier descriptor of its queue has completed. -/
  | mwdFence (q slot : Nat)
  /-- BARRIER (R270): A BARRIER completes when every earlier descriptor of its section has completed. -/
  | mwdBarrier (q slot : Nat)
  /-- HINT_TIMEOUT (R120): No scanned descriptor claims a hint's target by its MANG plus one revolution, so Aqsia abandons it. -/
  | hintTimeout (k : Nat)
  /-- MWC_CI (R274): Firmware writes CI to consume records, spilled records move into the ring and SCAN_STOP may clear, or CI_ERR sets. -/
  | mwcCi (k ci : Nat)
  /-- MWQ_CANCEL (R279): Firmware names a queue and slot, and Mire cancels the descriptor by its state and sets RESULT. -/
  | mwqCancel (q slot : Nat)
  /-- AQSIA_BOOT (R478): Mire runs after release, commits counters, answers the mailbox pairs, walks the queues, loads Reed and sets AQSIA_UP. -/
  | aqsiaBoot (cal : MotorCal)
  /-- SQ_DOORBELL (R288): A host write to a submission-queue tail doorbell updates the tail. -/
  | sqDoorbell (k q tail : Nat)
  /-- CQ_DOORBELL (R300): A host write to a completion-queue head doorbell frees entries for waiting completions. -/
  | cqDoorbell (k q head : Nat)
  /-- COMMAND_FETCH (R288): Staithe fetches a submission entry into a free context and gives it the next SEQ. -/
  | commandFetch (x : Nat) (cmd : HostCommand)
  /-- ADMISSION (R296): A WAITING command takes its lock entries and reservation in one cycle and is pushed to Fen. -/
  | admission
  /-- ADMISSION_AGE (R296): The oldest WAITING command has waited AGE ms, so no later command needing the same resource is admitted first. -/
  | admissionAge
  /-- STH_CPL (R300): Firmware completes a context, releasing its locks, or the write is refused with CPL_ERR. -/
  | sthCpl (who : Who) (core ctx status : Nat)
  /-- COMPLETION_POST (R300): Staithe posts a completion entry to the completion queue and frees the context. -/
  | completionPost (ctx size : Nat)
  /-- STH_CTX_END (R303): Firmware ends a context of a resetting controller or during quiesce with a fate and reason. -/
  | sthCtxEnd (who : Who) (fate reason ctx : Nat)
  /-- STH_ZA_SET (R298): Firmware assigns a Zone Append's starting LBA, or the write is ignored with ZA_ERR. -/
  | sthZaSet (ctx : Nat)
  /-- STH_FATE_SET (R306): Firmware resolves an unresolved fate record. -/
  | sthFateSet (fate reason index : Nat)
  /-- STH_FATE_CLR (R309): Firmware clears a controller's fate records. -/
  | sthFateClr (k : Nat)
  /-- FATE_DATA_READ (R314): A read of STH_FATE_DATA(3) advances INDEX. -/
  | fateDataRead
  /-- STH_NEW_READ (R314): A read of STH_NEW removes the oldest notification. -/
  | sthNewRead (core : Nat)
  /-- FLUSH_READY (R302): Every earlier write of a Flush's namespace has ended, so the context is pushed a second time. -/
  | flushReady (ctx : Nat)
  /-- CONTROLLER_RESET (R303): A controller reset stops fetching, ends waiting contexts as not started and sets RST_PEND. -/
  | controllerReset (why : CtlReset)
  /-- QUIESCE (R304): Setting QUIESCE stops fetching on every controller until it is cleared. -/
  | quiesce (set : Bool)
  /-- IDLE_EXPIRED (R311): The idle counter reaches a threshold, EXPIRED sets and Fen is interrupted. -/
  | idleExpired (i : Nat)
  /-- CFG_RDY (R476): Fen sets CFG_RDY and the ports serve configuration requests. -/
  | cfgRdy
  /-- PERST (R476): PERST# on a port changes, resetting its controllers or starting link training. -/
  | perst (port : Nat) (asserted : Bool)
  /-- LINK_UP (R476): A port's link reaches L0. -/
  | linkUp (port : Nat)
  /-- DRAM_TRAINED (R315): Both DRAM channels finish training and TRAINED sets. -/
  | dramTrained
  /-- LEDGER_FILLED (R318): The last byte of an entry's run is written and the entry becomes HELD with LEDGERED set. -/
  | ledgerFilled (entry : Nat) (data : List Byte)
  /-- SLU_LED_REL (R320): Firmware releases a CLEAN ledger entry, returning units and credits, or REL_ERR sets. -/
  | sluLedRel (entry : Nat)
  /-- SLU_LED_FILL (R513): Firmware reports a Copy's destination units filled and the entry becomes HELD. -/
  | sluLedFill (ctx : Nat)
  /-- LED_DATA_READ (R339): A read of SLU_LED_DATA(3) advances INDEX. -/
  | ledDataRead
  /-- SET (R326): Region command SET arms a FREE speculative region. -/
  | regionSet (region : Nat)
  /-- DISCARD (R326): Region command DISCARD discards an armed, filling or valid region. -/
  | regionDiscard (region : Nat)
  /-- LOOKUP (R326): Region command LOOKUP finds the best region for a range and pins it on a full hit. -/
  | regionLookup
  /-- UNPIN (R326): Region command UNPIN decrements a region's pin count. -/
  | regionUnpin (region : Nat)
  /-- REGION_TTL_EXPIRE (R327): An unpinned VALID region reaches TTL without a full hit and is discarded as a miss. -/
  | regionTtlExpire (region : Nat)
  /-- LOAD (R330): Writing LOAD loads a key pair into a slot. -/
  | keyLoad (slot : Nat)
  /-- ZERO (R330): Writing ZERO zeroizes a key slot. -/
  | keyZero (slot : Nat)
  /-- KEY_TAKE_EFFECT (R330): A pending key load or zeroization takes effect between data units and BUSY clears. -/
  | keyTakeEffect
  /-- COMMIT (R337): Writing CSW_CTRL.COMMIT sets COMMIT_PEND. -/
  | cswCommit
  /-- FRAME_BOUNDARY (R337): At a frame boundary with a pending commit, Causeway checks and copies the shadow tables or sets COMMIT_ERR. -/
  | frameBoundary (asks : List SlotAsk)
  /-- CSW_HOG (R336): A grant outlasts LIMIT cycles and is cut off with a bus error and a class C fault. -/
  | cswHog (r transfer : Nat)
  /-- START (R354): Writing START in IDLE starts a Lode channel at HEAD, or sets CMD_ERR. -/
  | lodeStart (who : Who) (c : Nat)
  /-- STOP (R354): Writing STOP drains the channel and ends its descriptor BAD with ERR 4. -/
  | lodeStop (who : Who) (c : Nat) (pause : Bool)
  /-- PAUSE (R353): Writing PAUSE halts or resumes a channel at the exact next byte. -/
  | lodePause (who : Who) (c : Nat) (set : Bool)
  /-- PAUSED (R353): A pausing channel has written the data already read and reaches PAUSED. -/
  | lodePaused (c k : Nat) (data : List Byte)
  /-- LODE_DESCRIPTOR_LOAD (R346): A channel loads and checks a descriptor, marking it BAD with BADDESC where it is invalid. -/
  | lodeDescriptorLoad (c : Nat) (host : Option HostDescriptor)
  /-- LODE_DESCRIPTOR_DONE (R347): A descriptor's last write completes, so the channel reads LINK, continues or goes IDLE, and writes STATUS. -/
  | lodeDescriptorDone (c : Nat) (data : List Byte)
  /-- LODE_BUS_ERR (R352): A data bus error ends the descriptor BAD and the chain continues. -/
  | lodeBusErr (c k : Nat) (write : Bool) (data : List Byte)
  /-- REQUEST_COMMIT (R350): A paced channel samples its request line high and commits to one burst. -/
  | requestCommit (c lines k : Nat) (late : Bool) (data : List Byte)
  /-- CARR_LOAD (R364): A Fen load in the map window hits, or misses and fills a line. -/
  | carrLoad (core addr size : Nat)
  /-- CARR_STORE (R364): A Fen store in the map window updates a hit line and enters the posted-write buffer. -/
  | carrStore (core addr : Nat) (data : List Byte)
  /-- CARR_AMO (R361): A Fen AMO, LR or SC in the map window executes atomically on its line. -/
  | carrAmo (core addr size : Nat) (op : AmoOp) (operand : Nat)
  /-- LINE_FILL (R366): A fill completes and installs the line merged with accepted stores. -/
  | lineFill (line : Nat)
  /-- PWB_DRAIN (R365): The oldest posted-write entry is written to DRAM, which can complete a drain to OFF. -/
  | pwbDrain (cycles : Nat)
  /-- CARR_ENABLE (R368): Writing EN = 1 in OFF turns Carr on for a valid window, or sets CFG_ERR. -/
  | carrEnable
  /-- CARR_DISABLE (R368): Writing EN = 0 in ON starts draining. -/
  | carrDisable
  /-- STAT_SNAP (R374): Writing STAT_SNAP copies Carr's counters to the snapshot. -/
  | statSnap (clear : Bool)
  /-- STAT_CLEAR (R374): Writing STAT_CLEAR zeroes Carr's counters. -/
  | statClear
  /-- PRELOAD (R370): Fills a range of lines into a chosen way. -/
  | preload (way : Nat)
  /-- INV_RANGE (R370): Invalidates every copy of a range of lines. -/
  | invRange
  /-- INV_ALL (R370): Invalidates every line of the cache. -/
  | invAll
  /-- CARR_OP_DONE (R370): A maintenance operation processes its last line or set and BUSY clears. -/
  | carrOpDone
  /-- SRAM_READ (R377): An SRAM word is read and checked, correcting single errors or returning a bus error. -/
  | sramRead (region offset : Nat) (error : SramError) (word : SramWord) (write : Option (List (Option Byte)))
  /-- DRAM_READ (R381): A DRAM block is read and checked, correcting, poisoning or reporting a poisoned block. -/
  | dramRead (owner addr : Nat) (error : DramError)
  /-- PARTIAL_WRITE (R382): The controller's merge queue reads, merges and writes a partially written block. -/
  | partialWrite (owner addr : Nat) (bytes : List (Option Byte)) (error : DramError)
  /-- SCRUB_GO (R389): Writing GO starts a scrub run over a range, or sets ERR. -/
  | scrubGo
  /-- SCRUB_STOP (R389): Writing STOP ends the scrub run as STOPPED. -/
  | scrubStop
  /-- SCRUB_DONE (R389): The scrubber reaches the end of its range. -/
  | scrubDone
  /-- SLU_PM_ACK (R386): Firmware removes a poison map record. -/
  | sluPmAck (index : Nat)
  /-- PM_DATA_READ (R391): A read of SLU_PM_DATA_HI advances INDEX. -/
  | pmDataRead
  /-- FAULT_RECORD (R414): A fault line asserts and Levee records it, takes its reactions and interrupts Mire, or coalesces it. -/
  | faultRecord (source inst detail : Nat)
  /-- LEV_HEARTBEAT (R420): Mire writes a heartbeat, arming the watchdog and allowing ALIVE to run. -/
  | levHeartbeat (who : Who)
  /-- LEV_MIRE_WDOG (R420): No heartbeat arrives for TIMEOUT ms, so the class F watchdog fires. -/
  | levMireWdog
  /-- LEV_CLR (R418): A write to LEV_CLR clears class C and U latches. -/
  | levClr (who : Who) (all : Bool) (source inst : Nat)
  /-- LEV_INJ (R425): In factory test mode, a write to LEV_INJ injects assertions of a line. -/
  | levInj (who : Who) (source inst count : Nat)
  /-- INJECT_ASSERT (R425): Each further injected assertion follows 1 ms after the previous one. -/
  | injectAssert
  /-- BOOT_ROM (R439): At each reset the Dyke core runs the boot ROM, verifies and measures the images and releases Mire and Fen. -/
  | bootRom (found : BootFound)
  /-- TRIAL_CONFIRM (R441): AQSIA_UP is set and a class 0 session opens during a trial, so the pointer is written CONFIRMED. -/
  | trialConfirm
  /-- TRIAL_TIMEOUT (R442): A trial has not completed 60 s after its reset, so Dyke requests a warm reset. -/
  | trialTimeout
  /-- BOOT_RECORD (R443): Dyke appends the signed boot record to Peat's boot stream. -/
  | bootRecord
  /-- DYKE_MR_EXT (R435): Mire writes GO to extend MR10–MR15 with a value, or sets ERR. -/
  | dykeMrExt (who : Who) (reg : Nat)
  /-- RECORD_STAGE (R461): A record enters Peat staging, stamped or held, or is lost for lack of room. -/
  | recordStage (stream type_ : Nat) (body : List Byte)
  /-- PEAT_FLUSH_TIMER (R461): 60 s after the previous flush began, Peat starts a flush. -/
  | peatFlushTimer
  /-- FLUSH (R461): Writing PEAT_CTRL.FLUSH starts a flush. -/
  | peatFlush
  /-- PEAT_FLUSH_DONE (R461): A flush's chain records are programmed and read back, and the covered records are released. -/
  | peatFlushDone
  /-- PEAT_NOR_FAIL (R471): A page program or erase fails twice, so Peat abandons the block and continues in the next. -/
  | peatNorFail (area : Nat)
  /-- PEAT_PCC (R465): Aqsia writes the power-cycle count, committing the lock, and unstamped records are stamped. -/
  | peatPcc (count : Nat)
  /-- PEAT_CUR (R466): Writing PEAT_CUR starts loading the 4 KiB window from a frozen area. -/
  | peatCur (offset : Nat)
  /-- WINDOW_VALID (R466): The window load completes and VALID sets. -/
  | windowValid
  /-- PREAMP_DISCOVERY (R479): Aqsia releases each preamplifier link and finds it, retrying once. -/
  | preampDiscovery (l : Nat) (ident : Option (List Nat))
  /-- PL_WRITE_FRAME (R501): A WRITE frame sets a preamplifier register. -/
  | plWriteFrame (l head addr data : Nat)
  /-- PL_READ_FRAME (R501): A READ frame reads a preamplifier register. -/
  | plReadFrame (l head addr : Nat)
  /-- PL_RESPONSE (R501): A preamplifier's response frame arrives on DI. -/
  | plResponse (l : Nat) (frame : Nat)
  /-- PL_TIMEOUT (R502): No valid response arrives within 64 bit times, so the frame is sent again or the link fails. -/
  | plTimeout (l : Nat)
  /-- PREAMP_FAULT (R503): PL_FLT_N falls, Mire reads the fault and ends the section's operations. -/
  | preampFault (l : Nat) (kill : Bool)
  /-- SPINDLE_START (R480): Once the chopper is tested and KE_NOM is loaded, Aqsia starts the spindle, handling start faults. -/
  | spindleStart (emf : Nat)
  /-- HEAD_LOAD (R482): Aqsia loads each section 150 ms after the previous one, retrying failures, and sets RESULT. -/
  | headLoad (lock : Option Nat)
  /-- BAND_CHECK (R485): After a commit, Aqsia verifies each flushed band extent and rewrites unrecovered sectors as markers. -/
  | bandCheck (k : Nat)
  /-- CONFIGURATION_REQUEST (R476): A host configuration request reaches a port and is answered with Configuration Request Retry Status until CFG_RDY is set, and served afterwards. -/
  | configurationRequest (port fn : Nat) (field : ConfigField) (value : Option Nat)
  /-- CONTROLLER_REGISTER_WRITE (R478): A host memory write to a function's NVMe controller registers, such as CC.EN = 1, takes effect, or is dropped while the port answers with CRS. -/
  | controllerRegisterWrite (k offset : Nat) (value : Option Nat)
  /-- STH_LINK_DOWN (R413): A port's PCIe link goes down; the port reports it under AER and the LINK bit of STH_BOOT clears. -/
  | sthLinkDown (port : Nat)
  /-- VAON_LOST (R408): VAON falls below its level, the always-on domain loses its content, and WEIR_AON_STATUS and WEIR_AON_CNT return to their values at VAON power-up. -/
  | vaonLost
  /-- ALIVE_TOGGLE (R420): While ALIVE runs, its own 500 µs CK_SLOW timer expires and the ALIVE output toggles. -/
  | aliveToggle
  /-- SVC_UNKNOWN_OPCODE (R225): A service-port transaction with an unknown opcode is discarded and sets LAST_ERR to 2. -/
  | svcUnknownOpcode
  /-- MOVER_SECTOR_DONE (R325): A stream mover completes one sector's move between the descriptor buffer and stream staging; READY advances, or the read sector's staging is freed. -/
  | moverSectorDone (n : Nat)
deriving DecidableEq, Repr, Inhabited

end Sys2Proof
end

