-- ==== Sys2Proof/WellFormed.lean ====
section
/-! DEFINITION. The operands that a command may carry: streams 0–7, Fen cores 0–7, sections 0–3, and so on. The meanings are
total; a command that is not well formed names nothing of the machine. -/

namespace Sys2Proof

/-- A Fen core is numbered 0–7 (R14). -/
def Who.wf : Who → Bool
  | .fen core => decide (core < 8)
  | .mire => true

/-- The operands lie in the ranges that the spec gives them. -/
def Instr.wf : Instr → Bool
  | .registerWrite who addr width _ => who.wf && decide (addr < 4294967296) && (width == 1 || width == 2 || width == 4 || width == 8)
  | .powerOn _ _ => true
  | .weirRetry _ _ => true
  | .supplyLoss => true
  | .weirRegFault => true
  | .warnArm _ => true
  | .powerFailWarning _ => true
  | .pfCancel _ => true
  | .powerFailCommit _ => true
  | .fenClockStop => true
  | .powerFailFlush => true
  | .flushEntryDone n entry => decide (n < 8) && decide (entry ≤ 32768)
  | .pfDone => true
  | .weirPfLate => true
  | .pfBudget => true
  | .pfEnd _ => true
  | .isoDiodeOff _ _ => true
  | .chopOn _ => true
  | .chopTest _ _ => true
  | .weirChopOpen => true
  | .weirChopShort _ => true
  | .weirOvIn _ => true
  | .weirOvBus _ => true
  | .weirV5Low _ => true
  | .weirMinV12Read who => who.wf
  | .warmReset => true
  | .levResetWarm who => who.wf
  | .blockReset sub => decide ((sub == 6 || sub == 7 || sub == 11 || sub == 12))
  | .blockResetEnd sub => decide ((sub == 6 || sub == 7 || sub == 11 || sub == 12))
  | .rootLock => true
  | .tideRootUnlock => true
  | .tideCgEn i _ => decide (i < 4)
  | .acqStart => true
  | .indexMark _ _ _ _ => true
  | .tideAcqFail => true
  | .tideHeadLost _ => true
  | .tideTimingLost stalls => decide (stalls < 16)
  | .encSyncOutRise _ => true
  | .encSyncOutFall _ => true
  | .encSyncInEdge _ _ _ => true
  | .esiEdgeTimeout => true
  | .esiPhaseSuspend => true
  | .tideOptLo _ => true
  | .tideOptLoRead who => who.wf
  | .innerLoopTick _ => true
  | .shockLift => true
  | .pesDemod n _ => decide (n < 8)
  | .tusPesLost n => decide (n < 8)
  | .tusNumSat k => decide (k < 4)
  | .winhLift n => decide (n < 8)
  | .seekSettled k => decide (k < 4)
  | .reload k => decide (k < 4)
  | .regionFetchDone k => decide (k < 4)
  | .xcCommit => true
  | .capGo k => decide (k < 4)
  | .seekGo k _ _ => decide (k < 4)
  | .seekAbandon k => decide (k < 4)
  | .runStart => true
  | .runStop => true
  | .stopProceed => true
  | .clrFault _ => true
  | .observeEnd _ _ _ => true
  | .alignSecondAngle => true
  | .alignEnd => true
  | .rampReached => true
  | .handover _ => true
  | .handoverFail => true
  | .handoverObserveEnd _ _ _ => true
  | .brakeRest => true
  | .wthBrakeTimeout => true
  | .focPeriod _ _ _ _ => true
  | .keCheckStart => true
  | .keCheckEnd _ _ => true
  | .wthSpeedLimited => true
  | .wthSpnOc => true
  | .wthChopFail _ => true
  | .holdCollapse _ => true
  | .wthVcmOc k => decide (k < 4)
  | .wthMaOc n => decide (n < 8)
  | .wthGdUvlo => true
  | .wthHbLoss => true
  | .retractGo mask => decide (mask < 16)
  | .retractLowBus _ => true
  | .retractStall k => decide (k < 4)
  | .wthRetTimeout k => decide (k < 4)
  | .retractEnd k => decide (k < 4)
  | .park k => decide (k < 4)
  | .vcmEnable k => decide (k < 4)
  | .maHold n _ => decide (n < 8)
  | .reedGo n => decide (n < 8)
  | .reedKill n => decide (n < 8)
  | .reedRestart n => decide (n < 8)
  | .reedAbort n _ => decide (n < 8)
  | .restartEvent n => decide (n < 8)
  | .wait n => decide (n < 8)
  | .waitc n => decide (n < 8)
  | .waita n _ => decide (n < 8)
  | .gate n _ _ => decide (n < 8)
  | .sync n _ _ => decide (n < 8)
  | .syncWindowClose n _ => decide (n < 8)
  | .markDetected n _ _ => decide (n < 8)
  | .xfer n _ _ => decide (n < 8)
  | .skipw n _ => decide (n < 8)
  | .mark n => decide (n < 8)
  | .jmp n => decide (n < 8)
  | .jcc n => decide (n < 8)
  | .call n => decide (n < 8)
  | .ret n => decide (n < 8)
  | .ldi n => decide (n < 8)
  | .microAdd n => decide (n < 8)
  | .microSub n => decide (n < 8)
  | .microCmp n => decide (n < 8)
  | .emit n => decide (n < 8)
  | .microEnd n => decide (n < 8)
  | .illegalMicroword n => decide (n < 8)
  | .waitTimeout n => decide (n < 8)
  | .protectedSpanStart n _ _ => decide (n < 8)
  | .operationEnd n => decide (n < 8)
  | .csWrite _ => true
  | .csRead who => who.wf
  | .reedEventRead who n => who.wf && decide (n < 8)
  | .sectorDecode n => decide (n < 8)
  | .alignRetry n slot _ _ => decide (n < 8) && decide (slot < 8)
  | .sectorOverrun n => decide (n < 8)
  | .thermalAsperity n _ _ _ _ => decide (n < 8)
  | .dropout n _ _ _ _ => decide (n < 8)
  | .resultRead who n => who.wf && decide (n < 8)
  | .telSnap _ => true
  | .telClear => true
  | .coefWrite n _ => decide (n < 8)
  | .coefRead who n => who.wf && decide (n < 8)
  | .verifyOutcome n _ => decide (n < 8)
  | .vfyResultRead who n => who.wf && decide (n < 8)
  | .ladderStep n => decide (n < 8)
  | .mbxRing who p => who.wf && decide (p < 64)
  | .mbxAck who p => who.wf && decide (p < 64)
  | .mbxCancel who p => who.wf && decide (p < 64)
  | .requestStart _ => true
  | .sessionIdleTimeout _ => true
  | .sessionOpen p => decide (p < 64)
  | .sessionClose p => decide (p < 64)
  | .sessionPing p => decide (p < 64)
  | .spindleSet p => decide (p < 64)
  | .spindleStatus p => decide (p < 64)
  | .sectionLoad p _ => decide (p < 64)
  | .sectionPark p stalls => decide (p < 64) && decide (stalls < 16)
  | .retract p => decide (p < 64)
  | .motorClear p _ => decide (p < 64)
  | .sectionStatus p => decide (p < 64)
  | .encSyncSet p => decide (p < 64)
  | .servoReload p => decide (p < 64)
  | .servoRegionWrite p => decide (p < 64)
  | .servoLimits p => decide (p < 64)
  | .servoCoupling p => decide (p < 64)
  | .servoCapture p => decide (p < 64)
  | .zoneInfo p => decide (p < 64)
  | .channelAdapt p => decide (p < 64)
  | .channelCal p _ => decide (p < 64)
  | .preampInfo p => decide (p < 64)
  | .fprogBegin p => decide (p < 64)
  | .fprogData p => decide (p < 64)
  | .fprogCommit p _ => decide (p < 64)
  | .fprogBind p _ => decide (p < 64)
  | .fprogDelete p _ => decide (p < 64)
  | .fprogList p => decide (p < 64)
  | .powerStateSet p _ stalls => decide (p < 64) && decide (stalls < 16)
  | .powerStatus p _ => decide (p < 64)
  | .fenGate p => decide (p < 64)
  | .peatAppend p => decide (p < 64)
  | .peatFreeze p => decide (p < 64)
  | .peatRead p => decide (p < 64)
  | .peatRelease p => decide (p < 64)
  | .peatClear p _ => decide (p < 64)
  | .aqPeatFlush p _ => decide (p < 64)
  | .updateBegin p _ => decide (p < 64)
  | .updateData p _ => decide (p < 64)
  | .updateApply p _ => decide (p < 64)
  | .updateActivate p _ => decide (p < 64)
  | .updateStatus p => decide (p < 64)
  | .updateAbort p => decide (p < 64)
  | .updateFloor p => decide (p < 64)
  | .telVersions p => decide (p < 64)
  | .telChannel p => decide (p < 64)
  | .telServo p => decide (p < 64)
  | .telEnv p _ => decide (p < 64)
  | .faultHistory p => decide (p < 64)
  | .faultReaction p => decide (p < 64)
  | .faultInject p => decide (p < 64)
  | .faultClear p => decide (p < 64)
  | .attestRead p => decide (p < 64)
  | .attestQuote p => decide (p < 64)
  | .authChallenge p => decide (p < 64)
  | .spdmMessage p => decide (p < 64)
  | .factoryUnlock p => decide (p < 64)
  | .svcRequest _ => true
  | .svcResponse slot _ => decide (slot < 256)
  | .svcAck _ => true
  | .svcStatus _ => true
  | .svcCancel _ => true
  | .portReset _ => true
  | .mwqDb q => decide (q < 16)
  | .queueScan q => decide (q < 16)
  | .mwqCfg q _ log2n => decide (q < 16) && decide (log2n < 16)
  | .mwcCfg k _ _ _ core log2n => decide (k < 4) && decide (core < 8) && decide (log2n < 16)
  | .descriptorStart n q slot => decide (n < 8) && decide (q < 18) && decide (slot < 4096)
  | .mwdRead n => decide (n < 8)
  | .mwdWrite n => decide (n < 8)
  | .writeVerify n => decide (n < 8)
  | .mwdVerify n => decide (n < 8)
  | .readAhead n => decide (n < 8)
  | .seekHint n => decide (n < 8)
  | .formatTracks n => decide (n < 8)
  | .eraseBand n => decide (n < 8)
  | .mwdFence q slot => decide (q < 16) && decide (slot < 4096)
  | .mwdBarrier q slot => decide (q < 16) && decide (slot < 4096)
  | .hintTimeout k => decide (k < 4)
  | .mwcCi k ci => decide (k < 4) && decide (ci < 4096)
  | .mwqCancel q slot => decide (q < 32) && decide (slot < 4096)
  | .aqsiaBoot _ => true
  | .sqDoorbell k q _ => decide (k < 32) && decide (q < 65536)
  | .cqDoorbell k q _ => decide (k < 32) && decide (q < 65536)
  | .commandFetch x cmd => decide (x < 4096) && decide (cmd.cntlid < 32) && decide (cmd.size ≤ 4096)
  | .admission => true
  | .admissionAge => true
  | .sthCpl who core ctx status => who.wf && decide (core < 8) && decide (ctx < 4096) && decide (status < 32768)
  | .completionPost ctx size => decide (ctx < 4096) && decide (size ≤ 4096)
  | .sthCtxEnd who fate reason ctx => who.wf && decide (fate < 4) && decide (reason < 256) && decide (ctx < 4096)
  | .sthZaSet ctx => decide (ctx < 4096)
  | .sthFateSet fate reason index => decide (fate < 4) && decide (reason < 256) && decide (index < 8192)
  | .sthFateClr k => decide (k < 32)
  | .fateDataRead => true
  | .sthNewRead core => decide (core < 8)
  | .flushReady ctx => decide (ctx < 4096)
  | .controllerReset _ => true
  | .quiesce _ => true
  | .idleExpired i => decide (i < 5)
  | .cfgRdy => true
  | .perst port _ => decide (port < 2)
  | .linkUp port => decide (port < 2)
  | .dramTrained => true
  | .ledgerFilled entry _ => decide (entry < 32768)
  | .sluLedRel entry => decide (entry < 32768)
  | .sluLedFill ctx => decide (ctx < 4096)
  | .ledDataRead => true
  | .regionSet region => decide (region < 512)
  | .regionDiscard region => decide (region < 512)
  | .regionLookup => true
  | .regionUnpin region => decide (region < 512)
  | .regionTtlExpire region => decide (region < 512)
  | .keyLoad slot => decide (slot < 64)
  | .keyZero slot => decide (slot < 64)
  | .keyTakeEffect => true
  | .cswCommit => true
  | .frameBoundary asks => asks.all (fun a => decide (a.target < 3) && decide (a.slot < 256))
  | .cswHog r transfer => decide (r < 16) && decide (transfer < 17)
  | .lodeStart who c => who.wf && decide (c < 32)
  | .lodeStop who c _ => who.wf && decide (c < 32)
  | .lodePause who c _ => who.wf && decide (c < 32)
  | .lodePaused c k _ => decide (c < 32) && decide (k ≤ 1024)
  | .lodeDescriptorLoad c _ => decide (c < 32)
  | .lodeDescriptorDone c _ => decide (c < 32)
  | .lodeBusErr c k _ _ => decide (c < 32) && decide (k < 16777216)
  | .requestCommit c lines k _ _ => decide (c < 32) && decide (lines < 65536) && decide (k ≤ 4096)
  | .carrLoad core _ _ => decide (core < 8)
  | .carrStore core _ _ => decide (core < 8)
  | .carrAmo core _ _ _ _ => decide (core < 8)
  | .lineFill _ => true
  | .pwbDrain _ => true
  | .carrEnable => true
  | .carrDisable => true
  | .statSnap _ => true
  | .statClear => true
  | .preload way => decide (way < 16)
  | .invRange => true
  | .invAll => true
  | .carrOpDone => true
  | .sramRead region offset _ _ _ => decide (region < 12) && decide (offset < 16777216)
  | .dramRead _ _ _ => true
  | .partialWrite _ _ _ _ => true
  | .scrubGo => true
  | .scrubStop => true
  | .scrubDone => true
  | .sluPmAck index => decide (index < 1024)
  | .pmDataRead => true
  | .faultRecord source inst _ => decide (source < 65536) && decide (inst < 256)
  | .levHeartbeat who => who.wf
  | .levMireWdog => true
  | .levClr who _ source inst => who.wf && decide (source < 65536) && decide (inst < 256)
  | .levInj who source inst count => who.wf && decide (source < 65536) && decide (inst < 256) && decide (count < 256)
  | .injectAssert => true
  | .bootRom _ => true
  | .trialConfirm => true
  | .trialTimeout => true
  | .bootRecord => true
  | .dykeMrExt who reg => who.wf && decide (reg < 16)
  | .recordStage stream _ _ => decide (stream < 5)
  | .peatFlushTimer => true
  | .peatFlush => true
  | .peatFlushDone => true
  | .peatNorFail area => decide (area < 10)
  | .peatPcc count => decide (count < 4294967296)
  | .peatCur offset => decide (offset < 4294967296)
  | .windowValid => true
  | .preampDiscovery l _ => decide (l < 5)
  | .plWriteFrame l _ _ _ => decide (l < 5)
  | .plReadFrame l _ _ => decide (l < 5)
  | .plResponse l _ => decide (l < 5)
  | .plTimeout l => decide (l < 5)
  | .preampFault l _ => decide (l < 5)
  | .spindleStart _ => true
  | .headLoad _ => true
  | .bandCheck k => decide (k < 4)
  | .configurationRequest port fn _ _ => decide (port < 2) && decide (fn < 16)
  | .controllerRegisterWrite k _ _ => decide (k < 32)
  | .sthLinkDown port => decide (port < 2)
  | .vaonLost => true
  | .aliveToggle => true
  | .svcUnknownOpcode => true
  | .moverSectorDone n => decide (n < 8)

end Sys2Proof
end

