-- ==== Sys2Proof/Decode.lean ====
section
/-! DEFINITION. The words that spell a command: NO row of the table gives its command any bits (a command is an access, an
operation or an event, and comes from outside), so no word spells one and there is nothing to encode. -/

namespace Sys2Proof

/-- The command that a word spells by the table's bits: none, since no row gives bits. -/
def decodeTableWord (_nbits _w : Nat) : Option Instr := none

end Sys2Proof
end

