-- ==== Sys2Proof/Config.lean ====
section
/-! DEFINITION. What the spec leaves open: constants without a body, so that no proof can see a value. Each free value is applied to the
count of free values drawn so far (State.drawn). -/

namespace Sys2Proof.Config

/-- The n-th value that the spec leaves open and gives no bound but its width. -/
opaque freeValue : Nat → Nat

/-- A zone of a surface, as the CHAN part gives it and ZONE_INFO reports it (R240): tracks, TIDE_ST_CBPC, code C, META, sectors per
track; the first gate point of a track in MANG units from OFS + SLIP, and what Aqsia passes in G4–G6 (R129, R512). -/
structure ZoneRow where
  first : Nat := 0
  last : Nat := 0
  cbpc : Nat := 0
  c : Nat := 0
  meta_ : Nat := 0
  sectors : Nat := 0
  gate : Nat := 0
  pre : Nat := 0
  resync : Nat := 0
  gap : Nat := 0
deriving DecidableEq, Repr, Inhabited

/-- The zones of a surface in the CHAN part of the given version (R240, R434): the content of the part is no rule's. -/
opaque zones (chan surface : Nat) : List ZoneRow

/-- A stream's band extent (R485): its surface, its first track and its tracks, which lie in one zone (DESIGN CHOICE: the band map's
content is no rule's). -/
structure Band where
  surface : Nat := 0
  first : Nat := 0
  tracks : Nat := 0
deriving DecidableEq, Repr, Inhabited

/-- The band map of the CHAN part of the given version (R485): the extent of stream n. -/
opaque band (chan n : Nat) : Band

/-- The staging threshold of the base program for a media opcode (R244). -/
opaque baseThresh (opcode : Nat) : Nat

/-- The q-axis current in mA, taken from the spindle, that holds the holdup bus at a set-point (unit 10 mV) while it reads a voltage in mV
(R74): no rule gives the law. -/
opaque holdCurrent (vset vhb : Nat) : Nat

/-- The timing loop (R39, R104): from Tide's state, BW_SEL, the cell period, the mean phase error in 1/4,096 cell and its states, the rate
step of the MANG interpolator and the states. Its coefficients are in a ROM that no rule gives. -/
opaque timingLoop (state bw period : Nat) (error : Int) (states : List Int) : Int × List Int

/-- Bit `i` of the parity of a codeword, from C, META and the information part (R159): the codes are in a ROM that no rule gives. -/
opaque parity (c m : Nat) (info : List Bool) (i : Nat) : Bool

/-- The code of C and META (R159), which is in a ROM that no rule gives: for each layer of 128 checks the circulants that are not zero, by
block column and shift. -/
opaque codeMatrix (c m : Nat) : List (List (Nat × Nat))

/-- The 16-tap interpolator (R152): one sample under a fractional delay in 1/64 bit from the sixteen about it. Its taps are no
rule's. -/
opaque interpolate (delay : Int) (samples : List Int) : Int

/-- The decision-directed phase loop (R153): the trim in 1/64 bit that it gives at each of some bits, from the trim that it starts at, the
equalizer's weights and the readers' samples. No rule gives its gain. -/
opaque phaseTrack (weights : List Int) (trim : Int) (samples : List Sample) : List Int

/-- The metric of a branch of the detector (R158), w² / var + log var in 1/256, from w in 2^-15 code and LOGVAR: no rule gives the
precision of the metrics. -/
opaque branchMetric (w : Int) (logvar : Nat) : Int

/-- The twelve taps in 1/256 of the checker's equalizer, to the target TSCALE, G1, G2, G3 (R196): no rule gives them. -/
opaque vfyTaps (target : List Int) : List Int

/-- The bits that the defect detectors mark in some samples (R163), in rising order, from THR, LEN, PRE and POST of a thermal asperity,
THR, LEN and PAD of a dropout, and AGC_TGT: no rule gives the low-frequency content and the envelope that they measure. -/
opaque defects (settings : List Nat) (samples : List Sample) : List Nat

/-- The high-pass corner in Hz of a setting at a bit rate in Hz (R152): no rule says how it is rescaled. -/
opaque corner (setting rate : Nat) : Nat

/-- What calibration of a surface and zone gave in manufacture (R240): item 0 ADV, 1 DLY, 2 VAMP_CAL, 3 to 10 the shifts of
SDG_WPC, 11 to 26 the scales of SDG_WPC_ANG, 27 to 386 the weights of the five equalizer sets, 387 TIDE_ST_PHASE (R42). -/
opaque calibration (surface zone item : Nat) : Nat

/-- CAP bits 63:32 of controller k (R287): what no rule fixes, Fen firmware advertises. -/
opaque capHigh (k : Nat) : BitVec 32

/-! ### Secrets, certificates and SPDM replies (R429, R432, R446) -/

/-- The unique device secret in OTP (R429). -/
opaque uds : List Byte

/-- UID in OTP, which the chip's maker wrote (R429): word k of DYKE_UID. -/
opaque uid (k : Nat) : BitVec 32

/-- CERT0_SIG in OTP (R429). -/
opaque cert0Sig : List Byte

/-- The version of the boot ROM, which MR0 measures (R434). -/
opaque romVersion : List Byte

/-- Broeno's public key, whose hash the boot ROM holds (R436). -/
opaque broenoKey : List Byte

/-- The certificate of a layer from the seed of the layer's key, the seed that signs it and what it carries (R432): no rule gives its
bytes. -/
opaque certificate (layer : Nat) (seed issuer : BitVec 384) (carried : List Byte) (n : Nat) : List Byte

/-- The reply of the SPDM 1.2 responder (R256, R446) to the last of a connection's messages, from the certificates, the measurement
registers and the seed of the key that signs. -/
opaque spdmReply (messages certs mrs : List (List Byte)) (seed : BitVec 384) (n : Nat) : List Byte

end Sys2Proof.Config
end

