-- ==== Sys2Proof/Machine/Fields.lean ====
section
/-! DEFINITION. The name of every field of every control register, at its address and bits, from the field tables of spec/
(the rule that gives each register stands at its first field). An indexed register takes its index, or its two, as arguments; an index past the
last register of a family starts over at its first, so that no field lies outside its family. -/

namespace Sys2Proof.Machine

/-- A field of a control register: the address, the lowest bit and the width in bits. -/
structure Fld where
  addr : Nat
  lo : Nat
  width : Nat
deriving DecidableEq, Repr

/-- TIDE_MANG, CELL of Tide (R53, RO). -/
abbrev Fld.TIDE_MANG_CELL : Fld := ⟨0x4E000000, 12, 20⟩
abbrev Fld.TIDE_MANG_FRAC : Fld := ⟨0x4E000000, 0, 12⟩
/-- TIDE_STATUS, EPOCH of Tide (R54, RO). -/
abbrev Fld.TIDE_STATUS_EPOCH : Fld := ⟨0x4E000004, 24, 8⟩
abbrev Fld.TIDE_STATUS_ROOT_LOCK : Fld := ⟨0x4E000004, 15, 1⟩
abbrev Fld.TIDE_STATUS_ESI_VALID : Fld := ⟨0x4E000004, 14, 1⟩
abbrev Fld.TIDE_STATUS_PHASE_LOCKED : Fld := ⟨0x4E000004, 13, 1⟩
abbrev Fld.TIDE_STATUS_OPT_LOADED : Fld := ⟨0x4E000004, 12, 1⟩
abbrev Fld.TIDE_STATUS_T1_OK : Fld := ⟨0x4E000004, 7, 1⟩
abbrev Fld.TIDE_STATUS_T0_OK : Fld := ⟨0x4E000004, 6, 1⟩
abbrev Fld.TIDE_STATUS_STATE : Fld := ⟨0x4E000004, 0, 3⟩
/-- TIDE_CTRL, BW_SEL of Tide (R55, RWS). -/
abbrev Fld.TIDE_CTRL_BW_SEL : Fld := ⟨0x4E000008, 14, 2⟩
abbrev Fld.TIDE_CTRL_REACQ_EN : Fld := ⟨0x4E000008, 13, 1⟩
abbrev Fld.TIDE_CTRL_ESO_EN : Fld := ⟨0x4E000008, 12, 1⟩
abbrev Fld.TIDE_CTRL_ESI_EN : Fld := ⟨0x4E000008, 11, 1⟩
abbrev Fld.TIDE_CTRL_ESI_PHASE_EN : Fld := ⟨0x4E000008, 10, 1⟩
abbrev Fld.TIDE_CTRL_T1_USE : Fld := ⟨0x4E000008, 9, 1⟩
abbrev Fld.TIDE_CTRL_T0_USE : Fld := ⟨0x4E000008, 8, 1⟩
abbrev Fld.TIDE_CTRL_ACQ_START : Fld := ⟨0x4E000008, 0, 1⟩
/-- TIDE_CELL_PERIOD, PERIOD of Tide (R56, RO). -/
abbrev Fld.TIDE_CELL_PERIOD_PERIOD : Fld := ⟨0x4E00000C, 0, 32⟩
/-- TIDE_OPT_LO, MS_LO of Tide (R56, RWL). -/
abbrev Fld.TIDE_OPT_LO_MS_LO : Fld := ⟨0x4E000010, 0, 32⟩
/-- TIDE_OPT_HI, MS_HI of Tide (R56, RWL). -/
abbrev Fld.TIDE_OPT_HI_MS_HI : Fld := ⟨0x4E000014, 0, 8⟩
/-- TIDE_ESI_PERIOD, PERIOD of Tide (R56, RO). -/
abbrev Fld.TIDE_ESI_PERIOD_PERIOD : Fld := ⟨0x4E000018, 0, 28⟩
/-- TIDE_ESI_PHASE, OFFSET of Tide (R56, RWS). -/
abbrev Fld.TIDE_ESI_PHASE_OFFSET : Fld := ⟨0x4E00001C, 0, 16⟩
/-- TIDE_T1_OFS, OFS of Tide (R56, RWS). -/
abbrev Fld.TIDE_T1_OFS_OFS : Fld := ⟨0x4E000020, 0, 32⟩
/-- TIDE_CG_EN(i), EN of Tide (R56, RW). -/
abbrev Fld.TIDE_CG_EN_EN (i : Nat) : Fld := ⟨0x4E000030 + 0x4 * (i % 4), 0, 32⟩
/-- TIDE_SURF_OFS(s), OFS of Tide (R56, RWS). -/
abbrev Fld.TIDE_SURF_OFS_OFS (s : Nat) : Fld := ⟨0x4E000100 + 0x4 * (s % 24), 0, 32⟩
/-- TIDE_SURF_SLIP(s), SLIP of Tide (R56, RO). -/
abbrev Fld.TIDE_SURF_SLIP_SLIP (s : Nat) : Fld := ⟨0x4E000200 + 0x4 * (s % 24), 0, 16⟩
/-- TIDE_ST_CBPC(n), CBPC of Tide (R56, RWS). -/
abbrev Fld.TIDE_ST_CBPC_CBPC (n : Nat) : Fld := ⟨0x4E000300 + 0x4 * (n % 8), 0, 32⟩
/-- TIDE_ST_PHASE(n), PHASE of Tide (R56, RWS). -/
abbrev Fld.TIDE_ST_PHASE_PHASE (n : Nat) : Fld := ⟨0x4E000340 + 0x4 * (n % 8), 0, 32⟩
/-- WTH_SPN_CTRL, SRC of Withy (R84, RWS). -/
abbrev Fld.WTH_SPN_CTRL_SRC : Fld := ⟨0x49000000, 8, 1⟩
abbrev Fld.WTH_SPN_CTRL_CLR_FAULT : Fld := ⟨0x49000000, 4, 1⟩
abbrev Fld.WTH_SPN_CTRL_RUN : Fld := ⟨0x49000000, 0, 1⟩
/-- WTH_SPN_STATUS, STATE of Withy (R83, RO). -/
abbrev Fld.WTH_SPN_STATUS_STATE : Fld := ⟨0x49000004, 28, 4⟩
abbrev Fld.WTH_SPN_STATUS_ATTEMPT : Fld := ⟨0x49000004, 24, 4⟩
abbrev Fld.WTH_SPN_STATUS_AT_SPEED : Fld := ⟨0x49000004, 23, 1⟩
abbrev Fld.WTH_SPN_STATUS_SPD95 : Fld := ⟨0x49000004, 22, 1⟩
abbrev Fld.WTH_SPN_STATUS_SPD90 : Fld := ⟨0x49000004, 21, 1⟩
abbrev Fld.WTH_SPN_STATUS_DIR_REV : Fld := ⟨0x49000004, 20, 1⟩
abbrev Fld.WTH_SPN_STATUS_FW_ACTIVE : Fld := ⟨0x49000004, 19, 1⟩
abbrev Fld.WTH_SPN_STATUS_FW_SAT : Fld := ⟨0x49000004, 18, 1⟩
abbrev Fld.WTH_SPN_STATUS_STOP_BLOCKED : Fld := ⟨0x49000004, 17, 1⟩
abbrev Fld.WTH_SPN_STATUS_HOLD_COLLAPSE : Fld := ⟨0x49000004, 16, 1⟩
/-- WTH_SPN_SPEED, SPEED of Withy (R84, RWS). -/
abbrev Fld.WTH_SPN_SPEED_SPEED : Fld := ⟨0x49000008, 0, 24⟩
/-- WTH_SPN_MEAS, TRACK of Withy (R84, RO). -/
abbrev Fld.WTH_SPN_MEAS_TRACK : Fld := ⟨0x4900000C, 31, 1⟩
abbrev Fld.WTH_SPN_MEAS_SPEED : Fld := ⟨0x4900000C, 0, 24⟩
/-- WTH_SPN_CFG, DEADTIME of Withy (R84, RWS). -/
abbrev Fld.WTH_SPN_CFG_DEADTIME : Fld := ⟨0x49000010, 16, 8⟩
abbrev Fld.WTH_SPN_CFG_RAMP_RATE : Fld := ⟨0x49000010, 8, 8⟩
abbrev Fld.WTH_SPN_CFG_POLE_PAIRS : Fld := ⟨0x49000010, 0, 4⟩
/-- WTH_SPN_CUR, IHOLD of Withy (R84, RWS). -/
abbrev Fld.WTH_SPN_CUR_IHOLD : Fld := ⟨0x49000014, 24, 8⟩
abbrev Fld.WTH_SPN_CUR_IRUN : Fld := ⟨0x49000014, 16, 8⟩
abbrev Fld.WTH_SPN_CUR_IRAMP : Fld := ⟨0x49000014, 8, 8⟩
abbrev Fld.WTH_SPN_CUR_IALIGN : Fld := ⟨0x49000014, 0, 8⟩
/-- WTH_SPN_KE, KE_MEAS of Withy (R84, RO). -/
abbrev Fld.WTH_SPN_KE_KE_MEAS : Fld := ⟨0x49000018, 16, 16⟩
abbrev Fld.WTH_SPN_KE_KE_NOM : Fld := ⟨0x49000018, 0, 16⟩
/-- WTH_HOLD, IBRAKE of Withy (R84, RWS). -/
abbrev Fld.WTH_HOLD_IBRAKE : Fld := ⟨0x4900001C, 16, 8⟩
abbrev Fld.WTH_HOLD_VSET : Fld := ⟨0x4900001C, 0, 12⟩
/-- WTH_SPN_FOC, ID of Withy (R84, RO). -/
abbrev Fld.WTH_SPN_FOC_ID : Fld := ⟨0x49000020, 16, 16⟩
abbrev Fld.WTH_SPN_FOC_MI : Fld := ⟨0x49000020, 0, 10⟩
/-- WTH_FAULT, MA_OC of Withy (R84, W1C). -/
abbrev Fld.WTH_FAULT_MA_OC : Fld := ⟨0x49000024, 16, 8⟩
abbrev Fld.WTH_FAULT_RET_TIMEOUT : Fld := ⟨0x49000024, 12, 4⟩
abbrev Fld.WTH_FAULT_VCM_OC : Fld := ⟨0x49000024, 8, 4⟩
abbrev Fld.WTH_FAULT_SPN : Fld := ⟨0x49000024, 0, 8⟩
/-- WTH_VCM_CTRL(s), IFIX of Withy (R84, RWS). -/
abbrev Fld.WTH_VCM_CTRL_IFIX (s : Nat) : Fld := ⟨0x49000040 + 0x4 * (s % 4), 16, 16⟩
abbrev Fld.WTH_VCM_CTRL_SRC (s : Nat) : Fld := ⟨0x49000040 + 0x4 * (s % 4), 8, 1⟩
abbrev Fld.WTH_VCM_CTRL_PARK (s : Nat) : Fld := ⟨0x49000040 + 0x4 * (s % 4), 1, 1⟩
abbrev Fld.WTH_VCM_CTRL_EN (s : Nat) : Fld := ⟨0x49000040 + 0x4 * (s % 4), 0, 1⟩
/-- WTH_VCM_STATUS(s), IMEAS of Withy (R84, RO). -/
abbrev Fld.WTH_VCM_STATUS_IMEAS (s : Nat) : Fld := ⟨0x49000050 + 0x4 * (s % 4), 16, 16⟩
abbrev Fld.WTH_VCM_STATUS_RET_ACTIVE (s : Nat) : Fld := ⟨0x49000050 + 0x4 * (s % 4), 2, 1⟩
abbrev Fld.WTH_VCM_STATUS_PARKED (s : Nat) : Fld := ⟨0x49000050 + 0x4 * (s % 4), 1, 1⟩
abbrev Fld.WTH_VCM_STATUS_ENABLED (s : Nat) : Fld := ⟨0x49000050 + 0x4 * (s % 4), 0, 1⟩
/-- WTH_RET_CFG(s), VEL of Withy (R84, RWS). -/
abbrev Fld.WTH_RET_CFG_VEL (s : Nat) : Fld := ⟨0x49000060 + 0x4 * (s % 4), 20, 12⟩
abbrev Fld.WTH_RET_CFG_RCOIL (s : Nat) : Fld := ⟨0x49000060 + 0x4 * (s % 4), 12, 8⟩
abbrev Fld.WTH_RET_CFG_IMAX (s : Nat) : Fld := ⟨0x49000060 + 0x4 * (s % 4), 4, 8⟩
abbrev Fld.WTH_RET_CFG_DIR (s : Nat) : Fld := ⟨0x49000060 + 0x4 * (s % 4), 0, 1⟩
/-- WTH_RET_CTRL, GO of Withy (R84, WO). -/
abbrev Fld.WTH_RET_CTRL_GO : Fld := ⟨0x49000070, 0, 4⟩
/-- WTH_MA_CTRL(n), VFIX of Withy (R84, RWS). -/
abbrev Fld.WTH_MA_CTRL_VFIX (n : Nat) : Fld := ⟨0x49000080 + 0x4 * (n % 8), 16, 16⟩
abbrev Fld.WTH_MA_CTRL_GAIN (n : Nat) : Fld := ⟨0x49000080 + 0x4 * (n % 8), 8, 2⟩
abbrev Fld.WTH_MA_CTRL_SRC (n : Nat) : Fld := ⟨0x49000080 + 0x4 * (n % 8), 5, 1⟩
abbrev Fld.WTH_MA_CTRL_HOLD (n : Nat) : Fld := ⟨0x49000080 + 0x4 * (n % 8), 4, 1⟩
abbrev Fld.WTH_MA_CTRL_EN (n : Nat) : Fld := ⟨0x49000080 + 0x4 * (n % 8), 0, 1⟩
/-- WTH_MA_STATUS(n), VOUT of Withy (R84, RO). -/
abbrev Fld.WTH_MA_STATUS_VOUT (n : Nat) : Fld := ⟨0x490000A0 + 0x4 * (n % 8), 16, 16⟩
abbrev Fld.WTH_MA_STATUS_STRAIN (n : Nat) : Fld := ⟨0x490000A0 + 0x4 * (n % 8), 0, 16⟩
/-- TUS_CTRL, XC_COMMIT of Tussock (R108, WO). -/
abbrev Fld.TUS_CTRL_XC_COMMIT : Fld := ⟨0x48000000, 7, 1⟩
abbrev Fld.TUS_CTRL_RVFF_EN : Fld := ⟨0x48000000, 6, 1⟩
abbrev Fld.TUS_CTRL_XC_EN : Fld := ⟨0x48000000, 5, 1⟩
abbrev Fld.TUS_CTRL_TABLES_VALID : Fld := ⟨0x48000000, 4, 1⟩
/-- TUS_STATUS, XC_PENDING of Tussock (R108, RO). -/
abbrev Fld.TUS_STATUS_XC_PENDING : Fld := ⟨0x48000004, 4, 1⟩
abbrev Fld.TUS_STATUS_NUM_SAT : Fld := ⟨0x48000004, 0, 4⟩
/-- TUS_TBL_BASE, BASE of Tussock (R108, RWS). -/
abbrev Fld.TUS_TBL_BASE_BASE : Fld := ⟨0x48000008, 15, 5⟩
/-- TUS_XC_EXP, EXP of Tussock (R108, RWS). -/
abbrev Fld.TUS_XC_EXP_EXP : Fld := ⟨0x4800000C, 0, 6⟩
/-- TUS_RV_CFG, G23 of Tussock (R108, RWS). -/
abbrev Fld.TUS_RV_CFG_G23 : Fld := ⟨0x48000010, 16, 16⟩
abbrev Fld.TUS_RV_CFG_G01 : Fld := ⟨0x48000010, 0, 16⟩
/-- TUS_TEMP_CFG, SRC of Tussock (R108, RWS). -/
abbrev Fld.TUS_TEMP_CFG_SRC : Fld := ⟨0x48000014, 16, 2⟩
abbrev Fld.TUS_TEMP_CFG_THRESH : Fld := ⟨0x48000014, 0, 8⟩
/-- TUS_SPN_KP, EXP of Tussock (R108, RWS). -/
abbrev Fld.TUS_SPN_KP_EXP : Fld := ⟨0x48000018, 18, 6⟩
abbrev Fld.TUS_SPN_KP_M : Fld := ⟨0x48000018, 0, 18⟩
/-- TUS_SPN_KI, EXP of Tussock (R108, RWS). -/
abbrev Fld.TUS_SPN_KI_EXP : Fld := ⟨0x4800001C, 18, 6⟩
abbrev Fld.TUS_SPN_KI_M : Fld := ⟨0x4800001C, 0, 18⟩
/-- TUS_XC(i, j), M of Tussock (R108, RWS). -/
abbrev Fld.TUS_XC_M (i : Nat) (j : Nat) : Fld := ⟨0x48000040 + 0x10 * (i % 4) + 0x4 * (j % 4), 0, 18⟩
/-- TUS_SEC_CTRL(s), CAP_GO of Tussock (R108, WO). -/
abbrev Fld.TUS_SEC_CTRL_CAP_GO (s : Nat) : Fld := ⟨0x48000100 + 0x40 * (s % 4), 31, 1⟩
abbrev Fld.TUS_SEC_CTRL_CAP_LANE (s : Nat) : Fld := ⟨0x48000100 + 0x40 * (s % 4), 30, 1⟩
abbrev Fld.TUS_SEC_CTRL_HEAD1 (s : Nat) : Fld := ⟨0x48000100 + 0x40 * (s % 4), 27, 3⟩
abbrev Fld.TUS_SEC_CTRL_HEAD0 (s : Nat) : Fld := ⟨0x48000100 + 0x40 * (s % 4), 24, 3⟩
abbrev Fld.TUS_SEC_CTRL_FORCE_EN (s : Nat) : Fld := ⟨0x48000100 + 0x40 * (s % 4), 20, 1⟩
abbrev Fld.TUS_SEC_CTRL_REGION_FORCE (s : Nat) : Fld := ⟨0x48000100 + 0x40 * (s % 4), 16, 4⟩
abbrev Fld.TUS_SEC_CTRL_PRI_SLOT (s : Nat) : Fld := ⟨0x48000100 + 0x40 * (s % 4), 9, 1⟩
abbrev Fld.TUS_SEC_CTRL_RELOAD (s : Nat) : Fld := ⟨0x48000100 + 0x40 * (s % 4), 8, 1⟩
abbrev Fld.TUS_SEC_CTRL_LANE_EN (s : Nat) : Fld := ⟨0x48000100 + 0x40 * (s % 4), 0, 2⟩
/-- TUS_SEC_STATUS(s), REGION of Tussock (R108, RO). -/
abbrev Fld.TUS_SEC_STATUS_REGION (s : Nat) : Fld := ⟨0x48000104 + 0x40 * (s % 4), 28, 4⟩
abbrev Fld.TUS_SEC_STATUS_REGION_PEND (s : Nat) : Fld := ⟨0x48000104 + 0x40 * (s % 4), 27, 1⟩
abbrev Fld.TUS_SEC_STATUS_CAP_DONE (s : Nat) : Fld := ⟨0x48000104 + 0x40 * (s % 4), 26, 1⟩
abbrev Fld.TUS_SEC_STATUS_SAT (s : Nat) : Fld := ⟨0x48000104 + 0x40 * (s % 4), 25, 1⟩
abbrev Fld.TUS_SEC_STATUS_WINH (s : Nat) : Fld := ⟨0x48000104 + 0x40 * (s % 4), 23, 2⟩
abbrev Fld.TUS_SEC_STATUS_MISS1 (s : Nat) : Fld := ⟨0x48000104 + 0x40 * (s % 4), 8, 8⟩
abbrev Fld.TUS_SEC_STATUS_MISS0 (s : Nat) : Fld := ⟨0x48000104 + 0x40 * (s % 4), 0, 8⟩
/-- TUS_VWEIGHT(s), W1 of Tussock (R108, RWS). -/
abbrev Fld.TUS_VWEIGHT_W1 (s : Nat) : Fld := ⟨0x48000108 + 0x40 * (s % 4), 16, 16⟩
abbrev Fld.TUS_VWEIGHT_W0 (s : Nat) : Fld := ⟨0x48000108 + 0x40 * (s % 4), 0, 16⟩
/-- TUS_SAT_CNT(s), COUNT of Tussock (R108, RW). -/
abbrev Fld.TUS_SAT_CNT_COUNT (s : Nat) : Fld := ⟨0x4800010C + 0x40 * (s % 4), 0, 32⟩
/-- TUS_ZONE_BND(s, i), TRACK of Tussock (R108, RWS). -/
abbrev Fld.TUS_ZONE_BND_TRACK (s : Nat) (i : Nat) : Fld := ⟨0x48000110 + 0x40 * (s % 4) + 0x4 * (i % 3), 0, 22⟩
/-- TUS_SEC_INFO(s), AGE1 of Tussock (R108, RO). -/
abbrev Fld.TUS_SEC_INFO_AGE1 (s : Nat) : Fld := ⟨0x4800011C + 0x40 * (s % 4), 24, 8⟩
abbrev Fld.TUS_SEC_INFO_AGE0 (s : Nat) : Fld := ⟨0x4800011C + 0x40 * (s % 4), 16, 8⟩
abbrev Fld.TUS_SEC_INFO_CAP_EXP (s : Nat) : Fld := ⟨0x4800011C + 0x40 * (s % 4), 0, 6⟩
/-- TUS_CAP(s, i), M of Tussock (R108, RO). -/
abbrev Fld.TUS_CAP_M (s : Nat) (i : Nat) : Fld := ⟨0x48000120 + 0x40 * (s % 4) + 0x4 * (i % 8), 0, 18⟩
/-- TUS_SPN_PROF, RACC of Tussock (R125, RWS). -/
abbrev Fld.TUS_SPN_PROF_RACC : Fld := ⟨0x48000020, 16, 16⟩
abbrev Fld.TUS_SPN_PROF_RATE : Fld := ⟨0x48000020, 0, 16⟩
/-- TUS_SPN_REF, REF of Tussock (R125, RO). -/
abbrev Fld.TUS_SPN_REF_REF : Fld := ⟨0x48000024, 0, 24⟩
/-- TUS_SEEK_GLOBAL, ASCALE of Tussock (R125, RWS). -/
abbrev Fld.TUS_SEEK_GLOBAL_ASCALE : Fld := ⟨0x48000028, 0, 9⟩
/-- TUS_SEEK_CTRL(s), HINT of Tussock (R125, RWS). -/
abbrev Fld.TUS_SEEK_CTRL_HINT (s : Nat) : Fld := ⟨0x48000200 + 0x20 * (s % 4), 8, 1⟩
abbrev Fld.TUS_SEEK_CTRL_ABANDON (s : Nat) : Fld := ⟨0x48000200 + 0x20 * (s % 4), 1, 1⟩
abbrev Fld.TUS_SEEK_CTRL_GO (s : Nat) : Fld := ⟨0x48000200 + 0x20 * (s % 4), 0, 1⟩
/-- TUS_SEEK_TGT(s, n), TRACK of Tussock (R125, RWS). -/
abbrev Fld.TUS_SEEK_TGT_TRACK (s : Nat) (n : Nat) : Fld := ⟨0x48000204 + 0x20 * (s % 4) + 0x4 * (n % 2), 10, 22⟩
abbrev Fld.TUS_SEEK_TGT_FRAC (s : Nat) (n : Nat) : Fld := ⟨0x48000204 + 0x20 * (s % 4) + 0x4 * (n % 2), 0, 10⟩
/-- TUS_PROF_V(s), VMAX of Tussock (R125, RWS). -/
abbrev Fld.TUS_PROF_V_VMAX (s : Nat) : Fld := ⟨0x4800020C + 0x20 * (s % 4), 0, 20⟩
/-- TUS_PROF_A(s), AMAX of Tussock (R125, RWS). -/
abbrev Fld.TUS_PROF_A_AMAX (s : Nat) : Fld := ⟨0x48000210 + 0x20 * (s % 4), 0, 20⟩
/-- TUS_PROF_J(s), JMAX of Tussock (R125, RWS). -/
abbrev Fld.TUS_PROF_J_JMAX (s : Nat) : Fld := ⟨0x48000214 + 0x20 * (s % 4), 0, 16⟩
/-- TUS_SETTLE(s), SETTLE_CNT of Tussock (R125, RWS). -/
abbrev Fld.TUS_SETTLE_SETTLE_CNT (s : Nat) : Fld := ⟨0x48000218 + 0x20 * (s % 4), 28, 4⟩
abbrev Fld.TUS_SETTLE_WINH_THR (s : Nat) : Fld := ⟨0x48000218 + 0x20 * (s % 4), 16, 10⟩
abbrev Fld.TUS_SETTLE_SETTLE_WIN (s : Nat) : Fld := ⟨0x48000218 + 0x20 * (s % 4), 0, 10⟩
/-- TUS_SEEK_STATUS(s), SEEK_SEQ of Tussock (R125, RO). -/
abbrev Fld.TUS_SEEK_STATUS_SEEK_SEQ (s : Nat) : Fld := ⟨0x4800021C + 0x20 * (s % 4), 24, 8⟩
abbrev Fld.TUS_SEEK_STATUS_SEEKING (s : Nat) : Fld := ⟨0x4800021C + 0x20 * (s % 4), 7, 1⟩
abbrev Fld.TUS_SEEK_STATUS_PHASE (s : Nat) : Fld := ⟨0x4800021C + 0x20 * (s % 4), 4, 3⟩
abbrev Fld.TUS_SEEK_STATUS_HINT_REJ (s : Nat) : Fld := ⟨0x4800021C + 0x20 * (s % 4), 3, 1⟩
abbrev Fld.TUS_SEEK_STATUS_PARAM_ERR (s : Nat) : Fld := ⟨0x4800021C + 0x20 * (s % 4), 2, 1⟩
abbrev Fld.TUS_SEEK_STATUS_HINT_ACTIVE (s : Nat) : Fld := ⟨0x4800021C + 0x20 * (s % 4), 1, 1⟩
abbrev Fld.TUS_SEEK_STATUS_SETTLED (s : Nat) : Fld := ⟨0x4800021C + 0x20 * (s % 4), 0, 1⟩
/-- REED_UCODE_VER, BASE of Reed (R149, RW). -/
abbrev Fld.REED_UCODE_VER_BASE : Fld := ⟨0x46000000, 16, 16⟩
abbrev Fld.REED_UCODE_VER_PATCH : Fld := ⟨0x46000000, 0, 16⟩
/-- REED_CS_CTRL, ERR of Reed (R149, W1C). -/
abbrev Fld.REED_CS_CTRL_ERR : Fld := ⟨0x46000004, 31, 1⟩
abbrev Fld.REED_CS_CTRL_SEQ_MASK : Fld := ⟨0x46000004, 16, 8⟩
abbrev Fld.REED_CS_CTRL_ADDR : Fld := ⟨0x46000004, 0, 15⟩
/-- REED_CS_DATA, WORD of Reed (R149, RW). -/
abbrev Fld.REED_CS_DATA_WORD : Fld := ⟨0x46000008, 0, 32⟩
/-- REED_SYNC_CFG, WIN of Reed (R149, RW). -/
abbrev Fld.REED_SYNC_CFG_WIN : Fld := ⟨0x4600000C, 0, 8⟩
/-- REED_WEDGE, LEN of Reed (R149, RW). -/
abbrev Fld.REED_WEDGE_LEN : Fld := ⟨0x46000010, 16, 12⟩
abbrev Fld.REED_WEDGE_EARLY : Fld := ⟨0x46000010, 8, 8⟩
abbrev Fld.REED_WEDGE_GUARD : Fld := ⟨0x46000010, 0, 8⟩
/-- REED_PATCH(i), EN of Reed (R149, RW). -/
abbrev Fld.REED_PATCH_EN (i : Nat) : Fld := ⟨0x46000040 + 0x4 * (i % 16), 31, 1⟩
abbrev Fld.REED_PATCH_TARGET (i : Nat) : Fld := ⟨0x46000040 + 0x4 * (i % 16), 16, 11⟩
abbrev Fld.REED_PATCH_ADDR (i : Nat) : Fld := ⟨0x46000040 + 0x4 * (i % 16), 0, 14⟩
/-- REED_ST_CTRL(n), KILL of Reed (R149, WO). -/
abbrev Fld.REED_ST_CTRL_KILL (n : Nat) : Fld := ⟨0x46001000 + 0x100 * (n % 8), 31, 1⟩
abbrev Fld.REED_ST_CTRL_RESTART (n : Nat) : Fld := ⟨0x46001000 + 0x100 * (n % 8), 30, 1⟩
abbrev Fld.REED_ST_CTRL_ABORT (n : Nat) : Fld := ⟨0x46001000 + 0x100 * (n % 8), 29, 1⟩
abbrev Fld.REED_ST_CTRL_FLUSH (n : Nat) : Fld := ⟨0x46001000 + 0x100 * (n % 8), 16, 1⟩
abbrev Fld.REED_ST_CTRL_GO (n : Nat) : Fld := ⟨0x46001000 + 0x100 * (n % 8), 15, 1⟩
abbrev Fld.REED_ST_CTRL_ENTRY (n : Nat) : Fld := ⟨0x46001000 + 0x100 * (n % 8), 0, 15⟩
/-- REED_ST_STATUS(n), STATE of Reed (R149, RO). -/
abbrev Fld.REED_ST_STATUS_STATE (n : Nat) : Fld := ⟨0x46001004 + 0x100 * (n % 8), 30, 2⟩
abbrev Fld.REED_ST_STATUS_TERM (n : Nat) : Fld := ⟨0x46001004 + 0x100 * (n % 8), 24, 4⟩
abbrev Fld.REED_ST_STATUS_RESULT (n : Nat) : Fld := ⟨0x46001004 + 0x100 * (n % 8), 16, 8⟩
abbrev Fld.REED_ST_STATUS_RESTARTS (n : Nat) : Fld := ⟨0x46001004 + 0x100 * (n % 8), 12, 4⟩
abbrev Fld.REED_ST_STATUS_EVT_CNT (n : Nat) : Fld := ⟨0x46001004 + 0x100 * (n % 8), 0, 7⟩
/-- REED_ST_PC(n), MARK_PC of Reed (R149, RO). -/
abbrev Fld.REED_ST_PC_MARK_PC (n : Nat) : Fld := ⟨0x46001008 + 0x100 * (n % 8), 16, 15⟩
abbrev Fld.REED_ST_PC_PC (n : Nat) : Fld := ⟨0x46001008 + 0x100 * (n % 8), 0, 15⟩
/-- REED_ST_THRESH(n), THRESH of Reed (R149, RW). -/
abbrev Fld.REED_ST_THRESH_THRESH (n : Nat) : Fld := ⟨0x4600100C + 0x100 * (n % 8), 0, 10⟩
/-- REED_ST_EVENT(n), VALID of Reed (R149, RO). -/
abbrev Fld.REED_ST_EVENT_VALID (n : Nat) : Fld := ⟨0x46001010 + 0x100 * (n % 8), 31, 1⟩
abbrev Fld.REED_ST_EVENT_KIND (n : Nat) : Fld := ⟨0x46001010 + 0x100 * (n % 8), 24, 4⟩
abbrev Fld.REED_ST_EVENT_DATA (n : Nat) : Fld := ⟨0x46001010 + 0x100 * (n % 8), 0, 22⟩
/-- REED_ST_SYNCOFS(n), TIMED of Reed (R149, RO). -/
abbrev Fld.REED_ST_SYNCOFS_TIMED (n : Nat) : Fld := ⟨0x46001014 + 0x100 * (n % 8), 31, 1⟩
abbrev Fld.REED_ST_SYNCOFS_OFS (n : Nat) : Fld := ⟨0x46001014 + 0x100 * (n % 8), 0, 16⟩
/-- REED_ST_CFG(n), MAX_RESTART of Reed (R149, RW). -/
abbrev Fld.REED_ST_CFG_MAX_RESTART (n : Nat) : Fld := ⟨0x46001018 + 0x100 * (n % 8), 0, 4⟩
/-- REED_OP(n, i), VALUE of Reed (R149, RW). -/
abbrev Fld.REED_OP_VALUE (n : Nat) (i : Nat) : Fld := ⟨0x46001040 + 0x100 * (n % 8) + 0x4 * (i % 8), 0, 32⟩
/-- REED_ST_G(n, i), VALUE of Reed (R149, RO). -/
abbrev Fld.REED_ST_G_VALUE (n : Nat) (i : Nat) : Fld := ⟨0x46001080 + 0x100 * (n % 8) + 0x4 * (i % 16), 0, 32⟩
/-- SDG_CTRL, TEL_CLEAR of Sedge (R181, WO). -/
abbrev Fld.SDG_CTRL_TEL_CLEAR : Fld := ⟨0x47000000, 1, 1⟩
abbrev Fld.SDG_CTRL_TEL_SNAP : Fld := ⟨0x47000000, 0, 1⟩
/-- SDG_STATUS, RES_IRQ of Sedge (R181, RO). -/
abbrev Fld.SDG_STATUS_RES_IRQ : Fld := ⟨0x47000004, 8, 8⟩
abbrev Fld.SDG_STATUS_PENDING : Fld := ⟨0x47000004, 0, 8⟩
/-- SDG_ST_CTRL(n), ITER_OTF of Sedge (R181, RW). -/
abbrev Fld.SDG_ST_CTRL_ITER_OTF (n : Nat) : Fld := ⟨0x47001000 + 0x400 * (n % 8), 24, 5⟩
abbrev Fld.SDG_ST_CTRL_ADAPT_EN (n : Nat) : Fld := ⟨0x47001000 + 0x400 * (n % 8), 16, 1⟩
abbrev Fld.SDG_ST_CTRL_COMB (n : Nat) : Fld := ⟨0x47001000 + 0x400 * (n % 8), 14, 1⟩
abbrev Fld.SDG_ST_CTRL_FORCE_TIMED (n : Nat) : Fld := ⟨0x47001000 + 0x400 * (n % 8), 12, 1⟩
abbrev Fld.SDG_ST_CTRL_ALT_SET (n : Nat) : Fld := ⟨0x47001000 + 0x400 * (n % 8), 8, 2⟩
abbrev Fld.SDG_ST_CTRL_STEP (n : Nat) : Fld := ⟨0x47001000 + 0x400 * (n % 8), 4, 3⟩
abbrev Fld.SDG_ST_CTRL_MODE (n : Nat) : Fld := ⟨0x47001000 + 0x400 * (n % 8), 0, 2⟩
/-- SDG_ST_STATUS(n), RES_OVF of Sedge (R181, W1C). -/
abbrev Fld.SDG_ST_STATUS_RES_OVF (n : Nat) : Fld := ⟨0x47001004 + 0x400 * (n % 8), 31, 1⟩
abbrev Fld.SDG_ST_STATUS_PHASE_LIM (n : Nat) : Fld := ⟨0x47001004 + 0x400 * (n % 8), 30, 1⟩
abbrev Fld.SDG_ST_STATUS_ACQ_SHORT (n : Nat) : Fld := ⟨0x47001004 + 0x400 * (n % 8), 29, 1⟩
abbrev Fld.SDG_ST_STATUS_CODE_ERR (n : Nat) : Fld := ⟨0x47001004 + 0x400 * (n % 8), 28, 1⟩
abbrev Fld.SDG_ST_STATUS_RES_CNT (n : Nat) : Fld := ⟨0x47001004 + 0x400 * (n % 8), 16, 7⟩
abbrev Fld.SDG_ST_STATUS_PARK_USED (n : Nat) : Fld := ⟨0x47001004 + 0x400 * (n % 8), 8, 4⟩
abbrev Fld.SDG_ST_STATUS_PENDING_CNT (n : Nat) : Fld := ⟨0x47001004 + 0x400 * (n % 8), 0, 8⟩
/-- SDG_FE_CFG(n), HPF of Sedge (R181, RW). -/
abbrev Fld.SDG_FE_CFG_HPF (n : Nat) : Fld := ⟨0x47001008 + 0x400 * (n % 8), 28, 2⟩
abbrev Fld.SDG_FE_CFG_CTF_FC (n : Nat) : Fld := ⟨0x47001008 + 0x400 * (n % 8), 24, 4⟩
abbrev Fld.SDG_FE_CFG_CTF_BOOST (n : Nat) : Fld := ⟨0x47001008 + 0x400 * (n % 8), 20, 4⟩
abbrev Fld.SDG_FE_CFG_ASYM (n : Nat) : Fld := ⟨0x47001008 + 0x400 * (n % 8), 12, 7⟩
abbrev Fld.SDG_FE_CFG_AGC_TGT (n : Nat) : Fld := ⟨0x47001008 + 0x400 * (n % 8), 0, 8⟩
/-- SDG_FE_STATUS(n), TRIM of Sedge (R181, RO). -/
abbrev Fld.SDG_FE_STATUS_TRIM (n : Nat) : Fld := ⟨0x4700100C + 0x400 * (n % 8), 24, 8⟩
abbrev Fld.SDG_FE_STATUS_VGA (n : Nat) : Fld := ⟨0x4700100C + 0x400 * (n % 8), 16, 7⟩
abbrev Fld.SDG_FE_STATUS_AMPL (n : Nat) : Fld := ⟨0x4700100C + 0x400 * (n % 8), 8, 8⟩
abbrev Fld.SDG_FE_STATUS_TA_ACTIVE (n : Nat) : Fld := ⟨0x4700100C + 0x400 * (n % 8), 1, 1⟩
abbrev Fld.SDG_FE_STATUS_DO_ACTIVE (n : Nat) : Fld := ⟨0x4700100C + 0x400 * (n % 8), 0, 1⟩
/-- SDG_RDR_SKEW(n, r), INT of Sedge (R181, RW). -/
abbrev Fld.SDG_RDR_SKEW_INT (n : Nat) (r : Nat) : Fld := ⟨0x47001010 + 0x400 * (n % 8) + 0x4 * (r % 4), 8, 6⟩
abbrev Fld.SDG_RDR_SKEW_FRAC (n : Nat) (r : Nat) : Fld := ⟨0x47001010 + 0x400 * (n % 8) + 0x4 * (r % 4), 0, 7⟩
/-- SDG_EQ_CFG(n), MU of Sedge (R181, RW). -/
abbrev Fld.SDG_EQ_CFG_MU (n : Nat) : Fld := ⟨0x47001020 + 0x400 * (n % 8), 20, 4⟩
abbrev Fld.SDG_EQ_CFG_MU_LADDER (n : Nat) : Fld := ⟨0x47001020 + 0x400 * (n % 8), 16, 4⟩
abbrev Fld.SDG_EQ_CFG_NP_ADAPT (n : Nat) : Fld := ⟨0x47001020 + 0x400 * (n % 8), 12, 1⟩
abbrev Fld.SDG_EQ_CFG_TSCALE (n : Nat) : Fld := ⟨0x47001020 + 0x400 * (n % 8), 0, 8⟩
/-- SDG_TGT(n), G3 of Sedge (R181, RW). -/
abbrev Fld.SDG_TGT_G3 (n : Nat) : Fld := ⟨0x47001024 + 0x400 * (n % 8), 16, 8⟩
abbrev Fld.SDG_TGT_G2 (n : Nat) : Fld := ⟨0x47001024 + 0x400 * (n % 8), 8, 8⟩
abbrev Fld.SDG_TGT_G1 (n : Nat) : Fld := ⟨0x47001024 + 0x400 * (n % 8), 0, 8⟩
/-- SDG_COEF_ADDR(n), ADDR of Sedge (R181, RW). -/
abbrev Fld.SDG_COEF_ADDR_ADDR (n : Nat) : Fld := ⟨0x47001028 + 0x400 * (n % 8), 0, 9⟩
/-- SDG_COEF_DATA(n), DATA of Sedge (R181, RW). -/
abbrev Fld.SDG_COEF_DATA_DATA (n : Nat) : Fld := ⟨0x4700102C + 0x400 * (n % 8), 0, 26⟩
/-- SDG_CODE(n), C of Sedge (R181, RW). -/
abbrev Fld.SDG_CODE_C (n : Nat) : Fld := ⟨0x47001030 + 0x400 * (n % 8), 24, 5⟩
abbrev Fld.SDG_CODE_META (n : Nat) : Fld := ⟨0x47001030 + 0x400 * (n % 8), 16, 2⟩
abbrev Fld.SDG_CODE_ERASE_MAX (n : Nat) : Fld := ⟨0x47001030 + 0x400 * (n % 8), 0, 12⟩
/-- SDG_DEF_TA(n), THR of Sedge (R181, RW). -/
abbrev Fld.SDG_DEF_TA_THR (n : Nat) : Fld := ⟨0x47001034 + 0x400 * (n % 8), 24, 8⟩
abbrev Fld.SDG_DEF_TA_LEN (n : Nat) : Fld := ⟨0x47001034 + 0x400 * (n % 8), 16, 8⟩
abbrev Fld.SDG_DEF_TA_PRE (n : Nat) : Fld := ⟨0x47001034 + 0x400 * (n % 8), 8, 8⟩
abbrev Fld.SDG_DEF_TA_POST (n : Nat) : Fld := ⟨0x47001034 + 0x400 * (n % 8), 0, 8⟩
/-- SDG_DEF_DO(n), THR of Sedge (R181, RW). -/
abbrev Fld.SDG_DEF_DO_THR (n : Nat) : Fld := ⟨0x47001038 + 0x400 * (n % 8), 24, 8⟩
abbrev Fld.SDG_DEF_DO_LEN (n : Nat) : Fld := ⟨0x47001038 + 0x400 * (n % 8), 16, 8⟩
abbrev Fld.SDG_DEF_DO_PAD (n : Nat) : Fld := ⟨0x47001038 + 0x400 * (n % 8), 8, 8⟩
/-- SDG_SM_CFG(n), TOL of Sedge (R181, RW). -/
abbrev Fld.SDG_SM_CFG_TOL (n : Nat) : Fld := ⟨0x4700103C + 0x400 * (n % 8), 0, 4⟩
/-- SDG_SM_PAT(n), PAT of Sedge (R181, RW). -/
abbrev Fld.SDG_SM_PAT_PAT (n : Nat) : Fld := ⟨0x47001040 + 0x400 * (n % 8), 0, 32⟩
/-- SDG_RSM_PAT(n), PAT of Sedge (R181, RW). -/
abbrev Fld.SDG_RSM_PAT_PAT (n : Nat) : Fld := ⟨0x47001044 + 0x400 * (n % 8), 0, 32⟩
/-- SDG_SEAL_TRK(n), SURF of Sedge (R181, RW). -/
abbrev Fld.SDG_SEAL_TRK_SURF (n : Nat) : Fld := ⟨0x47001048 + 0x400 * (n % 8), 24, 5⟩
abbrev Fld.SDG_SEAL_TRK_TRACK (n : Nat) : Fld := ⟨0x47001048 + 0x400 * (n % 8), 0, 22⟩
/-- SDG_RESULT(n), VALID of Sedge (R181, RO). -/
abbrev Fld.SDG_RESULT_VALID (n : Nat) : Fld := ⟨0x47001050 + 0x400 * (n % 8), 31, 1⟩
abbrev Fld.SDG_RESULT_OUTCOME (n : Nat) : Fld := ⟨0x47001050 + 0x400 * (n % 8), 27, 4⟩
abbrev Fld.SDG_RESULT_ALIGN (n : Nat) : Fld := ⟨0x47001050 + 0x400 * (n % 8), 24, 3⟩
abbrev Fld.SDG_RESULT_ITER (n : Nat) : Fld := ⟨0x47001050 + 0x400 * (n % 8), 16, 5⟩
abbrev Fld.SDG_RESULT_INDEX (n : Nat) : Fld := ⟨0x47001050 + 0x400 * (n % 8), 0, 16⟩
/-- SDG_RESULT_X(n), ERASED of Sedge (R181, RO). -/
abbrev Fld.SDG_RESULT_X_ERASED (n : Nat) : Fld := ⟨0x47001054 + 0x400 * (n % 8), 20, 12⟩
abbrev Fld.SDG_RESULT_X_TIMED (n : Nat) : Fld := ⟨0x47001054 + 0x400 * (n % 8), 19, 1⟩
abbrev Fld.SDG_RESULT_X_STEP (n : Nat) : Fld := ⟨0x47001054 + 0x400 * (n % 8), 16, 3⟩
abbrev Fld.SDG_RESULT_X_OFS (n : Nat) : Fld := ⟨0x47001054 + 0x400 * (n % 8), 0, 16⟩
/-- SDG_TEL(n, i), COUNT of Sedge (R181, RO). -/
abbrev Fld.SDG_TEL_COUNT (n : Nat) (i : Nat) : Fld := ⟨0x47001100 + 0x400 * (n % 8) + 0x4 * (i % 32), 0, 32⟩
/-- SDG_SHOCK_CFG, EN of Sedge (R203, RW). -/
abbrev Fld.SDG_SHOCK_CFG_EN : Fld := ⟨0x47000008, 31, 1⟩
abbrev Fld.SDG_SHOCK_CFG_HOLD : Fld := ⟨0x47000008, 16, 8⟩
abbrev Fld.SDG_SHOCK_CFG_THR : Fld := ⟨0x47000008, 0, 8⟩
/-- SDG_WF_STATUS, SHOCK_ACTIVE of Sedge (R203, RO). -/
abbrev Fld.SDG_WF_STATUS_SHOCK_ACTIVE : Fld := ⟨0x4700000C, 16, 1⟩
abbrev Fld.SDG_WF_STATUS_CAUSE_SEEN : Fld := ⟨0x4700000C, 2, 7⟩
/-- SDG_WR_CFG(n), WPC_EN of Sedge (R203, RW). -/
abbrev Fld.SDG_WR_CFG_WPC_EN (n : Nat) : Fld := ⟨0x47001060 + 0x400 * (n % 8), 17, 1⟩
abbrev Fld.SDG_WR_CFG_MARKER (n : Nat) : Fld := ⟨0x47001060 + 0x400 * (n % 8), 16, 1⟩
abbrev Fld.SDG_WR_CFG_ADV (n : Nat) : Fld := ⟨0x47001060 + 0x400 * (n % 8), 0, 16⟩
/-- SDG_WR_STATUS(n), WG of Sedge (R203, RO). -/
abbrev Fld.SDG_WR_STATUS_WG (n : Nat) : Fld := ⟨0x47001064 + 0x400 * (n % 8), 31, 1⟩
abbrev Fld.SDG_WR_STATUS_CAUSE (n : Nat) : Fld := ⟨0x47001064 + 0x400 * (n % 8), 24, 4⟩
abbrev Fld.SDG_WR_STATUS_DROPS (n : Nat) : Fld := ⟨0x47001064 + 0x400 * (n % 8), 0, 16⟩
/-- SDG_WR_DROP(n), MANG of Sedge (R203, RO). -/
abbrev Fld.SDG_WR_DROP_MANG (n : Nat) : Fld := ⟨0x47001068 + 0x400 * (n % 8), 0, 32⟩
/-- SDG_VFY_CFG(n), DLY of Sedge (R203, RW). -/
abbrev Fld.SDG_VFY_CFG_DLY (n : Nat) : Fld := ⟨0x4700106C + 0x400 * (n % 8), 20, 12⟩
abbrev Fld.SDG_VFY_CFG_AMP_MIN (n : Nat) : Fld := ⟨0x4700106C + 0x400 * (n % 8), 16, 4⟩
abbrev Fld.SDG_VFY_CFG_VAMP_CAL (n : Nat) : Fld := ⟨0x4700106C + 0x400 * (n % 8), 8, 8⟩
abbrev Fld.SDG_VFY_CFG_ERR_THR (n : Nat) : Fld := ⟨0x4700106C + 0x400 * (n % 8), 0, 8⟩
/-- SDG_VFY_RESULT(n), VALID of Sedge (R203, RO). -/
abbrev Fld.SDG_VFY_RESULT_VALID (n : Nat) : Fld := ⟨0x47001070 + 0x400 * (n % 8), 31, 1⟩
abbrev Fld.SDG_VFY_RESULT_OUTCOME (n : Nat) : Fld := ⟨0x47001070 + 0x400 * (n % 8), 28, 3⟩
abbrev Fld.SDG_VFY_RESULT_ERRS (n : Nat) : Fld := ⟨0x47001070 + 0x400 * (n % 8), 16, 12⟩
abbrev Fld.SDG_VFY_RESULT_INDEX (n : Nat) : Fld := ⟨0x47001070 + 0x400 * (n % 8), 0, 16⟩
/-- SDG_WPC(n, p), SHIFT of Sedge (R203, RW). -/
abbrev Fld.SDG_WPC_SHIFT (n : Nat) (p : Nat) : Fld := ⟨0x47001080 + 0x400 * (n % 8) + 0x4 * (p % 8), 0, 6⟩
/-- SDG_WPC_ANG(n, j), SCALE of Sedge (R203, RW). -/
abbrev Fld.SDG_WPC_ANG_SCALE (n : Nat) (j : Nat) : Fld := ⟨0x470010A0 + 0x400 * (n % 8) + 0x4 * (j % 16), 0, 8⟩
/-- MBX_INFO, MAJOR of Mire (R228, RO). -/
abbrev Fld.MBX_INFO_MAJOR : Fld := ⟨0x45000000, 24, 8⟩
abbrev Fld.MBX_INFO_MINOR : Fld := ⟨0x45000000, 16, 8⟩
abbrev Fld.MBX_INFO_AQSIA_UP : Fld := ⟨0x45000000, 0, 1⟩
/-- MBX_EPOCH, PCC of Mire (R228, RO). -/
abbrev Fld.MBX_EPOCH_PCC : Fld := ⟨0x45000004, 8, 8⟩
abbrev Fld.MBX_EPOCH_WARM : Fld := ⟨0x45000004, 0, 8⟩
/-- MBX_DONE(k), DONE of Mire (R228, RO). -/
abbrev Fld.MBX_DONE_DONE (k : Nat) : Fld := ⟨0x45000008 + 0x4 * (k % 2), 0, 32⟩
/-- MBX_REQ(i, w), DATA of Mire (R228, RW). -/
abbrev Fld.MBX_REQ_DATA (i : Nat) (w : Nat) : Fld := ⟨0x45010000 + 0x400 * (i % 64) + 0x4 * (w % 64), 0, 32⟩
/-- MBX_RSP(i, w), DATA of Mire (R228, RO). -/
abbrev Fld.MBX_RSP_DATA (i : Nat) (w : Nat) : Fld := ⟨0x45010100 + 0x400 * (i % 64) + 0x4 * (w % 64), 0, 32⟩
/-- MBX_DB(i), CANCEL of Mire (R228, WO). -/
abbrev Fld.MBX_DB_CANCEL (i : Nat) : Fld := ⟨0x45010200 + 0x400 * (i % 64), 2, 1⟩
abbrev Fld.MBX_DB_ACK (i : Nat) : Fld := ⟨0x45010200 + 0x400 * (i % 64), 1, 1⟩
abbrev Fld.MBX_DB_RING (i : Nat) : Fld := ⟨0x45010200 + 0x400 * (i % 64), 0, 1⟩
/-- MBX_STAT(i), SESSION of Mire (R228, RO). -/
abbrev Fld.MBX_STAT_SESSION (i : Nat) : Fld := ⟨0x45010204 + 0x400 * (i % 64), 24, 8⟩
abbrev Fld.MBX_STAT_CANCEL_REQ (i : Nat) : Fld := ⟨0x45010204 + 0x400 * (i % 64), 8, 1⟩
abbrev Fld.MBX_STAT_WR_ERR (i : Nat) : Fld := ⟨0x45010204 + 0x400 * (i % 64), 5, 1⟩
abbrev Fld.MBX_STAT_DB_ERR (i : Nat) : Fld := ⟨0x45010204 + 0x400 * (i % 64), 4, 1⟩
abbrev Fld.MBX_STAT_STARTED (i : Nat) : Fld := ⟨0x45010204 + 0x400 * (i % 64), 2, 1⟩
abbrev Fld.MBX_STAT_STATE (i : Nat) : Fld := ⟨0x45010204 + 0x400 * (i % 64), 0, 2⟩
/-- MBX_CTRL(i), IRQ_EN of Mire (R228, RW). -/
abbrev Fld.MBX_CTRL_IRQ_EN (i : Nat) : Fld := ⟨0x45010208 + 0x400 * (i % 64), 8, 1⟩
abbrev Fld.MBX_CTRL_CORE (i : Nat) : Fld := ⟨0x45010208 + 0x400 * (i % 64), 0, 3⟩
/-- MBX_LATCH(i), CMD of Mire (R228, RO). -/
abbrev Fld.MBX_LATCH_CMD (i : Nat) : Fld := ⟨0x4501020C + 0x400 * (i % 64), 16, 16⟩
abbrev Fld.MBX_LATCH_TAG (i : Nat) : Fld := ⟨0x4501020C + 0x400 * (i % 64), 0, 16⟩
/-- MBX_LATCH_GEN(i), GEN of Mire (R228, RO). -/
abbrev Fld.MBX_LATCH_GEN_GEN (i : Nat) : Fld := ⟨0x45010210 + 0x400 * (i % 64), 0, 32⟩
/-- MBX_LATCH_RSP(i), STATUS of Mire (R228, RO). -/
abbrev Fld.MBX_LATCH_RSP_STATUS (i : Nat) : Fld := ⟨0x45010214 + 0x400 * (i % 64), 0, 16⟩
/-- MWQ_BASE_LO(q), BASE of Mire (R284, RWS). -/
abbrev Fld.MWQ_BASE_LO_BASE (q : Nat) : Fld := ⟨0x45020000 + 0x20 * (q % 16), 6, 26⟩
/-- MWQ_BASE_HI(q), BASE of Mire (R284, RWS). -/
abbrev Fld.MWQ_BASE_HI_BASE (q : Nat) : Fld := ⟨0x45020004 + 0x20 * (q % 16), 0, 8⟩
/-- MWQ_CFG(q), EN of Mire (R284, RWS). -/
abbrev Fld.MWQ_CFG_EN (q : Nat) : Fld := ⟨0x45020008 + 0x20 * (q % 16), 31, 1⟩
abbrev Fld.MWQ_CFG_LOG2N (q : Nat) : Fld := ⟨0x45020008 + 0x20 * (q % 16), 0, 4⟩
/-- MWQ_HEAD(q), HEAD of Mire (R284, RO). -/
abbrev Fld.MWQ_HEAD_HEAD (q : Nat) : Fld := ⟨0x4502000C + 0x20 * (q % 16), 0, 12⟩
/-- MWQ_DB(q), RAW of Mire (R284, WO). -/
abbrev Fld.MWQ_DB_RAW (q : Nat) : Fld := ⟨0x45020010 + 0x20 * (q % 16), 0, 32⟩
/-- MWQ_STATUS(q), PEND of Mire (R284, RO). -/
abbrev Fld.MWQ_STATUS_PEND (q : Nat) : Fld := ⟨0x45020014 + 0x20 * (q % 16), 31, 1⟩
abbrev Fld.MWQ_STATUS_BLOCKED (q : Nat) : Fld := ⟨0x45020014 + 0x20 * (q % 16), 30, 1⟩
abbrev Fld.MWQ_STATUS_ENERR (q : Nat) : Fld := ⟨0x45020014 + 0x20 * (q % 16), 28, 1⟩
abbrev Fld.MWQ_STATUS_OUTST (q : Nat) : Fld := ⟨0x45020014 + 0x20 * (q % 16), 0, 13⟩
/-- MWC_BASE_LO(s), BASE of Mire (R284, RWS). -/
abbrev Fld.MWC_BASE_LO_BASE (s : Nat) : Fld := ⟨0x45020200 + 0x20 * (s % 4), 6, 26⟩
/-- MWC_BASE_HI(s), BASE of Mire (R284, RWS). -/
abbrev Fld.MWC_BASE_HI_BASE (s : Nat) : Fld := ⟨0x45020204 + 0x20 * (s % 4), 0, 8⟩
/-- MWC_CFG(s), EN of Mire (R284, RWS). -/
abbrev Fld.MWC_CFG_EN (s : Nat) : Fld := ⟨0x45020208 + 0x20 * (s % 4), 31, 1⟩
abbrev Fld.MWC_CFG_COMPAT (s : Nat) : Fld := ⟨0x45020208 + 0x20 * (s % 4), 30, 1⟩
abbrev Fld.MWC_CFG_IRQ_EN (s : Nat) : Fld := ⟨0x45020208 + 0x20 * (s % 4), 29, 1⟩
abbrev Fld.MWC_CFG_CORE (s : Nat) : Fld := ⟨0x45020208 + 0x20 * (s % 4), 24, 3⟩
abbrev Fld.MWC_CFG_LOG2N (s : Nat) : Fld := ⟨0x45020208 + 0x20 * (s % 4), 0, 4⟩
/-- MWC_PI(s), PASS of Mire (R284, RO). -/
abbrev Fld.MWC_PI_PASS (s : Nat) : Fld := ⟨0x4502020C + 0x20 * (s % 4), 12, 1⟩
abbrev Fld.MWC_PI_PI (s : Nat) : Fld := ⟨0x4502020C + 0x20 * (s % 4), 0, 12⟩
/-- MWC_CI(s), CI of Mire (R284, RWS). -/
abbrev Fld.MWC_CI_CI (s : Nat) : Fld := ⟨0x45020210 + 0x20 * (s % 4), 0, 12⟩
/-- MWC_SPILL_LO(s), BASE of Mire (R284, RWS). -/
abbrev Fld.MWC_SPILL_LO_BASE (s : Nat) : Fld := ⟨0x45020214 + 0x20 * (s % 4), 17, 15⟩
/-- MWC_SPILL_HI(s), BASE of Mire (R284, RWS). -/
abbrev Fld.MWC_SPILL_HI_BASE (s : Nat) : Fld := ⟨0x45020218 + 0x20 * (s % 4), 0, 8⟩
/-- MWC_STATUS(s), SCAN_STOP of Mire (R284, RO). -/
abbrev Fld.MWC_STATUS_SCAN_STOP (s : Nat) : Fld := ⟨0x4502021C + 0x20 * (s % 4), 31, 1⟩
abbrev Fld.MWC_STATUS_CI_ERR (s : Nat) : Fld := ⟨0x4502021C + 0x20 * (s % 4), 30, 1⟩
abbrev Fld.MWC_STATUS_SPILL_CNT (s : Nat) : Fld := ⟨0x4502021C + 0x20 * (s % 4), 0, 13⟩
/-- MWQ_CANCEL, QUEUE of Mire (R284, WO). -/
abbrev Fld.MWQ_CANCEL_QUEUE : Fld := ⟨0x45020300, 16, 5⟩
abbrev Fld.MWQ_CANCEL_SLOT : Fld := ⟨0x45020300, 0, 12⟩
/-- MWQ_CANCEL_RES, BUSY of Mire (R284, RO). -/
abbrev Fld.MWQ_CANCEL_RES_BUSY : Fld := ⟨0x45020304, 31, 1⟩
abbrev Fld.MWQ_CANCEL_RES_RESULT : Fld := ⟨0x45020304, 0, 2⟩
/-- MWQ_SYS_STATUS, FLUSH of Mire (R284, RO). -/
abbrev Fld.MWQ_SYS_STATUS_FLUSH : Fld := ⟨0x45020308, 16, 16⟩
abbrev Fld.MWQ_SYS_STATUS_CAL : Fld := ⟨0x45020308, 0, 16⟩
/-- STH_CTRL, RUN of Staithe (R314, RW). -/
abbrev Fld.STH_CTRL_RUN : Fld := ⟨0x40000000, 31, 1⟩
abbrev Fld.STH_CTRL_QUIESCE : Fld := ⟨0x40000000, 30, 1⟩
/-- STH_STATUS, QUIESCED of Staithe (R314, RO). -/
abbrev Fld.STH_STATUS_QUIESCED : Fld := ⟨0x40000004, 31, 1⟩
abbrev Fld.STH_STATUS_PF_HOLD : Fld := ⟨0x40000004, 30, 1⟩
abbrev Fld.STH_STATUS_CPL_ERR : Fld := ⟨0x40000004, 29, 1⟩
abbrev Fld.STH_STATUS_ZA_ERR : Fld := ⟨0x40000004, 28, 1⟩
abbrev Fld.STH_STATUS_LIVE : Fld := ⟨0x40000004, 0, 13⟩
/-- STH_ADM_CFG, AGE of Staithe (R314, RW). -/
abbrev Fld.STH_ADM_CFG_AGE : Fld := ⟨0x40000008, 0, 16⟩
/-- STH_LOCK_STATUS, WAITING of Staithe (R314, RO). -/
abbrev Fld.STH_LOCK_STATUS_WAITING : Fld := ⟨0x4000000C, 16, 13⟩
abbrev Fld.STH_LOCK_STATUS_HELD : Fld := ⟨0x4000000C, 0, 12⟩
/-- STH_NEW(c), VALID of Staithe (R314, RO). -/
abbrev Fld.STH_NEW_VALID (c : Nat) : Fld := ⟨0x40000020 + 0x4 * (c % 8), 31, 1⟩
abbrev Fld.STH_NEW_ASSIGN (c : Nat) : Fld := ⟨0x40000020 + 0x4 * (c % 8), 30, 1⟩
abbrev Fld.STH_NEW_FLUSH_READY (c : Nat) : Fld := ⟨0x40000020 + 0x4 * (c % 8), 29, 1⟩
abbrev Fld.STH_NEW_CTX (c : Nat) : Fld := ⟨0x40000020 + 0x4 * (c % 8), 0, 12⟩
/-- STH_CPL_DW0(c), DW0 of Staithe (R314, RW). -/
abbrev Fld.STH_CPL_DW0_DW0 (c : Nat) : Fld := ⟨0x40000040 + 0x8 * (c % 8), 0, 32⟩
/-- STH_CPL(c), STATUS of Staithe (R314, WO). -/
abbrev Fld.STH_CPL_STATUS (c : Nat) : Fld := ⟨0x40000044 + 0x8 * (c % 8), 12, 15⟩
abbrev Fld.STH_CPL_CTX (c : Nat) : Fld := ⟨0x40000044 + 0x8 * (c % 8), 0, 12⟩
/-- STH_CTX_END, FATE of Staithe (R314, WO). -/
abbrev Fld.STH_CTX_END_FATE : Fld := ⟨0x40000080, 30, 2⟩
abbrev Fld.STH_CTX_END_REASON : Fld := ⟨0x40000080, 16, 8⟩
abbrev Fld.STH_CTX_END_CTX : Fld := ⟨0x40000080, 0, 12⟩
/-- STH_ZA_SET, CTX of Staithe (R314, WO). -/
abbrev Fld.STH_ZA_SET_CTX : Fld := ⟨0x40000084, 0, 12⟩
/-- STH_ZA_LBA_LO, LBA of Staithe (R314, RW). -/
abbrev Fld.STH_ZA_LBA_LO_LBA : Fld := ⟨0x40000088, 0, 32⟩
/-- STH_ZA_LBA_HI, LBA of Staithe (R314, RW). -/
abbrev Fld.STH_ZA_LBA_HI_LBA : Fld := ⟨0x4000008C, 0, 32⟩
/-- STH_FATE_STATUS, UNRESOLVED of Staithe (R314, RO). -/
abbrev Fld.STH_FATE_STATUS_UNRESOLVED : Fld := ⟨0x40000090, 16, 13⟩
abbrev Fld.STH_FATE_STATUS_RECORDS : Fld := ⟨0x40000090, 0, 14⟩
/-- STH_FATE_CUR, INDEX of Staithe (R314, RW). -/
abbrev Fld.STH_FATE_CUR_INDEX : Fld := ⟨0x40000094, 0, 13⟩
/-- STH_FATE_SET, FATE of Staithe (R314, WO). -/
abbrev Fld.STH_FATE_SET_FATE : Fld := ⟨0x40000098, 30, 2⟩
abbrev Fld.STH_FATE_SET_REASON : Fld := ⟨0x40000098, 16, 8⟩
abbrev Fld.STH_FATE_SET_INDEX : Fld := ⟨0x40000098, 0, 13⟩
/-- STH_FATE_DROP, COUNT of Staithe (R314, RO). -/
abbrev Fld.STH_FATE_DROP_COUNT : Fld := ⟨0x4000009C, 0, 32⟩
/-- STH_FATE_DATA(k), DATA of Staithe (R314, RO). -/
abbrev Fld.STH_FATE_DATA_DATA (k : Nat) : Fld := ⟨0x400000A0 + 0x4 * (k % 4), 0, 32⟩
/-- STH_FATE_CLR, CNTLID of Staithe (R314, WO). -/
abbrev Fld.STH_FATE_CLR_CNTLID : Fld := ⟨0x400000B0, 0, 5⟩
/-- STH_CTL_CFG(k), EN of Staithe (R314, RO). -/
abbrev Fld.STH_CTL_CFG_EN (k : Nat) : Fld := ⟨0x40000100 + 0x4 * (k % 32), 31, 1⟩
abbrev Fld.STH_CTL_CFG_RST_PEND (k : Nat) : Fld := ⟨0x40000100 + 0x4 * (k % 32), 30, 1⟩
abbrev Fld.STH_CTL_CFG_CORE (k : Nat) : Fld := ⟨0x40000100 + 0x4 * (k % 32), 24, 3⟩
abbrev Fld.STH_CTL_CFG_QUOTA (k : Nat) : Fld := ⟨0x40000100 + 0x4 * (k % 32), 0, 13⟩
/-- STH_PS, CORE of Staithe (R314, RW). -/
abbrev Fld.STH_PS_CORE : Fld := ⟨0x40000200, 8, 3⟩
abbrev Fld.STH_PS_CUR : Fld := ⟨0x40000200, 0, 3⟩
/-- STH_IDLE_STATUS, EXPIRED of Staithe (R314, W1C). -/
abbrev Fld.STH_IDLE_STATUS_EXPIRED : Fld := ⟨0x40000204, 28, 4⟩
abbrev Fld.STH_IDLE_STATUS_IDLE : Fld := ⟨0x40000204, 0, 24⟩
/-- STH_IDLE(i), THRESH of Staithe (R314, RW). -/
abbrev Fld.STH_IDLE_THRESH (i : Nat) : Fld := ⟨0x40000204 + 0x4 * (i % 5), 0, 24⟩
/-- STH_CTX(x, w), DATA of Staithe (R314, RO). -/
abbrev Fld.STH_CTX_DATA (x : Nat) (w : Nat) : Fld := ⟨0x40100000 + 0x80 * (x % 4096) + 0x4 * (w % 24), 0, 32⟩
/-- STH_CTX_SCR(x, w), DATA of Staithe (R314, RW). -/
abbrev Fld.STH_CTX_SCR_DATA (x : Nat) (w : Nat) : Fld := ⟨0x40100000 + 0x80 * (x % 4096) + 0x4 * (w % 32), 0, 32⟩
/-- SLU_STATUS, REL_ERR of Sluice (R339, W1C). -/
abbrev Fld.SLU_STATUS_REL_ERR : Fld := ⟨0x41000000, 31, 1⟩
abbrev Fld.SLU_STATUS_LED_FREE : Fld := ⟨0x41000000, 0, 16⟩
/-- SLU_DRAM_CFG, SIZE of Sluice (R339, RO). -/
abbrev Fld.SLU_DRAM_CFG_SIZE : Fld := ⟨0x41000004, 24, 2⟩
abbrev Fld.SLU_DRAM_CFG_RATE : Fld := ⟨0x41000004, 16, 2⟩
abbrev Fld.SLU_DRAM_CFG_TRAINED : Fld := ⟨0x41000004, 0, 1⟩
/-- SLU_PC_CFG, EN of Sluice (R339, RWS). -/
abbrev Fld.SLU_PC_CFG_EN : Fld := ⟨0x41000008, 31, 1⟩
abbrev Fld.SLU_PC_CFG_META : Fld := ⟨0x41000008, 16, 2⟩
abbrev Fld.SLU_PC_CFG_BASE : Fld := ⟨0x41000008, 0, 10⟩
/-- SLU_SEC_FREE(s), FREE of Sluice (R339, RO). -/
abbrev Fld.SLU_SEC_FREE_FREE (s : Nat) : Fld := ⟨0x41000010 + 0x4 * (s % 4), 0, 17⟩
/-- SLU_SEC_RUN(s), RUN of Sluice (R339, RO). -/
abbrev Fld.SLU_SEC_RUN_RUN (s : Nat) : Fld := ⟨0x41000020 + 0x4 * (s % 4), 0, 17⟩
/-- SLU_LED_CUR, INDEX of Sluice (R339, RW). -/
abbrev Fld.SLU_LED_CUR_INDEX : Fld := ⟨0x41000040, 0, 15⟩
/-- SLU_LED_REL, ENTRY of Sluice (R339, WO). -/
abbrev Fld.SLU_LED_REL_ENTRY : Fld := ⟨0x41000044, 0, 15⟩
/-- SLU_LED_FILL, CTX of Sluice (R339, WO). -/
abbrev Fld.SLU_LED_FILL_CTX : Fld := ⟨0x41000048, 0, 12⟩
/-- SLU_LED_DATA(k), DATA of Sluice (R339, RO). -/
abbrev Fld.SLU_LED_DATA_DATA (k : Nat) : Fld := ⟨0x41000050 + 0x4 * (k % 4), 0, 32⟩
/-- SLU_NS_CFG(k), MODE of Sluice (R339, RWS). -/
abbrev Fld.SLU_NS_CFG_MODE (k : Nat) : Fld := ⟨0x41000100 + 0x4 * (k % 16), 30, 2⟩
abbrev Fld.SLU_NS_CFG_SEC (k : Nat) : Fld := ⟨0x41000100 + 0x4 * (k % 16), 24, 2⟩
abbrev Fld.SLU_NS_CFG_SHIFT (k : Nat) : Fld := ⟨0x41000100 + 0x4 * (k % 16), 0, 6⟩
/-- SLU_CRED_C(k), LIMIT of Sluice (R339, RWS). -/
abbrev Fld.SLU_CRED_C_LIMIT (k : Nat) : Fld := ⟨0x41000200 + 0x8 * (k % 32), 0, 19⟩
/-- SLU_CRED_Q(k), QLIMIT of Sluice (R339, RWS). -/
abbrev Fld.SLU_CRED_Q_QLIMIT (k : Nat) : Fld := ⟨0x41000204 + 0x8 * (k % 32), 0, 13⟩
/-- SLU_CRED_USED(k), USED of Sluice (R339, RO). -/
abbrev Fld.SLU_CRED_USED_USED (k : Nat) : Fld := ⟨0x41000300 + 0x4 * (k % 32), 0, 19⟩
/-- SLU_KEY_CTRL, LOAD of Sluice (R339, WO). -/
abbrev Fld.SLU_KEY_CTRL_LOAD : Fld := ⟨0x41000400, 31, 1⟩
abbrev Fld.SLU_KEY_CTRL_ZERO : Fld := ⟨0x41000400, 30, 1⟩
abbrev Fld.SLU_KEY_CTRL_BUSY : Fld := ⟨0x41000400, 29, 1⟩
abbrev Fld.SLU_KEY_CTRL_SLOT : Fld := ⟨0x41000400, 0, 6⟩
/-- SLU_KEY_DATA(i), KEY of Sluice (R339, WO). -/
abbrev Fld.SLU_KEY_DATA_KEY (i : Nat) : Fld := ⟨0x41000440 + 0x4 * (i % 16), 0, 32⟩
/-- SLU_STG_STATUS(n), ACTIVE of Sluice (R339, RO). -/
abbrev Fld.SLU_STG_STATUS_ACTIVE (n : Nat) : Fld := ⟨0x41000500 + 0x4 * (n % 8), 31, 1⟩
abbrev Fld.SLU_STG_STATUS_DIR (n : Nat) : Fld := ⟨0x41000500 + 0x4 * (n % 8), 30, 1⟩
abbrev Fld.SLU_STG_STATUS_RESV (n : Nat) : Fld := ⟨0x41000500 + 0x4 * (n % 8), 16, 10⟩
abbrev Fld.SLU_STG_STATUS_READY (n : Nat) : Fld := ⟨0x41000500 + 0x4 * (n % 8), 0, 10⟩
/-- SLU_RA_CFG, TTL of Sluice (R339, RW). -/
abbrev Fld.SLU_RA_CFG_TTL : Fld := ⟨0x41000600, 0, 16⟩
/-- SLU_RA_CMD, OP of Sluice (R339, WO). -/
abbrev Fld.SLU_RA_CMD_OP : Fld := ⟨0x41000604, 28, 4⟩
abbrev Fld.SLU_RA_CMD_REGION : Fld := ⟨0x41000604, 0, 9⟩
/-- SLU_RA_RES, HIT of Sluice (R339, RO). -/
abbrev Fld.SLU_RA_RES_HIT : Fld := ⟨0x41000608, 30, 2⟩
abbrev Fld.SLU_RA_RES_ERR : Fld := ⟨0x41000608, 29, 1⟩
abbrev Fld.SLU_RA_RES_DONE : Fld := ⟨0x41000608, 28, 1⟩
abbrev Fld.SLU_RA_RES_LEAD : Fld := ⟨0x41000608, 16, 9⟩
abbrev Fld.SLU_RA_RES_REGION : Fld := ⟨0x41000608, 0, 9⟩
/-- SLU_RA_MISS, COUNT of Sluice (R339, RW). -/
abbrev Fld.SLU_RA_MISS_COUNT : Fld := ⟨0x4100060C, 0, 32⟩
/-- SLU_RA_ARG0, LBA_LO of Sluice (R339, RW). -/
abbrev Fld.SLU_RA_ARG0_LBA_LO : Fld := ⟨0x41000610, 0, 32⟩
/-- SLU_RA_ARG1, COUNT of Sluice (R339, RW). -/
abbrev Fld.SLU_RA_ARG1_COUNT : Fld := ⟨0x41000614, 24, 8⟩
abbrev Fld.SLU_RA_ARG1_NS : Fld := ⟨0x41000614, 16, 4⟩
abbrev Fld.SLU_RA_ARG1_LBA_HI : Fld := ⟨0x41000614, 0, 16⟩
/-- SLU_RA_ARG2, BASE_LO of Sluice (R339, RW). -/
abbrev Fld.SLU_RA_ARG2_BASE_LO : Fld := ⟨0x41000618, 6, 26⟩
/-- SLU_RA_ARG3, META of Sluice (R339, RW). -/
abbrev Fld.SLU_RA_ARG3_META : Fld := ⟨0x4100061C, 16, 2⟩
abbrev Fld.SLU_RA_ARG3_BASE_HI : Fld := ⟨0x4100061C, 0, 8⟩
/-- CSW_CTRL, COMMIT of Causeway (R340, WO). -/
abbrev Fld.CSW_CTRL_COMMIT : Fld := ⟨0x42000000, 31, 1⟩
/-- CSW_STATUS, COMMIT_PEND of Causeway (R340, RO). -/
abbrev Fld.CSW_STATUS_COMMIT_PEND : Fld := ⟨0x42000004, 31, 1⟩
abbrev Fld.CSW_STATUS_COMMIT_ERR : Fld := ⟨0x42000004, 30, 1⟩
abbrev Fld.CSW_STATUS_SHADOW_ERR : Fld := ⟨0x42000004, 29, 1⟩
abbrev Fld.CSW_STATUS_CAP : Fld := ⟨0x42000004, 0, 8⟩
/-- CSW_LIMIT, LIMIT of Causeway (R340, RWS). -/
abbrev Fld.CSW_LIMIT_LIMIT : Fld := ⟨0x42000008, 0, 8⟩
/-- CSW_HOG, HOG of Causeway (R340, W1C). -/
abbrev Fld.CSW_HOG_HOG : Fld := ⟨0x4200000C, 0, 16⟩
/-- CSW_PRIO(k), RANK7 of Causeway (R340, RWS). -/
abbrev Fld.CSW_PRIO_RANK7 (k : Nat) : Fld := ⟨0x42000010 + 0x4 * (k % 2), 28, 4⟩
abbrev Fld.CSW_PRIO_RANK6 (k : Nat) : Fld := ⟨0x42000010 + 0x4 * (k % 2), 24, 4⟩
abbrev Fld.CSW_PRIO_RANK5 (k : Nat) : Fld := ⟨0x42000010 + 0x4 * (k % 2), 20, 4⟩
abbrev Fld.CSW_PRIO_RANK4 (k : Nat) : Fld := ⟨0x42000010 + 0x4 * (k % 2), 16, 4⟩
abbrev Fld.CSW_PRIO_RANK3 (k : Nat) : Fld := ⟨0x42000010 + 0x4 * (k % 2), 12, 4⟩
abbrev Fld.CSW_PRIO_RANK2 (k : Nat) : Fld := ⟨0x42000010 + 0x4 * (k % 2), 8, 4⟩
abbrev Fld.CSW_PRIO_RANK1 (k : Nat) : Fld := ⟨0x42000010 + 0x4 * (k % 2), 4, 4⟩
abbrev Fld.CSW_PRIO_RANK0 (k : Nat) : Fld := ⟨0x42000010 + 0x4 * (k % 2), 0, 4⟩
/-- CSW_SLOT(t, k), OWNER3 of Causeway (R340, RWS). -/
abbrev Fld.CSW_SLOT_OWNER3 (t : Nat) (k : Nat) : Fld := ⟨0x42000100 + 0x100 * (t % 2) + 0x4 * (k % 64), 24, 6⟩
abbrev Fld.CSW_SLOT_OWNER2 (t : Nat) (k : Nat) : Fld := ⟨0x42000100 + 0x100 * (t % 2) + 0x4 * (k % 64), 16, 6⟩
abbrev Fld.CSW_SLOT_OWNER1 (t : Nat) (k : Nat) : Fld := ⟨0x42000100 + 0x100 * (t % 2) + 0x4 * (k % 64), 8, 6⟩
abbrev Fld.CSW_SLOT_OWNER0 (t : Nat) (k : Nat) : Fld := ⟨0x42000100 + 0x100 * (t % 2) + 0x4 * (k % 64), 0, 6⟩
/-- LODE_STATUS, ACTIVE of Lode (R358, RO). -/
abbrev Fld.LODE_STATUS_ACTIVE : Fld := ⟨0x44000000, 0, 32⟩
/-- LODE_IRQ, IRQ of Lode (R358, W1C). -/
abbrev Fld.LODE_IRQ_IRQ : Fld := ⟨0x44000004, 0, 32⟩
/-- LODE_REQ, LEVEL of Lode (R358, RO). -/
abbrev Fld.LODE_REQ_LEVEL : Fld := ⟨0x44000008, 1, 15⟩
/-- LODE_CH_CTRL(c), START of Lode (R358, WO). -/
abbrev Fld.LODE_CH_CTRL_START (c : Nat) : Fld := ⟨0x44000100 + 0x40 * (c % 32), 31, 1⟩
abbrev Fld.LODE_CH_CTRL_STOP (c : Nat) : Fld := ⟨0x44000100 + 0x40 * (c % 32), 30, 1⟩
abbrev Fld.LODE_CH_CTRL_PAUSE (c : Nat) : Fld := ⟨0x44000100 + 0x40 * (c % 32), 29, 1⟩
abbrev Fld.LODE_CH_CTRL_IRQ_EN (c : Nat) : Fld := ⟨0x44000100 + 0x40 * (c % 32), 8, 1⟩
abbrev Fld.LODE_CH_CTRL_CORE (c : Nat) : Fld := ⟨0x44000100 + 0x40 * (c % 32), 0, 3⟩
/-- LODE_CH_STATUS(c), STATE of Lode (R358, RO). -/
abbrev Fld.LODE_CH_STATUS_STATE (c : Nat) : Fld := ⟨0x44000104 + 0x40 * (c % 32), 29, 3⟩
abbrev Fld.LODE_CH_STATUS_LINK_ERR (c : Nat) : Fld := ⟨0x44000104 + 0x40 * (c % 32), 28, 1⟩
abbrev Fld.LODE_CH_STATUS_DESC_ERR (c : Nat) : Fld := ⟨0x44000104 + 0x40 * (c % 32), 27, 1⟩
abbrev Fld.LODE_CH_STATUS_BUS_ERR (c : Nat) : Fld := ⟨0x44000104 + 0x40 * (c % 32), 26, 1⟩
abbrev Fld.LODE_CH_STATUS_LATE_WITHDRAW (c : Nat) : Fld := ⟨0x44000104 + 0x40 * (c % 32), 25, 1⟩
abbrev Fld.LODE_CH_STATUS_CMD_ERR (c : Nat) : Fld := ⟨0x44000104 + 0x40 * (c % 32), 24, 1⟩
abbrev Fld.LODE_CH_STATUS_DONE_CNT (c : Nat) : Fld := ⟨0x44000104 + 0x40 * (c % 32), 0, 16⟩
/-- LODE_CH_HEAD_LO(c), ADDR of Lode (R358, RW). -/
abbrev Fld.LODE_CH_HEAD_LO_ADDR (c : Nat) : Fld := ⟨0x44000108 + 0x40 * (c % 32), 6, 26⟩
/-- LODE_CH_HEAD_HI(c), ADDR of Lode (R358, RW). -/
abbrev Fld.LODE_CH_HEAD_HI_ADDR (c : Nat) : Fld := ⟨0x4400010C + 0x40 * (c % 32), 0, 8⟩
/-- LODE_CH_CUR_LO(c), ADDR of Lode (R358, RO). -/
abbrev Fld.LODE_CH_CUR_LO_ADDR (c : Nat) : Fld := ⟨0x44000110 + 0x40 * (c % 32), 6, 26⟩
/-- LODE_CH_CUR_HI(c), ADDR of Lode (R358, RO). -/
abbrev Fld.LODE_CH_CUR_HI_ADDR (c : Nat) : Fld := ⟨0x44000114 + 0x40 * (c % 32), 0, 8⟩
/-- LODE_CH_END_LO(c), ADDR of Lode (R358, RO). -/
abbrev Fld.LODE_CH_END_LO_ADDR (c : Nat) : Fld := ⟨0x44000118 + 0x40 * (c % 32), 6, 26⟩
/-- LODE_CH_END_HI(c), ADDR of Lode (R358, RO). -/
abbrev Fld.LODE_CH_END_HI_ADDR (c : Nat) : Fld := ⟨0x4400011C + 0x40 * (c % 32), 0, 8⟩
/-- LODE_CH_SRC_LO(c), ADDR of Lode (R358, RO). -/
abbrev Fld.LODE_CH_SRC_LO_ADDR (c : Nat) : Fld := ⟨0x44000120 + 0x40 * (c % 32), 0, 32⟩
/-- LODE_CH_SRC_HI(c), ADDR of Lode (R358, RO). -/
abbrev Fld.LODE_CH_SRC_HI_ADDR (c : Nat) : Fld := ⟨0x44000124 + 0x40 * (c % 32), 0, 8⟩
/-- LODE_CH_DST_LO(c), ADDR of Lode (R358, RO). -/
abbrev Fld.LODE_CH_DST_LO_ADDR (c : Nat) : Fld := ⟨0x44000128 + 0x40 * (c % 32), 0, 32⟩
/-- LODE_CH_DST_HI(c), ADDR of Lode (R358, RO). -/
abbrev Fld.LODE_CH_DST_HI_ADDR (c : Nat) : Fld := ⟨0x4400012C + 0x40 * (c % 32), 0, 8⟩
/-- LODE_CH_REMAIN(c), BYTES of Lode (R358, RO). -/
abbrev Fld.LODE_CH_REMAIN_BYTES (c : Nat) : Fld := ⟨0x44000130 + 0x40 * (c % 32), 0, 24⟩
/-- LODE_CH_BURST_LEFT(c), BYTES of Lode (R358, RO). -/
abbrev Fld.LODE_CH_BURST_LEFT_BYTES (c : Nat) : Fld := ⟨0x44000134 + 0x40 * (c % 32), 0, 13⟩
/-- CARR_CTRL, EN of Carr (R376, RW). -/
abbrev Fld.CARR_CTRL_EN : Fld := ⟨0x43000000, 31, 1⟩
abbrev Fld.CARR_CTRL_STAT_SNAP : Fld := ⟨0x43000000, 1, 1⟩
abbrev Fld.CARR_CTRL_STAT_CLEAR : Fld := ⟨0x43000000, 0, 1⟩
/-- CARR_STATUS, STATE of Carr (R376, RO). -/
abbrev Fld.CARR_STATUS_STATE : Fld := ⟨0x43000004, 30, 2⟩
abbrev Fld.CARR_STATUS_CFG_ERR : Fld := ⟨0x43000004, 29, 1⟩
abbrev Fld.CARR_STATUS_PWB_CNT : Fld := ⟨0x43000004, 0, 3⟩
/-- CARR_CFG, HASH of Carr (R376, RW). -/
abbrev Fld.CARR_CFG_HASH : Fld := ⟨0x43000008, 0, 1⟩
/-- CARR_LOCK, WAYS of Carr (R376, RW). -/
abbrev Fld.CARR_LOCK_WAYS : Fld := ⟨0x4300000C, 0, 16⟩
/-- CARR_WIN_BASE_LO, BASE of Carr (R376, RW). -/
abbrev Fld.CARR_WIN_BASE_LO_BASE : Fld := ⟨0x43000010, 20, 12⟩
/-- CARR_WIN_BASE_HI, BASE of Carr (R376, RW). -/
abbrev Fld.CARR_WIN_BASE_HI_BASE : Fld := ⟨0x43000014, 0, 8⟩
/-- CARR_WIN_SIZE, SIZE of Carr (R376, RW). -/
abbrev Fld.CARR_WIN_SIZE_SIZE : Fld := ⟨0x43000018, 0, 14⟩
/-- CARR_OP, OP of Carr (R376, WO). -/
abbrev Fld.CARR_OP_OP : Fld := ⟨0x43000020, 28, 4⟩
abbrev Fld.CARR_OP_WAY : Fld := ⟨0x43000020, 16, 4⟩
/-- CARR_OP_ADDR_LO, ADDR of Carr (R376, RW). -/
abbrev Fld.CARR_OP_ADDR_LO_ADDR : Fld := ⟨0x43000024, 6, 26⟩
/-- CARR_OP_ADDR_HI, ADDR of Carr (R376, RW). -/
abbrev Fld.CARR_OP_ADDR_HI_ADDR : Fld := ⟨0x43000028, 0, 8⟩
/-- CARR_OP_LINES, LINES of Carr (R376, RW). -/
abbrev Fld.CARR_OP_LINES_LINES : Fld := ⟨0x4300002C, 0, 19⟩
/-- CARR_OP_STATUS, BUSY of Carr (R376, RO). -/
abbrev Fld.CARR_OP_STATUS_BUSY : Fld := ⟨0x43000030, 31, 1⟩
abbrev Fld.CARR_OP_STATUS_ERR : Fld := ⟨0x43000030, 30, 1⟩
abbrev Fld.CARR_OP_STATUS_REMAIN : Fld := ⟨0x43000030, 0, 19⟩
/-- CARR_STAT(i), COUNT of Carr (R376, RO). -/
abbrev Fld.CARR_STAT_COUNT (i : Nat) : Fld := ⟨0x43000100 + 0x4 * (i % 8), 0, 32⟩
/-- SLU_ECC_CE, COUNT of Sluice (R391, RWS). -/
abbrev Fld.SLU_ECC_CE_COUNT : Fld := ⟨0x41000800, 0, 32⟩
/-- SLU_ECC_LAST_LO, ADDR of Sluice (R391, RO). -/
abbrev Fld.SLU_ECC_LAST_LO_ADDR : Fld := ⟨0x41000804, 6, 26⟩
/-- SLU_ECC_LAST_HI, ADDR of Sluice (R391, RO). -/
abbrev Fld.SLU_ECC_LAST_HI_ADDR : Fld := ⟨0x41000808, 0, 8⟩
/-- SLU_SCRB_CTRL, GO of Sluice (R391, WO). -/
abbrev Fld.SLU_SCRB_CTRL_GO : Fld := ⟨0x41000810, 31, 1⟩
abbrev Fld.SLU_SCRB_CTRL_STOP : Fld := ⟨0x41000810, 30, 1⟩
/-- SLU_SCRB_STATUS, BUSY of Sluice (R391, RO). -/
abbrev Fld.SLU_SCRB_STATUS_BUSY : Fld := ⟨0x41000814, 31, 1⟩
abbrev Fld.SLU_SCRB_STATUS_DONE : Fld := ⟨0x41000814, 30, 1⟩
abbrev Fld.SLU_SCRB_STATUS_STOPPED : Fld := ⟨0x41000814, 29, 1⟩
abbrev Fld.SLU_SCRB_STATUS_UE_RESET : Fld := ⟨0x41000814, 28, 1⟩
abbrev Fld.SLU_SCRB_STATUS_ERR : Fld := ⟨0x41000814, 27, 1⟩
/-- SLU_SCRB_BASE_LO, ADDR of Sluice (R391, RWS). -/
abbrev Fld.SLU_SCRB_BASE_LO_ADDR : Fld := ⟨0x41000818, 6, 26⟩
/-- SLU_SCRB_BASE_HI, ADDR of Sluice (R391, RWS). -/
abbrev Fld.SLU_SCRB_BASE_HI_ADDR : Fld := ⟨0x4100081C, 0, 8⟩
/-- SLU_SCRB_LEN, BLOCKS of Sluice (R391, RWS). -/
abbrev Fld.SLU_SCRB_LEN_BLOCKS : Fld := ⟨0x41000820, 0, 28⟩
/-- SLU_SCRB_NEXT_LO, ADDR of Sluice (R391, RO). -/
abbrev Fld.SLU_SCRB_NEXT_LO_ADDR : Fld := ⟨0x41000824, 6, 26⟩
/-- SLU_SCRB_NEXT_HI, ADDR of Sluice (R391, RO). -/
abbrev Fld.SLU_SCRB_NEXT_HI_ADDR : Fld := ⟨0x41000828, 0, 8⟩
/-- SLU_SCRB_CE, COUNT of Sluice (R391, RO). -/
abbrev Fld.SLU_SCRB_CE_COUNT : Fld := ⟨0x4100082C, 0, 32⟩
/-- SLU_PM_STATUS, OVF of Sluice (R391, W1C). -/
abbrev Fld.SLU_PM_STATUS_OVF : Fld := ⟨0x41000840, 31, 1⟩
abbrev Fld.SLU_PM_STATUS_COUNT : Fld := ⟨0x41000840, 0, 11⟩
/-- SLU_PM_CUR, INDEX of Sluice (R391, RW). -/
abbrev Fld.SLU_PM_CUR_INDEX : Fld := ⟨0x41000844, 0, 10⟩
/-- SLU_PM_DATA_LO, ADDR of Sluice (R391, RO). -/
abbrev Fld.SLU_PM_DATA_LO_ADDR : Fld := ⟨0x41000848, 6, 26⟩
abbrev Fld.SLU_PM_DATA_LO_CLEARED : Fld := ⟨0x41000848, 5, 1⟩
abbrev Fld.SLU_PM_DATA_LO_LEDGER : Fld := ⟨0x41000848, 4, 1⟩
/-- SLU_PM_DATA_HI, SOURCE of Sluice (R391, RO). -/
abbrev Fld.SLU_PM_DATA_HI_SOURCE : Fld := ⟨0x4100084C, 26, 6⟩
abbrev Fld.SLU_PM_DATA_HI_ADDR : Fld := ⟨0x4100084C, 0, 8⟩
/-- SLU_PM_ACK, INDEX of Sluice (R391, WO). -/
abbrev Fld.SLU_PM_ACK_INDEX : Fld := ⟨0x41000850, 0, 10⟩
/-- WEIR_STATUS, PF of Weir (R411, RO). -/
abbrev Fld.WEIR_STATUS_PF : Fld := ⟨0x4A000000, 30, 2⟩
abbrev Fld.WEIR_STATUS_WARN_ARMED : Fld := ⟨0x4A000000, 29, 1⟩
abbrev Fld.WEIR_STATUS_COMMIT_ARMED : Fld := ⟨0x4A000000, 28, 1⟩
abbrev Fld.WEIR_STATUS_ISO_OFF : Fld := ⟨0x4A000000, 27, 1⟩
abbrev Fld.WEIR_STATUS_CHOP_ON : Fld := ⟨0x4A000000, 26, 1⟩
abbrev Fld.WEIR_STATUS_CHOP_FAULT : Fld := ⟨0x4A000000, 25, 1⟩
abbrev Fld.WEIR_STATUS_CHOP_TESTED : Fld := ⟨0x4A000000, 24, 1⟩
abbrev Fld.WEIR_STATUS_CAUSE : Fld := ⟨0x4A000000, 16, 2⟩
abbrev Fld.WEIR_STATUS_PF_MS : Fld := ⟨0x4A000000, 0, 16⟩
/-- WEIR_CTRL, CHOP_TEST of Weir (R411, WO). -/
abbrev Fld.WEIR_CTRL_CHOP_TEST : Fld := ⟨0x4A000004, 31, 1⟩
/-- WEIR_PF_CFG, LATE of Weir (R411, RWS). -/
abbrev Fld.WEIR_PF_CFG_LATE : Fld := ⟨0x4A000008, 8, 8⟩
abbrev Fld.WEIR_PF_CFG_BUDGET : Fld := ⟨0x4A000008, 0, 8⟩
/-- WEIR_PF_CTRL, DONE of Weir (R411, WO). -/
abbrev Fld.WEIR_PF_CTRL_DONE : Fld := ⟨0x4A00000C, 0, 1⟩
/-- WEIR_MEAS_V12, MV of Weir (R411, RO). -/
abbrev Fld.WEIR_MEAS_V12_MV : Fld := ⟨0x4A000010, 0, 16⟩
/-- WEIR_MEAS_VHB, MV of Weir (R411, RO). -/
abbrev Fld.WEIR_MEAS_VHB_MV : Fld := ⟨0x4A000014, 0, 16⟩
/-- WEIR_MEAS_V5, MV of Weir (R411, RO). -/
abbrev Fld.WEIR_MEAS_V5_MV : Fld := ⟨0x4A000018, 0, 16⟩
/-- WEIR_MIN_V12, MV of Weir (R411, RO). -/
abbrev Fld.WEIR_MIN_V12_MV : Fld := ⟨0x4A00001C, 0, 16⟩
/-- WEIR_CHOP, IPK of Weir (R411, RO). -/
abbrev Fld.WEIR_CHOP_IPK : Fld := ⟨0x4A000020, 16, 16⟩
abbrev Fld.WEIR_CHOP_ON_CNT : Fld := ⟨0x4A000020, 0, 16⟩
/-- WEIR_REG_STATUS, BRD_PG of Weir (R411, RO). -/
abbrev Fld.WEIR_REG_STATUS_BRD_PG : Fld := ⟨0x4A000024, 8, 1⟩
abbrev Fld.WEIR_REG_STATUS_PG : Fld := ⟨0x4A000024, 0, 4⟩
/-- WEIR_FAULT, SRC of Weir (R411, W1C). -/
abbrev Fld.WEIR_FAULT_SRC : Fld := ⟨0x4A000028, 0, 9⟩
/-- WEIR_AON_STATUS, COMMIT_SEEN of Weir (R411, RO). -/
abbrev Fld.WEIR_AON_STATUS_COMMIT_SEEN : Fld := ⟨0x4A000040, 31, 1⟩
abbrev Fld.WEIR_AON_STATUS_WARM_PF : Fld := ⟨0x4A000040, 30, 1⟩
abbrev Fld.WEIR_AON_STATUS_LAST_CAUSE : Fld := ⟨0x4A000040, 16, 2⟩
abbrev Fld.WEIR_AON_STATUS_LAST_MIN : Fld := ⟨0x4A000040, 0, 16⟩
/-- WEIR_AON_CNT, COMMITS of Weir (R411, RO). -/
abbrev Fld.WEIR_AON_CNT_COMMITS : Fld := ⟨0x4A000044, 16, 16⟩
abbrev Fld.WEIR_AON_CNT_DIPS : Fld := ⟨0x4A000044, 0, 16⟩
/-- LEV_STATUS, F_LATCHED of Levee (R427, RO). -/
abbrev Fld.LEV_STATUS_F_LATCHED : Fld := ⟨0x4B000000, 31, 1⟩
abbrev Fld.LEV_STATUS_ERROR : Fld := ⟨0x4B000000, 30, 1⟩
abbrev Fld.LEV_STATUS_ALIVE_RUN : Fld := ⟨0x4B000000, 29, 1⟩
abbrev Fld.LEV_STATUS_FACTORY : Fld := ⟨0x4B000000, 28, 1⟩
abbrev Fld.LEV_STATUS_WR_DENY : Fld := ⟨0x4B000000, 27, 1⟩
abbrev Fld.LEV_STATUS_BLK_BUSY : Fld := ⟨0x4B000000, 26, 1⟩
abbrev Fld.LEV_STATUS_WDOG_ARMED : Fld := ⟨0x4B000000, 25, 1⟩
/-- LEV_CTRL, CORE of Levee (R427, RWS). -/
abbrev Fld.LEV_CTRL_CORE : Fld := ⟨0x4B000004, 0, 3⟩
/-- LEV_IRQ, NMI of Levee (R427, W1C). -/
abbrev Fld.LEV_IRQ_NMI : Fld := ⟨0x4B000008, 1, 1⟩
abbrev Fld.LEV_IRQ_INT : Fld := ⟨0x4B000008, 0, 1⟩
/-- LEV_HEARTBEAT, BEAT of Levee (R427, WO). -/
abbrev Fld.LEV_HEARTBEAT_BEAT : Fld := ⟨0x4B00000C, 0, 1⟩
/-- LEV_WDOG, TIMEOUT of Levee (R427, RWS). -/
abbrev Fld.LEV_WDOG_TIMEOUT : Fld := ⟨0x4B000010, 0, 16⟩
/-- LEV_RESET, WARM of Levee (R427, WO). -/
abbrev Fld.LEV_RESET_WARM : Fld := ⟨0x4B000014, 31, 1⟩
abbrev Fld.LEV_RESET_BLOCK : Fld := ⟨0x4B000014, 16, 5⟩
/-- LEV_RESET_CAUSE, CAUSE of Levee (R427, RO). -/
abbrev Fld.LEV_RESET_CAUSE_CAUSE : Fld := ⟨0x4B000018, 28, 4⟩
abbrev Fld.LEV_RESET_CAUSE_INSTANCE : Fld := ⟨0x4B000018, 16, 8⟩
abbrev Fld.LEV_RESET_CAUSE_SOURCE : Fld := ⟨0x4B000018, 0, 16⟩
/-- LEV_CLR, ALL of Levee (R427, WO). -/
abbrev Fld.LEV_CLR_ALL : Fld := ⟨0x4B00001C, 31, 1⟩
abbrev Fld.LEV_CLR_INSTANCE : Fld := ⟨0x4B00001C, 16, 8⟩
abbrev Fld.LEV_CLR_SOURCE : Fld := ⟨0x4B00001C, 0, 16⟩
/-- LEV_INJ, COUNT of Levee (R427, WO). -/
abbrev Fld.LEV_INJ_COUNT : Fld := ⟨0x4B000020, 24, 8⟩
abbrev Fld.LEV_INJ_INSTANCE : Fld := ⟨0x4B000020, 16, 8⟩
abbrev Fld.LEV_INJ_SOURCE : Fld := ⟨0x4B000020, 0, 16⟩
/-- LEV_HIST_STATUS, COUNT of Levee (R427, RO). -/
abbrev Fld.LEV_HIST_STATUS_COUNT : Fld := ⟨0x4B000024, 8, 6⟩
abbrev Fld.LEV_HIST_STATUS_NEXT : Fld := ⟨0x4B000024, 0, 5⟩
/-- LEV_HIST_TOTAL, TOTAL of Levee (R427, RO). -/
abbrev Fld.LEV_HIST_TOTAL_TOTAL : Fld := ⟨0x4B000028, 0, 32⟩
/-- LEV_LATCH(k), LINE of Levee (R427, RO). -/
abbrev Fld.LEV_LATCH_LINE (k : Nat) : Fld := ⟨0x4B000040 + 0x4 * (k % 7), 0, 32⟩
/-- LEV_HIST(e, w), DATA of Levee (R427, RO). -/
abbrev Fld.LEV_HIST_DATA (e : Nat) (w : Nat) : Fld := ⟨0x4B001000 + 0x10 * (e % 32) + 0x4 * (w % 4), 0, 32⟩
/-- LEV_SRC(src), FIXED of Levee (R427, RO). -/
abbrev Fld.LEV_SRC_FIXED (src : Nat) : Fld := ⟨0x4B010000 + 0x4 * (src % 65536), 31, 1⟩
abbrev Fld.LEV_SRC_CLASS (src : Nat) : Fld := ⟨0x4B010000 + 0x4 * (src % 65536), 24, 2⟩
abbrev Fld.LEV_SRC_INSTANCES (src : Nat) : Fld := ⟨0x4B010000 + 0x4 * (src % 65536), 16, 8⟩
abbrev Fld.LEV_SRC_FIRST_LINE (src : Nat) : Fld := ⟨0x4B010000 + 0x4 * (src % 65536), 8, 8⟩
abbrev Fld.LEV_SRC_REACT (src : Nat) : Fld := ⟨0x4B010000 + 0x4 * (src % 65536), 0, 5⟩
/-- DYKE_CHIP_ID, PART of Dyke (R3, RO). -/
abbrev Fld.DYKE_CHIP_ID_PART : Fld := ⟨0x4C000000, 16, 16⟩
abbrev Fld.DYKE_CHIP_ID_STEP_LETTER : Fld := ⟨0x4C000000, 8, 8⟩
abbrev Fld.DYKE_CHIP_ID_STEP_NUM : Fld := ⟨0x4C000000, 4, 4⟩
/-- DYKE_STATUS, LIFECYCLE of Dyke (R455, RO). -/
abbrev Fld.DYKE_STATUS_LIFECYCLE : Fld := ⟨0x4C000004, 30, 2⟩
abbrev Fld.DYKE_STATUS_FACTORY : Fld := ⟨0x4C000004, 29, 1⟩
abbrev Fld.DYKE_STATUS_STRAP : Fld := ⟨0x4C000004, 28, 1⟩
abbrev Fld.DYKE_STATUS_UDS_LOCK : Fld := ⟨0x4C000004, 27, 1⟩
abbrev Fld.DYKE_STATUS_STAGE : Fld := ⟨0x4C000004, 16, 4⟩
/-- DYKE_BOOT, KIND of Dyke (R455, RO). -/
abbrev Fld.DYKE_BOOT_KIND : Fld := ⟨0x4C000008, 30, 2⟩
abbrev Fld.DYKE_BOOT_TRIAL : Fld := ⟨0x4C000008, 29, 1⟩
abbrev Fld.DYKE_BOOT_FALLBACK : Fld := ⟨0x4C000008, 28, 1⟩
abbrev Fld.DYKE_BOOT_TRIES : Fld := ⟨0x4C000008, 24, 4⟩
abbrev Fld.DYKE_BOOT_ROM_TIME : Fld := ⟨0x4C000008, 0, 16⟩
/-- DYKE_SLOT, SEQ of Dyke (R455, RO). -/
abbrev Fld.DYKE_SLOT_SEQ : Fld := ⟨0x4C00000C, 16, 16⟩
abbrev Fld.DYKE_SLOT_INACTIVE : Fld := ⟨0x4C00000C, 10, 2⟩
abbrev Fld.DYKE_SLOT_CONFIRMED : Fld := ⟨0x4C00000C, 9, 1⟩
abbrev Fld.DYKE_SLOT_POINTED : Fld := ⟨0x4C00000C, 8, 1⟩
abbrev Fld.DYKE_SLOT_RUNNING : Fld := ⟨0x4C00000C, 0, 1⟩
/-- DYKE_UID(k), UID of Dyke (R455, RO). -/
abbrev Fld.DYKE_UID_UID (k : Nat) : Fld := ⟨0x4C000010 + 0x4 * (k % 4), 0, 32⟩
/-- DYKE_MR_EXT, GO of Dyke (R455, WO). -/
abbrev Fld.DYKE_MR_EXT_GO : Fld := ⟨0x4C000020, 31, 1⟩
abbrev Fld.DYKE_MR_EXT_ERR : Fld := ⟨0x4C000020, 30, 1⟩
abbrev Fld.DYKE_MR_EXT_BUSY : Fld := ⟨0x4C000020, 29, 1⟩
abbrev Fld.DYKE_MR_EXT_REG : Fld := ⟨0x4C000020, 0, 4⟩
/-- DYKE_EXT_DATA(w), DATA of Dyke (R455, WO). -/
abbrev Fld.DYKE_EXT_DATA_DATA (w : Nat) : Fld := ⟨0x4C000040 + 0x4 * (w % 12), 0, 32⟩
/-- DYKE_FLOOR(p), COUNT of Dyke (R455, RO). -/
abbrev Fld.DYKE_FLOOR_COUNT (p : Nat) : Fld := ⟨0x4C000100 + 0x4 * (p % 8), 0, 7⟩
/-- DYKE_VER(p), VERSION of Dyke (R455, RO). -/
abbrev Fld.DYKE_VER_VERSION (p : Nat) : Fld := ⟨0x4C000140 + 0x4 * (p % 7), 0, 32⟩
/-- DYKE_MR(r, w), DATA of Dyke (R455, RO). -/
abbrev Fld.DYKE_MR_DATA (r : Nat) (w : Nat) : Fld := ⟨0x4C000400 + 0x30 * (r % 16) + 0x4 * (w % 12), 0, 32⟩
/-- PEAT_STATUS, FLUSHING of Peat (R473, RO). -/
abbrev Fld.PEAT_STATUS_FLUSHING : Fld := ⟨0x4D000000, 31, 1⟩
abbrev Fld.PEAT_STATUS_NOR_ERR : Fld := ⟨0x4D000000, 30, 1⟩
abbrev Fld.PEAT_STATUS_STG_LOSS : Fld := ⟨0x4D000000, 29, 1⟩
abbrev Fld.PEAT_STATUS_STAMP_WAIT : Fld := ⟨0x4D000000, 28, 1⟩
abbrev Fld.PEAT_STATUS_HELD : Fld := ⟨0x4D000000, 15, 13⟩
abbrev Fld.PEAT_STATUS_USED : Fld := ⟨0x4D000000, 0, 13⟩
/-- PEAT_CTRL, FLUSH of Peat (R473, WO). -/
abbrev Fld.PEAT_CTRL_FLUSH : Fld := ⟨0x4D000004, 0, 1⟩
/-- PEAT_PCC, COUNT of Peat (R473, RWL). -/
abbrev Fld.PEAT_PCC_COUNT : Fld := ⟨0x4D000008, 0, 32⟩
/-- PEAT_FRZ, AREA of Peat (R473, RW). -/
abbrev Fld.PEAT_FRZ_AREA : Fld := ⟨0x4D00000C, 0, 10⟩
/-- PEAT_CUR_AREA, AREA of Peat (R473, RW). -/
abbrev Fld.PEAT_CUR_AREA_AREA : Fld := ⟨0x4D000010, 0, 4⟩
/-- PEAT_CUR, OFFSET of Peat (R473, RW). -/
abbrev Fld.PEAT_CUR_OFFSET : Fld := ⟨0x4D000014, 2, 30⟩
/-- PEAT_WIN_STATUS, VALID of Peat (R473, RO). -/
abbrev Fld.PEAT_WIN_STATUS_VALID : Fld := ⟨0x4D000018, 31, 1⟩
abbrev Fld.PEAT_WIN_STATUS_END : Fld := ⟨0x4D000018, 30, 1⟩
abbrev Fld.PEAT_WIN_STATUS_BYTES : Fld := ⟨0x4D000018, 0, 13⟩
/-- PEAT_RSEQ(k), LOST of Peat (R473, RO). -/
abbrev Fld.PEAT_RSEQ_LOST (k : Nat) : Fld := ⟨0x4D000020 + 0x4 * (k % 5), 16, 16⟩
abbrev Fld.PEAT_RSEQ_NEXT (k : Nat) : Fld := ⟨0x4D000020 + 0x4 * (k % 5), 0, 16⟩
/-- PEAT_AREA_REC(a), COUNT of Peat (R473, RO). -/
abbrev Fld.PEAT_AREA_REC_COUNT (a : Nat) : Fld := ⟨0x4D000040 + 0x4 * (a % 10), 0, 32⟩
/-- PEAT_AREA_BYTES(a), BYTES of Peat (R473, RO). -/
abbrev Fld.PEAT_AREA_BYTES_BYTES (a : Nat) : Fld := ⟨0x4D000080 + 0x4 * (a % 10), 0, 32⟩
/-- PEAT_MRSETS, COUNT of Peat (R473, RO). -/
abbrev Fld.PEAT_MRSETS_COUNT : Fld := ⟨0x4D0000C0, 0, 13⟩
/-- PEAT_WIN(w), DATA of Peat (R473, RO). -/
abbrev Fld.PEAT_WIN_DATA (w : Nat) : Fld := ⟨0x4D001000 + 0x4 * (w % 1024), 0, 32⟩
/-- STH_BOOT, CFG_RDY of Staithe (R487, RWS). -/
abbrev Fld.STH_BOOT_CFG_RDY : Fld := ⟨0x40000010, 31, 1⟩
abbrev Fld.STH_BOOT_PERST_B : Fld := ⟨0x40000010, 3, 1⟩
abbrev Fld.STH_BOOT_PERST_A : Fld := ⟨0x40000010, 2, 1⟩
abbrev Fld.STH_BOOT_LINK_B : Fld := ⟨0x40000010, 1, 1⟩
abbrev Fld.STH_BOOT_LINK_A : Fld := ⟨0x40000010, 0, 1⟩
/-- MBX_START, RESULT of Mire (R488, RO). -/
abbrev Fld.MBX_START_RESULT : Fld := ⟨0x45000010, 30, 2⟩
abbrev Fld.MBX_START_STEP : Fld := ⟨0x45000010, 24, 4⟩
abbrev Fld.MBX_START_CAUSE : Fld := ⟨0x45000010, 16, 8⟩
abbrev Fld.MBX_START_KIND : Fld := ⟨0x45000010, 12, 2⟩
abbrev Fld.MBX_START_FAILED : Fld := ⟨0x45000010, 8, 4⟩
abbrev Fld.MBX_START_LOADED : Fld := ⟨0x45000010, 0, 4⟩

end Sys2Proof.Machine
end

