-- ==== Sys2Proof/Machine/RegTable.lean ====
section
/-! DEFINITION. The register index (R510) with the field tables it names: for each register its base address, its index
ranges and, for each field, the bits, the access code of R8, the value after power-on reset and whether the chapter holds it across
warm reset (R11). -/

namespace Sys2Proof.Machine

/-- The access codes of R8. -/
inductive Access where
  | ro | rw | wo | w1c | rws | rwl
deriving DecidableEq, Repr

/-- One field of a register: lowest bit, width, access code, value after power-on reset, held across warm reset (R11). -/
structure FieldRow where
  lo : Nat
  width : Nat
  acc : Access
  reset : Nat
  held : Bool
deriving DecidableEq, Repr

/-- The registers of the index R510, by name. -/
inductive RegId where
  | TIDE_MANG | TIDE_STATUS | TIDE_CTRL | TIDE_CELL_PERIOD | TIDE_OPT_LO | TIDE_OPT_HI
  | TIDE_ESI_PERIOD | TIDE_ESI_PHASE | TIDE_T1_OFS | TIDE_CG_EN | TIDE_SURF_OFS | TIDE_SURF_SLIP
  | TIDE_ST_CBPC | TIDE_ST_PHASE | WTH_SPN_CTRL | WTH_SPN_STATUS | WTH_SPN_SPEED | WTH_SPN_MEAS
  | WTH_SPN_CFG | WTH_SPN_CUR | WTH_SPN_KE | WTH_HOLD | WTH_SPN_FOC | WTH_FAULT
  | WTH_VCM_CTRL | WTH_VCM_STATUS | WTH_RET_CFG | WTH_RET_CTRL | WTH_MA_CTRL | WTH_MA_STATUS
  | TUS_CTRL | TUS_STATUS | TUS_TBL_BASE | TUS_XC_EXP | TUS_RV_CFG | TUS_TEMP_CFG
  | TUS_SPN_KP | TUS_SPN_KI | TUS_XC | TUS_SEC_CTRL | TUS_SEC_STATUS | TUS_VWEIGHT
  | TUS_SAT_CNT | TUS_ZONE_BND | TUS_SEC_INFO | TUS_CAP | TUS_SPN_PROF | TUS_SPN_REF
  | TUS_SEEK_GLOBAL | TUS_SEEK_CTRL | TUS_SEEK_TGT | TUS_PROF_V | TUS_PROF_A | TUS_PROF_J
  | TUS_SETTLE | TUS_SEEK_STATUS | REED_UCODE_VER | REED_CS_CTRL | REED_CS_DATA | REED_SYNC_CFG
  | REED_WEDGE | REED_PATCH | REED_ST_CTRL | REED_ST_STATUS | REED_ST_PC | REED_ST_THRESH
  | REED_ST_EVENT | REED_ST_SYNCOFS | REED_ST_CFG | REED_OP | REED_ST_G | SDG_CTRL
  | SDG_STATUS | SDG_ST_CTRL | SDG_ST_STATUS | SDG_FE_CFG | SDG_FE_STATUS | SDG_RDR_SKEW
  | SDG_EQ_CFG | SDG_TGT | SDG_COEF_ADDR | SDG_COEF_DATA | SDG_CODE | SDG_DEF_TA
  | SDG_DEF_DO | SDG_SM_CFG | SDG_SM_PAT | SDG_RSM_PAT | SDG_SEAL_TRK | SDG_RESULT
  | SDG_RESULT_X | SDG_TEL | SDG_SHOCK_CFG | SDG_WF_STATUS | SDG_WR_CFG | SDG_WR_STATUS
  | SDG_WR_DROP | SDG_VFY_CFG | SDG_VFY_RESULT | SDG_WPC | SDG_WPC_ANG | MBX_INFO
  | MBX_EPOCH | MBX_DONE | MBX_REQ | MBX_RSP | MBX_DB | MBX_STAT
  | MBX_CTRL | MBX_LATCH | MBX_LATCH_GEN | MBX_LATCH_RSP | MWQ_BASE_LO | MWQ_BASE_HI
  | MWQ_CFG | MWQ_HEAD | MWQ_DB | MWQ_STATUS | MWC_BASE_LO | MWC_BASE_HI
  | MWC_CFG | MWC_PI | MWC_CI | MWC_SPILL_LO | MWC_SPILL_HI | MWC_STATUS
  | MWQ_CANCEL | MWQ_CANCEL_RES | MWQ_SYS_STATUS | STH_CTRL | STH_STATUS | STH_ADM_CFG
  | STH_LOCK_STATUS | STH_NEW | STH_CPL_DW0 | STH_CPL | STH_CTX_END | STH_ZA_SET
  | STH_ZA_LBA_LO | STH_ZA_LBA_HI | STH_FATE_STATUS | STH_FATE_CUR | STH_FATE_SET | STH_FATE_DROP
  | STH_FATE_DATA | STH_FATE_CLR | STH_CTL_CFG | STH_PS | STH_IDLE_STATUS | STH_IDLE
  | STH_CTX | STH_CTX_SCR | SLU_STATUS | SLU_DRAM_CFG | SLU_PC_CFG | SLU_SEC_FREE
  | SLU_SEC_RUN | SLU_LED_CUR | SLU_LED_REL | SLU_LED_FILL | SLU_LED_DATA | SLU_NS_CFG
  | SLU_CRED_C | SLU_CRED_Q | SLU_CRED_USED | SLU_KEY_CTRL | SLU_KEY_DATA | SLU_STG_STATUS
  | SLU_RA_CFG | SLU_RA_CMD | SLU_RA_RES | SLU_RA_MISS | SLU_RA_ARG0 | SLU_RA_ARG1
  | SLU_RA_ARG2 | SLU_RA_ARG3 | CSW_CTRL | CSW_STATUS | CSW_LIMIT | CSW_HOG
  | CSW_PRIO | CSW_SLOT | LODE_STATUS | LODE_IRQ | LODE_REQ | LODE_CH_CTRL
  | LODE_CH_STATUS | LODE_CH_HEAD_LO | LODE_CH_HEAD_HI | LODE_CH_CUR_LO | LODE_CH_CUR_HI | LODE_CH_END_LO
  | LODE_CH_END_HI | LODE_CH_SRC_LO | LODE_CH_SRC_HI | LODE_CH_DST_LO | LODE_CH_DST_HI | LODE_CH_REMAIN
  | LODE_CH_BURST_LEFT | CARR_CTRL | CARR_STATUS | CARR_CFG | CARR_LOCK | CARR_WIN_BASE_LO
  | CARR_WIN_BASE_HI | CARR_WIN_SIZE | CARR_OP | CARR_OP_ADDR_LO | CARR_OP_ADDR_HI | CARR_OP_LINES
  | CARR_OP_STATUS | CARR_STAT | SLU_ECC_CE | SLU_ECC_LAST_LO | SLU_ECC_LAST_HI | SLU_SCRB_CTRL
  | SLU_SCRB_STATUS | SLU_SCRB_BASE_LO | SLU_SCRB_BASE_HI | SLU_SCRB_LEN | SLU_SCRB_NEXT_LO | SLU_SCRB_NEXT_HI
  | SLU_SCRB_CE | SLU_PM_STATUS | SLU_PM_CUR | SLU_PM_DATA_LO | SLU_PM_DATA_HI | SLU_PM_ACK
  | WEIR_STATUS | WEIR_CTRL | WEIR_PF_CFG | WEIR_PF_CTRL | WEIR_MEAS_V12 | WEIR_MEAS_VHB
  | WEIR_MEAS_V5 | WEIR_MIN_V12 | WEIR_CHOP | WEIR_REG_STATUS | WEIR_FAULT | WEIR_AON_STATUS
  | WEIR_AON_CNT | LEV_STATUS | LEV_CTRL | LEV_IRQ | LEV_HEARTBEAT | LEV_WDOG
  | LEV_RESET | LEV_RESET_CAUSE | LEV_CLR | LEV_INJ | LEV_HIST_STATUS | LEV_HIST_TOTAL
  | LEV_LATCH | LEV_HIST | LEV_SRC | DYKE_CHIP_ID | DYKE_STATUS | DYKE_BOOT
  | DYKE_SLOT | DYKE_UID | DYKE_MR_EXT | DYKE_EXT_DATA | DYKE_FLOOR | DYKE_VER
  | DYKE_MR | PEAT_STATUS | PEAT_CTRL | PEAT_PCC | PEAT_FRZ | PEAT_CUR_AREA
  | PEAT_CUR | PEAT_WIN_STATUS | PEAT_RSEQ | PEAT_AREA_REC | PEAT_AREA_BYTES | PEAT_MRSETS
  | PEAT_WIN | STH_BOOT | MBX_START
deriving DecidableEq, Repr

/-- One register of the index: its name, the address where every index is 0, its indices as (stride, count, first) and its fields. -/
structure RegRow where
  id : RegId
  base : Nat
  dims : List (Nat × Nat × Nat)
  fields : List FieldRow
deriving DecidableEq, Repr

/-- The registers of the Staithe window, 0x40000000. -/
def regsStaithe : List RegRow :=
  [ ⟨.STH_CTRL, 0x40000000, [],
      [⟨31, 1, .rw, 0x0, false⟩, ⟨30, 1, .rw, 0x0, false⟩]⟩,
    ⟨.STH_STATUS, 0x40000004, [],
      [⟨31, 1, .ro, 0x0, false⟩, ⟨30, 1, .ro, 0x0, false⟩, ⟨29, 1, .w1c, 0x0, false⟩, ⟨28, 1, .w1c, 0x0, false⟩, ⟨0, 13, .ro, 0x0, false⟩]⟩,
    ⟨.STH_ADM_CFG, 0x40000008, [],
      [⟨0, 16, .rw, 0xA, false⟩]⟩,
    ⟨.STH_LOCK_STATUS, 0x4000000C, [],
      [⟨16, 13, .ro, 0x0, false⟩, ⟨0, 12, .ro, 0x0, false⟩]⟩,
    ⟨.STH_NEW, 0x40000020, [(0x4, 8, 0)],
      [⟨31, 1, .ro, 0x0, false⟩, ⟨30, 1, .ro, 0x0, false⟩, ⟨29, 1, .ro, 0x0, false⟩, ⟨0, 12, .ro, 0x0, false⟩]⟩,
    ⟨.STH_CPL_DW0, 0x40000040, [(0x8, 8, 0)],
      [⟨0, 32, .rw, 0x0, false⟩]⟩,
    ⟨.STH_CPL, 0x40000044, [(0x8, 8, 0)],
      [⟨12, 15, .wo, 0x0, false⟩, ⟨0, 12, .wo, 0x0, false⟩]⟩,
    ⟨.STH_CTX_END, 0x40000080, [],
      [⟨30, 2, .wo, 0x0, false⟩, ⟨16, 8, .wo, 0x0, false⟩, ⟨0, 12, .wo, 0x0, false⟩]⟩,
    ⟨.STH_ZA_SET, 0x40000084, [],
      [⟨0, 12, .wo, 0x0, false⟩]⟩,
    ⟨.STH_ZA_LBA_LO, 0x40000088, [],
      [⟨0, 32, .rw, 0x0, false⟩]⟩,
    ⟨.STH_ZA_LBA_HI, 0x4000008C, [],
      [⟨0, 32, .rw, 0x0, false⟩]⟩,
    ⟨.STH_FATE_STATUS, 0x40000090, [],
      [⟨16, 13, .ro, 0x0, true⟩, ⟨0, 14, .ro, 0x0, true⟩]⟩,
    ⟨.STH_FATE_CUR, 0x40000094, [],
      [⟨0, 13, .rw, 0x0, false⟩]⟩,
    ⟨.STH_FATE_SET, 0x40000098, [],
      [⟨30, 2, .wo, 0x0, false⟩, ⟨16, 8, .wo, 0x0, false⟩, ⟨0, 13, .wo, 0x0, false⟩]⟩,
    ⟨.STH_FATE_DROP, 0x4000009C, [],
      [⟨0, 32, .ro, 0x0, true⟩]⟩,
    ⟨.STH_FATE_DATA, 0x400000A0, [(0x4, 4, 0)],
      [⟨0, 32, .ro, 0x0, false⟩]⟩,
    ⟨.STH_FATE_CLR, 0x400000B0, [],
      [⟨0, 5, .wo, 0x0, false⟩]⟩,
    ⟨.STH_CTL_CFG, 0x40000100, [(0x4, 32, 0)],
      [⟨31, 1, .ro, 0x0, false⟩, ⟨30, 1, .ro, 0x0, false⟩, ⟨24, 3, .rw, 0x0, false⟩, ⟨0, 13, .rw, 0x0, false⟩]⟩,
    ⟨.STH_PS, 0x40000200, [],
      [⟨8, 3, .rw, 0x0, false⟩, ⟨0, 3, .rw, 0x0, true⟩]⟩,
    ⟨.STH_IDLE_STATUS, 0x40000204, [],
      [⟨28, 4, .w1c, 0x0, false⟩, ⟨0, 24, .ro, 0x0, false⟩]⟩ ]

/-- More registers of the Staithe window. -/
def regsStaithe2 : List RegRow :=
  [ ⟨.STH_IDLE, 0x40000204, [(0x4, 4, 1)],
      [⟨0, 24, .rw, 0x0, false⟩]⟩,
    ⟨.STH_CTX, 0x40100000, [(0x80, 4096, 0), (0x4, 24, 0)],
      [⟨0, 32, .ro, 0x0, false⟩]⟩,
    ⟨.STH_CTX_SCR, 0x40100000, [(0x80, 4096, 0), (0x4, 8, 24)],
      [⟨0, 32, .rw, 0x0, false⟩]⟩,
    ⟨.STH_BOOT, 0x40000010, [],
      [⟨31, 1, .rws, 0x0, false⟩, ⟨3, 1, .ro, 0x0, false⟩, ⟨2, 1, .ro, 0x0, false⟩, ⟨1, 1, .ro, 0x0, false⟩, ⟨0, 1, .ro, 0x0, false⟩]⟩ ]

/-- The registers of the Sluice window, 0x41000000. -/
def regsSluice : List RegRow :=
  [ ⟨.SLU_STATUS, 0x41000000, [],
      [⟨31, 1, .w1c, 0x0, false⟩, ⟨0, 16, .ro, 0x8000, true⟩]⟩,
    ⟨.SLU_DRAM_CFG, 0x41000004, [],
      [⟨24, 2, .ro, 0x0, false⟩, ⟨16, 2, .ro, 0x0, false⟩, ⟨0, 1, .ro, 0x0, false⟩]⟩,
    ⟨.SLU_PC_CFG, 0x41000008, [],
      [⟨31, 1, .rws, 0x0, false⟩, ⟨16, 2, .rws, 0x0, false⟩, ⟨0, 10, .rws, 0x40, false⟩]⟩,
    ⟨.SLU_SEC_FREE, 0x41000010, [(0x4, 4, 0)],
      [⟨0, 17, .ro, 0x0, false⟩]⟩,
    ⟨.SLU_SEC_RUN, 0x41000020, [(0x4, 4, 0)],
      [⟨0, 17, .ro, 0x0, false⟩]⟩,
    ⟨.SLU_LED_CUR, 0x41000040, [],
      [⟨0, 15, .rw, 0x0, false⟩]⟩,
    ⟨.SLU_LED_REL, 0x41000044, [],
      [⟨0, 15, .wo, 0x0, false⟩]⟩,
    ⟨.SLU_LED_FILL, 0x41000048, [],
      [⟨0, 12, .wo, 0x0, false⟩]⟩,
    ⟨.SLU_LED_DATA, 0x41000050, [(0x4, 4, 0)],
      [⟨0, 32, .ro, 0x0, false⟩]⟩,
    ⟨.SLU_NS_CFG, 0x41000100, [(0x4, 16, 0)],
      [⟨30, 2, .rws, 0x0, false⟩, ⟨24, 2, .rws, 0x0, false⟩, ⟨0, 6, .rws, 0x0, false⟩]⟩,
    ⟨.SLU_CRED_C, 0x41000200, [(0x8, 32, 0)],
      [⟨0, 19, .rws, 0x40000, false⟩]⟩,
    ⟨.SLU_CRED_Q, 0x41000204, [(0x8, 32, 0)],
      [⟨0, 13, .rws, 0x1000, false⟩]⟩,
    ⟨.SLU_CRED_USED, 0x41000300, [(0x4, 32, 0)],
      [⟨0, 19, .ro, 0x0, false⟩]⟩,
    ⟨.SLU_KEY_CTRL, 0x41000400, [],
      [⟨31, 1, .wo, 0x0, false⟩, ⟨30, 1, .wo, 0x0, false⟩, ⟨29, 1, .ro, 0x0, false⟩, ⟨0, 6, .rw, 0x0, false⟩]⟩,
    ⟨.SLU_KEY_DATA, 0x41000440, [(0x4, 16, 0)],
      [⟨0, 32, .wo, 0x0, false⟩]⟩,
    ⟨.SLU_STG_STATUS, 0x41000500, [(0x4, 8, 0)],
      [⟨31, 1, .ro, 0x0, false⟩, ⟨30, 1, .ro, 0x0, false⟩, ⟨16, 10, .ro, 0x0, false⟩, ⟨0, 10, .ro, 0x0, false⟩]⟩,
    ⟨.SLU_RA_CFG, 0x41000600, [],
      [⟨0, 16, .rw, 0x1F4, false⟩]⟩,
    ⟨.SLU_RA_CMD, 0x41000604, [],
      [⟨28, 4, .wo, 0x0, false⟩, ⟨0, 9, .wo, 0x0, false⟩]⟩,
    ⟨.SLU_RA_RES, 0x41000608, [],
      [⟨30, 2, .ro, 0x0, false⟩, ⟨29, 1, .ro, 0x0, false⟩, ⟨28, 1, .ro, 0x0, false⟩, ⟨16, 9, .ro, 0x0, false⟩, ⟨0, 9, .ro, 0x0, false⟩]⟩,
    ⟨.SLU_RA_MISS, 0x4100060C, [],
      [⟨0, 32, .rw, 0x0, false⟩]⟩ ]

/-- More registers of the Sluice window. -/
def regsSluice2 : List RegRow :=
  [ ⟨.SLU_RA_ARG0, 0x41000610, [],
      [⟨0, 32, .rw, 0x0, false⟩]⟩,
    ⟨.SLU_RA_ARG1, 0x41000614, [],
      [⟨24, 8, .rw, 0x0, false⟩, ⟨16, 4, .rw, 0x0, false⟩, ⟨0, 16, .rw, 0x0, false⟩]⟩,
    ⟨.SLU_RA_ARG2, 0x41000618, [],
      [⟨6, 26, .rw, 0x0, false⟩]⟩,
    ⟨.SLU_RA_ARG3, 0x4100061C, [],
      [⟨16, 2, .rw, 0x0, false⟩, ⟨0, 8, .rw, 0x0, false⟩]⟩,
    ⟨.SLU_ECC_CE, 0x41000800, [],
      [⟨0, 32, .rws, 0x0, false⟩]⟩,
    ⟨.SLU_ECC_LAST_LO, 0x41000804, [],
      [⟨6, 26, .ro, 0x0, true⟩]⟩,
    ⟨.SLU_ECC_LAST_HI, 0x41000808, [],
      [⟨0, 8, .ro, 0x0, true⟩]⟩,
    ⟨.SLU_SCRB_CTRL, 0x41000810, [],
      [⟨31, 1, .wo, 0x0, false⟩, ⟨30, 1, .wo, 0x0, false⟩]⟩,
    ⟨.SLU_SCRB_STATUS, 0x41000814, [],
      [⟨31, 1, .ro, 0x0, false⟩, ⟨30, 1, .ro, 0x0, true⟩, ⟨29, 1, .ro, 0x0, true⟩, ⟨28, 1, .ro, 0x0, true⟩, ⟨27, 1, .w1c, 0x0, false⟩]⟩,
    ⟨.SLU_SCRB_BASE_LO, 0x41000818, [],
      [⟨6, 26, .rws, 0x0, false⟩]⟩,
    ⟨.SLU_SCRB_BASE_HI, 0x4100081C, [],
      [⟨0, 8, .rws, 0x0, false⟩]⟩,
    ⟨.SLU_SCRB_LEN, 0x41000820, [],
      [⟨0, 28, .rws, 0x0, false⟩]⟩,
    ⟨.SLU_SCRB_NEXT_LO, 0x41000824, [],
      [⟨6, 26, .ro, 0x0, true⟩]⟩,
    ⟨.SLU_SCRB_NEXT_HI, 0x41000828, [],
      [⟨0, 8, .ro, 0x0, true⟩]⟩,
    ⟨.SLU_SCRB_CE, 0x4100082C, [],
      [⟨0, 32, .ro, 0x0, true⟩]⟩,
    ⟨.SLU_PM_STATUS, 0x41000840, [],
      [⟨31, 1, .w1c, 0x0, true⟩, ⟨0, 11, .ro, 0x0, true⟩]⟩,
    ⟨.SLU_PM_CUR, 0x41000844, [],
      [⟨0, 10, .rw, 0x0, false⟩]⟩,
    ⟨.SLU_PM_DATA_LO, 0x41000848, [],
      [⟨6, 26, .ro, 0x0, false⟩, ⟨5, 1, .ro, 0x0, false⟩, ⟨4, 1, .ro, 0x0, false⟩]⟩,
    ⟨.SLU_PM_DATA_HI, 0x4100084C, [],
      [⟨26, 6, .ro, 0x0, false⟩, ⟨0, 8, .ro, 0x0, false⟩]⟩,
    ⟨.SLU_PM_ACK, 0x41000850, [],
      [⟨0, 10, .wo, 0x0, false⟩]⟩ ]

/-- The registers of the Causeway window, 0x42000000. -/
def regsCauseway : List RegRow :=
  [ ⟨.CSW_CTRL, 0x42000000, [],
      [⟨31, 1, .wo, 0x0, false⟩]⟩,
    ⟨.CSW_STATUS, 0x42000004, [],
      [⟨31, 1, .ro, 0x0, false⟩, ⟨30, 1, .w1c, 0x0, false⟩, ⟨29, 1, .w1c, 0x0, false⟩, ⟨0, 8, .ro, 0xB4, false⟩]⟩,
    ⟨.CSW_LIMIT, 0x42000008, [],
      [⟨0, 8, .rws, 0x10, false⟩]⟩,
    ⟨.CSW_HOG, 0x4200000C, [],
      [⟨0, 16, .w1c, 0x0, false⟩]⟩,
    ⟨.CSW_PRIO, 0x42000010, [(0x4, 2, 0)],
      [⟨28, 4, .rws, 0x0, false⟩, ⟨24, 4, .rws, 0x0, false⟩, ⟨20, 4, .rws, 0x0, false⟩, ⟨16, 4, .rws, 0x0, false⟩, ⟨12, 4, .rws, 0x0, false⟩, ⟨8, 4, .rws, 0x0, false⟩, ⟨4, 4, .rws, 0x0, false⟩, ⟨0, 4, .rws, 0x0, false⟩]⟩,
    ⟨.CSW_SLOT, 0x42000100, [(0x100, 2, 0), (0x4, 64, 0)],
      [⟨24, 6, .rws, 0x0, false⟩, ⟨16, 6, .rws, 0x0, false⟩, ⟨8, 6, .rws, 0x0, false⟩, ⟨0, 6, .rws, 0x0, false⟩]⟩ ]

/-- The registers of the Carr window, 0x43000000. -/
def regsCarr : List RegRow :=
  [ ⟨.CARR_CTRL, 0x43000000, [],
      [⟨31, 1, .rw, 0x0, false⟩, ⟨1, 1, .wo, 0x0, false⟩, ⟨0, 1, .wo, 0x0, false⟩]⟩,
    ⟨.CARR_STATUS, 0x43000004, [],
      [⟨30, 2, .ro, 0x0, false⟩, ⟨29, 1, .w1c, 0x0, false⟩, ⟨0, 3, .ro, 0x0, false⟩]⟩,
    ⟨.CARR_CFG, 0x43000008, [],
      [⟨0, 1, .rw, 0x1, false⟩]⟩,
    ⟨.CARR_LOCK, 0x4300000C, [],
      [⟨0, 16, .rw, 0x0, false⟩]⟩,
    ⟨.CARR_WIN_BASE_LO, 0x43000010, [],
      [⟨20, 12, .rw, 0x0, false⟩]⟩,
    ⟨.CARR_WIN_BASE_HI, 0x43000014, [],
      [⟨0, 8, .rw, 0x0, false⟩]⟩,
    ⟨.CARR_WIN_SIZE, 0x43000018, [],
      [⟨0, 14, .rw, 0x0, false⟩]⟩,
    ⟨.CARR_OP, 0x43000020, [],
      [⟨28, 4, .wo, 0x0, false⟩, ⟨16, 4, .wo, 0x0, false⟩]⟩,
    ⟨.CARR_OP_ADDR_LO, 0x43000024, [],
      [⟨6, 26, .rw, 0x0, false⟩]⟩,
    ⟨.CARR_OP_ADDR_HI, 0x43000028, [],
      [⟨0, 8, .rw, 0x0, false⟩]⟩,
    ⟨.CARR_OP_LINES, 0x4300002C, [],
      [⟨0, 19, .rw, 0x0, false⟩]⟩,
    ⟨.CARR_OP_STATUS, 0x43000030, [],
      [⟨31, 1, .ro, 0x0, false⟩, ⟨30, 1, .w1c, 0x0, false⟩, ⟨0, 19, .ro, 0x0, false⟩]⟩,
    ⟨.CARR_STAT, 0x43000100, [(0x4, 8, 0)],
      [⟨0, 32, .ro, 0x0, false⟩]⟩ ]

/-- The registers of the Lode window, 0x44000000. -/
def regsLode : List RegRow :=
  [ ⟨.LODE_STATUS, 0x44000000, [],
      [⟨0, 32, .ro, 0x0, false⟩]⟩,
    ⟨.LODE_IRQ, 0x44000004, [],
      [⟨0, 32, .w1c, 0x0, false⟩]⟩,
    ⟨.LODE_REQ, 0x44000008, [],
      [⟨1, 15, .ro, 0x0, false⟩]⟩,
    ⟨.LODE_CH_CTRL, 0x44000100, [(0x40, 32, 0)],
      [⟨31, 1, .wo, 0x0, false⟩, ⟨30, 1, .wo, 0x0, false⟩, ⟨29, 1, .rw, 0x0, false⟩, ⟨8, 1, .rw, 0x0, false⟩, ⟨0, 3, .rw, 0x0, false⟩]⟩,
    ⟨.LODE_CH_STATUS, 0x44000104, [(0x40, 32, 0)],
      [⟨29, 3, .ro, 0x0, false⟩, ⟨28, 1, .w1c, 0x0, false⟩, ⟨27, 1, .w1c, 0x0, false⟩, ⟨26, 1, .w1c, 0x0, false⟩, ⟨25, 1, .w1c, 0x0, false⟩, ⟨24, 1, .w1c, 0x0, false⟩, ⟨0, 16, .ro, 0x0, false⟩]⟩,
    ⟨.LODE_CH_HEAD_LO, 0x44000108, [(0x40, 32, 0)],
      [⟨6, 26, .rw, 0x0, false⟩]⟩,
    ⟨.LODE_CH_HEAD_HI, 0x4400010C, [(0x40, 32, 0)],
      [⟨0, 8, .rw, 0x0, false⟩]⟩,
    ⟨.LODE_CH_CUR_LO, 0x44000110, [(0x40, 32, 0)],
      [⟨6, 26, .ro, 0x0, false⟩]⟩,
    ⟨.LODE_CH_CUR_HI, 0x44000114, [(0x40, 32, 0)],
      [⟨0, 8, .ro, 0x0, false⟩]⟩,
    ⟨.LODE_CH_END_LO, 0x44000118, [(0x40, 32, 0)],
      [⟨6, 26, .ro, 0x0, false⟩]⟩,
    ⟨.LODE_CH_END_HI, 0x4400011C, [(0x40, 32, 0)],
      [⟨0, 8, .ro, 0x0, false⟩]⟩,
    ⟨.LODE_CH_SRC_LO, 0x44000120, [(0x40, 32, 0)],
      [⟨0, 32, .ro, 0x0, false⟩]⟩,
    ⟨.LODE_CH_SRC_HI, 0x44000124, [(0x40, 32, 0)],
      [⟨0, 8, .ro, 0x0, false⟩]⟩,
    ⟨.LODE_CH_DST_LO, 0x44000128, [(0x40, 32, 0)],
      [⟨0, 32, .ro, 0x0, false⟩]⟩,
    ⟨.LODE_CH_DST_HI, 0x4400012C, [(0x40, 32, 0)],
      [⟨0, 8, .ro, 0x0, false⟩]⟩,
    ⟨.LODE_CH_REMAIN, 0x44000130, [(0x40, 32, 0)],
      [⟨0, 24, .ro, 0x0, false⟩]⟩,
    ⟨.LODE_CH_BURST_LEFT, 0x44000134, [(0x40, 32, 0)],
      [⟨0, 13, .ro, 0x0, false⟩]⟩ ]

/-- The registers of the Mire window, 0x45000000. -/
def regsMire : List RegRow :=
  [ ⟨.MBX_INFO, 0x45000000, [],
      [⟨24, 8, .ro, 0x0, false⟩, ⟨16, 8, .ro, 0x0, false⟩, ⟨0, 1, .ro, 0x0, false⟩]⟩,
    ⟨.MBX_EPOCH, 0x45000004, [],
      [⟨8, 8, .ro, 0x0, false⟩, ⟨0, 8, .ro, 0x0, true⟩]⟩,
    ⟨.MBX_DONE, 0x45000008, [(0x4, 2, 0)],
      [⟨0, 32, .ro, 0x0, false⟩]⟩,
    ⟨.MBX_REQ, 0x45010000, [(0x400, 64, 0), (0x4, 64, 0)],
      [⟨0, 32, .rw, 0x0, false⟩]⟩,
    ⟨.MBX_RSP, 0x45010100, [(0x400, 64, 0), (0x4, 64, 0)],
      [⟨0, 32, .ro, 0x0, false⟩]⟩,
    ⟨.MBX_DB, 0x45010200, [(0x400, 64, 0)],
      [⟨2, 1, .wo, 0x0, false⟩, ⟨1, 1, .wo, 0x0, false⟩, ⟨0, 1, .wo, 0x0, false⟩]⟩,
    ⟨.MBX_STAT, 0x45010204, [(0x400, 64, 0)],
      [⟨24, 8, .ro, 0x0, true⟩, ⟨8, 1, .ro, 0x0, false⟩, ⟨5, 1, .w1c, 0x0, false⟩, ⟨4, 1, .w1c, 0x0, false⟩, ⟨2, 1, .ro, 0x0, true⟩, ⟨0, 2, .ro, 0x0, true⟩]⟩,
    ⟨.MBX_CTRL, 0x45010208, [(0x400, 64, 0)],
      [⟨8, 1, .rw, 0x0, false⟩, ⟨0, 3, .rw, 0x0, false⟩]⟩,
    ⟨.MBX_LATCH, 0x4501020C, [(0x400, 64, 0)],
      [⟨16, 16, .ro, 0x0, true⟩, ⟨0, 16, .ro, 0x0, true⟩]⟩,
    ⟨.MBX_LATCH_GEN, 0x45010210, [(0x400, 64, 0)],
      [⟨0, 32, .ro, 0x0, true⟩]⟩,
    ⟨.MBX_LATCH_RSP, 0x45010214, [(0x400, 64, 0)],
      [⟨0, 16, .ro, 0x0, true⟩]⟩,
    ⟨.MWQ_BASE_LO, 0x45020000, [(0x20, 16, 0)],
      [⟨6, 26, .rws, 0x0, false⟩]⟩,
    ⟨.MWQ_BASE_HI, 0x45020004, [(0x20, 16, 0)],
      [⟨0, 8, .rws, 0x0, false⟩]⟩,
    ⟨.MWQ_CFG, 0x45020008, [(0x20, 16, 0)],
      [⟨31, 1, .rws, 0x0, false⟩, ⟨0, 4, .rws, 0x4, false⟩]⟩,
    ⟨.MWQ_HEAD, 0x4502000C, [(0x20, 16, 0)],
      [⟨0, 12, .ro, 0x0, true⟩]⟩,
    ⟨.MWQ_DB, 0x45020010, [(0x20, 16, 0)],
      [⟨0, 32, .wo, 0x0, false⟩]⟩,
    ⟨.MWQ_STATUS, 0x45020014, [(0x20, 16, 0)],
      [⟨31, 1, .ro, 0x0, true⟩, ⟨30, 1, .ro, 0x0, true⟩, ⟨28, 1, .w1c, 0x0, true⟩, ⟨0, 13, .ro, 0x0, true⟩]⟩,
    ⟨.MWC_BASE_LO, 0x45020200, [(0x20, 4, 0)],
      [⟨6, 26, .rws, 0x0, false⟩]⟩,
    ⟨.MWC_BASE_HI, 0x45020204, [(0x20, 4, 0)],
      [⟨0, 8, .rws, 0x0, false⟩]⟩,
    ⟨.MWC_CFG, 0x45020208, [(0x20, 4, 0)],
      [⟨31, 1, .rws, 0x0, false⟩, ⟨30, 1, .rws, 0x0, false⟩, ⟨29, 1, .rws, 0x0, false⟩, ⟨24, 3, .rws, 0x0, false⟩, ⟨0, 4, .rws, 0x6, false⟩]⟩ ]

/-- More registers of the Mire window. -/
def regsMire2 : List RegRow :=
  [ ⟨.MWC_PI, 0x4502020C, [(0x20, 4, 0)],
      [⟨12, 1, .ro, 0x1, true⟩, ⟨0, 12, .ro, 0x0, true⟩]⟩,
    ⟨.MWC_CI, 0x45020210, [(0x20, 4, 0)],
      [⟨0, 12, .rws, 0x0, false⟩]⟩,
    ⟨.MWC_SPILL_LO, 0x45020214, [(0x20, 4, 0)],
      [⟨17, 15, .rws, 0x0, false⟩]⟩,
    ⟨.MWC_SPILL_HI, 0x45020218, [(0x20, 4, 0)],
      [⟨0, 8, .rws, 0x0, false⟩]⟩,
    ⟨.MWC_STATUS, 0x4502021C, [(0x20, 4, 0)],
      [⟨31, 1, .ro, 0x0, true⟩, ⟨30, 1, .w1c, 0x0, true⟩, ⟨0, 13, .ro, 0x0, true⟩]⟩,
    ⟨.MWQ_CANCEL, 0x45020300, [],
      [⟨16, 5, .wo, 0x0, false⟩, ⟨0, 12, .wo, 0x0, false⟩]⟩,
    ⟨.MWQ_CANCEL_RES, 0x45020304, [],
      [⟨31, 1, .ro, 0x0, true⟩, ⟨0, 2, .ro, 0x0, true⟩]⟩,
    ⟨.MWQ_SYS_STATUS, 0x45020308, [],
      [⟨16, 16, .ro, 0x0, false⟩, ⟨0, 16, .ro, 0x0, false⟩]⟩,
    ⟨.MBX_START, 0x45000010, [],
      [⟨30, 2, .ro, 0x0, false⟩, ⟨24, 4, .ro, 0x0, false⟩, ⟨16, 8, .ro, 0x0, false⟩, ⟨12, 2, .ro, 0x0, false⟩, ⟨8, 4, .ro, 0x0, false⟩, ⟨0, 4, .ro, 0x0, false⟩]⟩ ]

/-- The registers of the Reed window, 0x46000000. -/
def regsReed : List RegRow :=
  [ ⟨.REED_UCODE_VER, 0x46000000, [],
      [⟨16, 16, .rw, 0x0, false⟩, ⟨0, 16, .rw, 0x0, false⟩]⟩,
    ⟨.REED_CS_CTRL, 0x46000004, [],
      [⟨31, 1, .w1c, 0x0, false⟩, ⟨16, 8, .rw, 0x0, false⟩, ⟨0, 15, .rw, 0x0, false⟩]⟩,
    ⟨.REED_CS_DATA, 0x46000008, [],
      [⟨0, 32, .rw, 0x0, false⟩]⟩,
    ⟨.REED_SYNC_CFG, 0x4600000C, [],
      [⟨0, 8, .rw, 0xC, false⟩]⟩,
    ⟨.REED_WEDGE, 0x46000010, [],
      [⟨16, 12, .rw, 0x28, false⟩, ⟨8, 8, .rw, 0x10, false⟩, ⟨0, 8, .rw, 0x2, false⟩]⟩,
    ⟨.REED_PATCH, 0x46000040, [(0x4, 16, 0)],
      [⟨31, 1, .rw, 0x0, false⟩, ⟨16, 11, .rw, 0x0, false⟩, ⟨0, 14, .rw, 0x0, false⟩]⟩,
    ⟨.REED_ST_CTRL, 0x46001000, [(0x100, 8, 0)],
      [⟨31, 1, .wo, 0x0, false⟩, ⟨30, 1, .wo, 0x0, false⟩, ⟨29, 1, .rw, 0x0, false⟩, ⟨16, 1, .rw, 0x0, false⟩, ⟨15, 1, .wo, 0x0, false⟩, ⟨0, 15, .rw, 0x0, false⟩]⟩,
    ⟨.REED_ST_STATUS, 0x46001004, [(0x100, 8, 0)],
      [⟨30, 2, .ro, 0x0, false⟩, ⟨24, 4, .ro, 0x0, false⟩, ⟨16, 8, .ro, 0x0, false⟩, ⟨12, 4, .ro, 0x0, false⟩, ⟨0, 7, .ro, 0x0, false⟩]⟩,
    ⟨.REED_ST_PC, 0x46001008, [(0x100, 8, 0)],
      [⟨16, 15, .ro, 0x0, false⟩, ⟨0, 15, .ro, 0x0, false⟩]⟩,
    ⟨.REED_ST_THRESH, 0x4600100C, [(0x100, 8, 0)],
      [⟨0, 10, .rw, 0x10, false⟩]⟩,
    ⟨.REED_ST_EVENT, 0x46001010, [(0x100, 8, 0)],
      [⟨31, 1, .ro, 0x0, false⟩, ⟨24, 4, .ro, 0x0, false⟩, ⟨0, 22, .ro, 0x0, false⟩]⟩,
    ⟨.REED_ST_SYNCOFS, 0x46001014, [(0x100, 8, 0)],
      [⟨31, 1, .ro, 0x0, false⟩, ⟨0, 16, .ro, 0x0, false⟩]⟩,
    ⟨.REED_ST_CFG, 0x46001018, [(0x100, 8, 0)],
      [⟨0, 4, .rw, 0x4, false⟩]⟩,
    ⟨.REED_OP, 0x46001040, [(0x100, 8, 0), (0x4, 8, 0)],
      [⟨0, 32, .rw, 0x0, false⟩]⟩,
    ⟨.REED_ST_G, 0x46001080, [(0x100, 8, 0), (0x4, 16, 0)],
      [⟨0, 32, .ro, 0x0, false⟩]⟩ ]

/-- The registers of the Sedge window, 0x47000000. -/
def regsSedge : List RegRow :=
  [ ⟨.SDG_CTRL, 0x47000000, [],
      [⟨1, 1, .wo, 0x0, false⟩, ⟨0, 1, .wo, 0x0, false⟩]⟩,
    ⟨.SDG_STATUS, 0x47000004, [],
      [⟨8, 8, .ro, 0x0, false⟩, ⟨0, 8, .ro, 0x0, false⟩]⟩,
    ⟨.SDG_ST_CTRL, 0x47001000, [(0x400, 8, 0)],
      [⟨24, 5, .rw, 0x10, false⟩, ⟨16, 1, .rw, 0x0, false⟩, ⟨14, 1, .rw, 0x0, false⟩, ⟨12, 1, .rw, 0x0, false⟩, ⟨8, 2, .rw, 0x1, false⟩, ⟨4, 3, .rw, 0x0, false⟩, ⟨0, 2, .rw, 0x0, false⟩]⟩,
    ⟨.SDG_ST_STATUS, 0x47001004, [(0x400, 8, 0)],
      [⟨31, 1, .w1c, 0x0, false⟩, ⟨30, 1, .w1c, 0x0, false⟩, ⟨29, 1, .w1c, 0x0, false⟩, ⟨28, 1, .ro, 0x0, false⟩, ⟨16, 7, .ro, 0x0, false⟩, ⟨8, 4, .ro, 0x0, false⟩, ⟨0, 8, .ro, 0x0, false⟩]⟩,
    ⟨.SDG_FE_CFG, 0x47001008, [(0x400, 8, 0)],
      [⟨28, 2, .rw, 0x1, false⟩, ⟨24, 4, .rw, 0x8, false⟩, ⟨20, 4, .rw, 0x4, false⟩, ⟨12, 7, .rw, 0x0, false⟩, ⟨0, 8, .rw, 0x28, false⟩]⟩,
    ⟨.SDG_FE_STATUS, 0x4700100C, [(0x400, 8, 0)],
      [⟨24, 8, .ro, 0x0, false⟩, ⟨16, 7, .ro, 0x0, false⟩, ⟨8, 8, .ro, 0x0, false⟩, ⟨1, 1, .ro, 0x0, false⟩, ⟨0, 1, .ro, 0x0, false⟩]⟩,
    ⟨.SDG_RDR_SKEW, 0x47001010, [(0x400, 8, 0), (0x4, 4, 0)],
      [⟨8, 6, .rw, 0x0, false⟩, ⟨0, 7, .rw, 0x0, false⟩]⟩,
    ⟨.SDG_EQ_CFG, 0x47001020, [(0x400, 8, 0)],
      [⟨20, 4, .rw, 0x4, false⟩, ⟨16, 4, .rw, 0x6, false⟩, ⟨12, 1, .rw, 0x0, false⟩, ⟨0, 8, .rw, 0x18, false⟩]⟩,
    ⟨.SDG_TGT, 0x47001024, [(0x400, 8, 0)],
      [⟨16, 8, .rw, 0xFC, false⟩, ⟨8, 8, .rw, 0x8, false⟩, ⟨0, 8, .rw, 0x30, false⟩]⟩,
    ⟨.SDG_COEF_ADDR, 0x47001028, [(0x400, 8, 0)],
      [⟨0, 9, .rw, 0x0, false⟩]⟩,
    ⟨.SDG_COEF_DATA, 0x4700102C, [(0x400, 8, 0)],
      [⟨0, 26, .rw, 0x0, false⟩]⟩,
    ⟨.SDG_CODE, 0x47001030, [(0x400, 8, 0)],
      [⟨24, 5, .rw, 0xC, false⟩, ⟨16, 2, .rw, 0x0, false⟩, ⟨0, 12, .rw, 0x800, false⟩]⟩,
    ⟨.SDG_DEF_TA, 0x47001034, [(0x400, 8, 0)],
      [⟨24, 8, .rw, 0x40, false⟩, ⟨16, 8, .rw, 0x4, false⟩, ⟨8, 8, .rw, 0x10, false⟩, ⟨0, 8, .rw, 0x40, false⟩]⟩,
    ⟨.SDG_DEF_DO, 0x47001038, [(0x400, 8, 0)],
      [⟨24, 8, .rw, 0x66, false⟩, ⟨16, 8, .rw, 0x18, false⟩, ⟨8, 8, .rw, 0x20, false⟩]⟩,
    ⟨.SDG_SM_CFG, 0x4700103C, [(0x400, 8, 0)],
      [⟨0, 4, .rw, 0x2, false⟩]⟩,
    ⟨.SDG_SM_PAT, 0x47001040, [(0x400, 8, 0)],
      [⟨0, 32, .rw, 0xC8E53A17, false⟩]⟩,
    ⟨.SDG_RSM_PAT, 0x47001044, [(0x400, 8, 0)],
      [⟨0, 32, .rw, 0x5A3CE1B3, false⟩]⟩,
    ⟨.SDG_SEAL_TRK, 0x47001048, [(0x400, 8, 0)],
      [⟨24, 5, .rw, 0x0, false⟩, ⟨0, 22, .rw, 0x0, false⟩]⟩,
    ⟨.SDG_RESULT, 0x47001050, [(0x400, 8, 0)],
      [⟨31, 1, .ro, 0x0, false⟩, ⟨27, 4, .ro, 0x0, false⟩, ⟨24, 3, .ro, 0x0, false⟩, ⟨16, 5, .ro, 0x0, false⟩, ⟨0, 16, .ro, 0x0, false⟩]⟩,
    ⟨.SDG_RESULT_X, 0x47001054, [(0x400, 8, 0)],
      [⟨20, 12, .ro, 0x0, false⟩, ⟨19, 1, .ro, 0x0, false⟩, ⟨16, 3, .ro, 0x0, false⟩, ⟨0, 16, .ro, 0x0, false⟩]⟩ ]

/-- More registers of the Sedge window. -/
def regsSedge2 : List RegRow :=
  [ ⟨.SDG_TEL, 0x47001100, [(0x400, 8, 0), (0x4, 32, 0)],
      [⟨0, 32, .ro, 0x0, false⟩]⟩,
    ⟨.SDG_SHOCK_CFG, 0x47000008, [],
      [⟨31, 1, .rw, 0x1, false⟩, ⟨16, 8, .rw, 0x40, false⟩, ⟨0, 8, .rw, 0x40, false⟩]⟩,
    ⟨.SDG_WF_STATUS, 0x4700000C, [],
      [⟨16, 1, .ro, 0x0, false⟩, ⟨2, 7, .w1c, 0x0, false⟩]⟩,
    ⟨.SDG_WR_CFG, 0x47001060, [(0x400, 8, 0)],
      [⟨17, 1, .rw, 0x0, false⟩, ⟨16, 1, .rw, 0x0, false⟩, ⟨0, 16, .rw, 0x0, false⟩]⟩,
    ⟨.SDG_WR_STATUS, 0x47001064, [(0x400, 8, 0)],
      [⟨31, 1, .ro, 0x0, false⟩, ⟨24, 4, .ro, 0x0, false⟩, ⟨0, 16, .ro, 0x0, false⟩]⟩,
    ⟨.SDG_WR_DROP, 0x47001068, [(0x400, 8, 0)],
      [⟨0, 32, .ro, 0x0, false⟩]⟩,
    ⟨.SDG_VFY_CFG, 0x4700106C, [(0x400, 8, 0)],
      [⟨20, 12, .rw, 0x0, false⟩, ⟨16, 4, .rw, 0x8, false⟩, ⟨8, 8, .rw, 0x28, false⟩, ⟨0, 8, .rw, 0x80, false⟩]⟩,
    ⟨.SDG_VFY_RESULT, 0x47001070, [(0x400, 8, 0)],
      [⟨31, 1, .ro, 0x0, false⟩, ⟨28, 3, .ro, 0x0, false⟩, ⟨16, 12, .ro, 0x0, false⟩, ⟨0, 16, .ro, 0x0, false⟩]⟩,
    ⟨.SDG_WPC, 0x47001080, [(0x400, 8, 0), (0x4, 8, 0)],
      [⟨0, 6, .rw, 0x0, false⟩]⟩,
    ⟨.SDG_WPC_ANG, 0x470010A0, [(0x400, 8, 0), (0x4, 16, 0)],
      [⟨0, 8, .rw, 0x0, false⟩]⟩ ]

/-- The registers of the Tussock window, 0x48000000. -/
def regsTussock : List RegRow :=
  [ ⟨.TUS_CTRL, 0x48000000, [],
      [⟨7, 1, .wo, 0x0, false⟩, ⟨6, 1, .rws, 0x0, false⟩, ⟨5, 1, .rws, 0x0, false⟩, ⟨4, 1, .rw, 0x0, false⟩]⟩,
    ⟨.TUS_STATUS, 0x48000004, [],
      [⟨4, 1, .ro, 0x0, false⟩, ⟨0, 4, .ro, 0x0, false⟩]⟩,
    ⟨.TUS_TBL_BASE, 0x48000008, [],
      [⟨15, 5, .rws, 0x0, false⟩]⟩,
    ⟨.TUS_XC_EXP, 0x4800000C, [],
      [⟨0, 6, .rws, 0x0, false⟩]⟩,
    ⟨.TUS_RV_CFG, 0x48000010, [],
      [⟨16, 16, .rws, 0x0, false⟩, ⟨0, 16, .rws, 0x0, false⟩]⟩,
    ⟨.TUS_TEMP_CFG, 0x48000014, [],
      [⟨16, 2, .rws, 0x0, false⟩, ⟨0, 8, .rws, 0x32, false⟩]⟩,
    ⟨.TUS_SPN_KP, 0x48000018, [],
      [⟨18, 6, .rws, 0x0, false⟩, ⟨0, 18, .rws, 0x0, false⟩]⟩,
    ⟨.TUS_SPN_KI, 0x4800001C, [],
      [⟨18, 6, .rws, 0x0, false⟩, ⟨0, 18, .rws, 0x0, false⟩]⟩,
    ⟨.TUS_XC, 0x48000040, [(0x10, 4, 0), (0x4, 4, 0)],
      [⟨0, 18, .rws, 0x0, false⟩]⟩,
    ⟨.TUS_SEC_CTRL, 0x48000100, [(0x40, 4, 0)],
      [⟨31, 1, .wo, 0x0, false⟩, ⟨30, 1, .rw, 0x0, false⟩, ⟨27, 3, .rws, 0x0, false⟩, ⟨24, 3, .rws, 0x0, false⟩, ⟨20, 1, .rws, 0x0, false⟩, ⟨16, 4, .rws, 0x0, false⟩, ⟨9, 1, .rws, 0x0, false⟩, ⟨8, 1, .wo, 0x0, false⟩, ⟨0, 2, .rws, 0x0, false⟩]⟩,
    ⟨.TUS_SEC_STATUS, 0x48000104, [(0x40, 4, 0)],
      [⟨28, 4, .ro, 0x0, false⟩, ⟨27, 1, .ro, 0x0, false⟩, ⟨26, 1, .ro, 0x0, false⟩, ⟨25, 1, .ro, 0x0, false⟩, ⟨23, 2, .ro, 0x0, false⟩, ⟨8, 8, .ro, 0x0, false⟩, ⟨0, 8, .ro, 0x0, false⟩]⟩,
    ⟨.TUS_VWEIGHT, 0x48000108, [(0x40, 4, 0)],
      [⟨16, 16, .rws, 0x0, false⟩, ⟨0, 16, .rws, 0x8000, false⟩]⟩,
    ⟨.TUS_SAT_CNT, 0x4800010C, [(0x40, 4, 0)],
      [⟨0, 32, .rw, 0x0, false⟩]⟩,
    ⟨.TUS_ZONE_BND, 0x48000110, [(0x40, 4, 0), (0x4, 3, 0)],
      [⟨0, 22, .rws, 0x3FFFFF, false⟩]⟩,
    ⟨.TUS_SEC_INFO, 0x4800011C, [(0x40, 4, 0)],
      [⟨24, 8, .ro, 0x0, false⟩, ⟨16, 8, .ro, 0x0, false⟩, ⟨0, 6, .ro, 0x0, false⟩]⟩,
    ⟨.TUS_CAP, 0x48000120, [(0x40, 4, 0), (0x4, 8, 0)],
      [⟨0, 18, .ro, 0x0, false⟩]⟩,
    ⟨.TUS_SPN_PROF, 0x48000020, [],
      [⟨16, 16, .rws, 0xC8, false⟩, ⟨0, 16, .rws, 0x190, false⟩]⟩,
    ⟨.TUS_SPN_REF, 0x48000024, [],
      [⟨0, 24, .ro, 0x0, false⟩]⟩,
    ⟨.TUS_SEEK_GLOBAL, 0x48000028, [],
      [⟨0, 9, .rws, 0x100, false⟩]⟩,
    ⟨.TUS_SEEK_CTRL, 0x48000200, [(0x20, 4, 0)],
      [⟨8, 1, .rws, 0x0, false⟩, ⟨1, 1, .wo, 0x0, false⟩, ⟨0, 1, .wo, 0x0, false⟩]⟩ ]

/-- More registers of the Tussock window. -/
def regsTussock2 : List RegRow :=
  [ ⟨.TUS_SEEK_TGT, 0x48000204, [(0x20, 4, 0), (0x4, 2, 0)],
      [⟨10, 22, .rws, 0x0, false⟩, ⟨0, 10, .rws, 0x0, false⟩]⟩,
    ⟨.TUS_PROF_V, 0x4800020C, [(0x20, 4, 0)],
      [⟨0, 20, .rws, 0x186A0, false⟩]⟩,
    ⟨.TUS_PROF_A, 0x48000210, [(0x20, 4, 0)],
      [⟨0, 20, .rws, 0x61A8, false⟩]⟩,
    ⟨.TUS_PROF_J, 0x48000214, [(0x20, 4, 0)],
      [⟨0, 16, .rws, 0xFA, false⟩]⟩,
    ⟨.TUS_SETTLE, 0x48000218, [(0x20, 4, 0)],
      [⟨28, 4, .rws, 0x4, false⟩, ⟨16, 10, .rws, 0x7B, false⟩, ⟨0, 10, .rws, 0x52, false⟩]⟩,
    ⟨.TUS_SEEK_STATUS, 0x4800021C, [(0x20, 4, 0)],
      [⟨24, 8, .ro, 0x0, false⟩, ⟨7, 1, .ro, 0x0, false⟩, ⟨4, 3, .ro, 0x0, false⟩, ⟨3, 1, .w1c, 0x0, false⟩, ⟨2, 1, .w1c, 0x0, false⟩, ⟨1, 1, .ro, 0x0, false⟩, ⟨0, 1, .ro, 0x0, false⟩]⟩ ]

/-- The registers of the Withy window, 0x49000000. -/
def regsWithy : List RegRow :=
  [ ⟨.WTH_SPN_CTRL, 0x49000000, [],
      [⟨8, 1, .rws, 0x0, false⟩, ⟨4, 1, .wo, 0x0, false⟩, ⟨0, 1, .rws, 0x0, false⟩]⟩,
    ⟨.WTH_SPN_STATUS, 0x49000004, [],
      [⟨28, 4, .ro, 0x0, false⟩, ⟨24, 4, .ro, 0x0, false⟩, ⟨23, 1, .ro, 0x0, false⟩, ⟨22, 1, .ro, 0x0, false⟩, ⟨21, 1, .ro, 0x0, false⟩, ⟨20, 1, .ro, 0x0, false⟩, ⟨19, 1, .ro, 0x0, false⟩, ⟨18, 1, .ro, 0x0, false⟩, ⟨17, 1, .ro, 0x0, false⟩, ⟨16, 1, .ro, 0x0, false⟩]⟩,
    ⟨.WTH_SPN_SPEED, 0x49000008, [],
      [⟨0, 24, .rws, 0x708000, false⟩]⟩,
    ⟨.WTH_SPN_MEAS, 0x4900000C, [],
      [⟨31, 1, .ro, 0x0, false⟩, ⟨0, 24, .ro, 0x0, false⟩]⟩,
    ⟨.WTH_SPN_CFG, 0x49000010, [],
      [⟨16, 8, .rws, 0xF, false⟩, ⟨8, 8, .rws, 0x14, false⟩, ⟨0, 4, .rws, 0x4, false⟩]⟩,
    ⟨.WTH_SPN_CUR, 0x49000014, [],
      [⟨24, 8, .rws, 0xC8, false⟩, ⟨16, 8, .rws, 0x7D, false⟩, ⟨8, 8, .rws, 0x5A, false⟩, ⟨0, 8, .rws, 0x3C, false⟩]⟩,
    ⟨.WTH_SPN_KE, 0x49000018, [],
      [⟨16, 16, .ro, 0x0, false⟩, ⟨0, 16, .rws, 0x0, false⟩]⟩,
    ⟨.WTH_HOLD, 0x4900001C, [],
      [⟨16, 8, .rws, 0x32, false⟩, ⟨0, 12, .rws, 0x44C, false⟩]⟩,
    ⟨.WTH_SPN_FOC, 0x49000020, [],
      [⟨16, 16, .ro, 0x0, false⟩, ⟨0, 10, .ro, 0x0, false⟩]⟩,
    ⟨.WTH_FAULT, 0x49000024, [],
      [⟨16, 8, .w1c, 0x0, false⟩, ⟨12, 4, .w1c, 0x0, false⟩, ⟨8, 4, .w1c, 0x0, false⟩, ⟨0, 8, .w1c, 0x0, false⟩]⟩,
    ⟨.WTH_VCM_CTRL, 0x49000040, [(0x4, 4, 0)],
      [⟨16, 16, .rws, 0x0, false⟩, ⟨8, 1, .rws, 0x0, false⟩, ⟨1, 1, .wo, 0x0, false⟩, ⟨0, 1, .rws, 0x0, false⟩]⟩,
    ⟨.WTH_VCM_STATUS, 0x49000050, [(0x4, 4, 0)],
      [⟨16, 16, .ro, 0x0, false⟩, ⟨2, 1, .ro, 0x0, false⟩, ⟨1, 1, .ro, 0x1, false⟩, ⟨0, 1, .ro, 0x0, false⟩]⟩,
    ⟨.WTH_RET_CFG, 0x49000060, [(0x4, 4, 0)],
      [⟨20, 12, .rws, 0x12C, false⟩, ⟨12, 8, .rws, 0xA0, false⟩, ⟨4, 8, .rws, 0x3C, false⟩, ⟨0, 1, .rws, 0x0, false⟩]⟩,
    ⟨.WTH_RET_CTRL, 0x49000070, [],
      [⟨0, 4, .wo, 0x0, false⟩]⟩,
    ⟨.WTH_MA_CTRL, 0x49000080, [(0x4, 8, 0)],
      [⟨16, 16, .rws, 0x0, false⟩, ⟨8, 2, .rws, 0x0, false⟩, ⟨5, 1, .rws, 0x0, false⟩, ⟨4, 1, .rws, 0x1, false⟩, ⟨0, 1, .rws, 0x0, false⟩]⟩,
    ⟨.WTH_MA_STATUS, 0x490000A0, [(0x4, 8, 0)],
      [⟨16, 16, .ro, 0x0, false⟩, ⟨0, 16, .ro, 0x0, false⟩]⟩ ]

/-- The registers of the Weir window, 0x4A000000. -/
def regsWeir : List RegRow :=
  [ ⟨.WEIR_STATUS, 0x4A000000, [],
      [⟨30, 2, .ro, 0x0, false⟩, ⟨29, 1, .ro, 0x0, false⟩, ⟨28, 1, .ro, 0x0, false⟩, ⟨27, 1, .ro, 0x1, false⟩, ⟨26, 1, .ro, 0x0, false⟩, ⟨25, 1, .ro, 0x0, false⟩, ⟨24, 1, .ro, 0x0, false⟩, ⟨16, 2, .ro, 0x0, false⟩, ⟨0, 16, .ro, 0x0, false⟩]⟩,
    ⟨.WEIR_CTRL, 0x4A000004, [],
      [⟨31, 1, .wo, 0x0, false⟩]⟩,
    ⟨.WEIR_PF_CFG, 0x4A000008, [],
      [⟨8, 8, .rws, 0x28, false⟩, ⟨0, 8, .rws, 0xFA, false⟩]⟩,
    ⟨.WEIR_PF_CTRL, 0x4A00000C, [],
      [⟨0, 1, .wo, 0x0, false⟩]⟩,
    ⟨.WEIR_MEAS_V12, 0x4A000010, [],
      [⟨0, 16, .ro, 0x0, false⟩]⟩,
    ⟨.WEIR_MEAS_VHB, 0x4A000014, [],
      [⟨0, 16, .ro, 0x0, false⟩]⟩,
    ⟨.WEIR_MEAS_V5, 0x4A000018, [],
      [⟨0, 16, .ro, 0x0, false⟩]⟩,
    ⟨.WEIR_MIN_V12, 0x4A00001C, [],
      [⟨0, 16, .ro, 0xFFFF, false⟩]⟩,
    ⟨.WEIR_CHOP, 0x4A000020, [],
      [⟨16, 16, .ro, 0x0, false⟩, ⟨0, 16, .ro, 0x0, false⟩]⟩,
    ⟨.WEIR_REG_STATUS, 0x4A000024, [],
      [⟨8, 1, .ro, 0x0, false⟩, ⟨0, 4, .ro, 0x0, false⟩]⟩,
    ⟨.WEIR_FAULT, 0x4A000028, [],
      [⟨0, 9, .w1c, 0x0, false⟩]⟩,
    ⟨.WEIR_AON_STATUS, 0x4A000040, [],
      [⟨31, 1, .ro, 0x0, false⟩, ⟨30, 1, .ro, 0x0, false⟩, ⟨16, 2, .ro, 0x0, false⟩, ⟨0, 16, .ro, 0x0, false⟩]⟩,
    ⟨.WEIR_AON_CNT, 0x4A000044, [],
      [⟨16, 16, .ro, 0x0, false⟩, ⟨0, 16, .ro, 0x0, false⟩]⟩ ]

/-- The registers of the Levee window, 0x4B000000. -/
def regsLevee : List RegRow :=
  [ ⟨.LEV_STATUS, 0x4B000000, [],
      [⟨31, 1, .ro, 0x0, false⟩, ⟨30, 1, .ro, 0x0, false⟩, ⟨29, 1, .ro, 0x0, false⟩, ⟨28, 1, .ro, 0x0, false⟩, ⟨27, 1, .w1c, 0x0, false⟩, ⟨26, 1, .ro, 0x0, false⟩, ⟨25, 1, .ro, 0x0, false⟩]⟩,
    ⟨.LEV_CTRL, 0x4B000004, [],
      [⟨0, 3, .rws, 0x0, false⟩]⟩,
    ⟨.LEV_IRQ, 0x4B000008, [],
      [⟨1, 1, .w1c, 0x0, false⟩, ⟨0, 1, .w1c, 0x0, false⟩]⟩,
    ⟨.LEV_HEARTBEAT, 0x4B00000C, [],
      [⟨0, 1, .wo, 0x0, false⟩]⟩,
    ⟨.LEV_WDOG, 0x4B000010, [],
      [⟨0, 16, .rws, 0x64, false⟩]⟩,
    ⟨.LEV_RESET, 0x4B000014, [],
      [⟨31, 1, .wo, 0x0, false⟩, ⟨16, 5, .wo, 0x0, false⟩]⟩,
    ⟨.LEV_RESET_CAUSE, 0x4B000018, [],
      [⟨28, 4, .ro, 0x0, true⟩, ⟨16, 8, .ro, 0x0, true⟩, ⟨0, 16, .ro, 0x0, true⟩]⟩,
    ⟨.LEV_CLR, 0x4B00001C, [],
      [⟨31, 1, .wo, 0x0, false⟩, ⟨16, 8, .wo, 0x0, false⟩, ⟨0, 16, .wo, 0x0, false⟩]⟩,
    ⟨.LEV_INJ, 0x4B000020, [],
      [⟨24, 8, .wo, 0x0, false⟩, ⟨16, 8, .wo, 0x0, false⟩, ⟨0, 16, .wo, 0x0, false⟩]⟩,
    ⟨.LEV_HIST_STATUS, 0x4B000024, [],
      [⟨8, 6, .ro, 0x0, true⟩, ⟨0, 5, .ro, 0x0, true⟩]⟩,
    ⟨.LEV_HIST_TOTAL, 0x4B000028, [],
      [⟨0, 32, .ro, 0x0, true⟩]⟩,
    ⟨.LEV_LATCH, 0x4B000040, [(0x4, 7, 0)],
      [⟨0, 32, .ro, 0x0, true⟩]⟩,
    ⟨.LEV_HIST, 0x4B001000, [(0x10, 32, 0), (0x4, 4, 0)],
      [⟨0, 32, .ro, 0x0, true⟩]⟩,
    ⟨.LEV_SRC, 0x4B010000, [(0x4, 65536, 0)],
      [⟨31, 1, .ro, 0x0, false⟩, ⟨24, 2, .ro, 0x0, false⟩, ⟨16, 8, .ro, 0x0, false⟩, ⟨8, 8, .ro, 0x0, false⟩, ⟨0, 5, .rws, 0x0, false⟩]⟩ ]

/-- The registers of the Dyke window, 0x4C000000. -/
def regsDyke : List RegRow :=
  [ ⟨.DYKE_CHIP_ID, 0x4C000000, [],
      [⟨16, 16, .ro, 0x9640, false⟩, ⟨8, 8, .ro, 0x2, false⟩, ⟨4, 4, .ro, 0x1, false⟩]⟩,
    ⟨.DYKE_STATUS, 0x4C000004, [],
      [⟨30, 2, .ro, 0x0, true⟩, ⟨29, 1, .ro, 0x0, false⟩, ⟨28, 1, .ro, 0x0, true⟩, ⟨27, 1, .ro, 0x0, false⟩, ⟨16, 4, .ro, 0x0, false⟩]⟩,
    ⟨.DYKE_BOOT, 0x4C000008, [],
      [⟨30, 2, .ro, 0x0, false⟩, ⟨29, 1, .ro, 0x0, false⟩, ⟨28, 1, .ro, 0x0, false⟩, ⟨24, 4, .ro, 0x0, false⟩, ⟨0, 16, .ro, 0x0, false⟩]⟩,
    ⟨.DYKE_SLOT, 0x4C00000C, [],
      [⟨16, 16, .ro, 0x0, false⟩, ⟨10, 2, .ro, 0x0, false⟩, ⟨9, 1, .ro, 0x0, false⟩, ⟨8, 1, .ro, 0x0, false⟩, ⟨0, 1, .ro, 0x0, false⟩]⟩,
    ⟨.DYKE_UID, 0x4C000010, [(0x4, 4, 0)],
      [⟨0, 32, .ro, 0x0, false⟩]⟩,
    ⟨.DYKE_MR_EXT, 0x4C000020, [],
      [⟨31, 1, .wo, 0x0, false⟩, ⟨30, 1, .w1c, 0x0, false⟩, ⟨29, 1, .ro, 0x0, false⟩, ⟨0, 4, .rw, 0xA, false⟩]⟩,
    ⟨.DYKE_EXT_DATA, 0x4C000040, [(0x4, 12, 0)],
      [⟨0, 32, .wo, 0x0, false⟩]⟩,
    ⟨.DYKE_FLOOR, 0x4C000100, [(0x4, 8, 0)],
      [⟨0, 7, .ro, 0x0, false⟩]⟩,
    ⟨.DYKE_VER, 0x4C000140, [(0x4, 7, 0)],
      [⟨0, 32, .ro, 0x0, false⟩]⟩,
    ⟨.DYKE_MR, 0x4C000400, [(0x30, 16, 0), (0x4, 12, 0)],
      [⟨0, 32, .ro, 0x0, false⟩]⟩ ]

/-- The registers of the Peat window, 0x4D000000. -/
def regsPeat : List RegRow :=
  [ ⟨.PEAT_STATUS, 0x4D000000, [],
      [⟨31, 1, .ro, 0x0, false⟩, ⟨30, 1, .w1c, 0x0, true⟩, ⟨29, 1, .w1c, 0x0, true⟩, ⟨28, 1, .ro, 0x0, false⟩, ⟨15, 13, .ro, 0x0, false⟩, ⟨0, 13, .ro, 0x0, true⟩]⟩,
    ⟨.PEAT_CTRL, 0x4D000004, [],
      [⟨0, 1, .wo, 0x0, false⟩]⟩,
    ⟨.PEAT_PCC, 0x4D000008, [],
      [⟨0, 32, .rwl, 0x0, false⟩]⟩,
    ⟨.PEAT_FRZ, 0x4D00000C, [],
      [⟨0, 10, .rw, 0x0, false⟩]⟩,
    ⟨.PEAT_CUR_AREA, 0x4D000010, [],
      [⟨0, 4, .rw, 0x0, false⟩]⟩,
    ⟨.PEAT_CUR, 0x4D000014, [],
      [⟨2, 30, .rw, 0x0, false⟩]⟩,
    ⟨.PEAT_WIN_STATUS, 0x4D000018, [],
      [⟨31, 1, .ro, 0x0, false⟩, ⟨30, 1, .ro, 0x0, false⟩, ⟨0, 13, .ro, 0x0, false⟩]⟩,
    ⟨.PEAT_RSEQ, 0x4D000020, [(0x4, 5, 0)],
      [⟨16, 16, .ro, 0x0, true⟩, ⟨0, 16, .ro, 0x0, true⟩]⟩,
    ⟨.PEAT_AREA_REC, 0x4D000040, [(0x4, 10, 0)],
      [⟨0, 32, .ro, 0x0, false⟩]⟩,
    ⟨.PEAT_AREA_BYTES, 0x4D000080, [(0x4, 10, 0)],
      [⟨0, 32, .ro, 0x0, false⟩]⟩,
    ⟨.PEAT_MRSETS, 0x4D0000C0, [],
      [⟨0, 13, .ro, 0x0, false⟩]⟩,
    ⟨.PEAT_WIN, 0x4D001000, [(0x4, 1024, 0)],
      [⟨0, 32, .ro, 0x0, false⟩]⟩ ]

/-- The registers of the Tide window, 0x4E000000. -/
def regsTide : List RegRow :=
  [ ⟨.TIDE_MANG, 0x4E000000, [],
      [⟨12, 20, .ro, 0x0, false⟩, ⟨0, 12, .ro, 0x0, false⟩]⟩,
    ⟨.TIDE_STATUS, 0x4E000004, [],
      [⟨24, 8, .ro, 0x0, false⟩, ⟨15, 1, .ro, 0x0, false⟩, ⟨14, 1, .ro, 0x0, false⟩, ⟨13, 1, .ro, 0x0, false⟩, ⟨12, 1, .ro, 0x0, false⟩, ⟨7, 1, .ro, 0x0, false⟩, ⟨6, 1, .ro, 0x0, false⟩, ⟨0, 3, .ro, 0x0, false⟩]⟩,
    ⟨.TIDE_CTRL, 0x4E000008, [],
      [⟨14, 2, .rws, 0x1, false⟩, ⟨13, 1, .rws, 0x1, false⟩, ⟨12, 1, .rws, 0x0, false⟩, ⟨11, 1, .rws, 0x0, false⟩, ⟨10, 1, .rws, 0x0, false⟩, ⟨9, 1, .rws, 0x1, false⟩, ⟨8, 1, .rws, 0x1, false⟩, ⟨0, 1, .wo, 0x0, false⟩]⟩,
    ⟨.TIDE_CELL_PERIOD, 0x4E00000C, [],
      [⟨0, 32, .ro, 0x0, false⟩]⟩,
    ⟨.TIDE_OPT_LO, 0x4E000010, [],
      [⟨0, 32, .rwl, 0x0, false⟩]⟩,
    ⟨.TIDE_OPT_HI, 0x4E000014, [],
      [⟨0, 8, .rwl, 0x0, false⟩]⟩,
    ⟨.TIDE_ESI_PERIOD, 0x4E000018, [],
      [⟨0, 28, .ro, 0x0, false⟩]⟩,
    ⟨.TIDE_ESI_PHASE, 0x4E00001C, [],
      [⟨0, 16, .rws, 0x0, false⟩]⟩,
    ⟨.TIDE_T1_OFS, 0x4E000020, [],
      [⟨0, 32, .rws, 0x0, false⟩]⟩,
    ⟨.TIDE_CG_EN, 0x4E000030, [(0x4, 4, 0)],
      [⟨0, 32, .rw, 0xFFFFFFFF, false⟩]⟩,
    ⟨.TIDE_SURF_OFS, 0x4E000100, [(0x4, 24, 0)],
      [⟨0, 32, .rws, 0x0, false⟩]⟩,
    ⟨.TIDE_SURF_SLIP, 0x4E000200, [(0x4, 24, 0)],
      [⟨0, 16, .ro, 0x0, true⟩]⟩,
    ⟨.TIDE_ST_CBPC, 0x4E000300, [(0x4, 8, 0)],
      [⟨0, 32, .rws, 0x0, false⟩]⟩,
    ⟨.TIDE_ST_PHASE, 0x4E000340, [(0x4, 8, 0)],
      [⟨0, 32, .rws, 0x0, false⟩]⟩ ]

/-- The registers of window `w` (R508). -/
def windowRegs (w : Nat) : List RegRow :=
  match w with
  | 0 => regsStaithe ++ regsStaithe2
  | 1 => regsSluice ++ regsSluice2
  | 2 => regsCauseway
  | 3 => regsCarr
  | 4 => regsLode
  | 5 => regsMire ++ regsMire2
  | 6 => regsReed
  | 7 => regsSedge ++ regsSedge2
  | 8 => regsTussock ++ regsTussock2
  | 9 => regsWithy
  | 10 => regsWeir
  | 11 => regsLevee
  | 12 => regsDyke
  | 13 => regsPeat
  | 14 => regsTide
  | _ => []

end Sys2Proof.Machine
end

