-- ==== Sys2Proof/Machine/RegMap.lean ====
section
/-! DEFINITION. From an address to the register it names (R508, R510), and the register's value after power-on reset (R11). -/

namespace Sys2Proof.Machine

/-- The indices that place offset `off` in a register with the given index ranges, if any does. -/
def matchDims : List (Nat × Nat × Nat) → Nat → Option (List Nat)
  | [], off => if off = 0 then some [] else none
  | (stride, count, first) :: rest, off =>
    let i := off / stride
    if first ≤ i ∧ i < first + count then (matchDims rest (off - stride * i)).map (i :: ·) else none

/-- The register at address `a` among `rows`, with its indices. -/
def findRow : List RegRow → Nat → Option (RegRow × List Nat)
  | [], _ => none
  | r :: rs, a =>
    match if r.base ≤ a then matchDims r.dims (a - r.base) else none with
    | some ix => some (r, ix)
    | none => findRow rs a

/-- A fault source (R412): code, number of instances, first line, class (0 C, 1 U, 2 F, 3 by supply state), default reaction, fixed. -/
structure SourceRow where
  code : Nat
  instances : Nat
  firstLine : Nat
  cls : Nat
  react : Nat
  fixed : Bool
deriving DecidableEq, Repr

/-- The source table of R412, with R409 and R428 for the Weir sources. Reactions: I = 1, N = 2, B = 4, C = 8, E = 16. -/
def sourceTable : List SourceRow :=
  [ ⟨0x0101, 8, 0, 0, 0x01, false⟩, ⟨0x0201, 4, 8, 2, 0x1A, true⟩, ⟨0x0301, 1, 12, 2, 0x12, false⟩,
    ⟨0x0302, 1, 13, 1, 0x01, false⟩, ⟨0x0303, 2, 14, 0, 0x01, false⟩, ⟨0x0304, 1, 16, 1, 0x01, false⟩,
    ⟨0x0305, 1, 17, 1, 0x11, false⟩, ⟨0x0306, 24, 18, 0, 0x00, false⟩, ⟨0x0307, 8, 42, 0, 0x00, false⟩,
    ⟨0x0308, 1, 50, 0, 0x01, false⟩, ⟨0x0401, 1, 51, 1, 0x01, false⟩, ⟨0x0402, 1, 52, 1, 0x11, false⟩,
    ⟨0x0403, 1, 53, 1, 0x01, false⟩, ⟨0x0404, 1, 54, 0, 0x01, false⟩, ⟨0x0405, 1, 55, 1, 0x11, false⟩,
    ⟨0x0406, 1, 56, 2, 0x12, true⟩, ⟨0x0407, 4, 57, 2, 0x11, false⟩, ⟨0x0408, 8, 61, 0, 0x01, false⟩,
    ⟨0x0409, 4, 69, 1, 0x01, false⟩, ⟨0x040A, 1, 73, 2, 0x12, true⟩, ⟨0x040B, 1, 74, 1, 0x01, false⟩,
    ⟨0x0501, 8, 75, 1, 0x01, false⟩, ⟨0x0502, 4, 83, 1, 0x01, false⟩, ⟨0x0503, 4, 87, 0, 0x01, false⟩,
    ⟨0x0601, 8, 91, 0, 0x00, false⟩, ⟨0x0701, 8, 99, 0, 0x00, false⟩, ⟨0x0702, 8, 107, 1, 0x01, false⟩,
    ⟨0x0703, 4, 115, 0, 0x00, false⟩, ⟨0x0801, 2, 119, 0, 0x00, false⟩, ⟨0x0802, 2, 121, 1, 0x01, false⟩,
    ⟨0x0803, 2, 123, 1, 0x01, false⟩, ⟨0x0804, 8, 125, 0, 0x01, false⟩ ] ++
  [ ⟨0x0901, 12, 133, 0, 0x00, false⟩, ⟨0x0902, 2, 145, 0, 0x00, false⟩, ⟨0x0903, 12, 147, 3, 0x1A, true⟩,
    ⟨0x0904, 2, 159, 3, 0x1A, true⟩, ⟨0x0905, 1, 161, 0, 0x01, false⟩, ⟨0x0906, 1, 162, 1, 0x11, false⟩,
    ⟨0x0A01, 16, 163, 0, 0x00, false⟩, ⟨0x0C01, 1, 179, 0, 0x01, false⟩, ⟨0x0C02, 1, 180, 1, 0x01, false⟩,
    ⟨0x0C03, 1, 181, 1, 0x01, false⟩, ⟨0x0D01, 1, 182, 0, 0x00, false⟩, ⟨0x0D02, 1, 183, 1, 0x01, false⟩,
    ⟨0x0D03, 1, 184, 1, 0x01, false⟩, ⟨0x0D04, 1, 185, 1, 0x01, false⟩, ⟨0x0D05, 1, 186, 1, 0x01, false⟩,
    ⟨0x0D06, 1, 187, 1, 0x01, false⟩, ⟨0x0D07, 1, 188, 1, 0x01, false⟩, ⟨0x0D08, 1, 189, 2, 0x10, false⟩,
    ⟨0x0D09, 1, 190, 0, 0x00, false⟩, ⟨0x0E01, 1, 191, 2, 0x1A, true⟩, ⟨0x0F01, 1, 192, 1, 0x11, false⟩,
    ⟨0x0F02, 1, 193, 0, 0x01, false⟩, ⟨0x1001, 1, 194, 1, 0x01, false⟩, ⟨0x1002, 1, 195, 0, 0x00, false⟩,
    ⟨0x0F03, 1, 196, 0, 0x01, false⟩ ]

/-- The row of source code `c`. -/
def sourceRow (c : Nat) : Option SourceRow := sourceTable.find? (fun r => r.code = c)

/-- The owner of slot `i` in the reset pattern of R335: a 32-slot group, repeated 8 times. -/
def slotPattern (i : Nat) : Nat :=
  let g := i / 32
  let p := i % 32
  if p < 3 then (3 * g + p) % 8
  else if p < 17 then (if p % 2 = 1 then 0x08 else 0x09)
  else if p < 19 then 0x0A
  else if p = 19 then 0x0B
  else if p = 20 then 0x0C
  else if p = 21 then 0x0D
  else 0x3F

/-- A register's value built from its fields' Reset column. -/
def fieldsReset (fs : List FieldRow) : Nat :=
  fs.foldl (fun acc f => acc + (f.reset % 2 ^ f.width) * 2 ^ f.lo) 0

/-- The value after power-on reset of the register at `a` (R11), where the Reset column names one value for each index it is
that one (R56, R335, R340, R412, R428). -/
def rowReset (r : RegRow) (ix : List Nat) : Nat :=
  match r.id, ix with
  | .TIDE_CG_EN, [3] => 0x0FFF_FFFF
  | .CSW_PRIO, [1] => 0x5741_3122
  | .CSW_SLOT, [_, k] =>
    slotPattern (4 * k) + slotPattern (4 * k + 1) * 2 ^ 8 + slotPattern (4 * k + 2) * 2 ^ 16 + slotPattern (4 * k + 3) * 2 ^ 24
  | .LEV_SRC, [c] =>
    match sourceRow c with
    | some x => x.react + x.firstLine * 2 ^ 8 + x.instances * 2 ^ 16 + x.cls * 2 ^ 24 + (if x.fixed then 2 ^ 31 else 0)
    | none => 0
  | _, _ => fieldsReset r.fields

/-- The register that address `a` names (R508, R510); LEV_SRC exists only for the codes of R412 (R426). -/
def findReg (a : Nat) : Option (RegRow × List Nat) :=
  if a < 0x4000_0000 then none
  else match findRow (windowRegs ((a - 0x4000_0000) / 2 ^ 24)) a with
    | some (r, ix) =>
      if r.id = .LEV_SRC ∧ (sourceRow (ix.headD 0)).isNone then none else some (r, ix)
    | none => none

/-- What the register at `a` holds after power-on reset, as a word; 0 where no register lies. -/
def regReset (a : Nat) : BitVec 32 :=
  match findReg a with
  | some (r, ix) => BitVec.ofNat 32 (rowReset r ix)
  | none => 0

end Sys2Proof.Machine
end

