-- ==== Sys2Proof/Machine/Tab.lean ====
section
/-! DEFINITION. Sparse tables in ONE canonical form: the keys strictly rise and no entry equals what an unlisted key
reads as, so that equal contents are equal data. Registers, buffer DRAM, contexts, ledger entries and every other
numbered thing of the machine are kept so. -/

namespace Sys2Proof.Machine

/-- Contents by number: the entries that differ from what an unlisted key reads as. -/
abbrev Tab (α : Type) := List (Nat × α)

/-- The entry of key `k`, if one is listed. -/
def tabFind {α : Type} : Tab α → Nat → Option α
  | [], _ => none
  | (j, v) :: t, k => if j = k then some v else tabFind t k

/-- `v` put at `k` in key order, replacing an entry of `k`. -/
def tabInsert {α : Type} : Tab α → Nat → α → Tab α
  | [], k, v => [(k, v)]
  | (j, w) :: t, k, v =>
    if k < j then (k, v) :: (j, w) :: t
    else if k = j then (k, v) :: t
    else (j, w) :: tabInsert t k v

/-- The table without the entries of `k`. -/
def tabErase {α : Type} : Tab α → Nat → Tab α
  | [], _ => []
  | (j, w) :: t, k => if j = k then tabErase t k else (j, w) :: tabErase t k

/-- What key `k` reads as, where an unlisted key `k` reads as `d k`. -/
def tabGet {α : Type} (d : Nat → α) (t : Tab α) (k : Nat) : α :=
  match tabFind t k with
  | some v => v
  | none => d k

/-- `v` written at `k`: writing what an unlisted key reads as takes the entry away. -/
def tabPut {α : Type} [DecidableEq α] (d : Nat → α) (t : Tab α) (k : Nat) (v : α) : Tab α :=
  if v = d k then tabErase t k else tabInsert t k v

/-- The canonical form: keys strictly rise, no entry equals its key's default. -/
abbrev tabWf {α : Type} [DecidableEq α] (d : Nat → α) (t : Tab α) : Prop :=
  t.Pairwise (fun a b => a.1 < b.1) ∧ ∀ e ∈ t, e.2 ≠ d e.1

/-- Entry `k` of a table whose unlisted entries are the type's default. -/
def Tab.at {α : Type} [Inhabited α] (t : Tab α) (k : Nat) : α := tabGet (fun _ => default) t k

/-- Entry `k` replaced by `v`. -/
def Tab.put {α : Type} [Inhabited α] [DecidableEq α] (t : Tab α) (k : Nat) (v : α) : Tab α :=
  tabPut (fun _ => default) t k v

/-- Entry `k` changed by `f`. -/
def Tab.upd {α : Type} [Inhabited α] [DecidableEq α] (t : Tab α) (k : Nat) (f : α → α) : Tab α :=
  t.put k (f (t.at k))

/-- Every listed entry changed by `f`; one that becomes the default leaves the table. -/
def Tab.mapAll {α : Type} [Inhabited α] [DecidableEq α] (t : Tab α) (f : α → α) : Tab α :=
  t.filterMap (fun e => if f e.2 = default then none else some (e.1, f e.2))

end Sys2Proof.Machine
end

