-- ==== Sys2Proof/Machine/State.lean ====
section
/-! DEFINITION. The state of the machine: every register, queue, buffer, counter, mode and pin the spec names, as plain data,
and the queue of waiting commands. A field marked "the model's own" stands for no hardware. -/

namespace Sys2Proof.Machine

/-- Why the machine would stop with a fault. The spec answers every access and every event with an effect (a bus error, a
recorded fault, an ignored write), so NO meaning answers with one: safe, since nothing is claimed of a stopped run. -/
inductive Fault where
  /-- Raised by nobody: a place for a stop that no rule of the spec asks for (safe). -/
  | noStatedEffect
deriving DecidableEq, Repr

/-- Why the model would have no meaning for a command. -/
inductive Refusal where
  /-- Raised by an arm of `exec` whose command has no meaning yet, with the mnemonic of its row (safe: the run stops). -/
  | notModelled (mnemonic : String)
deriving DecidableEq, Repr

/-- What an access is answered with (R7): nothing asked yet, done, a value read, or a bus error. -/
inductive BusAnswer where
  | none
  | done
  | value (w : Nat)
  | busError
deriving DecidableEq, Repr, Inhabited

/-! ### Reed, the formatter sequencers (06) -/

/-- The sticky conditions of R132; NE and GE are the negations of EQ and LT. -/
structure Sticky where
  eq : Bool := false
  lt : Bool := false
  timedOut : Bool := false
  sfound : Bool := false
  smiss : Bool := false
  sshort : Bool := false
  late : Bool := false
  tsync : Bool := false
  xdone : Bool := false
  refused : Bool := false
deriving DecidableEq, Repr, Inhabited

/-- What the microword at PC stalls for (R130): nothing, a WAIT's condition, an angle (with `armed` once the angle lies
ahead), a mark search of half-width `half` MANG units about `center`, the end of a mark that is written, a transfer, cycles of a
WAITC, a stream clock that does not run (R56), room in the event queue, or a restart's own event (R143). -/
inductive Stall where
  | none
  | cond
  | angle (target : Word) (armed : Bool)
  | search (center : Word) (half : Nat) (notimed : Bool)
  | mark (ends : Word)
  | transfer
  | cycles
  | clock
  | room
  | restart
deriving DecidableEq, Repr, Inhabited

/-- One entry of a stream's event queue (R143). -/
structure ReedEvent where
  kind : Nat := 0
  data : Nat := 0
deriving DecidableEq, Repr, Inhabited

/-- Sequencer n (R126–R150). G0–G15, STATE, TERM, RESULT, RESTARTS, PC and MARK_PC are its registers. -/
structure Seq where
  /-- opcode latched at GO (R129) -/
  opcode : Nat := 0
  /-- FLUSH latched at GO (R141) -/
  flush : Bool := false
  /-- EPOCH at GO (R136) -/
  epoch : Nat := 0
  sticky : Sticky := {}
  /-- CALL stack, at most four (R131) -/
  stack : List Nat := []
  /-- the snapshot of the last MARK, or of GO (R140) -/
  snapG : List Word := []
  snapSticky : Sticky := {}
  snapStack : List Nat := []
  /-- a MARK has executed since GO or since the last completed sector (R136 condition 1) -/
  marked : Bool := false
  rg : Bool := false
  wg : Bool := false
  vg : Bool := false
  /-- a sector is in progress (R136); it is read; it holds an entry of the verify queue (R198) -/
  inSector : Bool := false
  reads : Bool := false
  checked : Bool := false
  /-- the gate point of the raised write gate, and the bit-cell boundary at which its first bit's cell begins (R126, R183) -/
  wgPoint : Word := 0
  wgAt : Word := 0
  /-- sectors of the operation completed, and committed (R140) -/
  sectorsDone : Nat := 0
  sectorsCommitted : Nat := 0
  stall : Stall := .none
  /-- the bit of the raised gate from which VG has been armed (R139) -/
  vgFrom : Nat := 0
  /-- the sector in progress has its result; Tide was in LOCKED or SINGLE at its sync mark (R166, R176) -/
  judged : Bool := false
  markLocked : Bool := false
  /-- where data starts after a SYNC (R133, R134); `noData` after a missed NOTIMED search -/
  dataAt : Option Word := Option.none
  noData : Bool := false
  /-- a restart event waiting to be taken, by its cause (R141) -/
  restartDue : Option Nat := Option.none
  events : List ReedEvent := []
  /-- hardware events waiting for room: none is dropped (R143) -/
  owed : List ReedEvent := []
  /-- control store 0x0000–0x3FFF and patch RAM 0x4000–0x47FF (R145) -/
  store : Tab Word := []
deriving DecidableEq, Repr, Inhabited

/-! ### Sedge, the read channels and the write path (07, 08) -/

/-- A sector's samples with the alignment it was read at (R161, R164–R166, R176). -/
structure Samples where
  /-- number from the operation's first sector, and index on the track (G7) -/
  number : Nat := 0
  index : Nat := 0
  /-- detection offset and timed flag that travel from Reed (R134) -/
  ofs : Word := 0
  timed : Bool := false
  /-- Tide was in LOCKED or SINGLE at the sector's mark (R166) -/
  locked : Bool := false
  /-- the bits that the defect detectors erased: disjoint ranges, from the first bit to the one past the last (R163) -/
  erasures : List (Nat × Nat) := []
  /-- the readers' samples, one for each channel bit of the data field, and the phase trim at each in 1/64 bit (R152, R153, R164) -/
  raw : List Sample := []
  trims : List Int := []
  /-- the coefficient space that was active from the sector's preamble on (R157) -/
  coef : Tab (BitVec 26) := []
  /-- the final XFER has completed: the samples are whole -/
  whole : Bool := false
deriving DecidableEq, Repr, Inhabited

/-- What a park slot holds (R164, R170). -/
inductive Park where
  | free
  | held (x : Samples) (tries : Nat) (sealFailed : Bool)
  | sum
deriving DecidableEq, Repr, Inhabited

/-- An entry of the result queue (R176, R181). -/
structure SectorResult where
  outcome : Nat := 0
  align : Int := 0
  iter : Nat := 0
  index : Nat := 0
  erased : Nat := 0
  timed : Bool := false
  step : Nat := 0
  ofs : Word := 0
deriving DecidableEq, Repr, Inhabited

/-- An entry of the verify queue (R196–R199): taken for a sector, then posted with its outcome. `frags` are the bits of the fragments
written under the armed VG, `ended` says that the sector's writing is over, `cut` that a termination left bits of it unchecked. -/
structure VfyEntry where
  frags : List (List Bool) := []
  ended : Bool := false
  cut : Bool := false
  posted : Bool := false
  outcome : Nat := 0
  errs : Nat := 0
  index : Nat := 0
deriving DecidableEq, Repr, Inhabited

/-- One read/write channel (R151–R204): what its registers do not hold. -/
structure Channel where
  /-- settings latched at Reed's GO (R173, R174, R184, R186) -/
  mode : Nat := 0
  step : Nat := 0
  comb : Bool := false
  forceTimed : Bool := false
  iterOtf : Nat := 0
  adaptEn : Bool := false
  altSet : Nat := 0
  adv : Nat := 0
  marker : Bool := false
  mu : Nat := 0
  muLadder : Nat := 0
  npAdapt : Bool := false
  /-- the code selection at GO was invalid (R159) -/
  codeBad : Bool := false
  /-- the sector being read into a rolling slot, and whole sectors waiting for their decode (R164: two slots) -/
  cur : Option Samples := Option.none
  waiting : List Samples := []
  park : Tab Park := []
  /-- the phase trim in 1/64 bit, as last acquired or tracked (R153) -/
  trim : Int := 0
  /-- the continuous-time cutoff and the high-pass corner in Hz, as rescaled at the last revolution (R152) -/
  cutoff : Nat := 0
  corner : Nat := 0
  /-- the bit at which a thermal asperity, or a dropout, was detected; the 16 MHz corner is in force, and the bit at which it ends (R163) -/
  taFrom : Option Nat := Option.none
  doFrom : Option Nat := Option.none
  corner16 : Bool := false
  corner16To : Option Nat := Option.none
  /-- the combine sum with its sector, its reads, and the hard decisions of each (R169, R170) -/
  sum : Samples := {}
  sumReads : Nat := 0
  sumHard : List (List Bool) := []
  /-- mean-square errors of the last good sectors, newest first, at most 256 (R178) -/
  mses : List Nat := []
  /-- bits checked against decoded bits and not yet a unit of counter 26 (R178) -/
  checkedBits : Nat := 0
  results : List SectorResult := []
  /-- results and verify outcomes that Mire has read and not yet used (R172, R200) -/
  taken : List SectorResult := []
  vfyTaken : List VfyEntry := []
  /-- lost sectors beyond the reserved entries (R177) -/
  lost : Nat := 0
  /-- the 32 live counters (R178) -/
  tel : Tab Nat := []
  /-- coefficient space: active, and the two shadows of R157 -/
  coef : Tab (BitVec 26) := []
  coefFw : List (Nat × BitVec 26) := []
  coefAdapt : List (Nat × BitVec 26) := []
  /-- the active precompensation tables (R188) -/
  wpcEn : Bool := false
  wpc : List Nat := []
  wpcAng : List Nat := []
  /-- the verify queue, oldest first (R198) -/
  vfy : List VfyEntry := []
  /-- launch advance in 1/1,024 bit at the last tick (R184) -/
  advBits : Nat := 0
  /-- what the serializer has sent since the write gate rose: each bit with the advance in force (R183–R185, R189) -/
  wd : List (Bool × Nat) := []
  /-- the codeword of the sector being written, and its bits sent so far (R185) -/
  code : List Bool := []
  codeSent : Nat := 0
deriving DecidableEq, Repr, Inhabited

/-! ### Sluice: stream staging (13) -/

/-- Stream n's staging buffer and mover (R325). -/
structure Staging where
  active : Bool := false
  /-- 0 write, 1 read -/
  read : Bool := false
  meta_ : Nat := 0
  /-- DRAM address of the first sector's buffer; sectors in the operation -/
  buf : Nat := 0
  total : Nat := 0
  /-- sectors moved: into staging for a write, out of it for a read -/
  moved : Nat := 0
  /-- sectors freed in staging -/
  freed : Nat := 0
  /-- sectors reserved by Reed (R137) -/
  resv : Nat := 0
  /-- staged sectors by number, with their bytes -/
  data : List (Nat × List Byte) := []
  /-- the operation's first sector, from the first of its descriptor -/
  first : Nat := 0
  /-- speculative region filled by the operation (R326), if any -/
  region : Option Nat := Option.none
  /-- the transfer of the sector in hand that was cut off last, and is repeated (R336) -/
  retried : Option Nat := Option.none
  /-- sectors whose buffer held a poisoned block, written as markers (R277) -/
  markers : List Nat := []
  /-- the transfer was cut off a second time (R336) -/
  bufErr : Bool := false
  /-- Aqsia stages zero-filled sectors (R186, R262) -/
  zeros : Bool := false
  /-- the sectors are read for the adaptation of ladder step 1 alone (R168) -/
  discard : Bool := false
  /-- the header sector of a flushed entry, which comes before the buffer's sectors (R485) -/
  header : Option (List Byte) := Option.none
deriving DecidableEq, Repr, Inhabited

/-! ### Tide, the timebase (02) -/

/-- What the Tide registers do not hold. -/
structure Tide where
  /-- timing-head front ends enabled (R40) -/
  frontEnds : Bool := false
  /-- failed acquisition attempts in a row (R41) -/
  acqFails : Nat := 0
  /-- a head is qualified (R45): T0 at 0, T1 at 1 -/
  qualified : Tab Bool := []
  /-- what is left of a correction of MANG to slew in, in MANG units (R37) -/
  slew : Int := 0
  /-- the offset that phase control adds to the speed command, in 2^-10 rpm (R50) -/
  phaseOff : Int := 0
  /-- revolutions in HOLDOVER since the first entry (R46) -/
  holdRevs : Nat := 0
  /-- PULL_IN is a reacquisition from HOLDOVER (R46) -/
  reacquiring : Bool := false
  /-- a stream's clock would exceed 3.6 GHz, so its gates are inhibited (R42) -/
  overrate : Tab Bool := []
  /-- ENC_SYNC_OUT pin (R48) -/
  encOut : Bool := false
  /-- ENC_SYNC_IN periods in 1/16 CK_CTRL cycles, newest first, at most 64 (R49) -/
  esiPeriods : List Nat := []
  /-- consecutive periods in tolerance, and out of it (R49) -/
  esiGood : Nat := 0
  esiBad : Nat := 0
  /-- phase control suspended for want of a wide pulse, and consecutive revolutions of small phase error (R50) -/
  phaseSuspended : Bool := false
  phaseGood : Nat := 0
  /-- TIDE_OPT_HI latched for a requester's next read of it (R51) -/
  optLatch : List (Who × Nat) := []
deriving DecidableEq, Repr, Inhabited

/-! ### Levee, fault collection (18) -/

/-- A latched line (R414, R418, R419): the history entry that set it, by its number among all entries written, the class of the
record and the reactions it took. -/
structure Latch where
  entry : Nat := 0
  cls : Nat := 0
  react : Nat := 0
deriving DecidableEq, Repr, Inhabited

/-- What the Levee registers do not hold. -/
structure Levee where
  /-- latched lines, with what each record fixed -/
  latches : Tab (Option Latch) := []
  /-- history entries written since power-on, not held at a limit (R421) -/
  written : Nat := 0
  /-- a heartbeat since the last reset, the watchdog fired since it, ERROR_N held until the first heartbeat (R419, R420) -/
  beatSeen : Bool := false
  wdogFired : Bool := false
  errorHeld : Bool := false
  /-- ALIVE pin level (R420) -/
  alive : Bool := false
  /-- remaining injection: source, instance, assertions left (R425) -/
  injecting : Option (Nat × Nat × Nat) := Option.none
  /-- a warm reset requested and not yet in hold: cause, source, instance (R423) -/
  resetReq : Option (Nat × Nat × Nat) := Option.none
  /-- block resets requested, and running (R424), by subsystem number -/
  blockReq : List Nat := []
  blockRun : List Nat := []
deriving DecidableEq, Repr, Inhabited

/-! ### Peat, the event recorder (20) -/

/-- A record of the event recorder (R456), in staging or in an area. -/
structure PeatRecord where
  stream : Nat := 0
  type_ : Nat := 0
  body : List Byte := []
  opt : Nat := 0
  pcc : Nat := 0
  rseq : Nat := 0
  gap : Bool := false
  early : Bool := false
  /-- stamped under R465 -/
  stamped : Bool := false
deriving DecidableEq, Repr, Inhabited

/-- A staged record (R461): still to be written to the stream's permanent and circulating area, and taken by the running flush. -/
structure Staged where
  rec_ : PeatRecord := {}
  toPerm : Bool := false
  toCirc : Bool := false
  inFlush : Bool := false
deriving DecidableEq, Repr, Inhabited

/-- An area in NOR (R458, R463): records with the block that holds each, blocks counted up from the first; bytes used in the
newest block; records since the last chain record; the chain value; an erase left out for a freeze or a power-fail. -/
structure Area where
  records : List (Nat × PeatRecord) := []
  newest : Nat := 0
  fill : Nat := 0
  since : List PeatRecord := []
  chained : Bool := false
  chain : List Byte := []
  full : Bool := false
deriving DecidableEq, Repr, Inhabited

/-- What the Peat registers do not hold. -/
structure Peat where
  staged : List Staged := []
  areas : Tab Area := []
  /-- a stream lost a record since its last stored one (R462) -/
  gap : Tab Bool := []
  /-- the lock of PEAT_PCC is committed (R465) -/
  pccLocked : Bool := false
  /-- the boot measurement table (R459): distinct MR0–MR9 sets -/
  mrSets : List (List Byte) := []
  /-- a window load in progress (R466): area and byte offset -/
  loading : Option (Nat × Nat) := Option.none
  /-- a block abandoned in an area (R471) -/
  badBlocks : List (Nat × Nat) := []
  /-- a trigger during a flush, whose flush follows it (R461) -/
  again : Bool := false
  /-- freezes that wait for a flush into their area (R468) -/
  freezeWait : List Nat := []
  /-- the counter area of NOR: saved operating time and power-cycle count (R437) -/
  savedOpt : Nat := 0
  savedPcc : Nat := 0
  /-- sequence number of the newest record in the counter area (R437) -/
  saves : Nat := 0
deriving DecidableEq, Repr, Inhabited

/-! ### Weir, supplies and power-fail (17) -/

/-- The mode of ISO_GATE (R405); off before the first soft-start. -/
inductive IsoMode where
  | off | softStart | diode | isolated
deriving DecidableEq, Repr, Inhabited

/-- What the Weir registers do not hold. -/
structure Weir where
  /-- power-on reset of the control and mixed-signal dies is released (R397) -/
  powered : Bool := false
  /-- BRD_EN pin, with which the regulators run (R397) -/
  brdEn : Bool := false
  /-- a retry is due after a failed start or a regulator fault (R394, R397) -/
  retryDue : Bool := false
  iso : IsoMode := .off
  /-- a chopper test waits for 10.50 V on VHB (R406) -/
  testPending : Bool := false
  /-- the Fen clock domains are forced off until the next reset (R400) -/
  fenForced : Bool := false
  /-- milliseconds from a commit latched in a warm reset to Mire's first run (R402) -/
  mireDelay : Nat := 0
  /-- the late point has been taken in this sequence (R402) -/
  late : Bool := false
  /-- the lowest V12_IN of the last window or commit so far (R411) -/
  low : Nat := 0
deriving DecidableEq, Repr, Inhabited

/-! ### Withy, spindle and actuators (03) -/

/-- What the spindle bridge does (the Bridge column of R60, with the two alignment angles of R62). -/
inductive Bridge where
  | off | lowSide | align (degrees : Nat) | ramp | foc | regen | rectify
deriving DecidableEq, Repr, Inhabited

/-- What a section's VCM bridge is driven with (R75, R80): off, a current in 3.000 A / 32,768, the retract sequencer's velocity control with
its direction, velocity, coil resistance and current limit, or its hold at half the limit. -/
inductive VcmDrive where
  | off
  | current (code : Int)
  | toRamp (dir : Bool) (vel rcoil imax : Nat)
  | atStop (dir : Bool) (imax : Nat)
deriving DecidableEq, Repr, Inhabited

/-- Where a retract stands (R80): none, moving to the ramp, timed hold. -/
inductive Retract where
  | none | moving | hold
deriving DecidableEq, Repr, Inhabited

/-- What the Withy registers do not hold. PARKED and the retract settings, which the power-control die mirrors (R79), are the
registers'. -/
structure Withy where
  bridge : Bridge := .off
  /-- the ramp holds 600 rpm and the handover test runs (R62) -/
  testing : Bool := false
  /-- the 100 ms observation after a failed handover (R63) -/
  watching : Bool := false
  /-- the constant has been checked in this start; all FETs are off for the check (R67) -/
  keDone : Bool := false
  keOff : Bool := false
  /-- consecutive revolutions within ±0.1 %; the speed has entered that band; electrical periods are counted, with the lengths in CK_CTRL
  cycles of those of the revolution so far (R65) -/
  inBand : Nat := 0
  entered : Bool := false
  counting : Bool := false
  elec : List Nat := []
  /-- speed of the open-loop vector in RAMP, in 1/9,375 of 2^-10 rpm (R62) -/
  ramp : Nat := 0
  /-- the commanded target speed last seen (R65, R70) -/
  target : Nat := 0x70_8000
  /-- ENC_SYNC_IN has qualified since SRC was set (R70) -/
  esiOnce : Bool := false
  /-- q-axis current command in mA, after the limit of R68; the vector's in ALIGN and RAMP -/
  iq : Int := 0
  retract : Tab Retract := []
  /-- what drives each section's VCM bridge (R75); Tussock's last word for each microactuator (R77) -/
  vcm : Tab VcmDrive := []
  ma : Tab Int := []
  /-- the power-control die turns the spindle's FETs off once its retracts have ended (R61) -/
  dieOff : Bool := false
deriving DecidableEq, Repr, Inhabited

/-! ### Tussock, the servo loops (04, 05) -/

/-- A vector in block-floating form (R91): mantissas of 18 bits and one exponent. -/
structure Block where
  e : Int := -32
  m : List Int := []
deriving DecidableEq, Repr, Inhabited

/-- What a lane's demodulator delivered of a wedge (R86, R87): the wedge's predicted MANG, sync found, position word. -/
structure Pes where
  pred : Word := 0
  found : Bool := false
  pos : Word := 0
deriving DecidableEq, Repr, Inhabited

/-- One lane (R86–R89, R117). Reference position and velocity in 2^-48 track. -/
structure Lane where
  xp : Block := {}
  xc : Block := {}
  u : Block := {}
  latch : Option Pes := Option.none
  /-- this tick is the lane's wedge tick; its PES is valid -/
  wedge : Bool := false
  valid : Bool := false
  /-- a stage of the last tick saturated (R94) -/
  sat : Bool := false
  /-- the reference has started at a valid PES (R89) -/
  started : Bool := false
  r : Int := 0
  v : Int := 0
  /-- reference acceleration in 2^-48 track per tick² -/
  acc : Int := 0
  /-- write inhibit raised by position error, and quiet ticks since (R117) -/
  errInh : Bool := false
  quiet : Nat := 0
deriving DecidableEq, Repr, Inhabited

/-- A section's profile generator (R109–R119). Positions in 2^-48 track, times in 2^-16 tick. -/
structure Seek where
  /-- the last GO (true) or ABANDON (false) written and not yet acted on -/
  cmd : Option Bool := Option.none
  pri : Nat := 0
  target : Int := 0
  /-- the other lane's target less the primary lane's (R112) -/
  diff : Int := 0
  /-- the plan: the state it starts from, its phases as jerk sign and duration, time since its start -/
  p0 : Int := 0
  v0 : Int := 0
  a0 : Int := 0
  jerk : Int := 0
  phases : List (Int × Nat) := []
  elapsed : Nat := 0
  /-- limits in force, as programmed: VMAX, AMAX, JMAX, ASCALE (R110, R114) -/
  lims : List Nat := []
  /-- the plan still moves the reference -/
  moving : Bool := false
  settle : Nat := 0
deriving DecidableEq, Repr, Inhabited

/-- One section's datapath (R89–R103). -/
structure Section where
  /-- active coefficient bank: the 128 words of R98 -/
  bank : List Word := []
  /-- a region being fetched; fetched and waiting for an outer update; refused for its tag (R99) -/
  fetching : Option Nat := Option.none
  shadow : Option (Nat × List Word) := Option.none
  badTag : Option Nat := Option.none
  satRun : Nat := 0
  /-- the reference track has passed each zone boundary; the temperature band (R97) -/
  zones : List Bool := []
  tband : Bool := false
  capPend : Bool := false
  /-- the vibration term for the next tick, mantissa and exponent (R103) -/
  rvff : Int × Int := (0, 0)
  /-- the VCM command written at cycle 48 (R95) -/
  code : Int := 0
  seek : Seek := {}
deriving DecidableEq, Repr, Inhabited

/-- What the Tussock registers do not hold. -/
structure Tus where
  secs : Tab Section := []
  lanes : Tab Lane := []
  /-- servo-table SRAM by word (R98) -/
  tables : Tab Word := []
  /-- the active coupling matrix, by 4 × i + j, and its exponent (R102) -/
  xc : List Int := []
  xcExp : Int := 0
  /-- rotational samples, newest first, in 1/4,096 of an input code (R103) -/
  rv : List Int := []
  /-- the spindle generator: reference in 2^-32 rpm, rate in 2^-32 rpm/s (R122); the spindle loop's integrator (R104) -/
  ref : Int := 0
  rate : Int := 0
  integ : Block := {}
  /-- the timing loop's states, the rate step that it gave the MANG interpolator last (R104), and how late servo sync marks came since the
  last tick, which it follows in HOLDOVER (R39) -/
  timing : List Int := []
  rateStep : Int := 0
  marks : List Int := []
deriving DecidableEq, Repr, Inhabited

/-! ### Preamplifier links (22) -/

/-- A WRITE (data) or READ frame (R501). -/
structure PlFrame where
  head : Nat := 0
  addr : Nat := 0
  data : Option Nat := Option.none
deriving DecidableEq, Repr, Inhabited

/-- One link (R500–R503, R479). -/
structure Link where
  /-- PL_RST_N is high, so PL_CLK runs -/
  released : Bool := false
  /-- the outstanding WRITE or READ, and its failed attempts -/
  sent : Option PlFrame := Option.none
  fails : Nat := 0
  /-- the last frame driven on DO, start bit first, as a number; the last TIMEBASE frame -/
  wire : Nat := 0
  timebase : Nat := 0
  /-- data of the last good response -/
  reply : Nat := 0
  /-- the registers 0x00–0x04 at HEAD 7 (R501) -/
  ident : Tab Nat := []
  /-- PREAMP_INFO STATE: 0 absent, 1 ready, 2 failed; discoveries that failed (R479) -/
  state : Nat := 0
  missed : Nat := 0
  /-- PL_FLT_N is low -/
  fault : Bool := false
deriving DecidableEq, Repr, Inhabited

/-! ### Sluice and Causeway, the buffer (13, 16) -/

/-- A ledger entry (R317–R319): STATE as R318 numbers it, `count` units from `unit`; the stream descriptors that have marked it. -/
structure LedgerEntry where
  state : Nat := 0
  poison : Bool := false
  section_ : Nat := 0
  cntlid : Nat := 0
  ns : Nat := 0
  unit : Nat := 0
  lba : Nat := 0
  count : Nat := 0
  lseq : Nat := 0
  /-- the submission queue whose credits a FILLING entry holds, and the command's context (R324) -/
  sqid : Nat := 0
  ctx : Nat := 0
  /-- the bytes of its run that have been written, as disjoint ranges (R15, R318) -/
  filled : List (Nat × Nat) := []
  marks : List Nat := []
deriving DecidableEq, Repr, Inhabited

/-- The states of a speculative region (R326). -/
inductive RegionState where
  | free | armed | filling | valid | discarded
deriving DecidableEq, Repr, Inhabited

/-- A speculative region (R326–R328); `fill` is the stream of the READ_AHEAD that runs on it. -/
structure Region where
  state : RegionState := .free
  ns : Nat := 0
  lba : Nat := 0
  count : Nat := 0
  buf : Nat := 0
  meta_ : Nat := 0
  valid : List Bool := []
  pins : Nat := 0
  fill : Option Nat := Option.none
  /-- a lookup has hit every sector of its range (R327) -/
  hit : Bool := false
deriving DecidableEq, Repr, Inhabited

/-- A record of the poison map (R386). -/
structure Poison where
  addr : Nat := 0
  source : Nat := 0
  ledger : Bool := false
  cleared : Bool := false
deriving DecidableEq, Repr, Inhabited

/-- What the Sluice and Causeway registers do not hold. -/
structure Sluice where
  /-- the 32,768 entries, and the next LSEQ (R317) -/
  ledger : Tab LedgerEntry := []
  lseq : Nat := 0
  /-- the 512 speculative regions (R326) -/
  regions : Tab Region := []
  /-- the 64 key slots, data key in the low half, and loads and zeroizations that have not taken effect (R330) -/
  keys : Tab (BitVec 512) := []
  keyOps : List (Nat × BitVec 512) := []
  /-- the poison map, and the DRAM blocks that carry the poison signature (R384, R386) -/
  pm : List Poison := []
  poisoned : Tab Bool := []
  /-- blocks of the scrub run still to read (R389) -/
  scrubLeft : Nat := 0
  /-- the active slots and ranks, by the address of their shadow (R337) -/
  active : Tab Word := []
  /-- the grants of the last frame: target, slot, owner; the background winner served last at each target (R333, R334) -/
  grants : List (Nat × Nat × Nat) := []
  turn : Tab Nat := []
  /-- both DRAM channels are in self-refresh (R20, R331) -/
  selfRefresh : Bool := false
  /-- a power-fail flush runs (R321) -/
  flushing : Bool := false
deriving DecidableEq, Repr, Inhabited

/-! ### Staithe, the host interface (12) -/

/-- A command context (R290–R302): STATE 1 WAITING, 2 ASSIGN, 3 ADMITTED, 4 CPL_WAIT; the entry as fetched and what Staithe reads
from it. -/
structure Ctx where
  state : Nat := 0
  cmd : HostCommand := {}
  seq : Nat := 0
  ledgered : Bool := false
  xfer : Bool := false
  held : Bool := false
  moved : Nat := 0
  zaLba : Nat := 0
  ranges : List LbaRange := []
  ledger : Option Nat := Option.none
  /-- as the oldest it has waited AGE ms (R296) -/
  aged : Bool := false
  /-- the second notification of a Flush was pushed (R302) -/
  notified : Bool := false
  /-- the completion that Fen firmware wrote (R300) -/
  dw0 : Nat := 0
  status : Nat := 0
deriving DecidableEq, Repr, Inhabited

/-- A notification in STH_NEW(c) (R314). -/
structure NewEntry where
  assign : Bool := false
  flushReady : Bool := false
  ctx : Nat := 0
deriving DecidableEq, Repr, Inhabited

/-- A record of the fate log (R308); FATE 0xF is unresolved. -/
structure FateRecord where
  sqid : Nat := 0
  cid : Nat := 0
  fate : Nat := 0
  reason : Nat := 0
  event : Nat := 0
  cntlid : Nat := 0
  nsid : Nat := 0
  opt : Nat := 0
deriving DecidableEq, Repr, Inhabited

/-- A mirror of the fate log in NOR: its sequence number, the power-cycle count as it was written, and the records (R437). -/
structure FateMirror where
  seq : Nat := 0
  pcc : Nat := 0
  records : List FateRecord := []
deriving DecidableEq, Repr, Inhabited

/-- A submission queue's tail and head (R288). -/
structure SubQueue where
  tail : Nat := 0
  head : Nat := 0
deriving DecidableEq, Repr, Inhabited

/-- A completion queue (R300): the host's head, Staithe's tail and phase tag, contexts that wait for their entry, and what the
queue's slots in host memory hold. -/
structure CplQueue where
  head : Nat := 0
  tail : Nat := 0
  phase : Bool := true
  waiting : List Nat := []
  slots : Tab (List Byte) := []
deriving DecidableEq, Repr, Inhabited

/-- How Staithe selects the queues of a controller (R288): the burst, 2 to its power, 7 without limit; the weights of high, medium and low
priority; each queue's priority, 0 urgent to 3 low, the credits left of each weight, the queue served last in each class, and the queue
and length of the burst in hand. -/
structure Arbiter where
  burst : Nat := 0
  weights : List Nat := []
  prio : Tab Nat := []
  credits : Tab Nat := []
  last : Tab Nat := []
  queue : Nat := 0
  used : Nat := 0
deriving DecidableEq, Repr, Inhabited

/-- How a port answered the host last (R476, R514). -/
inductive HostAnswer where
  | none | retry | served | dropped | unsupported
deriving DecidableEq, Repr, Inhabited

/-- What the Staithe registers do not hold. -/
structure Staithe where
  ctxs : Tab Ctx := []
  nextSeq : Nat := 0
  /-- STH_NEW(c) -/
  new_ : Tab (List NewEntry) := []
  /-- queues by 65,536 × CNTLID + number -/
  sqs : Tab SubQueue := []
  cqs : Tab CplQueue := []
  /-- the controller last served by the round robin of R288 -/
  last : Nat := 31
  /-- NVMe controller registers written by the host, by 65,536 × CNTLID + offset; CSTS.CFS of each controller (R305) -/
  regs : Tab Nat := []
  cfs : Tab Bool := []
  /-- configuration space as the hosts wrote it, by 65,536 × function + place, and the VFs that each PF enables (R285, R286) -/
  cfg : Tab Nat := []
  vfs : Tab Nat := []
  arb : Tab Arbiter := []
  /-- the fate log, oldest first (R308), and records that wait for the end of the flush, with their ledger entry (R307) -/
  fates : List FateRecord := []
  deferred : List (Nat × FateRecord) := []
  answer : HostAnswer := .none
  /-- the newest mirror of the fate log in NOR (R308, R437) -/
  mirror : FateMirror := {}
  /-- milliseconds of the idle counter's step in hand (R311) -/
  idleMs : Nat := 0
deriving DecidableEq, Repr, Inhabited

/-! ### Lode, the DMA engines (14) -/

/-- What a channel's registers do not hold: the loaded descriptor, and how far it has gone. -/
structure DmaChannel where
  loaded : Bool := false
  desc : List Byte := []
  moved : Nat := 0
  late : Bool := false
  /-- bytes read and not yet written: the beginning of a block that is to be encrypted (R329, R353) -/
  part : List Byte := []
  /-- the context of a host transfer, and its SEQ (R297, R342) -/
  ctx : Option Nat := Option.none
  seq : Nat := 0
  /-- the request line to which the channel last committed, until it has been low (R350) -/
  spent : Nat := 0
deriving DecidableEq, Repr, Inhabited

/-! ### Carr, the map cache (15) -/

/-- A valid line (R362): its line address and its 64 bytes. -/
structure CarrLine where
  line : Nat := 0
  data : List Byte := []
deriving DecidableEq, Repr, Inhabited

/-- An entry of the posted-write buffer (R365): a byte of the line is written where it is not none; the cores whose stores it holds (R367). -/
structure Posted where
  line : Nat := 0
  bytes : List (Option Byte) := []
  cores : List Nat := []
deriving DecidableEq, Repr, Inhabited

/-- A fill in flight for a miss (R366, R373): the accesses that wait for the line, and whether an invalidation reached it. -/
structure Fill where
  line : Nat := 0
  waiting : List CarrAccess := []
  discard : Bool := false
deriving DecidableEq, Repr, Inhabited

/-- What the Carr registers do not hold. -/
structure Carr where
  /-- lines by 16 × set + way -/
  lines : Tab (Option CarrLine) := []
  pwb : List Posted := []
  fills : List Fill := []
  /-- the line reserved by each core's LR (R361) -/
  resv : Tab (Option Nat) := []
  stat : Tab Nat := []
  /-- the running operation: OP, way, next line or set (R370) -/
  op : Nat := 0
  way : Nat := 0
  next : Nat := 0
  /-- accesses that wait for room in the buffer, for those before them or for a core's stores, oldest first (R365, R367, R368) -/
  stalled : List CarrAccess := []
  /-- the answers that the last command of a core, fill or drain brought, by core, in order -/
  answers : List (Nat × BusAnswer) := []
deriving DecidableEq, Repr, Inhabited

/-! ### Aqsia: media work (11) -/

/-- One read of a ladder step, or a decode of the combine sum where not from the medium (R168): sectors counted from the first of the
descriptor's first track, whether they are read for the adaptation alone, COMB, the offset of the reference in 1/1,024 track, ALT_SET. -/
structure LadderRead where
  at_ : Nat := 0
  count : Nat := 1
  only : Bool := false
  media : Bool := true
  comb : Bool := false
  ofs : Int := 0
  alt : Nat := 1
deriving DecidableEq, Repr, Inhabited

/-- A descriptor accepted and not completed (R261, R267): its queue and slot, its bytes as read, DSTATE 1–3, and how far it has come.
Offsets count sectors, or tracks for FORMAT_TRACKS and ERASE_BAND. -/
structure Mwd where
  id : Nat := 0
  queue : Nat := 0
  slot : Nat := 0
  bytes : List Byte := []
  dstate : Nat := 1
  /-- its batch (R272), 0 for none -/
  batch : Nat := 0
  /-- the head slot it runs on -/
  stream : Option Nat := Option.none
  /-- its Reed operation runs: first offset, length, and 0 its own, 1 a re-read, 2 a rewrite (R200), 3 a
  ladder read (R168) -/
  issued : Bool := false
  opFirst : Nat := 0
  opCount : Nat := 0
  opKind : Nat := 0
  /-- offsets that are behind it -/
  done : Nat := 0
  /-- TIMING terminations with the time of the first, and a RESTART_LIMIT (R278) -/
  timing : Nat := 0
  timingAt : Nat := 0
  limited : Bool := false
  /-- first MARKED sector; first recovered sector, highest step, alignment retry (R172) -/
  marked : Option Nat := Option.none
  recovered : Option Nat := Option.none
  recStep : Nat := 0
  recAlign : Bool := false
  /-- sectors in the ladder, with their step-0 outcome and the step they failed last; sectors that it did not recover (R168) -/
  failed : List (Nat × Nat × Nat) := []
  /-- the running ladder step, its reads and decodes still to do, the running one first; that one is a decode of the sum -/
  ladStep : Nat := 0
  lad : List LadderRead := []
  decodeOnly : Bool := false
  lost : List (Nat × Nat) := []
  /-- written sectors to read again (true) or to write again, with their rewrites so far; the first rewritten, and the first that did
  not pass (R200) -/
  redo : List (Nat × Nat × Bool) := []
  rewritten : Option Nat := Option.none
  faulty : Option Nat := Option.none
  /-- the first sector whose buffer held a poisoned block (R277) -/
  poisoned : Option Nat := Option.none
  /-- its Reed operation is to stop at the next sector boundary (R268, R279) -/
  cancel : Bool := false
  /-- the DETAIL of the record that DSTATE 3 defers (R277, R282) -/
  deferred : Nat := 0
  /-- the format program of its operation, 0 the base program (R244) -/
  prog : Nat := 0
deriving DecidableEq, Repr, Inhabited

/-- A batch (R272): members accepted, members ended; the member accepted last, which closes it once it is closed. -/
structure Batch where
  queue : Nat := 0
  members : Nat := 0
  ended : Nat := 0
  closed : Bool := false
  slot : Nat := 0
  bytes : List Byte := []
deriving DecidableEq, Repr, Inhabited

/-- A ledger entry that a stream flushes (R321, R485): its index, the sectors of its header and run that are committed, and the sectors of
the Reed operation that runs, 0 for none. -/
structure FlushRun where
  /-- an operation of it has ended in RESTART_LIMIT (R278) -/
  limited : Bool := false
  entry : Nat := 0
  done : Nat := 0
  op : Nat := 0
deriving DecidableEq, Repr, Inhabited

/-- What the queue and ring registers do not hold. -/
structure MediaQueues where
  /-- in the order of acceptance -/
  descs : List Mwd := []
  nextId : Nat := 1
  batches : Tab Batch := []
  nextBatch : Nat := 1
  /-- the open batch of each queue, 0 for none -/
  openBatch : Tab Nat := []
  /-- each section's oldest spilled record, and the interrupt flags of its spilled records (R275) -/
  spillAt : Tab Nat := []
  spillIrq : Tab (List Bool) := []
  /-- posted slots that were cancelled (R279) -/
  cancels : List (Nat × Nat) := []
  /-- records that the walk of R281 still has to write, oldest first: queue, slot, the record's bytes, its interrupt flag -/
  owed : List (Nat × Nat × List Byte × Bool) := []
  /-- slots in DSTATE 1–3 that a warm reset left to the walk -/
  orphans : List (Nat × Nat) := []
  /-- no scan before the band check (R485); sections on which Mire starts no new operation (R236, R243) -/
  bandHold : Bool := false
  /-- FPROG_COMMIT holds every stream's operations (R243) -/
  progHold : Bool := false
  noStart : Tab Bool := []
  /-- descriptors of the system queues 16 and 17 (R258): sections that wait for calibration at level 0, ledger entries to flush -/
  calibration : List Nat := []
  flush : List Nat := []
  /-- the entry that each stream flushes, and streams whose band extent is full (R321, R485) -/
  flushing : Tab (Option FlushRun) := []
  full : Tab Bool := []
  /-- sectors of each stream's extent that hold whole entries; the flush has ended; it cannot run, for Mire's own memory failed (R21) -/
  bandAt : Tab Nat := []
  flushEnded : Bool := false
  flushDead : Bool := false
deriving DecidableEq, Repr, Inhabited

/-! ### Aqsia: sessions and commands (09, 10) -/

/-- What a command claims (R230). -/
inductive Claim where
  | spn
  | sec (k : Nat)
  | stbl | rcs | norw | upd | att | tel
deriving DecidableEq, Repr, Inhabited

/-- An open session (R212–R214): ID, generation, client class, label, idle timeout in s, the unused challenge with the time it was
given (R232). -/
structure Session where
  id : Nat := 0
  gen : Nat := 0
  cls : Nat := 0
  label : Nat := 0
  idle : Nat := 0
  challenge : Option (BitVec 256 × Nat) := Option.none
  /-- SPDM messages of its connection so far, oldest first (R256); the parts of a large message that have come, and the large reply that is
  read in parts, under its handle -/
  spdm : List (List Byte) := []
  partIn : List Byte := []
  partOut : List Byte := []
  handle : Nat := 0
deriving DecidableEq, Repr, Inhabited

/-- How far the running command of a pair has come: its phase, the sections or parts still to do, those done well and badly, values
found so far. -/
structure CmdRun where
  phase : Nat := 0
  todo : Nat := 0
  good : Nat := 0
  bad : Nat := 0
  cur : Option Nat := Option.none
  found : List Nat := []
  /-- the challenge that a signed command consumed as it started (R232) -/
  challenge : Option (BitVec 256) := Option.none
deriving DecidableEq, Repr, Inhabited

/-- An open load of a format program (R241, R242), with ID and GEN of the session that owns it. -/
structure FLoad where
  owner : Nat × Nat := (0, 0)
  prog : Nat := 0
  count : Nat := 0
  addr : Nat := 0
  persist : Bool := false
  words : List Word := []
deriving DecidableEq, Repr, Inhabited

/-- A loaded format program (R243, R244). -/
structure FProgram where
  prog : Nat := 0
  addr : Nat := 0
  persist : Bool := false
  words : List Word := []
deriving DecidableEq, Repr, Inhabited

/-- A binding (R244); program 0 is Broeno's base program. -/
structure Binding where
  prog : Nat := 0
  opcode : Nat := 0
  first : Nat := 0
  last : Nat := 0
  entry : Nat := 0
  thresh : Nat := 0
deriving DecidableEq, Repr, Inhabited

/-- The counts that TEL_SERVO returns (R253). -/
structure ServoTel where
  seeks : Nat := 0
  inhibits : Nat := 0
  pesLost : Nat := 0
deriving DecidableEq, Repr, Inhabited

/-- Aqsia's state behind the mailboxes and the service port. -/
structure Aqsia where
  sessions : List Session := []
  /-- SESSION_OPENs accepted since the last reset (R212) -/
  opens : Nat := 0
  /-- PENDING pairs in RING order, and RUNNING ones with their claims (R215) -/
  ring : List Nat := []
  running : List (Nat × List Claim) := []
  /-- PENDING pairs that were cancelled while no request was taken (R212, R218) -/
  toCancel : List Nat := []
  /-- pairs that were not FREE at the last warm reset and wait for the answer of R221 -/
  atReset : List Nat := []
  /-- by pair -/
  runs : Tab CmdRun := []
  load : Option FLoad := Option.none
  progs : List FProgram := []
  /-- bindings, oldest first -/
  binds : List Binding := []
  /-- power state, saved service target and source (R246) -/
  ps : Nat := 0
  target : Nat := 0x70_8000
  src : Nat := 0
  /-- IRUN, RATE and RACC to restore once AT_SPEED sets (R246) -/
  restore : Option (Nat × Nat × Nat) := Option.none
  /-- freezes by area: ID and GEN of the session that set it (R249) -/
  freezes : Tab (Option (Nat × Nat)) := []
  servo : Tab ServoTel := []
  /-- a provisional window has been cancelled since power-on (R245) -/
  dip : Bool := false
  /-- the last quote (R255) -/
  quote : List Byte := []
  /-- versions of the CHAN and SERVO parts in use (R253, R434) -/
  chan : Nat := 0
  servoTbl : Nat := 0
  /-- the calibration area of NOR (R240), by 512 × (65,536 × surface + zone) + item: what CHANNEL_CAL has stored -/
  cal : Tab (Option Nat) := []
  /-- service port: LAST_ERR, the bytes that it sent last (R224, R225) -/
  lastErr : Nat := 0
  sent : List Byte := []
  /-- the start sequence (R475–R484) runs: sections still to load now, the one that loads, those that failed once -/
  starting : Bool := false
  toLoad : List Nat := []
  loading : Option Nat := Option.none
  again : List Nat := []
  /-- a start of the spindle was tried again after WTH_START_FAIL, and after TIDE_ACQ_FAIL; failed acquisitions; the second pass of loads
  runs (R480–R482) -/
  spinFails : Nat := 0
  acqFails : Nat := 0
  respun : Bool := false
  second : Bool := false
  /-- a power-fail commit preceded this start, so the bands are to be checked (R485); sections checked so far -/
  bandCheck : Bool := false
  checked : List Nat := []
deriving DecidableEq, Repr, Inhabited

/-! ### Dyke (19) -/

/-- The root of trust. Registers hold the rest. -/
structure Dyke where
  /-- NOR: the two pointer copies (R438), none where a copy is not valid; the slots (R436) -/
  copies : Tab (Option Pointer) := []
  slots : Tab Slot := []
  /-- DYKE_UID, loaded from OTP as power-on reset is released (R11, R429) -/
  uid : Tab Word := []
  /-- OTP: DM_KEY_HASH (R429) -/
  keyHash : BitVec 384 := 0
  /-- the mode in which the boot ROM reads NOR, from a strap (R493) -/
  norMode : Nat := 0
  /-- RECOVERY or HALT, until power-on reset (R430, R440) -/
  stuck : Bool := false
  /-- the trial, or the boot in BLANK, has completed (R441) -/
  completed : Bool := false
  /-- since this boot a session of class 0 has opened (R441) -/
  hostSeen : Bool := false
  /-- the parts of the running slot that no longer read back as Dyke verified them (R439) -/
  changed : List Nat := []
  /-- the layer 0 seed, CDI1–CDI3 (R432), the certificates (R432), the last boot record's body (R443) -/
  seed : BitVec 384 := 0
  cdi : Tab (BitVec 384) := []
  certs : Tab (List Byte) := []
  bootBody : List Byte := []
  recorded : Bool := false
  /-- DYKE_EXT_DATA as written (R435) -/
  ext : Tab Word := []
  /-- the update engine (R251): the generation of the owner, TOTAL, the package so far, applied -/
  owner : Option (Nat × Nat) := Option.none
  total : Nat := 0
  package : List Byte := []
  applied : Bool := false
deriving DecidableEq, Repr, Inhabited

/-- Why Mire is interrupted. -/
inductive MireIrq where
  /-- a stream returned to IDLE (R150) -/
  | opEnd (n : Nat)
  /-- a result queue holds 48 entries, or PENDING_CNT returned to 0 (R176) -/
  | sectors (n : Nat)
  /-- Levee made a record (R414) -/
  | fault
  /-- the power-fail warning, the commit, the late point (R398, R400, R402) -/
  | warning
  | commit
  | late
  /-- a block reset ended (R424) -/
  | blockReset (sub : Nat)
  /-- a preamplifier drives its fault line (R503) -/
  | preamp (link : Nat)
deriving DecidableEq, Repr, Inhabited

/-- Why a Fen core is interrupted. -/
inductive FenIrq where
  /-- INT and NMI reactions (R415) -/
  | fault
  | nmi
  /-- controller k awaits the end of its contexts (R303) -/
  | controller (k : Nat)
  /-- the idle counter reached threshold i; 0 is WAKE (R311, R312) -/
  | idle (i : Nat)
  /-- a Lode channel (R358) -/
  | dma (c : Nat)
  /-- a pair is DONE (R207); a record of a section's ring, or SCAN_STOP (R276) -/
  | mailbox (pair : Nat)
  | ring (section_ : Nat)
deriving DecidableEq, Repr, Inhabited

/-- The machine. -/
structure State where
  /-- the commands that wait, first in, first out -/
  pending : List Instr := []
  /-- the control registers (R7, R508–R510): what differs from the value after power-on reset -/
  regs : Tab Word := []
  /-- buffer DRAM by address (R315): what differs from 0 -/
  dram : Tab Byte := []
  /-- the on-chip SRAM (R28): what differs from 0, Fen tightly coupled memory by its address (R507), any other region by `sramKey` -/
  sram : Tab Byte := []
  /-- the answer of the last register or memory access (R7) -/
  bus : BusAnswer := .none
  /-- the model's own: how many free values have been drawn -/
  drawn : Nat := 0
  /-- interrupts that Mire has not served yet -/
  mireIrq : List MireIrq := []
  /-- interrupts raised to Fen cores, newest first: the core and why -/
  fenIrq : List (Nat × FenIrq) := []
  /-- the eight sequencers (06) -/
  seqs : Tab Seq := []
  /-- the eight channels (07, 08) -/
  chans : Tab Channel := []
  /-- consecutive ticks without shock (R193) -/
  shockQuiet : Nat := 0
  /-- stream staging and its movers (R325) -/
  stg : Tab Staging := []
  /-- Tide (02) -/
  tide : Tide := {}
  /-- Levee (18) and Peat (20) -/
  lev : Levee := {}
  peat : Peat := {}
  /-- Weir (17) -/
  weir : Weir := {}
  /-- Mire runs Aqsia; a warm reset is in progress until it does (R24, R439) -/
  mireRuns : Bool := false
  warmBusy : Bool := false
  /-- Withy (03) -/
  withy : Withy := {}
  /-- Tussock (04, 05) -/
  tus : Tus := {}
  /-- the preamplifier links, 4 the timing preamplifier's (22) -/
  links : Tab Link := []
  /-- Sluice and Causeway (13, 16) -/
  slu : Sluice := {}
  /-- Staithe (12) -/
  sth : Staithe := {}
  /-- Lode's channels (14) -/
  dma : Tab DmaChannel := []
  /-- Carr (15) -/
  carr : Carr := {}
  /-- media work (11), and Aqsia behind the mailboxes (09, 10, 21) -/
  mq : MediaQueues := {}
  aq : Aqsia := {}
  /-- Dyke (19) -/
  dyke : Dyke := {}
deriving DecidableEq, Repr, Inhabited

/-- The machine right after power-on reset (R11): every register at its Reset value (an unlisted register reads as it), every
memory empty, no supply qualified yet, no command waiting. -/
def State.reset : State := {}

end Sys2Proof.Machine
end

