-- ==== Sys2Proof/Machine/Ops.lean ====
section
/-! DEFINITION. The named operations over registers, memory and the interrupt lines that every meaning uses. -/

namespace Sys2Proof.Machine

/-! ### Control registers (R7–R11) -/

/-- What the register at `a` holds. -/
def State.regAt (s : State) (a : Nat) : Word := tabGet regReset s.regs a

/-- The register at `a` set to `w`. -/
def State.putReg (s : State) (a : Nat) (w : Word) : State := { s with regs := tabPut regReset s.regs a w }

/-- Bits `lo` up of `w`, `width` of them, replaced by `v` (modulo its width). -/
def fieldPut (w : Word) (f : Fld) (v : Nat) : Word :=
  (w &&& ~~~ (BitVec.ofNat 32 (2 ^ f.width - 1) <<< f.lo)) ||| (BitVec.ofNat 32 (v % 2 ^ f.width) <<< f.lo)

/-- The value of a register field. -/
def State.get (s : State) (f : Fld) : Nat := ((s.regAt f.addr) >>> f.lo).toNat % 2 ^ f.width

/-- A field set to `v`, modulo its width. -/
def State.set (s : State) (f : Fld) (v : Nat) : State := s.putReg f.addr (fieldPut (s.regAt f.addr) f v)

/-- A field is not 0. -/
def State.is (s : State) (f : Fld) : Bool := s.get f != 0

/-- A one-bit field set to a condition. -/
def State.setIf (s : State) (f : Fld) (b : Bool) : State := s.set f b.toNat

/-- A field counted up, wrapping at its width. -/
def State.inc (s : State) (f : Fld) : State := s.set f (s.get f + 1)

/-- A field counted up by `k` and held at its greatest value. -/
def State.incSat (s : State) (f : Fld) (k : Nat := 1) : State := s.set f (min (s.get f + k) (2 ^ f.width - 1))

/-- `f` applied where the condition holds. -/
def State.when (s : State) (c : Bool) (f : State → State) : State := if c then f s else s

/-- `f` applied for every number below `k`, in rising order. -/
def State.forN (s : State) (k : Nat) (f : Nat → State → State) : State :=
  (List.range k).foldl (fun t i => f i t) s

/-- A value of `width` bits read as two's complement. -/
def signed (width v : Nat) : Int := if v < 2 ^ (width - 1) then (v : Int) else (v : Int) - 2 ^ width

/-- An integer as a word, modulo 2^32. -/
def toWord (i : Int) : Word := BitVec.ofInt 32 i

/-- A signed field's value. -/
def State.getS (s : State) (f : Fld) : Int := signed f.width (s.get f)

/-- A signed value written to a field, modulo its width. -/
def State.setS (s : State) (f : Fld) (i : Int) : State := s.set f (i % (2 : Int) ^ f.width).toNat

/-- The media angle word (R34, R53). -/
def State.mang (s : State) : Word := s.regAt 0x4E00_0000

/-- The media angle is now `m`. -/
def State.atMang (s : State) (m : Word) : State := s.putReg 0x4E00_0000 m

/-- The operating time in milliseconds, 40 bits (R51). -/
def State.opt (s : State) : Nat := s.get .TIDE_OPT_HI_MS_HI * 2 ^ 32 + s.get .TIDE_OPT_LO_MS_LO

/-! ### Free values -/

/-- A value of `width` bits that the spec leaves open, and the state with one more value drawn. -/
def State.draw (s : State) (width : Nat) : Nat × State :=
  (Config.freeValue s.drawn % 2 ^ width, { s with drawn := s.drawn + 1 })

/-! ### Interrupts and answers -/

/-- Mire is interrupted. -/
def State.irqMire (s : State) (x : MireIrq) : State :=
  if x ∈ s.mireIrq then s else { s with mireIrq := s.mireIrq ++ [x] }

/-- Mire has served an interrupt. -/
def State.served (s : State) (x : MireIrq) : State := { s with mireIrq := s.mireIrq.filter (· ≠ x) }

/-- A Fen core is interrupted. -/
def State.irqFen (s : State) (core : Nat) (x : FenIrq) : State :=
  if (core, x) ∈ s.fenIrq then s else { s with fenIrq := s.fenIrq ++ [(core, x)] }

/-- The access is answered with a value. -/
def State.answer (s : State) (v : Nat) : State := { s with bus := .value v }

/-- The access completes. -/
def State.ack (s : State) : State := { s with bus := .done }

/-- The access completes with a bus error (R7). -/
def State.busErr (s : State) : State := { s with bus := .busError }

/-! ### Buffer DRAM (R315, R507) -/

/-- The first address of buffer DRAM. -/
def dramBase : Nat := 0x10_0000_0000

/-- The first address past usable DRAM, by SLU_DRAM_CFG.SIZE (R315). -/
def State.dramEnd (s : State) : Nat :=
  match s.get .SLU_DRAM_CFG_SIZE with
  | 0 => 0x10_F000_0000
  | 1 => 0x11_E000_0000
  | _ => 0x13_C000_0000

/-- `len` bytes from `a` lie wholly in usable, trained DRAM (R315). -/
def State.dramOk (s : State) (a len : Nat) : Bool :=
  s.is .SLU_DRAM_CFG_TRAINED && decide (dramBase ≤ a) && decide (a + len ≤ s.dramEnd)

/-- One byte of DRAM. -/
def State.byteAt (s : State) (a : Nat) : Byte := tabGet (fun _ => 0) s.dram a

/-- One byte of DRAM written. -/
def State.putByte (s : State) (a : Nat) (b : Byte) : State := { s with dram := tabPut (fun _ => 0) s.dram a b }

/-- `len` bytes of DRAM from `a`. -/
def State.readBytes (s : State) (a len : Nat) : List Byte := (List.range len).map (fun i => s.byteAt (a + i))

/-- Bytes written to DRAM from `a` up. -/
def State.writeBytes (s : State) (a : Nat) : List Byte → State
  | [] => s
  | b :: bs => (s.putByte a b).writeBytes (a + 1) bs

/-- Bytes as a little-endian number (R6). -/
def leNat : List Byte → Nat
  | [] => 0
  | b :: bs => b.toNat + 256 * leNat bs

/-- A number as `k` little-endian bytes (R6). -/
def leBytes : Nat → Nat → List Byte
  | 0, _ => []
  | k + 1, v => BitVec.ofNat 8 v :: leBytes k (v / 256)

/-- The little-endian number in bytes `off` to `off + len - 1` of a structure. -/
def fieldAt (bs : List Byte) (off len : Nat) : Nat := leNat ((bs.drop off).take len)

end Sys2Proof.Machine
end

