-- ==== Sys2Proof/Machine/Stream.lean ====
section
/-! DEFINITION. What every meaning shares about a media stream: its surface and bit grid (R35, R42, R126, R127), its gates and
their drops (R139, R191–R195), restarts and terminations (R141), the queues that leave Reed and Sedge (R143, R176). -/

namespace Sys2Proof.Machine

/-- Sequencer n. -/
def State.seq (s : State) (n : Nat) : Seq := s.seqs.at n

/-- Sequencer n changed. -/
def State.updSeq (s : State) (n : Nat) (f : Seq → Seq) : State := { s with seqs := s.seqs.upd n f }

/-- Channel n. -/
def State.chan (s : State) (n : Nat) : Channel := s.chans.at n

/-- Channel n changed. -/
def State.updChan (s : State) (n : Nat) (f : Channel → Channel) : State := { s with chans := s.chans.upd n f }

/-- Stream n's staging. -/
def State.stage (s : State) (n : Nat) : Staging := s.stg.at n

/-- Stream n's staging changed. -/
def State.updStage (s : State) (n : Nat) (f : Staging → Staging) : State := { s with stg := s.stg.upd n f }

/-- The surface of the head in stream n's slot (R86): 6 and 7 act as head 0. -/
def State.surface (s : State) (n : Nat) : Nat :=
  let h := if n % 2 = 0 then s.get (.TUS_SEC_CTRL_HEAD0 (n / 2)) else s.get (.TUS_SEC_CTRL_HEAD1 (n / 2))
  6 * (n / 2) + (if h < 6 then h else 0)

/-! ### Angles and the bit grid -/

/-- OFS + SLIP of a surface, modulo one revolution (R35). -/
def State.surfAngle (s : State) (surf : Nat) : Word :=
  BitVec.ofNat 32 (s.get (.TIDE_SURF_OFS_OFS surf)) + toWord (s.getS (.TIDE_SURF_SLIP_SLIP surf))

/-- The MANG units by which `m` lies past the start of the protected span of its wedge period (R127). -/
def State.spanPos (s : State) (n : Nat) (m : Word) : Nat :=
  (m - s.surfAngle (s.surface n) + BitVec.ofNat 32 (s.get .REED_WEDGE_GUARD * 4096)).toNat % 0x40_0000

/-- The length of a protected span in MANG units (R127). -/
def State.spanLen (s : State) : Nat := (s.get .REED_WEDGE_GUARD + s.get .REED_WEDGE_LEN) * 4096

/-- `m` lies in a protected span of stream n (R127). -/
def State.inSpan (s : State) (n : Nat) (m : Word) : Bool := decide (s.spanPos n m < s.spanLen)

/-- The MANG units from `m` to the start of the next protected span, 0 within one. -/
def State.toSpan (s : State) (n : Nat) (m : Word) : Nat :=
  if s.inSpan n m then 0 else 0x40_0000 - s.spanPos n m

/-- The end of the protected span that holds `m`, or else of the next one. -/
def State.spanEnd (s : State) (n : Nat) (m : Word) : Word :=
  let p := s.spanPos n m
  m + BitVec.ofNat 32 ((if p < s.spanLen then s.spanLen else 0x40_0000 + s.spanLen) - p)

/-- The whole channel bits in `d` MANG units (R42: 4,096 units a cell, CBPC with 24 fraction bits). -/
def State.bitsIn (s : State) (n d : Nat) : Nat := d * s.get (.TIDE_ST_CBPC_CBPC n) / 2 ^ 36

/-- The MANG units that `b` channel bits span, rounded up. -/
def State.unitsOf (s : State) (n b : Nat) : Nat :=
  let c := s.get (.TIDE_ST_CBPC_CBPC n)
  if c = 0 then 0 else (b * 2 ^ 36 + c - 1) / c

/-- The angle at which the bit grid of stream n has its origin (R42). -/
def State.gridOrigin (s : State) (n : Nat) : Word :=
  s.surfAngle (s.surface n) + BitVec.ofNat 32 (s.get (.TIDE_ST_PHASE_PHASE n))

/-- The first bit-cell boundary of stream n at or after `m` (R126), as the first MANG value at or past it. -/
def State.nextGrid (s : State) (n : Nat) (m : Word) : Word :=
  let x := (m - s.gridOrigin n).toNat
  let c := s.get (.TIDE_ST_CBPC_CBPC n)
  if c = 0 then m
  else s.gridOrigin n + BitVec.ofNat 32 (s.unitsOf n ((x * c + 2 ^ 36 - 1) / 2 ^ 36))

/-- The number, from the grid's origin, of the bit-cell boundary whose MANG is `m`: the last one at or before it (R42, R126). -/
def State.bitIndex (s : State) (n : Nat) (m : Word) : Nat := s.bitsIn n (m - s.gridOrigin n).toNat

/-- The whole bit cells between the boundary at `a` and the angle `d` units after it. -/
def State.bitsOver (s : State) (n : Nat) (a : Word) (d : Nat) : Nat :=
  s.bitsIn n ((a - s.gridOrigin n).toNat + d) - s.bitIndex n a

/-- The MANG of boundary `b` of the grid, as the first value at or past it. -/
def State.boundary (s : State) (n b : Nat) : Word := s.gridOrigin n + BitVec.ofNat 32 (s.unitsOf n b)

/-- Stream n's clock runs: CBPC 0 stops it (R56). -/
def State.clockRuns (s : State) (n : Nat) : Bool := s.is (.TIDE_ST_CBPC_CBPC n)

/-- Angle `t` lies ahead of `m`, or at it (R131). -/
def ahead (m t : Word) : Bool := decide ((t - m).toNat < 2 ^ 31)

/-- Tide is in LOCKED or SINGLE (R36). -/
def State.tideLocked (s : State) : Bool := s.get .TIDE_STATUS_STATE == 3 || s.get .TIDE_STATUS_STATE == 4

/-- Write inhibit for stream n's lane (R117, R191, R193): Tussock's, shock, a retract of the section, or an overrate (R42). -/
def State.winh (s : State) (n : Nat) : Bool :=
  (s.get (.TUS_SEC_STATUS_WINH (n / 2)) / 2 ^ (n % 2)) % 2 == 1 || s.is .SDG_WF_STATUS_SHOCK_ACTIVE ||
    s.is (.WTH_VCM_STATUS_RET_ACTIVE (n / 2)) || s.tide.overrate.at n

/-! ### Queues that leave Reed and Sedge -/

/-- REED_ST_STATUS.EVT_CNT follows the queue. -/
def State.reedCount (s : State) (n : Nat) : State := s.set (.REED_ST_STATUS_EVT_CNT n) (s.seq n).events.length

/-- A hardware event enters stream n's queue, or waits for room: no event is dropped (R143). -/
def State.reedEvent (s : State) (n kind data : Nat) : State :=
  let q := s.seq n
  let e : ReedEvent := ⟨kind, data % 2 ^ 22⟩
  (if q.events.length < 64 ∧ q.owed = [] then s.updSeq n (fun q => { q with events := q.events ++ [e] })
   else s.updSeq n (fun q => { q with owed := q.owed ++ [e] })).reedCount n

/-- The bits that a sector's defect detectors erased (R163). -/
def Samples.erased (x : Samples) : Nat := x.erasures.foldl (fun k e => k + (e.2 - e.1)) 0

/-- A range of bits joins disjoint ranges. -/
def addRange (lo hi : Nat) : List (Nat × Nat) → List (Nat × Nat)
  | [] => [(lo, hi)]
  | (a, b) :: r =>
    if hi < a then (lo, hi) :: (a, b) :: r
    else if b < lo then (a, b) :: addRange lo hi r
    else addRange (min lo a) (max hi b) r

/-- Sectors of stream n that await a result (R167): in progress, waiting for the decoder, parked. -/
def Channel.awaiting (c : Channel) : Nat :=
  (if c.cur.isSome then 1 else 0) + c.waiting.length +
    (c.park.filter (fun e => match e.2 with | .held _ _ _ => true | _ => false)).length

/-- The status fields that follow channel n's queues (R167, R176, R181); an interrupt when PENDING_CNT returns to 0. -/
def State.sdgStatus (s : State) (n : Nat) : State :=
  let c := s.chan n
  let parkUsed := (c.park.filter (fun e => decide (e.1 < 4) && decide (e.2 ≠ .free))).foldl (fun acc e => acc + 2 ^ e.1) 0
  let was := s.get (.SDG_ST_STATUS_PENDING_CNT n)
  let pend := c.awaiting
  let others (f : Nat) := f - f / 2 ^ n % 2 * 2 ^ n
  let s := (s.set (.SDG_ST_STATUS_RES_CNT n) c.results.length).set (.SDG_ST_STATUS_PARK_USED n) parkUsed
  let s := s.set (.SDG_ST_STATUS_PENDING_CNT n) pend
  let s := s.set .SDG_STATUS_PENDING (others (s.get .SDG_STATUS_PENDING) + (if pend = 0 then 0 else 2 ^ n))
  let s := s.set .SDG_STATUS_RES_IRQ (others (s.get .SDG_STATUS_RES_IRQ) + (if c.results.length < 48 then 0 else 2 ^ n))
  s.when (was != 0 && pend == 0) (fun s => s.irqMire (.sectors n))

/-- The entries of the result queue that a result may fill (R176): 64, with 8 more for CUT and OVERRUN. -/
def resultRoom (outcome : Nat) : Nat := if outcome = 6 ∨ outcome = 7 then 72 else 64

/-- A result is posted where an entry is free for it (R176); a CUT or OVERRUN without one is counted as lost
(R177; the fault of a lost sector is recorded by SECTOR_OVERRUN). Mire is interrupted when 48 entries are occupied. -/
def State.postResult (s : State) (n : Nat) (r : SectorResult) : State :=
  if (s.chan n).results.length < resultRoom r.outcome then
    let s := s.updChan n (fun c => { c with results := c.results ++ [r] })
    (s.when ((s.chan n).results.length == 48) (fun s => s.irqMire (.sectors n))).sdgStatus n
  else ((s.updChan n (fun c => { c with lost := c.lost + 1 })).set (.SDG_ST_STATUS_RES_OVF n) 1).sdgStatus n

/-- A telemetry counter of channel n counted up and held at 0xFFFF_FFFF (R178). -/
def State.telAdd (s : State) (n i k : Nat) : State :=
  s.updChan n (fun c => { c with tel := c.tel.put i (min (c.tel.at i + k) 0xFFFF_FFFF) })

/-- A telemetry level of channel n (R178). -/
def State.telLevel (s : State) (n i v : Nat) : State :=
  s.updChan n (fun c => { c with tel := c.tel.put i (v % 2 ^ 32) })

/-- The result entry of sector `x` (R176, R181). -/
def Channel.resultOf (c : Channel) (x : Samples) (outcome : Nat) (align : Int) (iter : Nat) : SectorResult :=
  { outcome := outcome, align := align, iter := iter, index := x.index, erased := min 4095 x.erased, timed := x.timed,
    step := if c.mode = 3 then c.step else 0, ofs := x.ofs }

/-- The bits `lo` to `hi` of the sector being read are erased (R163). -/
def State.eraseBits (s : State) (n lo hi : Nat) : State :=
  let hi := min hi (128 * (276 + s.get (.SDG_CODE_C n)))
  s.updChan n (fun c => { c with cur := c.cur.map (fun x => { x with erasures := if lo < hi then addRange lo hi x.erasures else x.erasures }) })

/-- A sector's read is over (R163): the bits of a defect that is still open are erased to the sector's end, and the detectors are at rest
(DESIGN CHOICE: a defect that outlasts a sector is detected anew in the next). -/
def State.endDefects (s : State) (n : Nat) : State :=
  let c := s.chan n
  let all := 128 * (276 + s.get (.SDG_CODE_C n))
  let s := match c.taFrom with | some f => s.eraseBits n (f - s.get (.SDG_DEF_TA_PRE n)) all | none => s
  let s := match c.doFrom with | some f => s.eraseBits n (f - s.get (.SDG_DEF_DO_PAD n)) all | none => s
  let s := s.updChan n (fun c => { c with taFrom := none, doFrom := none, corner16 := false, corner16To := none })
  (s.set (.SDG_FE_STATUS_TA_ACTIVE n) 0).set (.SDG_FE_STATUS_DO_ACTIVE n) 0

/-- The sector in progress is cut (R175): it posts CUT, also where its first XFER has not started, but for one that has its result
already (R176). It is in progress from the rise of RG that reserved it (R136). -/
def State.cutRead (s : State) (n : Nat) : State :=
  let q := s.seq n
  if q.inSector && q.reads && !q.judged then
    let x := match (s.chan n).cur with
      | some x => x
      | none => { index := s.get (.REED_ST_G_VALUE n 7) % 2 ^ 16 }
    let s := ((s.updChan n (fun c => { c with cur := none })).endDefects n).updSeq n (fun q => { q with judged := true })
    s.postResult n ((s.chan n).resultOf x 6 0 0)
  else s

/-- Stream n's staging counts in SLU_STG_STATUS (R325). -/
def State.stgStatus (s : State) (n : Nat) : State :=
  let g := s.stage n
  (((s.setIf (.SLU_STG_STATUS_ACTIVE n) g.active).setIf (.SLU_STG_STATUS_DIR n) g.read).set (.SLU_STG_STATUS_RESV n) g.resv).set
    (.SLU_STG_STATUS_READY n) (g.moved - g.freed)

/-! ### The write gate and its drops -/

/-- The entry of the verify queue that the sector being written holds, changed. -/
def onLast (f : VfyEntry → VfyEntry) : List VfyEntry → List VfyEntry
  | [] => []
  | [e] => [f e]
  | e :: es => e :: onLast f es

/-- The fragment written under the raised gate has ended: the checker follows its bits from the one on at which VG was armed (R139,
R196). -/
def State.endFragment (s : State) (n : Nat) (f : VfyEntry → VfyEntry) : State :=
  let q := s.seq n
  if q.checked then
    s.updChan n (fun c => { c with
      vfy := onLast (fun e => f (if q.vg && q.wg then { e with frags := e.frags ++ [(c.wd.drop q.vgFrom).map (·.1)] } else e)) c.vfy })
  else s

/-- The write gate of stream n drops by `cause` (R191): the pair goes idle (R189), SDG_WR_STATUS names the cause, and for causes 2–8
the angle is latched, the cause is marked and DROPS counts (R195). A gate that is low does not drop. -/
def State.dropWg (s : State) (n cause : Nat) : State :=
  if (s.seq n).wg then
    let s := (s.endFragment n id).updSeq n (fun q => { q with wg := false, vgFrom := 0 })
    let s := s.updChan n (fun c => { c with wd := [] })
    let s := (s.set (.SDG_WR_STATUS_WG n) 0).set (.SDG_WR_STATUS_CAUSE n) cause
    s.when (decide (2 ≤ cause) && decide (cause ≤ 8)) (fun s =>
      let seen := s.get .SDG_WF_STATUS_CAUSE_SEEN
      let s := (s.set (.SDG_WR_DROP_MANG n) s.mang.toNat).incSat (.SDG_WR_STATUS_DROPS n)
      s.set .SDG_WF_STATUS_CAUSE_SEEN (seen ||| 2 ^ (cause - 2)))
  else s

/-- Every gate of stream n drops: the write gate by `cause`, RG and VG low. -/
def State.dropGates (s : State) (n cause : Nat) : State :=
  (s.dropWg n cause).updSeq n (fun q => { q with rg := false, vg := false })

/-- Stream n runs an operation. -/
def State.running (s : State) (n : Nat) : Bool := s.is (.REED_ST_STATUS_STATE n)

/-- A restart event for stream n: of several at once the lowest cause counts (R142). -/
def State.restartDue (s : State) (n cause : Nat) : State :=
  s.updSeq n (fun q => { q with restartDue := some (match q.restartDue with | some c => min c cause | none => cause) })

/-- The operation of stream n ends with TERM `term` (R141): every gate drops by `cause`, the sector in progress posts CUT
(R175), what the last commit did not cover stays uncommitted, and Mire is interrupted (R150). A termination leaves the bits unchecked of
the sectors that have no outcome yet (R197; DESIGN CHOICE: of each of them). -/
def State.terminate (s : State) (n term cause : Nat) : State :=
  if s.running n then
    let s := ((s.dropWg n cause).endFragment n (fun e => { e with ended := true, cut := true })).dropGates n cause
    let s := (s.cutRead n).endDefects n
    let s := s.when (term != 0) (fun s => s.updChan n (fun c => { c with vfy := c.vfy.map (fun e => if e.posted then e else { e with cut := true }) }))
    let s := s.updSeq n (fun q =>
      { q with inSector := false, judged := false, checked := false, stall := .none, restartDue := none, dataAt := none, noData := false })
    let s := (s.set (.REED_ST_STATUS_STATE n) 0).set (.REED_ST_STATUS_TERM n) term
    let s := (s.updStage n (fun g => { g with resv := 0 })).stgStatus n
    (s.sdgStatus n).irqMire (.opEnd n)
  else s

/-- Write inhibit arises for stream n (R191 causes 2–4): a raised gate drops, which is a restart event (R141 cause 1). -/
def State.inhibitDrop (s : State) (n cause : Nat) : State :=
  if (s.seq n).wg then (s.dropWg n cause).restartDue n 1 else s

/-- Tide left LOCKED or SINGLE, or EPOCH changed (R191 cause 5 or 6, R141): a raised gate drops and its operation ends with
TIMING; with `epoch` every operation does. -/
def State.timingDrop (s : State) (cause : Nat) (epoch : Bool) : State :=
  s.forN 8 (fun n s => if (s.seq n).wg ∨ (epoch ∧ s.running n) then (s.dropWg n cause).terminate n 4 cause else s)

/-- A class F source (R191 cause 8, R141): every gate drops and every operation ends with FATAL. -/
def State.fatalDrop (s : State) : State :=
  s.forN 8 (fun n s => (s.dropWg n 8).terminate n 3 0)

end Sys2Proof.Machine
end

