-- ==== Sys2Proof/Machine/Faults.lean ====
section
/-! DEFINITION. What every meaning that raises a fault shares: staging an event record (R461–R467), recording a line with its
reactions (R412–R422) and the status fields, ERROR_N and ALIVE that follow the latches (R419, R420). -/

namespace Sys2Proof.Machine

/-! ### Staging an event record -/

/-- The bytes a record occupies: LEN rounded up to a multiple of 4 (R456). -/
def PeatRecord.size (r : PeatRecord) : Nat := (16 + r.body.length + 3) / 4 * 4

/-- The permanent area of a stream, and its circulating area (R458). -/
def permArea (stream : Nat) : Nat := 2 * stream
def circArea (stream : Nat) : Nat := 2 * stream + 1

/-- Area `a` is frozen (R467). -/
def State.frozen (s : State) (a : Nat) : Bool := s.get .PEAT_FRZ_AREA / 2 ^ a % 2 == 1

/-- A staged record waits behind a freeze (R467). -/
def State.heldBack (s : State) (x : Staged) : Bool :=
  (x.toPerm && s.frozen (permArea x.rec_.stream)) || (x.toCirc && s.frozen (circArea x.rec_.stream))

/-- Bytes of staged records, all of them and those held behind freezes. -/
def stagedBytes (l : List Staged) : Nat := l.foldl (fun n x => n + x.rec_.size) 0
def State.heldBytes (s : State) : Nat := stagedBytes (s.peat.staged.filter s.heldBack)

/-- PEAT_STATUS follows the staging buffer (R473). -/
def State.peatStatus (s : State) : State :=
  ((s.set .PEAT_STATUS_USED ((stagedBytes s.peat.staged + 63) / 64)).set .PEAT_STATUS_HELD ((s.heldBytes + 63) / 64)).setIf
    .PEAT_STATUS_STAMP_WAIT (s.peat.staged.any (fun x => !x.rec_.stamped))

/-- Records are stamped when staged (R465). -/
def State.stampReady (s : State) : Bool := s.is .TIDE_STATUS_OPT_LOADED && s.peat.pccLocked

/-- A flush starts (R461): it takes every staged and stamped record that is not held. A trigger during a flush waits for its
end. -/
def State.startFlush (s : State) : State :=
  if s.is .PEAT_STATUS_FLUSHING then { s with peat := { s.peat with again := true } }
  else
    let take (x : Staged) : Staged := if x.rec_.stamped && !s.heldBack x then { x with inFlush := true } else x
    { s with peat := { s.peat with staged := s.peat.staged.map take, again := false } }.set .PEAT_STATUS_FLUSHING 1

/-- From the power-fail commit until the sequence ends (R400, R403). -/
def State.committed (s : State) : Bool := s.get .WEIR_STATUS_PF == 2

/-- From the power-fail warning onward, until the window is cancelled or the drive restarts (R226, R383, R403). -/
def State.powerFailing (s : State) : Bool := s.is .WEIR_STATUS_PF

/-- The area that holds the oldest held record (R467). -/
def State.oldestHeldArea (s : State) : Option Nat :=
  match s.peat.staged.find? s.heldBack with
  | some x => some (if x.toPerm && s.frozen (permArea x.rec_.stream) then permArea x.rec_.stream else circArea x.rec_.stream)
  | none => none

/-- The freeze of area `a` is released (R466, R467). -/
def State.unfreeze (s : State) (a : Nat) : State :=
  let f := s.get .PEAT_FRZ_AREA
  (s.set .PEAT_FRZ_AREA (f - f / 2 ^ a % 2 * 2 ^ a)).peatStatus

/-- A record enters staging (R461): stamped where both locks are set (R465), with GAP after a loss, or lost for want of room
(R462). More than 16 KiB not held, or a commit, starts a flush. -/
def State.stageRecord (s : State) (stream type_ : Nat) (body : List Byte) : State :=
  let r : PeatRecord :=
    { stream := stream, type_ := type_, body := body, rseq := s.get (.PEAT_RSEQ_NEXT stream), gap := s.peat.gap.at stream,
      stamped := s.stampReady, opt := if s.stampReady then s.opt else 0,
      pcc := if s.stampReady then s.get .PEAT_PCC_COUNT else 0 }
  let s := s.inc (.PEAT_RSEQ_NEXT stream)
  if stagedBytes s.peat.staged + r.size ≤ 262144 then
    let x : Staged := { rec_ := r, toPerm := !(s.peat.areas.at (permArea stream)).full, toCirc := true }
    let s := { s with peat := { s.peat with staged := s.peat.staged ++ [x], gap := s.peat.gap.put stream false } }.peatStatus
    s.when (decide (16384 < stagedBytes s.peat.staged - s.heldBytes) || s.committed) State.startFlush
  else
    let s := { s with peat := { s.peat with gap := s.peat.gap.put stream true } }
    (s.incSat (.PEAT_RSEQ_LOST stream)).set .PEAT_STATUS_STG_LOSS 1

/-! ### Recording a line -/

/-- LEV_STATUS follows the latches (R418–R420). -/
def State.levStatus (s : State) : State :=
  let f := s.lev.latches.any (fun e => e.2.any (fun x => x.cls = 2))
  let err := f || s.lev.errorHeld || s.lev.latches.any (fun e => e.2.any (fun x => x.react / 16 % 2 = 1))
  ((s.setIf .LEV_STATUS_F_LATCHED f).setIf .LEV_STATUS_ERROR err).setIf .LEV_STATUS_ALIVE_RUN
    (!f && s.lev.beatSeen && !s.lev.wdogFired)

/-- A Fen core runs: its clock domain is enabled (R32) and Weir has not forced the Fen domains off (R400). -/
def State.fenRuns (s : State) (core : Nat) : Bool :=
  s.get (.TIDE_CG_EN_EN 0) / 2 ^ core % 2 == 1 && !s.weir.fenForced

/-- A warm reset is requested (R423): the earliest cause is the one recorded. -/
def State.requestReset (s : State) (cause source inst : Nat) : State :=
  if s.lev.resetReq.isSome then s else { s with lev := { s.lev with resetReq := some (cause, source, inst) } }

/-- A block reset is requested (R424); one that is requested or running merges with it. -/
def State.requestBlock (s : State) (sub : Nat) : State :=
  if sub ∈ s.lev.blockReq ∨ sub ∈ s.lev.blockRun then s
  else { s with lev := { s.lev with blockReq := s.lev.blockReq ++ [sub] } }.set .LEV_STATUS_BLK_BUSY 1

/-- The 16 bytes of a history entry (R421). -/
def historyEntry (code inst flags react repeat_ opt detail : Nat) : List Byte :=
  leBytes 2 code ++ leBytes 1 inst ++ leBytes 1 flags ++ leBytes 1 react ++ leBytes 1 repeat_ ++ leBytes 5 opt ++ leBytes 5 detail

/-- A history entry written at NEXT, over the oldest when 32 are held (R421). -/
def State.writeHistory (s : State) (e : List Byte) : State :=
  let k := s.get .LEV_HIST_STATUS_NEXT
  let s := s.forN 4 (fun w s => s.set (.LEV_HIST_DATA k w) (fieldAt e (4 * w) 4))
  let s := (s.set .LEV_HIST_STATUS_NEXT ((k + 1) % 32)).set .LEV_HIST_STATUS_COUNT (min 32 (s.get .LEV_HIST_STATUS_COUNT + 1))
  let s := s.incSat .LEV_HIST_TOTAL_TOTAL
  { s with lev := { s.lev with written := s.lev.written + 1 } }

/-- The reactions of a record, in the order of R415. -/
def State.react (s : State) (code inst r : Nat) : State :=
  let core := s.get .LEV_CTRL_CORE
  let s := s.when (r % 2 == 1) (fun s => (s.set .LEV_IRQ_INT 1).irqFen core .fault)
  let s := s.when (r / 2 % 2 == 1) (fun s =>
    (s.set .LEV_IRQ_NMI 1).forN 8 (fun c s => s.when (s.fenRuns c) (fun s => s.irqFen c .nmi)))
  if r / 8 % 2 = 1 then s.requestReset 1 code inst
  else s.when (r / 4 % 2 == 1) (fun s => s.requestBlock (code / 256 % 32))

/-- The class of a record (R409, R412, R416): a memory source is class F before the power-fail warning, class U from it on. -/
def State.recordClass (s : State) (x : SourceRow) : Nat :=
  if x.cls = 3 then (if s.powerFailing then 1 else 2) else x.cls

/-- The reactions a record takes (R415, R416): REACT, ERROR_PIN for class F, INT and ERROR_PIN alone for a memory source of
class U, and from the commit on neither reset. -/
def State.recordReact (s : State) (x : SourceRow) : Nat :=
  let r := if x.cls = 3 ∧ s.recordClass x = 1 then 0x11 else s.get (.LEV_SRC_REACT x.code)
  let r := if s.recordClass x = 2 then r ||| 0x10 else r
  if s.committed then r &&& 0x13 else r

/-- A line asserts (R414). A class F source drops every write gate and ends every operation (R141, R191, R416). A latched line
whose entry is still held only counts in its REPEAT; otherwise the record is made: an entry, its reactions, a Peat record (R457),
an interrupt to Mire, and for class U and F a Peat flush (R461). -/
def State.recordLine (s : State) (code inst detail : Nat) (injected : Bool) : State :=
  match sourceRow code with
  | none => s
  | some x =>
    let line := x.firstLine + inst
    let cls := s.recordClass x
    let s := s.when (cls == 2) State.fatalDrop
    let coalesce := match s.lev.latches.at line with
      | some l => decide (s.lev.written ≤ l.entry + 32)
      | none => false
    if coalesce then
      let slot := ((s.lev.latches.at line).map Latch.entry).getD 0 % 32
      let w := s.get (.LEV_HIST_DATA slot 1)
      let rep := w / 256 % 256
      s.set (.LEV_HIST_DATA slot 1) (w - rep * 256 + min 255 (rep + 1) * 256)
    else
      let r := s.recordReact x
      let flags := cls + (if injected then 4 else 0) + (if s.get .WEIR_STATUS_PF = 0 then 0 else 8)
      let e := historyEntry code inst flags r 0 s.opt detail
      let l : Latch := { entry := s.lev.written, cls := cls, react := r }
      let s := (s.writeHistory e).set (.LEV_LATCH_LINE (line / 32)) (s.get (.LEV_LATCH_LINE (line / 32)) ||| 2 ^ (line % 32))
      let s := { s with lev := { s.lev with latches := s.lev.latches.put line (some l) } }
      let s := (s.react code inst r).levStatus
      let s := (s.stageRecord 1 0x0101 e).irqMire .fault
      s.when (cls != 0) State.startFlush

/-- Where staging holds more than 32 KiB behind freezes, Peat releases the freeze of the area with the oldest held record, and
PEAT_STG_FULL is recorded (R467). -/
def State.relieve (s : State) : State :=
  if 32768 < s.heldBytes then
    match s.oldestHeldArea with
    | some a => (s.unfreeze a).recordLine 0x1002 0 0 false
    | none => s
  else s

/-- A source asserts: its line is recorded (R414). -/
def State.raise (s : State) (code : Nat) (inst : Nat := 0) (detail : Nat := 0) : State :=
  (s.recordLine code inst detail false).relieve

/-- A record enters staging (R461). -/
def State.peatRecord (s : State) (stream type_ : Nat) (body : List Byte) : State := (s.stageRecord stream type_ body).relieve

/-- The program of stream n ends its operation by its own fault (R131, R136, R141): REED_PROGRAM is recorded with the microword's
address and TERM (R413, R422). -/
def State.programFault (s : State) (n term : Nat) : State :=
  (s.terminate n term 0).raise 0x0601 n (s.get (.REED_ST_PC_PC n) + term * 2 ^ 16)

end Sys2Proof.Machine
end

