-- ==== Sys2Proof/Machine/Operands.lean ====
section
/-! DEFINITION. The forms of an access: which clock domain holds a register (R32, R33), which window a Fen core may reach (R14), what
a load or a store of a register meets before it acts (R7), and the metadata and unit sizes that operands name. -/

namespace Sys2Proof.Machine

/-! ### Clock domains (R32, R33) -/

/-- The clock domains that hold a register, where R32 gives its unit domains: a register of a unit with several is in a gated domain
where all of them are gated. DEDUCED: the scrubber, the AES engine and the verify checkers hold the registers named after them, Mire's cores
their window, a port the registers of its controllers. -/
def regDomains (r : RegId) (window : Nat) (ix : List Nat) : List Nat :=
  let i := ix.headD 0
  match r, window with
  | .REED_UCODE_VER, _ | .REED_CS_CTRL, _ | .REED_CS_DATA, _ | .REED_SYNC_CFG, _ | .REED_WEDGE, _ | .REED_PATCH, _ =>
    (List.range 8).map (20 + ·)
  | .SDG_CTRL, _ | .SDG_STATUS, _ | .SDG_SHOCK_CFG, _ | .SDG_WF_STATUS, _ => (List.range 8).map (61 + ·)
  | .SLU_SCRB_CTRL, _ | .SLU_SCRB_STATUS, _ | .SLU_SCRB_BASE_LO, _ | .SLU_SCRB_BASE_HI, _ | .SLU_SCRB_LEN, _
  | .SLU_SCRB_NEXT_LO, _ | .SLU_SCRB_NEXT_HI, _ | .SLU_SCRB_CE, _ => [88]
  | .SLU_KEY_CTRL, _ | .SLU_KEY_DATA, _ => [58]
  | .SDG_VFY_CFG, _ | .SDG_VFY_RESULT, _ => [77 + i]
  | .STH_CTL_CFG, _ => [59 + i / 16]
  | _, 0x0 => [59, 60]
  | _, 0x1 => [57]
  | _, 0x2 => [39]
  | _, 0x3 => [56]
  | _, 0x4 => [85]
  | _, 0x5 => [10, 11, 12, 13]
  | _, 0x6 => [20 + i]
  | _, 0x7 => [61 + i]
  | _, 0xC => [99]
  | _, _ => []

/-- Clock domain `d` is enabled (R33). -/
def State.domainOn (s : State) (d : Nat) : Bool := s.get (.TIDE_CG_EN_EN (d / 32)) / 2 ^ (d % 32) % 2 == 1

/-- The register at `a` is held in a gated domain (R33). -/
def State.gated (s : State) (a : Nat) : Bool :=
  match findReg a with
  | some (r, ix) =>
    let l := regDomains r.id ((a - 0x4000_0000) / 2 ^ 24) ix
    !l.isEmpty && l.all (fun d => !s.domainOn d)
  | none => false

/-- Mire's cores and its memory are clocked (R32): one of the cores is enough. -/
def State.mireClock (s : State) : Bool := (s.domainOn 10 || s.domainOn 11 || s.domainOn 12 || s.domainOn 13) && s.domainOn 14

/-- Aqsia acts: Mire runs it and is clocked (R24, R32). -/
def State.mireActs (s : State) : Bool := s.mireRuns && s.mireClock

/-- What a unit does in clock domain `d`: nothing while the domain is gated (R32, R33; DESIGN CHOICE: the spec names only the bus error
of an access). -/
def State.clocked (s : State) (d : Nat) (f : State → State) : State := if s.domainOn d then f s else s

/-! ### Accesses (R7, R14, R33) -/

/-- An access of Mire, or of a Fen core that R14 permits, to the register at `a`: a bus error where its domain is gated (R33),
else what the access does. -/
def State.access (s : State) (a : Nat) (f : State → State) : State :=
  if s.gated a then s.busErr else f s.ack

/-- The window of an address, where it lies in one of the fifteen (R508). -/
def windowOf (a : Nat) : Option Nat :=
  if 0x4000_0000 ≤ a ∧ a < 0x4F00_0000 then some ((a - 0x4000_0000) / 2 ^ 24) else none

/-- R14 lets a Fen core store at `a`: in the windows of Staithe, Sluice, Causeway, Carr, Lode, the Mire mailboxes and queue doorbells
and Levee (R510), but for the registers of pairs 48–63 (R206). An address outside the windows is R7's to judge. -/
def fenMayStore (a : Nat) : Bool :=
  match windowOf a with
  | some w => (w == 0 || w == 1 || w == 2 || w == 3 || w == 4 || w == 5 || w == 11) && !(decide (0x4501_C000 ≤ a) && decide (a < 0x4502_0000))
  | none => true

/-- R14 lets a Fen core load at `a`: in every window but those of Reed, Sedge, Tussock and Withy. -/
def fenMayLoad (a : Nat) : Bool :=
  match windowOf a with
  | some w => !(w == 6 || w == 7 || w == 8 || w == 9)
  | none => true

/-- A denied access of a Fen core (R14): a bus error, with FEN_WINDOW_DENY. -/
def State.denied (s : State) (core : Nat) : State := s.busErr.raise 0x0101 core

/-- An access of `who`, `width` bytes wide, at `a`, which R14 permits a Fen core where `may` holds: R14 judges first (R7); then the width,
the alignment, a register at the address (R7) and its clock (R33); then the register does what `f` says. -/
def State.reach (s : State) (who : Who) (may : Nat → Bool) (a width : Nat) (f : RegRow → List Nat → State → State) : State :=
  let judged := if width ≠ 4 ∨ a % 4 ≠ 0 then s.busErr
    else match findReg a with
      | none => s.busErr
      | some (r, ix) => s.access a (fun s => f r ix s)
  match who with
  | .mire => judged
  | .fen core => if may a then judged else s.denied core

/-- A load by `who` of the register at `a`, which answers by `f`. -/
def State.load (s : State) (who : Who) (a : Nat) (f : State → State) : State := s.reach who fenMayLoad a 4 (fun _ _ s => f s)

/-! ### Units -/

/-- The metadata bytes of a sector for the format code META: none, 8 bytes, 64 bytes (R159, R316). -/
def metaBytes (m : Nat) : Nat := if m = 1 then 8 else if m = 2 then 64 else 0

/-- The sectors that a staging buffer holds (R325). -/
def stagingSectors (m : Nat) : Nat := if m = 1 then 511 else if m = 2 then 504 else 512

end Sys2Proof.Machine
end

