-- ==== Sys2Proof/Machine/Digest.lean ====
section
/-! DEFINITION. The digests and signatures that the spec names by their standards (R232, R432, R436): SHA-384 (FIPS 180-4), HMAC (FIPS 198-1)
and ECDSA over P-384 (FIPS 186-5), written out over bytes. PRESUMED: what the standards say is from outside the manual. -/

namespace Sys2Proof.Machine

/-! ### SHA-384 -/

/-- The constants of the 80 rounds. -/
def shaRound : List (BitVec 64) :=
  [0x428a2f98d728ae22, 0x7137449123ef65cd, 0xb5c0fbcfec4d3b2f, 0xe9b5dba58189dbbc,
    0x3956c25bf348b538, 0x59f111f1b605d019, 0x923f82a4af194f9b, 0xab1c5ed5da6d8118,
    0xd807aa98a3030242, 0x12835b0145706fbe, 0x243185be4ee4b28c, 0x550c7dc3d5ffb4e2,
    0x72be5d74f27b896f, 0x80deb1fe3b1696b1, 0x9bdc06a725c71235, 0xc19bf174cf692694,
    0xe49b69c19ef14ad2, 0xefbe4786384f25e3, 0x0fc19dc68b8cd5b5, 0x240ca1cc77ac9c65] ++
  [0x2de92c6f592b0275, 0x4a7484aa6ea6e483, 0x5cb0a9dcbd41fbd4, 0x76f988da831153b5,
    0x983e5152ee66dfab, 0xa831c66d2db43210, 0xb00327c898fb213f, 0xbf597fc7beef0ee4,
    0xc6e00bf33da88fc2, 0xd5a79147930aa725, 0x06ca6351e003826f, 0x142929670a0e6e70,
    0x27b70a8546d22ffc, 0x2e1b21385c26c926, 0x4d2c6dfc5ac42aed, 0x53380d139d95b3df,
    0x650a73548baf63de, 0x766a0abb3c77b2a8, 0x81c2c92e47edaee6, 0x92722c851482353b] ++
  [0xa2bfe8a14cf10364, 0xa81a664bbc423001, 0xc24b8b70d0f89791, 0xc76c51a30654be30,
    0xd192e819d6ef5218, 0xd69906245565a910, 0xf40e35855771202a, 0x106aa07032bbd1b8,
    0x19a4c116b8d2d0c8, 0x1e376c085141ab53, 0x2748774cdf8eeb99, 0x34b0bcb5e19b48a8,
    0x391c0cb3c5c95a63, 0x4ed8aa4ae3418acb, 0x5b9cca4f7763e373, 0x682e6ff3d6b2b8a3,
    0x748f82ee5defb2fc, 0x78a5636f43172f60, 0x84c87814a1f0ab72, 0x8cc702081a6439ec] ++
  [0x90befffa23631e28, 0xa4506cebde82bde9, 0xbef9a3f7b2c67915, 0xc67178f2e372532b,
    0xca273eceea26619c, 0xd186b8c721c0c207, 0xeada7dd6cde0eb1e, 0xf57d4f7fee6ed178,
    0x06f067aa72176fba, 0x0a637dc5a2c898a6, 0x113f9804bef90dae, 0x1b710b35131c471b,
    0x28db77f523047d84, 0x32caab7b40c72493, 0x3c9ebe0a15c9bebc, 0x431d67c49c100d4c,
    0x4cc5d4becb3e42b6, 0x597f299cfc657e2a, 0x5fcb6fab3ad6faec, 0x6c44198c4a475817]

/-- The state before the first block. -/
def shaStart : List (BitVec 64) :=
  [0xcbbb9d5dc1059ed8, 0x629a292a367cd507, 0x9159015a3070dd17, 0x152fecd8f70e5939,
    0x67332667ffc00b31, 0x8eb44a8768581511, 0xdb0c2e0d64f98fa7, 0x47b5481dbefa4fa4]

/-- Three turns to the right added, the last of them a shift where `out` says so. -/
def shaMix (a b c : Nat) (out : Bool) (x : BitVec 64) : BitVec 64 :=
  x.rotateRight a ^^^ x.rotateRight b ^^^ (if out then x >>> c else x.rotateRight c)

/-- `k` more words of a block's schedule, the latest first. -/
def shaWords : Nat → List (BitVec 64) → List (BitVec 64)
  | 0, w => w
  | k + 1, w => shaWords k ((shaMix 19 61 6 true (w.getD 1 0) + w.getD 6 0 + shaMix 1 8 7 true (w.getD 14 0) + w.getD 15 0) :: w)

/-- One round over the eight words. -/
def shaTurn (h : List (BitVec 64)) (kw : BitVec 64 × BitVec 64) : List (BitVec 64) :=
  match h with
  | [a, b, c, d, e, f, g, h] =>
    let t := h + shaMix 14 18 41 false e + ((e &&& f) ^^^ (~~~e &&& g)) + kw.1 + kw.2
    let u := shaMix 28 34 39 false a + ((a &&& b) ^^^ (a &&& c) ^^^ (b &&& c))
    [t + u, a, b, c, d + t, e, f, g]
  | h => h

/-- Bytes as a big-endian number, and back. -/
def beNat (l : List Byte) : Nat := leNat l.reverse
def beBytes (k v : Nat) : List Byte := (leBytes k v).reverse

/-- A block of 128 bytes. -/
def shaBlock (h : List (BitVec 64)) (block : List Byte) : List (BitVec 64) :=
  let w := (List.range 16).map (fun i => BitVec.ofNat 64 (beNat ((block.drop (8 * i)).take 8)))
  List.zipWith (· + ·) h ((List.zip shaRound (shaWords 64 w.reverse).reverse).foldl shaTurn h)

/-- The 48 bytes of a digest. -/
def sha384Bytes (l : List Byte) : List Byte :=
  let m := l ++ [0x80] ++ List.replicate ((239 - l.length % 128) % 128) 0 ++ beBytes 16 (8 * l.length)
  let h := (List.range (m.length / 128)).foldl (fun h i => shaBlock h ((m.drop (128 * i)).take 128)) shaStart
  (h.take 6).flatMap (fun x => beBytes 8 x.toNat)

/-- The digest as a value, its first byte in the lowest bits. -/
def sha384 (l : List Byte) : BitVec 384 := BitVec.ofNat 384 (leNat (sha384Bytes l))

/-- HMAC-SHA-384, as a value in the same order. -/
def hmac (key message : List Byte) : BitVec 384 :=
  let k := if 128 < key.length then sha384Bytes key else key
  let pad (b : Byte) : List Byte := (k ++ List.replicate (128 - k.length) 0).map (· ^^^ b)
  sha384 (pad 0x5C ++ sha384Bytes (pad 0x36 ++ message))

/-- The 48 bytes of a value. -/
def secretBytes (v : BitVec 384) : List Byte := leBytes 48 v.toNat

/-! ### P-384: points (x : y : z) for (x / z², y / z³), with z = 0 at infinity -/

/-- The field's prime, the curve's constant, the order of the base point, and the base point. -/
def p384P : Nat := 2 ^ 384 - 2 ^ 128 - 2 ^ 96 + 2 ^ 32 - 1
def p384B : Nat := 0xb3312fa7e23ee7e4988e056be3f82d19181d9c6efe8141120314088f5013875ac656398d8a2ed19d2a85c8edd3ec2aef
def p384N : Nat := 0xffffffffffffffffffffffffffffffffffffffffffffffffc7634d81f4372ddf581a0db248b0a77aecec196accc52973
def p384G : Nat × Nat × Nat :=
  (0xaa87ca22be8b05378eb1c71ef320ad746e1d3b628ba79b9859f741e082542a385502f25dbf55296c3a545e3872760ab7,
    0x3617de4a96262c6f5d9e98bf9292dc29f8f41dbd289a147ce9da3113b5f0b8c00a60b1ce1d7e819d7a431d7c90ea0e5f, 1)

/-- A difference in the field. -/
def p384Sub (a b : Nat) : Nat := (a + p384P - b % p384P) % p384P

/-- A power modulo m, by the bits of the exponent from the highest. -/
def powMod (m x e : Nat) : Nat :=
  ((List.range 384).reverse.foldl (fun acc i => if e.testBit i then acc * acc % m * x % m else acc * acc % m) (1 % m))

/-- A point doubled. -/
def p384Double (a : Nat × Nat × Nat) : Nat × Nat × Nat :=
  let (x, y, z) := a
  let d := z * z % p384P
  let g := y * y % p384P
  let b := x * g % p384P
  let m := 3 * p384Sub x d * (x + d) % p384P
  let x' := p384Sub (m * m) (8 * b)
  (x', p384Sub (m * p384Sub (4 * b) x') (8 * g * g), 2 * y * z % p384P)

/-- Two points added. -/
def p384Add (a b : Nat × Nat × Nat) : Nat × Nat × Nat :=
  let (x1, y1, z1) := a
  let (x2, y2, z2) := b
  if z1 = 0 then b
  else if z2 = 0 then a
  else
    let v1 := z1 * z1 % p384P
    let v2 := z2 * z2 % p384P
    let u1 := x1 * v2 % p384P
    let s1 := y1 * v2 % p384P * z2 % p384P
    let h := p384Sub (x2 * v1) u1
    let r := p384Sub (y2 * v1 % p384P * z1) s1
    if h = 0 then if r = 0 then p384Double a else (1, 1, 0)
    else
      let hh := h * h % p384P
      let hhh := hh * h % p384P
      let w := u1 * hh % p384P
      let x := p384Sub (r * r) (hhh + 2 * w)
      (x, p384Sub (r * p384Sub w x) (s1 * hhh), z1 * z2 % p384P * h % p384P)

/-- A multiple of a point. -/
def p384Times (k : Nat) (a : Nat × Nat × Nat) : Nat × Nat × Nat :=
  (List.range 384).reverse.foldl (fun acc i => if k.testBit i then p384Add (p384Double acc) a else p384Double acc) (1, 1, 0)

/-- The x of a point that is not at infinity. -/
def p384X (a : Nat × Nat × Nat) : Nat := let i := powMod p384P a.2.2 (p384P - 2); a.1 * (i * i % p384P) % p384P

/-- A signature, r then s, over a digest verifies with a public key, x then y (R232). -/
def ecdsaVerify (key : List Byte) (digest : BitVec 384) (sig : List Byte) : Bool :=
  let x := beNat (key.take 48)
  let y := beNat ((key.drop 48).take 48)
  let r := beNat (sig.take 48)
  let s := beNat ((sig.drop 48).take 48)
  let w := powMod p384N s (p384N - 2)
  let z := beNat (secretBytes digest)
  let a := p384Add (p384Times (z * w % p384N) p384G) (p384Times (r * w % p384N) (x, y, 1))
  decide (x < p384P) && decide (y < p384P) && decide (y * y % p384P = p384Sub (x * x % p384P * x + p384B) (3 * x)) &&
    decide (0 < r) && decide (r < p384N) && decide (0 < s) && decide (s < p384N) && decide (a.2.2 ≠ 0) && decide (p384X a % p384N = r)

/-- The private scalar of a seed (R432): the first value of hmac(seed, c) that lies in 1 to n − 1. -/
def keyScalar (seed : BitVec 384) : Nat :=
  (((List.range 255).map (fun c => beNat (secretBytes (hmac (secretBytes seed) [BitVec.ofNat 8 (c + 1)])))).find? (fun v =>
    decide (0 < v) && decide (v < p384N))).getD 1

/-- The signature by a seed's key over a digest, with the nonce `k` (R432). -/
def ecdsaSign (seed digest : BitVec 384) (k : Nat) : List Byte :=
  let r := p384X (p384Times k p384G) % p384N
  let s := powMod p384N k (p384N - 2) * ((beNat (secretBytes digest) + r * keyScalar seed) % p384N) % p384N
  beBytes 48 r ++ beBytes 48 s

end Sys2Proof.Machine
end

