-- ==== Sys2Proof/Machine/Signal.lean ====
section
/-! DEFINITION. The signal of a channel (07, 08): the seal and the codeword, the readers' delays, equalizer, target and detector, the
decoder, the adaptation of the weights, erasures, and what the serializer sends with its precompensation. What no rule gives (the code's
matrices, interpolator taps, the precision of the detector's metrics, the tracking loop's gain) is in opaque constants of Config. -/

namespace Sys2Proof.Machine

/-! ### The seal (R161) -/

/-- One bit of the CRC-64 with the ECMA-182 polynomial. -/
def crcBit (c : BitVec 64) : BitVec 64 :=
  if c.msb then (c <<< 1) ^^^ 0x42F0E1EBA9EA3693#64 else c <<< 1

/-- One byte of the CRC-64, most significant bit first. -/
def crcByte (c : BitVec 64) (b : Byte) : BitVec 64 :=
  let x := c ^^^ ((b.setWidth 64) <<< 56)
  crcBit (crcBit (crcBit (crcBit (crcBit (crcBit (crcBit (crcBit x)))))))

/-- The seal of a sector (R161): the CRC-64 of its user data and then its metadata, from SURF × 2^48 + TRACK × 2^16 + INDEX. -/
def sealOf (surf track index : Nat) (user metadata : List Byte) : BitVec 64 :=
  (user ++ metadata).foldl crcByte (BitVec.ofNat 64 (surf * 2 ^ 48 + track * 2 ^ 16 + index))

/-- The seal of stream n's sector with index `index`. -/
def State.sealFor (s : State) (n index : Nat) (user metadata : List Byte) : BitVec 64 :=
  sealOf (s.get (.SDG_SEAL_TRK_SURF n)) (s.get (.SDG_SEAL_TRK_TRACK n)) index user metadata

/-! ### The codeword (R159, R185, R186) -/

/-- The bits of a vector, most significant first (DESIGN CHOICE: R159 gives a byte no bit order). -/
def bitsOf {w : Nat} (x : BitVec w) : List Bool := (List.range w).map (fun i => x.getMsbD i)

/-- Block columns of the information part (R159). -/
def infoColumns (m : Nat) : Nat := if m = 2 then 261 else 257

/-- Bits of the data field (R159): 128 for each of 276 + C block columns. -/
def dataBits (c : Nat) : Nat := 128 * (276 + c)

/-- The codeword of a sector (R159, R185): user data, metadata, the seal, zero pad, parity. -/
def codeword (c m : Nat) (user metadata : List Byte) (crc : BitVec 64) : List Bool :=
  let info := user.flatMap bitsOf ++ metadata.flatMap bitsOf ++ bitsOf crc
  let info := info ++ List.replicate (128 * infoColumns m - info.length) false
  info ++ (List.range (dataBits c - 128 * infoColumns m)).map (Config.parity c m info)

/-- The codeword that stream n writes for the sector with index `index` (R185); a marker's has zero data and the complement of the
seal (R162, R186). -/
def State.writeWord (s : State) (n index : Nat) (marker : Bool) (sector : List Byte) : List Bool :=
  let m := s.get (.SDG_CODE_META n)
  let sector := if marker then List.replicate (4096 + metaBytes m) 0 else sector
  let user := sector.take 4096
  let metadata := sector.drop 4096
  let crc := s.sealFor n index user metadata
  codeword (s.get (.SDG_CODE_C n)) m user metadata (if marker then ~~~ crc else crc)

/-! ### Samples and equalizer (R152, R155) -/

/-- An entry of a list of samples, 0 outside it. -/
def at0 (l : List Int) (i : Int) : Int := if i < 0 then 0 else l.getD i.toNat 0

/-- The sixteen entries of a list about entry `k`. -/
def sixteen (l : List Int) (k : Int) : List Int := (List.range 16).map (fun t => at0 l (k + 7 - t))

/-- Reader r's samples after its integer and fractional delays, the phase trim at each bit included (R152): a delay of 0 leaves the sample,
the interpolator covers ±1.5 bits. -/
def State.delayed (s : State) (n r : Nat) (x : Samples) : List Int :=
  let raw := x.raw.map (fun e => if r = 0 then e.a else if r = 1 then e.b else e.c)
  let whole : Int := s.get (.SDG_RDR_SKEW_INT n r)
  let frac := s.getS (.SDG_RDR_SKEW_FRAC n r)
  (List.range raw.length).map (fun (k : Nat) =>
    let d := max (-96) (min 96 (frac + at0 x.trims k))
    if d = 0 then at0 raw ((k : Int) - whole) else Config.interpolate d (sixteen raw ((k : Int) - whole)))

/-- Tap t of reader r in weight set `set` of a coefficient space, in 1/256 (R155, R180). -/
def weight (coef : Tab (BitVec 26)) (set r t : Nat) : Int := signed 10 ((coef.at (72 * set + 24 * r + t)).toNat % 2 ^ 10)

/-- The weight set that equalizes stream n's samples (R155, R168): the active one, in ladder step 1 the scratch set, in step 3 the
alternate selected. -/
def Channel.weightSet (c : Channel) : Nat :=
  if c.mode = 3 then (if c.step = 1 then 4 else if c.step = 3 then c.altSet else 0) else 0

/-- A value held to the range of a `width`-bit two's-complement code. -/
def clampTo (width : Nat) (i : Int) : Int := max (-(2 ^ (width - 1) : Int)) (min ((2 : Int) ^ (width - 1) - 1) i)

/-- The equalizer's output for each bit of a sector (R155), rounded to the nearest 8-bit code, halves up (DESIGN CHOICE: R155 gives
no rule for halves). -/
def State.equalized (s : State) (n set : Nat) (x : Samples) : List Int :=
  let xs := (List.range 3).map (fun r => s.delayed n r x)
  (List.range x.raw.length).map (fun k =>
    let y := (List.range 3).foldl (fun acc r => (List.range 24).foldl (fun (acc : Int) t =>
      acc + weight x.coef set r t * at0 (xs.getD r []) ((k : Int) - t + 11)) acc) 0
    clampTo 8 ((y + 128).fdiv 256))

/-- The target's ideal output for each of some bits, in 1/64 code, after three bits that precede them (R155). -/
def State.ideal (s : State) (n : Nat) (before bits : List Bool) : List Int :=
  let a := (before ++ bits).map (fun b => if b then (1 : Int) else -1)
  let p := before.length
  let g := [64, s.getS (.SDG_TGT_G1 n), s.getS (.SDG_TGT_G2 n), s.getS (.SDG_TGT_G3 n)]
  (List.range bits.length).map (fun k =>
    s.get (.SDG_EQ_CFG_TSCALE n) * (List.range 4).foldl (fun acc i => acc + g.getD i 0 * at0 a ((k + p : Nat) - (i : Int))) 0)

/-- Equalizer error of a sector against its decoded bits, in 1/64 code: the sync mark's last bits precede the first (DEDUCED). -/
def State.eqError (s : State) (n set : Nat) (x : Samples) (bits : List Bool) : List Int :=
  let before := (bitsOf (s.regAt (Fld.SDG_SM_PAT_PAT n).addr)).drop 29
  ((s.equalized n set x).zip (s.ideal n before bits)).map (fun e => e.2 - 64 * e.1)

/-! ### The detector (R158, R163) -/

/-- What a branch of the trellis compares a sample with (R158): the target TSCALE, G1, G2, G3, and the 32 noise-predictor entries. -/
structure Trellis where
  tscale : Int := 0
  g : List Int := []
  np : List (BitVec 26) := []

/-- Bit `i` of trellis state `st` as a = ±1 (R155, R158). -/
def stateBit (st i : Nat) : Int := if st / 2 ^ i % 2 = 1 then 1 else -1

/-- The error e of sample `y` on the branch from state `st` on bit `b`, in 1/64 code (R158): b[k−1] is bit 0 of the state. -/
def Trellis.err (t : Trellis) (y : Int) (st b : Nat) : Int :=
  let ideal := t.tscale * (64 * stateBit b 0 + t.g.getD 0 0 * stateBit st 0 + t.g.getD 1 0 * stateBit st 1 + t.g.getD 2 0 * stateBit st 2)
  64 * y - ideal - 64 * signed 8 ((t.np.getD (b + 2 * st) 0).toNat / 2 ^ 18)

/-- The metric of that branch in 1/256 (R158), from the error on the best path into the state, with the prior information on the bit
(R160): what speaks for a 1 weighs on the branch of a 0. -/
def Trellis.metric (t : Trellis) (e prev : Int) (prior : Int) (st b : Nat) : Int :=
  let np := (t.np.getD (b + 2 * st) 0).toNat
  Config.branchMetric (512 * e - signed 10 (np / 2 ^ 8 % 2 ^ 10) * prev) (np % 2 ^ 8) + (if b = 0 then 256 * prior else 0)

/-- The lesser of two pairs by its first part, the former where they are equal (DESIGN CHOICE: R158 names no tie). -/
def lesser (a b : Int × Int) : Int × Int := if b.1 < a.1 then b else a

/-- The forward recursion over some samples with their prior information (R158): from each state's best metric and the error on that path,
what stands before each sample and its 32 branch metrics. -/
def Trellis.forward (t : Trellis) : List (Int × Int) → List (Int × Int) → List (List Int × List Int)
  | [], _ => []
  | (y, prior) :: rest, best =>
    let at_ (st : Nat) := best.getD st (0, 0)
    let m (st b : Nat) := t.metric (t.err y st b) (at_ st).2 prior st b
    let reach (st b : Nat) : Int × Int := ((at_ st).1 + m st b, t.err y st b)
    (best.map (·.1), (List.range 32).map (fun i => m (i / 2) (i % 2))) ::
      t.forward rest ((List.range 16).map (fun st' => lesser (reach (st' / 2) (st' % 2)) (reach (st' / 2 + 8) (st' % 2))))

/-- The least of some metrics over the sixteen states. -/
def leastOf (f : Nat → Int) : Int := (List.range 15).foldl (fun m i => min m (f (i + 1))) (f 0)

/-- The backward recursion (R158): the best metric from each state on, and each bit's LLR in units of 0.5, half the difference between the
best metrics with 0 and with 1, rounded to the nearest. -/
def backward : List (List Int × List Int) → List Int × List Int
  | [] => (List.replicate 16 0, [])
  | (before, branch) :: rest =>
    let (after, l) := backward rest
    let on (st b : Nat) : Int := branch.getD (2 * st + b) 0 + after.getD ((2 * st + b) % 16) 0
    let best (b : Nat) : Int := leastOf (fun st => before.getD st 0 + on st b)
    ((List.range 16).map (fun st => min (on st 0) (on st 1)), (best 0 - best 1 + 128).fdiv 256 :: l)

/-- The detector's LLRs (R158): windows of 256 bits with 64 bits of warm-up on each side, each begun with equal metrics in every state and no
error before it (DESIGN CHOICE: R158 gives no start). -/
def Trellis.detect (t : Trellis) (l : List (Int × Int)) : List Int :=
  (List.range ((l.length + 255) / 256)).flatMap (fun i =>
    let lead := if i = 0 then 0 else 64
    (((backward (t.forward ((l.drop (256 * i - lead)).take (lead + 320)) (List.replicate 16 (0, 0)))).2.drop lead).take 256))

/-- The soft decisions of a sector before any erasure, in units of 0.5 (R158): clamped to ±31 of them, which the decoder's 6-bit messages
hold (DEDUCED). -/
def State.soft (s : State) (n set : Nat) (x : Samples) (prior : List Int) : List Int :=
  let t : Trellis :=
    { tscale := s.get (.SDG_EQ_CFG_TSCALE n), g := [s.getS (.SDG_TGT_G1 n), s.getS (.SDG_TGT_G2 n), s.getS (.SDG_TGT_G3 n)],
      np := (List.range 32).map (fun p => x.coef.at (0x180 + p)) }
  (t.detect ((s.equalized n set x).zipIdx.map (fun e => (e.1, at0 prior e.2)))).map (fun l => max (-31) (min 31 l))

/-- Hard decisions: a bit is 1 where its metric is the better (R158). -/
def hardOf (soft : List Int) : List Bool := soft.map (fun l => decide (0 < l))

/-- What the decoder takes: an erased bit's soft decision is 0 (R163), so that only what is known from the code beforehand counts. -/
def State.llr (s : State) (n set : Nat) (x : Samples) (prior : List Int) : List Int :=
  (s.soft n set x prior).zipIdx.map (fun e =>
    if x.erasures.any (fun r => decide (r.1 ≤ e.2) && decide (e.2 < r.2)) then at0 prior e.2 else e.1)

/-! ### The decoder (R159, R160) -/

/-- What one decode of a sector's samples gave (R160–R162): whether every check was satisfied, after how many iterations, the user data, the
metadata and the seal. -/
structure Decode where
  converged : Bool := false
  iterations : Nat := 0
  user : List Byte := []
  metadata : List Byte := []
  codeSeal : BitVec 64 := 0

/-- The bits of each check of a code, layer by layer (R159): row `r` of a circulant with shift `k` takes bit (r + k) mod 128 of its
column. -/
def checksOf (c m : Nat) : List (List Nat) :=
  (Config.codeMatrix c m).flatMap (fun layer => (List.range 128).map (fun r => layer.map (fun e => 128 * e.1 + (r + e.2) % 128)))

/-- A message of the decoder: 6 bits (R160). -/
def message (i : Int) : Int := max (-31) (min 31 i)

/-- The message of a check to one bit from those of the others (R160): the sign of their product, 0.75 of the least magnitude, rounded down
(DESIGN CHOICE: R160 names no rounding). -/
def minSum (others : List Int) : Int :=
  let mag : Int := (3 * others.foldl (fun m i => min m i.natAbs) 31 / 4 : Nat)
  if others.countP (fun i => decide (i < 0)) % 2 = 1 then -mag else mag

/-- One check is processed (R160): it takes back its messages, forms new ones and adds them to its bits. -/
def checkStep (post : List Int) (bits : List Nat) (old : List Int) : List Int × List Int :=
  let q := bits.zipIdx.map (fun e => message (at0 post e.1 - at0 old e.2))
  let new := q.zipIdx.map (fun e => minSum (q.eraseIdx e.2))
  (bits.zipIdx.foldl (fun p e => p.modify e.1 (fun v => v - at0 old e.2 + at0 new e.2)) post, new)

/-- One layered iteration over every check: the bits' values and each check's messages. -/
def ldpcIteration : List (List Nat) → List Int → List (List Int) → List Int × List (List Int)
  | [], post, _ => (post, [])
  | c :: cs, post, msgs =>
    let (post, new) := checkStep post c (msgs.headD [])
    let (post, rest) := ldpcIteration cs post msgs.tail
    (post, new :: rest)

/-- Every check is satisfied. -/
def satisfied (checks : List (List Nat)) (post : List Int) : Bool :=
  checks.all (fun c => c.countP (fun b => decide (0 < at0 post b)) % 2 == 0)

/-- The decoder (R160): it stops at the first iteration after which every check is satisfied, or when `left` are done. `redo` is what the
detector gives with the decoder's output as prior information, after iterations 8 and 16. -/
def ldpcRun (checks : List (List Nat)) (redo : Nat → List Int → Option (List Int)) : Nat → Nat → List Int → List Int → List (List Int) →
    Bool × Nat × List Int
  | 0, done, _, post, _ => (false, done, post)
  | left + 1, done, chan, post, msgs =>
    let (post, msgs) := ldpcIteration checks post msgs
    if satisfied checks post then (true, done + 1, post)
    else
      match redo (done + 1) (post.zipIdx.map (fun e => message (e.1 - at0 chan e.2))) with
      | some l => ldpcRun checks redo left (done + 1) l l msgs
      | none => ldpcRun checks redo left (done + 1) chan post msgs

/-- The bytes of some bits, most significant first. -/
def bytesOf : List Bool → List Byte
  | a :: b :: c :: d :: e :: f :: g :: h :: r =>
    BitVec.ofNat 8 ([a, b, c, d, e, f, g, h].foldl (fun v x => 2 * v + x.toNat) 0) :: bytesOf r
  | _ => []

/-- A decode of the samples `x` with a weight set and an iteration limit (R159, R160); in the ladder the detector runs again. -/
def State.decodeOf (s : State) (n set limit : Nat) (ladder : Bool) (x : Samples) : Decode :=
  let m := s.get (.SDG_CODE_META n)
  let llr := s.llr n set x []
  let redo (k : Nat) (prior : List Int) : Option (List Int) := if ladder && (k == 8 || k == 16) then some (s.llr n set x prior) else none
  let (ok, k, post) := ldpcRun (checksOf (s.get (.SDG_CODE_C n)) m) redo limit 0 llr llr []
  let bits := hardOf post
  { converged := ok, iterations := k, user := bytesOf (bits.take 32768), metadata := bytesOf ((bits.drop 32768).take (8 * metaBytes m)),
    codeSeal := BitVec.ofNat 64 (((bits.drop (32768 + 8 * metaBytes m)).take 64).foldl (fun v x => 2 * v + x.toNat) 0) }

/-- The erasure pointers of ladder step 5 (R169): the bits that the defect detectors mark in the sum with THR halved, then those at
which a read of step 2 disagreed with the sum, up to ERASE_MAX bits. -/
def State.erasePointers (s : State) (n : Nat) : List (Nat × Nat) :=
  let c := s.chan n
  let cfg (f : Fld) := s.get f
  let marked := Config.defects [cfg (.SDG_DEF_TA_THR n) / 2, cfg (.SDG_DEF_TA_LEN n), cfg (.SDG_DEF_TA_PRE n), cfg (.SDG_DEF_TA_POST n),
    cfg (.SDG_DEF_DO_THR n) / 2, cfg (.SDG_DEF_DO_LEN n), cfg (.SDG_DEF_DO_PAD n), cfg (.SDG_FE_CFG_AGC_TGT n)] c.sum.raw
  let hard := hardOf (s.soft n 0 c.sum [])
  let split := (List.range hard.length).filter (fun k => c.sumHard.any (fun h => decide (h[k]? ≠ hard[k]?)))
  (((marked ++ split).filter (fun k => decide (k < c.sum.raw.length))).eraseDups.take (s.get (.SDG_CODE_ERASE_MAX n))).foldl
    (fun r k => addRange k (k + 1) r) []

/-! ### Adaptation (R156) -/

/-- A coefficient as an adaptation has left it, or as it is active (R157). -/
def Channel.adapted (c : Channel) (i : Nat) : BitVec 26 :=
  match c.coefAdapt.find? (fun e => e.1 = i) with
  | some e => e.2
  | none => c.coef.at i

/-- The weights of set `set` after an LMS update of step 2^(mu − 20) over one sector (R156), on what an earlier sector's update has left in
the shadow (R157): the sum over the sector's bits, rounded to 1/256, halves up (DESIGN CHOICE: R156 gives no rounding). -/
def State.lms (s : State) (n set mu : Nat) (x : Samples) (bits : List Bool) : List (Nat × BitVec 26) :=
  let c := s.chan n
  let e := s.eqError n set x bits
  (List.range 72).map (fun i =>
    let r := i / 24
    let t : Nat := i % 24
    let xs := s.delayed n r x
    let g := (List.range e.length).foldl (fun (acc : Int) (k : Nat) => acc + at0 e k * at0 xs ((k : Int) - t + 11)) 0
    (72 * set + i, BitVec.ofNat 26 ((clampTo 10 (signed 10 ((c.adapted (72 * set + i)).toNat % 2 ^ 10) + (g * 2 ^ mu + 2 ^ 17).fdiv (2 ^ 18))) % 2 ^ 10).toNat))

/-- The mean-square equalizer error of a good sector, in 2^-16 of TSCALE² (R178). -/
def State.sectorMse (s : State) (n set : Nat) (x : Samples) (bits : List Bool) : Nat :=
  let e := s.eqError n set x bits
  (e.foldl (fun acc i => acc + i.natAbs ^ 2) 0) * 2 ^ 16 / (4096 * s.get (.SDG_EQ_CFG_TSCALE n) ^ 2 * max 1 e.length)

/-! ### The mark detector (R154) -/

/-- Bits in which two 32-bit patterns differ. -/
def mismatches (a b : Word) : Nat := (bitsOf (a ^^^ b)).countP id

/-- The pattern that a SYNC of a kind looks for or writes (R131, R154, R185). -/
def State.markPattern (s : State) (n : Nat) (resync : Bool) : Word :=
  s.regAt (if resync then Fld.SDG_RSM_PAT_PAT n else Fld.SDG_SM_PAT_PAT n).addr

/-! ### The serializer (R183–R189) -/

/-- Bit k of the pattern 1100, repeated from the gate point (R185). -/
def idleBit (k : Nat) : Bool := decide (k % 4 < 2)

/-- The serializer sends `bits`, each with the advance in force (R184). -/
def State.sendBits (s : State) (n : Nat) (bits : List Bool) : State :=
  s.clocked (114 + n) (fun s => s.updChan n (fun c => { c with wd := c.wd ++ bits.map (fun b => (b, c.advBits)) }))

/-- Between fields the pattern goes on, up to bit `k` of the gate (R185). -/
def State.idleTo (s : State) (n k : Nat) : State :=
  let sent := (s.chan n).wd.length
  s.sendBits n ((List.range (k - sent)).map (fun i => idleBit (sent + i)))

/-- The bit of the raised gate whose cell begins at the boundary at `m` (R183). -/
def State.gateBit (s : State) (n : Nat) (m : Word) : Nat :=
  let a := (s.seq n).wgAt
  s.bitsOver n a (m - a).toNat

/-- A SYNC writes preamble and mark, so that bit `k` of the gate follows the mark (R185). -/
def State.sendMark (s : State) (n : Nat) (resync : Bool) (k : Nat) : State :=
  (s.idleTo n (k - 32)).sendBits n (bitsOf (s.markPattern n resync))

/-- An XFER from the boundary at `start` sends the next `k` bits of the sector's codeword (R185). -/
def State.sendCode (s : State) (n k : Nat) (start : Word) : State :=
  let s := s.idleTo n (s.gateBit n start)
  let c := s.chan n
  (s.sendBits n ((c.code.drop c.codeSent).take k)).updChan n (fun c => { c with codeSent := c.codeSent + k })

/-- A transition lies at bit k of what a gate carries: the bits before the first and after the last are taken equal to them (R187). -/
def transition (b : List Bool) (k : Int) : Bool :=
  decide (0 < k) && decide (k < b.length) && decide (b[k.toNat]? ≠ b[k.toNat - 1]?)

/-- The pattern index of bit k (R187). -/
def wpcIndex (b : List Bool) (k : Nat) : Nat :=
  4 * (transition b ((k : Int) - 1)).toNat + 2 * (transition b ((k : Int) - 2)).toNat + (transition b ((k : Int) + 1)).toNat

/-- A quotient rounded to the nearest integer, halves to even. -/
def roundHalfEven (x d : Int) : Int :=
  let q := x.fdiv d
  let r := 2 * (x - q * d)
  if r < d then q else if d < r then q + 1 else if q % 2 = 0 then q else q + 1

/-- The shift of a transition with pattern index `p` at angle `m`, in 1/64 bit (R187). -/
def Channel.wpcShift (c : Channel) (p : Nat) (m : Word) : Int :=
  if c.wpcEn then
    let w := signed 6 (c.wpc.getD p 0)
    let a := signed 8 (c.wpcAng.getD (m.toNat / 2 ^ 28) 0)
    max (-32) (min 32 (roundHalfEven (w * (128 + a)) 128))
  else 0

/-- Bit k of the gate that stream n has raised, as the write-data pair carries it (R183, R184, R187, R189): the MANG of its grid boundary,
its value, and its instant after that boundary in 1/1,024 bit: the shift of its transition less the launch advance. None in idle. -/
def State.pairBit (s : State) (n k : Nat) : Option (Word × Bool × Int) :=
  let c := s.chan n
  if (s.seq n).wg then
    match c.wd[k]? with
    | some (b, adv) =>
      let m := s.boundary n (s.bitIndex n (s.seq n).wgAt + k)
      let bits := c.wd.map (·.1)
      let shift := if transition bits k then c.wpcShift (wpcIndex bits k) m else 0
      some (m, b, 16 * shift - adv)
    | none => none
  else none

end Sys2Proof.Machine
end

