-- ==== Sys2Proof/Machine/Flags.lean ====
section
/-! DEFINITION. The flags and conditions that Reed's microwords set and test (R131, R132). -/

namespace Sys2Proof.Machine

/-- EQ and LT after a result: it is 0, bit 31 is set (R131). -/
def Sticky.ofResult (k : Sticky) (r : Word) : Sticky := { k with eq := r == 0, lt := r.msb }

/-- Staging has reached the threshold, or holds all of the operation's remaining data (R132 condition 8). -/
def State.stagingReady (s : State) (n : Nat) : Bool :=
  let g := s.stage n
  let t := max 1 (s.get (.REED_ST_THRESH_THRESH n))
  decide (t * 4096 ≤ (g.moved - g.freed) * (4096 + metaBytes g.meta_)) || decide (g.total ≤ g.moved)

/-- The conditions of R132. -/
def State.cond (s : State) (n c : Nat) : Bool :=
  let k := (s.seq n).sticky
  match c with
  | 0 => true
  | 1 => k.eq
  | 2 => !k.eq
  | 3 => k.lt
  | 4 => !k.lt
  | 5 => k.timedOut
  | 6 => k.sfound
  | 7 => k.smiss
  | 8 => s.stagingReady n
  | 9 => k.sshort
  | 10 => k.late
  | 11 => s.winh n
  | 12 => k.tsync
  | 13 => k.xdone
  | 14 => k.refused
  | _ => s.is (.REED_ST_CTRL_ABORT n)

end Sys2Proof.Machine
end

