-- ==== Sys2Proof/Machine/Formatter.lean ====
section
/-! DEFINITION. The formatter sequencers (06): starting, ending and restarting an operation, and one meaning per microword. A
microword that stalls (R130) is issued by its command and completed by the next command of its kind, or by the event that ends
its wait; until then REED_ST_STATUS.STATE reads STALL. -/

namespace Sys2Proof.Machine

/-! ### Fetch and decode -/

/-- The three fields of a microword (R131): OP, SEL, OPD. -/
def microOp (w : Word) : Nat := w.toNat / 2 ^ 26
def microSel (w : Word) : Nat := w.toNat / 2 ^ 22 % 16
def microOpd (w : Word) : Nat := w.toNat % 2 ^ 22

/-- A field that R131 marks 0 is 0, and the opcode, gate or kind exists. -/
def microLegal (op sel opd : Nat) : Bool :=
  match op with
  | 0x01 | 0x03 | 0x19 | 0x1A | 0x1B => true
  | 0x02 => sel == 0
  | 0x04 => decide (sel < 3) && decide (opd < 2 ^ 7)
  | 0x05 => decide (opd < 2 ^ 10)
  | 0x06 => decide (sel < 8)
  | 0x07 | 0x13 => sel == 0 && opd == 0
  | 0x08 => sel == 0 && decide (opd < 2 ^ 16)
  | 0x10 | 0x12 => sel == 0 && decide (opd < 2 ^ 15)
  | 0x11 => decide (opd % 2 ^ 21 < 2 ^ 15)
  | 0x18 => decide (opd < 2 ^ 21) || decide (opd % 2 ^ 21 < 2 ^ 16)
  | 0x20 => decide (sel < 12)
  | 0x3F => sel == 0 && decide (opd < 2 ^ 8)
  | _ => false

/-- Where a fetch of `pc` goes: the enabled patch entry of lowest number that names it redirects it (R146). -/
def State.fetchAddr (s : State) (pc : Nat) : Nat :=
  match (List.range 16).find? (fun i => s.is (.REED_PATCH_EN i) && decide (pc < 0x4000) && s.get (.REED_PATCH_ADDR i) == pc) with
  | some i => 0x4000 + s.get (.REED_PATCH_TARGET i)
  | none => pc

/-- The microword at stream n's PC with its address, unless the fetch is of no store (R131). -/
def State.fetchMicro (s : State) (n : Nat) : Option (Nat × Word) :=
  let a := s.fetchAddr (s.get (.REED_ST_PC_PC n))
  if a < 0x4800 then some (a, (s.seq n).store.at a) else none

/-- The operands of the microword at PC, where stream n runs on a clock that is not gated (R32), no restart is due and the microword is
a legal one of opcode `op`: address, SEL, OPD. -/
def State.microAt (s : State) (n op : Nat) : Option (Nat × Nat × Nat) :=
  match s.fetchMicro n with
  | some (a, w) =>
    if s.running n && s.domainOn (20 + n) && (s.seq n).restartDue.isNone && decide ((s.seq n).stall ≠ .restart) &&
        microOp w == op && microLegal op (microSel w) (microOpd w)
    then some (a, microSel w, microOpd w) else none
  | none => none

/-- Register Gg of stream n. -/
def State.greg (s : State) (n g : Nat) : Word := BitVec.ofNat 32 (s.get (.REED_ST_G_VALUE n g))

/-- Gg written. -/
def State.setG (s : State) (n g : Nat) (w : Word) : State := s.set (.REED_ST_G_VALUE n g) w.toNat

/-- A sticky condition changed. -/
def State.sticky (s : State) (n : Nat) (f : Sticky → Sticky) : State := s.updSeq n (fun q => { q with sticky := f q.sticky })

/-- The microword at `a` completes: execution goes on at the next address (R146). -/
def State.advanceTo (s : State) (n pc : Nat) : State :=
  ((s.updSeq n (fun q => { q with stall := .none })).set (.REED_ST_PC_PC n) pc).set (.REED_ST_STATUS_STATE n) 1

/-- The microword at PC stalls (R130). -/
def State.stallOn (s : State) (n : Nat) (x : Stall) : State :=
  (s.updSeq n (fun q => { q with stall := x })).set (.REED_ST_STATUS_STATE n) 2

/-- A wait for angle `t` is over at `m`: it is reached, or has been passed since it lay ahead. -/
def angleReached (m t : Word) (armed : Bool) : Bool := m == t || (armed && !ahead m t)

/-! ### Starting and ending an operation -/

/-- SDG_CODE as it stands is a code selection that R159 calls invalid. -/
def State.codeInvalid (s : State) (n : Nat) : Bool := decide (21 < s.get (.SDG_CODE_C n)) || s.get (.SDG_CODE_META n) == 3

/-- SDG_ST_STATUS(n).CODE_ERR follows SDG_CODE(n) (R181). -/
def State.codeStatus (s : State) (n : Nat) : State := s.setIf (.SDG_ST_STATUS_CODE_ERR n) (s.codeInvalid n)

/-- Sedge latches its settings at GO (R173, R174, R184, R186), SDG_EQ_CFG among them (R240: what CHANNEL_ADAPT sets applies from the next GO;
DESIGN CHOICE: so does what a store sets there), and judges the code selection (R159). -/
def State.sedgeGo (s : State) (n : Nat) : State :=
  let it := s.get (.SDG_ST_CTRL_ITER_OTF n)
  let s := s.updChan n (fun c => { c with
    mode := s.get (.SDG_ST_CTRL_MODE n), step := s.get (.SDG_ST_CTRL_STEP n), comb := s.is (.SDG_ST_CTRL_COMB n),
    forceTimed := s.is (.SDG_ST_CTRL_FORCE_TIMED n), iterOtf := min 24 (max 1 it), adaptEn := s.is (.SDG_ST_CTRL_ADAPT_EN n),
    altSet := max 1 (s.get (.SDG_ST_CTRL_ALT_SET n)), adv := s.get (.SDG_WR_CFG_ADV n), marker := s.is (.SDG_WR_CFG_MARKER n),
    mu := s.get (.SDG_EQ_CFG_MU n), muLadder := s.get (.SDG_EQ_CFG_MU_LADDER n), npAdapt := s.is (.SDG_EQ_CFG_NP_ADAPT n)
    codeBad := s.codeInvalid n })
  (s.codeStatus n).when (s.codeInvalid n) (fun s => s.raise 0x0701 n)

/-- REED_GO (R129): only in IDLE. G0–G7 are copied, G8–G15, the sticky conditions, the stack and the restart count are cleared,
the opcode is latched and execution starts at ENTRY. -/
def State.reedGo (s : State) (n : Nat) : State :=
  if s.running n then s
  else
    let entry := s.get (.REED_ST_CTRL_ENTRY n)
    let s := s.forN 8 (fun i s => s.setG n i (BitVec.ofNat 32 (s.get (.REED_OP_VALUE n i))))
    let s := s.forN 8 (fun i s => s.setG n (8 + i) 0)
    let s := s.updSeq n (fun q => { q with
      opcode := s.get (.REED_OP_VALUE n 0) % 256, flush := s.is (.REED_ST_CTRL_FLUSH n), epoch := s.get .TIDE_STATUS_EPOCH,
      sticky := {}, stack := [], snapG := (List.range 16).map (fun i => s.greg n i), snapSticky := {}, snapStack := [],
      marked := false, rg := false, wg := false, vg := false, inSector := false, judged := false, checked := false, sectorsDone := 0, sectorsCommitted := 0,
      stall := .none, dataAt := none, noData := false, restartDue := none })
    let s := (s.set (.REED_ST_PC_PC n) entry).set (.REED_ST_PC_MARK_PC n) entry
    let s := (s.set (.REED_ST_STATUS_RESTARTS n) 0).set (.REED_ST_STATUS_STATE n) 1
    (s.set (.REED_ST_CTRL_ABORT n) 0).sedgeGo n

/-- REED_GO (R129). -/
def execReedGo (n : Nat) (s : State) : Host.Outcome State Fault Refusal :=
  .next (s.access (0x4600_1000 + 0x100 * n) (fun s => s.reedGo n))

/-- KILL (R141): the operation terminates with KILL. -/
def execReedKill (n : Nat) (s : State) : Host.Outcome State Fault Refusal :=
  .next (s.access (0x4600_1000 + 0x100 * n) (fun s => s.terminate n 1 0))

/-- RESTART (R141): a restart event with cause 3. -/
def execReedRestart (n : Nat) (s : State) : Host.Outcome State Fault Refusal :=
  .next (s.access (0x4600_1000 + 0x100 * n) (fun s => s.when (s.running n) (fun s => s.restartDue n 3)))

/-- ABORT (R142): the bit is written; the program tests it as condition 15. -/
def execReedAbort (n : Nat) (set : Bool) (s : State) : Host.Outcome State Fault Refusal :=
  .next (s.access (0x4600_1000 + 0x100 * n) (fun s => s.setIf (.REED_ST_CTRL_ABORT n) set))

/-- A restart of stream n (R141): gates drop, the sector in progress posts no result and gives its verify entry back (R175,
R199), staging returns to the first uncommitted sector, the snapshot is restored, the RESTART event is queued and execution
resumes at the restart address once it is; past MAX_RESTART the operation ends with RESTART_LIMIT. Sectors whose last XFER completed
finish decoding (R175); what they deliver replaces nothing that a repetition delivers (State.deliver). -/
def State.restart (s : State) (n cause : Nat) : State :=
  let q := s.seq n
  let count := s.get (.REED_ST_STATUS_RESTARTS n) + 1
  if max 1 (s.get (.REED_ST_CFG_MAX_RESTART n)) < count then s.terminate n 8 9
  else
    let s := s.dropGates n 9
    let s := ((s.updChan n (fun c => { c with cur := none, vfy := if q.checked then c.vfy.dropLast else c.vfy })).endDefects n).sdgStatus n
    let s := (s.updStage n (fun g => if g.read then
        { g with resv := 0, moved := min g.moved q.sectorsCommitted, data := g.data.filter (fun e => decide (e.1 < q.sectorsCommitted)) }
      else { g with resv := 0 })).stgStatus n
    let s := s.forN 16 (fun i s => s.setG n i (q.snapG.getD i 0))
    let s := s.updSeq n (fun q => { q with
      sticky := q.snapSticky, stack := q.snapStack, inSector := false, judged := false, checked := false, sectorsDone := q.sectorsCommitted, marked := false,
      dataAt := none, noData := false, restartDue := none, stall := .none })
    let s := (s.set (.REED_ST_STATUS_RESTARTS n) count).reedEvent n 14 (cause * 16 + count % 16)
    let s := s.set (.REED_ST_PC_PC n) (s.get (.REED_ST_PC_MARK_PC n))
    if (s.seq n).owed = [] then s.set (.REED_ST_STATUS_STATE n) 1 else s.stallOn n .restart

/-- RESTART_EVENT (R141): the restart that is due is taken, by a sequencer whose clock runs (R32). -/
def execRestartEvent (n : Nat) (s : State) : Host.Outcome State Fault Refusal :=
  match (s.seq n).restartDue with
  | some c => .next (s.when (s.running n && s.domainOn (20 + n)) (fun s => s.restart n c))
  | none => .next s

/-! ### Waits, jumps and arithmetic -/

/-- WAIT (R131): TO is cleared when the WAIT issues; it stalls until its condition holds. -/
def execWait (n : Nat) (s : State) : Host.Outcome State Fault Refusal :=
  match s.microAt n 0x01 with
  | some (a, sel, opd) =>
    let s := s.when (decide ((s.seq n).stall ≠ .cond)) (fun s => s.sticky n (fun k => { k with timedOut := false }))
    .next (if s.cond n sel != decide (2 ^ 21 ≤ opd) then s.advanceTo n (a + 1) else s.stallOn n .cond)
  | none => .next s

/-- WAIT_TIMEOUT (R131): a WAIT with a timeout that stalls sets TO and goes on. -/
def execWaitTimeout (n : Nat) (s : State) : Host.Outcome State Fault Refusal :=
  match s.microAt n 0x01 with
  | some (a, _, opd) =>
    .next (if (s.seq n).stall = .cond ∧ opd % 2 ^ 21 ≠ 0 then
      (s.sticky n (fun k => { k with timedOut := true })).advanceTo n (a + 1) else s)
  | none => .next s

/-- WAITC (R130, R131): the first command stalls, the next one comes when OPD cycles have passed; none pass with OPD 0. -/
def execWaitc (n : Nat) (s : State) : Host.Outcome State Fault Refusal :=
  match s.microAt n 0x02 with
  | some (a, _, opd) => .next (if opd = 0 ∨ (s.seq n).stall = .cycles then s.advanceTo n (a + 1) else s.stallOn n .cycles)
  | none => .next s

/-- The wait of WAITA and of a timed gate for angle `t` at `m` (R131): LATE says whether it had passed at issue; a late one
without NEXT answers none, else the state while it waits and whether the angle is reached. -/
def State.waitAngle (s : State) (n : Nat) (m t : Word) (next : Bool) : State × Option Bool :=
  match (s.seq n).stall with
  | .angle t' armed =>
    if angleReached m t' armed then (s, some true)
    else (s.stallOn n (.angle t' (armed || ahead m t')), some false)
  | _ =>
    let late := !ahead m t
    let s := s.sticky n (fun k => { k with late := late })
    if m = t then (s, some true)
    else if late && !next then (s, none)
    else (s.stallOn n (.angle t (!late)), some false)

/-- WAITA (R131). -/
def execWaita (n : Nat) (mang : Word) (s : State) : Host.Outcome State Fault Refusal :=
  match s.microAt n 0x03 with
  | some (a, sel, opd) =>
    let s := s.atMang mang
    match s.waitAngle n mang (s.greg n sel + BitVec.ofNat 32 (opd % 2 ^ 21)) (decide (2 ^ 21 ≤ opd)) with
    | (s, some false) => .next s
    | (s, _) => .next (s.advanceTo n (a + 1))
  | none => .next s

/-- JMP (R131). -/
def execJmp (n : Nat) (s : State) : Host.Outcome State Fault Refusal :=
  match s.microAt n 0x10 with
  | some (_, _, opd) => .next (s.advanceTo n opd)
  | none => .next s

/-- JCC (R131). -/
def execJcc (n : Nat) (s : State) : Host.Outcome State Fault Refusal :=
  match s.microAt n 0x11 with
  | some (a, sel, opd) =>
    .next (s.advanceTo n (if s.cond n sel != decide (2 ^ 21 ≤ opd) then opd % 2 ^ 15 else a + 1))
  | none => .next s

/-- CALL (R131): a fifth nested CALL ends the operation with STACK. -/
def execCall (n : Nat) (s : State) : Host.Outcome State Fault Refusal :=
  match s.microAt n 0x12 with
  | some (a, _, opd) =>
    .next (if 4 ≤ (s.seq n).stack.length then s.programFault n 6
      else (s.updSeq n (fun q => { q with stack := (a + 1) :: q.stack })).advanceTo n opd)
  | none => .next s

/-- RET (R131): with the stack empty it ends the operation with STACK. -/
def execRet (n : Nat) (s : State) : Host.Outcome State Fault Refusal :=
  match s.microAt n 0x13 with
  | some _ =>
    match (s.seq n).stack with
    | r :: rest => .next ((s.updSeq n (fun q => { q with stack := rest })).advanceTo n r)
    | [] => .next (s.programFault n 6)
  | none => .next s

/-- LDI (R131): all of G[g], zero-extended, or with HI its upper half. -/
def execLdi (n : Nat) (s : State) : Host.Outcome State Fault Refusal :=
  match s.microAt n 0x18 with
  | some (a, sel, opd) =>
    let v := if 2 ^ 21 ≤ opd then BitVec.ofNat 32 (opd % 2 ^ 16 * 2 ^ 16 + (s.greg n sel).toNat % 2 ^ 16)
      else BitVec.ofNat 32 opd
    .next ((s.setG n sel v).advanceTo n (a + 1))
  | none => .next s

/-- The source of ADD, SUB and CMP (R131): a register with REG set, else the value. -/
def State.aluSource (s : State) (n opd : Nat) : Word :=
  if 2 ^ 21 ≤ opd then s.greg n (opd % 16) else BitVec.ofNat 32 opd

/-- ADD (R131). -/
def execMicroAdd (n : Nat) (s : State) : Host.Outcome State Fault Refusal :=
  match s.microAt n 0x19 with
  | some (a, sel, opd) =>
    let r := s.greg n sel + s.aluSource n opd
    .next (((s.setG n sel r).sticky n (fun k => k.ofResult r)).advanceTo n (a + 1))
  | none => .next s

/-- SUB (R131). -/
def execMicroSub (n : Nat) (s : State) : Host.Outcome State Fault Refusal :=
  match s.microAt n 0x1A with
  | some (a, sel, opd) =>
    let r := s.greg n sel - s.aluSource n opd
    .next (((s.setG n sel r).sticky n (fun k => k.ofResult r)).advanceTo n (a + 1))
  | none => .next s

/-- CMP (R131): the flags of the difference; G[g] unchanged. -/
def execMicroCmp (n : Nat) (s : State) : Host.Outcome State Fault Refusal :=
  match s.microAt n 0x1B with
  | some (a, sel, opd) =>
    .next ((s.sticky n (fun k => k.ofResult (s.greg n sel - s.aluSource n opd))).advanceTo n (a + 1))
  | none => .next s

/-! ### Gates -/

/-- The precompensation tables become active at a rise of WG (R188). -/
def State.wpcLoad (s : State) (n : Nat) : State :=
  s.updChan n (fun c => { c with
    wpcEn := s.is (.SDG_WR_CFG_WPC_EN n), wpc := (List.range 8).map (fun p => s.get (.SDG_WPC_SHIFT n p)),
    wpcAng := (List.range 16).map (fun j => s.get (.SDG_WPC_ANG_SCALE n j)) })

/-- The coefficient shadows become active at the start of a sector's preamble (R157): where firmware and adaptation wrote one
entry, firmware's value. -/
def State.coefLoad (s : State) (n : Nat) : State :=
  s.updChan n (fun c => { c with
    coef := (c.coefAdapt ++ c.coefFw).foldl (fun t e => Tab.put t e.1 e.2) c.coef, coefFw := [], coefAdapt := [] })

/-- A gate's change is refused (R136): REFUSED is set, with SSHORT where staging is short. A refused write gate in a sector is restart
cause 2 (R141); else the program goes on. -/
def State.refuse (s : State) (n next : Nat) (write short : Bool) : State :=
  let s := s.sticky n (fun k => { k with refused := true, sshort := short })
  if write && (s.seq n).inSector then s.restartDue n 2
  else s.advanceTo n next

/-- Staging does not hold the whole next sector, or for the first sector SREADY is false (R136 condition 6). -/
def State.writeShort (s : State) (n : Nat) : Bool :=
  let q := s.seq n
  decide ((s.stage n).moved ≤ q.sectorsDone) || (q.sectorsDone == 0 && !s.stagingReady n)

/-- An entry of the verify queue is taken for the sector being written (R198). -/
def State.takeVfy (s : State) (n : Nat) : State :=
  (s.updChan n (fun c => { c with vfy := c.vfy ++ [{ index := (s.greg n 7).toNat % 2 ^ 16 }] })).updSeq n (fun q => { q with checked := true })

/-- A condition of R191 arises in the cycle of an accepted raise (R192): the gate stays low, and the condition's event of R141 follows. A
commit is none for an operation of the flush (R191). -/
def State.raisePrevented (s : State) (n next cause : Nat) : State :=
  match cause with
  | 2 | 3 | 4 => s.restartDue n 1
  | 5 | 6 => s.terminate n 4 cause
  | 7 => s.terminate n 2 7
  | 8 => s.terminate n 3 8
  | 9 => s.restartDue n 3
  | _ => s.advanceTo n next

/-- The bit of the raised gate, up to now, whose cell begins at or after `m` (R126, R183). -/
def State.gateFrom (s : State) (n : Nat) (m : Word) : Nat := s.gateBit n (s.nextGrid n m)

/-- WG rises at `m` for a new sector or a further fragment, or stays raised (DESIGN CHOICE: R183 and R188 speak of the rise): a rise
empties the pair's bits and loads the precompensation tables (R188); its first bit is the one whose cell begins at the first boundary
from `m` on (R183). -/
def State.wgUp (s : State) (n : Nat) (m : Word) : State :=
  if (s.seq n).wg then s.updSeq n (fun q => { q with vgFrom := s.gateFrom n m })
  else
    let s := s.updChan n (fun c => { c with wd := [] })
    let s := s.updSeq n (fun q => { q with wg := true, wgAt := s.nextGrid n m, vgFrom := 0 })
    (s.set (.SDG_WR_STATUS_WG n) 1).wpcLoad n

/-- GATE WG,1 at its angle `m`, or `late` where that had passed without NEXT (R136–R138, R192, R198). A raise with no sector in progress
takes an entry of the verify queue, or is refused for want of one; within a sector VG armed since then takes one where it is free
(DESIGN CHOICE: R198 refuses only the former). `cause` is a condition of R191 in the same cycle. -/
def State.raiseWg (s : State) (n next : Nat) (m : Word) (late : Bool) (cause : Option Nat) : State :=
  let q := s.seq n
  if !q.marked then s.programFault n 7
  else if !s.tideLocked || s.get .TIDE_STATUS_EPOCH != q.epoch then s.terminate n 4 5
  else
    let short := !q.inSector && s.writeShort n
    let entry := decide ((s.chan n).vfy.length < 32)
    if late || s.winh n || s.inSpan n m || short || (q.vg && !q.inSector && !entry) then
      (s.when short (fun s => s.reedEvent n 13 q.sectorsDone)).refuse n next true short
    else match cause.filter (fun c => decide (c ≠ 7) || !q.flush) with
      | some c => s.raisePrevented n next c
      | none =>
        let s := s.when (!q.inSector) (fun s => (s.updStage n (fun g => { g with resv := g.resv + 1 })).stgStatus n)
        let s := s.when (q.vg && !q.checked && entry) (fun s => s.takeVfy n)
        let s := s.updSeq n (fun q => { q with inSector := true, reads := false })
        (s.wgUp n m).advanceTo n next

/-- GATE RG,1 (R137): with no sector in progress it reserves staging space for one sector, or is refused with SSHORT. An overrate holds
it low (R42). -/
def State.raiseRg (s : State) (n next : Nat) : State :=
  let q := s.seq n
  let g := s.stage n
  if s.tide.overrate.at n then s.refuse n next false false
  else if q.inSector then (s.updSeq n (fun q => { q with rg := true })).advanceTo n next
  else if stagingSectors g.meta_ ≤ g.data.length + g.resv then s.refuse n next false true
  else
    let s := (s.updStage n (fun g => { g with resv := g.resv + 1 })).stgStatus n
    ((s.updSeq n (fun q => { q with rg := true, inSector := true, judged := false, reads := true })).coefLoad n).advanceTo n next

/-- GATE VG,1 at `m` (R139): with the write gate raised the checker follows the bits from `m` on, with an entry where one is free. -/
def State.armVg (s : State) (n : Nat) (m : Word) : State :=
  let q := s.seq n
  if q.vg then s
  else
    let s := s.when (q.wg && q.inSector && !q.checked && decide ((s.chan n).vfy.length < 32)) (fun s => s.takeVfy n)
    s.updSeq n (fun q => { q with vg := true, vgFrom := if q.wg then s.gateFrom n m else 0 })

/-- GATE VG,0 at `m` (R139): what was written under the armed VG is the checker's to follow still. -/
def State.disarmVg (s : State) (n : Nat) (m : Word) : State :=
  ((s.when (s.seq n).wg (fun s => s.idleTo n (s.gateFrom n m))).endFragment n id).updSeq n (fun q => { q with vg := false })

/-- The gate change of a GATE takes effect at the first bit-cell boundary from `m` on (R126, R127, R131): a gate other than WG that would
rise in a protected span rises at its end. -/
def State.gateAct (s : State) (n next sel : Nat) (up : Bool) (m : Word) (cause : Option Nat) : State :=
  if !up then
    let s := match sel with
      | 0 => s.updSeq n (fun q => { q with rg := false })
      | 1 => (s.when (s.seq n).wg (fun s => s.idleTo n (s.gateFrom n m))).dropWg n 0
      | _ => s.disarmVg n m
    s.advanceTo n next
  else if sel = 1 then s.raiseWg n next m false cause
  else if s.inSpan n m then s.stallOn n (.angle (s.spanEnd n m) true)
  else if sel = 0 then s.raiseRg n next
  else if s.tide.overrate.at n then s.refuse n next false false
  else (s.armVg n m).advanceTo n next

/-- A GATE that has been issued waits, for its angle or for the stream's clock. -/
def Stall.waiting : Stall → Bool
  | .angle _ _ | .clock => true
  | .none | .cond | .search _ _ _ | .mark _ | .transfer | .cycles | .room | .restart => false

/-- GATE (R126, R131, R135, R136): WG,1 of an operation that does not write is WG_DENIED; WG,1 without TIMED and RG beside WG are
illegal; a change takes effect at the bit-cell boundary at or after its angle, so none does while the stream's clock stands (R56),
nor does WG rise while its write-gate unit's is gated (R32); a late timed change without NEXT is refused. A gate that waited takes effect
at the angle that it waited for. `cause` is a condition of R191 that arises in the cycle of a raise (R192). -/
def execGate (n : Nat) (mang : Word) (cause : Option Nat) (s : State) : Host.Outcome State Fault Refusal :=
  match s.microAt n 0x04 with
  | some (a, sel, opd) =>
    let q := s.seq n
    let up := opd % 2 == 1
    let timed := opd / 32 % 2 == 1
    let next := opd / 64 % 2 == 1
    let fresh := !q.stall.waiting
    let s := s.atMang mang
    let s := s.when fresh (fun s => s.sticky n (fun k => { k with sshort := false, refused := false }))
    if up && sel == 1 && !(q.opcode == 0x02 || q.opcode == 0x03 || q.opcode == 0x10 || q.opcode == 0x11) then
      .next (s.programFault n 9)
    else if up && ((sel == 1 && (!timed || q.rg)) || (sel == 0 && q.wg)) then .next (s.programFault n 5)
    else if !s.clockRuns n || (up && sel == 1 && !s.domainOn (31 + n)) then .next (s.stallOn n .clock)
    else if !timed && (fresh || q.stall == .clock) then .next (s.gateAct n (a + 1) sel up (s.nextGrid n mang) cause)
    else
      let at_ := match q.stall with
        | .angle t _ => t
        | _ => s.greg n (opd / 2 % 16)
      match s.waitAngle n mang at_ next with
      | (s, none) => .next (if up && sel == 1 then s.raiseWg n (a + 1) mang true cause else s.refuse n (a + 1) false false)
      | (s, some false) => .next s
      | (s, some true) => .next (s.gateAct n (a + 1) sel up at_ cause)
  | none => .next s

/-! ### Marks and transfers -/

/-- The gain of code `k`, −6.0 + 0.1875 × k dB, in 2^-16 (R151): 10 to the (3 k − 96) / 320, rounded down; its bits are found from the
highest on. -/
def gainOf (k : Nat) : Nat :=
  (List.range 20).foldl (fun p i =>
    let q := p + 2 ^ (19 - i)
    if (q ^ 20) ^ 16 * 10 ^ 96 ≤ ((2 ^ 16) ^ 20) ^ 16 * (10 ^ k) ^ 3 then q else p) 0

/-- The gain code that AGC gives a preamble whose peak at 0 dB is `peak` in 1/256 code (R153): the lowest of 0–127 at which the peak reaches
the target, or 127 (DESIGN CHOICE: R153 names no rounding). -/
def agcCode (peak target : Nat) : Nat :=
  ((List.range 128).find? (fun k => decide (target * 2 ^ 24 ≤ peak * gainOf k))).getD 127

/-- A peak of `peak` in 1/256 code under gain code `k`, as an ADC code (R151: at most 63). -/
def peakAt (peak k : Nat) : Nat := min 63 (peak * gainOf k / 2 ^ 24)

/-- The phase trim is set (R153): one beyond ±0.5 bit is clamped and marked, and counted but for read-ahead (R173). -/
def State.putTrim (s : State) (n : Nat) (phase : Int) (clamped : Bool) : State :=
  let trim := max (-32) (min 32 phase)
  let s := (s.updChan n (fun c => { c with trim := trim })).setS (.SDG_FE_STATUS_TRIM n) trim
  s.when clamped (fun s => (s.set (.SDG_ST_STATUS_PHASE_LIM n) 1).when ((s.chan n).mode != 2) (fun s => s.telAdd n 27 1))

/-- The front end acquires from the preamble that precedes a search (R153): for a sync mark the gain that brings reader B's peak to AGC_TGT,
and the phase, averaged over the three readers (DESIGN CHOICE: to the next lower 1/64 bit); for a resync mark phase alone. A short
preamble is marked. Read-ahead does not count (R173). -/
def State.acquirePreamble (s : State) (n : Nat) (resync : Bool) (p : Preamble) : State :=
  let phase := (p.phase.1 + p.phase.2.1 + p.phase.2.2).fdiv 3
  let short := decide (p.bits < (if resync then 32 else 96))
  let gain := agcCode p.peak (s.get (.SDG_FE_CFG_AGC_TGT n))
  let counts := (s.chan n).mode != 2
  let s := s.putTrim n phase (decide (phase < -32) || decide (32 < phase))
  let s := s.when (!resync) (fun s => ((s.set (.SDG_FE_STATUS_VGA n) gain).set (.SDG_FE_STATUS_AMPL n) (peakAt p.peak gain)).when counts
    (fun s => s.telLevel n 29 gain))
  s.when short (fun s => (s.set (.SDG_ST_STATUS_ACQ_SHORT n) 1).when counts (fun s => s.telAdd n 28 1))

/-- The end of the mark that a SYNC writes (R185): the SYNC's register value plus the length in G4 or G5; R131's words that g is ignored
are read of the search (DEDUCED). -/
def State.markEnd (s : State) (n sel : Nat) (resync : Bool) : Word :=
  s.nextGrid n (s.greg n sel + (if resync then s.greg n 5 else s.greg n 4))

/-- The mark of a SYNC is written to its end at `t` (R185), or as soon as its 32 bits have gone out; a gate that has dropped meanwhile
sends nothing. -/
def State.writeMark (s : State) (n : Nat) (resync : Bool) (t : Word) : State :=
  if (s.seq n).wg then
    let k := max (s.gateBit n t) ((s.chan n).wd.length + 32)
    let start := s.boundary n (s.bitIndex n (s.seq n).wgAt + k)
    (s.sendMark n resync k).updSeq n (fun q => { q with dataAt := some start, noData := false })
  else s.updSeq n (fun q => { q with dataAt := none, noData := false })

/-- SYNC (R131, R133, R153, R185): with RG open a search about G[g] starts, for which the front end has acquired; with WG open preamble
and mark are written. With neither open a search starts all the same, which nothing can end but its window's close (DESIGN CHOICE: R131
names only the two). -/
def execSync (n : Nat) (mang : Word) (p : Preamble) (s : State) : Host.Outcome State Fault Refusal :=
  match s.microAt n 0x05 with
  | some (a, sel, opd) =>
    let resync := opd / 256 % 2 == 1
    match (s.seq n).stall with
    | .search _ _ _ => .next s
    | .mark t =>
      let s := s.atMang mang
      .next (if (s.seq n).wg && ahead mang t && mang != t then s else (s.writeMark n resync t).advanceTo n (a + 1))
    | _ =>
      let s := s.atMang mang
      let s := s.sticky n (fun k => { k with sfound := false, smiss := false, tsync := false, late := false })
      if (s.seq n).wg then .next (if s.clockRuns n then s.stallOn n (.mark (s.markEnd n sel resync)) else s.stallOn n .clock)
      else
        let w := if opd % 256 = 0 then max 1 (s.get .REED_SYNC_CFG_WIN) else opd % 256
        let half := s.unitsOf n w
        let late := !ahead mang (s.greg n sel - BitVec.ofNat 32 half)
        let s := (s.sticky n (fun k => { k with late := late })).when ((s.seq n).rg && s.domainOn (106 + n)) (fun s => s.acquirePreamble n resync p)
        .next (s.stallOn n (.search (s.greg n sel) half (opd / 512 % 2 == 1)))
  | none => .next s

/-- Where the data of a sector starts whose mark ended at `m`, predicted at `c` (R133, R171): with FORCE_TIMED at the prediction,
whatever Reed detected. For a sync mark Sedge notes whether Tide was in LOCKED or SINGLE (R166). -/
def State.dataFrom (s : State) (n : Nat) (resync : Bool) (m c : Word) : State :=
  let start := s.nextGrid n (if (s.chan n).forceTimed then c else m)
  s.updSeq n (fun q => { q with dataAt := some start, noData := false, markLocked := if resync then q.markLocked else s.tideLocked })

/-- An offset in MANG units as channel bits, to the nearest, halves up (R133; DESIGN CHOICE: it names no rounding). -/
def State.nearestBits (s : State) (n d : Nat) : Nat := (2 * d * s.get (.TIDE_ST_CBPC_CBPC n) + 2 ^ 36) / 2 ^ 37

/-- MARK_DETECTED (R133, R154): `bits`, the last 32 decisions of reader B, match the pattern of the SYNC's KIND in all but TOL bits
inside the window; data starts at the bit that follows. -/
def execMarkDetected (n : Nat) (mang bits : Word) (s : State) : Host.Outcome State Fault Refusal :=
  match s.microAt n 0x05, (s.seq n).stall with
  | some (a, _, opd), .search c half _ =>
    let resync := opd / 256 % 2 == 1
    let d := (mang - c).toInt
    if mismatches bits (s.markPattern n resync) ≤ s.get (.SDG_SM_CFG_TOL n) ∧ d.natAbs ≤ half ∧ (s.seq n).rg then
      let k : Int := s.nearestBits n d.natAbs
      let s := s.atMang mang
      let s := (s.set (.REED_ST_SYNCOFS_TIMED n) 0).setS (.REED_ST_SYNCOFS_OFS n) (if d < 0 then -k else k)
      let s := s.sticky n (fun k => { k with sfound := true })
      .next ((s.dataFrom n resync mang c).advanceTo n (a + 1))
    else .next s
  | _, _ => .next s

/-- SYNC_WINDOW_CLOSE (R134): SMISS, and without NOTIMED timed sync at the predicted angle. -/
def execSyncWindowClose (n : Nat) (mang : Word) (s : State) : Host.Outcome State Fault Refusal :=
  match s.microAt n 0x05, (s.seq n).stall with
  | some (a, _, opd), .search c half notimed =>
    if ahead mang (c + BitVec.ofNat 32 half) ∧ mang ≠ c + BitVec.ofNat 32 half then .next s
    else
      let s := (s.atMang mang).sticky n (fun k => { k with smiss := true, tsync := !notimed })
      if notimed then .next (((s.set (.REED_ST_SYNCOFS_TIMED n) 0).updSeq n (fun q => { q with dataAt := none, noData := true })).advanceTo n (a + 1))
      else
        let s := (s.set (.REED_ST_SYNCOFS_TIMED n) 1).set (.REED_ST_SYNCOFS_OFS n) 0
        .next ((s.dataFrom n (opd / 256 % 2 == 1) c c).advanceTo n (a + 1))
  | _, _ => .next s

/-- A sector has completed (R136, R140, R196): a read one waits for its decode, the bits of a defect that is still open erased to its end
(R163), a written one is over for the checker; one written under an invalid code selection posts CODE_ERR (R159, R182). -/
def State.sectorDone (s : State) (n : Nat) : State :=
  let s := s.endFragment n (fun e => { e with ended := true })
  let s := s.when ((s.chan n).codeBad && !(s.seq n).reads) (fun s =>
    s.postResult n ((s.chan n).resultOf { index := (s.greg n 7).toNat % 2 ^ 16 } 8 0 0))
  let s := s.updSeq n (fun q => { q with
    inSector := false, judged := false, checked := false, sectorsDone := q.sectorsDone + 1, marked := false, vgFrom := (s.chan n).wd.length })
  ((s.endDefects n).updChan n (fun c => match c.cur with
    | some x => { c with cur := none, waiting := c.waiting ++ [{ x with whole := true }] }
    | none => c)).sdgStatus n

/-- The readers' samples of `k` bits join the sector's, with the trim at each (R152, R153): the tracking loop follows the phase from the
trim that the last preamble gave, held to ±0.5 bit. -/
def State.takeSamples (s : State) (n k : Nat) (raw : List Sample) : State :=
  match (s.chan n).cur with
  | some x =>
    let c := s.chan n
    let raw := (raw ++ List.replicate (k - raw.length) default).take k
    let set := c.weightSet
    let track := Config.phaseTrack ((List.range 72).map (fun i => weight x.coef set (i / 24) (i % 24))) c.trim raw
    let trims := (List.range k).map (fun i => max (-32) (min 32 (at0 track i)))
    let s := s.updChan n (fun c => { c with
      cur := some { x with raw := x.raw ++ raw, trims := x.trims ++ trims }
      corner16 := c.corner16 && !(c.corner16To.any (fun b => decide (b ≤ x.raw.length + k))) })
    s.when (k != 0) (fun s => s.putTrim n (at0 trims (k - 1)) ((List.range k).any (fun i => at0 track i != at0 trims i)))
  | none => s

/-- The XFER at address `a` ends after `moved` of `count` bits from the boundary at `start` (R126, R128): the rest stays in G[g], G15
takes the next grid position, a cut without WSTOP queues WEDGE_CUT and posts CUT, and LAST with nothing left completes the sector. The
bits go out through the write gate (R185), or the readers' samples of them join the sector's (R152). -/
def State.xferEnd (s : State) (n a sel opd count moved : Nat) (start : Word) (raw : List Sample) : State :=
  let left := count - moved
  let s := s.when (s.seq n).wg (fun s => s.sendCode n moved start)
  let s := s.takeSamples n moved raw
  let s := s.setG n (opd / 2 ^ 18 % 16) (BitVec.ofNat 32 left)
  let s := s.setG n 15 (s.boundary n (s.bitIndex n start + moved))
  let s := s.sticky n (fun k => { k with xdone := left == 0 })
  let s := s.updSeq n (fun q => { q with dataAt := none })
  let s := s.when (left != 0 && sel / 4 % 2 == 0) (fun s => (s.reedEvent n 12 left).cutRead n)
  (s.when (left == 0 && sel / 2 % 2 == 1) (fun s => s.sectorDone n)).advanceTo n (a + 1)

/-- The sector that a read begins at an XFER with FIRST (R157, R161, R166, R171): with FORCE_TIMED at the predicted alignment, whatever
Reed detected. -/
def State.newSamples (s : State) (n : Nat) : Samples :=
  let c := s.chan n
  { number := (s.seq n).sectorsDone, index := (s.greg n 7).toNat % 2 ^ 16,
    ofs := if c.forceTimed then 0 else BitVec.ofNat 32 (s.get (.REED_ST_SYNCOFS_OFS n)),
    timed := s.is (.REED_ST_SYNCOFS_TIMED n) || c.forceTimed, locked := (s.seq n).markLocked, coef := c.coef }

/-- XFER starts (R131, R158, R161, R185): with FIRST Sedge latches G7 as the sector's index; a read takes a rolling slot, if one of
the two is free, a write has its codeword encoded from staging, but none under an invalid code selection (R159). -/
def State.xferStart (s : State) (n sel : Nat) (mang : Word) : State :=
  let q := s.seq n
  let start := match q.dataAt with | some x => x | none => s.nextGrid n mang
  let s := s.updSeq n (fun q => { q with dataAt := some start })
  let s := s.when (sel % 2 == 1 && q.rg && !q.judged) (fun s => (s.updChan n (fun c =>
    if c.waiting.length < 2 then { c with cur := some (s.newSamples n) } else c)).sdgStatus n)
  let s := s.when (sel % 2 == 1 && q.wg) (fun s => s.updChan n (fun c =>
    let g := s.stage n
    let sector := ((g.data.find? (fun e => e.1 = q.sectorsDone)).map (·.2)).getD []
    { c with codeSent := 0
             code := if c.codeBad then [] else
               s.writeWord n ((s.greg n 7).toNat % 2 ^ 16) (c.marker || g.markers.contains q.sectorsDone) sector }))
  s.stallOn n .transfer

/-- The bits of an XFER: its count, or G[g] (R131). -/
def State.xferCount (s : State) (n opd : Nat) : Nat :=
  if opd % 2 ^ 18 = 0 then (s.greg n (opd / 2 ^ 18 % 16)).toNat else opd % 2 ^ 18

/-- The whole bits from the boundary at `start` to the next protected span, none where no gate is open (R128). -/
def State.bitsToSpan (s : State) (n : Nat) (start : Word) : Nat :=
  if (s.seq n).rg || (s.seq n).wg then s.bitsOver n start (s.toSpan n start) else 0

/-- XFER (R128, R131, R134): the first command starts the transfer, the next one ends it, at its count or at the protected span
before it, where every gate drops; it waits while the stream's clock stands (R56). `raw` are the readers' samples of its bits. -/
def execXfer (n : Nat) (mang : Word) (raw : List Sample) (s : State) : Host.Outcome State Fault Refusal :=
  match s.microAt n 0x06 with
  | some (a, sel, opd) =>
    let s := s.atMang mang
    if (s.seq n).noData then .next (s.programFault n 5)
    else if !s.clockRuns n then .next (if (s.seq n).stall = .transfer then s else s.stallOn n .clock)
    else match (s.seq n).stall, (s.seq n).dataAt with
      | .transfer, some start =>
        let count := s.xferCount n opd
        let room := s.bitsToSpan n start
        .next ((s.xferEnd n a sel opd count (min count room) start raw).when (decide (room < count)) (fun s => s.dropGates n 1))
      | _, _ => .next (s.xferStart n sel mang)
  | none => .next s

/-- PROTECTED_SPAN_START (R127, R128): every gate drops, and an XFER ends at the last whole bit before the span. -/
def execProtectedSpanStart (n : Nat) (mang : Word) (raw : List Sample) (s : State) : Host.Outcome State Fault Refusal :=
  if s.inSpan n mang then
    let s := s.atMang mang
    let s := match s.microAt n 0x06, (s.seq n).stall, (s.seq n).dataAt with
      | some (a, sel, opd), .transfer, some start =>
        let count := s.xferCount n opd
        s.xferEnd n a sel opd count (min count (s.bitsToSpan n start)) start raw
      | _, _, _ => s
    .next (s.dropGates n 1)
  else .next s

/-- SKIPW (R126, R131): RG and VG close; it returns EARLY cells before the end of the wedge's span, with G15 the first bit-cell boundary from
that end on. -/
def execSkipw (n : Nat) (mang : Word) (s : State) : Host.Outcome State Fault Refusal :=
  match s.microAt n 0x07 with
  | some (a, _, _) =>
    let s := s.atMang mang
    let early := BitVec.ofNat 32 (s.get .REED_WEDGE_EARLY * 4096)
    match (s.seq n).stall with
    | .angle t armed =>
      .next (if angleReached mang t armed then (s.setG n 15 (s.nextGrid n (t + early))).advanceTo n (a + 1)
        else s.stallOn n (.angle t (armed || ahead mang t)))
    | _ =>
      let s := (s.disarmVg n mang).updSeq n (fun q => { q with rg := false })
      let t := s.spanEnd n mang - early
      .next (if ahead mang t && mang != t then s.stallOn n (.angle t true)
        else (s.setG n 15 (s.nextGrid n (t + early))).advanceTo n (a + 1))
  | none => .next s

/-! ### Commit points, events and the end -/

/-- The event queue has room for the commit's SECTOR events plus one (R140). -/
def State.commitRoom (s : State) (n : Nat) : Bool :=
  let q := s.seq n
  decide (q.events.length + (q.sectorsDone - q.sectorsCommitted) + 1 ≤ 64) && decide (q.owed = [])

/-- The completed sectors are committed (R140): a SECTOR event for each in order, reservations given back (R137), for a write its
staging released (R325), and the restart count cleared when there is at least one. -/
def State.commitSectors (s : State) (n : Nat) : State :=
  let q := s.seq n
  let k := q.sectorsDone - q.sectorsCommitted
  let s := s.forN k (fun i s => s.reedEvent n 15 (q.sectorsCommitted + i))
  let s := s.updSeq n (fun q => { q with sectorsCommitted := q.sectorsDone })
  let s := (s.updStage n (fun g =>
    let g := { g with resv := g.resv - k }
    if g.read then g else { g with freed := g.freed + k, data := g.data.filter (fun e => q.sectorsDone ≤ e.1) })).stgStatus n
  s.when (decide (0 < k)) (fun s => s.set (.REED_ST_STATUS_RESTARTS n) 0)

/-- MARK (R140): commits, snapshots G0–G15, the sticky conditions and the stack, and records its own address. -/
def execMark (n : Nat) (s : State) : Host.Outcome State Fault Refusal :=
  match s.microAt n 0x08 with
  | some (a, _, _) =>
    if s.commitRoom n then
      let s := s.commitSectors n
      let s := s.updSeq n (fun q => { q with
        snapG := (List.range 16).map (fun i => s.greg n i), snapSticky := q.sticky, snapStack := q.stack, marked := true })
      .next ((s.set (.REED_ST_PC_MARK_PC n) a).advanceTo n (a + 1))
    else .next (s.stallOn n .room)
  | none => .next s

/-- EMIT (R143): queues a program event; stalls while 56 or more entries are occupied. -/
def execEmit (n : Nat) (s : State) : Host.Outcome State Fault Refusal :=
  match s.microAt n 0x20 with
  | some (a, sel, opd) =>
    .next (if 56 ≤ (s.seq n).events.length then s.stallOn n .room else (s.reedEvent n sel opd).advanceTo n (a + 1))
  | none => .next s

/-- END (R131, R140, R144, R150): commits as MARK does, drops every gate and ends the operation with RESULT. -/
def execMicroEnd (n : Nat) (s : State) : Host.Outcome State Fault Refusal :=
  match s.microAt n 0x3F with
  | some (_, _, opd) =>
    if s.commitRoom n then
      let s := ((s.commitSectors n).set (.REED_ST_STATUS_RESULT n) opd).terminate n 0 0
      .next s
    else .next (s.stallOn n .room)
  | none => .next s

/-- ILLEGAL_MICROWORD (R131): an illegal microword or fetch of a sequencer whose clock runs (R32) ends the operation with ILLEGAL. -/
def execIllegalMicroword (n : Nat) (s : State) : Host.Outcome State Fault Refusal :=
  let bad := match s.fetchMicro n with
    | some (_, w) => !microLegal (microOp w) (microSel w) (microOpd w)
    | none => true
  .next (s.when (bad && s.running n && s.domainOn (20 + n) && (s.seq n).restartDue.isNone) (fun s => s.programFault n 5))

/-- REED_EVENT_READ (R14, R143): the read removes the oldest event and answers it; an event that waited for room enters, and a
restart that waited for its event resumes. -/
def execReedEventRead (who : Who) (n : Nat) (s : State) : Host.Outcome State Fault Refusal :=
  .next (s.load who (0x4600_1010 + 0x100 * n) (fun s =>
    match (s.seq n).events with
    | e :: rest =>
      let s := s.updSeq n (fun q => match q.owed with
        | o :: more => { q with events := rest ++ [o], owed := more }
        | [] => { q with events := rest })
      let s := s.when (decide ((s.seq n).stall = .restart) && decide ((s.seq n).owed = [])) (fun s =>
        (s.updSeq n (fun q => { q with stall := .none })).set (.REED_ST_STATUS_STATE n) 1)
      (s.reedCount n).answer (2 ^ 31 + e.kind * 2 ^ 24 + e.data)
    | [] => s.answer 0))

/-! ### Control stores -/

/-- Every sequencer that the mask selects is IDLE (R145). -/
def State.storesIdle (s : State) (mask : Nat) : Bool :=
  (List.range 8).all (fun n => mask / 2 ^ n % 2 == 0 || !s.running n)

/-- CS_WRITE (R145): the word is stored at ADDR in every selected sequencer and ADDR counts on, where all of them are IDLE; else
ERR. An address past 0x47FF names no word. -/
def execCsWrite (word : Word) (s : State) : Host.Outcome State Fault Refusal :=
  .next (s.access 0x4600_0008 (fun s =>
    let mask := s.get .REED_CS_CTRL_SEQ_MASK
    let a := s.get .REED_CS_CTRL_ADDR
    if s.storesIdle mask then
      let s := s.forN 8 (fun n s => s.when (mask / 2 ^ n % 2 == 1 && decide (a < 0x4800))
        (fun s => s.updSeq n (fun q => { q with store := q.store.put a word })))
      s.inc .REED_CS_CTRL_ADDR
    else s.set .REED_CS_CTRL_ERR 1))

/-- CS_READ (R14, R145): the word of the lowest selected sequencer; ADDR counts on. -/
def execCsRead (who : Who) (s : State) : Host.Outcome State Fault Refusal :=
  .next (s.load who 0x4600_0008 (fun s =>
    let mask := s.get .REED_CS_CTRL_SEQ_MASK
    let a := s.get .REED_CS_CTRL_ADDR
    let w := match (List.range 8).find? (fun n => mask / 2 ^ n % 2 == 1) with
      | some n => ((s.seq n).store.at a).toNat
      | none => 0
    (s.inc .REED_CS_CTRL_ADDR).answer w))

end Sys2Proof.Machine
end

