-- ==== Sys2Proof/Machine/ReadChannel.lean ====
section
/-! DEFINITION. The read channels (07): the outcome of a decode and of an alignment retry, the combine sum, the result queue, defects,
coefficients and telemetry. -/

namespace Sys2Proof.Machine

/-! ### Verdicts (R160–R162) -/

/-- The cases of a decode (R160, R162): good, marked, wrong seal, not converged. -/
inductive Verdict where
  | good | marked | badSeal | failed
deriving DecidableEq, Repr

/-- The verdict of a decode (R160, R162). -/
def State.verdict (s : State) (n index : Nat) (d : Decode) : Verdict :=
  if !d.converged then .failed
  else if d.codeSeal = s.sealFor n index d.user d.metadata then .good
  else if d.codeSeal = ~~~ s.sealFor n index d.user d.metadata then .marked
  else .badSeal

/-- The iteration limit of stream n's decodes (R160): ITER_OTF on the fly, 24 in the ladder. -/
def Channel.iterLimit (c : Channel) : Nat := if c.mode = 3 then 24 else c.iterOtf

/-! ### What a good sector does -/

/-- A good sector is delivered to staging in the modes that deliver (R173), in sector order (R325), in place of an earlier delivery of the
same sector. A read that only adapts is not (DESIGN CHOICE: R168 has step 1 read the neighbours of a failed sector for their samples alone). -/
def State.deliver (s : State) (n : Nat) (x : Samples) (d : Decode) : State :=
  s.when ((s.chan n).mode != 1 && !(s.stage n).discard) (fun s =>
    (s.updStage n (fun g => { g with
      data := g.data.filter (fun e => decide (e.1 < x.number)) ++ [(x.number, d.user ++ d.metadata)] ++
        g.data.filter (fun e => decide (x.number < e.1)) })).stgStatus n)

/-- The bits that a good decode found, the reference of the adaptation and of the error counts (R156, R178). -/
def State.decodedBits (s : State) (n : Nat) (d : Decode) : List Bool :=
  codeword (s.get (.SDG_CODE_C n)) (s.get (.SDG_CODE_META n)) d.user d.metadata d.codeSeal

/-- Values of adapted entries go to the shadow, over earlier ones (R157). -/
def State.adaptTo (s : State) (n : Nat) (l : List (Nat × BitVec 26)) : State :=
  s.updChan n (fun c => { c with coefAdapt := c.coefAdapt.filter (fun e => !l.any (fun a => a.1 == e.1)) ++ l })

/-- The noise predictors take values adapted from the signal (R158), which the spec leaves open. -/
def State.adaptNp (s : State) (n : Nat) : State :=
  let v (i : Nat) := BitVec.ofNat 26 (Config.freeValue (s.drawn + i) % 2 ^ 26)
  let s' := s.adaptTo n ((List.range 32).map (fun p => (0x180 + p, v p)))
  { s' with drawn := s.drawn + 32 }

/-- A good sector adapts set 0 and, with NP_ADAPT, the noise predictors (R156, R158): never a sector with erased bits, never read-ahead,
never with MU 0, nor a ladder read (DESIGN CHOICE: R156 leaves the ladder open; but for the neighbours that step 1 reads in its first
revolution, which adapt set 4 (R168), ladder reads adapt nothing). -/
def State.adaptFrom (s : State) (n : Nat) (x : Samples) (d : Decode) : State :=
  let c := s.chan n
  let bits := s.decodedBits n d
  if x.erased ≠ 0 ∨ c.mode = 2 then s
  else if c.mode = 3 then s.when (c.step == 1 && (s.stage n).discard && c.muLadder != 0) (fun s => s.adaptTo n (s.lms n 4 c.muLadder x bits))
  else s.when (c.adaptEn && c.mu != 0) (fun s =>
    (s.adaptTo n (s.lms n 0 c.mu x bits)).when c.npAdapt (fun s => s.adaptNp n))

/-- What every sector decoded on the fly counts (R178). -/
def State.telDecoded (s : State) (n : Nat) (x : Samples) : State :=
  let mag := x.ofs.setWidth 16 |>.toInt.natAbs
  let s := s.telAdd n 0 1
  let s := s.when x.timed (fun s => s.telAdd n 8 1)
  let s := s.when (!x.timed) (fun s => s.telAdd n (if mag = 0 then 9 else if mag ≤ 2 then 10 else 11) 1)
  s.telAdd n 12 x.erased

/-- What a good sector counts (R178): the mean-square error over the last 256 of them, bit errors against the decoded bits, and the bits
checked in units of 1,024. -/
def State.telGood (s : State) (n : Nat) (x : Samples) (d : Decode) : State :=
  let c := s.chan n
  let bits := s.decodedBits n d
  let mses := (s.sectorMse n c.weightSet x bits :: c.mses).take 256
  let wrong := ((hardOf (s.soft n c.weightSet x [])).zip bits).countP (fun e => e.1 != e.2)
  let checked := c.checkedBits + dataBits (s.get (.SDG_CODE_C n))
  let s := s.updChan n (fun c => { c with mses := mses, checkedBits := checked % 1024 })
  ((s.telLevel n 24 (mses.sum / mses.length)).telAdd n 25 wrong).telAdd n 26 (checked / 1024)

/-- A good decode of sector `x` (R173): delivered, counted, adapted from, and posted with its outcome. -/
def State.goodSector (s : State) (n : Nat) (x : Samples) (d : Decode) (outcome : Nat) (align : Int) : State :=
  let s := s.when ((s.chan n).mode != 2) (fun s => s.telGood n x d)
  ((s.deliver n x d).adaptFrom n x d).postResult n ((s.chan n).resultOf x outcome align d.iterations)

/-! ### Parking (R164, R170) -/

/-- A park slot that is free (R164); none while the combine sum is held (R170). -/
def Channel.freePark (c : Channel) : Option Nat :=
  if c.park.any (fun e => decide (e.2 = .sum)) then none
  else (List.range 4).find? (fun i => decide (c.park.at i = .free))

/-- The sector's alignment may be retried (R164, R166, R171): a detected mark at a nonzero offset, or a timed alignment taken while
Tide was outside LOCKED and SINGLE; never for read-ahead (R173). -/
def Channel.retriable (c : Channel) (x : Samples) : Bool :=
  c.mode != 2 && (if x.timed then !x.locked else x.ofs != 0)

/-- A failed sector is parked, or posts its failure (R164). While the combine sum is held a ladder read is not parked (R170): its
retry runs within the step (R171) from the rolling slot, which stands at 4 beside the park slots. -/
def State.parkOrFail (s : State) (n : Nat) (x : Samples) (d : Decode) (sealFailed : Bool) : State :=
  let c := s.chan n
  let park (i : Nat) := (s.updChan n (fun c => { c with park := c.park.put i (.held x 0 sealFailed) })).sdgStatus n
  let fail (s : State) := s.postResult n (c.resultOf x (if sealFailed then 3 else 2) 0 d.iterations)
  if c.retriable x then
    match c.freePark with
    | some i => park i
    | none =>
      if c.park.any (fun e => decide (e.2 = .sum)) then (if c.mode = 3 ∧ c.park.at 4 = .free then park 4 else fail s)
      else fail (s.telAdd n 15 1)
  else fail s

/-! ### Decodes -/

/-- A ladder read of step 2 joins the combine sum (R168, R170): it starts a new one with COMB clear, bit for bit; its hard decisions
are kept for step 5 (R169). The sum is decoded with no erasures (DESIGN CHOICE: R163 erases bits of one read, and R168 gives the sum's
decodes erasures in step 5 alone), on the first read's phase trims and the last read's coefficients. -/
def State.addToSum (s : State) (n : Nat) (x : Samples) : State :=
  let c := s.chan n
  let hard := hardOf (s.soft n 0 x [])
  let add (a b : Sample) : Sample := { a := a.a + b.a, b := a.b + b.b, c := a.c + b.c }
  s.updChan n (fun c' =>
    if c.comb && c.sumReads != 0 then
      { c' with sum := { c.sum with raw := (c.sum.raw.zipWith add x.raw), erasures := [], coef := x.coef }, sumReads := c.sumReads + 1,
                sumHard := c.sumHard ++ [hard] }
    else { c' with sum := { x with erasures := [] }, sumReads := 1, sumHard := [hard], park := (c.park.put 0 .sum).put 1 .sum })

/-- One decode of sector `x` (R160–R164, R173, R176): good, marked, or failed and perhaps parked. A MARKED read-ahead sector counts as failed
(DESIGN CHOICE: R173 and R178 do not say; it is not delivered). -/
def State.decodeSector (s : State) (n : Nat) (x : Samples) : State :=
  let c := s.chan n
  let d := s.decodeOf n c.weightSet c.iterLimit (c.mode == 3) x
  let v := s.verdict n x.index d
  let converged := decide (v = .good) || decide (v = .marked)
  let s := if c.mode = 2 then (s.telAdd n 22 1).telAdd n 23 (if v = .good then 0 else 1)
    else s.when (c.mode != 3) (fun s => ((s.telDecoded n x).telAdd n (if converged then 1 else 3) 1).telAdd n 2 d.iterations)
  let s := s.when (c.mode != 2 && decide (v = .badSeal)) (fun s => s.telAdd n 6 1)
  match v with
  | .good => s.goodSector n x d 0 0
  | .marked => (s.when (c.mode != 2) (fun s => s.telAdd n 7 1)).postResult n (c.resultOf x 4 0 d.iterations)
  | .badSeal => s.parkOrFail n x d true
  | .failed => s.parkOrFail n x d false

/-- SECTOR_DECODE (R160–R164, R168, R173, R176): the oldest whole sector is decoded; while 64 entries wait decodes are stopped (R177). In
ladder step 2 a read joins the sum, whose first read has no decode and posts that no attempt converged (DESIGN CHOICE: R168 decodes
after reads 2, 3 and 4, and R176 posts one result for every sector). -/
def execSectorDecode (n : Nat) (s : State) : Host.Outcome State Fault Refusal :=
  match (s.chan n).waiting with
  | [] => .next s
  | x :: rest =>
    if 64 ≤ (s.chan n).results.length ∨ !s.domainOn (69 + n) then .next s
    else
      let s := s.updChan n (fun c => { c with waiting := rest })
      let c := s.chan n
      if c.codeBad then .next (s.postResult n (c.resultOf x 8 0 0))
      else if c.mode = 3 ∧ c.step = 2 then
        let s := s.addToSum n x
        let c := s.chan n
        .next (if c.sumReads = 1 then s.postResult n (c.resultOf x 2 0 0)
          else s.decodeSector n { c.sum with number := x.number, ofs := x.ofs, timed := x.timed, locked := x.locked })
      else .next (s.decodeSector n x)

/-- The alternate alignments in their order (R165, R166): first against the sign of a late detection, else with +1; a timed alignment
takes the order of offset 0. -/
def alternates (x : Samples) : List Int :=
  if !x.timed && decide (0 < (x.ofs.setWidth 16).toInt) then [-1, 1, -2, 2, -3, 3] else [1, -1, 2, -2, 3, -3]

/-- A sector's samples at an alternate alignment (R165): its data start `a` bits later; `before` and `after` are the samples that lie before
and after its data field at the first one. -/
def Samples.shifted (x : Samples) (before after : List Sample) (a : Int) : Samples :=
  let all := before ++ x.raw ++ after
  let i (k : Nat) : Int := (before.length + k : Nat) + a
  { x with
    raw := (List.range x.raw.length).map (fun k => if i k < 0 then default else all.getD (i k).toNat default)
    erasures := x.erasures.map (fun r => (((r.1 : Int) - a).toNat, ((r.2 : Int) - a).toNat)) }

/-- The first alternate that decides the retry (R165), each decoded with the ladder's limit: good or marked, with its shift, samples and
decode, and the wrong seals met. -/
def State.retryLoop (s : State) (n : Nat) (x : Samples) (before after : List Sample) :
    List Int → Nat → Option (Int × Samples × Decode × Bool) × Nat
  | [], bad => (none, bad)
  | a :: rest, bad =>
    let y := x.shifted before after a
    let d := s.decodeOf n (s.chan n).weightSet 24 false y
    match s.verdict n x.index d with
    | .good => (some (a, y, d, true), bad)
    | .marked => (some (a, y, d, false), bad)
    | .badSeal => s.retryLoop n x before after rest (bad + 1)
    | .failed => s.retryLoop n x before after rest bad

/-- ALIGN_RETRY (R165): a parked sector is decoded at up to six alternates while the codec is idle; when all six fail it is SYNC_FAIL,
after the 24 iterations of the last. -/
def execAlignRetry (n slot : Nat) (before after : List Sample) (s : State) : Host.Outcome State Fault Refusal :=
  match (s.chan n).park.at slot, (s.chan n).waiting with
  | .held x _ _, [] =>
    if 64 ≤ (s.chan n).results.length ∨ !s.domainOn (69 + n) then .next s
    else
      let c := s.chan n
      let (r, bad) := s.retryLoop n x before after (alternates x) 0
      let s := (s.updChan n (fun c => { c with park := c.park.put slot .free })).telAdd n 6 bad
      match r with
      | some (a, y, d, true) => .next ((s.telAdd n 4 1).goodSector n y d 1 a)
      | some (a, _, d, false) => .next ((s.telAdd n 7 1).postResult n (c.resultOf x 4 a d.iterations))
      | none => .next ((s.telAdd n 5 1).postResult n (c.resultOf x 5 0 24))
  | _, _ => .next s

/-- SECTOR_OVERRUN (R177): a sector starts while both rolling slots are held; it posts OVERRUN in a reserved entry, or is counted
as lost with SDG_RESULT_OVF. -/
def execSectorOverrun (n : Nat) (s : State) : Host.Outcome State Fault Refusal :=
  let c := s.chan n
  let q := s.seq n
  if 2 ≤ c.waiting.length ∧ q.inSector ∧ q.reads ∧ !q.judged ∧ c.cur = none then
    let x : Samples := { number := q.sectorsDone, index := (s.greg n 7).toNat % 2 ^ 16 }
    let s := s.updSeq n (fun q => { q with judged := true })
    .next ((s.postResult n (c.resultOf x 7 0 0)).when (decide (72 ≤ c.results.length)) (fun s => s.raise 0x0702 n))
  else .next s

/-- RESULT_READ (R14, R176): the read removes the oldest entry and latches its second word. -/
def execResultRead (who : Who) (n : Nat) (s : State) : Host.Outcome State Fault Refusal :=
  .next (s.load who (0x4700_1050 + 0x400 * n) (fun s =>
    match (s.chan n).results with
    | r :: rest =>
      let s := (s.updChan n (fun c => { c with results := rest, taken := c.taken ++ [r] })).sdgStatus n
      let s := ((s.set (.SDG_RESULT_X_ERASED n) r.erased).setIf (.SDG_RESULT_X_TIMED n) r.timed).set (.SDG_RESULT_X_STEP n) r.step
      let s := s.set (.SDG_RESULT_X_OFS n) r.ofs.toNat
      s.answer (2 ^ 31 + r.outcome * 2 ^ 27 + (r.align % 8).toNat * 2 ^ 24 + r.iter % 32 * 2 ^ 16 + r.index % 2 ^ 16)
    | [] => s.answer 0))

/-! ### Defects and analog settings (R152, R163) -/

/-- THERMAL_ASPERITY (R163): at bit `bit` of the data field the low-frequency content of the readers' sum has departed from its baseline by
`level`, in 1/256 code, for `run` bits: beyond THR for LEN bits it is detected, and the high-pass corner switches; once it returns
within THR, the bits from PRE before the detection to POST after are erased, and the corner returns 64 bits later. -/
def execThermalAsperity (n : Nat) (returned : Bool) (bit level run : Nat) (s : State) : Host.Outcome State Fault Refusal :=
  let beyond := decide (s.get (.SDG_DEF_TA_THR n) * s.get (.SDG_FE_CFG_AGC_TGT n) < level)
  let c := s.chan n
  if !(s.seq n).rg || !s.domainOn (61 + n) then .next s
  else match returned, c.taFrom with
    | true, some f =>
      .next (if beyond then s
        else (((s.set (.SDG_FE_STATUS_TA_ACTIVE n) 0).eraseBits n (f - s.get (.SDG_DEF_TA_PRE n)) (bit + s.get (.SDG_DEF_TA_POST n))).updChan n
          (fun c => { c with taFrom := none, corner16To := some (bit + 64) })))
    | false, none =>
      .next (if beyond && decide (s.get (.SDG_DEF_TA_LEN n) ≤ run) then
          ((s.set (.SDG_FE_STATUS_TA_ACTIVE n) 1).when (c.mode != 2) (fun s => s.telAdd n 30 1)).updChan n
            (fun c => { c with taFrom := some bit, corner16 := true, corner16To := none })
        else s)
    | _, _ => .next s

/-- DROPOUT (R163): reader B's envelope stands at `level`, in 1/256 code, and has been below THR for `run` bits; the bits from PAD before
the detection to PAD after the envelope recovers are erased. -/
def execDropout (n : Nat) (recovered : Bool) (bit level run : Nat) (s : State) : Host.Outcome State Fault Refusal :=
  let below := decide (level < s.get (.SDG_DEF_DO_THR n) * s.get (.SDG_FE_CFG_AGC_TGT n))
  let c := s.chan n
  let pad := s.get (.SDG_DEF_DO_PAD n)
  if !(s.seq n).rg || !s.domainOn (61 + n) then .next s
  else match recovered, c.doFrom with
    | true, some f =>
      .next (if below then s
        else ((s.set (.SDG_FE_STATUS_DO_ACTIVE n) 0).eraseBits n (f - pad) (bit + pad)).updChan n (fun c => { c with doFrom := none }))
    | false, none =>
      .next (if below && decide (s.get (.SDG_DEF_DO_LEN n) ≤ run) then
          ((s.set (.SDG_FE_STATUS_DO_ACTIVE n) 1).when (c.mode != 2) (fun s => s.telAdd n 31 1)).updChan n
            (fun c => { c with doFrom := some bit })
        else s)
    | _, _ => .next s

/-- Stream n's channel bit rate in Hz: CBPC bits each cell period. -/
def State.bitRate (s : State) (n : Nat) : Nat :=
  s.get (.TIDE_ST_CBPC_CBPC n) * 10 ^ 9 / (2 ^ 8 * max 1 (s.get .TIDE_CELL_PERIOD_PERIOD))

/-- Once per revolution Sedge rescales the analog settings of every stream (R152). -/
def State.rescale (s : State) : State :=
  s.forN 8 (fun n s => s.updChan n (fun c => { c with
    cutoff := s.bitRate n * (20 + 2 * s.get (.SDG_FE_CFG_CTF_FC n)) / 100
    corner := Config.corner (s.get (.SDG_FE_CFG_HPF n)) (s.bitRate n) }))

/-! ### Telemetry and coefficients -/

/-- Every stream's counters are copied to the snapshot (R178). -/
def State.telSnap (s : State) : State :=
  s.forN 8 (fun n s => s.forN 32 (fun i s => s.set (.SDG_TEL_COUNT n i) ((s.chan n).tel.at i)))

/-- Every stream's counters are zeroed (R178). -/
def State.telClear (s : State) : State := s.forN 8 (fun n s => s.updChan n (fun c => { c with tel := [], checkedBits := 0 }))

/-- TEL_SNAP (R178); where the same write also has TEL_CLEAR, the clear follows the snapshot. -/
def execTelSnap (clear : Bool) (s : State) : Host.Outcome State Fault Refusal :=
  .next (s.access 0x4700_0000 (fun s => s.telSnap.when clear State.telClear))

/-- TEL_CLEAR (R178). -/
def execTelClear (s : State) : Host.Outcome State Fault Refusal := .next (s.access 0x4700_0000 State.telClear)

/-- A coefficient address is an entry (R180). -/
def coefEntry (a : Nat) : Bool := decide (a < 0x168) || (decide (0x180 ≤ a) && decide (a < 0x1A0))

/-- COEF_WRITE (R157, R180): the entry at ADDR is written to the shadow; ADDR counts on. -/
def execCoefWrite (n : Nat) (data : Word) (s : State) : Host.Outcome State Fault Refusal :=
  .next (s.access (0x4700_102C + 0x400 * n) (fun s =>
    let a := s.get (.SDG_COEF_ADDR_ADDR n)
    let v := BitVec.ofNat 26 (if a < 0x168 then data.toNat % 2 ^ 10 else data.toNat)
    let s := s.when (coefEntry a) (fun s =>
      s.updChan n (fun c => { c with coefFw := c.coefFw.filter (fun e => e.1 ≠ a) ++ [(a, v)] }))
    s.inc (.SDG_COEF_ADDR_ADDR n)))

/-- COEF_READ (R14, R180): the entry at ADDR as last written, 0 at a reserved address; ADDR counts on. -/
def execCoefRead (who : Who) (n : Nat) (s : State) : Host.Outcome State Fault Refusal :=
  .next (s.load who (0x4700_102C + 0x400 * n) (fun s =>
    let a := s.get (.SDG_COEF_ADDR_ADDR n)
    let c := s.chan n
    let v := match c.coefFw.find? (fun e => e.1 = a), c.coefAdapt.reverse.find? (fun e => e.1 = a) with
      | some e, _ => e.2
      | none, some e => e.2
      | none, none => c.coef.at a
    (s.inc (.SDG_COEF_ADDR_ADDR n)).answer (if coefEntry a then v.toNat else 0)))

end Sys2Proof.Machine
end

