-- ==== Sys2Proof/Machine/WritePath.lean ====
section
/-! DEFINITION. The write path (08): launch advance, precompensation, the verify checker's outcomes and shock. Gates and their
drops are in Stream.lean and Formatter.lean. -/

namespace Sys2Proof.Machine

/-- ADV in 1/1,024 bit at a cell period in 2^-16 ns (R184): the bit rate is CBPC channel bits each cell. -/
def State.advanceBits (s : State) (n period : Nat) : Nat :=
  (s.chan n).adv * s.get (.TIDE_ST_CBPC_CBPC n) / (2 ^ 8 * period)

/-- Sedge converts every stream's advance at a tick, at the MANG rate then, which the tick's cell period gives (R184). -/
def State.convertAdvance (s : State) (period : Nat) : State :=
  let p := if period = 0 then s.get .TIDE_CELL_PERIOD_PERIOD else period
  s.forN 8 (fun n s => s.updChan n (fun c => { c with advBits := s.advanceBits n p }))

/-! ### The verify checker (R196–R199) -/

/-- V's decisions of a fragment (R151, R152, R155, R196): its input under the checker's own gain code as 7-bit codes, after V's delays, through
the 12-tap equalizer, against a threshold of 0 (DESIGN CHOICE: R196 names neither the equalizer's centre nor the threshold). -/
def State.vfyDecisions (s : State) (n gain : Nat) (input : List Int) : List Bool :=
  let codes := input.map (fun v => clampTo 7 ((v * (gainOf gain : Int)).fdiv (2 ^ 24)))
  let whole : Int := s.get (.SDG_RDR_SKEW_INT n 3)
  let frac := s.getS (.SDG_RDR_SKEW_FRAC n 3)
  let late := (List.range codes.length).map (fun (k : Nat) =>
    if frac = 0 then at0 codes ((k : Int) - whole) else Config.interpolate frac (sixteen codes ((k : Int) - whole)))
  let taps := Config.vfyTaps [s.get (.SDG_EQ_CFG_TSCALE n), s.getS (.SDG_TGT_G1 n), s.getS (.SDG_TGT_G2 n), s.getS (.SDG_TGT_G3 n)]
  (List.range late.length).map (fun (k : Nat) =>
    decide (0 < (List.range 12).foldl (fun (acc : Int) (t : Nat) => acc + at0 taps t * at0 late ((k : Int) - t + 5)) 0))

/-- V's decisions of each fragment, under the gain that the preamble of the first gives and the checker holds (R196). -/
def State.vfySeen (s : State) (n : Nat) (c : Check) : List (List Bool) :=
  c.input.map (s.vfyDecisions n (agcCode c.preamble (s.get (.SDG_FE_CFG_AGC_TGT n))))

/-- The mismatches of V's decisions against written bits, at a delay. -/
def vfyMisses (v written : List Bool) (delay : Int) : Nat :=
  (List.range written.length).countP (fun (k : Nat) =>
    let i : Int := (k : Int) + delay
    decide (written[k]? ≠ (if i < 0 then none else v[i.toNat]?)))

/-- The delay that the checker holds for a fragment (R196): of DLY − 4 to DLY + 4, the one with the fewest mismatches in the first 64
bits, the lowest where several have them (DESIGN CHOICE); with those mismatches. -/
def vfyLock (dly : Nat) (v written : List Bool) : Int × Nat :=
  (List.range 8).foldl (fun best i =>
    let d : Int := (dly : Int) - 3 + i
    let m := vfyMisses v (written.take 64) d
    if m < best.2 then (d, m) else best) ((dly : Int) - 4, vfyMisses v (written.take 64) ((dly : Int) - 4))

/-- The mismatches over every bit written for a sector, each fragment at its delay (R197). -/
def vfyErrors (dly : Nat) (seen : List (List Bool)) (e : VfyEntry) : Nat :=
  (e.frags.zipIdx).foldl (fun k f => k + vfyMisses (seen.getD f.2 []) f.1 (vfyLock dly (seen.getD f.2 []) f.1).1) 0

/-- The outcome of a sector under the checker, the first that applies (R197). -/
def State.checkOutcome (s : State) (n : Nat) (c : Check) (e : VfyEntry) : Nat :=
  let dly := s.get (.SDG_VFY_CFG_DLY n)
  let seen := s.vfySeen n c
  if e.cut then 4
  else if (e.frags.zipIdx).any (fun f => decide (8 < (vfyLock dly (seen.getD f.2 []) f.1).2)) then 3
  else if c.amplitude * 16 < s.get (.SDG_VFY_CFG_AMP_MIN n) * s.get (.SDG_VFY_CFG_VAMP_CAL n) then 2
  else if s.get (.SDG_VFY_CFG_ERR_THR n) * 4 < vfyErrors dly seen e then 1
  else 0

/-- An outcome posted to the oldest entry that has none, once its sector's writing is over (R199: in the order the sectors were
written). -/
def postVfy (f : VfyEntry → VfyEntry) : List VfyEntry → List VfyEntry
  | [] => []
  | e :: es => if e.posted then e :: postVfy f es else (if e.ended then f e else e) :: es

/-- VERIFY_OUTCOME (R196–R199): what the verify reader saw of the oldest sector without an outcome. -/
def execVerifyOutcome (n : Nat) (c : Check) (s : State) : Host.Outcome State Fault Refusal :=
  .next (s.when (s.domainOn (77 + n)) (fun s => s.updChan n (fun ch => { ch with vfy := postVfy (fun e =>
    { e with posted := true, outcome := s.checkOutcome n c e, errs := min 4095 (vfyErrors (s.get (.SDG_VFY_CFG_DLY n)) (s.vfySeen n c) e), frags := [] }) ch.vfy })))

/-- VFY_RESULT_READ (R14, R198): the read removes the oldest posted entry. -/
def execVfyResultRead (who : Who) (n : Nat) (s : State) : Host.Outcome State Fault Refusal :=
  .next (s.load who (0x4700_1070 + 0x400 * n) (fun s =>
    match (s.chan n).vfy with
    | e :: rest =>
      if e.posted then
        (s.updChan n (fun c => { c with vfy := rest, vfyTaken := c.vfyTaken ++ [e] })).answer (2 ^ 31 + e.outcome * 2 ^ 28 + e.errs % 2 ^ 12 * 2 ^ 16 + e.index % 2 ^ 16)
      else s.answer 0
    | [] => s.answer 0))

/-- The four vibration samples of a tick against the threshold (R193): shock asserts on all streams and SDG_SHOCK is recorded for
each input beyond it, in ascending order; a quiet tick counts towards HOLD. A sample is in 1/32,768 of full scale. -/
def State.shockTick (s : State) (vib : List Int) : State :=
  if !s.is .SDG_SHOCK_CFG_EN then s
  else
    let thr := s.get .SDG_SHOCK_CFG_THR
    let beyond (i : Nat) : Bool := decide (thr * 128 < (vib.getD i 0).natAbs)
    if (List.range 4).any beyond then
      let s := ({ s with shockQuiet := 0 }).set .SDG_WF_STATUS_SHOCK_ACTIVE 1
      let s := s.forN 8 (fun n s => s.inhibitDrop n 3)
      s.forN 4 (fun i s => s.when (beyond i) (fun s => s.raise 0x0703 i))
    else { s with shockQuiet := s.shockQuiet + 1 }

/-- SHOCK_LIFT (R193): after HOLD consecutive quiet ticks. -/
def execShockLift (s : State) : Host.Outcome State Fault Refusal :=
  .next (s.when (s.is .SDG_WF_STATUS_SHOCK_ACTIVE && decide (max 1 (s.get .SDG_SHOCK_CFG_HOLD) ≤ s.shockQuiet))
    (fun s => s.set .SDG_WF_STATUS_SHOCK_ACTIVE 0))

end Sys2Proof.Machine
end

