-- ==== Sys2Proof/Machine/Levee.lean ====
section
/-! DEFINITION. Fault collection (18): the rows of Levee that are not a reset. The record itself is in Faults.lean. -/

namespace Sys2Proof.Machine

/-- A store to a Levee register that only Mire writes (R417): a Fen core's is ignored and sets WR_DENY. -/
def State.mireOnly (s : State) (who : Who) (f : State → State) : State :=
  match who with
  | .mire => f s.ack
  | .fen _ => s.ack.set .LEV_STATUS_WR_DENY 1

/-- The sources whose history entry has a DETAIL (R422); of every other it is 0. -/
def detailed (source : Nat) : Bool :=
  source ∈ [0x0201, 0x0601, 0x0901, 0x0902, 0x0903, 0x0904, 0x0905, 0x0C01, 0x0C02, 0x0C03]

/-- FAULT_RECORD (R413, R414, R422): the line of instance `inst` asserts, with the source's DETAIL. -/
def execFaultRecord (source inst detail : Nat) (s : State) : Host.Outcome State Fault Refusal :=
  match sourceRow source with
  | some x => .next (s.when (decide (inst < x.instances)) (fun s => s.raise source inst (if detailed source then detail else 0)))
  | none => .next s

/-- REACT of source `c` keeps no BLOCK_RESET unless its subsystem can be block reset (R415): Reed, Sedge, Carr, Lode. -/
def State.trimReact (s : State) (c : Nat) : State :=
  let k := c / 256 % 32
  s.when (!(k == 6 || k == 7 || k == 11 || k == 12)) (fun s => s.set (.LEV_SRC_REACT c) (s.get (.LEV_SRC_REACT c) &&& 0x1B))

/-- A heartbeat of Mire (R419, R420): it arms the watchdog, ends the hold of ERROR_N and lets ALIVE run. -/
def State.heartbeat (s : State) : State :=
  ({ s with lev := { s.lev with beatSeen := true, wdogFired := false, errorHeld := false } }.set .LEV_STATUS_WDOG_ARMED 1).levStatus

/-- LEV_HEARTBEAT (R420). -/
def execLevHeartbeat (who : Who) (s : State) : Host.Outcome State Fault Refusal :=
  .next (s.mireOnly who State.heartbeat)

/-- LEV_MIRE_WDOG (R420): the armed watchdog fires; it is disarmed while a warm reset is in progress. -/
def execLevMireWdog (s : State) : Host.Outcome State Fault Refusal :=
  .next (s.when (s.is .LEV_STATUS_WDOG_ARMED && s.lev.resetReq.isNone) (fun s =>
    ({ s with lev := { s.lev with wdogFired := true } }.levStatus).raise 0x0E01))

/-- The latch of a line is cleared (R418). -/
def State.unlatch (s : State) (line : Nat) : State :=
  let w := s.get (.LEV_LATCH_LINE (line / 32))
  { s with lev := { s.lev with latches := s.lev.latches.put line none } }.set (.LEV_LATCH_LINE (line / 32))
    (w - w / 2 ^ (line % 32) % 2 * 2 ^ (line % 32))

/-- The class C and U latches of lines `first` to `first + k - 1` are cleared; class F ones stay (R418). -/
def State.clearLines (s : State) (first k : Nat) : State :=
  (s.forN k (fun i s => match s.lev.latches.at (first + i) with
    | some l => s.when (l.cls != 2) (fun s => s.unlatch (first + i))
    | none => s)).levStatus

/-- A write to LEV_CLR (R418): all, a source's every instance (0xFF), or one. -/
def State.levClear (s : State) (all : Bool) (source inst : Nat) : State :=
  if all then s.clearLines 0 197
  else match sourceRow source with
    | some x =>
      if inst = 0xFF then s.clearLines x.firstLine x.instances
      else if inst < x.instances then s.clearLines (x.firstLine + inst) 1
      else s
    | none => s

/-- LEV_CLR (R417, R418). -/
def execLevClr (who : Who) (all : Bool) (source inst : Nat) (s : State) : Host.Outcome State Fault Refusal :=
  .next (s.mireOnly who (fun s => s.levClear all source inst))

/-- A write to LEV_INJ (R425): outside factory test mode, or for a line that does not exist, WR_DENY; COUNT 0 stops an injection;
else the first assertion follows at once and the rest remain. -/
def State.levInject (s : State) (source inst count : Nat) : State :=
  let deny := s.set .LEV_STATUS_WR_DENY 1
  if !s.is .LEV_STATUS_FACTORY then deny
  else match sourceRow source with
    | some x =>
      if x.instances ≤ inst then deny
      else if count = 0 then { s with lev := { s.lev with injecting := none } }
      else
        let s := { s with lev := { s.lev with injecting := if count = 1 then none else some (source, inst, count - 1) } }
        (s.recordLine source inst 0 true).relieve
    | none => deny

/-- LEV_INJ (R425). -/
def execLevInj (who : Who) (source inst count : Nat) (s : State) : Host.Outcome State Fault Refusal :=
  .next (s.mireOnly who (fun s => s.levInject source inst count))

/-- INJECT_ASSERT (R425): the next assertion of an injection that still counts. -/
def execInjectAssert (s : State) : Host.Outcome State Fault Refusal :=
  match s.lev.injecting with
  | some (source, inst, k) =>
    let s := { s with lev := { s.lev with injecting := if k ≤ 1 then none else some (source, inst, k - 1) } }
    .next (s.recordLine source inst 0 true).relieve
  | none => .next s

/-- LEV_RESET_WARM (R417, R423): Mire's write requests a warm reset with cause 2. -/
def execLevResetWarm (who : Who) (s : State) : Host.Outcome State Fault Refusal :=
  .next (s.mireOnly who (fun s => s.requestReset 2 0 0))

/-- ALIVE_TOGGLE (R420): the pin toggles while ALIVE runs. -/
def execAliveToggle (s : State) : Host.Outcome State Fault Refusal :=
  .next (s.when (s.is .LEV_STATUS_ALIVE_RUN) (fun s => { s with lev := { s.lev with alive := !s.lev.alive } }))

end Sys2Proof.Machine
end

