-- ==== Sys2Proof/Machine/Weir.lean ====
section
/-! DEFINITION. Supply monitors, the provisional window and the chopper (17). Voltages in millivolts and currents in units of
10 mA are the operands of the events; the power-on and power-fail sequences are in Power.lean. -/

namespace Sys2Proof.Machine

/-- A Weir fault is recorded in WEIR_FAULT and by Levee (R409): bit k is source 0x0D01 + k. -/
def State.weirFault (s : State) (k : Nat) : State :=
  (s.set .WEIR_FAULT_SRC (s.get .WEIR_FAULT_SRC ||| 2 ^ k)).raise (0x0D01 + k)

/-- V12_IN is measured (R411): WEIR_MIN_V12 keeps the lowest value since its last read. -/
def State.measureV12 (s : State) (mv : Nat) : State :=
  let s := { s with weir := { s.weir with low := min s.weir.low mv } }
  (s.set .WEIR_MEAS_V12_MV mv).set .WEIR_MIN_V12_MV (min (s.get .WEIR_MIN_V12_MV) mv)

/-- WARN_ARM (R396): the warning after 2 ms at or above 11.10 V, the commit after 2 ms at or above 10.50 V once power-on reset is
released. -/
def execWarnArm (commit : Bool) (s : State) : Host.Outcome State Fault Refusal :=
  if commit then .next (s.when s.weir.powered (fun s => s.set .WEIR_STATUS_COMMIT_ARMED 1))
  else .next (s.set .WEIR_STATUS_WARN_ARMED 1)

/-- What the warning does in its cycle (R398): the window opens, Staithe holds write admission (R307), a scrub in progress stops
(R389) and Mire is interrupted. -/
def State.openWindow (s : State) : State :=
  let s := { s with weir := { s.weir with low := s.get .WEIR_MEAS_V12_MV } }
  let s := (s.set .WEIR_STATUS_PF 1).set .WEIR_STATUS_PF_MS 0
  let s := (s.set .WEIR_STATUS_WARN_ARMED 0).set .STH_STATUS_PF_HOLD 1
  let s := s.when (s.is .SLU_SCRB_STATUS_BUSY) (fun s =>
    (s.set .SLU_SCRB_STATUS_BUSY 0).set .SLU_SCRB_STATUS_STOPPED 1)
  let s := s.when s.warmBusy (fun s => s.set .WEIR_AON_STATUS_WARM_PF 1)
  s.irqMire .warning

/-- POWER_FAIL_WARNING (R398): the armed warning fires. -/
def execPowerFailWarning (mv : Nat) (s : State) : Host.Outcome State Fault Refusal :=
  let s := s.measureV12 mv
  .next (s.when (s.is .WEIR_STATUS_WARN_ARMED && s.get .WEIR_STATUS_PF == 0) State.openWindow)

/-- PF_CANCEL (R399): the window is cancelled; a window latched during a warm reset only once Mire runs. Aqsia, where it runs,
records the window in Peat's power stream, with what WEIR_MIN_V12 shows. -/
def execPfCancel (mv : Nat) (s : State) : Host.Outcome State Fault Refusal :=
  let s := s.measureV12 mv
  if s.get .WEIR_STATUS_PF = 1 ∧ (!s.is .WEIR_AON_STATUS_WARM_PF ∨ s.mireRuns) then
    let low := s.get .WEIR_MIN_V12_MV
    let ms := s.get .WEIR_STATUS_PF_MS
    let s := (s.set .WEIR_STATUS_PF 0).set .STH_STATUS_PF_HOLD 0
    let s := (s.set .WEIR_STATUS_WARN_ARMED 1).set .WEIR_AON_STATUS_WARM_PF 0
    let s := (s.incSat .WEIR_AON_CNT_DIPS).set .WEIR_AON_STATUS_LAST_MIN s.weir.low
    let s := { s.weirFault 0 with aq := { (s.weirFault 0).aq with dip := true } }
    .next (s.when s.mireActs (fun s => s.peatRecord 2 0x0201 (leBytes 2 low ++ leBytes 2 0 ++ leBytes 4 ms)))
  else .next s

/-- ISO_DIODE_OFF (R405): in ideal-diode mode the FETs turn off below VHB − 20 mV and on again above VHB. -/
def execIsoDiodeOff (v12 vhb : Nat) (s : State) : Host.Outcome State Fault Refusal :=
  let s := (s.measureV12 v12).set .WEIR_MEAS_VHB_MV vhb
  .next (s.when (decide (s.weir.iso = .diode)) (fun s =>
    if v12 + 20 < vhb then s.set .WEIR_STATUS_ISO_OFF 1
    else if vhb < v12 then s.set .WEIR_STATUS_ISO_OFF 0
    else s))

/-- CHOP_ON (R406): on at 13.60 V, off at 13.30 V; ON_CNT counts on periods. -/
def execChopOn (vhb : Nat) (s : State) : Host.Outcome State Fault Refusal :=
  let s := s.set .WEIR_MEAS_VHB_MV vhb
  .next (
    if 13600 ≤ vhb ∧ !s.is .WEIR_STATUS_CHOP_ON then (s.set .WEIR_STATUS_CHOP_ON 1).incSat .WEIR_CHOP_ON_CNT
    else if vhb ≤ 13300 then s.set .WEIR_STATUS_CHOP_ON 0
    else s)

/-- CHOP_TEST (R406): below 10.50 V the test waits; else it runs, and 0.5 A clears CHOP_FAULT where less sets it. -/
def execChopTest (vhb current : Nat) (s : State) : Host.Outcome State Fault Refusal :=
  let s := s.set .WEIR_MEAS_VHB_MV vhb
  if vhb < 10500 then .next { s with weir := { s.weir with testPending := true } }
  else
    let s := { s with weir := { s.weir with testPending := false } }
    let s := (s.set .WEIR_STATUS_CHOP_TESTED 1).incSat .WEIR_CHOP_ON_CNT
    let s := s.set .WEIR_CHOP_IPK (max (s.get .WEIR_CHOP_IPK) (min current 0xFFFF))
    if 50 ≤ current then .next (s.set .WEIR_STATUS_CHOP_FAULT 0)
    else .next ((s.set .WEIR_STATUS_CHOP_FAULT 1).weirFault 4)

/-- WEIR_CHOP_OPEN (R406): commanded on without current. -/
def execWeirChopOpen (s : State) : Host.Outcome State Fault Refusal :=
  .next (s.when (s.is .WEIR_STATUS_CHOP_ON) (fun s => (s.set .WEIR_STATUS_CHOP_FAULT 1).weirFault 4))

/-- WEIR_CHOP_SHORT (R406): current while commanded off. -/
def execWeirChopShort (current : Nat) (s : State) : Host.Outcome State Fault Refusal :=
  .next (s.when (!s.is .WEIR_STATUS_CHOP_ON) (fun s =>
    (s.set .WEIR_CHOP_IPK (max (s.get .WEIR_CHOP_IPK) (min current 0xFFFF))).weirFault 5))

/-- WEIR_OV_BUS (R407): an overvoltage on VHB with the chopper healthy; the chopper stays on. -/
def execWeirOvBus (vhb : Nat) (s : State) : Host.Outcome State Fault Refusal :=
  let s := s.set .WEIR_MEAS_VHB_MV vhb
  .next (s.when (!s.is .WEIR_STATUS_CHOP_FAULT) (fun s =>
    (s.when (!s.is .WEIR_STATUS_CHOP_ON) (fun s => (s.set .WEIR_STATUS_CHOP_ON 1).incSat .WEIR_CHOP_ON_CNT)).weirFault 3))

/-- WEIR_V5_LOW (R395). -/
def execWeirV5Low (mv : Nat) (s : State) : Host.Outcome State Fault Refusal :=
  .next ((s.set .WEIR_MEAS_V5_MV mv).weirFault 8)

/-- WEIR_MIN_V12_READ (R411): the read answers the lowest V12_IN since the last read and starts over at 0xFFFF. -/
def execWeirMinV12Read (_who : Who) (s : State) : Host.Outcome State Fault Refusal :=
  .next ((s.answer (s.get .WEIR_MIN_V12_MV)).set .WEIR_MIN_V12_MV 0xFFFF)

end Sys2Proof.Machine
end

