-- ==== Sys2Proof/Machine/Recorder.lean ====
section
/-! DEFINITION. The event recorder (20): what a flush writes to the areas in NOR, stamps, freezes, the window, and the rows of
Peat. Staging a record is in Faults.lean. -/

namespace Sys2Proof.Machine

/-- A record's bytes: the header of R456, the body and its pad. -/
def PeatRecord.bytes (r : PeatRecord) : List Byte :=
  leBytes 2 (16 + r.body.length) ++ leBytes 2 r.type_ ++ leBytes 1 (r.stream + r.gap.toNat * 8 + r.early.toNat * 16) ++
    leBytes 5 r.opt ++ leBytes 4 r.pcc ++ leBytes 2 r.rseq ++ r.body ++ List.replicate (r.size - 16 - r.body.length) 0

/-- The blocks of an area (R458). -/
def areaBlocks : Nat → Nat
  | 0 => 8 | 1 => 464 | 2 => 16 | 3 => 256 | 4 => 8 | 5 => 64 | 6 => 8 | 7 => 32 | 8 => 16 | _ => 120

/-- MR0–MR9 in a boot record's body (R443, R459). -/
def bootMrs (r : PeatRecord) : List Byte := (r.body.drop 64).take 480

/-- The bytes a record takes in NOR: a boot record 196 when the measurement table holds its set (R459). -/
def storedSize (sets : List (List Byte)) (r : PeatRecord) : Nat :=
  if r.type_ = 0x0001 ∧ bootMrs r ∈ sets then 196 else r.size

/-- A circulating area moves on into its next block and erases the block after it (R460), unless no erase may start. -/
def Area.advance (x : Area) (a : Nat) (erase : Bool) : Area :=
  let keep (r : Nat × PeatRecord) : Bool := a % 2 = 0 || !erase || decide (x.newest + 3 ≤ r.1 + areaBlocks a)
  { x with newest := x.newest + 1, fill := 0, records := x.records.filter keep }

/-- A record of `size` stored bytes written to area `a`, whole in one block (R458): none where a permanent area has no room for it
and its chain record, or a circulating area no erased block (R460). -/
def Area.write (x : Area) (a : Nat) (erase : Bool) (size : Nat) (r : PeatRecord) : Option Area :=
  let put (y : Area) : Area := { y with records := y.records ++ [(y.newest, r)], fill := y.fill + size }
  let last := a % 2 == 0 && areaBlocks a ≤ x.newest + 1
  if x.fill + size + (if last && r.type_ != 0x00FF then 64 else 0) ≤ 65472 then some (put x)
  else if last then none
  else if a % 2 = 1 ∧ x.records.any (fun e => decide (e.1 + areaBlocks a ≤ x.newest + 1)) then none
  else some (put (x.advance a erase))

/-- The readable content of area `a` (R464): all of a permanent area; of a circulating area what follows from its first chain
record, or from the clear record that begins it (R469). -/
def Area.readable (x : Area) (a : Nat) : List PeatRecord :=
  let l := x.records.map (·.2)
  if a % 2 = 0 ∨ (l.head?.map (·.type_)) = some 0x00FE then l else l.dropWhile (fun r => r.type_ != 0x00FF)

/-- The content in served form. -/
def Area.served (x : Area) (a : Nat) : List Byte := (x.readable a).flatMap PeatRecord.bytes

/-- PEAT_AREA_REC and PEAT_AREA_BYTES follow the content (R473). -/
def State.areaStatus (s : State) (a : Nat) : State :=
  let x := s.peat.areas.at a
  (s.set (.PEAT_AREA_REC_COUNT a) (x.readable a).length).set (.PEAT_AREA_BYTES_BYTES a) (x.served a).length

/-- The 16 bytes of the UID (R429). -/
def State.uidBytes (s : State) : List Byte := (List.range 4).flatMap (fun k => leBytes 4 (s.dyke.uid.at k).toNat)

/-- The chain value of area `a`: it starts from the UID and the area number (R463). -/
def State.chainOf (s : State) (a : Nat) : List Byte :=
  let x := s.peat.areas.at a
  if x.chained then x.chain else sha384Bytes ([0x50, 0x45, 0x41, 0x54] ++ s.uidBytes ++ [BitVec.ofNat 8 a])

/-- The chain record that covers what area `a` has received since the last one (R463); none where it finds no room. -/
def State.chainRecord (s : State) (a : Nat) : Option State :=
  let x := s.peat.areas.at a
  match x.since.getLast? with
  | none => some s
  | some l =>
    let v := sha384Bytes (s.chainOf a ++ x.since.flatMap PeatRecord.bytes)
    let r : PeatRecord :=
      { stream := a / 2, type_ := 0x00FF, body := v, opt := s.opt, pcc := s.get .PEAT_PCC_COUNT, rseq := l.rseq, stamped := true }
    (x.write a (!s.committed) 64 r).map (fun y =>
      { s with peat := { s.peat with areas := s.peat.areas.put a { y with since := [], chained := true, chain := v } } })

/-- A staged record still has to reach area `a`. -/
def Staged.wants (x : Staged) (a : Nat) : Bool :=
  (x.toPerm && permArea x.rec_.stream == a) || (x.toCirc && circArea x.rec_.stream == a)

/-- The staged record has reached area `a`. -/
def Staged.reached (x : Staged) (a : Nat) : Staged :=
  if a % 2 = 0 then { x with toPerm := false } else { x with toCirc := false }

/-- One record of the flush reaches area `a`: a set new to the measurement table enters it while it has room (R459); a permanent
area without room is full from here on (R458). -/
def State.flushOne (s : State) (a i : Nat) : State :=
  match s.peat.staged[i]? with
  | none => s
  | some y =>
    if y.inFlush && y.wants a then
      let r := y.rec_
      let sets := s.peat.mrSets
      let sets := if r.type_ = 0x0001 ∧ bootMrs r ∉ sets ∧ sets.length < 4352 then sets ++ [bootMrs r] else sets
      let s := { s with peat := { s.peat with mrSets := sets } }.set .PEAT_MRSETS_COUNT sets.length
      let x := s.peat.areas.at a
      match if x.full then none else x.write a (!s.committed) (storedSize sets r) r with
      | some z =>
        { s with peat := { s.peat with
            areas := s.peat.areas.put a { z with since := z.since ++ [r] }, staged := s.peat.staged.set i (y.reached a) } }
      | none =>
        if a % 2 = 0 then
          { s with peat := { s.peat with
              areas := s.peat.areas.put a { x with full := true }, staged := s.peat.staged.set i (y.reached a) } }
        else s
    else s

/-- The flush's records for area `a` with their chain record (R461); without room for that one, none of them is covered and all stay
staged. -/
def State.flushArea (s : State) (a : Nat) : State :=
  (((s.forN s.peat.staged.length (fun i s => s.flushOne a i)).chainRecord a).getD s).areaStatus a

/-- An area is frozen (R467, R468): where a flush writes into it, only once that flush ends. -/
def State.freeze (s : State) (a : Nat) : State :=
  if s.is .PEAT_STATUS_FLUSHING ∧ s.peat.staged.any (fun x => x.inFlush && x.wants a) then
    if a ∈ s.peat.freezeWait then s else { s with peat := { s.peat with freezeWait := s.peat.freezeWait ++ [a] } }
  else (s.set .PEAT_FRZ_AREA (s.get .PEAT_FRZ_AREA ||| 2 ^ a)).peatStatus

/-- Aqsia saves the operating time and the power-cycle count in the counter area, under the next sequence number (R437). -/
def State.saveCounters (s : State) (opt pcc : Nat) : State :=
  { s with peat := { s.peat with savedOpt := opt, savedPcc := pcc, saves := (s.peat.saves + 1) % 2 ^ 32 } }

/-- PEAT_PCC is written and its lock committed; the count is saved (R465). -/
def State.lockPcc (s : State) (count : Nat) : State :=
  let s := s.saveCounters s.peat.savedOpt count
  { s with peat := { s.peat with pccLocked := true } }.set .PEAT_PCC_COUNT count

/-- A flush ends (R461): the records that have reached their areas leave staging, Aqsia saves the operating time (R51), freezes
that waited take effect, and a trigger that came meanwhile, or the commit, starts the next flush. -/
def State.endFlush (s : State) : State :=
  let s := s.forN 10 (fun a s => s.flushArea a)
  let left := (s.peat.staged.filter (fun x => x.toPerm || x.toCirc)).map (fun x => { x with inFlush := false })
  let waiting := s.peat.freezeWait
  let s := ({ s with peat := { s.peat with staged := left, freezeWait := [] } }).saveCounters (max s.peat.savedOpt s.opt) s.peat.savedPcc
  let s := (s.set .PEAT_STATUS_FLUSHING 0).peatStatus
  let s := waiting.foldl (fun s a => s.freeze a) s
  s.when (s.peat.again || (s.committed && s.peat.staged.any (fun x => x.rec_.stamped && !s.heldBack x))) State.startFlush

/-- Staged records are stamped once both locks are committed (R465). -/
def State.stampStaged (s : State) : State :=
  if s.stampReady then
    let stamp (x : Staged) : Staged :=
      if x.rec_.stamped then x
      else { x with rec_ := { x.rec_ with stamped := true, early := true, opt := s.opt, pcc := s.get .PEAT_PCC_COUNT } }
    let s := { s with peat := { s.peat with staged := s.peat.staged.map stamp } }.peatStatus
    s.when (decide (16384 < stagedBytes s.peat.staged - s.heldBytes)) State.startFlush
  else s

/-- A circulating area is cleared (R469): its freeze ends, and it starts at a clear record that continues the chain. -/
def State.clearArea (s : State) (a : Nat) (signed : List Byte) : State :=
  let s := s.unfreeze a
  let x := s.peat.areas.at a
  let k := a / 2
  let r : PeatRecord :=
    { stream := k, type_ := 0x00FE, opt := s.opt, pcc := s.get .PEAT_PCC_COUNT, rseq := s.get (.PEAT_RSEQ_NEXT k),
      gap := s.peat.gap.at k, stamped := true,
      body := leBytes 4 (x.readable a).length ++ leBytes 4 0 ++ s.chainOf a ++ sha384Bytes signed }
  let y := (x.write a (!s.committed) r.size r).getD x
  let y := { y with records := [(y.newest, r)], since := y.since ++ [r] }
  let s := { s with peat := { s.peat with areas := s.peat.areas.put a y, gap := s.peat.gap.put k false } }
  let s := s.inc (.PEAT_RSEQ_NEXT k)
  ((s.chainRecord a).getD s).areaStatus a

/-- RECORD_STAGE (R461, R462, R465). -/
def execRecordStage (stream type_ : Nat) (body : List Byte) (s : State) : Host.Outcome State Fault Refusal :=
  .next (s.peatRecord stream type_ body)

/-- PEAT_FLUSH_TIMER (R461). -/
def execPeatFlushTimer (s : State) : Host.Outcome State Fault Refusal := .next s.startFlush

/-- FLUSH (R461, R472): Mire writes PEAT_CTRL.FLUSH. -/
def execPeatFlush (s : State) : Host.Outcome State Fault Refusal := .next s.ack.startFlush

/-- PEAT_FLUSH_DONE (R461): the running flush ends, written through the xSPI port, whose clock runs (R32). -/
def execPeatFlushDone (s : State) : Host.Outcome State Fault Refusal :=
  .next (s.when (s.is .PEAT_STATUS_FLUSHING && s.domainOn 94) State.endFlush)

/-- The newest block of area `a` is abandoned, and its records are written again in the next one; the last block of a permanent area has
none, and the area is full without them (R471). -/
def Area.abandon (x : Area) (a : Nat) (erase : Bool) : Area :=
  if a % 2 = 0 ∧ areaBlocks a ≤ x.newest + 1 then { x with full := true, records := x.records.filter (fun e => e.1 ≠ x.newest) }
  else
    let y := x.advance a erase
    { y with fill := x.fill, records := y.records.map (fun e => if e.1 = x.newest then (x.newest + 1, e.2) else e) }

/-- PEAT_NOR_FAIL (R471): the newest block of the area is abandoned. -/
def execPeatNorFail (area : Nat) (s : State) : Host.Outcome State Fault Refusal :=
  let x := s.peat.areas.at area
  let y := x.abandon area (!s.committed)
  let s := { s with peat := { s.peat with areas := s.peat.areas.put area y, badBlocks := s.peat.badBlocks ++ [(area, x.newest)] } }
  .next (((s.areaStatus area).set .PEAT_STATUS_NOR_ERR 1).raise 0x1001)

/-- PEAT_PCC (R465): the first write after power-on reset commits the lock; the new count is saved in NOR. -/
def execPeatPcc (count : Nat) (s : State) : Host.Outcome State Fault Refusal :=
  let s := s.ack
  .next (s.when (!s.peat.pccLocked) (fun s =>
    (s.lockPcc (count % 2 ^ 32)).stampStaged))

/-- PEAT_CUR is written (R466): bits 1:0 of the offset are 0. -/
def State.peatCur (s : State) (offset : Nat) : State :=
  let a := s.get .PEAT_CUR_AREA_AREA
  let s := (s.set .PEAT_CUR_OFFSET (offset / 4)).set .PEAT_WIN_STATUS_VALID 0
  { s with peat := { s.peat with loading := some (a, s.get .PEAT_CUR_OFFSET * 4) } }

/-- PEAT_CUR (R466): a write loads the window. -/
def execPeatCur (offset : Nat) (s : State) : Host.Outcome State Fault Refusal := .next (s.ack.peatCur offset)

/-- The window's load ends (R466, R473): a frozen area's content from the offset; bytes beyond it read 0. -/
def State.windowLoad (s : State) : State :=
  match s.peat.loading with
  | none => s
  | some (a, off) =>
    let s := { s with peat := { s.peat with loading := none } }
    s.when (s.frozen a) (fun s =>
      let all := (s.peat.areas.at a).served a
      let w := (all.drop off).take 4096
      let s := s.forN 1024 (fun i s => s.set (.PEAT_WIN_DATA i) (fieldAt w (4 * i) 4))
      let s := (s.set .PEAT_WIN_STATUS_BYTES w.length).setIf .PEAT_WIN_STATUS_END (decide (all.length ≤ off + w.length))
      s.set .PEAT_WIN_STATUS_VALID 1)

/-- WINDOW_VALID (R466, R473). -/
def execWindowValid (s : State) : Host.Outcome State Fault Refusal := .next s.windowLoad

end Sys2Proof.Machine
end

