-- ==== Sys2Proof/Machine/Timebase.lean ====
section
/-! DEFINITION. The timebase (02): Tide's states, timing heads, MANG corrections, clock gates, the enclosure's sync pins and the
operating time. -/

namespace Sys2Proof.Machine

/-! ### Shared operations -/

/-- Tide goes to state `x` (R36): leaving LOCKED or SINGLE drops every raised write gate and ends its operation (R141, R191);
reaching one of them starts the holdover count afresh (R46). The spindle loop measures from the cell period in those two (R31, R40 step 4,
R84). -/
def State.tideTo (s : State) (x : Nat) : State :=
  let was := s.tideLocked
  let s := s.set .TIDE_STATUS_STATE x
  let s := s.setIf .WTH_SPN_MEAS_TRACK s.tideLocked
  if s.tideLocked then { s with tide := { s.tide with holdRevs := 0, reacquiring := false, acqFails := 0 } }
  else s.when was (fun s => s.timingDrop 5 false)

/-- Tide enters FREE (R36, R45, R56): both heads lose their qualification and the cell period reads 0. -/
def State.tideFree (s : State) : State :=
  if s.get .TIDE_STATUS_STATE = 0 then s
  else
    let s := { s.tideTo 0 with tide := { (s.tideTo 0).tide with qualified := [], reacquiring := false, holdRevs := 0, slew := 0 } }
    s.set .TIDE_CELL_PERIOD_PERIOD 0

/-- A stepped correction of MANG (R37): EPOCH counts and every operation ends with TIMING (R141, R191 cause 5). Nothing is left to slew. -/
def State.stepMang (s : State) (m : Word) : State :=
  (({ s with tide := { s.tide with slew := 0 } }.atMang m).inc .TIDE_STATUS_EPOCH).timingDrop 5 true

/-- MANG corrected to `m` at an instant when it reads `now` (R37): up to 1/4 cell is left to slew in, more is stepped. -/
def State.correctMang (s : State) (now m : Word) : State :=
  let d := (m - now).toInt
  if d.natAbs ≤ 1024 then { s.atMang now with tide := { s.tide with slew := d } } else s.stepMang m

/-- 128 cells pass (R37): what is left of a correction is slewed in by a free amount of at most 1/256 cell, 16 units of MANG. -/
def State.slewMang (s : State) : State :=
  if s.tide.slew = 0 then s
  else
    let (v, s) := s.draw 5
    let d := min (min v 16) s.tide.slew.natAbs
    { s with tide := { s.tide with slew := if 0 < s.tide.slew then s.tide.slew - d else s.tide.slew + d } }

/-- Stream n's clock would exceed 3.6 GHz (R42): 7.2 bits a nanosecond. -/
def State.tooFast (s : State) (n : Nat) : Bool :=
  let p := s.get .TIDE_CELL_PERIOD_PERIOD
  decide (p ≠ 0) && decide (18432 * p < 10 * s.get (.TIDE_ST_CBPC_CBPC n))

/-- TIDE_STREAM_OVERRATE is judged for stream n (R42): its gates are inhibited, and the source asserts once. -/
def State.judgeRate (s : State) (n : Nat) : State :=
  let was := s.tide.overrate.at n
  let s' := { s with tide := { s.tide with overrate := s.tide.overrate.put n (s.tooFast n) } }
  s'.when (s.tooFast n && !was) (fun s =>
    ((s.inhibitDrop n 2).updSeq n (fun q => { q with rg := false, vg := false })).raise 0x0307 n)

/-- The mean cell period of the last revolution (R56); Sedge rescales its analog settings (R152). -/
def State.setPeriod (s : State) (p : Nat) : State :=
  ((s.set .TIDE_CELL_PERIOD_PERIOD p).forN 8 (fun n s => s.judgeRate n)).rescale

/-- Tide starts acquisition from step 1 of R40; in a start it is step 8 of R475. -/
def State.acquire (s : State) : State :=
  let s := (s.tideTo 1).when (s.aq.starting && s.get .MBX_START_STEP == 7) (fun s => s.set .MBX_START_STEP 8)
  { s with tide := { s.tide with acqFails := 0, frontEnds := true, reacquiring := false } }

/-- The bit of a timing head in TIDE_STATUS and in TIDE_CTRL. -/
def headOk (h : Nat) : Fld := if h = 0 then .TIDE_STATUS_T0_OK else .TIDE_STATUS_T1_OK
def headUse (h : Nat) : Fld := if h = 0 then .TIDE_CTRL_T0_USE else .TIDE_CTRL_T1_USE

/-- Timing head `h` is healthy or not (R45): the loss of a qualified one is recorded, in whatever state. -/
def State.headIs (s : State) (h : Nat) (ok : Bool) : State :=
  (s.setIf (headOk h) ok).when (s.is (headOk h) && !ok && s.tide.qualified.at h) (fun s => s.raise 0x0303 h)

/-- Timing head `h` is no longer healthy (R45): in LOCKED and SINGLE Tide goes on with the other, or, with none, into HOLDOVER (R46). -/
def State.dropHead (s : State) (h : Nat) : State :=
  let s := s.headIs h false
  if s.tideLocked then
    if s.is (headOk (1 - h)) then s.tideTo 4
    else (s.tideTo 5).raise 0x0304
  else s

/-- TIDE_CTRL was written: a head that is no longer used is treated as lost (R45). -/
def State.headsInUse (s : State) : State :=
  s.forN 2 (fun h s => s.when (s.is (headOk h) && !s.is (headUse h)) (fun s => s.dropHead h))

/-- Section k is track-following (R46). -/
def State.trackFollowing (s : State) (k : Nat) : Bool :=
  let en := s.get (.TUS_SEC_CTRL_LANE_EN k)
  !s.is (.WTH_VCM_STATUS_PARKED k) && !s.is (.TUS_SEEK_STATUS_SEEKING k) &&
    ((en % 2 == 1 && s.get (.TUS_SEC_STATUS_MISS0 k) == 0) || (en / 2 == 1 && s.get (.TUS_SEC_STATUS_MISS1 k) == 0))

/-! ### The rows -/

/-- ROOT_LOCK (R29, R31). -/
def execRootLock (s : State) : Host.Outcome State Fault Refusal :=
  .next (s.set .TIDE_STATUS_ROOT_LOCK 1)

/-- TIDE_ROOT_UNLOCK (R31): raised write gates drop at once (R191 cause 6), Tide goes to ACQUIRE, the class F fault is recorded. -/
def execTideRootUnlock (s : State) : Host.Outcome State Fault Refusal :=
  if s.is .TIDE_STATUS_ROOT_LOCK then
    let s := (s.set .TIDE_STATUS_ROOT_LOCK 0).timingDrop 6 false
    .next (s.acquire.raise 0x0301)
  else .next s

/-- The domains of TIDE_CG_EN(i) that ignore a write of 0 (R33): 15–19, 28–30, 103–105, 122 and 123. -/
def ungated : Nat → Word
  | 0 => 0x700F_8000
  | 3 => 0x0C00_0380
  | _ => 0

/-- TIDE_CG_EN (R33, R56): Mire's write; bits 31:28 of TIDE_CG_EN(3) are reserved. -/
def execTideCgEn (i : Nat) (value : Word) (s : State) : Host.Outcome State Fault Refusal :=
  let v := value ||| ungated i
  .next (s.ack.set (.TIDE_CG_EN_EN i) (if i = 3 then (v &&& 0x0FFF_FFFF).toNat else v.toNat))

/-- ACQ_START (R55): in FREE only. -/
def execAcqStart (s : State) : Host.Outcome State Fault Refusal :=
  .next (s.ack.when (s.get .TIDE_STATUS_STATE == 0) State.acquire)

/-- A timing head is used and passed its amplitude and agreement tests. -/
def State.headGood (s : State) (h : Nat) (x : Head) : Bool := x.healthy && s.is (headUse h)

/-- A timing head counted exactly 2^20 cells as well (R45). -/
def State.headCounted (s : State) (h : Nat) (x : Head) : Bool := s.headGood h x && x.cells == 1048576

/-- A head counted healthy at step 3 of R40, or at the end of a reacquisition, qualifies (R45). -/
def State.qualify (s : State) (h : Nat) (ok : Bool) : State :=
  let s := s.headIs h ok
  if ok then { s with tide := { s.tide with qualified := s.tide.qualified.put h true } } else s

/-- The index on the disk: 0 as T0 reads it, TIDE_T1_OFS as T1 does (R34, R56). -/
def State.indexAngle (s : State) (t0 : Bool) : Word := if t0 then 0 else BitVec.ofNat 32 (s.get .TIDE_T1_OFS_OFS)

/-- TIDE_ACQ_FAIL (R41): no index in time, or no head with the right count. Tide is in ACQUIRE; the third failure records. -/
def execTideAcqFail (s : State) : Host.Outcome State Fault Refusal :=
  let st := s.get .TIDE_STATUS_STATE
  if st = 1 ∨ (st = 2 ∧ s.tide.reacquiring = false) then
    let k := s.tide.acqFails + 1
    let s := { s.tideTo 1 with tide := { (s.tideTo 1).tide with acqFails := min k 3 } }
    let s := s.when (k == 3 && s.aq.starting) (fun s => { s with aq := { s.aq with acqFails := s.aq.acqFails + 1 } })
    .next (s.when (k == 3) (fun s => s.raise 0x0302))
  else .next s

/-- The heads that a failed test drops (R45): none while the test does not fail; on a failed agreement those whose cell count fails, or
T1 where both are correct. -/
def headsDropped : HeadTest → List Nat
  | .amplitude h low => if 64 ≤ low then [h] else []
  | .count h cells => if cells ≠ 1048576 then [h] else []
  | .agreement k cells0 cells1 =>
    if k < 1024 then []
    else if cells0 = 1048576 ∧ cells1 = 1048576 then [1]
    else (if cells0 ≠ 1048576 then [0] else []) ++ (if cells1 ≠ 1048576 then [1] else [])

/-- TIDE_HEAD_LOST (R45). -/
def execTideHeadLost (test : HeadTest) (s : State) : Host.Outcome State Fault Refusal :=
  .next ((headsDropped test).foldl (fun s h => s.when (s.is (headOk h)) (fun s => s.dropHead h)) s)

/-- ENC_SYNC_OUT_RISE (R48): at each multiple of 0x0400_0000. -/
def execEncSyncOutRise (mang : Word) (s : State) : Host.Outcome State Fault Refusal :=
  let s := s.atMang mang
  .next (s.when (s.domainOn 101 && s.is .TIDE_CTRL_ESO_EN && s.tideLocked && mang.toNat % 0x0400_0000 == 0)
    (fun s => { s with tide := { s.tide with encOut := true } }))

/-- ENC_SYNC_OUT_FALL (R48): 4,096 cells after the rise, 8,192 for pulse 0; a pulse in progress completes. -/
def execEncSyncOutFall (mang : Word) (s : State) : Host.Outcome State Fault Refusal :=
  let s := s.atMang mang
  let due := if mang.toNat < 0x0400_0000 then mang == 0x0200_0000 else mang.toNat % 0x0400_0000 == 0x0100_0000
  .next (s.when (s.domainOn 101 && due) (fun s => { s with tide := { s.tide with encOut := false } }))

/-! ### ENC_SYNC_IN (R49, R50), periods in 1/16 CK_CTRL cycle -/

/-- `p` lies within ±0.1 % of the mean of the list, and within 10,666.7–5,760 Hz. -/
def esiGood (l : List Nat) (p : Nat) : Bool :=
  decide (0x22_5510 ≤ p) && decide (p ≤ 0x3F_940B) && decide (1000 * (l.length * p) ≤ 1001 * l.sum) &&
    decide (999 * l.sum ≤ 1000 * (l.length * p))

/-- The final speed target of R70 in 2^-10 rpm: WTH_SPN_SPEED within its limits, or what ENC_SYNC_IN commands. -/
def State.spinTarget (s : State) : Nat :=
  if s.is .WTH_SPN_CTRL_SRC ∧ s.withy.esiOnce = true ∧ s.get .TIDE_ESI_PERIOD_PERIOD ≠ 0 then
    22_500_000_000 * 1024 / s.get .TIDE_ESI_PERIOD_PERIOD
  else max (5400 * 1024) (min (10000 * 1024) (s.get .WTH_SPN_SPEED_SPEED))

/-- A change of target clears the speed flags (R65). -/
def State.retarget (s : State) : State :=
  let t := s.spinTarget
  if t = s.withy.target then s
  else
    let s := { s with withy := { s.withy with target := t, inBand := 0, entered := false, counting := false } }
    ((s.set .WTH_SPN_STATUS_AT_SPEED 0).set .WTH_SPN_STATUS_SPD95 0).set .WTH_SPN_STATUS_SPD90 0

/-- WTH_SPN_CTRL.SRC is written (R70): ENC_SYNC_IN counts from when it has qualified since SRC was set. DESIGN CHOICE:
one that is valid when SRC is set to 1 counts at once. -/
def State.setSource (s : State) (src : Nat) : State :=
  let was := s.get .WTH_SPN_CTRL_SRC
  let s := s.set .WTH_SPN_CTRL_SRC src
  let once := if src % 2 = 0 then false else if was = 1 then s.withy.esiOnce else s.is .TIDE_STATUS_ESI_VALID
  { s with withy := { s.withy with esiOnce := once } }.retarget

/-- A speed lies within ±`k`/1,000 of the target. -/
def State.inBand (s : State) (k speed : Nat) : Bool := decide (1000 * ((speed : Int) - s.spinTarget).natAbs ≤ k * s.spinTarget)

/-- A revolution's mean speed against the target (R65): four in a row within ±0.1 % set AT_SPEED, one beyond ±0.2 % clears it. A spindle at
the speed it can hold under field weakening keeps AT_SPEED clear (R69). -/
def State.revolution (s : State) (mean : Nat) : State :=
  let k := if s.inBand 1 mean && !s.is .WTH_SPN_STATUS_FW_SAT then min 4 (s.withy.inBand + 1) else 0
  let s := { s with withy := { s.withy with inBand := k } }
  if k = 4 then s.set .WTH_SPN_STATUS_AT_SPEED 1
  else s.when (!s.inBand 2 mean) (fun s => s.set .WTH_SPN_STATUS_AT_SPEED 0)

/-- The speed that a cell period gives (R56), in 2^-10 rpm. -/
def cellSpeed (period : Nat) : Nat := if period = 0 then 0 else 3_750_000_000 * 1024 / period

/-- A head that is healthy and did not count right is lost (R45). -/
def State.dropMiscount (s : State) (h : Nat) (x : Head) : State :=
  s.when (s.is (headOk h) && x.cells != 1048576) (fun s => s.dropHead h)

/-- INDEX_MARK (R37, R40, R45, R46, R65): the heads' index passes while MANG reads `mang`, `period` being the cell period of the
revolution. In ACQUIRE, unless three attempts have failed (R41), MANG steps to it; in PULL_IN the second index brings Tide to LOCKED or
SINGLE, or a reacquisition without a head back to HOLDOVER; in HOLDOVER it starts a reacquisition; in LOCKED and SINGLE it ends a
revolution, loses a head that did not count right and takes back one that did. -/
def execIndexMark (mang : Word) (t0 t1 : Head) (period : Nat) (s : State) : Host.Outcome State Fault Refusal :=
  let g0 := s.headGood 0 t0
  let g1 := s.headGood 1 t1
  let c0 := s.headCounted 0 t0
  let c1 := s.headCounted 1 t1
  if !s.is .TIDE_STATUS_ROOT_LOCK then .next s
  else match s.get .TIDE_STATUS_STATE with
  | 1 =>
    if (g0 || g1) && decide (s.tide.acqFails < 3) then
      let s := (s.headIs 0 g0).headIs 1 g1
      .next (((s.stepMang (s.indexAngle g0)).setPeriod period).tideTo 2)
    else .next s
  | 2 =>
    if c0 || c1 then
      let s := (s.qualify 0 c0).qualify 1 c1
      .next (((s.correctMang mang (s.indexAngle c0)).setPeriod period).tideTo (if c0 && c1 then 3 else 4))
    else
      let s := (s.headIs 0 false).headIs 1 false
      .next (s.when s.tide.reacquiring (fun s => s.tideTo 5))
  | 5 =>
    if (g0 || g1) && s.is .TIDE_CTRL_REACQ_EN then
      let s := { s with tide := { s.tide with reacquiring := true } }
      .next ((s.correctMang mang (s.indexAngle g0)).tideTo 2)
    else .next s
  | 3 | 4 =>
    let s := ((s.correctMang mang (s.indexAngle c0)).when (!c0 && !c1) (fun _ => s.atMang mang)).setPeriod period
    let s := ((s.when c0 (fun s => s.set .TIDE_STATUS_T0_OK 1)).when c1 (fun s => s.set .TIDE_STATUS_T1_OK 1))
    let s := (s.dropMiscount 0 t0).dropMiscount 1 t1
    let s := s.when (s.is .TIDE_STATUS_T0_OK && s.is .TIDE_STATUS_T1_OK && s.tideLocked) (fun s => s.tideTo 3)
    .next (s.when (s.get .WTH_SPN_STATUS_STATE == 5) (fun s => s.revolution (cellSpeed period)))
  | _ => .next s

/-- ENC_SYNC_IN becomes invalid (R49): the command holds its last value and TIDE_ESI_LOST is recorded; the revolutions in phase (R50)
count afresh. -/
def State.esiLost (s : State) : State :=
  let s := { s with tide := { s.tide with esiPeriods := [], esiBad := 0, phaseOff := 0, phaseGood := 0 } }
  s.when (s.is .TIDE_STATUS_ESI_VALID) (fun s => (s.set .TIDE_STATUS_ESI_VALID 0).raise 0x0308)

/-- What a change of TIDE_CTRL's ENC_SYNC_IN bits does: an input no longer followed is lost (R49), phase control withdrawn leaves neither
offset nor count (R50). `old` is the state before. -/
def State.esiControl (s old : State) : State :=
  let s := s.when (old.is .TIDE_CTRL_ESI_EN && !s.is .TIDE_CTRL_ESI_EN) State.esiLost
  s.when (!s.is .TIDE_CTRL_ESI_PHASE_EN) (fun s => { s with tide := { s.tide with phaseOff := 0, phaseGood := 0 } })

/-- The offset of the speed command that phase control takes (R50): a free value of at most ±0.05 % of the target, in 2^-10 rpm. -/
def State.steerPhase (s : State) : State :=
  let (v, s) := s.draw 32
  let lim := s.spinTarget / 2000
  { s with tide := { s.tide with phaseOff := (v % (2 * lim + 1) : Nat) - (lim : Int) } }

/-- A wide pulse marks the enclosure's index (R50): at its rising edge MANG should be −OFFSET × 2^16. -/
def State.esiPhase (s : State) (mang : Word) : State :=
  let e := (mang + BitVec.ofNat 32 (s.get .TIDE_ESI_PHASE_OFFSET * 65536)).toInt.natAbs
  let k := if e < 0x40_0000 then min 16 (s.tide.phaseGood + 1) else 0
  let s := { s with tide := { s.tide with phaseSuspended := false, phaseGood := k } }.steerPhase
  if k = 16 then s.set .TIDE_STATUS_PHASE_LOCKED 1
  else s.when (decide (0x100_0000 ≤ e)) (fun s => s.set .TIDE_STATUS_PHASE_LOCKED 0)

/-- ENC_SYNC_IN_EDGE (R49, R50): a rising edge ends a period whose pulse was high for `high`, MANG having been `mang` at its
start. Eight good periods qualify the input; three bad ones in a row disqualify it; the 64-period mean commands the speed, before 64 periods the
mean of those since it qualified, those out of tolerance among them (DESIGN CHOICE). -/
def execEncSyncInEdge (mang : Word) (period high : Nat) (s : State) : Host.Outcome State Fault Refusal :=
  if !s.is .TIDE_CTRL_ESI_EN || !s.domainOn 101 then .next s
  else
    let old := s.tide.esiPeriods
    let l := (period :: old).take 64
    let s := { s with tide := { s.tide with esiPeriods := l } }
    if s.is .TIDE_STATUS_ESI_VALID then
      let bad := if esiGood old period then 0 else s.tide.esiBad + 1
      let s := { s with tide := { s.tide with esiBad := bad } }
      if bad = 3 then .next s.esiLost
      else
        let s := (s.set .TIDE_ESI_PERIOD_PERIOD (l.sum / l.length)).retarget
        .next (s.when (s.is .TIDE_CTRL_ESI_PHASE_EN && decide (3 * l.sum < 8 * (l.length * high))) (fun s => s.esiPhase mang))
    else
      let w := l.take 8
      if w.length = 8 ∧ w.all (esiGood w) then
        let s := ({ s with tide := { s.tide with esiPeriods := w, esiBad := 0 } }.set .TIDE_STATUS_ESI_VALID 1).set
          .TIDE_ESI_PERIOD_PERIOD (w.sum / 8)
        let s := if s.is .WTH_SPN_CTRL_SRC then { s with withy := { s.withy with esiOnce := true } } else s
        .next s.retarget
      else .next s

/-- ESI_EDGE_TIMEOUT (R49). -/
def execEsiEdgeTimeout (s : State) : Host.Outcome State Fault Refusal :=
  .next (s.when (s.is .TIDE_CTRL_ESI_EN) State.esiLost)

/-- ESI_PHASE_SUSPEND (R50): speed following goes on, with no offset; PHASE_LOCKED keeps its value (DESIGN CHOICE). -/
def execEsiPhaseSuspend (s : State) : Host.Outcome State Fault Refusal :=
  .next (s.when (s.is .TIDE_CTRL_ESI_EN && s.is .TIDE_CTRL_ESI_PHASE_EN)
    (fun s => { s with tide := { s.tide with phaseSuspended := true, phaseGood := 0, phaseOff := 0 } }))

/-! ### Operating time (R51) -/

/-- TIDE_OPT_LO (R51): the write commits the lock of both registers and starts the count; a locked one ignores it. -/
def execTideOptLo (value : Word) (s : State) : Host.Outcome State Fault Refusal :=
  .next (s.ack.when (!s.is .TIDE_STATUS_OPT_LOADED) (fun s =>
    ((s.set .TIDE_OPT_LO_MS_LO value.toNat).set .TIDE_STATUS_OPT_LOADED 1).stampStaged))

/-- TIDE_OPT_LO_READ (R51): the read latches TIDE_OPT_HI for the same requester. -/
def execTideOptLoRead (who : Who) (s : State) : Host.Outcome State Fault Refusal :=
  let l := (s.tide.optLatch.filter (fun e => e.1 ≠ who)) ++ [(who, s.get .TIDE_OPT_HI_MS_HI)]
  .next ({ s with tide := { s.tide with optLatch := l } }.answer (s.get .TIDE_OPT_LO_MS_LO))

/-- One millisecond of CK_SLOW passes (R51): the operating time counts once it is loaded. -/
def State.countOpt (s : State) : State :=
  if s.is .TIDE_STATUS_OPT_LOADED then
    let t := s.opt + 1
    (s.set .TIDE_OPT_LO_MS_LO t).set .TIDE_OPT_HI_MS_HI (t / 2 ^ 32)
  else s

end Sys2Proof.Machine
end

