-- ==== Sys2Proof/Machine/Motors.lean ====
section
/-! DEFINITION. The spindle and the actuators (03): the spindle's states and their events, VCM bridges, microactuator drivers and
the retract. Back-EMF in 0.1 mV line-to-line peak, speeds in 2^-10 rpm, currents in mA. -/

namespace Sys2Proof.Machine

/-! ### Shared operations -/

/-- The back-EMF is at or below the rest threshold, 30 rpm at KE_NOM; under 5.0 mV it reads as 0 (R60). -/
def State.atRest (s : State) (emf : Nat) : Bool :=
  decide ((if emf < 50 then 0 else emf) * 1000 ≤ s.get .WTH_SPN_KE_KE_NOM * 30)

/-- The current in mA that a bridge is driven with, where a register fixes it (R60, R62, R71, R84): IALIGN and IRAMP as the length of the
vector, IBRAKE as regenerative q-axis current. -/
def State.bridgeCurrent (s : State) (b : Bridge) : Int :=
  match b with
  | .align _ => 20 * s.get .WTH_SPN_CUR_IALIGN
  | .ramp => 20 * s.get .WTH_SPN_CUR_IRAMP
  | .regen => -(20 * s.get .WTH_HOLD_IBRAKE : Nat)
  | _ => 0

/-- The spindle bridge is driven as `b`. -/
def State.bridgeTo (s : State) (b : Bridge) : State :=
  { s with withy := { s.withy with bridge := b, iq := s.bridgeCurrent b, ramp := 0 } }

/-- The spindle goes to state `x` with the bridge as `b` (R60): Tide leaves for FREE with IDLE, BRAKE, SHORT and FAULT (R36); outside RUN
AT_SPEED clears (R65) and nothing is left of field weakening (R69; DESIGN CHOICE: FW_SAT clears with it). -/
def State.spinTo (s : State) (x : Nat) (b : Bridge) : State :=
  let s := (s.bridgeTo b).set .WTH_SPN_STATUS_STATE x
  let s := { s with withy := { s.withy with testing := false, watching := false, keOff := false } }
  let s := s.when (x != 5) (fun s =>
    let s := { s with withy := { s.withy with inBand := 0, entered := false, counting := false, elec := [] } }
    let s := ((s.set .WTH_SPN_STATUS_AT_SPEED 0).set .WTH_SPN_STATUS_STOP_BLOCKED 0).set .WTH_SPN_STATUS_FW_ACTIVE 0
    ((s.set .WTH_SPN_STATUS_FW_SAT 0).set .WTH_SPN_FOC_ID 0).set .WTH_SPN_FOC_MI 0)
  s.when (x == 0 || x == 2 || x == 8 || x == 9) State.tideFree

/-- The measured speed (R84): from the cell period in LOCKED and SINGLE. -/
def State.measure (s : State) (speed : Nat) : State :=
  (s.set .WTH_SPN_MEAS_SPEED speed).setIf .WTH_SPN_MEAS_TRACK s.tideLocked

/-- A fixed action of Withy with its bit k of WTH_FAULT.SPN and its source (R81, R84). -/
def State.spinFault (s : State) (k source : Nat) : State :=
  (s.set .WTH_FAULT_SPN (s.get .WTH_FAULT_SPN ||| 2 ^ k)).raise source

/-- The back-EMF constant differs from KE_NOM by more than ±8 % of it; a KE_NOM of 0 fails every check (R67). -/
def State.keBad (s : State) (ke : Nat) : Bool :=
  let nom := s.get .WTH_SPN_KE_KE_NOM
  decide (nom = 0) || decide (100 * ke < 92 * nom) || decide (108 * nom < 100 * ke)

/-- SPD90 and SPD95 once the speed reaches 90 % and 95 % of the target (R65): Tide enables its front ends, then acquires (R40). -/
def State.judgeSpeed (s : State) : State :=
  let v := s.get .WTH_SPN_MEAS_SPEED
  let t := s.spinTarget
  let s := s.when (decide (90 * t ≤ 100 * v)) (fun s =>
    { s.set .WTH_SPN_STATUS_SPD90 1 with tide := { s.tide with frontEnds := true } })
  s.when (decide (95 * t ≤ 100 * v) && !s.is .WTH_SPN_STATUS_SPD95) (fun s =>
    (s.set .WTH_SPN_STATUS_SPD95 1).when (s.get .TIDE_STATUS_STATE == 0) State.acquire)

/-- The spindle generator restarts at a speed with a rate of 0 (R123). -/
def State.refFrom (s : State) (speed : Nat) : State :=
  { s.set .TUS_SPN_REF_REF speed with tus := { s.tus with ref := (speed : Int) * 2 ^ 22, rate := 0 } }

/-- The spindle enters RUN at the measured speed (R62, R66); the current command rises from 0. -/
def State.enterRun (s : State) (speed : Nat) : State :=
  (((s.spinTo 5 .foc).measure speed).refFrom speed).judgeSpeed

/-- WTH_ABNORMAL_KE (R67): FAULT, braked to rest. -/
def State.keFault (s : State) : State := (s.spinTo 9 .regen).spinFault 1 0x0402

/-- The constant that an amplitude at a speed gives, in 0.1 mV per 1,000 rpm, to the nearest (the worked case of R66: 5.170 V at 4,100 rpm
reads 12,610). -/
def keOf (emf speed : Nat) : Nat := if speed = 0 then 0 else min 0xFFFF ((2 * emf * 1000 * 1024 + speed) / (2 * speed))

/-- An observation ends (R63, R66): ALIGN at rest; RUN when the rotor turns forward at 300 rpm or above, checked at once from 1,000 rpm
on (R67); else BRAKE. -/
def State.afterObserve (s : State) (emf speed : Nat) (reverse : Bool) : State :=
  let s := s.measure speed
  if s.atRest emf then s.spinTo 3 (.align 60)
  else if reverse then (s.set .WTH_SPN_STATUS_DIR_REV 1).spinTo 2 .lowSide
  else if speed < 300 * 1024 then s.spinTo 2 .lowSide
  else if speed < 1000 * 1024 then s.enterRun speed
  else
    let s := (s.set .WTH_SPN_KE_KE_MEAS (keOf emf speed))
    let s := { s with withy := { s.withy with keDone := true } }
    if s.keBad (keOf emf speed) then s.keFault else s.enterRun speed

/-- The spindle's state reads `x`. -/
def State.spinIs (s : State) (x : Nat) : Bool := s.get .WTH_SPN_STATUS_STATE == x

/-- Every section reads PARKED. -/
def State.allParked (s : State) : Bool := (List.range 4).all (fun k => s.is (.WTH_VCM_STATUS_PARKED k))

/-- A microactuator driver takes HOLD: its output goes to 0 V (R78). -/
def State.holdMa (s : State) (n : Nat) : State := (s.set (.WTH_MA_CTRL_HOLD n) 1).set (.WTH_MA_STATUS_VOUT n) 0

/-- What section k's VCM bridge is driven with (R75, R80): by the retract sequencer toward the ramp at WTH_RET_CFG's velocity, coil
resistance and current limit, then at half that limit; else, while EN is 1, IFIX with SRC = 1 and Tussock's command with SRC = 0. -/
def State.vcmCommand (s : State) (k : Nat) : VcmDrive :=
  match s.withy.retract.at k with
  | .moving => .toRamp (s.is (.WTH_RET_CFG_DIR k)) (s.get (.WTH_RET_CFG_VEL k)) (s.get (.WTH_RET_CFG_RCOIL k)) (s.get (.WTH_RET_CFG_IMAX k))
  | .hold => .atStop (s.is (.WTH_RET_CFG_DIR k)) (s.get (.WTH_RET_CFG_IMAX k))
  | .none =>
    if !s.is (.WTH_VCM_CTRL_EN k) then .off
    else if s.is (.WTH_VCM_CTRL_SRC k) then .current (s.getS (.WTH_VCM_CTRL_IFIX k))
    else .current (s.tus.secs.at k).code

/-- The bridge of section k takes its command. -/
def State.driveVcm (s : State) (k : Nat) : State := { s with withy := { s.withy with vcm := s.withy.vcm.put k (s.vcmCommand k) } }

/-- What driver n puts out (R77, R78, R84): 0 V while it is held or disabled, else VFIX with SRC = 1 and Tussock's word with SRC = 0. -/
def State.driveMa (s : State) (n : Nat) : State :=
  s.setS (.WTH_MA_STATUS_VOUT n)
    (if s.is (.WTH_MA_CTRL_HOLD n) || !s.is (.WTH_MA_CTRL_EN n) then 0
     else if s.is (.WTH_MA_CTRL_SRC n) then s.getS (.WTH_MA_CTRL_VFIX n)
     else s.withy.ma.at n)

/-- The timed hold at the parking stop (R80 step 4): half the current limit that the sequencer has been given, in its direction. -/
def State.holdAtStop (s : State) (k : Nat) : State :=
  let drive := match s.withy.vcm.at k with
    | .toRamp dir _ _ imax => .atStop dir imax
    | d => d
  { s with withy := { s.withy with retract := s.withy.retract.put k .hold, vcm := s.withy.vcm.put k drive } }

/-- A retract starts on section k (R80 steps 1 and 2), unless one runs: write inhibit drops both streams' gates, both drivers take HOLD,
the sequencer drives the bridge whether or not EN is set. -/
def State.startRetract (s : State) (k : Nat) : State :=
  if s.is (.WTH_VCM_STATUS_RET_ACTIVE k) then s
  else
    let s := { s with withy := { s.withy with retract := s.withy.retract.put k .moving } }
    let s := (s.set (.WTH_VCM_STATUS_RET_ACTIVE k) 1).set (.WTH_VCM_STATUS_ENABLED k) 1
    let s := ((s.holdMa (2 * k)).holdMa (2 * k + 1)).driveVcm k
    (s.inhibitDrop (2 * k) 4).inhibitDrop (2 * k + 1) 4

/-- A retract on every section that is not parked (R72, R79, R81). -/
def State.retractAll (s : State) : State :=
  s.forN 4 (fun k s => s.when (!s.is (.WTH_VCM_STATUS_PARKED k)) (fun s => s.startRetract k))

/-- A section's VCM bridge turns off with EN cleared (R75, R76, R80, R84). -/
def State.bridgeOff (s : State) (k : Nat) : State :=
  let s := (s.set (.WTH_VCM_CTRL_EN k) 0).set (.WTH_VCM_STATUS_ENABLED k) 0
  { s with withy := { s.withy with vcm := s.withy.vcm.put k .off } }

/-! ### Starting and stopping -/

/-- RUN is set (R60, R71): in IDLE the spindle enters OBSERVE with all flags afresh (R65); a stop that waits is withdrawn. -/
def State.runStart (s : State) : State :=
  let s := (s.set .WTH_SPN_CTRL_RUN 1).set .WTH_SPN_STATUS_STOP_BLOCKED 0
  if s.spinIs 0 then
    let s := s.spinTo 1 .off
    let s := { s with withy := { s.withy with keDone := false } }
    let s := (s.set .WTH_SPN_STATUS_ATTEMPT 0).set .WTH_SPN_STATUS_DIR_REV 0
    (s.set .WTH_SPN_STATUS_SPD95 0).set .WTH_SPN_STATUS_SPD90 0
  else s

/-- RUN_START (R60, R71). -/
def execRunStart (s : State) : Host.Outcome State Fault Refusal := .next s.ack.runStart

/-- RUN is cleared (R60, R71): ALIGN stops at once, RAMP and RUN brake, and in RUN the stop waits while a section is not parked. -/
def State.runStop (s : State) : State :=
  let s := s.set .WTH_SPN_CTRL_RUN 0
  match s.get .WTH_SPN_STATUS_STATE with
  | 3 => s.spinTo 0 .off
  | 4 => s.spinTo 6 .regen
  | 5 => if s.allParked then s.spinTo 6 .regen else s.set .WTH_SPN_STATUS_STOP_BLOCKED 1
  | _ => s

/-- RUN_STOP (R60, R71). -/
def execRunStop (s : State) : Host.Outcome State Fault Refusal := .next s.ack.runStop

/-- STOP_PROCEED (R71). -/
def execStopProceed (s : State) : Host.Outcome State Fault Refusal :=
  .next (s.when (s.is .WTH_SPN_STATUS_STOP_BLOCKED && s.allParked) (fun s => s.spinTo 6 .regen))

/-- WTH_SPN_CTRL.CLR_FAULT is written (R60): accepted in FAULT and SHORT, at or below the rest threshold. -/
def State.clearFault (s : State) (emf : Nat) : State := s.when ((s.spinIs 8 || s.spinIs 9) && s.atRest emf) (fun s => s.spinTo 0 .off)

/-- CLR_FAULT (R60). -/
def execClrFault (emf : Nat) (s : State) : Host.Outcome State Fault Refusal := .next (s.ack.clearFault emf)

/-- OBSERVE_END (R60, R66): with RUN cleared, IDLE at rest and else STOP. -/
def execObserveEnd (emf speed : Nat) (reverse : Bool) (s : State) : Host.Outcome State Fault Refusal :=
  if s.spinIs 1 then
    let s := s.set .WTH_SPN_STATUS_DIR_REV 0
    if s.is .WTH_SPN_CTRL_RUN then .next (s.afterObserve emf speed reverse)
    else
      let s := (s.measure speed).setIf .WTH_SPN_STATUS_DIR_REV (reverse && !s.atRest emf)
      .next (if s.atRest emf then s.spinTo 0 .off else s.spinTo 6 .regen)
  else .next s

/-- ALIGN_SECOND_ANGLE (R62). -/
def execAlignSecondAngle (s : State) : Host.Outcome State Fault Refusal :=
  .next (s.when (s.spinIs 3) (fun s => s.bridgeTo (.align 0)))

/-- ALIGN_END (R62). -/
def execAlignEnd (s : State) : Host.Outcome State Fault Refusal :=
  .next (s.when (s.spinIs 3) (fun s => s.spinTo 4 .ramp))

/-- RAMP_RATE and POLE_PAIRS as they act (R84). -/
def State.rampRate (s : State) : Nat := if s.get .WTH_SPN_CFG_RAMP_RATE = 0 then 0x14 else s.get .WTH_SPN_CFG_RAMP_RATE
def State.polePairs (s : State) : Nat :=
  let p := s.get .WTH_SPN_CFG_POLE_PAIRS
  if 2 ≤ p ∧ p ≤ 8 then p else 4

/-- The speed of the open-loop vector at which the ramp ends, 600 rpm, in 1/9,375 of 2^-10 rpm: one modulation period adds RAMP_RATE. -/
def rampEnd : Nat := 600 * 1024 * 9375

/-- RAMP_REACHED (R62): 600 rpm is held and the handover test starts. -/
def execRampReached (s : State) : Host.Outcome State Fault Refusal :=
  .next (s.when (s.spinIs 4 && !s.withy.watching) (fun s =>
    { s.measure (600 * 1024) with withy := { s.withy with testing := true, ramp := rampEnd } }))

/-- HANDOVER (R62, R63). -/
def execHandover (speed : Nat) (s : State) : Host.Outcome State Fault Refusal :=
  .next (s.when (s.spinIs 4 && s.withy.testing) (fun s => s.enterRun speed))

/-- HANDOVER_FAIL (R63): the bridge turns off for an observation; the third failure goes to FAULT. -/
def execHandoverFail (s : State) : Host.Outcome State Fault Refusal :=
  .next (s.when (s.spinIs 4 && s.withy.testing) (fun s =>
    let s := s.inc .WTH_SPN_STATUS_ATTEMPT
    if 3 ≤ s.get .WTH_SPN_STATUS_ATTEMPT then (s.spinTo 9 .regen).spinFault 0 0x0401
    else { s.bridgeTo .off with withy := { (s.bridgeTo .off).withy with testing := false, watching := true } }))

/-- HANDOVER_OBSERVE_END (R63). -/
def execHandoverObserveEnd (emf speed : Nat) (reverse : Bool) (s : State) : Host.Outcome State Fault Refusal :=
  .next (s.when (s.spinIs 4 && s.withy.watching) (fun s => s.afterObserve emf speed reverse))

/-- BRAKE_REST (R60): BRAKE goes on to ALIGN, or to IDLE with RUN cleared; STOP to IDLE; in FAULT the bridge turns off. -/
def execBrakeRest (s : State) : Host.Outcome State Fault Refusal :=
  match s.get .WTH_SPN_STATUS_STATE with
  | 2 => .next (if s.is .WTH_SPN_CTRL_RUN then s.spinTo 3 (.align 60) else s.spinTo 0 .off)
  | 6 => .next (s.spinTo 0 .off)
  | 9 => .next (s.bridgeTo .off)
  | _ => .next s

/-- WTH_BRAKE_TIMEOUT (R66). -/
def execWthBrakeTimeout (s : State) : Host.Outcome State Fault Refusal :=
  .next (s.when (s.spinIs 2) (fun s => (s.spinTo 9 .regen).spinFault 2 0x0403))

/-! ### Running -/

/-- The floor of the d-axis current, −40 % of IRUN (R69): IRUN counts 20 mA. -/
def State.idFloor (s : State) : Int := -(8 * (s.get .WTH_SPN_CUR_IRUN : Int))

/-- The phase current limit (R68): IRUN in RUN, IHOLD in RECTIFY. -/
def State.currentLimit (s : State) : Nat :=
  20 * (if s.spinIs 7 then s.get .WTH_SPN_CUR_IHOLD else s.get .WTH_SPN_CUR_IRUN)

/-- The q-axis command limited to √(limit² − id²) (R68). -/
def State.limitQ (s : State) (iq id : Int) : Int :=
  let lim : Int := Nat.sqrt ((s.currentLimit : Int) ^ 2 - id ^ 2).toNat
  max (-lim) (min lim iq)

/-- The d-axis command (R69): above MI 0.92 it goes down, at or below it back toward 0, by a free amount within its floor and 0. -/
def State.weaken (s : State) (id : Int) (mi : Nat) : Int :=
  let old := s.getS .WTH_SPN_FOC_ID
  if 92 * 1024 < 100 * mi then max s.idFloor (min old id) else max s.idFloor (min 0 (max old id))

/-- The q-axis current in mA that holds the bus at `vset` (unit 10 mV) while it reads `vhb` mV (R74): the rule gives no law. -/
def State.rectify (s : State) : Int :=
  let lim : Int := 20 * s.get .WTH_SPN_CUR_IHOLD
  if s.is .WTH_SPN_STATUS_HOLD_COLLAPSE then -lim
  else -(min lim (Config.holdCurrent (s.get .WTH_HOLD_VSET) (s.get .WEIR_MEAS_VHB_MV)))

/-- A complete electrical period of the back-EMF observer ends after `cycles` of CK_CTRL (R65): outside LOCKED and SINGLE, POLE_PAIRS of
them are a revolution, counted from the first that begins once the speed has entered the band. -/
def State.elecPeriod (s : State) (cycles : Nat) : State :=
  if s.tideLocked then { s with withy := { s.withy with elec := [] } }
  else if !s.withy.counting then { s with withy := { s.withy with counting := s.withy.entered, elec := [] } }
  else
    let l := s.withy.elec ++ [cycles]
    if l.length < s.polePairs then { s with withy := { s.withy with elec := l } }
    else { s with withy := { s.withy with elec := [] } }.revolution (60 * 1_500_000_000 * 1024 / max 1 l.sum)

/-- FOC_PERIOD (R65, R68, R69, R71, R74, R84): a modulation period with the measured speed, where the d-axis command goes, the modulation
index, and the length of an electrical period that ends in it. RAMP counts its vector up; RECTIFY draws what the bus needs; STOP, and
FAULT while it brakes, short the low side at 300 rpm. -/
def execFocPeriod (speed : Nat) (id : Int) (mi : Nat) (elec : Option Nat) (s : State) : Host.Outcome State Fault Refusal :=
  let s := s.measure speed
  match s.get .WTH_SPN_STATUS_STATE with
  | 4 =>
    .next (s.when (decide (s.withy.bridge = .ramp)) (fun s =>
      { s with withy := { s.withy with ramp := min rampEnd (s.withy.ramp + 1024 * s.rampRate) } }))
  | 5 =>
    let i := s.weaken id mi
    let s := (s.setS .WTH_SPN_FOC_ID i).set .WTH_SPN_FOC_MI mi
    let s := { s with withy := { s.withy with iq := s.limitQ s.withy.iq i, entered := s.withy.entered || s.inBand 1 speed } }
    let s := (s.setIf .WTH_SPN_STATUS_FW_ACTIVE (decide (i ≠ 0))).when (decide (s.idFloor < i))
      (fun s => s.set .WTH_SPN_STATUS_FW_SAT 0)
    let s := s.judgeSpeed
    .next (match elec with | some c => s.elecPeriod c | none => s)
  | 7 => .next { s with withy := { s.withy with iq := s.limitQ s.rectify 0 } }
  | 6 | 9 => .next (if s.withy.bridge = .regen ∧ speed ≤ 300 * 1024 then s.bridgeTo .lowSide else s)
  | _ => .next s

/-- KE_CHECK_START (R67): RUN first reaches 1,000 rpm in a start that has not been checked. -/
def execKeCheckStart (s : State) : Host.Outcome State Fault Refusal :=
  .next (s.when (s.spinIs 5 && !s.withy.keDone && !s.withy.keOff && decide (1000 * 1024 ≤ s.get .WTH_SPN_MEAS_SPEED))
    (fun s => { s.bridgeTo .off with withy := { (s.bridgeTo .off).withy with keOff := true } }))

/-- KE_CHECK_END (R67, R123): the drive resumes at the measured speed, or the start aborts. -/
def execKeCheckEnd (emf speed : Nat) (s : State) : Host.Outcome State Fault Refusal :=
  .next (s.when (s.spinIs 5 && s.withy.keOff) (fun s =>
    let s := (s.measure speed).set .WTH_SPN_KE_KE_MEAS (keOf emf speed)
    let s := { s.bridgeTo .foc with withy := { (s.bridgeTo .foc).withy with keDone := true, keOff := false } }
    if s.keBad (keOf emf speed) then s.keFault else s.refFrom speed))

/-- WTH_SPEED_LIMITED (R69): id has sat at its floor with MI above 0.92 for 8 revolutions. -/
def execWthSpeedLimited (s : State) : Host.Outcome State Fault Refusal :=
  .next (s.when (s.spinIs 5 && decide (s.getS .WTH_SPN_FOC_ID ≤ s.idFloor) && decide (92 * 1024 < 100 * s.get .WTH_SPN_FOC_MI)) (fun s =>
    let s := { s with withy := { s.withy with inBand := 0 } }
    ((s.set .WTH_SPN_STATUS_FW_SAT 1).set .WTH_SPN_STATUS_AT_SPEED 0).spinFault 3 0x0404))

/-- All spindle FETs turn off at once, without braking (R81), and the spindle goes to FAULT from the states whose row of R60 lists it:
BRAKE, RAMP and RUN, and from FAULT itself. DESIGN CHOICE: R60's list of exits is closed, so any other state is kept, and SHORT keeps its
bridge as latched. -/
def State.spinCut (s : State) : State :=
  if s.spinIs 2 || s.spinIs 4 || s.spinIs 5 || s.spinIs 9 then s.spinTo 9 .off
  else if s.spinIs 8 then s
  else s.bridgeTo .off

/-- WTH_SPN_OC (R60, R81). -/
def execWthSpnOc (s : State) : Host.Outcome State Fault Refusal :=
  .next (s.spinCut.spinFault 4 0x0405)

/-- WTH_CHOP_FAIL (R72): above 14.2 V with a faulty chopper, in any spindle state. -/
def execWthChopFail (vhb : Nat) (s : State) : Host.Outcome State Fault Refusal :=
  let s := s.set .WEIR_MEAS_VHB_MV vhb
  .next (s.when (s.is .WEIR_STATUS_CHOP_FAULT && decide (14200 < vhb)) (fun s =>
    ((s.retractAll).spinTo 8 .lowSide).spinFault 5 0x0406))

/-- HOLD_COLLAPSE (R74): the bus, at `vhb` mV, has not been held above VSET − 0.50 V for 5 ms at IHOLD, which goes on. -/
def execHoldCollapse (vhb : Nat) (s : State) : Host.Outcome State Fault Refusal :=
  let s := s.set .WEIR_MEAS_VHB_MV vhb
  .next (s.when (s.spinIs 7 && decide (vhb + 500 ≤ 10 * s.get .WTH_HOLD_VSET)) (fun s =>
    let s := s.set .WTH_SPN_STATUS_HOLD_COLLAPSE 1
    { s with withy := { s.withy with iq := s.rectify } }))

/-- The power-fail commit on the spindle (R73); HOLD_COLLAPSE clears as RECTIFY is entered (DESIGN CHOICE: R74 says only when it sets). -/
def State.spinCommit (s : State) : State :=
  let st := s.get .WTH_SPN_STATUS_STATE
  if (st = 5 ∨ st = 6) ∧ 2000 * 1024 ≤ s.get .WTH_SPN_MEAS_SPEED then
    (s.set .WTH_SPN_STATUS_HOLD_COLLAPSE 0).spinTo 7 .rectify
  else if st = 8 ∨ st = 9 then s
  else s.spinTo 0 .off

/-! ### Actuators -/

/-- WTH_VCM_OC (R76). -/
def execWthVcmOc (k : Nat) (s : State) : Host.Outcome State Fault Refusal :=
  let s := s.bridgeOff k
  .next ((s.set .WTH_FAULT_VCM_OC (s.get .WTH_FAULT_VCM_OC ||| 2 ^ k)).raise 0x0407 k)

/-- WTH_MA_OC (R78). -/
def execWthMaOc (n : Nat) (s : State) : Host.Outcome State Fault Refusal :=
  let s := s.holdMa n
  .next ((s.set .WTH_FAULT_MA_OC (s.get .WTH_FAULT_MA_OC ||| 2 ^ n)).raise 0x0408 n)

/-- WTH_GD_UVLO (R81). -/
def execWthGdUvlo (s : State) : Host.Outcome State Fault Refusal :=
  .next (s.retractAll.spinCut.spinFault 6 0x040A)

/-- WTH_HB_LOSS (R79, R413). -/
def execWthHbLoss (s : State) : Host.Outcome State Fault Refusal :=
  .next (s.retractAll.spinFault 7 0x040B)

/-- RETRACT_GO (R79): on each section of the mask, parked or not. -/
def execRetractGo (mask : Nat) (s : State) : Host.Outcome State Fault Refusal :=
  .next (s.ack.forN 4 (fun k s => s.when (mask / 2 ^ k % 2 == 1) (fun s => s.startRetract k)))

/-- RETRACT_LOW_BUS (R79): below 7.0 V. -/
def execRetractLowBus (vhb : Nat) (s : State) : Host.Outcome State Fault Refusal :=
  let s := s.set .WEIR_MEAS_VHB_MV vhb
  .next (s.when (decide (vhb < 7000)) State.retractAll)

/-- RETRACT_STALL (R80 steps 3 and 4). -/
def execRetractStall (k : Nat) (s : State) : Host.Outcome State Fault Refusal :=
  .next (s.when (decide (s.withy.retract.at k = .moving)) (fun s => s.holdAtStop k))

/-- WTH_RET_TIMEOUT (R80). -/
def execWthRetTimeout (k : Nat) (s : State) : Host.Outcome State Fault Refusal :=
  .next (s.when (decide (s.withy.retract.at k = .moving)) (fun s =>
    let s := s.holdAtStop k
    (s.set .WTH_FAULT_RET_TIMEOUT (s.get .WTH_FAULT_RET_TIMEOUT ||| 2 ^ k)).raise 0x0409 k))

/-- Aqsia's park report (R80, R84): a retract that runs ends only at its step 5. -/
def State.park (s : State) (k : Nat) : State :=
  if s.is (.WTH_VCM_STATUS_RET_ACTIVE k) then s else (s.bridgeOff k).set (.WTH_VCM_STATUS_PARKED k) 1

/-- EN set on section k (R80, R84): ignored while a retract runs. -/
def State.enableVcm (s : State) (k : Nat) : State :=
  if s.is (.WTH_VCM_STATUS_RET_ACTIVE k) then s
  else (((s.set (.WTH_VCM_CTRL_EN k) 1).set (.WTH_VCM_STATUS_ENABLED k) 1).set (.WTH_VCM_STATUS_PARKED k) 0).driveVcm k

/-- MA_HOLD (R78): strain samples after a release come marked invalid with the strobes of its first 20 µs. -/
def execMaHold (n : Nat) (hold : Bool) (s : State) : Host.Outcome State Fault Refusal :=
  .next (if hold then s.ack.holdMa n else (s.ack.set (.WTH_MA_CTRL_HOLD n) 0).driveMa n)

end Sys2Proof.Machine
end

