-- ==== Sys2Proof/Machine/Servo.lean ====
section
/-! DEFINITION. The servo engine's arithmetic and its tick (04): block-floating stages, the lanes' observers, coupling and vibration
terms, output codes, regions. The profile generators are in Seeks.lean, the rows in ServoRows.lean. -/

namespace Sys2Proof.Machine

/-! ### Block-floating arithmetic (R91–R95) -/

/-- A dyadic number: mantissa `m` times 2 to the `e`. -/
abbrev Dy := Int × Int

/-- An exact sum. -/
def dyAdd (a b : Dy) : Dy :=
  let e := min a.2 b.2
  (a.1 * 2 ^ (a.2 - e).toNat + b.1 * 2 ^ (b.2 - e).toNat, e)

/-- The least E with |value| < 2^E, of a value that is not 0. -/
def dyExp (d : Dy) : Option Int := if d.1 = 0 then none else some (d.2 + Nat.log2 d.1.natAbs + 1)

/-- `d` as a multiple of 2^e, to the nearest integer with ties to even. -/
def dyRound (e : Int) (d : Dy) : Int :=
  let k := d.2 - e
  if 0 ≤ k then d.1 * 2 ^ k.toNat else roundHalfEven d.1 (2 ^ (-k).toNat)

/-- Normalization of a vector (R93, R94), and whether it saturates. -/
def normalize (l : List Dy) : Block × Bool :=
  match (l.filterMap dyExp).max? with
  | none => ({ e := -32, m := l.map (fun _ => 0) }, false)
  | some e0 =>
    let carry := l.any (fun d => decide (131072 ≤ (dyRound (e0 - 17) d).natAbs))
    let e1 := if carry then e0 + 1 else e0
    if 31 < e1 then ({ e := 31, m := l.map (fun d => max (-131071) (min 131071 (dyRound 14 d))) }, true)
    else
      let e := max (-32) e1
      ({ e := e, m := l.map (dyRound (e - 17)) }, false)

/-- A term of a sum: its value and the exponent it is aligned by (R92). -/
abbrev Term := Dy × Int

/-- A vector's element as a number, and as a term of the vector's exponent. -/
def Block.val (b : Block) (i : Nat) : Dy := (b.m.getD i 0, b.e - 17)
def Block.term (b : Block) (i : Nat) : Term := (b.val i, b.e)

/-- A number that is in no block-floating vector as a term: DESIGN CHOICE: the least exponent that bounds it, at least −32. -/
def Dy.term (d : Dy) : Term := (d, max (-32) ((dyExp d).getD (-32)))

/-- A term subtracted (DESIGN CHOICE: negated before it is truncated). -/
def negTerm (t : Term) : Term := ((-t.1.1, t.1.2), t.2)

/-- A sum in the accumulator (R92): every term is aligned to the term of the largest exponent, truncating toward minus infinity below the
accumulator's least significant bit (DESIGN CHOICE: that of a product of the largest exponent, 34 bits below it). -/
def accSum (l : List Term) : Dy :=
  let e := ((l.map (·.2)).max?).getD 0
  let align (d : Dy) : Int :=
    if e - 34 ≤ d.2 then d.1 * 2 ^ (d.2 - (e - 34)).toNat else d.1.fdiv (2 ^ (e - 34 - d.2).toNat)
  ((l.map (fun t => align t.1)).sum, e - 34)

/-- The output code of a value (R95). -/
def outCode (d : Dy) : Int := max (-32768) (min 32767 (dyRound (-15) d))

/-! ### Coefficient banks (R98) -/

/-- Mantissa word `i` of a bank. -/
def coef (bank : List Word) (i : Nat) : Int := signed 18 ((bank.getD i 0).toNat % 2 ^ 18)

/-- Exponent `k` of word 104: A, L, K, FIR, AFF. -/
def bankExp (bank : List Word) (k : Nat) : Int := signed 6 ((bank.getD 104 0).toNat / 2 ^ (6 * k) % 64)

/-- The product of a coefficient with a vector's element, as a term: 36 bits, 34 of them fraction. -/
def mulTerm (bank : List Word) (exp i : Nat) (b : Block) (j : Nat) : Term :=
  ((coef bank i * b.m.getD j 0, bankExp bank exp + b.e - 34), bankExp bank exp + b.e)

/-! ### Accessors -/

/-- Section k, lane n. -/
def State.sec (s : State) (k : Nat) : Section := s.tus.secs.at k
def State.updSec (s : State) (k : Nat) (f : Section → Section) : State := { s with tus := { s.tus with secs := s.tus.secs.upd k f } }
def State.lane (s : State) (n : Nat) : Lane := s.tus.lanes.at n
def State.updLane (s : State) (n : Nat) (f : Lane → Lane) : State := { s with tus := { s.tus with lanes := s.tus.lanes.upd n f } }

/-- Lane n is enabled. -/
def State.laneOn (s : State) (n : Nat) : Bool := s.get (.TUS_SEC_CTRL_LANE_EN (n / 2)) / 2 ^ (n % 2) % 2 == 1

/-- Consecutive invalid wedge ticks of lane n. -/
def missFld (n : Nat) : Fld := if n % 2 = 0 then .TUS_SEC_STATUS_MISS0 (n / 2) else .TUS_SEC_STATUS_MISS1 (n / 2)
def ageFld (n : Nat) : Fld := if n % 2 = 0 then .TUS_SEC_INFO_AGE0 (n / 2) else .TUS_SEC_INFO_AGE1 (n / 2)

/-- The head position error |xc[0] + xc[5]| against a threshold in 1/1,024 track: it lies beyond it. -/
def Lane.beyond (l : Lane) (thr : Nat) : Bool :=
  let d := dyAdd (l.xc.val 0) (l.xc.val 5)
  decide (0 < (dyAdd (d.1.natAbs, d.2) (-(thr : Int), -10)).1)

/-! ### One lane's tick -/

/-- A demodulated position in 2^-48 track. -/
def posOf (w : Word) : Int := (w.toNat : Int) * 2 ^ 38

/-- The prediction of the PES of a wedge `age` cells before a tick, from the estimate for that tick (R88). -/
def pesPred (xp : Block) (age : Nat) : Dy :=
  let back (i : Nat) : Term := Dy.term (-(xp.m.getD i 0) * age, xp.e - 24)
  accSum [xp.term 0, xp.term 5, back 1, back 6]

/-- Stages 1 to 3 of an enabled lane (R88, R90): innovations, correction, feedback. A PES counts at the lane's first tick at or after
the wedge's MANG + 0x6_4000 (R86); an invalid one gives an innovation of 0 (R87), and so does an invalid strain sample (R78; DESIGN
CHOICE). A lane's reference starts at its first valid PES (R89). DESIGN CHOICE: until it has started there is no predicted track, so any
found mark is a valid PES (R87). DESIGN CHOICE: the acceleration an outer update delivered is multiplied at each tick by the AFF of the
bank then active (R96). -/
def State.laneTick (s : State) (n : Nat) (x : Strobe) : State :=
  let l := s.lane n
  let bank := (s.sec (n / 2)).bank
  let due := match l.latch with
    | some p => if ahead (p.pred + 0x6_4000) x.mang then some p else none
    | none => none
  let age : Nat := match due with | some p => (x.mang - p.pred).toNat / 4096 | none => 0
  let pred := pesPred l.xp age
  -- the reference where the wedge passed
  let refAt (l : Lane) : Int := l.r - l.v * age / 128
  let valid := match due with
    | some p => p.found && (!l.started ||
        decide ((((posOf p.pos).fdiv (2 ^ 48)) - (dyRound (-48) (dyAdd (refAt l, -48) pred)).fdiv (2 ^ 48)).natAbs ≤ 2))
    | none => false
  let l := if valid && !l.started then { l with started := true, r := (due.map (fun p => posOf p.pos)).getD 0, v := 0 } else l
  let z0 : Dy := match due with
    | some p => if valid then accSum [Dy.term (posOf p.pos - refAt l, -48), negTerm (Dy.term pred)] else (0, -48)
    | none => (0, -48)
  let held := s.is (.WTH_MA_CTRL_HOLD n)
  let z1 : Dy := match x.strain.getD n none with
    | some v => if held then (0, -15) else accSum [((v, -15), 0), negTerm (l.xp.term 5)]
    | none => (0, -15)
  let (z, sz) := normalize [z0, z1, (x.imeas.getD (n / 2) 0, -15)]
  let row (i : Nat) : Dy :=
    accSum [l.xp.term i, mulTerm bank 1 (64 + 3 * i) z 0, mulTerm bank 1 (65 + 3 * i) z 1, mulTerm bank 1 (66 + 3 * i) z 2]
  let (xc, sx) := normalize ((List.range 8).map row)
  let aff : Term := Dy.term (l.acc * coef bank 122, bankExp bank 4 - 65)
  let fb (o : Nat) : Dy :=
    accSum ((if o = 0 then [aff] else []) ++ (List.range 8).map (fun i => negTerm (mulTerm bank 2 (88 + 8 * o + i) xc i)))
  let (u, su) := normalize [fb 0, fb 1]
  let l := { l with xc := xc, u := u, wedge := due.isSome, valid := valid, sat := sz || sx || su,
                    latch := if due.isSome then none else l.latch }
  let s := s.updLane n (fun _ => l)
  s.when due.isSome (fun s =>
    (s.set (missFld n) (if valid then 0 else min 255 (s.get (missFld n) + 1))).set (ageFld n) (min age 255))

/-- A disabled lane (R86, R89): its states are held at 0 and it uses no wedge. -/
def State.laneOff (s : State) (n : Nat) : State := s.updLane n (fun l => { errInh := l.errInh, quiet := l.quiet })

/-- The prediction of step 12 (R88, R96), with the steps in reference position and velocity that an outer update makes. -/
def State.lanePredict (s : State) (n : Nat) (dr dv : Int) : State :=
  let bank := (s.sec (n / 2)).bank
  s.updLane n (fun l =>
    let step (i : Nat) : List Term := if i = 0 then [Dy.term (-dr, -48)] else if i = 1 then [Dy.term (-dv, -48)] else []
    let row (i : Nat) : Dy := accSum ((List.range 8).map (fun j => mulTerm bank 0 (8 * i + j) l.xc j) ++ step i)
    let (xp, sat) := normalize ((List.range 8).map row)
    { l with xp := xp, sat := l.sat || sat })

/-! ### One section's outputs -/

/-- The section's VCM command after lane combination (R89): weights of 15 fraction bits. -/
def State.combined (s : State) (k : Nat) : Dy :=
  let part (n w : Nat) : List Term :=
    let u := (s.lane n).u
    if s.laneOn n then [((u.m.getD 0 0 * w, u.e - 32), u.e)] else []
  accSum (part (2 * k) (s.get (.TUS_VWEIGHT_W0 k)) ++ part (2 * k + 1) (s.get (.TUS_VWEIGHT_W1 k)))

/-- The coupling products of section k (R101), from the combined commands of the others. -/
def State.coupling (s : State) (c : List Dy) (k : Nat) : List Term :=
  ((List.range 4).filter (· ≠ k)).map (fun j =>
    let d := c.getD j (0, 0)
    Dy.term (d.1 * s.tus.xc.getD (4 * k + j) 0, d.2 + s.tus.xcExp - 17))

/-- The outputs of section k at cycle 48 (R90, R95): the VCM code and both microactuator words, which Withy takes (R75, R77). -/
def State.outputs (s : State) (c : List Dy) (k : Nat) : State :=
  let d := accSum ([Dy.term (c.getD k (0, 0))] ++ (if s.is .TUS_CTRL_XC_EN then s.coupling c k else []) ++
    (if s.is .TUS_CTRL_RVFF_EN then [Dy.term (s.sec k).rvff] else []))
  let s := (s.updSec k (fun x => { x with code := outCode d })).driveVcm k
  s.forN 2 (fun i s =>
    let n := 2 * k + i
    let word : Int := if s.laneOn n then outCode ((s.lane n).u.val 1) else 0
    { s with withy := { s.withy with ma := s.withy.ma.put n word } }.driveMa n)

/-- The vibration term of the next tick (R103): 16 taps over the samples up to this tick. -/
def State.vibTerm (s : State) (k : Nat) : State :=
  let bank := (s.sec k).bank
  let sum := ((List.range 16).map (fun t => coef bank (106 + t) * s.tus.rv.getD t 0)).sum
  s.updSec k (fun x => { x with rvff := (sum, bankExp bank 3 - 17 - 27) })

/-! ### Saturation and write inhibit (R94, R117) -/

/-- Saturation of the tick in section k (R94). -/
def State.judgeSat (s : State) (k : Nat) : State :=
  let sat := (s.laneOn (2 * k) && (s.lane (2 * k)).sat) || (s.laneOn (2 * k + 1) && (s.lane (2 * k + 1)).sat)
  let run := if sat then (s.sec k).satRun + 1 else 0
  let s := (s.updSec k (fun x => { x with satRun := run })).setIf (.TUS_SEC_STATUS_SAT k) sat
  let f := s.get .TUS_STATUS_NUM_SAT
  let s := s.set .TUS_STATUS_NUM_SAT (f - f / 2 ^ k % 2 * 2 ^ k + sat.toNat * 2 ^ k)
  s.when sat (fun s => s.incSat (.TUS_SAT_CNT_COUNT k))

/-- The conditions of R117 other than position error. -/
def State.winhOther (s : State) (n : Nat) : Bool :=
  s.is (.TUS_SEEK_STATUS_SEEKING (n / 2)) || decide (2 ≤ s.get (missFld n)) || decide (0 < (s.sec (n / 2)).satRun)

/-- Lane n's write inhibit bit follows its conditions; when it rises, a raised write gate drops (R117, R191 cause 2). -/
def State.showWinh (s : State) (n : Nat) : State :=
  let k := n / 2
  let w := s.get (.TUS_SEC_STATUS_WINH k)
  let b := 2 ^ (n % 2)
  let on := s.winhOther n || (s.lane n).errInh
  let s := s.set (.TUS_SEC_STATUS_WINH k) (w - w / b % 2 * b + on.toNat * b)
  s.when (on && w / b % 2 == 0) (fun s => s.inhibitDrop n 2)

/-- Lane n's position error against WINH_THR at this tick, and its quiet ticks (R117). -/
def State.judgeWinh (s : State) (n : Nat) : State :=
  let far := s.laneOn n && (s.lane n).beyond (s.get (.TUS_SETTLE_WINH_THR (n / 2)))
  let other := s.winhOther n
  (s.updLane n (fun l =>
    { l with errInh := l.errInh || far, quiet := if far || other then 0 else min 8 (l.quiet + 1) })).showWinh n

/-! ### Regions (R97–R100) -/

/-- A slip alarm or a change of TBAND makes calibration of section k necessary (R258): it waits in queue 16. -/
def State.needCal (s : State) (k : Nat) : State :=
  let q := if k ∈ s.mq.calibration then s.mq.calibration else s.mq.calibration ++ [k]
  { s with mq := { s.mq with calibration := q } }.set .MWQ_SYS_STATUS_CAL q.length

/-- The primary slot of section k: PRI_SLOT, held from a GO to SETTLED (R109). -/
def State.priSlot (s : State) (k : Nat) : Nat :=
  if s.is (.TUS_SEEK_STATUS_SEEKING k) then (s.sec k).seek.pri else s.get (.TUS_SEC_CTRL_PRI_SLOT k)

/-- The zone and temperature bits of section k with their hysteresis (R97), from the primary lane's reference track; DESIGN CHOICE: track 0
while that lane is disabled or its reference has not started. -/
def State.judgeZone (s : State) (k : Nat) (temp : List Int) : State :=
  let l := s.lane (2 * k + s.priSlot k)
  let track := l.r.fdiv (2 ^ 48)
  let t := temp.getD (s.get .TUS_TEMP_CFG_SRC) 0
  let thr : Int := s.get .TUS_TEMP_CFG_THRESH
  let was := (s.sec k).tband
  let s := s.updSec k (fun x =>
    let z (i : Nat) : Bool :=
      let b : Int := s.get (.TUS_ZONE_BND_TRACK k i)
      if x.zones.getD i false then decide (b - 64 < track) else decide (b + 64 ≤ track)
    { x with zones := (List.range 3).map z, tband := if x.tband then decide (thr - 1 ≤ t) else decide (thr + 1 ≤ t) })
  s.when ((s.sec k).tband != was) (fun s => s.needCal k)

/-- A count that TEL_SERVO returns (R253). -/
def State.telServo (s : State) (k : Nat) (f : ServoTel → ServoTel) : State :=
  { s with aq := { s.aq with servo := s.aq.servo.upd k f } }

/-- The region that the selection asks for. -/
def State.wantedRegion (s : State) (k : Nat) : Nat :=
  if s.is (.TUS_SEC_CTRL_FORCE_EN k) then s.get (.TUS_SEC_CTRL_REGION_FORCE k)
  else 8 * s.get (.TUS_SEEK_STATUS_SEEKING k) + 2 * ((s.sec k).zones.filter id).length + (s.sec k).tband.toNat

/-- A region's fetch into the shadow bank starts (R99). -/
def State.fetchRegion (s : State) (k r : Nat) : State :=
  (s.updSec k (fun x => { x with fetching := some r, shadow := none, badTag := none })).set (.TUS_SEC_STATUS_REGION_PEND k) 1

/-- A selection that changed is fetched, the newest one always (R99), unless the tables are not valid (R100). A region that was refused
for its tag is fetched again once the selection has changed. -/
def State.selectRegion (s : State) (k : Nat) : State :=
  let w := s.wantedRegion k
  let x := s.sec k
  if !s.is .TUS_CTRL_TABLES_VALID then s
  else match x.fetching.orElse (fun _ => x.shadow.map (·.1)) with
    | some r => if r = w then s else s.fetchRegion k w
    | none =>
      if s.get (.TUS_SEC_STATUS_REGION k) = w then s.updSec k (fun x => { x with badTag := none })
      else if x.badTag = some w then s
      else s.fetchRegion k w

/-- TABLES_VALID is 0 (R100): the active region is frozen, and what is fetched or waits in the shadow bank is dropped. -/
def State.freezeRegion (s : State) (k : Nat) : State :=
  (s.updSec k (fun x => { x with fetching := none, shadow := none, badTag := none })).set (.TUS_SEC_STATUS_REGION_PEND k) 0

/-- A fetched region becomes active at an outer update (R99). -/
def State.activateRegion (s : State) (k : Nat) : State :=
  match (s.sec k).shadow with
  | some (r, words) =>
    ((s.updSec k (fun x => { x with bank := words, shadow := none })).set (.TUS_SEC_STATUS_REGION k) r).set
      (.TUS_SEC_STATUS_REGION_PEND k) 0
  | none => s

/-- The 128 words of the entry of section k's region r in the servo table (R98). -/
def State.regionWords (s : State) (k r : Nat) : List Word :=
  (List.range 128).map (fun w => s.tus.tables.at (s.get .TUS_TBL_BASE_BASE * 8192 + (16 * k + r) * 128 + w))

/-- The tag of section k's region r (R98). -/
def regionTag (k r : Nat) : Word := BitVec.ofNat 32 (0xA500_0000 + k * 65536 + r * 256)

end Sys2Proof.Machine
end

