-- ==== Sys2Proof/Machine/Seeks.lean ====
section
/-! DEFINITION. Profile generators (05): the minimum-time plan under limits of velocity, acceleration and jerk, seeks, hints,
settling, and the spindle's speed reference. Positions, velocities and accelerations are in 2^-48 track and tick. -/

namespace Sys2Proof.Machine

/-! ### Plans (R111) -/

/-- The limits of a plan per tick: velocity, acceleration, jerk. -/
structure Limits where
  v : Int
  a : Int
  j : Int
deriving DecidableEq, Repr

/-- A time `num / den`, in units of 2^-g, to the nearest. -/
def gridTime (g : Nat) (num den : Int) : Nat :=
  if den = 0 then 0 else ((num * 2 ^ (g + 1) + den).fdiv (2 * den)).toNat

/-- The phases, as jerk sign and duration, that change the velocity by `dv` in minimum time, from an acceleration `a` to an
acceleration of 0. `a` outside the limit is brought to it first (R114). -/
def velPlan (g : Nat) (l : Limits) (a dv : Int) : List (Int × Nat) :=
  -- the change that bringing `a` to 0 makes by itself, times 2 j
  let sgn : Int := if a * a.natAbs ≤ 2 * l.j * dv then 1 else -1
  let a := sgn * a
  let dv := sgn * dv
  let peak : Int := Nat.sqrt (l.j * dv + a * a / 2).toNat
  let top := min peak l.a
  let used := (top + a) * (top - a).natAbs + top * top
  let hold := if peak ≤ l.a then 0 else gridTime g (2 * l.j * dv - used) (2 * l.j * l.a)
  [(if a ≤ top then sgn else -sgn, gridTime g (top - a).natAbs l.j), (0, hold), (-sgn, gridTime g top l.j)]

/-- The state after `t` units of a phase of jerk sign `j` (R111). -/
def phaseAt (g : Nat) (jerk : Int) (p v a : Int) (j : Int) (t : Nat) : Int × Int × Int :=
  let j := j * jerk
  (p + (v * t).fdiv (2 ^ g) + (a * t ^ 2).fdiv (2 ^ (2 * g + 1)) + (j * t ^ 3).fdiv (6 * 2 ^ (3 * g)),
   v + (a * t).fdiv (2 ^ g) + (j * t ^ 2).fdiv (2 ^ (2 * g + 1)),
   a + (j * t).fdiv (2 ^ g))

/-- The state after `t` units of a plan, and the phase it is in: 0 once the plan has ended (R125). -/
def planAt (g : Nat) (jerk : Int) : List (Int × Nat) → Nat → Nat → Int → Int → Int → (Int × Int × Int) × Nat
  | [], _, _, p, v, a => ((p, v, a), 0)
  | (j, d) :: rest, i, t, p, v, a =>
    if t < d then (phaseAt g jerk p v a j t, i)
    else
      let (p', v', a') := phaseAt g jerk p v a j d
      planAt g jerk rest (i + 1) (t - d) p' v' a'

/-- How far a plan moves from a velocity and an acceleration. -/
def planMove (g : Nat) (jerk : Int) (l : List (Int × Nat)) (v a : Int) : Int :=
  (planAt g jerk l 1 ((l.map (·.2)).sum) 0 v a).1.1

/-- A plan cut off after `t` units. -/
def planTake : List (Int × Nat) → Nat → List (Int × Nat)
  | [], _ => []
  | (j, d) :: rest, t => if t < d then [(j, t)] else (j, d) :: planTake rest (t - d)

/-- The plan that follows the way `up` to a limit velocity for `t` units and then stops as fast as the limits allow: phases 1 to 3, a
cruise of 0, phases 5 to 7. Where the acceleration still raises the speed, phase 3 ends it. -/
def turnAt (l : Limits) (up : List (Int × Nat)) (v a : Int) (sgn : Int) (t : Nat) : List (Int × Nat) :=
  let x := planTake up t
  let ((_, v1, a1), _) := planAt 16 l.j x 1 t 0 v a
  let pad (n : Nat) : List (Int × Nat) := List.replicate (n - x.length) (0, 0)
  if 0 < sgn * a1 ∧ x.length < 3 then
    let d := gridTime 16 a1.natAbs l.j
    let ((_, v2, _), _) := planAt 16 l.j [(-sgn, d)] 1 d 0 v1 a1
    x ++ pad 2 ++ [(-sgn, d), (0, 0)] ++ velPlan 16 l 0 (-v2)
  else x ++ pad 3 ++ [(0, 0)] ++ velPlan 16 l a1 (-v1)

/-- The latest moment to stop, by halving: the move grows with it, in the direction `sgn`. -/
def turnFor (l : Limits) (up : List (Int × Nat)) (v a d sgn : Int) : Nat → Nat → Nat → Nat
  | 0, lo, _ => lo
  | k + 1, lo, hi =>
    let mid := (lo + hi) / 2
    if sgn * planMove 16 l.j (turnAt l up v a sgn mid) v a ≤ sgn * d then turnFor l up v a d sgn k mid hi
    else turnFor l up v a d sgn k lo mid

/-- The minimum-time plan of at most seven phases that moves by `d` and ends at rest (R111, R113): toward the side on which a stop begun
now falls short, as fast as the limits allow for as long as a stop still ends at the target; at the limit velocity it cruises. A speed
beyond the limit comes down to it on the way (R114), where a stop does not go below it first; DESIGN CHOICE: with an acceleration of 0
there, the cruise's. -/
def movePlan (l : Limits) (v a d : Int) : List (Int × Nat) :=
  let sgn : Int := if planMove 16 l.j (velPlan 16 l a (-v)) v a ≤ d then 1 else -1
  let up := velPlan 16 l a (sgn * l.v - v)
  let full := up ++ [(0, 0)] ++ velPlan 16 l 0 (-(sgn * l.v))
  let rest := d - planMove 16 l.j full v a
  if 0 ≤ sgn * rest then up ++ [(0, gridTime 16 rest (sgn * l.v))] ++ velPlan 16 l 0 (-(sgn * l.v))
  else turnAt l up v a sgn (turnFor l up v a d sgn 64 0 ((up.map (·.2)).sum))

/-- The plan from any state (R111, R113, R114). From rest at the target there is nothing to plan (R113). -/
def seekPlan (l : Limits) (v a d : Int) : List (Int × Nat) := if v = 0 ∧ a = 0 ∧ d = 0 then [] else movePlan l v a d

/-! ### A section's generator -/

/-- ASCALE: 0 and values above 256 act as 256, and so does any value from the power-fail commit on (R121, R125). -/
def State.ascale (s : State) : Nat :=
  let x := s.get .TUS_SEEK_GLOBAL_ASCALE
  if x = 0 ∨ 256 < x ∨ 2 ≤ s.get .WEIR_STATUS_PF then 256 else x

/-- The programmed limits of section k: VMAX, AMAX, JMAX, ASCALE. -/
def State.limitRegs (s : State) (k : Nat) : List Nat :=
  [s.get (.TUS_PROF_V_VMAX k), s.get (.TUS_PROF_A_AMAX k), s.get (.TUS_PROF_J_JMAX k), s.ascale]

/-- Limits per tick of 128 cells of PERIOD / 2^16 ns (R110). -/
def State.limitsOf (s : State) (r : List Nat) : Limits :=
  let p : Int := s.get .TIDE_CELL_PERIOD_PERIOD
  let sc : Int := r.getD 3 256
  { v := (r.getD 0 0 : Int) * p * 2 ^ 39 / 10 ^ 6
    a := (r.getD 1 0 : Int) * sc * p ^ 2 * 2 ^ 22 / 10 ^ 12
    j := (r.getD 2 0 : Int) * 1000 * sc * p ^ 3 * 2 ^ 13 / 10 ^ 18 }

/-- The generator's state now: position, velocity, acceleration, phase. -/
def Seek.now (q : Seek) : (Int × Int × Int) × Nat :=
  let total := (q.phases.map (·.2)).sum
  if total ≤ q.elapsed then ((q.target, 0, 0), 0) else planAt 16 q.jerk q.phases 1 q.elapsed q.p0 q.v0 q.a0

/-- A new plan from a state to the target. -/
def State.plan (s : State) (k : Nat) (lims : List Nat) (target : Int) (st : Int × Int × Int) : State :=
  let l := s.limitsOf lims
  s.updSec k (fun x => { x with seek := { x.seek with
    target := target, p0 := st.1, v0 := st.2.1, a0 := st.2.2, jerk := l.j, lims := lims, elapsed := 0, moving := true,
    phases := seekPlan l st.2.1 st.2.2 (target - st.1), settle := 0 } })

/-- The reference state that a plan starts from: the running plan's, or the lane at rest. DESIGN CHOICE: the lane's r of 0 while its
reference has not started (R109). -/
def State.genState (s : State) (k : Nat) : Int × Int × Int :=
  let q := (s.sec k).seek
  if q.moving then q.now.1 else ((s.lane (2 * k + q.pri)).r, 0, 0)

/-- A target register in 2^-48 track. -/
def State.seekTarget (s : State) (k i : Nat) : Int :=
  (s.get (.TUS_SEEK_TGT_TRACK k i) * 1024 + s.get (.TUS_SEEK_TGT_FRAC k i) : Nat) * 2 ^ 38

/-- A GO sampled at an outer update (R109, R110, R118): refused for a zero limit, a hint ignored while real work seeks or settles. -/
def State.sampleGo (s : State) (k : Nat) : State :=
  let hint := s.is (.TUS_SEEK_CTRL_HINT k)
  let busy := s.is (.TUS_SEEK_STATUS_SEEKING k) && !s.is (.TUS_SEEK_STATUS_HINT_ACTIVE k)
  if hint && busy then s.set (.TUS_SEEK_STATUS_HINT_REJ k) 1
  else if (s.limitRegs k).any (· == 0) then s.set (.TUS_SEEK_STATUS_PARAM_ERR k) 1
  else
    let q := (s.sec k).seek
    let pri := if s.is (.TUS_SEEK_STATUS_SEEKING k) then q.pri else s.get (.TUS_SEC_CTRL_PRI_SLOT k)
    let s := s.updSec k (fun x => { x with seek := { x.seek with
      pri := pri, diff := s.seekTarget k (1 - pri) - s.seekTarget k pri } })
    let s := s.plan k (s.limitRegs k) (s.seekTarget k pri) (s.genState k)
    let s := ((s.inc (.TUS_SEEK_STATUS_SEEK_SEQ k)).set (.TUS_SEEK_STATUS_SEEKING k) 1).set (.TUS_SEEK_STATUS_SETTLED k) 0
    (s.setIf (.TUS_SEEK_STATUS_HINT_ACTIVE k) hint).telServo k (fun x => { x with seeks := (x.seeks + 1) % 2 ^ 32 })

/-- ABANDON of a running hint seek (R119): the nearest whole track at or beyond the place where a stop begun now would rest. -/
def State.sampleAbandon (s : State) (k : Nat) : State :=
  if s.is (.TUS_SEEK_STATUS_HINT_ACTIVE k) && s.is (.TUS_SEEK_STATUS_SEEKING k) then
    let q := (s.sec k).seek
    let (p, v, a) := s.genState k
    let l := s.limitsOf q.lims
    let stop := p + planMove 16 l.j (velPlan 16 l a (-v)) v a
    let up := stop - p
    let t := if 0 ≤ up then -((-stop).fdiv (2 ^ 48)) else stop.fdiv (2 ^ 48)
    s.plan k q.lims (t * 2 ^ 48) (p, v, a)
  else s

/-- Limits written during a seek (R114): a zero one is not taken. A plan that has ended stands at its target. -/
def State.sampleLimits (s : State) (k : Nat) : State :=
  let q := (s.sec k).seek
  let regs := s.limitRegs k
  if s.is (.TUS_SEEK_STATUS_SEEKING k) then
    let take := (List.range 4).map (fun i => if regs.getD i 0 = 0 then q.lims.getD i 0 else regs.getD i 0)
    let s := s.when (regs.any (· == 0)) (fun s => s.set (.TUS_SEEK_STATUS_PARAM_ERR k) 1)
    if take = q.lims then s
    else if q.moving then s.plan k take q.target (s.genState k)
    else s.updSec k (fun x => { x with seek := { x.seek with lims := take } })
  else s

/-- What the outer update of section k delivers (R96, R109, R112): the limits then in force are taken, the last command written acts, the
plan's r, v and acceleration go to the enabled lanes. -/
def State.outerUpdate (s : State) (k : Nat) : State :=
  let cmd := (s.sec k).seek.cmd
  let s := (s.updSec k (fun x => { x with seek := { x.seek with cmd := none } })).sampleLimits k
  let s := match cmd with
    | some true => s.sampleGo k
    | some false => s.sampleAbandon k
    | none => s
  let q := (s.sec k).seek
  if q.moving then
    let ((p, v, a), ph) := q.now
    let s := s.set (.TUS_SEEK_STATUS_PHASE k) (min ph 7)
    let s := s.updSec k (fun x => { x with seek := { x.seek with moving := decide (ph ≠ 0) } })
    s.forN 2 (fun i s => s.when (s.laneOn (2 * k + i) && (s.lane (2 * k + i)).started) (fun s =>
      let l := s.lane (2 * k + i)
      let r := if i = q.pri then p else p + q.diff
      (s.updLane (2 * k + i) (fun l => { l with r := r, v := v, acc := a })).lanePredict (2 * k + i) (r - l.r) (v - l.v)))
  else s

/-- The settle count of section k at a wedge tick of its primary lane (R115). -/
def State.countSettle (s : State) (k : Nat) : State :=
  let q := (s.sec k).seek
  let l := s.lane (2 * k + q.pri)
  if s.is (.TUS_SEEK_STATUS_SEEKING k) && l.wedge then
    let ok := !q.moving && l.valid && !l.beyond (s.get (.TUS_SETTLE_SETTLE_WIN k))
    s.updSec k (fun x => { x with seek := { x.seek with settle := if ok then min 15 (x.seek.settle + 1) else 0 } })
  else s

/-- Step 12 of section k (R90, R96): prediction, the references' advance, the outer update on the primary lane's wedge tick. All of it uses
the bank sampled at the strobe (R85), so a fetched region becomes active after it (R99). -/
def State.step12 (s : State) (k : Nat) : State :=
  let pri := 2 * k + s.priSlot k
  let s := s.updSec k (fun x => { x with seek := { x.seek with elapsed := x.seek.elapsed + 65536 } })
  let s := s.forN 2 (fun i s => s.when (s.laneOn (2 * k + i)) (fun s =>
    (s.lanePredict (2 * k + i) 0 0).updLane (2 * k + i) (fun l => { l with r := l.r + l.v })))
  let s := s.countSettle k
  s.when (s.laneOn pri && (s.lane pri).wedge) (fun s => (s.outerUpdate k).activateRegion k)

/-! ### The spindle generator (R122, R123) -/

/-- The spindle's reference and its rate after one tick toward the target: |rate| ≤ RATE, |change of rate| ≤ RACC; at the current
limit it keeps within 20 rpm of the measured speed. Units 2^-32 rpm and second. -/
def State.spinPlan (s : State) : Int × Int :=
  let speed := s.get .WTH_SPN_MEAS_SPEED
  let goal : Int := (s.spinTarget : Int) * 2 ^ 22
  let l : Limits := { v := 0, a := (s.get .TUS_SPN_PROF_RATE : Int) * 2 ^ 32, j := (s.get .TUS_SPN_PROF_RACC : Int) * 2 ^ 32 }
  let dt := 15 * 2 ^ 31 / speed
  let plan := velPlan 32 l s.tus.rate (goal - s.tus.ref)
  let (_, v, a) := (planAt 32 l.j plan 1 dt 0 s.tus.ref s.tus.rate).1
  let done := decide ((plan.map (·.2)).sum ≤ dt)
  let v := if done then goal else v
  let atLimit := decide (s.limitQ s.withy.iq (s.getS .WTH_SPN_FOC_ID) = s.withy.iq) &&
    decide ((s.currentLimit : Int) ≤ s.withy.iq)
  let cap : Int := (speed + 20 * 1024 : Nat) * 2 ^ 22
  (if atLimit && decide (cap < v) then max s.tus.ref cap else v, if done then 0 else a)

/-- The speed that the spindle loop measures (R104): WTH_SPN_MEAS before timing lock, the tick's cell period after it (R40 step 4). -/
def State.loopSpeed (s : State) (x : Strobe) : Nat :=
  if s.tideLocked && x.period != 0 then cellSpeed x.period else s.get .WTH_SPN_MEAS_SPEED

/-- A gain of the spindle loop times its error, as a term (R91, R92). -/
def gainTerm (m e : Int) (b : Block) : Term := ((m * b.m.getD 0 0, e + b.e - 34), e + b.e)

/-- The speed error of the spindle loop in 2^-10 rpm (R104): the shaped reference, with the phase correction of R50 while ENC_SYNC_IN
commands the speed (R70), less the measured speed. -/
def State.spinError (s : State) (x : Strobe) : Int :=
  s.tus.ref.fdiv (2 ^ 22) + (if s.is .WTH_SPN_CTRL_SRC then s.tide.phaseOff else 0) - s.loopSpeed x

/-- One tick of the spindle loop (R104), proportional and integral in block-floating form (R91–R94): its integrator takes KI times the
error, and the q-axis command is KP times the error plus the integrator, which Withy limits (R68) and uses only in RUN; both are held while
the FETs are off (R67, R123). DESIGN CHOICE: the error counts rpm and the command mA, the integrator acts with the tick's own error in it,
and the command is rounded to the nearest mA. -/
def State.spinLoop (s : State) (x : Strobe) : State :=
  if !s.spinIs 5 || s.withy.keOff then s
  else
    let (e, _) := normalize [(s.spinError x, -10)]
    let (integ, _) := normalize [accSum [s.tus.integ.term 0, gainTerm (s.getS .TUS_SPN_KI_M) (s.getS .TUS_SPN_KI_EXP) e]]
    let iq := dyRound 0 (accSum [gainTerm (s.getS .TUS_SPN_KP_M) (s.getS .TUS_SPN_KP_EXP) e, integ.term 0])
    { s with
      tus := { s.tus with integ := integ }
      withy := { s.withy with iq := s.limitQ iq (s.getS .WTH_SPN_FOC_ID) } }

/-- One tick of the timing loop (R39, R104): the mean phase error of the healthy heads, or in HOLDOVER of the servo sync marks that came
since the last tick, gives the rate step of the MANG interpolator; DESIGN CHOICE: a mean between two units is taken as the
lower one. FREE and ACQUIRE have no phase reference. -/
def State.timingLoop (s : State) (x : Strobe) : State :=
  let st := s.get .TIDE_STATUS_STATE
  let heads := (List.range 2).filterMap (fun h => if s.is (headOk h) then x.phase.getD h none else none)
  let l := if st = 5 then s.tus.marks else heads
  let s := { s with tus := { s.tus with marks := [] } }
  if st < 2 ∨ l = [] then s
  else
    let bw := if s.get .TIDE_CTRL_BW_SEL = 3 then 1 else s.get .TIDE_CTRL_BW_SEL
    let (step, states) := Config.timingLoop st bw (s.get .TIDE_CELL_PERIOD_PERIOD) (l.sum.fdiv l.length) s.tus.timing
    { s with tus := { s.tus with timing := states, rateStep := step } }

/-- One tick of the spindle's reference (R122); a RATE or RACC of 0 holds it. DESIGN CHOICE: the rate that it had before a hold stays, and
the plan goes on from it after the hold. -/
def State.spinRef (s : State) : State :=
  if !s.spinIs 5 || s.withy.keOff || s.get .TUS_SPN_PROF_RATE == 0 || s.get .TUS_SPN_PROF_RACC == 0 || s.get .WTH_SPN_MEAS_SPEED == 0
  then s
  else
    let p := s.spinPlan
    { s.set .TUS_SPN_REF_REF (p.1.fdiv (2 ^ 22)).toNat with tus := { s.tus with ref := p.1, rate := p.2 } }

end Sys2Proof.Machine
end

