-- ==== Sys2Proof/Machine/Preamp.lean ====
section
/-! DEFINITION. The preamplifier control links (R479, R500–R503): frames with their CRC, responses, retries and faults. -/

namespace Sys2Proof.Machine

/-- Link l, and a change of it. -/
def State.link (s : State) (l : Nat) : Link := s.links.at l
def State.updLink (s : State) (l : Nat) (f : Link → Link) : State := { s with links := s.links.upd l f }

/-- CRC-8 with polynomial 0x07 and initial value 0 over the `w` low bits of `v`, most significant first (R501). -/
def crc8 (w v : Nat) : Nat :=
  (List.range w).foldl (fun c i =>
    let c' := c * 2 % 256
    if (c / 128 + v / 2 ^ (w - 1 - i)) % 2 = 1 then c' ^^^ 0x07 else c') 0

/-- A frame of TYPE and a payload of `w` bits: start bit 0, TYPE, payload, CRC (R501). -/
def plFrame (type_ w payload : Nat) : Nat := (type_ * 2 ^ w + payload) * 256 + crc8 (w + 3) (type_ * 2 ^ w + payload)

/-- The frame of a WRITE or a READ. -/
def PlFrame.bits (f : PlFrame) : Nat :=
  match f.data with
  | some d => plFrame 2 27 (f.head % 8 * 2 ^ 24 + f.addr % 256 * 2 ^ 16 + d % 2 ^ 16)
  | none => plFrame 3 11 (f.head % 8 * 2 ^ 8 + f.addr % 256)

/-- The TIMEBASE symbol of a tick on every link that runs (R47, R501). -/
def State.timebaseFrames (s : State) : State :=
  let v := plFrame 1 14 (s.mang.toNat / 2 ^ 19 * 2 + s.tideLocked.toNat)
  s.forN 5 (fun l s => s.when ((s.link l).released && s.domainOn (89 + l)) (fun s => s.updLink l (fun x => { x with timebase := v })))

/-- A WRITE or READ is sent: one may be outstanding on a link (R502). -/
def State.sendFrame (s : State) (l : Nat) (f : PlFrame) : State :=
  if (s.link l).released ∧ (s.link l).sent = none ∧ s.domainOn (89 + l) then s.updLink l (fun x => { x with sent := some f, wire := f.bits, fails := 0 })
  else s

/-- PL_WRITE_FRAME (R501). -/
def execPlWriteFrame (l head addr data : Nat) (s : State) : Host.Outcome State Fault Refusal :=
  .next (s.sendFrame l { head := head, addr := addr, data := some data })

/-- PL_READ_FRAME (R501). -/
def execPlReadFrame (l head addr : Nat) (s : State) : Host.Outcome State Fault Refusal :=
  .next (s.sendFrame l { head := head, addr := addr })

/-- An attempt failed (R502): the frame is sent again; the third failure in a row fails the link, and its section is retracted. -/
def State.frameFailed (s : State) (l : Nat) : State :=
  match (s.link l).sent with
  | none => s
  | some f =>
    let k := (s.link l).fails + 1
    if 3 ≤ k then
      let s := s.updLink l (fun x => { x with sent := none, fails := 0, state := 2 })
      s.when (decide (l < 4)) (fun s => s.startRetract l)
    else s.updLink l (fun x => { x with fails := k, wire := f.bits })

/-- PL_RESPONSE (R501, R502): start bit 0, the request's TYPE, DATA and CRC. A response that does not check is a failed attempt; a good
one of an identification register at HEAD 7 is kept for PREAMP_INFO. -/
def execPlResponse (l : Nat) (frame : Nat) (s : State) : Host.Outcome State Fault Refusal :=
  .next (s.clocked (89 + l) fun s => match (s.link l).sent with
    | none => s
    | some f =>
      let type_ := if f.data.isSome then 2 else 3
      let data := frame / 256 % 2 ^ 16
      if frame = plFrame type_ 16 data then s.updLink l (fun x =>
        { x with sent := none, fails := 0, reply := data, ident := if f.head = 7 ∧ f.addr < 5 then x.ident.put f.addr data else x.ident })
      else s.frameFailed l)

/-- PL_TIMEOUT (R502). -/
def execPlTimeout (l : Nat) (s : State) : Host.Outcome State Fault Refusal :=
  .next (s.clocked (89 + l) fun s => s.frameFailed l)

/-- A cause of MBX_START that does not displace an earlier one, with the failed sections (R479, R482). -/
def State.startCause (s : State) (cause failed : Nat) : State :=
  (s.when (s.get .MBX_START_CAUSE == 0) (fun s => s.set .MBX_START_CAUSE cause)).set .MBX_START_FAILED
    (s.get .MBX_START_FAILED ||| failed)

/-- PREAMP_DISCOVERY (R479): link l is released, and found with its registers 0x00–0x04, or not; after the second miss it has failed. -/
def execPreampDiscovery (l : Nat) (ident : Option (List Nat)) (s : State) : Host.Outcome State Fault Refusal :=
  let s := s.updLink l (fun x => { x with released := true })
  if !s.domainOn (89 + l) then .next s
  else match ident with
  | some regs => .next (s.updLink l (fun x =>
      { x with state := 1, missed := 0, ident := (List.range 5).foldl (fun t i => t.put i (regs.getD i 0)) x.ident }))
  | none =>
    if (s.link l).missed = 0 then .next (s.updLink l (fun x => { x with missed := 1 }))
    else
      let s := s.updLink l (fun x => { x with state := 2 })
      if l < 4 then .next (s.startCause 1 (2 ^ l))
      else .next ((s.startCause 2 0).set .MBX_START_RESULT 2)

/-- PREAMP_FAULT (R503): Mire is interrupted and ends the operations of the link's section with KILL, or restarts them. -/
def execPreampFault (l : Nat) (kill : Bool) (s : State) : Host.Outcome State Fault Refusal :=
  let s := (s.updLink l (fun x => { x with fault := true })).irqMire (.preamp l)
  if l < 4 then
    .next (s.forN 2 (fun i s => if kill then s.terminate (2 * l + i) 1 0
      else s.when (s.running (2 * l + i)) (fun s => s.restartDue (2 * l + i) 3)))
  else .next s

end Sys2Proof.Machine
end

