-- ==== Sys2Proof/Machine/ServoRows.lean ====
section
/-! DEFINITION. The rows of the servo engine (04, 05): the tick, wedges, regions, coupling, captures and seeks. -/

namespace Sys2Proof.Machine

/-- INNER_LOOP_TICK (R85–R104, R117, R122, R193): the strobe at `x.mang`. Coupling shadows pending are taken first (R102), every lane
computes, every section writes its outputs, then step 12; the loop unit runs its two loops. -/
def State.tick (s : State) (x : Strobe) : State :=
  -- a revolution of HOLDOVER, or of a reacquisition from it, ends where MANG wraps (R46)
  let wrapped := decide (x.mang.toNat < s.mang.toNat)
  let s := s.when (wrapped && (s.get .TIDE_STATUS_STATE == 5 || s.tide.reacquiring)) (fun s =>
    { s with tide := { s.tide with holdRevs := s.tide.holdRevs + 1 } })
  let s := (((s.atMang x.mang).slewMang.timingLoop x).convertAdvance x.period).timebaseFrames
  let s := s.when (s.is .TUS_STATUS_XC_PENDING) (fun s =>
    let m (i j : Nat) : Int := s.getS (.TUS_XC_M i j)
    { s.set .TUS_STATUS_XC_PENDING 0 with tus := { s.tus with
      xc := (List.range 16).map (fun i => m (i / 4) (i % 4)), xcExp := s.getS .TUS_XC_EXP_EXP } })
  let s := s.shockTick x.vib
  let s := s.forN 4 (fun k s => s.setS (.WTH_VCM_STATUS_IMEAS k) (x.imeas.getD k 0))
  let s := s.forN 8 (fun n s => match x.strain.getD n none with
    | some v => s.setS (.WTH_MA_STATUS_STRAIN n) v
    | none => s)
  let s := s.forN 8 (fun n s => if s.laneOn n then s.laneTick n x else s.laneOff n)
  let c := (List.range 4).map s.combined
  let s := s.forN 4 (fun k s => s.outputs c k)
  let rv := s.getS .TUS_RV_CFG_G01 * (x.vib.getD 0 0 - x.vib.getD 1 0) + s.getS .TUS_RV_CFG_G23 * (x.vib.getD 2 0 - x.vib.getD 3 0)
  let s := { s with tus := { s.tus with rv := (rv :: s.tus.rv).take 16 } }
  let s := s.forN 4 (fun k s =>
    let s := (((s.vibTerm k).step12 k).judgeZone k x.temp).judgeSat k
    let s := s.when (s.sec k).capPend (fun s =>
      let l := s.lane (2 * k + s.get (.TUS_SEC_CTRL_CAP_LANE k))
      let s := s.forN 8 (fun i s => s.setS (.TUS_CAP_M k i) (l.xc.m.getD i 0))
      let s := (s.setS (.TUS_SEC_INFO_CAP_EXP k) l.xc.e).set (.TUS_SEC_STATUS_CAP_DONE k) 1
      s.updSec k (fun x => { x with capPend := false }))
    s.selectRegion k)
  let s := s.forN 8 (fun n s => s.judgeWinh n)
  let s := s.forN 4 (fun k s => s.when (s.is (.TUS_SEC_STATUS_WINH k)) (fun s =>
    s.telServo k (fun x => { x with inhibits := (x.inhibits + 1) % 2 ^ 32 })))
  (s.spinLoop x).spinRef

/-- A difference divided by 256 with no stated rounding: the quotient, or the next one up. -/
def State.slipStep (s : State) (d : Int) : Int × State :=
  if d % 256 = 0 then (d / 256, s)
  else
    let (b, s) := s.draw 1
    (d.fdiv 256 + b, s)

/-- PES_DEMOD (R35, R44, R86): lane n's wedge completes. A track-following head's sync mark moves the surface's slip by 1/256 of its
lateness; beyond 2 cells TIDE_SLIP_ALARM is recorded for the surface. DESIGN CHOICE: a head is track-following here while its section is
under R46. -/
def execPesDemod (n : Nat) (x : Demod) (s : State) : Host.Outcome State Fault Refusal :=
  if s.laneOn n then
    let surf := s.surface n
    let pred := BitVec.ofNat 32 (x.wedge * 0x40_0000) + s.surfAngle surf
    let s := s.updLane n (fun l => { l with latch := some { pred := pred, found := x.found, pos := x.pos } })
    if x.found && s.trackFollowing (n / 2) then
      let s := { s with tus := { s.tus with marks := s.tus.marks ++ [x.late] } }
      let (d, s) := s.slipStep x.late
      let v := s.getS (.TIDE_SURF_SLIP_SLIP surf) + d
      let s := s.setS (.TIDE_SURF_SLIP_SLIP surf) v
      .next (s.when (decide (0x2000 < v.natAbs)) (fun s => (s.raise 0x0306 surf).needCal (n / 2)))
    else .next s
  else .next s

/-- TUS_PES_LOST (R87): the eighth consecutive invalid wedge tick of lane n. -/
def execTusPesLost (n : Nat) (s : State) : Host.Outcome State Fault Refusal :=
  .next (s.when (s.get (missFld n) == 8) (fun s =>
    (s.raise 0x0501 n).telServo (n / 2) (fun x => { x with pesLost := (x.pesLost + 1) % 2 ^ 32 })))

/-- TUS_NUM_SAT (R94): the eighth consecutive saturated tick; Aqsia parks the section with a retract (R79). -/
def execTusNumSat (k : Nat) (s : State) : Host.Outcome State Fault Refusal :=
  .next (s.when ((s.sec k).satRun == 8) (fun s => (s.raise 0x0502 k).when s.mireActs (fun s => s.startRetract k)))

/-- WINH_LIFT (R117). -/
def execWinhLift (n : Nat) (s : State) : Host.Outcome State Fault Refusal :=
  .next (s.when ((s.lane n).errInh && (s.lane n).quiet == 8 && !s.winhOther n) (fun s =>
    (s.updLane n (fun l => { l with errInh := false })).showWinh n))

/-- The seek of section k meets R115; a SETTLE_CNT of 0 acts as 1 (R116). -/
def State.settles (s : State) (k : Nat) : Bool :=
  s.is (.TUS_SEEK_STATUS_SEEKING k) && !(s.sec k).seek.moving &&
    decide (max 1 (s.get (.TUS_SETTLE_SETTLE_CNT k)) ≤ (s.sec k).seek.settle)

/-- The seek of section k settles (R115): MODE returns to 0. -/
def State.settleSeek (s : State) (k : Nat) : State :=
  (((s.set (.TUS_SEEK_STATUS_SETTLED k) 1).set (.TUS_SEEK_STATUS_SEEKING k) 0).set (.TUS_SEEK_STATUS_HINT_ACTIVE k) 0).selectRegion k

/-- RELOAD (R99, R100). -/
def execReload (k : Nat) (s : State) : Host.Outcome State Fault Refusal :=
  .next (s.ack.when (s.is .TUS_CTRL_TABLES_VALID) (fun s => s.fetchRegion k (s.get (.TUS_SEC_STATUS_REGION k))))

/-- REGION_FETCH_DONE (R99): a tag that does not match is recorded, and the active region stays; DESIGN CHOICE: REGION_PEND clears, and the
region is not fetched again until the selection changes or RELOAD is written. -/
def execRegionFetchDone (k : Nat) (s : State) : Host.Outcome State Fault Refusal :=
  match (s.sec k).fetching with
  | none => .next s
  | some r =>
    if !s.is .TUS_CTRL_TABLES_VALID then .next (s.updSec k (fun x => { x with fetching := none }))
    else
    let w := s.regionWords k r
    if w.getD 105 0 = regionTag k r then
      .next (s.updSec k (fun x => { x with fetching := none, shadow := some (r, w) }))
    else
      let s := s.updSec k (fun x => { x with fetching := none, badTag := some r })
      .next ((s.set (.TUS_SEC_STATUS_REGION_PEND k) 0).raise 0x0503 k)

/-- XC_COMMIT (R102). -/
def execXcCommit (s : State) : Host.Outcome State Fault Refusal := .next (s.ack.set .TUS_STATUS_XC_PENDING 1)

/-- CAP_GO (R108). -/
def execCapGo (k : Nat) (s : State) : Host.Outcome State Fault Refusal :=
  .next ((s.ack.set (.TUS_SEC_STATUS_CAP_DONE k) 0).updSec k (fun x => { x with capPend := true }))

/-- A GO or an ABANDON is latched; of several before an outer update the last acts (R109). -/
def State.latchSeek (s : State) (k : Nat) (go : Bool) : State :=
  s.updSec k (fun x => { x with seek := { x.seek with cmd := some go } })

end Sys2Proof.Machine
end

