-- ==== Sys2Proof/Machine/Memory.lean ====
section
/-! DEFINITION. Memory integrity (16): accesses to buffer DRAM as a requester makes them, with poisoned blocks (R384, R386, R387), and
the rows of the check codes, the scrubber and the poison map. -/

namespace Sys2Proof.Machine

/-- Sluice changed. -/
def State.updSlu (s : State) (f : Sluice → Sluice) : State := { s with slu := f s.slu }

/-- Staithe changed. -/
def State.updSth (s : State) (f : Staithe → Staithe) : State := { s with sth := f s.sth }

/-! ### Units of the protected cache (R316) -/

/-- Bytes of a unit. -/
def State.unitSize (s : State) : Nat := 4096 + metaBytes (s.get .SLU_PC_CFG_META)

/-- The first byte of a ledger entry's run. -/
def State.runAddr (s : State) (e : LedgerEntry) : Nat :=
  s.get .SLU_PC_CFG_BASE * 2 ^ 30 + e.section_ * 2 ^ 28 + e.unit * s.unitSize

/-- The bytes of a ledger entry's run. -/
def State.runBytes (s : State) (e : LedgerEntry) : Nat := e.count * s.unitSize

/-- The entry's run includes a byte of the block at `b`. -/
def State.runTouches (s : State) (e : LedgerEntry) (b : Nat) : Bool :=
  e.state != 0 && decide (s.runAddr e < b + 64) && decide (b < s.runAddr e + s.runBytes e)

/-! ### Poison -/

/-- The aligned 64-byte blocks that `len` bytes from `a` touch. -/
def blocksOf (a len : Nat) : List Nat := (List.range ((a + len + 63) / 64 - a / 64)).map (fun i => 64 * (a / 64 + i))

/-- The block at `b` carries the poison signature (R384). -/
def State.poisonedAt (s : State) (b : Nat) : Bool := s.slu.poisoned.at b

/-- SLU_PM_STATUS.COUNT follows the map. -/
def State.pmStatus (s : State) : State := s.set .SLU_PM_STATUS_COUNT s.slu.pm.length

/-- A record of the poison map is lost (R385, R386, R392). -/
def State.pmLost (s : State) : State := (s.set .SLU_PM_STATUS_OVF 1).raise 0x0906

/-- The block at `b` is poisoned and recorded (R384, R386); `owner` is the requester whose read found it. -/
def State.poisonBlock (s : State) (owner b : Nat) : State :=
  let led := s.slu.ledger.any (fun e => s.runTouches e.2 b)
  let mark (e : Nat × LedgerEntry) : Nat × LedgerEntry := if s.runTouches e.2 b then (e.1, { e.2 with poison := true }) else e
  let s := s.updSlu (fun u => { u with poisoned := u.poisoned.put b true, ledger := u.ledger.map mark })
  if s.slu.pm.length < 1024 then
    (s.updSlu (fun u => { u with pm := u.pm ++ [{ addr := b, source := owner, ledger := led }] })).pmStatus
  else s.pmLost

/-- An uncorrectable memory error before the power-fail warning takes both channels into self-refresh (R20). -/
def State.selfRefreshes (s : State) : State := s.when (!s.powerFailing) (fun s => s.updSlu (fun u => { u with selfRefresh := true }))

/-- An uncorrectable DRAM error at the block `b` (R383, R384): the channel is bit 8 of its offset (R413). -/
def State.dramUe (s : State) (owner b : Nat) : State :=
  ((s.poisonBlock owner b).raise 0x0904 ((b - dramBase) / 256 % 2) b).selfRefreshes

/-- A correctable DRAM error at the block `b` (R381). -/
def State.dramCe (s : State) (b : Nat) : State :=
  let s := (s.incSat .SLU_ECC_CE_COUNT).set .SLU_ECC_LAST_LO_ADDR (b % 2 ^ 32 / 64)
  (s.set .SLU_ECC_LAST_HI_ADDR (b / 2 ^ 32)).raise 0x0902 ((b - dramBase) / 256 % 2) b

/-- A read of the poisoned block `b` (R384). -/
def State.poisonRead (s : State) (b : Nat) : State := s.raise 0x0905 0 b

/-- DRAM serves accesses: neither in self-refresh (R315, R331) nor with a controller's clock gated (R32; DESIGN CHOICE: an access waits
then). An access that finds it so waits, and its command does nothing. -/
def State.dramServes (s : State) : Bool := !s.slu.selfRefresh && s.domainOn 86 && s.domainOn 87

/-- `len` bytes of DRAM as a requester reads them: none, a bus error, outside trained DRAM (R315) or where a block is poisoned. -/
def State.dramLoad (s : State) (a len : Nat) : Option (List Byte) × State :=
  if !s.dramOk a len then (none, s)
  else match (blocksOf a len).find? (fun b => s.poisonedAt b) with
    | some b => (none, s.poisonRead b)
    | none => (some (s.readBytes a len), s)

/-- The bytes of `bs`, which start at `a`, that lie in the block at `b`, with the address of the first. -/
def slice (a : Nat) (bs : List Byte) (b : Nat) : Nat × List Byte :=
  (max a b, (bs.drop (b - a)).take (b + 64 - max a b))

/-- One block of a DRAM write (R387): a full write clears the poison; a partial write to a poisoned block is discarded. -/
def State.storeBlock (a : Nat) (bs : List Byte) (acc : Bool × State) (b : Nat) : Bool × State :=
  let s := acc.2
  let p := slice a bs b
  if s.poisonedAt b then
    if p.2.length = 64 then
      let clear (x : Poison) : Poison := if x.addr = b then { x with cleared := true } else x
      (acc.1, (s.updSlu (fun u => { u with poisoned := u.poisoned.put b false, pm := u.pm.map clear })).writeBytes p.1 p.2)
    else (false, s.poisonRead b)
  else (acc.1, s.writeBytes p.1 p.2)

/-- Bytes written to DRAM as a requester writes them; false where it receives a bus error (R315, R387). -/
def State.dramStore (s : State) (a : Nat) (bs : List Byte) : Bool × State :=
  if !s.dramOk a bs.length then (false, s)
  else (blocksOf a bs.length).foldl (State.storeBlock a bs) (true, s)

/-! ### The scrubber (R389) -/

/-- The next block of a scrub run. -/
def State.scrubNext (s : State) : Nat := s.get .SLU_SCRB_NEXT_HI_ADDR * 2 ^ 32 + s.get .SLU_SCRB_NEXT_LO_ADDR * 64

/-- The next block is now `b`. -/
def State.scrubAt (s : State) (b : Nat) : State :=
  (s.set .SLU_SCRB_NEXT_HI_ADDR (b / 2 ^ 32)).set .SLU_SCRB_NEXT_LO_ADDR (b % 2 ^ 32 / 64)

/-- The scrubber moves on from a block, which was corrected or not. -/
def State.scrubStep (s : State) (corrected : Bool) : State :=
  let s := (s.scrubAt (s.scrubNext + 64)).updSlu (fun u => { u with scrubLeft := u.scrubLeft - 1 })
  s.when corrected (fun s => s.incSat .SLU_SCRB_CE_COUNT)

/-- A scrub run ends with one of DONE, STOPPED and UE_RESET. -/
def State.scrubEnd (s : State) (why : Fld) : State :=
  let s := ((s.set .SLU_SCRB_STATUS_BUSY 0).set .SLU_SCRB_STATUS_DONE 0).set .SLU_SCRB_STATUS_STOPPED 0
  (s.set .SLU_SCRB_STATUS_UE_RESET 0).set why 1

/-- The scrubber makes this read. -/
def State.scrubs (s : State) (owner b : Nat) : Bool :=
  owner == 0x0E && s.domainOn 88 && s.is .SLU_SCRB_STATUS_BUSY && decide (0 < s.slu.scrubLeft) && s.scrubNext == b

/-! ### Rows -/

/-- The 64 bytes that the check let through or made of a block. -/
def blockOf (data : List Byte) : List Byte := (data ++ List.replicate 64 0).take 64

/-- DRAM_READ (R379, R381, R384, R389): a block is read and checked, for the requester of owner code `owner`. A block that the code
miscorrects is written back as it was answered, as any corrected one is. -/
def execDramRead (owner addr : Nat) (error : DramError) (s : State) : Host.Outcome State Fault Refusal :=
  let b := addr / 64 * 64
  if !s.dramServes then .next s
  else if !s.dramOk b 64 then .next s.busErr
  else if s.poisonedAt b then
    .next ((s.when (s.scrubs owner b) (fun s => s.scrubStep false)).busErr.poisonRead b)
  else match error with
    | .clean =>
      let s := s.when (s.scrubs owner b) (fun s => s.scrubStep false)
      .next (s.answer (leNat (s.readBytes b 64)))
    | .correctable =>
      let s := s.when (s.scrubs owner b) (fun s => s.scrubStep true)
      .next ((s.answer (leNat (s.readBytes b 64))).dramCe b)
    | .uncorrectable =>
      let s := s.when (s.scrubs owner b) (fun s => s.scrubEnd .SLU_SCRB_STATUS_UE_RESET)
      .next (s.busErr.dramUe owner b)
    | .signature => .next ((s.when (s.scrubs owner b) (fun s => s.scrubStep false)).busErr.poisonRead b)
    | .missed data =>
      let s := s.when (s.scrubs owner b) (fun s => s.scrubStep false)
      .next (s.answer (leNat (blockOf data)))
    | .miscorrected data =>
      let s := (s.when (s.scrubs owner b) (fun s => s.scrubStep true)).writeBytes b (blockOf data)
      .next ((s.answer (leNat (blockOf data))).dramCe b)

/-- The bytes of a partial write merged into a block (R382): none leaves a byte as it was. -/
def State.mergeBytes (s : State) (b : Nat) (bytes : List (Option Byte)) : State :=
  s.forN 64 (fun i s => match bytes.getD i none with
    | some x => s.putByte (b + i) x
    | none => s)

/-- PARTIAL_WRITE (R382, R387): the merge queue reads, merges and writes a block; an uncorrectable or poisoned block keeps its content.
A write that Carr or Fen L2 posted has no requester left for the bus error. -/
def execPartialWrite (owner addr : Nat) (bytes : List (Option Byte)) (error : DramError) (s : State) :
    Host.Outcome State Fault Refusal :=
  let b := addr / 64 * 64
  let fail (s : State) : State := if owner = 0x0A ∨ owner = 0x0B then s.ack else s.busErr
  if !s.dramServes then .next s
  else if !s.dramOk b 64 then .next s.busErr
  else if s.poisonedAt b then .next ((fail s).poisonRead b)
  else match error with
    | .clean => .next (s.ack.mergeBytes b bytes)
    | .missed data => .next ((s.ack.writeBytes b (blockOf data)).mergeBytes b bytes)
    | .miscorrected data => .next (((s.ack.writeBytes b (blockOf data)).mergeBytes b bytes).dramCe b)
    | .correctable => .next ((s.ack.mergeBytes b bytes).dramCe b)
    | .signature => .next ((fail s).poisonRead b)
    | .uncorrectable => .next ((fail s).dramUe owner b)

/-- Staithe's fate registers follow the log (R314). -/
def State.fateStatus (s : State) : State :=
  (s.set .STH_FATE_STATUS_RECORDS s.sth.fates.length).set .STH_FATE_STATUS_UNRESOLVED
    (s.sth.fates.filter (fun r => r.fate = 0xF)).length

/-- What an uncorrectable SRAM word takes with it (R385): an entry of the ledger stays HELD, poisoned, with its namespace and LBAs
unknown; a record of the poison map, of the fate log or of Peat's staging is lost (R462). -/
def State.sramLoss (s : State) : SramWord → State
  | .plain => s
  | .ledger i =>
    let e := s.slu.ledger.at i
    if e.state = 0 then s
    else
      let (ns, s) := s.draw 4
      let (lba, s) := s.draw 48
      s.updSlu (fun u => { u with ledger := u.ledger.put i { e with state := 2, poison := true, ns := ns, lba := lba, marks := [] } })
  | .poison i =>
    if i < s.slu.pm.length then ((s.updSlu (fun u => { u with pm := u.pm.eraseIdx i })).pmStatus).pmLost else s
  | .fate i =>
    if i < s.sth.fates.length then
      ((s.updSth (fun h => { h with fates := h.fates.eraseIdx i })).incSat .STH_FATE_DROP_COUNT).fateStatus
    else s
  | .peat i =>
    match s.peat.staged[i]? with
    | some x =>
      let k := x.rec_.stream
      let s := { s with peat := { s.peat with staged := s.peat.staged.eraseIdx i, gap := s.peat.gap.put k true } }
      ((s.incSat (.PEAT_RSEQ_LOST k)).set .PEAT_STATUS_STG_LOSS 1).peatStatus
    | none => s

/-- The DETAIL of an SRAM error (R422): the word's offset, and the ledger entry it held. -/
def sramDetail (offset : Nat) : SramWord → Nat
  | .ledger i => offset % 2 ^ 24 + i % 2 ^ 15 * 2 ^ 24 + 2 ^ 39
  | _ => offset % 2 ^ 24

/-- The bytes of SRAM region `r` (R28), in the order of its table. -/
def sramSize (r : Nat) : Nat := [0x40_0000, 0x80_0000, 0x40_0000, 0x100_0000, 0x100_0000, 0x60_0000, 0x60_0000, 0x10_0000, 0x10_0000, 0x4_0000,
  0xC_0000, 0x10_0000].getD r 0

/-- The place of byte `o` of SRAM region `r` in the state: Fen tightly coupled memory lies at its address (R507). -/
def sramKey (r o : Nat) : Nat := if r = 1 then 0x2000_0000 + o else 2 ^ 32 * (r + 1) + o

/-- A byte of the SRAM. -/
def State.sramAt (s : State) (a : Nat) : Byte := tabGet (fun _ => 0) s.sram a

/-- Bytes written to the SRAM from `a` up. -/
def State.writeSram (s : State) (a : Nat) : List Byte → State
  | [] => s
  | b :: bs => { s with sram := tabPut (fun _ => 0) s.sram a b }.writeSram (a + 1) bs

/-- The SRAM bank group of a byte (R32): DESIGN CHOICE: the regions in the order of their table, 4 MiB to a group. -/
def sramGroup (r o : Nat) : Nat := (((List.range r).map sramSize).sum + o) / 2 ^ 22 % 16

/-- The banks serve a region's byte: its group, and for Fen L2, Fen TCM and Mire memory the memory itself, are clocked (R32; DESIGN CHOICE:
an access waits otherwise). -/
def State.sramServes (s : State) (r o : Nat) : Bool :=
  s.domainOn (40 + sramGroup r o) && (r != 0 || s.domainOn 8) && (r != 1 || s.domainOn 9) && (r != 2 || s.domainOn 14)

/-- The eight bytes of the aligned 64-bit word at `o` of region `r` (R377). The control stores hold each sequencer's words in order (DESIGN
CHOICE), the servo tables their words; a word whose place in a structure of the model no rule gives is open. -/
def State.sramWord (s : State) (r o : Nat) (word : SramWord) : List Byte × State :=
  let i := o / 4
  let w (i : Nat) : Word := if r = 7 then (s.seq (i / 18432)).store.at (i % 18432) else s.tus.tables.at i
  if word = .plain ∧ (r = 7 ∨ r = 8) then (leBytes 4 (w i).toNat ++ leBytes 4 (w (i + 1)).toNat, s)
  else if word = .plain ∧ r ∉ [3, 4, 9, 11] then ((List.range 8).map (fun k => s.sramAt (sramKey r o + k)), s)
  else
    let (v, s) := s.draw 64
    (leBytes 8 v, s)

/-- A write narrower than its word, or as wide (R378): read, merged and written back. A word of a structure is its owner's to write. -/
def State.sramMerge (s : State) (r o : Nat) (word : SramWord) (bytes : List (Option Byte)) : State :=
  let old := (s.sramWord r o word).1
  let new := (List.range 8).map (fun k => (bytes.getD k none).getD (old.getD k 0))
  let lo := BitVec.ofNat 32 (fieldAt new 0 4)
  let hi := BitVec.ofNat 32 (fieldAt new 4 4)
  let i := o / 4
  if word ≠ .plain ∨ r ∈ [3, 4, 9, 11] then s
  else if r = 7 then
    (s.updSeq (i / 18432) (fun q => { q with store := q.store.put (i % 18432) lo })).updSeq ((i + 1) / 18432)
      (fun q => { q with store := q.store.put ((i + 1) % 18432) hi })
  else if r = 8 then { s with tus := { s.tus with tables := (s.tus.tables.put i lo).put (i + 1) hi } }
  else s.writeSram (sramKey r o) new

/-- What a good or corrected word gives: a read's answer, or the write of the merged word. -/
def State.sramServe (s : State) (r o : Nat) (word : SramWord) (write : Option (List (Option Byte))) : State :=
  match write with
  | some bytes => s.ack.sramMerge r o word bytes
  | none => let (bs, s) := s.sramWord r o word; s.answer (leNat bs)

/-- SRAM_READ (R28, R377, R378, R383, R385): the word at `offset` is read and checked, to answer it or, with `write`, to merge bytes into it;
a write whose word is uncorrectable is discarded. From the power-fail warning on, an uncorrectable word of Mire's own memory stops the
flush, and every section parks (R21). -/
def execSramRead (region offset : Nat) (error : SramError) (word : SramWord) (write : Option (List (Option Byte))) (s : State) :
    Host.Outcome State Fault Refusal :=
  let o := offset / 8 * 8
  if sramSize region ≤ offset then .next s.busErr
  else if !s.sramServes region o then .next s
  else match error with
  | .clean => .next (s.sramServe region o word write)
  | .single => .next ((s.sramServe region o word write).raise 0x0901 region (sramDetail offset word))
  | .uncorrectable =>
    let s := ((s.busErr.sramLoss word).raise 0x0903 region (sramDetail offset word)).selfRefreshes
    .next (s.when (s.powerFailing && region == 2) (fun s =>
      { s.updSlu (fun u => { u with flushing := false }) with mq := { s.mq with flushDead := true, flush := [], flushing := [] } }.retractAll))

/-- SCRUB_GO (R389): a run starts, or is refused with ERR. -/
def execScrubGo (s : State) : Host.Outcome State Fault Refusal :=
  let a := s.get .SLU_SCRB_BASE_HI_ADDR * 2 ^ 32 + s.get .SLU_SCRB_BASE_LO_ADDR * 64
  let k := s.get .SLU_SCRB_LEN_BLOCKS
  .next (s.access 0x4100_0810 (fun s =>
    if s.is .SLU_SCRB_STATUS_BUSY ∨ k = 0 ∨ a < dramBase ∨ s.dramEnd < a + 64 * k then s.set .SLU_SCRB_STATUS_ERR 1
    else
      let s := (s.scrubAt a).updSlu (fun u => { u with scrubLeft := k })
      let s := ((s.set .SLU_SCRB_CE_COUNT 0).set .SLU_SCRB_STATUS_DONE 0).set .SLU_SCRB_STATUS_STOPPED 0
      (s.set .SLU_SCRB_STATUS_UE_RESET 0).set .SLU_SCRB_STATUS_BUSY 1))

/-- SCRUB_STOP (R389). -/
def execScrubStop (s : State) : Host.Outcome State Fault Refusal :=
  .next (s.access 0x4100_0810 (fun s =>
    s.when (s.is .SLU_SCRB_STATUS_BUSY) (fun s => s.scrubEnd .SLU_SCRB_STATUS_STOPPED)))

/-- SCRUB_DONE (R389): the last block of the range has been read. -/
def execScrubDone (s : State) : Host.Outcome State Fault Refusal :=
  .next (s.when (s.is .SLU_SCRB_STATUS_BUSY && s.slu.scrubLeft == 0) (fun s => s.scrubEnd .SLU_SCRB_STATUS_DONE))

/-- SLU_PM_ACK (R386): the record is removed and later ones move down. -/
def execSluPmAck (index : Nat) (s : State) : Host.Outcome State Fault Refusal :=
  .next (s.access 0x4100_0850 (fun s => (s.updSlu (fun u => { u with pm := u.pm.eraseIdx index })).pmStatus))

/-- SLU_PM_DATA_LO and SLU_PM_DATA_HI of a record (R391). -/
def Poison.lo (x : Poison) : Nat := x.addr % 2 ^ 32 / 64 * 64 + x.cleared.toNat * 32 + x.ledger.toNat * 16
def Poison.hi (x : Poison) : Nat := x.source % 64 * 2 ^ 26 + x.addr / 2 ^ 32 % 256

/-- PM_DATA_READ (R391): a read of SLU_PM_DATA_HI answers the record at INDEX and advances INDEX. -/
def execPmDataRead (s : State) : Host.Outcome State Fault Refusal :=
  .next (s.access 0x4100_084C (fun s =>
    (s.answer ((s.slu.pm.getD (s.get .SLU_PM_CUR_INDEX) {}).hi)).inc .SLU_PM_CUR_INDEX))

end Sys2Proof.Machine
end

