-- ==== Sys2Proof/Machine/Cipher.lean ====
section
/-! DEFINITION. The inline encryption of Sluice (13, R329): AES-256 (FIPS 197, which the spec names) in XTS mode (IEEE 1619), written out
over bytes. -/

namespace Sys2Proof.Machine

/-! ### The field of 2^8 elements -/

/-- A byte times x. -/
def aesDouble (b : Byte) : Byte := (b <<< 1) ^^^ (if b.getLsbD 7 then 0x1B else 0)

/-- A product, by the bits of `k` from the lowest. -/
def aesMul (a k : Byte) : Byte :=
  ((List.range 8).foldl (fun (acc : Byte × Byte) i => (if k.getLsbD i then acc.1 ^^^ acc.2 else acc.1, aesDouble acc.2)) (0, a)).1

/-- The inverse, with 0 for 0: the 254th power. -/
def aesInverse (a : Byte) : Byte :=
  let sq (x : Byte) : Byte := aesMul x x
  ((List.range 7).foldl (fun (acc : Byte × Byte) _ => (aesMul acc.1 (sq acc.2), sq acc.2)) ((1 : Byte), a)).1

/-- A byte turned left. -/
def aesTurn (b : Byte) (k : Nat) : Byte := b.rotateLeft k

/-- The substitution of a byte, and its inverse. -/
def aesSub (a : Byte) : Byte :=
  let b := aesInverse a
  b ^^^ aesTurn b 1 ^^^ aesTurn b 2 ^^^ aesTurn b 3 ^^^ aesTurn b 4 ^^^ 0x63
def aesUnsub (b : Byte) : Byte := aesInverse (aesTurn b 1 ^^^ aesTurn b 3 ^^^ aesTurn b 6 ^^^ 0x05)

/-! ### Blocks of 16 bytes, column by column -/

/-- Two blocks added. -/
def aesAdd (a b : List Byte) : List Byte := List.zipWith (· ^^^ ·) a b

/-- Byte `i` of a block after its rows have turned left by `k` times their number. -/
def aesShift (k : Nat) (l : List Byte) : List Byte :=
  (List.range 16).map (fun i => l.getD ((4 * (i / 4 + k * (i % 4)) + i % 4) % 16) 0)

/-- Every column multiplied by the polynomial with coefficients `c`. -/
def aesMix (c : List Byte) (l : List Byte) : List Byte :=
  (List.range 16).map (fun i =>
    (List.range 4).foldl (fun acc j => acc ^^^ aesMul (l.getD (4 * (i / 4) + j) 0) (c.getD ((j + 4 - i % 4) % 4) 0)) 0)

/-- The 60 words of the key schedule of a 32-byte key, from word `i` on; `w` holds the words before it. -/
def aesWords : Nat → Nat → Byte → List (List Byte) → List (List Byte)
  | 0, _, _, w => w
  | fuel + 1, i, rc, w =>
    let last := w.getD (i - 1) []
    let t := if i % 8 = 0 then aesAdd ((last.drop 1 ++ last.take 1).map aesSub) [rc, 0, 0, 0]
      else if i % 8 = 4 then last.map aesSub else last
    aesWords fuel (i + 1) (if i % 8 = 0 then aesDouble rc else rc) (w ++ [aesAdd (w.getD (i - 8) []) t])

/-- The key of round `r`. -/
def aesRoundKey (w : List (List Byte)) (r : Nat) : List Byte := ((w.drop (4 * r)).take 4).flatten

/-- The schedule of a key. -/
def aesSchedule (key : List Byte) : List (List Byte) :=
  aesWords 52 8 1 ((List.range 8).map (fun i => (key.drop (4 * i)).take 4))

/-- A block encrypted, and decrypted, under a schedule. -/
def aesEncrypt (w : List (List Byte)) (l : List Byte) : List Byte :=
  let x := (List.range 13).foldl (fun x r => aesAdd (aesMix [2, 3, 1, 1] (aesShift 1 (x.map aesSub))) (aesRoundKey w (r + 1)))
    (aesAdd l (aesRoundKey w 0))
  aesAdd (aesShift 1 (x.map aesSub)) (aesRoundKey w 14)
def aesDecrypt (w : List (List Byte)) (l : List Byte) : List Byte :=
  let x := (List.range 13).foldl (fun x r =>
    aesMix [14, 11, 13, 9] (aesAdd ((aesShift 3 x).map aesUnsub) (aesRoundKey w (13 - r)))) (aesAdd l (aesRoundKey w 14))
  aesAdd ((aesShift 3 x).map aesUnsub) (aesRoundKey w 0)

/-! ### XTS -/

/-- Block `j` of 16 bytes of a data unit under a key pair (the data key in the low half) and a tweak: the tweak, a 128-bit little-endian
number, is encrypted under the tweak key and multiplied by x to the `j` in the field of 2^128 elements (R329). -/
def xtsBlock (encrypt : Bool) (key : BitVec 512) (tweak j : Nat) (block : List Byte) : List Byte :=
  let bytes := leBytes 64 key.toNat
  let twice (v : Nat) : Nat := (2 * v) % 2 ^ 128 ^^^ (if 2 ^ 127 ≤ v then 0x87 else 0)
  let t := leBytes 16 (j.repeat twice (leNat (aesEncrypt (aesSchedule (bytes.drop 32)) (leBytes 16 tweak))))
  let w := aesSchedule (bytes.take 32)
  aesAdd ((if encrypt then aesEncrypt w else aesDecrypt w) (aesAdd block t)) t

end Sys2Proof.Machine
end

