-- ==== Sys2Proof/Machine/Channels.lean ====
section
/-! DEFINITION. What every other unit sees of Lode's channels (14): the fields of a loaded descriptor, the channel's interrupt and its error
flags. What the channels do is in Lode.lean. -/

namespace Sys2Proof.Machine

/-- Channel `c`. -/
def State.dmaCh (s : State) (c : Nat) : DmaChannel := s.dma.at c

/-- Channel `c` changed. -/
def State.updDma (s : State) (c : Nat) (f : DmaChannel → DmaChannel) : State := { s with dma := s.dma.upd c f }

/-! ### Descriptor fields (R344, R345) -/

def DmaChannel.src (d : DmaChannel) : Nat := fieldAt d.desc 0 8
def DmaChannel.dst (d : DmaChannel) : Nat := fieldAt d.desc 8 8
def DmaChannel.len (d : DmaChannel) : Nat := fieldAt d.desc 16 4
def DmaChannel.cfg (d : DmaChannel) : Nat := fieldAt d.desc 20 4
def DmaChannel.tweak (d : DmaChannel) : Nat := fieldAt d.desc 24 8
def DmaChannel.irq (d : DmaChannel) : Bool := d.cfg / 2 ^ 31 % 2 == 1
def DmaChannel.xts (d : DmaChannel) : Bool := d.cfg / 2 ^ 30 % 2 == 1
def DmaChannel.key (d : DmaChannel) : Nat := d.cfg / 2 ^ 24 % 64
def DmaChannel.meta_ (d : DmaChannel) : Nat := d.cfg / 2 ^ 22 % 4
def DmaChannel.req (d : DmaChannel) : Nat := d.cfg / 2 ^ 16 % 16
def DmaChannel.burst (d : DmaChannel) : Nat := d.cfg / 2 ^ 12 % 16
def DmaChannel.srcFix (d : DmaChannel) : Bool := d.cfg / 2 ^ 11 % 2 == 1
def DmaChannel.dstFix (d : DmaChannel) : Bool := d.cfg / 2 ^ 10 % 2 == 1

/-- An end of the transfer is a held address, which takes aligned 32-bit accesses alone (R346). -/
def DmaChannel.held (d : DmaChannel) : Bool := d.srcFix || d.dstFix

/-- Bytes of a data unit. -/
def DmaChannel.unit (d : DmaChannel) : Nat := 4096 + metaBytes d.meta_

/-- Bytes that have been read. -/
def DmaChannel.got (d : DmaChannel) : Nat := d.moved + d.part.length

/-- The channel is inside a data unit that key slot `slot` encrypts or decrypts (R330). -/
def DmaChannel.inUnit (d : DmaChannel) (slot : Nat) : Bool := d.loaded && d.xts && d.key == slot && d.got % d.unit != 0

/-- An address lies in buffer DRAM (R507). -/
def inDram (a : Nat) : Bool := decide (dramBase ≤ a) && decide (a < 0x13_C000_0000)

/-- `len` bytes from `a` lie in Fen tightly coupled memory (R507). -/
def inTcm (a len : Nat) : Bool := decide (0x2000_0000 ≤ a) && decide (a + len ≤ 0x2080_0000)

/-- The descriptor is invalid (R346). -/
def DmaChannel.bad (d : DmaChannel) : Bool :=
  d.src / 2 ^ 40 != 0 || d.dst / 2 ^ 40 != 0 || d.len / 2 ^ 24 != 0 || d.len == 0 || d.cfg / 2 ^ 20 % 4 != 0 || d.cfg % 2 ^ 10 != 0 ||
    d.meta_ == 3 || decide (12 < d.burst) || decide (9 < d.req) || (d.srcFix && d.src % 4 != 0) || (d.dstFix && d.dst % 4 != 0) ||
    (d.held && d.len % 4 != 0) || (d.xts && (inDram d.src == inDram d.dst || d.len % d.unit != 0))

/-! ### Interrupts (R358) -/

/-- The channel's interrupt. -/
def State.dmaIrq (s : State) (c : Nat) : State :=
  s.when (s.is (.LODE_CH_CTRL_IRQ_EN c)) (fun s =>
    (s.set .LODE_IRQ_IRQ (s.get .LODE_IRQ_IRQ ||| 2 ^ c)).irqFen (s.get (.LODE_CH_CTRL_CORE c)) (.dma c))

/-- An error flag sets, with its interrupt. -/
def State.dmaFlag (s : State) (c : Nat) (f : Fld) : State := (s.set f 1).dmaIrq c

end Sys2Proof.Machine
end

