-- ==== Sys2Proof/Machine/Sluice.lean ====
section
/-! DEFINITION. The buffer manager and the slot arbiter (13): the ledger with its space and credits, speculative regions, key slots,
stream movers, and the commit of Causeway's tables. Contexts are Staithe's (12). -/

namespace Sys2Proof.Machine

/-! ### Space (R316, R323) -/

/-- Units of a section's partition. -/
def State.partUnits (s : State) : Nat :=
  match s.get .SLU_PC_CFG_META with
  | 0 => 65536
  | 1 => 65408
  | _ => 64527

/-- The entries that are not FREE in section `k`. -/
def State.runsIn (s : State) (k : Nat) : List LedgerEntry :=
  (s.slu.ledger.filter (fun e => e.2.state ≠ 0 ∧ e.2.section_ = k)).map (·.2)

/-- Free units of section `k`; none while the protected cache is not enabled. -/
def State.freeUnits (s : State) (k : Nat) : Nat :=
  if s.is .SLU_PC_CFG_EN then s.partUnits - ((s.runsIn k).map LedgerEntry.count).sum else 0

/-- The first permitted unit at or after `u`. -/
def State.permitted (s : State) (u : Nat) : Nat := if s.get .SLU_PC_CFG_META = 1 then (u + 7) / 8 * 8 else u

/-- The length of the free run that starts at unit `u` of section `k`. -/
def State.freeRun (s : State) (k u : Nat) : Nat :=
  let runs := s.runsIn k
  if !s.is .SLU_PC_CFG_EN ∨ runs.any (fun e => decide (e.unit ≤ u) && decide (u < e.unit + e.count)) then 0
  else (runs.filter (fun e => u ≤ e.unit)).foldl (fun m e => min m e.unit) s.partUnits - u

/-- The units at which a longest or lowest free run can start: the first one, and the first permitted one behind each entry. -/
def State.runStarts (s : State) (k : Nat) : List Nat := 0 :: (s.runsIn k).map (fun e => s.permitted (e.unit + e.count))

/-- The longest free run that starts at a permitted unit. -/
def State.longestRun (s : State) (k : Nat) : Nat := ((s.runStarts k).map (s.freeRun k)).foldl max 0

/-- The lowest of some numbers. -/
def lowest : List Nat → Option Nat
  | [] => none
  | a :: l => some (l.foldl min a)

/-- First fit: the lowest permitted unit of section `k` from which `n` units are free. -/
def State.firstFit (s : State) (k n : Nat) : Option Nat := lowest ((s.runStarts k).filter (fun u => n ≤ s.freeRun k u))

/-- The lowest FREE entry of the ledger: `t` lists the entries from `i` on. -/
def lowestFree : Tab LedgerEntry → Nat → Nat
  | [], i => i
  | (j, _) :: t, i => if j = i then lowestFree t (i + 1) else i

/-- Units that controller `c` holds against its limit (R324). -/
def State.heldBy (s : State) (c : Nat) : Nat :=
  ((s.slu.ledger.filter (fun e => e.2.cntlid = c ∧ 1 ≤ e.2.state ∧ e.2.state ≤ 4)).map (fun e => e.2.count)).sum

/-- Units that queue `q` of controller `c` holds in FILLING. -/
def State.fillingBy (s : State) (c q : Nat) : Nat :=
  ((s.slu.ledger.filter (fun e => e.2.cntlid = c ∧ e.2.sqid = q ∧ e.2.state = 1)).map (fun e => e.2.count)).sum

/-- Credits for `n` units more (R324): a limit below 256 acts as 256. -/
def State.creditsFor (s : State) (c q n : Nat) : Bool :=
  decide (s.heldBy c + n ≤ max 256 (s.get (.SLU_CRED_C_LIMIT c))) &&
    decide (s.fillingBy c q + n ≤ max 256 (s.get (.SLU_CRED_Q_QLIMIT c)))

/-- The partition of a write (R322). -/
def State.partition (s : State) (nsid lba : Nat) : Nat :=
  let k := (nsid - 1) % 16
  match s.get (.SLU_NS_CFG_MODE k) with
  | 1 => lba / 2 ^ s.get (.SLU_NS_CFG_SHIFT k) % 4
  | 2 => (List.range 4).foldl (fun b j => if s.freeUnits b < s.freeUnits j then j else b) 0
  | _ => s.get (.SLU_NS_CFG_SEC k)

/-- Space for `n` units of a write (R323): an entry and a run. -/
def State.spaceFor (s : State) (nsid lba n : Nat) : Option (Nat × Nat × Nat) :=
  let k := s.partition nsid lba
  let i := lowestFree s.slu.ledger 0
  if i < 32768 then (s.firstFit k n).map (fun u => (i, k, u)) else none

/-- The registers that follow the ledger (R339). -/
def State.sluStatus (s : State) : State :=
  let s := s.set .SLU_STATUS_LED_FREE (32768 - s.slu.ledger.length)
  let s := s.forN 4 (fun k s => (s.set (.SLU_SEC_FREE_FREE k) (s.freeUnits k)).set (.SLU_SEC_RUN_RUN k) (s.longestRun k))
  s.forN 32 (fun c s => s.set (.SLU_CRED_USED_USED c) (s.heldBy c))

/-- An entry of the ledger changed; the registers follow. -/
def State.updEntry (s : State) (i : Nat) (f : LedgerEntry → LedgerEntry) : State :=
  (s.updSlu (fun u => { u with ledger := u.ledger.upd i f })).sluStatus

/-- An entry becomes FREE. -/
def State.freeEntry (s : State) (i : Nat) : State := s.updEntry i (fun _ => default)

/-- The last byte of an entry's run is written (R318): it becomes HELD, and the command of context `x` is LEDGERED in the same cycle. -/
def State.holdEntry (s : State) (i : Nat) : State :=
  let x := (s.slu.ledger.at i).ctx
  (s.updEntry i (fun e => { e with state := 2, filled := [] })).updSth (fun h => { h with ctxs := h.ctxs.upd x (fun c => { c with ledgered := true }) })

/-- Bytes `lo` to `hi` - 1 of a FILLING entry's run have been written; once every byte has, the entry is HELD (R15, R318). -/
def State.fillEntry (s : State) (i lo hi : Nat) : State :=
  let e := s.slu.ledger.at i
  let l := if lo < hi then addRange lo hi e.filled else e.filled
  if e.state ≠ 1 then s
  else if l = [(0, s.runBytes e)] then s.holdEntry i
  else s.updSlu (fun u => { u with ledger := u.ledger.put i { e with filled := l } })

/-- A WRITE or WRITE_VERIFY descriptor starts on stream `n` with its buffer of `len` bytes at `a` (R319): each HELD or WRITING entry
wholly inside it is marked. -/
def State.markEntries (s : State) (n a len : Nat) : State :=
  let inside (e : LedgerEntry) : Bool :=
    (e.state == 2 || e.state == 3) && decide (a ≤ s.runAddr e) && decide (s.runAddr e + s.runBytes e ≤ a + len)
  let mark (e : Nat × LedgerEntry) : Nat × LedgerEntry :=
    if inside e.2 then (e.1, { e.2 with state := 3, marks := e.2.marks ++ [n] }) else e
  (s.updSlu (fun u => { u with ledger := u.ledger.map mark })).sluStatus

/-- The descriptor on stream `n` completes (R319): with a good status its entries become CLEAN, else they return to HELD unless another
started descriptor has marked them too. -/
def State.unmarkEntries (s : State) (n : Nat) (good : Bool) : State :=
  let f (e : Nat × LedgerEntry) : Nat × LedgerEntry :=
    if e.2.state = 3 ∧ n ∈ e.2.marks then
      if good then (e.1, { e.2 with state := 4, marks := [] })
      else
        let m := e.2.marks.filter (· ≠ n)
        (e.1, { e.2 with state := if m = [] then 2 else 3, marks := m })
    else e
  (s.updSlu (fun u => { u with ledger := u.ledger.map f })).sluStatus

/-! ### Speculative regions (R326–R328) -/

/-- A region changed; a DISCARDED one without pins and without a fill is FREE again (R328). -/
def State.updRegion (s : State) (r : Nat) (f : Region → Region) : State :=
  s.updSlu (fun u =>
    let x := f (u.regions.at r)
    { u with regions := u.regions.put r (if x.state = .discarded ∧ x.pins = 0 ∧ x.fill = none then default else x) })

/-- A region is discarded (R327): a fill that runs on it is stopped by ABORT at the next sector boundary. -/
def State.discardRegion (s : State) (r : Nat) : State :=
  let x := s.slu.regions.at r
  if x.state = .free ∨ x.state = .discarded then s
  else
    let s := match x.fill with
      | some n => s.set (.REED_ST_CTRL_ABORT n) 1
      | none => s
    s.updRegion r (fun x => { x with state := .discarded })

/-- An exclusive entry over a range of namespace `nsid` is taken: every region that shares an LBA with it is discarded (R18, R327). -/
def State.discardOverlap (s : State) (l : LbaRange) : State :=
  s.slu.regions.foldl (fun s e =>
    s.when (e.2.ns + 1 == l.ns && decide (e.2.lba < l.first + l.count) && decide (l.first < e.2.lba + e.2.count)) (fun s =>
      s.discardRegion e.1)) s

/-- A fill of the region ends (R326): it is VALID, or where it was discarded its memory is released (R328). -/
def State.fillEnd (s : State) (r : Nat) : State :=
  s.updRegion r (fun x => { x with fill := none, state := if x.state = .filling then .valid else x.state })

/-- The first LBA of SLU_RA_ARG. -/
def State.argLba (s : State) : Nat := s.get .SLU_RA_ARG1_LBA_HI * 2 ^ 32 + s.get .SLU_RA_ARG0_LBA_LO

/-- The buffer of SLU_RA_ARG. -/
def State.argBuf (s : State) : Nat := s.get .SLU_RA_ARG3_BASE_HI * 2 ^ 32 + s.get .SLU_RA_ARG2_BASE_LO * 64

/-- `len` bytes from `a` share a byte with the protected cache (R316). -/
def State.inCache (s : State) (a len : Nat) : Bool :=
  let b := s.get .SLU_PC_CFG_BASE * 2 ^ 30
  decide (a < b + 2 ^ 30) && decide (b < a + len)

/-- The result of a region command: refused or not. -/
def State.raResult (s : State) (err : Bool) : State := (s.set .SLU_RA_RES_DONE 1).setIf .SLU_RA_RES_ERR err

/-- Leading valid sectors that a region has for the range of `n` LBAs from `lba`. -/
def Region.lead (x : Region) (ns lba n : Nat) : Nat :=
  if (x.state = .filling ∨ x.state = .valid) ∧ x.ns = ns ∧ x.lba ≤ lba then
    (((x.valid.drop (lba - x.lba)).take n).takeWhile id).length
  else 0

/-- SET (R326). -/
def execRegionSet (region : Nat) (s : State) : Host.Outcome State Fault Refusal :=
  let m := s.get .SLU_RA_ARG3_META
  let k := s.get .SLU_RA_ARG1_COUNT + 1
  let len := k * (4096 + metaBytes m)
  let a := s.argBuf
  let x : Region :=
    { state := .armed, ns := s.get .SLU_RA_ARG1_NS, lba := s.argLba, count := k, buf := a, meta_ := m, valid := List.replicate k false }
  .next (s.access 0x4100_0604 (fun s =>
    if (s.slu.regions.at region).state ≠ .free ∨ m = 3 ∨ a < dramBase ∨ s.dramEnd < a + len ∨ s.inCache a len then s.raResult true
    else (s.updRegion region (fun _ => x)).raResult false))

/-- DISCARD (R326, R327). -/
def execRegionDiscard (region : Nat) (s : State) : Host.Outcome State Fault Refusal :=
  .next (s.access 0x4100_0604 (fun s =>
    if (s.slu.regions.at region).state = .free then s.raResult true else (s.discardRegion region).raResult false))

/-- LOOKUP (R326): the region with the most leading valid sectors, the lowest of equals; a full hit pins it. Without a hit the region
number of the result is open. -/
def execRegionLookup (s : State) : Host.Outcome State Fault Refusal :=
  let ns := s.get .SLU_RA_ARG1_NS
  let lba := s.argLba
  let n := s.get .SLU_RA_ARG1_COUNT + 1
  let lead (r : Nat) : Nat := (s.slu.regions.at r).lead ns lba n
  let best := (s.slu.regions.map (·.1)).foldl (fun b r => if lead b < lead r then r else b) 0
  let k := lead best
  let hit := if k = n then 2 else if 0 < k then 1 else 0
  .next (s.access 0x4100_0604 (fun s =>
    let (open_, t) := s.draw 9
    let s := if hit = 0 then t else s
    let s := (s.set .SLU_RA_RES_HIT hit).set .SLU_RA_RES_LEAD k
    let s := s.set .SLU_RA_RES_REGION (if hit = 0 then open_ else best)
    (s.when (hit == 2) (fun s => s.updRegion best (fun x => { x with pins := x.pins + 1, hit := true }))).raResult false))

/-- UNPIN (R326, R328). -/
def execRegionUnpin (region : Nat) (s : State) : Host.Outcome State Fault Refusal :=
  .next (s.access 0x4100_0604 (fun s =>
    if (s.slu.regions.at region).pins = 0 then s.raResult true
    else (s.updRegion region (fun x => { x with pins := x.pins - 1 })).raResult false))

/-- REGION_TTL_EXPIRE (R327): a miss, of a region that no lookup has fully hit. -/
def execRegionTtlExpire (region : Nat) (s : State) : Host.Outcome State Fault Refusal :=
  let x := s.slu.regions.at region
  .next (s.when (x.state == .valid && x.pins == 0 && !x.hit && s.is .SLU_RA_CFG_TTL) (fun s =>
    (s.discardRegion region).incSat .SLU_RA_MISS_COUNT))

/-! ### Ledger rows -/

/-- LEDGER_FILLED (R318, R342, R513): `data` are the next bytes that Lode writes to the run; Write Zeroes takes none, and Sluice
writes zeros. With the last byte the entry becomes HELD. -/
def execLedgerFilled (entry : Nat) (data : List Byte) (s : State) : Host.Outcome State Fault Refusal :=
  let e := s.slu.ledger.at entry
  let c := s.sth.ctxs.at e.ctx
  let len := s.runBytes e
  if e.state = 1 ∧ c.state = 3 ∧ c.ledger = some entry ∧ c.cmd.op ≠ .copy ∧ s.dramServes then
    if c.cmd.op = .writeZeroes then
      let (ok, s) := s.dramStore (s.runAddr e) (List.replicate len 0)
      .next (s.when ok (fun s => s.fillEntry entry 0 len))
    else
      let d := data.take (len - c.moved)
      let (ok, s) := s.dramStore (s.runAddr e + c.moved) d
      let s := s.updSth (fun h => { h with ctxs := h.ctxs.put e.ctx { c with xfer := true, moved := c.moved + if ok then d.length else 0 } })
      .next (s.when ok (fun s => s.fillEntry entry c.moved (c.moved + d.length)))
  else .next s

/-- SLU_LED_REL (R320): only a CLEAN entry is released. -/
def execSluLedRel (entry : Nat) (s : State) : Host.Outcome State Fault Refusal :=
  .next (s.access 0x4100_0044 (fun s =>
    if (s.slu.ledger.at entry).state = 4 then s.freeEntry entry else s.set .SLU_STATUS_REL_ERR 1))

/-- SLU_LED_FILL (R513): an admitted Copy's destination units are filled. -/
def execSluLedFill (ctx : Nat) (s : State) : Host.Outcome State Fault Refusal :=
  let c := s.sth.ctxs.at ctx
  let err (s : State) : State := s.set .SLU_STATUS_REL_ERR 1
  .next (s.access 0x4100_0048 (fun s =>
    match c.ledger with
    | some i => if c.state = 3 ∧ c.cmd.op = .copy ∧ (s.slu.ledger.at i).state = 1 then s.holdEntry i else err s
    | none => err s))

/-- The words of a ledger entry (R317). -/
def LedgerEntry.word (e : LedgerEntry) : Nat → Nat
  | 0 => e.state % 8 * 2 ^ 29 + e.poison.toNat * 2 ^ 28 + e.section_ % 4 * 2 ^ 25 + e.cntlid % 32 * 2 ^ 20 + e.ns % 16 * 2 ^ 16 +
      e.unit % 2 ^ 16
  | 1 => e.lba % 2 ^ 32
  | 2 => (e.count - 1) % 256 * 2 ^ 16 + e.lba / 2 ^ 32 % 2 ^ 16
  | _ => e.lseq % 2 ^ 32

/-- LED_DATA_READ (R339): a read of SLU_LED_DATA(3) answers word 3 of the entry at INDEX and advances INDEX. -/
def execLedDataRead (s : State) : Host.Outcome State Fault Refusal :=
  .next (s.access 0x4100_005C (fun s =>
    (s.answer ((s.slu.ledger.at (s.get .SLU_LED_CUR_INDEX)).word 3)).inc .SLU_LED_CUR_INDEX))

/-! ### Keys (R330) -/

/-- A key operation waits for a boundary between two data units. -/
def State.keyOp (s : State) (slot : Nat) (key : BitVec 512) : State :=
  ((s.set .SLU_KEY_CTRL_SLOT slot).set .SLU_KEY_CTRL_BUSY 1).updSlu (fun u => { u with keyOps := u.keyOps ++ [(slot % 64, key)] })

/-- The key pair in SLU_KEY_DATA. -/
def State.keyData (s : State) : BitVec 512 :=
  BitVec.ofNat 512 ((List.range 16).foldl (fun acc i => acc + s.get (.SLU_KEY_DATA_KEY i) * 2 ^ (32 * i)) 0)

/-- LOAD (R330). -/
def execKeyLoad (slot : Nat) (s : State) : Host.Outcome State Fault Refusal :=
  .next (s.access 0x4100_0400 (fun s => s.keyOp slot s.keyData))

/-- ZERO (R330). -/
def execKeyZero (slot : Nat) (s : State) : Host.Outcome State Fault Refusal :=
  .next (s.access 0x4100_0400 (fun s => s.keyOp slot 0))

/-- KEY_TAKE_EFFECT (R330): no channel is inside a data unit that the slot serves. -/
def execKeyTakeEffect (s : State) : Host.Outcome State Fault Refusal :=
  match s.slu.keyOps with
  | [] => .next s
  | (slot, k) :: rest =>
    if s.dma.any (fun e => e.2.inUnit slot) then .next s
    else .next (s.clocked 58 fun s => (s.updSlu (fun u => { u with keys := u.keys.put slot k, keyOps := rest })).setIf .SLU_KEY_CTRL_BUSY (!rest.isEmpty))

/-! ### DRAM training and the stream movers -/

/-- DRAM_TRAINED (R315). -/
def execDramTrained (s : State) : Host.Outcome State Fault Refusal := .next (s.set .SLU_DRAM_CFG_TRAINED 1)

/-- A sector has been written to its region (R326): its valid bit sets while the region is FILLING. -/
def State.regionSector (s : State) (r i : Nat) : State :=
  s.updRegion r (fun x => if x.state = .filling then { x with valid := x.valid.set i true } else x)

/-- A sector of stream n's operation before number `i` still waits for its decode or its retry (R164, R165). -/
def State.earlierWaits (s : State) (n i : Nat) : Bool :=
  let c := s.chan n
  c.waiting.any (fun x => decide (x.number < i)) || c.park.any (fun e => match e.2 with
    | .held x _ _ => decide (x.number < i)
    | _ => false)

/-- MOVER_SECTOR_DONE (R325, R277): a write's next sector enters staging; a read's next sector in sector order enters its buffer, and its
staging is freed. A sector that meets a poisoned block is written as a marker; a move that meets a bus error ends the moves. -/
def execMoverSectorDone (n : Nat) (s : State) : Host.Outcome State Fault Refusal :=
  let g := s.stage n
  let size := 4096 + metaBytes g.meta_
  if !g.active ∨ g.bufErr ∨ !s.domainOn 57 ∨ !s.dramServes then .next s
  else if g.read then
    match g.data with
    | [] => .next s
    | (i, bs) :: rest =>
      if s.earlierWaits n i then .next s else
      let (ok, s) := s.dramStore (g.buf + i * size) bs
      if ok then
        let s := s.updStage n (fun g => { g with data := rest, moved := g.moved + 1, retried := none })
        .next ((match g.region with
          | some r => s.regionSector r (g.first + i)
          | none => s).stgStatus n)
      else .next (s.updStage n (fun g => { g with bufErr := true }))
  else if g.moved < g.total ∧ g.moved - g.freed < stagingSectors g.meta_ then
    let a := g.buf + (g.moved - g.header.toList.length) * size
    let put (s : State) (bs : List Byte) : State := (s.updStage n (fun g =>
      { g with data := g.data ++ [(g.moved, bs)], moved := g.moved + 1, retried := none })).stgStatus n
    if g.zeros then .next (put s (List.replicate size 0))
    else if g.moved = 0 ∧ g.header.isSome then .next (put s ((g.header.getD [] ++ List.replicate size 0).take size))
    else match s.dramLoad a size with
    | (some bs, s) => .next (put s bs)
    | (none, s) =>
      if (blocksOf a size).any (fun b => s.poisonedAt b) then
        .next (put (s.updStage n (fun g => { g with markers := g.markers ++ [g.moved] })) (List.replicate size 0))
      else .next (s.updStage n (fun g => { g with bufErr := true }))
  else .next s

/-! ### Causeway (R332–R337) -/

/-- The active owner of slot `i` of target `t`, and the active rank of a requester (R337, R340). -/
def State.activeOwner (s : State) (t i : Nat) : Nat :=
  (tabGet regReset s.slu.active (0x4200_0100 + 0x100 * t + 4 * (i / 4))).toNat / 2 ^ (8 * (i % 4)) % 64
def State.activeRank (s : State) (r : Nat) : Nat :=
  (tabGet regReset s.slu.active (0x4200_0010 + 4 * (r / 8))).toNat / 2 ^ (4 * (r % 8)) % 16

/-- The background winner of target `t` among some requesters (R334): the lowest rank; among equal ranks the next after the one that was
served last. -/
def State.background (s : State) (t : Nat) (l : List Nat) : Option Nat :=
  let best := l.foldl (fun m r => min m (s.activeRank r)) 15
  let last := s.slu.turn.at t
  ((List.range 16).map (fun i => (last + 1 + i) % 16)).find? (fun r => decide (r ∈ l) && s.activeRank r == best)

/-- Causeway's decision (R333): the slot's owner where it has a request, else the background winner among those whose transfer ends within
the slot, at 4 cycles a slot and one beat a cycle. A merge queue that has taken 16 partial writes in the frame takes no more (R382). -/
def State.grant (s : State) (a : SlotAsk) : State :=
  let full := a.target == 0 && decide (16 ≤ (s.slu.grants.filter (fun g => g.1 = 2)).length)
  let l := a.requests.filter (fun r => !(full && r.partialWrite))
  let owner := s.activeOwner a.target a.slot
  let take (r : Nat) (s : State) : State :=
    let merge := a.target == 0 && l.any (fun x => x.owner == r && x.partialWrite)
    s.updSlu (fun u => { u with grants := u.grants ++ [(a.target, a.slot, r)] ++ if merge then [(2, a.slot, r)] else [] })
  if l.any (fun r => r.owner == owner) then take owner s
  else match s.background a.target ((l.filter (fun r => r.beats ≤ a.room)).map SlotRequest.owner) with
  | some r => (take r s).updSlu (fun u => { u with turn := u.turn.put a.target r })
  | none => s

/-- CSW_STATUS.CAP follows the DRAM rate (R335). -/
def State.slotCap (s : State) : State :=
  s.set .CSW_STATUS_CAP (match s.get .SLU_DRAM_CFG_RATE with | 0 => 135 | 1 => 158 | _ => 180)

/-- CSW_HOG (R336): requester `r` is cut off; a stream mover repeats the transfer, the `transfer`-th of its sector, once. -/
def execCswHog (r transfer : Nat) (s : State) : Host.Outcome State Fault Refusal :=
  let s := s.set .CSW_HOG_HOG (s.get .CSW_HOG_HOG ||| 2 ^ r)
  let s := s.when (decide (r < 8)) (fun s =>
    s.updStage r (fun g =>
      if !g.active then g
      else if g.retried = some transfer then { g with bufErr := true }
      else { g with retried := some transfer }))
  .next ((s.when (decide (8 ≤ r)) State.busErr).raise 0x0A01 r)

/-- COMMIT (R337). -/
def execCswCommit (s : State) : Host.Outcome State Fault Refusal :=
  .next (s.access 0x4200_0000 (fun s => s.set .CSW_STATUS_COMMIT_PEND 1))

/-- The shadow owner of slot `i` of target `t`. -/
def State.slotOwner (s : State) (t i : Nat) : Nat :=
  match i % 4 with
  | 0 => s.get (.CSW_SLOT_OWNER0 t (i / 4))
  | 1 => s.get (.CSW_SLOT_OWNER1 t (i / 4))
  | 2 => s.get (.CSW_SLOT_OWNER2 t (i / 4))
  | _ => s.get (.CSW_SLOT_OWNER3 t (i / 4))

/-- The check of a commit (R337). -/
def State.commitOk (s : State) : Bool :=
  let owners (t : Nat) : List Nat := (List.range 256).map (s.slotOwner t)
  let legal (l : List Nat) : Bool := l.all (fun o => decide (o < 0x10) || o == 0x3F)
  let streams (l : List Nat) : Bool := (List.range 8).all (fun n => decide (3 ≤ l.count n))
  let l0 := owners 0
  let l1 := owners 1
  legal l0 && legal l1 && streams l0 && streams l1 && decide ((l0.filter (· ≠ 0x3F)).length ≤ s.get .CSW_STATUS_CAP)

/-- The registers that a commit copies: both tables and the ranks. -/
def shadowAddrs : List Nat :=
  [0x4200_0010, 0x4200_0014] ++ (List.range 64).map (fun k => 0x4200_0100 + 4 * k) ++ (List.range 64).map (fun k => 0x4200_0200 + 4 * k)

/-- FRAME_BOUNDARY (R333, R337): a frame ends, in which Causeway took the decisions `asks`; a pending commit is checked, and copied whole or
refused. The grants of the frame are kept, those of merged partial writes also as target 2. -/
def execFrameBoundary (asks : List SlotAsk) (s : State) : Host.Outcome State Fault Refusal :=
  let frame (s : State) : State := asks.foldl State.grant (s.updSlu (fun u => { u with grants := [] }))
  .next ((s.clocked 39 frame).when (s.is .CSW_STATUS_COMMIT_PEND && s.domainOn 39) (fun s =>
    let s := s.set .CSW_STATUS_COMMIT_PEND 0
    if s.commitOk then
      s.updSlu (fun u => { u with active := shadowAddrs.foldl (fun t a => tabPut regReset t a (s.regAt a)) u.active })
    else s.set .CSW_STATUS_COMMIT_ERR 1))

end Sys2Proof.Machine
end

