-- ==== Sys2Proof/Machine/Staithe.lean ====
section
/-! DEFINITION. The host interface (12): fetch, range locks and admission, completions, the fate log, controller resets, the ports. -/

namespace Sys2Proof

/-- The command takes an exclusive entry (R292). -/
def HostOp.writeKind : HostOp → Bool
  | .write | .writeZeroes | .writeUncorrectable | .zoneAppend | .deallocate | .copy | .zoneSend | .format | .sanitize => true
  | _ => false

/-- Sluice reserves space for the command (R292). -/
def HostOp.carriesData : HostOp → Bool
  | .write | .writeZeroes | .zoneAppend | .copy => true
  | _ => false

/-- Read, Compare or Verify. -/
def HostOp.readKind : HostOp → Bool
  | .read | .compare | .verify => true
  | _ => false

/-- Every LBA of a namespace: an LBA is 64 bits wide (R290). -/
def wholeSpace (ns : Nat) : LbaRange := { ns := ns, first := 0, count := 2 ^ 64, excl := true }

/-- The ranges that a command locks (R291); a Zone Append's is known once it is assigned (R298). -/
def HostCommand.locks (c : HostCommand) : List LbaRange :=
  let own (x : Bool) : List LbaRange := [{ ns := c.nsid, first := c.first, count := c.count, excl := x }]
  let listed (x : Bool) : List LbaRange := c.list.map (fun l => { ns := l.1, first := l.2.1, count := l.2.2, excl := x })
  match c.op with
  | .read | .compare | .verify => own false
  | .write | .writeZeroes | .writeUncorrectable => own true
  | .deallocate => listed true
  | .copy => listed false ++ own true
  | .zoneSend => if c.selectAll then [wholeSpace c.nsid] else listed true
  | .format | .sanitize => c.list.map (fun l => wholeSpace l.1)
  | _ => []

/-- Two entries conflict (R291). -/
def LbaRange.conflicts (a b : LbaRange) : Bool :=
  a.ns == b.ns && decide (a.first < b.first + b.count) && decide (b.first < a.first + a.count) && (a.excl || b.excl)

/-- The core that makes an access. -/
def Who.coreOf : Who → Nat
  | .fen c => c
  | .mire => 0

/-- The controllers that a reset acts on (R303); a port's are sixteen (R286). -/
def CtlReset.targets : CtlReset → List Nat
  | .ccEnable k | .functionLevel k => [k]
  | .vfEnable p => (List.range 15).map (fun j => 16 * p + j + 1)
  | .subsystem => List.range 32

/-- The place of a configuration field in `cfg`. -/
def ConfigField.place : ConfigField → Nat
  | .bar0 => 0x10
  | .aer => 0x1000
  | .vfs => 0x1001
  | .other o => o % 0x1000

end Sys2Proof

namespace Sys2Proof.Machine

/-- SEQ `a` comes before `b`, modulo 2^32 (R289). -/
def seqBefore (a b : Nat) : Bool := a != b && decide ((b + 2 ^ 32 - a) % 2 ^ 32 < 2 ^ 31)

/-! ### Contexts -/

/-- Context `x`. -/
def State.ctx (s : State) (x : Nat) : Ctx := s.sth.ctxs.at x

/-- Context `x` changed. -/
def State.updCtx (s : State) (x : Nat) (f : Ctx → Ctx) : State := s.updSth (fun h => { h with ctxs := h.ctxs.upd x f })

/-- The key of a queue. -/
def queueKey (k q : Nat) : Nat := 65536 * k + q

/-- Lock entries held. -/
def State.locksHeld (s : State) : Nat := ((s.sth.ctxs.filter (fun e => e.2.held)).map (fun e => e.2.ranges.length)).sum

/-- The registers that follow the contexts (R304, R314). -/
def State.sthStatus (s : State) : State :=
  let live := s.sth.ctxs.length
  let waiting := (s.sth.ctxs.filter (fun e => e.2.state = 1 ∨ e.2.state = 2)).length
  let s := ((s.set .STH_STATUS_LIVE live).set .STH_LOCK_STATUS_WAITING waiting).set .STH_LOCK_STATUS_HELD s.locksHeld
  s.setIf .STH_STATUS_QUIESCED (s.is .STH_CTRL_QUIESCE && live == 0)

/-- Word `w` of a context as Fen reads it (R290): the entry, its identity, SEQ, STATE, KIND, FLAGS, MOVED, ZA_LBA, NRANGE, LEDGER. A FREE one
reads 0. -/
def Ctx.word (c : Ctx) (w : Nat) : Nat :=
  let l := c.cmd.locks
  let kind := if c.cmd.op = .zoneAppend then 3 else if l.any (·.excl) then 2 else if l.isEmpty then 0 else 1
  if c.state = 0 then 0
  else match w with
  | 16 => c.cmd.cntlid + c.cmd.sqid * 2 ^ 16
  | 17 => c.seq
  | 18 => c.state + kind * 2 ^ 8 + (c.ledgered.toNat + 2 * c.xfer.toNat + 4 * c.held.toNat) * 2 ^ 16
  | 19 => c.moved
  | 20 => c.zaLba % 2 ^ 32
  | 21 => c.zaLba / 2 ^ 32
  | 22 => (if c.cmd.op = .zoneAppend then 1 else l.length) + c.ledger.getD 0xFFFF * 2 ^ 16
  | 23 => 0
  | _ => fieldAt c.cmd.sqe (4 * w) 4

/-- A context is pushed to STH_NEW of its controller's core (R296). -/
def State.pushNew (s : State) (x : Nat) (assign flushReady : Bool) : State :=
  let core := s.get (.STH_CTL_CFG_CORE (s.ctx x).cmd.cntlid)
  s.updSth (fun h => { h with new_ := h.new_.upd core (fun l => l ++ [{ assign := assign, flushReady := flushReady, ctx := x }]) })

/-- A context put among contexts in arrival order. -/
def seqInsert (e : Nat × Ctx) : List (Nat × Ctx) → List (Nat × Ctx)
  | [] => [e]
  | d :: l => if seqBefore d.2.seq e.2.seq then d :: seqInsert e l else e :: d :: l

/-- The contexts in arrival order. -/
def State.bySeq (s : State) : List (Nat × Ctx) := s.sth.ctxs.foldr seqInsert []

/-! ### Range locks and admission (R293–R298) -/

/-- Every range of context `x` is free of held entries and of earlier waiting ranges (R293). -/
def State.grantable (s : State) (x : Nat) : Bool :=
  let c := s.ctx x
  c.ranges.all (fun r => s.sth.ctxs.all (fun e =>
    e.1 == x ||
      !((e.2.held || ((e.2.state == 1 || e.2.state == 2) && seqBefore e.2.seq c.seq)) && e.2.ranges.any (fun q => q.conflicts r))))

/-- Room in the lock table for context `x` (R295); a Zone Append that holds its entry needs none. -/
def State.lockRoom (s : State) (x : Nat) : Bool :=
  (s.ctx x).held || decide (s.locksHeld + (s.ctx x).ranges.length ≤ 2048)

/-- The first LBA and length of what a data-carrying command writes. -/
def Ctx.target (c : Ctx) : Nat × Nat := (if c.cmd.op = .zoneAppend then c.zaLba else c.cmd.first, c.cmd.count)

/-- Space and credits for context `x` (R323, R324), each asked of a data-carrying command alone. -/
def State.spaceOk (s : State) (x : Nat) : Bool :=
  let c := s.ctx x
  !c.cmd.op.carriesData || (s.spaceFor c.cmd.nsid c.target.1 c.target.2).isSome
def State.creditOk (s : State) (x : Nat) : Bool :=
  let c := s.ctx x
  !c.cmd.op.carriesData || s.creditsFor c.cmd.cntlid c.cmd.sqid c.cmd.count

/-- Write-kind commands are held back (R307, R312, R316). -/
def State.writesHeld (s : State) : Bool :=
  s.is .STH_STATUS_PF_HOLD || decide (2 ≤ s.get .STH_PS_CUR) || !s.is .SLU_PC_CFG_EN

/-- Context `x` can be admitted but for the aging of R296. -/
def State.admissible (s : State) (x : Nat) : Bool :=
  let c := s.ctx x
  c.state == 1 && !(c.cmd.op.writeKind && s.writesHeld) && (c.held || s.grantable x) && s.lockRoom x && s.spaceOk x && s.creditOk x

/-- The oldest WAITING context. -/
def State.oldestWaiting (s : State) : Option Nat := ((s.bySeq.filter (fun e => e.2.state = 1)).head?).map (·.1)

/-- An aged oldest command keeps context `x` from a resource that it waits for alone (R296). -/
def State.agedBlocks (s : State) (x : Nat) : Bool :=
  match s.oldestWaiting with
  | some y =>
    let c := s.ctx x
    y != x && (s.ctx y).aged && !((s.ctx y).cmd.op.writeKind && s.writesHeld) && ((s.ctx y).held || s.grantable y) &&
      ((!s.lockRoom y && !c.ranges.isEmpty && !c.held) || (!s.spaceOk y && c.cmd.op.carriesData) ||
        (!s.creditOk y && c.cmd.op.carriesData && c.cmd.cntlid == (s.ctx y).cmd.cntlid))
  | none => false

/-- The entry that a data-carrying command reserves (R317, R323). -/
def State.reserve (s : State) (x : Nat) : State :=
  let c := s.ctx x
  if !c.cmd.op.carriesData then s
  else match s.spaceFor c.cmd.nsid c.target.1 c.target.2 with
    | some (i, k, u) =>
      let e : LedgerEntry :=
        { state := 1, section_ := k, cntlid := c.cmd.cntlid, ns := (c.cmd.nsid - 1) % 16, unit := u, lba := c.target.1 % 2 ^ 48,
          count := c.target.2, lseq := s.slu.lseq, sqid := c.cmd.sqid, ctx := x }
      let s := s.updSlu (fun u => { u with lseq := (u.lseq + 1) % 2 ^ 32 })
      (s.updEntry i (fun _ => e)).updCtx x (fun c => { c with ledger := some i })
    | none => s

/-- The entries of context `x` are taken (R293), and exclusive ones discard speculative regions in the same cycle (R18, R327). -/
def State.takeLocks (s : State) (x : Nat) : State :=
  let rs := (s.ctx x).ranges
  let s := s.updCtx x (fun c => { c with held := !c.ranges.isEmpty })
  (rs.filter (·.excl)).foldl State.discardOverlap s

/-- Context `x` is admitted (R296). -/
def State.admitCtx (s : State) (x : Nat) : State :=
  let s := if (s.ctx x).held then s else s.takeLocks x
  let s := (s.reserve x).updCtx x (fun c => { c with state := 3, aged := false })
  (s.pushNew x false false).sthStatus

/-- A Zone Append that has been assigned takes its entry once its range is grantable (R298). -/
def State.grantAppends (s : State) : State :=
  s.bySeq.foldl (fun s e =>
    let c := s.ctx e.1
    s.when (c.state == 1 && c.cmd.op == .zoneAppend && !c.held && s.grantable e.1 && s.lockRoom e.1) (fun s => s.takeLocks e.1)) s

/-! ### Fates (R303–R309) -/

/-- A record enters the fate log; beyond 8,192 the oldest is discarded and counted (R308, R309). -/
def State.addFate (s : State) (r : FateRecord) : State :=
  let s := s.updSth (fun h => { h with fates := h.fates ++ [r] })
  (if 8192 < s.sth.fates.length then
    (s.updSth (fun h => { h with fates := h.fates.drop 1 })).incSat .STH_FATE_DROP_COUNT
  else s).fateStatus

/-- The record of a command (R308). -/
def State.fateOf (s : State) (c : Ctx) (fate reason event : Nat) : FateRecord :=
  { sqid := c.cmd.sqid, cid := c.cmd.cid, fate := fate, reason := reason, event := event, cntlid := c.cmd.cntlid, nsid := c.cmd.nsid,
    opt := s.opt % 2 ^ 32 }

/-- The fate of a data-carrying command at a reset (R303), with the reason that a partial transfer has. -/
def Ctx.dataFate (c : Ctx) (partial_ : Nat) : Nat × Nat :=
  if c.ledgered then (1, 0) else if 0 < c.moved then (3, partial_) else (2, 0)

/-- Context `x` is FREE: its entries are released, an entry of the ledger that is still FILLING is freed (R318), and assigned Zone
Appends that it blocked take their entries (R294, R298). -/
def State.freeCtx (s : State) (x : Nat) : State :=
  let s := match (s.ctx x).ledger with
    | some i => s.when ((s.slu.ledger.at i).state == 1 && (s.slu.ledger.at i).ctx == x) (fun s => s.freeEntry i)
    | none => s
  let s := s.updSth (fun h => { h with
    ctxs := h.ctxs.put x default, cqs := h.cqs.mapAll (fun q => { q with waiting := q.waiting.filter (· ≠ x) }) })
  s.grantAppends.sthStatus

/-- The queues of controller `k` are reset (R303). -/
def State.resetQueues (s : State) (k : Nat) : State :=
  let keep (j : Nat) : Bool := j / 65536 != k
  s.updSth (fun h => { h with
    sqs := h.sqs.filter (fun e => keep e.1), cqs := h.cqs.filter (fun e => keep e.1), cfs := h.cfs.put k false })

/-- RST_PEND of controller `k` clears once none of its contexts is live (R303). -/
def State.resetDone (s : State) (k : Nat) : State :=
  if s.is (.STH_CTL_CFG_RST_PEND k) ∧ s.sth.ctxs.all (fun e => e.2.cmd.cntlid ≠ k) then
    (s.set (.STH_CTL_CFG_RST_PEND k) 0).resetQueues k
  else s

/-- Context `x` ends with one record (R303). -/
def State.endCtx (s : State) (x fate reason event : Nat) : State :=
  let c := s.ctx x
  ((s.addFate (s.fateOf c fate reason event)).freeCtx x).resetDone c.cmd.cntlid

/-- Controller `k` is reset (R303): waiting commands end as not started, and its core is interrupted for the rest, completions that wait
for their entry among them. -/
def State.resetController (s : State) (k : Nat) : State :=
  let s := (s.set (.STH_CTL_CFG_EN k) 0).set (.STH_CTL_CFG_RST_PEND k) 1
  let mine := s.bySeq.filter (fun e => e.2.cmd.cntlid = k)
  let s := mine.foldl (fun s e =>
    let c := s.ctx e.1
    s.when (decide (c.state = 1 ∨ c.state = 2)) (fun s => s.endCtx e.1 2 0 1)) s
  (s.resetDone k).irqFen (s.get (.STH_CTL_CFG_CORE k)) (.controller k)

/-! ### Fetch -/

/-- Staithe may fetch for controller `k` (R288, R303, R304, R307, R314): it is enabled, which a VF that is not there never is, and below its
quota. -/
def State.fetches (s : State) (k : Nat) : Bool :=
  let quota := s.get (.STH_CTL_CFG_QUOTA k)
  s.is .STH_CTRL_RUN && !s.is .STH_CTRL_QUIESCE && !s.committed && s.is (.STH_CTL_CFG_EN k) && !s.is (.STH_CTL_CFG_RST_PEND k) &&
    decide ((s.sth.ctxs.filter (fun e => e.2.cmd.cntlid = k)).length < (if quota = 0 then 4096 else quota))

/-- A queue of controller `k` holds an entry. -/
def State.offers (s : State) (k : Nat) : Bool :=
  s.sth.sqs.any (fun e => e.1 / 65536 == k && e.2.head != e.2.tail)

/-- The arbiter of controller `k`, and a change of it. -/
def State.arb (s : State) (k : Nat) : Arbiter := s.sth.arb.at k
def State.updArb (s : State) (k : Nat) (f : Arbiter → Arbiter) : State := s.updSth (fun h => { h with arb := h.arb.upd k f })

/-- The queues of controller `k` that hold an entry. -/
def State.waitingQueues (s : State) (k : Nat) : List Nat :=
  (s.sth.sqs.filter (fun e => e.1 / 65536 = k ∧ e.2.head ≠ e.2.tail)).map (fun e => e.1 % 65536)

/-- The first of some queues in round robin after queue `q`. -/
def nextQueue (l : List Nat) (q : Nat) : Option Nat :=
  match lowest (l.filter (q < ·)) with
  | some x => some x
  | none => lowest l

/-- Weighted round robin with an urgent class is selected (R287, R288): CC.AMS, bits 13:11 of CC (PRESUMED: NVMe's place). -/
def State.weighted (s : State) (k : Nat) : Bool := s.sth.regs.at (queueKey k 0x14) / 2 ^ 11 % 8 == 1

/-- The class of queue `q` under weighted round robin: 4 the admin queue, before all others, 0 urgent to 3 low. -/
def Arbiter.classOf (a : Arbiter) (q : Nat) : Nat := if q = 0 then 4 else a.prio.at q

/-- A class's weight. -/
def Arbiter.weight (a : Arbiter) (c : Nat) : Nat := a.weights.getD (c - 1) 0 + 1

/-- The class that a new burst takes: the admin queue, urgent queues, then the first of high, medium and low that has credits left; where
none that offers has, all credits are renewed. -/
def Arbiter.pick (a : Arbiter) (l : List Nat) : Nat × Bool :=
  let on (c : Nat) : Bool := l.any (fun q => a.classOf q == c)
  if on 4 then (4, false)
  else if on 0 then (0, false)
  else match [1, 2, 3].find? (fun c => on c && decide (0 < a.credits.at c)) with
    | some c => (c, false)
    | none => (([1, 2, 3].find? on).getD 3, true)

/-- The burst of controller `k` goes on with its queue. -/
def State.inBurst (s : State) (k : Nat) : Bool :=
  let a := s.arb k
  s.sth.last == k && decide (0 < a.used) && (a.burst == 7 || decide (a.used < 2 ^ a.burst)) && decide (a.queue ∈ s.waitingQueues k)

/-- The queue that controller `k` is served from next (R288): its burst's, else the next by round robin among all its queues or, under
weighted round robin, among those of the class picked. -/
def State.picks (s : State) (k : Nat) : Option Nat :=
  let a := s.arb k
  let l := s.waitingQueues k
  if s.inBurst k then some a.queue
  else if s.weighted k then
    let c := (a.pick l).1
    nextQueue (l.filter (fun q => a.classOf q = c)) (a.last.at (c + 1))
  else nextQueue l (a.last.at 0)

/-- A command has been fetched from queue `q` of controller `k`. -/
def State.noteFetch (s : State) (k q : Nat) : State :=
  let go := s.inBurst k
  let w := s.weighted k
  s.updArb k (fun a =>
    let (c, renew) := a.pick (s.waitingQueues k)
    let credits := if renew then [1, 2, 3].foldl (fun t c => t.put c (a.weight c)) a.credits else a.credits
    let credits := if w && decide (1 ≤ a.classOf q) && decide (a.classOf q ≤ 3) then credits.put (a.classOf q) (credits.at (a.classOf q) - 1) else credits
    { a with credits := if w then credits else a.credits, queue := q, used := if go then a.used + 1 else 1
             last := (a.last.put 0 q).put (c + 1) (if go then a.last.at (c + 1) else q) })

/-- It is the turn of controller `k` (R288): the one last served goes on with its burst, else the next in round robin is served. -/
def State.turn (s : State) (k : Nat) : Bool :=
  let on (j : Nat) : Bool := s.fetches j && s.offers j
  if s.inBurst s.sth.last && on s.sth.last then k == s.sth.last
  else (List.range ((k + 31 - s.sth.last) % 32)).all (fun j => !on ((s.sth.last + 1 + j) % 32))

/-- What the host sets of a controller's arbitration by admin commands that complete well (R288; PRESUMED: NVMe's opcodes and fields): Set
Features 01h gives burst and weights, Create I/O Submission Queue a queue's priority. -/
def State.arbitrate (s : State) (c : HostCommand) : State :=
  let d (i : Nat) : Nat := fieldAt c.sqe (4 * i) 4
  if c.sqid ≠ 0 then s
  else if d 0 % 256 = 9 ∧ d 10 % 256 = 1 then
    s.updArb c.cntlid (fun a => { a with
      burst := d 11 % 8, weights := [d 11 / 2 ^ 24 % 256, d 11 / 2 ^ 16 % 256, d 11 / 2 ^ 8 % 256], credits := [] })
  else if d 0 % 256 = 1 then s.updArb c.cntlid (fun a => { a with prio := a.prio.put (d 10 % 65536) (d 11 / 2 % 4) })
  else s

/-- The idle counter starts over (R311). -/
def State.notIdle (s : State) : State := (s.set .STH_IDLE_STATUS_IDLE 0).updSth (fun h => { h with idleMs := 0 })

/-- The idle counter has reached threshold `i` (R311). -/
def State.idleAt (s : State) (i : Nat) : State :=
  (s.set .STH_IDLE_STATUS_EXPIRED (s.get .STH_IDLE_STATUS_EXPIRED ||| 2 ^ i)).irqFen (s.get .STH_PS_CORE) (.idle i)

/-- A millisecond passes (R311): the idle counter takes a step every 10 ms while no context is live, and may reach a nonzero threshold. -/
def State.idleMs (s : State) : State :=
  if s.sth.ctxs ≠ [] then s
  else if s.sth.idleMs < 9 then s.updSth (fun h => { h with idleMs := h.idleMs + 1 })
  else
    let s := (s.incSat .STH_IDLE_STATUS_IDLE).updSth (fun h => { h with idleMs := 0 })
    s.forN 4 (fun j s =>
      s.when (s.is (.STH_IDLE_THRESH (j + 1)) && s.get (.STH_IDLE_THRESH (j + 1)) == s.get .STH_IDLE_STATUS_IDLE) (fun s => s.idleAt (j + 1)))

/-- What the port of controller `k` does, whose clock runs (R32). -/
def State.onPort (s : State) (k : Nat) (f : State → State) : State := s.clocked (59 + k / 16) f

/-- Queue q of controller k is in use or may come into use (R286, R287): its doorbells lie in BAR0, and of I/O queue pairs there are at
most 1,024, and 256 of a controller. DESIGN CHOICE: a pair is in use once a doorbell or a fetch has moved it. -/
def State.queueOk (s : State) (k q : Nat) : Bool :=
  let sq := s.sth.sqs.map (·.1)
  let used := (sq ++ (s.sth.cqs.map (·.1)).filter (fun e => decide (e ∉ sq))).filter (fun e => e % 65536 ≠ 0)
  q == 0 || decide (queueKey k q ∈ used) ||
    (decide (q < 1536) && decide (used.length < 1024) && decide ((used.filter (fun e => e / 65536 = k)).length < 256))

/-- Function `k` is there (R286): a PF, or a VF that its PF enables. -/
def State.fnOn (s : State) (k : Nat) : Bool := decide (k % 16 ≤ s.sth.vfs.at (k / 16))

/-- Queue q of controller k takes doorbells. -/
def State.rings (s : State) (k q : Nat) : Bool := s.fnOn k && s.is (.STH_CTL_CFG_EN k) && s.queueOk k q

/-- A doorbell of controller k is written (R288, R300, R304, R311): a tail of the host's, or a head; any write ends the idle time. -/
def State.sqRing (s : State) (k q tail : Nat) : State :=
  s.notIdle.when (s.rings k q) (fun s =>
    s.updSth (fun h => { h with sqs := h.sqs.upd (queueKey k q) (fun x => { x with tail := tail }) }))
def State.cqRing (s : State) (k q head : Nat) : State :=
  s.notIdle.when (s.rings k q) (fun s =>
    s.updSth (fun h => { h with cqs := h.cqs.upd (queueKey k q) (fun x => { x with head := head }) }))

/-- SQ_DOORBELL (R288, R304): the tail moves, whether or not fetching runs. -/
def execSqDoorbell (k q tail : Nat) (s : State) : Host.Outcome State Fault Refusal := .next (s.onPort k fun s => s.sqRing k q tail)

/-- CQ_DOORBELL (R300): the host's head moves. -/
def execCqDoorbell (k q head : Nat) (s : State) : Host.Outcome State Fault Refusal := .next (s.onPort k fun s => s.cqRing k q head)

/-- COMMAND_FETCH (R288–R291, R298, R312): the entry is copied into free context `x` with the next SEQ. -/
def execCommandFetch (x : Nat) (cmd : HostCommand) (s : State) : Host.Outcome State Fault Refusal :=
  let k := cmd.cntlid
  let key := queueKey k cmd.sqid
  let q := s.sth.sqs.at key
  if s.fetches k ∧ s.turn k ∧ s.picks k = some cmd.sqid ∧ q.head ≠ q.tail ∧ (s.ctx x).state = 0 ∧ x < 4096 ∧ s.domainOn (59 + k / 16) then
    let append := cmd.op = .zoneAppend
    let c : Ctx := { state := if append then 2 else 1, cmd := cmd, seq := s.sth.nextSeq, ranges := cmd.locks }
    let s := (s.noteFetch k cmd.sqid).updSth (fun h => { h with
      ctxs := h.ctxs.put x c, nextSeq := (h.nextSeq + 1) % 2 ^ 32, last := k,
      sqs := h.sqs.put key { q with head := (q.head + 1) % (max 1 cmd.size) } })
    let s := (s.when append (fun s => s.pushNew x true false)).notIdle.sthStatus
    .next (s.when (s.is .STH_PS_CUR) (fun s =>
      (s.set .STH_IDLE_STATUS_EXPIRED (s.get .STH_IDLE_STATUS_EXPIRED ||| 1)).irqFen (s.get .STH_PS_CORE) (.idle 0)))
  else .next s

/-- ADMISSION (R293–R298): the first WAITING command, in SEQ order, that all its resources can be taken for. -/
def execAdmission (s : State) : Host.Outcome State Fault Refusal :=
  let s := s.grantAppends
  match s.bySeq.find? (fun e => s.admissible e.1 && !s.agedBlocks e.1) with
  | some e => .next (s.admitCtx e.1)
  | none => .next s

/-- ADMISSION_AGE (R296). -/
def execAdmissionAge (s : State) : Host.Outcome State Fault Refusal :=
  match s.oldestWaiting with
  | some x => .next (s.updCtx x (fun c => { c with aged := true }))
  | none => .next s

/-! ### Completion (R300–R302) -/

/-- A completion or end write is refused (R301, R303). -/
def State.cplErr (s : State) (core : Nat) : State := (s.set .STH_STATUS_CPL_ERR 1).raise 0x0804 core

/-- The status is Successful Completion: status code and code type 0. -/
def success (status : Nat) : Bool := status % 2 ^ 11 == 0

/-- STH_CPL (R299–R303): the entries are released and the completion waits for its entry, or ends a controller in reset. -/
def execSthCpl (who : Who) (core ctx status : Nat) (s : State) : Host.Outcome State Fault Refusal :=
  let c := s.ctx ctx
  .next (s.access 0x4000_0044 (fun s =>
    let assigning := c.state = 2 ∧ c.cmd.op = .zoneAppend ∧ !success status
    if c.state ≠ 3 ∧ ¬ assigning then s.cplErr who.coreOf
    else if success status ∧ c.cmd.op.carriesData ∧ !c.ledgered then s.cplErr who.coreOf
    else if s.is (.STH_CTL_CFG_RST_PEND c.cmd.cntlid) then
      let f := if c.cmd.op.carriesData then c.dataFate 1 else (3, 3)
      s.endCtx ctx f.1 f.2 1
    else
      let s := match c.ledger with
        | some i => s.when ((s.slu.ledger.at i).state == 1 && (s.slu.ledger.at i).ctx == ctx) (fun s => s.freeEntry i)
        | none => s
      let s := (s.when (success status) (fun s => s.arbitrate c.cmd)).updCtx ctx (fun c => { c with
        state := 4, held := false, ranges := [], dw0 := s.get (.STH_CPL_DW0_DW0 core), status := status % 2 ^ 15 })
      let s := s.updSth (fun h => { h with
        cqs := h.cqs.upd (queueKey c.cmd.cntlid c.cmd.cqid) (fun q => { q with waiting := q.waiting ++ [ctx] }) })
      s.grantAppends.sthStatus))

/-- The 16 bytes of a completion entry (R300): DW0, SQHD, SQID, CID, the phase tag and the status. -/
def State.cplEntry (s : State) (c : Ctx) (phase : Bool) : List Byte :=
  let sq := s.sth.sqs.at (queueKey c.cmd.cntlid c.cmd.sqid)
  leBytes 4 c.dw0 ++ leBytes 4 0 ++ leBytes 2 sq.head ++ leBytes 2 c.cmd.sqid ++ leBytes 2 c.cmd.cid ++
    leBytes 2 (c.status * 2 + phase.toNat)

/-- COMPLETION_POST (R300): completions of one queue post in the order written, while the queue of `size` entries is not full. -/
def execCompletionPost (ctx size : Nat) (s : State) : Host.Outcome State Fault Refusal :=
  let c := s.ctx ctx
  let key := queueKey c.cmd.cntlid c.cmd.cqid
  let q := s.sth.cqs.at key
  let next := (q.tail + 1) % max 1 size
  if c.state = 4 ∧ q.waiting.head? = some ctx ∧ next ≠ q.head ∧ !s.committed ∧ !s.is (.STH_CTL_CFG_RST_PEND c.cmd.cntlid) ∧ s.domainOn (59 + c.cmd.cntlid / 16) then
    let p : CplQueue := { q with
      waiting := q.waiting.drop 1, tail := next, phase := if next = 0 then !q.phase else q.phase,
      slots := q.slots.put q.tail (s.cplEntry c q.phase) }
    .next ((s.updSth (fun h => { h with cqs := h.cqs.put key p })).freeCtx ctx)
  else .next s

/-- FLUSH_READY (R302): no earlier write-kind command of the namespace is left, so the Flush is pushed a second time. -/
def execFlushReady (ctx : Nat) (s : State) : Host.Outcome State Fault Refusal :=
  let c := s.ctx ctx
  let earlier (e : Nat × Ctx) : Bool :=
    e.2.cmd.op.writeKind && e.2.state != 4 && seqBefore e.2.seq c.seq &&
      (c.cmd.nsid == 0xFFFF_FFFF || e.2.cmd.nsid == c.cmd.nsid || e.2.ranges.any (fun r => r.ns == c.cmd.nsid))
  if c.state = 3 ∧ c.cmd.op = .flush ∧ !c.notified ∧ !s.sth.ctxs.any earlier then
    .next ((s.updCtx ctx (fun c => { c with notified := true })).pushNew ctx false true)
  else .next s

/-- STH_NEW_READ (R314): the read answers and removes the oldest notification; 0 where there is none. -/
def execSthNewRead (core : Nat) (s : State) : Host.Outcome State Fault Refusal :=
  .next (s.access 0x4000_0020 (fun s =>
    match s.sth.new_.at core with
    | [] => s.answer 0
    | e :: rest =>
      (s.answer (2 ^ 31 + e.assign.toNat * 2 ^ 30 + e.flushReady.toNat * 2 ^ 29 + e.ctx)).updSth (fun h =>
        { h with new_ := h.new_.put core rest })))

/-- STH_ZA_SET (R298, R299). -/
def execSthZaSet (ctx : Nat) (s : State) : Host.Outcome State Fault Refusal :=
  let c := s.ctx ctx
  .next (s.access 0x4000_0084 (fun s =>
    let lba := s.get .STH_ZA_LBA_HI_LBA * 2 ^ 32 + s.get .STH_ZA_LBA_LO_LBA
    if c.state ≠ 2 ∨ 2 ^ 48 < lba + c.cmd.count then s.set .STH_STATUS_ZA_ERR 1
    else
      let s := s.updCtx ctx (fun c => { c with
        state := 1, zaLba := lba, ranges := [{ ns := c.cmd.nsid, first := lba, count := c.cmd.count, excl := true }] })
      s.grantAppends.sthStatus))

/-! ### Ends and the fate log -/

/-- STH_CTX_END (R303, R304): a live context of a controller in reset, or any while QUIESCE is set, ends with a record. -/
def execSthCtxEnd (who : Who) (fate reason ctx : Nat) (s : State) : Host.Outcome State Fault Refusal :=
  let c := s.ctx ctx
  .next (s.access 0x4000_0080 (fun s =>
    let reset := s.is (.STH_CTL_CFG_RST_PEND c.cmd.cntlid)
    if c.state = 0 ∨ (!reset ∧ !s.is .STH_CTRL_QUIESCE) then s.cplErr who.coreOf
    else
      let f := if c.cmd.op.carriesData then c.dataFate 1 else (fate % 4, reason % 256)
      s.endCtx ctx f.1 f.2 (if reset then 1 else 4)))

/-- STH_FATE_SET (R306): only an unresolved record is resolved. -/
def execSthFateSet (fate reason index : Nat) (s : State) : Host.Outcome State Fault Refusal :=
  .next (s.access 0x4000_0098 (fun s =>
    (s.updSth (fun h => { h with
      fates := h.fates.modify index (fun r => if r.fate = 0xF then { r with fate := fate % 4, reason := reason % 256 } else r) })).fateStatus))

/-- STH_FATE_CLR (R309): the records of a controller go. -/
def execSthFateClr (k : Nat) (s : State) : Host.Outcome State Fault Refusal :=
  .next (s.access 0x4000_00B0 (fun s =>
    (s.updSth (fun h => { h with fates := h.fates.filter (fun r => r.cntlid ≠ k) })).fateStatus))

/-- The words of a fate record (R308). -/
def FateRecord.word (r : FateRecord) : Nat → Nat
  | 0 => r.sqid % 2 ^ 16 + r.cid % 2 ^ 16 * 2 ^ 16
  | 1 => r.fate + r.reason % 256 * 2 ^ 8 + r.event % 256 * 2 ^ 16 + r.cntlid % 256 * 2 ^ 24
  | 2 => r.nsid % 2 ^ 32
  | _ => r.opt % 2 ^ 32

/-- FATE_DATA_READ (R314): a read of STH_FATE_DATA(3) answers word 3 of record INDEX and advances INDEX. -/
def execFateDataRead (s : State) : Host.Outcome State Fault Refusal :=
  .next (s.access 0x4000_00AC (fun s =>
    (s.answer ((s.sth.fates.getD (s.get .STH_FATE_CUR_INDEX) {}).word 3)).inc .STH_FATE_CUR_INDEX))

/-- Configuration space of functions whose numbers satisfy `f` is as after a reset of theirs (R285, R286): what the host wrote is gone, and
of PFs among them, the VFs are not enabled. -/
def State.resetConfig (s : State) (f : Nat → Bool) : State :=
  s.updSth (fun h => { h with
    cfg := h.cfg.filter (fun e => !f (e.1 / 65536)), vfs := h.vfs.filter (fun e => !f (16 * e.1)) })

/-- CONTROLLER_RESET (R303): a Function Level Reset resets the function's configuration space too, and a PF's ends its VFs (R285, R286). -/
def execControllerReset (why : CtlReset) (s : State) : Host.Outcome State Fault Refusal :=
  let s := why.targets.foldl State.resetController s
  .next (match why with
    | .functionLevel k =>
      let vfs := if k % 16 = 0 then (CtlReset.vfEnable (k / 16)).targets else []
      (vfs.foldl State.resetController s).resetConfig (fun j => j == k || decide (j ∈ vfs))
    | .vfEnable p => s.updSth (fun h => { h with vfs := h.vfs.put p 0 })
    | _ => s)

/-- QUIESCE (R304): fetching stops, or resumes. -/
def execQuiesce (set : Bool) (s : State) : Host.Outcome State Fault Refusal :=
  .next (s.access 0x4000_0000 (fun s => (s.setIf .STH_CTRL_QUIESCE set).sthStatus))

/-- IDLE_EXPIRED (R311): the idle counter has reached a nonzero threshold. -/
def execIdleExpired (i : Nat) (s : State) : Host.Outcome State Fault Refusal :=
  let t := s.get (.STH_IDLE_THRESH i)
  .next (s.when (decide (1 ≤ i) && decide (i ≤ 4) && t != 0 && decide (t ≤ s.get .STH_IDLE_STATUS_IDLE) && s.sth.ctxs.isEmpty) (fun s => s.idleAt i))

/-! ### The ports (R476–R478, R514) -/

/-- The PERST and LINK bits of a port. -/
def perstBit (port : Nat) : Fld := if port = 0 then .STH_BOOT_PERST_A else .STH_BOOT_PERST_B
def linkBit (port : Nat) : Fld := if port = 0 then .STH_BOOT_LINK_A else .STH_BOOT_LINK_B

/-- How a port answers the host. -/
def State.hostAnswer (s : State) (a : HostAnswer) : State := s.updSth (fun h => { h with answer := a })

/-- CFG_RDY (R476, R477): Fen firmware sets it. -/
def execCfgRdy (s : State) : Host.Outcome State Fault Refusal := .next (s.access 0x4000_0010 (fun s => s.set .STH_BOOT_CFG_RDY 1))

/-- PERST (R303, R476): asserted, it resets the port's controllers and configuration space and ends its link; the other port goes on. -/
def execPerst (port : Nat) (asserted : Bool) (s : State) : Host.Outcome State Fault Refusal :=
  let s := s.setIf (perstBit port) (!asserted)
  if asserted then
    .next ((((List.range 16).map (fun j => 16 * port + j)).foldl State.resetController (s.set (linkBit port) 0)).resetConfig (· / 16 == port))
  else .next s

/-- LINK_UP (R476): a port whose PERST# is deasserted has its link in L0, once power-on reset is released. -/
def execLinkUp (port : Nat) (s : State) : Host.Outcome State Fault Refusal :=
  .next (s.when (s.is (perstBit port) && s.weir.powered) (fun s => s.set (linkBit port) 1))

/-- STH_LINK_DOWN (R413). -/
def execSthLinkDown (port : Nat) (s : State) : Host.Outcome State Fault Refusal :=
  .next ((s.set (linkBit port) 0).raise 0x0803 port)

/-- What a configuration request reads (R286). -/
def State.configRead (s : State) (k : Nat) (field : ConfigField) : Nat :=
  match field with
  | .vfs => s.sth.vfs.at (k / 16)
  | f => s.sth.cfg.at (queueKey k f.place)

/-- A configuration write (R285, R286, R303): BAR0 is 32 KiB wide, AER's status bits clear where 1 is written (PRESUMED of both: PCI
Express), VF Enable of a PF enables up to 15 VFs or, cleared, resets them; another register keeps what is written (DESIGN CHOICE: no rule
gives it). -/
def State.configWrite (s : State) (k : Nat) (field : ConfigField) (v : Nat) : State :=
  let keep (v : Nat) : State := s.updSth (fun h => { h with cfg := h.cfg.put (queueKey k field.place) v })
  match field with
  | .bar0 => keep (v / 2 ^ 15 * 2 ^ 15)
  | .aer => keep (s.configRead k .aer &&& (v ^^^ (2 ^ 32 - 1)))
  | .vfs =>
    if k % 16 ≠ 0 then s
    else
      let s := s.when (v == 0 && s.sth.vfs.at (k / 16) != 0) (fun s => (CtlReset.vfEnable (k / 16)).targets.foldl State.resetController s)
      s.updSth (fun h => { h with vfs := h.vfs.put (k / 16) (min v 15) })
  | .other _ => keep (v % 2 ^ 32)

/-- CONFIGURATION_REQUEST (R285, R286, R476): retry status until CFG_RDY; then a write of `value` to a register of function `fn` of the
port, or a read of it where there is none; a VF that is not enabled is an Unsupported Request. -/
def execConfigurationRequest (port fn : Nat) (field : ConfigField) (value : Option Nat) (s : State) : Host.Outcome State Fault Refusal :=
  let k := 16 * port + fn
  .next (s.onPort k fun s => s.when (s.is (linkBit port)) (fun s =>
    if !s.is .STH_BOOT_CFG_RDY then s.hostAnswer .retry
    else if !s.fnOn k then s.hostAnswer .unsupported
    else match value with
      | none => (s.hostAnswer .served).answer (s.configRead k field)
      | some v => (s.hostAnswer .served).configWrite k field v))

/-- CSTS.RDY of controller k (R478). -/
def State.ready (s : State) (k : Nat) : Bool := s.is (.STH_CTL_CFG_EN k) && s.is .STH_CTRL_RUN && !s.is (.STH_CTL_CFG_RST_PEND k)

/-- What an NVMe controller register of controller k reads (R286, R287): CAP with MQES 0x0FFF, CQR 1, AMS 1, TO 0x78 and DSTRD and MPSMIN
0, its other bits as Fen firmware advertises; CSTS with RDY and CFS; others as the host wrote them. The places of the fields are
PRESUMED from NVMe. -/
def State.nvmeRead (s : State) (k offset : Nat) : Nat :=
  match offset with
  | 0x00 => 0x0FFF + 2 ^ 16 + 2 ^ 17 + 0x78 * 2 ^ 24
  | 0x04 => (Config.capHigh k &&& 0xFFF0_FFF0#32).toNat
  | 0x14 => s.sth.regs.at (queueKey k offset) / 2 * 2 + s.get (.STH_CTL_CFG_EN k)
  | 0x1C => (s.ready k).toNat + 2 * (s.sth.cfs.at k).toNat
  | _ => s.sth.regs.at (queueKey k offset)

/-- A host's access to BAR0 of controller k that its port serves (R286): a write of an NVMe register is kept; CC.EN, bit 0 at offset 0x14,
enables the controller or resets it (R303, R478); a read answers. CAP and CSTS are read-only. From 0x1000 the doorbells follow, whose read
is open, then the MSI-X table and its pending bits, which are read-only; beyond, nothing. -/
def State.nvmeAccess (s : State) (k offset : Nat) (value : Option Nat) : State :=
  let s := s.hostAnswer .served
  let doorbell := 0x1000 ≤ offset ∧ offset < 0x4000
  match value with
  | none => if doorbell then let (v, s) := s.draw 32; s.answer v else s.answer (s.nvmeRead k offset)
  | some v =>
    if doorbell then
      let q := (offset - 0x1000) / 8
      if offset % 8 = 0 then s.sqRing k q (v % 65536) else if offset % 8 = 4 then s.cqRing k q (v % 65536) else s
    else if offset = 0 ∨ offset = 4 ∨ offset = 0x1C ∨ 0x5000 ≤ offset then s
    else
      let s := s.updSth (fun h => { h with regs := h.regs.put (queueKey k offset) (v % 2 ^ 32) })
      if offset ≠ 0x14 then s
      else if v % 2 = 1 then s.set (.STH_CTL_CFG_EN k) 1
      else s.when (s.is (.STH_CTL_CFG_EN k)) (fun s => s.resetController k)

/-- CONTROLLER_REGISTER_WRITE (R286, R303, R478, R514): a host's write of `value` at an offset of BAR0, or, since no row stands for it, a
read where there is none (DESIGN CHOICE). While the port answers with retry status, or the function is not there, a write is dropped and a
read is an Unsupported Request. -/
def execControllerRegisterWrite (k offset : Nat) (value : Option Nat) (s : State) : Host.Outcome State Fault Refusal :=
  .next (s.onPort k fun s =>
    if !s.is (linkBit (k / 16)) then s
    else if !s.is .STH_BOOT_CFG_RDY || !s.fnOn k then s.hostAnswer (if value.isSome then .dropped else .unsupported)
    else s.nvmeAccess k offset value)

end Sys2Proof.Machine
end

