-- ==== Sys2Proof/Machine/Access.lean ====
section
/-! DEFINITION. A store to a control register and a load of one (00, 01, 23): which accesses R14 and R7 refuse, what R8 does with each
field that has no row of its own, and what a load answers. -/

namespace Sys2Proof.Machine

/-- The field at bit `lo` of register `r` is written by a row of its own, and REGISTER_WRITE leaves it as it is. -/
def ownRow (r : RegId) (lo : Nat) : Bool :=
  match r with
  | .TIDE_CG_EN | .TIDE_OPT_LO | .WTH_RET_CTRL | .REED_CS_DATA | .SDG_CTRL | .SDG_COEF_DATA | .MBX_DB | .MWQ_DB | .MWQ_CFG
  | .MWC_CFG | .MWC_CI | .MWQ_CANCEL | .STH_CPL | .STH_CTX_END | .STH_ZA_SET | .STH_FATE_SET | .STH_FATE_CLR | .STH_BOOT
  | .SLU_LED_REL | .SLU_LED_FILL | .SLU_RA_CMD | .CSW_CTRL | .CARR_CTRL | .CARR_OP | .SLU_SCRB_CTRL | .SLU_PM_ACK
  | .WEIR_PF_CTRL | .LEV_HEARTBEAT | .LEV_CLR | .LEV_INJ | .PEAT_CTRL | .PEAT_PCC | .PEAT_CUR => true
  | .TIDE_CTRL => lo == 0
  | .TUS_CTRL => lo == 7
  | .TUS_SEC_CTRL => lo == 31 || lo == 8
  | .TUS_SEEK_CTRL => lo == 0 || lo == 1
  | .WTH_SPN_CTRL => lo == 0 || lo == 4
  | .WTH_VCM_CTRL => lo == 0 || lo == 1
  | .WTH_MA_CTRL => lo == 4
  | .REED_ST_CTRL => lo == 31 || lo == 30 || lo == 29 || lo == 15
  | .STH_CTRL => lo == 30
  | .SLU_KEY_CTRL => lo == 31 || lo == 30
  | .LODE_CH_CTRL => lo == 31 || lo == 30 || lo == 29
  | .LEV_RESET | .DYKE_MR_EXT => lo == 31
  | _ => false

/-- The lock of an RWL register is committed (R51, R465). -/
def State.rwlCommitted (s : State) : RegId → Bool
  | .TIDE_OPT_LO | .TIDE_OPT_HI => s.is .TIDE_STATUS_OPT_LOADED
  | .PEAT_PCC => s.peat.pccLocked
  | _ => false

/-- A register's bits after a store of `v` to one field, by its access code (R8, R10); `sets` lets the requester set an RO field. -/
def FieldRow.stored (f : FieldRow) (locked sets : Bool) (v w : Word) : Word :=
  let m := BitVec.ofNat 32 ((2 ^ f.width - 1) * 2 ^ f.lo)
  let put := (w &&& ~~~m) ||| (v &&& m)
  match f.acc with
  | .ro => if sets then put else w
  | .wo => w
  | .rw | .rws => put
  | .rwl => if locked then w else put
  | .w1c => w &&& ~~~(v &&& m)

/-- Mire sets the fields of a mailbox register that are RO to requesters (R227). -/
def mireSets (who : Who) (a : Nat) : Bool := decide (who = .mire) && decide (0x4500_0000 ≤ a) && decide (a < 0x4502_0000)

/-- The register at `a` after a store of `v` by `who`: each field that has no row of its own, by its access code (R8). -/
def State.storeFields (s : State) (who : Who) (r : RegRow) (a : Nat) (v : Word) : State :=
  s.putReg a ((r.fields.filter (fun f => !ownRow r.id f.lo)).foldl (fun w f =>
    f.stored (s.rwlCommitted r.id) (mireSets who a) v w) (s.regAt a))

/-- A store that the register's own rule turns away, with what that rule sets instead: R417 and R415 (Levee), R342 (Lode),
R208 (mailboxes), R259 and R273 (queues and rings), R337 (Causeway), R368, R370 and R371 (Carr), R316 (protected cache),
R145 (patches), R108 (diagonal couplings). -/
def State.turnedAway (s : State) (fen : Bool) (r : RegId) (ix : List Nat) (v : Word) : Option State :=
  let i := ix.headD 0
  let x := v.toNat
  match r with
  | .LEV_CTRL | .LEV_WDOG | .LEV_HEARTBEAT | .LEV_CLR | .LEV_INJ => if fen then some (s.set .LEV_STATUS_WR_DENY 1) else none
  | .LEV_SRC =>
    if fen then some (s.set .LEV_STATUS_WR_DENY 1)
    else if s.is (.LEV_SRC_FIXED i) then some s
    else none
  | .LEV_RESET =>
    let b := x / 2 ^ 16 % 32
    if fen ∧ (x / 2 ^ 31 = 1 ∨ b = 6 ∨ b = 7) then some (s.set .LEV_STATUS_WR_DENY 1) else none
  | .LODE_CH_CTRL | .LODE_CH_HEAD_LO | .LODE_CH_HEAD_HI =>
    if fen ∧ i < 8 then some (s.dmaFlag i (.LODE_CH_STATUS_CMD_ERR i)) else none
  | .MBX_REQ => if s.is (.MBX_STAT_STATE i) then some (s.set (.MBX_STAT_WR_ERR i) 1) else none
  | .MBX_DB => if 1 < x % 2 + x / 2 % 2 + x / 4 % 2 then some (s.set (.MBX_STAT_DB_ERR i) 1) else none
  | .MWQ_BASE_LO | .MWQ_BASE_HI => if s.is (.MWQ_CFG_EN i) then some s else none
  | .MWC_BASE_LO | .MWC_BASE_HI | .MWC_SPILL_LO | .MWC_SPILL_HI =>
    if s.is (.MWC_CFG_EN i) || s.is (.MWC_STATUS_SPILL_CNT i) then some s else none
  | .CSW_SLOT | .CSW_PRIO => if s.is .CSW_STATUS_COMMIT_PEND then some (s.set .CSW_STATUS_SHADOW_ERR 1) else none
  | .CARR_CFG | .CARR_WIN_BASE_LO | .CARR_WIN_BASE_HI | .CARR_WIN_SIZE =>
    if s.is .CARR_STATUS_STATE then some (s.set .CARR_STATUS_CFG_ERR 1) else none
  | .CARR_LOCK => if x % 2 ^ 16 = 2 ^ 16 - 1 then some (s.set .CARR_STATUS_CFG_ERR 1) else none
  | .CARR_OP => if x / 2 ^ 28 = 0 ∨ 3 < x / 2 ^ 28 then some (s.set .CARR_OP_STATUS_ERR 1) else none
  | .SLU_PC_CFG => if x / 2 ^ 16 % 4 = 3 ∨ s.slu.ledger ≠ [] then some s else none
  | .REED_PATCH => if s.storesIdle 0xFF then none else some (s.set .REED_CS_CTRL_ERR 1)
  | .TUS_XC => if i = ix.getD 1 0 then some s else none
  | _ => none

/-- What a store to `r` does beyond its bits: a source or speed that moves the target (R65, R70), heads taken out of use (R45),
ENC_SYNC_IN no longer followed (R49) and phase control withdrawn (R50), a stream clock judged (R47), a bridge's or a driver's command (R75,
R80, R84), servo tables no longer valid (R100), freezes (R467), key words and extend data (R330, R435), a block reset (R424), a chopper
test (R406), the units of the protected cache (R316). `old` is the state before. -/
def State.acted (s old : State) (r : RegId) (ix : List Nat) (v : Word) : State :=
  let i := ix.headD 0
  let x := v.toNat
  match r with
  | .TIDE_CTRL => s.headsInUse.esiControl old
  | .TIDE_ST_CBPC => s.judgeRate i
  | .TUS_CTRL => s.when (!s.is .TUS_CTRL_TABLES_VALID) (fun s => s.forN 4 (fun k s => s.freezeRegion k))
  | .WTH_SPN_CTRL => (s.set .WTH_SPN_CTRL_SRC (old.get .WTH_SPN_CTRL_SRC)).setSource (x / 2 ^ 8 % 2)
  | .WTH_SPN_SPEED => s.retarget
  | .WTH_VCM_CTRL =>
    if x % 2 = 0 ∧ x / 2 % 2 = 0 ∧ s.is (.WTH_VCM_CTRL_EN i) then
      (if s.is (.WTH_VCM_STATUS_RET_ACTIVE i) then s.set (.WTH_VCM_CTRL_EN i) 0 else s.bridgeOff i)
    else s.driveVcm i
  | .WTH_RET_CFG => s.driveVcm i
  | .WTH_MA_CTRL => s.driveMa i
  | .PEAT_FRZ =>
    let s := s.set .PEAT_FRZ_AREA (old.get .PEAT_FRZ_AREA)
    s.forN 10 (fun a s =>
      if x / 2 ^ a % 2 = 1 then s.when (!s.frozen a) (fun s => s.freeze a)
      else
        let s := { s with peat := { s.peat with freezeWait := s.peat.freezeWait.filter (· ≠ a) } }
        s.when (s.frozen a) (fun s => s.unfreeze a))
  | .SDG_CODE => s.codeStatus i
  | .SLU_KEY_DATA => s.set (.SLU_KEY_DATA_KEY i) x
  | .DYKE_EXT_DATA => { s with dyke := { s.dyke with ext := s.dyke.ext.put i v } }
  | .LEV_RESET =>
    let b := x / 2 ^ 16 % 32
    s.when (b == 6 || b == 7 || b == 11 || b == 12) (fun s => s.requestBlock b)
  | .LEV_SRC => s.trimReact i
  | .WEIR_CTRL => s.when (x / 2 ^ 31 == 1) (fun s => { s with weir := { s.weir with testPending := true } })
  | .SLU_PC_CFG => s.sluStatus
  | _ => s

/-- The value of a register that its fields show (R8): a WO field reads as 0, and so do reserved bits. -/
def RegRow.shown (r : RegRow) (w : Word) : Word :=
  r.fields.foldl (fun acc f => match f.acc with
    | .wo => acc
    | _ => acc ||| (w &&& BitVec.ofNat 32 ((2 ^ f.width - 1) * 2 ^ f.lo))) 0

/-- The state that an outcome goes on to; the one before where it stops. -/
def goesTo (s : State) (o : Host.Outcome State Fault Refusal) : State :=
  match o with
  | .next t => t
  | _ => s

/-- What a load by `who` of the register `r`, indices `ix`, answers and does: a register whose reads act does what its own row does; a
window shows the record at its cursor; DYKE_UID what OTP gave (R429); TIDE_OPT_HI answers once with what the requester's read of TIDE_OPT_LO latched (R51). -/
def State.loadAct (s : State) (who : Who) (r : RegRow) (ix : List Nat) (a : Nat) : State :=
  let i := ix.headD 0
  match r.id with
  | .REED_ST_EVENT => goesTo s (execReedEventRead who i s)
  | .REED_CS_DATA => goesTo s (execCsRead who s)
  | .SDG_RESULT => goesTo s (execResultRead who i s)
  | .SDG_COEF_DATA => goesTo s (execCoefRead who i s)
  | .SDG_VFY_RESULT => goesTo s (execVfyResultRead who i s)
  | .STH_NEW => goesTo s (execSthNewRead i s)
  | .DYKE_UID => s.answer (s.dyke.uid.at i).toNat
  | .STH_CTX => s.answer ((s.ctx i).word (ix.getD 1 0))
  | .TIDE_OPT_LO => goesTo s (execTideOptLoRead who s)
  | .TIDE_OPT_HI =>
    match s.tide.optLatch.find? (fun e => decide (e.1 = who)) with
    | some e => { s with tide := { s.tide with optLatch := s.tide.optLatch.filter (fun e => decide (e.1 ≠ who)) } }.answer e.2
    | none => s.answer (s.get .TIDE_OPT_HI_MS_HI)
  | .WEIR_MIN_V12 => goesTo s (execWeirMinV12Read who s)
  | .WEIR_CHOP => (s.answer (r.shown (s.regAt a)).toNat).set .WEIR_CHOP_IPK 0
  | .SLU_LED_DATA =>
    if i = 3 then goesTo s (execLedDataRead s) else s.answer ((s.slu.ledger.at (s.get .SLU_LED_CUR_INDEX)).word i)
  | .SLU_PM_DATA_LO => s.answer ((s.slu.pm.getD (s.get .SLU_PM_CUR_INDEX) {}).lo)
  | .SLU_PM_DATA_HI => goesTo s (execPmDataRead s)
  | .STH_FATE_DATA =>
    if i = 3 then goesTo s (execFateDataRead s) else s.answer ((s.sth.fates.getD (s.get .STH_FATE_CUR_INDEX) {}).word i)
  | _ => s.answer (r.shown (s.regAt a)).toNat

/-- REGISTER_WRITE (R7, R8, R14, R33): a store of `value`, or, since the table has no row for a plain one, a load where there is none
(DESIGN CHOICE). R14 judges first; then the width, the alignment, a register at the address and its clock. A store meets the rules that
turn it away, and then every field that has no row of its own takes its part of the value; a load answers. -/
def execRegisterWrite (who : Who) (addr width : Nat) (value : Option Word) (s : State) : Host.Outcome State Fault Refusal :=
  match value with
  | some v =>
    .next (s.reach who fenMayStore addr width (fun r ix s =>
      match s.turnedAway (decide (who ≠ .mire)) r.id ix v with
      | some t => t
      | none => (s.storeFields who r addr v).acted s r.id ix v))
  | none => .next (s.reach who fenMayLoad addr width (fun r ix s => s.loadAct who r ix addr))

end Sys2Proof.Machine
end

