-- ==== Sys2Proof/Machine/Lode.lean ====
section
/-! DEFINITION. The DMA engines (14): descriptors in Fen memory, buffer DRAM or host staging, their chains, pauses, stops and errors. The
bytes that come from outside (host memory, a peripheral's FIFO) are operands of the rows that move them. -/

namespace Sys2Proof.Machine

/-! ### Accesses of a channel -/

/-- The Causeway owner of channel `c` (R342): 8 and 9 for the ports' host transfers, 0x0D for Lode. -/
def dmaOwner (c : Nat) : Nat := if c < 8 then 8 + c / 4 else 0x0D

/-- A register access by channel `c`, which R14 permits a Fen core: what the access makes of the machine, and its answer, none for a bus
error. DESIGN CHOICE: it acts as the core that the channel interrupts; `s.bus`, which answers the requester of a row, stays. -/
def State.dmaRegister (s : State) (c a : Nat) (value : Option Word) : Option Nat × State :=
  let t := goesTo s (execRegisterWrite (.fen (s.get (.LODE_CH_CTRL_CORE c))) a 4 value s)
  (match t.bus with
    | .value v => some v
    | .done => some 0
    | _ => none, { t with bus := s.bus })

/-- `len` bytes from `a` as channel `c` reads them; none is a bus error (R343, R507). A register window takes a 32-bit access alone (R7), and
R14 judges it. `outside` holds what comes from host memory, or from a peripheral's FIFO at a paced held address outside every region (DESIGN
CHOICE: no rule gives a FIFO an address). -/
def State.dmaLoad (s : State) (c a len : Nat) (outside : Option (List Byte)) : Option (List Byte) × State :=
  let fill (l : List Byte) : List Byte := (l ++ List.replicate len 0).take len
  if inDram a then s.dramLoad a len
  else if c < 8 then (outside.map fill, s)
  else if inTcm a len then (some ((List.range len).map (fun i => s.sramAt (a + i))), s)
  else match windowOf a with
    | some _ =>
      if len = 4 && a % 4 == 0 && fenMayLoad a then
        let (v, s) := s.dmaRegister c a none
        (v.map (leBytes 4), s)
      else (none, s)
    | none => (outside.map fill, s)

/-- Bytes written from `a` by channel `c`; false is a bus error. -/
def State.dmaStore (s : State) (c a : Nat) (bs : List Byte) (outside : Bool) : Bool × State :=
  if inDram a then s.dramStore a bs
  else if c < 8 then (outside, s)
  else if inTcm a bs.length then (true, s.writeSram a bs)
  else match windowOf a with
    | some _ =>
      if bs.length = 4 && a % 4 == 0 && fenMayStore a then
        let (v, s) := s.dmaRegister c a (some (BitVec.ofNat 32 (leNat bs)))
        (v.isSome, s)
      else (false, s)
    | none => (outside, s)

/-- The place in the SRAM of a descriptor of a host channel, in host staging (R28, R342). -/
def stagedAt (a : Nat) : Nat := sramKey 6 a

/-- `len` bytes of a descriptor (R342, R343). -/
def State.descRead (s : State) (c a len : Nat) : Option (List Byte) × State :=
  if c < 8 then (some ((List.range len).map (fun i => s.sramAt (stagedAt a + i))), s) else s.dmaLoad c a len none

/-- Bytes of a descriptor written. -/
def State.descWrite (s : State) (c a : Nat) (bs : List Byte) : State :=
  if c < 8 then s.writeSram (stagedAt a) bs else (s.dmaStore c a bs false).2

/-! ### Moving bytes -/

/-- The end of the transfer at SRC, or at DST, lies outside the chip: host memory, or the FIFO of the paced peripheral. -/
def DmaChannel.srcOut (d : DmaChannel) (c : Nat) : Bool := decide (c < 8) || (d.srcFix && d.req != 0)
def DmaChannel.dstOut (d : DmaChannel) (c : Nat) : Bool := decide (c < 8) || (d.dstFix && d.req != 0)

/-- The next source byte to be read and the next destination byte to be written. -/
def DmaChannel.nextSrc (d : DmaChannel) : Nat := d.src + if d.srcFix then 0 else d.got
def DmaChannel.nextDst (d : DmaChannel) : Nat := d.dst + if d.dstFix then 0 else d.moved

/-- Bytes written by the channel, one access at a time: a 32-bit one at a held address (R346), or up to the end of a 64-byte block. False
is a bus error, with the bytes before it written. -/
def State.dmaPut (s : State) (c : Nat) : Nat → List Byte → Bool × State
  | 0, _ => (true, s)
  | fuel + 1, bs =>
    let d := s.dmaCh c
    let k := if d.held then 4 else 64 - d.nextDst % 64
    let p := s.dmaStore c d.nextDst (bs.take k) (d.dstOut c)
    if bs.isEmpty then (true, s)
    else if p.1 then (p.2.updDma c (fun d => { d with moved := d.moved + (bs.take k).length })).dmaPut c fuel (bs.drop k)
    else (false, p.2)

/-- The bytes that the block of an encrypted transfer in which the channel stands holds: 16 of data, or a unit's metadata (R329). -/
def DmaChannel.block (d : DmaChannel) : Nat := if d.moved % d.unit < 4096 then 16 else d.unit - 4096

/-- A block encrypted on its way to DRAM, or decrypted on its way from it (R329, R345); metadata passes in clear. The tweak is the LBA of the
data unit. -/
def State.crypt (s : State) (d : DmaChannel) : List Byte :=
  let u := d.moved % d.unit
  if u < 4096 then xtsBlock (inDram d.dst) (s.slu.keys.at d.key) (d.tweak + d.moved / d.unit) (u / 16) d.part else d.part

/-- One step of a transfer, with `n` bytes still to be read and `data` from outside: an access, whose bytes go on to the destination at once,
or for an encrypted transfer once their block is complete. It carries the error so far (2 a read's, 3 a write's). -/
def State.dmaStep (c : Nat) (acc : (Nat × Nat × List Byte) × State) : (Nat × Nat × List Byte) × State :=
  let (err, n, data) := acc.1
  let s := acc.2
  let d := s.dmaCh c
  let k := min n (if d.held then 4 else if d.xts then d.block - d.part.length else 64 - d.nextDst % 64)
  if err ≠ 0 ∨ n = 0 then acc
  else match s.dmaLoad c d.nextSrc k (if d.srcOut c then some data else none) with
    | (none, s) => ((2, n, data), s)
    | (some bs, s) =>
      let e := { d with part := d.part ++ bs }
      let out := if !d.xts then bs else if e.part.length < d.block then [] else s.crypt e
      let p := (s.updDma c (fun _ => if d.xts then { e with part := if out.isEmpty then e.part else [] } else d)).dmaPut c 16 out
      ((if p.1 then 0 else 3, n - k, data.drop k), p.2)

/-- SRC, DST, REMAIN and BURST_LEFT after `k` more bytes read (R353, R358). -/
def State.dmaRegs (s : State) (c k : Nat) : State :=
  let d := s.dmaCh c
  let s := (s.set (.LODE_CH_SRC_LO_ADDR c) d.nextSrc).set (.LODE_CH_SRC_HI_ADDR c) (d.nextSrc / 2 ^ 32)
  let s := (s.set (.LODE_CH_DST_LO_ADDR c) d.nextDst).set (.LODE_CH_DST_HI_ADDR c) (d.nextDst / 2 ^ 32)
  (s.set (.LODE_CH_REMAIN_BYTES c) (d.len - d.got)).set (.LODE_CH_BURST_LEFT_BYTES c) (s.get (.LODE_CH_BURST_LEFT_BYTES c) - k)

/-- A host transfer's `k` bytes in its context's MOVED, with the ledger entry that its last byte fills (R342, R318). -/
def State.hostMoved (s : State) (c k : Nat) : State :=
  let d := s.dmaCh c
  match d.ctx with
  | none => s
  | some x =>
    let s := s.updCtx x (fun q => { q with xfer := true, moved := q.moved + k })
    match (s.ctx x).ledger with
    | some i =>
      let a := s.runAddr (s.slu.ledger.at i)
      s.when ((s.slu.ledger.at i).ctx == x && inDram d.dst && decide (a + k ≤ d.nextDst)) (fun s =>
        s.fillEntry i (d.nextDst - k - a) (d.nextDst - a))
    | none => s

/-- The next `n` bytes of the loaded descriptor are read and written; the error that ends them, 0 for none. A held address takes whole
32-bit accesses (R346). -/
def State.dmaRun (s : State) (c n : Nat) (data : List Byte) : Nat × State :=
  let d := s.dmaCh c
  let n := if d.held then n / 4 * 4 else n
  let r := (List.range (n / 4 + 3)).foldl (fun acc _ => State.dmaStep c acc) ((0, n, data), s)
  let t := r.2
  (r.1.1, (t.dmaRegs c ((t.dmaCh c).got - d.got)).hostMoved c ((t.dmaCh c).moved - d.moved))

/-! ### Ends (R347, R352, R354) -/

/-- STATE of channel `c`; LODE_STATUS.ACTIVE follows, and a channel that becomes IDLE interrupts. -/
def State.dmaState (s : State) (c st : Nat) : State :=
  let was := s.get (.LODE_CH_STATUS_STATE c)
  let a := s.get .LODE_STATUS_ACTIVE
  let s := (s.set (.LODE_CH_STATUS_STATE c) st).set .LODE_STATUS_ACTIVE (a - a / 2 ^ c % 2 * 2 ^ c + (if st = 0 then 0 else 2 ^ c))
  s.when (was != 0 && st == 0) (fun s => s.dmaIrq c)

/-- LODE_CH_CUR, and LODE_CH_END. -/
def State.dmaCur (s : State) (c : Nat) : Nat := s.get (.LODE_CH_CUR_HI_ADDR c) * 2 ^ 32 + s.get (.LODE_CH_CUR_LO_ADDR c) * 64
def State.setCur (s : State) (c a : Nat) : State :=
  (s.set (.LODE_CH_CUR_LO_ADDR c) (a / 64)).set (.LODE_CH_CUR_HI_ADDR c) (a / 2 ^ 32)
def State.setEnd (s : State) (c a : Nat) : State :=
  (s.set (.LODE_CH_END_LO_ADDR c) (a / 64)).set (.LODE_CH_END_HI_ADDR c) (a / 2 ^ 32)

/-- What a channel keeps between its descriptors: the host transfer that its chain belongs to, and the request line it has answered. -/
def DmaChannel.between (d : DmaChannel) : DmaChannel := { ctx := d.ctx, seq := d.seq, spent := d.spent }

/-- The STATUS word of the loaded descriptor is written at `a` (R347). -/
def State.dmaStatus (s : State) (c a result err : Nat) : State :=
  let d := s.dmaCh c
  let w := result * 2 ^ 30 + d.late.toNat * 2 ^ 29 + err * 2 ^ 24 + d.moved
  let s := ((s.descWrite c (a + 40) (leBytes 4 w)).updDma c DmaChannel.between).inc (.LODE_CH_STATUS_DONE_CNT c)
  s.when d.irq (fun s => s.dmaIrq c)

/-- The channel goes on: it runs, or pauses where PAUSE is set. -/
def State.dmaGoOn (s : State) (c : Nat) : State := s.dmaState c (if s.is (.LODE_CH_CTRL_PAUSE c) then 3 else 1)

/-- The loaded descriptor ends without a read of LINK (R354): the channel becomes IDLE and LODE_CH_END reads 0. -/
def State.dmaStop (s : State) (c err : Nat) : State :=
  let a := s.dmaCur c
  let s := ((s.setEnd c 0).set (.LODE_CH_BURST_LEFT_BYTES c) 0).dmaState c 0
  if (s.dmaCh c).loaded then s.dmaStatus c a 2 err else s

/-- The loaded descriptor is complete with RESULT 1 DONE or 2 BAD (R347): the LINK word is read once, the chain goes on or ends, and
STATUS is written. -/
def State.dmaComplete (s : State) (c result err : Nat) : State :=
  if s.get (.LODE_CH_STATUS_STATE c) = 5 then s.dmaStop c err
  else
    let a := s.dmaCur c
    let s := s.set (.LODE_CH_BURST_LEFT_BYTES c) 0
    match s.descRead c (a + 32) 8 with
    | (none, s) =>
      (((s.setEnd c 0).dmaState c 0).dmaStatus c a 1 6).dmaFlag c (.LODE_CH_STATUS_LINK_ERR c) |>.raise 0x0C03 0 c
    | (some l, s) =>
      let link := leNat l
      if link % 2 = 1 then ((s.setCur c (link % 2 ^ 40 / 64 * 64)).dmaGoOn c).dmaStatus c a result err
      else ((s.setEnd c a).dmaState c 0).dmaStatus c a result err

/-- A data bus error (R352): 2 a read's, 3 a write's. -/
def State.dmaBusErr (s : State) (c err : Nat) : State :=
  ((s.dmaComplete c 2 err).dmaFlag c (.LODE_CH_STATUS_BUS_ERR c)).raise 0x0C01 0 c

/-- Fen firmware's write to a host channel is ignored (R342). -/
def State.dmaCmd (s : State) (who : Who) (c : Nat) (f : State → State) : State :=
  s.access (0x4400_0100 + 0x40 * c) (fun s =>
    if c < 8 ∧ who ≠ .mire then s.dmaFlag c (.LODE_CH_STATUS_CMD_ERR c) else f s)

/-- The memories that channel `c` works with serve it, and its clocks run (R32): Lode's, DRAM's, the AES engine's for an encrypted transfer,
and the SRAM's where its descriptors or data lie there. -/
def State.dmaServes (s : State) (c : Nat) : Bool :=
  let d := s.dmaCh c
  let tcm := inTcm d.src 1 || inTcm d.dst 1 || inTcm (s.dmaCur c) 1
  s.domainOn 85 && s.dramServes && (!d.xts || s.domainOn 58) && (!tcm || (s.sramServes 1 0 && s.sramServes 1 0x40_0000)) &&
    (decide (8 ≤ c) || s.sramServes 6 0)

/-! ### Host transfers (R18, R297, R342) -/

/-- The data of a speculative region goes to a read-kind command that holds its locks over those LBAs, and to no other (R18). -/
def State.mayShow (s : State) (q : Ctx) (d : DmaChannel) : Bool :=
  s.slu.regions.all (fun e =>
    let x := e.2
    let size := 4096 + metaBytes x.meta_
    !(decide (x.buf < d.src + d.len) && decide (d.src < x.buf + x.count * size)) ||
      (q.held && q.cmd.op.readKind && q.ranges.any (fun r =>
        r.ns == x.ns + 1 && decide (r.first ≤ x.lba + (d.src - x.buf) / size) &&
          decide (x.lba + (d.src + d.len - x.buf + size - 1) / size ≤ r.first + r.count))))

/-- A write's data enters the space reserved for it, and other data no part of the protected cache (R297). -/
def State.mayFill (s : State) (q : Ctx) (d : DmaChannel) : Bool :=
  let base := s.get .SLU_PC_CFG_BASE * 2 ^ 30
  if q.cmd.op = .write ∨ q.cmd.op = .zoneAppend then
    match q.ledger with
    | some i =>
      let e := s.slu.ledger.at i
      decide (s.runAddr e ≤ d.dst) && decide (d.dst + d.len ≤ s.runAddr e + s.runBytes e)
    | none => false
  else !s.is .SLU_PC_CFG_EN || decide (d.dst + d.len ≤ base) || decide (base + 2 ^ 30 ≤ d.dst)

/-- Host channel `c` moves data for the context that its chain belongs to while that is still the admitted command, of a controller of its
port, and may have the data (R18, R297). -/
def State.hostLive (s : State) (c : Nat) (d : DmaChannel) : Bool :=
  match d.ctx with
  | none => false
  | some x =>
    let q := s.ctx x
    q.state == 3 && q.seq == d.seq && 8 + q.cmd.cntlid / 16 == dmaOwner c && s.mayShow q d && (!inDram d.dst || s.mayFill q d)

/-- The loaded transfer may go on. DESIGN CHOICE: a host transfer whose command is no longer admitted stops as STOP would. -/
def State.dmaLive (s : State) (c : Nat) : Bool := decide (8 ≤ c) || s.hostLive c (s.dmaCh c)

/-- Bytes of the loaded descriptor move as `f` says, while the transfer may go on. -/
def State.dmaGuard (s : State) (c : Nat) (f : State → State) : State := if s.dmaLive c then f s else s.dmaStop c 4

/-! ### Rows -/

/-- START (R354): the chain at HEAD, in IDLE alone. -/
def execLodeStart (who : Who) (c : Nat) (s : State) : Host.Outcome State Fault Refusal :=
  .next (s.dmaCmd who c (fun s =>
    if s.is (.LODE_CH_STATUS_STATE c) then s.dmaFlag c (.LODE_CH_STATUS_CMD_ERR c)
    else ((s.setCur c (s.get (.LODE_CH_HEAD_HI_ADDR c) * 2 ^ 32 + s.get (.LODE_CH_HEAD_LO_ADDR c) * 64)).updDma c
      (fun d => { spent := d.spent })).dmaGoOn c))

/-- STOP (R354): at once in PAUSED, ignored in IDLE, else once the data already read is written. PAUSE written with it sets its bit. -/
def execLodeStop (who : Who) (c : Nat) (pause : Bool) (s : State) : Host.Outcome State Fault Refusal :=
  .next (s.dmaCmd who c (fun s =>
    let s := s.setIf (.LODE_CH_CTRL_PAUSE c) pause
    match s.get (.LODE_CH_STATUS_STATE c) with
    | 0 => s
    | 4 => s.dmaStop c 4
    | _ => s.dmaState c 5))

/-- PAUSE (R353). -/
def execLodePause (who : Who) (c : Nat) (set : Bool) (s : State) : Host.Outcome State Fault Refusal :=
  .next (s.dmaCmd who c (fun s =>
    let s := s.setIf (.LODE_CH_CTRL_PAUSE c) set
    let d := s.dmaCh c
    let st := s.get (.LODE_CH_STATUS_STATE c)
    if set ∧ (st = 1 ∨ st = 2) then s.dmaState c 3
    else if !set ∧ (st = 3 ∨ st = 4) then
      s.dmaState c (if d.loaded ∧ d.req ≠ 0 ∧ s.get (.LODE_CH_BURST_LEFT_BYTES c) = 0 then 2 else 1)
    else s))

/-- The bytes that a drain moves where `k` have been read (R353): those, or for an encrypted transfer all up to the end of its data unit. -/
def State.drainBytes (s : State) (c k : Nat) : Nat :=
  let d := s.dmaCh c
  if !d.loaded then 0
  else if d.xts then min (d.len - d.got) ((d.got + k + d.unit - 1) / d.unit * d.unit - d.got)
  else min k (if d.req = 0 then d.len - d.got else s.get (.LODE_CH_BURST_LEFT_BYTES c))

/-- LODE_PAUSED (R353, R354): the `k` bytes already read are written, up to the end of a data unit; then the channel is PAUSED, or a STOP
ends its descriptor. A descriptor whose last byte a pause so moves is complete. -/
def execLodePaused (c k : Nat) (data : List Byte) (s : State) : Host.Outcome State Fault Refusal :=
  let st := s.get (.LODE_CH_STATUS_STATE c)
  let rest (s : State) : State := s.when (s.is (.LODE_CH_STATUS_STATE c)) (fun s => s.dmaState c 4)
  if (st = 3 ∨ st = 5) ∧ s.dmaServes c then
    .next (s.dmaGuard c (fun s =>
      let n := s.drainBytes c k
      let (err, s) := if n = 0 then (0, s) else s.dmaRun c n data
      let d := s.dmaCh c
      if err ≠ 0 then rest (s.dmaBusErr c err)
      else if st = 5 then s.dmaStop c 4
      else if d.loaded && d.len == d.moved then rest (s.dmaComplete c 1 0)
      else rest s))
  else .next s

/-- Channel c holds descriptor `d` (R347): an unusable one ends BAD, one without a request line runs, a paced one waits. -/
def State.dmaTake (s : State) (c : Nat) (d : DmaChannel) : State :=
  let s := ((s.updDma c (fun _ => d)).dmaRegs c 0).set (.LODE_CH_BURST_LEFT_BYTES c) 0
  if d.bad then s.dmaComplete c 2 1 else s.dmaState c (if d.req = 0 then 1 else 2)

/-- The descriptor at LODE_CH_CUR is loaded and checked (R346, R352). -/
def State.dmaNext (s : State) (c : Nat) : State :=
  match s.descRead c (s.dmaCur c) 32 with
  | (some bs, s) =>
    let d : DmaChannel := { (s.dmaCh c).between with loaded := true, desc := bs }
    if c < 8 && !s.hostLive c d then s.dmaStop c 4 else s.dmaTake c d
  | (none, s) => (((s.setEnd c 0).dmaState c 0).dmaFlag c (.LODE_CH_STATUS_DESC_ERR c)).raise 0x0C02 0 c

/-- LODE_DESCRIPTOR_LOAD (R342, R346, R352): the descriptor at LODE_CH_CUR is read and checked; an idle host channel is given the chain that
Staithe has built in host staging for an admitted command. -/
def execLodeDescriptorLoad (c : Nat) (host : Option HostDescriptor) (s : State) : Host.Outcome State Fault Refusal :=
  let st := s.get (.LODE_CH_STATUS_STATE c)
  if !s.dmaServes c then .next s
  else match host with
    | some h =>
      let q := s.ctx h.ctx
      let d : DmaChannel := { ctx := some h.ctx, seq := q.seq, desc := h.bytes.take 32 }
      if decide (c < 8) && st == 0 && s.hostLive c d then
        let s := (s.writeSram (stagedAt (h.addr / 64 * 64)) h.bytes).setCur c (h.addr / 64 * 64)
        let s := (s.updDma c (fun e => { spent := e.spent, ctx := d.ctx, seq := d.seq })).dmaGoOn c
        .next (s.when (s.get (.LODE_CH_STATUS_STATE c) == 1) (fun s => s.dmaNext c))
      else .next s
    | none => if st = 1 ∧ !(s.dmaCh c).loaded then .next (s.dmaNext c) else .next s

/-- LODE_DESCRIPTOR_DONE (R347): the last bytes move; a paced channel's lie in its committed burst. -/
def execLodeDescriptorDone (c : Nat) (data : List Byte) (s : State) : Host.Outcome State Fault Refusal :=
  let d := s.dmaCh c
  let n := d.len - d.got
  if d.loaded ∧ s.dmaServes c ∧ s.get (.LODE_CH_STATUS_STATE c) = 1 ∧ (d.req = 0 ∨ s.get (.LODE_CH_BURST_LEFT_BYTES c) = n) then
    .next (s.dmaGuard c (fun s =>
      let (err, s) := s.dmaRun c n data
      if err = 0 then s.dmaComplete c 1 0 else s.dmaBusErr c err))
  else .next s

/-- LODE_BUS_ERR (R352): `k` more bytes have been moved, short of the last, then a read or a write ends in a bus error. -/
def execLodeBusErr (c k : Nat) (write : Bool) (data : List Byte) (s : State) : Host.Outcome State Fault Refusal :=
  let d := s.dmaCh c
  let st := s.get (.LODE_CH_STATUS_STATE c)
  let room := if d.req = 0 then d.len - d.got else s.get (.LODE_CH_BURST_LEFT_BYTES c)
  if d.loaded ∧ s.dmaServes c ∧ (st = 1 ∨ st = 3 ∨ st = 5) ∧ room ≠ 0 then
    .next (s.dmaGuard c (fun s =>
      let (err, s) := s.dmaRun c (min k (room - 1)) data
      s.dmaBusErr c (if err ≠ 0 then err else if write then 3 else 2)))
  else .next s

/-- Bytes of a burst (R345); DESIGN CHOICE: at a held address no fewer than one access moves. -/
def DmaChannel.burstSize (d : DmaChannel) : Nat := if d.held then max 4 (2 ^ d.burst) else 2 ^ d.burst

/-- Channel `c` is ready for a new burst of a line that is high and that it has not yet answered (R350). -/
def State.dmaReady (s : State) (c line lines : Nat) : Bool :=
  let d := s.dmaCh c
  d.loaded && d.req == line && line != 0 && lines / 2 ^ line % 2 == 1 && d.spent != line && s.get (.LODE_CH_STATUS_STATE c) == 2 && s.dmaServes c

/-- Channel `c` commits to a burst, or to the bytes that remain (R350, R351). -/
def State.dmaCommit (s : State) (c : Nat) (late : Bool) : State :=
  let d := s.dmaCh c
  let s := (s.set (.LODE_CH_BURST_LEFT_BYTES c) (min d.burstSize (d.len - d.got))).dmaState c 1
  let s := s.updDma c (fun d => { d with spent := d.req })
  s.when late (fun s => (s.updDma c (fun d => { d with late := true })).dmaFlag c (.LODE_CH_STATUS_LATE_WITHDRAW c))

/-- REQUEST_COMMIT (R350, R351): the request lines are sampled. Every channel that is ready for the line of channel `c` commits to a burst, in
channel order; a line that is low can be answered anew. Then `k` bytes of the burst of channel `c` move, and once all have, it waits for
its next request. -/
def execRequestCommit (c lines k : Nat) (late : Bool) (data : List Byte) (s : State) : Host.Outcome State Fault Refusal :=
  let s := s.set .LODE_REQ_LEVEL (lines / 2)
  let s := { s with dma := s.dma.mapAll (fun d => if lines / 2 ^ d.spent % 2 = 0 then { d with spent := 0 } else d) }
  let line := (s.dmaCh c).req
  let s := s.when (s.dmaReady c line lines) (fun s => s.forN 32 (fun j s => s.when (s.dmaReady j line lines) (fun s => s.dmaCommit j late)))
  let left := s.get (.LODE_CH_BURST_LEFT_BYTES c)
  if (s.dmaCh c).loaded ∧ left ≠ 0 ∧ s.get (.LODE_CH_STATUS_STATE c) = 1 ∧ s.dmaServes c ∧ k ≠ 0 then
    .next (s.dmaGuard c (fun s =>
      let (err, s) := s.dmaRun c (min k left) data
      if err ≠ 0 then s.dmaBusErr c err
      else s.when (s.get (.LODE_CH_BURST_LEFT_BYTES c) == 0 && decide ((s.dmaCh c).got < (s.dmaCh c).len)) (fun s => s.dmaState c 2)))
  else .next s

/-! ### Resets -/

/-- Channel `c` stops for a reset (R355): how many bytes it has moved is open, and so are the bytes beyond them at the destination; its
loaded descriptor is BAD with ERR 5. -/
def State.dmaReset (s : State) (c : Nat) : State :=
  let d := s.dmaCh c
  if !d.loaded then s
  else
    let (k, s) := s.draw 24
    let st := s.get (.LODE_CH_STATUS_STATE c)
    let n := k % ((if d.req = 0 then d.len - d.got else s.get (.LODE_CH_BURST_LEFT_BYTES c)) + 1)
    let (v, s) := s.draw (8 * n)
    let s := s.when (s.dmaServes c && s.dmaLive c && (st == 1 || st == 3 || st == 5)) (fun s => (s.dmaRun c n (leBytes n v)).2)
    let d := s.dmaCh c
    let m := d.len - d.moved
    let (w, s) := s.draw (8 * m)
    let s := if d.dstFix then s
      else if s.dramOk d.nextDst m then s.writeBytes d.nextDst (leBytes m w)
      else if inTcm d.nextDst m && decide (8 ≤ c) then s.writeSram d.nextDst (leBytes m w)
      else s
    s.dmaStop c 5

/-- Every channel stops for a reset (R355). -/
def State.stopDma (s : State) : State := s.forN 32 (fun c s => s.dmaReset c)

end Sys2Proof.Machine
end

