-- ==== Sys2Proof/Machine/Carr.lean ====
section
/-! DEFINITION. The map cache (15): the window and the index, loads, stores and atomics, the posted-write buffer, fills, maintenance
operations and counters. -/

namespace Sys2Proof

/-- The access is one that Carr accepts (R361). -/
def CarrAccess.legal (a : CarrAccess) : Bool :=
  let sizes := match a.op with
    | .amo _ _ => [4, 8]
    | _ => [1, 2, 4, 8]
  sizes.contains a.size && a.addr % a.size == 0

/-- The access is a fence (R367), which touches no memory. -/
def CarrAccess.isFence (a : CarrAccess) : Bool :=
  match a.op with
  | .amo .fence _ => true
  | _ => false

end Sys2Proof

namespace Sys2Proof.Machine

/-- Carr changed. -/
def State.updCarr (s : State) (f : Carr → Carr) : State := { s with carr := f s.carr }

/-- A live counter counts up, held at 0xFFFF_FFFF (R374). -/
def State.carrCount (s : State) (i k : Nat) : State :=
  s.updCarr (fun c => { c with stat := c.stat.put i (min (c.stat.at i + k) 0xFFFF_FFFF) })

/-! ### The window and the index (R360, R362) -/

/-- The window's base and length. -/
def State.winBase (s : State) : Nat := s.get .CARR_WIN_BASE_HI_BASE * 2 ^ 32 + s.get .CARR_WIN_BASE_LO_BASE * 2 ^ 20
def State.winLen (s : State) : Nat := s.get .CARR_WIN_SIZE_SIZE * 2 ^ 20

/-- `len` bytes from `a` lie in the window. -/
def State.inWindow (s : State) (a len : Nat) : Bool := decide (s.winBase ≤ a) && decide (a + len ≤ s.winBase + s.winLen)

/-- The set of the line with line address `line` (R362). -/
def State.carrSet (s : State) (line : Nat) : Nat :=
  let a := line * 64
  if s.is .CARR_CFG_HASH then (line % 2 ^ 14) ^^^ (a / 2 ^ 20 % 2 ^ 14) ^^^ (a / 2 ^ 34 % 64 * 2 ^ 8) else line % 2 ^ 14

/-- Way `w` is locked (R371). -/
def State.wayLocked (s : State) (w : Nat) : Bool := s.get .CARR_LOCK_WAYS / 2 ^ w % 2 == 1

/-- Where a line is held. -/
def State.carrFind (s : State) (line : Nat) : Option Nat :=
  let k := 16 * s.carrSet line
  ((List.range 16).find? (fun w => (s.carr.lines.at (k + w)).any (fun l => l.line == line))).map (k + ·)

/-! ### Lines and the posted-write buffer (R364–R366) -/

/-- Bytes with an entry's stores on top. -/
def Posted.over (p : Posted) (bs : List Byte) : List Byte := (bs.zipIdx).map (fun e => (p.bytes.getD e.2 none).getD e.1)

/-- A line as DRAM and the buffered stores hold it (R366); none is a bus error. -/
def State.carrFetch (s : State) (line : Nat) : Option (List Byte) × State :=
  match s.dramLoad (line * 64) 64 with
  | (some bs, s) => (some ((s.carr.pwb.filter (fun p => p.line = line)).foldl (fun b p => p.over b) bs), s)
  | (none, s) => (none, s)

/-- A line's content: the cached copy, else DRAM's. -/
def State.carrData (s : State) (line : Nat) : Option (List Byte) × State :=
  match (s.carrFind line).bind (fun k => s.carr.lines.at k) with
  | some l => if s.get .CARR_STATUS_STATE = 1 then (some l.data, s) else s.carrFetch line
  | none => s.carrFetch line

/-- CARR_STATUS.PWB_CNT follows the buffer. -/
def State.pwbStatus (s : State) : State := s.set .CARR_STATUS_PWB_CNT s.carr.pwb.length

/-- The bytes that a store of `bs` at `addr` gives a line's 64. -/
def storeMask (addr : Nat) (bs : List Byte) : List (Option Byte) :=
  (List.range 64).map (fun i => if addr % 64 ≤ i then bs[i - addr % 64]? else none)

/-- Reservations of the line end (R361). -/
def State.breakResv (s : State) (line : Nat) : State :=
  s.updCarr (fun c => { c with resv := c.resv.filter (fun e => e.2 ≠ some line) })

/-- A store of `core` is accepted (R364, R365): it merges into the youngest entry where that is of its line or takes a new one, and a held line
is updated; none where the buffer is full. -/
def State.carrPost (s : State) (core addr : Nat) (bs : List Byte) : Option State :=
  let line := addr / 64
  let mask := storeMask addr bs
  let merge (p : Posted) : Posted :=
    { p with bytes := (p.bytes.zip mask).map (fun e => e.2.orElse (fun _ => e.1)), cores := p.cores ++ [core] }
  let pwb := s.carr.pwb
  let pwb' := match pwb.getLast? with
    | some p =>
      if p.line = line then some (pwb.dropLast ++ [merge p])
      else if pwb.length < 4 then some (pwb ++ [{ line := line, bytes := mask, cores := [core] }]) else none
    | none => some [{ line := line, bytes := mask, cores := [core] }]
  match pwb' with
  | none => none
  | some q =>
    let s := s.updCarr (fun c => { c with pwb := q })
    let s := match s.carrFind line with
      | some k =>
        let put (l : CarrLine) : CarrLine := { l with data := Posted.over { line := line, bytes := mask } l.data }
        s.updCarr (fun c => { c with lines := c.lines.upd k (fun l => l.map put) })
      | none => s
    some (s.pwbStatus.breakResv line)

/-- The value that an AMO stores, from the old value and its operand, `size` bytes each (R361). -/
def amoResult (op : AmoOp) (size old x : Nat) : Nat :=
  let n := 8 * size
  let v := x % 2 ^ n
  match op with
  | .swap | .sc => v
  | .lr | .fence => old
  | .add => (old + v) % 2 ^ n
  | .and_ => old &&& v
  | .or_ => old ||| v
  | .xor_ => old ^^^ v
  | .min_ => if signed n old ≤ signed n v then old else v
  | .max_ => if signed n old ≤ signed n v then v else old
  | .minu => min old v
  | .maxu => max old v

/-- A core's access is answered: the row's requester, and the core among the answers of the command. -/
def State.carrAnswer (s : State) (core : Nat) (x : BusAnswer) : State :=
  { s with bus := x }.updCarr (fun c => { c with answers := c.answers ++ [(core, x)] })

/-- An access waits (R365, R367, R368). -/
def State.carrStall (s : State) (a : CarrAccess) : State := s.updCarr (fun c => { c with stalled := c.stalled ++ [a] })

/-- Every store of a core has been written to DRAM (R367). -/
def State.fenceDone (s : State) (core : Nat) : Bool := s.carr.pwb.all (fun p => !p.cores.contains core)

/-- An access acts on its line (R361, R364, R367): it answers, or waits for the buffer. -/
def State.carrPerform (s : State) (a : CarrAccess) : State :=
  let line := a.addr / 64
  match a.op with
  | .store bs => match s.carrPost a.core a.addr bs with
    | some s => s.carrAnswer a.core .done
    | none => s.carrStall a
  | .load => match s.carrData line with
    | (some d, s) => s.carrAnswer a.core (.value (fieldAt d (a.addr % 64) a.size))
    | (none, s) => s.carrAnswer a.core .busError
  | .amo .fence _ => if s.fenceDone a.core then s.carrAnswer a.core .done else s.carrStall a
  | .amo .lr _ => match s.carrData line with
    | (some d, s) =>
      (s.carrAnswer a.core (.value (fieldAt d (a.addr % 64) a.size))).updCarr (fun c => { c with resv := c.resv.put a.core (some line) })
    | (none, s) => s.carrAnswer a.core .busError
  | .amo .sc x =>
    if s.carr.resv.at a.core = some line then
      match s.carrPost a.core a.addr (leBytes a.size x) with
      | some s => s.carrAnswer a.core (.value 0)
      | none => s.carrStall a
    else (s.carrAnswer a.core (.value 1)).updCarr (fun c => { c with resv := c.resv.put a.core none })
  | .amo op x => match s.carrData line with
    | (some d, t) =>
      let old := fieldAt d (a.addr % 64) a.size
      match t.carrPost a.core a.addr (leBytes a.size (amoResult op a.size old x)) with
      | some t => t.carrAnswer a.core (.value old)
      | none => s.carrStall a
    | (none, s) => s.carrAnswer a.core .busError

/-- An earlier access that waits holds this one back: the core's own, one of its line, or where Carr is not ON any (R365, R368). -/
def State.carrBehind (s : State) (a : CarrAccess) : Bool :=
  s.carr.stalled.any (fun b => b.core == a.core || (!b.isFence && !a.isFence && (s.get .CARR_STATUS_STATE != 1 || b.addr / 64 == a.addr / 64)))

/-- An access acts, or waits behind those before it. -/
def State.carrTry (s : State) (a : CarrAccess) : State := if s.carrBehind a then s.carrStall a else s.carrPerform a

/-- A miss waits for its line's fill; one that an invalidation has reached serves no later miss (R373). -/
def State.carrMiss (s : State) (a : CarrAccess) : State :=
  let line := a.addr / 64
  let mine (f : Fill) : Bool := f.line == line && !f.discard
  if s.carr.fills.any mine then
    s.updCarr (fun c => { c with fills := c.fills.map (fun f => if mine f then { f with waiting := f.waiting ++ [a] } else f) })
  else s.updCarr (fun c => { c with fills := c.fills ++ [{ line := line, waiting := [a] }] })

/-- The access takes a cached line where it needs its data and Carr is ON: one that does not hit waits for a fill (R364). -/
def State.carrNeeds (s : State) (a : CarrAccess) : Bool :=
  s.get .CARR_STATUS_STATE == 1 && (match a.op with
    | .store _ | .amo .sc _ | .amo .fence _ => false
    | _ => (s.carrFind (a.addr / 64)).isNone)

/-- An access acts, misses, or waits behind those before it. -/
def State.carrRoute (s : State) (a : CarrAccess) : State :=
  if s.carrBehind a then s.carrStall a else if s.carrNeeds a then s.carrMiss a else s.carrPerform a

/-- Every access that waits is tried again, in order. -/
def State.carrRetry (s : State) : State := s.carr.stalled.foldl State.carrRoute (s.updCarr (fun c => { c with stalled := [] }))

/-- CARR_STAT(0) to (3): a load or AMO, or a store, that hits or misses while Carr is ON (R374). -/
def State.carrTally (s : State) (a : CarrAccess) : State :=
  let miss := if (s.carrFind (a.addr / 64)).isSome then 0 else 1
  match a.op with
  | .store _ | .amo .sc _ => s.carrCount (2 + miss) 1
  | _ => s.carrCount miss 1

/-- A command of a core, a fill or a drain begins: none has been answered yet. -/
def State.carrFresh (s : State) : State := s.updCarr (fun c => { c with answers := [] })

/-- A Fen access (R360, R361, R364, R368): outside the window it is none of Carr's. It waits while Carr's clock is gated (R32), and where
Carr is not ON while DRAM serves no access. -/
def State.carrAccess (s : State) (a : CarrAccess) : State :=
  let s := s.carrFresh
  if a.isFence then s.when (s.domainOn 56) (fun s => s.carrTry a)
  else if !s.inWindow a.addr 1 then s
  else if !a.legal then s.carrAnswer a.core .busError
  else if !s.domainOn 56 then s
  else if s.get .CARR_STATUS_STATE ≠ 1 then s.when s.dramServes (fun s => s.carrTry a)
  else (s.carrTally a).carrRoute a

/-- CARR_LOAD (R364). -/
def execCarrLoad (core addr size : Nat) (s : State) : Host.Outcome State Fault Refusal :=
  .next (s.carrAccess { core := core, addr := addr, size := size, op := .load })

/-- CARR_STORE (R364, R365). -/
def execCarrStore (core addr : Nat) (data : List Byte) (s : State) : Host.Outcome State Fault Refusal :=
  .next (s.carrAccess { core := core, addr := addr, size := data.length, op := .store data })

/-- CARR_AMO (R361); DESIGN CHOICE: a FENCE comes with it (R367), answered once it completes. -/
def execCarrAmo (core addr size : Nat) (op : AmoOp) (operand : Nat) (s : State) : Host.Outcome State Fault Refusal :=
  .next (s.carrAccess { core := core, addr := addr, size := size, op := .amo op operand })

/-! ### Fills (R364, R366, R373) -/

/-- The victim way of a set: the lowest invalid unlocked one, else an unlocked one that the pseudo-LRU chooses, which is open. -/
def State.carrVictim (s : State) (set : Nat) : Nat × State :=
  let open_ := (List.range 16).filter (fun w => !s.wayLocked w)
  match open_.find? (fun w => (s.carr.lines.at (16 * set + w)).isNone) with
  | some w => (w, s)
  | none =>
    let (v, s) := s.draw 4
    (open_.getD (v % max 1 open_.length) 0, s)

/-- A line is put into a way. -/
def State.carrPut (s : State) (line way : Nat) (data : List Byte) : State :=
  s.updCarr (fun c => { c with lines := c.lines.put (16 * s.carrSet line + way) (some { line := line, data := data }) })

/-- A miss's line is allocated; CARR_STAT(4) counts a valid line that it evicts. -/
def State.carrAlloc (s : State) (line : Nat) (data : List Byte) : State :=
  let (w, s) := s.carrVictim (s.carrSet line)
  let s := s.when (s.carr.lines.at (16 * s.carrSet line + w)).isSome (fun s => s.carrCount 4 1)
  s.carrPut line w data

/-- Every copy of a line is invalidated but one in way `keep` (R370, R372); CARR_STAT(6) counts locked ones. -/
def State.carrDrop (s : State) (line : Nat) (keep : Option Nat) : State :=
  let k := 16 * s.carrSet line
  s.forN 16 (fun w s =>
    s.when (keep != some w && (s.carr.lines.at (k + w)).any (fun l => l.line == line)) (fun s =>
      (s.when (s.wayLocked w) (fun s => s.carrCount 6 1)).updCarr (fun c => { c with lines := c.lines.put (k + w) none })))

/-- An invalidation reaches a line (R361, R372, R373). -/
def State.carrInv (s : State) (line : Nat) : State :=
  let s := (s.carrDrop line none).breakResv line
  s.updCarr (fun c => { c with fills := c.fills.map (fun f => if f.line = line then { f with discard := true } else f) })

/-- One line of a PRELOAD (R370): a copy in another way is invalidated, which ends reservations of the line (R361). -/
def State.carrPreload (s : State) (line way : Nat) : State :=
  let other := (s.carrFind line).any (fun k => k ≠ 16 * s.carrSet line + way)
  let s := (s.carrDrop line (some way)).when other (fun s => s.breakResv line)
  if s.get .CARR_STATUS_STATE ≠ 1 then s
  else match s.carrFetch line with
    | (some d, s) => s.carrPut line way d
    | (none, s) => s

/-- The operation moves on to its next line. -/
def State.carrOpStep (s : State) : State :=
  (s.updCarr (fun c => { c with next := c.next + 1 })).set .CARR_OP_STATUS_REMAIN (s.get .CARR_OP_STATUS_REMAIN - 1)

/-- Carr can reach DRAM: its clock runs (R32) and DRAM serves accesses. -/
def State.carrRuns (s : State) : Bool := s.domainOn 56 && s.dramServes

/-- LINE_FILL (R366, R370, R373): a miss's fill installs its line unless an invalidation reached it, and the accesses that waited act; or
the running PRELOAD fills its next line. -/
def execLineFill (line : Nat) (s : State) : Host.Outcome State Fault Refusal :=
  if !s.carrRuns then .next s
  else match s.carr.fills.find? (fun f => f.line = line) with
  | some f =>
    let s := s.carrFresh.updCarr (fun c => { c with fills := c.fills.eraseP (fun f => f.line = line) })
    match s.carrFetch line with
    | (some d, s) =>
      let s := if f.discard then s.carrCount 7 1
        else if s.get .CARR_STATUS_STATE = 1 ∧ (s.carrFind line).isNone then s.carrAlloc line d
        else s
      .next (f.waiting.foldl State.carrTry s)
    | (none, s) => .next (f.waiting.foldl (fun s a => s.carrAnswer a.core .busError) s.busErr)
  | none =>
    if s.is .CARR_OP_STATUS_BUSY ∧ s.carr.op = 1 ∧ s.carr.next = line ∧ s.is .CARR_OP_STATUS_REMAIN then
      .next ((s.carrPreload line s.carr.way).carrOpStep)
    else .next s

/-! ### Draining, enabling and disabling (R365, R368) -/

/-- A masked write of one line to DRAM, for a writer that has posted it (R382, R387). -/
def State.postedWrite (s : State) (p : Posted) : State :=
  let b := p.line * 64
  if !s.dramOk b 64 then s
  else if p.bytes.all Option.isSome ∧ p.bytes.length = 64 then (s.dramStore b (p.bytes.map (fun x => x.getD 0))).2
  else if s.poisonedAt b then s.poisonRead b
  else s.mergeBytes b p.bytes

/-- DRAINING with an empty buffer ends in OFF, with no line valid and every fill discarded (R368). -/
def State.carrOff (s : State) : State :=
  s.when (s.get .CARR_STATUS_STATE == 2 && s.carr.pwb.isEmpty) (fun s =>
    (s.updCarr (fun c =>
      { c with lines := [], resv := [], fills := c.fills.map (fun f => { f with discard := true }) })).set .CARR_STATUS_STATE 0)

/-- PWB_DRAIN (R365, R367): the oldest entry is written to DRAM, and the accesses that wait are tried again; CARR_STAT(5) counts the `cycles`
that a store has waited since the last drain. -/
def execPwbDrain (cycles : Nat) (s : State) : Host.Outcome State Fault Refusal :=
  if !s.carrRuns then .next s
  else
    let s := s.carrFresh
    let s := match s.carr.pwb with
      | [] => s
      | p :: rest => ((s.postedWrite p).updCarr (fun c => { c with pwb := rest })).pwbStatus
    .next (((s.when (s.carr.stalled.any (fun a => !a.isFence)) (fun s => s.carrCount 5 cycles)).carrRetry).carrOff)

/-- The window is valid (R368); its base is 1 MiB aligned by its fields. -/
def State.windowOk (s : State) : Bool :=
  s.is .CARR_WIN_SIZE_SIZE && decide (dramBase ≤ s.winBase) && decide (s.winBase + s.winLen ≤ s.dramEnd) && !s.inCache s.winBase s.winLen

/-- CARR_ENABLE (R368). -/
def execCarrEnable (s : State) : Host.Outcome State Fault Refusal :=
  .next (s.access 0x4300_0000 (fun s =>
    match s.get .CARR_STATUS_STATE with
    | 0 => if s.windowOk then (s.set .CARR_CTRL_EN 1).set .CARR_STATUS_STATE 1 else s.set .CARR_STATUS_CFG_ERR 1
    | 2 => s.set .CARR_STATUS_CFG_ERR 1
    | _ => s))

/-- CARR_DISABLE (R368). -/
def execCarrDisable (s : State) : Host.Outcome State Fault Refusal :=
  .next (s.access 0x4300_0000 (fun s =>
    s.when (s.get .CARR_STATUS_STATE == 1) (fun s => ((s.set .CARR_CTRL_EN 0).set .CARR_STATUS_STATE 2).carrOff)))

/-! ### Counters and maintenance (R370–R374) -/

/-- The counters become 0. -/
def State.statClear (s : State) : State := s.updCarr (fun c => { c with stat := [] })

/-- STAT_SNAP (R374): the snapshot comes first where STAT_CLEAR is written with it. -/
def execStatSnap (clear : Bool) (s : State) : Host.Outcome State Fault Refusal :=
  .next (s.access 0x4300_0000 (fun s =>
    (s.forN 8 (fun i s => s.set (.CARR_STAT_COUNT i) (s.carr.stat.at i))).when clear State.statClear))

/-- STAT_CLEAR (R374). -/
def execStatClear (s : State) : Host.Outcome State Fault Refusal := .next (s.access 0x4300_0000 State.statClear)

/-- The first line of the range. -/
def State.opLine (s : State) : Nat := s.get .CARR_OP_ADDR_HI_ADDR * 2 ^ 26 + s.get .CARR_OP_ADDR_LO_ADDR

/-- A maintenance operation starts, or is refused (R370). -/
def State.carrOp (s : State) (op way : Nat) : State :=
  let k := s.get .CARR_OP_LINES_LINES
  let range := op = 3 ∨ s.inWindow (s.opLine * 64) (64 * k)
  if s.is .CARR_OP_STATUS_BUSY ∨ s.get .CARR_STATUS_STATE ≠ 1 ∨ k = 0 ∨ 262144 < k ∨ ¬ range then s.set .CARR_OP_STATUS_ERR 1
  else
    let s := s.updCarr (fun c => { c with op := op, way := way % 16, next := if op = 3 then 0 else s.opLine })
    (s.set .CARR_OP_STATUS_BUSY 1).set .CARR_OP_STATUS_REMAIN (if op = 3 then 16384 else k)

/-- PRELOAD (R370). -/
def execPreload (way : Nat) (s : State) : Host.Outcome State Fault Refusal := .next (s.access 0x4300_0020 (fun s => s.carrOp 1 way))

/-- INV_RANGE (R370). -/
def execInvRange (s : State) : Host.Outcome State Fault Refusal := .next (s.access 0x4300_0020 (fun s => s.carrOp 2 0))

/-- INV_ALL (R370). -/
def execInvAll (s : State) : Host.Outcome State Fault Refusal := .next (s.access 0x4300_0020 (fun s => s.carrOp 3 0))

/-- Every line is invalidated (R370, R372, R373). -/
def State.carrInvAll (s : State) : State :=
  let locked := (s.carr.lines.filter (fun e => s.wayLocked (e.1 % 16))).length
  (s.carrCount 6 locked).updCarr (fun c =>
    { c with lines := [], resv := [], fills := c.fills.map (fun f => { f with discard := true }) })

/-- CARR_OP_DONE (R370): the lines or sets left are processed and BUSY clears. -/
def execCarrOpDone (s : State) : Host.Outcome State Fault Refusal :=
  if s.carrRuns ∧ s.is .CARR_OP_STATUS_BUSY then
    let left := s.get .CARR_OP_STATUS_REMAIN
    let first := s.carr.next
    let s := match s.carr.op with
      | 1 => s.forN left (fun i s => s.carrPreload (first + i) s.carr.way)
      | 2 => s.forN left (fun i s => s.carrInv (first + i))
      | _ => s.carrInvAll
    .next ((s.set .CARR_OP_STATUS_REMAIN 0).set .CARR_OP_STATUS_BUSY 0)
  else .next s

end Sys2Proof.Machine
end

