-- ==== Sys2Proof/Machine/Queues.lean ====
section
/-! DEFINITION. Media work queues and completion rings (11): descriptors and their checks, records, the ring and its spill area, batches,
scanning, cancellation. How a descriptor runs is in MediaWork.lean. -/

namespace Sys2Proof.Machine

/-- The queues' state changed. -/
def State.updMq (s : State) (f : MediaQueues → MediaQueues) : State := { s with mq := f s.mq }

/-! ### Descriptors (R260, R262) -/

def Mwd.op (d : Mwd) : Nat := fieldAt d.bytes 0 1
def Mwd.flags (d : Mwd) : Nat := fieldAt d.bytes 1 1
def Mwd.ladder (d : Mwd) : Nat := fieldAt d.bytes 2 1
def Mwd.surface (d : Mwd) : Nat := fieldAt d.bytes 3 1
def Mwd.track (d : Mwd) : Nat := fieldAt d.bytes 4 4
def Mwd.sector (d : Mwd) : Nat := fieldAt d.bytes 8 2
def Mwd.count (d : Mwd) : Nat := fieldAt d.bytes 10 2
def Mwd.region (d : Mwd) : Nat := fieldAt d.bytes 12 2
def Mwd.buf (d : Mwd) : Nat := fieldAt d.bytes 16 8
def Mwd.hint (d : Mwd) : Nat := fieldAt d.bytes 24 4

/-- FLAGS bits: 0 BATCH, 1 DEFER, 2 IRQ, 3 MARKER. -/
def Mwd.flag (d : Mwd) (i : Nat) : Bool := d.flags / 2 ^ i % 2 == 1

/-- The section that the queue serves (R258). -/
def Mwd.sec (d : Mwd) : Nat := d.queue / 4

/-- WRITE, WRITE_VERIFY, FORMAT_TRACKS, ERASE_BAND. -/
def Mwd.isWrite (d : Mwd) : Bool := d.op == 2 || d.op == 3 || d.op == 0x10 || d.op == 0x11

/-- FORMAT_TRACKS, ERASE_BAND. -/
def Mwd.byTrack (d : Mwd) : Bool := d.op == 0x10 || d.op == 0x11

/-- The zone that holds a track, with its number (R240). -/
def State.zoneAt (s : State) (surface track : Nat) : Option (Nat × Config.ZoneRow) :=
  let z := Config.zones s.aq.chan surface
  ((List.range z.length).zip z).find? (fun e => decide (e.2.first ≤ track) && decide (track ≤ e.2.last))

/-- The sectors of a descriptor's run. -/
def Mwd.sectors (d : Mwd) (z : Config.ZoneRow) : Nat := if d.byTrack then d.count * z.sectors else d.count

/-- An offset as DETAIL counts it: sectors, or tracks (R277). -/
def Mwd.detail (d : Mwd) (z : Config.ZoneRow) (o : Nat) : Nat := if d.byTrack then o / z.sectors else o

/-- The codes of R262. -/
def mwdOp (op : Nat) : Bool := (decide (1 ≤ op) && decide (op ≤ 5)) || op == 8 || op == 0x10 || op == 0x11 || op == 0x20 || op == 0x21

/-- COUNT is within R262. -/
def Mwd.countOk (d : Mwd) : Bool :=
  if decide (1 ≤ d.op) && decide (d.op ≤ 5) then decide (1 ≤ d.count) && decide (d.count ≤ 256)
  else if d.byTrack then decide (1 ≤ d.count) else d.count == 0

/-- A field that is not used is 0 (R260, R262). -/
def unused (use : Bool) (v : Nat) : Bool := use || v == 0

/-- Check 2 of R266; `ctrl` is the slot's CTRL as read. -/
def State.wellMade (s : State) (d : Mwd) (ctrl : Nat) : Bool :=
  let moves := d.op == 1 || d.op == 2 || d.op == 3
  let placed := decide (d.op < 0x20)
  let marker := d.flag 3
  let both := d.flag 0 && d.flag 1
  let neither := !d.flag 0 && !d.flag 1
  unused (d.op == 1 || d.op == 4) d.ladder && decide (d.ladder ≤ 5) && unused placed d.surface && unused placed d.track &&
    decide (d.track < 2 ^ 22) && unused (decide (d.op ≤ 5)) d.sector && unused (d.op == 5) d.region && unused (moves && !marker) d.buf &&
    d.buf % 64 == 0 && unused (d.op == 8) d.hint && fieldAt d.bytes 14 2 == 0 && fieldAt d.bytes 28 4 == 0 &&
    fieldAt d.bytes 36 4 == 0 && fieldAt d.bytes 56 4 == 0 && ctrl % 2 ^ 31 == 0 && decide (d.flags < 16) &&
    (!marker || d.op == 2 || d.op == 3) &&
    (s.is (.MWC_CFG_COMPAT d.sec) || (!both && !(neither && s.mq.openBatch.at d.queue != 0)))

/-- Check 3 of R266, with the region's part of R326. -/
def State.inRange (s : State) (d : Mwd) : Bool :=
  d.countOk && (decide (0x20 ≤ d.op) || (d.surface / 6 == d.sec &&
    match s.zoneAt d.surface d.track with
    | some (_, z) =>
      let last := d.track + (d.sector + d.sectors z - 1) / z.sectors
      let x := s.slu.regions.at d.region
      d.op == 8 || (decide (d.sector < z.sectors) && decide (last ≤ z.last) &&
        ((d.op != 1 && d.op != 2 && d.op != 3) || d.flag 3 || s.dramOk d.buf (d.count * (4096 + metaBytes z.meta_))) &&
        (d.op != 5 || (decide (d.region < 512) && decide (x.state = .armed) && x.count == d.count && x.meta_ == z.meta_)))
    | none => false))

/-- The first check of R266 that fails: its status and DETAIL. -/
def State.mwdCheck (s : State) (d : Mwd) (ctrl : Nat) : Option (Nat × Nat) :=
  if !mwdOp d.op then some (0x11, d.op)
  else if !s.wellMade d ctrl then some (0x10, 0)
  else if !s.inRange d then some (0x12, 0)
  else none

/-- The run of a descriptor on its surface: zone, first sector counted from track 0, length; none where it names no run. -/
def State.mwdRun (s : State) (d : Mwd) : Option (Nat × Nat × Nat) :=
  if d.op = 8 ∨ 0x20 ≤ d.op then none
  else (s.zoneAt d.surface d.track).map (fun z => (z.1, d.track * z.2.sectors + d.sector, d.sectors z.2))

/-- Two descriptors overlap (R268). -/
def State.overlap (s : State) (a b : Mwd) : Bool :=
  a.surface == b.surface &&
    match s.mwdRun a, s.mwdRun b with
    | some (z, x, n), some (w, y, m) => z == w && decide (x < y + m) && decide (y < x + n)
    | _, _ => false

/-- The earlier `e` makes the later `d` wait for its completion (R268). -/
def State.hazard (s : State) (e d : Mwd) : Bool := e.op != 5 && (e.isWrite || d.isWrite) && s.overlap e d

/-- The earlier `e` keeps the later `d` of its section from starting (R267–R270). A descriptor with its record deferred has completed. -/
def State.holds (s : State) (e d : Mwd) : Bool :=
  decide (e.dstate ≤ 2) && e.sec == d.sec && ((e.op == 0x20 && e.queue == d.queue) || e.op == 0x21 || s.hazard e d)

/-! ### Records (R271, R273) -/

/-- How a descriptor ends. -/
structure Ending where
  status : Nat := 0
  started : Bool := true
  batch : Bool := false
  align : Bool := false
  marker : Bool := false
  step : Nat := 0
  detail : Nat := 0
deriving DecidableEq, Repr

/-- The bytes of a record whose outcome became final now; PHASE is set where it enters the ring. -/
def State.recordBytes (s : State) (d : Mwd) (e : Ending) : List Byte :=
  let compat := s.is (.MWC_CFG_COMPAT d.sec)
  let flags := e.started.toNat * 2 + (e.batch && !compat).toNat * 4 + e.align.toNat * 8 + e.marker.toNat * 16
  let mid := leBytes 1 e.status ++ leBytes 1 flags ++ leBytes 1 (d.queue + 32 * (if e.status = 1 then e.step else 0)) ++
    leBytes 1 (s.get .TIDE_STATUS_EPOCH) ++ leBytes 2 d.slot ++ leBytes 2 e.detail ++ leBytes 4 s.mang.toNat
  if compat then (d.bytes.drop 32).take 4 ++ mid ++ leBytes 8 (s.opt % 2 ^ 40) ++ (d.bytes.drop 40).take 8
  else mid ++ leBytes 4 s.opt

/-- The size of a record in section k's format. -/
def State.recordSize (s : State) (k : Nat) : Nat := if s.is (.MWC_CFG_COMPAT k) then 32 else 16

/-- The offset of STATUS in a record of section k's format; FLAGS follows it. -/
def State.statusAt (s : State) (k : Nat) : Nat := if s.is (.MWC_CFG_COMPAT k) then 4 else 0

/-- A record with PHASE at `p`. -/
def State.withPhase (s : State) (k p : Nat) (bs : List Byte) : List Byte :=
  let i := s.statusAt k + 1
  bs.set i (BitVec.ofNat 8 (fieldAt bs i 1 / 2 * 2 + p))

/-! ### Slots, rings and spill areas -/

def State.queueBase (s : State) (q : Nat) : Nat := s.get (.MWQ_BASE_HI_BASE q) * 2 ^ 32 + s.get (.MWQ_BASE_LO_BASE q) * 64
def State.queueSlots (s : State) (q : Nat) : Nat := 2 ^ s.get (.MWQ_CFG_LOG2N q)
def State.slotAddr (s : State) (q slot : Nat) : Nat := s.queueBase q + 64 * slot
def State.ringBase (s : State) (k : Nat) : Nat := s.get (.MWC_BASE_HI_BASE k) * 2 ^ 32 + s.get (.MWC_BASE_LO_BASE k) * 64
def State.ringSlots (s : State) (k : Nat) : Nat := 2 ^ s.get (.MWC_CFG_LOG2N k)
def State.spillBase (s : State) (k : Nat) : Nat := s.get (.MWC_SPILL_HI_BASE k) * 2 ^ 32 + s.get (.MWC_SPILL_LO_BASE k) * 2 ^ 17

/-- CTRL of a slot written with OWN = 0 and a DSTATE (R261). -/
def State.setCtrl (s : State) (q slot dstate : Nat) : State := (s.dramStore (s.slotAddr q slot + 60) (leBytes 4 (dstate * 2 ^ 28))).2

/-- The ring is enabled and has space for a record (R274). -/
def State.ringRoom (s : State) (k : Nat) : Bool :=
  s.is (.MWC_CFG_EN k) && (s.get (.MWC_PI_PI k) + 1) % s.ringSlots k != s.get (.MWC_CI_CI k)

/-- The section's interrupt, where IRQ_EN is set (R276). -/
def State.ringIrq (s : State) (k : Nat) : State :=
  s.when (s.is (.MWC_CFG_IRQ_EN k)) (fun s => s.irqFen (s.get (.MWC_CFG_CORE k)) (.ring k))

/-- A record enters the ring at PI (R274, R276). -/
def State.ringPut (s : State) (k : Nat) (bs : List Byte) (irq : Bool) : State :=
  let pi := s.get (.MWC_PI_PI k)
  let pass := s.get (.MWC_PI_PASS k)
  let s := (s.dramStore (s.ringBase k + s.recordSize k * pi) (s.withPhase k pass bs)).2
  let next := (pi + 1) % s.ringSlots k
  let s := (s.set (.MWC_PI_PI k) next).when (next == 0) (fun s => s.set (.MWC_PI_PASS k) (1 - pass))
  s.when (irq || decide (0x10 ≤ fieldAt bs (s.statusAt k) 1)) (fun s => s.ringIrq k)

/-- A record enters the spill area; at 2,048 records scanning of the section stops (R275). PHASE is open until it enters the ring. -/
def State.spillPut (s : State) (k : Nat) (bs : List Byte) (irq : Bool) : State :=
  let c := s.get (.MWC_STATUS_SPILL_CNT k)
  let (p, s) := s.draw 1
  let s := (s.dramStore (s.spillBase k + s.recordSize k * ((s.mq.spillAt.at k + c) % 4096)) (s.withPhase k p bs)).2
  let s := (s.set (.MWC_STATUS_SPILL_CNT k) (c + 1)).updMq (fun m => { m with spillIrq := m.spillIrq.upd k (· ++ [irq]) })
  s.when (decide (2048 ≤ c + 1) && !s.is (.MWC_STATUS_SCAN_STOP k)) (fun s => (s.set (.MWC_STATUS_SCAN_STOP k) 1).ringIrq k)

/-- A record is written to the ring or the spill area (R275). -/
def State.place (s : State) (k : Nat) (bs : List Byte) (irq : Bool) : State :=
  if s.get (.MWC_STATUS_SPILL_CNT k) = 0 ∧ s.ringRoom k then s.ringPut k bs irq else s.spillPut k bs irq

/-- Ring or spill area can take a record of section k. -/
def State.placeRoom (s : State) (k : Nat) : Bool :=
  decide (s.get (.MWC_STATUS_SPILL_CNT k) < 4096) || (s.get (.MWC_STATUS_SPILL_CNT k) == 0 && s.ringRoom k)

/-- The oldest spilled records move into the ring while it has space (R275); the list holds their interrupt flags. A record that
cannot be read is open. -/
def State.unspill (s : State) (k : Nat) : List Bool → State
  | [] => s
  | i :: rest =>
    if s.ringRoom k then
      let a := s.mq.spillAt.at k
      let size := s.recordSize k
      let (bs, s) := match s.dramLoad (s.spillBase k + size * a) size with
        | (some bs, s) => (bs, s)
        | (none, s) => let (v, s) := s.draw (8 * size); (leBytes size v, s)
      let s := s.updMq (fun m => { m with spillAt := m.spillAt.put k ((a + 1) % 4096), spillIrq := m.spillIrq.put k rest })
      ((s.set (.MWC_STATUS_SPILL_CNT k) rest.length).ringPut k bs i).unspill k rest
    else s

/-- The records of the walk that still wait are written as space allows, each followed by DSTATE 4 in its slot (R280, R281). -/
def State.payOwed (s : State) : List (Nat × Nat × List Byte × Bool) → State
  | [] => s.updMq (fun m => { m with owed := [] })
  | (q, slot, bs, irq) :: rest =>
    if s.placeRoom (q / 4) then ((s.place (q / 4) bs irq).setCtrl q slot 4).payOwed rest
    else s.updMq (fun m => { m with owed := (q, slot, bs, irq) :: rest })

/-- Slots of queue q in DSTATE 1–3 (R284): its descriptors, and what a warm reset has left of them until the walk's records are written. -/
def State.slotsOut (s : State) (q : Nat) : Nat :=
  (s.mq.descs.filter (fun d => d.queue = q)).length + (s.mq.orphans.filter (fun e => e.1 = q)).length +
    (s.mq.owed.filter (fun e => e.1 = q)).length

/-! ### Scanning may stop (R263, R275) -/

/-- Descriptors of section k in DSTATE 1–3. -/
def State.outstanding (s : State) (k : Nat) : Nat := (s.mq.descs.filter (fun d => d.sec = k)).length

/-- The section is parked (R237). -/
def State.parkedSec (s : State) (k : Nat) : Bool := s.is (.WTH_VCM_STATUS_PARKED k)

/-- Scanning of queue q is stopped, whatever the section's heads do. -/
def State.scanHeld (s : State) (q : Nat) : Bool :=
  !s.is (.MWQ_CFG_EN q) || decide (1 < s.aq.ps) || decide (1024 ≤ s.outstanding (q / 4)) || s.is (.MWC_STATUS_SCAN_STOP (q / 4)) ||
    s.committed || s.mq.bandHold || !s.mq.owed.isEmpty || !s.mireRuns

/-- OUTST, BLOCKED and the occupancy of the system queues follow (R284). -/
def State.mwqSync (s : State) : State :=
  let s := s.forN 16 (fun q s =>
    (s.set (.MWQ_STATUS_OUTST q) (s.slotsOut q)).setIf (.MWQ_STATUS_BLOCKED q)
      (s.scanHeld q || s.parkedSec (q / 4)))
  (s.set .MWQ_SYS_STATUS_CAL s.mq.calibration.length).set .MWQ_SYS_STATUS_FLUSH s.mq.flush.length

/-- The ring of section k has gained space: spilled and owed records move on, and SCAN_STOP clears at 1,024 (R275). -/
def State.drainRing (s : State) (k : Nat) : State :=
  let s := s.unspill k (s.mq.spillIrq.at k)
  let s := s.payOwed s.mq.owed
  (s.when (decide (s.get (.MWC_STATUS_SPILL_CNT k) ≤ 1024)) (fun s => s.set (.MWC_STATUS_SCAN_STOP k) 0)).mwqSync

/-! ### Completion (R272, R280) -/

/-- A descriptor of the table changed. -/
def State.updMwd (s : State) (d : Mwd) : State := s.updMq (fun m => { m with descs := m.descs.map (fun e => if e.id = d.id then d else e) })

/-- A descriptor's own record is written; its slot takes DSTATE 4. -/
def State.ownRecord (s : State) (d : Mwd) (e : Ending) : State :=
  ((s.place d.sec (s.recordBytes d e) (d.flag 2)).setCtrl d.queue d.slot 4).updMq (fun m =>
    { m with descs := m.descs.filter (fun x => x.id ≠ d.id) })

/-- The slots of descriptors take DSTATE 4, and they leave the table. -/
def State.release (s : State) : List Mwd → State
  | [] => s
  | d :: rest => ((s.setCtrl d.queue d.slot 4).updMq (fun m => { m with descs := m.descs.filter (fun x => x.id ≠ d.id) })).release rest

/-- When every member of a closed batch has ended, the batch record is written and covers the members in DSTATE 3 (R272). -/
def State.batchDone (s : State) (b : Nat) : State :=
  let x := s.mq.batches.at b
  if x.closed ∧ x.ended = x.members ∧ 0 < x.members then
    let c : Mwd := { queue := x.queue, slot := x.slot, bytes := x.bytes }
    let s := s.place c.sec (s.recordBytes c { batch := true, detail := x.members }) (c.flag 2)
    (s.release (s.mq.descs.filter (fun d => d.batch = b ∧ d.dstate = 3))).updMq (fun m => { m with batches := m.batches.put b default })
  else s

/-- OK, OK_RECOVERED, VERIFY_REWRITTEN (R16, R319). -/
def goodStatus (st : Nat) : Bool := st == 0 || st == 1 || st == 0x22

/-- What a started descriptor held is given back: its ledger marks (R319), its region's fill (R326), the stream's staging (R325). -/
def State.letGo (s : State) (d : Mwd) (e : Ending) : State :=
  match d.stream with
  | some n =>
    let s := s.when (d.op == 2 || d.op == 3) (fun s => s.unmarkEntries n (goodStatus e.status))
    let s := s.when (d.op == 5) (fun s => s.fillEnd d.region)
    s.when (d.op != 8) (fun s => (s.updStage n (fun _ => {})).stgStatus n)
  | none => s

/-- A descriptor completes. A batch member that ends OK takes DSTATE 3; any other gets its own record (R272, R280). -/
def State.complete (s : State) (d : Mwd) (e : Ending) : State :=
  let s := s.letGo d e
  let s := if d.batch ≠ 0 ∧ e.status = 0 then (s.setCtrl d.queue d.slot 3).updMwd { d with dstate := 3, stream := none, deferred := e.detail }
    else s.ownRecord d e
  let s := s.when (d.batch != 0) (fun s =>
    (s.updMq (fun m => { m with batches := m.batches.upd d.batch (fun x => { x with ended := x.ended + 1 }) })).batchDone d.batch)
  s.mwqSync

/-- It ends before it has started: STARTED = 0. -/
def State.completeIdle (s : State) (d : Mwd) (status : Nat) : State := s.complete d { status := status, started := false }

/-- The hint `d` moves no further (R119): ABANDON, where its GO was given and no real GO that waits takes its seek over. -/
def State.dropHint (s : State) (d : Mwd) : State :=
  s.when (d.issued && (s.is (.TUS_SEEK_CTRL_HINT d.sec) || decide ((s.sec d.sec).seek.cmd ≠ some true))) (fun s => s.latchSeek d.sec false)

/-- A started descriptor whose operation does not run ends CANCELLED; a running one stops at the next sector boundary, by ABORT (R142,
R268, R279). -/
def State.stopMwd (s : State) (d : Mwd) : State :=
  match d.stream with
  | some n =>
    if d.issued && d.op != 8 then (s.set (.REED_ST_CTRL_ABORT n) 1).updMwd { d with cancel := true }
    else
      let z := ((s.zoneAt d.surface d.track).map (·.2)).getD default
      let s := s.when (d.op == 8) (fun s => s.dropHint d)
      s.complete d { status := 0x32, detail := d.detail z d.done }
  | none => s.completeIdle d 0x32

/-- The open batch of queue q is closed at its last accepted member (R272). -/
def State.closeBatch (s : State) (q : Nat) : State :=
  let b := s.mq.openBatch.at q
  if b = 0 then s
  else (s.updMq (fun m => { m with openBatch := m.openBatch.put q 0, batches := m.batches.upd b (fun x => { x with closed := true }) })).batchDone b

/-! ### Acceptance (R263, R266) -/

/-- An accepted descriptor with DEFER or BATCH joins the open batch of its queue, or opens one; BATCH closes it (R272). With COMPAT the
flags are ignored (R273). -/
def State.joinBatch (s : State) (d : Mwd) : Mwd × State :=
  if s.is (.MWC_CFG_COMPAT d.sec) || (!d.flag 0 && !d.flag 1) then (d, s)
  else
    let o := s.mq.openBatch.at d.queue
    let b := if o = 0 then s.mq.nextBatch else o
    let s := s.updMq (fun m => { m with
      nextBatch := if o = 0 then m.nextBatch + 1 else m.nextBatch, openBatch := m.openBatch.put d.queue (if d.flag 0 then 0 else b),
      batches := m.batches.upd b (fun x =>
        { x with queue := d.queue, members := x.members + 1, slot := d.slot, bytes := d.bytes, closed := d.flag 0 }) })
    ({ d with batch := b }, s)

/-- Earlier READ_AHEADs that a write overlaps end CANCELLED (R268). -/
def State.stopAheads (s : State) (d : Mwd) : List Mwd → State
  | [] => s
  | e :: rest =>
    (s.when (e.op == 5 && decide (e.dstate ≤ 2) && e.id != d.id && e.sec == d.sec && s.overlap e d) (fun s => s.stopMwd e)).stopAheads d rest

/-- The slot at HEAD is accepted: `bs` are its bytes, with OWN set (R263 step 3, R266). -/
def State.accept (s : State) (q slot : Nat) (bs : List Byte) : State :=
  let d : Mwd := { id := s.mq.nextId, queue := q, slot := slot, bytes := bs.take 60 }
  let bad := s.mwdCheck d (fieldAt bs 60 4)
  let gone := decide ((q, slot) ∈ s.mq.cancels)
  let s := (s.setCtrl q slot 1).set (.MWQ_HEAD_HEAD q) ((slot + 1) % s.queueSlots q)
  let s := s.updMq (fun m => { m with nextId := m.nextId + 1, cancels := m.cancels.filter (· ≠ (q, slot)) })
  match bad with
  | some (st, detail) => s.ownRecord d { status := st, started := false, detail := detail }
  | none =>
    let (d, s) := s.joinBatch d
    let s := s.updMq (fun m => { m with descs := m.descs ++ [d] })
    if gone || (d.op == 8 && s.parkedSec d.sec) then s.completeIdle d 0x32
    else s.when d.isWrite (fun s => s.stopAheads d s.mq.descs)

/-- The hints among the posted slots of a parked section's queue, from slot h on (R237). DEDUCED: HEAD stands at a descriptor that waits for the
load, and no slot is accepted before those ahead of it (R263); so a hint behind it is marked, and completes CANCELLED once it is accepted. -/
def State.parkedHints (s : State) (q h : Nat) : Nat → State
  | 0 => s
  | fuel + 1 =>
    match s.dramLoad (s.slotAddr q h) 64 with
    | (none, s) => s
    | (some bs, s) =>
      if fieldAt bs 60 4 < 2 ^ 31 then s
      else (s.when (fieldAt bs 0 1 == 8 && decide ((q, h) ∉ s.mq.cancels)) (fun s =>
        s.updMq (fun m => { m with cancels := m.cancels ++ [(q, h)] }))).parkedHints q ((h + 1) % s.queueSlots q) fuel

/-- A scan of queue q from HEAD, of at most `fuel` slots; it tests the stop conditions before each (R263, R275). While the section is
parked only SEEK_HINTs are taken (R237). -/
def State.scan (s : State) (q : Nat) : Nat → State
  | 0 => s
  | fuel + 1 =>
    if s.scanHeld q then s.set (.MWQ_STATUS_PEND q) 1
    else
      let h := s.get (.MWQ_HEAD_HEAD q)
      match s.dramLoad (s.slotAddr q h) 64 with
      | (none, s) => s
      | (some bs, s) =>
        if fieldAt bs 60 4 < 2 ^ 31 then s
        else if s.parkedSec (q / 4) && fieldAt bs 0 1 != 8 then (s.set (.MWQ_STATUS_PEND q) 1).parkedHints q h (fuel + 1)
        else (s.accept q h bs).scan q fuel

/-- QUEUE_SCAN (R263): Mire clears PEND and scans, unless scanning is stopped. -/
def execQueueScan (q : Nat) (s : State) : Host.Outcome State Fault Refusal :=
  .next (if s.is (.MWQ_STATUS_PEND q) && !s.scanHeld q && s.mireClock && s.dramServes then ((s.set (.MWQ_STATUS_PEND q) 0).scan q (s.queueSlots q)).mwqSync else s)

/-- MWQ_DB (R263): any write sets PEND. -/
def execMwqDb (q : Nat) (s : State) : Host.Outcome State Fault Refusal := .next (s.ack.set (.MWQ_STATUS_PEND q) 1)

/-- MWQ_CFG (R259, R272, R284): enabling sets HEAD to 0, or ENERR where the ring's place is not a legal one; disabling closes the open
batch, and what was cancelled in a posted slot of the queue (R279) is no longer. While EN stays 1 the rest of the write is ignored. -/
def execMwqCfg (q : Nat) (en : Bool) (log2n : Nat) (s : State) : Host.Outcome State Fault Refusal :=
  let s := s.ack
  if s.is (.MWQ_CFG_EN q) then .next (if en then s else (((s.set (.MWQ_CFG_EN q) 0).closeBatch q).updMq
    (fun m => { m with cancels := m.cancels.filter (fun e => e.1 ≠ q) })).mwqSync)
  else
    let s := s.set (.MWQ_CFG_LOG2N q) log2n
    let n := s.get (.MWQ_CFG_LOG2N q)
    if !en then .next s
    else if 4 ≤ n ∧ n ≤ 12 ∧ s.dramOk (s.queueBase q) (64 * 2 ^ n) then
      .next (((s.set (.MWQ_CFG_EN q) 1).set (.MWQ_HEAD_HEAD q) 0).mwqSync)
    else .next (s.set (.MWQ_STATUS_ENERR q) 1)

/-- MWC_CFG (R259, R273, R284): COMPAT and LOG2N change only while EN is 0 and nothing is spilled; enabling sets PI, CI and PASS, unless
a place is not a legal one, and then the spilled records move in. -/
def execMwcCfg (k : Nat) (en compat irqEn : Bool) (core log2n : Nat) (s : State) : Host.Outcome State Fault Refusal :=
  let s := (s.ack.setIf (.MWC_CFG_IRQ_EN k) irqEn).set (.MWC_CFG_CORE k) core
  if s.is (.MWC_CFG_EN k) then .next (if en then s else s.set (.MWC_CFG_EN k) 0)
  else
    let s := s.when (s.get (.MWC_STATUS_SPILL_CNT k) == 0) (fun s => (s.setIf (.MWC_CFG_COMPAT k) compat).set (.MWC_CFG_LOG2N k) log2n)
    let m := s.get (.MWC_CFG_LOG2N k)
    if en && decide (6 ≤ m) && decide (m ≤ 12) && s.dramOk (s.ringBase k) (s.recordSize k * 2 ^ m) && s.dramOk (s.spillBase k) (2 ^ 17) then
      let s := ((s.set (.MWC_CFG_EN k) 1).set (.MWC_PI_PI k) 0).set (.MWC_PI_PASS k) 1
      .next ((s.set (.MWC_CI_CI k) 0).drainRing k)
    else .next s

/-- MWC_CI (R274, R275): a CI that would pass PI is ignored and sets CI_ERR. -/
def execMwcCi (k ci : Nat) (s : State) : Host.Outcome State Fault Refusal :=
  let s := s.ack
  let m := s.ringSlots k
  let old := s.get (.MWC_CI_CI k)
  if m ≤ ci ∨ (s.get (.MWC_PI_PI k) + m - old) % m < (ci + m - old) % m then .next (s.set (.MWC_STATUS_CI_ERR k) 1)
  else .next ((s.set (.MWC_CI_CI k) ci).drainRing k)

/-- MWQ_CANCEL (R279): Mire acts on the slot by its state and sets RESULT. -/
def execMwqCancel (q slot : Nat) (s : State) : Host.Outcome State Fault Refusal :=
  let s := s.ack
  let result (r : Nat) (s : State) : State := s.set .MWQ_CANCEL_RES_RESULT r
  match s.mq.descs.find? (fun d => decide (d.queue = q) && decide (d.slot = slot) && decide (d.dstate ≤ 2)) with
  | some d => .next (if d.dstate = 1 then result 1 (s.completeIdle d 0x32) else result 2 (s.stopMwd d))
  | none =>
    if q < 16 ∧ slot < s.queueSlots q then
      match s.dramLoad (s.slotAddr q slot) 64 with
      | (some bs, s) =>
        if 2 ^ 31 ≤ fieldAt bs 60 4 then .next (result 1 (s.updMq (fun m => { m with cancels := m.cancels ++ [(q, slot)] })))
        else .next (result 3 s)
      | (none, s) => .next (result 3 s)
    else .next (result 3 s)

/-- FENCE or BARRIER of queue q, slot `slot` (R269, R270): it completes OK once every descriptor accepted before it, from its queue or
from its section, has completed. -/
def State.endFence (s : State) (op q slot : Nat) : State :=
  match s.mq.descs.find? (fun d => decide (d.queue = q) && decide (d.slot = slot) && decide (d.dstate = 1) && d.op == op) with
  | some d =>
    if s.mq.descs.any (fun e => decide (e.id < d.id) && decide (e.dstate ≤ 2) && (e.queue == q || (op == 0x21 && e.sec == d.sec))) then s
    else s.completeIdle d 0
  | none => s

/-- FENCE (R269). -/
def execMwdFence (q slot : Nat) (s : State) : Host.Outcome State Fault Refusal := .next (s.endFence 0x20 q slot)

/-- BARRIER (R270). -/
def execMwdBarrier (q slot : Nat) (s : State) : Host.Outcome State Fault Refusal := .next (s.endFence 0x21 q slot)

end Sys2Proof.Machine
end

