-- ==== Sys2Proof/Machine/MediaWork.lean ====
section
/-! DEFINITION. How a media descriptor runs (11, 05, 06, 07, 08): its start, its seeks and Reed operations, the end of an operation, the
recovery ladder, rewrites under verify, hints; and what a power-fail commit and a warm reset do to the queues. -/

namespace Sys2Proof.Machine

/-! ### Choice (R267) -/

/-- The level at which each descriptor is scheduled: its queue's, or that of a more urgent one that it holds through a hazard. -/
def State.levels (s : State) : List Mwd → List (Mwd × Nat)
  | [] => []
  | d :: later =>
    let r := s.levels later
    (d, r.foldl (fun l e => if s.hazard d e.1 && decide (d.dstate ≤ 2) then min l e.2 else l) (d.queue % 4)) :: r

/-- The descriptor that has a head slot. A hint whose GO was given leaves the slot to real work (R118). -/
def State.mwdOn (s : State) (n : Nat) : Option Mwd := s.mq.descs.find? (fun d => decide (d.stream = some n) && !(d.op == 8 && d.issued))

/-- The hint of section k that runs. -/
def State.hintOf (s : State) (k : Nat) : Option Mwd :=
  s.mq.descs.find? (fun d => d.op == 8 && d.sec == k && d.dstate == 2)

/-- No operation runs on either lane of section k. -/
def State.lanesIdle (s : State) (k : Nat) : Bool := !s.running (2 * k) && !s.running (2 * k + 1)

/-- Aqsia may start work on section k: loaded, its stores loaded (R147), not parking, no commit. -/
def State.mayStart (s : State) (k : Nat) : Bool :=
  s.mireActs && !s.parkedSec k && !s.mq.noStart.at k && !s.mq.progHold && !s.committed && s.get .REED_UCODE_VER_BASE != 0

/-! ### Heads and seeks -/

/-- Calibration item `i` of a surface and zone: what CHANNEL_CAL stored, or the factory's (R240). -/
def State.calItem (s : State) (surface zone i : Nat) : Nat :=
  (s.aq.cal.at (512 * (65536 * surface + zone) + i)).getD (Config.calibration surface zone i)

/-- The head in slot n changes (R78, R86): the microactuator is held and the lane disabled meanwhile, so that it starts afresh. -/
def State.changeHead (s : State) (n surface : Nat) : State :=
  let lanes := s.get (.TUS_SEC_CTRL_LANE_EN (n / 2))
  let s := (s.holdMa n).set (.TUS_SEC_CTRL_LANE_EN (n / 2)) (lanes - lanes / 2 ^ (n % 2) % 2 * 2 ^ (n % 2))
  let s := (s.laneOff n).set (if n % 2 = 0 then .TUS_SEC_CTRL_HEAD0 (n / 2) else .TUS_SEC_CTRL_HEAD1 (n / 2)) (surface % 6)
  ((s.set (.TUS_SEC_CTRL_LANE_EN (n / 2)) lanes).set (.WTH_MA_CTRL_HOLD n) 0).driveMa n

/-- The calibration of a head in a zone is loaded for stream n (R42, R155, R184, R187, R240). -/
def State.loadCal (s : State) (n surface zone : Nat) : State :=
  let c := s.calItem surface zone
  let s := s.set (.TIDE_ST_PHASE_PHASE n) (c 387)
  let s := ((s.set (.SDG_WR_CFG_ADV n) (c 0)).set (.SDG_VFY_CFG_DLY n) (c 1)).set (.SDG_VFY_CFG_VAMP_CAL n) (c 2)
  let s := s.forN 8 (fun p s => s.set (.SDG_WPC_SHIFT n p) (c (3 + p)))
  let s := s.forN 16 (fun j s => s.set (.SDG_WPC_ANG_SCALE n j) (c (11 + j)))
  s.updChan n (fun x => { x with
    coefFw := x.coefFw.filter (fun e => decide (360 ≤ e.1)) ++
      (List.range 360).map (fun i => (i, BitVec.ofNat 26 (c (27 + i) % 2 ^ 10))) })

/-- A head is selected in slot n (R240). -/
def State.selectHead (s : State) (n surface zone : Nat) : State :=
  (s.when (s.surface n != surface) (fun s => s.changeHead n surface)).loadCal n surface zone

/-- Lane n stands settled at a position in 1/1,024 track (R115): its reference, wherever a seek or its abandon has left it, is there. -/
def State.standsAt (s : State) (n pos : Nat) : Bool :=
  let k := n / 2
  (s.lane n).started && decide ((s.lane n).r = (pos : Int) * 2 ^ 38) && s.is (.TUS_SEEK_STATUS_SETTLED k) &&
    (s.sec k).seek.cmd.isNone && s.trackFollowing k

/-- A seek of lane n to a position is under way. -/
def State.seeksTo (s : State) (n pos : Nat) : Bool :=
  let k := n / 2
  s.get (.TUS_SEEK_TGT_TRACK k (n % 2)) * 1024 + s.get (.TUS_SEEK_TGT_FRAC k (n % 2)) == pos &&
    !s.is (.TUS_SEEK_STATUS_HINT_ACTIVE k) && (decide ((s.sec k).seek.cmd = some true) || s.is (.TUS_SEEK_STATUS_SEEKING k))

/-- Lane i of section k has the position as its target. -/
def State.putTarget (s : State) (k i pos : Nat) : State :=
  (s.set (.TUS_SEEK_TGT_TRACK k i) (pos / 1024)).set (.TUS_SEEK_TGT_FRAC k i) (pos % 1024)

/-- Lane n's seek to a position in 1/1,024 track (R109, R113): its target, then GO. While the other lane has no descriptor but a hint, it goes to the
same track, and lane n becomes the primary one (DESIGN CHOICE: R112 leaves the pair of targets to Aqsia). -/
def State.seekTo (s : State) (n pos : Nat) : State :=
  let k := n / 2
  let s := s.putTarget k (n % 2) pos
  let s := s.when ((s.mwdOn (2 * k + (1 - n % 2))).all (fun e => e.op == 8)) (fun s =>
    (s.putTarget k (1 - n % 2) pos).set (.TUS_SEC_CTRL_PRI_SLOT k) (n % 2))
  (s.set (.TUS_SEEK_CTRL_HINT k) 0).latchSeek k true

/-- The descriptor in slot `slot` of queue q starts on head slot n (R261). A READ_AHEAD whose region was discarded meanwhile ends. -/
def State.startMwd (s : State) (n : Nat) (d : Mwd) : State :=
  let z := s.zoneAt d.surface d.track
  let x := s.slu.regions.at d.region
  if d.op = 5 ∧ ¬ (x.state = .armed ∧ x.count = d.count) then s.completeIdle d 0x32
  else
    let d := { d with dstate := 2, stream := some n }
    let s := (s.setCtrl d.queue d.slot 2).updMwd d
    let same := s.surface n == d.surface
    let s := s.selectHead n d.surface ((z.map (·.1)).getD 0)
    let s := s.when (d.op == 5) (fun s => s.updRegion d.region (fun x => { x with state := .filling, fill := some n }))
    let size := 4096 + metaBytes ((z.map (fun z => z.2.meta_)).getD 0)
    let s := s.when ((d.op == 2 || d.op == 3) && !d.flag 3) (fun s => s.markEntries n d.buf (d.count * size))
    if d.op = 8 then ((s.putTarget d.sec (n % 2) (1024 * d.track)).putTarget d.sec (1 - n % 2) (1024 * d.track)).set
      (.TUS_SEC_CTRL_PRI_SLOT d.sec) (n % 2)
    else s.when (!(same && s.standsAt n (1024 * d.track))) (fun s => s.seekTo n (1024 * d.track))

/-! ### Operations (R129, R244, R512) -/

/-- The next Reed operation of a descriptor: first sector, sectors, and 0 its own, 1 a re-read, 2 a rewrite. An operation stays on one
track; re-reads and rewrites follow the descriptor's own pass. -/
def Mwd.nextOp (d : Mwd) (z : Config.ZoneRow) : Option (Nat × Nat × Nat) :=
  let total := d.sectors z
  if d.done < total then some (d.done, min (total - d.done) (z.sectors - (d.sector + d.done) % z.sectors), 0)
  else match d.redo with
    | (o, _, true) :: _ => some (o, 1, 1)
    | (o, _, false) :: _ => some (o, 1, 2)
    | [] => none

/-- Sedge's MODE for a media opcode (R173). -/
def modeOf (op : Nat) : Nat := if op = 4 then 1 else if op = 5 then 2 else 0

/-- The newest binding that covers an opcode and a zone (R244). -/
def State.bindingFor (s : State) (op zone : Nat) : Option Binding :=
  s.aq.binds.reverse.find? (fun b => b.opcode == op && decide (b.first ≤ zone) && decide (zone ≤ b.last))

/-- Where a data field of `bits` bits ends that starts at the boundary from `m` on (R512): a protected span cuts it, and it goes on a
resync field after the span, as often as spans fall within it. -/
def State.fieldEnd (s : State) (n : Nat) (z : Config.ZoneRow) : Nat → Word → Nat → Word
  | 0, m, _ => m
  | fuel + 1, m, bits =>
    let a := s.nextGrid n m
    let room := s.bitsOver n a (s.toSpan n a)
    if bits ≤ room then s.boundary n (s.bitIndex n a + bits)
    else s.fieldEnd n z fuel (s.spanEnd n (a + BitVec.ofNat 32 (s.toSpan n a)) + BitVec.ofNat 32 z.resync) (bits - room)

/-- The gate point of sector `i` of a track in a zone (R512): the zone's first gate point, then each sector's end plus the gap. -/
def State.gatePoint (s : State) (n : Nat) (z : Config.ZoneRow) : Nat → Word
  | 0 => s.surfAngle (s.surface n) + BitVec.ofNat 32 z.gate
  | i + 1 => s.fieldEnd n z 16 (s.gatePoint n z i + BitVec.ofNat 32 z.pre) (dataBits z.c) + BitVec.ofNat 32 z.gap

/-- What one Reed operation of a descriptor asks: the opcode of its program, the sectors counted from the first of the descriptor's first
track, Sedge's settings, and what its staging takes. -/
structure ReedOp where
  op : Nat := 1
  at_ : Nat := 0
  count : Nat := 1
  mode : Nat := 0
  step : Nat := 0
  comb : Bool := false
  timed : Bool := false
  alt : Nat := 1
  marker : Bool := false
  flush : Bool := false
  stage : Staging := {}

/-- Sedge's settings for an operation (R168–R173). -/
def State.sedgeSettings (s : State) (n : Nat) (o : ReedOp) : State :=
  let s := ((s.set (.SDG_ST_CTRL_MODE n) o.mode).set (.SDG_ST_CTRL_STEP n) o.step).setIf (.SDG_ST_CTRL_COMB n) o.comb
  (s.setIf (.SDG_ST_CTRL_FORCE_TIMED n) o.timed).set (.SDG_ST_CTRL_ALT_SET n) o.alt

/-- The seal's seed and the code of an operation on a surface (R159, R161). -/
def State.codeSettings (s : State) (n surface track : Nat) (z : Config.ZoneRow) : State :=
  let s := ((s.set (.TIDE_ST_CBPC_CBPC n) z.cbpc).judgeRate n).set (.SDG_CODE_C n) z.c
  ((s.set (.SDG_CODE_META n) z.meta_).codeStatus n).set (.SDG_SEAL_TRK_SURF n) surface |>.set (.SDG_SEAL_TRK_TRACK n) track

/-- How soon slot n can reach a descriptor's first sector, in MANG units (R267): the seek's plan from where the lane stands, a tick of which is
2^19 units (R110), and then the rotation to the sector's gate point. DESIGN CHOICE: settling, which no plan fixes, counts nothing. -/
def State.soonness (s : State) (n : Nat) (d : Mwd) : Nat :=
  let k := n / 2
  let l := s.limitsOf (s.limitRegs k)
  let (p, v, a) := s.genState k
  let way := (1024 * d.track : Nat) * 2 ^ 38 - (if n % 2 = (s.sec k).seek.pri then p else (s.lane n).r)
  let seek := 8 * ((seekPlan l v a way).map (·.2)).sum
  match s.zoneAt d.surface d.track with
  | some (zone, z) =>
    let t := (s.selectHead n d.surface zone).codeSettings n d.surface d.track z
    if d.op = 8 then seek else seek + (t.gatePoint n z d.sector - (s.mang + BitVec.ofNat 32 seek)).toNat
  | none => seek

/-- A hint may go (R118): no lane of its section works or has a descriptor, no other hint runs there, and nothing that could start there is due
before the MANG that the hint predicts. DESIGN CHOICE: accepted work that nothing holds is scheduled for the moment that its slot can reach. -/
def State.hintFree (s : State) (d : Mwd) : Bool :=
  s.lanesIdle d.sec && s.mq.descs.all (fun e => decide (e.sec ≠ d.sec) || e.id == d.id || decide (0x20 ≤ e.op) || decide (e.dstate = 3) ||
    (decide (e.dstate = 1) && (e.op == 8 || s.mq.descs.any (fun x => decide (x.id < e.id) && s.holds x e) ||
      (List.range 2).all (fun i => decide ((BitVec.ofNat 32 d.hint - s.mang).toNat < s.soonness (2 * d.sec + i) e)))))

/-- `d` may start now: nothing holds it; a hint only where real work leaves room for it. -/
def State.startable (s : State) (d : Mwd) : Bool :=
  d.dstate == 1 && decide (d.op < 0x20) && !(s.mq.descs.any (fun e => decide (e.id < d.id) && s.holds e d)) && (d.op != 8 || s.hintFree d)

/-- The startable descriptors of section k at the lowest-numbered level; calibration that waits at level 0 outranks levels 1 to 3 (R258). -/
def State.candidates (s : State) (k : Nat) : List Mwd :=
  let l := (s.levels (s.mq.descs.filter (fun d => d.sec = k))).filter (fun e => s.startable e.1)
  let top := l.foldl (fun m e => min m e.2) 4
  (l.filter (fun e => e.2 = top && (top == 0 || !s.mq.calibration.contains k))).map (·.1)

/-- DESCRIPTOR_START (R267, R258): the slot takes the descriptor named, where of those it may take none can be reached sooner. Queue 16 names
the calibration that its section needs: one that waits runs at level 0; another is Aqsia's own work at level 3, of which no rule says what it
does. -/
def execDescriptorStart (n q slot : Nat) (s : State) : Host.Outcome State Fault Refusal :=
  let k := n / 2
  if !s.mayStart k || (s.mwdOn n).isSome || s.running n then .next s
  else if q = 16 then .next ((s.updMq (fun m => { m with calibration := m.calibration.filter (· ≠ k) })).mwqSync)
  else match (s.candidates k).find? (fun d => decide (d.queue = q) && decide (d.slot = slot) &&
      (s.candidates k).all (fun e => decide (s.soonness n d ≤ s.soonness n e))) with
  | some d =>
    let moves := !(s.surface n == d.surface && s.standsAt n (1024 * d.track))
    if moves && !s.lanesIdle k then .next s else .next ((s.startMwd n d).mwqSync)
  | none => .next s

/-! ### Broeno's base programs (R145, R512) -/

/-- A microword (R131). -/
def micro (op sel opd : Nat) : Word := BitVec.ofNat 32 (op * 2 ^ 26 + sel * 2 ^ 22 + opd)

/-- JCC to `a` where condition `c` holds; JMP; a register copied, as LDI 0 and ADD; END. -/
def jcc (c a : Nat) : Word := micro 0x11 c a
def jmp (a : Nat) : Word := micro 0x10 0 a
def copyReg (dst src : Nat) : List Word := [micro 0x18 dst 0, micro 0x19 dst (2 ^ 21 + src)]
def endWith (result : Nat) : Word := micro 0x3F 0 result

/-- GATE of `gate` to `level`, at once or timed to register g, with NEXT or without. -/
def gateNow (gate level : Nat) : Word := micro 0x04 gate level
def gateAt (gate g next : Nat) : Word := micro 0x04 gate (1 + 2 * g + 32 + 64 * next)

/-- The ends at `a`: DONE, ABORTED, PARTIAL. -/
def baseEnds : List Word := [endWith 0, endWith 2, endWith 1]

/-- The write program, at 0: the worked case's of R512, which arms VG where G0[8] is set (R200). G10 holds bits 15:0 of G0. -/
def baseWrite : List Word :=
  [micro 0x01 8 0] ++ copyReg 10 0 ++ [micro 0x18 10 (2 ^ 21),
    -- 4: a sector
    micro 0x08 0 0, jcc 15 37, micro 0x1B 2 0, jcc 1 36, micro 0x1B 10 0x100, jcc 3 11, gateNow 2 1,
    -- 11: its gate point
    micro 0x01 11 (2 ^ 21), gateAt 1 1 1, jcc 9 38, jcc 14 11, micro 0x05 1 0] ++ copyReg 9 3 ++ [micro 0x06 7 (9 * 2 ^ 18),
    -- 19: past a wedge, as long as bits are left
    jcc 13 29, gateNow 1 0, micro 0x07 0 0, micro 0x1B 10 0x100, jcc 3 25, gateNow 2 1, gateAt 1 15 0, micro 0x05 15 256,
    micro 0x06 6 (9 * 2 ^ 18), jmp 19,
    -- 29: the next sector
    gateNow 1 0] ++ copyReg 1 15 ++ [micro 0x19 1 (2 ^ 21 + 6), micro 0x1A 2 1, micro 0x19 7 1, jmp 4] ++ baseEnds

/-- The read program, at 0x40: the same layout under RG, with each mark searched where it is to end, G11, by G4 and G5. -/
def baseRead : List Word :=
  [micro 0x08 0 0, jcc 15 0x60, micro 0x1B 2 0, jcc 1 0x5F, gateAt 0 1 1, jcc 9 0x61, jcc 14 0x44] ++
  copyReg 11 1 ++ [micro 0x19 11 (2 ^ 21 + 4), micro 0x05 11 0] ++ copyReg 9 3 ++ [micro 0x06 7 (9 * 2 ^ 18),
    -- 0x4E: past a wedge, as long as bits are left
    jcc 13 0x58, gateNow 0 0, micro 0x07 0 0, gateAt 0 15 0] ++ copyReg 11 15 ++ [micro 0x19 11 (2 ^ 21 + 5), micro 0x05 11 256,
    micro 0x06 6 (9 * 2 ^ 18), jmp 0x4E,
    -- 0x58: the next sector
    gateNow 0 0] ++ copyReg 1 15 ++ [micro 0x19 1 (2 ^ 21 + 6), micro 0x1A 2 1, micro 0x19 7 1, jmp 0x40] ++ baseEnds

/-- The erase program, at 0x80 (R262): from the track's gate point the write gate stands with no field active, which sends the 1100 pattern of
R185, for a revolution of 1,024 wedges, G9, raised anew after each. -/
def baseErase : List Word :=
  [micro 0x01 8 0, micro 0x08 0 0, jcc 15 0x90, micro 0x18 9 1024, micro 0x01 11 (2 ^ 21), gateAt 1 1 1, jcc 9 0x91, jcc 14 0x84,
    -- 0x88: past a wedge
    micro 0x07 0 0, gateAt 1 15 0, jcc 15 0x90, micro 0x1A 9 1, jcc 2 0x88, micro 0x03 1 (2 ^ 21), gateNow 1 0] ++ baseEnds

/-- The base microcode (DESIGN CHOICE: R512 says what it does, and gives no word of it but the worked case's), and where the program of a media
opcode starts. -/
def baseProgram : List Word :=
  let pad (n : Nat) (l : List Word) : List Word := l ++ List.replicate (n - l.length) 0
  pad 0x80 (pad 0x40 baseWrite ++ baseRead) ++ baseErase
def baseEntry (op : Nat) : Nat := if op = 1 ∨ op = 4 ∨ op = 5 then 0x40 else if op = 0x11 then 0x80 else 0

/-- A Reed operation starts on stream n, on a track of a zone (R129, R159, R161, R173, R200, R244, R512). -/
def State.issueOp (s : State) (n surface firstTrack zone : Nat) (z : Config.ZoneRow) (o : ReedOp) : State :=
  let sector := o.at_ % z.sectors
  let verify := !o.flush && (o.op == 3 || o.op == 0x10)
  let s := s.codeSettings n surface (firstTrack + o.at_ / z.sectors) z
  let s := (s.sedgeSettings n o).setIf (.SDG_WR_CFG_MARKER n) o.marker
  let g := [o.op + 256 * verify.toNat + 65536 * zone, (s.gatePoint n z sector).toNat, o.count, dataBits z.c, z.pre, z.resync, z.gap, sector]
  let s := s.forN 8 (fun i s => s.set (.REED_OP_VALUE n i) (g.getD i 0))
  let b := s.bindingFor o.op zone
  let s := s.set (.REED_ST_THRESH_THRESH n) ((b.map Binding.thresh).getD (Config.baseThresh o.op))
  let s := (s.set (.REED_ST_CTRL_ENTRY n) ((b.map Binding.entry).getD (baseEntry o.op))).setIf (.REED_ST_CTRL_FLUSH n) o.flush
  ((s.updStage n (fun _ => o.stage)).stgStatus n).reedGo n

/-- The stream's staging for an operation of a descriptor from its sector `first` on (R325). Markers and formats take zero-filled
sectors (R186, R262); so does an erase, of which no sector is sent: one in staging is what the gate's raise asks (R136). -/
def State.stageFor (s : State) (d : Mwd) (z : Config.ZoneRow) (first count kind : Nat) : Staging :=
  let size := 4096 + metaBytes z.meta_
  let base := if d.op = 5 then (s.slu.regions.at d.region).buf else d.buf
  { active := true, read := !d.isWrite || kind == 1, meta_ := z.meta_, buf := base + first * size, total := if d.op = 0x11 then 1 else count,
    region := if d.op = 5 then some d.region else none, first := first, zeros := d.byTrack || d.flag 3 }

/-- One Reed operation of descriptor `d` is started on stream n. -/
def State.issue (s : State) (n : Nat) (d : Mwd) (zone : Nat) (z : Config.ZoneRow) (first count kind : Nat) : State :=
  let op := if kind = 1 then 4 else d.op
  let s := s.updMwd { d with
    issued := true, opFirst := first, opCount := count, opKind := kind, prog := ((s.bindingFor op zone).map Binding.prog).getD 0 }
  s.issueOp n d.surface d.track zone z
    { op := op, at_ := d.sector + first, count := count, mode := modeOf op, marker := d.flag 3, stage := s.stageFor d z first count kind }

/-- The region still takes what READ_AHEAD `d` reads (R326, R327). -/
def State.fills (s : State) (d : Mwd) : Bool :=
  let x := s.slu.regions.at d.region
  decide (x.state = .filling) && decide (x.fill = d.stream)

/-- A READ_AHEAD ends (R277, R327): OK with the sectors left absent, or, its region discarded, CANCELLED after its first `o` sectors. -/
def State.aheadEnd (s : State) (d : Mwd) (o : Nat) : State :=
  if s.fills d then s.complete d { detail := ((s.slu.regions.at d.region).valid.filter (! ·)).length }
  else s.complete d { status := 0x32, detail := o }

/-- A fault ends descriptor `d` (R278): WRITE_FAULT for writes, MEDIA_UNRECOVERED for READ and VERIFY; a READ_AHEAD completes OK with
the sectors left absent. `o` is the first sector that it did not reach. -/
def State.faultEnd (s : State) (d : Mwd) (z : Config.ZoneRow) (o : Nat) : State :=
  if d.op = 5 then s.aheadEnd d o
  else s.complete d { status := if d.isWrite then 0x21 else 0x20, detail := d.detail z o }

/-- Tide's state lets media work start (R36): LOCKED or SINGLE, for reads also PULL_IN and HOLDOVER. -/
def State.mediaState (s : State) (locked : Bool) : Bool :=
  s.tideLocked || (!locked && (s.get .TIDE_STATUS_STATE == 2 || s.get .TIDE_STATUS_STATE == 5))

/-- The next operation of the descriptor that runs on stream n, where it is one of opcode `op` and none runs: a seek to its track, or
the operation once the lane stands there. After a TIMING end it waits for Tide, at most 1 s (R278). -/
def State.runNext (s : State) (n op : Nat) : State :=
  match s.mwdOn n with
  | some d =>
    if d.op ≠ op ∨ d.issued ∨ d.dstate ≠ 2 ∨ d.failed ≠ [] then s
    else match s.zoneAt d.surface d.track with
    | some (zone, z) =>
      match d.nextOp z with
      | some (first, count, kind) =>
        let track := d.track + (d.sector + first) / z.sectors
        if d.op = 5 ∧ !s.fills d then s.aheadEnd d d.done
        else if 0 < d.timing ∧ 1000 < s.opt - d.timingAt then s.faultEnd d z d.done
        else if !s.standsAt n (1024 * track) then
          s.when (s.lanesIdle d.sec && !s.seeksTo n (1024 * track)) (fun s => s.seekTo n (1024 * track))
        else s.when (s.mayStart d.sec && !s.running n && s.mediaState (d.isWrite || 0 < d.timing)) (fun s =>
          s.issue n d zone z first count kind)
      | none => s
    | none => s
  | none => s

/-- READ (R262). -/
def execMwdRead (n : Nat) (s : State) : Host.Outcome State Fault Refusal := .next (s.runNext n 0x01)

/-- WRITE (R262, R186). -/
def execMwdWrite (n : Nat) (s : State) : Host.Outcome State Fault Refusal := .next (s.runNext n 0x02)

/-- WRITE_VERIFY (R200). -/
def execWriteVerify (n : Nat) (s : State) : Host.Outcome State Fault Refusal := .next (s.runNext n 0x03)

/-- VERIFY (R262). -/
def execMwdVerify (n : Nat) (s : State) : Host.Outcome State Fault Refusal := .next (s.runNext n 0x04)

/-- READ_AHEAD (R173). -/
def execReadAhead (n : Nat) (s : State) : Host.Outcome State Fault Refusal := .next (s.runNext n 0x05)

/-- FORMAT_TRACKS (R262). -/
def execFormatTracks (n : Nat) (s : State) : Host.Outcome State Fault Refusal := .next (s.runNext n 0x10)

/-- ERASE_BAND (R262). -/
def execEraseBand (n : Nat) (s : State) : Host.Outcome State Fault Refusal := .next (s.runNext n 0x11)

/-! ### Hints (R118–R120) -/

/-- SEEK_HINT (R118): the hint's GO, where real work still leaves room for it. -/
def execSeekHint (n : Nat) (s : State) : Host.Outcome State Fault Refusal :=
  .next (match s.mwdOn n with
    | some d =>
      if d.op = 8 ∧ d.dstate = 2 ∧ !d.issued ∧ s.hintFree d then
        ((s.set (.TUS_SEEK_CTRL_HINT d.sec) 1).latchSeek d.sec true).updMwd { d with issued := true }
      else s
    | none => s)

/-- An abandoned hint completes CANCELLED (R120). -/
def State.abandonHint (s : State) (k : Nat) : State :=
  match s.hintOf k with
  | some d => (s.dropHint d).complete { d with issued := false } { status := 0x32 }
  | none => s

/-- HINT_TIMEOUT (R120): one revolution past the predicted MANG, no scanned descriptor has claimed the target. -/
def execHintTimeout (k : Nat) (s : State) : Host.Outcome State Fault Refusal :=
  .next (match s.hintOf k with
    | some d =>
      if s.mq.descs.any (fun e => e.op != 8 && decide (e.op < 0x20) && e.surface == d.surface && e.track == d.track) then s
      else s.abandonHint k
    | none => s)

/-- SEEK_SETTLED (R115, R120): a hint that settles at its target completes OK. -/
def execSeekSettled (k : Nat) (s : State) : Host.Outcome State Fault Refusal :=
  .next (s.when (s.settles k) (fun s =>
    let hint := s.is (.TUS_SEEK_STATUS_HINT_ACTIVE k)
    let s := s.settleSeek k
    match s.hintOf k with
    | some d => s.when hint (fun s => s.complete d {})
    | none => s))

/-- The hint of section k, whose seek a real one has taken over (R118, R120): it completes OK where the new target lies within SETTLE_WIN of
the hint's, and is a descriptor's on the same surface if it is any descriptor's; else CANCELLED. -/
def State.takeOver (s : State) (k : Nat) (old : Seek) : State :=
  match s.hintOf k with
  | some d =>
    let near := decide (((s.sec k).seek.target - old.target).natAbs ≤ s.get (.TUS_SETTLE_SETTLE_WIN k) * 2 ^ 38)
    let same := (s.mwdOn (2 * k + (s.sec k).seek.pri)).all (fun e => e.op == 8 || e.surface == d.surface)
    s.complete d { status := if near && same then 0 else 0x32 }
  | none => s

/-- INNER_LOOP_TICK (R90): one tick of the servo engine; a hint whose seek a real GO took over at this tick's outer update ends. -/
def execInnerLoopTick (x : Strobe) (s : State) : Host.Outcome State Fault Refusal :=
  let t := s.tick x
  .next (t.forN 4 (fun k u =>
    u.when (s.is (.TUS_SEEK_STATUS_HINT_ACTIVE k) && !t.is (.TUS_SEEK_STATUS_HINT_ACTIVE k)) (fun u => (u.takeOver k (s.sec k).seek).mwqSync)))

/-- ABANDON is written (R109, R119, R120). -/
def State.writeAbandon (s : State) (k : Nat) : State :=
  (s.when (s.is (.TUS_SEEK_STATUS_HINT_ACTIVE k)) (fun s => s.abandonHint k)).latchSeek k false

/-- GO (R109, R118, R125): the store also sets HINT; with ABANDON set in it, it acts as ABANDON. -/
def execSeekGo (k : Nat) (hint abandon : Bool) (s : State) : Host.Outcome State Fault Refusal :=
  let s := s.ack.setIf (.TUS_SEEK_CTRL_HINT k) hint
  .next (if abandon then s.writeAbandon k else s.latchSeek k true)

/-- ABANDON (R109, R119, R120). -/
def execSeekAbandon (k : Nat) (s : State) : Host.Outcome State Fault Refusal := .next (s.ack.writeAbandon k)

/-! ### The end of an operation (R144, R150, R172, R200, R278) -/

/-- The lower of an offset and one that may be held. -/
def lower (a : Option Nat) (o : Nat) : Option Nat := some (match a with | some x => min x o | none => o)

/-- Mire empties the stream's event, result and verify queues (R150, R176, R198). -/
def State.collect (s : State) (n : Nat) : State :=
  let s := (s.updSeq n (fun q => { q with events := [], owed := [] })).reedCount n
  (s.updChan n (fun c => { c with results := [], taken := [], vfy := [], vfyTaken := [], lost := 0 })).sdgStatus n

/-- A sector's outcome in a read (R172). -/
def Mwd.readOutcome (d : Mwd) (o outcome : Nat) : Mwd :=
  match outcome with
  | 0 => d
  | 1 => { d with recovered := lower d.recovered o, recAlign := true }
  | 4 => { d with marked := lower d.marked o }
  | 2 | 3 | 5 | 7 => { d with failed := d.failed ++ [(o, outcome, 0)] }
  | _ => { d with lost := d.lost ++ [(o, outcome)] }

/-- A sector's outcome under the checker, after `r` rewrites (R200). -/
def Mwd.writeOutcome (d : Mwd) (o r outcome : Nat) : Mwd :=
  if outcome = 0 then { d with rewritten := if 0 < r then lower d.rewritten o else d.rewritten }
  else if outcome = 4 then { d with redo := d.redo ++ [(o, r, true)] }
  else if r < 2 then { d with redo := d.redo ++ [(o, r, false)] }
  else { d with faulty := lower d.faulty o }

/-- The offset of the sector with an index on the operation's track. -/
def Mwd.offsetOf (d : Mwd) (z : Config.ZoneRow) (index : Nat) : Nat := d.opFirst + (index - (d.sector + d.opFirst) % z.sectors)

/-- What an operation that committed its first `k` sectors has done for its descriptor. -/
def Mwd.progress (d : Mwd) (z : Config.ZoneRow) (k : Nat) (res : List SectorResult) (vfy : List VfyEntry) (markers : List Nat) : Mwd :=
  let reach := d.opFirst + k
  let d := { d with poisoned := markers.foldl (fun a m => if m < k then lower a (d.opFirst + m) else a) d.poisoned }
  match d.opKind with
  | 3 => d
  | 0 =>
    let d : Mwd := { d with done := reach }
    let d : Mwd := if d.op = 1 ∨ d.op = 4 then res.foldl (fun d r =>
      if d.offsetOf z r.index < reach then d.readOutcome (d.offsetOf z r.index) r.outcome else d) d else d
    if d.op = 3 ∨ d.op = 0x10 then vfy.foldl (fun d e =>
      if d.offsetOf z e.index < reach then d.writeOutcome (d.offsetOf z e.index) 0 e.outcome else d) d else d
  | kind =>
    match d.redo with
    | (o, r, _) :: rest =>
      if k = 0 then d
      else if kind = 1 then
        match res.find? (fun x => d.offsetOf z x.index = o) with
        | some x => ({ d with redo := rest }).writeOutcome o r (if x.outcome ≤ 1 then 0 else 1)
        | none => d
      else match vfy.find? (fun x => d.offsetOf z x.index = o) with
        | some x => ({ d with redo := rest }).writeOutcome o (r + 1) x.outcome
        | none => d
    | [] => d

/-- Aqsia's record of a program failure (R144, R278, R457). -/
def State.programRecord (s : State) (n : Nat) (d : Mwd) : State :=
  s.peatRecord 1 0x0102 (leBytes 2 d.prog ++ leBytes 1 n ++ leBytes 1 (s.get (.REED_ST_STATUS_TERM n)) ++
    leBytes 1 (s.get (.REED_ST_STATUS_RESULT n)) ++ [0] ++ leBytes 2 (s.get (.REED_ST_PC_PC n)))

/-- The sector that did not recover, of those left (R172 rule 2): the first, with its step-0 outcome. -/
def Mwd.firstLost (d : Mwd) : Option (Nat × Nat) :=
  d.lost.foldl (fun a e => match a with | some x => if x.1 ≤ e.1 then some x else some e | none => some e) none

/-- The status of a descriptor whose work is done (R172, R200, R277, R388). -/
def State.finish (s : State) (d : Mwd) (z : Config.ZoneRow) : State :=
  if d.isWrite then
    s.complete d (match d.faulty, d.poisoned, d.rewritten with
      | some o, _, _ => { status := 0x21, detail := d.detail z o }
      | none, some o, _ => { status := 0x41, detail := d.detail z o }
      | none, none, some o => { status := 0x22, detail := d.detail z o }
      | none, none, none => {})
  else if d.op = 5 then s.aheadEnd d d.done
  else
    s.complete d (match d.marked, d.firstLost, d.recovered with
      | some o, l, _ => { status := 0x20, marker := true, detail := min o ((l.map (·.1)).getD o) }
      | none, some (o, x), _ => { status := if x = 5 then 0x23 else 0x20, detail := o }
      | none, none, some o => { status := 1, detail := o, step := d.recStep, align := d.recAlign }
      | none, none, none => {})

/-- The descriptor goes on, or its work is done: a failed sector first takes its ladder steps (R168). A cancelled one stops
(R279). -/
def State.goOn (s : State) (d : Mwd) (z : Config.ZoneRow) : State :=
  let d := if d.ladder = 0 then { d with lost := d.lost ++ d.failed.map (fun e => (e.1, e.2.1)), failed := [] } else d
  let s := s.updMwd d
  if d.failed = [] ∧ (d.nextOp z).isNone then s.finish d z
  else if d.cancel then s.complete d { status := 0x32, detail := d.detail z d.done }
  else s

/-- The combine sum's slots are free again. -/
def State.dropSum (s : State) (n : Nat) : State :=
  (s.updChan n (fun c => { c with park := c.park.filter (fun e => decide (e.2 ≠ .sum)), sumReads := 0 })).sdgStatus n

/-- Failed sectors whose ladder step is over: recovered, marked, or past the descriptor's last step and lost (R168, R172). -/
def State.ladderTake (s : State) (n : Nat) (d : Mwd) (z : Config.ZoneRow) (res : List SectorResult) : State :=
  let r := d.lad.headD {}
  let step := d.ladStep
  let hit (f : Nat × Nat × Nat) : Option SectorResult := res.find? (fun x =>
    decide (x.index = (d.sector + f.1) % z.sectors) && !r.only && decide (r.at_ ≤ d.sector + f.1) && decide (d.sector + f.1 < r.at_ + r.count))
  let rest := d.lad.tail
  -- what the read or decode that has ended says of each failed sector
  let (e, s) := d.failed.foldl (fun (a : Mwd × State) f =>
    match (hit f).map (fun x => (x.outcome, x.align)) with
    | some (0, _) => ({ a.1 with recovered := lower a.1.recovered f.1, recStep := max a.1.recStep step }, a.2.telAdd n (15 + step) 1)
    | some (1, _) =>
      ({ a.1 with recovered := lower a.1.recovered f.1, recStep := max a.1.recStep step, recAlign := true }, a.2.telAdd n (15 + step) 1)
    | some (4, _) => ({ a.1 with marked := lower a.1.marked f.1 }, a.2)
    | _ => ({ a.1 with failed := a.1.failed ++ [f] }, a.2)) (({ d with failed := [] } : Mwd), s)
  -- a step of one sector is over once the sector has left the ladder
  let gone := decide (2 ≤ step) && decide ((e.failed.head?).map (·.1) ≠ (d.failed.head?).map (·.1))
  let e : Mwd := { e with lad := if gone then [] else rest, issued := false }
  let (e, s) :=
    if gone ∨ rest ≠ [] then (e, s)
    else
      let now := fun (f : Nat × Nat × Nat) => step == 1 || decide (some f.1 = (e.failed.head?).map (·.1))
      let out := e.failed.filter (fun f => now f && decide (d.ladder ≤ step))
      let stay := (e.failed.filter (fun f => !(now f && decide (d.ladder ≤ step)))).map (fun f => if now f then (f.1, f.2.1, step) else f)
      (({ e with failed := stay, lost := e.lost ++ out.map (fun f => (f.1, f.2.1)) } : Mwd), s.telAdd n 21 out.length)
  let s := s.when (gone || (rest.isEmpty && decide (d.ladder ≤ step))) (fun s => s.dropSum n)
  s.goOn e z

/-- The ladder read that ended PARTIAL after its first `k` sectors: the others are read again (R144). -/
def Mwd.splitRead (d : Mwd) (k : Nat) : Mwd :=
  match d.lad with
  | r :: rest =>
    if k = 0 ∨ r.count ≤ k then d
    else { d with lad := { r with count := k } :: { r with at_ := r.at_ + k, count := r.count - k } :: rest }
  | [] => d

/-- The operation of descriptor `d` on stream n has ended, its queues read: `d` is as it stood at GO (R144, R278). An erase sends no sectors:
all of its own are behind it with DONE. -/
def State.endOp (s : State) (n : Nat) (d : Mwd) (z : Config.ZoneRow) (res : List SectorResult) (vfy : List VfyEntry) (ovf : Bool) : State :=
  let g := s.stage n
  let term := s.get (.REED_ST_STATUS_TERM n)
  let result := s.get (.REED_ST_STATUS_RESULT n)
  let k := if d.op = 0x11 ∧ term = 0 ∧ result = 0 then d.opCount else min (s.seq n).sectorsCommitted d.opCount
  let reach := if d.opKind = 0 then d.opFirst + k else d.done
  let e := ({ d with issued := false }).progress z k res vfy g.markers
  let moved := match g.data, g.read with | (i, _) :: _, true => i | _, _ => g.moved
  let stopped (st : Nat) : State := s.complete e { status := st, detail := d.detail z reach }
  if g.bufErr then s.complete e { status := 0x40, detail := d.detail z (d.opFirst + moved) }
  else if ovf then s.updMwd { d with issued := false }
  else match term with
  | 0 =>
    let d := { d with timing := 0, timingAt := 0, limited := false }
    let e := { e with timing := 0, timingAt := 0, limited := false }
    if d.opKind = 3 ∧ result ≤ 1 ∧ !d.cancel then
      let d := if result = 1 then d.splitRead k else d
      if result = 1 ∧ k = 0 then s.updMwd { d with issued := false } else s.ladderTake n d z res
    else if result = 0 ∨ (result = 1 ∧ !d.cancel) then s.goOn e z
    else if result ≤ 2 then stopped 0x32
    else (s.programRecord n d).faultEnd e z reach
  | 1 => stopped 0x32
  | 2 => stopped 0x31
  | 3 => if s.lev.resetReq.isSome then stopped 0x30 else s.faultEnd e z reach
  | 4 =>
    let first := if d.timing = 0 then s.opt else d.timingAt
    if d.timing < 3 ∧ s.opt - first ≤ 1000 then s.goOn { e with timing := d.timing + 1, timingAt := first } z
    else s.faultEnd e z reach
  | 8 => if d.limited then s.faultEnd e z reach else s.goOn { e with limited := true } z
  | _ => (s.programRecord n d).faultEnd e z reach

/-- OPERATION_END (R150, R167): once the operation has ended and every sector has its result and is moved, Mire reads the queues and
turns the end into a status; lost results issue the whole operation again (R177). -/
def execOperationEnd (n : Nat) (s : State) : Host.Outcome State Fault Refusal :=
  let c := s.chan n
  let g := s.stage n
  let res := c.taken ++ c.results
  let vfy := c.vfyTaken ++ c.vfy
  let waits := s.running n || decide (0 < c.awaiting) || vfy.any (fun e => !e.posted) || (g.read && !g.bufErr && !g.data.isEmpty)
  if MireIrq.opEnd n ∉ s.mireIrq ∨ waits ∨ !s.mireActs then .next s
  else
    let ovf := decide (0 < c.lost)
    let s := ((s.served (.opEnd n)).served (.sectors n)).collect n
    match s.mwdOn n with
    | some d =>
      match s.zoneAt d.surface d.track with
      | some (_, z) => .next ((s.when (d.issued && d.op != 8) (fun s => s.endOp n d z res vfy ovf)).mwqSync)
      | none => .next s
    | none => .next s

/-! ### The recovery ladder (R168–R172) -/

/-- A run of neighbouring numbers among those for which `f` holds, from `a` on below `b`: first and length. -/
def runsOf (f : Nat → Bool) : Nat → Nat → List (Nat × Nat)
  | _, 0 => []
  | a, b + 1 =>
    let later := runsOf f (a + 1) b
    if f a then
      match later with
      | (x, k) :: r => if x = a + 1 then (a, k + 1) :: r else (a, 1) :: (x, k) :: r
      | [] => [(a, 1)]
    else later

/-- The reads and decodes of a ladder step (R168). Step 1 takes all failed sectors: first up to 8 neighbours on each side on the track,
for the adaptation, then the sectors. Step 4 offsets the reference by −6, +6, −12 and +12 % of the track pitch, in 1/1,024 track as the
worked case rounds 6 % to 63. -/
def Mwd.ladderPlan (d : Mwd) (z : Config.ZoneRow) (step : Nat) : List LadderRead :=
  let at_ (f : Nat × Nat × Nat) := d.sector + f.1
  let one : LadderRead := { at_ := (d.failed.head?.map at_).getD 0 }
  match step with
  | 1 =>
    let bad (i : Nat) : Bool := d.failed.any (fun f => at_ f == i)
    let near (i : Nat) : Bool := !bad i && d.failed.any (fun f =>
      decide (at_ f / z.sectors = i / z.sectors) && decide (i ≤ at_ f + 8) && decide (at_ f ≤ i + 8))
    let low := d.failed.foldl (fun m f => min m (at_ f - 8)) (one.at_ - 8)
    let high := d.failed.foldl (fun m f => max m (at_ f + 8)) 0
    (runsOf near low (high + 1 - low)).map (fun r => { at_ := r.1, count := r.2, only := true }) ++
      d.failed.map (fun f => { at_ := at_ f })
  | 2 => [one, { one with comb := true }, { one with comb := true }, { one with comb := true }]
  | 3 => [{ one with media := false, alt := 1 }, { one with media := false, alt := 2 }, { one with media := false, alt := 3 }]
  | 4 => [{ one with ofs := -63 }, { one with ofs := 63 }, { one with ofs := -126 }, { one with ofs := 126 }]
  | _ => [{ one with media := false }]

/-- The next read or decode of a ladder step on stream n. A read takes the predicted alignment where the sector's outcome at step 0 was
SYNC_FAIL (R171); steps 3 and 5 decode the combine sum, step 5 with the erasures of R169. -/
def State.ladderStart (s : State) (n : Nat) (d : Mwd) (zone : Nat) (z : Config.ZoneRow) (r : LadderRead) : State :=
  let first := r.at_ - d.sector
  let timed := d.failed.any (fun f => decide (d.sector + f.1 = r.at_) && f.2.1 == 5)
  let stage := { s.stageFor d z first r.count 3 with discard := r.only || d.op == 4 }
  let o : ReedOp := { at_ := r.at_, count := r.count, mode := 3, step := d.ladStep, comb := r.comb, timed := timed, alt := r.alt, stage := stage }
  let d := { d with issued := true, opFirst := first, opCount := r.count, opKind := 3, decodeOnly := !r.media }
  if r.media then
    let pos := ((1024 * (d.track + r.at_ / z.sectors) : Nat) + r.ofs).toNat
    if !s.standsAt n pos then s.when (s.lanesIdle d.sec && !s.seeksTo n pos) (fun s => s.seekTo n pos)
    else s.when (s.mayStart d.sec && s.mediaState (0 < d.timing)) (fun s =>
      (s.updMwd { d with prog := ((s.bindingFor 1 zone).map Binding.prog).getD 0 }).issueOp n d.surface d.track zone z o)
  else
    let s := (((s.updMwd d).sedgeSettings n o).sedgeGo n).updStage n (fun _ => stage)
    let erasures := if d.ladStep = 5 then s.erasePointers n else []
    ((s.updChan n (fun c => { c with waiting := c.waiting ++ [{ c.sum with number := 0, whole := true, erasures := erasures }] })).stgStatus
      n).sdgStatus n

/-- LADDER_STEP (R168): for the failed sectors of stream n's descriptor, Aqsia takes what a decode of the sum gave, or begins the next step,
or goes on with its next read or decode. -/
def execLadderStep (n : Nat) (s : State) : Host.Outcome State Fault Refusal :=
  match s.mwdOn n with
  | some d =>
    match d.failed, s.zoneAt d.surface d.track with
    | (_, _, last) :: _, some (zone, z) =>
      let c := s.chan n
      if s.running n || !s.mireActs || s.committed || decide (0 < c.awaiting) || !(s.stage n).data.isEmpty || (d.issued && !d.decodeOnly) then .next s
      else if d.issued then
        let s := (s.served (.sectors n)).collect n
        .next ((if d.cancel then s.complete d { status := 0x32, detail := d.detail z d.done }
          else s.ladderTake n d z (c.taken ++ c.results)).mwqSync)
      else
        let d := if d.lad = [] then { d with ladStep := last + 1, lad := d.ladderPlan z (last + 1) } else d
        .next (((s.updMwd d).ladderStart n d zone z (d.lad.headD {})).mwqSync)
    | _, _ => .next s
  | none => .next s

/-! ### Power-fail and warm reset (R281, R282) -/

/-- The sectors that a descriptor has committed or delivered. -/
def State.reached (s : State) (d : Mwd) : Nat :=
  match d.stream with
  | some n => if d.issued && d.opKind == 0 then d.opFirst + min (s.seq n).sectorsCommitted d.opCount else d.done
  | none => d.done

/-- At the commit every accepted descriptor ends: ABORTED_POWERFAIL with its STARTED, or OK by a record of its own where its record was
deferred (R282). -/
def State.commitSweep (s : State) : List Mwd → State
  | [] => s
  | d :: rest =>
    let z := ((s.zoneAt d.surface d.track).map (·.2)).getD default
    let d := { d with batch := 0 }
    (if d.dstate = 3 then s.complete d { started := decide (d.op < 0x20), detail := d.deferred }
      else if d.dstate = 2 then s.complete d { status := 0x31, detail := d.detail z (s.reached d) }
      else s.completeIdle d 0x31).commitSweep rest

/-- The queues at a commit (R282): no scan, open batches gone, every descriptor in DSTATE 1–3 ended. -/
def State.commitQueues (s : State) : State :=
  let l := s.mq.descs
  let s := s.updMq (fun m => { m with openBatch := [], batches := [], descs := m.descs.map (fun d => { d with batch := 0 }) })
  (s.commitSweep l).mwqSync

/-- A record of the walk waits to be written (R281). -/
def State.oweRecord (s : State) (q slot : Nat) (bs : List Byte) (e : Ending) : State :=
  let d : Mwd := { queue := q, slot := slot, bytes := bs }
  s.updMq (fun m => { m with owed := m.owed ++ [(q, slot, s.recordBytes d e, d.flag 2)] })

/-- The slots of queue q that were accepted before the reset, from slot `at_` on (R281). How many sectors a READ_AHEAD in DSTATE 3 left
absent, Mire's table held, which is lost; that DETAIL is open. -/
def State.walkSlots (s : State) (q at_ : Nat) : Nat → State
  | 0 => s
  | fuel + 1 =>
    let slot := at_ % s.queueSlots q
    let s := match s.dramLoad (s.slotAddr q slot) 64 with
      | (some bs, s) =>
        let c := fieldAt bs 60 4
        if 2 ^ 31 ≤ c then s
        else match c / 2 ^ 28 with
          | 1 => s.oweRecord q slot (bs.take 60) { status := 0x30, started := false }
          | 2 => s.oweRecord q slot (bs.take 60) { status := 0x30, detail := 0xFFFF }
          | 3 =>
            let op := fieldAt bs 0 1
            let (v, t) := if op = 5 then s.draw 16 else (0, s)
            t.oweRecord q slot (bs.take 60) { started := decide (op < 0x20), detail := v }
          | _ => s
      | (none, s) => s
    s.walkSlots q (at_ + 1) fuel

/-- The run of posted slots of queue q from HEAD: accepted, then aborted (R281). -/
def State.walkPosted (s : State) (q : Nat) : Nat → State
  | 0 => s
  | fuel + 1 =>
    let h := s.get (.MWQ_HEAD_HEAD q)
    match s.dramLoad (s.slotAddr q h) 64 with
    | (some bs, s) =>
      if fieldAt bs 60 4 < 2 ^ 31 then s
      else
        let s := (s.setCtrl q h 1).set (.MWQ_HEAD_HEAD q) ((h + 1) % s.queueSlots q)
        (s.oweRecord q h (bs.take 60) { status := 0x30, started := false }).walkPosted q fuel
    | (none, s) => s

/-- Aqsia walks every enabled queue after a warm reset (R281) and writes the records as space allows. -/
def State.walkQueues (s : State) : State :=
  let s := (s.updMq (fun m => { m with orphans := [] })).forN 16 (fun q s => s.when (s.is (.MWQ_CFG_EN q)) (fun s =>
    (s.walkSlots q (s.get (.MWQ_HEAD_HEAD q)) (s.queueSlots q)).walkPosted q (s.queueSlots q)))
  (s.payOwed s.mq.owed).mwqSync

/-- What a warm reset takes from Mire's memory (R280): its table of descriptors, batches and cancels; rings and spill areas are held, and the
slots in DSTATE 1–3 stand as they are. -/
def State.resetQueuesMq (s : State) : State :=
  s.updMq (fun m => {
    spillAt := m.spillAt, spillIrq := m.spillIrq, nextId := m.nextId, nextBatch := m.nextBatch
    orphans := m.orphans ++ m.owed.map (fun e => (e.1, e.2.1)) ++ m.descs.map (fun d => (d.queue, d.slot)) })

end Sys2Proof.Machine
end

