-- ==== Sys2Proof/Machine/Mailbox.lean ====
section
/-! DEFINITION. Mailbox pairs, responses and sessions (09): what every command of the catalogue shares. -/

namespace Sys2Proof.Machine

/-- Aqsia's state changed. -/
def State.updAq (s : State) (f : Aqsia → Aqsia) : State := { s with aq := f s.aq }

/-- MBX_INFO.AQSIA_UP (R212). -/
def State.aqsiaUp (s : State) : Bool := s.is .MBX_INFO_AQSIA_UP

/-- Aqsia serves: it is up, and Mire is clocked (R32). -/
def State.aqsiaActs (s : State) : Bool := s.aqsiaUp && s.mireClock

/-! ### Buffers and latches (R207, R210) -/

/-- Byte `o` of pair p's request buffer. -/
def State.reqByte (s : State) (p o : Nat) : Byte := BitVec.ofNat 8 (s.get (.MBX_REQ_DATA p (o / 4)) / 2 ^ (8 * (o % 4)))

/-- `len` bytes of it from `off`. -/
def State.reqBytes (s : State) (p off len : Nat) : List Byte := (List.range len).map (fun i => s.reqByte p (off + i))

/-- The little-endian field of `len` bytes at `off`. -/
def State.req (s : State) (p off len : Nat) : Nat := leNat (s.reqBytes p off len)

/-- LEN of the request's payload. -/
def State.reqLen (s : State) (p : Nat) : Nat := s.req p 6 2

/-- The pair's state (R207): 0 FREE, 1 PENDING, 2 RUNNING, 3 DONE. -/
def State.mbx (s : State) (p : Nat) : Nat := s.get (.MBX_STAT_STATE p)

/-- SESSION and GEN as latched: what names the request's session. -/
def State.mbxKey (s : State) (p : Nat) : Nat × Nat := (s.get (.MBX_STAT_SESSION p), s.get (.MBX_LATCH_GEN_GEN p))

/-- CMD as latched. -/
def State.mbxCmd (s : State) (p : Nat) : Nat := s.get (.MBX_LATCH_CMD p)

/-- The client class of a pair (R205); 3 for the reserved pairs. -/
def pairClass (p : Nat) : Nat := if p < 48 then 0 else if p < 56 then 1 else if p < 60 then 2 else 3

/-- First session ID and number of IDs of a class (R205). -/
def classIds : Nat → Nat × Nat
  | 0 => (0, 216)
  | 1 => (216, 32)
  | 2 => (248, 8)
  | _ => (0, 0)

/-- Families permitted to a class (R205). -/
def familyOk (cls fam : Nat) : Bool :=
  if cls ≤ 1 then decide (1 ≤ fam) && decide (fam ≤ 11) else cls == 2 && (fam == 1 || fam == 7 || fam == 8 || fam == 11)

/-! ### Responses (R207, R210, R221) -/

/-- 64 words written to pair p's response buffer. -/
def State.putRsp (s : State) (p : Nat) (bs : List Byte) : State :=
  s.forN 64 (fun w s => s.set (.MBX_RSP_DATA p w) (fieldAt bs (4 * w) 4))

/-- MBX_DONE follows the pair's state. -/
def State.doneBit (s : State) (p : Nat) (on : Bool) : State :=
  let f := s.get (.MBX_DONE_DONE (p / 32))
  s.set (.MBX_DONE_DONE (p / 32)) (f - f / 2 ^ (p % 32) % 2 * 2 ^ (p % 32) + (if on then 2 ^ (p % 32) else 0))

/-- The response is written whole, then DONE sets (R207): STATUS is latched, and the Fen core named is interrupted for pairs 0–47. -/
def State.writeRsp (s : State) (p status : Nat) (started : Bool) (session gen : Nat) (payload : List Byte) : State :=
  let h := leBytes 2 (s.mbxCmd p) ++ leBytes 2 (s.get (.MBX_LATCH_TAG p)) ++ leBytes 2 status ++ leBytes 2 payload.length ++
    leBytes 4 gen ++ leBytes 1 session ++ leBytes 1 started.toNat ++ leBytes 2 0
  let s := ((s.putRsp p (h ++ payload)).set (.MBX_LATCH_RSP_STATUS p) status).setIf (.MBX_STAT_STARTED p) started
  let s := ((s.set (.MBX_STAT_CANCEL_REQ p) 0).set (.MBX_STAT_STATE p) 3).doneBit p true
  s.when (s.is (.MBX_CTRL_IRQ_EN p) && decide (p < 48)) (fun s => s.irqFen (s.get (.MBX_CTRL_CORE p)) (.mailbox p))

/-! ### Sessions (R212, R214) -/

/-- The open session with an ID. -/
def State.session (s : State) (id : Nat) : Option Session := s.aq.sessions.find? (fun x => x.id == id)

/-- The request of pair p names an open session (R216 check 2). -/
def State.sessionOpen (s : State) (p : Nat) : Bool :=
  match s.session (s.mbxKey p).1 with
  | some x => x.gen == (s.mbxKey p).2
  | none => false

/-- ID and GEN, which name a session (R212). -/
def Session.key (x : Session) : Nat × Nat := (x.id, x.gen)

/-- The session named changed. -/
def State.updSession (s : State) (key : Nat × Nat) (f : Session → Session) : State :=
  s.updAq (fun a => { a with sessions := a.sessions.map (fun x => if x.key = key then f x else x) })

/-- The lowest free ID of a class (R212). -/
def State.freeId (s : State) (cls : Nat) : Option Nat :=
  let (first, n) := classIds cls
  ((List.range n).map (first + ·)).find? (fun i => (s.session i).isNone)

/-- The inactive slot is marked invalid: an update stops early (R252). -/
def State.dropUpdate (s : State) : State :=
  let i := 1 - s.get .DYKE_SLOT_RUNNING
  let s := { s with dyke := { s.dyke with
    owner := none, total := 0, package := [], applied := false, slots := s.dyke.slots.upd i (fun x => { x with state := 3 }) } }
  s.set .DYKE_SLOT_INACTIVE 3

/-- What a session owned is given back (R242, R249, R251): its load, its freezes, its update. -/
def State.releaseOwned (s : State) (key : Nat × Nat) : State :=
  let s := s.when (decide (s.aq.load.map FLoad.owner = some key)) (fun s => s.updAq (fun a => { a with load := none }))
  let s := s.forN 10 (fun a s => s.when (s.aq.freezes.at a == some key) (fun s =>
    (s.unfreeze a).updAq (fun q => { q with freezes := q.freezes.put a none })))
  s.when (s.dyke.owner == some key) (fun s =>
    if s.dyke.applied then { s with dyke := { s.dyke with owner := none, applied := false } } else s.dropUpdate)

/-- A running request of the session remains. -/
def State.sessionBusy (s : State) (key : Nat × Nat) : Bool :=
  s.aq.running.any (fun e => s.mbxKey e.1 == key && s.mbxCmd e.1 != 0x0101)

/-- A request of the session is PENDING or RUNNING. -/
def State.sessionActive (s : State) (key : Nat × Nat) : Bool :=
  s.sessionBusy key || s.aq.ring.any (fun p => s.mbxKey p == key && s.mbxCmd p != 0x0101)

/-- Pair p leaves the requests that wait or run; a session that has closed gives back what it owned once none of its requests runs. -/
def State.dropRequest (s : State) (p : Nat) : State :=
  let key := s.mbxKey p
  let s := s.updAq (fun a => { a with
    ring := a.ring.filter (· ≠ p), toCancel := a.toCancel.filter (· ≠ p), running := a.running.filter (fun e => e.1 ≠ p)
    runs := a.runs.put p {} })
  let busy := s.aq.running.any (fun e => s.mbxKey e.1 == key)
  s.when (!(s.aq.sessions.any (fun x => x.key == key)) && !busy) (fun s => s.releaseOwned key)

/-- A response of pair p with the session's values of the request (R212). -/
def State.respond (s : State) (p status : Nat) (started : Bool) (payload : List Byte := []) : State :=
  (s.writeRsp p status started (s.mbxKey p).1 (s.mbxKey p).2 payload).dropRequest p

/-- The running command of pair p ends OK. -/
def State.respondOk (s : State) (p : Nat) (payload : List Byte := []) : State := s.respond p 0 true payload

/-- It ends with a status of its own, started. -/
def State.respondBad (s : State) (p status : Nat) (payload : List Byte := []) : State := s.respond p status true payload

/-- The waiting requests of a session that closes are answered (R214). -/
def State.answerClosed (s : State) (key : Nat × Nat) : List Nat → State
  | [] => s
  | p :: rest => (s.when (s.mbxKey p == key && s.mbxCmd p != 0x0101) (fun s => s.respond p 0x41 false)).answerClosed key rest

/-- A session closes (R214). -/
def State.closeSession (s : State) (x : Session) : State :=
  let s := s.updAq (fun a => { a with sessions := a.sessions.filter (fun y => y.id ≠ x.id) })
  let s := s.answerClosed x.key s.aq.ring
  s.when (!s.sessionBusy x.key) (fun s => s.releaseOwned x.key)

/-- Several sessions close. -/
def State.closeSessions (s : State) : List Session → State
  | [] => s
  | x :: rest => (s.closeSession x).closeSessions rest

/-- The command of pair p runs, and it is `cmd`: what its row does. -/
def State.onCommand (s : State) (p cmd : Nat) (f : State → State) : State :=
  if s.mbx p = 2 ∧ s.mbxCmd p = cmd ∧ s.aqsiaActs ∧ s.aq.running.any (fun e => e.1 == p) then f s else s

/-- Its progress. -/
def State.run (s : State) (p : Nat) : CmdRun := s.aq.runs.at p
def State.updRun (s : State) (p : Nat) (f : CmdRun → CmdRun) : State := s.updAq (fun a => { a with runs := a.runs.upd p f })

/-- CANCEL has been asked for it (R218). -/
def State.cancelAsked (s : State) (p : Nat) : Bool := s.is (.MBX_STAT_CANCEL_REQ p)

/-! ### Doorbells (R207, R208, R218) -/

/-- A doorbell write: Fen cores reach pairs 0–47 only (R206). -/
def State.doorbell (s : State) (who : Who) (p : Nat) (f : State → State) : State :=
  match who with
  | .fen core => if p < 48 then f s.ack else s.denied core
  | .mire => f s.ack

/-- A RING (R207): a FREE pair latches its header, and the request is accepted. -/
def State.ring (s : State) (p : Nat) : State :=
  if s.mbx p = 0 then
    let s := ((s.set (.MBX_LATCH_CMD p) (s.req p 0 2)).set (.MBX_LATCH_TAG p) (s.req p 2 2)).set (.MBX_LATCH_GEN_GEN p) (s.req p 8 4)
    let s := ((s.set (.MBX_STAT_SESSION p) (s.req p 12 1)).set (.MBX_STAT_STARTED p) 0).set (.MBX_STAT_CANCEL_REQ p) 0
    (s.set (.MBX_STAT_STATE p) 1).updAq (fun a => { a with ring := a.ring ++ [p], atReset := a.atReset.filter (· ≠ p) })
  else s.set (.MBX_STAT_DB_ERR p) 1

/-- An ACK (R207). -/
def State.ackPair (s : State) (p : Nat) : State :=
  if s.mbx p = 3 then (s.set (.MBX_STAT_STATE p) 0).doneBit p false else s.set (.MBX_STAT_DB_ERR p) 1

/-- A CANCEL (R218): a PENDING request is answered, as soon as Aqsia takes requests; a RUNNING one is asked to stop. -/
def State.cancelPair (s : State) (p : Nat) : State :=
  match s.mbx p with
  | 1 => if s.aqsiaActs then s.respond p 0x40 false else s.updAq (fun a => { a with toCancel := p :: a.toCancel.filter (· ≠ p) })
  | 2 => s.set (.MBX_STAT_CANCEL_REQ p) 1
  | _ => s

/-- RING (R207). -/
def execMbxRing (who : Who) (p : Nat) (s : State) : Host.Outcome State Fault Refusal := .next (s.doorbell who p (fun s => s.ring p))

/-- ACK (R207). -/
def execMbxAck (who : Who) (p : Nat) (s : State) : Host.Outcome State Fault Refusal := .next (s.doorbell who p (fun s => s.ackPair p))

/-- CANCEL (R218). -/
def execMbxCancel (who : Who) (p : Nat) (s : State) : Host.Outcome State Fault Refusal :=
  .next (s.doorbell who p (fun s => s.cancelPair p))

/-- SESSION_IDLE_TIMEOUT (R214): a session with a timeout, none of whose requests is PENDING or RUNNING. -/
def execSessionIdleTimeout (id : Nat) (s : State) : Host.Outcome State Fault Refusal :=
  match s.session id with
  | some x => .next (s.when (x.idle != 0 && !s.sessionActive x.key) (fun s => s.closeSession x))
  | none => .next s

/-! ### The session family (R213) -/

/-- AQSIA_VER (R213): 0x0304 and the build of the AQSIA part that runs. -/
def State.aqsiaVer (s : State) : Nat := 0x0304_0000 + s.get (.DYKE_VER_VERSION 2) % 65536

/-- SESSION_OPEN (R212, R213). -/
def execSessionOpen (p : Nat) (s : State) : Host.Outcome State Fault Refusal :=
  .next (s.onCommand p 0x0101 (fun s =>
    match s.freeId (pairClass p) with
    | some id =>
      let n := if s.aq.opens = 0xFFFF then 1 else s.aq.opens + 1
      let gen := s.get .MBX_EPOCH_PCC * 2 ^ 24 + s.get .MBX_EPOCH_WARM * 2 ^ 16 + n
      let x : Session := { id := id, gen := gen, cls := pairClass p, label := s.req p 20 4, idle := s.req p 16 2 }
      let s := s.updAq (fun a => { a with opens := n, sessions := a.sessions ++ [x] })
      let s := s.when (x.cls == 0) (fun s => { s with dyke := { s.dyke with hostSeen := true } })
      (s.writeRsp p 0 true id gen (leBytes 4 s.aqsiaVer ++ leBytes 1 (pairClass p) ++ leBytes 1 16 ++ leBytes 2 0)).dropRequest p
    | none => s.respond p 0x22 false))

/-- SESSION_CLOSE (R214): every earlier request of the session has its response, since a session's requests start in order (R215). -/
def execSessionClose (p : Nat) (s : State) : Host.Outcome State Fault Refusal :=
  .next (s.onCommand p 0x0102 (fun s =>
    match s.session (s.mbxKey p).1 with
    | some x => ((s.when (x.gen == (s.mbxKey p).2) (fun s => s.closeSession x))).respondOk p
    | none => s.respondOk p))

/-- SESSION_PING (R213). -/
def execSessionPing (p : Nat) (s : State) : Host.Outcome State Fault Refusal :=
  .next (s.onCommand p 0x0103 (fun s => s.respondOk p (leBytes 8 s.opt)))

end Sys2Proof.Machine
end

