-- ==== Sys2Proof/Machine/Catalogue.lean ====
section
/-! DEFINITION. What the catalogue (10) says of every command before it starts: its layout, the checks of R216, its claims and its
preconditions; REQUEST_START; the service port (R224–R226). -/

namespace Sys2Proof.Machine

/-! ### Layouts (R229) -/

/-- A command of the catalogue: LEN, the named fields as offset and size, and for a LEN that depends on a count N: where N stands, and
the bytes that each of it adds from offset 24; factory-only. -/
structure CmdRow where
  code : Nat
  len : Nat := 0
  fields : List (Nat × Nat) := []
  count : Option (Nat × Nat × Nat) := none
  factory : Bool := false
deriving DecidableEq, Repr

/-- The 55 commands. -/
def cmdTable : List CmdRow :=
  [ { code := 0x0101, len := 8, fields := [(16, 2), (20, 4)] }, { code := 0x0102 }, { code := 0x0103 },
    { code := 0x0201, len := 8, fields := [(16, 3), (20, 1), (21, 1), (22, 1)] }, { code := 0x0202 },
    { code := 0x0203, len := 4, fields := [(16, 1)] }, { code := 0x0204, len := 4, fields := [(16, 1)] },
    { code := 0x0205, len := 4, fields := [(16, 1)] }, { code := 0x0206 }, { code := 0x0207, len := 4, fields := [(16, 1)] },
    { code := 0x0208, len := 8, fields := [(16, 1), (18, 2)] }, { code := 0x0301 },
    { code := 0x0302, len := 8, fields := [(16, 2), (18, 1), (19, 1)], count := some (19, 1, 4), factory := true },
    { code := 0x0303, len := 16, fields := [(16, 1), (17, 1), (18, 2), (20, 4), (24, 4), (28, 2), (30, 2)] },
    { code := 0x0304, len := 56, fields := [(16, 1), (17, 1), (20, 2), (22, 2), (24, 48)] },
    { code := 0x0305, len := 4, fields := [(16, 1), (17, 1)] } ] ++
  [ { code := 0x0401, len := 4, fields := [(16, 1), (18, 2)] }, { code := 0x0402, len := 4, fields := [(16, 4)] },
    { code := 0x0403, len := 8, fields := [(16, 1), (17, 1), (18, 2), (20, 1)], factory := true },
    { code := 0x0404, len := 4, fields := [(16, 1)] }, { code := 0x0501, len := 8, fields := [(16, 2), (18, 2), (20, 2), (22, 1)] },
    { code := 0x0502, len := 8, fields := [(16, 2), (18, 2), (20, 1)], count := some (20, 1, 4) },
    { code := 0x0503, len := 4, fields := [(16, 2)] },
    { code := 0x0504, len := 12, fields := [(16, 2), (18, 1), (20, 2), (22, 2), (24, 2), (26, 2)] },
    { code := 0x0505, len := 4, fields := [(16, 2)] }, { code := 0x0506, len := 4, fields := [(16, 1)] },
    { code := 0x0601, len := 4, fields := [(16, 1)] }, { code := 0x0602 }, { code := 0x0603, len := 4, fields := [(16, 1)] },
    { code := 0x0701, len := 8, fields := [(16, 2), (18, 2)], count := some (18, 2, 1) },
    { code := 0x0702, len := 4, fields := [(16, 2)] }, { code := 0x0703, len := 8, fields := [(16, 2), (20, 4)] },
    { code := 0x0704, len := 4, fields := [(16, 2)] }, { code := 0x0705, len := 104, fields := [(16, 1), (24, 96)] },
    { code := 0x0706 } ] ++
  [ { code := 0x0801, len := 8, fields := [(16, 4)] },
    { code := 0x0802, len := 8, fields := [(16, 4), (20, 2)], count := some (20, 2, 1) }, { code := 0x0803 },
    { code := 0x0804, len := 4, fields := [(16, 1)] }, { code := 0x0805 }, { code := 0x0806 }, { code := 0x0807 }, { code := 0x0901 },
    { code := 0x0902, len := 4, fields := [(16, 2)] }, { code := 0x0903, len := 4, fields := [(16, 2)] }, { code := 0x0904 },
    { code := 0x0A01, len := 4, fields := [(16, 1)] }, { code := 0x0A02, len := 8, fields := [(16, 2), (18, 1)] },
    { code := 0x0A03, len := 8, fields := [(16, 2), (18, 1)], factory := true }, { code := 0x0A04, len := 4, fields := [(16, 2)] },
    { code := 0x0B01, len := 8, fields := [(16, 1), (20, 4)] }, { code := 0x0B02, len := 36, fields := [(16, 34)] },
    { code := 0x0B03 }, { code := 0x0B04, len := 8, fields := [(16, 2)], count := some (16, 2, 1) },
    { code := 0x0B05, len := 104, fields := [(24, 96)] } ]

/-- The row of a command code. -/
def cmdRow (cmd : Nat) : Option CmdRow := cmdTable.find? (fun r => r.code == cmd)

/-- The request's LEN is the row's, and no byte within it that no field names is set (R229). -/
def State.layoutOk (s : State) (p : Nat) (r : CmdRow) : Bool :=
  let extra := match r.count with | some (o, k, u) => s.req p o k * u | none => 0
  let named (o : Nat) : Bool := r.fields.any (fun f => decide (f.1 ≤ o) && decide (o < f.1 + f.2)) || (r.count.isSome && decide (24 ≤ o))
  s.reqLen p == r.len + extra && (List.range (min r.len 240)).all (fun i => named (16 + i) || s.reqByte p (16 + i) == 0)

/-! ### Values (R216 check 6) -/

/-- Factory test mode is in force. -/
def State.factory (s : State) : Bool := s.is .DYKE_STATUS_FACTORY

/-- The area that STREAM@16 and AREA@17 name (R248, R458). -/
def State.reqArea (s : State) (p : Nat) : Nat := 2 * s.req p 16 1 + s.req p 17 1

/-- The certificates, the quote, the last boot record (R255). -/
def attestObject (o : Nat) : Bool := decide (o ≤ 3) || o == 0x10 || o == 0x11

/-- The payload's values are valid for the command. -/
def State.valuesOk (s : State) (p cmd : Nat) : Bool :=
  let b (o : Nat) : Nat := s.req p o 1
  let h (o : Nat) : Nat := s.req p o 2
  let w (o : Nat) : Nat := s.req p o 4
  let range (lo v hi : Nat) : Bool := decide (lo ≤ v) && decide (v ≤ hi)
  match cmd with
  | 0x0101 => decide (h 16 ≤ 3600)
  | 0x0201 => decide (b 20 ≤ 1) && decide (b 21 ≤ 1) && decide (b 22 ≤ 1)
  | 0x0203 | 0x0204 | 0x0205 => decide (b 16 < 16)
  | 0x0207 => decide (b 16 < 4)
  | 0x0208 => decide (b 16 < 8)
  | 0x0302 => decide (h 16 < 64) && range 1 (b 19) 56 && decide (b 18 + b 19 ≤ 128)
  | 0x0303 => decide (b 16 < 4) && range 1 (b 17) 15 && range 1 (h 18) 0x3FF && range 1 (w 20) 0xF_FFFF && range 1 (w 24) 0xF_FFFF &&
      decide (1 ≤ h 28) && range 1 (h 30) 0x3FF
  | 0x0304 => decide (b 16 < 8)
  | 0x0305 => decide (b 16 < 4) && decide (b 17 < 2) && s.get (.TUS_SEC_CTRL_LANE_EN (b 16)) / 2 ^ b 17 % 2 == 1
  | 0x0401 => decide (b 16 < 24) && decide (h 18 < (Config.zones s.aq.chan (b 16)).length)
  | 0x0402 => decide (b 17 < 4) && decide (b 18 ≤ 15) && range 1 (b 19) 24
  | 0x0403 => decide (b 16 < 4) && decide (b 17 < 6) && decide (b 20 < 16) &&
      decide (h 18 < (Config.zones s.aq.chan (6 * b 16 + b 17)).length)
  | 0x0404 => decide (b 16 ≤ 4)
  | 0x0501 => range 1 (h 16) 0xFFFE && range 1 (h 18) 4096 && range 0x3000 (h 20) 0x3FFF && decide (b 22 ≤ 1)
  | 0x0502 => range 1 (b 20) 56
  | 0x0601 => decide (b 16 ≤ 4)
  | 0x0603 => b 16 % 2 == 1
  | 0x0701 => decide (0x8000 ≤ h 16) && decide (h 18 ≤ 232)
  | 0x0702 | 0x0704 => decide (b 16 ≤ 4) && decide (b 17 ≤ 1)
  | 0x0703 => decide (b 16 ≤ 4) && decide (b 17 ≤ 1) && w 20 % 4 == 0 && decide (w 20 ≤ s.get (.PEAT_AREA_BYTES_BYTES (s.reqArea p)))
  | 0x0705 => decide (b 16 < 32)
  | 0x0802 => range 1 (h 20) 232
  | 0x0804 => decide (b 16 ≤ 1)
  | 0x0902 => decide (b 16 < 8) && decide (b 17 < 4)
  | 0x0903 => decide (b 16 < 4) && decide (b 17 < 2)
  | 0x0A01 => decide (b 16 ≤ 31)
  | 0x0A02 => decide (b 18 < 32)
  | 0x0A03 => decide (1 ≤ b 18)
  | 0x0B01 => attestObject (b 16)
  | 0x0B04 => range 1 (h 16) 232
  | _ => true

/-- A factory-only field is set (R229). -/
def State.factoryField (s : State) (p cmd : Nat) : Bool :=
  (cmd == 0x0303 && decide (0x7B < s.req p 30 2)) || (cmd == 0x0304 && s.req p 16 1 / 4 == 1)

/-- Checks 1–6 of R216: the status of the first that fails. -/
def State.requestCheck (s : State) (p : Nat) : Option Nat :=
  let cmd := s.mbxCmd p
  let cls := pairClass p
  let fam := cmd / 256
  let opens := cmd == 0x0101
  if s.req p 4 2 ≠ 0 ∨ s.req p 14 2 ≠ 0 ∨ 2 ≤ s.req p 13 1 ∨ 240 < s.reqLen p then some 0x10
  else if opens && s.mbxKey p != (0, 0) then some 0x10
  else if opens && (s.freeId cls).isNone then some 0x22
  else if !opens && !s.sessionOpen p then some 0x20
  else if !opens && ((s.session (s.mbxKey p).1).map Session.cls) != some cls then some 0x21
  else match cmdRow cmd with
  | some r =>
    if !familyOk cls fam || (r.factory && !s.factory) then some 0x13
    else if !s.layoutOk p r then some 0x12
    else if s.factoryField p cmd && !s.factory then some 0x13
    else if !s.valuesOk p cmd then some 0x12
    else none
  | none => some (if familyOk cls fam then 0x11 else 0x13)

/-! ### Claims (R230) -/

/-- The sections of a mask. -/
def sectionsOf (mask : Nat) : List Nat := (List.range 4).filter (fun k => mask / 2 ^ k % 2 == 1)

/-- The loaded program with an ID. -/
def State.program (s : State) (id : Nat) : Option FProgram := s.aq.progs.find? (fun x => x.prog == id)

/-- The program is persisted. -/
def State.persisted (s : State) (id : Nat) : Bool := ((s.program id).map FProgram.persist).getD false

/-- What the request of pair p claims. -/
def State.claimsOf (s : State) (p : Nat) : List Claim :=
  let b := s.req p 16 1
  let secs (m : Nat) : List Claim := (sectionsOf m).map .sec
  let norw (c : Bool) : List Claim := if c then [.norw] else []
  match s.mbxCmd p with
  | 0x0201 | 0x0206 | 0x0208 => [.spn]
  | 0x0203 => .spn :: secs b
  | 0x0204 => secs b
  | 0x0301 | 0x0302 => [.stbl]
  | 0x0303 | 0x0403 => [.sec b]
  | 0x0304 => secs 15
  | 0x0501 => [.rcs]
  | 0x0503 => .rcs :: norw ((s.aq.load.map FLoad.persist).getD false)
  | 0x0504 | 0x0505 => .rcs :: norw (s.persisted (s.req p 16 2))
  | 0x0601 => .spn :: secs 15
  | 0x0705 | 0x0706 => [.norw]
  | 0x0801 | 0x0802 | 0x0803 | 0x0804 => [.upd, .norw]
  | 0x0806 | 0x0807 => [.upd]
  | 0x0902 | 0x0903 => [.tel]
  | 0x0B02 | 0x0B04 => [.att]
  | _ => []

/-- Two claims share a resource. -/
def clash (a b : List Claim) : Bool := a.any (fun c => decide (c ∈ b))

/-- What running commands claim. -/
def State.claimed (s : State) : List Claim := s.aq.running.flatMap (·.2)

/-! ### Preconditions (R216 check 7, R231) -/

/-- The spindle stands in FAULT or SHORT. -/
def State.motorFault (s : State) : Bool := s.spinIs 8 || s.spinIs 9

/-- AT_SPEED is set and Tide is LOCKED or SINGLE. -/
def State.spindleReady (s : State) : Bool := s.is .WTH_SPN_STATUS_AT_SPEED && s.tideLocked

/-- A ledger entry is FILLING, HELD or WRITING (R247, R317). -/
def State.cacheBusy (s : State) : Bool := s.slu.ledger.any (fun e => e.2.state == 1 || e.2.state == 2 || e.2.state == 3)

/-- Programs that overlap an address range. -/
def State.overlaps (s : State) (addr count : Nat) : Bool :=
  s.aq.progs.any (fun x => decide (x.addr < addr + count) && decide (addr < x.addr + x.words.length))

/-- The session of pair p owns the load, and its program is the one named. -/
def State.loadOf (s : State) (p : Nat) : Option FLoad :=
  match s.aq.load with
  | some l => if l.owner = s.mbxKey p ∧ l.prog = s.req p 16 2 then some l else none
  | none => none

/-- The session of pair p holds the freeze of the area that it names (R249). -/
def State.holdsFreeze (s : State) (p : Nat) : Bool :=
  s.frozen (s.reqArea p) && s.aq.freezes.at (s.reqArea p) == some (s.mbxKey p)

/-- The session of pair p holds a challenge of at most 60 s (R232). -/
def State.challengeOf (s : State) (p : Nat) : Option (BitVec 256) :=
  match (s.session (s.mbxKey p).1).bind Session.challenge with
  | some (c, t) => if s.opt ≤ t + 60000 then some c else none
  | none => none

/-- The running image has completed a boot (R441, R452). -/
def State.booted (s : State) : Bool := !s.is .DYKE_BOOT_TRIAL || s.dyke.completed

/-- The status of the precondition that fails; `emf` is the spindle's back-EMF. -/
def State.precondition (s : State) (p emf : Nat) : Option Nat :=
  let key := s.mbxKey p
  let h (o : Nat) : Nat := s.req p o 2
  match s.mbxCmd p with
  | 0x0201 => if s.req p 21 1 = 0 ∧ !s.allParked then some 0x0101 else if s.motorFault then some 0x0103 else none
  | 0x0203 => if s.spindleReady then none else some 0x0100
  | 0x0206 => if s.motorFault && !s.atRest emf then some 0x0104 else none
  | 0x0403 => if !s.spindleReady then some 0x0100 else if s.parkedSec (s.req p 16 1) then some 0x0102 else none
  | 0x0501 =>
    if s.aq.load.any (fun l => l.owner != key) then some 0x0107
    else if s.overlaps (h 20) (h 18) || decide (64 ≤ s.aq.progs.length) then some 0x0121 else none
  | 0x0502 => match s.loadOf p with
    | some l => if h 18 = l.words.length ∧ h 18 + s.req p 20 1 ≤ l.count then none else some 0x0106
    | none => some 0x0106
  | 0x0503 => match s.loadOf p with
    | some l => if l.words.length = l.count then none else some 0x0106
    | none => some 0x0106
  | 0x0504 => if h 16 = 0 ∨ (s.program (h 16)).isSome then none else some 0x0122
  | 0x0505 => if (s.program (h 16)).isSome then none else some 0x0122
  | 0x0601 =>
    if 2 ≤ s.req p 16 1 ∧ s.cacheBusy then some 0x0130 else if s.req p 16 1 ≠ 4 ∧ s.motorFault then some 0x0103 else none
  | 0x0702 => match s.aq.freezes.at (s.reqArea p) with
    | some g => if g ≠ key ∧ s.frozen (s.reqArea p) then some 0x0107 else none
    | none => none
  | 0x0703 | 0x0704 => if s.holdsFreeze p then none else some 0x0140
  | 0x0705 => if (s.challengeOf p).isSome then none else some 0x0151
  | 0x0801 =>
    if s.dyke.owner.any (· != key) then some 0x0107
    else if !s.is .DYKE_SLOT_CONFIRMED || s.get .DYKE_SLOT_POINTED != s.get .DYKE_SLOT_RUNNING then some 0x0106 else none
  | 0x0802 =>
    if s.dyke.owner = some key ∧ s.req p 16 4 = s.dyke.package.length ∧ s.req p 16 4 + h 20 ≤ s.dyke.total then none else some 0x0106
  | 0x0803 => if s.dyke.owner = some key ∧ s.dyke.package.length = s.dyke.total then none else some 0x0106
  | 0x0804 => if s.dyke.owner = some key ∧ s.dyke.applied then none else some 0x0106
  | 0x0807 => if s.booted then none else some 0x0165
  | 0x0A02 => match sourceRow (h 16) with
    | some x => if x.fixed then some 0x0170 else none
    | none => some 0x0171
  | 0x0A03 => if (sourceRow (h 16)).isSome then none else some 0x0171
  | 0x0A04 => if h 16 = 0xFFFF ∨ (sourceRow (h 16)).isSome then none else some 0x0171
  | 0x0B05 => if !s.is .DYKE_STATUS_STRAP then some 0x0152 else if (s.challengeOf p).isSome then none else some 0x0151
  | _ => none

/-! ### Starting a request (R215, R217, R223) -/

/-- Families that a provisional window holds (R223). -/
def heldFamily (fam : Nat) : Bool := fam == 2 || fam == 5 || fam == 6 || fam == 8

/-- The first request in RING order that Aqsia can act on: cancelled; the first of its session, its session's previous request answered,
and either failing a check, or free to claim what no running command claims. -/
def State.actionable (s : State) : List Nat → List (Nat × Nat) → Option Nat
  | [], _ => none
  | p :: rest, before =>
    let key := s.mbxKey p
    let opens := s.mbxCmd p == 0x0101
    let before' := if opens then before else key :: before
    if decide (p ∈ s.aq.toCancel) || s.committed then some p
    else if !opens && (decide (key ∈ before) || s.sessionBusy key) then s.actionable rest before'
    else if s.get .WEIR_STATUS_PF = 1 ∧ heldFamily (s.mbxCmd p / 256) then s.actionable rest before'
    else if (s.requestCheck p).isSome then some p
    else
      let c := s.claimsOf p
      if clash c s.claimed && s.req p 13 1 % 2 == 1 then some p
      else if !clash c s.claimed && decide (s.aq.running.length < 16) then some p
      else s.actionable rest before'

/-- Requests that a commit ended are listed in a record of Peat's power stream (R223). -/
def State.abortRecord (s : State) (l : List Nat) : State :=
  let entry (p : Nat) : List Byte :=
    leBytes 1 p ++ [0] ++ leBytes 2 (s.mbxCmd p) ++ leBytes 2 (s.get (.MBX_LATCH_TAG p)) ++ leBytes 2 0x51
  s.when (!l.isEmpty) (fun s => s.peatRecord 2 0x0203 (leBytes 2 l.length ++ leBytes 2 0 ++ l.flatMap entry))

/-- A command that a challenge signs (R232). -/
def signedCode (cmd : Nat) : Bool := cmd == 0x0705 || cmd == 0x0B05

/-- What the request of pair p uses up of its session whatever its outcome: a signed command its challenge (R232), FPROG_COMMIT the load
where it is not one that goes on to check it (R242). -/
def State.useUp (s : State) (p : Nat) : State :=
  let key := s.mbxKey p
  let s := s.when (signedCode (s.mbxCmd p)) (fun s => s.updSession key (fun x => { x with challenge := none }))
  s.when (s.mbxCmd p == 0x0503 && decide (s.aq.load.map FLoad.owner = some key)) (fun s => s.updAq (fun a => { a with load := none }))

/-- Aqsia acts on the PENDING request of pair p. What another client's or no session's request names is not its own to use up. -/
def State.take (s : State) (p emf : Nat) : State :=
  if s.mbx p ≠ 1 then s
  else if p ∈ s.aq.toCancel then s.respond p 0x40 false
  else if s.committed then (s.respond p 0x51 false).abortRecord [p]
  else match s.requestCheck p with
  | some st => (s.when (st != 0x20 && st != 0x21) (fun s => s.useUp p)).respond p st false
  | none =>
    if clash (s.claimsOf p) s.claimed then (s.useUp p).respond p 0x31 false
    else
      match s.precondition p emf with
      | some st => (s.useUp p).respond p st false
      | none =>
        let c := s.claimsOf p
        let r : CmdRun := { challenge := if signedCode (s.mbxCmd p) then s.challengeOf p else none }
        let s := s.when (signedCode (s.mbxCmd p)) (fun s => s.useUp p)
        ((s.set (.MBX_STAT_STATE p) 2).set (.MBX_STAT_STARTED p) 1).updAq (fun a => { a with
          ring := a.ring.filter (· ≠ p), running := a.running ++ [(p, c)], runs := a.runs.put p r })

/-- REQUEST_START (R215–R218, R223): `emf` is the spindle's back-EMF, which MOTOR_CLEAR is judged by. -/
def execRequestStart (emf : Nat) (s : State) : Host.Outcome State Fault Refusal :=
  .next (if s.aqsiaActs then match s.actionable s.aq.ring [] with
    | some p => s.take p emf
    | none => s
  else s)

/-! ### The service port (R224–R226) -/

/-- CRC-16 with polynomial 0x1021, one bit of the message shifted in at the top. -/
def crc16Bit (c : BitVec 16) : BitVec 16 := if c.msb then (c <<< 1) ^^^ 0x1021 else c <<< 1

/-- One byte, most significant bit first. -/
def crc16Byte (c : BitVec 16) (b : Byte) : BitVec 16 :=
  (List.range 8).foldl (fun c _ => crc16Bit c) (c ^^^ (b.setWidth 16 <<< 8))

/-- The CRC of R224: initial value 0xFFFF, no final XOR. -/
def crc16 (bs : List Byte) : Nat := (bs.foldl crc16Byte 0xFFFF).toNat

/-- The port serves transactions: not in a warm reset (R226), nor with its clock gated (R32). -/
def State.portServes (s : State) : Bool := !s.warmBusy && s.domainOn 98

/-- A transaction is discarded (R225). -/
def State.svcErr (s : State) (e : Nat) : State := s.updAq (fun a => { a with lastErr := e })

/-- SVC_RDY (R226). -/
def State.svcRdy (s : State) : Bool :=
  s.aqsiaUp && !s.powerFailing && !(List.range 8).all (fun k => s.mbx (48 + k) == 1 || s.mbx (48 + k) == 2)

/-- What the port sends: `out` after the opcode and the bytes that the host sent, with its CRC. -/
def State.svcSend (s : State) (sent out : List Byte) : State :=
  s.updAq (fun a => { a with sent := out ++ leBytes 2 (crc16 (sent ++ out)) })

/-- A transaction of the host whose bytes after the opcode are `bytes`, `len` of them under the CRC that ends it: LAST_ERR of a
transaction that is cut short or fails its CRC. -/
def frameErr (opcode len : Nat) (bytes : List Byte) : Option Nat :=
  if bytes.length < len + 2 then some 5
  else if fieldAt bytes len 2 ≠ crc16 (BitVec.ofNat 8 opcode :: bytes.take len) then some 1
  else none

/-- SVC_REQUEST (R224, R225): `bytes` are SLOT, LEN, the request and the CRC. -/
def execSvcRequest (bytes : List Byte) (s : State) : Host.Outcome State Fault Refusal :=
  let slot := fieldAt bytes 0 1
  let len := fieldAt bytes 1 2
  let p := 48 + slot
  if !s.portServes then .next s
  else if bytes.length < 3 then .next (s.svcErr 5)
  else match frameErr 0x01 (3 + len) bytes with
  | some e => .next (s.svcErr e)
  | none =>
    if 7 < slot ∨ len < 16 ∨ 256 < len then .next (s.svcErr 2)
    else if s.mbx p ≠ 0 then .next (s.svcErr 3)
    else if s.powerFailing then .next (s.svcErr 4)
    else
      let body := (bytes.drop 3).take len
      let whole := body ++ s.reqBytes p len (256 - len)
      .next ((s.forN 64 (fun w s => s.set (.MBX_REQ_DATA p w) (fieldAt whole (4 * w) 4))).ring p)

/-- SVC_RESPONSE (R224, R225), or one that SVC_CS_N cuts short. -/
def execSvcResponse (slot : Nat) (cut : Bool) (s : State) : Host.Outcome State Fault Refusal :=
  let head : List Byte := [0x02, BitVec.ofNat 8 slot]
  let p := 48 + slot
  if !s.portServes then .next s
  else if cut then .next (s.svcErr 5)
  else if 7 < slot then .next (s.svcErr 2)
  else if s.mbx p = 3 then
    let rsp := (List.range 64).flatMap (fun w => leBytes 4 (s.get (.MBX_RSP_DATA p w)))
    let n := 16 + fieldAt rsp 6 2
    .next (s.svcSend head (leBytes 2 n ++ rsp.take n))
  else .next ((s.svcSend head (leBytes 2 0)).svcErr 3)

/-- An ACK or a CANCEL of a slot (R224). -/
def State.svcSlot (s : State) (opcode : Nat) (bytes : List Byte) (f : Nat → State → State) : State :=
  let slot := fieldAt bytes 0 1
  if !s.portServes then s
  else match frameErr opcode 1 bytes with
  | some e => s.svcErr e
  | none => if 7 < slot then s.svcErr 2 else f (48 + slot) s

/-- SVC_ACK (R224, R225). -/
def execSvcAck (bytes : List Byte) (s : State) : Host.Outcome State Fault Refusal :=
  .next (s.svcSlot 0x03 bytes (fun p s => if s.mbx p = 3 then s.ackPair p else s.svcErr 3))

/-- SVC_CANCEL (R224). -/
def execSvcCancel (bytes : List Byte) (s : State) : Host.Outcome State Fault Refusal :=
  .next (s.svcSlot 0x05 bytes (fun p s => s.cancelPair p))

/-- SVC_STATUS (R224, R225): STATES, LAST_ERR, FLAGS; LAST_ERR is cleared, unless SVC_CS_N cuts the transaction short. -/
def execSvcStatus (cut : Bool) (s : State) : Host.Outcome State Fault Refusal :=
  if !s.portServes then .next s
  else if cut then .next (s.svcErr 5)
  else
    let states := (List.range 8).foldl (fun n k => n + s.mbx (48 + k) * 4 ^ k) 0
    let flags := s.svcRdy.toNat + 2 * s.powerFailing.toNat + 4 * s.aqsiaUp.toNat
    .next ((s.svcSend [0x04] (leBytes 2 states ++ leBytes 1 s.aq.lastErr ++ leBytes 1 flags)).svcErr 0)

/-- PORT_RESET (R214, R224): every service-port session closes. -/
def execPortReset (bytes : List Byte) (s : State) : Host.Outcome State Fault Refusal :=
  if !s.portServes then .next s
  else match frameErr 0x0F 0 bytes with
  | some e => .next (s.svcErr e)
  | none => .next (s.closeSessions (s.aq.sessions.filter (fun x => x.cls == 1)))

/-- SVC_UNKNOWN_OPCODE (R225). -/
def execSvcUnknownOpcode (s : State) : Host.Outcome State Fault Refusal := .next (s.when s.portServes (fun s => s.svcErr 2))

end Sys2Proof.Machine
end

