-- ==== Sys2Proof/Machine/SectionCmds.lean ====
section
/-! DEFINITION. The section and motor family (R234–R237) and the power family (R245–R247) of the catalogue, with the loads, unloads and
spindle settings that they share with the start sequence. -/

namespace Sys2Proof.Machine

/-- The register that holds a field. -/
def State.wordOf (s : State) (f : Fld) : Nat := (s.regAt f.addr).toNat

/-! ### The spindle's settings -/

/-- WTH_SPN_SPEED is written (R65, R70). -/
def State.setSpeed (s : State) (v : Nat) : State := (s.set .WTH_SPN_SPEED_SPEED v).retarget

/-- SPINDLE_SET (R234): the settings are also the service target and source (R246). With WAIT it responds at AT_SPEED, or in IDLE. -/
def execSpindleSet (p : Nat) (s : State) : Host.Outcome State Fault Refusal :=
  .next (s.onCommand p 0x0201 (fun s =>
    let run := s.req p 21 1 == 1
    let s := s.when ((s.run p).phase == 0) (fun s =>
      let s := s.updAq (fun a => { a with target := s.req p 16 3, src := s.req p 20 1 })
      let s := (s.setSpeed (s.req p 16 3)).setSource (s.req p 20 1)
      (if run then s.runStart else s.runStop).updRun p (fun r => { r with phase := 1 }))
    if s.req p 22 1 = 0 then s.respondOk p
    else if (run && s.is .WTH_SPN_STATUS_AT_SPEED) || (!run && s.spinIs 0) then s.respondOk p
    else if s.cancelAsked p then s.respondBad p 0x40
    else s))

/-- SPINDLE_STATUS (R234). -/
def execSpindleStatus (p : Nat) (s : State) : Host.Outcome State Fault Refusal :=
  .next (s.onCommand p 0x0202 (fun s => s.respondOk p (leBytes 4 (s.wordOf .WTH_SPN_STATUS_STATE) ++
    leBytes 4 (s.wordOf .WTH_SPN_MEAS_SPEED) ++ leBytes 4 (s.wordOf .WTH_SPN_KE_KE_NOM) ++ leBytes 4 (s.wordOf .TIDE_STATUS_STATE))))

/-- MOTOR_CLEAR (R60, R234): CLR_FAULT, which acts in FAULT or SHORT, at or below the rest threshold. -/
def execMotorClear (p emf : Nat) (s : State) : Host.Outcome State Fault Refusal :=
  .next (s.onCommand p 0x0206 (fun s => (s.clearFault emf).respondOk p))

/-- ENC_SYNC_SET (R234). -/
def execEncSyncSet (p : Nat) (s : State) : Host.Outcome State Fault Refusal :=
  .next (s.onCommand p 0x0208 (fun s =>
    let f := s.req p 16 1
    let t := ((s.set .TIDE_CTRL_ESO_EN f).set .TIDE_CTRL_ESI_EN (f / 2)).set .TIDE_CTRL_ESI_PHASE_EN (f / 4)
    ((t.set .TIDE_ESI_PHASE_OFFSET (s.req p 18 2)).esiControl s).respondOk p))

/-! ### Loading and parking (R235–R237) -/

/-- Section k is load-ed: Aqsia sets EN and enables both lanes, which start afresh (R89, R235). -/
def State.startLoad (s : State) (k : Nat) : State :=
  let s := ((s.enableVcm k).set (.TUS_SEC_CTRL_LANE_EN k) 3).set (.TUS_SEEK_STATUS_SETTLED k) 0
  let s := (s.set (.TUS_SEEK_STATUS_SEEKING k) 0).set (.TUS_SEEK_STATUS_HINT_ACTIVE k) 0
  let s := s.updSec k (fun x => { x with seek := { x.seek with cmd := none, moving := false, settle := 0 } })
  let s := s.forN 2 (fun i s => s.laneOff (2 * k + i))
  s.updMq (fun m => { m with noStart := m.noStart.put k false })

/-- Its load ends (R235): it track-follows the first track on which its primary lane locks, from its first valid PES on (R89), which `lock`
gives as a position word where no wedge has brought it yet (DESIGN CHOICE); without lock within 50 ms it is retracted (R79). A section that
a retract has taken meanwhile counts as failed. Answers whether it is loaded. -/
def State.endLoad (s : State) (k : Nat) (lock : Option Nat) : Bool × State :=
  if s.parkedSec k || s.is (.WTH_VCM_STATUS_RET_ACTIVE k) then (false, s)
  else match lock with
  | some t =>
    let i := s.get (.TUS_SEC_CTRL_PRI_SLOT k)
    let s := s.updLane (2 * k + i) (fun l => if l.started then l else { l with started := true, r := posOf (BitVec.ofNat 32 t) })
    let s := (s.set (.TUS_SEC_STATUS_MISS0 k) 0).set (.TUS_SEC_STATUS_MISS1 k) 0
    (true, s.mwqSync)
  | none => (false, s.startRetract k)

/-- The section has parked: SEEK_HINTs that wait or run end CANCELLED (R237). -/
def State.hintsParked (s : State) : List Mwd → State
  | [] => s
  | d :: rest =>
    (s.when (d.op == 8 && decide (d.dstate ≤ 2)) (fun s =>
      if d.dstate = 1 then s.completeIdle d 0x32 else s.complete d { status := 0x32 })).hintsParked rest

/-- What Mire does once section k reads PARKED. -/
def State.sectionParked (s : State) (k : Nat) : State := (s.hintsParked (s.mq.descs.filter (fun d => d.sec = k))).mwqSync

/-- Mire, where it acts, meets a section that may have parked on its own. -/
def State.parkSeen (s : State) (k : Nat) : State := s.when (s.mireActs && s.parkedSec k) (fun s => s.sectionParked k)

/-- RETRACT_END (R80 step 5, R237, R284). Once the last retract that a lost commutation logic left behind has ended, the power-control die
turns the spindle's FETs off (R61). -/
def execRetractEnd (k : Nat) (s : State) : Host.Outcome State Fault Refusal :=
  .next (s.when (decide (s.withy.retract.at k = .hold)) (fun s =>
    let s := { s with withy := { s.withy with retract := s.withy.retract.put k .none } }
    let s := ((s.bridgeOff k).set (.WTH_VCM_STATUS_RET_ACTIVE k) 0).set (.WTH_VCM_STATUS_PARKED k) 1
    let s := s.parkSeen k
    s.when (s.withy.dieOff && s.withy.retract.isEmpty) (fun s =>
      { s.bridgeTo .off with withy := { (s.bridgeTo .off).withy with dieOff := false } })))

/-- PARK (R84, R237). -/
def execPark (k : Nat) (s : State) : Host.Outcome State Fault Refusal :=
  .next ((s.ack.park k).parkSeen k)

/-- VCM_ENABLE (R84). -/
def execVcmEnable (k : Nat) (s : State) : Host.Outcome State Fault Refusal := .next ((s.ack.enableVcm k).mwqSync)

/-- Mire starts no new operation on the sections (R236 step 1). -/
def State.holdSections (s : State) (l : List Nat) : State :=
  s.updMq (fun m => { m with noStart := l.foldl (fun t k => t.put k true) m.noStart })

/-- Sections are unloaded under servo control (R236 step 3): one whose unload stalls at the ramp within 300 ms parks, another is
retracted (R79). `stalls` is the mask of those that stall in time. -/
def State.unload (s : State) (stalls : Nat) : List Nat → State
  | [] => s
  | k :: rest =>
    (if s.parkedSec k then s else if stalls / 2 ^ k % 2 = 1 then s.park k else s.startRetract k).unload stalls rest

/-- The mask of sections. -/
def maskOf (l : List Nat) : Nat := (l.map (2 ^ ·)).sum

/-- Every one of the sections is parked, and no retract of one runs. -/
def State.parkedAll (s : State) (l : List Nat) : Bool := l.all (fun k => s.parkedSec k && !s.is (.WTH_VCM_STATUS_RET_ACTIVE k))

/-- TIDE_TIMING_LOST (R46): after 64 revolutions in HOLDOVER and failed reacquisitions, or once no section is track-following, Tide enters
FREE, and Aqsia, where it runs, parks every section: it starts no new operation on any and unloads each. -/
def execTideTimingLost (stalls : Nat) (s : State) : Host.Outcome State Fault Refusal :=
  .next (s.when (s.get .TIDE_STATUS_STATE == 5 &&
      (decide (64 ≤ s.tide.holdRevs) || (List.range 4).all (fun k => !s.trackFollowing k))) (fun s =>
    (s.tideFree.raise 0x0305).when s.mireActs (fun s =>
      (List.range 4).foldl (fun s k => s.sectionParked k) ((s.holdSections (List.range 4)).unload stalls (List.range 4)))))

/-- SECTION_PARK (R236). -/
def execSectionPark (p stalls : Nat) (s : State) : Host.Outcome State Fault Refusal :=
  .next (s.onCommand p 0x0204 (fun s =>
    let l := sectionsOf (s.req p 16 1)
    let s := s.holdSections l
    let s := s.when ((s.run p).phase == 0 && l.all s.lanesIdle) (fun s =>
      let bad := l.filter (fun k => !s.parkedSec k && stalls / 2 ^ k % 2 == 0)
      (s.unload stalls l).updRun p (fun r => { r with phase := 1, bad := maskOf bad }))
    if (s.run p).phase = 1 ∧ s.parkedAll l then
      (l.foldl (fun s k => s.sectionParked k) s).respondOk p (leBytes 1 (maskOf l) ++ leBytes 1 (s.run p).bad ++ leBytes 2 0)
    else s))

/-- RETRACT (R79, R237, R278): Mire kills what runs on the section's streams; it responds once the sections are parked. -/
def execRetract (p : Nat) (s : State) : Host.Outcome State Fault Refusal :=
  .next (s.onCommand p 0x0205 (fun s =>
    let l := sectionsOf (s.req p 16 1)
    let s := s.when ((s.run p).phase == 0) (fun s =>
      (l.foldl (fun s k => ((s.terminate (2 * k) 1 0).terminate (2 * k + 1) 1 0).startRetract k) s).updRun p
        (fun r => { r with phase := 1 }))
    if s.parkedAll l then (l.foldl (fun s k => s.sectionParked k) s).respondOk p else s))

/-- Section k can be loaded: its preamplifier's link and the timing preamplifier's have not failed (R479, R502). -/
def State.loadable (s : State) (k : Nat) : Bool := (s.link k).state != 2 && (s.link 4).state != 2

/-- One step of a sequence of loads that pair p runs: the section that loads ends its load, and the next one of those still to do
starts, unless a command with a cancel point there `stops`. -/
def State.loadStep (s : State) (p : Nat) (lock : Option Nat) (stops : Bool) : State :=
  let r := s.run p
  let s := match r.cur with
    | some k =>
      let (ok, s) := s.endLoad k lock
      s.updRun p (fun r => { r with cur := none, good := r.good + (if ok then 2 ^ k else 0), bad := r.bad + (if ok then 0 else 2 ^ k) })
    | none => s
  if stops && s.cancelAsked p then s
  else match sectionsOf r.todo with
  | k :: rest =>
    let s := s.updRun p (fun r => { r with todo := maskOf rest })
    if s.loadable k then (s.startLoad k).updRun p (fun r => { r with cur := some k })
    else s.updRun p (fun r => { r with bad := r.bad + 2 ^ k })
  | [] => s

/-- SECTION_LOAD (R235): each execution ends one section's load, at `lock`, and starts the next one's. -/
def execSectionLoad (p : Nat) (lock : Option Nat) (s : State) : Host.Outcome State Fault Refusal :=
  .next (s.onCommand p 0x0203 (fun s =>
    let s := s.when ((s.run p).phase == 0) (fun s =>
      let l := (sectionsOf (s.req p 16 1)).filter (fun k => s.parkedSec k)
      s.updRun p (fun r => { r with phase := 1, todo := maskOf l }))
    let s := s.loadStep p lock true
    let r := s.run p
    let out := leBytes 1 (maskOf ((sectionsOf (s.req p 16 1)).filter (fun k => !s.parkedSec k && r.bad / 2 ^ k % 2 == 0 && r.todo / 2 ^ k % 2 == 0))) ++
      leBytes 1 r.bad ++ leBytes 2 0
    if r.cur.isSome then s
    else if r.todo ≠ 0 then s.when (s.cancelAsked p) (fun s => s.respondBad p 0x40 out)
    else if r.bad ≠ 0 then s.respondBad p 0x0105 out
    else s.respondOk p out))

/-- SECTION_STATUS (R234): REF is the primary lane's reference, in TUS_SEEK_TGT layout. -/
def execSectionStatus (p : Nat) (s : State) : Host.Outcome State Fault Refusal :=
  .next (s.onCommand p 0x0207 (fun s =>
    let k := s.req p 16 1
    let ref := ((s.lane (2 * k + s.get (.TUS_SEC_CTRL_PRI_SLOT k))).r.fdiv (2 ^ 38) % 2 ^ 32).toNat
    s.respondOk p (leBytes 4 (s.wordOf (.WTH_VCM_STATUS_PARKED k)) ++ leBytes 4 (s.wordOf (.TUS_SEC_STATUS_SAT k)) ++
      leBytes 4 (s.wordOf (.TUS_SEEK_STATUS_SETTLED k)) ++ leBytes 4 ref)))

/-! ### Power states (R245–R247) -/

/-- The start sequence ends with a result (R482–R484, R488). -/
def State.endStart (s : State) (result : Nat) : State :=
  if s.aq.starting then
    let loaded := (List.range 4).filter (fun k => !s.parkedSec k)
    let s := ((s.set .MBX_START_RESULT result).set .MBX_START_LOADED (maskOf loaded)).set .MBX_START_FAILED (15 - maskOf loaded)
    (s.updAq (fun a => { a with starting := false, toLoad := [], loading := none, again := [], bandCheck := false })).updMq
      (fun m => { m with bandHold := false })
  else s

/-- The power state whose conditions hold (R246), with ASCALE as the register holds it: the state that a command which stopped has reached;
the one before where none does. -/
def State.psReached (s : State) : Nat :=
  let x := s.get .TUS_SEEK_GLOBAL_ASCALE
  let a := if x = 0 ∨ 256 < x then 256 else x
  let parked := s.allParked
  let loaded := (List.range 4).all (fun k => !s.parkedSec k || !s.loadable k)
  let run := s.is .WTH_SPN_CTRL_RUN
  let v := s.get .WTH_SPN_SPEED_SPEED
  if !run && parked then 4
  else if run && parked && a == 0x100 && v == s.aq.target then 2
  else if run && loaded && a == 0x80 && v == 0x54_6000 then 3
  else if run && loaded && a == 0x80 && v == s.aq.target then 1
  else if run && loaded && a == 0x100 && v == s.aq.target then 0
  else s.aq.ps

/-- The spindle step of the power-state table (R246 step 3); exits from PS3 and PS4 run with IRUN, RATE and RACC raised until AT_SPEED
sets. -/
def State.psSpindle (s : State) (target : Nat) : State :=
  if target = 4 then s.runStop
  else
    let s := s.when (target == 3) (fun s => s.setSource 0)
    let s := s.when (decide (3 ≤ s.aq.ps) && target != s.aq.ps && s.aq.restore.isNone) (fun s =>
      let s := s.updAq (fun a => { a with
        restore := some (s.get .WTH_SPN_CUR_IRUN, s.get .TUS_SPN_PROF_RATE, s.get .TUS_SPN_PROF_RACC) })
      ((s.set .WTH_SPN_CUR_IRUN 0xC8).set .TUS_SPN_PROF_RATE 1000).set .TUS_SPN_PROF_RACC 2000)
    let s := s.setSpeed (if target = 3 then 0x54_6000 else s.aq.target)
    if s.is .WTH_SPN_CTRL_RUN && !s.spinIs 0 then s else s.runStart

/-- The spindle step has reached its end. -/
def State.psSpun (s : State) (target : Nat) : Bool :=
  if target = 4 then s.spinIs 0 || s.motorFault else s.is .WTH_SPN_STATUS_AT_SPEED

/-- IRUN, RATE and RACC are restored once AT_SPEED sets. -/
def State.psRestore (s : State) : State :=
  match s.aq.restore with
  | some (i, r, a) =>
    (((s.set .WTH_SPN_CUR_IRUN i).set .TUS_SPN_PROF_RATE r).set .TUS_SPN_PROF_RACC a).updAq (fun q => { q with restore := none })
  | none => s

/-- A power-state command ends with the state reached (R247). -/
def State.psEnd (s : State) (p status : Nat) : State :=
  let s := s.updAq (fun a => { a with ps := s.psReached })
  (s.respondBad p status (leBytes 4 s.aq.ps)).mwqSync

/-- POWER_STATE_SET (R245–R247): each execution makes what progress the step in hand allows; cancel points lie between the steps. A
start sequence that still runs ends first, at a boundary of its steps (R483). -/
def execPowerStateSet (p : Nat) (lock : Option Nat) (stalls : Nat) (s : State) : Host.Outcome State Fault Refusal :=
  .next (s.onCommand p 0x0601 (fun s =>
    let t := s.req p 16 1
    let r := s.run p
    let all := List.range 4
    let parks := t == 2 || t == 4
    let next (s : State) : State := s.updRun p (fun r => { r with phase := r.phase + 1 })
    let cut (s : State) (f : State → State) : State := if s.cancelAsked p then s.psEnd p 0x40 else f s
    match r.phase with
    | 0 =>
      if s.aq.loading.isSome then s
      else
        let s := s.endStart (if s.get .MBX_START_CAUSE = 0 then 1 else 2)
        next (s.set .TUS_SEEK_GLOBAL_ASCALE (if t = 1 ∨ t = 3 then 0x80 else 0x100))
    | 1 => cut s (fun s =>
      if !parks then (next s).updRun p (fun r => { r with phase := 3 })
      else
        let s := s.holdSections all
        s.when (all.all s.lanesIdle) (fun s => next (s.unload stalls all)))
    | 2 => s.when (s.parkedAll all) (fun s => next (all.foldl (fun s k => s.sectionParked k) s))
    | 3 => cut s (fun s => next (s.psSpindle t))
    | 4 => s.when (s.psSpun t) (fun s => next s.psRestore)
    | 5 => cut s (fun s =>
      if parks then next (next s)
      else s.when s.spindleReady (fun s =>
        (next s).updRun p (fun r => { r with todo := maskOf (all.filter (fun k => s.parkedSec k && s.loadable k)) })))
    | 6 =>
      let s := s.loadStep p lock false
      let r := s.run p
      if r.cur.isSome || r.todo != 0 then s
      else if r.bad ≠ 0 then s.psEnd p 0x0105
      else next s
    | _ => cut s (fun s =>
      let s := s.when (decide (t ≤ 2)) (fun s => s.setSource s.aq.src)
      let s := s.updAq (fun a => { a with ps := t })
      (s.respondOk p (leBytes 4 t)).mwqSync)))

/-- Peat's power stream in NOR holds a commit record of the previous power cycle (R245, R408). -/
def State.commitInNor (s : State) : Bool :=
  let last (e : Nat × PeatRecord) : Bool := e.2.type_ == 0x0202 && (e.2.pcc + 1) % 2 ^ 32 == s.get .PEAT_PCC_COUNT
  (s.peat.areas.at 4).records.any last || (s.peat.areas.at 5).records.any last

/-- POWER_STATUS (R245): `tj` is the junction temperature in 0.1 °C. LAST_PF 2 comes from COMMIT_SEEN, or from NOR (R408). -/
def execPowerStatus (p tj : Nat) (s : State) : Host.Outcome State Fault Refusal :=
  .next (s.onCommand p 0x0602 (fun s =>
    let last := if s.is .WEIR_AON_STATUS_COMMIT_SEEN || s.commitInNor then 2 else s.aq.dip.toNat
    s.respondOk p (leBytes 1 s.aq.ps ++ leBytes 1 (if s.get .WEIR_STATUS_PF = 1 then 1 else 0) ++ leBytes 2 last ++
      leBytes 2 (s.get .WEIR_MEAS_V12_MV) ++ leBytes 2 (s.get .WEIR_MEAS_V5_MV) ++ leBytes 2 tj ++ leBytes 6 0)))

/-- FEN_GATE (R33, R245). -/
def execFenGate (p : Nat) (s : State) : Host.Outcome State Fault Refusal :=
  .next (s.onCommand p 0x0603 (fun s =>
    let w := s.get (.TIDE_CG_EN_EN 0)
    (s.set (.TIDE_CG_EN_EN 0) (w - w % 256 + w % 2 + s.req p 16 1 / 2 * 2)).respondOk p))

end Sys2Proof.Machine
end

