-- ==== Sys2Proof/Machine/Trust.lean ====
section
/-! DEFINITION. What the catalogue and the boot share of the root of trust (19): measurement registers, keys, slots and the pointer,
signed commands, seal records. -/

namespace Sys2Proof.Machine

/-! ### Measurement registers (R434, R435) -/

/-- The 48 bytes of MR r. -/
def State.mr (s : State) (r : Nat) : List Byte := (List.range 12).flatMap (fun w => leBytes 4 (s.get (.DYKE_MR_DATA r w)))

/-- MR r extended with a value. -/
def State.extendMr (s : State) (r : Nat) (v : List Byte) : State :=
  let h := sha384Bytes (s.mr r ++ v)
  s.forN 12 (fun w s => s.set (.DYKE_MR_DATA r w) (fieldAt h (4 * w) 4))

/-! ### Keys (R432) -/

/-- The seed of layer k's key: 0 derives from UDS, the others from their CDI with the label "Lk". -/
def State.layerSeed (s : State) (k : Nat) : BitVec 384 :=
  if k = 0 then s.dyke.seed else hmac (secretBytes (s.dyke.cdi.at k)) [0x4C, BitVec.ofNat 8 (48 + k)]

/-- A signature by layer k's key over bytes (R432), with a fresh nonce. -/
def State.signBy (s : State) (k : Nat) (bytes : List Byte) : List Byte × State :=
  (ecdsaSign (s.layerSeed k) (sha384 bytes) (Config.freeValue s.drawn % (p384N - 1) + 1), { s with drawn := s.drawn + 1 })

/-! ### Slots and the pointer (R436, R438, R448, R449) -/

/-- A slot, and a change of it. -/
def State.slot (s : State) (i : Nat) : Slot := s.dyke.slots.at i
def State.updSlot (s : State) (i : Nat) (f : Slot → Slot) : State := { s with dyke := { s.dyke with slots := s.dyke.slots.upd i f } }

/-- The slot that runs, and the other one. -/
def State.runSlot (s : State) : Nat := s.get .DYKE_SLOT_RUNNING
def State.otherSlot (s : State) : Nat := 1 - s.get .DYKE_SLOT_RUNNING

/-- MVER, MSVN, MIN_STEP, DM_PUBKEY of a manifest. -/
def manVersion (m : List Byte) : Nat := fieldAt m 4 4
def manSvn (m : List Byte) : Nat := fieldAt m 8 1
def manStep (m : List Byte) : Nat := fieldAt m 10 1
def manKey (m : List Byte) : List Byte := (m.drop 1712).take 96

/-- A field of part p's entry. -/
def entryAt (m : List Byte) (p off len : Nat) : Nat := fieldAt m (32 + 240 * p + off) len

/-- IMAGE_HASH of part p. -/
def imageHash (m : List Byte) (p : Nat) : List Byte := (m.drop (32 + 240 * p + 40)).take 48

/-- Part p's image in slot i. -/
def State.image (s : State) (i p : Nat) : List Byte := (s.slot i).images.getD p []

/-- The copies in order: the valid one with the higher SEQ, compared modulo 2^32, is the pointer. -/
def State.pointer (s : State) : Option (Nat × Pointer) :=
  match s.dyke.copies.at 0, s.dyke.copies.at 1 with
  | some a, some b => if (a.seq + 2 ^ 32 - b.seq) % 2 ^ 32 < 2 ^ 31 then some (0, a) else some (1, b)
  | some a, none => some (0, a)
  | none, some b => some (1, b)
  | none, none => none

/-- DYKE_SLOT follows the pointer and the slots; with no valid copy the slot that runs counts as CONFIRMED. -/
def State.showSlot (s : State) : State :=
  let s := match s.pointer with
    | some (_, x) => ((s.set .DYKE_SLOT_SEQ x.seq).setIf .DYKE_SLOT_CONFIRMED (!x.trial)).set .DYKE_SLOT_POINTED x.slot
    | none => ((s.set .DYKE_SLOT_SEQ 0).set .DYKE_SLOT_CONFIRMED 1).set .DYKE_SLOT_POINTED s.runSlot
  s.set .DYKE_SLOT_INACTIVE (s.slot s.otherSlot).state

/-- A pointer write: the other copy takes SEQ + 1. -/
def State.writePointer (s : State) (slot : Nat) (trial : Bool) (tries prev : Nat) : State :=
  let (i, seq) := match s.pointer with | some (i, x) => (1 - i, (x.seq + 1) % 2 ^ 32) | none => (0, 1)
  let x : Pointer := { seq := seq, slot := slot, trial := trial, tries := tries, prev := prev }
  { s with dyke := { s.dyke with copies := s.dyke.copies.put i (some x) } }.showSlot

/-! ### Signed commands (R232) and records -/

/-- The drive maker's key is enrolled (R431). -/
def State.enrolled (s : State) : Bool := s.get .DYKE_STATUS_LIFECYCLE == 1

/-- The signed command of pair p verifies (R232), where `f` is its effect with the 42 signed bytes; else AUTH_FAILED with DYKE_AUTH_FAIL
(R453). It consumed the session's challenge as it started. In BLANK no key is enrolled (R431). -/
def State.signedCommand (s : State) (p : Nat) (f : List Byte → State → State) : State :=
  match (s.run p).challenge with
  | none => s.respond p 0x0151 false
  | some c =>
    let signed := leBytes 2 (s.mbxCmd p) ++ leBytes 32 c.toNat ++ s.reqBytes p 16 8
    if s.enrolled && ecdsaVerify (manKey (s.slot s.runSlot).manifest) (sha384 signed) (s.reqBytes p 24 96) then f signed s
    else (s.raise 0x0F02).respondBad p 0x0150

/-- The seal record (R444). -/
def State.sealRecord (s : State) (end_ : Nat) : State :=
  let b := leBytes 1 2 ++ leBytes 1 end_ ++ leBytes 2 0 ++ leBytes 4 (s.get .PEAT_PCC_COUNT) ++ sha384Bytes s.dyke.bootBody ++
    s.mr 10 ++ s.mr 11 ++ leBytes 8 s.opt
  let (sig, s) := s.signBy 1 b
  s.peatRecord 0 0x0002 (b ++ sig)

/-- Aqsia's record of the end of an update command (R457). -/
def State.updateRecord (s : State) (cmd status version applied fail : Nat) : State :=
  s.peatRecord 3 0x0301 (leBytes 2 cmd ++ leBytes 2 status ++ leBytes 4 version ++ leBytes 2 applied ++ leBytes 1 fail ++ [0])

end Sys2Proof.Machine
end

