-- ==== Sys2Proof/Machine/TableCmds.lean ====
section
/-! DEFINITION. The servo, channel and format-program families of the catalogue (R238–R244). -/

namespace Sys2Proof.Machine

/-! ### Servo tables (R98, R238, R239) -/

/-- The address in the servo-table SRAM, in words, of word `w` of entry `e`. -/
def State.tableWord (s : State) (e w : Nat) : Nat := s.get .TUS_TBL_BASE_BASE * 8192 + 128 * e + w

/-- A word of the servo-table SRAM written. -/
def State.putTable (s : State) (a : Nat) (w : Word) : State := { s with tus := { s.tus with tables := s.tus.tables.put a w } }

/-- Part p of the running slot no longer reads back as Dyke verified it (R439). -/
def State.partChanged (s : State) (p : Nat) : Bool := p ∈ s.dyke.changed

/-- The servo table of the SERVO part copied to the SRAM (R239); answers the first entry whose tag does not match (R98). TABLES_VALID
follows. A part that no longer reads back as verified is not loaded (R439), which ends the load as a mismatch of entry 0 does
(DESIGN CHOICE: the manual names no other end). -/
def State.loadTables (s : State) : Option Nat × State :=
  if s.partChanged 5 then (some 0, s.raise 0x0F03) else
  let image := s.image s.runSlot 5
  let s := s.forN 64 (fun e s => s.forN 128 (fun w s =>
    s.putTable (s.tableWord e w) (BitVec.ofNat 32 (fieldAt image (512 * e + 4 * w) 4))))
  let bad := (List.range 64).find? (fun e => s.tus.tables.at (s.tableWord e 105) != regionTag (e / 16) (e % 16))
  (bad, (s.setIf .TUS_CTRL_TABLES_VALID bad.isNone).when bad.isSome (fun s => s.forN 4 (fun k s => s.freezeRegion k)))

/-- SERVO_RELOAD (R239). -/
def execServoReload (p : Nat) (s : State) : Host.Outcome State Fault Refusal :=
  .next (s.onCommand p 0x0301 (fun s =>
    match s.loadTables with
    | (none, s) =>
      (s.forN 4 (fun k s => s.fetchRegion k (s.get (.TUS_SEC_STATUS_REGION k)))).respondOk p (leBytes 2 0xFFFF ++ leBytes 2 0)
    | (some e, s) => s.respondBad p 0x0110 (leBytes 2 e ++ leBytes 2 0)))

/-- SERVO_REGION_WRITE (R239). -/
def execServoRegionWrite (p : Nat) (s : State) : Host.Outcome State Fault Refusal :=
  .next (s.onCommand p 0x0302 (fun s =>
    let e := s.req p 16 2
    let w := s.req p 18 1
    (s.forN (s.req p 19 1) (fun i s => s.putTable (s.tableWord e (w + i)) (BitVec.ofNat 32 (s.req p (24 + 4 * i) 4)))).respondOk p))

/-- SERVO_LIMITS (R114, R238). -/
def execServoLimits (p : Nat) (s : State) : Host.Outcome State Fault Refusal :=
  .next (s.onCommand p 0x0303 (fun s =>
    let k := s.req p 16 1
    let s := ((s.set (.TUS_SETTLE_SETTLE_CNT k) (s.req p 17 1)).set (.TUS_SETTLE_SETTLE_WIN k) (s.req p 18 2)).set
      (.TUS_SETTLE_WINH_THR k) (s.req p 30 2)
    (((s.set (.TUS_PROF_V_VMAX k) (s.req p 20 4)).set (.TUS_PROF_A_AMAX k) (s.req p 24 4)).set
      (.TUS_PROF_J_JMAX k) (s.req p 28 2)).respondOk p))

/-- Row and column of the i-th off-diagonal mantissa in row order (R238). -/
def offDiagonal (i : Nat) : Nat × Nat := (i / 3, if i % 3 < i / 3 then i % 3 else i % 3 + 1)

/-- SERVO_COUPLING (R102, R238). -/
def execServoCoupling (p : Nat) (s : State) : Host.Outcome State Fault Refusal :=
  .next (s.onCommand p 0x0304 (fun s =>
    let f := s.req p 16 1
    let s := s.when (f / 4 == 1) (fun s =>
      let s := ((s.set .TUS_XC_EXP_EXP (s.req p 17 1)).set .TUS_RV_CFG_G01 (s.req p 20 2)).set .TUS_RV_CFG_G23 (s.req p 22 2)
      let s := s.forN 12 (fun i s => s.set (.TUS_XC_M (offDiagonal i).1 (offDiagonal i).2) (s.req p (24 + 4 * i) 4))
      s.set .TUS_STATUS_XC_PENDING 1)
    ((s.set .TUS_CTRL_XC_EN f).set .TUS_CTRL_RVFF_EN (f / 2)).respondOk p))

/-- SERVO_CAPTURE (R108, R238): the capture of the next tick is awaited; one of the same section that another request made comes
first. -/
def execServoCapture (p : Nat) (s : State) : Host.Outcome State Fault Refusal :=
  .next (s.onCommand p 0x0305 (fun s =>
    let k := s.req p 16 1
    if (s.run p).phase = 0 then
      if (s.sec k).capPend then s
      else
        let s := (s.set (.TUS_SEC_CTRL_CAP_LANE k) (s.req p 17 1)).set (.TUS_SEC_STATUS_CAP_DONE k) 0
        (s.updSec k (fun x => { x with capPend := true })).updRun p (fun r => { r with phase := 1 })
    else if s.is (.TUS_SEC_STATUS_CAP_DONE k) then
      let word (f : Fld) (len : Nat) : List Byte := leBytes len (s.getS f % 2 ^ (8 * len)).toNat
      s.respondOk p (word (.TUS_SEC_INFO_CAP_EXP k) 1 ++ leBytes 3 0 ++ (List.range 8).flatMap (fun i => word (.TUS_CAP_M k i) 4))
    else s))

/-! ### Channels (R240) -/

/-- ZONE_INFO (R240). -/
def execZoneInfo (p : Nat) (s : State) : Host.Outcome State Fault Refusal :=
  .next (s.onCommand p 0x0401 (fun s =>
    match (Config.zones s.aq.chan (s.req p 16 1))[s.req p 18 2]? with
    | some z => s.respondOk p (leBytes 4 z.first ++ leBytes 4 z.last ++ leBytes 4 z.cbpc ++ leBytes 1 z.c ++ leBytes 1 z.meta_ ++
        leBytes 2 z.sectors)
    | none => s.respond p 0x12 false))

/-- CHANNEL_ADAPT (R174, R240). -/
def execChannelAdapt (p : Nat) (s : State) : Host.Outcome State Fault Refusal :=
  .next (s.onCommand p 0x0402 (fun s =>
    let f := s.req p 17 1
    (s.forN 8 (fun n s => s.when (s.req p 16 1 / 2 ^ n % 2 == 1) (fun s =>
      let s := (s.set (.SDG_ST_CTRL_ADAPT_EN n) f).set (.SDG_ST_CTRL_ITER_OTF n) (s.req p 19 1)
      (s.set (.SDG_EQ_CFG_NP_ADAPT n) (f / 2)).set (.SDG_EQ_CFG_MU n) (s.req p 18 1)))).respondOk p))

/-- First item and number of items of the calibration area that bit b of ITEMS stores: ADV; DLY and VAMP_CAL; the precompensation
tables; the equalizer sets (R240). -/
def calItems : Nat → Nat × Nat
  | 0 => (0, 1)
  | 1 => (1, 2)
  | 2 => (3, 24)
  | _ => (27, 360)

/-- CHANNEL_CAL (R240): each execution stores one item, `found` what its calibration gave; cancel points lie between two selected ones. What a
response says of an item that was not calibrated is a free value. -/
def execChannelCal (p : Nat) (found : List Nat) (s : State) : Host.Outcome State Fault Refusal :=
  .next (s.onCommand p 0x0403 (fun s =>
    let r := s.run p
    let todo := s.req p 20 1
    let key := 65536 * (6 * s.req p 16 1 + s.req p 17 1) + s.req p 18 2
    let result (i b : Nat) (s : State) : Nat × State :=
      if r.good / 2 ^ b % 2 = 1 then (s.calItem (key / 65536) (key % 65536) i, s) else s.draw 16
    let finish (status : Nat) : State :=
      let (a, s) := result 0 0 s
      let (d, s) := result 1 1 s
      let (v, s) := result 2 1 s
      s.respond p status true (leBytes 1 r.good ++ leBytes 1 0 ++ leBytes 2 a ++ leBytes 2 d ++ leBytes 1 v ++ leBytes 1 0)
    if 4 ≤ r.phase then finish 0
    else if s.cancelAsked p && r.good != 0 && todo / 2 ^ r.phase != 0 then finish 0x40
    else
      let b := r.phase
      let on := todo / 2 ^ b % 2 == 1
      let (first, count) := calItems b
      let s := s.when on (fun s => s.updAq (fun a => { a with
        cal := (List.range count).foldl (fun t i => t.put (512 * key + first + i) (some (found.getD i 0))) a.cal }))
      s.updRun p (fun r => { r with phase := b + 1, good := r.good + (if on then 2 ^ b else 0) })))

/-- PREAMP_INFO (R240, R501). -/
def execPreampInfo (p : Nat) (s : State) : Host.Outcome State Fault Refusal :=
  .next (s.onCommand p 0x0404 (fun s =>
    let l := s.link (s.req p 16 1)
    s.respondOk p (leBytes 2 (l.ident.at 0) ++ leBytes 2 (l.ident.at 1) ++ leBytes 4 (l.ident.at 2 * 65536 + l.ident.at 3) ++
      leBytes 1 (l.ident.at 4) ++ leBytes 1 l.state ++ leBytes 6 0)))

/-! ### Format programs (R241–R244) -/

/-- FPROG_BEGIN (R241, R242): an open load of the same session is discarded. -/
def execFprogBegin (p : Nat) (s : State) : Host.Outcome State Fault Refusal :=
  .next (s.onCommand p 0x0501 (fun s =>
    (s.updAq (fun a => { a with load := some {
      owner := s.mbxKey p, prog := s.req p 16 2, count := s.req p 18 2, addr := s.req p 20 2,
      persist := s.req p 22 1 == 1 } })).respondOk p))

/-- FPROG_DATA (R242). -/
def execFprogData (p : Nat) (s : State) : Host.Outcome State Fault Refusal :=
  .next (s.onCommand p 0x0502 (fun s =>
    match s.aq.load with
    | some l =>
      let words := (List.range (s.req p 20 1)).map (fun i => BitVec.ofNat 32 (s.req p (24 + 4 * i) 4))
      (s.updAq (fun a => { a with load := some { l with words := l.words ++ words } })).respondOk p
    | none => s.respond p 0x0106 false))

/-- The first word that fails a test. -/
def firstBad (f : Word → Bool) (l : List Word) : Option Nat := (List.range l.length).find? (fun i => !f (l.getD i 0))

/-- The target of a JMP, a JCC or a CALL (R131). -/
def jumpTarget (w : Word) : Option Nat :=
  if microOp w = 0x10 ∨ microOp w = 0x11 ∨ microOp w = 0x12 then some (microOpd w % 2 ^ 15) else none

/-- Rules 1 to 4 of R243: INDEX and RULE of the first that fails. -/
def State.programCheck (s : State) (l : FLoad) : Option (Nat × Nat) :=
  let inside (w : Word) : Bool :=
    match jumpTarget w with | some t => decide (l.addr ≤ t) && decide (t < l.addr + l.words.length) | none => true
  match firstBad (fun w => microLegal (microOp w) (microSel w) (microOpd w)) l.words with
  | some i => some (i, 1)
  | none => match firstBad inside l.words with
    | some i => some (i, 2)
    | none =>
      if !l.words.any (fun w => microOp w == 0x3F) then some (0xFFFF, 3)
      else if 0x4000 < l.addr + l.words.length ∨ s.overlaps l.addr l.words.length then some (0xFFFF, 4)
      else none

/-- INDEX and RULE of a response. -/
def ruleBytes (r : Nat × Nat) : List Byte := leBytes 2 r.1 ++ leBytes 1 r.2 ++ [0]

/-- A load's words written into every control store, with SEQ_MASK 0xFF from ADDR on (R145, R243). -/
def State.placeProgram (s : State) (addr : Nat) (words : List Word) : State :=
  ((s.forN 8 (fun n s => s.updSeq n (fun q =>
    { q with store := (List.range words.length).foldl (fun t i => t.put (addr + i) (words.getD i 0)) q.store }))).set
      .REED_CS_CTRL_SEQ_MASK 0xFF).set .REED_CS_CTRL_ADDR (addr + words.length)

/-- FPROG_COMMIT (R243, R434): the load closes whatever its outcome; a legal program waits for the sequencers. A program of the same
PROG_ID and its bindings are replaced. -/
def execFprogCommit (p : Nat) (norOk : Bool) (s : State) : Host.Outcome State Fault Refusal :=
  .next (s.onCommand p 0x0503 (fun s =>
    match s.aq.load with
    | none => s.respond p 0x0106 false
    | some l =>
      let close (s : State) : State := (s.updAq (fun a => { a with load := none })).updMq (fun m => { m with progHold := false })
      match s.programCheck l with
      | some r => (close s).respondBad p 0x0120 (ruleBytes r)
      | none =>
        if (List.range 8).all (fun n => !s.running n) && s.mq.progHold then
          if l.persist && !norOk then (close s).respondBad p 0x0164
          else
            let s := (close s).placeProgram l.addr l.words
            let s := s.updAq (fun a => { a with
              progs := a.progs.filter (fun x => x.prog ≠ l.prog) ++ [{ prog := l.prog, addr := l.addr, persist := l.persist, words := l.words }],
              binds := a.binds.filter (fun x => x.prog ≠ l.prog) })
            let s := s.extendMr 10 (sha384Bytes (l.words.flatMap (fun w => leBytes 4 w.toNat)))
            s.respondOk p (ruleBytes (0xFFFF, 0))
        else s.updMq (fun m => { m with progHold := true })))

/-- Rules 5 and 6 of R243. Broeno's base program lies below 0x3000. -/
def State.bindCheck (s : State) (prog opcode entry : Nat) : Option Nat :=
  let (ok, words) := match s.program prog with
    | some x => (decide (x.addr ≤ entry) && decide (entry < x.addr + x.words.length), x.words)
    | none => (decide (entry < 0x3000), (List.range 0x3000).map (fun a => (s.seq 0).store.at a))
  if !ok || !(range15 opcode || opcode == 0x10 || opcode == 0x11) then some 5
  else if (opcode == 0x03 || opcode == 0x10) &&
      !words.any (fun w => microOp w == 0x04 && microSel w == 2 && microOpd w % 2 == 1) then some 6
  else none
where
  range15 (o : Nat) : Bool := decide (1 ≤ o) && decide (o ≤ 5)

/-- FPROG_BIND (R243, R244). -/
def execFprogBind (p : Nat) (norOk : Bool) (s : State) : Host.Outcome State Fault Refusal :=
  .next (s.onCommand p 0x0504 (fun s =>
    let prog := s.req p 16 2
    let op := s.req p 18 1
    let entry := s.req p 24 2
    match s.bindCheck prog op entry with
    | some r => s.respondBad p 0x0120 (ruleBytes (0xFFFF, r))
    | none =>
      if s.persisted prog && !norOk then s.respondBad p 0x0164
      else
        let b : Binding := { prog := prog, opcode := op, first := s.req p 20 2, last := s.req p 22 2, entry := entry, thresh := s.req p 26 2 }
        (s.updAq (fun a => { a with binds := a.binds ++ [b] })).respondOk p (ruleBytes (0xFFFF, 0))))

/-- FPROG_DELETE (R244). -/
def execFprogDelete (p : Nat) (norOk : Bool) (s : State) : Host.Outcome State Fault Refusal :=
  .next (s.onCommand p 0x0505 (fun s =>
    let prog := s.req p 16 2
    if s.persisted prog && !norOk then s.respondBad p 0x0164
    else (s.updAq (fun a => { a with
      progs := a.progs.filter (fun x => x.prog ≠ prog), binds := a.binds.filter (fun x => x.prog ≠ prog) })).respondOk p))

/-- FPROG_LIST (R241), in the order in which the programs were loaded. -/
def execFprogList (p : Nat) (s : State) : Host.Outcome State Fault Refusal :=
  .next (s.onCommand p 0x0506 (fun s =>
    let l := (s.aq.progs.drop (s.req p 16 1)).take 28
    let row (x : FProgram) : List Byte := leBytes 2 x.prog ++ leBytes 2 x.addr ++ leBytes 2 x.words.length ++
      leBytes 1 (x.persist.toNat + 2 * (s.aq.binds.any (fun b => b.prog == x.prog)).toNat) ++ [0]
    s.respondOk p (leBytes 1 s.aq.progs.length ++ leBytes 1 l.length ++ leBytes 6 0 ++ l.flatMap row)))

end Sys2Proof.Machine
end

