-- ==== Sys2Proof/Machine/RecordCmds.lean ====
section
/-! DEFINITION. The event recorder, telemetry, fault and attestation families of the catalogue (R248, R249, R253–R257). -/

namespace Sys2Proof.Machine

/-! ### Event recorder (R248, R249, R466–R469) -/

/-- PEAT_APPEND (R248): OPT is the operating time that stamps the record. -/
def execPeatAppend (p : Nat) (s : State) : Host.Outcome State Fault Refusal :=
  .next (s.onCommand p 0x0701 (fun s =>
    (s.peatRecord 4 (s.req p 16 2) (s.reqBytes p 24 (s.req p 18 2))).respondOk p (leBytes 8 s.opt)))

/-- PEAT_FREEZE (R249, R466, R468): it waits for the end of a flush that writes into the area, and is turned away where another session's
freeze came first meanwhile. -/
def execPeatFreeze (p : Nat) (s : State) : Host.Outcome State Fault Refusal :=
  .next (s.onCommand p 0x0702 (fun s =>
    let a := s.reqArea p
    if s.frozen a && (s.aq.freezes.at a).any (· != s.mbxKey p) then s.respondBad p 0x0107
    else
    let s := s.freeze a
    s.when (s.frozen a) (fun s =>
      (s.updAq (fun q => { q with freezes := q.freezes.put a (some (s.mbxKey p)) })).respondOk p
        (leBytes 4 (s.get (.PEAT_AREA_REC_COUNT a)) ++ leBytes 4 (s.get (.PEAT_AREA_BYTES_BYTES a))))))

/-- PEAT_READ (R466): served through the window, which Aqsia loads from CURSOR. -/
def execPeatRead (p : Nat) (s : State) : Host.Outcome State Fault Refusal :=
  .next (s.onCommand p 0x0703 (fun s =>
    let a := s.reqArea p
    let cursor := s.req p 20 4
    let s := (((s.set .PEAT_CUR_AREA_AREA a).peatCur cursor)).windowLoad
    let all := (s.peat.areas.at a).served a
    let data := (all.drop cursor).take 232
    let n := data.length
    s.respondOk p (leBytes 4 (cursor + n) ++ leBytes 2 n ++ leBytes 1 (decide (cursor + n = all.length)).toNat ++ [0] ++ data)))

/-- A freeze of a session ends (R249). -/
def State.releaseFreeze (s : State) (a : Nat) : State :=
  (s.unfreeze a).updAq (fun q => { q with freezes := q.freezes.put a none })

/-- PEAT_RELEASE (R466). -/
def execPeatRelease (p : Nat) (s : State) : Host.Outcome State Fault Refusal :=
  .next (s.onCommand p 0x0704 (fun s => (s.releaseFreeze (s.reqArea p)).respondOk p))

/-- PEAT_CLEAR (R232, R469). -/
def execPeatClear (p : Nat) (norOk : Bool) (s : State) : Host.Outcome State Fault Refusal :=
  .next (s.onCommand p 0x0705 (fun s =>
    s.signedCommand p (fun signed s =>
      if !norOk then s.respondBad p 0x0164
      else (s.forN 5 (fun k s => s.when (s.req p 16 1 / 2 ^ k % 2 == 1) (fun s =>
        (s.releaseFreeze (circArea k)).clearArea (circArea k) signed))).respondOk p)))

/-- PEAT_FLUSH (R248, R461): it responds once no flush runs any more. -/
def execAqPeatFlush (p : Nat) (norOk : Bool) (s : State) : Host.Outcome State Fault Refusal :=
  .next (s.onCommand p 0x0706 (fun s =>
    let s := s.when ((s.run p).phase == 0) (fun s => s.startFlush.updRun p (fun r => { r with phase := 1 }))
    if s.is .PEAT_STATUS_FLUSHING then s
    else if norOk then s.respondOk p
    else s.respondBad p 0x0164))

/-! ### Telemetry (R178, R253) -/

/-- TEL_VERSIONS (R253). -/
def execTelVersions (p : Nat) (s : State) : Host.Outcome State Fault Refusal :=
  .next (s.onCommand p 0x0901 (fun s => s.respondOk p (leBytes 4 s.aqsiaVer ++ leBytes 4 (s.wordOf .REED_UCODE_VER_BASE) ++
    leBytes 4 s.aq.chan ++ leBytes 4 s.aq.servoTbl ++ leBytes 4 (s.wordOf .DYKE_CHIP_ID_PART) ++ leBytes 4 0)))

/-- TEL_CHANNEL (R178, R253): the snapshot is taken before the clear. -/
def execTelChannel (p : Nat) (s : State) : Host.Outcome State Fault Refusal :=
  .next (s.onCommand p 0x0902 (fun s =>
    let f := s.req p 17 1
    let s := (s.when (f % 2 == 1) State.telSnap).when (f / 2 % 2 == 1) State.telClear
    s.respondOk p ((List.range 32).flatMap (fun i => leBytes 4 (s.get (.SDG_TEL_COUNT (s.req p 16 1) i))))))

/-- TEL_SERVO (R253): CLEAR follows the values. -/
def execTelServo (p : Nat) (s : State) : Host.Outcome State Fault Refusal :=
  .next (s.onCommand p 0x0903 (fun s =>
    let k := s.req p 16 1
    let t := s.aq.servo.at k
    let out := leBytes 4 (s.wordOf (.TUS_SAT_CNT_COUNT k)) ++ leBytes 4 t.seeks ++ leBytes 4 t.inhibits ++ leBytes 4 t.pesLost
    (s.when (s.req p 17 1 % 2 == 1) (fun s => (s.set (.TUS_SAT_CNT_COUNT k) 0).telServo k (fun _ => {}))).respondOk p out))

/-- TEL_ENV (R253): `temps` are TEMP0–TEMP3 in 0.1 °C. -/
def execTelEnv (p : Nat) (temps : List Nat) (s : State) : Host.Outcome State Fault Refusal :=
  .next (s.onCommand p 0x0904 (fun s => s.respondOk p ((List.range 4).flatMap (fun i => leBytes 2 (temps.getD i 0)) ++
    leBytes 2 (s.get .WEIR_MEAS_V12_MV) ++ leBytes 2 (s.get .WEIR_MEAS_V5_MV) ++ leBytes 4 (s.wordOf .WTH_SPN_MEAS_SPEED) ++
    leBytes 4 (s.wordOf .TIDE_STATUS_STATE) ++ leBytes 8 s.opt)))

/-! ### Faults (R254) -/

/-- FAULT_HISTORY (R254, R421): newest first. -/
def execFaultHistory (p : Nat) (s : State) : Host.Outcome State Fault Refusal :=
  .next (s.onCommand p 0x0A01 (fun s =>
    let held := s.get .LEV_HIST_STATUS_COUNT
    let first := s.req p 16 1
    let n := min 14 (held - first)
    let entry (i : Nat) : List Byte :=
      let slot := (s.get .LEV_HIST_STATUS_NEXT + 63 - (first + i)) % 32
      (List.range 4).flatMap (fun w => leBytes 4 (s.get (.LEV_HIST_DATA slot w)))
    s.respondOk p (leBytes 1 held ++ leBytes 1 n ++ leBytes 6 0 ++ (List.range n).flatMap entry)))

/-- FAULT_REACTION (R254, R415). -/
def execFaultReaction (p : Nat) (s : State) : Host.Outcome State Fault Refusal :=
  .next (s.onCommand p 0x0A02 (fun s =>
    let s := (s.set (.LEV_SRC_REACT (s.req p 16 2)) (s.req p 18 1)).trimReact (s.req p 16 2)
    s.respondOk p (leBytes 1 (s.get (.LEV_SRC_REACT (s.req p 16 2))) ++ leBytes 3 0)))

/-- FAULT_INJECT (R254, R425): the source's instance 0. -/
def execFaultInject (p : Nat) (s : State) : Host.Outcome State Fault Refusal :=
  .next (s.onCommand p 0x0A03 (fun s => (s.levInject (s.req p 16 2) 0 (s.req p 18 1)).respondOk p))

/-- FAULT_CLEAR (R254, R418). -/
def execFaultClear (p : Nat) (s : State) : Host.Outcome State Fault Refusal :=
  .next (s.onCommand p 0x0A04 (fun s =>
    let source := s.req p 16 2
    (s.levClear (source == 0xFFFF) source 0xFF).respondOk p))

/-! ### Attestation (R232, R255–R257, R445) -/

/-- The object that ATTEST_READ names (R255). -/
def State.attestBytes (s : State) (o : Nat) : List Byte :=
  if o = 0x10 then s.aq.quote else if o = 0x11 then s.dyke.bootBody else s.dyke.certs.at o

/-- ATTEST_READ (R255). -/
def execAttestRead (p : Nat) (s : State) : Host.Outcome State Fault Refusal :=
  .next (s.onCommand p 0x0B01 (fun s =>
    let all := s.attestBytes (s.req p 16 1)
    let data := (all.drop (s.req p 20 4)).take 232
    s.respondOk p (leBytes 4 all.length ++ leBytes 2 data.length ++ leBytes 2 0 ++ data)))

/-- ATTEST_QUOTE (R255, R445). -/
def execAttestQuote (p : Nat) (s : State) : Host.Outcome State Fault Refusal :=
  .next (s.onCommand p 0x0B02 (fun s =>
    let mask := s.req p 48 2
    let regs := ((List.range 16).filter (fun r => mask / 2 ^ r % 2 == 1)).flatMap s.mr
    let body := leBytes 2 mask ++ regs ++ s.reqBytes p 16 32
    let (sig, s) := s.signBy 3 body
    let quote := body ++ sig
    (s.updAq (fun a => { a with quote := quote })).respondOk p (leBytes 4 quote.length)))

/-- AUTH_CHALLENGE (R232): a fresh challenge replaces an unused one. -/
def execAuthChallenge (p : Nat) (s : State) : Host.Outcome State Fault Refusal :=
  .next (s.onCommand p 0x0B03 (fun s =>
    let (v, s) := s.draw 256
    let now := s.opt
    (s.updSession (s.mbxKey p) (fun x => { x with challenge := some (BitVec.ofNat 256 v, now) })).respondOk p (leBytes 32 v)))

/-- DataTransferSize and MaxSPDMmsgSize of the responder (R256). -/
def spdmTransfer : Nat := 232
def spdmMost : Nat := 4096

/-- The connection's state after a whole message, and the reply to it (R256): of GET_CAPABILITIES (0xE1) the two sizes end the reply. PRESUMED:
codes and offsets of a message are those of SPDM 1.2, which R256 names. -/
def Session.spdmWhole (x : Session) (reply : List (List Byte) → List Byte) (m : List Byte) : Session × List Byte :=
  let h := x.spdm ++ [m]
  let r := match fieldAt m 1 1 with
    | 0x84 => [0x10, 0x04, 0, 0, 0, 1, 0x00, 0x12]
    | 0xE1 => [0x12, 0x61, 0, 0] ++ ((reply h).drop 4).take 4 ++ leBytes 4 0x00020016 ++ leBytes 4 spdmTransfer ++ leBytes 4 spdmMost
    | 0x81 | 0x82 | 0x83 | 0xE0 | 0xE3 => reply h
    | code => [0x12, 0x7F, 0x07, BitVec.ofNat 8 code]
  ({ x with spdm := h }, r.take spdmMost)

/-- The reply as it is sent, after `used` bytes of the same transfer: one that is too large is kept under a new handle, and error LargeResponse
names that. -/
def Session.spdmFit (a : Session × List Byte) (used : Nat) : Session × List Byte :=
  if used + a.2.length ≤ spdmTransfer then a
  else
    let handle := (a.1.handle + 1) % 256
    ({ a.1 with partOut := a.2, handle := handle }, [0x12, 0x7F, 0x0F, 0] ++ leBytes 1 handle)

/-- A transfer of the connection (R256): CHUNK_SEND (0x85) brings a part of a large message, CHUNK_GET (0x86) takes a part of a large reply, and
anything else is a whole message. -/
def Session.spdmTurn (x : Session) (reply : List (List Byte) → List Byte) (m : List Byte) : Session × List Byte :=
  let seq := fieldAt m 4 2
  let first := decide (seq = 0)
  let handle := leBytes 1 (fieldAt m 3 1) ++ leBytes 2 seq
  match fieldAt m 1 1 with
  | 0x85 =>
    let got := (if first then [] else x.partIn) ++ (m.drop (if first then 16 else 12)).take (fieldAt m 8 4)
    let ack := [0x12, 0x05, 0] ++ handle
    if fieldAt m 2 1 % 2 = 0 then ({ x with partIn := got }, ack)
    else
      let (x, r) := Session.spdmFit (({ x with partIn := [] } : Session).spdmWhole reply (got.take spdmMost)) ack.length
      (x, ack ++ r)
  | 0x86 =>
    let at_ := if first then 0 else (spdmTransfer - 16) + (spdmTransfer - 12) * (seq - 1)
    let part := (x.partOut.drop at_).take (if first then spdmTransfer - 16 else spdmTransfer - 12)
    let last := decide (x.partOut.length ≤ at_ + part.length)
    (x, [0x12, 0x06] ++ leBytes 1 last.toNat ++ handle ++ [0, 0] ++ leBytes 4 part.length ++
      (if first then leBytes 4 x.partOut.length else []) ++ part)
  | _ => Session.spdmFit (x.spdmWhole reply m) 0

/-- SPDM_MESSAGE (R256, R446): the connection belongs to the session. -/
def execSpdmMessage (p : Nat) (s : State) : Host.Outcome State Fault Refusal :=
  .next (s.onCommand p 0x0B04 (fun s =>
    let reply (h : List (List Byte)) : List Byte :=
      Config.spdmReply h ((List.range 4).map s.dyke.certs.at) ((List.range 16).map s.mr) (s.layerSeed 3) s.drawn
    let (x, out) := (((s.session (s.mbxKey p).1).filter (fun x => decide (x.key = s.mbxKey p))).getD {}).spdmTurn reply (s.reqBytes p 24 (s.req p 16 2))
    let s := { s with drawn := s.drawn + 1 }.updSession (s.mbxKey p) (fun _ => x)
    s.respondOk p (leBytes 2 out.length ++ leBytes 6 0 ++ out)))

/-- FACTORY_UNLOCK (R257, R434). -/
def execFactoryUnlock (p : Nat) (s : State) : Host.Outcome State Fault Refusal :=
  .next (s.onCommand p 0x0B05 (fun s =>
    s.signedCommand p (fun signed s =>
      (((s.extendMr 11 (sha384Bytes signed)).set .DYKE_STATUS_FACTORY 1).set .LEV_STATUS_FACTORY 1).respondOk p)))

end Sys2Proof.Machine
end

