-- ==== Sys2Proof/Machine/UpdateCmds.lean ====
section
/-! DEFINITION. The update family of the catalogue (R250–R252, R448–R452): the package, its checks, the parts. -/

namespace Sys2Proof.Machine

/-- The largest image of each part (R436). -/
def partMax (p : Nat) : Nat :=
  [0x80_0000, 0x4_0000, 0x30_0000, 0x4_0000, 0x20_0000, 0x10_0000, 0x10_0000].getD p 0

/-- A part that Broeno signs too (R436). -/
def broenoPart (p : Nat) : Bool := decide (1 ≤ p) && decide (p ≤ 3)

/-- Bytes of a string from `off`, or none where it does not hold them. -/
def sliceOf (bs : List Byte) (off len : Nat) : Option (List Byte) :=
  if off + len ≤ bs.length then some ((bs.drop off).take len) else none

/-- The chip's stepping in the form of MIN_STEP (R448). -/
def State.chipStep (s : State) : Nat := s.get .DYKE_CHIP_ID_STEP_LETTER * 16 + s.get .DYKE_CHIP_ID_STEP_NUM

/-- DM_KEY_HASH is blown, wholly or in part (R447). -/
def State.keyBlown (s : State) : Bool := s.dyke.keyHash != 0

/-! ### Manifests (R447–R449) -/

/-- A manifest verifies (R448): its form, its key against DM_KEY_HASH once enrolled, its signature. In BLANK it is verified against the
key that it carries (R447). -/
def State.manifestOk (s : State) (m : List Byte) : Bool :=
  m.length == 1904 && m.take 4 == [0x56, 0x4D, 0x46, 0x31] && fieldAt m 9 1 == 7 &&
    (List.range 7).all (fun p => entryAt m p 0 1 == p) &&
    (!s.enrolled || sha384 (manKey m) == s.dyke.keyHash) &&
    ecdsaVerify (manKey m) (sha384 (m.take 1808)) (m.drop 1808)

/-- Part p's image is the one that the manifest names, IMAGE_LEN bytes long and signed as R436 asks (R450 check 6). -/
def imageOk (m : List Byte) (p : Nat) (image : List Byte) : Bool :=
  image.length == entryAt m p 12 4 && sha384Bytes image == imageHash m p &&
    (!broenoPart p || ecdsaVerify Config.broenoKey (BitVec.ofNat 384 (leNat (imageHash m p))) ((m.drop (32 + 240 * p + 136)).take 96))

/-- Part p's SVN and MSVN against the floor counters: the part below its floor, 0x0F for the manifest (R450 check 3). -/
def State.floorCheck (s : State) (m : List Byte) : Option Nat :=
  if manSvn m < s.get (.DYKE_FLOOR_COUNT 7) then some 0x0F
  else (List.range 7).find? (fun p => decide (entryAt m p 8 1 < s.get (.DYKE_FLOOR_COUNT p)))

/-- Part p's requirements on the levels hold (R450 check 4). -/
def levelsOk (m : List Byte) (p : Nat) : Bool :=
  (List.range 7).all (fun q =>
    let lo := entryAt m p (24 + 2 * q) 1
    let hi := entryAt m p (25 + 2 * q) 1
    (lo == 0 && hi == 0xFF) || (decide (lo ≤ entryAt m q 9 1) && decide (entryAt m q 9 1 ≤ hi)))

/-! ### The package (R448, R450) -/

/-- The manifest of the package received. -/
def State.packManifest (s : State) : List Byte := (s.dyke.package.drop 64).take 1904

/-- The package's header is the one of R448. -/
def State.headerOk (s : State) : Bool :=
  let b := s.dyke.package
  b.take 4 == [0x56, 0x50, 0x4B, 0x31] && fieldAt b 4 2 == 1 && fieldAt b 6 2 == 64 && fieldAt b 8 4 == s.dyke.total &&
    fieldAt b 12 4 == 64 && fieldAt b 16 4 == 1904 && (b.drop 20).take 44 == List.replicate 44 0

/-- Checks 1 to 4 of R450: the status and FAIL_PART of the first that fails. -/
def State.applyCheck (s : State) : Option (Nat × Nat) :=
  let m := s.packManifest
  if !s.headerOk || !s.manifestOk m then some (0x0160, 0x0F)
  else if s.chipStep < manStep m ∨ 64 < manSvn m then some (0x0162, 0x0F)
  else match (List.range 7).find? (fun p => decide (partMax p < entryAt m p 12 4) || decide (64 < entryAt m p 8 1)) with
  | some p => some (0x0162, p)
  | none => match s.floorCheck m with
    | some p => some (0x0161, p)
    | none => ((List.range 7).find? (fun p => !levelsOk m p)).map (fun p => (0x0162, p))

/-- The output of a delta (R449): none where an operation reads outside the base, writes past `limit`, or is none of the three; one
operation of the payload at a time. -/
def deltaOut (base payload : List Byte) (limit : Nat) : Nat → List Byte → Option (List Byte)
  | 0, _ => none
  | fuel + 1, out =>
    match sliceOf payload 0 4 with
    | none => none
    | some w =>
      let word := leNat w
      let len := word % 2 ^ 24
      match word / 2 ^ 28 with
      | 1 => match sliceOf payload 4 4 with
        | some o => match sliceOf base (leNat o) len with
          | some bs => if limit < out.length + len then none else deltaOut base (payload.drop 8) limit fuel (out ++ bs)
          | none => none
        | none => none
      | 2 => match sliceOf payload 4 len with
        | some bs => if limit < out.length + len then none
          else deltaOut base (payload.drop (4 + (len + 3) / 4 * 4)) limit fuel (out ++ bs)
        | none => none
      | 15 => some out
      | _ => none

/-- Part p as it goes into the inactive slot (R449, R450 checks 5 and 6), or the status of the check that fails. -/
def State.makePart (s : State) (p : Nat) : Except Nat (List Byte) :=
  let m := s.packManifest
  let base := s.image s.runSlot p
  let payload := sliceOf s.dyke.package (entryAt m p 16 4) (entryAt m p 20 4)
  let judge (image : Option (List Byte)) : Except Nat (List Byte) :=
    match image with
    | some x => if imageOk m p x then .ok x else .error 0x0160
    | none => .error 0x0160
  match entryAt m p 1 1 with
  | 0 => judge (some base)
  | 1 => judge payload
  | 2 =>
    if (m.drop (32 + 240 * p + 88)).take 48 ≠ imageHash (s.slot s.runSlot).manifest p then .error 0x0163
    else judge (payload.bind (fun x => deltaOut base x (entryAt m p 12 4) (x.length / 4 + 1) []))
  | _ => .error 0x0160

/-! ### The commands -/

/-- UPDATE_BEGIN (R250–R252): the inactive slot is erased; the session owns the update once it succeeds. -/
def execUpdateBegin (p : Nat) (norOk : Bool) (s : State) : Host.Outcome State Fault Refusal :=
  .next (s.onCommand p 0x0801 (fun s =>
    if (s.run p).phase = 0 then
      let s := s.updSlot s.otherSlot (fun _ => { state := 1 })
      let s := { s with dyke := { s.dyke with owner := none, total := 0, package := [], applied := false } }
      s.showSlot.updRun p (fun r => { r with phase := 1 })
    else if s.cancelAsked p then s.dropUpdate.respondBad p 0x40
    else if !norOk then s.dropUpdate.respondBad p 0x0164
    else { s with dyke := { s.dyke with owner := some (s.mbxKey p), total := s.req p 16 4 } }.respondOk p))

/-- UPDATE_DATA (R251, R252). -/
def execUpdateData (p : Nat) (norOk : Bool) (s : State) : Host.Outcome State Fault Refusal :=
  .next (s.onCommand p 0x0802 (fun s =>
    if norOk then
      { s with dyke := { s.dyke with package := s.dyke.package ++ s.reqBytes p 24 (s.req p 20 2) } }.respondOk p
    else s.dropUpdate.respondBad p 0x0164))

/-- UPDATE_APPLY ends early (R252, R457): with the response of R250 where it failed a check of R450. -/
def State.applyFails (s : State) (p status applied fail : Nat) (full : Bool) : State :=
  let v := manVersion s.packManifest
  let s := s.dropUpdate.updateRecord 0x0803 status v applied fail
  s.respondBad p status (if full then leBytes 2 applied ++ leBytes 1 fail ++ [0] ++ leBytes 4 v else [])

/-- UPDATE_APPLY (R450, R252): the checks first, then one part at an execution, with cancel points between them. -/
def execUpdateApply (p : Nat) (norOk : Bool) (s : State) : Host.Outcome State Fault Refusal :=
  .next (s.onCommand p 0x0803 (fun s =>
    let r := s.run p
    let m := s.packManifest
    if r.phase = 0 then match s.applyCheck with
      | some (status, part) => s.applyFails p status 0 part true
      | none => s.updRun p (fun r => { r with phase := 1 })
    else if r.phase ≤ 7 then
      let q := r.phase - 1
      if s.cancelAsked p then s.applyFails p 0x40 r.good 0xFF false
      else if !norOk then s.applyFails p 0x0164 r.good 0xFF false
      else match s.makePart q with
        | .error status => s.applyFails p status r.good q true
        | .ok x =>
          let s := s.updSlot s.otherSlot (fun y => { y with images := y.images.take q ++ [x] })
          s.updRun p (fun r => { r with phase := q + 2, good := r.good + (if entryAt m q 1 1 = 0 then 0 else 2 ^ q) })
    else
      let s := s.updSlot s.otherSlot (fun y => { y with state := 2, manifest := m })
      let s := { s with dyke := { s.dyke with applied := true } }.showSlot.updateRecord 0x0803 0 (manVersion m) r.good 0xFF
      s.respondOk p (leBytes 2 r.good ++ leBytes 1 0xFF ++ [0] ++ leBytes 4 (manVersion m))))

/-- UPDATE_ACTIVATE (R252, R444, R451): with MODE 1 the seal record and a warm reset follow the response. -/
def execUpdateActivate (p : Nat) (norOk : Bool) (s : State) : Host.Outcome State Fault Refusal :=
  .next (s.onCommand p 0x0804 (fun s =>
    let v := manVersion (s.slot s.otherSlot).manifest
    let now := s.req p 16 1 == 1
    if norOk then
      let s := s.writePointer s.otherSlot true 0 s.runSlot
      let s := { s with dyke := { s.dyke with owner := none, applied := false } }.updateRecord 0x0804 0 v 0 0xFF
      ((s.when now (fun s => s.sealRecord 1)).respondOk p).when now (fun s => s.requestReset 2 0 0)
    else
      let s := { s with dyke := { s.dyke with owner := none, applied := false } }.updateRecord 0x0804 0x0164 v 0 0xFF
      s.respondBad p 0x0164))

/-- UPDATE_STATUS (R250, R452). -/
def execUpdateStatus (p : Nat) (s : State) : Host.Outcome State Fault Refusal :=
  .next (s.onCommand p 0x0805 (fun s =>
    let left := (List.range 8).foldl (fun n c => min n (64 - s.get (.DYKE_FLOOR_COUNT c))) 64
    s.respondOk p (leBytes 1 s.runSlot ++ leBytes 1 (s.get .DYKE_SLOT_INACTIVE) ++ leBytes 1 s.booted.toNat ++ [0] ++
      leBytes 4 (manVersion (s.slot s.runSlot).manifest) ++ leBytes 4 (manVersion (s.slot s.otherSlot).manifest) ++
      leBytes 4 (s.get (.DYKE_FLOOR_COUNT 7)) ++ leBytes 2 left ++ leBytes 6 0)))

/-- UPDATE_ABORT (R251): of the owner's update; another session's command changes nothing. -/
def execUpdateAbort (p : Nat) (s : State) : Host.Outcome State Fault Refusal :=
  .next (s.onCommand p 0x0806 (fun s =>
    let s := s.when (s.dyke.owner == some (s.mbxKey p)) (fun s =>
      if s.dyke.applied then { s with dyke := { s.dyke with owner := none, applied := false } } else s.dropUpdate)
    s.respondOk p))

/-- The counter that UPDATE_FLOOR raises next (R452): 0 to 6 to the running part's SVN, then 7 to MSVN. -/
def State.nextFuse (s : State) : Option Nat :=
  let m := (s.slot s.runSlot).manifest
  (List.range 8).find? (fun c => decide (s.get (.DYKE_FLOOR_COUNT c) < (if c = 7 then manSvn m else entryAt m c 8 1)))

/-- UPDATE_FLOOR (R452): one fuse at an execution. -/
def execUpdateFloor (p : Nat) (s : State) : Host.Outcome State Fault Refusal :=
  .next (s.onCommand p 0x0807 (fun s =>
    match s.nextFuse with
    | some c => s.set (.DYKE_FLOOR_COUNT c) (s.get (.DYKE_FLOOR_COUNT c) + 1)
    | none =>
      let v := manVersion (s.slot s.runSlot).manifest
      (s.updateRecord 0x0807 0 v 0 0xFF).respondOk p (leBytes 4 (s.get (.DYKE_FLOOR_COUNT 7)))))

end Sys2Proof.Machine
end

