-- ==== Sys2Proof/Machine/Boot.lean ====
section
/-! DEFINITION. From a reset to media ready: the boot ROM and Dyke's runtime (R429–R443, R447), Aqsia's boot (R478) and the start
sequence (R475–R486). -/

namespace Sys2Proof.Machine

/-! ### The boot ROM (R439, R440) -/

/-- What a fixture has programmed while the drive was off (R447). -/
def State.fixture (s : State) (x : BootFound) : State :=
  let copies := x.copies.foldl (fun t e => Tab.put t e.1 e.2) s.dyke.copies
  let slots := x.slots.foldl (fun t e => Tab.put t e.1 e.2) s.dyke.slots
  { s with dyke := { s.dyke with copies := copies, slots := slots } }

/-- What MR0 is extended with (R434): the boot ROM version, DYKE_CHIP_ID, LIFECYCLE, DM_KEY_HASH, the floor counters. -/
def State.romBytes (s : State) : List Byte :=
  Config.romVersion ++ leBytes 4 (s.wordOf .DYKE_CHIP_ID_PART) ++ leBytes 1 (s.get .DYKE_STATUS_LIFECYCLE) ++
    secretBytes s.dyke.keyHash ++ (List.range 8).flatMap (fun p => leBytes 1 (s.get (.DYKE_FLOOR_COUNT p)))

/-- A slot passes steps 3 to 6 of R439 (R440): its signatures, hashes, floors and MIN_STEP; in BLANK only with the factory strap. -/
def State.slotOk (s : State) (i : Nat) : Bool :=
  let m := (s.slot i).manifest
  (s.enrolled || s.is .DYKE_STATUS_STRAP) && s.manifestOk m && decide (manStep m ≤ s.chipStep) && (s.floorCheck m).isNone &&
    (List.range 7).all (fun p => imageOk m p (s.image i p))

/-- Slot i is marked invalid. -/
def State.spoilSlot (s : State) (i : Nat) : State := s.updSlot i (fun x => { x with state := 3 })

/-- The slot that the pointer asks for (R440), with TRIAL, TRIES and FALLBACK. -/
def State.chooseSlot (s : State) : (Nat × Bool × Nat × Bool) × State :=
  match s.pointer with
  | some (_, x) =>
    if x.trial then
      if x.tries < 2 then ((x.slot, true, x.tries + 1, false), s.writePointer x.slot true (x.tries + 1) x.prev)
      else ((x.prev, false, 0, true), (s.writePointer x.prev false 0 x.slot).spoilSlot x.slot)
    else ((x.slot, false, x.tries, false), s)
  | none => ((0, false, 0, false), s)

/-- KIND of the boot (R443). -/
def State.bootKind (s : State) : Nat :=
  match s.get .LEV_RESET_CAUSE_CAUSE with
  | 0 => 0
  | 3 => 2
  | _ => 1

/-- FLAGS of the boot record (R443). -/
def State.bootFlags (s : State) : Nat :=
  s.get .DYKE_BOOT_TRIAL + 2 * s.get .DYKE_BOOT_FALLBACK + 4 * s.get .DYKE_STATUS_FACTORY + 8 * s.get .DYKE_STATUS_STRAP +
    16 * s.get .DYKE_STATUS_LIFECYCLE

/-- The boot ends without a runtime (R430, R440): 4 RECOVERY, 5 HALT, until power-on reset. -/
def State.bootStop (s : State) (stage : Nat) : State :=
  { s with dyke := { s.dyke with stuck := true } }.set .DYKE_STATUS_STAGE stage

/-- A blown fuse of an interrupted enrolment is not a 1 of the manifest's key hash (R447). -/
def State.keyClash (s : State) (i : Nat) : Bool :=
  !s.enrolled && s.dyke.keyHash &&& sha384 (manKey (s.slot i).manifest) != s.dyke.keyHash

/-- The measurements of a verified slot (R434): MR1 to MR9. -/
def State.measureSlot (s : State) (i : Nat) : State :=
  let m := (s.slot i).manifest
  let s := s.extendMr 1 (imageHash m 1)
  let s := s.extendMr 2 (sha384Bytes (m.take 1808))
  let s := s.forN 5 (fun k s => s.extendMr (3 + k) (imageHash m (2 + k)))
  let s := s.extendMr 8 (imageHash m 0)
  s.extendMr 9 (sha384Bytes (leBytes 1 (s.get .DYKE_BOOT_KIND) ++ leBytes 1 i ++ leBytes 1 s.bootFlags))

/-- The four layers (R432, R433): the layer 0 seed, CDI1 to CDI3, UDS_LOCK; then certificates 0x00 to 0x03, each from 0x01 with the
registers that feed its CDI. -/
def State.deriveKeys (s : State) : State :=
  let mrs (a n : Nat) : List Byte := (List.range n).flatMap (fun k => s.mr (a + k))
  let c1 := hmac Config.uds (mrs 0 2)
  let c2 := hmac (secretBytes c1) (mrs 2 6)
  let c3 := hmac (secretBytes c2) (mrs 8 2)
  let s := { s with dyke := { s.dyke with seed := hmac Config.uds [0x4C, 0x30], cdi := [(1, c1), (2, c2), (3, c3)] } }
  let s := s.set .DYKE_STATUS_UDS_LOCK 1
  let cert0 := Config.certificate 0 (s.layerSeed 0) 0 (s.uidBytes ++ Config.cert0Sig) 0
  let cert (k : Nat) (carried : List Byte) : Nat × List Byte :=
    (k, Config.certificate k (s.layerSeed k) (s.layerSeed (k - 1)) carried (s.drawn + k))
  { s with
    drawn := s.drawn + 4
    dyke := { s.dyke with certs := [(0, cert0), cert 1 (mrs 0 2), cert 2 (mrs 2 6), cert 3 (mrs 8 2)] } }

/-- Slot i boots: measured, its keys derived, FEN in TCM, the parts' versions shown, Mire and Fen core 0 released (R439). -/
def State.bootSlot (s : State) (i : Nat) (trial : Bool) (tries : Nat) (fallback : Bool) (found : BootFound) : State :=
  let m := (s.slot i).manifest
  let s := ((s.setIf .DYKE_BOOT_TRIAL trial).setIf .DYKE_BOOT_FALLBACK fallback).set .DYKE_BOOT_TRIES tries
  let s := (s.set .DYKE_BOOT_ROM_TIME found.time).set .DYKE_SLOT_RUNNING i
  let s := (s.forN 7 (fun p s => s.set (.DYKE_VER_VERSION p) (entryAt m p 4 4))).showSlot
  let s := (s.measureSlot i).deriveKeys
  let s := (s.writeSram 0x2000_0000 (s.image i 0)).set .DYKE_STATUS_STAGE 2
  let s := s.when (s.committed && s.is .WEIR_AON_STATUS_WARM_PF) (fun s =>
    { s with weir := { s.weir with mireDelay := s.get .WEIR_STATUS_PF_MS } })
  let s := { s with mireRuns := true, warmBusy := false, dyke := { s.dyke with completed := false, hostSeen := false, changed := found.changed, recorded := false, bootBody := [] } }
  s.updAq (fun a => { a with
    chan := if s.partChanged 4 then a.chan else entryAt m 4 4 4
    servoTbl := if s.partChanged 5 then a.servoTbl else entryAt m 5 4 4 })

/-- A slot that is to boot: it boots, or an interrupted enrolment with another key halts the chip (R447). -/
def State.tryBoot (s : State) (i : Nat) (trial : Bool) (tries : Nat) (fallback : Bool) (found : BootFound) : State :=
  if s.keyClash i then s.bootStop 5 else s.bootSlot i trial tries fallback found

/-- BOOT_ROM (R430, R431, R439, R440): after a reset of either kind, unless Dyke is stopped. A slot that fails is marked invalid and
the other one boots with FALLBACK; with both failed Dyke waits in RECOVERY. By then DRAM has left self-refresh (R331: within 2 ms of a warm
reset). -/
def execBootRom (found : BootFound) (s : State) : Host.Outcome State Fault Refusal :=
  let s := s.when s.warmBusy (fun s => s.updSlu (fun u => { u with selfRefresh := false }))
  if !s.weir.powered || s.dyke.stuck || s.mireRuns || s.get .DYKE_STATUS_STAGE != 0 then .next s
  else
    let s := s.when (s.bootKind == 0) (fun s => s.fixture found)
    let s := s.when found.otpCorrected (fun s => s.raise 0x0F01)
    if found.otpFatal then .next (s.bootStop 5)
    else
      let factory := !s.enrolled && s.is .DYKE_STATUS_STRAP
      let s := (s.setIf .DYKE_STATUS_FACTORY factory).setIf .LEV_STATUS_FACTORY factory
      let s := (s.extendMr 0 (sha384Bytes s.romBytes)).set .DYKE_BOOT_KIND s.bootKind
      let ((i, trial, tries, fallback), s) := s.chooseSlot
      if s.slotOk i then .next (s.tryBoot i trial tries fallback found)
      else
        let s := s.spoilSlot i
        if s.slotOk (1 - i) then .next (s.tryBoot (1 - i) false tries true found)
        else .next ((s.spoilSlot (1 - i)).bootStop 4)

/-! ### Trials, enrolment, the boot record, extends -/

/-- A trial or a BLANK boot completes (R441, R447): the pointer is CONFIRMED on the running slot; in BLANK its key is enrolled. -/
def State.completeBoot (s : State) : State :=
  let s := s.when (s.is .DYKE_BOOT_TRIAL) (fun s => s.writePointer s.runSlot false 0 s.otherSlot)
  let s := { s with dyke := { s.dyke with completed := true } }
  if s.enrolled then s
  else
    let s := { s with dyke := { s.dyke with keyHash := sha384 (manKey (s.slot s.runSlot).manifest) } }
    s.set .DYKE_STATUS_LIFECYCLE 1

/-- TRIAL_CONFIRM (R441, R447): AQSIA_UP is set and a class 0 session has opened, before the 60 s have ended. -/
def execTrialConfirm (s : State) : Host.Outcome State Fault Refusal :=
  let due := s.aqsiaActs && s.dyke.hostSeen && !s.dyke.completed && (s.is .DYKE_BOOT_TRIAL || !s.enrolled)
  let late := match s.lev.resetReq with
    | some (cause, _, _) => cause == 4
    | none => false
  .next (s.when (due && !late) State.completeBoot)

/-- TRIAL_TIMEOUT (R442). -/
def execTrialTimeout (s : State) : Host.Outcome State Fault Refusal :=
  .next (s.when (decide (2 ≤ s.get .DYKE_STATUS_STAGE) && s.is .DYKE_BOOT_TRIAL && !s.dyke.completed) (fun s => s.requestReset 4 0 0))

/-- Bytes 0 to 559 of the boot record (R443). -/
def State.bootRecordBytes (s : State) : List Byte :=
  let m := (s.slot s.runSlot).manifest
  leBytes 1 1 ++ leBytes 1 (s.get .DYKE_BOOT_KIND) ++ leBytes 1 s.runSlot ++ leBytes 1 s.bootFlags ++
    leBytes 4 (s.get .PEAT_PCC_COUNT) ++ leBytes 1 (s.get .MBX_EPOCH_WARM) ++ leBytes 1 (s.get .LEV_RESET_CAUSE_CAUSE) ++
    leBytes 2 (s.get .LEV_RESET_CAUSE_SOURCE) ++ leBytes 4 (manVersion m) ++
    (List.range 7).flatMap (fun p => leBytes 4 (s.get (.DYKE_VER_VERSION p))) ++
    (List.range 7).flatMap (fun p => leBytes 1 (entryAt m p 8 1)) ++ leBytes 1 (manSvn m) ++
    (List.range 8).flatMap (fun p => leBytes 1 (s.get (.DYKE_FLOOR_COUNT p))) ++ leBytes 4 (s.wordOf .DYKE_CHIP_ID_PART) ++
    (List.range 10).flatMap (fun r => s.mr r) ++ leBytes 8 s.opt ++ leBytes 8 0

/-- BOOT_RECORD (R443): once after AQSIA_UP, signed with the layer 1 key. -/
def execBootRecord (s : State) : Host.Outcome State Fault Refusal :=
  .next (s.when (s.aqsiaActs && !s.dyke.recorded) (fun s =>
    let b := s.bootRecordBytes
    let (sig, s) := s.signBy 1 b
    let s := { s with dyke := { s.dyke with recorded := true, bootBody := b ++ sig } }
    s.peatRecord 0 0x0001 (b ++ sig)))

/-- DYKE_MR_EXT (R435): GO with REG. A Fen core may not write the window (R14); with domain 99 gated the store meets a bus error (R33). -/
def execDykeMrExt (who : Who) (reg : Nat) (s : State) : Host.Outcome State Fault Refusal :=
  .next (s.reach who fenMayStore 0x4C00_0020 4 (fun _ _ s =>
    let s := s.set .DYKE_MR_EXT_REG reg
    if reg % 16 < 10 then s.set .DYKE_MR_EXT_ERR 1
    else s.extendMr (reg % 16) ((List.range 12).flatMap (fun w => leBytes 4 (s.dyke.ext.at w).toNat))))

/-! ### Aqsia's boot (R478) -/

/-- The greatest operating time of a record in Peat's areas (R51). -/
def State.areaOpt (s : State) : Nat :=
  s.peat.areas.foldl (fun k e => e.2.records.foldl (fun k r => max k r.2.opt) k) 0

/-- The operating-time lock is committed at the greater of the saved count and the areas' (R51), unless it is held from before. -/
def State.commitOpt (s : State) : State :=
  if s.is .TIDE_STATUS_OPT_LOADED then s
  else
    let t := max s.peat.savedOpt s.areaOpt
    ((((s.set .TIDE_OPT_HI_MS_HI (t / 2 ^ 32)).set .TIDE_OPT_LO_MS_LO t).set .TIDE_STATUS_OPT_LOADED 1)).stampStaged

/-- PEAT_PCC takes the saved count plus 1 and its lock is committed (R465), once per power-on reset; MBX_EPOCH.PCC follows (R212). -/
def State.commitPcc (s : State) : State :=
  let s := if s.peat.pccLocked then s
    else (s.lockPcc ((s.peat.savedPcc + 1) % 2 ^ 32)).stampStaged
  s.set .MBX_EPOCH_PCC (s.get .PEAT_PCC_COUNT)

/-- Pair p is answered after a warm reset, by its state at the reset (R221). -/
def State.answerReset (s : State) (p : Nat) : State :=
  let (session, gen) := s.mbxKey p
  let st := s.get (.MBX_LATCH_RSP_STATUS p)
  match s.mbx p with
  | 1 => s.writeRsp p 0x50 false session gen []
  | 2 => s.writeRsp p 0x50 true session gen []
  | 3 => s.writeRsp p (if st = 0 then 0x52 else st) (s.is (.MBX_STAT_STARTED p)) session gen []
  | _ => s

/-- The factory's motor and timebase calibration (R44, R67, R437). -/
def State.loadMotorCal (s : State) (c : MotorCal) : State :=
  let s := (s.set .WTH_SPN_KE_KE_NOM c.ke).set .TIDE_T1_OFS_OFS c.t1
  let s := s.forN 24 (fun i s => s.set (.TIDE_SURF_OFS_OFS i) (c.surf.getD i 0))
  s.forN 4 (fun k s =>
    let w := c.ret.getD k 0
    let s := (s.set (.WTH_RET_CFG_VEL k) (w / 2 ^ 20)).set (.WTH_RET_CFG_RCOIL k) (w / 2 ^ 12)
    (s.set (.WTH_RET_CFG_IMAX k) (w / 2 ^ 4)).set (.WTH_RET_CFG_DIR k) w)

/-- The Reed control stores are loaded (R147): the REED part, word a at its bytes 4a to 4a + 3, below the format-program area, with
Broeno's base programs of R512 in their place, then the persisted programs (R244). A part that no longer reads back as verified is not
loaded (R439). -/
def State.loadReed (s : State) : State :=
  if s.partChanged 3 then s.raise 0x0F03 else
  let image := s.image s.runSlot 3
  let words := (List.range (min 0x3000 (image.length / 4))).map (fun a => BitVec.ofNat 32 (fieldAt image (4 * a) 4))
  let s := s.aq.progs.foldl (fun s x => s.placeProgram x.addr x.words) ((s.placeProgram 0 words).placeProgram 0 baseProgram)
  (s.set .REED_UCODE_VER_BASE 0x0304).set .REED_UCODE_VER_PATCH 0

/-! ### The start sequence (R475, R479–R486) -/

/-- Every link has been found or has failed (R479). -/
def State.discovered (s : State) : Bool := (List.range 5).all (fun l => (s.link l).state != 0)

/-- Step 6 (R239): the servo tables. A mismatch ends the start with CAUSE 6. -/
def State.startTables (s : State) : State :=
  let s := s.set .MBX_START_STEP 6
  match s.loadTables with
  | (none, s) => s.forN 4 (fun k s => s.fetchRegion k (s.get (.TUS_SEC_STATUS_REGION k)))
  | (some _, s) => (s.startCause 6 0).endStart 2

/-- Step 7 (R480): the spindle starts once the chopper is tested; a fault of it ends the start with CAUSE 3. -/
def State.startSpindle (s : State) : State :=
  if s.is .WEIR_STATUS_CHOP_FAULT then (s.startCause 3 0).endStart 2
  else if s.is .WEIR_STATUS_CHOP_TESTED then (((s.setSource 0).setSpeed s.aq.target).set .MBX_START_STEP 7).runStart
  else s

/-- Faults of steps 7 and 8 (R480, R481): WTH_START_FAIL, which FAULT with three failed attempts shows, and TIDE_ACQ_FAIL are met with
one more start each. -/
def State.watchStart (s : State) (emf : Nat) : State :=
  if s.spinIs 9 || s.spinIs 8 then
    if s.spinIs 9 && 3 ≤ s.get .WTH_SPN_STATUS_ATTEMPT && s.aq.spinFails == 0 then
      s.when (s.atRest emf) (fun s => ((s.spinTo 0 .off).updAq (fun a => { a with spinFails := 1 })).runStart)
    else (s.startCause 4 0).endStart 2
  else if 2 ≤ s.aq.acqFails then (s.startCause 5 0).endStart 2
  else if s.aq.acqFails = 1 ∧ !s.aq.respun then
    if s.spinIs 0 then (s.updAq (fun a => { a with respun := true })).runStart
    else s.when (s.is .WTH_SPN_CTRL_RUN) State.runStop
  else s

/-- SPINDLE_START (R475, R480, R481, R486): what the start sequence can do now of steps 6 to 8. After a warm reset of KIND 1 Aqsia only
loads the tables and re-attaches the sections. -/
def execSpindleStart (emf : Nat) (s : State) : Host.Outcome State Fault Refusal :=
  if !s.aqsiaActs || !s.aq.starting then .next s
  else match s.get .MBX_START_STEP with
    | 5 =>
      if !s.discovered then .next s
      else
        let s := s.startTables
        if !s.aq.starting then .next s
        else if s.get .MBX_START_KIND = 1 then .next (s.endStart 1)
        else if s.get .MBX_START_RESULT = 2 then .next (s.endStart 2)
        else .next s.startSpindle
    | 6 => .next s.startSpindle
    | 7 | 8 => .next (s.watchStart emf)
    | _ => .next s

/-- Step 9 ends (R482): the service source is restored; a loaded section makes the start READY, after the band check where a commit
preceded it. -/
def State.endLoads (s : State) : State :=
  let s := s.setSource s.aq.src
  if s.allParked then s.endStart 2
  else if s.aq.bandCheck then (s.updAq (fun a => { a with checked := [] })).set .MBX_START_STEP 10
  else (s.set .MBX_START_STEP 11).endStart 1

/-- HEAD_LOAD (R482): each execution ends one section's load, at `lock`, and starts the next; sections that failed are loaded once more
after the rest, and fail for good with CAUSE 7. -/
def execHeadLoad (lock : Option Nat) (s : State) : Host.Outcome State Fault Refusal :=
  let step := s.get .MBX_START_STEP
  if !s.aqsiaActs || !s.aq.starting || step < 7 || 9 < step then .next s
  else
    let s := s.when (decide (step < 9) && s.spindleReady) (fun s =>
      (s.set .MBX_START_STEP 9).updAq (fun a => { a with toLoad := (List.range 4).filter (fun k => (s.link k).state == 1) }))
    if s.get .MBX_START_STEP < 9 then .next s
    else
      let s := match s.aq.loading with
        | some k =>
          let (ok, s) := s.endLoad k lock
          let s := s.updAq (fun a => { a with loading := none })
          if ok then s
          else if s.aq.second then s.startCause 7 (2 ^ k)
          else s.updAq (fun a => { a with again := a.again ++ [k] })
        | none => s
      let s := s.when (s.aq.toLoad.isEmpty && !s.aq.second) (fun s =>
        s.updAq (fun a => { a with toLoad := a.again, again := [], second := true }))
      match s.aq.toLoad with
      | k :: rest => .next ((s.startLoad k).updAq (fun a => { a with toLoad := rest, loading := some k }))
      | [] => .next s.endLoads

/-- BAND_CHECK (R485): section k's flushed extents have been read, and their unrecovered sectors are markers. After the last loaded
section the start is READY. -/
def execBandCheck (k : Nat) (s : State) : Host.Outcome State Fault Refusal :=
  if !s.aqsiaActs || !s.aq.starting || s.get .MBX_START_STEP != 10 then .next s
  else
    let s := s.updAq (fun a => { a with checked := k :: a.checked.filter (· ≠ k) })
    if (List.range 4).all (fun j => s.parkedSec j || j ∈ s.aq.checked) then .next ((s.set .MBX_START_STEP 11).endStart 1)
    else .next s

end Sys2Proof.Machine
end

