-- ==== Sys2Proof/Machine/Power.lean ====
section
/-! DEFINITION. Power-on, the power-fail sequence from the commit to its end, and the resets (R11, R22, R305, R307, R321, R331, R355,
R369, R393–R408, R423, R424). -/

namespace Sys2Proof.Machine

/-! ### Power-on reset (R11, R397) -/

/-- The number of stream k's next record, from its newest record in NOR (R473). -/
def State.norSeq (s : State) (k : Nat) : Nat :=
  let last (a : Nat) : Option Nat := ((s.peat.areas.at a).records.getLast?).map (fun e => (e.2.rseq + 1) % 65536)
  (last (circArea k)).getD ((last (permArea k)).getD 0)

/-- What outlives power-on reset: NOR, OTP, the always-on domain and the power-control die's retract (R61, R79, R408, R429, R436, R437,
R458); everything else is as after power-on reset. -/
def State.heldDies (s : State) : State :=
  let persisted := s.aq.progs.filter (fun x => x.persist)
  let moving (k : Nat) : Bool := decide (s.withy.retract.at k ≠ .none)
  let die := (List.range 4).any moving
  let t : State :=
    { pending := s.pending
      drawn := s.drawn
      bus := s.bus
      weir := { iso := s.weir.iso }
      withy := { retract := s.withy.retract, vcm := s.withy.vcm.filter (fun e => moving e.1), dieOff := die
                 bridge := if die then s.withy.bridge else .off }
      sth := { mirror := s.sth.mirror }
      peat := { areas := s.peat.areas, mrSets := s.peat.mrSets, badBlocks := s.peat.badBlocks, savedOpt := s.peat.savedOpt,
                savedPcc := s.peat.savedPcc, saves := s.peat.saves }
      aq := { progs := persisted, binds := s.aq.binds.filter (fun b => persisted.any (fun x => x.prog == b.prog)), cal := s.aq.cal,
              bandCheck := s.aq.bandCheck }
      dyke := { copies := s.dyke.copies, uid := s.dyke.uid, keyHash := s.dyke.keyHash
                slots := s.dyke.slots.mapAll (fun x => if x.state = 1 then { x with state := 3 } else x) } }
  (t.putReg 0x4A00_0040 (s.regAt 0x4A00_0040)).putReg 0x4A00_0044 (s.regAt 0x4A00_0044)

/-- The control and mixed-signal dies are held in power-on reset. Sections that are not parked retract, since the heartbeat is lost
(R79); the spindle's bridge is left to the power-control die, which turns it off once they have (R61). -/
def State.holdReset (s : State) : State :=
  let s := s.retractAll
  let t := s.heldDies.set .DYKE_STATUS_LIFECYCLE (s.get .DYKE_STATUS_LIFECYCLE)
  let t := t.forN 8 (fun p t => t.set (.DYKE_FLOOR_COUNT p) (s.get (.DYKE_FLOOR_COUNT p)))
  let t := (t.forN 5 (fun k t => t.set (.PEAT_RSEQ_NEXT k) (s.norSeq k))).set .PEAT_MRSETS_COUNT s.peat.mrSets.length
  let t := t.forN 10 (fun a t => t.areaStatus a)
  t.forN 4 (fun k t =>
    let active := s.get (.WTH_VCM_STATUS_RET_ACTIVE k)
    let t := (t.set (.WTH_VCM_STATUS_RET_ACTIVE k) active).set (.WTH_VCM_STATUS_ENABLED k) active
    t.set (.WTH_VCM_STATUS_PARKED k) (s.get (.WTH_VCM_STATUS_PARKED k)))

/-- The straps are latched (R11, R493): 3 is latched as 0. -/
def State.latchStraps (s : State) (x : Straps) : State :=
  let two (v : Nat) : Nat := if v % 4 = 3 then 0 else v % 4
  let s := (s.set .SLU_DRAM_CFG_SIZE (two x.dramSize)).set .SLU_DRAM_CFG_RATE (two x.dramRate)
  { s.setIf .DYKE_STATUS_STRAP x.factory with dyke := { s.dyke with norMode := two x.xspi } }

/-- Steps 2 to 6 of R397: the regulators start, and with every one of them good power-on reset is released; the straps are latched, OTP is
loaded (R11, R429) and the chopper's test waits (R406). Without, Weir records WEIR_REG_FAULT and retries. -/
def State.startRails (s : State) (good : Bool) (straps : Straps) : State :=
  let s := { s with weir := { s.weir with iso := if good then .diode else .softStart, brdEn := good, retryDue := !good } }
  let s := s.set .WEIR_STATUS_ISO_OFF 0
  if good then
    let s := { s with
      weir := { s.weir with powered := true, testPending := true }
      withy := { s.withy with bridge := .off, dieOff := false } }
    let s := (s.set .WEIR_REG_STATUS_PG 15).set .WEIR_REG_STATUS_BRD_PG 1
    let s := (s.latchStraps straps).slotCap
    { s with dyke := { s.dyke with uid := (List.range 4).map (fun k => (k, Config.uid k)) } }
  else s.set .WEIR_FAULT_SRC (s.get .WEIR_FAULT_SRC ||| 2 ^ 7)

/-- POWER_ON (R397). -/
def execPowerOn (good : Bool) (straps : Straps) (s : State) : Host.Outcome State Fault Refusal :=
  .next (s.when (!s.weir.powered) (fun s => s.startRails good straps))

/-- WEIR_RETRY (R394, R397). -/
def execWeirRetry (good : Bool) (straps : Straps) (s : State) : Host.Outcome State Fault Refusal :=
  .next (s.when (!s.weir.powered && s.weir.retryDue) (fun s => s.startRails good straps))

/-- The dies lose their supplies: Weir's regulators and BRD_EN are off, the isolation FETs as given. -/
def State.railsOff (s : State) (iso : IsoMode) : State :=
  let s := s.holdReset
  { s with weir := { s.weir with iso := iso } }

/-- SUPPLY_LOSS (R397): Weir returns to step 1. -/
def execSupplyLoss (s : State) : Host.Outcome State Fault Refusal := .next (s.railsOff .off)

/-- WEIR_REG_FAULT (R394, R397): power-on reset is held, with a retry due and the isolation FETs as they are. -/
def execWeirRegFault (s : State) : Host.Outcome State Fault Refusal :=
  .next (s.when s.weir.brdEn (fun s =>
    let off := s.get .WEIR_STATUS_ISO_OFF
    let s := (s.weirFault 7).holdReset
    let s := { s with weir := { s.weir with retryDue := true } }
    (s.set .WEIR_STATUS_ISO_OFF off).set .WEIR_FAULT_SRC (2 ^ 7)))

/-- VAON_LOST (R394, R408): the always-on domain loses its content; nothing else is supplied either. -/
def execVaonLost (s : State) : Host.Outcome State Fault Refusal :=
  .next (((s.railsOff .off).putReg 0x4A00_0040 0).putReg 0x4A00_0044 0)

/-! ### The commit (R400) -/

/-- Operations started with FLUSH = 0 terminate (R141). -/
def State.pfTerminate (s : State) : State :=
  s.forN 8 (fun n s => s.when (s.running n && !(s.seq n).flush) (fun s => s.terminate n 2 7))

/-- The fate of a live context at the commit (R307), or the ledger entry whose flush decides it: 32,768 where its data has left the
ledger. -/
def State.commitFate (s : State) (x : Nat) (c : Ctx) : State :=
  let r (fate reason : Nat) : FateRecord := s.fateOf c fate reason 3
  if c.state ≤ 2 then s.addFate (r 2 0)
  else if c.cmd.op.carriesData then
    if c.ledgered then
      let i := match c.ledger with
        | some i => if (s.slu.ledger.at i).ctx = x ∧ ((s.slu.ledger.at i).state = 2 ∨ (s.slu.ledger.at i).state = 3) then i else 32768
        | none => 32768
      s.updSth (fun h => { h with deferred := h.deferred ++ [(i, r 1 0)] })
    else if 0 < c.moved then s.addFate (r 3 5)
    else s.addFate (r 2 0)
  else if c.cmd.op.readKind then s.addFate (if c.xfer then r 3 8 else r 2 0)
  else s.addFate (r 3 7)

/-- Every live context ends at the commit (R307). -/
def State.commitContexts (s : State) : State :=
  s.bySeq.foldl (fun s e => (s.commitFate e.1 e.2).freeCtx e.1) s

/-- Pair p's request is answered ABORTED_POWERFAIL (R223); an update that it belongs to stops early (R252, R457). -/
def State.abortPair (s : State) (p : Nat) (started : Bool) : State :=
  if !started then s.respond p 0x51 false
  else match s.mbxCmd p with
    | 0x0801 | 0x0802 => s.dropUpdate.respondBad p 0x51
    | 0x0803 => s.applyFails p 0x51 (s.run p).good 0xFF false
    | 0x0807 => (s.updateRecord 0x0807 0x51 (manVersion (s.slot s.runSlot).manifest) 0 0xFF).respondBad p 0x51
    | 0x0601 => s.psEnd p 0x51
    | 0x0503 => ((s.updAq (fun a => { a with load := none })).updMq (fun m => { m with progHold := false })).respondBad p 0x51
    | _ => s.respondBad p 0x51

/-- Every PENDING and RUNNING request is answered, and listed in a record of Peat's power stream (R223). -/
def State.commitMailboxes (s : State) : State :=
  let jobs := s.aq.ring.map (fun p => (p, false)) ++ s.aq.running.map (fun e => (e.1, true))
  (jobs.foldl (fun s j => s.abortPair j.1 j.2) s).abortRecord (jobs.map (·.1))

/-- What Mire and Dyke do at the commit, or, where it was latched while no firmware ran, once Aqsia runs (R24, R223, R252, R282, R444,
R467, R484). -/
def State.commitFirmware (s : State) : State :=
  let s := s.commitQueues
  let s := s.commitMailboxes
  let s := s.when (s.dyke.owner.isSome && !s.dyke.applied) State.dropUpdate
  let s := s.when s.aq.starting (fun s => (s.set .MBX_START_CAUSE 9).endStart 2)
  (s.updAq (fun a => { a with freezes := [] })).sealRecord 0

/-- The commit, with its cause (R400, R407): without a window before it, it opens one in the same cycle. -/
def State.commitPower (s : State) (cause : Nat) : State :=
  let s := s.when (s.get .WEIR_STATUS_PF == 0) State.openWindow
  let s := s.when s.warmBusy (fun s => s.set .WEIR_AON_STATUS_WARM_PF 1)
  let s := ((s.set .WEIR_STATUS_PF 2).set .WEIR_STATUS_PF_MS 0).set .WEIR_STATUS_CAUSE cause
  let s := ((s.set .WEIR_AON_STATUS_COMMIT_SEEN 1).set .WEIR_AON_STATUS_LAST_CAUSE cause).set .WEIR_AON_STATUS_LAST_MIN
    s.weir.low
  let s := s.incSat .WEIR_AON_CNT_COMMITS
  let s := { s with weir := { s.weir with late := false, mireDelay := 0, iso := .isolated } }.set .WEIR_STATUS_ISO_OFF 1
  let s := s.spinCommit.pfTerminate
  let s := (s.forN 8 (fun c s => s.when (s.fenRuns c) (fun s => s.irqFen c .nmi))).irqMire .commit
  let s := (s.weirFault 1).commitContexts
  let s := (s.forN 10 (fun a s => s.unfreeze a)).updAq (fun a => { a with bandCheck := true })
  let s := s.updMq (fun m => { m with flushEnded := false, full := [], bandAt := [] })
  s.when s.aqsiaActs State.commitFirmware

/-- POWER_FAIL_COMMIT (R396, R399, R400): the armed commit fires at `mv`. -/
def execPowerFailCommit (mv : Nat) (s : State) : Host.Outcome State Fault Refusal :=
  let s := s.measureV12 mv
  .next (s.when (s.weir.powered && s.is .WEIR_STATUS_COMMIT_ARMED && decide (s.get .WEIR_STATUS_PF < 2)) (fun s => s.commitPower 1))

/-- WEIR_OV_IN (R407): an overvoltage on V12_IN. -/
def execWeirOvIn (mv : Nat) (s : State) : Host.Outcome State Fault Refusal :=
  let s := s.measureV12 mv
  .next (s.when s.weir.powered (fun s =>
    let s := { s with weir := { s.weir with iso := .isolated } }.set .WEIR_STATUS_ISO_OFF 1
    (s.weirFault 2).when (decide (s.get .WEIR_STATUS_PF < 2)) (fun s => s.commitPower 2)))

/-- FEN_CLOCK_STOP (R400): domains 0 to 9 are off until the next reset. -/
def execFenClockStop (s : State) : Host.Outcome State Fault Refusal :=
  .next (s.when s.committed (fun s => { s with weir := { s.weir with fenForced := true } }))

/-- AQSIA_BOOT (R212, R221, R281, R308, R478): the locks are committed, after a warm reset the pairs are answered and the queues walked,
after power-on the fate log is read back from its mirror; the stores are loaded, MBX_START begins at discovery, and AQSIA_UP sets. A commit latched before it acts on Mire and Dyke now (R24). -/
def execAqsiaBoot (cal : MotorCal) (s : State) : Host.Outcome State Fault Refusal :=
  if !s.mireActs || s.aqsiaUp || s.get .DYKE_STATUS_STAGE != 2 then .next s
  else
    let kind := s.get .DYKE_BOOT_KIND
    let s := s.commitOpt.commitPcc
    let s := if kind = 0 then ((s.loadMotorCal cal).updSth (fun h => { h with fates := h.mirror.records })).fateStatus
      else
        let s := ((s.aq.atReset.foldl State.answerReset s).updAq (fun a => { a with atReset := [] })).walkQueues
        s.updAq (fun a => { a with ps := s.psReached })
    let s := [4, 6].foldl (fun s p => s.when (s.partChanged p) (fun s => s.raise 0x0F03)) s.loadReed
    let s := (((s.set .MBX_START_STEP 5).set .MBX_START_RESULT 0).set .MBX_START_CAUSE 0).set .MBX_START_KIND kind
    let s := (s.set .MBX_START_FAILED 0).set .MBX_START_LOADED 0
    let s := ((s.set .MBX_INFO_MAJOR 3).set .MBX_INFO_MINOR 4).set .MBX_INFO_AQSIA_UP 1
    let s := (s.updAq (fun a => { a with starting := true })).updMq (fun m => { m with bandHold := s.aq.bandCheck })
    .next ((s.set .DYKE_STATUS_STAGE 3).when s.committed State.commitFirmware)

/-! ### The flush (R321, R485) -/

/-- Section k can be flushed: loaded, and no retract of it runs. -/
def State.flushable (s : State) (k : Nat) : Bool := !s.parkedSec k && !s.is (.WTH_VCM_STATUS_RET_ACTIVE k)

/-- An entry put among entries in the order of LSEQ. -/
def lseqInsert (e : Nat × LedgerEntry) : List (Nat × LedgerEntry) → List (Nat × LedgerEntry)
  | [] => [e]
  | d :: l => if seqBefore d.2.lseq e.2.lseq then d :: lseqInsert e l else e :: d :: l

/-- The HELD and WRITING entries in ascending LSEQ. -/
def State.toFlush (s : State) : List Nat :=
  ((s.slu.ledger.filter (fun e => e.2.state = 2 ∨ e.2.state = 3)).foldr lseqInsert []).map (·.1)

/-- The sectors of entry `i` in a band: its header and its run (R485). -/
def State.flushLen (s : State) (i : Nat) : Nat := 1 + (s.slu.ledger.at i).count

/-- Where stream n writes next in its band extent, `done` sectors into an entry: the sector counted from the extent's first, the zone and
its row; none where the extent is full or there is none (R485). -/
def State.bandPlace (s : State) (n done : Nat) : Option (Nat × Nat × Config.ZoneRow) :=
  let b := Config.band s.aq.chan n
  match s.zoneAt b.surface b.first with
  | some (zone, z) =>
    let at_ := s.mq.bandAt.at n + done
    if at_ / z.sectors < b.tracks then some (at_, zone, z) else none
  | none => none

/-- The header sector of entry `i` on stream n, as far as it is not 0 (R485). -/
def State.flushHeader (s : State) (n i : Nat) : List Byte :=
  let e := s.slu.ledger.at i
  [0x50, 0x46, 0x4C, 0x31] ++ leBytes 4 (s.get .PEAT_PCC_COUNT) ++ leBytes 4 e.lseq ++
    (List.range 4).flatMap (fun w => leBytes 4 (e.word w)) ++ leBytes 2 e.count ++ leBytes 1 n ++ List.replicate 5 0

/-- What stream n flushes is now `r`. -/
def State.flushPut (s : State) (n : Nat) (r : Option FlushRun) : State :=
  s.updMq (fun m => { m with flushing := m.flushing.put n r })

/-- Stream n's Reed operation has ended: the flush goes on at the first uncommitted sector (R201). A fault of R278 or a program's own failure
ends its entry instead, with Aqsia's record (R144): it stays unflushed, and the stream writes the next one over it (DESIGN CHOICE: no rule
says where). -/
def State.flushCollect (s : State) (n : Nat) : State :=
  match s.mq.flushing.at n with
  | some r => s.when (0 < r.op && !s.running n) (fun s =>
      let term := s.get (.REED_ST_STATUS_TERM n)
      let result := s.get (.REED_ST_STATUS_RESULT n)
      let limit := term == 8
      let goes := (term == 0 && decide (result ≤ 1)) || term == 1 || term == 4 || (limit && !r.limited)
      let zone := ((s.bandPlace n r.done).map (fun p => p.2.1)).getD 0
      let failed := (term == 0 && decide (3 ≤ result)) || term == 5 || term == 6 || term == 7 || term == 9
      let s := s.when failed (fun s => s.programRecord n { prog := ((s.bindingFor 2 zone).map Binding.prog).getD 0 })
      (((s.served (.opEnd n)).served (.sectors n)).collect n).flushPut n (if goes then
        some { r with done := r.done + min (s.seq n).sectorsCommitted r.op, op := 0, limited := r.limited || limit } else none))
  | none => s

/-- A stream whose section cannot be flushed any more, or whose extent has filled, abandons its entry (R321, R485). -/
def State.flushAbandon (s : State) (n : Nat) : State :=
  match s.mq.flushing.at n with
  | some r =>
    if !s.flushable (n / 2) then s.flushPut n none
    else s.when (r.op == 0 && decide (r.done < s.flushLen r.entry) && (s.bandPlace n r.done).isNone) (fun s =>
      (s.flushPut n none).updMq (fun m => { m with full := m.full.put n true }))
  | none => s

/-- Each free stream with room in its extent takes the next entry of its section (R321). -/
def State.assignFlush (s : State) : State :=
  s.forN 8 (fun n s =>
    if s.flushable (n / 2) && (s.mq.flushing.at n).isNone && !s.mq.full.at n && (s.bandPlace n 0).isSome then
      match s.mq.flush.find? (fun i => (s.slu.ledger.at i).section_ == n / 2) with
      | some i => (s.updMq (fun m => { m with flush := m.flush.filter (· ≠ i) })).flushPut n (some { entry := i })
      | none => s
    else s)

/-- What stream n's flush does next, where no operation of it runs: its run, and its place in the extent. -/
def State.flushNext (s : State) (n : Nat) : Option (FlushRun × Nat × Nat × Config.ZoneRow) :=
  match s.mq.flushing.at n with
  | some r => if r.op = 0 ∧ r.done < s.flushLen r.entry then (s.bandPlace n r.done).map (fun p => (r, p)) else none
  | none => none

/-- The position of the track at which stream n's flush goes on, in 1/1,024 track. -/
def State.flushPos (s : State) (n : Nat) : Option Nat :=
  (s.flushNext n).map (fun x => 1024 * ((Config.band s.aq.chan n).first + x.2.1 / x.2.2.2.sectors))

/-- The lanes of section k go to the tracks at which their streams' flushes go on; a lane without one goes with the other (R109). -/
def State.flushSeek (s : State) (k : Nat) : State :=
  match s.flushPos (2 * k), s.flushPos (2 * k + 1) with
  | none, none => s
  | p, q =>
    let a := p.getD (q.getD 0)
    let lost (n pos : Nat) : Bool := !s.standsAt n pos && !s.seeksTo n pos
    let b := q.getD a
    s.when (s.lanesIdle k && ((p.isSome && lost (2 * k) a) || (q.isSome && lost (2 * k + 1) b))) (fun s =>
      (((s.putTarget k 0 a).putTarget k 1 b).set (.TUS_SEEK_CTRL_HINT k) 0).latchSeek k true)

/-- Stream n's next Reed operation of the flush, with FLUSH = 1, once its lane stands on the track and Tide is in LOCKED or SINGLE (R201)
and the stores are loaded (R147): an operation stays on one track; the first sector of an entry is its header. -/
def State.flushIssue (s : State) (n : Nat) : State :=
  match s.flushNext n, s.flushPos n with
  | some (r, at_, zone, z), some pos =>
    s.when (!s.running n && s.tideLocked && s.standsAt n pos && s.get .REED_UCODE_VER_BASE != 0) (fun s =>
      let count := min (s.flushLen r.entry - r.done) (z.sectors - at_ % z.sectors)
      let b := Config.band s.aq.chan n
      let run := s.runAddr (s.slu.ledger.at r.entry)
      let stage : Staging :=
        { active := true, meta_ := z.meta_, total := count
          buf := run + (r.done - 1) * s.unitSize
          header := if r.done = 0 then some (s.flushHeader n r.entry) else none }
      (s.flushPut n (some { r with op := count })).issueOp n b.surface b.first zone z
        { op := 2, at_ := at_, count := count, flush := true, stage := stage })
  | _, _ => s

/-- The flush starts (R321): the HELD and WRITING entries in ascending LSEQ, and each stream's head on its extent's surface (R485). -/
def State.startFlushing (s : State) : State :=
  let s := (s.updSlu (fun u => { u with flushing := true })).updMq (fun m => { m with flush := s.toFlush, flushing := [], full := [] })
  s.forN 8 (fun n s => s.when (s.flushable (n / 2)) (fun s => match s.bandPlace n 0 with
    | some (_, zone, _) => s.selectHead n (Config.band s.aq.chan n).surface zone
    | none => s))

/-- The flush goes on: streams take entries, lanes seek, operations start. -/
def State.flushWork (s : State) : State :=
  let s := ((s.forN 8 (fun n s => (s.flushCollect n).flushAbandon n)).assignFlush).forN 4 (fun k s => s.flushSeek k)
  s.forN 8 (fun n s => s.flushIssue n)

/-- No stream flushes an entry. -/
def State.flushIdle (s : State) : Bool := (List.range 8).all (fun n => (s.mq.flushing.at n).isNone)

/-- The deferred records (R307): durable where Mire has flushed the command's data, else POWERFAIL_LOST. -/
def State.writeDeferred (s : State) : State :=
  let l := s.sth.deferred
  let s := s.updSth (fun h => { h with deferred := [] })
  l.foldl (fun s e =>
    let st := (s.slu.ledger.at e.1).state
    s.addFate (if e.1 = 32768 ∨ st = 4 ∨ st = 5 then e.2 else { e.2 with fate := 3, reason := 4 })) s

/-- The fate log is mirrored to NOR under the next sequence number (R437). -/
def State.mirrorFates (s : State) : State :=
  s.updSth (fun h => { h with
    mirror := { seq := (h.mirror.seq + 1) % 2 ^ 32, pcc := s.get .PEAT_PCC_COUNT, records := h.fates } })

/-- The flush has ended (R79, R307, R402): the deferred records, the mirror of the fate log in NOR, and GO on all four sections. -/
def State.endFlushing (s : State) : State :=
  let s := s.updSlu (fun u => { u with flushing := false })
  let s := (s.updMq (fun m => { m with flush := [], flushing := [], flushEnded := true })).writeDeferred
  let s := s.mirrorFates
  (s.forN 4 (fun k s => s.startRetract k)).mwqSync

/-- POWER_FAIL_FLUSH (R201, R321, R485): once Aqsia runs after a commit (R24), the flush starts, and goes on with what can be done now. Once
nothing is left that can be flushed, it ends. -/
def execPowerFailFlush (s : State) : Host.Outcome State Fault Refusal :=
  if !s.committed || !s.aqsiaActs || s.weir.late || s.mq.flushEnded || s.mq.flushDead then .next s
  else
    let s := (s.when (!s.slu.flushing) State.startFlushing).flushWork
    .next (if s.flushIdle then s.endFlushing else s.mwqSync)

/-- FLUSH_ENTRY_DONE (R318, R321): the last sector of the entry that stream n writes has been committed. -/
def execFlushEntryDone (n entry : Nat) (s : State) : Host.Outcome State Fault Refusal :=
  .next (s.when (s.committed && s.slu.flushing) (fun s =>
    let s := s.flushCollect n
    match s.mq.flushing.at n with
    | some r => s.when (r.entry == entry && decide (s.flushLen entry ≤ r.done)) (fun s =>
        let s := (s.updMq (fun m => { m with bandAt := m.bandAt.put n (m.bandAt.at n + s.flushLen entry) })).flushPut n none
        ((s.updEntry entry (fun e => { e with state := 5, marks := [] })).assignFlush).mwqSync)
    | none => s))

/-! ### The end of the sequence (R402, R403) -/

/-- Ledger entries in some states. -/
def State.entriesIn (s : State) (l : List Nat) : Nat := (s.slu.ledger.filter (fun e => e.2.state ∈ l)).length

/-- The sequence ends (R74, R318, R403): PF is 3, what is HELD or WRITING is LOST, the spindle leaves RECTIFY and coasts. -/
def State.endSequence (s : State) : State :=
  let s := (s.set .WEIR_STATUS_PF 3).set .WEIR_AON_STATUS_WARM_PF 0
  let s := s.set .WEIR_AON_STATUS_LAST_MIN (min (s.get .WEIR_AON_STATUS_LAST_MIN) s.weir.low)
  let lose (e : Nat × LedgerEntry) : Nat × LedgerEntry :=
    if e.2.state = 2 ∨ e.2.state = 3 then (e.1, { e.2 with state := 6, marks := [] }) else e
  let s := (s.updSlu (fun u => { u with flushing := false, ledger := u.ledger.map lose })).sluStatus
  let s := (s.updMq (fun m => { m with flush := [], flushing := [] })).writeDeferred
  s.when (s.spinIs 7) (fun s => s.spinTo 0 .off)

/-- PF_DONE (R402, R457, R484): once the flush has ended and every section reads PARKED, Aqsia records the commit and writes DONE. -/
def execPfDone (s : State) : Host.Outcome State Fault Refusal :=
  .next (s.when (s.committed && s.aqsiaActs && s.mq.flushEnded && s.allParked) (fun s =>
    let s := s.peatRecord 2 0x0202 (leBytes 1 (s.get .WEIR_STATUS_CAUSE) ++ [0] ++ leBytes 2 (s.get .WEIR_MIN_V12_MV) ++
      leBytes 4 (s.entriesIn [5]) ++ leBytes 4 (s.entriesIn [2, 3, 6]))
    s.mirrorFates.endSequence))

/-- BUDGET and LATE as they act (R411). -/
def State.pfBudget (s : State) : Nat := max 100 (min 250 (s.get .WEIR_PF_CFG_BUDGET))
def State.pfLate (s : State) : Nat := min 100 (s.get .WEIR_PF_CFG_LATE)

/-- The late point after the commit (R402): later by the delay of a commit latched in a warm reset, but at most BUDGET − 20 ms. -/
def State.latePoint (s : State) : Nat :=
  let b := s.pfBudget - s.pfLate
  if s.is .WEIR_AON_STATUS_WARM_PF then max b (min (b + s.weir.mireDelay) (s.pfBudget - 20)) else b

/-- WEIR_PF_LATE (R402): DONE has not been written by the late point. Mire is interrupted, the flush operations end, and Aqsia writes the
deferred records and parks every section, by the retract of R79. -/
def execWeirPfLate (s : State) : Host.Outcome State Fault Refusal :=
  .next (s.when (s.committed && !s.weir.late) (fun s =>
    let s := s.set .WEIR_STATUS_PF_MS (max (s.get .WEIR_STATUS_PF_MS) s.latePoint)
    let s := { s with weir := { s.weir with late := true } }.irqMire .late
    let s := s.weirFault 6
    s.when (s.mireActs && !s.mq.flushEnded) (fun s =>
      (s.forN 8 (fun n s => s.when (s.running n) (fun s => s.terminate n 1 0))).endFlushing)))

/-- PF_BUDGET (R403): PF_MS reaches BUDGET; sections that do not read PARKED retract. -/
def execPfBudget (s : State) : Host.Outcome State Fault Refusal :=
  .next (s.when s.committed (fun s =>
    (s.set .WEIR_STATUS_PF_MS (max (s.get .WEIR_STATUS_PF_MS) s.pfBudget)).retractAll.endSequence))

/-- PF_END (R403): with V12_IN at 10.50 V or above, soft-start and a warm reset with cause 3; otherwise the dies power down. -/
def execPfEnd (restart : Bool) (s : State) : Host.Outcome State Fault Refusal :=
  if s.get .WEIR_STATUS_PF ≠ 3 then .next s
  else if restart then
    let s := { s with weir := { s.weir with iso := .diode } }.set .WEIR_STATUS_ISO_OFF 0
    .next ((s.requestReset 3 0 0).set .WEIR_STATUS_PF 0)
  else .next (s.railsOff .off)

/-! ### Registers at a reset (R11) -/

/-- The bits of a register that a set of its fields covers. -/
def fieldMask (keep : FieldRow → Bool) (l : List FieldRow) : Nat :=
  (l.filter keep).foldl (fun acc f => acc + (2 ^ f.width - 1) * 2 ^ f.lo) 0

/-- Window `w`'s subsystem runs through warm reset (R22): Tussock, Withy, Weir, Tide. -/
def runsThrough (w : Nat) : Bool := w == 8 || w == 9 || w == 10 || w == 14

/-- The whole register keeps its value: straps and OTP (R11), the ports (R305). -/
def keptWhole : RegId → Bool
  | .SLU_DRAM_CFG | .STH_BOOT | .DYKE_UID | .DYKE_FLOOR | .DYKE_CHIP_ID => true
  | _ => false

/-- A field keeps its value across a warm or block reset. -/
def State.keeps (s : State) (w : Nat) (r : RegId) (f : FieldRow) : Bool :=
  f.held || keptWhole r ||
    (match f.acc with
     | .rws => true
     | .rwl => s.rwlCommitted r
     | .ro => runsThrough w
     | _ => false)

/-- What the register at `a` holds after a warm or block reset. -/
def State.afterReset (s : State) (a : Nat) (v : Word) : Word :=
  match findReg a with
  | some (r, _) =>
    match (windowRegs ((a - 0x4000_0000) / 2 ^ 24)).find? (fun x => x.id = r.id) with
    | some x =>
      let m := BitVec.ofNat 32 (fieldMask (s.keeps ((a - 0x4000_0000) / 2 ^ 24) x.id) x.fields)
      (v &&& m) ||| (regReset a &&& ~~~m)
    | none => regReset a
  | none => v

/-- The registers of the windows named return to what R11 gives them. -/
def State.resetRegs (s : State) (named : Nat → Bool) : State :=
  { s with regs := s.regs.filterMap (fun e =>
      if named ((e.1 - 0x4000_0000) / 2 ^ 24) then
        if s.afterReset e.1 e.2 = regReset e.1 then none else some (e.1, s.afterReset e.1 e.2)
      else some e) }

/-! ### Before a reset takes hold (R355, R369) -/

/-- Carr drains its posted-write buffer, where DRAM still serves accesses (R20, R369). -/
def State.drainCarr (s : State) : State :=
  (s.when s.dramServes (fun s => s.carr.pwb.foldl (fun s p => s.postedWrite p) s)).updCarr (fun c => { c with pwb := [] })

/-! ### Warm reset (R22, R23, R305, R331, R423) -/

/-- The record of a context that is live at a warm reset (R305). -/
def State.resetFate (s : State) (c : Ctx) : FateRecord :=
  let r (fate reason : Nat) : FateRecord := s.fateOf c fate reason 2
  if c.state ≤ 2 then r 2 0
  else if c.state = 4 then if c.cmd.op.carriesData && c.ledgered then r 1 0 else r 3 3
  else if c.cmd.op.carriesData then r (c.dataFate 1).1 (c.dataFate 1).2
  else r 15 0

/-- Staithe at a warm reset (R305): records for live contexts, with CSTS.CFS on every enabled controller; contexts, locks and
notifications are lost. -/
def State.resetStaithe (s : State) : State :=
  let live := s.bySeq
  let s := live.foldl (fun s e => s.addFate (s.resetFate e.2)) s
  let s := s.when (!live.isEmpty) (fun s => s.forN 32 (fun k s => s.when (s.is (.STH_CTL_CFG_EN k)) (fun s =>
    s.updSth (fun h => { h with cfs := h.cfs.put k true }))))
  s.updSth (fun h => { h with
    ctxs := [], new_ := [], nextSeq := 0, last := 31, idleMs := 0, cqs := h.cqs.mapAll (fun q => { q with waiting := [] }) })

/-- Sluice at a warm reset (R331): both channels in self-refresh, FILLING entries freed, WRITING ones HELD again; regions FREE, staging
empty. DESIGN CHOICE: Causeway's active slot tables and ranks, of which R340 makes the shadow fields alone RWS, stay as they were last
committed. -/
def State.resetSluice (s : State) : State :=
  let back (e : Nat × LedgerEntry) : Option (Nat × LedgerEntry) :=
    if e.2.state = 1 then none
    else if e.2.state = 3 then some (e.1, { e.2 with state := 2, marks := [] })
    else some (e.1, { e.2 with marks := [] })
  s.updSlu (fun u => { u with
    ledger := u.ledger.filterMap back, regions := [], keyOps := [], scrubLeft := 0, flushing := false, grants := [], turn := []
    selfRefresh := true })

/-- Levee at a warm reset (R418–R420, R423, R425): class F latches clear and ERROR_N stays until the first heartbeat; the cause is kept. -/
def State.resetLevee (s : State) : State :=
  let f := s.lev.latches.any (fun e => e.2.any (fun x => x.cls = 2))
  let (cause, source, inst) := s.lev.resetReq.getD (0, 0, 0)
  let s := s.forN 197 (fun line s => match s.lev.latches.at line with
    | some l => s.when (l.cls == 2) (fun s => s.unlatch line)
    | none => s)
  let s := { s with lev := { s.lev with
    beatSeen := false, wdogFired := false, errorHeld := f, injecting := none, resetReq := none, blockReq := [], blockRun := [] } }
  let s := ((s.set .LEV_RESET_CAUSE_CAUSE cause).set .LEV_RESET_CAUSE_SOURCE (if cause = 1 then source else 0)).set
    .LEV_RESET_CAUSE_INSTANCE (if cause = 1 then inst else 0)
  s.levStatus

/-- Peat at a warm reset (R461, R464, R467, R473): staging is held and flushes afresh, every freeze has ended. -/
def State.resetPeat (s : State) : State :=
  let staged := s.peat.staged.map (fun (x : Staged) => { x with inFlush := false })
  let s := { s with peat := { s.peat with staged := staged, loading := none, again := false, freezeWait := [] } }
  (s.forN 10 (fun a s => s.areaStatus a)).set .PEAT_MRSETS_COUNT s.peat.mrSets.length |>.peatStatus

/-- What is left of Aqsia and Dyke (R28, R243, R244, R252): NOR, and the service target, source and power state. -/
def State.resetFirmware (s : State) : State :=
  let persisted := s.aq.progs.filter (fun x => x.persist)
  let aq : Aqsia :=
    { progs := persisted, binds := s.aq.binds.filter (fun b => persisted.any (fun x => x.prog == b.prog)), cal := s.aq.cal,
      bandCheck := s.aq.bandCheck, target := s.aq.target, src := s.aq.src, ps := s.aq.ps, dip := s.aq.dip
      atReset := (List.range 64).filter (fun p => s.mbx p != 0) }
  let dyke : Dyke :=
    { copies := s.dyke.copies, uid := s.dyke.uid, keyHash := s.dyke.keyHash, stuck := s.dyke.stuck, norMode := s.dyke.norMode
      slots := s.dyke.slots.mapAll (fun x => if x.state = 1 then { x with state := 3 } else x) }
  { s with aq := aq, dyke := dyke, mireRuns := false, warmBusy := true, mireIrq := [], fenIrq := [] }

/-- A link after Mire's restart (R479): to be discovered again. -/
def Link.afresh (l : Link) : Link := { l with sent := none, fails := 0, state := 0, missed := 0 }

/-- The warm reset takes hold (R22): every subsystem but Tide, Tussock, Withy, Weir and Levee returns to its reset state; the retention
domain of R23 is held. -/
def State.warmReset (s : State) : State :=
  let s := s.stopDma.drainCarr
  let on := (List.range 32).map (fun k => s.get (.STH_CTL_CFG_EN k))
  let s := (s.resetStaithe.resetSluice.resetLevee).resetQueuesMq
  let s := (s.resetRegs (fun _ => true)).inc .MBX_EPOCH_WARM
  let s := (s.forN 32 (fun k s => s.set (.STH_CTL_CFG_EN k) (on.getD k 0))).slotCap
  let s := (s.setIf .STH_STATUS_PF_HOLD s.powerFailing).set .TUS_CTRL_TABLES_VALID 0
  let s := s.forN 4 (fun k s => s.freezeRegion k)
  let links := s.links.mapAll Link.afresh
  let secs := s.tus.secs.mapAll (fun x => { x with fetching := none })
  let s := { s with
    seqs := [], chans := [], shockQuiet := 0, stg := [], sram := [], dma := [], carr := {}, links := links
    tide := { s.tide with optLatch := [] }
    tus := { s.tus with tables := [], secs := secs }
    weir := { s.weir with fenForced := false } }
  (s.resetFirmware.resetPeat.levStatus.sluStatus.fateStatus.sthStatus).mwqSync

/-- WARM_RESET (R423): a requested warm reset takes hold. -/
def execWarmReset (s : State) : Host.Outcome State Fault Refusal :=
  .next (s.when (s.weir.powered && s.lev.resetReq.isSome) State.warmReset)

/-! ### Block reset (R424) -/

/-- Every running operation ends with TERM 3, and Aqsia completes its descriptors (R278); with `again` a read is to be issued anew. -/
def State.blockTerminate (s : State) (n : Nat) (again : Bool) : State :=
  let s := s.terminate n 3 8
  match s.mwdOn n with
  | some d => match s.zoneAt d.surface d.track with
    | some (_, z) => s.when (d.issued && d.op != 8 && s.mireActs) (fun s =>
        let s := (s.served (.opEnd n)).served (.sectors n)
        (if again && (s.stage n).read then s.updMwd { d with issued := false } else s.endOp n d z [] [] false).mwqSync)
    | none => s
  | none => s

/-- The preparation and the reset of one subsystem: 6 Reed, 7 Sedge, 11 Carr, 12 Lode. -/
def State.blockEffect (s : State) (sub : Nat) : State :=
  match sub with
  | 6 =>
    let s := (s.forN 8 (fun n s => s.when (s.running n) (fun s => s.blockTerminate n false))).resetRegs (· == 6)
    { s with seqs := [] }
  | 7 =>
    let s := (s.forN 8 (fun n s => s.when (s.running n) (fun s => s.blockTerminate n true))).resetRegs (· == 7)
    { s with chans := [], shockQuiet := 0 }
  | 11 => { s.drainCarr.resetRegs (· == 3) with carr := {} }
  | 12 => { s.stopDma.resetRegs (· == 4) with dma := [] }
  | _ => s

/-- BLOCK_RESET (R424): a requested one takes hold. -/
def execBlockReset (sub : Nat) (s : State) : Host.Outcome State Fault Refusal :=
  .next (s.when (decide (sub ∈ s.lev.blockReq)) (fun s =>
    let s := s.blockEffect sub
    { s with lev := { s.lev with blockReq := s.lev.blockReq.filter (· ≠ sub), blockRun := s.lev.blockRun ++ [sub] } }))

/-- The zone over which lane n's reference stands. -/
def State.zoneUnder (s : State) (n : Nat) : Nat :=
  ((s.zoneAt (s.surface n) ((s.lane n).r / 2 ^ 48).toNat).map (·.1)).getD 0

/-- BLOCK_RESET_END (R424): Mire is interrupted; after one of Reed, Aqsia loads the control stores again (R147), after one of Sedge the
coefficient sets of every stream, for its head and the zone it stands over (DEDUCED: R240 loads them by head and zone). -/
def execBlockResetEnd (sub : Nat) (s : State) : Host.Outcome State Fault Refusal :=
  .next (s.when (decide (sub ∈ s.lev.blockRun)) (fun s =>
    let s := { s with lev := { s.lev with blockRun := s.lev.blockRun.filter (· ≠ sub) } }
    let s := s.setIf .LEV_STATUS_BLK_BUSY (!(s.lev.blockReq.isEmpty && s.lev.blockRun.isEmpty))
    let s := (s.irqMire (.blockReset sub)).when (sub == 6 && s.aqsiaActs) State.loadReed
    s.when (sub == 7 && s.aqsiaActs) (fun s => s.forN 8 (fun n s => s.loadCal n (s.surface n) (s.zoneUnder n)))))

/-! ### Time -/

/-- One millisecond passes with no command waiting: the operating time counts (R51), and PF_MS while a sequence has a warning or a
commit behind it (R411), and the host's idle time (R311). -/
def State.millisecond (s : State) : State := s.countOpt.idleMs.when (s.is .WEIR_STATUS_PF) (fun s => s.incSat .WEIR_STATUS_PF_MS)

end Sys2Proof.Machine
end

