-- ==== Sys2Proof/Machine/Dispatch.lean ====
section
/-! DEFINITION. One arm per command, one direct call of its meaning. -/

namespace Sys2Proof.Machine

def exec (i : Instr) (s : State) : Host.Outcome State Fault Refusal :=
  match i with
  | .registerWrite who addr width value => Sys2Proof.Machine.execRegisterWrite who addr width value s
  | .powerOn good straps => Sys2Proof.Machine.execPowerOn good straps s
  | .weirRetry good straps => Sys2Proof.Machine.execWeirRetry good straps s
  | .supplyLoss => Sys2Proof.Machine.execSupplyLoss s
  | .weirRegFault => Sys2Proof.Machine.execWeirRegFault s
  | .warnArm commit => Sys2Proof.Machine.execWarnArm commit s
  | .powerFailWarning mv => Sys2Proof.Machine.execPowerFailWarning mv s
  | .pfCancel mv => Sys2Proof.Machine.execPfCancel mv s
  | .powerFailCommit mv => Sys2Proof.Machine.execPowerFailCommit mv s
  | .fenClockStop => Sys2Proof.Machine.execFenClockStop s
  | .powerFailFlush => Sys2Proof.Machine.execPowerFailFlush s
  | .flushEntryDone n entry => Sys2Proof.Machine.execFlushEntryDone n entry s
  | .pfDone => Sys2Proof.Machine.execPfDone s
  | .weirPfLate => Sys2Proof.Machine.execWeirPfLate s
  | .pfBudget => Sys2Proof.Machine.execPfBudget s
  | .pfEnd restart => Sys2Proof.Machine.execPfEnd restart s
  | .isoDiodeOff v12 vhb => Sys2Proof.Machine.execIsoDiodeOff v12 vhb s
  | .chopOn vhb => Sys2Proof.Machine.execChopOn vhb s
  | .chopTest vhb current => Sys2Proof.Machine.execChopTest vhb current s
  | .weirChopOpen => Sys2Proof.Machine.execWeirChopOpen s
  | .weirChopShort current => Sys2Proof.Machine.execWeirChopShort current s
  | .weirOvIn mv => Sys2Proof.Machine.execWeirOvIn mv s
  | .weirOvBus vhb => Sys2Proof.Machine.execWeirOvBus vhb s
  | .weirV5Low mv => Sys2Proof.Machine.execWeirV5Low mv s
  | .weirMinV12Read who => Sys2Proof.Machine.execWeirMinV12Read who s
  | .warmReset => Sys2Proof.Machine.execWarmReset s
  | .levResetWarm who => Sys2Proof.Machine.execLevResetWarm who s
  | .blockReset sub => Sys2Proof.Machine.execBlockReset sub s
  | .blockResetEnd sub => Sys2Proof.Machine.execBlockResetEnd sub s
  | .rootLock => Sys2Proof.Machine.execRootLock s
  | .tideRootUnlock => Sys2Proof.Machine.execTideRootUnlock s
  | .tideCgEn index value => Sys2Proof.Machine.execTideCgEn index value s
  | .acqStart => Sys2Proof.Machine.execAcqStart s
  | .indexMark mang t0 t1 period => Sys2Proof.Machine.execIndexMark mang t0 t1 period s
  | .tideAcqFail => Sys2Proof.Machine.execTideAcqFail s
  | .tideHeadLost test => Sys2Proof.Machine.execTideHeadLost test s
  | .tideTimingLost stalls => Sys2Proof.Machine.execTideTimingLost stalls s
  | .encSyncOutRise mang => Sys2Proof.Machine.execEncSyncOutRise mang s
  | .encSyncOutFall mang => Sys2Proof.Machine.execEncSyncOutFall mang s
  | .encSyncInEdge mang period high => Sys2Proof.Machine.execEncSyncInEdge mang period high s
  | .esiEdgeTimeout => Sys2Proof.Machine.execEsiEdgeTimeout s
  | .esiPhaseSuspend => Sys2Proof.Machine.execEsiPhaseSuspend s
  | .tideOptLo value => Sys2Proof.Machine.execTideOptLo value s
  | .tideOptLoRead who => Sys2Proof.Machine.execTideOptLoRead who s
  | .innerLoopTick x => Sys2Proof.Machine.execInnerLoopTick x s
  | .shockLift => Sys2Proof.Machine.execShockLift s
  | .pesDemod n x => Sys2Proof.Machine.execPesDemod n x s
  | .tusPesLost n => Sys2Proof.Machine.execTusPesLost n s
  | .tusNumSat k => Sys2Proof.Machine.execTusNumSat k s
  | .winhLift n => Sys2Proof.Machine.execWinhLift n s
  | .seekSettled k => Sys2Proof.Machine.execSeekSettled k s
  | .reload k => Sys2Proof.Machine.execReload k s
  | .regionFetchDone k => Sys2Proof.Machine.execRegionFetchDone k s
  | .xcCommit => Sys2Proof.Machine.execXcCommit s
  | .capGo k => Sys2Proof.Machine.execCapGo k s
  | .seekGo k hint abandon => Sys2Proof.Machine.execSeekGo k hint abandon s
  | .seekAbandon k => Sys2Proof.Machine.execSeekAbandon k s
  | .runStart => Sys2Proof.Machine.execRunStart s
  | .runStop => Sys2Proof.Machine.execRunStop s
  | .stopProceed => Sys2Proof.Machine.execStopProceed s
  | .clrFault emf => Sys2Proof.Machine.execClrFault emf s
  | .observeEnd emf speed reverse => Sys2Proof.Machine.execObserveEnd emf speed reverse s
  | .alignSecondAngle => Sys2Proof.Machine.execAlignSecondAngle s
  | .alignEnd => Sys2Proof.Machine.execAlignEnd s
  | .rampReached => Sys2Proof.Machine.execRampReached s
  | .handover speed => Sys2Proof.Machine.execHandover speed s
  | .handoverFail => Sys2Proof.Machine.execHandoverFail s
  | .handoverObserveEnd emf speed reverse => Sys2Proof.Machine.execHandoverObserveEnd emf speed reverse s
  | .brakeRest => Sys2Proof.Machine.execBrakeRest s
  | .wthBrakeTimeout => Sys2Proof.Machine.execWthBrakeTimeout s
  | .focPeriod speed id mi elec => Sys2Proof.Machine.execFocPeriod speed id mi elec s
  | .keCheckStart => Sys2Proof.Machine.execKeCheckStart s
  | .keCheckEnd emf speed => Sys2Proof.Machine.execKeCheckEnd emf speed s
  | .wthSpeedLimited => Sys2Proof.Machine.execWthSpeedLimited s
  | .wthSpnOc => Sys2Proof.Machine.execWthSpnOc s
  | .wthChopFail vhb => Sys2Proof.Machine.execWthChopFail vhb s
  | .holdCollapse vhb => Sys2Proof.Machine.execHoldCollapse vhb s
  | .wthVcmOc k => Sys2Proof.Machine.execWthVcmOc k s
  | .wthMaOc n => Sys2Proof.Machine.execWthMaOc n s
  | .wthGdUvlo => Sys2Proof.Machine.execWthGdUvlo s
  | .wthHbLoss => Sys2Proof.Machine.execWthHbLoss s
  | .retractGo mask => Sys2Proof.Machine.execRetractGo mask s
  | .retractLowBus vhb => Sys2Proof.Machine.execRetractLowBus vhb s
  | .retractStall k => Sys2Proof.Machine.execRetractStall k s
  | .wthRetTimeout k => Sys2Proof.Machine.execWthRetTimeout k s
  | .retractEnd k => Sys2Proof.Machine.execRetractEnd k s
  | .park k => Sys2Proof.Machine.execPark k s
  | .vcmEnable k => Sys2Proof.Machine.execVcmEnable k s
  | .maHold n hold => Sys2Proof.Machine.execMaHold n hold s
  | .reedGo n => Sys2Proof.Machine.execReedGo n s
  | .reedKill n => Sys2Proof.Machine.execReedKill n s
  | .reedRestart n => Sys2Proof.Machine.execReedRestart n s
  | .reedAbort n set => Sys2Proof.Machine.execReedAbort n set s
  | .restartEvent n => Sys2Proof.Machine.execRestartEvent n s
  | .wait n => Sys2Proof.Machine.execWait n s
  | .waitc n => Sys2Proof.Machine.execWaitc n s
  | .waita n mang => Sys2Proof.Machine.execWaita n mang s
  | .gate n mang cause => Sys2Proof.Machine.execGate n mang cause s
  | .sync n mang p => Sys2Proof.Machine.execSync n mang p s
  | .syncWindowClose n mang => Sys2Proof.Machine.execSyncWindowClose n mang s
  | .markDetected n mang bits => Sys2Proof.Machine.execMarkDetected n mang bits s
  | .xfer n mang raw => Sys2Proof.Machine.execXfer n mang raw s
  | .skipw n mang => Sys2Proof.Machine.execSkipw n mang s
  | .mark n => Sys2Proof.Machine.execMark n s
  | .jmp n => Sys2Proof.Machine.execJmp n s
  | .jcc n => Sys2Proof.Machine.execJcc n s
  | .call n => Sys2Proof.Machine.execCall n s
  | .ret n => Sys2Proof.Machine.execRet n s
  | .ldi n => Sys2Proof.Machine.execLdi n s
  | .microAdd n => Sys2Proof.Machine.execMicroAdd n s
  | .microSub n => Sys2Proof.Machine.execMicroSub n s
  | .microCmp n => Sys2Proof.Machine.execMicroCmp n s
  | .emit n => Sys2Proof.Machine.execEmit n s
  | .microEnd n => Sys2Proof.Machine.execMicroEnd n s
  | .illegalMicroword n => Sys2Proof.Machine.execIllegalMicroword n s
  | .waitTimeout n => Sys2Proof.Machine.execWaitTimeout n s
  | .protectedSpanStart n mang raw => Sys2Proof.Machine.execProtectedSpanStart n mang raw s
  | .operationEnd n => Sys2Proof.Machine.execOperationEnd n s
  | .csWrite word => Sys2Proof.Machine.execCsWrite word s
  | .csRead who => Sys2Proof.Machine.execCsRead who s
  | .reedEventRead who n => Sys2Proof.Machine.execReedEventRead who n s
  | .sectorDecode n => Sys2Proof.Machine.execSectorDecode n s
  | .alignRetry n slot before after => Sys2Proof.Machine.execAlignRetry n slot before after s
  | .sectorOverrun n => Sys2Proof.Machine.execSectorOverrun n s
  | .thermalAsperity n returned bit level run => Sys2Proof.Machine.execThermalAsperity n returned bit level run s
  | .dropout n recovered bit level run => Sys2Proof.Machine.execDropout n recovered bit level run s
  | .resultRead who n => Sys2Proof.Machine.execResultRead who n s
  | .telSnap clear => Sys2Proof.Machine.execTelSnap clear s
  | .telClear => Sys2Proof.Machine.execTelClear s
  | .coefWrite n data => Sys2Proof.Machine.execCoefWrite n data s
  | .coefRead who n => Sys2Proof.Machine.execCoefRead who n s
  | .verifyOutcome n c => Sys2Proof.Machine.execVerifyOutcome n c s
  | .vfyResultRead who n => Sys2Proof.Machine.execVfyResultRead who n s
  | .ladderStep n => Sys2Proof.Machine.execLadderStep n s
  | .mbxRing who p => Sys2Proof.Machine.execMbxRing who p s
  | .mbxAck who p => Sys2Proof.Machine.execMbxAck who p s
  | .mbxCancel who p => Sys2Proof.Machine.execMbxCancel who p s
  | .requestStart emf => Sys2Proof.Machine.execRequestStart emf s
  | .sessionIdleTimeout id => Sys2Proof.Machine.execSessionIdleTimeout id s
  | .sessionOpen p => Sys2Proof.Machine.execSessionOpen p s
  | .sessionClose p => Sys2Proof.Machine.execSessionClose p s
  | .sessionPing p => Sys2Proof.Machine.execSessionPing p s
  | .spindleSet p => Sys2Proof.Machine.execSpindleSet p s
  | .spindleStatus p => Sys2Proof.Machine.execSpindleStatus p s
  | .sectionLoad p lock => Sys2Proof.Machine.execSectionLoad p lock s
  | .sectionPark p stalls => Sys2Proof.Machine.execSectionPark p stalls s
  | .retract p => Sys2Proof.Machine.execRetract p s
  | .motorClear p emf => Sys2Proof.Machine.execMotorClear p emf s
  | .sectionStatus p => Sys2Proof.Machine.execSectionStatus p s
  | .encSyncSet p => Sys2Proof.Machine.execEncSyncSet p s
  | .servoReload p => Sys2Proof.Machine.execServoReload p s
  | .servoRegionWrite p => Sys2Proof.Machine.execServoRegionWrite p s
  | .servoLimits p => Sys2Proof.Machine.execServoLimits p s
  | .servoCoupling p => Sys2Proof.Machine.execServoCoupling p s
  | .servoCapture p => Sys2Proof.Machine.execServoCapture p s
  | .zoneInfo p => Sys2Proof.Machine.execZoneInfo p s
  | .channelAdapt p => Sys2Proof.Machine.execChannelAdapt p s
  | .channelCal p found => Sys2Proof.Machine.execChannelCal p found s
  | .preampInfo p => Sys2Proof.Machine.execPreampInfo p s
  | .fprogBegin p => Sys2Proof.Machine.execFprogBegin p s
  | .fprogData p => Sys2Proof.Machine.execFprogData p s
  | .fprogCommit p norOk => Sys2Proof.Machine.execFprogCommit p norOk s
  | .fprogBind p norOk => Sys2Proof.Machine.execFprogBind p norOk s
  | .fprogDelete p norOk => Sys2Proof.Machine.execFprogDelete p norOk s
  | .fprogList p => Sys2Proof.Machine.execFprogList p s
  | .powerStateSet p lock stalls => Sys2Proof.Machine.execPowerStateSet p lock stalls s
  | .powerStatus p tj => Sys2Proof.Machine.execPowerStatus p tj s
  | .fenGate p => Sys2Proof.Machine.execFenGate p s
  | .peatAppend p => Sys2Proof.Machine.execPeatAppend p s
  | .peatFreeze p => Sys2Proof.Machine.execPeatFreeze p s
  | .peatRead p => Sys2Proof.Machine.execPeatRead p s
  | .peatRelease p => Sys2Proof.Machine.execPeatRelease p s
  | .peatClear p norOk => Sys2Proof.Machine.execPeatClear p norOk s
  | .aqPeatFlush p norOk => Sys2Proof.Machine.execAqPeatFlush p norOk s
  | .updateBegin p norOk => Sys2Proof.Machine.execUpdateBegin p norOk s
  | .updateData p norOk => Sys2Proof.Machine.execUpdateData p norOk s
  | .updateApply p norOk => Sys2Proof.Machine.execUpdateApply p norOk s
  | .updateActivate p norOk => Sys2Proof.Machine.execUpdateActivate p norOk s
  | .updateStatus p => Sys2Proof.Machine.execUpdateStatus p s
  | .updateAbort p => Sys2Proof.Machine.execUpdateAbort p s
  | .updateFloor p => Sys2Proof.Machine.execUpdateFloor p s
  | .telVersions p => Sys2Proof.Machine.execTelVersions p s
  | .telChannel p => Sys2Proof.Machine.execTelChannel p s
  | .telServo p => Sys2Proof.Machine.execTelServo p s
  | .telEnv p temps => Sys2Proof.Machine.execTelEnv p temps s
  | .faultHistory p => Sys2Proof.Machine.execFaultHistory p s
  | .faultReaction p => Sys2Proof.Machine.execFaultReaction p s
  | .faultInject p => Sys2Proof.Machine.execFaultInject p s
  | .faultClear p => Sys2Proof.Machine.execFaultClear p s
  | .attestRead p => Sys2Proof.Machine.execAttestRead p s
  | .attestQuote p => Sys2Proof.Machine.execAttestQuote p s
  | .authChallenge p => Sys2Proof.Machine.execAuthChallenge p s
  | .spdmMessage p => Sys2Proof.Machine.execSpdmMessage p s
  | .factoryUnlock p => Sys2Proof.Machine.execFactoryUnlock p s
  | .svcRequest bytes => Sys2Proof.Machine.execSvcRequest bytes s
  | .svcResponse slot cut => Sys2Proof.Machine.execSvcResponse slot cut s
  | .svcAck bytes => Sys2Proof.Machine.execSvcAck bytes s
  | .svcStatus cut => Sys2Proof.Machine.execSvcStatus cut s
  | .svcCancel bytes => Sys2Proof.Machine.execSvcCancel bytes s
  | .portReset bytes => Sys2Proof.Machine.execPortReset bytes s
  | .mwqDb q => Sys2Proof.Machine.execMwqDb q s
  | .queueScan q => Sys2Proof.Machine.execQueueScan q s
  | .mwqCfg q en log2n => Sys2Proof.Machine.execMwqCfg q en log2n s
  | .mwcCfg k en compat irqEn core log2n => Sys2Proof.Machine.execMwcCfg k en compat irqEn core log2n s
  | .descriptorStart n q slot => Sys2Proof.Machine.execDescriptorStart n q slot s
  | .mwdRead n => Sys2Proof.Machine.execMwdRead n s
  | .mwdWrite n => Sys2Proof.Machine.execMwdWrite n s
  | .writeVerify n => Sys2Proof.Machine.execWriteVerify n s
  | .mwdVerify n => Sys2Proof.Machine.execMwdVerify n s
  | .readAhead n => Sys2Proof.Machine.execReadAhead n s
  | .seekHint n => Sys2Proof.Machine.execSeekHint n s
  | .formatTracks n => Sys2Proof.Machine.execFormatTracks n s
  | .eraseBand n => Sys2Proof.Machine.execEraseBand n s
  | .mwdFence q slot => Sys2Proof.Machine.execMwdFence q slot s
  | .mwdBarrier q slot => Sys2Proof.Machine.execMwdBarrier q slot s
  | .hintTimeout k => Sys2Proof.Machine.execHintTimeout k s
  | .mwcCi k ci => Sys2Proof.Machine.execMwcCi k ci s
  | .mwqCancel q slot => Sys2Proof.Machine.execMwqCancel q slot s
  | .aqsiaBoot cal => Sys2Proof.Machine.execAqsiaBoot cal s
  | .sqDoorbell k q tail => Sys2Proof.Machine.execSqDoorbell k q tail s
  | .cqDoorbell k q head => Sys2Proof.Machine.execCqDoorbell k q head s
  | .commandFetch x cmd => Sys2Proof.Machine.execCommandFetch x cmd s
  | .admission => Sys2Proof.Machine.execAdmission s
  | .admissionAge => Sys2Proof.Machine.execAdmissionAge s
  | .sthCpl who core ctx status => Sys2Proof.Machine.execSthCpl who core ctx status s
  | .completionPost ctx size => Sys2Proof.Machine.execCompletionPost ctx size s
  | .sthCtxEnd who fate reason ctx => Sys2Proof.Machine.execSthCtxEnd who fate reason ctx s
  | .sthZaSet ctx => Sys2Proof.Machine.execSthZaSet ctx s
  | .sthFateSet fate reason index => Sys2Proof.Machine.execSthFateSet fate reason index s
  | .sthFateClr k => Sys2Proof.Machine.execSthFateClr k s
  | .fateDataRead => Sys2Proof.Machine.execFateDataRead s
  | .sthNewRead core => Sys2Proof.Machine.execSthNewRead core s
  | .flushReady ctx => Sys2Proof.Machine.execFlushReady ctx s
  | .controllerReset why => Sys2Proof.Machine.execControllerReset why s
  | .quiesce set => Sys2Proof.Machine.execQuiesce set s
  | .idleExpired index => Sys2Proof.Machine.execIdleExpired index s
  | .cfgRdy => Sys2Proof.Machine.execCfgRdy s
  | .perst port asserted => Sys2Proof.Machine.execPerst port asserted s
  | .linkUp port => Sys2Proof.Machine.execLinkUp port s
  | .dramTrained => Sys2Proof.Machine.execDramTrained s
  | .ledgerFilled entry data => Sys2Proof.Machine.execLedgerFilled entry data s
  | .sluLedRel entry => Sys2Proof.Machine.execSluLedRel entry s
  | .sluLedFill ctx => Sys2Proof.Machine.execSluLedFill ctx s
  | .ledDataRead => Sys2Proof.Machine.execLedDataRead s
  | .regionSet region => Sys2Proof.Machine.execRegionSet region s
  | .regionDiscard region => Sys2Proof.Machine.execRegionDiscard region s
  | .regionLookup => Sys2Proof.Machine.execRegionLookup s
  | .regionUnpin region => Sys2Proof.Machine.execRegionUnpin region s
  | .regionTtlExpire region => Sys2Proof.Machine.execRegionTtlExpire region s
  | .keyLoad slot => Sys2Proof.Machine.execKeyLoad slot s
  | .keyZero slot => Sys2Proof.Machine.execKeyZero slot s
  | .keyTakeEffect => Sys2Proof.Machine.execKeyTakeEffect s
  | .cswCommit => Sys2Proof.Machine.execCswCommit s
  | .frameBoundary asks => Sys2Proof.Machine.execFrameBoundary asks s
  | .cswHog r transfer => Sys2Proof.Machine.execCswHog r transfer s
  | .lodeStart who c => Sys2Proof.Machine.execLodeStart who c s
  | .lodeStop who c pause => Sys2Proof.Machine.execLodeStop who c pause s
  | .lodePause who c set => Sys2Proof.Machine.execLodePause who c set s
  | .lodePaused c k data => Sys2Proof.Machine.execLodePaused c k data s
  | .lodeDescriptorLoad c host => Sys2Proof.Machine.execLodeDescriptorLoad c host s
  | .lodeDescriptorDone c data => Sys2Proof.Machine.execLodeDescriptorDone c data s
  | .lodeBusErr c k write data => Sys2Proof.Machine.execLodeBusErr c k write data s
  | .requestCommit c lines k late data => Sys2Proof.Machine.execRequestCommit c lines k late data s
  | .carrLoad core addr size => Sys2Proof.Machine.execCarrLoad core addr size s
  | .carrStore core addr data => Sys2Proof.Machine.execCarrStore core addr data s
  | .carrAmo core addr size op operand => Sys2Proof.Machine.execCarrAmo core addr size op operand s
  | .lineFill line => Sys2Proof.Machine.execLineFill line s
  | .pwbDrain cycles => Sys2Proof.Machine.execPwbDrain cycles s
  | .carrEnable => Sys2Proof.Machine.execCarrEnable s
  | .carrDisable => Sys2Proof.Machine.execCarrDisable s
  | .statSnap clear => Sys2Proof.Machine.execStatSnap clear s
  | .statClear => Sys2Proof.Machine.execStatClear s
  | .preload way => Sys2Proof.Machine.execPreload way s
  | .invRange => Sys2Proof.Machine.execInvRange s
  | .invAll => Sys2Proof.Machine.execInvAll s
  | .carrOpDone => Sys2Proof.Machine.execCarrOpDone s
  | .sramRead region offset error word write => Sys2Proof.Machine.execSramRead region offset error word write s
  | .dramRead owner addr error => Sys2Proof.Machine.execDramRead owner addr error s
  | .partialWrite owner addr bytes error => Sys2Proof.Machine.execPartialWrite owner addr bytes error s
  | .scrubGo => Sys2Proof.Machine.execScrubGo s
  | .scrubStop => Sys2Proof.Machine.execScrubStop s
  | .scrubDone => Sys2Proof.Machine.execScrubDone s
  | .sluPmAck index => Sys2Proof.Machine.execSluPmAck index s
  | .pmDataRead => Sys2Proof.Machine.execPmDataRead s
  | .faultRecord source inst detail => Sys2Proof.Machine.execFaultRecord source inst detail s
  | .levHeartbeat who => Sys2Proof.Machine.execLevHeartbeat who s
  | .levMireWdog => Sys2Proof.Machine.execLevMireWdog s
  | .levClr who all source inst => Sys2Proof.Machine.execLevClr who all source inst s
  | .levInj who source inst count => Sys2Proof.Machine.execLevInj who source inst count s
  | .injectAssert => Sys2Proof.Machine.execInjectAssert s
  | .bootRom found => Sys2Proof.Machine.execBootRom found s
  | .trialConfirm => Sys2Proof.Machine.execTrialConfirm s
  | .trialTimeout => Sys2Proof.Machine.execTrialTimeout s
  | .bootRecord => Sys2Proof.Machine.execBootRecord s
  | .dykeMrExt who reg => Sys2Proof.Machine.execDykeMrExt who reg s
  | .recordStage stream type_ body => Sys2Proof.Machine.execRecordStage stream type_ body s
  | .peatFlushTimer => Sys2Proof.Machine.execPeatFlushTimer s
  | .peatFlush => Sys2Proof.Machine.execPeatFlush s
  | .peatFlushDone => Sys2Proof.Machine.execPeatFlushDone s
  | .peatNorFail area => Sys2Proof.Machine.execPeatNorFail area s
  | .peatPcc count => Sys2Proof.Machine.execPeatPcc count s
  | .peatCur offset => Sys2Proof.Machine.execPeatCur offset s
  | .windowValid => Sys2Proof.Machine.execWindowValid s
  | .preampDiscovery l ident => Sys2Proof.Machine.execPreampDiscovery l ident s
  | .plWriteFrame l head addr data => Sys2Proof.Machine.execPlWriteFrame l head addr data s
  | .plReadFrame l head addr => Sys2Proof.Machine.execPlReadFrame l head addr s
  | .plResponse l frame => Sys2Proof.Machine.execPlResponse l frame s
  | .plTimeout l => Sys2Proof.Machine.execPlTimeout l s
  | .preampFault l kill => Sys2Proof.Machine.execPreampFault l kill s
  | .spindleStart emf => Sys2Proof.Machine.execSpindleStart emf s
  | .headLoad lock => Sys2Proof.Machine.execHeadLoad lock s
  | .bandCheck k => Sys2Proof.Machine.execBandCheck k s
  | .configurationRequest port fn field value => Sys2Proof.Machine.execConfigurationRequest port fn field value s
  | .controllerRegisterWrite k offset value => Sys2Proof.Machine.execControllerRegisterWrite k offset value s
  | .sthLinkDown port => Sys2Proof.Machine.execSthLinkDown port s
  | .vaonLost => Sys2Proof.Machine.execVaonLost s
  | .aliveToggle => Sys2Proof.Machine.execAliveToggle s
  | .svcUnknownOpcode => Sys2Proof.Machine.execSvcUnknownOpcode s
  | .moverSectorDone n => Sys2Proof.Machine.execMoverSectorDone n s

end Sys2Proof.Machine
end

