-- ==== Sys2Proof/Safety.lean ====
section
/-! DEFINITION. The terms that the statements use: memories and registers in their canonical form, the parts of a state, what a
command may change, and what it is for a command to complete. -/

namespace Sys2Proof.Machine

/-- A memory's canonical form: addresses strictly rise, and no byte listed is 0, what an unlisted address reads as. -/
abbrev Memory.wf (m : Tab Byte) : Prop := tabWf (fun _ => (0 : Byte)) m

/-- The memories of the machine are in their canonical form. -/
abbrev State.memWf (s : State) : Prop := Memory.wf s.dram ∧ Memory.wf s.sram

/-- The registers and the memories are in their canonical form: equal contents are equal data. -/
abbrev State.Sound (s : State) : Prop := tabWf regReset s.regs ∧ s.memWf

/-- The parts of a state beside the registers and the queue of waiting commands. -/
inductive Part where
  | dram | sram | bus | drawn | mireIrq | fenIrq | seqs | chans | shockQuiet | stg | tide | lev | peat | weir | mireRuns
  | warmBusy | withy | tus | links | slu | sth | dma | carr | mq | aq | dyke
deriving DecidableEq, Repr

/-- Part `p` of two states is the same. -/
def Part.same (p : Part) (s t : State) : Prop :=
  match p with
  | .dram => t.dram = s.dram
  | .sram => t.sram = s.sram
  | .bus => t.bus = s.bus
  | .drawn => t.drawn = s.drawn
  | .mireIrq => t.mireIrq = s.mireIrq
  | .fenIrq => t.fenIrq = s.fenIrq
  | .seqs => t.seqs = s.seqs
  | .chans => t.chans = s.chans
  | .shockQuiet => t.shockQuiet = s.shockQuiet
  | .stg => t.stg = s.stg
  | .tide => t.tide = s.tide
  | .lev => t.lev = s.lev
  | .peat => t.peat = s.peat
  | .weir => t.weir = s.weir
  | .mireRuns => t.mireRuns = s.mireRuns
  | .warmBusy => t.warmBusy = s.warmBusy
  | .withy => t.withy = s.withy
  | .tus => t.tus = s.tus
  | .links => t.links = s.links
  | .slu => t.slu = s.slu
  | .sth => t.sth = s.sth
  | .dma => t.dma = s.dma
  | .carr => t.carr = s.carr
  | .mq => t.mq = s.mq
  | .aq => t.aq = s.aq
  | .dyke => t.dyke = s.dyke

/-- Fields of control registers: one field, the same field of the `n` registers of a family (`s` bytes apart; `m` more to each,
`u` bytes apart, where two indices name one), or every register. -/
inductive Regs where
  | fld (f : Fld)
  | arr (f : Fld) (s n : Nat)
  | grid (f : Fld) (s n u m : Nat)
  | all
deriving DecidableEq, Repr

/-- No bit of field `g` is one of `r`'s. -/
def Regs.apart (r : Regs) (g : Fld) : Prop :=
  match r with
  | .fld f => g.addr ≠ f.addr ∨ f.lo + f.width ≤ g.lo ∨ g.lo + g.width ≤ f.lo
  | .arr f s n => (∀ i < n, g.addr ≠ f.addr + s * i) ∨ f.lo + f.width ≤ g.lo ∨ g.lo + g.width ≤ f.lo
  | .grid f s n u m => (∀ i < n, ∀ j < m, g.addr ≠ f.addr + s * i + u * j) ∨ f.lo + f.width ≤ g.lo ∨ g.lo + g.width ≤ f.lo
  | .all => False

/-- Where Levee and Peat record a condition that is raised. -/
abbrev alarmRegs : List Regs :=
  [.fld .LEV_STATUS_F_LATCHED, .fld .LEV_STATUS_ERROR, .fld .LEV_STATUS_ALIVE_RUN, .fld .LEV_STATUS_BLK_BUSY,
   .fld .LEV_IRQ_NMI, .fld .LEV_IRQ_INT, .fld .LEV_HIST_STATUS_COUNT, .fld .LEV_HIST_STATUS_NEXT, .fld .LEV_HIST_TOTAL_TOTAL,
   .arr (.LEV_LATCH_LINE 0) 0x4 7, .grid (.LEV_HIST_DATA 0 0) 0x10 32 0x4 4, .fld .PEAT_STATUS_FLUSHING,
   .fld .PEAT_STATUS_STG_LOSS, .fld .PEAT_STATUS_STAMP_WAIT, .fld .PEAT_STATUS_HELD, .fld .PEAT_STATUS_USED,
   .fld .PEAT_FRZ_AREA, .arr (.PEAT_RSEQ_LOST 0) 0x4 5, .arr (.PEAT_RSEQ_NEXT 0) 0x4 5]

/-- Where the end of a stream and of its write gate show, as a raised condition may bring them about (R413). -/
abbrev haltRegs : List Regs :=
  [.arr (.REED_ST_STATUS_STATE 0) 0x100 8, .arr (.REED_ST_STATUS_TERM 0) 0x100 8, .fld .SDG_STATUS_RES_IRQ,
   .fld .SDG_STATUS_PENDING, .arr (.SDG_ST_STATUS_RES_OVF 0) 0x400 8, .arr (.SDG_ST_STATUS_RES_CNT 0) 0x400 8,
   .arr (.SDG_ST_STATUS_PARK_USED 0) 0x400 8, .arr (.SDG_ST_STATUS_PENDING_CNT 0) 0x400 8,
   .arr (.SDG_FE_STATUS_TA_ACTIVE 0) 0x400 8, .arr (.SDG_FE_STATUS_DO_ACTIVE 0) 0x400 8, .fld .SDG_WF_STATUS_CAUSE_SEEN,
   .arr (.SDG_WR_STATUS_WG 0) 0x400 8, .arr (.SDG_WR_STATUS_CAUSE 0) 0x400 8, .arr (.SDG_WR_STATUS_DROPS 0) 0x400 8,
   .arr (.SDG_WR_DROP_MANG 0) 0x400 8, .arr (.SLU_STG_STATUS_ACTIVE 0) 0x4 8, .arr (.SLU_STG_STATUS_DIR 0) 0x4 8,
   .arr (.SLU_STG_STATUS_RESV 0) 0x4 8, .arr (.SLU_STG_STATUS_READY 0) 0x4 8]

/-- The parts that a raised condition may change (R413–R416, R461). -/
abbrev alarmParts : List Part := [.mireIrq, .fenIrq, .seqs, .chans, .stg, .lev, .peat]

/-- From `s` to `t` only the parts in `W` and the register fields in `R` may have changed: the waiting commands are the same,
every other part and every other field of every register is the same, and registers and memories that were in canonical form
still are. -/
structure Frame (W : List Part) (R : List Regs) (s t : State) : Prop where
  pending : t.pending = s.pending
  sound : s.Sound → t.Sound
  same : ∀ p, p ∉ W → p.same s t
  regs : ∀ g : Fld, (∀ r ∈ R, r.apart g) → t.get g = s.get g

/-- Levee has a record of source `code`, instance `inst`, latched (R414, R418). -/
def State.latched (s : State) (code inst : Nat) : Bool :=
  match sourceRow code with
  | some x => (s.lev.latches.at (x.firstLine + inst)).isSome
  | none => false

/-- The registers a store to which does more than set its fields. -/
abbrev actsOnStore : List RegId :=
  [.TIDE_CTRL, .TIDE_ST_CBPC, .TUS_CTRL, .WTH_SPN_CTRL, .WTH_SPN_SPEED, .WTH_VCM_CTRL, .WTH_RET_CFG, .WTH_MA_CTRL, .PEAT_FRZ, .SDG_CODE,
   .SLU_KEY_DATA, .DYKE_EXT_DATA, .LEV_RESET, .LEV_SRC, .WEIR_CTRL, .SLU_PC_CFG]

/-- The registers a load of which answers more than the register's word, or does something. -/
abbrev actsOnLoad : List RegId :=
  [.REED_ST_EVENT, .REED_CS_DATA, .SDG_RESULT, .SDG_COEF_DATA, .SDG_VFY_RESULT, .STH_NEW, .DYKE_UID, .STH_CTX, .TIDE_OPT_LO, .TIDE_OPT_HI,
   .WEIR_MIN_V12, .WEIR_CHOP, .SLU_LED_DATA, .SLU_PM_DATA_LO, .SLU_PM_DATA_HI, .STH_FATE_DATA]

/-- A sequencer waits for an angle (R131). -/
def Stall.atAngle : Stall → Bool
  | .angle _ _ => true
  | _ => false

/-- It waits in a mark search. -/
def Stall.atSearch : Stall → Bool
  | .search _ _ _ => true
  | _ => false

/-- It waits for a mark that it writes to end. -/
def Stall.atMark : Stall → Bool
  | .mark _ => true
  | _ => false

/-- Command `c` completes in `s`: `exec` answers a next state, and `P` holds of it. -/
def Completes (c : Instr) (s : State) (P : State → Prop) : Prop := ∃ t, exec c s = .next t ∧ P t

/-- Where stream `n` runs descriptor `d` of its own section, what its next operation does on the way from `s` to `t` (R129, R262): while
its lane does not stand at the operation's track and does not go there, a seek to it starts once neither lane is busy; standing there, the
operation's count and track are set up and it is issued. An operation that waits for Tide after a TIMING end waits at most 1 s (R278). The
zones that the run depends on are the drive's own (`Config.zones`). -/
def NextOperation (s : State) (n : Nat) (d : Mwd) (t : State) : Prop :=
  ∀ zone z first count kind, s.zoneAt d.surface d.track = some (zone, z) → d.nextOp z = some (first, count, kind) →
    ¬(0 < d.timing ∧ 1000 < s.opt - d.timingAt) →
    let track := d.track + (d.sector + first) / z.sectors
    (s.standsAt n (1024 * track) = false → s.lanesIdle d.sec = true → s.seeksTo n (1024 * track) = false →
      t.get (.TUS_SEEK_TGT_TRACK (n / 2) (n % 2)) = track % 2 ^ 22 ∧ (t.sec (n / 2)).seek.cmd = some true) ∧
    (s.standsAt n (1024 * track) = true → s.mayStart d.sec = true → s.running n = false →
      s.mediaState (d.isWrite || 0 < d.timing) = true →
      t.get (.REED_OP_VALUE n 2) = count % 2 ^ 32 ∧ t.get (.SDG_SEAL_TRK_TRACK n) = track % 2 ^ 22 ∧
        ∃ e ∈ t.mq.descs, e.id = d.id ∧ e.issued = true ∧ e.opFirst = first ∧ e.opCount = count ∧ e.opKind = kind)

/-- Pair `p` runs the command `cmd` (R207, R217), and Aqsia is up and clocked (R32). -/
abbrev State.Runs (s : State) (p cmd : Nat) : Prop :=
  s.mbx p = 2 ∧ s.mbxCmd p = cmd ∧ s.aqsiaActs = true ∧ s.aq.running.any (fun e => e.1 == p) = true

/-- From `s` to `t` pair `p` is answered (R207, R210): the response, with the session that `key` names, stands in its buffer, STATUS and
STARTED are latched, the pair is DONE, and no request of it waits or runs. -/
def AnsweredTo (key : Nat × Nat) (s t : State) (p status : Nat) (started : Bool) (payload : List Byte) : Prop :=
  t.mbx p = 3 ∧ t.get (.MBX_LATCH_RSP_STATUS p) = status ∧ t.get (.MBX_STAT_STARTED p) = started.toNat ∧
    t.get (.MBX_DONE_DONE (p / 32)) / 2 ^ (p % 32) % 2 = 1 ∧
    (∀ w < 64, t.get (.MBX_RSP_DATA p w) = fieldAt (leBytes 2 (s.mbxCmd p) ++ leBytes 2 (s.get (.MBX_LATCH_TAG p)) ++ leBytes 2 status ++
      leBytes 2 payload.length ++ leBytes 4 key.2 ++ leBytes 1 key.1 ++ leBytes 1 started.toNat ++ leBytes 2 0 ++ payload) (4 * w) 4) ∧
    p ∉ t.aq.ring ∧ t.aq.running.all (fun e => e.1 != p) = true

/-- The response names the session that the request named (R212). -/
abbrev Answered (s t : State) (p status : Nat) (started : Bool) (payload : List Byte) : Prop :=
  AnsweredTo (s.mbxKey p) s t p status started payload

end Sys2Proof.Machine
end

