-- ==== Sys2Proof/Certificates/Slice0/Obligations.lean ====
section
/-! DEFINITION. The statements for the provers. A clause about a command says that it completes, what it leaves in the registers and
the other parts of the machine, and that everything its frame does not name stays as it was. -/

open Sys2Proof Sys2Proof.Machine

/-- POWER_ON and WEIR_RETRY with every regulator good release power-on reset with PG and BRD_PG set, the isolation FETs in
ideal-diode mode and the DRAM straps latched; WARN_ARM arms the warning, and the commit once power-on reset is released. Each
completes, and changes nothing but the state named. -/
def Obligations.SupplyRisesAndIsArmed : Prop :=
  (∀ (s : State) (straps : Straps), s.weir.powered = false →
    Completes (.powerOn true straps) s (fun t => (t.weir.powered = true ∧ t.weir.brdEn = true ∧ t.weir.iso = .diode ∧
    t.weir.testPending = true ∧ t.get .WEIR_REG_STATUS_PG = 15 ∧ t.get .WEIR_REG_STATUS_BRD_PG = 1 ∧
    t.get .WEIR_STATUS_ISO_OFF = 0 ∧ t.withy.bridge = .off ∧
    t.get .SLU_DRAM_CFG_SIZE = (if straps.dramSize % 4 = 3 then 0 else straps.dramSize % 4) ∧
    t.get .SLU_DRAM_CFG_RATE = (if straps.dramRate % 4 = 3 then 0 else straps.dramRate % 4) ∧
    t.get .DYKE_STATUS_STRAP = straps.factory.toNat) ∧ Frame [.weir, .withy, .dyke] [.fld .SLU_DRAM_CFG_SIZE,
    .fld .SLU_DRAM_CFG_RATE, .fld .CSW_STATUS_CAP, .fld .WEIR_STATUS_ISO_OFF, .fld .WEIR_REG_STATUS_BRD_PG,
    .fld .WEIR_REG_STATUS_PG, .fld .WEIR_FAULT_SRC, .fld .DYKE_STATUS_STRAP] s t)) ∧
  (∀ (s : State) (straps : Straps), s.weir.powered = false →
    Completes (.powerOn false straps) s (fun t => (t.weir.powered = false ∧ t.weir.brdEn = false ∧ t.weir.retryDue = true ∧
    t.get .WEIR_FAULT_SRC = (s.get .WEIR_FAULT_SRC ||| 2 ^ 7) % 2 ^ 9) ∧ Frame [.weir, .withy,
    .dyke] [.fld .SLU_DRAM_CFG_SIZE, .fld .SLU_DRAM_CFG_RATE, .fld .CSW_STATUS_CAP, .fld .WEIR_STATUS_ISO_OFF,
    .fld .WEIR_REG_STATUS_BRD_PG, .fld .WEIR_REG_STATUS_PG, .fld .WEIR_FAULT_SRC, .fld .DYKE_STATUS_STRAP] s t)) ∧
  (∀ (s : State) (straps : Straps), s.weir.powered = false → s.weir.retryDue = true →
    Completes (.weirRetry true straps) s (fun t => (t.weir.powered = true ∧ t.weir.brdEn = true ∧ t.weir.retryDue = false ∧
    t.get .WEIR_REG_STATUS_PG = 15) ∧ Frame [.weir, .withy, .dyke] [.fld .SLU_DRAM_CFG_SIZE, .fld .SLU_DRAM_CFG_RATE,
    .fld .CSW_STATUS_CAP, .fld .WEIR_STATUS_ISO_OFF, .fld .WEIR_REG_STATUS_BRD_PG, .fld .WEIR_REG_STATUS_PG,
    .fld .WEIR_FAULT_SRC, .fld .DYKE_STATUS_STRAP] s t)) ∧
  (∀ (s : State), Completes (.warnArm false) s (fun t => (t.get .WEIR_STATUS_WARN_ARMED = 1 ∧
    t.get .WEIR_STATUS_COMMIT_ARMED = s.get .WEIR_STATUS_COMMIT_ARMED) ∧ Frame [] [.fld .WEIR_STATUS_WARN_ARMED,
    .fld .WEIR_STATUS_COMMIT_ARMED] s t)) ∧
  (∀ (s : State), s.weir.powered = true → Completes (.warnArm true) s (fun t => (t.get .WEIR_STATUS_COMMIT_ARMED = 1 ∧
    t.get .WEIR_STATUS_WARN_ARMED = s.get .WEIR_STATUS_WARN_ARMED) ∧ Frame [] [.fld .WEIR_STATUS_WARN_ARMED,
    .fld .WEIR_STATUS_COMMIT_ARMED] s t))

/-- POWER_FAIL_WARNING with the warning armed and no sequence open sets PF to 1 with PF_MS 0, disarms the warning, holds
Staithe write admission and interrupts Mire; PF_CANCEL with PF = 1 and no latched window ends the window, releases the hold
and arms the warning again. Everything outside the frame is unchanged. -/
def Obligations.WarningOpensWindow : Prop :=
  (∀ (s : State) (mv : Nat), s.get .WEIR_STATUS_WARN_ARMED = 1 → s.get .WEIR_STATUS_PF = 0 →
    Completes (.powerFailWarning mv) s (fun t => (t.get .WEIR_STATUS_PF = 1 ∧ t.get .WEIR_STATUS_PF_MS = 0 ∧
    t.get .WEIR_STATUS_WARN_ARMED = 0 ∧ t.get .STH_STATUS_PF_HOLD = 1 ∧ t.get .WEIR_MEAS_V12_MV = mv % 2 ^ 16 ∧
    MireIrq.warning ∈ t.mireIrq) ∧ Frame [.mireIrq, .weir] [.fld .STH_STATUS_PF_HOLD, .fld .SLU_SCRB_STATUS_BUSY,
    .fld .SLU_SCRB_STATUS_STOPPED, .fld .WEIR_STATUS_PF, .fld .WEIR_STATUS_WARN_ARMED, .fld .WEIR_STATUS_PF_MS,
    .fld .WEIR_MEAS_V12_MV, .fld .WEIR_MIN_V12_MV, .fld .WEIR_AON_STATUS_WARM_PF] s t)) ∧
  (∀ (s : State) (mv : Nat), s.get .WEIR_STATUS_PF = 1 → s.get .WEIR_AON_STATUS_WARM_PF = 0 →
    Completes (.pfCancel mv) s (fun t => (t.get .WEIR_STATUS_PF = 0 ∧ t.get .STH_STATUS_PF_HOLD = 0 ∧
    t.get .WEIR_STATUS_WARN_ARMED = 1 ∧ t.aq.dip = true) ∧ Frame (alarmParts ++ ([.weir, .aq] : List Part)) (alarmRegs ++
    haltRegs ++ ([.fld .STH_STATUS_PF_HOLD, .fld .WEIR_STATUS_PF, .fld .WEIR_STATUS_WARN_ARMED, .fld .WEIR_MEAS_V12_MV,
    .fld .WEIR_MIN_V12_MV, .fld .WEIR_FAULT_SRC, .fld .WEIR_AON_STATUS_WARM_PF, .fld .WEIR_AON_STATUS_LAST_MIN,
    .fld .WEIR_AON_CNT_DIPS] : List Regs)) s t))

/-- SUPPLY_LOSS, WEIR_REG_FAULT with the regulators running, and VAON_LOST each hold the dies in power-on reset: power-on
reset and BRD_EN are off, Mire does not run, DRAM and Fen memory hold nothing. The always-on registers at 0x4A00_0040 and
0x4A00_0044 keep their words on SUPPLY_LOSS and read 0 after VAON_LOST; WEIR_REG_FAULT leaves a retry due. The queue of
waiting commands is unchanged. -/
def Obligations.SuppliesAreLost : Prop :=
  (∀ (s : State), Completes (.supplyLoss) s (fun t => (t.weir.powered = false ∧ t.weir.brdEn = false ∧ t.weir.iso = .off ∧
    t.mireRuns = false ∧ t.dram = [] ∧ t.sram = [] ∧ t.get ⟨0x4A000040, 0, 32⟩ = s.get ⟨0x4A000040, 0, 32⟩ ∧
    t.get ⟨0x4A000044, 0, 32⟩ = s.get ⟨0x4A000044, 0, 32⟩) ∧ Frame (alarmParts ++ ([.dram, .sram, .shockQuiet, .tide, .weir,
    .mireRuns, .warmBusy, .withy, .tus, .links, .slu, .sth, .dma, .carr, .mq, .aq, .dyke] : List Part)) [.all] s t)) ∧
  (∀ (s : State), s.weir.brdEn = true → Completes (.weirRegFault) s (fun t => (t.weir.powered = false ∧ t.weir.brdEn = false ∧
    t.weir.retryDue = true ∧ t.weir.iso = s.weir.iso ∧ t.mireRuns = false ∧ t.dram = [] ∧ t.get .WEIR_FAULT_SRC = 2 ^ 7) ∧
    Frame (alarmParts ++ ([.dram, .sram, .shockQuiet, .tide, .weir, .mireRuns, .warmBusy, .withy, .tus, .links, .slu, .sth,
    .dma, .carr, .mq, .aq, .dyke] : List Part)) [.all] s t)) ∧
  (∀ (s : State), Completes (.vaonLost) s (fun t => (t.weir.powered = false ∧ t.weir.iso = .off ∧ t.mireRuns = false ∧
    t.dram = [] ∧ t.get ⟨0x4A000040, 0, 32⟩ = 0 ∧ t.get ⟨0x4A000044, 0, 32⟩ = 0) ∧ Frame (alarmParts ++ ([.dram, .sram,
    .shockQuiet, .tide, .weir, .mireRuns, .warmBusy, .withy, .tus, .links, .slu, .sth, .dma, .carr, .mq, .aq,
    .dyke] : List Part)) [.all] s t))

/-- Completion and effects of the commands named, on the states named (after R396, R400, R405, R407, each in part). -/
def Obligations.CommitIsolatesTheDrive : Prop :=
  (∀ (s : State) (mv : Nat), s.weir.powered = true → s.get .WEIR_STATUS_COMMIT_ARMED = 1 → s.get .WEIR_STATUS_PF < 2 →
    Completes (.powerFailCommit mv) s (fun t => (t.get .WEIR_STATUS_PF = 2 ∧ t.get .WEIR_STATUS_CAUSE = 1 ∧
    t.get .WEIR_AON_STATUS_COMMIT_SEEN = 1 ∧ t.get .WEIR_AON_STATUS_LAST_CAUSE = 1 ∧ t.get .WEIR_STATUS_ISO_OFF = 1 ∧
    t.weir.iso = .isolated ∧ t.weir.late = false ∧ t.get .WEIR_STATUS_PF_MS = 0 ∧
    t.get .WEIR_AON_CNT_COMMITS = min (s.get .WEIR_AON_CNT_COMMITS + 1) (2 ^ Fld.WEIR_AON_CNT_COMMITS.width - 1) ∧
    (s.get .WEIR_STATUS_PF = 0 → t.get .STH_STATUS_PF_HOLD = 1 ∧ t.get .WEIR_STATUS_WARN_ARMED = 0)) ∧ Frame (alarmParts ++
    ([.dram, .drawn, .tide, .weir, .withy, .slu, .sth, .mq, .aq, .dyke] : List Part)) (alarmRegs ++ haltRegs ++
    ([.fld .TIDE_STATUS_STATE, .fld .TIDE_CELL_PERIOD_PERIOD, .fld .WTH_SPN_STATUS_STATE, .fld .WTH_SPN_STATUS_AT_SPEED,
    .fld .WTH_SPN_STATUS_FW_ACTIVE, .fld .WTH_SPN_STATUS_FW_SAT, .fld .WTH_SPN_STATUS_STOP_BLOCKED,
    .fld .WTH_SPN_STATUS_HOLD_COLLAPSE, .fld .WTH_SPN_MEAS_TRACK, .fld .WTH_SPN_FOC_ID, .fld .WTH_SPN_FOC_MI,
    .arr (.REED_ST_CTRL_ABORT 0) 0x100 8] : List Regs) ++ ([.arr (.MBX_DONE_DONE 0) 0x4 2,
    .grid (.MBX_RSP_DATA 0 0) 0x400 64 0x4 64, .arr (.MBX_STAT_CANCEL_REQ 0) 0x400 64, .arr (.MBX_STAT_STARTED 0) 0x400 64,
    .arr (.MBX_STAT_STATE 0) 0x400 64, .arr (.MBX_LATCH_RSP_STATUS 0) 0x400 64, .arr (.MWQ_STATUS_BLOCKED 0) 0x20 16,
    .arr (.MWQ_STATUS_OUTST 0) 0x20 16, .arr (.MWC_PI_PASS 0) 0x20 4, .arr (.MWC_PI_PI 0) 0x20 4,
    .arr (.MWC_STATUS_SCAN_STOP 0) 0x20 4, .arr (.MWC_STATUS_SPILL_CNT 0) 0x20 4] : List Regs) ++
    ([.fld .MWQ_SYS_STATUS_FLUSH, .fld .MWQ_SYS_STATUS_CAL, .fld .STH_STATUS_QUIESCED, .fld .STH_STATUS_PF_HOLD,
    .fld .STH_STATUS_LIVE, .fld .STH_LOCK_STATUS_WAITING, .fld .STH_LOCK_STATUS_HELD, .fld .STH_FATE_STATUS_UNRESOLVED,
    .fld .STH_FATE_STATUS_RECORDS, .fld .STH_FATE_DROP_COUNT, .fld .SLU_STATUS_LED_FREE,
    .arr (.SLU_SEC_FREE_FREE 0) 0x4 4] : List Regs) ++ ([.arr (.SLU_SEC_RUN_RUN 0) 0x4 4, .arr (.SLU_CRED_USED_USED 0) 0x4 32,
    .fld .SLU_SCRB_STATUS_BUSY, .fld .SLU_SCRB_STATUS_STOPPED, .fld .WEIR_STATUS_PF, .fld .WEIR_STATUS_WARN_ARMED,
    .fld .WEIR_STATUS_ISO_OFF, .fld .WEIR_STATUS_CAUSE, .fld .WEIR_STATUS_PF_MS, .fld .WEIR_MEAS_V12_MV,
    .fld .WEIR_MIN_V12_MV, .fld .WEIR_FAULT_SRC] : List Regs) ++ ([.fld .WEIR_AON_STATUS_COMMIT_SEEN,
    .fld .WEIR_AON_STATUS_WARM_PF, .fld .WEIR_AON_STATUS_LAST_CAUSE, .fld .WEIR_AON_STATUS_LAST_MIN,
    .fld .WEIR_AON_CNT_COMMITS, .fld .DYKE_SLOT_INACTIVE, .fld .MBX_START_RESULT, .fld .MBX_START_CAUSE,
    .fld .MBX_START_FAILED, .fld .MBX_START_LOADED] : List Regs)) s t)) ∧
  (∀ (s : State) (mv : Nat), s.weir.powered = true → s.get .WEIR_STATUS_PF < 2 →
    Completes (.weirOvIn mv) s (fun t => (t.get .WEIR_STATUS_PF = 2 ∧ t.get .WEIR_STATUS_CAUSE = 2 ∧
    t.get .WEIR_AON_STATUS_COMMIT_SEEN = 1 ∧ t.get .WEIR_STATUS_ISO_OFF = 1 ∧ t.weir.iso = .isolated) ∧ Frame (alarmParts ++
    ([.dram, .drawn, .tide, .weir, .withy, .slu, .sth, .mq, .aq, .dyke] : List Part)) (alarmRegs ++ haltRegs ++
    ([.fld .TIDE_STATUS_STATE, .fld .TIDE_CELL_PERIOD_PERIOD, .fld .WTH_SPN_STATUS_STATE, .fld .WTH_SPN_STATUS_AT_SPEED,
    .fld .WTH_SPN_STATUS_FW_ACTIVE, .fld .WTH_SPN_STATUS_FW_SAT, .fld .WTH_SPN_STATUS_STOP_BLOCKED,
    .fld .WTH_SPN_STATUS_HOLD_COLLAPSE, .fld .WTH_SPN_MEAS_TRACK, .fld .WTH_SPN_FOC_ID, .fld .WTH_SPN_FOC_MI,
    .arr (.REED_ST_CTRL_ABORT 0) 0x100 8] : List Regs) ++ ([.arr (.MBX_DONE_DONE 0) 0x4 2,
    .grid (.MBX_RSP_DATA 0 0) 0x400 64 0x4 64, .arr (.MBX_STAT_CANCEL_REQ 0) 0x400 64, .arr (.MBX_STAT_STARTED 0) 0x400 64,
    .arr (.MBX_STAT_STATE 0) 0x400 64, .arr (.MBX_LATCH_RSP_STATUS 0) 0x400 64, .arr (.MWQ_STATUS_BLOCKED 0) 0x20 16,
    .arr (.MWQ_STATUS_OUTST 0) 0x20 16, .arr (.MWC_PI_PASS 0) 0x20 4, .arr (.MWC_PI_PI 0) 0x20 4,
    .arr (.MWC_STATUS_SCAN_STOP 0) 0x20 4, .arr (.MWC_STATUS_SPILL_CNT 0) 0x20 4] : List Regs) ++
    ([.fld .MWQ_SYS_STATUS_FLUSH, .fld .MWQ_SYS_STATUS_CAL, .fld .STH_STATUS_QUIESCED, .fld .STH_STATUS_PF_HOLD,
    .fld .STH_STATUS_LIVE, .fld .STH_LOCK_STATUS_WAITING, .fld .STH_LOCK_STATUS_HELD, .fld .STH_FATE_STATUS_UNRESOLVED,
    .fld .STH_FATE_STATUS_RECORDS, .fld .STH_FATE_DROP_COUNT, .fld .SLU_STATUS_LED_FREE,
    .arr (.SLU_SEC_FREE_FREE 0) 0x4 4] : List Regs) ++ ([.arr (.SLU_SEC_RUN_RUN 0) 0x4 4, .arr (.SLU_CRED_USED_USED 0) 0x4 32,
    .fld .SLU_SCRB_STATUS_BUSY, .fld .SLU_SCRB_STATUS_STOPPED, .fld .WEIR_STATUS_PF, .fld .WEIR_STATUS_WARN_ARMED,
    .fld .WEIR_STATUS_ISO_OFF, .fld .WEIR_STATUS_CAUSE, .fld .WEIR_STATUS_PF_MS, .fld .WEIR_MEAS_V12_MV,
    .fld .WEIR_MIN_V12_MV, .fld .WEIR_FAULT_SRC] : List Regs) ++ ([.fld .WEIR_AON_STATUS_COMMIT_SEEN,
    .fld .WEIR_AON_STATUS_WARM_PF, .fld .WEIR_AON_STATUS_LAST_CAUSE, .fld .WEIR_AON_STATUS_LAST_MIN,
    .fld .WEIR_AON_CNT_COMMITS, .fld .DYKE_SLOT_INACTIVE, .fld .MBX_START_RESULT, .fld .MBX_START_CAUSE,
    .fld .MBX_START_FAILED, .fld .MBX_START_LOADED] : List Regs)) s t)) ∧
  (∀ (s : State) (mv : Nat), s.weir.powered = true → 2 ≤ s.get .WEIR_STATUS_PF →
    Completes (.weirOvIn mv) s (fun t => (t.get .WEIR_STATUS_PF = s.get .WEIR_STATUS_PF ∧ t.get .WEIR_STATUS_ISO_OFF = 1 ∧
    t.weir.iso = .isolated ∧ t.latched 0x0D03 0 = true) ∧ Frame (alarmParts ++ ([.dram, .drawn, .tide, .weir, .withy, .slu,
    .sth, .mq, .aq, .dyke] : List Part)) (alarmRegs ++ haltRegs ++ ([.fld .TIDE_STATUS_STATE, .fld .TIDE_CELL_PERIOD_PERIOD,
    .fld .WTH_SPN_STATUS_STATE, .fld .WTH_SPN_STATUS_AT_SPEED, .fld .WTH_SPN_STATUS_FW_ACTIVE, .fld .WTH_SPN_STATUS_FW_SAT,
    .fld .WTH_SPN_STATUS_STOP_BLOCKED, .fld .WTH_SPN_STATUS_HOLD_COLLAPSE, .fld .WTH_SPN_MEAS_TRACK, .fld .WTH_SPN_FOC_ID,
    .fld .WTH_SPN_FOC_MI, .arr (.REED_ST_CTRL_ABORT 0) 0x100 8] : List Regs) ++ ([.arr (.MBX_DONE_DONE 0) 0x4 2,
    .grid (.MBX_RSP_DATA 0 0) 0x400 64 0x4 64, .arr (.MBX_STAT_CANCEL_REQ 0) 0x400 64, .arr (.MBX_STAT_STARTED 0) 0x400 64,
    .arr (.MBX_STAT_STATE 0) 0x400 64, .arr (.MBX_LATCH_RSP_STATUS 0) 0x400 64, .arr (.MWQ_STATUS_BLOCKED 0) 0x20 16,
    .arr (.MWQ_STATUS_OUTST 0) 0x20 16, .arr (.MWC_PI_PASS 0) 0x20 4, .arr (.MWC_PI_PI 0) 0x20 4,
    .arr (.MWC_STATUS_SCAN_STOP 0) 0x20 4, .arr (.MWC_STATUS_SPILL_CNT 0) 0x20 4] : List Regs) ++
    ([.fld .MWQ_SYS_STATUS_FLUSH, .fld .MWQ_SYS_STATUS_CAL, .fld .STH_STATUS_QUIESCED, .fld .STH_STATUS_PF_HOLD,
    .fld .STH_STATUS_LIVE, .fld .STH_LOCK_STATUS_WAITING, .fld .STH_LOCK_STATUS_HELD, .fld .STH_FATE_STATUS_UNRESOLVED,
    .fld .STH_FATE_STATUS_RECORDS, .fld .STH_FATE_DROP_COUNT, .fld .SLU_STATUS_LED_FREE,
    .arr (.SLU_SEC_FREE_FREE 0) 0x4 4] : List Regs) ++ ([.arr (.SLU_SEC_RUN_RUN 0) 0x4 4, .arr (.SLU_CRED_USED_USED 0) 0x4 32,
    .fld .SLU_SCRB_STATUS_BUSY, .fld .SLU_SCRB_STATUS_STOPPED, .fld .WEIR_STATUS_PF, .fld .WEIR_STATUS_WARN_ARMED,
    .fld .WEIR_STATUS_ISO_OFF, .fld .WEIR_STATUS_CAUSE, .fld .WEIR_STATUS_PF_MS, .fld .WEIR_MEAS_V12_MV,
    .fld .WEIR_MIN_V12_MV, .fld .WEIR_FAULT_SRC] : List Regs) ++ ([.fld .WEIR_AON_STATUS_COMMIT_SEEN,
    .fld .WEIR_AON_STATUS_WARM_PF, .fld .WEIR_AON_STATUS_LAST_CAUSE, .fld .WEIR_AON_STATUS_LAST_MIN,
    .fld .WEIR_AON_CNT_COMMITS, .fld .DYKE_SLOT_INACTIVE, .fld .MBX_START_RESULT, .fld .MBX_START_CAUSE,
    .fld .MBX_START_FAILED, .fld .MBX_START_LOADED] : List Regs)) s t)) ∧
  (∀ (s : State), s.get .WEIR_STATUS_PF = 2 → Completes (.fenClockStop) s (fun t => ((∀ c < 8, t.fenRuns c = false) ∧
    t.regs = s.regs) ∧ Frame [.weir] [] s t))

/-- Completion and effects of the commands named, on the states named (after R402, R403, R405, each in part). -/
def Obligations.SequenceEnds : Prop :=
  (∀ (s : State), s.get .WEIR_STATUS_PF = 2 → s.weir.late = false → Completes (.weirPfLate) s (fun t => (t.weir.late = true ∧
    t.latched 0x0D07 0 = true ∧ t.get .WEIR_STATUS_PF = 2 ∧ MireIrq.late ∈ t.mireIrq ∧
    (s.latePoint ≤ t.get .WEIR_STATUS_PF_MS ∨ 2 ^ Fld.WEIR_STATUS_PF_MS.width ≤ s.latePoint) ∧ (s.mireActs = true →
    s.mq.flushEnded = false → t.mq.flushEnded = true ∧ t.slu.flushing = false ∧ t.mq.flush = [])) ∧ Frame (alarmParts ++
    ([.weir, .withy, .slu, .sth, .mq] : List Part)) (alarmRegs ++ haltRegs ++ ([.arr (.WTH_VCM_STATUS_RET_ACTIVE 0) 0x4 4,
    .arr (.WTH_VCM_STATUS_ENABLED 0) 0x4 4, .arr (.WTH_MA_CTRL_HOLD 0) 0x4 8, .arr (.WTH_MA_STATUS_VOUT 0) 0x4 8,
    .arr (.MWQ_STATUS_BLOCKED 0) 0x20 16, .arr (.MWQ_STATUS_OUTST 0) 0x20 16, .fld .MWQ_SYS_STATUS_FLUSH,
    .fld .MWQ_SYS_STATUS_CAL, .fld .STH_FATE_STATUS_UNRESOLVED, .fld .STH_FATE_STATUS_RECORDS, .fld .STH_FATE_DROP_COUNT,
    .fld .WEIR_STATUS_PF_MS] : List Regs) ++ ([.fld .WEIR_FAULT_SRC] : List Regs)) s t)) ∧
  (∀ (s : State), s.get .WEIR_STATUS_PF = 2 → Completes (.pfBudget) s (fun t => (t.get .WEIR_STATUS_PF = 3 ∧
    t.get .WEIR_AON_STATUS_WARM_PF = 0 ∧ t.slu.flushing = false ∧ t.mq.flush = [] ∧ (∀ i, (t.slu.ledger.at i).state ≠ 2 ∧
    (t.slu.ledger.at i).state ≠ 3) ∧ (∀ k < 4, s.get (.WTH_VCM_STATUS_PARKED k) = 0 →
    t.get (.WTH_VCM_STATUS_RET_ACTIVE k) = 1)) ∧ Frame [.mireIrq, .seqs, .chans, .stg, .tide, .withy, .slu, .sth,
    .mq] (haltRegs ++ ([.fld .TIDE_STATUS_STATE, .fld .TIDE_CELL_PERIOD_PERIOD, .fld .WTH_SPN_STATUS_STATE,
    .fld .WTH_SPN_STATUS_AT_SPEED, .fld .WTH_SPN_STATUS_FW_ACTIVE, .fld .WTH_SPN_STATUS_FW_SAT,
    .fld .WTH_SPN_STATUS_STOP_BLOCKED, .fld .WTH_SPN_MEAS_TRACK, .fld .WTH_SPN_FOC_ID, .fld .WTH_SPN_FOC_MI,
    .arr (.WTH_VCM_STATUS_RET_ACTIVE 0) 0x4 4, .arr (.WTH_VCM_STATUS_ENABLED 0) 0x4 4] : List Regs) ++
    ([.arr (.WTH_MA_CTRL_HOLD 0) 0x4 8, .arr (.WTH_MA_STATUS_VOUT 0) 0x4 8, .fld .STH_FATE_STATUS_UNRESOLVED,
    .fld .STH_FATE_STATUS_RECORDS, .fld .STH_FATE_DROP_COUNT, .fld .SLU_STATUS_LED_FREE, .arr (.SLU_SEC_FREE_FREE 0) 0x4 4,
    .arr (.SLU_SEC_RUN_RUN 0) 0x4 4, .arr (.SLU_CRED_USED_USED 0) 0x4 32, .fld .WEIR_STATUS_PF, .fld .WEIR_STATUS_PF_MS,
    .fld .WEIR_AON_STATUS_WARM_PF] : List Regs) ++ ([.fld .WEIR_AON_STATUS_LAST_MIN] : List Regs)) s t)) ∧
  (∀ (s : State), s.get .WEIR_STATUS_PF = 2 → s.aqsiaActs = true → s.mq.flushEnded = true → s.allParked = true →
    Completes (.pfDone) s (fun t => (t.get .WEIR_STATUS_PF = 3 ∧ t.get .WEIR_AON_STATUS_WARM_PF = 0 ∧ t.slu.flushing = false ∧
    t.mq.flush = [] ∧ (∀ i, (t.slu.ledger.at i).state ≠ 2 ∧ (t.slu.ledger.at i).state ≠ 3)) ∧ Frame (alarmParts ++ ([.tide,
    .withy, .slu, .sth, .mq] : List Part)) (alarmRegs ++ haltRegs ++ ([.fld .TIDE_STATUS_STATE, .fld .TIDE_CELL_PERIOD_PERIOD,
    .fld .WTH_SPN_STATUS_STATE, .fld .WTH_SPN_STATUS_AT_SPEED, .fld .WTH_SPN_STATUS_FW_ACTIVE, .fld .WTH_SPN_STATUS_FW_SAT,
    .fld .WTH_SPN_STATUS_STOP_BLOCKED, .fld .WTH_SPN_MEAS_TRACK, .fld .WTH_SPN_FOC_ID, .fld .WTH_SPN_FOC_MI,
    .fld .STH_FATE_STATUS_UNRESOLVED, .fld .STH_FATE_STATUS_RECORDS] : List Regs) ++ ([.fld .STH_FATE_DROP_COUNT,
    .fld .SLU_STATUS_LED_FREE, .arr (.SLU_SEC_FREE_FREE 0) 0x4 4, .arr (.SLU_SEC_RUN_RUN 0) 0x4 4,
    .arr (.SLU_CRED_USED_USED 0) 0x4 32, .fld .WEIR_STATUS_PF, .fld .WEIR_AON_STATUS_WARM_PF,
    .fld .WEIR_AON_STATUS_LAST_MIN] : List Regs)) s t)) ∧
  (∀ (s : State), s.get .WEIR_STATUS_PF = 3 → s.lev.resetReq = none →
    Completes (.pfEnd true) s (fun t => (t.get .WEIR_STATUS_PF = 0 ∧ t.lev.resetReq = some (3, 0, 0) ∧ t.weir.iso = .diode ∧
    t.get .WEIR_STATUS_ISO_OFF = 0) ∧ Frame (alarmParts ++ ([.dram, .sram, .shockQuiet, .tide, .weir, .mireRuns, .warmBusy,
    .withy, .tus, .links, .slu, .sth, .dma, .carr, .mq, .aq, .dyke] : List Part)) [.all] s t)) ∧
  (∀ (s : State), s.get .WEIR_STATUS_PF = 3 → Completes (.pfEnd false) s (fun t => (t.weir.powered = false ∧
    t.weir.iso = .off ∧ t.mireRuns = false ∧ t.dram = []) ∧ Frame (alarmParts ++ ([.dram, .sram, .shockQuiet, .tide, .weir,
    .mireRuns, .warmBusy, .withy, .tus, .links, .slu, .sth, .dma, .carr, .mq, .aq, .dyke] : List Part)) [.all] s t))

/-- POWER_FAIL_FLUSH after a commit, once Aqsia runs and before the late point, starts the flush: with no entry HELD or
WRITING it ends at once, with no flush left, the fate log mirrored to NOR under the next sequence number and PF still 2.
FLUSH_ENTRY_DONE for an entry whose header and run its stream has written makes that entry FLUSHED (state 5) and moves the
stream on in its band extent by the sectors of the entry. -/
def Obligations.LedgerIsFlushed : Prop :=
  (∀ (s : State), s.get .WEIR_STATUS_PF = 2 → s.aqsiaActs = true → s.weir.late = false → s.mq.flushEnded = false →
    s.mq.flushDead = false → s.slu.flushing = false → s.toFlush = [] → s.sth.deferred = [] →
    Completes (.powerFailFlush) s (fun t => (t.slu.flushing = false ∧ t.mq.flush = [] ∧ t.mq.flushEnded = true ∧
    t.sth.mirror.records = s.sth.fates ∧ t.sth.mirror.seq = (s.sth.mirror.seq + 1) % 2 ^ 32 ∧ t.get .WEIR_STATUS_PF = 2) ∧
    Frame (alarmParts ++ ([.tide, .withy, .tus, .slu, .sth, .mq] : List Part)) (alarmRegs ++ haltRegs ++
    ([.arr (.TIDE_ST_CBPC_CBPC 0) 0x4 8, .arr (.TIDE_ST_PHASE_PHASE 0) 0x4 8, .arr (.WTH_VCM_STATUS_RET_ACTIVE 0) 0x4 4,
    .arr (.WTH_VCM_STATUS_ENABLED 0) 0x4 4, .arr (.WTH_MA_CTRL_HOLD 0) 0x4 8, .arr (.WTH_MA_STATUS_VOUT 0) 0x4 8,
    .arr (.TUS_SEC_CTRL_HEAD1 0) 0x40 4, .arr (.TUS_SEC_CTRL_HEAD0 0) 0x40 4, .arr (.TUS_SEC_CTRL_LANE_EN 0) 0x40 4,
    .arr (.TUS_SEEK_CTRL_HINT 0) 0x20 4, .grid (.TUS_SEEK_TGT_TRACK 0 0) 0x20 4 0x4 2,
    .grid (.TUS_SEEK_TGT_FRAC 0 0) 0x20 4 0x4 2] : List Regs) ++ ([.arr (.REED_ST_CTRL_ABORT 0) 0x100 8,
    .arr (.REED_ST_CTRL_FLUSH 0) 0x100 8, .arr (.REED_ST_CTRL_ENTRY 0) 0x100 8, .arr (.REED_ST_STATUS_RESTARTS 0) 0x100 8,
    .arr (.REED_ST_STATUS_EVT_CNT 0) 0x100 8, .arr (.REED_ST_PC_MARK_PC 0) 0x100 8, .arr (.REED_ST_PC_PC 0) 0x100 8,
    .arr (.REED_ST_THRESH_THRESH 0) 0x100 8, .grid (.REED_OP_VALUE 0 0) 0x100 8 0x4 8,
    .grid (.REED_ST_G_VALUE 0 0) 0x100 8 0x4 16, .arr (.SDG_ST_CTRL_COMB 0) 0x400 8,
    .arr (.SDG_ST_CTRL_FORCE_TIMED 0) 0x400 8] : List Regs) ++ ([.arr (.SDG_ST_CTRL_ALT_SET 0) 0x400 8,
    .arr (.SDG_ST_CTRL_STEP 0) 0x400 8, .arr (.SDG_ST_CTRL_MODE 0) 0x400 8, .arr (.SDG_ST_STATUS_CODE_ERR 0) 0x400 8,
    .arr (.SDG_CODE_C 0) 0x400 8, .arr (.SDG_CODE_META 0) 0x400 8, .arr (.SDG_SEAL_TRK_SURF 0) 0x400 8,
    .arr (.SDG_SEAL_TRK_TRACK 0) 0x400 8, .arr (.SDG_WR_CFG_MARKER 0) 0x400 8, .arr (.SDG_WR_CFG_ADV 0) 0x400 8,
    .arr (.SDG_VFY_CFG_DLY 0) 0x400 8, .arr (.SDG_VFY_CFG_VAMP_CAL 0) 0x400 8] : List Regs) ++
    ([.grid (.SDG_WPC_SHIFT 0 0) 0x400 8 0x4 8, .grid (.SDG_WPC_ANG_SCALE 0 0) 0x400 8 0x4 16,
    .arr (.MWQ_STATUS_BLOCKED 0) 0x20 16, .arr (.MWQ_STATUS_OUTST 0) 0x20 16, .fld .MWQ_SYS_STATUS_FLUSH,
    .fld .MWQ_SYS_STATUS_CAL, .fld .STH_FATE_STATUS_UNRESOLVED, .fld .STH_FATE_STATUS_RECORDS,
    .fld .STH_FATE_DROP_COUNT] : List Regs)) s t)) ∧
  (∀ (s : State) (n entry : Nat) (r : FlushRun), s.get .WEIR_STATUS_PF = 2 → s.slu.flushing = true →
    s.mq.flushing.at n = some r → r.entry = entry → r.op = 0 → s.flushLen entry ≤ r.done →
    Completes (.flushEntryDone n entry) s (fun t => ((t.slu.ledger.at entry).state = 5 ∧ t.slu.flushing = true ∧
    t.mq.bandAt.at n = s.mq.bandAt.at n + s.flushLen entry) ∧ Frame (alarmParts ++ ([.slu, .mq] : List Part)) (alarmRegs ++
    haltRegs ++ ([.arr (.REED_ST_STATUS_EVT_CNT 0) 0x100 8, .arr (.MWQ_STATUS_BLOCKED 0) 0x20 16,
    .arr (.MWQ_STATUS_OUTST 0) 0x20 16, .fld .MWQ_SYS_STATUS_FLUSH, .fld .MWQ_SYS_STATUS_CAL, .fld .SLU_STATUS_LED_FREE,
    .arr (.SLU_SEC_FREE_FREE 0) 0x4 4, .arr (.SLU_SEC_RUN_RUN 0) 0x4 4,
    .arr (.SLU_CRED_USED_USED 0) 0x4 32] : List Regs)) s t))

/-- Completion and effects of the commands named, on the states named (after R395, R405, R406, R407, R409, R411, each in
part). -/
def Obligations.MonitorsAndChopper : Prop :=
  (∀ (s : State) (v12 vhb : Nat), s.weir.iso = .diode → v12 + 20 < vhb →
    Completes (.isoDiodeOff v12 vhb) s (fun t => (t.get .WEIR_STATUS_ISO_OFF = 1 ∧ t.get .WEIR_MEAS_VHB_MV = vhb % 2 ^ 16) ∧
    Frame [.weir] [.fld .WEIR_STATUS_ISO_OFF, .fld .WEIR_MEAS_V12_MV, .fld .WEIR_MEAS_VHB_MV, .fld .WEIR_MIN_V12_MV] s t)) ∧
  (∀ (s : State) (v12 vhb : Nat), s.weir.iso = .diode → vhb < v12 →
    Completes (.isoDiodeOff v12 vhb) s (fun t => (t.get .WEIR_STATUS_ISO_OFF = 0 ∧ t.get .WEIR_MEAS_VHB_MV = vhb % 2 ^ 16) ∧
    Frame [.weir] [.fld .WEIR_STATUS_ISO_OFF, .fld .WEIR_MEAS_V12_MV, .fld .WEIR_MEAS_VHB_MV, .fld .WEIR_MIN_V12_MV] s t)) ∧
  (∀ (s : State) (vhb : Nat), 13600 ≤ vhb → s.get .WEIR_STATUS_CHOP_ON = 0 →
    Completes (.chopOn vhb) s (fun t => (t.get .WEIR_STATUS_CHOP_ON = 1 ∧ t.get .WEIR_MEAS_VHB_MV = vhb % 2 ^ 16 ∧
    t.get .WEIR_CHOP_ON_CNT = min (s.get .WEIR_CHOP_ON_CNT + 1) (2 ^ 16 - 1)) ∧ Frame [] [.fld .WEIR_STATUS_CHOP_ON,
    .fld .WEIR_MEAS_VHB_MV, .fld .WEIR_CHOP_ON_CNT] s t)) ∧
  (∀ (s : State) (vhb : Nat), vhb ≤ 13300 → Completes (.chopOn vhb) s (fun t => (t.get .WEIR_STATUS_CHOP_ON = 0 ∧
    t.get .WEIR_MEAS_VHB_MV = vhb % 2 ^ 16) ∧ Frame [] [.fld .WEIR_STATUS_CHOP_ON, .fld .WEIR_MEAS_VHB_MV,
    .fld .WEIR_CHOP_ON_CNT] s t)) ∧
  (∀ (s : State) (vhb current : Nat), 10500 ≤ vhb → 50 ≤ current →
    Completes (.chopTest vhb current) s (fun t => (t.get .WEIR_STATUS_CHOP_TESTED = 1 ∧ t.get .WEIR_STATUS_CHOP_FAULT = 0 ∧
    t.weir.testPending = false ∧ t.get .WEIR_MEAS_VHB_MV = vhb % 2 ^ 16) ∧ Frame (alarmParts ++
    ([.weir] : List Part)) (alarmRegs ++ haltRegs ++ ([.fld .WEIR_STATUS_CHOP_FAULT, .fld .WEIR_STATUS_CHOP_TESTED,
    .fld .WEIR_MEAS_VHB_MV, .fld .WEIR_CHOP_IPK, .fld .WEIR_CHOP_ON_CNT, .fld .WEIR_FAULT_SRC] : List Regs)) s t)) ∧
  (∀ (s : State) (vhb current : Nat), 10500 ≤ vhb → current < 50 →
    Completes (.chopTest vhb current) s (fun t => (t.get .WEIR_STATUS_CHOP_TESTED = 1 ∧ t.get .WEIR_STATUS_CHOP_FAULT = 1 ∧
    t.latched 0x0D05 0 = true) ∧ Frame (alarmParts ++ ([.weir] : List Part)) (alarmRegs ++ haltRegs ++
    ([.fld .WEIR_STATUS_CHOP_FAULT, .fld .WEIR_STATUS_CHOP_TESTED, .fld .WEIR_MEAS_VHB_MV, .fld .WEIR_CHOP_IPK,
    .fld .WEIR_CHOP_ON_CNT, .fld .WEIR_FAULT_SRC] : List Regs)) s t)) ∧
  (∀ (s : State) (vhb current : Nat), vhb < 10500 → Completes (.chopTest vhb current) s (fun t => (t.weir.testPending = true ∧
    t.get .WEIR_STATUS_CHOP_TESTED = s.get .WEIR_STATUS_CHOP_TESTED ∧ t.get .WEIR_MEAS_VHB_MV = vhb % 2 ^ 16) ∧
    Frame (alarmParts ++ ([.weir] : List Part)) (alarmRegs ++ haltRegs ++ ([.fld .WEIR_STATUS_CHOP_FAULT,
    .fld .WEIR_STATUS_CHOP_TESTED, .fld .WEIR_MEAS_VHB_MV, .fld .WEIR_CHOP_IPK, .fld .WEIR_CHOP_ON_CNT,
    .fld .WEIR_FAULT_SRC] : List Regs)) s t)) ∧
  (∀ (s : State), s.get .WEIR_STATUS_CHOP_ON = 1 → Completes (.weirChopOpen) s (fun t => (t.get .WEIR_STATUS_CHOP_FAULT = 1 ∧
    t.latched 0x0D05 0 = true ∧ t.get .WEIR_FAULT_SRC = (s.get .WEIR_FAULT_SRC ||| 2 ^ 4) % 2 ^ 9) ∧
    Frame alarmParts (alarmRegs ++ haltRegs ++ ([.fld .WEIR_STATUS_CHOP_FAULT, .fld .WEIR_FAULT_SRC] : List Regs)) s t)) ∧
  (∀ (s : State) (current : Nat), s.get .WEIR_STATUS_CHOP_ON = 0 →
    Completes (.weirChopShort current) s (fun t => (t.latched 0x0D06 0 = true ∧
    t.get .WEIR_FAULT_SRC = (s.get .WEIR_FAULT_SRC ||| 2 ^ 5) % 2 ^ 9) ∧ Frame alarmParts (alarmRegs ++ haltRegs ++
    ([.fld .WEIR_CHOP_IPK, .fld .WEIR_FAULT_SRC] : List Regs)) s t)) ∧
  (∀ (s : State) (vhb : Nat), s.get .WEIR_STATUS_CHOP_FAULT = 0 →
    Completes (.weirOvBus vhb) s (fun t => (t.get .WEIR_STATUS_CHOP_ON = (if s.get .WEIR_STATUS_CHOP_ON = 0 then 1 else s.get .WEIR_STATUS_CHOP_ON) ∧
    t.latched 0x0D04 0 = true) ∧ Frame alarmParts (alarmRegs ++ haltRegs ++ ([.fld .WEIR_STATUS_CHOP_ON,
    .fld .WEIR_MEAS_VHB_MV, .fld .WEIR_CHOP_ON_CNT, .fld .WEIR_FAULT_SRC] : List Regs)) s t)) ∧
  (∀ (s : State) (mv : Nat), Completes (.weirV5Low mv) s (fun t => (t.get .WEIR_MEAS_V5_MV = mv % 2 ^ 16 ∧
    t.latched 0x0D09 0 = true) ∧ Frame alarmParts (alarmRegs ++ haltRegs ++ ([.fld .WEIR_MEAS_V5_MV,
    .fld .WEIR_FAULT_SRC] : List Regs)) s t)) ∧
  (∀ (s : State) (who : Who), Completes (.weirMinV12Read who) s (fun t => (t.bus = .value (s.get .WEIR_MIN_V12_MV) ∧
    t.get .WEIR_MIN_V12_MV = 0xFFFF) ∧ Frame [.bus] [.fld .WEIR_MIN_V12_MV] s t))

/-- Completion and effects of the commands named, on the states named (after R22, R417, R423, R424, each in part). -/
def Obligations.ResetsTakeHold : Prop :=
  (∀ (s : State), s.weir.powered = true → s.lev.resetReq.isSome = true →
    Completes (.warmReset) s (fun t => (t.mireRuns = false ∧ t.warmBusy = true ∧ t.seqs = [] ∧ t.chans = [] ∧ t.stg = [] ∧
    t.sram = [] ∧ t.dma = [] ∧ t.carr = {} ∧ t.mireIrq = [] ∧ t.fenIrq = [] ∧ t.weir.fenForced = false ∧
    t.get .TUS_CTRL_TABLES_VALID = 0 ∧ t.lev.resetReq = none ∧ t.sth.ctxs = [] ∧ t.slu.regions = [] ∧
    t.get .MBX_EPOCH_WARM = (s.get .MBX_EPOCH_WARM + 1) % 2 ^ Fld.MBX_EPOCH_WARM.width ∧
    t.get .WEIR_STATUS_PF = s.get .WEIR_STATUS_PF ∧
    t.get .LEV_RESET_CAUSE_CAUSE = (s.lev.resetReq.map (·.1)).getD 0 % 2 ^ Fld.LEV_RESET_CAUSE_CAUSE.width) ∧
    Frame (alarmParts ++ ([.dram, .sram, .bus, .drawn, .shockQuiet, .tide, .weir, .mireRuns, .warmBusy, .withy, .tus, .links,
    .slu, .sth, .dma, .carr, .mq, .aq, .dyke] : List Part)) [.all] s t)) ∧
  (∀ (s : State), s.lev.resetReq = none → Completes (.levResetWarm .mire) s (fun t => (t.lev.resetReq = some (2, 0, 0) ∧
    t.bus = .done) ∧ Frame [.bus, .lev] [.fld .LEV_STATUS_WR_DENY] s t)) ∧
  (∀ (s : State), s.lev.resetReq.isSome = true → Completes (.levResetWarm .mire) s (fun t => (t.lev = s.lev ∧ t.bus = .done) ∧
    Frame [.bus, .lev] [.fld .LEV_STATUS_WR_DENY] s t)) ∧
  (∀ (s : State) (core : Nat), Completes (.levResetWarm (.fen core)) s (fun t => (t.lev = s.lev ∧
    t.get .LEV_STATUS_WR_DENY = 1) ∧ Frame [.bus, .lev] [.fld .LEV_STATUS_WR_DENY] s t)) ∧
  (∀ (s : State) (sub : Nat), sub ∈ s.lev.blockReq → Completes (.blockReset sub) s (fun t => (sub ∈ t.lev.blockRun ∧
    sub ∉ t.lev.blockReq ∧ (sub = 6 → t.seqs = []) ∧ (sub = 7 → t.chans = []) ∧ (sub = 11 → t.carr = {}) ∧ (sub = 12 →
    t.dma = [])) ∧ Frame (alarmParts ++ ([.dram, .sram, .bus, .drawn, .shockQuiet, .tide, .weir, .withy, .tus, .slu, .sth,
    .dma, .carr, .mq, .dyke] : List Part)) [.all] s t)) ∧
  (∀ (s : State) (sub : Nat), sub ∈ s.lev.blockRun → Completes (.blockResetEnd sub) s (fun t => (¬ sub ∈ t.lev.blockRun ∧
    MireIrq.blockReset sub ∈ t.mireIrq) ∧ Frame alarmParts (alarmRegs ++ haltRegs ++ ([.arr (.TIDE_ST_PHASE_PHASE 0) 0x4 8,
    .fld .REED_UCODE_VER_BASE, .fld .REED_UCODE_VER_PATCH, .fld .REED_CS_CTRL_SEQ_MASK, .fld .REED_CS_CTRL_ADDR,
    .arr (.SDG_WR_CFG_ADV 0) 0x400 8, .arr (.SDG_VFY_CFG_DLY 0) 0x400 8, .arr (.SDG_VFY_CFG_VAMP_CAL 0) 0x400 8,
    .grid (.SDG_WPC_SHIFT 0 0) 0x400 8 0x4 8, .grid (.SDG_WPC_ANG_SCALE 0 0) 0x400 8 0x4 16] : List Regs)) s t))

/-- Completion and effects of the commands named, on the states named (after R413, R414, R417, R418, R425, R419, R420, each in
part). -/
def Obligations.FaultsAreCollected : Prop :=
  (∀ (s : State) (source inst detail : Nat) (x : SourceRow), sourceRow source = some x → inst < x.instances →
    Completes (.faultRecord source inst detail) s (fun t => (t.latched source inst = true) ∧ Frame alarmParts (alarmRegs ++
    haltRegs) s t)) ∧
  (∀ (s : State) (source inst : Nat) (x : SourceRow) (l : Latch), sourceRow source = some x → inst < x.instances →
    inst ≠ 0xFF → s.lev.latches.at (x.firstLine + inst) = some l → l.cls ≠ 2 →
    Completes (.levClr .mire false source inst) s (fun t => (t.latched source inst = false ∧ t.bus = .done) ∧ Frame [.bus,
    .lev] [.fld .LEV_STATUS_F_LATCHED, .fld .LEV_STATUS_ERROR, .fld .LEV_STATUS_ALIVE_RUN, .arr (.LEV_LATCH_LINE 0) 0x4 7,
    .fld .LEV_STATUS_WR_DENY] s t)) ∧
  (∀ (s : State) (source inst : Nat) (x : SourceRow) (l : Latch), sourceRow source = some x → inst < x.instances →
    inst ≠ 0xFF → s.lev.latches.at (x.firstLine + inst) = some l → l.cls = 2 →
    Completes (.levClr .mire false source inst) s (fun t => (t.latched source inst = true ∧ t.lev.latches = s.lev.latches) ∧
    Frame [.bus, .lev] [.fld .LEV_STATUS_F_LATCHED, .fld .LEV_STATUS_ERROR, .fld .LEV_STATUS_ALIVE_RUN,
    .arr (.LEV_LATCH_LINE 0) 0x4 7, .fld .LEV_STATUS_WR_DENY] s t)) ∧
  (∀ (s : State) (source inst : Nat), Completes (.levClr .mire true source inst) s (fun t => ((∀ line < 197,
    t.lev.latches.at line = (s.lev.latches.at line).filter (fun l => l.cls == 2)) ∧ t.bus = .done) ∧ Frame [.bus,
    .lev] [.fld .LEV_STATUS_F_LATCHED, .fld .LEV_STATUS_ERROR, .fld .LEV_STATUS_ALIVE_RUN, .arr (.LEV_LATCH_LINE 0) 0x4 7,
    .fld .LEV_STATUS_WR_DENY] s t)) ∧
  (∀ (s : State) (source : Nat) (x : SourceRow), sourceRow source = some x →
    Completes (.levClr .mire false source 0xFF) s (fun t => ((∀ i < x.instances,
    t.lev.latches.at (x.firstLine + i) = (s.lev.latches.at (x.firstLine + i)).filter (fun l => l.cls == 2)) ∧ t.bus = .done) ∧
    Frame [.bus, .lev] [.fld .LEV_STATUS_F_LATCHED, .fld .LEV_STATUS_ERROR, .fld .LEV_STATUS_ALIVE_RUN,
    .arr (.LEV_LATCH_LINE 0) 0x4 7, .fld .LEV_STATUS_WR_DENY] s t)) ∧
  (∀ (s : State) (core : Nat) (all : Bool) (source inst : Nat),
    Completes (.levClr (.fen core) all source inst) s (fun t => (t.lev = s.lev ∧ t.get .LEV_STATUS_WR_DENY = 1) ∧ Frame [.bus,
    .lev] [.fld .LEV_STATUS_F_LATCHED, .fld .LEV_STATUS_ERROR, .fld .LEV_STATUS_ALIVE_RUN, .arr (.LEV_LATCH_LINE 0) 0x4 7,
    .fld .LEV_STATUS_WR_DENY] s t)) ∧
  (∀ (s : State) (source inst count : Nat) (x : SourceRow), s.get .LEV_STATUS_FACTORY = 1 → sourceRow source = some x →
    inst < x.instances → 2 ≤ count → Completes (.levInj .mire source inst count) s (fun t => (t.latched source inst = true ∧
    t.lev.injecting = some (source, inst, count - 1)) ∧ Frame (alarmParts ++ ([.bus] : List Part)) (alarmRegs ++ haltRegs ++
    ([.fld .LEV_STATUS_WR_DENY] : List Regs)) s t)) ∧
  (∀ (s : State) (source inst : Nat) (x : SourceRow), s.get .LEV_STATUS_FACTORY = 1 → sourceRow source = some x →
    inst < x.instances → Completes (.levInj .mire source inst 1) s (fun t => (t.latched source inst = true ∧
    t.lev.injecting = none) ∧ Frame (alarmParts ++ ([.bus] : List Part)) (alarmRegs ++ haltRegs ++
    ([.fld .LEV_STATUS_WR_DENY] : List Regs)) s t)) ∧
  (∀ (s : State) (source inst : Nat) (x : SourceRow), s.get .LEV_STATUS_FACTORY = 1 → sourceRow source = some x →
    inst < x.instances → Completes (.levInj .mire source inst 0) s (fun t => (t.lev = { s.lev with injecting := none }) ∧
    Frame (alarmParts ++ ([.bus] : List Part)) (alarmRegs ++ haltRegs ++ ([.fld .LEV_STATUS_WR_DENY] : List Regs)) s t)) ∧
  (∀ (s : State) (source inst count : Nat), s.get .LEV_STATUS_FACTORY = 0 →
    Completes (.levInj .mire source inst count) s (fun t => (t.lev = s.lev ∧ t.get .LEV_STATUS_WR_DENY = 1 ∧ t.bus = .done) ∧
    Frame (alarmParts ++ ([.bus] : List Part)) (alarmRegs ++ haltRegs ++ ([.fld .LEV_STATUS_WR_DENY] : List Regs)) s t)) ∧
  (∀ (s : State) (core source inst count : Nat),
    Completes (.levInj (.fen core) source inst count) s (fun t => (t.lev = s.lev ∧ t.get .LEV_STATUS_WR_DENY = 1) ∧
    Frame (alarmParts ++ ([.bus] : List Part)) (alarmRegs ++ haltRegs ++ ([.fld .LEV_STATUS_WR_DENY] : List Regs)) s t)) ∧
  (∀ (s : State) (source inst : Nat) (x : SourceRow), s.lev.injecting = some (source, inst, 1) → sourceRow source = some x →
    Completes (.injectAssert) s (fun t => (t.latched source inst = true ∧ t.lev.injecting = none) ∧
    Frame alarmParts (alarmRegs ++ haltRegs) s t)) ∧
  (∀ (s : State) (source inst count : Nat) (x : SourceRow), s.lev.injecting = some (source, inst, count) →
    sourceRow source = some x → 2 ≤ count → Completes (.injectAssert) s (fun t => (t.latched source inst = true ∧
    t.lev.injecting = some (source, inst, count - 1)) ∧ Frame alarmParts (alarmRegs ++ haltRegs) s t)) ∧
  (∀ (s : State), Completes (.levHeartbeat .mire) s (fun t => (t.get .LEV_STATUS_WDOG_ARMED = 1 ∧ t.lev.beatSeen = true ∧
    t.lev.wdogFired = false ∧ t.lev.errorHeld = false ∧ t.lev.latches = s.lev.latches ∧ t.bus = .done) ∧ Frame [.bus,
    .lev] [.fld .LEV_STATUS_F_LATCHED, .fld .LEV_STATUS_ERROR, .fld .LEV_STATUS_ALIVE_RUN, .fld .LEV_STATUS_WR_DENY,
    .fld .LEV_STATUS_WDOG_ARMED] s t)) ∧
  (∀ (s : State) (core : Nat), Completes (.levHeartbeat (.fen core)) s (fun t => (t.lev = s.lev ∧
    t.get .LEV_STATUS_WR_DENY = 1) ∧ Frame [.bus, .lev] [.fld .LEV_STATUS_F_LATCHED, .fld .LEV_STATUS_ERROR,
    .fld .LEV_STATUS_ALIVE_RUN, .fld .LEV_STATUS_WR_DENY, .fld .LEV_STATUS_WDOG_ARMED] s t)) ∧
  (∀ (s : State), s.get .LEV_STATUS_WDOG_ARMED = 1 → s.lev.resetReq = none →
    Completes (.levMireWdog) s (fun t => (t.latched 0x0E01 0 = true ∧ t.lev.wdogFired = true ∧
    t.get .LEV_STATUS_ALIVE_RUN = 0) ∧ Frame alarmParts (alarmRegs ++ haltRegs) s t)) ∧
  (∀ (s : State), s.get .LEV_STATUS_ALIVE_RUN = 1 → Completes (.aliveToggle) s (fun t => (t.lev.alive = !s.lev.alive ∧
    t.lev.latches = s.lev.latches) ∧ Frame [.lev] [] s t))

/-- Completion and effects of the commands named, on the states named (after R31, R33, R37, R40, R41, R45, R55, each in part).
-/
def Obligations.TideAcquiresTheDisk : Prop :=
  (∀ (s : State), Completes (.rootLock) s (fun t => (t.get .TIDE_STATUS_ROOT_LOCK = 1) ∧
    Frame [] [.fld .TIDE_STATUS_ROOT_LOCK] s t)) ∧
  (∀ (s : State), s.get .TIDE_STATUS_ROOT_LOCK = 1 →
    Completes (.tideRootUnlock) s (fun t => (t.get .TIDE_STATUS_ROOT_LOCK = 0 ∧ t.get .TIDE_STATUS_STATE = 1 ∧
    t.latched 0x0301 0 = true ∧ t.tide.frontEnds = true ∧ (∀ n < 8, (t.seq n).wg = false)) ∧ Frame (alarmParts ++
    ([.tide] : List Part)) (alarmRegs ++ haltRegs ++ ([.fld .TIDE_STATUS_ROOT_LOCK, .fld .TIDE_STATUS_STATE,
    .fld .WTH_SPN_MEAS_TRACK, .fld .MBX_START_STEP] : List Regs)) s t)) ∧
  (∀ (s : State) (i : Nat) (value : Word), i < 3 →
    Completes (.tideCgEn i value) s (fun t => (t.get (.TIDE_CG_EN_EN i) = (value ||| ungated i).toNat ∧ t.bus = .done) ∧
    Frame [.bus] [.arr (.TIDE_CG_EN_EN 0) 0x4 4] s t)) ∧
  (∀ (s : State) (value : Word),
    Completes (.tideCgEn 3 value) s (fun t => (t.get (.TIDE_CG_EN_EN 3) = ((value ||| ungated 3) &&& 0x0FFF_FFFF).toNat ∧
    t.bus = .done) ∧ Frame [.bus] [.arr (.TIDE_CG_EN_EN 0) 0x4 4] s t)) ∧
  (∀ (s : State), s.get .TIDE_STATUS_STATE = 0 → Completes (.acqStart) s (fun t => (t.get .TIDE_STATUS_STATE = 1 ∧
    t.tide.acqFails = 0 ∧ t.tide.frontEnds = true ∧ t.bus = .done) ∧ Frame [.bus, .mireIrq, .seqs, .chans, .stg,
    .tide] (haltRegs ++ ([.fld .TIDE_STATUS_STATE, .fld .WTH_SPN_MEAS_TRACK, .fld .MBX_START_STEP] : List Regs)) s t)) ∧
  (∀ (s : State), s.get .TIDE_STATUS_STATE ≠ 0 → Completes (.acqStart) s (fun t => (t.regs = s.regs ∧ t.tide = s.tide ∧
    t.bus = .done) ∧ Frame [.bus, .mireIrq, .seqs, .chans, .stg, .tide] (haltRegs ++ ([.fld .TIDE_STATUS_STATE,
    .fld .WTH_SPN_MEAS_TRACK, .fld .MBX_START_STEP] : List Regs)) s t)) ∧
  (∀ (s : State) (mang : Word) (t0 t1 : Head) (period : Nat), s.get .TIDE_STATUS_ROOT_LOCK = 1 →
    s.get .TIDE_STATUS_STATE = 1 → s.tide.acqFails < 3 → (s.headGood 0 t0 || s.headGood 1 t1) = true →
    Completes (.indexMark mang t0 t1 period) s (fun t => (t.get .TIDE_STATUS_STATE = 2 ∧
    t.get .TIDE_STATUS_T0_OK = (s.headGood 0 t0).toNat ∧ t.get .TIDE_STATUS_T1_OK = (s.headGood 1 t1).toNat ∧
    t.mang = s.indexAngle (s.headGood 0 t0) ∧ t.get .TIDE_STATUS_EPOCH = (s.get .TIDE_STATUS_EPOCH + 1) % 256 ∧
    t.get .TIDE_CELL_PERIOD_PERIOD = period % 2 ^ 32) ∧ Frame (alarmParts ++ ([.tide, .withy] : List Part)) (alarmRegs ++
    haltRegs ++ ([.fld ⟨0x4E000000, 0, 32⟩, .fld .TIDE_STATUS_EPOCH, .fld .TIDE_STATUS_T1_OK, .fld .TIDE_STATUS_T0_OK,
    .fld .TIDE_STATUS_STATE, .fld .TIDE_CELL_PERIOD_PERIOD, .fld .WTH_SPN_STATUS_AT_SPEED,
    .fld .WTH_SPN_MEAS_TRACK] : List Regs)) s t)) ∧
  (∀ (s : State) (mang : Word) (t0 t1 : Head) (period : Nat), s.get .TIDE_STATUS_ROOT_LOCK = 1 →
    s.get .TIDE_STATUS_STATE = 2 → (s.headCounted 0 t0 || s.headCounted 1 t1) = true →
    Completes (.indexMark mang t0 t1 period) s (fun t => (t.get .TIDE_STATUS_STATE = (if (s.headCounted 0 t0 && s.headCounted 1 t1) = true then 3 else 4) ∧
    t.get .TIDE_STATUS_T0_OK = (s.headCounted 0 t0).toNat ∧ t.get .TIDE_STATUS_T1_OK = (s.headCounted 1 t1).toNat ∧
    t.get .TIDE_CELL_PERIOD_PERIOD = period % 2 ^ 32 ∧ t.tide.holdRevs = 0) ∧ Frame (alarmParts ++ ([.tide,
    .withy] : List Part)) (alarmRegs ++ haltRegs ++ ([.fld ⟨0x4E000000, 0, 32⟩, .fld .TIDE_STATUS_EPOCH,
    .fld .TIDE_STATUS_T1_OK, .fld .TIDE_STATUS_T0_OK, .fld .TIDE_STATUS_STATE, .fld .TIDE_CELL_PERIOD_PERIOD,
    .fld .WTH_SPN_STATUS_AT_SPEED, .fld .WTH_SPN_MEAS_TRACK] : List Regs)) s t)) ∧
  (∀ (s : State) (mang : Word) (t0 t1 : Head) (period : Nat), s.get .TIDE_STATUS_ROOT_LOCK = 1 →
    s.get .TIDE_STATUS_STATE = 2 → (s.headCounted 0 t0 || s.headCounted 1 t1) = false →
    Completes (.indexMark mang t0 t1 period) s (fun t => (t.get .TIDE_STATUS_STATE = (if s.tide.reacquiring = true then 5 else 2) ∧
    t.get .TIDE_STATUS_T0_OK = 0 ∧ t.get .TIDE_STATUS_T1_OK = 0) ∧ Frame (alarmParts ++ ([.tide,
    .withy] : List Part)) (alarmRegs ++ haltRegs ++ ([.fld ⟨0x4E000000, 0, 32⟩, .fld .TIDE_STATUS_EPOCH,
    .fld .TIDE_STATUS_T1_OK, .fld .TIDE_STATUS_T0_OK, .fld .TIDE_STATUS_STATE, .fld .TIDE_CELL_PERIOD_PERIOD,
    .fld .WTH_SPN_STATUS_AT_SPEED, .fld .WTH_SPN_MEAS_TRACK] : List Regs)) s t)) ∧
  (∀ (s : State) (mang : Word) (t0 t1 : Head) (period : Nat), s.get .TIDE_STATUS_ROOT_LOCK = 1 →
    s.get .TIDE_STATUS_STATE = 5 → s.get .TIDE_CTRL_REACQ_EN = 1 → (s.headGood 0 t0 || s.headGood 1 t1) = true →
    Completes (.indexMark mang t0 t1 period) s (fun t => (t.get .TIDE_STATUS_STATE = 2 ∧ t.tide.reacquiring = true) ∧
    Frame (alarmParts ++ ([.tide, .withy] : List Part)) (alarmRegs ++ haltRegs ++ ([.fld ⟨0x4E000000, 0, 32⟩,
    .fld .TIDE_STATUS_EPOCH, .fld .TIDE_STATUS_T1_OK, .fld .TIDE_STATUS_T0_OK, .fld .TIDE_STATUS_STATE,
    .fld .TIDE_CELL_PERIOD_PERIOD, .fld .WTH_SPN_STATUS_AT_SPEED, .fld .WTH_SPN_MEAS_TRACK] : List Regs)) s t)) ∧
  (∀ (s : State) (mang : Word) (t0 t1 : Head) (period : Nat), s.get .TIDE_STATUS_ROOT_LOCK = 1 → s.tideLocked = true →
    (s.headCounted 0 t0 && s.headCounted 1 t1) = true →
    Completes (.indexMark mang t0 t1 period) s (fun t => (t.get .TIDE_STATUS_STATE = 3 ∧ t.get .TIDE_STATUS_T0_OK = 1 ∧
    t.get .TIDE_STATUS_T1_OK = 1 ∧ t.get .TIDE_CELL_PERIOD_PERIOD = period % 2 ^ 32) ∧ Frame (alarmParts ++ ([.tide,
    .withy] : List Part)) (alarmRegs ++ haltRegs ++ ([.fld ⟨0x4E000000, 0, 32⟩, .fld .TIDE_STATUS_EPOCH,
    .fld .TIDE_STATUS_T1_OK, .fld .TIDE_STATUS_T0_OK, .fld .TIDE_STATUS_STATE, .fld .TIDE_CELL_PERIOD_PERIOD,
    .fld .WTH_SPN_STATUS_AT_SPEED, .fld .WTH_SPN_MEAS_TRACK] : List Regs)) s t)) ∧
  (∀ (s : State) (mang : Word) (t0 t1 : Head) (period : Nat), s.get .TIDE_STATUS_ROOT_LOCK = 0 →
    Completes (.indexMark mang t0 t1 period) s (fun t => (t = s) ∧ Frame (alarmParts ++ ([.tide,
    .withy] : List Part)) (alarmRegs ++ haltRegs ++ ([.fld ⟨0x4E000000, 0, 32⟩, .fld .TIDE_STATUS_EPOCH,
    .fld .TIDE_STATUS_T1_OK, .fld .TIDE_STATUS_T0_OK, .fld .TIDE_STATUS_STATE, .fld .TIDE_CELL_PERIOD_PERIOD,
    .fld .WTH_SPN_STATUS_AT_SPEED, .fld .WTH_SPN_MEAS_TRACK] : List Regs)) s t)) ∧
  (∀ (s : State), (s.get .TIDE_STATUS_STATE = 1 ∨ (s.get .TIDE_STATUS_STATE = 2 ∧ s.tide.reacquiring = false)) →
    Completes (.tideAcqFail) s (fun t => (t.get .TIDE_STATUS_STATE = 1 ∧ t.tide.acqFails = min (s.tide.acqFails + 1) 3 ∧
    (s.tide.acqFails = 2 → t.latched 0x0302 0 = true) ∧ (s.tide.acqFails ≠ 2 → t.lev = s.lev)) ∧ Frame (alarmParts ++ ([.tide,
    .aq] : List Part)) (alarmRegs ++ haltRegs ++ ([.fld .TIDE_STATUS_STATE, .fld .WTH_SPN_MEAS_TRACK] : List Regs)) s t))

/-- Completion and effects of the commands named, on the states named (after R36, R45, R46, R51, R48, R49, R50, each in part).
-/
def Obligations.TideLosesAndFollows : Prop :=
  (∀ (s : State) (h low : Nat), h < 2 → 64 ≤ low → s.get (headOk h) = 1 → s.get (headOk (1 - h)) = 1 → s.tideLocked = true →
    Completes (.tideHeadLost (.amplitude h low)) s (fun t => (t.get .TIDE_STATUS_STATE = 4 ∧ t.get (headOk h) = 0 ∧
    t.get (headOk (1 - h)) = 1 ∧ (s.tide.qualified.at h = true → t.latched 0x0303 h = true)) ∧ Frame (alarmParts ++
    ([.tide] : List Part)) (alarmRegs ++ haltRegs ++ ([.fld .TIDE_STATUS_T1_OK, .fld .TIDE_STATUS_T0_OK,
    .fld .TIDE_STATUS_STATE, .fld .WTH_SPN_MEAS_TRACK] : List Regs)) s t)) ∧
  (∀ (s : State) (h low : Nat), h < 2 → 64 ≤ low → s.get (headOk h) = 1 → s.get (headOk (1 - h)) = 0 → s.tideLocked = true →
    Completes (.tideHeadLost (.amplitude h low)) s (fun t => (t.get .TIDE_STATUS_STATE = 5 ∧ t.get (headOk h) = 0 ∧
    t.latched 0x0304 0 = true ∧ (s.tide.qualified.at h = true → t.latched 0x0303 h = true)) ∧ Frame (alarmParts ++
    ([.tide] : List Part)) (alarmRegs ++ haltRegs ++ ([.fld .TIDE_STATUS_T1_OK, .fld .TIDE_STATUS_T0_OK,
    .fld .TIDE_STATUS_STATE, .fld .WTH_SPN_MEAS_TRACK] : List Regs)) s t)) ∧
  (∀ (s : State) (h low : Nat), low < 64 → Completes (.tideHeadLost (.amplitude h low)) s (fun t => (t = s) ∧
    Frame (alarmParts ++ ([.tide] : List Part)) (alarmRegs ++ haltRegs ++ ([.fld .TIDE_STATUS_T1_OK, .fld .TIDE_STATUS_T0_OK,
    .fld .TIDE_STATUS_STATE, .fld .WTH_SPN_MEAS_TRACK] : List Regs)) s t)) ∧
  (∀ (s : State) (h cells : Nat), h < 2 → cells ≠ 1048576 → s.get (headOk h) = 1 → s.get (headOk (1 - h)) = 1 →
    s.tideLocked = true → Completes (.tideHeadLost (.count h cells)) s (fun t => (t.get .TIDE_STATUS_STATE = 4 ∧
    t.get (headOk h) = 0 ∧ t.get (headOk (1 - h)) = 1 ∧ (s.tide.qualified.at h = true → t.latched 0x0303 h = true)) ∧
    Frame (alarmParts ++ ([.tide] : List Part)) (alarmRegs ++ haltRegs ++ ([.fld .TIDE_STATUS_T1_OK, .fld .TIDE_STATUS_T0_OK,
    .fld .TIDE_STATUS_STATE, .fld .WTH_SPN_MEAS_TRACK] : List Regs)) s t)) ∧
  (∀ (s : State) (h cells : Nat), h < 2 → cells ≠ 1048576 → s.get (headOk h) = 1 → s.get (headOk (1 - h)) = 0 →
    s.tideLocked = true → Completes (.tideHeadLost (.count h cells)) s (fun t => (t.get .TIDE_STATUS_STATE = 5 ∧
    t.get (headOk h) = 0 ∧ t.latched 0x0304 0 = true ∧ (s.tide.qualified.at h = true → t.latched 0x0303 h = true)) ∧
    Frame (alarmParts ++ ([.tide] : List Part)) (alarmRegs ++ haltRegs ++ ([.fld .TIDE_STATUS_T1_OK, .fld .TIDE_STATUS_T0_OK,
    .fld .TIDE_STATUS_STATE, .fld .WTH_SPN_MEAS_TRACK] : List Regs)) s t)) ∧
  (∀ (s : State) (h : Nat), Completes (.tideHeadLost (.count h 1048576)) s (fun t => (t = s) ∧ Frame (alarmParts ++
    ([.tide] : List Part)) (alarmRegs ++ haltRegs ++ ([.fld .TIDE_STATUS_T1_OK, .fld .TIDE_STATUS_T0_OK,
    .fld .TIDE_STATUS_STATE, .fld .WTH_SPN_MEAS_TRACK] : List Regs)) s t)) ∧
  (∀ (s : State) (k : Nat), 1024 ≤ k → s.get .TIDE_STATUS_T0_OK = 1 → s.get .TIDE_STATUS_T1_OK = 1 → s.tideLocked = true →
    Completes (.tideHeadLost (.agreement k 1048576 1048576)) s (fun t => (t.get .TIDE_STATUS_STATE = 4 ∧
    t.get .TIDE_STATUS_T1_OK = 0 ∧ t.get .TIDE_STATUS_T0_OK = 1 ∧ (s.tide.qualified.at 1 = true →
    t.latched 0x0303 1 = true)) ∧ Frame (alarmParts ++ ([.tide] : List Part)) (alarmRegs ++ haltRegs ++
    ([.fld .TIDE_STATUS_T1_OK, .fld .TIDE_STATUS_T0_OK, .fld .TIDE_STATUS_STATE, .fld .WTH_SPN_MEAS_TRACK] : List Regs)) s t)) ∧
  (∀ (s : State) (k cells0 : Nat), 1024 ≤ k → cells0 ≠ 1048576 → s.get .TIDE_STATUS_T0_OK = 1 → s.get .TIDE_STATUS_T1_OK = 1 →
    s.tideLocked = true → Completes (.tideHeadLost (.agreement k cells0 1048576)) s (fun t => (t.get .TIDE_STATUS_STATE = 4 ∧
    t.get .TIDE_STATUS_T0_OK = 0 ∧ t.get .TIDE_STATUS_T1_OK = 1 ∧ (s.tide.qualified.at 0 = true →
    t.latched 0x0303 0 = true)) ∧ Frame (alarmParts ++ ([.tide] : List Part)) (alarmRegs ++ haltRegs ++
    ([.fld .TIDE_STATUS_T1_OK, .fld .TIDE_STATUS_T0_OK, .fld .TIDE_STATUS_STATE, .fld .WTH_SPN_MEAS_TRACK] : List Regs)) s t)) ∧
  (∀ (s : State) (k cells0 cells1 : Nat), k < 1024 →
    Completes (.tideHeadLost (.agreement k cells0 cells1)) s (fun t => (t = s) ∧ Frame (alarmParts ++
    ([.tide] : List Part)) (alarmRegs ++ haltRegs ++ ([.fld .TIDE_STATUS_T1_OK, .fld .TIDE_STATUS_T0_OK,
    .fld .TIDE_STATUS_STATE, .fld .WTH_SPN_MEAS_TRACK] : List Regs)) s t)) ∧
  (∀ (s : State) (stalls : Nat), s.get .TIDE_STATUS_STATE = 5 → (64 ≤ s.tide.holdRevs ∨ ∀ k < 4, s.trackFollowing k = false) →
    Completes (.tideTimingLost stalls) s (fun t => (t.get .TIDE_STATUS_STATE = 0 ∧ t.get .TIDE_CELL_PERIOD_PERIOD = 0 ∧
    t.latched 0x0305 0 = true ∧ t.tide.qualified = [] ∧ (s.mireActs = true → ∀ k < 4, t.mq.noStart.at k = true ∧
    (t.parkedSec k = true ∨ t.get (.WTH_VCM_STATUS_RET_ACTIVE k) = 1))) ∧ Frame (alarmParts ++ ([.dram, .drawn, .tide, .withy,
    .slu, .mq] : List Part)) (alarmRegs ++ haltRegs ++ ([.fld .TIDE_STATUS_STATE, .fld .TIDE_CELL_PERIOD_PERIOD,
    .fld .WTH_SPN_MEAS_TRACK, .arr (.WTH_VCM_CTRL_EN 0) 0x4 4, .arr (.WTH_VCM_STATUS_RET_ACTIVE 0) 0x4 4,
    .arr (.WTH_VCM_STATUS_PARKED 0) 0x4 4, .arr (.WTH_VCM_STATUS_ENABLED 0) 0x4 4, .arr (.WTH_MA_CTRL_HOLD 0) 0x4 8,
    .arr (.WTH_MA_STATUS_VOUT 0) 0x4 8, .arr (.MWQ_STATUS_BLOCKED 0) 0x20 16, .arr (.MWQ_STATUS_OUTST 0) 0x20 16,
    .arr (.MWC_PI_PASS 0) 0x20 4] : List Regs) ++ ([.arr (.MWC_PI_PI 0) 0x20 4, .arr (.MWC_STATUS_SCAN_STOP 0) 0x20 4,
    .arr (.MWC_STATUS_SPILL_CNT 0) 0x20 4, .fld .MWQ_SYS_STATUS_FLUSH, .fld .MWQ_SYS_STATUS_CAL, .fld .SLU_STATUS_LED_FREE,
    .arr (.SLU_SEC_FREE_FREE 0) 0x4 4, .arr (.SLU_SEC_RUN_RUN 0) 0x4 4,
    .arr (.SLU_CRED_USED_USED 0) 0x4 32] : List Regs)) s t)) ∧
  (∀ (s : State) (stalls : Nat), s.get .TIDE_STATUS_STATE ≠ 5 → Completes (.tideTimingLost stalls) s (fun t => (t = s) ∧
    Frame (alarmParts ++ ([.dram, .drawn, .tide, .withy, .slu, .mq] : List Part)) (alarmRegs ++ haltRegs ++
    ([.fld .TIDE_STATUS_STATE, .fld .TIDE_CELL_PERIOD_PERIOD, .fld .WTH_SPN_MEAS_TRACK, .arr (.WTH_VCM_CTRL_EN 0) 0x4 4,
    .arr (.WTH_VCM_STATUS_RET_ACTIVE 0) 0x4 4, .arr (.WTH_VCM_STATUS_PARKED 0) 0x4 4, .arr (.WTH_VCM_STATUS_ENABLED 0) 0x4 4,
    .arr (.WTH_MA_CTRL_HOLD 0) 0x4 8, .arr (.WTH_MA_STATUS_VOUT 0) 0x4 8, .arr (.MWQ_STATUS_BLOCKED 0) 0x20 16,
    .arr (.MWQ_STATUS_OUTST 0) 0x20 16, .arr (.MWC_PI_PASS 0) 0x20 4] : List Regs) ++ ([.arr (.MWC_PI_PI 0) 0x20 4,
    .arr (.MWC_STATUS_SCAN_STOP 0) 0x20 4, .arr (.MWC_STATUS_SPILL_CNT 0) 0x20 4, .fld .MWQ_SYS_STATUS_FLUSH,
    .fld .MWQ_SYS_STATUS_CAL, .fld .SLU_STATUS_LED_FREE, .arr (.SLU_SEC_FREE_FREE 0) 0x4 4, .arr (.SLU_SEC_RUN_RUN 0) 0x4 4,
    .arr (.SLU_CRED_USED_USED 0) 0x4 32] : List Regs)) s t)) ∧
  (∀ (s : State) (value : Word), s.get .TIDE_STATUS_OPT_LOADED = 0 →
    Completes (.tideOptLo value) s (fun t => (t.get .TIDE_OPT_LO_MS_LO = value.toNat ∧ t.get .TIDE_STATUS_OPT_LOADED = 1 ∧
    t.bus = .done) ∧ Frame [.bus, .peat] [.fld .PEAT_STATUS_FLUSHING, .fld .PEAT_STATUS_STAMP_WAIT, .fld .PEAT_STATUS_HELD,
    .fld .PEAT_STATUS_USED, .fld .TIDE_STATUS_OPT_LOADED, .fld .TIDE_OPT_LO_MS_LO] s t)) ∧
  (∀ (s : State) (value : Word), s.get .TIDE_STATUS_OPT_LOADED = 1 →
    Completes (.tideOptLo value) s (fun t => (t.get .TIDE_OPT_LO_MS_LO = s.get .TIDE_OPT_LO_MS_LO ∧ t.bus = .done) ∧
    Frame [.bus, .peat] [.fld .PEAT_STATUS_FLUSHING, .fld .PEAT_STATUS_STAMP_WAIT, .fld .PEAT_STATUS_HELD,
    .fld .PEAT_STATUS_USED, .fld .TIDE_STATUS_OPT_LOADED, .fld .TIDE_OPT_LO_MS_LO] s t)) ∧
  (∀ (s : State) (who : Who), Completes (.tideOptLoRead who) s (fun t => (t.bus = .value (s.get .TIDE_OPT_LO_MS_LO) ∧
    t.tide.optLatch = s.tide.optLatch.filter (fun e => e.1 ≠ who) ++ [(who, s.get .TIDE_OPT_HI_MS_HI)]) ∧ Frame [.bus,
    .tide] [] s t)) ∧
  (∀ (s : State) (mang : Word), s.domainOn 101 = true → s.get .TIDE_CTRL_ESO_EN = 1 → s.tideLocked = true →
    mang.toNat % 0x4000000 = 0 → Completes (.encSyncOutRise mang) s (fun t => (t.tide.encOut = true ∧ t.mang = mang) ∧
    Frame [.tide] [.fld ⟨0x4E000000, 0, 32⟩] s t)) ∧
  (∀ (s : State) (mang : Word), s.domainOn 101 = true → 0x4000000 ≤ mang.toNat → mang.toNat % 0x4000000 = 0x1000000 →
    Completes (.encSyncOutFall mang) s (fun t => (t.tide.encOut = false ∧ t.mang = mang) ∧ Frame [.tide] [.fld ⟨0x4E000000, 0,
    32⟩] s t)) ∧
  (∀ (s : State), s.domainOn 101 = true → Completes (.encSyncOutFall 0x2000000) s (fun t => (t.tide.encOut = false ∧
    t.mang = 0x2000000) ∧ Frame [.tide] [.fld ⟨0x4E000000, 0, 32⟩] s t)) ∧
  (∀ (s : State) (mang : Word) (period high : Nat), s.domainOn 101 = true → s.get .TIDE_CTRL_ESI_EN = 1 →
    s.get .TIDE_STATUS_ESI_VALID = 1 → esiGood s.tide.esiPeriods period = true →
    Completes (.encSyncInEdge mang period high) s (fun t => (t.tide.esiPeriods = (period :: s.tide.esiPeriods).take 64 ∧
    t.tide.esiBad = 0 ∧ t.get .TIDE_STATUS_ESI_VALID = 1 ∧
    t.get .TIDE_ESI_PERIOD_PERIOD = ((period :: s.tide.esiPeriods).take 64).sum / ((period :: s.tide.esiPeriods).take 64).length % 2 ^ 28) ∧
    Frame (alarmParts ++ ([.drawn, .tide, .withy] : List Part)) (alarmRegs ++ haltRegs ++ ([.fld .TIDE_STATUS_ESI_VALID,
    .fld .TIDE_STATUS_PHASE_LOCKED, .fld .TIDE_ESI_PERIOD_PERIOD, .fld .WTH_SPN_STATUS_AT_SPEED, .fld .WTH_SPN_STATUS_SPD95,
    .fld .WTH_SPN_STATUS_SPD90] : List Regs)) s t)) ∧
  (∀ (s : State) (mang : Word) (period high : Nat), s.domainOn 101 = true → s.get .TIDE_CTRL_ESI_EN = 1 →
    s.get .TIDE_STATUS_ESI_VALID = 1 → s.tide.esiBad = 2 → esiGood s.tide.esiPeriods period = false →
    Completes (.encSyncInEdge mang period high) s (fun t => (t.get .TIDE_STATUS_ESI_VALID = 0 ∧ t.tide.esiPeriods = [] ∧
    t.latched 0x0308 0 = true) ∧ Frame (alarmParts ++ ([.drawn, .tide, .withy] : List Part)) (alarmRegs ++ haltRegs ++
    ([.fld .TIDE_STATUS_ESI_VALID, .fld .TIDE_STATUS_PHASE_LOCKED, .fld .TIDE_ESI_PERIOD_PERIOD,
    .fld .WTH_SPN_STATUS_AT_SPEED, .fld .WTH_SPN_STATUS_SPD95, .fld .WTH_SPN_STATUS_SPD90] : List Regs)) s t)) ∧
  (∀ (s : State) (mang : Word) (period high : Nat), s.domainOn 101 = true → s.get .TIDE_CTRL_ESI_EN = 1 →
    s.get .TIDE_STATUS_ESI_VALID = 0 → 7 ≤ s.tide.esiPeriods.length →
    ((period :: s.tide.esiPeriods).take 8).all (esiGood ((period :: s.tide.esiPeriods).take 8)) = true →
    Completes (.encSyncInEdge mang period high) s (fun t => (t.get .TIDE_STATUS_ESI_VALID = 1 ∧
    t.get .TIDE_ESI_PERIOD_PERIOD = ((period :: s.tide.esiPeriods).take 8).sum / 8 % 2 ^ 28) ∧ Frame (alarmParts ++ ([.drawn,
    .tide, .withy] : List Part)) (alarmRegs ++ haltRegs ++ ([.fld .TIDE_STATUS_ESI_VALID, .fld .TIDE_STATUS_PHASE_LOCKED,
    .fld .TIDE_ESI_PERIOD_PERIOD, .fld .WTH_SPN_STATUS_AT_SPEED, .fld .WTH_SPN_STATUS_SPD95,
    .fld .WTH_SPN_STATUS_SPD90] : List Regs)) s t)) ∧
  (∀ (s : State) (mang : Word) (period high : Nat), s.get .TIDE_CTRL_ESI_EN = 0 →
    Completes (.encSyncInEdge mang period high) s (fun t => (t = s) ∧ Frame (alarmParts ++ ([.drawn, .tide,
    .withy] : List Part)) (alarmRegs ++ haltRegs ++ ([.fld .TIDE_STATUS_ESI_VALID, .fld .TIDE_STATUS_PHASE_LOCKED,
    .fld .TIDE_ESI_PERIOD_PERIOD, .fld .WTH_SPN_STATUS_AT_SPEED, .fld .WTH_SPN_STATUS_SPD95,
    .fld .WTH_SPN_STATUS_SPD90] : List Regs)) s t)) ∧
  (∀ (s : State), s.get .TIDE_CTRL_ESI_EN = 1 → s.get .TIDE_STATUS_ESI_VALID = 1 →
    Completes (.esiEdgeTimeout) s (fun t => (t.get .TIDE_STATUS_ESI_VALID = 0 ∧ t.tide.esiPeriods = [] ∧ t.tide.phaseOff = 0 ∧
    t.latched 0x0308 0 = true) ∧ Frame (alarmParts ++ ([.tide] : List Part)) (alarmRegs ++ haltRegs ++
    ([.fld .TIDE_STATUS_ESI_VALID] : List Regs)) s t)) ∧
  (∀ (s : State), s.get .TIDE_CTRL_ESI_EN = 1 → s.get .TIDE_CTRL_ESI_PHASE_EN = 1 →
    Completes (.esiPhaseSuspend) s (fun t => (t.tide.phaseSuspended = true ∧ t.tide.phaseGood = 0 ∧ t.tide.phaseOff = 0 ∧
    t.regs = s.regs) ∧ Frame [.tide] [] s t))

/-- Completion and effects of the commands named, on the states named (after R60, R62, R63, R66, R67, each in part). -/
def Obligations.SpindleStarts : Prop :=
  (∀ (s : State), s.get .WTH_SPN_STATUS_STATE = 0 → Completes (.runStart) s (fun t => (t.get .WTH_SPN_STATUS_STATE = 1 ∧
    t.get .WTH_SPN_CTRL_RUN = 1 ∧ t.withy.bridge = .off ∧ t.get .WTH_SPN_STATUS_ATTEMPT = 0 ∧ t.bus = .done) ∧ Frame [.bus,
    .mireIrq, .seqs, .chans, .stg, .tide, .withy] (haltRegs ++ ([.fld .TIDE_STATUS_STATE, .fld .TIDE_CELL_PERIOD_PERIOD,
    .fld .WTH_SPN_CTRL_RUN, .fld .WTH_SPN_STATUS_STATE, .fld .WTH_SPN_STATUS_ATTEMPT, .fld .WTH_SPN_STATUS_AT_SPEED,
    .fld .WTH_SPN_STATUS_SPD95, .fld .WTH_SPN_STATUS_SPD90, .fld .WTH_SPN_STATUS_DIR_REV, .fld .WTH_SPN_STATUS_FW_ACTIVE,
    .fld .WTH_SPN_STATUS_FW_SAT, .fld .WTH_SPN_STATUS_STOP_BLOCKED] : List Regs) ++ ([.fld .WTH_SPN_MEAS_TRACK,
    .fld .WTH_SPN_FOC_ID, .fld .WTH_SPN_FOC_MI] : List Regs)) s t)) ∧
  (∀ (s : State), s.get .WTH_SPN_STATUS_STATE ≠ 0 →
    Completes (.runStart) s (fun t => (t.get .WTH_SPN_STATUS_STATE = s.get .WTH_SPN_STATUS_STATE ∧
    t.get .WTH_SPN_CTRL_RUN = 1 ∧ t.get .WTH_SPN_STATUS_STOP_BLOCKED = 0 ∧ t.withy = s.withy ∧ t.bus = .done) ∧ Frame [.bus,
    .mireIrq, .seqs, .chans, .stg, .tide, .withy] (haltRegs ++ ([.fld .TIDE_STATUS_STATE, .fld .TIDE_CELL_PERIOD_PERIOD,
    .fld .WTH_SPN_CTRL_RUN, .fld .WTH_SPN_STATUS_STATE, .fld .WTH_SPN_STATUS_ATTEMPT, .fld .WTH_SPN_STATUS_AT_SPEED,
    .fld .WTH_SPN_STATUS_SPD95, .fld .WTH_SPN_STATUS_SPD90, .fld .WTH_SPN_STATUS_DIR_REV, .fld .WTH_SPN_STATUS_FW_ACTIVE,
    .fld .WTH_SPN_STATUS_FW_SAT, .fld .WTH_SPN_STATUS_STOP_BLOCKED] : List Regs) ++ ([.fld .WTH_SPN_MEAS_TRACK,
    .fld .WTH_SPN_FOC_ID, .fld .WTH_SPN_FOC_MI] : List Regs)) s t)) ∧
  (∀ (s : State) (emf speed : Nat) (reverse : Bool), s.get .WTH_SPN_STATUS_STATE = 1 → s.get .WTH_SPN_CTRL_RUN = 1 →
    s.atRest emf = true → Completes (.observeEnd emf speed reverse) s (fun t => (t.get .WTH_SPN_STATUS_STATE = 3 ∧
    t.withy.bridge = .align 60) ∧ Frame (alarmParts ++ ([.tide, .withy, .tus] : List Part)) (alarmRegs ++ haltRegs ++
    ([.fld .TIDE_STATUS_STATE, .fld .TIDE_CELL_PERIOD_PERIOD, .fld .WTH_SPN_STATUS_STATE, .fld .WTH_SPN_STATUS_AT_SPEED,
    .fld .WTH_SPN_STATUS_SPD95, .fld .WTH_SPN_STATUS_SPD90, .fld .WTH_SPN_STATUS_DIR_REV, .fld .WTH_SPN_STATUS_FW_ACTIVE,
    .fld .WTH_SPN_STATUS_FW_SAT, .fld .WTH_SPN_STATUS_STOP_BLOCKED, .fld .WTH_SPN_MEAS_TRACK,
    .fld .WTH_SPN_MEAS_SPEED] : List Regs) ++ ([.fld .WTH_SPN_KE_KE_MEAS, .fld .WTH_SPN_FOC_ID, .fld .WTH_SPN_FOC_MI,
    .fld .WTH_FAULT_SPN, .fld .TUS_SPN_REF_REF, .fld .MBX_START_STEP] : List Regs)) s t)) ∧
  (∀ (s : State) (emf speed : Nat) (reverse : Bool), s.get .WTH_SPN_STATUS_STATE = 1 → s.get .WTH_SPN_CTRL_RUN = 1 →
    s.atRest emf = false → reverse = true →
    Completes (.observeEnd emf speed reverse) s (fun t => (t.get .WTH_SPN_STATUS_STATE = 2 ∧ t.withy.bridge = .lowSide ∧
    t.get .WTH_SPN_STATUS_DIR_REV = 1) ∧ Frame (alarmParts ++ ([.tide, .withy, .tus] : List Part)) (alarmRegs ++ haltRegs ++
    ([.fld .TIDE_STATUS_STATE, .fld .TIDE_CELL_PERIOD_PERIOD, .fld .WTH_SPN_STATUS_STATE, .fld .WTH_SPN_STATUS_AT_SPEED,
    .fld .WTH_SPN_STATUS_SPD95, .fld .WTH_SPN_STATUS_SPD90, .fld .WTH_SPN_STATUS_DIR_REV, .fld .WTH_SPN_STATUS_FW_ACTIVE,
    .fld .WTH_SPN_STATUS_FW_SAT, .fld .WTH_SPN_STATUS_STOP_BLOCKED, .fld .WTH_SPN_MEAS_TRACK,
    .fld .WTH_SPN_MEAS_SPEED] : List Regs) ++ ([.fld .WTH_SPN_KE_KE_MEAS, .fld .WTH_SPN_FOC_ID, .fld .WTH_SPN_FOC_MI,
    .fld .WTH_FAULT_SPN, .fld .TUS_SPN_REF_REF, .fld .MBX_START_STEP] : List Regs)) s t)) ∧
  (∀ (s : State) (emf speed : Nat) (reverse : Bool), s.get .WTH_SPN_STATUS_STATE = 1 → s.get .WTH_SPN_CTRL_RUN = 1 →
    s.atRest emf = false → reverse = false → speed < 300 * 1024 →
    Completes (.observeEnd emf speed reverse) s (fun t => (t.get .WTH_SPN_STATUS_STATE = 2 ∧ t.withy.bridge = .lowSide) ∧
    Frame (alarmParts ++ ([.tide, .withy, .tus] : List Part)) (alarmRegs ++ haltRegs ++ ([.fld .TIDE_STATUS_STATE,
    .fld .TIDE_CELL_PERIOD_PERIOD, .fld .WTH_SPN_STATUS_STATE, .fld .WTH_SPN_STATUS_AT_SPEED, .fld .WTH_SPN_STATUS_SPD95,
    .fld .WTH_SPN_STATUS_SPD90, .fld .WTH_SPN_STATUS_DIR_REV, .fld .WTH_SPN_STATUS_FW_ACTIVE, .fld .WTH_SPN_STATUS_FW_SAT,
    .fld .WTH_SPN_STATUS_STOP_BLOCKED, .fld .WTH_SPN_MEAS_TRACK, .fld .WTH_SPN_MEAS_SPEED] : List Regs) ++
    ([.fld .WTH_SPN_KE_KE_MEAS, .fld .WTH_SPN_FOC_ID, .fld .WTH_SPN_FOC_MI, .fld .WTH_FAULT_SPN, .fld .TUS_SPN_REF_REF,
    .fld .MBX_START_STEP] : List Regs)) s t)) ∧
  (∀ (s : State) (emf speed : Nat) (reverse : Bool), s.get .WTH_SPN_STATUS_STATE = 1 → s.get .WTH_SPN_CTRL_RUN = 1 →
    s.atRest emf = false → reverse = false → 300 * 1024 ≤ speed → speed < 1000 * 1024 →
    Completes (.observeEnd emf speed reverse) s (fun t => (t.get .WTH_SPN_STATUS_STATE = 5 ∧ t.withy.bridge = .foc) ∧
    Frame (alarmParts ++ ([.tide, .withy, .tus] : List Part)) (alarmRegs ++ haltRegs ++ ([.fld .TIDE_STATUS_STATE,
    .fld .TIDE_CELL_PERIOD_PERIOD, .fld .WTH_SPN_STATUS_STATE, .fld .WTH_SPN_STATUS_AT_SPEED, .fld .WTH_SPN_STATUS_SPD95,
    .fld .WTH_SPN_STATUS_SPD90, .fld .WTH_SPN_STATUS_DIR_REV, .fld .WTH_SPN_STATUS_FW_ACTIVE, .fld .WTH_SPN_STATUS_FW_SAT,
    .fld .WTH_SPN_STATUS_STOP_BLOCKED, .fld .WTH_SPN_MEAS_TRACK, .fld .WTH_SPN_MEAS_SPEED] : List Regs) ++
    ([.fld .WTH_SPN_KE_KE_MEAS, .fld .WTH_SPN_FOC_ID, .fld .WTH_SPN_FOC_MI, .fld .WTH_FAULT_SPN, .fld .TUS_SPN_REF_REF,
    .fld .MBX_START_STEP] : List Regs)) s t)) ∧
  (∀ (s : State) (emf speed : Nat) (reverse : Bool), s.get .WTH_SPN_STATUS_STATE = 1 → s.get .WTH_SPN_CTRL_RUN = 0 →
    Completes (.observeEnd emf speed reverse) s (fun t => (t.get .WTH_SPN_STATUS_STATE = (if s.atRest emf = true then 0 else 6) ∧
    t.withy.bridge = (if s.atRest emf = true then .off else .regen)) ∧ Frame (alarmParts ++ ([.tide, .withy,
    .tus] : List Part)) (alarmRegs ++ haltRegs ++ ([.fld .TIDE_STATUS_STATE, .fld .TIDE_CELL_PERIOD_PERIOD,
    .fld .WTH_SPN_STATUS_STATE, .fld .WTH_SPN_STATUS_AT_SPEED, .fld .WTH_SPN_STATUS_SPD95, .fld .WTH_SPN_STATUS_SPD90,
    .fld .WTH_SPN_STATUS_DIR_REV, .fld .WTH_SPN_STATUS_FW_ACTIVE, .fld .WTH_SPN_STATUS_FW_SAT,
    .fld .WTH_SPN_STATUS_STOP_BLOCKED, .fld .WTH_SPN_MEAS_TRACK, .fld .WTH_SPN_MEAS_SPEED] : List Regs) ++
    ([.fld .WTH_SPN_KE_KE_MEAS, .fld .WTH_SPN_FOC_ID, .fld .WTH_SPN_FOC_MI, .fld .WTH_FAULT_SPN, .fld .TUS_SPN_REF_REF,
    .fld .MBX_START_STEP] : List Regs)) s t)) ∧
  (∀ (s : State), s.get .WTH_SPN_STATUS_STATE = 3 → Completes (.alignSecondAngle) s (fun t => (t.withy.bridge = .align 0 ∧
    t.get .WTH_SPN_STATUS_STATE = 3) ∧ Frame [.withy] [] s t)) ∧
  (∀ (s : State), s.get .WTH_SPN_STATUS_STATE = 3 → Completes (.alignEnd) s (fun t => (t.withy.bridge = .ramp ∧
    t.get .WTH_SPN_STATUS_STATE = 4) ∧ Frame [.mireIrq, .seqs, .chans, .stg, .tide, .withy] (haltRegs ++
    ([.fld .TIDE_STATUS_STATE, .fld .TIDE_CELL_PERIOD_PERIOD, .fld .WTH_SPN_STATUS_STATE, .fld .WTH_SPN_STATUS_AT_SPEED,
    .fld .WTH_SPN_STATUS_FW_ACTIVE, .fld .WTH_SPN_STATUS_FW_SAT, .fld .WTH_SPN_STATUS_STOP_BLOCKED, .fld .WTH_SPN_MEAS_TRACK,
    .fld .WTH_SPN_FOC_ID, .fld .WTH_SPN_FOC_MI] : List Regs)) s t)) ∧
  (∀ (s : State), s.get .WTH_SPN_STATUS_STATE = 4 → s.withy.watching = false →
    Completes (.rampReached) s (fun t => (t.withy.testing = true ∧ t.get .WTH_SPN_STATUS_STATE = 4 ∧
    t.get .WTH_SPN_MEAS_SPEED = 600 * 1024) ∧ Frame [.withy] [.fld .WTH_SPN_MEAS_TRACK, .fld .WTH_SPN_MEAS_SPEED] s t)) ∧
  (∀ (s : State) (speed : Nat), s.get .WTH_SPN_STATUS_STATE = 4 → s.withy.testing = true →
    Completes (.handover speed) s (fun t => (t.get .WTH_SPN_STATUS_STATE = 5 ∧ t.withy.bridge = .foc ∧
    t.get .WTH_SPN_MEAS_SPEED = speed % 2 ^ Fld.WTH_SPN_MEAS_SPEED.width) ∧ Frame [.mireIrq, .seqs, .chans, .stg, .tide,
    .withy, .tus] (haltRegs ++ ([.fld .TIDE_STATUS_STATE, .fld .TIDE_CELL_PERIOD_PERIOD, .fld .WTH_SPN_STATUS_STATE,
    .fld .WTH_SPN_STATUS_AT_SPEED, .fld .WTH_SPN_STATUS_SPD95, .fld .WTH_SPN_STATUS_SPD90, .fld .WTH_SPN_STATUS_FW_ACTIVE,
    .fld .WTH_SPN_STATUS_FW_SAT, .fld .WTH_SPN_STATUS_STOP_BLOCKED, .fld .WTH_SPN_MEAS_TRACK, .fld .WTH_SPN_MEAS_SPEED,
    .fld .WTH_SPN_FOC_ID] : List Regs) ++ ([.fld .WTH_SPN_FOC_MI, .fld .TUS_SPN_REF_REF,
    .fld .MBX_START_STEP] : List Regs)) s t)) ∧
  (∀ (s : State), s.get .WTH_SPN_STATUS_STATE = 4 → s.withy.testing = true → s.get .WTH_SPN_STATUS_ATTEMPT < 2 →
    Completes (.handoverFail) s (fun t => (t.get .WTH_SPN_STATUS_STATE = 4 ∧
    t.get .WTH_SPN_STATUS_ATTEMPT = s.get .WTH_SPN_STATUS_ATTEMPT + 1 ∧ t.withy.bridge = .off ∧ t.withy.watching = true ∧
    t.lev = s.lev) ∧ Frame (alarmParts ++ ([.tide, .withy] : List Part)) (alarmRegs ++ haltRegs ++ ([.fld .TIDE_STATUS_STATE,
    .fld .TIDE_CELL_PERIOD_PERIOD, .fld .WTH_SPN_STATUS_STATE, .fld .WTH_SPN_STATUS_ATTEMPT, .fld .WTH_SPN_STATUS_AT_SPEED,
    .fld .WTH_SPN_STATUS_FW_ACTIVE, .fld .WTH_SPN_STATUS_FW_SAT, .fld .WTH_SPN_STATUS_STOP_BLOCKED, .fld .WTH_SPN_MEAS_TRACK,
    .fld .WTH_SPN_FOC_ID, .fld .WTH_SPN_FOC_MI, .fld .WTH_FAULT_SPN] : List Regs)) s t)) ∧
  (∀ (s : State), s.get .WTH_SPN_STATUS_STATE = 4 → s.withy.testing = true → s.get .WTH_SPN_STATUS_ATTEMPT = 2 →
    Completes (.handoverFail) s (fun t => (t.get .WTH_SPN_STATUS_STATE = 9 ∧ t.latched 0x0401 0 = true ∧
    t.withy.bridge = .regen) ∧ Frame (alarmParts ++ ([.tide, .withy] : List Part)) (alarmRegs ++ haltRegs ++
    ([.fld .TIDE_STATUS_STATE, .fld .TIDE_CELL_PERIOD_PERIOD, .fld .WTH_SPN_STATUS_STATE, .fld .WTH_SPN_STATUS_ATTEMPT,
    .fld .WTH_SPN_STATUS_AT_SPEED, .fld .WTH_SPN_STATUS_FW_ACTIVE, .fld .WTH_SPN_STATUS_FW_SAT,
    .fld .WTH_SPN_STATUS_STOP_BLOCKED, .fld .WTH_SPN_MEAS_TRACK, .fld .WTH_SPN_FOC_ID, .fld .WTH_SPN_FOC_MI,
    .fld .WTH_FAULT_SPN] : List Regs)) s t)) ∧
  (∀ (s : State) (emf speed : Nat) (reverse : Bool), s.get .WTH_SPN_STATUS_STATE = 4 → s.withy.watching = true →
    s.atRest emf = true → Completes (.handoverObserveEnd emf speed reverse) s (fun t => (t.get .WTH_SPN_STATUS_STATE = 3 ∧
    t.withy.bridge = .align 60) ∧ Frame (alarmParts ++ ([.tide, .withy, .tus] : List Part)) (alarmRegs ++ haltRegs ++
    ([.fld .TIDE_STATUS_STATE, .fld .TIDE_CELL_PERIOD_PERIOD, .fld .WTH_SPN_STATUS_STATE, .fld .WTH_SPN_STATUS_AT_SPEED,
    .fld .WTH_SPN_STATUS_SPD95, .fld .WTH_SPN_STATUS_SPD90, .fld .WTH_SPN_STATUS_DIR_REV, .fld .WTH_SPN_STATUS_FW_ACTIVE,
    .fld .WTH_SPN_STATUS_FW_SAT, .fld .WTH_SPN_STATUS_STOP_BLOCKED, .fld .WTH_SPN_MEAS_TRACK,
    .fld .WTH_SPN_MEAS_SPEED] : List Regs) ++ ([.fld .WTH_SPN_KE_KE_MEAS, .fld .WTH_SPN_FOC_ID, .fld .WTH_SPN_FOC_MI,
    .fld .WTH_FAULT_SPN, .fld .TUS_SPN_REF_REF, .fld .MBX_START_STEP] : List Regs)) s t)) ∧
  (∀ (s : State) (emf speed : Nat) (reverse : Bool), s.get .WTH_SPN_STATUS_STATE = 4 → s.withy.watching = true →
    s.atRest emf = false → reverse = true →
    Completes (.handoverObserveEnd emf speed reverse) s (fun t => (t.get .WTH_SPN_STATUS_STATE = 2 ∧
    t.withy.bridge = .lowSide ∧ t.get .WTH_SPN_STATUS_DIR_REV = 1) ∧ Frame (alarmParts ++ ([.tide, .withy,
    .tus] : List Part)) (alarmRegs ++ haltRegs ++ ([.fld .TIDE_STATUS_STATE, .fld .TIDE_CELL_PERIOD_PERIOD,
    .fld .WTH_SPN_STATUS_STATE, .fld .WTH_SPN_STATUS_AT_SPEED, .fld .WTH_SPN_STATUS_SPD95, .fld .WTH_SPN_STATUS_SPD90,
    .fld .WTH_SPN_STATUS_DIR_REV, .fld .WTH_SPN_STATUS_FW_ACTIVE, .fld .WTH_SPN_STATUS_FW_SAT,
    .fld .WTH_SPN_STATUS_STOP_BLOCKED, .fld .WTH_SPN_MEAS_TRACK, .fld .WTH_SPN_MEAS_SPEED] : List Regs) ++
    ([.fld .WTH_SPN_KE_KE_MEAS, .fld .WTH_SPN_FOC_ID, .fld .WTH_SPN_FOC_MI, .fld .WTH_FAULT_SPN, .fld .TUS_SPN_REF_REF,
    .fld .MBX_START_STEP] : List Regs)) s t)) ∧
  (∀ (s : State) (emf speed : Nat) (reverse : Bool), s.get .WTH_SPN_STATUS_STATE = 4 → s.withy.watching = true →
    s.atRest emf = false → reverse = false → speed < 300 * 1024 →
    Completes (.handoverObserveEnd emf speed reverse) s (fun t => (t.get .WTH_SPN_STATUS_STATE = 2 ∧
    t.withy.bridge = .lowSide) ∧ Frame (alarmParts ++ ([.tide, .withy, .tus] : List Part)) (alarmRegs ++ haltRegs ++
    ([.fld .TIDE_STATUS_STATE, .fld .TIDE_CELL_PERIOD_PERIOD, .fld .WTH_SPN_STATUS_STATE, .fld .WTH_SPN_STATUS_AT_SPEED,
    .fld .WTH_SPN_STATUS_SPD95, .fld .WTH_SPN_STATUS_SPD90, .fld .WTH_SPN_STATUS_DIR_REV, .fld .WTH_SPN_STATUS_FW_ACTIVE,
    .fld .WTH_SPN_STATUS_FW_SAT, .fld .WTH_SPN_STATUS_STOP_BLOCKED, .fld .WTH_SPN_MEAS_TRACK,
    .fld .WTH_SPN_MEAS_SPEED] : List Regs) ++ ([.fld .WTH_SPN_KE_KE_MEAS, .fld .WTH_SPN_FOC_ID, .fld .WTH_SPN_FOC_MI,
    .fld .WTH_FAULT_SPN, .fld .TUS_SPN_REF_REF, .fld .MBX_START_STEP] : List Regs)) s t)) ∧
  (∀ (s : State) (emf speed : Nat) (reverse : Bool), s.get .WTH_SPN_STATUS_STATE = 4 → s.withy.watching = true →
    s.atRest emf = false → reverse = false → 300 * 1024 ≤ speed → speed < 1000 * 1024 →
    Completes (.handoverObserveEnd emf speed reverse) s (fun t => (t.get .WTH_SPN_STATUS_STATE = 5 ∧ t.withy.bridge = .foc) ∧
    Frame (alarmParts ++ ([.tide, .withy, .tus] : List Part)) (alarmRegs ++ haltRegs ++ ([.fld .TIDE_STATUS_STATE,
    .fld .TIDE_CELL_PERIOD_PERIOD, .fld .WTH_SPN_STATUS_STATE, .fld .WTH_SPN_STATUS_AT_SPEED, .fld .WTH_SPN_STATUS_SPD95,
    .fld .WTH_SPN_STATUS_SPD90, .fld .WTH_SPN_STATUS_DIR_REV, .fld .WTH_SPN_STATUS_FW_ACTIVE, .fld .WTH_SPN_STATUS_FW_SAT,
    .fld .WTH_SPN_STATUS_STOP_BLOCKED, .fld .WTH_SPN_MEAS_TRACK, .fld .WTH_SPN_MEAS_SPEED] : List Regs) ++
    ([.fld .WTH_SPN_KE_KE_MEAS, .fld .WTH_SPN_FOC_ID, .fld .WTH_SPN_FOC_MI, .fld .WTH_FAULT_SPN, .fld .TUS_SPN_REF_REF,
    .fld .MBX_START_STEP] : List Regs)) s t)) ∧
  (∀ (s : State), s.get .WTH_SPN_STATUS_STATE = 5 → s.withy.keDone = false → s.withy.keOff = false →
    1000 * 1024 ≤ s.get .WTH_SPN_MEAS_SPEED → Completes (.keCheckStart) s (fun t => (t.withy.bridge = .off ∧
    t.withy.keOff = true ∧ t.get .WTH_SPN_STATUS_STATE = 5) ∧ Frame [.withy] [] s t)) ∧
  (∀ (s : State) (emf speed : Nat), s.get .WTH_SPN_STATUS_STATE = 5 → s.withy.keOff = true →
    s.keBad (keOf emf speed) = false → Completes (.keCheckEnd emf speed) s (fun t => (t.withy.bridge = .foc ∧
    t.withy.keDone = true ∧ t.get .WTH_SPN_KE_KE_MEAS = keOf emf speed ∧ t.get .WTH_SPN_STATUS_STATE = 5) ∧
    Frame (alarmParts ++ ([.tide, .withy, .tus] : List Part)) (alarmRegs ++ haltRegs ++ ([.fld .TIDE_STATUS_STATE,
    .fld .TIDE_CELL_PERIOD_PERIOD, .fld .WTH_SPN_STATUS_STATE, .fld .WTH_SPN_STATUS_AT_SPEED, .fld .WTH_SPN_STATUS_FW_ACTIVE,
    .fld .WTH_SPN_STATUS_FW_SAT, .fld .WTH_SPN_STATUS_STOP_BLOCKED, .fld .WTH_SPN_MEAS_TRACK, .fld .WTH_SPN_MEAS_SPEED,
    .fld .WTH_SPN_KE_KE_MEAS, .fld .WTH_SPN_FOC_ID, .fld .WTH_SPN_FOC_MI] : List Regs) ++ ([.fld .WTH_FAULT_SPN,
    .fld .TUS_SPN_REF_REF] : List Regs)) s t)) ∧
  (∀ (s : State) (emf speed : Nat), s.get .WTH_SPN_STATUS_STATE = 5 → s.withy.keOff = true → s.keBad (keOf emf speed) = true →
    Completes (.keCheckEnd emf speed) s (fun t => (t.withy.bridge = .regen ∧ t.latched 0x0402 0 = true ∧
    t.get .WTH_SPN_KE_KE_MEAS = keOf emf speed ∧ t.get .WTH_SPN_STATUS_STATE = 9) ∧ Frame (alarmParts ++ ([.tide, .withy,
    .tus] : List Part)) (alarmRegs ++ haltRegs ++ ([.fld .TIDE_STATUS_STATE, .fld .TIDE_CELL_PERIOD_PERIOD,
    .fld .WTH_SPN_STATUS_STATE, .fld .WTH_SPN_STATUS_AT_SPEED, .fld .WTH_SPN_STATUS_FW_ACTIVE, .fld .WTH_SPN_STATUS_FW_SAT,
    .fld .WTH_SPN_STATUS_STOP_BLOCKED, .fld .WTH_SPN_MEAS_TRACK, .fld .WTH_SPN_MEAS_SPEED, .fld .WTH_SPN_KE_KE_MEAS,
    .fld .WTH_SPN_FOC_ID, .fld .WTH_SPN_FOC_MI] : List Regs) ++ ([.fld .WTH_FAULT_SPN,
    .fld .TUS_SPN_REF_REF] : List Regs)) s t))

/-- Completion and effects of the commands named, on the states named (after R60, R66, R68, R69, R71, R72, R74, R81, each in
part). -/
def Obligations.SpindleStops : Prop :=
  (∀ (s : State), s.get .WTH_SPN_STATUS_STATE = 5 → s.allParked = false →
    Completes (.runStop) s (fun t => (t.get .WTH_SPN_STATUS_STATE = 5 ∧ t.get .WTH_SPN_CTRL_RUN = 0 ∧
    t.get .WTH_SPN_STATUS_STOP_BLOCKED = 1 ∧ t.bus = .done) ∧ Frame [.bus, .mireIrq, .seqs, .chans, .stg, .tide,
    .withy] (haltRegs ++ ([.fld .TIDE_STATUS_STATE, .fld .TIDE_CELL_PERIOD_PERIOD, .fld .WTH_SPN_CTRL_RUN,
    .fld .WTH_SPN_STATUS_STATE, .fld .WTH_SPN_STATUS_AT_SPEED, .fld .WTH_SPN_STATUS_FW_ACTIVE, .fld .WTH_SPN_STATUS_FW_SAT,
    .fld .WTH_SPN_STATUS_STOP_BLOCKED, .fld .WTH_SPN_MEAS_TRACK, .fld .WTH_SPN_FOC_ID,
    .fld .WTH_SPN_FOC_MI] : List Regs)) s t)) ∧
  (∀ (s : State), (s.get .WTH_SPN_STATUS_STATE = 4 ∨ (s.get .WTH_SPN_STATUS_STATE = 5 ∧ s.allParked = true)) →
    Completes (.runStop) s (fun t => (t.get .WTH_SPN_STATUS_STATE = 6 ∧ t.get .WTH_SPN_CTRL_RUN = 0 ∧
    t.withy.bridge = .regen ∧ t.bus = .done) ∧ Frame [.bus, .mireIrq, .seqs, .chans, .stg, .tide, .withy] (haltRegs ++
    ([.fld .TIDE_STATUS_STATE, .fld .TIDE_CELL_PERIOD_PERIOD, .fld .WTH_SPN_CTRL_RUN, .fld .WTH_SPN_STATUS_STATE,
    .fld .WTH_SPN_STATUS_AT_SPEED, .fld .WTH_SPN_STATUS_FW_ACTIVE, .fld .WTH_SPN_STATUS_FW_SAT,
    .fld .WTH_SPN_STATUS_STOP_BLOCKED, .fld .WTH_SPN_MEAS_TRACK, .fld .WTH_SPN_FOC_ID,
    .fld .WTH_SPN_FOC_MI] : List Regs)) s t)) ∧
  (∀ (s : State), s.get .WTH_SPN_STATUS_STATE = 3 → Completes (.runStop) s (fun t => (t.get .WTH_SPN_STATUS_STATE = 0 ∧
    t.get .WTH_SPN_CTRL_RUN = 0 ∧ t.withy.bridge = .off ∧ t.bus = .done) ∧ Frame [.bus, .mireIrq, .seqs, .chans, .stg, .tide,
    .withy] (haltRegs ++ ([.fld .TIDE_STATUS_STATE, .fld .TIDE_CELL_PERIOD_PERIOD, .fld .WTH_SPN_CTRL_RUN,
    .fld .WTH_SPN_STATUS_STATE, .fld .WTH_SPN_STATUS_AT_SPEED, .fld .WTH_SPN_STATUS_FW_ACTIVE, .fld .WTH_SPN_STATUS_FW_SAT,
    .fld .WTH_SPN_STATUS_STOP_BLOCKED, .fld .WTH_SPN_MEAS_TRACK, .fld .WTH_SPN_FOC_ID,
    .fld .WTH_SPN_FOC_MI] : List Regs)) s t)) ∧
  (∀ (s : State), s.get .WTH_SPN_STATUS_STATE ∉ [3, 4, 5] →
    Completes (.runStop) s (fun t => (t.get .WTH_SPN_STATUS_STATE = s.get .WTH_SPN_STATUS_STATE ∧
    t.get .WTH_SPN_CTRL_RUN = 0 ∧ t.withy = s.withy ∧ t.bus = .done) ∧ Frame [.bus, .mireIrq, .seqs, .chans, .stg, .tide,
    .withy] (haltRegs ++ ([.fld .TIDE_STATUS_STATE, .fld .TIDE_CELL_PERIOD_PERIOD, .fld .WTH_SPN_CTRL_RUN,
    .fld .WTH_SPN_STATUS_STATE, .fld .WTH_SPN_STATUS_AT_SPEED, .fld .WTH_SPN_STATUS_FW_ACTIVE, .fld .WTH_SPN_STATUS_FW_SAT,
    .fld .WTH_SPN_STATUS_STOP_BLOCKED, .fld .WTH_SPN_MEAS_TRACK, .fld .WTH_SPN_FOC_ID,
    .fld .WTH_SPN_FOC_MI] : List Regs)) s t)) ∧
  (∀ (s : State), s.get .WTH_SPN_STATUS_STOP_BLOCKED = 1 → s.allParked = true →
    Completes (.stopProceed) s (fun t => (t.get .WTH_SPN_STATUS_STATE = 6 ∧ t.withy.bridge = .regen ∧
    t.get .WTH_SPN_STATUS_STOP_BLOCKED = 0) ∧ Frame [.mireIrq, .seqs, .chans, .stg, .tide, .withy] (haltRegs ++
    ([.fld .TIDE_STATUS_STATE, .fld .TIDE_CELL_PERIOD_PERIOD, .fld .WTH_SPN_STATUS_STATE, .fld .WTH_SPN_STATUS_AT_SPEED,
    .fld .WTH_SPN_STATUS_FW_ACTIVE, .fld .WTH_SPN_STATUS_FW_SAT, .fld .WTH_SPN_STATUS_STOP_BLOCKED, .fld .WTH_SPN_MEAS_TRACK,
    .fld .WTH_SPN_FOC_ID, .fld .WTH_SPN_FOC_MI] : List Regs)) s t)) ∧
  (∀ (s : State), s.get .WTH_SPN_STATUS_STATE = 6 → Completes (.brakeRest) s (fun t => (t.get .WTH_SPN_STATUS_STATE = 0 ∧
    t.withy.bridge = .off) ∧ Frame [.mireIrq, .seqs, .chans, .stg, .tide, .withy] (haltRegs ++ ([.fld .TIDE_STATUS_STATE,
    .fld .TIDE_CELL_PERIOD_PERIOD, .fld .WTH_SPN_STATUS_STATE, .fld .WTH_SPN_STATUS_AT_SPEED, .fld .WTH_SPN_STATUS_FW_ACTIVE,
    .fld .WTH_SPN_STATUS_FW_SAT, .fld .WTH_SPN_STATUS_STOP_BLOCKED, .fld .WTH_SPN_MEAS_TRACK, .fld .WTH_SPN_FOC_ID,
    .fld .WTH_SPN_FOC_MI] : List Regs)) s t)) ∧
  (∀ (s : State), s.get .WTH_SPN_STATUS_STATE = 2 →
    Completes (.brakeRest) s (fun t => (t.get .WTH_SPN_STATUS_STATE = (if s.get .WTH_SPN_CTRL_RUN = 1 then 3 else 0) ∧
    t.withy.bridge = (if s.get .WTH_SPN_CTRL_RUN = 1 then .align 60 else .off)) ∧ Frame [.mireIrq, .seqs, .chans, .stg, .tide,
    .withy] (haltRegs ++ ([.fld .TIDE_STATUS_STATE, .fld .TIDE_CELL_PERIOD_PERIOD, .fld .WTH_SPN_STATUS_STATE,
    .fld .WTH_SPN_STATUS_AT_SPEED, .fld .WTH_SPN_STATUS_FW_ACTIVE, .fld .WTH_SPN_STATUS_FW_SAT,
    .fld .WTH_SPN_STATUS_STOP_BLOCKED, .fld .WTH_SPN_MEAS_TRACK, .fld .WTH_SPN_FOC_ID,
    .fld .WTH_SPN_FOC_MI] : List Regs)) s t)) ∧
  (∀ (s : State), s.get .WTH_SPN_STATUS_STATE = 9 → Completes (.brakeRest) s (fun t => (t.get .WTH_SPN_STATUS_STATE = 9 ∧
    t.withy.bridge = .off) ∧ Frame [.mireIrq, .seqs, .chans, .stg, .tide, .withy] (haltRegs ++ ([.fld .TIDE_STATUS_STATE,
    .fld .TIDE_CELL_PERIOD_PERIOD, .fld .WTH_SPN_STATUS_STATE, .fld .WTH_SPN_STATUS_AT_SPEED, .fld .WTH_SPN_STATUS_FW_ACTIVE,
    .fld .WTH_SPN_STATUS_FW_SAT, .fld .WTH_SPN_STATUS_STOP_BLOCKED, .fld .WTH_SPN_MEAS_TRACK, .fld .WTH_SPN_FOC_ID,
    .fld .WTH_SPN_FOC_MI] : List Regs)) s t)) ∧
  (∀ (s : State) (emf : Nat), (s.get .WTH_SPN_STATUS_STATE = 8 ∨ s.get .WTH_SPN_STATUS_STATE = 9) → s.atRest emf = true →
    Completes (.clrFault emf) s (fun t => (t.get .WTH_SPN_STATUS_STATE = 0 ∧ t.withy.bridge = .off ∧ t.bus = .done) ∧
    Frame [.bus, .mireIrq, .seqs, .chans, .stg, .tide, .withy] (haltRegs ++ ([.fld .TIDE_STATUS_STATE,
    .fld .TIDE_CELL_PERIOD_PERIOD, .fld .WTH_SPN_STATUS_STATE, .fld .WTH_SPN_STATUS_AT_SPEED, .fld .WTH_SPN_STATUS_FW_ACTIVE,
    .fld .WTH_SPN_STATUS_FW_SAT, .fld .WTH_SPN_STATUS_STOP_BLOCKED, .fld .WTH_SPN_MEAS_TRACK, .fld .WTH_SPN_FOC_ID,
    .fld .WTH_SPN_FOC_MI] : List Regs)) s t)) ∧
  (∀ (s : State) (emf : Nat), s.atRest emf = false → Completes (.clrFault emf) s (fun t => (t.regs = s.regs ∧
    t.withy = s.withy ∧ t.bus = .done) ∧ Frame [.bus, .mireIrq, .seqs, .chans, .stg, .tide, .withy] (haltRegs ++
    ([.fld .TIDE_STATUS_STATE, .fld .TIDE_CELL_PERIOD_PERIOD, .fld .WTH_SPN_STATUS_STATE, .fld .WTH_SPN_STATUS_AT_SPEED,
    .fld .WTH_SPN_STATUS_FW_ACTIVE, .fld .WTH_SPN_STATUS_FW_SAT, .fld .WTH_SPN_STATUS_STOP_BLOCKED, .fld .WTH_SPN_MEAS_TRACK,
    .fld .WTH_SPN_FOC_ID, .fld .WTH_SPN_FOC_MI] : List Regs)) s t)) ∧
  (∀ (s : State), s.get .WTH_SPN_STATUS_STATE = 2 →
    Completes (.wthBrakeTimeout) s (fun t => (t.get .WTH_SPN_STATUS_STATE = 9 ∧ t.latched 0x0403 0 = true ∧
    t.withy.bridge = .regen) ∧ Frame (alarmParts ++ ([.tide, .withy] : List Part)) (alarmRegs ++ haltRegs ++
    ([.fld .TIDE_STATUS_STATE, .fld .TIDE_CELL_PERIOD_PERIOD, .fld .WTH_SPN_STATUS_STATE, .fld .WTH_SPN_STATUS_AT_SPEED,
    .fld .WTH_SPN_STATUS_FW_ACTIVE, .fld .WTH_SPN_STATUS_FW_SAT, .fld .WTH_SPN_STATUS_STOP_BLOCKED, .fld .WTH_SPN_MEAS_TRACK,
    .fld .WTH_SPN_FOC_ID, .fld .WTH_SPN_FOC_MI, .fld .WTH_FAULT_SPN] : List Regs)) s t)) ∧
  (∀ (s : State), s.get .WTH_SPN_STATUS_STATE = 5 → s.getS .WTH_SPN_FOC_ID ≤ s.idFloor →
    92 * 1024 < 100 * s.get .WTH_SPN_FOC_MI → Completes (.wthSpeedLimited) s (fun t => (t.get .WTH_SPN_STATUS_STATE = 5 ∧
    t.get .WTH_SPN_STATUS_FW_SAT = 1 ∧ t.get .WTH_SPN_STATUS_AT_SPEED = 0 ∧ t.latched 0x0404 0 = true) ∧ Frame (alarmParts ++
    ([.withy] : List Part)) (alarmRegs ++ haltRegs ++ ([.fld .WTH_SPN_STATUS_AT_SPEED, .fld .WTH_SPN_STATUS_FW_SAT,
    .fld .WTH_FAULT_SPN] : List Regs)) s t)) ∧
  (∀ (s : State),
    (s.get .WTH_SPN_STATUS_STATE = 2 ∨ s.get .WTH_SPN_STATUS_STATE = 4 ∨ s.get .WTH_SPN_STATUS_STATE = 5 ∨ s.get .WTH_SPN_STATUS_STATE = 9) →
    Completes (.wthSpnOc) s (fun t => (t.get .WTH_SPN_STATUS_STATE = 9 ∧ t.withy.bridge = .off ∧ t.latched 0x0405 0 = true) ∧
    Frame (alarmParts ++ ([.tide, .withy] : List Part)) (alarmRegs ++ haltRegs ++ ([.fld .TIDE_STATUS_STATE,
    .fld .TIDE_CELL_PERIOD_PERIOD, .fld .WTH_SPN_STATUS_STATE, .fld .WTH_SPN_STATUS_AT_SPEED, .fld .WTH_SPN_STATUS_FW_ACTIVE,
    .fld .WTH_SPN_STATUS_FW_SAT, .fld .WTH_SPN_STATUS_STOP_BLOCKED, .fld .WTH_SPN_MEAS_TRACK, .fld .WTH_SPN_FOC_ID,
    .fld .WTH_SPN_FOC_MI, .fld .WTH_FAULT_SPN] : List Regs)) s t)) ∧
  (∀ (s : State), s.get .WTH_SPN_STATUS_STATE ∈ [0, 1, 3, 6, 7] →
    Completes (.wthSpnOc) s (fun t => (t.get .WTH_SPN_STATUS_STATE = s.get .WTH_SPN_STATUS_STATE ∧ t.withy.bridge = .off ∧
    t.latched 0x0405 0 = true) ∧ Frame (alarmParts ++ ([.tide, .withy] : List Part)) (alarmRegs ++ haltRegs ++
    ([.fld .TIDE_STATUS_STATE, .fld .TIDE_CELL_PERIOD_PERIOD, .fld .WTH_SPN_STATUS_STATE, .fld .WTH_SPN_STATUS_AT_SPEED,
    .fld .WTH_SPN_STATUS_FW_ACTIVE, .fld .WTH_SPN_STATUS_FW_SAT, .fld .WTH_SPN_STATUS_STOP_BLOCKED, .fld .WTH_SPN_MEAS_TRACK,
    .fld .WTH_SPN_FOC_ID, .fld .WTH_SPN_FOC_MI, .fld .WTH_FAULT_SPN] : List Regs)) s t)) ∧
  (∀ (s : State) (vhb : Nat), s.get .WEIR_STATUS_CHOP_FAULT = 1 → 14200 < vhb →
    Completes (.wthChopFail vhb) s (fun t => (t.get .WTH_SPN_STATUS_STATE = 8 ∧ t.withy.bridge = .lowSide ∧
    t.latched 0x0406 0 = true ∧ (∀ k < 4, s.get (.WTH_VCM_STATUS_PARKED k) = 0 → t.get (.WTH_VCM_STATUS_RET_ACTIVE k) = 1)) ∧
    Frame (alarmParts ++ ([.tide, .withy] : List Part)) (alarmRegs ++ haltRegs ++ ([.fld .TIDE_STATUS_STATE,
    .fld .TIDE_CELL_PERIOD_PERIOD, .fld .WTH_SPN_STATUS_STATE, .fld .WTH_SPN_STATUS_AT_SPEED, .fld .WTH_SPN_STATUS_FW_ACTIVE,
    .fld .WTH_SPN_STATUS_FW_SAT, .fld .WTH_SPN_STATUS_STOP_BLOCKED, .fld .WTH_SPN_MEAS_TRACK, .fld .WTH_SPN_FOC_ID,
    .fld .WTH_SPN_FOC_MI, .fld .WTH_FAULT_SPN, .arr (.WTH_VCM_STATUS_RET_ACTIVE 0) 0x4 4] : List Regs) ++
    ([.arr (.WTH_VCM_STATUS_ENABLED 0) 0x4 4, .arr (.WTH_MA_CTRL_HOLD 0) 0x4 8, .arr (.WTH_MA_STATUS_VOUT 0) 0x4 8,
    .fld .WEIR_MEAS_VHB_MV] : List Regs)) s t)) ∧
  (∀ (s : State) (vhb : Nat), s.get .WTH_SPN_STATUS_STATE = 7 → vhb + 500 ≤ 10 * s.get .WTH_HOLD_VSET →
    Completes (.holdCollapse vhb) s (fun t => (t.get .WTH_SPN_STATUS_HOLD_COLLAPSE = 1 ∧ t.get .WTH_SPN_STATUS_STATE = 7 ∧
    t.withy.iq = -(20 * s.get .WTH_SPN_CUR_IHOLD : Int)) ∧ Frame [.withy] [.fld .WTH_SPN_STATUS_HOLD_COLLAPSE,
    .fld .WEIR_MEAS_VHB_MV] s t)) ∧
  (∀ (s : State),
    (s.get .WTH_SPN_STATUS_STATE = 2 ∨ s.get .WTH_SPN_STATUS_STATE = 4 ∨ s.get .WTH_SPN_STATUS_STATE = 5 ∨ s.get .WTH_SPN_STATUS_STATE = 9) →
    Completes (.wthGdUvlo) s (fun t => (t.get .WTH_SPN_STATUS_STATE = 9 ∧ t.withy.bridge = .off ∧ t.latched 0x040A 0 = true ∧
    (∀ k < 4, s.get (.WTH_VCM_STATUS_PARKED k) = 0 → t.get (.WTH_VCM_STATUS_RET_ACTIVE k) = 1)) ∧ Frame (alarmParts ++
    ([.tide, .withy] : List Part)) (alarmRegs ++ haltRegs ++ ([.fld .TIDE_STATUS_STATE, .fld .TIDE_CELL_PERIOD_PERIOD,
    .fld .WTH_SPN_STATUS_STATE, .fld .WTH_SPN_STATUS_AT_SPEED, .fld .WTH_SPN_STATUS_FW_ACTIVE, .fld .WTH_SPN_STATUS_FW_SAT,
    .fld .WTH_SPN_STATUS_STOP_BLOCKED, .fld .WTH_SPN_MEAS_TRACK, .fld .WTH_SPN_FOC_ID, .fld .WTH_SPN_FOC_MI,
    .fld .WTH_FAULT_SPN, .arr (.WTH_VCM_STATUS_RET_ACTIVE 0) 0x4 4] : List Regs) ++ ([.arr (.WTH_VCM_STATUS_ENABLED 0) 0x4 4,
    .arr (.WTH_MA_CTRL_HOLD 0) 0x4 8, .arr (.WTH_MA_STATUS_VOUT 0) 0x4 8] : List Regs)) s t)) ∧
  (∀ (s : State), s.get .WTH_SPN_STATUS_STATE ∈ [0, 1, 3, 6, 7] →
    Completes (.wthGdUvlo) s (fun t => (t.get .WTH_SPN_STATUS_STATE = s.get .WTH_SPN_STATUS_STATE ∧ t.withy.bridge = .off ∧
    t.latched 0x040A 0 = true ∧ (∀ k < 4, s.get (.WTH_VCM_STATUS_PARKED k) = 0 → t.get (.WTH_VCM_STATUS_RET_ACTIVE k) = 1)) ∧
    Frame (alarmParts ++ ([.tide, .withy] : List Part)) (alarmRegs ++ haltRegs ++ ([.fld .TIDE_STATUS_STATE,
    .fld .TIDE_CELL_PERIOD_PERIOD, .fld .WTH_SPN_STATUS_STATE, .fld .WTH_SPN_STATUS_AT_SPEED, .fld .WTH_SPN_STATUS_FW_ACTIVE,
    .fld .WTH_SPN_STATUS_FW_SAT, .fld .WTH_SPN_STATUS_STOP_BLOCKED, .fld .WTH_SPN_MEAS_TRACK, .fld .WTH_SPN_FOC_ID,
    .fld .WTH_SPN_FOC_MI, .fld .WTH_FAULT_SPN, .arr (.WTH_VCM_STATUS_RET_ACTIVE 0) 0x4 4] : List Regs) ++
    ([.arr (.WTH_VCM_STATUS_ENABLED 0) 0x4 4, .arr (.WTH_MA_CTRL_HOLD 0) 0x4 8,
    .arr (.WTH_MA_STATUS_VOUT 0) 0x4 8] : List Regs)) s t)) ∧
  (∀ (s : State) (speed : Nat) (di : Int) (mi : Nat) (elec : Option Nat), s.get .WTH_SPN_STATUS_STATE = 5 →
    Completes (.focPeriod speed di mi elec) s (fun t => (t.get .WTH_SPN_STATUS_STATE = 5 ∧
    t.get .WTH_SPN_FOC_MI = mi % 2 ^ 10 ∧ t.getS .WTH_SPN_FOC_ID = s.weaken di mi ∧
    t.withy.iq = (s.setS .WTH_SPN_FOC_ID (s.weaken di mi)).limitQ s.withy.iq (s.weaken di mi)) ∧ Frame [.mireIrq, .seqs,
    .chans, .stg, .tide, .withy] (haltRegs ++ ([.fld .TIDE_STATUS_STATE, .fld .WTH_SPN_STATUS_AT_SPEED,
    .fld .WTH_SPN_STATUS_SPD95, .fld .WTH_SPN_STATUS_SPD90, .fld .WTH_SPN_STATUS_FW_ACTIVE, .fld .WTH_SPN_STATUS_FW_SAT,
    .fld .WTH_SPN_MEAS_TRACK, .fld .WTH_SPN_MEAS_SPEED, .fld .WTH_SPN_FOC_ID, .fld .WTH_SPN_FOC_MI,
    .fld .MBX_START_STEP] : List Regs)) s t)) ∧
  (∀ (s : State) (speed : Nat) (di : Int) (mi : Nat) (elec : Option Nat),
    (s.get .WTH_SPN_STATUS_STATE = 6 ∨ s.get .WTH_SPN_STATUS_STATE = 9) → s.withy.bridge = .regen → speed ≤ 300 * 1024 →
    Completes (.focPeriod speed di mi elec) s (fun t => (t.get .WTH_SPN_STATUS_STATE = s.get .WTH_SPN_STATUS_STATE ∧
    t.withy.bridge = .lowSide) ∧ Frame [.mireIrq, .seqs, .chans, .stg, .tide, .withy] (haltRegs ++ ([.fld .TIDE_STATUS_STATE,
    .fld .WTH_SPN_STATUS_AT_SPEED, .fld .WTH_SPN_STATUS_SPD95, .fld .WTH_SPN_STATUS_SPD90, .fld .WTH_SPN_STATUS_FW_ACTIVE,
    .fld .WTH_SPN_STATUS_FW_SAT, .fld .WTH_SPN_MEAS_TRACK, .fld .WTH_SPN_MEAS_SPEED, .fld .WTH_SPN_FOC_ID,
    .fld .WTH_SPN_FOC_MI, .fld .MBX_START_STEP] : List Regs)) s t)) ∧
  (∀ (s : State) (speed : Nat) (di : Int) (mi : Nat) (elec : Option Nat), s.get .WTH_SPN_STATUS_STATE = 4 →
    s.withy.bridge = .ramp →
    Completes (.focPeriod speed di mi elec) s (fun t => (t.withy.ramp = min rampEnd (s.withy.ramp + 1024 * s.rampRate)) ∧
    Frame [.mireIrq, .seqs, .chans, .stg, .tide, .withy] (haltRegs ++ ([.fld .TIDE_STATUS_STATE,
    .fld .WTH_SPN_STATUS_AT_SPEED, .fld .WTH_SPN_STATUS_SPD95, .fld .WTH_SPN_STATUS_SPD90, .fld .WTH_SPN_STATUS_FW_ACTIVE,
    .fld .WTH_SPN_STATUS_FW_SAT, .fld .WTH_SPN_MEAS_TRACK, .fld .WTH_SPN_MEAS_SPEED, .fld .WTH_SPN_FOC_ID,
    .fld .WTH_SPN_FOC_MI, .fld .MBX_START_STEP] : List Regs)) s t))

/-- Completion and effects of the commands named, on the states named (after R75, R76, R78, R79, R80, R84, each in part). -/
def Obligations.ActuatorsRetractAndPark : Prop :=
  (∀ (s : State) (k : Nat), k < 4 → Completes (.wthVcmOc k) s (fun t => (t.get (.WTH_VCM_CTRL_EN k) = 0 ∧
    t.get (.WTH_VCM_STATUS_ENABLED k) = 0 ∧ t.withy.vcm.at k = .off ∧ t.latched 0x0407 k = true) ∧ Frame (alarmParts ++
    ([.withy] : List Part)) (alarmRegs ++ haltRegs ++ ([.fld .WTH_FAULT_VCM_OC, .arr (.WTH_VCM_CTRL_EN 0) 0x4 4,
    .arr (.WTH_VCM_STATUS_ENABLED 0) 0x4 4] : List Regs)) s t)) ∧
  (∀ (s : State) (k : Nat), k < 8 → Completes (.wthMaOc k) s (fun t => (t.get (.WTH_MA_CTRL_HOLD k) = 1 ∧
    t.get (.WTH_MA_STATUS_VOUT k) = 0 ∧ t.latched 0x0408 k = true) ∧ Frame alarmParts (alarmRegs ++ haltRegs ++
    ([.fld .WTH_FAULT_MA_OC, .arr (.WTH_MA_CTRL_HOLD 0) 0x4 8, .arr (.WTH_MA_STATUS_VOUT 0) 0x4 8] : List Regs)) s t)) ∧
  (∀ (s : State) (k : Nat), s.get (.WTH_VCM_STATUS_RET_ACTIVE k) = 0 →
    Completes (.vcmEnable k) s (fun t => (t.get (.WTH_VCM_CTRL_EN k) = 1 ∧ t.get (.WTH_VCM_STATUS_ENABLED k) = 1 ∧
    t.get (.WTH_VCM_STATUS_PARKED k) = 0 ∧ t.bus = .done) ∧ Frame [.bus, .withy] [.arr (.WTH_VCM_CTRL_EN 0) 0x4 4,
    .arr (.WTH_VCM_STATUS_PARKED 0) 0x4 4, .arr (.WTH_VCM_STATUS_ENABLED 0) 0x4 4, .arr (.MWQ_STATUS_BLOCKED 0) 0x20 16,
    .arr (.MWQ_STATUS_OUTST 0) 0x20 16, .fld .MWQ_SYS_STATUS_FLUSH, .fld .MWQ_SYS_STATUS_CAL] s t)) ∧
  (∀ (s : State) (k : Nat), s.get (.WTH_VCM_STATUS_RET_ACTIVE k) = 1 →
    Completes (.vcmEnable k) s (fun t => (t.get (.WTH_VCM_CTRL_EN k) = s.get (.WTH_VCM_CTRL_EN k) ∧
    t.get (.WTH_VCM_STATUS_PARKED k) = s.get (.WTH_VCM_STATUS_PARKED k) ∧ t.withy = s.withy ∧ t.bus = .done) ∧ Frame [.bus,
    .withy] [.arr (.WTH_VCM_CTRL_EN 0) 0x4 4, .arr (.WTH_VCM_STATUS_PARKED 0) 0x4 4, .arr (.WTH_VCM_STATUS_ENABLED 0) 0x4 4,
    .arr (.MWQ_STATUS_BLOCKED 0) 0x20 16, .arr (.MWQ_STATUS_OUTST 0) 0x20 16, .fld .MWQ_SYS_STATUS_FLUSH,
    .fld .MWQ_SYS_STATUS_CAL] s t)) ∧
  (∀ (s : State) (k : Nat), s.get (.WTH_VCM_STATUS_RET_ACTIVE k) = 0 →
    Completes (.park k) s (fun t => (t.get (.WTH_VCM_CTRL_EN k) = 0 ∧ t.get (.WTH_VCM_STATUS_ENABLED k) = 0 ∧
    t.get (.WTH_VCM_STATUS_PARKED k) = 1 ∧ t.withy.vcm.at k = .off ∧ t.bus = .done) ∧ Frame (alarmParts ++ ([.dram, .bus,
    .drawn, .withy, .slu, .mq] : List Part)) (alarmRegs ++ haltRegs ++ ([.arr (.WTH_VCM_CTRL_EN 0) 0x4 4,
    .arr (.WTH_VCM_STATUS_PARKED 0) 0x4 4, .arr (.WTH_VCM_STATUS_ENABLED 0) 0x4 4, .arr (.MWQ_STATUS_BLOCKED 0) 0x20 16,
    .arr (.MWQ_STATUS_OUTST 0) 0x20 16, .arr (.MWC_PI_PASS 0) 0x20 4, .arr (.MWC_PI_PI 0) 0x20 4,
    .arr (.MWC_STATUS_SCAN_STOP 0) 0x20 4, .arr (.MWC_STATUS_SPILL_CNT 0) 0x20 4, .fld .MWQ_SYS_STATUS_FLUSH,
    .fld .MWQ_SYS_STATUS_CAL, .fld .SLU_STATUS_LED_FREE] : List Regs) ++ ([.arr (.SLU_SEC_FREE_FREE 0) 0x4 4,
    .arr (.SLU_SEC_RUN_RUN 0) 0x4 4, .arr (.SLU_CRED_USED_USED 0) 0x4 32] : List Regs)) s t)) ∧
  (∀ (s : State) (n : Nat), Completes (.maHold n true) s (fun t => (t.get (.WTH_MA_CTRL_HOLD n) = 1 ∧
    t.get (.WTH_MA_STATUS_VOUT n) = 0 ∧ t.bus = .done) ∧ Frame [.bus] [.arr (.WTH_MA_CTRL_HOLD 0) 0x4 8,
    .arr (.WTH_MA_STATUS_VOUT 0) 0x4 8] s t)) ∧
  (∀ (s : State) (n : Nat), Completes (.maHold n false) s (fun t => (t.get (.WTH_MA_CTRL_HOLD n) = 0 ∧ t.bus = .done) ∧
    Frame [.bus] [.arr (.WTH_MA_CTRL_HOLD 0) 0x4 8, .arr (.WTH_MA_STATUS_VOUT 0) 0x4 8] s t)) ∧
  (∀ (s : State) (mask : Nat), Completes (.retractGo mask) s (fun t => ((∀ k < 4, mask / 2 ^ k % 2 = 1 →
    s.get (.WTH_VCM_STATUS_RET_ACTIVE k) = 0 → t.get (.WTH_VCM_STATUS_RET_ACTIVE k) = 1 ∧ t.withy.retract.at k = .moving ∧
    t.get (.WTH_MA_CTRL_HOLD (2 * k)) = 1 ∧ t.get (.WTH_MA_CTRL_HOLD (2 * k + 1)) = 1) ∧ (∀ k < 4,
    (mask / 2 ^ k % 2 = 0 ∨ s.get (.WTH_VCM_STATUS_RET_ACTIVE k) = 1) →
    t.get (.WTH_VCM_STATUS_RET_ACTIVE k) = s.get (.WTH_VCM_STATUS_RET_ACTIVE k) ∧
    t.withy.retract.at k = s.withy.retract.at k) ∧ t.bus = .done) ∧ Frame [.bus, .seqs, .chans,
    .withy] [.fld .SDG_WF_STATUS_CAUSE_SEEN, .arr (.SDG_WR_STATUS_WG 0) 0x400 8, .arr (.SDG_WR_STATUS_CAUSE 0) 0x400 8,
    .arr (.SDG_WR_STATUS_DROPS 0) 0x400 8, .arr (.SDG_WR_DROP_MANG 0) 0x400 8, .arr (.WTH_VCM_STATUS_RET_ACTIVE 0) 0x4 4,
    .arr (.WTH_VCM_STATUS_ENABLED 0) 0x4 4, .arr (.WTH_MA_CTRL_HOLD 0) 0x4 8, .arr (.WTH_MA_STATUS_VOUT 0) 0x4 8] s t)) ∧
  (∀ (s : State) (vhb : Nat), vhb < 7000 → Completes (.retractLowBus vhb) s (fun t => ((∀ k < 4,
    s.get (.WTH_VCM_STATUS_PARKED k) = 0 → t.get (.WTH_VCM_STATUS_RET_ACTIVE k) = 1) ∧
    t.get .WEIR_MEAS_VHB_MV = vhb % 2 ^ 16) ∧ Frame [.seqs, .chans, .withy] [.fld .SDG_WF_STATUS_CAUSE_SEEN,
    .arr (.SDG_WR_STATUS_WG 0) 0x400 8, .arr (.SDG_WR_STATUS_CAUSE 0) 0x400 8, .arr (.SDG_WR_STATUS_DROPS 0) 0x400 8,
    .arr (.SDG_WR_DROP_MANG 0) 0x400 8, .arr (.WTH_VCM_STATUS_RET_ACTIVE 0) 0x4 4, .arr (.WTH_VCM_STATUS_ENABLED 0) 0x4 4,
    .arr (.WTH_MA_CTRL_HOLD 0) 0x4 8, .arr (.WTH_MA_STATUS_VOUT 0) 0x4 8, .fld .WEIR_MEAS_VHB_MV] s t)) ∧
  (∀ (s : State) (vhb : Nat), 7000 ≤ vhb → Completes (.retractLowBus vhb) s (fun t => (t.withy = s.withy ∧
    t.get .WEIR_MEAS_VHB_MV = vhb % 2 ^ 16) ∧ Frame [.seqs, .chans, .withy] [.fld .SDG_WF_STATUS_CAUSE_SEEN,
    .arr (.SDG_WR_STATUS_WG 0) 0x400 8, .arr (.SDG_WR_STATUS_CAUSE 0) 0x400 8, .arr (.SDG_WR_STATUS_DROPS 0) 0x400 8,
    .arr (.SDG_WR_DROP_MANG 0) 0x400 8, .arr (.WTH_VCM_STATUS_RET_ACTIVE 0) 0x4 4, .arr (.WTH_VCM_STATUS_ENABLED 0) 0x4 4,
    .arr (.WTH_MA_CTRL_HOLD 0) 0x4 8, .arr (.WTH_MA_STATUS_VOUT 0) 0x4 8, .fld .WEIR_MEAS_VHB_MV] s t)) ∧
  (∀ (s : State), Completes (.wthHbLoss) s (fun t => ((∀ k < 4, s.get (.WTH_VCM_STATUS_PARKED k) = 0 →
    t.get (.WTH_VCM_STATUS_RET_ACTIVE k) = 1) ∧ t.latched 0x040B 0 = true) ∧ Frame (alarmParts ++
    ([.withy] : List Part)) (alarmRegs ++ haltRegs ++ ([.fld .WTH_FAULT_SPN, .arr (.WTH_VCM_STATUS_RET_ACTIVE 0) 0x4 4,
    .arr (.WTH_VCM_STATUS_ENABLED 0) 0x4 4, .arr (.WTH_MA_CTRL_HOLD 0) 0x4 8,
    .arr (.WTH_MA_STATUS_VOUT 0) 0x4 8] : List Regs)) s t)) ∧
  (∀ (s : State) (k : Nat), s.withy.retract.at k = .moving →
    Completes (.retractStall k) s (fun t => (t.withy.retract.at k = .hold) ∧ Frame [.withy] [] s t)) ∧
  (∀ (s : State) (k : Nat), k < 4 → s.withy.retract.at k = .moving →
    Completes (.wthRetTimeout k) s (fun t => (t.withy.retract.at k = .hold ∧ t.latched 0x0409 k = true) ∧ Frame (alarmParts ++
    ([.withy] : List Part)) (alarmRegs ++ haltRegs ++ ([.fld .WTH_FAULT_RET_TIMEOUT] : List Regs)) s t)) ∧
  (∀ (s : State) (k : Nat), s.withy.retract.at k = .hold →
    Completes (.retractEnd k) s (fun t => (t.withy.retract.at k = .none ∧ t.get (.WTH_VCM_STATUS_RET_ACTIVE k) = 0 ∧
    t.get (.WTH_VCM_STATUS_PARKED k) = 1 ∧ t.get (.WTH_VCM_CTRL_EN k) = 0) ∧ Frame (alarmParts ++ ([.dram, .drawn, .withy,
    .slu, .mq] : List Part)) (alarmRegs ++ haltRegs ++ ([.arr (.WTH_VCM_CTRL_EN 0) 0x4 4,
    .arr (.WTH_VCM_STATUS_RET_ACTIVE 0) 0x4 4, .arr (.WTH_VCM_STATUS_PARKED 0) 0x4 4, .arr (.WTH_VCM_STATUS_ENABLED 0) 0x4 4,
    .arr (.MWQ_STATUS_BLOCKED 0) 0x20 16, .arr (.MWQ_STATUS_OUTST 0) 0x20 16, .arr (.MWC_PI_PASS 0) 0x20 4,
    .arr (.MWC_PI_PI 0) 0x20 4, .arr (.MWC_STATUS_SCAN_STOP 0) 0x20 4, .arr (.MWC_STATUS_SPILL_CNT 0) 0x20 4,
    .fld .MWQ_SYS_STATUS_FLUSH, .fld .MWQ_SYS_STATUS_CAL] : List Regs) ++ ([.fld .SLU_STATUS_LED_FREE,
    .arr (.SLU_SEC_FREE_FREE 0) 0x4 4, .arr (.SLU_SEC_RUN_RUN 0) 0x4 4,
    .arr (.SLU_CRED_USED_USED 0) 0x4 32] : List Regs)) s t))

/-- Completion and effects of the commands named, on the states named (after R86, R87, R94, R102, R108, R117, R193, each in
part). -/
def Obligations.ServoTicksAndWedges : Prop :=
  (∀ (s : State) (x : Strobe), Completes (.innerLoopTick x) s (fun t => (t.mang = x.mang ∧ t.get .TUS_STATUS_XC_PENDING = 0 ∧
    (s.get .TUS_STATUS_XC_PENDING = 1 → t.tus.xc = (List.range 16).map (fun i => s.getS (.TUS_XC_M (i / 4) (i % 4))) ∧
    t.tus.xcExp = s.getS .TUS_XC_EXP_EXP) ∧ (∀ k < 4, (t.sec k).capPend = false ∧ ((s.sec k).capPend = true →
    t.get (.TUS_SEC_STATUS_CAP_DONE k) = 1)) ∧ (∀ n < 8, s.laneOn n = false → (t.lane n).xp = {} ∧ (t.lane n).latch = none)) ∧
    Frame (alarmParts ++ ([.dram, .drawn, .shockQuiet, .tide, .withy, .tus, .links, .slu, .mq,
    .aq] : List Part)) (alarmRegs ++ haltRegs ++ ([.fld ⟨0x4E000000, 0, 32⟩, .arr (.WTH_VCM_STATUS_IMEAS 0) 0x4 4,
    .arr (.WTH_MA_STATUS_VOUT 0) 0x4 8, .arr (.WTH_MA_STATUS_STRAIN 0) 0x4 8, .fld .TUS_STATUS_XC_PENDING,
    .fld .TUS_STATUS_NUM_SAT, .arr (.TUS_SEC_STATUS_REGION 0) 0x40 4, .arr (.TUS_SEC_STATUS_REGION_PEND 0) 0x40 4,
    .arr (.TUS_SEC_STATUS_CAP_DONE 0) 0x40 4, .arr (.TUS_SEC_STATUS_SAT 0) 0x40 4, .arr (.TUS_SEC_STATUS_WINH 0) 0x40 4,
    .arr (.TUS_SEC_STATUS_MISS1 0) 0x40 4] : List Regs) ++ ([.arr (.TUS_SEC_STATUS_MISS0 0) 0x40 4,
    .arr (.TUS_SAT_CNT_COUNT 0) 0x40 4, .arr (.TUS_SEC_INFO_AGE1 0) 0x40 4, .arr (.TUS_SEC_INFO_AGE0 0) 0x40 4,
    .arr (.TUS_SEC_INFO_CAP_EXP 0) 0x40 4, .grid (.TUS_CAP_M 0 0) 0x40 4 0x4 8, .fld .TUS_SPN_REF_REF,
    .arr (.TUS_SEEK_STATUS_SEEK_SEQ 0) 0x20 4, .arr (.TUS_SEEK_STATUS_SEEKING 0) 0x20 4,
    .arr (.TUS_SEEK_STATUS_PHASE 0) 0x20 4, .arr (.TUS_SEEK_STATUS_HINT_REJ 0) 0x20 4,
    .arr (.TUS_SEEK_STATUS_PARAM_ERR 0) 0x20 4] : List Regs) ++ ([.arr (.TUS_SEEK_STATUS_HINT_ACTIVE 0) 0x20 4,
    .arr (.TUS_SEEK_STATUS_SETTLED 0) 0x20 4, .fld .SDG_WF_STATUS_SHOCK_ACTIVE, .arr (.MWQ_STATUS_BLOCKED 0) 0x20 16,
    .arr (.MWQ_STATUS_OUTST 0) 0x20 16, .arr (.MWC_PI_PASS 0) 0x20 4, .arr (.MWC_PI_PI 0) 0x20 4,
    .arr (.MWC_STATUS_SCAN_STOP 0) 0x20 4, .arr (.MWC_STATUS_SPILL_CNT 0) 0x20 4, .fld .MWQ_SYS_STATUS_FLUSH,
    .fld .MWQ_SYS_STATUS_CAL, .fld .SLU_STATUS_LED_FREE] : List Regs) ++ ([.arr (.SLU_SEC_FREE_FREE 0) 0x4 4,
    .arr (.SLU_SEC_RUN_RUN 0) 0x4 4, .arr (.SLU_CRED_USED_USED 0) 0x4 32] : List Regs)) s t)) ∧
  (∀ (s : State) (n : Nat) (x : Demod), s.laneOn n = true →
    Completes (.pesDemod n x) s (fun t => ((t.lane n).latch = some { pred := BitVec.ofNat 32 (x.wedge * 0x40_0000) + s.surfAngle (s.surface n), found := x.found, pos := x.pos }) ∧
    Frame (alarmParts ++ ([.drawn, .tus, .mq] : List Part)) (alarmRegs ++ haltRegs ++ ([.arr (.TIDE_SURF_SLIP_SLIP 0) 0x4 24,
    .fld .MWQ_SYS_STATUS_CAL] : List Regs)) s t)) ∧
  (∀ (s : State) (n : Nat) (x : Demod), s.laneOn n = false → Completes (.pesDemod n x) s (fun t => (t = s) ∧
    Frame (alarmParts ++ ([.drawn, .tus, .mq] : List Part)) (alarmRegs ++ haltRegs ++ ([.arr (.TIDE_SURF_SLIP_SLIP 0) 0x4 24,
    .fld .MWQ_SYS_STATUS_CAL] : List Regs)) s t)) ∧
  (∀ (s : State) (n : Nat), n < 8 → s.get (missFld n) = 8 →
    Completes (.tusPesLost n) s (fun t => (t.latched 0x0501 n = true) ∧ Frame (alarmParts ++
    ([.aq] : List Part)) (alarmRegs ++ haltRegs) s t)) ∧
  (∀ (s : State) (k : Nat), k < 4 → (s.sec k).satRun = 8 → Completes (.tusNumSat k) s (fun t => (t.latched 0x0502 k = true) ∧
    Frame (alarmParts ++ ([.withy] : List Part)) (alarmRegs ++ haltRegs ++ ([.arr (.WTH_VCM_STATUS_RET_ACTIVE 0) 0x4 4,
    .arr (.WTH_VCM_STATUS_ENABLED 0) 0x4 4, .arr (.WTH_MA_CTRL_HOLD 0) 0x4 8,
    .arr (.WTH_MA_STATUS_VOUT 0) 0x4 8] : List Regs)) s t)) ∧
  (∀ (s : State) (n : Nat), (s.lane n).errInh = true → (s.lane n).quiet = 8 → s.winhOther n = false →
    Completes (.winhLift n) s (fun t => ((t.lane n).errInh = false) ∧ Frame [.seqs, .chans,
    .tus] [.fld .SDG_WF_STATUS_CAUSE_SEEN, .arr (.SDG_WR_STATUS_WG 0) 0x400 8, .arr (.SDG_WR_STATUS_CAUSE 0) 0x400 8,
    .arr (.SDG_WR_STATUS_DROPS 0) 0x400 8, .arr (.SDG_WR_DROP_MANG 0) 0x400 8, .arr (.TUS_SEC_STATUS_WINH 0) 0x40 4] s t)) ∧
  (∀ (s : State), Completes (.xcCommit) s (fun t => (t.get .TUS_STATUS_XC_PENDING = 1 ∧ t.bus = .done) ∧
    Frame [.bus] [.fld .TUS_STATUS_XC_PENDING] s t)) ∧
  (∀ (s : State) (k : Nat), Completes (.capGo k) s (fun t => ((t.sec k).capPend = true ∧
    t.get (.TUS_SEC_STATUS_CAP_DONE k) = 0 ∧ t.bus = .done) ∧ Frame [.bus,
    .tus] [.arr (.TUS_SEC_STATUS_CAP_DONE 0) 0x40 4] s t)) ∧
  (∀ (s : State), s.get .SDG_WF_STATUS_SHOCK_ACTIVE = 1 → max 1 (s.get .SDG_SHOCK_CFG_HOLD) ≤ s.shockQuiet →
    Completes (.shockLift) s (fun t => (t.get .SDG_WF_STATUS_SHOCK_ACTIVE = 0) ∧
    Frame [] [.fld .SDG_WF_STATUS_SHOCK_ACTIVE] s t))

/-- Completion and effects of the commands named, on the states named (after R99, R100, R109, R115, each in part). -/
def Obligations.SeeksAndRegions : Prop :=
  (∀ (s : State) (k : Nat) (hint abandon : Bool),
    Completes (.seekGo k hint abandon) s (fun t => (t.get (.TUS_SEEK_CTRL_HINT k) = hint.toNat ∧
    (t.sec k).seek.cmd = some (!abandon) ∧ t.bus = .done) ∧ Frame (alarmParts ++ ([.dram, .bus, .drawn, .tus, .slu,
    .mq] : List Part)) (alarmRegs ++ haltRegs ++ ([.arr (.TUS_SEEK_CTRL_HINT 0) 0x20 4, .arr (.MWQ_STATUS_BLOCKED 0) 0x20 16,
    .arr (.MWQ_STATUS_OUTST 0) 0x20 16, .arr (.MWC_PI_PASS 0) 0x20 4, .arr (.MWC_PI_PI 0) 0x20 4,
    .arr (.MWC_STATUS_SCAN_STOP 0) 0x20 4, .arr (.MWC_STATUS_SPILL_CNT 0) 0x20 4, .fld .MWQ_SYS_STATUS_FLUSH,
    .fld .MWQ_SYS_STATUS_CAL, .fld .SLU_STATUS_LED_FREE, .arr (.SLU_SEC_FREE_FREE 0) 0x4 4,
    .arr (.SLU_SEC_RUN_RUN 0) 0x4 4] : List Regs) ++ ([.arr (.SLU_CRED_USED_USED 0) 0x4 32] : List Regs)) s t)) ∧
  (∀ (s : State) (k : Nat), Completes (.seekAbandon k) s (fun t => ((t.sec k).seek.cmd = some false ∧ t.bus = .done) ∧
    Frame (alarmParts ++ ([.dram, .bus, .drawn, .tus, .slu, .mq] : List Part)) (alarmRegs ++ haltRegs ++
    ([.arr (.MWQ_STATUS_BLOCKED 0) 0x20 16, .arr (.MWQ_STATUS_OUTST 0) 0x20 16, .arr (.MWC_PI_PASS 0) 0x20 4,
    .arr (.MWC_PI_PI 0) 0x20 4, .arr (.MWC_STATUS_SCAN_STOP 0) 0x20 4, .arr (.MWC_STATUS_SPILL_CNT 0) 0x20 4,
    .fld .MWQ_SYS_STATUS_FLUSH, .fld .MWQ_SYS_STATUS_CAL, .fld .SLU_STATUS_LED_FREE, .arr (.SLU_SEC_FREE_FREE 0) 0x4 4,
    .arr (.SLU_SEC_RUN_RUN 0) 0x4 4, .arr (.SLU_CRED_USED_USED 0) 0x4 32] : List Regs)) s t)) ∧
  (∀ (s : State) (k : Nat), k < 4 → s.settles k = true →
    Completes (.seekSettled k) s (fun t => (t.get (.TUS_SEEK_STATUS_SETTLED k) = 1 ∧ t.get (.TUS_SEEK_STATUS_SEEKING k) = 0 ∧
    t.get (.TUS_SEEK_STATUS_HINT_ACTIVE k) = 0) ∧ Frame (alarmParts ++ ([.dram, .drawn, .tus, .slu,
    .mq] : List Part)) (alarmRegs ++ haltRegs ++ ([.arr (.TUS_SEC_STATUS_REGION_PEND 0) 0x40 4,
    .arr (.TUS_SEEK_STATUS_SEEKING 0) 0x20 4, .arr (.TUS_SEEK_STATUS_HINT_ACTIVE 0) 0x20 4,
    .arr (.TUS_SEEK_STATUS_SETTLED 0) 0x20 4, .arr (.MWQ_STATUS_BLOCKED 0) 0x20 16, .arr (.MWQ_STATUS_OUTST 0) 0x20 16,
    .arr (.MWC_PI_PASS 0) 0x20 4, .arr (.MWC_PI_PI 0) 0x20 4, .arr (.MWC_STATUS_SCAN_STOP 0) 0x20 4,
    .arr (.MWC_STATUS_SPILL_CNT 0) 0x20 4, .fld .MWQ_SYS_STATUS_FLUSH, .fld .MWQ_SYS_STATUS_CAL] : List Regs) ++
    ([.fld .SLU_STATUS_LED_FREE, .arr (.SLU_SEC_FREE_FREE 0) 0x4 4, .arr (.SLU_SEC_RUN_RUN 0) 0x4 4,
    .arr (.SLU_CRED_USED_USED 0) 0x4 32] : List Regs)) s t)) ∧
  (∀ (s : State) (k : Nat), s.get .TUS_CTRL_TABLES_VALID = 1 →
    Completes (.reload k) s (fun t => ((t.sec k).fetching = some (s.get (.TUS_SEC_STATUS_REGION k)) ∧
    (t.sec k).shadow = none ∧ t.get (.TUS_SEC_STATUS_REGION_PEND k) = 1 ∧ t.bus = .done) ∧ Frame [.bus,
    .tus] [.arr (.TUS_SEC_STATUS_REGION_PEND 0) 0x40 4] s t)) ∧
  (∀ (s : State) (k r : Nat), s.get .TUS_CTRL_TABLES_VALID = 1 → (s.sec k).fetching = some r →
    (s.regionWords k r).getD 105 0 = regionTag k r → Completes (.regionFetchDone k) s (fun t => ((t.sec k).fetching = none ∧
    (t.sec k).shadow = some (r, s.regionWords k r)) ∧ Frame (alarmParts ++ ([.tus] : List Part)) (alarmRegs ++ haltRegs ++
    ([.arr (.TUS_SEC_STATUS_REGION_PEND 0) 0x40 4] : List Regs)) s t)) ∧
  (∀ (s : State) (k r : Nat), k < 4 → s.get .TUS_CTRL_TABLES_VALID = 1 → (s.sec k).fetching = some r →
    (s.regionWords k r).getD 105 0 ≠ regionTag k r → Completes (.regionFetchDone k) s (fun t => ((t.sec k).fetching = none ∧
    (t.sec k).badTag = some r ∧ t.get (.TUS_SEC_STATUS_REGION_PEND k) = 0 ∧ t.latched 0x0503 k = true) ∧ Frame (alarmParts ++
    ([.tus] : List Part)) (alarmRegs ++ haltRegs ++ ([.arr (.TUS_SEC_STATUS_REGION_PEND 0) 0x40 4] : List Regs)) s t))

/-- Completion and effects of the commands named, on the states named (after R479, R501, R502, R503, each in part). -/
def Obligations.PreampLinks : Prop :=
  (∀ (s : State) (l head addr data : Nat), s.domainOn (89 + l) = true → (s.link l).released = true → (s.link l).sent = none →
    Completes (.plWriteFrame l head addr data) s (fun t => ((t.link l).sent = some { head := head, addr := addr, data := some data } ∧
    (t.link l).wire = plFrame 2 27 (head % 8 * 2 ^ 24 + addr % 256 * 2 ^ 16 + data % 2 ^ 16) ∧ (t.link l).fails = 0) ∧
    Frame [.links] [] s t)) ∧
  (∀ (s : State) (l head addr : Nat), s.domainOn (89 + l) = true → (s.link l).released = true → (s.link l).sent = none →
    Completes (.plReadFrame l head addr) s (fun t => ((t.link l).sent = some { head := head, addr := addr } ∧
    (t.link l).wire = plFrame 3 11 (head % 8 * 2 ^ 8 + addr % 256) ∧ (t.link l).fails = 0) ∧ Frame [.links] [] s t)) ∧
  (∀ (s : State) (l frame : Nat) (f : PlFrame), s.domainOn (89 + l) = true → (s.link l).sent = some f →
    frame = plFrame (if f.data.isSome then 2 else 3) 16 (frame / 256 % 65536) →
    Completes (.plResponse l frame) s (fun t => ((t.link l).sent = none ∧ (t.link l).reply = frame / 256 % 2 ^ 16 ∧
    (t.link l).fails = 0) ∧ Frame [.seqs, .chans, .withy, .links] [.fld .SDG_WF_STATUS_CAUSE_SEEN,
    .arr (.SDG_WR_STATUS_WG 0) 0x400 8, .arr (.SDG_WR_STATUS_CAUSE 0) 0x400 8, .arr (.SDG_WR_STATUS_DROPS 0) 0x400 8,
    .arr (.SDG_WR_DROP_MANG 0) 0x400 8, .arr (.WTH_VCM_STATUS_RET_ACTIVE 0) 0x4 4, .arr (.WTH_VCM_STATUS_ENABLED 0) 0x4 4,
    .arr (.WTH_MA_CTRL_HOLD 0) 0x4 8, .arr (.WTH_MA_STATUS_VOUT 0) 0x4 8] s t)) ∧
  (∀ (s : State) (l frame : Nat) (f : PlFrame), s.domainOn (89 + l) = true → (s.link l).sent = some f →
    frame ≠ plFrame (if f.data.isSome then 2 else 3) 16 (frame / 256 % 65536) → (s.link l).fails < 2 →
    Completes (.plResponse l frame) s (fun t => ((t.link l).sent = some f ∧ (t.link l).wire = f.bits ∧
    (t.link l).fails = (s.link l).fails + 1) ∧ Frame [.seqs, .chans, .withy, .links] [.fld .SDG_WF_STATUS_CAUSE_SEEN,
    .arr (.SDG_WR_STATUS_WG 0) 0x400 8, .arr (.SDG_WR_STATUS_CAUSE 0) 0x400 8, .arr (.SDG_WR_STATUS_DROPS 0) 0x400 8,
    .arr (.SDG_WR_DROP_MANG 0) 0x400 8, .arr (.WTH_VCM_STATUS_RET_ACTIVE 0) 0x4 4, .arr (.WTH_VCM_STATUS_ENABLED 0) 0x4 4,
    .arr (.WTH_MA_CTRL_HOLD 0) 0x4 8, .arr (.WTH_MA_STATUS_VOUT 0) 0x4 8] s t)) ∧
  (∀ (s : State) (l : Nat) (f : PlFrame), s.domainOn (89 + l) = true → (s.link l).sent = some f → (s.link l).fails = 2 →
    Completes (.plTimeout l) s (fun t => ((t.link l).sent = none ∧ (t.link l).state = 2 ∧ (l < 4 →
    t.get (.WTH_VCM_STATUS_RET_ACTIVE l) = 1)) ∧ Frame [.seqs, .chans, .withy, .links] [.fld .SDG_WF_STATUS_CAUSE_SEEN,
    .arr (.SDG_WR_STATUS_WG 0) 0x400 8, .arr (.SDG_WR_STATUS_CAUSE 0) 0x400 8, .arr (.SDG_WR_STATUS_DROPS 0) 0x400 8,
    .arr (.SDG_WR_DROP_MANG 0) 0x400 8, .arr (.WTH_VCM_STATUS_RET_ACTIVE 0) 0x4 4, .arr (.WTH_VCM_STATUS_ENABLED 0) 0x4 4,
    .arr (.WTH_MA_CTRL_HOLD 0) 0x4 8, .arr (.WTH_MA_STATUS_VOUT 0) 0x4 8] s t)) ∧
  (∀ (s : State) (l : Nat) (f : PlFrame), s.domainOn (89 + l) = true → (s.link l).sent = some f → (s.link l).fails < 2 →
    Completes (.plTimeout l) s (fun t => ((t.link l).sent = some f ∧ (t.link l).wire = f.bits ∧
    (t.link l).fails = (s.link l).fails + 1) ∧ Frame [.seqs, .chans, .withy, .links] [.fld .SDG_WF_STATUS_CAUSE_SEEN,
    .arr (.SDG_WR_STATUS_WG 0) 0x400 8, .arr (.SDG_WR_STATUS_CAUSE 0) 0x400 8, .arr (.SDG_WR_STATUS_DROPS 0) 0x400 8,
    .arr (.SDG_WR_DROP_MANG 0) 0x400 8, .arr (.WTH_VCM_STATUS_RET_ACTIVE 0) 0x4 4, .arr (.WTH_VCM_STATUS_ENABLED 0) 0x4 4,
    .arr (.WTH_MA_CTRL_HOLD 0) 0x4 8, .arr (.WTH_MA_STATUS_VOUT 0) 0x4 8] s t)) ∧
  (∀ (s : State) (l : Nat) (regs : List Nat), s.domainOn (89 + l) = true →
    Completes (.preampDiscovery l (some regs)) s (fun t => ((t.link l).released = true ∧ (t.link l).state = 1 ∧
    (t.link l).missed = 0 ∧ (∀ i < 5, (t.link l).ident.at i = regs.getD i 0)) ∧ Frame [.links] [.fld .MBX_START_RESULT,
    .fld .MBX_START_CAUSE, .fld .MBX_START_FAILED] s t)) ∧
  (∀ (s : State) (l : Nat), s.domainOn (89 + l) = true → (s.link l).missed = 0 →
    Completes (.preampDiscovery l none) s (fun t => ((t.link l).released = true ∧ (t.link l).missed = 1 ∧
    (t.link l).state = (s.link l).state) ∧ Frame [.links] [.fld .MBX_START_RESULT, .fld .MBX_START_CAUSE,
    .fld .MBX_START_FAILED] s t)) ∧
  (∀ (s : State) (l : Nat), s.domainOn (89 + l) = true → (s.link l).missed ≠ 0 → l < 4 →
    Completes (.preampDiscovery l none) s (fun t => ((t.link l).released = true ∧ (t.link l).state = 2 ∧
    t.get .MBX_START_FAILED / 2 ^ l % 2 = 1) ∧ Frame [.links] [.fld .MBX_START_RESULT, .fld .MBX_START_CAUSE,
    .fld .MBX_START_FAILED] s t)) ∧
  (∀ (s : State), s.domainOn 93 = true → (s.link 4).missed ≠ 0 →
    Completes (.preampDiscovery 4 none) s (fun t => ((t.link 4).released = true ∧ (t.link 4).state = 2 ∧
    t.get .MBX_START_RESULT = 2) ∧ Frame [.links] [.fld .MBX_START_RESULT, .fld .MBX_START_CAUSE,
    .fld .MBX_START_FAILED] s t)) ∧
  (∀ (s : State) (l : Nat) (kill : Bool), l < 4 → Completes (.preampFault l kill) s (fun t => ((t.link l).fault = true ∧
    MireIrq.preamp l ∈ t.mireIrq ∧ (kill = true → ∀ i < 2, t.running (2 * l + i) = false)) ∧ Frame [.mireIrq, .seqs, .chans,
    .stg, .links] haltRegs s t)) ∧
  (∀ (s : State) (kill : Bool), Completes (.preampFault 4 kill) s (fun t => ((t.link 4).fault = true ∧
    MireIrq.preamp 4 ∈ t.mireIrq) ∧ Frame [.mireIrq, .seqs, .chans, .stg, .links] haltRegs s t))

/-- Completion and effects of the commands named, on the states named (after R129, R131, R140, R141, R142, R159, each in
part). -/
def Obligations.OperationsStartAndEnd : Prop :=
  (∀ (s : State) (n : Nat), n < 8 → s.gated (0x4600_1000 + 0x100 * n) = false → s.running n = false →
    Completes (.reedGo n) s (fun t => (t.get (.REED_ST_PC_PC n) = s.get (.REED_ST_CTRL_ENTRY n) ∧
    t.get (.REED_ST_STATUS_STATE n) = 1 ∧ t.get (.REED_ST_STATUS_RESTARTS n) = 0 ∧
    (t.seq n).opcode = s.get (.REED_OP_VALUE n 0) % 256 ∧ (t.seq n).stack = [] ∧ (∀ i < 8,
    t.get (.REED_ST_G_VALUE n i) = s.get (.REED_OP_VALUE n i)) ∧ (s.codeInvalid n = true → t.latched 0x0701 n = true) ∧
    t.bus = .done) ∧ Frame (alarmParts ++ ([.bus] : List Part)) (alarmRegs ++ haltRegs ++
    ([.arr (.REED_ST_CTRL_ABORT 0) 0x100 8, .arr (.REED_ST_STATUS_RESTARTS 0) 0x100 8, .arr (.REED_ST_PC_MARK_PC 0) 0x100 8,
    .arr (.REED_ST_PC_PC 0) 0x100 8, .grid (.REED_ST_G_VALUE 0 0) 0x100 8 0x4 16,
    .arr (.SDG_ST_STATUS_CODE_ERR 0) 0x400 8] : List Regs)) s t)) ∧
  (∀ (s : State) (n : Nat), s.gated (0x4600_1000 + 0x100 * n) = false → s.running n = true →
    Completes (.reedGo n) s (fun t => (t.regs = s.regs ∧ t.seqs = s.seqs ∧ t.bus = .done) ∧ Frame (alarmParts ++
    ([.bus] : List Part)) (alarmRegs ++ haltRegs ++ ([.arr (.REED_ST_CTRL_ABORT 0) 0x100 8,
    .arr (.REED_ST_STATUS_RESTARTS 0) 0x100 8, .arr (.REED_ST_PC_MARK_PC 0) 0x100 8, .arr (.REED_ST_PC_PC 0) 0x100 8,
    .grid (.REED_ST_G_VALUE 0 0) 0x100 8 0x4 16, .arr (.SDG_ST_STATUS_CODE_ERR 0) 0x400 8] : List Regs)) s t)) ∧
  (∀ (s : State) (n : Nat), n < 8 → s.gated (0x4600_1000 + 0x100 * n) = false → s.running n = true →
    Completes (.reedKill n) s (fun t => (t.get (.REED_ST_STATUS_STATE n) = 0 ∧ t.get (.REED_ST_STATUS_TERM n) = 1 ∧
    (t.seq n).wg = false ∧ (t.seq n).rg = false ∧ MireIrq.opEnd n ∈ t.mireIrq ∧ t.bus = .done) ∧ Frame [.bus, .mireIrq, .seqs,
    .chans, .stg] haltRegs s t)) ∧
  (∀ (s : State) (n : Nat), s.gated (0x4600_1000 + 0x100 * n) = false → s.running n = true →
    Completes (.reedRestart n) s (fun t => ((t.seq n).restartDue = some (match (s.seq n).restartDue with | some c => min c 3 | none => 3) ∧
    t.bus = .done) ∧ Frame [.bus, .seqs] [] s t)) ∧
  (∀ (s : State) (n : Nat) (set : Bool), s.gated (0x4600_1000 + 0x100 * n) = false →
    Completes (.reedAbort n set) s (fun t => (t.get (.REED_ST_CTRL_ABORT n) = set.toNat ∧ t.bus = .done) ∧
    Frame [.bus] [.arr (.REED_ST_CTRL_ABORT 0) 0x100 8] s t)) ∧
  (∀ (s : State) (n c : Nat), n < 8 → (s.seq n).restartDue = some c → s.domainOn (20 + n) = true → s.running n = true →
    s.get (.REED_ST_STATUS_RESTARTS n) + 1 ≤ max 1 (s.get (.REED_ST_CFG_MAX_RESTART n)) →
    Completes (.restartEvent n) s (fun t => (t.get (.REED_ST_STATUS_RESTARTS n) = s.get (.REED_ST_STATUS_RESTARTS n) + 1 ∧
    t.get (.REED_ST_PC_PC n) = s.get (.REED_ST_PC_MARK_PC n) ∧ (t.seq n).wg = false ∧ (t.seq n).rg = false ∧
    (t.seq n).restartDue = none ∧ t.running n = true) ∧ Frame [.mireIrq, .seqs, .chans, .stg] (haltRegs ++
    ([.arr (.REED_ST_STATUS_RESTARTS 0) 0x100 8, .arr (.REED_ST_STATUS_EVT_CNT 0) 0x100 8, .arr (.REED_ST_PC_PC 0) 0x100 8,
    .grid (.REED_ST_G_VALUE 0 0) 0x100 8 0x4 16] : List Regs)) s t)) ∧
  (∀ (s : State) (n c : Nat), n < 8 → (s.seq n).restartDue = some c → s.domainOn (20 + n) = true → s.running n = true →
    max 1 (s.get (.REED_ST_CFG_MAX_RESTART n)) < s.get (.REED_ST_STATUS_RESTARTS n) + 1 →
    Completes (.restartEvent n) s (fun t => (t.get (.REED_ST_STATUS_STATE n) = 0 ∧ t.get (.REED_ST_STATUS_TERM n) = 8) ∧
    Frame [.mireIrq, .seqs, .chans, .stg] (haltRegs ++ ([.arr (.REED_ST_STATUS_RESTARTS 0) 0x100 8,
    .arr (.REED_ST_STATUS_EVT_CNT 0) 0x100 8, .arr (.REED_ST_PC_PC 0) 0x100 8,
    .grid (.REED_ST_G_VALUE 0 0) 0x100 8 0x4 16] : List Regs)) s t)) ∧
  (∀ (s : State) (n a sel opd : Nat), s.microAt n 0x08 = some (a, sel, opd) → s.commitRoom n = true →
    Completes (.mark n) s (fun t => (t.get (.REED_ST_PC_MARK_PC n) = a % 2 ^ 15 ∧
    t.get (.REED_ST_PC_PC n) = (a + 1) % 2 ^ 15 ∧ t.get (.REED_ST_STATUS_STATE n) = 1 ∧ (t.seq n).marked = true ∧
    (t.seq n).sectorsCommitted = (s.seq n).sectorsDone ∧ (t.seq n).snapG = (List.range 16).map (fun i => s.greg n i)) ∧
    Frame [.seqs, .stg] [.arr (.REED_ST_STATUS_STATE 0) 0x100 8, .arr (.SLU_STG_STATUS_ACTIVE 0) 0x4 8,
    .arr (.SLU_STG_STATUS_DIR 0) 0x4 8, .arr (.SLU_STG_STATUS_RESV 0) 0x4 8, .arr (.SLU_STG_STATUS_READY 0) 0x4 8,
    .arr (.REED_ST_STATUS_RESTARTS 0) 0x100 8, .arr (.REED_ST_STATUS_EVT_CNT 0) 0x100 8, .arr (.REED_ST_PC_MARK_PC 0) 0x100 8,
    .arr (.REED_ST_PC_PC 0) 0x100 8] s t)) ∧
  (∀ (s : State) (n a sel opd : Nat), s.microAt n 0x08 = some (a, sel, opd) → s.commitRoom n = false →
    Completes (.mark n) s (fun t => ((t.seq n).stall = .room ∧ t.get (.REED_ST_STATUS_STATE n) = 2) ∧ Frame [.seqs,
    .stg] [.arr (.REED_ST_STATUS_STATE 0) 0x100 8, .arr (.SLU_STG_STATUS_ACTIVE 0) 0x4 8, .arr (.SLU_STG_STATUS_DIR 0) 0x4 8,
    .arr (.SLU_STG_STATUS_RESV 0) 0x4 8, .arr (.SLU_STG_STATUS_READY 0) 0x4 8, .arr (.REED_ST_STATUS_RESTARTS 0) 0x100 8,
    .arr (.REED_ST_STATUS_EVT_CNT 0) 0x100 8, .arr (.REED_ST_PC_MARK_PC 0) 0x100 8, .arr (.REED_ST_PC_PC 0) 0x100 8] s t)) ∧
  (∀ (s : State) (n a sel opd : Nat), n < 8 → s.microAt n 0x3F = some (a, sel, opd) → s.commitRoom n = true →
    Completes (.microEnd n) s (fun t => (t.get (.REED_ST_STATUS_RESULT n) = opd % 2 ^ 8 ∧
    t.get (.REED_ST_STATUS_STATE n) = 0 ∧ t.get (.REED_ST_STATUS_TERM n) = 0 ∧
    (t.seq n).sectorsCommitted = (s.seq n).sectorsDone ∧ MireIrq.opEnd n ∈ t.mireIrq) ∧ Frame [.mireIrq, .seqs, .chans,
    .stg] (haltRegs ++ ([.arr (.REED_ST_STATUS_RESULT 0) 0x100 8, .arr (.REED_ST_STATUS_RESTARTS 0) 0x100 8,
    .arr (.REED_ST_STATUS_EVT_CNT 0) 0x100 8] : List Regs)) s t)) ∧
  (∀ (s : State) (n a sel opd : Nat), s.microAt n 0x3F = some (a, sel, opd) → s.commitRoom n = false →
    Completes (.microEnd n) s (fun t => ((t.seq n).stall = .room ∧ t.get (.REED_ST_STATUS_STATE n) = 2) ∧ Frame [.mireIrq,
    .seqs, .chans, .stg] (haltRegs ++ ([.arr (.REED_ST_STATUS_RESULT 0) 0x100 8, .arr (.REED_ST_STATUS_RESTARTS 0) 0x100 8,
    .arr (.REED_ST_STATUS_EVT_CNT 0) 0x100 8] : List Regs)) s t)) ∧
  (∀ (s : State) (n : Nat), n < 8 → s.fetchMicro n = none → s.running n = true → s.domainOn (20 + n) = true →
    (s.seq n).restartDue = none → Completes (.illegalMicroword n) s (fun t => (t.get (.REED_ST_STATUS_STATE n) = 0 ∧
    t.get (.REED_ST_STATUS_TERM n) = 5 ∧ t.latched 0x0601 n = true) ∧ Frame alarmParts (alarmRegs ++ haltRegs) s t)) ∧
  (∀ (s : State) (n addr : Nat) (word : Word), n < 8 → s.fetchMicro n = some (addr, word) →
    microLegal (microOp word) (microSel word) (microOpd word) = false → s.running n = true → s.domainOn (20 + n) = true →
    (s.seq n).restartDue = none → Completes (.illegalMicroword n) s (fun t => (t.get (.REED_ST_STATUS_STATE n) = 0 ∧
    t.get (.REED_ST_STATUS_TERM n) = 5 ∧ t.latched 0x0601 n = true) ∧ Frame alarmParts (alarmRegs ++ haltRegs) s t))

/-- Completion and effects of the commands named, on the states named (after R130, R131, each in part). -/
def Obligations.MicrowordsWaitAndBranch : Prop :=
  (∀ (s : State) (n a sel opd : Nat), s.microAt n 0x01 = some (a, sel, opd) → (s.seq n).stall = .cond →
    (s.cond n sel != decide (2 ^ 21 ≤ opd)) = true →
    Completes (.wait n) s (fun t => (t.get (.REED_ST_PC_PC n) = (a + 1) % 2 ^ 15 ∧ t.get (.REED_ST_STATUS_STATE n) = 1 ∧
    (t.seq n).stall = .none) ∧ Frame [.seqs] [.arr (.REED_ST_STATUS_STATE 0) 0x100 8, .arr (.REED_ST_PC_PC 0) 0x100 8] s t)) ∧
  (∀ (s : State) (n a sel opd : Nat), s.microAt n 0x01 = some (a, sel, opd) → (s.seq n).stall = .cond →
    (s.cond n sel != decide (2 ^ 21 ≤ opd)) = false → Completes (.wait n) s (fun t => (t.get (.REED_ST_STATUS_STATE n) = 2 ∧
    (t.seq n).stall = .cond) ∧ Frame [.seqs] [.arr (.REED_ST_STATUS_STATE 0) 0x100 8, .arr (.REED_ST_PC_PC 0) 0x100 8] s t)) ∧
  (∀ (s : State) (n a sel opd : Nat), s.microAt n 0x01 = some (a, sel, opd) → (s.seq n).stall ≠ .cond → sel ≠ 5 →
    (s.cond n sel != decide (2 ^ 21 ≤ opd)) = true →
    Completes (.wait n) s (fun t => (t.get (.REED_ST_PC_PC n) = (a + 1) % 2 ^ 15 ∧ t.get (.REED_ST_STATUS_STATE n) = 1 ∧
    (t.seq n).stall = .none ∧ (t.seq n).sticky.timedOut = false) ∧ Frame [.seqs] [.arr (.REED_ST_STATUS_STATE 0) 0x100 8,
    .arr (.REED_ST_PC_PC 0) 0x100 8] s t)) ∧
  (∀ (s : State) (n a sel opd : Nat), s.microAt n 0x01 = some (a, sel, opd) → (s.seq n).stall ≠ .cond → sel ≠ 5 →
    (s.cond n sel != decide (2 ^ 21 ≤ opd)) = false → Completes (.wait n) s (fun t => (t.get (.REED_ST_STATUS_STATE n) = 2 ∧
    (t.seq n).stall = .cond ∧ (t.seq n).sticky.timedOut = false) ∧ Frame [.seqs] [.arr (.REED_ST_STATUS_STATE 0) 0x100 8,
    .arr (.REED_ST_PC_PC 0) 0x100 8] s t)) ∧
  (∀ (s : State) (n a sel opd : Nat), s.microAt n 0x01 = some (a, sel, opd) → (s.seq n).stall = .cond → opd % 2097152 ≠ 0 →
    Completes (.waitTimeout n) s (fun t => (t.get (.REED_ST_PC_PC n) = (a + 1) % 2 ^ 15 ∧
    t.get (.REED_ST_STATUS_STATE n) = 1 ∧ (t.seq n).stall = .none ∧ (t.seq n).sticky.timedOut = true) ∧
    Frame [.seqs] [.arr (.REED_ST_STATUS_STATE 0) 0x100 8, .arr (.REED_ST_PC_PC 0) 0x100 8] s t)) ∧
  (∀ (s : State) (n a sel opd : Nat), s.microAt n 0x01 = some (a, sel, opd) → ((s.seq n).stall ≠ .cond ∨ opd % 2097152 = 0) →
    Completes (.waitTimeout n) s (fun t => (t = s) ∧ Frame [.seqs] [.arr (.REED_ST_STATUS_STATE 0) 0x100 8,
    .arr (.REED_ST_PC_PC 0) 0x100 8] s t)) ∧
  (∀ (s : State) (n a sel opd : Nat), s.microAt n 0x02 = some (a, sel, opd) → opd ≠ 0 → (s.seq n).stall ≠ .cycles →
    Completes (.waitc n) s (fun t => ((t.seq n).stall = .cycles ∧ t.get (.REED_ST_STATUS_STATE n) = 2) ∧
    Frame [.seqs] [.arr (.REED_ST_STATUS_STATE 0) 0x100 8, .arr (.REED_ST_PC_PC 0) 0x100 8] s t)) ∧
  (∀ (s : State) (n a sel opd : Nat), s.microAt n 0x02 = some (a, sel, opd) → (opd = 0 ∨ (s.seq n).stall = .cycles) →
    Completes (.waitc n) s (fun t => (t.get (.REED_ST_PC_PC n) = (a + 1) % 2 ^ 15 ∧ t.get (.REED_ST_STATUS_STATE n) = 1 ∧
    (t.seq n).stall = .none) ∧ Frame [.seqs] [.arr (.REED_ST_STATUS_STATE 0) 0x100 8, .arr (.REED_ST_PC_PC 0) 0x100 8] s t)) ∧
  (∀ (s : State) (n a sel opd : Nat) (mang target : Word) (armed : Bool), s.microAt n 0x03 = some (a, sel, opd) →
    (s.seq n).stall = .angle target armed → angleReached mang target armed = true →
    Completes (.waita n mang) s (fun t => (t.get (.REED_ST_PC_PC n) = (a + 1) % 2 ^ 15 ∧ t.get (.REED_ST_STATUS_STATE n) = 1 ∧
    (t.seq n).stall = .none) ∧ Frame [.seqs] [.arr (.REED_ST_STATUS_STATE 0) 0x100 8, .fld ⟨0x4E000000, 0, 32⟩,
    .arr (.REED_ST_PC_PC 0) 0x100 8] s t)) ∧
  (∀ (s : State) (n a sel opd : Nat) (mang target : Word) (armed : Bool), s.microAt n 0x03 = some (a, sel, opd) →
    (s.seq n).stall = .angle target armed → angleReached mang target armed = false →
    Completes (.waita n mang) s (fun t => (t.get (.REED_ST_STATUS_STATE n) = 2 ∧
    (t.seq n).stall = .angle target (armed || ahead mang target)) ∧ Frame [.seqs] [.arr (.REED_ST_STATUS_STATE 0) 0x100 8,
    .fld ⟨0x4E000000, 0, 32⟩, .arr (.REED_ST_PC_PC 0) 0x100 8] s t)) ∧
  (∀ (s : State) (n a sel opd : Nat) (mang : Word), s.microAt n 0x03 = some (a, sel, opd) → (s.seq n).stall.atAngle = false →
    mang = (s.greg n sel + BitVec.ofNat 32 (opd % 2 ^ 21)) →
    Completes (.waita n mang) s (fun t => (t.get (.REED_ST_PC_PC n) = (a + 1) % 2 ^ 15 ∧ t.get (.REED_ST_STATUS_STATE n) = 1 ∧
    (t.seq n).stall = .none ∧ (t.seq n).sticky.late = false) ∧ Frame [.seqs] [.arr (.REED_ST_STATUS_STATE 0) 0x100 8,
    .fld ⟨0x4E000000, 0, 32⟩, .arr (.REED_ST_PC_PC 0) 0x100 8] s t)) ∧
  (∀ (s : State) (n a sel opd : Nat) (mang : Word), s.microAt n 0x03 = some (a, sel, opd) → (s.seq n).stall.atAngle = false →
    mang ≠ (s.greg n sel + BitVec.ofNat 32 (opd % 2 ^ 21)) →
    ahead mang (s.greg n sel + BitVec.ofNat 32 (opd % 2 ^ 21)) = true →
    Completes (.waita n mang) s (fun t => (t.get (.REED_ST_STATUS_STATE n) = 2 ∧
    (t.seq n).stall = .angle (s.greg n sel + BitVec.ofNat 32 (opd % 2 ^ 21)) true ∧ (t.seq n).sticky.late = false) ∧
    Frame [.seqs] [.arr (.REED_ST_STATUS_STATE 0) 0x100 8, .fld ⟨0x4E000000, 0, 32⟩, .arr (.REED_ST_PC_PC 0) 0x100 8] s t)) ∧
  (∀ (s : State) (n a sel opd : Nat) (mang : Word), s.microAt n 0x03 = some (a, sel, opd) → (s.seq n).stall.atAngle = false →
    ahead mang (s.greg n sel + BitVec.ofNat 32 (opd % 2 ^ 21)) = false → opd < 2097152 →
    Completes (.waita n mang) s (fun t => (t.get (.REED_ST_PC_PC n) = (a + 1) % 2 ^ 15 ∧ t.get (.REED_ST_STATUS_STATE n) = 1 ∧
    (t.seq n).stall = .none ∧ (t.seq n).sticky.late = true) ∧ Frame [.seqs] [.arr (.REED_ST_STATUS_STATE 0) 0x100 8,
    .fld ⟨0x4E000000, 0, 32⟩, .arr (.REED_ST_PC_PC 0) 0x100 8] s t)) ∧
  (∀ (s : State) (n a sel opd : Nat) (mang : Word), s.microAt n 0x03 = some (a, sel, opd) → (s.seq n).stall.atAngle = false →
    ahead mang (s.greg n sel + BitVec.ofNat 32 (opd % 2 ^ 21)) = false → 2097152 ≤ opd →
    Completes (.waita n mang) s (fun t => (t.get (.REED_ST_STATUS_STATE n) = 2 ∧
    (t.seq n).stall = .angle (s.greg n sel + BitVec.ofNat 32 (opd % 2 ^ 21)) false ∧ (t.seq n).sticky.late = true) ∧
    Frame [.seqs] [.arr (.REED_ST_STATUS_STATE 0) 0x100 8, .fld ⟨0x4E000000, 0, 32⟩, .arr (.REED_ST_PC_PC 0) 0x100 8] s t)) ∧
  (∀ (s : State) (n a sel opd : Nat), s.microAt n 0x10 = some (a, sel, opd) →
    Completes (.jmp n) s (fun t => (t.get (.REED_ST_PC_PC n) = opd % 2 ^ 15 ∧ t.get (.REED_ST_STATUS_STATE n) = 1) ∧
    Frame [.seqs] [.arr (.REED_ST_STATUS_STATE 0) 0x100 8, .arr (.REED_ST_PC_PC 0) 0x100 8] s t)) ∧
  (∀ (s : State) (n a sel opd : Nat), s.microAt n 0x11 = some (a, sel, opd) → (s.cond n sel != decide (2 ^ 21 ≤ opd)) = true →
    Completes (.jcc n) s (fun t => (t.get (.REED_ST_PC_PC n) = opd % 2 ^ 15 ∧ t.get (.REED_ST_STATUS_STATE n) = 1) ∧
    Frame [.seqs] [.arr (.REED_ST_STATUS_STATE 0) 0x100 8, .arr (.REED_ST_PC_PC 0) 0x100 8] s t)) ∧
  (∀ (s : State) (n a sel opd : Nat), s.microAt n 0x11 = some (a, sel, opd) →
    (s.cond n sel != decide (2 ^ 21 ≤ opd)) = false →
    Completes (.jcc n) s (fun t => (t.get (.REED_ST_PC_PC n) = (a + 1) % 2 ^ 15 ∧ t.get (.REED_ST_STATUS_STATE n) = 1) ∧
    Frame [.seqs] [.arr (.REED_ST_STATUS_STATE 0) 0x100 8, .arr (.REED_ST_PC_PC 0) 0x100 8] s t)) ∧
  (∀ (s : State) (n a sel opd : Nat), s.microAt n 0x12 = some (a, sel, opd) → (s.seq n).stack.length < 4 →
    Completes (.call n) s (fun t => (t.get (.REED_ST_PC_PC n) = opd % 2 ^ 15 ∧ t.get (.REED_ST_STATUS_STATE n) = 1 ∧
    (t.seq n).stack = (a + 1) :: (s.seq n).stack) ∧ Frame alarmParts (alarmRegs ++ haltRegs ++
    ([.arr (.REED_ST_PC_PC 0) 0x100 8] : List Regs)) s t)) ∧
  (∀ (s : State) (n a sel opd : Nat), s.microAt n 0x12 = some (a, sel, opd) → n < 8 → 4 ≤ (s.seq n).stack.length →
    Completes (.call n) s (fun t => (t.get (.REED_ST_STATUS_STATE n) = 0 ∧ t.get (.REED_ST_STATUS_TERM n) = 6 ∧
    t.latched 0x0601 n = true) ∧ Frame alarmParts (alarmRegs ++ haltRegs ++
    ([.arr (.REED_ST_PC_PC 0) 0x100 8] : List Regs)) s t)) ∧
  (∀ (s : State) (n a sel opd : Nat) (r : Nat) (rest : List Nat), s.microAt n 0x13 = some (a, sel, opd) →
    (s.seq n).stack = r :: rest → Completes (.ret n) s (fun t => (t.get (.REED_ST_PC_PC n) = r % 2 ^ 15 ∧
    t.get (.REED_ST_STATUS_STATE n) = 1 ∧ (t.seq n).stack = rest) ∧ Frame alarmParts (alarmRegs ++ haltRegs ++
    ([.arr (.REED_ST_PC_PC 0) 0x100 8] : List Regs)) s t)) ∧
  (∀ (s : State) (n a sel opd : Nat), s.microAt n 0x13 = some (a, sel, opd) → n < 8 → (s.seq n).stack = [] →
    Completes (.ret n) s (fun t => (t.get (.REED_ST_STATUS_STATE n) = 0 ∧ t.get (.REED_ST_STATUS_TERM n) = 6 ∧
    t.latched 0x0601 n = true) ∧ Frame alarmParts (alarmRegs ++ haltRegs ++
    ([.arr (.REED_ST_PC_PC 0) 0x100 8] : List Regs)) s t))

/-- Completion and effects of the commands named, on the states named (after R126, R131, R132, R143, each in part). -/
def Obligations.MicrowordsCompute : Prop :=
  (∀ (s : State) (n a sel opd : Nat), s.microAt n 0x18 = some (a, sel, opd) → opd < 2097152 →
    Completes (.ldi n) s (fun t => (t.get (.REED_ST_G_VALUE n sel) = opd ∧ t.get (.REED_ST_PC_PC n) = (a + 1) % 2 ^ 15 ∧
    t.get (.REED_ST_STATUS_STATE n) = 1) ∧ Frame [.seqs] [.arr (.REED_ST_STATUS_STATE 0) 0x100 8,
    .arr (.REED_ST_PC_PC 0) 0x100 8, .grid (.REED_ST_G_VALUE 0 0) 0x100 8 0x4 16] s t)) ∧
  (∀ (s : State) (n a sel opd : Nat), s.microAt n 0x18 = some (a, sel, opd) → 2097152 ≤ opd →
    Completes (.ldi n) s (fun t => (t.get (.REED_ST_G_VALUE n sel) = opd % 2 ^ 16 * 2 ^ 16 + s.get (.REED_ST_G_VALUE n sel) % 2 ^ 16 ∧
    t.get (.REED_ST_PC_PC n) = (a + 1) % 2 ^ 15 ∧ t.get (.REED_ST_STATUS_STATE n) = 1) ∧
    Frame [.seqs] [.arr (.REED_ST_STATUS_STATE 0) 0x100 8, .arr (.REED_ST_PC_PC 0) 0x100 8,
    .grid (.REED_ST_G_VALUE 0 0) 0x100 8 0x4 16] s t)) ∧
  (∀ (s : State) (n a sel opd : Nat), s.microAt n 0x19 = some (a, sel, opd) →
    Completes (.microAdd n) s (fun t => (t.get (.REED_ST_G_VALUE n sel) = (s.greg n sel + s.aluSource n opd).toNat ∧
    (t.seq n).sticky.eq = (s.greg n sel + s.aluSource n opd == 0) ∧
    (t.seq n).sticky.lt = (s.greg n sel + s.aluSource n opd).msb ∧ t.get (.REED_ST_PC_PC n) = (a + 1) % 2 ^ 15 ∧
    t.get (.REED_ST_STATUS_STATE n) = 1) ∧ Frame [.seqs] [.arr (.REED_ST_STATUS_STATE 0) 0x100 8,
    .arr (.REED_ST_PC_PC 0) 0x100 8, .grid (.REED_ST_G_VALUE 0 0) 0x100 8 0x4 16] s t)) ∧
  (∀ (s : State) (n a sel opd : Nat), s.microAt n 0x1A = some (a, sel, opd) →
    Completes (.microSub n) s (fun t => (t.get (.REED_ST_G_VALUE n sel) = (s.greg n sel - s.aluSource n opd).toNat ∧
    (t.seq n).sticky.eq = (s.greg n sel - s.aluSource n opd == 0) ∧
    (t.seq n).sticky.lt = (s.greg n sel - s.aluSource n opd).msb ∧ t.get (.REED_ST_PC_PC n) = (a + 1) % 2 ^ 15 ∧
    t.get (.REED_ST_STATUS_STATE n) = 1) ∧ Frame [.seqs] [.arr (.REED_ST_STATUS_STATE 0) 0x100 8,
    .arr (.REED_ST_PC_PC 0) 0x100 8, .grid (.REED_ST_G_VALUE 0 0) 0x100 8 0x4 16] s t)) ∧
  (∀ (s : State) (n a sel opd : Nat), s.microAt n 0x1B = some (a, sel, opd) →
    Completes (.microCmp n) s (fun t => (t.get (.REED_ST_G_VALUE n sel) = s.get (.REED_ST_G_VALUE n sel) ∧
    (t.seq n).sticky.eq = (s.greg n sel - s.aluSource n opd == 0) ∧
    (t.seq n).sticky.lt = (s.greg n sel - s.aluSource n opd).msb ∧ t.get (.REED_ST_PC_PC n) = (a + 1) % 2 ^ 15 ∧
    t.get (.REED_ST_STATUS_STATE n) = 1) ∧ Frame [.seqs] [.arr (.REED_ST_STATUS_STATE 0) 0x100 8,
    .arr (.REED_ST_PC_PC 0) 0x100 8] s t)) ∧
  (∀ (s : State) (n a sel opd : Nat), s.microAt n 0x20 = some (a, sel, opd) → (s.seq n).events.length < 56 →
    (s.seq n).owed = [] → Completes (.emit n) s (fun t => ((t.seq n).events = (s.seq n).events ++ [⟨sel, opd % 2 ^ 22⟩] ∧
    t.get (.REED_ST_STATUS_EVT_CNT n) = (s.seq n).events.length + 1 ∧ t.get (.REED_ST_PC_PC n) = (a + 1) % 2 ^ 15 ∧
    t.get (.REED_ST_STATUS_STATE n) = 1) ∧ Frame [.seqs] [.arr (.REED_ST_STATUS_STATE 0) 0x100 8,
    .arr (.REED_ST_STATUS_EVT_CNT 0) 0x100 8, .arr (.REED_ST_PC_PC 0) 0x100 8] s t)) ∧
  (∀ (s : State) (n a sel opd : Nat), s.microAt n 0x20 = some (a, sel, opd) → 56 ≤ (s.seq n).events.length →
    Completes (.emit n) s (fun t => ((t.seq n).events = (s.seq n).events ∧ (t.seq n).stall = .room ∧
    t.get (.REED_ST_STATUS_STATE n) = 2) ∧ Frame [.seqs] [.arr (.REED_ST_STATUS_STATE 0) 0x100 8,
    .arr (.REED_ST_STATUS_EVT_CNT 0) 0x100 8, .arr (.REED_ST_PC_PC 0) 0x100 8] s t)) ∧
  (∀ (s : State) (n a sel opd : Nat) (mang target : Word) (armed : Bool), s.microAt n 0x07 = some (a, sel, opd) →
    (s.seq n).stall = .angle target armed → angleReached mang target armed = true →
    Completes (.skipw n mang) s (fun t => (t.greg n 15 = (s.atMang mang).nextGrid n (target + BitVec.ofNat 32 (s.get .REED_WEDGE_EARLY * 4096)) ∧
    t.get (.REED_ST_PC_PC n) = (a + 1) % 2 ^ 15 ∧ t.get (.REED_ST_STATUS_STATE n) = 1) ∧ Frame [.seqs,
    .chans] [.arr (.REED_ST_STATUS_STATE 0) 0x100 8, .fld ⟨0x4E000000, 0, 32⟩, .arr (.REED_ST_PC_PC 0) 0x100 8,
    .grid (.REED_ST_G_VALUE 0 0) 0x100 8 0x4 16] s t)) ∧
  (∀ (s : State) (n a sel opd : Nat) (mang target : Word) (armed : Bool), s.microAt n 0x07 = some (a, sel, opd) →
    (s.seq n).stall = .angle target armed → angleReached mang target armed = false →
    Completes (.skipw n mang) s (fun t => (t.get (.REED_ST_STATUS_STATE n) = 2 ∧
    (t.seq n).stall = .angle target (armed || ahead mang target)) ∧ Frame [.seqs,
    .chans] [.arr (.REED_ST_STATUS_STATE 0) 0x100 8, .fld ⟨0x4E000000, 0, 32⟩, .arr (.REED_ST_PC_PC 0) 0x100 8,
    .grid (.REED_ST_G_VALUE 0 0) 0x100 8 0x4 16] s t)) ∧
  (∀ (s : State) (n a sel opd : Nat) (mang : Word), s.microAt n 0x07 = some (a, sel, opd) → (s.seq n).stall.atAngle = false →
    Completes (.skipw n mang) s (fun t => ((t.seq n).rg = false ∧ (t.seq n).vg = false ∧
    (((t.seq n).stall = .angle ((s.atMang mang).spanEnd n mang - BitVec.ofNat 32 (s.get .REED_WEDGE_EARLY * 4096)) true ∧
    t.get (.REED_ST_STATUS_STATE n) = 2) ∨ (t.greg n 15 = (s.atMang mang).nextGrid n ((s.atMang mang).spanEnd n mang) ∧
    t.get (.REED_ST_PC_PC n) = (a + 1) % 2 ^ 15 ∧ t.get (.REED_ST_STATUS_STATE n) = 1))) ∧ Frame [.seqs,
    .chans] [.arr (.REED_ST_STATUS_STATE 0) 0x100 8, .fld ⟨0x4E000000, 0, 32⟩, .arr (.REED_ST_PC_PC 0) 0x100 8,
    .grid (.REED_ST_G_VALUE 0 0) 0x100 8 0x4 16] s t))

/-- Completion and effects of the commands named, on the states named (after R126, R127, R128, R131, R133, R134, R135, R136,
R137, R139, each in part). -/
def Obligations.GatesAndTransfers : Prop :=
  (∀ (s : State) (n a sel opd : Nat) (mang : Word) (cause : Option Nat), s.microAt n 0x04 = some (a, sel, opd) →
    (s.seq n).stall = .none → s.get (.TIDE_ST_CBPC_CBPC n) ≠ 0 → sel = 0 → opd % 2 = 0 → opd / 32 % 2 = 0 →
    Completes (.gate n mang cause) s (fun t => ((t.seq n).rg = false ∧ (t.seq n).wg = (s.seq n).wg ∧
    t.get (.REED_ST_PC_PC n) = (a + 1) % 2 ^ 15 ∧ t.get (.REED_ST_STATUS_STATE n) = 1) ∧ Frame alarmParts (alarmRegs ++
    haltRegs ++ ([.fld ⟨0x4E000000, 0, 32⟩, .arr (.REED_ST_STATUS_EVT_CNT 0) 0x100 8,
    .arr (.REED_ST_PC_PC 0) 0x100 8] : List Regs)) s t)) ∧
  (∀ (s : State) (n a sel opd : Nat) (mang : Word) (cause : Option Nat), s.microAt n 0x04 = some (a, sel, opd) →
    (s.seq n).stall = .none → s.get (.TIDE_ST_CBPC_CBPC n) ≠ 0 → sel = 1 → opd % 2 = 0 → opd / 32 % 2 = 0 →
    (s.seq n).wg = true → Completes (.gate n mang cause) s (fun t => ((t.seq n).wg = false ∧ t.get (.SDG_WR_STATUS_WG n) = 0 ∧
    t.get (.SDG_WR_STATUS_CAUSE n) = 0 ∧ t.get (.REED_ST_PC_PC n) = (a + 1) % 2 ^ 15 ∧ t.get (.REED_ST_STATUS_STATE n) = 1) ∧
    Frame alarmParts (alarmRegs ++ haltRegs ++ ([.fld ⟨0x4E000000, 0, 32⟩, .arr (.REED_ST_STATUS_EVT_CNT 0) 0x100 8,
    .arr (.REED_ST_PC_PC 0) 0x100 8] : List Regs)) s t)) ∧
  (∀ (s : State) (n a sel opd : Nat) (mang : Word) (cause : Option Nat), s.microAt n 0x04 = some (a, sel, opd) →
    (s.seq n).stall = .none → s.get (.TIDE_ST_CBPC_CBPC n) ≠ 0 → sel = 2 → opd % 2 = 0 → opd / 32 % 2 = 0 →
    Completes (.gate n mang cause) s (fun t => ((t.seq n).vg = false ∧ t.get (.REED_ST_PC_PC n) = (a + 1) % 2 ^ 15 ∧
    t.get (.REED_ST_STATUS_STATE n) = 1) ∧ Frame alarmParts (alarmRegs ++ haltRegs ++ ([.fld ⟨0x4E000000, 0, 32⟩,
    .arr (.REED_ST_STATUS_EVT_CNT 0) 0x100 8, .arr (.REED_ST_PC_PC 0) 0x100 8] : List Regs)) s t)) ∧
  (∀ (s : State) (n a sel opd : Nat) (mang target : Word) (armed : Bool) (cause : Option Nat), s.microAt n 0x04 = some (a,
    sel, opd) → (s.seq n).stall = .angle target armed → angleReached mang target armed = true →
    s.get (.TIDE_ST_CBPC_CBPC n) ≠ 0 → opd % 2 = 0 → opd / 32 % 2 = 1 → Completes (.gate n mang cause) s (fun t => ((sel = 0 →
    (t.seq n).rg = false) ∧ (sel = 1 → (t.seq n).wg = false) ∧ (sel = 2 → (t.seq n).vg = false) ∧
    t.get (.REED_ST_PC_PC n) = (a + 1) % 2 ^ 15 ∧ t.get (.REED_ST_STATUS_STATE n) = 1) ∧ Frame alarmParts (alarmRegs ++
    haltRegs ++ ([.fld ⟨0x4E000000, 0, 32⟩, .arr (.REED_ST_STATUS_EVT_CNT 0) 0x100 8,
    .arr (.REED_ST_PC_PC 0) 0x100 8] : List Regs)) s t)) ∧
  (∀ (s : State) (n a sel opd : Nat) (mang : Word) (cause : Option Nat), s.microAt n 0x04 = some (a, sel, opd) →
    (s.seq n).stall = .none → s.get (.TIDE_ST_CBPC_CBPC n) ≠ 0 → sel = 2 → opd % 2 = 1 → opd / 32 % 2 = 0 →
    (s.atMang mang).inSpan n ((s.atMang mang).nextGrid n mang) = false → s.tide.overrate.at n = false →
    Completes (.gate n mang cause) s (fun t => ((t.seq n).vg = true ∧ t.get (.REED_ST_PC_PC n) = (a + 1) % 2 ^ 15 ∧
    t.get (.REED_ST_STATUS_STATE n) = 1) ∧ Frame alarmParts (alarmRegs ++ haltRegs ++ ([.fld ⟨0x4E000000, 0, 32⟩,
    .arr (.REED_ST_STATUS_EVT_CNT 0) 0x100 8, .arr (.REED_ST_PC_PC 0) 0x100 8] : List Regs)) s t)) ∧
  (∀ (s : State) (n a sel opd : Nat) (mang : Word) (cause : Option Nat), s.microAt n 0x04 = some (a, sel, opd) →
    (s.seq n).stall = .none → s.get (.TIDE_ST_CBPC_CBPC n) ≠ 0 → sel = 0 → opd % 2 = 1 → opd / 32 % 2 = 0 →
    (s.seq n).wg = false → (s.atMang mang).inSpan n ((s.atMang mang).nextGrid n mang) = false → s.tide.overrate.at n = false →
    (s.seq n).inSector = false → (s.stage n).data.length + (s.stage n).resv < stagingSectors (s.stage n).meta_ →
    Completes (.gate n mang cause) s (fun t => ((t.seq n).rg = true ∧ (t.seq n).inSector = true ∧
    (t.stage n).resv = (s.stage n).resv + 1 ∧ t.get (.REED_ST_PC_PC n) = (a + 1) % 2 ^ 15 ∧
    t.get (.REED_ST_STATUS_STATE n) = 1) ∧ Frame alarmParts (alarmRegs ++ haltRegs ++ ([.fld ⟨0x4E000000, 0, 32⟩,
    .arr (.REED_ST_STATUS_EVT_CNT 0) 0x100 8, .arr (.REED_ST_PC_PC 0) 0x100 8] : List Regs)) s t)) ∧
  (∀ (s : State) (n a sel opd : Nat) (mang : Word) (cause : Option Nat), s.microAt n 0x04 = some (a, sel, opd) →
    (s.seq n).stall = .none → s.get (.TIDE_ST_CBPC_CBPC n) ≠ 0 → sel = 0 → opd % 2 = 1 → opd / 32 % 2 = 0 →
    (s.seq n).wg = false → (s.atMang mang).inSpan n ((s.atMang mang).nextGrid n mang) = false → s.tide.overrate.at n = false →
    (s.seq n).inSector = false → stagingSectors (s.stage n).meta_ ≤ (s.stage n).data.length + (s.stage n).resv →
    Completes (.gate n mang cause) s (fun t => ((t.seq n).rg = (s.seq n).rg ∧ (t.seq n).sticky.refused = true ∧
    (t.seq n).sticky.sshort = true ∧ t.get (.REED_ST_PC_PC n) = (a + 1) % 2 ^ 15 ∧ t.get (.REED_ST_STATUS_STATE n) = 1) ∧
    Frame alarmParts (alarmRegs ++ haltRegs ++ ([.fld ⟨0x4E000000, 0, 32⟩, .arr (.REED_ST_STATUS_EVT_CNT 0) 0x100 8,
    .arr (.REED_ST_PC_PC 0) 0x100 8] : List Regs)) s t)) ∧
  (∀ (s : State) (n a sel opd : Nat) (mang target : Word) (armed : Bool), s.microAt n 0x04 = some (a, sel, opd) →
    (s.seq n).stall = .angle target armed → angleReached mang target armed = true → s.get (.TIDE_ST_CBPC_CBPC n) ≠ 0 →
    sel = 1 → opd % 2 = 1 → opd / 32 % 2 = 1 → (s.seq n).opcode ∈ [0x02, 0x03, 0x10, 0x11] → (s.seq n).rg = false →
    s.domainOn (31 + n) = true → (s.seq n).marked = true → s.tideLocked = true → s.get .TIDE_STATUS_EPOCH = (s.seq n).epoch →
    s.winh n = false → (s.atMang mang).inSpan n target = false → ((s.seq n).inSector = true ∨ s.writeShort n = false) →
    (s.seq n).vg = false → Completes (.gate n mang none) s (fun t => ((t.seq n).wg = true ∧ t.get (.SDG_WR_STATUS_WG n) = 1 ∧
    (t.seq n).inSector = true ∧ t.get (.REED_ST_PC_PC n) = (a + 1) % 2 ^ 15 ∧ t.get (.REED_ST_STATUS_STATE n) = 1) ∧
    Frame alarmParts (alarmRegs ++ haltRegs ++ ([.fld ⟨0x4E000000, 0, 32⟩, .arr (.REED_ST_STATUS_EVT_CNT 0) 0x100 8,
    .arr (.REED_ST_PC_PC 0) 0x100 8] : List Regs)) s t)) ∧
  (∀ (s : State) (n a sel opd : Nat) (mang : Word) (cause : Option Nat), s.microAt n 0x04 = some (a, sel, opd) → n < 8 →
    sel = 1 → opd % 2 = 1 → (s.seq n).opcode ∉ [0x02, 0x03, 0x10, 0x11] →
    Completes (.gate n mang cause) s (fun t => (t.get (.REED_ST_STATUS_STATE n) = 0 ∧ t.get (.REED_ST_STATUS_TERM n) = 9 ∧
    t.latched 0x0601 n = true) ∧ Frame alarmParts (alarmRegs ++ haltRegs ++ ([.fld ⟨0x4E000000, 0, 32⟩,
    .arr (.REED_ST_STATUS_EVT_CNT 0) 0x100 8, .arr (.REED_ST_PC_PC 0) 0x100 8] : List Regs)) s t)) ∧
  (∀ (s : State) (n a sel opd : Nat) (mang : Word) (cause : Option Nat), s.microAt n 0x04 = some (a, sel, opd) → n < 8 →
    sel = 1 → opd % 2 = 1 → opd / 32 % 2 = 0 → (s.seq n).opcode ∈ [0x02, 0x03, 0x10, 0x11] →
    Completes (.gate n mang cause) s (fun t => (t.get (.REED_ST_STATUS_STATE n) = 0 ∧ t.get (.REED_ST_STATUS_TERM n) = 5 ∧
    t.latched 0x0601 n = true) ∧ Frame alarmParts (alarmRegs ++ haltRegs ++ ([.fld ⟨0x4E000000, 0, 32⟩,
    .arr (.REED_ST_STATUS_EVT_CNT 0) 0x100 8, .arr (.REED_ST_PC_PC 0) 0x100 8] : List Regs)) s t)) ∧
  (∀ (s : State) (n a sel opd : Nat) (mang : Word) (cause : Option Nat), s.microAt n 0x04 = some (a, sel, opd) →
    s.get (.TIDE_ST_CBPC_CBPC n) = 0 → opd % 2 = 0 → Completes (.gate n mang cause) s (fun t => ((t.seq n).rg = (s.seq n).rg ∧
    (t.seq n).wg = (s.seq n).wg ∧ (t.seq n).stall = .clock ∧ t.get (.REED_ST_STATUS_STATE n) = 2) ∧
    Frame alarmParts (alarmRegs ++ haltRegs ++ ([.fld ⟨0x4E000000, 0, 32⟩, .arr (.REED_ST_STATUS_EVT_CNT 0) 0x100 8,
    .arr (.REED_ST_PC_PC 0) 0x100 8] : List Regs)) s t)) ∧
  (∀ (s : State) (n a sel opd : Nat) (mang : Word) (p : Preamble), s.microAt n 0x05 = some (a, sel, opd) →
    (s.seq n).stall.atSearch = false → (s.seq n).stall.atMark = false → (s.seq n).wg = false →
    Completes (.sync n mang p) s (fun t => ((t.seq n).stall = .search (s.greg n sel) (s.unitsOf n (if opd % 256 = 0 then max 1 (s.get .REED_SYNC_CFG_WIN) else opd % 256)) (opd / 512 % 2 == 1) ∧
    (t.seq n).sticky.sfound = false ∧ (t.seq n).sticky.smiss = false ∧
    (t.seq n).sticky.late = !ahead mang (s.greg n sel - BitVec.ofNat 32 (s.unitsOf n (if opd % 256 = 0 then max 1 (s.get .REED_SYNC_CFG_WIN) else opd % 256))) ∧
    t.get (.REED_ST_STATUS_STATE n) = 2) ∧ Frame [.seqs, .chans] [.arr (.REED_ST_STATUS_STATE 0) 0x100 8, .fld ⟨0x4E000000, 0,
    32⟩, .arr (.REED_ST_PC_PC 0) 0x100 8, .arr (.SDG_ST_STATUS_PHASE_LIM 0) 0x400 8,
    .arr (.SDG_ST_STATUS_ACQ_SHORT 0) 0x400 8, .arr (.SDG_FE_STATUS_TRIM 0) 0x400 8, .arr (.SDG_FE_STATUS_VGA 0) 0x400 8,
    .arr (.SDG_FE_STATUS_AMPL 0) 0x400 8] s t)) ∧
  (∀ (s : State) (n a sel opd : Nat) (mang : Word) (p : Preamble), s.microAt n 0x05 = some (a, sel, opd) →
    (s.seq n).stall.atSearch = false → (s.seq n).stall.atMark = false → (s.seq n).wg = true →
    s.get (.TIDE_ST_CBPC_CBPC n) ≠ 0 →
    Completes (.sync n mang p) s (fun t => ((t.seq n).stall = .mark (s.nextGrid n (s.greg n sel + (if opd / 256 % 2 = 1 then s.greg n 5 else s.greg n 4))) ∧
    t.get (.REED_ST_STATUS_STATE n) = 2) ∧ Frame [.seqs, .chans] [.arr (.REED_ST_STATUS_STATE 0) 0x100 8, .fld ⟨0x4E000000, 0,
    32⟩, .arr (.REED_ST_PC_PC 0) 0x100 8, .arr (.SDG_ST_STATUS_PHASE_LIM 0) 0x400 8,
    .arr (.SDG_ST_STATUS_ACQ_SHORT 0) 0x400 8, .arr (.SDG_FE_STATUS_TRIM 0) 0x400 8, .arr (.SDG_FE_STATUS_VGA 0) 0x400 8,
    .arr (.SDG_FE_STATUS_AMPL 0) 0x400 8] s t)) ∧
  (∀ (s : State) (n a sel opd : Nat) (mang : Word) (p : Preamble) (finish : Word), s.microAt n 0x05 = some (a, sel, opd) →
    (s.seq n).stall = .mark finish → ((s.seq n).wg = false ∨ mang = finish ∨ ahead mang finish = false) →
    Completes (.sync n mang p) s (fun t => (t.get (.REED_ST_PC_PC n) = (a + 1) % 2 ^ 15 ∧
    t.get (.REED_ST_STATUS_STATE n) = 1 ∧ ((s.seq n).wg = true → (t.seq n).dataAt.isSome = true) ∧ ((s.seq n).wg = false →
    (t.seq n).dataAt = none)) ∧ Frame [.seqs, .chans] [.arr (.REED_ST_STATUS_STATE 0) 0x100 8, .fld ⟨0x4E000000, 0, 32⟩,
    .arr (.REED_ST_PC_PC 0) 0x100 8, .arr (.SDG_ST_STATUS_PHASE_LIM 0) 0x400 8, .arr (.SDG_ST_STATUS_ACQ_SHORT 0) 0x400 8,
    .arr (.SDG_FE_STATUS_TRIM 0) 0x400 8, .arr (.SDG_FE_STATUS_VGA 0) 0x400 8, .arr (.SDG_FE_STATUS_AMPL 0) 0x400 8] s t)) ∧
  (∀ (s : State) (n a sel opd : Nat) (mang bits c : Word) (half : Nat) (notimed : Bool), s.microAt n 0x05 = some (a, sel,
    opd) → (s.seq n).stall = .search c half notimed → (s.seq n).rg = true →
    mismatches bits (s.markPattern n (opd / 256 % 2 == 1)) ≤ s.get (.SDG_SM_CFG_TOL n) → (mang - c).toInt.natAbs ≤ half →
    Completes (.markDetected n mang bits) s (fun t => ((t.seq n).sticky.sfound = true ∧
    t.get (.REED_ST_SYNCOFS_OFS n) = ((if (mang - c).toInt < 0 then -(s.nearestBits n (mang - c).toInt.natAbs : Int) else s.nearestBits n (mang - c).toInt.natAbs) % 2 ^ (Fld.REED_ST_SYNCOFS_OFS n).width).toNat ∧
    t.get (.REED_ST_SYNCOFS_TIMED n) = 0 ∧
    (t.seq n).dataAt = some (s.nextGrid n (if (s.chan n).forceTimed = true then c else mang)) ∧
    t.get (.REED_ST_PC_PC n) = (a + 1) % 2 ^ 15 ∧ t.get (.REED_ST_STATUS_STATE n) = 1) ∧
    Frame [.seqs] [.arr (.REED_ST_STATUS_STATE 0) 0x100 8, .fld ⟨0x4E000000, 0, 32⟩, .arr (.REED_ST_PC_PC 0) 0x100 8,
    .arr (.REED_ST_SYNCOFS_TIMED 0) 0x100 8, .arr (.REED_ST_SYNCOFS_OFS 0) 0x100 8] s t)) ∧
  (∀ (s : State) (n a sel opd : Nat) (mang bits c : Word) (half : Nat) (notimed : Bool), s.microAt n 0x05 = some (a, sel,
    opd) → (s.seq n).stall = .search c half notimed →
    s.get (.SDG_SM_CFG_TOL n) < mismatches bits (s.markPattern n (opd / 256 % 2 == 1)) →
    Completes (.markDetected n mang bits) s (fun t => (t = s) ∧ Frame [.seqs] [.arr (.REED_ST_STATUS_STATE 0) 0x100 8,
    .fld ⟨0x4E000000, 0, 32⟩, .arr (.REED_ST_PC_PC 0) 0x100 8, .arr (.REED_ST_SYNCOFS_TIMED 0) 0x100 8,
    .arr (.REED_ST_SYNCOFS_OFS 0) 0x100 8] s t)) ∧
  (∀ (s : State) (n a sel opd : Nat) (c mang : Word) (half : Nat), s.microAt n 0x05 = some (a, sel, opd) →
    (s.seq n).stall = .search c half true →
    (mang = c + BitVec.ofNat 32 half ∨ ahead mang (c + BitVec.ofNat 32 half) = false) →
    Completes (.syncWindowClose n mang) s (fun t => ((t.seq n).sticky.smiss = true ∧ (t.seq n).sticky.tsync = false ∧
    t.get (.REED_ST_SYNCOFS_TIMED n) = 0 ∧ (t.seq n).noData = true ∧ t.get (.REED_ST_PC_PC n) = (a + 1) % 2 ^ 15 ∧
    t.get (.REED_ST_STATUS_STATE n) = 1) ∧ Frame [.seqs] [.arr (.REED_ST_STATUS_STATE 0) 0x100 8, .fld ⟨0x4E000000, 0, 32⟩,
    .arr (.REED_ST_PC_PC 0) 0x100 8, .arr (.REED_ST_SYNCOFS_TIMED 0) 0x100 8, .arr (.REED_ST_SYNCOFS_OFS 0) 0x100 8] s t)) ∧
  (∀ (s : State) (n a sel opd : Nat) (c mang : Word) (half : Nat), s.microAt n 0x05 = some (a, sel, opd) →
    (s.seq n).stall = .search c half false →
    (mang = c + BitVec.ofNat 32 half ∨ ahead mang (c + BitVec.ofNat 32 half) = false) →
    Completes (.syncWindowClose n mang) s (fun t => ((t.seq n).sticky.smiss = true ∧ (t.seq n).sticky.tsync = true ∧
    t.get (.REED_ST_SYNCOFS_TIMED n) = 1 ∧ t.get (.REED_ST_SYNCOFS_OFS n) = 0 ∧ (t.seq n).dataAt = some (s.nextGrid n c) ∧
    t.get (.REED_ST_PC_PC n) = (a + 1) % 2 ^ 15 ∧ t.get (.REED_ST_STATUS_STATE n) = 1) ∧
    Frame [.seqs] [.arr (.REED_ST_STATUS_STATE 0) 0x100 8, .fld ⟨0x4E000000, 0, 32⟩, .arr (.REED_ST_PC_PC 0) 0x100 8,
    .arr (.REED_ST_SYNCOFS_TIMED 0) 0x100 8, .arr (.REED_ST_SYNCOFS_OFS 0) 0x100 8] s t)) ∧
  (∀ (s : State) (n a sel opd : Nat) (mang : Word) (raw : List Sample), s.microAt n 0x06 = some (a, sel, opd) →
    (s.seq n).stall ≠ .transfer → s.get (.TIDE_ST_CBPC_CBPC n) ≠ 0 → (s.seq n).noData = false →
    Completes (.xfer n mang raw) s (fun t => ((t.seq n).stall = .transfer ∧
    (t.seq n).dataAt = some ((s.seq n).dataAt.getD (s.nextGrid n mang)) ∧ t.get (.REED_ST_STATUS_STATE n) = 2) ∧
    Frame alarmParts (alarmRegs ++ haltRegs ++ ([.fld ⟨0x4E000000, 0, 32⟩, .arr (.REED_ST_STATUS_EVT_CNT 0) 0x100 8,
    .arr (.REED_ST_PC_PC 0) 0x100 8, .grid (.REED_ST_G_VALUE 0 0) 0x100 8 0x4 16, .arr (.SDG_ST_STATUS_PHASE_LIM 0) 0x400 8,
    .arr (.SDG_FE_STATUS_TRIM 0) 0x400 8] : List Regs)) s t)) ∧
  (∀ (s : State) (n a sel opd : Nat) (mang : Word) (raw : List Sample) (start : Word), s.microAt n 0x06 = some (a, sel, opd) →
    (s.seq n).stall = .transfer → s.get (.TIDE_ST_CBPC_CBPC n) ≠ 0 → (s.seq n).noData = false →
    (s.seq n).dataAt = some start → opd / 2 ^ 18 % 16 ≠ 15 →
    (s.atMang mang).xferCount n opd ≤ (s.atMang mang).bitsToSpan n start →
    Completes (.xfer n mang raw) s (fun t => (t.get (.REED_ST_G_VALUE n (opd / 2 ^ 18 % 16)) = 0 ∧
    (t.seq n).sticky.xdone = true ∧
    t.greg n 15 = (s.atMang mang).boundary n ((s.atMang mang).bitIndex n start + (s.atMang mang).xferCount n opd) ∧
    (sel / 2 % 2 = 1 → (t.seq n).sectorsDone = (s.seq n).sectorsDone + 1) ∧ t.get (.REED_ST_PC_PC n) = (a + 1) % 2 ^ 15 ∧
    t.get (.REED_ST_STATUS_STATE n) = 1) ∧ Frame alarmParts (alarmRegs ++ haltRegs ++ ([.fld ⟨0x4E000000, 0, 32⟩,
    .arr (.REED_ST_STATUS_EVT_CNT 0) 0x100 8, .arr (.REED_ST_PC_PC 0) 0x100 8, .grid (.REED_ST_G_VALUE 0 0) 0x100 8 0x4 16,
    .arr (.SDG_ST_STATUS_PHASE_LIM 0) 0x400 8, .arr (.SDG_FE_STATUS_TRIM 0) 0x400 8] : List Regs)) s t)) ∧
  (∀ (s : State) (n a sel opd : Nat) (mang : Word) (raw : List Sample) (start : Word), s.microAt n 0x06 = some (a, sel, opd) →
    (s.seq n).stall = .transfer → s.get (.TIDE_ST_CBPC_CBPC n) ≠ 0 → (s.seq n).noData = false →
    (s.seq n).dataAt = some start → opd / 2 ^ 18 % 16 ≠ 15 →
    (s.atMang mang).bitsToSpan n start < (s.atMang mang).xferCount n opd →
    Completes (.xfer n mang raw) s (fun t => (t.greg n (opd / 2 ^ 18 % 16) = BitVec.ofNat 32 ((s.atMang mang).xferCount n opd - (s.atMang mang).bitsToSpan n start) ∧
    (t.seq n).sticky.xdone = false ∧ (t.seq n).rg = false ∧ (t.seq n).wg = false ∧
    (t.seq n).sectorsDone = (s.seq n).sectorsDone) ∧ Frame alarmParts (alarmRegs ++ haltRegs ++ ([.fld ⟨0x4E000000, 0, 32⟩,
    .arr (.REED_ST_STATUS_EVT_CNT 0) 0x100 8, .arr (.REED_ST_PC_PC 0) 0x100 8, .grid (.REED_ST_G_VALUE 0 0) 0x100 8 0x4 16,
    .arr (.SDG_ST_STATUS_PHASE_LIM 0) 0x400 8, .arr (.SDG_FE_STATUS_TRIM 0) 0x400 8] : List Regs)) s t)) ∧
  (∀ (s : State) (n a sel opd : Nat) (mang : Word) (raw : List Sample), s.microAt n 0x06 = some (a, sel, opd) → n < 8 →
    (s.seq n).noData = true → Completes (.xfer n mang raw) s (fun t => (t.get (.REED_ST_STATUS_STATE n) = 0 ∧
    t.get (.REED_ST_STATUS_TERM n) = 5 ∧ t.latched 0x0601 n = true) ∧ Frame alarmParts (alarmRegs ++ haltRegs ++
    ([.fld ⟨0x4E000000, 0, 32⟩, .arr (.REED_ST_STATUS_EVT_CNT 0) 0x100 8, .arr (.REED_ST_PC_PC 0) 0x100 8,
    .grid (.REED_ST_G_VALUE 0 0) 0x100 8 0x4 16, .arr (.SDG_ST_STATUS_PHASE_LIM 0) 0x400 8,
    .arr (.SDG_FE_STATUS_TRIM 0) 0x400 8] : List Regs)) s t)) ∧
  (∀ (s : State) (n : Nat) (mang : Word) (raw : List Sample), s.inSpan n mang = true →
    Completes (.protectedSpanStart n mang raw) s (fun t => ((t.seq n).rg = false ∧ (t.seq n).wg = false ∧
    (t.seq n).vg = false) ∧ Frame [.mireIrq, .seqs, .chans] (([.arr (.REED_ST_STATUS_STATE 0) 0x100 8,
    .fld .SDG_STATUS_RES_IRQ, .fld .SDG_STATUS_PENDING, .arr (.SDG_ST_STATUS_RES_OVF 0) 0x400 8,
    .arr (.SDG_ST_STATUS_RES_CNT 0) 0x400 8, .arr (.SDG_ST_STATUS_PARK_USED 0) 0x400 8,
    .arr (.SDG_ST_STATUS_PENDING_CNT 0) 0x400 8, .arr (.SDG_FE_STATUS_TA_ACTIVE 0) 0x400 8,
    .arr (.SDG_FE_STATUS_DO_ACTIVE 0) 0x400 8, .fld .SDG_WF_STATUS_CAUSE_SEEN, .arr (.SDG_WR_STATUS_WG 0) 0x400 8,
    .arr (.SDG_WR_STATUS_CAUSE 0) 0x400 8] : List Regs) ++ ([.arr (.SDG_WR_STATUS_DROPS 0) 0x400 8,
    .arr (.SDG_WR_DROP_MANG 0) 0x400 8, .fld ⟨0x4E000000, 0, 32⟩, .arr (.REED_ST_STATUS_EVT_CNT 0) 0x100 8,
    .arr (.REED_ST_PC_PC 0) 0x100 8, .grid (.REED_ST_G_VALUE 0 0) 0x100 8 0x4 16, .arr (.SDG_ST_STATUS_PHASE_LIM 0) 0x400 8,
    .arr (.SDG_FE_STATUS_TRIM 0) 0x400 8] : List Regs)) s t))

/-- Completion and effects of the commands named, on the states named (after R14, R143, R145, each in part). -/
def Obligations.ControlStoresAndEvents : Prop :=
  (∀ (s : State) (word : Word), s.gated 0x4600_0008 = false → s.get .REED_CS_CTRL_ADDR < 0x4800 →
    s.storesIdle (s.get .REED_CS_CTRL_SEQ_MASK) = true → Completes (.csWrite word) s (fun t => ((∀ n < 8,
    (t.seq n).store.at (s.get .REED_CS_CTRL_ADDR) = (if s.get .REED_CS_CTRL_SEQ_MASK / 2 ^ n % 2 = 1 then word else (s.seq n).store.at (s.get .REED_CS_CTRL_ADDR))) ∧
    t.get .REED_CS_CTRL_ADDR = (s.get .REED_CS_CTRL_ADDR + 1) % 2 ^ 15 ∧ t.bus = .done) ∧ Frame [.bus,
    .seqs] [.fld .REED_CS_CTRL_ERR, .fld .REED_CS_CTRL_ADDR] s t)) ∧
  (∀ (s : State) (word : Word), s.gated 0x4600_0008 = false → s.storesIdle (s.get .REED_CS_CTRL_SEQ_MASK) = false →
    Completes (.csWrite word) s (fun t => (t.seqs = s.seqs ∧ t.get .REED_CS_CTRL_ERR = 1 ∧
    t.get .REED_CS_CTRL_ADDR = s.get .REED_CS_CTRL_ADDR ∧ t.bus = .done) ∧ Frame [.bus, .seqs] [.fld .REED_CS_CTRL_ERR,
    .fld .REED_CS_CTRL_ADDR] s t)) ∧
  (∀ (s : State) (n : Nat), s.gated 0x4600_0008 = false →
    (List.range 8).find? (fun i => s.get .REED_CS_CTRL_SEQ_MASK / 2 ^ i % 2 == 1) = some n →
    Completes (.csRead .mire) s (fun t => (t.bus = .value ((s.seq n).store.at (s.get .REED_CS_CTRL_ADDR)).toNat ∧
    t.get .REED_CS_CTRL_ADDR = (s.get .REED_CS_CTRL_ADDR + 1) % 2 ^ 15) ∧ Frame (alarmParts ++
    ([.bus] : List Part)) (alarmRegs ++ haltRegs ++ ([.fld .REED_CS_CTRL_ADDR] : List Regs)) s t)) ∧
  (∀ (s : State) (core : Nat), core < 8 → Completes (.csRead (.fen core)) s (fun t => (t.bus = .busError ∧
    t.latched 0x0101 core = true) ∧ Frame (alarmParts ++ ([.bus] : List Part)) (alarmRegs ++ haltRegs ++
    ([.fld .REED_CS_CTRL_ADDR] : List Regs)) s t)) ∧
  (∀ (s : State) (n : Nat) (ev : ReedEvent) (rest : List ReedEvent), n < 8 → s.gated (0x4600_1010 + 0x100 * n) = false →
    (s.seq n).events = ev :: rest →
    Completes (.reedEventRead .mire n) s (fun t => (t.bus = .value (2 ^ 31 + ev.kind * 2 ^ 24 + ev.data) ∧
    (t.seq n).events = rest ++ (s.seq n).owed.take 1 ∧ (t.seq n).owed = (s.seq n).owed.drop 1) ∧ Frame (alarmParts ++
    ([.bus] : List Part)) (alarmRegs ++ haltRegs ++ ([.arr (.REED_ST_STATUS_EVT_CNT 0) 0x100 8] : List Regs)) s t)) ∧
  (∀ (s : State) (n : Nat), n < 8 → s.gated (0x4600_1010 + 0x100 * n) = false → (s.seq n).events = [] →
    Completes (.reedEventRead .mire n) s (fun t => (t.bus = .value 0 ∧ t.seqs = s.seqs) ∧ Frame (alarmParts ++
    ([.bus] : List Part)) (alarmRegs ++ haltRegs ++ ([.arr (.REED_ST_STATUS_EVT_CNT 0) 0x100 8] : List Regs)) s t)) ∧
  (∀ (s : State) (core : Nat) (n : Nat), core < 8 → n < 8 →
    Completes (.reedEventRead (.fen core) n) s (fun t => (t.bus = .busError ∧ t.latched 0x0101 core = true) ∧
    Frame (alarmParts ++ ([.bus] : List Part)) (alarmRegs ++ haltRegs ++
    ([.arr (.REED_ST_STATUS_EVT_CNT 0) 0x100 8] : List Regs)) s t))

/-- Completion and effects of the commands named, on the states named (after R160, R162, R164, R165, R168, R176, R177, R197,
R198, each in part). -/
def Obligations.SectorsAreDecoded : Prop :=
  (∀ (s : State) (n : Nat) (x : Samples) (rest : List Samples), (s.chan n).waiting = x :: rest →
    (s.chan n).results.length < 64 → s.domainOn (69 + n) = true → (s.chan n).codeBad = false →
    ((s.chan n).mode ≠ 3 ∨ (s.chan n).step ≠ 2) → Completes (.sectorDecode n) s (fun t => ((t.chan n).waiting = rest ∧
    (s.verdict n x.index (s.decodeOf n (s.chan n).weightSet (s.chan n).iterLimit ((s.chan n).mode == 3) x) = .good →
    (t.chan n).results = (s.chan n).results ++
    [(s.chan n).resultOf x 0 0 (s.decodeOf n (s.chan n).weightSet (s.chan n).iterLimit ((s.chan n).mode == 3) x).iterations]) ∧
    (s.verdict n x.index (s.decodeOf n (s.chan n).weightSet (s.chan n).iterLimit ((s.chan n).mode == 3) x) = .marked →
    (t.chan n).results = (s.chan n).results ++
    [(s.chan n).resultOf x 4 0 (s.decodeOf n (s.chan n).weightSet (s.chan n).iterLimit ((s.chan n).mode == 3) x).iterations]) ∧
    (s.verdict n x.index (s.decodeOf n (s.chan n).weightSet (s.chan n).iterLimit ((s.chan n).mode == 3) x) = .badSeal →
    (s.chan n).retriable x = false → (t.chan n).results = (s.chan n).results ++
    [(s.chan n).resultOf x 3 0 (s.decodeOf n (s.chan n).weightSet (s.chan n).iterLimit ((s.chan n).mode == 3) x).iterations]) ∧
    (s.verdict n x.index (s.decodeOf n (s.chan n).weightSet (s.chan n).iterLimit ((s.chan n).mode == 3) x) = .failed →
    (s.chan n).retriable x = false → (t.chan n).results = (s.chan n).results ++
    [(s.chan n).resultOf x 2 0 (s.decodeOf n (s.chan n).weightSet (s.chan n).iterLimit ((s.chan n).mode == 3) x).iterations]) ∧
    (∀ i,
    (s.verdict n x.index (s.decodeOf n (s.chan n).weightSet (s.chan n).iterLimit ((s.chan n).mode == 3) x) = .badSeal ∨ s.verdict n x.index (s.decodeOf n (s.chan n).weightSet (s.chan n).iterLimit ((s.chan n).mode == 3) x) = .failed) →
    (s.chan n).retriable x = true → (s.chan n).freePark = some i →
    (t.chan n).park.at i = .held x 0 (decide (s.verdict n x.index (s.decodeOf n (s.chan n).weightSet (s.chan n).iterLimit ((s.chan n).mode == 3) x) = .badSeal)) ∧
    (t.chan n).results = (s.chan n).results)) ∧ Frame [.drawn, .mireIrq, .chans, .stg] [.fld .SDG_STATUS_RES_IRQ,
    .fld .SDG_STATUS_PENDING, .arr (.SDG_ST_STATUS_RES_OVF 0) 0x400 8, .arr (.SDG_ST_STATUS_RES_CNT 0) 0x400 8,
    .arr (.SDG_ST_STATUS_PARK_USED 0) 0x400 8, .arr (.SDG_ST_STATUS_PENDING_CNT 0) 0x400 8,
    .arr (.SLU_STG_STATUS_ACTIVE 0) 0x4 8, .arr (.SLU_STG_STATUS_DIR 0) 0x4 8, .arr (.SLU_STG_STATUS_RESV 0) 0x4 8,
    .arr (.SLU_STG_STATUS_READY 0) 0x4 8] s t)) ∧
  (∀ (s : State) (n : Nat) (x : Samples) (rest : List Samples), (s.chan n).waiting = x :: rest →
    (s.chan n).results.length < 64 → s.domainOn (69 + n) = true → (s.chan n).codeBad = true →
    Completes (.sectorDecode n) s (fun t => ((t.chan n).waiting = rest ∧ (t.chan n).results = (s.chan n).results ++
    [(s.chan n).resultOf x 8 0 0]) ∧ Frame [.drawn, .mireIrq, .chans, .stg] [.fld .SDG_STATUS_RES_IRQ,
    .fld .SDG_STATUS_PENDING, .arr (.SDG_ST_STATUS_RES_OVF 0) 0x400 8, .arr (.SDG_ST_STATUS_RES_CNT 0) 0x400 8,
    .arr (.SDG_ST_STATUS_PARK_USED 0) 0x400 8, .arr (.SDG_ST_STATUS_PENDING_CNT 0) 0x400 8,
    .arr (.SLU_STG_STATUS_ACTIVE 0) 0x4 8, .arr (.SLU_STG_STATUS_DIR 0) 0x4 8, .arr (.SLU_STG_STATUS_RESV 0) 0x4 8,
    .arr (.SLU_STG_STATUS_READY 0) 0x4 8] s t)) ∧
  (∀ (s : State) (n : Nat) (x : Samples) (rest : List Samples), (s.chan n).waiting = x :: rest →
    (s.chan n).results.length < 64 → s.domainOn (69 + n) = true → (s.chan n).codeBad = false → (s.chan n).mode = 3 →
    (s.chan n).step = 2 → ((s.chan n).comb = false ∨ (s.chan n).sumReads = 0) →
    Completes (.sectorDecode n) s (fun t => ((t.chan n).waiting = rest ∧ (t.chan n).sumReads = 1 ∧
    (t.chan n).sum.raw = x.raw ∧ (t.chan n).results = (s.chan n).results ++ [(s.chan n).resultOf x 2 0 0]) ∧ Frame [.drawn,
    .mireIrq, .chans, .stg] [.fld .SDG_STATUS_RES_IRQ, .fld .SDG_STATUS_PENDING, .arr (.SDG_ST_STATUS_RES_OVF 0) 0x400 8,
    .arr (.SDG_ST_STATUS_RES_CNT 0) 0x400 8, .arr (.SDG_ST_STATUS_PARK_USED 0) 0x400 8,
    .arr (.SDG_ST_STATUS_PENDING_CNT 0) 0x400 8, .arr (.SLU_STG_STATUS_ACTIVE 0) 0x4 8, .arr (.SLU_STG_STATUS_DIR 0) 0x4 8,
    .arr (.SLU_STG_STATUS_RESV 0) 0x4 8, .arr (.SLU_STG_STATUS_READY 0) 0x4 8] s t)) ∧
  (∀ (s : State) (n : Nat) (x : Samples) (rest : List Samples), (s.chan n).waiting = x :: rest →
    (s.chan n).results.length < 64 → s.domainOn (69 + n) = true → (s.chan n).codeBad = false → (s.chan n).mode = 3 →
    (s.chan n).step = 2 → (s.chan n).comb = true → (s.chan n).sumReads ≠ 0 →
    Completes (.sectorDecode n) s (fun t => ((t.chan n).waiting = rest ∧ (t.chan n).sumReads = (s.chan n).sumReads + 1 ∧
    (t.chan n).sum.raw = (s.chan n).sum.raw.zipWith (fun a b => ⟨a.a + b.a, a.b + b.b, a.c + b.c⟩) x.raw) ∧ Frame [.drawn,
    .mireIrq, .chans, .stg] [.fld .SDG_STATUS_RES_IRQ, .fld .SDG_STATUS_PENDING, .arr (.SDG_ST_STATUS_RES_OVF 0) 0x400 8,
    .arr (.SDG_ST_STATUS_RES_CNT 0) 0x400 8, .arr (.SDG_ST_STATUS_PARK_USED 0) 0x400 8,
    .arr (.SDG_ST_STATUS_PENDING_CNT 0) 0x400 8, .arr (.SLU_STG_STATUS_ACTIVE 0) 0x4 8, .arr (.SLU_STG_STATUS_DIR 0) 0x4 8,
    .arr (.SLU_STG_STATUS_RESV 0) 0x4 8, .arr (.SLU_STG_STATUS_READY 0) 0x4 8] s t)) ∧
  (∀ (s : State) (n slot tries : Nat) (x : Samples) (bad : Bool) (before after : List Sample),
    (s.chan n).park.at slot = .held x tries bad → (s.chan n).waiting = [] → (s.chan n).results.length < 64 →
    s.domainOn (69 + n) = true → Completes (.alignRetry n slot before after) s (fun t => ((t.chan n).park.at slot = .free ∧
    (∀ a y d, (s.retryLoop n x before after (alternates x) 0).1 = some (a, y, d, true) →
    (t.chan n).results = (s.chan n).results ++ [(s.chan n).resultOf y 1 a d.iterations]) ∧ (∀ a y d,
    (s.retryLoop n x before after (alternates x) 0).1 = some (a, y, d, false) → (t.chan n).results = (s.chan n).results ++
    [(s.chan n).resultOf x 4 a d.iterations]) ∧ ((s.retryLoop n x before after (alternates x) 0).1 = none →
    (t.chan n).results = (s.chan n).results ++ [(s.chan n).resultOf x 5 0 24])) ∧ Frame [.drawn, .mireIrq, .chans,
    .stg] [.fld .SDG_STATUS_RES_IRQ, .fld .SDG_STATUS_PENDING, .arr (.SDG_ST_STATUS_RES_OVF 0) 0x400 8,
    .arr (.SDG_ST_STATUS_RES_CNT 0) 0x400 8, .arr (.SDG_ST_STATUS_PARK_USED 0) 0x400 8,
    .arr (.SDG_ST_STATUS_PENDING_CNT 0) 0x400 8, .arr (.SLU_STG_STATUS_ACTIVE 0) 0x4 8, .arr (.SLU_STG_STATUS_DIR 0) 0x4 8,
    .arr (.SLU_STG_STATUS_RESV 0) 0x4 8, .arr (.SLU_STG_STATUS_READY 0) 0x4 8] s t)) ∧
  (∀ (s : State) (n : Nat), n < 8 → 2 ≤ (s.chan n).waiting.length → (s.seq n).inSector = true → (s.seq n).reads = true →
    (s.seq n).judged = false → (s.chan n).cur = none → (s.chan n).results.length < 72 →
    Completes (.sectorOverrun n) s (fun t => ((t.chan n).results = (s.chan n).results ++
    [(s.chan n).resultOf { number := (s.seq n).sectorsDone, index := (s.greg n 7).toNat % 2 ^ 16 } 7 0 0] ∧
    (t.seq n).judged = true) ∧ Frame alarmParts (alarmRegs ++ haltRegs) s t)) ∧
  (∀ (s : State) (n : Nat), n < 8 → 2 ≤ (s.chan n).waiting.length → (s.seq n).inSector = true → (s.seq n).reads = true →
    (s.seq n).judged = false → (s.chan n).cur = none → 72 ≤ (s.chan n).results.length →
    Completes (.sectorOverrun n) s (fun t => ((t.chan n).results = (s.chan n).results ∧ t.get (.SDG_ST_STATUS_RES_OVF n) = 1 ∧
    t.latched 0x0702 n = true ∧ (t.seq n).judged = true) ∧ Frame alarmParts (alarmRegs ++ haltRegs) s t)) ∧
  (∀ (s : State) (n : Nat) (r : SectorResult) (rest : List SectorResult), n < 8 → s.gated (0x4700_1050 + 0x400 * n) = false →
    (s.chan n).results = r :: rest →
    Completes (.resultRead .mire n) s (fun t => (t.bus = .value (2 ^ 31 + r.outcome * 2 ^ 27 + (r.align % 8).toNat * 2 ^ 24 + r.iter % 32 * 2 ^ 16 + r.index % 2 ^ 16) ∧
    (t.chan n).results = rest ∧ (t.chan n).taken = (s.chan n).taken ++ [r] ∧
    t.get (.SDG_RESULT_X_ERASED n) = r.erased % 2 ^ 12) ∧ Frame (alarmParts ++ ([.bus] : List Part)) (alarmRegs ++ haltRegs ++
    ([.arr (.SDG_RESULT_X_ERASED 0) 0x400 8, .arr (.SDG_RESULT_X_TIMED 0) 0x400 8, .arr (.SDG_RESULT_X_STEP 0) 0x400 8,
    .arr (.SDG_RESULT_X_OFS 0) 0x400 8] : List Regs)) s t)) ∧
  (∀ (s : State) (n : Nat), n < 8 → s.gated (0x4700_1050 + 0x400 * n) = false → (s.chan n).results = [] →
    Completes (.resultRead .mire n) s (fun t => (t.bus = .value 0 ∧ (t.chan n).taken = (s.chan n).taken) ∧
    Frame (alarmParts ++ ([.bus] : List Part)) (alarmRegs ++ haltRegs ++ ([.arr (.SDG_RESULT_X_ERASED 0) 0x400 8,
    .arr (.SDG_RESULT_X_TIMED 0) 0x400 8, .arr (.SDG_RESULT_X_STEP 0) 0x400 8,
    .arr (.SDG_RESULT_X_OFS 0) 0x400 8] : List Regs)) s t)) ∧
  (∀ (s : State) (core : Nat) (n : Nat), core < 8 → n < 8 →
    Completes (.resultRead (.fen core) n) s (fun t => (t.bus = .busError ∧ t.latched 0x0101 core = true) ∧
    Frame (alarmParts ++ ([.bus] : List Part)) (alarmRegs ++ haltRegs ++ ([.arr (.SDG_RESULT_X_ERASED 0) 0x400 8,
    .arr (.SDG_RESULT_X_TIMED 0) 0x400 8, .arr (.SDG_RESULT_X_STEP 0) 0x400 8,
    .arr (.SDG_RESULT_X_OFS 0) 0x400 8] : List Regs)) s t)) ∧
  (∀ (s : State) (n : Nat) (c : Check), s.domainOn (77 + n) = true →
    Completes (.verifyOutcome n c) s (fun t => ((t.chan n).vfy = postVfy (fun e => { e with posted := true, outcome := s.checkOutcome n c e, errs := min 4095 (vfyErrors (s.get (.SDG_VFY_CFG_DLY n)) (s.vfySeen n c) e), frags := [] }) (s.chan n).vfy) ∧
    Frame [.chans] [] s t)) ∧
  (∀ (s : State) (n : Nat) (ent : VfyEntry) (rest : List VfyEntry), n < 8 → s.gated (0x4700_1070 + 0x400 * n) = false →
    (s.chan n).vfy = ent :: rest → ent.posted = true →
    Completes (.vfyResultRead .mire n) s (fun t => (t.bus = .value (2 ^ 31 + ent.outcome * 2 ^ 28 + ent.errs % 2 ^ 12 * 2 ^ 16 + ent.index % 2 ^ 16) ∧
    (t.chan n).vfy = rest ∧ (t.chan n).vfyTaken = (s.chan n).vfyTaken ++ [ent]) ∧ Frame (alarmParts ++
    ([.bus] : List Part)) (alarmRegs ++ haltRegs) s t)) ∧
  (∀ (s : State) (n : Nat), n < 8 → s.gated (0x4700_1070 + 0x400 * n) = false →
    (s.chan n).vfy.head?.all (fun ent => !ent.posted) = true →
    Completes (.vfyResultRead .mire n) s (fun t => (t.bus = .value 0 ∧ (t.chan n).vfy = (s.chan n).vfy) ∧ Frame (alarmParts ++
    ([.bus] : List Part)) (alarmRegs ++ haltRegs) s t)) ∧
  (∀ (s : State) (core : Nat) (n : Nat), core < 8 → n < 8 →
    Completes (.vfyResultRead (.fen core) n) s (fun t => (t.bus = .busError ∧ t.latched 0x0101 core = true) ∧
    Frame (alarmParts ++ ([.bus] : List Part)) (alarmRegs ++ haltRegs) s t))

/-- Completion and effects of the commands named, on the states named (after R14, R157, R163, R178, R180, each in part). -/
def Obligations.ChannelDefectsAndSettings : Prop :=
  (∀ (s : State) (n bit level run : Nat), n < 8 → (s.seq n).rg = true → s.domainOn (61 + n) = true →
    (s.chan n).taFrom = none → s.get (.SDG_DEF_TA_THR n) * s.get (.SDG_FE_CFG_AGC_TGT n) < level →
    s.get (.SDG_DEF_TA_LEN n) ≤ run →
    Completes (.thermalAsperity n false bit level run) s (fun t => (t.get (.SDG_FE_STATUS_TA_ACTIVE n) = 1 ∧
    (t.chan n).taFrom = some bit ∧ (t.chan n).corner16 = true ∧ (t.chan n).corner16To = none) ∧
    Frame [.chans] [.arr (.SDG_FE_STATUS_TA_ACTIVE 0) 0x400 8] s t)) ∧
  (∀ (s : State) (n bit level run start : Nat), n < 8 → (s.seq n).rg = true → s.domainOn (61 + n) = true →
    (s.chan n).taFrom = some start → level ≤ s.get (.SDG_DEF_TA_THR n) * s.get (.SDG_FE_CFG_AGC_TGT n) →
    Completes (.thermalAsperity n true bit level run) s (fun t => (t.get (.SDG_FE_STATUS_TA_ACTIVE n) = 0 ∧
    (t.chan n).taFrom = none ∧
    (t.chan n).cur = ((s.eraseBits n (start - s.get (.SDG_DEF_TA_PRE n)) (bit + s.get (.SDG_DEF_TA_POST n))).chan n).cur ∧
    (t.chan n).corner16To = some (bit + 64)) ∧ Frame [.chans] [.arr (.SDG_FE_STATUS_TA_ACTIVE 0) 0x400 8] s t)) ∧
  (∀ (s : State) (n bit level run : Nat), n < 8 → (s.seq n).rg = true → s.domainOn (61 + n) = true →
    (s.chan n).doFrom = none → level < s.get (.SDG_DEF_DO_THR n) * s.get (.SDG_FE_CFG_AGC_TGT n) →
    s.get (.SDG_DEF_DO_LEN n) ≤ run →
    Completes (.dropout n false bit level run) s (fun t => (t.get (.SDG_FE_STATUS_DO_ACTIVE n) = 1 ∧
    (t.chan n).doFrom = some bit) ∧ Frame [.chans] [.arr (.SDG_FE_STATUS_DO_ACTIVE 0) 0x400 8] s t)) ∧
  (∀ (s : State) (n bit level run start : Nat), n < 8 → (s.seq n).rg = true → s.domainOn (61 + n) = true →
    (s.chan n).doFrom = some start → s.get (.SDG_DEF_DO_THR n) * s.get (.SDG_FE_CFG_AGC_TGT n) ≤ level →
    Completes (.dropout n true bit level run) s (fun t => (t.get (.SDG_FE_STATUS_DO_ACTIVE n) = 0 ∧ (t.chan n).doFrom = none ∧
    (t.chan n).cur = ((s.eraseBits n (start - s.get (.SDG_DEF_DO_PAD n)) (bit + s.get (.SDG_DEF_DO_PAD n))).chan n).cur) ∧
    Frame [.chans] [.arr (.SDG_FE_STATUS_DO_ACTIVE 0) 0x400 8] s t)) ∧
  (∀ (s : State) (clear : Bool), s.gated 0x4700_0000 = false → Completes (.telSnap clear) s (fun t => ((∀ n < 8, ∀ i < 32,
    t.get (.SDG_TEL_COUNT n i) = (s.chan n).tel.at i % 2 ^ 32) ∧ (∀ n < 8,
    (t.chan n).tel = if clear = true then [] else (s.chan n).tel) ∧ t.bus = .done) ∧ Frame [.bus,
    .chans] [.grid (.SDG_TEL_COUNT 0 0) 0x400 8 0x4 32] s t)) ∧
  (∀ (s : State), s.gated 0x4700_0000 = false → Completes (.telClear) s (fun t => ((∀ n < 8, (t.chan n).tel = []) ∧
    t.bus = .done) ∧ Frame [.bus, .chans] [] s t)) ∧
  (∀ (s : State) (n : Nat) (data : Word), n < 8 → s.gated (0x4700_102C + 0x400 * n) = false →
    coefEntry (s.get (.SDG_COEF_ADDR_ADDR n)) = true →
    Completes (.coefWrite n data) s (fun t => ((t.chan n).coefFw = (s.chan n).coefFw.filter (fun e => e.1 ≠ s.get (.SDG_COEF_ADDR_ADDR n)) ++
    [(s.get (.SDG_COEF_ADDR_ADDR n),
    BitVec.ofNat 26 (if s.get (.SDG_COEF_ADDR_ADDR n) < 0x168 then data.toNat % 2 ^ 10 else data.toNat))] ∧
    t.get (.SDG_COEF_ADDR_ADDR n) = (s.get (.SDG_COEF_ADDR_ADDR n) + 1) % 2 ^ 9 ∧ t.bus = .done) ∧ Frame [.bus,
    .chans] [.arr (.SDG_COEF_ADDR_ADDR 0) 0x400 8] s t)) ∧
  (∀ (s : State) (n : Nat) (data : Word), n < 8 → s.gated (0x4700_102C + 0x400 * n) = false →
    coefEntry (s.get (.SDG_COEF_ADDR_ADDR n)) = false →
    Completes (.coefWrite n data) s (fun t => ((t.chan n).coefFw = (s.chan n).coefFw ∧
    t.get (.SDG_COEF_ADDR_ADDR n) = (s.get (.SDG_COEF_ADDR_ADDR n) + 1) % 2 ^ 9 ∧ t.bus = .done) ∧ Frame [.bus,
    .chans] [.arr (.SDG_COEF_ADDR_ADDR 0) 0x400 8] s t)) ∧
  (∀ (s : State) (n : Nat) (e : Nat × BitVec 26), n < 8 → s.gated (0x4700_102C + 0x400 * n) = false →
    coefEntry (s.get (.SDG_COEF_ADDR_ADDR n)) = true →
    (s.chan n).coefFw.find? (fun e => e.1 = s.get (.SDG_COEF_ADDR_ADDR n)) = some e →
    Completes (.coefRead .mire n) s (fun t => (t.bus = .value e.2.toNat ∧
    t.get (.SDG_COEF_ADDR_ADDR n) = (s.get (.SDG_COEF_ADDR_ADDR n) + 1) % 2 ^ 9) ∧ Frame (alarmParts ++
    ([.bus] : List Part)) (alarmRegs ++ haltRegs ++ ([.arr (.SDG_COEF_ADDR_ADDR 0) 0x400 8] : List Regs)) s t)) ∧
  (∀ (s : State) (n : Nat) (e : Nat × BitVec 26), n < 8 → s.gated (0x4700_102C + 0x400 * n) = false →
    coefEntry (s.get (.SDG_COEF_ADDR_ADDR n)) = true →
    (s.chan n).coefFw.find? (fun e => e.1 = s.get (.SDG_COEF_ADDR_ADDR n)) = none →
    (s.chan n).coefAdapt.reverse.find? (fun e => e.1 = s.get (.SDG_COEF_ADDR_ADDR n)) = some e →
    Completes (.coefRead .mire n) s (fun t => (t.bus = .value e.2.toNat ∧
    t.get (.SDG_COEF_ADDR_ADDR n) = (s.get (.SDG_COEF_ADDR_ADDR n) + 1) % 2 ^ 9) ∧ Frame (alarmParts ++
    ([.bus] : List Part)) (alarmRegs ++ haltRegs ++ ([.arr (.SDG_COEF_ADDR_ADDR 0) 0x400 8] : List Regs)) s t)) ∧
  (∀ (s : State) (n : Nat), n < 8 → s.gated (0x4700_102C + 0x400 * n) = false →
    coefEntry (s.get (.SDG_COEF_ADDR_ADDR n)) = true →
    (s.chan n).coefFw.find? (fun e => e.1 = s.get (.SDG_COEF_ADDR_ADDR n)) = none →
    (s.chan n).coefAdapt.reverse.find? (fun e => e.1 = s.get (.SDG_COEF_ADDR_ADDR n)) = none →
    Completes (.coefRead .mire n) s (fun t => (t.bus = .value ((s.chan n).coef.at (s.get (.SDG_COEF_ADDR_ADDR n))).toNat ∧
    t.get (.SDG_COEF_ADDR_ADDR n) = (s.get (.SDG_COEF_ADDR_ADDR n) + 1) % 2 ^ 9) ∧ Frame (alarmParts ++
    ([.bus] : List Part)) (alarmRegs ++ haltRegs ++ ([.arr (.SDG_COEF_ADDR_ADDR 0) 0x400 8] : List Regs)) s t)) ∧
  (∀ (s : State) (n : Nat), n < 8 → s.gated (0x4700_102C + 0x400 * n) = false →
    coefEntry (s.get (.SDG_COEF_ADDR_ADDR n)) = false → Completes (.coefRead .mire n) s (fun t => (t.bus = .value 0 ∧
    t.get (.SDG_COEF_ADDR_ADDR n) = (s.get (.SDG_COEF_ADDR_ADDR n) + 1) % 2 ^ 9) ∧ Frame (alarmParts ++
    ([.bus] : List Part)) (alarmRegs ++ haltRegs ++ ([.arr (.SDG_COEF_ADDR_ADDR 0) 0x400 8] : List Regs)) s t)) ∧
  (∀ (s : State) (core : Nat) (n : Nat), core < 8 → n < 8 →
    Completes (.coefRead (.fen core) n) s (fun t => (t.bus = .busError ∧ t.latched 0x0101 core = true) ∧ Frame (alarmParts ++
    ([.bus] : List Part)) (alarmRegs ++ haltRegs ++ ([.arr (.SDG_COEF_ADDR_ADDR 0) 0x400 8] : List Regs)) s t))

/-- Completion and effects of the commands named, on the states named (after R377, R378, R381, R382, R383, R384, R387, each in
part). -/
def Obligations.MemoryIsChecked : Prop :=
  (∀ (s : State) (region offset : Nat) (word : SramWord), offset < sramSize region →
    s.sramServes region (offset / 8 * 8) = true →
    Completes (.sramRead region offset .clean word none) s (fun t => (t.bus = .value (leNat (s.sramWord region (offset / 8 * 8) word).1) ∧
    t.sram = s.sram ∧ t.lev = s.lev) ∧ Frame (alarmParts ++ ([.sram, .bus, .drawn, .withy, .tus, .slu, .sth,
    .mq] : List Part)) (alarmRegs ++ haltRegs ++ ([.arr (.WTH_VCM_STATUS_RET_ACTIVE 0) 0x4 4,
    .arr (.WTH_VCM_STATUS_ENABLED 0) 0x4 4, .arr (.WTH_MA_CTRL_HOLD 0) 0x4 8, .arr (.WTH_MA_STATUS_VOUT 0) 0x4 8,
    .fld .STH_FATE_STATUS_UNRESOLVED, .fld .STH_FATE_STATUS_RECORDS, .fld .STH_FATE_DROP_COUNT, .fld .SLU_PM_STATUS_OVF,
    .fld .SLU_PM_STATUS_COUNT] : List Regs)) s t)) ∧
  (∀ (s : State) (region offset : Nat) (word : SramWord), offset < sramSize region →
    s.sramServes region (offset / 8 * 8) = true → region < 12 →
    Completes (.sramRead region offset .single word none) s (fun t => (t.bus = .value (leNat (s.sramWord region (offset / 8 * 8) word).1) ∧
    t.latched 0x0901 region = true) ∧ Frame (alarmParts ++ ([.sram, .bus, .drawn, .withy, .tus, .slu, .sth,
    .mq] : List Part)) (alarmRegs ++ haltRegs ++ ([.arr (.WTH_VCM_STATUS_RET_ACTIVE 0) 0x4 4,
    .arr (.WTH_VCM_STATUS_ENABLED 0) 0x4 4, .arr (.WTH_MA_CTRL_HOLD 0) 0x4 8, .arr (.WTH_MA_STATUS_VOUT 0) 0x4 8,
    .fld .STH_FATE_STATUS_UNRESOLVED, .fld .STH_FATE_STATUS_RECORDS, .fld .STH_FATE_DROP_COUNT, .fld .SLU_PM_STATUS_OVF,
    .fld .SLU_PM_STATUS_COUNT] : List Regs)) s t)) ∧
  (∀ (s : State) (region offset : Nat) (error : SramError) (word : SramWord) (bytes : List (Option Byte)),
    offset < sramSize region → s.sramServes region (offset / 8 * 8) = true → error ≠ .uncorrectable → word = .plain →
    region ∉ [3, 4, 7, 8, 9, 11] → Completes (.sramRead region offset error word (some bytes)) s (fun t => (t.bus = .done ∧
    (∀ k < 8,
    t.sramAt (sramKey region (offset / 8 * 8) + k) = (bytes.getD k none).getD (s.sramAt (sramKey region (offset / 8 * 8) + k)))) ∧
    Frame (alarmParts ++ ([.sram, .bus, .drawn, .withy, .tus, .slu, .sth, .mq] : List Part)) (alarmRegs ++ haltRegs ++
    ([.arr (.WTH_VCM_STATUS_RET_ACTIVE 0) 0x4 4, .arr (.WTH_VCM_STATUS_ENABLED 0) 0x4 4, .arr (.WTH_MA_CTRL_HOLD 0) 0x4 8,
    .arr (.WTH_MA_STATUS_VOUT 0) 0x4 8, .fld .STH_FATE_STATUS_UNRESOLVED, .fld .STH_FATE_STATUS_RECORDS,
    .fld .STH_FATE_DROP_COUNT, .fld .SLU_PM_STATUS_OVF, .fld .SLU_PM_STATUS_COUNT] : List Regs)) s t)) ∧
  (∀ (s : State) (region offset : Nat) (word : SramWord) (write : Option (List (Option Byte))), offset < sramSize region →
    s.sramServes region (offset / 8 * 8) = true → region < 12 → s.get .WEIR_STATUS_PF = 0 →
    Completes (.sramRead region offset .uncorrectable word write) s (fun t => (t.latched 0x0903 region = true ∧
    t.bus = .busError ∧ t.slu.selfRefresh = true ∧ t.sram = s.sram) ∧ Frame (alarmParts ++ ([.sram, .bus, .drawn, .withy,
    .tus, .slu, .sth, .mq] : List Part)) (alarmRegs ++ haltRegs ++ ([.arr (.WTH_VCM_STATUS_RET_ACTIVE 0) 0x4 4,
    .arr (.WTH_VCM_STATUS_ENABLED 0) 0x4 4, .arr (.WTH_MA_CTRL_HOLD 0) 0x4 8, .arr (.WTH_MA_STATUS_VOUT 0) 0x4 8,
    .fld .STH_FATE_STATUS_UNRESOLVED, .fld .STH_FATE_STATUS_RECORDS, .fld .STH_FATE_DROP_COUNT, .fld .SLU_PM_STATUS_OVF,
    .fld .SLU_PM_STATUS_COUNT] : List Regs)) s t)) ∧
  (∀ (s : State) (region offset : Nat) (error : SramError) (word : SramWord) (write : Option (List (Option Byte))),
    sramSize region ≤ offset → Completes (.sramRead region offset error word write) s (fun t => (t.bus = .busError ∧
    t.slu = s.slu ∧ t.sram = s.sram) ∧ Frame (alarmParts ++ ([.sram, .bus, .drawn, .withy, .tus, .slu, .sth,
    .mq] : List Part)) (alarmRegs ++ haltRegs ++ ([.arr (.WTH_VCM_STATUS_RET_ACTIVE 0) 0x4 4,
    .arr (.WTH_VCM_STATUS_ENABLED 0) 0x4 4, .arr (.WTH_MA_CTRL_HOLD 0) 0x4 8, .arr (.WTH_MA_STATUS_VOUT 0) 0x4 8,
    .fld .STH_FATE_STATUS_UNRESOLVED, .fld .STH_FATE_STATUS_RECORDS, .fld .STH_FATE_DROP_COUNT, .fld .SLU_PM_STATUS_OVF,
    .fld .SLU_PM_STATUS_COUNT] : List Regs)) s t)) ∧
  (∀ (s : State) (owner addr : Nat), s.dramServes = true → s.dramOk (addr / 64 * 64) 64 = true →
    s.poisonedAt (addr / 64 * 64) = false →
    Completes (.dramRead owner addr .clean) s (fun t => (t.bus = .value (leNat (s.readBytes (addr / 64 * 64) 64)) ∧
    t.dram = s.dram) ∧ Frame (alarmParts ++ ([.dram, .bus, .slu] : List Part)) (alarmRegs ++ haltRegs ++
    ([.fld .SLU_ECC_CE_COUNT, .fld .SLU_ECC_LAST_LO_ADDR, .fld .SLU_ECC_LAST_HI_ADDR, .fld .SLU_SCRB_STATUS_BUSY,
    .fld .SLU_SCRB_STATUS_DONE, .fld .SLU_SCRB_STATUS_STOPPED, .fld .SLU_SCRB_STATUS_UE_RESET, .fld .SLU_SCRB_NEXT_LO_ADDR,
    .fld .SLU_SCRB_NEXT_HI_ADDR, .fld .SLU_SCRB_CE_COUNT, .fld .SLU_PM_STATUS_OVF,
    .fld .SLU_PM_STATUS_COUNT] : List Regs)) s t)) ∧
  (∀ (s : State) (owner addr : Nat), s.dramServes = true → s.dramOk (addr / 64 * 64) 64 = true →
    s.poisonedAt (addr / 64 * 64) = false →
    Completes (.dramRead owner addr .correctable) s (fun t => (t.bus = .value (leNat (s.readBytes (addr / 64 * 64) 64)) ∧
    t.dram = s.dram ∧ t.get .SLU_ECC_CE_COUNT = min (s.get .SLU_ECC_CE_COUNT + 1) (2 ^ 32 - 1) ∧
    t.get .SLU_ECC_LAST_HI_ADDR = addr / 64 * 64 / 2 ^ 32 % 2 ^ 8 ∧
    t.latched 0x0902 ((addr / 64 * 64 - dramBase) / 256 % 2) = true) ∧ Frame (alarmParts ++ ([.dram, .bus,
    .slu] : List Part)) (alarmRegs ++ haltRegs ++ ([.fld .SLU_ECC_CE_COUNT, .fld .SLU_ECC_LAST_LO_ADDR,
    .fld .SLU_ECC_LAST_HI_ADDR, .fld .SLU_SCRB_STATUS_BUSY, .fld .SLU_SCRB_STATUS_DONE, .fld .SLU_SCRB_STATUS_STOPPED,
    .fld .SLU_SCRB_STATUS_UE_RESET, .fld .SLU_SCRB_NEXT_LO_ADDR, .fld .SLU_SCRB_NEXT_HI_ADDR, .fld .SLU_SCRB_CE_COUNT,
    .fld .SLU_PM_STATUS_OVF, .fld .SLU_PM_STATUS_COUNT] : List Regs)) s t)) ∧
  (∀ (s : State) (owner addr : Nat), s.dramServes = true → s.dramOk (addr / 64 * 64) 64 = true →
    s.poisonedAt (addr / 64 * 64) = false → Completes (.dramRead owner addr .uncorrectable) s (fun t => (t.bus = .busError ∧
    t.poisonedAt (addr / 64 * 64) = true ∧ t.latched 0x0904 ((addr / 64 * 64 - dramBase) / 256 % 2) = true ∧
    t.dram = s.dram) ∧ Frame (alarmParts ++ ([.dram, .bus, .slu] : List Part)) (alarmRegs ++ haltRegs ++
    ([.fld .SLU_ECC_CE_COUNT, .fld .SLU_ECC_LAST_LO_ADDR, .fld .SLU_ECC_LAST_HI_ADDR, .fld .SLU_SCRB_STATUS_BUSY,
    .fld .SLU_SCRB_STATUS_DONE, .fld .SLU_SCRB_STATUS_STOPPED, .fld .SLU_SCRB_STATUS_UE_RESET, .fld .SLU_SCRB_NEXT_LO_ADDR,
    .fld .SLU_SCRB_NEXT_HI_ADDR, .fld .SLU_SCRB_CE_COUNT, .fld .SLU_PM_STATUS_OVF,
    .fld .SLU_PM_STATUS_COUNT] : List Regs)) s t)) ∧
  (∀ (s : State) (owner addr : Nat) (error : DramError), s.dramServes = true → s.dramOk (addr / 64 * 64) 64 = true →
    s.poisonedAt (addr / 64 * 64) = true → Completes (.dramRead owner addr error) s (fun t => (t.bus = .busError ∧
    t.latched 0x0905 0 = true ∧ t.dram = s.dram) ∧ Frame (alarmParts ++ ([.dram, .bus, .slu] : List Part)) (alarmRegs ++
    haltRegs ++ ([.fld .SLU_ECC_CE_COUNT, .fld .SLU_ECC_LAST_LO_ADDR, .fld .SLU_ECC_LAST_HI_ADDR, .fld .SLU_SCRB_STATUS_BUSY,
    .fld .SLU_SCRB_STATUS_DONE, .fld .SLU_SCRB_STATUS_STOPPED, .fld .SLU_SCRB_STATUS_UE_RESET, .fld .SLU_SCRB_NEXT_LO_ADDR,
    .fld .SLU_SCRB_NEXT_HI_ADDR, .fld .SLU_SCRB_CE_COUNT, .fld .SLU_PM_STATUS_OVF,
    .fld .SLU_PM_STATUS_COUNT] : List Regs)) s t)) ∧
  (∀ (s : State) (owner addr : Nat) (bytes : List (Option Byte)), s.dramServes = true → s.dramOk (addr / 64 * 64) 64 = true →
    s.poisonedAt (addr / 64 * 64) = false → Completes (.partialWrite owner addr bytes .clean) s (fun t => ((∀ k < 64,
    t.byteAt (addr / 64 * 64 + k) = (bytes.getD k none).getD (s.byteAt (addr / 64 * 64 + k))) ∧ (∀ a,
    (a < addr / 64 * 64 ∨ addr / 64 * 64 + 64 ≤ a) → t.byteAt a = s.byteAt a) ∧ t.bus = .done) ∧ Frame (alarmParts ++ ([.dram,
    .bus, .slu] : List Part)) (alarmRegs ++ haltRegs ++ ([.fld .SLU_ECC_CE_COUNT, .fld .SLU_ECC_LAST_LO_ADDR,
    .fld .SLU_ECC_LAST_HI_ADDR, .fld .SLU_PM_STATUS_OVF, .fld .SLU_PM_STATUS_COUNT] : List Regs)) s t)) ∧
  (∀ (s : State) (owner addr : Nat) (bytes : List (Option Byte)), s.dramServes = true → s.dramOk (addr / 64 * 64) 64 = true →
    s.poisonedAt (addr / 64 * 64) = false → Completes (.partialWrite owner addr bytes .correctable) s (fun t => ((∀ k < 64,
    t.byteAt (addr / 64 * 64 + k) = (bytes.getD k none).getD (s.byteAt (addr / 64 * 64 + k))) ∧ (∀ a,
    (a < addr / 64 * 64 ∨ addr / 64 * 64 + 64 ≤ a) → t.byteAt a = s.byteAt a) ∧ t.bus = .done ∧
    t.latched 0x0902 ((addr / 64 * 64 - dramBase) / 256 % 2) = true) ∧ Frame (alarmParts ++ ([.dram, .bus,
    .slu] : List Part)) (alarmRegs ++ haltRegs ++ ([.fld .SLU_ECC_CE_COUNT, .fld .SLU_ECC_LAST_LO_ADDR,
    .fld .SLU_ECC_LAST_HI_ADDR, .fld .SLU_PM_STATUS_OVF, .fld .SLU_PM_STATUS_COUNT] : List Regs)) s t)) ∧
  (∀ (s : State) (owner addr : Nat) (bytes : List (Option Byte)), s.dramServes = true → s.dramOk (addr / 64 * 64) 64 = true →
    s.poisonedAt (addr / 64 * 64) = false →
    Completes (.partialWrite owner addr bytes .uncorrectable) s (fun t => (t.dram = s.dram ∧
    t.poisonedAt (addr / 64 * 64) = true ∧ t.latched 0x0904 ((addr / 64 * 64 - dramBase) / 256 % 2) = true ∧
    t.bus = (if owner = 10 ∨ owner = 11 then .done else .busError)) ∧ Frame (alarmParts ++ ([.dram, .bus,
    .slu] : List Part)) (alarmRegs ++ haltRegs ++ ([.fld .SLU_ECC_CE_COUNT, .fld .SLU_ECC_LAST_LO_ADDR,
    .fld .SLU_ECC_LAST_HI_ADDR, .fld .SLU_PM_STATUS_OVF, .fld .SLU_PM_STATUS_COUNT] : List Regs)) s t)) ∧
  (∀ (s : State) (owner addr : Nat) (bytes : List (Option Byte)) (error : DramError), s.dramServes = true →
    s.dramOk (addr / 64 * 64) 64 = true → s.poisonedAt (addr / 64 * 64) = true →
    Completes (.partialWrite owner addr bytes error) s (fun t => (t.dram = s.dram ∧ t.latched 0x0905 0 = true ∧
    t.bus = (if owner = 10 ∨ owner = 11 then .done else .busError)) ∧ Frame (alarmParts ++ ([.dram, .bus,
    .slu] : List Part)) (alarmRegs ++ haltRegs ++ ([.fld .SLU_ECC_CE_COUNT, .fld .SLU_ECC_LAST_LO_ADDR,
    .fld .SLU_ECC_LAST_HI_ADDR, .fld .SLU_PM_STATUS_OVF, .fld .SLU_PM_STATUS_COUNT] : List Regs)) s t))

/-- Completion and effects of the commands named, on the states named (after R386, R389, R391, each in part). -/
def Obligations.MemoryIsScrubbed : Prop :=
  (∀ (s : State), s.gated 0x4100_0810 = false → s.get .SLU_SCRB_STATUS_BUSY = 0 → s.get .SLU_SCRB_LEN_BLOCKS ≠ 0 →
    dramBase ≤ (s.get .SLU_SCRB_BASE_HI_ADDR * 2 ^ 32 + s.get .SLU_SCRB_BASE_LO_ADDR * 64) →
    (s.get .SLU_SCRB_BASE_HI_ADDR * 2 ^ 32 + s.get .SLU_SCRB_BASE_LO_ADDR * 64) + 64 * s.get .SLU_SCRB_LEN_BLOCKS ≤ s.dramEnd →
    Completes (.scrubGo) s (fun t => (t.get .SLU_SCRB_STATUS_BUSY = 1 ∧ t.get .SLU_SCRB_STATUS_DONE = 0 ∧
    t.get .SLU_SCRB_STATUS_STOPPED = 0 ∧ t.get .SLU_SCRB_STATUS_UE_RESET = 0 ∧ t.get .SLU_SCRB_CE_COUNT = 0 ∧
    t.slu.scrubLeft = s.get .SLU_SCRB_LEN_BLOCKS ∧ t.get .SLU_SCRB_NEXT_LO_ADDR = s.get .SLU_SCRB_BASE_LO_ADDR ∧
    t.get .SLU_SCRB_NEXT_HI_ADDR = s.get .SLU_SCRB_BASE_HI_ADDR ∧ t.bus = .done) ∧ Frame [.bus,
    .slu] [.fld .SLU_SCRB_STATUS_BUSY, .fld .SLU_SCRB_STATUS_DONE, .fld .SLU_SCRB_STATUS_STOPPED,
    .fld .SLU_SCRB_STATUS_UE_RESET, .fld .SLU_SCRB_STATUS_ERR, .fld .SLU_SCRB_NEXT_LO_ADDR, .fld .SLU_SCRB_NEXT_HI_ADDR,
    .fld .SLU_SCRB_CE_COUNT] s t)) ∧
  (∀ (s : State), s.gated 0x4100_0810 = false →
    (s.get .SLU_SCRB_STATUS_BUSY = 1 ∨ s.get .SLU_SCRB_LEN_BLOCKS = 0 ∨ (s.get .SLU_SCRB_BASE_HI_ADDR * 2 ^ 32 + s.get .SLU_SCRB_BASE_LO_ADDR * 64) < dramBase ∨ s.dramEnd < (s.get .SLU_SCRB_BASE_HI_ADDR * 2 ^ 32 + s.get .SLU_SCRB_BASE_LO_ADDR * 64) + 64 * s.get .SLU_SCRB_LEN_BLOCKS) →
    Completes (.scrubGo) s (fun t => (t.get .SLU_SCRB_STATUS_ERR = 1 ∧ t.slu = s.slu ∧ t.bus = .done) ∧ Frame [.bus,
    .slu] [.fld .SLU_SCRB_STATUS_BUSY, .fld .SLU_SCRB_STATUS_DONE, .fld .SLU_SCRB_STATUS_STOPPED,
    .fld .SLU_SCRB_STATUS_UE_RESET, .fld .SLU_SCRB_STATUS_ERR, .fld .SLU_SCRB_NEXT_LO_ADDR, .fld .SLU_SCRB_NEXT_HI_ADDR,
    .fld .SLU_SCRB_CE_COUNT] s t)) ∧
  (∀ (s : State), s.gated 0x4100_0810 = false → s.get .SLU_SCRB_STATUS_BUSY = 1 →
    Completes (.scrubStop) s (fun t => (t.get .SLU_SCRB_STATUS_BUSY = 0 ∧ t.get .SLU_SCRB_STATUS_STOPPED = 1 ∧
    t.get .SLU_SCRB_STATUS_DONE = 0 ∧ t.bus = .done) ∧ Frame [.bus] [.fld .SLU_SCRB_STATUS_BUSY, .fld .SLU_SCRB_STATUS_DONE,
    .fld .SLU_SCRB_STATUS_STOPPED, .fld .SLU_SCRB_STATUS_UE_RESET] s t)) ∧
  (∀ (s : State), s.gated 0x4100_0810 = false → s.get .SLU_SCRB_STATUS_BUSY = 0 →
    Completes (.scrubStop) s (fun t => (t.get .SLU_SCRB_STATUS_STOPPED = s.get .SLU_SCRB_STATUS_STOPPED ∧
    t.get .SLU_SCRB_STATUS_BUSY = 0 ∧ t.bus = .done) ∧ Frame [.bus] [.fld .SLU_SCRB_STATUS_BUSY, .fld .SLU_SCRB_STATUS_DONE,
    .fld .SLU_SCRB_STATUS_STOPPED, .fld .SLU_SCRB_STATUS_UE_RESET] s t)) ∧
  (∀ (s : State), s.get .SLU_SCRB_STATUS_BUSY = 1 → s.slu.scrubLeft = 0 →
    Completes (.scrubDone) s (fun t => (t.get .SLU_SCRB_STATUS_BUSY = 0 ∧ t.get .SLU_SCRB_STATUS_DONE = 1 ∧
    t.get .SLU_SCRB_STATUS_STOPPED = 0) ∧ Frame [] [.fld .SLU_SCRB_STATUS_BUSY, .fld .SLU_SCRB_STATUS_DONE,
    .fld .SLU_SCRB_STATUS_STOPPED, .fld .SLU_SCRB_STATUS_UE_RESET] s t)) ∧
  (∀ (s : State) (index : Nat), s.gated 0x4100_0850 = false →
    Completes (.sluPmAck index) s (fun t => (t.slu.pm = s.slu.pm.eraseIdx index ∧
    t.get .SLU_PM_STATUS_COUNT = (s.slu.pm.eraseIdx index).length % 2 ^ 11 ∧ t.bus = .done) ∧ Frame [.bus,
    .slu] [.fld .SLU_PM_STATUS_COUNT] s t)) ∧
  (∀ (s : State), s.gated 0x4100_084C = false →
    Completes (.pmDataRead) s (fun t => (t.bus = .value ((s.slu.pm.getD (s.get .SLU_PM_CUR_INDEX) {}).hi) ∧
    t.get .SLU_PM_CUR_INDEX = (s.get .SLU_PM_CUR_INDEX + 1) % 2 ^ 10) ∧ Frame [.bus] [.fld .SLU_PM_CUR_INDEX] s t))

/-- Completion and effects of the commands named, on the states named (after R461, R462, R465, R466, R467, R471, each in
part). -/
def Obligations.EventsAreRecorded : Prop :=
  (∀ (s : State) (stream type_ : Nat) (body : List Byte), stream < 5 →
    stagedBytes s.peat.staged + ((16 + body.length + 3) / 4 * 4) ≤ 262144 →
    (s.stageRecord stream type_ body).heldBytes ≤ 32768 →
    Completes (.recordStage stream type_ body) s (fun t => ((∃ x ∈ t.peat.staged, x.rec_.stream = stream ∧
    x.rec_.type_ = type_ ∧ x.rec_.body = body ∧ x.rec_.rseq = s.get (.PEAT_RSEQ_NEXT stream) ∧
    x.rec_.gap = s.peat.gap.at stream ∧ x.toCirc = true) ∧
    t.get (.PEAT_RSEQ_NEXT stream) = (s.get (.PEAT_RSEQ_NEXT stream) + 1) % 2 ^ 16) ∧ Frame alarmParts (alarmRegs ++
    haltRegs) s t)) ∧
  (∀ (s : State) (stream type_ : Nat) (body : List Byte), stream < 5 →
    262144 < stagedBytes s.peat.staged + ((16 + body.length + 3) / 4 * 4) →
    (s.stageRecord stream type_ body).heldBytes ≤ 32768 →
    Completes (.recordStage stream type_ body) s (fun t => (t.peat.staged = s.peat.staged ∧
    t.get (.PEAT_RSEQ_LOST stream) = min (s.get (.PEAT_RSEQ_LOST stream) + 1) (2 ^ 16 - 1) ∧ t.get .PEAT_STATUS_STG_LOSS = 1 ∧
    t.peat.gap.at stream = true ∧ t.get (.PEAT_RSEQ_NEXT stream) = (s.get (.PEAT_RSEQ_NEXT stream) + 1) % 2 ^ 16) ∧
    Frame alarmParts (alarmRegs ++ haltRegs) s t)) ∧
  (∀ (s : State) (stream type_ : Nat) (body : List Byte) (area : Nat), stream < 5 →
    32768 < (s.stageRecord stream type_ body).heldBytes → (s.stageRecord stream type_ body).oldestHeldArea = some area →
    Completes (.recordStage stream type_ body) s (fun t => (t.latched 0x1002 0 = true ∧ t.frozen area = false) ∧
    Frame alarmParts (alarmRegs ++ haltRegs) s t)) ∧
  (∀ (s : State), s.get .PEAT_STATUS_FLUSHING = 0 → Completes (.peatFlushTimer) s (fun t => (t.get .PEAT_STATUS_FLUSHING = 1 ∧
    t.peat.again = false ∧
    t.peat.staged = s.peat.staged.map (fun x => if (x.rec_.stamped && !s.heldBack x) = true then { x with inFlush := true } else x)) ∧
    Frame [.peat] [.fld .PEAT_STATUS_FLUSHING] s t)) ∧
  (∀ (s : State), s.get .PEAT_STATUS_FLUSHING = 1 → Completes (.peatFlushTimer) s (fun t => (t.peat.again = true ∧
    t.peat.staged = s.peat.staged) ∧ Frame [.peat] [.fld .PEAT_STATUS_FLUSHING] s t)) ∧
  (∀ (s : State), s.get .PEAT_STATUS_FLUSHING = 1 → Completes (.peatFlush) s (fun t => (t.get .PEAT_STATUS_FLUSHING = 1 ∧
    t.peat.again = true ∧ t.bus = .done) ∧ Frame [.bus, .peat] [.fld .PEAT_STATUS_FLUSHING] s t)) ∧
  (∀ (s : State), s.get .PEAT_STATUS_FLUSHING = 0 → Completes (.peatFlush) s (fun t => (t.get .PEAT_STATUS_FLUSHING = 1 ∧
    t.bus = .done) ∧ Frame [.bus, .peat] [.fld .PEAT_STATUS_FLUSHING] s t)) ∧
  (∀ (s : State), s.domainOn 94 = true → s.get .PEAT_STATUS_FLUSHING = 1 →
    Completes (.peatFlushDone) s (fun t => (t.peat.savedOpt = max s.peat.savedOpt s.opt ∧
    t.peat.saves = (s.peat.saves + 1) % 2 ^ 32 ∧ t.peat.freezeWait = [] ∧ (∀ x ∈ t.peat.staged,
    x.toPerm = true ∨ x.toCirc = true) ∧ (s.peat.again = false → s.committed = false → t.get .PEAT_STATUS_FLUSHING = 0)) ∧
    Frame [.peat] [.fld .PEAT_STATUS_FLUSHING, .fld .PEAT_STATUS_STAMP_WAIT, .fld .PEAT_STATUS_HELD, .fld .PEAT_STATUS_USED,
    .fld .PEAT_FRZ_AREA, .arr (.PEAT_AREA_REC_COUNT 0) 0x4 10, .arr (.PEAT_AREA_BYTES_BYTES 0) 0x4 10,
    .fld .PEAT_MRSETS_COUNT] s t)) ∧
  (∀ (s : State) (area : Nat), area < 10 → Completes (.peatNorFail area) s (fun t => (t.get .PEAT_STATUS_NOR_ERR = 1 ∧
    t.latched 0x1001 0 = true ∧ t.peat.badBlocks = s.peat.badBlocks ++ [(area, (s.peat.areas.at area).newest)] ∧
    t.peat.areas.at area = (s.peat.areas.at area).abandon area (!s.committed)) ∧ Frame alarmParts (alarmRegs ++ haltRegs ++
    ([.fld .PEAT_STATUS_NOR_ERR, .arr (.PEAT_AREA_REC_COUNT 0) 0x4 10,
    .arr (.PEAT_AREA_BYTES_BYTES 0) 0x4 10] : List Regs)) s t)) ∧
  (∀ (s : State) (count : Nat), s.peat.pccLocked = false → Completes (.peatPcc count) s (fun t => (t.peat.pccLocked = true ∧
    t.peat.savedPcc = count % 2 ^ 32 ∧ t.get .PEAT_PCC_COUNT = count % 2 ^ 32 ∧ t.bus = .done) ∧ Frame [.bus,
    .peat] [.fld .PEAT_STATUS_FLUSHING, .fld .PEAT_STATUS_STAMP_WAIT, .fld .PEAT_STATUS_HELD, .fld .PEAT_STATUS_USED,
    .fld .PEAT_PCC_COUNT] s t)) ∧
  (∀ (s : State) (count : Nat), s.peat.pccLocked = true → Completes (.peatPcc count) s (fun t => (t.peat = s.peat ∧
    t.get .PEAT_PCC_COUNT = s.get .PEAT_PCC_COUNT ∧ t.bus = .done) ∧ Frame [.bus, .peat] [.fld .PEAT_STATUS_FLUSHING,
    .fld .PEAT_STATUS_STAMP_WAIT, .fld .PEAT_STATUS_HELD, .fld .PEAT_STATUS_USED, .fld .PEAT_PCC_COUNT] s t)) ∧
  (∀ (s : State) (offset : Nat), Completes (.peatCur offset) s (fun t => (t.get .PEAT_CUR_OFFSET = offset / 4 % 2 ^ 30 ∧
    t.get .PEAT_WIN_STATUS_VALID = 0 ∧ t.peat.loading = some (s.get .PEAT_CUR_AREA_AREA, offset / 4 % 2 ^ 30 * 4) ∧
    t.bus = .done) ∧ Frame [.bus, .peat] [.fld .PEAT_CUR_OFFSET, .fld .PEAT_WIN_STATUS_VALID] s t)) ∧
  (∀ (s : State) (a off : Nat), s.peat.loading = some (a, off) → s.frozen a = true →
    Completes (.windowValid) s (fun t => (t.get .PEAT_WIN_STATUS_VALID = 1 ∧ t.peat.loading = none ∧
    t.get .PEAT_WIN_STATUS_BYTES = ((((s.peat.areas.at a).served a).drop off).take 4096).length % 2 ^ 13 ∧ (∀ i < 1024,
    t.get (.PEAT_WIN_DATA i) = fieldAt ((((s.peat.areas.at a).served a).drop off).take 4096) (4 * i) 4)) ∧
    Frame [.peat] [.fld .PEAT_WIN_STATUS_VALID, .fld .PEAT_WIN_STATUS_END, .fld .PEAT_WIN_STATUS_BYTES,
    .arr (.PEAT_WIN_DATA 0) 0x4 1024] s t))

/-- Completion and effects of the commands named, on the states named (after R326, R327, R328, R330, each in part). -/
def Obligations.RegionsAndKeys : Prop :=
  (∀ (s : State) (region : Nat), s.gated 0x4100_0604 = false → (s.slu.regions.at region).state = .free →
    s.get .SLU_RA_ARG3_META ≠ 3 → dramBase ≤ s.argBuf →
    s.argBuf + (s.get .SLU_RA_ARG1_COUNT + 1) * (4096 + metaBytes (s.get .SLU_RA_ARG3_META)) ≤ s.dramEnd →
    s.inCache s.argBuf ((s.get .SLU_RA_ARG1_COUNT + 1) * (4096 + metaBytes (s.get .SLU_RA_ARG3_META))) = false →
    Completes (.regionSet region) s (fun t => ((t.slu.regions.at region).state = .armed ∧
    (t.slu.regions.at region).ns = s.get .SLU_RA_ARG1_NS ∧ (t.slu.regions.at region).lba = s.argLba ∧
    (t.slu.regions.at region).count = s.get .SLU_RA_ARG1_COUNT + 1 ∧ (t.slu.regions.at region).buf = s.argBuf ∧
    (t.slu.regions.at region).meta_ = s.get .SLU_RA_ARG3_META ∧ t.get .SLU_RA_RES_DONE = 1 ∧ t.get .SLU_RA_RES_ERR = 0 ∧
    t.bus = .done) ∧ Frame [.bus, .slu] [.fld .SLU_RA_RES_ERR, .fld .SLU_RA_RES_DONE] s t)) ∧
  (∀ (s : State) (region : Nat), s.gated 0x4100_0604 = false →
    ((s.slu.regions.at region).state ≠ .free ∨ s.get .SLU_RA_ARG3_META = 3 ∨ s.argBuf < dramBase ∨ s.dramEnd < s.argBuf + (s.get .SLU_RA_ARG1_COUNT + 1) * (4096 + metaBytes (s.get .SLU_RA_ARG3_META)) ∨ s.inCache s.argBuf ((s.get .SLU_RA_ARG1_COUNT + 1) * (4096 + metaBytes (s.get .SLU_RA_ARG3_META))) = true) →
    Completes (.regionSet region) s (fun t => (t.get .SLU_RA_RES_DONE = 1 ∧ t.get .SLU_RA_RES_ERR = 1 ∧ t.slu = s.slu ∧
    t.bus = .done) ∧ Frame [.bus, .slu] [.fld .SLU_RA_RES_ERR, .fld .SLU_RA_RES_DONE] s t)) ∧
  (∀ (s : State) (region : Nat), s.gated 0x4100_0604 = false →
    ((s.slu.regions.at region).state = .armed ∨ (s.slu.regions.at region).state = .filling ∨ (s.slu.regions.at region).state = .valid) →
    Completes (.regionDiscard region) s (fun t => (((t.slu.regions.at region).state = .discarded ∨ (t.slu.regions.at region).state = .free) ∧
    ((s.slu.regions.at region).fill ≠ none ∨ (s.slu.regions.at region).pins ≠ 0 →
    (t.slu.regions.at region).state = .discarded) ∧ t.get .SLU_RA_RES_DONE = 1 ∧ t.get .SLU_RA_RES_ERR = 0 ∧ t.bus = .done) ∧
    Frame [.bus, .slu] [.arr (.REED_ST_CTRL_ABORT 0) 0x100 8, .fld .SLU_RA_RES_ERR, .fld .SLU_RA_RES_DONE] s t)) ∧
  (∀ (s : State) (region : Nat), s.gated 0x4100_0604 = false → (s.slu.regions.at region).state = .discarded →
    Completes (.regionDiscard region) s (fun t => (t.get .SLU_RA_RES_DONE = 1 ∧ t.get .SLU_RA_RES_ERR = 0 ∧ t.bus = .done) ∧
    Frame [.bus, .slu] [.arr (.REED_ST_CTRL_ABORT 0) 0x100 8, .fld .SLU_RA_RES_ERR, .fld .SLU_RA_RES_DONE] s t)) ∧
  (∀ (s : State) (region : Nat), s.gated 0x4100_0604 = false → (s.slu.regions.at region).state = .free →
    Completes (.regionDiscard region) s (fun t => (t.get .SLU_RA_RES_DONE = 1 ∧ t.get .SLU_RA_RES_ERR = 1 ∧ t.slu = s.slu ∧
    t.bus = .done) ∧ Frame [.bus, .slu] [.arr (.REED_ST_CTRL_ABORT 0) 0x100 8, .fld .SLU_RA_RES_ERR,
    .fld .SLU_RA_RES_DONE] s t)) ∧
  (∀ (s : State), s.gated 0x4100_0604 = false → Completes (.regionLookup) s (fun t => ((∃ b, (∀ r,
    (s.slu.regions.at r).lead (s.get .SLU_RA_ARG1_NS) s.argLba (s.get .SLU_RA_ARG1_COUNT + 1) ≤ (s.slu.regions.at b).lead (s.get .SLU_RA_ARG1_NS) s.argLba (s.get .SLU_RA_ARG1_COUNT + 1)) ∧
    t.get .SLU_RA_RES_LEAD = ((s.slu.regions.at b).lead (s.get .SLU_RA_ARG1_NS) s.argLba (s.get .SLU_RA_ARG1_COUNT + 1)) % 2 ^ Fld.SLU_RA_RES_LEAD.width ∧
    t.get .SLU_RA_RES_HIT = (if (s.slu.regions.at b).lead (s.get .SLU_RA_ARG1_NS) s.argLba (s.get .SLU_RA_ARG1_COUNT + 1) = s.get .SLU_RA_ARG1_COUNT + 1 then 2 else if 0 < (s.slu.regions.at b).lead (s.get .SLU_RA_ARG1_NS) s.argLba (s.get .SLU_RA_ARG1_COUNT + 1) then 1 else 0) ∧
    (0 < (s.slu.regions.at b).lead (s.get .SLU_RA_ARG1_NS) s.argLba (s.get .SLU_RA_ARG1_COUNT + 1) →
    t.get .SLU_RA_RES_REGION = b % 2 ^ 9) ∧
    ((s.slu.regions.at b).lead (s.get .SLU_RA_ARG1_NS) s.argLba (s.get .SLU_RA_ARG1_COUNT + 1) = s.get .SLU_RA_ARG1_COUNT + 1 →
    (t.slu.regions.at b).pins = (s.slu.regions.at b).pins + 1)) ∧ t.get .SLU_RA_RES_DONE = 1 ∧ t.get .SLU_RA_RES_ERR = 0 ∧
    t.bus = .done) ∧ Frame [.bus, .drawn, .slu] [.fld .SLU_RA_RES_HIT, .fld .SLU_RA_RES_ERR, .fld .SLU_RA_RES_DONE,
    .fld .SLU_RA_RES_LEAD, .fld .SLU_RA_RES_REGION] s t)) ∧
  (∀ (s : State) (region : Nat), s.gated 0x4100_0604 = false → (s.slu.regions.at region).pins ≠ 0 →
    Completes (.regionUnpin region) s (fun t => ((t.slu.regions.at region).pins = (s.slu.regions.at region).pins - 1 ∧
    t.get .SLU_RA_RES_DONE = 1 ∧ t.get .SLU_RA_RES_ERR = 0 ∧ t.bus = .done) ∧ Frame [.bus, .slu] [.fld .SLU_RA_RES_ERR,
    .fld .SLU_RA_RES_DONE] s t)) ∧
  (∀ (s : State) (region : Nat), s.gated 0x4100_0604 = false → (s.slu.regions.at region).pins = 0 →
    Completes (.regionUnpin region) s (fun t => (t.get .SLU_RA_RES_DONE = 1 ∧ t.get .SLU_RA_RES_ERR = 1 ∧ t.slu = s.slu ∧
    t.bus = .done) ∧ Frame [.bus, .slu] [.fld .SLU_RA_RES_ERR, .fld .SLU_RA_RES_DONE] s t)) ∧
  (∀ (s : State) (region : Nat), (s.slu.regions.at region).state = .valid → (s.slu.regions.at region).pins = 0 →
    (s.slu.regions.at region).hit = false → s.get .SLU_RA_CFG_TTL ≠ 0 →
    Completes (.regionTtlExpire region) s (fun t => (((t.slu.regions.at region).state = .discarded ∨ (t.slu.regions.at region).state = .free) ∧
    t.get .SLU_RA_MISS_COUNT = min (s.get .SLU_RA_MISS_COUNT + 1) (2 ^ 32 - 1)) ∧
    Frame [.slu] [.arr (.REED_ST_CTRL_ABORT 0) 0x100 8, .fld .SLU_RA_MISS_COUNT] s t)) ∧
  (∀ (s : State) (slot : Nat), s.gated 0x4100_0400 = false →
    Completes (.keyLoad slot) s (fun t => (t.slu.keyOps = s.slu.keyOps ++ [(slot % 64, s.keyData)] ∧
    t.get .SLU_KEY_CTRL_BUSY = 1 ∧ t.bus = .done) ∧ Frame [.bus, .slu] [.fld .SLU_KEY_CTRL_BUSY,
    .fld .SLU_KEY_CTRL_SLOT] s t)) ∧
  (∀ (s : State) (slot : Nat), s.gated 0x4100_0400 = false →
    Completes (.keyZero slot) s (fun t => (t.slu.keyOps = s.slu.keyOps ++ [(slot % 64, 0)] ∧ t.get .SLU_KEY_CTRL_BUSY = 1 ∧
    t.bus = .done) ∧ Frame [.bus, .slu] [.fld .SLU_KEY_CTRL_BUSY, .fld .SLU_KEY_CTRL_SLOT] s t)) ∧
  (∀ (s : State) (slot : Nat) (key : BitVec 512) (rest : List (Nat × BitVec 512)), s.slu.keyOps = (slot, key) :: rest →
    s.domainOn 58 = true → s.dma.any (fun e => e.2.inUnit slot) = false →
    Completes (.keyTakeEffect) s (fun t => (t.slu.keys.at slot = key ∧ t.slu.keyOps = rest ∧
    t.get .SLU_KEY_CTRL_BUSY = (!rest.isEmpty).toNat) ∧ Frame [.slu] [.fld .SLU_KEY_CTRL_BUSY] s t))

/-- Completion and effects of the commands named, on the states named (after R315, R318, R320, R339, R342, R513, each in
part). -/
def Obligations.LedgerEntriesFillAndFree : Prop :=
  (∀ (s : State), Completes (.dramTrained) s (fun t => (t.get .SLU_DRAM_CFG_TRAINED = 1) ∧
    Frame [] [.fld .SLU_DRAM_CFG_TRAINED] s t)) ∧
  (∀ (s : State) (entry : Nat) (data : List Byte), (s.slu.ledger.at entry).state = 1 →
    (s.sth.ctxs.at (s.slu.ledger.at entry).ctx).state = 3 → (s.sth.ctxs.at (s.slu.ledger.at entry).ctx).ledger = some entry →
    s.dramServes = true → (s.sth.ctxs.at (s.slu.ledger.at entry).ctx).cmd.op = .writeZeroes →
    (s.dramStore (s.runAddr (s.slu.ledger.at entry)) (List.replicate (s.runBytes (s.slu.ledger.at entry)) 0)).1 = true →
    Completes (.ledgerFilled entry data) s (fun t => ((∀ k < s.runBytes (s.slu.ledger.at entry),
    t.byteAt (s.runAddr (s.slu.ledger.at entry) + k) = 0) ∧ (∀ a,
    (a < s.runAddr (s.slu.ledger.at entry) ∨ s.runAddr (s.slu.ledger.at entry) + s.runBytes (s.slu.ledger.at entry) ≤ a) →
    t.byteAt a = s.byteAt a) ∧
    ((if 0 < s.runBytes (s.slu.ledger.at entry) then addRange 0 (s.runBytes (s.slu.ledger.at entry)) (s.slu.ledger.at entry).filled else (s.slu.ledger.at entry).filled) = [(0,
    s.runBytes (s.slu.ledger.at entry))] → (t.slu.ledger.at entry).state = 2 ∧
    (t.sth.ctxs.at (s.slu.ledger.at entry).ctx).ledgered = true)) ∧ Frame (alarmParts ++ ([.dram, .slu,
    .sth] : List Part)) (alarmRegs ++ haltRegs ++ ([.fld .SLU_STATUS_LED_FREE, .arr (.SLU_SEC_FREE_FREE 0) 0x4 4,
    .arr (.SLU_SEC_RUN_RUN 0) 0x4 4, .arr (.SLU_CRED_USED_USED 0) 0x4 32] : List Regs)) s t)) ∧
  (∀ (s : State) (entry : Nat) (data : List Byte), (s.slu.ledger.at entry).state = 1 →
    (s.sth.ctxs.at (s.slu.ledger.at entry).ctx).state = 3 → (s.sth.ctxs.at (s.slu.ledger.at entry).ctx).ledger = some entry →
    s.dramServes = true → (s.sth.ctxs.at (s.slu.ledger.at entry).ctx).cmd.op ≠ .writeZeroes →
    (s.sth.ctxs.at (s.slu.ledger.at entry).ctx).cmd.op ≠ .copy →
    (s.dramStore (s.runAddr (s.slu.ledger.at entry) + (s.sth.ctxs.at (s.slu.ledger.at entry).ctx).moved) (data.take (s.runBytes (s.slu.ledger.at entry) - (s.sth.ctxs.at (s.slu.ledger.at entry).ctx).moved))).1 = true →
    Completes (.ledgerFilled entry data) s (fun t => ((∀ k (hk : k < (data.take (s.runBytes (s.slu.ledger.at entry) - (s.sth.ctxs.at (s.slu.ledger.at entry).ctx).moved)).length),
    t.byteAt (s.runAddr (s.slu.ledger.at entry) + (s.sth.ctxs.at (s.slu.ledger.at entry).ctx).moved + k) = (data.take (s.runBytes (s.slu.ledger.at entry) - (s.sth.ctxs.at (s.slu.ledger.at entry).ctx).moved))[k]) ∧
    (∀ a,
    (a < s.runAddr (s.slu.ledger.at entry) + (s.sth.ctxs.at (s.slu.ledger.at entry).ctx).moved ∨ s.runAddr (s.slu.ledger.at entry) + (s.sth.ctxs.at (s.slu.ledger.at entry).ctx).moved + (data.take (s.runBytes (s.slu.ledger.at entry) - (s.sth.ctxs.at (s.slu.ledger.at entry).ctx).moved)).length ≤ a) →
    t.byteAt a = s.byteAt a) ∧ (t.sth.ctxs.at (s.slu.ledger.at entry).ctx).xfer = true ∧
    (t.sth.ctxs.at (s.slu.ledger.at entry).ctx).moved = (s.sth.ctxs.at (s.slu.ledger.at entry).ctx).moved + (data.take (s.runBytes (s.slu.ledger.at entry) - (s.sth.ctxs.at (s.slu.ledger.at entry).ctx).moved)).length ∧
    ((if 0 < (data.take (s.runBytes (s.slu.ledger.at entry) - (s.sth.ctxs.at (s.slu.ledger.at entry).ctx).moved)).length then addRange (s.sth.ctxs.at (s.slu.ledger.at entry).ctx).moved ((s.sth.ctxs.at (s.slu.ledger.at entry).ctx).moved + (data.take (s.runBytes (s.slu.ledger.at entry) - (s.sth.ctxs.at (s.slu.ledger.at entry).ctx).moved)).length) (s.slu.ledger.at entry).filled else (s.slu.ledger.at entry).filled) = [(0,
    s.runBytes (s.slu.ledger.at entry))] → (t.slu.ledger.at entry).state = 2 ∧
    (t.sth.ctxs.at (s.slu.ledger.at entry).ctx).ledgered = true)) ∧ Frame (alarmParts ++ ([.dram, .slu,
    .sth] : List Part)) (alarmRegs ++ haltRegs ++ ([.fld .SLU_STATUS_LED_FREE, .arr (.SLU_SEC_FREE_FREE 0) 0x4 4,
    .arr (.SLU_SEC_RUN_RUN 0) 0x4 4, .arr (.SLU_CRED_USED_USED 0) 0x4 32] : List Regs)) s t)) ∧
  (∀ (s : State) (ctx entry : Nat), s.gated 0x4100_0048 = false → (s.sth.ctxs.at ctx).ledger = some entry →
    (s.sth.ctxs.at ctx).state = 3 → (s.sth.ctxs.at ctx).cmd.op = .copy → (s.slu.ledger.at entry).state = 1 →
    Completes (.sluLedFill ctx) s (fun t => ((t.slu.ledger.at entry).state = 2 ∧
    (t.sth.ctxs.at (s.slu.ledger.at entry).ctx).ledgered = true ∧ t.dram = s.dram ∧ t.bus = .done ∧
    t.get .SLU_STATUS_REL_ERR = s.get .SLU_STATUS_REL_ERR) ∧ Frame [.bus, .slu, .sth] [.fld .SLU_STATUS_REL_ERR,
    .fld .SLU_STATUS_LED_FREE, .arr (.SLU_SEC_FREE_FREE 0) 0x4 4, .arr (.SLU_SEC_RUN_RUN 0) 0x4 4,
    .arr (.SLU_CRED_USED_USED 0) 0x4 32] s t)) ∧
  (∀ (s : State) (ctx : Nat), s.gated 0x4100_0048 = false → (∀ entry, (s.sth.ctxs.at ctx).ledger = some entry →
    (s.sth.ctxs.at ctx).state ≠ 3 ∨ (s.sth.ctxs.at ctx).cmd.op ≠ .copy ∨ (s.slu.ledger.at entry).state ≠ 1) →
    Completes (.sluLedFill ctx) s (fun t => (t.slu = s.slu ∧ t.sth = s.sth ∧ t.get .SLU_STATUS_REL_ERR = 1 ∧ t.bus = .done) ∧
    Frame [.bus, .slu, .sth] [.fld .SLU_STATUS_REL_ERR, .fld .SLU_STATUS_LED_FREE, .arr (.SLU_SEC_FREE_FREE 0) 0x4 4,
    .arr (.SLU_SEC_RUN_RUN 0) 0x4 4, .arr (.SLU_CRED_USED_USED 0) 0x4 32] s t)) ∧
  (∀ (s : State) (entry : Nat), s.gated 0x4100_0044 = false → (s.slu.ledger.at entry).state = 4 →
    Completes (.sluLedRel entry) s (fun t => (t.slu.ledger.at entry = default ∧ (∀ i, i ≠ entry →
    t.slu.ledger.at i = s.slu.ledger.at i) ∧ t.bus = .done ∧ t.get .SLU_STATUS_REL_ERR = s.get .SLU_STATUS_REL_ERR) ∧
    Frame [.bus, .slu] [.fld .SLU_STATUS_REL_ERR, .fld .SLU_STATUS_LED_FREE, .arr (.SLU_SEC_FREE_FREE 0) 0x4 4,
    .arr (.SLU_SEC_RUN_RUN 0) 0x4 4, .arr (.SLU_CRED_USED_USED 0) 0x4 32] s t)) ∧
  (∀ (s : State) (entry : Nat), s.gated 0x4100_0044 = false → (s.slu.ledger.at entry).state ≠ 4 →
    Completes (.sluLedRel entry) s (fun t => (t.slu = s.slu ∧ t.get .SLU_STATUS_REL_ERR = 1 ∧ t.bus = .done) ∧ Frame [.bus,
    .slu] [.fld .SLU_STATUS_REL_ERR, .fld .SLU_STATUS_LED_FREE, .arr (.SLU_SEC_FREE_FREE 0) 0x4 4,
    .arr (.SLU_SEC_RUN_RUN 0) 0x4 4, .arr (.SLU_CRED_USED_USED 0) 0x4 32] s t)) ∧
  (∀ (s : State), s.gated 0x4100_005C = false →
    Completes (.ledDataRead) s (fun t => (t.bus = .value ((s.slu.ledger.at (s.get .SLU_LED_CUR_INDEX)).lseq % 2 ^ 32) ∧
    t.get .SLU_LED_CUR_INDEX = (s.get .SLU_LED_CUR_INDEX + 1) % 2 ^ 15) ∧ Frame [.bus] [.fld .SLU_LED_CUR_INDEX] s t))

/-- Completion and effects of the commands named, on the states named (after R277, R325, R326, R333, R336, R337, each in
part). -/
def Obligations.TablesCommitAndMoversMove : Prop :=
  (∀ (s : State), s.gated 0x4200_0000 = false → Completes (.cswCommit) s (fun t => (t.get .CSW_STATUS_COMMIT_PEND = 1 ∧
    t.bus = .done) ∧ Frame [.bus] [.fld .CSW_STATUS_COMMIT_PEND] s t)) ∧
  (∀ (s : State) (asks : List SlotAsk), s.domainOn 39 = true → s.get .CSW_STATUS_COMMIT_PEND = 1 →
    (s.set .CSW_STATUS_COMMIT_PEND 0).commitOk = true →
    Completes (.frameBoundary asks) s (fun t => (t.get .CSW_STATUS_COMMIT_PEND = 0 ∧
    t.get .CSW_STATUS_COMMIT_ERR = s.get .CSW_STATUS_COMMIT_ERR ∧ (∀ a ∈ shadowAddrs,
    tabGet regReset t.slu.active a = s.regAt a)) ∧ Frame [.slu] [.fld .CSW_STATUS_COMMIT_PEND,
    .fld .CSW_STATUS_COMMIT_ERR] s t)) ∧
  (∀ (s : State) (asks : List SlotAsk), s.domainOn 39 = true → s.get .CSW_STATUS_COMMIT_PEND = 1 →
    (s.set .CSW_STATUS_COMMIT_PEND 0).commitOk = false →
    Completes (.frameBoundary asks) s (fun t => (t.get .CSW_STATUS_COMMIT_PEND = 0 ∧ t.get .CSW_STATUS_COMMIT_ERR = 1 ∧
    t.slu.active = s.slu.active) ∧ Frame [.slu] [.fld .CSW_STATUS_COMMIT_PEND, .fld .CSW_STATUS_COMMIT_ERR] s t)) ∧
  (∀ (s : State) (asks : List SlotAsk), s.domainOn 39 = true → s.get .CSW_STATUS_COMMIT_PEND = 0 →
    Completes (.frameBoundary asks) s (fun t => (t.slu.grants = (asks.foldl State.grant (s.updSlu (fun u => { u with grants := [] }))).slu.grants ∧
    t.slu.active = s.slu.active ∧ t.get .CSW_STATUS_COMMIT_ERR = s.get .CSW_STATUS_COMMIT_ERR) ∧
    Frame [.slu] [.fld .CSW_STATUS_COMMIT_PEND, .fld .CSW_STATUS_COMMIT_ERR] s t)) ∧
  (∀ (s : State) (r transfer : Nat), r < 16 →
    Completes (.cswHog r transfer) s (fun t => (t.get .CSW_HOG_HOG = (s.get .CSW_HOG_HOG ||| 2 ^ r) % 2 ^ 16 ∧
    t.latched 0x0A01 r = true ∧ (8 ≤ r → t.bus = .busError) ∧ (r < 8 → (s.stage r).active = true →
    (t.stage r).bufErr = ((s.stage r).bufErr || decide ((s.stage r).retried = some transfer)))) ∧ Frame (alarmParts ++
    ([.bus] : List Part)) (alarmRegs ++ haltRegs ++ ([.fld .CSW_HOG_HOG] : List Regs)) s t)) ∧
  (∀ (s : State) (n : Nat), s.domainOn 57 = true → s.dramServes = true → (s.stage n).active = true →
    (s.stage n).bufErr = false → (s.stage n).read = false → (s.stage n).moved < (s.stage n).total →
    (s.stage n).moved - (s.stage n).freed < stagingSectors (s.stage n).meta_ → (s.stage n).zeros = true →
    Completes (.moverSectorDone n) s (fun t => ((t.stage n).moved = (s.stage n).moved + 1 ∧
    (t.stage n).data = (s.stage n).data ++ [((s.stage n).moved, List.replicate (4096 + metaBytes (s.stage n).meta_) 0)] ∧
    t.dram = s.dram) ∧ Frame (alarmParts ++ ([.dram, .slu] : List Part)) (alarmRegs ++ haltRegs) s t)) ∧
  (∀ (s : State) (n : Nat) (h : List Byte), s.domainOn 57 = true → s.dramServes = true → (s.stage n).active = true →
    (s.stage n).bufErr = false → (s.stage n).read = false → (s.stage n).moved < (s.stage n).total →
    (s.stage n).moved - (s.stage n).freed < stagingSectors (s.stage n).meta_ → (s.stage n).zeros = false →
    (s.stage n).moved = 0 → (s.stage n).header = some h →
    Completes (.moverSectorDone n) s (fun t => ((t.stage n).moved = (s.stage n).moved + 1 ∧
    (t.stage n).data = (s.stage n).data ++ [((s.stage n).moved, (h ++
    List.replicate (4096 + metaBytes (s.stage n).meta_) 0).take (4096 + metaBytes (s.stage n).meta_))] ∧ t.dram = s.dram) ∧
    Frame (alarmParts ++ ([.dram, .slu] : List Part)) (alarmRegs ++ haltRegs) s t)) ∧
  (∀ (s : State) (n : Nat) (bs : List Byte), s.domainOn 57 = true → s.dramServes = true → (s.stage n).active = true →
    (s.stage n).bufErr = false → (s.stage n).read = false → (s.stage n).moved < (s.stage n).total →
    (s.stage n).moved - (s.stage n).freed < stagingSectors (s.stage n).meta_ → (s.stage n).zeros = false →
    ¬ ((s.stage n).moved = 0 ∧ (s.stage n).header.isSome = true) →
    (s.dramLoad ((s.stage n).buf + ((s.stage n).moved - (s.stage n).header.toList.length) * (4096 + metaBytes (s.stage n).meta_)) (4096 + metaBytes (s.stage n).meta_)).1 = some bs →
    Completes (.moverSectorDone n) s (fun t => ((t.stage n).moved = (s.stage n).moved + 1 ∧
    (t.stage n).data = (s.stage n).data ++ [((s.stage n).moved, bs)] ∧ t.dram = s.dram) ∧ Frame (alarmParts ++ ([.dram,
    .slu] : List Part)) (alarmRegs ++ haltRegs) s t)) ∧
  (∀ (s : State) (n : Nat), s.domainOn 57 = true → s.dramServes = true → (s.stage n).active = true →
    (s.stage n).bufErr = false → (s.stage n).read = false → (s.stage n).moved < (s.stage n).total →
    (s.stage n).moved - (s.stage n).freed < stagingSectors (s.stage n).meta_ → (s.stage n).zeros = false →
    ¬ ((s.stage n).moved = 0 ∧ (s.stage n).header.isSome = true) →
    s.dramOk ((s.stage n).buf + ((s.stage n).moved - (s.stage n).header.toList.length) * (4096 + metaBytes (s.stage n).meta_)) (4096 + metaBytes (s.stage n).meta_) = true →
    (blocksOf ((s.stage n).buf + ((s.stage n).moved - (s.stage n).header.toList.length) * (4096 + metaBytes (s.stage n).meta_)) (4096 + metaBytes (s.stage n).meta_)).any (fun b => s.poisonedAt b) = true →
    Completes (.moverSectorDone n) s (fun t => ((t.stage n).moved = (s.stage n).moved + 1 ∧
    (t.stage n).data = (s.stage n).data ++ [((s.stage n).moved, List.replicate (4096 + metaBytes (s.stage n).meta_) 0)] ∧
    t.dram = s.dram ∧ (t.stage n).markers = (s.stage n).markers ++ [(s.stage n).moved] ∧ t.latched 0x0905 0 = true) ∧
    Frame (alarmParts ++ ([.dram, .slu] : List Part)) (alarmRegs ++ haltRegs) s t)) ∧
  (∀ (s : State) (n i : Nat) (bs : List Byte) (rest : List (Nat × List Byte)), s.domainOn 57 = true → s.dramServes = true →
    (s.stage n).active = true → (s.stage n).bufErr = false → (s.stage n).read = true → (s.stage n).data = (i, bs) :: rest →
    s.earlierWaits n i = false → (s.dramStore ((s.stage n).buf + i * (4096 + metaBytes (s.stage n).meta_)) bs).1 = true →
    Completes (.moverSectorDone n) s (fun t => ((t.stage n).moved = (s.stage n).moved + 1 ∧ (t.stage n).data = rest ∧
    (∀ k (hk : k < bs.length), t.byteAt ((s.stage n).buf + i * (4096 + metaBytes (s.stage n).meta_) + k) = bs[k]) ∧ (∀ a,
    (a < (s.stage n).buf + i * (4096 + metaBytes (s.stage n).meta_) ∨ (s.stage n).buf + i * (4096 + metaBytes (s.stage n).meta_) + bs.length ≤ a) →
    t.byteAt a = s.byteAt a) ∧ (∀ r, (s.stage n).region = some r → (s.slu.regions.at r).state = .filling →
    (t.slu.regions.at r).valid = (s.slu.regions.at r).valid.set ((s.stage n).first + i) true)) ∧ Frame (alarmParts ++ ([.dram,
    .slu] : List Part)) (alarmRegs ++ haltRegs) s t))

/-- Completion and effects of the commands named, on the states named (after R342, R353, R354, R358, each in part). -/
def Obligations.ChannelsTakeCommands : Prop :=
  (∀ (s : State) (who : Who) (c : Nat), s.gated (0x4400_0100 + 0x40 * c) = false → ¬(c < 8 ∧ who ≠ .mire) →
    s.get (.LODE_CH_STATUS_STATE c) = 0 →
    Completes (.lodeStart who c) s (fun t => (t.get (.LODE_CH_STATUS_STATE c) = (if s.get (.LODE_CH_CTRL_PAUSE c) = 0 then 1 else 3) ∧
    t.get (.LODE_CH_CUR_LO_ADDR c) = s.get (.LODE_CH_HEAD_LO_ADDR c) ∧
    t.get (.LODE_CH_CUR_HI_ADDR c) = s.get (.LODE_CH_HEAD_HI_ADDR c) ∧ (t.dma.at c) = { spent := (s.dma.at c).spent } ∧
    t.bus = .done) ∧ Frame [.bus, .fenIrq, .dma] [.fld .LODE_STATUS_ACTIVE, .fld .LODE_IRQ_IRQ,
    .arr (.LODE_CH_STATUS_STATE 0) 0x40 32, .arr (.LODE_CH_STATUS_CMD_ERR 0) 0x40 32, .arr (.LODE_CH_CUR_LO_ADDR 0) 0x40 32,
    .arr (.LODE_CH_CUR_HI_ADDR 0) 0x40 32] s t)) ∧
  (∀ (s : State) (who : Who) (c : Nat), s.gated (0x4400_0100 + 0x40 * c) = false → ¬(c < 8 ∧ who ≠ .mire) →
    s.get (.LODE_CH_STATUS_STATE c) ≠ 0 → Completes (.lodeStart who c) s (fun t => (t.get (.LODE_CH_STATUS_CMD_ERR c) = 1 ∧
    t.get (.LODE_CH_STATUS_STATE c) = s.get (.LODE_CH_STATUS_STATE c) ∧ t.dma = s.dma ∧ t.bus = .done) ∧ Frame [.bus, .fenIrq,
    .dma] [.fld .LODE_STATUS_ACTIVE, .fld .LODE_IRQ_IRQ, .arr (.LODE_CH_STATUS_STATE 0) 0x40 32,
    .arr (.LODE_CH_STATUS_CMD_ERR 0) 0x40 32, .arr (.LODE_CH_CUR_LO_ADDR 0) 0x40 32,
    .arr (.LODE_CH_CUR_HI_ADDR 0) 0x40 32] s t)) ∧
  (∀ (s : State) (core c : Nat), s.gated (0x4400_0100 + 0x40 * c) = false → c < 8 →
    Completes (.lodeStart (.fen core) c) s (fun t => (t.get (.LODE_CH_STATUS_CMD_ERR c) = 1 ∧
    t.get (.LODE_CH_STATUS_STATE c) = s.get (.LODE_CH_STATUS_STATE c) ∧ t.dma = s.dma ∧ t.bus = .done) ∧ Frame [.bus, .fenIrq,
    .dma] [.fld .LODE_STATUS_ACTIVE, .fld .LODE_IRQ_IRQ, .arr (.LODE_CH_STATUS_STATE 0) 0x40 32,
    .arr (.LODE_CH_STATUS_CMD_ERR 0) 0x40 32, .arr (.LODE_CH_CUR_LO_ADDR 0) 0x40 32,
    .arr (.LODE_CH_CUR_HI_ADDR 0) 0x40 32] s t)) ∧
  (∀ (s : State) (who : Who) (c : Nat) (pause : Bool), s.gated (0x4400_0100 + 0x40 * c) = false → ¬(c < 8 ∧ who ≠ .mire) →
    s.get (.LODE_CH_STATUS_STATE c) = 0 → Completes (.lodeStop who c pause) s (fun t => (t.get (.LODE_CH_STATUS_STATE c) = 0 ∧
    t.get (.LODE_CH_CTRL_PAUSE c) = pause.toNat ∧ t.dma = s.dma ∧ t.bus = .done) ∧ Frame (alarmParts ++ ([.dram, .sram, .bus,
    .tide, .weir, .withy, .tus, .slu, .sth, .dma, .dyke] : List Part)) [.all] s t)) ∧
  (∀ (s : State) (who : Who) (c : Nat) (pause : Bool), s.gated (0x4400_0100 + 0x40 * c) = false → ¬(c < 8 ∧ who ≠ .mire) →
    s.get (.LODE_CH_STATUS_STATE c) ≠ 0 → s.get (.LODE_CH_STATUS_STATE c) ≠ 4 →
    Completes (.lodeStop who c pause) s (fun t => (t.get (.LODE_CH_STATUS_STATE c) = 5 ∧
    t.get (.LODE_CH_CTRL_PAUSE c) = pause.toNat ∧ t.dma = s.dma ∧ t.bus = .done) ∧ Frame (alarmParts ++ ([.dram, .sram, .bus,
    .tide, .weir, .withy, .tus, .slu, .sth, .dma, .dyke] : List Part)) [.all] s t)) ∧
  (∀ (s : State) (who : Who) (c : Nat) (pause : Bool), s.gated (0x4400_0100 + 0x40 * c) = false → ¬(c < 8 ∧ who ≠ .mire) →
    s.get (.LODE_CH_STATUS_STATE c) = 4 → ((s.dma.at c).loaded = false ∨ c < 8 ∨ inDram (s.dmaCur c) = true) →
    Completes (.lodeStop who c pause) s (fun t => (t.get (.LODE_CH_STATUS_STATE c) = 0 ∧ t.get (.LODE_CH_END_LO_ADDR c) = 0 ∧
    t.get (.LODE_CH_END_HI_ADDR c) = 0 ∧ (t.dma.at c).loaded = false ∧ t.bus = .done) ∧ Frame (alarmParts ++ ([.dram, .sram,
    .bus, .tide, .weir, .withy, .tus, .slu, .sth, .dma, .dyke] : List Part)) [.all] s t)) ∧
  (∀ (s : State) (who : Who) (c : Nat), s.gated (0x4400_0100 + 0x40 * c) = false → ¬(c < 8 ∧ who ≠ .mire) →
    (s.get (.LODE_CH_STATUS_STATE c) = 1 ∨ s.get (.LODE_CH_STATUS_STATE c) = 2) →
    Completes (.lodePause who c true) s (fun t => (t.get (.LODE_CH_STATUS_STATE c) = 3 ∧ t.get (.LODE_CH_CTRL_PAUSE c) = 1 ∧
    t.dma = s.dma ∧ t.bus = .done) ∧ Frame [.bus, .fenIrq] [.fld .LODE_STATUS_ACTIVE, .fld .LODE_IRQ_IRQ,
    .arr (.LODE_CH_CTRL_PAUSE 0) 0x40 32, .arr (.LODE_CH_STATUS_STATE 0) 0x40 32,
    .arr (.LODE_CH_STATUS_CMD_ERR 0) 0x40 32] s t)) ∧
  (∀ (s : State) (who : Who) (c : Nat), s.gated (0x4400_0100 + 0x40 * c) = false → ¬(c < 8 ∧ who ≠ .mire) →
    (s.get (.LODE_CH_STATUS_STATE c) = 3 ∨ s.get (.LODE_CH_STATUS_STATE c) = 4) →
    Completes (.lodePause who c false) s (fun t => (t.get (.LODE_CH_STATUS_STATE c) = (if (s.dma.at c).loaded = true ∧
    (s.dma.at c).req ≠ 0 ∧ s.get (.LODE_CH_BURST_LEFT_BYTES c) = 0 then 2 else 1) ∧ t.get (.LODE_CH_CTRL_PAUSE c) = 0 ∧
    t.dma = s.dma ∧ t.bus = .done) ∧ Frame [.bus, .fenIrq] [.fld .LODE_STATUS_ACTIVE, .fld .LODE_IRQ_IRQ,
    .arr (.LODE_CH_CTRL_PAUSE 0) 0x40 32, .arr (.LODE_CH_STATUS_STATE 0) 0x40 32,
    .arr (.LODE_CH_STATUS_CMD_ERR 0) 0x40 32] s t)) ∧
  (∀ (s : State) (who : Who) (c : Nat) (set : Bool), s.gated (0x4400_0100 + 0x40 * c) = false → ¬(c < 8 ∧ who ≠ .mire) →
    (s.get (.LODE_CH_STATUS_STATE c) = 0 ∨ s.get (.LODE_CH_STATUS_STATE c) = 5) →
    Completes (.lodePause who c set) s (fun t => (t.get (.LODE_CH_STATUS_STATE c) = s.get (.LODE_CH_STATUS_STATE c) ∧
    t.get (.LODE_CH_CTRL_PAUSE c) = set.toNat ∧ t.dma = s.dma ∧ t.bus = .done) ∧ Frame [.bus,
    .fenIrq] [.fld .LODE_STATUS_ACTIVE, .fld .LODE_IRQ_IRQ, .arr (.LODE_CH_CTRL_PAUSE 0) 0x40 32,
    .arr (.LODE_CH_STATUS_STATE 0) 0x40 32, .arr (.LODE_CH_STATUS_CMD_ERR 0) 0x40 32] s t)) ∧
  (∀ (s : State) (c k : Nat) (data : List Byte), s.dmaServes c = true → s.dmaLive c = true →
    s.get (.LODE_CH_STATUS_STATE c) = 3 → (s.dma.at c).loaded = false →
    Completes (.lodePaused c k data) s (fun t => (t.get (.LODE_CH_STATUS_STATE c) = 4 ∧ t.dma = s.dma) ∧ Frame (alarmParts ++
    ([.dram, .sram, .bus, .tide, .weir, .withy, .tus, .slu, .sth, .dma, .dyke] : List Part)) [.all] s t)) ∧
  (∀ (s : State) (c k : Nat) (data : List Byte), c < 8 → s.dmaServes c = true → s.dmaLive c = true →
    s.get (.LODE_CH_STATUS_STATE c) = 3 → (s.dma.at c).loaded = true → s.drainBytes c k ≠ 0 →
    (s.dmaRun c (s.drainBytes c k) data).1 = 0 → ((s.dmaRun c (s.drainBytes c k) data).2.dma.at c).moved ≠ (s.dma.at c).len →
    Completes (.lodePaused c k data) s (fun t => (t.get (.LODE_CH_STATUS_STATE c) = 4 ∧
    t.dma = (s.dmaRun c (s.drainBytes c k) data).2.dma ∧ t.dram = (s.dmaRun c (s.drainBytes c k) data).2.dram) ∧
    Frame (alarmParts ++ ([.dram, .sram, .bus, .tide, .weir, .withy, .tus, .slu, .sth, .dma, .dyke] : List Part)) [.all] s t)) ∧
  (∀ (s : State) (c k : Nat) (data : List Byte), c < 8 → s.dmaServes c = true → s.dmaLive c = true →
    s.get (.LODE_CH_STATUS_STATE c) = 5 → (s.dmaRun c (s.drainBytes c k) data).1 = 0 →
    Completes (.lodePaused c k data) s (fun t => (t.get (.LODE_CH_STATUS_STATE c) = 0 ∧ t.get (.LODE_CH_END_LO_ADDR c) = 0 ∧
    t.get (.LODE_CH_END_HI_ADDR c) = 0 ∧ (t.dma.at c).loaded = false ∧ (s.drainBytes c k ≠ 0 →
    t.dram = (s.dmaRun c (s.drainBytes c k) data).2.dram)) ∧ Frame (alarmParts ++ ([.dram, .sram, .bus, .tide, .weir, .withy,
    .tus, .slu, .sth, .dma, .dyke] : List Part)) [.all] s t))

/-- Completion and effects of the commands named, on the states named (after R297, R342, R346, R347, R350, R351, R352, each in
part). -/
def Obligations.ChannelsMoveBytes : Prop :=
  (∀ (s : State) (c : Nat) (h : HostDescriptor), c < 8 → s.dmaServes c = true → s.get (.LODE_CH_STATUS_STATE c) = 0 →
    s.get (.LODE_CH_CTRL_PAUSE c) = 0 → 32 ≤ h.bytes.length →
    s.hostLive c { ctx := some h.ctx, seq := (s.ctx h.ctx).seq, desc := h.bytes.take 32 } = true →
    ({ desc := h.bytes.take 32 } : DmaChannel).bad = false →
    Completes (.lodeDescriptorLoad c (some h)) s (fun t => (t.get (.LODE_CH_STATUS_STATE c) = (if ({ desc := h.bytes.take 32 } : DmaChannel).req = 0 then 1 else 2) ∧
    (t.dma.at c) = { loaded := true, desc := h.bytes.take 32, ctx := some h.ctx, seq := (s.ctx h.ctx).seq, spent := (s.dma.at c).spent } ∧
    t.get (.LODE_CH_BURST_LEFT_BYTES c) = 0 ∧ t.dram = s.dram) ∧ Frame (alarmParts ++ ([.dram, .sram, .bus, .tide, .weir,
    .withy, .tus, .slu, .sth, .dma, .dyke] : List Part)) [.all] s t)) ∧
  (∀ (s : State) (c : Nat) (bs : List Byte), 8 ≤ c → s.dmaServes c = true → s.get (.LODE_CH_STATUS_STATE c) = 1 →
    (s.dma.at c).loaded = false → inDram (s.dmaCur c) = true → (s.dramLoad (s.dmaCur c) 32).1 = some bs →
    ({ desc := bs } : DmaChannel).bad = false →
    Completes (.lodeDescriptorLoad c none) s (fun t => (t.get (.LODE_CH_STATUS_STATE c) = (if ({ desc := bs } : DmaChannel).req = 0 then 1 else 2) ∧
    (t.dma.at c).loaded = true ∧ (t.dma.at c).desc = bs ∧ (t.dma.at c).moved = 0 ∧ t.get (.LODE_CH_BURST_LEFT_BYTES c) = 0 ∧
    t.dram = s.dram) ∧ Frame (alarmParts ++ ([.dram, .sram, .bus, .tide, .weir, .withy, .tus, .slu, .sth, .dma,
    .dyke] : List Part)) [.all] s t)) ∧
  (∀ (s : State) (c : Nat), 8 ≤ c → s.dmaServes c = true → s.get (.LODE_CH_STATUS_STATE c) = 1 → (s.dma.at c).loaded = false →
    inDram (s.dmaCur c) = true → (s.dramLoad (s.dmaCur c) 32).1 = none →
    Completes (.lodeDescriptorLoad c none) s (fun t => (t.get (.LODE_CH_STATUS_DESC_ERR c) = 1 ∧
    t.get (.LODE_CH_STATUS_STATE c) = 0 ∧ t.get (.LODE_CH_END_LO_ADDR c) = 0 ∧ t.get (.LODE_CH_END_HI_ADDR c) = 0 ∧
    t.latched 0x0C02 0 = true ∧ t.dma = s.dma) ∧ Frame (alarmParts ++ ([.dram, .sram, .bus, .tide, .weir, .withy, .tus, .slu,
    .sth, .dma, .dyke] : List Part)) [.all] s t)) ∧
  (∀ (s : State) (c : Nat) (data : List Byte), c < 8 → s.dmaServes c = true → s.dmaLive c = true →
    (s.dma.at c).loaded = true → s.get (.LODE_CH_STATUS_STATE c) = 1 →
    ((s.dma.at c).req = 0 ∨ s.get (.LODE_CH_BURST_LEFT_BYTES c) = ((s.dma.at c).len - (s.dma.at c).got)) →
    (s.dma.at c).held = false → (s.dma.at c).xts = false → (s.dma.at c).part = [] → inDram (s.dma.at c).src = false →
    inDram ((s.dma.at c).dst + (s.dma.at c).moved) = true →
    s.dramOk ((s.dma.at c).dst + (s.dma.at c).moved) ((s.dma.at c).len - (s.dma.at c).got) = true →
    (∀ b ∈ blocksOf ((s.dma.at c).dst + (s.dma.at c).moved) (((s.dma.at c).len - (s.dma.at c).got)), s.poisonedAt b = false) →
    Completes (.lodeDescriptorDone c data) s (fun t => ((∀ k < ((s.dma.at c).len - (s.dma.at c).got),
    t.byteAt ((s.dma.at c).dst + (s.dma.at c).moved + k) = data.getD k 0) ∧ (∀ a,
    (a < (s.dma.at c).dst + (s.dma.at c).moved ∨ (s.dma.at c).dst + (s.dma.at c).moved + ((s.dma.at c).len - (s.dma.at c).got) ≤ a) →
    t.byteAt a = s.byteAt a) ∧ t.get (.LODE_CH_STATUS_DONE_CNT c) = (s.get (.LODE_CH_STATUS_DONE_CNT c) + 1) % 2 ^ 16 ∧
    (t.dma.at c).loaded = false ∧ (∀ k < 4,
    t.sramAt (stagedAt (s.dmaCur c + 40) + k) = (leBytes 4 (2 ^ 30 + (s.dma.at c).late.toNat * 2 ^ 29 + ((s.dma.at c).moved + ((s.dma.at c).len - (s.dma.at c).got)))).getD k 0) ∧
    ((leNat ((List.range 8).map (fun i => s.sramAt (stagedAt (s.dmaCur c + 32) + i)))) % 2 = 0 →
    t.get (.LODE_CH_STATUS_STATE c) = 0 ∧ t.get (.LODE_CH_END_LO_ADDR c) = s.get (.LODE_CH_CUR_LO_ADDR c) ∧
    t.get (.LODE_CH_END_HI_ADDR c) = s.get (.LODE_CH_CUR_HI_ADDR c)) ∧
    ((leNat ((List.range 8).map (fun i => s.sramAt (stagedAt (s.dmaCur c + 32) + i)))) % 2 = 1 →
    t.dmaCur c = (leNat ((List.range 8).map (fun i => s.sramAt (stagedAt (s.dmaCur c + 32) + i)))) % 2 ^ 40 / 64 * 64 ∧
    t.get (.LODE_CH_STATUS_STATE c) = if s.get (.LODE_CH_CTRL_PAUSE c) = 0 then 1 else 3)) ∧ Frame (alarmParts ++ ([.dram,
    .sram, .bus, .tide, .weir, .withy, .tus, .slu, .sth, .dma, .dyke] : List Part)) [.all] s t)) ∧
  (∀ (s : State) (c k : Nat) (write : Bool) (data : List Byte), (c < 8 ∨ (k = 0 ∧ inDram (s.dmaCur c) = true)) →
    s.dmaServes c = true → s.dmaLive c = true → (s.dma.at c).loaded = true →
    (s.get (.LODE_CH_STATUS_STATE c) = 1 ∨ s.get (.LODE_CH_STATUS_STATE c) = 3 ∨ s.get (.LODE_CH_STATUS_STATE c) = 5) →
    (if (s.dma.at c).req = 0 then ((s.dma.at c).len - (s.dma.at c).got) else s.get (.LODE_CH_BURST_LEFT_BYTES c)) ≠ 0 →
    Completes (.lodeBusErr c k write data) s (fun t => (t.get (.LODE_CH_STATUS_BUS_ERR c) = 1 ∧
    t.get (.LODE_CH_STATUS_DONE_CNT c) = (s.get (.LODE_CH_STATUS_DONE_CNT c) + 1) % 2 ^ 16 ∧ t.latched 0x0C01 0 = true ∧
    (t.dma.at c).loaded = false) ∧ Frame (alarmParts ++ ([.dram, .sram, .bus, .tide, .weir, .withy, .tus, .slu, .sth, .dma,
    .dyke] : List Part)) [.all] s t)) ∧
  (∀ (s : State) (c lines : Nat) (late : Bool) (data : List Byte), c < 32 → (s.dma.at c).req ≠ 0 →
    lines / 2 ^ (s.dma.at c).req % 2 = 1 → (s.dma.at c).loaded = true → (s.dma.at c).spent ≠ (s.dma.at c).req →
    s.get (.LODE_CH_STATUS_STATE c) = 2 → s.dmaServes c = true →
    Completes (.requestCommit c lines 0 late data) s (fun t => (t.get .LODE_REQ_LEVEL = lines / 2 % 2 ^ 15 ∧ (∀ j < 32,
    (s.dma.at j).loaded = true → (s.dma.at j).req = (s.dma.at c).req → (s.dma.at j).spent ≠ (s.dma.at c).req →
    s.get (.LODE_CH_STATUS_STATE j) = 2 → s.dmaServes j = true → t.get (.LODE_CH_STATUS_STATE j) = 1 ∧
    t.get (.LODE_CH_BURST_LEFT_BYTES j) = min (s.dma.at j).burstSize ((s.dma.at j).len - (s.dma.at j).got) % 2 ^ 13 ∧
    (t.dma.at j).spent = (s.dma.at c).req ∧ (t.dma.at j).moved = (s.dma.at j).moved ∧ (late = true →
    (t.dma.at j).late = true ∧ t.get (.LODE_CH_STATUS_LATE_WITHDRAW j) = 1)) ∧ t.dram = s.dram ∧ t.sram = s.sram) ∧
    Frame (alarmParts ++ ([.dram, .sram, .bus, .tide, .weir, .withy, .tus, .slu, .sth, .dma, .dyke] : List Part)) [.all] s t)) ∧
  (∀ (s : State) (c lines k : Nat) (late : Bool) (data : List Byte), 8 ≤ c → c < 32 → (s.dma.at c).loaded = true →
    s.get (.LODE_CH_STATUS_STATE c) = 1 → s.dmaServes c = true → s.get (.LODE_CH_BURST_LEFT_BYTES c) ≠ 0 → k ≠ 0 →
    (s.dma.at c).req ≠ 0 → (s.dma.at c).srcFix = true → (s.dma.at c).dstFix = false → (s.dma.at c).xts = false →
    (s.dma.at c).part = [] → inDram (s.dma.at c).src = false → inTcm (s.dma.at c).src 4 = false →
    windowOf (s.dma.at c).src = none → inDram ((s.dma.at c).dst + (s.dma.at c).moved) = true →
    s.dramOk ((s.dma.at c).dst + (s.dma.at c).moved) (min k (s.get (.LODE_CH_BURST_LEFT_BYTES c)) / 4 * 4) = true →
    (∀ b ∈ blocksOf ((s.dma.at c).dst + (s.dma.at c).moved) ((min k (s.get (.LODE_CH_BURST_LEFT_BYTES c)) / 4 * 4)),
    s.poisonedAt b = false) →
    Completes (.requestCommit c lines k late data) s (fun t => ((∀ i < (min k (s.get (.LODE_CH_BURST_LEFT_BYTES c)) / 4 * 4),
    t.byteAt ((s.dma.at c).dst + (s.dma.at c).moved + i) = data.getD i 0) ∧ (∀ a,
    (a < (s.dma.at c).dst + (s.dma.at c).moved ∨ (s.dma.at c).dst + (s.dma.at c).moved + (min k (s.get (.LODE_CH_BURST_LEFT_BYTES c)) / 4 * 4) ≤ a) →
    t.byteAt a = s.byteAt a) ∧
    (t.dma.at c).moved = (s.dma.at c).moved + (min k (s.get (.LODE_CH_BURST_LEFT_BYTES c)) / 4 * 4) ∧
    t.get (.LODE_CH_BURST_LEFT_BYTES c) = s.get (.LODE_CH_BURST_LEFT_BYTES c) - (min k (s.get (.LODE_CH_BURST_LEFT_BYTES c)) / 4 * 4) ∧
    t.get (.LODE_CH_STATUS_STATE c) = (if s.get (.LODE_CH_BURST_LEFT_BYTES c) = (min k (s.get (.LODE_CH_BURST_LEFT_BYTES c)) / 4 * 4) ∧
    (s.dma.at c).moved + (min k (s.get (.LODE_CH_BURST_LEFT_BYTES c)) / 4 * 4) < (s.dma.at c).len then 2 else 1)) ∧
    Frame (alarmParts ++ ([.dram, .sram, .bus, .tide, .weir, .withy, .tus, .slu, .sth, .dma, .dyke] : List Part)) [.all] s t))

/-- Completion and effects of the commands named, on the states named (after R360, R361, R364, R365, R367, R374, each in
part). -/
def Obligations.CarrServesAccesses : Prop :=
  (∀ (s : State) (core addr size : Nat), s.inWindow addr 1 = false →
    Completes (.carrLoad core addr size) s (fun t => (t.bus = s.bus ∧ t.dram = s.dram ∧
    t.carr = { s.carr with answers := [] }) ∧ Frame (alarmParts ++ ([.bus, .carr] : List Part)) (alarmRegs ++ haltRegs ++
    ([.fld .CARR_STATUS_PWB_CNT] : List Regs)) s t)) ∧
  (∀ (s : State) (core addr size : Nat), s.inWindow addr 1 = true →
    ({ core := core, addr := addr, size := size, op := .load } : CarrAccess).legal = false →
    Completes (.carrLoad core addr size) s (fun t => (t.bus = .busError ∧ t.carr.answers = [(core, .busError)] ∧
    t.dram = s.dram) ∧ Frame (alarmParts ++ ([.bus, .carr] : List Part)) (alarmRegs ++ haltRegs ++
    ([.fld .CARR_STATUS_PWB_CNT] : List Regs)) s t)) ∧
  (∀ (s : State) (core addr size : Nat) (d : List Byte), s.inWindow addr 1 = true →
    ({ core := core, addr := addr, size := size, op := .load } : CarrAccess).legal = true → s.domainOn 56 = true →
    (s.get .CARR_STATUS_STATE = 1 ∨ s.dramServes = true) →
    s.carrBehind ({ core := core, addr := addr, size := size, op := .load } : CarrAccess) = false →
    s.carrNeeds ({ core := core, addr := addr, size := size, op := .load } : CarrAccess) = false →
    (s.carrData (addr / 64)).1 = some d →
    Completes (.carrLoad core addr size) s (fun t => (t.bus = .value (fieldAt d (addr % 64) size) ∧ t.carr.answers = [(core,
    .value (fieldAt d (addr % 64) size))] ∧ (s.get .CARR_STATUS_STATE = 1 →
    t.carr.stat.at 0 = min (s.carr.stat.at 0 + 1) 0xFFFF_FFFF) ∧ t.carr.lines = s.carr.lines ∧ t.dram = s.dram) ∧
    Frame (alarmParts ++ ([.bus, .carr] : List Part)) (alarmRegs ++ haltRegs ++
    ([.fld .CARR_STATUS_PWB_CNT] : List Regs)) s t)) ∧
  (∀ (s : State) (core addr size : Nat), s.inWindow addr 1 = true →
    ({ core := core, addr := addr, size := size, op := .load } : CarrAccess).legal = true → s.domainOn 56 = true →
    (s.get .CARR_STATUS_STATE = 1 ∨ s.dramServes = true) →
    s.carrBehind ({ core := core, addr := addr, size := size, op := .load } : CarrAccess) = false →
    s.carrNeeds ({ core := core, addr := addr, size := size, op := .load } : CarrAccess) = true →
    s.carr.fills.any (fun f => f.line == (addr / 64) && !f.discard) = false →
    Completes (.carrLoad core addr size) s (fun t => (t.carr.fills = s.carr.fills ++
    [{ line := (addr / 64), waiting := [({ core := core, addr := addr, size := size, op := .load } : CarrAccess)] }] ∧
    t.carr.stat.at 1 = min (s.carr.stat.at 1 + 1) 0xFFFF_FFFF ∧ t.bus = s.bus ∧ t.carr.lines = s.carr.lines ∧
    t.dram = s.dram) ∧ Frame (alarmParts ++ ([.bus, .carr] : List Part)) (alarmRegs ++ haltRegs ++
    ([.fld .CARR_STATUS_PWB_CNT] : List Regs)) s t)) ∧
  (∀ (s : State) (core addr : Nat) (data : List Byte), s.inWindow addr 1 = true →
    ({ core := core, addr := addr, size := data.length, op := .store data } : CarrAccess).legal = true →
    s.domainOn 56 = true → (s.get .CARR_STATUS_STATE = 1 ∨ s.dramServes = true) →
    s.carrBehind ({ core := core, addr := addr, size := data.length, op := .store data } : CarrAccess) = false → (∀ p,
    s.carr.pwb.getLast? = some p → p.line ≠ (addr / 64)) → s.carr.pwb.length < 4 →
    Completes (.carrStore core addr data) s (fun t => (t.bus = .done ∧ t.carr.answers = [(core, .done)] ∧
    t.carr.pwb = s.carr.pwb ++ [{ line := (addr / 64), bytes := storeMask addr data, cores := [core] }] ∧
    t.get .CARR_STATUS_PWB_CNT = s.carr.pwb.length + 1 ∧ (∀ k l, s.carrFind (addr / 64) = some k →
    s.carr.lines.at k = some l →
    t.carr.lines.at k = some { l with data := Posted.over { line := (addr / 64), bytes := storeMask addr data } l.data }) ∧
    t.dram = s.dram) ∧ Frame (alarmParts ++ ([.bus, .carr] : List Part)) (alarmRegs ++ haltRegs ++
    ([.fld .CARR_STATUS_PWB_CNT] : List Regs)) s t)) ∧
  (∀ (s : State) (core addr : Nat) (data : List Byte) (p : Posted), s.inWindow addr 1 = true →
    ({ core := core, addr := addr, size := data.length, op := .store data } : CarrAccess).legal = true →
    s.domainOn 56 = true → (s.get .CARR_STATUS_STATE = 1 ∨ s.dramServes = true) →
    s.carrBehind ({ core := core, addr := addr, size := data.length, op := .store data } : CarrAccess) = false →
    s.carr.pwb.getLast? = some p → p.line = (addr / 64) → Completes (.carrStore core addr data) s (fun t => (t.bus = .done ∧
    t.carr.answers = [(core, .done)] ∧ t.carr.pwb = s.carr.pwb.dropLast ++
    [{ p with bytes := (p.bytes.zip (storeMask addr data)).map (fun e => e.2.orElse (fun _ => e.1)), cores := p.cores ++ [core] }] ∧
    (∀ k l, s.carrFind (addr / 64) = some k → s.carr.lines.at k = some l →
    t.carr.lines.at k = some { l with data := Posted.over { line := (addr / 64), bytes := storeMask addr data } l.data }) ∧
    t.dram = s.dram) ∧ Frame (alarmParts ++ ([.bus, .carr] : List Part)) (alarmRegs ++ haltRegs ++
    ([.fld .CARR_STATUS_PWB_CNT] : List Regs)) s t)) ∧
  (∀ (s : State) (core addr : Nat) (data : List Byte), s.inWindow addr 1 = true →
    ({ core := core, addr := addr, size := data.length, op := .store data } : CarrAccess).legal = true →
    s.domainOn 56 = true → (s.get .CARR_STATUS_STATE = 1 ∨ s.dramServes = true) →
    s.carrBehind ({ core := core, addr := addr, size := data.length, op := .store data } : CarrAccess) = false → (∀ p,
    s.carr.pwb.getLast? = some p → p.line ≠ (addr / 64)) → 4 ≤ s.carr.pwb.length →
    Completes (.carrStore core addr data) s (fun t => (t.carr.stalled = s.carr.stalled ++
    [({ core := core, addr := addr, size := data.length, op := .store data } : CarrAccess)] ∧ t.carr.pwb = s.carr.pwb ∧
    t.bus = s.bus ∧ t.dram = s.dram) ∧ Frame (alarmParts ++ ([.bus, .carr] : List Part)) (alarmRegs ++ haltRegs ++
    ([.fld .CARR_STATUS_PWB_CNT] : List Regs)) s t)) ∧
  (∀ (s : State) (core addr size x : Nat) (d : List Byte), s.inWindow addr 1 = true →
    ({ core := core, addr := addr, size := size, op := .amo .lr x } : CarrAccess).legal = true → s.domainOn 56 = true →
    (s.get .CARR_STATUS_STATE = 1 ∨ s.dramServes = true) →
    s.carrBehind ({ core := core, addr := addr, size := size, op := .amo .lr x } : CarrAccess) = false →
    s.carrNeeds ({ core := core, addr := addr, size := size, op := .amo .lr x } : CarrAccess) = false →
    (s.carrData (addr / 64)).1 = some d →
    Completes (.carrAmo core addr size .lr x) s (fun t => (t.bus = .value (fieldAt d (addr % 64) size) ∧
    t.carr.answers = [(core, .value (fieldAt d (addr % 64) size))] ∧ t.carr.resv.at core = some (addr / 64) ∧
    t.carr.pwb = s.carr.pwb ∧ t.dram = s.dram) ∧ Frame (alarmParts ++ ([.bus, .carr] : List Part)) (alarmRegs ++ haltRegs ++
    ([.fld .CARR_STATUS_PWB_CNT] : List Regs)) s t)) ∧
  (∀ (s : State) (core addr size x : Nat), s.inWindow addr 1 = true →
    ({ core := core, addr := addr, size := size, op := .amo .sc x } : CarrAccess).legal = true → s.domainOn 56 = true →
    (s.get .CARR_STATUS_STATE = 1 ∨ s.dramServes = true) →
    s.carrBehind ({ core := core, addr := addr, size := size, op := .amo .sc x } : CarrAccess) = false →
    s.carr.resv.at core ≠ some (addr / 64) → Completes (.carrAmo core addr size .sc x) s (fun t => (t.bus = .value 1 ∧
    t.carr.answers = [(core, .value 1)] ∧ t.carr.pwb = s.carr.pwb ∧ t.carr.resv.at core = none ∧ t.dram = s.dram) ∧
    Frame (alarmParts ++ ([.bus, .carr] : List Part)) (alarmRegs ++ haltRegs ++
    ([.fld .CARR_STATUS_PWB_CNT] : List Regs)) s t)) ∧
  (∀ (s : State) (core addr size x : Nat), s.inWindow addr 1 = true →
    ({ core := core, addr := addr, size := size, op := .amo .sc x } : CarrAccess).legal = true → s.domainOn 56 = true →
    (s.get .CARR_STATUS_STATE = 1 ∨ s.dramServes = true) →
    s.carrBehind ({ core := core, addr := addr, size := size, op := .amo .sc x } : CarrAccess) = false →
    s.carr.resv.at core = some (addr / 64) → (∀ p, s.carr.pwb.getLast? = some p → p.line ≠ (addr / 64)) →
    s.carr.pwb.length < 4 → Completes (.carrAmo core addr size .sc x) s (fun t => (t.bus = .value 0 ∧ t.carr.answers = [(core,
    .value 0)] ∧ t.carr.pwb = s.carr.pwb ++
    [{ line := (addr / 64), bytes := storeMask addr (leBytes size x), cores := [core] }] ∧
    t.get .CARR_STATUS_PWB_CNT = s.carr.pwb.length + 1 ∧ (∀ i, t.carr.resv.at i ≠ some (addr / 64)) ∧ t.dram = s.dram) ∧
    Frame (alarmParts ++ ([.bus, .carr] : List Part)) (alarmRegs ++ haltRegs ++
    ([.fld .CARR_STATUS_PWB_CNT] : List Regs)) s t)) ∧
  (∀ (s : State) (core addr size x : Nat) (op : AmoOp) (d : List Byte), op ≠ .lr → op ≠ .sc → op ≠ .fence →
    s.inWindow addr 1 = true → ({ core := core, addr := addr, size := size, op := .amo op x } : CarrAccess).legal = true →
    s.domainOn 56 = true → (s.get .CARR_STATUS_STATE = 1 ∨ s.dramServes = true) →
    s.carrBehind ({ core := core, addr := addr, size := size, op := .amo op x } : CarrAccess) = false →
    s.carrNeeds ({ core := core, addr := addr, size := size, op := .amo op x } : CarrAccess) = false →
    (s.carrData (addr / 64)).1 = some d → (∀ p, s.carr.pwb.getLast? = some p → p.line ≠ (addr / 64)) → s.carr.pwb.length < 4 →
    Completes (.carrAmo core addr size op x) s (fun t => (t.bus = .value (fieldAt d (addr % 64) size) ∧
    t.carr.answers = [(core, .value (fieldAt d (addr % 64) size))] ∧ t.carr.pwb = s.carr.pwb ++
    [{ line := (addr / 64), bytes := storeMask addr (leBytes size (amoResult op size (fieldAt d (addr % 64) size) x)), cores := [core] }] ∧
    t.get .CARR_STATUS_PWB_CNT = s.carr.pwb.length + 1 ∧ t.dram = s.dram) ∧ Frame (alarmParts ++ ([.bus,
    .carr] : List Part)) (alarmRegs ++ haltRegs ++ ([.fld .CARR_STATUS_PWB_CNT] : List Regs)) s t)) ∧
  (∀ (s : State) (core addr size x : Nat), s.domainOn 56 = true →
    s.carrBehind ({ core := core, addr := addr, size := size, op := .amo .fence x } : CarrAccess) = false →
    s.fenceDone core = true → Completes (.carrAmo core addr size .fence x) s (fun t => (t.bus = .done ∧
    t.carr.answers = [(core, .done)] ∧ t.carr.pwb = s.carr.pwb ∧ t.dram = s.dram) ∧ Frame (alarmParts ++ ([.bus,
    .carr] : List Part)) (alarmRegs ++ haltRegs ++ ([.fld .CARR_STATUS_PWB_CNT] : List Regs)) s t)) ∧
  (∀ (s : State) (core addr size x : Nat), s.domainOn 56 = true →
    s.carrBehind ({ core := core, addr := addr, size := size, op := .amo .fence x } : CarrAccess) = false →
    s.fenceDone core = false → Completes (.carrAmo core addr size .fence x) s (fun t => (t.carr.stalled = s.carr.stalled ++
    [({ core := core, addr := addr, size := size, op := .amo .fence x } : CarrAccess)] ∧ t.bus = s.bus ∧ t.dram = s.dram) ∧
    Frame (alarmParts ++ ([.bus, .carr] : List Part)) (alarmRegs ++ haltRegs ++
    ([.fld .CARR_STATUS_PWB_CNT] : List Regs)) s t))

/-- Completion and effects of the commands named, on the states named (after R365, R366, R368, R370, R373, each in part). -/
def Obligations.CarrFillsAndDrains : Prop :=
  (∀ (s : State) (line : Nat) (f : Fill) (d : List Byte), s.carrRuns = true →
    s.carr.fills.find? (fun f => f.line = line) = some f → f.discard = false → s.get .CARR_STATUS_STATE = 1 → (∃ w < 16,
    s.wayLocked w = false) → (∀ a ∈ f.waiting, a.op = .load ∧ a.addr / 64 = line) → s.carr.stalled = [] →
    s.carrFind line = none → (s.carrFetch line).1 = some d → Completes (.lineFill line) s (fun t => ((∃ w < 16,
    s.wayLocked w = false ∧ t.carr.lines.at (16 * s.carrSet line + w) = some { line := line, data := d }) ∧
    t.carr.fills = s.carr.fills.eraseP (fun f => f.line = line) ∧ t.carr.answers = f.waiting.map (fun a => (a.core,
    .value (fieldAt d (a.addr % 64) a.size))) ∧ t.dram = s.dram) ∧ Frame (alarmParts ++ ([.bus, .drawn,
    .carr] : List Part)) (alarmRegs ++ haltRegs ++ ([.fld .CARR_STATUS_PWB_CNT,
    .fld .CARR_OP_STATUS_REMAIN] : List Regs)) s t)) ∧
  (∀ (s : State) (line : Nat) (f : Fill) (d : List Byte), s.carrRuns = true →
    s.carr.fills.find? (fun f => f.line = line) = some f → f.discard = true → (∀ a ∈ f.waiting, a.op = .load ∧
    a.addr / 64 = line) → s.carr.stalled = [] → s.carrFind line = none → (s.carrFetch line).1 = some d →
    Completes (.lineFill line) s (fun t => (t.carr.lines = s.carr.lines ∧
    t.carr.fills = s.carr.fills.eraseP (fun f => f.line = line) ∧ t.carr.stat.at 7 = min (s.carr.stat.at 7 + 1) 0xFFFF_FFFF ∧
    t.carr.answers = f.waiting.map (fun a => (a.core, .value (fieldAt d (a.addr % 64) a.size))) ∧ t.dram = s.dram) ∧
    Frame (alarmParts ++ ([.bus, .drawn, .carr] : List Part)) (alarmRegs ++ haltRegs ++ ([.fld .CARR_STATUS_PWB_CNT,
    .fld .CARR_OP_STATUS_REMAIN] : List Regs)) s t)) ∧
  (∀ (s : State) (line : Nat) (f : Fill), s.carrRuns = true → s.carr.fills.find? (fun f => f.line = line) = some f →
    (s.carrFetch line).1 = none → Completes (.lineFill line) s (fun t => (t.carr.lines = s.carr.lines ∧
    t.carr.fills = s.carr.fills.eraseP (fun f => f.line = line) ∧ t.carr.answers = f.waiting.map (fun a => (a.core,
    .busError)) ∧ t.bus = .busError ∧ t.dram = s.dram) ∧ Frame (alarmParts ++ ([.bus, .drawn,
    .carr] : List Part)) (alarmRegs ++ haltRegs ++ ([.fld .CARR_STATUS_PWB_CNT,
    .fld .CARR_OP_STATUS_REMAIN] : List Regs)) s t)) ∧
  (∀ (s : State) (line : Nat) (d : List Byte), s.carrRuns = true → s.carr.fills.find? (fun f => f.line = line) = none →
    s.get .CARR_OP_STATUS_BUSY = 1 → s.carr.op = 1 → s.carr.next = line → s.get .CARR_OP_STATUS_REMAIN ≠ 0 →
    s.get .CARR_STATUS_STATE = 1 → (s.carrFetch line).1 = some d →
    Completes (.lineFill line) s (fun t => (t.carr.lines.at (16 * s.carrSet line + s.carr.way) = some { line := line, data := d } ∧
    t.carr.next = line + 1 ∧ t.get .CARR_OP_STATUS_REMAIN = s.get .CARR_OP_STATUS_REMAIN - 1 ∧ t.dram = s.dram) ∧
    Frame (alarmParts ++ ([.bus, .drawn, .carr] : List Part)) (alarmRegs ++ haltRegs ++ ([.fld .CARR_STATUS_PWB_CNT,
    .fld .CARR_OP_STATUS_REMAIN] : List Regs)) s t)) ∧
  (∀ (s : State) (cycles : Nat) (p : Posted) (rest : List Posted), s.carrRuns = true → s.carr.pwb = p :: rest →
    s.carr.stalled = [] → s.dramOk (p.line * 64) 64 = true → s.poisonedAt (p.line * 64) = false →
    Completes (.pwbDrain cycles) s (fun t => (t.carr.pwb = rest ∧ t.get .CARR_STATUS_PWB_CNT = rest.length % 2 ^ 3 ∧
    (∀ k < 64, t.byteAt (p.line * 64 + k) = (p.bytes.getD k none).getD (s.byteAt (p.line * 64 + k))) ∧ (∀ a,
    (a < p.line * 64 ∨ p.line * 64 + 64 ≤ a) → t.byteAt a = s.byteAt a) ∧ (s.get .CARR_STATUS_STATE = 2 → rest = [] →
    t.get .CARR_STATUS_STATE = 0 ∧ t.carr.lines = [])) ∧ Frame (alarmParts ++ ([.dram, .bus, .slu,
    .carr] : List Part)) (alarmRegs ++ haltRegs ++ ([.fld .CARR_STATUS_STATE, .fld .CARR_STATUS_PWB_CNT] : List Regs)) s t))

/-- Completion and effects of the commands named, on the states named (after R368, R370, R374, each in part). -/
def Obligations.CarrIsManaged : Prop :=
  (∀ (s : State), s.gated 0x4300_0000 = false → s.get .CARR_STATUS_STATE = 0 → s.windowOk = true →
    Completes (.carrEnable) s (fun t => (t.get .CARR_CTRL_EN = 1 ∧ t.get .CARR_STATUS_STATE = 1 ∧
    t.get .CARR_STATUS_CFG_ERR = s.get .CARR_STATUS_CFG_ERR ∧ t.bus = .done) ∧ Frame [.bus] [.fld .CARR_CTRL_EN,
    .fld .CARR_STATUS_STATE, .fld .CARR_STATUS_CFG_ERR] s t)) ∧
  (∀ (s : State), s.gated 0x4300_0000 = false → ((s.get .CARR_STATUS_STATE = 0 ∧
    s.windowOk = false) ∨ s.get .CARR_STATUS_STATE = 2) →
    Completes (.carrEnable) s (fun t => (t.get .CARR_CTRL_EN = s.get .CARR_CTRL_EN ∧
    t.get .CARR_STATUS_STATE = s.get .CARR_STATUS_STATE ∧ t.get .CARR_STATUS_CFG_ERR = 1 ∧ t.bus = .done) ∧
    Frame [.bus] [.fld .CARR_CTRL_EN, .fld .CARR_STATUS_STATE, .fld .CARR_STATUS_CFG_ERR] s t)) ∧
  (∀ (s : State), s.gated 0x4300_0000 = false → s.get .CARR_STATUS_STATE = 1 → s.carr.pwb ≠ [] →
    Completes (.carrDisable) s (fun t => (t.get .CARR_CTRL_EN = 0 ∧ t.get .CARR_STATUS_STATE = 2 ∧ t.carr = s.carr ∧
    t.bus = .done) ∧ Frame [.bus, .carr] [.fld .CARR_CTRL_EN, .fld .CARR_STATUS_STATE] s t)) ∧
  (∀ (s : State), s.gated 0x4300_0000 = false → s.get .CARR_STATUS_STATE = 1 → s.carr.pwb = [] →
    Completes (.carrDisable) s (fun t => (t.get .CARR_CTRL_EN = 0 ∧ t.get .CARR_STATUS_STATE = 0 ∧ t.carr.lines = [] ∧
    t.carr.resv = [] ∧ t.bus = .done) ∧ Frame [.bus, .carr] [.fld .CARR_CTRL_EN, .fld .CARR_STATUS_STATE] s t)) ∧
  (∀ (s : State) (clear : Bool), s.gated 0x4300_0000 = false → Completes (.statSnap clear) s (fun t => ((∀ i < 8,
    t.get (.CARR_STAT_COUNT i) = s.carr.stat.at i % 2 ^ 32) ∧ t.carr.stat = (if clear then [] else s.carr.stat) ∧
    t.bus = .done) ∧ Frame [.bus, .carr] [.arr (.CARR_STAT_COUNT 0) 0x4 8] s t)) ∧
  (∀ (s : State), s.gated 0x4300_0000 = false → Completes (.statClear) s (fun t => (t.carr.stat = [] ∧ t.bus = .done) ∧
    Frame [.bus, .carr] [] s t)) ∧
  (∀ (s : State) (way : Nat), s.gated 0x4300_0020 = false → s.get .CARR_OP_STATUS_BUSY = 0 → s.get .CARR_STATUS_STATE = 1 →
    s.get .CARR_OP_LINES_LINES ≠ 0 → s.get .CARR_OP_LINES_LINES ≤ 262144 →
    s.inWindow (s.opLine * 64) (64 * s.get .CARR_OP_LINES_LINES) = true →
    Completes (.preload way) s (fun t => (t.get .CARR_OP_STATUS_BUSY = 1 ∧
    t.get .CARR_OP_STATUS_ERR = s.get .CARR_OP_STATUS_ERR ∧ t.bus = .done ∧
    t.get .CARR_OP_STATUS_REMAIN = s.get .CARR_OP_LINES_LINES ∧ t.carr.op = 1 ∧ t.carr.way = way % 16 ∧
    t.carr.next = s.opLine) ∧ Frame [.bus, .carr] [.fld .CARR_OP_STATUS_BUSY, .fld .CARR_OP_STATUS_ERR,
    .fld .CARR_OP_STATUS_REMAIN] s t)) ∧
  (∀ (s : State) (way : Nat), s.gated 0x4300_0020 = false →
    (s.get .CARR_OP_STATUS_BUSY = 1 ∨ s.get .CARR_STATUS_STATE ≠ 1 ∨ s.get .CARR_OP_LINES_LINES = 0 ∨ 262144 < s.get .CARR_OP_LINES_LINES ∨ s.inWindow (s.opLine * 64) (64 * s.get .CARR_OP_LINES_LINES) = false) →
    Completes (.preload way) s (fun t => (t.get .CARR_OP_STATUS_BUSY = s.get .CARR_OP_STATUS_BUSY ∧
    t.get .CARR_OP_STATUS_ERR = 1 ∧ t.carr = s.carr ∧ t.bus = .done) ∧ Frame [.bus, .carr] [.fld .CARR_OP_STATUS_BUSY,
    .fld .CARR_OP_STATUS_ERR, .fld .CARR_OP_STATUS_REMAIN] s t)) ∧
  (∀ (s : State), s.gated 0x4300_0020 = false → s.get .CARR_OP_STATUS_BUSY = 0 → s.get .CARR_STATUS_STATE = 1 →
    s.get .CARR_OP_LINES_LINES ≠ 0 → s.get .CARR_OP_LINES_LINES ≤ 262144 →
    s.inWindow (s.opLine * 64) (64 * s.get .CARR_OP_LINES_LINES) = true →
    Completes (.invRange) s (fun t => (t.get .CARR_OP_STATUS_BUSY = 1 ∧
    t.get .CARR_OP_STATUS_ERR = s.get .CARR_OP_STATUS_ERR ∧ t.bus = .done ∧
    t.get .CARR_OP_STATUS_REMAIN = s.get .CARR_OP_LINES_LINES ∧ t.carr.op = 2 ∧ t.carr.next = s.opLine) ∧ Frame [.bus,
    .carr] [.fld .CARR_OP_STATUS_BUSY, .fld .CARR_OP_STATUS_ERR, .fld .CARR_OP_STATUS_REMAIN] s t)) ∧
  (∀ (s : State), s.gated 0x4300_0020 = false →
    (s.get .CARR_OP_STATUS_BUSY = 1 ∨ s.get .CARR_STATUS_STATE ≠ 1 ∨ s.get .CARR_OP_LINES_LINES = 0 ∨ 262144 < s.get .CARR_OP_LINES_LINES ∨ s.inWindow (s.opLine * 64) (64 * s.get .CARR_OP_LINES_LINES) = false) →
    Completes (.invRange) s (fun t => (t.get .CARR_OP_STATUS_BUSY = s.get .CARR_OP_STATUS_BUSY ∧
    t.get .CARR_OP_STATUS_ERR = 1 ∧ t.carr = s.carr ∧ t.bus = .done) ∧ Frame [.bus, .carr] [.fld .CARR_OP_STATUS_BUSY,
    .fld .CARR_OP_STATUS_ERR, .fld .CARR_OP_STATUS_REMAIN] s t)) ∧
  (∀ (s : State), s.gated 0x4300_0020 = false → s.get .CARR_OP_STATUS_BUSY = 0 → s.get .CARR_STATUS_STATE = 1 →
    s.get .CARR_OP_LINES_LINES ≠ 0 → s.get .CARR_OP_LINES_LINES ≤ 262144 →
    Completes (.invAll) s (fun t => (t.get .CARR_OP_STATUS_BUSY = 1 ∧ t.get .CARR_OP_STATUS_ERR = s.get .CARR_OP_STATUS_ERR ∧
    t.bus = .done ∧ t.get .CARR_OP_STATUS_REMAIN = 16384 ∧ t.carr.op = 3) ∧ Frame [.bus, .carr] [.fld .CARR_OP_STATUS_BUSY,
    .fld .CARR_OP_STATUS_ERR, .fld .CARR_OP_STATUS_REMAIN] s t)) ∧
  (∀ (s : State), s.gated 0x4300_0020 = false →
    (s.get .CARR_OP_STATUS_BUSY = 1 ∨ s.get .CARR_STATUS_STATE ≠ 1 ∨ s.get .CARR_OP_LINES_LINES = 0 ∨ 262144 < s.get .CARR_OP_LINES_LINES) →
    Completes (.invAll) s (fun t => (t.get .CARR_OP_STATUS_BUSY = s.get .CARR_OP_STATUS_BUSY ∧ t.get .CARR_OP_STATUS_ERR = 1 ∧
    t.carr = s.carr ∧ t.bus = .done) ∧ Frame [.bus, .carr] [.fld .CARR_OP_STATUS_BUSY, .fld .CARR_OP_STATUS_ERR,
    .fld .CARR_OP_STATUS_REMAIN] s t)) ∧
  (∀ (s : State), s.carrRuns = true → s.get .CARR_OP_STATUS_BUSY = 1 →
    Completes (.carrOpDone) s (fun t => (t.get .CARR_OP_STATUS_BUSY = 0 ∧ t.get .CARR_OP_STATUS_REMAIN = 0) ∧
    Frame (alarmParts ++ ([.carr] : List Part)) (alarmRegs ++ haltRegs ++ ([.fld .CARR_OP_STATUS_BUSY,
    .fld .CARR_OP_STATUS_REMAIN] : List Regs)) s t)) ∧
  (∀ (s : State), s.carrRuns = true → s.get .CARR_OP_STATUS_BUSY = 1 → s.carr.op = 2 →
    Completes (.carrOpDone) s (fun t => (t.get .CARR_OP_STATUS_BUSY = 0 ∧ t.get .CARR_OP_STATUS_REMAIN = 0 ∧
    (∀ i < s.get .CARR_OP_STATUS_REMAIN, t.carrFind (s.carr.next + i) = none)) ∧ Frame (alarmParts ++
    ([.carr] : List Part)) (alarmRegs ++ haltRegs ++ ([.fld .CARR_OP_STATUS_BUSY,
    .fld .CARR_OP_STATUS_REMAIN] : List Regs)) s t)) ∧
  (∀ (s : State), s.carrRuns = true → s.get .CARR_OP_STATUS_BUSY = 1 → s.carr.op = 3 →
    Completes (.carrOpDone) s (fun t => (t.get .CARR_OP_STATUS_BUSY = 0 ∧ t.get .CARR_OP_STATUS_REMAIN = 0 ∧
    t.carr.lines = [] ∧ t.carr.resv = []) ∧ Frame (alarmParts ++ ([.carr] : List Part)) (alarmRegs ++ haltRegs ++
    ([.fld .CARR_OP_STATUS_BUSY, .fld .CARR_OP_STATUS_REMAIN] : List Regs)) s t))

/-- Completion and effects of the commands named, on the states named (after R288, R289, R290, R298, R300, R311, R312, each in
part). -/
def Obligations.CommandsAreFetched : Prop :=
  (∀ (s : State) (k q tail : Nat), s.domainOn (59 + k / 16) = true → s.rings k q = true →
    Completes (.sqDoorbell k q tail) s (fun t => ((t.sth.sqs.at (queueKey k q)).tail = tail ∧
    (t.sth.sqs.at (queueKey k q)).head = (s.sth.sqs.at (queueKey k q)).head ∧ t.get .STH_IDLE_STATUS_IDLE = 0 ∧
    t.sth.idleMs = 0) ∧ Frame [.sth] [.fld .STH_IDLE_STATUS_IDLE] s t)) ∧
  (∀ (s : State) (k q tail : Nat), s.domainOn (59 + k / 16) = true → s.rings k q = false →
    Completes (.sqDoorbell k q tail) s (fun t => (t.sth.sqs = s.sth.sqs ∧ t.get .STH_IDLE_STATUS_IDLE = 0 ∧
    t.sth.idleMs = 0) ∧ Frame [.sth] [.fld .STH_IDLE_STATUS_IDLE] s t)) ∧
  (∀ (s : State) (k q head : Nat), s.domainOn (59 + k / 16) = true → s.rings k q = true →
    Completes (.cqDoorbell k q head) s (fun t => ((t.sth.cqs.at (queueKey k q)).head = head ∧
    (t.sth.cqs.at (queueKey k q)).tail = (s.sth.cqs.at (queueKey k q)).tail ∧ t.get .STH_IDLE_STATUS_IDLE = 0 ∧
    t.sth.idleMs = 0) ∧ Frame [.sth] [.fld .STH_IDLE_STATUS_IDLE] s t)) ∧
  (∀ (s : State) (k q head : Nat), s.domainOn (59 + k / 16) = true → s.rings k q = false →
    Completes (.cqDoorbell k q head) s (fun t => (t.sth.cqs = s.sth.cqs ∧ t.get .STH_IDLE_STATUS_IDLE = 0 ∧
    t.sth.idleMs = 0) ∧ Frame [.sth] [.fld .STH_IDLE_STATUS_IDLE] s t)) ∧
  (∀ (s : State) (x : Nat) (cmd : HostCommand), s.domainOn (59 + cmd.cntlid / 16) = true → s.fetches cmd.cntlid = true →
    s.turn cmd.cntlid = true → s.picks cmd.cntlid = some cmd.sqid →
    (s.sth.sqs.at (queueKey cmd.cntlid cmd.sqid)).head ≠ (s.sth.sqs.at (queueKey cmd.cntlid cmd.sqid)).tail →
    (s.ctx x).state = 0 → x < 4096 → cmd.op ≠ .zoneAppend →
    Completes (.commandFetch x cmd) s (fun t => (t.sth.ctxs.at x = { state := 1, cmd := cmd, seq := s.sth.nextSeq, ranges := cmd.locks } ∧
    t.sth.sqs.at (queueKey cmd.cntlid cmd.sqid) = { s.sth.sqs.at (queueKey cmd.cntlid cmd.sqid) with head := ((s.sth.sqs.at (queueKey cmd.cntlid cmd.sqid)).head + 1) % max 1 cmd.size } ∧
    t.sth.nextSeq = (s.sth.nextSeq + 1) % 2 ^ 32 ∧ t.sth.new_ = s.sth.new_ ∧ t.get .STH_IDLE_STATUS_IDLE = 0 ∧
    (s.get .STH_PS_CUR ≠ 0 → t.get .STH_IDLE_STATUS_EXPIRED = (s.get .STH_IDLE_STATUS_EXPIRED ||| 1) % 2 ^ 4 ∧
    (s.get .STH_PS_CORE, FenIrq.idle 0) ∈ t.fenIrq)) ∧ Frame [.fenIrq, .sth] [.fld .STH_STATUS_QUIESCED,
    .fld .STH_STATUS_LIVE, .fld .STH_LOCK_STATUS_WAITING, .fld .STH_LOCK_STATUS_HELD, .fld .STH_IDLE_STATUS_EXPIRED,
    .fld .STH_IDLE_STATUS_IDLE] s t)) ∧
  (∀ (s : State) (x : Nat) (cmd : HostCommand), s.domainOn (59 + cmd.cntlid / 16) = true → s.fetches cmd.cntlid = true →
    s.turn cmd.cntlid = true → s.picks cmd.cntlid = some cmd.sqid →
    (s.sth.sqs.at (queueKey cmd.cntlid cmd.sqid)).head ≠ (s.sth.sqs.at (queueKey cmd.cntlid cmd.sqid)).tail →
    (s.ctx x).state = 0 → x < 4096 → cmd.op = .zoneAppend →
    Completes (.commandFetch x cmd) s (fun t => (t.sth.ctxs.at x = { state := 2, cmd := cmd, seq := s.sth.nextSeq, ranges := cmd.locks } ∧
    t.sth.sqs.at (queueKey cmd.cntlid cmd.sqid) = { s.sth.sqs.at (queueKey cmd.cntlid cmd.sqid) with head := ((s.sth.sqs.at (queueKey cmd.cntlid cmd.sqid)).head + 1) % max 1 cmd.size } ∧
    t.sth.nextSeq = (s.sth.nextSeq + 1) % 2 ^ 32 ∧
    t.sth.new_.at (s.get (.STH_CTL_CFG_CORE cmd.cntlid)) = s.sth.new_.at (s.get (.STH_CTL_CFG_CORE cmd.cntlid)) ++
    [{ assign := true, flushReady := false, ctx := x }] ∧ t.get .STH_IDLE_STATUS_IDLE = 0 ∧ (s.get .STH_PS_CUR ≠ 0 →
    t.get .STH_IDLE_STATUS_EXPIRED = (s.get .STH_IDLE_STATUS_EXPIRED ||| 1) % 2 ^ 4 ∧ (s.get .STH_PS_CORE,
    FenIrq.idle 0) ∈ t.fenIrq)) ∧ Frame [.fenIrq, .sth] [.fld .STH_STATUS_QUIESCED, .fld .STH_STATUS_LIVE,
    .fld .STH_LOCK_STATUS_WAITING, .fld .STH_LOCK_STATUS_HELD, .fld .STH_IDLE_STATUS_EXPIRED,
    .fld .STH_IDLE_STATUS_IDLE] s t))

/-- Completion and effects of the commands named, on the states named (after R293, R295, R296, R298, R302, R314, R317, each in
part). -/
def Obligations.CommandsAreAdmitted : Prop :=
  (∀ (s : State) (x : Nat) (c : Ctx),
    s.grantAppends.bySeq.find? (fun e => s.grantAppends.admissible e.1 && !s.grantAppends.agedBlocks e.1) = some (x, c) →
    Completes (.admission) s (fun t => ((t.ctx x).state = 3 ∧ (t.ctx x).aged = false ∧
    (t.ctx x).held = ((s.grantAppends.ctx x).held || !(s.grantAppends.ctx x).ranges.isEmpty) ∧
    t.sth.new_.at (s.get (.STH_CTL_CFG_CORE (s.grantAppends.ctx x).cmd.cntlid)) = s.sth.new_.at (s.get (.STH_CTL_CFG_CORE (s.grantAppends.ctx x).cmd.cntlid)) ++
    [{ assign := false, flushReady := false, ctx := x }] ∧ (∀ i k u, (s.grantAppends.ctx x).cmd.op.carriesData = true →
    s.grantAppends.spaceFor (s.grantAppends.ctx x).cmd.nsid (s.grantAppends.ctx x).target.1 (s.grantAppends.ctx x).target.2 = some (i,
    k, u) → (t.ctx x).ledger = some i ∧ (t.slu.ledger.at i).state = 1 ∧ (t.slu.ledger.at i).section_ = k ∧
    (t.slu.ledger.at i).unit = u ∧ (t.slu.ledger.at i).count = (s.grantAppends.ctx x).target.2 ∧
    (t.slu.ledger.at i).lseq = s.slu.lseq ∧ (t.slu.ledger.at i).ctx = x)) ∧ Frame [.slu,
    .sth] [.arr (.REED_ST_CTRL_ABORT 0) 0x100 8, .fld .STH_STATUS_QUIESCED, .fld .STH_STATUS_LIVE,
    .fld .STH_LOCK_STATUS_WAITING, .fld .STH_LOCK_STATUS_HELD, .fld .SLU_STATUS_LED_FREE, .arr (.SLU_SEC_FREE_FREE 0) 0x4 4,
    .arr (.SLU_SEC_RUN_RUN 0) 0x4 4, .arr (.SLU_CRED_USED_USED 0) 0x4 32] s t)) ∧
  (∀ (s : State),
    s.grantAppends.bySeq.find? (fun e => s.grantAppends.admissible e.1 && !s.grantAppends.agedBlocks e.1) = none →
    Completes (.admission) s (fun t => (t.sth = s.grantAppends.sth ∧ t.slu = s.grantAppends.slu) ∧ Frame [.slu,
    .sth] [.arr (.REED_ST_CTRL_ABORT 0) 0x100 8, .fld .STH_STATUS_QUIESCED, .fld .STH_STATUS_LIVE,
    .fld .STH_LOCK_STATUS_WAITING, .fld .STH_LOCK_STATUS_HELD, .fld .SLU_STATUS_LED_FREE, .arr (.SLU_SEC_FREE_FREE 0) 0x4 4,
    .arr (.SLU_SEC_RUN_RUN 0) 0x4 4, .arr (.SLU_CRED_USED_USED 0) 0x4 32] s t)) ∧
  (∀ (s : State) (x : Nat), s.oldestWaiting = some x →
    Completes (.admissionAge) s (fun t => (t.sth.ctxs.at x = { s.sth.ctxs.at x with aged := true }) ∧ Frame [.sth] [] s t)) ∧
  (∀ (s : State) (ctx : Nat), (s.ctx ctx).state = 3 → (s.ctx ctx).cmd.op = .flush → (s.ctx ctx).notified = false →
    (∀ e ∈ s.sth.ctxs, e.2.cmd.op.writeKind = true → e.2.state ≠ 4 → seqBefore e.2.seq (s.ctx ctx).seq = true →
    (s.ctx ctx).cmd.nsid ≠ 0xFFFF_FFFF ∧ e.2.cmd.nsid ≠ (s.ctx ctx).cmd.nsid ∧ ∀ r ∈ e.2.ranges,
    r.ns ≠ (s.ctx ctx).cmd.nsid) →
    Completes (.flushReady ctx) s (fun t => (t.sth.ctxs.at ctx = { s.sth.ctxs.at ctx with notified := true } ∧
    t.sth.new_.at (s.get (.STH_CTL_CFG_CORE (s.ctx ctx).cmd.cntlid)) = s.sth.new_.at (s.get (.STH_CTL_CFG_CORE (s.ctx ctx).cmd.cntlid)) ++
    [{ assign := false, flushReady := true, ctx := ctx }]) ∧ Frame [.sth] [] s t)) ∧
  (∀ (s : State) (core : Nat) (e : NewEntry) (rest : List NewEntry), s.gated 0x4000_0020 = false →
    s.sth.new_.at core = e :: rest →
    Completes (.sthNewRead core) s (fun t => (t.bus = .value (2 ^ 31 + e.assign.toNat * 2 ^ 30 + e.flushReady.toNat * 2 ^ 29 + e.ctx) ∧
    t.sth.new_.at core = rest) ∧ Frame [.bus, .sth] [] s t)) ∧
  (∀ (s : State) (core : Nat), s.gated 0x4000_0020 = false → s.sth.new_.at core = [] →
    Completes (.sthNewRead core) s (fun t => (t.bus = .value 0 ∧ t.sth = s.sth) ∧ Frame [.bus, .sth] [] s t)) ∧
  (∀ (s : State) (ctx : Nat), s.gated 0x4000_0084 = false → (s.ctx ctx).state = 2 →
    (s.get .STH_ZA_LBA_HI_LBA * 2 ^ 32 + s.get .STH_ZA_LBA_LO_LBA) + (s.ctx ctx).cmd.count ≤ 2 ^ 48 →
    Completes (.sthZaSet ctx) s (fun t => ((t.ctx ctx).state = 1 ∧
    (t.ctx ctx).zaLba = (s.get .STH_ZA_LBA_HI_LBA * 2 ^ 32 + s.get .STH_ZA_LBA_LO_LBA) ∧
    (t.ctx ctx).ranges = [{ ns := (s.ctx ctx).cmd.nsid, first := (s.get .STH_ZA_LBA_HI_LBA * 2 ^ 32 + s.get .STH_ZA_LBA_LO_LBA), count := (s.ctx ctx).cmd.count, excl := true }] ∧
    t.get .STH_STATUS_ZA_ERR = s.get .STH_STATUS_ZA_ERR ∧ t.bus = .done) ∧ Frame [.bus, .slu,
    .sth] [.arr (.REED_ST_CTRL_ABORT 0) 0x100 8, .fld .STH_STATUS_QUIESCED, .fld .STH_STATUS_ZA_ERR, .fld .STH_STATUS_LIVE,
    .fld .STH_LOCK_STATUS_WAITING, .fld .STH_LOCK_STATUS_HELD] s t)) ∧
  (∀ (s : State) (ctx : Nat), s.gated 0x4000_0084 = false →
    ((s.ctx ctx).state ≠ 2 ∨ 2 ^ 48 < (s.get .STH_ZA_LBA_HI_LBA * 2 ^ 32 + s.get .STH_ZA_LBA_LO_LBA) + (s.ctx ctx).cmd.count) →
    Completes (.sthZaSet ctx) s (fun t => (t.sth = s.sth ∧ t.get .STH_STATUS_ZA_ERR = 1 ∧ t.bus = .done) ∧ Frame [.bus, .slu,
    .sth] [.arr (.REED_ST_CTRL_ABORT 0) 0x100 8, .fld .STH_STATUS_QUIESCED, .fld .STH_STATUS_ZA_ERR, .fld .STH_STATUS_LIVE,
    .fld .STH_LOCK_STATUS_WAITING, .fld .STH_LOCK_STATUS_HELD] s t))

/-- Completion and effects of the commands named, on the states named (after R299, R300, R301, R303, each in part). -/
def Obligations.CompletionsPost : Prop :=
  (∀ (s : State) (who : Who) (core ctx status : Nat), s.gated 0x4000_0044 = false →
    ((s.ctx ctx).state = 3 ∨ ((s.ctx ctx).state = 2 ∧ (s.ctx ctx).cmd.op = .zoneAppend ∧ success status = false)) →
    (success status = false ∨ (s.ctx ctx).cmd.op.carriesData = false ∨ (s.ctx ctx).ledgered = true) →
    s.get (.STH_CTL_CFG_RST_PEND (s.ctx ctx).cmd.cntlid) = 0 →
    Completes (.sthCpl who core ctx status) s (fun t => (t.sth.ctxs.at ctx = { s.sth.ctxs.at ctx with state := 4, held := false, ranges := [], dw0 := s.get (.STH_CPL_DW0_DW0 core), status := status % 2 ^ 15 } ∧
    (t.sth.cqs.at (queueKey (s.ctx ctx).cmd.cntlid (s.ctx ctx).cmd.cqid)).waiting = (s.sth.cqs.at (queueKey (s.ctx ctx).cmd.cntlid (s.ctx ctx).cmd.cqid)).waiting ++
    [ctx] ∧ t.sth.fates = s.sth.fates ∧ (∀ i, (s.ctx ctx).ledger = some i → (s.slu.ledger.at i).state = 1 →
    (s.slu.ledger.at i).ctx = ctx → t.slu.ledger.at i = default) ∧ t.bus = .done) ∧ Frame (alarmParts ++ ([.bus, .slu,
    .sth] : List Part)) (alarmRegs ++ haltRegs ++ ([.arr (.REED_ST_CTRL_ABORT 0) 0x100 8, .fld .STH_STATUS_QUIESCED,
    .fld .STH_STATUS_CPL_ERR, .fld .STH_STATUS_LIVE, .fld .STH_LOCK_STATUS_WAITING, .fld .STH_LOCK_STATUS_HELD,
    .fld .STH_FATE_STATUS_UNRESOLVED, .fld .STH_FATE_STATUS_RECORDS, .fld .STH_FATE_DROP_COUNT,
    .arr (.STH_CTL_CFG_RST_PEND 0) 0x4 32, .fld .SLU_STATUS_LED_FREE, .arr (.SLU_SEC_FREE_FREE 0) 0x4 4] : List Regs) ++
    ([.arr (.SLU_SEC_RUN_RUN 0) 0x4 4, .arr (.SLU_CRED_USED_USED 0) 0x4 32] : List Regs)) s t)) ∧
  (∀ (s : State) (who : Who) (core ctx status : Nat), s.gated 0x4000_0044 = false → (((s.ctx ctx).state ≠ 3 ∧
    ((s.ctx ctx).state ≠ 2 ∨ (s.ctx ctx).cmd.op ≠ .zoneAppend ∨ success status = true)) ∨ (success status = true ∧
    (s.ctx ctx).cmd.op.carriesData = true ∧ (s.ctx ctx).ledgered = false)) →
    Completes (.sthCpl who core ctx status) s (fun t => (t.sth = s.sth ∧ t.get .STH_STATUS_CPL_ERR = 1 ∧
    t.latched 0x0804 who.coreOf = true) ∧ Frame (alarmParts ++ ([.bus, .slu, .sth] : List Part)) (alarmRegs ++ haltRegs ++
    ([.arr (.REED_ST_CTRL_ABORT 0) 0x100 8, .fld .STH_STATUS_QUIESCED, .fld .STH_STATUS_CPL_ERR, .fld .STH_STATUS_LIVE,
    .fld .STH_LOCK_STATUS_WAITING, .fld .STH_LOCK_STATUS_HELD, .fld .STH_FATE_STATUS_UNRESOLVED,
    .fld .STH_FATE_STATUS_RECORDS, .fld .STH_FATE_DROP_COUNT, .arr (.STH_CTL_CFG_RST_PEND 0) 0x4 32,
    .fld .SLU_STATUS_LED_FREE, .arr (.SLU_SEC_FREE_FREE 0) 0x4 4] : List Regs) ++ ([.arr (.SLU_SEC_RUN_RUN 0) 0x4 4,
    .arr (.SLU_CRED_USED_USED 0) 0x4 32] : List Regs)) s t)) ∧
  (∀ (s : State) (who : Who) (core ctx status : Nat), s.gated 0x4000_0044 = false →
    ((s.ctx ctx).state = 3 ∨ ((s.ctx ctx).state = 2 ∧ (s.ctx ctx).cmd.op = .zoneAppend ∧ success status = false)) →
    (success status = false ∨ (s.ctx ctx).cmd.op.carriesData = false ∨ (s.ctx ctx).ledgered = true) →
    s.get (.STH_CTL_CFG_RST_PEND (s.ctx ctx).cmd.cntlid) = 1 → s.sth.fates.length < 8192 →
    Completes (.sthCpl who core ctx status) s (fun t => (t.sth.ctxs.at ctx = default ∧ t.sth.fates = s.sth.fates ++
    [if (s.ctx ctx).cmd.op.carriesData = true then s.fateOf (s.ctx ctx) ((s.ctx ctx).dataFate 1).1 ((s.ctx ctx).dataFate 1).2 1 else s.fateOf (s.ctx ctx) 3 3 1] ∧
    t.bus = .done) ∧ Frame (alarmParts ++ ([.bus, .slu, .sth] : List Part)) (alarmRegs ++ haltRegs ++
    ([.arr (.REED_ST_CTRL_ABORT 0) 0x100 8, .fld .STH_STATUS_QUIESCED, .fld .STH_STATUS_CPL_ERR, .fld .STH_STATUS_LIVE,
    .fld .STH_LOCK_STATUS_WAITING, .fld .STH_LOCK_STATUS_HELD, .fld .STH_FATE_STATUS_UNRESOLVED,
    .fld .STH_FATE_STATUS_RECORDS, .fld .STH_FATE_DROP_COUNT, .arr (.STH_CTL_CFG_RST_PEND 0) 0x4 32,
    .fld .SLU_STATUS_LED_FREE, .arr (.SLU_SEC_FREE_FREE 0) 0x4 4] : List Regs) ++ ([.arr (.SLU_SEC_RUN_RUN 0) 0x4 4,
    .arr (.SLU_CRED_USED_USED 0) 0x4 32] : List Regs)) s t)) ∧
  (∀ (s : State) (ctx size : Nat), s.domainOn (59 + (s.ctx ctx).cmd.cntlid / 16) = true →
    s.get (.STH_CTL_CFG_RST_PEND (s.ctx ctx).cmd.cntlid) = 0 → (s.ctx ctx).state = 4 →
    (s.sth.cqs.at (queueKey (s.ctx ctx).cmd.cntlid (s.ctx ctx).cmd.cqid)).waiting.head? = some ctx →
    ((s.sth.cqs.at (queueKey (s.ctx ctx).cmd.cntlid (s.ctx ctx).cmd.cqid)).tail + 1) % max 1 size ≠ (s.sth.cqs.at (queueKey (s.ctx ctx).cmd.cntlid (s.ctx ctx).cmd.cqid)).head →
    s.get .WEIR_STATUS_PF ≠ 2 → Completes (.completionPost ctx size) s (fun t => (t.sth.ctxs.at ctx = default ∧
    (t.sth.cqs.at (queueKey (s.ctx ctx).cmd.cntlid (s.ctx ctx).cmd.cqid)).tail = ((s.sth.cqs.at (queueKey (s.ctx ctx).cmd.cntlid (s.ctx ctx).cmd.cqid)).tail + 1) % max 1 size ∧
    (t.sth.cqs.at (queueKey (s.ctx ctx).cmd.cntlid (s.ctx ctx).cmd.cqid)).slots.at (s.sth.cqs.at (queueKey (s.ctx ctx).cmd.cntlid (s.ctx ctx).cmd.cqid)).tail = s.cplEntry (s.ctx ctx) (s.sth.cqs.at (queueKey (s.ctx ctx).cmd.cntlid (s.ctx ctx).cmd.cqid)).phase) ∧
    Frame [.slu, .sth] [.arr (.REED_ST_CTRL_ABORT 0) 0x100 8, .fld .STH_STATUS_QUIESCED, .fld .STH_STATUS_LIVE,
    .fld .STH_LOCK_STATUS_WAITING, .fld .STH_LOCK_STATUS_HELD, .fld .SLU_STATUS_LED_FREE, .arr (.SLU_SEC_FREE_FREE 0) 0x4 4,
    .arr (.SLU_SEC_RUN_RUN 0) 0x4 4, .arr (.SLU_CRED_USED_USED 0) 0x4 32] s t))

/-- Completion and effects of the commands named, on the states named (after R303, R304, R306, R308, R309, R311, R314, each in
part). -/
def Obligations.FatesAreRecorded : Prop :=
  (∀ (s : State) (who : Who) (fate reason ctx : Nat), s.gated 0x4000_0080 = false → (s.ctx ctx).state ≠ 0 →
    (s.get (.STH_CTL_CFG_RST_PEND (s.ctx ctx).cmd.cntlid) = 1 ∨ s.get .STH_CTRL_QUIESCE = 1) → s.sth.fates.length < 8192 →
    Completes (.sthCtxEnd who fate reason ctx) s (fun t => (t.sth.ctxs.at ctx = default ∧ t.sth.fates = s.sth.fates ++
    [if (s.ctx ctx).cmd.op.carriesData = true then s.fateOf (s.ctx ctx) ((s.ctx ctx).dataFate 1).1 ((s.ctx ctx).dataFate 1).2 (if s.get (.STH_CTL_CFG_RST_PEND (s.ctx ctx).cmd.cntlid) = 1 then 1 else 4) else s.fateOf (s.ctx ctx) (fate % 4) (reason % 256) (if s.get (.STH_CTL_CFG_RST_PEND (s.ctx ctx).cmd.cntlid) = 1 then 1 else 4)] ∧
    t.bus = .done) ∧ Frame (alarmParts ++ ([.bus, .slu, .sth] : List Part)) (alarmRegs ++ haltRegs ++
    ([.arr (.REED_ST_CTRL_ABORT 0) 0x100 8, .fld .STH_STATUS_QUIESCED, .fld .STH_STATUS_CPL_ERR, .fld .STH_STATUS_LIVE,
    .fld .STH_LOCK_STATUS_WAITING, .fld .STH_LOCK_STATUS_HELD, .fld .STH_FATE_STATUS_UNRESOLVED,
    .fld .STH_FATE_STATUS_RECORDS, .fld .STH_FATE_DROP_COUNT, .arr (.STH_CTL_CFG_RST_PEND 0) 0x4 32,
    .fld .SLU_STATUS_LED_FREE, .arr (.SLU_SEC_FREE_FREE 0) 0x4 4] : List Regs) ++ ([.arr (.SLU_SEC_RUN_RUN 0) 0x4 4,
    .arr (.SLU_CRED_USED_USED 0) 0x4 32] : List Regs)) s t)) ∧
  (∀ (s : State) (who : Who) (fate reason ctx : Nat), s.gated 0x4000_0080 = false →
    ((s.ctx ctx).state = 0 ∨ (s.get (.STH_CTL_CFG_RST_PEND (s.ctx ctx).cmd.cntlid) = 0 ∧ s.get .STH_CTRL_QUIESCE = 0)) →
    Completes (.sthCtxEnd who fate reason ctx) s (fun t => (t.sth = s.sth ∧ t.get .STH_STATUS_CPL_ERR = 1 ∧
    t.latched 0x0804 who.coreOf = true) ∧ Frame (alarmParts ++ ([.bus, .slu, .sth] : List Part)) (alarmRegs ++ haltRegs ++
    ([.arr (.REED_ST_CTRL_ABORT 0) 0x100 8, .fld .STH_STATUS_QUIESCED, .fld .STH_STATUS_CPL_ERR, .fld .STH_STATUS_LIVE,
    .fld .STH_LOCK_STATUS_WAITING, .fld .STH_LOCK_STATUS_HELD, .fld .STH_FATE_STATUS_UNRESOLVED,
    .fld .STH_FATE_STATUS_RECORDS, .fld .STH_FATE_DROP_COUNT, .arr (.STH_CTL_CFG_RST_PEND 0) 0x4 32,
    .fld .SLU_STATUS_LED_FREE, .arr (.SLU_SEC_FREE_FREE 0) 0x4 4] : List Regs) ++ ([.arr (.SLU_SEC_RUN_RUN 0) 0x4 4,
    .arr (.SLU_CRED_USED_USED 0) 0x4 32] : List Regs)) s t)) ∧
  (∀ (s : State) (fate reason index : Nat) (r : FateRecord), s.gated 0x4000_0098 = false → s.sth.fates[index]? = some r →
    Completes (.sthFateSet fate reason index) s (fun t => (t.sth.fates[index]? = some (if r.fate = 0xF then { r with fate := fate % 4, reason := reason % 256 } else r) ∧
    t.sth.fates.length = s.sth.fates.length ∧ t.bus = .done) ∧ Frame [.bus, .sth] [.fld .STH_FATE_STATUS_UNRESOLVED,
    .fld .STH_FATE_STATUS_RECORDS] s t)) ∧
  (∀ (s : State) (k : Nat), s.gated 0x4000_00B0 = false →
    Completes (.sthFateClr k) s (fun t => (t.sth.fates = s.sth.fates.filter (fun r => r.cntlid ≠ k) ∧
    t.sth.ctxs = s.sth.ctxs ∧ t.bus = .done) ∧ Frame [.bus, .sth] [.fld .STH_FATE_STATUS_UNRESOLVED,
    .fld .STH_FATE_STATUS_RECORDS] s t)) ∧
  (∀ (s : State), s.gated 0x4000_00AC = false →
    Completes (.fateDataRead) s (fun t => (t.bus = .value ((s.sth.fates.getD (s.get .STH_FATE_CUR_INDEX) {}).opt % 2 ^ 32) ∧
    t.get .STH_FATE_CUR_INDEX = (s.get .STH_FATE_CUR_INDEX + 1) % 2 ^ 13) ∧ Frame [.bus] [.fld .STH_FATE_CUR_INDEX] s t)) ∧
  (∀ (s : State) (why : CtlReset), Completes (.controllerReset why) s (fun t => ((∀ k ∈ why.targets,
    t.get (.STH_CTL_CFG_EN k) = 0 ∧ (s.get (.STH_CTL_CFG_CORE k), FenIrq.controller k) ∈ t.fenIrq)) ∧ Frame [.fenIrq, .slu,
    .sth] (([.arr (.REED_ST_CTRL_ABORT 0) 0x100 8, .fld .STH_STATUS_QUIESCED, .fld .STH_STATUS_LIVE,
    .fld .STH_LOCK_STATUS_WAITING, .fld .STH_LOCK_STATUS_HELD, .fld .STH_FATE_STATUS_UNRESOLVED,
    .fld .STH_FATE_STATUS_RECORDS, .fld .STH_FATE_DROP_COUNT, .arr (.STH_CTL_CFG_EN 0) 0x4 32,
    .arr (.STH_CTL_CFG_RST_PEND 0) 0x4 32, .fld .SLU_STATUS_LED_FREE, .arr (.SLU_SEC_FREE_FREE 0) 0x4 4] : List Regs) ++
    ([.arr (.SLU_SEC_RUN_RUN 0) 0x4 4, .arr (.SLU_CRED_USED_USED 0) 0x4 32] : List Regs)) s t)) ∧
  (∀ (s : State) (k : Nat), (s.sth.ctxs.map (fun e => e.1)).Pairwise (fun a b => a < b) →
    Completes (.controllerReset (.ccEnable k)) s (fun t => ((∀ x, (s.ctx x).cmd.cntlid = k →
    ((s.ctx x).state = 1 ∨ (s.ctx x).state = 2) → t.ctx x = default) ∧ ((∀ e ∈ s.sth.ctxs, e.2.cmd.cntlid = k →
    e.2.state = 1 ∨ e.2.state = 2) → t.get (.STH_CTL_CFG_RST_PEND k) = 0) ∧ ((∃ e ∈ s.sth.ctxs, e.2.cmd.cntlid = k ∧
    e.2.state ≠ 1 ∧ e.2.state ≠ 2) → t.get (.STH_CTL_CFG_RST_PEND k) = 1)) ∧ Frame [.fenIrq, .slu,
    .sth] (([.arr (.REED_ST_CTRL_ABORT 0) 0x100 8, .fld .STH_STATUS_QUIESCED, .fld .STH_STATUS_LIVE,
    .fld .STH_LOCK_STATUS_WAITING, .fld .STH_LOCK_STATUS_HELD, .fld .STH_FATE_STATUS_UNRESOLVED,
    .fld .STH_FATE_STATUS_RECORDS, .fld .STH_FATE_DROP_COUNT, .arr (.STH_CTL_CFG_EN 0) 0x4 32,
    .arr (.STH_CTL_CFG_RST_PEND 0) 0x4 32, .fld .SLU_STATUS_LED_FREE, .arr (.SLU_SEC_FREE_FREE 0) 0x4 4] : List Regs) ++
    ([.arr (.SLU_SEC_RUN_RUN 0) 0x4 4, .arr (.SLU_CRED_USED_USED 0) 0x4 32] : List Regs)) s t)) ∧
  (∀ (s : State) (k : Nat), Completes (.controllerReset (.functionLevel k)) s (fun t => ((∀ f, (queueKey k f) / 65536 = k →
    t.sth.cfg.at (queueKey k f) = 0) ∧ (k % 16 = 0 → t.sth.vfs.at (k / 16) = 0)) ∧ Frame [.fenIrq, .slu,
    .sth] (([.arr (.REED_ST_CTRL_ABORT 0) 0x100 8, .fld .STH_STATUS_QUIESCED, .fld .STH_STATUS_LIVE,
    .fld .STH_LOCK_STATUS_WAITING, .fld .STH_LOCK_STATUS_HELD, .fld .STH_FATE_STATUS_UNRESOLVED,
    .fld .STH_FATE_STATUS_RECORDS, .fld .STH_FATE_DROP_COUNT, .arr (.STH_CTL_CFG_EN 0) 0x4 32,
    .arr (.STH_CTL_CFG_RST_PEND 0) 0x4 32, .fld .SLU_STATUS_LED_FREE, .arr (.SLU_SEC_FREE_FREE 0) 0x4 4] : List Regs) ++
    ([.arr (.SLU_SEC_RUN_RUN 0) 0x4 4, .arr (.SLU_CRED_USED_USED 0) 0x4 32] : List Regs)) s t)) ∧
  (∀ (s : State) (set : Bool), s.gated 0x4000_0000 = false →
    Completes (.quiesce set) s (fun t => (t.get .STH_CTRL_QUIESCE = set.toNat ∧
    t.get .STH_STATUS_QUIESCED = (set && s.sth.ctxs.length == 0).toNat ∧ t.bus = .done) ∧
    Frame [.bus] [.fld .STH_CTRL_QUIESCE, .fld .STH_STATUS_QUIESCED, .fld .STH_STATUS_LIVE, .fld .STH_LOCK_STATUS_WAITING,
    .fld .STH_LOCK_STATUS_HELD] s t)) ∧
  (∀ (s : State) (i : Nat), 1 ≤ i → i ≤ 4 → s.get (.STH_IDLE_THRESH i) ≠ 0 →
    s.get (.STH_IDLE_THRESH i) ≤ s.get .STH_IDLE_STATUS_IDLE → s.sth.ctxs = [] →
    Completes (.idleExpired i) s (fun t => (t.get .STH_IDLE_STATUS_EXPIRED = (s.get .STH_IDLE_STATUS_EXPIRED ||| 2 ^ i) % 2 ^ 4 ∧
    (s.get .STH_PS_CORE, FenIrq.idle i) ∈ t.fenIrq) ∧ Frame [.fenIrq] [.fld .STH_IDLE_STATUS_EXPIRED] s t))

/-- Completion and effects of the commands named, on the states named (after R285, R286, R303, R476, R477, R478, R514, each in
part). -/
def Obligations.PortsServeTheHost : Prop :=
  (∀ (s : State), s.gated 0x4000_0010 = false → Completes (.cfgRdy) s (fun t => (t.get .STH_BOOT_CFG_RDY = 1 ∧
    t.bus = .done) ∧ Frame [.bus] [.fld .STH_BOOT_CFG_RDY] s t)) ∧
  (∀ (s : State) (port : Nat), port < 2 → Completes (.perst port true) s (fun t => (t.get (perstBit port) = 0 ∧
    t.get (linkBit port) = 0 ∧ (∀ j < 16, t.get (.STH_CTL_CFG_EN (16 * port + j)) = 0 ∧ (s.sth.ctxs = [] →
    t.get (.STH_CTL_CFG_RST_PEND (16 * port + j)) = 0)) ∧ t.sth.vfs.at port = 0) ∧ Frame [.fenIrq, .slu,
    .sth] (([.arr (.REED_ST_CTRL_ABORT 0) 0x100 8, .fld .STH_STATUS_QUIESCED, .fld .STH_STATUS_LIVE,
    .fld .STH_LOCK_STATUS_WAITING, .fld .STH_LOCK_STATUS_HELD, .fld .STH_FATE_STATUS_UNRESOLVED,
    .fld .STH_FATE_STATUS_RECORDS, .fld .STH_FATE_DROP_COUNT, .arr (.STH_CTL_CFG_EN 0) 0x4 32,
    .arr (.STH_CTL_CFG_RST_PEND 0) 0x4 32, .fld .SLU_STATUS_LED_FREE, .arr (.SLU_SEC_FREE_FREE 0) 0x4 4] : List Regs) ++
    ([.arr (.SLU_SEC_RUN_RUN 0) 0x4 4, .arr (.SLU_CRED_USED_USED 0) 0x4 32, .fld .STH_BOOT_PERST_B, .fld .STH_BOOT_PERST_A,
    .fld .STH_BOOT_LINK_B, .fld .STH_BOOT_LINK_A] : List Regs)) s t)) ∧
  (∀ (s : State) (port : Nat), Completes (.perst port false) s (fun t => (t.get (perstBit port) = 1 ∧ t.sth = s.sth) ∧
    Frame [.fenIrq, .slu, .sth] (([.arr (.REED_ST_CTRL_ABORT 0) 0x100 8, .fld .STH_STATUS_QUIESCED, .fld .STH_STATUS_LIVE,
    .fld .STH_LOCK_STATUS_WAITING, .fld .STH_LOCK_STATUS_HELD, .fld .STH_FATE_STATUS_UNRESOLVED,
    .fld .STH_FATE_STATUS_RECORDS, .fld .STH_FATE_DROP_COUNT, .arr (.STH_CTL_CFG_EN 0) 0x4 32,
    .arr (.STH_CTL_CFG_RST_PEND 0) 0x4 32, .fld .SLU_STATUS_LED_FREE, .arr (.SLU_SEC_FREE_FREE 0) 0x4 4] : List Regs) ++
    ([.arr (.SLU_SEC_RUN_RUN 0) 0x4 4, .arr (.SLU_CRED_USED_USED 0) 0x4 32, .fld .STH_BOOT_PERST_B, .fld .STH_BOOT_PERST_A,
    .fld .STH_BOOT_LINK_B, .fld .STH_BOOT_LINK_A] : List Regs)) s t)) ∧
  (∀ (s : State) (port : Nat), s.get (perstBit port) = 1 → s.weir.powered = true →
    Completes (.linkUp port) s (fun t => (t.get (linkBit port) = 1) ∧ Frame [] [.fld .STH_BOOT_LINK_B,
    .fld .STH_BOOT_LINK_A] s t)) ∧
  (∀ (s : State) (port : Nat), Completes (.sthLinkDown port) s (fun t => (t.get (linkBit port) = 0 ∧
    t.latched 0x0803 port = true) ∧ Frame alarmParts (alarmRegs ++ haltRegs ++ ([.fld .STH_BOOT_LINK_B,
    .fld .STH_BOOT_LINK_A] : List Regs)) s t)) ∧
  (∀ (s : State) (port fn : Nat) (field : ConfigField) (value : Option Nat), fn < 16 →
    s.domainOn (59 + (16 * port + fn) / 16) = true → s.get (linkBit port) = 1 → s.get .STH_BOOT_CFG_RDY = 0 →
    Completes (.configurationRequest port fn field value) s (fun t => (t.sth.answer = .retry ∧ t.sth.cfg = s.sth.cfg ∧
    t.sth.vfs = s.sth.vfs ∧ t.sth.ctxs = s.sth.ctxs) ∧ Frame [.bus, .fenIrq, .slu,
    .sth] (([.arr (.REED_ST_CTRL_ABORT 0) 0x100 8, .fld .STH_STATUS_QUIESCED, .fld .STH_STATUS_LIVE,
    .fld .STH_LOCK_STATUS_WAITING, .fld .STH_LOCK_STATUS_HELD, .fld .STH_FATE_STATUS_UNRESOLVED,
    .fld .STH_FATE_STATUS_RECORDS, .fld .STH_FATE_DROP_COUNT, .arr (.STH_CTL_CFG_EN 0) 0x4 32,
    .arr (.STH_CTL_CFG_RST_PEND 0) 0x4 32, .fld .SLU_STATUS_LED_FREE, .arr (.SLU_SEC_FREE_FREE 0) 0x4 4] : List Regs) ++
    ([.arr (.SLU_SEC_RUN_RUN 0) 0x4 4, .arr (.SLU_CRED_USED_USED 0) 0x4 32] : List Regs)) s t)) ∧
  (∀ (s : State) (port fn : Nat) (field : ConfigField) (value : Option Nat), fn < 16 →
    s.domainOn (59 + (16 * port + fn) / 16) = true → s.get (linkBit port) = 1 → s.get .STH_BOOT_CFG_RDY = 1 →
    s.fnOn (16 * port + fn) = false →
    Completes (.configurationRequest port fn field value) s (fun t => (t.sth.answer = .unsupported ∧ t.sth.cfg = s.sth.cfg ∧
    t.sth.vfs = s.sth.vfs ∧ t.sth.ctxs = s.sth.ctxs) ∧ Frame [.bus, .fenIrq, .slu,
    .sth] (([.arr (.REED_ST_CTRL_ABORT 0) 0x100 8, .fld .STH_STATUS_QUIESCED, .fld .STH_STATUS_LIVE,
    .fld .STH_LOCK_STATUS_WAITING, .fld .STH_LOCK_STATUS_HELD, .fld .STH_FATE_STATUS_UNRESOLVED,
    .fld .STH_FATE_STATUS_RECORDS, .fld .STH_FATE_DROP_COUNT, .arr (.STH_CTL_CFG_EN 0) 0x4 32,
    .arr (.STH_CTL_CFG_RST_PEND 0) 0x4 32, .fld .SLU_STATUS_LED_FREE, .arr (.SLU_SEC_FREE_FREE 0) 0x4 4] : List Regs) ++
    ([.arr (.SLU_SEC_RUN_RUN 0) 0x4 4, .arr (.SLU_CRED_USED_USED 0) 0x4 32] : List Regs)) s t)) ∧
  (∀ (s : State) (port fn : Nat) (field : ConfigField), fn < 16 → s.domainOn (59 + (16 * port + fn) / 16) = true →
    s.get (linkBit port) = 1 → s.get .STH_BOOT_CFG_RDY = 1 → s.fnOn (16 * port + fn) = true →
    Completes (.configurationRequest port fn field none) s (fun t => (t.sth.answer = .served ∧
    t.bus = .value (s.configRead (16 * port + fn) field) ∧ t.sth.ctxs = s.sth.ctxs) ∧ Frame [.bus, .fenIrq, .slu,
    .sth] (([.arr (.REED_ST_CTRL_ABORT 0) 0x100 8, .fld .STH_STATUS_QUIESCED, .fld .STH_STATUS_LIVE,
    .fld .STH_LOCK_STATUS_WAITING, .fld .STH_LOCK_STATUS_HELD, .fld .STH_FATE_STATUS_UNRESOLVED,
    .fld .STH_FATE_STATUS_RECORDS, .fld .STH_FATE_DROP_COUNT, .arr (.STH_CTL_CFG_EN 0) 0x4 32,
    .arr (.STH_CTL_CFG_RST_PEND 0) 0x4 32, .fld .SLU_STATUS_LED_FREE, .arr (.SLU_SEC_FREE_FREE 0) 0x4 4] : List Regs) ++
    ([.arr (.SLU_SEC_RUN_RUN 0) 0x4 4, .arr (.SLU_CRED_USED_USED 0) 0x4 32] : List Regs)) s t)) ∧
  (∀ (s : State) (port fn v : Nat), fn < 16 → s.domainOn (59 + (16 * port + fn) / 16) = true → s.get (linkBit port) = 1 →
    s.get .STH_BOOT_CFG_RDY = 1 → s.fnOn (16 * port + fn) = true →
    Completes (.configurationRequest port fn .bar0 (some v)) s (fun t => (t.sth.answer = .served ∧
    t.configRead (16 * port + fn) .bar0 = v / 2 ^ 15 * 2 ^ 15 ∧ t.sth.ctxs = s.sth.ctxs) ∧ Frame [.bus, .fenIrq, .slu,
    .sth] (([.arr (.REED_ST_CTRL_ABORT 0) 0x100 8, .fld .STH_STATUS_QUIESCED, .fld .STH_STATUS_LIVE,
    .fld .STH_LOCK_STATUS_WAITING, .fld .STH_LOCK_STATUS_HELD, .fld .STH_FATE_STATUS_UNRESOLVED,
    .fld .STH_FATE_STATUS_RECORDS, .fld .STH_FATE_DROP_COUNT, .arr (.STH_CTL_CFG_EN 0) 0x4 32,
    .arr (.STH_CTL_CFG_RST_PEND 0) 0x4 32, .fld .SLU_STATUS_LED_FREE, .arr (.SLU_SEC_FREE_FREE 0) 0x4 4] : List Regs) ++
    ([.arr (.SLU_SEC_RUN_RUN 0) 0x4 4, .arr (.SLU_CRED_USED_USED 0) 0x4 32] : List Regs)) s t)) ∧
  (∀ (s : State) (port fn v : Nat), fn = 0 → s.domainOn (59 + (16 * port + fn) / 16) = true → s.get (linkBit port) = 1 →
    s.get .STH_BOOT_CFG_RDY = 1 →
    Completes (.configurationRequest port fn .vfs (some v)) s (fun t => (t.sth.answer = .served ∧
    t.sth.vfs.at port = min v 15 ∧ (v = 0 → s.sth.vfs.at port ≠ 0 → ∀ j < 15,
    t.get (.STH_CTL_CFG_EN (16 * port + j + 1)) = 0)) ∧ Frame [.bus, .fenIrq, .slu,
    .sth] (([.arr (.REED_ST_CTRL_ABORT 0) 0x100 8, .fld .STH_STATUS_QUIESCED, .fld .STH_STATUS_LIVE,
    .fld .STH_LOCK_STATUS_WAITING, .fld .STH_LOCK_STATUS_HELD, .fld .STH_FATE_STATUS_UNRESOLVED,
    .fld .STH_FATE_STATUS_RECORDS, .fld .STH_FATE_DROP_COUNT, .arr (.STH_CTL_CFG_EN 0) 0x4 32,
    .arr (.STH_CTL_CFG_RST_PEND 0) 0x4 32, .fld .SLU_STATUS_LED_FREE, .arr (.SLU_SEC_FREE_FREE 0) 0x4 4] : List Regs) ++
    ([.arr (.SLU_SEC_RUN_RUN 0) 0x4 4, .arr (.SLU_CRED_USED_USED 0) 0x4 32] : List Regs)) s t)) ∧
  (∀ (s : State) (k value : Nat), s.domainOn (59 + k / 16) = true → s.get (linkBit (k / 16)) = 1 →
    s.get .STH_BOOT_CFG_RDY = 1 → s.fnOn k = true → value % 2 = 1 →
    Completes (.controllerRegisterWrite k 0x14 (some value)) s (fun t => (t.sth.regs.at (queueKey k 0x14) = value % 2 ^ 32 ∧
    t.sth.answer = .served ∧ t.get (.STH_CTL_CFG_EN k) = 1) ∧ Frame [.bus, .drawn, .fenIrq, .slu,
    .sth] (([.arr (.REED_ST_CTRL_ABORT 0) 0x100 8, .fld .STH_STATUS_QUIESCED, .fld .STH_STATUS_LIVE,
    .fld .STH_LOCK_STATUS_WAITING, .fld .STH_LOCK_STATUS_HELD, .fld .STH_FATE_STATUS_UNRESOLVED,
    .fld .STH_FATE_STATUS_RECORDS, .fld .STH_FATE_DROP_COUNT, .arr (.STH_CTL_CFG_EN 0) 0x4 32,
    .arr (.STH_CTL_CFG_RST_PEND 0) 0x4 32, .fld .STH_IDLE_STATUS_IDLE, .fld .SLU_STATUS_LED_FREE] : List Regs) ++
    ([.arr (.SLU_SEC_FREE_FREE 0) 0x4 4, .arr (.SLU_SEC_RUN_RUN 0) 0x4 4,
    .arr (.SLU_CRED_USED_USED 0) 0x4 32] : List Regs)) s t)) ∧
  (∀ (s : State) (k value : Nat), s.domainOn (59 + k / 16) = true → s.get (linkBit (k / 16)) = 1 →
    s.get .STH_BOOT_CFG_RDY = 1 → s.fnOn k = true → value % 2 = 0 → s.get (.STH_CTL_CFG_EN k) = 1 →
    Completes (.controllerRegisterWrite k 0x14 (some value)) s (fun t => (t.sth.regs.at (queueKey k 0x14) = value % 2 ^ 32 ∧
    t.sth.answer = .served ∧ t.get (.STH_CTL_CFG_EN k) = 0 ∧ (s.get (.STH_CTL_CFG_CORE k), FenIrq.controller k) ∈ t.fenIrq) ∧
    Frame [.bus, .drawn, .fenIrq, .slu, .sth] (([.arr (.REED_ST_CTRL_ABORT 0) 0x100 8, .fld .STH_STATUS_QUIESCED,
    .fld .STH_STATUS_LIVE, .fld .STH_LOCK_STATUS_WAITING, .fld .STH_LOCK_STATUS_HELD, .fld .STH_FATE_STATUS_UNRESOLVED,
    .fld .STH_FATE_STATUS_RECORDS, .fld .STH_FATE_DROP_COUNT, .arr (.STH_CTL_CFG_EN 0) 0x4 32,
    .arr (.STH_CTL_CFG_RST_PEND 0) 0x4 32, .fld .STH_IDLE_STATUS_IDLE, .fld .SLU_STATUS_LED_FREE] : List Regs) ++
    ([.arr (.SLU_SEC_FREE_FREE 0) 0x4 4, .arr (.SLU_SEC_RUN_RUN 0) 0x4 4,
    .arr (.SLU_CRED_USED_USED 0) 0x4 32] : List Regs)) s t)) ∧
  (∀ (s : State) (k offset value : Nat), s.domainOn (59 + k / 16) = true → s.get (linkBit (k / 16)) = 1 →
    s.get .STH_BOOT_CFG_RDY = 1 → s.fnOn k = true → offset ∉ [0, 4, 0x14, 0x1C] → offset < 0x1000 →
    Completes (.controllerRegisterWrite k offset (some value)) s (fun t => (t.sth.regs.at (queueKey k offset) = value % 2 ^ 32 ∧
    t.sth.answer = .served ∧ t.sth.ctxs = s.sth.ctxs) ∧ Frame [.bus, .drawn, .fenIrq, .slu,
    .sth] (([.arr (.REED_ST_CTRL_ABORT 0) 0x100 8, .fld .STH_STATUS_QUIESCED, .fld .STH_STATUS_LIVE,
    .fld .STH_LOCK_STATUS_WAITING, .fld .STH_LOCK_STATUS_HELD, .fld .STH_FATE_STATUS_UNRESOLVED,
    .fld .STH_FATE_STATUS_RECORDS, .fld .STH_FATE_DROP_COUNT, .arr (.STH_CTL_CFG_EN 0) 0x4 32,
    .arr (.STH_CTL_CFG_RST_PEND 0) 0x4 32, .fld .STH_IDLE_STATUS_IDLE, .fld .SLU_STATUS_LED_FREE] : List Regs) ++
    ([.arr (.SLU_SEC_FREE_FREE 0) 0x4 4, .arr (.SLU_SEC_RUN_RUN 0) 0x4 4,
    .arr (.SLU_CRED_USED_USED 0) 0x4 32] : List Regs)) s t)) ∧
  (∀ (s : State) (k offset value : Nat), s.domainOn (59 + k / 16) = true → s.get (linkBit (k / 16)) = 1 →
    s.get .STH_BOOT_CFG_RDY = 1 → s.fnOn k = true → (0x1000 ≤ offset ∧ offset < 0x4000) → offset % 8 = 0 →
    s.rings k ((offset - 0x1000) / 8) = true →
    Completes (.controllerRegisterWrite k offset (some value)) s (fun t => ((t.sth.sqs.at (queueKey k ((offset - 0x1000) / 8))).tail = value % 65536 ∧
    t.sth.answer = .served ∧ t.get .STH_IDLE_STATUS_IDLE = 0) ∧ Frame [.bus, .drawn, .fenIrq, .slu,
    .sth] (([.arr (.REED_ST_CTRL_ABORT 0) 0x100 8, .fld .STH_STATUS_QUIESCED, .fld .STH_STATUS_LIVE,
    .fld .STH_LOCK_STATUS_WAITING, .fld .STH_LOCK_STATUS_HELD, .fld .STH_FATE_STATUS_UNRESOLVED,
    .fld .STH_FATE_STATUS_RECORDS, .fld .STH_FATE_DROP_COUNT, .arr (.STH_CTL_CFG_EN 0) 0x4 32,
    .arr (.STH_CTL_CFG_RST_PEND 0) 0x4 32, .fld .STH_IDLE_STATUS_IDLE, .fld .SLU_STATUS_LED_FREE] : List Regs) ++
    ([.arr (.SLU_SEC_FREE_FREE 0) 0x4 4, .arr (.SLU_SEC_RUN_RUN 0) 0x4 4,
    .arr (.SLU_CRED_USED_USED 0) 0x4 32] : List Regs)) s t)) ∧
  (∀ (s : State) (k offset : Nat), s.domainOn (59 + k / 16) = true → s.get (linkBit (k / 16)) = 1 →
    s.get .STH_BOOT_CFG_RDY = 1 → s.fnOn k = true → ¬ (0x1000 ≤ offset ∧ offset < 0x4000) →
    Completes (.controllerRegisterWrite k offset none) s (fun t => (t.bus = .value (s.nvmeRead k offset) ∧
    t.sth.answer = .served ∧ t.sth.regs = s.sth.regs) ∧ Frame [.bus, .drawn, .fenIrq, .slu,
    .sth] (([.arr (.REED_ST_CTRL_ABORT 0) 0x100 8, .fld .STH_STATUS_QUIESCED, .fld .STH_STATUS_LIVE,
    .fld .STH_LOCK_STATUS_WAITING, .fld .STH_LOCK_STATUS_HELD, .fld .STH_FATE_STATUS_UNRESOLVED,
    .fld .STH_FATE_STATUS_RECORDS, .fld .STH_FATE_DROP_COUNT, .arr (.STH_CTL_CFG_EN 0) 0x4 32,
    .arr (.STH_CTL_CFG_RST_PEND 0) 0x4 32, .fld .STH_IDLE_STATUS_IDLE, .fld .SLU_STATUS_LED_FREE] : List Regs) ++
    ([.arr (.SLU_SEC_FREE_FREE 0) 0x4 4, .arr (.SLU_SEC_RUN_RUN 0) 0x4 4,
    .arr (.SLU_CRED_USED_USED 0) 0x4 32] : List Regs)) s t)) ∧
  (∀ (s : State) (k offset value : Nat), s.domainOn (59 + k / 16) = true → s.get (linkBit (k / 16)) = 1 →
    (s.get .STH_BOOT_CFG_RDY = 0 ∨ s.fnOn k = false) →
    Completes (.controllerRegisterWrite k offset (some value)) s (fun t => (t.sth.answer = .dropped ∧
    t.sth.regs = s.sth.regs ∧ t.get (.STH_CTL_CFG_EN k) = s.get (.STH_CTL_CFG_EN k)) ∧ Frame [.bus, .drawn, .fenIrq, .slu,
    .sth] (([.arr (.REED_ST_CTRL_ABORT 0) 0x100 8, .fld .STH_STATUS_QUIESCED, .fld .STH_STATUS_LIVE,
    .fld .STH_LOCK_STATUS_WAITING, .fld .STH_LOCK_STATUS_HELD, .fld .STH_FATE_STATUS_UNRESOLVED,
    .fld .STH_FATE_STATUS_RECORDS, .fld .STH_FATE_DROP_COUNT, .arr (.STH_CTL_CFG_EN 0) 0x4 32,
    .arr (.STH_CTL_CFG_RST_PEND 0) 0x4 32, .fld .STH_IDLE_STATUS_IDLE, .fld .SLU_STATUS_LED_FREE] : List Regs) ++
    ([.arr (.SLU_SEC_FREE_FREE 0) 0x4 4, .arr (.SLU_SEC_RUN_RUN 0) 0x4 4,
    .arr (.SLU_CRED_USED_USED 0) 0x4 32] : List Regs)) s t)) ∧
  (∀ (s : State) (k offset : Nat), s.domainOn (59 + k / 16) = true → s.get (linkBit (k / 16)) = 1 →
    (s.get .STH_BOOT_CFG_RDY = 0 ∨ s.fnOn k = false) →
    Completes (.controllerRegisterWrite k offset none) s (fun t => (t.sth.answer = .unsupported ∧ t.sth.regs = s.sth.regs) ∧
    Frame [.bus, .drawn, .fenIrq, .slu, .sth] (([.arr (.REED_ST_CTRL_ABORT 0) 0x100 8, .fld .STH_STATUS_QUIESCED,
    .fld .STH_STATUS_LIVE, .fld .STH_LOCK_STATUS_WAITING, .fld .STH_LOCK_STATUS_HELD, .fld .STH_FATE_STATUS_UNRESOLVED,
    .fld .STH_FATE_STATUS_RECORDS, .fld .STH_FATE_DROP_COUNT, .arr (.STH_CTL_CFG_EN 0) 0x4 32,
    .arr (.STH_CTL_CFG_RST_PEND 0) 0x4 32, .fld .STH_IDLE_STATUS_IDLE, .fld .SLU_STATUS_LED_FREE] : List Regs) ++
    ([.arr (.SLU_SEC_FREE_FREE 0) 0x4 4, .arr (.SLU_SEC_RUN_RUN 0) 0x4 4,
    .arr (.SLU_CRED_USED_USED 0) 0x4 32] : List Regs)) s t))

/-- Completion and effects of the commands named, on the states named (after R259, R263, R266, R272, R273, R274, R279, R284,
each in part). -/
def Obligations.QueuesAndRingsAreSetUp : Prop :=
  (∀ (s : State) (q : Nat), Completes (.mwqDb q) s (fun t => (t.get (.MWQ_STATUS_PEND q) = 1 ∧ t.bus = .done) ∧
    Frame [.bus] [.arr (.MWQ_STATUS_PEND 0) 0x20 16] s t)) ∧
  (∀ (s : State) (q : Nat), s.scanHeld q = true → Completes (.queueScan q) s (fun t => (t = s) ∧ Frame (alarmParts ++ ([.dram,
    .drawn, .tus, .slu, .mq] : List Part)) (alarmRegs ++ haltRegs ++ ([.arr (.REED_ST_CTRL_ABORT 0) 0x100 8,
    .arr (.MWQ_HEAD_HEAD 0) 0x20 16, .arr (.MWQ_STATUS_PEND 0) 0x20 16, .arr (.MWQ_STATUS_BLOCKED 0) 0x20 16,
    .arr (.MWQ_STATUS_OUTST 0) 0x20 16, .arr (.MWC_PI_PASS 0) 0x20 4, .arr (.MWC_PI_PI 0) 0x20 4,
    .arr (.MWC_STATUS_SCAN_STOP 0) 0x20 4, .arr (.MWC_STATUS_SPILL_CNT 0) 0x20 4, .fld .MWQ_SYS_STATUS_FLUSH,
    .fld .MWQ_SYS_STATUS_CAL, .fld .SLU_STATUS_LED_FREE] : List Regs) ++ ([.arr (.SLU_SEC_FREE_FREE 0) 0x4 4,
    .arr (.SLU_SEC_RUN_RUN 0) 0x4 4, .arr (.SLU_CRED_USED_USED 0) 0x4 32] : List Regs)) s t)) ∧
  (∀ (s : State) (q : Nat) (bs : List Byte), s.get (.MWQ_STATUS_PEND q) = 1 → s.scanHeld q = false → s.mireClock = true →
    s.dramServes = true → (s.dramLoad (s.slotAddr q (s.get (.MWQ_HEAD_HEAD q))) 64).1 = some bs → fieldAt bs 60 4 < 2 ^ 31 →
    Completes (.queueScan q) s (fun t => (t.get (.MWQ_STATUS_PEND q) = 0 ∧
    t.get (.MWQ_HEAD_HEAD q) = s.get (.MWQ_HEAD_HEAD q) ∧ t.mq.descs = s.mq.descs ∧ t.dram = s.dram) ∧ Frame (alarmParts ++
    ([.dram, .drawn, .tus, .slu, .mq] : List Part)) (alarmRegs ++ haltRegs ++ ([.arr (.REED_ST_CTRL_ABORT 0) 0x100 8,
    .arr (.MWQ_HEAD_HEAD 0) 0x20 16, .arr (.MWQ_STATUS_PEND 0) 0x20 16, .arr (.MWQ_STATUS_BLOCKED 0) 0x20 16,
    .arr (.MWQ_STATUS_OUTST 0) 0x20 16, .arr (.MWC_PI_PASS 0) 0x20 4, .arr (.MWC_PI_PI 0) 0x20 4,
    .arr (.MWC_STATUS_SCAN_STOP 0) 0x20 4, .arr (.MWC_STATUS_SPILL_CNT 0) 0x20 4, .fld .MWQ_SYS_STATUS_FLUSH,
    .fld .MWQ_SYS_STATUS_CAL, .fld .SLU_STATUS_LED_FREE] : List Regs) ++ ([.arr (.SLU_SEC_FREE_FREE 0) 0x4 4,
    .arr (.SLU_SEC_RUN_RUN 0) 0x4 4, .arr (.SLU_CRED_USED_USED 0) 0x4 32] : List Regs)) s t)) ∧
  (∀ (s : State) (q : Nat) (bs : List Byte), s.get (.MWQ_STATUS_PEND q) = 1 → s.scanHeld q = false → s.mireClock = true →
    s.dramServes = true → (s.dramLoad (s.slotAddr q (s.get (.MWQ_HEAD_HEAD q))) 64).1 = some bs → 2 ^ 31 ≤ fieldAt bs 60 4 →
    s.parkedSec (q / 4) = false → s.get (.MWQ_CFG_LOG2N q) ≠ 0 →
    fieldAt (s.readBytes (s.slotAddr q ((s.get (.MWQ_HEAD_HEAD q) + 1) % s.queueSlots q)) 64) 60 4 < 2 ^ 31 →
    s.mwdCheck ({ id := s.mq.nextId, queue := q, slot := s.get (.MWQ_HEAD_HEAD q), bytes := bs.take 60 } : Mwd) (fieldAt bs 60 4) = none →
    (s.get (.MWC_CFG_COMPAT (q / 4)) = 1 ∨ (({ id := s.mq.nextId, queue := q, slot := s.get (.MWQ_HEAD_HEAD q), bytes := bs.take 60 } : Mwd).flag 0 = false ∧
    ({ id := s.mq.nextId, queue := q, slot := s.get (.MWQ_HEAD_HEAD q), bytes := bs.take 60 } : Mwd).flag 1 = false)) →
    ({ id := s.mq.nextId, queue := q, slot := s.get (.MWQ_HEAD_HEAD q), bytes := bs.take 60 } : Mwd).isWrite = false → (q,
    s.get (.MWQ_HEAD_HEAD q)) ∉ s.mq.cancels → s.get (.MWQ_HEAD_HEAD q) < s.queueSlots q →
    Completes (.queueScan q) s (fun t => (t.mq.descs = s.mq.descs ++
    [({ id := s.mq.nextId, queue := q, slot := s.get (.MWQ_HEAD_HEAD q), bytes := bs.take 60 } : Mwd)] ∧
    t.get (.MWQ_HEAD_HEAD q) = ((s.get (.MWQ_HEAD_HEAD q) + 1) % s.queueSlots q) % 2 ^ 12 ∧ (∀ k < 4,
    t.byteAt ((s.slotAddr q (s.get (.MWQ_HEAD_HEAD q))) + 60 + k) = (leBytes 4 (2 ^ 28)).getD k 0) ∧
    t.mq.nextId = s.mq.nextId + 1) ∧ Frame (alarmParts ++ ([.dram, .drawn, .tus, .slu, .mq] : List Part)) (alarmRegs ++
    haltRegs ++ ([.arr (.REED_ST_CTRL_ABORT 0) 0x100 8, .arr (.MWQ_HEAD_HEAD 0) 0x20 16, .arr (.MWQ_STATUS_PEND 0) 0x20 16,
    .arr (.MWQ_STATUS_BLOCKED 0) 0x20 16, .arr (.MWQ_STATUS_OUTST 0) 0x20 16, .arr (.MWC_PI_PASS 0) 0x20 4,
    .arr (.MWC_PI_PI 0) 0x20 4, .arr (.MWC_STATUS_SCAN_STOP 0) 0x20 4, .arr (.MWC_STATUS_SPILL_CNT 0) 0x20 4,
    .fld .MWQ_SYS_STATUS_FLUSH, .fld .MWQ_SYS_STATUS_CAL, .fld .SLU_STATUS_LED_FREE] : List Regs) ++
    ([.arr (.SLU_SEC_FREE_FREE 0) 0x4 4, .arr (.SLU_SEC_RUN_RUN 0) 0x4 4,
    .arr (.SLU_CRED_USED_USED 0) 0x4 32] : List Regs)) s t)) ∧
  (∀ (s : State) (q log2n : Nat), s.get (.MWQ_CFG_EN q) = 0 → (4 ≤ log2n % 16 ∧ log2n % 16 ≤ 12 ∧
    s.dramOk (s.queueBase q) (64 * 2 ^ (log2n % 16)) = true) →
    Completes (.mwqCfg q true log2n) s (fun t => (t.get (.MWQ_CFG_EN q) = 1 ∧ t.get (.MWQ_CFG_LOG2N q) = log2n % 16 ∧
    t.get (.MWQ_HEAD_HEAD q) = 0 ∧ t.get (.MWQ_STATUS_ENERR q) = s.get (.MWQ_STATUS_ENERR q) ∧ t.bus = .done) ∧
    Frame (alarmParts ++ ([.dram, .bus, .drawn, .slu, .mq] : List Part)) (alarmRegs ++ haltRegs ++
    ([.arr (.MWQ_CFG_EN 0) 0x20 16, .arr (.MWQ_CFG_LOG2N 0) 0x20 16, .arr (.MWQ_HEAD_HEAD 0) 0x20 16,
    .arr (.MWQ_STATUS_BLOCKED 0) 0x20 16, .arr (.MWQ_STATUS_ENERR 0) 0x20 16, .arr (.MWQ_STATUS_OUTST 0) 0x20 16,
    .arr (.MWC_PI_PASS 0) 0x20 4, .arr (.MWC_PI_PI 0) 0x20 4, .arr (.MWC_STATUS_SCAN_STOP 0) 0x20 4,
    .arr (.MWC_STATUS_SPILL_CNT 0) 0x20 4, .fld .MWQ_SYS_STATUS_FLUSH, .fld .MWQ_SYS_STATUS_CAL] : List Regs)) s t)) ∧
  (∀ (s : State) (q log2n : Nat), s.get (.MWQ_CFG_EN q) = 0 → ¬ (4 ≤ log2n % 16 ∧ log2n % 16 ≤ 12 ∧
    s.dramOk (s.queueBase q) (64 * 2 ^ (log2n % 16)) = true) →
    Completes (.mwqCfg q true log2n) s (fun t => (t.get (.MWQ_CFG_EN q) = 0 ∧ t.get (.MWQ_CFG_LOG2N q) = log2n % 16 ∧
    t.get (.MWQ_STATUS_ENERR q) = 1 ∧ t.bus = .done) ∧ Frame (alarmParts ++ ([.dram, .bus, .drawn, .slu,
    .mq] : List Part)) (alarmRegs ++ haltRegs ++ ([.arr (.MWQ_CFG_EN 0) 0x20 16, .arr (.MWQ_CFG_LOG2N 0) 0x20 16,
    .arr (.MWQ_HEAD_HEAD 0) 0x20 16, .arr (.MWQ_STATUS_BLOCKED 0) 0x20 16, .arr (.MWQ_STATUS_ENERR 0) 0x20 16,
    .arr (.MWQ_STATUS_OUTST 0) 0x20 16, .arr (.MWC_PI_PASS 0) 0x20 4, .arr (.MWC_PI_PI 0) 0x20 4,
    .arr (.MWC_STATUS_SCAN_STOP 0) 0x20 4, .arr (.MWC_STATUS_SPILL_CNT 0) 0x20 4, .fld .MWQ_SYS_STATUS_FLUSH,
    .fld .MWQ_SYS_STATUS_CAL] : List Regs)) s t)) ∧
  (∀ (s : State) (q log2n : Nat), s.get (.MWQ_CFG_EN q) = 1 → Completes (.mwqCfg q true log2n) s (fun t => (t.regs = s.regs ∧
    t.mq = s.mq ∧ t.bus = .done) ∧ Frame (alarmParts ++ ([.dram, .bus, .drawn, .slu, .mq] : List Part)) (alarmRegs ++
    haltRegs ++ ([.arr (.MWQ_CFG_EN 0) 0x20 16, .arr (.MWQ_CFG_LOG2N 0) 0x20 16, .arr (.MWQ_HEAD_HEAD 0) 0x20 16,
    .arr (.MWQ_STATUS_BLOCKED 0) 0x20 16, .arr (.MWQ_STATUS_ENERR 0) 0x20 16, .arr (.MWQ_STATUS_OUTST 0) 0x20 16,
    .arr (.MWC_PI_PASS 0) 0x20 4, .arr (.MWC_PI_PI 0) 0x20 4, .arr (.MWC_STATUS_SCAN_STOP 0) 0x20 4,
    .arr (.MWC_STATUS_SPILL_CNT 0) 0x20 4, .fld .MWQ_SYS_STATUS_FLUSH, .fld .MWQ_SYS_STATUS_CAL] : List Regs)) s t)) ∧
  (∀ (s : State) (q log2n : Nat), s.get (.MWQ_CFG_EN q) = 1 →
    Completes (.mwqCfg q false log2n) s (fun t => (t.get (.MWQ_CFG_EN q) = 0 ∧
    t.get (.MWQ_CFG_LOG2N q) = s.get (.MWQ_CFG_LOG2N q) ∧ t.mq.openBatch.at q = 0 ∧
    t.mq.cancels = s.mq.cancels.filter (fun e => e.1 ≠ q) ∧ (s.mq.openBatch.at q = 0 → t.mq.descs = s.mq.descs ∧
    t.dram = s.dram) ∧ t.bus = .done) ∧ Frame (alarmParts ++ ([.dram, .bus, .drawn, .slu, .mq] : List Part)) (alarmRegs ++
    haltRegs ++ ([.arr (.MWQ_CFG_EN 0) 0x20 16, .arr (.MWQ_CFG_LOG2N 0) 0x20 16, .arr (.MWQ_HEAD_HEAD 0) 0x20 16,
    .arr (.MWQ_STATUS_BLOCKED 0) 0x20 16, .arr (.MWQ_STATUS_ENERR 0) 0x20 16, .arr (.MWQ_STATUS_OUTST 0) 0x20 16,
    .arr (.MWC_PI_PASS 0) 0x20 4, .arr (.MWC_PI_PI 0) 0x20 4, .arr (.MWC_STATUS_SCAN_STOP 0) 0x20 4,
    .arr (.MWC_STATUS_SPILL_CNT 0) 0x20 4, .fld .MWQ_SYS_STATUS_FLUSH, .fld .MWQ_SYS_STATUS_CAL] : List Regs)) s t)) ∧
  (∀ (s : State) (k core log2n : Nat) (compat irqEn : Bool), s.get (.MWC_CFG_EN k) = 0 → s.get (.MWC_STATUS_SPILL_CNT k) = 0 →
    (6 ≤ log2n % 16 ∧ log2n % 16 ≤ 12 ∧ s.dramOk (s.ringBase k) ((if compat then 32 else 16) * 2 ^ (log2n % 16)) = true ∧
    s.dramOk (s.spillBase k) (2 ^ 17) = true) →
    Completes (.mwcCfg k true compat irqEn core log2n) s (fun t => (t.get (.MWC_CFG_EN k) = 1 ∧
    t.get (.MWC_CFG_COMPAT k) = compat.toNat ∧ t.get (.MWC_CFG_LOG2N k) = log2n % 16 ∧
    t.get (.MWC_CFG_IRQ_EN k) = irqEn.toNat ∧ t.get (.MWC_CI_CI k) = 0 ∧ (s.mq.spillIrq.at k = [] → s.mq.owed = [] →
    t.get (.MWC_PI_PI k) = 0 ∧ t.get (.MWC_PI_PASS k) = 1 ∧ t.dram = s.dram) ∧ t.bus = .done) ∧ Frame (alarmParts ++ ([.dram,
    .bus, .drawn, .slu, .mq] : List Part)) (alarmRegs ++ haltRegs ++ ([.arr (.MWQ_STATUS_BLOCKED 0) 0x20 16,
    .arr (.MWQ_STATUS_OUTST 0) 0x20 16, .arr (.MWC_CFG_EN 0) 0x20 4, .arr (.MWC_CFG_COMPAT 0) 0x20 4,
    .arr (.MWC_CFG_IRQ_EN 0) 0x20 4, .arr (.MWC_CFG_CORE 0) 0x20 4, .arr (.MWC_CFG_LOG2N 0) 0x20 4,
    .arr (.MWC_PI_PASS 0) 0x20 4, .arr (.MWC_PI_PI 0) 0x20 4, .arr (.MWC_CI_CI 0) 0x20 4,
    .arr (.MWC_STATUS_SCAN_STOP 0) 0x20 4, .arr (.MWC_STATUS_SPILL_CNT 0) 0x20 4] : List Regs) ++
    ([.fld .MWQ_SYS_STATUS_FLUSH, .fld .MWQ_SYS_STATUS_CAL] : List Regs)) s t)) ∧
  (∀ (s : State) (k core log2n : Nat) (compat irqEn : Bool), s.get (.MWC_CFG_EN k) = 0 → s.get (.MWC_STATUS_SPILL_CNT k) = 0 →
    ¬ (6 ≤ log2n % 16 ∧ log2n % 16 ≤ 12 ∧ s.dramOk (s.ringBase k) ((if compat then 32 else 16) * 2 ^ (log2n % 16)) = true ∧
    s.dramOk (s.spillBase k) (2 ^ 17) = true) →
    Completes (.mwcCfg k true compat irqEn core log2n) s (fun t => (t.get (.MWC_CFG_EN k) = 0 ∧
    t.get (.MWC_CFG_COMPAT k) = compat.toNat ∧ t.get (.MWC_CFG_LOG2N k) = log2n % 16 ∧
    t.get (.MWC_CFG_IRQ_EN k) = irqEn.toNat ∧ t.bus = .done) ∧ Frame (alarmParts ++ ([.dram, .bus, .drawn, .slu,
    .mq] : List Part)) (alarmRegs ++ haltRegs ++ ([.arr (.MWQ_STATUS_BLOCKED 0) 0x20 16, .arr (.MWQ_STATUS_OUTST 0) 0x20 16,
    .arr (.MWC_CFG_EN 0) 0x20 4, .arr (.MWC_CFG_COMPAT 0) 0x20 4, .arr (.MWC_CFG_IRQ_EN 0) 0x20 4,
    .arr (.MWC_CFG_CORE 0) 0x20 4, .arr (.MWC_CFG_LOG2N 0) 0x20 4, .arr (.MWC_PI_PASS 0) 0x20 4, .arr (.MWC_PI_PI 0) 0x20 4,
    .arr (.MWC_CI_CI 0) 0x20 4, .arr (.MWC_STATUS_SCAN_STOP 0) 0x20 4, .arr (.MWC_STATUS_SPILL_CNT 0) 0x20 4] : List Regs) ++
    ([.fld .MWQ_SYS_STATUS_FLUSH, .fld .MWQ_SYS_STATUS_CAL] : List Regs)) s t)) ∧
  (∀ (s : State) (k core log2n : Nat) (compat irqEn : Bool), s.get (.MWC_CFG_EN k) = 1 →
    Completes (.mwcCfg k false compat irqEn core log2n) s (fun t => (t.get (.MWC_CFG_EN k) = 0 ∧
    t.get (.MWC_CFG_IRQ_EN k) = irqEn.toNat ∧ t.get (.MWC_CFG_COMPAT k) = s.get (.MWC_CFG_COMPAT k) ∧
    t.get (.MWC_CFG_LOG2N k) = s.get (.MWC_CFG_LOG2N k) ∧ t.bus = .done) ∧ Frame (alarmParts ++ ([.dram, .bus, .drawn, .slu,
    .mq] : List Part)) (alarmRegs ++ haltRegs ++ ([.arr (.MWQ_STATUS_BLOCKED 0) 0x20 16, .arr (.MWQ_STATUS_OUTST 0) 0x20 16,
    .arr (.MWC_CFG_EN 0) 0x20 4, .arr (.MWC_CFG_COMPAT 0) 0x20 4, .arr (.MWC_CFG_IRQ_EN 0) 0x20 4,
    .arr (.MWC_CFG_CORE 0) 0x20 4, .arr (.MWC_CFG_LOG2N 0) 0x20 4, .arr (.MWC_PI_PASS 0) 0x20 4, .arr (.MWC_PI_PI 0) 0x20 4,
    .arr (.MWC_CI_CI 0) 0x20 4, .arr (.MWC_STATUS_SCAN_STOP 0) 0x20 4, .arr (.MWC_STATUS_SPILL_CNT 0) 0x20 4] : List Regs) ++
    ([.fld .MWQ_SYS_STATUS_FLUSH, .fld .MWQ_SYS_STATUS_CAL] : List Regs)) s t)) ∧
  (∀ (s : State) (k ci : Nat), ci < s.ringSlots k →
    ¬ ((s.get (.MWC_PI_PI k) + s.ringSlots k - s.get (.MWC_CI_CI k)) % s.ringSlots k < (ci + s.ringSlots k - s.get (.MWC_CI_CI k)) % s.ringSlots k) →
    Completes (.mwcCi k ci) s (fun t => (t.get (.MWC_CI_CI k) = ci % 2 ^ 12 ∧
    t.get (.MWC_STATUS_CI_ERR k) = s.get (.MWC_STATUS_CI_ERR k) ∧ (s.mq.spillIrq.at k = [] → s.mq.owed = [] →
    t.get (.MWC_PI_PI k) = s.get (.MWC_PI_PI k) ∧ t.dram = s.dram) ∧ t.bus = .done) ∧ Frame (alarmParts ++ ([.dram, .bus,
    .drawn, .slu, .mq] : List Part)) (alarmRegs ++ haltRegs ++ ([.arr (.MWQ_STATUS_BLOCKED 0) 0x20 16,
    .arr (.MWQ_STATUS_OUTST 0) 0x20 16, .arr (.MWC_PI_PASS 0) 0x20 4, .arr (.MWC_PI_PI 0) 0x20 4, .arr (.MWC_CI_CI 0) 0x20 4,
    .arr (.MWC_STATUS_SCAN_STOP 0) 0x20 4, .arr (.MWC_STATUS_CI_ERR 0) 0x20 4, .arr (.MWC_STATUS_SPILL_CNT 0) 0x20 4,
    .fld .MWQ_SYS_STATUS_FLUSH, .fld .MWQ_SYS_STATUS_CAL] : List Regs)) s t)) ∧
  (∀ (s : State) (k ci : Nat),
    (s.ringSlots k ≤ ci ∨ (s.get (.MWC_PI_PI k) + s.ringSlots k - s.get (.MWC_CI_CI k)) % s.ringSlots k < (ci + s.ringSlots k - s.get (.MWC_CI_CI k)) % s.ringSlots k) →
    Completes (.mwcCi k ci) s (fun t => (t.get (.MWC_CI_CI k) = s.get (.MWC_CI_CI k) ∧ t.get (.MWC_STATUS_CI_ERR k) = 1 ∧
    t.bus = .done) ∧ Frame (alarmParts ++ ([.dram, .bus, .drawn, .slu, .mq] : List Part)) (alarmRegs ++ haltRegs ++
    ([.arr (.MWQ_STATUS_BLOCKED 0) 0x20 16, .arr (.MWQ_STATUS_OUTST 0) 0x20 16, .arr (.MWC_PI_PASS 0) 0x20 4,
    .arr (.MWC_PI_PI 0) 0x20 4, .arr (.MWC_CI_CI 0) 0x20 4, .arr (.MWC_STATUS_SCAN_STOP 0) 0x20 4,
    .arr (.MWC_STATUS_CI_ERR 0) 0x20 4, .arr (.MWC_STATUS_SPILL_CNT 0) 0x20 4, .fld .MWQ_SYS_STATUS_FLUSH,
    .fld .MWQ_SYS_STATUS_CAL] : List Regs)) s t))

/-- Completion and effects of the commands named, on the states named (after R142, R269, R270, R272, R274, R279, R280, each in
part). -/
def Obligations.FencesWaitAndCancelsAnswer : Prop :=
  (∀ (s : State) (q slot : Nat) (d : Mwd),
    s.mq.descs.find? (fun d => decide (d.queue = q) && decide (d.slot = slot) && decide (d.dstate = 1) && d.op == 0x20) = some d →
    s.mq.descs.any (fun e => decide (e.id < d.id) && decide (e.dstate ≤ 2) && (e.queue == q)) = false → d.batch = 0 →
    Completes (.mwdFence q slot) s (fun t => (t.mq.descs = s.mq.descs.filter (fun x => x.id ≠ d.id) ∧
    (s.get (.MWC_STATUS_SPILL_CNT d.sec) = 0 → s.ringRoom d.sec = true →
    t.get (.MWC_PI_PI d.sec) = (s.get (.MWC_PI_PI d.sec) + 1) % s.ringSlots d.sec % 2 ^ 12)) ∧ Frame (alarmParts ++ ([.dram,
    .drawn, .slu, .mq] : List Part)) (alarmRegs ++ haltRegs ++ ([.arr (.MWQ_STATUS_BLOCKED 0) 0x20 16,
    .arr (.MWQ_STATUS_OUTST 0) 0x20 16, .arr (.MWC_PI_PASS 0) 0x20 4, .arr (.MWC_PI_PI 0) 0x20 4,
    .arr (.MWC_STATUS_SCAN_STOP 0) 0x20 4, .arr (.MWC_STATUS_SPILL_CNT 0) 0x20 4, .fld .MWQ_SYS_STATUS_FLUSH,
    .fld .MWQ_SYS_STATUS_CAL, .fld .SLU_STATUS_LED_FREE, .arr (.SLU_SEC_FREE_FREE 0) 0x4 4, .arr (.SLU_SEC_RUN_RUN 0) 0x4 4,
    .arr (.SLU_CRED_USED_USED 0) 0x4 32] : List Regs)) s t)) ∧
  (∀ (s : State) (q slot : Nat) (d : Mwd),
    s.mq.descs.find? (fun d => decide (d.queue = q) && decide (d.slot = slot) && decide (d.dstate = 1) && d.op == 0x20) = some d →
    s.mq.descs.any (fun e => decide (e.id < d.id) && decide (e.dstate ≤ 2) && (e.queue == q)) = false → d.batch ≠ 0 →
    ((s.mq.batches.at d.batch).closed = false ∨ (s.mq.batches.at d.batch).ended + 1 ≠ (s.mq.batches.at d.batch).members) →
    Completes (.mwdFence q slot) s (fun t => (t.mq.descs = s.mq.descs.map (fun e => if e.id = d.id then { d with dstate := 3, stream := none, deferred := 0 } else e) ∧
    (t.mq.batches.at d.batch).ended = (s.mq.batches.at d.batch).ended + 1) ∧ Frame (alarmParts ++ ([.dram, .drawn, .slu,
    .mq] : List Part)) (alarmRegs ++ haltRegs ++ ([.arr (.MWQ_STATUS_BLOCKED 0) 0x20 16, .arr (.MWQ_STATUS_OUTST 0) 0x20 16,
    .arr (.MWC_PI_PASS 0) 0x20 4, .arr (.MWC_PI_PI 0) 0x20 4, .arr (.MWC_STATUS_SCAN_STOP 0) 0x20 4,
    .arr (.MWC_STATUS_SPILL_CNT 0) 0x20 4, .fld .MWQ_SYS_STATUS_FLUSH, .fld .MWQ_SYS_STATUS_CAL, .fld .SLU_STATUS_LED_FREE,
    .arr (.SLU_SEC_FREE_FREE 0) 0x4 4, .arr (.SLU_SEC_RUN_RUN 0) 0x4 4,
    .arr (.SLU_CRED_USED_USED 0) 0x4 32] : List Regs)) s t)) ∧
  (∀ (s : State) (q slot : Nat) (d : Mwd),
    s.mq.descs.find? (fun d => decide (d.queue = q) && decide (d.slot = slot) && decide (d.dstate = 1) && d.op == 0x20) = some d →
    s.mq.descs.any (fun e => decide (e.id < d.id) && decide (e.dstate ≤ 2) && (e.queue == q)) = true →
    Completes (.mwdFence q slot) s (fun t => (t = s) ∧ Frame (alarmParts ++ ([.dram, .drawn, .slu,
    .mq] : List Part)) (alarmRegs ++ haltRegs ++ ([.arr (.MWQ_STATUS_BLOCKED 0) 0x20 16, .arr (.MWQ_STATUS_OUTST 0) 0x20 16,
    .arr (.MWC_PI_PASS 0) 0x20 4, .arr (.MWC_PI_PI 0) 0x20 4, .arr (.MWC_STATUS_SCAN_STOP 0) 0x20 4,
    .arr (.MWC_STATUS_SPILL_CNT 0) 0x20 4, .fld .MWQ_SYS_STATUS_FLUSH, .fld .MWQ_SYS_STATUS_CAL, .fld .SLU_STATUS_LED_FREE,
    .arr (.SLU_SEC_FREE_FREE 0) 0x4 4, .arr (.SLU_SEC_RUN_RUN 0) 0x4 4,
    .arr (.SLU_CRED_USED_USED 0) 0x4 32] : List Regs)) s t)) ∧
  (∀ (s : State) (q slot : Nat) (d : Mwd),
    s.mq.descs.find? (fun d => decide (d.queue = q) && decide (d.slot = slot) && decide (d.dstate = 1) && d.op == 0x21) = some d →
    s.mq.descs.any (fun e => decide (e.id < d.id) && decide (e.dstate ≤ 2) && (e.queue == q || e.sec == d.sec)) = false →
    d.batch = 0 → Completes (.mwdBarrier q slot) s (fun t => (t.mq.descs = s.mq.descs.filter (fun x => x.id ≠ d.id) ∧
    (s.get (.MWC_STATUS_SPILL_CNT d.sec) = 0 → s.ringRoom d.sec = true →
    t.get (.MWC_PI_PI d.sec) = (s.get (.MWC_PI_PI d.sec) + 1) % s.ringSlots d.sec % 2 ^ 12)) ∧ Frame (alarmParts ++ ([.dram,
    .drawn, .slu, .mq] : List Part)) (alarmRegs ++ haltRegs ++ ([.arr (.MWQ_STATUS_BLOCKED 0) 0x20 16,
    .arr (.MWQ_STATUS_OUTST 0) 0x20 16, .arr (.MWC_PI_PASS 0) 0x20 4, .arr (.MWC_PI_PI 0) 0x20 4,
    .arr (.MWC_STATUS_SCAN_STOP 0) 0x20 4, .arr (.MWC_STATUS_SPILL_CNT 0) 0x20 4, .fld .MWQ_SYS_STATUS_FLUSH,
    .fld .MWQ_SYS_STATUS_CAL, .fld .SLU_STATUS_LED_FREE, .arr (.SLU_SEC_FREE_FREE 0) 0x4 4, .arr (.SLU_SEC_RUN_RUN 0) 0x4 4,
    .arr (.SLU_CRED_USED_USED 0) 0x4 32] : List Regs)) s t)) ∧
  (∀ (s : State) (q slot : Nat) (d : Mwd),
    s.mq.descs.find? (fun d => decide (d.queue = q) && decide (d.slot = slot) && decide (d.dstate = 1) && d.op == 0x21) = some d →
    s.mq.descs.any (fun e => decide (e.id < d.id) && decide (e.dstate ≤ 2) && (e.queue == q || e.sec == d.sec)) = false →
    d.batch ≠ 0 →
    ((s.mq.batches.at d.batch).closed = false ∨ (s.mq.batches.at d.batch).ended + 1 ≠ (s.mq.batches.at d.batch).members) →
    Completes (.mwdBarrier q slot) s (fun t => (t.mq.descs = s.mq.descs.map (fun e => if e.id = d.id then { d with dstate := 3, stream := none, deferred := 0 } else e) ∧
    (t.mq.batches.at d.batch).ended = (s.mq.batches.at d.batch).ended + 1) ∧ Frame (alarmParts ++ ([.dram, .drawn, .slu,
    .mq] : List Part)) (alarmRegs ++ haltRegs ++ ([.arr (.MWQ_STATUS_BLOCKED 0) 0x20 16, .arr (.MWQ_STATUS_OUTST 0) 0x20 16,
    .arr (.MWC_PI_PASS 0) 0x20 4, .arr (.MWC_PI_PI 0) 0x20 4, .arr (.MWC_STATUS_SCAN_STOP 0) 0x20 4,
    .arr (.MWC_STATUS_SPILL_CNT 0) 0x20 4, .fld .MWQ_SYS_STATUS_FLUSH, .fld .MWQ_SYS_STATUS_CAL, .fld .SLU_STATUS_LED_FREE,
    .arr (.SLU_SEC_FREE_FREE 0) 0x4 4, .arr (.SLU_SEC_RUN_RUN 0) 0x4 4,
    .arr (.SLU_CRED_USED_USED 0) 0x4 32] : List Regs)) s t)) ∧
  (∀ (s : State) (q slot : Nat) (d : Mwd),
    s.mq.descs.find? (fun d => decide (d.queue = q) && decide (d.slot = slot) && decide (d.dstate = 1) && d.op == 0x21) = some d →
    s.mq.descs.any (fun e => decide (e.id < d.id) && decide (e.dstate ≤ 2) && (e.queue == q || e.sec == d.sec)) = true →
    Completes (.mwdBarrier q slot) s (fun t => (t = s) ∧ Frame (alarmParts ++ ([.dram, .drawn, .slu,
    .mq] : List Part)) (alarmRegs ++ haltRegs ++ ([.arr (.MWQ_STATUS_BLOCKED 0) 0x20 16, .arr (.MWQ_STATUS_OUTST 0) 0x20 16,
    .arr (.MWC_PI_PASS 0) 0x20 4, .arr (.MWC_PI_PI 0) 0x20 4, .arr (.MWC_STATUS_SCAN_STOP 0) 0x20 4,
    .arr (.MWC_STATUS_SPILL_CNT 0) 0x20 4, .fld .MWQ_SYS_STATUS_FLUSH, .fld .MWQ_SYS_STATUS_CAL, .fld .SLU_STATUS_LED_FREE,
    .arr (.SLU_SEC_FREE_FREE 0) 0x4 4, .arr (.SLU_SEC_RUN_RUN 0) 0x4 4,
    .arr (.SLU_CRED_USED_USED 0) 0x4 32] : List Regs)) s t)) ∧
  (∀ (s : State) (q slot : Nat) (d : Mwd),
    s.mq.descs.find? (fun d => decide (d.queue = q) && decide (d.slot = slot) && decide (d.dstate ≤ 2)) = some d →
    d.dstate = 1 → d.batch = 0 →
    Completes (.mwqCancel q slot) s (fun t => (t.mq.descs = s.mq.descs.filter (fun x => x.id ≠ d.id) ∧
    (s.get (.MWC_STATUS_SPILL_CNT d.sec) = 0 → s.ringRoom d.sec = true →
    t.get (.MWC_PI_PI d.sec) = (s.get (.MWC_PI_PI d.sec) + 1) % s.ringSlots d.sec % 2 ^ 12) ∧
    t.get .MWQ_CANCEL_RES_RESULT = 1 ∧ t.bus = .done) ∧ Frame (alarmParts ++ ([.dram, .bus, .drawn, .tus, .slu,
    .mq] : List Part)) (alarmRegs ++ haltRegs ++ ([.arr (.REED_ST_CTRL_ABORT 0) 0x100 8, .arr (.MWQ_STATUS_BLOCKED 0) 0x20 16,
    .arr (.MWQ_STATUS_OUTST 0) 0x20 16, .arr (.MWC_PI_PASS 0) 0x20 4, .arr (.MWC_PI_PI 0) 0x20 4,
    .arr (.MWC_STATUS_SCAN_STOP 0) 0x20 4, .arr (.MWC_STATUS_SPILL_CNT 0) 0x20 4, .fld .MWQ_CANCEL_RES_RESULT,
    .fld .MWQ_SYS_STATUS_FLUSH, .fld .MWQ_SYS_STATUS_CAL, .fld .SLU_STATUS_LED_FREE,
    .arr (.SLU_SEC_FREE_FREE 0) 0x4 4] : List Regs) ++ ([.arr (.SLU_SEC_RUN_RUN 0) 0x4 4,
    .arr (.SLU_CRED_USED_USED 0) 0x4 32] : List Regs)) s t)) ∧
  (∀ (s : State) (q slot : Nat) (d : Mwd) (n : Nat),
    s.mq.descs.find? (fun d => decide (d.queue = q) && decide (d.slot = slot) && decide (d.dstate ≤ 2)) = some d →
    d.dstate = 2 → d.stream = some n → d.issued = true → d.op ≠ 8 →
    Completes (.mwqCancel q slot) s (fun t => (t.get (.REED_ST_CTRL_ABORT n) = 1 ∧
    t.mq.descs = s.mq.descs.map (fun e => if e.id = d.id then { d with cancel := true } else e) ∧
    t.get .MWQ_CANCEL_RES_RESULT = 2 ∧ t.bus = .done) ∧ Frame (alarmParts ++ ([.dram, .bus, .drawn, .tus, .slu,
    .mq] : List Part)) (alarmRegs ++ haltRegs ++ ([.arr (.REED_ST_CTRL_ABORT 0) 0x100 8, .arr (.MWQ_STATUS_BLOCKED 0) 0x20 16,
    .arr (.MWQ_STATUS_OUTST 0) 0x20 16, .arr (.MWC_PI_PASS 0) 0x20 4, .arr (.MWC_PI_PI 0) 0x20 4,
    .arr (.MWC_STATUS_SCAN_STOP 0) 0x20 4, .arr (.MWC_STATUS_SPILL_CNT 0) 0x20 4, .fld .MWQ_CANCEL_RES_RESULT,
    .fld .MWQ_SYS_STATUS_FLUSH, .fld .MWQ_SYS_STATUS_CAL, .fld .SLU_STATUS_LED_FREE,
    .arr (.SLU_SEC_FREE_FREE 0) 0x4 4] : List Regs) ++ ([.arr (.SLU_SEC_RUN_RUN 0) 0x4 4,
    .arr (.SLU_CRED_USED_USED 0) 0x4 32] : List Regs)) s t)) ∧
  (∀ (s : State) (q slot : Nat) (bs : List Byte),
    s.mq.descs.find? (fun d => decide (d.queue = q) && decide (d.slot = slot) && decide (d.dstate ≤ 2)) = none → q < 16 →
    slot < s.queueSlots q → (s.dramLoad (s.slotAddr q slot) 64).1 = some bs → 2 ^ 31 ≤ fieldAt bs 60 4 →
    Completes (.mwqCancel q slot) s (fun t => (t.mq.cancels = s.mq.cancels ++ [(q, slot)] ∧ t.mq.descs = s.mq.descs ∧
    t.get .MWQ_CANCEL_RES_RESULT = 1 ∧ t.bus = .done) ∧ Frame (alarmParts ++ ([.dram, .bus, .drawn, .tus, .slu,
    .mq] : List Part)) (alarmRegs ++ haltRegs ++ ([.arr (.REED_ST_CTRL_ABORT 0) 0x100 8, .arr (.MWQ_STATUS_BLOCKED 0) 0x20 16,
    .arr (.MWQ_STATUS_OUTST 0) 0x20 16, .arr (.MWC_PI_PASS 0) 0x20 4, .arr (.MWC_PI_PI 0) 0x20 4,
    .arr (.MWC_STATUS_SCAN_STOP 0) 0x20 4, .arr (.MWC_STATUS_SPILL_CNT 0) 0x20 4, .fld .MWQ_CANCEL_RES_RESULT,
    .fld .MWQ_SYS_STATUS_FLUSH, .fld .MWQ_SYS_STATUS_CAL, .fld .SLU_STATUS_LED_FREE,
    .arr (.SLU_SEC_FREE_FREE 0) 0x4 4] : List Regs) ++ ([.arr (.SLU_SEC_RUN_RUN 0) 0x4 4,
    .arr (.SLU_CRED_USED_USED 0) 0x4 32] : List Regs)) s t)) ∧
  (∀ (s : State) (q slot : Nat),
    s.mq.descs.find? (fun d => decide (d.queue = q) && decide (d.slot = slot) && decide (d.dstate ≤ 2)) = none →
    (16 ≤ q ∨ s.queueSlots q ≤ slot ∨ ∀ bs, (s.dramLoad (s.slotAddr q slot) 64).1 = some bs → fieldAt bs 60 4 < 2 ^ 31) →
    Completes (.mwqCancel q slot) s (fun t => (t.mq = s.mq ∧ t.dram = s.dram ∧ t.get .MWQ_CANCEL_RES_RESULT = 3 ∧
    t.bus = .done) ∧ Frame (alarmParts ++ ([.dram, .bus, .drawn, .tus, .slu, .mq] : List Part)) (alarmRegs ++ haltRegs ++
    ([.arr (.REED_ST_CTRL_ABORT 0) 0x100 8, .arr (.MWQ_STATUS_BLOCKED 0) 0x20 16, .arr (.MWQ_STATUS_OUTST 0) 0x20 16,
    .arr (.MWC_PI_PASS 0) 0x20 4, .arr (.MWC_PI_PI 0) 0x20 4, .arr (.MWC_STATUS_SCAN_STOP 0) 0x20 4,
    .arr (.MWC_STATUS_SPILL_CNT 0) 0x20 4, .fld .MWQ_CANCEL_RES_RESULT, .fld .MWQ_SYS_STATUS_FLUSH, .fld .MWQ_SYS_STATUS_CAL,
    .fld .SLU_STATUS_LED_FREE, .arr (.SLU_SEC_FREE_FREE 0) 0x4 4] : List Regs) ++ ([.arr (.SLU_SEC_RUN_RUN 0) 0x4 4,
    .arr (.SLU_CRED_USED_USED 0) 0x4 32] : List Regs)) s t))

/-- Completion and effects of the commands named, on the states named (after R129, R200, R262, R278, each in part). -/
def Obligations.DescriptorsRun : Prop :=
  (∀ (s : State) (n : Nat) (d : Mwd), n < 8 → s.mwdOn n = some d → d.op = 1 → d.sec = n / 2 → d.issued = false →
    d.dstate = 2 → d.failed = [] → Completes (.mwdRead n) s (fun t => (NextOperation s n d t) ∧ Frame (alarmParts ++ ([.dram,
    .drawn, .tide, .tus, .slu, .mq] : List Part)) (alarmRegs ++ haltRegs ++ ([.arr (.TIDE_ST_CBPC_CBPC 0) 0x4 8,
    .arr (.TUS_SEC_CTRL_PRI_SLOT 0) 0x40 4, .arr (.TUS_SEEK_CTRL_HINT 0) 0x20 4, .grid (.TUS_SEEK_TGT_TRACK 0 0) 0x20 4 0x4 2,
    .grid (.TUS_SEEK_TGT_FRAC 0 0) 0x20 4 0x4 2, .arr (.REED_ST_CTRL_ABORT 0) 0x100 8, .arr (.REED_ST_CTRL_FLUSH 0) 0x100 8,
    .arr (.REED_ST_CTRL_ENTRY 0) 0x100 8, .arr (.REED_ST_STATUS_RESTARTS 0) 0x100 8, .arr (.REED_ST_PC_MARK_PC 0) 0x100 8,
    .arr (.REED_ST_PC_PC 0) 0x100 8, .arr (.REED_ST_THRESH_THRESH 0) 0x100 8] : List Regs) ++
    ([.grid (.REED_OP_VALUE 0 0) 0x100 8 0x4 8, .grid (.REED_ST_G_VALUE 0 0) 0x100 8 0x4 16,
    .arr (.SDG_ST_CTRL_COMB 0) 0x400 8, .arr (.SDG_ST_CTRL_FORCE_TIMED 0) 0x400 8, .arr (.SDG_ST_CTRL_ALT_SET 0) 0x400 8,
    .arr (.SDG_ST_CTRL_STEP 0) 0x400 8, .arr (.SDG_ST_CTRL_MODE 0) 0x400 8, .arr (.SDG_ST_STATUS_CODE_ERR 0) 0x400 8,
    .arr (.SDG_CODE_C 0) 0x400 8, .arr (.SDG_CODE_META 0) 0x400 8, .arr (.SDG_SEAL_TRK_SURF 0) 0x400 8,
    .arr (.SDG_SEAL_TRK_TRACK 0) 0x400 8] : List Regs) ++ ([.arr (.SDG_WR_CFG_MARKER 0) 0x400 8,
    .arr (.MWQ_STATUS_BLOCKED 0) 0x20 16, .arr (.MWQ_STATUS_OUTST 0) 0x20 16, .arr (.MWC_PI_PASS 0) 0x20 4,
    .arr (.MWC_PI_PI 0) 0x20 4, .arr (.MWC_STATUS_SCAN_STOP 0) 0x20 4, .arr (.MWC_STATUS_SPILL_CNT 0) 0x20 4,
    .fld .MWQ_SYS_STATUS_FLUSH, .fld .MWQ_SYS_STATUS_CAL, .fld .SLU_STATUS_LED_FREE, .arr (.SLU_SEC_FREE_FREE 0) 0x4 4,
    .arr (.SLU_SEC_RUN_RUN 0) 0x4 4] : List Regs) ++ ([.arr (.SLU_CRED_USED_USED 0) 0x4 32] : List Regs)) s t)) ∧
  (∀ (s : State) (n : Nat) (d : Mwd), n < 8 → s.mwdOn n = some d → d.op = 2 → d.sec = n / 2 → d.issued = false →
    d.dstate = 2 → d.failed = [] → Completes (.mwdWrite n) s (fun t => (NextOperation s n d t) ∧ Frame (alarmParts ++ ([.dram,
    .drawn, .tide, .tus, .slu, .mq] : List Part)) (alarmRegs ++ haltRegs ++ ([.arr (.TIDE_ST_CBPC_CBPC 0) 0x4 8,
    .arr (.TUS_SEC_CTRL_PRI_SLOT 0) 0x40 4, .arr (.TUS_SEEK_CTRL_HINT 0) 0x20 4, .grid (.TUS_SEEK_TGT_TRACK 0 0) 0x20 4 0x4 2,
    .grid (.TUS_SEEK_TGT_FRAC 0 0) 0x20 4 0x4 2, .arr (.REED_ST_CTRL_ABORT 0) 0x100 8, .arr (.REED_ST_CTRL_FLUSH 0) 0x100 8,
    .arr (.REED_ST_CTRL_ENTRY 0) 0x100 8, .arr (.REED_ST_STATUS_RESTARTS 0) 0x100 8, .arr (.REED_ST_PC_MARK_PC 0) 0x100 8,
    .arr (.REED_ST_PC_PC 0) 0x100 8, .arr (.REED_ST_THRESH_THRESH 0) 0x100 8] : List Regs) ++
    ([.grid (.REED_OP_VALUE 0 0) 0x100 8 0x4 8, .grid (.REED_ST_G_VALUE 0 0) 0x100 8 0x4 16,
    .arr (.SDG_ST_CTRL_COMB 0) 0x400 8, .arr (.SDG_ST_CTRL_FORCE_TIMED 0) 0x400 8, .arr (.SDG_ST_CTRL_ALT_SET 0) 0x400 8,
    .arr (.SDG_ST_CTRL_STEP 0) 0x400 8, .arr (.SDG_ST_CTRL_MODE 0) 0x400 8, .arr (.SDG_ST_STATUS_CODE_ERR 0) 0x400 8,
    .arr (.SDG_CODE_C 0) 0x400 8, .arr (.SDG_CODE_META 0) 0x400 8, .arr (.SDG_SEAL_TRK_SURF 0) 0x400 8,
    .arr (.SDG_SEAL_TRK_TRACK 0) 0x400 8] : List Regs) ++ ([.arr (.SDG_WR_CFG_MARKER 0) 0x400 8,
    .arr (.MWQ_STATUS_BLOCKED 0) 0x20 16, .arr (.MWQ_STATUS_OUTST 0) 0x20 16, .arr (.MWC_PI_PASS 0) 0x20 4,
    .arr (.MWC_PI_PI 0) 0x20 4, .arr (.MWC_STATUS_SCAN_STOP 0) 0x20 4, .arr (.MWC_STATUS_SPILL_CNT 0) 0x20 4,
    .fld .MWQ_SYS_STATUS_FLUSH, .fld .MWQ_SYS_STATUS_CAL, .fld .SLU_STATUS_LED_FREE, .arr (.SLU_SEC_FREE_FREE 0) 0x4 4,
    .arr (.SLU_SEC_RUN_RUN 0) 0x4 4] : List Regs) ++ ([.arr (.SLU_CRED_USED_USED 0) 0x4 32] : List Regs)) s t)) ∧
  (∀ (s : State) (n : Nat) (d : Mwd), n < 8 → s.mwdOn n = some d → d.op = 3 → d.sec = n / 2 → d.issued = false →
    d.dstate = 2 → d.failed = [] → Completes (.writeVerify n) s (fun t => (NextOperation s n d t) ∧ Frame (alarmParts ++
    ([.dram, .drawn, .tide, .tus, .slu, .mq] : List Part)) (alarmRegs ++ haltRegs ++ ([.arr (.TIDE_ST_CBPC_CBPC 0) 0x4 8,
    .arr (.TUS_SEC_CTRL_PRI_SLOT 0) 0x40 4, .arr (.TUS_SEEK_CTRL_HINT 0) 0x20 4, .grid (.TUS_SEEK_TGT_TRACK 0 0) 0x20 4 0x4 2,
    .grid (.TUS_SEEK_TGT_FRAC 0 0) 0x20 4 0x4 2, .arr (.REED_ST_CTRL_ABORT 0) 0x100 8, .arr (.REED_ST_CTRL_FLUSH 0) 0x100 8,
    .arr (.REED_ST_CTRL_ENTRY 0) 0x100 8, .arr (.REED_ST_STATUS_RESTARTS 0) 0x100 8, .arr (.REED_ST_PC_MARK_PC 0) 0x100 8,
    .arr (.REED_ST_PC_PC 0) 0x100 8, .arr (.REED_ST_THRESH_THRESH 0) 0x100 8] : List Regs) ++
    ([.grid (.REED_OP_VALUE 0 0) 0x100 8 0x4 8, .grid (.REED_ST_G_VALUE 0 0) 0x100 8 0x4 16,
    .arr (.SDG_ST_CTRL_COMB 0) 0x400 8, .arr (.SDG_ST_CTRL_FORCE_TIMED 0) 0x400 8, .arr (.SDG_ST_CTRL_ALT_SET 0) 0x400 8,
    .arr (.SDG_ST_CTRL_STEP 0) 0x400 8, .arr (.SDG_ST_CTRL_MODE 0) 0x400 8, .arr (.SDG_ST_STATUS_CODE_ERR 0) 0x400 8,
    .arr (.SDG_CODE_C 0) 0x400 8, .arr (.SDG_CODE_META 0) 0x400 8, .arr (.SDG_SEAL_TRK_SURF 0) 0x400 8,
    .arr (.SDG_SEAL_TRK_TRACK 0) 0x400 8] : List Regs) ++ ([.arr (.SDG_WR_CFG_MARKER 0) 0x400 8,
    .arr (.MWQ_STATUS_BLOCKED 0) 0x20 16, .arr (.MWQ_STATUS_OUTST 0) 0x20 16, .arr (.MWC_PI_PASS 0) 0x20 4,
    .arr (.MWC_PI_PI 0) 0x20 4, .arr (.MWC_STATUS_SCAN_STOP 0) 0x20 4, .arr (.MWC_STATUS_SPILL_CNT 0) 0x20 4,
    .fld .MWQ_SYS_STATUS_FLUSH, .fld .MWQ_SYS_STATUS_CAL, .fld .SLU_STATUS_LED_FREE, .arr (.SLU_SEC_FREE_FREE 0) 0x4 4,
    .arr (.SLU_SEC_RUN_RUN 0) 0x4 4] : List Regs) ++ ([.arr (.SLU_CRED_USED_USED 0) 0x4 32] : List Regs)) s t)) ∧
  (∀ (s : State) (n : Nat) (d : Mwd), n < 8 → s.mwdOn n = some d → d.op = 4 → d.sec = n / 2 → d.issued = false →
    d.dstate = 2 → d.failed = [] → Completes (.mwdVerify n) s (fun t => (NextOperation s n d t) ∧ Frame (alarmParts ++
    ([.dram, .drawn, .tide, .tus, .slu, .mq] : List Part)) (alarmRegs ++ haltRegs ++ ([.arr (.TIDE_ST_CBPC_CBPC 0) 0x4 8,
    .arr (.TUS_SEC_CTRL_PRI_SLOT 0) 0x40 4, .arr (.TUS_SEEK_CTRL_HINT 0) 0x20 4, .grid (.TUS_SEEK_TGT_TRACK 0 0) 0x20 4 0x4 2,
    .grid (.TUS_SEEK_TGT_FRAC 0 0) 0x20 4 0x4 2, .arr (.REED_ST_CTRL_ABORT 0) 0x100 8, .arr (.REED_ST_CTRL_FLUSH 0) 0x100 8,
    .arr (.REED_ST_CTRL_ENTRY 0) 0x100 8, .arr (.REED_ST_STATUS_RESTARTS 0) 0x100 8, .arr (.REED_ST_PC_MARK_PC 0) 0x100 8,
    .arr (.REED_ST_PC_PC 0) 0x100 8, .arr (.REED_ST_THRESH_THRESH 0) 0x100 8] : List Regs) ++
    ([.grid (.REED_OP_VALUE 0 0) 0x100 8 0x4 8, .grid (.REED_ST_G_VALUE 0 0) 0x100 8 0x4 16,
    .arr (.SDG_ST_CTRL_COMB 0) 0x400 8, .arr (.SDG_ST_CTRL_FORCE_TIMED 0) 0x400 8, .arr (.SDG_ST_CTRL_ALT_SET 0) 0x400 8,
    .arr (.SDG_ST_CTRL_STEP 0) 0x400 8, .arr (.SDG_ST_CTRL_MODE 0) 0x400 8, .arr (.SDG_ST_STATUS_CODE_ERR 0) 0x400 8,
    .arr (.SDG_CODE_C 0) 0x400 8, .arr (.SDG_CODE_META 0) 0x400 8, .arr (.SDG_SEAL_TRK_SURF 0) 0x400 8,
    .arr (.SDG_SEAL_TRK_TRACK 0) 0x400 8] : List Regs) ++ ([.arr (.SDG_WR_CFG_MARKER 0) 0x400 8,
    .arr (.MWQ_STATUS_BLOCKED 0) 0x20 16, .arr (.MWQ_STATUS_OUTST 0) 0x20 16, .arr (.MWC_PI_PASS 0) 0x20 4,
    .arr (.MWC_PI_PI 0) 0x20 4, .arr (.MWC_STATUS_SCAN_STOP 0) 0x20 4, .arr (.MWC_STATUS_SPILL_CNT 0) 0x20 4,
    .fld .MWQ_SYS_STATUS_FLUSH, .fld .MWQ_SYS_STATUS_CAL, .fld .SLU_STATUS_LED_FREE, .arr (.SLU_SEC_FREE_FREE 0) 0x4 4,
    .arr (.SLU_SEC_RUN_RUN 0) 0x4 4] : List Regs) ++ ([.arr (.SLU_CRED_USED_USED 0) 0x4 32] : List Regs)) s t)) ∧
  (∀ (s : State) (n : Nat) (d : Mwd), n < 8 → s.mwdOn n = some d → d.op = 5 → d.sec = n / 2 → d.issued = false →
    d.dstate = 2 → d.failed = [] → s.fills d = true → Completes (.readAhead n) s (fun t => (NextOperation s n d t) ∧
    Frame (alarmParts ++ ([.dram, .drawn, .tide, .tus, .slu, .mq] : List Part)) (alarmRegs ++ haltRegs ++
    ([.arr (.TIDE_ST_CBPC_CBPC 0) 0x4 8, .arr (.TUS_SEC_CTRL_PRI_SLOT 0) 0x40 4, .arr (.TUS_SEEK_CTRL_HINT 0) 0x20 4,
    .grid (.TUS_SEEK_TGT_TRACK 0 0) 0x20 4 0x4 2, .grid (.TUS_SEEK_TGT_FRAC 0 0) 0x20 4 0x4 2,
    .arr (.REED_ST_CTRL_ABORT 0) 0x100 8, .arr (.REED_ST_CTRL_FLUSH 0) 0x100 8, .arr (.REED_ST_CTRL_ENTRY 0) 0x100 8,
    .arr (.REED_ST_STATUS_RESTARTS 0) 0x100 8, .arr (.REED_ST_PC_MARK_PC 0) 0x100 8, .arr (.REED_ST_PC_PC 0) 0x100 8,
    .arr (.REED_ST_THRESH_THRESH 0) 0x100 8] : List Regs) ++ ([.grid (.REED_OP_VALUE 0 0) 0x100 8 0x4 8,
    .grid (.REED_ST_G_VALUE 0 0) 0x100 8 0x4 16, .arr (.SDG_ST_CTRL_COMB 0) 0x400 8,
    .arr (.SDG_ST_CTRL_FORCE_TIMED 0) 0x400 8, .arr (.SDG_ST_CTRL_ALT_SET 0) 0x400 8, .arr (.SDG_ST_CTRL_STEP 0) 0x400 8,
    .arr (.SDG_ST_CTRL_MODE 0) 0x400 8, .arr (.SDG_ST_STATUS_CODE_ERR 0) 0x400 8, .arr (.SDG_CODE_C 0) 0x400 8,
    .arr (.SDG_CODE_META 0) 0x400 8, .arr (.SDG_SEAL_TRK_SURF 0) 0x400 8,
    .arr (.SDG_SEAL_TRK_TRACK 0) 0x400 8] : List Regs) ++ ([.arr (.SDG_WR_CFG_MARKER 0) 0x400 8,
    .arr (.MWQ_STATUS_BLOCKED 0) 0x20 16, .arr (.MWQ_STATUS_OUTST 0) 0x20 16, .arr (.MWC_PI_PASS 0) 0x20 4,
    .arr (.MWC_PI_PI 0) 0x20 4, .arr (.MWC_STATUS_SCAN_STOP 0) 0x20 4, .arr (.MWC_STATUS_SPILL_CNT 0) 0x20 4,
    .fld .MWQ_SYS_STATUS_FLUSH, .fld .MWQ_SYS_STATUS_CAL, .fld .SLU_STATUS_LED_FREE, .arr (.SLU_SEC_FREE_FREE 0) 0x4 4,
    .arr (.SLU_SEC_RUN_RUN 0) 0x4 4] : List Regs) ++ ([.arr (.SLU_CRED_USED_USED 0) 0x4 32] : List Regs)) s t)) ∧
  (∀ (s : State) (n : Nat) (d : Mwd), n < 8 → s.mwdOn n = some d → d.op = 0x10 → d.sec = n / 2 → d.issued = false →
    d.dstate = 2 → d.failed = [] → Completes (.formatTracks n) s (fun t => (NextOperation s n d t) ∧ Frame (alarmParts ++
    ([.dram, .drawn, .tide, .tus, .slu, .mq] : List Part)) (alarmRegs ++ haltRegs ++ ([.arr (.TIDE_ST_CBPC_CBPC 0) 0x4 8,
    .arr (.TUS_SEC_CTRL_PRI_SLOT 0) 0x40 4, .arr (.TUS_SEEK_CTRL_HINT 0) 0x20 4, .grid (.TUS_SEEK_TGT_TRACK 0 0) 0x20 4 0x4 2,
    .grid (.TUS_SEEK_TGT_FRAC 0 0) 0x20 4 0x4 2, .arr (.REED_ST_CTRL_ABORT 0) 0x100 8, .arr (.REED_ST_CTRL_FLUSH 0) 0x100 8,
    .arr (.REED_ST_CTRL_ENTRY 0) 0x100 8, .arr (.REED_ST_STATUS_RESTARTS 0) 0x100 8, .arr (.REED_ST_PC_MARK_PC 0) 0x100 8,
    .arr (.REED_ST_PC_PC 0) 0x100 8, .arr (.REED_ST_THRESH_THRESH 0) 0x100 8] : List Regs) ++
    ([.grid (.REED_OP_VALUE 0 0) 0x100 8 0x4 8, .grid (.REED_ST_G_VALUE 0 0) 0x100 8 0x4 16,
    .arr (.SDG_ST_CTRL_COMB 0) 0x400 8, .arr (.SDG_ST_CTRL_FORCE_TIMED 0) 0x400 8, .arr (.SDG_ST_CTRL_ALT_SET 0) 0x400 8,
    .arr (.SDG_ST_CTRL_STEP 0) 0x400 8, .arr (.SDG_ST_CTRL_MODE 0) 0x400 8, .arr (.SDG_ST_STATUS_CODE_ERR 0) 0x400 8,
    .arr (.SDG_CODE_C 0) 0x400 8, .arr (.SDG_CODE_META 0) 0x400 8, .arr (.SDG_SEAL_TRK_SURF 0) 0x400 8,
    .arr (.SDG_SEAL_TRK_TRACK 0) 0x400 8] : List Regs) ++ ([.arr (.SDG_WR_CFG_MARKER 0) 0x400 8,
    .arr (.MWQ_STATUS_BLOCKED 0) 0x20 16, .arr (.MWQ_STATUS_OUTST 0) 0x20 16, .arr (.MWC_PI_PASS 0) 0x20 4,
    .arr (.MWC_PI_PI 0) 0x20 4, .arr (.MWC_STATUS_SCAN_STOP 0) 0x20 4, .arr (.MWC_STATUS_SPILL_CNT 0) 0x20 4,
    .fld .MWQ_SYS_STATUS_FLUSH, .fld .MWQ_SYS_STATUS_CAL, .fld .SLU_STATUS_LED_FREE, .arr (.SLU_SEC_FREE_FREE 0) 0x4 4,
    .arr (.SLU_SEC_RUN_RUN 0) 0x4 4] : List Regs) ++ ([.arr (.SLU_CRED_USED_USED 0) 0x4 32] : List Regs)) s t)) ∧
  (∀ (s : State) (n : Nat) (d : Mwd), n < 8 → s.mwdOn n = some d → d.op = 0x11 → d.sec = n / 2 → d.issued = false →
    d.dstate = 2 → d.failed = [] → Completes (.eraseBand n) s (fun t => (NextOperation s n d t) ∧ Frame (alarmParts ++
    ([.dram, .drawn, .tide, .tus, .slu, .mq] : List Part)) (alarmRegs ++ haltRegs ++ ([.arr (.TIDE_ST_CBPC_CBPC 0) 0x4 8,
    .arr (.TUS_SEC_CTRL_PRI_SLOT 0) 0x40 4, .arr (.TUS_SEEK_CTRL_HINT 0) 0x20 4, .grid (.TUS_SEEK_TGT_TRACK 0 0) 0x20 4 0x4 2,
    .grid (.TUS_SEEK_TGT_FRAC 0 0) 0x20 4 0x4 2, .arr (.REED_ST_CTRL_ABORT 0) 0x100 8, .arr (.REED_ST_CTRL_FLUSH 0) 0x100 8,
    .arr (.REED_ST_CTRL_ENTRY 0) 0x100 8, .arr (.REED_ST_STATUS_RESTARTS 0) 0x100 8, .arr (.REED_ST_PC_MARK_PC 0) 0x100 8,
    .arr (.REED_ST_PC_PC 0) 0x100 8, .arr (.REED_ST_THRESH_THRESH 0) 0x100 8] : List Regs) ++
    ([.grid (.REED_OP_VALUE 0 0) 0x100 8 0x4 8, .grid (.REED_ST_G_VALUE 0 0) 0x100 8 0x4 16,
    .arr (.SDG_ST_CTRL_COMB 0) 0x400 8, .arr (.SDG_ST_CTRL_FORCE_TIMED 0) 0x400 8, .arr (.SDG_ST_CTRL_ALT_SET 0) 0x400 8,
    .arr (.SDG_ST_CTRL_STEP 0) 0x400 8, .arr (.SDG_ST_CTRL_MODE 0) 0x400 8, .arr (.SDG_ST_STATUS_CODE_ERR 0) 0x400 8,
    .arr (.SDG_CODE_C 0) 0x400 8, .arr (.SDG_CODE_META 0) 0x400 8, .arr (.SDG_SEAL_TRK_SURF 0) 0x400 8,
    .arr (.SDG_SEAL_TRK_TRACK 0) 0x400 8] : List Regs) ++ ([.arr (.SDG_WR_CFG_MARKER 0) 0x400 8,
    .arr (.MWQ_STATUS_BLOCKED 0) 0x20 16, .arr (.MWQ_STATUS_OUTST 0) 0x20 16, .arr (.MWC_PI_PASS 0) 0x20 4,
    .arr (.MWC_PI_PI 0) 0x20 4, .arr (.MWC_STATUS_SCAN_STOP 0) 0x20 4, .arr (.MWC_STATUS_SPILL_CNT 0) 0x20 4,
    .fld .MWQ_SYS_STATUS_FLUSH, .fld .MWQ_SYS_STATUS_CAL, .fld .SLU_STATUS_LED_FREE, .arr (.SLU_SEC_FREE_FREE 0) 0x4 4,
    .arr (.SLU_SEC_RUN_RUN 0) 0x4 4] : List Regs) ++ ([.arr (.SLU_CRED_USED_USED 0) 0x4 32] : List Regs)) s t))

/-- Completion and effects of the commands named, on the states named (after R118, R120, R144, R150, R168, R258, R261, R267,
R279, each in part). -/
def Obligations.DescriptorsStartAndEnd : Prop :=
  (∀ (s : State) (n slot : Nat), s.mayStart (n / 2) = true → s.mwdOn n = none → s.running n = false →
    Completes (.descriptorStart n 16 slot) s (fun t => (t.mq.calibration = s.mq.calibration.filter (· ≠ n / 2) ∧
    t.mq.descs = s.mq.descs) ∧ Frame (alarmParts ++ ([.dram, .drawn, .tus, .slu, .mq] : List Part)) (alarmRegs ++ haltRegs ++
    ([.arr (.TIDE_ST_PHASE_PHASE 0) 0x4 8, .arr (.WTH_MA_CTRL_HOLD 0) 0x4 8, .arr (.WTH_MA_STATUS_VOUT 0) 0x4 8,
    .arr (.TUS_SEC_CTRL_HEAD1 0) 0x40 4, .arr (.TUS_SEC_CTRL_HEAD0 0) 0x40 4, .arr (.TUS_SEC_CTRL_PRI_SLOT 0) 0x40 4,
    .arr (.TUS_SEC_CTRL_LANE_EN 0) 0x40 4, .arr (.TUS_SEEK_CTRL_HINT 0) 0x20 4, .grid (.TUS_SEEK_TGT_TRACK 0 0) 0x20 4 0x4 2,
    .grid (.TUS_SEEK_TGT_FRAC 0 0) 0x20 4 0x4 2, .arr (.SDG_WR_CFG_ADV 0) 0x400 8,
    .arr (.SDG_VFY_CFG_DLY 0) 0x400 8] : List Regs) ++ ([.arr (.SDG_VFY_CFG_VAMP_CAL 0) 0x400 8,
    .grid (.SDG_WPC_SHIFT 0 0) 0x400 8 0x4 8, .grid (.SDG_WPC_ANG_SCALE 0 0) 0x400 8 0x4 16,
    .arr (.MWQ_STATUS_BLOCKED 0) 0x20 16, .arr (.MWQ_STATUS_OUTST 0) 0x20 16, .arr (.MWC_PI_PASS 0) 0x20 4,
    .arr (.MWC_PI_PI 0) 0x20 4, .arr (.MWC_STATUS_SCAN_STOP 0) 0x20 4, .arr (.MWC_STATUS_SPILL_CNT 0) 0x20 4,
    .fld .MWQ_SYS_STATUS_FLUSH, .fld .MWQ_SYS_STATUS_CAL, .fld .SLU_STATUS_LED_FREE] : List Regs) ++
    ([.arr (.SLU_SEC_FREE_FREE 0) 0x4 4, .arr (.SLU_SEC_RUN_RUN 0) 0x4 4,
    .arr (.SLU_CRED_USED_USED 0) 0x4 32] : List Regs)) s t)) ∧
  (∀ (s : State) (n q slot : Nat) (d : Mwd), n < 8 → s.mayStart (n / 2) = true → s.mwdOn n = none → s.running n = false →
    q ≠ 16 → d ∈ s.candidates (n / 2) → d.queue = q → d.slot = slot → (∀ e ∈ s.candidates (n / 2),
    e = d ∨ ((e.queue ≠ q ∨ e.slot ≠ slot) ∧ s.soonness n d ≤ s.soonness n e)) → d.op ≠ 5 → d.op ≠ 8 →
    s.lanesIdle (n / 2) = true → Completes (.descriptorStart n q slot) s (fun t => ((∃ e ∈ t.mq.descs, e.id = d.id ∧
    e.dstate = 2 ∧ e.stream = some n) ∧ (s.surface n = d.surface → s.standsAt n (1024 * d.track) = false →
    t.get (.TUS_SEEK_TGT_TRACK (n / 2) (n % 2)) = d.track % 2 ^ 22 ∧ (t.sec (n / 2)).seek.cmd = some true)) ∧
    Frame (alarmParts ++ ([.dram, .drawn, .tus, .slu, .mq] : List Part)) (alarmRegs ++ haltRegs ++
    ([.arr (.TIDE_ST_PHASE_PHASE 0) 0x4 8, .arr (.WTH_MA_CTRL_HOLD 0) 0x4 8, .arr (.WTH_MA_STATUS_VOUT 0) 0x4 8,
    .arr (.TUS_SEC_CTRL_HEAD1 0) 0x40 4, .arr (.TUS_SEC_CTRL_HEAD0 0) 0x40 4, .arr (.TUS_SEC_CTRL_PRI_SLOT 0) 0x40 4,
    .arr (.TUS_SEC_CTRL_LANE_EN 0) 0x40 4, .arr (.TUS_SEEK_CTRL_HINT 0) 0x20 4, .grid (.TUS_SEEK_TGT_TRACK 0 0) 0x20 4 0x4 2,
    .grid (.TUS_SEEK_TGT_FRAC 0 0) 0x20 4 0x4 2, .arr (.SDG_WR_CFG_ADV 0) 0x400 8,
    .arr (.SDG_VFY_CFG_DLY 0) 0x400 8] : List Regs) ++ ([.arr (.SDG_VFY_CFG_VAMP_CAL 0) 0x400 8,
    .grid (.SDG_WPC_SHIFT 0 0) 0x400 8 0x4 8, .grid (.SDG_WPC_ANG_SCALE 0 0) 0x400 8 0x4 16,
    .arr (.MWQ_STATUS_BLOCKED 0) 0x20 16, .arr (.MWQ_STATUS_OUTST 0) 0x20 16, .arr (.MWC_PI_PASS 0) 0x20 4,
    .arr (.MWC_PI_PI 0) 0x20 4, .arr (.MWC_STATUS_SCAN_STOP 0) 0x20 4, .arr (.MWC_STATUS_SPILL_CNT 0) 0x20 4,
    .fld .MWQ_SYS_STATUS_FLUSH, .fld .MWQ_SYS_STATUS_CAL, .fld .SLU_STATUS_LED_FREE] : List Regs) ++
    ([.arr (.SLU_SEC_FREE_FREE 0) 0x4 4, .arr (.SLU_SEC_RUN_RUN 0) 0x4 4,
    .arr (.SLU_CRED_USED_USED 0) 0x4 32] : List Regs)) s t)) ∧
  (∀ (s : State) (n q slot : Nat), (s.mayStart (n / 2) = false ∨ s.mwdOn n ≠ none ∨ s.running n = true) →
    Completes (.descriptorStart n q slot) s (fun t => (t = s) ∧ Frame (alarmParts ++ ([.dram, .drawn, .tus, .slu,
    .mq] : List Part)) (alarmRegs ++ haltRegs ++ ([.arr (.TIDE_ST_PHASE_PHASE 0) 0x4 8, .arr (.WTH_MA_CTRL_HOLD 0) 0x4 8,
    .arr (.WTH_MA_STATUS_VOUT 0) 0x4 8, .arr (.TUS_SEC_CTRL_HEAD1 0) 0x40 4, .arr (.TUS_SEC_CTRL_HEAD0 0) 0x40 4,
    .arr (.TUS_SEC_CTRL_PRI_SLOT 0) 0x40 4, .arr (.TUS_SEC_CTRL_LANE_EN 0) 0x40 4, .arr (.TUS_SEEK_CTRL_HINT 0) 0x20 4,
    .grid (.TUS_SEEK_TGT_TRACK 0 0) 0x20 4 0x4 2, .grid (.TUS_SEEK_TGT_FRAC 0 0) 0x20 4 0x4 2,
    .arr (.SDG_WR_CFG_ADV 0) 0x400 8, .arr (.SDG_VFY_CFG_DLY 0) 0x400 8] : List Regs) ++
    ([.arr (.SDG_VFY_CFG_VAMP_CAL 0) 0x400 8, .grid (.SDG_WPC_SHIFT 0 0) 0x400 8 0x4 8,
    .grid (.SDG_WPC_ANG_SCALE 0 0) 0x400 8 0x4 16, .arr (.MWQ_STATUS_BLOCKED 0) 0x20 16, .arr (.MWQ_STATUS_OUTST 0) 0x20 16,
    .arr (.MWC_PI_PASS 0) 0x20 4, .arr (.MWC_PI_PI 0) 0x20 4, .arr (.MWC_STATUS_SCAN_STOP 0) 0x20 4,
    .arr (.MWC_STATUS_SPILL_CNT 0) 0x20 4, .fld .MWQ_SYS_STATUS_FLUSH, .fld .MWQ_SYS_STATUS_CAL,
    .fld .SLU_STATUS_LED_FREE] : List Regs) ++ ([.arr (.SLU_SEC_FREE_FREE 0) 0x4 4, .arr (.SLU_SEC_RUN_RUN 0) 0x4 4,
    .arr (.SLU_CRED_USED_USED 0) 0x4 32] : List Regs)) s t)) ∧
  (∀ (s : State) (n : Nat) (d : Mwd), s.mwdOn n = some d → d.op = 8 → d.dstate = 2 → d.issued = false → s.hintFree d = true →
    Completes (.seekHint n) s (fun t => (t.get (.TUS_SEEK_CTRL_HINT d.sec) = 1 ∧ (t.sec d.sec).seek.cmd = some true ∧
    (∃ e ∈ t.mq.descs, e.id = d.id ∧ e.issued = true)) ∧ Frame [.tus, .mq] [.arr (.TUS_SEEK_CTRL_HINT 0) 0x20 4] s t)) ∧
  (∀ (s : State) (n : Nat) (d : Mwd), s.mwdOn n = some d → s.hintFree d = false →
    Completes (.seekHint n) s (fun t => (t = s) ∧ Frame [.tus, .mq] [.arr (.TUS_SEEK_CTRL_HINT 0) 0x20 4] s t)) ∧
  (∀ (s : State) (k : Nat) (d : Mwd), s.hintOf k = some d →
    s.mq.descs.any (fun e => e.op != 8 && decide (e.op < 0x20) && e.surface == d.surface && e.track == d.track) = false →
    d.batch = 0 → Completes (.hintTimeout k) s (fun t => (t.mq.descs = s.mq.descs.filter (fun x => x.id ≠ d.id) ∧
    (d.issued = true → (s.get (.TUS_SEEK_CTRL_HINT k) = 1 ∨ (s.sec k).seek.cmd ≠ some true) →
    (t.sec k).seek.cmd = some false)) ∧ Frame (alarmParts ++ ([.dram, .drawn, .tus, .slu, .mq] : List Part)) (alarmRegs ++
    haltRegs ++ ([.arr (.MWQ_STATUS_BLOCKED 0) 0x20 16, .arr (.MWQ_STATUS_OUTST 0) 0x20 16, .arr (.MWC_PI_PASS 0) 0x20 4,
    .arr (.MWC_PI_PI 0) 0x20 4, .arr (.MWC_STATUS_SCAN_STOP 0) 0x20 4, .arr (.MWC_STATUS_SPILL_CNT 0) 0x20 4,
    .fld .MWQ_SYS_STATUS_FLUSH, .fld .MWQ_SYS_STATUS_CAL, .fld .SLU_STATUS_LED_FREE, .arr (.SLU_SEC_FREE_FREE 0) 0x4 4,
    .arr (.SLU_SEC_RUN_RUN 0) 0x4 4, .arr (.SLU_CRED_USED_USED 0) 0x4 32] : List Regs)) s t)) ∧
  (∀ (s : State) (k : Nat) (d : Mwd), s.hintOf k = some d →
    s.mq.descs.any (fun e => e.op != 8 && decide (e.op < 0x20) && e.surface == d.surface && e.track == d.track) = true →
    Completes (.hintTimeout k) s (fun t => (t = s) ∧ Frame (alarmParts ++ ([.dram, .drawn, .tus, .slu,
    .mq] : List Part)) (alarmRegs ++ haltRegs ++ ([.arr (.MWQ_STATUS_BLOCKED 0) 0x20 16, .arr (.MWQ_STATUS_OUTST 0) 0x20 16,
    .arr (.MWC_PI_PASS 0) 0x20 4, .arr (.MWC_PI_PI 0) 0x20 4, .arr (.MWC_STATUS_SCAN_STOP 0) 0x20 4,
    .arr (.MWC_STATUS_SPILL_CNT 0) 0x20 4, .fld .MWQ_SYS_STATUS_FLUSH, .fld .MWQ_SYS_STATUS_CAL, .fld .SLU_STATUS_LED_FREE,
    .arr (.SLU_SEC_FREE_FREE 0) 0x4 4, .arr (.SLU_SEC_RUN_RUN 0) 0x4 4,
    .arr (.SLU_CRED_USED_USED 0) 0x4 32] : List Regs)) s t)) ∧
  (∀ (s : State) (n : Nat) (d : Mwd) (o x last : Nat) (rest : List (Nat × Nat × Nat)), n < 8 → s.mwdOn n = some d →
    d.failed = (o, x, last) :: rest → d.issued = false → d.lad = [] → s.running n = false → s.mireActs = true →
    s.get .WEIR_STATUS_PF ≠ 2 → (s.chan n).awaiting = 0 → (s.stage n).data = [] → (last = 2 ∨ last = 4) →
    Completes (.ladderStep n) s (fun t => (((s.zoneAt d.surface d.track).isSome = true → t.get (.SDG_ST_CTRL_MODE n) = 3 ∧
    t.get (.SDG_ST_CTRL_STEP n) = last + 1)) ∧ Frame (alarmParts ++ ([.dram, .drawn, .tide, .tus, .slu,
    .mq] : List Part)) (alarmRegs ++ haltRegs ++ ([.arr (.TIDE_ST_CBPC_CBPC 0) 0x4 8, .arr (.TUS_SEC_CTRL_PRI_SLOT 0) 0x40 4,
    .arr (.TUS_SEEK_CTRL_HINT 0) 0x20 4, .grid (.TUS_SEEK_TGT_TRACK 0 0) 0x20 4 0x4 2,
    .grid (.TUS_SEEK_TGT_FRAC 0 0) 0x20 4 0x4 2, .arr (.REED_ST_CTRL_ABORT 0) 0x100 8, .arr (.REED_ST_CTRL_FLUSH 0) 0x100 8,
    .arr (.REED_ST_CTRL_ENTRY 0) 0x100 8, .arr (.REED_ST_STATUS_RESTARTS 0) 0x100 8, .arr (.REED_ST_STATUS_EVT_CNT 0) 0x100 8,
    .arr (.REED_ST_PC_MARK_PC 0) 0x100 8, .arr (.REED_ST_PC_PC 0) 0x100 8] : List Regs) ++
    ([.arr (.REED_ST_THRESH_THRESH 0) 0x100 8, .grid (.REED_OP_VALUE 0 0) 0x100 8 0x4 8,
    .grid (.REED_ST_G_VALUE 0 0) 0x100 8 0x4 16, .arr (.SDG_ST_CTRL_COMB 0) 0x400 8,
    .arr (.SDG_ST_CTRL_FORCE_TIMED 0) 0x400 8, .arr (.SDG_ST_CTRL_ALT_SET 0) 0x400 8, .arr (.SDG_ST_CTRL_STEP 0) 0x400 8,
    .arr (.SDG_ST_CTRL_MODE 0) 0x400 8, .arr (.SDG_ST_STATUS_CODE_ERR 0) 0x400 8, .arr (.SDG_CODE_C 0) 0x400 8,
    .arr (.SDG_CODE_META 0) 0x400 8, .arr (.SDG_SEAL_TRK_SURF 0) 0x400 8] : List Regs) ++
    ([.arr (.SDG_SEAL_TRK_TRACK 0) 0x400 8, .arr (.SDG_WR_CFG_MARKER 0) 0x400 8, .arr (.MWQ_STATUS_BLOCKED 0) 0x20 16,
    .arr (.MWQ_STATUS_OUTST 0) 0x20 16, .arr (.MWC_PI_PASS 0) 0x20 4, .arr (.MWC_PI_PI 0) 0x20 4,
    .arr (.MWC_STATUS_SCAN_STOP 0) 0x20 4, .arr (.MWC_STATUS_SPILL_CNT 0) 0x20 4, .fld .MWQ_SYS_STATUS_FLUSH,
    .fld .MWQ_SYS_STATUS_CAL, .fld .SLU_STATUS_LED_FREE, .arr (.SLU_SEC_FREE_FREE 0) 0x4 4] : List Regs) ++
    ([.arr (.SLU_SEC_RUN_RUN 0) 0x4 4, .arr (.SLU_CRED_USED_USED 0) 0x4 32] : List Regs)) s t)) ∧
  (∀ (s : State) (n : Nat) (d : Mwd) (o x last : Nat) (rest : List (Nat × Nat × Nat)), n < 8 → s.mwdOn n = some d →
    d.failed = (o, x, last) :: rest → d.issued = false → d.lad = [] → s.running n = false → s.mireActs = true →
    s.get .WEIR_STATUS_PF ≠ 2 → (s.chan n).awaiting = 0 → (s.stage n).data = [] → last = 1 → d.sec = n / 2 →
    s.lanesIdle (n / 2) = true → Completes (.ladderStep n) s (fun t => ((∀ zone z, s.zoneAt d.surface d.track = some (zone,
    z) → s.standsAt n (1024 * (d.track + (d.sector + o) / z.sectors)) = false →
    s.seeksTo n (1024 * (d.track + (d.sector + o) / z.sectors)) = false → (t.sec (n / 2)).seek.cmd = some true ∧
    t.get (.TUS_SEEK_TGT_TRACK (n / 2) (n % 2)) = (d.track + (d.sector + o) / z.sectors) % 2 ^ 22)) ∧ Frame (alarmParts ++
    ([.dram, .drawn, .tide, .tus, .slu, .mq] : List Part)) (alarmRegs ++ haltRegs ++ ([.arr (.TIDE_ST_CBPC_CBPC 0) 0x4 8,
    .arr (.TUS_SEC_CTRL_PRI_SLOT 0) 0x40 4, .arr (.TUS_SEEK_CTRL_HINT 0) 0x20 4, .grid (.TUS_SEEK_TGT_TRACK 0 0) 0x20 4 0x4 2,
    .grid (.TUS_SEEK_TGT_FRAC 0 0) 0x20 4 0x4 2, .arr (.REED_ST_CTRL_ABORT 0) 0x100 8, .arr (.REED_ST_CTRL_FLUSH 0) 0x100 8,
    .arr (.REED_ST_CTRL_ENTRY 0) 0x100 8, .arr (.REED_ST_STATUS_RESTARTS 0) 0x100 8, .arr (.REED_ST_STATUS_EVT_CNT 0) 0x100 8,
    .arr (.REED_ST_PC_MARK_PC 0) 0x100 8, .arr (.REED_ST_PC_PC 0) 0x100 8] : List Regs) ++
    ([.arr (.REED_ST_THRESH_THRESH 0) 0x100 8, .grid (.REED_OP_VALUE 0 0) 0x100 8 0x4 8,
    .grid (.REED_ST_G_VALUE 0 0) 0x100 8 0x4 16, .arr (.SDG_ST_CTRL_COMB 0) 0x400 8,
    .arr (.SDG_ST_CTRL_FORCE_TIMED 0) 0x400 8, .arr (.SDG_ST_CTRL_ALT_SET 0) 0x400 8, .arr (.SDG_ST_CTRL_STEP 0) 0x400 8,
    .arr (.SDG_ST_CTRL_MODE 0) 0x400 8, .arr (.SDG_ST_STATUS_CODE_ERR 0) 0x400 8, .arr (.SDG_CODE_C 0) 0x400 8,
    .arr (.SDG_CODE_META 0) 0x400 8, .arr (.SDG_SEAL_TRK_SURF 0) 0x400 8] : List Regs) ++
    ([.arr (.SDG_SEAL_TRK_TRACK 0) 0x400 8, .arr (.SDG_WR_CFG_MARKER 0) 0x400 8, .arr (.MWQ_STATUS_BLOCKED 0) 0x20 16,
    .arr (.MWQ_STATUS_OUTST 0) 0x20 16, .arr (.MWC_PI_PASS 0) 0x20 4, .arr (.MWC_PI_PI 0) 0x20 4,
    .arr (.MWC_STATUS_SCAN_STOP 0) 0x20 4, .arr (.MWC_STATUS_SPILL_CNT 0) 0x20 4, .fld .MWQ_SYS_STATUS_FLUSH,
    .fld .MWQ_SYS_STATUS_CAL, .fld .SLU_STATUS_LED_FREE, .arr (.SLU_SEC_FREE_FREE 0) 0x4 4] : List Regs) ++
    ([.arr (.SLU_SEC_RUN_RUN 0) 0x4 4, .arr (.SLU_CRED_USED_USED 0) 0x4 32] : List Regs)) s t)) ∧
  (∀ (s : State) (n : Nat), n < 8 → MireIrq.opEnd n ∈ s.mireIrq → s.mireActs = true → s.running n = false →
    (s.chan n).awaiting = 0 → (∀ e ∈ (s.chan n).vfyTaken ++ (s.chan n).vfy, e.posted = true) →
    ((s.stage n).read = false ∨ (s.stage n).bufErr = true ∨ (s.stage n).data = []) →
    Completes (.operationEnd n) s (fun t => (MireIrq.opEnd n ∉ t.mireIrq ∧ (t.chan n).results = [] ∧ (t.seq n).events = [] ∧
    (s.mwdOn n = none → t.mq.descs = s.mq.descs) ∧ (∀ d zone z, s.mwdOn n = some d → s.zoneAt d.surface d.track = some (zone,
    z) → d.issued = true → d.op = 2 → d.opKind = 0 → d.cancel = false → d.failed = [] → (s.stage n).bufErr = false →
    (s.chan n).lost = 0 → s.get (.REED_ST_STATUS_TERM n) = 0 → s.get (.REED_ST_STATUS_RESULT n) ≤ 1 →
    (d.opFirst + min (s.seq n).sectorsCommitted d.opCount) < d.sectors z → ∃ e ∈ t.mq.descs, e.id = d.id ∧ e.issued = false ∧
    e.done = (d.opFirst + min (s.seq n).sectorsCommitted d.opCount))) ∧ Frame (alarmParts ++ ([.dram, .drawn, .slu,
    .mq] : List Part)) (alarmRegs ++ haltRegs ++ ([.arr (.REED_ST_STATUS_EVT_CNT 0) 0x100 8,
    .arr (.MWQ_STATUS_BLOCKED 0) 0x20 16, .arr (.MWQ_STATUS_OUTST 0) 0x20 16, .arr (.MWC_PI_PASS 0) 0x20 4,
    .arr (.MWC_PI_PI 0) 0x20 4, .arr (.MWC_STATUS_SCAN_STOP 0) 0x20 4, .arr (.MWC_STATUS_SPILL_CNT 0) 0x20 4,
    .fld .MWQ_SYS_STATUS_FLUSH, .fld .MWQ_SYS_STATUS_CAL, .fld .SLU_STATUS_LED_FREE, .arr (.SLU_SEC_FREE_FREE 0) 0x4 4,
    .arr (.SLU_SEC_RUN_RUN 0) 0x4 4] : List Regs) ++ ([.arr (.SLU_CRED_USED_USED 0) 0x4 32] : List Regs)) s t))

/-- Completion and effects of the commands named, on the states named (after R205, R206, R207, R212, R213, R214, R215, R216,
R217, R218, R223, R232, R242, each in part). -/
def Obligations.RequestsAreTaken : Prop :=
  (∀ (s : State) (who : Who) (p : Nat), (who = .mire ∨ p < 48) → s.mbx p = 0 →
    Completes (.mbxRing who p) s (fun t => (t.mbx p = 1 ∧ t.get (.MBX_LATCH_CMD p) = s.req p 0 2 ∧
    t.get (.MBX_LATCH_TAG p) = s.req p 2 2 ∧ t.mbxKey p = (s.req p 12 1, s.req p 8 4) ∧ t.get (.MBX_STAT_STARTED p) = 0 ∧
    t.get (.MBX_STAT_CANCEL_REQ p) = 0 ∧ t.aq.ring = s.aq.ring ++ [p] ∧ t.bus = .done) ∧ Frame (alarmParts ++ ([.bus,
    .aq] : List Part)) (alarmRegs ++ haltRegs ++ ([.arr (.MBX_STAT_SESSION 0) 0x400 64,
    .arr (.MBX_STAT_CANCEL_REQ 0) 0x400 64, .arr (.MBX_STAT_DB_ERR 0) 0x400 64, .arr (.MBX_STAT_STARTED 0) 0x400 64,
    .arr (.MBX_STAT_STATE 0) 0x400 64, .arr (.MBX_LATCH_CMD 0) 0x400 64, .arr (.MBX_LATCH_TAG 0) 0x400 64,
    .arr (.MBX_LATCH_GEN_GEN 0) 0x400 64] : List Regs)) s t)) ∧
  (∀ (s : State) (who : Who) (p : Nat), (who = .mire ∨ p < 48) → s.mbx p ≠ 0 →
    Completes (.mbxRing who p) s (fun t => (t.mbx p = s.mbx p ∧ t.get (.MBX_STAT_DB_ERR p) = 1 ∧ t.aq = s.aq ∧
    t.bus = .done) ∧ Frame (alarmParts ++ ([.bus, .aq] : List Part)) (alarmRegs ++ haltRegs ++
    ([.arr (.MBX_STAT_SESSION 0) 0x400 64, .arr (.MBX_STAT_CANCEL_REQ 0) 0x400 64, .arr (.MBX_STAT_DB_ERR 0) 0x400 64,
    .arr (.MBX_STAT_STARTED 0) 0x400 64, .arr (.MBX_STAT_STATE 0) 0x400 64, .arr (.MBX_LATCH_CMD 0) 0x400 64,
    .arr (.MBX_LATCH_TAG 0) 0x400 64, .arr (.MBX_LATCH_GEN_GEN 0) 0x400 64] : List Regs)) s t)) ∧
  (∀ (s : State) (core p : Nat), core < 8 → 48 ≤ p → Completes (.mbxRing (.fen core) p) s (fun t => (t.bus = .busError ∧
    t.latched 0x0101 core = true ∧ t.aq = s.aq ∧ t.mbx p = s.mbx p) ∧ Frame (alarmParts ++ ([.bus,
    .aq] : List Part)) (alarmRegs ++ haltRegs ++ ([.arr (.MBX_STAT_SESSION 0) 0x400 64,
    .arr (.MBX_STAT_CANCEL_REQ 0) 0x400 64, .arr (.MBX_STAT_DB_ERR 0) 0x400 64, .arr (.MBX_STAT_STARTED 0) 0x400 64,
    .arr (.MBX_STAT_STATE 0) 0x400 64, .arr (.MBX_LATCH_CMD 0) 0x400 64, .arr (.MBX_LATCH_TAG 0) 0x400 64,
    .arr (.MBX_LATCH_GEN_GEN 0) 0x400 64] : List Regs)) s t)) ∧
  (∀ (s : State) (who : Who) (p : Nat), (who = .mire ∨ p < 48) → s.mbx p = 3 →
    Completes (.mbxAck who p) s (fun t => (t.mbx p = 0 ∧ t.get (.MBX_DONE_DONE (p / 32)) / 2 ^ (p % 32) % 2 = 0 ∧
    t.aq = s.aq ∧ t.bus = .done) ∧ Frame (alarmParts ++ ([.bus] : List Part)) (alarmRegs ++ haltRegs ++
    ([.arr (.MBX_DONE_DONE 0) 0x4 2, .arr (.MBX_STAT_DB_ERR 0) 0x400 64,
    .arr (.MBX_STAT_STATE 0) 0x400 64] : List Regs)) s t)) ∧
  (∀ (s : State) (who : Who) (p : Nat), (who = .mire ∨ p < 48) → s.mbx p ≠ 3 →
    Completes (.mbxAck who p) s (fun t => (t.mbx p = s.mbx p ∧ t.get (.MBX_STAT_DB_ERR p) = 1 ∧ t.aq = s.aq ∧ t.bus = .done) ∧
    Frame (alarmParts ++ ([.bus] : List Part)) (alarmRegs ++ haltRegs ++ ([.arr (.MBX_DONE_DONE 0) 0x4 2,
    .arr (.MBX_STAT_DB_ERR 0) 0x400 64, .arr (.MBX_STAT_STATE 0) 0x400 64] : List Regs)) s t)) ∧
  (∀ (s : State) (core p : Nat), core < 8 → 48 ≤ p → Completes (.mbxAck (.fen core) p) s (fun t => (t.bus = .busError ∧
    t.latched 0x0101 core = true ∧ t.aq = s.aq ∧ t.mbx p = s.mbx p) ∧ Frame (alarmParts ++ ([.bus] : List Part)) (alarmRegs ++
    haltRegs ++ ([.arr (.MBX_DONE_DONE 0) 0x4 2, .arr (.MBX_STAT_DB_ERR 0) 0x400 64,
    .arr (.MBX_STAT_STATE 0) 0x400 64] : List Regs)) s t)) ∧
  (∀ (s : State) (who : Who) (p : Nat), (who = .mire ∨ p < 48) → s.mbx p = 2 →
    Completes (.mbxCancel who p) s (fun t => (t.get (.MBX_STAT_CANCEL_REQ p) = 1 ∧ t.mbx p = 2 ∧ t.aq = s.aq ∧
    t.bus = .done) ∧ Frame (alarmParts ++ ([.bus, .aq, .dyke] : List Part)) (alarmRegs ++ haltRegs ++
    ([.arr (.MBX_DONE_DONE 0) 0x4 2, .grid (.MBX_RSP_DATA 0 0) 0x400 64 0x4 64, .arr (.MBX_STAT_CANCEL_REQ 0) 0x400 64,
    .arr (.MBX_STAT_STARTED 0) 0x400 64, .arr (.MBX_STAT_STATE 0) 0x400 64, .arr (.MBX_LATCH_RSP_STATUS 0) 0x400 64,
    .fld .DYKE_SLOT_INACTIVE] : List Regs)) s t)) ∧
  (∀ (s : State) (who : Who) (p : Nat), (who = .mire ∨ p < 48) → s.mbx p = 1 → s.aqsiaActs = true →
    Completes (.mbxCancel who p) s (fun t => (Answered s t p 0x40 false [] ∧ t.bus = .done) ∧ Frame (alarmParts ++ ([.bus,
    .aq, .dyke] : List Part)) (alarmRegs ++ haltRegs ++ ([.arr (.MBX_DONE_DONE 0) 0x4 2,
    .grid (.MBX_RSP_DATA 0 0) 0x400 64 0x4 64, .arr (.MBX_STAT_CANCEL_REQ 0) 0x400 64, .arr (.MBX_STAT_STARTED 0) 0x400 64,
    .arr (.MBX_STAT_STATE 0) 0x400 64, .arr (.MBX_LATCH_RSP_STATUS 0) 0x400 64, .fld .DYKE_SLOT_INACTIVE] : List Regs)) s t)) ∧
  (∀ (s : State) (who : Who) (p : Nat), (who = .mire ∨ p < 48) → s.mbx p = 1 → s.aqsiaActs = false →
    Completes (.mbxCancel who p) s (fun t => (t.mbx p = 1 ∧ t.aq.toCancel = p :: s.aq.toCancel.filter (fun q => q ≠ p) ∧
    t.aq.ring = s.aq.ring ∧ t.bus = .done) ∧ Frame (alarmParts ++ ([.bus, .aq, .dyke] : List Part)) (alarmRegs ++ haltRegs ++
    ([.arr (.MBX_DONE_DONE 0) 0x4 2, .grid (.MBX_RSP_DATA 0 0) 0x400 64 0x4 64, .arr (.MBX_STAT_CANCEL_REQ 0) 0x400 64,
    .arr (.MBX_STAT_STARTED 0) 0x400 64, .arr (.MBX_STAT_STATE 0) 0x400 64, .arr (.MBX_LATCH_RSP_STATUS 0) 0x400 64,
    .fld .DYKE_SLOT_INACTIVE] : List Regs)) s t)) ∧
  (∀ (s : State) (who : Who) (p : Nat), (who = .mire ∨ p < 48) → s.mbx p ≠ 1 → s.mbx p ≠ 2 →
    Completes (.mbxCancel who p) s (fun t => (t.regs = s.regs ∧ t.aq = s.aq ∧ t.bus = .done) ∧ Frame (alarmParts ++ ([.bus,
    .aq, .dyke] : List Part)) (alarmRegs ++ haltRegs ++ ([.arr (.MBX_DONE_DONE 0) 0x4 2,
    .grid (.MBX_RSP_DATA 0 0) 0x400 64 0x4 64, .arr (.MBX_STAT_CANCEL_REQ 0) 0x400 64, .arr (.MBX_STAT_STARTED 0) 0x400 64,
    .arr (.MBX_STAT_STATE 0) 0x400 64, .arr (.MBX_LATCH_RSP_STATUS 0) 0x400 64, .fld .DYKE_SLOT_INACTIVE] : List Regs)) s t)) ∧
  (∀ (s : State) (core p : Nat), core < 8 → 48 ≤ p → Completes (.mbxCancel (.fen core) p) s (fun t => (t.bus = .busError ∧
    t.latched 0x0101 core = true ∧ t.aq = s.aq ∧ t.mbx p = s.mbx p) ∧ Frame (alarmParts ++ ([.bus, .aq,
    .dyke] : List Part)) (alarmRegs ++ haltRegs ++ ([.arr (.MBX_DONE_DONE 0) 0x4 2, .grid (.MBX_RSP_DATA 0 0) 0x400 64 0x4 64,
    .arr (.MBX_STAT_CANCEL_REQ 0) 0x400 64, .arr (.MBX_STAT_STARTED 0) 0x400 64, .arr (.MBX_STAT_STATE 0) 0x400 64,
    .arr (.MBX_LATCH_RSP_STATUS 0) 0x400 64, .fld .DYKE_SLOT_INACTIVE] : List Regs)) s t)) ∧
  (∀ (s : State) (emf : Nat), (s.aqsiaActs = false ∨ s.actionable s.aq.ring [] = none) →
    Completes (.requestStart emf) s (fun t => (t = s) ∧ Frame (alarmParts ++ ([.aq, .dyke] : List Part)) (alarmRegs ++
    haltRegs ++ ([.arr (.MBX_DONE_DONE 0) 0x4 2, .grid (.MBX_RSP_DATA 0 0) 0x400 64 0x4 64,
    .arr (.MBX_STAT_CANCEL_REQ 0) 0x400 64, .arr (.MBX_STAT_STARTED 0) 0x400 64, .arr (.MBX_STAT_STATE 0) 0x400 64,
    .arr (.MBX_LATCH_RSP_STATUS 0) 0x400 64, .fld .DYKE_SLOT_INACTIVE] : List Regs)) s t)) ∧
  (∀ (s : State) (emf p : Nat), s.aqsiaActs = true → s.actionable s.aq.ring [] = some p → s.mbx p = 1 → p ∈ s.aq.toCancel →
    Completes (.requestStart emf) s (fun t => (Answered s t p 0x40 false []) ∧ Frame (alarmParts ++ ([.aq,
    .dyke] : List Part)) (alarmRegs ++ haltRegs ++ ([.arr (.MBX_DONE_DONE 0) 0x4 2, .grid (.MBX_RSP_DATA 0 0) 0x400 64 0x4 64,
    .arr (.MBX_STAT_CANCEL_REQ 0) 0x400 64, .arr (.MBX_STAT_STARTED 0) 0x400 64, .arr (.MBX_STAT_STATE 0) 0x400 64,
    .arr (.MBX_LATCH_RSP_STATUS 0) 0x400 64, .fld .DYKE_SLOT_INACTIVE] : List Regs)) s t)) ∧
  (∀ (s : State) (emf p : Nat), s.aqsiaActs = true → s.actionable s.aq.ring [] = some p → s.mbx p = 1 → p ∉ s.aq.toCancel →
    s.committed = true → Completes (.requestStart emf) s (fun t => (Answered s t p 0x51 false []) ∧ Frame (alarmParts ++
    ([.aq, .dyke] : List Part)) (alarmRegs ++ haltRegs ++ ([.arr (.MBX_DONE_DONE 0) 0x4 2,
    .grid (.MBX_RSP_DATA 0 0) 0x400 64 0x4 64, .arr (.MBX_STAT_CANCEL_REQ 0) 0x400 64, .arr (.MBX_STAT_STARTED 0) 0x400 64,
    .arr (.MBX_STAT_STATE 0) 0x400 64, .arr (.MBX_LATCH_RSP_STATUS 0) 0x400 64, .fld .DYKE_SLOT_INACTIVE] : List Regs)) s t)) ∧
  (∀ (s : State) (emf p status : Nat), s.aqsiaActs = true → s.actionable s.aq.ring [] = some p → s.mbx p = 1 →
    p ∉ s.aq.toCancel → s.committed = false → s.requestCheck p = some status →
    Completes (.requestStart emf) s (fun t => (Answered s t p status false []) ∧ Frame (alarmParts ++ ([.aq,
    .dyke] : List Part)) (alarmRegs ++ haltRegs ++ ([.arr (.MBX_DONE_DONE 0) 0x4 2, .grid (.MBX_RSP_DATA 0 0) 0x400 64 0x4 64,
    .arr (.MBX_STAT_CANCEL_REQ 0) 0x400 64, .arr (.MBX_STAT_STARTED 0) 0x400 64, .arr (.MBX_STAT_STATE 0) 0x400 64,
    .arr (.MBX_LATCH_RSP_STATUS 0) 0x400 64, .fld .DYKE_SLOT_INACTIVE] : List Regs)) s t)) ∧
  (∀ (s : State) (emf p : Nat), s.aqsiaActs = true → s.actionable s.aq.ring [] = some p → s.mbx p = 1 → p ∉ s.aq.toCancel →
    s.committed = false → s.requestCheck p = none → clash (s.claimsOf p) s.claimed = true →
    Completes (.requestStart emf) s (fun t => (Answered s t p 0x31 false []) ∧ Frame (alarmParts ++ ([.aq,
    .dyke] : List Part)) (alarmRegs ++ haltRegs ++ ([.arr (.MBX_DONE_DONE 0) 0x4 2, .grid (.MBX_RSP_DATA 0 0) 0x400 64 0x4 64,
    .arr (.MBX_STAT_CANCEL_REQ 0) 0x400 64, .arr (.MBX_STAT_STARTED 0) 0x400 64, .arr (.MBX_STAT_STATE 0) 0x400 64,
    .arr (.MBX_LATCH_RSP_STATUS 0) 0x400 64, .fld .DYKE_SLOT_INACTIVE] : List Regs)) s t)) ∧
  (∀ (s : State) (emf p status : Nat), s.aqsiaActs = true → s.actionable s.aq.ring [] = some p → s.mbx p = 1 →
    p ∉ s.aq.toCancel → s.committed = false → s.requestCheck p = none → clash (s.claimsOf p) s.claimed = false →
    s.precondition p emf = some status → Completes (.requestStart emf) s (fun t => (Answered s t p status false []) ∧
    Frame (alarmParts ++ ([.aq, .dyke] : List Part)) (alarmRegs ++ haltRegs ++ ([.arr (.MBX_DONE_DONE 0) 0x4 2,
    .grid (.MBX_RSP_DATA 0 0) 0x400 64 0x4 64, .arr (.MBX_STAT_CANCEL_REQ 0) 0x400 64, .arr (.MBX_STAT_STARTED 0) 0x400 64,
    .arr (.MBX_STAT_STATE 0) 0x400 64, .arr (.MBX_LATCH_RSP_STATUS 0) 0x400 64, .fld .DYKE_SLOT_INACTIVE] : List Regs)) s t)) ∧
  (∀ (s : State) (emf p : Nat), s.aqsiaActs = true → s.actionable s.aq.ring [] = some p → s.mbx p = 1 → p ∉ s.aq.toCancel →
    s.committed = false → s.requestCheck p = none → clash (s.claimsOf p) s.claimed = false → s.precondition p emf = none →
    Completes (.requestStart emf) s (fun t => (t.mbx p = 2 ∧ t.get (.MBX_STAT_STARTED p) = 1 ∧
    t.aq.ring = s.aq.ring.filter (fun q => q ≠ p) ∧ t.aq.running = s.aq.running ++ [(p, s.claimsOf p)] ∧
    t.aq.runs.at p = { challenge := if s.mbxCmd p == 0x0705 || s.mbxCmd p == 0x0B05 then s.challengeOf p else none } ∧
    ((s.mbxCmd p = 0x0705 ∨ s.mbxCmd p = 0x0B05) → ∀ x ∈ t.aq.sessions, x.key = s.mbxKey p → x.challenge = none)) ∧
    Frame (alarmParts ++ ([.aq, .dyke] : List Part)) (alarmRegs ++ haltRegs ++ ([.arr (.MBX_DONE_DONE 0) 0x4 2,
    .grid (.MBX_RSP_DATA 0 0) 0x400 64 0x4 64, .arr (.MBX_STAT_CANCEL_REQ 0) 0x400 64, .arr (.MBX_STAT_STARTED 0) 0x400 64,
    .arr (.MBX_STAT_STATE 0) 0x400 64, .arr (.MBX_LATCH_RSP_STATUS 0) 0x400 64, .fld .DYKE_SLOT_INACTIVE] : List Regs)) s t)) ∧
  (∀ (s : State) (id : Nat) (x : Session), s.session id = some x → x.idle ≠ 0 → s.sessionActive x.key = false →
    Completes (.sessionIdleTimeout id) s (fun t => (t.aq.sessions = s.aq.sessions.filter (fun y => y.id ≠ x.id) ∧
    t.aq.ring = s.aq.ring ∧ t.aq.running = s.aq.running) ∧ Frame [.fenIrq, .aq, .dyke] [.fld .PEAT_STATUS_STAMP_WAIT,
    .fld .PEAT_STATUS_HELD, .fld .PEAT_STATUS_USED, .fld .PEAT_FRZ_AREA, .arr (.MBX_DONE_DONE 0) 0x4 2,
    .grid (.MBX_RSP_DATA 0 0) 0x400 64 0x4 64, .arr (.MBX_STAT_CANCEL_REQ 0) 0x400 64, .arr (.MBX_STAT_STARTED 0) 0x400 64,
    .arr (.MBX_STAT_STATE 0) 0x400 64, .arr (.MBX_LATCH_RSP_STATUS 0) 0x400 64, .fld .DYKE_SLOT_INACTIVE] s t)) ∧
  (∀ (s : State) (id : Nat), (∀ x, s.session id = some x → x.idle = 0 ∨ s.sessionActive x.key = true) →
    Completes (.sessionIdleTimeout id) s (fun t => (t = s) ∧ Frame [.fenIrq, .aq, .dyke] [.fld .PEAT_STATUS_STAMP_WAIT,
    .fld .PEAT_STATUS_HELD, .fld .PEAT_STATUS_USED, .fld .PEAT_FRZ_AREA, .arr (.MBX_DONE_DONE 0) 0x4 2,
    .grid (.MBX_RSP_DATA 0 0) 0x400 64 0x4 64, .arr (.MBX_STAT_CANCEL_REQ 0) 0x400 64, .arr (.MBX_STAT_STARTED 0) 0x400 64,
    .arr (.MBX_STAT_STATE 0) 0x400 64, .arr (.MBX_LATCH_RSP_STATUS 0) 0x400 64, .fld .DYKE_SLOT_INACTIVE] s t)) ∧
  (∀ (s : State) (p : Nat) (id gen : Nat), s.Runs p 0x0101 → s.freeId (pairClass p) = some id →
    gen = s.get .MBX_EPOCH_PCC * 2 ^ 24 + s.get .MBX_EPOCH_WARM * 2 ^ 16 + (if s.aq.opens = 0xFFFF then 1 else s.aq.opens + 1) →
    Completes (.sessionOpen p) s (fun t => (t.aq.sessions = s.aq.sessions ++
    [{ id := id, gen := gen, cls := pairClass p, label := s.req p 20 4, idle := s.req p 16 2 }] ∧ AnsweredTo (id,
    gen) s t p 0 true (leBytes 4 s.aqsiaVer ++ leBytes 1 (pairClass p) ++ leBytes 1 16 ++ leBytes 2 0) ∧ (pairClass p = 0 →
    t.dyke.hostSeen = true)) ∧ Frame [.fenIrq, .aq, .dyke] [.fld .PEAT_STATUS_STAMP_WAIT, .fld .PEAT_STATUS_HELD,
    .fld .PEAT_STATUS_USED, .fld .PEAT_FRZ_AREA, .arr (.MBX_DONE_DONE 0) 0x4 2, .grid (.MBX_RSP_DATA 0 0) 0x400 64 0x4 64,
    .arr (.MBX_STAT_CANCEL_REQ 0) 0x400 64, .arr (.MBX_STAT_STARTED 0) 0x400 64, .arr (.MBX_STAT_STATE 0) 0x400 64,
    .arr (.MBX_LATCH_RSP_STATUS 0) 0x400 64, .fld .DYKE_SLOT_INACTIVE] s t)) ∧
  (∀ (s : State) (p : Nat), s.Runs p 0x0101 → s.freeId (pairClass p) = none →
    Completes (.sessionOpen p) s (fun t => (Answered s t p 0x22 false [] ∧ t.aq.sessions = s.aq.sessions) ∧ Frame [.fenIrq,
    .aq, .dyke] [.fld .PEAT_STATUS_STAMP_WAIT, .fld .PEAT_STATUS_HELD, .fld .PEAT_STATUS_USED, .fld .PEAT_FRZ_AREA,
    .arr (.MBX_DONE_DONE 0) 0x4 2, .grid (.MBX_RSP_DATA 0 0) 0x400 64 0x4 64, .arr (.MBX_STAT_CANCEL_REQ 0) 0x400 64,
    .arr (.MBX_STAT_STARTED 0) 0x400 64, .arr (.MBX_STAT_STATE 0) 0x400 64, .arr (.MBX_LATCH_RSP_STATUS 0) 0x400 64,
    .fld .DYKE_SLOT_INACTIVE] s t)) ∧
  (∀ (s : State) (p : Nat) (x : Session), s.Runs p 0x0102 → s.session x.id = some x → (x.id, x.gen) = s.mbxKey p →
    s.aq.ring.all (fun q => s.mbxKey q != s.mbxKey p) = true →
    Completes (.sessionClose p) s (fun t => (t.aq.sessions = s.aq.sessions.filter (fun y => y.id ≠ x.id) ∧
    Answered s t p 0 true []) ∧ Frame [.fenIrq, .aq, .dyke] [.fld .PEAT_STATUS_STAMP_WAIT, .fld .PEAT_STATUS_HELD,
    .fld .PEAT_STATUS_USED, .fld .PEAT_FRZ_AREA, .arr (.MBX_DONE_DONE 0) 0x4 2, .grid (.MBX_RSP_DATA 0 0) 0x400 64 0x4 64,
    .arr (.MBX_STAT_CANCEL_REQ 0) 0x400 64, .arr (.MBX_STAT_STARTED 0) 0x400 64, .arr (.MBX_STAT_STATE 0) 0x400 64,
    .arr (.MBX_LATCH_RSP_STATUS 0) 0x400 64, .fld .DYKE_SLOT_INACTIVE] s t)) ∧
  (∀ (s : State) (p : Nat) (q : Nat) (x : Session), s.Runs p 0x0102 → s.session x.id = some x → (x.id, x.gen) = s.mbxKey p →
    s.aq.ring = [q] → s.mbxKey q = s.mbxKey p → s.mbxCmd q ≠ 0x0101 → p < 60 → q < 60 → p ≠ q →
    Completes (.sessionClose p) s (fun t => (t.aq.sessions = s.aq.sessions.filter (fun y => y.id ≠ x.id) ∧
    Answered s t p 0 true [] ∧ Answered s t q 0x41 false []) ∧ Frame [.fenIrq, .aq, .dyke] [.fld .PEAT_STATUS_STAMP_WAIT,
    .fld .PEAT_STATUS_HELD, .fld .PEAT_STATUS_USED, .fld .PEAT_FRZ_AREA, .arr (.MBX_DONE_DONE 0) 0x4 2,
    .grid (.MBX_RSP_DATA 0 0) 0x400 64 0x4 64, .arr (.MBX_STAT_CANCEL_REQ 0) 0x400 64, .arr (.MBX_STAT_STARTED 0) 0x400 64,
    .arr (.MBX_STAT_STATE 0) 0x400 64, .arr (.MBX_LATCH_RSP_STATUS 0) 0x400 64, .fld .DYKE_SLOT_INACTIVE] s t)) ∧
  (∀ (s : State) (p : Nat), s.Runs p 0x0102 → s.sessionOpen p = false →
    Completes (.sessionClose p) s (fun t => (t.aq.sessions = s.aq.sessions ∧ Answered s t p 0 true []) ∧ Frame [.fenIrq, .aq,
    .dyke] [.fld .PEAT_STATUS_STAMP_WAIT, .fld .PEAT_STATUS_HELD, .fld .PEAT_STATUS_USED, .fld .PEAT_FRZ_AREA,
    .arr (.MBX_DONE_DONE 0) 0x4 2, .grid (.MBX_RSP_DATA 0 0) 0x400 64 0x4 64, .arr (.MBX_STAT_CANCEL_REQ 0) 0x400 64,
    .arr (.MBX_STAT_STARTED 0) 0x400 64, .arr (.MBX_STAT_STATE 0) 0x400 64, .arr (.MBX_LATCH_RSP_STATUS 0) 0x400 64,
    .fld .DYKE_SLOT_INACTIVE] s t)) ∧
  (∀ (s : State) (p : Nat), s.Runs p 0x0103 →
    Completes (.sessionPing p) s (fun t => (Answered s t p 0 true (leBytes 8 s.opt) ∧ t.aq.sessions = s.aq.sessions) ∧
    Frame [.fenIrq, .aq, .dyke] [.fld .PEAT_STATUS_STAMP_WAIT, .fld .PEAT_STATUS_HELD, .fld .PEAT_STATUS_USED,
    .fld .PEAT_FRZ_AREA, .arr (.MBX_DONE_DONE 0) 0x4 2, .grid (.MBX_RSP_DATA 0 0) 0x400 64 0x4 64,
    .arr (.MBX_STAT_CANCEL_REQ 0) 0x400 64, .arr (.MBX_STAT_STARTED 0) 0x400 64, .arr (.MBX_STAT_STATE 0) 0x400 64,
    .arr (.MBX_LATCH_RSP_STATUS 0) 0x400 64, .fld .DYKE_SLOT_INACTIVE] s t))

/-- Completion and effects of the commands named, on the states named (after R214, R218, R224, R225, R226, each in part). -/
def Obligations.ServicePortServes : Prop :=
  (∀ (s : State) (bytes : List Byte) (slot len : Nat), s.portServes = true → fieldAt bytes 0 1 = slot →
    fieldAt bytes 1 2 = len → 3 ≤ bytes.length → frameErr 0x01 (3 + len) bytes = none → slot ≤ 7 → 16 ≤ len → len ≤ 256 →
    s.mbx (48 + slot) = 0 → s.powerFailing = false → Completes (.svcRequest bytes) s (fun t => (t.mbx (48 + slot) = 1 ∧
    t.aq.ring = s.aq.ring ++ [48 + slot] ∧ t.reqBytes (48 + slot) 0 len = (bytes.drop 3).take len ∧
    t.aq.lastErr = s.aq.lastErr) ∧ Frame [.aq] [.grid (.MBX_REQ_DATA 0 0) 0x400 64 0x4 64,
    .arr (.MBX_STAT_SESSION 0) 0x400 64, .arr (.MBX_STAT_CANCEL_REQ 0) 0x400 64, .arr (.MBX_STAT_DB_ERR 0) 0x400 64,
    .arr (.MBX_STAT_STARTED 0) 0x400 64, .arr (.MBX_STAT_STATE 0) 0x400 64, .arr (.MBX_LATCH_CMD 0) 0x400 64,
    .arr (.MBX_LATCH_TAG 0) 0x400 64, .arr (.MBX_LATCH_GEN_GEN 0) 0x400 64] s t)) ∧
  (∀ (s : State) (bytes : List Byte) (e : Nat), s.portServes = true → 3 ≤ bytes.length →
    frameErr 0x01 (3 + fieldAt bytes 1 2) bytes = some e → Completes (.svcRequest bytes) s (fun t => (t.aq.lastErr = e ∧
    t.aq.ring = s.aq.ring ∧ t.regs = s.regs) ∧ Frame [.aq] [.grid (.MBX_REQ_DATA 0 0) 0x400 64 0x4 64,
    .arr (.MBX_STAT_SESSION 0) 0x400 64, .arr (.MBX_STAT_CANCEL_REQ 0) 0x400 64, .arr (.MBX_STAT_DB_ERR 0) 0x400 64,
    .arr (.MBX_STAT_STARTED 0) 0x400 64, .arr (.MBX_STAT_STATE 0) 0x400 64, .arr (.MBX_LATCH_CMD 0) 0x400 64,
    .arr (.MBX_LATCH_TAG 0) 0x400 64, .arr (.MBX_LATCH_GEN_GEN 0) 0x400 64] s t)) ∧
  (∀ (s : State) (bytes : List Byte), s.portServes = true → bytes.length < 3 →
    Completes (.svcRequest bytes) s (fun t => (t.aq.lastErr = 5 ∧ t.aq.ring = s.aq.ring ∧ t.regs = s.regs) ∧
    Frame [.aq] [.grid (.MBX_REQ_DATA 0 0) 0x400 64 0x4 64, .arr (.MBX_STAT_SESSION 0) 0x400 64,
    .arr (.MBX_STAT_CANCEL_REQ 0) 0x400 64, .arr (.MBX_STAT_DB_ERR 0) 0x400 64, .arr (.MBX_STAT_STARTED 0) 0x400 64,
    .arr (.MBX_STAT_STATE 0) 0x400 64, .arr (.MBX_LATCH_CMD 0) 0x400 64, .arr (.MBX_LATCH_TAG 0) 0x400 64,
    .arr (.MBX_LATCH_GEN_GEN 0) 0x400 64] s t)) ∧
  (∀ (s : State) (bytes : List Byte) (slot len : Nat), s.portServes = true → fieldAt bytes 0 1 = slot →
    fieldAt bytes 1 2 = len → 3 ≤ bytes.length → frameErr 0x01 (3 + len) bytes = none → (7 < slot ∨ len < 16 ∨ 256 < len) →
    Completes (.svcRequest bytes) s (fun t => (t.aq.lastErr = 2 ∧ t.aq.ring = s.aq.ring ∧ t.regs = s.regs) ∧
    Frame [.aq] [.grid (.MBX_REQ_DATA 0 0) 0x400 64 0x4 64, .arr (.MBX_STAT_SESSION 0) 0x400 64,
    .arr (.MBX_STAT_CANCEL_REQ 0) 0x400 64, .arr (.MBX_STAT_DB_ERR 0) 0x400 64, .arr (.MBX_STAT_STARTED 0) 0x400 64,
    .arr (.MBX_STAT_STATE 0) 0x400 64, .arr (.MBX_LATCH_CMD 0) 0x400 64, .arr (.MBX_LATCH_TAG 0) 0x400 64,
    .arr (.MBX_LATCH_GEN_GEN 0) 0x400 64] s t)) ∧
  (∀ (s : State) (bytes : List Byte) (slot len : Nat), s.portServes = true → fieldAt bytes 0 1 = slot →
    fieldAt bytes 1 2 = len → 3 ≤ bytes.length → frameErr 0x01 (3 + len) bytes = none → slot ≤ 7 → 16 ≤ len → len ≤ 256 →
    s.mbx (48 + slot) ≠ 0 → Completes (.svcRequest bytes) s (fun t => (t.aq.lastErr = 3 ∧ t.aq.ring = s.aq.ring ∧
    t.regs = s.regs) ∧ Frame [.aq] [.grid (.MBX_REQ_DATA 0 0) 0x400 64 0x4 64, .arr (.MBX_STAT_SESSION 0) 0x400 64,
    .arr (.MBX_STAT_CANCEL_REQ 0) 0x400 64, .arr (.MBX_STAT_DB_ERR 0) 0x400 64, .arr (.MBX_STAT_STARTED 0) 0x400 64,
    .arr (.MBX_STAT_STATE 0) 0x400 64, .arr (.MBX_LATCH_CMD 0) 0x400 64, .arr (.MBX_LATCH_TAG 0) 0x400 64,
    .arr (.MBX_LATCH_GEN_GEN 0) 0x400 64] s t)) ∧
  (∀ (s : State) (bytes : List Byte) (slot len : Nat), s.portServes = true → fieldAt bytes 0 1 = slot →
    fieldAt bytes 1 2 = len → 3 ≤ bytes.length → frameErr 0x01 (3 + len) bytes = none → slot ≤ 7 → 16 ≤ len → len ≤ 256 →
    s.mbx (48 + slot) = 0 → s.powerFailing = true → Completes (.svcRequest bytes) s (fun t => (t.aq.lastErr = 4 ∧
    t.aq.ring = s.aq.ring ∧ t.regs = s.regs) ∧ Frame [.aq] [.grid (.MBX_REQ_DATA 0 0) 0x400 64 0x4 64,
    .arr (.MBX_STAT_SESSION 0) 0x400 64, .arr (.MBX_STAT_CANCEL_REQ 0) 0x400 64, .arr (.MBX_STAT_DB_ERR 0) 0x400 64,
    .arr (.MBX_STAT_STARTED 0) 0x400 64, .arr (.MBX_STAT_STATE 0) 0x400 64, .arr (.MBX_LATCH_CMD 0) 0x400 64,
    .arr (.MBX_LATCH_TAG 0) 0x400 64, .arr (.MBX_LATCH_GEN_GEN 0) 0x400 64] s t)) ∧
  (∀ (s : State) (bytes : List Byte), s.portServes = false → Completes (.svcRequest bytes) s (fun t => (t = s) ∧
    Frame [.aq] [.grid (.MBX_REQ_DATA 0 0) 0x400 64 0x4 64, .arr (.MBX_STAT_SESSION 0) 0x400 64,
    .arr (.MBX_STAT_CANCEL_REQ 0) 0x400 64, .arr (.MBX_STAT_DB_ERR 0) 0x400 64, .arr (.MBX_STAT_STARTED 0) 0x400 64,
    .arr (.MBX_STAT_STATE 0) 0x400 64, .arr (.MBX_LATCH_CMD 0) 0x400 64, .arr (.MBX_LATCH_TAG 0) 0x400 64,
    .arr (.MBX_LATCH_GEN_GEN 0) 0x400 64] s t)) ∧
  (∀ (s : State) (slot : Nat), s.portServes = true → slot ≤ 7 → s.mbx (48 + slot) ≠ 3 →
    Completes (.svcResponse slot false) s (fun t => (t.aq.sent = leBytes 2 0 ++ leBytes 2 (crc16 ([0x02,
    BitVec.ofNat 8 slot] ++ leBytes 2 0)) ∧ t.aq.lastErr = 3 ∧ t.regs = s.regs) ∧ Frame [.aq] [] s t)) ∧
  (∀ (s : State) (slot n : Nat) (rsp : List Byte), s.portServes = true → slot ≤ 7 → s.mbx (48 + slot) = 3 →
    rsp = (List.range 64).flatMap (fun w => leBytes 4 (s.get (.MBX_RSP_DATA (48 + slot) w))) → n = 16 + fieldAt rsp 6 2 →
    Completes (.svcResponse slot false) s (fun t => (t.aq.sent = leBytes 2 n ++ rsp.take n ++ leBytes 2 (crc16 ([0x02,
    BitVec.ofNat 8 slot] ++ (leBytes 2 n ++ rsp.take n))) ∧ t.aq.lastErr = s.aq.lastErr ∧ t.regs = s.regs) ∧
    Frame [.aq] [] s t)) ∧
  (∀ (s : State) (slot : Nat), s.portServes = true → 7 < slot →
    Completes (.svcResponse slot false) s (fun t => (t.aq.lastErr = 2 ∧ t.regs = s.regs) ∧ Frame [.aq] [] s t)) ∧
  (∀ (s : State) (slot : Nat), s.portServes = true → Completes (.svcResponse slot true) s (fun t => (t.aq.lastErr = 5 ∧
    t.regs = s.regs) ∧ Frame [.aq] [] s t)) ∧
  (∀ (s : State) (slot : Nat) (cut : Bool), s.portServes = false → Completes (.svcResponse slot cut) s (fun t => (t = s) ∧
    Frame [.aq] [] s t)) ∧
  (∀ (s : State) (bytes : List Byte), s.portServes = true → frameErr 0x03 1 bytes = none → fieldAt bytes 0 1 ≤ 7 →
    s.mbx (48 + fieldAt bytes 0 1) = 3 → Completes (.svcAck bytes) s (fun t => (t.mbx (48 + fieldAt bytes 0 1) = 0 ∧
    t.aq = s.aq) ∧ Frame [.aq] [.arr (.MBX_DONE_DONE 0) 0x4 2, .arr (.MBX_STAT_DB_ERR 0) 0x400 64,
    .arr (.MBX_STAT_STATE 0) 0x400 64] s t)) ∧
  (∀ (s : State) (bytes : List Byte), s.portServes = true → frameErr 0x03 1 bytes = none → fieldAt bytes 0 1 ≤ 7 →
    s.mbx (48 + fieldAt bytes 0 1) ≠ 3 → Completes (.svcAck bytes) s (fun t => (t.aq.lastErr = 3 ∧ t.aq.ring = s.aq.ring ∧
    t.regs = s.regs) ∧ Frame [.aq] [.arr (.MBX_DONE_DONE 0) 0x4 2, .arr (.MBX_STAT_DB_ERR 0) 0x400 64,
    .arr (.MBX_STAT_STATE 0) 0x400 64] s t)) ∧
  (∀ (s : State) (bytes : List Byte) (e : Nat), s.portServes = true → frameErr 0x03 1 bytes = some e →
    Completes (.svcAck bytes) s (fun t => (t.aq.lastErr = e ∧ t.aq.ring = s.aq.ring ∧ t.regs = s.regs) ∧
    Frame [.aq] [.arr (.MBX_DONE_DONE 0) 0x4 2, .arr (.MBX_STAT_DB_ERR 0) 0x400 64, .arr (.MBX_STAT_STATE 0) 0x400 64] s t)) ∧
  (∀ (s : State) (bytes : List Byte), s.portServes = true → frameErr 0x03 1 bytes = none → 7 < fieldAt bytes 0 1 →
    Completes (.svcAck bytes) s (fun t => (t.aq.lastErr = 2 ∧ t.aq.ring = s.aq.ring ∧ t.regs = s.regs) ∧
    Frame [.aq] [.arr (.MBX_DONE_DONE 0) 0x4 2, .arr (.MBX_STAT_DB_ERR 0) 0x400 64, .arr (.MBX_STAT_STATE 0) 0x400 64] s t)) ∧
  (∀ (s : State) (bytes : List Byte), s.portServes = false → Completes (.svcAck bytes) s (fun t => (t = s) ∧
    Frame [.aq] [.arr (.MBX_DONE_DONE 0) 0x4 2, .arr (.MBX_STAT_DB_ERR 0) 0x400 64, .arr (.MBX_STAT_STATE 0) 0x400 64] s t)) ∧
  (∀ (s : State) (bytes : List Byte), s.portServes = true → frameErr 0x05 1 bytes = none → fieldAt bytes 0 1 ≤ 7 →
    s.mbx (48 + fieldAt bytes 0 1) = 2 →
    Completes (.svcCancel bytes) s (fun t => (t.get (.MBX_STAT_CANCEL_REQ (48 + fieldAt bytes 0 1)) = 1 ∧ t.aq = s.aq) ∧
    Frame [.fenIrq, .aq, .dyke] [.fld .PEAT_STATUS_STAMP_WAIT, .fld .PEAT_STATUS_HELD, .fld .PEAT_STATUS_USED,
    .fld .PEAT_FRZ_AREA, .arr (.MBX_DONE_DONE 0) 0x4 2, .grid (.MBX_RSP_DATA 0 0) 0x400 64 0x4 64,
    .arr (.MBX_STAT_CANCEL_REQ 0) 0x400 64, .arr (.MBX_STAT_STARTED 0) 0x400 64, .arr (.MBX_STAT_STATE 0) 0x400 64,
    .arr (.MBX_LATCH_RSP_STATUS 0) 0x400 64, .fld .DYKE_SLOT_INACTIVE] s t)) ∧
  (∀ (s : State) (bytes : List Byte) (p : Nat), s.portServes = true → frameErr 0x05 1 bytes = none → fieldAt bytes 0 1 ≤ 7 →
    p = 48 + fieldAt bytes 0 1 → s.mbx p = 1 → s.aqsiaActs = true →
    Completes (.svcCancel bytes) s (fun t => (Answered s t p 0x40 false []) ∧ Frame [.fenIrq, .aq,
    .dyke] [.fld .PEAT_STATUS_STAMP_WAIT, .fld .PEAT_STATUS_HELD, .fld .PEAT_STATUS_USED, .fld .PEAT_FRZ_AREA,
    .arr (.MBX_DONE_DONE 0) 0x4 2, .grid (.MBX_RSP_DATA 0 0) 0x400 64 0x4 64, .arr (.MBX_STAT_CANCEL_REQ 0) 0x400 64,
    .arr (.MBX_STAT_STARTED 0) 0x400 64, .arr (.MBX_STAT_STATE 0) 0x400 64, .arr (.MBX_LATCH_RSP_STATUS 0) 0x400 64,
    .fld .DYKE_SLOT_INACTIVE] s t)) ∧
  (∀ (s : State) (bytes : List Byte) (p : Nat), s.portServes = true → frameErr 0x05 1 bytes = none → fieldAt bytes 0 1 ≤ 7 →
    p = 48 + fieldAt bytes 0 1 → s.mbx p = 1 → s.aqsiaActs = false → Completes (.svcCancel bytes) s (fun t => (t.mbx p = 1 ∧
    t.aq.toCancel = p :: s.aq.toCancel.filter (fun q => q ≠ p)) ∧ Frame [.fenIrq, .aq, .dyke] [.fld .PEAT_STATUS_STAMP_WAIT,
    .fld .PEAT_STATUS_HELD, .fld .PEAT_STATUS_USED, .fld .PEAT_FRZ_AREA, .arr (.MBX_DONE_DONE 0) 0x4 2,
    .grid (.MBX_RSP_DATA 0 0) 0x400 64 0x4 64, .arr (.MBX_STAT_CANCEL_REQ 0) 0x400 64, .arr (.MBX_STAT_STARTED 0) 0x400 64,
    .arr (.MBX_STAT_STATE 0) 0x400 64, .arr (.MBX_LATCH_RSP_STATUS 0) 0x400 64, .fld .DYKE_SLOT_INACTIVE] s t)) ∧
  (∀ (s : State) (bytes : List Byte) (p : Nat), s.portServes = true → frameErr 0x05 1 bytes = none → fieldAt bytes 0 1 ≤ 7 →
    p = 48 + fieldAt bytes 0 1 → s.mbx p ≠ 1 → s.mbx p ≠ 2 → Completes (.svcCancel bytes) s (fun t => (t = s) ∧
    Frame [.fenIrq, .aq, .dyke] [.fld .PEAT_STATUS_STAMP_WAIT, .fld .PEAT_STATUS_HELD, .fld .PEAT_STATUS_USED,
    .fld .PEAT_FRZ_AREA, .arr (.MBX_DONE_DONE 0) 0x4 2, .grid (.MBX_RSP_DATA 0 0) 0x400 64 0x4 64,
    .arr (.MBX_STAT_CANCEL_REQ 0) 0x400 64, .arr (.MBX_STAT_STARTED 0) 0x400 64, .arr (.MBX_STAT_STATE 0) 0x400 64,
    .arr (.MBX_LATCH_RSP_STATUS 0) 0x400 64, .fld .DYKE_SLOT_INACTIVE] s t)) ∧
  (∀ (s : State) (bytes : List Byte) (e : Nat), s.portServes = true → frameErr 0x05 1 bytes = some e →
    Completes (.svcCancel bytes) s (fun t => (t.aq.lastErr = e ∧ t.aq.ring = s.aq.ring ∧ t.regs = s.regs) ∧ Frame [.fenIrq,
    .aq, .dyke] [.fld .PEAT_STATUS_STAMP_WAIT, .fld .PEAT_STATUS_HELD, .fld .PEAT_STATUS_USED, .fld .PEAT_FRZ_AREA,
    .arr (.MBX_DONE_DONE 0) 0x4 2, .grid (.MBX_RSP_DATA 0 0) 0x400 64 0x4 64, .arr (.MBX_STAT_CANCEL_REQ 0) 0x400 64,
    .arr (.MBX_STAT_STARTED 0) 0x400 64, .arr (.MBX_STAT_STATE 0) 0x400 64, .arr (.MBX_LATCH_RSP_STATUS 0) 0x400 64,
    .fld .DYKE_SLOT_INACTIVE] s t)) ∧
  (∀ (s : State) (bytes : List Byte), s.portServes = true → frameErr 0x05 1 bytes = none → 7 < fieldAt bytes 0 1 →
    Completes (.svcCancel bytes) s (fun t => (t.aq.lastErr = 2 ∧ t.aq.ring = s.aq.ring ∧ t.regs = s.regs) ∧ Frame [.fenIrq,
    .aq, .dyke] [.fld .PEAT_STATUS_STAMP_WAIT, .fld .PEAT_STATUS_HELD, .fld .PEAT_STATUS_USED, .fld .PEAT_FRZ_AREA,
    .arr (.MBX_DONE_DONE 0) 0x4 2, .grid (.MBX_RSP_DATA 0 0) 0x400 64 0x4 64, .arr (.MBX_STAT_CANCEL_REQ 0) 0x400 64,
    .arr (.MBX_STAT_STARTED 0) 0x400 64, .arr (.MBX_STAT_STATE 0) 0x400 64, .arr (.MBX_LATCH_RSP_STATUS 0) 0x400 64,
    .fld .DYKE_SLOT_INACTIVE] s t)) ∧
  (∀ (s : State) (bytes : List Byte), s.portServes = false → Completes (.svcCancel bytes) s (fun t => (t = s) ∧
    Frame [.fenIrq, .aq, .dyke] [.fld .PEAT_STATUS_STAMP_WAIT, .fld .PEAT_STATUS_HELD, .fld .PEAT_STATUS_USED,
    .fld .PEAT_FRZ_AREA, .arr (.MBX_DONE_DONE 0) 0x4 2, .grid (.MBX_RSP_DATA 0 0) 0x400 64 0x4 64,
    .arr (.MBX_STAT_CANCEL_REQ 0) 0x400 64, .arr (.MBX_STAT_STARTED 0) 0x400 64, .arr (.MBX_STAT_STATE 0) 0x400 64,
    .arr (.MBX_LATCH_RSP_STATUS 0) 0x400 64, .fld .DYKE_SLOT_INACTIVE] s t)) ∧
  (∀ (s : State), s.portServes = true → Completes (.svcStatus false) s (fun t => ((∃ body : List Byte,
    body = [BitVec.ofNat 8 (s.mbx 48 + 4 * s.mbx 49 + 16 * s.mbx 50 + 64 * s.mbx 51),
    BitVec.ofNat 8 (s.mbx 52 + 4 * s.mbx 53 + 16 * s.mbx 54 + 64 * s.mbx 55), BitVec.ofNat 8 s.aq.lastErr,
    BitVec.ofNat 8 (s.svcRdy.toNat + 2 * s.powerFailing.toNat + 4 * s.aqsiaUp.toNat)] ∧ t.aq.sent = body ++
    leBytes 2 (crc16 (0x04 :: body))) ∧ t.aq.lastErr = 0) ∧ Frame [.aq] [] s t)) ∧
  (∀ (s : State), s.portServes = true → Completes (.svcStatus true) s (fun t => (t.aq.lastErr = 5 ∧ t.regs = s.regs) ∧
    Frame [.aq] [] s t)) ∧
  (∀ (s : State) (cut : Bool), s.portServes = false → Completes (.svcStatus cut) s (fun t => (t = s) ∧ Frame [.aq] [] s t)) ∧
  (∀ (s : State) (bytes : List Byte), s.portServes = true → frameErr 0x0F 0 bytes = none →
    s.aq.sessions.Pairwise (fun a b => a.id ≠ b.id) →
    Completes (.portReset bytes) s (fun t => (t.aq.sessions = s.aq.sessions.filter (fun x => x.cls ≠ 1)) ∧ Frame [.fenIrq,
    .aq, .dyke] [.fld .PEAT_STATUS_STAMP_WAIT, .fld .PEAT_STATUS_HELD, .fld .PEAT_STATUS_USED, .fld .PEAT_FRZ_AREA,
    .arr (.MBX_DONE_DONE 0) 0x4 2, .grid (.MBX_RSP_DATA 0 0) 0x400 64 0x4 64, .arr (.MBX_STAT_CANCEL_REQ 0) 0x400 64,
    .arr (.MBX_STAT_STARTED 0) 0x400 64, .arr (.MBX_STAT_STATE 0) 0x400 64, .arr (.MBX_LATCH_RSP_STATUS 0) 0x400 64,
    .fld .DYKE_SLOT_INACTIVE] s t)) ∧
  (∀ (s : State) (bytes : List Byte) (e : Nat), s.portServes = true → frameErr 0x0F 0 bytes = some e →
    Completes (.portReset bytes) s (fun t => (t.aq.lastErr = e ∧ t.aq.ring = s.aq.ring ∧ t.regs = s.regs) ∧ Frame [.fenIrq,
    .aq, .dyke] [.fld .PEAT_STATUS_STAMP_WAIT, .fld .PEAT_STATUS_HELD, .fld .PEAT_STATUS_USED, .fld .PEAT_FRZ_AREA,
    .arr (.MBX_DONE_DONE 0) 0x4 2, .grid (.MBX_RSP_DATA 0 0) 0x400 64 0x4 64, .arr (.MBX_STAT_CANCEL_REQ 0) 0x400 64,
    .arr (.MBX_STAT_STARTED 0) 0x400 64, .arr (.MBX_STAT_STATE 0) 0x400 64, .arr (.MBX_LATCH_RSP_STATUS 0) 0x400 64,
    .fld .DYKE_SLOT_INACTIVE] s t)) ∧
  (∀ (s : State) (bytes : List Byte), s.portServes = false → Completes (.portReset bytes) s (fun t => (t = s) ∧
    Frame [.fenIrq, .aq, .dyke] [.fld .PEAT_STATUS_STAMP_WAIT, .fld .PEAT_STATUS_HELD, .fld .PEAT_STATUS_USED,
    .fld .PEAT_FRZ_AREA, .arr (.MBX_DONE_DONE 0) 0x4 2, .grid (.MBX_RSP_DATA 0 0) 0x400 64 0x4 64,
    .arr (.MBX_STAT_CANCEL_REQ 0) 0x400 64, .arr (.MBX_STAT_STARTED 0) 0x400 64, .arr (.MBX_STAT_STATE 0) 0x400 64,
    .arr (.MBX_LATCH_RSP_STATUS 0) 0x400 64, .fld .DYKE_SLOT_INACTIVE] s t)) ∧
  (∀ (s : State), s.portServes = true → Completes (.svcUnknownOpcode) s (fun t => (t.aq.lastErr = 2 ∧ t.aq.ring = s.aq.ring ∧
    t.regs = s.regs) ∧ Frame [.aq] [] s t)) ∧
  (∀ (s : State), s.portServes = false → Completes (.svcUnknownOpcode) s (fun t => (t = s) ∧ Frame [.aq] [] s t))

/-- Completion and effects of the commands named, on the states named (after R60, R79, R89, R234, R235, R236, R237, R245,
R246, R247, R33, each in part). -/
def Obligations.SpindleAndSectionsObey : Prop :=
  (∀ (s : State) (p : Nat), s.Runs p 0x0201 → (s.aq.runs.at p).phase = 0 →
    Completes (.spindleSet p) s (fun t => (t.aq.target = s.req p 16 3 ∧ t.aq.src = s.req p 20 1 ∧
    t.get .WTH_SPN_SPEED_SPEED = s.req p 16 3 ∧ t.get .WTH_SPN_CTRL_SRC = s.req p 20 1 % 2 ∧
    t.get .WTH_SPN_CTRL_RUN = (s.req p 21 1 == 1).toNat ∧ (s.req p 22 1 = 0 → Answered s t p 0 true [])) ∧ Frame [.mireIrq,
    .fenIrq, .seqs, .chans, .stg, .tide, .withy, .aq, .dyke] (([.fld .PEAT_STATUS_STAMP_WAIT, .fld .PEAT_STATUS_HELD,
    .fld .PEAT_STATUS_USED, .fld .PEAT_FRZ_AREA, .arr (.REED_ST_STATUS_STATE 0) 0x100 8,
    .arr (.REED_ST_STATUS_TERM 0) 0x100 8, .fld .SDG_STATUS_RES_IRQ, .fld .SDG_STATUS_PENDING,
    .arr (.SDG_ST_STATUS_RES_OVF 0) 0x400 8, .arr (.SDG_ST_STATUS_RES_CNT 0) 0x400 8,
    .arr (.SDG_ST_STATUS_PARK_USED 0) 0x400 8, .arr (.SDG_ST_STATUS_PENDING_CNT 0) 0x400 8] : List Regs) ++
    ([.arr (.SDG_FE_STATUS_TA_ACTIVE 0) 0x400 8, .arr (.SDG_FE_STATUS_DO_ACTIVE 0) 0x400 8, .fld .SDG_WF_STATUS_CAUSE_SEEN,
    .arr (.SDG_WR_STATUS_WG 0) 0x400 8, .arr (.SDG_WR_STATUS_CAUSE 0) 0x400 8, .arr (.SDG_WR_STATUS_DROPS 0) 0x400 8,
    .arr (.SDG_WR_DROP_MANG 0) 0x400 8, .arr (.SLU_STG_STATUS_ACTIVE 0) 0x4 8, .arr (.SLU_STG_STATUS_DIR 0) 0x4 8,
    .arr (.SLU_STG_STATUS_RESV 0) 0x4 8, .arr (.SLU_STG_STATUS_READY 0) 0x4 8, .fld .TIDE_STATUS_STATE] : List Regs) ++
    ([.fld .TIDE_CELL_PERIOD_PERIOD, .fld .WTH_SPN_CTRL_SRC, .fld .WTH_SPN_CTRL_RUN, .fld .WTH_SPN_STATUS_STATE,
    .fld .WTH_SPN_STATUS_ATTEMPT, .fld .WTH_SPN_STATUS_AT_SPEED, .fld .WTH_SPN_STATUS_SPD95, .fld .WTH_SPN_STATUS_SPD90,
    .fld .WTH_SPN_STATUS_DIR_REV, .fld .WTH_SPN_STATUS_FW_ACTIVE, .fld .WTH_SPN_STATUS_FW_SAT,
    .fld .WTH_SPN_STATUS_STOP_BLOCKED] : List Regs) ++ ([.fld .WTH_SPN_SPEED_SPEED, .fld .WTH_SPN_MEAS_TRACK,
    .fld .WTH_SPN_FOC_ID, .fld .WTH_SPN_FOC_MI, .arr (.MBX_DONE_DONE 0) 0x4 2, .grid (.MBX_RSP_DATA 0 0) 0x400 64 0x4 64,
    .arr (.MBX_STAT_CANCEL_REQ 0) 0x400 64, .arr (.MBX_STAT_STARTED 0) 0x400 64, .arr (.MBX_STAT_STATE 0) 0x400 64,
    .arr (.MBX_LATCH_RSP_STATUS 0) 0x400 64, .fld .DYKE_SLOT_INACTIVE] : List Regs)) s t)) ∧
  (∀ (s : State) (p : Nat), s.Runs p 0x0201 → (s.aq.runs.at p).phase = 1 → (s.req p 22 1 = 0 ∨ (s.req p 21 1 = 1 ∧
    s.get .WTH_SPN_STATUS_AT_SPEED = 1) ∨ (s.req p 21 1 ≠ 1 ∧ s.get .WTH_SPN_STATUS_STATE = 0)) →
    Completes (.spindleSet p) s (fun t => (Answered s t p 0 true []) ∧ Frame [.mireIrq, .fenIrq, .seqs, .chans, .stg, .tide,
    .withy, .aq, .dyke] (([.fld .PEAT_STATUS_STAMP_WAIT, .fld .PEAT_STATUS_HELD, .fld .PEAT_STATUS_USED, .fld .PEAT_FRZ_AREA,
    .arr (.REED_ST_STATUS_STATE 0) 0x100 8, .arr (.REED_ST_STATUS_TERM 0) 0x100 8, .fld .SDG_STATUS_RES_IRQ,
    .fld .SDG_STATUS_PENDING, .arr (.SDG_ST_STATUS_RES_OVF 0) 0x400 8, .arr (.SDG_ST_STATUS_RES_CNT 0) 0x400 8,
    .arr (.SDG_ST_STATUS_PARK_USED 0) 0x400 8, .arr (.SDG_ST_STATUS_PENDING_CNT 0) 0x400 8] : List Regs) ++
    ([.arr (.SDG_FE_STATUS_TA_ACTIVE 0) 0x400 8, .arr (.SDG_FE_STATUS_DO_ACTIVE 0) 0x400 8, .fld .SDG_WF_STATUS_CAUSE_SEEN,
    .arr (.SDG_WR_STATUS_WG 0) 0x400 8, .arr (.SDG_WR_STATUS_CAUSE 0) 0x400 8, .arr (.SDG_WR_STATUS_DROPS 0) 0x400 8,
    .arr (.SDG_WR_DROP_MANG 0) 0x400 8, .arr (.SLU_STG_STATUS_ACTIVE 0) 0x4 8, .arr (.SLU_STG_STATUS_DIR 0) 0x4 8,
    .arr (.SLU_STG_STATUS_RESV 0) 0x4 8, .arr (.SLU_STG_STATUS_READY 0) 0x4 8, .fld .TIDE_STATUS_STATE] : List Regs) ++
    ([.fld .TIDE_CELL_PERIOD_PERIOD, .fld .WTH_SPN_CTRL_SRC, .fld .WTH_SPN_CTRL_RUN, .fld .WTH_SPN_STATUS_STATE,
    .fld .WTH_SPN_STATUS_ATTEMPT, .fld .WTH_SPN_STATUS_AT_SPEED, .fld .WTH_SPN_STATUS_SPD95, .fld .WTH_SPN_STATUS_SPD90,
    .fld .WTH_SPN_STATUS_DIR_REV, .fld .WTH_SPN_STATUS_FW_ACTIVE, .fld .WTH_SPN_STATUS_FW_SAT,
    .fld .WTH_SPN_STATUS_STOP_BLOCKED] : List Regs) ++ ([.fld .WTH_SPN_SPEED_SPEED, .fld .WTH_SPN_MEAS_TRACK,
    .fld .WTH_SPN_FOC_ID, .fld .WTH_SPN_FOC_MI, .arr (.MBX_DONE_DONE 0) 0x4 2, .grid (.MBX_RSP_DATA 0 0) 0x400 64 0x4 64,
    .arr (.MBX_STAT_CANCEL_REQ 0) 0x400 64, .arr (.MBX_STAT_STARTED 0) 0x400 64, .arr (.MBX_STAT_STATE 0) 0x400 64,
    .arr (.MBX_LATCH_RSP_STATUS 0) 0x400 64, .fld .DYKE_SLOT_INACTIVE] : List Regs)) s t)) ∧
  (∀ (s : State) (p : Nat), s.Runs p 0x0201 → (s.aq.runs.at p).phase = 1 → s.req p 22 1 ≠ 0 → ¬ ((s.req p 21 1 = 1 ∧
    s.get .WTH_SPN_STATUS_AT_SPEED = 1) ∨ (s.req p 21 1 ≠ 1 ∧ s.get .WTH_SPN_STATUS_STATE = 0)) → s.cancelAsked p = true →
    Completes (.spindleSet p) s (fun t => (Answered s t p 0x40 true []) ∧ Frame [.mireIrq, .fenIrq, .seqs, .chans, .stg,
    .tide, .withy, .aq, .dyke] (([.fld .PEAT_STATUS_STAMP_WAIT, .fld .PEAT_STATUS_HELD, .fld .PEAT_STATUS_USED,
    .fld .PEAT_FRZ_AREA, .arr (.REED_ST_STATUS_STATE 0) 0x100 8, .arr (.REED_ST_STATUS_TERM 0) 0x100 8,
    .fld .SDG_STATUS_RES_IRQ, .fld .SDG_STATUS_PENDING, .arr (.SDG_ST_STATUS_RES_OVF 0) 0x400 8,
    .arr (.SDG_ST_STATUS_RES_CNT 0) 0x400 8, .arr (.SDG_ST_STATUS_PARK_USED 0) 0x400 8,
    .arr (.SDG_ST_STATUS_PENDING_CNT 0) 0x400 8] : List Regs) ++ ([.arr (.SDG_FE_STATUS_TA_ACTIVE 0) 0x400 8,
    .arr (.SDG_FE_STATUS_DO_ACTIVE 0) 0x400 8, .fld .SDG_WF_STATUS_CAUSE_SEEN, .arr (.SDG_WR_STATUS_WG 0) 0x400 8,
    .arr (.SDG_WR_STATUS_CAUSE 0) 0x400 8, .arr (.SDG_WR_STATUS_DROPS 0) 0x400 8, .arr (.SDG_WR_DROP_MANG 0) 0x400 8,
    .arr (.SLU_STG_STATUS_ACTIVE 0) 0x4 8, .arr (.SLU_STG_STATUS_DIR 0) 0x4 8, .arr (.SLU_STG_STATUS_RESV 0) 0x4 8,
    .arr (.SLU_STG_STATUS_READY 0) 0x4 8, .fld .TIDE_STATUS_STATE] : List Regs) ++ ([.fld .TIDE_CELL_PERIOD_PERIOD,
    .fld .WTH_SPN_CTRL_SRC, .fld .WTH_SPN_CTRL_RUN, .fld .WTH_SPN_STATUS_STATE, .fld .WTH_SPN_STATUS_ATTEMPT,
    .fld .WTH_SPN_STATUS_AT_SPEED, .fld .WTH_SPN_STATUS_SPD95, .fld .WTH_SPN_STATUS_SPD90, .fld .WTH_SPN_STATUS_DIR_REV,
    .fld .WTH_SPN_STATUS_FW_ACTIVE, .fld .WTH_SPN_STATUS_FW_SAT, .fld .WTH_SPN_STATUS_STOP_BLOCKED] : List Regs) ++
    ([.fld .WTH_SPN_SPEED_SPEED, .fld .WTH_SPN_MEAS_TRACK, .fld .WTH_SPN_FOC_ID, .fld .WTH_SPN_FOC_MI,
    .arr (.MBX_DONE_DONE 0) 0x4 2, .grid (.MBX_RSP_DATA 0 0) 0x400 64 0x4 64, .arr (.MBX_STAT_CANCEL_REQ 0) 0x400 64,
    .arr (.MBX_STAT_STARTED 0) 0x400 64, .arr (.MBX_STAT_STATE 0) 0x400 64, .arr (.MBX_LATCH_RSP_STATUS 0) 0x400 64,
    .fld .DYKE_SLOT_INACTIVE] : List Regs)) s t)) ∧
  (∀ (s : State) (p : Nat), s.Runs p 0x0201 → (s.aq.runs.at p).phase = 1 → s.req p 22 1 ≠ 0 → ¬ ((s.req p 21 1 = 1 ∧
    s.get .WTH_SPN_STATUS_AT_SPEED = 1) ∨ (s.req p 21 1 ≠ 1 ∧ s.get .WTH_SPN_STATUS_STATE = 0)) → s.cancelAsked p = false →
    Completes (.spindleSet p) s (fun t => (t = s) ∧ Frame [.mireIrq, .fenIrq, .seqs, .chans, .stg, .tide, .withy, .aq,
    .dyke] (([.fld .PEAT_STATUS_STAMP_WAIT, .fld .PEAT_STATUS_HELD, .fld .PEAT_STATUS_USED, .fld .PEAT_FRZ_AREA,
    .arr (.REED_ST_STATUS_STATE 0) 0x100 8, .arr (.REED_ST_STATUS_TERM 0) 0x100 8, .fld .SDG_STATUS_RES_IRQ,
    .fld .SDG_STATUS_PENDING, .arr (.SDG_ST_STATUS_RES_OVF 0) 0x400 8, .arr (.SDG_ST_STATUS_RES_CNT 0) 0x400 8,
    .arr (.SDG_ST_STATUS_PARK_USED 0) 0x400 8, .arr (.SDG_ST_STATUS_PENDING_CNT 0) 0x400 8] : List Regs) ++
    ([.arr (.SDG_FE_STATUS_TA_ACTIVE 0) 0x400 8, .arr (.SDG_FE_STATUS_DO_ACTIVE 0) 0x400 8, .fld .SDG_WF_STATUS_CAUSE_SEEN,
    .arr (.SDG_WR_STATUS_WG 0) 0x400 8, .arr (.SDG_WR_STATUS_CAUSE 0) 0x400 8, .arr (.SDG_WR_STATUS_DROPS 0) 0x400 8,
    .arr (.SDG_WR_DROP_MANG 0) 0x400 8, .arr (.SLU_STG_STATUS_ACTIVE 0) 0x4 8, .arr (.SLU_STG_STATUS_DIR 0) 0x4 8,
    .arr (.SLU_STG_STATUS_RESV 0) 0x4 8, .arr (.SLU_STG_STATUS_READY 0) 0x4 8, .fld .TIDE_STATUS_STATE] : List Regs) ++
    ([.fld .TIDE_CELL_PERIOD_PERIOD, .fld .WTH_SPN_CTRL_SRC, .fld .WTH_SPN_CTRL_RUN, .fld .WTH_SPN_STATUS_STATE,
    .fld .WTH_SPN_STATUS_ATTEMPT, .fld .WTH_SPN_STATUS_AT_SPEED, .fld .WTH_SPN_STATUS_SPD95, .fld .WTH_SPN_STATUS_SPD90,
    .fld .WTH_SPN_STATUS_DIR_REV, .fld .WTH_SPN_STATUS_FW_ACTIVE, .fld .WTH_SPN_STATUS_FW_SAT,
    .fld .WTH_SPN_STATUS_STOP_BLOCKED] : List Regs) ++ ([.fld .WTH_SPN_SPEED_SPEED, .fld .WTH_SPN_MEAS_TRACK,
    .fld .WTH_SPN_FOC_ID, .fld .WTH_SPN_FOC_MI, .arr (.MBX_DONE_DONE 0) 0x4 2, .grid (.MBX_RSP_DATA 0 0) 0x400 64 0x4 64,
    .arr (.MBX_STAT_CANCEL_REQ 0) 0x400 64, .arr (.MBX_STAT_STARTED 0) 0x400 64, .arr (.MBX_STAT_STATE 0) 0x400 64,
    .arr (.MBX_LATCH_RSP_STATUS 0) 0x400 64, .fld .DYKE_SLOT_INACTIVE] : List Regs)) s t)) ∧
  (∀ (s : State) (p : Nat), s.Runs p 0x0202 →
    Completes (.spindleStatus p) s (fun t => (Answered s t p 0 true (leBytes 4 (s.wordOf .WTH_SPN_STATUS_STATE) ++
    leBytes 4 (s.wordOf .WTH_SPN_MEAS_SPEED) ++ leBytes 4 (s.wordOf .WTH_SPN_KE_KE_NOM) ++
    leBytes 4 (s.wordOf .TIDE_STATUS_STATE))) ∧ Frame [.fenIrq, .aq, .dyke] [.fld .PEAT_STATUS_STAMP_WAIT,
    .fld .PEAT_STATUS_HELD, .fld .PEAT_STATUS_USED, .fld .PEAT_FRZ_AREA, .arr (.MBX_DONE_DONE 0) 0x4 2,
    .grid (.MBX_RSP_DATA 0 0) 0x400 64 0x4 64, .arr (.MBX_STAT_CANCEL_REQ 0) 0x400 64, .arr (.MBX_STAT_STARTED 0) 0x400 64,
    .arr (.MBX_STAT_STATE 0) 0x400 64, .arr (.MBX_LATCH_RSP_STATUS 0) 0x400 64, .fld .DYKE_SLOT_INACTIVE] s t)) ∧
  (∀ (s : State) (p : Nat) (lock : Option Nat) (k : Nat) (rest : List Nat), s.Runs p 0x0203 → (s.aq.runs.at p).phase = 0 →
    (sectionsOf (s.req p 16 1)).filter (fun j => s.parkedSec j) = k :: rest → s.loadable k = true → s.cancelAsked p = false →
    (s.aq.runs.at p).cur = none → Completes (.sectionLoad p lock) s (fun t => ((t.aq.runs.at p).cur = some k ∧
    (t.aq.runs.at p).todo = maskOf rest ∧ t.get (.TUS_SEC_CTRL_LANE_EN k) = 3 ∧ t.get (.TUS_SEEK_STATUS_SETTLED k) = 0 ∧
    (s.get (.WTH_VCM_STATUS_RET_ACTIVE k) = 0 → t.get (.WTH_VCM_STATUS_ENABLED k) = 1 ∧
    t.get (.WTH_VCM_STATUS_PARKED k) = 0) ∧ t.mbx p = 2) ∧ Frame [.fenIrq, .seqs, .chans, .withy, .tus, .mq, .aq,
    .dyke] (([.fld .PEAT_STATUS_STAMP_WAIT, .fld .PEAT_STATUS_HELD, .fld .PEAT_STATUS_USED, .fld .PEAT_FRZ_AREA,
    .fld .SDG_WF_STATUS_CAUSE_SEEN, .arr (.SDG_WR_STATUS_WG 0) 0x400 8, .arr (.SDG_WR_STATUS_CAUSE 0) 0x400 8,
    .arr (.SDG_WR_STATUS_DROPS 0) 0x400 8, .arr (.SDG_WR_DROP_MANG 0) 0x400 8, .arr (.WTH_VCM_CTRL_EN 0) 0x4 4,
    .arr (.WTH_VCM_STATUS_RET_ACTIVE 0) 0x4 4, .arr (.WTH_VCM_STATUS_PARKED 0) 0x4 4] : List Regs) ++
    ([.arr (.WTH_VCM_STATUS_ENABLED 0) 0x4 4, .arr (.WTH_MA_CTRL_HOLD 0) 0x4 8, .arr (.WTH_MA_STATUS_VOUT 0) 0x4 8,
    .arr (.TUS_SEC_CTRL_LANE_EN 0) 0x40 4, .arr (.TUS_SEC_STATUS_MISS1 0) 0x40 4, .arr (.TUS_SEC_STATUS_MISS0 0) 0x40 4,
    .arr (.TUS_SEEK_STATUS_SEEKING 0) 0x20 4, .arr (.TUS_SEEK_STATUS_HINT_ACTIVE 0) 0x20 4,
    .arr (.TUS_SEEK_STATUS_SETTLED 0) 0x20 4, .arr (.MBX_DONE_DONE 0) 0x4 2, .grid (.MBX_RSP_DATA 0 0) 0x400 64 0x4 64,
    .arr (.MBX_STAT_CANCEL_REQ 0) 0x400 64] : List Regs) ++ ([.arr (.MBX_STAT_STARTED 0) 0x400 64,
    .arr (.MBX_STAT_STATE 0) 0x400 64, .arr (.MBX_LATCH_RSP_STATUS 0) 0x400 64, .arr (.MWQ_STATUS_BLOCKED 0) 0x20 16,
    .arr (.MWQ_STATUS_OUTST 0) 0x20 16, .fld .MWQ_SYS_STATUS_FLUSH, .fld .MWQ_SYS_STATUS_CAL,
    .fld .DYKE_SLOT_INACTIVE] : List Regs)) s t)) ∧
  (∀ (s : State) (p : Nat) (lock : Option Nat), s.Runs p 0x0203 →
    (sectionsOf (s.req p 16 1)).all (fun j => !s.parkedSec j) = true → (s.aq.runs.at p) = {} →
    Completes (.sectionLoad p lock) s (fun t => (Answered s t p 0 true (leBytes 1 (maskOf (sectionsOf (s.req p 16 1))) ++
    leBytes 1 0 ++ leBytes 2 0)) ∧ Frame [.fenIrq, .seqs, .chans, .withy, .tus, .mq, .aq,
    .dyke] (([.fld .PEAT_STATUS_STAMP_WAIT, .fld .PEAT_STATUS_HELD, .fld .PEAT_STATUS_USED, .fld .PEAT_FRZ_AREA,
    .fld .SDG_WF_STATUS_CAUSE_SEEN, .arr (.SDG_WR_STATUS_WG 0) 0x400 8, .arr (.SDG_WR_STATUS_CAUSE 0) 0x400 8,
    .arr (.SDG_WR_STATUS_DROPS 0) 0x400 8, .arr (.SDG_WR_DROP_MANG 0) 0x400 8, .arr (.WTH_VCM_CTRL_EN 0) 0x4 4,
    .arr (.WTH_VCM_STATUS_RET_ACTIVE 0) 0x4 4, .arr (.WTH_VCM_STATUS_PARKED 0) 0x4 4] : List Regs) ++
    ([.arr (.WTH_VCM_STATUS_ENABLED 0) 0x4 4, .arr (.WTH_MA_CTRL_HOLD 0) 0x4 8, .arr (.WTH_MA_STATUS_VOUT 0) 0x4 8,
    .arr (.TUS_SEC_CTRL_LANE_EN 0) 0x40 4, .arr (.TUS_SEC_STATUS_MISS1 0) 0x40 4, .arr (.TUS_SEC_STATUS_MISS0 0) 0x40 4,
    .arr (.TUS_SEEK_STATUS_SEEKING 0) 0x20 4, .arr (.TUS_SEEK_STATUS_HINT_ACTIVE 0) 0x20 4,
    .arr (.TUS_SEEK_STATUS_SETTLED 0) 0x20 4, .arr (.MBX_DONE_DONE 0) 0x4 2, .grid (.MBX_RSP_DATA 0 0) 0x400 64 0x4 64,
    .arr (.MBX_STAT_CANCEL_REQ 0) 0x400 64] : List Regs) ++ ([.arr (.MBX_STAT_STARTED 0) 0x400 64,
    .arr (.MBX_STAT_STATE 0) 0x400 64, .arr (.MBX_LATCH_RSP_STATUS 0) 0x400 64, .arr (.MWQ_STATUS_BLOCKED 0) 0x20 16,
    .arr (.MWQ_STATUS_OUTST 0) 0x20 16, .fld .MWQ_SYS_STATUS_FLUSH, .fld .MWQ_SYS_STATUS_CAL,
    .fld .DYKE_SLOT_INACTIVE] : List Regs)) s t)) ∧
  (∀ (s : State) (p : Nat) (k track : Nat), s.Runs p 0x0203 → (s.aq.runs.at p).phase = 1 → (s.aq.runs.at p).cur = some k →
    (s.aq.runs.at p).todo = 0 → (s.aq.runs.at p).bad = 0 → s.parkedSec k = false → s.get (.WTH_VCM_STATUS_RET_ACTIVE k) = 0 →
    Completes (.sectionLoad p (some track)) s (fun t => (Answered s t p 0 true (leBytes 1 (maskOf ((sectionsOf (s.req p 16 1)).filter (fun j => !s.parkedSec j))) ++
    leBytes 1 0 ++ leBytes 2 0) ∧
    (t.tus.lanes.at (2 * k + s.get (.TUS_SEC_CTRL_PRI_SLOT k))).r = (if (s.tus.lanes.at (2 * k + s.get (.TUS_SEC_CTRL_PRI_SLOT k))).started then (s.tus.lanes.at (2 * k + s.get (.TUS_SEC_CTRL_PRI_SLOT k))).r else posOf (BitVec.ofNat 32 track)) ∧
    (t.tus.lanes.at (2 * k + s.get (.TUS_SEC_CTRL_PRI_SLOT k))).started = true) ∧ Frame [.fenIrq, .seqs, .chans, .withy, .tus,
    .mq, .aq, .dyke] (([.fld .PEAT_STATUS_STAMP_WAIT, .fld .PEAT_STATUS_HELD, .fld .PEAT_STATUS_USED, .fld .PEAT_FRZ_AREA,
    .fld .SDG_WF_STATUS_CAUSE_SEEN, .arr (.SDG_WR_STATUS_WG 0) 0x400 8, .arr (.SDG_WR_STATUS_CAUSE 0) 0x400 8,
    .arr (.SDG_WR_STATUS_DROPS 0) 0x400 8, .arr (.SDG_WR_DROP_MANG 0) 0x400 8, .arr (.WTH_VCM_CTRL_EN 0) 0x4 4,
    .arr (.WTH_VCM_STATUS_RET_ACTIVE 0) 0x4 4, .arr (.WTH_VCM_STATUS_PARKED 0) 0x4 4] : List Regs) ++
    ([.arr (.WTH_VCM_STATUS_ENABLED 0) 0x4 4, .arr (.WTH_MA_CTRL_HOLD 0) 0x4 8, .arr (.WTH_MA_STATUS_VOUT 0) 0x4 8,
    .arr (.TUS_SEC_CTRL_LANE_EN 0) 0x40 4, .arr (.TUS_SEC_STATUS_MISS1 0) 0x40 4, .arr (.TUS_SEC_STATUS_MISS0 0) 0x40 4,
    .arr (.TUS_SEEK_STATUS_SEEKING 0) 0x20 4, .arr (.TUS_SEEK_STATUS_HINT_ACTIVE 0) 0x20 4,
    .arr (.TUS_SEEK_STATUS_SETTLED 0) 0x20 4, .arr (.MBX_DONE_DONE 0) 0x4 2, .grid (.MBX_RSP_DATA 0 0) 0x400 64 0x4 64,
    .arr (.MBX_STAT_CANCEL_REQ 0) 0x400 64] : List Regs) ++ ([.arr (.MBX_STAT_STARTED 0) 0x400 64,
    .arr (.MBX_STAT_STATE 0) 0x400 64, .arr (.MBX_LATCH_RSP_STATUS 0) 0x400 64, .arr (.MWQ_STATUS_BLOCKED 0) 0x20 16,
    .arr (.MWQ_STATUS_OUTST 0) 0x20 16, .fld .MWQ_SYS_STATUS_FLUSH, .fld .MWQ_SYS_STATUS_CAL,
    .fld .DYKE_SLOT_INACTIVE] : List Regs)) s t)) ∧
  (∀ (s : State) (p : Nat) (k : Nat), s.Runs p 0x0203 → (s.aq.runs.at p).phase = 1 → k < 4 → (s.aq.runs.at p).cur = some k →
    (s.aq.runs.at p).todo = 0 → (s.aq.runs.at p).bad = 0 → s.parkedSec k = false → s.get (.WTH_VCM_STATUS_RET_ACTIVE k) = 0 →
    Completes (.sectionLoad p none) s (fun t => ((∃ out, Answered s t p 0x0105 true out) ∧
    t.get (.WTH_VCM_STATUS_RET_ACTIVE k) = 1 ∧ t.withy.retract.at k = .moving) ∧ Frame [.fenIrq, .seqs, .chans, .withy, .tus,
    .mq, .aq, .dyke] (([.fld .PEAT_STATUS_STAMP_WAIT, .fld .PEAT_STATUS_HELD, .fld .PEAT_STATUS_USED, .fld .PEAT_FRZ_AREA,
    .fld .SDG_WF_STATUS_CAUSE_SEEN, .arr (.SDG_WR_STATUS_WG 0) 0x400 8, .arr (.SDG_WR_STATUS_CAUSE 0) 0x400 8,
    .arr (.SDG_WR_STATUS_DROPS 0) 0x400 8, .arr (.SDG_WR_DROP_MANG 0) 0x400 8, .arr (.WTH_VCM_CTRL_EN 0) 0x4 4,
    .arr (.WTH_VCM_STATUS_RET_ACTIVE 0) 0x4 4, .arr (.WTH_VCM_STATUS_PARKED 0) 0x4 4] : List Regs) ++
    ([.arr (.WTH_VCM_STATUS_ENABLED 0) 0x4 4, .arr (.WTH_MA_CTRL_HOLD 0) 0x4 8, .arr (.WTH_MA_STATUS_VOUT 0) 0x4 8,
    .arr (.TUS_SEC_CTRL_LANE_EN 0) 0x40 4, .arr (.TUS_SEC_STATUS_MISS1 0) 0x40 4, .arr (.TUS_SEC_STATUS_MISS0 0) 0x40 4,
    .arr (.TUS_SEEK_STATUS_SEEKING 0) 0x20 4, .arr (.TUS_SEEK_STATUS_HINT_ACTIVE 0) 0x20 4,
    .arr (.TUS_SEEK_STATUS_SETTLED 0) 0x20 4, .arr (.MBX_DONE_DONE 0) 0x4 2, .grid (.MBX_RSP_DATA 0 0) 0x400 64 0x4 64,
    .arr (.MBX_STAT_CANCEL_REQ 0) 0x400 64] : List Regs) ++ ([.arr (.MBX_STAT_STARTED 0) 0x400 64,
    .arr (.MBX_STAT_STATE 0) 0x400 64, .arr (.MBX_LATCH_RSP_STATUS 0) 0x400 64, .arr (.MWQ_STATUS_BLOCKED 0) 0x20 16,
    .arr (.MWQ_STATUS_OUTST 0) 0x20 16, .fld .MWQ_SYS_STATUS_FLUSH, .fld .MWQ_SYS_STATUS_CAL,
    .fld .DYKE_SLOT_INACTIVE] : List Regs)) s t)) ∧
  (∀ (s : State) (p : Nat) (lock : Option Nat), s.Runs p 0x0203 → (s.aq.runs.at p).phase = 1 → (s.aq.runs.at p).cur = none →
    (s.aq.runs.at p).todo ≠ 0 → s.cancelAsked p = true → Completes (.sectionLoad p lock) s (fun t => ((∃ out,
    Answered s t p 0x40 true out)) ∧ Frame [.fenIrq, .seqs, .chans, .withy, .tus, .mq, .aq,
    .dyke] (([.fld .PEAT_STATUS_STAMP_WAIT, .fld .PEAT_STATUS_HELD, .fld .PEAT_STATUS_USED, .fld .PEAT_FRZ_AREA,
    .fld .SDG_WF_STATUS_CAUSE_SEEN, .arr (.SDG_WR_STATUS_WG 0) 0x400 8, .arr (.SDG_WR_STATUS_CAUSE 0) 0x400 8,
    .arr (.SDG_WR_STATUS_DROPS 0) 0x400 8, .arr (.SDG_WR_DROP_MANG 0) 0x400 8, .arr (.WTH_VCM_CTRL_EN 0) 0x4 4,
    .arr (.WTH_VCM_STATUS_RET_ACTIVE 0) 0x4 4, .arr (.WTH_VCM_STATUS_PARKED 0) 0x4 4] : List Regs) ++
    ([.arr (.WTH_VCM_STATUS_ENABLED 0) 0x4 4, .arr (.WTH_MA_CTRL_HOLD 0) 0x4 8, .arr (.WTH_MA_STATUS_VOUT 0) 0x4 8,
    .arr (.TUS_SEC_CTRL_LANE_EN 0) 0x40 4, .arr (.TUS_SEC_STATUS_MISS1 0) 0x40 4, .arr (.TUS_SEC_STATUS_MISS0 0) 0x40 4,
    .arr (.TUS_SEEK_STATUS_SEEKING 0) 0x20 4, .arr (.TUS_SEEK_STATUS_HINT_ACTIVE 0) 0x20 4,
    .arr (.TUS_SEEK_STATUS_SETTLED 0) 0x20 4, .arr (.MBX_DONE_DONE 0) 0x4 2, .grid (.MBX_RSP_DATA 0 0) 0x400 64 0x4 64,
    .arr (.MBX_STAT_CANCEL_REQ 0) 0x400 64] : List Regs) ++ ([.arr (.MBX_STAT_STARTED 0) 0x400 64,
    .arr (.MBX_STAT_STATE 0) 0x400 64, .arr (.MBX_LATCH_RSP_STATUS 0) 0x400 64, .arr (.MWQ_STATUS_BLOCKED 0) 0x20 16,
    .arr (.MWQ_STATUS_OUTST 0) 0x20 16, .fld .MWQ_SYS_STATUS_FLUSH, .fld .MWQ_SYS_STATUS_CAL,
    .fld .DYKE_SLOT_INACTIVE] : List Regs)) s t)) ∧
  (∀ (s : State) (p : Nat) (stalls : Nat), s.Runs p 0x0204 → (s.aq.runs.at p).phase = 0 →
    (sectionsOf (s.req p 16 1)).all s.lanesIdle = false →
    Completes (.sectionPark p stalls) s (fun t => ((∀ k ∈ (sectionsOf (s.req p 16 1)), t.mq.noStart.at k = true) ∧
    (t.aq.runs.at p).phase = 0 ∧ t.mbx p = 2) ∧ Frame (alarmParts ++ ([.dram, .drawn, .withy, .slu, .mq, .aq,
    .dyke] : List Part)) (alarmRegs ++ haltRegs ++ ([.arr (.WTH_VCM_CTRL_EN 0) 0x4 4,
    .arr (.WTH_VCM_STATUS_RET_ACTIVE 0) 0x4 4, .arr (.WTH_VCM_STATUS_PARKED 0) 0x4 4, .arr (.WTH_VCM_STATUS_ENABLED 0) 0x4 4,
    .arr (.WTH_MA_CTRL_HOLD 0) 0x4 8, .arr (.WTH_MA_STATUS_VOUT 0) 0x4 8, .arr (.MBX_DONE_DONE 0) 0x4 2,
    .grid (.MBX_RSP_DATA 0 0) 0x400 64 0x4 64, .arr (.MBX_STAT_CANCEL_REQ 0) 0x400 64, .arr (.MBX_STAT_STARTED 0) 0x400 64,
    .arr (.MBX_STAT_STATE 0) 0x400 64, .arr (.MBX_LATCH_RSP_STATUS 0) 0x400 64] : List Regs) ++
    ([.arr (.MWQ_STATUS_BLOCKED 0) 0x20 16, .arr (.MWQ_STATUS_OUTST 0) 0x20 16, .arr (.MWC_PI_PASS 0) 0x20 4,
    .arr (.MWC_PI_PI 0) 0x20 4, .arr (.MWC_STATUS_SCAN_STOP 0) 0x20 4, .arr (.MWC_STATUS_SPILL_CNT 0) 0x20 4,
    .fld .MWQ_SYS_STATUS_FLUSH, .fld .MWQ_SYS_STATUS_CAL, .fld .SLU_STATUS_LED_FREE, .arr (.SLU_SEC_FREE_FREE 0) 0x4 4,
    .arr (.SLU_SEC_RUN_RUN 0) 0x4 4, .arr (.SLU_CRED_USED_USED 0) 0x4 32] : List Regs) ++
    ([.fld .DYKE_SLOT_INACTIVE] : List Regs)) s t)) ∧
  (∀ (s : State) (p : Nat) (stalls : Nat), s.Runs p 0x0204 → (s.aq.runs.at p).phase = 0 →
    (sectionsOf (s.req p 16 1)).all s.lanesIdle = true →
    Completes (.sectionPark p stalls) s (fun t => ((∀ k ∈ (sectionsOf (s.req p 16 1)), t.mq.noStart.at k = true) ∧
    (∀ k ∈ (sectionsOf (s.req p 16 1)), s.parkedSec k = false → s.get (.WTH_VCM_STATUS_RET_ACTIVE k) = 0 →
    (stalls / 2 ^ k % 2 = 1 → t.get (.WTH_VCM_STATUS_PARKED k) = 1) ∧ (stalls / 2 ^ k % 2 = 0 →
    t.get (.WTH_VCM_STATUS_RET_ACTIVE k) = 1 ∧ t.withy.retract.at k = .moving))) ∧ Frame (alarmParts ++ ([.dram, .drawn,
    .withy, .slu, .mq, .aq, .dyke] : List Part)) (alarmRegs ++ haltRegs ++ ([.arr (.WTH_VCM_CTRL_EN 0) 0x4 4,
    .arr (.WTH_VCM_STATUS_RET_ACTIVE 0) 0x4 4, .arr (.WTH_VCM_STATUS_PARKED 0) 0x4 4, .arr (.WTH_VCM_STATUS_ENABLED 0) 0x4 4,
    .arr (.WTH_MA_CTRL_HOLD 0) 0x4 8, .arr (.WTH_MA_STATUS_VOUT 0) 0x4 8, .arr (.MBX_DONE_DONE 0) 0x4 2,
    .grid (.MBX_RSP_DATA 0 0) 0x400 64 0x4 64, .arr (.MBX_STAT_CANCEL_REQ 0) 0x400 64, .arr (.MBX_STAT_STARTED 0) 0x400 64,
    .arr (.MBX_STAT_STATE 0) 0x400 64, .arr (.MBX_LATCH_RSP_STATUS 0) 0x400 64] : List Regs) ++
    ([.arr (.MWQ_STATUS_BLOCKED 0) 0x20 16, .arr (.MWQ_STATUS_OUTST 0) 0x20 16, .arr (.MWC_PI_PASS 0) 0x20 4,
    .arr (.MWC_PI_PI 0) 0x20 4, .arr (.MWC_STATUS_SCAN_STOP 0) 0x20 4, .arr (.MWC_STATUS_SPILL_CNT 0) 0x20 4,
    .fld .MWQ_SYS_STATUS_FLUSH, .fld .MWQ_SYS_STATUS_CAL, .fld .SLU_STATUS_LED_FREE, .arr (.SLU_SEC_FREE_FREE 0) 0x4 4,
    .arr (.SLU_SEC_RUN_RUN 0) 0x4 4, .arr (.SLU_CRED_USED_USED 0) 0x4 32] : List Regs) ++
    ([.fld .DYKE_SLOT_INACTIVE] : List Regs)) s t)) ∧
  (∀ (s : State) (p : Nat) (stalls : Nat), s.Runs p 0x0204 → (s.aq.runs.at p).phase = 1 →
    s.parkedAll (sectionsOf (s.req p 16 1)) = true →
    Completes (.sectionPark p stalls) s (fun t => (Answered s t p 0 true (leBytes 1 (maskOf (sectionsOf (s.req p 16 1))) ++
    leBytes 1 (s.aq.runs.at p).bad ++ leBytes 2 0) ∧ (∀ k ∈ (sectionsOf (s.req p 16 1)), t.mq.noStart.at k = true)) ∧
    Frame (alarmParts ++ ([.dram, .drawn, .withy, .slu, .mq, .aq, .dyke] : List Part)) (alarmRegs ++ haltRegs ++
    ([.arr (.WTH_VCM_CTRL_EN 0) 0x4 4, .arr (.WTH_VCM_STATUS_RET_ACTIVE 0) 0x4 4, .arr (.WTH_VCM_STATUS_PARKED 0) 0x4 4,
    .arr (.WTH_VCM_STATUS_ENABLED 0) 0x4 4, .arr (.WTH_MA_CTRL_HOLD 0) 0x4 8, .arr (.WTH_MA_STATUS_VOUT 0) 0x4 8,
    .arr (.MBX_DONE_DONE 0) 0x4 2, .grid (.MBX_RSP_DATA 0 0) 0x400 64 0x4 64, .arr (.MBX_STAT_CANCEL_REQ 0) 0x400 64,
    .arr (.MBX_STAT_STARTED 0) 0x400 64, .arr (.MBX_STAT_STATE 0) 0x400 64,
    .arr (.MBX_LATCH_RSP_STATUS 0) 0x400 64] : List Regs) ++ ([.arr (.MWQ_STATUS_BLOCKED 0) 0x20 16,
    .arr (.MWQ_STATUS_OUTST 0) 0x20 16, .arr (.MWC_PI_PASS 0) 0x20 4, .arr (.MWC_PI_PI 0) 0x20 4,
    .arr (.MWC_STATUS_SCAN_STOP 0) 0x20 4, .arr (.MWC_STATUS_SPILL_CNT 0) 0x20 4, .fld .MWQ_SYS_STATUS_FLUSH,
    .fld .MWQ_SYS_STATUS_CAL, .fld .SLU_STATUS_LED_FREE, .arr (.SLU_SEC_FREE_FREE 0) 0x4 4, .arr (.SLU_SEC_RUN_RUN 0) 0x4 4,
    .arr (.SLU_CRED_USED_USED 0) 0x4 32] : List Regs) ++ ([.fld .DYKE_SLOT_INACTIVE] : List Regs)) s t)) ∧
  (∀ (s : State) (p : Nat), s.Runs p 0x0205 → (s.aq.runs.at p).phase = 0 →
    Completes (.retract p) s (fun t => ((∀ k ∈ (sectionsOf (s.req p 16 1)), s.parkedSec k = false →
    s.get (.WTH_VCM_STATUS_RET_ACTIVE k) = 0 → t.get (.WTH_VCM_STATUS_RET_ACTIVE k) = 1 ∧ t.withy.retract.at k = .moving ∧
    t.mbx p = 2)) ∧ Frame (alarmParts ++ ([.dram, .drawn, .withy, .slu, .mq, .aq, .dyke] : List Part)) (alarmRegs ++
    haltRegs ++ ([.arr (.WTH_VCM_STATUS_RET_ACTIVE 0) 0x4 4, .arr (.WTH_VCM_STATUS_ENABLED 0) 0x4 4,
    .arr (.WTH_MA_CTRL_HOLD 0) 0x4 8, .arr (.WTH_MA_STATUS_VOUT 0) 0x4 8, .arr (.MBX_DONE_DONE 0) 0x4 2,
    .grid (.MBX_RSP_DATA 0 0) 0x400 64 0x4 64, .arr (.MBX_STAT_CANCEL_REQ 0) 0x400 64, .arr (.MBX_STAT_STARTED 0) 0x400 64,
    .arr (.MBX_STAT_STATE 0) 0x400 64, .arr (.MBX_LATCH_RSP_STATUS 0) 0x400 64, .arr (.MWQ_STATUS_BLOCKED 0) 0x20 16,
    .arr (.MWQ_STATUS_OUTST 0) 0x20 16] : List Regs) ++ ([.arr (.MWC_PI_PASS 0) 0x20 4, .arr (.MWC_PI_PI 0) 0x20 4,
    .arr (.MWC_STATUS_SCAN_STOP 0) 0x20 4, .arr (.MWC_STATUS_SPILL_CNT 0) 0x20 4, .fld .MWQ_SYS_STATUS_FLUSH,
    .fld .MWQ_SYS_STATUS_CAL, .fld .SLU_STATUS_LED_FREE, .arr (.SLU_SEC_FREE_FREE 0) 0x4 4, .arr (.SLU_SEC_RUN_RUN 0) 0x4 4,
    .arr (.SLU_CRED_USED_USED 0) 0x4 32, .fld .DYKE_SLOT_INACTIVE] : List Regs)) s t)) ∧
  (∀ (s : State) (p : Nat), s.Runs p 0x0205 → (s.aq.runs.at p).phase = 1 → s.parkedAll (sectionsOf (s.req p 16 1)) = true →
    Completes (.retract p) s (fun t => (Answered s t p 0 true []) ∧ Frame (alarmParts ++ ([.dram, .drawn, .withy, .slu, .mq,
    .aq, .dyke] : List Part)) (alarmRegs ++ haltRegs ++ ([.arr (.WTH_VCM_STATUS_RET_ACTIVE 0) 0x4 4,
    .arr (.WTH_VCM_STATUS_ENABLED 0) 0x4 4, .arr (.WTH_MA_CTRL_HOLD 0) 0x4 8, .arr (.WTH_MA_STATUS_VOUT 0) 0x4 8,
    .arr (.MBX_DONE_DONE 0) 0x4 2, .grid (.MBX_RSP_DATA 0 0) 0x400 64 0x4 64, .arr (.MBX_STAT_CANCEL_REQ 0) 0x400 64,
    .arr (.MBX_STAT_STARTED 0) 0x400 64, .arr (.MBX_STAT_STATE 0) 0x400 64, .arr (.MBX_LATCH_RSP_STATUS 0) 0x400 64,
    .arr (.MWQ_STATUS_BLOCKED 0) 0x20 16, .arr (.MWQ_STATUS_OUTST 0) 0x20 16] : List Regs) ++ ([.arr (.MWC_PI_PASS 0) 0x20 4,
    .arr (.MWC_PI_PI 0) 0x20 4, .arr (.MWC_STATUS_SCAN_STOP 0) 0x20 4, .arr (.MWC_STATUS_SPILL_CNT 0) 0x20 4,
    .fld .MWQ_SYS_STATUS_FLUSH, .fld .MWQ_SYS_STATUS_CAL, .fld .SLU_STATUS_LED_FREE, .arr (.SLU_SEC_FREE_FREE 0) 0x4 4,
    .arr (.SLU_SEC_RUN_RUN 0) 0x4 4, .arr (.SLU_CRED_USED_USED 0) 0x4 32, .fld .DYKE_SLOT_INACTIVE] : List Regs)) s t)) ∧
  (∀ (s : State) (p : Nat), s.Runs p 0x0205 → (s.aq.runs.at p).phase = 1 → s.parkedAll (sectionsOf (s.req p 16 1)) = false →
    Completes (.retract p) s (fun t => (t = s) ∧ Frame (alarmParts ++ ([.dram, .drawn, .withy, .slu, .mq, .aq,
    .dyke] : List Part)) (alarmRegs ++ haltRegs ++ ([.arr (.WTH_VCM_STATUS_RET_ACTIVE 0) 0x4 4,
    .arr (.WTH_VCM_STATUS_ENABLED 0) 0x4 4, .arr (.WTH_MA_CTRL_HOLD 0) 0x4 8, .arr (.WTH_MA_STATUS_VOUT 0) 0x4 8,
    .arr (.MBX_DONE_DONE 0) 0x4 2, .grid (.MBX_RSP_DATA 0 0) 0x400 64 0x4 64, .arr (.MBX_STAT_CANCEL_REQ 0) 0x400 64,
    .arr (.MBX_STAT_STARTED 0) 0x400 64, .arr (.MBX_STAT_STATE 0) 0x400 64, .arr (.MBX_LATCH_RSP_STATUS 0) 0x400 64,
    .arr (.MWQ_STATUS_BLOCKED 0) 0x20 16, .arr (.MWQ_STATUS_OUTST 0) 0x20 16] : List Regs) ++ ([.arr (.MWC_PI_PASS 0) 0x20 4,
    .arr (.MWC_PI_PI 0) 0x20 4, .arr (.MWC_STATUS_SCAN_STOP 0) 0x20 4, .arr (.MWC_STATUS_SPILL_CNT 0) 0x20 4,
    .fld .MWQ_SYS_STATUS_FLUSH, .fld .MWQ_SYS_STATUS_CAL, .fld .SLU_STATUS_LED_FREE, .arr (.SLU_SEC_FREE_FREE 0) 0x4 4,
    .arr (.SLU_SEC_RUN_RUN 0) 0x4 4, .arr (.SLU_CRED_USED_USED 0) 0x4 32, .fld .DYKE_SLOT_INACTIVE] : List Regs)) s t)) ∧
  (∀ (s : State) (p : Nat) (emf : Nat), s.Runs p 0x0206 →
    Completes (.motorClear p emf) s (fun t => (Answered s t p 0 true [] ∧
    t.get .WTH_SPN_STATUS_STATE = (if s.motorFault = true ∧ s.atRest emf = true then 0 else s.get .WTH_SPN_STATUS_STATE)) ∧
    Frame [.mireIrq, .fenIrq, .seqs, .chans, .stg, .tide, .withy, .aq, .dyke] (([.fld .PEAT_STATUS_STAMP_WAIT,
    .fld .PEAT_STATUS_HELD, .fld .PEAT_STATUS_USED, .fld .PEAT_FRZ_AREA, .arr (.REED_ST_STATUS_STATE 0) 0x100 8,
    .arr (.REED_ST_STATUS_TERM 0) 0x100 8, .fld .SDG_STATUS_RES_IRQ, .fld .SDG_STATUS_PENDING,
    .arr (.SDG_ST_STATUS_RES_OVF 0) 0x400 8, .arr (.SDG_ST_STATUS_RES_CNT 0) 0x400 8,
    .arr (.SDG_ST_STATUS_PARK_USED 0) 0x400 8, .arr (.SDG_ST_STATUS_PENDING_CNT 0) 0x400 8] : List Regs) ++
    ([.arr (.SDG_FE_STATUS_TA_ACTIVE 0) 0x400 8, .arr (.SDG_FE_STATUS_DO_ACTIVE 0) 0x400 8, .fld .SDG_WF_STATUS_CAUSE_SEEN,
    .arr (.SDG_WR_STATUS_WG 0) 0x400 8, .arr (.SDG_WR_STATUS_CAUSE 0) 0x400 8, .arr (.SDG_WR_STATUS_DROPS 0) 0x400 8,
    .arr (.SDG_WR_DROP_MANG 0) 0x400 8, .arr (.SLU_STG_STATUS_ACTIVE 0) 0x4 8, .arr (.SLU_STG_STATUS_DIR 0) 0x4 8,
    .arr (.SLU_STG_STATUS_RESV 0) 0x4 8, .arr (.SLU_STG_STATUS_READY 0) 0x4 8, .fld .TIDE_STATUS_STATE] : List Regs) ++
    ([.fld .TIDE_CELL_PERIOD_PERIOD, .fld .WTH_SPN_STATUS_STATE, .fld .WTH_SPN_STATUS_AT_SPEED,
    .fld .WTH_SPN_STATUS_FW_ACTIVE, .fld .WTH_SPN_STATUS_FW_SAT, .fld .WTH_SPN_STATUS_STOP_BLOCKED, .fld .WTH_SPN_MEAS_TRACK,
    .fld .WTH_SPN_FOC_ID, .fld .WTH_SPN_FOC_MI, .arr (.MBX_DONE_DONE 0) 0x4 2, .grid (.MBX_RSP_DATA 0 0) 0x400 64 0x4 64,
    .arr (.MBX_STAT_CANCEL_REQ 0) 0x400 64] : List Regs) ++ ([.arr (.MBX_STAT_STARTED 0) 0x400 64,
    .arr (.MBX_STAT_STATE 0) 0x400 64, .arr (.MBX_LATCH_RSP_STATUS 0) 0x400 64, .fld .DYKE_SLOT_INACTIVE] : List Regs)) s t)) ∧
  (∀ (s : State) (p : Nat) (k : Nat), s.Runs p 0x0207 → s.req p 16 1 = k →
    Completes (.sectionStatus p) s (fun t => (Answered s t p 0 true (leBytes 4 (s.wordOf (.WTH_VCM_STATUS_PARKED k)) ++
    leBytes 4 (s.wordOf (.TUS_SEC_STATUS_SAT k)) ++ leBytes 4 (s.wordOf (.TUS_SEEK_STATUS_SETTLED k)) ++
    leBytes 4 ((s.lane (2 * k + s.get (.TUS_SEC_CTRL_PRI_SLOT k))).r.fdiv (2 ^ 38) % 2 ^ 32).toNat)) ∧ Frame [.fenIrq, .aq,
    .dyke] [.fld .PEAT_STATUS_STAMP_WAIT, .fld .PEAT_STATUS_HELD, .fld .PEAT_STATUS_USED, .fld .PEAT_FRZ_AREA,
    .arr (.MBX_DONE_DONE 0) 0x4 2, .grid (.MBX_RSP_DATA 0 0) 0x400 64 0x4 64, .arr (.MBX_STAT_CANCEL_REQ 0) 0x400 64,
    .arr (.MBX_STAT_STARTED 0) 0x400 64, .arr (.MBX_STAT_STATE 0) 0x400 64, .arr (.MBX_LATCH_RSP_STATUS 0) 0x400 64,
    .fld .DYKE_SLOT_INACTIVE] s t)) ∧
  (∀ (s : State) (p : Nat), s.Runs p 0x0208 → Completes (.encSyncSet p) s (fun t => (Answered s t p 0 true [] ∧
    t.get .TIDE_CTRL_ESO_EN = s.req p 16 1 % 2 ∧ t.get .TIDE_CTRL_ESI_EN = s.req p 16 1 / 2 % 2 ∧
    t.get .TIDE_CTRL_ESI_PHASE_EN = s.req p 16 1 / 4 % 2 ∧ t.get .TIDE_ESI_PHASE_OFFSET = s.req p 18 2) ∧ Frame (alarmParts ++
    ([.tide, .aq, .dyke] : List Part)) (alarmRegs ++ haltRegs ++ ([.fld .TIDE_STATUS_ESI_VALID, .fld .TIDE_CTRL_ESO_EN,
    .fld .TIDE_CTRL_ESI_EN, .fld .TIDE_CTRL_ESI_PHASE_EN, .fld .TIDE_ESI_PHASE_OFFSET, .arr (.MBX_DONE_DONE 0) 0x4 2,
    .grid (.MBX_RSP_DATA 0 0) 0x400 64 0x4 64, .arr (.MBX_STAT_CANCEL_REQ 0) 0x400 64, .arr (.MBX_STAT_STARTED 0) 0x400 64,
    .arr (.MBX_STAT_STATE 0) 0x400 64, .arr (.MBX_LATCH_RSP_STATUS 0) 0x400 64, .fld .DYKE_SLOT_INACTIVE] : List Regs)) s t)) ∧
  (∀ (s : State) (p : Nat) (lock : Option Nat) (stalls : Nat), s.Runs p 0x0601 → (s.aq.runs.at p).phase = 0 →
    s.aq.loading = none → Completes (.powerStateSet p lock stalls) s (fun t => ((t.aq.runs.at p).phase = 1 ∧
    t.get .TUS_SEEK_GLOBAL_ASCALE = (if s.req p 16 1 = 1 ∨ s.req p 16 1 = 3 then 0x80 else 0x100) ∧ t.aq.starting = false ∧
    t.mbx p = 2) ∧ Frame (alarmParts ++ ([.dram, .drawn, .tide, .withy, .tus, .slu, .mq, .aq,
    .dyke] : List Part)) (alarmRegs ++ haltRegs ++ ([.fld .TIDE_STATUS_STATE, .fld .TIDE_CELL_PERIOD_PERIOD,
    .fld .WTH_SPN_CTRL_SRC, .fld .WTH_SPN_CTRL_RUN, .fld .WTH_SPN_STATUS_STATE, .fld .WTH_SPN_STATUS_ATTEMPT,
    .fld .WTH_SPN_STATUS_AT_SPEED, .fld .WTH_SPN_STATUS_SPD95, .fld .WTH_SPN_STATUS_SPD90, .fld .WTH_SPN_STATUS_DIR_REV,
    .fld .WTH_SPN_STATUS_FW_ACTIVE, .fld .WTH_SPN_STATUS_FW_SAT] : List Regs) ++ ([.fld .WTH_SPN_STATUS_STOP_BLOCKED,
    .fld .WTH_SPN_SPEED_SPEED, .fld .WTH_SPN_MEAS_TRACK, .fld .WTH_SPN_CUR_IRUN, .fld .WTH_SPN_FOC_ID, .fld .WTH_SPN_FOC_MI,
    .arr (.WTH_VCM_CTRL_EN 0) 0x4 4, .arr (.WTH_VCM_STATUS_RET_ACTIVE 0) 0x4 4, .arr (.WTH_VCM_STATUS_PARKED 0) 0x4 4,
    .arr (.WTH_VCM_STATUS_ENABLED 0) 0x4 4, .arr (.WTH_MA_CTRL_HOLD 0) 0x4 8,
    .arr (.WTH_MA_STATUS_VOUT 0) 0x4 8] : List Regs) ++ ([.arr (.TUS_SEC_CTRL_LANE_EN 0) 0x40 4,
    .arr (.TUS_SEC_STATUS_MISS1 0) 0x40 4, .arr (.TUS_SEC_STATUS_MISS0 0) 0x40 4, .fld .TUS_SPN_PROF_RACC,
    .fld .TUS_SPN_PROF_RATE, .fld .TUS_SEEK_GLOBAL_ASCALE, .arr (.TUS_SEEK_STATUS_SEEKING 0) 0x20 4,
    .arr (.TUS_SEEK_STATUS_HINT_ACTIVE 0) 0x20 4, .arr (.TUS_SEEK_STATUS_SETTLED 0) 0x20 4, .arr (.MBX_DONE_DONE 0) 0x4 2,
    .grid (.MBX_RSP_DATA 0 0) 0x400 64 0x4 64, .arr (.MBX_STAT_CANCEL_REQ 0) 0x400 64] : List Regs) ++
    ([.arr (.MBX_STAT_STARTED 0) 0x400 64, .arr (.MBX_STAT_STATE 0) 0x400 64, .arr (.MBX_LATCH_RSP_STATUS 0) 0x400 64,
    .arr (.MWQ_STATUS_BLOCKED 0) 0x20 16, .arr (.MWQ_STATUS_OUTST 0) 0x20 16, .arr (.MWC_PI_PASS 0) 0x20 4,
    .arr (.MWC_PI_PI 0) 0x20 4, .arr (.MWC_STATUS_SCAN_STOP 0) 0x20 4, .arr (.MWC_STATUS_SPILL_CNT 0) 0x20 4,
    .fld .MWQ_SYS_STATUS_FLUSH, .fld .MWQ_SYS_STATUS_CAL, .fld .SLU_STATUS_LED_FREE] : List Regs) ++
    ([.arr (.SLU_SEC_FREE_FREE 0) 0x4 4, .arr (.SLU_SEC_RUN_RUN 0) 0x4 4, .arr (.SLU_CRED_USED_USED 0) 0x4 32,
    .fld .DYKE_SLOT_INACTIVE, .fld .MBX_START_RESULT, .fld .MBX_START_FAILED, .fld .MBX_START_LOADED] : List Regs)) s t)) ∧
  (∀ (s : State) (p : Nat) (lock : Option Nat) (stalls : Nat), s.Runs p 0x0601 → (s.aq.runs.at p).phase = 0 →
    s.aq.loading ≠ none → Completes (.powerStateSet p lock stalls) s (fun t => (t = s) ∧ Frame (alarmParts ++ ([.dram, .drawn,
    .tide, .withy, .tus, .slu, .mq, .aq, .dyke] : List Part)) (alarmRegs ++ haltRegs ++ ([.fld .TIDE_STATUS_STATE,
    .fld .TIDE_CELL_PERIOD_PERIOD, .fld .WTH_SPN_CTRL_SRC, .fld .WTH_SPN_CTRL_RUN, .fld .WTH_SPN_STATUS_STATE,
    .fld .WTH_SPN_STATUS_ATTEMPT, .fld .WTH_SPN_STATUS_AT_SPEED, .fld .WTH_SPN_STATUS_SPD95, .fld .WTH_SPN_STATUS_SPD90,
    .fld .WTH_SPN_STATUS_DIR_REV, .fld .WTH_SPN_STATUS_FW_ACTIVE, .fld .WTH_SPN_STATUS_FW_SAT] : List Regs) ++
    ([.fld .WTH_SPN_STATUS_STOP_BLOCKED, .fld .WTH_SPN_SPEED_SPEED, .fld .WTH_SPN_MEAS_TRACK, .fld .WTH_SPN_CUR_IRUN,
    .fld .WTH_SPN_FOC_ID, .fld .WTH_SPN_FOC_MI, .arr (.WTH_VCM_CTRL_EN 0) 0x4 4, .arr (.WTH_VCM_STATUS_RET_ACTIVE 0) 0x4 4,
    .arr (.WTH_VCM_STATUS_PARKED 0) 0x4 4, .arr (.WTH_VCM_STATUS_ENABLED 0) 0x4 4, .arr (.WTH_MA_CTRL_HOLD 0) 0x4 8,
    .arr (.WTH_MA_STATUS_VOUT 0) 0x4 8] : List Regs) ++ ([.arr (.TUS_SEC_CTRL_LANE_EN 0) 0x40 4,
    .arr (.TUS_SEC_STATUS_MISS1 0) 0x40 4, .arr (.TUS_SEC_STATUS_MISS0 0) 0x40 4, .fld .TUS_SPN_PROF_RACC,
    .fld .TUS_SPN_PROF_RATE, .fld .TUS_SEEK_GLOBAL_ASCALE, .arr (.TUS_SEEK_STATUS_SEEKING 0) 0x20 4,
    .arr (.TUS_SEEK_STATUS_HINT_ACTIVE 0) 0x20 4, .arr (.TUS_SEEK_STATUS_SETTLED 0) 0x20 4, .arr (.MBX_DONE_DONE 0) 0x4 2,
    .grid (.MBX_RSP_DATA 0 0) 0x400 64 0x4 64, .arr (.MBX_STAT_CANCEL_REQ 0) 0x400 64] : List Regs) ++
    ([.arr (.MBX_STAT_STARTED 0) 0x400 64, .arr (.MBX_STAT_STATE 0) 0x400 64, .arr (.MBX_LATCH_RSP_STATUS 0) 0x400 64,
    .arr (.MWQ_STATUS_BLOCKED 0) 0x20 16, .arr (.MWQ_STATUS_OUTST 0) 0x20 16, .arr (.MWC_PI_PASS 0) 0x20 4,
    .arr (.MWC_PI_PI 0) 0x20 4, .arr (.MWC_STATUS_SCAN_STOP 0) 0x20 4, .arr (.MWC_STATUS_SPILL_CNT 0) 0x20 4,
    .fld .MWQ_SYS_STATUS_FLUSH, .fld .MWQ_SYS_STATUS_CAL, .fld .SLU_STATUS_LED_FREE] : List Regs) ++
    ([.arr (.SLU_SEC_FREE_FREE 0) 0x4 4, .arr (.SLU_SEC_RUN_RUN 0) 0x4 4, .arr (.SLU_CRED_USED_USED 0) 0x4 32,
    .fld .DYKE_SLOT_INACTIVE, .fld .MBX_START_RESULT, .fld .MBX_START_FAILED, .fld .MBX_START_LOADED] : List Regs)) s t)) ∧
  (∀ (s : State) (p : Nat) (lock : Option Nat) (stalls : Nat), s.Runs p 0x0601 → (s.aq.runs.at p).phase = 1 →
    s.cancelAsked p = false → ¬ (s.req p 16 1 = 2 ∨ s.req p 16 1 = 4) →
    Completes (.powerStateSet p lock stalls) s (fun t => ((t.aq.runs.at p).phase = 3 ∧ t.mbx p = 2) ∧ Frame (alarmParts ++
    ([.dram, .drawn, .tide, .withy, .tus, .slu, .mq, .aq, .dyke] : List Part)) (alarmRegs ++ haltRegs ++
    ([.fld .TIDE_STATUS_STATE, .fld .TIDE_CELL_PERIOD_PERIOD, .fld .WTH_SPN_CTRL_SRC, .fld .WTH_SPN_CTRL_RUN,
    .fld .WTH_SPN_STATUS_STATE, .fld .WTH_SPN_STATUS_ATTEMPT, .fld .WTH_SPN_STATUS_AT_SPEED, .fld .WTH_SPN_STATUS_SPD95,
    .fld .WTH_SPN_STATUS_SPD90, .fld .WTH_SPN_STATUS_DIR_REV, .fld .WTH_SPN_STATUS_FW_ACTIVE,
    .fld .WTH_SPN_STATUS_FW_SAT] : List Regs) ++ ([.fld .WTH_SPN_STATUS_STOP_BLOCKED, .fld .WTH_SPN_SPEED_SPEED,
    .fld .WTH_SPN_MEAS_TRACK, .fld .WTH_SPN_CUR_IRUN, .fld .WTH_SPN_FOC_ID, .fld .WTH_SPN_FOC_MI,
    .arr (.WTH_VCM_CTRL_EN 0) 0x4 4, .arr (.WTH_VCM_STATUS_RET_ACTIVE 0) 0x4 4, .arr (.WTH_VCM_STATUS_PARKED 0) 0x4 4,
    .arr (.WTH_VCM_STATUS_ENABLED 0) 0x4 4, .arr (.WTH_MA_CTRL_HOLD 0) 0x4 8,
    .arr (.WTH_MA_STATUS_VOUT 0) 0x4 8] : List Regs) ++ ([.arr (.TUS_SEC_CTRL_LANE_EN 0) 0x40 4,
    .arr (.TUS_SEC_STATUS_MISS1 0) 0x40 4, .arr (.TUS_SEC_STATUS_MISS0 0) 0x40 4, .fld .TUS_SPN_PROF_RACC,
    .fld .TUS_SPN_PROF_RATE, .fld .TUS_SEEK_GLOBAL_ASCALE, .arr (.TUS_SEEK_STATUS_SEEKING 0) 0x20 4,
    .arr (.TUS_SEEK_STATUS_HINT_ACTIVE 0) 0x20 4, .arr (.TUS_SEEK_STATUS_SETTLED 0) 0x20 4, .arr (.MBX_DONE_DONE 0) 0x4 2,
    .grid (.MBX_RSP_DATA 0 0) 0x400 64 0x4 64, .arr (.MBX_STAT_CANCEL_REQ 0) 0x400 64] : List Regs) ++
    ([.arr (.MBX_STAT_STARTED 0) 0x400 64, .arr (.MBX_STAT_STATE 0) 0x400 64, .arr (.MBX_LATCH_RSP_STATUS 0) 0x400 64,
    .arr (.MWQ_STATUS_BLOCKED 0) 0x20 16, .arr (.MWQ_STATUS_OUTST 0) 0x20 16, .arr (.MWC_PI_PASS 0) 0x20 4,
    .arr (.MWC_PI_PI 0) 0x20 4, .arr (.MWC_STATUS_SCAN_STOP 0) 0x20 4, .arr (.MWC_STATUS_SPILL_CNT 0) 0x20 4,
    .fld .MWQ_SYS_STATUS_FLUSH, .fld .MWQ_SYS_STATUS_CAL, .fld .SLU_STATUS_LED_FREE] : List Regs) ++
    ([.arr (.SLU_SEC_FREE_FREE 0) 0x4 4, .arr (.SLU_SEC_RUN_RUN 0) 0x4 4, .arr (.SLU_CRED_USED_USED 0) 0x4 32,
    .fld .DYKE_SLOT_INACTIVE, .fld .MBX_START_RESULT, .fld .MBX_START_FAILED, .fld .MBX_START_LOADED] : List Regs)) s t)) ∧
  (∀ (s : State) (p : Nat) (lock : Option Nat) (stalls : Nat), s.Runs p 0x0601 → (s.aq.runs.at p).phase = 1 →
    s.cancelAsked p = false → (s.req p 16 1 = 2 ∨ s.req p 16 1 = 4) → (List.range 4).all s.lanesIdle = true →
    Completes (.powerStateSet p lock stalls) s (fun t => ((t.aq.runs.at p).phase = 2 ∧ (∀ k < 4, t.mq.noStart.at k = true) ∧
    (∀ k < 4, s.parkedSec k = false → s.get (.WTH_VCM_STATUS_RET_ACTIVE k) = 0 → (stalls / 2 ^ k % 2 = 1 →
    t.get (.WTH_VCM_STATUS_PARKED k) = 1) ∧ (stalls / 2 ^ k % 2 = 0 → t.get (.WTH_VCM_STATUS_RET_ACTIVE k) = 1 ∧
    t.withy.retract.at k = .moving)) ∧ t.mbx p = 2) ∧ Frame (alarmParts ++ ([.dram, .drawn, .tide, .withy, .tus, .slu, .mq,
    .aq, .dyke] : List Part)) (alarmRegs ++ haltRegs ++ ([.fld .TIDE_STATUS_STATE, .fld .TIDE_CELL_PERIOD_PERIOD,
    .fld .WTH_SPN_CTRL_SRC, .fld .WTH_SPN_CTRL_RUN, .fld .WTH_SPN_STATUS_STATE, .fld .WTH_SPN_STATUS_ATTEMPT,
    .fld .WTH_SPN_STATUS_AT_SPEED, .fld .WTH_SPN_STATUS_SPD95, .fld .WTH_SPN_STATUS_SPD90, .fld .WTH_SPN_STATUS_DIR_REV,
    .fld .WTH_SPN_STATUS_FW_ACTIVE, .fld .WTH_SPN_STATUS_FW_SAT] : List Regs) ++ ([.fld .WTH_SPN_STATUS_STOP_BLOCKED,
    .fld .WTH_SPN_SPEED_SPEED, .fld .WTH_SPN_MEAS_TRACK, .fld .WTH_SPN_CUR_IRUN, .fld .WTH_SPN_FOC_ID, .fld .WTH_SPN_FOC_MI,
    .arr (.WTH_VCM_CTRL_EN 0) 0x4 4, .arr (.WTH_VCM_STATUS_RET_ACTIVE 0) 0x4 4, .arr (.WTH_VCM_STATUS_PARKED 0) 0x4 4,
    .arr (.WTH_VCM_STATUS_ENABLED 0) 0x4 4, .arr (.WTH_MA_CTRL_HOLD 0) 0x4 8,
    .arr (.WTH_MA_STATUS_VOUT 0) 0x4 8] : List Regs) ++ ([.arr (.TUS_SEC_CTRL_LANE_EN 0) 0x40 4,
    .arr (.TUS_SEC_STATUS_MISS1 0) 0x40 4, .arr (.TUS_SEC_STATUS_MISS0 0) 0x40 4, .fld .TUS_SPN_PROF_RACC,
    .fld .TUS_SPN_PROF_RATE, .fld .TUS_SEEK_GLOBAL_ASCALE, .arr (.TUS_SEEK_STATUS_SEEKING 0) 0x20 4,
    .arr (.TUS_SEEK_STATUS_HINT_ACTIVE 0) 0x20 4, .arr (.TUS_SEEK_STATUS_SETTLED 0) 0x20 4, .arr (.MBX_DONE_DONE 0) 0x4 2,
    .grid (.MBX_RSP_DATA 0 0) 0x400 64 0x4 64, .arr (.MBX_STAT_CANCEL_REQ 0) 0x400 64] : List Regs) ++
    ([.arr (.MBX_STAT_STARTED 0) 0x400 64, .arr (.MBX_STAT_STATE 0) 0x400 64, .arr (.MBX_LATCH_RSP_STATUS 0) 0x400 64,
    .arr (.MWQ_STATUS_BLOCKED 0) 0x20 16, .arr (.MWQ_STATUS_OUTST 0) 0x20 16, .arr (.MWC_PI_PASS 0) 0x20 4,
    .arr (.MWC_PI_PI 0) 0x20 4, .arr (.MWC_STATUS_SCAN_STOP 0) 0x20 4, .arr (.MWC_STATUS_SPILL_CNT 0) 0x20 4,
    .fld .MWQ_SYS_STATUS_FLUSH, .fld .MWQ_SYS_STATUS_CAL, .fld .SLU_STATUS_LED_FREE] : List Regs) ++
    ([.arr (.SLU_SEC_FREE_FREE 0) 0x4 4, .arr (.SLU_SEC_RUN_RUN 0) 0x4 4, .arr (.SLU_CRED_USED_USED 0) 0x4 32,
    .fld .DYKE_SLOT_INACTIVE, .fld .MBX_START_RESULT, .fld .MBX_START_FAILED, .fld .MBX_START_LOADED] : List Regs)) s t)) ∧
  (∀ (s : State) (p : Nat) (lock : Option Nat) (stalls : Nat), s.Runs p 0x0601 → (s.aq.runs.at p).phase = 2 →
    s.parkedAll (List.range 4) = true → Completes (.powerStateSet p lock stalls) s (fun t => ((t.aq.runs.at p).phase = 3 ∧
    t.mbx p = 2) ∧ Frame (alarmParts ++ ([.dram, .drawn, .tide, .withy, .tus, .slu, .mq, .aq,
    .dyke] : List Part)) (alarmRegs ++ haltRegs ++ ([.fld .TIDE_STATUS_STATE, .fld .TIDE_CELL_PERIOD_PERIOD,
    .fld .WTH_SPN_CTRL_SRC, .fld .WTH_SPN_CTRL_RUN, .fld .WTH_SPN_STATUS_STATE, .fld .WTH_SPN_STATUS_ATTEMPT,
    .fld .WTH_SPN_STATUS_AT_SPEED, .fld .WTH_SPN_STATUS_SPD95, .fld .WTH_SPN_STATUS_SPD90, .fld .WTH_SPN_STATUS_DIR_REV,
    .fld .WTH_SPN_STATUS_FW_ACTIVE, .fld .WTH_SPN_STATUS_FW_SAT] : List Regs) ++ ([.fld .WTH_SPN_STATUS_STOP_BLOCKED,
    .fld .WTH_SPN_SPEED_SPEED, .fld .WTH_SPN_MEAS_TRACK, .fld .WTH_SPN_CUR_IRUN, .fld .WTH_SPN_FOC_ID, .fld .WTH_SPN_FOC_MI,
    .arr (.WTH_VCM_CTRL_EN 0) 0x4 4, .arr (.WTH_VCM_STATUS_RET_ACTIVE 0) 0x4 4, .arr (.WTH_VCM_STATUS_PARKED 0) 0x4 4,
    .arr (.WTH_VCM_STATUS_ENABLED 0) 0x4 4, .arr (.WTH_MA_CTRL_HOLD 0) 0x4 8,
    .arr (.WTH_MA_STATUS_VOUT 0) 0x4 8] : List Regs) ++ ([.arr (.TUS_SEC_CTRL_LANE_EN 0) 0x40 4,
    .arr (.TUS_SEC_STATUS_MISS1 0) 0x40 4, .arr (.TUS_SEC_STATUS_MISS0 0) 0x40 4, .fld .TUS_SPN_PROF_RACC,
    .fld .TUS_SPN_PROF_RATE, .fld .TUS_SEEK_GLOBAL_ASCALE, .arr (.TUS_SEEK_STATUS_SEEKING 0) 0x20 4,
    .arr (.TUS_SEEK_STATUS_HINT_ACTIVE 0) 0x20 4, .arr (.TUS_SEEK_STATUS_SETTLED 0) 0x20 4, .arr (.MBX_DONE_DONE 0) 0x4 2,
    .grid (.MBX_RSP_DATA 0 0) 0x400 64 0x4 64, .arr (.MBX_STAT_CANCEL_REQ 0) 0x400 64] : List Regs) ++
    ([.arr (.MBX_STAT_STARTED 0) 0x400 64, .arr (.MBX_STAT_STATE 0) 0x400 64, .arr (.MBX_LATCH_RSP_STATUS 0) 0x400 64,
    .arr (.MWQ_STATUS_BLOCKED 0) 0x20 16, .arr (.MWQ_STATUS_OUTST 0) 0x20 16, .arr (.MWC_PI_PASS 0) 0x20 4,
    .arr (.MWC_PI_PI 0) 0x20 4, .arr (.MWC_STATUS_SCAN_STOP 0) 0x20 4, .arr (.MWC_STATUS_SPILL_CNT 0) 0x20 4,
    .fld .MWQ_SYS_STATUS_FLUSH, .fld .MWQ_SYS_STATUS_CAL, .fld .SLU_STATUS_LED_FREE] : List Regs) ++
    ([.arr (.SLU_SEC_FREE_FREE 0) 0x4 4, .arr (.SLU_SEC_RUN_RUN 0) 0x4 4, .arr (.SLU_CRED_USED_USED 0) 0x4 32,
    .fld .DYKE_SLOT_INACTIVE, .fld .MBX_START_RESULT, .fld .MBX_START_FAILED, .fld .MBX_START_LOADED] : List Regs)) s t)) ∧
  (∀ (s : State) (p : Nat) (lock : Option Nat) (stalls : Nat), s.Runs p 0x0601 → (s.aq.runs.at p).phase = 3 →
    s.cancelAsked p = false → Completes (.powerStateSet p lock stalls) s (fun t => ((t.aq.runs.at p).phase = 4 ∧
    (s.req p 16 1 = 4 → t.get .WTH_SPN_CTRL_RUN = 0) ∧ (s.req p 16 1 ≠ 4 →
    t.get .WTH_SPN_SPEED_SPEED = (if s.req p 16 1 = 3 then 0x54_6000 else s.aq.target % 2 ^ 24)) ∧ t.mbx p = 2) ∧
    Frame (alarmParts ++ ([.dram, .drawn, .tide, .withy, .tus, .slu, .mq, .aq, .dyke] : List Part)) (alarmRegs ++ haltRegs ++
    ([.fld .TIDE_STATUS_STATE, .fld .TIDE_CELL_PERIOD_PERIOD, .fld .WTH_SPN_CTRL_SRC, .fld .WTH_SPN_CTRL_RUN,
    .fld .WTH_SPN_STATUS_STATE, .fld .WTH_SPN_STATUS_ATTEMPT, .fld .WTH_SPN_STATUS_AT_SPEED, .fld .WTH_SPN_STATUS_SPD95,
    .fld .WTH_SPN_STATUS_SPD90, .fld .WTH_SPN_STATUS_DIR_REV, .fld .WTH_SPN_STATUS_FW_ACTIVE,
    .fld .WTH_SPN_STATUS_FW_SAT] : List Regs) ++ ([.fld .WTH_SPN_STATUS_STOP_BLOCKED, .fld .WTH_SPN_SPEED_SPEED,
    .fld .WTH_SPN_MEAS_TRACK, .fld .WTH_SPN_CUR_IRUN, .fld .WTH_SPN_FOC_ID, .fld .WTH_SPN_FOC_MI,
    .arr (.WTH_VCM_CTRL_EN 0) 0x4 4, .arr (.WTH_VCM_STATUS_RET_ACTIVE 0) 0x4 4, .arr (.WTH_VCM_STATUS_PARKED 0) 0x4 4,
    .arr (.WTH_VCM_STATUS_ENABLED 0) 0x4 4, .arr (.WTH_MA_CTRL_HOLD 0) 0x4 8,
    .arr (.WTH_MA_STATUS_VOUT 0) 0x4 8] : List Regs) ++ ([.arr (.TUS_SEC_CTRL_LANE_EN 0) 0x40 4,
    .arr (.TUS_SEC_STATUS_MISS1 0) 0x40 4, .arr (.TUS_SEC_STATUS_MISS0 0) 0x40 4, .fld .TUS_SPN_PROF_RACC,
    .fld .TUS_SPN_PROF_RATE, .fld .TUS_SEEK_GLOBAL_ASCALE, .arr (.TUS_SEEK_STATUS_SEEKING 0) 0x20 4,
    .arr (.TUS_SEEK_STATUS_HINT_ACTIVE 0) 0x20 4, .arr (.TUS_SEEK_STATUS_SETTLED 0) 0x20 4, .arr (.MBX_DONE_DONE 0) 0x4 2,
    .grid (.MBX_RSP_DATA 0 0) 0x400 64 0x4 64, .arr (.MBX_STAT_CANCEL_REQ 0) 0x400 64] : List Regs) ++
    ([.arr (.MBX_STAT_STARTED 0) 0x400 64, .arr (.MBX_STAT_STATE 0) 0x400 64, .arr (.MBX_LATCH_RSP_STATUS 0) 0x400 64,
    .arr (.MWQ_STATUS_BLOCKED 0) 0x20 16, .arr (.MWQ_STATUS_OUTST 0) 0x20 16, .arr (.MWC_PI_PASS 0) 0x20 4,
    .arr (.MWC_PI_PI 0) 0x20 4, .arr (.MWC_STATUS_SCAN_STOP 0) 0x20 4, .arr (.MWC_STATUS_SPILL_CNT 0) 0x20 4,
    .fld .MWQ_SYS_STATUS_FLUSH, .fld .MWQ_SYS_STATUS_CAL, .fld .SLU_STATUS_LED_FREE] : List Regs) ++
    ([.arr (.SLU_SEC_FREE_FREE 0) 0x4 4, .arr (.SLU_SEC_RUN_RUN 0) 0x4 4, .arr (.SLU_CRED_USED_USED 0) 0x4 32,
    .fld .DYKE_SLOT_INACTIVE, .fld .MBX_START_RESULT, .fld .MBX_START_FAILED, .fld .MBX_START_LOADED] : List Regs)) s t)) ∧
  (∀ (s : State) (p : Nat) (lock : Option Nat) (stalls : Nat), s.Runs p 0x0601 → (s.aq.runs.at p).phase = 4 →
    s.psSpun (s.req p 16 1) = true → Completes (.powerStateSet p lock stalls) s (fun t => ((t.aq.runs.at p).phase = 5 ∧
    t.aq.restore = none ∧ t.mbx p = 2) ∧ Frame (alarmParts ++ ([.dram, .drawn, .tide, .withy, .tus, .slu, .mq, .aq,
    .dyke] : List Part)) (alarmRegs ++ haltRegs ++ ([.fld .TIDE_STATUS_STATE, .fld .TIDE_CELL_PERIOD_PERIOD,
    .fld .WTH_SPN_CTRL_SRC, .fld .WTH_SPN_CTRL_RUN, .fld .WTH_SPN_STATUS_STATE, .fld .WTH_SPN_STATUS_ATTEMPT,
    .fld .WTH_SPN_STATUS_AT_SPEED, .fld .WTH_SPN_STATUS_SPD95, .fld .WTH_SPN_STATUS_SPD90, .fld .WTH_SPN_STATUS_DIR_REV,
    .fld .WTH_SPN_STATUS_FW_ACTIVE, .fld .WTH_SPN_STATUS_FW_SAT] : List Regs) ++ ([.fld .WTH_SPN_STATUS_STOP_BLOCKED,
    .fld .WTH_SPN_SPEED_SPEED, .fld .WTH_SPN_MEAS_TRACK, .fld .WTH_SPN_CUR_IRUN, .fld .WTH_SPN_FOC_ID, .fld .WTH_SPN_FOC_MI,
    .arr (.WTH_VCM_CTRL_EN 0) 0x4 4, .arr (.WTH_VCM_STATUS_RET_ACTIVE 0) 0x4 4, .arr (.WTH_VCM_STATUS_PARKED 0) 0x4 4,
    .arr (.WTH_VCM_STATUS_ENABLED 0) 0x4 4, .arr (.WTH_MA_CTRL_HOLD 0) 0x4 8,
    .arr (.WTH_MA_STATUS_VOUT 0) 0x4 8] : List Regs) ++ ([.arr (.TUS_SEC_CTRL_LANE_EN 0) 0x40 4,
    .arr (.TUS_SEC_STATUS_MISS1 0) 0x40 4, .arr (.TUS_SEC_STATUS_MISS0 0) 0x40 4, .fld .TUS_SPN_PROF_RACC,
    .fld .TUS_SPN_PROF_RATE, .fld .TUS_SEEK_GLOBAL_ASCALE, .arr (.TUS_SEEK_STATUS_SEEKING 0) 0x20 4,
    .arr (.TUS_SEEK_STATUS_HINT_ACTIVE 0) 0x20 4, .arr (.TUS_SEEK_STATUS_SETTLED 0) 0x20 4, .arr (.MBX_DONE_DONE 0) 0x4 2,
    .grid (.MBX_RSP_DATA 0 0) 0x400 64 0x4 64, .arr (.MBX_STAT_CANCEL_REQ 0) 0x400 64] : List Regs) ++
    ([.arr (.MBX_STAT_STARTED 0) 0x400 64, .arr (.MBX_STAT_STATE 0) 0x400 64, .arr (.MBX_LATCH_RSP_STATUS 0) 0x400 64,
    .arr (.MWQ_STATUS_BLOCKED 0) 0x20 16, .arr (.MWQ_STATUS_OUTST 0) 0x20 16, .arr (.MWC_PI_PASS 0) 0x20 4,
    .arr (.MWC_PI_PI 0) 0x20 4, .arr (.MWC_STATUS_SCAN_STOP 0) 0x20 4, .arr (.MWC_STATUS_SPILL_CNT 0) 0x20 4,
    .fld .MWQ_SYS_STATUS_FLUSH, .fld .MWQ_SYS_STATUS_CAL, .fld .SLU_STATUS_LED_FREE] : List Regs) ++
    ([.arr (.SLU_SEC_FREE_FREE 0) 0x4 4, .arr (.SLU_SEC_RUN_RUN 0) 0x4 4, .arr (.SLU_CRED_USED_USED 0) 0x4 32,
    .fld .DYKE_SLOT_INACTIVE, .fld .MBX_START_RESULT, .fld .MBX_START_FAILED, .fld .MBX_START_LOADED] : List Regs)) s t)) ∧
  (∀ (s : State) (p : Nat) (lock : Option Nat) (stalls : Nat), s.Runs p 0x0601 → (s.aq.runs.at p).phase = 5 →
    s.cancelAsked p = false → ((s.req p 16 1 = 2 ∨ s.req p 16 1 = 4) ∨ s.spindleReady = true) →
    Completes (.powerStateSet p lock stalls) s (fun t => ((t.aq.runs.at p).phase = (if (s.req p 16 1 = 2 ∨ s.req p 16 1 = 4) then 7 else 6) ∧
    (¬ (s.req p 16 1 = 2 ∨ s.req p 16 1 = 4) →
    (t.aq.runs.at p).todo = maskOf ((List.range 4).filter (fun k => s.parkedSec k && s.loadable k))) ∧ t.mbx p = 2) ∧
    Frame (alarmParts ++ ([.dram, .drawn, .tide, .withy, .tus, .slu, .mq, .aq, .dyke] : List Part)) (alarmRegs ++ haltRegs ++
    ([.fld .TIDE_STATUS_STATE, .fld .TIDE_CELL_PERIOD_PERIOD, .fld .WTH_SPN_CTRL_SRC, .fld .WTH_SPN_CTRL_RUN,
    .fld .WTH_SPN_STATUS_STATE, .fld .WTH_SPN_STATUS_ATTEMPT, .fld .WTH_SPN_STATUS_AT_SPEED, .fld .WTH_SPN_STATUS_SPD95,
    .fld .WTH_SPN_STATUS_SPD90, .fld .WTH_SPN_STATUS_DIR_REV, .fld .WTH_SPN_STATUS_FW_ACTIVE,
    .fld .WTH_SPN_STATUS_FW_SAT] : List Regs) ++ ([.fld .WTH_SPN_STATUS_STOP_BLOCKED, .fld .WTH_SPN_SPEED_SPEED,
    .fld .WTH_SPN_MEAS_TRACK, .fld .WTH_SPN_CUR_IRUN, .fld .WTH_SPN_FOC_ID, .fld .WTH_SPN_FOC_MI,
    .arr (.WTH_VCM_CTRL_EN 0) 0x4 4, .arr (.WTH_VCM_STATUS_RET_ACTIVE 0) 0x4 4, .arr (.WTH_VCM_STATUS_PARKED 0) 0x4 4,
    .arr (.WTH_VCM_STATUS_ENABLED 0) 0x4 4, .arr (.WTH_MA_CTRL_HOLD 0) 0x4 8,
    .arr (.WTH_MA_STATUS_VOUT 0) 0x4 8] : List Regs) ++ ([.arr (.TUS_SEC_CTRL_LANE_EN 0) 0x40 4,
    .arr (.TUS_SEC_STATUS_MISS1 0) 0x40 4, .arr (.TUS_SEC_STATUS_MISS0 0) 0x40 4, .fld .TUS_SPN_PROF_RACC,
    .fld .TUS_SPN_PROF_RATE, .fld .TUS_SEEK_GLOBAL_ASCALE, .arr (.TUS_SEEK_STATUS_SEEKING 0) 0x20 4,
    .arr (.TUS_SEEK_STATUS_HINT_ACTIVE 0) 0x20 4, .arr (.TUS_SEEK_STATUS_SETTLED 0) 0x20 4, .arr (.MBX_DONE_DONE 0) 0x4 2,
    .grid (.MBX_RSP_DATA 0 0) 0x400 64 0x4 64, .arr (.MBX_STAT_CANCEL_REQ 0) 0x400 64] : List Regs) ++
    ([.arr (.MBX_STAT_STARTED 0) 0x400 64, .arr (.MBX_STAT_STATE 0) 0x400 64, .arr (.MBX_LATCH_RSP_STATUS 0) 0x400 64,
    .arr (.MWQ_STATUS_BLOCKED 0) 0x20 16, .arr (.MWQ_STATUS_OUTST 0) 0x20 16, .arr (.MWC_PI_PASS 0) 0x20 4,
    .arr (.MWC_PI_PI 0) 0x20 4, .arr (.MWC_STATUS_SCAN_STOP 0) 0x20 4, .arr (.MWC_STATUS_SPILL_CNT 0) 0x20 4,
    .fld .MWQ_SYS_STATUS_FLUSH, .fld .MWQ_SYS_STATUS_CAL, .fld .SLU_STATUS_LED_FREE] : List Regs) ++
    ([.arr (.SLU_SEC_FREE_FREE 0) 0x4 4, .arr (.SLU_SEC_RUN_RUN 0) 0x4 4, .arr (.SLU_CRED_USED_USED 0) 0x4 32,
    .fld .DYKE_SLOT_INACTIVE, .fld .MBX_START_RESULT, .fld .MBX_START_FAILED, .fld .MBX_START_LOADED] : List Regs)) s t)) ∧
  (∀ (s : State) (p : Nat) (lock : Option Nat) (stalls : Nat), s.Runs p 0x0601 → (s.aq.runs.at p).phase = 6 →
    (s.aq.runs.at p).cur = none → (s.aq.runs.at p).todo = 0 → (s.aq.runs.at p).bad = 0 →
    Completes (.powerStateSet p lock stalls) s (fun t => ((t.aq.runs.at p).phase = 7 ∧ t.mbx p = 2) ∧ Frame (alarmParts ++
    ([.dram, .drawn, .tide, .withy, .tus, .slu, .mq, .aq, .dyke] : List Part)) (alarmRegs ++ haltRegs ++
    ([.fld .TIDE_STATUS_STATE, .fld .TIDE_CELL_PERIOD_PERIOD, .fld .WTH_SPN_CTRL_SRC, .fld .WTH_SPN_CTRL_RUN,
    .fld .WTH_SPN_STATUS_STATE, .fld .WTH_SPN_STATUS_ATTEMPT, .fld .WTH_SPN_STATUS_AT_SPEED, .fld .WTH_SPN_STATUS_SPD95,
    .fld .WTH_SPN_STATUS_SPD90, .fld .WTH_SPN_STATUS_DIR_REV, .fld .WTH_SPN_STATUS_FW_ACTIVE,
    .fld .WTH_SPN_STATUS_FW_SAT] : List Regs) ++ ([.fld .WTH_SPN_STATUS_STOP_BLOCKED, .fld .WTH_SPN_SPEED_SPEED,
    .fld .WTH_SPN_MEAS_TRACK, .fld .WTH_SPN_CUR_IRUN, .fld .WTH_SPN_FOC_ID, .fld .WTH_SPN_FOC_MI,
    .arr (.WTH_VCM_CTRL_EN 0) 0x4 4, .arr (.WTH_VCM_STATUS_RET_ACTIVE 0) 0x4 4, .arr (.WTH_VCM_STATUS_PARKED 0) 0x4 4,
    .arr (.WTH_VCM_STATUS_ENABLED 0) 0x4 4, .arr (.WTH_MA_CTRL_HOLD 0) 0x4 8,
    .arr (.WTH_MA_STATUS_VOUT 0) 0x4 8] : List Regs) ++ ([.arr (.TUS_SEC_CTRL_LANE_EN 0) 0x40 4,
    .arr (.TUS_SEC_STATUS_MISS1 0) 0x40 4, .arr (.TUS_SEC_STATUS_MISS0 0) 0x40 4, .fld .TUS_SPN_PROF_RACC,
    .fld .TUS_SPN_PROF_RATE, .fld .TUS_SEEK_GLOBAL_ASCALE, .arr (.TUS_SEEK_STATUS_SEEKING 0) 0x20 4,
    .arr (.TUS_SEEK_STATUS_HINT_ACTIVE 0) 0x20 4, .arr (.TUS_SEEK_STATUS_SETTLED 0) 0x20 4, .arr (.MBX_DONE_DONE 0) 0x4 2,
    .grid (.MBX_RSP_DATA 0 0) 0x400 64 0x4 64, .arr (.MBX_STAT_CANCEL_REQ 0) 0x400 64] : List Regs) ++
    ([.arr (.MBX_STAT_STARTED 0) 0x400 64, .arr (.MBX_STAT_STATE 0) 0x400 64, .arr (.MBX_LATCH_RSP_STATUS 0) 0x400 64,
    .arr (.MWQ_STATUS_BLOCKED 0) 0x20 16, .arr (.MWQ_STATUS_OUTST 0) 0x20 16, .arr (.MWC_PI_PASS 0) 0x20 4,
    .arr (.MWC_PI_PI 0) 0x20 4, .arr (.MWC_STATUS_SCAN_STOP 0) 0x20 4, .arr (.MWC_STATUS_SPILL_CNT 0) 0x20 4,
    .fld .MWQ_SYS_STATUS_FLUSH, .fld .MWQ_SYS_STATUS_CAL, .fld .SLU_STATUS_LED_FREE] : List Regs) ++
    ([.arr (.SLU_SEC_FREE_FREE 0) 0x4 4, .arr (.SLU_SEC_RUN_RUN 0) 0x4 4, .arr (.SLU_CRED_USED_USED 0) 0x4 32,
    .fld .DYKE_SLOT_INACTIVE, .fld .MBX_START_RESULT, .fld .MBX_START_FAILED, .fld .MBX_START_LOADED] : List Regs)) s t)) ∧
  (∀ (s : State) (p : Nat) (lock : Option Nat) (stalls : Nat), s.Runs p 0x0601 → (s.aq.runs.at p).phase = 6 →
    (s.aq.runs.at p).cur = none → (s.aq.runs.at p).todo = 0 → (s.aq.runs.at p).bad ≠ 0 →
    Completes (.powerStateSet p lock stalls) s (fun t => ((∃ out, Answered s t p 0x0105 true out)) ∧ Frame (alarmParts ++
    ([.dram, .drawn, .tide, .withy, .tus, .slu, .mq, .aq, .dyke] : List Part)) (alarmRegs ++ haltRegs ++
    ([.fld .TIDE_STATUS_STATE, .fld .TIDE_CELL_PERIOD_PERIOD, .fld .WTH_SPN_CTRL_SRC, .fld .WTH_SPN_CTRL_RUN,
    .fld .WTH_SPN_STATUS_STATE, .fld .WTH_SPN_STATUS_ATTEMPT, .fld .WTH_SPN_STATUS_AT_SPEED, .fld .WTH_SPN_STATUS_SPD95,
    .fld .WTH_SPN_STATUS_SPD90, .fld .WTH_SPN_STATUS_DIR_REV, .fld .WTH_SPN_STATUS_FW_ACTIVE,
    .fld .WTH_SPN_STATUS_FW_SAT] : List Regs) ++ ([.fld .WTH_SPN_STATUS_STOP_BLOCKED, .fld .WTH_SPN_SPEED_SPEED,
    .fld .WTH_SPN_MEAS_TRACK, .fld .WTH_SPN_CUR_IRUN, .fld .WTH_SPN_FOC_ID, .fld .WTH_SPN_FOC_MI,
    .arr (.WTH_VCM_CTRL_EN 0) 0x4 4, .arr (.WTH_VCM_STATUS_RET_ACTIVE 0) 0x4 4, .arr (.WTH_VCM_STATUS_PARKED 0) 0x4 4,
    .arr (.WTH_VCM_STATUS_ENABLED 0) 0x4 4, .arr (.WTH_MA_CTRL_HOLD 0) 0x4 8,
    .arr (.WTH_MA_STATUS_VOUT 0) 0x4 8] : List Regs) ++ ([.arr (.TUS_SEC_CTRL_LANE_EN 0) 0x40 4,
    .arr (.TUS_SEC_STATUS_MISS1 0) 0x40 4, .arr (.TUS_SEC_STATUS_MISS0 0) 0x40 4, .fld .TUS_SPN_PROF_RACC,
    .fld .TUS_SPN_PROF_RATE, .fld .TUS_SEEK_GLOBAL_ASCALE, .arr (.TUS_SEEK_STATUS_SEEKING 0) 0x20 4,
    .arr (.TUS_SEEK_STATUS_HINT_ACTIVE 0) 0x20 4, .arr (.TUS_SEEK_STATUS_SETTLED 0) 0x20 4, .arr (.MBX_DONE_DONE 0) 0x4 2,
    .grid (.MBX_RSP_DATA 0 0) 0x400 64 0x4 64, .arr (.MBX_STAT_CANCEL_REQ 0) 0x400 64] : List Regs) ++
    ([.arr (.MBX_STAT_STARTED 0) 0x400 64, .arr (.MBX_STAT_STATE 0) 0x400 64, .arr (.MBX_LATCH_RSP_STATUS 0) 0x400 64,
    .arr (.MWQ_STATUS_BLOCKED 0) 0x20 16, .arr (.MWQ_STATUS_OUTST 0) 0x20 16, .arr (.MWC_PI_PASS 0) 0x20 4,
    .arr (.MWC_PI_PI 0) 0x20 4, .arr (.MWC_STATUS_SCAN_STOP 0) 0x20 4, .arr (.MWC_STATUS_SPILL_CNT 0) 0x20 4,
    .fld .MWQ_SYS_STATUS_FLUSH, .fld .MWQ_SYS_STATUS_CAL, .fld .SLU_STATUS_LED_FREE] : List Regs) ++
    ([.arr (.SLU_SEC_FREE_FREE 0) 0x4 4, .arr (.SLU_SEC_RUN_RUN 0) 0x4 4, .arr (.SLU_CRED_USED_USED 0) 0x4 32,
    .fld .DYKE_SLOT_INACTIVE, .fld .MBX_START_RESULT, .fld .MBX_START_FAILED, .fld .MBX_START_LOADED] : List Regs)) s t)) ∧
  (∀ (s : State) (p : Nat) (lock : Option Nat) (stalls : Nat), s.Runs p 0x0601 → (s.aq.runs.at p).phase = 7 →
    s.cancelAsked p = false →
    Completes (.powerStateSet p lock stalls) s (fun t => (Answered s t p 0 true (leBytes 4 (s.req p 16 1)) ∧
    t.aq.ps = s.req p 16 1 ∧ (s.req p 16 1 ≤ 2 → t.get .WTH_SPN_CTRL_SRC = s.aq.src % 2)) ∧ Frame (alarmParts ++ ([.dram,
    .drawn, .tide, .withy, .tus, .slu, .mq, .aq, .dyke] : List Part)) (alarmRegs ++ haltRegs ++ ([.fld .TIDE_STATUS_STATE,
    .fld .TIDE_CELL_PERIOD_PERIOD, .fld .WTH_SPN_CTRL_SRC, .fld .WTH_SPN_CTRL_RUN, .fld .WTH_SPN_STATUS_STATE,
    .fld .WTH_SPN_STATUS_ATTEMPT, .fld .WTH_SPN_STATUS_AT_SPEED, .fld .WTH_SPN_STATUS_SPD95, .fld .WTH_SPN_STATUS_SPD90,
    .fld .WTH_SPN_STATUS_DIR_REV, .fld .WTH_SPN_STATUS_FW_ACTIVE, .fld .WTH_SPN_STATUS_FW_SAT] : List Regs) ++
    ([.fld .WTH_SPN_STATUS_STOP_BLOCKED, .fld .WTH_SPN_SPEED_SPEED, .fld .WTH_SPN_MEAS_TRACK, .fld .WTH_SPN_CUR_IRUN,
    .fld .WTH_SPN_FOC_ID, .fld .WTH_SPN_FOC_MI, .arr (.WTH_VCM_CTRL_EN 0) 0x4 4, .arr (.WTH_VCM_STATUS_RET_ACTIVE 0) 0x4 4,
    .arr (.WTH_VCM_STATUS_PARKED 0) 0x4 4, .arr (.WTH_VCM_STATUS_ENABLED 0) 0x4 4, .arr (.WTH_MA_CTRL_HOLD 0) 0x4 8,
    .arr (.WTH_MA_STATUS_VOUT 0) 0x4 8] : List Regs) ++ ([.arr (.TUS_SEC_CTRL_LANE_EN 0) 0x40 4,
    .arr (.TUS_SEC_STATUS_MISS1 0) 0x40 4, .arr (.TUS_SEC_STATUS_MISS0 0) 0x40 4, .fld .TUS_SPN_PROF_RACC,
    .fld .TUS_SPN_PROF_RATE, .fld .TUS_SEEK_GLOBAL_ASCALE, .arr (.TUS_SEEK_STATUS_SEEKING 0) 0x20 4,
    .arr (.TUS_SEEK_STATUS_HINT_ACTIVE 0) 0x20 4, .arr (.TUS_SEEK_STATUS_SETTLED 0) 0x20 4, .arr (.MBX_DONE_DONE 0) 0x4 2,
    .grid (.MBX_RSP_DATA 0 0) 0x400 64 0x4 64, .arr (.MBX_STAT_CANCEL_REQ 0) 0x400 64] : List Regs) ++
    ([.arr (.MBX_STAT_STARTED 0) 0x400 64, .arr (.MBX_STAT_STATE 0) 0x400 64, .arr (.MBX_LATCH_RSP_STATUS 0) 0x400 64,
    .arr (.MWQ_STATUS_BLOCKED 0) 0x20 16, .arr (.MWQ_STATUS_OUTST 0) 0x20 16, .arr (.MWC_PI_PASS 0) 0x20 4,
    .arr (.MWC_PI_PI 0) 0x20 4, .arr (.MWC_STATUS_SCAN_STOP 0) 0x20 4, .arr (.MWC_STATUS_SPILL_CNT 0) 0x20 4,
    .fld .MWQ_SYS_STATUS_FLUSH, .fld .MWQ_SYS_STATUS_CAL, .fld .SLU_STATUS_LED_FREE] : List Regs) ++
    ([.arr (.SLU_SEC_FREE_FREE 0) 0x4 4, .arr (.SLU_SEC_RUN_RUN 0) 0x4 4, .arr (.SLU_CRED_USED_USED 0) 0x4 32,
    .fld .DYKE_SLOT_INACTIVE, .fld .MBX_START_RESULT, .fld .MBX_START_FAILED, .fld .MBX_START_LOADED] : List Regs)) s t)) ∧
  (∀ (s : State) (p : Nat) (lock : Option Nat) (stalls : Nat), s.Runs p 0x0601 → (s.aq.runs.at p).phase = 1 →
    s.cancelAsked p = true →
    Completes (.powerStateSet p lock stalls) s (fun t => (Answered s t p 0x40 true (leBytes 4 s.psReached) ∧
    t.aq.ps = s.psReached) ∧ Frame (alarmParts ++ ([.dram, .drawn, .tide, .withy, .tus, .slu, .mq, .aq,
    .dyke] : List Part)) (alarmRegs ++ haltRegs ++ ([.fld .TIDE_STATUS_STATE, .fld .TIDE_CELL_PERIOD_PERIOD,
    .fld .WTH_SPN_CTRL_SRC, .fld .WTH_SPN_CTRL_RUN, .fld .WTH_SPN_STATUS_STATE, .fld .WTH_SPN_STATUS_ATTEMPT,
    .fld .WTH_SPN_STATUS_AT_SPEED, .fld .WTH_SPN_STATUS_SPD95, .fld .WTH_SPN_STATUS_SPD90, .fld .WTH_SPN_STATUS_DIR_REV,
    .fld .WTH_SPN_STATUS_FW_ACTIVE, .fld .WTH_SPN_STATUS_FW_SAT] : List Regs) ++ ([.fld .WTH_SPN_STATUS_STOP_BLOCKED,
    .fld .WTH_SPN_SPEED_SPEED, .fld .WTH_SPN_MEAS_TRACK, .fld .WTH_SPN_CUR_IRUN, .fld .WTH_SPN_FOC_ID, .fld .WTH_SPN_FOC_MI,
    .arr (.WTH_VCM_CTRL_EN 0) 0x4 4, .arr (.WTH_VCM_STATUS_RET_ACTIVE 0) 0x4 4, .arr (.WTH_VCM_STATUS_PARKED 0) 0x4 4,
    .arr (.WTH_VCM_STATUS_ENABLED 0) 0x4 4, .arr (.WTH_MA_CTRL_HOLD 0) 0x4 8,
    .arr (.WTH_MA_STATUS_VOUT 0) 0x4 8] : List Regs) ++ ([.arr (.TUS_SEC_CTRL_LANE_EN 0) 0x40 4,
    .arr (.TUS_SEC_STATUS_MISS1 0) 0x40 4, .arr (.TUS_SEC_STATUS_MISS0 0) 0x40 4, .fld .TUS_SPN_PROF_RACC,
    .fld .TUS_SPN_PROF_RATE, .fld .TUS_SEEK_GLOBAL_ASCALE, .arr (.TUS_SEEK_STATUS_SEEKING 0) 0x20 4,
    .arr (.TUS_SEEK_STATUS_HINT_ACTIVE 0) 0x20 4, .arr (.TUS_SEEK_STATUS_SETTLED 0) 0x20 4, .arr (.MBX_DONE_DONE 0) 0x4 2,
    .grid (.MBX_RSP_DATA 0 0) 0x400 64 0x4 64, .arr (.MBX_STAT_CANCEL_REQ 0) 0x400 64] : List Regs) ++
    ([.arr (.MBX_STAT_STARTED 0) 0x400 64, .arr (.MBX_STAT_STATE 0) 0x400 64, .arr (.MBX_LATCH_RSP_STATUS 0) 0x400 64,
    .arr (.MWQ_STATUS_BLOCKED 0) 0x20 16, .arr (.MWQ_STATUS_OUTST 0) 0x20 16, .arr (.MWC_PI_PASS 0) 0x20 4,
    .arr (.MWC_PI_PI 0) 0x20 4, .arr (.MWC_STATUS_SCAN_STOP 0) 0x20 4, .arr (.MWC_STATUS_SPILL_CNT 0) 0x20 4,
    .fld .MWQ_SYS_STATUS_FLUSH, .fld .MWQ_SYS_STATUS_CAL, .fld .SLU_STATUS_LED_FREE] : List Regs) ++
    ([.arr (.SLU_SEC_FREE_FREE 0) 0x4 4, .arr (.SLU_SEC_RUN_RUN 0) 0x4 4, .arr (.SLU_CRED_USED_USED 0) 0x4 32,
    .fld .DYKE_SLOT_INACTIVE, .fld .MBX_START_RESULT, .fld .MBX_START_FAILED, .fld .MBX_START_LOADED] : List Regs)) s t)) ∧
  (∀ (s : State) (p : Nat) (lock : Option Nat) (stalls : Nat), s.Runs p 0x0601 → (s.aq.runs.at p).phase = 3 →
    s.cancelAsked p = true →
    Completes (.powerStateSet p lock stalls) s (fun t => (Answered s t p 0x40 true (leBytes 4 s.psReached) ∧
    t.aq.ps = s.psReached) ∧ Frame (alarmParts ++ ([.dram, .drawn, .tide, .withy, .tus, .slu, .mq, .aq,
    .dyke] : List Part)) (alarmRegs ++ haltRegs ++ ([.fld .TIDE_STATUS_STATE, .fld .TIDE_CELL_PERIOD_PERIOD,
    .fld .WTH_SPN_CTRL_SRC, .fld .WTH_SPN_CTRL_RUN, .fld .WTH_SPN_STATUS_STATE, .fld .WTH_SPN_STATUS_ATTEMPT,
    .fld .WTH_SPN_STATUS_AT_SPEED, .fld .WTH_SPN_STATUS_SPD95, .fld .WTH_SPN_STATUS_SPD90, .fld .WTH_SPN_STATUS_DIR_REV,
    .fld .WTH_SPN_STATUS_FW_ACTIVE, .fld .WTH_SPN_STATUS_FW_SAT] : List Regs) ++ ([.fld .WTH_SPN_STATUS_STOP_BLOCKED,
    .fld .WTH_SPN_SPEED_SPEED, .fld .WTH_SPN_MEAS_TRACK, .fld .WTH_SPN_CUR_IRUN, .fld .WTH_SPN_FOC_ID, .fld .WTH_SPN_FOC_MI,
    .arr (.WTH_VCM_CTRL_EN 0) 0x4 4, .arr (.WTH_VCM_STATUS_RET_ACTIVE 0) 0x4 4, .arr (.WTH_VCM_STATUS_PARKED 0) 0x4 4,
    .arr (.WTH_VCM_STATUS_ENABLED 0) 0x4 4, .arr (.WTH_MA_CTRL_HOLD 0) 0x4 8,
    .arr (.WTH_MA_STATUS_VOUT 0) 0x4 8] : List Regs) ++ ([.arr (.TUS_SEC_CTRL_LANE_EN 0) 0x40 4,
    .arr (.TUS_SEC_STATUS_MISS1 0) 0x40 4, .arr (.TUS_SEC_STATUS_MISS0 0) 0x40 4, .fld .TUS_SPN_PROF_RACC,
    .fld .TUS_SPN_PROF_RATE, .fld .TUS_SEEK_GLOBAL_ASCALE, .arr (.TUS_SEEK_STATUS_SEEKING 0) 0x20 4,
    .arr (.TUS_SEEK_STATUS_HINT_ACTIVE 0) 0x20 4, .arr (.TUS_SEEK_STATUS_SETTLED 0) 0x20 4, .arr (.MBX_DONE_DONE 0) 0x4 2,
    .grid (.MBX_RSP_DATA 0 0) 0x400 64 0x4 64, .arr (.MBX_STAT_CANCEL_REQ 0) 0x400 64] : List Regs) ++
    ([.arr (.MBX_STAT_STARTED 0) 0x400 64, .arr (.MBX_STAT_STATE 0) 0x400 64, .arr (.MBX_LATCH_RSP_STATUS 0) 0x400 64,
    .arr (.MWQ_STATUS_BLOCKED 0) 0x20 16, .arr (.MWQ_STATUS_OUTST 0) 0x20 16, .arr (.MWC_PI_PASS 0) 0x20 4,
    .arr (.MWC_PI_PI 0) 0x20 4, .arr (.MWC_STATUS_SCAN_STOP 0) 0x20 4, .arr (.MWC_STATUS_SPILL_CNT 0) 0x20 4,
    .fld .MWQ_SYS_STATUS_FLUSH, .fld .MWQ_SYS_STATUS_CAL, .fld .SLU_STATUS_LED_FREE] : List Regs) ++
    ([.arr (.SLU_SEC_FREE_FREE 0) 0x4 4, .arr (.SLU_SEC_RUN_RUN 0) 0x4 4, .arr (.SLU_CRED_USED_USED 0) 0x4 32,
    .fld .DYKE_SLOT_INACTIVE, .fld .MBX_START_RESULT, .fld .MBX_START_FAILED, .fld .MBX_START_LOADED] : List Regs)) s t)) ∧
  (∀ (s : State) (p : Nat) (lock : Option Nat) (stalls : Nat), s.Runs p 0x0601 → (s.aq.runs.at p).phase = 5 →
    s.cancelAsked p = true →
    Completes (.powerStateSet p lock stalls) s (fun t => (Answered s t p 0x40 true (leBytes 4 s.psReached) ∧
    t.aq.ps = s.psReached) ∧ Frame (alarmParts ++ ([.dram, .drawn, .tide, .withy, .tus, .slu, .mq, .aq,
    .dyke] : List Part)) (alarmRegs ++ haltRegs ++ ([.fld .TIDE_STATUS_STATE, .fld .TIDE_CELL_PERIOD_PERIOD,
    .fld .WTH_SPN_CTRL_SRC, .fld .WTH_SPN_CTRL_RUN, .fld .WTH_SPN_STATUS_STATE, .fld .WTH_SPN_STATUS_ATTEMPT,
    .fld .WTH_SPN_STATUS_AT_SPEED, .fld .WTH_SPN_STATUS_SPD95, .fld .WTH_SPN_STATUS_SPD90, .fld .WTH_SPN_STATUS_DIR_REV,
    .fld .WTH_SPN_STATUS_FW_ACTIVE, .fld .WTH_SPN_STATUS_FW_SAT] : List Regs) ++ ([.fld .WTH_SPN_STATUS_STOP_BLOCKED,
    .fld .WTH_SPN_SPEED_SPEED, .fld .WTH_SPN_MEAS_TRACK, .fld .WTH_SPN_CUR_IRUN, .fld .WTH_SPN_FOC_ID, .fld .WTH_SPN_FOC_MI,
    .arr (.WTH_VCM_CTRL_EN 0) 0x4 4, .arr (.WTH_VCM_STATUS_RET_ACTIVE 0) 0x4 4, .arr (.WTH_VCM_STATUS_PARKED 0) 0x4 4,
    .arr (.WTH_VCM_STATUS_ENABLED 0) 0x4 4, .arr (.WTH_MA_CTRL_HOLD 0) 0x4 8,
    .arr (.WTH_MA_STATUS_VOUT 0) 0x4 8] : List Regs) ++ ([.arr (.TUS_SEC_CTRL_LANE_EN 0) 0x40 4,
    .arr (.TUS_SEC_STATUS_MISS1 0) 0x40 4, .arr (.TUS_SEC_STATUS_MISS0 0) 0x40 4, .fld .TUS_SPN_PROF_RACC,
    .fld .TUS_SPN_PROF_RATE, .fld .TUS_SEEK_GLOBAL_ASCALE, .arr (.TUS_SEEK_STATUS_SEEKING 0) 0x20 4,
    .arr (.TUS_SEEK_STATUS_HINT_ACTIVE 0) 0x20 4, .arr (.TUS_SEEK_STATUS_SETTLED 0) 0x20 4, .arr (.MBX_DONE_DONE 0) 0x4 2,
    .grid (.MBX_RSP_DATA 0 0) 0x400 64 0x4 64, .arr (.MBX_STAT_CANCEL_REQ 0) 0x400 64] : List Regs) ++
    ([.arr (.MBX_STAT_STARTED 0) 0x400 64, .arr (.MBX_STAT_STATE 0) 0x400 64, .arr (.MBX_LATCH_RSP_STATUS 0) 0x400 64,
    .arr (.MWQ_STATUS_BLOCKED 0) 0x20 16, .arr (.MWQ_STATUS_OUTST 0) 0x20 16, .arr (.MWC_PI_PASS 0) 0x20 4,
    .arr (.MWC_PI_PI 0) 0x20 4, .arr (.MWC_STATUS_SCAN_STOP 0) 0x20 4, .arr (.MWC_STATUS_SPILL_CNT 0) 0x20 4,
    .fld .MWQ_SYS_STATUS_FLUSH, .fld .MWQ_SYS_STATUS_CAL, .fld .SLU_STATUS_LED_FREE] : List Regs) ++
    ([.arr (.SLU_SEC_FREE_FREE 0) 0x4 4, .arr (.SLU_SEC_RUN_RUN 0) 0x4 4, .arr (.SLU_CRED_USED_USED 0) 0x4 32,
    .fld .DYKE_SLOT_INACTIVE, .fld .MBX_START_RESULT, .fld .MBX_START_FAILED, .fld .MBX_START_LOADED] : List Regs)) s t)) ∧
  (∀ (s : State) (p : Nat) (lock : Option Nat) (stalls : Nat), s.Runs p 0x0601 → (s.aq.runs.at p).phase = 7 →
    s.cancelAsked p = true →
    Completes (.powerStateSet p lock stalls) s (fun t => (Answered s t p 0x40 true (leBytes 4 s.psReached) ∧
    t.aq.ps = s.psReached) ∧ Frame (alarmParts ++ ([.dram, .drawn, .tide, .withy, .tus, .slu, .mq, .aq,
    .dyke] : List Part)) (alarmRegs ++ haltRegs ++ ([.fld .TIDE_STATUS_STATE, .fld .TIDE_CELL_PERIOD_PERIOD,
    .fld .WTH_SPN_CTRL_SRC, .fld .WTH_SPN_CTRL_RUN, .fld .WTH_SPN_STATUS_STATE, .fld .WTH_SPN_STATUS_ATTEMPT,
    .fld .WTH_SPN_STATUS_AT_SPEED, .fld .WTH_SPN_STATUS_SPD95, .fld .WTH_SPN_STATUS_SPD90, .fld .WTH_SPN_STATUS_DIR_REV,
    .fld .WTH_SPN_STATUS_FW_ACTIVE, .fld .WTH_SPN_STATUS_FW_SAT] : List Regs) ++ ([.fld .WTH_SPN_STATUS_STOP_BLOCKED,
    .fld .WTH_SPN_SPEED_SPEED, .fld .WTH_SPN_MEAS_TRACK, .fld .WTH_SPN_CUR_IRUN, .fld .WTH_SPN_FOC_ID, .fld .WTH_SPN_FOC_MI,
    .arr (.WTH_VCM_CTRL_EN 0) 0x4 4, .arr (.WTH_VCM_STATUS_RET_ACTIVE 0) 0x4 4, .arr (.WTH_VCM_STATUS_PARKED 0) 0x4 4,
    .arr (.WTH_VCM_STATUS_ENABLED 0) 0x4 4, .arr (.WTH_MA_CTRL_HOLD 0) 0x4 8,
    .arr (.WTH_MA_STATUS_VOUT 0) 0x4 8] : List Regs) ++ ([.arr (.TUS_SEC_CTRL_LANE_EN 0) 0x40 4,
    .arr (.TUS_SEC_STATUS_MISS1 0) 0x40 4, .arr (.TUS_SEC_STATUS_MISS0 0) 0x40 4, .fld .TUS_SPN_PROF_RACC,
    .fld .TUS_SPN_PROF_RATE, .fld .TUS_SEEK_GLOBAL_ASCALE, .arr (.TUS_SEEK_STATUS_SEEKING 0) 0x20 4,
    .arr (.TUS_SEEK_STATUS_HINT_ACTIVE 0) 0x20 4, .arr (.TUS_SEEK_STATUS_SETTLED 0) 0x20 4, .arr (.MBX_DONE_DONE 0) 0x4 2,
    .grid (.MBX_RSP_DATA 0 0) 0x400 64 0x4 64, .arr (.MBX_STAT_CANCEL_REQ 0) 0x400 64] : List Regs) ++
    ([.arr (.MBX_STAT_STARTED 0) 0x400 64, .arr (.MBX_STAT_STATE 0) 0x400 64, .arr (.MBX_LATCH_RSP_STATUS 0) 0x400 64,
    .arr (.MWQ_STATUS_BLOCKED 0) 0x20 16, .arr (.MWQ_STATUS_OUTST 0) 0x20 16, .arr (.MWC_PI_PASS 0) 0x20 4,
    .arr (.MWC_PI_PI 0) 0x20 4, .arr (.MWC_STATUS_SCAN_STOP 0) 0x20 4, .arr (.MWC_STATUS_SPILL_CNT 0) 0x20 4,
    .fld .MWQ_SYS_STATUS_FLUSH, .fld .MWQ_SYS_STATUS_CAL, .fld .SLU_STATUS_LED_FREE] : List Regs) ++
    ([.arr (.SLU_SEC_FREE_FREE 0) 0x4 4, .arr (.SLU_SEC_RUN_RUN 0) 0x4 4, .arr (.SLU_CRED_USED_USED 0) 0x4 32,
    .fld .DYKE_SLOT_INACTIVE, .fld .MBX_START_RESULT, .fld .MBX_START_FAILED, .fld .MBX_START_LOADED] : List Regs)) s t)) ∧
  (∀ (s : State) (p : Nat) (tj : Nat), s.Runs p 0x0602 →
    Completes (.powerStatus p tj) s (fun t => (Answered s t p 0 true (leBytes 1 s.aq.ps ++
    leBytes 1 (if s.get .WEIR_STATUS_PF = 1 then 1 else 0) ++
    leBytes 2 (if s.is .WEIR_AON_STATUS_COMMIT_SEEN || s.commitInNor then 2 else s.aq.dip.toNat) ++
    leBytes 2 (s.get .WEIR_MEAS_V12_MV) ++ leBytes 2 (s.get .WEIR_MEAS_V5_MV) ++ leBytes 2 tj ++ leBytes 6 0)) ∧
    Frame [.fenIrq, .aq, .dyke] [.fld .PEAT_STATUS_STAMP_WAIT, .fld .PEAT_STATUS_HELD, .fld .PEAT_STATUS_USED,
    .fld .PEAT_FRZ_AREA, .arr (.MBX_DONE_DONE 0) 0x4 2, .grid (.MBX_RSP_DATA 0 0) 0x400 64 0x4 64,
    .arr (.MBX_STAT_CANCEL_REQ 0) 0x400 64, .arr (.MBX_STAT_STARTED 0) 0x400 64, .arr (.MBX_STAT_STATE 0) 0x400 64,
    .arr (.MBX_LATCH_RSP_STATUS 0) 0x400 64, .fld .DYKE_SLOT_INACTIVE] s t)) ∧
  (∀ (s : State) (p : Nat), s.Runs p 0x0603 → Completes (.fenGate p) s (fun t => (Answered s t p 0 true [] ∧
    t.get (.TIDE_CG_EN_EN 0) = (s.get (.TIDE_CG_EN_EN 0) - s.get (.TIDE_CG_EN_EN 0) % 256 + s.get (.TIDE_CG_EN_EN 0) % 2 + s.req p 16 1 / 2 * 2) % 2 ^ 32) ∧
    Frame [.fenIrq, .aq, .dyke] [.fld .PEAT_STATUS_STAMP_WAIT, .fld .PEAT_STATUS_HELD, .fld .PEAT_STATUS_USED,
    .fld .PEAT_FRZ_AREA, .arr (.TIDE_CG_EN_EN 0) 0x4 4, .arr (.MBX_DONE_DONE 0) 0x4 2,
    .grid (.MBX_RSP_DATA 0 0) 0x400 64 0x4 64, .arr (.MBX_STAT_CANCEL_REQ 0) 0x400 64, .arr (.MBX_STAT_STARTED 0) 0x400 64,
    .arr (.MBX_STAT_STATE 0) 0x400 64, .arr (.MBX_LATCH_RSP_STATUS 0) 0x400 64, .fld .DYKE_SLOT_INACTIVE] s t))

/-- Completion and effects of the commands named, on the states named (after R98, R102, R108, R114, R174, R238, R239, R240,
R439, R501, each in part). -/
def Obligations.TablesAndChannelsAreServed : Prop :=
  (∀ (s : State) (p : Nat), s.Runs p 0x0301 → Completes (.servoReload p) s (fun t => ((s.loadTables.1 = none →
    Answered s t p 0 true (leBytes 2 0xFFFF ++ leBytes 2 0)) ∧ (∀ x, s.loadTables.1 = some x →
    Answered s t p 0x0110 true (leBytes 2 x ++ leBytes 2 0)) ∧ (s.partChanged 5 = false →
    t.get .TUS_CTRL_TABLES_VALID = s.loadTables.1.isNone.toNat) ∧ (s.partChanged 5 = true → t.latched 0x0F03 0 = true)) ∧
    Frame (alarmParts ++ ([.tus, .aq, .dyke] : List Part)) (alarmRegs ++ haltRegs ++ ([.fld .TUS_CTRL_TABLES_VALID,
    .arr (.TUS_SEC_STATUS_REGION_PEND 0) 0x40 4, .arr (.MBX_DONE_DONE 0) 0x4 2, .grid (.MBX_RSP_DATA 0 0) 0x400 64 0x4 64,
    .arr (.MBX_STAT_CANCEL_REQ 0) 0x400 64, .arr (.MBX_STAT_STARTED 0) 0x400 64, .arr (.MBX_STAT_STATE 0) 0x400 64,
    .arr (.MBX_LATCH_RSP_STATUS 0) 0x400 64, .fld .DYKE_SLOT_INACTIVE] : List Regs)) s t)) ∧
  (∀ (s : State) (p : Nat), s.Runs p 0x0302 → Completes (.servoRegionWrite p) s (fun t => (Answered s t p 0 true [] ∧
    (∀ i < s.req p 19 1,
    t.tus.tables.at (s.tableWord (s.req p 16 2) (s.req p 18 1 + i)) = BitVec.ofNat 32 (s.req p (24 + 4 * i) 4))) ∧
    Frame [.fenIrq, .tus, .aq, .dyke] [.fld .PEAT_STATUS_STAMP_WAIT, .fld .PEAT_STATUS_HELD, .fld .PEAT_STATUS_USED,
    .fld .PEAT_FRZ_AREA, .arr (.MBX_DONE_DONE 0) 0x4 2, .grid (.MBX_RSP_DATA 0 0) 0x400 64 0x4 64,
    .arr (.MBX_STAT_CANCEL_REQ 0) 0x400 64, .arr (.MBX_STAT_STARTED 0) 0x400 64, .arr (.MBX_STAT_STATE 0) 0x400 64,
    .arr (.MBX_LATCH_RSP_STATUS 0) 0x400 64, .fld .DYKE_SLOT_INACTIVE] s t)) ∧
  (∀ (s : State) (p : Nat) (k : Nat), s.Runs p 0x0303 → s.req p 16 1 = k →
    Completes (.servoLimits p) s (fun t => (Answered s t p 0 true [] ∧
    t.get (.TUS_SETTLE_SETTLE_CNT k) = s.req p 17 1 % 2 ^ 4 ∧ t.get (.TUS_SETTLE_SETTLE_WIN k) = s.req p 18 2 % 2 ^ 10 ∧
    t.get (.TUS_SETTLE_WINH_THR k) = s.req p 30 2 % 2 ^ 10 ∧ t.get (.TUS_PROF_V_VMAX k) = s.req p 20 4 % 2 ^ 20 ∧
    t.get (.TUS_PROF_A_AMAX k) = s.req p 24 4 % 2 ^ 20 ∧ t.get (.TUS_PROF_J_JMAX k) = s.req p 28 2) ∧ Frame [.fenIrq, .aq,
    .dyke] (([.fld .PEAT_STATUS_STAMP_WAIT, .fld .PEAT_STATUS_HELD, .fld .PEAT_STATUS_USED, .fld .PEAT_FRZ_AREA,
    .arr (.TUS_PROF_V_VMAX 0) 0x20 4, .arr (.TUS_PROF_A_AMAX 0) 0x20 4, .arr (.TUS_PROF_J_JMAX 0) 0x20 4,
    .arr (.TUS_SETTLE_SETTLE_CNT 0) 0x20 4, .arr (.TUS_SETTLE_WINH_THR 0) 0x20 4, .arr (.TUS_SETTLE_SETTLE_WIN 0) 0x20 4,
    .arr (.MBX_DONE_DONE 0) 0x4 2, .grid (.MBX_RSP_DATA 0 0) 0x400 64 0x4 64] : List Regs) ++
    ([.arr (.MBX_STAT_CANCEL_REQ 0) 0x400 64, .arr (.MBX_STAT_STARTED 0) 0x400 64, .arr (.MBX_STAT_STATE 0) 0x400 64,
    .arr (.MBX_LATCH_RSP_STATUS 0) 0x400 64, .fld .DYKE_SLOT_INACTIVE] : List Regs)) s t)) ∧
  (∀ (s : State) (p : Nat), s.Runs p 0x0304 → s.req p 16 1 / 4 = 1 →
    Completes (.servoCoupling p) s (fun t => (Answered s t p 0 true [] ∧ t.get .TUS_XC_EXP_EXP = s.req p 17 1 % 2 ^ 6 ∧
    t.get .TUS_RV_CFG_G01 = s.req p 20 2 ∧ t.get .TUS_RV_CFG_G23 = s.req p 22 2 ∧ (∀ i < 12,
    t.get (.TUS_XC_M (offDiagonal i).1 (offDiagonal i).2) = s.req p (24 + 4 * i) 4 % 2 ^ 18) ∧
    t.get .TUS_STATUS_XC_PENDING = 1 ∧ t.get .TUS_CTRL_XC_EN = s.req p 16 1 % 2 ∧
    t.get .TUS_CTRL_RVFF_EN = s.req p 16 1 / 2 % 2) ∧ Frame [.fenIrq, .aq, .dyke] (([.fld .PEAT_STATUS_STAMP_WAIT,
    .fld .PEAT_STATUS_HELD, .fld .PEAT_STATUS_USED, .fld .PEAT_FRZ_AREA, .fld .TUS_CTRL_RVFF_EN, .fld .TUS_CTRL_XC_EN,
    .fld .TUS_STATUS_XC_PENDING, .fld .TUS_XC_EXP_EXP, .fld .TUS_RV_CFG_G23, .fld .TUS_RV_CFG_G01,
    .grid (.TUS_XC_M 0 0) 0x10 4 0x4 4, .arr (.MBX_DONE_DONE 0) 0x4 2] : List Regs) ++
    ([.grid (.MBX_RSP_DATA 0 0) 0x400 64 0x4 64, .arr (.MBX_STAT_CANCEL_REQ 0) 0x400 64, .arr (.MBX_STAT_STARTED 0) 0x400 64,
    .arr (.MBX_STAT_STATE 0) 0x400 64, .arr (.MBX_LATCH_RSP_STATUS 0) 0x400 64, .fld .DYKE_SLOT_INACTIVE] : List Regs)) s t)) ∧
  (∀ (s : State) (p : Nat), s.Runs p 0x0304 → s.req p 16 1 / 4 = 0 →
    Completes (.servoCoupling p) s (fun t => (Answered s t p 0 true [] ∧ t.get .TUS_XC_EXP_EXP = s.get .TUS_XC_EXP_EXP ∧
    t.get .TUS_RV_CFG_G01 = s.get .TUS_RV_CFG_G01 ∧ t.get .TUS_RV_CFG_G23 = s.get .TUS_RV_CFG_G23 ∧ (∀ i < 12,
    t.get (.TUS_XC_M (offDiagonal i).1 (offDiagonal i).2) = s.get (.TUS_XC_M (offDiagonal i).1 (offDiagonal i).2)) ∧
    t.get .TUS_CTRL_XC_EN = s.req p 16 1 % 2 ∧ t.get .TUS_CTRL_RVFF_EN = s.req p 16 1 / 2 % 2) ∧ Frame [.fenIrq, .aq,
    .dyke] (([.fld .PEAT_STATUS_STAMP_WAIT, .fld .PEAT_STATUS_HELD, .fld .PEAT_STATUS_USED, .fld .PEAT_FRZ_AREA,
    .fld .TUS_CTRL_RVFF_EN, .fld .TUS_CTRL_XC_EN, .fld .TUS_STATUS_XC_PENDING, .fld .TUS_XC_EXP_EXP, .fld .TUS_RV_CFG_G23,
    .fld .TUS_RV_CFG_G01, .grid (.TUS_XC_M 0 0) 0x10 4 0x4 4, .arr (.MBX_DONE_DONE 0) 0x4 2] : List Regs) ++
    ([.grid (.MBX_RSP_DATA 0 0) 0x400 64 0x4 64, .arr (.MBX_STAT_CANCEL_REQ 0) 0x400 64, .arr (.MBX_STAT_STARTED 0) 0x400 64,
    .arr (.MBX_STAT_STATE 0) 0x400 64, .arr (.MBX_LATCH_RSP_STATUS 0) 0x400 64, .fld .DYKE_SLOT_INACTIVE] : List Regs)) s t)) ∧
  (∀ (s : State) (p : Nat) (k : Nat), s.Runs p 0x0305 → s.req p 16 1 = k → (s.aq.runs.at p).phase = 0 →
    (s.tus.secs.at k).capPend = false → Completes (.servoCapture p) s (fun t => ((t.tus.secs.at k).capPend = true ∧
    t.get (.TUS_SEC_CTRL_CAP_LANE k) = s.req p 17 1 % 2 ∧ t.get (.TUS_SEC_STATUS_CAP_DONE k) = 0 ∧
    (t.aq.runs.at p).phase = 1 ∧ t.mbx p = 2) ∧ Frame [.fenIrq, .tus, .aq, .dyke] (([.fld .PEAT_STATUS_STAMP_WAIT,
    .fld .PEAT_STATUS_HELD, .fld .PEAT_STATUS_USED, .fld .PEAT_FRZ_AREA, .arr (.TUS_SEC_CTRL_CAP_LANE 0) 0x40 4,
    .arr (.TUS_SEC_STATUS_CAP_DONE 0) 0x40 4, .arr (.MBX_DONE_DONE 0) 0x4 2, .grid (.MBX_RSP_DATA 0 0) 0x400 64 0x4 64,
    .arr (.MBX_STAT_CANCEL_REQ 0) 0x400 64, .arr (.MBX_STAT_STARTED 0) 0x400 64, .arr (.MBX_STAT_STATE 0) 0x400 64,
    .arr (.MBX_LATCH_RSP_STATUS 0) 0x400 64] : List Regs) ++ ([.fld .DYKE_SLOT_INACTIVE] : List Regs)) s t)) ∧
  (∀ (s : State) (p : Nat), s.Runs p 0x0305 → (s.aq.runs.at p).phase = 0 → (s.tus.secs.at (s.req p 16 1)).capPend = true →
    Completes (.servoCapture p) s (fun t => (t = s) ∧ Frame [.fenIrq, .tus, .aq, .dyke] (([.fld .PEAT_STATUS_STAMP_WAIT,
    .fld .PEAT_STATUS_HELD, .fld .PEAT_STATUS_USED, .fld .PEAT_FRZ_AREA, .arr (.TUS_SEC_CTRL_CAP_LANE 0) 0x40 4,
    .arr (.TUS_SEC_STATUS_CAP_DONE 0) 0x40 4, .arr (.MBX_DONE_DONE 0) 0x4 2, .grid (.MBX_RSP_DATA 0 0) 0x400 64 0x4 64,
    .arr (.MBX_STAT_CANCEL_REQ 0) 0x400 64, .arr (.MBX_STAT_STARTED 0) 0x400 64, .arr (.MBX_STAT_STATE 0) 0x400 64,
    .arr (.MBX_LATCH_RSP_STATUS 0) 0x400 64] : List Regs) ++ ([.fld .DYKE_SLOT_INACTIVE] : List Regs)) s t)) ∧
  (∀ (s : State) (p : Nat) (k : Nat), s.Runs p 0x0305 → s.req p 16 1 = k → (s.aq.runs.at p).phase = 1 →
    s.get (.TUS_SEC_STATUS_CAP_DONE k) = 1 →
    Completes (.servoCapture p) s (fun t => (Answered s t p 0 true (leBytes 1 (s.getS (.TUS_SEC_INFO_CAP_EXP k) % 2 ^ 8).toNat ++
    leBytes 3 0 ++ (List.range 8).flatMap (fun i => leBytes 4 (s.getS (.TUS_CAP_M k i) % 2 ^ 32).toNat))) ∧ Frame [.fenIrq,
    .tus, .aq, .dyke] (([.fld .PEAT_STATUS_STAMP_WAIT, .fld .PEAT_STATUS_HELD, .fld .PEAT_STATUS_USED, .fld .PEAT_FRZ_AREA,
    .arr (.TUS_SEC_CTRL_CAP_LANE 0) 0x40 4, .arr (.TUS_SEC_STATUS_CAP_DONE 0) 0x40 4, .arr (.MBX_DONE_DONE 0) 0x4 2,
    .grid (.MBX_RSP_DATA 0 0) 0x400 64 0x4 64, .arr (.MBX_STAT_CANCEL_REQ 0) 0x400 64, .arr (.MBX_STAT_STARTED 0) 0x400 64,
    .arr (.MBX_STAT_STATE 0) 0x400 64, .arr (.MBX_LATCH_RSP_STATUS 0) 0x400 64] : List Regs) ++
    ([.fld .DYKE_SLOT_INACTIVE] : List Regs)) s t)) ∧
  (∀ (s : State) (p : Nat), s.Runs p 0x0305 → (s.aq.runs.at p).phase = 1 →
    s.get (.TUS_SEC_STATUS_CAP_DONE (s.req p 16 1)) = 0 → Completes (.servoCapture p) s (fun t => (t = s) ∧ Frame [.fenIrq,
    .tus, .aq, .dyke] (([.fld .PEAT_STATUS_STAMP_WAIT, .fld .PEAT_STATUS_HELD, .fld .PEAT_STATUS_USED, .fld .PEAT_FRZ_AREA,
    .arr (.TUS_SEC_CTRL_CAP_LANE 0) 0x40 4, .arr (.TUS_SEC_STATUS_CAP_DONE 0) 0x40 4, .arr (.MBX_DONE_DONE 0) 0x4 2,
    .grid (.MBX_RSP_DATA 0 0) 0x400 64 0x4 64, .arr (.MBX_STAT_CANCEL_REQ 0) 0x400 64, .arr (.MBX_STAT_STARTED 0) 0x400 64,
    .arr (.MBX_STAT_STATE 0) 0x400 64, .arr (.MBX_LATCH_RSP_STATUS 0) 0x400 64] : List Regs) ++
    ([.fld .DYKE_SLOT_INACTIVE] : List Regs)) s t)) ∧
  (∀ (s : State) (p : Nat), s.Runs p 0x0401 → Completes (.zoneInfo p) s (fun t => ((∀ z,
    (Config.zones s.aq.chan (s.req p 16 1))[s.req p 18 2]? = some z → Answered s t p 0 true (leBytes 4 z.first ++
    leBytes 4 z.last ++ leBytes 4 z.cbpc ++ leBytes 1 z.c ++ leBytes 1 z.meta_ ++ leBytes 2 z.sectors)) ∧
    ((Config.zones s.aq.chan (s.req p 16 1))[s.req p 18 2]? = none → Answered s t p 0x12 false [])) ∧ Frame [.fenIrq, .aq,
    .dyke] [.fld .PEAT_STATUS_STAMP_WAIT, .fld .PEAT_STATUS_HELD, .fld .PEAT_STATUS_USED, .fld .PEAT_FRZ_AREA,
    .arr (.MBX_DONE_DONE 0) 0x4 2, .grid (.MBX_RSP_DATA 0 0) 0x400 64 0x4 64, .arr (.MBX_STAT_CANCEL_REQ 0) 0x400 64,
    .arr (.MBX_STAT_STARTED 0) 0x400 64, .arr (.MBX_STAT_STATE 0) 0x400 64, .arr (.MBX_LATCH_RSP_STATUS 0) 0x400 64,
    .fld .DYKE_SLOT_INACTIVE] s t)) ∧
  (∀ (s : State) (p : Nat), s.Runs p 0x0402 → Completes (.channelAdapt p) s (fun t => (Answered s t p 0 true [] ∧ (∀ n < 8,
    s.req p 16 1 / 2 ^ n % 2 = 1 → t.get (.SDG_ST_CTRL_ADAPT_EN n) = s.req p 17 1 % 2 ∧
    t.get (.SDG_ST_CTRL_ITER_OTF n) = s.req p 19 1 % 2 ^ 5 ∧ t.get (.SDG_EQ_CFG_NP_ADAPT n) = s.req p 17 1 / 2 % 2 ∧
    t.get (.SDG_EQ_CFG_MU n) = s.req p 18 1 % 2 ^ 4) ∧ (∀ n < 8, s.req p 16 1 / 2 ^ n % 2 = 0 →
    t.get (.SDG_ST_CTRL_ADAPT_EN n) = s.get (.SDG_ST_CTRL_ADAPT_EN n) ∧
    t.get (.SDG_EQ_CFG_MU n) = s.get (.SDG_EQ_CFG_MU n))) ∧ Frame [.fenIrq, .aq, .dyke] (([.fld .PEAT_STATUS_STAMP_WAIT,
    .fld .PEAT_STATUS_HELD, .fld .PEAT_STATUS_USED, .fld .PEAT_FRZ_AREA, .arr (.SDG_ST_CTRL_ITER_OTF 0) 0x400 8,
    .arr (.SDG_ST_CTRL_ADAPT_EN 0) 0x400 8, .arr (.SDG_EQ_CFG_MU 0) 0x400 8, .arr (.SDG_EQ_CFG_NP_ADAPT 0) 0x400 8,
    .arr (.MBX_DONE_DONE 0) 0x4 2, .grid (.MBX_RSP_DATA 0 0) 0x400 64 0x4 64, .arr (.MBX_STAT_CANCEL_REQ 0) 0x400 64,
    .arr (.MBX_STAT_STARTED 0) 0x400 64] : List Regs) ++ ([.arr (.MBX_STAT_STATE 0) 0x400 64,
    .arr (.MBX_LATCH_RSP_STATUS 0) 0x400 64, .fld .DYKE_SLOT_INACTIVE] : List Regs)) s t)) ∧
  (∀ (s : State) (p : Nat) (found : List Nat) (b : Nat), s.Runs p 0x0403 → (s.aq.runs.at p).phase = b → b < 4 →
    ¬ (s.cancelAsked p = true ∧ (s.aq.runs.at p).good ≠ 0 ∧ s.req p 20 1 / 2 ^ b ≠ 0) → s.req p 20 1 / 2 ^ b % 2 = 1 →
    Completes (.channelCal p found) s (fun t => ((∀ i < (calItems b).2,
    t.aq.cal.at (512 * (65536 * (6 * s.req p 16 1 + s.req p 17 1) + s.req p 18 2) + (calItems b).1 + i) = some (found.getD i 0)) ∧
    (t.aq.runs.at p).phase = b + 1 ∧ (t.aq.runs.at p).good = (s.aq.runs.at p).good + 2 ^ b ∧ t.mbx p = 2) ∧ Frame [.drawn,
    .fenIrq, .aq, .dyke] [.fld .PEAT_STATUS_STAMP_WAIT, .fld .PEAT_STATUS_HELD, .fld .PEAT_STATUS_USED, .fld .PEAT_FRZ_AREA,
    .arr (.MBX_DONE_DONE 0) 0x4 2, .grid (.MBX_RSP_DATA 0 0) 0x400 64 0x4 64, .arr (.MBX_STAT_CANCEL_REQ 0) 0x400 64,
    .arr (.MBX_STAT_STARTED 0) 0x400 64, .arr (.MBX_STAT_STATE 0) 0x400 64, .arr (.MBX_LATCH_RSP_STATUS 0) 0x400 64,
    .fld .DYKE_SLOT_INACTIVE] s t)) ∧
  (∀ (s : State) (p : Nat) (found : List Nat) (b : Nat), s.Runs p 0x0403 → (s.aq.runs.at p).phase = b → b < 4 →
    ¬ (s.cancelAsked p = true ∧ (s.aq.runs.at p).good ≠ 0 ∧ s.req p 20 1 / 2 ^ b ≠ 0) → s.req p 20 1 / 2 ^ b % 2 = 0 →
    Completes (.channelCal p found) s (fun t => (t.aq.cal = s.aq.cal ∧ (t.aq.runs.at p).phase = b + 1 ∧
    (t.aq.runs.at p).good = (s.aq.runs.at p).good ∧ t.mbx p = 2) ∧ Frame [.drawn, .fenIrq, .aq,
    .dyke] [.fld .PEAT_STATUS_STAMP_WAIT, .fld .PEAT_STATUS_HELD, .fld .PEAT_STATUS_USED, .fld .PEAT_FRZ_AREA,
    .arr (.MBX_DONE_DONE 0) 0x4 2, .grid (.MBX_RSP_DATA 0 0) 0x400 64 0x4 64, .arr (.MBX_STAT_CANCEL_REQ 0) 0x400 64,
    .arr (.MBX_STAT_STARTED 0) 0x400 64, .arr (.MBX_STAT_STATE 0) 0x400 64, .arr (.MBX_LATCH_RSP_STATUS 0) 0x400 64,
    .fld .DYKE_SLOT_INACTIVE] s t)) ∧
  (∀ (s : State) (p : Nat) (found : List Nat) (b : Nat), s.Runs p 0x0403 → (s.aq.runs.at p).phase = b → b < 4 →
    (s.cancelAsked p = true ∧ (s.aq.runs.at p).good ≠ 0 ∧ s.req p 20 1 / 2 ^ b ≠ 0) →
    Completes (.channelCal p found) s (fun t => ((∃ out, Answered s t p 0x40 true (leBytes 1 (s.aq.runs.at p).good ++ out)) ∧
    t.aq.cal = s.aq.cal) ∧ Frame [.drawn, .fenIrq, .aq, .dyke] [.fld .PEAT_STATUS_STAMP_WAIT, .fld .PEAT_STATUS_HELD,
    .fld .PEAT_STATUS_USED, .fld .PEAT_FRZ_AREA, .arr (.MBX_DONE_DONE 0) 0x4 2, .grid (.MBX_RSP_DATA 0 0) 0x400 64 0x4 64,
    .arr (.MBX_STAT_CANCEL_REQ 0) 0x400 64, .arr (.MBX_STAT_STARTED 0) 0x400 64, .arr (.MBX_STAT_STATE 0) 0x400 64,
    .arr (.MBX_LATCH_RSP_STATUS 0) 0x400 64, .fld .DYKE_SLOT_INACTIVE] s t)) ∧
  (∀ (s : State) (p : Nat) (found : List Nat), s.Runs p 0x0403 → 4 ≤ (s.aq.runs.at p).phase →
    Completes (.channelCal p found) s (fun t => ((∃ adv dly vamp, ((s.aq.runs.at p).good % 2 = 1 →
    adv = (s.calItem ((65536 * (6 * s.req p 16 1 + s.req p 17 1) + s.req p 18 2) / 65536) ((65536 * (6 * s.req p 16 1 + s.req p 17 1) + s.req p 18 2) % 65536) 0)) ∧
    ((s.aq.runs.at p).good / 2 % 2 = 1 →
    dly = (s.calItem ((65536 * (6 * s.req p 16 1 + s.req p 17 1) + s.req p 18 2) / 65536) ((65536 * (6 * s.req p 16 1 + s.req p 17 1) + s.req p 18 2) % 65536) 1) ∧
    vamp = (s.calItem ((65536 * (6 * s.req p 16 1 + s.req p 17 1) + s.req p 18 2) / 65536) ((65536 * (6 * s.req p 16 1 + s.req p 17 1) + s.req p 18 2) % 65536) 2)) ∧
    Answered s t p 0 true (leBytes 1 (s.aq.runs.at p).good ++ leBytes 1 0 ++ leBytes 2 adv ++ leBytes 2 dly ++
    leBytes 1 vamp ++ leBytes 1 0))) ∧ Frame [.drawn, .fenIrq, .aq, .dyke] [.fld .PEAT_STATUS_STAMP_WAIT,
    .fld .PEAT_STATUS_HELD, .fld .PEAT_STATUS_USED, .fld .PEAT_FRZ_AREA, .arr (.MBX_DONE_DONE 0) 0x4 2,
    .grid (.MBX_RSP_DATA 0 0) 0x400 64 0x4 64, .arr (.MBX_STAT_CANCEL_REQ 0) 0x400 64, .arr (.MBX_STAT_STARTED 0) 0x400 64,
    .arr (.MBX_STAT_STATE 0) 0x400 64, .arr (.MBX_LATCH_RSP_STATUS 0) 0x400 64, .fld .DYKE_SLOT_INACTIVE] s t)) ∧
  (∀ (s : State) (p : Nat) (l : Link), s.Runs p 0x0404 → s.link (s.req p 16 1) = l →
    Completes (.preampInfo p) s (fun t => (Answered s t p 0 true (leBytes 2 (l.ident.at 0) ++ leBytes 2 (l.ident.at 1) ++
    leBytes 4 (l.ident.at 2 * 65536 + l.ident.at 3) ++ leBytes 1 (l.ident.at 4) ++ leBytes 1 l.state ++ leBytes 6 0)) ∧
    Frame [.fenIrq, .aq, .dyke] [.fld .PEAT_STATUS_STAMP_WAIT, .fld .PEAT_STATUS_HELD, .fld .PEAT_STATUS_USED,
    .fld .PEAT_FRZ_AREA, .arr (.MBX_DONE_DONE 0) 0x4 2, .grid (.MBX_RSP_DATA 0 0) 0x400 64 0x4 64,
    .arr (.MBX_STAT_CANCEL_REQ 0) 0x400 64, .arr (.MBX_STAT_STARTED 0) 0x400 64, .arr (.MBX_STAT_STATE 0) 0x400 64,
    .arr (.MBX_LATCH_RSP_STATUS 0) 0x400 64, .fld .DYKE_SLOT_INACTIVE] s t))

/-- Completion and effects of the commands named, on the states named (after R145, R241, R242, R243, R244, R434, each in
part). -/
def Obligations.FormatProgramsLoad : Prop :=
  (∀ (s : State) (p : Nat), s.Runs p 0x0501 → Completes (.fprogBegin p) s (fun t => (Answered s t p 0 true [] ∧
    (s.sessionOpen p = true →
    t.aq.load = some { owner := s.mbxKey p, prog := s.req p 16 2, count := s.req p 18 2, addr := s.req p 20 2, persist := s.req p 22 1 == 1 }) ∧
    t.aq.progs = s.aq.progs) ∧ Frame [.fenIrq, .aq, .dyke] [.fld .PEAT_STATUS_STAMP_WAIT, .fld .PEAT_STATUS_HELD,
    .fld .PEAT_STATUS_USED, .fld .PEAT_FRZ_AREA, .arr (.MBX_DONE_DONE 0) 0x4 2, .grid (.MBX_RSP_DATA 0 0) 0x400 64 0x4 64,
    .arr (.MBX_STAT_CANCEL_REQ 0) 0x400 64, .arr (.MBX_STAT_STARTED 0) 0x400 64, .arr (.MBX_STAT_STATE 0) 0x400 64,
    .arr (.MBX_LATCH_RSP_STATUS 0) 0x400 64, .fld .DYKE_SLOT_INACTIVE] s t)) ∧
  (∀ (s : State) (p : Nat) (l : FLoad), s.Runs p 0x0502 → s.aq.load = some l →
    Completes (.fprogData p) s (fun t => (Answered s t p 0 true [] ∧ (s.sessionOpen p = true →
    t.aq.load = some { l with words := l.words ++ (List.range (s.req p 20 1)).map (fun i => BitVec.ofNat 32 (s.req p (24 + 4 * i) 4)) }) ∧
    t.aq.progs = s.aq.progs) ∧ Frame [.fenIrq, .aq, .dyke] [.fld .PEAT_STATUS_STAMP_WAIT, .fld .PEAT_STATUS_HELD,
    .fld .PEAT_STATUS_USED, .fld .PEAT_FRZ_AREA, .arr (.MBX_DONE_DONE 0) 0x4 2, .grid (.MBX_RSP_DATA 0 0) 0x400 64 0x4 64,
    .arr (.MBX_STAT_CANCEL_REQ 0) 0x400 64, .arr (.MBX_STAT_STARTED 0) 0x400 64, .arr (.MBX_STAT_STATE 0) 0x400 64,
    .arr (.MBX_LATCH_RSP_STATUS 0) 0x400 64, .fld .DYKE_SLOT_INACTIVE] s t)) ∧
  (∀ (s : State) (p : Nat) (norOk : Bool) (l : FLoad) (r : Nat × Nat), s.Runs p 0x0503 → s.aq.load = some l →
    s.programCheck l = some r → Completes (.fprogCommit p norOk) s (fun t => (Answered s t p 0x0120 true (ruleBytes r) ∧
    t.aq.load = none ∧ t.aq.progs = s.aq.progs ∧ t.mq.progHold = false) ∧ Frame [.fenIrq, .seqs, .mq, .aq,
    .dyke] (([.fld .PEAT_STATUS_STAMP_WAIT, .fld .PEAT_STATUS_HELD, .fld .PEAT_STATUS_USED, .fld .PEAT_FRZ_AREA,
    .fld .REED_CS_CTRL_SEQ_MASK, .fld .REED_CS_CTRL_ADDR, .arr (.MBX_DONE_DONE 0) 0x4 2,
    .grid (.MBX_RSP_DATA 0 0) 0x400 64 0x4 64, .arr (.MBX_STAT_CANCEL_REQ 0) 0x400 64, .arr (.MBX_STAT_STARTED 0) 0x400 64,
    .arr (.MBX_STAT_STATE 0) 0x400 64, .arr (.MBX_LATCH_RSP_STATUS 0) 0x400 64] : List Regs) ++ ([.fld .DYKE_SLOT_INACTIVE,
    .grid (.DYKE_MR_DATA 0 0) 0x30 16 0x4 12] : List Regs)) s t)) ∧
  (∀ (s : State) (p : Nat) (norOk : Bool) (l : FLoad), s.Runs p 0x0503 → s.aq.load = some l → s.programCheck l = none →
    (s.mq.progHold = false ∨ (List.range 8).all (fun n => !s.running n) = false) →
    Completes (.fprogCommit p norOk) s (fun t => (t.mq.progHold = true ∧ t.aq.load = some l ∧ t.mbx p = 2) ∧ Frame [.fenIrq,
    .seqs, .mq, .aq, .dyke] (([.fld .PEAT_STATUS_STAMP_WAIT, .fld .PEAT_STATUS_HELD, .fld .PEAT_STATUS_USED,
    .fld .PEAT_FRZ_AREA, .fld .REED_CS_CTRL_SEQ_MASK, .fld .REED_CS_CTRL_ADDR, .arr (.MBX_DONE_DONE 0) 0x4 2,
    .grid (.MBX_RSP_DATA 0 0) 0x400 64 0x4 64, .arr (.MBX_STAT_CANCEL_REQ 0) 0x400 64, .arr (.MBX_STAT_STARTED 0) 0x400 64,
    .arr (.MBX_STAT_STATE 0) 0x400 64, .arr (.MBX_LATCH_RSP_STATUS 0) 0x400 64] : List Regs) ++ ([.fld .DYKE_SLOT_INACTIVE,
    .grid (.DYKE_MR_DATA 0 0) 0x30 16 0x4 12] : List Regs)) s t)) ∧
  (∀ (s : State) (p : Nat) (norOk : Bool) (l : FLoad), s.Runs p 0x0503 → s.aq.load = some l → s.programCheck l = none →
    (List.range 8).all (fun n => !s.running n) = true → s.mq.progHold = true → (l.persist = false ∨ norOk = true) →
    Completes (.fprogCommit p norOk) s (fun t => (Answered s t p 0 true (ruleBytes (0xFFFF, 0)) ∧ t.aq.load = none ∧
    t.aq.progs = s.aq.progs.filter (fun x => x.prog ≠ l.prog) ++
    [{ prog := l.prog, addr := l.addr, persist := l.persist, words := l.words }] ∧
    t.aq.binds = s.aq.binds.filter (fun x => x.prog ≠ l.prog) ∧ t.mq.progHold = false ∧ t.get .REED_CS_CTRL_SEQ_MASK = 0xFF ∧
    (∀ n < 8, ∀ i < l.words.length, (t.seqs.at n).store.at (l.addr + i) = l.words.getD i 0)) ∧ Frame [.fenIrq, .seqs, .mq,
    .aq, .dyke] (([.fld .PEAT_STATUS_STAMP_WAIT, .fld .PEAT_STATUS_HELD, .fld .PEAT_STATUS_USED, .fld .PEAT_FRZ_AREA,
    .fld .REED_CS_CTRL_SEQ_MASK, .fld .REED_CS_CTRL_ADDR, .arr (.MBX_DONE_DONE 0) 0x4 2,
    .grid (.MBX_RSP_DATA 0 0) 0x400 64 0x4 64, .arr (.MBX_STAT_CANCEL_REQ 0) 0x400 64, .arr (.MBX_STAT_STARTED 0) 0x400 64,
    .arr (.MBX_STAT_STATE 0) 0x400 64, .arr (.MBX_LATCH_RSP_STATUS 0) 0x400 64] : List Regs) ++ ([.fld .DYKE_SLOT_INACTIVE,
    .grid (.DYKE_MR_DATA 0 0) 0x30 16 0x4 12] : List Regs)) s t)) ∧
  (∀ (s : State) (p : Nat) (l : FLoad), s.Runs p 0x0503 → s.aq.load = some l → s.programCheck l = none →
    (List.range 8).all (fun n => !s.running n) = true → s.mq.progHold = true → l.persist = true →
    Completes (.fprogCommit p false) s (fun t => (Answered s t p 0x0164 true [] ∧ t.aq.load = none ∧ t.aq.progs = s.aq.progs ∧
    t.mq.progHold = false) ∧ Frame [.fenIrq, .seqs, .mq, .aq, .dyke] (([.fld .PEAT_STATUS_STAMP_WAIT, .fld .PEAT_STATUS_HELD,
    .fld .PEAT_STATUS_USED, .fld .PEAT_FRZ_AREA, .fld .REED_CS_CTRL_SEQ_MASK, .fld .REED_CS_CTRL_ADDR,
    .arr (.MBX_DONE_DONE 0) 0x4 2, .grid (.MBX_RSP_DATA 0 0) 0x400 64 0x4 64, .arr (.MBX_STAT_CANCEL_REQ 0) 0x400 64,
    .arr (.MBX_STAT_STARTED 0) 0x400 64, .arr (.MBX_STAT_STATE 0) 0x400 64,
    .arr (.MBX_LATCH_RSP_STATUS 0) 0x400 64] : List Regs) ++ ([.fld .DYKE_SLOT_INACTIVE,
    .grid (.DYKE_MR_DATA 0 0) 0x30 16 0x4 12] : List Regs)) s t)) ∧
  (∀ (s : State) (p : Nat) (norOk : Bool), s.Runs p 0x0504 → s.bindCheck (s.req p 16 2) (s.req p 18 1) (s.req p 24 2) = none →
    (s.persisted (s.req p 16 2) = false ∨ norOk = true) →
    Completes (.fprogBind p norOk) s (fun t => (Answered s t p 0 true (ruleBytes (0xFFFF, 0)) ∧ t.aq.binds = s.aq.binds ++
    [{ prog := s.req p 16 2, opcode := s.req p 18 1, first := s.req p 20 2, last := s.req p 22 2, entry := s.req p 24 2, thresh := s.req p 26 2 }]) ∧
    Frame [.fenIrq, .aq, .dyke] [.fld .PEAT_STATUS_STAMP_WAIT, .fld .PEAT_STATUS_HELD, .fld .PEAT_STATUS_USED,
    .fld .PEAT_FRZ_AREA, .arr (.MBX_DONE_DONE 0) 0x4 2, .grid (.MBX_RSP_DATA 0 0) 0x400 64 0x4 64,
    .arr (.MBX_STAT_CANCEL_REQ 0) 0x400 64, .arr (.MBX_STAT_STARTED 0) 0x400 64, .arr (.MBX_STAT_STATE 0) 0x400 64,
    .arr (.MBX_LATCH_RSP_STATUS 0) 0x400 64, .fld .DYKE_SLOT_INACTIVE] s t)) ∧
  (∀ (s : State) (p : Nat) (norOk : Bool) (r : Nat), s.Runs p 0x0504 →
    s.bindCheck (s.req p 16 2) (s.req p 18 1) (s.req p 24 2) = some r →
    Completes (.fprogBind p norOk) s (fun t => (Answered s t p 0x0120 true (ruleBytes (0xFFFF, r)) ∧
    t.aq.binds = s.aq.binds) ∧ Frame [.fenIrq, .aq, .dyke] [.fld .PEAT_STATUS_STAMP_WAIT, .fld .PEAT_STATUS_HELD,
    .fld .PEAT_STATUS_USED, .fld .PEAT_FRZ_AREA, .arr (.MBX_DONE_DONE 0) 0x4 2, .grid (.MBX_RSP_DATA 0 0) 0x400 64 0x4 64,
    .arr (.MBX_STAT_CANCEL_REQ 0) 0x400 64, .arr (.MBX_STAT_STARTED 0) 0x400 64, .arr (.MBX_STAT_STATE 0) 0x400 64,
    .arr (.MBX_LATCH_RSP_STATUS 0) 0x400 64, .fld .DYKE_SLOT_INACTIVE] s t)) ∧
  (∀ (s : State) (p : Nat) (norOk : Bool), s.Runs p 0x0505 → (s.persisted (s.req p 16 2) = false ∨ norOk = true) →
    Completes (.fprogDelete p norOk) s (fun t => (Answered s t p 0 true [] ∧
    t.aq.progs = s.aq.progs.filter (fun x => x.prog ≠ s.req p 16 2) ∧
    t.aq.binds = s.aq.binds.filter (fun x => x.prog ≠ s.req p 16 2)) ∧ Frame [.fenIrq, .aq,
    .dyke] [.fld .PEAT_STATUS_STAMP_WAIT, .fld .PEAT_STATUS_HELD, .fld .PEAT_STATUS_USED, .fld .PEAT_FRZ_AREA,
    .arr (.MBX_DONE_DONE 0) 0x4 2, .grid (.MBX_RSP_DATA 0 0) 0x400 64 0x4 64, .arr (.MBX_STAT_CANCEL_REQ 0) 0x400 64,
    .arr (.MBX_STAT_STARTED 0) 0x400 64, .arr (.MBX_STAT_STATE 0) 0x400 64, .arr (.MBX_LATCH_RSP_STATUS 0) 0x400 64,
    .fld .DYKE_SLOT_INACTIVE] s t)) ∧
  (∀ (s : State) (p : Nat), s.Runs p 0x0505 → s.persisted (s.req p 16 2) = true →
    Completes (.fprogDelete p false) s (fun t => (Answered s t p 0x0164 true [] ∧ t.aq.progs = s.aq.progs ∧
    t.aq.binds = s.aq.binds) ∧ Frame [.fenIrq, .aq, .dyke] [.fld .PEAT_STATUS_STAMP_WAIT, .fld .PEAT_STATUS_HELD,
    .fld .PEAT_STATUS_USED, .fld .PEAT_FRZ_AREA, .arr (.MBX_DONE_DONE 0) 0x4 2, .grid (.MBX_RSP_DATA 0 0) 0x400 64 0x4 64,
    .arr (.MBX_STAT_CANCEL_REQ 0) 0x400 64, .arr (.MBX_STAT_STARTED 0) 0x400 64, .arr (.MBX_STAT_STATE 0) 0x400 64,
    .arr (.MBX_LATCH_RSP_STATUS 0) 0x400 64, .fld .DYKE_SLOT_INACTIVE] s t)) ∧
  (∀ (s : State) (p : Nat) (l : List FProgram), s.Runs p 0x0506 → l = (s.aq.progs.drop (s.req p 16 1)).take 28 →
    Completes (.fprogList p) s (fun t => (Answered s t p 0 true (leBytes 1 s.aq.progs.length ++ leBytes 1 l.length ++
    leBytes 6 0 ++ l.flatMap (fun x => leBytes 2 x.prog ++ leBytes 2 x.addr ++ leBytes 2 x.words.length ++
    leBytes 1 (x.persist.toNat + 2 * (s.aq.binds.any (fun b => b.prog == x.prog)).toNat) ++ [0])) ∧ t.aq.progs = s.aq.progs) ∧
    Frame [.fenIrq, .aq, .dyke] [.fld .PEAT_STATUS_STAMP_WAIT, .fld .PEAT_STATUS_HELD, .fld .PEAT_STATUS_USED,
    .fld .PEAT_FRZ_AREA, .arr (.MBX_DONE_DONE 0) 0x4 2, .grid (.MBX_RSP_DATA 0 0) 0x400 64 0x4 64,
    .arr (.MBX_STAT_CANCEL_REQ 0) 0x400 64, .arr (.MBX_STAT_STARTED 0) 0x400 64, .arr (.MBX_STAT_STATE 0) 0x400 64,
    .arr (.MBX_LATCH_RSP_STATUS 0) 0x400 64, .fld .DYKE_SLOT_INACTIVE] s t))

/-- Completion and effects of the commands named, on the states named (after R232, R248, R249, R453, R461, R466, R469, each in
part). -/
def Obligations.EventsAreServed : Prop :=
  (∀ (s : State) (p : Nat), s.Runs p 0x0701 → Completes (.peatAppend p) s (fun t => (Answered s t p 0 true (leBytes 8 s.opt) ∧
    (stagedBytes s.peat.staged + ((16 + s.req p 18 2 + 3) / 4 * 4) ≤ 262144 → s.heldBytes = 0 → s.get .PEAT_FRZ_AREA = 0 →
    ∃ x ∈ t.peat.staged, x.rec_.stream = 4 ∧ x.rec_.type_ = s.req p 16 2 ∧ x.rec_.body = s.reqBytes p 24 (s.req p 18 2) ∧
    x.rec_.rseq = s.get (.PEAT_RSEQ_NEXT 4))) ∧ Frame (alarmParts ++ ([.aq, .dyke] : List Part)) (alarmRegs ++ haltRegs ++
    ([.arr (.MBX_DONE_DONE 0) 0x4 2, .grid (.MBX_RSP_DATA 0 0) 0x400 64 0x4 64, .arr (.MBX_STAT_CANCEL_REQ 0) 0x400 64,
    .arr (.MBX_STAT_STARTED 0) 0x400 64, .arr (.MBX_STAT_STATE 0) 0x400 64, .arr (.MBX_LATCH_RSP_STATUS 0) 0x400 64,
    .fld .DYKE_SLOT_INACTIVE] : List Regs)) s t)) ∧
  (∀ (s : State) (p : Nat), s.Runs p 0x0702 → s.reqArea p < 10 → s.get .PEAT_STATUS_FLUSHING = 0 →
    (s.frozen (s.reqArea p) = false ∨ s.aq.freezes.at (s.reqArea p) = none ∨ s.aq.freezes.at (s.reqArea p) = some (s.mbxKey p)) →
    Completes (.peatFreeze p) s (fun t => (Answered s t p 0 true (leBytes 4 (s.get (.PEAT_AREA_REC_COUNT (s.reqArea p))) ++
    leBytes 4 (s.get (.PEAT_AREA_BYTES_BYTES (s.reqArea p)))) ∧ (s.sessionOpen p = true → t.frozen (s.reqArea p) = true ∧
    t.aq.freezes.at (s.reqArea p) = some (s.mbxKey p))) ∧ Frame [.fenIrq, .peat, .aq, .dyke] [.fld .PEAT_STATUS_STAMP_WAIT,
    .fld .PEAT_STATUS_HELD, .fld .PEAT_STATUS_USED, .fld .PEAT_FRZ_AREA, .arr (.MBX_DONE_DONE 0) 0x4 2,
    .grid (.MBX_RSP_DATA 0 0) 0x400 64 0x4 64, .arr (.MBX_STAT_CANCEL_REQ 0) 0x400 64, .arr (.MBX_STAT_STARTED 0) 0x400 64,
    .arr (.MBX_STAT_STATE 0) 0x400 64, .arr (.MBX_LATCH_RSP_STATUS 0) 0x400 64, .fld .DYKE_SLOT_INACTIVE] s t)) ∧
  (∀ (s : State) (p : Nat) (g : Nat × Nat), s.Runs p 0x0702 → s.reqArea p < 10 → s.frozen (s.reqArea p) = true →
    s.aq.freezes.at (s.reqArea p) = some g → g ≠ s.mbxKey p →
    Completes (.peatFreeze p) s (fun t => (Answered s t p 0x0107 true [] ∧ t.frozen (s.reqArea p) = true ∧
    t.aq.freezes.at (s.reqArea p) = some g) ∧ Frame [.fenIrq, .peat, .aq, .dyke] [.fld .PEAT_STATUS_STAMP_WAIT,
    .fld .PEAT_STATUS_HELD, .fld .PEAT_STATUS_USED, .fld .PEAT_FRZ_AREA, .arr (.MBX_DONE_DONE 0) 0x4 2,
    .grid (.MBX_RSP_DATA 0 0) 0x400 64 0x4 64, .arr (.MBX_STAT_CANCEL_REQ 0) 0x400 64, .arr (.MBX_STAT_STARTED 0) 0x400 64,
    .arr (.MBX_STAT_STATE 0) 0x400 64, .arr (.MBX_LATCH_RSP_STATUS 0) 0x400 64, .fld .DYKE_SLOT_INACTIVE] s t)) ∧
  (∀ (s : State) (p : Nat) (all : List Byte), s.Runs p 0x0703 → (s.peat.areas.at (s.reqArea p)).served (s.reqArea p) = all →
    Completes (.peatRead p) s (fun t => (Answered s t p 0 true (leBytes 4 (s.req p 20 4 + ((all.drop (s.req p 20 4)).take 232).length) ++
    leBytes 2 ((all.drop (s.req p 20 4)).take 232).length ++
    leBytes 1 (decide (s.req p 20 4 + ((all.drop (s.req p 20 4)).take 232).length = all.length)).toNat ++ [0] ++
    (all.drop (s.req p 20 4)).take 232)) ∧ Frame [.fenIrq, .peat, .aq, .dyke] (([.fld .PEAT_STATUS_STAMP_WAIT,
    .fld .PEAT_STATUS_HELD, .fld .PEAT_STATUS_USED, .fld .PEAT_FRZ_AREA, .arr (.MBX_DONE_DONE 0) 0x4 2,
    .grid (.MBX_RSP_DATA 0 0) 0x400 64 0x4 64, .arr (.MBX_STAT_CANCEL_REQ 0) 0x400 64, .arr (.MBX_STAT_STARTED 0) 0x400 64,
    .arr (.MBX_STAT_STATE 0) 0x400 64, .arr (.MBX_LATCH_RSP_STATUS 0) 0x400 64, .fld .DYKE_SLOT_INACTIVE,
    .fld .PEAT_CUR_AREA_AREA] : List Regs) ++ ([.fld .PEAT_CUR_OFFSET, .fld .PEAT_WIN_STATUS_VALID, .fld .PEAT_WIN_STATUS_END,
    .fld .PEAT_WIN_STATUS_BYTES, .arr (.PEAT_WIN_DATA 0) 0x4 1024] : List Regs)) s t)) ∧
  (∀ (s : State) (p : Nat), s.Runs p 0x0704 → s.reqArea p < 10 →
    Completes (.peatRelease p) s (fun t => (Answered s t p 0 true [] ∧ t.frozen (s.reqArea p) = false ∧
    t.aq.freezes.at (s.reqArea p) = none) ∧ Frame [.fenIrq, .aq, .dyke] [.fld .PEAT_STATUS_STAMP_WAIT, .fld .PEAT_STATUS_HELD,
    .fld .PEAT_STATUS_USED, .fld .PEAT_FRZ_AREA, .arr (.MBX_DONE_DONE 0) 0x4 2, .grid (.MBX_RSP_DATA 0 0) 0x400 64 0x4 64,
    .arr (.MBX_STAT_CANCEL_REQ 0) 0x400 64, .arr (.MBX_STAT_STARTED 0) 0x400 64, .arr (.MBX_STAT_STATE 0) 0x400 64,
    .arr (.MBX_LATCH_RSP_STATUS 0) 0x400 64, .fld .DYKE_SLOT_INACTIVE] s t)) ∧
  (∀ (s : State) (p : Nat) (c : BitVec 256), s.Runs p 0x0705 → (s.aq.runs.at p).challenge = some c →
    Completes (.peatClear p true) s (fun t => (((s.enrolled && ecdsaVerify (manKey (s.slot s.runSlot).manifest) (sha384 (leBytes 2 (s.mbxCmd p) ++
    leBytes 32 c.toNat ++ s.reqBytes p 16 8)) (s.reqBytes p 24 96)) = true → Answered s t p 0 true [] ∧ ∀ k < 5,
    s.req p 16 1 / 2 ^ k % 2 = 1 → t.frozen (circArea k) = false ∧
    (t.peat.areas.at (circArea k)).records.head?.map (fun e => e.2.type_) = some 0x00FE) ∧
    ((s.enrolled && ecdsaVerify (manKey (s.slot s.runSlot).manifest) (sha384 (leBytes 2 (s.mbxCmd p) ++ leBytes 32 c.toNat ++
    s.reqBytes p 16 8)) (s.reqBytes p 24 96)) = false → Answered s t p 0x0150 true [] ∧ t.latched 0x0F02 0 = true)) ∧
    Frame (alarmParts ++ ([.aq, .dyke] : List Part)) (alarmRegs ++ haltRegs ++ ([.arr (.MBX_DONE_DONE 0) 0x4 2,
    .grid (.MBX_RSP_DATA 0 0) 0x400 64 0x4 64, .arr (.MBX_STAT_CANCEL_REQ 0) 0x400 64, .arr (.MBX_STAT_STARTED 0) 0x400 64,
    .arr (.MBX_STAT_STATE 0) 0x400 64, .arr (.MBX_LATCH_RSP_STATUS 0) 0x400 64, .fld .DYKE_SLOT_INACTIVE,
    .arr (.PEAT_AREA_REC_COUNT 0) 0x4 10, .arr (.PEAT_AREA_BYTES_BYTES 0) 0x4 10] : List Regs)) s t)) ∧
  (∀ (s : State) (p : Nat) (c : BitVec 256), s.Runs p 0x0705 → (s.aq.runs.at p).challenge = some c →
    Completes (.peatClear p false) s (fun t => (((s.enrolled && ecdsaVerify (manKey (s.slot s.runSlot).manifest) (sha384 (leBytes 2 (s.mbxCmd p) ++
    leBytes 32 c.toNat ++ s.reqBytes p 16 8)) (s.reqBytes p 24 96)) = true → Answered s t p 0x0164 true [] ∧
    t.peat.areas = s.peat.areas) ∧
    ((s.enrolled && ecdsaVerify (manKey (s.slot s.runSlot).manifest) (sha384 (leBytes 2 (s.mbxCmd p) ++ leBytes 32 c.toNat ++
    s.reqBytes p 16 8)) (s.reqBytes p 24 96)) = false → Answered s t p 0x0150 true [] ∧ t.latched 0x0F02 0 = true)) ∧
    Frame (alarmParts ++ ([.aq, .dyke] : List Part)) (alarmRegs ++ haltRegs ++ ([.arr (.MBX_DONE_DONE 0) 0x4 2,
    .grid (.MBX_RSP_DATA 0 0) 0x400 64 0x4 64, .arr (.MBX_STAT_CANCEL_REQ 0) 0x400 64, .arr (.MBX_STAT_STARTED 0) 0x400 64,
    .arr (.MBX_STAT_STATE 0) 0x400 64, .arr (.MBX_LATCH_RSP_STATUS 0) 0x400 64, .fld .DYKE_SLOT_INACTIVE,
    .arr (.PEAT_AREA_REC_COUNT 0) 0x4 10, .arr (.PEAT_AREA_BYTES_BYTES 0) 0x4 10] : List Regs)) s t)) ∧
  (∀ (s : State) (p : Nat) (norOk : Bool), s.Runs p 0x0706 → (s.aq.runs.at p).phase = 0 →
    Completes (.aqPeatFlush p norOk) s (fun t => (t.get .PEAT_STATUS_FLUSHING = 1 ∧ (t.aq.runs.at p).phase = 1 ∧
    t.mbx p = 2) ∧ Frame [.fenIrq, .peat, .aq, .dyke] [.fld .PEAT_STATUS_FLUSHING, .fld .PEAT_STATUS_STAMP_WAIT,
    .fld .PEAT_STATUS_HELD, .fld .PEAT_STATUS_USED, .fld .PEAT_FRZ_AREA, .arr (.MBX_DONE_DONE 0) 0x4 2,
    .grid (.MBX_RSP_DATA 0 0) 0x400 64 0x4 64, .arr (.MBX_STAT_CANCEL_REQ 0) 0x400 64, .arr (.MBX_STAT_STARTED 0) 0x400 64,
    .arr (.MBX_STAT_STATE 0) 0x400 64, .arr (.MBX_LATCH_RSP_STATUS 0) 0x400 64, .fld .DYKE_SLOT_INACTIVE] s t)) ∧
  (∀ (s : State) (p : Nat) (norOk : Bool), s.Runs p 0x0706 → (s.aq.runs.at p).phase = 1 → s.get .PEAT_STATUS_FLUSHING = 0 →
    Completes (.aqPeatFlush p norOk) s (fun t => ((if norOk then Answered s t p 0 true [] else Answered s t p 0x0164 true [])) ∧
    Frame [.fenIrq, .peat, .aq, .dyke] [.fld .PEAT_STATUS_FLUSHING, .fld .PEAT_STATUS_STAMP_WAIT, .fld .PEAT_STATUS_HELD,
    .fld .PEAT_STATUS_USED, .fld .PEAT_FRZ_AREA, .arr (.MBX_DONE_DONE 0) 0x4 2, .grid (.MBX_RSP_DATA 0 0) 0x400 64 0x4 64,
    .arr (.MBX_STAT_CANCEL_REQ 0) 0x400 64, .arr (.MBX_STAT_STARTED 0) 0x400 64, .arr (.MBX_STAT_STATE 0) 0x400 64,
    .arr (.MBX_LATCH_RSP_STATUS 0) 0x400 64, .fld .DYKE_SLOT_INACTIVE] s t)) ∧
  (∀ (s : State) (p : Nat) (norOk : Bool), s.Runs p 0x0706 → (s.aq.runs.at p).phase = 1 → s.get .PEAT_STATUS_FLUSHING = 1 →
    Completes (.aqPeatFlush p norOk) s (fun t => (t = s) ∧ Frame [.fenIrq, .peat, .aq, .dyke] [.fld .PEAT_STATUS_FLUSHING,
    .fld .PEAT_STATUS_STAMP_WAIT, .fld .PEAT_STATUS_HELD, .fld .PEAT_STATUS_USED, .fld .PEAT_FRZ_AREA,
    .arr (.MBX_DONE_DONE 0) 0x4 2, .grid (.MBX_RSP_DATA 0 0) 0x400 64 0x4 64, .arr (.MBX_STAT_CANCEL_REQ 0) 0x400 64,
    .arr (.MBX_STAT_STARTED 0) 0x400 64, .arr (.MBX_STAT_STATE 0) 0x400 64, .arr (.MBX_LATCH_RSP_STATUS 0) 0x400 64,
    .fld .DYKE_SLOT_INACTIVE] s t))

/-- Completion and effects of the commands named, on the states named (after R178, R253, R254, R415, R418, R421, R425, each in
part). -/
def Obligations.TelemetryAndFaultsAreServed : Prop :=
  (∀ (s : State) (p : Nat), s.Runs p 0x0901 →
    Completes (.telVersions p) s (fun t => (Answered s t p 0 true (leBytes 4 s.aqsiaVer ++
    leBytes 4 (s.wordOf .REED_UCODE_VER_BASE) ++ leBytes 4 s.aq.chan ++ leBytes 4 s.aq.servoTbl ++
    leBytes 4 (s.wordOf .DYKE_CHIP_ID_PART) ++ leBytes 4 0)) ∧ Frame [.fenIrq, .aq, .dyke] [.fld .PEAT_STATUS_STAMP_WAIT,
    .fld .PEAT_STATUS_HELD, .fld .PEAT_STATUS_USED, .fld .PEAT_FRZ_AREA, .arr (.MBX_DONE_DONE 0) 0x4 2,
    .grid (.MBX_RSP_DATA 0 0) 0x400 64 0x4 64, .arr (.MBX_STAT_CANCEL_REQ 0) 0x400 64, .arr (.MBX_STAT_STARTED 0) 0x400 64,
    .arr (.MBX_STAT_STATE 0) 0x400 64, .arr (.MBX_LATCH_RSP_STATUS 0) 0x400 64, .fld .DYKE_SLOT_INACTIVE] s t)) ∧
  (∀ (s : State) (p : Nat), s.Runs p 0x0902 →
    Completes (.telChannel p) s (fun t => (Answered s t p 0 true ((List.range 32).flatMap (fun i => leBytes 4 (t.get (.SDG_TEL_COUNT (s.req p 16 1) i)))) ∧
    (s.req p 17 1 % 2 = 0 → ∀ n < 8, ∀ i < 32, t.get (.SDG_TEL_COUNT n i) = s.get (.SDG_TEL_COUNT n i))) ∧ Frame [.fenIrq,
    .chans, .aq, .dyke] [.fld .PEAT_STATUS_STAMP_WAIT, .fld .PEAT_STATUS_HELD, .fld .PEAT_STATUS_USED, .fld .PEAT_FRZ_AREA,
    .grid (.SDG_TEL_COUNT 0 0) 0x400 8 0x4 32, .arr (.MBX_DONE_DONE 0) 0x4 2, .grid (.MBX_RSP_DATA 0 0) 0x400 64 0x4 64,
    .arr (.MBX_STAT_CANCEL_REQ 0) 0x400 64, .arr (.MBX_STAT_STARTED 0) 0x400 64, .arr (.MBX_STAT_STATE 0) 0x400 64,
    .arr (.MBX_LATCH_RSP_STATUS 0) 0x400 64, .fld .DYKE_SLOT_INACTIVE] s t)) ∧
  (∀ (s : State) (p : Nat) (k : Nat), s.Runs p 0x0903 → s.req p 16 1 = k →
    Completes (.telServo p) s (fun t => (Answered s t p 0 true (leBytes 4 (s.wordOf (.TUS_SAT_CNT_COUNT k)) ++
    leBytes 4 (s.aq.servo.at k).seeks ++ leBytes 4 (s.aq.servo.at k).inhibits ++ leBytes 4 (s.aq.servo.at k).pesLost) ∧
    (s.req p 17 1 % 2 = 1 → t.get (.TUS_SAT_CNT_COUNT k) = 0 ∧ t.aq.servo.at k = {}) ∧ (s.req p 17 1 % 2 = 0 →
    t.get (.TUS_SAT_CNT_COUNT k) = s.get (.TUS_SAT_CNT_COUNT k) ∧ t.aq.servo = s.aq.servo)) ∧ Frame [.fenIrq, .aq,
    .dyke] [.fld .PEAT_STATUS_STAMP_WAIT, .fld .PEAT_STATUS_HELD, .fld .PEAT_STATUS_USED, .fld .PEAT_FRZ_AREA,
    .arr (.TUS_SAT_CNT_COUNT 0) 0x40 4, .arr (.MBX_DONE_DONE 0) 0x4 2, .grid (.MBX_RSP_DATA 0 0) 0x400 64 0x4 64,
    .arr (.MBX_STAT_CANCEL_REQ 0) 0x400 64, .arr (.MBX_STAT_STARTED 0) 0x400 64, .arr (.MBX_STAT_STATE 0) 0x400 64,
    .arr (.MBX_LATCH_RSP_STATUS 0) 0x400 64, .fld .DYKE_SLOT_INACTIVE] s t)) ∧
  (∀ (s : State) (p : Nat) (temps : List Nat), s.Runs p 0x0904 →
    Completes (.telEnv p temps) s (fun t => (Answered s t p 0 true ((List.range 4).flatMap (fun i => leBytes 2 (temps.getD i 0)) ++
    leBytes 2 (s.get .WEIR_MEAS_V12_MV) ++ leBytes 2 (s.get .WEIR_MEAS_V5_MV) ++ leBytes 4 (s.wordOf .WTH_SPN_MEAS_SPEED) ++
    leBytes 4 (s.wordOf .TIDE_STATUS_STATE) ++ leBytes 8 s.opt)) ∧ Frame [.fenIrq, .aq, .dyke] [.fld .PEAT_STATUS_STAMP_WAIT,
    .fld .PEAT_STATUS_HELD, .fld .PEAT_STATUS_USED, .fld .PEAT_FRZ_AREA, .arr (.MBX_DONE_DONE 0) 0x4 2,
    .grid (.MBX_RSP_DATA 0 0) 0x400 64 0x4 64, .arr (.MBX_STAT_CANCEL_REQ 0) 0x400 64, .arr (.MBX_STAT_STARTED 0) 0x400 64,
    .arr (.MBX_STAT_STATE 0) 0x400 64, .arr (.MBX_LATCH_RSP_STATUS 0) 0x400 64, .fld .DYKE_SLOT_INACTIVE] s t)) ∧
  (∀ (s : State) (p : Nat) (n : Nat), s.Runs p 0x0A01 → n = min 14 (s.get .LEV_HIST_STATUS_COUNT - s.req p 16 1) →
    Completes (.faultHistory p) s (fun t => (Answered s t p 0 true (leBytes 1 (s.get .LEV_HIST_STATUS_COUNT) ++ leBytes 1 n ++
    leBytes 6 0 ++
    (List.range n).flatMap (fun i => (List.range 4).flatMap (fun w => leBytes 4 (s.get (.LEV_HIST_DATA ((s.get .LEV_HIST_STATUS_NEXT + 63 - (s.req p 16 1 + i)) % 32) w)))))) ∧
    Frame [.fenIrq, .aq, .dyke] [.fld .PEAT_STATUS_STAMP_WAIT, .fld .PEAT_STATUS_HELD, .fld .PEAT_STATUS_USED,
    .fld .PEAT_FRZ_AREA, .arr (.MBX_DONE_DONE 0) 0x4 2, .grid (.MBX_RSP_DATA 0 0) 0x400 64 0x4 64,
    .arr (.MBX_STAT_CANCEL_REQ 0) 0x400 64, .arr (.MBX_STAT_STARTED 0) 0x400 64, .arr (.MBX_STAT_STATE 0) 0x400 64,
    .arr (.MBX_LATCH_RSP_STATUS 0) 0x400 64, .fld .DYKE_SLOT_INACTIVE] s t)) ∧
  (∀ (s : State) (p : Nat) (r : Nat), s.Runs p 0x0A02 → r = (if s.req p 16 2 / 256 % 32 ∈ [6, 7, 11,
    12] then s.req p 18 1 % 2 ^ 5 else s.req p 18 1 % 2 ^ 2 + s.req p 18 1 / 2 ^ 3 % 2 ^ 2 * 2 ^ 3) →
    Completes (.faultReaction p) s (fun t => (Answered s t p 0 true (leBytes 1 r ++ leBytes 3 0) ∧
    t.get (.LEV_SRC_REACT (s.req p 16 2)) = r) ∧ Frame [.fenIrq, .aq, .dyke] [.fld .PEAT_STATUS_STAMP_WAIT,
    .fld .PEAT_STATUS_HELD, .fld .PEAT_STATUS_USED, .fld .PEAT_FRZ_AREA, .arr (.MBX_DONE_DONE 0) 0x4 2,
    .grid (.MBX_RSP_DATA 0 0) 0x400 64 0x4 64, .arr (.MBX_STAT_CANCEL_REQ 0) 0x400 64, .arr (.MBX_STAT_STARTED 0) 0x400 64,
    .arr (.MBX_STAT_STATE 0) 0x400 64, .arr (.MBX_LATCH_RSP_STATUS 0) 0x400 64, .arr (.LEV_SRC_REACT 0) 0x4 65536,
    .fld .DYKE_SLOT_INACTIVE] s t)) ∧
  (∀ (s : State) (p : Nat) (x : SourceRow), s.Runs p 0x0A03 → s.get .LEV_STATUS_FACTORY = 1 →
    sourceRow (s.req p 16 2) = some x → 0 < x.instances → s.req p 18 1 ≠ 0 →
    Completes (.faultInject p) s (fun t => (Answered s t p 0 true [] ∧ t.latched (s.req p 16 2) 0 = true) ∧
    Frame (alarmParts ++ ([.aq, .dyke] : List Part)) (alarmRegs ++ haltRegs ++ ([.arr (.MBX_DONE_DONE 0) 0x4 2,
    .grid (.MBX_RSP_DATA 0 0) 0x400 64 0x4 64, .arr (.MBX_STAT_CANCEL_REQ 0) 0x400 64, .arr (.MBX_STAT_STARTED 0) 0x400 64,
    .arr (.MBX_STAT_STATE 0) 0x400 64, .arr (.MBX_LATCH_RSP_STATUS 0) 0x400 64, .fld .LEV_STATUS_WR_DENY,
    .fld .DYKE_SLOT_INACTIVE] : List Regs)) s t)) ∧
  (∀ (s : State) (p : Nat), s.Runs p 0x0A04 → s.req p 16 2 = 0xFFFF →
    Completes (.faultClear p) s (fun t => (Answered s t p 0 true [] ∧ (∀ i < 197, ∀ l, t.lev.latches.at i = some l →
    l.cls = 2)) ∧ Frame [.fenIrq, .lev, .aq, .dyke] (([.fld .LEV_STATUS_F_LATCHED, .fld .LEV_STATUS_ERROR,
    .fld .LEV_STATUS_ALIVE_RUN, .arr (.LEV_LATCH_LINE 0) 0x4 7, .fld .PEAT_STATUS_STAMP_WAIT, .fld .PEAT_STATUS_HELD,
    .fld .PEAT_STATUS_USED, .fld .PEAT_FRZ_AREA, .arr (.MBX_DONE_DONE 0) 0x4 2, .grid (.MBX_RSP_DATA 0 0) 0x400 64 0x4 64,
    .arr (.MBX_STAT_CANCEL_REQ 0) 0x400 64, .arr (.MBX_STAT_STARTED 0) 0x400 64] : List Regs) ++
    ([.arr (.MBX_STAT_STATE 0) 0x400 64, .arr (.MBX_LATCH_RSP_STATUS 0) 0x400 64,
    .fld .DYKE_SLOT_INACTIVE] : List Regs)) s t)) ∧
  (∀ (s : State) (p : Nat) (x : SourceRow), s.Runs p 0x0A04 → sourceRow (s.req p 16 2) = some x →
    Completes (.faultClear p) s (fun t => (Answered s t p 0 true [] ∧ (∀ i < x.instances, ∀ l,
    t.lev.latches.at (x.firstLine + i) = some l → l.cls = 2)) ∧ Frame [.fenIrq, .lev, .aq,
    .dyke] (([.fld .LEV_STATUS_F_LATCHED, .fld .LEV_STATUS_ERROR, .fld .LEV_STATUS_ALIVE_RUN, .arr (.LEV_LATCH_LINE 0) 0x4 7,
    .fld .PEAT_STATUS_STAMP_WAIT, .fld .PEAT_STATUS_HELD, .fld .PEAT_STATUS_USED, .fld .PEAT_FRZ_AREA,
    .arr (.MBX_DONE_DONE 0) 0x4 2, .grid (.MBX_RSP_DATA 0 0) 0x400 64 0x4 64, .arr (.MBX_STAT_CANCEL_REQ 0) 0x400 64,
    .arr (.MBX_STAT_STARTED 0) 0x400 64] : List Regs) ++ ([.arr (.MBX_STAT_STATE 0) 0x400 64,
    .arr (.MBX_LATCH_RSP_STATUS 0) 0x400 64, .fld .DYKE_SLOT_INACTIVE] : List Regs)) s t))

/-- Completion and effects of the commands named, on the states named (after R232, R255, R256, R257, R434, R446, R453, each in
part). -/
def Obligations.AttestationIsServed : Prop :=
  (∀ (s : State) (p : Nat), s.Runs p 0x0B01 →
    Completes (.attestRead p) s (fun t => (Answered s t p 0 true (leBytes 4 (s.attestBytes (s.req p 16 1)).length ++
    leBytes 2 (((s.attestBytes (s.req p 16 1)).drop (s.req p 20 4)).take 232).length ++ leBytes 2 0 ++
    ((s.attestBytes (s.req p 16 1)).drop (s.req p 20 4)).take 232)) ∧ Frame [.fenIrq, .aq,
    .dyke] [.fld .PEAT_STATUS_STAMP_WAIT, .fld .PEAT_STATUS_HELD, .fld .PEAT_STATUS_USED, .fld .PEAT_FRZ_AREA,
    .arr (.MBX_DONE_DONE 0) 0x4 2, .grid (.MBX_RSP_DATA 0 0) 0x400 64 0x4 64, .arr (.MBX_STAT_CANCEL_REQ 0) 0x400 64,
    .arr (.MBX_STAT_STARTED 0) 0x400 64, .arr (.MBX_STAT_STATE 0) 0x400 64, .arr (.MBX_LATCH_RSP_STATUS 0) 0x400 64,
    .fld .DYKE_SLOT_INACTIVE] s t)) ∧
  (∀ (s : State) (p : Nat) (body : List Byte), s.Runs p 0x0B02 → body = leBytes 2 (s.req p 48 2) ++
    ((List.range 16).filter (fun r => s.req p 48 2 / 2 ^ r % 2 == 1)).flatMap s.mr ++ s.reqBytes p 16 32 →
    Completes (.attestQuote p) s (fun t => (Answered s t p 0 true (leBytes 4 t.aq.quote.length) ∧ t.aq.quote = body ++
    (s.signBy 3 body).1) ∧ Frame [.drawn, .fenIrq, .aq, .dyke] [.fld .PEAT_STATUS_STAMP_WAIT, .fld .PEAT_STATUS_HELD,
    .fld .PEAT_STATUS_USED, .fld .PEAT_FRZ_AREA, .arr (.MBX_DONE_DONE 0) 0x4 2, .grid (.MBX_RSP_DATA 0 0) 0x400 64 0x4 64,
    .arr (.MBX_STAT_CANCEL_REQ 0) 0x400 64, .arr (.MBX_STAT_STARTED 0) 0x400 64, .arr (.MBX_STAT_STATE 0) 0x400 64,
    .arr (.MBX_LATCH_RSP_STATUS 0) 0x400 64, .fld .DYKE_SLOT_INACTIVE] s t)) ∧
  (∀ (s : State) (p : Nat), s.Runs p 0x0B03 →
    Completes (.authChallenge p) s (fun t => (Answered s t p 0 true (leBytes 32 (s.draw 256).1) ∧ (∀ x ∈ t.aq.sessions,
    x.key = s.mbxKey p → x.challenge = some (BitVec.ofNat 256 (s.draw 256).1, s.opt)) ∧ t.drawn = s.drawn + 1) ∧
    Frame [.drawn, .fenIrq, .aq, .dyke] [.fld .PEAT_STATUS_STAMP_WAIT, .fld .PEAT_STATUS_HELD, .fld .PEAT_STATUS_USED,
    .fld .PEAT_FRZ_AREA, .arr (.MBX_DONE_DONE 0) 0x4 2, .grid (.MBX_RSP_DATA 0 0) 0x400 64 0x4 64,
    .arr (.MBX_STAT_CANCEL_REQ 0) 0x400 64, .arr (.MBX_STAT_STARTED 0) 0x400 64, .arr (.MBX_STAT_STATE 0) 0x400 64,
    .arr (.MBX_LATCH_RSP_STATUS 0) 0x400 64, .fld .DYKE_SLOT_INACTIVE] s t)) ∧
  (∀ (s : State) (p : Nat), s.Runs p 0x0B04 → Completes (.spdmMessage p) s (fun t => ((∃ (reply : List (List Byte) →
    List Byte) (out : List Byte),
    reply = (fun h => Config.spdmReply h ((List.range 4).map s.dyke.certs.at) ((List.range 16).map s.mr) (s.layerSeed 3) s.drawn) ∧
    out = ((((s.session (s.mbxKey p).1).filter (fun x => decide (x.key = s.mbxKey p))).getD {}).spdmTurn reply (s.reqBytes p 24 (s.req p 16 2))).2 ∧
    Answered s t p 0 true (leBytes 2 out.length ++ leBytes 6 0 ++ out) ∧ ∀ x ∈ t.aq.sessions, x.key = s.mbxKey p →
    x = ((((s.session (s.mbxKey p).1).filter (fun x => decide (x.key = s.mbxKey p))).getD {}).spdmTurn reply (s.reqBytes p 24 (s.req p 16 2))).1)) ∧
    Frame [.drawn, .fenIrq, .aq, .dyke] [.fld .PEAT_STATUS_STAMP_WAIT, .fld .PEAT_STATUS_HELD, .fld .PEAT_STATUS_USED,
    .fld .PEAT_FRZ_AREA, .arr (.MBX_DONE_DONE 0) 0x4 2, .grid (.MBX_RSP_DATA 0 0) 0x400 64 0x4 64,
    .arr (.MBX_STAT_CANCEL_REQ 0) 0x400 64, .arr (.MBX_STAT_STARTED 0) 0x400 64, .arr (.MBX_STAT_STATE 0) 0x400 64,
    .arr (.MBX_LATCH_RSP_STATUS 0) 0x400 64, .fld .DYKE_SLOT_INACTIVE] s t)) ∧
  (∀ (s : State) (p : Nat) (c : BitVec 256), s.Runs p 0x0B05 → (s.aq.runs.at p).challenge = some c →
    Completes (.factoryUnlock p) s (fun t => (((s.enrolled && ecdsaVerify (manKey (s.slot s.runSlot).manifest) (sha384 (leBytes 2 (s.mbxCmd p) ++
    leBytes 32 c.toNat ++ s.reqBytes p 16 8)) (s.reqBytes p 24 96)) = true → Answered s t p 0 true [] ∧
    t.get .DYKE_STATUS_FACTORY = 1 ∧ t.get .LEV_STATUS_FACTORY = 1) ∧
    ((s.enrolled && ecdsaVerify (manKey (s.slot s.runSlot).manifest) (sha384 (leBytes 2 (s.mbxCmd p) ++ leBytes 32 c.toNat ++
    s.reqBytes p 16 8)) (s.reqBytes p 24 96)) = false → Answered s t p 0x0150 true [] ∧ t.latched 0x0F02 0 = true ∧
    t.get .DYKE_STATUS_FACTORY = s.get .DYKE_STATUS_FACTORY)) ∧ Frame (alarmParts ++ ([.aq, .dyke] : List Part)) (alarmRegs ++
    haltRegs ++ ([.arr (.MBX_DONE_DONE 0) 0x4 2, .grid (.MBX_RSP_DATA 0 0) 0x400 64 0x4 64,
    .arr (.MBX_STAT_CANCEL_REQ 0) 0x400 64, .arr (.MBX_STAT_STARTED 0) 0x400 64, .arr (.MBX_STAT_STATE 0) 0x400 64,
    .arr (.MBX_LATCH_RSP_STATUS 0) 0x400 64, .fld .LEV_STATUS_FACTORY, .fld .DYKE_STATUS_FACTORY, .fld .DYKE_SLOT_INACTIVE,
    .grid (.DYKE_MR_DATA 0 0) 0x30 16 0x4 12] : List Regs)) s t))

/-- Completion and effects of the commands named, on the states named (after R250, R251, R252, R438, R444, R450, R451, R452,
each in part). -/
def Obligations.UpdatesAreServed : Prop :=
  (∀ (s : State) (p : Nat) (norOk : Bool), s.Runs p 0x0801 → (s.aq.runs.at p).phase = 0 →
    Completes (.updateBegin p norOk) s (fun t => (t.dyke.slots.at s.otherSlot = { state := 1 } ∧
    t.get .DYKE_SLOT_INACTIVE = 1 ∧ t.dyke.owner = none ∧ t.dyke.package = [] ∧ (t.aq.runs.at p).phase = 1 ∧ t.mbx p = 2) ∧
    Frame [.fenIrq, .aq, .dyke] (([.fld .PEAT_STATUS_STAMP_WAIT, .fld .PEAT_STATUS_HELD, .fld .PEAT_STATUS_USED,
    .fld .PEAT_FRZ_AREA, .arr (.MBX_DONE_DONE 0) 0x4 2, .grid (.MBX_RSP_DATA 0 0) 0x400 64 0x4 64,
    .arr (.MBX_STAT_CANCEL_REQ 0) 0x400 64, .arr (.MBX_STAT_STARTED 0) 0x400 64, .arr (.MBX_STAT_STATE 0) 0x400 64,
    .arr (.MBX_LATCH_RSP_STATUS 0) 0x400 64, .fld .DYKE_SLOT_SEQ, .fld .DYKE_SLOT_INACTIVE] : List Regs) ++
    ([.fld .DYKE_SLOT_CONFIRMED, .fld .DYKE_SLOT_POINTED] : List Regs)) s t)) ∧
  (∀ (s : State) (p : Nat), s.Runs p 0x0801 → (s.aq.runs.at p).phase = 1 → s.cancelAsked p = false →
    Completes (.updateBegin p true) s (fun t => (Answered s t p 0 true [] ∧ (s.sessionOpen p = true →
    t.dyke.owner = some (s.mbxKey p) ∧ t.dyke.total = s.req p 16 4)) ∧ Frame [.fenIrq, .aq,
    .dyke] (([.fld .PEAT_STATUS_STAMP_WAIT, .fld .PEAT_STATUS_HELD, .fld .PEAT_STATUS_USED, .fld .PEAT_FRZ_AREA,
    .arr (.MBX_DONE_DONE 0) 0x4 2, .grid (.MBX_RSP_DATA 0 0) 0x400 64 0x4 64, .arr (.MBX_STAT_CANCEL_REQ 0) 0x400 64,
    .arr (.MBX_STAT_STARTED 0) 0x400 64, .arr (.MBX_STAT_STATE 0) 0x400 64, .arr (.MBX_LATCH_RSP_STATUS 0) 0x400 64,
    .fld .DYKE_SLOT_SEQ, .fld .DYKE_SLOT_INACTIVE] : List Regs) ++ ([.fld .DYKE_SLOT_CONFIRMED,
    .fld .DYKE_SLOT_POINTED] : List Regs)) s t)) ∧
  (∀ (s : State) (p : Nat), s.Runs p 0x0801 → (s.aq.runs.at p).phase = 1 → s.cancelAsked p = false →
    Completes (.updateBegin p false) s (fun t => (Answered s t p 0x0164 true [] ∧ (t.dyke.slots.at s.otherSlot).state = 3 ∧
    t.dyke.owner = none ∧ t.dyke.package = []) ∧ Frame [.fenIrq, .aq, .dyke] (([.fld .PEAT_STATUS_STAMP_WAIT,
    .fld .PEAT_STATUS_HELD, .fld .PEAT_STATUS_USED, .fld .PEAT_FRZ_AREA, .arr (.MBX_DONE_DONE 0) 0x4 2,
    .grid (.MBX_RSP_DATA 0 0) 0x400 64 0x4 64, .arr (.MBX_STAT_CANCEL_REQ 0) 0x400 64, .arr (.MBX_STAT_STARTED 0) 0x400 64,
    .arr (.MBX_STAT_STATE 0) 0x400 64, .arr (.MBX_LATCH_RSP_STATUS 0) 0x400 64, .fld .DYKE_SLOT_SEQ,
    .fld .DYKE_SLOT_INACTIVE] : List Regs) ++ ([.fld .DYKE_SLOT_CONFIRMED, .fld .DYKE_SLOT_POINTED] : List Regs)) s t)) ∧
  (∀ (s : State) (p : Nat) (norOk : Bool), s.Runs p 0x0801 → (s.aq.runs.at p).phase = 1 → s.cancelAsked p = true →
    Completes (.updateBegin p norOk) s (fun t => (Answered s t p 0x40 true [] ∧ (t.dyke.slots.at s.otherSlot).state = 3 ∧
    t.dyke.owner = none ∧ t.dyke.package = []) ∧ Frame [.fenIrq, .aq, .dyke] (([.fld .PEAT_STATUS_STAMP_WAIT,
    .fld .PEAT_STATUS_HELD, .fld .PEAT_STATUS_USED, .fld .PEAT_FRZ_AREA, .arr (.MBX_DONE_DONE 0) 0x4 2,
    .grid (.MBX_RSP_DATA 0 0) 0x400 64 0x4 64, .arr (.MBX_STAT_CANCEL_REQ 0) 0x400 64, .arr (.MBX_STAT_STARTED 0) 0x400 64,
    .arr (.MBX_STAT_STATE 0) 0x400 64, .arr (.MBX_LATCH_RSP_STATUS 0) 0x400 64, .fld .DYKE_SLOT_SEQ,
    .fld .DYKE_SLOT_INACTIVE] : List Regs) ++ ([.fld .DYKE_SLOT_CONFIRMED, .fld .DYKE_SLOT_POINTED] : List Regs)) s t)) ∧
  (∀ (s : State) (p : Nat), s.Runs p 0x0802 → Completes (.updateData p true) s (fun t => (Answered s t p 0 true [] ∧
    (s.sessionOpen p = true → t.dyke.package = s.dyke.package ++ s.reqBytes p 24 (s.req p 20 2) ∧
    t.dyke.slots = s.dyke.slots)) ∧ Frame [.fenIrq, .aq, .dyke] [.fld .PEAT_STATUS_STAMP_WAIT, .fld .PEAT_STATUS_HELD,
    .fld .PEAT_STATUS_USED, .fld .PEAT_FRZ_AREA, .arr (.MBX_DONE_DONE 0) 0x4 2, .grid (.MBX_RSP_DATA 0 0) 0x400 64 0x4 64,
    .arr (.MBX_STAT_CANCEL_REQ 0) 0x400 64, .arr (.MBX_STAT_STARTED 0) 0x400 64, .arr (.MBX_STAT_STATE 0) 0x400 64,
    .arr (.MBX_LATCH_RSP_STATUS 0) 0x400 64, .fld .DYKE_SLOT_INACTIVE] s t)) ∧
  (∀ (s : State) (p : Nat), s.Runs p 0x0802 → Completes (.updateData p false) s (fun t => (Answered s t p 0x0164 true [] ∧
    (t.dyke.slots.at s.otherSlot).state = 3 ∧ t.dyke.owner = none ∧ t.dyke.package = []) ∧ Frame [.fenIrq, .aq,
    .dyke] [.fld .PEAT_STATUS_STAMP_WAIT, .fld .PEAT_STATUS_HELD, .fld .PEAT_STATUS_USED, .fld .PEAT_FRZ_AREA,
    .arr (.MBX_DONE_DONE 0) 0x4 2, .grid (.MBX_RSP_DATA 0 0) 0x400 64 0x4 64, .arr (.MBX_STAT_CANCEL_REQ 0) 0x400 64,
    .arr (.MBX_STAT_STARTED 0) 0x400 64, .arr (.MBX_STAT_STATE 0) 0x400 64, .arr (.MBX_LATCH_RSP_STATUS 0) 0x400 64,
    .fld .DYKE_SLOT_INACTIVE] s t)) ∧
  (∀ (s : State) (p : Nat) (norOk : Bool) (status part : Nat), s.Runs p 0x0803 → (s.aq.runs.at p).phase = 0 →
    s.applyCheck = some (status, part) →
    Completes (.updateApply p norOk) s (fun t => (Answered s t p status true (leBytes 2 0 ++ leBytes 1 part ++ [0] ++
    leBytes 4 (manVersion s.packManifest)) ∧ (t.dyke.slots.at s.otherSlot).state = 3 ∧ t.dyke.owner = none ∧
    t.dyke.package = []) ∧ Frame (alarmParts ++ ([.aq, .dyke] : List Part)) (alarmRegs ++ haltRegs ++
    ([.arr (.MBX_DONE_DONE 0) 0x4 2, .grid (.MBX_RSP_DATA 0 0) 0x400 64 0x4 64, .arr (.MBX_STAT_CANCEL_REQ 0) 0x400 64,
    .arr (.MBX_STAT_STARTED 0) 0x400 64, .arr (.MBX_STAT_STATE 0) 0x400 64, .arr (.MBX_LATCH_RSP_STATUS 0) 0x400 64,
    .fld .DYKE_SLOT_SEQ, .fld .DYKE_SLOT_INACTIVE, .fld .DYKE_SLOT_CONFIRMED, .fld .DYKE_SLOT_POINTED] : List Regs)) s t)) ∧
  (∀ (s : State) (p : Nat) (norOk : Bool), s.Runs p 0x0803 → (s.aq.runs.at p).phase = 0 →
    Completes (.updateApply p norOk) s (fun t => ((s.applyCheck = none → (t.aq.runs.at p).phase = 1 ∧ t.mbx p = 2 ∧
    t.dyke = s.dyke)) ∧ Frame (alarmParts ++ ([.aq, .dyke] : List Part)) (alarmRegs ++ haltRegs ++
    ([.arr (.MBX_DONE_DONE 0) 0x4 2, .grid (.MBX_RSP_DATA 0 0) 0x400 64 0x4 64, .arr (.MBX_STAT_CANCEL_REQ 0) 0x400 64,
    .arr (.MBX_STAT_STARTED 0) 0x400 64, .arr (.MBX_STAT_STATE 0) 0x400 64, .arr (.MBX_LATCH_RSP_STATUS 0) 0x400 64,
    .fld .DYKE_SLOT_SEQ, .fld .DYKE_SLOT_INACTIVE, .fld .DYKE_SLOT_CONFIRMED, .fld .DYKE_SLOT_POINTED] : List Regs)) s t)) ∧
  (∀ (s : State) (p : Nat) (q : Nat), s.Runs p 0x0803 → (s.aq.runs.at p).phase = (q + 1) → q < 7 → s.cancelAsked p = false →
    Completes (.updateApply p true) s (fun t => ((∀ x, s.makePart q = .ok x → (t.aq.runs.at p).phase = q + 2 ∧
    (t.aq.runs.at p).good = (s.aq.runs.at p).good + (if entryAt s.packManifest q 1 1 = 0 then 0 else 2 ^ q) ∧
    (t.dyke.slots.at s.otherSlot).images = (s.dyke.slots.at s.otherSlot).images.take q ++ [x] ∧ t.mbx p = 2) ∧ (∀ status,
    s.makePart q = .error status → Answered s t p status true (leBytes 2 (s.aq.runs.at p).good ++ leBytes 1 q ++ [0] ++
    leBytes 4 (manVersion s.packManifest)) ∧ (t.dyke.slots.at s.otherSlot).state = 3 ∧ t.dyke.owner = none)) ∧
    Frame (alarmParts ++ ([.aq, .dyke] : List Part)) (alarmRegs ++ haltRegs ++ ([.arr (.MBX_DONE_DONE 0) 0x4 2,
    .grid (.MBX_RSP_DATA 0 0) 0x400 64 0x4 64, .arr (.MBX_STAT_CANCEL_REQ 0) 0x400 64, .arr (.MBX_STAT_STARTED 0) 0x400 64,
    .arr (.MBX_STAT_STATE 0) 0x400 64, .arr (.MBX_LATCH_RSP_STATUS 0) 0x400 64, .fld .DYKE_SLOT_SEQ, .fld .DYKE_SLOT_INACTIVE,
    .fld .DYKE_SLOT_CONFIRMED, .fld .DYKE_SLOT_POINTED] : List Regs)) s t)) ∧
  (∀ (s : State) (p : Nat) (norOk : Bool) (q : Nat), s.Runs p 0x0803 → (s.aq.runs.at p).phase = (q + 1) → q < 7 →
    s.cancelAsked p = true → Completes (.updateApply p norOk) s (fun t => (Answered s t p 0x40 true [] ∧
    (t.dyke.slots.at s.otherSlot).state = 3 ∧ t.dyke.owner = none ∧ t.dyke.package = []) ∧ Frame (alarmParts ++ ([.aq,
    .dyke] : List Part)) (alarmRegs ++ haltRegs ++ ([.arr (.MBX_DONE_DONE 0) 0x4 2, .grid (.MBX_RSP_DATA 0 0) 0x400 64 0x4 64,
    .arr (.MBX_STAT_CANCEL_REQ 0) 0x400 64, .arr (.MBX_STAT_STARTED 0) 0x400 64, .arr (.MBX_STAT_STATE 0) 0x400 64,
    .arr (.MBX_LATCH_RSP_STATUS 0) 0x400 64, .fld .DYKE_SLOT_SEQ, .fld .DYKE_SLOT_INACTIVE, .fld .DYKE_SLOT_CONFIRMED,
    .fld .DYKE_SLOT_POINTED] : List Regs)) s t)) ∧
  (∀ (s : State) (p : Nat) (q : Nat), s.Runs p 0x0803 → (s.aq.runs.at p).phase = (q + 1) → q < 7 → s.cancelAsked p = false →
    Completes (.updateApply p false) s (fun t => (Answered s t p 0x0164 true [] ∧ (t.dyke.slots.at s.otherSlot).state = 3 ∧
    t.dyke.owner = none ∧ t.dyke.package = []) ∧ Frame (alarmParts ++ ([.aq, .dyke] : List Part)) (alarmRegs ++ haltRegs ++
    ([.arr (.MBX_DONE_DONE 0) 0x4 2, .grid (.MBX_RSP_DATA 0 0) 0x400 64 0x4 64, .arr (.MBX_STAT_CANCEL_REQ 0) 0x400 64,
    .arr (.MBX_STAT_STARTED 0) 0x400 64, .arr (.MBX_STAT_STATE 0) 0x400 64, .arr (.MBX_LATCH_RSP_STATUS 0) 0x400 64,
    .fld .DYKE_SLOT_SEQ, .fld .DYKE_SLOT_INACTIVE, .fld .DYKE_SLOT_CONFIRMED, .fld .DYKE_SLOT_POINTED] : List Regs)) s t)) ∧
  (∀ (s : State) (p : Nat) (norOk : Bool), s.Runs p 0x0803 → 8 ≤ (s.aq.runs.at p).phase →
    Completes (.updateApply p norOk) s (fun t => (Answered s t p 0 true (leBytes 2 (s.aq.runs.at p).good ++ leBytes 1 0xFF ++
    [0] ++ leBytes 4 (manVersion s.packManifest)) ∧ (s.sessionOpen p = true → (t.dyke.slots.at s.otherSlot).state = 2 ∧
    (t.dyke.slots.at s.otherSlot).manifest = s.packManifest ∧ t.dyke.applied = true ∧ t.get .DYKE_SLOT_INACTIVE = 2)) ∧
    Frame (alarmParts ++ ([.aq, .dyke] : List Part)) (alarmRegs ++ haltRegs ++ ([.arr (.MBX_DONE_DONE 0) 0x4 2,
    .grid (.MBX_RSP_DATA 0 0) 0x400 64 0x4 64, .arr (.MBX_STAT_CANCEL_REQ 0) 0x400 64, .arr (.MBX_STAT_STARTED 0) 0x400 64,
    .arr (.MBX_STAT_STATE 0) 0x400 64, .arr (.MBX_LATCH_RSP_STATUS 0) 0x400 64, .fld .DYKE_SLOT_SEQ, .fld .DYKE_SLOT_INACTIVE,
    .fld .DYKE_SLOT_CONFIRMED, .fld .DYKE_SLOT_POINTED] : List Regs)) s t)) ∧
  (∀ (s : State) (p : Nat), s.Runs p 0x0804 → Completes (.updateActivate p true) s (fun t => (Answered s t p 0 true [] ∧
    t.dyke.owner = none ∧ t.get .DYKE_SLOT_POINTED = s.otherSlot ∧ t.get .DYKE_SLOT_CONFIRMED = 0 ∧ (s.req p 16 1 = 1 →
    t.lev.resetReq.isSome = true)) ∧ Frame (alarmParts ++ ([.drawn, .aq, .dyke] : List Part)) (alarmRegs ++ haltRegs ++
    ([.arr (.MBX_DONE_DONE 0) 0x4 2, .grid (.MBX_RSP_DATA 0 0) 0x400 64 0x4 64, .arr (.MBX_STAT_CANCEL_REQ 0) 0x400 64,
    .arr (.MBX_STAT_STARTED 0) 0x400 64, .arr (.MBX_STAT_STATE 0) 0x400 64, .arr (.MBX_LATCH_RSP_STATUS 0) 0x400 64,
    .fld .DYKE_SLOT_SEQ, .fld .DYKE_SLOT_INACTIVE, .fld .DYKE_SLOT_CONFIRMED, .fld .DYKE_SLOT_POINTED] : List Regs)) s t)) ∧
  (∀ (s : State) (p : Nat), s.Runs p 0x0804 → Completes (.updateActivate p false) s (fun t => (Answered s t p 0x0164 true [] ∧
    t.dyke.owner = none ∧ t.dyke.copies = s.dyke.copies ∧ t.get .DYKE_SLOT_POINTED = s.get .DYKE_SLOT_POINTED) ∧
    Frame (alarmParts ++ ([.drawn, .aq, .dyke] : List Part)) (alarmRegs ++ haltRegs ++ ([.arr (.MBX_DONE_DONE 0) 0x4 2,
    .grid (.MBX_RSP_DATA 0 0) 0x400 64 0x4 64, .arr (.MBX_STAT_CANCEL_REQ 0) 0x400 64, .arr (.MBX_STAT_STARTED 0) 0x400 64,
    .arr (.MBX_STAT_STATE 0) 0x400 64, .arr (.MBX_LATCH_RSP_STATUS 0) 0x400 64, .fld .DYKE_SLOT_SEQ, .fld .DYKE_SLOT_INACTIVE,
    .fld .DYKE_SLOT_CONFIRMED, .fld .DYKE_SLOT_POINTED] : List Regs)) s t)) ∧
  (∀ (s : State) (p : Nat), s.Runs p 0x0805 →
    Completes (.updateStatus p) s (fun t => (Answered s t p 0 true (leBytes 1 s.runSlot ++
    leBytes 1 (s.get .DYKE_SLOT_INACTIVE) ++ leBytes 1 s.booted.toNat ++ [0] ++
    leBytes 4 (manVersion (s.slot s.runSlot).manifest) ++ leBytes 4 (manVersion (s.slot s.otherSlot).manifest) ++
    leBytes 4 (s.get (.DYKE_FLOOR_COUNT 7)) ++
    leBytes 2 ((List.range 8).foldl (fun n c => min n (64 - s.get (.DYKE_FLOOR_COUNT c))) 64) ++ leBytes 6 0)) ∧
    Frame [.fenIrq, .aq, .dyke] [.fld .PEAT_STATUS_STAMP_WAIT, .fld .PEAT_STATUS_HELD, .fld .PEAT_STATUS_USED,
    .fld .PEAT_FRZ_AREA, .arr (.MBX_DONE_DONE 0) 0x4 2, .grid (.MBX_RSP_DATA 0 0) 0x400 64 0x4 64,
    .arr (.MBX_STAT_CANCEL_REQ 0) 0x400 64, .arr (.MBX_STAT_STARTED 0) 0x400 64, .arr (.MBX_STAT_STATE 0) 0x400 64,
    .arr (.MBX_LATCH_RSP_STATUS 0) 0x400 64, .fld .DYKE_SLOT_INACTIVE] s t)) ∧
  (∀ (s : State) (p : Nat), s.Runs p 0x0806 → s.dyke.owner = some (s.mbxKey p) → s.dyke.applied = false →
    Completes (.updateAbort p) s (fun t => (Answered s t p 0 true [] ∧ (t.dyke.slots.at s.otherSlot).state = 3 ∧
    t.dyke.owner = none ∧ t.dyke.package = [] ∧ t.get .DYKE_SLOT_INACTIVE = 3) ∧ Frame [.fenIrq, .aq,
    .dyke] [.fld .PEAT_STATUS_STAMP_WAIT, .fld .PEAT_STATUS_HELD, .fld .PEAT_STATUS_USED, .fld .PEAT_FRZ_AREA,
    .arr (.MBX_DONE_DONE 0) 0x4 2, .grid (.MBX_RSP_DATA 0 0) 0x400 64 0x4 64, .arr (.MBX_STAT_CANCEL_REQ 0) 0x400 64,
    .arr (.MBX_STAT_STARTED 0) 0x400 64, .arr (.MBX_STAT_STATE 0) 0x400 64, .arr (.MBX_LATCH_RSP_STATUS 0) 0x400 64,
    .fld .DYKE_SLOT_INACTIVE] s t)) ∧
  (∀ (s : State) (p : Nat), s.Runs p 0x0806 → s.dyke.owner = some (s.mbxKey p) → s.dyke.applied = true →
    Completes (.updateAbort p) s (fun t => (Answered s t p 0 true [] ∧ t.dyke.owner = none ∧ t.dyke.slots = s.dyke.slots) ∧
    Frame [.fenIrq, .aq, .dyke] [.fld .PEAT_STATUS_STAMP_WAIT, .fld .PEAT_STATUS_HELD, .fld .PEAT_STATUS_USED,
    .fld .PEAT_FRZ_AREA, .arr (.MBX_DONE_DONE 0) 0x4 2, .grid (.MBX_RSP_DATA 0 0) 0x400 64 0x4 64,
    .arr (.MBX_STAT_CANCEL_REQ 0) 0x400 64, .arr (.MBX_STAT_STARTED 0) 0x400 64, .arr (.MBX_STAT_STATE 0) 0x400 64,
    .arr (.MBX_LATCH_RSP_STATUS 0) 0x400 64, .fld .DYKE_SLOT_INACTIVE] s t)) ∧
  (∀ (s : State) (p : Nat), s.Runs p 0x0806 → s.dyke.owner ≠ some (s.mbxKey p) →
    Completes (.updateAbort p) s (fun t => (Answered s t p 0 true [] ∧ t.dyke = s.dyke) ∧ Frame [.fenIrq, .aq,
    .dyke] [.fld .PEAT_STATUS_STAMP_WAIT, .fld .PEAT_STATUS_HELD, .fld .PEAT_STATUS_USED, .fld .PEAT_FRZ_AREA,
    .arr (.MBX_DONE_DONE 0) 0x4 2, .grid (.MBX_RSP_DATA 0 0) 0x400 64 0x4 64, .arr (.MBX_STAT_CANCEL_REQ 0) 0x400 64,
    .arr (.MBX_STAT_STARTED 0) 0x400 64, .arr (.MBX_STAT_STATE 0) 0x400 64, .arr (.MBX_LATCH_RSP_STATUS 0) 0x400 64,
    .fld .DYKE_SLOT_INACTIVE] s t)) ∧
  (∀ (s : State) (p : Nat) (c : Nat), s.Runs p 0x0807 → s.nextFuse = some c → s.get (.DYKE_FLOOR_COUNT c) < 64 →
    Completes (.updateFloor p) s (fun t => (t.get (.DYKE_FLOOR_COUNT c) = s.get (.DYKE_FLOOR_COUNT c) + 1 ∧ t.mbx p = 2) ∧
    Frame (alarmParts ++ ([.aq, .dyke] : List Part)) (alarmRegs ++ haltRegs ++ ([.arr (.MBX_DONE_DONE 0) 0x4 2,
    .grid (.MBX_RSP_DATA 0 0) 0x400 64 0x4 64, .arr (.MBX_STAT_CANCEL_REQ 0) 0x400 64, .arr (.MBX_STAT_STARTED 0) 0x400 64,
    .arr (.MBX_STAT_STATE 0) 0x400 64, .arr (.MBX_LATCH_RSP_STATUS 0) 0x400 64, .fld .DYKE_SLOT_INACTIVE,
    .arr (.DYKE_FLOOR_COUNT 0) 0x4 8] : List Regs)) s t)) ∧
  (∀ (s : State) (p : Nat), s.Runs p 0x0807 → s.nextFuse = none →
    Completes (.updateFloor p) s (fun t => (Answered s t p 0 true (leBytes 4 (s.get (.DYKE_FLOOR_COUNT 7)))) ∧
    Frame (alarmParts ++ ([.aq, .dyke] : List Part)) (alarmRegs ++ haltRegs ++ ([.arr (.MBX_DONE_DONE 0) 0x4 2,
    .grid (.MBX_RSP_DATA 0 0) 0x400 64 0x4 64, .arr (.MBX_STAT_CANCEL_REQ 0) 0x400 64, .arr (.MBX_STAT_STARTED 0) 0x400 64,
    .arr (.MBX_STAT_STATE 0) 0x400 64, .arr (.MBX_LATCH_RSP_STATUS 0) 0x400 64, .fld .DYKE_SLOT_INACTIVE,
    .arr (.DYKE_FLOOR_COUNT 0) 0x4 8] : List Regs)) s t))

/-- Completion and effects of the commands named, on the states named (after R14, R89, R239, R430, R434, R435, R439, R440,
R441, R442, R443, R447, R478, R479, R480, R481, R482, R484, R485, R486, each in part). -/
def Obligations.BootReachesReady : Prop :=
  (∀ (s : State) (found : BootFound), s.weir.powered = true → s.dyke.stuck = false → s.mireRuns = false →
    s.get .DYKE_STATUS_STAGE = 0 → Completes (.bootRom found) s (fun t => (((t.get .DYKE_STATUS_STAGE = 2 ∧
    t.mireRuns = true ∧ t.warmBusy = false ∧ t.get .DYKE_STATUS_UDS_LOCK = 1 ∧ t.dyke.completed = false ∧
    t.dyke.recorded = false) ∨ ((t.get .DYKE_STATUS_STAGE = 4 ∨ t.get .DYKE_STATUS_STAGE = 5) ∧ t.dyke.stuck = true ∧
    t.mireRuns = false))) ∧ Frame (alarmParts ++ ([.sram, .drawn, .weir, .mireRuns, .warmBusy, .slu, .aq,
    .dyke] : List Part)) (alarmRegs ++ haltRegs ++ ([.fld .LEV_STATUS_FACTORY, .fld .DYKE_STATUS_FACTORY,
    .fld .DYKE_STATUS_UDS_LOCK, .fld .DYKE_STATUS_STAGE, .fld .DYKE_BOOT_KIND, .fld .DYKE_BOOT_TRIAL,
    .fld .DYKE_BOOT_FALLBACK, .fld .DYKE_BOOT_TRIES, .fld .DYKE_BOOT_ROM_TIME, .fld .DYKE_SLOT_SEQ, .fld .DYKE_SLOT_INACTIVE,
    .fld .DYKE_SLOT_CONFIRMED] : List Regs) ++ ([.fld .DYKE_SLOT_POINTED, .fld .DYKE_SLOT_RUNNING,
    .arr (.DYKE_VER_VERSION 0) 0x4 7, .grid (.DYKE_MR_DATA 0 0) 0x30 16 0x4 12] : List Regs)) s t)) ∧
  (∀ (s : State) (found : BootFound), s.weir.powered = true → s.dyke.stuck = false → s.mireRuns = false →
    s.get .DYKE_STATUS_STAGE = 0 → found.otpFatal = true →
    Completes (.bootRom found) s (fun t => (t.get .DYKE_STATUS_STAGE = 5 ∧ t.dyke.stuck = true ∧ t.mireRuns = false) ∧
    Frame (alarmParts ++ ([.sram, .drawn, .weir, .mireRuns, .warmBusy, .slu, .aq, .dyke] : List Part)) (alarmRegs ++
    haltRegs ++ ([.fld .LEV_STATUS_FACTORY, .fld .DYKE_STATUS_FACTORY, .fld .DYKE_STATUS_UDS_LOCK, .fld .DYKE_STATUS_STAGE,
    .fld .DYKE_BOOT_KIND, .fld .DYKE_BOOT_TRIAL, .fld .DYKE_BOOT_FALLBACK, .fld .DYKE_BOOT_TRIES, .fld .DYKE_BOOT_ROM_TIME,
    .fld .DYKE_SLOT_SEQ, .fld .DYKE_SLOT_INACTIVE, .fld .DYKE_SLOT_CONFIRMED] : List Regs) ++ ([.fld .DYKE_SLOT_POINTED,
    .fld .DYKE_SLOT_RUNNING, .arr (.DYKE_VER_VERSION 0) 0x4 7, .grid (.DYKE_MR_DATA 0 0) 0x30 16 0x4 12] : List Regs)) s t)) ∧
  (∀ (s : State) (found : BootFound), s.weir.powered = true → s.dyke.stuck = false → s.mireRuns = false →
    s.get .DYKE_STATUS_STAGE = 0 → found.otpFatal = false → s.get .DYKE_STATUS_STRAP = 0 → s.get .DYKE_STATUS_LIFECYCLE = 0 →
    Completes (.bootRom found) s (fun t => (t.get .DYKE_STATUS_STAGE = 4 ∧ t.dyke.stuck = true ∧ t.mireRuns = false ∧
    t.get .DYKE_STATUS_FACTORY = 0) ∧ Frame (alarmParts ++ ([.sram, .drawn, .weir, .mireRuns, .warmBusy, .slu, .aq,
    .dyke] : List Part)) (alarmRegs ++ haltRegs ++ ([.fld .LEV_STATUS_FACTORY, .fld .DYKE_STATUS_FACTORY,
    .fld .DYKE_STATUS_UDS_LOCK, .fld .DYKE_STATUS_STAGE, .fld .DYKE_BOOT_KIND, .fld .DYKE_BOOT_TRIAL,
    .fld .DYKE_BOOT_FALLBACK, .fld .DYKE_BOOT_TRIES, .fld .DYKE_BOOT_ROM_TIME, .fld .DYKE_SLOT_SEQ, .fld .DYKE_SLOT_INACTIVE,
    .fld .DYKE_SLOT_CONFIRMED] : List Regs) ++ ([.fld .DYKE_SLOT_POINTED, .fld .DYKE_SLOT_RUNNING,
    .arr (.DYKE_VER_VERSION 0) 0x4 7, .grid (.DYKE_MR_DATA 0 0) 0x30 16 0x4 12] : List Regs)) s t)) ∧
  (∀ (s : State) (found : BootFound), s.warmBusy = false →
    (s.weir.powered = false ∨ s.dyke.stuck = true ∨ s.mireRuns = true ∨ s.get .DYKE_STATUS_STAGE ≠ 0) →
    Completes (.bootRom found) s (fun t => (t = s) ∧ Frame (alarmParts ++ ([.sram, .drawn, .weir, .mireRuns, .warmBusy, .slu,
    .aq, .dyke] : List Part)) (alarmRegs ++ haltRegs ++ ([.fld .LEV_STATUS_FACTORY, .fld .DYKE_STATUS_FACTORY,
    .fld .DYKE_STATUS_UDS_LOCK, .fld .DYKE_STATUS_STAGE, .fld .DYKE_BOOT_KIND, .fld .DYKE_BOOT_TRIAL,
    .fld .DYKE_BOOT_FALLBACK, .fld .DYKE_BOOT_TRIES, .fld .DYKE_BOOT_ROM_TIME, .fld .DYKE_SLOT_SEQ, .fld .DYKE_SLOT_INACTIVE,
    .fld .DYKE_SLOT_CONFIRMED] : List Regs) ++ ([.fld .DYKE_SLOT_POINTED, .fld .DYKE_SLOT_RUNNING,
    .arr (.DYKE_VER_VERSION 0) 0x4 7, .grid (.DYKE_MR_DATA 0 0) 0x30 16 0x4 12] : List Regs)) s t)) ∧
  (∀ (s : State) (cal : MotorCal), s.mireActs = true → s.aqsiaUp = false → s.get .DYKE_STATUS_STAGE = 2 →
    Completes (.aqsiaBoot cal) s (fun t => (t.aqsiaUp = true ∧ t.get .DYKE_STATUS_STAGE = 3 ∧ t.get .MBX_INFO_MAJOR = 3 ∧
    t.get .MBX_INFO_MINOR = 4 ∧ t.get .MBX_START_KIND = s.get .DYKE_BOOT_KIND % 4 ∧ (s.committed = false →
    t.get .MBX_START_STEP = 5 ∧ t.get .MBX_START_RESULT = 0 ∧ t.get .MBX_START_LOADED = 0 ∧ t.get .MBX_START_FAILED = 0 ∧
    t.aq.starting = true)) ∧ Frame (alarmParts ++ ([.dram, .drawn, .slu, .sth, .mq, .aq, .dyke] : List Part)) (alarmRegs ++
    haltRegs ++ ([.fld .TIDE_STATUS_OPT_LOADED, .fld .TIDE_OPT_LO_MS_LO, .fld .TIDE_OPT_HI_MS_HI, .fld .TIDE_T1_OFS_OFS,
    .arr (.TIDE_SURF_OFS_OFS 0) 0x4 24, .fld .WTH_SPN_KE_KE_NOM, .arr (.WTH_RET_CFG_VEL 0) 0x4 4,
    .arr (.WTH_RET_CFG_RCOIL 0) 0x4 4, .arr (.WTH_RET_CFG_IMAX 0) 0x4 4, .arr (.WTH_RET_CFG_DIR 0) 0x4 4,
    .fld .REED_UCODE_VER_BASE, .fld .REED_UCODE_VER_PATCH] : List Regs) ++ ([.fld .REED_CS_CTRL_SEQ_MASK,
    .fld .REED_CS_CTRL_ADDR, .fld .MBX_INFO_MAJOR, .fld .MBX_INFO_MINOR, .fld .MBX_INFO_AQSIA_UP, .fld .MBX_EPOCH_PCC,
    .arr (.MBX_DONE_DONE 0) 0x4 2, .grid (.MBX_RSP_DATA 0 0) 0x400 64 0x4 64, .arr (.MBX_STAT_CANCEL_REQ 0) 0x400 64,
    .arr (.MBX_STAT_STARTED 0) 0x400 64, .arr (.MBX_STAT_STATE 0) 0x400 64,
    .arr (.MBX_LATCH_RSP_STATUS 0) 0x400 64] : List Regs) ++ ([.arr (.MWQ_HEAD_HEAD 0) 0x20 16,
    .arr (.MWQ_STATUS_BLOCKED 0) 0x20 16, .arr (.MWQ_STATUS_OUTST 0) 0x20 16, .arr (.MWC_PI_PASS 0) 0x20 4,
    .arr (.MWC_PI_PI 0) 0x20 4, .arr (.MWC_STATUS_SCAN_STOP 0) 0x20 4, .arr (.MWC_STATUS_SPILL_CNT 0) 0x20 4,
    .fld .MWQ_SYS_STATUS_FLUSH, .fld .MWQ_SYS_STATUS_CAL, .fld .STH_FATE_STATUS_UNRESOLVED, .fld .STH_FATE_STATUS_RECORDS,
    .fld .SLU_STATUS_LED_FREE] : List Regs) ++ ([.arr (.SLU_SEC_FREE_FREE 0) 0x4 4, .arr (.SLU_SEC_RUN_RUN 0) 0x4 4,
    .arr (.SLU_CRED_USED_USED 0) 0x4 32, .fld .DYKE_STATUS_STAGE, .fld .DYKE_SLOT_INACTIVE, .fld .PEAT_PCC_COUNT,
    .fld .MBX_START_RESULT, .fld .MBX_START_STEP, .fld .MBX_START_CAUSE, .fld .MBX_START_KIND, .fld .MBX_START_FAILED,
    .fld .MBX_START_LOADED] : List Regs)) s t)) ∧
  (∀ (s : State) (cal : MotorCal), (s.mireActs = false ∨ s.aqsiaUp = true ∨ s.get .DYKE_STATUS_STAGE ≠ 2) →
    Completes (.aqsiaBoot cal) s (fun t => (t = s) ∧ Frame (alarmParts ++ ([.dram, .drawn, .slu, .sth, .mq, .aq,
    .dyke] : List Part)) (alarmRegs ++ haltRegs ++ ([.fld .TIDE_STATUS_OPT_LOADED, .fld .TIDE_OPT_LO_MS_LO,
    .fld .TIDE_OPT_HI_MS_HI, .fld .TIDE_T1_OFS_OFS, .arr (.TIDE_SURF_OFS_OFS 0) 0x4 24, .fld .WTH_SPN_KE_KE_NOM,
    .arr (.WTH_RET_CFG_VEL 0) 0x4 4, .arr (.WTH_RET_CFG_RCOIL 0) 0x4 4, .arr (.WTH_RET_CFG_IMAX 0) 0x4 4,
    .arr (.WTH_RET_CFG_DIR 0) 0x4 4, .fld .REED_UCODE_VER_BASE, .fld .REED_UCODE_VER_PATCH] : List Regs) ++
    ([.fld .REED_CS_CTRL_SEQ_MASK, .fld .REED_CS_CTRL_ADDR, .fld .MBX_INFO_MAJOR, .fld .MBX_INFO_MINOR,
    .fld .MBX_INFO_AQSIA_UP, .fld .MBX_EPOCH_PCC, .arr (.MBX_DONE_DONE 0) 0x4 2, .grid (.MBX_RSP_DATA 0 0) 0x400 64 0x4 64,
    .arr (.MBX_STAT_CANCEL_REQ 0) 0x400 64, .arr (.MBX_STAT_STARTED 0) 0x400 64, .arr (.MBX_STAT_STATE 0) 0x400 64,
    .arr (.MBX_LATCH_RSP_STATUS 0) 0x400 64] : List Regs) ++ ([.arr (.MWQ_HEAD_HEAD 0) 0x20 16,
    .arr (.MWQ_STATUS_BLOCKED 0) 0x20 16, .arr (.MWQ_STATUS_OUTST 0) 0x20 16, .arr (.MWC_PI_PASS 0) 0x20 4,
    .arr (.MWC_PI_PI 0) 0x20 4, .arr (.MWC_STATUS_SCAN_STOP 0) 0x20 4, .arr (.MWC_STATUS_SPILL_CNT 0) 0x20 4,
    .fld .MWQ_SYS_STATUS_FLUSH, .fld .MWQ_SYS_STATUS_CAL, .fld .STH_FATE_STATUS_UNRESOLVED, .fld .STH_FATE_STATUS_RECORDS,
    .fld .SLU_STATUS_LED_FREE] : List Regs) ++ ([.arr (.SLU_SEC_FREE_FREE 0) 0x4 4, .arr (.SLU_SEC_RUN_RUN 0) 0x4 4,
    .arr (.SLU_CRED_USED_USED 0) 0x4 32, .fld .DYKE_STATUS_STAGE, .fld .DYKE_SLOT_INACTIVE, .fld .PEAT_PCC_COUNT,
    .fld .MBX_START_RESULT, .fld .MBX_START_STEP, .fld .MBX_START_CAUSE, .fld .MBX_START_KIND, .fld .MBX_START_FAILED,
    .fld .MBX_START_LOADED] : List Regs)) s t)) ∧
  (∀ (s : State), s.aqsiaActs = true → s.dyke.hostSeen = true → s.dyke.completed = false → s.get .DYKE_BOOT_TRIAL = 1 →
    s.lev.resetReq = none → Completes (.trialConfirm) s (fun t => (t.dyke.completed = true ∧
    t.get .DYKE_STATUS_LIFECYCLE = 1 ∧ t.get .DYKE_SLOT_CONFIRMED = 1 ∧ t.get .DYKE_SLOT_POINTED = s.runSlot) ∧
    Frame [.dyke] [.fld .DYKE_STATUS_LIFECYCLE, .fld .DYKE_SLOT_SEQ, .fld .DYKE_SLOT_INACTIVE, .fld .DYKE_SLOT_CONFIRMED,
    .fld .DYKE_SLOT_POINTED] s t)) ∧
  (∀ (s : State), s.aqsiaActs = true → s.dyke.hostSeen = true → s.dyke.completed = false → s.get .DYKE_BOOT_TRIAL = 0 →
    s.enrolled = false → s.lev.resetReq = none → Completes (.trialConfirm) s (fun t => (t.dyke.completed = true ∧
    t.get .DYKE_STATUS_LIFECYCLE = 1 ∧ t.dyke.keyHash = sha384 (manKey (s.slot s.runSlot).manifest) ∧
    t.dyke.copies = s.dyke.copies) ∧ Frame [.dyke] [.fld .DYKE_STATUS_LIFECYCLE, .fld .DYKE_SLOT_SEQ,
    .fld .DYKE_SLOT_INACTIVE, .fld .DYKE_SLOT_CONFIRMED, .fld .DYKE_SLOT_POINTED] s t)) ∧
  (∀ (s : State), (s.aqsiaActs = false ∨ s.dyke.hostSeen = false ∨ s.dyke.completed = true ∨ (s.get .DYKE_BOOT_TRIAL = 0 ∧
    s.enrolled = true)) → Completes (.trialConfirm) s (fun t => (t = s) ∧ Frame [.dyke] [.fld .DYKE_STATUS_LIFECYCLE,
    .fld .DYKE_SLOT_SEQ, .fld .DYKE_SLOT_INACTIVE, .fld .DYKE_SLOT_CONFIRMED, .fld .DYKE_SLOT_POINTED] s t)) ∧
  (∀ (s : State), 2 ≤ s.get .DYKE_STATUS_STAGE → s.get .DYKE_BOOT_TRIAL = 1 → s.dyke.completed = false →
    s.lev.resetReq = none → Completes (.trialTimeout) s (fun t => (t.lev.resetReq = some (4, 0, 0)) ∧ Frame [.lev] [] s t)) ∧
  (∀ (s : State), (s.get .DYKE_STATUS_STAGE < 2 ∨ s.get .DYKE_BOOT_TRIAL = 0 ∨ s.dyke.completed = true) →
    Completes (.trialTimeout) s (fun t => (t = s) ∧ Frame [.lev] [] s t)) ∧
  (∀ (s : State), s.aqsiaActs = true → s.dyke.recorded = false → Completes (.bootRecord) s (fun t => (t.dyke.recorded = true ∧
    t.dyke.bootBody = s.bootRecordBytes ++ (s.signBy 1 s.bootRecordBytes).1) ∧ Frame (alarmParts ++ ([.drawn,
    .dyke] : List Part)) (alarmRegs ++ haltRegs) s t)) ∧
  (∀ (s : State), (s.aqsiaActs = false ∨ s.dyke.recorded = true) → Completes (.bootRecord) s (fun t => (t = s) ∧
    Frame (alarmParts ++ ([.drawn, .dyke] : List Part)) (alarmRegs ++ haltRegs) s t)) ∧
  (∀ (s : State) (reg : Nat), 10 ≤ reg → reg < 16 → s.gated 0x4C000020 = false →
    Completes (.dykeMrExt .mire reg) s (fun t => ((∀ w < 12, t.get (.DYKE_MR_DATA reg w) = fieldAt (sha384Bytes (s.mr reg ++
    (List.range 12).flatMap (fun i => leBytes 4 (s.dyke.ext.at i).toNat))) (4 * w) 4) ∧ t.bus = .done ∧ (∀ r < 16, r ≠ reg →
    t.mr r = s.mr r)) ∧ Frame (alarmParts ++ ([.bus] : List Part)) (alarmRegs ++ haltRegs ++ ([.fld .DYKE_MR_EXT_ERR,
    .fld .DYKE_MR_EXT_REG, .grid (.DYKE_MR_DATA 0 0) 0x30 16 0x4 12] : List Regs)) s t)) ∧
  (∀ (s : State) (reg : Nat), reg < 10 → s.gated 0x4C000020 = false →
    Completes (.dykeMrExt .mire reg) s (fun t => (t.get .DYKE_MR_EXT_ERR = 1 ∧ t.bus = .done ∧ (∀ r < 16, t.mr r = s.mr r)) ∧
    Frame (alarmParts ++ ([.bus] : List Part)) (alarmRegs ++ haltRegs ++ ([.fld .DYKE_MR_EXT_ERR, .fld .DYKE_MR_EXT_REG,
    .grid (.DYKE_MR_DATA 0 0) 0x30 16 0x4 12] : List Regs)) s t)) ∧
  (∀ (s : State) (reg : Nat), s.gated 0x4C000020 = true → Completes (.dykeMrExt .mire reg) s (fun t => (t.bus = .busError ∧
    t.regs = s.regs) ∧ Frame (alarmParts ++ ([.bus] : List Part)) (alarmRegs ++ haltRegs ++ ([.fld .DYKE_MR_EXT_ERR,
    .fld .DYKE_MR_EXT_REG, .grid (.DYKE_MR_DATA 0 0) 0x30 16 0x4 12] : List Regs)) s t)) ∧
  (∀ (s : State) (core reg : Nat), core < 8 → Completes (.dykeMrExt (.fen core) reg) s (fun t => (t.bus = .busError ∧
    t.latched 0x0101 core = true ∧ (∀ r < 16, t.mr r = s.mr r)) ∧ Frame (alarmParts ++ ([.bus] : List Part)) (alarmRegs ++
    haltRegs ++ ([.fld .DYKE_MR_EXT_ERR, .fld .DYKE_MR_EXT_REG, .grid (.DYKE_MR_DATA 0 0) 0x30 16 0x4 12] : List Regs)) s t)) ∧
  (∀ (s : State) (emf : Nat), s.aqsiaActs = true → s.aq.starting = true → s.get .MBX_START_STEP = 6 →
    s.get .WEIR_STATUS_CHOP_FAULT = 0 → s.get .WEIR_STATUS_CHOP_TESTED = 1 →
    Completes (.spindleStart emf) s (fun t => (t.get .MBX_START_STEP = 7 ∧ t.get .WTH_SPN_CTRL_RUN = 1 ∧
    t.get .WTH_SPN_CTRL_SRC = 0 ∧ t.get .WTH_SPN_SPEED_SPEED = s.aq.target % 2 ^ 24 ∧ (s.get .WTH_SPN_STATUS_STATE = 0 →
    t.get .WTH_SPN_STATUS_STATE = 1)) ∧ Frame (alarmParts ++ ([.tide, .withy, .tus, .mq, .aq] : List Part)) (alarmRegs ++
    haltRegs ++ ([.fld .TIDE_STATUS_STATE, .fld .TIDE_CELL_PERIOD_PERIOD, .fld .WTH_SPN_CTRL_SRC, .fld .WTH_SPN_CTRL_RUN,
    .fld .WTH_SPN_STATUS_STATE, .fld .WTH_SPN_STATUS_ATTEMPT, .fld .WTH_SPN_STATUS_AT_SPEED, .fld .WTH_SPN_STATUS_SPD95,
    .fld .WTH_SPN_STATUS_SPD90, .fld .WTH_SPN_STATUS_DIR_REV, .fld .WTH_SPN_STATUS_FW_ACTIVE,
    .fld .WTH_SPN_STATUS_FW_SAT] : List Regs) ++ ([.fld .WTH_SPN_STATUS_STOP_BLOCKED, .fld .WTH_SPN_SPEED_SPEED,
    .fld .WTH_SPN_MEAS_TRACK, .fld .WTH_SPN_FOC_ID, .fld .WTH_SPN_FOC_MI, .fld .TUS_CTRL_TABLES_VALID,
    .arr (.TUS_SEC_STATUS_REGION_PEND 0) 0x40 4, .fld .MBX_START_RESULT, .fld .MBX_START_STEP, .fld .MBX_START_CAUSE,
    .fld .MBX_START_FAILED, .fld .MBX_START_LOADED] : List Regs)) s t)) ∧
  (∀ (s : State) (emf : Nat), s.aqsiaActs = true → s.aq.starting = true → s.get .MBX_START_STEP = 6 →
    s.get .WEIR_STATUS_CHOP_FAULT = 0 → s.get .WEIR_STATUS_CHOP_TESTED = 0 →
    Completes (.spindleStart emf) s (fun t => (t = s) ∧ Frame (alarmParts ++ ([.tide, .withy, .tus, .mq,
    .aq] : List Part)) (alarmRegs ++ haltRegs ++ ([.fld .TIDE_STATUS_STATE, .fld .TIDE_CELL_PERIOD_PERIOD,
    .fld .WTH_SPN_CTRL_SRC, .fld .WTH_SPN_CTRL_RUN, .fld .WTH_SPN_STATUS_STATE, .fld .WTH_SPN_STATUS_ATTEMPT,
    .fld .WTH_SPN_STATUS_AT_SPEED, .fld .WTH_SPN_STATUS_SPD95, .fld .WTH_SPN_STATUS_SPD90, .fld .WTH_SPN_STATUS_DIR_REV,
    .fld .WTH_SPN_STATUS_FW_ACTIVE, .fld .WTH_SPN_STATUS_FW_SAT] : List Regs) ++ ([.fld .WTH_SPN_STATUS_STOP_BLOCKED,
    .fld .WTH_SPN_SPEED_SPEED, .fld .WTH_SPN_MEAS_TRACK, .fld .WTH_SPN_FOC_ID, .fld .WTH_SPN_FOC_MI,
    .fld .TUS_CTRL_TABLES_VALID, .arr (.TUS_SEC_STATUS_REGION_PEND 0) 0x40 4, .fld .MBX_START_RESULT, .fld .MBX_START_STEP,
    .fld .MBX_START_CAUSE, .fld .MBX_START_FAILED, .fld .MBX_START_LOADED] : List Regs)) s t)) ∧
  (∀ (s : State) (emf : Nat), s.aqsiaActs = true → s.aq.starting = true → s.get .MBX_START_STEP = 6 →
    s.get .WEIR_STATUS_CHOP_FAULT = 1 → Completes (.spindleStart emf) s (fun t => (t.aq.starting = false ∧
    t.get .MBX_START_RESULT = 2 ∧ (s.get .MBX_START_CAUSE = 0 → t.get .MBX_START_CAUSE = 3)) ∧ Frame (alarmParts ++ ([.tide,
    .withy, .tus, .mq, .aq] : List Part)) (alarmRegs ++ haltRegs ++ ([.fld .TIDE_STATUS_STATE, .fld .TIDE_CELL_PERIOD_PERIOD,
    .fld .WTH_SPN_CTRL_SRC, .fld .WTH_SPN_CTRL_RUN, .fld .WTH_SPN_STATUS_STATE, .fld .WTH_SPN_STATUS_ATTEMPT,
    .fld .WTH_SPN_STATUS_AT_SPEED, .fld .WTH_SPN_STATUS_SPD95, .fld .WTH_SPN_STATUS_SPD90, .fld .WTH_SPN_STATUS_DIR_REV,
    .fld .WTH_SPN_STATUS_FW_ACTIVE, .fld .WTH_SPN_STATUS_FW_SAT] : List Regs) ++ ([.fld .WTH_SPN_STATUS_STOP_BLOCKED,
    .fld .WTH_SPN_SPEED_SPEED, .fld .WTH_SPN_MEAS_TRACK, .fld .WTH_SPN_FOC_ID, .fld .WTH_SPN_FOC_MI,
    .fld .TUS_CTRL_TABLES_VALID, .arr (.TUS_SEC_STATUS_REGION_PEND 0) 0x40 4, .fld .MBX_START_RESULT, .fld .MBX_START_STEP,
    .fld .MBX_START_CAUSE, .fld .MBX_START_FAILED, .fld .MBX_START_LOADED] : List Regs)) s t)) ∧
  (∀ (s : State) (emf : Nat), s.aqsiaActs = true → s.aq.starting = true → s.get .MBX_START_STEP = 5 → s.discovered = false →
    Completes (.spindleStart emf) s (fun t => (t = s) ∧ Frame (alarmParts ++ ([.tide, .withy, .tus, .mq,
    .aq] : List Part)) (alarmRegs ++ haltRegs ++ ([.fld .TIDE_STATUS_STATE, .fld .TIDE_CELL_PERIOD_PERIOD,
    .fld .WTH_SPN_CTRL_SRC, .fld .WTH_SPN_CTRL_RUN, .fld .WTH_SPN_STATUS_STATE, .fld .WTH_SPN_STATUS_ATTEMPT,
    .fld .WTH_SPN_STATUS_AT_SPEED, .fld .WTH_SPN_STATUS_SPD95, .fld .WTH_SPN_STATUS_SPD90, .fld .WTH_SPN_STATUS_DIR_REV,
    .fld .WTH_SPN_STATUS_FW_ACTIVE, .fld .WTH_SPN_STATUS_FW_SAT] : List Regs) ++ ([.fld .WTH_SPN_STATUS_STOP_BLOCKED,
    .fld .WTH_SPN_SPEED_SPEED, .fld .WTH_SPN_MEAS_TRACK, .fld .WTH_SPN_FOC_ID, .fld .WTH_SPN_FOC_MI,
    .fld .TUS_CTRL_TABLES_VALID, .arr (.TUS_SEC_STATUS_REGION_PEND 0) 0x40 4, .fld .MBX_START_RESULT, .fld .MBX_START_STEP,
    .fld .MBX_START_CAUSE, .fld .MBX_START_FAILED, .fld .MBX_START_LOADED] : List Regs)) s t)) ∧
  (∀ (s : State) (emf : Nat),
    (s.aqsiaActs = false ∨ s.aq.starting = false ∨ s.get .MBX_START_STEP < 5 ∨ 8 < s.get .MBX_START_STEP) →
    Completes (.spindleStart emf) s (fun t => (t = s) ∧ Frame (alarmParts ++ ([.tide, .withy, .tus, .mq,
    .aq] : List Part)) (alarmRegs ++ haltRegs ++ ([.fld .TIDE_STATUS_STATE, .fld .TIDE_CELL_PERIOD_PERIOD,
    .fld .WTH_SPN_CTRL_SRC, .fld .WTH_SPN_CTRL_RUN, .fld .WTH_SPN_STATUS_STATE, .fld .WTH_SPN_STATUS_ATTEMPT,
    .fld .WTH_SPN_STATUS_AT_SPEED, .fld .WTH_SPN_STATUS_SPD95, .fld .WTH_SPN_STATUS_SPD90, .fld .WTH_SPN_STATUS_DIR_REV,
    .fld .WTH_SPN_STATUS_FW_ACTIVE, .fld .WTH_SPN_STATUS_FW_SAT] : List Regs) ++ ([.fld .WTH_SPN_STATUS_STOP_BLOCKED,
    .fld .WTH_SPN_SPEED_SPEED, .fld .WTH_SPN_MEAS_TRACK, .fld .WTH_SPN_FOC_ID, .fld .WTH_SPN_FOC_MI,
    .fld .TUS_CTRL_TABLES_VALID, .arr (.TUS_SEC_STATUS_REGION_PEND 0) 0x40 4, .fld .MBX_START_RESULT, .fld .MBX_START_STEP,
    .fld .MBX_START_CAUSE, .fld .MBX_START_FAILED, .fld .MBX_START_LOADED] : List Regs)) s t)) ∧
  (∀ (s : State) (lock : Option Nat) (k : Nat) (rest : List Nat), s.aqsiaActs = true → s.aq.starting = true →
    s.get .MBX_START_STEP = 9 → s.aq.loading = none → s.aq.toLoad = k :: rest → k < 4 →
    Completes (.headLoad lock) s (fun t => (t.get (.TUS_SEC_CTRL_LANE_EN k) = 3 ∧ t.get (.TUS_SEEK_STATUS_SETTLED k) = 0 ∧
    t.aq.loading = some k ∧ t.aq.toLoad = rest ∧ t.get .MBX_START_STEP = 9) ∧ Frame [.seqs, .chans, .withy, .tus, .mq,
    .aq] (([.fld .SDG_WF_STATUS_CAUSE_SEEN, .arr (.SDG_WR_STATUS_WG 0) 0x400 8, .arr (.SDG_WR_STATUS_CAUSE 0) 0x400 8,
    .arr (.SDG_WR_STATUS_DROPS 0) 0x400 8, .arr (.SDG_WR_DROP_MANG 0) 0x400 8, .fld .WTH_SPN_CTRL_SRC,
    .fld .WTH_SPN_STATUS_AT_SPEED, .fld .WTH_SPN_STATUS_SPD95, .fld .WTH_SPN_STATUS_SPD90, .arr (.WTH_VCM_CTRL_EN 0) 0x4 4,
    .arr (.WTH_VCM_STATUS_RET_ACTIVE 0) 0x4 4, .arr (.WTH_VCM_STATUS_PARKED 0) 0x4 4] : List Regs) ++
    ([.arr (.WTH_VCM_STATUS_ENABLED 0) 0x4 4, .arr (.WTH_MA_CTRL_HOLD 0) 0x4 8, .arr (.WTH_MA_STATUS_VOUT 0) 0x4 8,
    .arr (.TUS_SEC_CTRL_LANE_EN 0) 0x40 4, .arr (.TUS_SEC_STATUS_MISS1 0) 0x40 4, .arr (.TUS_SEC_STATUS_MISS0 0) 0x40 4,
    .arr (.TUS_SEEK_STATUS_SEEKING 0) 0x20 4, .arr (.TUS_SEEK_STATUS_HINT_ACTIVE 0) 0x20 4,
    .arr (.TUS_SEEK_STATUS_SETTLED 0) 0x20 4, .arr (.MWQ_STATUS_BLOCKED 0) 0x20 16, .arr (.MWQ_STATUS_OUTST 0) 0x20 16,
    .fld .MWQ_SYS_STATUS_FLUSH] : List Regs) ++ ([.fld .MWQ_SYS_STATUS_CAL, .fld .MBX_START_RESULT, .fld .MBX_START_STEP,
    .fld .MBX_START_CAUSE, .fld .MBX_START_FAILED, .fld .MBX_START_LOADED] : List Regs)) s t)) ∧
  (∀ (s : State) (lock : Option Nat), s.aqsiaActs = true → s.aq.starting = true → s.get .MBX_START_STEP = 9 →
    s.aq.loading = none → s.aq.toLoad = [] → (s.aq.again = [] ∨ s.aq.second = true) → s.allParked = true →
    Completes (.headLoad lock) s (fun t => (t.aq.starting = false ∧ t.get .MBX_START_RESULT = 2 ∧
    t.get .MBX_START_LOADED = 0) ∧ Frame [.seqs, .chans, .withy, .tus, .mq, .aq] (([.fld .SDG_WF_STATUS_CAUSE_SEEN,
    .arr (.SDG_WR_STATUS_WG 0) 0x400 8, .arr (.SDG_WR_STATUS_CAUSE 0) 0x400 8, .arr (.SDG_WR_STATUS_DROPS 0) 0x400 8,
    .arr (.SDG_WR_DROP_MANG 0) 0x400 8, .fld .WTH_SPN_CTRL_SRC, .fld .WTH_SPN_STATUS_AT_SPEED, .fld .WTH_SPN_STATUS_SPD95,
    .fld .WTH_SPN_STATUS_SPD90, .arr (.WTH_VCM_CTRL_EN 0) 0x4 4, .arr (.WTH_VCM_STATUS_RET_ACTIVE 0) 0x4 4,
    .arr (.WTH_VCM_STATUS_PARKED 0) 0x4 4] : List Regs) ++ ([.arr (.WTH_VCM_STATUS_ENABLED 0) 0x4 4,
    .arr (.WTH_MA_CTRL_HOLD 0) 0x4 8, .arr (.WTH_MA_STATUS_VOUT 0) 0x4 8, .arr (.TUS_SEC_CTRL_LANE_EN 0) 0x40 4,
    .arr (.TUS_SEC_STATUS_MISS1 0) 0x40 4, .arr (.TUS_SEC_STATUS_MISS0 0) 0x40 4, .arr (.TUS_SEEK_STATUS_SEEKING 0) 0x20 4,
    .arr (.TUS_SEEK_STATUS_HINT_ACTIVE 0) 0x20 4, .arr (.TUS_SEEK_STATUS_SETTLED 0) 0x20 4,
    .arr (.MWQ_STATUS_BLOCKED 0) 0x20 16, .arr (.MWQ_STATUS_OUTST 0) 0x20 16, .fld .MWQ_SYS_STATUS_FLUSH] : List Regs) ++
    ([.fld .MWQ_SYS_STATUS_CAL, .fld .MBX_START_RESULT, .fld .MBX_START_STEP, .fld .MBX_START_CAUSE, .fld .MBX_START_FAILED,
    .fld .MBX_START_LOADED] : List Regs)) s t)) ∧
  (∀ (s : State) (lock : Option Nat), s.aqsiaActs = true → s.aq.starting = true → s.get .MBX_START_STEP = 9 →
    s.aq.loading = none → s.aq.toLoad = [] → (s.aq.again = [] ∨ s.aq.second = true) → s.allParked = false →
    s.aq.bandCheck = false → Completes (.headLoad lock) s (fun t => (t.aq.starting = false ∧ t.get .MBX_START_RESULT = 1 ∧
    t.get .MBX_START_STEP = 11 ∧ t.get .MBX_START_LOADED = maskOf ((List.range 4).filter (fun j => !s.parkedSec j))) ∧
    Frame [.seqs, .chans, .withy, .tus, .mq, .aq] (([.fld .SDG_WF_STATUS_CAUSE_SEEN, .arr (.SDG_WR_STATUS_WG 0) 0x400 8,
    .arr (.SDG_WR_STATUS_CAUSE 0) 0x400 8, .arr (.SDG_WR_STATUS_DROPS 0) 0x400 8, .arr (.SDG_WR_DROP_MANG 0) 0x400 8,
    .fld .WTH_SPN_CTRL_SRC, .fld .WTH_SPN_STATUS_AT_SPEED, .fld .WTH_SPN_STATUS_SPD95, .fld .WTH_SPN_STATUS_SPD90,
    .arr (.WTH_VCM_CTRL_EN 0) 0x4 4, .arr (.WTH_VCM_STATUS_RET_ACTIVE 0) 0x4 4,
    .arr (.WTH_VCM_STATUS_PARKED 0) 0x4 4] : List Regs) ++ ([.arr (.WTH_VCM_STATUS_ENABLED 0) 0x4 4,
    .arr (.WTH_MA_CTRL_HOLD 0) 0x4 8, .arr (.WTH_MA_STATUS_VOUT 0) 0x4 8, .arr (.TUS_SEC_CTRL_LANE_EN 0) 0x40 4,
    .arr (.TUS_SEC_STATUS_MISS1 0) 0x40 4, .arr (.TUS_SEC_STATUS_MISS0 0) 0x40 4, .arr (.TUS_SEEK_STATUS_SEEKING 0) 0x20 4,
    .arr (.TUS_SEEK_STATUS_HINT_ACTIVE 0) 0x20 4, .arr (.TUS_SEEK_STATUS_SETTLED 0) 0x20 4,
    .arr (.MWQ_STATUS_BLOCKED 0) 0x20 16, .arr (.MWQ_STATUS_OUTST 0) 0x20 16, .fld .MWQ_SYS_STATUS_FLUSH] : List Regs) ++
    ([.fld .MWQ_SYS_STATUS_CAL, .fld .MBX_START_RESULT, .fld .MBX_START_STEP, .fld .MBX_START_CAUSE, .fld .MBX_START_FAILED,
    .fld .MBX_START_LOADED] : List Regs)) s t)) ∧
  (∀ (s : State) (lock : Option Nat),
    (s.aqsiaActs = false ∨ s.aq.starting = false ∨ s.get .MBX_START_STEP < 7 ∨ 9 < s.get .MBX_START_STEP) →
    Completes (.headLoad lock) s (fun t => (t = s) ∧ Frame [.seqs, .chans, .withy, .tus, .mq,
    .aq] (([.fld .SDG_WF_STATUS_CAUSE_SEEN, .arr (.SDG_WR_STATUS_WG 0) 0x400 8, .arr (.SDG_WR_STATUS_CAUSE 0) 0x400 8,
    .arr (.SDG_WR_STATUS_DROPS 0) 0x400 8, .arr (.SDG_WR_DROP_MANG 0) 0x400 8, .fld .WTH_SPN_CTRL_SRC,
    .fld .WTH_SPN_STATUS_AT_SPEED, .fld .WTH_SPN_STATUS_SPD95, .fld .WTH_SPN_STATUS_SPD90, .arr (.WTH_VCM_CTRL_EN 0) 0x4 4,
    .arr (.WTH_VCM_STATUS_RET_ACTIVE 0) 0x4 4, .arr (.WTH_VCM_STATUS_PARKED 0) 0x4 4] : List Regs) ++
    ([.arr (.WTH_VCM_STATUS_ENABLED 0) 0x4 4, .arr (.WTH_MA_CTRL_HOLD 0) 0x4 8, .arr (.WTH_MA_STATUS_VOUT 0) 0x4 8,
    .arr (.TUS_SEC_CTRL_LANE_EN 0) 0x40 4, .arr (.TUS_SEC_STATUS_MISS1 0) 0x40 4, .arr (.TUS_SEC_STATUS_MISS0 0) 0x40 4,
    .arr (.TUS_SEEK_STATUS_SEEKING 0) 0x20 4, .arr (.TUS_SEEK_STATUS_HINT_ACTIVE 0) 0x20 4,
    .arr (.TUS_SEEK_STATUS_SETTLED 0) 0x20 4, .arr (.MWQ_STATUS_BLOCKED 0) 0x20 16, .arr (.MWQ_STATUS_OUTST 0) 0x20 16,
    .fld .MWQ_SYS_STATUS_FLUSH] : List Regs) ++ ([.fld .MWQ_SYS_STATUS_CAL, .fld .MBX_START_RESULT, .fld .MBX_START_STEP,
    .fld .MBX_START_CAUSE, .fld .MBX_START_FAILED, .fld .MBX_START_LOADED] : List Regs)) s t)) ∧
  (∀ (s : State) (k : Nat), s.aqsiaActs = true → s.aq.starting = true → s.get .MBX_START_STEP = 10 → (∀ j < 4, j ≠ k →
    s.parkedSec j = true ∨ j ∈ s.aq.checked) → Completes (.bandCheck k) s (fun t => (t.get .MBX_START_STEP = 11 ∧
    t.get .MBX_START_RESULT = 1 ∧ t.aq.starting = false ∧
    t.get .MBX_START_LOADED = maskOf ((List.range 4).filter (fun j => !s.parkedSec j)) ∧ t.aq.bandCheck = false) ∧ Frame [.mq,
    .aq] [.fld .MBX_START_RESULT, .fld .MBX_START_STEP, .fld .MBX_START_FAILED, .fld .MBX_START_LOADED] s t)) ∧
  (∀ (s : State) (k j : Nat), s.aqsiaActs = true → s.aq.starting = true → s.get .MBX_START_STEP = 10 → j < 4 → j ≠ k →
    s.parkedSec j = false → j ∉ s.aq.checked →
    Completes (.bandCheck k) s (fun t => (t.aq.checked = k :: s.aq.checked.filter (fun i => i ≠ k) ∧ t.regs = s.regs ∧
    t.aq.starting = true) ∧ Frame [.mq, .aq] [.fld .MBX_START_RESULT, .fld .MBX_START_STEP, .fld .MBX_START_FAILED,
    .fld .MBX_START_LOADED] s t)) ∧
  (∀ (s : State) (k : Nat), (s.aqsiaActs = false ∨ s.aq.starting = false ∨ s.get .MBX_START_STEP ≠ 10) →
    Completes (.bandCheck k) s (fun t => (t = s) ∧ Frame [.mq, .aq] [.fld .MBX_START_RESULT, .fld .MBX_START_STEP,
    .fld .MBX_START_FAILED, .fld .MBX_START_LOADED] s t))

/-- Completion and effects of the commands named, on the states named (after R7, R8, R10, R14, R33, R206, R227, R509, each in
part). -/
def Obligations.RegistersAreAccessed : Prop :=
  (∀ (s : State) (core addr width : Nat) (value : Word), core < 8 → fenMayStore addr = false →
    Completes (.registerWrite (.fen core) addr width (some value)) s (fun t => (t.bus = .busError ∧
    t.latched 0x0101 core = true) ∧ Frame (alarmParts ++ ([.bus] : List Part)) (alarmRegs ++ haltRegs) s t)) ∧
  (∀ (s : State) (core addr width : Nat), core < 8 → fenMayLoad addr = false →
    Completes (.registerWrite (.fen core) addr width none) s (fun t => (t.bus = .busError ∧ t.latched 0x0101 core = true) ∧
    Frame (alarmParts ++ ([.bus] : List Part)) (alarmRegs ++ haltRegs) s t)) ∧
  (∀ (s : State) (who : Who) (addr width : Nat) (value : Option Word),
    (who = .mire ∨ (if value.isSome then fenMayStore addr else fenMayLoad addr) = true) →
    (width ≠ 4 ∨ addr % 4 ≠ 0 ∨ findReg addr = none ∨ s.gated addr = true) →
    Completes (.registerWrite who addr width value) s (fun t => (t.bus = .busError ∧ t.regs = s.regs) ∧ Frame [.bus] [] s t)) ∧
  (∀ (s : State) (who : Who) (addr : Nat) (r : RegRow) (ix : List Nat) (value : Word),
    (who = .mire ∨ fenMayStore addr = true) → addr % 4 = 0 → findReg addr = some (r, ix) → s.gated addr = false →
    s.ack.turnedAway (decide (who ≠ .mire)) r.id ix value = none → r.id ∉ actsOnStore →
    Completes (.registerWrite who addr 4 (some value)) s (fun t => (t = s.ack.putReg addr (t.regAt addr) ∧ (∀ f ∈ r.fields,
    (t.regAt addr).extractLsb' f.lo f.width = (f.stored (s.rwlCommitted r.id) (mireSets who addr) value (s.regAt addr)).extractLsb' f.lo f.width ∨ ownRow r.id f.lo = true) ∧
    (∀ f ∈ r.fields, ownRow r.id f.lo = true →
    (t.regAt addr).extractLsb' f.lo f.width = (s.regAt addr).extractLsb' f.lo f.width) ∧ (∀ f ∈ r.fields,
    ownRow r.id f.lo = false → (f.acc = .rw ∨ f.acc = .rws →
    (t.regAt addr).extractLsb' f.lo f.width = value.extractLsb' f.lo f.width) ∧ (f.acc = .w1c →
    (t.regAt addr).extractLsb' f.lo f.width = (s.regAt addr).extractLsb' f.lo f.width &&& ~~~(value.extractLsb' f.lo f.width)))) ∧
    Frame [.bus] [.all] s t)) ∧
  (∀ (s : State) (who : Who) (addr : Nat) (r : RegRow) (ix : List Nat) (value : Word) (u : State),
    (who = .mire ∨ fenMayStore addr = true) → addr % 4 = 0 → findReg addr = some (r, ix) → s.gated addr = false →
    s.ack.turnedAway (decide (who ≠ .mire)) r.id ix value = some u →
    Completes (.registerWrite who addr 4 (some value)) s (fun t => (t = u) ∧ Frame (alarmParts ++ ([.bus, .tide, .weir,
    .withy, .tus, .sth, .dyke] : List Part)) [.all] s t)) ∧
  (∀ (s : State) (who : Who) (addr : Nat) (r : RegRow) (ix : List Nat) (value : Word),
    (who = .mire ∨ fenMayStore addr = true) → addr % 4 = 0 → findReg addr = some (r, ix) → s.gated addr = false →
    s.ack.turnedAway (decide (who ≠ .mire)) r.id ix value = none → r.id ∈ actsOnStore →
    Completes (.registerWrite who addr 4 (some value)) s (fun t => (t.bus = .done) ∧ Frame (alarmParts ++ ([.bus, .tide,
    .weir, .withy, .tus, .sth, .dyke] : List Part)) [.all] s t)) ∧
  (∀ (s : State) (who : Who) (addr : Nat) (r : RegRow) (ix : List Nat), (who = .mire ∨ fenMayLoad addr = true) →
    addr % 4 = 0 → findReg addr = some (r, ix) → s.gated addr = false → r.id ∉ actsOnLoad →
    Completes (.registerWrite who addr 4 none) s (fun t => (t.bus = .value (r.shown (s.regAt addr)).toNat ∧ t.regs = s.regs) ∧
    Frame [.bus] [] s t)) ∧
  (∀ (s : State) (who : Who), s.gated 0x41000820 = false →
    Completes (.registerWrite who 0x41000820 4 none) s (fun t => (t.bus = .value (s.get .SLU_SCRB_LEN_BLOCKS)) ∧
    Frame [.bus] [] s t)) ∧
  (∀ (s : State), s.gated 0x41000440 = false →
    Completes (.registerWrite .mire 0x41000440 4 none) s (fun t => (t.bus = .value 0) ∧ Frame [.bus] [] s t))

/-- A step with command c at the front of the queue is exec of c on the state with the queue's rest. With an empty queue a millisecond passes: the model's own choice (DESIGN CHOICE, log entry 1), as the spec gives the block no commands of its own. -/
def Obligations.StepRunsTheFront : Prop :=
  (∀ (c : Instr) (rest : List Instr) (s : State), step { s with pending := c :: rest } = exec c { s with pending := rest }) ∧
  ∀ s : State, s.pending = [] → step s = .next s.millisecond

/-- Right after reset the registers and the memories are in their canonical form and no command waits. -/
def Obligations.ResetIsSound : Prop :=
  State.reset.Sound ∧ State.reset.pending = []

/-- From every state whose registers and memories are in canonical form, a step answers a next state: no command is refused and none faults. In it they are in canonical form again, and exactly the command at the front of the queue has gone. -/
def Obligations.EveryStepStaysSound : Prop :=
  ∀ s : State, s.Sound → ∃ t, step s = .next t ∧ t.Sound ∧ t.pending = s.pending.tail

/-- At each drop of a raised write gate of stream n by a cause of 2 to 8, the gate is low, SDG_WR_DROP(n) holds MANG, SDG_WF_STATUS has the cause's bit set beside those it had, and SDG_WR_STATUS(n).DROPS has counted up, held at its greatest value. -/
def Obligations.DropsAreRecorded : Prop :=
  ∀ (s : State) (n cause : Nat), n < 8 → (s.seq n).wg = true → 2 ≤ cause → cause ≤ 8 →
    ((s.dropWg n cause).seq n).wg = false ∧ (s.dropWg n cause).get (.SDG_WR_DROP_MANG n) = s.mang.toNat ∧
    (∀ i, 2 ≤ i → i ≤ 8 → (s.dropWg n cause).get .SDG_WF_STATUS_CAUSE_SEEN / 2 ^ (i - 2) % 2 =
      if i = cause then 1 else s.get .SDG_WF_STATUS_CAUSE_SEEN / 2 ^ (i - 2) % 2) ∧
    (s.dropWg n cause).get (.SDG_WR_STATUS_DROPS n) = min (s.get (.SDG_WR_STATUS_DROPS n) + 1) 0xFFFF ∧
    Frame [.seqs] [.fld (.SDG_WR_STATUS_WG n), .fld (.SDG_WR_STATUS_CAUSE n), .fld (.SDG_WR_DROP_MANG n), .fld (.SDG_WR_STATUS_DROPS n),
      .fld .SDG_WF_STATUS_CAUSE_SEEN] s (s.dropWg n cause)

/-- With CARR_CFG.HASH set, the set of address A is A[19:6] xor A[33:20] xor A[39:34] shifted left by 8, in 14 bits; with HASH clear it is A[19:6]. Either way the tag A[39:20] and the set together fix the line address: two addresses below 2^40 with one tag and one set are of one line. -/
def Obligations.LinesHaveOnePlace : Prop :=
  ∀ (s : State) (a b : Nat), a < 2 ^ 40 → b < 2 ^ 40 →
    s.carrSet (a / 64) = (if s.get .CARR_CFG_HASH = 1 then
      a / 2 ^ 6 % 2 ^ 14 ^^^ a / 2 ^ 20 % 2 ^ 14 ^^^ (a / 2 ^ 34 % 2 ^ 6) <<< 8 else a / 2 ^ 6 % 2 ^ 14) ∧
    s.carrSet (a / 64) < 2 ^ 14 ∧
    (s.carrSet (a / 64) = s.carrSet (b / 64) → a / 2 ^ 20 % 2 ^ 20 = b / 2 ^ 20 % 2 ^ 20 → a / 64 = b / 64)
end

