-- ==== Sys2Proof/Laws/Tables.lean ====
section
/-! SUPPORT. The laws of sparse tables: a read after a write, and that every operation keeps the canonical form. -/

namespace Sys2Proof.Machine

variable {α : Type}

theorem tabFind_insert_self (t : Tab α) (k : Nat) (v : α) : tabFind (tabInsert t k v) k = some v := by
  induction t with
  | nil => simp [tabInsert, tabFind]
  | cons e t ih =>
    obtain ⟨j, w⟩ := e
    unfold tabInsert
    split
    · simp [tabFind]
    · split
      · simp [tabFind]
      · have : ¬j = k := fun h => by omega
        simp [tabFind, this, ih]

theorem tabFind_insert_ne (t : Tab α) {k i : Nat} (v : α) (h : i ≠ k) : tabFind (tabInsert t k v) i = tabFind t i := by
  induction t with
  | nil => simp [tabInsert, tabFind, h.symm]
  | cons e t ih =>
    obtain ⟨j, w⟩ := e
    unfold tabInsert
    split
    · simp [tabFind, h.symm]
    · split
      · rename_i hk
        subst hk
        simp [tabFind, h.symm]
      · simp [tabFind, ih]

theorem tabFind_erase_ne (t : Tab α) {k i : Nat} (h : i ≠ k) : tabFind (tabErase t k) i = tabFind t i := by
  induction t with
  | nil => rfl
  | cons e t ih =>
    obtain ⟨j, w⟩ := e
    unfold tabErase
    split
    · rename_i hj
      subst hj
      simp [tabFind, h.symm, ih]
    · simp [tabFind, ih]

theorem tabFind_erase_self (t : Tab α) (k : Nat) : tabFind (tabErase t k) k = none := by
  induction t with
  | nil => rfl
  | cons e t ih =>
    obtain ⟨j, w⟩ := e
    unfold tabErase
    split
    · exact ih
    · rename_i hj
      simp [tabFind, hj, ih]

/-- A read of another key gives what it gave before. -/
theorem tabGet_put_ne [DecidableEq α] (d : Nat → α) (t : Tab α) {k i : Nat} (v : α) (h : i ≠ k) :
    tabGet d (tabPut d t k v) i = tabGet d t i := by
  have e : tabFind (tabPut d t k v) i = tabFind t i := by
    unfold tabPut
    by_cases hv : v = d k
    · rw [if_pos hv]; exact tabFind_erase_ne t h
    · rw [if_neg hv]; exact tabFind_insert_ne t v h
  unfold tabGet
  rw [e]

/-- A read after a write to the same key gives the value written. -/
theorem tabGet_put_self [DecidableEq α] (d : Nat → α) (t : Tab α) (k : Nat) (v : α) : tabGet d (tabPut d t k v) k = v := by
  unfold tabPut
  by_cases hv : v = d k
  · rw [if_pos hv]
    unfold tabGet
    rw [tabFind_erase_self t k]
    exact hv.symm
  · rw [if_neg hv]
    unfold tabGet
    rw [tabFind_insert_self]

theorem tabErase_sublist (t : Tab α) (k : Nat) : (tabErase t k).Sublist t := by
  induction t with
  | nil => exact List.Sublist.refl _
  | cons e t ih =>
    obtain ⟨j, w⟩ := e
    unfold tabErase
    split
    · exact ih.cons _
    · exact ih.cons_cons _

theorem tabInsert_mem (t : Tab α) (k : Nat) (v : α) : ∀ e ∈ tabInsert t k v, e = (k, v) ∨ e ∈ t := by
  induction t with
  | nil => intro e he; simp [tabInsert] at he; exact Or.inl he
  | cons x t ih =>
    obtain ⟨j, w⟩ := x
    intro e he
    unfold tabInsert at he
    split at he
    · simp at he; rcases he with h | h | h <;> simp [h]
    · split at he
      · simp at he; rcases he with h | h <;> simp [h]
      · simp only [List.mem_cons] at he
        rcases he with h | h
        · simp [h]
        · rcases ih e h with h | h <;> simp [h]

theorem tabInsert_sorted (t : Tab α) (k : Nat) (v : α) (h : t.Pairwise (fun a b => a.1 < b.1)) :
    (tabInsert t k v).Pairwise (fun a b => a.1 < b.1) := by
  induction t with
  | nil => simp [tabInsert]
  | cons x t ih =>
    obtain ⟨j, w⟩ := x
    rw [List.pairwise_cons] at h
    unfold tabInsert
    split
    · rename_i hk
      rw [List.pairwise_cons, List.pairwise_cons]
      refine ⟨fun e he => ?_, h⟩
      rcases List.mem_cons.1 he with rfl | he
      · exact hk
      · exact Nat.lt_trans hk (h.1 e he)
    · split
      · rename_i hk
        subst hk
        rw [List.pairwise_cons]
        exact h
      · rw [List.pairwise_cons]
        refine ⟨fun e he => ?_, ih h.2⟩
        rcases tabInsert_mem t k v e he with rfl | he
        · simp only; omega
        · exact h.1 e he

/-- A write keeps the canonical form. -/
theorem tabPut_wf [DecidableEq α] (d : Nat → α) (t : Tab α) (k : Nat) (v : α) (h : tabWf d t) : tabWf d (tabPut d t k v) := by
  unfold tabPut
  split
  · exact ⟨h.1.sublist (tabErase_sublist t k), fun e he => h.2 e ((tabErase_sublist t k).subset he)⟩
  · rename_i hv
    refine ⟨tabInsert_sorted t k v h.1, fun e he => ?_⟩
    rcases tabInsert_mem t k v e he with rfl | he
    · exact hv
    · exact h.2 e he

/-- The empty table is in canonical form. -/
theorem tabWf_nil [DecidableEq α] (d : Nat → α) : tabWf d ([] : Tab α) := ⟨List.Pairwise.nil, by simp⟩

/-- Changing or dropping entries keeps the canonical form, where each entry keeps its key and none becomes what an unlisted key
reads as. -/
theorem tabFilterMap_wf [DecidableEq α] (d : Nat → α) (t : Tab α) (f : Nat × α → Option (Nat × α)) (h : tabWf d t)
    (hk : ∀ e ∈ t, ∀ x, f e = some x → x.1 = e.1 ∧ x.2 ≠ d x.1) : tabWf d (t.filterMap f) := by
  constructor
  · rw [List.pairwise_filterMap]
    have hp : ∀ {a b : Nat × α}, [a, b].Sublist t → a.1 < b.1 := fun s => List.pairwise_iff_forall_sublist.1 h.1 s
    rw [List.pairwise_iff_forall_sublist]
    intro a b hab x hx y hy
    have ha : a ∈ t := hab.subset (by simp)
    have hb : b ∈ t := hab.subset (by simp)
    rw [(hk a ha x hx).1, (hk b hb y hy).1]
    exact hp hab
  · intro e he
    obtain ⟨a, ha, hx⟩ := List.mem_filterMap.1 he
    exact (hk a ha e hx).2

end Sys2Proof.Machine
end

