-- ==== Sys2Proof/Laws/Registers.lean ====
section
/-! SUPPORT. The laws of registers and memory: a read after a write to the same field gives the value written, modulo the field's
width, and a write leaves every other field and every other byte alone. -/

namespace Sys2Proof.Machine

variable (s : State)

@[simp] theorem State.regAt_putReg_self (a : Nat) (w : Word) : (s.putReg a w).regAt a = w := tabGet_put_self _ _ _ _

theorem State.regAt_putReg_ne {a b : Nat} (w : Word) (h : b ≠ a) : (s.putReg a w).regAt b = s.regAt b := tabGet_put_ne _ _ _ h

/-- Registers at another address are left alone. -/
theorem State.regAt_set_ne {f : Fld} {a : Nat} (v : Nat) (h : a ≠ f.addr) : (s.set f v).regAt a = s.regAt a :=
  s.regAt_putReg_ne _ h

theorem fieldPut_bit (w : Word) (f : Fld) (v i : Nat) :
    (fieldPut w f v).getLsbD i =
      (decide (i < 32) && (if f.lo ≤ i ∧ i < f.lo + f.width then v.testBit (i - f.lo) else w.getLsbD i)) := by
  unfold fieldPut
  simp only [BitVec.getLsbD_or, BitVec.getLsbD_and, BitVec.getLsbD_not, BitVec.getLsbD_shiftLeft, BitVec.getLsbD_ofNat,
    Nat.testBit_two_pow_sub_one, Nat.testBit_mod_two_pow]
  by_cases hi : i < 32
  · have h2 : i - f.lo < 32 := by omega
    by_cases hlo : f.lo ≤ i
    · by_cases hw : i - f.lo < f.width
      · have h3 : i < f.lo + f.width := by omega
        simp only [hi, h2, hlo, hw, h3, Nat.not_lt.2 hlo]
        simp
      · have h3 : ¬i < f.lo + f.width := by omega
        simp only [hi, h2, hlo, hw, h3, Nat.not_lt.2 hlo]
        simp
    · have h3 : i < f.lo := by omega
      simp only [hi, hlo, h3]
      simp
  · have := BitVec.getLsbD_of_ge w i (by omega)
    simp only [hi, this]
    simp

theorem State.get_bit (g : Fld) (i : Nat) : (s.get g).testBit i = (decide (i < g.width) && (s.regAt g.addr).getLsbD (g.lo + i)) := by
  unfold State.get
  rw [Nat.testBit_mod_two_pow]
  simp [BitVec.testBit_toNat]

/-- A read after a write to the same field gives the value written, modulo its width. -/
theorem State.get_set_self (f : Fld) (v : Nat) (h : f.lo + f.width ≤ 32) : (s.set f v).get f = v % 2 ^ f.width := by
  apply Nat.eq_of_testBit_eq
  intro i
  rw [State.get_bit, Nat.testBit_mod_two_pow]
  unfold State.set
  rw [State.regAt_putReg_self, fieldPut_bit]
  by_cases hi : i < f.width
  · have h1 : f.lo + i < 32 := by omega
    simp [hi, h1]
  · simp [hi]

/-- A write leaves another field of the same register alone. -/
theorem State.get_set_disj {f g : Fld} (v : Nat) (ha : f.addr = g.addr) (h : f.lo + f.width ≤ g.lo ∨ g.lo + g.width ≤ f.lo) :
    (s.set f v).get g = s.get g := by
  apply Nat.eq_of_testBit_eq
  intro i
  rw [State.get_bit, State.get_bit]
  unfold State.set
  rw [← ha, State.regAt_putReg_self, fieldPut_bit]
  by_cases hi : i < g.width
  · have : ¬(f.lo ≤ g.lo + i ∧ g.lo + i < f.lo + f.width) := by omega
    by_cases h32 : g.lo + i < 32
    · simp [this, h32]
    · have := BitVec.getLsbD_of_ge (s.regAt f.addr) (g.lo + i) (by omega)
      simp [h32, this]
  · simp [hi]

/-- A write leaves the fields of another register alone. -/
theorem State.get_set_ne {f g : Fld} (v : Nat) (h : g.addr ≠ f.addr) : (s.set f v).get g = s.get g := by
  unfold State.get
  rw [State.regAt_set_ne _ _ h]

/-- Every field but the one written keeps its value. -/
theorem State.get_set_other {f g : Fld} (v : Nat) (h : g.addr ≠ f.addr ∨ f.lo + f.width ≤ g.lo ∨ g.lo + g.width ≤ f.lo) :
    (s.set f v).get g = s.get g := by
  by_cases ha : g.addr = f.addr
  · exact s.get_set_disj v ha.symm (h.resolve_left (fun hn => hn ha))
  · exact s.get_set_ne v ha

/-- A field holds less than its width allows. -/
theorem State.get_lt (g : Fld) : s.get g < 2 ^ g.width := Nat.mod_lt _ (Nat.two_pow_pos _)

theorem State.get_of_regs {s t : State} (h : t.regs = s.regs) (g : Fld) : t.get g = s.get g := by
  unfold State.get State.regAt
  rw [h]

theorem State.regAt_of_regs {s t : State} (h : t.regs = s.regs) (a : Nat) : t.regAt a = s.regAt a := by
  unfold State.regAt
  rw [h]

/-- One byte of DRAM reads as it was written; every other byte is left alone. -/
@[simp] theorem State.byteAt_putByte_self (a : Nat) (b : Byte) : (s.putByte a b).byteAt a = b := tabGet_put_self _ _ _ _

theorem State.byteAt_putByte_ne {a i : Nat} (b : Byte) (h : i ≠ a) : (s.putByte a b).byteAt i = s.byteAt i := tabGet_put_ne _ _ _ h

/-- Bytes written from `a` up leave every byte outside them alone. -/
theorem State.byteAt_writeBytes_out {bs : List Byte} {a i : Nat} (s : State) (h : i < a ∨ a + bs.length ≤ i) :
    (s.writeBytes a bs).byteAt i = s.byteAt i := by
  induction bs generalizing s a with
  | nil => rfl
  | cons b bs ih =>
    unfold State.writeBytes
    simp only [List.length_cons] at h
    rw [ih _ (by omega)]
    exact s.byteAt_putByte_ne b (by omega)

/-- A read of the bytes just written gives them back. -/
theorem State.byteAt_writeBytes_in {bs : List Byte} {a k : Nat} (s : State) (h : k < bs.length) :
    (s.writeBytes a bs).byteAt (a + k) = bs[k] := by
  induction bs generalizing s a k with
  | nil => exact absurd h (Nat.not_lt_zero _)
  | cons b bs ih =>
    unfold State.writeBytes
    cases k with
    | zero =>
      rw [State.byteAt_writeBytes_out _ (Or.inl (by omega))]
      simp
    | succ k =>
      have := ih (s.putByte a b) (a := a + 1) (k := k) (by simpa using h)
      rw [show a + (k + 1) = a + 1 + k by omega, this]
      rfl

end Sys2Proof.Machine
end

