-- ==== Sys2Proof/Laws/Frames.lean ====
section
/-! SUPPORT. How a frame is put together: from nothing changed, through writes of one part, to loops and choices. -/

namespace Sys2Proof.Machine

variable {W : List Part} {R : List Regs} {s0 s t : State}

theorem Frame.refl (W : List Part) (R : List Regs) (s : State) : Frame W R s s :=
  ⟨rfl, id, fun p _ => by cases p <;> rfl, fun _ _ => rfl⟩

theorem Frame.mono {A : List Part} {B : List Regs} (h : Frame A B s t) (hw : ∀ p ∈ A, p ∈ W) (hr : ∀ r ∈ B, r ∈ R) :
    Frame W R s t :=
  ⟨h.pending, h.sound, fun p hp => h.same p (fun ha => hp (hw p ha)), fun g hg => h.regs g (fun r x => hg r (hr r x))⟩

theorem Part.same_trans {p : Part} {a b c : State} (h : p.same a b) (h' : p.same b c) : p.same a c := by
  cases p <;> exact Eq.trans h' h

theorem Frame.trans {a b c : State} (h : Frame W R a b) (h' : Frame W R b c) : Frame W R a c :=
  ⟨h'.pending.trans h.pending, fun x => h'.sound (h.sound x), fun p hp => Part.same_trans (h.same p hp) (h'.same p hp),
    fun g hg => (h'.regs g hg).trans (h.regs g hg)⟩

/-- An intermediate state, taken one at a time. -/
theorem have_frame {x : State} (h : Frame W R s0 x) (g : Frame W R s0 x → Frame W R s0 t) : Frame W R s0 t := g h

/-- Parts named by a callee lie among the parts named by its caller. -/
theorem parts_sub {A B : List Part} (hW : ∀ p ∈ A, p ∈ W) (h : (B.all (fun p => A.contains p)) = true) : ∀ p ∈ B, p ∈ W := by
  intro p hp
  have := List.all_eq_true.1 h p hp
  exact hW p (by simpa using this)

/-- A list of parts that another one holds. -/
theorem parts_in {A B : List Part} (h : (B.all (fun p => A.contains p)) = true) : ∀ p ∈ B, p ∈ A :=
  parts_sub (fun _ hp => hp) h

theorem ite_frame {c : Prop} [Decidable c] {a b : State} (h : c → Frame W R s0 a) (h' : ¬c → Frame W R s0 b) :
    Frame W R s0 (if c then a else b) := by
  split
  · exact h (by assumption)
  · exact h' (by assumption)

/-- A state that a pair holds, taken apart. -/
theorem snd_frame {β : Type} {p : β × State} {x : β} (e : p = (x, t)) (h : Frame W R s0 p.2) : Frame W R s0 t := by
  rw [e] at h
  exact h

theorem fst_frame {β : Type} {p : State × β} {x : β} (e : p = (t, x)) (h : Frame W R s0 p.1) : Frame W R s0 t := by
  rw [e] at h
  exact h

theorem foldl_frame {β : Type} {l : List β} {f : State → β → State} (h : Frame W R s0 s)
    (hf : ∀ t x, Frame W R s0 t → Frame W R s0 (f t x)) : Frame W R s0 (l.foldl f s) := by
  induction l generalizing s with
  | nil => exact h
  | cons x l ih => exact ih (hf s x h)

theorem foldl_pair_frame {β γ : Type} {l : List β} {f : γ × State → β → γ × State} {a : γ × State} (h : Frame W R s0 a.2)
    (hf : ∀ p x, Frame W R s0 p.2 → Frame W R s0 (f p x).2) : Frame W R s0 (l.foldl f a).2 := by
  induction l generalizing a with
  | nil => exact h
  | cons x l ih => exact ih (hf a x h)

theorem foldl_triple_frame {β γ δ : Type} {l : List β} {f : γ × δ × State → β → γ × δ × State} {a : γ × δ × State}
    (h : Frame W R s0 a.2.2) (hf : ∀ p x, Frame W R s0 p.2.2 → Frame W R s0 (f p x).2.2) : Frame W R s0 (l.foldl f a).2.2 := by
  induction l generalizing a with
  | nil => exact h
  | cons x l ih => exact ih (hf a x h)

theorem foldr_frame {β : Type} {l : List β} {f : β → State → State} (h : Frame W R s0 s)
    (hf : ∀ x t, Frame W R s0 t → Frame W R s0 (f x t)) : Frame W R s0 (l.foldr f s) := by
  induction l with
  | nil => exact h
  | cons x l ih => exact hf x _ ih

/-- Where a state's registers and memories stay, canonical forms stay; parts outside `W` stay. -/
theorem Frame.step (h : Frame W R s0 s) (hp : t.pending = s.pending) (hr : t.regs = s.regs) (hd : t.dram = s.dram)
    (hm : t.sram = s.sram) (hs : ∀ p : Part, p ∉ W → p.same s t) : Frame W R s0 t := by
  refine h.trans ⟨hp, ?_, hs, fun g _ => State.get_of_regs hr g⟩
  intro x
  unfold State.Sound State.memWf
  rw [hr, hd, hm]
  exact x

/-- A state that differs from `s` in the parts named only. -/
theorem upd_frame {A : List Part} (hW : ∀ p ∈ A, p ∈ W) (h : Frame W R s0 s) (hp : t.pending = s.pending) (hr : t.regs = s.regs)
    (hd : t.dram = s.dram) (hm : t.sram = s.sram) (hs : ∀ p : Part, p ∉ A → p.same s t) : Frame W R s0 t :=
  h.step hp hr hd hm (fun p hp => hs p (fun ha => hp (hW p ha)))

theorem snd_pair {β γ δ : Type} {p : β × γ × δ} {a : β} {b : γ} {c : δ} (e : p = (a, b, c)) : p.2 = (b, c) := by
  rw [e]

/-- What a command answers: a next state within the frame, or no next state. -/
def OutFrame (W : List Part) (R : List Regs) (s : State) (o : Host.Outcome State Fault Refusal) : Prop :=
  match o with
  | .next t => Frame W R s t
  | .fault _ => True
  | .refused _ => True

theorem have_out {x : State} {o : Host.Outcome State Fault Refusal} (h : Frame W R s0 x) (g : Frame W R s0 x → OutFrame W R s0 o) :
    OutFrame W R s0 o := g h

theorem next_frame (h : Frame W R s0 s) : OutFrame W R s0 (.next s) := h

theorem ite_out {c : Prop} [Decidable c] {a b : Host.Outcome State Fault Refusal} (h : c → OutFrame W R s0 a)
    (h' : ¬c → OutFrame W R s0 b) : OutFrame W R s0 (if c then a else b) := by
  split
  · exact h (by assumption)
  · exact h' (by assumption)

/-- A state that an operation may answer lies within the frame. -/
def OptFrame (W : List Part) (R : List Regs) (s : State) (o : Option State) : Prop :=
  match o with
  | some t => Frame W R s t
  | none => True

theorem some_frame (h : Frame W R s0 s) : OptFrame W R s0 (some s) := h

theorem none_frame : OptFrame W R s0 none := trivial

theorem have_opt {x : State} {o : Option State} (h : Frame W R s0 x) (g : Frame W R s0 x → OptFrame W R s0 o) : OptFrame W R s0 o := g h

theorem ite_opt {c : Prop} [Decidable c] {a b : Option State} (h : c → OptFrame W R s0 a) (h' : ¬c → OptFrame W R s0 b) :
    OptFrame W R s0 (if c then a else b) := by
  split
  · exact h (by assumption)
  · exact h' (by assumption)

theorem opt_frame {o : Option State} (e : o = some t) (h : OptFrame W R s0 o) : Frame W R s0 t := by
  rw [e] at h
  exact h

theorem map_frame {α : Type} {o : Option α} {f : α → State} (h : ∀ x, Frame W R s0 (f x)) : OptFrame W R s0 (o.map f) := by
  cases o with
  | none => exact trivial
  | some x => exact h x

theorem getD_frame {o : Option State} (h : OptFrame W R s0 o) (h' : Frame W R s0 s) : Frame W R s0 (o.getD s) := by
  cases o with
  | none => exact h'
  | some x => exact h

theorem State.when_frame {c : Bool} {f : State → State} (h : Frame W R s0 s) (hf : ∀ t, Frame W R s0 t → Frame W R s0 (f t)) :
    Frame W R s0 (s.when c f) := by
  unfold State.when
  split
  · exact hf s h
  · exact h

theorem State.forN_frame {k : Nat} {f : Nat → State → State} (h : Frame W R s0 s)
    (hf : ∀ i t, Frame W R s0 t → Frame W R s0 (f i t)) : Frame W R s0 (s.forN k f) :=
  foldl_frame h (fun t i ht => hf i t ht)

/-- Every field that `R` leaves alone lies beside field `f`. -/
def Covers (R : List Regs) (f : Fld) : Prop := ∀ g : Fld, (∀ r ∈ R, r.apart g) → (Regs.fld f).apart g

/-- What `R` leaves alone, `A` leaves alone. -/
def RegsIn (A R : List Regs) : Prop := ∀ g : Fld, (∀ r ∈ R, r.apart g) → ∀ r ∈ A, r.apart g

/-- Two fields are the same. -/
def Fld.beq (f g : Fld) : Bool := Nat.beq f.addr g.addr && (Nat.beq f.lo g.lo && Nat.beq f.width g.width)

theorem Fld.eq_of_beq {f g : Fld} (h : f.beq g = true) : f = g := by
  cases f; cases g
  simp [Fld.beq] at h
  simp [h]

/-- Two entries are the same. -/
def Regs.beq : Regs → Regs → Bool
  | .fld f, .fld g => f.beq g
  | .arr f s n, .arr g t m => f.beq g && (Nat.beq s t && Nat.beq n m)
  | .grid f s n u m, .grid g t k v l => f.beq g && (Nat.beq s t && (Nat.beq n k && (Nat.beq u v && Nat.beq m l)))
  | .all, .all => true
  | _, _ => false

theorem Regs.eq_of_beq {a b : Regs} (h : a.beq b = true) : a = b := by
  cases a <;> cases b <;> simp [Regs.beq] at h
  · rw [Fld.eq_of_beq h]
  · rw [Fld.eq_of_beq h.1, h.2.1, h.2.2]
  · rw [Fld.eq_of_beq h.1, h.2.1, h.2.2.1, h.2.2.2.1, h.2.2.2.2]
  · rfl

/-- `A` is part of `B`, in the same order. -/
def regsWithin : List Regs → List Regs → Bool
  | [], as => as.isEmpty
  | b :: bs, as => match as with
    | [] => true
    | a :: as' => if a.beq b then regsWithin bs as' else regsWithin bs as

theorem mem_of_within {B A : List Regs} (h : regsWithin B A = true) : ∀ r ∈ A, r ∈ B := by
  induction B generalizing A with
  | nil => cases A <;> simp_all [regsWithin]
  | cons b bs ih =>
    cases A with
    | nil => simp
    | cons a as =>
      unfold regsWithin at h
      intro r hr
      by_cases e : a.beq b = true
      · simp only [e, if_true] at h
        rcases List.mem_cons.1 hr with rfl | hr
        · exact List.mem_cons.2 (.inl (Regs.eq_of_beq e))
        · exact List.mem_cons.2 (.inr (ih h r hr))
      · simp only [e] at h
        exact List.mem_cons.2 (.inr (ih (by simpa using h) r hr))

theorem regs_in {A : List Regs} (c : regsWithin R A = true) : RegsIn A R := fun _ hg r hr => hg r (mem_of_within c r hr)

theorem regs_sub {A B : List Regs} (h : RegsIn A R) (c : regsWithin A B = true) : RegsIn B R :=
  fun g hg r hr => h g hg r (mem_of_within c r hr)

theorem regs_all {A : List Regs} (h : RegsIn [.all] R) : RegsIn A R :=
  fun g hg _ _ => (h g hg .all (List.mem_singleton.2 rfl)).elim

theorem regs_mem {A : List Regs} {r : Regs} {g : Fld} (h : RegsIn A R) (c : regsWithin A [r] = true) (hg : ∀ r ∈ R, r.apart g) :
    r.apart g := h g hg r (mem_of_within c r (List.mem_singleton.2 rfl))

theorem cov_fld {A : List Regs} {f : Fld} (h : RegsIn A R) (c : regsWithin A [.fld f] = true) : Covers R f :=
  fun _ hg => regs_mem h c hg

theorem cov_arr {A : List Regs} {f f' : Fld} {k m i : Nat} (h : RegsIn A R) (c : regsWithin A [.arr f k m] = true)
    (hm : 0 < m) (e : f' = ⟨f.addr + k * (i % m), f.lo, f.width⟩) : Covers R f' := by
  intro g hg
  rcases regs_mem h c hg with x | x
  · exact .inl (e ▸ x _ (Nat.mod_lt i hm))
  · exact .inr (e ▸ x)

theorem cov_grid {A : List Regs} {f f' : Fld} {k m u l i j : Nat} (h : RegsIn A R) (c : regsWithin A [.grid f k m u l] = true)
    (hm : 0 < m) (hl : 0 < l) (e : f' = ⟨f.addr + k * (i % m) + u * (j % l), f.lo, f.width⟩) : Covers R f' := by
  intro g hg
  rcases regs_mem h c hg with x | x
  · exact .inl (e ▸ x _ (Nat.mod_lt i hm) _ (Nat.mod_lt j hl))
  · exact .inr (e ▸ x)

/-- A test, by numbers alone, that no bit of `g` is one of `r`'s. -/
def Regs.apartB (r : Regs) (g : Fld) : Bool :=
  match r with
  | .fld f => Nat.ble (f.lo + f.width) g.lo || Nat.ble (g.lo + g.width) f.lo || Nat.blt g.addr f.addr || Nat.blt f.addr g.addr
  | .arr f s n => Nat.ble (f.lo + f.width) g.lo || Nat.ble (g.lo + g.width) f.lo || Nat.blt g.addr f.addr ||
      (Nat.blt 0 s && Nat.ble (f.addr + s * n) g.addr) || Nat.blt 0 ((g.addr - f.addr) % s)
  | .grid f s n u m => Nat.ble (f.lo + f.width) g.lo || Nat.ble (g.lo + g.width) f.lo || Nat.blt g.addr f.addr ||
      (Nat.blt 0 s && Nat.blt 0 u && Nat.ble (u * m) s && (Nat.ble (f.addr + s * n) g.addr || Nat.ble (u * m) ((g.addr - f.addr) % s)))
  | .all => false

theorem Regs.apart_of_apartB {r : Regs} {g : Fld} (h : r.apartB g = true) : r.apart g := by
  cases r with
  | fld f =>
    simp only [Regs.apartB, Bool.or_eq_true, Nat.ble_eq, Nat.blt_eq] at h
    unfold Regs.apart
    rcases h with ((h | h) | h) | h
    · exact .inr (.inl h)
    · exact .inr (.inr h)
    · exact .inl (Nat.ne_of_lt h)
    · exact .inl (Nat.ne_of_gt h)
  | arr f s n =>
    simp only [Regs.apartB, Bool.or_eq_true, Bool.and_eq_true, Nat.ble_eq, Nat.blt_eq] at h
    unfold Regs.apart
    rcases h with (((h | h) | h) | h) | h
    · exact .inr (.inl h)
    · exact .inr (.inr h)
    · exact .inl (fun i _ e => by omega)
    · refine .inl (fun i hi e => ?_)
      have : s * i < s * n := Nat.mul_lt_mul_of_pos_left hi h.1
      omega
    · refine .inl (fun i _ e => ?_)
      rw [e, Nat.add_sub_cancel_left, Nat.mul_mod_right] at h
      exact Nat.lt_irrefl 0 h
  | grid f s n u m =>
    simp only [Regs.apartB, Bool.or_eq_true, Bool.and_eq_true, Nat.ble_eq, Nat.blt_eq] at h
    unfold Regs.apart
    rcases h with ((h | h) | h) | h
    · exact .inr (.inl h)
    · exact .inr (.inr h)
    · exact .inl (fun i _ j _ e => by omega)
    · refine .inl (fun i hi j hj e => ?_)
      have hj' : u * j < u * m := Nat.mul_lt_mul_of_pos_left hj h.1.1.2
      rcases h.2 with k | k
      · have : s * (i + 1) ≤ s * n := Nat.mul_le_mul_left _ hi
        rw [Nat.mul_add] at this
        have := h.1.2
        omega
      · have hm : (g.addr - f.addr) % s = u * j := by
          rw [e, Nat.add_assoc, Nat.add_sub_cancel_left, Nat.mul_add_mod, Nat.mod_eq_of_lt (Nat.lt_of_lt_of_le hj' h.1.2)]
        omega
  | all => exact absurd h (by simp [Regs.apartB])

/-- A field that no entry of `R` names keeps its value. -/
theorem Frame.get {g : Fld} (h : Frame W R s t) (c : R.all (fun r => r.apartB g) = true) : t.get g = s.get g :=
  h.regs g (fun r hr => Regs.apart_of_apartB (List.all_eq_true.1 c r hr))

theorem cov_ite {c : Prop} [Decidable c] {f g : Fld} (h : Covers R f) (h' : Covers R g) : Covers R (if c then f else g) := by
  split
  · exact h
  · exact h'

theorem cov_all {A : List Regs} {f : Fld} (h : RegsIn A R) (c : regsWithin A [.all] = true) : Covers R f :=
  fun _ hg => (regs_mem h c hg : False).elim

theorem State.putReg_frame {a : Nat} {w : Word} (hR : Covers R ⟨a, 0, 32⟩) (h : Frame W R s0 s) : Frame W R s0 (s.putReg a w) := by
  refine h.trans ⟨rfl, fun x => ⟨tabPut_wf _ _ _ _ x.1, x.2⟩, fun p _ => by cases p <;> rfl, fun g hg => ?_⟩
  by_cases ha : g.addr = a
  · apply Nat.eq_of_testBit_eq
    intro i
    rw [State.get_bit, State.get_bit]
    rcases hR g hg with x | x | x
    · exact absurd ha x
    · rw [BitVec.getLsbD_of_ge _ _ (by simp at x; omega), BitVec.getLsbD_of_ge _ _ (by simp at x; omega)]
    · have hx : ¬i < g.width := by simp at x; omega
      simp [hx]
  · unfold State.get
    rw [State.regAt_putReg_ne s _ ha]

theorem State.set_frame {f : Fld} {v : Nat} (hR : Covers R f) (h : Frame W R s0 s) : Frame W R s0 (s.set f v) := by
  refine h.trans ⟨rfl, fun x => ⟨tabPut_wf _ _ _ _ x.1, x.2⟩, fun p _ => by cases p <;> rfl, fun g hg => ?_⟩
  exact State.get_set_other s _ (hR g hg)

theorem State.setIf_frame {f : Fld} {b : Bool} (hR : Covers R f) (h : Frame W R s0 s) : Frame W R s0 (s.setIf f b) :=
  State.set_frame hR h

theorem State.setS_frame {f : Fld} {i : ℤ} (hR : Covers R f) (h : Frame W R s0 s) : Frame W R s0 (s.setS f i) :=
  State.set_frame hR h

theorem State.inc_frame {f : Fld} (hR : Covers R f) (h : Frame W R s0 s) : Frame W R s0 (s.inc f) :=
  State.set_frame hR h

theorem State.incSat_frame {f : Fld} {k : Nat} (hR : Covers R f) (h : Frame W R s0 s) : Frame W R s0 (s.incSat f k) :=
  State.set_frame hR h

theorem State.putByte_frame {a : Nat} {b : Byte} (hW : ∀ p ∈ [Part.dram], p ∈ W) (h : Frame W R s0 s) : Frame W R s0 (s.putByte a b) := by
  refine h.trans ⟨rfl, fun x => ⟨x.1, tabPut_wf _ _ _ _ x.2.1, x.2.2⟩, fun p hp => ?_, fun _ _ => rfl⟩
  cases p <;> first
    | rfl
    | exact absurd (hW _ (by simp)) hp

/-- One byte of on-chip SRAM written. -/
theorem putSram_frame {a : Nat} {b : Byte} (hW : ∀ p ∈ [Part.sram], p ∈ W) (h : Frame W R s0 s) :
    Frame W R s0 { s with sram := tabPut (fun _ => 0) s.sram a b } := by
  refine h.trans ⟨rfl, fun x => ⟨x.1, x.2.1, tabPut_wf _ _ _ _ x.2.2⟩, fun p hp => ?_, fun _ _ => rfl⟩
  cases p <;> first
    | rfl
    | exact absurd (hW _ (by simp)) hp

end Sys2Proof.Machine
end

