-- ==== Sys2Proof/Laws/Updates.lean ====
section
/-! SUPPORT. A state that differs in the parts named only. -/

namespace Sys2Proof.Machine

theorem upd_aq {W : List Part} {R : List Regs} {s0 s : State} {v0 : _} (hW : ∀ p ∈ ([.aq] : List Part), p ∈ W) (h : Frame W R s0 s) :
    Frame W R s0 { s with aq := v0 } :=
  h.step rfl rfl rfl rfl (fun p hp => by
    cases p <;> first
      | rfl
      | exact absurd (hW _ (by simp)) hp)

theorem upd_bus {W : List Part} {R : List Regs} {s0 s : State} {v0 : _} (hW : ∀ p ∈ ([.bus] : List Part), p ∈ W) (h : Frame W R s0 s) :
    Frame W R s0 { s with bus := v0 } :=
  h.step rfl rfl rfl rfl (fun p hp => by
    cases p <;> first
      | rfl
      | exact absurd (hW _ (by simp)) hp)

theorem upd_carr {W : List Part} {R : List Regs} {s0 s : State} {v0 : _} (hW : ∀ p ∈ ([.carr] : List Part), p ∈ W) (h : Frame W R s0 s) :
    Frame W R s0 { s with carr := v0 } :=
  h.step rfl rfl rfl rfl (fun p hp => by
    cases p <;> first
      | rfl
      | exact absurd (hW _ (by simp)) hp)

theorem upd_chans {W : List Part} {R : List Regs} {s0 s : State} {v0 : _} (hW : ∀ p ∈ ([.chans] : List Part), p ∈ W) (h : Frame W R s0 s) :
    Frame W R s0 { s with chans := v0 } :=
  h.step rfl rfl rfl rfl (fun p hp => by
    cases p <;> first
      | rfl
      | exact absurd (hW _ (by simp)) hp)

theorem upd_chans_shockQuiet {W : List Part} {R : List Regs} {s0 s : State} {v0 : _} {v1 : _} (hW : ∀ p ∈ ([.chans, .shockQuiet] : List Part), p ∈ W) (h : Frame W R s0 s) :
    Frame W R s0 { s with chans := v0, shockQuiet := v1 } :=
  h.step rfl rfl rfl rfl (fun p hp => by
    cases p <;> first
      | rfl
      | exact absurd (hW _ (by simp)) hp)

theorem upd_dma {W : List Part} {R : List Regs} {s0 s : State} {v0 : _} (hW : ∀ p ∈ ([.dma] : List Part), p ∈ W) (h : Frame W R s0 s) :
    Frame W R s0 { s with dma := v0 } :=
  h.step rfl rfl rfl rfl (fun p hp => by
    cases p <;> first
      | rfl
      | exact absurd (hW _ (by simp)) hp)

theorem upd_drawn {W : List Part} {R : List Regs} {s0 s : State} {v0 : _} (hW : ∀ p ∈ ([.drawn] : List Part), p ∈ W) (h : Frame W R s0 s) :
    Frame W R s0 { s with drawn := v0 } :=
  h.step rfl rfl rfl rfl (fun p hp => by
    cases p <;> first
      | rfl
      | exact absurd (hW _ (by simp)) hp)

theorem upd_drawn_dyke {W : List Part} {R : List Regs} {s0 s : State} {v0 : _} {v1 : _} (hW : ∀ p ∈ ([.drawn, .dyke] : List Part), p ∈ W) (h : Frame W R s0 s) :
    Frame W R s0 { s with drawn := v0, dyke := v1 } :=
  h.step rfl rfl rfl rfl (fun p hp => by
    cases p <;> first
      | rfl
      | exact absurd (hW _ (by simp)) hp)

theorem upd_dyke {W : List Part} {R : List Regs} {s0 s : State} {v0 : _} (hW : ∀ p ∈ ([.dyke] : List Part), p ∈ W) (h : Frame W R s0 s) :
    Frame W R s0 { s with dyke := v0 } :=
  h.step rfl rfl rfl rfl (fun p hp => by
    cases p <;> first
      | rfl
      | exact absurd (hW _ (by simp)) hp)

theorem upd_fenIrq {W : List Part} {R : List Regs} {s0 s : State} {v0 : _} (hW : ∀ p ∈ ([.fenIrq] : List Part), p ∈ W) (h : Frame W R s0 s) :
    Frame W R s0 { s with fenIrq := v0 } :=
  h.step rfl rfl rfl rfl (fun p hp => by
    cases p <;> first
      | rfl
      | exact absurd (hW _ (by simp)) hp)

theorem upd_lev {W : List Part} {R : List Regs} {s0 s : State} {v0 : _} (hW : ∀ p ∈ ([.lev] : List Part), p ∈ W) (h : Frame W R s0 s) :
    Frame W R s0 { s with lev := v0 } :=
  h.step rfl rfl rfl rfl (fun p hp => by
    cases p <;> first
      | rfl
      | exact absurd (hW _ (by simp)) hp)

theorem upd_links {W : List Part} {R : List Regs} {s0 s : State} {v0 : _} (hW : ∀ p ∈ ([.links] : List Part), p ∈ W) (h : Frame W R s0 s) :
    Frame W R s0 { s with links := v0 } :=
  h.step rfl rfl rfl rfl (fun p hp => by
    cases p <;> first
      | rfl
      | exact absurd (hW _ (by simp)) hp)

theorem upd_mireIrq {W : List Part} {R : List Regs} {s0 s : State} {v0 : _} (hW : ∀ p ∈ ([.mireIrq] : List Part), p ∈ W) (h : Frame W R s0 s) :
    Frame W R s0 { s with mireIrq := v0 } :=
  h.step rfl rfl rfl rfl (fun p hp => by
    cases p <;> first
      | rfl
      | exact absurd (hW _ (by simp)) hp)

theorem upd_mireIrq_fenIrq_mireRuns_warmBusy_aq_dyke {W : List Part} {R : List Regs} {s0 s : State} {v0 : _} {v1 : _} {v2 : _} {v3 : _} {v4 : _} {v5 : _} (hW : ∀ p ∈ ([.mireIrq, .fenIrq, .mireRuns, .warmBusy, .aq, .dyke] : List Part), p ∈ W) (h : Frame W R s0 s) :
    Frame W R s0 { s with mireIrq := v0, fenIrq := v1, mireRuns := v2, warmBusy := v3, aq := v4, dyke := v5 } :=
  h.step rfl rfl rfl rfl (fun p hp => by
    cases p <;> first
      | rfl
      | exact absurd (hW _ (by simp)) hp)

theorem upd_mireRuns_warmBusy_dyke {W : List Part} {R : List Regs} {s0 s : State} {v0 : _} {v1 : _} {v2 : _} (hW : ∀ p ∈ ([.mireRuns, .warmBusy, .dyke] : List Part), p ∈ W) (h : Frame W R s0 s) :
    Frame W R s0 { s with mireRuns := v0, warmBusy := v1, dyke := v2 } :=
  h.step rfl rfl rfl rfl (fun p hp => by
    cases p <;> first
      | rfl
      | exact absurd (hW _ (by simp)) hp)

theorem upd_mq {W : List Part} {R : List Regs} {s0 s : State} {v0 : _} (hW : ∀ p ∈ ([.mq] : List Part), p ∈ W) (h : Frame W R s0 s) :
    Frame W R s0 { s with mq := v0 } :=
  h.step rfl rfl rfl rfl (fun p hp => by
    cases p <;> first
      | rfl
      | exact absurd (hW _ (by simp)) hp)

theorem upd_peat {W : List Part} {R : List Regs} {s0 s : State} {v0 : _} (hW : ∀ p ∈ ([.peat] : List Part), p ∈ W) (h : Frame W R s0 s) :
    Frame W R s0 { s with peat := v0 } :=
  h.step rfl rfl rfl rfl (fun p hp => by
    cases p <;> first
      | rfl
      | exact absurd (hW _ (by simp)) hp)

theorem upd_seqs {W : List Part} {R : List Regs} {s0 s : State} {v0 : _} (hW : ∀ p ∈ ([.seqs] : List Part), p ∈ W) (h : Frame W R s0 s) :
    Frame W R s0 { s with seqs := v0 } :=
  h.step rfl rfl rfl rfl (fun p hp => by
    cases p <;> first
      | rfl
      | exact absurd (hW _ (by simp)) hp)

theorem upd_shockQuiet {W : List Part} {R : List Regs} {s0 s : State} {v0 : _} (hW : ∀ p ∈ ([.shockQuiet] : List Part), p ∈ W) (h : Frame W R s0 s) :
    Frame W R s0 { s with shockQuiet := v0 } :=
  h.step rfl rfl rfl rfl (fun p hp => by
    cases p <;> first
      | rfl
      | exact absurd (hW _ (by simp)) hp)

theorem upd_slu {W : List Part} {R : List Regs} {s0 s : State} {v0 : _} (hW : ∀ p ∈ ([.slu] : List Part), p ∈ W) (h : Frame W R s0 s) :
    Frame W R s0 { s with slu := v0 } :=
  h.step rfl rfl rfl rfl (fun p hp => by
    cases p <;> first
      | rfl
      | exact absurd (hW _ (by simp)) hp)

theorem upd_stg {W : List Part} {R : List Regs} {s0 s : State} {v0 : _} (hW : ∀ p ∈ ([.stg] : List Part), p ∈ W) (h : Frame W R s0 s) :
    Frame W R s0 { s with stg := v0 } :=
  h.step rfl rfl rfl rfl (fun p hp => by
    cases p <;> first
      | rfl
      | exact absurd (hW _ (by simp)) hp)

theorem upd_sth {W : List Part} {R : List Regs} {s0 s : State} {v0 : _} (hW : ∀ p ∈ ([.sth] : List Part), p ∈ W) (h : Frame W R s0 s) :
    Frame W R s0 { s with sth := v0 } :=
  h.step rfl rfl rfl rfl (fun p hp => by
    cases p <;> first
      | rfl
      | exact absurd (hW _ (by simp)) hp)

theorem upd_tide {W : List Part} {R : List Regs} {s0 s : State} {v0 : _} (hW : ∀ p ∈ ([.tide] : List Part), p ∈ W) (h : Frame W R s0 s) :
    Frame W R s0 { s with tide := v0 } :=
  h.step rfl rfl rfl rfl (fun p hp => by
    cases p <;> first
      | rfl
      | exact absurd (hW _ (by simp)) hp)

theorem upd_tus {W : List Part} {R : List Regs} {s0 s : State} {v0 : _} (hW : ∀ p ∈ ([.tus] : List Part), p ∈ W) (h : Frame W R s0 s) :
    Frame W R s0 { s with tus := v0 } :=
  h.step rfl rfl rfl rfl (fun p hp => by
    cases p <;> first
      | rfl
      | exact absurd (hW _ (by simp)) hp)

theorem upd_weir {W : List Part} {R : List Regs} {s0 s : State} {v0 : _} (hW : ∀ p ∈ ([.weir] : List Part), p ∈ W) (h : Frame W R s0 s) :
    Frame W R s0 { s with weir := v0 } :=
  h.step rfl rfl rfl rfl (fun p hp => by
    cases p <;> first
      | rfl
      | exact absurd (hW _ (by simp)) hp)

theorem upd_weir_withy {W : List Part} {R : List Regs} {s0 s : State} {v0 : _} {v1 : _} (hW : ∀ p ∈ ([.weir, .withy] : List Part), p ∈ W) (h : Frame W R s0 s) :
    Frame W R s0 { s with weir := v0, withy := v1 } :=
  h.step rfl rfl rfl rfl (fun p hp => by
    cases p <;> first
      | rfl
      | exact absurd (hW _ (by simp)) hp)

theorem upd_withy {W : List Part} {R : List Regs} {s0 s : State} {v0 : _} (hW : ∀ p ∈ ([.withy] : List Part), p ∈ W) (h : Frame W R s0 s) :
    Frame W R s0 { s with withy := v0 } :=
  h.step rfl rfl rfl rfl (fun p hp => by
    cases p <;> first
      | rfl
      | exact absurd (hW _ (by simp)) hp)

theorem upd_withy_tus {W : List Part} {R : List Regs} {s0 s : State} {v0 : _} {v1 : _} (hW : ∀ p ∈ ([.withy, .tus] : List Part), p ∈ W) (h : Frame W R s0 s) :
    Frame W R s0 { s with withy := v0, tus := v1 } :=
  h.step rfl rfl rfl rfl (fun p hp => by
    cases p <;> first
      | rfl
      | exact absurd (hW _ (by simp)) hp)

end Sys2Proof.Machine
end

