-- ==== Sys2Proof/Laws/FrameShared.lean ====
section
/-! SUPPORT. Frames of the shared operations (Ops, Stream, Faults, Operands, Signal): what an operation may change, and what a command may change. -/

set_option Elab.async false

namespace Sys2Proof.Machine

/-! ### Machine/Ops.lean -/

theorem State.atMang_frame {W : List Part} {R : List Regs} {s0 s : State} {m : Word} (hR : RegsIn (([.fld ⟨0x4E000000, 0, 32⟩]
    : List Regs)) R) (h : Frame W R s0 s) :
    Frame W R s0 (State.atMang s m) := by
  unfold State.atMang
  repeat' first
    | with_reducible exact h
    | with_reducible refine State.putReg_frame ?_ ?_
    | exact cov_fld hR (by decide +kernel)

theorem State.draw_frame {W : List Part} {R : List Regs} {s0 s : State} {width : ℕ} (hW : ∀ p ∈ ([.drawn] : List Part), p ∈ W)
    (h : Frame W R s0 s) :
    Frame W R s0 (State.draw s width).2 := by
  unfold State.draw
  repeat' first
    | with_reducible exact h
    | with_reducible assumption
    | with_reducible refine upd_drawn ?_ ?_

theorem State.irqMire_frame {W : List Part} {R : List Regs} {s0 s : State} {x : MireIrq} (hW : ∀ p ∈ ([.mireIrq] : List Part),
    p ∈ W) (h : Frame W R s0 s) :
    Frame W R s0 (State.irqMire s x) := by
  unfold State.irqMire
  repeat' first
    | with_reducible exact h
    | with_reducible assumption
    | with_reducible refine ite_frame (fun _ => ?_) (fun _ => ?_)
    | with_reducible refine upd_mireIrq ?_ ?_

theorem State.served_frame {W : List Part} {R : List Regs} {s0 s : State} {x : MireIrq} (hW : ∀ p ∈ ([.mireIrq] : List Part),
    p ∈ W) (h : Frame W R s0 s) :
    Frame W R s0 (State.served s x) := by
  unfold State.served
  repeat' first
    | with_reducible exact h
    | with_reducible assumption
    | with_reducible refine upd_mireIrq ?_ ?_

theorem State.irqFen_frame {W : List Part} {R : List Regs} {s0 s : State} {core : ℕ} {x : FenIrq} (hW : ∀ p ∈ ([.fenIrq] :
    List Part), p ∈ W) (h : Frame W R s0 s) :
    Frame W R s0 (State.irqFen s core x) := by
  unfold State.irqFen
  repeat' first
    | with_reducible exact h
    | with_reducible assumption
    | with_reducible refine ite_frame (fun _ => ?_) (fun _ => ?_)
    | with_reducible refine upd_fenIrq ?_ ?_

theorem State.answer_frame {W : List Part} {R : List Regs} {s0 s : State} {v : ℕ} (hW : ∀ p ∈ ([.bus] : List Part), p ∈ W) (h
    : Frame W R s0 s) :
    Frame W R s0 (State.answer s v) := by
  unfold State.answer
  repeat' first
    | with_reducible exact h
    | with_reducible assumption
    | with_reducible refine upd_bus ?_ ?_

theorem State.ack_frame {W : List Part} {R : List Regs} {s0 s : State} (hW : ∀ p ∈ ([.bus] : List Part), p ∈ W) (h : Frame W R
    s0 s) :
    Frame W R s0 (State.ack s) := by
  unfold State.ack
  repeat' first
    | with_reducible exact h
    | with_reducible assumption
    | with_reducible refine upd_bus ?_ ?_

theorem State.busErr_frame {W : List Part} {R : List Regs} {s0 s : State} (hW : ∀ p ∈ ([.bus] : List Part), p ∈ W) (h : Frame
    W R s0 s) :
    Frame W R s0 (State.busErr s) := by
  unfold State.busErr
  repeat' first
    | with_reducible exact h
    | with_reducible assumption
    | with_reducible refine upd_bus ?_ ?_

theorem State.writeBytes_frame {W : List Part} {R : List Regs} {s0 s : State} {a : ℕ} {y1 : List Byte} (hW : ∀ p ∈ ([.dram] :
    List Part), p ∈ W) (h : Frame W R s0 s) :
    Frame W R s0 (State.writeBytes s a y1) := by
  induction y1 generalizing s a with
  | nil =>
    unfold State.writeBytes
    repeat' first
      | with_reducible exact h
  | cons b bs ih =>
    unfold State.writeBytes
    repeat' first
      | with_reducible apply ih
      | with_reducible exact h
      | with_reducible assumption
      | with_reducible refine State.putByte_frame ?_    ?_

/-! ### Machine/Stream.lean -/

theorem State.updSeq_frame {W : List Part} {R : List Regs} {s0 s : State} {n : ℕ} {f : Seq → Seq} (hW : ∀ p ∈ ([.seqs] : List
    Part), p ∈ W) (h : Frame W R s0 s) :
    Frame W R s0 (State.updSeq s n f) := by
  unfold State.updSeq
  repeat' first
    | with_reducible exact h
    | with_reducible assumption
    | with_reducible refine upd_seqs ?_ ?_

theorem State.updChan_frame {W : List Part} {R : List Regs} {s0 s : State} {n : ℕ} {f : Channel → Channel} (hW : ∀ p ∈
    ([.chans] : List Part), p ∈ W) (h : Frame W R s0 s) :
    Frame W R s0 (State.updChan s n f) := by
  unfold State.updChan
  repeat' first
    | with_reducible exact h
    | with_reducible assumption
    | with_reducible refine upd_chans ?_ ?_

theorem State.updStage_frame {W : List Part} {R : List Regs} {s0 s : State} {n : ℕ} {f : Staging → Staging} (hW : ∀ p ∈
    ([.stg] : List Part), p ∈ W) (h : Frame W R s0 s) :
    Frame W R s0 (State.updStage s n f) := by
  unfold State.updStage
  repeat' first
    | with_reducible exact h
    | with_reducible assumption
    | with_reducible refine upd_stg ?_ ?_

theorem State.reedCount_frame {W : List Part} {R : List Regs} {s0 s : State} {n : ℕ} (hR : RegsIn (([.arr
    (.REED_ST_STATUS_EVT_CNT 0) 0x100 8] : List Regs)) R) (h : Frame W R s0 s) :
    Frame W R s0 (State.reedCount s n) := by
  unfold State.reedCount
  repeat' first
    | with_reducible exact h
    | with_reducible refine State.set_frame ?_ ?_
    | exact cov_arr (f := .REED_ST_STATUS_EVT_CNT 0) (k := 0x100) (m := 8) hR (by decide +kernel) (by decide) rfl

theorem State.reedEvent_frame {W : List Part} {R : List Regs} {s0 s : State} {n : ℕ} {kind : ℕ} {data : ℕ} (hW : ∀ p ∈
    ([.seqs] : List Part), p ∈ W) (hR : RegsIn (([.arr (.REED_ST_STATUS_EVT_CNT 0) 0x100 8] : List Regs)) R) (h : Frame W R s0
    s) :
    Frame W R s0 (State.reedEvent s n kind data) := by
  unfold State.reedEvent
  repeat' first
    | with_reducible exact h
    | with_reducible assumption
    | (extract_lets +onlyGivenNames y; clear_value y; revert y; intro _)
    | with_reducible refine ite_frame (fun _ => ?_) (fun _ => ?_)
    | with_reducible refine State.reedCount_frame  ?_   ?_
    | with_reducible refine State.updSeq_frame ?_    ?_

theorem State.sdgStatus_frame {W : List Part} {R : List Regs} {s0 s : State} {n : ℕ} (hW : ∀ p ∈ ([.mireIrq] : List Part), p ∈
    W) (hR : RegsIn (([.fld .SDG_STATUS_RES_IRQ, .fld .SDG_STATUS_PENDING, .arr (.SDG_ST_STATUS_RES_CNT 0) 0x400 8, .arr
    (.SDG_ST_STATUS_PARK_USED 0) 0x400 8, .arr (.SDG_ST_STATUS_PENDING_CNT 0) 0x400 8] : List Regs)) R) (h : Frame W R s0 s) :
    Frame W R s0 (State.sdgStatus s n) := by
  unfold State.sdgStatus
  repeat' first
    | with_reducible exact h
    | with_reducible assumption
    | (extract_lets +onlyGivenNames x; refine have_frame (x := x) ?_ (fun hx => ?_); (on_goal 2 => (clear_value x; revert x; intro _ _)); (on_goal 1 => (unfold x; clear x)))
    | (extract_lets +onlyGivenNames f; have := fun a => f a; clear this; unfold f; clear f)
    | (extract_lets +onlyGivenNames y; clear_value y; revert y; intro _)
    | with_reducible refine State.when_frame ?_ (fun t ht => ?_)
    | with_reducible refine State.irqMire_frame ?_    ?_
    | with_reducible refine State.set_frame ?_ ?_
    | exact cov_fld hR (by decide +kernel)
    | exact cov_arr (f := .SDG_ST_STATUS_RES_CNT 0) (k := 0x400) (m := 8) hR (by decide +kernel) (by decide) rfl
    | exact cov_arr (f := .SDG_ST_STATUS_PARK_USED 0) (k := 0x400) (m := 8) hR (by decide +kernel) (by decide) rfl
    | exact cov_arr (f := .SDG_ST_STATUS_PENDING_CNT 0) (k := 0x400) (m := 8) hR (by decide +kernel) (by decide) rfl

theorem State.postResult_frame {W : List Part} {R : List Regs} {s0 s : State} {n : ℕ} {r : SectorResult} (hW : ∀ p ∈
    ([.mireIrq, .chans] : List Part), p ∈ W) (hR : RegsIn (([.fld .SDG_STATUS_RES_IRQ, .fld .SDG_STATUS_PENDING, .arr
    (.SDG_ST_STATUS_RES_OVF 0) 0x400 8, .arr (.SDG_ST_STATUS_RES_CNT 0) 0x400 8, .arr (.SDG_ST_STATUS_PARK_USED 0) 0x400 8,
    .arr (.SDG_ST_STATUS_PENDING_CNT 0) 0x400 8] : List Regs)) R) (h : Frame W R s0 s) :
    Frame W R s0 (State.postResult s n r) := by
  unfold State.postResult
  repeat' first
    | with_reducible exact h
    | with_reducible assumption
    | (extract_lets +onlyGivenNames x; refine have_frame (x := x) ?_ (fun hx => ?_); (on_goal 2 => (clear_value x; revert x; intro _ _)); (on_goal 1 => (unfold x; clear x)))
    | exact parts_sub hW rfl
    | exact regs_sub hR (by decide +kernel)
    | with_reducible refine ite_frame (fun _ => ?_) (fun _ => ?_)
    | with_reducible refine State.when_frame ?_ (fun t ht => ?_)
    | with_reducible refine State.updChan_frame ?_    ?_
    | with_reducible refine State.irqMire_frame ?_    ?_
    | with_reducible refine State.set_frame ?_ ?_
    | with_reducible refine State.sdgStatus_frame ?_ ?_   ?_
    | exact cov_arr (f := .SDG_ST_STATUS_RES_OVF 0) (k := 0x400) (m := 8) hR (by decide +kernel) (by decide) rfl

theorem State.telAdd_frame {W : List Part} {R : List Regs} {s0 s : State} {n : ℕ} {i : ℕ} {k : ℕ} (hW : ∀ p ∈ ([.chans] : List
    Part), p ∈ W) (h : Frame W R s0 s) :
    Frame W R s0 (State.telAdd s n i k) := by
  unfold State.telAdd
  repeat' first
    | with_reducible exact h
    | with_reducible assumption
    | with_reducible refine State.updChan_frame ?_    ?_

theorem State.telLevel_frame {W : List Part} {R : List Regs} {s0 s : State} {n : ℕ} {i : ℕ} {v : ℕ} (hW : ∀ p ∈ ([.chans] :
    List Part), p ∈ W) (h : Frame W R s0 s) :
    Frame W R s0 (State.telLevel s n i v) := by
  unfold State.telLevel
  repeat' first
    | with_reducible exact h
    | with_reducible assumption
    | with_reducible refine State.updChan_frame ?_    ?_

theorem State.eraseBits_frame {W : List Part} {R : List Regs} {s0 s : State} {n : ℕ} {lo : ℕ} {hi : ℕ} (hW : ∀ p ∈ ([.chans] :
    List Part), p ∈ W) (h : Frame W R s0 s) :
    Frame W R s0 (State.eraseBits s n lo hi) := by
  unfold State.eraseBits
  repeat' first
    | with_reducible exact h
    | with_reducible assumption
    | (extract_lets +onlyGivenNames y; clear_value y; revert y; intro _)
    | with_reducible refine State.updChan_frame ?_    ?_

theorem State.endDefects_frame {W : List Part} {R : List Regs} {s0 s : State} {n : ℕ} (hW : ∀ p ∈ ([.chans] : List Part), p ∈
    W) (hR : RegsIn (([.arr (.SDG_FE_STATUS_TA_ACTIVE 0) 0x400 8, .arr (.SDG_FE_STATUS_DO_ACTIVE 0) 0x400 8] : List Regs)) R)
    (h : Frame W R s0 s) :
    Frame W R s0 (State.endDefects s n) := by
  unfold State.endDefects
  repeat' first
    | with_reducible exact h
    | with_reducible assumption
    | (extract_lets +onlyGivenNames x; refine have_frame (x := x) ?_ (fun hx => ?_); (on_goal 2 => (clear_value x; revert x; intro _ _)); (on_goal 1 => (unfold x; clear x)))
    | (extract_lets +onlyGivenNames y; clear_value y; revert y; intro _)
    | with_reducible refine State.updChan_frame ?_    ?_
    | with_reducible refine State.eraseBits_frame ?_    ?_
    | with_reducible refine State.set_frame ?_ ?_
    | exact cov_arr (f := .SDG_FE_STATUS_TA_ACTIVE 0) (k := 0x400) (m := 8) hR (by decide +kernel) (by decide) rfl
    | exact cov_arr (f := .SDG_FE_STATUS_DO_ACTIVE 0) (k := 0x400) (m := 8) hR (by decide +kernel) (by decide) rfl
    | split

theorem State.cutRead_frame {W : List Part} {R : List Regs} {s0 s : State} {n : ℕ} (hW : ∀ p ∈ ([.mireIrq, .seqs, .chans] :
    List Part), p ∈ W) (hR : RegsIn (([.fld .SDG_STATUS_RES_IRQ, .fld .SDG_STATUS_PENDING, .arr (.SDG_ST_STATUS_RES_OVF 0)
    0x400 8, .arr (.SDG_ST_STATUS_RES_CNT 0) 0x400 8, .arr (.SDG_ST_STATUS_PARK_USED 0) 0x400 8, .arr
    (.SDG_ST_STATUS_PENDING_CNT 0) 0x400 8, .arr (.SDG_FE_STATUS_TA_ACTIVE 0) 0x400 8, .arr (.SDG_FE_STATUS_DO_ACTIVE 0) 0x400
    8] : List Regs)) R) (h : Frame W R s0 s) :
    Frame W R s0 (State.cutRead s n) := by
  unfold State.cutRead
  repeat' first
    | with_reducible exact h
    | with_reducible assumption
    | (extract_lets +onlyGivenNames x; refine have_frame (x := x) ?_ (fun hx => ?_); (on_goal 2 => (clear_value x; revert x; intro _ _)); (on_goal 1 => (unfold x; clear x)))
    | (extract_lets +onlyGivenNames y; clear_value y; revert y; intro _)
    | exact parts_sub hW rfl
    | exact regs_sub hR (by decide +kernel)
    | with_reducible refine ite_frame (fun _ => ?_) (fun _ => ?_)
    | with_reducible refine State.postResult_frame ?_ ?_   ?_
    | with_reducible refine State.updSeq_frame ?_    ?_
    | with_reducible refine State.updChan_frame ?_    ?_
    | with_reducible refine State.endDefects_frame ?_ ?_   ?_

theorem State.stgStatus_frame {W : List Part} {R : List Regs} {s0 s : State} {n : ℕ} (hR : RegsIn (([.arr
    (.SLU_STG_STATUS_ACTIVE 0) 0x4 8, .arr (.SLU_STG_STATUS_DIR 0) 0x4 8, .arr (.SLU_STG_STATUS_RESV 0) 0x4 8, .arr
    (.SLU_STG_STATUS_READY 0) 0x4 8] : List Regs)) R) (h : Frame W R s0 s) :
    Frame W R s0 (State.stgStatus s n) := by
  unfold State.stgStatus
  repeat' first
    | with_reducible exact h
    | (extract_lets +onlyGivenNames y; clear_value y; revert y; intro _)
    | with_reducible refine State.setIf_frame ?_ ?_
    | with_reducible refine State.set_frame ?_ ?_
    | exact cov_arr (f := .SLU_STG_STATUS_ACTIVE 0) (k := 0x4) (m := 8) hR (by decide +kernel) (by decide) rfl
    | exact cov_arr (f := .SLU_STG_STATUS_DIR 0) (k := 0x4) (m := 8) hR (by decide +kernel) (by decide) rfl
    | exact cov_arr (f := .SLU_STG_STATUS_RESV 0) (k := 0x4) (m := 8) hR (by decide +kernel) (by decide) rfl
    | exact cov_arr (f := .SLU_STG_STATUS_READY 0) (k := 0x4) (m := 8) hR (by decide +kernel) (by decide) rfl

theorem State.endFragment_frame {W : List Part} {R : List Regs} {s0 s : State} {n : ℕ} {f : VfyEntry → VfyEntry} (hW : ∀ p ∈
    ([.chans] : List Part), p ∈ W) (h : Frame W R s0 s) :
    Frame W R s0 (State.endFragment s n f) := by
  unfold State.endFragment
  repeat' first
    | with_reducible exact h
    | with_reducible assumption
    | (extract_lets +onlyGivenNames y; clear_value y; revert y; intro _)
    | with_reducible refine ite_frame (fun _ => ?_) (fun _ => ?_)
    | with_reducible refine State.updChan_frame ?_    ?_

theorem State.dropWg_frame {W : List Part} {R : List Regs} {s0 s : State} {n : ℕ} {cause : ℕ} (hW : ∀ p ∈ ([.seqs, .chans] :
    List Part), p ∈ W) (hR : RegsIn (([.fld .SDG_WF_STATUS_CAUSE_SEEN, .arr (.SDG_WR_STATUS_WG 0) 0x400 8, .arr
    (.SDG_WR_STATUS_CAUSE 0) 0x400 8, .arr (.SDG_WR_STATUS_DROPS 0) 0x400 8, .arr (.SDG_WR_DROP_MANG 0) 0x400 8] : List Regs))
    R) (h : Frame W R s0 s) :
    Frame W R s0 (State.dropWg s n cause) := by
  unfold State.dropWg
  repeat' first
    | with_reducible exact h
    | with_reducible assumption
    | (extract_lets +onlyGivenNames x; refine have_frame (x := x) ?_ (fun hx => ?_); (on_goal 2 => (clear_value x; revert x; intro _ _)); (on_goal 1 => (unfold x; clear x)))
    | (extract_lets +onlyGivenNames y; clear_value y; revert y; intro _)
    | exact parts_sub hW rfl
    | with_reducible refine ite_frame (fun _ => ?_) (fun _ => ?_)
    | with_reducible refine State.when_frame ?_ (fun t ht => ?_)
    | with_reducible refine State.incSat_frame ?_ ?_
    | with_reducible refine State.updSeq_frame ?_    ?_
    | with_reducible refine State.updChan_frame ?_    ?_
    | with_reducible refine State.endFragment_frame ?_    ?_
    | with_reducible refine State.set_frame ?_ ?_
    | exact cov_fld hR (by decide +kernel)
    | exact cov_arr (f := .SDG_WR_STATUS_WG 0) (k := 0x400) (m := 8) hR (by decide +kernel) (by decide) rfl
    | exact cov_arr (f := .SDG_WR_STATUS_CAUSE 0) (k := 0x400) (m := 8) hR (by decide +kernel) (by decide) rfl
    | exact cov_arr (f := .SDG_WR_STATUS_DROPS 0) (k := 0x400) (m := 8) hR (by decide +kernel) (by decide) rfl
    | exact cov_arr (f := .SDG_WR_DROP_MANG 0) (k := 0x400) (m := 8) hR (by decide +kernel) (by decide) rfl

theorem State.dropGates_frame {W : List Part} {R : List Regs} {s0 s : State} {n : ℕ} {cause : ℕ} (hW : ∀ p ∈ ([.seqs, .chans]
    : List Part), p ∈ W) (hR : RegsIn (([.fld .SDG_WF_STATUS_CAUSE_SEEN, .arr (.SDG_WR_STATUS_WG 0) 0x400 8, .arr
    (.SDG_WR_STATUS_CAUSE 0) 0x400 8, .arr (.SDG_WR_STATUS_DROPS 0) 0x400 8, .arr (.SDG_WR_DROP_MANG 0) 0x400 8] : List Regs))
    R) (h : Frame W R s0 s) :
    Frame W R s0 (State.dropGates s n cause) := by
  unfold State.dropGates
  repeat' first
    | with_reducible exact h
    | with_reducible assumption
    | exact parts_sub hW rfl
    | with_reducible refine State.dropWg_frame ?_ ?_   ?_
    | with_reducible refine State.updSeq_frame ?_    ?_

theorem State.restartDue_frame {W : List Part} {R : List Regs} {s0 s : State} {n : ℕ} {cause : ℕ} (hW : ∀ p ∈ ([.seqs] : List
    Part), p ∈ W) (h : Frame W R s0 s) :
    Frame W R s0 (State.restartDue s n cause) := by
  unfold State.restartDue
  repeat' first
    | with_reducible exact h
    | with_reducible assumption
    | with_reducible refine State.updSeq_frame ?_    ?_

theorem State.terminate_frame {W : List Part} {R : List Regs} {s0 s : State} {n : ℕ} {term : ℕ} {cause : ℕ} (hW : ∀ p ∈
    ([.mireIrq, .seqs, .chans, .stg] : List Part), p ∈ W) (hR : RegsIn (haltRegs) R) (h : Frame W R s0 s) :
    Frame W R s0 (State.terminate s n term cause) := by
  unfold State.terminate
  repeat' first
    | with_reducible exact h
    | with_reducible assumption
    | (extract_lets +onlyGivenNames x; refine have_frame (x := x) ?_ (fun hx => ?_); (on_goal 2 => (clear_value x; revert x; intro _ _)); (on_goal 1 => (unfold x; clear x)))
    | exact parts_sub hW rfl
    | exact regs_sub hR (by decide +kernel)
    | with_reducible refine ite_frame (fun _ => ?_) (fun _ => ?_)
    | with_reducible refine State.when_frame ?_ (fun t ht => ?_)
    | with_reducible refine State.stgStatus_frame  ?_   ?_
    | with_reducible refine State.updSeq_frame ?_    ?_
    | with_reducible refine State.updChan_frame ?_    ?_
    | with_reducible refine State.dropGates_frame ?_ ?_   ?_
    | with_reducible refine State.endDefects_frame ?_ ?_   ?_
    | with_reducible refine State.updStage_frame ?_    ?_
    | with_reducible refine State.irqMire_frame ?_    ?_
    | with_reducible refine State.dropWg_frame ?_ ?_   ?_
    | with_reducible refine State.cutRead_frame ?_ ?_   ?_
    | with_reducible refine State.endFragment_frame ?_    ?_
    | with_reducible refine State.set_frame ?_ ?_
    | with_reducible refine State.sdgStatus_frame ?_ ?_   ?_
    | exact cov_arr (f := .REED_ST_STATUS_STATE 0) (k := 0x100) (m := 8) hR (by decide +kernel) (by decide) rfl
    | exact cov_arr (f := .REED_ST_STATUS_TERM 0) (k := 0x100) (m := 8) hR (by decide +kernel) (by decide) rfl

theorem State.inhibitDrop_frame {W : List Part} {R : List Regs} {s0 s : State} {n : ℕ} {cause : ℕ} (hW : ∀ p ∈ ([.seqs,
    .chans] : List Part), p ∈ W) (hR : RegsIn (([.fld .SDG_WF_STATUS_CAUSE_SEEN, .arr (.SDG_WR_STATUS_WG 0) 0x400 8, .arr
    (.SDG_WR_STATUS_CAUSE 0) 0x400 8, .arr (.SDG_WR_STATUS_DROPS 0) 0x400 8, .arr (.SDG_WR_DROP_MANG 0) 0x400 8] : List Regs))
    R) (h : Frame W R s0 s) :
    Frame W R s0 (State.inhibitDrop s n cause) := by
  unfold State.inhibitDrop
  repeat' first
    | with_reducible exact h
    | with_reducible assumption
    | exact parts_sub hW rfl
    | with_reducible refine ite_frame (fun _ => ?_) (fun _ => ?_)
    | with_reducible refine State.restartDue_frame ?_    ?_
    | with_reducible refine State.dropWg_frame ?_ ?_   ?_

theorem State.timingDrop_frame {W : List Part} {R : List Regs} {s0 s : State} {cause : ℕ} {epoch : Bool} (hW : ∀ p ∈
    ([.mireIrq, .seqs, .chans, .stg] : List Part), p ∈ W) (hR : RegsIn (haltRegs) R) (h : Frame W R s0 s) :
    Frame W R s0 (State.timingDrop s cause epoch) := by
  unfold State.timingDrop
  repeat' first
    | with_reducible exact h
    | with_reducible assumption
    | exact parts_sub hW rfl
    | exact regs_sub hR (by decide +kernel)
    | with_reducible refine ite_frame (fun _ => ?_) (fun _ => ?_)
    | with_reducible refine State.forN_frame ?_ (fun i t ht => ?_)
    | with_reducible refine State.terminate_frame ?_ ?_   ?_
    | with_reducible refine State.dropWg_frame ?_ ?_   ?_

theorem State.fatalDrop_frame {W : List Part} {R : List Regs} {s0 s : State} (hW : ∀ p ∈ ([.mireIrq, .seqs, .chans, .stg] :
    List Part), p ∈ W) (hR : RegsIn (haltRegs) R) (h : Frame W R s0 s) :
    Frame W R s0 (State.fatalDrop s) := by
  unfold State.fatalDrop
  repeat' first
    | with_reducible exact h
    | with_reducible assumption
    | exact parts_sub hW rfl
    | exact regs_sub hR (by decide +kernel)
    | with_reducible refine State.forN_frame ?_ (fun i t ht => ?_)
    | with_reducible refine State.terminate_frame ?_ ?_   ?_
    | with_reducible refine State.dropWg_frame ?_ ?_   ?_

/-! ### Machine/Faults.lean -/

theorem State.peatStatus_frame {W : List Part} {R : List Regs} {s0 s : State} (hR : RegsIn (([.fld .PEAT_STATUS_STAMP_WAIT,
    .fld .PEAT_STATUS_HELD, .fld .PEAT_STATUS_USED] : List Regs)) R) (h : Frame W R s0 s) :
    Frame W R s0 (State.peatStatus s) := by
  unfold State.peatStatus
  repeat' first
    | with_reducible exact h
    | with_reducible refine State.setIf_frame ?_ ?_
    | with_reducible refine State.set_frame ?_ ?_
    | exact cov_fld hR (by decide +kernel)

theorem State.startFlush_frame {W : List Part} {R : List Regs} {s0 s : State} (hW : ∀ p ∈ ([.peat] : List Part), p ∈ W) (hR :
    RegsIn (([.fld .PEAT_STATUS_FLUSHING] : List Regs)) R) (h : Frame W R s0 s) :
    Frame W R s0 (State.startFlush s) := by
  unfold State.startFlush
  repeat' first
    | with_reducible exact h
    | with_reducible assumption
    | (extract_lets +onlyGivenNames f; have := fun a => f a; clear this; unfold f; clear f)
    | (extract_lets +onlyGivenNames y; clear_value y; revert y; intro _)
    | with_reducible refine ite_frame (fun _ => ?_) (fun _ => ?_)
    | with_reducible refine State.set_frame ?_ ?_
    | exact cov_fld hR (by decide +kernel)
    | with_reducible refine upd_peat ?_ ?_

theorem State.unfreeze_frame {W : List Part} {R : List Regs} {s0 s : State} {a : ℕ} (hR : RegsIn (([.fld
    .PEAT_STATUS_STAMP_WAIT, .fld .PEAT_STATUS_HELD, .fld .PEAT_STATUS_USED, .fld .PEAT_FRZ_AREA] : List Regs)) R) (h : Frame
    W R s0 s) :
    Frame W R s0 (State.unfreeze s a) := by
  unfold State.unfreeze
  repeat' first
    | with_reducible exact h
    | (extract_lets +onlyGivenNames y; clear_value y; revert y; intro _)
    | exact regs_sub hR (by decide +kernel)
    | with_reducible refine State.set_frame ?_ ?_
    | with_reducible refine State.peatStatus_frame  ?_   ?_
    | exact cov_fld hR (by decide +kernel)

theorem State.stageRecord_frame {W : List Part} {R : List Regs} {s0 s : State} {stream : ℕ} {type_ : ℕ} {body : List Byte} (hW
    : ∀ p ∈ ([.peat] : List Part), p ∈ W) (hR : RegsIn (([.fld .PEAT_STATUS_FLUSHING, .fld .PEAT_STATUS_STG_LOSS, .fld
    .PEAT_STATUS_STAMP_WAIT, .fld .PEAT_STATUS_HELD, .fld .PEAT_STATUS_USED, .arr (.PEAT_RSEQ_LOST 0) 0x4 5, .arr
    (.PEAT_RSEQ_NEXT 0) 0x4 5] : List Regs)) R) (h : Frame W R s0 s) :
    Frame W R s0 (State.stageRecord s stream type_ body) := by
  unfold State.stageRecord
  repeat' first
    | with_reducible exact h
    | with_reducible assumption
    | (extract_lets +onlyGivenNames x; refine have_frame (x := x) ?_ (fun hx => ?_); (on_goal 2 => (clear_value x; revert x; intro _ _)); (on_goal 1 => (unfold x; clear x)))
    | (extract_lets +onlyGivenNames y; clear_value y; revert y; intro _)
    | exact regs_sub hR (by decide +kernel)
    | with_reducible refine ite_frame (fun _ => ?_) (fun _ => ?_)
    | with_reducible refine State.when_frame ?_ (fun t ht => ?_)
    | with_reducible refine State.startFlush_frame ?_ ?_   ?_
    | with_reducible refine State.incSat_frame ?_ ?_
    | with_reducible refine State.inc_frame ?_ ?_
    | with_reducible refine State.peatStatus_frame  ?_   ?_
    | with_reducible refine State.set_frame ?_ ?_
    | exact cov_fld hR (by decide +kernel)
    | exact cov_arr (f := .PEAT_RSEQ_LOST 0) (k := 0x4) (m := 5) hR (by decide +kernel) (by decide) rfl
    | exact cov_arr (f := .PEAT_RSEQ_NEXT 0) (k := 0x4) (m := 5) hR (by decide +kernel) (by decide) rfl
    | with_reducible refine upd_peat ?_ ?_

theorem State.levStatus_frame {W : List Part} {R : List Regs} {s0 s : State} (hR : RegsIn (([.fld .LEV_STATUS_F_LATCHED, .fld
    .LEV_STATUS_ERROR, .fld .LEV_STATUS_ALIVE_RUN] : List Regs)) R) (h : Frame W R s0 s) :
    Frame W R s0 (State.levStatus s) := by
  unfold State.levStatus
  repeat' first
    | with_reducible exact h
    | (extract_lets +onlyGivenNames y; clear_value y; revert y; intro _)
    | with_reducible refine State.setIf_frame ?_ ?_
    | exact cov_fld hR (by decide +kernel)

theorem State.requestReset_frame {W : List Part} {R : List Regs} {s0 s : State} {cause : ℕ} {source : ℕ} {inst : ℕ} (hW : ∀ p
    ∈ ([.lev] : List Part), p ∈ W) (h : Frame W R s0 s) :
    Frame W R s0 (State.requestReset s cause source inst) := by
  unfold State.requestReset
  repeat' first
    | with_reducible exact h
    | with_reducible assumption
    | (extract_lets +onlyGivenNames y; clear_value y; revert y; intro _)
    | with_reducible refine ite_frame (fun _ => ?_) (fun _ => ?_)
    | with_reducible refine upd_lev ?_ ?_

theorem State.requestBlock_frame {W : List Part} {R : List Regs} {s0 s : State} {sub : ℕ} (hW : ∀ p ∈ ([.lev] : List Part), p
    ∈ W) (hR : RegsIn (([.fld .LEV_STATUS_BLK_BUSY] : List Regs)) R) (h : Frame W R s0 s) :
    Frame W R s0 (State.requestBlock s sub) := by
  unfold State.requestBlock
  repeat' first
    | with_reducible exact h
    | with_reducible assumption
    | (extract_lets +onlyGivenNames y; clear_value y; revert y; intro _)
    | with_reducible refine ite_frame (fun _ => ?_) (fun _ => ?_)
    | with_reducible refine State.set_frame ?_ ?_
    | exact cov_fld hR (by decide +kernel)
    | with_reducible refine upd_lev ?_ ?_

theorem State.writeHistory_frame {W : List Part} {R : List Regs} {s0 s : State} {e : List Byte} (hW : ∀ p ∈ ([.lev] : List
    Part), p ∈ W) (hR : RegsIn (([.fld .LEV_HIST_STATUS_COUNT, .fld .LEV_HIST_STATUS_NEXT, .fld .LEV_HIST_TOTAL_TOTAL, .grid
    (.LEV_HIST_DATA 0 0) 0x10 32 0x4 4] : List Regs)) R) (h : Frame W R s0 s) :
    Frame W R s0 (State.writeHistory s e) := by
  unfold State.writeHistory
  repeat' first
    | with_reducible exact h
    | with_reducible assumption
    | (extract_lets +onlyGivenNames x; refine have_frame (x := x) ?_ (fun hx => ?_); (on_goal 2 => (clear_value x; revert x; intro _ _)); (on_goal 1 => (unfold x; clear x)))
    | (extract_lets +onlyGivenNames y; clear_value y; revert y; intro _)
    | with_reducible refine State.forN_frame ?_ (fun i t ht => ?_)
    | with_reducible refine State.incSat_frame ?_ ?_
    | with_reducible refine State.set_frame ?_ ?_
    | exact cov_fld hR (by decide +kernel)
    | exact cov_grid (f := .LEV_HIST_DATA 0 0) (k := 0x10) (m := 32) (u := 0x4) (l := 4) hR (by decide +kernel) (by decide) (by decide) rfl
    | with_reducible refine upd_lev ?_ ?_

theorem State.react_frame {W : List Part} {R : List Regs} {s0 s : State} {code : ℕ} {inst : ℕ} {r : ℕ} (hW : ∀ p ∈ ([.fenIrq,
    .lev] : List Part), p ∈ W) (hR : RegsIn (([.fld .LEV_STATUS_BLK_BUSY, .fld .LEV_IRQ_NMI, .fld .LEV_IRQ_INT] : List Regs))
    R) (h : Frame W R s0 s) :
    Frame W R s0 (State.react s code inst r) := by
  unfold State.react
  repeat' first
    | with_reducible exact h
    | with_reducible assumption
    | (extract_lets +onlyGivenNames x; refine have_frame (x := x) ?_ (fun hx => ?_); (on_goal 2 => (clear_value x; revert x; intro _ _)); (on_goal 1 => (unfold x; clear x)))
    | (extract_lets +onlyGivenNames y; clear_value y; revert y; intro _)
    | exact parts_sub hW rfl
    | exact regs_sub hR (by decide +kernel)
    | with_reducible refine ite_frame (fun _ => ?_) (fun _ => ?_)
    | with_reducible refine State.when_frame ?_ (fun t ht => ?_)
    | with_reducible refine State.forN_frame ?_ (fun i t ht => ?_)
    | with_reducible refine State.requestBlock_frame ?_ ?_   ?_
    | with_reducible refine State.irqFen_frame ?_    ?_
    | with_reducible refine State.set_frame ?_ ?_
    | with_reducible refine State.requestReset_frame ?_    ?_
    | exact cov_fld hR (by decide +kernel)

theorem State.recordLine_frame {W : List Part} {R : List Regs} {s0 s : State} {code : ℕ} {inst : ℕ} {detail : ℕ} {injected :
    Bool} (hW : ∀ p ∈ ([.mireIrq, .fenIrq, .seqs, .chans, .stg, .lev, .peat] : List Part), p ∈ W) (hR : RegsIn (([.fld
    .LEV_STATUS_F_LATCHED, .fld .LEV_STATUS_ERROR, .fld .LEV_STATUS_ALIVE_RUN, .fld .LEV_STATUS_BLK_BUSY, .fld .LEV_IRQ_NMI,
    .fld .LEV_IRQ_INT, .fld .LEV_HIST_STATUS_COUNT, .fld .LEV_HIST_STATUS_NEXT, .fld .LEV_HIST_TOTAL_TOTAL, .arr
    (.LEV_LATCH_LINE 0) 0x4 7, .grid (.LEV_HIST_DATA 0 0) 0x10 32 0x4 4, .fld .PEAT_STATUS_FLUSHING] : List Regs) ++ ([.fld
    .PEAT_STATUS_STG_LOSS, .fld .PEAT_STATUS_STAMP_WAIT, .fld .PEAT_STATUS_HELD, .fld .PEAT_STATUS_USED, .arr (.PEAT_RSEQ_LOST
    0) 0x4 5, .arr (.PEAT_RSEQ_NEXT 0) 0x4 5, .arr (.REED_ST_STATUS_STATE 0) 0x100 8, .arr (.REED_ST_STATUS_TERM 0) 0x100 8,
    .fld .SDG_STATUS_RES_IRQ, .fld .SDG_STATUS_PENDING, .arr (.SDG_ST_STATUS_RES_OVF 0) 0x400 8, .arr (.SDG_ST_STATUS_RES_CNT
    0) 0x400 8] : List Regs) ++ ([.arr (.SDG_ST_STATUS_PARK_USED 0) 0x400 8, .arr (.SDG_ST_STATUS_PENDING_CNT 0) 0x400 8, .arr
    (.SDG_FE_STATUS_TA_ACTIVE 0) 0x400 8, .arr (.SDG_FE_STATUS_DO_ACTIVE 0) 0x400 8, .fld .SDG_WF_STATUS_CAUSE_SEEN, .arr
    (.SDG_WR_STATUS_WG 0) 0x400 8, .arr (.SDG_WR_STATUS_CAUSE 0) 0x400 8, .arr (.SDG_WR_STATUS_DROPS 0) 0x400 8, .arr
    (.SDG_WR_DROP_MANG 0) 0x400 8, .arr (.SLU_STG_STATUS_ACTIVE 0) 0x4 8, .arr (.SLU_STG_STATUS_DIR 0) 0x4 8, .arr
    (.SLU_STG_STATUS_RESV 0) 0x4 8] : List Regs) ++ ([.arr (.SLU_STG_STATUS_READY 0) 0x4 8] : List Regs)) R) (h : Frame W R s0
    s) :
    Frame W R s0 (State.recordLine s code inst detail injected) := by
  unfold State.recordLine
  repeat' first
    | with_reducible exact h
    | with_reducible assumption
    | (extract_lets +onlyGivenNames x; refine have_frame (x := x) ?_ (fun hx => ?_); (on_goal 2 => (clear_value x; revert x; intro _ _)); (on_goal 1 => (unfold x; clear x)))
    | (extract_lets +onlyGivenNames y; clear_value y; revert y; intro _)
    | exact parts_sub hW rfl
    | exact regs_sub hR (by decide +kernel)
    | with_reducible refine ite_frame (fun _ => ?_) (fun _ => ?_)
    | with_reducible refine State.when_frame ?_ (fun t ht => ?_)
    | with_reducible refine State.startFlush_frame ?_ ?_   ?_
    | with_reducible refine State.irqMire_frame ?_    ?_
    | with_reducible refine State.stageRecord_frame ?_ ?_   ?_
    | with_reducible refine State.fatalDrop_frame ?_ ?_   ?_
    | with_reducible refine State.react_frame ?_ ?_   ?_
    | with_reducible refine State.writeHistory_frame ?_ ?_   ?_
    | with_reducible refine State.levStatus_frame  ?_   ?_
    | with_reducible refine State.set_frame ?_ ?_
    | exact cov_arr (f := .LEV_LATCH_LINE 0) (k := 0x4) (m := 7) hR (by decide +kernel) (by decide) rfl
    | exact cov_grid (f := .LEV_HIST_DATA 0 0) (k := 0x10) (m := 32) (u := 0x4) (l := 4) hR (by decide +kernel) (by decide) (by decide) rfl
    | split
    | with_reducible refine upd_lev ?_ ?_

theorem State.relieve_frame {W : List Part} {R : List Regs} {s0 s : State} (hW : ∀ p ∈ ([.mireIrq, .fenIrq, .seqs, .chans,
    .stg, .lev, .peat] : List Part), p ∈ W) (hR : RegsIn (alarmRegs ++ haltRegs) R) (h : Frame W R s0 s) :
    Frame W R s0 (State.relieve s) := by
  unfold State.relieve
  repeat' first
    | with_reducible exact h
    | with_reducible assumption
    | exact regs_sub hR (by decide +kernel)
    | with_reducible refine ite_frame (fun _ => ?_) (fun _ => ?_)
    | with_reducible refine State.recordLine_frame ?_ ?_   ?_
    | with_reducible refine State.unfreeze_frame  ?_   ?_
    | split

theorem State.raise_frame {W : List Part} {R : List Regs} {s0 s : State} {code : ℕ} {inst : ℕ} {detail : ℕ} (hW : ∀ p ∈
    ([.mireIrq, .fenIrq, .seqs, .chans, .stg, .lev, .peat] : List Part), p ∈ W) (hR : RegsIn (alarmRegs ++ haltRegs) R) (h :
    Frame W R s0 s) :
    Frame W R s0 (State.raise s code inst detail) := by
  unfold State.raise
  repeat' first
    | with_reducible exact h
    | with_reducible assumption
    | exact regs_sub hR (by decide +kernel)
    | with_reducible refine State.relieve_frame ?_ ?_   ?_
    | with_reducible refine State.recordLine_frame ?_ ?_   ?_

theorem State.peatRecord_frame {W : List Part} {R : List Regs} {s0 s : State} {stream : ℕ} {type_ : ℕ} {body : List Byte} (hW
    : ∀ p ∈ ([.mireIrq, .fenIrq, .seqs, .chans, .stg, .lev, .peat] : List Part), p ∈ W) (hR : RegsIn (alarmRegs ++ haltRegs)
    R) (h : Frame W R s0 s) :
    Frame W R s0 (State.peatRecord s stream type_ body) := by
  unfold State.peatRecord
  repeat' first
    | with_reducible exact h
    | with_reducible assumption
    | exact parts_sub hW rfl
    | exact regs_sub hR (by decide +kernel)
    | with_reducible refine State.relieve_frame ?_ ?_   ?_
    | with_reducible refine State.stageRecord_frame ?_ ?_   ?_

theorem State.programFault_frame {W : List Part} {R : List Regs} {s0 s : State} {n : ℕ} {term : ℕ} (hW : ∀ p ∈ ([.mireIrq,
    .fenIrq, .seqs, .chans, .stg, .lev, .peat] : List Part), p ∈ W) (hR : RegsIn (alarmRegs ++ haltRegs) R) (h : Frame W R s0
    s) :
    Frame W R s0 (State.programFault s n term) := by
  unfold State.programFault
  repeat' first
    | with_reducible exact h
    | with_reducible assumption
    | exact parts_sub hW rfl
    | exact regs_sub hR (by decide +kernel)
    | with_reducible refine State.terminate_frame ?_ ?_   ?_
    | with_reducible refine State.raise_frame ?_ ?_   ?_

/-! ### Machine/Operands.lean -/

theorem State.clocked_frame {W : List Part} {R : List Regs} {s0 s : State} {d : ℕ} {f : State → State} (hf : ∀ t, Frame W R s0
    t → Frame W R s0 (f t)) (h : Frame W R s0 s) :
    Frame W R s0 (State.clocked s d f) := by
  unfold State.clocked
  repeat' first
    | with_reducible exact h
    | with_reducible refine ite_frame (fun _ => ?_) (fun _ => ?_)
    | with_reducible refine hf _ ?_

theorem State.access_frame {W : List Part} {R : List Regs} {s0 s : State} {a : ℕ} {f : State → State} (hW : ∀ p ∈ ([.bus] :
    List Part), p ∈ W) (hf : ∀ t, Frame W R s0 t → Frame W R s0 (f t)) (h : Frame W R s0 s) :
    Frame W R s0 (State.access s a f) := by
  unfold State.access
  repeat' first
    | with_reducible exact h
    | with_reducible assumption
    | with_reducible refine ite_frame (fun _ => ?_) (fun _ => ?_)
    | with_reducible refine State.busErr_frame ?_    ?_
    | with_reducible refine State.ack_frame ?_    ?_
    | with_reducible refine hf _ ?_

theorem State.denied_frame {W : List Part} {R : List Regs} {s0 s : State} {core : ℕ} (hW : ∀ p ∈ ([.bus, .mireIrq, .fenIrq,
    .seqs, .chans, .stg, .lev, .peat] : List Part), p ∈ W) (hR : RegsIn (alarmRegs ++ haltRegs) R) (h : Frame W R s0 s) :
    Frame W R s0 (State.denied s core) := by
  unfold State.denied
  repeat' first
    | with_reducible exact h
    | with_reducible assumption
    | exact parts_sub hW rfl
    | with_reducible refine State.busErr_frame ?_    ?_
    | with_reducible refine State.raise_frame ?_ ?_   ?_

theorem State.reach_frame {W : List Part} {R : List Regs} {s0 s : State} {who : Who} {may : ℕ → Bool} {a : ℕ} {width : ℕ} {f :
    RegRow → List ℕ → State → State} (hW : ∀ p ∈ ([.bus, .mireIrq, .fenIrq, .seqs, .chans, .stg, .lev, .peat] : List Part), p
    ∈ W) (hR : RegsIn (alarmRegs ++ haltRegs) R) (hf : ∀ i j t, Frame W R s0 t → Frame W R s0 (f i j t)) (h : Frame W R s0 s)
    :
    Frame W R s0 (State.reach s who may a width f) := by
  unfold State.reach
  repeat' first
    | with_reducible exact h
    | with_reducible assumption
    | (extract_lets +onlyGivenNames x; refine have_frame (x := x) ?_ (fun hx => ?_); (on_goal 2 => (clear_value x; revert x; intro _ _)); (on_goal 1 => (unfold x; clear x)))
    | exact parts_sub hW rfl
    | with_reducible refine ite_frame (fun _ => ?_) (fun _ => ?_)
    | with_reducible refine State.busErr_frame ?_    ?_
    | with_reducible refine State.denied_frame ?_ ?_   ?_
    | with_reducible refine State.access_frame ?_   (fun t ht => ?_) ?_
    | with_reducible refine hf _ _ _ ?_
    | split

theorem State.load_frame {W : List Part} {R : List Regs} {s0 s : State} {who : Who} {a : ℕ} {f : State → State} (hW : ∀ p ∈
    ([.bus, .mireIrq, .fenIrq, .seqs, .chans, .stg, .lev, .peat] : List Part), p ∈ W) (hR : RegsIn (alarmRegs ++ haltRegs) R)
    (hf : ∀ t, Frame W R s0 t → Frame W R s0 (f t)) (h : Frame W R s0 s) :
    Frame W R s0 (State.load s who a f) := by
  unfold State.load
  repeat' first
    | with_reducible exact h
    | with_reducible assumption
    | with_reducible refine State.reach_frame ?_ ?_  (fun i j t ht => ?_) ?_
    | with_reducible refine hf _ ?_

/-! ### Machine/Signal.lean -/

theorem State.sendBits_frame {W : List Part} {R : List Regs} {s0 s : State} {n : ℕ} {bits : List Bool} (hW : ∀ p ∈ ([.chans] :
    List Part), p ∈ W) (h : Frame W R s0 s) :
    Frame W R s0 (State.sendBits s n bits) := by
  unfold State.sendBits
  repeat' first
    | with_reducible exact h
    | with_reducible assumption
    | with_reducible refine State.clocked_frame    (fun t ht => ?_) ?_
    | with_reducible refine State.updChan_frame ?_    ?_

theorem State.idleTo_frame {W : List Part} {R : List Regs} {s0 s : State} {n : ℕ} {k : ℕ} (hW : ∀ p ∈ ([.chans] : List Part),
    p ∈ W) (h : Frame W R s0 s) :
    Frame W R s0 (State.idleTo s n k) := by
  unfold State.idleTo
  repeat' first
    | with_reducible exact h
    | with_reducible assumption
    | (extract_lets +onlyGivenNames y; clear_value y; revert y; intro _)
    | with_reducible refine State.sendBits_frame ?_    ?_

theorem State.sendMark_frame {W : List Part} {R : List Regs} {s0 s : State} {n : ℕ} {resync : Bool} {k : ℕ} (hW : ∀ p ∈
    ([.chans] : List Part), p ∈ W) (h : Frame W R s0 s) :
    Frame W R s0 (State.sendMark s n resync k) := by
  unfold State.sendMark
  repeat' first
    | with_reducible exact h
    | with_reducible assumption
    | with_reducible refine State.idleTo_frame ?_    ?_
    | with_reducible refine State.sendBits_frame ?_    ?_

theorem State.sendCode_frame {W : List Part} {R : List Regs} {s0 s : State} {n : ℕ} {k : ℕ} {start : Word} (hW : ∀ p ∈
    ([.chans] : List Part), p ∈ W) (h : Frame W R s0 s) :
    Frame W R s0 (State.sendCode s n k start) := by
  unfold State.sendCode
  repeat' first
    | with_reducible exact h
    | with_reducible assumption
    | (extract_lets +onlyGivenNames x; refine have_frame (x := x) ?_ (fun hx => ?_); (on_goal 2 => (clear_value x; revert x; intro _ _)); (on_goal 1 => (unfold x; clear x)))
    | (extract_lets +onlyGivenNames y; clear_value y; revert y; intro _)
    | with_reducible refine State.updChan_frame ?_    ?_
    | with_reducible refine State.sendBits_frame ?_    ?_
    | with_reducible refine State.idleTo_frame ?_    ?_

end Sys2Proof.Machine
end

