-- ==== Sys2Proof/Laws/FrameStreams.lean ====
section
/-! SUPPORT. Frames of the media streams (Formatter, ReadChannel, WritePath): what an operation may change, and what a command may change. -/

set_option Elab.async false

namespace Sys2Proof.Machine

/-! ### Machine/Formatter.lean -/

theorem State.setG_frame {W : List Part} {R : List Regs} {s0 s : State} {n : ℕ} {g : ℕ} {w : Word} (hR : RegsIn (([.grid
    (.REED_ST_G_VALUE 0 0) 0x100 8 0x4 16] : List Regs)) R) (h : Frame W R s0 s) :
    Frame W R s0 (State.setG s n g w) := by
  unfold State.setG
  repeat' first
    | with_reducible exact h
    | with_reducible refine State.set_frame ?_ ?_
    | exact cov_grid (f := .REED_ST_G_VALUE 0 0) (k := 0x100) (m := 8) (u := 0x4) (l := 16) hR (by decide +kernel) (by decide) (by decide) rfl

theorem State.sticky_frame {W : List Part} {R : List Regs} {s0 s : State} {n : ℕ} {f : Sticky → Sticky} (hW : ∀ p ∈ ([.seqs] :
    List Part), p ∈ W) (h : Frame W R s0 s) :
    Frame W R s0 (State.sticky s n f) := by
  unfold State.sticky
  repeat' first
    | with_reducible exact h
    | with_reducible assumption
    | with_reducible refine State.updSeq_frame ?_    ?_

theorem State.advanceTo_frame {W : List Part} {R : List Regs} {s0 s : State} {n : ℕ} {pc : ℕ} (hW : ∀ p ∈ ([.seqs] : List
    Part), p ∈ W) (hR : RegsIn (([.arr (.REED_ST_STATUS_STATE 0) 0x100 8, .arr (.REED_ST_PC_PC 0) 0x100 8] : List Regs)) R) (h
    : Frame W R s0 s) :
    Frame W R s0 (State.advanceTo s n pc) := by
  unfold State.advanceTo
  repeat' first
    | with_reducible exact h
    | with_reducible assumption
    | with_reducible refine State.updSeq_frame ?_    ?_
    | with_reducible refine State.set_frame ?_ ?_
    | exact cov_arr (f := .REED_ST_STATUS_STATE 0) (k := 0x100) (m := 8) hR (by decide +kernel) (by decide) rfl
    | exact cov_arr (f := .REED_ST_PC_PC 0) (k := 0x100) (m := 8) hR (by decide +kernel) (by decide) rfl

theorem State.stallOn_frame {W : List Part} {R : List Regs} {s0 s : State} {n : ℕ} {x : Stall} (hW : ∀ p ∈ ([.seqs] : List
    Part), p ∈ W) (hR : RegsIn (([.arr (.REED_ST_STATUS_STATE 0) 0x100 8] : List Regs)) R) (h : Frame W R s0 s) :
    Frame W R s0 (State.stallOn s n x) := by
  unfold State.stallOn
  repeat' first
    | with_reducible exact h
    | with_reducible assumption
    | with_reducible refine State.updSeq_frame ?_    ?_
    | with_reducible refine State.set_frame ?_ ?_
    | exact cov_arr (f := .REED_ST_STATUS_STATE 0) (k := 0x100) (m := 8) hR (by decide +kernel) (by decide) rfl

theorem State.codeStatus_frame {W : List Part} {R : List Regs} {s0 s : State} {n : ℕ} (hR : RegsIn (([.arr
    (.SDG_ST_STATUS_CODE_ERR 0) 0x400 8] : List Regs)) R) (h : Frame W R s0 s) :
    Frame W R s0 (State.codeStatus s n) := by
  unfold State.codeStatus
  repeat' first
    | with_reducible exact h
    | with_reducible refine State.setIf_frame ?_ ?_
    | exact cov_arr (f := .SDG_ST_STATUS_CODE_ERR 0) (k := 0x400) (m := 8) hR (by decide +kernel) (by decide) rfl

theorem State.sedgeGo_frame {W : List Part} {R : List Regs} {s0 s : State} {n : ℕ} (hW : ∀ p ∈ ([.mireIrq, .fenIrq, .seqs,
    .chans, .stg, .lev, .peat] : List Part), p ∈ W) (hR : RegsIn (alarmRegs ++ haltRegs ++ ([.arr (.SDG_ST_STATUS_CODE_ERR 0)
    0x400 8] : List Regs)) R) (h : Frame W R s0 s) :
    Frame W R s0 (State.sedgeGo s n) := by
  unfold State.sedgeGo
  repeat' first
    | with_reducible exact h
    | with_reducible assumption
    | (extract_lets +onlyGivenNames x; refine have_frame (x := x) ?_ (fun hx => ?_); (on_goal 2 => (clear_value x; revert x; intro _ _)); (on_goal 1 => (unfold x; clear x)))
    | (extract_lets +onlyGivenNames y; clear_value y; revert y; intro _)
    | exact parts_sub hW rfl
    | exact regs_sub hR (by decide +kernel)
    | with_reducible refine State.when_frame ?_ (fun t ht => ?_)
    | with_reducible refine State.codeStatus_frame  ?_   ?_
    | with_reducible refine State.updChan_frame ?_    ?_
    | with_reducible refine State.raise_frame ?_ ?_   ?_

theorem State.reedGo_frame {W : List Part} {R : List Regs} {s0 s : State} {n : ℕ} (hW : ∀ p ∈ ([.mireIrq, .fenIrq, .seqs,
    .chans, .stg, .lev, .peat] : List Part), p ∈ W) (hR : RegsIn (alarmRegs ++ haltRegs ++ ([.arr (.REED_ST_CTRL_ABORT 0)
    0x100 8, .arr (.REED_ST_STATUS_RESTARTS 0) 0x100 8, .arr (.REED_ST_PC_MARK_PC 0) 0x100 8, .arr (.REED_ST_PC_PC 0) 0x100 8,
    .grid (.REED_ST_G_VALUE 0 0) 0x100 8 0x4 16, .arr (.SDG_ST_STATUS_CODE_ERR 0) 0x400 8] : List Regs)) R) (h : Frame W R s0
    s) :
    Frame W R s0 (State.reedGo s n) := by
  unfold State.reedGo
  repeat' first
    | with_reducible exact h
    | with_reducible assumption
    | (extract_lets +onlyGivenNames x; refine have_frame (x := x) ?_ (fun hx => ?_); (on_goal 2 => (clear_value x; revert x; intro _ _)); (on_goal 1 => (unfold x; clear x)))
    | (extract_lets +onlyGivenNames y; clear_value y; revert y; intro _)
    | exact parts_sub hW rfl
    | exact regs_sub hR (by decide +kernel)
    | with_reducible refine ite_frame (fun _ => ?_) (fun _ => ?_)
    | with_reducible refine State.forN_frame ?_ (fun i t ht => ?_)
    | with_reducible refine State.setG_frame  ?_   ?_
    | with_reducible refine State.updSeq_frame ?_    ?_
    | with_reducible refine State.set_frame ?_ ?_
    | with_reducible refine State.sedgeGo_frame ?_ ?_   ?_
    | exact cov_arr (f := .REED_ST_STATUS_STATE 0) (k := 0x100) (m := 8) hR (by decide +kernel) (by decide) rfl
    | exact cov_arr (f := .REED_ST_CTRL_ABORT 0) (k := 0x100) (m := 8) hR (by decide +kernel) (by decide) rfl
    | exact cov_arr (f := .REED_ST_STATUS_RESTARTS 0) (k := 0x100) (m := 8) hR (by decide +kernel) (by decide) rfl
    | exact cov_arr (f := .REED_ST_PC_MARK_PC 0) (k := 0x100) (m := 8) hR (by decide +kernel) (by decide) rfl
    | exact cov_arr (f := .REED_ST_PC_PC 0) (k := 0x100) (m := 8) hR (by decide +kernel) (by decide) rfl

theorem execReedGo_frame {W : List Part} {R : List Regs} {s : State} {n : ℕ} (hW : ∀ p ∈ ([.bus, .mireIrq, .fenIrq, .seqs,
    .chans, .stg, .lev, .peat] : List Part), p ∈ W) (hR : RegsIn (alarmRegs ++ haltRegs ++ ([.arr (.REED_ST_CTRL_ABORT 0)
    0x100 8, .arr (.REED_ST_STATUS_RESTARTS 0) 0x100 8, .arr (.REED_ST_PC_MARK_PC 0) 0x100 8, .arr (.REED_ST_PC_PC 0) 0x100 8,
    .grid (.REED_ST_G_VALUE 0 0) 0x100 8 0x4 16, .arr (.SDG_ST_STATUS_CODE_ERR 0) 0x400 8] : List Regs)) R) :
    OutFrame W R s (execReedGo n s) := by
  unfold execReedGo
  repeat' first
    | exact parts_sub hW rfl
    | with_reducible refine next_frame ?_
    | with_reducible assumption
    | with_reducible exact Frame.refl _ _ _
    | with_reducible refine State.reedGo_frame ?_ ?_   ?_
    | with_reducible refine State.access_frame ?_   (fun t ht => ?_) ?_

theorem execReedKill_frame {W : List Part} {R : List Regs} {s : State} {n : ℕ} (hW : ∀ p ∈ ([.bus, .mireIrq, .seqs, .chans,
    .stg] : List Part), p ∈ W) (hR : RegsIn (haltRegs) R) :
    OutFrame W R s (execReedKill n s) := by
  unfold execReedKill
  repeat' first
    | exact parts_sub hW rfl
    | with_reducible refine next_frame ?_
    | with_reducible assumption
    | with_reducible exact Frame.refl _ _ _
    | with_reducible refine State.terminate_frame ?_ ?_   ?_
    | with_reducible refine State.access_frame ?_   (fun t ht => ?_) ?_

theorem execReedRestart_frame {W : List Part} {R : List Regs} {s : State} {n : ℕ} (hW : ∀ p ∈ ([.bus, .seqs] : List Part), p ∈
    W) :
    OutFrame W R s (execReedRestart n s) := by
  unfold execReedRestart
  repeat' first
    | exact parts_sub hW rfl
    | with_reducible refine next_frame ?_
    | with_reducible assumption
    | with_reducible exact Frame.refl _ _ _
    | with_reducible refine State.when_frame ?_ (fun t ht => ?_)
    | with_reducible refine State.restartDue_frame ?_    ?_
    | with_reducible refine State.access_frame ?_   (fun t ht => ?_) ?_

theorem execReedAbort_frame {W : List Part} {R : List Regs} {s : State} {n : ℕ} {set : Bool} (hW : ∀ p ∈ ([.bus] : List Part),
    p ∈ W) (hR : RegsIn (([.arr (.REED_ST_CTRL_ABORT 0) 0x100 8] : List Regs)) R) :
    OutFrame W R s (execReedAbort n set s) := by
  unfold execReedAbort
  repeat' first
    | exact parts_sub hW rfl
    | with_reducible refine next_frame ?_
    | with_reducible assumption
    | with_reducible exact Frame.refl _ _ _
    | with_reducible refine State.setIf_frame ?_ ?_
    | with_reducible refine State.access_frame ?_   (fun t ht => ?_) ?_
    | exact cov_arr (f := .REED_ST_CTRL_ABORT 0) (k := 0x100) (m := 8) hR (by decide +kernel) (by decide) rfl

theorem State.restart_frame {W : List Part} {R : List Regs} {s0 s : State} {n : ℕ} {cause : ℕ} (hW : ∀ p ∈ ([.mireIrq, .seqs,
    .chans, .stg] : List Part), p ∈ W) (hR : RegsIn (haltRegs ++ ([.arr (.REED_ST_STATUS_RESTARTS 0) 0x100 8, .arr
    (.REED_ST_STATUS_EVT_CNT 0) 0x100 8, .arr (.REED_ST_PC_PC 0) 0x100 8, .grid (.REED_ST_G_VALUE 0 0) 0x100 8 0x4 16] : List
    Regs)) R) (h : Frame W R s0 s) :
    Frame W R s0 (State.restart s n cause) := by
  unfold State.restart
  repeat' first
    | with_reducible exact h
    | with_reducible assumption
    | (extract_lets +onlyGivenNames x; refine have_frame (x := x) ?_ (fun hx => ?_); (on_goal 2 => (clear_value x; revert x; intro _ _)); (on_goal 1 => (unfold x; clear x)))
    | (extract_lets +onlyGivenNames y; clear_value y; revert y; intro _)
    | exact parts_sub hW rfl
    | exact regs_sub hR (by decide +kernel)
    | with_reducible refine ite_frame (fun _ => ?_) (fun _ => ?_)
    | with_reducible refine State.forN_frame ?_ (fun i t ht => ?_)
    | with_reducible refine State.reedEvent_frame ?_ ?_   ?_
    | with_reducible refine State.setG_frame  ?_   ?_
    | with_reducible refine State.stgStatus_frame  ?_   ?_
    | with_reducible refine State.updSeq_frame ?_    ?_
    | with_reducible refine State.terminate_frame ?_ ?_   ?_
    | with_reducible refine State.updChan_frame ?_    ?_
    | with_reducible refine State.dropGates_frame ?_ ?_   ?_
    | with_reducible refine State.stallOn_frame ?_ ?_   ?_
    | with_reducible refine State.endDefects_frame ?_ ?_   ?_
    | with_reducible refine State.updStage_frame ?_    ?_
    | with_reducible refine State.set_frame ?_ ?_
    | with_reducible refine State.sdgStatus_frame ?_ ?_   ?_
    | exact cov_arr (f := .REED_ST_STATUS_STATE 0) (k := 0x100) (m := 8) hR (by decide +kernel) (by decide) rfl
    | exact cov_arr (f := .REED_ST_STATUS_RESTARTS 0) (k := 0x100) (m := 8) hR (by decide +kernel) (by decide) rfl
    | exact cov_arr (f := .REED_ST_PC_PC 0) (k := 0x100) (m := 8) hR (by decide +kernel) (by decide) rfl

theorem execRestartEvent_frame {W : List Part} {R : List Regs} {s : State} {n : ℕ} (hW : ∀ p ∈ ([.mireIrq, .seqs, .chans,
    .stg] : List Part), p ∈ W) (hR : RegsIn (haltRegs ++ ([.arr (.REED_ST_STATUS_RESTARTS 0) 0x100 8, .arr
    (.REED_ST_STATUS_EVT_CNT 0) 0x100 8, .arr (.REED_ST_PC_PC 0) 0x100 8, .grid (.REED_ST_G_VALUE 0 0) 0x100 8 0x4 16] : List
    Regs)) R) :
    OutFrame W R s (execRestartEvent n s) := by
  unfold execRestartEvent
  repeat' first
    | exact parts_sub hW rfl
    | with_reducible refine next_frame ?_
    | with_reducible assumption
    | with_reducible exact Frame.refl _ _ _
    | with_reducible refine State.when_frame ?_ (fun t ht => ?_)
    | with_reducible refine State.restart_frame ?_ ?_   ?_
    | split

theorem execWait_frame {W : List Part} {R : List Regs} {s : State} {n : ℕ} (hW : ∀ p ∈ ([.seqs] : List Part), p ∈ W) (hR :
    RegsIn (([.arr (.REED_ST_STATUS_STATE 0) 0x100 8, .arr (.REED_ST_PC_PC 0) 0x100 8] : List Regs)) R) :
    OutFrame W R s (execWait n s) := by
  unfold execWait
  repeat' first
    | (extract_lets +onlyGivenNames x; refine have_out (x := x) ?_ (fun hx => ?_); (on_goal 2 => (clear_value x; revert x; intro _ _)); (on_goal 1 => (unfold x; clear x)))
    | exact parts_sub hW rfl
    | with_reducible refine next_frame ?_
    | with_reducible assumption
    | exact regs_sub hR (by decide +kernel)
    | with_reducible exact Frame.refl _ _ _
    | with_reducible refine ite_frame (fun _ => ?_) (fun _ => ?_)
    | with_reducible refine State.when_frame ?_ (fun t ht => ?_)
    | with_reducible refine State.advanceTo_frame ?_ ?_   ?_
    | with_reducible refine State.stallOn_frame ?_ ?_   ?_
    | with_reducible refine State.sticky_frame ?_    ?_
    | split

theorem execWaitTimeout_frame {W : List Part} {R : List Regs} {s : State} {n : ℕ} (hW : ∀ p ∈ ([.seqs] : List Part), p ∈ W)
    (hR : RegsIn (([.arr (.REED_ST_STATUS_STATE 0) 0x100 8, .arr (.REED_ST_PC_PC 0) 0x100 8] : List Regs)) R) :
    OutFrame W R s (execWaitTimeout n s) := by
  unfold execWaitTimeout
  repeat' first
    | exact parts_sub hW rfl
    | with_reducible refine next_frame ?_
    | with_reducible assumption
    | with_reducible exact Frame.refl _ _ _
    | with_reducible refine ite_frame (fun _ => ?_) (fun _ => ?_)
    | with_reducible refine State.advanceTo_frame ?_ ?_   ?_
    | with_reducible refine State.sticky_frame ?_    ?_
    | split

theorem execWaitc_frame {W : List Part} {R : List Regs} {s : State} {n : ℕ} (hW : ∀ p ∈ ([.seqs] : List Part), p ∈ W) (hR :
    RegsIn (([.arr (.REED_ST_STATUS_STATE 0) 0x100 8, .arr (.REED_ST_PC_PC 0) 0x100 8] : List Regs)) R) :
    OutFrame W R s (execWaitc n s) := by
  unfold execWaitc
  repeat' first
    | exact parts_sub hW rfl
    | with_reducible refine next_frame ?_
    | with_reducible assumption
    | exact regs_sub hR (by decide +kernel)
    | with_reducible exact Frame.refl _ _ _
    | with_reducible refine ite_frame (fun _ => ?_) (fun _ => ?_)
    | with_reducible refine State.advanceTo_frame ?_ ?_   ?_
    | with_reducible refine State.stallOn_frame ?_ ?_   ?_
    | split

theorem State.waitAngle_frame {W : List Part} {R : List Regs} {s0 s : State} {n : ℕ} {m : Word} {t' : Word} {next : Bool} (hW
    : ∀ p ∈ ([.seqs] : List Part), p ∈ W) (hR : RegsIn (([.arr (.REED_ST_STATUS_STATE 0) 0x100 8] : List Regs)) R) (h : Frame
    W R s0 s) :
    Frame W R s0 (State.waitAngle s n m t' next).1 := by
  unfold State.waitAngle
  repeat' first
    | with_reducible exact h
    | with_reducible assumption
    | (extract_lets +onlyGivenNames x; refine have_frame (x := x) ?_ (fun hx => ?_); (on_goal 2 => (clear_value x; revert x; intro _ _)); (on_goal 1 => (unfold x; clear x)))
    | (extract_lets +onlyGivenNames y; clear_value y; revert y; intro _)
    | with_reducible refine State.stallOn_frame ?_ ?_   ?_
    | with_reducible refine State.sticky_frame ?_    ?_
    | split

theorem execWaita_frame {W : List Part} {R : List Regs} {s : State} {n : ℕ} {mang : Word} (hW : ∀ p ∈ ([.seqs] : List Part), p
    ∈ W) (hR : RegsIn (([.arr (.REED_ST_STATUS_STATE 0) 0x100 8, .fld ⟨0x4E000000, 0, 32⟩, .arr (.REED_ST_PC_PC 0) 0x100 8] :
    List Regs)) R) :
    OutFrame W R s (execWaita n mang s) := by
  unfold execWaita
  repeat' first
    | (extract_lets +onlyGivenNames x; refine have_out (x := x) ?_ (fun hx => ?_); (on_goal 2 => (clear_value x; revert x; intro _ _)); (on_goal 1 => (unfold x; clear x)))
    | exact parts_sub hW rfl
    | with_reducible refine next_frame ?_
    | with_reducible assumption
    | exact regs_sub hR (by decide +kernel)
    | with_reducible exact Frame.refl _ _ _
    | with_reducible refine State.atMang_frame  ?_   ?_
    | with_reducible refine State.advanceTo_frame ?_ ?_   ?_
    | with_reducible refine fst_frame (by assumption) (State.waitAngle_frame ?_ ?_   ?_)
    | split

theorem execJmp_frame {W : List Part} {R : List Regs} {s : State} {n : ℕ} (hW : ∀ p ∈ ([.seqs] : List Part), p ∈ W) (hR :
    RegsIn (([.arr (.REED_ST_STATUS_STATE 0) 0x100 8, .arr (.REED_ST_PC_PC 0) 0x100 8] : List Regs)) R) :
    OutFrame W R s (execJmp n s) := by
  unfold execJmp
  repeat' first
    | exact parts_sub hW rfl
    | with_reducible refine next_frame ?_
    | with_reducible assumption
    | with_reducible exact Frame.refl _ _ _
    | with_reducible refine State.advanceTo_frame ?_ ?_   ?_
    | split

theorem execJcc_frame {W : List Part} {R : List Regs} {s : State} {n : ℕ} (hW : ∀ p ∈ ([.seqs] : List Part), p ∈ W) (hR :
    RegsIn (([.arr (.REED_ST_STATUS_STATE 0) 0x100 8, .arr (.REED_ST_PC_PC 0) 0x100 8] : List Regs)) R) :
    OutFrame W R s (execJcc n s) := by
  unfold execJcc
  repeat' first
    | exact parts_sub hW rfl
    | with_reducible refine next_frame ?_
    | with_reducible assumption
    | with_reducible exact Frame.refl _ _ _
    | with_reducible refine State.advanceTo_frame ?_ ?_   ?_
    | split

theorem execCall_frame {W : List Part} {R : List Regs} {s : State} {n : ℕ} (hW : ∀ p ∈ ([.mireIrq, .fenIrq, .seqs, .chans,
    .stg, .lev, .peat] : List Part), p ∈ W) (hR : RegsIn (alarmRegs ++ haltRegs ++ ([.arr (.REED_ST_PC_PC 0) 0x100 8] : List
    Regs)) R) :
    OutFrame W R s (execCall n s) := by
  unfold execCall
  repeat' first
    | exact parts_sub hW rfl
    | with_reducible refine next_frame ?_
    | exact regs_sub hR (by decide +kernel)
    | with_reducible exact Frame.refl _ _ _
    | with_reducible refine ite_frame (fun _ => ?_) (fun _ => ?_)
    | with_reducible refine State.advanceTo_frame ?_ ?_   ?_
    | with_reducible refine State.programFault_frame ?_ ?_   ?_
    | with_reducible refine State.updSeq_frame ?_    ?_
    | split

theorem execRet_frame {W : List Part} {R : List Regs} {s : State} {n : ℕ} (hW : ∀ p ∈ ([.mireIrq, .fenIrq, .seqs, .chans,
    .stg, .lev, .peat] : List Part), p ∈ W) (hR : RegsIn (alarmRegs ++ haltRegs ++ ([.arr (.REED_ST_PC_PC 0) 0x100 8] : List
    Regs)) R) :
    OutFrame W R s (execRet n s) := by
  unfold execRet
  repeat' first
    | exact parts_sub hW rfl
    | with_reducible refine next_frame ?_
    | exact regs_sub hR (by decide +kernel)
    | with_reducible exact Frame.refl _ _ _
    | with_reducible refine State.advanceTo_frame ?_ ?_   ?_
    | with_reducible refine State.programFault_frame ?_ ?_   ?_
    | with_reducible refine State.updSeq_frame ?_    ?_
    | split

theorem execLdi_frame {W : List Part} {R : List Regs} {s : State} {n : ℕ} (hW : ∀ p ∈ ([.seqs] : List Part), p ∈ W) (hR :
    RegsIn (([.arr (.REED_ST_STATUS_STATE 0) 0x100 8, .arr (.REED_ST_PC_PC 0) 0x100 8, .grid (.REED_ST_G_VALUE 0 0) 0x100 8
    0x4 16] : List Regs)) R) :
    OutFrame W R s (execLdi n s) := by
  unfold execLdi
  repeat' first
    | (extract_lets +onlyGivenNames y; clear_value y; revert y; intro _)
    | exact parts_sub hW rfl
    | with_reducible refine next_frame ?_
    | exact regs_sub hR (by decide +kernel)
    | with_reducible exact Frame.refl _ _ _
    | with_reducible refine State.advanceTo_frame ?_ ?_   ?_
    | with_reducible refine State.setG_frame  ?_   ?_
    | split

theorem execMicroAdd_frame {W : List Part} {R : List Regs} {s : State} {n : ℕ} (hW : ∀ p ∈ ([.seqs] : List Part), p ∈ W) (hR :
    RegsIn (([.arr (.REED_ST_STATUS_STATE 0) 0x100 8, .arr (.REED_ST_PC_PC 0) 0x100 8, .grid (.REED_ST_G_VALUE 0 0) 0x100 8
    0x4 16] : List Regs)) R) :
    OutFrame W R s (execMicroAdd n s) := by
  unfold execMicroAdd
  repeat' first
    | (extract_lets +onlyGivenNames y; clear_value y; revert y; intro _)
    | exact parts_sub hW rfl
    | with_reducible refine next_frame ?_
    | exact regs_sub hR (by decide +kernel)
    | with_reducible exact Frame.refl _ _ _
    | with_reducible refine State.advanceTo_frame ?_ ?_   ?_
    | with_reducible refine State.setG_frame  ?_   ?_
    | with_reducible refine State.sticky_frame ?_    ?_
    | split

theorem execMicroSub_frame {W : List Part} {R : List Regs} {s : State} {n : ℕ} (hW : ∀ p ∈ ([.seqs] : List Part), p ∈ W) (hR :
    RegsIn (([.arr (.REED_ST_STATUS_STATE 0) 0x100 8, .arr (.REED_ST_PC_PC 0) 0x100 8, .grid (.REED_ST_G_VALUE 0 0) 0x100 8
    0x4 16] : List Regs)) R) :
    OutFrame W R s (execMicroSub n s) := by
  unfold execMicroSub
  repeat' first
    | (extract_lets +onlyGivenNames y; clear_value y; revert y; intro _)
    | exact parts_sub hW rfl
    | with_reducible refine next_frame ?_
    | exact regs_sub hR (by decide +kernel)
    | with_reducible exact Frame.refl _ _ _
    | with_reducible refine State.advanceTo_frame ?_ ?_   ?_
    | with_reducible refine State.setG_frame  ?_   ?_
    | with_reducible refine State.sticky_frame ?_    ?_
    | split

theorem execMicroCmp_frame {W : List Part} {R : List Regs} {s : State} {n : ℕ} (hW : ∀ p ∈ ([.seqs] : List Part), p ∈ W) (hR :
    RegsIn (([.arr (.REED_ST_STATUS_STATE 0) 0x100 8, .arr (.REED_ST_PC_PC 0) 0x100 8] : List Regs)) R) :
    OutFrame W R s (execMicroCmp n s) := by
  unfold execMicroCmp
  repeat' first
    | exact parts_sub hW rfl
    | with_reducible refine next_frame ?_
    | with_reducible assumption
    | with_reducible exact Frame.refl _ _ _
    | with_reducible refine State.advanceTo_frame ?_ ?_   ?_
    | with_reducible refine State.sticky_frame ?_    ?_
    | split

theorem State.wpcLoad_frame {W : List Part} {R : List Regs} {s0 s : State} {n : ℕ} (hW : ∀ p ∈ ([.chans] : List Part), p ∈ W)
    (h : Frame W R s0 s) :
    Frame W R s0 (State.wpcLoad s n) := by
  unfold State.wpcLoad
  repeat' first
    | with_reducible exact h
    | with_reducible assumption
    | with_reducible refine State.updChan_frame ?_    ?_

theorem State.coefLoad_frame {W : List Part} {R : List Regs} {s0 s : State} {n : ℕ} (hW : ∀ p ∈ ([.chans] : List Part), p ∈ W)
    (h : Frame W R s0 s) :
    Frame W R s0 (State.coefLoad s n) := by
  unfold State.coefLoad
  repeat' first
    | with_reducible exact h
    | with_reducible assumption
    | with_reducible refine State.updChan_frame ?_    ?_

theorem State.refuse_frame {W : List Part} {R : List Regs} {s0 s : State} {n : ℕ} {next : ℕ} {write : Bool} {short : Bool} (hW
    : ∀ p ∈ ([.seqs] : List Part), p ∈ W) (hR : RegsIn (([.arr (.REED_ST_STATUS_STATE 0) 0x100 8, .arr (.REED_ST_PC_PC 0)
    0x100 8] : List Regs)) R) (h : Frame W R s0 s) :
    Frame W R s0 (State.refuse s n next write short) := by
  unfold State.refuse
  repeat' first
    | with_reducible exact h
    | with_reducible assumption
    | (extract_lets +onlyGivenNames x; refine have_frame (x := x) ?_ (fun hx => ?_); (on_goal 2 => (clear_value x; revert x; intro _ _)); (on_goal 1 => (unfold x; clear x)))
    | with_reducible refine ite_frame (fun _ => ?_) (fun _ => ?_)
    | with_reducible refine State.restartDue_frame ?_    ?_
    | with_reducible refine State.advanceTo_frame ?_ ?_   ?_
    | with_reducible refine State.sticky_frame ?_    ?_

theorem State.takeVfy_frame {W : List Part} {R : List Regs} {s0 s : State} {n : ℕ} (hW : ∀ p ∈ ([.seqs, .chans] : List Part),
    p ∈ W) (h : Frame W R s0 s) :
    Frame W R s0 (State.takeVfy s n) := by
  unfold State.takeVfy
  repeat' first
    | with_reducible exact h
    | exact parts_sub hW rfl
    | with_reducible refine State.updSeq_frame ?_    ?_
    | with_reducible refine State.updChan_frame ?_    ?_

theorem State.raisePrevented_frame {W : List Part} {R : List Regs} {s0 s : State} {n : ℕ} {next : ℕ} {cause : ℕ} (hW : ∀ p ∈
    ([.mireIrq, .seqs, .chans, .stg] : List Part), p ∈ W) (hR : RegsIn (haltRegs ++ ([.arr (.REED_ST_PC_PC 0) 0x100 8] : List
    Regs)) R) (h : Frame W R s0 s) :
    Frame W R s0 (State.raisePrevented s n next cause) := by
  unfold State.raisePrevented
  repeat' first
    | with_reducible exact h
    | with_reducible assumption
    | exact parts_sub hW rfl
    | exact regs_sub hR (by decide +kernel)
    | with_reducible refine State.restartDue_frame ?_    ?_
    | with_reducible refine State.advanceTo_frame ?_ ?_   ?_
    | with_reducible refine State.terminate_frame ?_ ?_   ?_
    | split

theorem State.wgUp_frame {W : List Part} {R : List Regs} {s0 s : State} {n : ℕ} {m : Word} (hW : ∀ p ∈ ([.seqs, .chans] : List
    Part), p ∈ W) (hR : RegsIn (([.arr (.SDG_WR_STATUS_WG 0) 0x400 8] : List Regs)) R) (h : Frame W R s0 s) :
    Frame W R s0 (State.wgUp s n m) := by
  unfold State.wgUp
  repeat' first
    | with_reducible exact h
    | with_reducible assumption
    | (extract_lets +onlyGivenNames x; refine have_frame (x := x) ?_ (fun hx => ?_); (on_goal 2 => (clear_value x; revert x; intro _ _)); (on_goal 1 => (unfold x; clear x)))
    | exact parts_sub hW rfl
    | with_reducible refine ite_frame (fun _ => ?_) (fun _ => ?_)
    | with_reducible refine State.wpcLoad_frame ?_    ?_
    | with_reducible refine State.updSeq_frame ?_    ?_
    | with_reducible refine State.updChan_frame ?_    ?_
    | with_reducible refine State.set_frame ?_ ?_
    | exact cov_arr (f := .SDG_WR_STATUS_WG 0) (k := 0x400) (m := 8) hR (by decide +kernel) (by decide) rfl

theorem State.raiseWg_frame {W : List Part} {R : List Regs} {s0 s : State} {n : ℕ} {next : ℕ} {m : Word} {late : Bool} {cause
    : Option ℕ} (hW : ∀ p ∈ ([.mireIrq, .fenIrq, .seqs, .chans, .stg, .lev, .peat] : List Part), p ∈ W) (hR : RegsIn
    (alarmRegs ++ haltRegs ++ ([.arr (.REED_ST_STATUS_EVT_CNT 0) 0x100 8, .arr (.REED_ST_PC_PC 0) 0x100 8] : List Regs)) R) (h
    : Frame W R s0 s) :
    Frame W R s0 (State.raiseWg s n next m late cause) := by
  unfold State.raiseWg
  repeat' first
    | with_reducible exact h
    | with_reducible assumption
    | (extract_lets +onlyGivenNames x; refine have_frame (x := x) ?_ (fun hx => ?_); (on_goal 2 => (clear_value x; revert x; intro _ _)); (on_goal 1 => (unfold x; clear x)))
    | (extract_lets +onlyGivenNames y; clear_value y; revert y; intro _)
    | exact parts_sub hW rfl
    | exact regs_sub hR (by decide +kernel)
    | with_reducible refine ite_frame (fun _ => ?_) (fun _ => ?_)
    | with_reducible refine State.when_frame ?_ (fun t ht => ?_)
    | with_reducible refine State.terminate_frame ?_ ?_   ?_
    | with_reducible refine State.reedEvent_frame ?_ ?_   ?_
    | with_reducible refine State.updStage_frame ?_    ?_
    | with_reducible refine State.refuse_frame ?_ ?_   ?_
    | with_reducible refine State.advanceTo_frame ?_ ?_   ?_
    | with_reducible refine State.programFault_frame ?_ ?_   ?_
    | with_reducible refine State.wgUp_frame ?_ ?_   ?_
    | with_reducible refine State.raisePrevented_frame ?_ ?_   ?_
    | with_reducible refine State.stgStatus_frame  ?_   ?_
    | with_reducible refine State.takeVfy_frame ?_    ?_
    | with_reducible refine State.updSeq_frame ?_    ?_
    | split

theorem State.raiseRg_frame {W : List Part} {R : List Regs} {s0 s : State} {n : ℕ} {next : ℕ} (hW : ∀ p ∈ ([.seqs, .chans,
    .stg] : List Part), p ∈ W) (hR : RegsIn (([.arr (.REED_ST_STATUS_STATE 0) 0x100 8, .arr (.SLU_STG_STATUS_ACTIVE 0) 0x4 8,
    .arr (.SLU_STG_STATUS_DIR 0) 0x4 8, .arr (.SLU_STG_STATUS_RESV 0) 0x4 8, .arr (.SLU_STG_STATUS_READY 0) 0x4 8, .arr
    (.REED_ST_PC_PC 0) 0x100 8] : List Regs)) R) (h : Frame W R s0 s) :
    Frame W R s0 (State.raiseRg s n next) := by
  unfold State.raiseRg
  repeat' first
    | with_reducible exact h
    | with_reducible assumption
    | (extract_lets +onlyGivenNames x; refine have_frame (x := x) ?_ (fun hx => ?_); (on_goal 2 => (clear_value x; revert x; intro _ _)); (on_goal 1 => (unfold x; clear x)))
    | (extract_lets +onlyGivenNames y; clear_value y; revert y; intro _)
    | exact parts_sub hW rfl
    | exact regs_sub hR (by decide +kernel)
    | with_reducible refine ite_frame (fun _ => ?_) (fun _ => ?_)
    | with_reducible refine State.updStage_frame ?_    ?_
    | with_reducible refine State.refuse_frame ?_ ?_   ?_
    | with_reducible refine State.coefLoad_frame ?_    ?_
    | with_reducible refine State.advanceTo_frame ?_ ?_   ?_
    | with_reducible refine State.stgStatus_frame  ?_   ?_
    | with_reducible refine State.updSeq_frame ?_    ?_

theorem State.armVg_frame {W : List Part} {R : List Regs} {s0 s : State} {n : ℕ} {m : Word} (hW : ∀ p ∈ ([.seqs, .chans] :
    List Part), p ∈ W) (h : Frame W R s0 s) :
    Frame W R s0 (State.armVg s n m) := by
  unfold State.armVg
  repeat' first
    | with_reducible exact h
    | with_reducible assumption
    | (extract_lets +onlyGivenNames x; refine have_frame (x := x) ?_ (fun hx => ?_); (on_goal 2 => (clear_value x; revert x; intro _ _)); (on_goal 1 => (unfold x; clear x)))
    | (extract_lets +onlyGivenNames y; clear_value y; revert y; intro _)
    | exact parts_sub hW rfl
    | with_reducible refine ite_frame (fun _ => ?_) (fun _ => ?_)
    | with_reducible refine State.when_frame ?_ (fun t ht => ?_)
    | with_reducible refine State.takeVfy_frame ?_    ?_
    | with_reducible refine State.updSeq_frame ?_    ?_

theorem State.disarmVg_frame {W : List Part} {R : List Regs} {s0 s : State} {n : ℕ} {m : Word} (hW : ∀ p ∈ ([.seqs, .chans] :
    List Part), p ∈ W) (h : Frame W R s0 s) :
    Frame W R s0 (State.disarmVg s n m) := by
  unfold State.disarmVg
  repeat' first
    | with_reducible exact h
    | with_reducible assumption
    | exact parts_sub hW rfl
    | with_reducible refine State.when_frame ?_ (fun t ht => ?_)
    | with_reducible refine State.endFragment_frame ?_    ?_
    | with_reducible refine State.updSeq_frame ?_    ?_
    | with_reducible refine State.idleTo_frame ?_    ?_

theorem State.gateAct_frame {W : List Part} {R : List Regs} {s0 s : State} {n : ℕ} {next : ℕ} {sel : ℕ} {up : Bool} {m : Word}
    {cause : Option ℕ} (hW : ∀ p ∈ ([.mireIrq, .fenIrq, .seqs, .chans, .stg, .lev, .peat] : List Part), p ∈ W) (hR : RegsIn
    (alarmRegs ++ haltRegs ++ ([.arr (.REED_ST_STATUS_EVT_CNT 0) 0x100 8, .arr (.REED_ST_PC_PC 0) 0x100 8] : List Regs)) R) (h
    : Frame W R s0 s) :
    Frame W R s0 (State.gateAct s n next sel up m cause) := by
  unfold State.gateAct
  repeat' first
    | with_reducible exact h
    | with_reducible assumption
    | (extract_lets +onlyGivenNames x; refine have_frame (x := x) ?_ (fun hx => ?_); (on_goal 2 => (clear_value x; revert x; intro _ _)); (on_goal 1 => (unfold x; clear x)))
    | exact parts_sub hW rfl
    | exact regs_sub hR (by decide +kernel)
    | with_reducible refine ite_frame (fun _ => ?_) (fun _ => ?_)
    | with_reducible refine State.when_frame ?_ (fun t ht => ?_)
    | with_reducible refine State.raiseRg_frame ?_ ?_   ?_
    | with_reducible refine State.refuse_frame ?_ ?_   ?_
    | with_reducible refine State.advanceTo_frame ?_ ?_   ?_
    | with_reducible refine State.stallOn_frame ?_ ?_   ?_
    | with_reducible refine State.dropWg_frame ?_ ?_   ?_
    | with_reducible refine State.raiseWg_frame ?_ ?_   ?_
    | with_reducible refine State.disarmVg_frame ?_    ?_
    | with_reducible refine State.armVg_frame ?_    ?_
    | with_reducible refine State.updSeq_frame ?_    ?_
    | with_reducible refine State.idleTo_frame ?_    ?_
    | split

theorem execGate_frame {W : List Part} {R : List Regs} {s : State} {n : ℕ} {mang : Word} {cause : Option ℕ} (hW : ∀ p ∈
    ([.mireIrq, .fenIrq, .seqs, .chans, .stg, .lev, .peat] : List Part), p ∈ W) (hR : RegsIn (alarmRegs ++ haltRegs ++ ([.fld
    ⟨0x4E000000, 0, 32⟩, .arr (.REED_ST_STATUS_EVT_CNT 0) 0x100 8, .arr (.REED_ST_PC_PC 0) 0x100 8] : List Regs)) R) :
    OutFrame W R s (execGate n mang cause s) := by
  unfold execGate
  repeat' first
    | (extract_lets +onlyGivenNames x; refine have_out (x := x) ?_ (fun hx => ?_); (on_goal 2 => (clear_value x; revert x; intro _ _)); (on_goal 1 => (unfold x; clear x)))
    | (extract_lets +onlyGivenNames y; clear_value y; revert y; intro _)
    | exact parts_sub hW rfl
    | with_reducible refine next_frame ?_
    | with_reducible refine ite_out (fun _ => ?_) (fun _ => ?_)
    | with_reducible assumption
    | exact regs_sub hR (by decide +kernel)
    | with_reducible exact Frame.refl _ _ _
    | with_reducible refine ite_frame (fun _ => ?_) (fun _ => ?_)
    | with_reducible refine State.when_frame ?_ (fun t ht => ?_)
    | with_reducible refine State.gateAct_frame ?_ ?_   ?_
    | with_reducible refine State.refuse_frame ?_ ?_   ?_
    | with_reducible refine State.atMang_frame  ?_   ?_
    | with_reducible refine State.programFault_frame ?_ ?_   ?_
    | with_reducible refine State.stallOn_frame ?_ ?_   ?_
    | with_reducible refine State.raiseWg_frame ?_ ?_   ?_
    | with_reducible refine State.sticky_frame ?_    ?_
    | with_reducible refine fst_frame (by assumption) (State.waitAngle_frame ?_ ?_   ?_)
    | split

theorem State.putTrim_frame {W : List Part} {R : List Regs} {s0 s : State} {n : ℕ} {phase : ℤ} {clamped : Bool} (hW : ∀ p ∈
    ([.chans] : List Part), p ∈ W) (hR : RegsIn (([.arr (.SDG_ST_STATUS_PHASE_LIM 0) 0x400 8, .arr (.SDG_FE_STATUS_TRIM 0)
    0x400 8] : List Regs)) R) (h : Frame W R s0 s) :
    Frame W R s0 (State.putTrim s n phase clamped) := by
  unfold State.putTrim
  repeat' first
    | with_reducible exact h
    | with_reducible assumption
    | (extract_lets +onlyGivenNames x; refine have_frame (x := x) ?_ (fun hx => ?_); (on_goal 2 => (clear_value x; revert x; intro _ _)); (on_goal 1 => (unfold x; clear x)))
    | (extract_lets +onlyGivenNames y; clear_value y; revert y; intro _)
    | with_reducible refine State.when_frame ?_ (fun t ht => ?_)
    | with_reducible refine State.updChan_frame ?_    ?_
    | with_reducible refine State.setS_frame ?_ ?_
    | with_reducible refine State.telAdd_frame ?_    ?_
    | with_reducible refine State.set_frame ?_ ?_
    | exact cov_arr (f := .SDG_ST_STATUS_PHASE_LIM 0) (k := 0x400) (m := 8) hR (by decide +kernel) (by decide) rfl
    | exact cov_arr (f := .SDG_FE_STATUS_TRIM 0) (k := 0x400) (m := 8) hR (by decide +kernel) (by decide) rfl

theorem State.acquirePreamble_frame {W : List Part} {R : List Regs} {s0 s : State} {n : ℕ} {resync : Bool} {p : Preamble} (hW
    : ∀ p ∈ ([.chans] : List Part), p ∈ W) (hR : RegsIn (([.arr (.SDG_ST_STATUS_PHASE_LIM 0) 0x400 8, .arr
    (.SDG_ST_STATUS_ACQ_SHORT 0) 0x400 8, .arr (.SDG_FE_STATUS_TRIM 0) 0x400 8, .arr (.SDG_FE_STATUS_VGA 0) 0x400 8, .arr
    (.SDG_FE_STATUS_AMPL 0) 0x400 8] : List Regs)) R) (h : Frame W R s0 s) :
    Frame W R s0 (State.acquirePreamble s n resync p) := by
  unfold State.acquirePreamble
  repeat' first
    | with_reducible exact h
    | with_reducible assumption
    | (extract_lets +onlyGivenNames x; refine have_frame (x := x) ?_ (fun hx => ?_); (on_goal 2 => (clear_value x; revert x; intro _ _)); (on_goal 1 => (unfold x; clear x)))
    | (extract_lets +onlyGivenNames y; clear_value y; revert y; intro _)
    | exact regs_sub hR (by decide +kernel)
    | with_reducible refine State.when_frame ?_ (fun t ht => ?_)
    | with_reducible refine State.telLevel_frame ?_    ?_
    | with_reducible refine State.telAdd_frame ?_    ?_
    | with_reducible refine State.putTrim_frame ?_ ?_   ?_
    | with_reducible refine State.set_frame ?_ ?_
    | exact cov_arr (f := .SDG_ST_STATUS_ACQ_SHORT 0) (k := 0x400) (m := 8) hR (by decide +kernel) (by decide) rfl
    | exact cov_arr (f := .SDG_FE_STATUS_VGA 0) (k := 0x400) (m := 8) hR (by decide +kernel) (by decide) rfl
    | exact cov_arr (f := .SDG_FE_STATUS_AMPL 0) (k := 0x400) (m := 8) hR (by decide +kernel) (by decide) rfl

theorem State.writeMark_frame {W : List Part} {R : List Regs} {s0 s : State} {n : ℕ} {resync : Bool} {t' : Word} (hW : ∀ p ∈
    ([.seqs, .chans] : List Part), p ∈ W) (h : Frame W R s0 s) :
    Frame W R s0 (State.writeMark s n resync t') := by
  unfold State.writeMark
  repeat' first
    | with_reducible exact h
    | (extract_lets +onlyGivenNames y; clear_value y; revert y; intro _)
    | exact parts_sub hW rfl
    | with_reducible refine ite_frame (fun _ => ?_) (fun _ => ?_)
    | with_reducible refine State.sendMark_frame ?_    ?_
    | with_reducible refine State.updSeq_frame ?_    ?_

theorem execSync_frame {W : List Part} {R : List Regs} {s : State} {n : ℕ} {mang : Word} {p : Preamble} (hW : ∀ p ∈ ([.seqs,
    .chans] : List Part), p ∈ W) (hR : RegsIn (([.arr (.REED_ST_STATUS_STATE 0) 0x100 8, .fld ⟨0x4E000000, 0, 32⟩, .arr
    (.REED_ST_PC_PC 0) 0x100 8, .arr (.SDG_ST_STATUS_PHASE_LIM 0) 0x400 8, .arr (.SDG_ST_STATUS_ACQ_SHORT 0) 0x400 8, .arr
    (.SDG_FE_STATUS_TRIM 0) 0x400 8, .arr (.SDG_FE_STATUS_VGA 0) 0x400 8, .arr (.SDG_FE_STATUS_AMPL 0) 0x400 8] : List Regs))
    R) :
    OutFrame W R s (execSync n mang p s) := by
  unfold execSync
  repeat' first
    | (extract_lets +onlyGivenNames x; refine have_out (x := x) ?_ (fun hx => ?_); (on_goal 2 => (clear_value x; revert x; intro _ _)); (on_goal 1 => (unfold x; clear x)))
    | (extract_lets +onlyGivenNames y; clear_value y; revert y; intro _)
    | exact parts_sub hW rfl
    | with_reducible refine next_frame ?_
    | with_reducible refine ite_out (fun _ => ?_) (fun _ => ?_)
    | with_reducible assumption
    | exact regs_sub hR (by decide +kernel)
    | with_reducible exact Frame.refl _ _ _
    | with_reducible refine ite_frame (fun _ => ?_) (fun _ => ?_)
    | with_reducible refine State.when_frame ?_ (fun t ht => ?_)
    | with_reducible refine State.atMang_frame  ?_   ?_
    | with_reducible refine State.advanceTo_frame ?_ ?_   ?_
    | with_reducible refine State.stallOn_frame ?_ ?_   ?_
    | with_reducible refine State.writeMark_frame ?_    ?_
    | with_reducible refine State.sticky_frame ?_    ?_
    | with_reducible refine State.acquirePreamble_frame ?_ ?_   ?_
    | split

theorem State.dataFrom_frame {W : List Part} {R : List Regs} {s0 s : State} {n : ℕ} {resync : Bool} {m : Word} {c : Word} (hW
    : ∀ p ∈ ([.seqs] : List Part), p ∈ W) (h : Frame W R s0 s) :
    Frame W R s0 (State.dataFrom s n resync m c) := by
  unfold State.dataFrom
  repeat' first
    | with_reducible exact h
    | with_reducible assumption
    | (extract_lets +onlyGivenNames y; clear_value y; revert y; intro _)
    | with_reducible refine State.updSeq_frame ?_    ?_

theorem execMarkDetected_frame {W : List Part} {R : List Regs} {s : State} {n : ℕ} {mang : Word} {bits : Word} (hW : ∀ p ∈
    ([.seqs] : List Part), p ∈ W) (hR : RegsIn (([.arr (.REED_ST_STATUS_STATE 0) 0x100 8, .fld ⟨0x4E000000, 0, 32⟩, .arr
    (.REED_ST_PC_PC 0) 0x100 8, .arr (.REED_ST_SYNCOFS_TIMED 0) 0x100 8, .arr (.REED_ST_SYNCOFS_OFS 0) 0x100 8] : List Regs))
    R) :
    OutFrame W R s (execMarkDetected n mang bits s) := by
  unfold execMarkDetected
  repeat' first
    | (extract_lets +onlyGivenNames x; refine have_out (x := x) ?_ (fun hx => ?_); (on_goal 2 => (clear_value x; revert x; intro _ _)); (on_goal 1 => (unfold x; clear x)))
    | (extract_lets +onlyGivenNames y; clear_value y; revert y; intro _)
    | exact parts_sub hW rfl
    | with_reducible refine next_frame ?_
    | with_reducible refine ite_out (fun _ => ?_) (fun _ => ?_)
    | with_reducible assumption
    | exact regs_sub hR (by decide +kernel)
    | with_reducible exact Frame.refl _ _ _
    | with_reducible refine State.dataFrom_frame ?_    ?_
    | with_reducible refine State.atMang_frame  ?_   ?_
    | with_reducible refine State.advanceTo_frame ?_ ?_   ?_
    | with_reducible refine State.setS_frame ?_ ?_
    | with_reducible refine State.sticky_frame ?_    ?_
    | with_reducible refine State.set_frame ?_ ?_
    | exact cov_arr (f := .REED_ST_SYNCOFS_TIMED 0) (k := 0x100) (m := 8) hR (by decide +kernel) (by decide) rfl
    | exact cov_arr (f := .REED_ST_SYNCOFS_OFS 0) (k := 0x100) (m := 8) hR (by decide +kernel) (by decide) rfl
    | split

theorem execSyncWindowClose_frame {W : List Part} {R : List Regs} {s : State} {n : ℕ} {mang : Word} (hW : ∀ p ∈ ([.seqs] :
    List Part), p ∈ W) (hR : RegsIn (([.arr (.REED_ST_STATUS_STATE 0) 0x100 8, .fld ⟨0x4E000000, 0, 32⟩, .arr (.REED_ST_PC_PC
    0) 0x100 8, .arr (.REED_ST_SYNCOFS_TIMED 0) 0x100 8, .arr (.REED_ST_SYNCOFS_OFS 0) 0x100 8] : List Regs)) R) :
    OutFrame W R s (execSyncWindowClose n mang s) := by
  unfold execSyncWindowClose
  repeat' first
    | (extract_lets +onlyGivenNames x; refine have_out (x := x) ?_ (fun hx => ?_); (on_goal 2 => (clear_value x; revert x; intro _ _)); (on_goal 1 => (unfold x; clear x)))
    | exact parts_sub hW rfl
    | with_reducible refine next_frame ?_
    | with_reducible refine ite_out (fun _ => ?_) (fun _ => ?_)
    | with_reducible assumption
    | exact regs_sub hR (by decide +kernel)
    | with_reducible exact Frame.refl _ _ _
    | with_reducible refine State.dataFrom_frame ?_    ?_
    | with_reducible refine State.atMang_frame  ?_   ?_
    | with_reducible refine State.advanceTo_frame ?_ ?_   ?_
    | with_reducible refine State.sticky_frame ?_    ?_
    | with_reducible refine State.updSeq_frame ?_    ?_
    | with_reducible refine State.set_frame ?_ ?_
    | exact cov_arr (f := .REED_ST_SYNCOFS_TIMED 0) (k := 0x100) (m := 8) hR (by decide +kernel) (by decide) rfl
    | exact cov_arr (f := .REED_ST_SYNCOFS_OFS 0) (k := 0x100) (m := 8) hR (by decide +kernel) (by decide) rfl
    | split

theorem State.sectorDone_frame {W : List Part} {R : List Regs} {s0 s : State} {n : ℕ} (hW : ∀ p ∈ ([.mireIrq, .seqs, .chans] :
    List Part), p ∈ W) (hR : RegsIn (([.fld .SDG_STATUS_RES_IRQ, .fld .SDG_STATUS_PENDING, .arr (.SDG_ST_STATUS_RES_OVF 0)
    0x400 8, .arr (.SDG_ST_STATUS_RES_CNT 0) 0x400 8, .arr (.SDG_ST_STATUS_PARK_USED 0) 0x400 8, .arr
    (.SDG_ST_STATUS_PENDING_CNT 0) 0x400 8, .arr (.SDG_FE_STATUS_TA_ACTIVE 0) 0x400 8, .arr (.SDG_FE_STATUS_DO_ACTIVE 0) 0x400
    8] : List Regs)) R) (h : Frame W R s0 s) :
    Frame W R s0 (State.sectorDone s n) := by
  unfold State.sectorDone
  repeat' first
    | with_reducible exact h
    | with_reducible assumption
    | (extract_lets +onlyGivenNames x; refine have_frame (x := x) ?_ (fun hx => ?_); (on_goal 2 => (clear_value x; revert x; intro _ _)); (on_goal 1 => (unfold x; clear x)))
    | exact parts_sub hW rfl
    | exact regs_sub hR (by decide +kernel)
    | with_reducible refine State.when_frame ?_ (fun t ht => ?_)
    | with_reducible refine State.postResult_frame ?_ ?_   ?_
    | with_reducible refine State.updSeq_frame ?_    ?_
    | with_reducible refine State.updChan_frame ?_    ?_
    | with_reducible refine State.endDefects_frame ?_ ?_   ?_
    | with_reducible refine State.endFragment_frame ?_    ?_
    | with_reducible refine State.sdgStatus_frame ?_ ?_   ?_

theorem State.takeSamples_frame {W : List Part} {R : List Regs} {s0 s : State} {n : ℕ} {k : ℕ} {raw : List Sample} (hW : ∀ p ∈
    ([.chans] : List Part), p ∈ W) (hR : RegsIn (([.arr (.SDG_ST_STATUS_PHASE_LIM 0) 0x400 8, .arr (.SDG_FE_STATUS_TRIM 0)
    0x400 8] : List Regs)) R) (h : Frame W R s0 s) :
    Frame W R s0 (State.takeSamples s n k raw) := by
  unfold State.takeSamples
  repeat' first
    | with_reducible exact h
    | with_reducible assumption
    | (extract_lets +onlyGivenNames x; refine have_frame (x := x) ?_ (fun hx => ?_); (on_goal 2 => (clear_value x; revert x; intro _ _)); (on_goal 1 => (unfold x; clear x)))
    | (extract_lets +onlyGivenNames y; clear_value y; revert y; intro _)
    | with_reducible refine State.when_frame ?_ (fun t ht => ?_)
    | with_reducible refine State.updChan_frame ?_    ?_
    | with_reducible refine State.putTrim_frame ?_ ?_   ?_
    | split

theorem State.xferEnd_frame {W : List Part} {R : List Regs} {s0 s : State} {n : ℕ} {a : ℕ} {sel : ℕ} {opd : ℕ} {count : ℕ}
    {moved : ℕ} {start : Word} {raw : List Sample} (hW : ∀ p ∈ ([.mireIrq, .seqs, .chans] : List Part), p ∈ W) (hR : RegsIn
    (([.arr (.REED_ST_STATUS_STATE 0) 0x100 8, .fld .SDG_STATUS_RES_IRQ, .fld .SDG_STATUS_PENDING, .arr
    (.SDG_ST_STATUS_RES_OVF 0) 0x400 8, .arr (.SDG_ST_STATUS_RES_CNT 0) 0x400 8, .arr (.SDG_ST_STATUS_PARK_USED 0) 0x400 8,
    .arr (.SDG_ST_STATUS_PENDING_CNT 0) 0x400 8, .arr (.SDG_FE_STATUS_TA_ACTIVE 0) 0x400 8, .arr (.SDG_FE_STATUS_DO_ACTIVE 0)
    0x400 8, .arr (.REED_ST_STATUS_EVT_CNT 0) 0x100 8, .arr (.REED_ST_PC_PC 0) 0x100 8, .grid (.REED_ST_G_VALUE 0 0) 0x100 8
    0x4 16] : List Regs) ++ ([.arr (.SDG_ST_STATUS_PHASE_LIM 0) 0x400 8, .arr (.SDG_FE_STATUS_TRIM 0) 0x400 8] : List Regs))
    R) (h : Frame W R s0 s) :
    Frame W R s0 (State.xferEnd s n a sel opd count moved start raw) := by
  unfold State.xferEnd
  repeat' first
    | with_reducible exact h
    | with_reducible assumption
    | (extract_lets +onlyGivenNames x; refine have_frame (x := x) ?_ (fun hx => ?_); (on_goal 2 => (clear_value x; revert x; intro _ _)); (on_goal 1 => (unfold x; clear x)))
    | (extract_lets +onlyGivenNames y; clear_value y; revert y; intro _)
    | exact parts_sub hW rfl
    | exact regs_sub hR (by decide +kernel)
    | with_reducible refine State.when_frame ?_ (fun t ht => ?_)
    | with_reducible refine State.reedEvent_frame ?_ ?_   ?_
    | with_reducible refine State.setG_frame  ?_   ?_
    | with_reducible refine State.sendCode_frame ?_    ?_
    | with_reducible refine State.takeSamples_frame ?_ ?_   ?_
    | with_reducible refine State.advanceTo_frame ?_ ?_   ?_
    | with_reducible refine State.sectorDone_frame ?_ ?_   ?_
    | with_reducible refine State.cutRead_frame ?_ ?_   ?_
    | with_reducible refine State.sticky_frame ?_    ?_
    | with_reducible refine State.updSeq_frame ?_    ?_

theorem State.xferStart_frame {W : List Part} {R : List Regs} {s0 s : State} {n : ℕ} {sel : ℕ} {mang : Word} (hW : ∀ p ∈
    ([.mireIrq, .seqs, .chans] : List Part), p ∈ W) (hR : RegsIn (([.arr (.REED_ST_STATUS_STATE 0) 0x100 8, .fld
    .SDG_STATUS_RES_IRQ, .fld .SDG_STATUS_PENDING, .arr (.SDG_ST_STATUS_RES_CNT 0) 0x400 8, .arr (.SDG_ST_STATUS_PARK_USED 0)
    0x400 8, .arr (.SDG_ST_STATUS_PENDING_CNT 0) 0x400 8] : List Regs)) R) (h : Frame W R s0 s) :
    Frame W R s0 (State.xferStart s n sel mang) := by
  unfold State.xferStart
  repeat' first
    | with_reducible exact h
    | with_reducible assumption
    | (extract_lets +onlyGivenNames x; refine have_frame (x := x) ?_ (fun hx => ?_); (on_goal 2 => (clear_value x; revert x; intro _ _)); (on_goal 1 => (unfold x; clear x)))
    | (extract_lets +onlyGivenNames y; clear_value y; revert y; intro _)
    | exact parts_sub hW rfl
    | exact regs_sub hR (by decide +kernel)
    | with_reducible refine State.when_frame ?_ (fun t ht => ?_)
    | with_reducible refine State.updSeq_frame ?_    ?_
    | with_reducible refine State.updChan_frame ?_    ?_
    | with_reducible refine State.stallOn_frame ?_ ?_   ?_
    | with_reducible refine State.sdgStatus_frame ?_ ?_   ?_

theorem execXfer_frame {W : List Part} {R : List Regs} {s : State} {n : ℕ} {mang : Word} {raw : List Sample} (hW : ∀ p ∈
    ([.mireIrq, .fenIrq, .seqs, .chans, .stg, .lev, .peat] : List Part), p ∈ W) (hR : RegsIn (alarmRegs ++ haltRegs ++ ([.fld
    ⟨0x4E000000, 0, 32⟩, .arr (.REED_ST_STATUS_EVT_CNT 0) 0x100 8, .arr (.REED_ST_PC_PC 0) 0x100 8, .grid (.REED_ST_G_VALUE 0
    0) 0x100 8 0x4 16, .arr (.SDG_ST_STATUS_PHASE_LIM 0) 0x400 8, .arr (.SDG_FE_STATUS_TRIM 0) 0x400 8] : List Regs)) R) :
    OutFrame W R s (execXfer n mang raw s) := by
  unfold execXfer
  repeat' first
    | (extract_lets +onlyGivenNames x; refine have_out (x := x) ?_ (fun hx => ?_); (on_goal 2 => (clear_value x; revert x; intro _ _)); (on_goal 1 => (unfold x; clear x)))
    | (extract_lets +onlyGivenNames y; clear_value y; revert y; intro _)
    | exact parts_sub hW rfl
    | with_reducible refine next_frame ?_
    | with_reducible refine ite_out (fun _ => ?_) (fun _ => ?_)
    | with_reducible assumption
    | exact regs_sub hR (by decide +kernel)
    | with_reducible exact Frame.refl _ _ _
    | with_reducible refine ite_frame (fun _ => ?_) (fun _ => ?_)
    | with_reducible refine State.when_frame ?_ (fun t ht => ?_)
    | with_reducible refine State.dropGates_frame ?_ ?_   ?_
    | with_reducible refine State.atMang_frame  ?_   ?_
    | with_reducible refine State.programFault_frame ?_ ?_   ?_
    | with_reducible refine State.xferStart_frame ?_ ?_   ?_
    | with_reducible refine State.stallOn_frame ?_ ?_   ?_
    | with_reducible refine State.xferEnd_frame ?_ ?_   ?_
    | split

theorem execProtectedSpanStart_frame {W : List Part} {R : List Regs} {s : State} {n : ℕ} {mang : Word} {raw : List Sample} (hW
    : ∀ p ∈ ([.mireIrq, .seqs, .chans] : List Part), p ∈ W) (hR : RegsIn (([.arr (.REED_ST_STATUS_STATE 0) 0x100 8, .fld
    .SDG_STATUS_RES_IRQ, .fld .SDG_STATUS_PENDING, .arr (.SDG_ST_STATUS_RES_OVF 0) 0x400 8, .arr (.SDG_ST_STATUS_RES_CNT 0)
    0x400 8, .arr (.SDG_ST_STATUS_PARK_USED 0) 0x400 8, .arr (.SDG_ST_STATUS_PENDING_CNT 0) 0x400 8, .arr
    (.SDG_FE_STATUS_TA_ACTIVE 0) 0x400 8, .arr (.SDG_FE_STATUS_DO_ACTIVE 0) 0x400 8, .fld .SDG_WF_STATUS_CAUSE_SEEN, .arr
    (.SDG_WR_STATUS_WG 0) 0x400 8, .arr (.SDG_WR_STATUS_CAUSE 0) 0x400 8] : List Regs) ++ ([.arr (.SDG_WR_STATUS_DROPS 0)
    0x400 8, .arr (.SDG_WR_DROP_MANG 0) 0x400 8, .fld ⟨0x4E000000, 0, 32⟩, .arr (.REED_ST_STATUS_EVT_CNT 0) 0x100 8, .arr
    (.REED_ST_PC_PC 0) 0x100 8, .grid (.REED_ST_G_VALUE 0 0) 0x100 8 0x4 16, .arr (.SDG_ST_STATUS_PHASE_LIM 0) 0x400 8, .arr
    (.SDG_FE_STATUS_TRIM 0) 0x400 8] : List Regs)) R) :
    OutFrame W R s (execProtectedSpanStart n mang raw s) := by
  unfold execProtectedSpanStart
  repeat' first
    | (extract_lets +onlyGivenNames x; refine have_out (x := x) ?_ (fun hx => ?_); (on_goal 2 => (clear_value x; revert x; intro _ _)); (on_goal 1 => (unfold x; clear x)))
    | (extract_lets +onlyGivenNames y; clear_value y; revert y; intro _)
    | exact parts_sub hW rfl
    | with_reducible refine next_frame ?_
    | with_reducible refine ite_out (fun _ => ?_) (fun _ => ?_)
    | with_reducible assumption
    | exact regs_sub hR (by decide +kernel)
    | with_reducible exact Frame.refl _ _ _
    | with_reducible refine State.atMang_frame  ?_   ?_
    | with_reducible refine State.xferEnd_frame ?_ ?_   ?_
    | with_reducible refine State.dropGates_frame ?_ ?_   ?_
    | split

theorem execSkipw_frame {W : List Part} {R : List Regs} {s : State} {n : ℕ} {mang : Word} (hW : ∀ p ∈ ([.seqs, .chans] : List
    Part), p ∈ W) (hR : RegsIn (([.arr (.REED_ST_STATUS_STATE 0) 0x100 8, .fld ⟨0x4E000000, 0, 32⟩, .arr (.REED_ST_PC_PC 0)
    0x100 8, .grid (.REED_ST_G_VALUE 0 0) 0x100 8 0x4 16] : List Regs)) R) :
    OutFrame W R s (execSkipw n mang s) := by
  unfold execSkipw
  repeat' first
    | (extract_lets +onlyGivenNames x; refine have_out (x := x) ?_ (fun hx => ?_); (on_goal 2 => (clear_value x; revert x; intro _ _)); (on_goal 1 => (unfold x; clear x)))
    | (extract_lets +onlyGivenNames y; clear_value y; revert y; intro _)
    | exact parts_sub hW rfl
    | with_reducible refine next_frame ?_
    | with_reducible assumption
    | exact regs_sub hR (by decide +kernel)
    | with_reducible exact Frame.refl _ _ _
    | with_reducible refine ite_frame (fun _ => ?_) (fun _ => ?_)
    | with_reducible refine State.setG_frame  ?_   ?_
    | with_reducible refine State.atMang_frame  ?_   ?_
    | with_reducible refine State.advanceTo_frame ?_ ?_   ?_
    | with_reducible refine State.stallOn_frame ?_ ?_   ?_
    | with_reducible refine State.disarmVg_frame ?_    ?_
    | with_reducible refine State.updSeq_frame ?_    ?_
    | split

theorem State.commitSectors_frame {W : List Part} {R : List Regs} {s0 s : State} {n : ℕ} (hW : ∀ p ∈ ([.seqs, .stg] : List
    Part), p ∈ W) (hR : RegsIn (([.arr (.SLU_STG_STATUS_ACTIVE 0) 0x4 8, .arr (.SLU_STG_STATUS_DIR 0) 0x4 8, .arr
    (.SLU_STG_STATUS_RESV 0) 0x4 8, .arr (.SLU_STG_STATUS_READY 0) 0x4 8, .arr (.REED_ST_STATUS_RESTARTS 0) 0x100 8, .arr
    (.REED_ST_STATUS_EVT_CNT 0) 0x100 8] : List Regs)) R) (h : Frame W R s0 s) :
    Frame W R s0 (State.commitSectors s n) := by
  unfold State.commitSectors
  repeat' first
    | with_reducible exact h
    | with_reducible assumption
    | (extract_lets +onlyGivenNames x; refine have_frame (x := x) ?_ (fun hx => ?_); (on_goal 2 => (clear_value x; revert x; intro _ _)); (on_goal 1 => (unfold x; clear x)))
    | (extract_lets +onlyGivenNames y; clear_value y; revert y; intro _)
    | exact parts_sub hW rfl
    | exact regs_sub hR (by decide +kernel)
    | with_reducible refine State.when_frame ?_ (fun t ht => ?_)
    | with_reducible refine State.forN_frame ?_ (fun i t ht => ?_)
    | with_reducible refine State.reedEvent_frame ?_ ?_   ?_
    | with_reducible refine State.updStage_frame ?_    ?_
    | with_reducible refine State.stgStatus_frame  ?_   ?_
    | with_reducible refine State.updSeq_frame ?_    ?_
    | with_reducible refine State.set_frame ?_ ?_
    | exact cov_arr (f := .REED_ST_STATUS_RESTARTS 0) (k := 0x100) (m := 8) hR (by decide +kernel) (by decide) rfl

theorem execMark_frame {W : List Part} {R : List Regs} {s : State} {n : ℕ} (hW : ∀ p ∈ ([.seqs, .stg] : List Part), p ∈ W) (hR
    : RegsIn (([.arr (.REED_ST_STATUS_STATE 0) 0x100 8, .arr (.SLU_STG_STATUS_ACTIVE 0) 0x4 8, .arr (.SLU_STG_STATUS_DIR 0)
    0x4 8, .arr (.SLU_STG_STATUS_RESV 0) 0x4 8, .arr (.SLU_STG_STATUS_READY 0) 0x4 8, .arr (.REED_ST_STATUS_RESTARTS 0) 0x100
    8, .arr (.REED_ST_STATUS_EVT_CNT 0) 0x100 8, .arr (.REED_ST_PC_MARK_PC 0) 0x100 8, .arr (.REED_ST_PC_PC 0) 0x100 8] : List
    Regs)) R) :
    OutFrame W R s (execMark n s) := by
  unfold execMark
  repeat' first
    | (extract_lets +onlyGivenNames x; refine have_out (x := x) ?_ (fun hx => ?_); (on_goal 2 => (clear_value x; revert x; intro _ _)); (on_goal 1 => (unfold x; clear x)))
    | exact parts_sub hW rfl
    | with_reducible refine next_frame ?_
    | with_reducible refine ite_out (fun _ => ?_) (fun _ => ?_)
    | with_reducible assumption
    | exact regs_sub hR (by decide +kernel)
    | with_reducible exact Frame.refl _ _ _
    | with_reducible refine State.advanceTo_frame ?_ ?_   ?_
    | with_reducible refine State.stallOn_frame ?_ ?_   ?_
    | with_reducible refine State.commitSectors_frame ?_ ?_   ?_
    | with_reducible refine State.updSeq_frame ?_    ?_
    | with_reducible refine State.set_frame ?_ ?_
    | exact cov_arr (f := .REED_ST_PC_MARK_PC 0) (k := 0x100) (m := 8) hR (by decide +kernel) (by decide) rfl
    | split

theorem execEmit_frame {W : List Part} {R : List Regs} {s : State} {n : ℕ} (hW : ∀ p ∈ ([.seqs] : List Part), p ∈ W) (hR :
    RegsIn (([.arr (.REED_ST_STATUS_STATE 0) 0x100 8, .arr (.REED_ST_STATUS_EVT_CNT 0) 0x100 8, .arr (.REED_ST_PC_PC 0) 0x100
    8] : List Regs)) R) :
    OutFrame W R s (execEmit n s) := by
  unfold execEmit
  repeat' first
    | exact parts_sub hW rfl
    | with_reducible refine next_frame ?_
    | exact regs_sub hR (by decide +kernel)
    | with_reducible exact Frame.refl _ _ _
    | with_reducible refine ite_frame (fun _ => ?_) (fun _ => ?_)
    | with_reducible refine State.advanceTo_frame ?_ ?_   ?_
    | with_reducible refine State.reedEvent_frame ?_ ?_   ?_
    | with_reducible refine State.stallOn_frame ?_ ?_   ?_
    | split

theorem execMicroEnd_frame {W : List Part} {R : List Regs} {s : State} {n : ℕ} (hW : ∀ p ∈ ([.mireIrq, .seqs, .chans, .stg] :
    List Part), p ∈ W) (hR : RegsIn (haltRegs ++ ([.arr (.REED_ST_STATUS_RESULT 0) 0x100 8, .arr (.REED_ST_STATUS_RESTARTS 0)
    0x100 8, .arr (.REED_ST_STATUS_EVT_CNT 0) 0x100 8] : List Regs)) R) :
    OutFrame W R s (execMicroEnd n s) := by
  unfold execMicroEnd
  repeat' first
    | (extract_lets +onlyGivenNames x; refine have_out (x := x) ?_ (fun hx => ?_); (on_goal 2 => (clear_value x; revert x; intro _ _)); (on_goal 1 => (unfold x; clear x)))
    | exact parts_sub hW rfl
    | with_reducible refine next_frame ?_
    | with_reducible refine ite_out (fun _ => ?_) (fun _ => ?_)
    | with_reducible assumption
    | exact regs_sub hR (by decide +kernel)
    | with_reducible exact Frame.refl _ _ _
    | with_reducible refine State.terminate_frame ?_ ?_   ?_
    | with_reducible refine State.set_frame ?_ ?_
    | with_reducible refine State.stallOn_frame ?_ ?_   ?_
    | with_reducible refine State.commitSectors_frame ?_ ?_   ?_
    | exact cov_arr (f := .REED_ST_STATUS_RESULT 0) (k := 0x100) (m := 8) hR (by decide +kernel) (by decide) rfl
    | split

theorem execIllegalMicroword_frame {W : List Part} {R : List Regs} {s : State} {n : ℕ} (hW : ∀ p ∈ ([.mireIrq, .fenIrq, .seqs,
    .chans, .stg, .lev, .peat] : List Part), p ∈ W) (hR : RegsIn (alarmRegs ++ haltRegs) R) :
    OutFrame W R s (execIllegalMicroword n s) := by
  unfold execIllegalMicroword
  repeat' first
    | (extract_lets +onlyGivenNames y; clear_value y; revert y; intro _)
    | exact parts_sub hW rfl
    | with_reducible refine next_frame ?_
    | with_reducible assumption
    | with_reducible exact Frame.refl _ _ _
    | with_reducible refine State.when_frame ?_ (fun t ht => ?_)
    | with_reducible refine State.programFault_frame ?_ ?_   ?_

theorem execReedEventRead_frame {W : List Part} {R : List Regs} {s : State} {who : Who} {n : ℕ} (hW : ∀ p ∈ ([.bus, .mireIrq,
    .fenIrq, .seqs, .chans, .stg, .lev, .peat] : List Part), p ∈ W) (hR : RegsIn (alarmRegs ++ haltRegs ++ ([.arr
    (.REED_ST_STATUS_EVT_CNT 0) 0x100 8] : List Regs)) R) :
    OutFrame W R s (execReedEventRead who n s) := by
  unfold execReedEventRead
  repeat' first
    | (extract_lets +onlyGivenNames x; refine have_frame (x := x) ?_ (fun hx => ?_); (on_goal 2 => (clear_value x; revert x; intro _ _)); (on_goal 1 => (unfold x; clear x)))
    | exact parts_sub hW rfl
    | with_reducible refine next_frame ?_
    | with_reducible assumption
    | exact regs_sub hR (by decide +kernel)
    | with_reducible exact Frame.refl _ _ _
    | with_reducible refine State.when_frame ?_ (fun t ht => ?_)
    | with_reducible refine State.answer_frame ?_    ?_
    | with_reducible refine State.reedCount_frame  ?_   ?_
    | with_reducible refine State.load_frame ?_ ?_  (fun t ht => ?_) ?_
    | with_reducible refine State.updSeq_frame ?_    ?_
    | with_reducible refine State.set_frame ?_ ?_
    | exact cov_arr (f := .REED_ST_STATUS_STATE 0) (k := 0x100) (m := 8) hR (by decide +kernel) (by decide) rfl
    | split

theorem execCsWrite_frame {W : List Part} {R : List Regs} {s : State} {word : Word} (hW : ∀ p ∈ ([.bus, .seqs] : List Part), p
    ∈ W) (hR : RegsIn (([.fld .REED_CS_CTRL_ERR, .fld .REED_CS_CTRL_ADDR] : List Regs)) R) :
    OutFrame W R s (execCsWrite word s) := by
  unfold execCsWrite
  repeat' first
    | (extract_lets +onlyGivenNames x; refine have_frame (x := x) ?_ (fun hx => ?_); (on_goal 2 => (clear_value x; revert x; intro _ _)); (on_goal 1 => (unfold x; clear x)))
    | (extract_lets +onlyGivenNames y; clear_value y; revert y; intro _)
    | exact parts_sub hW rfl
    | with_reducible refine next_frame ?_
    | with_reducible assumption
    | with_reducible exact Frame.refl _ _ _
    | with_reducible refine ite_frame (fun _ => ?_) (fun _ => ?_)
    | with_reducible refine State.when_frame ?_ (fun t ht => ?_)
    | with_reducible refine State.forN_frame ?_ (fun i t ht => ?_)
    | with_reducible refine State.access_frame ?_   (fun t ht => ?_) ?_
    | with_reducible refine State.inc_frame ?_ ?_
    | with_reducible refine State.updSeq_frame ?_    ?_
    | with_reducible refine State.set_frame ?_ ?_
    | exact cov_fld hR (by decide +kernel)

theorem execCsRead_frame {W : List Part} {R : List Regs} {s : State} {who : Who} (hW : ∀ p ∈ ([.bus, .mireIrq, .fenIrq, .seqs,
    .chans, .stg, .lev, .peat] : List Part), p ∈ W) (hR : RegsIn (alarmRegs ++ haltRegs ++ ([.fld .REED_CS_CTRL_ADDR] : List
    Regs)) R) :
    OutFrame W R s (execCsRead who s) := by
  unfold execCsRead
  repeat' first
    | (extract_lets +onlyGivenNames y; clear_value y; revert y; intro _)
    | exact parts_sub hW rfl
    | with_reducible refine next_frame ?_
    | with_reducible assumption
    | exact regs_sub hR (by decide +kernel)
    | with_reducible exact Frame.refl _ _ _
    | with_reducible refine State.answer_frame ?_    ?_
    | with_reducible refine State.inc_frame ?_ ?_
    | with_reducible refine State.load_frame ?_ ?_  (fun t ht => ?_) ?_
    | exact cov_fld hR (by decide +kernel)

/-! ### Machine/ReadChannel.lean -/

theorem State.deliver_frame {W : List Part} {R : List Regs} {s0 s : State} {n : ℕ} {x : Samples} {d : Decode} (hW : ∀ p ∈
    ([.stg] : List Part), p ∈ W) (hR : RegsIn (([.arr (.SLU_STG_STATUS_ACTIVE 0) 0x4 8, .arr (.SLU_STG_STATUS_DIR 0) 0x4 8,
    .arr (.SLU_STG_STATUS_RESV 0) 0x4 8, .arr (.SLU_STG_STATUS_READY 0) 0x4 8] : List Regs)) R) (h : Frame W R s0 s) :
    Frame W R s0 (State.deliver s n x d) := by
  unfold State.deliver
  repeat' first
    | with_reducible exact h
    | with_reducible assumption
    | with_reducible refine State.when_frame ?_ (fun t ht => ?_)
    | with_reducible refine State.updStage_frame ?_    ?_
    | with_reducible refine State.stgStatus_frame  ?_   ?_

theorem State.adaptTo_frame {W : List Part} {R : List Regs} {s0 s : State} {n : ℕ} {l : List (ℕ × BitVec 26)} (hW : ∀ p ∈
    ([.chans] : List Part), p ∈ W) (h : Frame W R s0 s) :
    Frame W R s0 (State.adaptTo s n l) := by
  unfold State.adaptTo
  repeat' first
    | with_reducible exact h
    | with_reducible assumption
    | with_reducible refine State.updChan_frame ?_    ?_

theorem State.adaptNp_frame {W : List Part} {R : List Regs} {s0 s : State} {n : ℕ} (hW : ∀ p ∈ ([.drawn, .chans] : List Part),
    p ∈ W) (h : Frame W R s0 s) :
    Frame W R s0 (State.adaptNp s n) := by
  unfold State.adaptNp
  repeat' first
    | with_reducible exact h
    | with_reducible assumption
    | (extract_lets +onlyGivenNames x; refine have_frame (x := x) ?_ (fun hx => ?_); (on_goal 2 => (clear_value x; revert x; intro _ _)); (on_goal 1 => (unfold x; clear x)))
    | (extract_lets +onlyGivenNames f; have := fun a => f a; clear this; unfold f; clear f)
    | exact parts_sub hW rfl
    | with_reducible refine State.adaptTo_frame ?_    ?_
    | with_reducible refine upd_drawn ?_ ?_

theorem State.adaptFrom_frame {W : List Part} {R : List Regs} {s0 s : State} {n : ℕ} {x : Samples} {d : Decode} (hW : ∀ p ∈
    ([.drawn, .chans] : List Part), p ∈ W) (h : Frame W R s0 s) :
    Frame W R s0 (State.adaptFrom s n x d) := by
  unfold State.adaptFrom
  repeat' first
    | with_reducible exact h
    | with_reducible assumption
    | (extract_lets +onlyGivenNames y; clear_value y; revert y; intro _)
    | exact parts_sub hW rfl
    | with_reducible refine ite_frame (fun _ => ?_) (fun _ => ?_)
    | with_reducible refine State.when_frame ?_ (fun t ht => ?_)
    | with_reducible refine State.adaptNp_frame ?_    ?_
    | with_reducible refine State.adaptTo_frame ?_    ?_

theorem State.telDecoded_frame {W : List Part} {R : List Regs} {s0 s : State} {n : ℕ} {x : Samples} (hW : ∀ p ∈ ([.chans] :
    List Part), p ∈ W) (h : Frame W R s0 s) :
    Frame W R s0 (State.telDecoded s n x) := by
  unfold State.telDecoded
  repeat' first
    | with_reducible exact h
    | with_reducible assumption
    | (extract_lets +onlyGivenNames x; refine have_frame (x := x) ?_ (fun hx => ?_); (on_goal 2 => (clear_value x; revert x; intro _ _)); (on_goal 1 => (unfold x; clear x)))
    | (extract_lets +onlyGivenNames y; clear_value y; revert y; intro _)
    | with_reducible refine State.when_frame ?_ (fun t ht => ?_)
    | with_reducible refine State.telAdd_frame ?_    ?_

theorem State.telGood_frame {W : List Part} {R : List Regs} {s0 s : State} {n : ℕ} {x : Samples} {d : Decode} (hW : ∀ p ∈
    ([.chans] : List Part), p ∈ W) (h : Frame W R s0 s) :
    Frame W R s0 (State.telGood s n x d) := by
  unfold State.telGood
  repeat' first
    | with_reducible exact h
    | with_reducible assumption
    | (extract_lets +onlyGivenNames x; refine have_frame (x := x) ?_ (fun hx => ?_); (on_goal 2 => (clear_value x; revert x; intro _ _)); (on_goal 1 => (unfold x; clear x)))
    | (extract_lets +onlyGivenNames y; clear_value y; revert y; intro _)
    | with_reducible refine State.updChan_frame ?_    ?_
    | with_reducible refine State.telLevel_frame ?_    ?_
    | with_reducible refine State.telAdd_frame ?_    ?_

theorem State.goodSector_frame {W : List Part} {R : List Regs} {s0 s : State} {n : ℕ} {x : Samples} {d : Decode} {outcome : ℕ}
    {align : ℤ} (hW : ∀ p ∈ ([.drawn, .mireIrq, .chans, .stg] : List Part), p ∈ W) (hR : RegsIn (([.fld .SDG_STATUS_RES_IRQ,
    .fld .SDG_STATUS_PENDING, .arr (.SDG_ST_STATUS_RES_OVF 0) 0x400 8, .arr (.SDG_ST_STATUS_RES_CNT 0) 0x400 8, .arr
    (.SDG_ST_STATUS_PARK_USED 0) 0x400 8, .arr (.SDG_ST_STATUS_PENDING_CNT 0) 0x400 8, .arr (.SLU_STG_STATUS_ACTIVE 0) 0x4 8,
    .arr (.SLU_STG_STATUS_DIR 0) 0x4 8, .arr (.SLU_STG_STATUS_RESV 0) 0x4 8, .arr (.SLU_STG_STATUS_READY 0) 0x4 8] : List
    Regs)) R) (h : Frame W R s0 s) :
    Frame W R s0 (State.goodSector s n x d outcome align) := by
  unfold State.goodSector
  repeat' first
    | with_reducible exact h
    | with_reducible assumption
    | (extract_lets +onlyGivenNames x; refine have_frame (x := x) ?_ (fun hx => ?_); (on_goal 2 => (clear_value x; revert x; intro _ _)); (on_goal 1 => (unfold x; clear x)))
    | exact parts_sub hW rfl
    | exact regs_sub hR (by decide +kernel)
    | with_reducible refine State.when_frame ?_ (fun t ht => ?_)
    | with_reducible refine State.deliver_frame ?_ ?_   ?_
    | with_reducible refine State.telGood_frame ?_    ?_
    | with_reducible refine State.postResult_frame ?_ ?_   ?_
    | with_reducible refine State.adaptFrom_frame ?_    ?_

theorem State.parkOrFail_frame {W : List Part} {R : List Regs} {s0 s : State} {n : ℕ} {x : Samples} {d : Decode} {sealFailed :
    Bool} (hW : ∀ p ∈ ([.mireIrq, .chans] : List Part), p ∈ W) (hR : RegsIn (([.fld .SDG_STATUS_RES_IRQ, .fld
    .SDG_STATUS_PENDING, .arr (.SDG_ST_STATUS_RES_OVF 0) 0x400 8, .arr (.SDG_ST_STATUS_RES_CNT 0) 0x400 8, .arr
    (.SDG_ST_STATUS_PARK_USED 0) 0x400 8, .arr (.SDG_ST_STATUS_PENDING_CNT 0) 0x400 8] : List Regs)) R) (h : Frame W R s0 s) :
    Frame W R s0 (State.parkOrFail s n x d sealFailed) := by
  unfold State.parkOrFail
  repeat' first
    | with_reducible exact h
    | with_reducible assumption
    | (extract_lets +onlyGivenNames f; have := fun a => f a; clear this; unfold f; clear f)
    | (extract_lets +onlyGivenNames y; clear_value y; revert y; intro _)
    | exact parts_sub hW rfl
    | exact regs_sub hR (by decide +kernel)
    | with_reducible refine ite_frame (fun _ => ?_) (fun _ => ?_)
    | with_reducible refine State.postResult_frame ?_ ?_   ?_
    | with_reducible refine State.updChan_frame ?_    ?_
    | with_reducible refine State.telAdd_frame ?_    ?_
    | with_reducible refine State.sdgStatus_frame ?_ ?_   ?_
    | split

theorem State.addToSum_frame {W : List Part} {R : List Regs} {s0 s : State} {n : ℕ} {x : Samples} (hW : ∀ p ∈ ([.chans] : List
    Part), p ∈ W) (h : Frame W R s0 s) :
    Frame W R s0 (State.addToSum s n x) := by
  unfold State.addToSum
  repeat' first
    | with_reducible exact h
    | with_reducible assumption
    | (extract_lets +onlyGivenNames f; have := fun a => f a; clear this; unfold f; clear f)
    | (extract_lets +onlyGivenNames y; clear_value y; revert y; intro _)
    | with_reducible refine State.updChan_frame ?_    ?_

theorem State.decodeSector_frame {W : List Part} {R : List Regs} {s0 s : State} {n : ℕ} {x : Samples} (hW : ∀ p ∈ ([.drawn,
    .mireIrq, .chans, .stg] : List Part), p ∈ W) (hR : RegsIn (([.fld .SDG_STATUS_RES_IRQ, .fld .SDG_STATUS_PENDING, .arr
    (.SDG_ST_STATUS_RES_OVF 0) 0x400 8, .arr (.SDG_ST_STATUS_RES_CNT 0) 0x400 8, .arr (.SDG_ST_STATUS_PARK_USED 0) 0x400 8,
    .arr (.SDG_ST_STATUS_PENDING_CNT 0) 0x400 8, .arr (.SLU_STG_STATUS_ACTIVE 0) 0x4 8, .arr (.SLU_STG_STATUS_DIR 0) 0x4 8,
    .arr (.SLU_STG_STATUS_RESV 0) 0x4 8, .arr (.SLU_STG_STATUS_READY 0) 0x4 8] : List Regs)) R) (h : Frame W R s0 s) :
    Frame W R s0 (State.decodeSector s n x) := by
  unfold State.decodeSector
  repeat' first
    | with_reducible exact h
    | with_reducible assumption
    | (extract_lets +onlyGivenNames x; refine have_frame (x := x) ?_ (fun hx => ?_); (on_goal 2 => (clear_value x; revert x; intro _ _)); (on_goal 1 => (unfold x; clear x)))
    | (extract_lets +onlyGivenNames y; clear_value y; revert y; intro _)
    | exact parts_sub hW rfl
    | exact regs_sub hR (by decide +kernel)
    | with_reducible refine ite_frame (fun _ => ?_) (fun _ => ?_)
    | with_reducible refine State.when_frame ?_ (fun t ht => ?_)
    | with_reducible refine State.parkOrFail_frame ?_ ?_   ?_
    | with_reducible refine State.postResult_frame ?_ ?_   ?_
    | with_reducible refine State.goodSector_frame ?_ ?_   ?_
    | with_reducible refine State.telDecoded_frame ?_    ?_
    | with_reducible refine State.telAdd_frame ?_    ?_
    | split

theorem execSectorDecode_frame {W : List Part} {R : List Regs} {s : State} {n : ℕ} (hW : ∀ p ∈ ([.drawn, .mireIrq, .chans,
    .stg] : List Part), p ∈ W) (hR : RegsIn (([.fld .SDG_STATUS_RES_IRQ, .fld .SDG_STATUS_PENDING, .arr
    (.SDG_ST_STATUS_RES_OVF 0) 0x400 8, .arr (.SDG_ST_STATUS_RES_CNT 0) 0x400 8, .arr (.SDG_ST_STATUS_PARK_USED 0) 0x400 8,
    .arr (.SDG_ST_STATUS_PENDING_CNT 0) 0x400 8, .arr (.SLU_STG_STATUS_ACTIVE 0) 0x4 8, .arr (.SLU_STG_STATUS_DIR 0) 0x4 8,
    .arr (.SLU_STG_STATUS_RESV 0) 0x4 8, .arr (.SLU_STG_STATUS_READY 0) 0x4 8] : List Regs)) R) :
    OutFrame W R s (execSectorDecode n s) := by
  unfold execSectorDecode
  repeat' first
    | (extract_lets +onlyGivenNames x; refine have_out (x := x) ?_ (fun hx => ?_); (on_goal 2 => (clear_value x; revert x; intro _ _)); (on_goal 1 => (unfold x; clear x)))
    | (extract_lets +onlyGivenNames y; clear_value y; revert y; intro _)
    | exact parts_sub hW rfl
    | with_reducible refine next_frame ?_
    | with_reducible refine ite_out (fun _ => ?_) (fun _ => ?_)
    | with_reducible assumption
    | exact regs_sub hR (by decide +kernel)
    | with_reducible exact Frame.refl _ _ _
    | with_reducible refine ite_frame (fun _ => ?_) (fun _ => ?_)
    | with_reducible refine State.decodeSector_frame ?_ ?_   ?_
    | with_reducible refine State.postResult_frame ?_ ?_   ?_
    | with_reducible refine State.addToSum_frame ?_    ?_
    | with_reducible refine State.updChan_frame ?_    ?_
    | split

theorem execAlignRetry_frame {W : List Part} {R : List Regs} {s : State} {n : ℕ} {slot : ℕ} {before : List Sample} {after :
    List Sample} (hW : ∀ p ∈ ([.drawn, .mireIrq, .chans, .stg] : List Part), p ∈ W) (hR : RegsIn (([.fld .SDG_STATUS_RES_IRQ,
    .fld .SDG_STATUS_PENDING, .arr (.SDG_ST_STATUS_RES_OVF 0) 0x400 8, .arr (.SDG_ST_STATUS_RES_CNT 0) 0x400 8, .arr
    (.SDG_ST_STATUS_PARK_USED 0) 0x400 8, .arr (.SDG_ST_STATUS_PENDING_CNT 0) 0x400 8, .arr (.SLU_STG_STATUS_ACTIVE 0) 0x4 8,
    .arr (.SLU_STG_STATUS_DIR 0) 0x4 8, .arr (.SLU_STG_STATUS_RESV 0) 0x4 8, .arr (.SLU_STG_STATUS_READY 0) 0x4 8] : List
    Regs)) R) :
    OutFrame W R s (execAlignRetry n slot before after s) := by
  unfold execAlignRetry
  repeat' first
    | (extract_lets +onlyGivenNames x; refine have_out (x := x) ?_ (fun hx => ?_); (on_goal 2 => (clear_value x; revert x; intro _ _)); (on_goal 1 => (unfold x; clear x)))
    | (extract_lets +onlyGivenNames y; clear_value y; revert y; intro _)
    | exact parts_sub hW rfl
    | with_reducible refine next_frame ?_
    | with_reducible refine ite_out (fun _ => ?_) (fun _ => ?_)
    | with_reducible assumption
    | exact regs_sub hR (by decide +kernel)
    | with_reducible exact Frame.refl _ _ _
    | with_reducible refine State.postResult_frame ?_ ?_   ?_
    | with_reducible refine State.updChan_frame ?_    ?_
    | with_reducible refine State.goodSector_frame ?_ ?_   ?_
    | with_reducible refine State.telAdd_frame ?_    ?_
    | split

theorem execSectorOverrun_frame {W : List Part} {R : List Regs} {s : State} {n : ℕ} (hW : ∀ p ∈ ([.mireIrq, .fenIrq, .seqs,
    .chans, .stg, .lev, .peat] : List Part), p ∈ W) (hR : RegsIn (alarmRegs ++ haltRegs) R) :
    OutFrame W R s (execSectorOverrun n s) := by
  unfold execSectorOverrun
  repeat' first
    | (extract_lets +onlyGivenNames x; refine have_out (x := x) ?_ (fun hx => ?_); (on_goal 2 => (clear_value x; revert x; intro _ _)); (on_goal 1 => (unfold x; clear x)))
    | (extract_lets +onlyGivenNames y; clear_value y; revert y; intro _)
    | exact parts_sub hW rfl
    | with_reducible refine next_frame ?_
    | with_reducible refine ite_out (fun _ => ?_) (fun _ => ?_)
    | with_reducible assumption
    | exact regs_sub hR (by decide +kernel)
    | with_reducible exact Frame.refl _ _ _
    | with_reducible refine State.when_frame ?_ (fun t ht => ?_)
    | with_reducible refine State.postResult_frame ?_ ?_   ?_
    | with_reducible refine State.raise_frame ?_ ?_   ?_
    | with_reducible refine State.updSeq_frame ?_    ?_

theorem execResultRead_frame {W : List Part} {R : List Regs} {s : State} {who : Who} {n : ℕ} (hW : ∀ p ∈ ([.bus, .mireIrq,
    .fenIrq, .seqs, .chans, .stg, .lev, .peat] : List Part), p ∈ W) (hR : RegsIn (alarmRegs ++ haltRegs ++ ([.arr
    (.SDG_RESULT_X_ERASED 0) 0x400 8, .arr (.SDG_RESULT_X_TIMED 0) 0x400 8, .arr (.SDG_RESULT_X_STEP 0) 0x400 8, .arr
    (.SDG_RESULT_X_OFS 0) 0x400 8] : List Regs)) R) :
    OutFrame W R s (execResultRead who n s) := by
  unfold execResultRead
  repeat' first
    | (extract_lets +onlyGivenNames x; refine have_frame (x := x) ?_ (fun hx => ?_); (on_goal 2 => (clear_value x; revert x; intro _ _)); (on_goal 1 => (unfold x; clear x)))
    | exact parts_sub hW rfl
    | with_reducible refine next_frame ?_
    | with_reducible assumption
    | exact regs_sub hR (by decide +kernel)
    | with_reducible exact Frame.refl _ _ _
    | with_reducible refine State.answer_frame ?_    ?_
    | with_reducible refine State.setIf_frame ?_ ?_
    | with_reducible refine State.updChan_frame ?_    ?_
    | with_reducible refine State.load_frame ?_ ?_  (fun t ht => ?_) ?_
    | with_reducible refine State.set_frame ?_ ?_
    | with_reducible refine State.sdgStatus_frame ?_ ?_   ?_
    | exact cov_arr (f := .SDG_RESULT_X_ERASED 0) (k := 0x400) (m := 8) hR (by decide +kernel) (by decide) rfl
    | exact cov_arr (f := .SDG_RESULT_X_TIMED 0) (k := 0x400) (m := 8) hR (by decide +kernel) (by decide) rfl
    | exact cov_arr (f := .SDG_RESULT_X_STEP 0) (k := 0x400) (m := 8) hR (by decide +kernel) (by decide) rfl
    | exact cov_arr (f := .SDG_RESULT_X_OFS 0) (k := 0x400) (m := 8) hR (by decide +kernel) (by decide) rfl
    | split

theorem execThermalAsperity_frame {W : List Part} {R : List Regs} {s : State} {n : ℕ} {returned : Bool} {bit : ℕ} {level : ℕ}
    {run : ℕ} (hW : ∀ p ∈ ([.chans] : List Part), p ∈ W) (hR : RegsIn (([.arr (.SDG_FE_STATUS_TA_ACTIVE 0) 0x400 8] : List
    Regs)) R) :
    OutFrame W R s (execThermalAsperity n returned bit level run s) := by
  unfold execThermalAsperity
  repeat' first
    | (extract_lets +onlyGivenNames y; clear_value y; revert y; intro _)
    | exact parts_sub hW rfl
    | with_reducible refine next_frame ?_
    | with_reducible refine ite_out (fun _ => ?_) (fun _ => ?_)
    | with_reducible assumption
    | with_reducible exact Frame.refl _ _ _
    | with_reducible refine ite_frame (fun _ => ?_) (fun _ => ?_)
    | with_reducible refine State.when_frame ?_ (fun t ht => ?_)
    | with_reducible refine State.updChan_frame ?_    ?_
    | with_reducible refine State.eraseBits_frame ?_    ?_
    | with_reducible refine State.telAdd_frame ?_    ?_
    | with_reducible refine State.set_frame ?_ ?_
    | exact cov_arr (f := .SDG_FE_STATUS_TA_ACTIVE 0) (k := 0x400) (m := 8) hR (by decide +kernel) (by decide) rfl
    | split

theorem execDropout_frame {W : List Part} {R : List Regs} {s : State} {n : ℕ} {recovered : Bool} {bit : ℕ} {level : ℕ} {run :
    ℕ} (hW : ∀ p ∈ ([.chans] : List Part), p ∈ W) (hR : RegsIn (([.arr (.SDG_FE_STATUS_DO_ACTIVE 0) 0x400 8] : List Regs)) R)
    :
    OutFrame W R s (execDropout n recovered bit level run s) := by
  unfold execDropout
  repeat' first
    | (extract_lets +onlyGivenNames y; clear_value y; revert y; intro _)
    | exact parts_sub hW rfl
    | with_reducible refine next_frame ?_
    | with_reducible refine ite_out (fun _ => ?_) (fun _ => ?_)
    | with_reducible assumption
    | with_reducible exact Frame.refl _ _ _
    | with_reducible refine ite_frame (fun _ => ?_) (fun _ => ?_)
    | with_reducible refine State.when_frame ?_ (fun t ht => ?_)
    | with_reducible refine State.updChan_frame ?_    ?_
    | with_reducible refine State.eraseBits_frame ?_    ?_
    | with_reducible refine State.telAdd_frame ?_    ?_
    | with_reducible refine State.set_frame ?_ ?_
    | exact cov_arr (f := .SDG_FE_STATUS_DO_ACTIVE 0) (k := 0x400) (m := 8) hR (by decide +kernel) (by decide) rfl
    | split

theorem State.rescale_frame {W : List Part} {R : List Regs} {s0 s : State} (hW : ∀ p ∈ ([.chans] : List Part), p ∈ W) (h :
    Frame W R s0 s) :
    Frame W R s0 (State.rescale s) := by
  unfold State.rescale
  repeat' first
    | with_reducible exact h
    | with_reducible assumption
    | with_reducible refine State.forN_frame ?_ (fun i t ht => ?_)
    | with_reducible refine State.updChan_frame ?_    ?_

theorem State.telSnap_frame {W : List Part} {R : List Regs} {s0 s : State} (hR : RegsIn (([.grid (.SDG_TEL_COUNT 0 0) 0x400 8
    0x4 32] : List Regs)) R) (h : Frame W R s0 s) :
    Frame W R s0 (State.telSnap s) := by
  unfold State.telSnap
  repeat' first
    | with_reducible exact h
    | with_reducible assumption
    | with_reducible refine State.forN_frame ?_ (fun i t ht => ?_)
    | with_reducible refine State.set_frame ?_ ?_
    | exact cov_grid (f := .SDG_TEL_COUNT 0 0) (k := 0x400) (m := 8) (u := 0x4) (l := 32) hR (by decide +kernel) (by decide) (by decide) rfl

theorem State.telClear_frame {W : List Part} {R : List Regs} {s0 s : State} (hW : ∀ p ∈ ([.chans] : List Part), p ∈ W) (h :
    Frame W R s0 s) :
    Frame W R s0 (State.telClear s) := by
  unfold State.telClear
  repeat' first
    | with_reducible exact h
    | with_reducible assumption
    | with_reducible refine State.forN_frame ?_ (fun i t ht => ?_)
    | with_reducible refine State.updChan_frame ?_    ?_

theorem execTelSnap_frame {W : List Part} {R : List Regs} {s : State} {clear : Bool} (hW : ∀ p ∈ ([.bus, .chans] : List Part),
    p ∈ W) (hR : RegsIn (([.grid (.SDG_TEL_COUNT 0 0) 0x400 8 0x4 32] : List Regs)) R) :
    OutFrame W R s (execTelSnap clear s) := by
  unfold execTelSnap
  repeat' first
    | exact parts_sub hW rfl
    | with_reducible refine next_frame ?_
    | with_reducible assumption
    | with_reducible exact Frame.refl _ _ _
    | with_reducible refine State.when_frame ?_ (fun t ht => ?_)
    | with_reducible refine State.telSnap_frame  ?_   ?_
    | with_reducible refine State.access_frame ?_   (fun t ht => ?_) ?_
    | with_reducible refine State.telClear_frame ?_    ?_

theorem execTelClear_frame {W : List Part} {R : List Regs} {s : State} (hW : ∀ p ∈ ([.bus, .chans] : List Part), p ∈ W) :
    OutFrame W R s (execTelClear s) := by
  unfold execTelClear
  repeat' first
    | exact parts_sub hW rfl
    | with_reducible refine next_frame ?_
    | with_reducible assumption
    | with_reducible exact Frame.refl _ _ _
    | with_reducible refine State.access_frame ?_   (fun t ht => ?_) ?_
    | with_reducible refine State.telClear_frame ?_    ?_

theorem execCoefWrite_frame {W : List Part} {R : List Regs} {s : State} {n : ℕ} {data : Word} (hW : ∀ p ∈ ([.bus, .chans] :
    List Part), p ∈ W) (hR : RegsIn (([.arr (.SDG_COEF_ADDR_ADDR 0) 0x400 8] : List Regs)) R) :
    OutFrame W R s (execCoefWrite n data s) := by
  unfold execCoefWrite
  repeat' first
    | (extract_lets +onlyGivenNames x; refine have_frame (x := x) ?_ (fun hx => ?_); (on_goal 2 => (clear_value x; revert x; intro _ _)); (on_goal 1 => (unfold x; clear x)))
    | (extract_lets +onlyGivenNames y; clear_value y; revert y; intro _)
    | exact parts_sub hW rfl
    | with_reducible refine next_frame ?_
    | with_reducible assumption
    | with_reducible exact Frame.refl _ _ _
    | with_reducible refine State.when_frame ?_ (fun t ht => ?_)
    | with_reducible refine State.updChan_frame ?_    ?_
    | with_reducible refine State.access_frame ?_   (fun t ht => ?_) ?_
    | with_reducible refine State.inc_frame ?_ ?_
    | exact cov_arr (f := .SDG_COEF_ADDR_ADDR 0) (k := 0x400) (m := 8) hR (by decide +kernel) (by decide) rfl

theorem execCoefRead_frame {W : List Part} {R : List Regs} {s : State} {who : Who} {n : ℕ} (hW : ∀ p ∈ ([.bus, .mireIrq,
    .fenIrq, .seqs, .chans, .stg, .lev, .peat] : List Part), p ∈ W) (hR : RegsIn (alarmRegs ++ haltRegs ++ ([.arr
    (.SDG_COEF_ADDR_ADDR 0) 0x400 8] : List Regs)) R) :
    OutFrame W R s (execCoefRead who n s) := by
  unfold execCoefRead
  repeat' first
    | (extract_lets +onlyGivenNames y; clear_value y; revert y; intro _)
    | exact parts_sub hW rfl
    | with_reducible refine next_frame ?_
    | with_reducible assumption
    | exact regs_sub hR (by decide +kernel)
    | with_reducible exact Frame.refl _ _ _
    | with_reducible refine State.answer_frame ?_    ?_
    | with_reducible refine State.inc_frame ?_ ?_
    | with_reducible refine State.load_frame ?_ ?_  (fun t ht => ?_) ?_
    | exact cov_arr (f := .SDG_COEF_ADDR_ADDR 0) (k := 0x400) (m := 8) hR (by decide +kernel) (by decide) rfl

/-! ### Machine/WritePath.lean -/

theorem State.convertAdvance_frame {W : List Part} {R : List Regs} {s0 s : State} {period : ℕ} (hW : ∀ p ∈ ([.chans] : List
    Part), p ∈ W) (h : Frame W R s0 s) :
    Frame W R s0 (State.convertAdvance s period) := by
  unfold State.convertAdvance
  repeat' first
    | with_reducible exact h
    | with_reducible assumption
    | (extract_lets +onlyGivenNames y; clear_value y; revert y; intro _)
    | with_reducible refine State.forN_frame ?_ (fun i t ht => ?_)
    | with_reducible refine State.updChan_frame ?_    ?_

theorem execVerifyOutcome_frame {W : List Part} {R : List Regs} {s : State} {n : ℕ} {c : Check} (hW : ∀ p ∈ ([.chans] : List
    Part), p ∈ W) :
    OutFrame W R s (execVerifyOutcome n c s) := by
  unfold execVerifyOutcome
  repeat' first
    | exact parts_sub hW rfl
    | with_reducible refine next_frame ?_
    | with_reducible assumption
    | with_reducible exact Frame.refl _ _ _
    | with_reducible refine State.when_frame ?_ (fun t ht => ?_)
    | with_reducible refine State.updChan_frame ?_    ?_

theorem execVfyResultRead_frame {W : List Part} {R : List Regs} {s : State} {who : Who} {n : ℕ} (hW : ∀ p ∈ ([.bus, .mireIrq,
    .fenIrq, .seqs, .chans, .stg, .lev, .peat] : List Part), p ∈ W) (hR : RegsIn (alarmRegs ++ haltRegs) R) :
    OutFrame W R s (execVfyResultRead who n s) := by
  unfold execVfyResultRead
  repeat' first
    | exact parts_sub hW rfl
    | with_reducible refine next_frame ?_
    | with_reducible assumption
    | with_reducible exact Frame.refl _ _ _
    | with_reducible refine ite_frame (fun _ => ?_) (fun _ => ?_)
    | with_reducible refine State.answer_frame ?_    ?_
    | with_reducible refine State.updChan_frame ?_    ?_
    | with_reducible refine State.load_frame ?_ ?_  (fun t ht => ?_) ?_
    | split

theorem State.shockTick_frame {W : List Part} {R : List Regs} {s0 s : State} {vib : List ℤ} (hW : ∀ p ∈ ([.mireIrq, .fenIrq,
    .seqs, .chans, .shockQuiet, .stg, .lev, .peat] : List Part), p ∈ W) (hR : RegsIn (alarmRegs ++ haltRegs ++ ([.fld
    .SDG_WF_STATUS_SHOCK_ACTIVE] : List Regs)) R) (h : Frame W R s0 s) :
    Frame W R s0 (State.shockTick s vib) := by
  unfold State.shockTick
  repeat' first
    | with_reducible exact h
    | with_reducible assumption
    | (extract_lets +onlyGivenNames x; refine have_frame (x := x) ?_ (fun hx => ?_); (on_goal 2 => (clear_value x; revert x; intro _ _)); (on_goal 1 => (unfold x; clear x)))
    | (extract_lets +onlyGivenNames f; have := fun a => f a; clear this; unfold f; clear f)
    | (extract_lets +onlyGivenNames y; clear_value y; revert y; intro _)
    | exact parts_sub hW rfl
    | exact regs_sub hR (by decide +kernel)
    | with_reducible refine ite_frame (fun _ => ?_) (fun _ => ?_)
    | with_reducible refine State.when_frame ?_ (fun t ht => ?_)
    | with_reducible refine State.forN_frame ?_ (fun i t ht => ?_)
    | with_reducible refine State.inhibitDrop_frame ?_ ?_   ?_
    | with_reducible refine State.raise_frame ?_ ?_   ?_
    | with_reducible refine State.set_frame ?_ ?_
    | exact cov_fld hR (by decide +kernel)
    | with_reducible refine upd_shockQuiet ?_ ?_

theorem execShockLift_frame {W : List Part} {R : List Regs} {s : State} (hR : RegsIn (([.fld .SDG_WF_STATUS_SHOCK_ACTIVE] :
    List Regs)) R) :
    OutFrame W R s (execShockLift s) := by
  unfold execShockLift
  repeat' first
    | with_reducible refine next_frame ?_
    | with_reducible assumption
    | with_reducible exact Frame.refl _ _ _
    | with_reducible refine State.when_frame ?_ (fun t ht => ?_)
    | with_reducible refine State.set_frame ?_ ?_
    | exact cov_fld hR (by decide +kernel)

end Sys2Proof.Machine
end

