-- ==== Sys2Proof/Laws/FrameDrive.lean ====
section
/-! SUPPORT. Frames of the drive (Levee, Weir, Recorder, Timebase, Motors, Servo, Seeks, Preamp, ServoRows): what an operation may change, and what a command may change. -/

set_option Elab.async false

namespace Sys2Proof.Machine

/-! ### Machine/Levee.lean -/

theorem State.mireOnly_frame {W : List Part} {R : List Regs} {s0 s : State} {who : Who} {f : State → State} (hW : ∀ p ∈
    ([.bus] : List Part), p ∈ W) (hR : RegsIn (([.fld .LEV_STATUS_WR_DENY] : List Regs)) R) (hf : ∀ t, Frame W R s0 t → Frame
    W R s0 (f t)) (h : Frame W R s0 s) :
    Frame W R s0 (State.mireOnly s who f) := by
  unfold State.mireOnly
  repeat' first
    | with_reducible exact h
    | with_reducible assumption
    | with_reducible refine State.ack_frame ?_    ?_
    | with_reducible refine State.set_frame ?_ ?_
    | exact cov_fld hR (by decide +kernel)
    | with_reducible refine hf _ ?_
    | split

theorem execFaultRecord_frame {W : List Part} {R : List Regs} {s : State} {source : ℕ} {inst : ℕ} {detail : ℕ} (hW : ∀ p ∈
    ([.mireIrq, .fenIrq, .seqs, .chans, .stg, .lev, .peat] : List Part), p ∈ W) (hR : RegsIn (alarmRegs ++ haltRegs) R) :
    OutFrame W R s (execFaultRecord source inst detail s) := by
  unfold execFaultRecord
  repeat' first
    | exact parts_sub hW rfl
    | with_reducible refine next_frame ?_
    | with_reducible assumption
    | with_reducible exact Frame.refl _ _ _
    | with_reducible refine State.when_frame ?_ (fun t ht => ?_)
    | with_reducible refine State.raise_frame ?_ ?_   ?_
    | split

theorem State.trimReact_frame {W : List Part} {R : List Regs} {s0 s : State} {c : ℕ} (hR : RegsIn (([.arr (.LEV_SRC_REACT 0)
    0x4 65536] : List Regs)) R) (h : Frame W R s0 s) :
    Frame W R s0 (State.trimReact s c) := by
  unfold State.trimReact
  repeat' first
    | with_reducible exact h
    | with_reducible assumption
    | (extract_lets +onlyGivenNames y; clear_value y; revert y; intro _)
    | with_reducible refine State.when_frame ?_ (fun t ht => ?_)
    | with_reducible refine State.set_frame ?_ ?_
    | exact cov_arr (f := .LEV_SRC_REACT 0) (k := 0x4) (m := 65536) hR (by decide +kernel) (by decide) rfl

theorem State.heartbeat_frame {W : List Part} {R : List Regs} {s0 s : State} (hW : ∀ p ∈ ([.lev] : List Part), p ∈ W) (hR :
    RegsIn (([.fld .LEV_STATUS_F_LATCHED, .fld .LEV_STATUS_ERROR, .fld .LEV_STATUS_ALIVE_RUN, .fld .LEV_STATUS_WDOG_ARMED] :
    List Regs)) R) (h : Frame W R s0 s) :
    Frame W R s0 (State.heartbeat s) := by
  unfold State.heartbeat
  repeat' first
    | with_reducible exact h
    | with_reducible assumption
    | (extract_lets +onlyGivenNames y; clear_value y; revert y; intro _)
    | exact regs_sub hR (by decide +kernel)
    | with_reducible refine State.levStatus_frame  ?_   ?_
    | with_reducible refine State.set_frame ?_ ?_
    | exact cov_fld hR (by decide +kernel)
    | with_reducible refine upd_lev ?_ ?_

theorem execLevHeartbeat_frame {W : List Part} {R : List Regs} {s : State} {who : Who} (hW : ∀ p ∈ ([.bus, .lev] : List Part),
    p ∈ W) (hR : RegsIn (([.fld .LEV_STATUS_F_LATCHED, .fld .LEV_STATUS_ERROR, .fld .LEV_STATUS_ALIVE_RUN, .fld
    .LEV_STATUS_WR_DENY, .fld .LEV_STATUS_WDOG_ARMED] : List Regs)) R) :
    OutFrame W R s (execLevHeartbeat who s) := by
  unfold execLevHeartbeat
  repeat' first
    | exact parts_sub hW rfl
    | with_reducible refine next_frame ?_
    | with_reducible assumption
    | exact regs_sub hR (by decide +kernel)
    | with_reducible exact Frame.refl _ _ _
    | with_reducible refine State.mireOnly_frame ?_ ?_  (fun t ht => ?_) ?_
    | with_reducible refine State.heartbeat_frame ?_ ?_   ?_

theorem execLevMireWdog_frame {W : List Part} {R : List Regs} {s : State} (hW : ∀ p ∈ ([.mireIrq, .fenIrq, .seqs, .chans,
    .stg, .lev, .peat] : List Part), p ∈ W) (hR : RegsIn (alarmRegs ++ haltRegs) R) :
    OutFrame W R s (execLevMireWdog s) := by
  unfold execLevMireWdog
  repeat' first
    | (extract_lets +onlyGivenNames y; clear_value y; revert y; intro _)
    | exact parts_sub hW rfl
    | with_reducible refine next_frame ?_
    | with_reducible assumption
    | exact regs_sub hR (by decide +kernel)
    | with_reducible exact Frame.refl _ _ _
    | with_reducible refine State.when_frame ?_ (fun t ht => ?_)
    | with_reducible refine State.raise_frame ?_ ?_   ?_
    | with_reducible refine State.levStatus_frame  ?_   ?_
    | with_reducible refine upd_lev ?_ ?_

theorem State.unlatch_frame {W : List Part} {R : List Regs} {s0 s : State} {line : ℕ} (hW : ∀ p ∈ ([.lev] : List Part), p ∈ W)
    (hR : RegsIn (([.arr (.LEV_LATCH_LINE 0) 0x4 7] : List Regs)) R) (h : Frame W R s0 s) :
    Frame W R s0 (State.unlatch s line) := by
  unfold State.unlatch
  repeat' first
    | with_reducible exact h
    | with_reducible assumption
    | (extract_lets +onlyGivenNames y; clear_value y; revert y; intro _)
    | with_reducible refine State.set_frame ?_ ?_
    | exact cov_arr (f := .LEV_LATCH_LINE 0) (k := 0x4) (m := 7) hR (by decide +kernel) (by decide) rfl
    | with_reducible refine upd_lev ?_ ?_

theorem State.clearLines_frame {W : List Part} {R : List Regs} {s0 s : State} {first : ℕ} {k : ℕ} (hW : ∀ p ∈ ([.lev] : List
    Part), p ∈ W) (hR : RegsIn (([.fld .LEV_STATUS_F_LATCHED, .fld .LEV_STATUS_ERROR, .fld .LEV_STATUS_ALIVE_RUN, .arr
    (.LEV_LATCH_LINE 0) 0x4 7] : List Regs)) R) (h : Frame W R s0 s) :
    Frame W R s0 (State.clearLines s first k) := by
  unfold State.clearLines
  repeat' first
    | with_reducible exact h
    | with_reducible assumption
    | exact regs_sub hR (by decide +kernel)
    | with_reducible refine State.when_frame ?_ (fun t ht => ?_)
    | with_reducible refine State.forN_frame ?_ (fun i t ht => ?_)
    | with_reducible refine State.levStatus_frame  ?_   ?_
    | with_reducible refine State.unlatch_frame ?_ ?_   ?_
    | split

theorem State.levClear_frame {W : List Part} {R : List Regs} {s0 s : State} {all : Bool} {source : ℕ} {inst : ℕ} (hW : ∀ p ∈
    ([.lev] : List Part), p ∈ W) (hR : RegsIn (([.fld .LEV_STATUS_F_LATCHED, .fld .LEV_STATUS_ERROR, .fld
    .LEV_STATUS_ALIVE_RUN, .arr (.LEV_LATCH_LINE 0) 0x4 7] : List Regs)) R) (h : Frame W R s0 s) :
    Frame W R s0 (State.levClear s all source inst) := by
  unfold State.levClear
  repeat' first
    | with_reducible exact h
    | with_reducible assumption
    | with_reducible refine ite_frame (fun _ => ?_) (fun _ => ?_)
    | with_reducible refine State.clearLines_frame ?_ ?_   ?_
    | split

theorem execLevClr_frame {W : List Part} {R : List Regs} {s : State} {who : Who} {all : Bool} {source : ℕ} {inst : ℕ} (hW : ∀
    p ∈ ([.bus, .lev] : List Part), p ∈ W) (hR : RegsIn (([.fld .LEV_STATUS_F_LATCHED, .fld .LEV_STATUS_ERROR, .fld
    .LEV_STATUS_ALIVE_RUN, .arr (.LEV_LATCH_LINE 0) 0x4 7, .fld .LEV_STATUS_WR_DENY] : List Regs)) R) :
    OutFrame W R s (execLevClr who all source inst s) := by
  unfold execLevClr
  repeat' first
    | exact parts_sub hW rfl
    | with_reducible refine next_frame ?_
    | with_reducible assumption
    | exact regs_sub hR (by decide +kernel)
    | with_reducible exact Frame.refl _ _ _
    | with_reducible refine State.mireOnly_frame ?_ ?_  (fun t ht => ?_) ?_
    | with_reducible refine State.levClear_frame ?_ ?_   ?_

theorem State.levInject_frame {W : List Part} {R : List Regs} {s0 s : State} {source : ℕ} {inst : ℕ} {count : ℕ} (hW : ∀ p ∈
    ([.mireIrq, .fenIrq, .seqs, .chans, .stg, .lev, .peat] : List Part), p ∈ W) (hR : RegsIn (alarmRegs ++ haltRegs ++ ([.fld
    .LEV_STATUS_WR_DENY] : List Regs)) R) (h : Frame W R s0 s) :
    Frame W R s0 (State.levInject s source inst count) := by
  unfold State.levInject
  repeat' first
    | with_reducible exact h
    | with_reducible assumption
    | (extract_lets +onlyGivenNames x; refine have_frame (x := x) ?_ (fun hx => ?_); (on_goal 2 => (clear_value x; revert x; intro _ _)); (on_goal 1 => (unfold x; clear x)))
    | (extract_lets +onlyGivenNames y; clear_value y; revert y; intro _)
    | exact parts_sub hW rfl
    | exact regs_sub hR (by decide +kernel)
    | with_reducible refine ite_frame (fun _ => ?_) (fun _ => ?_)
    | with_reducible refine State.recordLine_frame ?_ ?_   ?_
    | with_reducible refine State.relieve_frame ?_ ?_   ?_
    | with_reducible refine State.set_frame ?_ ?_
    | exact cov_fld hR (by decide +kernel)
    | split
    | with_reducible refine upd_lev ?_ ?_

theorem execLevInj_frame {W : List Part} {R : List Regs} {s : State} {who : Who} {source : ℕ} {inst : ℕ} {count : ℕ} (hW : ∀ p
    ∈ ([.bus, .mireIrq, .fenIrq, .seqs, .chans, .stg, .lev, .peat] : List Part), p ∈ W) (hR : RegsIn (alarmRegs ++ haltRegs ++
    ([.fld .LEV_STATUS_WR_DENY] : List Regs)) R) :
    OutFrame W R s (execLevInj who source inst count s) := by
  unfold execLevInj
  repeat' first
    | exact parts_sub hW rfl
    | with_reducible refine next_frame ?_
    | with_reducible assumption
    | exact regs_sub hR (by decide +kernel)
    | with_reducible exact Frame.refl _ _ _
    | with_reducible refine State.mireOnly_frame ?_ ?_  (fun t ht => ?_) ?_
    | with_reducible refine State.levInject_frame ?_ ?_   ?_

theorem execInjectAssert_frame {W : List Part} {R : List Regs} {s : State} (hW : ∀ p ∈ ([.mireIrq, .fenIrq, .seqs, .chans,
    .stg, .lev, .peat] : List Part), p ∈ W) (hR : RegsIn (alarmRegs ++ haltRegs) R) :
    OutFrame W R s (execInjectAssert s) := by
  unfold execInjectAssert
  repeat' first
    | (extract_lets +onlyGivenNames x; refine have_out (x := x) ?_ (fun hx => ?_); (on_goal 2 => (clear_value x; revert x; intro _ _)); (on_goal 1 => (unfold x; clear x)))
    | (extract_lets +onlyGivenNames y; clear_value y; revert y; intro _)
    | exact parts_sub hW rfl
    | with_reducible refine next_frame ?_
    | with_reducible assumption
    | exact regs_sub hR (by decide +kernel)
    | with_reducible exact Frame.refl _ _ _
    | with_reducible refine State.recordLine_frame ?_ ?_   ?_
    | with_reducible refine State.relieve_frame ?_ ?_   ?_
    | split
    | with_reducible refine upd_lev ?_ ?_

theorem execLevResetWarm_frame {W : List Part} {R : List Regs} {s : State} {who : Who} (hW : ∀ p ∈ ([.bus, .lev] : List Part),
    p ∈ W) (hR : RegsIn (([.fld .LEV_STATUS_WR_DENY] : List Regs)) R) :
    OutFrame W R s (execLevResetWarm who s) := by
  unfold execLevResetWarm
  repeat' first
    | exact parts_sub hW rfl
    | with_reducible refine next_frame ?_
    | with_reducible assumption
    | with_reducible exact Frame.refl _ _ _
    | with_reducible refine State.mireOnly_frame ?_ ?_  (fun t ht => ?_) ?_
    | with_reducible refine State.requestReset_frame ?_    ?_

theorem execAliveToggle_frame {W : List Part} {R : List Regs} {s : State} (hW : ∀ p ∈ ([.lev] : List Part), p ∈ W) :
    OutFrame W R s (execAliveToggle s) := by
  unfold execAliveToggle
  repeat' first
    | (extract_lets +onlyGivenNames y; clear_value y; revert y; intro _)
    | exact parts_sub hW rfl
    | with_reducible refine next_frame ?_
    | with_reducible assumption
    | with_reducible exact Frame.refl _ _ _
    | with_reducible refine State.when_frame ?_ (fun t ht => ?_)
    | with_reducible refine upd_lev ?_ ?_

/-! ### Machine/Weir.lean -/

theorem State.weirFault_frame {W : List Part} {R : List Regs} {s0 s : State} {k : ℕ} (hW : ∀ p ∈ ([.mireIrq, .fenIrq, .seqs,
    .chans, .stg, .lev, .peat] : List Part), p ∈ W) (hR : RegsIn (alarmRegs ++ haltRegs ++ ([.fld .WEIR_FAULT_SRC] : List
    Regs)) R) (h : Frame W R s0 s) :
    Frame W R s0 (State.weirFault s k) := by
  unfold State.weirFault
  repeat' first
    | with_reducible exact h
    | with_reducible assumption
    | exact regs_sub hR (by decide +kernel)
    | with_reducible refine State.set_frame ?_ ?_
    | with_reducible refine State.raise_frame ?_ ?_   ?_
    | exact cov_fld hR (by decide +kernel)

theorem State.measureV12_frame {W : List Part} {R : List Regs} {s0 s : State} {mv : ℕ} (hW : ∀ p ∈ ([.weir] : List Part), p ∈
    W) (hR : RegsIn (([.fld .WEIR_MEAS_V12_MV, .fld .WEIR_MIN_V12_MV] : List Regs)) R) (h : Frame W R s0 s) :
    Frame W R s0 (State.measureV12 s mv) := by
  unfold State.measureV12
  repeat' first
    | with_reducible exact h
    | with_reducible assumption
    | (extract_lets +onlyGivenNames x; refine have_frame (x := x) ?_ (fun hx => ?_); (on_goal 2 => (clear_value x; revert x; intro _ _)); (on_goal 1 => (unfold x; clear x)))
    | (extract_lets +onlyGivenNames y; clear_value y; revert y; intro _)
    | with_reducible refine State.set_frame ?_ ?_
    | exact cov_fld hR (by decide +kernel)
    | with_reducible refine upd_weir ?_ ?_

theorem execWarnArm_frame {W : List Part} {R : List Regs} {s : State} {commit : Bool} (hR : RegsIn (([.fld
    .WEIR_STATUS_WARN_ARMED, .fld .WEIR_STATUS_COMMIT_ARMED] : List Regs)) R) :
    OutFrame W R s (execWarnArm commit s) := by
  unfold execWarnArm
  repeat' first
    | with_reducible refine next_frame ?_
    | with_reducible refine ite_out (fun _ => ?_) (fun _ => ?_)
    | with_reducible assumption
    | with_reducible exact Frame.refl _ _ _
    | with_reducible refine State.when_frame ?_ (fun t ht => ?_)
    | with_reducible refine State.set_frame ?_ ?_
    | exact cov_fld hR (by decide +kernel)

theorem State.openWindow_frame {W : List Part} {R : List Regs} {s0 s : State} (hW : ∀ p ∈ ([.mireIrq, .weir] : List Part), p ∈
    W) (hR : RegsIn (([.fld .STH_STATUS_PF_HOLD, .fld .SLU_SCRB_STATUS_BUSY, .fld .SLU_SCRB_STATUS_STOPPED, .fld
    .WEIR_STATUS_PF, .fld .WEIR_STATUS_WARN_ARMED, .fld .WEIR_STATUS_PF_MS, .fld .WEIR_AON_STATUS_WARM_PF] : List Regs)) R) (h
    : Frame W R s0 s) :
    Frame W R s0 (State.openWindow s) := by
  unfold State.openWindow
  repeat' first
    | with_reducible exact h
    | with_reducible assumption
    | (extract_lets +onlyGivenNames x; refine have_frame (x := x) ?_ (fun hx => ?_); (on_goal 2 => (clear_value x; revert x; intro _ _)); (on_goal 1 => (unfold x; clear x)))
    | (extract_lets +onlyGivenNames y; clear_value y; revert y; intro _)
    | exact parts_sub hW rfl
    | with_reducible refine State.when_frame ?_ (fun t ht => ?_)
    | with_reducible refine State.irqMire_frame ?_    ?_
    | with_reducible refine State.set_frame ?_ ?_
    | exact cov_fld hR (by decide +kernel)
    | with_reducible refine upd_weir ?_ ?_

theorem execPowerFailWarning_frame {W : List Part} {R : List Regs} {s : State} {mv : ℕ} (hW : ∀ p ∈ ([.mireIrq, .weir] : List
    Part), p ∈ W) (hR : RegsIn (([.fld .STH_STATUS_PF_HOLD, .fld .SLU_SCRB_STATUS_BUSY, .fld .SLU_SCRB_STATUS_STOPPED, .fld
    .WEIR_STATUS_PF, .fld .WEIR_STATUS_WARN_ARMED, .fld .WEIR_STATUS_PF_MS, .fld .WEIR_MEAS_V12_MV, .fld .WEIR_MIN_V12_MV,
    .fld .WEIR_AON_STATUS_WARM_PF] : List Regs)) R) :
    OutFrame W R s (execPowerFailWarning mv s) := by
  unfold execPowerFailWarning
  repeat' first
    | (extract_lets +onlyGivenNames x; refine have_out (x := x) ?_ (fun hx => ?_); (on_goal 2 => (clear_value x; revert x; intro _ _)); (on_goal 1 => (unfold x; clear x)))
    | exact parts_sub hW rfl
    | with_reducible refine next_frame ?_
    | with_reducible assumption
    | exact regs_sub hR (by decide +kernel)
    | with_reducible exact Frame.refl _ _ _
    | with_reducible refine State.when_frame ?_ (fun t ht => ?_)
    | with_reducible refine State.measureV12_frame ?_ ?_   ?_
    | with_reducible refine State.openWindow_frame ?_ ?_   ?_

theorem execPfCancel_frame {W : List Part} {R : List Regs} {s : State} {mv : ℕ} (hW : ∀ p ∈ ([.mireIrq, .fenIrq, .seqs,
    .chans, .stg, .lev, .peat, .weir, .aq] : List Part), p ∈ W) (hR : RegsIn (alarmRegs ++ haltRegs ++ ([.fld
    .STH_STATUS_PF_HOLD, .fld .WEIR_STATUS_PF, .fld .WEIR_STATUS_WARN_ARMED, .fld .WEIR_MEAS_V12_MV, .fld .WEIR_MIN_V12_MV,
    .fld .WEIR_FAULT_SRC, .fld .WEIR_AON_STATUS_WARM_PF, .fld .WEIR_AON_STATUS_LAST_MIN, .fld .WEIR_AON_CNT_DIPS] : List
    Regs)) R) :
    OutFrame W R s (execPfCancel mv s) := by
  unfold execPfCancel
  repeat' first
    | (extract_lets +onlyGivenNames x; refine have_out (x := x) ?_ (fun hx => ?_); (on_goal 2 => (clear_value x; revert x; intro _ _)); (on_goal 1 => (unfold x; clear x)))
    | (extract_lets +onlyGivenNames y; clear_value y; revert y; intro _)
    | exact parts_sub hW rfl
    | with_reducible refine next_frame ?_
    | with_reducible refine ite_out (fun _ => ?_) (fun _ => ?_)
    | with_reducible assumption
    | exact regs_sub hR (by decide +kernel)
    | with_reducible exact Frame.refl _ _ _
    | with_reducible refine State.when_frame ?_ (fun t ht => ?_)
    | with_reducible refine State.incSat_frame ?_ ?_
    | with_reducible refine State.peatRecord_frame ?_ ?_   ?_
    | with_reducible refine State.measureV12_frame ?_ ?_   ?_
    | with_reducible refine State.weirFault_frame ?_ ?_   ?_
    | with_reducible refine State.set_frame ?_ ?_
    | exact cov_fld hR (by decide +kernel)
    | with_reducible refine upd_aq ?_ ?_

theorem execIsoDiodeOff_frame {W : List Part} {R : List Regs} {s : State} {v12 : ℕ} {vhb : ℕ} (hW : ∀ p ∈ ([.weir] : List
    Part), p ∈ W) (hR : RegsIn (([.fld .WEIR_STATUS_ISO_OFF, .fld .WEIR_MEAS_V12_MV, .fld .WEIR_MEAS_VHB_MV, .fld
    .WEIR_MIN_V12_MV] : List Regs)) R) :
    OutFrame W R s (execIsoDiodeOff v12 vhb s) := by
  unfold execIsoDiodeOff
  repeat' first
    | (extract_lets +onlyGivenNames x; refine have_out (x := x) ?_ (fun hx => ?_); (on_goal 2 => (clear_value x; revert x; intro _ _)); (on_goal 1 => (unfold x; clear x)))
    | exact parts_sub hW rfl
    | with_reducible refine next_frame ?_
    | with_reducible assumption
    | exact regs_sub hR (by decide +kernel)
    | with_reducible exact Frame.refl _ _ _
    | with_reducible refine ite_frame (fun _ => ?_) (fun _ => ?_)
    | with_reducible refine State.when_frame ?_ (fun t ht => ?_)
    | with_reducible refine State.measureV12_frame ?_ ?_   ?_
    | with_reducible refine State.set_frame ?_ ?_
    | exact cov_fld hR (by decide +kernel)

theorem execChopOn_frame {W : List Part} {R : List Regs} {s : State} {vhb : ℕ} (hR : RegsIn (([.fld .WEIR_STATUS_CHOP_ON, .fld
    .WEIR_MEAS_VHB_MV, .fld .WEIR_CHOP_ON_CNT] : List Regs)) R) :
    OutFrame W R s (execChopOn vhb s) := by
  unfold execChopOn
  repeat' first
    | (extract_lets +onlyGivenNames x; refine have_out (x := x) ?_ (fun hx => ?_); (on_goal 2 => (clear_value x; revert x; intro _ _)); (on_goal 1 => (unfold x; clear x)))
    | with_reducible refine next_frame ?_
    | with_reducible assumption
    | with_reducible exact Frame.refl _ _ _
    | with_reducible refine ite_frame (fun _ => ?_) (fun _ => ?_)
    | with_reducible refine State.set_frame ?_ ?_
    | with_reducible refine State.incSat_frame ?_ ?_
    | exact cov_fld hR (by decide +kernel)

theorem execChopTest_frame {W : List Part} {R : List Regs} {s : State} {vhb : ℕ} {current : ℕ} (hW : ∀ p ∈ ([.mireIrq,
    .fenIrq, .seqs, .chans, .stg, .lev, .peat, .weir] : List Part), p ∈ W) (hR : RegsIn (alarmRegs ++ haltRegs ++ ([.fld
    .WEIR_STATUS_CHOP_FAULT, .fld .WEIR_STATUS_CHOP_TESTED, .fld .WEIR_MEAS_VHB_MV, .fld .WEIR_CHOP_IPK, .fld
    .WEIR_CHOP_ON_CNT, .fld .WEIR_FAULT_SRC] : List Regs)) R) :
    OutFrame W R s (execChopTest vhb current s) := by
  unfold execChopTest
  repeat' first
    | (extract_lets +onlyGivenNames x; refine have_out (x := x) ?_ (fun hx => ?_); (on_goal 2 => (clear_value x; revert x; intro _ _)); (on_goal 1 => (unfold x; clear x)))
    | (extract_lets +onlyGivenNames y; clear_value y; revert y; intro _)
    | exact parts_sub hW rfl
    | with_reducible refine next_frame ?_
    | with_reducible refine ite_out (fun _ => ?_) (fun _ => ?_)
    | with_reducible assumption
    | exact regs_sub hR (by decide +kernel)
    | with_reducible exact Frame.refl _ _ _
    | with_reducible refine State.weirFault_frame ?_ ?_   ?_
    | with_reducible refine State.incSat_frame ?_ ?_
    | with_reducible refine State.set_frame ?_ ?_
    | exact cov_fld hR (by decide +kernel)
    | with_reducible refine upd_weir ?_ ?_

theorem execWeirChopOpen_frame {W : List Part} {R : List Regs} {s : State} (hW : ∀ p ∈ ([.mireIrq, .fenIrq, .seqs, .chans,
    .stg, .lev, .peat] : List Part), p ∈ W) (hR : RegsIn (alarmRegs ++ haltRegs ++ ([.fld .WEIR_STATUS_CHOP_FAULT, .fld
    .WEIR_FAULT_SRC] : List Regs)) R) :
    OutFrame W R s (execWeirChopOpen s) := by
  unfold execWeirChopOpen
  repeat' first
    | exact parts_sub hW rfl
    | with_reducible refine next_frame ?_
    | with_reducible assumption
    | exact regs_sub hR (by decide +kernel)
    | with_reducible exact Frame.refl _ _ _
    | with_reducible refine State.when_frame ?_ (fun t ht => ?_)
    | with_reducible refine State.weirFault_frame ?_ ?_   ?_
    | with_reducible refine State.set_frame ?_ ?_
    | exact cov_fld hR (by decide +kernel)

theorem execWeirChopShort_frame {W : List Part} {R : List Regs} {s : State} {current : ℕ} (hW : ∀ p ∈ ([.mireIrq, .fenIrq,
    .seqs, .chans, .stg, .lev, .peat] : List Part), p ∈ W) (hR : RegsIn (alarmRegs ++ haltRegs ++ ([.fld .WEIR_CHOP_IPK, .fld
    .WEIR_FAULT_SRC] : List Regs)) R) :
    OutFrame W R s (execWeirChopShort current s) := by
  unfold execWeirChopShort
  repeat' first
    | exact parts_sub hW rfl
    | with_reducible refine next_frame ?_
    | with_reducible assumption
    | exact regs_sub hR (by decide +kernel)
    | with_reducible exact Frame.refl _ _ _
    | with_reducible refine State.when_frame ?_ (fun t ht => ?_)
    | with_reducible refine State.weirFault_frame ?_ ?_   ?_
    | with_reducible refine State.set_frame ?_ ?_
    | exact cov_fld hR (by decide +kernel)

theorem execWeirOvBus_frame {W : List Part} {R : List Regs} {s : State} {vhb : ℕ} (hW : ∀ p ∈ ([.mireIrq, .fenIrq, .seqs,
    .chans, .stg, .lev, .peat] : List Part), p ∈ W) (hR : RegsIn (alarmRegs ++ haltRegs ++ ([.fld .WEIR_STATUS_CHOP_ON, .fld
    .WEIR_MEAS_VHB_MV, .fld .WEIR_CHOP_ON_CNT, .fld .WEIR_FAULT_SRC] : List Regs)) R) :
    OutFrame W R s (execWeirOvBus vhb s) := by
  unfold execWeirOvBus
  repeat' first
    | (extract_lets +onlyGivenNames x; refine have_out (x := x) ?_ (fun hx => ?_); (on_goal 2 => (clear_value x; revert x; intro _ _)); (on_goal 1 => (unfold x; clear x)))
    | exact parts_sub hW rfl
    | with_reducible refine next_frame ?_
    | with_reducible assumption
    | exact regs_sub hR (by decide +kernel)
    | with_reducible exact Frame.refl _ _ _
    | with_reducible refine State.when_frame ?_ (fun t ht => ?_)
    | with_reducible refine State.weirFault_frame ?_ ?_   ?_
    | with_reducible refine State.set_frame ?_ ?_
    | with_reducible refine State.incSat_frame ?_ ?_
    | exact cov_fld hR (by decide +kernel)

theorem execWeirV5Low_frame {W : List Part} {R : List Regs} {s : State} {mv : ℕ} (hW : ∀ p ∈ ([.mireIrq, .fenIrq, .seqs,
    .chans, .stg, .lev, .peat] : List Part), p ∈ W) (hR : RegsIn (alarmRegs ++ haltRegs ++ ([.fld .WEIR_MEAS_V5_MV, .fld
    .WEIR_FAULT_SRC] : List Regs)) R) :
    OutFrame W R s (execWeirV5Low mv s) := by
  unfold execWeirV5Low
  repeat' first
    | exact parts_sub hW rfl
    | with_reducible refine next_frame ?_
    | exact regs_sub hR (by decide +kernel)
    | with_reducible exact Frame.refl _ _ _
    | with_reducible refine State.weirFault_frame ?_ ?_   ?_
    | with_reducible refine State.set_frame ?_ ?_
    | exact cov_fld hR (by decide +kernel)

theorem execWeirMinV12Read_frame {W : List Part} {R : List Regs} {s : State} {y0 : Who} (hW : ∀ p ∈ ([.bus] : List Part), p ∈
    W) (hR : RegsIn (([.fld .WEIR_MIN_V12_MV] : List Regs)) R) :
    OutFrame W R s (execWeirMinV12Read y0 s) := by
  unfold execWeirMinV12Read
  repeat' first
    | exact parts_sub hW rfl
    | with_reducible refine next_frame ?_
    | with_reducible exact Frame.refl _ _ _
    | with_reducible refine State.answer_frame ?_    ?_
    | with_reducible refine State.set_frame ?_ ?_
    | exact cov_fld hR (by decide +kernel)

/-! ### Machine/Recorder.lean -/

theorem State.areaStatus_frame {W : List Part} {R : List Regs} {s0 s : State} {a : ℕ} (hR : RegsIn (([.arr
    (.PEAT_AREA_REC_COUNT 0) 0x4 10, .arr (.PEAT_AREA_BYTES_BYTES 0) 0x4 10] : List Regs)) R) (h : Frame W R s0 s) :
    Frame W R s0 (State.areaStatus s a) := by
  unfold State.areaStatus
  repeat' first
    | with_reducible exact h
    | (extract_lets +onlyGivenNames y; clear_value y; revert y; intro _)
    | with_reducible refine State.set_frame ?_ ?_
    | exact cov_arr (f := .PEAT_AREA_REC_COUNT 0) (k := 0x4) (m := 10) hR (by decide +kernel) (by decide) rfl
    | exact cov_arr (f := .PEAT_AREA_BYTES_BYTES 0) (k := 0x4) (m := 10) hR (by decide +kernel) (by decide) rfl

theorem State.chainRecord_frame {W : List Part} {R : List Regs} {s0 s : State} {a : ℕ} (hW : ∀ p ∈ ([.peat] : List Part), p ∈
    W) (h : Frame W R s0 s) :
    OptFrame W R s0 (State.chainRecord s a) := by
  unfold State.chainRecord
  repeat' first
    | (extract_lets +onlyGivenNames y; clear_value y; revert y; intro _)
    | exact parts_sub hW rfl
    | with_reducible refine some_frame ?_
    | with_reducible refine map_frame (fun x => ?_)
    | with_reducible exact h
    | split
    | with_reducible refine upd_peat ?_ ?_

theorem State.flushOne_frame {W : List Part} {R : List Regs} {s0 s : State} {a : ℕ} {i : ℕ} (hW : ∀ p ∈ ([.peat] : List Part),
    p ∈ W) (hR : RegsIn (([.fld .PEAT_MRSETS_COUNT] : List Regs)) R) (h : Frame W R s0 s) :
    Frame W R s0 (State.flushOne s a i) := by
  unfold State.flushOne
  repeat' first
    | with_reducible exact h
    | with_reducible assumption
    | (extract_lets +onlyGivenNames x; refine have_frame (x := x) ?_ (fun hx => ?_); (on_goal 2 => (clear_value x; revert x; intro _ _)); (on_goal 1 => (unfold x; clear x)))
    | (extract_lets +onlyGivenNames y; clear_value y; revert y; intro _)
    | with_reducible refine ite_frame (fun _ => ?_) (fun _ => ?_)
    | with_reducible refine State.set_frame ?_ ?_
    | exact cov_fld hR (by decide +kernel)
    | split
    | with_reducible refine upd_peat ?_ ?_

theorem State.flushArea_frame {W : List Part} {R : List Regs} {s0 s : State} {a : ℕ} (hW : ∀ p ∈ ([.peat] : List Part), p ∈ W)
    (hR : RegsIn (([.arr (.PEAT_AREA_REC_COUNT 0) 0x4 10, .arr (.PEAT_AREA_BYTES_BYTES 0) 0x4 10, .fld .PEAT_MRSETS_COUNT] :
    List Regs)) R) (h : Frame W R s0 s) :
    Frame W R s0 (State.flushArea s a) := by
  unfold State.flushArea
  repeat' first
    | with_reducible exact h
    | with_reducible assumption
    | exact regs_sub hR (by decide +kernel)
    | with_reducible refine State.forN_frame ?_ (fun i t ht => ?_)
    | with_reducible refine State.flushOne_frame ?_ ?_   ?_
    | with_reducible refine State.chainRecord_frame ?_    ?_
    | with_reducible refine getD_frame ?_ ?_
    | with_reducible refine State.areaStatus_frame  ?_   ?_

theorem State.freeze_frame {W : List Part} {R : List Regs} {s0 s : State} {a : ℕ} (hW : ∀ p ∈ ([.peat] : List Part), p ∈ W)
    (hR : RegsIn (([.fld .PEAT_STATUS_STAMP_WAIT, .fld .PEAT_STATUS_HELD, .fld .PEAT_STATUS_USED, .fld .PEAT_FRZ_AREA] : List
    Regs)) R) (h : Frame W R s0 s) :
    Frame W R s0 (State.freeze s a) := by
  unfold State.freeze
  repeat' first
    | with_reducible exact h
    | with_reducible assumption
    | (extract_lets +onlyGivenNames y; clear_value y; revert y; intro _)
    | exact regs_sub hR (by decide +kernel)
    | with_reducible refine ite_frame (fun _ => ?_) (fun _ => ?_)
    | with_reducible refine State.peatStatus_frame  ?_   ?_
    | with_reducible refine State.set_frame ?_ ?_
    | exact cov_fld hR (by decide +kernel)
    | with_reducible refine upd_peat ?_ ?_

theorem State.saveCounters_frame {W : List Part} {R : List Regs} {s0 s : State} {opt : ℕ} {pcc : ℕ} (hW : ∀ p ∈ ([.peat] :
    List Part), p ∈ W) (h : Frame W R s0 s) :
    Frame W R s0 (State.saveCounters s opt pcc) := by
  unfold State.saveCounters
  repeat' first
    | with_reducible exact h
    | with_reducible assumption
    | (extract_lets +onlyGivenNames y; clear_value y; revert y; intro _)
    | with_reducible refine upd_peat ?_ ?_

theorem State.lockPcc_frame {W : List Part} {R : List Regs} {s0 s : State} {count : ℕ} (hW : ∀ p ∈ ([.peat] : List Part), p ∈
    W) (hR : RegsIn (([.fld .PEAT_PCC_COUNT] : List Regs)) R) (h : Frame W R s0 s) :
    Frame W R s0 (State.lockPcc s count) := by
  unfold State.lockPcc
  repeat' first
    | with_reducible exact h
    | with_reducible assumption
    | (extract_lets +onlyGivenNames x; refine have_frame (x := x) ?_ (fun hx => ?_); (on_goal 2 => (clear_value x; revert x; intro _ _)); (on_goal 1 => (unfold x; clear x)))
    | (extract_lets +onlyGivenNames y; clear_value y; revert y; intro _)
    | with_reducible refine State.set_frame ?_ ?_
    | with_reducible refine State.saveCounters_frame ?_    ?_
    | exact cov_fld hR (by decide +kernel)
    | with_reducible refine upd_peat ?_ ?_

theorem State.endFlush_frame {W : List Part} {R : List Regs} {s0 s : State} (hW : ∀ p ∈ ([.peat] : List Part), p ∈ W) (hR :
    RegsIn (([.fld .PEAT_STATUS_FLUSHING, .fld .PEAT_STATUS_STAMP_WAIT, .fld .PEAT_STATUS_HELD, .fld .PEAT_STATUS_USED, .fld
    .PEAT_FRZ_AREA, .arr (.PEAT_AREA_REC_COUNT 0) 0x4 10, .arr (.PEAT_AREA_BYTES_BYTES 0) 0x4 10, .fld .PEAT_MRSETS_COUNT] :
    List Regs)) R) (h : Frame W R s0 s) :
    Frame W R s0 (State.endFlush s) := by
  unfold State.endFlush
  repeat' first
    | with_reducible exact h
    | with_reducible assumption
    | (extract_lets +onlyGivenNames x; refine have_frame (x := x) ?_ (fun hx => ?_); (on_goal 2 => (clear_value x; revert x; intro _ _)); (on_goal 1 => (unfold x; clear x)))
    | (extract_lets +onlyGivenNames y; clear_value y; revert y; intro _)
    | exact regs_sub hR (by decide +kernel)
    | with_reducible refine State.when_frame ?_ (fun t ht => ?_)
    | with_reducible refine State.forN_frame ?_ (fun i t ht => ?_)
    | with_reducible refine foldl_frame ?_ (fun t x ht => ?_)
    | with_reducible refine State.flushArea_frame ?_ ?_   ?_
    | with_reducible refine State.startFlush_frame ?_ ?_   ?_
    | with_reducible refine State.freeze_frame ?_ ?_   ?_
    | with_reducible refine State.peatStatus_frame  ?_   ?_
    | with_reducible refine State.set_frame ?_ ?_
    | with_reducible refine State.saveCounters_frame ?_    ?_
    | exact cov_fld hR (by decide +kernel)
    | with_reducible refine upd_peat ?_ ?_

theorem State.stampStaged_frame {W : List Part} {R : List Regs} {s0 s : State} (hW : ∀ p ∈ ([.peat] : List Part), p ∈ W) (hR :
    RegsIn (([.fld .PEAT_STATUS_FLUSHING, .fld .PEAT_STATUS_STAMP_WAIT, .fld .PEAT_STATUS_HELD, .fld .PEAT_STATUS_USED] : List
    Regs)) R) (h : Frame W R s0 s) :
    Frame W R s0 (State.stampStaged s) := by
  unfold State.stampStaged
  repeat' first
    | with_reducible exact h
    | with_reducible assumption
    | (extract_lets +onlyGivenNames x; refine have_frame (x := x) ?_ (fun hx => ?_); (on_goal 2 => (clear_value x; revert x; intro _ _)); (on_goal 1 => (unfold x; clear x)))
    | (extract_lets +onlyGivenNames f; have := fun a => f a; clear this; unfold f; clear f)
    | (extract_lets +onlyGivenNames y; clear_value y; revert y; intro _)
    | exact regs_sub hR (by decide +kernel)
    | with_reducible refine ite_frame (fun _ => ?_) (fun _ => ?_)
    | with_reducible refine State.when_frame ?_ (fun t ht => ?_)
    | with_reducible refine State.startFlush_frame ?_ ?_   ?_
    | with_reducible refine State.peatStatus_frame  ?_   ?_
    | with_reducible refine upd_peat ?_ ?_

theorem State.clearArea_frame {W : List Part} {R : List Regs} {s0 s : State} {a : ℕ} {signed : List Byte} (hW : ∀ p ∈ ([.peat]
    : List Part), p ∈ W) (hR : RegsIn (([.fld .PEAT_STATUS_STAMP_WAIT, .fld .PEAT_STATUS_HELD, .fld .PEAT_STATUS_USED, .fld
    .PEAT_FRZ_AREA, .arr (.PEAT_RSEQ_NEXT 0) 0x4 5, .arr (.PEAT_AREA_REC_COUNT 0) 0x4 10, .arr (.PEAT_AREA_BYTES_BYTES 0) 0x4
    10] : List Regs)) R) (h : Frame W R s0 s) :
    Frame W R s0 (State.clearArea s a signed) := by
  unfold State.clearArea
  repeat' first
    | with_reducible exact h
    | with_reducible assumption
    | (extract_lets +onlyGivenNames x; refine have_frame (x := x) ?_ (fun hx => ?_); (on_goal 2 => (clear_value x; revert x; intro _ _)); (on_goal 1 => (unfold x; clear x)))
    | (extract_lets +onlyGivenNames y; clear_value y; revert y; intro _)
    | exact regs_sub hR (by decide +kernel)
    | with_reducible refine State.chainRecord_frame ?_    ?_
    | with_reducible refine getD_frame ?_ ?_
    | with_reducible refine State.inc_frame ?_ ?_
    | with_reducible refine State.areaStatus_frame  ?_   ?_
    | with_reducible refine State.unfreeze_frame  ?_   ?_
    | exact cov_arr (f := .PEAT_RSEQ_NEXT 0) (k := 0x4) (m := 5) hR (by decide +kernel) (by decide) rfl
    | with_reducible refine upd_peat ?_ ?_

theorem execRecordStage_frame {W : List Part} {R : List Regs} {s : State} {stream : ℕ} {type_ : ℕ} {body : List Byte} (hW : ∀
    p ∈ ([.mireIrq, .fenIrq, .seqs, .chans, .stg, .lev, .peat] : List Part), p ∈ W) (hR : RegsIn (alarmRegs ++ haltRegs) R) :
    OutFrame W R s (execRecordStage stream type_ body s) := by
  unfold execRecordStage
  repeat' first
    | exact parts_sub hW rfl
    | with_reducible refine next_frame ?_
    | with_reducible assumption
    | with_reducible exact Frame.refl _ _ _
    | with_reducible refine State.peatRecord_frame ?_ ?_   ?_

theorem execPeatFlushTimer_frame {W : List Part} {R : List Regs} {s : State} (hW : ∀ p ∈ ([.peat] : List Part), p ∈ W) (hR :
    RegsIn (([.fld .PEAT_STATUS_FLUSHING] : List Regs)) R) :
    OutFrame W R s (execPeatFlushTimer s) := by
  unfold execPeatFlushTimer
  repeat' first
    | exact parts_sub hW rfl
    | with_reducible refine next_frame ?_
    | with_reducible assumption
    | with_reducible exact Frame.refl _ _ _
    | with_reducible refine State.startFlush_frame ?_ ?_   ?_

theorem execPeatFlush_frame {W : List Part} {R : List Regs} {s : State} (hW : ∀ p ∈ ([.bus, .peat] : List Part), p ∈ W) (hR :
    RegsIn (([.fld .PEAT_STATUS_FLUSHING] : List Regs)) R) :
    OutFrame W R s (execPeatFlush s) := by
  unfold execPeatFlush
  repeat' first
    | exact parts_sub hW rfl
    | with_reducible refine next_frame ?_
    | with_reducible assumption
    | with_reducible exact Frame.refl _ _ _
    | with_reducible refine State.ack_frame ?_    ?_
    | with_reducible refine State.startFlush_frame ?_ ?_   ?_

theorem execPeatFlushDone_frame {W : List Part} {R : List Regs} {s : State} (hW : ∀ p ∈ ([.peat] : List Part), p ∈ W) (hR :
    RegsIn (([.fld .PEAT_STATUS_FLUSHING, .fld .PEAT_STATUS_STAMP_WAIT, .fld .PEAT_STATUS_HELD, .fld .PEAT_STATUS_USED, .fld
    .PEAT_FRZ_AREA, .arr (.PEAT_AREA_REC_COUNT 0) 0x4 10, .arr (.PEAT_AREA_BYTES_BYTES 0) 0x4 10, .fld .PEAT_MRSETS_COUNT] :
    List Regs)) R) :
    OutFrame W R s (execPeatFlushDone s) := by
  unfold execPeatFlushDone
  repeat' first
    | exact parts_sub hW rfl
    | with_reducible refine next_frame ?_
    | with_reducible assumption
    | with_reducible exact Frame.refl _ _ _
    | with_reducible refine State.when_frame ?_ (fun t ht => ?_)
    | with_reducible refine State.endFlush_frame ?_ ?_   ?_

theorem execPeatNorFail_frame {W : List Part} {R : List Regs} {s : State} {area : ℕ} (hW : ∀ p ∈ ([.mireIrq, .fenIrq, .seqs,
    .chans, .stg, .lev, .peat] : List Part), p ∈ W) (hR : RegsIn (alarmRegs ++ haltRegs ++ ([.fld .PEAT_STATUS_NOR_ERR, .arr
    (.PEAT_AREA_REC_COUNT 0) 0x4 10, .arr (.PEAT_AREA_BYTES_BYTES 0) 0x4 10] : List Regs)) R) :
    OutFrame W R s (execPeatNorFail area s) := by
  unfold execPeatNorFail
  repeat' first
    | (extract_lets +onlyGivenNames x; refine have_out (x := x) ?_ (fun hx => ?_); (on_goal 2 => (clear_value x; revert x; intro _ _)); (on_goal 1 => (unfold x; clear x)))
    | (extract_lets +onlyGivenNames y; clear_value y; revert y; intro _)
    | exact parts_sub hW rfl
    | with_reducible refine next_frame ?_
    | with_reducible assumption
    | exact regs_sub hR (by decide +kernel)
    | with_reducible exact Frame.refl _ _ _
    | with_reducible refine State.areaStatus_frame  ?_   ?_
    | with_reducible refine State.raise_frame ?_ ?_   ?_
    | with_reducible refine State.set_frame ?_ ?_
    | exact cov_fld hR (by decide +kernel)
    | with_reducible refine upd_peat ?_ ?_

theorem execPeatPcc_frame {W : List Part} {R : List Regs} {s : State} {count : ℕ} (hW : ∀ p ∈ ([.bus, .peat] : List Part), p ∈
    W) (hR : RegsIn (([.fld .PEAT_STATUS_FLUSHING, .fld .PEAT_STATUS_STAMP_WAIT, .fld .PEAT_STATUS_HELD, .fld
    .PEAT_STATUS_USED, .fld .PEAT_PCC_COUNT] : List Regs)) R) :
    OutFrame W R s (execPeatPcc count s) := by
  unfold execPeatPcc
  repeat' first
    | (extract_lets +onlyGivenNames x; refine have_out (x := x) ?_ (fun hx => ?_); (on_goal 2 => (clear_value x; revert x; intro _ _)); (on_goal 1 => (unfold x; clear x)))
    | exact parts_sub hW rfl
    | with_reducible refine next_frame ?_
    | with_reducible assumption
    | exact regs_sub hR (by decide +kernel)
    | with_reducible exact Frame.refl _ _ _
    | with_reducible refine State.when_frame ?_ (fun t ht => ?_)
    | with_reducible refine State.stampStaged_frame ?_ ?_   ?_
    | with_reducible refine State.ack_frame ?_    ?_
    | with_reducible refine State.lockPcc_frame ?_ ?_   ?_

theorem State.peatCur_frame {W : List Part} {R : List Regs} {s0 s : State} {offset : ℕ} (hW : ∀ p ∈ ([.peat] : List Part), p ∈
    W) (hR : RegsIn (([.fld .PEAT_CUR_OFFSET, .fld .PEAT_WIN_STATUS_VALID] : List Regs)) R) (h : Frame W R s0 s) :
    Frame W R s0 (State.peatCur s offset) := by
  unfold State.peatCur
  repeat' first
    | with_reducible exact h
    | with_reducible assumption
    | (extract_lets +onlyGivenNames x; refine have_frame (x := x) ?_ (fun hx => ?_); (on_goal 2 => (clear_value x; revert x; intro _ _)); (on_goal 1 => (unfold x; clear x)))
    | (extract_lets +onlyGivenNames y; clear_value y; revert y; intro _)
    | with_reducible refine State.set_frame ?_ ?_
    | exact cov_fld hR (by decide +kernel)
    | with_reducible refine upd_peat ?_ ?_

theorem execPeatCur_frame {W : List Part} {R : List Regs} {s : State} {offset : ℕ} (hW : ∀ p ∈ ([.bus, .peat] : List Part), p
    ∈ W) (hR : RegsIn (([.fld .PEAT_CUR_OFFSET, .fld .PEAT_WIN_STATUS_VALID] : List Regs)) R) :
    OutFrame W R s (execPeatCur offset s) := by
  unfold execPeatCur
  repeat' first
    | exact parts_sub hW rfl
    | with_reducible refine next_frame ?_
    | with_reducible assumption
    | with_reducible exact Frame.refl _ _ _
    | with_reducible refine State.ack_frame ?_    ?_
    | with_reducible refine State.peatCur_frame ?_ ?_   ?_

theorem State.windowLoad_frame {W : List Part} {R : List Regs} {s0 s : State} (hW : ∀ p ∈ ([.peat] : List Part), p ∈ W) (hR :
    RegsIn (([.fld .PEAT_WIN_STATUS_VALID, .fld .PEAT_WIN_STATUS_END, .fld .PEAT_WIN_STATUS_BYTES, .arr (.PEAT_WIN_DATA 0) 0x4
    1024] : List Regs)) R) (h : Frame W R s0 s) :
    Frame W R s0 (State.windowLoad s) := by
  unfold State.windowLoad
  repeat' first
    | with_reducible exact h
    | with_reducible assumption
    | (extract_lets +onlyGivenNames x; refine have_frame (x := x) ?_ (fun hx => ?_); (on_goal 2 => (clear_value x; revert x; intro _ _)); (on_goal 1 => (unfold x; clear x)))
    | (extract_lets +onlyGivenNames y; clear_value y; revert y; intro _)
    | with_reducible refine State.when_frame ?_ (fun t ht => ?_)
    | with_reducible refine State.forN_frame ?_ (fun i t ht => ?_)
    | with_reducible refine State.setIf_frame ?_ ?_
    | with_reducible refine State.set_frame ?_ ?_
    | exact cov_fld hR (by decide +kernel)
    | exact cov_arr (f := .PEAT_WIN_DATA 0) (k := 0x4) (m := 1024) hR (by decide +kernel) (by decide) rfl
    | split
    | with_reducible refine upd_peat ?_ ?_

theorem execWindowValid_frame {W : List Part} {R : List Regs} {s : State} (hW : ∀ p ∈ ([.peat] : List Part), p ∈ W) (hR :
    RegsIn (([.fld .PEAT_WIN_STATUS_VALID, .fld .PEAT_WIN_STATUS_END, .fld .PEAT_WIN_STATUS_BYTES, .arr (.PEAT_WIN_DATA 0) 0x4
    1024] : List Regs)) R) :
    OutFrame W R s (execWindowValid s) := by
  unfold execWindowValid
  repeat' first
    | exact parts_sub hW rfl
    | with_reducible refine next_frame ?_
    | with_reducible assumption
    | with_reducible exact Frame.refl _ _ _
    | with_reducible refine State.windowLoad_frame ?_ ?_   ?_

/-! ### Machine/Timebase.lean -/

theorem State.tideTo_frame {W : List Part} {R : List Regs} {s0 s : State} {x : ℕ} (hW : ∀ p ∈ ([.mireIrq, .seqs, .chans, .stg,
    .tide] : List Part), p ∈ W) (hR : RegsIn (haltRegs ++ ([.fld .TIDE_STATUS_STATE, .fld .WTH_SPN_MEAS_TRACK] : List Regs))
    R) (h : Frame W R s0 s) :
    Frame W R s0 (State.tideTo s x) := by
  unfold State.tideTo
  repeat' first
    | with_reducible exact h
    | with_reducible assumption
    | (extract_lets +onlyGivenNames x; refine have_frame (x := x) ?_ (fun hx => ?_); (on_goal 2 => (clear_value x; revert x; intro _ _)); (on_goal 1 => (unfold x; clear x)))
    | (extract_lets +onlyGivenNames y; clear_value y; revert y; intro _)
    | exact parts_sub hW rfl
    | exact regs_sub hR (by decide +kernel)
    | with_reducible refine ite_frame (fun _ => ?_) (fun _ => ?_)
    | with_reducible refine State.when_frame ?_ (fun t ht => ?_)
    | with_reducible refine State.setIf_frame ?_ ?_
    | with_reducible refine State.timingDrop_frame ?_ ?_   ?_
    | with_reducible refine State.set_frame ?_ ?_
    | exact cov_fld hR (by decide +kernel)
    | with_reducible refine upd_tide ?_ ?_

theorem State.tideFree_frame {W : List Part} {R : List Regs} {s0 s : State} (hW : ∀ p ∈ ([.mireIrq, .seqs, .chans, .stg,
    .tide] : List Part), p ∈ W) (hR : RegsIn (haltRegs ++ ([.fld .TIDE_STATUS_STATE, .fld .TIDE_CELL_PERIOD_PERIOD, .fld
    .WTH_SPN_MEAS_TRACK] : List Regs)) R) (h : Frame W R s0 s) :
    Frame W R s0 (State.tideFree s) := by
  unfold State.tideFree
  repeat' first
    | with_reducible exact h
    | with_reducible assumption
    | (extract_lets +onlyGivenNames x; refine have_frame (x := x) ?_ (fun hx => ?_); (on_goal 2 => (clear_value x; revert x; intro _ _)); (on_goal 1 => (unfold x; clear x)))
    | (extract_lets +onlyGivenNames y; clear_value y; revert y; intro _)
    | exact parts_sub hW rfl
    | exact regs_sub hR (by decide +kernel)
    | with_reducible refine ite_frame (fun _ => ?_) (fun _ => ?_)
    | with_reducible refine State.set_frame ?_ ?_
    | with_reducible refine State.tideTo_frame ?_ ?_   ?_
    | exact cov_fld hR (by decide +kernel)
    | with_reducible refine upd_tide ?_ ?_

theorem State.stepMang_frame {W : List Part} {R : List Regs} {s0 s : State} {m : Word} (hW : ∀ p ∈ ([.mireIrq, .seqs, .chans,
    .stg, .tide] : List Part), p ∈ W) (hR : RegsIn (haltRegs ++ ([.fld ⟨0x4E000000, 0, 32⟩, .fld .TIDE_STATUS_EPOCH] : List
    Regs)) R) (h : Frame W R s0 s) :
    Frame W R s0 (State.stepMang s m) := by
  unfold State.stepMang
  repeat' first
    | with_reducible exact h
    | (extract_lets +onlyGivenNames y; clear_value y; revert y; intro _)
    | exact parts_sub hW rfl
    | exact regs_sub hR (by decide +kernel)
    | with_reducible refine State.atMang_frame  ?_   ?_
    | with_reducible refine State.timingDrop_frame ?_ ?_   ?_
    | with_reducible refine State.inc_frame ?_ ?_
    | exact cov_fld hR (by decide +kernel)
    | with_reducible refine upd_tide ?_ ?_

theorem State.correctMang_frame {W : List Part} {R : List Regs} {s0 s : State} {now : Word} {m : Word} (hW : ∀ p ∈ ([.mireIrq,
    .seqs, .chans, .stg, .tide] : List Part), p ∈ W) (hR : RegsIn (haltRegs ++ ([.fld ⟨0x4E000000, 0, 32⟩, .fld
    .TIDE_STATUS_EPOCH] : List Regs)) R) (h : Frame W R s0 s) :
    Frame W R s0 (State.correctMang s now m) := by
  unfold State.correctMang
  repeat' first
    | with_reducible exact h
    | with_reducible assumption
    | (extract_lets +onlyGivenNames x; refine have_frame (x := x) ?_ (fun hx => ?_); (on_goal 2 => (clear_value x; revert x; intro _ _)); (on_goal 1 => (unfold x; clear x)))
    | (extract_lets +onlyGivenNames y; clear_value y; revert y; intro _)
    | exact parts_sub hW rfl
    | exact regs_sub hR (by decide +kernel)
    | with_reducible refine ite_frame (fun _ => ?_) (fun _ => ?_)
    | with_reducible refine State.atMang_frame  ?_   ?_
    | with_reducible refine State.stepMang_frame ?_ ?_   ?_
    | with_reducible refine upd_tide ?_ ?_

theorem State.slewMang_frame {W : List Part} {R : List Regs} {s0 s : State} (hW : ∀ p ∈ ([.drawn, .tide] : List Part), p ∈ W)
    (h : Frame W R s0 s) :
    Frame W R s0 (State.slewMang s) := by
  unfold State.slewMang
  repeat' first
    | with_reducible exact h
    | (extract_lets +onlyGivenNames y; clear_value y; revert y; intro _)
    | exact parts_sub hW rfl
    | with_reducible refine ite_frame (fun _ => ?_) (fun _ => ?_)
    | with_reducible refine snd_frame (by assumption) (State.draw_frame ?_    ?_)
    | split
    | with_reducible refine upd_tide ?_ ?_

theorem State.judgeRate_frame {W : List Part} {R : List Regs} {s0 s : State} {n : ℕ} (hW : ∀ p ∈ ([.mireIrq, .fenIrq, .seqs,
    .chans, .stg, .tide, .lev, .peat] : List Part), p ∈ W) (hR : RegsIn (alarmRegs ++ haltRegs) R) (h : Frame W R s0 s) :
    Frame W R s0 (State.judgeRate s n) := by
  unfold State.judgeRate
  repeat' first
    | with_reducible exact h
    | with_reducible assumption
    | (extract_lets +onlyGivenNames x; refine have_frame (x := x) ?_ (fun hx => ?_); (on_goal 2 => (clear_value x; revert x; intro _ _)); (on_goal 1 => (unfold x; clear x)))
    | (extract_lets +onlyGivenNames y; clear_value y; revert y; intro _)
    | exact parts_sub hW rfl
    | exact regs_sub hR (by decide +kernel)
    | with_reducible refine State.when_frame ?_ (fun t ht => ?_)
    | with_reducible refine State.updSeq_frame ?_    ?_
    | with_reducible refine State.raise_frame ?_ ?_   ?_
    | with_reducible refine State.inhibitDrop_frame ?_ ?_   ?_
    | with_reducible refine upd_tide ?_ ?_

theorem State.setPeriod_frame {W : List Part} {R : List Regs} {s0 s : State} {p : ℕ} (hW : ∀ p ∈ ([.mireIrq, .fenIrq, .seqs,
    .chans, .stg, .tide, .lev, .peat] : List Part), p ∈ W) (hR : RegsIn (alarmRegs ++ haltRegs ++ ([.fld
    .TIDE_CELL_PERIOD_PERIOD] : List Regs)) R) (h : Frame W R s0 s) :
    Frame W R s0 (State.setPeriod s p) := by
  unfold State.setPeriod
  repeat' first
    | with_reducible exact h
    | with_reducible assumption
    | exact parts_sub hW rfl
    | exact regs_sub hR (by decide +kernel)
    | with_reducible refine State.forN_frame ?_ (fun i t ht => ?_)
    | with_reducible refine State.judgeRate_frame ?_ ?_   ?_
    | with_reducible refine State.rescale_frame ?_    ?_
    | with_reducible refine State.set_frame ?_ ?_
    | exact cov_fld hR (by decide +kernel)

theorem State.acquire_frame {W : List Part} {R : List Regs} {s0 s : State} (hW : ∀ p ∈ ([.mireIrq, .seqs, .chans, .stg, .tide]
    : List Part), p ∈ W) (hR : RegsIn (haltRegs ++ ([.fld .TIDE_STATUS_STATE, .fld .WTH_SPN_MEAS_TRACK, .fld .MBX_START_STEP]
    : List Regs)) R) (h : Frame W R s0 s) :
    Frame W R s0 (State.acquire s) := by
  unfold State.acquire
  repeat' first
    | with_reducible exact h
    | with_reducible assumption
    | (extract_lets +onlyGivenNames x; refine have_frame (x := x) ?_ (fun hx => ?_); (on_goal 2 => (clear_value x; revert x; intro _ _)); (on_goal 1 => (unfold x; clear x)))
    | (extract_lets +onlyGivenNames y; clear_value y; revert y; intro _)
    | exact parts_sub hW rfl
    | exact regs_sub hR (by decide +kernel)
    | with_reducible refine State.when_frame ?_ (fun t ht => ?_)
    | with_reducible refine State.tideTo_frame ?_ ?_   ?_
    | with_reducible refine State.set_frame ?_ ?_
    | exact cov_fld hR (by decide +kernel)
    | with_reducible refine upd_tide ?_ ?_

theorem State.headIs_frame {W : List Part} {R : List Regs} {s0 s : State} {h' : ℕ} {ok : Bool} (hW : ∀ p ∈ ([.mireIrq,
    .fenIrq, .seqs, .chans, .stg, .lev, .peat] : List Part), p ∈ W) (hR : RegsIn (alarmRegs ++ haltRegs ++ ([.fld
    .TIDE_STATUS_T1_OK, .fld .TIDE_STATUS_T0_OK] : List Regs)) R) (h : Frame W R s0 s) :
    Frame W R s0 (State.headIs s h' ok) := by
  unfold State.headIs
  repeat' first
    | with_reducible exact h
    | with_reducible assumption
    | exact regs_sub hR (by decide +kernel)
    | with_reducible refine State.when_frame ?_ (fun t ht => ?_)
    | with_reducible refine State.setIf_frame ?_ ?_
    | with_reducible refine State.raise_frame ?_ ?_   ?_
    | exact cov_fld hR (by decide +kernel)
    | with_reducible refine cov_ite ?_ ?_
    | unfold headOk

theorem State.dropHead_frame {W : List Part} {R : List Regs} {s0 s : State} {h' : ℕ} (hW : ∀ p ∈ ([.mireIrq, .fenIrq, .seqs,
    .chans, .stg, .tide, .lev, .peat] : List Part), p ∈ W) (hR : RegsIn (alarmRegs ++ haltRegs ++ ([.fld .TIDE_STATUS_T1_OK,
    .fld .TIDE_STATUS_T0_OK, .fld .TIDE_STATUS_STATE, .fld .WTH_SPN_MEAS_TRACK] : List Regs)) R) (h : Frame W R s0 s) :
    Frame W R s0 (State.dropHead s h') := by
  unfold State.dropHead
  repeat' first
    | with_reducible exact h
    | with_reducible assumption
    | (extract_lets +onlyGivenNames x; refine have_frame (x := x) ?_ (fun hx => ?_); (on_goal 2 => (clear_value x; revert x; intro _ _)); (on_goal 1 => (unfold x; clear x)))
    | exact parts_sub hW rfl
    | exact regs_sub hR (by decide +kernel)
    | with_reducible refine ite_frame (fun _ => ?_) (fun _ => ?_)
    | with_reducible refine State.headIs_frame ?_ ?_   ?_
    | with_reducible refine State.tideTo_frame ?_ ?_   ?_
    | with_reducible refine State.raise_frame ?_ ?_   ?_

theorem State.headsInUse_frame {W : List Part} {R : List Regs} {s0 s : State} (hW : ∀ p ∈ ([.mireIrq, .fenIrq, .seqs, .chans,
    .stg, .tide, .lev, .peat] : List Part), p ∈ W) (hR : RegsIn (alarmRegs ++ haltRegs ++ ([.fld .TIDE_STATUS_T1_OK, .fld
    .TIDE_STATUS_T0_OK, .fld .TIDE_STATUS_STATE, .fld .WTH_SPN_MEAS_TRACK] : List Regs)) R) (h : Frame W R s0 s) :
    Frame W R s0 (State.headsInUse s) := by
  unfold State.headsInUse
  repeat' first
    | with_reducible exact h
    | with_reducible assumption
    | with_reducible refine State.when_frame ?_ (fun t ht => ?_)
    | with_reducible refine State.forN_frame ?_ (fun i t ht => ?_)
    | with_reducible refine State.dropHead_frame ?_ ?_   ?_

theorem execRootLock_frame {W : List Part} {R : List Regs} {s : State} (hR : RegsIn (([.fld .TIDE_STATUS_ROOT_LOCK] : List
    Regs)) R) :
    OutFrame W R s (execRootLock s) := by
  unfold execRootLock
  repeat' first
    | with_reducible refine next_frame ?_
    | with_reducible exact Frame.refl _ _ _
    | with_reducible refine State.set_frame ?_ ?_
    | exact cov_fld hR (by decide +kernel)

theorem execTideRootUnlock_frame {W : List Part} {R : List Regs} {s : State} (hW : ∀ p ∈ ([.mireIrq, .fenIrq, .seqs, .chans,
    .stg, .tide, .lev, .peat] : List Part), p ∈ W) (hR : RegsIn (alarmRegs ++ haltRegs ++ ([.fld .TIDE_STATUS_ROOT_LOCK, .fld
    .TIDE_STATUS_STATE, .fld .WTH_SPN_MEAS_TRACK, .fld .MBX_START_STEP] : List Regs)) R) :
    OutFrame W R s (execTideRootUnlock s) := by
  unfold execTideRootUnlock
  repeat' first
    | (extract_lets +onlyGivenNames x; refine have_out (x := x) ?_ (fun hx => ?_); (on_goal 2 => (clear_value x; revert x; intro _ _)); (on_goal 1 => (unfold x; clear x)))
    | exact parts_sub hW rfl
    | with_reducible refine next_frame ?_
    | with_reducible refine ite_out (fun _ => ?_) (fun _ => ?_)
    | with_reducible assumption
    | exact regs_sub hR (by decide +kernel)
    | with_reducible exact Frame.refl _ _ _
    | with_reducible refine State.timingDrop_frame ?_ ?_   ?_
    | with_reducible refine State.set_frame ?_ ?_
    | with_reducible refine State.raise_frame ?_ ?_   ?_
    | with_reducible refine State.acquire_frame ?_ ?_   ?_
    | exact cov_fld hR (by decide +kernel)

theorem execTideCgEn_frame {W : List Part} {R : List Regs} {s : State} {i : ℕ} {value : Word} (hW : ∀ p ∈ ([.bus] : List
    Part), p ∈ W) (hR : RegsIn (([.arr (.TIDE_CG_EN_EN 0) 0x4 4] : List Regs)) R) :
    OutFrame W R s (execTideCgEn i value s) := by
  unfold execTideCgEn
  repeat' first
    | (extract_lets +onlyGivenNames y; clear_value y; revert y; intro _)
    | exact parts_sub hW rfl
    | with_reducible refine next_frame ?_
    | with_reducible exact Frame.refl _ _ _
    | with_reducible refine State.ack_frame ?_    ?_
    | with_reducible refine State.set_frame ?_ ?_
    | exact cov_arr (f := .TIDE_CG_EN_EN 0) (k := 0x4) (m := 4) hR (by decide +kernel) (by decide) rfl

theorem execAcqStart_frame {W : List Part} {R : List Regs} {s : State} (hW : ∀ p ∈ ([.bus, .mireIrq, .seqs, .chans, .stg,
    .tide] : List Part), p ∈ W) (hR : RegsIn (haltRegs ++ ([.fld .TIDE_STATUS_STATE, .fld .WTH_SPN_MEAS_TRACK, .fld
    .MBX_START_STEP] : List Regs)) R) :
    OutFrame W R s (execAcqStart s) := by
  unfold execAcqStart
  repeat' first
    | exact parts_sub hW rfl
    | with_reducible refine next_frame ?_
    | with_reducible assumption
    | with_reducible exact Frame.refl _ _ _
    | with_reducible refine State.when_frame ?_ (fun t ht => ?_)
    | with_reducible refine State.ack_frame ?_    ?_
    | with_reducible refine State.acquire_frame ?_ ?_   ?_

theorem State.qualify_frame {W : List Part} {R : List Regs} {s0 s : State} {h' : ℕ} {ok : Bool} (hW : ∀ p ∈ ([.mireIrq,
    .fenIrq, .seqs, .chans, .stg, .tide, .lev, .peat] : List Part), p ∈ W) (hR : RegsIn (alarmRegs ++ haltRegs ++ ([.fld
    .TIDE_STATUS_T1_OK, .fld .TIDE_STATUS_T0_OK] : List Regs)) R) (h : Frame W R s0 s) :
    Frame W R s0 (State.qualify s h' ok) := by
  unfold State.qualify
  repeat' first
    | with_reducible exact h
    | with_reducible assumption
    | (extract_lets +onlyGivenNames x; refine have_frame (x := x) ?_ (fun hx => ?_); (on_goal 2 => (clear_value x; revert x; intro _ _)); (on_goal 1 => (unfold x; clear x)))
    | (extract_lets +onlyGivenNames y; clear_value y; revert y; intro _)
    | exact parts_sub hW rfl
    | with_reducible refine ite_frame (fun _ => ?_) (fun _ => ?_)
    | with_reducible refine State.headIs_frame ?_ ?_   ?_
    | with_reducible refine upd_tide ?_ ?_

theorem execTideAcqFail_frame {W : List Part} {R : List Regs} {s : State} (hW : ∀ p ∈ ([.mireIrq, .fenIrq, .seqs, .chans,
    .stg, .tide, .lev, .peat, .aq] : List Part), p ∈ W) (hR : RegsIn (alarmRegs ++ haltRegs ++ ([.fld .TIDE_STATUS_STATE, .fld
    .WTH_SPN_MEAS_TRACK] : List Regs)) R) :
    OutFrame W R s (execTideAcqFail s) := by
  unfold execTideAcqFail
  repeat' first
    | (extract_lets +onlyGivenNames x; refine have_out (x := x) ?_ (fun hx => ?_); (on_goal 2 => (clear_value x; revert x; intro _ _)); (on_goal 1 => (unfold x; clear x)))
    | (extract_lets +onlyGivenNames y; clear_value y; revert y; intro _)
    | exact parts_sub hW rfl
    | with_reducible refine next_frame ?_
    | with_reducible refine ite_out (fun _ => ?_) (fun _ => ?_)
    | with_reducible assumption
    | exact regs_sub hR (by decide +kernel)
    | with_reducible exact Frame.refl _ _ _
    | with_reducible refine State.when_frame ?_ (fun t ht => ?_)
    | with_reducible refine State.raise_frame ?_ ?_   ?_
    | with_reducible refine State.tideTo_frame ?_ ?_   ?_
    | with_reducible refine upd_aq ?_ ?_
    | with_reducible refine upd_tide ?_ ?_

theorem execTideHeadLost_frame {W : List Part} {R : List Regs} {s : State} {test : HeadTest} (hW : ∀ p ∈ ([.mireIrq, .fenIrq,
    .seqs, .chans, .stg, .tide, .lev, .peat] : List Part), p ∈ W) (hR : RegsIn (alarmRegs ++ haltRegs ++ ([.fld
    .TIDE_STATUS_T1_OK, .fld .TIDE_STATUS_T0_OK, .fld .TIDE_STATUS_STATE, .fld .WTH_SPN_MEAS_TRACK] : List Regs)) R) :
    OutFrame W R s (execTideHeadLost test s) := by
  unfold execTideHeadLost
  repeat' first
    | exact parts_sub hW rfl
    | with_reducible refine next_frame ?_
    | with_reducible assumption
    | with_reducible exact Frame.refl _ _ _
    | with_reducible refine State.when_frame ?_ (fun t ht => ?_)
    | with_reducible refine foldl_frame ?_ (fun t x ht => ?_)
    | with_reducible refine State.dropHead_frame ?_ ?_   ?_

theorem execEncSyncOutRise_frame {W : List Part} {R : List Regs} {s : State} {mang : Word} (hW : ∀ p ∈ ([.tide] : List Part),
    p ∈ W) (hR : RegsIn (([.fld ⟨0x4E000000, 0, 32⟩] : List Regs)) R) :
    OutFrame W R s (execEncSyncOutRise mang s) := by
  unfold execEncSyncOutRise
  repeat' first
    | (extract_lets +onlyGivenNames x; refine have_out (x := x) ?_ (fun hx => ?_); (on_goal 2 => (clear_value x; revert x; intro _ _)); (on_goal 1 => (unfold x; clear x)))
    | (extract_lets +onlyGivenNames y; clear_value y; revert y; intro _)
    | exact parts_sub hW rfl
    | with_reducible refine next_frame ?_
    | with_reducible assumption
    | with_reducible exact Frame.refl _ _ _
    | with_reducible refine State.when_frame ?_ (fun t ht => ?_)
    | with_reducible refine State.atMang_frame  ?_   ?_
    | with_reducible refine upd_tide ?_ ?_

theorem execEncSyncOutFall_frame {W : List Part} {R : List Regs} {s : State} {mang : Word} (hW : ∀ p ∈ ([.tide] : List Part),
    p ∈ W) (hR : RegsIn (([.fld ⟨0x4E000000, 0, 32⟩] : List Regs)) R) :
    OutFrame W R s (execEncSyncOutFall mang s) := by
  unfold execEncSyncOutFall
  repeat' first
    | (extract_lets +onlyGivenNames x; refine have_out (x := x) ?_ (fun hx => ?_); (on_goal 2 => (clear_value x; revert x; intro _ _)); (on_goal 1 => (unfold x; clear x)))
    | (extract_lets +onlyGivenNames y; clear_value y; revert y; intro _)
    | exact parts_sub hW rfl
    | with_reducible refine next_frame ?_
    | with_reducible assumption
    | with_reducible exact Frame.refl _ _ _
    | with_reducible refine State.when_frame ?_ (fun t ht => ?_)
    | with_reducible refine State.atMang_frame  ?_   ?_
    | with_reducible refine upd_tide ?_ ?_

theorem State.retarget_frame {W : List Part} {R : List Regs} {s0 s : State} (hW : ∀ p ∈ ([.withy] : List Part), p ∈ W) (hR :
    RegsIn (([.fld .WTH_SPN_STATUS_AT_SPEED, .fld .WTH_SPN_STATUS_SPD95, .fld .WTH_SPN_STATUS_SPD90] : List Regs)) R) (h :
    Frame W R s0 s) :
    Frame W R s0 (State.retarget s) := by
  unfold State.retarget
  repeat' first
    | with_reducible exact h
    | with_reducible assumption
    | (extract_lets +onlyGivenNames x; refine have_frame (x := x) ?_ (fun hx => ?_); (on_goal 2 => (clear_value x; revert x; intro _ _)); (on_goal 1 => (unfold x; clear x)))
    | (extract_lets +onlyGivenNames y; clear_value y; revert y; intro _)
    | with_reducible refine ite_frame (fun _ => ?_) (fun _ => ?_)
    | with_reducible refine State.set_frame ?_ ?_
    | exact cov_fld hR (by decide +kernel)
    | with_reducible refine upd_withy ?_ ?_

theorem State.setSource_frame {W : List Part} {R : List Regs} {s0 s : State} {src : ℕ} (hW : ∀ p ∈ ([.withy] : List Part), p ∈
    W) (hR : RegsIn (([.fld .WTH_SPN_CTRL_SRC, .fld .WTH_SPN_STATUS_AT_SPEED, .fld .WTH_SPN_STATUS_SPD95, .fld
    .WTH_SPN_STATUS_SPD90] : List Regs)) R) (h : Frame W R s0 s) :
    Frame W R s0 (State.setSource s src) := by
  unfold State.setSource
  repeat' first
    | with_reducible exact h
    | with_reducible assumption
    | (extract_lets +onlyGivenNames x; refine have_frame (x := x) ?_ (fun hx => ?_); (on_goal 2 => (clear_value x; revert x; intro _ _)); (on_goal 1 => (unfold x; clear x)))
    | (extract_lets +onlyGivenNames y; clear_value y; revert y; intro _)
    | exact regs_sub hR (by decide +kernel)
    | with_reducible refine State.set_frame ?_ ?_
    | with_reducible refine State.retarget_frame ?_ ?_   ?_
    | exact cov_fld hR (by decide +kernel)
    | with_reducible refine upd_withy ?_ ?_

theorem State.revolution_frame {W : List Part} {R : List Regs} {s0 s : State} {mean : ℕ} (hW : ∀ p ∈ ([.withy] : List Part), p
    ∈ W) (hR : RegsIn (([.fld .WTH_SPN_STATUS_AT_SPEED] : List Regs)) R) (h : Frame W R s0 s) :
    Frame W R s0 (State.revolution s mean) := by
  unfold State.revolution
  repeat' first
    | with_reducible exact h
    | with_reducible assumption
    | (extract_lets +onlyGivenNames x; refine have_frame (x := x) ?_ (fun hx => ?_); (on_goal 2 => (clear_value x; revert x; intro _ _)); (on_goal 1 => (unfold x; clear x)))
    | (extract_lets +onlyGivenNames y; clear_value y; revert y; intro _)
    | with_reducible refine ite_frame (fun _ => ?_) (fun _ => ?_)
    | with_reducible refine State.when_frame ?_ (fun t ht => ?_)
    | with_reducible refine State.set_frame ?_ ?_
    | exact cov_fld hR (by decide +kernel)
    | with_reducible refine upd_withy ?_ ?_

theorem State.dropMiscount_frame {W : List Part} {R : List Regs} {s0 s : State} {h' : ℕ} {x : Head} (hW : ∀ p ∈ ([.mireIrq,
    .fenIrq, .seqs, .chans, .stg, .tide, .lev, .peat] : List Part), p ∈ W) (hR : RegsIn (alarmRegs ++ haltRegs ++ ([.fld
    .TIDE_STATUS_T1_OK, .fld .TIDE_STATUS_T0_OK, .fld .TIDE_STATUS_STATE, .fld .WTH_SPN_MEAS_TRACK] : List Regs)) R) (h :
    Frame W R s0 s) :
    Frame W R s0 (State.dropMiscount s h' x) := by
  unfold State.dropMiscount
  repeat' first
    | with_reducible exact h
    | with_reducible assumption
    | with_reducible refine State.when_frame ?_ (fun t ht => ?_)
    | with_reducible refine State.dropHead_frame ?_ ?_   ?_

theorem execIndexMark_frame {W : List Part} {R : List Regs} {s : State} {mang : Word} {t0 : Head} {t1 : Head} {period : ℕ} (hW
    : ∀ p ∈ ([.mireIrq, .fenIrq, .seqs, .chans, .stg, .tide, .lev, .peat, .withy] : List Part), p ∈ W) (hR : RegsIn (alarmRegs
    ++ haltRegs ++ ([.fld ⟨0x4E000000, 0, 32⟩, .fld .TIDE_STATUS_EPOCH, .fld .TIDE_STATUS_T1_OK, .fld .TIDE_STATUS_T0_OK, .fld
    .TIDE_STATUS_STATE, .fld .TIDE_CELL_PERIOD_PERIOD, .fld .WTH_SPN_STATUS_AT_SPEED, .fld .WTH_SPN_MEAS_TRACK] : List Regs))
    R) :
    OutFrame W R s (execIndexMark mang t0 t1 period s) := by
  unfold execIndexMark
  repeat' first
    | (extract_lets +onlyGivenNames x; refine have_out (x := x) ?_ (fun hx => ?_); (on_goal 2 => (clear_value x; revert x; intro _ _)); (on_goal 1 => (unfold x; clear x)))
    | (extract_lets +onlyGivenNames y; clear_value y; revert y; intro _)
    | exact parts_sub hW rfl
    | with_reducible refine next_frame ?_
    | with_reducible refine ite_out (fun _ => ?_) (fun _ => ?_)
    | with_reducible assumption
    | exact regs_sub hR (by decide +kernel)
    | with_reducible exact Frame.refl _ _ _
    | with_reducible refine State.when_frame ?_ (fun t ht => ?_)
    | with_reducible refine State.atMang_frame  ?_   ?_
    | with_reducible refine State.correctMang_frame ?_ ?_   ?_
    | with_reducible refine State.stepMang_frame ?_ ?_   ?_
    | with_reducible refine State.revolution_frame ?_ ?_   ?_
    | with_reducible refine State.headIs_frame ?_ ?_   ?_
    | with_reducible refine State.tideTo_frame ?_ ?_   ?_
    | with_reducible refine State.dropMiscount_frame ?_ ?_   ?_
    | with_reducible refine State.set_frame ?_ ?_
    | with_reducible refine State.setPeriod_frame ?_ ?_   ?_
    | with_reducible refine State.qualify_frame ?_ ?_   ?_
    | exact cov_fld hR (by decide +kernel)
    | split
    | with_reducible refine upd_tide ?_ ?_

theorem State.esiLost_frame {W : List Part} {R : List Regs} {s0 s : State} (hW : ∀ p ∈ ([.mireIrq, .fenIrq, .seqs, .chans,
    .stg, .tide, .lev, .peat] : List Part), p ∈ W) (hR : RegsIn (alarmRegs ++ haltRegs ++ ([.fld .TIDE_STATUS_ESI_VALID] :
    List Regs)) R) (h : Frame W R s0 s) :
    Frame W R s0 (State.esiLost s) := by
  unfold State.esiLost
  repeat' first
    | with_reducible exact h
    | with_reducible assumption
    | (extract_lets +onlyGivenNames x; refine have_frame (x := x) ?_ (fun hx => ?_); (on_goal 2 => (clear_value x; revert x; intro _ _)); (on_goal 1 => (unfold x; clear x)))
    | (extract_lets +onlyGivenNames y; clear_value y; revert y; intro _)
    | exact parts_sub hW rfl
    | exact regs_sub hR (by decide +kernel)
    | with_reducible refine State.when_frame ?_ (fun t ht => ?_)
    | with_reducible refine State.raise_frame ?_ ?_   ?_
    | with_reducible refine State.set_frame ?_ ?_
    | exact cov_fld hR (by decide +kernel)
    | with_reducible refine upd_tide ?_ ?_

theorem State.esiControl_frame {W : List Part} {R : List Regs} {s0 s : State} {old : State} (hW : ∀ p ∈ ([.mireIrq, .fenIrq,
    .seqs, .chans, .stg, .tide, .lev, .peat] : List Part), p ∈ W) (hR : RegsIn (alarmRegs ++ haltRegs ++ ([.fld
    .TIDE_STATUS_ESI_VALID] : List Regs)) R) (h : Frame W R s0 s) :
    Frame W R s0 (State.esiControl s old) := by
  unfold State.esiControl
  repeat' first
    | with_reducible exact h
    | with_reducible assumption
    | (extract_lets +onlyGivenNames x; refine have_frame (x := x) ?_ (fun hx => ?_); (on_goal 2 => (clear_value x; revert x; intro _ _)); (on_goal 1 => (unfold x; clear x)))
    | (extract_lets +onlyGivenNames y; clear_value y; revert y; intro _)
    | exact parts_sub hW rfl
    | with_reducible refine State.when_frame ?_ (fun t ht => ?_)
    | with_reducible refine State.esiLost_frame ?_ ?_   ?_
    | with_reducible refine upd_tide ?_ ?_

theorem State.steerPhase_frame {W : List Part} {R : List Regs} {s0 s : State} (hW : ∀ p ∈ ([.drawn, .tide] : List Part), p ∈
    W) (h : Frame W R s0 s) :
    Frame W R s0 (State.steerPhase s) := by
  unfold State.steerPhase
  repeat' first
    | with_reducible exact h
    | (extract_lets +onlyGivenNames y; clear_value y; revert y; intro _)
    | exact parts_sub hW rfl
    | with_reducible refine snd_frame (by assumption) (State.draw_frame ?_    ?_)
    | split
    | with_reducible refine upd_tide ?_ ?_

theorem State.esiPhase_frame {W : List Part} {R : List Regs} {s0 s : State} {mang : Word} (hW : ∀ p ∈ ([.drawn, .tide] : List
    Part), p ∈ W) (hR : RegsIn (([.fld .TIDE_STATUS_PHASE_LOCKED] : List Regs)) R) (h : Frame W R s0 s) :
    Frame W R s0 (State.esiPhase s mang) := by
  unfold State.esiPhase
  repeat' first
    | with_reducible exact h
    | with_reducible assumption
    | (extract_lets +onlyGivenNames x; refine have_frame (x := x) ?_ (fun hx => ?_); (on_goal 2 => (clear_value x; revert x; intro _ _)); (on_goal 1 => (unfold x; clear x)))
    | (extract_lets +onlyGivenNames y; clear_value y; revert y; intro _)
    | exact parts_sub hW rfl
    | with_reducible refine ite_frame (fun _ => ?_) (fun _ => ?_)
    | with_reducible refine State.when_frame ?_ (fun t ht => ?_)
    | with_reducible refine State.steerPhase_frame ?_    ?_
    | with_reducible refine State.set_frame ?_ ?_
    | exact cov_fld hR (by decide +kernel)
    | with_reducible refine upd_tide ?_ ?_

theorem execEncSyncInEdge_frame {W : List Part} {R : List Regs} {s : State} {mang : Word} {period : ℕ} {high : ℕ} (hW : ∀ p ∈
    ([.drawn, .mireIrq, .fenIrq, .seqs, .chans, .stg, .tide, .lev, .peat, .withy] : List Part), p ∈ W) (hR : RegsIn (alarmRegs
    ++ haltRegs ++ ([.fld .TIDE_STATUS_ESI_VALID, .fld .TIDE_STATUS_PHASE_LOCKED, .fld .TIDE_ESI_PERIOD_PERIOD, .fld
    .WTH_SPN_STATUS_AT_SPEED, .fld .WTH_SPN_STATUS_SPD95, .fld .WTH_SPN_STATUS_SPD90] : List Regs)) R) :
    OutFrame W R s (execEncSyncInEdge mang period high s) := by
  unfold execEncSyncInEdge
  repeat' first
    | (extract_lets +onlyGivenNames x; refine have_out (x := x) ?_ (fun hx => ?_); (on_goal 2 => (clear_value x; revert x; intro _ _)); (on_goal 1 => (unfold x; clear x)))
    | (extract_lets +onlyGivenNames y; clear_value y; revert y; intro _)
    | exact parts_sub hW rfl
    | with_reducible refine next_frame ?_
    | with_reducible refine ite_out (fun _ => ?_) (fun _ => ?_)
    | with_reducible assumption
    | exact regs_sub hR (by decide +kernel)
    | with_reducible exact Frame.refl _ _ _
    | with_reducible refine ite_frame (fun _ => ?_) (fun _ => ?_)
    | with_reducible refine State.when_frame ?_ (fun t ht => ?_)
    | with_reducible refine State.esiPhase_frame ?_ ?_   ?_
    | with_reducible refine State.retarget_frame ?_ ?_   ?_
    | with_reducible refine State.esiLost_frame ?_ ?_   ?_
    | with_reducible refine State.set_frame ?_ ?_
    | exact cov_fld hR (by decide +kernel)
    | with_reducible refine upd_tide ?_ ?_
    | with_reducible refine upd_withy ?_ ?_

theorem execEsiEdgeTimeout_frame {W : List Part} {R : List Regs} {s : State} (hW : ∀ p ∈ ([.mireIrq, .fenIrq, .seqs, .chans,
    .stg, .tide, .lev, .peat] : List Part), p ∈ W) (hR : RegsIn (alarmRegs ++ haltRegs ++ ([.fld .TIDE_STATUS_ESI_VALID] :
    List Regs)) R) :
    OutFrame W R s (execEsiEdgeTimeout s) := by
  unfold execEsiEdgeTimeout
  repeat' first
    | exact parts_sub hW rfl
    | with_reducible refine next_frame ?_
    | with_reducible assumption
    | with_reducible exact Frame.refl _ _ _
    | with_reducible refine State.when_frame ?_ (fun t ht => ?_)
    | with_reducible refine State.esiLost_frame ?_ ?_   ?_

theorem execEsiPhaseSuspend_frame {W : List Part} {R : List Regs} {s : State} (hW : ∀ p ∈ ([.tide] : List Part), p ∈ W) :
    OutFrame W R s (execEsiPhaseSuspend s) := by
  unfold execEsiPhaseSuspend
  repeat' first
    | (extract_lets +onlyGivenNames y; clear_value y; revert y; intro _)
    | exact parts_sub hW rfl
    | with_reducible refine next_frame ?_
    | with_reducible assumption
    | with_reducible exact Frame.refl _ _ _
    | with_reducible refine State.when_frame ?_ (fun t ht => ?_)
    | with_reducible refine upd_tide ?_ ?_

theorem execTideOptLo_frame {W : List Part} {R : List Regs} {s : State} {value : Word} (hW : ∀ p ∈ ([.bus, .peat] : List
    Part), p ∈ W) (hR : RegsIn (([.fld .PEAT_STATUS_FLUSHING, .fld .PEAT_STATUS_STAMP_WAIT, .fld .PEAT_STATUS_HELD, .fld
    .PEAT_STATUS_USED, .fld .TIDE_STATUS_OPT_LOADED, .fld .TIDE_OPT_LO_MS_LO] : List Regs)) R) :
    OutFrame W R s (execTideOptLo value s) := by
  unfold execTideOptLo
  repeat' first
    | exact parts_sub hW rfl
    | with_reducible refine next_frame ?_
    | with_reducible assumption
    | exact regs_sub hR (by decide +kernel)
    | with_reducible exact Frame.refl _ _ _
    | with_reducible refine State.when_frame ?_ (fun t ht => ?_)
    | with_reducible refine State.stampStaged_frame ?_ ?_   ?_
    | with_reducible refine State.set_frame ?_ ?_
    | with_reducible refine State.ack_frame ?_    ?_
    | exact cov_fld hR (by decide +kernel)

theorem execTideOptLoRead_frame {W : List Part} {R : List Regs} {s : State} {who : Who} (hW : ∀ p ∈ ([.bus, .tide] : List
    Part), p ∈ W) :
    OutFrame W R s (execTideOptLoRead who s) := by
  unfold execTideOptLoRead
  repeat' first
    | (extract_lets +onlyGivenNames y; clear_value y; revert y; intro _)
    | exact parts_sub hW rfl
    | with_reducible refine next_frame ?_
    | with_reducible exact Frame.refl _ _ _
    | with_reducible refine State.answer_frame ?_    ?_
    | with_reducible refine upd_tide ?_ ?_

theorem State.countOpt_frame {W : List Part} {R : List Regs} {s0 s : State} (hR : RegsIn (([.fld .TIDE_OPT_LO_MS_LO, .fld
    .TIDE_OPT_HI_MS_HI] : List Regs)) R) (h : Frame W R s0 s) :
    Frame W R s0 (State.countOpt s) := by
  unfold State.countOpt
  repeat' first
    | with_reducible exact h
    | (extract_lets +onlyGivenNames y; clear_value y; revert y; intro _)
    | with_reducible refine ite_frame (fun _ => ?_) (fun _ => ?_)
    | with_reducible refine State.set_frame ?_ ?_
    | exact cov_fld hR (by decide +kernel)

/-! ### Machine/Motors.lean -/

theorem State.bridgeTo_frame {W : List Part} {R : List Regs} {s0 s : State} {b : Bridge} (hW : ∀ p ∈ ([.withy] : List Part), p
    ∈ W) (h : Frame W R s0 s) :
    Frame W R s0 (State.bridgeTo s b) := by
  unfold State.bridgeTo
  repeat' first
    | with_reducible exact h
    | with_reducible assumption
    | (extract_lets +onlyGivenNames y; clear_value y; revert y; intro _)
    | with_reducible refine upd_withy ?_ ?_

theorem State.spinTo_frame {W : List Part} {R : List Regs} {s0 s : State} {x : ℕ} {b : Bridge} (hW : ∀ p ∈ ([.mireIrq, .seqs,
    .chans, .stg, .tide, .withy] : List Part), p ∈ W) (hR : RegsIn (haltRegs ++ ([.fld .TIDE_STATUS_STATE, .fld
    .TIDE_CELL_PERIOD_PERIOD, .fld .WTH_SPN_STATUS_STATE, .fld .WTH_SPN_STATUS_AT_SPEED, .fld .WTH_SPN_STATUS_FW_ACTIVE, .fld
    .WTH_SPN_STATUS_FW_SAT, .fld .WTH_SPN_STATUS_STOP_BLOCKED, .fld .WTH_SPN_MEAS_TRACK, .fld .WTH_SPN_FOC_ID, .fld
    .WTH_SPN_FOC_MI] : List Regs)) R) (h : Frame W R s0 s) :
    Frame W R s0 (State.spinTo s x b) := by
  unfold State.spinTo
  repeat' first
    | with_reducible exact h
    | with_reducible assumption
    | (extract_lets +onlyGivenNames x; refine have_frame (x := x) ?_ (fun hx => ?_); (on_goal 2 => (clear_value x; revert x; intro _ _)); (on_goal 1 => (unfold x; clear x)))
    | (extract_lets +onlyGivenNames y; clear_value y; revert y; intro _)
    | exact parts_sub hW rfl
    | exact regs_sub hR (by decide +kernel)
    | with_reducible refine State.when_frame ?_ (fun t ht => ?_)
    | with_reducible refine State.bridgeTo_frame ?_    ?_
    | with_reducible refine State.set_frame ?_ ?_
    | with_reducible refine State.tideFree_frame ?_ ?_   ?_
    | exact cov_fld hR (by decide +kernel)
    | with_reducible refine upd_withy ?_ ?_

theorem State.measure_frame {W : List Part} {R : List Regs} {s0 s : State} {speed : ℕ} (hR : RegsIn (([.fld
    .WTH_SPN_MEAS_TRACK, .fld .WTH_SPN_MEAS_SPEED] : List Regs)) R) (h : Frame W R s0 s) :
    Frame W R s0 (State.measure s speed) := by
  unfold State.measure
  repeat' first
    | with_reducible exact h
    | with_reducible refine State.setIf_frame ?_ ?_
    | with_reducible refine State.set_frame ?_ ?_
    | exact cov_fld hR (by decide +kernel)

theorem State.spinFault_frame {W : List Part} {R : List Regs} {s0 s : State} {k : ℕ} {source : ℕ} (hW : ∀ p ∈ ([.mireIrq,
    .fenIrq, .seqs, .chans, .stg, .lev, .peat] : List Part), p ∈ W) (hR : RegsIn (alarmRegs ++ haltRegs ++ ([.fld
    .WTH_FAULT_SPN] : List Regs)) R) (h : Frame W R s0 s) :
    Frame W R s0 (State.spinFault s k source) := by
  unfold State.spinFault
  repeat' first
    | with_reducible exact h
    | with_reducible assumption
    | exact regs_sub hR (by decide +kernel)
    | with_reducible refine State.set_frame ?_ ?_
    | with_reducible refine State.raise_frame ?_ ?_   ?_
    | exact cov_fld hR (by decide +kernel)

theorem State.judgeSpeed_frame {W : List Part} {R : List Regs} {s0 s : State} (hW : ∀ p ∈ ([.mireIrq, .seqs, .chans, .stg,
    .tide] : List Part), p ∈ W) (hR : RegsIn (haltRegs ++ ([.fld .TIDE_STATUS_STATE, .fld .WTH_SPN_STATUS_SPD95, .fld
    .WTH_SPN_STATUS_SPD90, .fld .WTH_SPN_MEAS_TRACK, .fld .MBX_START_STEP] : List Regs)) R) (h : Frame W R s0 s) :
    Frame W R s0 (State.judgeSpeed s) := by
  unfold State.judgeSpeed
  repeat' first
    | with_reducible exact h
    | with_reducible assumption
    | (extract_lets +onlyGivenNames x; refine have_frame (x := x) ?_ (fun hx => ?_); (on_goal 2 => (clear_value x; revert x; intro _ _)); (on_goal 1 => (unfold x; clear x)))
    | (extract_lets +onlyGivenNames y; clear_value y; revert y; intro _)
    | exact parts_sub hW rfl
    | exact regs_sub hR (by decide +kernel)
    | with_reducible refine State.when_frame ?_ (fun t ht => ?_)
    | with_reducible refine State.acquire_frame ?_ ?_   ?_
    | with_reducible refine State.set_frame ?_ ?_
    | exact cov_fld hR (by decide +kernel)
    | with_reducible refine upd_tide ?_ ?_

theorem State.refFrom_frame {W : List Part} {R : List Regs} {s0 s : State} {speed : ℕ} (hW : ∀ p ∈ ([.tus] : List Part), p ∈
    W) (hR : RegsIn (([.fld .TUS_SPN_REF_REF] : List Regs)) R) (h : Frame W R s0 s) :
    Frame W R s0 (State.refFrom s speed) := by
  unfold State.refFrom
  repeat' first
    | with_reducible exact h
    | with_reducible assumption
    | (extract_lets +onlyGivenNames x; refine have_frame (x := x) ?_ (fun hx => ?_); (on_goal 2 => (clear_value x; revert x; intro _ _)); (on_goal 1 => (unfold x; clear x)))
    | (extract_lets +onlyGivenNames y; clear_value y; revert y; intro _)
    | with_reducible refine State.set_frame ?_ ?_
    | exact cov_fld hR (by decide +kernel)
    | with_reducible refine upd_tus ?_ ?_

theorem State.enterRun_frame {W : List Part} {R : List Regs} {s0 s : State} {speed : ℕ} (hW : ∀ p ∈ ([.mireIrq, .seqs, .chans,
    .stg, .tide, .withy, .tus] : List Part), p ∈ W) (hR : RegsIn (haltRegs ++ ([.fld .TIDE_STATUS_STATE, .fld
    .TIDE_CELL_PERIOD_PERIOD, .fld .WTH_SPN_STATUS_STATE, .fld .WTH_SPN_STATUS_AT_SPEED, .fld .WTH_SPN_STATUS_SPD95, .fld
    .WTH_SPN_STATUS_SPD90, .fld .WTH_SPN_STATUS_FW_ACTIVE, .fld .WTH_SPN_STATUS_FW_SAT, .fld .WTH_SPN_STATUS_STOP_BLOCKED,
    .fld .WTH_SPN_MEAS_TRACK, .fld .WTH_SPN_MEAS_SPEED, .fld .WTH_SPN_FOC_ID] : List Regs) ++ ([.fld .WTH_SPN_FOC_MI, .fld
    .TUS_SPN_REF_REF, .fld .MBX_START_STEP] : List Regs)) R) (h : Frame W R s0 s) :
    Frame W R s0 (State.enterRun s speed) := by
  unfold State.enterRun
  repeat' first
    | with_reducible exact h
    | exact parts_sub hW rfl
    | exact regs_sub hR (by decide +kernel)
    | with_reducible refine State.measure_frame  ?_   ?_
    | with_reducible refine State.judgeSpeed_frame ?_ ?_   ?_
    | with_reducible refine State.refFrom_frame ?_ ?_   ?_
    | with_reducible refine State.spinTo_frame ?_ ?_   ?_

theorem State.keFault_frame {W : List Part} {R : List Regs} {s0 s : State} (hW : ∀ p ∈ ([.mireIrq, .fenIrq, .seqs, .chans,
    .stg, .tide, .lev, .peat, .withy] : List Part), p ∈ W) (hR : RegsIn (alarmRegs ++ haltRegs ++ ([.fld .TIDE_STATUS_STATE,
    .fld .TIDE_CELL_PERIOD_PERIOD, .fld .WTH_SPN_STATUS_STATE, .fld .WTH_SPN_STATUS_AT_SPEED, .fld .WTH_SPN_STATUS_FW_ACTIVE,
    .fld .WTH_SPN_STATUS_FW_SAT, .fld .WTH_SPN_STATUS_STOP_BLOCKED, .fld .WTH_SPN_MEAS_TRACK, .fld .WTH_SPN_FOC_ID, .fld
    .WTH_SPN_FOC_MI, .fld .WTH_FAULT_SPN] : List Regs)) R) (h : Frame W R s0 s) :
    Frame W R s0 (State.keFault s) := by
  unfold State.keFault
  repeat' first
    | with_reducible exact h
    | exact parts_sub hW rfl
    | exact regs_sub hR (by decide +kernel)
    | with_reducible refine State.spinTo_frame ?_ ?_   ?_
    | with_reducible refine State.spinFault_frame ?_ ?_   ?_

theorem State.afterObserve_frame {W : List Part} {R : List Regs} {s0 s : State} {emf : ℕ} {speed : ℕ} {reverse : Bool} (hW : ∀
    p ∈ ([.mireIrq, .fenIrq, .seqs, .chans, .stg, .tide, .lev, .peat, .withy, .tus] : List Part), p ∈ W) (hR : RegsIn
    (alarmRegs ++ haltRegs ++ ([.fld .TIDE_STATUS_STATE, .fld .TIDE_CELL_PERIOD_PERIOD, .fld .WTH_SPN_STATUS_STATE, .fld
    .WTH_SPN_STATUS_AT_SPEED, .fld .WTH_SPN_STATUS_SPD95, .fld .WTH_SPN_STATUS_SPD90, .fld .WTH_SPN_STATUS_DIR_REV, .fld
    .WTH_SPN_STATUS_FW_ACTIVE, .fld .WTH_SPN_STATUS_FW_SAT, .fld .WTH_SPN_STATUS_STOP_BLOCKED, .fld .WTH_SPN_MEAS_TRACK, .fld
    .WTH_SPN_MEAS_SPEED] : List Regs) ++ ([.fld .WTH_SPN_KE_KE_MEAS, .fld .WTH_SPN_FOC_ID, .fld .WTH_SPN_FOC_MI, .fld
    .WTH_FAULT_SPN, .fld .TUS_SPN_REF_REF, .fld .MBX_START_STEP] : List Regs)) R) (h : Frame W R s0 s) :
    Frame W R s0 (State.afterObserve s emf speed reverse) := by
  unfold State.afterObserve
  repeat' first
    | with_reducible exact h
    | with_reducible assumption
    | (extract_lets +onlyGivenNames x; refine have_frame (x := x) ?_ (fun hx => ?_); (on_goal 2 => (clear_value x; revert x; intro _ _)); (on_goal 1 => (unfold x; clear x)))
    | (extract_lets +onlyGivenNames y; clear_value y; revert y; intro _)
    | exact parts_sub hW rfl
    | exact regs_sub hR (by decide +kernel)
    | with_reducible refine ite_frame (fun _ => ?_) (fun _ => ?_)
    | with_reducible refine State.spinTo_frame ?_ ?_   ?_
    | with_reducible refine State.measure_frame  ?_   ?_
    | with_reducible refine State.enterRun_frame ?_ ?_   ?_
    | with_reducible refine State.keFault_frame ?_ ?_   ?_
    | with_reducible refine State.set_frame ?_ ?_
    | exact cov_fld hR (by decide +kernel)
    | with_reducible refine upd_withy ?_ ?_

theorem State.holdMa_frame {W : List Part} {R : List Regs} {s0 s : State} {n : ℕ} (hR : RegsIn (([.arr (.WTH_MA_CTRL_HOLD 0)
    0x4 8, .arr (.WTH_MA_STATUS_VOUT 0) 0x4 8] : List Regs)) R) (h : Frame W R s0 s) :
    Frame W R s0 (State.holdMa s n) := by
  unfold State.holdMa
  repeat' first
    | with_reducible exact h
    | with_reducible refine State.set_frame ?_ ?_
    | exact cov_arr (f := .WTH_MA_CTRL_HOLD 0) (k := 0x4) (m := 8) hR (by decide +kernel) (by decide) rfl
    | exact cov_arr (f := .WTH_MA_STATUS_VOUT 0) (k := 0x4) (m := 8) hR (by decide +kernel) (by decide) rfl

theorem State.driveVcm_frame {W : List Part} {R : List Regs} {s0 s : State} {k : ℕ} (hW : ∀ p ∈ ([.withy] : List Part), p ∈ W)
    (h : Frame W R s0 s) :
    Frame W R s0 (State.driveVcm s k) := by
  unfold State.driveVcm
  repeat' first
    | with_reducible exact h
    | with_reducible assumption
    | (extract_lets +onlyGivenNames y; clear_value y; revert y; intro _)
    | with_reducible refine upd_withy ?_ ?_

theorem State.driveMa_frame {W : List Part} {R : List Regs} {s0 s : State} {n : ℕ} (hR : RegsIn (([.arr (.WTH_MA_STATUS_VOUT
    0) 0x4 8] : List Regs)) R) (h : Frame W R s0 s) :
    Frame W R s0 (State.driveMa s n) := by
  unfold State.driveMa
  repeat' first
    | with_reducible exact h
    | with_reducible refine State.setS_frame ?_ ?_
    | exact cov_arr (f := .WTH_MA_STATUS_VOUT 0) (k := 0x4) (m := 8) hR (by decide +kernel) (by decide) rfl

theorem State.holdAtStop_frame {W : List Part} {R : List Regs} {s0 s : State} {k : ℕ} (hW : ∀ p ∈ ([.withy] : List Part), p ∈
    W) (h : Frame W R s0 s) :
    Frame W R s0 (State.holdAtStop s k) := by
  unfold State.holdAtStop
  repeat' first
    | with_reducible exact h
    | with_reducible assumption
    | (extract_lets +onlyGivenNames y; clear_value y; revert y; intro _)
    | with_reducible refine upd_withy ?_ ?_

theorem State.startRetract_frame {W : List Part} {R : List Regs} {s0 s : State} {k : ℕ} (hW : ∀ p ∈ ([.seqs, .chans, .withy] :
    List Part), p ∈ W) (hR : RegsIn (([.fld .SDG_WF_STATUS_CAUSE_SEEN, .arr (.SDG_WR_STATUS_WG 0) 0x400 8, .arr
    (.SDG_WR_STATUS_CAUSE 0) 0x400 8, .arr (.SDG_WR_STATUS_DROPS 0) 0x400 8, .arr (.SDG_WR_DROP_MANG 0) 0x400 8, .arr
    (.WTH_VCM_STATUS_RET_ACTIVE 0) 0x4 4, .arr (.WTH_VCM_STATUS_ENABLED 0) 0x4 4, .arr (.WTH_MA_CTRL_HOLD 0) 0x4 8, .arr
    (.WTH_MA_STATUS_VOUT 0) 0x4 8] : List Regs)) R) (h : Frame W R s0 s) :
    Frame W R s0 (State.startRetract s k) := by
  unfold State.startRetract
  repeat' first
    | with_reducible exact h
    | with_reducible assumption
    | (extract_lets +onlyGivenNames x; refine have_frame (x := x) ?_ (fun hx => ?_); (on_goal 2 => (clear_value x; revert x; intro _ _)); (on_goal 1 => (unfold x; clear x)))
    | (extract_lets +onlyGivenNames y; clear_value y; revert y; intro _)
    | exact parts_sub hW rfl
    | exact regs_sub hR (by decide +kernel)
    | with_reducible refine ite_frame (fun _ => ?_) (fun _ => ?_)
    | with_reducible refine State.inhibitDrop_frame ?_ ?_   ?_
    | with_reducible refine State.driveVcm_frame ?_    ?_
    | with_reducible refine State.holdMa_frame  ?_   ?_
    | with_reducible refine State.set_frame ?_ ?_
    | exact cov_arr (f := .WTH_VCM_STATUS_RET_ACTIVE 0) (k := 0x4) (m := 4) hR (by decide +kernel) (by decide) rfl
    | exact cov_arr (f := .WTH_VCM_STATUS_ENABLED 0) (k := 0x4) (m := 4) hR (by decide +kernel) (by decide) rfl
    | with_reducible refine upd_withy ?_ ?_

theorem State.retractAll_frame {W : List Part} {R : List Regs} {s0 s : State} (hW : ∀ p ∈ ([.seqs, .chans, .withy] : List
    Part), p ∈ W) (hR : RegsIn (([.fld .SDG_WF_STATUS_CAUSE_SEEN, .arr (.SDG_WR_STATUS_WG 0) 0x400 8, .arr
    (.SDG_WR_STATUS_CAUSE 0) 0x400 8, .arr (.SDG_WR_STATUS_DROPS 0) 0x400 8, .arr (.SDG_WR_DROP_MANG 0) 0x400 8, .arr
    (.WTH_VCM_STATUS_RET_ACTIVE 0) 0x4 4, .arr (.WTH_VCM_STATUS_ENABLED 0) 0x4 4, .arr (.WTH_MA_CTRL_HOLD 0) 0x4 8, .arr
    (.WTH_MA_STATUS_VOUT 0) 0x4 8] : List Regs)) R) (h : Frame W R s0 s) :
    Frame W R s0 (State.retractAll s) := by
  unfold State.retractAll
  repeat' first
    | with_reducible exact h
    | with_reducible assumption
    | with_reducible refine State.when_frame ?_ (fun t ht => ?_)
    | with_reducible refine State.forN_frame ?_ (fun i t ht => ?_)
    | with_reducible refine State.startRetract_frame ?_ ?_   ?_

theorem State.bridgeOff_frame {W : List Part} {R : List Regs} {s0 s : State} {k : ℕ} (hW : ∀ p ∈ ([.withy] : List Part), p ∈
    W) (hR : RegsIn (([.arr (.WTH_VCM_CTRL_EN 0) 0x4 4, .arr (.WTH_VCM_STATUS_ENABLED 0) 0x4 4] : List Regs)) R) (h : Frame W
    R s0 s) :
    Frame W R s0 (State.bridgeOff s k) := by
  unfold State.bridgeOff
  repeat' first
    | with_reducible exact h
    | with_reducible assumption
    | (extract_lets +onlyGivenNames x; refine have_frame (x := x) ?_ (fun hx => ?_); (on_goal 2 => (clear_value x; revert x; intro _ _)); (on_goal 1 => (unfold x; clear x)))
    | (extract_lets +onlyGivenNames y; clear_value y; revert y; intro _)
    | with_reducible refine State.set_frame ?_ ?_
    | exact cov_arr (f := .WTH_VCM_CTRL_EN 0) (k := 0x4) (m := 4) hR (by decide +kernel) (by decide) rfl
    | exact cov_arr (f := .WTH_VCM_STATUS_ENABLED 0) (k := 0x4) (m := 4) hR (by decide +kernel) (by decide) rfl
    | with_reducible refine upd_withy ?_ ?_

theorem State.runStart_frame {W : List Part} {R : List Regs} {s0 s : State} (hW : ∀ p ∈ ([.mireIrq, .seqs, .chans, .stg,
    .tide, .withy] : List Part), p ∈ W) (hR : RegsIn (haltRegs ++ ([.fld .TIDE_STATUS_STATE, .fld .TIDE_CELL_PERIOD_PERIOD,
    .fld .WTH_SPN_CTRL_RUN, .fld .WTH_SPN_STATUS_STATE, .fld .WTH_SPN_STATUS_ATTEMPT, .fld .WTH_SPN_STATUS_AT_SPEED, .fld
    .WTH_SPN_STATUS_SPD95, .fld .WTH_SPN_STATUS_SPD90, .fld .WTH_SPN_STATUS_DIR_REV, .fld .WTH_SPN_STATUS_FW_ACTIVE, .fld
    .WTH_SPN_STATUS_FW_SAT, .fld .WTH_SPN_STATUS_STOP_BLOCKED] : List Regs) ++ ([.fld .WTH_SPN_MEAS_TRACK, .fld
    .WTH_SPN_FOC_ID, .fld .WTH_SPN_FOC_MI] : List Regs)) R) (h : Frame W R s0 s) :
    Frame W R s0 (State.runStart s) := by
  unfold State.runStart
  repeat' first
    | with_reducible exact h
    | with_reducible assumption
    | (extract_lets +onlyGivenNames x; refine have_frame (x := x) ?_ (fun hx => ?_); (on_goal 2 => (clear_value x; revert x; intro _ _)); (on_goal 1 => (unfold x; clear x)))
    | (extract_lets +onlyGivenNames y; clear_value y; revert y; intro _)
    | exact parts_sub hW rfl
    | exact regs_sub hR (by decide +kernel)
    | with_reducible refine ite_frame (fun _ => ?_) (fun _ => ?_)
    | with_reducible refine State.spinTo_frame ?_ ?_   ?_
    | with_reducible refine State.set_frame ?_ ?_
    | exact cov_fld hR (by decide +kernel)
    | with_reducible refine upd_withy ?_ ?_

theorem execRunStart_frame {W : List Part} {R : List Regs} {s : State} (hW : ∀ p ∈ ([.bus, .mireIrq, .seqs, .chans, .stg,
    .tide, .withy] : List Part), p ∈ W) (hR : RegsIn (haltRegs ++ ([.fld .TIDE_STATUS_STATE, .fld .TIDE_CELL_PERIOD_PERIOD,
    .fld .WTH_SPN_CTRL_RUN, .fld .WTH_SPN_STATUS_STATE, .fld .WTH_SPN_STATUS_ATTEMPT, .fld .WTH_SPN_STATUS_AT_SPEED, .fld
    .WTH_SPN_STATUS_SPD95, .fld .WTH_SPN_STATUS_SPD90, .fld .WTH_SPN_STATUS_DIR_REV, .fld .WTH_SPN_STATUS_FW_ACTIVE, .fld
    .WTH_SPN_STATUS_FW_SAT, .fld .WTH_SPN_STATUS_STOP_BLOCKED] : List Regs) ++ ([.fld .WTH_SPN_MEAS_TRACK, .fld
    .WTH_SPN_FOC_ID, .fld .WTH_SPN_FOC_MI] : List Regs)) R) :
    OutFrame W R s (execRunStart s) := by
  unfold execRunStart
  repeat' first
    | exact parts_sub hW rfl
    | with_reducible refine next_frame ?_
    | with_reducible assumption
    | with_reducible exact Frame.refl _ _ _
    | with_reducible refine State.ack_frame ?_    ?_
    | with_reducible refine State.runStart_frame ?_ ?_   ?_

theorem State.runStop_frame {W : List Part} {R : List Regs} {s0 s : State} (hW : ∀ p ∈ ([.mireIrq, .seqs, .chans, .stg, .tide,
    .withy] : List Part), p ∈ W) (hR : RegsIn (haltRegs ++ ([.fld .TIDE_STATUS_STATE, .fld .TIDE_CELL_PERIOD_PERIOD, .fld
    .WTH_SPN_CTRL_RUN, .fld .WTH_SPN_STATUS_STATE, .fld .WTH_SPN_STATUS_AT_SPEED, .fld .WTH_SPN_STATUS_FW_ACTIVE, .fld
    .WTH_SPN_STATUS_FW_SAT, .fld .WTH_SPN_STATUS_STOP_BLOCKED, .fld .WTH_SPN_MEAS_TRACK, .fld .WTH_SPN_FOC_ID, .fld
    .WTH_SPN_FOC_MI] : List Regs)) R) (h : Frame W R s0 s) :
    Frame W R s0 (State.runStop s) := by
  unfold State.runStop
  repeat' first
    | with_reducible exact h
    | with_reducible assumption
    | (extract_lets +onlyGivenNames x; refine have_frame (x := x) ?_ (fun hx => ?_); (on_goal 2 => (clear_value x; revert x; intro _ _)); (on_goal 1 => (unfold x; clear x)))
    | exact regs_sub hR (by decide +kernel)
    | with_reducible refine ite_frame (fun _ => ?_) (fun _ => ?_)
    | with_reducible refine State.spinTo_frame ?_ ?_   ?_
    | with_reducible refine State.set_frame ?_ ?_
    | exact cov_fld hR (by decide +kernel)
    | split

theorem execRunStop_frame {W : List Part} {R : List Regs} {s : State} (hW : ∀ p ∈ ([.bus, .mireIrq, .seqs, .chans, .stg,
    .tide, .withy] : List Part), p ∈ W) (hR : RegsIn (haltRegs ++ ([.fld .TIDE_STATUS_STATE, .fld .TIDE_CELL_PERIOD_PERIOD,
    .fld .WTH_SPN_CTRL_RUN, .fld .WTH_SPN_STATUS_STATE, .fld .WTH_SPN_STATUS_AT_SPEED, .fld .WTH_SPN_STATUS_FW_ACTIVE, .fld
    .WTH_SPN_STATUS_FW_SAT, .fld .WTH_SPN_STATUS_STOP_BLOCKED, .fld .WTH_SPN_MEAS_TRACK, .fld .WTH_SPN_FOC_ID, .fld
    .WTH_SPN_FOC_MI] : List Regs)) R) :
    OutFrame W R s (execRunStop s) := by
  unfold execRunStop
  repeat' first
    | exact parts_sub hW rfl
    | with_reducible refine next_frame ?_
    | with_reducible assumption
    | with_reducible exact Frame.refl _ _ _
    | with_reducible refine State.runStop_frame ?_ ?_   ?_
    | with_reducible refine State.ack_frame ?_    ?_

theorem execStopProceed_frame {W : List Part} {R : List Regs} {s : State} (hW : ∀ p ∈ ([.mireIrq, .seqs, .chans, .stg, .tide,
    .withy] : List Part), p ∈ W) (hR : RegsIn (haltRegs ++ ([.fld .TIDE_STATUS_STATE, .fld .TIDE_CELL_PERIOD_PERIOD, .fld
    .WTH_SPN_STATUS_STATE, .fld .WTH_SPN_STATUS_AT_SPEED, .fld .WTH_SPN_STATUS_FW_ACTIVE, .fld .WTH_SPN_STATUS_FW_SAT, .fld
    .WTH_SPN_STATUS_STOP_BLOCKED, .fld .WTH_SPN_MEAS_TRACK, .fld .WTH_SPN_FOC_ID, .fld .WTH_SPN_FOC_MI] : List Regs)) R) :
    OutFrame W R s (execStopProceed s) := by
  unfold execStopProceed
  repeat' first
    | exact parts_sub hW rfl
    | with_reducible refine next_frame ?_
    | with_reducible assumption
    | with_reducible exact Frame.refl _ _ _
    | with_reducible refine State.when_frame ?_ (fun t ht => ?_)
    | with_reducible refine State.spinTo_frame ?_ ?_   ?_

theorem State.clearFault_frame {W : List Part} {R : List Regs} {s0 s : State} {emf : ℕ} (hW : ∀ p ∈ ([.mireIrq, .seqs, .chans,
    .stg, .tide, .withy] : List Part), p ∈ W) (hR : RegsIn (haltRegs ++ ([.fld .TIDE_STATUS_STATE, .fld
    .TIDE_CELL_PERIOD_PERIOD, .fld .WTH_SPN_STATUS_STATE, .fld .WTH_SPN_STATUS_AT_SPEED, .fld .WTH_SPN_STATUS_FW_ACTIVE, .fld
    .WTH_SPN_STATUS_FW_SAT, .fld .WTH_SPN_STATUS_STOP_BLOCKED, .fld .WTH_SPN_MEAS_TRACK, .fld .WTH_SPN_FOC_ID, .fld
    .WTH_SPN_FOC_MI] : List Regs)) R) (h : Frame W R s0 s) :
    Frame W R s0 (State.clearFault s emf) := by
  unfold State.clearFault
  repeat' first
    | with_reducible exact h
    | with_reducible assumption
    | with_reducible refine State.when_frame ?_ (fun t ht => ?_)
    | with_reducible refine State.spinTo_frame ?_ ?_   ?_

theorem execClrFault_frame {W : List Part} {R : List Regs} {s : State} {emf : ℕ} (hW : ∀ p ∈ ([.bus, .mireIrq, .seqs, .chans,
    .stg, .tide, .withy] : List Part), p ∈ W) (hR : RegsIn (haltRegs ++ ([.fld .TIDE_STATUS_STATE, .fld
    .TIDE_CELL_PERIOD_PERIOD, .fld .WTH_SPN_STATUS_STATE, .fld .WTH_SPN_STATUS_AT_SPEED, .fld .WTH_SPN_STATUS_FW_ACTIVE, .fld
    .WTH_SPN_STATUS_FW_SAT, .fld .WTH_SPN_STATUS_STOP_BLOCKED, .fld .WTH_SPN_MEAS_TRACK, .fld .WTH_SPN_FOC_ID, .fld
    .WTH_SPN_FOC_MI] : List Regs)) R) :
    OutFrame W R s (execClrFault emf s) := by
  unfold execClrFault
  repeat' first
    | exact parts_sub hW rfl
    | with_reducible refine next_frame ?_
    | with_reducible assumption
    | with_reducible exact Frame.refl _ _ _
    | with_reducible refine State.clearFault_frame ?_ ?_   ?_
    | with_reducible refine State.ack_frame ?_    ?_

theorem execObserveEnd_frame {W : List Part} {R : List Regs} {s : State} {emf : ℕ} {speed : ℕ} {reverse : Bool} (hW : ∀ p ∈
    ([.mireIrq, .fenIrq, .seqs, .chans, .stg, .tide, .lev, .peat, .withy, .tus] : List Part), p ∈ W) (hR : RegsIn (alarmRegs
    ++ haltRegs ++ ([.fld .TIDE_STATUS_STATE, .fld .TIDE_CELL_PERIOD_PERIOD, .fld .WTH_SPN_STATUS_STATE, .fld
    .WTH_SPN_STATUS_AT_SPEED, .fld .WTH_SPN_STATUS_SPD95, .fld .WTH_SPN_STATUS_SPD90, .fld .WTH_SPN_STATUS_DIR_REV, .fld
    .WTH_SPN_STATUS_FW_ACTIVE, .fld .WTH_SPN_STATUS_FW_SAT, .fld .WTH_SPN_STATUS_STOP_BLOCKED, .fld .WTH_SPN_MEAS_TRACK, .fld
    .WTH_SPN_MEAS_SPEED] : List Regs) ++ ([.fld .WTH_SPN_KE_KE_MEAS, .fld .WTH_SPN_FOC_ID, .fld .WTH_SPN_FOC_MI, .fld
    .WTH_FAULT_SPN, .fld .TUS_SPN_REF_REF, .fld .MBX_START_STEP] : List Regs)) R) :
    OutFrame W R s (execObserveEnd emf speed reverse s) := by
  unfold execObserveEnd
  repeat' first
    | (extract_lets +onlyGivenNames x; refine have_out (x := x) ?_ (fun hx => ?_); (on_goal 2 => (clear_value x; revert x; intro _ _)); (on_goal 1 => (unfold x; clear x)))
    | exact parts_sub hW rfl
    | with_reducible refine next_frame ?_
    | with_reducible refine ite_out (fun _ => ?_) (fun _ => ?_)
    | with_reducible assumption
    | exact regs_sub hR (by decide +kernel)
    | with_reducible exact Frame.refl _ _ _
    | with_reducible refine ite_frame (fun _ => ?_) (fun _ => ?_)
    | with_reducible refine State.measure_frame  ?_   ?_
    | with_reducible refine State.afterObserve_frame ?_ ?_   ?_
    | with_reducible refine State.setIf_frame ?_ ?_
    | with_reducible refine State.spinTo_frame ?_ ?_   ?_
    | with_reducible refine State.set_frame ?_ ?_
    | exact cov_fld hR (by decide +kernel)

theorem execAlignSecondAngle_frame {W : List Part} {R : List Regs} {s : State} (hW : ∀ p ∈ ([.withy] : List Part), p ∈ W) :
    OutFrame W R s (execAlignSecondAngle s) := by
  unfold execAlignSecondAngle
  repeat' first
    | exact parts_sub hW rfl
    | with_reducible refine next_frame ?_
    | with_reducible assumption
    | with_reducible exact Frame.refl _ _ _
    | with_reducible refine State.when_frame ?_ (fun t ht => ?_)
    | with_reducible refine State.bridgeTo_frame ?_    ?_

theorem execAlignEnd_frame {W : List Part} {R : List Regs} {s : State} (hW : ∀ p ∈ ([.mireIrq, .seqs, .chans, .stg, .tide,
    .withy] : List Part), p ∈ W) (hR : RegsIn (haltRegs ++ ([.fld .TIDE_STATUS_STATE, .fld .TIDE_CELL_PERIOD_PERIOD, .fld
    .WTH_SPN_STATUS_STATE, .fld .WTH_SPN_STATUS_AT_SPEED, .fld .WTH_SPN_STATUS_FW_ACTIVE, .fld .WTH_SPN_STATUS_FW_SAT, .fld
    .WTH_SPN_STATUS_STOP_BLOCKED, .fld .WTH_SPN_MEAS_TRACK, .fld .WTH_SPN_FOC_ID, .fld .WTH_SPN_FOC_MI] : List Regs)) R) :
    OutFrame W R s (execAlignEnd s) := by
  unfold execAlignEnd
  repeat' first
    | exact parts_sub hW rfl
    | with_reducible refine next_frame ?_
    | with_reducible assumption
    | with_reducible exact Frame.refl _ _ _
    | with_reducible refine State.when_frame ?_ (fun t ht => ?_)
    | with_reducible refine State.spinTo_frame ?_ ?_   ?_

theorem execRampReached_frame {W : List Part} {R : List Regs} {s : State} (hW : ∀ p ∈ ([.withy] : List Part), p ∈ W) (hR :
    RegsIn (([.fld .WTH_SPN_MEAS_TRACK, .fld .WTH_SPN_MEAS_SPEED] : List Regs)) R) :
    OutFrame W R s (execRampReached s) := by
  unfold execRampReached
  repeat' first
    | (extract_lets +onlyGivenNames x; refine have_frame (x := x) ?_ (fun hx => ?_); (on_goal 2 => (clear_value x; revert x; intro _ _)); (on_goal 1 => (unfold x; clear x)))
    | (extract_lets +onlyGivenNames y; clear_value y; revert y; intro _)
    | exact parts_sub hW rfl
    | with_reducible refine next_frame ?_
    | with_reducible assumption
    | with_reducible exact Frame.refl _ _ _
    | with_reducible refine State.when_frame ?_ (fun t ht => ?_)
    | with_reducible refine State.measure_frame  ?_   ?_
    | with_reducible refine upd_withy ?_ ?_

theorem execHandover_frame {W : List Part} {R : List Regs} {s : State} {speed : ℕ} (hW : ∀ p ∈ ([.mireIrq, .seqs, .chans,
    .stg, .tide, .withy, .tus] : List Part), p ∈ W) (hR : RegsIn (haltRegs ++ ([.fld .TIDE_STATUS_STATE, .fld
    .TIDE_CELL_PERIOD_PERIOD, .fld .WTH_SPN_STATUS_STATE, .fld .WTH_SPN_STATUS_AT_SPEED, .fld .WTH_SPN_STATUS_SPD95, .fld
    .WTH_SPN_STATUS_SPD90, .fld .WTH_SPN_STATUS_FW_ACTIVE, .fld .WTH_SPN_STATUS_FW_SAT, .fld .WTH_SPN_STATUS_STOP_BLOCKED,
    .fld .WTH_SPN_MEAS_TRACK, .fld .WTH_SPN_MEAS_SPEED, .fld .WTH_SPN_FOC_ID] : List Regs) ++ ([.fld .WTH_SPN_FOC_MI, .fld
    .TUS_SPN_REF_REF, .fld .MBX_START_STEP] : List Regs)) R) :
    OutFrame W R s (execHandover speed s) := by
  unfold execHandover
  repeat' first
    | exact parts_sub hW rfl
    | with_reducible refine next_frame ?_
    | with_reducible assumption
    | with_reducible exact Frame.refl _ _ _
    | with_reducible refine State.when_frame ?_ (fun t ht => ?_)
    | with_reducible refine State.enterRun_frame ?_ ?_   ?_

theorem execHandoverFail_frame {W : List Part} {R : List Regs} {s : State} (hW : ∀ p ∈ ([.mireIrq, .fenIrq, .seqs, .chans,
    .stg, .tide, .lev, .peat, .withy] : List Part), p ∈ W) (hR : RegsIn (alarmRegs ++ haltRegs ++ ([.fld .TIDE_STATUS_STATE,
    .fld .TIDE_CELL_PERIOD_PERIOD, .fld .WTH_SPN_STATUS_STATE, .fld .WTH_SPN_STATUS_ATTEMPT, .fld .WTH_SPN_STATUS_AT_SPEED,
    .fld .WTH_SPN_STATUS_FW_ACTIVE, .fld .WTH_SPN_STATUS_FW_SAT, .fld .WTH_SPN_STATUS_STOP_BLOCKED, .fld .WTH_SPN_MEAS_TRACK,
    .fld .WTH_SPN_FOC_ID, .fld .WTH_SPN_FOC_MI, .fld .WTH_FAULT_SPN] : List Regs)) R) :
    OutFrame W R s (execHandoverFail s) := by
  unfold execHandoverFail
  repeat' first
    | (extract_lets +onlyGivenNames x; refine have_frame (x := x) ?_ (fun hx => ?_); (on_goal 2 => (clear_value x; revert x; intro _ _)); (on_goal 1 => (unfold x; clear x)))
    | (extract_lets +onlyGivenNames y; clear_value y; revert y; intro _)
    | exact parts_sub hW rfl
    | with_reducible refine next_frame ?_
    | with_reducible assumption
    | exact regs_sub hR (by decide +kernel)
    | with_reducible exact Frame.refl _ _ _
    | with_reducible refine ite_frame (fun _ => ?_) (fun _ => ?_)
    | with_reducible refine State.when_frame ?_ (fun t ht => ?_)
    | with_reducible refine State.spinTo_frame ?_ ?_   ?_
    | with_reducible refine State.bridgeTo_frame ?_    ?_
    | with_reducible refine State.inc_frame ?_ ?_
    | with_reducible refine State.spinFault_frame ?_ ?_   ?_
    | exact cov_fld hR (by decide +kernel)
    | with_reducible refine upd_withy ?_ ?_

theorem execHandoverObserveEnd_frame {W : List Part} {R : List Regs} {s : State} {emf : ℕ} {speed : ℕ} {reverse : Bool} (hW :
    ∀ p ∈ ([.mireIrq, .fenIrq, .seqs, .chans, .stg, .tide, .lev, .peat, .withy, .tus] : List Part), p ∈ W) (hR : RegsIn
    (alarmRegs ++ haltRegs ++ ([.fld .TIDE_STATUS_STATE, .fld .TIDE_CELL_PERIOD_PERIOD, .fld .WTH_SPN_STATUS_STATE, .fld
    .WTH_SPN_STATUS_AT_SPEED, .fld .WTH_SPN_STATUS_SPD95, .fld .WTH_SPN_STATUS_SPD90, .fld .WTH_SPN_STATUS_DIR_REV, .fld
    .WTH_SPN_STATUS_FW_ACTIVE, .fld .WTH_SPN_STATUS_FW_SAT, .fld .WTH_SPN_STATUS_STOP_BLOCKED, .fld .WTH_SPN_MEAS_TRACK, .fld
    .WTH_SPN_MEAS_SPEED] : List Regs) ++ ([.fld .WTH_SPN_KE_KE_MEAS, .fld .WTH_SPN_FOC_ID, .fld .WTH_SPN_FOC_MI, .fld
    .WTH_FAULT_SPN, .fld .TUS_SPN_REF_REF, .fld .MBX_START_STEP] : List Regs)) R) :
    OutFrame W R s (execHandoverObserveEnd emf speed reverse s) := by
  unfold execHandoverObserveEnd
  repeat' first
    | exact parts_sub hW rfl
    | with_reducible refine next_frame ?_
    | with_reducible assumption
    | with_reducible exact Frame.refl _ _ _
    | with_reducible refine State.when_frame ?_ (fun t ht => ?_)
    | with_reducible refine State.afterObserve_frame ?_ ?_   ?_

theorem execBrakeRest_frame {W : List Part} {R : List Regs} {s : State} (hW : ∀ p ∈ ([.mireIrq, .seqs, .chans, .stg, .tide,
    .withy] : List Part), p ∈ W) (hR : RegsIn (haltRegs ++ ([.fld .TIDE_STATUS_STATE, .fld .TIDE_CELL_PERIOD_PERIOD, .fld
    .WTH_SPN_STATUS_STATE, .fld .WTH_SPN_STATUS_AT_SPEED, .fld .WTH_SPN_STATUS_FW_ACTIVE, .fld .WTH_SPN_STATUS_FW_SAT, .fld
    .WTH_SPN_STATUS_STOP_BLOCKED, .fld .WTH_SPN_MEAS_TRACK, .fld .WTH_SPN_FOC_ID, .fld .WTH_SPN_FOC_MI] : List Regs)) R) :
    OutFrame W R s (execBrakeRest s) := by
  unfold execBrakeRest
  repeat' first
    | exact parts_sub hW rfl
    | with_reducible refine next_frame ?_
    | with_reducible assumption
    | with_reducible exact Frame.refl _ _ _
    | with_reducible refine ite_frame (fun _ => ?_) (fun _ => ?_)
    | with_reducible refine State.bridgeTo_frame ?_    ?_
    | with_reducible refine State.spinTo_frame ?_ ?_   ?_
    | split

theorem execWthBrakeTimeout_frame {W : List Part} {R : List Regs} {s : State} (hW : ∀ p ∈ ([.mireIrq, .fenIrq, .seqs, .chans,
    .stg, .tide, .lev, .peat, .withy] : List Part), p ∈ W) (hR : RegsIn (alarmRegs ++ haltRegs ++ ([.fld .TIDE_STATUS_STATE,
    .fld .TIDE_CELL_PERIOD_PERIOD, .fld .WTH_SPN_STATUS_STATE, .fld .WTH_SPN_STATUS_AT_SPEED, .fld .WTH_SPN_STATUS_FW_ACTIVE,
    .fld .WTH_SPN_STATUS_FW_SAT, .fld .WTH_SPN_STATUS_STOP_BLOCKED, .fld .WTH_SPN_MEAS_TRACK, .fld .WTH_SPN_FOC_ID, .fld
    .WTH_SPN_FOC_MI, .fld .WTH_FAULT_SPN] : List Regs)) R) :
    OutFrame W R s (execWthBrakeTimeout s) := by
  unfold execWthBrakeTimeout
  repeat' first
    | exact parts_sub hW rfl
    | with_reducible refine next_frame ?_
    | with_reducible assumption
    | exact regs_sub hR (by decide +kernel)
    | with_reducible exact Frame.refl _ _ _
    | with_reducible refine State.when_frame ?_ (fun t ht => ?_)
    | with_reducible refine State.spinTo_frame ?_ ?_   ?_
    | with_reducible refine State.spinFault_frame ?_ ?_   ?_

theorem State.elecPeriod_frame {W : List Part} {R : List Regs} {s0 s : State} {cycles : ℕ} (hW : ∀ p ∈ ([.withy] : List Part),
    p ∈ W) (hR : RegsIn (([.fld .WTH_SPN_STATUS_AT_SPEED] : List Regs)) R) (h : Frame W R s0 s) :
    Frame W R s0 (State.elecPeriod s cycles) := by
  unfold State.elecPeriod
  repeat' first
    | with_reducible exact h
    | with_reducible assumption
    | (extract_lets +onlyGivenNames y; clear_value y; revert y; intro _)
    | with_reducible refine ite_frame (fun _ => ?_) (fun _ => ?_)
    | with_reducible refine State.revolution_frame ?_ ?_   ?_
    | with_reducible refine upd_withy ?_ ?_

theorem execFocPeriod_frame {W : List Part} {R : List Regs} {s : State} {speed : ℕ} {id : ℤ} {mi : ℕ} {elec : Option ℕ} (hW :
    ∀ p ∈ ([.mireIrq, .seqs, .chans, .stg, .tide, .withy] : List Part), p ∈ W) (hR : RegsIn (haltRegs ++ ([.fld
    .TIDE_STATUS_STATE, .fld .WTH_SPN_STATUS_AT_SPEED, .fld .WTH_SPN_STATUS_SPD95, .fld .WTH_SPN_STATUS_SPD90, .fld
    .WTH_SPN_STATUS_FW_ACTIVE, .fld .WTH_SPN_STATUS_FW_SAT, .fld .WTH_SPN_MEAS_TRACK, .fld .WTH_SPN_MEAS_SPEED, .fld
    .WTH_SPN_FOC_ID, .fld .WTH_SPN_FOC_MI, .fld .MBX_START_STEP] : List Regs)) R) :
    OutFrame W R s (execFocPeriod speed id mi elec s) := by
  unfold execFocPeriod
  repeat' first
    | (extract_lets +onlyGivenNames x; refine have_out (x := x) ?_ (fun hx => ?_); (on_goal 2 => (clear_value x; revert x; intro _ _)); (on_goal 1 => (unfold x; clear x)))
    | (extract_lets +onlyGivenNames y; clear_value y; revert y; intro _)
    | exact parts_sub hW rfl
    | with_reducible refine next_frame ?_
    | with_reducible assumption
    | exact regs_sub hR (by decide +kernel)
    | with_reducible exact Frame.refl _ _ _
    | with_reducible refine ite_frame (fun _ => ?_) (fun _ => ?_)
    | with_reducible refine State.when_frame ?_ (fun t ht => ?_)
    | with_reducible refine State.setS_frame ?_ ?_
    | with_reducible refine State.judgeSpeed_frame ?_ ?_   ?_
    | with_reducible refine State.bridgeTo_frame ?_    ?_
    | with_reducible refine State.measure_frame  ?_   ?_
    | with_reducible refine State.setIf_frame ?_ ?_
    | with_reducible refine State.elecPeriod_frame ?_ ?_   ?_
    | with_reducible refine State.set_frame ?_ ?_
    | exact cov_fld hR (by decide +kernel)
    | split
    | with_reducible refine upd_withy ?_ ?_

theorem execKeCheckStart_frame {W : List Part} {R : List Regs} {s : State} (hW : ∀ p ∈ ([.withy] : List Part), p ∈ W) :
    OutFrame W R s (execKeCheckStart s) := by
  unfold execKeCheckStart
  repeat' first
    | (extract_lets +onlyGivenNames x; refine have_frame (x := x) ?_ (fun hx => ?_); (on_goal 2 => (clear_value x; revert x; intro _ _)); (on_goal 1 => (unfold x; clear x)))
    | (extract_lets +onlyGivenNames y; clear_value y; revert y; intro _)
    | exact parts_sub hW rfl
    | with_reducible refine next_frame ?_
    | with_reducible assumption
    | with_reducible exact Frame.refl _ _ _
    | with_reducible refine State.when_frame ?_ (fun t ht => ?_)
    | with_reducible refine State.bridgeTo_frame ?_    ?_
    | with_reducible refine upd_withy ?_ ?_

theorem execKeCheckEnd_frame {W : List Part} {R : List Regs} {s : State} {emf : ℕ} {speed : ℕ} (hW : ∀ p ∈ ([.mireIrq,
    .fenIrq, .seqs, .chans, .stg, .tide, .lev, .peat, .withy, .tus] : List Part), p ∈ W) (hR : RegsIn (alarmRegs ++ haltRegs
    ++ ([.fld .TIDE_STATUS_STATE, .fld .TIDE_CELL_PERIOD_PERIOD, .fld .WTH_SPN_STATUS_STATE, .fld .WTH_SPN_STATUS_AT_SPEED,
    .fld .WTH_SPN_STATUS_FW_ACTIVE, .fld .WTH_SPN_STATUS_FW_SAT, .fld .WTH_SPN_STATUS_STOP_BLOCKED, .fld .WTH_SPN_MEAS_TRACK,
    .fld .WTH_SPN_MEAS_SPEED, .fld .WTH_SPN_KE_KE_MEAS, .fld .WTH_SPN_FOC_ID, .fld .WTH_SPN_FOC_MI] : List Regs) ++ ([.fld
    .WTH_FAULT_SPN, .fld .TUS_SPN_REF_REF] : List Regs)) R) :
    OutFrame W R s (execKeCheckEnd emf speed s) := by
  unfold execKeCheckEnd
  repeat' first
    | (extract_lets +onlyGivenNames x; refine have_frame (x := x) ?_ (fun hx => ?_); (on_goal 2 => (clear_value x; revert x; intro _ _)); (on_goal 1 => (unfold x; clear x)))
    | (extract_lets +onlyGivenNames y; clear_value y; revert y; intro _)
    | exact parts_sub hW rfl
    | with_reducible refine next_frame ?_
    | with_reducible assumption
    | exact regs_sub hR (by decide +kernel)
    | with_reducible exact Frame.refl _ _ _
    | with_reducible refine ite_frame (fun _ => ?_) (fun _ => ?_)
    | with_reducible refine State.when_frame ?_ (fun t ht => ?_)
    | with_reducible refine State.refFrom_frame ?_ ?_   ?_
    | with_reducible refine State.bridgeTo_frame ?_    ?_
    | with_reducible refine State.measure_frame  ?_   ?_
    | with_reducible refine State.keFault_frame ?_ ?_   ?_
    | with_reducible refine State.set_frame ?_ ?_
    | exact cov_fld hR (by decide +kernel)
    | with_reducible refine upd_withy ?_ ?_

theorem execWthSpeedLimited_frame {W : List Part} {R : List Regs} {s : State} (hW : ∀ p ∈ ([.mireIrq, .fenIrq, .seqs, .chans,
    .stg, .lev, .peat, .withy] : List Part), p ∈ W) (hR : RegsIn (alarmRegs ++ haltRegs ++ ([.fld .WTH_SPN_STATUS_AT_SPEED,
    .fld .WTH_SPN_STATUS_FW_SAT, .fld .WTH_FAULT_SPN] : List Regs)) R) :
    OutFrame W R s (execWthSpeedLimited s) := by
  unfold execWthSpeedLimited
  repeat' first
    | (extract_lets +onlyGivenNames x; refine have_frame (x := x) ?_ (fun hx => ?_); (on_goal 2 => (clear_value x; revert x; intro _ _)); (on_goal 1 => (unfold x; clear x)))
    | (extract_lets +onlyGivenNames y; clear_value y; revert y; intro _)
    | exact parts_sub hW rfl
    | with_reducible refine next_frame ?_
    | with_reducible assumption
    | exact regs_sub hR (by decide +kernel)
    | with_reducible exact Frame.refl _ _ _
    | with_reducible refine State.when_frame ?_ (fun t ht => ?_)
    | with_reducible refine State.set_frame ?_ ?_
    | with_reducible refine State.spinFault_frame ?_ ?_   ?_
    | exact cov_fld hR (by decide +kernel)
    | with_reducible refine upd_withy ?_ ?_

theorem State.spinCut_frame {W : List Part} {R : List Regs} {s0 s : State} (hW : ∀ p ∈ ([.mireIrq, .seqs, .chans, .stg, .tide,
    .withy] : List Part), p ∈ W) (hR : RegsIn (haltRegs ++ ([.fld .TIDE_STATUS_STATE, .fld .TIDE_CELL_PERIOD_PERIOD, .fld
    .WTH_SPN_STATUS_STATE, .fld .WTH_SPN_STATUS_AT_SPEED, .fld .WTH_SPN_STATUS_FW_ACTIVE, .fld .WTH_SPN_STATUS_FW_SAT, .fld
    .WTH_SPN_STATUS_STOP_BLOCKED, .fld .WTH_SPN_MEAS_TRACK, .fld .WTH_SPN_FOC_ID, .fld .WTH_SPN_FOC_MI] : List Regs)) R) (h :
    Frame W R s0 s) :
    Frame W R s0 (State.spinCut s) := by
  unfold State.spinCut
  repeat' first
    | with_reducible exact h
    | with_reducible assumption
    | exact parts_sub hW rfl
    | with_reducible refine ite_frame (fun _ => ?_) (fun _ => ?_)
    | with_reducible refine State.spinTo_frame ?_ ?_   ?_
    | with_reducible refine State.bridgeTo_frame ?_    ?_

theorem execWthSpnOc_frame {W : List Part} {R : List Regs} {s : State} (hW : ∀ p ∈ ([.mireIrq, .fenIrq, .seqs, .chans, .stg,
    .tide, .lev, .peat, .withy] : List Part), p ∈ W) (hR : RegsIn (alarmRegs ++ haltRegs ++ ([.fld .TIDE_STATUS_STATE, .fld
    .TIDE_CELL_PERIOD_PERIOD, .fld .WTH_SPN_STATUS_STATE, .fld .WTH_SPN_STATUS_AT_SPEED, .fld .WTH_SPN_STATUS_FW_ACTIVE, .fld
    .WTH_SPN_STATUS_FW_SAT, .fld .WTH_SPN_STATUS_STOP_BLOCKED, .fld .WTH_SPN_MEAS_TRACK, .fld .WTH_SPN_FOC_ID, .fld
    .WTH_SPN_FOC_MI, .fld .WTH_FAULT_SPN] : List Regs)) R) :
    OutFrame W R s (execWthSpnOc s) := by
  unfold execWthSpnOc
  repeat' first
    | exact parts_sub hW rfl
    | with_reducible refine next_frame ?_
    | exact regs_sub hR (by decide +kernel)
    | with_reducible exact Frame.refl _ _ _
    | with_reducible refine State.spinCut_frame ?_ ?_   ?_
    | with_reducible refine State.spinFault_frame ?_ ?_   ?_

theorem execWthChopFail_frame {W : List Part} {R : List Regs} {s : State} {vhb : ℕ} (hW : ∀ p ∈ ([.mireIrq, .fenIrq, .seqs,
    .chans, .stg, .tide, .lev, .peat, .withy] : List Part), p ∈ W) (hR : RegsIn (alarmRegs ++ haltRegs ++ ([.fld
    .TIDE_STATUS_STATE, .fld .TIDE_CELL_PERIOD_PERIOD, .fld .WTH_SPN_STATUS_STATE, .fld .WTH_SPN_STATUS_AT_SPEED, .fld
    .WTH_SPN_STATUS_FW_ACTIVE, .fld .WTH_SPN_STATUS_FW_SAT, .fld .WTH_SPN_STATUS_STOP_BLOCKED, .fld .WTH_SPN_MEAS_TRACK, .fld
    .WTH_SPN_FOC_ID, .fld .WTH_SPN_FOC_MI, .fld .WTH_FAULT_SPN, .arr (.WTH_VCM_STATUS_RET_ACTIVE 0) 0x4 4] : List Regs) ++
    ([.arr (.WTH_VCM_STATUS_ENABLED 0) 0x4 4, .arr (.WTH_MA_CTRL_HOLD 0) 0x4 8, .arr (.WTH_MA_STATUS_VOUT 0) 0x4 8, .fld
    .WEIR_MEAS_VHB_MV] : List Regs)) R) :
    OutFrame W R s (execWthChopFail vhb s) := by
  unfold execWthChopFail
  repeat' first
    | (extract_lets +onlyGivenNames x; refine have_out (x := x) ?_ (fun hx => ?_); (on_goal 2 => (clear_value x; revert x; intro _ _)); (on_goal 1 => (unfold x; clear x)))
    | exact parts_sub hW rfl
    | with_reducible refine next_frame ?_
    | with_reducible assumption
    | exact regs_sub hR (by decide +kernel)
    | with_reducible exact Frame.refl _ _ _
    | with_reducible refine State.when_frame ?_ (fun t ht => ?_)
    | with_reducible refine State.retractAll_frame ?_ ?_   ?_
    | with_reducible refine State.spinTo_frame ?_ ?_   ?_
    | with_reducible refine State.set_frame ?_ ?_
    | with_reducible refine State.spinFault_frame ?_ ?_   ?_
    | exact cov_fld hR (by decide +kernel)

theorem execHoldCollapse_frame {W : List Part} {R : List Regs} {s : State} {vhb : ℕ} (hW : ∀ p ∈ ([.withy] : List Part), p ∈
    W) (hR : RegsIn (([.fld .WTH_SPN_STATUS_HOLD_COLLAPSE, .fld .WEIR_MEAS_VHB_MV] : List Regs)) R) :
    OutFrame W R s (execHoldCollapse vhb s) := by
  unfold execHoldCollapse
  repeat' first
    | (extract_lets +onlyGivenNames x; refine have_out (x := x) ?_ (fun hx => ?_); (on_goal 2 => (clear_value x; revert x; intro _ _)); (on_goal 1 => (unfold x; clear x)))
    | (extract_lets +onlyGivenNames x; refine have_frame (x := x) ?_ (fun hx => ?_); (on_goal 2 => (clear_value x; revert x; intro _ _)); (on_goal 1 => (unfold x; clear x)))
    | (extract_lets +onlyGivenNames y; clear_value y; revert y; intro _)
    | exact parts_sub hW rfl
    | with_reducible refine next_frame ?_
    | with_reducible assumption
    | with_reducible exact Frame.refl _ _ _
    | with_reducible refine State.when_frame ?_ (fun t ht => ?_)
    | with_reducible refine State.set_frame ?_ ?_
    | exact cov_fld hR (by decide +kernel)
    | with_reducible refine upd_withy ?_ ?_

theorem State.spinCommit_frame {W : List Part} {R : List Regs} {s0 s : State} (hW : ∀ p ∈ ([.mireIrq, .seqs, .chans, .stg,
    .tide, .withy] : List Part), p ∈ W) (hR : RegsIn (haltRegs ++ ([.fld .TIDE_STATUS_STATE, .fld .TIDE_CELL_PERIOD_PERIOD,
    .fld .WTH_SPN_STATUS_STATE, .fld .WTH_SPN_STATUS_AT_SPEED, .fld .WTH_SPN_STATUS_FW_ACTIVE, .fld .WTH_SPN_STATUS_FW_SAT,
    .fld .WTH_SPN_STATUS_STOP_BLOCKED, .fld .WTH_SPN_STATUS_HOLD_COLLAPSE, .fld .WTH_SPN_MEAS_TRACK, .fld .WTH_SPN_FOC_ID,
    .fld .WTH_SPN_FOC_MI] : List Regs)) R) (h : Frame W R s0 s) :
    Frame W R s0 (State.spinCommit s) := by
  unfold State.spinCommit
  repeat' first
    | with_reducible exact h
    | with_reducible assumption
    | (extract_lets +onlyGivenNames y; clear_value y; revert y; intro _)
    | exact regs_sub hR (by decide +kernel)
    | with_reducible refine ite_frame (fun _ => ?_) (fun _ => ?_)
    | with_reducible refine State.spinTo_frame ?_ ?_   ?_
    | with_reducible refine State.set_frame ?_ ?_
    | exact cov_fld hR (by decide +kernel)

theorem execWthVcmOc_frame {W : List Part} {R : List Regs} {s : State} {k : ℕ} (hW : ∀ p ∈ ([.mireIrq, .fenIrq, .seqs, .chans,
    .stg, .lev, .peat, .withy] : List Part), p ∈ W) (hR : RegsIn (alarmRegs ++ haltRegs ++ ([.fld .WTH_FAULT_VCM_OC, .arr
    (.WTH_VCM_CTRL_EN 0) 0x4 4, .arr (.WTH_VCM_STATUS_ENABLED 0) 0x4 4] : List Regs)) R) :
    OutFrame W R s (execWthVcmOc k s) := by
  unfold execWthVcmOc
  repeat' first
    | (extract_lets +onlyGivenNames x; refine have_out (x := x) ?_ (fun hx => ?_); (on_goal 2 => (clear_value x; revert x; intro _ _)); (on_goal 1 => (unfold x; clear x)))
    | exact parts_sub hW rfl
    | with_reducible refine next_frame ?_
    | with_reducible assumption
    | exact regs_sub hR (by decide +kernel)
    | with_reducible exact Frame.refl _ _ _
    | with_reducible refine State.bridgeOff_frame ?_ ?_   ?_
    | with_reducible refine State.set_frame ?_ ?_
    | with_reducible refine State.raise_frame ?_ ?_   ?_
    | exact cov_fld hR (by decide +kernel)

theorem execWthMaOc_frame {W : List Part} {R : List Regs} {s : State} {n : ℕ} (hW : ∀ p ∈ ([.mireIrq, .fenIrq, .seqs, .chans,
    .stg, .lev, .peat] : List Part), p ∈ W) (hR : RegsIn (alarmRegs ++ haltRegs ++ ([.fld .WTH_FAULT_MA_OC, .arr
    (.WTH_MA_CTRL_HOLD 0) 0x4 8, .arr (.WTH_MA_STATUS_VOUT 0) 0x4 8] : List Regs)) R) :
    OutFrame W R s (execWthMaOc n s) := by
  unfold execWthMaOc
  repeat' first
    | (extract_lets +onlyGivenNames x; refine have_out (x := x) ?_ (fun hx => ?_); (on_goal 2 => (clear_value x; revert x; intro _ _)); (on_goal 1 => (unfold x; clear x)))
    | exact parts_sub hW rfl
    | with_reducible refine next_frame ?_
    | with_reducible assumption
    | exact regs_sub hR (by decide +kernel)
    | with_reducible exact Frame.refl _ _ _
    | with_reducible refine State.set_frame ?_ ?_
    | with_reducible refine State.holdMa_frame  ?_   ?_
    | with_reducible refine State.raise_frame ?_ ?_   ?_
    | exact cov_fld hR (by decide +kernel)

theorem execWthGdUvlo_frame {W : List Part} {R : List Regs} {s : State} (hW : ∀ p ∈ ([.mireIrq, .fenIrq, .seqs, .chans, .stg,
    .tide, .lev, .peat, .withy] : List Part), p ∈ W) (hR : RegsIn (alarmRegs ++ haltRegs ++ ([.fld .TIDE_STATUS_STATE, .fld
    .TIDE_CELL_PERIOD_PERIOD, .fld .WTH_SPN_STATUS_STATE, .fld .WTH_SPN_STATUS_AT_SPEED, .fld .WTH_SPN_STATUS_FW_ACTIVE, .fld
    .WTH_SPN_STATUS_FW_SAT, .fld .WTH_SPN_STATUS_STOP_BLOCKED, .fld .WTH_SPN_MEAS_TRACK, .fld .WTH_SPN_FOC_ID, .fld
    .WTH_SPN_FOC_MI, .fld .WTH_FAULT_SPN, .arr (.WTH_VCM_STATUS_RET_ACTIVE 0) 0x4 4] : List Regs) ++ ([.arr
    (.WTH_VCM_STATUS_ENABLED 0) 0x4 4, .arr (.WTH_MA_CTRL_HOLD 0) 0x4 8, .arr (.WTH_MA_STATUS_VOUT 0) 0x4 8] : List Regs)) R)
    :
    OutFrame W R s (execWthGdUvlo s) := by
  unfold execWthGdUvlo
  repeat' first
    | exact parts_sub hW rfl
    | with_reducible refine next_frame ?_
    | exact regs_sub hR (by decide +kernel)
    | with_reducible exact Frame.refl _ _ _
    | with_reducible refine State.spinCut_frame ?_ ?_   ?_
    | with_reducible refine State.retractAll_frame ?_ ?_   ?_
    | with_reducible refine State.spinFault_frame ?_ ?_   ?_

theorem execWthHbLoss_frame {W : List Part} {R : List Regs} {s : State} (hW : ∀ p ∈ ([.mireIrq, .fenIrq, .seqs, .chans, .stg,
    .lev, .peat, .withy] : List Part), p ∈ W) (hR : RegsIn (alarmRegs ++ haltRegs ++ ([.fld .WTH_FAULT_SPN, .arr
    (.WTH_VCM_STATUS_RET_ACTIVE 0) 0x4 4, .arr (.WTH_VCM_STATUS_ENABLED 0) 0x4 4, .arr (.WTH_MA_CTRL_HOLD 0) 0x4 8, .arr
    (.WTH_MA_STATUS_VOUT 0) 0x4 8] : List Regs)) R) :
    OutFrame W R s (execWthHbLoss s) := by
  unfold execWthHbLoss
  repeat' first
    | exact parts_sub hW rfl
    | with_reducible refine next_frame ?_
    | exact regs_sub hR (by decide +kernel)
    | with_reducible exact Frame.refl _ _ _
    | with_reducible refine State.retractAll_frame ?_ ?_   ?_
    | with_reducible refine State.spinFault_frame ?_ ?_   ?_

theorem execRetractGo_frame {W : List Part} {R : List Regs} {s : State} {mask : ℕ} (hW : ∀ p ∈ ([.bus, .seqs, .chans, .withy]
    : List Part), p ∈ W) (hR : RegsIn (([.fld .SDG_WF_STATUS_CAUSE_SEEN, .arr (.SDG_WR_STATUS_WG 0) 0x400 8, .arr
    (.SDG_WR_STATUS_CAUSE 0) 0x400 8, .arr (.SDG_WR_STATUS_DROPS 0) 0x400 8, .arr (.SDG_WR_DROP_MANG 0) 0x400 8, .arr
    (.WTH_VCM_STATUS_RET_ACTIVE 0) 0x4 4, .arr (.WTH_VCM_STATUS_ENABLED 0) 0x4 4, .arr (.WTH_MA_CTRL_HOLD 0) 0x4 8, .arr
    (.WTH_MA_STATUS_VOUT 0) 0x4 8] : List Regs)) R) :
    OutFrame W R s (execRetractGo mask s) := by
  unfold execRetractGo
  repeat' first
    | exact parts_sub hW rfl
    | with_reducible refine next_frame ?_
    | with_reducible assumption
    | with_reducible exact Frame.refl _ _ _
    | with_reducible refine State.when_frame ?_ (fun t ht => ?_)
    | with_reducible refine State.forN_frame ?_ (fun i t ht => ?_)
    | with_reducible refine State.ack_frame ?_    ?_
    | with_reducible refine State.startRetract_frame ?_ ?_   ?_

theorem execRetractLowBus_frame {W : List Part} {R : List Regs} {s : State} {vhb : ℕ} (hW : ∀ p ∈ ([.seqs, .chans, .withy] :
    List Part), p ∈ W) (hR : RegsIn (([.fld .SDG_WF_STATUS_CAUSE_SEEN, .arr (.SDG_WR_STATUS_WG 0) 0x400 8, .arr
    (.SDG_WR_STATUS_CAUSE 0) 0x400 8, .arr (.SDG_WR_STATUS_DROPS 0) 0x400 8, .arr (.SDG_WR_DROP_MANG 0) 0x400 8, .arr
    (.WTH_VCM_STATUS_RET_ACTIVE 0) 0x4 4, .arr (.WTH_VCM_STATUS_ENABLED 0) 0x4 4, .arr (.WTH_MA_CTRL_HOLD 0) 0x4 8, .arr
    (.WTH_MA_STATUS_VOUT 0) 0x4 8, .fld .WEIR_MEAS_VHB_MV] : List Regs)) R) :
    OutFrame W R s (execRetractLowBus vhb s) := by
  unfold execRetractLowBus
  repeat' first
    | (extract_lets +onlyGivenNames x; refine have_out (x := x) ?_ (fun hx => ?_); (on_goal 2 => (clear_value x; revert x; intro _ _)); (on_goal 1 => (unfold x; clear x)))
    | exact parts_sub hW rfl
    | with_reducible refine next_frame ?_
    | with_reducible assumption
    | exact regs_sub hR (by decide +kernel)
    | with_reducible exact Frame.refl _ _ _
    | with_reducible refine State.when_frame ?_ (fun t ht => ?_)
    | with_reducible refine State.retractAll_frame ?_ ?_   ?_
    | with_reducible refine State.set_frame ?_ ?_
    | exact cov_fld hR (by decide +kernel)

theorem execRetractStall_frame {W : List Part} {R : List Regs} {s : State} {k : ℕ} (hW : ∀ p ∈ ([.withy] : List Part), p ∈ W) :
    OutFrame W R s (execRetractStall k s) := by
  unfold execRetractStall
  repeat' first
    | exact parts_sub hW rfl
    | with_reducible refine next_frame ?_
    | with_reducible assumption
    | with_reducible exact Frame.refl _ _ _
    | with_reducible refine State.when_frame ?_ (fun t ht => ?_)
    | with_reducible refine State.holdAtStop_frame ?_    ?_

theorem execWthRetTimeout_frame {W : List Part} {R : List Regs} {s : State} {k : ℕ} (hW : ∀ p ∈ ([.mireIrq, .fenIrq, .seqs,
    .chans, .stg, .lev, .peat, .withy] : List Part), p ∈ W) (hR : RegsIn (alarmRegs ++ haltRegs ++ ([.fld
    .WTH_FAULT_RET_TIMEOUT] : List Regs)) R) :
    OutFrame W R s (execWthRetTimeout k s) := by
  unfold execWthRetTimeout
  repeat' first
    | (extract_lets +onlyGivenNames x; refine have_frame (x := x) ?_ (fun hx => ?_); (on_goal 2 => (clear_value x; revert x; intro _ _)); (on_goal 1 => (unfold x; clear x)))
    | exact parts_sub hW rfl
    | with_reducible refine next_frame ?_
    | with_reducible assumption
    | exact regs_sub hR (by decide +kernel)
    | with_reducible exact Frame.refl _ _ _
    | with_reducible refine State.when_frame ?_ (fun t ht => ?_)
    | with_reducible refine State.raise_frame ?_ ?_   ?_
    | with_reducible refine State.holdAtStop_frame ?_    ?_
    | with_reducible refine State.set_frame ?_ ?_
    | exact cov_fld hR (by decide +kernel)

theorem State.park_frame {W : List Part} {R : List Regs} {s0 s : State} {k : ℕ} (hW : ∀ p ∈ ([.withy] : List Part), p ∈ W) (hR
    : RegsIn (([.arr (.WTH_VCM_CTRL_EN 0) 0x4 4, .arr (.WTH_VCM_STATUS_PARKED 0) 0x4 4, .arr (.WTH_VCM_STATUS_ENABLED 0) 0x4
    4] : List Regs)) R) (h : Frame W R s0 s) :
    Frame W R s0 (State.park s k) := by
  unfold State.park
  repeat' first
    | with_reducible exact h
    | with_reducible assumption
    | exact regs_sub hR (by decide +kernel)
    | with_reducible refine ite_frame (fun _ => ?_) (fun _ => ?_)
    | with_reducible refine State.bridgeOff_frame ?_ ?_   ?_
    | with_reducible refine State.set_frame ?_ ?_
    | exact cov_arr (f := .WTH_VCM_STATUS_PARKED 0) (k := 0x4) (m := 4) hR (by decide +kernel) (by decide) rfl

theorem State.enableVcm_frame {W : List Part} {R : List Regs} {s0 s : State} {k : ℕ} (hW : ∀ p ∈ ([.withy] : List Part), p ∈
    W) (hR : RegsIn (([.arr (.WTH_VCM_CTRL_EN 0) 0x4 4, .arr (.WTH_VCM_STATUS_PARKED 0) 0x4 4, .arr (.WTH_VCM_STATUS_ENABLED
    0) 0x4 4] : List Regs)) R) (h : Frame W R s0 s) :
    Frame W R s0 (State.enableVcm s k) := by
  unfold State.enableVcm
  repeat' first
    | with_reducible exact h
    | with_reducible assumption
    | with_reducible refine ite_frame (fun _ => ?_) (fun _ => ?_)
    | with_reducible refine State.driveVcm_frame ?_    ?_
    | with_reducible refine State.set_frame ?_ ?_
    | exact cov_arr (f := .WTH_VCM_CTRL_EN 0) (k := 0x4) (m := 4) hR (by decide +kernel) (by decide) rfl
    | exact cov_arr (f := .WTH_VCM_STATUS_PARKED 0) (k := 0x4) (m := 4) hR (by decide +kernel) (by decide) rfl
    | exact cov_arr (f := .WTH_VCM_STATUS_ENABLED 0) (k := 0x4) (m := 4) hR (by decide +kernel) (by decide) rfl

theorem execMaHold_frame {W : List Part} {R : List Regs} {s : State} {n : ℕ} {hold : Bool} (hW : ∀ p ∈ ([.bus] : List Part), p
    ∈ W) (hR : RegsIn (([.arr (.WTH_MA_CTRL_HOLD 0) 0x4 8, .arr (.WTH_MA_STATUS_VOUT 0) 0x4 8] : List Regs)) R) :
    OutFrame W R s (execMaHold n hold s) := by
  unfold execMaHold
  repeat' first
    | exact parts_sub hW rfl
    | with_reducible refine next_frame ?_
    | with_reducible assumption
    | exact regs_sub hR (by decide +kernel)
    | with_reducible exact Frame.refl _ _ _
    | with_reducible refine ite_frame (fun _ => ?_) (fun _ => ?_)
    | with_reducible refine State.ack_frame ?_    ?_
    | with_reducible refine State.set_frame ?_ ?_
    | with_reducible refine State.driveMa_frame  ?_   ?_
    | with_reducible refine State.holdMa_frame  ?_   ?_
    | exact cov_arr (f := .WTH_MA_CTRL_HOLD 0) (k := 0x4) (m := 8) hR (by decide +kernel) (by decide) rfl

/-! ### Machine/Servo.lean -/

theorem State.updSec_frame {W : List Part} {R : List Regs} {s0 s : State} {k : ℕ} {f : Section → Section} (hW : ∀ p ∈ ([.tus]
    : List Part), p ∈ W) (h : Frame W R s0 s) :
    Frame W R s0 (State.updSec s k f) := by
  unfold State.updSec
  repeat' first
    | with_reducible exact h
    | with_reducible assumption
    | (extract_lets +onlyGivenNames y; clear_value y; revert y; intro _)
    | with_reducible refine upd_tus ?_ ?_

theorem State.updLane_frame {W : List Part} {R : List Regs} {s0 s : State} {n : ℕ} {f : Lane → Lane} (hW : ∀ p ∈ ([.tus] :
    List Part), p ∈ W) (h : Frame W R s0 s) :
    Frame W R s0 (State.updLane s n f) := by
  unfold State.updLane
  repeat' first
    | with_reducible exact h
    | with_reducible assumption
    | (extract_lets +onlyGivenNames y; clear_value y; revert y; intro _)
    | with_reducible refine upd_tus ?_ ?_

theorem State.laneTick_frame {W : List Part} {R : List Regs} {s0 s : State} {n : ℕ} {x : Strobe} (hW : ∀ p ∈ ([.tus] : List
    Part), p ∈ W) (hR : RegsIn (([.arr (.TUS_SEC_STATUS_MISS1 0) 0x40 4, .arr (.TUS_SEC_STATUS_MISS0 0) 0x40 4, .arr
    (.TUS_SEC_INFO_AGE1 0) 0x40 4, .arr (.TUS_SEC_INFO_AGE0 0) 0x40 4] : List Regs)) R) (h : Frame W R s0 s) :
    Frame W R s0 (State.laneTick s n x) := by
  unfold State.laneTick
  repeat' first
    | with_reducible exact h
    | with_reducible assumption
    | with_reducible refine State.when_frame ?_ (fun t ht => ?_)
    | with_reducible refine State.set_frame ?_ ?_
    | with_reducible refine State.updLane_frame ?_    ?_
    | exact cov_arr (f := .TUS_SEC_STATUS_MISS1 0) (k := 0x40) (m := 4) hR (by decide +kernel) (by decide) rfl
    | exact cov_arr (f := .TUS_SEC_STATUS_MISS0 0) (k := 0x40) (m := 4) hR (by decide +kernel) (by decide) rfl
    | exact cov_arr (f := .TUS_SEC_INFO_AGE1 0) (k := 0x40) (m := 4) hR (by decide +kernel) (by decide) rfl
    | exact cov_arr (f := .TUS_SEC_INFO_AGE0 0) (k := 0x40) (m := 4) hR (by decide +kernel) (by decide) rfl
    | with_reducible refine cov_ite ?_ ?_
    | unfold ageFld
    | unfold missFld

theorem State.laneOff_frame {W : List Part} {R : List Regs} {s0 s : State} {n : ℕ} (hW : ∀ p ∈ ([.tus] : List Part), p ∈ W) (h
    : Frame W R s0 s) :
    Frame W R s0 (State.laneOff s n) := by
  unfold State.laneOff
  repeat' first
    | with_reducible exact h
    | with_reducible assumption
    | with_reducible refine State.updLane_frame ?_    ?_

theorem State.lanePredict_frame {W : List Part} {R : List Regs} {s0 s : State} {n : ℕ} {dr : ℤ} {dv : ℤ} (hW : ∀ p ∈ ([.tus] :
    List Part), p ∈ W) (h : Frame W R s0 s) :
    Frame W R s0 (State.lanePredict s n dr dv) := by
  unfold State.lanePredict
  repeat' first
    | with_reducible exact h
    | with_reducible assumption
    | (extract_lets +onlyGivenNames f; have := fun a => f a; clear this; unfold f; clear f)
    | (extract_lets +onlyGivenNames y; clear_value y; revert y; intro _)
    | with_reducible refine State.updLane_frame ?_    ?_

theorem State.outputs_frame {W : List Part} {R : List Regs} {s0 s : State} {c : List Dy} {k : ℕ} (hW : ∀ p ∈ ([.withy, .tus] :
    List Part), p ∈ W) (hR : RegsIn (([.arr (.WTH_MA_STATUS_VOUT 0) 0x4 8] : List Regs)) R) (h : Frame W R s0 s) :
    Frame W R s0 (State.outputs s c k) := by
  unfold State.outputs
  repeat' first
    | with_reducible exact h
    | with_reducible assumption
    | (extract_lets +onlyGivenNames x; refine have_frame (x := x) ?_ (fun hx => ?_); (on_goal 2 => (clear_value x; revert x; intro _ _)); (on_goal 1 => (unfold x; clear x)))
    | (extract_lets +onlyGivenNames y; clear_value y; revert y; intro _)
    | exact parts_sub hW rfl
    | with_reducible refine State.forN_frame ?_ (fun i t ht => ?_)
    | with_reducible refine State.driveVcm_frame ?_    ?_
    | with_reducible refine State.updSec_frame ?_    ?_
    | with_reducible refine State.driveMa_frame  ?_   ?_
    | with_reducible refine upd_withy ?_ ?_

theorem State.vibTerm_frame {W : List Part} {R : List Regs} {s0 s : State} {k : ℕ} (hW : ∀ p ∈ ([.tus] : List Part), p ∈ W) (h
    : Frame W R s0 s) :
    Frame W R s0 (State.vibTerm s k) := by
  unfold State.vibTerm
  repeat' first
    | with_reducible exact h
    | with_reducible assumption
    | (extract_lets +onlyGivenNames y; clear_value y; revert y; intro _)
    | with_reducible refine State.updSec_frame ?_    ?_

theorem State.judgeSat_frame {W : List Part} {R : List Regs} {s0 s : State} {k : ℕ} (hW : ∀ p ∈ ([.tus] : List Part), p ∈ W)
    (hR : RegsIn (([.fld .TUS_STATUS_NUM_SAT, .arr (.TUS_SEC_STATUS_SAT 0) 0x40 4, .arr (.TUS_SAT_CNT_COUNT 0) 0x40 4] : List
    Regs)) R) (h : Frame W R s0 s) :
    Frame W R s0 (State.judgeSat s k) := by
  unfold State.judgeSat
  repeat' first
    | with_reducible exact h
    | with_reducible assumption
    | (extract_lets +onlyGivenNames x; refine have_frame (x := x) ?_ (fun hx => ?_); (on_goal 2 => (clear_value x; revert x; intro _ _)); (on_goal 1 => (unfold x; clear x)))
    | (extract_lets +onlyGivenNames y; clear_value y; revert y; intro _)
    | with_reducible refine State.when_frame ?_ (fun t ht => ?_)
    | with_reducible refine State.setIf_frame ?_ ?_
    | with_reducible refine State.incSat_frame ?_ ?_
    | with_reducible refine State.updSec_frame ?_    ?_
    | with_reducible refine State.set_frame ?_ ?_
    | exact cov_fld hR (by decide +kernel)
    | exact cov_arr (f := .TUS_SEC_STATUS_SAT 0) (k := 0x40) (m := 4) hR (by decide +kernel) (by decide) rfl
    | exact cov_arr (f := .TUS_SAT_CNT_COUNT 0) (k := 0x40) (m := 4) hR (by decide +kernel) (by decide) rfl

theorem State.showWinh_frame {W : List Part} {R : List Regs} {s0 s : State} {n : ℕ} (hW : ∀ p ∈ ([.seqs, .chans] : List Part),
    p ∈ W) (hR : RegsIn (([.fld .SDG_WF_STATUS_CAUSE_SEEN, .arr (.SDG_WR_STATUS_WG 0) 0x400 8, .arr (.SDG_WR_STATUS_CAUSE 0)
    0x400 8, .arr (.SDG_WR_STATUS_DROPS 0) 0x400 8, .arr (.SDG_WR_DROP_MANG 0) 0x400 8, .arr (.TUS_SEC_STATUS_WINH 0) 0x40 4]
    : List Regs)) R) (h : Frame W R s0 s) :
    Frame W R s0 (State.showWinh s n) := by
  unfold State.showWinh
  repeat' first
    | with_reducible exact h
    | with_reducible assumption
    | (extract_lets +onlyGivenNames x; refine have_frame (x := x) ?_ (fun hx => ?_); (on_goal 2 => (clear_value x; revert x; intro _ _)); (on_goal 1 => (unfold x; clear x)))
    | (extract_lets +onlyGivenNames y; clear_value y; revert y; intro _)
    | exact regs_sub hR (by decide +kernel)
    | with_reducible refine State.when_frame ?_ (fun t ht => ?_)
    | with_reducible refine State.inhibitDrop_frame ?_ ?_   ?_
    | with_reducible refine State.set_frame ?_ ?_
    | exact cov_arr (f := .TUS_SEC_STATUS_WINH 0) (k := 0x40) (m := 4) hR (by decide +kernel) (by decide) rfl

theorem State.judgeWinh_frame {W : List Part} {R : List Regs} {s0 s : State} {n : ℕ} (hW : ∀ p ∈ ([.seqs, .chans, .tus] : List
    Part), p ∈ W) (hR : RegsIn (([.fld .SDG_WF_STATUS_CAUSE_SEEN, .arr (.SDG_WR_STATUS_WG 0) 0x400 8, .arr
    (.SDG_WR_STATUS_CAUSE 0) 0x400 8, .arr (.SDG_WR_STATUS_DROPS 0) 0x400 8, .arr (.SDG_WR_DROP_MANG 0) 0x400 8, .arr
    (.TUS_SEC_STATUS_WINH 0) 0x40 4] : List Regs)) R) (h : Frame W R s0 s) :
    Frame W R s0 (State.judgeWinh s n) := by
  unfold State.judgeWinh
  repeat' first
    | with_reducible exact h
    | with_reducible assumption
    | (extract_lets +onlyGivenNames y; clear_value y; revert y; intro _)
    | exact parts_sub hW rfl
    | with_reducible refine State.showWinh_frame ?_ ?_   ?_
    | with_reducible refine State.updLane_frame ?_    ?_

theorem State.needCal_frame {W : List Part} {R : List Regs} {s0 s : State} {k : ℕ} (hW : ∀ p ∈ ([.mq] : List Part), p ∈ W) (hR
    : RegsIn (([.fld .MWQ_SYS_STATUS_CAL] : List Regs)) R) (h : Frame W R s0 s) :
    Frame W R s0 (State.needCal s k) := by
  unfold State.needCal
  repeat' first
    | with_reducible exact h
    | with_reducible assumption
    | (extract_lets +onlyGivenNames y; clear_value y; revert y; intro _)
    | with_reducible refine State.set_frame ?_ ?_
    | exact cov_fld hR (by decide +kernel)
    | with_reducible refine upd_mq ?_ ?_

theorem State.judgeZone_frame {W : List Part} {R : List Regs} {s0 s : State} {k : ℕ} {temp : List ℤ} (hW : ∀ p ∈ ([.tus, .mq]
    : List Part), p ∈ W) (hR : RegsIn (([.fld .MWQ_SYS_STATUS_CAL] : List Regs)) R) (h : Frame W R s0 s) :
    Frame W R s0 (State.judgeZone s k temp) := by
  unfold State.judgeZone
  repeat' first
    | with_reducible exact h
    | with_reducible assumption
    | (extract_lets +onlyGivenNames x; refine have_frame (x := x) ?_ (fun hx => ?_); (on_goal 2 => (clear_value x; revert x; intro _ _)); (on_goal 1 => (unfold x; clear x)))
    | (extract_lets +onlyGivenNames y; clear_value y; revert y; intro _)
    | exact parts_sub hW rfl
    | with_reducible refine State.when_frame ?_ (fun t ht => ?_)
    | with_reducible refine State.needCal_frame ?_ ?_   ?_
    | with_reducible refine State.updSec_frame ?_    ?_

theorem State.telServo_frame {W : List Part} {R : List Regs} {s0 s : State} {k : ℕ} {f : ServoTel → ServoTel} (hW : ∀ p ∈
    ([.aq] : List Part), p ∈ W) (h : Frame W R s0 s) :
    Frame W R s0 (State.telServo s k f) := by
  unfold State.telServo
  repeat' first
    | with_reducible exact h
    | with_reducible assumption
    | (extract_lets +onlyGivenNames y; clear_value y; revert y; intro _)
    | with_reducible refine upd_aq ?_ ?_

theorem State.fetchRegion_frame {W : List Part} {R : List Regs} {s0 s : State} {k : ℕ} {r : ℕ} (hW : ∀ p ∈ ([.tus] : List
    Part), p ∈ W) (hR : RegsIn (([.arr (.TUS_SEC_STATUS_REGION_PEND 0) 0x40 4] : List Regs)) R) (h : Frame W R s0 s) :
    Frame W R s0 (State.fetchRegion s k r) := by
  unfold State.fetchRegion
  repeat' first
    | with_reducible exact h
    | with_reducible assumption
    | with_reducible refine State.updSec_frame ?_    ?_
    | with_reducible refine State.set_frame ?_ ?_
    | exact cov_arr (f := .TUS_SEC_STATUS_REGION_PEND 0) (k := 0x40) (m := 4) hR (by decide +kernel) (by decide) rfl

theorem State.selectRegion_frame {W : List Part} {R : List Regs} {s0 s : State} {k : ℕ} (hW : ∀ p ∈ ([.tus] : List Part), p ∈
    W) (hR : RegsIn (([.arr (.TUS_SEC_STATUS_REGION_PEND 0) 0x40 4] : List Regs)) R) (h : Frame W R s0 s) :
    Frame W R s0 (State.selectRegion s k) := by
  unfold State.selectRegion
  repeat' first
    | with_reducible exact h
    | with_reducible assumption
    | (extract_lets +onlyGivenNames y; clear_value y; revert y; intro _)
    | with_reducible refine ite_frame (fun _ => ?_) (fun _ => ?_)
    | with_reducible refine State.fetchRegion_frame ?_ ?_   ?_
    | with_reducible refine State.updSec_frame ?_    ?_
    | split

theorem State.freezeRegion_frame {W : List Part} {R : List Regs} {s0 s : State} {k : ℕ} (hW : ∀ p ∈ ([.tus] : List Part), p ∈
    W) (hR : RegsIn (([.arr (.TUS_SEC_STATUS_REGION_PEND 0) 0x40 4] : List Regs)) R) (h : Frame W R s0 s) :
    Frame W R s0 (State.freezeRegion s k) := by
  unfold State.freezeRegion
  repeat' first
    | with_reducible exact h
    | with_reducible assumption
    | with_reducible refine State.updSec_frame ?_    ?_
    | with_reducible refine State.set_frame ?_ ?_
    | exact cov_arr (f := .TUS_SEC_STATUS_REGION_PEND 0) (k := 0x40) (m := 4) hR (by decide +kernel) (by decide) rfl

theorem State.activateRegion_frame {W : List Part} {R : List Regs} {s0 s : State} {k : ℕ} (hW : ∀ p ∈ ([.tus] : List Part), p
    ∈ W) (hR : RegsIn (([.arr (.TUS_SEC_STATUS_REGION 0) 0x40 4, .arr (.TUS_SEC_STATUS_REGION_PEND 0) 0x40 4] : List Regs)) R)
    (h : Frame W R s0 s) :
    Frame W R s0 (State.activateRegion s k) := by
  unfold State.activateRegion
  repeat' first
    | with_reducible exact h
    | with_reducible assumption
    | with_reducible refine State.updSec_frame ?_    ?_
    | with_reducible refine State.set_frame ?_ ?_
    | exact cov_arr (f := .TUS_SEC_STATUS_REGION 0) (k := 0x40) (m := 4) hR (by decide +kernel) (by decide) rfl
    | exact cov_arr (f := .TUS_SEC_STATUS_REGION_PEND 0) (k := 0x40) (m := 4) hR (by decide +kernel) (by decide) rfl
    | split

/-! ### Machine/Seeks.lean -/

theorem State.plan_frame {W : List Part} {R : List Regs} {s0 s : State} {k : ℕ} {lims : List ℕ} {target : ℤ} {st : ℤ × ℤ × ℤ}
    (hW : ∀ p ∈ ([.tus] : List Part), p ∈ W) (h : Frame W R s0 s) :
    Frame W R s0 (State.plan s k lims target st) := by
  unfold State.plan
  repeat' first
    | with_reducible exact h
    | with_reducible assumption
    | (extract_lets +onlyGivenNames y; clear_value y; revert y; intro _)
    | with_reducible refine State.updSec_frame ?_    ?_

theorem State.sampleGo_frame {W : List Part} {R : List Regs} {s0 s : State} {k : ℕ} (hW : ∀ p ∈ ([.tus, .aq] : List Part), p ∈
    W) (hR : RegsIn (([.arr (.TUS_SEEK_STATUS_SEEK_SEQ 0) 0x20 4, .arr (.TUS_SEEK_STATUS_SEEKING 0) 0x20 4, .arr
    (.TUS_SEEK_STATUS_HINT_REJ 0) 0x20 4, .arr (.TUS_SEEK_STATUS_PARAM_ERR 0) 0x20 4, .arr (.TUS_SEEK_STATUS_HINT_ACTIVE 0)
    0x20 4, .arr (.TUS_SEEK_STATUS_SETTLED 0) 0x20 4] : List Regs)) R) (h : Frame W R s0 s) :
    Frame W R s0 (State.sampleGo s k) := by
  unfold State.sampleGo
  repeat' first
    | with_reducible exact h
    | with_reducible assumption
    | (extract_lets +onlyGivenNames x; refine have_frame (x := x) ?_ (fun hx => ?_); (on_goal 2 => (clear_value x; revert x; intro _ _)); (on_goal 1 => (unfold x; clear x)))
    | (extract_lets +onlyGivenNames y; clear_value y; revert y; intro _)
    | exact parts_sub hW rfl
    | with_reducible refine ite_frame (fun _ => ?_) (fun _ => ?_)
    | with_reducible refine State.telServo_frame ?_    ?_
    | with_reducible refine State.setIf_frame ?_ ?_
    | with_reducible refine State.plan_frame ?_    ?_
    | with_reducible refine State.inc_frame ?_ ?_
    | with_reducible refine State.updSec_frame ?_    ?_
    | with_reducible refine State.set_frame ?_ ?_
    | exact cov_arr (f := .TUS_SEEK_STATUS_SEEK_SEQ 0) (k := 0x20) (m := 4) hR (by decide +kernel) (by decide) rfl
    | exact cov_arr (f := .TUS_SEEK_STATUS_SEEKING 0) (k := 0x20) (m := 4) hR (by decide +kernel) (by decide) rfl
    | exact cov_arr (f := .TUS_SEEK_STATUS_HINT_REJ 0) (k := 0x20) (m := 4) hR (by decide +kernel) (by decide) rfl
    | exact cov_arr (f := .TUS_SEEK_STATUS_PARAM_ERR 0) (k := 0x20) (m := 4) hR (by decide +kernel) (by decide) rfl
    | exact cov_arr (f := .TUS_SEEK_STATUS_HINT_ACTIVE 0) (k := 0x20) (m := 4) hR (by decide +kernel) (by decide) rfl
    | exact cov_arr (f := .TUS_SEEK_STATUS_SETTLED 0) (k := 0x20) (m := 4) hR (by decide +kernel) (by decide) rfl

theorem State.sampleAbandon_frame {W : List Part} {R : List Regs} {s0 s : State} {k : ℕ} (hW : ∀ p ∈ ([.tus] : List Part), p ∈
    W) (h : Frame W R s0 s) :
    Frame W R s0 (State.sampleAbandon s k) := by
  unfold State.sampleAbandon
  repeat' first
    | with_reducible exact h
    | with_reducible assumption
    | (extract_lets +onlyGivenNames y; clear_value y; revert y; intro _)
    | with_reducible refine ite_frame (fun _ => ?_) (fun _ => ?_)
    | with_reducible refine State.plan_frame ?_    ?_

theorem State.sampleLimits_frame {W : List Part} {R : List Regs} {s0 s : State} {k : ℕ} (hW : ∀ p ∈ ([.tus] : List Part), p ∈
    W) (hR : RegsIn (([.arr (.TUS_SEEK_STATUS_PARAM_ERR 0) 0x20 4] : List Regs)) R) (h : Frame W R s0 s) :
    Frame W R s0 (State.sampleLimits s k) := by
  unfold State.sampleLimits
  repeat' first
    | with_reducible exact h
    | with_reducible assumption
    | (extract_lets +onlyGivenNames x; refine have_frame (x := x) ?_ (fun hx => ?_); (on_goal 2 => (clear_value x; revert x; intro _ _)); (on_goal 1 => (unfold x; clear x)))
    | (extract_lets +onlyGivenNames y; clear_value y; revert y; intro _)
    | with_reducible refine ite_frame (fun _ => ?_) (fun _ => ?_)
    | with_reducible refine State.when_frame ?_ (fun t ht => ?_)
    | with_reducible refine State.plan_frame ?_    ?_
    | with_reducible refine State.updSec_frame ?_    ?_
    | with_reducible refine State.set_frame ?_ ?_
    | exact cov_arr (f := .TUS_SEEK_STATUS_PARAM_ERR 0) (k := 0x20) (m := 4) hR (by decide +kernel) (by decide) rfl

theorem State.outerUpdate_frame {W : List Part} {R : List Regs} {s0 s : State} {k : ℕ} (hW : ∀ p ∈ ([.tus, .aq] : List Part),
    p ∈ W) (hR : RegsIn (([.arr (.TUS_SEEK_STATUS_SEEK_SEQ 0) 0x20 4, .arr (.TUS_SEEK_STATUS_SEEKING 0) 0x20 4, .arr
    (.TUS_SEEK_STATUS_PHASE 0) 0x20 4, .arr (.TUS_SEEK_STATUS_HINT_REJ 0) 0x20 4, .arr (.TUS_SEEK_STATUS_PARAM_ERR 0) 0x20 4,
    .arr (.TUS_SEEK_STATUS_HINT_ACTIVE 0) 0x20 4, .arr (.TUS_SEEK_STATUS_SETTLED 0) 0x20 4] : List Regs)) R) (h : Frame W R s0
    s) :
    Frame W R s0 (State.outerUpdate s k) := by
  unfold State.outerUpdate
  repeat' first
    | with_reducible exact h
    | with_reducible assumption
    | (extract_lets +onlyGivenNames x; refine have_frame (x := x) ?_ (fun hx => ?_); (on_goal 2 => (clear_value x; revert x; intro _ _)); (on_goal 1 => (unfold x; clear x)))
    | (extract_lets +onlyGivenNames y; clear_value y; revert y; intro _)
    | exact parts_sub hW rfl
    | exact regs_sub hR (by decide +kernel)
    | with_reducible refine ite_frame (fun _ => ?_) (fun _ => ?_)
    | with_reducible refine State.when_frame ?_ (fun t ht => ?_)
    | with_reducible refine State.forN_frame ?_ (fun i t ht => ?_)
    | with_reducible refine State.sampleGo_frame ?_ ?_   ?_
    | with_reducible refine State.lanePredict_frame ?_    ?_
    | with_reducible refine State.sampleAbandon_frame ?_    ?_
    | with_reducible refine State.sampleLimits_frame ?_ ?_   ?_
    | with_reducible refine State.updSec_frame ?_    ?_
    | with_reducible refine State.set_frame ?_ ?_
    | with_reducible refine State.updLane_frame ?_    ?_
    | exact cov_arr (f := .TUS_SEEK_STATUS_PHASE 0) (k := 0x20) (m := 4) hR (by decide +kernel) (by decide) rfl
    | split

theorem State.countSettle_frame {W : List Part} {R : List Regs} {s0 s : State} {k : ℕ} (hW : ∀ p ∈ ([.tus] : List Part), p ∈
    W) (h : Frame W R s0 s) :
    Frame W R s0 (State.countSettle s k) := by
  unfold State.countSettle
  repeat' first
    | with_reducible exact h
    | with_reducible assumption
    | (extract_lets +onlyGivenNames y; clear_value y; revert y; intro _)
    | with_reducible refine ite_frame (fun _ => ?_) (fun _ => ?_)
    | with_reducible refine State.updSec_frame ?_    ?_

theorem State.step12_frame {W : List Part} {R : List Regs} {s0 s : State} {k : ℕ} (hW : ∀ p ∈ ([.tus, .aq] : List Part), p ∈
    W) (hR : RegsIn (([.arr (.TUS_SEC_STATUS_REGION 0) 0x40 4, .arr (.TUS_SEC_STATUS_REGION_PEND 0) 0x40 4, .arr
    (.TUS_SEEK_STATUS_SEEK_SEQ 0) 0x20 4, .arr (.TUS_SEEK_STATUS_SEEKING 0) 0x20 4, .arr (.TUS_SEEK_STATUS_PHASE 0) 0x20 4,
    .arr (.TUS_SEEK_STATUS_HINT_REJ 0) 0x20 4, .arr (.TUS_SEEK_STATUS_PARAM_ERR 0) 0x20 4, .arr (.TUS_SEEK_STATUS_HINT_ACTIVE
    0) 0x20 4, .arr (.TUS_SEEK_STATUS_SETTLED 0) 0x20 4] : List Regs)) R) (h : Frame W R s0 s) :
    Frame W R s0 (State.step12 s k) := by
  unfold State.step12
  repeat' first
    | with_reducible exact h
    | with_reducible assumption
    | (extract_lets +onlyGivenNames x; refine have_frame (x := x) ?_ (fun hx => ?_); (on_goal 2 => (clear_value x; revert x; intro _ _)); (on_goal 1 => (unfold x; clear x)))
    | (extract_lets +onlyGivenNames y; clear_value y; revert y; intro _)
    | exact parts_sub hW rfl
    | exact regs_sub hR (by decide +kernel)
    | with_reducible refine State.when_frame ?_ (fun t ht => ?_)
    | with_reducible refine State.forN_frame ?_ (fun i t ht => ?_)
    | with_reducible refine State.activateRegion_frame ?_ ?_   ?_
    | with_reducible refine State.lanePredict_frame ?_    ?_
    | with_reducible refine State.outerUpdate_frame ?_ ?_   ?_
    | with_reducible refine State.countSettle_frame ?_    ?_
    | with_reducible refine State.updSec_frame ?_    ?_
    | with_reducible refine State.updLane_frame ?_    ?_

theorem State.spinLoop_frame {W : List Part} {R : List Regs} {s0 s : State} {x : Strobe} (hW : ∀ p ∈ ([.withy, .tus] : List
    Part), p ∈ W) (h : Frame W R s0 s) :
    Frame W R s0 (State.spinLoop s x) := by
  unfold State.spinLoop
  repeat' first
    | with_reducible exact h
    | with_reducible assumption
    | (extract_lets +onlyGivenNames y; clear_value y; revert y; intro _)
    | with_reducible refine ite_frame (fun _ => ?_) (fun _ => ?_)
    | split
    | with_reducible refine upd_withy_tus ?_ ?_

theorem State.timingLoop_frame {W : List Part} {R : List Regs} {s0 s : State} {x : Strobe} (hW : ∀ p ∈ ([.tus] : List Part), p
    ∈ W) (h : Frame W R s0 s) :
    Frame W R s0 (State.timingLoop s x) := by
  unfold State.timingLoop
  repeat' first
    | with_reducible exact h
    | with_reducible assumption
    | (extract_lets +onlyGivenNames x; refine have_frame (x := x) ?_ (fun hx => ?_); (on_goal 2 => (clear_value x; revert x; intro _ _)); (on_goal 1 => (unfold x; clear x)))
    | (extract_lets +onlyGivenNames y; clear_value y; revert y; intro _)
    | with_reducible refine ite_frame (fun _ => ?_) (fun _ => ?_)
    | split
    | with_reducible refine upd_tus ?_ ?_

theorem State.spinRef_frame {W : List Part} {R : List Regs} {s0 s : State} (hW : ∀ p ∈ ([.tus] : List Part), p ∈ W) (hR :
    RegsIn (([.fld .TUS_SPN_REF_REF] : List Regs)) R) (h : Frame W R s0 s) :
    Frame W R s0 (State.spinRef s) := by
  unfold State.spinRef
  repeat' first
    | with_reducible exact h
    | with_reducible assumption
    | (extract_lets +onlyGivenNames x; refine have_frame (x := x) ?_ (fun hx => ?_); (on_goal 2 => (clear_value x; revert x; intro _ _)); (on_goal 1 => (unfold x; clear x)))
    | (extract_lets +onlyGivenNames y; clear_value y; revert y; intro _)
    | with_reducible refine ite_frame (fun _ => ?_) (fun _ => ?_)
    | with_reducible refine State.set_frame ?_ ?_
    | exact cov_fld hR (by decide +kernel)
    | with_reducible refine upd_tus ?_ ?_

/-! ### Machine/Preamp.lean -/

theorem State.updLink_frame {W : List Part} {R : List Regs} {s0 s : State} {l : ℕ} {f : Link → Link} (hW : ∀ p ∈ ([.links] :
    List Part), p ∈ W) (h : Frame W R s0 s) :
    Frame W R s0 (State.updLink s l f) := by
  unfold State.updLink
  repeat' first
    | with_reducible exact h
    | with_reducible assumption
    | with_reducible refine upd_links ?_ ?_

theorem State.timebaseFrames_frame {W : List Part} {R : List Regs} {s0 s : State} (hW : ∀ p ∈ ([.links] : List Part), p ∈ W)
    (h : Frame W R s0 s) :
    Frame W R s0 (State.timebaseFrames s) := by
  unfold State.timebaseFrames
  repeat' first
    | with_reducible exact h
    | with_reducible assumption
    | (extract_lets +onlyGivenNames y; clear_value y; revert y; intro _)
    | with_reducible refine State.when_frame ?_ (fun t ht => ?_)
    | with_reducible refine State.forN_frame ?_ (fun i t ht => ?_)
    | with_reducible refine State.updLink_frame ?_    ?_

theorem State.sendFrame_frame {W : List Part} {R : List Regs} {s0 s : State} {l : ℕ} {f : PlFrame} (hW : ∀ p ∈ ([.links] :
    List Part), p ∈ W) (h : Frame W R s0 s) :
    Frame W R s0 (State.sendFrame s l f) := by
  unfold State.sendFrame
  repeat' first
    | with_reducible exact h
    | with_reducible assumption
    | with_reducible refine ite_frame (fun _ => ?_) (fun _ => ?_)
    | with_reducible refine State.updLink_frame ?_    ?_

theorem execPlWriteFrame_frame {W : List Part} {R : List Regs} {s : State} {l : ℕ} {head : ℕ} {addr : ℕ} {data : ℕ} (hW : ∀ p
    ∈ ([.links] : List Part), p ∈ W) :
    OutFrame W R s (execPlWriteFrame l head addr data s) := by
  unfold execPlWriteFrame
  repeat' first
    | exact parts_sub hW rfl
    | with_reducible refine next_frame ?_
    | with_reducible exact Frame.refl _ _ _
    | with_reducible refine State.sendFrame_frame ?_    ?_

theorem execPlReadFrame_frame {W : List Part} {R : List Regs} {s : State} {l : ℕ} {head : ℕ} {addr : ℕ} (hW : ∀ p ∈ ([.links]
    : List Part), p ∈ W) :
    OutFrame W R s (execPlReadFrame l head addr s) := by
  unfold execPlReadFrame
  repeat' first
    | exact parts_sub hW rfl
    | with_reducible refine next_frame ?_
    | with_reducible exact Frame.refl _ _ _
    | with_reducible refine State.sendFrame_frame ?_    ?_

theorem State.frameFailed_frame {W : List Part} {R : List Regs} {s0 s : State} {l : ℕ} (hW : ∀ p ∈ ([.seqs, .chans, .withy,
    .links] : List Part), p ∈ W) (hR : RegsIn (([.fld .SDG_WF_STATUS_CAUSE_SEEN, .arr (.SDG_WR_STATUS_WG 0) 0x400 8, .arr
    (.SDG_WR_STATUS_CAUSE 0) 0x400 8, .arr (.SDG_WR_STATUS_DROPS 0) 0x400 8, .arr (.SDG_WR_DROP_MANG 0) 0x400 8, .arr
    (.WTH_VCM_STATUS_RET_ACTIVE 0) 0x4 4, .arr (.WTH_VCM_STATUS_ENABLED 0) 0x4 4, .arr (.WTH_MA_CTRL_HOLD 0) 0x4 8, .arr
    (.WTH_MA_STATUS_VOUT 0) 0x4 8] : List Regs)) R) (h : Frame W R s0 s) :
    Frame W R s0 (State.frameFailed s l) := by
  unfold State.frameFailed
  repeat' first
    | with_reducible exact h
    | with_reducible assumption
    | (extract_lets +onlyGivenNames x; refine have_frame (x := x) ?_ (fun hx => ?_); (on_goal 2 => (clear_value x; revert x; intro _ _)); (on_goal 1 => (unfold x; clear x)))
    | (extract_lets +onlyGivenNames y; clear_value y; revert y; intro _)
    | exact parts_sub hW rfl
    | with_reducible refine ite_frame (fun _ => ?_) (fun _ => ?_)
    | with_reducible refine State.when_frame ?_ (fun t ht => ?_)
    | with_reducible refine State.updLink_frame ?_    ?_
    | with_reducible refine State.startRetract_frame ?_ ?_   ?_
    | split

theorem execPlResponse_frame {W : List Part} {R : List Regs} {s : State} {l : ℕ} {frame : ℕ} (hW : ∀ p ∈ ([.seqs, .chans,
    .withy, .links] : List Part), p ∈ W) (hR : RegsIn (([.fld .SDG_WF_STATUS_CAUSE_SEEN, .arr (.SDG_WR_STATUS_WG 0) 0x400 8,
    .arr (.SDG_WR_STATUS_CAUSE 0) 0x400 8, .arr (.SDG_WR_STATUS_DROPS 0) 0x400 8, .arr (.SDG_WR_DROP_MANG 0) 0x400 8, .arr
    (.WTH_VCM_STATUS_RET_ACTIVE 0) 0x4 4, .arr (.WTH_VCM_STATUS_ENABLED 0) 0x4 4, .arr (.WTH_MA_CTRL_HOLD 0) 0x4 8, .arr
    (.WTH_MA_STATUS_VOUT 0) 0x4 8] : List Regs)) R) :
    OutFrame W R s (execPlResponse l frame s) := by
  unfold execPlResponse
  repeat' first
    | (extract_lets +onlyGivenNames y; clear_value y; revert y; intro _)
    | exact parts_sub hW rfl
    | with_reducible refine next_frame ?_
    | with_reducible assumption
    | with_reducible exact Frame.refl _ _ _
    | with_reducible refine ite_frame (fun _ => ?_) (fun _ => ?_)
    | with_reducible refine State.clocked_frame    (fun t ht => ?_) ?_
    | with_reducible refine State.updLink_frame ?_    ?_
    | with_reducible refine State.frameFailed_frame ?_ ?_   ?_
    | split

theorem execPlTimeout_frame {W : List Part} {R : List Regs} {s : State} {l : ℕ} (hW : ∀ p ∈ ([.seqs, .chans, .withy, .links] :
    List Part), p ∈ W) (hR : RegsIn (([.fld .SDG_WF_STATUS_CAUSE_SEEN, .arr (.SDG_WR_STATUS_WG 0) 0x400 8, .arr
    (.SDG_WR_STATUS_CAUSE 0) 0x400 8, .arr (.SDG_WR_STATUS_DROPS 0) 0x400 8, .arr (.SDG_WR_DROP_MANG 0) 0x400 8, .arr
    (.WTH_VCM_STATUS_RET_ACTIVE 0) 0x4 4, .arr (.WTH_VCM_STATUS_ENABLED 0) 0x4 4, .arr (.WTH_MA_CTRL_HOLD 0) 0x4 8, .arr
    (.WTH_MA_STATUS_VOUT 0) 0x4 8] : List Regs)) R) :
    OutFrame W R s (execPlTimeout l s) := by
  unfold execPlTimeout
  repeat' first
    | exact parts_sub hW rfl
    | with_reducible refine next_frame ?_
    | with_reducible assumption
    | with_reducible exact Frame.refl _ _ _
    | with_reducible refine State.clocked_frame    (fun t ht => ?_) ?_
    | with_reducible refine State.frameFailed_frame ?_ ?_   ?_

theorem State.startCause_frame {W : List Part} {R : List Regs} {s0 s : State} {cause : ℕ} {failed : ℕ} (hR : RegsIn (([.fld
    .MBX_START_CAUSE, .fld .MBX_START_FAILED] : List Regs)) R) (h : Frame W R s0 s) :
    Frame W R s0 (State.startCause s cause failed) := by
  unfold State.startCause
  repeat' first
    | with_reducible exact h
    | with_reducible assumption
    | with_reducible refine State.when_frame ?_ (fun t ht => ?_)
    | with_reducible refine State.set_frame ?_ ?_
    | exact cov_fld hR (by decide +kernel)

theorem execPreampDiscovery_frame {W : List Part} {R : List Regs} {s : State} {l : ℕ} {ident : Option (List ℕ)} (hW : ∀ p ∈
    ([.links] : List Part), p ∈ W) (hR : RegsIn (([.fld .MBX_START_RESULT, .fld .MBX_START_CAUSE, .fld .MBX_START_FAILED] :
    List Regs)) R) :
    OutFrame W R s (execPreampDiscovery l ident s) := by
  unfold execPreampDiscovery
  repeat' first
    | (extract_lets +onlyGivenNames x; refine have_out (x := x) ?_ (fun hx => ?_); (on_goal 2 => (clear_value x; revert x; intro _ _)); (on_goal 1 => (unfold x; clear x)))
    | exact parts_sub hW rfl
    | with_reducible refine next_frame ?_
    | with_reducible refine ite_out (fun _ => ?_) (fun _ => ?_)
    | with_reducible assumption
    | exact regs_sub hR (by decide +kernel)
    | with_reducible exact Frame.refl _ _ _
    | with_reducible refine State.updLink_frame ?_    ?_
    | with_reducible refine State.startCause_frame  ?_   ?_
    | with_reducible refine State.set_frame ?_ ?_
    | exact cov_fld hR (by decide +kernel)
    | split

theorem execPreampFault_frame {W : List Part} {R : List Regs} {s : State} {l : ℕ} {kill : Bool} (hW : ∀ p ∈ ([.mireIrq, .seqs,
    .chans, .stg, .links] : List Part), p ∈ W) (hR : RegsIn (haltRegs) R) :
    OutFrame W R s (execPreampFault l kill s) := by
  unfold execPreampFault
  repeat' first
    | (extract_lets +onlyGivenNames x; refine have_out (x := x) ?_ (fun hx => ?_); (on_goal 2 => (clear_value x; revert x; intro _ _)); (on_goal 1 => (unfold x; clear x)))
    | exact parts_sub hW rfl
    | with_reducible refine next_frame ?_
    | with_reducible refine ite_out (fun _ => ?_) (fun _ => ?_)
    | with_reducible assumption
    | with_reducible exact Frame.refl _ _ _
    | with_reducible refine ite_frame (fun _ => ?_) (fun _ => ?_)
    | with_reducible refine State.when_frame ?_ (fun t ht => ?_)
    | with_reducible refine State.forN_frame ?_ (fun i t ht => ?_)
    | with_reducible refine State.restartDue_frame ?_    ?_
    | with_reducible refine State.terminate_frame ?_ ?_   ?_
    | with_reducible refine State.updLink_frame ?_    ?_
    | with_reducible refine State.irqMire_frame ?_    ?_

/-! ### Machine/ServoRows.lean -/

theorem State.tick_frame {W : List Part} {R : List Regs} {s0 s : State} {x : Strobe} (hW : ∀ p ∈ ([.drawn, .mireIrq, .fenIrq,
    .seqs, .chans, .shockQuiet, .stg, .tide, .lev, .peat, .withy, .tus, .links, .mq, .aq] : List Part), p ∈ W) (hR : RegsIn
    (alarmRegs ++ haltRegs ++ ([.fld ⟨0x4E000000, 0, 32⟩, .arr (.WTH_VCM_STATUS_IMEAS 0) 0x4 4, .arr (.WTH_MA_STATUS_VOUT 0)
    0x4 8, .arr (.WTH_MA_STATUS_STRAIN 0) 0x4 8, .fld .TUS_STATUS_XC_PENDING, .fld .TUS_STATUS_NUM_SAT, .arr
    (.TUS_SEC_STATUS_REGION 0) 0x40 4, .arr (.TUS_SEC_STATUS_REGION_PEND 0) 0x40 4, .arr (.TUS_SEC_STATUS_CAP_DONE 0) 0x40 4,
    .arr (.TUS_SEC_STATUS_SAT 0) 0x40 4, .arr (.TUS_SEC_STATUS_WINH 0) 0x40 4, .arr (.TUS_SEC_STATUS_MISS1 0) 0x40 4] : List
    Regs) ++ ([.arr (.TUS_SEC_STATUS_MISS0 0) 0x40 4, .arr (.TUS_SAT_CNT_COUNT 0) 0x40 4, .arr (.TUS_SEC_INFO_AGE1 0) 0x40 4,
    .arr (.TUS_SEC_INFO_AGE0 0) 0x40 4, .arr (.TUS_SEC_INFO_CAP_EXP 0) 0x40 4, .grid (.TUS_CAP_M 0 0) 0x40 4 0x4 8, .fld
    .TUS_SPN_REF_REF, .arr (.TUS_SEEK_STATUS_SEEK_SEQ 0) 0x20 4, .arr (.TUS_SEEK_STATUS_SEEKING 0) 0x20 4, .arr
    (.TUS_SEEK_STATUS_PHASE 0) 0x20 4, .arr (.TUS_SEEK_STATUS_HINT_REJ 0) 0x20 4, .arr (.TUS_SEEK_STATUS_PARAM_ERR 0) 0x20 4]
    : List Regs) ++ ([.arr (.TUS_SEEK_STATUS_HINT_ACTIVE 0) 0x20 4, .arr (.TUS_SEEK_STATUS_SETTLED 0) 0x20 4, .fld
    .SDG_WF_STATUS_SHOCK_ACTIVE, .fld .MWQ_SYS_STATUS_CAL] : List Regs)) R) (h : Frame W R s0 s) :
    Frame W R s0 (State.tick s x) := by
  unfold State.tick
  repeat' first
    | with_reducible exact h
    | with_reducible assumption
    | (extract_lets +onlyGivenNames x; refine have_frame (x := x) ?_ (fun hx => ?_); (on_goal 2 => (clear_value x; revert x; intro _ _)); (on_goal 1 => (unfold x; clear x)))
    | (extract_lets +onlyGivenNames f; have := fun a => f a; clear this; unfold f; clear f)
    | (extract_lets +onlyGivenNames y; clear_value y; revert y; intro _)
    | exact parts_sub hW rfl
    | exact regs_sub hR (by decide +kernel)
    | with_reducible refine ite_frame (fun _ => ?_) (fun _ => ?_)
    | with_reducible refine State.when_frame ?_ (fun t ht => ?_)
    | with_reducible refine State.forN_frame ?_ (fun i t ht => ?_)
    | with_reducible refine State.timebaseFrames_frame ?_    ?_
    | with_reducible refine State.judgeWinh_frame ?_ ?_   ?_
    | with_reducible refine State.vibTerm_frame ?_    ?_
    | with_reducible refine State.setS_frame ?_ ?_
    | with_reducible refine State.updSec_frame ?_    ?_
    | with_reducible refine State.outputs_frame ?_ ?_   ?_
    | with_reducible refine State.laneOff_frame ?_    ?_
    | with_reducible refine State.slewMang_frame ?_    ?_
    | with_reducible refine State.convertAdvance_frame ?_    ?_
    | with_reducible refine State.telServo_frame ?_    ?_
    | with_reducible refine State.selectRegion_frame ?_ ?_   ?_
    | with_reducible refine State.shockTick_frame ?_ ?_   ?_
    | with_reducible refine State.step12_frame ?_ ?_   ?_
    | with_reducible refine State.spinLoop_frame ?_    ?_
    | with_reducible refine State.laneTick_frame ?_ ?_   ?_
    | with_reducible refine State.spinRef_frame ?_ ?_   ?_
    | with_reducible refine State.judgeZone_frame ?_ ?_   ?_
    | with_reducible refine State.judgeSat_frame ?_ ?_   ?_
    | with_reducible refine State.atMang_frame  ?_   ?_
    | with_reducible refine State.timingLoop_frame ?_    ?_
    | with_reducible refine State.set_frame ?_ ?_
    | exact cov_arr (f := .WTH_VCM_STATUS_IMEAS 0) (k := 0x4) (m := 4) hR (by decide +kernel) (by decide) rfl
    | exact cov_arr (f := .WTH_MA_STATUS_STRAIN 0) (k := 0x4) (m := 8) hR (by decide +kernel) (by decide) rfl
    | exact cov_fld hR (by decide +kernel)
    | exact cov_arr (f := .TUS_SEC_STATUS_CAP_DONE 0) (k := 0x40) (m := 4) hR (by decide +kernel) (by decide) rfl
    | exact cov_arr (f := .TUS_SEC_INFO_CAP_EXP 0) (k := 0x40) (m := 4) hR (by decide +kernel) (by decide) rfl
    | exact cov_grid (f := .TUS_CAP_M 0 0) (k := 0x40) (m := 4) (u := 0x4) (l := 8) hR (by decide +kernel) (by decide) (by decide) rfl
    | split
    | with_reducible refine upd_tide ?_ ?_
    | with_reducible refine upd_tus ?_ ?_

theorem State.slipStep_frame {W : List Part} {R : List Regs} {s0 s : State} {d : ℤ} (hW : ∀ p ∈ ([.drawn] : List Part), p ∈ W)
    (h : Frame W R s0 s) :
    Frame W R s0 (State.slipStep s d).2 := by
  unfold State.slipStep
  repeat' first
    | with_reducible exact h
    | with_reducible assumption
    | with_reducible refine State.draw_frame ?_    ?_
    | split

theorem execPesDemod_frame {W : List Part} {R : List Regs} {s : State} {n : ℕ} {x : Demod} (hW : ∀ p ∈ ([.drawn, .mireIrq,
    .fenIrq, .seqs, .chans, .stg, .lev, .peat, .tus, .mq] : List Part), p ∈ W) (hR : RegsIn (alarmRegs ++ haltRegs ++ ([.arr
    (.TIDE_SURF_SLIP_SLIP 0) 0x4 24, .fld .MWQ_SYS_STATUS_CAL] : List Regs)) R) :
    OutFrame W R s (execPesDemod n x s) := by
  unfold execPesDemod
  repeat' first
    | (extract_lets +onlyGivenNames x; refine have_out (x := x) ?_ (fun hx => ?_); (on_goal 2 => (clear_value x; revert x; intro _ _)); (on_goal 1 => (unfold x; clear x)))
    | (extract_lets +onlyGivenNames y; clear_value y; revert y; intro _)
    | exact parts_sub hW rfl
    | with_reducible refine next_frame ?_
    | with_reducible refine ite_out (fun _ => ?_) (fun _ => ?_)
    | with_reducible assumption
    | exact regs_sub hR (by decide +kernel)
    | with_reducible exact Frame.refl _ _ _
    | with_reducible refine State.when_frame ?_ (fun t ht => ?_)
    | with_reducible refine State.setS_frame ?_ ?_
    | with_reducible refine State.slipStep_frame ?_    ?_
    | with_reducible refine State.needCal_frame ?_ ?_   ?_
    | with_reducible refine State.raise_frame ?_ ?_   ?_
    | with_reducible refine State.updLane_frame ?_    ?_
    | exact cov_arr (f := .TIDE_SURF_SLIP_SLIP 0) (k := 0x4) (m := 24) hR (by decide +kernel) (by decide) rfl
    | with_reducible refine upd_tus ?_ ?_

theorem execTusPesLost_frame {W : List Part} {R : List Regs} {s : State} {n : ℕ} (hW : ∀ p ∈ ([.mireIrq, .fenIrq, .seqs,
    .chans, .stg, .lev, .peat, .aq] : List Part), p ∈ W) (hR : RegsIn (alarmRegs ++ haltRegs) R) :
    OutFrame W R s (execTusPesLost n s) := by
  unfold execTusPesLost
  repeat' first
    | exact parts_sub hW rfl
    | with_reducible refine next_frame ?_
    | with_reducible assumption
    | with_reducible exact Frame.refl _ _ _
    | with_reducible refine State.when_frame ?_ (fun t ht => ?_)
    | with_reducible refine State.telServo_frame ?_    ?_
    | with_reducible refine State.raise_frame ?_ ?_   ?_

theorem execTusNumSat_frame {W : List Part} {R : List Regs} {s : State} {k : ℕ} (hW : ∀ p ∈ ([.mireIrq, .fenIrq, .seqs,
    .chans, .stg, .lev, .peat, .withy] : List Part), p ∈ W) (hR : RegsIn (alarmRegs ++ haltRegs ++ ([.arr
    (.WTH_VCM_STATUS_RET_ACTIVE 0) 0x4 4, .arr (.WTH_VCM_STATUS_ENABLED 0) 0x4 4, .arr (.WTH_MA_CTRL_HOLD 0) 0x4 8, .arr
    (.WTH_MA_STATUS_VOUT 0) 0x4 8] : List Regs)) R) :
    OutFrame W R s (execTusNumSat k s) := by
  unfold execTusNumSat
  repeat' first
    | exact parts_sub hW rfl
    | with_reducible refine next_frame ?_
    | with_reducible assumption
    | exact regs_sub hR (by decide +kernel)
    | with_reducible exact Frame.refl _ _ _
    | with_reducible refine State.when_frame ?_ (fun t ht => ?_)
    | with_reducible refine State.startRetract_frame ?_ ?_   ?_
    | with_reducible refine State.raise_frame ?_ ?_   ?_

theorem execWinhLift_frame {W : List Part} {R : List Regs} {s : State} {n : ℕ} (hW : ∀ p ∈ ([.seqs, .chans, .tus] : List
    Part), p ∈ W) (hR : RegsIn (([.fld .SDG_WF_STATUS_CAUSE_SEEN, .arr (.SDG_WR_STATUS_WG 0) 0x400 8, .arr
    (.SDG_WR_STATUS_CAUSE 0) 0x400 8, .arr (.SDG_WR_STATUS_DROPS 0) 0x400 8, .arr (.SDG_WR_DROP_MANG 0) 0x400 8, .arr
    (.TUS_SEC_STATUS_WINH 0) 0x40 4] : List Regs)) R) :
    OutFrame W R s (execWinhLift n s) := by
  unfold execWinhLift
  repeat' first
    | exact parts_sub hW rfl
    | with_reducible refine next_frame ?_
    | with_reducible assumption
    | with_reducible exact Frame.refl _ _ _
    | with_reducible refine State.when_frame ?_ (fun t ht => ?_)
    | with_reducible refine State.showWinh_frame ?_ ?_   ?_
    | with_reducible refine State.updLane_frame ?_    ?_

theorem State.settleSeek_frame {W : List Part} {R : List Regs} {s0 s : State} {k : ℕ} (hW : ∀ p ∈ ([.tus] : List Part), p ∈ W)
    (hR : RegsIn (([.arr (.TUS_SEC_STATUS_REGION_PEND 0) 0x40 4, .arr (.TUS_SEEK_STATUS_SEEKING 0) 0x20 4, .arr
    (.TUS_SEEK_STATUS_HINT_ACTIVE 0) 0x20 4, .arr (.TUS_SEEK_STATUS_SETTLED 0) 0x20 4] : List Regs)) R) (h : Frame W R s0 s) :
    Frame W R s0 (State.settleSeek s k) := by
  unfold State.settleSeek
  repeat' first
    | with_reducible exact h
    | with_reducible assumption
    | exact regs_sub hR (by decide +kernel)
    | with_reducible refine State.selectRegion_frame ?_ ?_   ?_
    | with_reducible refine State.set_frame ?_ ?_
    | exact cov_arr (f := .TUS_SEEK_STATUS_SEEKING 0) (k := 0x20) (m := 4) hR (by decide +kernel) (by decide) rfl
    | exact cov_arr (f := .TUS_SEEK_STATUS_HINT_ACTIVE 0) (k := 0x20) (m := 4) hR (by decide +kernel) (by decide) rfl
    | exact cov_arr (f := .TUS_SEEK_STATUS_SETTLED 0) (k := 0x20) (m := 4) hR (by decide +kernel) (by decide) rfl

theorem execReload_frame {W : List Part} {R : List Regs} {s : State} {k : ℕ} (hW : ∀ p ∈ ([.bus, .tus] : List Part), p ∈ W)
    (hR : RegsIn (([.arr (.TUS_SEC_STATUS_REGION_PEND 0) 0x40 4] : List Regs)) R) :
    OutFrame W R s (execReload k s) := by
  unfold execReload
  repeat' first
    | exact parts_sub hW rfl
    | with_reducible refine next_frame ?_
    | with_reducible assumption
    | with_reducible exact Frame.refl _ _ _
    | with_reducible refine State.when_frame ?_ (fun t ht => ?_)
    | with_reducible refine State.ack_frame ?_    ?_
    | with_reducible refine State.fetchRegion_frame ?_ ?_   ?_

theorem execRegionFetchDone_frame {W : List Part} {R : List Regs} {s : State} {k : ℕ} (hW : ∀ p ∈ ([.mireIrq, .fenIrq, .seqs,
    .chans, .stg, .lev, .peat, .tus] : List Part), p ∈ W) (hR : RegsIn (alarmRegs ++ haltRegs ++ ([.arr
    (.TUS_SEC_STATUS_REGION_PEND 0) 0x40 4] : List Regs)) R) :
    OutFrame W R s (execRegionFetchDone k s) := by
  unfold execRegionFetchDone
  repeat' first
    | (extract_lets +onlyGivenNames x; refine have_out (x := x) ?_ (fun hx => ?_); (on_goal 2 => (clear_value x; revert x; intro _ _)); (on_goal 1 => (unfold x; clear x)))
    | (extract_lets +onlyGivenNames y; clear_value y; revert y; intro _)
    | exact parts_sub hW rfl
    | with_reducible refine next_frame ?_
    | with_reducible refine ite_out (fun _ => ?_) (fun _ => ?_)
    | with_reducible assumption
    | exact regs_sub hR (by decide +kernel)
    | with_reducible exact Frame.refl _ _ _
    | with_reducible refine State.raise_frame ?_ ?_   ?_
    | with_reducible refine State.updSec_frame ?_    ?_
    | with_reducible refine State.set_frame ?_ ?_
    | exact cov_arr (f := .TUS_SEC_STATUS_REGION_PEND 0) (k := 0x40) (m := 4) hR (by decide +kernel) (by decide) rfl
    | split

theorem execXcCommit_frame {W : List Part} {R : List Regs} {s : State} (hW : ∀ p ∈ ([.bus] : List Part), p ∈ W) (hR : RegsIn
    (([.fld .TUS_STATUS_XC_PENDING] : List Regs)) R) :
    OutFrame W R s (execXcCommit s) := by
  unfold execXcCommit
  repeat' first
    | exact parts_sub hW rfl
    | with_reducible refine next_frame ?_
    | with_reducible exact Frame.refl _ _ _
    | with_reducible refine State.ack_frame ?_    ?_
    | with_reducible refine State.set_frame ?_ ?_
    | exact cov_fld hR (by decide +kernel)

theorem execCapGo_frame {W : List Part} {R : List Regs} {s : State} {k : ℕ} (hW : ∀ p ∈ ([.bus, .tus] : List Part), p ∈ W) (hR
    : RegsIn (([.arr (.TUS_SEC_STATUS_CAP_DONE 0) 0x40 4] : List Regs)) R) :
    OutFrame W R s (execCapGo k s) := by
  unfold execCapGo
  repeat' first
    | exact parts_sub hW rfl
    | with_reducible refine next_frame ?_
    | with_reducible exact Frame.refl _ _ _
    | with_reducible refine State.ack_frame ?_    ?_
    | with_reducible refine State.updSec_frame ?_    ?_
    | with_reducible refine State.set_frame ?_ ?_
    | exact cov_arr (f := .TUS_SEC_STATUS_CAP_DONE 0) (k := 0x40) (m := 4) hR (by decide +kernel) (by decide) rfl

theorem State.latchSeek_frame {W : List Part} {R : List Regs} {s0 s : State} {k : ℕ} {go : Bool} (hW : ∀ p ∈ ([.tus] : List
    Part), p ∈ W) (h : Frame W R s0 s) :
    Frame W R s0 (State.latchSeek s k go) := by
  unfold State.latchSeek
  repeat' first
    | with_reducible exact h
    | with_reducible assumption
    | with_reducible refine State.updSec_frame ?_    ?_

end Sys2Proof.Machine
end

