-- ==== Sys2Proof/Laws/FrameBuffer.lean ====
section
/-! SUPPORT. Frames of the buffer and the host interface (Memory, Cipher, Channels, Sluice, Staithe, Access, Lode, Carr): what an operation may change, and what a command may change. -/

set_option Elab.async false

namespace Sys2Proof.Machine

/-! ### Machine/Memory.lean -/

theorem State.updSlu_frame {W : List Part} {R : List Regs} {s0 s : State} {f : Sluice → Sluice} (hW : ∀ p ∈ ([.slu] : List
    Part), p ∈ W) (h : Frame W R s0 s) :
    Frame W R s0 (State.updSlu s f) := by
  unfold State.updSlu
  repeat' first
    | with_reducible exact h
    | with_reducible assumption
    | with_reducible refine upd_slu ?_ ?_

theorem State.updSth_frame {W : List Part} {R : List Regs} {s0 s : State} {f : Staithe → Staithe} (hW : ∀ p ∈ ([.sth] : List
    Part), p ∈ W) (h : Frame W R s0 s) :
    Frame W R s0 (State.updSth s f) := by
  unfold State.updSth
  repeat' first
    | with_reducible exact h
    | with_reducible assumption
    | with_reducible refine upd_sth ?_ ?_

theorem State.pmStatus_frame {W : List Part} {R : List Regs} {s0 s : State} (hR : RegsIn (([.fld .SLU_PM_STATUS_COUNT] : List
    Regs)) R) (h : Frame W R s0 s) :
    Frame W R s0 (State.pmStatus s) := by
  unfold State.pmStatus
  repeat' first
    | with_reducible exact h
    | with_reducible refine State.set_frame ?_ ?_
    | exact cov_fld hR (by decide +kernel)

theorem State.pmLost_frame {W : List Part} {R : List Regs} {s0 s : State} (hW : ∀ p ∈ ([.mireIrq, .fenIrq, .seqs, .chans,
    .stg, .lev, .peat] : List Part), p ∈ W) (hR : RegsIn (alarmRegs ++ haltRegs ++ ([.fld .SLU_PM_STATUS_OVF] : List Regs)) R)
    (h : Frame W R s0 s) :
    Frame W R s0 (State.pmLost s) := by
  unfold State.pmLost
  repeat' first
    | with_reducible exact h
    | with_reducible assumption
    | exact regs_sub hR (by decide +kernel)
    | with_reducible refine State.set_frame ?_ ?_
    | with_reducible refine State.raise_frame ?_ ?_   ?_
    | exact cov_fld hR (by decide +kernel)

theorem State.poisonBlock_frame {W : List Part} {R : List Regs} {s0 s : State} {owner : ℕ} {b : ℕ} (hW : ∀ p ∈ ([.mireIrq,
    .fenIrq, .seqs, .chans, .stg, .lev, .peat, .slu] : List Part), p ∈ W) (hR : RegsIn (alarmRegs ++ haltRegs ++ ([.fld
    .SLU_PM_STATUS_OVF, .fld .SLU_PM_STATUS_COUNT] : List Regs)) R) (h : Frame W R s0 s) :
    Frame W R s0 (State.poisonBlock s owner b) := by
  unfold State.poisonBlock
  repeat' first
    | with_reducible exact h
    | with_reducible assumption
    | (extract_lets +onlyGivenNames x; refine have_frame (x := x) ?_ (fun hx => ?_); (on_goal 2 => (clear_value x; revert x; intro _ _)); (on_goal 1 => (unfold x; clear x)))
    | (extract_lets +onlyGivenNames f; have := fun a => f a; clear this; unfold f; clear f)
    | (extract_lets +onlyGivenNames y; clear_value y; revert y; intro _)
    | exact parts_sub hW rfl
    | exact regs_sub hR (by decide +kernel)
    | with_reducible refine ite_frame (fun _ => ?_) (fun _ => ?_)
    | with_reducible refine State.pmLost_frame ?_ ?_   ?_
    | with_reducible refine State.pmStatus_frame  ?_   ?_
    | with_reducible refine State.updSlu_frame ?_    ?_

theorem State.selfRefreshes_frame {W : List Part} {R : List Regs} {s0 s : State} (hW : ∀ p ∈ ([.slu] : List Part), p ∈ W) (h :
    Frame W R s0 s) :
    Frame W R s0 (State.selfRefreshes s) := by
  unfold State.selfRefreshes
  repeat' first
    | with_reducible exact h
    | with_reducible assumption
    | with_reducible refine State.when_frame ?_ (fun t ht => ?_)
    | with_reducible refine State.updSlu_frame ?_    ?_

theorem State.dramUe_frame {W : List Part} {R : List Regs} {s0 s : State} {owner : ℕ} {b : ℕ} (hW : ∀ p ∈ ([.mireIrq, .fenIrq,
    .seqs, .chans, .stg, .lev, .peat, .slu] : List Part), p ∈ W) (hR : RegsIn (alarmRegs ++ haltRegs ++ ([.fld
    .SLU_PM_STATUS_OVF, .fld .SLU_PM_STATUS_COUNT] : List Regs)) R) (h : Frame W R s0 s) :
    Frame W R s0 (State.dramUe s owner b) := by
  unfold State.dramUe
  repeat' first
    | with_reducible exact h
    | with_reducible assumption
    | exact parts_sub hW rfl
    | exact regs_sub hR (by decide +kernel)
    | with_reducible refine State.poisonBlock_frame ?_ ?_   ?_
    | with_reducible refine State.selfRefreshes_frame ?_    ?_
    | with_reducible refine State.raise_frame ?_ ?_   ?_

theorem State.dramCe_frame {W : List Part} {R : List Regs} {s0 s : State} {b : ℕ} (hW : ∀ p ∈ ([.mireIrq, .fenIrq, .seqs,
    .chans, .stg, .lev, .peat] : List Part), p ∈ W) (hR : RegsIn (alarmRegs ++ haltRegs ++ ([.fld .SLU_ECC_CE_COUNT, .fld
    .SLU_ECC_LAST_LO_ADDR, .fld .SLU_ECC_LAST_HI_ADDR] : List Regs)) R) (h : Frame W R s0 s) :
    Frame W R s0 (State.dramCe s b) := by
  unfold State.dramCe
  repeat' first
    | with_reducible exact h
    | with_reducible assumption
    | (extract_lets +onlyGivenNames x; refine have_frame (x := x) ?_ (fun hx => ?_); (on_goal 2 => (clear_value x; revert x; intro _ _)); (on_goal 1 => (unfold x; clear x)))
    | exact regs_sub hR (by decide +kernel)
    | with_reducible refine State.raise_frame ?_ ?_   ?_
    | with_reducible refine State.set_frame ?_ ?_
    | with_reducible refine State.incSat_frame ?_ ?_
    | exact cov_fld hR (by decide +kernel)

theorem State.poisonRead_frame {W : List Part} {R : List Regs} {s0 s : State} {b : ℕ} (hW : ∀ p ∈ ([.mireIrq, .fenIrq, .seqs,
    .chans, .stg, .lev, .peat] : List Part), p ∈ W) (hR : RegsIn (alarmRegs ++ haltRegs) R) (h : Frame W R s0 s) :
    Frame W R s0 (State.poisonRead s b) := by
  unfold State.poisonRead
  repeat' first
    | with_reducible exact h
    | with_reducible assumption
    | with_reducible refine State.raise_frame ?_ ?_   ?_

theorem State.dramLoad_frame {W : List Part} {R : List Regs} {s0 s : State} {a : ℕ} {len : ℕ} (hW : ∀ p ∈ ([.mireIrq, .fenIrq,
    .seqs, .chans, .stg, .lev, .peat] : List Part), p ∈ W) (hR : RegsIn (alarmRegs ++ haltRegs) R) (h : Frame W R s0 s) :
    Frame W R s0 (State.dramLoad s a len).2 := by
  unfold State.dramLoad
  repeat' first
    | with_reducible exact h
    | with_reducible assumption
    | with_reducible refine State.poisonRead_frame ?_ ?_   ?_
    | split

theorem State.storeBlock_frame {W : List Part} {R : List Regs} {s0 : State} {a : ℕ} {bs : List Byte} {acc : Bool × State} {b :
    ℕ} (hW : ∀ p ∈ ([.dram, .mireIrq, .fenIrq, .seqs, .chans, .stg, .lev, .peat, .slu] : List Part), p ∈ W) (hR : RegsIn
    (alarmRegs ++ haltRegs) R) (h : Frame W R s0 acc.2) :
    Frame W R s0 (State.storeBlock a bs acc b).2 := by
  unfold State.storeBlock
  repeat' first
    | with_reducible exact h
    | with_reducible assumption
    | (extract_lets +onlyGivenNames x; refine have_frame (x := x) ?_ (fun hx => ?_); (on_goal 2 => (clear_value x; revert x; intro _ _)); (on_goal 1 => (unfold x; clear x)))
    | (extract_lets +onlyGivenNames f; have := fun a => f a; clear this; unfold f; clear f)
    | (extract_lets +onlyGivenNames y; clear_value y; revert y; intro _)
    | exact parts_sub hW rfl
    | with_reducible refine State.writeBytes_frame ?_    ?_
    | with_reducible refine State.poisonRead_frame ?_ ?_   ?_
    | with_reducible refine State.updSlu_frame ?_    ?_
    | split

theorem State.dramStore_frame {W : List Part} {R : List Regs} {s0 s : State} {a : ℕ} {bs : List Byte} (hW : ∀ p ∈ ([.dram,
    .mireIrq, .fenIrq, .seqs, .chans, .stg, .lev, .peat, .slu] : List Part), p ∈ W) (hR : RegsIn (alarmRegs ++ haltRegs) R) (h
    : Frame W R s0 s) :
    Frame W R s0 (State.dramStore s a bs).2 := by
  unfold State.dramStore
  repeat' first
    | with_reducible exact h
    | with_reducible assumption
    | with_reducible refine foldl_pair_frame ?_ (fun p x hp => ?_)
    | with_reducible refine State.storeBlock_frame ?_ ?_   ?_
    | split

theorem State.scrubAt_frame {W : List Part} {R : List Regs} {s0 s : State} {b : ℕ} (hR : RegsIn (([.fld
    .SLU_SCRB_NEXT_LO_ADDR, .fld .SLU_SCRB_NEXT_HI_ADDR] : List Regs)) R) (h : Frame W R s0 s) :
    Frame W R s0 (State.scrubAt s b) := by
  unfold State.scrubAt
  repeat' first
    | with_reducible exact h
    | with_reducible refine State.set_frame ?_ ?_
    | exact cov_fld hR (by decide +kernel)

theorem State.scrubStep_frame {W : List Part} {R : List Regs} {s0 s : State} {corrected : Bool} (hW : ∀ p ∈ ([.slu] : List
    Part), p ∈ W) (hR : RegsIn (([.fld .SLU_SCRB_NEXT_LO_ADDR, .fld .SLU_SCRB_NEXT_HI_ADDR, .fld .SLU_SCRB_CE_COUNT] : List
    Regs)) R) (h : Frame W R s0 s) :
    Frame W R s0 (State.scrubStep s corrected) := by
  unfold State.scrubStep
  repeat' first
    | with_reducible exact h
    | with_reducible assumption
    | (extract_lets +onlyGivenNames x; refine have_frame (x := x) ?_ (fun hx => ?_); (on_goal 2 => (clear_value x; revert x; intro _ _)); (on_goal 1 => (unfold x; clear x)))
    | exact regs_sub hR (by decide +kernel)
    | with_reducible refine State.when_frame ?_ (fun t ht => ?_)
    | with_reducible refine State.scrubAt_frame  ?_   ?_
    | with_reducible refine State.incSat_frame ?_ ?_
    | with_reducible refine State.updSlu_frame ?_    ?_
    | exact cov_fld hR (by decide +kernel)

theorem State.scrubEnd_frame {W : List Part} {R : List Regs} {s0 s : State} {why : Fld} (hR : RegsIn (([.fld
    .SLU_SCRB_STATUS_BUSY, .fld .SLU_SCRB_STATUS_DONE, .fld .SLU_SCRB_STATUS_STOPPED, .fld .SLU_SCRB_STATUS_UE_RESET] : List
    Regs)) R) (hwhy : Covers R why) (h : Frame W R s0 s) :
    Frame W R s0 (State.scrubEnd s why) := by
  unfold State.scrubEnd
  repeat' first
    | with_reducible exact h
    | with_reducible assumption
    | (extract_lets +onlyGivenNames x; refine have_frame (x := x) ?_ (fun hx => ?_); (on_goal 2 => (clear_value x; revert x; intro _ _)); (on_goal 1 => (unfold x; clear x)))
    | with_reducible refine State.set_frame ?_ ?_
    | exact cov_fld hR (by decide +kernel)

theorem execDramRead_frame {W : List Part} {R : List Regs} {s : State} {owner : ℕ} {addr : ℕ} {error : DramError} (hW : ∀ p ∈
    ([.dram, .bus, .mireIrq, .fenIrq, .seqs, .chans, .stg, .lev, .peat, .slu] : List Part), p ∈ W) (hR : RegsIn (alarmRegs ++
    haltRegs ++ ([.fld .SLU_ECC_CE_COUNT, .fld .SLU_ECC_LAST_LO_ADDR, .fld .SLU_ECC_LAST_HI_ADDR, .fld .SLU_SCRB_STATUS_BUSY,
    .fld .SLU_SCRB_STATUS_DONE, .fld .SLU_SCRB_STATUS_STOPPED, .fld .SLU_SCRB_STATUS_UE_RESET, .fld .SLU_SCRB_NEXT_LO_ADDR,
    .fld .SLU_SCRB_NEXT_HI_ADDR, .fld .SLU_SCRB_CE_COUNT, .fld .SLU_PM_STATUS_OVF, .fld .SLU_PM_STATUS_COUNT] : List Regs)) R)
    :
    OutFrame W R s (execDramRead owner addr error s) := by
  unfold execDramRead
  repeat' first
    | (extract_lets +onlyGivenNames x; refine have_out (x := x) ?_ (fun hx => ?_); (on_goal 2 => (clear_value x; revert x; intro _ _)); (on_goal 1 => (unfold x; clear x)))
    | (extract_lets +onlyGivenNames y; clear_value y; revert y; intro _)
    | exact parts_sub hW rfl
    | with_reducible refine next_frame ?_
    | with_reducible refine ite_out (fun _ => ?_) (fun _ => ?_)
    | with_reducible assumption
    | exact regs_sub hR (by decide +kernel)
    | with_reducible exact Frame.refl _ _ _
    | with_reducible refine State.when_frame ?_ (fun t ht => ?_)
    | with_reducible refine State.answer_frame ?_    ?_
    | with_reducible refine State.busErr_frame ?_    ?_
    | with_reducible refine State.dramCe_frame ?_ ?_   ?_
    | with_reducible refine State.dramUe_frame ?_ ?_   ?_
    | with_reducible refine State.scrubStep_frame ?_ ?_   ?_
    | with_reducible refine State.writeBytes_frame ?_    ?_
    | with_reducible refine State.poisonRead_frame ?_ ?_   ?_
    | with_reducible refine State.scrubEnd_frame  ?_ ?_  ?_
    | exact cov_fld hR (by decide +kernel)
    | split

theorem State.mergeBytes_frame {W : List Part} {R : List Regs} {s0 s : State} {b : ℕ} {bytes : List (Option Byte)} (hW : ∀ p ∈
    ([.dram] : List Part), p ∈ W) (h : Frame W R s0 s) :
    Frame W R s0 (State.mergeBytes s b bytes) := by
  unfold State.mergeBytes
  repeat' first
    | with_reducible exact h
    | with_reducible assumption
    | with_reducible refine State.forN_frame ?_ (fun i t ht => ?_)
    | with_reducible refine State.putByte_frame ?_    ?_
    | split

theorem execPartialWrite_frame {W : List Part} {R : List Regs} {s : State} {owner : ℕ} {addr : ℕ} {bytes : List (Option Byte)}
    {error : DramError} (hW : ∀ p ∈ ([.dram, .bus, .mireIrq, .fenIrq, .seqs, .chans, .stg, .lev, .peat, .slu] : List Part), p
    ∈ W) (hR : RegsIn (alarmRegs ++ haltRegs ++ ([.fld .SLU_ECC_CE_COUNT, .fld .SLU_ECC_LAST_LO_ADDR, .fld
    .SLU_ECC_LAST_HI_ADDR, .fld .SLU_PM_STATUS_OVF, .fld .SLU_PM_STATUS_COUNT] : List Regs)) R) :
    OutFrame W R s (execPartialWrite owner addr bytes error s) := by
  unfold execPartialWrite
  repeat' first
    | (extract_lets +onlyGivenNames f; have := fun a => f a; clear this; unfold f; clear f)
    | (extract_lets +onlyGivenNames y; clear_value y; revert y; intro _)
    | exact parts_sub hW rfl
    | with_reducible refine next_frame ?_
    | with_reducible refine ite_out (fun _ => ?_) (fun _ => ?_)
    | exact regs_sub hR (by decide +kernel)
    | with_reducible exact Frame.refl _ _ _
    | with_reducible refine ite_frame (fun _ => ?_) (fun _ => ?_)
    | with_reducible refine State.busErr_frame ?_    ?_
    | with_reducible refine State.mergeBytes_frame ?_    ?_
    | with_reducible refine State.writeBytes_frame ?_    ?_
    | with_reducible refine State.poisonRead_frame ?_ ?_   ?_
    | with_reducible refine State.dramCe_frame ?_ ?_   ?_
    | with_reducible refine State.dramUe_frame ?_ ?_   ?_
    | with_reducible refine State.ack_frame ?_    ?_
    | split

theorem State.fateStatus_frame {W : List Part} {R : List Regs} {s0 s : State} (hR : RegsIn (([.fld
    .STH_FATE_STATUS_UNRESOLVED, .fld .STH_FATE_STATUS_RECORDS] : List Regs)) R) (h : Frame W R s0 s) :
    Frame W R s0 (State.fateStatus s) := by
  unfold State.fateStatus
  repeat' first
    | with_reducible exact h
    | with_reducible refine State.set_frame ?_ ?_
    | exact cov_fld hR (by decide +kernel)

theorem State.sramLoss_frame {W : List Part} {R : List Regs} {s0 s : State} {y0 : SramWord} (hW : ∀ p ∈ ([.drawn, .mireIrq,
    .fenIrq, .seqs, .chans, .stg, .lev, .peat, .slu, .sth] : List Part), p ∈ W) (hR : RegsIn (alarmRegs ++ haltRegs ++ ([.fld
    .STH_FATE_STATUS_UNRESOLVED, .fld .STH_FATE_STATUS_RECORDS, .fld .STH_FATE_DROP_COUNT, .fld .SLU_PM_STATUS_OVF, .fld
    .SLU_PM_STATUS_COUNT] : List Regs)) R) (h : Frame W R s0 s) :
    Frame W R s0 (State.sramLoss s y0) := by
  unfold State.sramLoss
  repeat' first
    | with_reducible exact h
    | with_reducible assumption
    | (extract_lets +onlyGivenNames x; refine have_frame (x := x) ?_ (fun hx => ?_); (on_goal 2 => (clear_value x; revert x; intro _ _)); (on_goal 1 => (unfold x; clear x)))
    | (extract_lets +onlyGivenNames y; clear_value y; revert y; intro _)
    | exact parts_sub hW rfl
    | exact regs_sub hR (by decide +kernel)
    | with_reducible refine ite_frame (fun _ => ?_) (fun _ => ?_)
    | with_reducible refine State.fateStatus_frame  ?_   ?_
    | with_reducible refine State.incSat_frame ?_ ?_
    | with_reducible refine State.peatStatus_frame  ?_   ?_
    | with_reducible refine State.pmLost_frame ?_ ?_   ?_
    | with_reducible refine State.pmStatus_frame  ?_   ?_
    | with_reducible refine State.updSth_frame ?_    ?_
    | with_reducible refine State.updSlu_frame ?_    ?_
    | with_reducible refine State.draw_frame ?_    ?_
    | with_reducible refine State.set_frame ?_ ?_
    | exact cov_fld hR (by decide +kernel)
    | exact cov_arr (f := .PEAT_RSEQ_LOST 0) (k := 0x4) (m := 5) hR (by decide +kernel) (by decide) rfl
    | split
    | with_reducible refine upd_peat ?_ ?_

theorem State.writeSram_frame {W : List Part} {R : List Regs} {s0 s : State} {a : ℕ} {bs : List Byte} (hW : ∀ p ∈ ([.sram] :
    List Part), p ∈ W)
    (h : Frame W R s0 s) : Frame W R s0 (s.writeSram a bs) := by
  induction bs generalizing s a with
  | nil => exact h
  | cons b bs ih =>
    unfold State.writeSram
    exact ih (putSram_frame hW h)

theorem State.sramWord_frame {W : List Part} {R : List Regs} {s0 s : State} {r : ℕ} {o : ℕ} {word : SramWord} (hW : ∀ p ∈
    ([.drawn] : List Part), p ∈ W) (h : Frame W R s0 s) :
    Frame W R s0 (State.sramWord s r o word).2 := by
  unfold State.sramWord
  repeat' first
    | with_reducible exact h
    | with_reducible assumption
    | (extract_lets +onlyGivenNames f; have := fun a => f a; clear this; unfold f; clear f)
    | (extract_lets +onlyGivenNames y; clear_value y; revert y; intro _)
    | with_reducible refine State.draw_frame ?_    ?_
    | split

theorem State.sramMerge_frame {W : List Part} {R : List Regs} {s0 s : State} {r : ℕ} {o : ℕ} {word : SramWord} {bytes : List
    (Option Byte)} (hW : ∀ p ∈ ([.sram, .drawn, .seqs, .tus] : List Part), p ∈ W) (h : Frame W R s0 s) :
    Frame W R s0 (State.sramMerge s r o word bytes) := by
  unfold State.sramMerge
  repeat' first
    | with_reducible exact h
    | (extract_lets +onlyGivenNames y; clear_value y; revert y; intro _)
    | exact parts_sub hW rfl
    | with_reducible refine ite_frame (fun _ => ?_) (fun _ => ?_)
    | with_reducible refine State.updSeq_frame ?_    ?_
    | with_reducible refine State.writeSram_frame ?_    ?_
    | with_reducible refine upd_tus ?_ ?_

theorem State.sramServe_frame {W : List Part} {R : List Regs} {s0 s : State} {r : ℕ} {o : ℕ} {word : SramWord} {write : Option
    (List (Option Byte))} (hW : ∀ p ∈ ([.sram, .bus, .drawn, .seqs, .tus] : List Part), p ∈ W) (h : Frame W R s0 s) :
    Frame W R s0 (State.sramServe s r o word write) := by
  unfold State.sramServe
  repeat' first
    | with_reducible exact h
    | exact parts_sub hW rfl
    | with_reducible refine State.sramMerge_frame ?_    ?_
    | with_reducible refine State.answer_frame ?_    ?_
    | with_reducible refine State.ack_frame ?_    ?_
    | with_reducible refine State.sramWord_frame ?_    ?_
    | split

theorem execSramRead_frame {W : List Part} {R : List Regs} {s : State} {region : ℕ} {offset : ℕ} {error : SramError} {word :
    SramWord} {write : Option (List (Option Byte))} (hW : ∀ p ∈ ([.sram, .bus, .drawn, .mireIrq, .fenIrq, .seqs, .chans, .stg,
    .lev, .peat, .withy, .tus, .slu, .sth, .mq] : List Part), p ∈ W) (hR : RegsIn (alarmRegs ++ haltRegs ++ ([.arr
    (.WTH_VCM_STATUS_RET_ACTIVE 0) 0x4 4, .arr (.WTH_VCM_STATUS_ENABLED 0) 0x4 4, .arr (.WTH_MA_CTRL_HOLD 0) 0x4 8, .arr
    (.WTH_MA_STATUS_VOUT 0) 0x4 8, .fld .STH_FATE_STATUS_UNRESOLVED, .fld .STH_FATE_STATUS_RECORDS, .fld .STH_FATE_DROP_COUNT,
    .fld .SLU_PM_STATUS_OVF, .fld .SLU_PM_STATUS_COUNT] : List Regs)) R) :
    OutFrame W R s (execSramRead region offset error word write s) := by
  unfold execSramRead
  repeat' first
    | (extract_lets +onlyGivenNames x; refine have_out (x := x) ?_ (fun hx => ?_); (on_goal 2 => (clear_value x; revert x; intro _ _)); (on_goal 1 => (unfold x; clear x)))
    | (extract_lets +onlyGivenNames x; refine have_frame (x := x) ?_ (fun hx => ?_); (on_goal 2 => (clear_value x; revert x; intro _ _)); (on_goal 1 => (unfold x; clear x)))
    | (extract_lets +onlyGivenNames y; clear_value y; revert y; intro _)
    | exact parts_sub hW rfl
    | with_reducible refine next_frame ?_
    | with_reducible refine ite_out (fun _ => ?_) (fun _ => ?_)
    | with_reducible assumption
    | exact regs_sub hR (by decide +kernel)
    | with_reducible exact Frame.refl _ _ _
    | with_reducible refine State.when_frame ?_ (fun t ht => ?_)
    | with_reducible refine State.raise_frame ?_ ?_   ?_
    | with_reducible refine State.selfRefreshes_frame ?_    ?_
    | with_reducible refine State.updSlu_frame ?_    ?_
    | with_reducible refine State.sramServe_frame ?_    ?_
    | with_reducible refine State.busErr_frame ?_    ?_
    | with_reducible refine State.retractAll_frame ?_ ?_   ?_
    | with_reducible refine State.sramLoss_frame ?_ ?_   ?_
    | split
    | with_reducible refine upd_mq ?_ ?_

theorem execScrubGo_frame {W : List Part} {R : List Regs} {s : State} (hW : ∀ p ∈ ([.bus, .slu] : List Part), p ∈ W) (hR :
    RegsIn (([.fld .SLU_SCRB_STATUS_BUSY, .fld .SLU_SCRB_STATUS_DONE, .fld .SLU_SCRB_STATUS_STOPPED, .fld
    .SLU_SCRB_STATUS_UE_RESET, .fld .SLU_SCRB_STATUS_ERR, .fld .SLU_SCRB_NEXT_LO_ADDR, .fld .SLU_SCRB_NEXT_HI_ADDR, .fld
    .SLU_SCRB_CE_COUNT] : List Regs)) R) :
    OutFrame W R s (execScrubGo s) := by
  unfold execScrubGo
  repeat' first
    | (extract_lets +onlyGivenNames x; refine have_frame (x := x) ?_ (fun hx => ?_); (on_goal 2 => (clear_value x; revert x; intro _ _)); (on_goal 1 => (unfold x; clear x)))
    | (extract_lets +onlyGivenNames y; clear_value y; revert y; intro _)
    | exact parts_sub hW rfl
    | with_reducible refine next_frame ?_
    | with_reducible assumption
    | exact regs_sub hR (by decide +kernel)
    | with_reducible exact Frame.refl _ _ _
    | with_reducible refine ite_frame (fun _ => ?_) (fun _ => ?_)
    | with_reducible refine State.scrubAt_frame  ?_   ?_
    | with_reducible refine State.access_frame ?_   (fun t ht => ?_) ?_
    | with_reducible refine State.set_frame ?_ ?_
    | with_reducible refine State.updSlu_frame ?_    ?_
    | exact cov_fld hR (by decide +kernel)

theorem execScrubStop_frame {W : List Part} {R : List Regs} {s : State} (hW : ∀ p ∈ ([.bus] : List Part), p ∈ W) (hR : RegsIn
    (([.fld .SLU_SCRB_STATUS_BUSY, .fld .SLU_SCRB_STATUS_DONE, .fld .SLU_SCRB_STATUS_STOPPED, .fld .SLU_SCRB_STATUS_UE_RESET]
    : List Regs)) R) :
    OutFrame W R s (execScrubStop s) := by
  unfold execScrubStop
  repeat' first
    | exact parts_sub hW rfl
    | with_reducible refine next_frame ?_
    | with_reducible assumption
    | with_reducible exact Frame.refl _ _ _
    | with_reducible refine State.when_frame ?_ (fun t ht => ?_)
    | with_reducible refine State.access_frame ?_   (fun t ht => ?_) ?_
    | with_reducible refine State.scrubEnd_frame  ?_ ?_  ?_
    | exact cov_fld hR (by decide +kernel)

theorem execScrubDone_frame {W : List Part} {R : List Regs} {s : State} (hR : RegsIn (([.fld .SLU_SCRB_STATUS_BUSY, .fld
    .SLU_SCRB_STATUS_DONE, .fld .SLU_SCRB_STATUS_STOPPED, .fld .SLU_SCRB_STATUS_UE_RESET] : List Regs)) R) :
    OutFrame W R s (execScrubDone s) := by
  unfold execScrubDone
  repeat' first
    | with_reducible refine next_frame ?_
    | with_reducible assumption
    | with_reducible exact Frame.refl _ _ _
    | with_reducible refine State.when_frame ?_ (fun t ht => ?_)
    | with_reducible refine State.scrubEnd_frame  ?_ ?_  ?_
    | exact cov_fld hR (by decide +kernel)

theorem execSluPmAck_frame {W : List Part} {R : List Regs} {s : State} {index : ℕ} (hW : ∀ p ∈ ([.bus, .slu] : List Part), p ∈
    W) (hR : RegsIn (([.fld .SLU_PM_STATUS_COUNT] : List Regs)) R) :
    OutFrame W R s (execSluPmAck index s) := by
  unfold execSluPmAck
  repeat' first
    | exact parts_sub hW rfl
    | with_reducible refine next_frame ?_
    | with_reducible assumption
    | with_reducible exact Frame.refl _ _ _
    | with_reducible refine State.pmStatus_frame  ?_   ?_
    | with_reducible refine State.access_frame ?_   (fun t ht => ?_) ?_
    | with_reducible refine State.updSlu_frame ?_    ?_

theorem execPmDataRead_frame {W : List Part} {R : List Regs} {s : State} (hW : ∀ p ∈ ([.bus] : List Part), p ∈ W) (hR : RegsIn
    (([.fld .SLU_PM_CUR_INDEX] : List Regs)) R) :
    OutFrame W R s (execPmDataRead s) := by
  unfold execPmDataRead
  repeat' first
    | exact parts_sub hW rfl
    | with_reducible refine next_frame ?_
    | with_reducible assumption
    | with_reducible exact Frame.refl _ _ _
    | with_reducible refine State.answer_frame ?_    ?_
    | with_reducible refine State.inc_frame ?_ ?_
    | with_reducible refine State.access_frame ?_   (fun t ht => ?_) ?_
    | exact cov_fld hR (by decide +kernel)

/-! ### Machine/Channels.lean -/

theorem State.updDma_frame {W : List Part} {R : List Regs} {s0 s : State} {c : ℕ} {f : DmaChannel → DmaChannel} (hW : ∀ p ∈
    ([.dma] : List Part), p ∈ W) (h : Frame W R s0 s) :
    Frame W R s0 (State.updDma s c f) := by
  unfold State.updDma
  repeat' first
    | with_reducible exact h
    | with_reducible assumption
    | with_reducible refine upd_dma ?_ ?_

theorem State.dmaIrq_frame {W : List Part} {R : List Regs} {s0 s : State} {c : ℕ} (hW : ∀ p ∈ ([.fenIrq] : List Part), p ∈ W)
    (hR : RegsIn (([.fld .LODE_IRQ_IRQ] : List Regs)) R) (h : Frame W R s0 s) :
    Frame W R s0 (State.dmaIrq s c) := by
  unfold State.dmaIrq
  repeat' first
    | with_reducible exact h
    | with_reducible assumption
    | with_reducible refine State.when_frame ?_ (fun t ht => ?_)
    | with_reducible refine State.irqFen_frame ?_    ?_
    | with_reducible refine State.set_frame ?_ ?_
    | exact cov_fld hR (by decide +kernel)

theorem State.dmaFlag_frame {W : List Part} {R : List Regs} {s0 s : State} {c : ℕ} {f : Fld} (hW : ∀ p ∈ ([.fenIrq] : List
    Part), p ∈ W) (hR : RegsIn (([.fld .LODE_IRQ_IRQ] : List Regs)) R) (hf : Covers R f) (h : Frame W R s0 s) :
    Frame W R s0 (State.dmaFlag s c f) := by
  unfold State.dmaFlag
  repeat' first
    | with_reducible exact h
    | with_reducible assumption
    | with_reducible refine State.set_frame ?_ ?_
    | with_reducible refine State.dmaIrq_frame ?_ ?_   ?_

/-! ### Machine/Sluice.lean -/

theorem State.sluStatus_frame {W : List Part} {R : List Regs} {s0 s : State} (hR : RegsIn (([.fld .SLU_STATUS_LED_FREE, .arr
    (.SLU_SEC_FREE_FREE 0) 0x4 4, .arr (.SLU_SEC_RUN_RUN 0) 0x4 4, .arr (.SLU_CRED_USED_USED 0) 0x4 32] : List Regs)) R) (h :
    Frame W R s0 s) :
    Frame W R s0 (State.sluStatus s) := by
  unfold State.sluStatus
  repeat' first
    | with_reducible exact h
    | with_reducible assumption
    | (extract_lets +onlyGivenNames x; refine have_frame (x := x) ?_ (fun hx => ?_); (on_goal 2 => (clear_value x; revert x; intro _ _)); (on_goal 1 => (unfold x; clear x)))
    | with_reducible refine State.forN_frame ?_ (fun i t ht => ?_)
    | with_reducible refine State.set_frame ?_ ?_
    | exact cov_fld hR (by decide +kernel)
    | exact cov_arr (f := .SLU_SEC_FREE_FREE 0) (k := 0x4) (m := 4) hR (by decide +kernel) (by decide) rfl
    | exact cov_arr (f := .SLU_SEC_RUN_RUN 0) (k := 0x4) (m := 4) hR (by decide +kernel) (by decide) rfl
    | exact cov_arr (f := .SLU_CRED_USED_USED 0) (k := 0x4) (m := 32) hR (by decide +kernel) (by decide) rfl

theorem State.updEntry_frame {W : List Part} {R : List Regs} {s0 s : State} {i : ℕ} {f : LedgerEntry → LedgerEntry} (hW : ∀ p
    ∈ ([.slu] : List Part), p ∈ W) (hR : RegsIn (([.fld .SLU_STATUS_LED_FREE, .arr (.SLU_SEC_FREE_FREE 0) 0x4 4, .arr
    (.SLU_SEC_RUN_RUN 0) 0x4 4, .arr (.SLU_CRED_USED_USED 0) 0x4 32] : List Regs)) R) (h : Frame W R s0 s) :
    Frame W R s0 (State.updEntry s i f) := by
  unfold State.updEntry
  repeat' first
    | with_reducible exact h
    | with_reducible assumption
    | with_reducible refine State.sluStatus_frame  ?_   ?_
    | with_reducible refine State.updSlu_frame ?_    ?_

theorem State.freeEntry_frame {W : List Part} {R : List Regs} {s0 s : State} {i : ℕ} (hW : ∀ p ∈ ([.slu] : List Part), p ∈ W)
    (hR : RegsIn (([.fld .SLU_STATUS_LED_FREE, .arr (.SLU_SEC_FREE_FREE 0) 0x4 4, .arr (.SLU_SEC_RUN_RUN 0) 0x4 4, .arr
    (.SLU_CRED_USED_USED 0) 0x4 32] : List Regs)) R) (h : Frame W R s0 s) :
    Frame W R s0 (State.freeEntry s i) := by
  unfold State.freeEntry
  repeat' first
    | with_reducible exact h
    | with_reducible assumption
    | with_reducible refine State.updEntry_frame ?_ ?_   ?_

theorem State.holdEntry_frame {W : List Part} {R : List Regs} {s0 s : State} {i : ℕ} (hW : ∀ p ∈ ([.slu, .sth] : List Part), p
    ∈ W) (hR : RegsIn (([.fld .SLU_STATUS_LED_FREE, .arr (.SLU_SEC_FREE_FREE 0) 0x4 4, .arr (.SLU_SEC_RUN_RUN 0) 0x4 4, .arr
    (.SLU_CRED_USED_USED 0) 0x4 32] : List Regs)) R) (h : Frame W R s0 s) :
    Frame W R s0 (State.holdEntry s i) := by
  unfold State.holdEntry
  repeat' first
    | with_reducible exact h
    | with_reducible assumption
    | (extract_lets +onlyGivenNames y; clear_value y; revert y; intro _)
    | exact parts_sub hW rfl
    | with_reducible refine State.updEntry_frame ?_ ?_   ?_
    | with_reducible refine State.updSth_frame ?_    ?_

theorem State.fillEntry_frame {W : List Part} {R : List Regs} {s0 s : State} {i : ℕ} {lo : ℕ} {hi : ℕ} (hW : ∀ p ∈ ([.slu,
    .sth] : List Part), p ∈ W) (hR : RegsIn (([.fld .SLU_STATUS_LED_FREE, .arr (.SLU_SEC_FREE_FREE 0) 0x4 4, .arr
    (.SLU_SEC_RUN_RUN 0) 0x4 4, .arr (.SLU_CRED_USED_USED 0) 0x4 32] : List Regs)) R) (h : Frame W R s0 s) :
    Frame W R s0 (State.fillEntry s i lo hi) := by
  unfold State.fillEntry
  repeat' first
    | with_reducible exact h
    | with_reducible assumption
    | (extract_lets +onlyGivenNames y; clear_value y; revert y; intro _)
    | exact parts_sub hW rfl
    | with_reducible refine ite_frame (fun _ => ?_) (fun _ => ?_)
    | with_reducible refine State.holdEntry_frame ?_ ?_   ?_
    | with_reducible refine State.updSlu_frame ?_    ?_

theorem State.markEntries_frame {W : List Part} {R : List Regs} {s0 s : State} {n : ℕ} {a : ℕ} {len : ℕ} (hW : ∀ p ∈ ([.slu] :
    List Part), p ∈ W) (hR : RegsIn (([.fld .SLU_STATUS_LED_FREE, .arr (.SLU_SEC_FREE_FREE 0) 0x4 4, .arr (.SLU_SEC_RUN_RUN 0)
    0x4 4, .arr (.SLU_CRED_USED_USED 0) 0x4 32] : List Regs)) R) (h : Frame W R s0 s) :
    Frame W R s0 (State.markEntries s n a len) := by
  unfold State.markEntries
  repeat' first
    | with_reducible exact h
    | with_reducible assumption
    | (extract_lets +onlyGivenNames f; have := fun a => f a; clear this; unfold f; clear f)
    | with_reducible refine State.sluStatus_frame  ?_   ?_
    | with_reducible refine State.updSlu_frame ?_    ?_

theorem State.unmarkEntries_frame {W : List Part} {R : List Regs} {s0 s : State} {n : ℕ} {good : Bool} (hW : ∀ p ∈ ([.slu] :
    List Part), p ∈ W) (hR : RegsIn (([.fld .SLU_STATUS_LED_FREE, .arr (.SLU_SEC_FREE_FREE 0) 0x4 4, .arr (.SLU_SEC_RUN_RUN 0)
    0x4 4, .arr (.SLU_CRED_USED_USED 0) 0x4 32] : List Regs)) R) (h : Frame W R s0 s) :
    Frame W R s0 (State.unmarkEntries s n good) := by
  unfold State.unmarkEntries
  repeat' first
    | with_reducible exact h
    | with_reducible assumption
    | (extract_lets +onlyGivenNames f; have := fun a => f a; clear this; unfold f; clear f)
    | with_reducible refine State.sluStatus_frame  ?_   ?_
    | with_reducible refine State.updSlu_frame ?_    ?_

theorem State.updRegion_frame {W : List Part} {R : List Regs} {s0 s : State} {r : ℕ} {f : Region → Region} (hW : ∀ p ∈ ([.slu]
    : List Part), p ∈ W) (h : Frame W R s0 s) :
    Frame W R s0 (State.updRegion s r f) := by
  unfold State.updRegion
  repeat' first
    | with_reducible exact h
    | with_reducible assumption
    | with_reducible refine State.updSlu_frame ?_    ?_

theorem State.discardRegion_frame {W : List Part} {R : List Regs} {s0 s : State} {r : ℕ} (hW : ∀ p ∈ ([.slu] : List Part), p ∈
    W) (hR : RegsIn (([.arr (.REED_ST_CTRL_ABORT 0) 0x100 8] : List Regs)) R) (h : Frame W R s0 s) :
    Frame W R s0 (State.discardRegion s r) := by
  unfold State.discardRegion
  repeat' first
    | with_reducible exact h
    | with_reducible assumption
    | (extract_lets +onlyGivenNames x; refine have_frame (x := x) ?_ (fun hx => ?_); (on_goal 2 => (clear_value x; revert x; intro _ _)); (on_goal 1 => (unfold x; clear x)))
    | (extract_lets +onlyGivenNames y; clear_value y; revert y; intro _)
    | with_reducible refine ite_frame (fun _ => ?_) (fun _ => ?_)
    | with_reducible refine State.updRegion_frame ?_    ?_
    | with_reducible refine State.set_frame ?_ ?_
    | exact cov_arr (f := .REED_ST_CTRL_ABORT 0) (k := 0x100) (m := 8) hR (by decide +kernel) (by decide) rfl
    | split

theorem State.discardOverlap_frame {W : List Part} {R : List Regs} {s0 s : State} {l : LbaRange} (hW : ∀ p ∈ ([.slu] : List
    Part), p ∈ W) (hR : RegsIn (([.arr (.REED_ST_CTRL_ABORT 0) 0x100 8] : List Regs)) R) (h : Frame W R s0 s) :
    Frame W R s0 (State.discardOverlap s l) := by
  unfold State.discardOverlap
  repeat' first
    | with_reducible exact h
    | with_reducible assumption
    | with_reducible refine State.when_frame ?_ (fun t ht => ?_)
    | with_reducible refine foldl_frame ?_ (fun t x ht => ?_)
    | with_reducible refine State.discardRegion_frame ?_ ?_   ?_

theorem State.fillEnd_frame {W : List Part} {R : List Regs} {s0 s : State} {r : ℕ} (hW : ∀ p ∈ ([.slu] : List Part), p ∈ W) (h
    : Frame W R s0 s) :
    Frame W R s0 (State.fillEnd s r) := by
  unfold State.fillEnd
  repeat' first
    | with_reducible exact h
    | with_reducible assumption
    | with_reducible refine State.updRegion_frame ?_    ?_

theorem State.raResult_frame {W : List Part} {R : List Regs} {s0 s : State} {err : Bool} (hR : RegsIn (([.fld .SLU_RA_RES_ERR,
    .fld .SLU_RA_RES_DONE] : List Regs)) R) (h : Frame W R s0 s) :
    Frame W R s0 (State.raResult s err) := by
  unfold State.raResult
  repeat' first
    | with_reducible exact h
    | with_reducible refine State.setIf_frame ?_ ?_
    | with_reducible refine State.set_frame ?_ ?_
    | exact cov_fld hR (by decide +kernel)

theorem execRegionSet_frame {W : List Part} {R : List Regs} {s : State} {region : ℕ} (hW : ∀ p ∈ ([.bus, .slu] : List Part), p
    ∈ W) (hR : RegsIn (([.fld .SLU_RA_RES_ERR, .fld .SLU_RA_RES_DONE] : List Regs)) R) :
    OutFrame W R s (execRegionSet region s) := by
  unfold execRegionSet
  repeat' first
    | (extract_lets +onlyGivenNames y; clear_value y; revert y; intro _)
    | exact parts_sub hW rfl
    | with_reducible refine next_frame ?_
    | with_reducible assumption
    | with_reducible exact Frame.refl _ _ _
    | with_reducible refine ite_frame (fun _ => ?_) (fun _ => ?_)
    | with_reducible refine State.raResult_frame  ?_   ?_
    | with_reducible refine State.access_frame ?_   (fun t ht => ?_) ?_
    | with_reducible refine State.updRegion_frame ?_    ?_

theorem execRegionDiscard_frame {W : List Part} {R : List Regs} {s : State} {region : ℕ} (hW : ∀ p ∈ ([.bus, .slu] : List
    Part), p ∈ W) (hR : RegsIn (([.arr (.REED_ST_CTRL_ABORT 0) 0x100 8, .fld .SLU_RA_RES_ERR, .fld .SLU_RA_RES_DONE] : List
    Regs)) R) :
    OutFrame W R s (execRegionDiscard region s) := by
  unfold execRegionDiscard
  repeat' first
    | exact parts_sub hW rfl
    | with_reducible refine next_frame ?_
    | with_reducible assumption
    | exact regs_sub hR (by decide +kernel)
    | with_reducible exact Frame.refl _ _ _
    | with_reducible refine ite_frame (fun _ => ?_) (fun _ => ?_)
    | with_reducible refine State.raResult_frame  ?_   ?_
    | with_reducible refine State.discardRegion_frame ?_ ?_   ?_
    | with_reducible refine State.access_frame ?_   (fun t ht => ?_) ?_

theorem execRegionLookup_frame {W : List Part} {R : List Regs} {s : State} (hW : ∀ p ∈ ([.bus, .drawn, .slu] : List Part), p ∈
    W) (hR : RegsIn (([.fld .SLU_RA_RES_HIT, .fld .SLU_RA_RES_ERR, .fld .SLU_RA_RES_DONE, .fld .SLU_RA_RES_LEAD, .fld
    .SLU_RA_RES_REGION] : List Regs)) R) :
    OutFrame W R s (execRegionLookup s) := by
  unfold execRegionLookup
  repeat' first
    | (extract_lets +onlyGivenNames f; have := fun a => f a; clear this; unfold f; clear f)
    | (extract_lets +onlyGivenNames y; clear_value y; revert y; intro _)
    | exact parts_sub hW rfl
    | with_reducible refine next_frame ?_
    | with_reducible assumption
    | exact regs_sub hR (by decide +kernel)
    | with_reducible exact Frame.refl _ _ _
    | with_reducible refine ite_frame (fun _ => ?_) (fun _ => ?_)
    | with_reducible refine State.when_frame ?_ (fun t ht => ?_)
    | with_reducible refine State.raResult_frame  ?_   ?_
    | with_reducible refine State.access_frame ?_   (fun t ht => ?_) ?_
    | with_reducible refine State.updRegion_frame ?_    ?_
    | with_reducible refine State.draw_frame ?_    ?_
    | with_reducible refine State.set_frame ?_ ?_
    | exact cov_fld hR (by decide +kernel)

theorem execRegionUnpin_frame {W : List Part} {R : List Regs} {s : State} {region : ℕ} (hW : ∀ p ∈ ([.bus, .slu] : List Part),
    p ∈ W) (hR : RegsIn (([.fld .SLU_RA_RES_ERR, .fld .SLU_RA_RES_DONE] : List Regs)) R) :
    OutFrame W R s (execRegionUnpin region s) := by
  unfold execRegionUnpin
  repeat' first
    | exact parts_sub hW rfl
    | with_reducible refine next_frame ?_
    | with_reducible assumption
    | with_reducible exact Frame.refl _ _ _
    | with_reducible refine ite_frame (fun _ => ?_) (fun _ => ?_)
    | with_reducible refine State.raResult_frame  ?_   ?_
    | with_reducible refine State.access_frame ?_   (fun t ht => ?_) ?_
    | with_reducible refine State.updRegion_frame ?_    ?_

theorem execRegionTtlExpire_frame {W : List Part} {R : List Regs} {s : State} {region : ℕ} (hW : ∀ p ∈ ([.slu] : List Part), p
    ∈ W) (hR : RegsIn (([.arr (.REED_ST_CTRL_ABORT 0) 0x100 8, .fld .SLU_RA_MISS_COUNT] : List Regs)) R) :
    OutFrame W R s (execRegionTtlExpire region s) := by
  unfold execRegionTtlExpire
  repeat' first
    | (extract_lets +onlyGivenNames y; clear_value y; revert y; intro _)
    | exact parts_sub hW rfl
    | with_reducible refine next_frame ?_
    | with_reducible assumption
    | exact regs_sub hR (by decide +kernel)
    | with_reducible exact Frame.refl _ _ _
    | with_reducible refine State.when_frame ?_ (fun t ht => ?_)
    | with_reducible refine State.incSat_frame ?_ ?_
    | with_reducible refine State.discardRegion_frame ?_ ?_   ?_
    | exact cov_fld hR (by decide +kernel)

theorem execLedgerFilled_frame {W : List Part} {R : List Regs} {s : State} {entry : ℕ} {data : List Byte} (hW : ∀ p ∈ ([.dram,
    .mireIrq, .fenIrq, .seqs, .chans, .stg, .lev, .peat, .slu, .sth] : List Part), p ∈ W) (hR : RegsIn (alarmRegs ++ haltRegs
    ++ ([.fld .SLU_STATUS_LED_FREE, .arr (.SLU_SEC_FREE_FREE 0) 0x4 4, .arr (.SLU_SEC_RUN_RUN 0) 0x4 4, .arr
    (.SLU_CRED_USED_USED 0) 0x4 32] : List Regs)) R) :
    OutFrame W R s (execLedgerFilled entry data s) := by
  unfold execLedgerFilled
  repeat' first
    | (extract_lets +onlyGivenNames y; clear_value y; revert y; intro _)
    | exact parts_sub hW rfl
    | with_reducible refine next_frame ?_
    | with_reducible refine ite_out (fun _ => ?_) (fun _ => ?_)
    | with_reducible assumption
    | exact regs_sub hR (by decide +kernel)
    | with_reducible exact Frame.refl _ _ _
    | with_reducible refine State.when_frame ?_ (fun t ht => ?_)
    | with_reducible refine State.dramStore_frame ?_ ?_   ?_
    | with_reducible refine State.updSth_frame ?_    ?_
    | with_reducible refine State.fillEntry_frame ?_ ?_   ?_

theorem execSluLedRel_frame {W : List Part} {R : List Regs} {s : State} {entry : ℕ} (hW : ∀ p ∈ ([.bus, .slu] : List Part), p
    ∈ W) (hR : RegsIn (([.fld .SLU_STATUS_REL_ERR, .fld .SLU_STATUS_LED_FREE, .arr (.SLU_SEC_FREE_FREE 0) 0x4 4, .arr
    (.SLU_SEC_RUN_RUN 0) 0x4 4, .arr (.SLU_CRED_USED_USED 0) 0x4 32] : List Regs)) R) :
    OutFrame W R s (execSluLedRel entry s) := by
  unfold execSluLedRel
  repeat' first
    | exact parts_sub hW rfl
    | with_reducible refine next_frame ?_
    | with_reducible assumption
    | exact regs_sub hR (by decide +kernel)
    | with_reducible exact Frame.refl _ _ _
    | with_reducible refine ite_frame (fun _ => ?_) (fun _ => ?_)
    | with_reducible refine State.access_frame ?_   (fun t ht => ?_) ?_
    | with_reducible refine State.freeEntry_frame ?_ ?_   ?_
    | with_reducible refine State.set_frame ?_ ?_
    | exact cov_fld hR (by decide +kernel)

theorem execSluLedFill_frame {W : List Part} {R : List Regs} {s : State} {ctx : ℕ} (hW : ∀ p ∈ ([.bus, .slu, .sth] : List
    Part), p ∈ W) (hR : RegsIn (([.fld .SLU_STATUS_REL_ERR, .fld .SLU_STATUS_LED_FREE, .arr (.SLU_SEC_FREE_FREE 0) 0x4 4, .arr
    (.SLU_SEC_RUN_RUN 0) 0x4 4, .arr (.SLU_CRED_USED_USED 0) 0x4 32] : List Regs)) R) :
    OutFrame W R s (execSluLedFill ctx s) := by
  unfold execSluLedFill
  repeat' first
    | (extract_lets +onlyGivenNames f; have := fun a => f a; clear this; unfold f; clear f)
    | (extract_lets +onlyGivenNames y; clear_value y; revert y; intro _)
    | exact parts_sub hW rfl
    | with_reducible refine next_frame ?_
    | with_reducible assumption
    | exact regs_sub hR (by decide +kernel)
    | with_reducible exact Frame.refl _ _ _
    | with_reducible refine ite_frame (fun _ => ?_) (fun _ => ?_)
    | with_reducible refine State.access_frame ?_   (fun t ht => ?_) ?_
    | with_reducible refine State.holdEntry_frame ?_ ?_   ?_
    | with_reducible refine State.set_frame ?_ ?_
    | exact cov_fld hR (by decide +kernel)
    | split

theorem execLedDataRead_frame {W : List Part} {R : List Regs} {s : State} (hW : ∀ p ∈ ([.bus] : List Part), p ∈ W) (hR :
    RegsIn (([.fld .SLU_LED_CUR_INDEX] : List Regs)) R) :
    OutFrame W R s (execLedDataRead s) := by
  unfold execLedDataRead
  repeat' first
    | exact parts_sub hW rfl
    | with_reducible refine next_frame ?_
    | with_reducible assumption
    | with_reducible exact Frame.refl _ _ _
    | with_reducible refine State.answer_frame ?_    ?_
    | with_reducible refine State.inc_frame ?_ ?_
    | with_reducible refine State.access_frame ?_   (fun t ht => ?_) ?_
    | exact cov_fld hR (by decide +kernel)

theorem State.keyOp_frame {W : List Part} {R : List Regs} {s0 s : State} {slot : ℕ} {key : BitVec 512} (hW : ∀ p ∈ ([.slu] :
    List Part), p ∈ W) (hR : RegsIn (([.fld .SLU_KEY_CTRL_BUSY, .fld .SLU_KEY_CTRL_SLOT] : List Regs)) R) (h : Frame W R s0 s)
    :
    Frame W R s0 (State.keyOp s slot key) := by
  unfold State.keyOp
  repeat' first
    | with_reducible exact h
    | with_reducible assumption
    | with_reducible refine State.set_frame ?_ ?_
    | with_reducible refine State.updSlu_frame ?_    ?_
    | exact cov_fld hR (by decide +kernel)

theorem execKeyLoad_frame {W : List Part} {R : List Regs} {s : State} {slot : ℕ} (hW : ∀ p ∈ ([.bus, .slu] : List Part), p ∈
    W) (hR : RegsIn (([.fld .SLU_KEY_CTRL_BUSY, .fld .SLU_KEY_CTRL_SLOT] : List Regs)) R) :
    OutFrame W R s (execKeyLoad slot s) := by
  unfold execKeyLoad
  repeat' first
    | exact parts_sub hW rfl
    | with_reducible refine next_frame ?_
    | with_reducible assumption
    | with_reducible exact Frame.refl _ _ _
    | with_reducible refine State.keyOp_frame ?_ ?_   ?_
    | with_reducible refine State.access_frame ?_   (fun t ht => ?_) ?_

theorem execKeyZero_frame {W : List Part} {R : List Regs} {s : State} {slot : ℕ} (hW : ∀ p ∈ ([.bus, .slu] : List Part), p ∈
    W) (hR : RegsIn (([.fld .SLU_KEY_CTRL_BUSY, .fld .SLU_KEY_CTRL_SLOT] : List Regs)) R) :
    OutFrame W R s (execKeyZero slot s) := by
  unfold execKeyZero
  repeat' first
    | exact parts_sub hW rfl
    | with_reducible refine next_frame ?_
    | with_reducible assumption
    | with_reducible exact Frame.refl _ _ _
    | with_reducible refine State.keyOp_frame ?_ ?_   ?_
    | with_reducible refine State.access_frame ?_   (fun t ht => ?_) ?_

theorem execKeyTakeEffect_frame {W : List Part} {R : List Regs} {s : State} (hW : ∀ p ∈ ([.slu] : List Part), p ∈ W) (hR :
    RegsIn (([.fld .SLU_KEY_CTRL_BUSY] : List Regs)) R) :
    OutFrame W R s (execKeyTakeEffect s) := by
  unfold execKeyTakeEffect
  repeat' first
    | exact parts_sub hW rfl
    | with_reducible refine next_frame ?_
    | with_reducible refine ite_out (fun _ => ?_) (fun _ => ?_)
    | with_reducible assumption
    | with_reducible exact Frame.refl _ _ _
    | with_reducible refine State.clocked_frame    (fun t ht => ?_) ?_
    | with_reducible refine State.setIf_frame ?_ ?_
    | with_reducible refine State.updSlu_frame ?_    ?_
    | exact cov_fld hR (by decide +kernel)
    | split

theorem execDramTrained_frame {W : List Part} {R : List Regs} {s : State} (hR : RegsIn (([.fld .SLU_DRAM_CFG_TRAINED] : List
    Regs)) R) :
    OutFrame W R s (execDramTrained s) := by
  unfold execDramTrained
  repeat' first
    | with_reducible refine next_frame ?_
    | with_reducible exact Frame.refl _ _ _
    | with_reducible refine State.set_frame ?_ ?_
    | exact cov_fld hR (by decide +kernel)

theorem State.regionSector_frame {W : List Part} {R : List Regs} {s0 s : State} {r : ℕ} {i : ℕ} (hW : ∀ p ∈ ([.slu] : List
    Part), p ∈ W) (h : Frame W R s0 s) :
    Frame W R s0 (State.regionSector s r i) := by
  unfold State.regionSector
  repeat' first
    | with_reducible exact h
    | with_reducible assumption
    | with_reducible refine State.updRegion_frame ?_    ?_

theorem execMoverSectorDone_frame {W : List Part} {R : List Regs} {s : State} {n : ℕ} (hW : ∀ p ∈ ([.dram, .mireIrq, .fenIrq,
    .seqs, .chans, .stg, .lev, .peat, .slu] : List Part), p ∈ W) (hR : RegsIn (alarmRegs ++ haltRegs) R) :
    OutFrame W R s (execMoverSectorDone n s) := by
  unfold execMoverSectorDone
  repeat' first
    | (extract_lets +onlyGivenNames x; refine have_out (x := x) ?_ (fun hx => ?_); (on_goal 2 => (clear_value x; revert x; intro _ _)); (on_goal 1 => (unfold x; clear x)))
    | (extract_lets +onlyGivenNames f; have := fun a => f a; clear this; unfold f; clear f)
    | (extract_lets +onlyGivenNames y; clear_value y; revert y; intro _)
    | exact parts_sub hW rfl
    | with_reducible refine next_frame ?_
    | with_reducible refine ite_out (fun _ => ?_) (fun _ => ?_)
    | with_reducible assumption
    | exact regs_sub hR (by decide +kernel)
    | with_reducible exact Frame.refl _ _ _
    | with_reducible refine State.updStage_frame ?_    ?_
    | with_reducible refine State.regionSector_frame ?_    ?_
    | with_reducible refine State.dramStore_frame ?_ ?_   ?_
    | with_reducible refine State.stgStatus_frame  ?_   ?_
    | with_reducible refine snd_frame (by assumption) (State.dramLoad_frame ?_ ?_   ?_)
    | split

theorem State.grant_frame {W : List Part} {R : List Regs} {s0 s : State} {a : SlotAsk} (hW : ∀ p ∈ ([.slu] : List Part), p ∈
    W) (h : Frame W R s0 s) :
    Frame W R s0 (State.grant s a) := by
  unfold State.grant
  repeat' first
    | with_reducible exact h
    | with_reducible assumption
    | (extract_lets +onlyGivenNames f; have := fun a => f a; clear this; unfold f; clear f)
    | (extract_lets +onlyGivenNames y; clear_value y; revert y; intro _)
    | with_reducible refine ite_frame (fun _ => ?_) (fun _ => ?_)
    | with_reducible refine State.updSlu_frame ?_    ?_
    | split

theorem State.slotCap_frame {W : List Part} {R : List Regs} {s0 s : State} (hR : RegsIn (([.fld .CSW_STATUS_CAP] : List Regs))
    R) (h : Frame W R s0 s) :
    Frame W R s0 (State.slotCap s) := by
  unfold State.slotCap
  repeat' first
    | with_reducible exact h
    | with_reducible refine State.set_frame ?_ ?_
    | exact cov_fld hR (by decide +kernel)

theorem execCswHog_frame {W : List Part} {R : List Regs} {s : State} {r : ℕ} {transfer : ℕ} (hW : ∀ p ∈ ([.bus, .mireIrq,
    .fenIrq, .seqs, .chans, .stg, .lev, .peat] : List Part), p ∈ W) (hR : RegsIn (alarmRegs ++ haltRegs ++ ([.fld
    .CSW_HOG_HOG] : List Regs)) R) :
    OutFrame W R s (execCswHog r transfer s) := by
  unfold execCswHog
  repeat' first
    | (extract_lets +onlyGivenNames x; refine have_out (x := x) ?_ (fun hx => ?_); (on_goal 2 => (clear_value x; revert x; intro _ _)); (on_goal 1 => (unfold x; clear x)))
    | exact parts_sub hW rfl
    | with_reducible refine next_frame ?_
    | with_reducible assumption
    | exact regs_sub hR (by decide +kernel)
    | with_reducible exact Frame.refl _ _ _
    | with_reducible refine State.when_frame ?_ (fun t ht => ?_)
    | with_reducible refine State.updStage_frame ?_    ?_
    | with_reducible refine State.busErr_frame ?_    ?_
    | with_reducible refine State.raise_frame ?_ ?_   ?_
    | with_reducible refine State.set_frame ?_ ?_
    | exact cov_fld hR (by decide +kernel)

theorem execCswCommit_frame {W : List Part} {R : List Regs} {s : State} (hW : ∀ p ∈ ([.bus] : List Part), p ∈ W) (hR : RegsIn
    (([.fld .CSW_STATUS_COMMIT_PEND] : List Regs)) R) :
    OutFrame W R s (execCswCommit s) := by
  unfold execCswCommit
  repeat' first
    | exact parts_sub hW rfl
    | with_reducible refine next_frame ?_
    | with_reducible assumption
    | with_reducible exact Frame.refl _ _ _
    | with_reducible refine State.access_frame ?_   (fun t ht => ?_) ?_
    | with_reducible refine State.set_frame ?_ ?_
    | exact cov_fld hR (by decide +kernel)

theorem execFrameBoundary_frame {W : List Part} {R : List Regs} {s : State} {asks : List SlotAsk} (hW : ∀ p ∈ ([.slu] : List
    Part), p ∈ W) (hR : RegsIn (([.fld .CSW_STATUS_COMMIT_PEND, .fld .CSW_STATUS_COMMIT_ERR] : List Regs)) R) :
    OutFrame W R s (execFrameBoundary asks s) := by
  unfold execFrameBoundary
  repeat' first
    | (extract_lets +onlyGivenNames x; refine have_frame (x := x) ?_ (fun hx => ?_); (on_goal 2 => (clear_value x; revert x; intro _ _)); (on_goal 1 => (unfold x; clear x)))
    | (extract_lets +onlyGivenNames f; have := fun a => f a; clear this; unfold f; clear f)
    | exact parts_sub hW rfl
    | with_reducible refine next_frame ?_
    | with_reducible assumption
    | with_reducible exact Frame.refl _ _ _
    | with_reducible refine ite_frame (fun _ => ?_) (fun _ => ?_)
    | with_reducible refine State.when_frame ?_ (fun t ht => ?_)
    | with_reducible refine foldl_frame ?_ (fun t x ht => ?_)
    | with_reducible refine State.clocked_frame    (fun t ht => ?_) ?_
    | with_reducible refine State.grant_frame ?_    ?_
    | with_reducible refine State.set_frame ?_ ?_
    | with_reducible refine State.updSlu_frame ?_    ?_
    | exact cov_fld hR (by decide +kernel)

/-! ### Machine/Staithe.lean -/

theorem State.updCtx_frame {W : List Part} {R : List Regs} {s0 s : State} {x : ℕ} {f : Ctx → Ctx} (hW : ∀ p ∈ ([.sth] : List
    Part), p ∈ W) (h : Frame W R s0 s) :
    Frame W R s0 (State.updCtx s x f) := by
  unfold State.updCtx
  repeat' first
    | with_reducible exact h
    | with_reducible assumption
    | with_reducible refine State.updSth_frame ?_    ?_

theorem State.sthStatus_frame {W : List Part} {R : List Regs} {s0 s : State} (hR : RegsIn (([.fld .STH_STATUS_QUIESCED, .fld
    .STH_STATUS_LIVE, .fld .STH_LOCK_STATUS_WAITING, .fld .STH_LOCK_STATUS_HELD] : List Regs)) R) (h : Frame W R s0 s) :
    Frame W R s0 (State.sthStatus s) := by
  unfold State.sthStatus
  repeat' first
    | with_reducible exact h
    | with_reducible assumption
    | (extract_lets +onlyGivenNames x; refine have_frame (x := x) ?_ (fun hx => ?_); (on_goal 2 => (clear_value x; revert x; intro _ _)); (on_goal 1 => (unfold x; clear x)))
    | (extract_lets +onlyGivenNames y; clear_value y; revert y; intro _)
    | with_reducible refine State.setIf_frame ?_ ?_
    | with_reducible refine State.set_frame ?_ ?_
    | exact cov_fld hR (by decide +kernel)

theorem State.pushNew_frame {W : List Part} {R : List Regs} {s0 s : State} {x : ℕ} {assign : Bool} {flushReady : Bool} (hW : ∀
    p ∈ ([.sth] : List Part), p ∈ W) (h : Frame W R s0 s) :
    Frame W R s0 (State.pushNew s x assign flushReady) := by
  unfold State.pushNew
  repeat' first
    | with_reducible exact h
    | with_reducible assumption
    | (extract_lets +onlyGivenNames y; clear_value y; revert y; intro _)
    | with_reducible refine State.updSth_frame ?_    ?_

theorem State.reserve_frame {W : List Part} {R : List Regs} {s0 s : State} {x : ℕ} (hW : ∀ p ∈ ([.slu, .sth] : List Part), p ∈
    W) (hR : RegsIn (([.fld .SLU_STATUS_LED_FREE, .arr (.SLU_SEC_FREE_FREE 0) 0x4 4, .arr (.SLU_SEC_RUN_RUN 0) 0x4 4, .arr
    (.SLU_CRED_USED_USED 0) 0x4 32] : List Regs)) R) (h : Frame W R s0 s) :
    Frame W R s0 (State.reserve s x) := by
  unfold State.reserve
  repeat' first
    | with_reducible exact h
    | with_reducible assumption
    | (extract_lets +onlyGivenNames x; refine have_frame (x := x) ?_ (fun hx => ?_); (on_goal 2 => (clear_value x; revert x; intro _ _)); (on_goal 1 => (unfold x; clear x)))
    | (extract_lets +onlyGivenNames y; clear_value y; revert y; intro _)
    | exact parts_sub hW rfl
    | with_reducible refine ite_frame (fun _ => ?_) (fun _ => ?_)
    | with_reducible refine State.updSlu_frame ?_    ?_
    | with_reducible refine State.updEntry_frame ?_ ?_   ?_
    | with_reducible refine State.updCtx_frame ?_    ?_
    | split

theorem State.takeLocks_frame {W : List Part} {R : List Regs} {s0 s : State} {x : ℕ} (hW : ∀ p ∈ ([.slu, .sth] : List Part), p
    ∈ W) (hR : RegsIn (([.arr (.REED_ST_CTRL_ABORT 0) 0x100 8] : List Regs)) R) (h : Frame W R s0 s) :
    Frame W R s0 (State.takeLocks s x) := by
  unfold State.takeLocks
  repeat' first
    | with_reducible exact h
    | with_reducible assumption
    | (extract_lets +onlyGivenNames x; refine have_frame (x := x) ?_ (fun hx => ?_); (on_goal 2 => (clear_value x; revert x; intro _ _)); (on_goal 1 => (unfold x; clear x)))
    | (extract_lets +onlyGivenNames y; clear_value y; revert y; intro _)
    | exact parts_sub hW rfl
    | with_reducible refine foldl_frame ?_ (fun t x ht => ?_)
    | with_reducible refine State.discardOverlap_frame ?_ ?_   ?_
    | with_reducible refine State.updCtx_frame ?_    ?_

theorem State.admitCtx_frame {W : List Part} {R : List Regs} {s0 s : State} {x : ℕ} (hW : ∀ p ∈ ([.slu, .sth] : List Part), p
    ∈ W) (hR : RegsIn (([.arr (.REED_ST_CTRL_ABORT 0) 0x100 8, .fld .STH_STATUS_QUIESCED, .fld .STH_STATUS_LIVE, .fld
    .STH_LOCK_STATUS_WAITING, .fld .STH_LOCK_STATUS_HELD, .fld .SLU_STATUS_LED_FREE, .arr (.SLU_SEC_FREE_FREE 0) 0x4 4, .arr
    (.SLU_SEC_RUN_RUN 0) 0x4 4, .arr (.SLU_CRED_USED_USED 0) 0x4 32] : List Regs)) R) (h : Frame W R s0 s) :
    Frame W R s0 (State.admitCtx s x) := by
  unfold State.admitCtx
  repeat' first
    | with_reducible exact h
    | with_reducible assumption
    | (extract_lets +onlyGivenNames x; refine have_frame (x := x) ?_ (fun hx => ?_); (on_goal 2 => (clear_value x; revert x; intro _ _)); (on_goal 1 => (unfold x; clear x)))
    | exact parts_sub hW rfl
    | exact regs_sub hR (by decide +kernel)
    | with_reducible refine ite_frame (fun _ => ?_) (fun _ => ?_)
    | with_reducible refine State.takeLocks_frame ?_ ?_   ?_
    | with_reducible refine State.sthStatus_frame  ?_   ?_
    | with_reducible refine State.pushNew_frame ?_    ?_
    | with_reducible refine State.updCtx_frame ?_    ?_
    | with_reducible refine State.reserve_frame ?_ ?_   ?_

theorem State.grantAppends_frame {W : List Part} {R : List Regs} {s0 s : State} (hW : ∀ p ∈ ([.slu, .sth] : List Part), p ∈ W)
    (hR : RegsIn (([.arr (.REED_ST_CTRL_ABORT 0) 0x100 8] : List Regs)) R) (h : Frame W R s0 s) :
    Frame W R s0 (State.grantAppends s) := by
  unfold State.grantAppends
  repeat' first
    | with_reducible exact h
    | with_reducible assumption
    | (extract_lets +onlyGivenNames y; clear_value y; revert y; intro _)
    | with_reducible refine State.when_frame ?_ (fun t ht => ?_)
    | with_reducible refine foldl_frame ?_ (fun t x ht => ?_)
    | with_reducible refine State.takeLocks_frame ?_ ?_   ?_

theorem State.addFate_frame {W : List Part} {R : List Regs} {s0 s : State} {r : FateRecord} (hW : ∀ p ∈ ([.sth] : List Part),
    p ∈ W) (hR : RegsIn (([.fld .STH_FATE_STATUS_UNRESOLVED, .fld .STH_FATE_STATUS_RECORDS, .fld .STH_FATE_DROP_COUNT] : List
    Regs)) R) (h : Frame W R s0 s) :
    Frame W R s0 (State.addFate s r) := by
  unfold State.addFate
  repeat' first
    | with_reducible exact h
    | with_reducible assumption
    | (extract_lets +onlyGivenNames x; refine have_frame (x := x) ?_ (fun hx => ?_); (on_goal 2 => (clear_value x; revert x; intro _ _)); (on_goal 1 => (unfold x; clear x)))
    | exact regs_sub hR (by decide +kernel)
    | with_reducible refine ite_frame (fun _ => ?_) (fun _ => ?_)
    | with_reducible refine State.fateStatus_frame  ?_   ?_
    | with_reducible refine State.incSat_frame ?_ ?_
    | with_reducible refine State.updSth_frame ?_    ?_
    | exact cov_fld hR (by decide +kernel)

theorem State.freeCtx_frame {W : List Part} {R : List Regs} {s0 s : State} {x : ℕ} (hW : ∀ p ∈ ([.slu, .sth] : List Part), p ∈
    W) (hR : RegsIn (([.arr (.REED_ST_CTRL_ABORT 0) 0x100 8, .fld .STH_STATUS_QUIESCED, .fld .STH_STATUS_LIVE, .fld
    .STH_LOCK_STATUS_WAITING, .fld .STH_LOCK_STATUS_HELD, .fld .SLU_STATUS_LED_FREE, .arr (.SLU_SEC_FREE_FREE 0) 0x4 4, .arr
    (.SLU_SEC_RUN_RUN 0) 0x4 4, .arr (.SLU_CRED_USED_USED 0) 0x4 32] : List Regs)) R) (h : Frame W R s0 s) :
    Frame W R s0 (State.freeCtx s x) := by
  unfold State.freeCtx
  repeat' first
    | with_reducible exact h
    | with_reducible assumption
    | (extract_lets +onlyGivenNames x; refine have_frame (x := x) ?_ (fun hx => ?_); (on_goal 2 => (clear_value x; revert x; intro _ _)); (on_goal 1 => (unfold x; clear x)))
    | exact parts_sub hW rfl
    | exact regs_sub hR (by decide +kernel)
    | with_reducible refine State.when_frame ?_ (fun t ht => ?_)
    | with_reducible refine State.sthStatus_frame  ?_   ?_
    | with_reducible refine State.updSth_frame ?_    ?_
    | with_reducible refine State.freeEntry_frame ?_ ?_   ?_
    | with_reducible refine State.grantAppends_frame ?_ ?_   ?_
    | split

theorem State.resetQueues_frame {W : List Part} {R : List Regs} {s0 s : State} {k : ℕ} (hW : ∀ p ∈ ([.sth] : List Part), p ∈
    W) (h : Frame W R s0 s) :
    Frame W R s0 (State.resetQueues s k) := by
  unfold State.resetQueues
  repeat' first
    | with_reducible exact h
    | with_reducible assumption
    | (extract_lets +onlyGivenNames f; have := fun a => f a; clear this; unfold f; clear f)
    | with_reducible refine State.updSth_frame ?_    ?_

theorem State.resetDone_frame {W : List Part} {R : List Regs} {s0 s : State} {k : ℕ} (hW : ∀ p ∈ ([.sth] : List Part), p ∈ W)
    (hR : RegsIn (([.arr (.STH_CTL_CFG_RST_PEND 0) 0x4 32] : List Regs)) R) (h : Frame W R s0 s) :
    Frame W R s0 (State.resetDone s k) := by
  unfold State.resetDone
  repeat' first
    | with_reducible exact h
    | with_reducible assumption
    | with_reducible refine ite_frame (fun _ => ?_) (fun _ => ?_)
    | with_reducible refine State.set_frame ?_ ?_
    | with_reducible refine State.resetQueues_frame ?_    ?_
    | exact cov_arr (f := .STH_CTL_CFG_RST_PEND 0) (k := 0x4) (m := 32) hR (by decide +kernel) (by decide) rfl

theorem State.endCtx_frame {W : List Part} {R : List Regs} {s0 s : State} {x : ℕ} {fate : ℕ} {reason : ℕ} {event : ℕ} (hW : ∀
    p ∈ ([.slu, .sth] : List Part), p ∈ W) (hR : RegsIn (([.arr (.REED_ST_CTRL_ABORT 0) 0x100 8, .fld .STH_STATUS_QUIESCED,
    .fld .STH_STATUS_LIVE, .fld .STH_LOCK_STATUS_WAITING, .fld .STH_LOCK_STATUS_HELD, .fld .STH_FATE_STATUS_UNRESOLVED, .fld
    .STH_FATE_STATUS_RECORDS, .fld .STH_FATE_DROP_COUNT, .arr (.STH_CTL_CFG_RST_PEND 0) 0x4 32, .fld .SLU_STATUS_LED_FREE,
    .arr (.SLU_SEC_FREE_FREE 0) 0x4 4, .arr (.SLU_SEC_RUN_RUN 0) 0x4 4] : List Regs) ++ ([.arr (.SLU_CRED_USED_USED 0) 0x4 32]
    : List Regs)) R) (h : Frame W R s0 s) :
    Frame W R s0 (State.endCtx s x fate reason event) := by
  unfold State.endCtx
  repeat' first
    | with_reducible exact h
    | with_reducible assumption
    | (extract_lets +onlyGivenNames y; clear_value y; revert y; intro _)
    | exact parts_sub hW rfl
    | exact regs_sub hR (by decide +kernel)
    | with_reducible refine State.resetDone_frame ?_ ?_   ?_
    | with_reducible refine State.freeCtx_frame ?_ ?_   ?_
    | with_reducible refine State.addFate_frame ?_ ?_   ?_

theorem State.resetController_frame {W : List Part} {R : List Regs} {s0 s : State} {k : ℕ} (hW : ∀ p ∈ ([.fenIrq, .slu, .sth]
    : List Part), p ∈ W) (hR : RegsIn (([.arr (.REED_ST_CTRL_ABORT 0) 0x100 8, .fld .STH_STATUS_QUIESCED, .fld
    .STH_STATUS_LIVE, .fld .STH_LOCK_STATUS_WAITING, .fld .STH_LOCK_STATUS_HELD, .fld .STH_FATE_STATUS_UNRESOLVED, .fld
    .STH_FATE_STATUS_RECORDS, .fld .STH_FATE_DROP_COUNT, .arr (.STH_CTL_CFG_EN 0) 0x4 32, .arr (.STH_CTL_CFG_RST_PEND 0) 0x4
    32, .fld .SLU_STATUS_LED_FREE, .arr (.SLU_SEC_FREE_FREE 0) 0x4 4] : List Regs) ++ ([.arr (.SLU_SEC_RUN_RUN 0) 0x4 4, .arr
    (.SLU_CRED_USED_USED 0) 0x4 32] : List Regs)) R) (h : Frame W R s0 s) :
    Frame W R s0 (State.resetController s k) := by
  unfold State.resetController
  repeat' first
    | with_reducible exact h
    | with_reducible assumption
    | (extract_lets +onlyGivenNames x; refine have_frame (x := x) ?_ (fun hx => ?_); (on_goal 2 => (clear_value x; revert x; intro _ _)); (on_goal 1 => (unfold x; clear x)))
    | (extract_lets +onlyGivenNames y; clear_value y; revert y; intro _)
    | exact parts_sub hW rfl
    | exact regs_sub hR (by decide +kernel)
    | with_reducible refine State.when_frame ?_ (fun t ht => ?_)
    | with_reducible refine foldl_frame ?_ (fun t x ht => ?_)
    | with_reducible refine State.resetDone_frame ?_ ?_   ?_
    | with_reducible refine State.endCtx_frame ?_ ?_   ?_
    | with_reducible refine State.irqFen_frame ?_    ?_
    | with_reducible refine State.set_frame ?_ ?_
    | exact cov_arr (f := .STH_CTL_CFG_EN 0) (k := 0x4) (m := 32) hR (by decide +kernel) (by decide) rfl
    | exact cov_arr (f := .STH_CTL_CFG_RST_PEND 0) (k := 0x4) (m := 32) hR (by decide +kernel) (by decide) rfl

theorem State.updArb_frame {W : List Part} {R : List Regs} {s0 s : State} {k : ℕ} {f : Arbiter → Arbiter} (hW : ∀ p ∈ ([.sth]
    : List Part), p ∈ W) (h : Frame W R s0 s) :
    Frame W R s0 (State.updArb s k f) := by
  unfold State.updArb
  repeat' first
    | with_reducible exact h
    | with_reducible assumption
    | with_reducible refine State.updSth_frame ?_    ?_

theorem State.noteFetch_frame {W : List Part} {R : List Regs} {s0 s : State} {k : ℕ} {q : ℕ} (hW : ∀ p ∈ ([.sth] : List Part),
    p ∈ W) (h : Frame W R s0 s) :
    Frame W R s0 (State.noteFetch s k q) := by
  unfold State.noteFetch
  repeat' first
    | with_reducible exact h
    | with_reducible assumption
    | (extract_lets +onlyGivenNames y; clear_value y; revert y; intro _)
    | with_reducible refine State.updArb_frame ?_    ?_

theorem State.arbitrate_frame {W : List Part} {R : List Regs} {s0 s : State} {c : HostCommand} (hW : ∀ p ∈ ([.sth] : List
    Part), p ∈ W) (h : Frame W R s0 s) :
    Frame W R s0 (State.arbitrate s c) := by
  unfold State.arbitrate
  repeat' first
    | with_reducible exact h
    | with_reducible assumption
    | (extract_lets +onlyGivenNames f; have := fun a => f a; clear this; unfold f; clear f)
    | with_reducible refine ite_frame (fun _ => ?_) (fun _ => ?_)
    | with_reducible refine State.updArb_frame ?_    ?_

theorem State.notIdle_frame {W : List Part} {R : List Regs} {s0 s : State} (hW : ∀ p ∈ ([.sth] : List Part), p ∈ W) (hR :
    RegsIn (([.fld .STH_IDLE_STATUS_IDLE] : List Regs)) R) (h : Frame W R s0 s) :
    Frame W R s0 (State.notIdle s) := by
  unfold State.notIdle
  repeat' first
    | with_reducible exact h
    | with_reducible assumption
    | with_reducible refine State.updSth_frame ?_    ?_
    | with_reducible refine State.set_frame ?_ ?_
    | exact cov_fld hR (by decide +kernel)

theorem State.idleAt_frame {W : List Part} {R : List Regs} {s0 s : State} {i : ℕ} (hW : ∀ p ∈ ([.fenIrq] : List Part), p ∈ W)
    (hR : RegsIn (([.fld .STH_IDLE_STATUS_EXPIRED] : List Regs)) R) (h : Frame W R s0 s) :
    Frame W R s0 (State.idleAt s i) := by
  unfold State.idleAt
  repeat' first
    | with_reducible exact h
    | with_reducible assumption
    | with_reducible refine State.irqFen_frame ?_    ?_
    | with_reducible refine State.set_frame ?_ ?_
    | exact cov_fld hR (by decide +kernel)

theorem State.idleMs_frame {W : List Part} {R : List Regs} {s0 s : State} (hW : ∀ p ∈ ([.fenIrq, .sth] : List Part), p ∈ W)
    (hR : RegsIn (([.fld .STH_IDLE_STATUS_EXPIRED, .fld .STH_IDLE_STATUS_IDLE] : List Regs)) R) (h : Frame W R s0 s) :
    Frame W R s0 (State.idleMs s) := by
  unfold State.idleMs
  repeat' first
    | with_reducible exact h
    | with_reducible assumption
    | (extract_lets +onlyGivenNames x; refine have_frame (x := x) ?_ (fun hx => ?_); (on_goal 2 => (clear_value x; revert x; intro _ _)); (on_goal 1 => (unfold x; clear x)))
    | exact parts_sub hW rfl
    | exact regs_sub hR (by decide +kernel)
    | with_reducible refine ite_frame (fun _ => ?_) (fun _ => ?_)
    | with_reducible refine State.when_frame ?_ (fun t ht => ?_)
    | with_reducible refine State.forN_frame ?_ (fun i t ht => ?_)
    | with_reducible refine State.idleAt_frame ?_ ?_   ?_
    | with_reducible refine State.incSat_frame ?_ ?_
    | with_reducible refine State.updSth_frame ?_    ?_
    | exact cov_fld hR (by decide +kernel)

theorem State.onPort_frame {W : List Part} {R : List Regs} {s0 s : State} {k : ℕ} {f : State → State} (hf : ∀ t, Frame W R s0
    t → Frame W R s0 (f t)) (h : Frame W R s0 s) :
    Frame W R s0 (State.onPort s k f) := by
  unfold State.onPort
  repeat' first
    | with_reducible exact h
    | with_reducible assumption
    | with_reducible refine State.clocked_frame    (fun t ht => ?_) ?_
    | with_reducible refine hf _ ?_

theorem State.sqRing_frame {W : List Part} {R : List Regs} {s0 s : State} {k : ℕ} {q : ℕ} {tail : ℕ} (hW : ∀ p ∈ ([.sth] :
    List Part), p ∈ W) (hR : RegsIn (([.fld .STH_IDLE_STATUS_IDLE] : List Regs)) R) (h : Frame W R s0 s) :
    Frame W R s0 (State.sqRing s k q tail) := by
  unfold State.sqRing
  repeat' first
    | with_reducible exact h
    | with_reducible assumption
    | with_reducible refine State.when_frame ?_ (fun t ht => ?_)
    | with_reducible refine State.updSth_frame ?_    ?_
    | with_reducible refine State.notIdle_frame ?_ ?_   ?_

theorem State.cqRing_frame {W : List Part} {R : List Regs} {s0 s : State} {k : ℕ} {q : ℕ} {head : ℕ} (hW : ∀ p ∈ ([.sth] :
    List Part), p ∈ W) (hR : RegsIn (([.fld .STH_IDLE_STATUS_IDLE] : List Regs)) R) (h : Frame W R s0 s) :
    Frame W R s0 (State.cqRing s k q head) := by
  unfold State.cqRing
  repeat' first
    | with_reducible exact h
    | with_reducible assumption
    | with_reducible refine State.when_frame ?_ (fun t ht => ?_)
    | with_reducible refine State.updSth_frame ?_    ?_
    | with_reducible refine State.notIdle_frame ?_ ?_   ?_

theorem execSqDoorbell_frame {W : List Part} {R : List Regs} {s : State} {k : ℕ} {q : ℕ} {tail : ℕ} (hW : ∀ p ∈ ([.sth] : List
    Part), p ∈ W) (hR : RegsIn (([.fld .STH_IDLE_STATUS_IDLE] : List Regs)) R) :
    OutFrame W R s (execSqDoorbell k q tail s) := by
  unfold execSqDoorbell
  repeat' first
    | exact parts_sub hW rfl
    | with_reducible refine next_frame ?_
    | with_reducible assumption
    | with_reducible exact Frame.refl _ _ _
    | with_reducible refine State.sqRing_frame ?_ ?_   ?_
    | with_reducible refine State.onPort_frame    (fun t ht => ?_) ?_

theorem execCqDoorbell_frame {W : List Part} {R : List Regs} {s : State} {k : ℕ} {q : ℕ} {head : ℕ} (hW : ∀ p ∈ ([.sth] : List
    Part), p ∈ W) (hR : RegsIn (([.fld .STH_IDLE_STATUS_IDLE] : List Regs)) R) :
    OutFrame W R s (execCqDoorbell k q head s) := by
  unfold execCqDoorbell
  repeat' first
    | exact parts_sub hW rfl
    | with_reducible refine next_frame ?_
    | with_reducible assumption
    | with_reducible exact Frame.refl _ _ _
    | with_reducible refine State.onPort_frame    (fun t ht => ?_) ?_
    | with_reducible refine State.cqRing_frame ?_ ?_   ?_

theorem execCommandFetch_frame {W : List Part} {R : List Regs} {s : State} {x : ℕ} {cmd : HostCommand} (hW : ∀ p ∈ ([.fenIrq,
    .sth] : List Part), p ∈ W) (hR : RegsIn (([.fld .STH_STATUS_QUIESCED, .fld .STH_STATUS_LIVE, .fld
    .STH_LOCK_STATUS_WAITING, .fld .STH_LOCK_STATUS_HELD, .fld .STH_IDLE_STATUS_EXPIRED, .fld .STH_IDLE_STATUS_IDLE] : List
    Regs)) R) :
    OutFrame W R s (execCommandFetch x cmd s) := by
  unfold execCommandFetch
  repeat' first
    | (extract_lets +onlyGivenNames y; clear_value y; revert y; intro _)
    | exact parts_sub hW rfl
    | with_reducible refine next_frame ?_
    | with_reducible refine ite_out (fun _ => ?_) (fun _ => ?_)
    | with_reducible assumption
    | exact regs_sub hR (by decide +kernel)
    | with_reducible exact Frame.refl _ _ _
    | with_reducible refine State.when_frame ?_ (fun t ht => ?_)
    | with_reducible refine State.irqFen_frame ?_    ?_
    | with_reducible refine State.noteFetch_frame ?_    ?_
    | with_reducible refine State.sthStatus_frame  ?_   ?_
    | with_reducible refine State.updSth_frame ?_    ?_
    | with_reducible refine State.pushNew_frame ?_    ?_
    | with_reducible refine State.set_frame ?_ ?_
    | with_reducible refine State.notIdle_frame ?_ ?_   ?_
    | exact cov_fld hR (by decide +kernel)

theorem execAdmission_frame {W : List Part} {R : List Regs} {s : State} (hW : ∀ p ∈ ([.slu, .sth] : List Part), p ∈ W) (hR :
    RegsIn (([.arr (.REED_ST_CTRL_ABORT 0) 0x100 8, .fld .STH_STATUS_QUIESCED, .fld .STH_STATUS_LIVE, .fld
    .STH_LOCK_STATUS_WAITING, .fld .STH_LOCK_STATUS_HELD, .fld .SLU_STATUS_LED_FREE, .arr (.SLU_SEC_FREE_FREE 0) 0x4 4, .arr
    (.SLU_SEC_RUN_RUN 0) 0x4 4, .arr (.SLU_CRED_USED_USED 0) 0x4 32] : List Regs)) R) :
    OutFrame W R s (execAdmission s) := by
  unfold execAdmission
  repeat' first
    | (extract_lets +onlyGivenNames x; refine have_out (x := x) ?_ (fun hx => ?_); (on_goal 2 => (clear_value x; revert x; intro _ _)); (on_goal 1 => (unfold x; clear x)))
    | exact parts_sub hW rfl
    | with_reducible refine next_frame ?_
    | with_reducible assumption
    | exact regs_sub hR (by decide +kernel)
    | with_reducible exact Frame.refl _ _ _
    | with_reducible refine State.grantAppends_frame ?_ ?_   ?_
    | with_reducible refine State.admitCtx_frame ?_ ?_   ?_
    | split

theorem execAdmissionAge_frame {W : List Part} {R : List Regs} {s : State} (hW : ∀ p ∈ ([.sth] : List Part), p ∈ W) :
    OutFrame W R s (execAdmissionAge s) := by
  unfold execAdmissionAge
  repeat' first
    | exact parts_sub hW rfl
    | with_reducible refine next_frame ?_
    | with_reducible exact Frame.refl _ _ _
    | with_reducible refine State.updCtx_frame ?_    ?_
    | split

theorem State.cplErr_frame {W : List Part} {R : List Regs} {s0 s : State} {core : ℕ} (hW : ∀ p ∈ ([.mireIrq, .fenIrq, .seqs,
    .chans, .stg, .lev, .peat] : List Part), p ∈ W) (hR : RegsIn (alarmRegs ++ haltRegs ++ ([.fld .STH_STATUS_CPL_ERR] : List
    Regs)) R) (h : Frame W R s0 s) :
    Frame W R s0 (State.cplErr s core) := by
  unfold State.cplErr
  repeat' first
    | with_reducible exact h
    | with_reducible assumption
    | exact regs_sub hR (by decide +kernel)
    | with_reducible refine State.set_frame ?_ ?_
    | with_reducible refine State.raise_frame ?_ ?_   ?_
    | exact cov_fld hR (by decide +kernel)

theorem execSthCpl_frame {W : List Part} {R : List Regs} {s : State} {who : Who} {core : ℕ} {ctx : ℕ} {status : ℕ} (hW : ∀ p ∈
    ([.bus, .mireIrq, .fenIrq, .seqs, .chans, .stg, .lev, .peat, .slu, .sth] : List Part), p ∈ W) (hR : RegsIn (alarmRegs ++
    haltRegs ++ ([.arr (.REED_ST_CTRL_ABORT 0) 0x100 8, .fld .STH_STATUS_QUIESCED, .fld .STH_STATUS_CPL_ERR, .fld
    .STH_STATUS_LIVE, .fld .STH_LOCK_STATUS_WAITING, .fld .STH_LOCK_STATUS_HELD, .fld .STH_FATE_STATUS_UNRESOLVED, .fld
    .STH_FATE_STATUS_RECORDS, .fld .STH_FATE_DROP_COUNT, .arr (.STH_CTL_CFG_RST_PEND 0) 0x4 32, .fld .SLU_STATUS_LED_FREE,
    .arr (.SLU_SEC_FREE_FREE 0) 0x4 4] : List Regs) ++ ([.arr (.SLU_SEC_RUN_RUN 0) 0x4 4, .arr (.SLU_CRED_USED_USED 0) 0x4 32]
    : List Regs)) R) :
    OutFrame W R s (execSthCpl who core ctx status s) := by
  unfold execSthCpl
  repeat' first
    | (extract_lets +onlyGivenNames x; refine have_frame (x := x) ?_ (fun hx => ?_); (on_goal 2 => (clear_value x; revert x; intro _ _)); (on_goal 1 => (unfold x; clear x)))
    | (extract_lets +onlyGivenNames y; clear_value y; revert y; intro _)
    | exact parts_sub hW rfl
    | with_reducible refine next_frame ?_
    | with_reducible assumption
    | exact regs_sub hR (by decide +kernel)
    | with_reducible exact Frame.refl _ _ _
    | with_reducible refine ite_frame (fun _ => ?_) (fun _ => ?_)
    | with_reducible refine State.when_frame ?_ (fun t ht => ?_)
    | with_reducible refine State.cplErr_frame ?_ ?_   ?_
    | with_reducible refine State.arbitrate_frame ?_    ?_
    | with_reducible refine State.endCtx_frame ?_ ?_   ?_
    | with_reducible refine State.access_frame ?_   (fun t ht => ?_) ?_
    | with_reducible refine State.grantAppends_frame ?_ ?_   ?_
    | with_reducible refine State.sthStatus_frame  ?_   ?_
    | with_reducible refine State.updSth_frame ?_    ?_
    | with_reducible refine State.updCtx_frame ?_    ?_
    | with_reducible refine State.freeEntry_frame ?_ ?_   ?_
    | split

theorem execCompletionPost_frame {W : List Part} {R : List Regs} {s : State} {ctx : ℕ} {size : ℕ} (hW : ∀ p ∈ ([.slu, .sth] :
    List Part), p ∈ W) (hR : RegsIn (([.arr (.REED_ST_CTRL_ABORT 0) 0x100 8, .fld .STH_STATUS_QUIESCED, .fld .STH_STATUS_LIVE,
    .fld .STH_LOCK_STATUS_WAITING, .fld .STH_LOCK_STATUS_HELD, .fld .SLU_STATUS_LED_FREE, .arr (.SLU_SEC_FREE_FREE 0) 0x4 4,
    .arr (.SLU_SEC_RUN_RUN 0) 0x4 4, .arr (.SLU_CRED_USED_USED 0) 0x4 32] : List Regs)) R) :
    OutFrame W R s (execCompletionPost ctx size s) := by
  unfold execCompletionPost
  repeat' first
    | (extract_lets +onlyGivenNames y; clear_value y; revert y; intro _)
    | exact parts_sub hW rfl
    | with_reducible refine next_frame ?_
    | with_reducible refine ite_out (fun _ => ?_) (fun _ => ?_)
    | with_reducible assumption
    | with_reducible exact Frame.refl _ _ _
    | with_reducible refine State.freeCtx_frame ?_ ?_   ?_
    | with_reducible refine State.updSth_frame ?_    ?_

theorem execFlushReady_frame {W : List Part} {R : List Regs} {s : State} {ctx : ℕ} (hW : ∀ p ∈ ([.sth] : List Part), p ∈ W) :
    OutFrame W R s (execFlushReady ctx s) := by
  unfold execFlushReady
  repeat' first
    | (extract_lets +onlyGivenNames f; have := fun a => f a; clear this; unfold f; clear f)
    | (extract_lets +onlyGivenNames y; clear_value y; revert y; intro _)
    | exact parts_sub hW rfl
    | with_reducible refine next_frame ?_
    | with_reducible refine ite_out (fun _ => ?_) (fun _ => ?_)
    | with_reducible exact Frame.refl _ _ _
    | with_reducible refine State.pushNew_frame ?_    ?_
    | with_reducible refine State.updCtx_frame ?_    ?_

theorem execSthNewRead_frame {W : List Part} {R : List Regs} {s : State} {core : ℕ} (hW : ∀ p ∈ ([.bus, .sth] : List Part), p
    ∈ W) :
    OutFrame W R s (execSthNewRead core s) := by
  unfold execSthNewRead
  repeat' first
    | exact parts_sub hW rfl
    | with_reducible refine next_frame ?_
    | with_reducible assumption
    | with_reducible exact Frame.refl _ _ _
    | with_reducible refine State.answer_frame ?_    ?_
    | with_reducible refine State.access_frame ?_   (fun t ht => ?_) ?_
    | with_reducible refine State.updSth_frame ?_    ?_
    | split

theorem execSthZaSet_frame {W : List Part} {R : List Regs} {s : State} {ctx : ℕ} (hW : ∀ p ∈ ([.bus, .slu, .sth] : List Part),
    p ∈ W) (hR : RegsIn (([.arr (.REED_ST_CTRL_ABORT 0) 0x100 8, .fld .STH_STATUS_QUIESCED, .fld .STH_STATUS_ZA_ERR, .fld
    .STH_STATUS_LIVE, .fld .STH_LOCK_STATUS_WAITING, .fld .STH_LOCK_STATUS_HELD] : List Regs)) R) :
    OutFrame W R s (execSthZaSet ctx s) := by
  unfold execSthZaSet
  repeat' first
    | (extract_lets +onlyGivenNames x; refine have_frame (x := x) ?_ (fun hx => ?_); (on_goal 2 => (clear_value x; revert x; intro _ _)); (on_goal 1 => (unfold x; clear x)))
    | (extract_lets +onlyGivenNames y; clear_value y; revert y; intro _)
    | exact parts_sub hW rfl
    | with_reducible refine next_frame ?_
    | with_reducible assumption
    | exact regs_sub hR (by decide +kernel)
    | with_reducible exact Frame.refl _ _ _
    | with_reducible refine ite_frame (fun _ => ?_) (fun _ => ?_)
    | with_reducible refine State.access_frame ?_   (fun t ht => ?_) ?_
    | with_reducible refine State.grantAppends_frame ?_ ?_   ?_
    | with_reducible refine State.sthStatus_frame  ?_   ?_
    | with_reducible refine State.updCtx_frame ?_    ?_
    | with_reducible refine State.set_frame ?_ ?_
    | exact cov_fld hR (by decide +kernel)

theorem execSthCtxEnd_frame {W : List Part} {R : List Regs} {s : State} {who : Who} {fate : ℕ} {reason : ℕ} {ctx : ℕ} (hW : ∀
    p ∈ ([.bus, .mireIrq, .fenIrq, .seqs, .chans, .stg, .lev, .peat, .slu, .sth] : List Part), p ∈ W) (hR : RegsIn (alarmRegs
    ++ haltRegs ++ ([.arr (.REED_ST_CTRL_ABORT 0) 0x100 8, .fld .STH_STATUS_QUIESCED, .fld .STH_STATUS_CPL_ERR, .fld
    .STH_STATUS_LIVE, .fld .STH_LOCK_STATUS_WAITING, .fld .STH_LOCK_STATUS_HELD, .fld .STH_FATE_STATUS_UNRESOLVED, .fld
    .STH_FATE_STATUS_RECORDS, .fld .STH_FATE_DROP_COUNT, .arr (.STH_CTL_CFG_RST_PEND 0) 0x4 32, .fld .SLU_STATUS_LED_FREE,
    .arr (.SLU_SEC_FREE_FREE 0) 0x4 4] : List Regs) ++ ([.arr (.SLU_SEC_RUN_RUN 0) 0x4 4, .arr (.SLU_CRED_USED_USED 0) 0x4 32]
    : List Regs)) R) :
    OutFrame W R s (execSthCtxEnd who fate reason ctx s) := by
  unfold execSthCtxEnd
  repeat' first
    | (extract_lets +onlyGivenNames y; clear_value y; revert y; intro _)
    | exact parts_sub hW rfl
    | with_reducible refine next_frame ?_
    | with_reducible assumption
    | exact regs_sub hR (by decide +kernel)
    | with_reducible exact Frame.refl _ _ _
    | with_reducible refine ite_frame (fun _ => ?_) (fun _ => ?_)
    | with_reducible refine State.endCtx_frame ?_ ?_   ?_
    | with_reducible refine State.access_frame ?_   (fun t ht => ?_) ?_
    | with_reducible refine State.cplErr_frame ?_ ?_   ?_

theorem execSthFateSet_frame {W : List Part} {R : List Regs} {s : State} {fate : ℕ} {reason : ℕ} {index : ℕ} (hW : ∀ p ∈
    ([.bus, .sth] : List Part), p ∈ W) (hR : RegsIn (([.fld .STH_FATE_STATUS_UNRESOLVED, .fld .STH_FATE_STATUS_RECORDS] : List
    Regs)) R) :
    OutFrame W R s (execSthFateSet fate reason index s) := by
  unfold execSthFateSet
  repeat' first
    | exact parts_sub hW rfl
    | with_reducible refine next_frame ?_
    | with_reducible assumption
    | with_reducible exact Frame.refl _ _ _
    | with_reducible refine State.fateStatus_frame  ?_   ?_
    | with_reducible refine State.access_frame ?_   (fun t ht => ?_) ?_
    | with_reducible refine State.updSth_frame ?_    ?_

theorem execSthFateClr_frame {W : List Part} {R : List Regs} {s : State} {k : ℕ} (hW : ∀ p ∈ ([.bus, .sth] : List Part), p ∈
    W) (hR : RegsIn (([.fld .STH_FATE_STATUS_UNRESOLVED, .fld .STH_FATE_STATUS_RECORDS] : List Regs)) R) :
    OutFrame W R s (execSthFateClr k s) := by
  unfold execSthFateClr
  repeat' first
    | exact parts_sub hW rfl
    | with_reducible refine next_frame ?_
    | with_reducible assumption
    | with_reducible exact Frame.refl _ _ _
    | with_reducible refine State.fateStatus_frame  ?_   ?_
    | with_reducible refine State.access_frame ?_   (fun t ht => ?_) ?_
    | with_reducible refine State.updSth_frame ?_    ?_

theorem execFateDataRead_frame {W : List Part} {R : List Regs} {s : State} (hW : ∀ p ∈ ([.bus] : List Part), p ∈ W) (hR :
    RegsIn (([.fld .STH_FATE_CUR_INDEX] : List Regs)) R) :
    OutFrame W R s (execFateDataRead s) := by
  unfold execFateDataRead
  repeat' first
    | exact parts_sub hW rfl
    | with_reducible refine next_frame ?_
    | with_reducible assumption
    | with_reducible exact Frame.refl _ _ _
    | with_reducible refine State.answer_frame ?_    ?_
    | with_reducible refine State.inc_frame ?_ ?_
    | with_reducible refine State.access_frame ?_   (fun t ht => ?_) ?_
    | exact cov_fld hR (by decide +kernel)

theorem State.resetConfig_frame {W : List Part} {R : List Regs} {s0 s : State} {f : ℕ → Bool} (hW : ∀ p ∈ ([.sth] : List
    Part), p ∈ W) (h : Frame W R s0 s) :
    Frame W R s0 (State.resetConfig s f) := by
  unfold State.resetConfig
  repeat' first
    | with_reducible exact h
    | with_reducible assumption
    | with_reducible refine State.updSth_frame ?_    ?_

theorem execControllerReset_frame {W : List Part} {R : List Regs} {s : State} {why : CtlReset} (hW : ∀ p ∈ ([.fenIrq, .slu,
    .sth] : List Part), p ∈ W) (hR : RegsIn (([.arr (.REED_ST_CTRL_ABORT 0) 0x100 8, .fld .STH_STATUS_QUIESCED, .fld
    .STH_STATUS_LIVE, .fld .STH_LOCK_STATUS_WAITING, .fld .STH_LOCK_STATUS_HELD, .fld .STH_FATE_STATUS_UNRESOLVED, .fld
    .STH_FATE_STATUS_RECORDS, .fld .STH_FATE_DROP_COUNT, .arr (.STH_CTL_CFG_EN 0) 0x4 32, .arr (.STH_CTL_CFG_RST_PEND 0) 0x4
    32, .fld .SLU_STATUS_LED_FREE, .arr (.SLU_SEC_FREE_FREE 0) 0x4 4] : List Regs) ++ ([.arr (.SLU_SEC_RUN_RUN 0) 0x4 4, .arr
    (.SLU_CRED_USED_USED 0) 0x4 32] : List Regs)) R) :
    OutFrame W R s (execControllerReset why s) := by
  unfold execControllerReset
  repeat' first
    | (extract_lets +onlyGivenNames x; refine have_out (x := x) ?_ (fun hx => ?_); (on_goal 2 => (clear_value x; revert x; intro _ _)); (on_goal 1 => (unfold x; clear x)))
    | (extract_lets +onlyGivenNames y; clear_value y; revert y; intro _)
    | exact parts_sub hW rfl
    | with_reducible refine next_frame ?_
    | with_reducible assumption
    | with_reducible exact Frame.refl _ _ _
    | with_reducible refine foldl_frame ?_ (fun t x ht => ?_)
    | with_reducible refine State.resetController_frame ?_ ?_   ?_
    | with_reducible refine State.updSth_frame ?_    ?_
    | with_reducible refine State.resetConfig_frame ?_    ?_
    | split

theorem execQuiesce_frame {W : List Part} {R : List Regs} {s : State} {set : Bool} (hW : ∀ p ∈ ([.bus] : List Part), p ∈ W)
    (hR : RegsIn (([.fld .STH_CTRL_QUIESCE, .fld .STH_STATUS_QUIESCED, .fld .STH_STATUS_LIVE, .fld .STH_LOCK_STATUS_WAITING,
    .fld .STH_LOCK_STATUS_HELD] : List Regs)) R) :
    OutFrame W R s (execQuiesce set s) := by
  unfold execQuiesce
  repeat' first
    | exact parts_sub hW rfl
    | with_reducible refine next_frame ?_
    | with_reducible assumption
    | exact regs_sub hR (by decide +kernel)
    | with_reducible exact Frame.refl _ _ _
    | with_reducible refine State.sthStatus_frame  ?_   ?_
    | with_reducible refine State.setIf_frame ?_ ?_
    | with_reducible refine State.access_frame ?_   (fun t ht => ?_) ?_
    | exact cov_fld hR (by decide +kernel)

theorem execIdleExpired_frame {W : List Part} {R : List Regs} {s : State} {i : ℕ} (hW : ∀ p ∈ ([.fenIrq] : List Part), p ∈ W)
    (hR : RegsIn (([.fld .STH_IDLE_STATUS_EXPIRED] : List Regs)) R) :
    OutFrame W R s (execIdleExpired i s) := by
  unfold execIdleExpired
  repeat' first
    | (extract_lets +onlyGivenNames y; clear_value y; revert y; intro _)
    | exact parts_sub hW rfl
    | with_reducible refine next_frame ?_
    | with_reducible assumption
    | with_reducible exact Frame.refl _ _ _
    | with_reducible refine State.when_frame ?_ (fun t ht => ?_)
    | with_reducible refine State.idleAt_frame ?_ ?_   ?_

theorem State.hostAnswer_frame {W : List Part} {R : List Regs} {s0 s : State} {a : HostAnswer} (hW : ∀ p ∈ ([.sth] : List
    Part), p ∈ W) (h : Frame W R s0 s) :
    Frame W R s0 (State.hostAnswer s a) := by
  unfold State.hostAnswer
  repeat' first
    | with_reducible exact h
    | with_reducible assumption
    | with_reducible refine State.updSth_frame ?_    ?_

theorem execCfgRdy_frame {W : List Part} {R : List Regs} {s : State} (hW : ∀ p ∈ ([.bus] : List Part), p ∈ W) (hR : RegsIn
    (([.fld .STH_BOOT_CFG_RDY] : List Regs)) R) :
    OutFrame W R s (execCfgRdy s) := by
  unfold execCfgRdy
  repeat' first
    | exact parts_sub hW rfl
    | with_reducible refine next_frame ?_
    | with_reducible assumption
    | with_reducible exact Frame.refl _ _ _
    | with_reducible refine State.access_frame ?_   (fun t ht => ?_) ?_
    | with_reducible refine State.set_frame ?_ ?_
    | exact cov_fld hR (by decide +kernel)

theorem execPerst_frame {W : List Part} {R : List Regs} {s : State} {port : ℕ} {asserted : Bool} (hW : ∀ p ∈ ([.fenIrq, .slu,
    .sth] : List Part), p ∈ W) (hR : RegsIn (([.arr (.REED_ST_CTRL_ABORT 0) 0x100 8, .fld .STH_STATUS_QUIESCED, .fld
    .STH_STATUS_LIVE, .fld .STH_LOCK_STATUS_WAITING, .fld .STH_LOCK_STATUS_HELD, .fld .STH_FATE_STATUS_UNRESOLVED, .fld
    .STH_FATE_STATUS_RECORDS, .fld .STH_FATE_DROP_COUNT, .arr (.STH_CTL_CFG_EN 0) 0x4 32, .arr (.STH_CTL_CFG_RST_PEND 0) 0x4
    32, .fld .SLU_STATUS_LED_FREE, .arr (.SLU_SEC_FREE_FREE 0) 0x4 4] : List Regs) ++ ([.arr (.SLU_SEC_RUN_RUN 0) 0x4 4, .arr
    (.SLU_CRED_USED_USED 0) 0x4 32, .fld .STH_BOOT_PERST_B, .fld .STH_BOOT_PERST_A, .fld .STH_BOOT_LINK_B, .fld
    .STH_BOOT_LINK_A] : List Regs)) R) :
    OutFrame W R s (execPerst port asserted s) := by
  unfold execPerst
  repeat' first
    | (extract_lets +onlyGivenNames x; refine have_out (x := x) ?_ (fun hx => ?_); (on_goal 2 => (clear_value x; revert x; intro _ _)); (on_goal 1 => (unfold x; clear x)))
    | exact parts_sub hW rfl
    | with_reducible refine next_frame ?_
    | with_reducible refine ite_out (fun _ => ?_) (fun _ => ?_)
    | with_reducible assumption
    | exact regs_sub hR (by decide +kernel)
    | with_reducible exact Frame.refl _ _ _
    | with_reducible refine foldl_frame ?_ (fun t x ht => ?_)
    | with_reducible refine State.resetConfig_frame ?_    ?_
    | with_reducible refine State.resetController_frame ?_ ?_   ?_
    | with_reducible refine State.setIf_frame ?_ ?_
    | with_reducible refine State.set_frame ?_ ?_
    | exact cov_fld hR (by decide +kernel)
    | with_reducible refine cov_ite ?_ ?_
    | unfold perstBit
    | unfold linkBit

theorem execLinkUp_frame {W : List Part} {R : List Regs} {s : State} {port : ℕ} (hR : RegsIn (([.fld .STH_BOOT_LINK_B, .fld
    .STH_BOOT_LINK_A] : List Regs)) R) :
    OutFrame W R s (execLinkUp port s) := by
  unfold execLinkUp
  repeat' first
    | with_reducible refine next_frame ?_
    | with_reducible assumption
    | with_reducible exact Frame.refl _ _ _
    | with_reducible refine State.when_frame ?_ (fun t ht => ?_)
    | with_reducible refine State.set_frame ?_ ?_
    | exact cov_fld hR (by decide +kernel)
    | with_reducible refine cov_ite ?_ ?_
    | unfold linkBit

theorem execSthLinkDown_frame {W : List Part} {R : List Regs} {s : State} {port : ℕ} (hW : ∀ p ∈ ([.mireIrq, .fenIrq, .seqs,
    .chans, .stg, .lev, .peat] : List Part), p ∈ W) (hR : RegsIn (alarmRegs ++ haltRegs ++ ([.fld .STH_BOOT_LINK_B, .fld
    .STH_BOOT_LINK_A] : List Regs)) R) :
    OutFrame W R s (execSthLinkDown port s) := by
  unfold execSthLinkDown
  repeat' first
    | exact parts_sub hW rfl
    | with_reducible refine next_frame ?_
    | exact regs_sub hR (by decide +kernel)
    | with_reducible exact Frame.refl _ _ _
    | with_reducible refine State.set_frame ?_ ?_
    | with_reducible refine State.raise_frame ?_ ?_   ?_
    | exact cov_fld hR (by decide +kernel)
    | with_reducible refine cov_ite ?_ ?_
    | unfold linkBit

theorem State.configWrite_frame {W : List Part} {R : List Regs} {s0 s : State} {k : ℕ} {field : ConfigField} {v : ℕ} (hW : ∀ p
    ∈ ([.fenIrq, .slu, .sth] : List Part), p ∈ W) (hR : RegsIn (([.arr (.REED_ST_CTRL_ABORT 0) 0x100 8, .fld
    .STH_STATUS_QUIESCED, .fld .STH_STATUS_LIVE, .fld .STH_LOCK_STATUS_WAITING, .fld .STH_LOCK_STATUS_HELD, .fld
    .STH_FATE_STATUS_UNRESOLVED, .fld .STH_FATE_STATUS_RECORDS, .fld .STH_FATE_DROP_COUNT, .arr (.STH_CTL_CFG_EN 0) 0x4 32,
    .arr (.STH_CTL_CFG_RST_PEND 0) 0x4 32, .fld .SLU_STATUS_LED_FREE, .arr (.SLU_SEC_FREE_FREE 0) 0x4 4] : List Regs) ++
    ([.arr (.SLU_SEC_RUN_RUN 0) 0x4 4, .arr (.SLU_CRED_USED_USED 0) 0x4 32] : List Regs)) R) (h : Frame W R s0 s) :
    Frame W R s0 (State.configWrite s k field v) := by
  unfold State.configWrite
  repeat' first
    | with_reducible exact h
    | with_reducible assumption
    | (extract_lets +onlyGivenNames x; refine have_frame (x := x) ?_ (fun hx => ?_); (on_goal 2 => (clear_value x; revert x; intro _ _)); (on_goal 1 => (unfold x; clear x)))
    | (extract_lets +onlyGivenNames f; have := fun a => f a; clear this; unfold f; clear f)
    | exact parts_sub hW rfl
    | with_reducible refine ite_frame (fun _ => ?_) (fun _ => ?_)
    | with_reducible refine State.when_frame ?_ (fun t ht => ?_)
    | with_reducible refine foldl_frame ?_ (fun t x ht => ?_)
    | with_reducible refine State.resetController_frame ?_ ?_   ?_
    | with_reducible refine State.updSth_frame ?_    ?_
    | split

theorem execConfigurationRequest_frame {W : List Part} {R : List Regs} {s : State} {port : ℕ} {fn : ℕ} {field : ConfigField}
    {value : Option ℕ} (hW : ∀ p ∈ ([.bus, .fenIrq, .slu, .sth] : List Part), p ∈ W) (hR : RegsIn (([.arr (.REED_ST_CTRL_ABORT
    0) 0x100 8, .fld .STH_STATUS_QUIESCED, .fld .STH_STATUS_LIVE, .fld .STH_LOCK_STATUS_WAITING, .fld .STH_LOCK_STATUS_HELD,
    .fld .STH_FATE_STATUS_UNRESOLVED, .fld .STH_FATE_STATUS_RECORDS, .fld .STH_FATE_DROP_COUNT, .arr (.STH_CTL_CFG_EN 0) 0x4
    32, .arr (.STH_CTL_CFG_RST_PEND 0) 0x4 32, .fld .SLU_STATUS_LED_FREE, .arr (.SLU_SEC_FREE_FREE 0) 0x4 4] : List Regs) ++
    ([.arr (.SLU_SEC_RUN_RUN 0) 0x4 4, .arr (.SLU_CRED_USED_USED 0) 0x4 32] : List Regs)) R) :
    OutFrame W R s (execConfigurationRequest port fn field value s) := by
  unfold execConfigurationRequest
  repeat' first
    | (extract_lets +onlyGivenNames y; clear_value y; revert y; intro _)
    | exact parts_sub hW rfl
    | with_reducible refine next_frame ?_
    | with_reducible assumption
    | with_reducible exact Frame.refl _ _ _
    | with_reducible refine ite_frame (fun _ => ?_) (fun _ => ?_)
    | with_reducible refine State.when_frame ?_ (fun t ht => ?_)
    | with_reducible refine State.configWrite_frame ?_ ?_   ?_
    | with_reducible refine State.answer_frame ?_    ?_
    | with_reducible refine State.onPort_frame    (fun t ht => ?_) ?_
    | with_reducible refine State.hostAnswer_frame ?_    ?_
    | split

theorem State.nvmeAccess_frame {W : List Part} {R : List Regs} {s0 s : State} {k : ℕ} {offset : ℕ} {value : Option ℕ} (hW : ∀
    p ∈ ([.bus, .drawn, .fenIrq, .slu, .sth] : List Part), p ∈ W) (hR : RegsIn (([.arr (.REED_ST_CTRL_ABORT 0) 0x100 8, .fld
    .STH_STATUS_QUIESCED, .fld .STH_STATUS_LIVE, .fld .STH_LOCK_STATUS_WAITING, .fld .STH_LOCK_STATUS_HELD, .fld
    .STH_FATE_STATUS_UNRESOLVED, .fld .STH_FATE_STATUS_RECORDS, .fld .STH_FATE_DROP_COUNT, .arr (.STH_CTL_CFG_EN 0) 0x4 32,
    .arr (.STH_CTL_CFG_RST_PEND 0) 0x4 32, .fld .STH_IDLE_STATUS_IDLE, .fld .SLU_STATUS_LED_FREE] : List Regs) ++ ([.arr
    (.SLU_SEC_FREE_FREE 0) 0x4 4, .arr (.SLU_SEC_RUN_RUN 0) 0x4 4, .arr (.SLU_CRED_USED_USED 0) 0x4 32] : List Regs)) R) (h :
    Frame W R s0 s) :
    Frame W R s0 (State.nvmeAccess s k offset value) := by
  unfold State.nvmeAccess
  repeat' first
    | with_reducible exact h
    | with_reducible assumption
    | (extract_lets +onlyGivenNames x; refine have_frame (x := x) ?_ (fun hx => ?_); (on_goal 2 => (clear_value x; revert x; intro _ _)); (on_goal 1 => (unfold x; clear x)))
    | (extract_lets +onlyGivenNames y; clear_value y; revert y; intro _)
    | exact parts_sub hW rfl
    | exact regs_sub hR (by decide +kernel)
    | with_reducible refine ite_frame (fun _ => ?_) (fun _ => ?_)
    | with_reducible refine State.when_frame ?_ (fun t ht => ?_)
    | with_reducible refine State.answer_frame ?_    ?_
    | with_reducible refine State.hostAnswer_frame ?_    ?_
    | with_reducible refine State.cqRing_frame ?_ ?_   ?_
    | with_reducible refine State.resetController_frame ?_ ?_   ?_
    | with_reducible refine State.updSth_frame ?_    ?_
    | with_reducible refine State.draw_frame ?_    ?_
    | with_reducible refine State.sqRing_frame ?_ ?_   ?_
    | with_reducible refine State.set_frame ?_ ?_
    | exact cov_arr (f := .STH_CTL_CFG_EN 0) (k := 0x4) (m := 32) hR (by decide +kernel) (by decide) rfl
    | split

theorem execControllerRegisterWrite_frame {W : List Part} {R : List Regs} {s : State} {k : ℕ} {offset : ℕ} {value : Option ℕ}
    (hW : ∀ p ∈ ([.bus, .drawn, .fenIrq, .slu, .sth] : List Part), p ∈ W) (hR : RegsIn (([.arr (.REED_ST_CTRL_ABORT 0) 0x100
    8, .fld .STH_STATUS_QUIESCED, .fld .STH_STATUS_LIVE, .fld .STH_LOCK_STATUS_WAITING, .fld .STH_LOCK_STATUS_HELD, .fld
    .STH_FATE_STATUS_UNRESOLVED, .fld .STH_FATE_STATUS_RECORDS, .fld .STH_FATE_DROP_COUNT, .arr (.STH_CTL_CFG_EN 0) 0x4 32,
    .arr (.STH_CTL_CFG_RST_PEND 0) 0x4 32, .fld .STH_IDLE_STATUS_IDLE, .fld .SLU_STATUS_LED_FREE] : List Regs) ++ ([.arr
    (.SLU_SEC_FREE_FREE 0) 0x4 4, .arr (.SLU_SEC_RUN_RUN 0) 0x4 4, .arr (.SLU_CRED_USED_USED 0) 0x4 32] : List Regs)) R) :
    OutFrame W R s (execControllerRegisterWrite k offset value s) := by
  unfold execControllerRegisterWrite
  repeat' first
    | exact parts_sub hW rfl
    | with_reducible refine next_frame ?_
    | with_reducible assumption
    | with_reducible exact Frame.refl _ _ _
    | with_reducible refine ite_frame (fun _ => ?_) (fun _ => ?_)
    | with_reducible refine State.nvmeAccess_frame ?_ ?_   ?_
    | with_reducible refine State.onPort_frame    (fun t ht => ?_) ?_
    | with_reducible refine State.hostAnswer_frame ?_    ?_

/-! ### Machine/Access.lean -/

theorem State.storeFields_frame {W : List Part} {R : List Regs} {s0 s : State} {who : Who} {r : RegRow} {a : ℕ} {v : Word} (hR
    : Covers R ⟨a, 0, 32⟩)
    (h : Frame W R s0 s) : Frame W R s0 (State.storeFields s who r a v) := State.putReg_frame hR h

theorem State.turnedAway_frame {W : List Part} {R : List Regs} {s0 s : State} {fen : Bool} {r : RegId} {ix : List ℕ} {v :
    Word} (hW : ∀ p ∈ ([.fenIrq] : List Part), p ∈ W) (hR : RegsIn (([.fld .REED_CS_CTRL_ERR, .arr (.MBX_STAT_WR_ERR 0) 0x400
    64, .arr (.MBX_STAT_DB_ERR 0) 0x400 64, .fld .CSW_STATUS_SHADOW_ERR, .fld .LODE_IRQ_IRQ, .arr (.LODE_CH_STATUS_CMD_ERR 0)
    0x40 32, .fld .CARR_STATUS_CFG_ERR, .fld .CARR_OP_STATUS_ERR, .fld .LEV_STATUS_WR_DENY] : List Regs)) R) (h : Frame W R s0
    s) :
    OptFrame W R s0 (State.turnedAway s fen r ix v) := by
  unfold State.turnedAway
  repeat' first
    | (extract_lets +onlyGivenNames y; clear_value y; revert y; intro _)
    | exact parts_sub hW rfl
    | with_reducible refine some_frame ?_
    | with_reducible exact none_frame
    | with_reducible refine ite_opt (fun _ => ?_) (fun _ => ?_)
    | with_reducible exact h
    | exact regs_sub hR (by decide +kernel)
    | with_reducible refine State.dmaFlag_frame ?_ ?_ ?_  ?_
    | with_reducible refine State.set_frame ?_ ?_
    | exact cov_fld hR (by decide +kernel)
    | exact cov_arr (f := .MBX_STAT_WR_ERR 0) (k := 0x400) (m := 64) hR (by decide +kernel) (by decide) rfl
    | exact cov_arr (f := .MBX_STAT_DB_ERR 0) (k := 0x400) (m := 64) hR (by decide +kernel) (by decide) rfl
    | exact cov_arr (f := .LODE_CH_STATUS_CMD_ERR 0) (k := 0x40) (m := 32) hR (by decide +kernel) (by decide) rfl
    | split

theorem State.acted_frame {W : List Part} {R : List Regs} {s0 s : State} {old : State} {r : RegId} {ix : List ℕ} {v : Word}
    (hW : ∀ p ∈ ([.mireIrq, .fenIrq, .seqs, .chans, .stg, .tide, .lev, .peat, .weir, .withy, .tus, .dyke] : List Part), p ∈ W)
    (hR : RegsIn (alarmRegs ++ haltRegs ++ ([.fld .TIDE_STATUS_ESI_VALID, .fld .TIDE_STATUS_T1_OK, .fld .TIDE_STATUS_T0_OK,
    .fld .TIDE_STATUS_STATE, .fld .WTH_SPN_CTRL_SRC, .fld .WTH_SPN_STATUS_AT_SPEED, .fld .WTH_SPN_STATUS_SPD95, .fld
    .WTH_SPN_STATUS_SPD90, .fld .WTH_SPN_MEAS_TRACK, .arr (.WTH_VCM_CTRL_EN 0) 0x4 4, .arr (.WTH_VCM_STATUS_ENABLED 0) 0x4 4,
    .arr (.WTH_MA_STATUS_VOUT 0) 0x4 8] : List Regs) ++ ([.arr (.TUS_SEC_STATUS_REGION_PEND 0) 0x40 4, .arr
    (.SDG_ST_STATUS_CODE_ERR 0) 0x400 8, .fld .SLU_STATUS_LED_FREE, .arr (.SLU_SEC_FREE_FREE 0) 0x4 4, .arr (.SLU_SEC_RUN_RUN
    0) 0x4 4, .arr (.SLU_CRED_USED_USED 0) 0x4 32, .arr (.SLU_KEY_DATA_KEY 0) 0x4 16, .arr (.LEV_SRC_REACT 0) 0x4 65536] :
    List Regs)) R) (h : Frame W R s0 s) :
    Frame W R s0 (State.acted s old r ix v) := by
  unfold State.acted
  repeat' first
    | with_reducible exact h
    | with_reducible assumption
    | (extract_lets +onlyGivenNames x; refine have_frame (x := x) ?_ (fun hx => ?_); (on_goal 2 => (clear_value x; revert x; intro _ _)); (on_goal 1 => (unfold x; clear x)))
    | (extract_lets +onlyGivenNames y; clear_value y; revert y; intro _)
    | exact parts_sub hW rfl
    | exact regs_sub hR (by decide +kernel)
    | with_reducible refine ite_frame (fun _ => ?_) (fun _ => ?_)
    | with_reducible refine State.when_frame ?_ (fun t ht => ?_)
    | with_reducible refine State.forN_frame ?_ (fun i t ht => ?_)
    | with_reducible refine State.codeStatus_frame  ?_   ?_
    | with_reducible refine State.driveVcm_frame ?_    ?_
    | with_reducible refine State.bridgeOff_frame ?_ ?_   ?_
    | with_reducible refine State.judgeRate_frame ?_ ?_   ?_
    | with_reducible refine State.retarget_frame ?_ ?_   ?_
    | with_reducible refine State.driveMa_frame  ?_   ?_
    | with_reducible refine State.esiControl_frame ?_ ?_   ?_
    | with_reducible refine State.freeze_frame ?_ ?_   ?_
    | with_reducible refine State.sluStatus_frame  ?_   ?_
    | with_reducible refine State.setSource_frame ?_ ?_   ?_
    | with_reducible refine State.trimReact_frame  ?_   ?_
    | with_reducible refine State.requestBlock_frame ?_ ?_   ?_
    | with_reducible refine State.headsInUse_frame ?_ ?_   ?_
    | with_reducible refine State.freezeRegion_frame ?_ ?_   ?_
    | with_reducible refine State.set_frame ?_ ?_
    | with_reducible refine State.unfreeze_frame  ?_   ?_
    | exact cov_fld hR (by decide +kernel)
    | exact cov_arr (f := .WTH_VCM_CTRL_EN 0) (k := 0x4) (m := 4) hR (by decide +kernel) (by decide) rfl
    | exact cov_arr (f := .SLU_KEY_DATA_KEY 0) (k := 0x4) (m := 16) hR (by decide +kernel) (by decide) rfl
    | split
    | with_reducible refine upd_dyke ?_ ?_
    | with_reducible refine upd_peat ?_ ?_
    | with_reducible refine upd_weir ?_ ?_

theorem goesTo_frame {W : List Part} {R : List Regs} {s0 s : State} {o : Host.Outcome State Fault Refusal} (ho : OutFrame W R s o)
    (h : Frame W R s0 s) : Frame W R s0 (goesTo s o) := by
  unfold goesTo
  split
  · exact h.trans ho
  · exact h

theorem State.loadAct_frame {W : List Part} {R : List Regs} {s0 s : State} {who : Who} {r : RegRow} {ix : List ℕ} {a : ℕ} (hW
    : ∀ p ∈ ([.bus, .mireIrq, .fenIrq, .seqs, .chans, .stg, .tide, .lev, .peat, .sth] : List Part), p ∈ W) (hR : RegsIn
    (alarmRegs ++ haltRegs ++ ([.fld .REED_CS_CTRL_ADDR, .arr (.REED_ST_STATUS_EVT_CNT 0) 0x100 8, .arr (.SDG_COEF_ADDR_ADDR
    0) 0x400 8, .arr (.SDG_RESULT_X_ERASED 0) 0x400 8, .arr (.SDG_RESULT_X_TIMED 0) 0x400 8, .arr (.SDG_RESULT_X_STEP 0) 0x400
    8, .arr (.SDG_RESULT_X_OFS 0) 0x400 8, .fld .STH_FATE_CUR_INDEX, .fld .SLU_LED_CUR_INDEX, .fld .SLU_PM_CUR_INDEX, .fld
    .WEIR_MIN_V12_MV, .fld .WEIR_CHOP_IPK] : List Regs)) R) (h : Frame W R s0 s) :
    Frame W R s0 (State.loadAct s who r ix a) := by
  unfold State.loadAct
  repeat' first
    | with_reducible exact h
    | (extract_lets +onlyGivenNames y; clear_value y; revert y; intro _)
    | exact parts_sub hW rfl
    | exact regs_sub hR (by decide +kernel)
    | with_reducible refine ite_frame (fun _ => ?_) (fun _ => ?_)
    | with_reducible refine State.answer_frame ?_    ?_
    | with_reducible refine execWeirMinV12Read_frame ?_ ?_  
    | with_reducible refine execTideOptLoRead_frame ?_   
    | with_reducible refine execVfyResultRead_frame ?_ ?_  
    | with_reducible refine execResultRead_frame ?_ ?_  
    | with_reducible refine goesTo_frame ?_ ?_
    | with_reducible refine execCoefRead_frame ?_ ?_  
    | with_reducible refine execLedDataRead_frame ?_ ?_  
    | with_reducible refine execPmDataRead_frame ?_ ?_  
    | with_reducible refine execSthNewRead_frame ?_   
    | with_reducible refine execReedEventRead_frame ?_ ?_  
    | with_reducible refine execFateDataRead_frame ?_ ?_  
    | with_reducible refine State.set_frame ?_ ?_
    | with_reducible refine execCsRead_frame ?_ ?_  
    | exact cov_fld hR (by decide +kernel)
    | split
    | with_reducible refine upd_tide ?_ ?_

theorem execRegisterWrite_frame {W : List Part} {R : List Regs} {s : State} {who : Who} {addr : ℕ} {width : ℕ} {value : Option
    Word} (hW : ∀ p ∈ ([.bus, .mireIrq, .fenIrq, .seqs, .chans, .stg, .tide, .lev, .peat, .weir, .withy, .tus, .sth, .dyke] :
    List Part), p ∈ W) (hR : RegsIn (alarmRegs ++ haltRegs ++ ([.fld .TIDE_STATUS_ESI_VALID, .fld .TIDE_STATUS_T1_OK, .fld
    .TIDE_STATUS_T0_OK, .fld .TIDE_STATUS_STATE, .fld .WTH_SPN_CTRL_SRC, .fld .WTH_SPN_STATUS_AT_SPEED, .fld
    .WTH_SPN_STATUS_SPD95, .fld .WTH_SPN_STATUS_SPD90, .fld .WTH_SPN_MEAS_TRACK, .arr (.WTH_VCM_CTRL_EN 0) 0x4 4, .arr
    (.WTH_VCM_STATUS_ENABLED 0) 0x4 4, .arr (.WTH_MA_STATUS_VOUT 0) 0x4 8] : List Regs) ++ ([.arr (.TUS_SEC_STATUS_REGION_PEND
    0) 0x40 4, .fld .REED_CS_CTRL_ERR, .fld .REED_CS_CTRL_ADDR, .arr (.REED_ST_STATUS_EVT_CNT 0) 0x100 8, .arr
    (.SDG_ST_STATUS_CODE_ERR 0) 0x400 8, .arr (.SDG_COEF_ADDR_ADDR 0) 0x400 8, .arr (.SDG_RESULT_X_ERASED 0) 0x400 8, .arr
    (.SDG_RESULT_X_TIMED 0) 0x400 8, .arr (.SDG_RESULT_X_STEP 0) 0x400 8, .arr (.SDG_RESULT_X_OFS 0) 0x400 8, .arr
    (.MBX_STAT_WR_ERR 0) 0x400 64, .arr (.MBX_STAT_DB_ERR 0) 0x400 64] : List Regs) ++ ([.fld .STH_FATE_CUR_INDEX, .fld
    .SLU_STATUS_LED_FREE, .arr (.SLU_SEC_FREE_FREE 0) 0x4 4, .arr (.SLU_SEC_RUN_RUN 0) 0x4 4, .fld .SLU_LED_CUR_INDEX, .arr
    (.SLU_CRED_USED_USED 0) 0x4 32, .arr (.SLU_KEY_DATA_KEY 0) 0x4 16, .fld .CSW_STATUS_SHADOW_ERR, .fld .LODE_IRQ_IRQ, .arr
    (.LODE_CH_STATUS_CMD_ERR 0) 0x40 32, .fld .CARR_STATUS_CFG_ERR, .fld .CARR_OP_STATUS_ERR] : List Regs) ++ ([.fld
    .SLU_PM_CUR_INDEX, .fld .WEIR_MIN_V12_MV, .fld .WEIR_CHOP_IPK, .fld .LEV_STATUS_WR_DENY, .arr (.LEV_SRC_REACT 0) 0x4
    65536] : List Regs)) R) (ha : Covers R ⟨addr, 0, 32⟩) :
    OutFrame W R s (execRegisterWrite who addr width value s) := by
  unfold execRegisterWrite
  repeat' first
    | exact parts_sub hW rfl
    | with_reducible refine next_frame ?_
    | with_reducible assumption
    | exact regs_sub hR (by decide +kernel)
    | with_reducible exact Frame.refl _ _ _
    | with_reducible refine State.loadAct_frame ?_ ?_   ?_
    | with_reducible refine State.reach_frame ?_ ?_  (fun i j t ht => ?_) ?_
    | with_reducible refine State.storeFields_frame ?_ ?_
    | with_reducible refine opt_frame (by assumption) (State.turnedAway_frame ?_ ?_   ?_)
    | with_reducible refine State.acted_frame ?_ ?_   ?_
    | split

/-! ### Machine/Lode.lean -/

theorem State.dmaRegister_frame {W : List Part} {R : List Regs} {s0 s : State} {c : ℕ} {a : ℕ} {value : Option Word} (hW : ∀ p
    ∈ ([.bus, .mireIrq, .fenIrq, .seqs, .chans, .stg, .tide, .lev, .peat, .weir, .withy, .tus, .sth, .dyke] : List Part), p ∈
    W) (hR : RegsIn (([.all] : List Regs)) R) (h : Frame W R s0 s) :
    Frame W R s0 (State.dmaRegister s c a value).2 := by
  have ho : Frame W R s0 (goesTo s (execRegisterWrite (.fen (s.get (.LODE_CH_CTRL_CORE c))) a 4 value s)) :=
    goesTo_frame (execRegisterWrite_frame (parts_sub hW rfl) (regs_all hR) (cov_all hR (by decide +kernel))) h
  exact upd_bus (parts_sub hW rfl) ho

theorem State.dmaLoad_frame {W : List Part} {R : List Regs} {s0 s : State} {c : ℕ} {a : ℕ} {len : ℕ} {outside : Option (List
    Byte)} (hW : ∀ p ∈ ([.bus, .mireIrq, .fenIrq, .seqs, .chans, .stg, .tide, .lev, .peat, .weir, .withy, .tus, .sth, .dyke] :
    List Part), p ∈ W) (hR : RegsIn (([.all] : List Regs)) R) (h : Frame W R s0 s) :
    Frame W R s0 (State.dmaLoad s c a len outside).2 := by
  unfold State.dmaLoad
  repeat' first
    | with_reducible exact h
    | with_reducible assumption
    | (extract_lets +onlyGivenNames f; have := fun a => f a; clear this; unfold f; clear f)
    | exact parts_sub hW rfl
    | with_reducible refine State.dmaRegister_frame ?_ ?_   ?_
    | with_reducible refine State.dramLoad_frame ?_ ?_   ?_
    | exact regs_all hR
    | split

theorem State.dmaStore_frame {W : List Part} {R : List Regs} {s0 s : State} {c : ℕ} {a : ℕ} {bs : List Byte} {outside : Bool}
    (hW : ∀ p ∈ ([.dram, .sram, .bus, .mireIrq, .fenIrq, .seqs, .chans, .stg, .tide, .lev, .peat, .weir, .withy, .tus, .slu,
    .sth, .dyke] : List Part), p ∈ W) (hR : RegsIn (([.all] : List Regs)) R) (h : Frame W R s0 s) :
    Frame W R s0 (State.dmaStore s c a bs outside).2 := by
  unfold State.dmaStore
  repeat' first
    | with_reducible exact h
    | with_reducible assumption
    | exact parts_sub hW rfl
    | with_reducible refine State.dramStore_frame ?_ ?_   ?_
    | with_reducible refine State.writeSram_frame ?_    ?_
    | with_reducible refine State.dmaRegister_frame ?_ ?_   ?_
    | exact regs_all hR
    | split

theorem State.descRead_frame {W : List Part} {R : List Regs} {s0 s : State} {c : ℕ} {a : ℕ} {len : ℕ} (hW : ∀ p ∈ ([.bus,
    .mireIrq, .fenIrq, .seqs, .chans, .stg, .tide, .lev, .peat, .weir, .withy, .tus, .sth, .dyke] : List Part), p ∈ W) (hR :
    RegsIn (([.all] : List Regs)) R) (h : Frame W R s0 s) :
    Frame W R s0 (State.descRead s c a len).2 := by
  unfold State.descRead
  repeat' first
    | with_reducible exact h
    | with_reducible assumption
    | with_reducible refine State.dmaLoad_frame ?_ ?_   ?_
    | split

theorem State.descWrite_frame {W : List Part} {R : List Regs} {s0 s : State} {c : ℕ} {a : ℕ} {bs : List Byte} (hW : ∀ p ∈
    ([.dram, .sram, .bus, .mireIrq, .fenIrq, .seqs, .chans, .stg, .tide, .lev, .peat, .weir, .withy, .tus, .slu, .sth, .dyke]
    : List Part), p ∈ W) (hR : RegsIn (([.all] : List Regs)) R) (h : Frame W R s0 s) :
    Frame W R s0 (State.descWrite s c a bs) := by
  unfold State.descWrite
  repeat' first
    | with_reducible exact h
    | with_reducible assumption
    | exact parts_sub hW rfl
    | with_reducible refine ite_frame (fun _ => ?_) (fun _ => ?_)
    | with_reducible refine State.dmaStore_frame ?_ ?_   ?_
    | with_reducible refine State.writeSram_frame ?_    ?_

theorem State.dmaPut_frame {W : List Part} {R : List Regs} {s0 s : State} {c : ℕ} {y1 : ℕ} {y2 : List Byte} (hW : ∀ p ∈
    ([.dram, .sram, .bus, .mireIrq, .fenIrq, .seqs, .chans, .stg, .tide, .lev, .peat, .weir, .withy, .tus, .slu, .sth, .dma,
    .dyke] : List Part), p ∈ W) (hR : RegsIn (([.all] : List Regs)) R) (h : Frame W R s0 s) :
    Frame W R s0 (State.dmaPut s c y1 y2).2 := by
  induction y1 generalizing s y2 with
  | zero => exact h
  | succ k ih =>
    unfold State.dmaPut
    extract_lets d m p
    have hz : Frame W R s0 p.2 := State.dmaStore_frame (parts_sub hW rfl) (regs_all hR) h
    split
    · exact h
    · split
      · exact ih (State.updDma_frame (parts_sub hW rfl) hz)
      · exact hz

theorem State.dmaStep_frame {W : List Part} {R : List Regs} {s0 : State} {c : ℕ} {acc : (ℕ × ℕ × List Byte) × State} (hW : ∀ p
    ∈ ([.dram, .sram, .bus, .mireIrq, .fenIrq, .seqs, .chans, .stg, .tide, .lev, .peat, .weir, .withy, .tus, .slu, .sth, .dma,
    .dyke] : List Part), p ∈ W) (hR : RegsIn (([.all] : List Regs)) R) (h : Frame W R s0 acc.2) :
    Frame W R s0 (State.dmaStep c acc).2 := by
  unfold State.dmaStep
  repeat' first
    | with_reducible exact h
    | with_reducible assumption
    | (extract_lets +onlyGivenNames x; refine have_frame (x := x) ?_ (fun hx => ?_); (on_goal 2 => (clear_value x; revert x; intro _ _)); (on_goal 1 => (unfold x; clear x)))
    | (extract_lets +onlyGivenNames f; first | (have := (f.2 : State); clear this; unfold f; clear f) | (have := (f.1 : State); clear this; unfold f; clear f) | (have := (f.2.2 : State); clear this; unfold f; clear f))
    | (extract_lets +onlyGivenNames y; clear_value y; revert y; intro _)
    | exact parts_sub hW rfl
    | with_reducible refine State.dmaPut_frame ?_ ?_   ?_
    | with_reducible refine State.updDma_frame ?_    ?_
    | with_reducible refine snd_frame (by assumption) (State.dmaLoad_frame ?_ ?_   ?_)
    | split

theorem State.dmaRegs_frame {W : List Part} {R : List Regs} {s0 s : State} {c : ℕ} {k : ℕ} (hR : RegsIn (([.arr
    (.LODE_CH_SRC_LO_ADDR 0) 0x40 32, .arr (.LODE_CH_SRC_HI_ADDR 0) 0x40 32, .arr (.LODE_CH_DST_LO_ADDR 0) 0x40 32, .arr
    (.LODE_CH_DST_HI_ADDR 0) 0x40 32, .arr (.LODE_CH_REMAIN_BYTES 0) 0x40 32, .arr (.LODE_CH_BURST_LEFT_BYTES 0) 0x40 32] :
    List Regs)) R) (h : Frame W R s0 s) :
    Frame W R s0 (State.dmaRegs s c k) := by
  unfold State.dmaRegs
  repeat' first
    | with_reducible exact h
    | with_reducible assumption
    | (extract_lets +onlyGivenNames x; refine have_frame (x := x) ?_ (fun hx => ?_); (on_goal 2 => (clear_value x; revert x; intro _ _)); (on_goal 1 => (unfold x; clear x)))
    | (extract_lets +onlyGivenNames y; clear_value y; revert y; intro _)
    | with_reducible refine State.set_frame ?_ ?_
    | exact cov_arr (f := .LODE_CH_SRC_LO_ADDR 0) (k := 0x40) (m := 32) hR (by decide +kernel) (by decide) rfl
    | exact cov_arr (f := .LODE_CH_SRC_HI_ADDR 0) (k := 0x40) (m := 32) hR (by decide +kernel) (by decide) rfl
    | exact cov_arr (f := .LODE_CH_DST_LO_ADDR 0) (k := 0x40) (m := 32) hR (by decide +kernel) (by decide) rfl
    | exact cov_arr (f := .LODE_CH_DST_HI_ADDR 0) (k := 0x40) (m := 32) hR (by decide +kernel) (by decide) rfl
    | exact cov_arr (f := .LODE_CH_REMAIN_BYTES 0) (k := 0x40) (m := 32) hR (by decide +kernel) (by decide) rfl
    | exact cov_arr (f := .LODE_CH_BURST_LEFT_BYTES 0) (k := 0x40) (m := 32) hR (by decide +kernel) (by decide) rfl

theorem State.hostMoved_frame {W : List Part} {R : List Regs} {s0 s : State} {c : ℕ} {k : ℕ} (hW : ∀ p ∈ ([.slu, .sth] : List
    Part), p ∈ W) (hR : RegsIn (([.fld .SLU_STATUS_LED_FREE, .arr (.SLU_SEC_FREE_FREE 0) 0x4 4, .arr (.SLU_SEC_RUN_RUN 0) 0x4
    4, .arr (.SLU_CRED_USED_USED 0) 0x4 32] : List Regs)) R) (h : Frame W R s0 s) :
    Frame W R s0 (State.hostMoved s c k) := by
  unfold State.hostMoved
  repeat' first
    | with_reducible exact h
    | with_reducible assumption
    | (extract_lets +onlyGivenNames x; refine have_frame (x := x) ?_ (fun hx => ?_); (on_goal 2 => (clear_value x; revert x; intro _ _)); (on_goal 1 => (unfold x; clear x)))
    | (extract_lets +onlyGivenNames y; clear_value y; revert y; intro _)
    | exact parts_sub hW rfl
    | with_reducible refine State.when_frame ?_ (fun t ht => ?_)
    | with_reducible refine State.fillEntry_frame ?_ ?_   ?_
    | with_reducible refine State.updCtx_frame ?_    ?_
    | split

theorem State.dmaRun_frame {W : List Part} {R : List Regs} {s0 s : State} {c : ℕ} {n : ℕ} {data : List Byte} (hW : ∀ p ∈
    ([.dram, .sram, .bus, .mireIrq, .fenIrq, .seqs, .chans, .stg, .tide, .lev, .peat, .weir, .withy, .tus, .slu, .sth, .dma,
    .dyke] : List Part), p ∈ W) (hR : RegsIn (([.all] : List Regs)) R) (h : Frame W R s0 s) :
    Frame W R s0 (State.dmaRun s c n data).2 := by
  unfold State.dmaRun
  repeat' first
    | with_reducible exact h
    | with_reducible assumption
    | (extract_lets +onlyGivenNames x; refine have_frame (x := x) ?_ (fun hx => ?_); (on_goal 2 => (clear_value x; revert x; intro _ _)); (on_goal 1 => (unfold x; clear x)))
    | (extract_lets +onlyGivenNames f; first | (have := (f.2 : State); clear this; unfold f; clear f) | (have := (f.1 : State); clear this; unfold f; clear f) | (have := (f.2.2 : State); clear this; unfold f; clear f))
    | (extract_lets +onlyGivenNames y; clear_value y; revert y; intro _)
    | exact parts_sub hW rfl
    | with_reducible refine foldl_pair_frame ?_ (fun p x hp => ?_)
    | with_reducible refine State.dmaRegs_frame  ?_   ?_
    | with_reducible refine State.hostMoved_frame ?_ ?_   ?_
    | with_reducible refine State.dmaStep_frame ?_ ?_   ?_
    | exact regs_all hR

theorem State.dmaState_frame {W : List Part} {R : List Regs} {s0 s : State} {c : ℕ} {st : ℕ} (hW : ∀ p ∈ ([.fenIrq] : List
    Part), p ∈ W) (hR : RegsIn (([.fld .LODE_STATUS_ACTIVE, .fld .LODE_IRQ_IRQ, .arr (.LODE_CH_STATUS_STATE 0) 0x40 32] : List
    Regs)) R) (h : Frame W R s0 s) :
    Frame W R s0 (State.dmaState s c st) := by
  unfold State.dmaState
  repeat' first
    | with_reducible exact h
    | with_reducible assumption
    | (extract_lets +onlyGivenNames x; refine have_frame (x := x) ?_ (fun hx => ?_); (on_goal 2 => (clear_value x; revert x; intro _ _)); (on_goal 1 => (unfold x; clear x)))
    | (extract_lets +onlyGivenNames y; clear_value y; revert y; intro _)
    | exact regs_sub hR (by decide +kernel)
    | with_reducible refine State.when_frame ?_ (fun t ht => ?_)
    | with_reducible refine State.set_frame ?_ ?_
    | with_reducible refine State.dmaIrq_frame ?_ ?_   ?_
    | exact cov_fld hR (by decide +kernel)
    | exact cov_arr (f := .LODE_CH_STATUS_STATE 0) (k := 0x40) (m := 32) hR (by decide +kernel) (by decide) rfl

theorem State.setCur_frame {W : List Part} {R : List Regs} {s0 s : State} {c : ℕ} {a : ℕ} (hR : RegsIn (([.arr
    (.LODE_CH_CUR_LO_ADDR 0) 0x40 32, .arr (.LODE_CH_CUR_HI_ADDR 0) 0x40 32] : List Regs)) R) (h : Frame W R s0 s) :
    Frame W R s0 (State.setCur s c a) := by
  unfold State.setCur
  repeat' first
    | with_reducible exact h
    | with_reducible refine State.set_frame ?_ ?_
    | exact cov_arr (f := .LODE_CH_CUR_LO_ADDR 0) (k := 0x40) (m := 32) hR (by decide +kernel) (by decide) rfl
    | exact cov_arr (f := .LODE_CH_CUR_HI_ADDR 0) (k := 0x40) (m := 32) hR (by decide +kernel) (by decide) rfl

theorem State.setEnd_frame {W : List Part} {R : List Regs} {s0 s : State} {c : ℕ} {a : ℕ} (hR : RegsIn (([.arr
    (.LODE_CH_END_LO_ADDR 0) 0x40 32, .arr (.LODE_CH_END_HI_ADDR 0) 0x40 32] : List Regs)) R) (h : Frame W R s0 s) :
    Frame W R s0 (State.setEnd s c a) := by
  unfold State.setEnd
  repeat' first
    | with_reducible exact h
    | with_reducible refine State.set_frame ?_ ?_
    | exact cov_arr (f := .LODE_CH_END_LO_ADDR 0) (k := 0x40) (m := 32) hR (by decide +kernel) (by decide) rfl
    | exact cov_arr (f := .LODE_CH_END_HI_ADDR 0) (k := 0x40) (m := 32) hR (by decide +kernel) (by decide) rfl

theorem State.dmaStatus_frame {W : List Part} {R : List Regs} {s0 s : State} {c : ℕ} {a : ℕ} {result : ℕ} {err : ℕ} (hW : ∀ p
    ∈ ([.dram, .sram, .bus, .mireIrq, .fenIrq, .seqs, .chans, .stg, .tide, .lev, .peat, .weir, .withy, .tus, .slu, .sth, .dma,
    .dyke] : List Part), p ∈ W) (hR : RegsIn (([.all] : List Regs)) R) (h : Frame W R s0 s) :
    Frame W R s0 (State.dmaStatus s c a result err) := by
  unfold State.dmaStatus
  repeat' first
    | with_reducible exact h
    | with_reducible assumption
    | (extract_lets +onlyGivenNames x; refine have_frame (x := x) ?_ (fun hx => ?_); (on_goal 2 => (clear_value x; revert x; intro _ _)); (on_goal 1 => (unfold x; clear x)))
    | (extract_lets +onlyGivenNames y; clear_value y; revert y; intro _)
    | exact parts_sub hW rfl
    | with_reducible refine State.when_frame ?_ (fun t ht => ?_)
    | with_reducible refine State.inc_frame ?_ ?_
    | with_reducible refine State.dmaIrq_frame ?_ ?_   ?_
    | with_reducible refine State.descWrite_frame ?_ ?_   ?_
    | with_reducible refine State.updDma_frame ?_    ?_
    | exact regs_all hR
    | exact cov_all hR (by decide +kernel)

theorem State.dmaGoOn_frame {W : List Part} {R : List Regs} {s0 s : State} {c : ℕ} (hW : ∀ p ∈ ([.fenIrq] : List Part), p ∈ W)
    (hR : RegsIn (([.fld .LODE_STATUS_ACTIVE, .fld .LODE_IRQ_IRQ, .arr (.LODE_CH_STATUS_STATE 0) 0x40 32] : List Regs)) R) (h
    : Frame W R s0 s) :
    Frame W R s0 (State.dmaGoOn s c) := by
  unfold State.dmaGoOn
  repeat' first
    | with_reducible exact h
    | with_reducible assumption
    | with_reducible refine State.dmaState_frame ?_ ?_   ?_

theorem State.dmaStop_frame {W : List Part} {R : List Regs} {s0 s : State} {c : ℕ} {err : ℕ} (hW : ∀ p ∈ ([.dram, .sram, .bus,
    .mireIrq, .fenIrq, .seqs, .chans, .stg, .tide, .lev, .peat, .weir, .withy, .tus, .slu, .sth, .dma, .dyke] : List Part), p
    ∈ W) (hR : RegsIn (([.all] : List Regs)) R) (h : Frame W R s0 s) :
    Frame W R s0 (State.dmaStop s c err) := by
  unfold State.dmaStop
  repeat' first
    | with_reducible exact h
    | with_reducible assumption
    | (extract_lets +onlyGivenNames x; refine have_frame (x := x) ?_ (fun hx => ?_); (on_goal 2 => (clear_value x; revert x; intro _ _)); (on_goal 1 => (unfold x; clear x)))
    | (extract_lets +onlyGivenNames y; clear_value y; revert y; intro _)
    | exact parts_sub hW rfl
    | with_reducible refine ite_frame (fun _ => ?_) (fun _ => ?_)
    | with_reducible refine State.setEnd_frame  ?_   ?_
    | with_reducible refine State.dmaStatus_frame ?_ ?_   ?_
    | with_reducible refine State.set_frame ?_ ?_
    | with_reducible refine State.dmaState_frame ?_ ?_   ?_
    | exact regs_all hR
    | exact cov_all hR (by decide +kernel)

theorem State.dmaComplete_frame {W : List Part} {R : List Regs} {s0 s : State} {c : ℕ} {result : ℕ} {err : ℕ} (hW : ∀ p ∈
    ([.dram, .sram, .bus, .mireIrq, .fenIrq, .seqs, .chans, .stg, .tide, .lev, .peat, .weir, .withy, .tus, .slu, .sth, .dma,
    .dyke] : List Part), p ∈ W) (hR : RegsIn (([.all] : List Regs)) R) (h : Frame W R s0 s) :
    Frame W R s0 (State.dmaComplete s c result err) := by
  unfold State.dmaComplete
  repeat' first
    | with_reducible exact h
    | with_reducible assumption
    | (extract_lets +onlyGivenNames x; refine have_frame (x := x) ?_ (fun hx => ?_); (on_goal 2 => (clear_value x; revert x; intro _ _)); (on_goal 1 => (unfold x; clear x)))
    | (extract_lets +onlyGivenNames y; clear_value y; revert y; intro _)
    | exact parts_sub hW rfl
    | with_reducible refine ite_frame (fun _ => ?_) (fun _ => ?_)
    | with_reducible refine snd_frame (by assumption) (State.descRead_frame ?_ ?_   ?_)
    | with_reducible refine State.setEnd_frame  ?_   ?_
    | with_reducible refine State.dmaStop_frame ?_ ?_   ?_
    | with_reducible refine State.setCur_frame  ?_   ?_
    | with_reducible refine State.dmaStatus_frame ?_ ?_   ?_
    | with_reducible refine State.dmaGoOn_frame ?_ ?_   ?_
    | with_reducible refine State.set_frame ?_ ?_
    | with_reducible refine State.dmaFlag_frame ?_ ?_ ?_  ?_
    | with_reducible refine State.raise_frame ?_ ?_   ?_
    | with_reducible refine State.dmaState_frame ?_ ?_   ?_
    | exact regs_all hR
    | exact cov_all hR (by decide +kernel)
    | split

theorem State.dmaBusErr_frame {W : List Part} {R : List Regs} {s0 s : State} {c : ℕ} {err : ℕ} (hW : ∀ p ∈ ([.dram, .sram,
    .bus, .mireIrq, .fenIrq, .seqs, .chans, .stg, .tide, .lev, .peat, .weir, .withy, .tus, .slu, .sth, .dma, .dyke] : List
    Part), p ∈ W) (hR : RegsIn (([.all] : List Regs)) R) (h : Frame W R s0 s) :
    Frame W R s0 (State.dmaBusErr s c err) := by
  unfold State.dmaBusErr
  repeat' first
    | with_reducible exact h
    | with_reducible assumption
    | exact parts_sub hW rfl
    | with_reducible refine State.dmaComplete_frame ?_ ?_   ?_
    | with_reducible refine State.dmaFlag_frame ?_ ?_ ?_  ?_
    | with_reducible refine State.raise_frame ?_ ?_   ?_
    | exact regs_all hR
    | exact cov_all hR (by decide +kernel)

theorem State.dmaCmd_frame {W : List Part} {R : List Regs} {s0 s : State} {who : Who} {c : ℕ} {f : State → State} (hW : ∀ p ∈
    ([.bus, .fenIrq] : List Part), p ∈ W) (hR : RegsIn (([.fld .LODE_IRQ_IRQ, .arr (.LODE_CH_STATUS_CMD_ERR 0) 0x40 32] : List
    Regs)) R) (hf : ∀ t, Frame W R s0 t → Frame W R s0 (f t)) (h : Frame W R s0 s) :
    Frame W R s0 (State.dmaCmd s who c f) := by
  unfold State.dmaCmd
  repeat' first
    | with_reducible exact h
    | with_reducible assumption
    | exact parts_sub hW rfl
    | exact regs_sub hR (by decide +kernel)
    | with_reducible refine ite_frame (fun _ => ?_) (fun _ => ?_)
    | with_reducible refine State.dmaFlag_frame ?_ ?_ ?_  ?_
    | with_reducible refine State.access_frame ?_   (fun t ht => ?_) ?_
    | exact cov_arr (f := .LODE_CH_STATUS_CMD_ERR 0) (k := 0x40) (m := 32) hR (by decide +kernel) (by decide) rfl
    | with_reducible refine hf _ ?_

theorem State.dmaGuard_frame {W : List Part} {R : List Regs} {s0 s : State} {c : ℕ} {f : State → State} (hW : ∀ p ∈ ([.dram,
    .sram, .bus, .mireIrq, .fenIrq, .seqs, .chans, .stg, .tide, .lev, .peat, .weir, .withy, .tus, .slu, .sth, .dma, .dyke] :
    List Part), p ∈ W) (hR : RegsIn (([.all] : List Regs)) R) (hf : ∀ t, Frame W R s0 t → Frame W R s0 (f t)) (h : Frame W R
    s0 s) :
    Frame W R s0 (State.dmaGuard s c f) := by
  unfold State.dmaGuard
  repeat' first
    | with_reducible exact h
    | with_reducible assumption
    | with_reducible refine ite_frame (fun _ => ?_) (fun _ => ?_)
    | with_reducible refine State.dmaStop_frame ?_ ?_   ?_
    | with_reducible refine hf _ ?_

theorem execLodeStart_frame {W : List Part} {R : List Regs} {s : State} {who : Who} {c : ℕ} (hW : ∀ p ∈ ([.bus, .fenIrq, .dma]
    : List Part), p ∈ W) (hR : RegsIn (([.fld .LODE_STATUS_ACTIVE, .fld .LODE_IRQ_IRQ, .arr (.LODE_CH_STATUS_STATE 0) 0x40 32,
    .arr (.LODE_CH_STATUS_CMD_ERR 0) 0x40 32, .arr (.LODE_CH_CUR_LO_ADDR 0) 0x40 32, .arr (.LODE_CH_CUR_HI_ADDR 0) 0x40 32] :
    List Regs)) R) :
    OutFrame W R s (execLodeStart who c s) := by
  unfold execLodeStart
  repeat' first
    | exact parts_sub hW rfl
    | with_reducible refine next_frame ?_
    | with_reducible assumption
    | exact regs_sub hR (by decide +kernel)
    | with_reducible exact Frame.refl _ _ _
    | with_reducible refine ite_frame (fun _ => ?_) (fun _ => ?_)
    | with_reducible refine State.updDma_frame ?_    ?_
    | with_reducible refine State.dmaCmd_frame ?_ ?_  (fun t ht => ?_) ?_
    | with_reducible refine State.setCur_frame  ?_   ?_
    | with_reducible refine State.dmaGoOn_frame ?_ ?_   ?_
    | with_reducible refine State.dmaFlag_frame ?_ ?_ ?_  ?_
    | exact cov_arr (f := .LODE_CH_STATUS_CMD_ERR 0) (k := 0x40) (m := 32) hR (by decide +kernel) (by decide) rfl

theorem execLodeStop_frame {W : List Part} {R : List Regs} {s : State} {who : Who} {c : ℕ} {pause : Bool} (hW : ∀ p ∈ ([.dram,
    .sram, .bus, .mireIrq, .fenIrq, .seqs, .chans, .stg, .tide, .lev, .peat, .weir, .withy, .tus, .slu, .sth, .dma, .dyke] :
    List Part), p ∈ W) (hR : RegsIn (([.all] : List Regs)) R) :
    OutFrame W R s (execLodeStop who c pause s) := by
  unfold execLodeStop
  repeat' first
    | (extract_lets +onlyGivenNames x; refine have_frame (x := x) ?_ (fun hx => ?_); (on_goal 2 => (clear_value x; revert x; intro _ _)); (on_goal 1 => (unfold x; clear x)))
    | exact parts_sub hW rfl
    | with_reducible refine next_frame ?_
    | with_reducible assumption
    | with_reducible exact Frame.refl _ _ _
    | with_reducible refine State.dmaCmd_frame ?_ ?_  (fun t ht => ?_) ?_
    | with_reducible refine State.dmaStop_frame ?_ ?_   ?_
    | with_reducible refine State.setIf_frame ?_ ?_
    | with_reducible refine State.dmaState_frame ?_ ?_   ?_
    | exact regs_all hR
    | exact cov_all hR (by decide +kernel)
    | split

theorem execLodePause_frame {W : List Part} {R : List Regs} {s : State} {who : Who} {c : ℕ} {set : Bool} (hW : ∀ p ∈ ([.bus,
    .fenIrq] : List Part), p ∈ W) (hR : RegsIn (([.fld .LODE_STATUS_ACTIVE, .fld .LODE_IRQ_IRQ, .arr (.LODE_CH_CTRL_PAUSE 0)
    0x40 32, .arr (.LODE_CH_STATUS_STATE 0) 0x40 32, .arr (.LODE_CH_STATUS_CMD_ERR 0) 0x40 32] : List Regs)) R) :
    OutFrame W R s (execLodePause who c set s) := by
  unfold execLodePause
  repeat' first
    | (extract_lets +onlyGivenNames x; refine have_frame (x := x) ?_ (fun hx => ?_); (on_goal 2 => (clear_value x; revert x; intro _ _)); (on_goal 1 => (unfold x; clear x)))
    | (extract_lets +onlyGivenNames y; clear_value y; revert y; intro _)
    | exact parts_sub hW rfl
    | with_reducible refine next_frame ?_
    | with_reducible assumption
    | exact regs_sub hR (by decide +kernel)
    | with_reducible exact Frame.refl _ _ _
    | with_reducible refine ite_frame (fun _ => ?_) (fun _ => ?_)
    | with_reducible refine State.dmaCmd_frame ?_ ?_  (fun t ht => ?_) ?_
    | with_reducible refine State.setIf_frame ?_ ?_
    | with_reducible refine State.dmaState_frame ?_ ?_   ?_
    | exact cov_arr (f := .LODE_CH_CTRL_PAUSE 0) (k := 0x40) (m := 32) hR (by decide +kernel) (by decide) rfl

theorem execLodePaused_frame {W : List Part} {R : List Regs} {s : State} {c : ℕ} {k : ℕ} {data : List Byte} (hW : ∀ p ∈
    ([.dram, .sram, .bus, .mireIrq, .fenIrq, .seqs, .chans, .stg, .tide, .lev, .peat, .weir, .withy, .tus, .slu, .sth, .dma,
    .dyke] : List Part), p ∈ W) (hR : RegsIn (([.all] : List Regs)) R) :
    OutFrame W R s (execLodePaused c k data s) := by
  unfold execLodePaused
  repeat' first
    | (extract_lets +onlyGivenNames f; have := fun a => f a; clear this; unfold f; clear f)
    | (extract_lets +onlyGivenNames y; clear_value y; revert y; intro _)
    | exact parts_sub hW rfl
    | with_reducible refine next_frame ?_
    | with_reducible refine ite_out (fun _ => ?_) (fun _ => ?_)
    | with_reducible assumption
    | with_reducible exact Frame.refl _ _ _
    | with_reducible refine ite_frame (fun _ => ?_) (fun _ => ?_)
    | with_reducible refine State.when_frame ?_ (fun t ht => ?_)
    | with_reducible refine State.dmaStop_frame ?_ ?_   ?_
    | with_reducible refine State.dmaBusErr_frame ?_ ?_   ?_
    | with_reducible refine State.dmaComplete_frame ?_ ?_   ?_
    | with_reducible refine State.dmaRun_frame ?_ ?_   ?_
    | with_reducible refine State.dmaGuard_frame ?_ ?_  (fun t ht => ?_) ?_
    | with_reducible refine State.dmaState_frame ?_ ?_   ?_
    | exact regs_all hR
    | split

theorem State.dmaTake_frame {W : List Part} {R : List Regs} {s0 s : State} {c : ℕ} {d : DmaChannel} (hW : ∀ p ∈ ([.dram,
    .sram, .bus, .mireIrq, .fenIrq, .seqs, .chans, .stg, .tide, .lev, .peat, .weir, .withy, .tus, .slu, .sth, .dma, .dyke] :
    List Part), p ∈ W) (hR : RegsIn (([.all] : List Regs)) R) (h : Frame W R s0 s) :
    Frame W R s0 (State.dmaTake s c d) := by
  unfold State.dmaTake
  repeat' first
    | with_reducible exact h
    | with_reducible assumption
    | (extract_lets +onlyGivenNames x; refine have_frame (x := x) ?_ (fun hx => ?_); (on_goal 2 => (clear_value x; revert x; intro _ _)); (on_goal 1 => (unfold x; clear x)))
    | exact parts_sub hW rfl
    | with_reducible refine ite_frame (fun _ => ?_) (fun _ => ?_)
    | with_reducible refine State.updDma_frame ?_    ?_
    | with_reducible refine State.dmaComplete_frame ?_ ?_   ?_
    | with_reducible refine State.set_frame ?_ ?_
    | with_reducible refine State.dmaRegs_frame  ?_   ?_
    | with_reducible refine State.dmaState_frame ?_ ?_   ?_
    | exact regs_all hR
    | exact cov_all hR (by decide +kernel)

theorem State.dmaNext_frame {W : List Part} {R : List Regs} {s0 s : State} {c : ℕ} (hW : ∀ p ∈ ([.dram, .sram, .bus, .mireIrq,
    .fenIrq, .seqs, .chans, .stg, .tide, .lev, .peat, .weir, .withy, .tus, .slu, .sth, .dma, .dyke] : List Part), p ∈ W) (hR :
    RegsIn (([.all] : List Regs)) R) (h : Frame W R s0 s) :
    Frame W R s0 (State.dmaNext s c) := by
  unfold State.dmaNext
  repeat' first
    | with_reducible exact h
    | with_reducible assumption
    | (extract_lets +onlyGivenNames y; clear_value y; revert y; intro _)
    | exact parts_sub hW rfl
    | with_reducible refine ite_frame (fun _ => ?_) (fun _ => ?_)
    | with_reducible refine State.dmaTake_frame ?_ ?_   ?_
    | with_reducible refine snd_frame (by assumption) (State.descRead_frame ?_ ?_   ?_)
    | with_reducible refine State.dmaStop_frame ?_ ?_   ?_
    | with_reducible refine State.setEnd_frame  ?_   ?_
    | with_reducible refine State.dmaFlag_frame ?_ ?_ ?_  ?_
    | with_reducible refine State.raise_frame ?_ ?_   ?_
    | with_reducible refine State.dmaState_frame ?_ ?_   ?_
    | exact regs_all hR
    | exact cov_all hR (by decide +kernel)
    | split

theorem execLodeDescriptorLoad_frame {W : List Part} {R : List Regs} {s : State} {c : ℕ} {host : Option HostDescriptor} (hW :
    ∀ p ∈ ([.dram, .sram, .bus, .mireIrq, .fenIrq, .seqs, .chans, .stg, .tide, .lev, .peat, .weir, .withy, .tus, .slu, .sth,
    .dma, .dyke] : List Part), p ∈ W) (hR : RegsIn (([.all] : List Regs)) R) :
    OutFrame W R s (execLodeDescriptorLoad c host s) := by
  unfold execLodeDescriptorLoad
  repeat' first
    | (extract_lets +onlyGivenNames x; refine have_out (x := x) ?_ (fun hx => ?_); (on_goal 2 => (clear_value x; revert x; intro _ _)); (on_goal 1 => (unfold x; clear x)))
    | (extract_lets +onlyGivenNames y; clear_value y; revert y; intro _)
    | exact parts_sub hW rfl
    | with_reducible refine next_frame ?_
    | with_reducible refine ite_out (fun _ => ?_) (fun _ => ?_)
    | with_reducible assumption
    | with_reducible exact Frame.refl _ _ _
    | with_reducible refine State.when_frame ?_ (fun t ht => ?_)
    | with_reducible refine State.writeSram_frame ?_    ?_
    | with_reducible refine State.dmaNext_frame ?_ ?_   ?_
    | with_reducible refine State.updDma_frame ?_    ?_
    | with_reducible refine State.dmaGoOn_frame ?_ ?_   ?_
    | with_reducible refine State.setCur_frame  ?_   ?_
    | exact regs_all hR
    | split

theorem execLodeDescriptorDone_frame {W : List Part} {R : List Regs} {s : State} {c : ℕ} {data : List Byte} (hW : ∀ p ∈
    ([.dram, .sram, .bus, .mireIrq, .fenIrq, .seqs, .chans, .stg, .tide, .lev, .peat, .weir, .withy, .tus, .slu, .sth, .dma,
    .dyke] : List Part), p ∈ W) (hR : RegsIn (([.all] : List Regs)) R) :
    OutFrame W R s (execLodeDescriptorDone c data s) := by
  unfold execLodeDescriptorDone
  repeat' first
    | (extract_lets +onlyGivenNames y; clear_value y; revert y; intro _)
    | exact parts_sub hW rfl
    | with_reducible refine next_frame ?_
    | with_reducible refine ite_out (fun _ => ?_) (fun _ => ?_)
    | with_reducible assumption
    | with_reducible exact Frame.refl _ _ _
    | with_reducible refine ite_frame (fun _ => ?_) (fun _ => ?_)
    | with_reducible refine State.dmaBusErr_frame ?_ ?_   ?_
    | with_reducible refine State.dmaRun_frame ?_ ?_   ?_
    | with_reducible refine State.dmaGuard_frame ?_ ?_  (fun t ht => ?_) ?_
    | with_reducible refine State.dmaComplete_frame ?_ ?_   ?_

theorem execLodeBusErr_frame {W : List Part} {R : List Regs} {s : State} {c : ℕ} {k : ℕ} {write : Bool} {data : List Byte} (hW
    : ∀ p ∈ ([.dram, .sram, .bus, .mireIrq, .fenIrq, .seqs, .chans, .stg, .tide, .lev, .peat, .weir, .withy, .tus, .slu, .sth,
    .dma, .dyke] : List Part), p ∈ W) (hR : RegsIn (([.all] : List Regs)) R) :
    OutFrame W R s (execLodeBusErr c k write data s) := by
  unfold execLodeBusErr
  repeat' first
    | (extract_lets +onlyGivenNames y; clear_value y; revert y; intro _)
    | exact parts_sub hW rfl
    | with_reducible refine next_frame ?_
    | with_reducible refine ite_out (fun _ => ?_) (fun _ => ?_)
    | with_reducible assumption
    | with_reducible exact Frame.refl _ _ _
    | with_reducible refine State.dmaBusErr_frame ?_ ?_   ?_
    | with_reducible refine State.dmaRun_frame ?_ ?_   ?_
    | with_reducible refine State.dmaGuard_frame ?_ ?_  (fun t ht => ?_) ?_

theorem State.dmaCommit_frame {W : List Part} {R : List Regs} {s0 s : State} {c : ℕ} {late : Bool} (hW : ∀ p ∈ ([.fenIrq,
    .dma] : List Part), p ∈ W) (hR : RegsIn (([.fld .LODE_STATUS_ACTIVE, .fld .LODE_IRQ_IRQ, .arr (.LODE_CH_STATUS_STATE 0)
    0x40 32, .arr (.LODE_CH_STATUS_LATE_WITHDRAW 0) 0x40 32, .arr (.LODE_CH_BURST_LEFT_BYTES 0) 0x40 32] : List Regs)) R) (h :
    Frame W R s0 s) :
    Frame W R s0 (State.dmaCommit s c late) := by
  unfold State.dmaCommit
  repeat' first
    | with_reducible exact h
    | with_reducible assumption
    | (extract_lets +onlyGivenNames x; refine have_frame (x := x) ?_ (fun hx => ?_); (on_goal 2 => (clear_value x; revert x; intro _ _)); (on_goal 1 => (unfold x; clear x)))
    | (extract_lets +onlyGivenNames y; clear_value y; revert y; intro _)
    | exact parts_sub hW rfl
    | exact regs_sub hR (by decide +kernel)
    | with_reducible refine State.when_frame ?_ (fun t ht => ?_)
    | with_reducible refine State.updDma_frame ?_    ?_
    | with_reducible refine State.dmaFlag_frame ?_ ?_ ?_  ?_
    | with_reducible refine State.set_frame ?_ ?_
    | with_reducible refine State.dmaState_frame ?_ ?_   ?_
    | exact cov_arr (f := .LODE_CH_STATUS_LATE_WITHDRAW 0) (k := 0x40) (m := 32) hR (by decide +kernel) (by decide) rfl
    | exact cov_arr (f := .LODE_CH_BURST_LEFT_BYTES 0) (k := 0x40) (m := 32) hR (by decide +kernel) (by decide) rfl

theorem execRequestCommit_frame {W : List Part} {R : List Regs} {s : State} {c : ℕ} {lines : ℕ} {k : ℕ} {late : Bool} {data :
    List Byte} (hW : ∀ p ∈ ([.dram, .sram, .bus, .mireIrq, .fenIrq, .seqs, .chans, .stg, .tide, .lev, .peat, .weir, .withy,
    .tus, .slu, .sth, .dma, .dyke] : List Part), p ∈ W) (hR : RegsIn (([.all] : List Regs)) R) :
    OutFrame W R s (execRequestCommit c lines k late data s) := by
  unfold execRequestCommit
  repeat' first
    | exact parts_sub hW rfl
    | with_reducible refine next_frame ?_
    | with_reducible refine ite_out (fun _ => ?_) (fun _ => ?_)
    | with_reducible assumption
    | with_reducible exact Frame.refl _ _ _
    | with_reducible refine ite_frame (fun _ => ?_) (fun _ => ?_)
    | with_reducible refine State.when_frame ?_ (fun t ht => ?_)
    | with_reducible refine State.forN_frame ?_ (fun i t ht => ?_)
    | with_reducible refine State.dmaBusErr_frame ?_ ?_   ?_
    | with_reducible refine State.dmaCommit_frame ?_ ?_   ?_
    | with_reducible refine State.dmaRun_frame ?_ ?_   ?_
    | with_reducible refine State.dmaGuard_frame ?_ ?_  (fun t ht => ?_) ?_
    | with_reducible refine State.set_frame ?_ ?_
    | with_reducible refine State.dmaState_frame ?_ ?_   ?_
    | exact regs_all hR
    | exact cov_all hR (by decide +kernel)
    | with_reducible refine upd_dma ?_ ?_

theorem State.dmaReset_frame {W : List Part} {R : List Regs} {s0 s : State} {c : ℕ} (hW : ∀ p ∈ ([.dram, .sram, .bus, .drawn,
    .mireIrq, .fenIrq, .seqs, .chans, .stg, .tide, .lev, .peat, .weir, .withy, .tus, .slu, .sth, .dma, .dyke] : List Part), p
    ∈ W) (hR : RegsIn (([.all] : List Regs)) R) (h : Frame W R s0 s) :
    Frame W R s0 (State.dmaReset s c) := by
  unfold State.dmaReset
  repeat' first
    | with_reducible exact h
    | with_reducible assumption
    | (extract_lets +onlyGivenNames y; clear_value y; revert y; intro _)
    | exact parts_sub hW rfl
    | with_reducible refine ite_frame (fun _ => ?_) (fun _ => ?_)
    | with_reducible refine State.when_frame ?_ (fun t ht => ?_)
    | with_reducible refine State.writeSram_frame ?_    ?_
    | with_reducible refine State.dmaStop_frame ?_ ?_   ?_
    | with_reducible refine State.dmaRun_frame ?_ ?_   ?_
    | with_reducible refine State.writeBytes_frame ?_    ?_
    | with_reducible refine State.draw_frame ?_    ?_

theorem State.stopDma_frame {W : List Part} {R : List Regs} {s0 s : State} (hW : ∀ p ∈ ([.dram, .sram, .bus, .drawn, .mireIrq,
    .fenIrq, .seqs, .chans, .stg, .tide, .lev, .peat, .weir, .withy, .tus, .slu, .sth, .dma, .dyke] : List Part), p ∈ W) (hR :
    RegsIn (([.all] : List Regs)) R) (h : Frame W R s0 s) :
    Frame W R s0 (State.stopDma s) := by
  unfold State.stopDma
  repeat' first
    | with_reducible exact h
    | with_reducible assumption
    | with_reducible refine State.forN_frame ?_ (fun i t ht => ?_)
    | with_reducible refine State.dmaReset_frame ?_ ?_   ?_

/-! ### Machine/Carr.lean -/

theorem State.updCarr_frame {W : List Part} {R : List Regs} {s0 s : State} {f : Carr → Carr} (hW : ∀ p ∈ ([.carr] : List
    Part), p ∈ W) (h : Frame W R s0 s) :
    Frame W R s0 (State.updCarr s f) := by
  unfold State.updCarr
  repeat' first
    | with_reducible exact h
    | with_reducible assumption
    | with_reducible refine upd_carr ?_ ?_

theorem State.carrCount_frame {W : List Part} {R : List Regs} {s0 s : State} {i : ℕ} {k : ℕ} (hW : ∀ p ∈ ([.carr] : List
    Part), p ∈ W) (h : Frame W R s0 s) :
    Frame W R s0 (State.carrCount s i k) := by
  unfold State.carrCount
  repeat' first
    | with_reducible exact h
    | with_reducible assumption
    | with_reducible refine State.updCarr_frame ?_    ?_

theorem State.carrFetch_frame {W : List Part} {R : List Regs} {s0 s : State} {line : ℕ} (hW : ∀ p ∈ ([.mireIrq, .fenIrq,
    .seqs, .chans, .stg, .lev, .peat] : List Part), p ∈ W) (hR : RegsIn (alarmRegs ++ haltRegs) R) (h : Frame W R s0 s) :
    Frame W R s0 (State.carrFetch s line).2 := by
  unfold State.carrFetch
  repeat' first
    | with_reducible exact h
    | with_reducible assumption
    | with_reducible refine snd_frame (by assumption) (State.dramLoad_frame ?_ ?_   ?_)
    | split

theorem State.carrData_frame {W : List Part} {R : List Regs} {s0 s : State} {line : ℕ} (hW : ∀ p ∈ ([.mireIrq, .fenIrq, .seqs,
    .chans, .stg, .lev, .peat] : List Part), p ∈ W) (hR : RegsIn (alarmRegs ++ haltRegs) R) (h : Frame W R s0 s) :
    Frame W R s0 (State.carrData s line).2 := by
  unfold State.carrData
  repeat' first
    | with_reducible exact h
    | with_reducible assumption
    | with_reducible refine State.carrFetch_frame ?_ ?_   ?_
    | split

theorem State.pwbStatus_frame {W : List Part} {R : List Regs} {s0 s : State} (hR : RegsIn (([.fld .CARR_STATUS_PWB_CNT] : List
    Regs)) R) (h : Frame W R s0 s) :
    Frame W R s0 (State.pwbStatus s) := by
  unfold State.pwbStatus
  repeat' first
    | with_reducible exact h
    | with_reducible refine State.set_frame ?_ ?_
    | exact cov_fld hR (by decide +kernel)

theorem State.breakResv_frame {W : List Part} {R : List Regs} {s0 s : State} {line : ℕ} (hW : ∀ p ∈ ([.carr] : List Part), p ∈
    W) (h : Frame W R s0 s) :
    Frame W R s0 (State.breakResv s line) := by
  unfold State.breakResv
  repeat' first
    | with_reducible exact h
    | with_reducible assumption
    | with_reducible refine State.updCarr_frame ?_    ?_

theorem State.carrPost_frame {W : List Part} {R : List Regs} {s0 s : State} {core : ℕ} {addr : ℕ} {bs : List Byte} (hW : ∀ p ∈
    ([.carr] : List Part), p ∈ W) (hR : RegsIn (([.fld .CARR_STATUS_PWB_CNT] : List Regs)) R) (h : Frame W R s0 s) :
    OptFrame W R s0 (State.carrPost s core addr bs) := by
  unfold State.carrPost
  repeat' first
    | (extract_lets +onlyGivenNames x; refine have_opt (x := x) ?_ (fun hx => ?_); (on_goal 2 => (clear_value x; revert x; intro _ _)); (on_goal 1 => (unfold x; clear x)))
    | (extract_lets +onlyGivenNames f; have := fun a => f a; clear this; unfold f; clear f)
    | (extract_lets +onlyGivenNames y; clear_value y; revert y; intro _)
    | exact parts_sub hW rfl
    | with_reducible refine some_frame ?_
    | with_reducible exact none_frame
    | with_reducible exact h
    | with_reducible assumption
    | with_reducible refine State.pwbStatus_frame  ?_   ?_
    | with_reducible refine State.breakResv_frame ?_    ?_
    | with_reducible refine State.updCarr_frame ?_    ?_
    | split

theorem State.carrAnswer_frame {W : List Part} {R : List Regs} {s0 s : State} {core : ℕ} {x : BusAnswer} (hW : ∀ p ∈ ([.bus,
    .carr] : List Part), p ∈ W) (h : Frame W R s0 s) :
    Frame W R s0 (State.carrAnswer s core x) := by
  unfold State.carrAnswer
  repeat' first
    | with_reducible exact h
    | exact parts_sub hW rfl
    | with_reducible refine State.updCarr_frame ?_    ?_
    | with_reducible refine upd_bus ?_ ?_

theorem State.carrStall_frame {W : List Part} {R : List Regs} {s0 s : State} {a : CarrAccess} (hW : ∀ p ∈ ([.carr] : List
    Part), p ∈ W) (h : Frame W R s0 s) :
    Frame W R s0 (State.carrStall s a) := by
  unfold State.carrStall
  repeat' first
    | with_reducible exact h
    | with_reducible assumption
    | with_reducible refine State.updCarr_frame ?_    ?_

theorem State.carrPerform_frame {W : List Part} {R : List Regs} {s0 s : State} {a : CarrAccess} (hW : ∀ p ∈ ([.bus, .mireIrq,
    .fenIrq, .seqs, .chans, .stg, .lev, .peat, .carr] : List Part), p ∈ W) (hR : RegsIn (alarmRegs ++ haltRegs ++ ([.fld
    .CARR_STATUS_PWB_CNT] : List Regs)) R) (h : Frame W R s0 s) :
    Frame W R s0 (State.carrPerform s a) := by
  unfold State.carrPerform
  repeat' first
    | with_reducible exact h
    | (extract_lets +onlyGivenNames y; clear_value y; revert y; intro _)
    | exact parts_sub hW rfl
    | exact regs_sub hR (by decide +kernel)
    | with_reducible refine ite_frame (fun _ => ?_) (fun _ => ?_)
    | with_reducible refine State.carrStall_frame ?_    ?_
    | with_reducible refine snd_frame (by assumption) (State.carrData_frame ?_ ?_   ?_)
    | with_reducible refine State.updCarr_frame ?_    ?_
    | with_reducible refine opt_frame (by assumption) (State.carrPost_frame ?_ ?_   ?_)
    | with_reducible refine State.carrAnswer_frame ?_    ?_
    | split

theorem State.carrTry_frame {W : List Part} {R : List Regs} {s0 s : State} {a : CarrAccess} (hW : ∀ p ∈ ([.bus, .mireIrq,
    .fenIrq, .seqs, .chans, .stg, .lev, .peat, .carr] : List Part), p ∈ W) (hR : RegsIn (alarmRegs ++ haltRegs ++ ([.fld
    .CARR_STATUS_PWB_CNT] : List Regs)) R) (h : Frame W R s0 s) :
    Frame W R s0 (State.carrTry s a) := by
  unfold State.carrTry
  repeat' first
    | with_reducible exact h
    | with_reducible assumption
    | exact parts_sub hW rfl
    | with_reducible refine ite_frame (fun _ => ?_) (fun _ => ?_)
    | with_reducible refine State.carrStall_frame ?_    ?_
    | with_reducible refine State.carrPerform_frame ?_ ?_   ?_

theorem State.carrMiss_frame {W : List Part} {R : List Regs} {s0 s : State} {a : CarrAccess} (hW : ∀ p ∈ ([.carr] : List
    Part), p ∈ W) (h : Frame W R s0 s) :
    Frame W R s0 (State.carrMiss s a) := by
  unfold State.carrMiss
  repeat' first
    | with_reducible exact h
    | with_reducible assumption
    | (extract_lets +onlyGivenNames f; have := fun a => f a; clear this; unfold f; clear f)
    | (extract_lets +onlyGivenNames y; clear_value y; revert y; intro _)
    | with_reducible refine ite_frame (fun _ => ?_) (fun _ => ?_)
    | with_reducible refine State.updCarr_frame ?_    ?_

theorem State.carrRoute_frame {W : List Part} {R : List Regs} {s0 s : State} {a : CarrAccess} (hW : ∀ p ∈ ([.bus, .mireIrq,
    .fenIrq, .seqs, .chans, .stg, .lev, .peat, .carr] : List Part), p ∈ W) (hR : RegsIn (alarmRegs ++ haltRegs ++ ([.fld
    .CARR_STATUS_PWB_CNT] : List Regs)) R) (h : Frame W R s0 s) :
    Frame W R s0 (State.carrRoute s a) := by
  unfold State.carrRoute
  repeat' first
    | with_reducible exact h
    | with_reducible assumption
    | exact parts_sub hW rfl
    | with_reducible refine ite_frame (fun _ => ?_) (fun _ => ?_)
    | with_reducible refine State.carrStall_frame ?_    ?_
    | with_reducible refine State.carrPerform_frame ?_ ?_   ?_
    | with_reducible refine State.carrMiss_frame ?_    ?_

theorem State.carrRetry_frame {W : List Part} {R : List Regs} {s0 s : State} (hW : ∀ p ∈ ([.bus, .mireIrq, .fenIrq, .seqs,
    .chans, .stg, .lev, .peat, .carr] : List Part), p ∈ W) (hR : RegsIn (alarmRegs ++ haltRegs ++ ([.fld .CARR_STATUS_PWB_CNT]
    : List Regs)) R) (h : Frame W R s0 s) :
    Frame W R s0 (State.carrRetry s) := by
  unfold State.carrRetry
  repeat' first
    | with_reducible exact h
    | with_reducible assumption
    | exact parts_sub hW rfl
    | with_reducible refine foldl_frame ?_ (fun t x ht => ?_)
    | with_reducible refine State.carrRoute_frame ?_ ?_   ?_
    | with_reducible refine State.updCarr_frame ?_    ?_

theorem State.carrTally_frame {W : List Part} {R : List Regs} {s0 s : State} {a : CarrAccess} (hW : ∀ p ∈ ([.carr] : List
    Part), p ∈ W) (h : Frame W R s0 s) :
    Frame W R s0 (State.carrTally s a) := by
  unfold State.carrTally
  repeat' first
    | with_reducible exact h
    | with_reducible assumption
    | (extract_lets +onlyGivenNames y; clear_value y; revert y; intro _)
    | with_reducible refine State.carrCount_frame ?_    ?_
    | split

theorem State.carrFresh_frame {W : List Part} {R : List Regs} {s0 s : State} (hW : ∀ p ∈ ([.carr] : List Part), p ∈ W) (h :
    Frame W R s0 s) :
    Frame W R s0 (State.carrFresh s) := by
  unfold State.carrFresh
  repeat' first
    | with_reducible exact h
    | with_reducible assumption
    | with_reducible refine State.updCarr_frame ?_    ?_

theorem State.carrAccess_frame {W : List Part} {R : List Regs} {s0 s : State} {a : CarrAccess} (hW : ∀ p ∈ ([.bus, .mireIrq,
    .fenIrq, .seqs, .chans, .stg, .lev, .peat, .carr] : List Part), p ∈ W) (hR : RegsIn (alarmRegs ++ haltRegs ++ ([.fld
    .CARR_STATUS_PWB_CNT] : List Regs)) R) (h : Frame W R s0 s) :
    Frame W R s0 (State.carrAccess s a) := by
  unfold State.carrAccess
  repeat' first
    | with_reducible exact h
    | with_reducible assumption
    | (extract_lets +onlyGivenNames x; refine have_frame (x := x) ?_ (fun hx => ?_); (on_goal 2 => (clear_value x; revert x; intro _ _)); (on_goal 1 => (unfold x; clear x)))
    | exact parts_sub hW rfl
    | with_reducible refine ite_frame (fun _ => ?_) (fun _ => ?_)
    | with_reducible refine State.when_frame ?_ (fun t ht => ?_)
    | with_reducible refine State.carrTry_frame ?_ ?_   ?_
    | with_reducible refine State.carrRoute_frame ?_ ?_   ?_
    | with_reducible refine State.carrTally_frame ?_    ?_
    | with_reducible refine State.carrFresh_frame ?_    ?_
    | with_reducible refine State.carrAnswer_frame ?_    ?_

theorem execCarrLoad_frame {W : List Part} {R : List Regs} {s : State} {core : ℕ} {addr : ℕ} {size : ℕ} (hW : ∀ p ∈ ([.bus,
    .mireIrq, .fenIrq, .seqs, .chans, .stg, .lev, .peat, .carr] : List Part), p ∈ W) (hR : RegsIn (alarmRegs ++ haltRegs ++
    ([.fld .CARR_STATUS_PWB_CNT] : List Regs)) R) :
    OutFrame W R s (execCarrLoad core addr size s) := by
  unfold execCarrLoad
  repeat' first
    | exact parts_sub hW rfl
    | with_reducible refine next_frame ?_
    | with_reducible assumption
    | with_reducible exact Frame.refl _ _ _
    | with_reducible refine State.carrAccess_frame ?_ ?_   ?_

theorem execCarrStore_frame {W : List Part} {R : List Regs} {s : State} {core : ℕ} {addr : ℕ} {data : List Byte} (hW : ∀ p ∈
    ([.bus, .mireIrq, .fenIrq, .seqs, .chans, .stg, .lev, .peat, .carr] : List Part), p ∈ W) (hR : RegsIn (alarmRegs ++
    haltRegs ++ ([.fld .CARR_STATUS_PWB_CNT] : List Regs)) R) :
    OutFrame W R s (execCarrStore core addr data s) := by
  unfold execCarrStore
  repeat' first
    | exact parts_sub hW rfl
    | with_reducible refine next_frame ?_
    | with_reducible assumption
    | with_reducible exact Frame.refl _ _ _
    | with_reducible refine State.carrAccess_frame ?_ ?_   ?_

theorem execCarrAmo_frame {W : List Part} {R : List Regs} {s : State} {core : ℕ} {addr : ℕ} {size : ℕ} {op : AmoOp} {operand :
    ℕ} (hW : ∀ p ∈ ([.bus, .mireIrq, .fenIrq, .seqs, .chans, .stg, .lev, .peat, .carr] : List Part), p ∈ W) (hR : RegsIn
    (alarmRegs ++ haltRegs ++ ([.fld .CARR_STATUS_PWB_CNT] : List Regs)) R) :
    OutFrame W R s (execCarrAmo core addr size op operand s) := by
  unfold execCarrAmo
  repeat' first
    | exact parts_sub hW rfl
    | with_reducible refine next_frame ?_
    | with_reducible assumption
    | with_reducible exact Frame.refl _ _ _
    | with_reducible refine State.carrAccess_frame ?_ ?_   ?_

theorem State.carrVictim_frame {W : List Part} {R : List Regs} {s0 s : State} {set : ℕ} (hW : ∀ p ∈ ([.drawn] : List Part), p
    ∈ W) (h : Frame W R s0 s) :
    Frame W R s0 (State.carrVictim s set).2 := by
  unfold State.carrVictim
  repeat' first
    | with_reducible exact h
    | with_reducible assumption
    | (extract_lets +onlyGivenNames y; clear_value y; revert y; intro _)
    | with_reducible refine State.draw_frame ?_    ?_
    | split

theorem State.carrPut_frame {W : List Part} {R : List Regs} {s0 s : State} {line : ℕ} {way : ℕ} {data : List Byte} (hW : ∀ p ∈
    ([.carr] : List Part), p ∈ W) (h : Frame W R s0 s) :
    Frame W R s0 (State.carrPut s line way data) := by
  unfold State.carrPut
  repeat' first
    | with_reducible exact h
    | with_reducible assumption
    | with_reducible refine State.updCarr_frame ?_    ?_

theorem State.carrAlloc_frame {W : List Part} {R : List Regs} {s0 s : State} {line : ℕ} {data : List Byte} (hW : ∀ p ∈
    ([.drawn, .carr] : List Part), p ∈ W) (h : Frame W R s0 s) :
    Frame W R s0 (State.carrAlloc s line data) := by
  unfold State.carrAlloc
  repeat' first
    | with_reducible exact h
    | with_reducible assumption
    | exact parts_sub hW rfl
    | with_reducible refine State.when_frame ?_ (fun t ht => ?_)
    | with_reducible refine State.carrCount_frame ?_    ?_
    | with_reducible refine State.carrVictim_frame ?_    ?_
    | with_reducible refine State.carrPut_frame ?_    ?_

theorem State.carrDrop_frame {W : List Part} {R : List Regs} {s0 s : State} {line : ℕ} {keep : Option ℕ} (hW : ∀ p ∈ ([.carr]
    : List Part), p ∈ W) (h : Frame W R s0 s) :
    Frame W R s0 (State.carrDrop s line keep) := by
  unfold State.carrDrop
  repeat' first
    | with_reducible exact h
    | with_reducible assumption
    | (extract_lets +onlyGivenNames y; clear_value y; revert y; intro _)
    | with_reducible refine State.when_frame ?_ (fun t ht => ?_)
    | with_reducible refine State.forN_frame ?_ (fun i t ht => ?_)
    | with_reducible refine State.updCarr_frame ?_    ?_
    | with_reducible refine State.carrCount_frame ?_    ?_

theorem State.carrInv_frame {W : List Part} {R : List Regs} {s0 s : State} {line : ℕ} (hW : ∀ p ∈ ([.carr] : List Part), p ∈
    W) (h : Frame W R s0 s) :
    Frame W R s0 (State.carrInv s line) := by
  unfold State.carrInv
  repeat' first
    | with_reducible exact h
    | with_reducible assumption
    | (extract_lets +onlyGivenNames x; refine have_frame (x := x) ?_ (fun hx => ?_); (on_goal 2 => (clear_value x; revert x; intro _ _)); (on_goal 1 => (unfold x; clear x)))
    | with_reducible refine State.breakResv_frame ?_    ?_
    | with_reducible refine State.updCarr_frame ?_    ?_
    | with_reducible refine State.carrDrop_frame ?_    ?_

theorem State.carrPreload_frame {W : List Part} {R : List Regs} {s0 s : State} {line : ℕ} {way : ℕ} (hW : ∀ p ∈ ([.mireIrq,
    .fenIrq, .seqs, .chans, .stg, .lev, .peat, .carr] : List Part), p ∈ W) (hR : RegsIn (alarmRegs ++ haltRegs) R) (h : Frame
    W R s0 s) :
    Frame W R s0 (State.carrPreload s line way) := by
  unfold State.carrPreload
  repeat' first
    | with_reducible exact h
    | with_reducible assumption
    | (extract_lets +onlyGivenNames x; refine have_frame (x := x) ?_ (fun hx => ?_); (on_goal 2 => (clear_value x; revert x; intro _ _)); (on_goal 1 => (unfold x; clear x)))
    | (extract_lets +onlyGivenNames y; clear_value y; revert y; intro _)
    | exact parts_sub hW rfl
    | with_reducible refine ite_frame (fun _ => ?_) (fun _ => ?_)
    | with_reducible refine State.when_frame ?_ (fun t ht => ?_)
    | with_reducible refine State.carrDrop_frame ?_    ?_
    | with_reducible refine State.carrPut_frame ?_    ?_
    | with_reducible refine State.breakResv_frame ?_    ?_
    | with_reducible refine snd_frame (by assumption) (State.carrFetch_frame ?_ ?_   ?_)
    | split

theorem State.carrOpStep_frame {W : List Part} {R : List Regs} {s0 s : State} (hW : ∀ p ∈ ([.carr] : List Part), p ∈ W) (hR :
    RegsIn (([.fld .CARR_OP_STATUS_REMAIN] : List Regs)) R) (h : Frame W R s0 s) :
    Frame W R s0 (State.carrOpStep s) := by
  unfold State.carrOpStep
  repeat' first
    | with_reducible exact h
    | with_reducible assumption
    | with_reducible refine State.set_frame ?_ ?_
    | with_reducible refine State.updCarr_frame ?_    ?_
    | exact cov_fld hR (by decide +kernel)

theorem execLineFill_frame {W : List Part} {R : List Regs} {s : State} {line : ℕ} (hW : ∀ p ∈ ([.bus, .drawn, .mireIrq,
    .fenIrq, .seqs, .chans, .stg, .lev, .peat, .carr] : List Part), p ∈ W) (hR : RegsIn (alarmRegs ++ haltRegs ++ ([.fld
    .CARR_STATUS_PWB_CNT, .fld .CARR_OP_STATUS_REMAIN] : List Regs)) R) :
    OutFrame W R s (execLineFill line s) := by
  unfold execLineFill
  repeat' first
    | (extract_lets +onlyGivenNames x; refine have_out (x := x) ?_ (fun hx => ?_); (on_goal 2 => (clear_value x; revert x; intro _ _)); (on_goal 1 => (unfold x; clear x)))
    | exact parts_sub hW rfl
    | with_reducible refine next_frame ?_
    | with_reducible refine ite_out (fun _ => ?_) (fun _ => ?_)
    | with_reducible assumption
    | exact regs_sub hR (by decide +kernel)
    | with_reducible exact Frame.refl _ _ _
    | with_reducible refine ite_frame (fun _ => ?_) (fun _ => ?_)
    | with_reducible refine foldl_frame ?_ (fun t x ht => ?_)
    | with_reducible refine State.carrAlloc_frame ?_    ?_
    | with_reducible refine State.busErr_frame ?_    ?_
    | with_reducible refine State.carrFresh_frame ?_    ?_
    | with_reducible refine State.carrOpStep_frame ?_ ?_   ?_
    | with_reducible refine State.updCarr_frame ?_    ?_
    | with_reducible refine State.carrCount_frame ?_    ?_
    | with_reducible refine State.carrTry_frame ?_ ?_   ?_
    | with_reducible refine State.carrPreload_frame ?_ ?_   ?_
    | with_reducible refine State.carrAnswer_frame ?_    ?_
    | with_reducible refine snd_frame (by assumption) (State.carrFetch_frame ?_ ?_   ?_)
    | split

theorem State.postedWrite_frame {W : List Part} {R : List Regs} {s0 s : State} {p : Posted} (hW : ∀ p ∈ ([.dram, .mireIrq,
    .fenIrq, .seqs, .chans, .stg, .lev, .peat, .slu] : List Part), p ∈ W) (hR : RegsIn (alarmRegs ++ haltRegs) R) (h : Frame W
    R s0 s) :
    Frame W R s0 (State.postedWrite s p) := by
  unfold State.postedWrite
  repeat' first
    | with_reducible exact h
    | with_reducible assumption
    | (extract_lets +onlyGivenNames y; clear_value y; revert y; intro _)
    | exact parts_sub hW rfl
    | with_reducible refine ite_frame (fun _ => ?_) (fun _ => ?_)
    | with_reducible refine State.dramStore_frame ?_ ?_   ?_
    | with_reducible refine State.mergeBytes_frame ?_    ?_
    | with_reducible refine State.poisonRead_frame ?_ ?_   ?_

theorem State.carrOff_frame {W : List Part} {R : List Regs} {s0 s : State} (hW : ∀ p ∈ ([.carr] : List Part), p ∈ W) (hR :
    RegsIn (([.fld .CARR_STATUS_STATE] : List Regs)) R) (h : Frame W R s0 s) :
    Frame W R s0 (State.carrOff s) := by
  unfold State.carrOff
  repeat' first
    | with_reducible exact h
    | with_reducible assumption
    | with_reducible refine State.when_frame ?_ (fun t ht => ?_)
    | with_reducible refine State.updCarr_frame ?_    ?_
    | with_reducible refine State.set_frame ?_ ?_
    | exact cov_fld hR (by decide +kernel)

theorem execPwbDrain_frame {W : List Part} {R : List Regs} {s : State} {cycles : ℕ} (hW : ∀ p ∈ ([.dram, .bus, .mireIrq,
    .fenIrq, .seqs, .chans, .stg, .lev, .peat, .slu, .carr] : List Part), p ∈ W) (hR : RegsIn (alarmRegs ++ haltRegs ++ ([.fld
    .CARR_STATUS_STATE, .fld .CARR_STATUS_PWB_CNT] : List Regs)) R) :
    OutFrame W R s (execPwbDrain cycles s) := by
  unfold execPwbDrain
  repeat' first
    | (extract_lets +onlyGivenNames x; refine have_out (x := x) ?_ (fun hx => ?_); (on_goal 2 => (clear_value x; revert x; intro _ _)); (on_goal 1 => (unfold x; clear x)))
    | exact parts_sub hW rfl
    | with_reducible refine next_frame ?_
    | with_reducible refine ite_out (fun _ => ?_) (fun _ => ?_)
    | with_reducible assumption
    | exact regs_sub hR (by decide +kernel)
    | with_reducible exact Frame.refl _ _ _
    | with_reducible refine State.when_frame ?_ (fun t ht => ?_)
    | with_reducible refine State.carrRetry_frame ?_ ?_   ?_
    | with_reducible refine State.pwbStatus_frame  ?_   ?_
    | with_reducible refine State.carrOff_frame ?_ ?_   ?_
    | with_reducible refine State.postedWrite_frame ?_ ?_   ?_
    | with_reducible refine State.carrFresh_frame ?_    ?_
    | with_reducible refine State.updCarr_frame ?_    ?_
    | with_reducible refine State.carrCount_frame ?_    ?_
    | split

theorem execCarrEnable_frame {W : List Part} {R : List Regs} {s : State} (hW : ∀ p ∈ ([.bus] : List Part), p ∈ W) (hR : RegsIn
    (([.fld .CARR_CTRL_EN, .fld .CARR_STATUS_STATE, .fld .CARR_STATUS_CFG_ERR] : List Regs)) R) :
    OutFrame W R s (execCarrEnable s) := by
  unfold execCarrEnable
  repeat' first
    | exact parts_sub hW rfl
    | with_reducible refine next_frame ?_
    | with_reducible assumption
    | with_reducible exact Frame.refl _ _ _
    | with_reducible refine ite_frame (fun _ => ?_) (fun _ => ?_)
    | with_reducible refine State.access_frame ?_   (fun t ht => ?_) ?_
    | with_reducible refine State.set_frame ?_ ?_
    | exact cov_fld hR (by decide +kernel)
    | split

theorem execCarrDisable_frame {W : List Part} {R : List Regs} {s : State} (hW : ∀ p ∈ ([.bus, .carr] : List Part), p ∈ W) (hR
    : RegsIn (([.fld .CARR_CTRL_EN, .fld .CARR_STATUS_STATE] : List Regs)) R) :
    OutFrame W R s (execCarrDisable s) := by
  unfold execCarrDisable
  repeat' first
    | exact parts_sub hW rfl
    | with_reducible refine next_frame ?_
    | with_reducible assumption
    | exact regs_sub hR (by decide +kernel)
    | with_reducible exact Frame.refl _ _ _
    | with_reducible refine State.when_frame ?_ (fun t ht => ?_)
    | with_reducible refine State.carrOff_frame ?_ ?_   ?_
    | with_reducible refine State.access_frame ?_   (fun t ht => ?_) ?_
    | with_reducible refine State.set_frame ?_ ?_
    | exact cov_fld hR (by decide +kernel)

theorem State.statClear_frame {W : List Part} {R : List Regs} {s0 s : State} (hW : ∀ p ∈ ([.carr] : List Part), p ∈ W) (h :
    Frame W R s0 s) :
    Frame W R s0 (State.statClear s) := by
  unfold State.statClear
  repeat' first
    | with_reducible exact h
    | with_reducible assumption
    | with_reducible refine State.updCarr_frame ?_    ?_

theorem execStatSnap_frame {W : List Part} {R : List Regs} {s : State} {clear : Bool} (hW : ∀ p ∈ ([.bus, .carr] : List Part),
    p ∈ W) (hR : RegsIn (([.arr (.CARR_STAT_COUNT 0) 0x4 8] : List Regs)) R) :
    OutFrame W R s (execStatSnap clear s) := by
  unfold execStatSnap
  repeat' first
    | exact parts_sub hW rfl
    | with_reducible refine next_frame ?_
    | with_reducible assumption
    | with_reducible exact Frame.refl _ _ _
    | with_reducible refine State.when_frame ?_ (fun t ht => ?_)
    | with_reducible refine State.forN_frame ?_ (fun i t ht => ?_)
    | with_reducible refine State.set_frame ?_ ?_
    | with_reducible refine State.access_frame ?_   (fun t ht => ?_) ?_
    | with_reducible refine State.statClear_frame ?_    ?_
    | exact cov_arr (f := .CARR_STAT_COUNT 0) (k := 0x4) (m := 8) hR (by decide +kernel) (by decide) rfl

theorem execStatClear_frame {W : List Part} {R : List Regs} {s : State} (hW : ∀ p ∈ ([.bus, .carr] : List Part), p ∈ W) :
    OutFrame W R s (execStatClear s) := by
  unfold execStatClear
  repeat' first
    | exact parts_sub hW rfl
    | with_reducible refine next_frame ?_
    | with_reducible assumption
    | with_reducible exact Frame.refl _ _ _
    | with_reducible refine State.access_frame ?_   (fun t ht => ?_) ?_
    | with_reducible refine State.statClear_frame ?_    ?_

theorem State.carrOp_frame {W : List Part} {R : List Regs} {s0 s : State} {op : ℕ} {way : ℕ} (hW : ∀ p ∈ ([.carr] : List
    Part), p ∈ W) (hR : RegsIn (([.fld .CARR_OP_STATUS_BUSY, .fld .CARR_OP_STATUS_ERR, .fld .CARR_OP_STATUS_REMAIN] : List
    Regs)) R) (h : Frame W R s0 s) :
    Frame W R s0 (State.carrOp s op way) := by
  unfold State.carrOp
  repeat' first
    | with_reducible exact h
    | with_reducible assumption
    | (extract_lets +onlyGivenNames x; refine have_frame (x := x) ?_ (fun hx => ?_); (on_goal 2 => (clear_value x; revert x; intro _ _)); (on_goal 1 => (unfold x; clear x)))
    | (extract_lets +onlyGivenNames y; clear_value y; revert y; intro _)
    | with_reducible refine ite_frame (fun _ => ?_) (fun _ => ?_)
    | with_reducible refine State.updCarr_frame ?_    ?_
    | with_reducible refine State.set_frame ?_ ?_
    | exact cov_fld hR (by decide +kernel)

theorem execPreload_frame {W : List Part} {R : List Regs} {s : State} {way : ℕ} (hW : ∀ p ∈ ([.bus, .carr] : List Part), p ∈
    W) (hR : RegsIn (([.fld .CARR_OP_STATUS_BUSY, .fld .CARR_OP_STATUS_ERR, .fld .CARR_OP_STATUS_REMAIN] : List Regs)) R) :
    OutFrame W R s (execPreload way s) := by
  unfold execPreload
  repeat' first
    | exact parts_sub hW rfl
    | with_reducible refine next_frame ?_
    | with_reducible assumption
    | with_reducible exact Frame.refl _ _ _
    | with_reducible refine State.access_frame ?_   (fun t ht => ?_) ?_
    | with_reducible refine State.carrOp_frame ?_ ?_   ?_

theorem execInvRange_frame {W : List Part} {R : List Regs} {s : State} (hW : ∀ p ∈ ([.bus, .carr] : List Part), p ∈ W) (hR :
    RegsIn (([.fld .CARR_OP_STATUS_BUSY, .fld .CARR_OP_STATUS_ERR, .fld .CARR_OP_STATUS_REMAIN] : List Regs)) R) :
    OutFrame W R s (execInvRange s) := by
  unfold execInvRange
  repeat' first
    | exact parts_sub hW rfl
    | with_reducible refine next_frame ?_
    | with_reducible assumption
    | with_reducible exact Frame.refl _ _ _
    | with_reducible refine State.access_frame ?_   (fun t ht => ?_) ?_
    | with_reducible refine State.carrOp_frame ?_ ?_   ?_

theorem execInvAll_frame {W : List Part} {R : List Regs} {s : State} (hW : ∀ p ∈ ([.bus, .carr] : List Part), p ∈ W) (hR :
    RegsIn (([.fld .CARR_OP_STATUS_BUSY, .fld .CARR_OP_STATUS_ERR, .fld .CARR_OP_STATUS_REMAIN] : List Regs)) R) :
    OutFrame W R s (execInvAll s) := by
  unfold execInvAll
  repeat' first
    | exact parts_sub hW rfl
    | with_reducible refine next_frame ?_
    | with_reducible assumption
    | with_reducible exact Frame.refl _ _ _
    | with_reducible refine State.access_frame ?_   (fun t ht => ?_) ?_
    | with_reducible refine State.carrOp_frame ?_ ?_   ?_

theorem State.carrInvAll_frame {W : List Part} {R : List Regs} {s0 s : State} (hW : ∀ p ∈ ([.carr] : List Part), p ∈ W) (h :
    Frame W R s0 s) :
    Frame W R s0 (State.carrInvAll s) := by
  unfold State.carrInvAll
  repeat' first
    | with_reducible exact h
    | with_reducible assumption
    | (extract_lets +onlyGivenNames y; clear_value y; revert y; intro _)
    | with_reducible refine State.updCarr_frame ?_    ?_
    | with_reducible refine State.carrCount_frame ?_    ?_

theorem execCarrOpDone_frame {W : List Part} {R : List Regs} {s : State} (hW : ∀ p ∈ ([.mireIrq, .fenIrq, .seqs, .chans, .stg,
    .lev, .peat, .carr] : List Part), p ∈ W) (hR : RegsIn (alarmRegs ++ haltRegs ++ ([.fld .CARR_OP_STATUS_BUSY, .fld
    .CARR_OP_STATUS_REMAIN] : List Regs)) R) :
    OutFrame W R s (execCarrOpDone s) := by
  unfold execCarrOpDone
  repeat' first
    | (extract_lets +onlyGivenNames x; refine have_out (x := x) ?_ (fun hx => ?_); (on_goal 2 => (clear_value x; revert x; intro _ _)); (on_goal 1 => (unfold x; clear x)))
    | (extract_lets +onlyGivenNames y; clear_value y; revert y; intro _)
    | exact parts_sub hW rfl
    | with_reducible refine next_frame ?_
    | with_reducible refine ite_out (fun _ => ?_) (fun _ => ?_)
    | with_reducible assumption
    | exact regs_sub hR (by decide +kernel)
    | with_reducible exact Frame.refl _ _ _
    | with_reducible refine State.forN_frame ?_ (fun i t ht => ?_)
    | with_reducible refine State.carrInvAll_frame ?_    ?_
    | with_reducible refine State.set_frame ?_ ?_
    | with_reducible refine State.carrPreload_frame ?_ ?_   ?_
    | with_reducible refine State.carrInv_frame ?_    ?_
    | exact cov_fld hR (by decide +kernel)
    | split

end Sys2Proof.Machine
end

