-- ==== Sys2Proof/Laws/FrameQueues.lean ====
section
/-! SUPPORT. Frames of the media work queues (Queues, MediaWork): what an operation may change, and what a command may change. -/

set_option Elab.async false

namespace Sys2Proof.Machine

/-! ### Machine/Queues.lean -/

theorem State.updMq_frame {W : List Part} {R : List Regs} {s0 s : State} {f : MediaQueues → MediaQueues} (hW : ∀ p ∈ ([.mq] :
    List Part), p ∈ W) (h : Frame W R s0 s) :
    Frame W R s0 (State.updMq s f) := by
  unfold State.updMq
  repeat' first
    | with_reducible exact h
    | with_reducible assumption
    | with_reducible refine upd_mq ?_ ?_

theorem State.setCtrl_frame {W : List Part} {R : List Regs} {s0 s : State} {q : ℕ} {slot : ℕ} {dstate : ℕ} (hW : ∀ p ∈
    ([.dram, .mireIrq, .fenIrq, .seqs, .chans, .stg, .lev, .peat, .slu] : List Part), p ∈ W) (hR : RegsIn (alarmRegs ++
    haltRegs) R) (h : Frame W R s0 s) :
    Frame W R s0 (State.setCtrl s q slot dstate) := by
  unfold State.setCtrl
  repeat' first
    | with_reducible exact h
    | with_reducible assumption
    | with_reducible refine State.dramStore_frame ?_ ?_   ?_

theorem State.ringIrq_frame {W : List Part} {R : List Regs} {s0 s : State} {k : ℕ} (hW : ∀ p ∈ ([.fenIrq] : List Part), p ∈ W)
    (h : Frame W R s0 s) :
    Frame W R s0 (State.ringIrq s k) := by
  unfold State.ringIrq
  repeat' first
    | with_reducible exact h
    | with_reducible assumption
    | with_reducible refine State.when_frame ?_ (fun t ht => ?_)
    | with_reducible refine State.irqFen_frame ?_    ?_

theorem State.ringPut_frame {W : List Part} {R : List Regs} {s0 s : State} {k : ℕ} {bs : List Byte} {irq : Bool} (hW : ∀ p ∈
    ([.dram, .mireIrq, .fenIrq, .seqs, .chans, .stg, .lev, .peat, .slu] : List Part), p ∈ W) (hR : RegsIn (alarmRegs ++
    haltRegs ++ ([.arr (.MWC_PI_PASS 0) 0x20 4, .arr (.MWC_PI_PI 0) 0x20 4] : List Regs)) R) (h : Frame W R s0 s) :
    Frame W R s0 (State.ringPut s k bs irq) := by
  unfold State.ringPut
  repeat' first
    | with_reducible exact h
    | with_reducible assumption
    | (extract_lets +onlyGivenNames x; refine have_frame (x := x) ?_ (fun hx => ?_); (on_goal 2 => (clear_value x; revert x; intro _ _)); (on_goal 1 => (unfold x; clear x)))
    | (extract_lets +onlyGivenNames y; clear_value y; revert y; intro _)
    | exact parts_sub hW rfl
    | exact regs_sub hR (by decide +kernel)
    | with_reducible refine State.when_frame ?_ (fun t ht => ?_)
    | with_reducible refine State.dramStore_frame ?_ ?_   ?_
    | with_reducible refine State.ringIrq_frame ?_    ?_
    | with_reducible refine State.set_frame ?_ ?_
    | exact cov_arr (f := .MWC_PI_PASS 0) (k := 0x20) (m := 4) hR (by decide +kernel) (by decide) rfl
    | exact cov_arr (f := .MWC_PI_PI 0) (k := 0x20) (m := 4) hR (by decide +kernel) (by decide) rfl

theorem State.spillPut_frame {W : List Part} {R : List Regs} {s0 s : State} {k : ℕ} {bs : List Byte} {irq : Bool} (hW : ∀ p ∈
    ([.dram, .drawn, .mireIrq, .fenIrq, .seqs, .chans, .stg, .lev, .peat, .slu, .mq] : List Part), p ∈ W) (hR : RegsIn
    (alarmRegs ++ haltRegs ++ ([.arr (.MWC_STATUS_SCAN_STOP 0) 0x20 4, .arr (.MWC_STATUS_SPILL_CNT 0) 0x20 4] : List Regs)) R)
    (h : Frame W R s0 s) :
    Frame W R s0 (State.spillPut s k bs irq) := by
  unfold State.spillPut
  repeat' first
    | with_reducible exact h
    | with_reducible assumption
    | (extract_lets +onlyGivenNames y; clear_value y; revert y; intro _)
    | exact parts_sub hW rfl
    | exact regs_sub hR (by decide +kernel)
    | with_reducible refine State.when_frame ?_ (fun t ht => ?_)
    | with_reducible refine State.ringIrq_frame ?_    ?_
    | with_reducible refine State.dramStore_frame ?_ ?_   ?_
    | with_reducible refine State.draw_frame ?_    ?_
    | with_reducible refine State.set_frame ?_ ?_
    | with_reducible refine State.updMq_frame ?_    ?_
    | exact cov_arr (f := .MWC_STATUS_SCAN_STOP 0) (k := 0x20) (m := 4) hR (by decide +kernel) (by decide) rfl
    | exact cov_arr (f := .MWC_STATUS_SPILL_CNT 0) (k := 0x20) (m := 4) hR (by decide +kernel) (by decide) rfl

theorem State.place_frame {W : List Part} {R : List Regs} {s0 s : State} {k : ℕ} {bs : List Byte} {irq : Bool} (hW : ∀ p ∈
    ([.dram, .drawn, .mireIrq, .fenIrq, .seqs, .chans, .stg, .lev, .peat, .slu, .mq] : List Part), p ∈ W) (hR : RegsIn
    (alarmRegs ++ haltRegs ++ ([.arr (.MWC_PI_PASS 0) 0x20 4, .arr (.MWC_PI_PI 0) 0x20 4, .arr (.MWC_STATUS_SCAN_STOP 0) 0x20
    4, .arr (.MWC_STATUS_SPILL_CNT 0) 0x20 4] : List Regs)) R) (h : Frame W R s0 s) :
    Frame W R s0 (State.place s k bs irq) := by
  unfold State.place
  repeat' first
    | with_reducible exact h
    | with_reducible assumption
    | exact parts_sub hW rfl
    | exact regs_sub hR (by decide +kernel)
    | with_reducible refine ite_frame (fun _ => ?_) (fun _ => ?_)
    | with_reducible refine State.spillPut_frame ?_ ?_   ?_
    | with_reducible refine State.ringPut_frame ?_ ?_   ?_

theorem State.unspill_frame {W : List Part} {R : List Regs} {s0 s : State} {k : ℕ} {y1 : List Bool} (hW : ∀ p ∈ ([.dram,
    .drawn, .mireIrq, .fenIrq, .seqs, .chans, .stg, .lev, .peat, .slu, .mq] : List Part), p ∈ W) (hR : RegsIn (alarmRegs ++
    haltRegs ++ ([.arr (.MWC_PI_PASS 0) 0x20 4, .arr (.MWC_PI_PI 0) 0x20 4, .arr (.MWC_STATUS_SPILL_CNT 0) 0x20 4] : List
    Regs)) R) (h : Frame W R s0 s) :
    Frame W R s0 (State.unspill s k y1) := by
  induction y1 generalizing s k with
  | nil =>
    unfold State.unspill
    repeat' first
      | with_reducible exact h
  | cons b bs ih =>
    unfold State.unspill
    repeat' first
      | with_reducible apply ih
      | with_reducible exact h
      | (extract_lets +onlyGivenNames y; clear_value y; revert y; intro _)
      | exact parts_sub hW rfl
      | exact regs_sub hR (by decide +kernel)
      | with_reducible refine ite_frame (fun _ => ?_) (fun _ => ?_)
      | with_reducible refine State.ringPut_frame ?_ ?_   ?_
      | with_reducible refine State.draw_frame ?_    ?_
      | with_reducible refine State.set_frame ?_ ?_
      | with_reducible refine State.updMq_frame ?_    ?_
      | with_reducible refine snd_frame (by assumption) (State.dramLoad_frame ?_ ?_   ?_)
      | exact cov_arr (f := .MWC_STATUS_SPILL_CNT 0) (k := 0x20) (m := 4) hR (by decide +kernel) (by decide) rfl
      | split

theorem State.payOwed_frame {W : List Part} {R : List Regs} {s0 s : State} {y0 : List (ℕ × ℕ × List Byte × Bool)} (hW : ∀ p ∈
    ([.dram, .drawn, .mireIrq, .fenIrq, .seqs, .chans, .stg, .lev, .peat, .slu, .mq] : List Part), p ∈ W) (hR : RegsIn
    (alarmRegs ++ haltRegs ++ ([.arr (.MWC_PI_PASS 0) 0x20 4, .arr (.MWC_PI_PI 0) 0x20 4, .arr (.MWC_STATUS_SCAN_STOP 0) 0x20
    4, .arr (.MWC_STATUS_SPILL_CNT 0) 0x20 4] : List Regs)) R) (h : Frame W R s0 s) :
    Frame W R s0 (State.payOwed s y0) := by
  induction y0 generalizing s  with
  | nil =>
    unfold State.payOwed
    repeat' first
      | with_reducible exact h
      | exact parts_sub hW rfl
      | with_reducible refine State.updMq_frame ?_    ?_
  | cons b bs ih =>
    unfold State.payOwed
    repeat' first
      | with_reducible apply ih
      | with_reducible exact h
      | with_reducible assumption
      | exact parts_sub hW rfl
      | exact regs_sub hR (by decide +kernel)
      | with_reducible refine ite_frame (fun _ => ?_) (fun _ => ?_)
      | with_reducible refine State.setCtrl_frame ?_ ?_   ?_
      | with_reducible refine State.place_frame ?_ ?_   ?_
      | with_reducible refine State.updMq_frame ?_    ?_

theorem State.mwqSync_frame {W : List Part} {R : List Regs} {s0 s : State} (hR : RegsIn (([.arr (.MWQ_STATUS_BLOCKED 0) 0x20
    16, .arr (.MWQ_STATUS_OUTST 0) 0x20 16, .fld .MWQ_SYS_STATUS_FLUSH, .fld .MWQ_SYS_STATUS_CAL] : List Regs)) R) (h : Frame
    W R s0 s) :
    Frame W R s0 (State.mwqSync s) := by
  unfold State.mwqSync
  repeat' first
    | with_reducible exact h
    | with_reducible assumption
    | (extract_lets +onlyGivenNames x; refine have_frame (x := x) ?_ (fun hx => ?_); (on_goal 2 => (clear_value x; revert x; intro _ _)); (on_goal 1 => (unfold x; clear x)))
    | with_reducible refine State.forN_frame ?_ (fun i t ht => ?_)
    | with_reducible refine State.setIf_frame ?_ ?_
    | with_reducible refine State.set_frame ?_ ?_
    | exact cov_arr (f := .MWQ_STATUS_BLOCKED 0) (k := 0x20) (m := 16) hR (by decide +kernel) (by decide) rfl
    | exact cov_arr (f := .MWQ_STATUS_OUTST 0) (k := 0x20) (m := 16) hR (by decide +kernel) (by decide) rfl
    | exact cov_fld hR (by decide +kernel)

theorem State.drainRing_frame {W : List Part} {R : List Regs} {s0 s : State} {k : ℕ} (hW : ∀ p ∈ ([.dram, .drawn, .mireIrq,
    .fenIrq, .seqs, .chans, .stg, .lev, .peat, .slu, .mq] : List Part), p ∈ W) (hR : RegsIn (alarmRegs ++ haltRegs ++ ([.arr
    (.MWQ_STATUS_BLOCKED 0) 0x20 16, .arr (.MWQ_STATUS_OUTST 0) 0x20 16, .arr (.MWC_PI_PASS 0) 0x20 4, .arr (.MWC_PI_PI 0)
    0x20 4, .arr (.MWC_STATUS_SCAN_STOP 0) 0x20 4, .arr (.MWC_STATUS_SPILL_CNT 0) 0x20 4, .fld .MWQ_SYS_STATUS_FLUSH, .fld
    .MWQ_SYS_STATUS_CAL] : List Regs)) R) (h : Frame W R s0 s) :
    Frame W R s0 (State.drainRing s k) := by
  unfold State.drainRing
  repeat' first
    | with_reducible exact h
    | with_reducible assumption
    | (extract_lets +onlyGivenNames x; refine have_frame (x := x) ?_ (fun hx => ?_); (on_goal 2 => (clear_value x; revert x; intro _ _)); (on_goal 1 => (unfold x; clear x)))
    | exact regs_sub hR (by decide +kernel)
    | with_reducible refine State.when_frame ?_ (fun t ht => ?_)
    | with_reducible refine State.mwqSync_frame  ?_   ?_
    | with_reducible refine State.payOwed_frame ?_ ?_   ?_
    | with_reducible refine State.set_frame ?_ ?_
    | with_reducible refine State.unspill_frame ?_ ?_   ?_
    | exact cov_arr (f := .MWC_STATUS_SCAN_STOP 0) (k := 0x20) (m := 4) hR (by decide +kernel) (by decide) rfl

theorem State.updMwd_frame {W : List Part} {R : List Regs} {s0 s : State} {d : Mwd} (hW : ∀ p ∈ ([.mq] : List Part), p ∈ W) (h
    : Frame W R s0 s) :
    Frame W R s0 (State.updMwd s d) := by
  unfold State.updMwd
  repeat' first
    | with_reducible exact h
    | with_reducible assumption
    | with_reducible refine State.updMq_frame ?_    ?_

theorem State.ownRecord_frame {W : List Part} {R : List Regs} {s0 s : State} {d : Mwd} {e : Ending} (hW : ∀ p ∈ ([.dram,
    .drawn, .mireIrq, .fenIrq, .seqs, .chans, .stg, .lev, .peat, .slu, .mq] : List Part), p ∈ W) (hR : RegsIn (alarmRegs ++
    haltRegs ++ ([.arr (.MWC_PI_PASS 0) 0x20 4, .arr (.MWC_PI_PI 0) 0x20 4, .arr (.MWC_STATUS_SCAN_STOP 0) 0x20 4, .arr
    (.MWC_STATUS_SPILL_CNT 0) 0x20 4] : List Regs)) R) (h : Frame W R s0 s) :
    Frame W R s0 (State.ownRecord s d e) := by
  unfold State.ownRecord
  repeat' first
    | with_reducible exact h
    | with_reducible assumption
    | exact parts_sub hW rfl
    | exact regs_sub hR (by decide +kernel)
    | with_reducible refine State.setCtrl_frame ?_ ?_   ?_
    | with_reducible refine State.place_frame ?_ ?_   ?_
    | with_reducible refine State.updMq_frame ?_    ?_

theorem State.release_frame {W : List Part} {R : List Regs} {s0 s : State} {y0 : List Mwd} (hW : ∀ p ∈ ([.dram, .mireIrq,
    .fenIrq, .seqs, .chans, .stg, .lev, .peat, .slu, .mq] : List Part), p ∈ W) (hR : RegsIn (alarmRegs ++ haltRegs) R) (h :
    Frame W R s0 s) :
    Frame W R s0 (State.release s y0) := by
  induction y0 generalizing s  with
  | nil =>
    unfold State.release
    repeat' first
      | with_reducible exact h
  | cons b bs ih =>
    unfold State.release
    repeat' first
      | with_reducible apply ih
      | with_reducible exact h
      | with_reducible assumption
      | exact parts_sub hW rfl
      | with_reducible refine State.setCtrl_frame ?_ ?_   ?_
      | with_reducible refine State.updMq_frame ?_    ?_

theorem State.batchDone_frame {W : List Part} {R : List Regs} {s0 s : State} {b : ℕ} (hW : ∀ p ∈ ([.dram, .drawn, .mireIrq,
    .fenIrq, .seqs, .chans, .stg, .lev, .peat, .slu, .mq] : List Part), p ∈ W) (hR : RegsIn (alarmRegs ++ haltRegs ++ ([.arr
    (.MWC_PI_PASS 0) 0x20 4, .arr (.MWC_PI_PI 0) 0x20 4, .arr (.MWC_STATUS_SCAN_STOP 0) 0x20 4, .arr (.MWC_STATUS_SPILL_CNT 0)
    0x20 4] : List Regs)) R) (h : Frame W R s0 s) :
    Frame W R s0 (State.batchDone s b) := by
  unfold State.batchDone
  repeat' first
    | with_reducible exact h
    | with_reducible assumption
    | (extract_lets +onlyGivenNames x; refine have_frame (x := x) ?_ (fun hx => ?_); (on_goal 2 => (clear_value x; revert x; intro _ _)); (on_goal 1 => (unfold x; clear x)))
    | (extract_lets +onlyGivenNames y; clear_value y; revert y; intro _)
    | exact parts_sub hW rfl
    | exact regs_sub hR (by decide +kernel)
    | with_reducible refine ite_frame (fun _ => ?_) (fun _ => ?_)
    | with_reducible refine State.place_frame ?_ ?_   ?_
    | with_reducible refine State.release_frame ?_ ?_   ?_
    | with_reducible refine State.updMq_frame ?_    ?_

theorem State.letGo_frame {W : List Part} {R : List Regs} {s0 s : State} {d : Mwd} {e : Ending} (hW : ∀ p ∈ ([.stg, .slu] :
    List Part), p ∈ W) (hR : RegsIn (([.arr (.SLU_STG_STATUS_ACTIVE 0) 0x4 8, .arr (.SLU_STG_STATUS_DIR 0) 0x4 8, .arr
    (.SLU_STG_STATUS_RESV 0) 0x4 8, .arr (.SLU_STG_STATUS_READY 0) 0x4 8, .fld .SLU_STATUS_LED_FREE, .arr (.SLU_SEC_FREE_FREE
    0) 0x4 4, .arr (.SLU_SEC_RUN_RUN 0) 0x4 4, .arr (.SLU_CRED_USED_USED 0) 0x4 32] : List Regs)) R) (h : Frame W R s0 s) :
    Frame W R s0 (State.letGo s d e) := by
  unfold State.letGo
  repeat' first
    | with_reducible exact h
    | with_reducible assumption
    | (extract_lets +onlyGivenNames x; refine have_frame (x := x) ?_ (fun hx => ?_); (on_goal 2 => (clear_value x; revert x; intro _ _)); (on_goal 1 => (unfold x; clear x)))
    | exact parts_sub hW rfl
    | exact regs_sub hR (by decide +kernel)
    | with_reducible refine State.when_frame ?_ (fun t ht => ?_)
    | with_reducible refine State.updStage_frame ?_    ?_
    | with_reducible refine State.unmarkEntries_frame ?_ ?_   ?_
    | with_reducible refine State.stgStatus_frame  ?_   ?_
    | with_reducible refine State.fillEnd_frame ?_    ?_
    | split

theorem State.complete_frame {W : List Part} {R : List Regs} {s0 s : State} {d : Mwd} {e : Ending} (hW : ∀ p ∈ ([.dram,
    .drawn, .mireIrq, .fenIrq, .seqs, .chans, .stg, .lev, .peat, .slu, .mq] : List Part), p ∈ W) (hR : RegsIn (alarmRegs ++
    haltRegs ++ ([.arr (.MWQ_STATUS_BLOCKED 0) 0x20 16, .arr (.MWQ_STATUS_OUTST 0) 0x20 16, .arr (.MWC_PI_PASS 0) 0x20 4, .arr
    (.MWC_PI_PI 0) 0x20 4, .arr (.MWC_STATUS_SCAN_STOP 0) 0x20 4, .arr (.MWC_STATUS_SPILL_CNT 0) 0x20 4, .fld
    .MWQ_SYS_STATUS_FLUSH, .fld .MWQ_SYS_STATUS_CAL, .fld .SLU_STATUS_LED_FREE, .arr (.SLU_SEC_FREE_FREE 0) 0x4 4, .arr
    (.SLU_SEC_RUN_RUN 0) 0x4 4, .arr (.SLU_CRED_USED_USED 0) 0x4 32] : List Regs)) R) (h : Frame W R s0 s) :
    Frame W R s0 (State.complete s d e) := by
  unfold State.complete
  repeat' first
    | with_reducible exact h
    | with_reducible assumption
    | (extract_lets +onlyGivenNames x; refine have_frame (x := x) ?_ (fun hx => ?_); (on_goal 2 => (clear_value x; revert x; intro _ _)); (on_goal 1 => (unfold x; clear x)))
    | exact parts_sub hW rfl
    | exact regs_sub hR (by decide +kernel)
    | with_reducible refine ite_frame (fun _ => ?_) (fun _ => ?_)
    | with_reducible refine State.when_frame ?_ (fun t ht => ?_)
    | with_reducible refine State.ownRecord_frame ?_ ?_   ?_
    | with_reducible refine State.setCtrl_frame ?_ ?_   ?_
    | with_reducible refine State.letGo_frame ?_ ?_   ?_
    | with_reducible refine State.batchDone_frame ?_ ?_   ?_
    | with_reducible refine State.updMwd_frame ?_    ?_
    | with_reducible refine State.updMq_frame ?_    ?_
    | with_reducible refine State.mwqSync_frame  ?_   ?_

theorem State.completeIdle_frame {W : List Part} {R : List Regs} {s0 s : State} {d : Mwd} {status : ℕ} (hW : ∀ p ∈ ([.dram,
    .drawn, .mireIrq, .fenIrq, .seqs, .chans, .stg, .lev, .peat, .slu, .mq] : List Part), p ∈ W) (hR : RegsIn (alarmRegs ++
    haltRegs ++ ([.arr (.MWQ_STATUS_BLOCKED 0) 0x20 16, .arr (.MWQ_STATUS_OUTST 0) 0x20 16, .arr (.MWC_PI_PASS 0) 0x20 4, .arr
    (.MWC_PI_PI 0) 0x20 4, .arr (.MWC_STATUS_SCAN_STOP 0) 0x20 4, .arr (.MWC_STATUS_SPILL_CNT 0) 0x20 4, .fld
    .MWQ_SYS_STATUS_FLUSH, .fld .MWQ_SYS_STATUS_CAL, .fld .SLU_STATUS_LED_FREE, .arr (.SLU_SEC_FREE_FREE 0) 0x4 4, .arr
    (.SLU_SEC_RUN_RUN 0) 0x4 4, .arr (.SLU_CRED_USED_USED 0) 0x4 32] : List Regs)) R) (h : Frame W R s0 s) :
    Frame W R s0 (State.completeIdle s d status) := by
  unfold State.completeIdle
  repeat' first
    | with_reducible exact h
    | with_reducible assumption
    | with_reducible refine State.complete_frame ?_ ?_   ?_

theorem State.dropHint_frame {W : List Part} {R : List Regs} {s0 s : State} {d : Mwd} (hW : ∀ p ∈ ([.tus] : List Part), p ∈ W)
    (h : Frame W R s0 s) :
    Frame W R s0 (State.dropHint s d) := by
  unfold State.dropHint
  repeat' first
    | with_reducible exact h
    | with_reducible assumption
    | with_reducible refine State.when_frame ?_ (fun t ht => ?_)
    | with_reducible refine State.latchSeek_frame ?_    ?_

theorem State.stopMwd_frame {W : List Part} {R : List Regs} {s0 s : State} {d : Mwd} (hW : ∀ p ∈ ([.dram, .drawn, .mireIrq,
    .fenIrq, .seqs, .chans, .stg, .lev, .peat, .tus, .slu, .mq] : List Part), p ∈ W) (hR : RegsIn (alarmRegs ++ haltRegs ++
    ([.arr (.REED_ST_CTRL_ABORT 0) 0x100 8, .arr (.MWQ_STATUS_BLOCKED 0) 0x20 16, .arr (.MWQ_STATUS_OUTST 0) 0x20 16, .arr
    (.MWC_PI_PASS 0) 0x20 4, .arr (.MWC_PI_PI 0) 0x20 4, .arr (.MWC_STATUS_SCAN_STOP 0) 0x20 4, .arr (.MWC_STATUS_SPILL_CNT 0)
    0x20 4, .fld .MWQ_SYS_STATUS_FLUSH, .fld .MWQ_SYS_STATUS_CAL, .fld .SLU_STATUS_LED_FREE, .arr (.SLU_SEC_FREE_FREE 0) 0x4
    4, .arr (.SLU_SEC_RUN_RUN 0) 0x4 4] : List Regs) ++ ([.arr (.SLU_CRED_USED_USED 0) 0x4 32] : List Regs)) R) (h : Frame W R
    s0 s) :
    Frame W R s0 (State.stopMwd s d) := by
  unfold State.stopMwd
  repeat' first
    | with_reducible exact h
    | with_reducible assumption
    | (extract_lets +onlyGivenNames x; refine have_frame (x := x) ?_ (fun hx => ?_); (on_goal 2 => (clear_value x; revert x; intro _ _)); (on_goal 1 => (unfold x; clear x)))
    | (extract_lets +onlyGivenNames y; clear_value y; revert y; intro _)
    | exact parts_sub hW rfl
    | exact regs_sub hR (by decide +kernel)
    | with_reducible refine ite_frame (fun _ => ?_) (fun _ => ?_)
    | with_reducible refine State.when_frame ?_ (fun t ht => ?_)
    | with_reducible refine State.completeIdle_frame ?_ ?_   ?_
    | with_reducible refine State.complete_frame ?_ ?_   ?_
    | with_reducible refine State.dropHint_frame ?_    ?_
    | with_reducible refine State.updMwd_frame ?_    ?_
    | with_reducible refine State.set_frame ?_ ?_
    | exact cov_arr (f := .REED_ST_CTRL_ABORT 0) (k := 0x100) (m := 8) hR (by decide +kernel) (by decide) rfl
    | split

theorem State.closeBatch_frame {W : List Part} {R : List Regs} {s0 s : State} {q : ℕ} (hW : ∀ p ∈ ([.dram, .drawn, .mireIrq,
    .fenIrq, .seqs, .chans, .stg, .lev, .peat, .slu, .mq] : List Part), p ∈ W) (hR : RegsIn (alarmRegs ++ haltRegs ++ ([.arr
    (.MWC_PI_PASS 0) 0x20 4, .arr (.MWC_PI_PI 0) 0x20 4, .arr (.MWC_STATUS_SCAN_STOP 0) 0x20 4, .arr (.MWC_STATUS_SPILL_CNT 0)
    0x20 4] : List Regs)) R) (h : Frame W R s0 s) :
    Frame W R s0 (State.closeBatch s q) := by
  unfold State.closeBatch
  repeat' first
    | with_reducible exact h
    | with_reducible assumption
    | (extract_lets +onlyGivenNames y; clear_value y; revert y; intro _)
    | exact parts_sub hW rfl
    | with_reducible refine ite_frame (fun _ => ?_) (fun _ => ?_)
    | with_reducible refine State.batchDone_frame ?_ ?_   ?_
    | with_reducible refine State.updMq_frame ?_    ?_

theorem State.joinBatch_frame {W : List Part} {R : List Regs} {s0 s : State} {d : Mwd} (hW : ∀ p ∈ ([.mq] : List Part), p ∈ W)
    (h : Frame W R s0 s) :
    Frame W R s0 (State.joinBatch s d).2 := by
  unfold State.joinBatch
  repeat' first
    | with_reducible exact h
    | with_reducible assumption
    | (extract_lets +onlyGivenNames x; refine have_frame (x := x) ?_ (fun hx => ?_); (on_goal 2 => (clear_value x; revert x; intro _ _)); (on_goal 1 => (unfold x; clear x)))
    | (extract_lets +onlyGivenNames y; clear_value y; revert y; intro _)
    | with_reducible refine State.updMq_frame ?_    ?_
    | split

theorem State.stopAheads_frame {W : List Part} {R : List Regs} {s0 s : State} {d : Mwd} {y1 : List Mwd} (hW : ∀ p ∈ ([.dram,
    .drawn, .mireIrq, .fenIrq, .seqs, .chans, .stg, .lev, .peat, .tus, .slu, .mq] : List Part), p ∈ W) (hR : RegsIn (alarmRegs
    ++ haltRegs ++ ([.arr (.REED_ST_CTRL_ABORT 0) 0x100 8, .arr (.MWQ_STATUS_BLOCKED 0) 0x20 16, .arr (.MWQ_STATUS_OUTST 0)
    0x20 16, .arr (.MWC_PI_PASS 0) 0x20 4, .arr (.MWC_PI_PI 0) 0x20 4, .arr (.MWC_STATUS_SCAN_STOP 0) 0x20 4, .arr
    (.MWC_STATUS_SPILL_CNT 0) 0x20 4, .fld .MWQ_SYS_STATUS_FLUSH, .fld .MWQ_SYS_STATUS_CAL, .fld .SLU_STATUS_LED_FREE, .arr
    (.SLU_SEC_FREE_FREE 0) 0x4 4, .arr (.SLU_SEC_RUN_RUN 0) 0x4 4] : List Regs) ++ ([.arr (.SLU_CRED_USED_USED 0) 0x4 32] :
    List Regs)) R) (h : Frame W R s0 s) :
    Frame W R s0 (State.stopAheads s d y1) := by
  induction y1 generalizing s d with
  | nil =>
    unfold State.stopAheads
    repeat' first
      | with_reducible exact h
  | cons b bs ih =>
    unfold State.stopAheads
    repeat' first
      | with_reducible apply ih
      | with_reducible exact h
      | with_reducible assumption
      | with_reducible refine State.when_frame ?_ (fun t ht => ?_)
      | with_reducible refine State.stopMwd_frame ?_ ?_   ?_

theorem State.accept_frame {W : List Part} {R : List Regs} {s0 s : State} {q : ℕ} {slot : ℕ} {bs : List Byte} (hW : ∀ p ∈
    ([.dram, .drawn, .mireIrq, .fenIrq, .seqs, .chans, .stg, .lev, .peat, .tus, .slu, .mq] : List Part), p ∈ W) (hR : RegsIn
    (alarmRegs ++ haltRegs ++ ([.arr (.REED_ST_CTRL_ABORT 0) 0x100 8, .arr (.MWQ_HEAD_HEAD 0) 0x20 16, .arr
    (.MWQ_STATUS_BLOCKED 0) 0x20 16, .arr (.MWQ_STATUS_OUTST 0) 0x20 16, .arr (.MWC_PI_PASS 0) 0x20 4, .arr (.MWC_PI_PI 0)
    0x20 4, .arr (.MWC_STATUS_SCAN_STOP 0) 0x20 4, .arr (.MWC_STATUS_SPILL_CNT 0) 0x20 4, .fld .MWQ_SYS_STATUS_FLUSH, .fld
    .MWQ_SYS_STATUS_CAL, .fld .SLU_STATUS_LED_FREE, .arr (.SLU_SEC_FREE_FREE 0) 0x4 4] : List Regs) ++ ([.arr
    (.SLU_SEC_RUN_RUN 0) 0x4 4, .arr (.SLU_CRED_USED_USED 0) 0x4 32] : List Regs)) R) (h : Frame W R s0 s) :
    Frame W R s0 (State.accept s q slot bs) := by
  unfold State.accept
  repeat' first
    | with_reducible exact h
    | with_reducible assumption
    | (extract_lets +onlyGivenNames x; refine have_frame (x := x) ?_ (fun hx => ?_); (on_goal 2 => (clear_value x; revert x; intro _ _)); (on_goal 1 => (unfold x; clear x)))
    | (extract_lets +onlyGivenNames y; clear_value y; revert y; intro _)
    | exact parts_sub hW rfl
    | exact regs_sub hR (by decide +kernel)
    | with_reducible refine ite_frame (fun _ => ?_) (fun _ => ?_)
    | with_reducible refine State.when_frame ?_ (fun t ht => ?_)
    | with_reducible refine State.joinBatch_frame ?_    ?_
    | with_reducible refine State.ownRecord_frame ?_ ?_   ?_
    | with_reducible refine State.stopAheads_frame ?_ ?_   ?_
    | with_reducible refine State.completeIdle_frame ?_ ?_   ?_
    | with_reducible refine State.setCtrl_frame ?_ ?_   ?_
    | with_reducible refine State.set_frame ?_ ?_
    | with_reducible refine State.updMq_frame ?_    ?_
    | exact cov_arr (f := .MWQ_HEAD_HEAD 0) (k := 0x20) (m := 16) hR (by decide +kernel) (by decide) rfl
    | split

theorem State.parkedHints_frame {W : List Part} {R : List Regs} {s0 s : State} {q : ℕ} {h' : ℕ} {y2 : ℕ} (hW : ∀ p ∈
    ([.mireIrq, .fenIrq, .seqs, .chans, .stg, .lev, .peat, .mq] : List Part), p ∈ W) (hR : RegsIn (alarmRegs ++ haltRegs) R)
    (h : Frame W R s0 s) :
    Frame W R s0 (State.parkedHints s q h' y2) := by
  induction y2 generalizing s q h' with
  | zero =>
    unfold State.parkedHints
    repeat' first
      | with_reducible exact h
  | succ k ih =>
    unfold State.parkedHints
    repeat' first
      | with_reducible apply ih
      | with_reducible exact h
      | with_reducible assumption
      | exact parts_sub hW rfl
      | with_reducible refine ite_frame (fun _ => ?_) (fun _ => ?_)
      | with_reducible refine State.when_frame ?_ (fun t ht => ?_)
      | with_reducible refine State.updMq_frame ?_    ?_
      | with_reducible refine snd_frame (by assumption) (State.dramLoad_frame ?_ ?_   ?_)
      | split

theorem State.scan_frame {W : List Part} {R : List Regs} {s0 s : State} {q : ℕ} {y1 : ℕ} (hW : ∀ p ∈ ([.dram, .drawn,
    .mireIrq, .fenIrq, .seqs, .chans, .stg, .lev, .peat, .tus, .slu, .mq] : List Part), p ∈ W) (hR : RegsIn (alarmRegs ++
    haltRegs ++ ([.arr (.REED_ST_CTRL_ABORT 0) 0x100 8, .arr (.MWQ_HEAD_HEAD 0) 0x20 16, .arr (.MWQ_STATUS_PEND 0) 0x20 16,
    .arr (.MWQ_STATUS_BLOCKED 0) 0x20 16, .arr (.MWQ_STATUS_OUTST 0) 0x20 16, .arr (.MWC_PI_PASS 0) 0x20 4, .arr (.MWC_PI_PI
    0) 0x20 4, .arr (.MWC_STATUS_SCAN_STOP 0) 0x20 4, .arr (.MWC_STATUS_SPILL_CNT 0) 0x20 4, .fld .MWQ_SYS_STATUS_FLUSH, .fld
    .MWQ_SYS_STATUS_CAL, .fld .SLU_STATUS_LED_FREE] : List Regs) ++ ([.arr (.SLU_SEC_FREE_FREE 0) 0x4 4, .arr
    (.SLU_SEC_RUN_RUN 0) 0x4 4, .arr (.SLU_CRED_USED_USED 0) 0x4 32] : List Regs)) R) (h : Frame W R s0 s) :
    Frame W R s0 (State.scan s q y1) := by
  induction y1 generalizing s q with
  | zero =>
    unfold State.scan
    repeat' first
      | with_reducible exact h
  | succ k ih =>
    unfold State.scan
    repeat' first
      | with_reducible apply ih
      | with_reducible exact h
      | with_reducible assumption
      | (extract_lets +onlyGivenNames y; clear_value y; revert y; intro _)
      | exact parts_sub hW rfl
      | exact regs_sub hR (by decide +kernel)
      | with_reducible refine ite_frame (fun _ => ?_) (fun _ => ?_)
      | with_reducible refine State.parkedHints_frame ?_ ?_   ?_
      | with_reducible refine State.accept_frame ?_ ?_   ?_
      | with_reducible refine State.set_frame ?_ ?_
      | with_reducible refine snd_frame (by assumption) (State.dramLoad_frame ?_ ?_   ?_)
      | exact cov_arr (f := .MWQ_STATUS_PEND 0) (k := 0x20) (m := 16) hR (by decide +kernel) (by decide) rfl
      | split

theorem execQueueScan_frame {W : List Part} {R : List Regs} {s : State} {q : ℕ} (hW : ∀ p ∈ ([.dram, .drawn, .mireIrq,
    .fenIrq, .seqs, .chans, .stg, .lev, .peat, .tus, .slu, .mq] : List Part), p ∈ W) (hR : RegsIn (alarmRegs ++ haltRegs ++
    ([.arr (.REED_ST_CTRL_ABORT 0) 0x100 8, .arr (.MWQ_HEAD_HEAD 0) 0x20 16, .arr (.MWQ_STATUS_PEND 0) 0x20 16, .arr
    (.MWQ_STATUS_BLOCKED 0) 0x20 16, .arr (.MWQ_STATUS_OUTST 0) 0x20 16, .arr (.MWC_PI_PASS 0) 0x20 4, .arr (.MWC_PI_PI 0)
    0x20 4, .arr (.MWC_STATUS_SCAN_STOP 0) 0x20 4, .arr (.MWC_STATUS_SPILL_CNT 0) 0x20 4, .fld .MWQ_SYS_STATUS_FLUSH, .fld
    .MWQ_SYS_STATUS_CAL, .fld .SLU_STATUS_LED_FREE] : List Regs) ++ ([.arr (.SLU_SEC_FREE_FREE 0) 0x4 4, .arr
    (.SLU_SEC_RUN_RUN 0) 0x4 4, .arr (.SLU_CRED_USED_USED 0) 0x4 32] : List Regs)) R) :
    OutFrame W R s (execQueueScan q s) := by
  unfold execQueueScan
  repeat' first
    | exact parts_sub hW rfl
    | with_reducible refine next_frame ?_
    | with_reducible assumption
    | exact regs_sub hR (by decide +kernel)
    | with_reducible exact Frame.refl _ _ _
    | with_reducible refine ite_frame (fun _ => ?_) (fun _ => ?_)
    | with_reducible refine State.set_frame ?_ ?_
    | with_reducible refine State.scan_frame ?_ ?_   ?_
    | with_reducible refine State.mwqSync_frame  ?_   ?_
    | exact cov_arr (f := .MWQ_STATUS_PEND 0) (k := 0x20) (m := 16) hR (by decide +kernel) (by decide) rfl

theorem execMwqDb_frame {W : List Part} {R : List Regs} {s : State} {q : ℕ} (hW : ∀ p ∈ ([.bus] : List Part), p ∈ W) (hR :
    RegsIn (([.arr (.MWQ_STATUS_PEND 0) 0x20 16] : List Regs)) R) :
    OutFrame W R s (execMwqDb q s) := by
  unfold execMwqDb
  repeat' first
    | exact parts_sub hW rfl
    | with_reducible refine next_frame ?_
    | with_reducible exact Frame.refl _ _ _
    | with_reducible refine State.ack_frame ?_    ?_
    | with_reducible refine State.set_frame ?_ ?_
    | exact cov_arr (f := .MWQ_STATUS_PEND 0) (k := 0x20) (m := 16) hR (by decide +kernel) (by decide) rfl

theorem execMwqCfg_frame {W : List Part} {R : List Regs} {s : State} {q : ℕ} {en : Bool} {log2n : ℕ} (hW : ∀ p ∈ ([.dram,
    .bus, .drawn, .mireIrq, .fenIrq, .seqs, .chans, .stg, .lev, .peat, .slu, .mq] : List Part), p ∈ W) (hR : RegsIn (alarmRegs
    ++ haltRegs ++ ([.arr (.MWQ_CFG_EN 0) 0x20 16, .arr (.MWQ_CFG_LOG2N 0) 0x20 16, .arr (.MWQ_HEAD_HEAD 0) 0x20 16, .arr
    (.MWQ_STATUS_BLOCKED 0) 0x20 16, .arr (.MWQ_STATUS_ENERR 0) 0x20 16, .arr (.MWQ_STATUS_OUTST 0) 0x20 16, .arr
    (.MWC_PI_PASS 0) 0x20 4, .arr (.MWC_PI_PI 0) 0x20 4, .arr (.MWC_STATUS_SCAN_STOP 0) 0x20 4, .arr (.MWC_STATUS_SPILL_CNT 0)
    0x20 4, .fld .MWQ_SYS_STATUS_FLUSH, .fld .MWQ_SYS_STATUS_CAL] : List Regs)) R) :
    OutFrame W R s (execMwqCfg q en log2n s) := by
  unfold execMwqCfg
  repeat' first
    | (extract_lets +onlyGivenNames x; refine have_out (x := x) ?_ (fun hx => ?_); (on_goal 2 => (clear_value x; revert x; intro _ _)); (on_goal 1 => (unfold x; clear x)))
    | (extract_lets +onlyGivenNames y; clear_value y; revert y; intro _)
    | exact parts_sub hW rfl
    | with_reducible refine next_frame ?_
    | with_reducible refine ite_out (fun _ => ?_) (fun _ => ?_)
    | with_reducible assumption
    | exact regs_sub hR (by decide +kernel)
    | with_reducible exact Frame.refl _ _ _
    | with_reducible refine ite_frame (fun _ => ?_) (fun _ => ?_)
    | with_reducible refine State.ack_frame ?_    ?_
    | with_reducible refine State.closeBatch_frame ?_ ?_   ?_
    | with_reducible refine State.set_frame ?_ ?_
    | with_reducible refine State.updMq_frame ?_    ?_
    | with_reducible refine State.mwqSync_frame  ?_   ?_
    | exact cov_arr (f := .MWQ_CFG_EN 0) (k := 0x20) (m := 16) hR (by decide +kernel) (by decide) rfl
    | exact cov_arr (f := .MWQ_CFG_LOG2N 0) (k := 0x20) (m := 16) hR (by decide +kernel) (by decide) rfl
    | exact cov_arr (f := .MWQ_HEAD_HEAD 0) (k := 0x20) (m := 16) hR (by decide +kernel) (by decide) rfl
    | exact cov_arr (f := .MWQ_STATUS_ENERR 0) (k := 0x20) (m := 16) hR (by decide +kernel) (by decide) rfl

theorem execMwcCfg_frame {W : List Part} {R : List Regs} {s : State} {k : ℕ} {en : Bool} {compat : Bool} {irqEn : Bool} {core
    : ℕ} {log2n : ℕ} (hW : ∀ p ∈ ([.dram, .bus, .drawn, .mireIrq, .fenIrq, .seqs, .chans, .stg, .lev, .peat, .slu, .mq] : List
    Part), p ∈ W) (hR : RegsIn (alarmRegs ++ haltRegs ++ ([.arr (.MWQ_STATUS_BLOCKED 0) 0x20 16, .arr (.MWQ_STATUS_OUTST 0)
    0x20 16, .arr (.MWC_CFG_EN 0) 0x20 4, .arr (.MWC_CFG_COMPAT 0) 0x20 4, .arr (.MWC_CFG_IRQ_EN 0) 0x20 4, .arr
    (.MWC_CFG_CORE 0) 0x20 4, .arr (.MWC_CFG_LOG2N 0) 0x20 4, .arr (.MWC_PI_PASS 0) 0x20 4, .arr (.MWC_PI_PI 0) 0x20 4, .arr
    (.MWC_CI_CI 0) 0x20 4, .arr (.MWC_STATUS_SCAN_STOP 0) 0x20 4, .arr (.MWC_STATUS_SPILL_CNT 0) 0x20 4] : List Regs) ++
    ([.fld .MWQ_SYS_STATUS_FLUSH, .fld .MWQ_SYS_STATUS_CAL] : List Regs)) R) :
    OutFrame W R s (execMwcCfg k en compat irqEn core log2n s) := by
  unfold execMwcCfg
  repeat' first
    | (extract_lets +onlyGivenNames x; refine have_out (x := x) ?_ (fun hx => ?_); (on_goal 2 => (clear_value x; revert x; intro _ _)); (on_goal 1 => (unfold x; clear x)))
    | (extract_lets +onlyGivenNames y; clear_value y; revert y; intro _)
    | exact parts_sub hW rfl
    | with_reducible refine next_frame ?_
    | with_reducible refine ite_out (fun _ => ?_) (fun _ => ?_)
    | with_reducible assumption
    | exact regs_sub hR (by decide +kernel)
    | with_reducible exact Frame.refl _ _ _
    | with_reducible refine ite_frame (fun _ => ?_) (fun _ => ?_)
    | with_reducible refine State.when_frame ?_ (fun t ht => ?_)
    | with_reducible refine State.setIf_frame ?_ ?_
    | with_reducible refine State.ack_frame ?_    ?_
    | with_reducible refine State.drainRing_frame ?_ ?_   ?_
    | with_reducible refine State.set_frame ?_ ?_
    | exact cov_arr (f := .MWC_CFG_EN 0) (k := 0x20) (m := 4) hR (by decide +kernel) (by decide) rfl
    | exact cov_arr (f := .MWC_CFG_COMPAT 0) (k := 0x20) (m := 4) hR (by decide +kernel) (by decide) rfl
    | exact cov_arr (f := .MWC_CFG_IRQ_EN 0) (k := 0x20) (m := 4) hR (by decide +kernel) (by decide) rfl
    | exact cov_arr (f := .MWC_CFG_CORE 0) (k := 0x20) (m := 4) hR (by decide +kernel) (by decide) rfl
    | exact cov_arr (f := .MWC_CFG_LOG2N 0) (k := 0x20) (m := 4) hR (by decide +kernel) (by decide) rfl
    | exact cov_arr (f := .MWC_PI_PASS 0) (k := 0x20) (m := 4) hR (by decide +kernel) (by decide) rfl
    | exact cov_arr (f := .MWC_PI_PI 0) (k := 0x20) (m := 4) hR (by decide +kernel) (by decide) rfl
    | exact cov_arr (f := .MWC_CI_CI 0) (k := 0x20) (m := 4) hR (by decide +kernel) (by decide) rfl

theorem execMwcCi_frame {W : List Part} {R : List Regs} {s : State} {k : ℕ} {ci : ℕ} (hW : ∀ p ∈ ([.dram, .bus, .drawn,
    .mireIrq, .fenIrq, .seqs, .chans, .stg, .lev, .peat, .slu, .mq] : List Part), p ∈ W) (hR : RegsIn (alarmRegs ++ haltRegs
    ++ ([.arr (.MWQ_STATUS_BLOCKED 0) 0x20 16, .arr (.MWQ_STATUS_OUTST 0) 0x20 16, .arr (.MWC_PI_PASS 0) 0x20 4, .arr
    (.MWC_PI_PI 0) 0x20 4, .arr (.MWC_CI_CI 0) 0x20 4, .arr (.MWC_STATUS_SCAN_STOP 0) 0x20 4, .arr (.MWC_STATUS_CI_ERR 0) 0x20
    4, .arr (.MWC_STATUS_SPILL_CNT 0) 0x20 4, .fld .MWQ_SYS_STATUS_FLUSH, .fld .MWQ_SYS_STATUS_CAL] : List Regs)) R) :
    OutFrame W R s (execMwcCi k ci s) := by
  unfold execMwcCi
  repeat' first
    | (extract_lets +onlyGivenNames x; refine have_out (x := x) ?_ (fun hx => ?_); (on_goal 2 => (clear_value x; revert x; intro _ _)); (on_goal 1 => (unfold x; clear x)))
    | (extract_lets +onlyGivenNames y; clear_value y; revert y; intro _)
    | exact parts_sub hW rfl
    | with_reducible refine next_frame ?_
    | with_reducible refine ite_out (fun _ => ?_) (fun _ => ?_)
    | with_reducible assumption
    | exact regs_sub hR (by decide +kernel)
    | with_reducible exact Frame.refl _ _ _
    | with_reducible refine State.drainRing_frame ?_ ?_   ?_
    | with_reducible refine State.ack_frame ?_    ?_
    | with_reducible refine State.set_frame ?_ ?_
    | exact cov_arr (f := .MWC_CI_CI 0) (k := 0x20) (m := 4) hR (by decide +kernel) (by decide) rfl
    | exact cov_arr (f := .MWC_STATUS_CI_ERR 0) (k := 0x20) (m := 4) hR (by decide +kernel) (by decide) rfl

theorem execMwqCancel_frame {W : List Part} {R : List Regs} {s : State} {q : ℕ} {slot : ℕ} (hW : ∀ p ∈ ([.dram, .bus, .drawn,
    .mireIrq, .fenIrq, .seqs, .chans, .stg, .lev, .peat, .tus, .slu, .mq] : List Part), p ∈ W) (hR : RegsIn (alarmRegs ++
    haltRegs ++ ([.arr (.REED_ST_CTRL_ABORT 0) 0x100 8, .arr (.MWQ_STATUS_BLOCKED 0) 0x20 16, .arr (.MWQ_STATUS_OUTST 0) 0x20
    16, .arr (.MWC_PI_PASS 0) 0x20 4, .arr (.MWC_PI_PI 0) 0x20 4, .arr (.MWC_STATUS_SCAN_STOP 0) 0x20 4, .arr
    (.MWC_STATUS_SPILL_CNT 0) 0x20 4, .fld .MWQ_CANCEL_RES_RESULT, .fld .MWQ_SYS_STATUS_FLUSH, .fld .MWQ_SYS_STATUS_CAL, .fld
    .SLU_STATUS_LED_FREE, .arr (.SLU_SEC_FREE_FREE 0) 0x4 4] : List Regs) ++ ([.arr (.SLU_SEC_RUN_RUN 0) 0x4 4, .arr
    (.SLU_CRED_USED_USED 0) 0x4 32] : List Regs)) R) :
    OutFrame W R s (execMwqCancel q slot s) := by
  unfold execMwqCancel
  repeat' first
    | (extract_lets +onlyGivenNames x; refine have_out (x := x) ?_ (fun hx => ?_); (on_goal 2 => (clear_value x; revert x; intro _ _)); (on_goal 1 => (unfold x; clear x)))
    | (extract_lets +onlyGivenNames f; have := fun a => f a; clear this; unfold f; clear f)
    | exact parts_sub hW rfl
    | with_reducible refine next_frame ?_
    | with_reducible refine ite_out (fun _ => ?_) (fun _ => ?_)
    | with_reducible assumption
    | exact regs_sub hR (by decide +kernel)
    | with_reducible exact Frame.refl _ _ _
    | with_reducible refine ite_frame (fun _ => ?_) (fun _ => ?_)
    | with_reducible refine State.ack_frame ?_    ?_
    | with_reducible refine State.completeIdle_frame ?_ ?_   ?_
    | with_reducible refine State.stopMwd_frame ?_ ?_   ?_
    | with_reducible refine State.set_frame ?_ ?_
    | with_reducible refine State.updMq_frame ?_    ?_
    | with_reducible refine snd_frame (by assumption) (State.dramLoad_frame ?_ ?_   ?_)
    | exact cov_fld hR (by decide +kernel)
    | split

theorem State.endFence_frame {W : List Part} {R : List Regs} {s0 s : State} {op : ℕ} {q : ℕ} {slot : ℕ} (hW : ∀ p ∈ ([.dram,
    .drawn, .mireIrq, .fenIrq, .seqs, .chans, .stg, .lev, .peat, .slu, .mq] : List Part), p ∈ W) (hR : RegsIn (alarmRegs ++
    haltRegs ++ ([.arr (.MWQ_STATUS_BLOCKED 0) 0x20 16, .arr (.MWQ_STATUS_OUTST 0) 0x20 16, .arr (.MWC_PI_PASS 0) 0x20 4, .arr
    (.MWC_PI_PI 0) 0x20 4, .arr (.MWC_STATUS_SCAN_STOP 0) 0x20 4, .arr (.MWC_STATUS_SPILL_CNT 0) 0x20 4, .fld
    .MWQ_SYS_STATUS_FLUSH, .fld .MWQ_SYS_STATUS_CAL, .fld .SLU_STATUS_LED_FREE, .arr (.SLU_SEC_FREE_FREE 0) 0x4 4, .arr
    (.SLU_SEC_RUN_RUN 0) 0x4 4, .arr (.SLU_CRED_USED_USED 0) 0x4 32] : List Regs)) R) (h : Frame W R s0 s) :
    Frame W R s0 (State.endFence s op q slot) := by
  unfold State.endFence
  repeat' first
    | with_reducible exact h
    | with_reducible assumption
    | with_reducible refine ite_frame (fun _ => ?_) (fun _ => ?_)
    | with_reducible refine State.completeIdle_frame ?_ ?_   ?_
    | split

theorem execMwdFence_frame {W : List Part} {R : List Regs} {s : State} {q : ℕ} {slot : ℕ} (hW : ∀ p ∈ ([.dram, .drawn,
    .mireIrq, .fenIrq, .seqs, .chans, .stg, .lev, .peat, .slu, .mq] : List Part), p ∈ W) (hR : RegsIn (alarmRegs ++ haltRegs
    ++ ([.arr (.MWQ_STATUS_BLOCKED 0) 0x20 16, .arr (.MWQ_STATUS_OUTST 0) 0x20 16, .arr (.MWC_PI_PASS 0) 0x20 4, .arr
    (.MWC_PI_PI 0) 0x20 4, .arr (.MWC_STATUS_SCAN_STOP 0) 0x20 4, .arr (.MWC_STATUS_SPILL_CNT 0) 0x20 4, .fld
    .MWQ_SYS_STATUS_FLUSH, .fld .MWQ_SYS_STATUS_CAL, .fld .SLU_STATUS_LED_FREE, .arr (.SLU_SEC_FREE_FREE 0) 0x4 4, .arr
    (.SLU_SEC_RUN_RUN 0) 0x4 4, .arr (.SLU_CRED_USED_USED 0) 0x4 32] : List Regs)) R) :
    OutFrame W R s (execMwdFence q slot s) := by
  unfold execMwdFence
  repeat' first
    | exact parts_sub hW rfl
    | with_reducible refine next_frame ?_
    | with_reducible assumption
    | with_reducible exact Frame.refl _ _ _
    | with_reducible refine State.endFence_frame ?_ ?_   ?_

theorem execMwdBarrier_frame {W : List Part} {R : List Regs} {s : State} {q : ℕ} {slot : ℕ} (hW : ∀ p ∈ ([.dram, .drawn,
    .mireIrq, .fenIrq, .seqs, .chans, .stg, .lev, .peat, .slu, .mq] : List Part), p ∈ W) (hR : RegsIn (alarmRegs ++ haltRegs
    ++ ([.arr (.MWQ_STATUS_BLOCKED 0) 0x20 16, .arr (.MWQ_STATUS_OUTST 0) 0x20 16, .arr (.MWC_PI_PASS 0) 0x20 4, .arr
    (.MWC_PI_PI 0) 0x20 4, .arr (.MWC_STATUS_SCAN_STOP 0) 0x20 4, .arr (.MWC_STATUS_SPILL_CNT 0) 0x20 4, .fld
    .MWQ_SYS_STATUS_FLUSH, .fld .MWQ_SYS_STATUS_CAL, .fld .SLU_STATUS_LED_FREE, .arr (.SLU_SEC_FREE_FREE 0) 0x4 4, .arr
    (.SLU_SEC_RUN_RUN 0) 0x4 4, .arr (.SLU_CRED_USED_USED 0) 0x4 32] : List Regs)) R) :
    OutFrame W R s (execMwdBarrier q slot s) := by
  unfold execMwdBarrier
  repeat' first
    | exact parts_sub hW rfl
    | with_reducible refine next_frame ?_
    | with_reducible assumption
    | with_reducible exact Frame.refl _ _ _
    | with_reducible refine State.endFence_frame ?_ ?_   ?_

/-! ### Machine/MediaWork.lean -/

theorem State.changeHead_frame {W : List Part} {R : List Regs} {s0 s : State} {n : ℕ} {surface : ℕ} (hW : ∀ p ∈ ([.tus] : List
    Part), p ∈ W) (hR : RegsIn (([.arr (.WTH_MA_CTRL_HOLD 0) 0x4 8, .arr (.WTH_MA_STATUS_VOUT 0) 0x4 8, .arr
    (.TUS_SEC_CTRL_HEAD1 0) 0x40 4, .arr (.TUS_SEC_CTRL_HEAD0 0) 0x40 4, .arr (.TUS_SEC_CTRL_LANE_EN 0) 0x40 4] : List Regs))
    R) (h : Frame W R s0 s) :
    Frame W R s0 (State.changeHead s n surface) := by
  unfold State.changeHead
  repeat' first
    | with_reducible exact h
    | with_reducible assumption
    | (extract_lets +onlyGivenNames x; refine have_frame (x := x) ?_ (fun hx => ?_); (on_goal 2 => (clear_value x; revert x; intro _ _)); (on_goal 1 => (unfold x; clear x)))
    | (extract_lets +onlyGivenNames y; clear_value y; revert y; intro _)
    | exact regs_sub hR (by decide +kernel)
    | with_reducible refine State.laneOff_frame ?_    ?_
    | with_reducible refine State.set_frame ?_ ?_
    | with_reducible refine State.driveMa_frame  ?_   ?_
    | with_reducible refine State.holdMa_frame  ?_   ?_
    | exact cov_arr (f := .WTH_MA_CTRL_HOLD 0) (k := 0x4) (m := 8) hR (by decide +kernel) (by decide) rfl
    | exact cov_arr (f := .TUS_SEC_CTRL_HEAD1 0) (k := 0x40) (m := 4) hR (by decide +kernel) (by decide) rfl
    | exact cov_arr (f := .TUS_SEC_CTRL_HEAD0 0) (k := 0x40) (m := 4) hR (by decide +kernel) (by decide) rfl
    | exact cov_arr (f := .TUS_SEC_CTRL_LANE_EN 0) (k := 0x40) (m := 4) hR (by decide +kernel) (by decide) rfl
    | with_reducible refine cov_ite ?_ ?_

theorem State.loadCal_frame {W : List Part} {R : List Regs} {s0 s : State} {n : ℕ} {surface : ℕ} {zone : ℕ} (hW : ∀ p ∈
    ([.chans] : List Part), p ∈ W) (hR : RegsIn (([.arr (.TIDE_ST_PHASE_PHASE 0) 0x4 8, .arr (.SDG_WR_CFG_ADV 0) 0x400 8, .arr
    (.SDG_VFY_CFG_DLY 0) 0x400 8, .arr (.SDG_VFY_CFG_VAMP_CAL 0) 0x400 8, .grid (.SDG_WPC_SHIFT 0 0) 0x400 8 0x4 8, .grid
    (.SDG_WPC_ANG_SCALE 0 0) 0x400 8 0x4 16] : List Regs)) R) (h : Frame W R s0 s) :
    Frame W R s0 (State.loadCal s n surface zone) := by
  unfold State.loadCal
  repeat' first
    | with_reducible exact h
    | with_reducible assumption
    | (extract_lets +onlyGivenNames x; refine have_frame (x := x) ?_ (fun hx => ?_); (on_goal 2 => (clear_value x; revert x; intro _ _)); (on_goal 1 => (unfold x; clear x)))
    | (extract_lets +onlyGivenNames f; have := fun a => f a; clear this; unfold f; clear f)
    | with_reducible refine State.forN_frame ?_ (fun i t ht => ?_)
    | with_reducible refine State.updChan_frame ?_    ?_
    | with_reducible refine State.set_frame ?_ ?_
    | exact cov_arr (f := .TIDE_ST_PHASE_PHASE 0) (k := 0x4) (m := 8) hR (by decide +kernel) (by decide) rfl
    | exact cov_arr (f := .SDG_WR_CFG_ADV 0) (k := 0x400) (m := 8) hR (by decide +kernel) (by decide) rfl
    | exact cov_arr (f := .SDG_VFY_CFG_DLY 0) (k := 0x400) (m := 8) hR (by decide +kernel) (by decide) rfl
    | exact cov_arr (f := .SDG_VFY_CFG_VAMP_CAL 0) (k := 0x400) (m := 8) hR (by decide +kernel) (by decide) rfl
    | exact cov_grid (f := .SDG_WPC_SHIFT 0 0) (k := 0x400) (m := 8) (u := 0x4) (l := 8) hR (by decide +kernel) (by decide) (by decide) rfl
    | exact cov_grid (f := .SDG_WPC_ANG_SCALE 0 0) (k := 0x400) (m := 8) (u := 0x4) (l := 16) hR (by decide +kernel) (by decide) (by decide) rfl

theorem State.selectHead_frame {W : List Part} {R : List Regs} {s0 s : State} {n : ℕ} {surface : ℕ} {zone : ℕ} (hW : ∀ p ∈
    ([.chans, .tus] : List Part), p ∈ W) (hR : RegsIn (([.arr (.TIDE_ST_PHASE_PHASE 0) 0x4 8, .arr (.WTH_MA_CTRL_HOLD 0) 0x4
    8, .arr (.WTH_MA_STATUS_VOUT 0) 0x4 8, .arr (.TUS_SEC_CTRL_HEAD1 0) 0x40 4, .arr (.TUS_SEC_CTRL_HEAD0 0) 0x40 4, .arr
    (.TUS_SEC_CTRL_LANE_EN 0) 0x40 4, .arr (.SDG_WR_CFG_ADV 0) 0x400 8, .arr (.SDG_VFY_CFG_DLY 0) 0x400 8, .arr
    (.SDG_VFY_CFG_VAMP_CAL 0) 0x400 8, .grid (.SDG_WPC_SHIFT 0 0) 0x400 8 0x4 8, .grid (.SDG_WPC_ANG_SCALE 0 0) 0x400 8 0x4
    16] : List Regs)) R) (h : Frame W R s0 s) :
    Frame W R s0 (State.selectHead s n surface zone) := by
  unfold State.selectHead
  repeat' first
    | with_reducible exact h
    | with_reducible assumption
    | exact parts_sub hW rfl
    | exact regs_sub hR (by decide +kernel)
    | with_reducible refine State.when_frame ?_ (fun t ht => ?_)
    | with_reducible refine State.loadCal_frame ?_ ?_   ?_
    | with_reducible refine State.changeHead_frame ?_ ?_   ?_

theorem State.putTarget_frame {W : List Part} {R : List Regs} {s0 s : State} {k : ℕ} {i : ℕ} {pos : ℕ} (hR : RegsIn (([.grid
    (.TUS_SEEK_TGT_TRACK 0 0) 0x20 4 0x4 2, .grid (.TUS_SEEK_TGT_FRAC 0 0) 0x20 4 0x4 2] : List Regs)) R) (h : Frame W R s0 s)
    :
    Frame W R s0 (State.putTarget s k i pos) := by
  unfold State.putTarget
  repeat' first
    | with_reducible exact h
    | with_reducible refine State.set_frame ?_ ?_
    | exact cov_grid (f := .TUS_SEEK_TGT_TRACK 0 0) (k := 0x20) (m := 4) (u := 0x4) (l := 2) hR (by decide +kernel) (by decide) (by decide) rfl
    | exact cov_grid (f := .TUS_SEEK_TGT_FRAC 0 0) (k := 0x20) (m := 4) (u := 0x4) (l := 2) hR (by decide +kernel) (by decide) (by decide) rfl

theorem State.seekTo_frame {W : List Part} {R : List Regs} {s0 s : State} {n : ℕ} {pos : ℕ} (hW : ∀ p ∈ ([.tus] : List Part),
    p ∈ W) (hR : RegsIn (([.arr (.TUS_SEC_CTRL_PRI_SLOT 0) 0x40 4, .arr (.TUS_SEEK_CTRL_HINT 0) 0x20 4, .grid
    (.TUS_SEEK_TGT_TRACK 0 0) 0x20 4 0x4 2, .grid (.TUS_SEEK_TGT_FRAC 0 0) 0x20 4 0x4 2] : List Regs)) R) (h : Frame W R s0 s)
    :
    Frame W R s0 (State.seekTo s n pos) := by
  unfold State.seekTo
  repeat' first
    | with_reducible exact h
    | with_reducible assumption
    | (extract_lets +onlyGivenNames x; refine have_frame (x := x) ?_ (fun hx => ?_); (on_goal 2 => (clear_value x; revert x; intro _ _)); (on_goal 1 => (unfold x; clear x)))
    | (extract_lets +onlyGivenNames y; clear_value y; revert y; intro _)
    | exact regs_sub hR (by decide +kernel)
    | with_reducible refine State.when_frame ?_ (fun t ht => ?_)
    | with_reducible refine State.putTarget_frame  ?_   ?_
    | with_reducible refine State.latchSeek_frame ?_    ?_
    | with_reducible refine State.set_frame ?_ ?_
    | exact cov_arr (f := .TUS_SEC_CTRL_PRI_SLOT 0) (k := 0x40) (m := 4) hR (by decide +kernel) (by decide) rfl
    | exact cov_arr (f := .TUS_SEEK_CTRL_HINT 0) (k := 0x20) (m := 4) hR (by decide +kernel) (by decide) rfl

theorem State.startMwd_frame {W : List Part} {R : List Regs} {s0 s : State} {n : ℕ} {d : Mwd} (hW : ∀ p ∈ ([.dram, .drawn,
    .mireIrq, .fenIrq, .seqs, .chans, .stg, .lev, .peat, .tus, .slu, .mq] : List Part), p ∈ W) (hR : RegsIn (alarmRegs ++
    haltRegs ++ ([.arr (.TIDE_ST_PHASE_PHASE 0) 0x4 8, .arr (.WTH_MA_CTRL_HOLD 0) 0x4 8, .arr (.WTH_MA_STATUS_VOUT 0) 0x4 8,
    .arr (.TUS_SEC_CTRL_HEAD1 0) 0x40 4, .arr (.TUS_SEC_CTRL_HEAD0 0) 0x40 4, .arr (.TUS_SEC_CTRL_PRI_SLOT 0) 0x40 4, .arr
    (.TUS_SEC_CTRL_LANE_EN 0) 0x40 4, .arr (.TUS_SEEK_CTRL_HINT 0) 0x20 4, .grid (.TUS_SEEK_TGT_TRACK 0 0) 0x20 4 0x4 2, .grid
    (.TUS_SEEK_TGT_FRAC 0 0) 0x20 4 0x4 2, .arr (.SDG_WR_CFG_ADV 0) 0x400 8, .arr (.SDG_VFY_CFG_DLY 0) 0x400 8] : List Regs)
    ++ ([.arr (.SDG_VFY_CFG_VAMP_CAL 0) 0x400 8, .grid (.SDG_WPC_SHIFT 0 0) 0x400 8 0x4 8, .grid (.SDG_WPC_ANG_SCALE 0 0)
    0x400 8 0x4 16, .arr (.MWQ_STATUS_BLOCKED 0) 0x20 16, .arr (.MWQ_STATUS_OUTST 0) 0x20 16, .arr (.MWC_PI_PASS 0) 0x20 4,
    .arr (.MWC_PI_PI 0) 0x20 4, .arr (.MWC_STATUS_SCAN_STOP 0) 0x20 4, .arr (.MWC_STATUS_SPILL_CNT 0) 0x20 4, .fld
    .MWQ_SYS_STATUS_FLUSH, .fld .MWQ_SYS_STATUS_CAL, .fld .SLU_STATUS_LED_FREE] : List Regs) ++ ([.arr (.SLU_SEC_FREE_FREE 0)
    0x4 4, .arr (.SLU_SEC_RUN_RUN 0) 0x4 4, .arr (.SLU_CRED_USED_USED 0) 0x4 32] : List Regs)) R) (h : Frame W R s0 s) :
    Frame W R s0 (State.startMwd s n d) := by
  unfold State.startMwd
  repeat' first
    | with_reducible exact h
    | with_reducible assumption
    | (extract_lets +onlyGivenNames x; refine have_frame (x := x) ?_ (fun hx => ?_); (on_goal 2 => (clear_value x; revert x; intro _ _)); (on_goal 1 => (unfold x; clear x)))
    | (extract_lets +onlyGivenNames y; clear_value y; revert y; intro _)
    | exact parts_sub hW rfl
    | exact regs_sub hR (by decide +kernel)
    | with_reducible refine ite_frame (fun _ => ?_) (fun _ => ?_)
    | with_reducible refine State.when_frame ?_ (fun t ht => ?_)
    | with_reducible refine State.seekTo_frame ?_ ?_   ?_
    | with_reducible refine State.markEntries_frame ?_ ?_   ?_
    | with_reducible refine State.completeIdle_frame ?_ ?_   ?_
    | with_reducible refine State.setCtrl_frame ?_ ?_   ?_
    | with_reducible refine State.selectHead_frame ?_ ?_   ?_
    | with_reducible refine State.putTarget_frame  ?_   ?_
    | with_reducible refine State.updRegion_frame ?_    ?_
    | with_reducible refine State.updMwd_frame ?_    ?_
    | with_reducible refine State.set_frame ?_ ?_
    | exact cov_arr (f := .TUS_SEC_CTRL_PRI_SLOT 0) (k := 0x40) (m := 4) hR (by decide +kernel) (by decide) rfl

theorem State.sedgeSettings_frame {W : List Part} {R : List Regs} {s0 s : State} {n : ℕ} {o : ReedOp} (hR : RegsIn (([.arr
    (.SDG_ST_CTRL_COMB 0) 0x400 8, .arr (.SDG_ST_CTRL_FORCE_TIMED 0) 0x400 8, .arr (.SDG_ST_CTRL_ALT_SET 0) 0x400 8, .arr
    (.SDG_ST_CTRL_STEP 0) 0x400 8, .arr (.SDG_ST_CTRL_MODE 0) 0x400 8] : List Regs)) R) (h : Frame W R s0 s) :
    Frame W R s0 (State.sedgeSettings s n o) := by
  unfold State.sedgeSettings
  repeat' first
    | with_reducible exact h
    | with_reducible assumption
    | (extract_lets +onlyGivenNames x; refine have_frame (x := x) ?_ (fun hx => ?_); (on_goal 2 => (clear_value x; revert x; intro _ _)); (on_goal 1 => (unfold x; clear x)))
    | with_reducible refine State.setIf_frame ?_ ?_
    | with_reducible refine State.set_frame ?_ ?_
    | exact cov_arr (f := .SDG_ST_CTRL_COMB 0) (k := 0x400) (m := 8) hR (by decide +kernel) (by decide) rfl
    | exact cov_arr (f := .SDG_ST_CTRL_FORCE_TIMED 0) (k := 0x400) (m := 8) hR (by decide +kernel) (by decide) rfl
    | exact cov_arr (f := .SDG_ST_CTRL_ALT_SET 0) (k := 0x400) (m := 8) hR (by decide +kernel) (by decide) rfl
    | exact cov_arr (f := .SDG_ST_CTRL_STEP 0) (k := 0x400) (m := 8) hR (by decide +kernel) (by decide) rfl
    | exact cov_arr (f := .SDG_ST_CTRL_MODE 0) (k := 0x400) (m := 8) hR (by decide +kernel) (by decide) rfl

theorem State.codeSettings_frame {W : List Part} {R : List Regs} {s0 s : State} {n : ℕ} {surface : ℕ} {track : ℕ} {z :
    Config.ZoneRow} (hW : ∀ p ∈ ([.mireIrq, .fenIrq, .seqs, .chans, .stg, .tide, .lev, .peat] : List Part), p ∈ W) (hR :
    RegsIn (alarmRegs ++ haltRegs ++ ([.arr (.TIDE_ST_CBPC_CBPC 0) 0x4 8, .arr (.SDG_ST_STATUS_CODE_ERR 0) 0x400 8, .arr
    (.SDG_CODE_C 0) 0x400 8, .arr (.SDG_CODE_META 0) 0x400 8, .arr (.SDG_SEAL_TRK_SURF 0) 0x400 8, .arr (.SDG_SEAL_TRK_TRACK
    0) 0x400 8] : List Regs)) R) (h : Frame W R s0 s) :
    Frame W R s0 (State.codeSettings s n surface track z) := by
  unfold State.codeSettings
  repeat' first
    | with_reducible exact h
    | with_reducible assumption
    | (extract_lets +onlyGivenNames x; refine have_frame (x := x) ?_ (fun hx => ?_); (on_goal 2 => (clear_value x; revert x; intro _ _)); (on_goal 1 => (unfold x; clear x)))
    | exact regs_sub hR (by decide +kernel)
    | with_reducible refine State.judgeRate_frame ?_ ?_   ?_
    | with_reducible refine State.codeStatus_frame  ?_   ?_
    | with_reducible refine State.set_frame ?_ ?_
    | exact cov_arr (f := .TIDE_ST_CBPC_CBPC 0) (k := 0x4) (m := 8) hR (by decide +kernel) (by decide) rfl
    | exact cov_arr (f := .SDG_CODE_C 0) (k := 0x400) (m := 8) hR (by decide +kernel) (by decide) rfl
    | exact cov_arr (f := .SDG_CODE_META 0) (k := 0x400) (m := 8) hR (by decide +kernel) (by decide) rfl
    | exact cov_arr (f := .SDG_SEAL_TRK_SURF 0) (k := 0x400) (m := 8) hR (by decide +kernel) (by decide) rfl
    | exact cov_arr (f := .SDG_SEAL_TRK_TRACK 0) (k := 0x400) (m := 8) hR (by decide +kernel) (by decide) rfl

theorem execDescriptorStart_frame {W : List Part} {R : List Regs} {s : State} {n : ℕ} {q : ℕ} {slot : ℕ} (hW : ∀ p ∈ ([.dram,
    .drawn, .mireIrq, .fenIrq, .seqs, .chans, .stg, .lev, .peat, .tus, .slu, .mq] : List Part), p ∈ W) (hR : RegsIn (alarmRegs
    ++ haltRegs ++ ([.arr (.TIDE_ST_PHASE_PHASE 0) 0x4 8, .arr (.WTH_MA_CTRL_HOLD 0) 0x4 8, .arr (.WTH_MA_STATUS_VOUT 0) 0x4
    8, .arr (.TUS_SEC_CTRL_HEAD1 0) 0x40 4, .arr (.TUS_SEC_CTRL_HEAD0 0) 0x40 4, .arr (.TUS_SEC_CTRL_PRI_SLOT 0) 0x40 4, .arr
    (.TUS_SEC_CTRL_LANE_EN 0) 0x40 4, .arr (.TUS_SEEK_CTRL_HINT 0) 0x20 4, .grid (.TUS_SEEK_TGT_TRACK 0 0) 0x20 4 0x4 2, .grid
    (.TUS_SEEK_TGT_FRAC 0 0) 0x20 4 0x4 2, .arr (.SDG_WR_CFG_ADV 0) 0x400 8, .arr (.SDG_VFY_CFG_DLY 0) 0x400 8] : List Regs)
    ++ ([.arr (.SDG_VFY_CFG_VAMP_CAL 0) 0x400 8, .grid (.SDG_WPC_SHIFT 0 0) 0x400 8 0x4 8, .grid (.SDG_WPC_ANG_SCALE 0 0)
    0x400 8 0x4 16, .arr (.MWQ_STATUS_BLOCKED 0) 0x20 16, .arr (.MWQ_STATUS_OUTST 0) 0x20 16, .arr (.MWC_PI_PASS 0) 0x20 4,
    .arr (.MWC_PI_PI 0) 0x20 4, .arr (.MWC_STATUS_SCAN_STOP 0) 0x20 4, .arr (.MWC_STATUS_SPILL_CNT 0) 0x20 4, .fld
    .MWQ_SYS_STATUS_FLUSH, .fld .MWQ_SYS_STATUS_CAL, .fld .SLU_STATUS_LED_FREE] : List Regs) ++ ([.arr (.SLU_SEC_FREE_FREE 0)
    0x4 4, .arr (.SLU_SEC_RUN_RUN 0) 0x4 4, .arr (.SLU_CRED_USED_USED 0) 0x4 32] : List Regs)) R) :
    OutFrame W R s (execDescriptorStart n q slot s) := by
  unfold execDescriptorStart
  repeat' first
    | (extract_lets +onlyGivenNames y; clear_value y; revert y; intro _)
    | exact parts_sub hW rfl
    | with_reducible refine next_frame ?_
    | with_reducible refine ite_out (fun _ => ?_) (fun _ => ?_)
    | with_reducible assumption
    | exact regs_sub hR (by decide +kernel)
    | with_reducible exact Frame.refl _ _ _
    | with_reducible refine State.updMq_frame ?_    ?_
    | with_reducible refine State.mwqSync_frame  ?_   ?_
    | with_reducible refine State.startMwd_frame ?_ ?_   ?_
    | split

theorem State.issueOp_frame {W : List Part} {R : List Regs} {s0 s : State} {n : ℕ} {surface : ℕ} {firstTrack : ℕ} {zone : ℕ}
    {z : Config.ZoneRow} {o : ReedOp} (hW : ∀ p ∈ ([.mireIrq, .fenIrq, .seqs, .chans, .stg, .tide, .lev, .peat] : List Part),
    p ∈ W) (hR : RegsIn (alarmRegs ++ haltRegs ++ ([.arr (.TIDE_ST_CBPC_CBPC 0) 0x4 8, .arr (.REED_ST_CTRL_ABORT 0) 0x100 8,
    .arr (.REED_ST_CTRL_FLUSH 0) 0x100 8, .arr (.REED_ST_CTRL_ENTRY 0) 0x100 8, .arr (.REED_ST_STATUS_RESTARTS 0) 0x100 8,
    .arr (.REED_ST_PC_MARK_PC 0) 0x100 8, .arr (.REED_ST_PC_PC 0) 0x100 8, .arr (.REED_ST_THRESH_THRESH 0) 0x100 8, .grid
    (.REED_OP_VALUE 0 0) 0x100 8 0x4 8, .grid (.REED_ST_G_VALUE 0 0) 0x100 8 0x4 16, .arr (.SDG_ST_CTRL_COMB 0) 0x400 8, .arr
    (.SDG_ST_CTRL_FORCE_TIMED 0) 0x400 8] : List Regs) ++ ([.arr (.SDG_ST_CTRL_ALT_SET 0) 0x400 8, .arr (.SDG_ST_CTRL_STEP 0)
    0x400 8, .arr (.SDG_ST_CTRL_MODE 0) 0x400 8, .arr (.SDG_ST_STATUS_CODE_ERR 0) 0x400 8, .arr (.SDG_CODE_C 0) 0x400 8, .arr
    (.SDG_CODE_META 0) 0x400 8, .arr (.SDG_SEAL_TRK_SURF 0) 0x400 8, .arr (.SDG_SEAL_TRK_TRACK 0) 0x400 8, .arr
    (.SDG_WR_CFG_MARKER 0) 0x400 8] : List Regs)) R) (h : Frame W R s0 s) :
    Frame W R s0 (State.issueOp s n surface firstTrack zone z o) := by
  unfold State.issueOp
  repeat' first
    | with_reducible exact h
    | with_reducible assumption
    | (extract_lets +onlyGivenNames x; refine have_frame (x := x) ?_ (fun hx => ?_); (on_goal 2 => (clear_value x; revert x; intro _ _)); (on_goal 1 => (unfold x; clear x)))
    | (extract_lets +onlyGivenNames y; clear_value y; revert y; intro _)
    | exact parts_sub hW rfl
    | exact regs_sub hR (by decide +kernel)
    | with_reducible refine State.forN_frame ?_ (fun i t ht => ?_)
    | with_reducible refine State.updStage_frame ?_    ?_
    | with_reducible refine State.setIf_frame ?_ ?_
    | with_reducible refine State.sedgeSettings_frame  ?_   ?_
    | with_reducible refine State.codeSettings_frame ?_ ?_   ?_
    | with_reducible refine State.stgStatus_frame  ?_   ?_
    | with_reducible refine State.reedGo_frame ?_ ?_   ?_
    | with_reducible refine State.set_frame ?_ ?_
    | exact cov_arr (f := .REED_ST_CTRL_FLUSH 0) (k := 0x100) (m := 8) hR (by decide +kernel) (by decide) rfl
    | exact cov_arr (f := .REED_ST_CTRL_ENTRY 0) (k := 0x100) (m := 8) hR (by decide +kernel) (by decide) rfl
    | exact cov_arr (f := .REED_ST_THRESH_THRESH 0) (k := 0x100) (m := 8) hR (by decide +kernel) (by decide) rfl
    | exact cov_grid (f := .REED_OP_VALUE 0 0) (k := 0x100) (m := 8) (u := 0x4) (l := 8) hR (by decide +kernel) (by decide) (by decide) rfl
    | exact cov_arr (f := .SDG_WR_CFG_MARKER 0) (k := 0x400) (m := 8) hR (by decide +kernel) (by decide) rfl

theorem State.issue_frame {W : List Part} {R : List Regs} {s0 s : State} {n : ℕ} {d : Mwd} {zone : ℕ} {z : Config.ZoneRow}
    {first : ℕ} {count : ℕ} {kind : ℕ} (hW : ∀ p ∈ ([.mireIrq, .fenIrq, .seqs, .chans, .stg, .tide, .lev, .peat, .mq] : List
    Part), p ∈ W) (hR : RegsIn (alarmRegs ++ haltRegs ++ ([.arr (.TIDE_ST_CBPC_CBPC 0) 0x4 8, .arr (.REED_ST_CTRL_ABORT 0)
    0x100 8, .arr (.REED_ST_CTRL_FLUSH 0) 0x100 8, .arr (.REED_ST_CTRL_ENTRY 0) 0x100 8, .arr (.REED_ST_STATUS_RESTARTS 0)
    0x100 8, .arr (.REED_ST_PC_MARK_PC 0) 0x100 8, .arr (.REED_ST_PC_PC 0) 0x100 8, .arr (.REED_ST_THRESH_THRESH 0) 0x100 8,
    .grid (.REED_OP_VALUE 0 0) 0x100 8 0x4 8, .grid (.REED_ST_G_VALUE 0 0) 0x100 8 0x4 16, .arr (.SDG_ST_CTRL_COMB 0) 0x400 8,
    .arr (.SDG_ST_CTRL_FORCE_TIMED 0) 0x400 8] : List Regs) ++ ([.arr (.SDG_ST_CTRL_ALT_SET 0) 0x400 8, .arr
    (.SDG_ST_CTRL_STEP 0) 0x400 8, .arr (.SDG_ST_CTRL_MODE 0) 0x400 8, .arr (.SDG_ST_STATUS_CODE_ERR 0) 0x400 8, .arr
    (.SDG_CODE_C 0) 0x400 8, .arr (.SDG_CODE_META 0) 0x400 8, .arr (.SDG_SEAL_TRK_SURF 0) 0x400 8, .arr (.SDG_SEAL_TRK_TRACK
    0) 0x400 8, .arr (.SDG_WR_CFG_MARKER 0) 0x400 8] : List Regs)) R) (h : Frame W R s0 s) :
    Frame W R s0 (State.issue s n d zone z first count kind) := by
  unfold State.issue
  repeat' first
    | with_reducible exact h
    | with_reducible assumption
    | (extract_lets +onlyGivenNames x; refine have_frame (x := x) ?_ (fun hx => ?_); (on_goal 2 => (clear_value x; revert x; intro _ _)); (on_goal 1 => (unfold x; clear x)))
    | (extract_lets +onlyGivenNames y; clear_value y; revert y; intro _)
    | exact parts_sub hW rfl
    | with_reducible refine State.issueOp_frame ?_ ?_   ?_
    | with_reducible refine State.updMwd_frame ?_    ?_

theorem State.aheadEnd_frame {W : List Part} {R : List Regs} {s0 s : State} {d : Mwd} {o : ℕ} (hW : ∀ p ∈ ([.dram, .drawn,
    .mireIrq, .fenIrq, .seqs, .chans, .stg, .lev, .peat, .slu, .mq] : List Part), p ∈ W) (hR : RegsIn (alarmRegs ++ haltRegs
    ++ ([.arr (.MWQ_STATUS_BLOCKED 0) 0x20 16, .arr (.MWQ_STATUS_OUTST 0) 0x20 16, .arr (.MWC_PI_PASS 0) 0x20 4, .arr
    (.MWC_PI_PI 0) 0x20 4, .arr (.MWC_STATUS_SCAN_STOP 0) 0x20 4, .arr (.MWC_STATUS_SPILL_CNT 0) 0x20 4, .fld
    .MWQ_SYS_STATUS_FLUSH, .fld .MWQ_SYS_STATUS_CAL, .fld .SLU_STATUS_LED_FREE, .arr (.SLU_SEC_FREE_FREE 0) 0x4 4, .arr
    (.SLU_SEC_RUN_RUN 0) 0x4 4, .arr (.SLU_CRED_USED_USED 0) 0x4 32] : List Regs)) R) (h : Frame W R s0 s) :
    Frame W R s0 (State.aheadEnd s d o) := by
  unfold State.aheadEnd
  repeat' first
    | with_reducible exact h
    | with_reducible assumption
    | with_reducible refine ite_frame (fun _ => ?_) (fun _ => ?_)
    | with_reducible refine State.complete_frame ?_ ?_   ?_

theorem State.faultEnd_frame {W : List Part} {R : List Regs} {s0 s : State} {d : Mwd} {z : Config.ZoneRow} {o : ℕ} (hW : ∀ p ∈
    ([.dram, .drawn, .mireIrq, .fenIrq, .seqs, .chans, .stg, .lev, .peat, .slu, .mq] : List Part), p ∈ W) (hR : RegsIn
    (alarmRegs ++ haltRegs ++ ([.arr (.MWQ_STATUS_BLOCKED 0) 0x20 16, .arr (.MWQ_STATUS_OUTST 0) 0x20 16, .arr (.MWC_PI_PASS
    0) 0x20 4, .arr (.MWC_PI_PI 0) 0x20 4, .arr (.MWC_STATUS_SCAN_STOP 0) 0x20 4, .arr (.MWC_STATUS_SPILL_CNT 0) 0x20 4, .fld
    .MWQ_SYS_STATUS_FLUSH, .fld .MWQ_SYS_STATUS_CAL, .fld .SLU_STATUS_LED_FREE, .arr (.SLU_SEC_FREE_FREE 0) 0x4 4, .arr
    (.SLU_SEC_RUN_RUN 0) 0x4 4, .arr (.SLU_CRED_USED_USED 0) 0x4 32] : List Regs)) R) (h : Frame W R s0 s) :
    Frame W R s0 (State.faultEnd s d z o) := by
  unfold State.faultEnd
  repeat' first
    | with_reducible exact h
    | with_reducible assumption
    | with_reducible refine ite_frame (fun _ => ?_) (fun _ => ?_)
    | with_reducible refine State.complete_frame ?_ ?_   ?_
    | with_reducible refine State.aheadEnd_frame ?_ ?_   ?_

theorem State.runNext_frame {W : List Part} {R : List Regs} {s0 s : State} {n : ℕ} {op : ℕ} (hW : ∀ p ∈ ([.dram, .drawn,
    .mireIrq, .fenIrq, .seqs, .chans, .stg, .tide, .lev, .peat, .tus, .slu, .mq] : List Part), p ∈ W) (hR : RegsIn (alarmRegs
    ++ haltRegs ++ ([.arr (.TIDE_ST_CBPC_CBPC 0) 0x4 8, .arr (.TUS_SEC_CTRL_PRI_SLOT 0) 0x40 4, .arr (.TUS_SEEK_CTRL_HINT 0)
    0x20 4, .grid (.TUS_SEEK_TGT_TRACK 0 0) 0x20 4 0x4 2, .grid (.TUS_SEEK_TGT_FRAC 0 0) 0x20 4 0x4 2, .arr
    (.REED_ST_CTRL_ABORT 0) 0x100 8, .arr (.REED_ST_CTRL_FLUSH 0) 0x100 8, .arr (.REED_ST_CTRL_ENTRY 0) 0x100 8, .arr
    (.REED_ST_STATUS_RESTARTS 0) 0x100 8, .arr (.REED_ST_PC_MARK_PC 0) 0x100 8, .arr (.REED_ST_PC_PC 0) 0x100 8, .arr
    (.REED_ST_THRESH_THRESH 0) 0x100 8] : List Regs) ++ ([.grid (.REED_OP_VALUE 0 0) 0x100 8 0x4 8, .grid (.REED_ST_G_VALUE 0
    0) 0x100 8 0x4 16, .arr (.SDG_ST_CTRL_COMB 0) 0x400 8, .arr (.SDG_ST_CTRL_FORCE_TIMED 0) 0x400 8, .arr
    (.SDG_ST_CTRL_ALT_SET 0) 0x400 8, .arr (.SDG_ST_CTRL_STEP 0) 0x400 8, .arr (.SDG_ST_CTRL_MODE 0) 0x400 8, .arr
    (.SDG_ST_STATUS_CODE_ERR 0) 0x400 8, .arr (.SDG_CODE_C 0) 0x400 8, .arr (.SDG_CODE_META 0) 0x400 8, .arr
    (.SDG_SEAL_TRK_SURF 0) 0x400 8, .arr (.SDG_SEAL_TRK_TRACK 0) 0x400 8] : List Regs) ++ ([.arr (.SDG_WR_CFG_MARKER 0) 0x400
    8, .arr (.MWQ_STATUS_BLOCKED 0) 0x20 16, .arr (.MWQ_STATUS_OUTST 0) 0x20 16, .arr (.MWC_PI_PASS 0) 0x20 4, .arr
    (.MWC_PI_PI 0) 0x20 4, .arr (.MWC_STATUS_SCAN_STOP 0) 0x20 4, .arr (.MWC_STATUS_SPILL_CNT 0) 0x20 4, .fld
    .MWQ_SYS_STATUS_FLUSH, .fld .MWQ_SYS_STATUS_CAL, .fld .SLU_STATUS_LED_FREE, .arr (.SLU_SEC_FREE_FREE 0) 0x4 4, .arr
    (.SLU_SEC_RUN_RUN 0) 0x4 4] : List Regs) ++ ([.arr (.SLU_CRED_USED_USED 0) 0x4 32] : List Regs)) R) (h : Frame W R s0 s) :
    Frame W R s0 (State.runNext s n op) := by
  unfold State.runNext
  repeat' first
    | with_reducible exact h
    | with_reducible assumption
    | (extract_lets +onlyGivenNames y; clear_value y; revert y; intro _)
    | exact parts_sub hW rfl
    | exact regs_sub hR (by decide +kernel)
    | with_reducible refine ite_frame (fun _ => ?_) (fun _ => ?_)
    | with_reducible refine State.when_frame ?_ (fun t ht => ?_)
    | with_reducible refine State.seekTo_frame ?_ ?_   ?_
    | with_reducible refine State.issue_frame ?_ ?_   ?_
    | with_reducible refine State.faultEnd_frame ?_ ?_   ?_
    | with_reducible refine State.aheadEnd_frame ?_ ?_   ?_
    | split

theorem execMwdRead_frame {W : List Part} {R : List Regs} {s : State} {n : ℕ} (hW : ∀ p ∈ ([.dram, .drawn, .mireIrq, .fenIrq,
    .seqs, .chans, .stg, .tide, .lev, .peat, .tus, .slu, .mq] : List Part), p ∈ W) (hR : RegsIn (alarmRegs ++ haltRegs ++
    ([.arr (.TIDE_ST_CBPC_CBPC 0) 0x4 8, .arr (.TUS_SEC_CTRL_PRI_SLOT 0) 0x40 4, .arr (.TUS_SEEK_CTRL_HINT 0) 0x20 4, .grid
    (.TUS_SEEK_TGT_TRACK 0 0) 0x20 4 0x4 2, .grid (.TUS_SEEK_TGT_FRAC 0 0) 0x20 4 0x4 2, .arr (.REED_ST_CTRL_ABORT 0) 0x100 8,
    .arr (.REED_ST_CTRL_FLUSH 0) 0x100 8, .arr (.REED_ST_CTRL_ENTRY 0) 0x100 8, .arr (.REED_ST_STATUS_RESTARTS 0) 0x100 8,
    .arr (.REED_ST_PC_MARK_PC 0) 0x100 8, .arr (.REED_ST_PC_PC 0) 0x100 8, .arr (.REED_ST_THRESH_THRESH 0) 0x100 8] : List
    Regs) ++ ([.grid (.REED_OP_VALUE 0 0) 0x100 8 0x4 8, .grid (.REED_ST_G_VALUE 0 0) 0x100 8 0x4 16, .arr (.SDG_ST_CTRL_COMB
    0) 0x400 8, .arr (.SDG_ST_CTRL_FORCE_TIMED 0) 0x400 8, .arr (.SDG_ST_CTRL_ALT_SET 0) 0x400 8, .arr (.SDG_ST_CTRL_STEP 0)
    0x400 8, .arr (.SDG_ST_CTRL_MODE 0) 0x400 8, .arr (.SDG_ST_STATUS_CODE_ERR 0) 0x400 8, .arr (.SDG_CODE_C 0) 0x400 8, .arr
    (.SDG_CODE_META 0) 0x400 8, .arr (.SDG_SEAL_TRK_SURF 0) 0x400 8, .arr (.SDG_SEAL_TRK_TRACK 0) 0x400 8] : List Regs) ++
    ([.arr (.SDG_WR_CFG_MARKER 0) 0x400 8, .arr (.MWQ_STATUS_BLOCKED 0) 0x20 16, .arr (.MWQ_STATUS_OUTST 0) 0x20 16, .arr
    (.MWC_PI_PASS 0) 0x20 4, .arr (.MWC_PI_PI 0) 0x20 4, .arr (.MWC_STATUS_SCAN_STOP 0) 0x20 4, .arr (.MWC_STATUS_SPILL_CNT 0)
    0x20 4, .fld .MWQ_SYS_STATUS_FLUSH, .fld .MWQ_SYS_STATUS_CAL, .fld .SLU_STATUS_LED_FREE, .arr (.SLU_SEC_FREE_FREE 0) 0x4
    4, .arr (.SLU_SEC_RUN_RUN 0) 0x4 4] : List Regs) ++ ([.arr (.SLU_CRED_USED_USED 0) 0x4 32] : List Regs)) R) :
    OutFrame W R s (execMwdRead n s) := by
  unfold execMwdRead
  repeat' first
    | exact parts_sub hW rfl
    | with_reducible refine next_frame ?_
    | with_reducible assumption
    | with_reducible exact Frame.refl _ _ _
    | with_reducible refine State.runNext_frame ?_ ?_   ?_

theorem execMwdWrite_frame {W : List Part} {R : List Regs} {s : State} {n : ℕ} (hW : ∀ p ∈ ([.dram, .drawn, .mireIrq, .fenIrq,
    .seqs, .chans, .stg, .tide, .lev, .peat, .tus, .slu, .mq] : List Part), p ∈ W) (hR : RegsIn (alarmRegs ++ haltRegs ++
    ([.arr (.TIDE_ST_CBPC_CBPC 0) 0x4 8, .arr (.TUS_SEC_CTRL_PRI_SLOT 0) 0x40 4, .arr (.TUS_SEEK_CTRL_HINT 0) 0x20 4, .grid
    (.TUS_SEEK_TGT_TRACK 0 0) 0x20 4 0x4 2, .grid (.TUS_SEEK_TGT_FRAC 0 0) 0x20 4 0x4 2, .arr (.REED_ST_CTRL_ABORT 0) 0x100 8,
    .arr (.REED_ST_CTRL_FLUSH 0) 0x100 8, .arr (.REED_ST_CTRL_ENTRY 0) 0x100 8, .arr (.REED_ST_STATUS_RESTARTS 0) 0x100 8,
    .arr (.REED_ST_PC_MARK_PC 0) 0x100 8, .arr (.REED_ST_PC_PC 0) 0x100 8, .arr (.REED_ST_THRESH_THRESH 0) 0x100 8] : List
    Regs) ++ ([.grid (.REED_OP_VALUE 0 0) 0x100 8 0x4 8, .grid (.REED_ST_G_VALUE 0 0) 0x100 8 0x4 16, .arr (.SDG_ST_CTRL_COMB
    0) 0x400 8, .arr (.SDG_ST_CTRL_FORCE_TIMED 0) 0x400 8, .arr (.SDG_ST_CTRL_ALT_SET 0) 0x400 8, .arr (.SDG_ST_CTRL_STEP 0)
    0x400 8, .arr (.SDG_ST_CTRL_MODE 0) 0x400 8, .arr (.SDG_ST_STATUS_CODE_ERR 0) 0x400 8, .arr (.SDG_CODE_C 0) 0x400 8, .arr
    (.SDG_CODE_META 0) 0x400 8, .arr (.SDG_SEAL_TRK_SURF 0) 0x400 8, .arr (.SDG_SEAL_TRK_TRACK 0) 0x400 8] : List Regs) ++
    ([.arr (.SDG_WR_CFG_MARKER 0) 0x400 8, .arr (.MWQ_STATUS_BLOCKED 0) 0x20 16, .arr (.MWQ_STATUS_OUTST 0) 0x20 16, .arr
    (.MWC_PI_PASS 0) 0x20 4, .arr (.MWC_PI_PI 0) 0x20 4, .arr (.MWC_STATUS_SCAN_STOP 0) 0x20 4, .arr (.MWC_STATUS_SPILL_CNT 0)
    0x20 4, .fld .MWQ_SYS_STATUS_FLUSH, .fld .MWQ_SYS_STATUS_CAL, .fld .SLU_STATUS_LED_FREE, .arr (.SLU_SEC_FREE_FREE 0) 0x4
    4, .arr (.SLU_SEC_RUN_RUN 0) 0x4 4] : List Regs) ++ ([.arr (.SLU_CRED_USED_USED 0) 0x4 32] : List Regs)) R) :
    OutFrame W R s (execMwdWrite n s) := by
  unfold execMwdWrite
  repeat' first
    | exact parts_sub hW rfl
    | with_reducible refine next_frame ?_
    | with_reducible assumption
    | with_reducible exact Frame.refl _ _ _
    | with_reducible refine State.runNext_frame ?_ ?_   ?_

theorem execWriteVerify_frame {W : List Part} {R : List Regs} {s : State} {n : ℕ} (hW : ∀ p ∈ ([.dram, .drawn, .mireIrq,
    .fenIrq, .seqs, .chans, .stg, .tide, .lev, .peat, .tus, .slu, .mq] : List Part), p ∈ W) (hR : RegsIn (alarmRegs ++
    haltRegs ++ ([.arr (.TIDE_ST_CBPC_CBPC 0) 0x4 8, .arr (.TUS_SEC_CTRL_PRI_SLOT 0) 0x40 4, .arr (.TUS_SEEK_CTRL_HINT 0) 0x20
    4, .grid (.TUS_SEEK_TGT_TRACK 0 0) 0x20 4 0x4 2, .grid (.TUS_SEEK_TGT_FRAC 0 0) 0x20 4 0x4 2, .arr (.REED_ST_CTRL_ABORT 0)
    0x100 8, .arr (.REED_ST_CTRL_FLUSH 0) 0x100 8, .arr (.REED_ST_CTRL_ENTRY 0) 0x100 8, .arr (.REED_ST_STATUS_RESTARTS 0)
    0x100 8, .arr (.REED_ST_PC_MARK_PC 0) 0x100 8, .arr (.REED_ST_PC_PC 0) 0x100 8, .arr (.REED_ST_THRESH_THRESH 0) 0x100 8] :
    List Regs) ++ ([.grid (.REED_OP_VALUE 0 0) 0x100 8 0x4 8, .grid (.REED_ST_G_VALUE 0 0) 0x100 8 0x4 16, .arr
    (.SDG_ST_CTRL_COMB 0) 0x400 8, .arr (.SDG_ST_CTRL_FORCE_TIMED 0) 0x400 8, .arr (.SDG_ST_CTRL_ALT_SET 0) 0x400 8, .arr
    (.SDG_ST_CTRL_STEP 0) 0x400 8, .arr (.SDG_ST_CTRL_MODE 0) 0x400 8, .arr (.SDG_ST_STATUS_CODE_ERR 0) 0x400 8, .arr
    (.SDG_CODE_C 0) 0x400 8, .arr (.SDG_CODE_META 0) 0x400 8, .arr (.SDG_SEAL_TRK_SURF 0) 0x400 8, .arr (.SDG_SEAL_TRK_TRACK
    0) 0x400 8] : List Regs) ++ ([.arr (.SDG_WR_CFG_MARKER 0) 0x400 8, .arr (.MWQ_STATUS_BLOCKED 0) 0x20 16, .arr
    (.MWQ_STATUS_OUTST 0) 0x20 16, .arr (.MWC_PI_PASS 0) 0x20 4, .arr (.MWC_PI_PI 0) 0x20 4, .arr (.MWC_STATUS_SCAN_STOP 0)
    0x20 4, .arr (.MWC_STATUS_SPILL_CNT 0) 0x20 4, .fld .MWQ_SYS_STATUS_FLUSH, .fld .MWQ_SYS_STATUS_CAL, .fld
    .SLU_STATUS_LED_FREE, .arr (.SLU_SEC_FREE_FREE 0) 0x4 4, .arr (.SLU_SEC_RUN_RUN 0) 0x4 4] : List Regs) ++ ([.arr
    (.SLU_CRED_USED_USED 0) 0x4 32] : List Regs)) R) :
    OutFrame W R s (execWriteVerify n s) := by
  unfold execWriteVerify
  repeat' first
    | exact parts_sub hW rfl
    | with_reducible refine next_frame ?_
    | with_reducible assumption
    | with_reducible exact Frame.refl _ _ _
    | with_reducible refine State.runNext_frame ?_ ?_   ?_

theorem execMwdVerify_frame {W : List Part} {R : List Regs} {s : State} {n : ℕ} (hW : ∀ p ∈ ([.dram, .drawn, .mireIrq,
    .fenIrq, .seqs, .chans, .stg, .tide, .lev, .peat, .tus, .slu, .mq] : List Part), p ∈ W) (hR : RegsIn (alarmRegs ++
    haltRegs ++ ([.arr (.TIDE_ST_CBPC_CBPC 0) 0x4 8, .arr (.TUS_SEC_CTRL_PRI_SLOT 0) 0x40 4, .arr (.TUS_SEEK_CTRL_HINT 0) 0x20
    4, .grid (.TUS_SEEK_TGT_TRACK 0 0) 0x20 4 0x4 2, .grid (.TUS_SEEK_TGT_FRAC 0 0) 0x20 4 0x4 2, .arr (.REED_ST_CTRL_ABORT 0)
    0x100 8, .arr (.REED_ST_CTRL_FLUSH 0) 0x100 8, .arr (.REED_ST_CTRL_ENTRY 0) 0x100 8, .arr (.REED_ST_STATUS_RESTARTS 0)
    0x100 8, .arr (.REED_ST_PC_MARK_PC 0) 0x100 8, .arr (.REED_ST_PC_PC 0) 0x100 8, .arr (.REED_ST_THRESH_THRESH 0) 0x100 8] :
    List Regs) ++ ([.grid (.REED_OP_VALUE 0 0) 0x100 8 0x4 8, .grid (.REED_ST_G_VALUE 0 0) 0x100 8 0x4 16, .arr
    (.SDG_ST_CTRL_COMB 0) 0x400 8, .arr (.SDG_ST_CTRL_FORCE_TIMED 0) 0x400 8, .arr (.SDG_ST_CTRL_ALT_SET 0) 0x400 8, .arr
    (.SDG_ST_CTRL_STEP 0) 0x400 8, .arr (.SDG_ST_CTRL_MODE 0) 0x400 8, .arr (.SDG_ST_STATUS_CODE_ERR 0) 0x400 8, .arr
    (.SDG_CODE_C 0) 0x400 8, .arr (.SDG_CODE_META 0) 0x400 8, .arr (.SDG_SEAL_TRK_SURF 0) 0x400 8, .arr (.SDG_SEAL_TRK_TRACK
    0) 0x400 8] : List Regs) ++ ([.arr (.SDG_WR_CFG_MARKER 0) 0x400 8, .arr (.MWQ_STATUS_BLOCKED 0) 0x20 16, .arr
    (.MWQ_STATUS_OUTST 0) 0x20 16, .arr (.MWC_PI_PASS 0) 0x20 4, .arr (.MWC_PI_PI 0) 0x20 4, .arr (.MWC_STATUS_SCAN_STOP 0)
    0x20 4, .arr (.MWC_STATUS_SPILL_CNT 0) 0x20 4, .fld .MWQ_SYS_STATUS_FLUSH, .fld .MWQ_SYS_STATUS_CAL, .fld
    .SLU_STATUS_LED_FREE, .arr (.SLU_SEC_FREE_FREE 0) 0x4 4, .arr (.SLU_SEC_RUN_RUN 0) 0x4 4] : List Regs) ++ ([.arr
    (.SLU_CRED_USED_USED 0) 0x4 32] : List Regs)) R) :
    OutFrame W R s (execMwdVerify n s) := by
  unfold execMwdVerify
  repeat' first
    | exact parts_sub hW rfl
    | with_reducible refine next_frame ?_
    | with_reducible assumption
    | with_reducible exact Frame.refl _ _ _
    | with_reducible refine State.runNext_frame ?_ ?_   ?_

theorem execReadAhead_frame {W : List Part} {R : List Regs} {s : State} {n : ℕ} (hW : ∀ p ∈ ([.dram, .drawn, .mireIrq,
    .fenIrq, .seqs, .chans, .stg, .tide, .lev, .peat, .tus, .slu, .mq] : List Part), p ∈ W) (hR : RegsIn (alarmRegs ++
    haltRegs ++ ([.arr (.TIDE_ST_CBPC_CBPC 0) 0x4 8, .arr (.TUS_SEC_CTRL_PRI_SLOT 0) 0x40 4, .arr (.TUS_SEEK_CTRL_HINT 0) 0x20
    4, .grid (.TUS_SEEK_TGT_TRACK 0 0) 0x20 4 0x4 2, .grid (.TUS_SEEK_TGT_FRAC 0 0) 0x20 4 0x4 2, .arr (.REED_ST_CTRL_ABORT 0)
    0x100 8, .arr (.REED_ST_CTRL_FLUSH 0) 0x100 8, .arr (.REED_ST_CTRL_ENTRY 0) 0x100 8, .arr (.REED_ST_STATUS_RESTARTS 0)
    0x100 8, .arr (.REED_ST_PC_MARK_PC 0) 0x100 8, .arr (.REED_ST_PC_PC 0) 0x100 8, .arr (.REED_ST_THRESH_THRESH 0) 0x100 8] :
    List Regs) ++ ([.grid (.REED_OP_VALUE 0 0) 0x100 8 0x4 8, .grid (.REED_ST_G_VALUE 0 0) 0x100 8 0x4 16, .arr
    (.SDG_ST_CTRL_COMB 0) 0x400 8, .arr (.SDG_ST_CTRL_FORCE_TIMED 0) 0x400 8, .arr (.SDG_ST_CTRL_ALT_SET 0) 0x400 8, .arr
    (.SDG_ST_CTRL_STEP 0) 0x400 8, .arr (.SDG_ST_CTRL_MODE 0) 0x400 8, .arr (.SDG_ST_STATUS_CODE_ERR 0) 0x400 8, .arr
    (.SDG_CODE_C 0) 0x400 8, .arr (.SDG_CODE_META 0) 0x400 8, .arr (.SDG_SEAL_TRK_SURF 0) 0x400 8, .arr (.SDG_SEAL_TRK_TRACK
    0) 0x400 8] : List Regs) ++ ([.arr (.SDG_WR_CFG_MARKER 0) 0x400 8, .arr (.MWQ_STATUS_BLOCKED 0) 0x20 16, .arr
    (.MWQ_STATUS_OUTST 0) 0x20 16, .arr (.MWC_PI_PASS 0) 0x20 4, .arr (.MWC_PI_PI 0) 0x20 4, .arr (.MWC_STATUS_SCAN_STOP 0)
    0x20 4, .arr (.MWC_STATUS_SPILL_CNT 0) 0x20 4, .fld .MWQ_SYS_STATUS_FLUSH, .fld .MWQ_SYS_STATUS_CAL, .fld
    .SLU_STATUS_LED_FREE, .arr (.SLU_SEC_FREE_FREE 0) 0x4 4, .arr (.SLU_SEC_RUN_RUN 0) 0x4 4] : List Regs) ++ ([.arr
    (.SLU_CRED_USED_USED 0) 0x4 32] : List Regs)) R) :
    OutFrame W R s (execReadAhead n s) := by
  unfold execReadAhead
  repeat' first
    | exact parts_sub hW rfl
    | with_reducible refine next_frame ?_
    | with_reducible assumption
    | with_reducible exact Frame.refl _ _ _
    | with_reducible refine State.runNext_frame ?_ ?_   ?_

theorem execFormatTracks_frame {W : List Part} {R : List Regs} {s : State} {n : ℕ} (hW : ∀ p ∈ ([.dram, .drawn, .mireIrq,
    .fenIrq, .seqs, .chans, .stg, .tide, .lev, .peat, .tus, .slu, .mq] : List Part), p ∈ W) (hR : RegsIn (alarmRegs ++
    haltRegs ++ ([.arr (.TIDE_ST_CBPC_CBPC 0) 0x4 8, .arr (.TUS_SEC_CTRL_PRI_SLOT 0) 0x40 4, .arr (.TUS_SEEK_CTRL_HINT 0) 0x20
    4, .grid (.TUS_SEEK_TGT_TRACK 0 0) 0x20 4 0x4 2, .grid (.TUS_SEEK_TGT_FRAC 0 0) 0x20 4 0x4 2, .arr (.REED_ST_CTRL_ABORT 0)
    0x100 8, .arr (.REED_ST_CTRL_FLUSH 0) 0x100 8, .arr (.REED_ST_CTRL_ENTRY 0) 0x100 8, .arr (.REED_ST_STATUS_RESTARTS 0)
    0x100 8, .arr (.REED_ST_PC_MARK_PC 0) 0x100 8, .arr (.REED_ST_PC_PC 0) 0x100 8, .arr (.REED_ST_THRESH_THRESH 0) 0x100 8] :
    List Regs) ++ ([.grid (.REED_OP_VALUE 0 0) 0x100 8 0x4 8, .grid (.REED_ST_G_VALUE 0 0) 0x100 8 0x4 16, .arr
    (.SDG_ST_CTRL_COMB 0) 0x400 8, .arr (.SDG_ST_CTRL_FORCE_TIMED 0) 0x400 8, .arr (.SDG_ST_CTRL_ALT_SET 0) 0x400 8, .arr
    (.SDG_ST_CTRL_STEP 0) 0x400 8, .arr (.SDG_ST_CTRL_MODE 0) 0x400 8, .arr (.SDG_ST_STATUS_CODE_ERR 0) 0x400 8, .arr
    (.SDG_CODE_C 0) 0x400 8, .arr (.SDG_CODE_META 0) 0x400 8, .arr (.SDG_SEAL_TRK_SURF 0) 0x400 8, .arr (.SDG_SEAL_TRK_TRACK
    0) 0x400 8] : List Regs) ++ ([.arr (.SDG_WR_CFG_MARKER 0) 0x400 8, .arr (.MWQ_STATUS_BLOCKED 0) 0x20 16, .arr
    (.MWQ_STATUS_OUTST 0) 0x20 16, .arr (.MWC_PI_PASS 0) 0x20 4, .arr (.MWC_PI_PI 0) 0x20 4, .arr (.MWC_STATUS_SCAN_STOP 0)
    0x20 4, .arr (.MWC_STATUS_SPILL_CNT 0) 0x20 4, .fld .MWQ_SYS_STATUS_FLUSH, .fld .MWQ_SYS_STATUS_CAL, .fld
    .SLU_STATUS_LED_FREE, .arr (.SLU_SEC_FREE_FREE 0) 0x4 4, .arr (.SLU_SEC_RUN_RUN 0) 0x4 4] : List Regs) ++ ([.arr
    (.SLU_CRED_USED_USED 0) 0x4 32] : List Regs)) R) :
    OutFrame W R s (execFormatTracks n s) := by
  unfold execFormatTracks
  repeat' first
    | exact parts_sub hW rfl
    | with_reducible refine next_frame ?_
    | with_reducible assumption
    | with_reducible exact Frame.refl _ _ _
    | with_reducible refine State.runNext_frame ?_ ?_   ?_

theorem execEraseBand_frame {W : List Part} {R : List Regs} {s : State} {n : ℕ} (hW : ∀ p ∈ ([.dram, .drawn, .mireIrq,
    .fenIrq, .seqs, .chans, .stg, .tide, .lev, .peat, .tus, .slu, .mq] : List Part), p ∈ W) (hR : RegsIn (alarmRegs ++
    haltRegs ++ ([.arr (.TIDE_ST_CBPC_CBPC 0) 0x4 8, .arr (.TUS_SEC_CTRL_PRI_SLOT 0) 0x40 4, .arr (.TUS_SEEK_CTRL_HINT 0) 0x20
    4, .grid (.TUS_SEEK_TGT_TRACK 0 0) 0x20 4 0x4 2, .grid (.TUS_SEEK_TGT_FRAC 0 0) 0x20 4 0x4 2, .arr (.REED_ST_CTRL_ABORT 0)
    0x100 8, .arr (.REED_ST_CTRL_FLUSH 0) 0x100 8, .arr (.REED_ST_CTRL_ENTRY 0) 0x100 8, .arr (.REED_ST_STATUS_RESTARTS 0)
    0x100 8, .arr (.REED_ST_PC_MARK_PC 0) 0x100 8, .arr (.REED_ST_PC_PC 0) 0x100 8, .arr (.REED_ST_THRESH_THRESH 0) 0x100 8] :
    List Regs) ++ ([.grid (.REED_OP_VALUE 0 0) 0x100 8 0x4 8, .grid (.REED_ST_G_VALUE 0 0) 0x100 8 0x4 16, .arr
    (.SDG_ST_CTRL_COMB 0) 0x400 8, .arr (.SDG_ST_CTRL_FORCE_TIMED 0) 0x400 8, .arr (.SDG_ST_CTRL_ALT_SET 0) 0x400 8, .arr
    (.SDG_ST_CTRL_STEP 0) 0x400 8, .arr (.SDG_ST_CTRL_MODE 0) 0x400 8, .arr (.SDG_ST_STATUS_CODE_ERR 0) 0x400 8, .arr
    (.SDG_CODE_C 0) 0x400 8, .arr (.SDG_CODE_META 0) 0x400 8, .arr (.SDG_SEAL_TRK_SURF 0) 0x400 8, .arr (.SDG_SEAL_TRK_TRACK
    0) 0x400 8] : List Regs) ++ ([.arr (.SDG_WR_CFG_MARKER 0) 0x400 8, .arr (.MWQ_STATUS_BLOCKED 0) 0x20 16, .arr
    (.MWQ_STATUS_OUTST 0) 0x20 16, .arr (.MWC_PI_PASS 0) 0x20 4, .arr (.MWC_PI_PI 0) 0x20 4, .arr (.MWC_STATUS_SCAN_STOP 0)
    0x20 4, .arr (.MWC_STATUS_SPILL_CNT 0) 0x20 4, .fld .MWQ_SYS_STATUS_FLUSH, .fld .MWQ_SYS_STATUS_CAL, .fld
    .SLU_STATUS_LED_FREE, .arr (.SLU_SEC_FREE_FREE 0) 0x4 4, .arr (.SLU_SEC_RUN_RUN 0) 0x4 4] : List Regs) ++ ([.arr
    (.SLU_CRED_USED_USED 0) 0x4 32] : List Regs)) R) :
    OutFrame W R s (execEraseBand n s) := by
  unfold execEraseBand
  repeat' first
    | exact parts_sub hW rfl
    | with_reducible refine next_frame ?_
    | with_reducible assumption
    | with_reducible exact Frame.refl _ _ _
    | with_reducible refine State.runNext_frame ?_ ?_   ?_

theorem execSeekHint_frame {W : List Part} {R : List Regs} {s : State} {n : ℕ} (hW : ∀ p ∈ ([.tus, .mq] : List Part), p ∈ W)
    (hR : RegsIn (([.arr (.TUS_SEEK_CTRL_HINT 0) 0x20 4] : List Regs)) R) :
    OutFrame W R s (execSeekHint n s) := by
  unfold execSeekHint
  repeat' first
    | exact parts_sub hW rfl
    | with_reducible refine next_frame ?_
    | with_reducible exact Frame.refl _ _ _
    | with_reducible refine ite_frame (fun _ => ?_) (fun _ => ?_)
    | with_reducible refine State.latchSeek_frame ?_    ?_
    | with_reducible refine State.updMwd_frame ?_    ?_
    | with_reducible refine State.set_frame ?_ ?_
    | exact cov_arr (f := .TUS_SEEK_CTRL_HINT 0) (k := 0x20) (m := 4) hR (by decide +kernel) (by decide) rfl
    | split

theorem State.abandonHint_frame {W : List Part} {R : List Regs} {s0 s : State} {k : ℕ} (hW : ∀ p ∈ ([.dram, .drawn, .mireIrq,
    .fenIrq, .seqs, .chans, .stg, .lev, .peat, .tus, .slu, .mq] : List Part), p ∈ W) (hR : RegsIn (alarmRegs ++ haltRegs ++
    ([.arr (.MWQ_STATUS_BLOCKED 0) 0x20 16, .arr (.MWQ_STATUS_OUTST 0) 0x20 16, .arr (.MWC_PI_PASS 0) 0x20 4, .arr (.MWC_PI_PI
    0) 0x20 4, .arr (.MWC_STATUS_SCAN_STOP 0) 0x20 4, .arr (.MWC_STATUS_SPILL_CNT 0) 0x20 4, .fld .MWQ_SYS_STATUS_FLUSH, .fld
    .MWQ_SYS_STATUS_CAL, .fld .SLU_STATUS_LED_FREE, .arr (.SLU_SEC_FREE_FREE 0) 0x4 4, .arr (.SLU_SEC_RUN_RUN 0) 0x4 4, .arr
    (.SLU_CRED_USED_USED 0) 0x4 32] : List Regs)) R) (h : Frame W R s0 s) :
    Frame W R s0 (State.abandonHint s k) := by
  unfold State.abandonHint
  repeat' first
    | with_reducible exact h
    | with_reducible assumption
    | exact parts_sub hW rfl
    | with_reducible refine State.complete_frame ?_ ?_   ?_
    | with_reducible refine State.dropHint_frame ?_    ?_
    | split

theorem execHintTimeout_frame {W : List Part} {R : List Regs} {s : State} {k : ℕ} (hW : ∀ p ∈ ([.dram, .drawn, .mireIrq,
    .fenIrq, .seqs, .chans, .stg, .lev, .peat, .tus, .slu, .mq] : List Part), p ∈ W) (hR : RegsIn (alarmRegs ++ haltRegs ++
    ([.arr (.MWQ_STATUS_BLOCKED 0) 0x20 16, .arr (.MWQ_STATUS_OUTST 0) 0x20 16, .arr (.MWC_PI_PASS 0) 0x20 4, .arr (.MWC_PI_PI
    0) 0x20 4, .arr (.MWC_STATUS_SCAN_STOP 0) 0x20 4, .arr (.MWC_STATUS_SPILL_CNT 0) 0x20 4, .fld .MWQ_SYS_STATUS_FLUSH, .fld
    .MWQ_SYS_STATUS_CAL, .fld .SLU_STATUS_LED_FREE, .arr (.SLU_SEC_FREE_FREE 0) 0x4 4, .arr (.SLU_SEC_RUN_RUN 0) 0x4 4, .arr
    (.SLU_CRED_USED_USED 0) 0x4 32] : List Regs)) R) :
    OutFrame W R s (execHintTimeout k s) := by
  unfold execHintTimeout
  repeat' first
    | exact parts_sub hW rfl
    | with_reducible refine next_frame ?_
    | with_reducible assumption
    | with_reducible exact Frame.refl _ _ _
    | with_reducible refine ite_frame (fun _ => ?_) (fun _ => ?_)
    | with_reducible refine State.abandonHint_frame ?_ ?_   ?_
    | split

theorem execSeekSettled_frame {W : List Part} {R : List Regs} {s : State} {k : ℕ} (hW : ∀ p ∈ ([.dram, .drawn, .mireIrq,
    .fenIrq, .seqs, .chans, .stg, .lev, .peat, .tus, .slu, .mq] : List Part), p ∈ W) (hR : RegsIn (alarmRegs ++ haltRegs ++
    ([.arr (.TUS_SEC_STATUS_REGION_PEND 0) 0x40 4, .arr (.TUS_SEEK_STATUS_SEEKING 0) 0x20 4, .arr
    (.TUS_SEEK_STATUS_HINT_ACTIVE 0) 0x20 4, .arr (.TUS_SEEK_STATUS_SETTLED 0) 0x20 4, .arr (.MWQ_STATUS_BLOCKED 0) 0x20 16,
    .arr (.MWQ_STATUS_OUTST 0) 0x20 16, .arr (.MWC_PI_PASS 0) 0x20 4, .arr (.MWC_PI_PI 0) 0x20 4, .arr (.MWC_STATUS_SCAN_STOP
    0) 0x20 4, .arr (.MWC_STATUS_SPILL_CNT 0) 0x20 4, .fld .MWQ_SYS_STATUS_FLUSH, .fld .MWQ_SYS_STATUS_CAL] : List Regs) ++
    ([.fld .SLU_STATUS_LED_FREE, .arr (.SLU_SEC_FREE_FREE 0) 0x4 4, .arr (.SLU_SEC_RUN_RUN 0) 0x4 4, .arr (.SLU_CRED_USED_USED
    0) 0x4 32] : List Regs)) R) :
    OutFrame W R s (execSeekSettled k s) := by
  unfold execSeekSettled
  repeat' first
    | (extract_lets +onlyGivenNames x; refine have_frame (x := x) ?_ (fun hx => ?_); (on_goal 2 => (clear_value x; revert x; intro _ _)); (on_goal 1 => (unfold x; clear x)))
    | (extract_lets +onlyGivenNames y; clear_value y; revert y; intro _)
    | exact parts_sub hW rfl
    | with_reducible refine next_frame ?_
    | with_reducible assumption
    | exact regs_sub hR (by decide +kernel)
    | with_reducible exact Frame.refl _ _ _
    | with_reducible refine State.when_frame ?_ (fun t ht => ?_)
    | with_reducible refine State.complete_frame ?_ ?_   ?_
    | with_reducible refine State.settleSeek_frame ?_ ?_   ?_
    | split

theorem State.takeOver_frame {W : List Part} {R : List Regs} {s0 s : State} {k : ℕ} {old : Seek} (hW : ∀ p ∈ ([.dram, .drawn,
    .mireIrq, .fenIrq, .seqs, .chans, .stg, .lev, .peat, .slu, .mq] : List Part), p ∈ W) (hR : RegsIn (alarmRegs ++ haltRegs
    ++ ([.arr (.MWQ_STATUS_BLOCKED 0) 0x20 16, .arr (.MWQ_STATUS_OUTST 0) 0x20 16, .arr (.MWC_PI_PASS 0) 0x20 4, .arr
    (.MWC_PI_PI 0) 0x20 4, .arr (.MWC_STATUS_SCAN_STOP 0) 0x20 4, .arr (.MWC_STATUS_SPILL_CNT 0) 0x20 4, .fld
    .MWQ_SYS_STATUS_FLUSH, .fld .MWQ_SYS_STATUS_CAL, .fld .SLU_STATUS_LED_FREE, .arr (.SLU_SEC_FREE_FREE 0) 0x4 4, .arr
    (.SLU_SEC_RUN_RUN 0) 0x4 4, .arr (.SLU_CRED_USED_USED 0) 0x4 32] : List Regs)) R) (h : Frame W R s0 s) :
    Frame W R s0 (State.takeOver s k old) := by
  unfold State.takeOver
  repeat' first
    | with_reducible exact h
    | with_reducible assumption
    | (extract_lets +onlyGivenNames y; clear_value y; revert y; intro _)
    | with_reducible refine State.complete_frame ?_ ?_   ?_
    | split

theorem execInnerLoopTick_frame {W : List Part} {R : List Regs} {s : State} {x : Strobe} (hW : ∀ p ∈ ([.dram, .drawn,
    .mireIrq, .fenIrq, .seqs, .chans, .shockQuiet, .stg, .tide, .lev, .peat, .withy, .tus, .links, .slu, .mq, .aq] : List
    Part), p ∈ W) (hR : RegsIn (alarmRegs ++ haltRegs ++ ([.fld ⟨0x4E000000, 0, 32⟩, .arr (.WTH_VCM_STATUS_IMEAS 0) 0x4 4,
    .arr (.WTH_MA_STATUS_VOUT 0) 0x4 8, .arr (.WTH_MA_STATUS_STRAIN 0) 0x4 8, .fld .TUS_STATUS_XC_PENDING, .fld
    .TUS_STATUS_NUM_SAT, .arr (.TUS_SEC_STATUS_REGION 0) 0x40 4, .arr (.TUS_SEC_STATUS_REGION_PEND 0) 0x40 4, .arr
    (.TUS_SEC_STATUS_CAP_DONE 0) 0x40 4, .arr (.TUS_SEC_STATUS_SAT 0) 0x40 4, .arr (.TUS_SEC_STATUS_WINH 0) 0x40 4, .arr
    (.TUS_SEC_STATUS_MISS1 0) 0x40 4] : List Regs) ++ ([.arr (.TUS_SEC_STATUS_MISS0 0) 0x40 4, .arr (.TUS_SAT_CNT_COUNT 0)
    0x40 4, .arr (.TUS_SEC_INFO_AGE1 0) 0x40 4, .arr (.TUS_SEC_INFO_AGE0 0) 0x40 4, .arr (.TUS_SEC_INFO_CAP_EXP 0) 0x40 4,
    .grid (.TUS_CAP_M 0 0) 0x40 4 0x4 8, .fld .TUS_SPN_REF_REF, .arr (.TUS_SEEK_STATUS_SEEK_SEQ 0) 0x20 4, .arr
    (.TUS_SEEK_STATUS_SEEKING 0) 0x20 4, .arr (.TUS_SEEK_STATUS_PHASE 0) 0x20 4, .arr (.TUS_SEEK_STATUS_HINT_REJ 0) 0x20 4,
    .arr (.TUS_SEEK_STATUS_PARAM_ERR 0) 0x20 4] : List Regs) ++ ([.arr (.TUS_SEEK_STATUS_HINT_ACTIVE 0) 0x20 4, .arr
    (.TUS_SEEK_STATUS_SETTLED 0) 0x20 4, .fld .SDG_WF_STATUS_SHOCK_ACTIVE, .arr (.MWQ_STATUS_BLOCKED 0) 0x20 16, .arr
    (.MWQ_STATUS_OUTST 0) 0x20 16, .arr (.MWC_PI_PASS 0) 0x20 4, .arr (.MWC_PI_PI 0) 0x20 4, .arr (.MWC_STATUS_SCAN_STOP 0)
    0x20 4, .arr (.MWC_STATUS_SPILL_CNT 0) 0x20 4, .fld .MWQ_SYS_STATUS_FLUSH, .fld .MWQ_SYS_STATUS_CAL, .fld
    .SLU_STATUS_LED_FREE] : List Regs) ++ ([.arr (.SLU_SEC_FREE_FREE 0) 0x4 4, .arr (.SLU_SEC_RUN_RUN 0) 0x4 4, .arr
    (.SLU_CRED_USED_USED 0) 0x4 32] : List Regs)) R) :
    OutFrame W R s (execInnerLoopTick x s) := by
  unfold execInnerLoopTick
  repeat' first
    | (extract_lets +onlyGivenNames x; refine have_out (x := x) ?_ (fun hx => ?_); (on_goal 2 => (clear_value x; revert x; intro _ _)); (on_goal 1 => (unfold x; clear x)))
    | exact parts_sub hW rfl
    | with_reducible refine next_frame ?_
    | with_reducible assumption
    | exact regs_sub hR (by decide +kernel)
    | with_reducible exact Frame.refl _ _ _
    | with_reducible refine State.when_frame ?_ (fun t ht => ?_)
    | with_reducible refine State.forN_frame ?_ (fun i t ht => ?_)
    | with_reducible refine State.takeOver_frame ?_ ?_   ?_
    | with_reducible refine State.mwqSync_frame  ?_   ?_
    | with_reducible refine State.tick_frame ?_ ?_   ?_

theorem State.writeAbandon_frame {W : List Part} {R : List Regs} {s0 s : State} {k : ℕ} (hW : ∀ p ∈ ([.dram, .drawn, .mireIrq,
    .fenIrq, .seqs, .chans, .stg, .lev, .peat, .tus, .slu, .mq] : List Part), p ∈ W) (hR : RegsIn (alarmRegs ++ haltRegs ++
    ([.arr (.MWQ_STATUS_BLOCKED 0) 0x20 16, .arr (.MWQ_STATUS_OUTST 0) 0x20 16, .arr (.MWC_PI_PASS 0) 0x20 4, .arr (.MWC_PI_PI
    0) 0x20 4, .arr (.MWC_STATUS_SCAN_STOP 0) 0x20 4, .arr (.MWC_STATUS_SPILL_CNT 0) 0x20 4, .fld .MWQ_SYS_STATUS_FLUSH, .fld
    .MWQ_SYS_STATUS_CAL, .fld .SLU_STATUS_LED_FREE, .arr (.SLU_SEC_FREE_FREE 0) 0x4 4, .arr (.SLU_SEC_RUN_RUN 0) 0x4 4, .arr
    (.SLU_CRED_USED_USED 0) 0x4 32] : List Regs)) R) (h : Frame W R s0 s) :
    Frame W R s0 (State.writeAbandon s k) := by
  unfold State.writeAbandon
  repeat' first
    | with_reducible exact h
    | with_reducible assumption
    | exact parts_sub hW rfl
    | with_reducible refine State.when_frame ?_ (fun t ht => ?_)
    | with_reducible refine State.latchSeek_frame ?_    ?_
    | with_reducible refine State.abandonHint_frame ?_ ?_   ?_

theorem execSeekGo_frame {W : List Part} {R : List Regs} {s : State} {k : ℕ} {hint : Bool} {abandon : Bool} (hW : ∀ p ∈
    ([.dram, .bus, .drawn, .mireIrq, .fenIrq, .seqs, .chans, .stg, .lev, .peat, .tus, .slu, .mq] : List Part), p ∈ W) (hR :
    RegsIn (alarmRegs ++ haltRegs ++ ([.arr (.TUS_SEEK_CTRL_HINT 0) 0x20 4, .arr (.MWQ_STATUS_BLOCKED 0) 0x20 16, .arr
    (.MWQ_STATUS_OUTST 0) 0x20 16, .arr (.MWC_PI_PASS 0) 0x20 4, .arr (.MWC_PI_PI 0) 0x20 4, .arr (.MWC_STATUS_SCAN_STOP 0)
    0x20 4, .arr (.MWC_STATUS_SPILL_CNT 0) 0x20 4, .fld .MWQ_SYS_STATUS_FLUSH, .fld .MWQ_SYS_STATUS_CAL, .fld
    .SLU_STATUS_LED_FREE, .arr (.SLU_SEC_FREE_FREE 0) 0x4 4, .arr (.SLU_SEC_RUN_RUN 0) 0x4 4] : List Regs) ++ ([.arr
    (.SLU_CRED_USED_USED 0) 0x4 32] : List Regs)) R) :
    OutFrame W R s (execSeekGo k hint abandon s) := by
  unfold execSeekGo
  repeat' first
    | (extract_lets +onlyGivenNames x; refine have_out (x := x) ?_ (fun hx => ?_); (on_goal 2 => (clear_value x; revert x; intro _ _)); (on_goal 1 => (unfold x; clear x)))
    | exact parts_sub hW rfl
    | with_reducible refine next_frame ?_
    | with_reducible assumption
    | exact regs_sub hR (by decide +kernel)
    | with_reducible exact Frame.refl _ _ _
    | with_reducible refine ite_frame (fun _ => ?_) (fun _ => ?_)
    | with_reducible refine State.writeAbandon_frame ?_ ?_   ?_
    | with_reducible refine State.setIf_frame ?_ ?_
    | with_reducible refine State.latchSeek_frame ?_    ?_
    | with_reducible refine State.ack_frame ?_    ?_
    | exact cov_arr (f := .TUS_SEEK_CTRL_HINT 0) (k := 0x20) (m := 4) hR (by decide +kernel) (by decide) rfl

theorem execSeekAbandon_frame {W : List Part} {R : List Regs} {s : State} {k : ℕ} (hW : ∀ p ∈ ([.dram, .bus, .drawn, .mireIrq,
    .fenIrq, .seqs, .chans, .stg, .lev, .peat, .tus, .slu, .mq] : List Part), p ∈ W) (hR : RegsIn (alarmRegs ++ haltRegs ++
    ([.arr (.MWQ_STATUS_BLOCKED 0) 0x20 16, .arr (.MWQ_STATUS_OUTST 0) 0x20 16, .arr (.MWC_PI_PASS 0) 0x20 4, .arr (.MWC_PI_PI
    0) 0x20 4, .arr (.MWC_STATUS_SCAN_STOP 0) 0x20 4, .arr (.MWC_STATUS_SPILL_CNT 0) 0x20 4, .fld .MWQ_SYS_STATUS_FLUSH, .fld
    .MWQ_SYS_STATUS_CAL, .fld .SLU_STATUS_LED_FREE, .arr (.SLU_SEC_FREE_FREE 0) 0x4 4, .arr (.SLU_SEC_RUN_RUN 0) 0x4 4, .arr
    (.SLU_CRED_USED_USED 0) 0x4 32] : List Regs)) R) :
    OutFrame W R s (execSeekAbandon k s) := by
  unfold execSeekAbandon
  repeat' first
    | exact parts_sub hW rfl
    | with_reducible refine next_frame ?_
    | with_reducible assumption
    | with_reducible exact Frame.refl _ _ _
    | with_reducible refine State.writeAbandon_frame ?_ ?_   ?_
    | with_reducible refine State.ack_frame ?_    ?_

theorem State.collect_frame {W : List Part} {R : List Regs} {s0 s : State} {n : ℕ} (hW : ∀ p ∈ ([.mireIrq, .seqs, .chans] :
    List Part), p ∈ W) (hR : RegsIn (([.fld .SDG_STATUS_RES_IRQ, .fld .SDG_STATUS_PENDING, .arr (.SDG_ST_STATUS_RES_CNT 0)
    0x400 8, .arr (.SDG_ST_STATUS_PARK_USED 0) 0x400 8, .arr (.SDG_ST_STATUS_PENDING_CNT 0) 0x400 8, .arr
    (.REED_ST_STATUS_EVT_CNT 0) 0x100 8] : List Regs)) R) (h : Frame W R s0 s) :
    Frame W R s0 (State.collect s n) := by
  unfold State.collect
  repeat' first
    | with_reducible exact h
    | with_reducible assumption
    | (extract_lets +onlyGivenNames x; refine have_frame (x := x) ?_ (fun hx => ?_); (on_goal 2 => (clear_value x; revert x; intro _ _)); (on_goal 1 => (unfold x; clear x)))
    | exact parts_sub hW rfl
    | exact regs_sub hR (by decide +kernel)
    | with_reducible refine State.updSeq_frame ?_    ?_
    | with_reducible refine State.updChan_frame ?_    ?_
    | with_reducible refine State.reedCount_frame  ?_   ?_
    | with_reducible refine State.sdgStatus_frame ?_ ?_   ?_

theorem State.programRecord_frame {W : List Part} {R : List Regs} {s0 s : State} {n : ℕ} {d : Mwd} (hW : ∀ p ∈ ([.mireIrq,
    .fenIrq, .seqs, .chans, .stg, .lev, .peat] : List Part), p ∈ W) (hR : RegsIn (alarmRegs ++ haltRegs) R) (h : Frame W R s0
    s) :
    Frame W R s0 (State.programRecord s n d) := by
  unfold State.programRecord
  repeat' first
    | with_reducible exact h
    | with_reducible assumption
    | with_reducible refine State.peatRecord_frame ?_ ?_   ?_

theorem State.finish_frame {W : List Part} {R : List Regs} {s0 s : State} {d : Mwd} {z : Config.ZoneRow} (hW : ∀ p ∈ ([.dram,
    .drawn, .mireIrq, .fenIrq, .seqs, .chans, .stg, .lev, .peat, .slu, .mq] : List Part), p ∈ W) (hR : RegsIn (alarmRegs ++
    haltRegs ++ ([.arr (.MWQ_STATUS_BLOCKED 0) 0x20 16, .arr (.MWQ_STATUS_OUTST 0) 0x20 16, .arr (.MWC_PI_PASS 0) 0x20 4, .arr
    (.MWC_PI_PI 0) 0x20 4, .arr (.MWC_STATUS_SCAN_STOP 0) 0x20 4, .arr (.MWC_STATUS_SPILL_CNT 0) 0x20 4, .fld
    .MWQ_SYS_STATUS_FLUSH, .fld .MWQ_SYS_STATUS_CAL, .fld .SLU_STATUS_LED_FREE, .arr (.SLU_SEC_FREE_FREE 0) 0x4 4, .arr
    (.SLU_SEC_RUN_RUN 0) 0x4 4, .arr (.SLU_CRED_USED_USED 0) 0x4 32] : List Regs)) R) (h : Frame W R s0 s) :
    Frame W R s0 (State.finish s d z) := by
  unfold State.finish
  repeat' first
    | with_reducible exact h
    | with_reducible assumption
    | with_reducible refine ite_frame (fun _ => ?_) (fun _ => ?_)
    | with_reducible refine State.complete_frame ?_ ?_   ?_
    | with_reducible refine State.aheadEnd_frame ?_ ?_   ?_

theorem State.goOn_frame {W : List Part} {R : List Regs} {s0 s : State} {d : Mwd} {z : Config.ZoneRow} (hW : ∀ p ∈ ([.dram,
    .drawn, .mireIrq, .fenIrq, .seqs, .chans, .stg, .lev, .peat, .slu, .mq] : List Part), p ∈ W) (hR : RegsIn (alarmRegs ++
    haltRegs ++ ([.arr (.MWQ_STATUS_BLOCKED 0) 0x20 16, .arr (.MWQ_STATUS_OUTST 0) 0x20 16, .arr (.MWC_PI_PASS 0) 0x20 4, .arr
    (.MWC_PI_PI 0) 0x20 4, .arr (.MWC_STATUS_SCAN_STOP 0) 0x20 4, .arr (.MWC_STATUS_SPILL_CNT 0) 0x20 4, .fld
    .MWQ_SYS_STATUS_FLUSH, .fld .MWQ_SYS_STATUS_CAL, .fld .SLU_STATUS_LED_FREE, .arr (.SLU_SEC_FREE_FREE 0) 0x4 4, .arr
    (.SLU_SEC_RUN_RUN 0) 0x4 4, .arr (.SLU_CRED_USED_USED 0) 0x4 32] : List Regs)) R) (h : Frame W R s0 s) :
    Frame W R s0 (State.goOn s d z) := by
  unfold State.goOn
  repeat' first
    | with_reducible exact h
    | with_reducible assumption
    | (extract_lets +onlyGivenNames x; refine have_frame (x := x) ?_ (fun hx => ?_); (on_goal 2 => (clear_value x; revert x; intro _ _)); (on_goal 1 => (unfold x; clear x)))
    | (extract_lets +onlyGivenNames y; clear_value y; revert y; intro _)
    | exact parts_sub hW rfl
    | with_reducible refine ite_frame (fun _ => ?_) (fun _ => ?_)
    | with_reducible refine State.finish_frame ?_ ?_   ?_
    | with_reducible refine State.complete_frame ?_ ?_   ?_
    | with_reducible refine State.updMwd_frame ?_    ?_

theorem State.dropSum_frame {W : List Part} {R : List Regs} {s0 s : State} {n : ℕ} (hW : ∀ p ∈ ([.mireIrq, .chans] : List
    Part), p ∈ W) (hR : RegsIn (([.fld .SDG_STATUS_RES_IRQ, .fld .SDG_STATUS_PENDING, .arr (.SDG_ST_STATUS_RES_CNT 0) 0x400 8,
    .arr (.SDG_ST_STATUS_PARK_USED 0) 0x400 8, .arr (.SDG_ST_STATUS_PENDING_CNT 0) 0x400 8] : List Regs)) R) (h : Frame W R s0
    s) :
    Frame W R s0 (State.dropSum s n) := by
  unfold State.dropSum
  repeat' first
    | with_reducible exact h
    | with_reducible assumption
    | exact parts_sub hW rfl
    | with_reducible refine State.updChan_frame ?_    ?_
    | with_reducible refine State.sdgStatus_frame ?_ ?_   ?_

theorem State.ladderTake_frame {W : List Part} {R : List Regs} {s0 s : State} {n : ℕ} {d : Mwd} {z : Config.ZoneRow} {res :
    List SectorResult} (hW : ∀ p ∈ ([.dram, .drawn, .mireIrq, .fenIrq, .seqs, .chans, .stg, .lev, .peat, .slu, .mq] : List
    Part), p ∈ W) (hR : RegsIn (alarmRegs ++ haltRegs ++ ([.arr (.MWQ_STATUS_BLOCKED 0) 0x20 16, .arr (.MWQ_STATUS_OUTST 0)
    0x20 16, .arr (.MWC_PI_PASS 0) 0x20 4, .arr (.MWC_PI_PI 0) 0x20 4, .arr (.MWC_STATUS_SCAN_STOP 0) 0x20 4, .arr
    (.MWC_STATUS_SPILL_CNT 0) 0x20 4, .fld .MWQ_SYS_STATUS_FLUSH, .fld .MWQ_SYS_STATUS_CAL, .fld .SLU_STATUS_LED_FREE, .arr
    (.SLU_SEC_FREE_FREE 0) 0x4 4, .arr (.SLU_SEC_RUN_RUN 0) 0x4 4, .arr (.SLU_CRED_USED_USED 0) 0x4 32] : List Regs)) R) (h :
    Frame W R s0 s) :
    Frame W R s0 (State.ladderTake s n d z res) := by
  unfold State.ladderTake
  repeat' first
    | with_reducible exact h
    | with_reducible assumption
    | (extract_lets +onlyGivenNames f; have := fun a => f a; clear this; unfold f; clear f)
    | (extract_lets +onlyGivenNames y; clear_value y; revert y; intro _)
    | exact parts_sub hW rfl
    | exact regs_sub hR (by decide +kernel)
    | with_reducible refine State.when_frame ?_ (fun t ht => ?_)
    | with_reducible refine foldl_pair_frame ?_ (fun p x hp => ?_)
    | with_reducible refine State.goOn_frame ?_ ?_   ?_
    | with_reducible refine State.telAdd_frame ?_    ?_
    | with_reducible refine State.dropSum_frame ?_ ?_   ?_
    | split

theorem State.endOp_frame {W : List Part} {R : List Regs} {s0 s : State} {n : ℕ} {d : Mwd} {z : Config.ZoneRow} {res : List
    SectorResult} {vfy : List VfyEntry} {ovf : Bool} (hW : ∀ p ∈ ([.dram, .drawn, .mireIrq, .fenIrq, .seqs, .chans, .stg,
    .lev, .peat, .slu, .mq] : List Part), p ∈ W) (hR : RegsIn (alarmRegs ++ haltRegs ++ ([.arr (.MWQ_STATUS_BLOCKED 0) 0x20
    16, .arr (.MWQ_STATUS_OUTST 0) 0x20 16, .arr (.MWC_PI_PASS 0) 0x20 4, .arr (.MWC_PI_PI 0) 0x20 4, .arr
    (.MWC_STATUS_SCAN_STOP 0) 0x20 4, .arr (.MWC_STATUS_SPILL_CNT 0) 0x20 4, .fld .MWQ_SYS_STATUS_FLUSH, .fld
    .MWQ_SYS_STATUS_CAL, .fld .SLU_STATUS_LED_FREE, .arr (.SLU_SEC_FREE_FREE 0) 0x4 4, .arr (.SLU_SEC_RUN_RUN 0) 0x4 4, .arr
    (.SLU_CRED_USED_USED 0) 0x4 32] : List Regs)) R) (h : Frame W R s0 s) :
    Frame W R s0 (State.endOp s n d z res vfy ovf) := by
  unfold State.endOp
  repeat' first
    | with_reducible exact h
    | with_reducible assumption
    | (extract_lets +onlyGivenNames f; have := fun a => f a; clear this; unfold f; clear f)
    | (extract_lets +onlyGivenNames y; clear_value y; revert y; intro _)
    | exact parts_sub hW rfl
    | exact regs_sub hR (by decide +kernel)
    | with_reducible refine ite_frame (fun _ => ?_) (fun _ => ?_)
    | with_reducible refine State.ladderTake_frame ?_ ?_   ?_
    | with_reducible refine State.programRecord_frame ?_ ?_   ?_
    | with_reducible refine State.goOn_frame ?_ ?_   ?_
    | with_reducible refine State.complete_frame ?_ ?_   ?_
    | with_reducible refine State.faultEnd_frame ?_ ?_   ?_
    | with_reducible refine State.updMwd_frame ?_    ?_
    | split

theorem execOperationEnd_frame {W : List Part} {R : List Regs} {s : State} {n : ℕ} (hW : ∀ p ∈ ([.dram, .drawn, .mireIrq,
    .fenIrq, .seqs, .chans, .stg, .lev, .peat, .slu, .mq] : List Part), p ∈ W) (hR : RegsIn (alarmRegs ++ haltRegs ++ ([.arr
    (.REED_ST_STATUS_EVT_CNT 0) 0x100 8, .arr (.MWQ_STATUS_BLOCKED 0) 0x20 16, .arr (.MWQ_STATUS_OUTST 0) 0x20 16, .arr
    (.MWC_PI_PASS 0) 0x20 4, .arr (.MWC_PI_PI 0) 0x20 4, .arr (.MWC_STATUS_SCAN_STOP 0) 0x20 4, .arr (.MWC_STATUS_SPILL_CNT 0)
    0x20 4, .fld .MWQ_SYS_STATUS_FLUSH, .fld .MWQ_SYS_STATUS_CAL, .fld .SLU_STATUS_LED_FREE, .arr (.SLU_SEC_FREE_FREE 0) 0x4
    4, .arr (.SLU_SEC_RUN_RUN 0) 0x4 4] : List Regs) ++ ([.arr (.SLU_CRED_USED_USED 0) 0x4 32] : List Regs)) R) :
    OutFrame W R s (execOperationEnd n s) := by
  unfold execOperationEnd
  repeat' first
    | (extract_lets +onlyGivenNames x; refine have_out (x := x) ?_ (fun hx => ?_); (on_goal 2 => (clear_value x; revert x; intro _ _)); (on_goal 1 => (unfold x; clear x)))
    | (extract_lets +onlyGivenNames y; clear_value y; revert y; intro _)
    | exact parts_sub hW rfl
    | with_reducible refine next_frame ?_
    | with_reducible refine ite_out (fun _ => ?_) (fun _ => ?_)
    | with_reducible assumption
    | exact regs_sub hR (by decide +kernel)
    | with_reducible exact Frame.refl _ _ _
    | with_reducible refine State.when_frame ?_ (fun t ht => ?_)
    | with_reducible refine State.endOp_frame ?_ ?_   ?_
    | with_reducible refine State.collect_frame ?_ ?_   ?_
    | with_reducible refine State.mwqSync_frame  ?_   ?_
    | with_reducible refine State.served_frame ?_    ?_
    | split

theorem State.ladderStart_frame {W : List Part} {R : List Regs} {s0 s : State} {n : ℕ} {d : Mwd} {zone : ℕ} {z :
    Config.ZoneRow} {r : LadderRead} (hW : ∀ p ∈ ([.mireIrq, .fenIrq, .seqs, .chans, .stg, .tide, .lev, .peat, .tus, .mq] :
    List Part), p ∈ W) (hR : RegsIn (alarmRegs ++ haltRegs ++ ([.arr (.TIDE_ST_CBPC_CBPC 0) 0x4 8, .arr
    (.TUS_SEC_CTRL_PRI_SLOT 0) 0x40 4, .arr (.TUS_SEEK_CTRL_HINT 0) 0x20 4, .grid (.TUS_SEEK_TGT_TRACK 0 0) 0x20 4 0x4 2,
    .grid (.TUS_SEEK_TGT_FRAC 0 0) 0x20 4 0x4 2, .arr (.REED_ST_CTRL_ABORT 0) 0x100 8, .arr (.REED_ST_CTRL_FLUSH 0) 0x100 8,
    .arr (.REED_ST_CTRL_ENTRY 0) 0x100 8, .arr (.REED_ST_STATUS_RESTARTS 0) 0x100 8, .arr (.REED_ST_PC_MARK_PC 0) 0x100 8,
    .arr (.REED_ST_PC_PC 0) 0x100 8, .arr (.REED_ST_THRESH_THRESH 0) 0x100 8] : List Regs) ++ ([.grid (.REED_OP_VALUE 0 0)
    0x100 8 0x4 8, .grid (.REED_ST_G_VALUE 0 0) 0x100 8 0x4 16, .arr (.SDG_ST_CTRL_COMB 0) 0x400 8, .arr
    (.SDG_ST_CTRL_FORCE_TIMED 0) 0x400 8, .arr (.SDG_ST_CTRL_ALT_SET 0) 0x400 8, .arr (.SDG_ST_CTRL_STEP 0) 0x400 8, .arr
    (.SDG_ST_CTRL_MODE 0) 0x400 8, .arr (.SDG_ST_STATUS_CODE_ERR 0) 0x400 8, .arr (.SDG_CODE_C 0) 0x400 8, .arr
    (.SDG_CODE_META 0) 0x400 8, .arr (.SDG_SEAL_TRK_SURF 0) 0x400 8, .arr (.SDG_SEAL_TRK_TRACK 0) 0x400 8] : List Regs) ++
    ([.arr (.SDG_WR_CFG_MARKER 0) 0x400 8] : List Regs)) R) (h : Frame W R s0 s) :
    Frame W R s0 (State.ladderStart s n d zone z r) := by
  unfold State.ladderStart
  repeat' first
    | with_reducible exact h
    | with_reducible assumption
    | (extract_lets +onlyGivenNames x; refine have_frame (x := x) ?_ (fun hx => ?_); (on_goal 2 => (clear_value x; revert x; intro _ _)); (on_goal 1 => (unfold x; clear x)))
    | (extract_lets +onlyGivenNames y; clear_value y; revert y; intro _)
    | exact parts_sub hW rfl
    | exact regs_sub hR (by decide +kernel)
    | with_reducible refine ite_frame (fun _ => ?_) (fun _ => ?_)
    | with_reducible refine State.when_frame ?_ (fun t ht => ?_)
    | with_reducible refine State.seekTo_frame ?_ ?_   ?_
    | with_reducible refine State.sedgeSettings_frame  ?_   ?_
    | with_reducible refine State.stgStatus_frame  ?_   ?_
    | with_reducible refine State.updMwd_frame ?_    ?_
    | with_reducible refine State.updChan_frame ?_    ?_
    | with_reducible refine State.issueOp_frame ?_ ?_   ?_
    | with_reducible refine State.updStage_frame ?_    ?_
    | with_reducible refine State.sedgeGo_frame ?_ ?_   ?_
    | with_reducible refine State.sdgStatus_frame ?_ ?_   ?_

theorem execLadderStep_frame {W : List Part} {R : List Regs} {s : State} {n : ℕ} (hW : ∀ p ∈ ([.dram, .drawn, .mireIrq,
    .fenIrq, .seqs, .chans, .stg, .tide, .lev, .peat, .tus, .slu, .mq] : List Part), p ∈ W) (hR : RegsIn (alarmRegs ++
    haltRegs ++ ([.arr (.TIDE_ST_CBPC_CBPC 0) 0x4 8, .arr (.TUS_SEC_CTRL_PRI_SLOT 0) 0x40 4, .arr (.TUS_SEEK_CTRL_HINT 0) 0x20
    4, .grid (.TUS_SEEK_TGT_TRACK 0 0) 0x20 4 0x4 2, .grid (.TUS_SEEK_TGT_FRAC 0 0) 0x20 4 0x4 2, .arr (.REED_ST_CTRL_ABORT 0)
    0x100 8, .arr (.REED_ST_CTRL_FLUSH 0) 0x100 8, .arr (.REED_ST_CTRL_ENTRY 0) 0x100 8, .arr (.REED_ST_STATUS_RESTARTS 0)
    0x100 8, .arr (.REED_ST_STATUS_EVT_CNT 0) 0x100 8, .arr (.REED_ST_PC_MARK_PC 0) 0x100 8, .arr (.REED_ST_PC_PC 0) 0x100 8]
    : List Regs) ++ ([.arr (.REED_ST_THRESH_THRESH 0) 0x100 8, .grid (.REED_OP_VALUE 0 0) 0x100 8 0x4 8, .grid
    (.REED_ST_G_VALUE 0 0) 0x100 8 0x4 16, .arr (.SDG_ST_CTRL_COMB 0) 0x400 8, .arr (.SDG_ST_CTRL_FORCE_TIMED 0) 0x400 8, .arr
    (.SDG_ST_CTRL_ALT_SET 0) 0x400 8, .arr (.SDG_ST_CTRL_STEP 0) 0x400 8, .arr (.SDG_ST_CTRL_MODE 0) 0x400 8, .arr
    (.SDG_ST_STATUS_CODE_ERR 0) 0x400 8, .arr (.SDG_CODE_C 0) 0x400 8, .arr (.SDG_CODE_META 0) 0x400 8, .arr
    (.SDG_SEAL_TRK_SURF 0) 0x400 8] : List Regs) ++ ([.arr (.SDG_SEAL_TRK_TRACK 0) 0x400 8, .arr (.SDG_WR_CFG_MARKER 0) 0x400
    8, .arr (.MWQ_STATUS_BLOCKED 0) 0x20 16, .arr (.MWQ_STATUS_OUTST 0) 0x20 16, .arr (.MWC_PI_PASS 0) 0x20 4, .arr
    (.MWC_PI_PI 0) 0x20 4, .arr (.MWC_STATUS_SCAN_STOP 0) 0x20 4, .arr (.MWC_STATUS_SPILL_CNT 0) 0x20 4, .fld
    .MWQ_SYS_STATUS_FLUSH, .fld .MWQ_SYS_STATUS_CAL, .fld .SLU_STATUS_LED_FREE, .arr (.SLU_SEC_FREE_FREE 0) 0x4 4] : List
    Regs) ++ ([.arr (.SLU_SEC_RUN_RUN 0) 0x4 4, .arr (.SLU_CRED_USED_USED 0) 0x4 32] : List Regs)) R) :
    OutFrame W R s (execLadderStep n s) := by
  unfold execLadderStep
  repeat' first
    | (extract_lets +onlyGivenNames x; refine have_out (x := x) ?_ (fun hx => ?_); (on_goal 2 => (clear_value x; revert x; intro _ _)); (on_goal 1 => (unfold x; clear x)))
    | (extract_lets +onlyGivenNames y; clear_value y; revert y; intro _)
    | exact parts_sub hW rfl
    | with_reducible refine next_frame ?_
    | with_reducible refine ite_out (fun _ => ?_) (fun _ => ?_)
    | with_reducible assumption
    | exact regs_sub hR (by decide +kernel)
    | with_reducible exact Frame.refl _ _ _
    | with_reducible refine ite_frame (fun _ => ?_) (fun _ => ?_)
    | with_reducible refine State.ladderTake_frame ?_ ?_   ?_
    | with_reducible refine State.complete_frame ?_ ?_   ?_
    | with_reducible refine State.updMwd_frame ?_    ?_
    | with_reducible refine State.collect_frame ?_ ?_   ?_
    | with_reducible refine State.ladderStart_frame ?_ ?_   ?_
    | with_reducible refine State.mwqSync_frame  ?_   ?_
    | with_reducible refine State.served_frame ?_    ?_
    | split

theorem State.commitSweep_frame {W : List Part} {R : List Regs} {s0 s : State} {y0 : List Mwd} (hW : ∀ p ∈ ([.dram, .drawn,
    .mireIrq, .fenIrq, .seqs, .chans, .stg, .lev, .peat, .slu, .mq] : List Part), p ∈ W) (hR : RegsIn (alarmRegs ++ haltRegs
    ++ ([.arr (.MWQ_STATUS_BLOCKED 0) 0x20 16, .arr (.MWQ_STATUS_OUTST 0) 0x20 16, .arr (.MWC_PI_PASS 0) 0x20 4, .arr
    (.MWC_PI_PI 0) 0x20 4, .arr (.MWC_STATUS_SCAN_STOP 0) 0x20 4, .arr (.MWC_STATUS_SPILL_CNT 0) 0x20 4, .fld
    .MWQ_SYS_STATUS_FLUSH, .fld .MWQ_SYS_STATUS_CAL, .fld .SLU_STATUS_LED_FREE, .arr (.SLU_SEC_FREE_FREE 0) 0x4 4, .arr
    (.SLU_SEC_RUN_RUN 0) 0x4 4, .arr (.SLU_CRED_USED_USED 0) 0x4 32] : List Regs)) R) (h : Frame W R s0 s) :
    Frame W R s0 (State.commitSweep s y0) := by
  induction y0 generalizing s  with
  | nil =>
    unfold State.commitSweep
    repeat' first
      | with_reducible exact h
  | cons b bs ih =>
    unfold State.commitSweep
    repeat' first
      | with_reducible apply ih
      | with_reducible exact h
      | with_reducible assumption
      | with_reducible refine ite_frame (fun _ => ?_) (fun _ => ?_)
      | with_reducible refine State.completeIdle_frame ?_ ?_   ?_
      | with_reducible refine State.complete_frame ?_ ?_   ?_

theorem State.commitQueues_frame {W : List Part} {R : List Regs} {s0 s : State} (hW : ∀ p ∈ ([.dram, .drawn, .mireIrq,
    .fenIrq, .seqs, .chans, .stg, .lev, .peat, .slu, .mq] : List Part), p ∈ W) (hR : RegsIn (alarmRegs ++ haltRegs ++ ([.arr
    (.MWQ_STATUS_BLOCKED 0) 0x20 16, .arr (.MWQ_STATUS_OUTST 0) 0x20 16, .arr (.MWC_PI_PASS 0) 0x20 4, .arr (.MWC_PI_PI 0)
    0x20 4, .arr (.MWC_STATUS_SCAN_STOP 0) 0x20 4, .arr (.MWC_STATUS_SPILL_CNT 0) 0x20 4, .fld .MWQ_SYS_STATUS_FLUSH, .fld
    .MWQ_SYS_STATUS_CAL, .fld .SLU_STATUS_LED_FREE, .arr (.SLU_SEC_FREE_FREE 0) 0x4 4, .arr (.SLU_SEC_RUN_RUN 0) 0x4 4, .arr
    (.SLU_CRED_USED_USED 0) 0x4 32] : List Regs)) R) (h : Frame W R s0 s) :
    Frame W R s0 (State.commitQueues s) := by
  unfold State.commitQueues
  repeat' first
    | with_reducible exact h
    | with_reducible assumption
    | (extract_lets +onlyGivenNames x; refine have_frame (x := x) ?_ (fun hx => ?_); (on_goal 2 => (clear_value x; revert x; intro _ _)); (on_goal 1 => (unfold x; clear x)))
    | (extract_lets +onlyGivenNames y; clear_value y; revert y; intro _)
    | exact parts_sub hW rfl
    | exact regs_sub hR (by decide +kernel)
    | with_reducible refine State.commitSweep_frame ?_ ?_   ?_
    | with_reducible refine State.updMq_frame ?_    ?_
    | with_reducible refine State.mwqSync_frame  ?_   ?_

theorem State.oweRecord_frame {W : List Part} {R : List Regs} {s0 s : State} {q : ℕ} {slot : ℕ} {bs : List Byte} {e : Ending}
    (hW : ∀ p ∈ ([.mq] : List Part), p ∈ W) (h : Frame W R s0 s) :
    Frame W R s0 (State.oweRecord s q slot bs e) := by
  unfold State.oweRecord
  repeat' first
    | with_reducible exact h
    | with_reducible assumption
    | (extract_lets +onlyGivenNames y; clear_value y; revert y; intro _)
    | with_reducible refine State.updMq_frame ?_    ?_

theorem State.walkSlots_frame {W : List Part} {R : List Regs} {s0 s : State} {q : ℕ} {at_ : ℕ} {y2 : ℕ} (hW : ∀ p ∈ ([.drawn,
    .mireIrq, .fenIrq, .seqs, .chans, .stg, .lev, .peat, .mq] : List Part), p ∈ W) (hR : RegsIn (alarmRegs ++ haltRegs) R) (h
    : Frame W R s0 s) :
    Frame W R s0 (State.walkSlots s q at_ y2) := by
  induction y2 generalizing s q at_ with
  | zero =>
    unfold State.walkSlots
    repeat' first
      | with_reducible exact h
  | succ k ih =>
    unfold State.walkSlots
    repeat' first
      | with_reducible apply ih
      | with_reducible exact h
      | with_reducible assumption
      | (extract_lets +onlyGivenNames y; clear_value y; revert y; intro _)
      | exact parts_sub hW rfl
      | with_reducible refine ite_frame (fun _ => ?_) (fun _ => ?_)
      | with_reducible refine State.draw_frame ?_    ?_
      | with_reducible refine State.oweRecord_frame ?_    ?_
      | with_reducible refine snd_frame (by assumption) (State.dramLoad_frame ?_ ?_   ?_)
      | split

theorem State.walkPosted_frame {W : List Part} {R : List Regs} {s0 s : State} {q : ℕ} {y1 : ℕ} (hW : ∀ p ∈ ([.dram, .mireIrq,
    .fenIrq, .seqs, .chans, .stg, .lev, .peat, .slu, .mq] : List Part), p ∈ W) (hR : RegsIn (alarmRegs ++ haltRegs ++ ([.arr
    (.MWQ_HEAD_HEAD 0) 0x20 16] : List Regs)) R) (h : Frame W R s0 s) :
    Frame W R s0 (State.walkPosted s q y1) := by
  induction y1 generalizing s q with
  | zero =>
    unfold State.walkPosted
    repeat' first
      | with_reducible exact h
  | succ k ih =>
    unfold State.walkPosted
    repeat' first
      | with_reducible apply ih
      | with_reducible exact h
      | with_reducible assumption
      | (extract_lets +onlyGivenNames x; refine have_frame (x := x) ?_ (fun hx => ?_); (on_goal 2 => (clear_value x; revert x; intro _ _)); (on_goal 1 => (unfold x; clear x)))
      | (extract_lets +onlyGivenNames y; clear_value y; revert y; intro _)
      | exact parts_sub hW rfl
      | exact regs_sub hR (by decide +kernel)
      | with_reducible refine ite_frame (fun _ => ?_) (fun _ => ?_)
      | with_reducible refine State.oweRecord_frame ?_    ?_
      | with_reducible refine State.set_frame ?_ ?_
      | with_reducible refine snd_frame (by assumption) (State.dramLoad_frame ?_ ?_   ?_)
      | with_reducible refine State.setCtrl_frame ?_ ?_   ?_
      | exact cov_arr (f := .MWQ_HEAD_HEAD 0) (k := 0x20) (m := 16) hR (by decide +kernel) (by decide) rfl
      | split

theorem State.walkQueues_frame {W : List Part} {R : List Regs} {s0 s : State} (hW : ∀ p ∈ ([.dram, .drawn, .mireIrq, .fenIrq,
    .seqs, .chans, .stg, .lev, .peat, .slu, .mq] : List Part), p ∈ W) (hR : RegsIn (alarmRegs ++ haltRegs ++ ([.arr
    (.MWQ_HEAD_HEAD 0) 0x20 16, .arr (.MWQ_STATUS_BLOCKED 0) 0x20 16, .arr (.MWQ_STATUS_OUTST 0) 0x20 16, .arr (.MWC_PI_PASS
    0) 0x20 4, .arr (.MWC_PI_PI 0) 0x20 4, .arr (.MWC_STATUS_SCAN_STOP 0) 0x20 4, .arr (.MWC_STATUS_SPILL_CNT 0) 0x20 4, .fld
    .MWQ_SYS_STATUS_FLUSH, .fld .MWQ_SYS_STATUS_CAL] : List Regs)) R) (h : Frame W R s0 s) :
    Frame W R s0 (State.walkQueues s) := by
  unfold State.walkQueues
  repeat' first
    | with_reducible exact h
    | with_reducible assumption
    | (extract_lets +onlyGivenNames x; refine have_frame (x := x) ?_ (fun hx => ?_); (on_goal 2 => (clear_value x; revert x; intro _ _)); (on_goal 1 => (unfold x; clear x)))
    | exact parts_sub hW rfl
    | exact regs_sub hR (by decide +kernel)
    | with_reducible refine State.when_frame ?_ (fun t ht => ?_)
    | with_reducible refine State.forN_frame ?_ (fun i t ht => ?_)
    | with_reducible refine State.walkPosted_frame ?_ ?_   ?_
    | with_reducible refine State.mwqSync_frame  ?_   ?_
    | with_reducible refine State.walkSlots_frame ?_ ?_   ?_
    | with_reducible refine State.updMq_frame ?_    ?_
    | with_reducible refine State.payOwed_frame ?_ ?_   ?_

theorem State.resetQueuesMq_frame {W : List Part} {R : List Regs} {s0 s : State} (hW : ∀ p ∈ ([.mq] : List Part), p ∈ W) (h :
    Frame W R s0 s) :
    Frame W R s0 (State.resetQueuesMq s) := by
  unfold State.resetQueuesMq
  repeat' first
    | with_reducible exact h
    | with_reducible assumption
    | with_reducible refine State.updMq_frame ?_    ?_

end Sys2Proof.Machine
end

