-- ==== Sys2Proof/Laws/FrameRequests.lean ====
section
/-! SUPPORT. Frames of the requests (Mailbox, Catalogue, SectionCmds, Trust, TableCmds, RecordCmds, UpdateCmds): what an operation may change, and what a command may change. -/

set_option Elab.async false

namespace Sys2Proof.Machine

/-! ### Machine/Mailbox.lean -/

theorem State.updAq_frame {W : List Part} {R : List Regs} {s0 s : State} {f : Aqsia → Aqsia} (hW : ∀ p ∈ ([.aq] : List Part),
    p ∈ W) (h : Frame W R s0 s) :
    Frame W R s0 (State.updAq s f) := by
  unfold State.updAq
  repeat' first
    | with_reducible exact h
    | with_reducible assumption
    | with_reducible refine upd_aq ?_ ?_

theorem State.putRsp_frame {W : List Part} {R : List Regs} {s0 s : State} {p : ℕ} {bs : List Byte} (hR : RegsIn (([.grid
    (.MBX_RSP_DATA 0 0) 0x400 64 0x4 64] : List Regs)) R) (h : Frame W R s0 s) :
    Frame W R s0 (State.putRsp s p bs) := by
  unfold State.putRsp
  repeat' first
    | with_reducible exact h
    | with_reducible assumption
    | with_reducible refine State.forN_frame ?_ (fun i t ht => ?_)
    | with_reducible refine State.set_frame ?_ ?_
    | exact cov_grid (f := .MBX_RSP_DATA 0 0) (k := 0x400) (m := 64) (u := 0x4) (l := 64) hR (by decide +kernel) (by decide) (by decide) rfl

theorem State.doneBit_frame {W : List Part} {R : List Regs} {s0 s : State} {p : ℕ} {on : Bool} (hR : RegsIn (([.arr
    (.MBX_DONE_DONE 0) 0x4 2] : List Regs)) R) (h : Frame W R s0 s) :
    Frame W R s0 (State.doneBit s p on) := by
  unfold State.doneBit
  repeat' first
    | with_reducible exact h
    | (extract_lets +onlyGivenNames y; clear_value y; revert y; intro _)
    | with_reducible refine State.set_frame ?_ ?_
    | exact cov_arr (f := .MBX_DONE_DONE 0) (k := 0x4) (m := 2) hR (by decide +kernel) (by decide) rfl

theorem State.writeRsp_frame {W : List Part} {R : List Regs} {s0 s : State} {p : ℕ} {status : ℕ} {started : Bool} {session :
    ℕ} {gen : ℕ} {payload : List Byte} (hW : ∀ p ∈ ([.fenIrq] : List Part), p ∈ W) (hR : RegsIn (([.arr (.MBX_DONE_DONE 0) 0x4
    2, .grid (.MBX_RSP_DATA 0 0) 0x400 64 0x4 64, .arr (.MBX_STAT_CANCEL_REQ 0) 0x400 64, .arr (.MBX_STAT_STARTED 0) 0x400 64,
    .arr (.MBX_STAT_STATE 0) 0x400 64, .arr (.MBX_LATCH_RSP_STATUS 0) 0x400 64] : List Regs)) R) (h : Frame W R s0 s) :
    Frame W R s0 (State.writeRsp s p status started session gen payload) := by
  unfold State.writeRsp
  repeat' first
    | with_reducible exact h
    | with_reducible assumption
    | (extract_lets +onlyGivenNames x; refine have_frame (x := x) ?_ (fun hx => ?_); (on_goal 2 => (clear_value x; revert x; intro _ _)); (on_goal 1 => (unfold x; clear x)))
    | (extract_lets +onlyGivenNames y; clear_value y; revert y; intro _)
    | exact regs_sub hR (by decide +kernel)
    | with_reducible refine State.when_frame ?_ (fun t ht => ?_)
    | with_reducible refine State.doneBit_frame  ?_   ?_
    | with_reducible refine State.setIf_frame ?_ ?_
    | with_reducible refine State.irqFen_frame ?_    ?_
    | with_reducible refine State.putRsp_frame  ?_   ?_
    | with_reducible refine State.set_frame ?_ ?_
    | exact cov_arr (f := .MBX_STAT_CANCEL_REQ 0) (k := 0x400) (m := 64) hR (by decide +kernel) (by decide) rfl
    | exact cov_arr (f := .MBX_STAT_STARTED 0) (k := 0x400) (m := 64) hR (by decide +kernel) (by decide) rfl
    | exact cov_arr (f := .MBX_STAT_STATE 0) (k := 0x400) (m := 64) hR (by decide +kernel) (by decide) rfl
    | exact cov_arr (f := .MBX_LATCH_RSP_STATUS 0) (k := 0x400) (m := 64) hR (by decide +kernel) (by decide) rfl

theorem State.updSession_frame {W : List Part} {R : List Regs} {s0 s : State} {key : ℕ × ℕ} {f : Session → Session} (hW : ∀ p
    ∈ ([.aq] : List Part), p ∈ W) (h : Frame W R s0 s) :
    Frame W R s0 (State.updSession s key f) := by
  unfold State.updSession
  repeat' first
    | with_reducible exact h
    | with_reducible assumption
    | with_reducible refine State.updAq_frame ?_    ?_

theorem State.dropUpdate_frame {W : List Part} {R : List Regs} {s0 s : State} (hW : ∀ p ∈ ([.dyke] : List Part), p ∈ W) (hR :
    RegsIn (([.fld .DYKE_SLOT_INACTIVE] : List Regs)) R) (h : Frame W R s0 s) :
    Frame W R s0 (State.dropUpdate s) := by
  unfold State.dropUpdate
  repeat' first
    | with_reducible exact h
    | with_reducible assumption
    | (extract_lets +onlyGivenNames x; refine have_frame (x := x) ?_ (fun hx => ?_); (on_goal 2 => (clear_value x; revert x; intro _ _)); (on_goal 1 => (unfold x; clear x)))
    | (extract_lets +onlyGivenNames y; clear_value y; revert y; intro _)
    | with_reducible refine State.set_frame ?_ ?_
    | exact cov_fld hR (by decide +kernel)
    | with_reducible refine upd_dyke ?_ ?_

theorem State.releaseOwned_frame {W : List Part} {R : List Regs} {s0 s : State} {key : ℕ × ℕ} (hW : ∀ p ∈ ([.aq, .dyke] : List
    Part), p ∈ W) (hR : RegsIn (([.fld .PEAT_STATUS_STAMP_WAIT, .fld .PEAT_STATUS_HELD, .fld .PEAT_STATUS_USED, .fld
    .PEAT_FRZ_AREA, .fld .DYKE_SLOT_INACTIVE] : List Regs)) R) (h : Frame W R s0 s) :
    Frame W R s0 (State.releaseOwned s key) := by
  unfold State.releaseOwned
  repeat' first
    | with_reducible exact h
    | with_reducible assumption
    | (extract_lets +onlyGivenNames x; refine have_frame (x := x) ?_ (fun hx => ?_); (on_goal 2 => (clear_value x; revert x; intro _ _)); (on_goal 1 => (unfold x; clear x)))
    | (extract_lets +onlyGivenNames y; clear_value y; revert y; intro _)
    | exact parts_sub hW rfl
    | exact regs_sub hR (by decide +kernel)
    | with_reducible refine ite_frame (fun _ => ?_) (fun _ => ?_)
    | with_reducible refine State.when_frame ?_ (fun t ht => ?_)
    | with_reducible refine State.forN_frame ?_ (fun i t ht => ?_)
    | with_reducible refine State.dropUpdate_frame ?_ ?_   ?_
    | with_reducible refine State.updAq_frame ?_    ?_
    | with_reducible refine State.unfreeze_frame  ?_   ?_
    | with_reducible refine upd_dyke ?_ ?_

theorem State.dropRequest_frame {W : List Part} {R : List Regs} {s0 s : State} {p : ℕ} (hW : ∀ p ∈ ([.aq, .dyke] : List Part),
    p ∈ W) (hR : RegsIn (([.fld .PEAT_STATUS_STAMP_WAIT, .fld .PEAT_STATUS_HELD, .fld .PEAT_STATUS_USED, .fld .PEAT_FRZ_AREA,
    .fld .DYKE_SLOT_INACTIVE] : List Regs)) R) (h : Frame W R s0 s) :
    Frame W R s0 (State.dropRequest s p) := by
  unfold State.dropRequest
  repeat' first
    | with_reducible exact h
    | with_reducible assumption
    | (extract_lets +onlyGivenNames x; refine have_frame (x := x) ?_ (fun hx => ?_); (on_goal 2 => (clear_value x; revert x; intro _ _)); (on_goal 1 => (unfold x; clear x)))
    | (extract_lets +onlyGivenNames y; clear_value y; revert y; intro _)
    | exact parts_sub hW rfl
    | with_reducible refine State.when_frame ?_ (fun t ht => ?_)
    | with_reducible refine State.updAq_frame ?_    ?_
    | with_reducible refine State.releaseOwned_frame ?_ ?_   ?_

theorem State.respond_frame {W : List Part} {R : List Regs} {s0 s : State} {p : ℕ} {status : ℕ} {started : Bool} {payload :
    optParam (List Byte) []} (hW : ∀ p ∈ ([.fenIrq, .aq, .dyke] : List Part), p ∈ W) (hR : RegsIn (([.fld
    .PEAT_STATUS_STAMP_WAIT, .fld .PEAT_STATUS_HELD, .fld .PEAT_STATUS_USED, .fld .PEAT_FRZ_AREA, .arr (.MBX_DONE_DONE 0) 0x4
    2, .grid (.MBX_RSP_DATA 0 0) 0x400 64 0x4 64, .arr (.MBX_STAT_CANCEL_REQ 0) 0x400 64, .arr (.MBX_STAT_STARTED 0) 0x400 64,
    .arr (.MBX_STAT_STATE 0) 0x400 64, .arr (.MBX_LATCH_RSP_STATUS 0) 0x400 64, .fld .DYKE_SLOT_INACTIVE] : List Regs)) R) (h
    : Frame W R s0 s) :
    Frame W R s0 (State.respond s p status started payload) := by
  unfold State.respond
  repeat' first
    | with_reducible exact h
    | exact parts_sub hW rfl
    | exact regs_sub hR (by decide +kernel)
    | with_reducible refine State.writeRsp_frame ?_ ?_   ?_
    | with_reducible refine State.dropRequest_frame ?_ ?_   ?_

theorem State.respondOk_frame {W : List Part} {R : List Regs} {s0 s : State} {p : ℕ} {payload : optParam (List Byte) []} (hW :
    ∀ p ∈ ([.fenIrq, .aq, .dyke] : List Part), p ∈ W) (hR : RegsIn (([.fld .PEAT_STATUS_STAMP_WAIT, .fld .PEAT_STATUS_HELD,
    .fld .PEAT_STATUS_USED, .fld .PEAT_FRZ_AREA, .arr (.MBX_DONE_DONE 0) 0x4 2, .grid (.MBX_RSP_DATA 0 0) 0x400 64 0x4 64,
    .arr (.MBX_STAT_CANCEL_REQ 0) 0x400 64, .arr (.MBX_STAT_STARTED 0) 0x400 64, .arr (.MBX_STAT_STATE 0) 0x400 64, .arr
    (.MBX_LATCH_RSP_STATUS 0) 0x400 64, .fld .DYKE_SLOT_INACTIVE] : List Regs)) R) (h : Frame W R s0 s) :
    Frame W R s0 (State.respondOk s p payload) := by
  unfold State.respondOk
  repeat' first
    | with_reducible exact h
    | with_reducible assumption
    | with_reducible refine State.respond_frame ?_ ?_   ?_

theorem State.respondBad_frame {W : List Part} {R : List Regs} {s0 s : State} {p : ℕ} {status : ℕ} {payload : optParam (List
    Byte) []} (hW : ∀ p ∈ ([.fenIrq, .aq, .dyke] : List Part), p ∈ W) (hR : RegsIn (([.fld .PEAT_STATUS_STAMP_WAIT, .fld
    .PEAT_STATUS_HELD, .fld .PEAT_STATUS_USED, .fld .PEAT_FRZ_AREA, .arr (.MBX_DONE_DONE 0) 0x4 2, .grid (.MBX_RSP_DATA 0 0)
    0x400 64 0x4 64, .arr (.MBX_STAT_CANCEL_REQ 0) 0x400 64, .arr (.MBX_STAT_STARTED 0) 0x400 64, .arr (.MBX_STAT_STATE 0)
    0x400 64, .arr (.MBX_LATCH_RSP_STATUS 0) 0x400 64, .fld .DYKE_SLOT_INACTIVE] : List Regs)) R) (h : Frame W R s0 s) :
    Frame W R s0 (State.respondBad s p status payload) := by
  unfold State.respondBad
  repeat' first
    | with_reducible exact h
    | with_reducible assumption
    | with_reducible refine State.respond_frame ?_ ?_   ?_

theorem State.answerClosed_frame {W : List Part} {R : List Regs} {s0 s : State} {key : ℕ × ℕ} {y1 : List ℕ} (hW : ∀ p ∈
    ([.fenIrq, .aq, .dyke] : List Part), p ∈ W) (hR : RegsIn (([.fld .PEAT_STATUS_STAMP_WAIT, .fld .PEAT_STATUS_HELD, .fld
    .PEAT_STATUS_USED, .fld .PEAT_FRZ_AREA, .arr (.MBX_DONE_DONE 0) 0x4 2, .grid (.MBX_RSP_DATA 0 0) 0x400 64 0x4 64, .arr
    (.MBX_STAT_CANCEL_REQ 0) 0x400 64, .arr (.MBX_STAT_STARTED 0) 0x400 64, .arr (.MBX_STAT_STATE 0) 0x400 64, .arr
    (.MBX_LATCH_RSP_STATUS 0) 0x400 64, .fld .DYKE_SLOT_INACTIVE] : List Regs)) R) (h : Frame W R s0 s) :
    Frame W R s0 (State.answerClosed s key y1) := by
  induction y1 generalizing s key with
  | nil =>
    unfold State.answerClosed
    repeat' first
      | with_reducible exact h
  | cons b bs ih =>
    unfold State.answerClosed
    repeat' first
      | with_reducible apply ih
      | with_reducible exact h
      | with_reducible assumption
      | with_reducible refine State.when_frame ?_ (fun t ht => ?_)
      | with_reducible refine State.respond_frame ?_ ?_   ?_

theorem State.closeSession_frame {W : List Part} {R : List Regs} {s0 s : State} {x : Session} (hW : ∀ p ∈ ([.fenIrq, .aq,
    .dyke] : List Part), p ∈ W) (hR : RegsIn (([.fld .PEAT_STATUS_STAMP_WAIT, .fld .PEAT_STATUS_HELD, .fld .PEAT_STATUS_USED,
    .fld .PEAT_FRZ_AREA, .arr (.MBX_DONE_DONE 0) 0x4 2, .grid (.MBX_RSP_DATA 0 0) 0x400 64 0x4 64, .arr (.MBX_STAT_CANCEL_REQ
    0) 0x400 64, .arr (.MBX_STAT_STARTED 0) 0x400 64, .arr (.MBX_STAT_STATE 0) 0x400 64, .arr (.MBX_LATCH_RSP_STATUS 0) 0x400
    64, .fld .DYKE_SLOT_INACTIVE] : List Regs)) R) (h : Frame W R s0 s) :
    Frame W R s0 (State.closeSession s x) := by
  unfold State.closeSession
  repeat' first
    | with_reducible exact h
    | with_reducible assumption
    | (extract_lets +onlyGivenNames x; refine have_frame (x := x) ?_ (fun hx => ?_); (on_goal 2 => (clear_value x; revert x; intro _ _)); (on_goal 1 => (unfold x; clear x)))
    | exact parts_sub hW rfl
    | exact regs_sub hR (by decide +kernel)
    | with_reducible refine State.when_frame ?_ (fun t ht => ?_)
    | with_reducible refine State.answerClosed_frame ?_ ?_   ?_
    | with_reducible refine State.updAq_frame ?_    ?_
    | with_reducible refine State.releaseOwned_frame ?_ ?_   ?_

theorem State.closeSessions_frame {W : List Part} {R : List Regs} {s0 s : State} {y0 : List Session} (hW : ∀ p ∈ ([.fenIrq,
    .aq, .dyke] : List Part), p ∈ W) (hR : RegsIn (([.fld .PEAT_STATUS_STAMP_WAIT, .fld .PEAT_STATUS_HELD, .fld
    .PEAT_STATUS_USED, .fld .PEAT_FRZ_AREA, .arr (.MBX_DONE_DONE 0) 0x4 2, .grid (.MBX_RSP_DATA 0 0) 0x400 64 0x4 64, .arr
    (.MBX_STAT_CANCEL_REQ 0) 0x400 64, .arr (.MBX_STAT_STARTED 0) 0x400 64, .arr (.MBX_STAT_STATE 0) 0x400 64, .arr
    (.MBX_LATCH_RSP_STATUS 0) 0x400 64, .fld .DYKE_SLOT_INACTIVE] : List Regs)) R) (h : Frame W R s0 s) :
    Frame W R s0 (State.closeSessions s y0) := by
  induction y0 generalizing s  with
  | nil =>
    unfold State.closeSessions
    repeat' first
      | with_reducible exact h
  | cons b bs ih =>
    unfold State.closeSessions
    repeat' first
      | with_reducible apply ih
      | with_reducible exact h
      | with_reducible assumption
      | with_reducible refine State.closeSession_frame ?_ ?_   ?_

theorem State.onCommand_frame {W : List Part} {R : List Regs} {s0 s : State} {p : ℕ} {cmd : ℕ} {f : State → State} (hf : ∀ t,
    Frame W R s0 t → Frame W R s0 (f t)) (h : Frame W R s0 s) :
    Frame W R s0 (State.onCommand s p cmd f) := by
  unfold State.onCommand
  repeat' first
    | with_reducible exact h
    | with_reducible refine ite_frame (fun _ => ?_) (fun _ => ?_)
    | with_reducible refine hf _ ?_

theorem State.updRun_frame {W : List Part} {R : List Regs} {s0 s : State} {p : ℕ} {f : CmdRun → CmdRun} (hW : ∀ p ∈ ([.aq] :
    List Part), p ∈ W) (h : Frame W R s0 s) :
    Frame W R s0 (State.updRun s p f) := by
  unfold State.updRun
  repeat' first
    | with_reducible exact h
    | with_reducible assumption
    | with_reducible refine State.updAq_frame ?_    ?_

theorem State.doorbell_frame {W : List Part} {R : List Regs} {s0 s : State} {who : Who} {p : ℕ} {f : State → State} (hW : ∀ p
    ∈ ([.bus, .mireIrq, .fenIrq, .seqs, .chans, .stg, .lev, .peat] : List Part), p ∈ W) (hR : RegsIn (alarmRegs ++ haltRegs)
    R) (hf : ∀ t, Frame W R s0 t → Frame W R s0 (f t)) (h : Frame W R s0 s) :
    Frame W R s0 (State.doorbell s who p f) := by
  unfold State.doorbell
  repeat' first
    | with_reducible exact h
    | with_reducible assumption
    | exact parts_sub hW rfl
    | with_reducible refine ite_frame (fun _ => ?_) (fun _ => ?_)
    | with_reducible refine State.ack_frame ?_    ?_
    | with_reducible refine State.denied_frame ?_ ?_   ?_
    | with_reducible refine hf _ ?_
    | split

theorem State.ring_frame {W : List Part} {R : List Regs} {s0 s : State} {p : ℕ} (hW : ∀ p ∈ ([.aq] : List Part), p ∈ W) (hR :
    RegsIn (([.arr (.MBX_STAT_SESSION 0) 0x400 64, .arr (.MBX_STAT_CANCEL_REQ 0) 0x400 64, .arr (.MBX_STAT_DB_ERR 0) 0x400 64,
    .arr (.MBX_STAT_STARTED 0) 0x400 64, .arr (.MBX_STAT_STATE 0) 0x400 64, .arr (.MBX_LATCH_CMD 0) 0x400 64, .arr
    (.MBX_LATCH_TAG 0) 0x400 64, .arr (.MBX_LATCH_GEN_GEN 0) 0x400 64] : List Regs)) R) (h : Frame W R s0 s) :
    Frame W R s0 (State.ring s p) := by
  unfold State.ring
  repeat' first
    | with_reducible exact h
    | with_reducible assumption
    | (extract_lets +onlyGivenNames x; refine have_frame (x := x) ?_ (fun hx => ?_); (on_goal 2 => (clear_value x; revert x; intro _ _)); (on_goal 1 => (unfold x; clear x)))
    | with_reducible refine ite_frame (fun _ => ?_) (fun _ => ?_)
    | with_reducible refine State.updAq_frame ?_    ?_
    | with_reducible refine State.set_frame ?_ ?_
    | exact cov_arr (f := .MBX_STAT_SESSION 0) (k := 0x400) (m := 64) hR (by decide +kernel) (by decide) rfl
    | exact cov_arr (f := .MBX_STAT_CANCEL_REQ 0) (k := 0x400) (m := 64) hR (by decide +kernel) (by decide) rfl
    | exact cov_arr (f := .MBX_STAT_DB_ERR 0) (k := 0x400) (m := 64) hR (by decide +kernel) (by decide) rfl
    | exact cov_arr (f := .MBX_STAT_STARTED 0) (k := 0x400) (m := 64) hR (by decide +kernel) (by decide) rfl
    | exact cov_arr (f := .MBX_STAT_STATE 0) (k := 0x400) (m := 64) hR (by decide +kernel) (by decide) rfl
    | exact cov_arr (f := .MBX_LATCH_CMD 0) (k := 0x400) (m := 64) hR (by decide +kernel) (by decide) rfl
    | exact cov_arr (f := .MBX_LATCH_TAG 0) (k := 0x400) (m := 64) hR (by decide +kernel) (by decide) rfl
    | exact cov_arr (f := .MBX_LATCH_GEN_GEN 0) (k := 0x400) (m := 64) hR (by decide +kernel) (by decide) rfl

theorem State.ackPair_frame {W : List Part} {R : List Regs} {s0 s : State} {p : ℕ} (hR : RegsIn (([.arr (.MBX_DONE_DONE 0) 0x4
    2, .arr (.MBX_STAT_DB_ERR 0) 0x400 64, .arr (.MBX_STAT_STATE 0) 0x400 64] : List Regs)) R) (h : Frame W R s0 s) :
    Frame W R s0 (State.ackPair s p) := by
  unfold State.ackPair
  repeat' first
    | with_reducible exact h
    | exact regs_sub hR (by decide +kernel)
    | with_reducible refine ite_frame (fun _ => ?_) (fun _ => ?_)
    | with_reducible refine State.doneBit_frame  ?_   ?_
    | with_reducible refine State.set_frame ?_ ?_
    | exact cov_arr (f := .MBX_STAT_DB_ERR 0) (k := 0x400) (m := 64) hR (by decide +kernel) (by decide) rfl
    | exact cov_arr (f := .MBX_STAT_STATE 0) (k := 0x400) (m := 64) hR (by decide +kernel) (by decide) rfl

theorem State.cancelPair_frame {W : List Part} {R : List Regs} {s0 s : State} {p : ℕ} (hW : ∀ p ∈ ([.fenIrq, .aq, .dyke] :
    List Part), p ∈ W) (hR : RegsIn (([.fld .PEAT_STATUS_STAMP_WAIT, .fld .PEAT_STATUS_HELD, .fld .PEAT_STATUS_USED, .fld
    .PEAT_FRZ_AREA, .arr (.MBX_DONE_DONE 0) 0x4 2, .grid (.MBX_RSP_DATA 0 0) 0x400 64 0x4 64, .arr (.MBX_STAT_CANCEL_REQ 0)
    0x400 64, .arr (.MBX_STAT_STARTED 0) 0x400 64, .arr (.MBX_STAT_STATE 0) 0x400 64, .arr (.MBX_LATCH_RSP_STATUS 0) 0x400 64,
    .fld .DYKE_SLOT_INACTIVE] : List Regs)) R) (h : Frame W R s0 s) :
    Frame W R s0 (State.cancelPair s p) := by
  unfold State.cancelPair
  repeat' first
    | with_reducible exact h
    | with_reducible assumption
    | exact parts_sub hW rfl
    | with_reducible refine ite_frame (fun _ => ?_) (fun _ => ?_)
    | with_reducible refine State.respond_frame ?_ ?_   ?_
    | with_reducible refine State.updAq_frame ?_    ?_
    | with_reducible refine State.set_frame ?_ ?_
    | exact cov_arr (f := .MBX_STAT_CANCEL_REQ 0) (k := 0x400) (m := 64) hR (by decide +kernel) (by decide) rfl
    | split

theorem execMbxRing_frame {W : List Part} {R : List Regs} {s : State} {who : Who} {p : ℕ} (hW : ∀ p ∈ ([.bus, .mireIrq,
    .fenIrq, .seqs, .chans, .stg, .lev, .peat, .aq] : List Part), p ∈ W) (hR : RegsIn (alarmRegs ++ haltRegs ++ ([.arr
    (.MBX_STAT_SESSION 0) 0x400 64, .arr (.MBX_STAT_CANCEL_REQ 0) 0x400 64, .arr (.MBX_STAT_DB_ERR 0) 0x400 64, .arr
    (.MBX_STAT_STARTED 0) 0x400 64, .arr (.MBX_STAT_STATE 0) 0x400 64, .arr (.MBX_LATCH_CMD 0) 0x400 64, .arr (.MBX_LATCH_TAG
    0) 0x400 64, .arr (.MBX_LATCH_GEN_GEN 0) 0x400 64] : List Regs)) R) :
    OutFrame W R s (execMbxRing who p s) := by
  unfold execMbxRing
  repeat' first
    | exact parts_sub hW rfl
    | with_reducible refine next_frame ?_
    | with_reducible assumption
    | exact regs_sub hR (by decide +kernel)
    | with_reducible exact Frame.refl _ _ _
    | with_reducible refine State.doorbell_frame ?_ ?_  (fun t ht => ?_) ?_
    | with_reducible refine State.ring_frame ?_ ?_   ?_

theorem execMbxAck_frame {W : List Part} {R : List Regs} {s : State} {who : Who} {p : ℕ} (hW : ∀ p ∈ ([.bus, .mireIrq,
    .fenIrq, .seqs, .chans, .stg, .lev, .peat] : List Part), p ∈ W) (hR : RegsIn (alarmRegs ++ haltRegs ++ ([.arr
    (.MBX_DONE_DONE 0) 0x4 2, .arr (.MBX_STAT_DB_ERR 0) 0x400 64, .arr (.MBX_STAT_STATE 0) 0x400 64] : List Regs)) R) :
    OutFrame W R s (execMbxAck who p s) := by
  unfold execMbxAck
  repeat' first
    | exact parts_sub hW rfl
    | with_reducible refine next_frame ?_
    | with_reducible assumption
    | exact regs_sub hR (by decide +kernel)
    | with_reducible exact Frame.refl _ _ _
    | with_reducible refine State.doorbell_frame ?_ ?_  (fun t ht => ?_) ?_
    | with_reducible refine State.ackPair_frame  ?_   ?_

theorem execMbxCancel_frame {W : List Part} {R : List Regs} {s : State} {who : Who} {p : ℕ} (hW : ∀ p ∈ ([.bus, .mireIrq,
    .fenIrq, .seqs, .chans, .stg, .lev, .peat, .aq, .dyke] : List Part), p ∈ W) (hR : RegsIn (alarmRegs ++ haltRegs ++ ([.arr
    (.MBX_DONE_DONE 0) 0x4 2, .grid (.MBX_RSP_DATA 0 0) 0x400 64 0x4 64, .arr (.MBX_STAT_CANCEL_REQ 0) 0x400 64, .arr
    (.MBX_STAT_STARTED 0) 0x400 64, .arr (.MBX_STAT_STATE 0) 0x400 64, .arr (.MBX_LATCH_RSP_STATUS 0) 0x400 64, .fld
    .DYKE_SLOT_INACTIVE] : List Regs)) R) :
    OutFrame W R s (execMbxCancel who p s) := by
  unfold execMbxCancel
  repeat' first
    | exact parts_sub hW rfl
    | with_reducible refine next_frame ?_
    | with_reducible assumption
    | exact regs_sub hR (by decide +kernel)
    | with_reducible exact Frame.refl _ _ _
    | with_reducible refine State.cancelPair_frame ?_ ?_   ?_
    | with_reducible refine State.doorbell_frame ?_ ?_  (fun t ht => ?_) ?_

theorem execSessionIdleTimeout_frame {W : List Part} {R : List Regs} {s : State} {id : ℕ} (hW : ∀ p ∈ ([.fenIrq, .aq, .dyke] :
    List Part), p ∈ W) (hR : RegsIn (([.fld .PEAT_STATUS_STAMP_WAIT, .fld .PEAT_STATUS_HELD, .fld .PEAT_STATUS_USED, .fld
    .PEAT_FRZ_AREA, .arr (.MBX_DONE_DONE 0) 0x4 2, .grid (.MBX_RSP_DATA 0 0) 0x400 64 0x4 64, .arr (.MBX_STAT_CANCEL_REQ 0)
    0x400 64, .arr (.MBX_STAT_STARTED 0) 0x400 64, .arr (.MBX_STAT_STATE 0) 0x400 64, .arr (.MBX_LATCH_RSP_STATUS 0) 0x400 64,
    .fld .DYKE_SLOT_INACTIVE] : List Regs)) R) :
    OutFrame W R s (execSessionIdleTimeout id s) := by
  unfold execSessionIdleTimeout
  repeat' first
    | exact parts_sub hW rfl
    | with_reducible refine next_frame ?_
    | with_reducible assumption
    | with_reducible exact Frame.refl _ _ _
    | with_reducible refine State.when_frame ?_ (fun t ht => ?_)
    | with_reducible refine State.closeSession_frame ?_ ?_   ?_
    | split

theorem execSessionOpen_frame {W : List Part} {R : List Regs} {s : State} {p : ℕ} (hW : ∀ p ∈ ([.fenIrq, .aq, .dyke] : List
    Part), p ∈ W) (hR : RegsIn (([.fld .PEAT_STATUS_STAMP_WAIT, .fld .PEAT_STATUS_HELD, .fld .PEAT_STATUS_USED, .fld
    .PEAT_FRZ_AREA, .arr (.MBX_DONE_DONE 0) 0x4 2, .grid (.MBX_RSP_DATA 0 0) 0x400 64 0x4 64, .arr (.MBX_STAT_CANCEL_REQ 0)
    0x400 64, .arr (.MBX_STAT_STARTED 0) 0x400 64, .arr (.MBX_STAT_STATE 0) 0x400 64, .arr (.MBX_LATCH_RSP_STATUS 0) 0x400 64,
    .fld .DYKE_SLOT_INACTIVE] : List Regs)) R) :
    OutFrame W R s (execSessionOpen p s) := by
  unfold execSessionOpen
  repeat' first
    | (extract_lets +onlyGivenNames x; refine have_frame (x := x) ?_ (fun hx => ?_); (on_goal 2 => (clear_value x; revert x; intro _ _)); (on_goal 1 => (unfold x; clear x)))
    | (extract_lets +onlyGivenNames y; clear_value y; revert y; intro _)
    | exact parts_sub hW rfl
    | with_reducible refine next_frame ?_
    | with_reducible assumption
    | exact regs_sub hR (by decide +kernel)
    | with_reducible exact Frame.refl _ _ _
    | with_reducible refine State.when_frame ?_ (fun t ht => ?_)
    | with_reducible refine State.onCommand_frame    (fun t ht => ?_) ?_
    | with_reducible refine State.respond_frame ?_ ?_   ?_
    | with_reducible refine State.writeRsp_frame ?_ ?_   ?_
    | with_reducible refine State.updAq_frame ?_    ?_
    | with_reducible refine State.dropRequest_frame ?_ ?_   ?_
    | split
    | with_reducible refine upd_dyke ?_ ?_

theorem execSessionClose_frame {W : List Part} {R : List Regs} {s : State} {p : ℕ} (hW : ∀ p ∈ ([.fenIrq, .aq, .dyke] : List
    Part), p ∈ W) (hR : RegsIn (([.fld .PEAT_STATUS_STAMP_WAIT, .fld .PEAT_STATUS_HELD, .fld .PEAT_STATUS_USED, .fld
    .PEAT_FRZ_AREA, .arr (.MBX_DONE_DONE 0) 0x4 2, .grid (.MBX_RSP_DATA 0 0) 0x400 64 0x4 64, .arr (.MBX_STAT_CANCEL_REQ 0)
    0x400 64, .arr (.MBX_STAT_STARTED 0) 0x400 64, .arr (.MBX_STAT_STATE 0) 0x400 64, .arr (.MBX_LATCH_RSP_STATUS 0) 0x400 64,
    .fld .DYKE_SLOT_INACTIVE] : List Regs)) R) :
    OutFrame W R s (execSessionClose p s) := by
  unfold execSessionClose
  repeat' first
    | exact parts_sub hW rfl
    | with_reducible refine next_frame ?_
    | with_reducible assumption
    | with_reducible exact Frame.refl _ _ _
    | with_reducible refine State.when_frame ?_ (fun t ht => ?_)
    | with_reducible refine State.closeSession_frame ?_ ?_   ?_
    | with_reducible refine State.onCommand_frame    (fun t ht => ?_) ?_
    | with_reducible refine State.respondOk_frame ?_ ?_   ?_
    | split

theorem execSessionPing_frame {W : List Part} {R : List Regs} {s : State} {p : ℕ} (hW : ∀ p ∈ ([.fenIrq, .aq, .dyke] : List
    Part), p ∈ W) (hR : RegsIn (([.fld .PEAT_STATUS_STAMP_WAIT, .fld .PEAT_STATUS_HELD, .fld .PEAT_STATUS_USED, .fld
    .PEAT_FRZ_AREA, .arr (.MBX_DONE_DONE 0) 0x4 2, .grid (.MBX_RSP_DATA 0 0) 0x400 64 0x4 64, .arr (.MBX_STAT_CANCEL_REQ 0)
    0x400 64, .arr (.MBX_STAT_STARTED 0) 0x400 64, .arr (.MBX_STAT_STATE 0) 0x400 64, .arr (.MBX_LATCH_RSP_STATUS 0) 0x400 64,
    .fld .DYKE_SLOT_INACTIVE] : List Regs)) R) :
    OutFrame W R s (execSessionPing p s) := by
  unfold execSessionPing
  repeat' first
    | exact parts_sub hW rfl
    | with_reducible refine next_frame ?_
    | with_reducible assumption
    | with_reducible exact Frame.refl _ _ _
    | with_reducible refine State.onCommand_frame    (fun t ht => ?_) ?_
    | with_reducible refine State.respondOk_frame ?_ ?_   ?_

/-! ### Machine/Catalogue.lean -/

theorem State.abortRecord_frame {W : List Part} {R : List Regs} {s0 s : State} {l : List ℕ} (hW : ∀ p ∈ ([.mireIrq, .fenIrq,
    .seqs, .chans, .stg, .lev, .peat] : List Part), p ∈ W) (hR : RegsIn (alarmRegs ++ haltRegs) R) (h : Frame W R s0 s) :
    Frame W R s0 (State.abortRecord s l) := by
  unfold State.abortRecord
  repeat' first
    | with_reducible exact h
    | with_reducible assumption
    | (extract_lets +onlyGivenNames f; have := fun a => f a; clear this; unfold f; clear f)
    | with_reducible refine State.when_frame ?_ (fun t ht => ?_)
    | with_reducible refine State.peatRecord_frame ?_ ?_   ?_

theorem State.useUp_frame {W : List Part} {R : List Regs} {s0 s : State} {p : ℕ} (hW : ∀ p ∈ ([.aq] : List Part), p ∈ W) (h :
    Frame W R s0 s) :
    Frame W R s0 (State.useUp s p) := by
  unfold State.useUp
  repeat' first
    | with_reducible exact h
    | with_reducible assumption
    | (extract_lets +onlyGivenNames x; refine have_frame (x := x) ?_ (fun hx => ?_); (on_goal 2 => (clear_value x; revert x; intro _ _)); (on_goal 1 => (unfold x; clear x)))
    | (extract_lets +onlyGivenNames y; clear_value y; revert y; intro _)
    | with_reducible refine State.when_frame ?_ (fun t ht => ?_)
    | with_reducible refine State.updAq_frame ?_    ?_
    | with_reducible refine State.updSession_frame ?_    ?_

theorem State.take_frame {W : List Part} {R : List Regs} {s0 s : State} {p : ℕ} {emf : ℕ} (hW : ∀ p ∈ ([.mireIrq, .fenIrq,
    .seqs, .chans, .stg, .lev, .peat, .aq, .dyke] : List Part), p ∈ W) (hR : RegsIn (alarmRegs ++ haltRegs ++ ([.arr
    (.MBX_DONE_DONE 0) 0x4 2, .grid (.MBX_RSP_DATA 0 0) 0x400 64 0x4 64, .arr (.MBX_STAT_CANCEL_REQ 0) 0x400 64, .arr
    (.MBX_STAT_STARTED 0) 0x400 64, .arr (.MBX_STAT_STATE 0) 0x400 64, .arr (.MBX_LATCH_RSP_STATUS 0) 0x400 64, .fld
    .DYKE_SLOT_INACTIVE] : List Regs)) R) (h : Frame W R s0 s) :
    Frame W R s0 (State.take s p emf) := by
  unfold State.take
  repeat' first
    | with_reducible exact h
    | with_reducible assumption
    | (extract_lets +onlyGivenNames x; refine have_frame (x := x) ?_ (fun hx => ?_); (on_goal 2 => (clear_value x; revert x; intro _ _)); (on_goal 1 => (unfold x; clear x)))
    | (extract_lets +onlyGivenNames y; clear_value y; revert y; intro _)
    | exact parts_sub hW rfl
    | exact regs_sub hR (by decide +kernel)
    | with_reducible refine ite_frame (fun _ => ?_) (fun _ => ?_)
    | with_reducible refine State.when_frame ?_ (fun t ht => ?_)
    | with_reducible refine State.abortRecord_frame ?_ ?_   ?_
    | with_reducible refine State.respond_frame ?_ ?_   ?_
    | with_reducible refine State.updAq_frame ?_    ?_
    | with_reducible refine State.useUp_frame ?_    ?_
    | with_reducible refine State.set_frame ?_ ?_
    | exact cov_arr (f := .MBX_STAT_STARTED 0) (k := 0x400) (m := 64) hR (by decide +kernel) (by decide) rfl
    | exact cov_arr (f := .MBX_STAT_STATE 0) (k := 0x400) (m := 64) hR (by decide +kernel) (by decide) rfl
    | split

theorem execRequestStart_frame {W : List Part} {R : List Regs} {s : State} {emf : ℕ} (hW : ∀ p ∈ ([.mireIrq, .fenIrq, .seqs,
    .chans, .stg, .lev, .peat, .aq, .dyke] : List Part), p ∈ W) (hR : RegsIn (alarmRegs ++ haltRegs ++ ([.arr (.MBX_DONE_DONE
    0) 0x4 2, .grid (.MBX_RSP_DATA 0 0) 0x400 64 0x4 64, .arr (.MBX_STAT_CANCEL_REQ 0) 0x400 64, .arr (.MBX_STAT_STARTED 0)
    0x400 64, .arr (.MBX_STAT_STATE 0) 0x400 64, .arr (.MBX_LATCH_RSP_STATUS 0) 0x400 64, .fld .DYKE_SLOT_INACTIVE] : List
    Regs)) R) :
    OutFrame W R s (execRequestStart emf s) := by
  unfold execRequestStart
  repeat' first
    | exact parts_sub hW rfl
    | with_reducible refine next_frame ?_
    | with_reducible assumption
    | with_reducible exact Frame.refl _ _ _
    | with_reducible refine ite_frame (fun _ => ?_) (fun _ => ?_)
    | with_reducible refine State.take_frame ?_ ?_   ?_
    | split

theorem State.svcErr_frame {W : List Part} {R : List Regs} {s0 s : State} {e : ℕ} (hW : ∀ p ∈ ([.aq] : List Part), p ∈ W) (h :
    Frame W R s0 s) :
    Frame W R s0 (State.svcErr s e) := by
  unfold State.svcErr
  repeat' first
    | with_reducible exact h
    | with_reducible assumption
    | with_reducible refine State.updAq_frame ?_    ?_

theorem State.svcSend_frame {W : List Part} {R : List Regs} {s0 s : State} {sent : List Byte} {out : List Byte} (hW : ∀ p ∈
    ([.aq] : List Part), p ∈ W) (h : Frame W R s0 s) :
    Frame W R s0 (State.svcSend s sent out) := by
  unfold State.svcSend
  repeat' first
    | with_reducible exact h
    | with_reducible assumption
    | with_reducible refine State.updAq_frame ?_    ?_

theorem execSvcRequest_frame {W : List Part} {R : List Regs} {s : State} {bytes : List Byte} (hW : ∀ p ∈ ([.aq] : List Part),
    p ∈ W) (hR : RegsIn (([.grid (.MBX_REQ_DATA 0 0) 0x400 64 0x4 64, .arr (.MBX_STAT_SESSION 0) 0x400 64, .arr
    (.MBX_STAT_CANCEL_REQ 0) 0x400 64, .arr (.MBX_STAT_DB_ERR 0) 0x400 64, .arr (.MBX_STAT_STARTED 0) 0x400 64, .arr
    (.MBX_STAT_STATE 0) 0x400 64, .arr (.MBX_LATCH_CMD 0) 0x400 64, .arr (.MBX_LATCH_TAG 0) 0x400 64, .arr (.MBX_LATCH_GEN_GEN
    0) 0x400 64] : List Regs)) R) :
    OutFrame W R s (execSvcRequest bytes s) := by
  unfold execSvcRequest
  repeat' first
    | (extract_lets +onlyGivenNames y; clear_value y; revert y; intro _)
    | exact parts_sub hW rfl
    | with_reducible refine next_frame ?_
    | with_reducible refine ite_out (fun _ => ?_) (fun _ => ?_)
    | with_reducible assumption
    | exact regs_sub hR (by decide +kernel)
    | with_reducible exact Frame.refl _ _ _
    | with_reducible refine State.forN_frame ?_ (fun i t ht => ?_)
    | with_reducible refine State.ring_frame ?_ ?_   ?_
    | with_reducible refine State.set_frame ?_ ?_
    | with_reducible refine State.svcErr_frame ?_    ?_
    | exact cov_grid (f := .MBX_REQ_DATA 0 0) (k := 0x400) (m := 64) (u := 0x4) (l := 64) hR (by decide +kernel) (by decide) (by decide) rfl
    | split

theorem execSvcResponse_frame {W : List Part} {R : List Regs} {s : State} {slot : ℕ} {cut : Bool} (hW : ∀ p ∈ ([.aq] : List
    Part), p ∈ W) :
    OutFrame W R s (execSvcResponse slot cut s) := by
  unfold execSvcResponse
  repeat' first
    | (extract_lets +onlyGivenNames y; clear_value y; revert y; intro _)
    | exact parts_sub hW rfl
    | with_reducible refine next_frame ?_
    | with_reducible refine ite_out (fun _ => ?_) (fun _ => ?_)
    | with_reducible exact Frame.refl _ _ _
    | with_reducible refine State.svcSend_frame ?_    ?_
    | with_reducible refine State.svcErr_frame ?_    ?_

theorem State.svcSlot_frame {W : List Part} {R : List Regs} {s0 s : State} {opcode : ℕ} {bytes : List Byte} {f : ℕ → State →
    State} (hW : ∀ p ∈ ([.aq] : List Part), p ∈ W) (hf : ∀ i t, Frame W R s0 t → Frame W R s0 (f i t)) (h : Frame W R s0 s) :
    Frame W R s0 (State.svcSlot s opcode bytes f) := by
  unfold State.svcSlot
  repeat' first
    | with_reducible exact h
    | with_reducible assumption
    | (extract_lets +onlyGivenNames y; clear_value y; revert y; intro _)
    | with_reducible refine ite_frame (fun _ => ?_) (fun _ => ?_)
    | with_reducible refine State.svcErr_frame ?_    ?_
    | with_reducible refine hf _ _ ?_
    | split

theorem execSvcAck_frame {W : List Part} {R : List Regs} {s : State} {bytes : List Byte} (hW : ∀ p ∈ ([.aq] : List Part), p ∈
    W) (hR : RegsIn (([.arr (.MBX_DONE_DONE 0) 0x4 2, .arr (.MBX_STAT_DB_ERR 0) 0x400 64, .arr (.MBX_STAT_STATE 0) 0x400 64] :
    List Regs)) R) :
    OutFrame W R s (execSvcAck bytes s) := by
  unfold execSvcAck
  repeat' first
    | exact parts_sub hW rfl
    | with_reducible refine next_frame ?_
    | with_reducible assumption
    | with_reducible exact Frame.refl _ _ _
    | with_reducible refine ite_frame (fun _ => ?_) (fun _ => ?_)
    | with_reducible refine State.svcSlot_frame ?_   (fun i t ht => ?_) ?_
    | with_reducible refine State.svcErr_frame ?_    ?_
    | with_reducible refine State.ackPair_frame  ?_   ?_

theorem execSvcCancel_frame {W : List Part} {R : List Regs} {s : State} {bytes : List Byte} (hW : ∀ p ∈ ([.fenIrq, .aq, .dyke]
    : List Part), p ∈ W) (hR : RegsIn (([.fld .PEAT_STATUS_STAMP_WAIT, .fld .PEAT_STATUS_HELD, .fld .PEAT_STATUS_USED, .fld
    .PEAT_FRZ_AREA, .arr (.MBX_DONE_DONE 0) 0x4 2, .grid (.MBX_RSP_DATA 0 0) 0x400 64 0x4 64, .arr (.MBX_STAT_CANCEL_REQ 0)
    0x400 64, .arr (.MBX_STAT_STARTED 0) 0x400 64, .arr (.MBX_STAT_STATE 0) 0x400 64, .arr (.MBX_LATCH_RSP_STATUS 0) 0x400 64,
    .fld .DYKE_SLOT_INACTIVE] : List Regs)) R) :
    OutFrame W R s (execSvcCancel bytes s) := by
  unfold execSvcCancel
  repeat' first
    | exact parts_sub hW rfl
    | with_reducible refine next_frame ?_
    | with_reducible assumption
    | with_reducible exact Frame.refl _ _ _
    | with_reducible refine State.cancelPair_frame ?_ ?_   ?_
    | with_reducible refine State.svcSlot_frame ?_   (fun i t ht => ?_) ?_

theorem execSvcStatus_frame {W : List Part} {R : List Regs} {s : State} {cut : Bool} (hW : ∀ p ∈ ([.aq] : List Part), p ∈ W) :
    OutFrame W R s (execSvcStatus cut s) := by
  unfold execSvcStatus
  repeat' first
    | (extract_lets +onlyGivenNames y; clear_value y; revert y; intro _)
    | exact parts_sub hW rfl
    | with_reducible refine next_frame ?_
    | with_reducible refine ite_out (fun _ => ?_) (fun _ => ?_)
    | with_reducible exact Frame.refl _ _ _
    | with_reducible refine State.svcSend_frame ?_    ?_
    | with_reducible refine State.svcErr_frame ?_    ?_

theorem execPortReset_frame {W : List Part} {R : List Regs} {s : State} {bytes : List Byte} (hW : ∀ p ∈ ([.fenIrq, .aq, .dyke]
    : List Part), p ∈ W) (hR : RegsIn (([.fld .PEAT_STATUS_STAMP_WAIT, .fld .PEAT_STATUS_HELD, .fld .PEAT_STATUS_USED, .fld
    .PEAT_FRZ_AREA, .arr (.MBX_DONE_DONE 0) 0x4 2, .grid (.MBX_RSP_DATA 0 0) 0x400 64 0x4 64, .arr (.MBX_STAT_CANCEL_REQ 0)
    0x400 64, .arr (.MBX_STAT_STARTED 0) 0x400 64, .arr (.MBX_STAT_STATE 0) 0x400 64, .arr (.MBX_LATCH_RSP_STATUS 0) 0x400 64,
    .fld .DYKE_SLOT_INACTIVE] : List Regs)) R) :
    OutFrame W R s (execPortReset bytes s) := by
  unfold execPortReset
  repeat' first
    | exact parts_sub hW rfl
    | with_reducible refine next_frame ?_
    | with_reducible refine ite_out (fun _ => ?_) (fun _ => ?_)
    | with_reducible assumption
    | with_reducible exact Frame.refl _ _ _
    | with_reducible refine State.closeSessions_frame ?_ ?_   ?_
    | with_reducible refine State.svcErr_frame ?_    ?_
    | split

theorem execSvcUnknownOpcode_frame {W : List Part} {R : List Regs} {s : State} (hW : ∀ p ∈ ([.aq] : List Part), p ∈ W) :
    OutFrame W R s (execSvcUnknownOpcode s) := by
  unfold execSvcUnknownOpcode
  repeat' first
    | exact parts_sub hW rfl
    | with_reducible refine next_frame ?_
    | with_reducible assumption
    | with_reducible exact Frame.refl _ _ _
    | with_reducible refine State.when_frame ?_ (fun t ht => ?_)
    | with_reducible refine State.svcErr_frame ?_    ?_

/-! ### Machine/SectionCmds.lean -/

theorem State.setSpeed_frame {W : List Part} {R : List Regs} {s0 s : State} {v : ℕ} (hW : ∀ p ∈ ([.withy] : List Part), p ∈ W)
    (hR : RegsIn (([.fld .WTH_SPN_STATUS_AT_SPEED, .fld .WTH_SPN_STATUS_SPD95, .fld .WTH_SPN_STATUS_SPD90, .fld
    .WTH_SPN_SPEED_SPEED] : List Regs)) R) (h : Frame W R s0 s) :
    Frame W R s0 (State.setSpeed s v) := by
  unfold State.setSpeed
  repeat' first
    | with_reducible exact h
    | with_reducible assumption
    | exact regs_sub hR (by decide +kernel)
    | with_reducible refine State.set_frame ?_ ?_
    | with_reducible refine State.retarget_frame ?_ ?_   ?_
    | exact cov_fld hR (by decide +kernel)

theorem execSpindleSet_frame {W : List Part} {R : List Regs} {s : State} {p : ℕ} (hW : ∀ p ∈ ([.mireIrq, .fenIrq, .seqs,
    .chans, .stg, .tide, .withy, .aq, .dyke] : List Part), p ∈ W) (hR : RegsIn (([.fld .PEAT_STATUS_STAMP_WAIT, .fld
    .PEAT_STATUS_HELD, .fld .PEAT_STATUS_USED, .fld .PEAT_FRZ_AREA, .arr (.REED_ST_STATUS_STATE 0) 0x100 8, .arr
    (.REED_ST_STATUS_TERM 0) 0x100 8, .fld .SDG_STATUS_RES_IRQ, .fld .SDG_STATUS_PENDING, .arr (.SDG_ST_STATUS_RES_OVF 0)
    0x400 8, .arr (.SDG_ST_STATUS_RES_CNT 0) 0x400 8, .arr (.SDG_ST_STATUS_PARK_USED 0) 0x400 8, .arr
    (.SDG_ST_STATUS_PENDING_CNT 0) 0x400 8] : List Regs) ++ ([.arr (.SDG_FE_STATUS_TA_ACTIVE 0) 0x400 8, .arr
    (.SDG_FE_STATUS_DO_ACTIVE 0) 0x400 8, .fld .SDG_WF_STATUS_CAUSE_SEEN, .arr (.SDG_WR_STATUS_WG 0) 0x400 8, .arr
    (.SDG_WR_STATUS_CAUSE 0) 0x400 8, .arr (.SDG_WR_STATUS_DROPS 0) 0x400 8, .arr (.SDG_WR_DROP_MANG 0) 0x400 8, .arr
    (.SLU_STG_STATUS_ACTIVE 0) 0x4 8, .arr (.SLU_STG_STATUS_DIR 0) 0x4 8, .arr (.SLU_STG_STATUS_RESV 0) 0x4 8, .arr
    (.SLU_STG_STATUS_READY 0) 0x4 8, .fld .TIDE_STATUS_STATE] : List Regs) ++ ([.fld .TIDE_CELL_PERIOD_PERIOD, .fld
    .WTH_SPN_CTRL_SRC, .fld .WTH_SPN_CTRL_RUN, .fld .WTH_SPN_STATUS_STATE, .fld .WTH_SPN_STATUS_ATTEMPT, .fld
    .WTH_SPN_STATUS_AT_SPEED, .fld .WTH_SPN_STATUS_SPD95, .fld .WTH_SPN_STATUS_SPD90, .fld .WTH_SPN_STATUS_DIR_REV, .fld
    .WTH_SPN_STATUS_FW_ACTIVE, .fld .WTH_SPN_STATUS_FW_SAT, .fld .WTH_SPN_STATUS_STOP_BLOCKED] : List Regs) ++ ([.fld
    .WTH_SPN_SPEED_SPEED, .fld .WTH_SPN_MEAS_TRACK, .fld .WTH_SPN_FOC_ID, .fld .WTH_SPN_FOC_MI, .arr (.MBX_DONE_DONE 0) 0x4 2,
    .grid (.MBX_RSP_DATA 0 0) 0x400 64 0x4 64, .arr (.MBX_STAT_CANCEL_REQ 0) 0x400 64, .arr (.MBX_STAT_STARTED 0) 0x400 64,
    .arr (.MBX_STAT_STATE 0) 0x400 64, .arr (.MBX_LATCH_RSP_STATUS 0) 0x400 64, .fld .DYKE_SLOT_INACTIVE] : List Regs)) R) :
    OutFrame W R s (execSpindleSet p s) := by
  unfold execSpindleSet
  repeat' first
    | (extract_lets +onlyGivenNames x; refine have_frame (x := x) ?_ (fun hx => ?_); (on_goal 2 => (clear_value x; revert x; intro _ _)); (on_goal 1 => (unfold x; clear x)))
    | (extract_lets +onlyGivenNames y; clear_value y; revert y; intro _)
    | exact parts_sub hW rfl
    | with_reducible refine next_frame ?_
    | with_reducible assumption
    | exact regs_sub hR (by decide +kernel)
    | with_reducible exact Frame.refl _ _ _
    | with_reducible refine ite_frame (fun _ => ?_) (fun _ => ?_)
    | with_reducible refine State.when_frame ?_ (fun t ht => ?_)
    | with_reducible refine State.onCommand_frame    (fun t ht => ?_) ?_
    | with_reducible refine State.runStart_frame ?_ ?_   ?_
    | with_reducible refine State.respondBad_frame ?_ ?_   ?_
    | with_reducible refine State.respondOk_frame ?_ ?_   ?_
    | with_reducible refine State.updAq_frame ?_    ?_
    | with_reducible refine State.runStop_frame ?_ ?_   ?_
    | with_reducible refine State.updRun_frame ?_    ?_
    | with_reducible refine State.setSpeed_frame ?_ ?_   ?_
    | with_reducible refine State.setSource_frame ?_ ?_   ?_

theorem execSpindleStatus_frame {W : List Part} {R : List Regs} {s : State} {p : ℕ} (hW : ∀ p ∈ ([.fenIrq, .aq, .dyke] : List
    Part), p ∈ W) (hR : RegsIn (([.fld .PEAT_STATUS_STAMP_WAIT, .fld .PEAT_STATUS_HELD, .fld .PEAT_STATUS_USED, .fld
    .PEAT_FRZ_AREA, .arr (.MBX_DONE_DONE 0) 0x4 2, .grid (.MBX_RSP_DATA 0 0) 0x400 64 0x4 64, .arr (.MBX_STAT_CANCEL_REQ 0)
    0x400 64, .arr (.MBX_STAT_STARTED 0) 0x400 64, .arr (.MBX_STAT_STATE 0) 0x400 64, .arr (.MBX_LATCH_RSP_STATUS 0) 0x400 64,
    .fld .DYKE_SLOT_INACTIVE] : List Regs)) R) :
    OutFrame W R s (execSpindleStatus p s) := by
  unfold execSpindleStatus
  repeat' first
    | exact parts_sub hW rfl
    | with_reducible refine next_frame ?_
    | with_reducible assumption
    | with_reducible exact Frame.refl _ _ _
    | with_reducible refine State.onCommand_frame    (fun t ht => ?_) ?_
    | with_reducible refine State.respondOk_frame ?_ ?_   ?_

theorem execMotorClear_frame {W : List Part} {R : List Regs} {s : State} {p : ℕ} {emf : ℕ} (hW : ∀ p ∈ ([.mireIrq, .fenIrq,
    .seqs, .chans, .stg, .tide, .withy, .aq, .dyke] : List Part), p ∈ W) (hR : RegsIn (([.fld .PEAT_STATUS_STAMP_WAIT, .fld
    .PEAT_STATUS_HELD, .fld .PEAT_STATUS_USED, .fld .PEAT_FRZ_AREA, .arr (.REED_ST_STATUS_STATE 0) 0x100 8, .arr
    (.REED_ST_STATUS_TERM 0) 0x100 8, .fld .SDG_STATUS_RES_IRQ, .fld .SDG_STATUS_PENDING, .arr (.SDG_ST_STATUS_RES_OVF 0)
    0x400 8, .arr (.SDG_ST_STATUS_RES_CNT 0) 0x400 8, .arr (.SDG_ST_STATUS_PARK_USED 0) 0x400 8, .arr
    (.SDG_ST_STATUS_PENDING_CNT 0) 0x400 8] : List Regs) ++ ([.arr (.SDG_FE_STATUS_TA_ACTIVE 0) 0x400 8, .arr
    (.SDG_FE_STATUS_DO_ACTIVE 0) 0x400 8, .fld .SDG_WF_STATUS_CAUSE_SEEN, .arr (.SDG_WR_STATUS_WG 0) 0x400 8, .arr
    (.SDG_WR_STATUS_CAUSE 0) 0x400 8, .arr (.SDG_WR_STATUS_DROPS 0) 0x400 8, .arr (.SDG_WR_DROP_MANG 0) 0x400 8, .arr
    (.SLU_STG_STATUS_ACTIVE 0) 0x4 8, .arr (.SLU_STG_STATUS_DIR 0) 0x4 8, .arr (.SLU_STG_STATUS_RESV 0) 0x4 8, .arr
    (.SLU_STG_STATUS_READY 0) 0x4 8, .fld .TIDE_STATUS_STATE] : List Regs) ++ ([.fld .TIDE_CELL_PERIOD_PERIOD, .fld
    .WTH_SPN_STATUS_STATE, .fld .WTH_SPN_STATUS_AT_SPEED, .fld .WTH_SPN_STATUS_FW_ACTIVE, .fld .WTH_SPN_STATUS_FW_SAT, .fld
    .WTH_SPN_STATUS_STOP_BLOCKED, .fld .WTH_SPN_MEAS_TRACK, .fld .WTH_SPN_FOC_ID, .fld .WTH_SPN_FOC_MI, .arr (.MBX_DONE_DONE
    0) 0x4 2, .grid (.MBX_RSP_DATA 0 0) 0x400 64 0x4 64, .arr (.MBX_STAT_CANCEL_REQ 0) 0x400 64] : List Regs) ++ ([.arr
    (.MBX_STAT_STARTED 0) 0x400 64, .arr (.MBX_STAT_STATE 0) 0x400 64, .arr (.MBX_LATCH_RSP_STATUS 0) 0x400 64, .fld
    .DYKE_SLOT_INACTIVE] : List Regs)) R) :
    OutFrame W R s (execMotorClear p emf s) := by
  unfold execMotorClear
  repeat' first
    | exact parts_sub hW rfl
    | with_reducible refine next_frame ?_
    | with_reducible assumption
    | exact regs_sub hR (by decide +kernel)
    | with_reducible exact Frame.refl _ _ _
    | with_reducible refine State.clearFault_frame ?_ ?_   ?_
    | with_reducible refine State.onCommand_frame    (fun t ht => ?_) ?_
    | with_reducible refine State.respondOk_frame ?_ ?_   ?_

theorem execEncSyncSet_frame {W : List Part} {R : List Regs} {s : State} {p : ℕ} (hW : ∀ p ∈ ([.mireIrq, .fenIrq, .seqs,
    .chans, .stg, .tide, .lev, .peat, .aq, .dyke] : List Part), p ∈ W) (hR : RegsIn (alarmRegs ++ haltRegs ++ ([.fld
    .TIDE_STATUS_ESI_VALID, .fld .TIDE_CTRL_ESO_EN, .fld .TIDE_CTRL_ESI_EN, .fld .TIDE_CTRL_ESI_PHASE_EN, .fld
    .TIDE_ESI_PHASE_OFFSET, .arr (.MBX_DONE_DONE 0) 0x4 2, .grid (.MBX_RSP_DATA 0 0) 0x400 64 0x4 64, .arr
    (.MBX_STAT_CANCEL_REQ 0) 0x400 64, .arr (.MBX_STAT_STARTED 0) 0x400 64, .arr (.MBX_STAT_STATE 0) 0x400 64, .arr
    (.MBX_LATCH_RSP_STATUS 0) 0x400 64, .fld .DYKE_SLOT_INACTIVE] : List Regs)) R) :
    OutFrame W R s (execEncSyncSet p s) := by
  unfold execEncSyncSet
  repeat' first
    | (extract_lets +onlyGivenNames x; refine have_frame (x := x) ?_ (fun hx => ?_); (on_goal 2 => (clear_value x; revert x; intro _ _)); (on_goal 1 => (unfold x; clear x)))
    | (extract_lets +onlyGivenNames y; clear_value y; revert y; intro _)
    | exact parts_sub hW rfl
    | with_reducible refine next_frame ?_
    | with_reducible assumption
    | exact regs_sub hR (by decide +kernel)
    | with_reducible exact Frame.refl _ _ _
    | with_reducible refine State.onCommand_frame    (fun t ht => ?_) ?_
    | with_reducible refine State.esiControl_frame ?_ ?_   ?_
    | with_reducible refine State.set_frame ?_ ?_
    | with_reducible refine State.respondOk_frame ?_ ?_   ?_
    | exact cov_fld hR (by decide +kernel)

theorem State.startLoad_frame {W : List Part} {R : List Regs} {s0 s : State} {k : ℕ} (hW : ∀ p ∈ ([.withy, .tus, .mq] : List
    Part), p ∈ W) (hR : RegsIn (([.arr (.WTH_VCM_CTRL_EN 0) 0x4 4, .arr (.WTH_VCM_STATUS_PARKED 0) 0x4 4, .arr
    (.WTH_VCM_STATUS_ENABLED 0) 0x4 4, .arr (.TUS_SEC_CTRL_LANE_EN 0) 0x40 4, .arr (.TUS_SEEK_STATUS_SEEKING 0) 0x20 4, .arr
    (.TUS_SEEK_STATUS_HINT_ACTIVE 0) 0x20 4, .arr (.TUS_SEEK_STATUS_SETTLED 0) 0x20 4] : List Regs)) R) (h : Frame W R s0 s) :
    Frame W R s0 (State.startLoad s k) := by
  unfold State.startLoad
  repeat' first
    | with_reducible exact h
    | with_reducible assumption
    | (extract_lets +onlyGivenNames x; refine have_frame (x := x) ?_ (fun hx => ?_); (on_goal 2 => (clear_value x; revert x; intro _ _)); (on_goal 1 => (unfold x; clear x)))
    | exact parts_sub hW rfl
    | exact regs_sub hR (by decide +kernel)
    | with_reducible refine State.forN_frame ?_ (fun i t ht => ?_)
    | with_reducible refine State.laneOff_frame ?_    ?_
    | with_reducible refine State.enableVcm_frame ?_ ?_   ?_
    | with_reducible refine State.updSec_frame ?_    ?_
    | with_reducible refine State.set_frame ?_ ?_
    | with_reducible refine State.updMq_frame ?_    ?_
    | exact cov_arr (f := .TUS_SEC_CTRL_LANE_EN 0) (k := 0x40) (m := 4) hR (by decide +kernel) (by decide) rfl
    | exact cov_arr (f := .TUS_SEEK_STATUS_SEEKING 0) (k := 0x20) (m := 4) hR (by decide +kernel) (by decide) rfl
    | exact cov_arr (f := .TUS_SEEK_STATUS_HINT_ACTIVE 0) (k := 0x20) (m := 4) hR (by decide +kernel) (by decide) rfl
    | exact cov_arr (f := .TUS_SEEK_STATUS_SETTLED 0) (k := 0x20) (m := 4) hR (by decide +kernel) (by decide) rfl

theorem State.endLoad_frame {W : List Part} {R : List Regs} {s0 s : State} {k : ℕ} {lock : Option ℕ} (hW : ∀ p ∈ ([.seqs,
    .chans, .withy, .tus] : List Part), p ∈ W) (hR : RegsIn (([.fld .SDG_WF_STATUS_CAUSE_SEEN, .arr (.SDG_WR_STATUS_WG 0)
    0x400 8, .arr (.SDG_WR_STATUS_CAUSE 0) 0x400 8, .arr (.SDG_WR_STATUS_DROPS 0) 0x400 8, .arr (.SDG_WR_DROP_MANG 0) 0x400 8,
    .arr (.WTH_VCM_STATUS_RET_ACTIVE 0) 0x4 4, .arr (.WTH_VCM_STATUS_ENABLED 0) 0x4 4, .arr (.WTH_MA_CTRL_HOLD 0) 0x4 8, .arr
    (.WTH_MA_STATUS_VOUT 0) 0x4 8, .arr (.TUS_SEC_STATUS_MISS1 0) 0x40 4, .arr (.TUS_SEC_STATUS_MISS0 0) 0x40 4, .arr
    (.MWQ_STATUS_BLOCKED 0) 0x20 16] : List Regs) ++ ([.arr (.MWQ_STATUS_OUTST 0) 0x20 16, .fld .MWQ_SYS_STATUS_FLUSH, .fld
    .MWQ_SYS_STATUS_CAL] : List Regs)) R) (h : Frame W R s0 s) :
    Frame W R s0 (State.endLoad s k lock).2 := by
  unfold State.endLoad
  repeat' first
    | with_reducible exact h
    | with_reducible assumption
    | (extract_lets +onlyGivenNames x; refine have_frame (x := x) ?_ (fun hx => ?_); (on_goal 2 => (clear_value x; revert x; intro _ _)); (on_goal 1 => (unfold x; clear x)))
    | (extract_lets +onlyGivenNames y; clear_value y; revert y; intro _)
    | exact parts_sub hW rfl
    | exact regs_sub hR (by decide +kernel)
    | with_reducible refine State.set_frame ?_ ?_
    | with_reducible refine State.updLane_frame ?_    ?_
    | with_reducible refine State.startRetract_frame ?_ ?_   ?_
    | with_reducible refine State.mwqSync_frame  ?_   ?_
    | exact cov_arr (f := .TUS_SEC_STATUS_MISS1 0) (k := 0x40) (m := 4) hR (by decide +kernel) (by decide) rfl
    | exact cov_arr (f := .TUS_SEC_STATUS_MISS0 0) (k := 0x40) (m := 4) hR (by decide +kernel) (by decide) rfl
    | split

theorem State.hintsParked_frame {W : List Part} {R : List Regs} {s0 s : State} {y0 : List Mwd} (hW : ∀ p ∈ ([.dram, .drawn,
    .mireIrq, .fenIrq, .seqs, .chans, .stg, .lev, .peat, .slu, .mq] : List Part), p ∈ W) (hR : RegsIn (alarmRegs ++ haltRegs
    ++ ([.arr (.MWQ_STATUS_BLOCKED 0) 0x20 16, .arr (.MWQ_STATUS_OUTST 0) 0x20 16, .arr (.MWC_PI_PASS 0) 0x20 4, .arr
    (.MWC_PI_PI 0) 0x20 4, .arr (.MWC_STATUS_SCAN_STOP 0) 0x20 4, .arr (.MWC_STATUS_SPILL_CNT 0) 0x20 4, .fld
    .MWQ_SYS_STATUS_FLUSH, .fld .MWQ_SYS_STATUS_CAL, .fld .SLU_STATUS_LED_FREE, .arr (.SLU_SEC_FREE_FREE 0) 0x4 4, .arr
    (.SLU_SEC_RUN_RUN 0) 0x4 4, .arr (.SLU_CRED_USED_USED 0) 0x4 32] : List Regs)) R) (h : Frame W R s0 s) :
    Frame W R s0 (State.hintsParked s y0) := by
  induction y0 generalizing s  with
  | nil =>
    unfold State.hintsParked
    repeat' first
      | with_reducible exact h
  | cons b bs ih =>
    unfold State.hintsParked
    repeat' first
      | with_reducible apply ih
      | with_reducible exact h
      | with_reducible assumption
      | with_reducible refine ite_frame (fun _ => ?_) (fun _ => ?_)
      | with_reducible refine State.when_frame ?_ (fun t ht => ?_)
      | with_reducible refine State.complete_frame ?_ ?_   ?_
      | with_reducible refine State.completeIdle_frame ?_ ?_   ?_

theorem State.sectionParked_frame {W : List Part} {R : List Regs} {s0 s : State} {k : ℕ} (hW : ∀ p ∈ ([.dram, .drawn,
    .mireIrq, .fenIrq, .seqs, .chans, .stg, .lev, .peat, .slu, .mq] : List Part), p ∈ W) (hR : RegsIn (alarmRegs ++ haltRegs
    ++ ([.arr (.MWQ_STATUS_BLOCKED 0) 0x20 16, .arr (.MWQ_STATUS_OUTST 0) 0x20 16, .arr (.MWC_PI_PASS 0) 0x20 4, .arr
    (.MWC_PI_PI 0) 0x20 4, .arr (.MWC_STATUS_SCAN_STOP 0) 0x20 4, .arr (.MWC_STATUS_SPILL_CNT 0) 0x20 4, .fld
    .MWQ_SYS_STATUS_FLUSH, .fld .MWQ_SYS_STATUS_CAL, .fld .SLU_STATUS_LED_FREE, .arr (.SLU_SEC_FREE_FREE 0) 0x4 4, .arr
    (.SLU_SEC_RUN_RUN 0) 0x4 4, .arr (.SLU_CRED_USED_USED 0) 0x4 32] : List Regs)) R) (h : Frame W R s0 s) :
    Frame W R s0 (State.sectionParked s k) := by
  unfold State.sectionParked
  repeat' first
    | with_reducible exact h
    | with_reducible assumption
    | exact regs_sub hR (by decide +kernel)
    | with_reducible refine State.hintsParked_frame ?_ ?_   ?_
    | with_reducible refine State.mwqSync_frame  ?_   ?_

theorem State.parkSeen_frame {W : List Part} {R : List Regs} {s0 s : State} {k : ℕ} (hW : ∀ p ∈ ([.dram, .drawn, .mireIrq,
    .fenIrq, .seqs, .chans, .stg, .lev, .peat, .slu, .mq] : List Part), p ∈ W) (hR : RegsIn (alarmRegs ++ haltRegs ++ ([.arr
    (.MWQ_STATUS_BLOCKED 0) 0x20 16, .arr (.MWQ_STATUS_OUTST 0) 0x20 16, .arr (.MWC_PI_PASS 0) 0x20 4, .arr (.MWC_PI_PI 0)
    0x20 4, .arr (.MWC_STATUS_SCAN_STOP 0) 0x20 4, .arr (.MWC_STATUS_SPILL_CNT 0) 0x20 4, .fld .MWQ_SYS_STATUS_FLUSH, .fld
    .MWQ_SYS_STATUS_CAL, .fld .SLU_STATUS_LED_FREE, .arr (.SLU_SEC_FREE_FREE 0) 0x4 4, .arr (.SLU_SEC_RUN_RUN 0) 0x4 4, .arr
    (.SLU_CRED_USED_USED 0) 0x4 32] : List Regs)) R) (h : Frame W R s0 s) :
    Frame W R s0 (State.parkSeen s k) := by
  unfold State.parkSeen
  repeat' first
    | with_reducible exact h
    | with_reducible assumption
    | with_reducible refine State.when_frame ?_ (fun t ht => ?_)
    | with_reducible refine State.sectionParked_frame ?_ ?_   ?_

theorem execRetractEnd_frame {W : List Part} {R : List Regs} {s : State} {k : ℕ} (hW : ∀ p ∈ ([.dram, .drawn, .mireIrq,
    .fenIrq, .seqs, .chans, .stg, .lev, .peat, .withy, .slu, .mq] : List Part), p ∈ W) (hR : RegsIn (alarmRegs ++ haltRegs ++
    ([.arr (.WTH_VCM_CTRL_EN 0) 0x4 4, .arr (.WTH_VCM_STATUS_RET_ACTIVE 0) 0x4 4, .arr (.WTH_VCM_STATUS_PARKED 0) 0x4 4, .arr
    (.WTH_VCM_STATUS_ENABLED 0) 0x4 4, .arr (.MWQ_STATUS_BLOCKED 0) 0x20 16, .arr (.MWQ_STATUS_OUTST 0) 0x20 16, .arr
    (.MWC_PI_PASS 0) 0x20 4, .arr (.MWC_PI_PI 0) 0x20 4, .arr (.MWC_STATUS_SCAN_STOP 0) 0x20 4, .arr (.MWC_STATUS_SPILL_CNT 0)
    0x20 4, .fld .MWQ_SYS_STATUS_FLUSH, .fld .MWQ_SYS_STATUS_CAL] : List Regs) ++ ([.fld .SLU_STATUS_LED_FREE, .arr
    (.SLU_SEC_FREE_FREE 0) 0x4 4, .arr (.SLU_SEC_RUN_RUN 0) 0x4 4, .arr (.SLU_CRED_USED_USED 0) 0x4 32] : List Regs)) R) :
    OutFrame W R s (execRetractEnd k s) := by
  unfold execRetractEnd
  repeat' first
    | (extract_lets +onlyGivenNames x; refine have_frame (x := x) ?_ (fun hx => ?_); (on_goal 2 => (clear_value x; revert x; intro _ _)); (on_goal 1 => (unfold x; clear x)))
    | (extract_lets +onlyGivenNames y; clear_value y; revert y; intro _)
    | exact parts_sub hW rfl
    | with_reducible refine next_frame ?_
    | with_reducible assumption
    | exact regs_sub hR (by decide +kernel)
    | with_reducible exact Frame.refl _ _ _
    | with_reducible refine State.when_frame ?_ (fun t ht => ?_)
    | with_reducible refine State.parkSeen_frame ?_ ?_   ?_
    | with_reducible refine State.bridgeTo_frame ?_    ?_
    | with_reducible refine State.bridgeOff_frame ?_ ?_   ?_
    | with_reducible refine State.set_frame ?_ ?_
    | exact cov_arr (f := .WTH_VCM_STATUS_RET_ACTIVE 0) (k := 0x4) (m := 4) hR (by decide +kernel) (by decide) rfl
    | exact cov_arr (f := .WTH_VCM_STATUS_PARKED 0) (k := 0x4) (m := 4) hR (by decide +kernel) (by decide) rfl
    | with_reducible refine upd_withy ?_ ?_

theorem execPark_frame {W : List Part} {R : List Regs} {s : State} {k : ℕ} (hW : ∀ p ∈ ([.dram, .bus, .drawn, .mireIrq,
    .fenIrq, .seqs, .chans, .stg, .lev, .peat, .withy, .slu, .mq] : List Part), p ∈ W) (hR : RegsIn (alarmRegs ++ haltRegs ++
    ([.arr (.WTH_VCM_CTRL_EN 0) 0x4 4, .arr (.WTH_VCM_STATUS_PARKED 0) 0x4 4, .arr (.WTH_VCM_STATUS_ENABLED 0) 0x4 4, .arr
    (.MWQ_STATUS_BLOCKED 0) 0x20 16, .arr (.MWQ_STATUS_OUTST 0) 0x20 16, .arr (.MWC_PI_PASS 0) 0x20 4, .arr (.MWC_PI_PI 0)
    0x20 4, .arr (.MWC_STATUS_SCAN_STOP 0) 0x20 4, .arr (.MWC_STATUS_SPILL_CNT 0) 0x20 4, .fld .MWQ_SYS_STATUS_FLUSH, .fld
    .MWQ_SYS_STATUS_CAL, .fld .SLU_STATUS_LED_FREE] : List Regs) ++ ([.arr (.SLU_SEC_FREE_FREE 0) 0x4 4, .arr
    (.SLU_SEC_RUN_RUN 0) 0x4 4, .arr (.SLU_CRED_USED_USED 0) 0x4 32] : List Regs)) R) :
    OutFrame W R s (execPark k s) := by
  unfold execPark
  repeat' first
    | exact parts_sub hW rfl
    | with_reducible refine next_frame ?_
    | exact regs_sub hR (by decide +kernel)
    | with_reducible exact Frame.refl _ _ _
    | with_reducible refine State.park_frame ?_ ?_   ?_
    | with_reducible refine State.ack_frame ?_    ?_
    | with_reducible refine State.parkSeen_frame ?_ ?_   ?_

theorem execVcmEnable_frame {W : List Part} {R : List Regs} {s : State} {k : ℕ} (hW : ∀ p ∈ ([.bus, .withy] : List Part), p ∈
    W) (hR : RegsIn (([.arr (.WTH_VCM_CTRL_EN 0) 0x4 4, .arr (.WTH_VCM_STATUS_PARKED 0) 0x4 4, .arr (.WTH_VCM_STATUS_ENABLED
    0) 0x4 4, .arr (.MWQ_STATUS_BLOCKED 0) 0x20 16, .arr (.MWQ_STATUS_OUTST 0) 0x20 16, .fld .MWQ_SYS_STATUS_FLUSH, .fld
    .MWQ_SYS_STATUS_CAL] : List Regs)) R) :
    OutFrame W R s (execVcmEnable k s) := by
  unfold execVcmEnable
  repeat' first
    | exact parts_sub hW rfl
    | with_reducible refine next_frame ?_
    | exact regs_sub hR (by decide +kernel)
    | with_reducible exact Frame.refl _ _ _
    | with_reducible refine State.ack_frame ?_    ?_
    | with_reducible refine State.enableVcm_frame ?_ ?_   ?_
    | with_reducible refine State.mwqSync_frame  ?_   ?_

theorem State.holdSections_frame {W : List Part} {R : List Regs} {s0 s : State} {l : List ℕ} (hW : ∀ p ∈ ([.mq] : List Part),
    p ∈ W) (h : Frame W R s0 s) :
    Frame W R s0 (State.holdSections s l) := by
  unfold State.holdSections
  repeat' first
    | with_reducible exact h
    | with_reducible assumption
    | with_reducible refine State.updMq_frame ?_    ?_

theorem State.unload_frame {W : List Part} {R : List Regs} {s0 s : State} {stalls : ℕ} {y1 : List ℕ} (hW : ∀ p ∈ ([.seqs,
    .chans, .withy] : List Part), p ∈ W) (hR : RegsIn (([.fld .SDG_WF_STATUS_CAUSE_SEEN, .arr (.SDG_WR_STATUS_WG 0) 0x400 8,
    .arr (.SDG_WR_STATUS_CAUSE 0) 0x400 8, .arr (.SDG_WR_STATUS_DROPS 0) 0x400 8, .arr (.SDG_WR_DROP_MANG 0) 0x400 8, .arr
    (.WTH_VCM_CTRL_EN 0) 0x4 4, .arr (.WTH_VCM_STATUS_RET_ACTIVE 0) 0x4 4, .arr (.WTH_VCM_STATUS_PARKED 0) 0x4 4, .arr
    (.WTH_VCM_STATUS_ENABLED 0) 0x4 4, .arr (.WTH_MA_CTRL_HOLD 0) 0x4 8, .arr (.WTH_MA_STATUS_VOUT 0) 0x4 8] : List Regs)) R)
    (h : Frame W R s0 s) :
    Frame W R s0 (State.unload s stalls y1) := by
  induction y1 generalizing s stalls with
  | nil =>
    unfold State.unload
    repeat' first
      | with_reducible exact h
  | cons b bs ih =>
    unfold State.unload
    repeat' first
      | with_reducible apply ih
      | with_reducible exact h
      | with_reducible assumption
      | exact parts_sub hW rfl
      | exact regs_sub hR (by decide +kernel)
      | with_reducible refine ite_frame (fun _ => ?_) (fun _ => ?_)
      | with_reducible refine State.park_frame ?_ ?_   ?_
      | with_reducible refine State.startRetract_frame ?_ ?_   ?_

theorem execTideTimingLost_frame {W : List Part} {R : List Regs} {s : State} {stalls : ℕ} (hW : ∀ p ∈ ([.dram, .drawn,
    .mireIrq, .fenIrq, .seqs, .chans, .stg, .tide, .lev, .peat, .withy, .slu, .mq] : List Part), p ∈ W) (hR : RegsIn
    (alarmRegs ++ haltRegs ++ ([.fld .TIDE_STATUS_STATE, .fld .TIDE_CELL_PERIOD_PERIOD, .fld .WTH_SPN_MEAS_TRACK, .arr
    (.WTH_VCM_CTRL_EN 0) 0x4 4, .arr (.WTH_VCM_STATUS_RET_ACTIVE 0) 0x4 4, .arr (.WTH_VCM_STATUS_PARKED 0) 0x4 4, .arr
    (.WTH_VCM_STATUS_ENABLED 0) 0x4 4, .arr (.WTH_MA_CTRL_HOLD 0) 0x4 8, .arr (.WTH_MA_STATUS_VOUT 0) 0x4 8, .arr
    (.MWQ_STATUS_BLOCKED 0) 0x20 16, .arr (.MWQ_STATUS_OUTST 0) 0x20 16, .arr (.MWC_PI_PASS 0) 0x20 4] : List Regs) ++ ([.arr
    (.MWC_PI_PI 0) 0x20 4, .arr (.MWC_STATUS_SCAN_STOP 0) 0x20 4, .arr (.MWC_STATUS_SPILL_CNT 0) 0x20 4, .fld
    .MWQ_SYS_STATUS_FLUSH, .fld .MWQ_SYS_STATUS_CAL, .fld .SLU_STATUS_LED_FREE, .arr (.SLU_SEC_FREE_FREE 0) 0x4 4, .arr
    (.SLU_SEC_RUN_RUN 0) 0x4 4, .arr (.SLU_CRED_USED_USED 0) 0x4 32] : List Regs)) R) :
    OutFrame W R s (execTideTimingLost stalls s) := by
  unfold execTideTimingLost
  repeat' first
    | exact parts_sub hW rfl
    | with_reducible refine next_frame ?_
    | with_reducible assumption
    | exact regs_sub hR (by decide +kernel)
    | with_reducible exact Frame.refl _ _ _
    | with_reducible refine State.when_frame ?_ (fun t ht => ?_)
    | with_reducible refine foldl_frame ?_ (fun t x ht => ?_)
    | with_reducible refine State.sectionParked_frame ?_ ?_   ?_
    | with_reducible refine State.unload_frame ?_ ?_   ?_
    | with_reducible refine State.raise_frame ?_ ?_   ?_
    | with_reducible refine State.tideFree_frame ?_ ?_   ?_
    | with_reducible refine State.holdSections_frame ?_    ?_

theorem execSectionPark_frame {W : List Part} {R : List Regs} {s : State} {p : ℕ} {stalls : ℕ} (hW : ∀ p ∈ ([.dram, .drawn,
    .mireIrq, .fenIrq, .seqs, .chans, .stg, .lev, .peat, .withy, .slu, .mq, .aq, .dyke] : List Part), p ∈ W) (hR : RegsIn
    (alarmRegs ++ haltRegs ++ ([.arr (.WTH_VCM_CTRL_EN 0) 0x4 4, .arr (.WTH_VCM_STATUS_RET_ACTIVE 0) 0x4 4, .arr
    (.WTH_VCM_STATUS_PARKED 0) 0x4 4, .arr (.WTH_VCM_STATUS_ENABLED 0) 0x4 4, .arr (.WTH_MA_CTRL_HOLD 0) 0x4 8, .arr
    (.WTH_MA_STATUS_VOUT 0) 0x4 8, .arr (.MBX_DONE_DONE 0) 0x4 2, .grid (.MBX_RSP_DATA 0 0) 0x400 64 0x4 64, .arr
    (.MBX_STAT_CANCEL_REQ 0) 0x400 64, .arr (.MBX_STAT_STARTED 0) 0x400 64, .arr (.MBX_STAT_STATE 0) 0x400 64, .arr
    (.MBX_LATCH_RSP_STATUS 0) 0x400 64] : List Regs) ++ ([.arr (.MWQ_STATUS_BLOCKED 0) 0x20 16, .arr (.MWQ_STATUS_OUTST 0)
    0x20 16, .arr (.MWC_PI_PASS 0) 0x20 4, .arr (.MWC_PI_PI 0) 0x20 4, .arr (.MWC_STATUS_SCAN_STOP 0) 0x20 4, .arr
    (.MWC_STATUS_SPILL_CNT 0) 0x20 4, .fld .MWQ_SYS_STATUS_FLUSH, .fld .MWQ_SYS_STATUS_CAL, .fld .SLU_STATUS_LED_FREE, .arr
    (.SLU_SEC_FREE_FREE 0) 0x4 4, .arr (.SLU_SEC_RUN_RUN 0) 0x4 4, .arr (.SLU_CRED_USED_USED 0) 0x4 32] : List Regs) ++ ([.fld
    .DYKE_SLOT_INACTIVE] : List Regs)) R) :
    OutFrame W R s (execSectionPark p stalls s) := by
  unfold execSectionPark
  repeat' first
    | (extract_lets +onlyGivenNames x; refine have_frame (x := x) ?_ (fun hx => ?_); (on_goal 2 => (clear_value x; revert x; intro _ _)); (on_goal 1 => (unfold x; clear x)))
    | (extract_lets +onlyGivenNames y; clear_value y; revert y; intro _)
    | exact parts_sub hW rfl
    | with_reducible refine next_frame ?_
    | with_reducible assumption
    | exact regs_sub hR (by decide +kernel)
    | with_reducible exact Frame.refl _ _ _
    | with_reducible refine ite_frame (fun _ => ?_) (fun _ => ?_)
    | with_reducible refine State.when_frame ?_ (fun t ht => ?_)
    | with_reducible refine foldl_frame ?_ (fun t x ht => ?_)
    | with_reducible refine State.onCommand_frame    (fun t ht => ?_) ?_
    | with_reducible refine State.sectionParked_frame ?_ ?_   ?_
    | with_reducible refine State.respondOk_frame ?_ ?_   ?_
    | with_reducible refine State.updRun_frame ?_    ?_
    | with_reducible refine State.holdSections_frame ?_    ?_
    | with_reducible refine State.unload_frame ?_ ?_   ?_

theorem execRetract_frame {W : List Part} {R : List Regs} {s : State} {p : ℕ} (hW : ∀ p ∈ ([.dram, .drawn, .mireIrq, .fenIrq,
    .seqs, .chans, .stg, .lev, .peat, .withy, .slu, .mq, .aq, .dyke] : List Part), p ∈ W) (hR : RegsIn (alarmRegs ++ haltRegs
    ++ ([.arr (.WTH_VCM_STATUS_RET_ACTIVE 0) 0x4 4, .arr (.WTH_VCM_STATUS_ENABLED 0) 0x4 4, .arr (.WTH_MA_CTRL_HOLD 0) 0x4 8,
    .arr (.WTH_MA_STATUS_VOUT 0) 0x4 8, .arr (.MBX_DONE_DONE 0) 0x4 2, .grid (.MBX_RSP_DATA 0 0) 0x400 64 0x4 64, .arr
    (.MBX_STAT_CANCEL_REQ 0) 0x400 64, .arr (.MBX_STAT_STARTED 0) 0x400 64, .arr (.MBX_STAT_STATE 0) 0x400 64, .arr
    (.MBX_LATCH_RSP_STATUS 0) 0x400 64, .arr (.MWQ_STATUS_BLOCKED 0) 0x20 16, .arr (.MWQ_STATUS_OUTST 0) 0x20 16] : List Regs)
    ++ ([.arr (.MWC_PI_PASS 0) 0x20 4, .arr (.MWC_PI_PI 0) 0x20 4, .arr (.MWC_STATUS_SCAN_STOP 0) 0x20 4, .arr
    (.MWC_STATUS_SPILL_CNT 0) 0x20 4, .fld .MWQ_SYS_STATUS_FLUSH, .fld .MWQ_SYS_STATUS_CAL, .fld .SLU_STATUS_LED_FREE, .arr
    (.SLU_SEC_FREE_FREE 0) 0x4 4, .arr (.SLU_SEC_RUN_RUN 0) 0x4 4, .arr (.SLU_CRED_USED_USED 0) 0x4 32, .fld
    .DYKE_SLOT_INACTIVE] : List Regs)) R) :
    OutFrame W R s (execRetract p s) := by
  unfold execRetract
  repeat' first
    | (extract_lets +onlyGivenNames x; refine have_frame (x := x) ?_ (fun hx => ?_); (on_goal 2 => (clear_value x; revert x; intro _ _)); (on_goal 1 => (unfold x; clear x)))
    | (extract_lets +onlyGivenNames y; clear_value y; revert y; intro _)
    | exact parts_sub hW rfl
    | with_reducible refine next_frame ?_
    | with_reducible assumption
    | exact regs_sub hR (by decide +kernel)
    | with_reducible exact Frame.refl _ _ _
    | with_reducible refine ite_frame (fun _ => ?_) (fun _ => ?_)
    | with_reducible refine State.when_frame ?_ (fun t ht => ?_)
    | with_reducible refine foldl_frame ?_ (fun t x ht => ?_)
    | with_reducible refine State.terminate_frame ?_ ?_   ?_
    | with_reducible refine State.onCommand_frame    (fun t ht => ?_) ?_
    | with_reducible refine State.sectionParked_frame ?_ ?_   ?_
    | with_reducible refine State.respondOk_frame ?_ ?_   ?_
    | with_reducible refine State.updRun_frame ?_    ?_
    | with_reducible refine State.startRetract_frame ?_ ?_   ?_

theorem State.loadStep_frame {W : List Part} {R : List Regs} {s0 s : State} {p : ℕ} {lock : Option ℕ} {stops : Bool} (hW : ∀ p
    ∈ ([.seqs, .chans, .withy, .tus, .mq, .aq] : List Part), p ∈ W) (hR : RegsIn (([.fld .SDG_WF_STATUS_CAUSE_SEEN, .arr
    (.SDG_WR_STATUS_WG 0) 0x400 8, .arr (.SDG_WR_STATUS_CAUSE 0) 0x400 8, .arr (.SDG_WR_STATUS_DROPS 0) 0x400 8, .arr
    (.SDG_WR_DROP_MANG 0) 0x400 8, .arr (.WTH_VCM_CTRL_EN 0) 0x4 4, .arr (.WTH_VCM_STATUS_RET_ACTIVE 0) 0x4 4, .arr
    (.WTH_VCM_STATUS_PARKED 0) 0x4 4, .arr (.WTH_VCM_STATUS_ENABLED 0) 0x4 4, .arr (.WTH_MA_CTRL_HOLD 0) 0x4 8, .arr
    (.WTH_MA_STATUS_VOUT 0) 0x4 8, .arr (.TUS_SEC_CTRL_LANE_EN 0) 0x40 4] : List Regs) ++ ([.arr (.TUS_SEC_STATUS_MISS1 0)
    0x40 4, .arr (.TUS_SEC_STATUS_MISS0 0) 0x40 4, .arr (.TUS_SEEK_STATUS_SEEKING 0) 0x20 4, .arr
    (.TUS_SEEK_STATUS_HINT_ACTIVE 0) 0x20 4, .arr (.TUS_SEEK_STATUS_SETTLED 0) 0x20 4, .arr (.MWQ_STATUS_BLOCKED 0) 0x20 16,
    .arr (.MWQ_STATUS_OUTST 0) 0x20 16, .fld .MWQ_SYS_STATUS_FLUSH, .fld .MWQ_SYS_STATUS_CAL] : List Regs)) R) (h : Frame W R
    s0 s) :
    Frame W R s0 (State.loadStep s p lock stops) := by
  unfold State.loadStep
  repeat' first
    | with_reducible exact h
    | with_reducible assumption
    | (extract_lets +onlyGivenNames x; refine have_frame (x := x) ?_ (fun hx => ?_); (on_goal 2 => (clear_value x; revert x; intro _ _)); (on_goal 1 => (unfold x; clear x)))
    | (extract_lets +onlyGivenNames y; clear_value y; revert y; intro _)
    | exact parts_sub hW rfl
    | exact regs_sub hR (by decide +kernel)
    | with_reducible refine ite_frame (fun _ => ?_) (fun _ => ?_)
    | with_reducible refine State.endLoad_frame ?_ ?_   ?_
    | with_reducible refine State.startLoad_frame ?_ ?_   ?_
    | with_reducible refine State.updRun_frame ?_    ?_
    | split

theorem execSectionLoad_frame {W : List Part} {R : List Regs} {s : State} {p : ℕ} {lock : Option ℕ} (hW : ∀ p ∈ ([.fenIrq,
    .seqs, .chans, .withy, .tus, .mq, .aq, .dyke] : List Part), p ∈ W) (hR : RegsIn (([.fld .PEAT_STATUS_STAMP_WAIT, .fld
    .PEAT_STATUS_HELD, .fld .PEAT_STATUS_USED, .fld .PEAT_FRZ_AREA, .fld .SDG_WF_STATUS_CAUSE_SEEN, .arr (.SDG_WR_STATUS_WG 0)
    0x400 8, .arr (.SDG_WR_STATUS_CAUSE 0) 0x400 8, .arr (.SDG_WR_STATUS_DROPS 0) 0x400 8, .arr (.SDG_WR_DROP_MANG 0) 0x400 8,
    .arr (.WTH_VCM_CTRL_EN 0) 0x4 4, .arr (.WTH_VCM_STATUS_RET_ACTIVE 0) 0x4 4, .arr (.WTH_VCM_STATUS_PARKED 0) 0x4 4] : List
    Regs) ++ ([.arr (.WTH_VCM_STATUS_ENABLED 0) 0x4 4, .arr (.WTH_MA_CTRL_HOLD 0) 0x4 8, .arr (.WTH_MA_STATUS_VOUT 0) 0x4 8,
    .arr (.TUS_SEC_CTRL_LANE_EN 0) 0x40 4, .arr (.TUS_SEC_STATUS_MISS1 0) 0x40 4, .arr (.TUS_SEC_STATUS_MISS0 0) 0x40 4, .arr
    (.TUS_SEEK_STATUS_SEEKING 0) 0x20 4, .arr (.TUS_SEEK_STATUS_HINT_ACTIVE 0) 0x20 4, .arr (.TUS_SEEK_STATUS_SETTLED 0) 0x20
    4, .arr (.MBX_DONE_DONE 0) 0x4 2, .grid (.MBX_RSP_DATA 0 0) 0x400 64 0x4 64, .arr (.MBX_STAT_CANCEL_REQ 0) 0x400 64] :
    List Regs) ++ ([.arr (.MBX_STAT_STARTED 0) 0x400 64, .arr (.MBX_STAT_STATE 0) 0x400 64, .arr (.MBX_LATCH_RSP_STATUS 0)
    0x400 64, .arr (.MWQ_STATUS_BLOCKED 0) 0x20 16, .arr (.MWQ_STATUS_OUTST 0) 0x20 16, .fld .MWQ_SYS_STATUS_FLUSH, .fld
    .MWQ_SYS_STATUS_CAL, .fld .DYKE_SLOT_INACTIVE] : List Regs)) R) :
    OutFrame W R s (execSectionLoad p lock s) := by
  unfold execSectionLoad
  repeat' first
    | (extract_lets +onlyGivenNames x; refine have_frame (x := x) ?_ (fun hx => ?_); (on_goal 2 => (clear_value x; revert x; intro _ _)); (on_goal 1 => (unfold x; clear x)))
    | (extract_lets +onlyGivenNames y; clear_value y; revert y; intro _)
    | exact parts_sub hW rfl
    | with_reducible refine next_frame ?_
    | with_reducible assumption
    | exact regs_sub hR (by decide +kernel)
    | with_reducible exact Frame.refl _ _ _
    | with_reducible refine ite_frame (fun _ => ?_) (fun _ => ?_)
    | with_reducible refine State.when_frame ?_ (fun t ht => ?_)
    | with_reducible refine State.onCommand_frame    (fun t ht => ?_) ?_
    | with_reducible refine State.respondBad_frame ?_ ?_   ?_
    | with_reducible refine State.respondOk_frame ?_ ?_   ?_
    | with_reducible refine State.updRun_frame ?_    ?_
    | with_reducible refine State.loadStep_frame ?_ ?_   ?_

theorem execSectionStatus_frame {W : List Part} {R : List Regs} {s : State} {p : ℕ} (hW : ∀ p ∈ ([.fenIrq, .aq, .dyke] : List
    Part), p ∈ W) (hR : RegsIn (([.fld .PEAT_STATUS_STAMP_WAIT, .fld .PEAT_STATUS_HELD, .fld .PEAT_STATUS_USED, .fld
    .PEAT_FRZ_AREA, .arr (.MBX_DONE_DONE 0) 0x4 2, .grid (.MBX_RSP_DATA 0 0) 0x400 64 0x4 64, .arr (.MBX_STAT_CANCEL_REQ 0)
    0x400 64, .arr (.MBX_STAT_STARTED 0) 0x400 64, .arr (.MBX_STAT_STATE 0) 0x400 64, .arr (.MBX_LATCH_RSP_STATUS 0) 0x400 64,
    .fld .DYKE_SLOT_INACTIVE] : List Regs)) R) :
    OutFrame W R s (execSectionStatus p s) := by
  unfold execSectionStatus
  repeat' first
    | (extract_lets +onlyGivenNames y; clear_value y; revert y; intro _)
    | exact parts_sub hW rfl
    | with_reducible refine next_frame ?_
    | with_reducible assumption
    | with_reducible exact Frame.refl _ _ _
    | with_reducible refine State.onCommand_frame    (fun t ht => ?_) ?_
    | with_reducible refine State.respondOk_frame ?_ ?_   ?_

theorem State.endStart_frame {W : List Part} {R : List Regs} {s0 s : State} {result : ℕ} (hW : ∀ p ∈ ([.mq, .aq] : List Part),
    p ∈ W) (hR : RegsIn (([.fld .MBX_START_RESULT, .fld .MBX_START_FAILED, .fld .MBX_START_LOADED] : List Regs)) R) (h : Frame
    W R s0 s) :
    Frame W R s0 (State.endStart s result) := by
  unfold State.endStart
  repeat' first
    | with_reducible exact h
    | with_reducible assumption
    | (extract_lets +onlyGivenNames x; refine have_frame (x := x) ?_ (fun hx => ?_); (on_goal 2 => (clear_value x; revert x; intro _ _)); (on_goal 1 => (unfold x; clear x)))
    | (extract_lets +onlyGivenNames y; clear_value y; revert y; intro _)
    | exact parts_sub hW rfl
    | with_reducible refine ite_frame (fun _ => ?_) (fun _ => ?_)
    | with_reducible refine State.updAq_frame ?_    ?_
    | with_reducible refine State.set_frame ?_ ?_
    | with_reducible refine State.updMq_frame ?_    ?_
    | exact cov_fld hR (by decide +kernel)

theorem State.psSpindle_frame {W : List Part} {R : List Regs} {s0 s : State} {target : ℕ} (hW : ∀ p ∈ ([.mireIrq, .seqs,
    .chans, .stg, .tide, .withy, .aq] : List Part), p ∈ W) (hR : RegsIn (haltRegs ++ ([.fld .TIDE_STATUS_STATE, .fld
    .TIDE_CELL_PERIOD_PERIOD, .fld .WTH_SPN_CTRL_SRC, .fld .WTH_SPN_CTRL_RUN, .fld .WTH_SPN_STATUS_STATE, .fld
    .WTH_SPN_STATUS_ATTEMPT, .fld .WTH_SPN_STATUS_AT_SPEED, .fld .WTH_SPN_STATUS_SPD95, .fld .WTH_SPN_STATUS_SPD90, .fld
    .WTH_SPN_STATUS_DIR_REV, .fld .WTH_SPN_STATUS_FW_ACTIVE, .fld .WTH_SPN_STATUS_FW_SAT] : List Regs) ++ ([.fld
    .WTH_SPN_STATUS_STOP_BLOCKED, .fld .WTH_SPN_SPEED_SPEED, .fld .WTH_SPN_MEAS_TRACK, .fld .WTH_SPN_CUR_IRUN, .fld
    .WTH_SPN_FOC_ID, .fld .WTH_SPN_FOC_MI, .fld .TUS_SPN_PROF_RACC, .fld .TUS_SPN_PROF_RATE] : List Regs)) R) (h : Frame W R
    s0 s) :
    Frame W R s0 (State.psSpindle s target) := by
  unfold State.psSpindle
  repeat' first
    | with_reducible exact h
    | with_reducible assumption
    | (extract_lets +onlyGivenNames x; refine have_frame (x := x) ?_ (fun hx => ?_); (on_goal 2 => (clear_value x; revert x; intro _ _)); (on_goal 1 => (unfold x; clear x)))
    | exact parts_sub hW rfl
    | exact regs_sub hR (by decide +kernel)
    | with_reducible refine ite_frame (fun _ => ?_) (fun _ => ?_)
    | with_reducible refine State.when_frame ?_ (fun t ht => ?_)
    | with_reducible refine State.runStart_frame ?_ ?_   ?_
    | with_reducible refine State.updAq_frame ?_    ?_
    | with_reducible refine State.runStop_frame ?_ ?_   ?_
    | with_reducible refine State.setSpeed_frame ?_ ?_   ?_
    | with_reducible refine State.setSource_frame ?_ ?_   ?_
    | with_reducible refine State.set_frame ?_ ?_
    | exact cov_fld hR (by decide +kernel)

theorem State.psRestore_frame {W : List Part} {R : List Regs} {s0 s : State} (hW : ∀ p ∈ ([.aq] : List Part), p ∈ W) (hR :
    RegsIn (([.fld .WTH_SPN_CUR_IRUN, .fld .TUS_SPN_PROF_RACC, .fld .TUS_SPN_PROF_RATE] : List Regs)) R) (h : Frame W R s0 s)
    :
    Frame W R s0 (State.psRestore s) := by
  unfold State.psRestore
  repeat' first
    | with_reducible exact h
    | with_reducible assumption
    | with_reducible refine State.updAq_frame ?_    ?_
    | with_reducible refine State.set_frame ?_ ?_
    | exact cov_fld hR (by decide +kernel)
    | split

theorem State.psEnd_frame {W : List Part} {R : List Regs} {s0 s : State} {p : ℕ} {status : ℕ} (hW : ∀ p ∈ ([.fenIrq, .aq,
    .dyke] : List Part), p ∈ W) (hR : RegsIn (([.fld .PEAT_STATUS_STAMP_WAIT, .fld .PEAT_STATUS_HELD, .fld .PEAT_STATUS_USED,
    .fld .PEAT_FRZ_AREA, .arr (.MBX_DONE_DONE 0) 0x4 2, .grid (.MBX_RSP_DATA 0 0) 0x400 64 0x4 64, .arr (.MBX_STAT_CANCEL_REQ
    0) 0x400 64, .arr (.MBX_STAT_STARTED 0) 0x400 64, .arr (.MBX_STAT_STATE 0) 0x400 64, .arr (.MBX_LATCH_RSP_STATUS 0) 0x400
    64, .arr (.MWQ_STATUS_BLOCKED 0) 0x20 16, .arr (.MWQ_STATUS_OUTST 0) 0x20 16] : List Regs) ++ ([.fld
    .MWQ_SYS_STATUS_FLUSH, .fld .MWQ_SYS_STATUS_CAL, .fld .DYKE_SLOT_INACTIVE] : List Regs)) R) (h : Frame W R s0 s) :
    Frame W R s0 (State.psEnd s p status) := by
  unfold State.psEnd
  repeat' first
    | with_reducible exact h
    | with_reducible assumption
    | (extract_lets +onlyGivenNames x; refine have_frame (x := x) ?_ (fun hx => ?_); (on_goal 2 => (clear_value x; revert x; intro _ _)); (on_goal 1 => (unfold x; clear x)))
    | exact parts_sub hW rfl
    | exact regs_sub hR (by decide +kernel)
    | with_reducible refine State.respondBad_frame ?_ ?_   ?_
    | with_reducible refine State.updAq_frame ?_    ?_
    | with_reducible refine State.mwqSync_frame  ?_   ?_

theorem execPowerStateSet_frame {W : List Part} {R : List Regs} {s : State} {p : ℕ} {lock : Option ℕ} {stalls : ℕ} (hW : ∀ p ∈
    ([.dram, .drawn, .mireIrq, .fenIrq, .seqs, .chans, .stg, .tide, .lev, .peat, .withy, .tus, .slu, .mq, .aq, .dyke] : List
    Part), p ∈ W) (hR : RegsIn (alarmRegs ++ haltRegs ++ ([.fld .TIDE_STATUS_STATE, .fld .TIDE_CELL_PERIOD_PERIOD, .fld
    .WTH_SPN_CTRL_SRC, .fld .WTH_SPN_CTRL_RUN, .fld .WTH_SPN_STATUS_STATE, .fld .WTH_SPN_STATUS_ATTEMPT, .fld
    .WTH_SPN_STATUS_AT_SPEED, .fld .WTH_SPN_STATUS_SPD95, .fld .WTH_SPN_STATUS_SPD90, .fld .WTH_SPN_STATUS_DIR_REV, .fld
    .WTH_SPN_STATUS_FW_ACTIVE, .fld .WTH_SPN_STATUS_FW_SAT] : List Regs) ++ ([.fld .WTH_SPN_STATUS_STOP_BLOCKED, .fld
    .WTH_SPN_SPEED_SPEED, .fld .WTH_SPN_MEAS_TRACK, .fld .WTH_SPN_CUR_IRUN, .fld .WTH_SPN_FOC_ID, .fld .WTH_SPN_FOC_MI, .arr
    (.WTH_VCM_CTRL_EN 0) 0x4 4, .arr (.WTH_VCM_STATUS_RET_ACTIVE 0) 0x4 4, .arr (.WTH_VCM_STATUS_PARKED 0) 0x4 4, .arr
    (.WTH_VCM_STATUS_ENABLED 0) 0x4 4, .arr (.WTH_MA_CTRL_HOLD 0) 0x4 8, .arr (.WTH_MA_STATUS_VOUT 0) 0x4 8] : List Regs) ++
    ([.arr (.TUS_SEC_CTRL_LANE_EN 0) 0x40 4, .arr (.TUS_SEC_STATUS_MISS1 0) 0x40 4, .arr (.TUS_SEC_STATUS_MISS0 0) 0x40 4,
    .fld .TUS_SPN_PROF_RACC, .fld .TUS_SPN_PROF_RATE, .fld .TUS_SEEK_GLOBAL_ASCALE, .arr (.TUS_SEEK_STATUS_SEEKING 0) 0x20 4,
    .arr (.TUS_SEEK_STATUS_HINT_ACTIVE 0) 0x20 4, .arr (.TUS_SEEK_STATUS_SETTLED 0) 0x20 4, .arr (.MBX_DONE_DONE 0) 0x4 2,
    .grid (.MBX_RSP_DATA 0 0) 0x400 64 0x4 64, .arr (.MBX_STAT_CANCEL_REQ 0) 0x400 64] : List Regs) ++ ([.arr
    (.MBX_STAT_STARTED 0) 0x400 64, .arr (.MBX_STAT_STATE 0) 0x400 64, .arr (.MBX_LATCH_RSP_STATUS 0) 0x400 64, .arr
    (.MWQ_STATUS_BLOCKED 0) 0x20 16, .arr (.MWQ_STATUS_OUTST 0) 0x20 16, .arr (.MWC_PI_PASS 0) 0x20 4, .arr (.MWC_PI_PI 0)
    0x20 4, .arr (.MWC_STATUS_SCAN_STOP 0) 0x20 4, .arr (.MWC_STATUS_SPILL_CNT 0) 0x20 4, .fld .MWQ_SYS_STATUS_FLUSH, .fld
    .MWQ_SYS_STATUS_CAL, .fld .SLU_STATUS_LED_FREE] : List Regs) ++ ([.arr (.SLU_SEC_FREE_FREE 0) 0x4 4, .arr
    (.SLU_SEC_RUN_RUN 0) 0x4 4, .arr (.SLU_CRED_USED_USED 0) 0x4 32, .fld .DYKE_SLOT_INACTIVE, .fld .MBX_START_RESULT, .fld
    .MBX_START_FAILED, .fld .MBX_START_LOADED] : List Regs)) R) :
    OutFrame W R s (execPowerStateSet p lock stalls s) := by
  unfold execPowerStateSet
  repeat' first
    | (extract_lets +onlyGivenNames x; refine have_frame (x := x) ?_ (fun hx => ?_); (on_goal 2 => (clear_value x; revert x; intro _ _)); (on_goal 1 => (unfold x; clear x)))
    | (extract_lets +onlyGivenNames f; have := fun a => f a; clear this; unfold f; clear f)
    | (extract_lets +onlyGivenNames y; clear_value y; revert y; intro _)
    | exact parts_sub hW rfl
    | with_reducible refine next_frame ?_
    | with_reducible assumption
    | exact regs_sub hR (by decide +kernel)
    | with_reducible exact Frame.refl _ _ _
    | with_reducible refine ite_frame (fun _ => ?_) (fun _ => ?_)
    | with_reducible refine State.when_frame ?_ (fun t ht => ?_)
    | with_reducible refine foldl_frame ?_ (fun t x ht => ?_)
    | with_reducible refine State.psRestore_frame ?_ ?_   ?_
    | with_reducible refine State.psEnd_frame ?_ ?_   ?_
    | with_reducible refine State.onCommand_frame    (fun t ht => ?_) ?_
    | with_reducible refine State.sectionParked_frame ?_ ?_   ?_
    | with_reducible refine State.updRun_frame ?_    ?_
    | with_reducible refine State.holdSections_frame ?_    ?_
    | with_reducible refine State.psSpindle_frame ?_ ?_   ?_
    | with_reducible refine State.updAq_frame ?_    ?_
    | with_reducible refine State.setSource_frame ?_ ?_   ?_
    | with_reducible refine State.unload_frame ?_ ?_   ?_
    | with_reducible refine State.endStart_frame ?_ ?_   ?_
    | with_reducible refine State.respondOk_frame ?_ ?_   ?_
    | with_reducible refine State.loadStep_frame ?_ ?_   ?_
    | with_reducible refine State.set_frame ?_ ?_
    | with_reducible refine State.mwqSync_frame  ?_   ?_
    | exact cov_fld hR (by decide +kernel)
    | split

theorem execPowerStatus_frame {W : List Part} {R : List Regs} {s : State} {p : ℕ} {tj : ℕ} (hW : ∀ p ∈ ([.fenIrq, .aq, .dyke]
    : List Part), p ∈ W) (hR : RegsIn (([.fld .PEAT_STATUS_STAMP_WAIT, .fld .PEAT_STATUS_HELD, .fld .PEAT_STATUS_USED, .fld
    .PEAT_FRZ_AREA, .arr (.MBX_DONE_DONE 0) 0x4 2, .grid (.MBX_RSP_DATA 0 0) 0x400 64 0x4 64, .arr (.MBX_STAT_CANCEL_REQ 0)
    0x400 64, .arr (.MBX_STAT_STARTED 0) 0x400 64, .arr (.MBX_STAT_STATE 0) 0x400 64, .arr (.MBX_LATCH_RSP_STATUS 0) 0x400 64,
    .fld .DYKE_SLOT_INACTIVE] : List Regs)) R) :
    OutFrame W R s (execPowerStatus p tj s) := by
  unfold execPowerStatus
  repeat' first
    | (extract_lets +onlyGivenNames y; clear_value y; revert y; intro _)
    | exact parts_sub hW rfl
    | with_reducible refine next_frame ?_
    | with_reducible assumption
    | with_reducible exact Frame.refl _ _ _
    | with_reducible refine State.onCommand_frame    (fun t ht => ?_) ?_
    | with_reducible refine State.respondOk_frame ?_ ?_   ?_

theorem execFenGate_frame {W : List Part} {R : List Regs} {s : State} {p : ℕ} (hW : ∀ p ∈ ([.fenIrq, .aq, .dyke] : List Part),
    p ∈ W) (hR : RegsIn (([.fld .PEAT_STATUS_STAMP_WAIT, .fld .PEAT_STATUS_HELD, .fld .PEAT_STATUS_USED, .fld .PEAT_FRZ_AREA,
    .arr (.TIDE_CG_EN_EN 0) 0x4 4, .arr (.MBX_DONE_DONE 0) 0x4 2, .grid (.MBX_RSP_DATA 0 0) 0x400 64 0x4 64, .arr
    (.MBX_STAT_CANCEL_REQ 0) 0x400 64, .arr (.MBX_STAT_STARTED 0) 0x400 64, .arr (.MBX_STAT_STATE 0) 0x400 64, .arr
    (.MBX_LATCH_RSP_STATUS 0) 0x400 64, .fld .DYKE_SLOT_INACTIVE] : List Regs)) R) :
    OutFrame W R s (execFenGate p s) := by
  unfold execFenGate
  repeat' first
    | (extract_lets +onlyGivenNames y; clear_value y; revert y; intro _)
    | exact parts_sub hW rfl
    | with_reducible refine next_frame ?_
    | with_reducible assumption
    | exact regs_sub hR (by decide +kernel)
    | with_reducible exact Frame.refl _ _ _
    | with_reducible refine State.onCommand_frame    (fun t ht => ?_) ?_
    | with_reducible refine State.set_frame ?_ ?_
    | with_reducible refine State.respondOk_frame ?_ ?_   ?_
    | exact cov_arr (f := .TIDE_CG_EN_EN 0) (k := 0x4) (m := 4) hR (by decide +kernel) (by decide) rfl

/-! ### Machine/Trust.lean -/

theorem State.extendMr_frame {W : List Part} {R : List Regs} {s0 s : State} {r : ℕ} {v : List Byte} (hR : RegsIn (([.grid
    (.DYKE_MR_DATA 0 0) 0x30 16 0x4 12] : List Regs)) R) (h : Frame W R s0 s) :
    Frame W R s0 (State.extendMr s r v) := by
  unfold State.extendMr
  repeat' first
    | with_reducible exact h
    | with_reducible assumption
    | (extract_lets +onlyGivenNames y; clear_value y; revert y; intro _)
    | with_reducible refine State.forN_frame ?_ (fun i t ht => ?_)
    | with_reducible refine State.set_frame ?_ ?_
    | exact cov_grid (f := .DYKE_MR_DATA 0 0) (k := 0x30) (m := 16) (u := 0x4) (l := 12) hR (by decide +kernel) (by decide) (by decide) rfl

theorem State.signBy_frame {W : List Part} {R : List Regs} {s0 s : State} {k : ℕ} {bytes : List Byte} (hW : ∀ p ∈ ([.drawn] :
    List Part), p ∈ W) (h : Frame W R s0 s) :
    Frame W R s0 (State.signBy s k bytes).2 := by
  unfold State.signBy
  repeat' first
    | with_reducible exact h
    | with_reducible assumption
    | with_reducible refine upd_drawn ?_ ?_

theorem State.updSlot_frame {W : List Part} {R : List Regs} {s0 s : State} {i : ℕ} {f : Slot → Slot} (hW : ∀ p ∈ ([.dyke] :
    List Part), p ∈ W) (h : Frame W R s0 s) :
    Frame W R s0 (State.updSlot s i f) := by
  unfold State.updSlot
  repeat' first
    | with_reducible exact h
    | with_reducible assumption
    | (extract_lets +onlyGivenNames y; clear_value y; revert y; intro _)
    | with_reducible refine upd_dyke ?_ ?_

theorem State.showSlot_frame {W : List Part} {R : List Regs} {s0 s : State} (hR : RegsIn (([.fld .DYKE_SLOT_SEQ, .fld
    .DYKE_SLOT_INACTIVE, .fld .DYKE_SLOT_CONFIRMED, .fld .DYKE_SLOT_POINTED] : List Regs)) R) (h : Frame W R s0 s) :
    Frame W R s0 (State.showSlot s) := by
  unfold State.showSlot
  repeat' first
    | with_reducible exact h
    | with_reducible assumption
    | (extract_lets +onlyGivenNames x; refine have_frame (x := x) ?_ (fun hx => ?_); (on_goal 2 => (clear_value x; revert x; intro _ _)); (on_goal 1 => (unfold x; clear x)))
    | with_reducible refine State.setIf_frame ?_ ?_
    | with_reducible refine State.set_frame ?_ ?_
    | exact cov_fld hR (by decide +kernel)
    | split

theorem State.writePointer_frame {W : List Part} {R : List Regs} {s0 s : State} {slot : ℕ} {trial : Bool} {tries : ℕ} {prev :
    ℕ} (hW : ∀ p ∈ ([.dyke] : List Part), p ∈ W) (hR : RegsIn (([.fld .DYKE_SLOT_SEQ, .fld .DYKE_SLOT_INACTIVE, .fld
    .DYKE_SLOT_CONFIRMED, .fld .DYKE_SLOT_POINTED] : List Regs)) R) (h : Frame W R s0 s) :
    Frame W R s0 (State.writePointer s slot trial tries prev) := by
  unfold State.writePointer
  repeat' first
    | with_reducible exact h
    | with_reducible assumption
    | (extract_lets +onlyGivenNames y; clear_value y; revert y; intro _)
    | with_reducible refine State.showSlot_frame  ?_   ?_
    | split
    | with_reducible refine upd_dyke ?_ ?_

theorem State.signedCommand_frame {W : List Part} {R : List Regs} {s0 s : State} {p : ℕ} {f : List Byte → State → State} (hW :
    ∀ p ∈ ([.mireIrq, .fenIrq, .seqs, .chans, .stg, .lev, .peat, .aq, .dyke] : List Part), p ∈ W) (hR : RegsIn (alarmRegs ++
    haltRegs ++ ([.arr (.MBX_DONE_DONE 0) 0x4 2, .grid (.MBX_RSP_DATA 0 0) 0x400 64 0x4 64, .arr (.MBX_STAT_CANCEL_REQ 0)
    0x400 64, .arr (.MBX_STAT_STARTED 0) 0x400 64, .arr (.MBX_STAT_STATE 0) 0x400 64, .arr (.MBX_LATCH_RSP_STATUS 0) 0x400 64,
    .fld .DYKE_SLOT_INACTIVE] : List Regs)) R) (hf : ∀ i t, Frame W R s0 t → Frame W R s0 (f i t)) (h : Frame W R s0 s) :
    Frame W R s0 (State.signedCommand s p f) := by
  unfold State.signedCommand
  repeat' first
    | with_reducible exact h
    | (extract_lets +onlyGivenNames y; clear_value y; revert y; intro _)
    | exact parts_sub hW rfl
    | exact regs_sub hR (by decide +kernel)
    | with_reducible refine ite_frame (fun _ => ?_) (fun _ => ?_)
    | with_reducible refine State.respondBad_frame ?_ ?_   ?_
    | with_reducible refine State.respond_frame ?_ ?_   ?_
    | with_reducible refine State.raise_frame ?_ ?_   ?_
    | with_reducible refine hf _ _ ?_
    | split

theorem State.sealRecord_frame {W : List Part} {R : List Regs} {s0 s : State} {end_ : ℕ} (hW : ∀ p ∈ ([.drawn, .mireIrq,
    .fenIrq, .seqs, .chans, .stg, .lev, .peat] : List Part), p ∈ W) (hR : RegsIn (alarmRegs ++ haltRegs) R) (h : Frame W R s0
    s) :
    Frame W R s0 (State.sealRecord s end_) := by
  unfold State.sealRecord
  repeat' first
    | with_reducible exact h
    | with_reducible assumption
    | (extract_lets +onlyGivenNames y; clear_value y; revert y; intro _)
    | exact parts_sub hW rfl
    | with_reducible refine State.peatRecord_frame ?_ ?_   ?_
    | with_reducible refine State.signBy_frame ?_    ?_

theorem State.updateRecord_frame {W : List Part} {R : List Regs} {s0 s : State} {cmd : ℕ} {status : ℕ} {version : ℕ} {applied
    : ℕ} {fail : ℕ} (hW : ∀ p ∈ ([.mireIrq, .fenIrq, .seqs, .chans, .stg, .lev, .peat] : List Part), p ∈ W) (hR : RegsIn
    (alarmRegs ++ haltRegs) R) (h : Frame W R s0 s) :
    Frame W R s0 (State.updateRecord s cmd status version applied fail) := by
  unfold State.updateRecord
  repeat' first
    | with_reducible exact h
    | with_reducible assumption
    | with_reducible refine State.peatRecord_frame ?_ ?_   ?_

/-! ### Machine/TableCmds.lean -/

theorem State.putTable_frame {W : List Part} {R : List Regs} {s0 s : State} {a : ℕ} {w : Word} (hW : ∀ p ∈ ([.tus] : List
    Part), p ∈ W) (h : Frame W R s0 s) :
    Frame W R s0 (State.putTable s a w) := by
  unfold State.putTable
  repeat' first
    | with_reducible exact h
    | with_reducible assumption
    | (extract_lets +onlyGivenNames y; clear_value y; revert y; intro _)
    | with_reducible refine upd_tus ?_ ?_

theorem State.loadTables_frame {W : List Part} {R : List Regs} {s0 s : State} (hW : ∀ p ∈ ([.mireIrq, .fenIrq, .seqs, .chans,
    .stg, .lev, .peat, .tus] : List Part), p ∈ W) (hR : RegsIn (alarmRegs ++ haltRegs ++ ([.fld .TUS_CTRL_TABLES_VALID, .arr
    (.TUS_SEC_STATUS_REGION_PEND 0) 0x40 4] : List Regs)) R) (h : Frame W R s0 s) :
    Frame W R s0 (State.loadTables s).2 := by
  unfold State.loadTables
  repeat' first
    | with_reducible exact h
    | with_reducible assumption
    | (extract_lets +onlyGivenNames x; refine have_frame (x := x) ?_ (fun hx => ?_); (on_goal 2 => (clear_value x; revert x; intro _ _)); (on_goal 1 => (unfold x; clear x)))
    | (extract_lets +onlyGivenNames y; clear_value y; revert y; intro _)
    | exact parts_sub hW rfl
    | exact regs_sub hR (by decide +kernel)
    | with_reducible refine State.when_frame ?_ (fun t ht => ?_)
    | with_reducible refine State.forN_frame ?_ (fun i t ht => ?_)
    | with_reducible refine State.freezeRegion_frame ?_ ?_   ?_
    | with_reducible refine State.setIf_frame ?_ ?_
    | with_reducible refine State.putTable_frame ?_    ?_
    | with_reducible refine State.raise_frame ?_ ?_   ?_
    | exact cov_fld hR (by decide +kernel)
    | split

theorem execServoReload_frame {W : List Part} {R : List Regs} {s : State} {p : ℕ} (hW : ∀ p ∈ ([.mireIrq, .fenIrq, .seqs,
    .chans, .stg, .lev, .peat, .tus, .aq, .dyke] : List Part), p ∈ W) (hR : RegsIn (alarmRegs ++ haltRegs ++ ([.fld
    .TUS_CTRL_TABLES_VALID, .arr (.TUS_SEC_STATUS_REGION_PEND 0) 0x40 4, .arr (.MBX_DONE_DONE 0) 0x4 2, .grid (.MBX_RSP_DATA 0
    0) 0x400 64 0x4 64, .arr (.MBX_STAT_CANCEL_REQ 0) 0x400 64, .arr (.MBX_STAT_STARTED 0) 0x400 64, .arr (.MBX_STAT_STATE 0)
    0x400 64, .arr (.MBX_LATCH_RSP_STATUS 0) 0x400 64, .fld .DYKE_SLOT_INACTIVE] : List Regs)) R) :
    OutFrame W R s (execServoReload p s) := by
  unfold execServoReload
  repeat' first
    | exact parts_sub hW rfl
    | with_reducible refine next_frame ?_
    | with_reducible assumption
    | exact regs_sub hR (by decide +kernel)
    | with_reducible exact Frame.refl _ _ _
    | with_reducible refine State.forN_frame ?_ (fun i t ht => ?_)
    | with_reducible refine snd_frame (by assumption) (State.loadTables_frame ?_ ?_   ?_)
    | with_reducible refine State.onCommand_frame    (fun t ht => ?_) ?_
    | with_reducible refine State.respondBad_frame ?_ ?_   ?_
    | with_reducible refine State.respondOk_frame ?_ ?_   ?_
    | with_reducible refine State.fetchRegion_frame ?_ ?_   ?_
    | split

theorem execServoRegionWrite_frame {W : List Part} {R : List Regs} {s : State} {p : ℕ} (hW : ∀ p ∈ ([.fenIrq, .tus, .aq,
    .dyke] : List Part), p ∈ W) (hR : RegsIn (([.fld .PEAT_STATUS_STAMP_WAIT, .fld .PEAT_STATUS_HELD, .fld .PEAT_STATUS_USED,
    .fld .PEAT_FRZ_AREA, .arr (.MBX_DONE_DONE 0) 0x4 2, .grid (.MBX_RSP_DATA 0 0) 0x400 64 0x4 64, .arr (.MBX_STAT_CANCEL_REQ
    0) 0x400 64, .arr (.MBX_STAT_STARTED 0) 0x400 64, .arr (.MBX_STAT_STATE 0) 0x400 64, .arr (.MBX_LATCH_RSP_STATUS 0) 0x400
    64, .fld .DYKE_SLOT_INACTIVE] : List Regs)) R) :
    OutFrame W R s (execServoRegionWrite p s) := by
  unfold execServoRegionWrite
  repeat' first
    | (extract_lets +onlyGivenNames y; clear_value y; revert y; intro _)
    | exact parts_sub hW rfl
    | with_reducible refine next_frame ?_
    | with_reducible assumption
    | with_reducible exact Frame.refl _ _ _
    | with_reducible refine State.forN_frame ?_ (fun i t ht => ?_)
    | with_reducible refine State.onCommand_frame    (fun t ht => ?_) ?_
    | with_reducible refine State.putTable_frame ?_    ?_
    | with_reducible refine State.respondOk_frame ?_ ?_   ?_

theorem execServoLimits_frame {W : List Part} {R : List Regs} {s : State} {p : ℕ} (hW : ∀ p ∈ ([.fenIrq, .aq, .dyke] : List
    Part), p ∈ W) (hR : RegsIn (([.fld .PEAT_STATUS_STAMP_WAIT, .fld .PEAT_STATUS_HELD, .fld .PEAT_STATUS_USED, .fld
    .PEAT_FRZ_AREA, .arr (.TUS_PROF_V_VMAX 0) 0x20 4, .arr (.TUS_PROF_A_AMAX 0) 0x20 4, .arr (.TUS_PROF_J_JMAX 0) 0x20 4, .arr
    (.TUS_SETTLE_SETTLE_CNT 0) 0x20 4, .arr (.TUS_SETTLE_WINH_THR 0) 0x20 4, .arr (.TUS_SETTLE_SETTLE_WIN 0) 0x20 4, .arr
    (.MBX_DONE_DONE 0) 0x4 2, .grid (.MBX_RSP_DATA 0 0) 0x400 64 0x4 64] : List Regs) ++ ([.arr (.MBX_STAT_CANCEL_REQ 0) 0x400
    64, .arr (.MBX_STAT_STARTED 0) 0x400 64, .arr (.MBX_STAT_STATE 0) 0x400 64, .arr (.MBX_LATCH_RSP_STATUS 0) 0x400 64, .fld
    .DYKE_SLOT_INACTIVE] : List Regs)) R) :
    OutFrame W R s (execServoLimits p s) := by
  unfold execServoLimits
  repeat' first
    | (extract_lets +onlyGivenNames x; refine have_frame (x := x) ?_ (fun hx => ?_); (on_goal 2 => (clear_value x; revert x; intro _ _)); (on_goal 1 => (unfold x; clear x)))
    | (extract_lets +onlyGivenNames y; clear_value y; revert y; intro _)
    | exact parts_sub hW rfl
    | with_reducible refine next_frame ?_
    | with_reducible assumption
    | exact regs_sub hR (by decide +kernel)
    | with_reducible exact Frame.refl _ _ _
    | with_reducible refine State.onCommand_frame    (fun t ht => ?_) ?_
    | with_reducible refine State.set_frame ?_ ?_
    | with_reducible refine State.respondOk_frame ?_ ?_   ?_
    | exact cov_arr (f := .TUS_PROF_V_VMAX 0) (k := 0x20) (m := 4) hR (by decide +kernel) (by decide) rfl
    | exact cov_arr (f := .TUS_PROF_A_AMAX 0) (k := 0x20) (m := 4) hR (by decide +kernel) (by decide) rfl
    | exact cov_arr (f := .TUS_PROF_J_JMAX 0) (k := 0x20) (m := 4) hR (by decide +kernel) (by decide) rfl
    | exact cov_arr (f := .TUS_SETTLE_SETTLE_CNT 0) (k := 0x20) (m := 4) hR (by decide +kernel) (by decide) rfl
    | exact cov_arr (f := .TUS_SETTLE_WINH_THR 0) (k := 0x20) (m := 4) hR (by decide +kernel) (by decide) rfl
    | exact cov_arr (f := .TUS_SETTLE_SETTLE_WIN 0) (k := 0x20) (m := 4) hR (by decide +kernel) (by decide) rfl

theorem execServoCoupling_frame {W : List Part} {R : List Regs} {s : State} {p : ℕ} (hW : ∀ p ∈ ([.fenIrq, .aq, .dyke] : List
    Part), p ∈ W) (hR : RegsIn (([.fld .PEAT_STATUS_STAMP_WAIT, .fld .PEAT_STATUS_HELD, .fld .PEAT_STATUS_USED, .fld
    .PEAT_FRZ_AREA, .fld .TUS_CTRL_RVFF_EN, .fld .TUS_CTRL_XC_EN, .fld .TUS_STATUS_XC_PENDING, .fld .TUS_XC_EXP_EXP, .fld
    .TUS_RV_CFG_G23, .fld .TUS_RV_CFG_G01, .grid (.TUS_XC_M 0 0) 0x10 4 0x4 4, .arr (.MBX_DONE_DONE 0) 0x4 2] : List Regs) ++
    ([.grid (.MBX_RSP_DATA 0 0) 0x400 64 0x4 64, .arr (.MBX_STAT_CANCEL_REQ 0) 0x400 64, .arr (.MBX_STAT_STARTED 0) 0x400 64,
    .arr (.MBX_STAT_STATE 0) 0x400 64, .arr (.MBX_LATCH_RSP_STATUS 0) 0x400 64, .fld .DYKE_SLOT_INACTIVE] : List Regs)) R) :
    OutFrame W R s (execServoCoupling p s) := by
  unfold execServoCoupling
  repeat' first
    | (extract_lets +onlyGivenNames x; refine have_frame (x := x) ?_ (fun hx => ?_); (on_goal 2 => (clear_value x; revert x; intro _ _)); (on_goal 1 => (unfold x; clear x)))
    | (extract_lets +onlyGivenNames y; clear_value y; revert y; intro _)
    | exact parts_sub hW rfl
    | with_reducible refine next_frame ?_
    | with_reducible assumption
    | exact regs_sub hR (by decide +kernel)
    | with_reducible exact Frame.refl _ _ _
    | with_reducible refine State.when_frame ?_ (fun t ht => ?_)
    | with_reducible refine State.forN_frame ?_ (fun i t ht => ?_)
    | with_reducible refine State.onCommand_frame    (fun t ht => ?_) ?_
    | with_reducible refine State.set_frame ?_ ?_
    | with_reducible refine State.respondOk_frame ?_ ?_   ?_
    | exact cov_fld hR (by decide +kernel)
    | exact cov_grid (f := .TUS_XC_M 0 0) (k := 0x10) (m := 4) (u := 0x4) (l := 4) hR (by decide +kernel) (by decide) (by decide) rfl

theorem execServoCapture_frame {W : List Part} {R : List Regs} {s : State} {p : ℕ} (hW : ∀ p ∈ ([.fenIrq, .tus, .aq, .dyke] :
    List Part), p ∈ W) (hR : RegsIn (([.fld .PEAT_STATUS_STAMP_WAIT, .fld .PEAT_STATUS_HELD, .fld .PEAT_STATUS_USED, .fld
    .PEAT_FRZ_AREA, .arr (.TUS_SEC_CTRL_CAP_LANE 0) 0x40 4, .arr (.TUS_SEC_STATUS_CAP_DONE 0) 0x40 4, .arr (.MBX_DONE_DONE 0)
    0x4 2, .grid (.MBX_RSP_DATA 0 0) 0x400 64 0x4 64, .arr (.MBX_STAT_CANCEL_REQ 0) 0x400 64, .arr (.MBX_STAT_STARTED 0) 0x400
    64, .arr (.MBX_STAT_STATE 0) 0x400 64, .arr (.MBX_LATCH_RSP_STATUS 0) 0x400 64] : List Regs) ++ ([.fld
    .DYKE_SLOT_INACTIVE] : List Regs)) R) :
    OutFrame W R s (execServoCapture p s) := by
  unfold execServoCapture
  repeat' first
    | (extract_lets +onlyGivenNames x; refine have_frame (x := x) ?_ (fun hx => ?_); (on_goal 2 => (clear_value x; revert x; intro _ _)); (on_goal 1 => (unfold x; clear x)))
    | (extract_lets +onlyGivenNames f; have := fun a => f a; clear this; unfold f; clear f)
    | (extract_lets +onlyGivenNames y; clear_value y; revert y; intro _)
    | exact parts_sub hW rfl
    | with_reducible refine next_frame ?_
    | with_reducible assumption
    | exact regs_sub hR (by decide +kernel)
    | with_reducible exact Frame.refl _ _ _
    | with_reducible refine ite_frame (fun _ => ?_) (fun _ => ?_)
    | with_reducible refine State.onCommand_frame    (fun t ht => ?_) ?_
    | with_reducible refine State.respondOk_frame ?_ ?_   ?_
    | with_reducible refine State.updRun_frame ?_    ?_
    | with_reducible refine State.updSec_frame ?_    ?_
    | with_reducible refine State.set_frame ?_ ?_
    | exact cov_arr (f := .TUS_SEC_CTRL_CAP_LANE 0) (k := 0x40) (m := 4) hR (by decide +kernel) (by decide) rfl
    | exact cov_arr (f := .TUS_SEC_STATUS_CAP_DONE 0) (k := 0x40) (m := 4) hR (by decide +kernel) (by decide) rfl

theorem execZoneInfo_frame {W : List Part} {R : List Regs} {s : State} {p : ℕ} (hW : ∀ p ∈ ([.fenIrq, .aq, .dyke] : List
    Part), p ∈ W) (hR : RegsIn (([.fld .PEAT_STATUS_STAMP_WAIT, .fld .PEAT_STATUS_HELD, .fld .PEAT_STATUS_USED, .fld
    .PEAT_FRZ_AREA, .arr (.MBX_DONE_DONE 0) 0x4 2, .grid (.MBX_RSP_DATA 0 0) 0x400 64 0x4 64, .arr (.MBX_STAT_CANCEL_REQ 0)
    0x400 64, .arr (.MBX_STAT_STARTED 0) 0x400 64, .arr (.MBX_STAT_STATE 0) 0x400 64, .arr (.MBX_LATCH_RSP_STATUS 0) 0x400 64,
    .fld .DYKE_SLOT_INACTIVE] : List Regs)) R) :
    OutFrame W R s (execZoneInfo p s) := by
  unfold execZoneInfo
  repeat' first
    | exact parts_sub hW rfl
    | with_reducible refine next_frame ?_
    | with_reducible assumption
    | with_reducible exact Frame.refl _ _ _
    | with_reducible refine State.onCommand_frame    (fun t ht => ?_) ?_
    | with_reducible refine State.respond_frame ?_ ?_   ?_
    | with_reducible refine State.respondOk_frame ?_ ?_   ?_
    | split

theorem execChannelAdapt_frame {W : List Part} {R : List Regs} {s : State} {p : ℕ} (hW : ∀ p ∈ ([.fenIrq, .aq, .dyke] : List
    Part), p ∈ W) (hR : RegsIn (([.fld .PEAT_STATUS_STAMP_WAIT, .fld .PEAT_STATUS_HELD, .fld .PEAT_STATUS_USED, .fld
    .PEAT_FRZ_AREA, .arr (.SDG_ST_CTRL_ITER_OTF 0) 0x400 8, .arr (.SDG_ST_CTRL_ADAPT_EN 0) 0x400 8, .arr (.SDG_EQ_CFG_MU 0)
    0x400 8, .arr (.SDG_EQ_CFG_NP_ADAPT 0) 0x400 8, .arr (.MBX_DONE_DONE 0) 0x4 2, .grid (.MBX_RSP_DATA 0 0) 0x400 64 0x4 64,
    .arr (.MBX_STAT_CANCEL_REQ 0) 0x400 64, .arr (.MBX_STAT_STARTED 0) 0x400 64] : List Regs) ++ ([.arr (.MBX_STAT_STATE 0)
    0x400 64, .arr (.MBX_LATCH_RSP_STATUS 0) 0x400 64, .fld .DYKE_SLOT_INACTIVE] : List Regs)) R) :
    OutFrame W R s (execChannelAdapt p s) := by
  unfold execChannelAdapt
  repeat' first
    | (extract_lets +onlyGivenNames x; refine have_frame (x := x) ?_ (fun hx => ?_); (on_goal 2 => (clear_value x; revert x; intro _ _)); (on_goal 1 => (unfold x; clear x)))
    | (extract_lets +onlyGivenNames y; clear_value y; revert y; intro _)
    | exact parts_sub hW rfl
    | with_reducible refine next_frame ?_
    | with_reducible assumption
    | exact regs_sub hR (by decide +kernel)
    | with_reducible exact Frame.refl _ _ _
    | with_reducible refine State.when_frame ?_ (fun t ht => ?_)
    | with_reducible refine State.forN_frame ?_ (fun i t ht => ?_)
    | with_reducible refine State.onCommand_frame    (fun t ht => ?_) ?_
    | with_reducible refine State.set_frame ?_ ?_
    | with_reducible refine State.respondOk_frame ?_ ?_   ?_
    | exact cov_arr (f := .SDG_ST_CTRL_ITER_OTF 0) (k := 0x400) (m := 8) hR (by decide +kernel) (by decide) rfl
    | exact cov_arr (f := .SDG_ST_CTRL_ADAPT_EN 0) (k := 0x400) (m := 8) hR (by decide +kernel) (by decide) rfl
    | exact cov_arr (f := .SDG_EQ_CFG_MU 0) (k := 0x400) (m := 8) hR (by decide +kernel) (by decide) rfl
    | exact cov_arr (f := .SDG_EQ_CFG_NP_ADAPT 0) (k := 0x400) (m := 8) hR (by decide +kernel) (by decide) rfl

theorem execChannelCal_frame {W : List Part} {R : List Regs} {s : State} {p : ℕ} {found : List ℕ} (hW : ∀ p ∈ ([.drawn,
    .fenIrq, .aq, .dyke] : List Part), p ∈ W) (hR : RegsIn (([.fld .PEAT_STATUS_STAMP_WAIT, .fld .PEAT_STATUS_HELD, .fld
    .PEAT_STATUS_USED, .fld .PEAT_FRZ_AREA, .arr (.MBX_DONE_DONE 0) 0x4 2, .grid (.MBX_RSP_DATA 0 0) 0x400 64 0x4 64, .arr
    (.MBX_STAT_CANCEL_REQ 0) 0x400 64, .arr (.MBX_STAT_STARTED 0) 0x400 64, .arr (.MBX_STAT_STATE 0) 0x400 64, .arr
    (.MBX_LATCH_RSP_STATUS 0) 0x400 64, .fld .DYKE_SLOT_INACTIVE] : List Regs)) R) :
    OutFrame W R s (execChannelCal p found s) := by
  unfold execChannelCal
  repeat' first
    | (extract_lets +onlyGivenNames f; have := fun a => f a; clear this; unfold f; clear f)
    | (extract_lets +onlyGivenNames y; clear_value y; revert y; intro _)
    | exact parts_sub hW rfl
    | with_reducible refine next_frame ?_
    | with_reducible assumption
    | with_reducible exact Frame.refl _ _ _
    | with_reducible refine ite_frame (fun _ => ?_) (fun _ => ?_)
    | with_reducible refine State.when_frame ?_ (fun t ht => ?_)
    | with_reducible refine State.onCommand_frame    (fun t ht => ?_) ?_
    | with_reducible refine State.respond_frame ?_ ?_   ?_
    | with_reducible refine State.updAq_frame ?_    ?_
    | with_reducible refine State.updRun_frame ?_    ?_
    | with_reducible refine State.draw_frame ?_    ?_
    | split

theorem execPreampInfo_frame {W : List Part} {R : List Regs} {s : State} {p : ℕ} (hW : ∀ p ∈ ([.fenIrq, .aq, .dyke] : List
    Part), p ∈ W) (hR : RegsIn (([.fld .PEAT_STATUS_STAMP_WAIT, .fld .PEAT_STATUS_HELD, .fld .PEAT_STATUS_USED, .fld
    .PEAT_FRZ_AREA, .arr (.MBX_DONE_DONE 0) 0x4 2, .grid (.MBX_RSP_DATA 0 0) 0x400 64 0x4 64, .arr (.MBX_STAT_CANCEL_REQ 0)
    0x400 64, .arr (.MBX_STAT_STARTED 0) 0x400 64, .arr (.MBX_STAT_STATE 0) 0x400 64, .arr (.MBX_LATCH_RSP_STATUS 0) 0x400 64,
    .fld .DYKE_SLOT_INACTIVE] : List Regs)) R) :
    OutFrame W R s (execPreampInfo p s) := by
  unfold execPreampInfo
  repeat' first
    | (extract_lets +onlyGivenNames y; clear_value y; revert y; intro _)
    | exact parts_sub hW rfl
    | with_reducible refine next_frame ?_
    | with_reducible assumption
    | with_reducible exact Frame.refl _ _ _
    | with_reducible refine State.onCommand_frame    (fun t ht => ?_) ?_
    | with_reducible refine State.respondOk_frame ?_ ?_   ?_

theorem execFprogBegin_frame {W : List Part} {R : List Regs} {s : State} {p : ℕ} (hW : ∀ p ∈ ([.fenIrq, .aq, .dyke] : List
    Part), p ∈ W) (hR : RegsIn (([.fld .PEAT_STATUS_STAMP_WAIT, .fld .PEAT_STATUS_HELD, .fld .PEAT_STATUS_USED, .fld
    .PEAT_FRZ_AREA, .arr (.MBX_DONE_DONE 0) 0x4 2, .grid (.MBX_RSP_DATA 0 0) 0x400 64 0x4 64, .arr (.MBX_STAT_CANCEL_REQ 0)
    0x400 64, .arr (.MBX_STAT_STARTED 0) 0x400 64, .arr (.MBX_STAT_STATE 0) 0x400 64, .arr (.MBX_LATCH_RSP_STATUS 0) 0x400 64,
    .fld .DYKE_SLOT_INACTIVE] : List Regs)) R) :
    OutFrame W R s (execFprogBegin p s) := by
  unfold execFprogBegin
  repeat' first
    | exact parts_sub hW rfl
    | with_reducible refine next_frame ?_
    | with_reducible assumption
    | with_reducible exact Frame.refl _ _ _
    | with_reducible refine State.onCommand_frame    (fun t ht => ?_) ?_
    | with_reducible refine State.respondOk_frame ?_ ?_   ?_
    | with_reducible refine State.updAq_frame ?_    ?_

theorem execFprogData_frame {W : List Part} {R : List Regs} {s : State} {p : ℕ} (hW : ∀ p ∈ ([.fenIrq, .aq, .dyke] : List
    Part), p ∈ W) (hR : RegsIn (([.fld .PEAT_STATUS_STAMP_WAIT, .fld .PEAT_STATUS_HELD, .fld .PEAT_STATUS_USED, .fld
    .PEAT_FRZ_AREA, .arr (.MBX_DONE_DONE 0) 0x4 2, .grid (.MBX_RSP_DATA 0 0) 0x400 64 0x4 64, .arr (.MBX_STAT_CANCEL_REQ 0)
    0x400 64, .arr (.MBX_STAT_STARTED 0) 0x400 64, .arr (.MBX_STAT_STATE 0) 0x400 64, .arr (.MBX_LATCH_RSP_STATUS 0) 0x400 64,
    .fld .DYKE_SLOT_INACTIVE] : List Regs)) R) :
    OutFrame W R s (execFprogData p s) := by
  unfold execFprogData
  repeat' first
    | (extract_lets +onlyGivenNames y; clear_value y; revert y; intro _)
    | exact parts_sub hW rfl
    | with_reducible refine next_frame ?_
    | with_reducible assumption
    | with_reducible exact Frame.refl _ _ _
    | with_reducible refine State.onCommand_frame    (fun t ht => ?_) ?_
    | with_reducible refine State.respond_frame ?_ ?_   ?_
    | with_reducible refine State.respondOk_frame ?_ ?_   ?_
    | with_reducible refine State.updAq_frame ?_    ?_
    | split

theorem State.placeProgram_frame {W : List Part} {R : List Regs} {s0 s : State} {addr : ℕ} {words : List Word} (hW : ∀ p ∈
    ([.seqs] : List Part), p ∈ W) (hR : RegsIn (([.fld .REED_CS_CTRL_SEQ_MASK, .fld .REED_CS_CTRL_ADDR] : List Regs)) R) (h :
    Frame W R s0 s) :
    Frame W R s0 (State.placeProgram s addr words) := by
  unfold State.placeProgram
  repeat' first
    | with_reducible exact h
    | with_reducible assumption
    | with_reducible refine State.forN_frame ?_ (fun i t ht => ?_)
    | with_reducible refine State.updSeq_frame ?_    ?_
    | with_reducible refine State.set_frame ?_ ?_
    | exact cov_fld hR (by decide +kernel)

theorem execFprogCommit_frame {W : List Part} {R : List Regs} {s : State} {p : ℕ} {norOk : Bool} (hW : ∀ p ∈ ([.fenIrq, .seqs,
    .mq, .aq, .dyke] : List Part), p ∈ W) (hR : RegsIn (([.fld .PEAT_STATUS_STAMP_WAIT, .fld .PEAT_STATUS_HELD, .fld
    .PEAT_STATUS_USED, .fld .PEAT_FRZ_AREA, .fld .REED_CS_CTRL_SEQ_MASK, .fld .REED_CS_CTRL_ADDR, .arr (.MBX_DONE_DONE 0) 0x4
    2, .grid (.MBX_RSP_DATA 0 0) 0x400 64 0x4 64, .arr (.MBX_STAT_CANCEL_REQ 0) 0x400 64, .arr (.MBX_STAT_STARTED 0) 0x400 64,
    .arr (.MBX_STAT_STATE 0) 0x400 64, .arr (.MBX_LATCH_RSP_STATUS 0) 0x400 64] : List Regs) ++ ([.fld .DYKE_SLOT_INACTIVE,
    .grid (.DYKE_MR_DATA 0 0) 0x30 16 0x4 12] : List Regs)) R) :
    OutFrame W R s (execFprogCommit p norOk s) := by
  unfold execFprogCommit
  repeat' first
    | (extract_lets +onlyGivenNames x; refine have_frame (x := x) ?_ (fun hx => ?_); (on_goal 2 => (clear_value x; revert x; intro _ _)); (on_goal 1 => (unfold x; clear x)))
    | (extract_lets +onlyGivenNames f; have := fun a => f a; clear this; unfold f; clear f)
    | exact parts_sub hW rfl
    | with_reducible refine next_frame ?_
    | with_reducible assumption
    | exact regs_sub hR (by decide +kernel)
    | with_reducible exact Frame.refl _ _ _
    | with_reducible refine ite_frame (fun _ => ?_) (fun _ => ?_)
    | with_reducible refine State.onCommand_frame    (fun t ht => ?_) ?_
    | with_reducible refine State.respond_frame ?_ ?_   ?_
    | with_reducible refine State.extendMr_frame  ?_   ?_
    | with_reducible refine State.respondBad_frame ?_ ?_   ?_
    | with_reducible refine State.updAq_frame ?_    ?_
    | with_reducible refine State.updMq_frame ?_    ?_
    | with_reducible refine State.placeProgram_frame ?_ ?_   ?_
    | with_reducible refine State.respondOk_frame ?_ ?_   ?_
    | split

theorem execFprogBind_frame {W : List Part} {R : List Regs} {s : State} {p : ℕ} {norOk : Bool} (hW : ∀ p ∈ ([.fenIrq, .aq,
    .dyke] : List Part), p ∈ W) (hR : RegsIn (([.fld .PEAT_STATUS_STAMP_WAIT, .fld .PEAT_STATUS_HELD, .fld .PEAT_STATUS_USED,
    .fld .PEAT_FRZ_AREA, .arr (.MBX_DONE_DONE 0) 0x4 2, .grid (.MBX_RSP_DATA 0 0) 0x400 64 0x4 64, .arr (.MBX_STAT_CANCEL_REQ
    0) 0x400 64, .arr (.MBX_STAT_STARTED 0) 0x400 64, .arr (.MBX_STAT_STATE 0) 0x400 64, .arr (.MBX_LATCH_RSP_STATUS 0) 0x400
    64, .fld .DYKE_SLOT_INACTIVE] : List Regs)) R) :
    OutFrame W R s (execFprogBind p norOk s) := by
  unfold execFprogBind
  repeat' first
    | (extract_lets +onlyGivenNames y; clear_value y; revert y; intro _)
    | exact parts_sub hW rfl
    | with_reducible refine next_frame ?_
    | with_reducible assumption
    | with_reducible exact Frame.refl _ _ _
    | with_reducible refine ite_frame (fun _ => ?_) (fun _ => ?_)
    | with_reducible refine State.onCommand_frame    (fun t ht => ?_) ?_
    | with_reducible refine State.respondBad_frame ?_ ?_   ?_
    | with_reducible refine State.respondOk_frame ?_ ?_   ?_
    | with_reducible refine State.updAq_frame ?_    ?_
    | split

theorem execFprogDelete_frame {W : List Part} {R : List Regs} {s : State} {p : ℕ} {norOk : Bool} (hW : ∀ p ∈ ([.fenIrq, .aq,
    .dyke] : List Part), p ∈ W) (hR : RegsIn (([.fld .PEAT_STATUS_STAMP_WAIT, .fld .PEAT_STATUS_HELD, .fld .PEAT_STATUS_USED,
    .fld .PEAT_FRZ_AREA, .arr (.MBX_DONE_DONE 0) 0x4 2, .grid (.MBX_RSP_DATA 0 0) 0x400 64 0x4 64, .arr (.MBX_STAT_CANCEL_REQ
    0) 0x400 64, .arr (.MBX_STAT_STARTED 0) 0x400 64, .arr (.MBX_STAT_STATE 0) 0x400 64, .arr (.MBX_LATCH_RSP_STATUS 0) 0x400
    64, .fld .DYKE_SLOT_INACTIVE] : List Regs)) R) :
    OutFrame W R s (execFprogDelete p norOk s) := by
  unfold execFprogDelete
  repeat' first
    | (extract_lets +onlyGivenNames y; clear_value y; revert y; intro _)
    | exact parts_sub hW rfl
    | with_reducible refine next_frame ?_
    | with_reducible assumption
    | with_reducible exact Frame.refl _ _ _
    | with_reducible refine ite_frame (fun _ => ?_) (fun _ => ?_)
    | with_reducible refine State.onCommand_frame    (fun t ht => ?_) ?_
    | with_reducible refine State.respondBad_frame ?_ ?_   ?_
    | with_reducible refine State.respondOk_frame ?_ ?_   ?_
    | with_reducible refine State.updAq_frame ?_    ?_

theorem execFprogList_frame {W : List Part} {R : List Regs} {s : State} {p : ℕ} (hW : ∀ p ∈ ([.fenIrq, .aq, .dyke] : List
    Part), p ∈ W) (hR : RegsIn (([.fld .PEAT_STATUS_STAMP_WAIT, .fld .PEAT_STATUS_HELD, .fld .PEAT_STATUS_USED, .fld
    .PEAT_FRZ_AREA, .arr (.MBX_DONE_DONE 0) 0x4 2, .grid (.MBX_RSP_DATA 0 0) 0x400 64 0x4 64, .arr (.MBX_STAT_CANCEL_REQ 0)
    0x400 64, .arr (.MBX_STAT_STARTED 0) 0x400 64, .arr (.MBX_STAT_STATE 0) 0x400 64, .arr (.MBX_LATCH_RSP_STATUS 0) 0x400 64,
    .fld .DYKE_SLOT_INACTIVE] : List Regs)) R) :
    OutFrame W R s (execFprogList p s) := by
  unfold execFprogList
  repeat' first
    | (extract_lets +onlyGivenNames f; have := fun a => f a; clear this; unfold f; clear f)
    | (extract_lets +onlyGivenNames y; clear_value y; revert y; intro _)
    | exact parts_sub hW rfl
    | with_reducible refine next_frame ?_
    | with_reducible assumption
    | with_reducible exact Frame.refl _ _ _
    | with_reducible refine State.onCommand_frame    (fun t ht => ?_) ?_
    | with_reducible refine State.respondOk_frame ?_ ?_   ?_

/-! ### Machine/RecordCmds.lean -/

theorem execPeatAppend_frame {W : List Part} {R : List Regs} {s : State} {p : ℕ} (hW : ∀ p ∈ ([.mireIrq, .fenIrq, .seqs,
    .chans, .stg, .lev, .peat, .aq, .dyke] : List Part), p ∈ W) (hR : RegsIn (alarmRegs ++ haltRegs ++ ([.arr (.MBX_DONE_DONE
    0) 0x4 2, .grid (.MBX_RSP_DATA 0 0) 0x400 64 0x4 64, .arr (.MBX_STAT_CANCEL_REQ 0) 0x400 64, .arr (.MBX_STAT_STARTED 0)
    0x400 64, .arr (.MBX_STAT_STATE 0) 0x400 64, .arr (.MBX_LATCH_RSP_STATUS 0) 0x400 64, .fld .DYKE_SLOT_INACTIVE] : List
    Regs)) R) :
    OutFrame W R s (execPeatAppend p s) := by
  unfold execPeatAppend
  repeat' first
    | exact parts_sub hW rfl
    | with_reducible refine next_frame ?_
    | with_reducible assumption
    | exact regs_sub hR (by decide +kernel)
    | with_reducible exact Frame.refl _ _ _
    | with_reducible refine State.peatRecord_frame ?_ ?_   ?_
    | with_reducible refine State.onCommand_frame    (fun t ht => ?_) ?_
    | with_reducible refine State.respondOk_frame ?_ ?_   ?_

theorem execPeatFreeze_frame {W : List Part} {R : List Regs} {s : State} {p : ℕ} (hW : ∀ p ∈ ([.fenIrq, .peat, .aq, .dyke] :
    List Part), p ∈ W) (hR : RegsIn (([.fld .PEAT_STATUS_STAMP_WAIT, .fld .PEAT_STATUS_HELD, .fld .PEAT_STATUS_USED, .fld
    .PEAT_FRZ_AREA, .arr (.MBX_DONE_DONE 0) 0x4 2, .grid (.MBX_RSP_DATA 0 0) 0x400 64 0x4 64, .arr (.MBX_STAT_CANCEL_REQ 0)
    0x400 64, .arr (.MBX_STAT_STARTED 0) 0x400 64, .arr (.MBX_STAT_STATE 0) 0x400 64, .arr (.MBX_LATCH_RSP_STATUS 0) 0x400 64,
    .fld .DYKE_SLOT_INACTIVE] : List Regs)) R) :
    OutFrame W R s (execPeatFreeze p s) := by
  unfold execPeatFreeze
  repeat' first
    | (extract_lets +onlyGivenNames x; refine have_frame (x := x) ?_ (fun hx => ?_); (on_goal 2 => (clear_value x; revert x; intro _ _)); (on_goal 1 => (unfold x; clear x)))
    | (extract_lets +onlyGivenNames y; clear_value y; revert y; intro _)
    | exact parts_sub hW rfl
    | with_reducible refine next_frame ?_
    | with_reducible assumption
    | exact regs_sub hR (by decide +kernel)
    | with_reducible exact Frame.refl _ _ _
    | with_reducible refine ite_frame (fun _ => ?_) (fun _ => ?_)
    | with_reducible refine State.when_frame ?_ (fun t ht => ?_)
    | with_reducible refine State.onCommand_frame    (fun t ht => ?_) ?_
    | with_reducible refine State.respondBad_frame ?_ ?_   ?_
    | with_reducible refine State.respondOk_frame ?_ ?_   ?_
    | with_reducible refine State.updAq_frame ?_    ?_
    | with_reducible refine State.freeze_frame ?_ ?_   ?_

theorem execPeatRead_frame {W : List Part} {R : List Regs} {s : State} {p : ℕ} (hW : ∀ p ∈ ([.fenIrq, .peat, .aq, .dyke] :
    List Part), p ∈ W) (hR : RegsIn (([.fld .PEAT_STATUS_STAMP_WAIT, .fld .PEAT_STATUS_HELD, .fld .PEAT_STATUS_USED, .fld
    .PEAT_FRZ_AREA, .arr (.MBX_DONE_DONE 0) 0x4 2, .grid (.MBX_RSP_DATA 0 0) 0x400 64 0x4 64, .arr (.MBX_STAT_CANCEL_REQ 0)
    0x400 64, .arr (.MBX_STAT_STARTED 0) 0x400 64, .arr (.MBX_STAT_STATE 0) 0x400 64, .arr (.MBX_LATCH_RSP_STATUS 0) 0x400 64,
    .fld .DYKE_SLOT_INACTIVE, .fld .PEAT_CUR_AREA_AREA] : List Regs) ++ ([.fld .PEAT_CUR_OFFSET, .fld .PEAT_WIN_STATUS_VALID,
    .fld .PEAT_WIN_STATUS_END, .fld .PEAT_WIN_STATUS_BYTES, .arr (.PEAT_WIN_DATA 0) 0x4 1024] : List Regs)) R) :
    OutFrame W R s (execPeatRead p s) := by
  unfold execPeatRead
  repeat' first
    | (extract_lets +onlyGivenNames x; refine have_frame (x := x) ?_ (fun hx => ?_); (on_goal 2 => (clear_value x; revert x; intro _ _)); (on_goal 1 => (unfold x; clear x)))
    | (extract_lets +onlyGivenNames y; clear_value y; revert y; intro _)
    | exact parts_sub hW rfl
    | with_reducible refine next_frame ?_
    | with_reducible assumption
    | exact regs_sub hR (by decide +kernel)
    | with_reducible exact Frame.refl _ _ _
    | with_reducible refine State.windowLoad_frame ?_ ?_   ?_
    | with_reducible refine State.onCommand_frame    (fun t ht => ?_) ?_
    | with_reducible refine State.set_frame ?_ ?_
    | with_reducible refine State.respondOk_frame ?_ ?_   ?_
    | with_reducible refine State.peatCur_frame ?_ ?_   ?_
    | exact cov_fld hR (by decide +kernel)

theorem State.releaseFreeze_frame {W : List Part} {R : List Regs} {s0 s : State} {a : ℕ} (hW : ∀ p ∈ ([.aq] : List Part), p ∈
    W) (hR : RegsIn (([.fld .PEAT_STATUS_STAMP_WAIT, .fld .PEAT_STATUS_HELD, .fld .PEAT_STATUS_USED, .fld .PEAT_FRZ_AREA] :
    List Regs)) R) (h : Frame W R s0 s) :
    Frame W R s0 (State.releaseFreeze s a) := by
  unfold State.releaseFreeze
  repeat' first
    | with_reducible exact h
    | with_reducible assumption
    | with_reducible refine State.updAq_frame ?_    ?_
    | with_reducible refine State.unfreeze_frame  ?_   ?_

theorem execPeatRelease_frame {W : List Part} {R : List Regs} {s : State} {p : ℕ} (hW : ∀ p ∈ ([.fenIrq, .aq, .dyke] : List
    Part), p ∈ W) (hR : RegsIn (([.fld .PEAT_STATUS_STAMP_WAIT, .fld .PEAT_STATUS_HELD, .fld .PEAT_STATUS_USED, .fld
    .PEAT_FRZ_AREA, .arr (.MBX_DONE_DONE 0) 0x4 2, .grid (.MBX_RSP_DATA 0 0) 0x400 64 0x4 64, .arr (.MBX_STAT_CANCEL_REQ 0)
    0x400 64, .arr (.MBX_STAT_STARTED 0) 0x400 64, .arr (.MBX_STAT_STATE 0) 0x400 64, .arr (.MBX_LATCH_RSP_STATUS 0) 0x400 64,
    .fld .DYKE_SLOT_INACTIVE] : List Regs)) R) :
    OutFrame W R s (execPeatRelease p s) := by
  unfold execPeatRelease
  repeat' first
    | exact parts_sub hW rfl
    | with_reducible refine next_frame ?_
    | with_reducible assumption
    | exact regs_sub hR (by decide +kernel)
    | with_reducible exact Frame.refl _ _ _
    | with_reducible refine State.onCommand_frame    (fun t ht => ?_) ?_
    | with_reducible refine State.releaseFreeze_frame ?_ ?_   ?_
    | with_reducible refine State.respondOk_frame ?_ ?_   ?_

theorem execPeatClear_frame {W : List Part} {R : List Regs} {s : State} {p : ℕ} {norOk : Bool} (hW : ∀ p ∈ ([.mireIrq,
    .fenIrq, .seqs, .chans, .stg, .lev, .peat, .aq, .dyke] : List Part), p ∈ W) (hR : RegsIn (alarmRegs ++ haltRegs ++ ([.arr
    (.MBX_DONE_DONE 0) 0x4 2, .grid (.MBX_RSP_DATA 0 0) 0x400 64 0x4 64, .arr (.MBX_STAT_CANCEL_REQ 0) 0x400 64, .arr
    (.MBX_STAT_STARTED 0) 0x400 64, .arr (.MBX_STAT_STATE 0) 0x400 64, .arr (.MBX_LATCH_RSP_STATUS 0) 0x400 64, .fld
    .DYKE_SLOT_INACTIVE, .arr (.PEAT_AREA_REC_COUNT 0) 0x4 10, .arr (.PEAT_AREA_BYTES_BYTES 0) 0x4 10] : List Regs)) R) :
    OutFrame W R s (execPeatClear p norOk s) := by
  unfold execPeatClear
  repeat' first
    | exact parts_sub hW rfl
    | with_reducible refine next_frame ?_
    | with_reducible assumption
    | exact regs_sub hR (by decide +kernel)
    | with_reducible exact Frame.refl _ _ _
    | with_reducible refine ite_frame (fun _ => ?_) (fun _ => ?_)
    | with_reducible refine State.when_frame ?_ (fun t ht => ?_)
    | with_reducible refine State.forN_frame ?_ (fun i t ht => ?_)
    | with_reducible refine State.clearArea_frame ?_ ?_   ?_
    | with_reducible refine State.signedCommand_frame ?_ ?_  (fun i t ht => ?_) ?_
    | with_reducible refine State.onCommand_frame    (fun t ht => ?_) ?_
    | with_reducible refine State.respondBad_frame ?_ ?_   ?_
    | with_reducible refine State.releaseFreeze_frame ?_ ?_   ?_
    | with_reducible refine State.respondOk_frame ?_ ?_   ?_

theorem execAqPeatFlush_frame {W : List Part} {R : List Regs} {s : State} {p : ℕ} {norOk : Bool} (hW : ∀ p ∈ ([.fenIrq, .peat,
    .aq, .dyke] : List Part), p ∈ W) (hR : RegsIn (([.fld .PEAT_STATUS_FLUSHING, .fld .PEAT_STATUS_STAMP_WAIT, .fld
    .PEAT_STATUS_HELD, .fld .PEAT_STATUS_USED, .fld .PEAT_FRZ_AREA, .arr (.MBX_DONE_DONE 0) 0x4 2, .grid (.MBX_RSP_DATA 0 0)
    0x400 64 0x4 64, .arr (.MBX_STAT_CANCEL_REQ 0) 0x400 64, .arr (.MBX_STAT_STARTED 0) 0x400 64, .arr (.MBX_STAT_STATE 0)
    0x400 64, .arr (.MBX_LATCH_RSP_STATUS 0) 0x400 64, .fld .DYKE_SLOT_INACTIVE] : List Regs)) R) :
    OutFrame W R s (execAqPeatFlush p norOk s) := by
  unfold execAqPeatFlush
  repeat' first
    | (extract_lets +onlyGivenNames x; refine have_frame (x := x) ?_ (fun hx => ?_); (on_goal 2 => (clear_value x; revert x; intro _ _)); (on_goal 1 => (unfold x; clear x)))
    | exact parts_sub hW rfl
    | with_reducible refine next_frame ?_
    | with_reducible assumption
    | exact regs_sub hR (by decide +kernel)
    | with_reducible exact Frame.refl _ _ _
    | with_reducible refine ite_frame (fun _ => ?_) (fun _ => ?_)
    | with_reducible refine State.when_frame ?_ (fun t ht => ?_)
    | with_reducible refine State.onCommand_frame    (fun t ht => ?_) ?_
    | with_reducible refine State.startFlush_frame ?_ ?_   ?_
    | with_reducible refine State.respondBad_frame ?_ ?_   ?_
    | with_reducible refine State.respondOk_frame ?_ ?_   ?_
    | with_reducible refine State.updRun_frame ?_    ?_

theorem execTelVersions_frame {W : List Part} {R : List Regs} {s : State} {p : ℕ} (hW : ∀ p ∈ ([.fenIrq, .aq, .dyke] : List
    Part), p ∈ W) (hR : RegsIn (([.fld .PEAT_STATUS_STAMP_WAIT, .fld .PEAT_STATUS_HELD, .fld .PEAT_STATUS_USED, .fld
    .PEAT_FRZ_AREA, .arr (.MBX_DONE_DONE 0) 0x4 2, .grid (.MBX_RSP_DATA 0 0) 0x400 64 0x4 64, .arr (.MBX_STAT_CANCEL_REQ 0)
    0x400 64, .arr (.MBX_STAT_STARTED 0) 0x400 64, .arr (.MBX_STAT_STATE 0) 0x400 64, .arr (.MBX_LATCH_RSP_STATUS 0) 0x400 64,
    .fld .DYKE_SLOT_INACTIVE] : List Regs)) R) :
    OutFrame W R s (execTelVersions p s) := by
  unfold execTelVersions
  repeat' first
    | exact parts_sub hW rfl
    | with_reducible refine next_frame ?_
    | with_reducible assumption
    | with_reducible exact Frame.refl _ _ _
    | with_reducible refine State.onCommand_frame    (fun t ht => ?_) ?_
    | with_reducible refine State.respondOk_frame ?_ ?_   ?_

theorem execTelChannel_frame {W : List Part} {R : List Regs} {s : State} {p : ℕ} (hW : ∀ p ∈ ([.fenIrq, .chans, .aq, .dyke] :
    List Part), p ∈ W) (hR : RegsIn (([.fld .PEAT_STATUS_STAMP_WAIT, .fld .PEAT_STATUS_HELD, .fld .PEAT_STATUS_USED, .fld
    .PEAT_FRZ_AREA, .grid (.SDG_TEL_COUNT 0 0) 0x400 8 0x4 32, .arr (.MBX_DONE_DONE 0) 0x4 2, .grid (.MBX_RSP_DATA 0 0) 0x400
    64 0x4 64, .arr (.MBX_STAT_CANCEL_REQ 0) 0x400 64, .arr (.MBX_STAT_STARTED 0) 0x400 64, .arr (.MBX_STAT_STATE 0) 0x400 64,
    .arr (.MBX_LATCH_RSP_STATUS 0) 0x400 64, .fld .DYKE_SLOT_INACTIVE] : List Regs)) R) :
    OutFrame W R s (execTelChannel p s) := by
  unfold execTelChannel
  repeat' first
    | (extract_lets +onlyGivenNames x; refine have_frame (x := x) ?_ (fun hx => ?_); (on_goal 2 => (clear_value x; revert x; intro _ _)); (on_goal 1 => (unfold x; clear x)))
    | (extract_lets +onlyGivenNames y; clear_value y; revert y; intro _)
    | exact parts_sub hW rfl
    | with_reducible refine next_frame ?_
    | with_reducible assumption
    | exact regs_sub hR (by decide +kernel)
    | with_reducible exact Frame.refl _ _ _
    | with_reducible refine State.when_frame ?_ (fun t ht => ?_)
    | with_reducible refine State.onCommand_frame    (fun t ht => ?_) ?_
    | with_reducible refine State.telSnap_frame  ?_   ?_
    | with_reducible refine State.telClear_frame ?_    ?_
    | with_reducible refine State.respondOk_frame ?_ ?_   ?_

theorem execTelServo_frame {W : List Part} {R : List Regs} {s : State} {p : ℕ} (hW : ∀ p ∈ ([.fenIrq, .aq, .dyke] : List
    Part), p ∈ W) (hR : RegsIn (([.fld .PEAT_STATUS_STAMP_WAIT, .fld .PEAT_STATUS_HELD, .fld .PEAT_STATUS_USED, .fld
    .PEAT_FRZ_AREA, .arr (.TUS_SAT_CNT_COUNT 0) 0x40 4, .arr (.MBX_DONE_DONE 0) 0x4 2, .grid (.MBX_RSP_DATA 0 0) 0x400 64 0x4
    64, .arr (.MBX_STAT_CANCEL_REQ 0) 0x400 64, .arr (.MBX_STAT_STARTED 0) 0x400 64, .arr (.MBX_STAT_STATE 0) 0x400 64, .arr
    (.MBX_LATCH_RSP_STATUS 0) 0x400 64, .fld .DYKE_SLOT_INACTIVE] : List Regs)) R) :
    OutFrame W R s (execTelServo p s) := by
  unfold execTelServo
  repeat' first
    | (extract_lets +onlyGivenNames y; clear_value y; revert y; intro _)
    | exact parts_sub hW rfl
    | with_reducible refine next_frame ?_
    | with_reducible assumption
    | exact regs_sub hR (by decide +kernel)
    | with_reducible exact Frame.refl _ _ _
    | with_reducible refine State.when_frame ?_ (fun t ht => ?_)
    | with_reducible refine State.telServo_frame ?_    ?_
    | with_reducible refine State.onCommand_frame    (fun t ht => ?_) ?_
    | with_reducible refine State.respondOk_frame ?_ ?_   ?_
    | with_reducible refine State.set_frame ?_ ?_
    | exact cov_arr (f := .TUS_SAT_CNT_COUNT 0) (k := 0x40) (m := 4) hR (by decide +kernel) (by decide) rfl

theorem execTelEnv_frame {W : List Part} {R : List Regs} {s : State} {p : ℕ} {temps : List ℕ} (hW : ∀ p ∈ ([.fenIrq, .aq,
    .dyke] : List Part), p ∈ W) (hR : RegsIn (([.fld .PEAT_STATUS_STAMP_WAIT, .fld .PEAT_STATUS_HELD, .fld .PEAT_STATUS_USED,
    .fld .PEAT_FRZ_AREA, .arr (.MBX_DONE_DONE 0) 0x4 2, .grid (.MBX_RSP_DATA 0 0) 0x400 64 0x4 64, .arr (.MBX_STAT_CANCEL_REQ
    0) 0x400 64, .arr (.MBX_STAT_STARTED 0) 0x400 64, .arr (.MBX_STAT_STATE 0) 0x400 64, .arr (.MBX_LATCH_RSP_STATUS 0) 0x400
    64, .fld .DYKE_SLOT_INACTIVE] : List Regs)) R) :
    OutFrame W R s (execTelEnv p temps s) := by
  unfold execTelEnv
  repeat' first
    | exact parts_sub hW rfl
    | with_reducible refine next_frame ?_
    | with_reducible assumption
    | with_reducible exact Frame.refl _ _ _
    | with_reducible refine State.onCommand_frame    (fun t ht => ?_) ?_
    | with_reducible refine State.respondOk_frame ?_ ?_   ?_

theorem execFaultHistory_frame {W : List Part} {R : List Regs} {s : State} {p : ℕ} (hW : ∀ p ∈ ([.fenIrq, .aq, .dyke] : List
    Part), p ∈ W) (hR : RegsIn (([.fld .PEAT_STATUS_STAMP_WAIT, .fld .PEAT_STATUS_HELD, .fld .PEAT_STATUS_USED, .fld
    .PEAT_FRZ_AREA, .arr (.MBX_DONE_DONE 0) 0x4 2, .grid (.MBX_RSP_DATA 0 0) 0x400 64 0x4 64, .arr (.MBX_STAT_CANCEL_REQ 0)
    0x400 64, .arr (.MBX_STAT_STARTED 0) 0x400 64, .arr (.MBX_STAT_STATE 0) 0x400 64, .arr (.MBX_LATCH_RSP_STATUS 0) 0x400 64,
    .fld .DYKE_SLOT_INACTIVE] : List Regs)) R) :
    OutFrame W R s (execFaultHistory p s) := by
  unfold execFaultHistory
  repeat' first
    | (extract_lets +onlyGivenNames f; have := fun a => f a; clear this; unfold f; clear f)
    | (extract_lets +onlyGivenNames y; clear_value y; revert y; intro _)
    | exact parts_sub hW rfl
    | with_reducible refine next_frame ?_
    | with_reducible assumption
    | with_reducible exact Frame.refl _ _ _
    | with_reducible refine State.onCommand_frame    (fun t ht => ?_) ?_
    | with_reducible refine State.respondOk_frame ?_ ?_   ?_

theorem execFaultReaction_frame {W : List Part} {R : List Regs} {s : State} {p : ℕ} (hW : ∀ p ∈ ([.fenIrq, .aq, .dyke] : List
    Part), p ∈ W) (hR : RegsIn (([.fld .PEAT_STATUS_STAMP_WAIT, .fld .PEAT_STATUS_HELD, .fld .PEAT_STATUS_USED, .fld
    .PEAT_FRZ_AREA, .arr (.MBX_DONE_DONE 0) 0x4 2, .grid (.MBX_RSP_DATA 0 0) 0x400 64 0x4 64, .arr (.MBX_STAT_CANCEL_REQ 0)
    0x400 64, .arr (.MBX_STAT_STARTED 0) 0x400 64, .arr (.MBX_STAT_STATE 0) 0x400 64, .arr (.MBX_LATCH_RSP_STATUS 0) 0x400 64,
    .arr (.LEV_SRC_REACT 0) 0x4 65536, .fld .DYKE_SLOT_INACTIVE] : List Regs)) R) :
    OutFrame W R s (execFaultReaction p s) := by
  unfold execFaultReaction
  repeat' first
    | (extract_lets +onlyGivenNames x; refine have_frame (x := x) ?_ (fun hx => ?_); (on_goal 2 => (clear_value x; revert x; intro _ _)); (on_goal 1 => (unfold x; clear x)))
    | exact parts_sub hW rfl
    | with_reducible refine next_frame ?_
    | with_reducible assumption
    | exact regs_sub hR (by decide +kernel)
    | with_reducible exact Frame.refl _ _ _
    | with_reducible refine State.trimReact_frame  ?_   ?_
    | with_reducible refine State.onCommand_frame    (fun t ht => ?_) ?_
    | with_reducible refine State.set_frame ?_ ?_
    | with_reducible refine State.respondOk_frame ?_ ?_   ?_
    | exact cov_arr (f := .LEV_SRC_REACT 0) (k := 0x4) (m := 65536) hR (by decide +kernel) (by decide) rfl

theorem execFaultInject_frame {W : List Part} {R : List Regs} {s : State} {p : ℕ} (hW : ∀ p ∈ ([.mireIrq, .fenIrq, .seqs,
    .chans, .stg, .lev, .peat, .aq, .dyke] : List Part), p ∈ W) (hR : RegsIn (alarmRegs ++ haltRegs ++ ([.arr (.MBX_DONE_DONE
    0) 0x4 2, .grid (.MBX_RSP_DATA 0 0) 0x400 64 0x4 64, .arr (.MBX_STAT_CANCEL_REQ 0) 0x400 64, .arr (.MBX_STAT_STARTED 0)
    0x400 64, .arr (.MBX_STAT_STATE 0) 0x400 64, .arr (.MBX_LATCH_RSP_STATUS 0) 0x400 64, .fld .LEV_STATUS_WR_DENY, .fld
    .DYKE_SLOT_INACTIVE] : List Regs)) R) :
    OutFrame W R s (execFaultInject p s) := by
  unfold execFaultInject
  repeat' first
    | exact parts_sub hW rfl
    | with_reducible refine next_frame ?_
    | with_reducible assumption
    | exact regs_sub hR (by decide +kernel)
    | with_reducible exact Frame.refl _ _ _
    | with_reducible refine State.onCommand_frame    (fun t ht => ?_) ?_
    | with_reducible refine State.levInject_frame ?_ ?_   ?_
    | with_reducible refine State.respondOk_frame ?_ ?_   ?_

theorem execFaultClear_frame {W : List Part} {R : List Regs} {s : State} {p : ℕ} (hW : ∀ p ∈ ([.fenIrq, .lev, .aq, .dyke] :
    List Part), p ∈ W) (hR : RegsIn (([.fld .LEV_STATUS_F_LATCHED, .fld .LEV_STATUS_ERROR, .fld .LEV_STATUS_ALIVE_RUN, .arr
    (.LEV_LATCH_LINE 0) 0x4 7, .fld .PEAT_STATUS_STAMP_WAIT, .fld .PEAT_STATUS_HELD, .fld .PEAT_STATUS_USED, .fld
    .PEAT_FRZ_AREA, .arr (.MBX_DONE_DONE 0) 0x4 2, .grid (.MBX_RSP_DATA 0 0) 0x400 64 0x4 64, .arr (.MBX_STAT_CANCEL_REQ 0)
    0x400 64, .arr (.MBX_STAT_STARTED 0) 0x400 64] : List Regs) ++ ([.arr (.MBX_STAT_STATE 0) 0x400 64, .arr
    (.MBX_LATCH_RSP_STATUS 0) 0x400 64, .fld .DYKE_SLOT_INACTIVE] : List Regs)) R) :
    OutFrame W R s (execFaultClear p s) := by
  unfold execFaultClear
  repeat' first
    | (extract_lets +onlyGivenNames y; clear_value y; revert y; intro _)
    | exact parts_sub hW rfl
    | with_reducible refine next_frame ?_
    | with_reducible assumption
    | exact regs_sub hR (by decide +kernel)
    | with_reducible exact Frame.refl _ _ _
    | with_reducible refine State.levClear_frame ?_ ?_   ?_
    | with_reducible refine State.onCommand_frame    (fun t ht => ?_) ?_
    | with_reducible refine State.respondOk_frame ?_ ?_   ?_

theorem execAttestRead_frame {W : List Part} {R : List Regs} {s : State} {p : ℕ} (hW : ∀ p ∈ ([.fenIrq, .aq, .dyke] : List
    Part), p ∈ W) (hR : RegsIn (([.fld .PEAT_STATUS_STAMP_WAIT, .fld .PEAT_STATUS_HELD, .fld .PEAT_STATUS_USED, .fld
    .PEAT_FRZ_AREA, .arr (.MBX_DONE_DONE 0) 0x4 2, .grid (.MBX_RSP_DATA 0 0) 0x400 64 0x4 64, .arr (.MBX_STAT_CANCEL_REQ 0)
    0x400 64, .arr (.MBX_STAT_STARTED 0) 0x400 64, .arr (.MBX_STAT_STATE 0) 0x400 64, .arr (.MBX_LATCH_RSP_STATUS 0) 0x400 64,
    .fld .DYKE_SLOT_INACTIVE] : List Regs)) R) :
    OutFrame W R s (execAttestRead p s) := by
  unfold execAttestRead
  repeat' first
    | (extract_lets +onlyGivenNames y; clear_value y; revert y; intro _)
    | exact parts_sub hW rfl
    | with_reducible refine next_frame ?_
    | with_reducible assumption
    | with_reducible exact Frame.refl _ _ _
    | with_reducible refine State.onCommand_frame    (fun t ht => ?_) ?_
    | with_reducible refine State.respondOk_frame ?_ ?_   ?_

theorem execAttestQuote_frame {W : List Part} {R : List Regs} {s : State} {p : ℕ} (hW : ∀ p ∈ ([.drawn, .fenIrq, .aq, .dyke] :
    List Part), p ∈ W) (hR : RegsIn (([.fld .PEAT_STATUS_STAMP_WAIT, .fld .PEAT_STATUS_HELD, .fld .PEAT_STATUS_USED, .fld
    .PEAT_FRZ_AREA, .arr (.MBX_DONE_DONE 0) 0x4 2, .grid (.MBX_RSP_DATA 0 0) 0x400 64 0x4 64, .arr (.MBX_STAT_CANCEL_REQ 0)
    0x400 64, .arr (.MBX_STAT_STARTED 0) 0x400 64, .arr (.MBX_STAT_STATE 0) 0x400 64, .arr (.MBX_LATCH_RSP_STATUS 0) 0x400 64,
    .fld .DYKE_SLOT_INACTIVE] : List Regs)) R) :
    OutFrame W R s (execAttestQuote p s) := by
  unfold execAttestQuote
  repeat' first
    | (extract_lets +onlyGivenNames y; clear_value y; revert y; intro _)
    | exact parts_sub hW rfl
    | with_reducible refine next_frame ?_
    | with_reducible assumption
    | with_reducible exact Frame.refl _ _ _
    | with_reducible refine State.onCommand_frame    (fun t ht => ?_) ?_
    | with_reducible refine State.signBy_frame ?_    ?_
    | with_reducible refine State.respondOk_frame ?_ ?_   ?_
    | with_reducible refine State.updAq_frame ?_    ?_

theorem execAuthChallenge_frame {W : List Part} {R : List Regs} {s : State} {p : ℕ} (hW : ∀ p ∈ ([.drawn, .fenIrq, .aq, .dyke]
    : List Part), p ∈ W) (hR : RegsIn (([.fld .PEAT_STATUS_STAMP_WAIT, .fld .PEAT_STATUS_HELD, .fld .PEAT_STATUS_USED, .fld
    .PEAT_FRZ_AREA, .arr (.MBX_DONE_DONE 0) 0x4 2, .grid (.MBX_RSP_DATA 0 0) 0x400 64 0x4 64, .arr (.MBX_STAT_CANCEL_REQ 0)
    0x400 64, .arr (.MBX_STAT_STARTED 0) 0x400 64, .arr (.MBX_STAT_STATE 0) 0x400 64, .arr (.MBX_LATCH_RSP_STATUS 0) 0x400 64,
    .fld .DYKE_SLOT_INACTIVE] : List Regs)) R) :
    OutFrame W R s (execAuthChallenge p s) := by
  unfold execAuthChallenge
  repeat' first
    | exact parts_sub hW rfl
    | with_reducible refine next_frame ?_
    | with_reducible assumption
    | with_reducible exact Frame.refl _ _ _
    | with_reducible refine State.onCommand_frame    (fun t ht => ?_) ?_
    | with_reducible refine State.respondOk_frame ?_ ?_   ?_
    | with_reducible refine State.draw_frame ?_    ?_
    | with_reducible refine State.updSession_frame ?_    ?_

theorem execSpdmMessage_frame {W : List Part} {R : List Regs} {s : State} {p : ℕ} (hW : ∀ p ∈ ([.drawn, .fenIrq, .aq, .dyke] :
    List Part), p ∈ W) (hR : RegsIn (([.fld .PEAT_STATUS_STAMP_WAIT, .fld .PEAT_STATUS_HELD, .fld .PEAT_STATUS_USED, .fld
    .PEAT_FRZ_AREA, .arr (.MBX_DONE_DONE 0) 0x4 2, .grid (.MBX_RSP_DATA 0 0) 0x400 64 0x4 64, .arr (.MBX_STAT_CANCEL_REQ 0)
    0x400 64, .arr (.MBX_STAT_STARTED 0) 0x400 64, .arr (.MBX_STAT_STATE 0) 0x400 64, .arr (.MBX_LATCH_RSP_STATUS 0) 0x400 64,
    .fld .DYKE_SLOT_INACTIVE] : List Regs)) R) :
    OutFrame W R s (execSpdmMessage p s) := by
  unfold execSpdmMessage
  repeat' first
    | (extract_lets +onlyGivenNames f; have := fun a => f a; clear this; unfold f; clear f)
    | exact parts_sub hW rfl
    | with_reducible refine next_frame ?_
    | with_reducible assumption
    | with_reducible exact Frame.refl _ _ _
    | with_reducible refine State.onCommand_frame    (fun t ht => ?_) ?_
    | with_reducible refine State.respondOk_frame ?_ ?_   ?_
    | with_reducible refine State.updSession_frame ?_    ?_
    | with_reducible refine upd_drawn ?_ ?_

theorem execFactoryUnlock_frame {W : List Part} {R : List Regs} {s : State} {p : ℕ} (hW : ∀ p ∈ ([.mireIrq, .fenIrq, .seqs,
    .chans, .stg, .lev, .peat, .aq, .dyke] : List Part), p ∈ W) (hR : RegsIn (alarmRegs ++ haltRegs ++ ([.arr (.MBX_DONE_DONE
    0) 0x4 2, .grid (.MBX_RSP_DATA 0 0) 0x400 64 0x4 64, .arr (.MBX_STAT_CANCEL_REQ 0) 0x400 64, .arr (.MBX_STAT_STARTED 0)
    0x400 64, .arr (.MBX_STAT_STATE 0) 0x400 64, .arr (.MBX_LATCH_RSP_STATUS 0) 0x400 64, .fld .LEV_STATUS_FACTORY, .fld
    .DYKE_STATUS_FACTORY, .fld .DYKE_SLOT_INACTIVE, .grid (.DYKE_MR_DATA 0 0) 0x30 16 0x4 12] : List Regs)) R) :
    OutFrame W R s (execFactoryUnlock p s) := by
  unfold execFactoryUnlock
  repeat' first
    | exact parts_sub hW rfl
    | with_reducible refine next_frame ?_
    | with_reducible assumption
    | exact regs_sub hR (by decide +kernel)
    | with_reducible exact Frame.refl _ _ _
    | with_reducible refine State.signedCommand_frame ?_ ?_  (fun i t ht => ?_) ?_
    | with_reducible refine State.onCommand_frame    (fun t ht => ?_) ?_
    | with_reducible refine State.set_frame ?_ ?_
    | with_reducible refine State.extendMr_frame  ?_   ?_
    | with_reducible refine State.respondOk_frame ?_ ?_   ?_
    | exact cov_fld hR (by decide +kernel)

/-! ### Machine/UpdateCmds.lean -/

theorem execUpdateBegin_frame {W : List Part} {R : List Regs} {s : State} {p : ℕ} {norOk : Bool} (hW : ∀ p ∈ ([.fenIrq, .aq,
    .dyke] : List Part), p ∈ W) (hR : RegsIn (([.fld .PEAT_STATUS_STAMP_WAIT, .fld .PEAT_STATUS_HELD, .fld .PEAT_STATUS_USED,
    .fld .PEAT_FRZ_AREA, .arr (.MBX_DONE_DONE 0) 0x4 2, .grid (.MBX_RSP_DATA 0 0) 0x400 64 0x4 64, .arr (.MBX_STAT_CANCEL_REQ
    0) 0x400 64, .arr (.MBX_STAT_STARTED 0) 0x400 64, .arr (.MBX_STAT_STATE 0) 0x400 64, .arr (.MBX_LATCH_RSP_STATUS 0) 0x400
    64, .fld .DYKE_SLOT_SEQ, .fld .DYKE_SLOT_INACTIVE] : List Regs) ++ ([.fld .DYKE_SLOT_CONFIRMED, .fld .DYKE_SLOT_POINTED] :
    List Regs)) R) :
    OutFrame W R s (execUpdateBegin p norOk s) := by
  unfold execUpdateBegin
  repeat' first
    | (extract_lets +onlyGivenNames x; refine have_frame (x := x) ?_ (fun hx => ?_); (on_goal 2 => (clear_value x; revert x; intro _ _)); (on_goal 1 => (unfold x; clear x)))
    | (extract_lets +onlyGivenNames y; clear_value y; revert y; intro _)
    | exact parts_sub hW rfl
    | with_reducible refine next_frame ?_
    | with_reducible assumption
    | exact regs_sub hR (by decide +kernel)
    | with_reducible exact Frame.refl _ _ _
    | with_reducible refine ite_frame (fun _ => ?_) (fun _ => ?_)
    | with_reducible refine State.onCommand_frame    (fun t ht => ?_) ?_
    | with_reducible refine State.respondBad_frame ?_ ?_   ?_
    | with_reducible refine State.updSlot_frame ?_    ?_
    | with_reducible refine State.respondOk_frame ?_ ?_   ?_
    | with_reducible refine State.dropUpdate_frame ?_ ?_   ?_
    | with_reducible refine State.updRun_frame ?_    ?_
    | with_reducible refine State.showSlot_frame  ?_   ?_
    | with_reducible refine upd_dyke ?_ ?_

theorem execUpdateData_frame {W : List Part} {R : List Regs} {s : State} {p : ℕ} {norOk : Bool} (hW : ∀ p ∈ ([.fenIrq, .aq,
    .dyke] : List Part), p ∈ W) (hR : RegsIn (([.fld .PEAT_STATUS_STAMP_WAIT, .fld .PEAT_STATUS_HELD, .fld .PEAT_STATUS_USED,
    .fld .PEAT_FRZ_AREA, .arr (.MBX_DONE_DONE 0) 0x4 2, .grid (.MBX_RSP_DATA 0 0) 0x400 64 0x4 64, .arr (.MBX_STAT_CANCEL_REQ
    0) 0x400 64, .arr (.MBX_STAT_STARTED 0) 0x400 64, .arr (.MBX_STAT_STATE 0) 0x400 64, .arr (.MBX_LATCH_RSP_STATUS 0) 0x400
    64, .fld .DYKE_SLOT_INACTIVE] : List Regs)) R) :
    OutFrame W R s (execUpdateData p norOk s) := by
  unfold execUpdateData
  repeat' first
    | (extract_lets +onlyGivenNames y; clear_value y; revert y; intro _)
    | exact parts_sub hW rfl
    | with_reducible refine next_frame ?_
    | with_reducible assumption
    | exact regs_sub hR (by decide +kernel)
    | with_reducible exact Frame.refl _ _ _
    | with_reducible refine ite_frame (fun _ => ?_) (fun _ => ?_)
    | with_reducible refine State.onCommand_frame    (fun t ht => ?_) ?_
    | with_reducible refine State.respondBad_frame ?_ ?_   ?_
    | with_reducible refine State.respondOk_frame ?_ ?_   ?_
    | with_reducible refine State.dropUpdate_frame ?_ ?_   ?_
    | with_reducible refine upd_dyke ?_ ?_

theorem State.applyFails_frame {W : List Part} {R : List Regs} {s0 s : State} {p : ℕ} {status : ℕ} {applied : ℕ} {fail : ℕ}
    {full : Bool} (hW : ∀ p ∈ ([.mireIrq, .fenIrq, .seqs, .chans, .stg, .lev, .peat, .aq, .dyke] : List Part), p ∈ W) (hR :
    RegsIn (alarmRegs ++ haltRegs ++ ([.arr (.MBX_DONE_DONE 0) 0x4 2, .grid (.MBX_RSP_DATA 0 0) 0x400 64 0x4 64, .arr
    (.MBX_STAT_CANCEL_REQ 0) 0x400 64, .arr (.MBX_STAT_STARTED 0) 0x400 64, .arr (.MBX_STAT_STATE 0) 0x400 64, .arr
    (.MBX_LATCH_RSP_STATUS 0) 0x400 64, .fld .DYKE_SLOT_INACTIVE] : List Regs)) R) (h : Frame W R s0 s) :
    Frame W R s0 (State.applyFails s p status applied fail full) := by
  unfold State.applyFails
  repeat' first
    | with_reducible exact h
    | with_reducible assumption
    | (extract_lets +onlyGivenNames x; refine have_frame (x := x) ?_ (fun hx => ?_); (on_goal 2 => (clear_value x; revert x; intro _ _)); (on_goal 1 => (unfold x; clear x)))
    | (extract_lets +onlyGivenNames y; clear_value y; revert y; intro _)
    | exact parts_sub hW rfl
    | exact regs_sub hR (by decide +kernel)
    | with_reducible refine State.respondBad_frame ?_ ?_   ?_
    | with_reducible refine State.updateRecord_frame ?_ ?_   ?_
    | with_reducible refine State.dropUpdate_frame ?_ ?_   ?_

theorem execUpdateApply_frame {W : List Part} {R : List Regs} {s : State} {p : ℕ} {norOk : Bool} (hW : ∀ p ∈ ([.mireIrq,
    .fenIrq, .seqs, .chans, .stg, .lev, .peat, .aq, .dyke] : List Part), p ∈ W) (hR : RegsIn (alarmRegs ++ haltRegs ++ ([.arr
    (.MBX_DONE_DONE 0) 0x4 2, .grid (.MBX_RSP_DATA 0 0) 0x400 64 0x4 64, .arr (.MBX_STAT_CANCEL_REQ 0) 0x400 64, .arr
    (.MBX_STAT_STARTED 0) 0x400 64, .arr (.MBX_STAT_STATE 0) 0x400 64, .arr (.MBX_LATCH_RSP_STATUS 0) 0x400 64, .fld
    .DYKE_SLOT_SEQ, .fld .DYKE_SLOT_INACTIVE, .fld .DYKE_SLOT_CONFIRMED, .fld .DYKE_SLOT_POINTED] : List Regs)) R) :
    OutFrame W R s (execUpdateApply p norOk s) := by
  unfold execUpdateApply
  repeat' first
    | (extract_lets +onlyGivenNames x; refine have_frame (x := x) ?_ (fun hx => ?_); (on_goal 2 => (clear_value x; revert x; intro _ _)); (on_goal 1 => (unfold x; clear x)))
    | (extract_lets +onlyGivenNames y; clear_value y; revert y; intro _)
    | exact parts_sub hW rfl
    | with_reducible refine next_frame ?_
    | with_reducible assumption
    | exact regs_sub hR (by decide +kernel)
    | with_reducible exact Frame.refl _ _ _
    | with_reducible refine ite_frame (fun _ => ?_) (fun _ => ?_)
    | with_reducible refine State.onCommand_frame    (fun t ht => ?_) ?_
    | with_reducible refine State.updRun_frame ?_    ?_
    | with_reducible refine State.updateRecord_frame ?_ ?_   ?_
    | with_reducible refine State.updSlot_frame ?_    ?_
    | with_reducible refine State.respondOk_frame ?_ ?_   ?_
    | with_reducible refine State.applyFails_frame ?_ ?_   ?_
    | with_reducible refine State.showSlot_frame  ?_   ?_
    | split
    | with_reducible refine upd_dyke ?_ ?_

theorem execUpdateActivate_frame {W : List Part} {R : List Regs} {s : State} {p : ℕ} {norOk : Bool} (hW : ∀ p ∈ ([.drawn,
    .mireIrq, .fenIrq, .seqs, .chans, .stg, .lev, .peat, .aq, .dyke] : List Part), p ∈ W) (hR : RegsIn (alarmRegs ++ haltRegs
    ++ ([.arr (.MBX_DONE_DONE 0) 0x4 2, .grid (.MBX_RSP_DATA 0 0) 0x400 64 0x4 64, .arr (.MBX_STAT_CANCEL_REQ 0) 0x400 64,
    .arr (.MBX_STAT_STARTED 0) 0x400 64, .arr (.MBX_STAT_STATE 0) 0x400 64, .arr (.MBX_LATCH_RSP_STATUS 0) 0x400 64, .fld
    .DYKE_SLOT_SEQ, .fld .DYKE_SLOT_INACTIVE, .fld .DYKE_SLOT_CONFIRMED, .fld .DYKE_SLOT_POINTED] : List Regs)) R) :
    OutFrame W R s (execUpdateActivate p norOk s) := by
  unfold execUpdateActivate
  repeat' first
    | (extract_lets +onlyGivenNames x; refine have_frame (x := x) ?_ (fun hx => ?_); (on_goal 2 => (clear_value x; revert x; intro _ _)); (on_goal 1 => (unfold x; clear x)))
    | (extract_lets +onlyGivenNames y; clear_value y; revert y; intro _)
    | exact parts_sub hW rfl
    | with_reducible refine next_frame ?_
    | with_reducible assumption
    | exact regs_sub hR (by decide +kernel)
    | with_reducible exact Frame.refl _ _ _
    | with_reducible refine ite_frame (fun _ => ?_) (fun _ => ?_)
    | with_reducible refine State.when_frame ?_ (fun t ht => ?_)
    | with_reducible refine State.onCommand_frame    (fun t ht => ?_) ?_
    | with_reducible refine State.sealRecord_frame ?_ ?_   ?_
    | with_reducible refine State.respondBad_frame ?_ ?_   ?_
    | with_reducible refine State.respondOk_frame ?_ ?_   ?_
    | with_reducible refine State.writePointer_frame ?_ ?_   ?_
    | with_reducible refine State.requestReset_frame ?_    ?_
    | with_reducible refine State.updateRecord_frame ?_ ?_   ?_
    | with_reducible refine upd_dyke ?_ ?_

theorem execUpdateStatus_frame {W : List Part} {R : List Regs} {s : State} {p : ℕ} (hW : ∀ p ∈ ([.fenIrq, .aq, .dyke] : List
    Part), p ∈ W) (hR : RegsIn (([.fld .PEAT_STATUS_STAMP_WAIT, .fld .PEAT_STATUS_HELD, .fld .PEAT_STATUS_USED, .fld
    .PEAT_FRZ_AREA, .arr (.MBX_DONE_DONE 0) 0x4 2, .grid (.MBX_RSP_DATA 0 0) 0x400 64 0x4 64, .arr (.MBX_STAT_CANCEL_REQ 0)
    0x400 64, .arr (.MBX_STAT_STARTED 0) 0x400 64, .arr (.MBX_STAT_STATE 0) 0x400 64, .arr (.MBX_LATCH_RSP_STATUS 0) 0x400 64,
    .fld .DYKE_SLOT_INACTIVE] : List Regs)) R) :
    OutFrame W R s (execUpdateStatus p s) := by
  unfold execUpdateStatus
  repeat' first
    | (extract_lets +onlyGivenNames y; clear_value y; revert y; intro _)
    | exact parts_sub hW rfl
    | with_reducible refine next_frame ?_
    | with_reducible assumption
    | with_reducible exact Frame.refl _ _ _
    | with_reducible refine State.onCommand_frame    (fun t ht => ?_) ?_
    | with_reducible refine State.respondOk_frame ?_ ?_   ?_

theorem execUpdateAbort_frame {W : List Part} {R : List Regs} {s : State} {p : ℕ} (hW : ∀ p ∈ ([.fenIrq, .aq, .dyke] : List
    Part), p ∈ W) (hR : RegsIn (([.fld .PEAT_STATUS_STAMP_WAIT, .fld .PEAT_STATUS_HELD, .fld .PEAT_STATUS_USED, .fld
    .PEAT_FRZ_AREA, .arr (.MBX_DONE_DONE 0) 0x4 2, .grid (.MBX_RSP_DATA 0 0) 0x400 64 0x4 64, .arr (.MBX_STAT_CANCEL_REQ 0)
    0x400 64, .arr (.MBX_STAT_STARTED 0) 0x400 64, .arr (.MBX_STAT_STATE 0) 0x400 64, .arr (.MBX_LATCH_RSP_STATUS 0) 0x400 64,
    .fld .DYKE_SLOT_INACTIVE] : List Regs)) R) :
    OutFrame W R s (execUpdateAbort p s) := by
  unfold execUpdateAbort
  repeat' first
    | (extract_lets +onlyGivenNames x; refine have_frame (x := x) ?_ (fun hx => ?_); (on_goal 2 => (clear_value x; revert x; intro _ _)); (on_goal 1 => (unfold x; clear x)))
    | (extract_lets +onlyGivenNames y; clear_value y; revert y; intro _)
    | exact parts_sub hW rfl
    | with_reducible refine next_frame ?_
    | with_reducible assumption
    | exact regs_sub hR (by decide +kernel)
    | with_reducible exact Frame.refl _ _ _
    | with_reducible refine ite_frame (fun _ => ?_) (fun _ => ?_)
    | with_reducible refine State.when_frame ?_ (fun t ht => ?_)
    | with_reducible refine State.onCommand_frame    (fun t ht => ?_) ?_
    | with_reducible refine State.respondOk_frame ?_ ?_   ?_
    | with_reducible refine State.dropUpdate_frame ?_ ?_   ?_
    | with_reducible refine upd_dyke ?_ ?_

theorem execUpdateFloor_frame {W : List Part} {R : List Regs} {s : State} {p : ℕ} (hW : ∀ p ∈ ([.mireIrq, .fenIrq, .seqs,
    .chans, .stg, .lev, .peat, .aq, .dyke] : List Part), p ∈ W) (hR : RegsIn (alarmRegs ++ haltRegs ++ ([.arr (.MBX_DONE_DONE
    0) 0x4 2, .grid (.MBX_RSP_DATA 0 0) 0x400 64 0x4 64, .arr (.MBX_STAT_CANCEL_REQ 0) 0x400 64, .arr (.MBX_STAT_STARTED 0)
    0x400 64, .arr (.MBX_STAT_STATE 0) 0x400 64, .arr (.MBX_LATCH_RSP_STATUS 0) 0x400 64, .fld .DYKE_SLOT_INACTIVE, .arr
    (.DYKE_FLOOR_COUNT 0) 0x4 8] : List Regs)) R) :
    OutFrame W R s (execUpdateFloor p s) := by
  unfold execUpdateFloor
  repeat' first
    | (extract_lets +onlyGivenNames y; clear_value y; revert y; intro _)
    | exact parts_sub hW rfl
    | with_reducible refine next_frame ?_
    | with_reducible assumption
    | exact regs_sub hR (by decide +kernel)
    | with_reducible exact Frame.refl _ _ _
    | with_reducible refine State.onCommand_frame    (fun t ht => ?_) ?_
    | with_reducible refine State.set_frame ?_ ?_
    | with_reducible refine State.respondOk_frame ?_ ?_   ?_
    | with_reducible refine State.updateRecord_frame ?_ ?_   ?_
    | exact cov_arr (f := .DYKE_FLOOR_COUNT 0) (k := 0x4) (m := 8) hR (by decide +kernel) (by decide) rfl
    | split

end Sys2Proof.Machine
end

