-- ==== Sys2Proof/Laws/FramePower.lean ====
section
/-! SUPPORT. Frames of start, reset and power (Boot, Power): what an operation may change, and what a command may change. -/

set_option Elab.async false

namespace Sys2Proof.Machine

/-! ### Machine/Boot.lean -/

theorem State.fixture_frame {W : List Part} {R : List Regs} {s0 s : State} {x : BootFound} (hW : ∀ p ∈ ([.dyke] : List Part),
    p ∈ W) (h : Frame W R s0 s) :
    Frame W R s0 (State.fixture s x) := by
  unfold State.fixture
  repeat' first
    | with_reducible exact h
    | with_reducible assumption
    | (extract_lets +onlyGivenNames y; clear_value y; revert y; intro _)
    | with_reducible refine upd_dyke ?_ ?_

theorem State.spoilSlot_frame {W : List Part} {R : List Regs} {s0 s : State} {i : ℕ} (hW : ∀ p ∈ ([.dyke] : List Part), p ∈ W)
    (h : Frame W R s0 s) :
    Frame W R s0 (State.spoilSlot s i) := by
  unfold State.spoilSlot
  repeat' first
    | with_reducible exact h
    | with_reducible assumption
    | with_reducible refine State.updSlot_frame ?_    ?_

theorem State.chooseSlot_frame {W : List Part} {R : List Regs} {s0 s : State} (hW : ∀ p ∈ ([.dyke] : List Part), p ∈ W) (hR :
    RegsIn (([.fld .DYKE_SLOT_SEQ, .fld .DYKE_SLOT_INACTIVE, .fld .DYKE_SLOT_CONFIRMED, .fld .DYKE_SLOT_POINTED] : List Regs))
    R) (h : Frame W R s0 s) :
    Frame W R s0 (State.chooseSlot s).2 := by
  unfold State.chooseSlot
  repeat' first
    | with_reducible exact h
    | with_reducible assumption
    | with_reducible refine State.writePointer_frame ?_ ?_   ?_
    | with_reducible refine State.spoilSlot_frame ?_    ?_
    | split

theorem State.bootStop_frame {W : List Part} {R : List Regs} {s0 s : State} {stage : ℕ} (hW : ∀ p ∈ ([.dyke] : List Part), p ∈
    W) (hR : RegsIn (([.fld .DYKE_STATUS_STAGE] : List Regs)) R) (h : Frame W R s0 s) :
    Frame W R s0 (State.bootStop s stage) := by
  unfold State.bootStop
  repeat' first
    | with_reducible exact h
    | with_reducible assumption
    | (extract_lets +onlyGivenNames y; clear_value y; revert y; intro _)
    | with_reducible refine State.set_frame ?_ ?_
    | exact cov_fld hR (by decide +kernel)
    | with_reducible refine upd_dyke ?_ ?_

theorem State.measureSlot_frame {W : List Part} {R : List Regs} {s0 s : State} {i : ℕ} (hR : RegsIn (([.grid (.DYKE_MR_DATA 0
    0) 0x30 16 0x4 12] : List Regs)) R) (h : Frame W R s0 s) :
    Frame W R s0 (State.measureSlot s i) := by
  unfold State.measureSlot
  repeat' first
    | with_reducible exact h
    | with_reducible assumption
    | (extract_lets +onlyGivenNames x; refine have_frame (x := x) ?_ (fun hx => ?_); (on_goal 2 => (clear_value x; revert x; intro _ _)); (on_goal 1 => (unfold x; clear x)))
    | (extract_lets +onlyGivenNames y; clear_value y; revert y; intro _)
    | with_reducible refine State.forN_frame ?_ (fun i t ht => ?_)
    | with_reducible refine State.extendMr_frame  ?_   ?_

theorem State.deriveKeys_frame {W : List Part} {R : List Regs} {s0 s : State} (hW : ∀ p ∈ ([.drawn, .dyke] : List Part), p ∈
    W) (hR : RegsIn (([.fld .DYKE_STATUS_UDS_LOCK] : List Regs)) R) (h : Frame W R s0 s) :
    Frame W R s0 (State.deriveKeys s) := by
  unfold State.deriveKeys
  repeat' first
    | with_reducible exact h
    | with_reducible assumption
    | (extract_lets +onlyGivenNames x; refine have_frame (x := x) ?_ (fun hx => ?_); (on_goal 2 => (clear_value x; revert x; intro _ _)); (on_goal 1 => (unfold x; clear x)))
    | (extract_lets +onlyGivenNames f; have := fun a => f a; clear this; unfold f; clear f)
    | (extract_lets +onlyGivenNames y; clear_value y; revert y; intro _)
    | with_reducible refine State.set_frame ?_ ?_
    | exact cov_fld hR (by decide +kernel)
    | with_reducible refine upd_drawn_dyke ?_ ?_

theorem State.bootSlot_frame {W : List Part} {R : List Regs} {s0 s : State} {i : ℕ} {trial : Bool} {tries : ℕ} {fallback :
    Bool} {found : BootFound} (hW : ∀ p ∈ ([.sram, .drawn, .weir, .mireRuns, .warmBusy, .aq, .dyke] : List Part), p ∈ W) (hR :
    RegsIn (([.fld .DYKE_STATUS_UDS_LOCK, .fld .DYKE_STATUS_STAGE, .fld .DYKE_BOOT_TRIAL, .fld .DYKE_BOOT_FALLBACK, .fld
    .DYKE_BOOT_TRIES, .fld .DYKE_BOOT_ROM_TIME, .fld .DYKE_SLOT_SEQ, .fld .DYKE_SLOT_INACTIVE, .fld .DYKE_SLOT_CONFIRMED, .fld
    .DYKE_SLOT_POINTED, .fld .DYKE_SLOT_RUNNING, .arr (.DYKE_VER_VERSION 0) 0x4 7] : List Regs) ++ ([.grid (.DYKE_MR_DATA 0 0)
    0x30 16 0x4 12] : List Regs)) R) (h : Frame W R s0 s) :
    Frame W R s0 (State.bootSlot s i trial tries fallback found) := by
  unfold State.bootSlot
  repeat' first
    | with_reducible exact h
    | with_reducible assumption
    | (extract_lets +onlyGivenNames x; refine have_frame (x := x) ?_ (fun hx => ?_); (on_goal 2 => (clear_value x; revert x; intro _ _)); (on_goal 1 => (unfold x; clear x)))
    | (extract_lets +onlyGivenNames y; clear_value y; revert y; intro _)
    | exact parts_sub hW rfl
    | exact regs_sub hR (by decide +kernel)
    | with_reducible refine State.when_frame ?_ (fun t ht => ?_)
    | with_reducible refine State.forN_frame ?_ (fun i t ht => ?_)
    | with_reducible refine State.writeSram_frame ?_    ?_
    | with_reducible refine State.deriveKeys_frame ?_ ?_   ?_
    | with_reducible refine State.measureSlot_frame  ?_   ?_
    | with_reducible refine State.setIf_frame ?_ ?_
    | with_reducible refine State.updAq_frame ?_    ?_
    | with_reducible refine State.showSlot_frame  ?_   ?_
    | with_reducible refine State.set_frame ?_ ?_
    | exact cov_fld hR (by decide +kernel)
    | exact cov_arr (f := .DYKE_VER_VERSION 0) (k := 0x4) (m := 7) hR (by decide +kernel) (by decide) rfl
    | with_reducible refine upd_mireRuns_warmBusy_dyke ?_ ?_
    | with_reducible refine upd_weir ?_ ?_

theorem State.tryBoot_frame {W : List Part} {R : List Regs} {s0 s : State} {i : ℕ} {trial : Bool} {tries : ℕ} {fallback :
    Bool} {found : BootFound} (hW : ∀ p ∈ ([.sram, .drawn, .weir, .mireRuns, .warmBusy, .aq, .dyke] : List Part), p ∈ W) (hR :
    RegsIn (([.fld .DYKE_STATUS_UDS_LOCK, .fld .DYKE_STATUS_STAGE, .fld .DYKE_BOOT_TRIAL, .fld .DYKE_BOOT_FALLBACK, .fld
    .DYKE_BOOT_TRIES, .fld .DYKE_BOOT_ROM_TIME, .fld .DYKE_SLOT_SEQ, .fld .DYKE_SLOT_INACTIVE, .fld .DYKE_SLOT_CONFIRMED, .fld
    .DYKE_SLOT_POINTED, .fld .DYKE_SLOT_RUNNING, .arr (.DYKE_VER_VERSION 0) 0x4 7] : List Regs) ++ ([.grid (.DYKE_MR_DATA 0 0)
    0x30 16 0x4 12] : List Regs)) R) (h : Frame W R s0 s) :
    Frame W R s0 (State.tryBoot s i trial tries fallback found) := by
  unfold State.tryBoot
  repeat' first
    | with_reducible exact h
    | with_reducible assumption
    | exact parts_sub hW rfl
    | exact regs_sub hR (by decide +kernel)
    | with_reducible refine ite_frame (fun _ => ?_) (fun _ => ?_)
    | with_reducible refine State.bootSlot_frame ?_ ?_   ?_
    | with_reducible refine State.bootStop_frame ?_ ?_   ?_

theorem execBootRom_frame {W : List Part} {R : List Regs} {s : State} {found : BootFound} (hW : ∀ p ∈ ([.sram, .drawn,
    .mireIrq, .fenIrq, .seqs, .chans, .stg, .lev, .peat, .weir, .mireRuns, .warmBusy, .slu, .aq, .dyke] : List Part), p ∈ W)
    (hR : RegsIn (alarmRegs ++ haltRegs ++ ([.fld .LEV_STATUS_FACTORY, .fld .DYKE_STATUS_FACTORY, .fld .DYKE_STATUS_UDS_LOCK,
    .fld .DYKE_STATUS_STAGE, .fld .DYKE_BOOT_KIND, .fld .DYKE_BOOT_TRIAL, .fld .DYKE_BOOT_FALLBACK, .fld .DYKE_BOOT_TRIES,
    .fld .DYKE_BOOT_ROM_TIME, .fld .DYKE_SLOT_SEQ, .fld .DYKE_SLOT_INACTIVE, .fld .DYKE_SLOT_CONFIRMED] : List Regs) ++ ([.fld
    .DYKE_SLOT_POINTED, .fld .DYKE_SLOT_RUNNING, .arr (.DYKE_VER_VERSION 0) 0x4 7, .grid (.DYKE_MR_DATA 0 0) 0x30 16 0x4 12] :
    List Regs)) R) :
    OutFrame W R s (execBootRom found s) := by
  unfold execBootRom
  repeat' first
    | (extract_lets +onlyGivenNames x; refine have_out (x := x) ?_ (fun hx => ?_); (on_goal 2 => (clear_value x; revert x; intro _ _)); (on_goal 1 => (unfold x; clear x)))
    | (extract_lets +onlyGivenNames y; clear_value y; revert y; intro _)
    | exact parts_sub hW rfl
    | with_reducible refine next_frame ?_
    | with_reducible refine ite_out (fun _ => ?_) (fun _ => ?_)
    | with_reducible assumption
    | exact regs_sub hR (by decide +kernel)
    | with_reducible exact Frame.refl _ _ _
    | with_reducible refine State.when_frame ?_ (fun t ht => ?_)
    | with_reducible refine State.bootStop_frame ?_ ?_   ?_
    | with_reducible refine State.setIf_frame ?_ ?_
    | with_reducible refine State.fixture_frame ?_    ?_
    | with_reducible refine State.spoilSlot_frame ?_    ?_
    | with_reducible refine State.extendMr_frame  ?_   ?_
    | with_reducible refine State.raise_frame ?_ ?_   ?_
    | with_reducible refine State.chooseSlot_frame ?_ ?_   ?_
    | with_reducible refine State.tryBoot_frame ?_ ?_   ?_
    | with_reducible refine State.set_frame ?_ ?_
    | with_reducible refine State.updSlu_frame ?_    ?_
    | exact cov_fld hR (by decide +kernel)

theorem State.completeBoot_frame {W : List Part} {R : List Regs} {s0 s : State} (hW : ∀ p ∈ ([.dyke] : List Part), p ∈ W) (hR
    : RegsIn (([.fld .DYKE_STATUS_LIFECYCLE, .fld .DYKE_SLOT_SEQ, .fld .DYKE_SLOT_INACTIVE, .fld .DYKE_SLOT_CONFIRMED, .fld
    .DYKE_SLOT_POINTED] : List Regs)) R) (h : Frame W R s0 s) :
    Frame W R s0 (State.completeBoot s) := by
  unfold State.completeBoot
  repeat' first
    | with_reducible exact h
    | with_reducible assumption
    | (extract_lets +onlyGivenNames x; refine have_frame (x := x) ?_ (fun hx => ?_); (on_goal 2 => (clear_value x; revert x; intro _ _)); (on_goal 1 => (unfold x; clear x)))
    | (extract_lets +onlyGivenNames y; clear_value y; revert y; intro _)
    | exact regs_sub hR (by decide +kernel)
    | with_reducible refine ite_frame (fun _ => ?_) (fun _ => ?_)
    | with_reducible refine State.when_frame ?_ (fun t ht => ?_)
    | with_reducible refine State.writePointer_frame ?_ ?_   ?_
    | with_reducible refine State.set_frame ?_ ?_
    | exact cov_fld hR (by decide +kernel)
    | with_reducible refine upd_dyke ?_ ?_

theorem execTrialConfirm_frame {W : List Part} {R : List Regs} {s : State} (hW : ∀ p ∈ ([.dyke] : List Part), p ∈ W) (hR :
    RegsIn (([.fld .DYKE_STATUS_LIFECYCLE, .fld .DYKE_SLOT_SEQ, .fld .DYKE_SLOT_INACTIVE, .fld .DYKE_SLOT_CONFIRMED, .fld
    .DYKE_SLOT_POINTED] : List Regs)) R) :
    OutFrame W R s (execTrialConfirm s) := by
  unfold execTrialConfirm
  repeat' first
    | (extract_lets +onlyGivenNames y; clear_value y; revert y; intro _)
    | exact parts_sub hW rfl
    | with_reducible refine next_frame ?_
    | with_reducible assumption
    | with_reducible exact Frame.refl _ _ _
    | with_reducible refine State.when_frame ?_ (fun t ht => ?_)
    | with_reducible refine State.completeBoot_frame ?_ ?_   ?_

theorem execTrialTimeout_frame {W : List Part} {R : List Regs} {s : State} (hW : ∀ p ∈ ([.lev] : List Part), p ∈ W) :
    OutFrame W R s (execTrialTimeout s) := by
  unfold execTrialTimeout
  repeat' first
    | exact parts_sub hW rfl
    | with_reducible refine next_frame ?_
    | with_reducible assumption
    | with_reducible exact Frame.refl _ _ _
    | with_reducible refine State.when_frame ?_ (fun t ht => ?_)
    | with_reducible refine State.requestReset_frame ?_    ?_

theorem execBootRecord_frame {W : List Part} {R : List Regs} {s : State} (hW : ∀ p ∈ ([.drawn, .mireIrq, .fenIrq, .seqs,
    .chans, .stg, .lev, .peat, .dyke] : List Part), p ∈ W) (hR : RegsIn (alarmRegs ++ haltRegs) R) :
    OutFrame W R s (execBootRecord s) := by
  unfold execBootRecord
  repeat' first
    | (extract_lets +onlyGivenNames y; clear_value y; revert y; intro _)
    | exact parts_sub hW rfl
    | with_reducible refine next_frame ?_
    | with_reducible assumption
    | with_reducible exact Frame.refl _ _ _
    | with_reducible refine State.when_frame ?_ (fun t ht => ?_)
    | with_reducible refine State.signBy_frame ?_    ?_
    | with_reducible refine State.peatRecord_frame ?_ ?_   ?_
    | with_reducible refine upd_dyke ?_ ?_

theorem execDykeMrExt_frame {W : List Part} {R : List Regs} {s : State} {who : Who} {reg : ℕ} (hW : ∀ p ∈ ([.bus, .mireIrq,
    .fenIrq, .seqs, .chans, .stg, .lev, .peat] : List Part), p ∈ W) (hR : RegsIn (alarmRegs ++ haltRegs ++ ([.fld
    .DYKE_MR_EXT_ERR, .fld .DYKE_MR_EXT_REG, .grid (.DYKE_MR_DATA 0 0) 0x30 16 0x4 12] : List Regs)) R) :
    OutFrame W R s (execDykeMrExt who reg s) := by
  unfold execDykeMrExt
  repeat' first
    | (extract_lets +onlyGivenNames x; refine have_frame (x := x) ?_ (fun hx => ?_); (on_goal 2 => (clear_value x; revert x; intro _ _)); (on_goal 1 => (unfold x; clear x)))
    | exact parts_sub hW rfl
    | with_reducible refine next_frame ?_
    | with_reducible assumption
    | exact regs_sub hR (by decide +kernel)
    | with_reducible exact Frame.refl _ _ _
    | with_reducible refine ite_frame (fun _ => ?_) (fun _ => ?_)
    | with_reducible refine State.reach_frame ?_ ?_  (fun i j t ht => ?_) ?_
    | with_reducible refine State.set_frame ?_ ?_
    | with_reducible refine State.extendMr_frame  ?_   ?_
    | exact cov_fld hR (by decide +kernel)

theorem State.commitOpt_frame {W : List Part} {R : List Regs} {s0 s : State} (hW : ∀ p ∈ ([.peat] : List Part), p ∈ W) (hR :
    RegsIn (([.fld .PEAT_STATUS_FLUSHING, .fld .PEAT_STATUS_STAMP_WAIT, .fld .PEAT_STATUS_HELD, .fld .PEAT_STATUS_USED, .fld
    .TIDE_STATUS_OPT_LOADED, .fld .TIDE_OPT_LO_MS_LO, .fld .TIDE_OPT_HI_MS_HI] : List Regs)) R) (h : Frame W R s0 s) :
    Frame W R s0 (State.commitOpt s) := by
  unfold State.commitOpt
  repeat' first
    | with_reducible exact h
    | with_reducible assumption
    | (extract_lets +onlyGivenNames y; clear_value y; revert y; intro _)
    | exact regs_sub hR (by decide +kernel)
    | with_reducible refine ite_frame (fun _ => ?_) (fun _ => ?_)
    | with_reducible refine State.stampStaged_frame ?_ ?_   ?_
    | with_reducible refine State.set_frame ?_ ?_
    | exact cov_fld hR (by decide +kernel)

theorem State.commitPcc_frame {W : List Part} {R : List Regs} {s0 s : State} (hW : ∀ p ∈ ([.peat] : List Part), p ∈ W) (hR :
    RegsIn (([.fld .PEAT_STATUS_FLUSHING, .fld .PEAT_STATUS_STAMP_WAIT, .fld .PEAT_STATUS_HELD, .fld .PEAT_STATUS_USED, .fld
    .MBX_EPOCH_PCC, .fld .PEAT_PCC_COUNT] : List Regs)) R) (h : Frame W R s0 s) :
    Frame W R s0 (State.commitPcc s) := by
  unfold State.commitPcc
  repeat' first
    | with_reducible exact h
    | with_reducible assumption
    | (extract_lets +onlyGivenNames x; refine have_frame (x := x) ?_ (fun hx => ?_); (on_goal 2 => (clear_value x; revert x; intro _ _)); (on_goal 1 => (unfold x; clear x)))
    | exact regs_sub hR (by decide +kernel)
    | with_reducible refine ite_frame (fun _ => ?_) (fun _ => ?_)
    | with_reducible refine State.stampStaged_frame ?_ ?_   ?_
    | with_reducible refine State.set_frame ?_ ?_
    | with_reducible refine State.lockPcc_frame ?_ ?_   ?_
    | exact cov_fld hR (by decide +kernel)

theorem State.answerReset_frame {W : List Part} {R : List Regs} {s0 s : State} {p : ℕ} (hW : ∀ p ∈ ([.fenIrq] : List Part), p
    ∈ W) (hR : RegsIn (([.arr (.MBX_DONE_DONE 0) 0x4 2, .grid (.MBX_RSP_DATA 0 0) 0x400 64 0x4 64, .arr (.MBX_STAT_CANCEL_REQ
    0) 0x400 64, .arr (.MBX_STAT_STARTED 0) 0x400 64, .arr (.MBX_STAT_STATE 0) 0x400 64, .arr (.MBX_LATCH_RSP_STATUS 0) 0x400
    64] : List Regs)) R) (h : Frame W R s0 s) :
    Frame W R s0 (State.answerReset s p) := by
  unfold State.answerReset
  repeat' first
    | with_reducible exact h
    | with_reducible assumption
    | (extract_lets +onlyGivenNames y; clear_value y; revert y; intro _)
    | with_reducible refine State.writeRsp_frame ?_ ?_   ?_
    | split

theorem State.loadMotorCal_frame {W : List Part} {R : List Regs} {s0 s : State} {c : MotorCal} (hR : RegsIn (([.fld
    .TIDE_T1_OFS_OFS, .arr (.TIDE_SURF_OFS_OFS 0) 0x4 24, .fld .WTH_SPN_KE_KE_NOM, .arr (.WTH_RET_CFG_VEL 0) 0x4 4, .arr
    (.WTH_RET_CFG_RCOIL 0) 0x4 4, .arr (.WTH_RET_CFG_IMAX 0) 0x4 4, .arr (.WTH_RET_CFG_DIR 0) 0x4 4] : List Regs)) R) (h :
    Frame W R s0 s) :
    Frame W R s0 (State.loadMotorCal s c) := by
  unfold State.loadMotorCal
  repeat' first
    | with_reducible exact h
    | with_reducible assumption
    | (extract_lets +onlyGivenNames x; refine have_frame (x := x) ?_ (fun hx => ?_); (on_goal 2 => (clear_value x; revert x; intro _ _)); (on_goal 1 => (unfold x; clear x)))
    | (extract_lets +onlyGivenNames y; clear_value y; revert y; intro _)
    | with_reducible refine State.forN_frame ?_ (fun i t ht => ?_)
    | with_reducible refine State.set_frame ?_ ?_
    | exact cov_fld hR (by decide +kernel)
    | exact cov_arr (f := .TIDE_SURF_OFS_OFS 0) (k := 0x4) (m := 24) hR (by decide +kernel) (by decide) rfl
    | exact cov_arr (f := .WTH_RET_CFG_VEL 0) (k := 0x4) (m := 4) hR (by decide +kernel) (by decide) rfl
    | exact cov_arr (f := .WTH_RET_CFG_RCOIL 0) (k := 0x4) (m := 4) hR (by decide +kernel) (by decide) rfl
    | exact cov_arr (f := .WTH_RET_CFG_IMAX 0) (k := 0x4) (m := 4) hR (by decide +kernel) (by decide) rfl
    | exact cov_arr (f := .WTH_RET_CFG_DIR 0) (k := 0x4) (m := 4) hR (by decide +kernel) (by decide) rfl

theorem State.loadReed_frame {W : List Part} {R : List Regs} {s0 s : State} (hW : ∀ p ∈ ([.mireIrq, .fenIrq, .seqs, .chans,
    .stg, .lev, .peat] : List Part), p ∈ W) (hR : RegsIn (alarmRegs ++ haltRegs ++ ([.fld .REED_UCODE_VER_BASE, .fld
    .REED_UCODE_VER_PATCH, .fld .REED_CS_CTRL_SEQ_MASK, .fld .REED_CS_CTRL_ADDR] : List Regs)) R) (h : Frame W R s0 s) :
    Frame W R s0 (State.loadReed s) := by
  unfold State.loadReed
  repeat' first
    | with_reducible exact h
    | with_reducible assumption
    | (extract_lets +onlyGivenNames x; refine have_frame (x := x) ?_ (fun hx => ?_); (on_goal 2 => (clear_value x; revert x; intro _ _)); (on_goal 1 => (unfold x; clear x)))
    | (extract_lets +onlyGivenNames y; clear_value y; revert y; intro _)
    | exact parts_sub hW rfl
    | exact regs_sub hR (by decide +kernel)
    | with_reducible refine ite_frame (fun _ => ?_) (fun _ => ?_)
    | with_reducible refine foldl_frame ?_ (fun t x ht => ?_)
    | with_reducible refine State.placeProgram_frame ?_ ?_   ?_
    | with_reducible refine State.set_frame ?_ ?_
    | with_reducible refine State.raise_frame ?_ ?_   ?_
    | exact cov_fld hR (by decide +kernel)

theorem State.startTables_frame {W : List Part} {R : List Regs} {s0 s : State} (hW : ∀ p ∈ ([.mireIrq, .fenIrq, .seqs, .chans,
    .stg, .lev, .peat, .tus, .mq, .aq] : List Part), p ∈ W) (hR : RegsIn (alarmRegs ++ haltRegs ++ ([.fld
    .TUS_CTRL_TABLES_VALID, .arr (.TUS_SEC_STATUS_REGION_PEND 0) 0x40 4, .fld .MBX_START_RESULT, .fld .MBX_START_STEP, .fld
    .MBX_START_CAUSE, .fld .MBX_START_FAILED, .fld .MBX_START_LOADED] : List Regs)) R) (h : Frame W R s0 s) :
    Frame W R s0 (State.startTables s) := by
  unfold State.startTables
  repeat' first
    | with_reducible exact h
    | with_reducible assumption
    | (extract_lets +onlyGivenNames x; refine have_frame (x := x) ?_ (fun hx => ?_); (on_goal 2 => (clear_value x; revert x; intro _ _)); (on_goal 1 => (unfold x; clear x)))
    | exact parts_sub hW rfl
    | exact regs_sub hR (by decide +kernel)
    | with_reducible refine State.forN_frame ?_ (fun i t ht => ?_)
    | with_reducible refine snd_frame (by assumption) (State.loadTables_frame ?_ ?_   ?_)
    | with_reducible refine State.endStart_frame ?_ ?_   ?_
    | with_reducible refine State.set_frame ?_ ?_
    | with_reducible refine State.fetchRegion_frame ?_ ?_   ?_
    | with_reducible refine State.startCause_frame  ?_   ?_
    | exact cov_fld hR (by decide +kernel)
    | split

theorem State.startSpindle_frame {W : List Part} {R : List Regs} {s0 s : State} (hW : ∀ p ∈ ([.mireIrq, .seqs, .chans, .stg,
    .tide, .withy, .mq, .aq] : List Part), p ∈ W) (hR : RegsIn (haltRegs ++ ([.fld .TIDE_STATUS_STATE, .fld
    .TIDE_CELL_PERIOD_PERIOD, .fld .WTH_SPN_CTRL_SRC, .fld .WTH_SPN_CTRL_RUN, .fld .WTH_SPN_STATUS_STATE, .fld
    .WTH_SPN_STATUS_ATTEMPT, .fld .WTH_SPN_STATUS_AT_SPEED, .fld .WTH_SPN_STATUS_SPD95, .fld .WTH_SPN_STATUS_SPD90, .fld
    .WTH_SPN_STATUS_DIR_REV, .fld .WTH_SPN_STATUS_FW_ACTIVE, .fld .WTH_SPN_STATUS_FW_SAT] : List Regs) ++ ([.fld
    .WTH_SPN_STATUS_STOP_BLOCKED, .fld .WTH_SPN_SPEED_SPEED, .fld .WTH_SPN_MEAS_TRACK, .fld .WTH_SPN_FOC_ID, .fld
    .WTH_SPN_FOC_MI, .fld .MBX_START_RESULT, .fld .MBX_START_STEP, .fld .MBX_START_CAUSE, .fld .MBX_START_FAILED, .fld
    .MBX_START_LOADED] : List Regs)) R) (h : Frame W R s0 s) :
    Frame W R s0 (State.startSpindle s) := by
  unfold State.startSpindle
  repeat' first
    | with_reducible exact h
    | exact parts_sub hW rfl
    | exact regs_sub hR (by decide +kernel)
    | with_reducible refine ite_frame (fun _ => ?_) (fun _ => ?_)
    | with_reducible refine State.setSpeed_frame ?_ ?_   ?_
    | with_reducible refine State.endStart_frame ?_ ?_   ?_
    | with_reducible refine State.setSource_frame ?_ ?_   ?_
    | with_reducible refine State.set_frame ?_ ?_
    | with_reducible refine State.startCause_frame  ?_   ?_
    | with_reducible refine State.runStart_frame ?_ ?_   ?_
    | exact cov_fld hR (by decide +kernel)

theorem State.watchStart_frame {W : List Part} {R : List Regs} {s0 s : State} {emf : ℕ} (hW : ∀ p ∈ ([.mireIrq, .seqs, .chans,
    .stg, .tide, .withy, .mq, .aq] : List Part), p ∈ W) (hR : RegsIn (haltRegs ++ ([.fld .TIDE_STATUS_STATE, .fld
    .TIDE_CELL_PERIOD_PERIOD, .fld .WTH_SPN_CTRL_RUN, .fld .WTH_SPN_STATUS_STATE, .fld .WTH_SPN_STATUS_ATTEMPT, .fld
    .WTH_SPN_STATUS_AT_SPEED, .fld .WTH_SPN_STATUS_SPD95, .fld .WTH_SPN_STATUS_SPD90, .fld .WTH_SPN_STATUS_DIR_REV, .fld
    .WTH_SPN_STATUS_FW_ACTIVE, .fld .WTH_SPN_STATUS_FW_SAT, .fld .WTH_SPN_STATUS_STOP_BLOCKED] : List Regs) ++ ([.fld
    .WTH_SPN_MEAS_TRACK, .fld .WTH_SPN_FOC_ID, .fld .WTH_SPN_FOC_MI, .fld .MBX_START_RESULT, .fld .MBX_START_CAUSE, .fld
    .MBX_START_FAILED, .fld .MBX_START_LOADED] : List Regs)) R) (h : Frame W R s0 s) :
    Frame W R s0 (State.watchStart s emf) := by
  unfold State.watchStart
  repeat' first
    | with_reducible exact h
    | with_reducible assumption
    | exact parts_sub hW rfl
    | exact regs_sub hR (by decide +kernel)
    | with_reducible refine ite_frame (fun _ => ?_) (fun _ => ?_)
    | with_reducible refine State.when_frame ?_ (fun t ht => ?_)
    | with_reducible refine State.spinTo_frame ?_ ?_   ?_
    | with_reducible refine State.endStart_frame ?_ ?_   ?_
    | with_reducible refine State.runStart_frame ?_ ?_   ?_
    | with_reducible refine State.startCause_frame  ?_   ?_
    | with_reducible refine State.updAq_frame ?_    ?_
    | with_reducible refine State.runStop_frame ?_ ?_   ?_

theorem execSpindleStart_frame {W : List Part} {R : List Regs} {s : State} {emf : ℕ} (hW : ∀ p ∈ ([.mireIrq, .fenIrq, .seqs,
    .chans, .stg, .tide, .lev, .peat, .withy, .tus, .mq, .aq] : List Part), p ∈ W) (hR : RegsIn (alarmRegs ++ haltRegs ++
    ([.fld .TIDE_STATUS_STATE, .fld .TIDE_CELL_PERIOD_PERIOD, .fld .WTH_SPN_CTRL_SRC, .fld .WTH_SPN_CTRL_RUN, .fld
    .WTH_SPN_STATUS_STATE, .fld .WTH_SPN_STATUS_ATTEMPT, .fld .WTH_SPN_STATUS_AT_SPEED, .fld .WTH_SPN_STATUS_SPD95, .fld
    .WTH_SPN_STATUS_SPD90, .fld .WTH_SPN_STATUS_DIR_REV, .fld .WTH_SPN_STATUS_FW_ACTIVE, .fld .WTH_SPN_STATUS_FW_SAT] : List
    Regs) ++ ([.fld .WTH_SPN_STATUS_STOP_BLOCKED, .fld .WTH_SPN_SPEED_SPEED, .fld .WTH_SPN_MEAS_TRACK, .fld .WTH_SPN_FOC_ID,
    .fld .WTH_SPN_FOC_MI, .fld .TUS_CTRL_TABLES_VALID, .arr (.TUS_SEC_STATUS_REGION_PEND 0) 0x40 4, .fld .MBX_START_RESULT,
    .fld .MBX_START_STEP, .fld .MBX_START_CAUSE, .fld .MBX_START_FAILED, .fld .MBX_START_LOADED] : List Regs)) R) :
    OutFrame W R s (execSpindleStart emf s) := by
  unfold execSpindleStart
  repeat' first
    | (extract_lets +onlyGivenNames x; refine have_out (x := x) ?_ (fun hx => ?_); (on_goal 2 => (clear_value x; revert x; intro _ _)); (on_goal 1 => (unfold x; clear x)))
    | exact parts_sub hW rfl
    | with_reducible refine next_frame ?_
    | with_reducible refine ite_out (fun _ => ?_) (fun _ => ?_)
    | with_reducible assumption
    | exact regs_sub hR (by decide +kernel)
    | with_reducible exact Frame.refl _ _ _
    | with_reducible refine State.startSpindle_frame ?_ ?_   ?_
    | with_reducible refine State.startTables_frame ?_ ?_   ?_
    | with_reducible refine State.endStart_frame ?_ ?_   ?_
    | with_reducible refine State.watchStart_frame ?_ ?_   ?_
    | split

theorem State.endLoads_frame {W : List Part} {R : List Regs} {s0 s : State} (hW : ∀ p ∈ ([.withy, .mq, .aq] : List Part), p ∈
    W) (hR : RegsIn (([.fld .WTH_SPN_CTRL_SRC, .fld .WTH_SPN_STATUS_AT_SPEED, .fld .WTH_SPN_STATUS_SPD95, .fld
    .WTH_SPN_STATUS_SPD90, .fld .MBX_START_RESULT, .fld .MBX_START_STEP, .fld .MBX_START_FAILED, .fld .MBX_START_LOADED] :
    List Regs)) R) (h : Frame W R s0 s) :
    Frame W R s0 (State.endLoads s) := by
  unfold State.endLoads
  repeat' first
    | with_reducible exact h
    | with_reducible assumption
    | (extract_lets +onlyGivenNames x; refine have_frame (x := x) ?_ (fun hx => ?_); (on_goal 2 => (clear_value x; revert x; intro _ _)); (on_goal 1 => (unfold x; clear x)))
    | exact parts_sub hW rfl
    | exact regs_sub hR (by decide +kernel)
    | with_reducible refine ite_frame (fun _ => ?_) (fun _ => ?_)
    | with_reducible refine State.endStart_frame ?_ ?_   ?_
    | with_reducible refine State.updAq_frame ?_    ?_
    | with_reducible refine State.setSource_frame ?_ ?_   ?_
    | with_reducible refine State.set_frame ?_ ?_
    | exact cov_fld hR (by decide +kernel)

theorem execHeadLoad_frame {W : List Part} {R : List Regs} {s : State} {lock : Option ℕ} (hW : ∀ p ∈ ([.seqs, .chans, .withy,
    .tus, .mq, .aq] : List Part), p ∈ W) (hR : RegsIn (([.fld .SDG_WF_STATUS_CAUSE_SEEN, .arr (.SDG_WR_STATUS_WG 0) 0x400 8,
    .arr (.SDG_WR_STATUS_CAUSE 0) 0x400 8, .arr (.SDG_WR_STATUS_DROPS 0) 0x400 8, .arr (.SDG_WR_DROP_MANG 0) 0x400 8, .fld
    .WTH_SPN_CTRL_SRC, .fld .WTH_SPN_STATUS_AT_SPEED, .fld .WTH_SPN_STATUS_SPD95, .fld .WTH_SPN_STATUS_SPD90, .arr
    (.WTH_VCM_CTRL_EN 0) 0x4 4, .arr (.WTH_VCM_STATUS_RET_ACTIVE 0) 0x4 4, .arr (.WTH_VCM_STATUS_PARKED 0) 0x4 4] : List Regs)
    ++ ([.arr (.WTH_VCM_STATUS_ENABLED 0) 0x4 4, .arr (.WTH_MA_CTRL_HOLD 0) 0x4 8, .arr (.WTH_MA_STATUS_VOUT 0) 0x4 8, .arr
    (.TUS_SEC_CTRL_LANE_EN 0) 0x40 4, .arr (.TUS_SEC_STATUS_MISS1 0) 0x40 4, .arr (.TUS_SEC_STATUS_MISS0 0) 0x40 4, .arr
    (.TUS_SEEK_STATUS_SEEKING 0) 0x20 4, .arr (.TUS_SEEK_STATUS_HINT_ACTIVE 0) 0x20 4, .arr (.TUS_SEEK_STATUS_SETTLED 0) 0x20
    4, .arr (.MWQ_STATUS_BLOCKED 0) 0x20 16, .arr (.MWQ_STATUS_OUTST 0) 0x20 16, .fld .MWQ_SYS_STATUS_FLUSH] : List Regs) ++
    ([.fld .MWQ_SYS_STATUS_CAL, .fld .MBX_START_RESULT, .fld .MBX_START_STEP, .fld .MBX_START_CAUSE, .fld .MBX_START_FAILED,
    .fld .MBX_START_LOADED] : List Regs)) R) :
    OutFrame W R s (execHeadLoad lock s) := by
  unfold execHeadLoad
  repeat' first
    | (extract_lets +onlyGivenNames x; refine have_out (x := x) ?_ (fun hx => ?_); (on_goal 2 => (clear_value x; revert x; intro _ _)); (on_goal 1 => (unfold x; clear x)))
    | (extract_lets +onlyGivenNames y; clear_value y; revert y; intro _)
    | exact parts_sub hW rfl
    | with_reducible refine next_frame ?_
    | with_reducible refine ite_out (fun _ => ?_) (fun _ => ?_)
    | with_reducible assumption
    | exact regs_sub hR (by decide +kernel)
    | with_reducible exact Frame.refl _ _ _
    | with_reducible refine ite_frame (fun _ => ?_) (fun _ => ?_)
    | with_reducible refine State.when_frame ?_ (fun t ht => ?_)
    | with_reducible refine State.startCause_frame  ?_   ?_
    | with_reducible refine State.updAq_frame ?_    ?_
    | with_reducible refine State.endLoad_frame ?_ ?_   ?_
    | with_reducible refine State.startLoad_frame ?_ ?_   ?_
    | with_reducible refine State.set_frame ?_ ?_
    | with_reducible refine State.endLoads_frame ?_ ?_   ?_
    | exact cov_fld hR (by decide +kernel)
    | split

theorem execBandCheck_frame {W : List Part} {R : List Regs} {s : State} {k : ℕ} (hW : ∀ p ∈ ([.mq, .aq] : List Part), p ∈ W)
    (hR : RegsIn (([.fld .MBX_START_RESULT, .fld .MBX_START_STEP, .fld .MBX_START_FAILED, .fld .MBX_START_LOADED] : List
    Regs)) R) :
    OutFrame W R s (execBandCheck k s) := by
  unfold execBandCheck
  repeat' first
    | (extract_lets +onlyGivenNames x; refine have_out (x := x) ?_ (fun hx => ?_); (on_goal 2 => (clear_value x; revert x; intro _ _)); (on_goal 1 => (unfold x; clear x)))
    | exact parts_sub hW rfl
    | with_reducible refine next_frame ?_
    | with_reducible refine ite_out (fun _ => ?_) (fun _ => ?_)
    | with_reducible assumption
    | exact regs_sub hR (by decide +kernel)
    | with_reducible exact Frame.refl _ _ _
    | with_reducible refine State.endStart_frame ?_ ?_   ?_
    | with_reducible refine State.updAq_frame ?_    ?_
    | with_reducible refine State.set_frame ?_ ?_
    | exact cov_fld hR (by decide +kernel)

/-! ### Machine/Power.lean -/

/-- Everything but the queue, the last answer and the count of free values is set afresh. -/
theorem held_frame {W : List Part} {R : List Regs} {s0 s : State} {a : Weir} {b : Withy} {c : Staithe} {d : Peat} {e : Aqsia}
    {f : Dyke}
    (hW : ∀ p ∈ ([.dram, .sram, .mireIrq, .fenIrq, .seqs, .chans, .shockQuiet, .stg, .tide, .lev, .peat, .weir, .mireRuns, .warmBusy,
      .withy, .tus, .links, .slu, .sth, .dma, .carr, .mq, .aq, .dyke] : List Part), p ∈ W) (hR : RegsIn [.all] R) (h : Frame W R s0 s) :
    Frame W R s0 { pending := s.pending, drawn := s.drawn, bus := s.bus, weir := a, withy := b, sth := c, peat := d, aq := e, dyke := f } := by
  refine h.trans ⟨rfl, fun _ => ⟨tabWf_nil _, tabWf_nil _, tabWf_nil _⟩, fun p hp => ?_, fun g hg => (hR g hg .all (by simp)).elim⟩
  cases p <;> first
    | rfl
    | exact absurd (hW _ (by simp)) hp

theorem State.heldDies_frame {W : List Part} {R : List Regs} {s0 s : State} (hW : ∀ p ∈ ([.dram, .sram, .mireIrq, .fenIrq,
    .seqs, .chans, .shockQuiet, .stg, .tide, .lev, .peat, .weir, .mireRuns, .warmBusy, .withy, .tus, .links, .slu, .sth, .dma,
    .carr, .mq, .aq, .dyke] : List Part), p ∈ W) (hR : RegsIn (([.all] : List Regs)) R) (h : Frame W R s0 s) :
    Frame W R s0 (State.heldDies s) := by
  unfold State.heldDies
  repeat' first
    | with_reducible exact h
    | with_reducible assumption
    | (extract_lets +onlyGivenNames x; refine have_frame (x := x) ?_ (fun hx => ?_); (on_goal 2 => (clear_value x; revert x; intro _ _)); (on_goal 1 => (unfold x; clear x)))
    | (extract_lets +onlyGivenNames f; have := fun a => f a; clear this; unfold f; clear f)
    | (extract_lets +onlyGivenNames y; clear_value y; revert y; intro _)
    | with_reducible refine State.putReg_frame ?_ ?_
    | exact cov_all hR (by decide +kernel)
    | split
    | with_reducible refine held_frame ?_ ?_ ?_

theorem State.holdReset_frame {W : List Part} {R : List Regs} {s0 s : State} (hW : ∀ p ∈ ([.dram, .sram, .mireIrq, .fenIrq,
    .seqs, .chans, .shockQuiet, .stg, .tide, .lev, .peat, .weir, .mireRuns, .warmBusy, .withy, .tus, .links, .slu, .sth, .dma,
    .carr, .mq, .aq, .dyke] : List Part), p ∈ W) (hR : RegsIn (([.all] : List Regs)) R) (h : Frame W R s0 s) :
    Frame W R s0 (State.holdReset s) := by
  unfold State.holdReset
  repeat' first
    | with_reducible exact h
    | with_reducible assumption
    | (extract_lets +onlyGivenNames x; refine have_frame (x := x) ?_ (fun hx => ?_); (on_goal 2 => (clear_value x; revert x; intro _ _)); (on_goal 1 => (unfold x; clear x)))
    | (extract_lets +onlyGivenNames y; clear_value y; revert y; intro _)
    | exact parts_sub hW rfl
    | with_reducible refine State.forN_frame ?_ (fun i t ht => ?_)
    | with_reducible refine State.heldDies_frame ?_ ?_   ?_
    | with_reducible refine State.areaStatus_frame  ?_   ?_
    | with_reducible refine State.retractAll_frame ?_ ?_   ?_
    | with_reducible refine State.set_frame ?_ ?_
    | exact regs_all hR
    | exact cov_all hR (by decide +kernel)

theorem State.latchStraps_frame {W : List Part} {R : List Regs} {s0 s : State} {x : Straps} (hW : ∀ p ∈ ([.dyke] : List Part),
    p ∈ W) (hR : RegsIn (([.fld .SLU_DRAM_CFG_SIZE, .fld .SLU_DRAM_CFG_RATE, .fld .DYKE_STATUS_STRAP] : List Regs)) R) (h :
    Frame W R s0 s) :
    Frame W R s0 (State.latchStraps s x) := by
  unfold State.latchStraps
  repeat' first
    | with_reducible exact h
    | with_reducible assumption
    | (extract_lets +onlyGivenNames x; refine have_frame (x := x) ?_ (fun hx => ?_); (on_goal 2 => (clear_value x; revert x; intro _ _)); (on_goal 1 => (unfold x; clear x)))
    | (extract_lets +onlyGivenNames f; have := fun a => f a; clear this; unfold f; clear f)
    | (extract_lets +onlyGivenNames y; clear_value y; revert y; intro _)
    | with_reducible refine State.setIf_frame ?_ ?_
    | with_reducible refine State.set_frame ?_ ?_
    | exact cov_fld hR (by decide +kernel)
    | split
    | with_reducible refine upd_dyke ?_ ?_

theorem State.startRails_frame {W : List Part} {R : List Regs} {s0 s : State} {good : Bool} {straps : Straps} (hW : ∀ p ∈
    ([.weir, .withy, .dyke] : List Part), p ∈ W) (hR : RegsIn (([.fld .SLU_DRAM_CFG_SIZE, .fld .SLU_DRAM_CFG_RATE, .fld
    .CSW_STATUS_CAP, .fld .WEIR_STATUS_ISO_OFF, .fld .WEIR_REG_STATUS_BRD_PG, .fld .WEIR_REG_STATUS_PG, .fld .WEIR_FAULT_SRC,
    .fld .DYKE_STATUS_STRAP] : List Regs)) R) (h : Frame W R s0 s) :
    Frame W R s0 (State.startRails s good straps) := by
  unfold State.startRails
  repeat' first
    | with_reducible exact h
    | with_reducible assumption
    | (extract_lets +onlyGivenNames x; refine have_frame (x := x) ?_ (fun hx => ?_); (on_goal 2 => (clear_value x; revert x; intro _ _)); (on_goal 1 => (unfold x; clear x)))
    | (extract_lets +onlyGivenNames y; clear_value y; revert y; intro _)
    | exact parts_sub hW rfl
    | exact regs_sub hR (by decide +kernel)
    | with_reducible refine ite_frame (fun _ => ?_) (fun _ => ?_)
    | with_reducible refine State.latchStraps_frame ?_ ?_   ?_
    | with_reducible refine State.slotCap_frame  ?_   ?_
    | with_reducible refine State.set_frame ?_ ?_
    | exact cov_fld hR (by decide +kernel)
    | split
    | with_reducible refine upd_dyke ?_ ?_
    | with_reducible refine upd_weir ?_ ?_
    | with_reducible refine upd_weir_withy ?_ ?_

theorem execPowerOn_frame {W : List Part} {R : List Regs} {s : State} {good : Bool} {straps : Straps} (hW : ∀ p ∈ ([.weir,
    .withy, .dyke] : List Part), p ∈ W) (hR : RegsIn (([.fld .SLU_DRAM_CFG_SIZE, .fld .SLU_DRAM_CFG_RATE, .fld
    .CSW_STATUS_CAP, .fld .WEIR_STATUS_ISO_OFF, .fld .WEIR_REG_STATUS_BRD_PG, .fld .WEIR_REG_STATUS_PG, .fld .WEIR_FAULT_SRC,
    .fld .DYKE_STATUS_STRAP] : List Regs)) R) :
    OutFrame W R s (execPowerOn good straps s) := by
  unfold execPowerOn
  repeat' first
    | exact parts_sub hW rfl
    | with_reducible refine next_frame ?_
    | with_reducible assumption
    | with_reducible exact Frame.refl _ _ _
    | with_reducible refine State.when_frame ?_ (fun t ht => ?_)
    | with_reducible refine State.startRails_frame ?_ ?_   ?_

theorem execWeirRetry_frame {W : List Part} {R : List Regs} {s : State} {good : Bool} {straps : Straps} (hW : ∀ p ∈ ([.weir,
    .withy, .dyke] : List Part), p ∈ W) (hR : RegsIn (([.fld .SLU_DRAM_CFG_SIZE, .fld .SLU_DRAM_CFG_RATE, .fld
    .CSW_STATUS_CAP, .fld .WEIR_STATUS_ISO_OFF, .fld .WEIR_REG_STATUS_BRD_PG, .fld .WEIR_REG_STATUS_PG, .fld .WEIR_FAULT_SRC,
    .fld .DYKE_STATUS_STRAP] : List Regs)) R) :
    OutFrame W R s (execWeirRetry good straps s) := by
  unfold execWeirRetry
  repeat' first
    | exact parts_sub hW rfl
    | with_reducible refine next_frame ?_
    | with_reducible assumption
    | with_reducible exact Frame.refl _ _ _
    | with_reducible refine State.when_frame ?_ (fun t ht => ?_)
    | with_reducible refine State.startRails_frame ?_ ?_   ?_

theorem State.railsOff_frame {W : List Part} {R : List Regs} {s0 s : State} {iso : IsoMode} (hW : ∀ p ∈ ([.dram, .sram,
    .mireIrq, .fenIrq, .seqs, .chans, .shockQuiet, .stg, .tide, .lev, .peat, .weir, .mireRuns, .warmBusy, .withy, .tus,
    .links, .slu, .sth, .dma, .carr, .mq, .aq, .dyke] : List Part), p ∈ W) (hR : RegsIn (([.all] : List Regs)) R) (h : Frame W
    R s0 s) :
    Frame W R s0 (State.railsOff s iso) := by
  unfold State.railsOff
  repeat' first
    | with_reducible exact h
    | with_reducible assumption
    | (extract_lets +onlyGivenNames x; refine have_frame (x := x) ?_ (fun hx => ?_); (on_goal 2 => (clear_value x; revert x; intro _ _)); (on_goal 1 => (unfold x; clear x)))
    | (extract_lets +onlyGivenNames y; clear_value y; revert y; intro _)
    | exact parts_sub hW rfl
    | with_reducible refine State.holdReset_frame ?_ ?_   ?_
    | with_reducible refine upd_weir ?_ ?_

theorem execSupplyLoss_frame {W : List Part} {R : List Regs} {s : State} (hW : ∀ p ∈ ([.dram, .sram, .mireIrq, .fenIrq, .seqs,
    .chans, .shockQuiet, .stg, .tide, .lev, .peat, .weir, .mireRuns, .warmBusy, .withy, .tus, .links, .slu, .sth, .dma, .carr,
    .mq, .aq, .dyke] : List Part), p ∈ W) (hR : RegsIn (([.all] : List Regs)) R) :
    OutFrame W R s (execSupplyLoss s) := by
  unfold execSupplyLoss
  repeat' first
    | exact parts_sub hW rfl
    | with_reducible refine next_frame ?_
    | with_reducible assumption
    | with_reducible exact Frame.refl _ _ _
    | with_reducible refine State.railsOff_frame ?_ ?_   ?_

theorem execWeirRegFault_frame {W : List Part} {R : List Regs} {s : State} (hW : ∀ p ∈ ([.dram, .sram, .mireIrq, .fenIrq,
    .seqs, .chans, .shockQuiet, .stg, .tide, .lev, .peat, .weir, .mireRuns, .warmBusy, .withy, .tus, .links, .slu, .sth, .dma,
    .carr, .mq, .aq, .dyke] : List Part), p ∈ W) (hR : RegsIn (([.all] : List Regs)) R) :
    OutFrame W R s (execWeirRegFault s) := by
  unfold execWeirRegFault
  repeat' first
    | (extract_lets +onlyGivenNames x; refine have_frame (x := x) ?_ (fun hx => ?_); (on_goal 2 => (clear_value x; revert x; intro _ _)); (on_goal 1 => (unfold x; clear x)))
    | (extract_lets +onlyGivenNames y; clear_value y; revert y; intro _)
    | exact parts_sub hW rfl
    | with_reducible refine next_frame ?_
    | with_reducible assumption
    | with_reducible exact Frame.refl _ _ _
    | with_reducible refine State.when_frame ?_ (fun t ht => ?_)
    | with_reducible refine State.weirFault_frame ?_ ?_   ?_
    | with_reducible refine State.holdReset_frame ?_ ?_   ?_
    | with_reducible refine State.set_frame ?_ ?_
    | exact regs_all hR
    | exact cov_all hR (by decide +kernel)
    | with_reducible refine upd_weir ?_ ?_

theorem execVaonLost_frame {W : List Part} {R : List Regs} {s : State} (hW : ∀ p ∈ ([.dram, .sram, .mireIrq, .fenIrq, .seqs,
    .chans, .shockQuiet, .stg, .tide, .lev, .peat, .weir, .mireRuns, .warmBusy, .withy, .tus, .links, .slu, .sth, .dma, .carr,
    .mq, .aq, .dyke] : List Part), p ∈ W) (hR : RegsIn (([.all] : List Regs)) R) :
    OutFrame W R s (execVaonLost s) := by
  unfold execVaonLost
  repeat' first
    | exact parts_sub hW rfl
    | with_reducible refine next_frame ?_
    | with_reducible assumption
    | with_reducible exact Frame.refl _ _ _
    | with_reducible refine State.railsOff_frame ?_ ?_   ?_
    | with_reducible refine State.putReg_frame ?_ ?_
    | exact cov_all hR (by decide +kernel)

theorem State.pfTerminate_frame {W : List Part} {R : List Regs} {s0 s : State} (hW : ∀ p ∈ ([.mireIrq, .seqs, .chans, .stg] :
    List Part), p ∈ W) (hR : RegsIn (haltRegs) R) (h : Frame W R s0 s) :
    Frame W R s0 (State.pfTerminate s) := by
  unfold State.pfTerminate
  repeat' first
    | with_reducible exact h
    | with_reducible assumption
    | with_reducible refine State.when_frame ?_ (fun t ht => ?_)
    | with_reducible refine State.forN_frame ?_ (fun i t ht => ?_)
    | with_reducible refine State.terminate_frame ?_ ?_   ?_

theorem State.commitFate_frame {W : List Part} {R : List Regs} {s0 s : State} {x : ℕ} {c : Ctx} (hW : ∀ p ∈ ([.sth] : List
    Part), p ∈ W) (hR : RegsIn (([.fld .STH_FATE_STATUS_UNRESOLVED, .fld .STH_FATE_STATUS_RECORDS, .fld .STH_FATE_DROP_COUNT]
    : List Regs)) R) (h : Frame W R s0 s) :
    Frame W R s0 (State.commitFate s x c) := by
  unfold State.commitFate
  repeat' first
    | with_reducible exact h
    | with_reducible assumption
    | (extract_lets +onlyGivenNames f; have := fun a => f a; clear this; unfold f; clear f)
    | (extract_lets +onlyGivenNames y; clear_value y; revert y; intro _)
    | with_reducible refine ite_frame (fun _ => ?_) (fun _ => ?_)
    | with_reducible refine State.addFate_frame ?_ ?_   ?_
    | with_reducible refine State.updSth_frame ?_    ?_

theorem State.commitContexts_frame {W : List Part} {R : List Regs} {s0 s : State} (hW : ∀ p ∈ ([.slu, .sth] : List Part), p ∈
    W) (hR : RegsIn (([.arr (.REED_ST_CTRL_ABORT 0) 0x100 8, .fld .STH_STATUS_QUIESCED, .fld .STH_STATUS_LIVE, .fld
    .STH_LOCK_STATUS_WAITING, .fld .STH_LOCK_STATUS_HELD, .fld .STH_FATE_STATUS_UNRESOLVED, .fld .STH_FATE_STATUS_RECORDS,
    .fld .STH_FATE_DROP_COUNT, .fld .SLU_STATUS_LED_FREE, .arr (.SLU_SEC_FREE_FREE 0) 0x4 4, .arr (.SLU_SEC_RUN_RUN 0) 0x4 4,
    .arr (.SLU_CRED_USED_USED 0) 0x4 32] : List Regs)) R) (h : Frame W R s0 s) :
    Frame W R s0 (State.commitContexts s) := by
  unfold State.commitContexts
  repeat' first
    | with_reducible exact h
    | with_reducible assumption
    | exact parts_sub hW rfl
    | exact regs_sub hR (by decide +kernel)
    | with_reducible refine foldl_frame ?_ (fun t x ht => ?_)
    | with_reducible refine State.freeCtx_frame ?_ ?_   ?_
    | with_reducible refine State.commitFate_frame ?_ ?_   ?_

theorem State.abortPair_frame {W : List Part} {R : List Regs} {s0 s : State} {p : ℕ} {started : Bool} (hW : ∀ p ∈ ([.mireIrq,
    .fenIrq, .seqs, .chans, .stg, .lev, .peat, .mq, .aq, .dyke] : List Part), p ∈ W) (hR : RegsIn (alarmRegs ++ haltRegs ++
    ([.arr (.MBX_DONE_DONE 0) 0x4 2, .grid (.MBX_RSP_DATA 0 0) 0x400 64 0x4 64, .arr (.MBX_STAT_CANCEL_REQ 0) 0x400 64, .arr
    (.MBX_STAT_STARTED 0) 0x400 64, .arr (.MBX_STAT_STATE 0) 0x400 64, .arr (.MBX_LATCH_RSP_STATUS 0) 0x400 64, .arr
    (.MWQ_STATUS_BLOCKED 0) 0x20 16, .arr (.MWQ_STATUS_OUTST 0) 0x20 16, .fld .MWQ_SYS_STATUS_FLUSH, .fld .MWQ_SYS_STATUS_CAL,
    .fld .DYKE_SLOT_INACTIVE] : List Regs)) R) (h : Frame W R s0 s) :
    Frame W R s0 (State.abortPair s p started) := by
  unfold State.abortPair
  repeat' first
    | with_reducible exact h
    | exact parts_sub hW rfl
    | exact regs_sub hR (by decide +kernel)
    | with_reducible refine ite_frame (fun _ => ?_) (fun _ => ?_)
    | with_reducible refine State.updateRecord_frame ?_ ?_   ?_
    | with_reducible refine State.respondBad_frame ?_ ?_   ?_
    | with_reducible refine State.respond_frame ?_ ?_   ?_
    | with_reducible refine State.psEnd_frame ?_ ?_   ?_
    | with_reducible refine State.dropUpdate_frame ?_ ?_   ?_
    | with_reducible refine State.updAq_frame ?_    ?_
    | with_reducible refine State.applyFails_frame ?_ ?_   ?_
    | with_reducible refine State.updMq_frame ?_    ?_
    | split

theorem State.commitMailboxes_frame {W : List Part} {R : List Regs} {s0 s : State} (hW : ∀ p ∈ ([.mireIrq, .fenIrq, .seqs,
    .chans, .stg, .lev, .peat, .mq, .aq, .dyke] : List Part), p ∈ W) (hR : RegsIn (alarmRegs ++ haltRegs ++ ([.arr
    (.MBX_DONE_DONE 0) 0x4 2, .grid (.MBX_RSP_DATA 0 0) 0x400 64 0x4 64, .arr (.MBX_STAT_CANCEL_REQ 0) 0x400 64, .arr
    (.MBX_STAT_STARTED 0) 0x400 64, .arr (.MBX_STAT_STATE 0) 0x400 64, .arr (.MBX_LATCH_RSP_STATUS 0) 0x400 64, .arr
    (.MWQ_STATUS_BLOCKED 0) 0x20 16, .arr (.MWQ_STATUS_OUTST 0) 0x20 16, .fld .MWQ_SYS_STATUS_FLUSH, .fld .MWQ_SYS_STATUS_CAL,
    .fld .DYKE_SLOT_INACTIVE] : List Regs)) R) (h : Frame W R s0 s) :
    Frame W R s0 (State.commitMailboxes s) := by
  unfold State.commitMailboxes
  repeat' first
    | with_reducible exact h
    | with_reducible assumption
    | (extract_lets +onlyGivenNames y; clear_value y; revert y; intro _)
    | exact parts_sub hW rfl
    | exact regs_sub hR (by decide +kernel)
    | with_reducible refine foldl_frame ?_ (fun t x ht => ?_)
    | with_reducible refine State.abortPair_frame ?_ ?_   ?_
    | with_reducible refine State.abortRecord_frame ?_ ?_   ?_

theorem State.commitFirmware_frame {W : List Part} {R : List Regs} {s0 s : State} (hW : ∀ p ∈ ([.dram, .drawn, .mireIrq,
    .fenIrq, .seqs, .chans, .stg, .lev, .peat, .slu, .mq, .aq, .dyke] : List Part), p ∈ W) (hR : RegsIn (alarmRegs ++ haltRegs
    ++ ([.arr (.MBX_DONE_DONE 0) 0x4 2, .grid (.MBX_RSP_DATA 0 0) 0x400 64 0x4 64, .arr (.MBX_STAT_CANCEL_REQ 0) 0x400 64,
    .arr (.MBX_STAT_STARTED 0) 0x400 64, .arr (.MBX_STAT_STATE 0) 0x400 64, .arr (.MBX_LATCH_RSP_STATUS 0) 0x400 64, .arr
    (.MWQ_STATUS_BLOCKED 0) 0x20 16, .arr (.MWQ_STATUS_OUTST 0) 0x20 16, .arr (.MWC_PI_PASS 0) 0x20 4, .arr (.MWC_PI_PI 0)
    0x20 4, .arr (.MWC_STATUS_SCAN_STOP 0) 0x20 4, .arr (.MWC_STATUS_SPILL_CNT 0) 0x20 4] : List Regs) ++ ([.fld
    .MWQ_SYS_STATUS_FLUSH, .fld .MWQ_SYS_STATUS_CAL, .fld .SLU_STATUS_LED_FREE, .arr (.SLU_SEC_FREE_FREE 0) 0x4 4, .arr
    (.SLU_SEC_RUN_RUN 0) 0x4 4, .arr (.SLU_CRED_USED_USED 0) 0x4 32, .fld .DYKE_SLOT_INACTIVE, .fld .MBX_START_RESULT, .fld
    .MBX_START_CAUSE, .fld .MBX_START_FAILED, .fld .MBX_START_LOADED] : List Regs)) R) (h : Frame W R s0 s) :
    Frame W R s0 (State.commitFirmware s) := by
  unfold State.commitFirmware
  repeat' first
    | with_reducible exact h
    | with_reducible assumption
    | (extract_lets +onlyGivenNames x; refine have_frame (x := x) ?_ (fun hx => ?_); (on_goal 2 => (clear_value x; revert x; intro _ _)); (on_goal 1 => (unfold x; clear x)))
    | exact parts_sub hW rfl
    | exact regs_sub hR (by decide +kernel)
    | with_reducible refine State.when_frame ?_ (fun t ht => ?_)
    | with_reducible refine State.sealRecord_frame ?_ ?_   ?_
    | with_reducible refine State.endStart_frame ?_ ?_   ?_
    | with_reducible refine State.dropUpdate_frame ?_ ?_   ?_
    | with_reducible refine State.updAq_frame ?_    ?_
    | with_reducible refine State.commitMailboxes_frame ?_ ?_   ?_
    | with_reducible refine State.commitQueues_frame ?_ ?_   ?_
    | with_reducible refine State.set_frame ?_ ?_
    | exact cov_fld hR (by decide +kernel)

theorem State.commitPower_frame {W : List Part} {R : List Regs} {s0 s : State} {cause : ℕ} (hW : ∀ p ∈ ([.dram, .drawn,
    .mireIrq, .fenIrq, .seqs, .chans, .stg, .tide, .lev, .peat, .weir, .withy, .slu, .sth, .mq, .aq, .dyke] : List Part), p ∈
    W) (hR : RegsIn (alarmRegs ++ haltRegs ++ ([.fld .TIDE_STATUS_STATE, .fld .TIDE_CELL_PERIOD_PERIOD, .fld
    .WTH_SPN_STATUS_STATE, .fld .WTH_SPN_STATUS_AT_SPEED, .fld .WTH_SPN_STATUS_FW_ACTIVE, .fld .WTH_SPN_STATUS_FW_SAT, .fld
    .WTH_SPN_STATUS_STOP_BLOCKED, .fld .WTH_SPN_STATUS_HOLD_COLLAPSE, .fld .WTH_SPN_MEAS_TRACK, .fld .WTH_SPN_FOC_ID, .fld
    .WTH_SPN_FOC_MI, .arr (.REED_ST_CTRL_ABORT 0) 0x100 8] : List Regs) ++ ([.arr (.MBX_DONE_DONE 0) 0x4 2, .grid
    (.MBX_RSP_DATA 0 0) 0x400 64 0x4 64, .arr (.MBX_STAT_CANCEL_REQ 0) 0x400 64, .arr (.MBX_STAT_STARTED 0) 0x400 64, .arr
    (.MBX_STAT_STATE 0) 0x400 64, .arr (.MBX_LATCH_RSP_STATUS 0) 0x400 64, .arr (.MWQ_STATUS_BLOCKED 0) 0x20 16, .arr
    (.MWQ_STATUS_OUTST 0) 0x20 16, .arr (.MWC_PI_PASS 0) 0x20 4, .arr (.MWC_PI_PI 0) 0x20 4, .arr (.MWC_STATUS_SCAN_STOP 0)
    0x20 4, .arr (.MWC_STATUS_SPILL_CNT 0) 0x20 4] : List Regs) ++ ([.fld .MWQ_SYS_STATUS_FLUSH, .fld .MWQ_SYS_STATUS_CAL,
    .fld .STH_STATUS_QUIESCED, .fld .STH_STATUS_PF_HOLD, .fld .STH_STATUS_LIVE, .fld .STH_LOCK_STATUS_WAITING, .fld
    .STH_LOCK_STATUS_HELD, .fld .STH_FATE_STATUS_UNRESOLVED, .fld .STH_FATE_STATUS_RECORDS, .fld .STH_FATE_DROP_COUNT, .fld
    .SLU_STATUS_LED_FREE, .arr (.SLU_SEC_FREE_FREE 0) 0x4 4] : List Regs) ++ ([.arr (.SLU_SEC_RUN_RUN 0) 0x4 4, .arr
    (.SLU_CRED_USED_USED 0) 0x4 32, .fld .SLU_SCRB_STATUS_BUSY, .fld .SLU_SCRB_STATUS_STOPPED, .fld .WEIR_STATUS_PF, .fld
    .WEIR_STATUS_WARN_ARMED, .fld .WEIR_STATUS_ISO_OFF, .fld .WEIR_STATUS_CAUSE, .fld .WEIR_STATUS_PF_MS, .fld
    .WEIR_FAULT_SRC, .fld .WEIR_AON_STATUS_COMMIT_SEEN, .fld .WEIR_AON_STATUS_WARM_PF] : List Regs) ++ ([.fld
    .WEIR_AON_STATUS_LAST_CAUSE, .fld .WEIR_AON_STATUS_LAST_MIN, .fld .WEIR_AON_CNT_COMMITS, .fld .DYKE_SLOT_INACTIVE, .fld
    .MBX_START_RESULT, .fld .MBX_START_CAUSE, .fld .MBX_START_FAILED, .fld .MBX_START_LOADED] : List Regs)) R) (h : Frame W R
    s0 s) :
    Frame W R s0 (State.commitPower s cause) := by
  unfold State.commitPower
  repeat' first
    | with_reducible exact h
    | with_reducible assumption
    | (extract_lets +onlyGivenNames x; refine have_frame (x := x) ?_ (fun hx => ?_); (on_goal 2 => (clear_value x; revert x; intro _ _)); (on_goal 1 => (unfold x; clear x)))
    | (extract_lets +onlyGivenNames y; clear_value y; revert y; intro _)
    | exact parts_sub hW rfl
    | exact regs_sub hR (by decide +kernel)
    | with_reducible refine State.when_frame ?_ (fun t ht => ?_)
    | with_reducible refine State.forN_frame ?_ (fun i t ht => ?_)
    | with_reducible refine State.incSat_frame ?_ ?_
    | with_reducible refine State.openWindow_frame ?_ ?_   ?_
    | with_reducible refine State.spinCommit_frame ?_ ?_   ?_
    | with_reducible refine State.irqFen_frame ?_    ?_
    | with_reducible refine State.commitContexts_frame ?_ ?_   ?_
    | with_reducible refine State.pfTerminate_frame ?_ ?_   ?_
    | with_reducible refine State.updAq_frame ?_    ?_
    | with_reducible refine State.updMq_frame ?_    ?_
    | with_reducible refine State.weirFault_frame ?_ ?_   ?_
    | with_reducible refine State.commitFirmware_frame ?_ ?_   ?_
    | with_reducible refine State.irqMire_frame ?_    ?_
    | with_reducible refine State.set_frame ?_ ?_
    | with_reducible refine State.unfreeze_frame  ?_   ?_
    | exact cov_fld hR (by decide +kernel)
    | with_reducible refine upd_weir ?_ ?_

theorem execPowerFailCommit_frame {W : List Part} {R : List Regs} {s : State} {mv : ℕ} (hW : ∀ p ∈ ([.dram, .drawn, .mireIrq,
    .fenIrq, .seqs, .chans, .stg, .tide, .lev, .peat, .weir, .withy, .slu, .sth, .mq, .aq, .dyke] : List Part), p ∈ W) (hR :
    RegsIn (alarmRegs ++ haltRegs ++ ([.fld .TIDE_STATUS_STATE, .fld .TIDE_CELL_PERIOD_PERIOD, .fld .WTH_SPN_STATUS_STATE,
    .fld .WTH_SPN_STATUS_AT_SPEED, .fld .WTH_SPN_STATUS_FW_ACTIVE, .fld .WTH_SPN_STATUS_FW_SAT, .fld
    .WTH_SPN_STATUS_STOP_BLOCKED, .fld .WTH_SPN_STATUS_HOLD_COLLAPSE, .fld .WTH_SPN_MEAS_TRACK, .fld .WTH_SPN_FOC_ID, .fld
    .WTH_SPN_FOC_MI, .arr (.REED_ST_CTRL_ABORT 0) 0x100 8] : List Regs) ++ ([.arr (.MBX_DONE_DONE 0) 0x4 2, .grid
    (.MBX_RSP_DATA 0 0) 0x400 64 0x4 64, .arr (.MBX_STAT_CANCEL_REQ 0) 0x400 64, .arr (.MBX_STAT_STARTED 0) 0x400 64, .arr
    (.MBX_STAT_STATE 0) 0x400 64, .arr (.MBX_LATCH_RSP_STATUS 0) 0x400 64, .arr (.MWQ_STATUS_BLOCKED 0) 0x20 16, .arr
    (.MWQ_STATUS_OUTST 0) 0x20 16, .arr (.MWC_PI_PASS 0) 0x20 4, .arr (.MWC_PI_PI 0) 0x20 4, .arr (.MWC_STATUS_SCAN_STOP 0)
    0x20 4, .arr (.MWC_STATUS_SPILL_CNT 0) 0x20 4] : List Regs) ++ ([.fld .MWQ_SYS_STATUS_FLUSH, .fld .MWQ_SYS_STATUS_CAL,
    .fld .STH_STATUS_QUIESCED, .fld .STH_STATUS_PF_HOLD, .fld .STH_STATUS_LIVE, .fld .STH_LOCK_STATUS_WAITING, .fld
    .STH_LOCK_STATUS_HELD, .fld .STH_FATE_STATUS_UNRESOLVED, .fld .STH_FATE_STATUS_RECORDS, .fld .STH_FATE_DROP_COUNT, .fld
    .SLU_STATUS_LED_FREE, .arr (.SLU_SEC_FREE_FREE 0) 0x4 4] : List Regs) ++ ([.arr (.SLU_SEC_RUN_RUN 0) 0x4 4, .arr
    (.SLU_CRED_USED_USED 0) 0x4 32, .fld .SLU_SCRB_STATUS_BUSY, .fld .SLU_SCRB_STATUS_STOPPED, .fld .WEIR_STATUS_PF, .fld
    .WEIR_STATUS_WARN_ARMED, .fld .WEIR_STATUS_ISO_OFF, .fld .WEIR_STATUS_CAUSE, .fld .WEIR_STATUS_PF_MS, .fld
    .WEIR_MEAS_V12_MV, .fld .WEIR_MIN_V12_MV, .fld .WEIR_FAULT_SRC] : List Regs) ++ ([.fld .WEIR_AON_STATUS_COMMIT_SEEN, .fld
    .WEIR_AON_STATUS_WARM_PF, .fld .WEIR_AON_STATUS_LAST_CAUSE, .fld .WEIR_AON_STATUS_LAST_MIN, .fld .WEIR_AON_CNT_COMMITS,
    .fld .DYKE_SLOT_INACTIVE, .fld .MBX_START_RESULT, .fld .MBX_START_CAUSE, .fld .MBX_START_FAILED, .fld .MBX_START_LOADED] :
    List Regs)) R) :
    OutFrame W R s (execPowerFailCommit mv s) := by
  unfold execPowerFailCommit
  repeat' first
    | (extract_lets +onlyGivenNames x; refine have_out (x := x) ?_ (fun hx => ?_); (on_goal 2 => (clear_value x; revert x; intro _ _)); (on_goal 1 => (unfold x; clear x)))
    | exact parts_sub hW rfl
    | with_reducible refine next_frame ?_
    | with_reducible assumption
    | exact regs_sub hR (by decide +kernel)
    | with_reducible exact Frame.refl _ _ _
    | with_reducible refine State.when_frame ?_ (fun t ht => ?_)
    | with_reducible refine State.measureV12_frame ?_ ?_   ?_
    | with_reducible refine State.commitPower_frame ?_ ?_   ?_

theorem execWeirOvIn_frame {W : List Part} {R : List Regs} {s : State} {mv : ℕ} (hW : ∀ p ∈ ([.dram, .drawn, .mireIrq,
    .fenIrq, .seqs, .chans, .stg, .tide, .lev, .peat, .weir, .withy, .slu, .sth, .mq, .aq, .dyke] : List Part), p ∈ W) (hR :
    RegsIn (alarmRegs ++ haltRegs ++ ([.fld .TIDE_STATUS_STATE, .fld .TIDE_CELL_PERIOD_PERIOD, .fld .WTH_SPN_STATUS_STATE,
    .fld .WTH_SPN_STATUS_AT_SPEED, .fld .WTH_SPN_STATUS_FW_ACTIVE, .fld .WTH_SPN_STATUS_FW_SAT, .fld
    .WTH_SPN_STATUS_STOP_BLOCKED, .fld .WTH_SPN_STATUS_HOLD_COLLAPSE, .fld .WTH_SPN_MEAS_TRACK, .fld .WTH_SPN_FOC_ID, .fld
    .WTH_SPN_FOC_MI, .arr (.REED_ST_CTRL_ABORT 0) 0x100 8] : List Regs) ++ ([.arr (.MBX_DONE_DONE 0) 0x4 2, .grid
    (.MBX_RSP_DATA 0 0) 0x400 64 0x4 64, .arr (.MBX_STAT_CANCEL_REQ 0) 0x400 64, .arr (.MBX_STAT_STARTED 0) 0x400 64, .arr
    (.MBX_STAT_STATE 0) 0x400 64, .arr (.MBX_LATCH_RSP_STATUS 0) 0x400 64, .arr (.MWQ_STATUS_BLOCKED 0) 0x20 16, .arr
    (.MWQ_STATUS_OUTST 0) 0x20 16, .arr (.MWC_PI_PASS 0) 0x20 4, .arr (.MWC_PI_PI 0) 0x20 4, .arr (.MWC_STATUS_SCAN_STOP 0)
    0x20 4, .arr (.MWC_STATUS_SPILL_CNT 0) 0x20 4] : List Regs) ++ ([.fld .MWQ_SYS_STATUS_FLUSH, .fld .MWQ_SYS_STATUS_CAL,
    .fld .STH_STATUS_QUIESCED, .fld .STH_STATUS_PF_HOLD, .fld .STH_STATUS_LIVE, .fld .STH_LOCK_STATUS_WAITING, .fld
    .STH_LOCK_STATUS_HELD, .fld .STH_FATE_STATUS_UNRESOLVED, .fld .STH_FATE_STATUS_RECORDS, .fld .STH_FATE_DROP_COUNT, .fld
    .SLU_STATUS_LED_FREE, .arr (.SLU_SEC_FREE_FREE 0) 0x4 4] : List Regs) ++ ([.arr (.SLU_SEC_RUN_RUN 0) 0x4 4, .arr
    (.SLU_CRED_USED_USED 0) 0x4 32, .fld .SLU_SCRB_STATUS_BUSY, .fld .SLU_SCRB_STATUS_STOPPED, .fld .WEIR_STATUS_PF, .fld
    .WEIR_STATUS_WARN_ARMED, .fld .WEIR_STATUS_ISO_OFF, .fld .WEIR_STATUS_CAUSE, .fld .WEIR_STATUS_PF_MS, .fld
    .WEIR_MEAS_V12_MV, .fld .WEIR_MIN_V12_MV, .fld .WEIR_FAULT_SRC] : List Regs) ++ ([.fld .WEIR_AON_STATUS_COMMIT_SEEN, .fld
    .WEIR_AON_STATUS_WARM_PF, .fld .WEIR_AON_STATUS_LAST_CAUSE, .fld .WEIR_AON_STATUS_LAST_MIN, .fld .WEIR_AON_CNT_COMMITS,
    .fld .DYKE_SLOT_INACTIVE, .fld .MBX_START_RESULT, .fld .MBX_START_CAUSE, .fld .MBX_START_FAILED, .fld .MBX_START_LOADED] :
    List Regs)) R) :
    OutFrame W R s (execWeirOvIn mv s) := by
  unfold execWeirOvIn
  repeat' first
    | (extract_lets +onlyGivenNames x; refine have_out (x := x) ?_ (fun hx => ?_); (on_goal 2 => (clear_value x; revert x; intro _ _)); (on_goal 1 => (unfold x; clear x)))
    | (extract_lets +onlyGivenNames x; refine have_frame (x := x) ?_ (fun hx => ?_); (on_goal 2 => (clear_value x; revert x; intro _ _)); (on_goal 1 => (unfold x; clear x)))
    | (extract_lets +onlyGivenNames y; clear_value y; revert y; intro _)
    | exact parts_sub hW rfl
    | with_reducible refine next_frame ?_
    | with_reducible assumption
    | exact regs_sub hR (by decide +kernel)
    | with_reducible exact Frame.refl _ _ _
    | with_reducible refine State.when_frame ?_ (fun t ht => ?_)
    | with_reducible refine State.weirFault_frame ?_ ?_   ?_
    | with_reducible refine State.commitPower_frame ?_ ?_   ?_
    | with_reducible refine State.measureV12_frame ?_ ?_   ?_
    | with_reducible refine State.set_frame ?_ ?_
    | exact cov_fld hR (by decide +kernel)
    | with_reducible refine upd_weir ?_ ?_

theorem execFenClockStop_frame {W : List Part} {R : List Regs} {s : State} (hW : ∀ p ∈ ([.weir] : List Part), p ∈ W) :
    OutFrame W R s (execFenClockStop s) := by
  unfold execFenClockStop
  repeat' first
    | (extract_lets +onlyGivenNames y; clear_value y; revert y; intro _)
    | exact parts_sub hW rfl
    | with_reducible refine next_frame ?_
    | with_reducible assumption
    | with_reducible exact Frame.refl _ _ _
    | with_reducible refine State.when_frame ?_ (fun t ht => ?_)
    | with_reducible refine upd_weir ?_ ?_

theorem execAqsiaBoot_frame {W : List Part} {R : List Regs} {s : State} {cal : MotorCal} (hW : ∀ p ∈ ([.dram, .drawn,
    .mireIrq, .fenIrq, .seqs, .chans, .stg, .lev, .peat, .slu, .sth, .mq, .aq, .dyke] : List Part), p ∈ W) (hR : RegsIn
    (alarmRegs ++ haltRegs ++ ([.fld .TIDE_STATUS_OPT_LOADED, .fld .TIDE_OPT_LO_MS_LO, .fld .TIDE_OPT_HI_MS_HI, .fld
    .TIDE_T1_OFS_OFS, .arr (.TIDE_SURF_OFS_OFS 0) 0x4 24, .fld .WTH_SPN_KE_KE_NOM, .arr (.WTH_RET_CFG_VEL 0) 0x4 4, .arr
    (.WTH_RET_CFG_RCOIL 0) 0x4 4, .arr (.WTH_RET_CFG_IMAX 0) 0x4 4, .arr (.WTH_RET_CFG_DIR 0) 0x4 4, .fld
    .REED_UCODE_VER_BASE, .fld .REED_UCODE_VER_PATCH] : List Regs) ++ ([.fld .REED_CS_CTRL_SEQ_MASK, .fld .REED_CS_CTRL_ADDR,
    .fld .MBX_INFO_MAJOR, .fld .MBX_INFO_MINOR, .fld .MBX_INFO_AQSIA_UP, .fld .MBX_EPOCH_PCC, .arr (.MBX_DONE_DONE 0) 0x4 2,
    .grid (.MBX_RSP_DATA 0 0) 0x400 64 0x4 64, .arr (.MBX_STAT_CANCEL_REQ 0) 0x400 64, .arr (.MBX_STAT_STARTED 0) 0x400 64,
    .arr (.MBX_STAT_STATE 0) 0x400 64, .arr (.MBX_LATCH_RSP_STATUS 0) 0x400 64] : List Regs) ++ ([.arr (.MWQ_HEAD_HEAD 0) 0x20
    16, .arr (.MWQ_STATUS_BLOCKED 0) 0x20 16, .arr (.MWQ_STATUS_OUTST 0) 0x20 16, .arr (.MWC_PI_PASS 0) 0x20 4, .arr
    (.MWC_PI_PI 0) 0x20 4, .arr (.MWC_STATUS_SCAN_STOP 0) 0x20 4, .arr (.MWC_STATUS_SPILL_CNT 0) 0x20 4, .fld
    .MWQ_SYS_STATUS_FLUSH, .fld .MWQ_SYS_STATUS_CAL, .fld .STH_FATE_STATUS_UNRESOLVED, .fld .STH_FATE_STATUS_RECORDS, .fld
    .SLU_STATUS_LED_FREE] : List Regs) ++ ([.arr (.SLU_SEC_FREE_FREE 0) 0x4 4, .arr (.SLU_SEC_RUN_RUN 0) 0x4 4, .arr
    (.SLU_CRED_USED_USED 0) 0x4 32, .fld .DYKE_STATUS_STAGE, .fld .DYKE_SLOT_INACTIVE, .fld .PEAT_PCC_COUNT, .fld
    .MBX_START_RESULT, .fld .MBX_START_STEP, .fld .MBX_START_CAUSE, .fld .MBX_START_KIND, .fld .MBX_START_FAILED, .fld
    .MBX_START_LOADED] : List Regs)) R) :
    OutFrame W R s (execAqsiaBoot cal s) := by
  unfold execAqsiaBoot
  repeat' first
    | (extract_lets +onlyGivenNames x; refine have_out (x := x) ?_ (fun hx => ?_); (on_goal 2 => (clear_value x; revert x; intro _ _)); (on_goal 1 => (unfold x; clear x)))
    | (extract_lets +onlyGivenNames y; clear_value y; revert y; intro _)
    | exact parts_sub hW rfl
    | with_reducible refine next_frame ?_
    | with_reducible refine ite_out (fun _ => ?_) (fun _ => ?_)
    | with_reducible assumption
    | exact regs_sub hR (by decide +kernel)
    | with_reducible exact Frame.refl _ _ _
    | with_reducible refine ite_frame (fun _ => ?_) (fun _ => ?_)
    | with_reducible refine State.when_frame ?_ (fun t ht => ?_)
    | with_reducible refine foldl_frame ?_ (fun t x ht => ?_)
    | with_reducible refine State.fateStatus_frame  ?_   ?_
    | with_reducible refine State.walkQueues_frame ?_ ?_   ?_
    | with_reducible refine State.loadReed_frame ?_ ?_   ?_
    | with_reducible refine State.commitPcc_frame ?_ ?_   ?_
    | with_reducible refine State.updSth_frame ?_    ?_
    | with_reducible refine State.raise_frame ?_ ?_   ?_
    | with_reducible refine State.loadMotorCal_frame  ?_   ?_
    | with_reducible refine State.updAq_frame ?_    ?_
    | with_reducible refine State.answerReset_frame ?_ ?_   ?_
    | with_reducible refine State.commitOpt_frame ?_ ?_   ?_
    | with_reducible refine State.updMq_frame ?_    ?_
    | with_reducible refine State.commitFirmware_frame ?_ ?_   ?_
    | with_reducible refine State.set_frame ?_ ?_
    | exact cov_fld hR (by decide +kernel)

theorem State.flushPut_frame {W : List Part} {R : List Regs} {s0 s : State} {n : ℕ} {r : Option FlushRun} (hW : ∀ p ∈ ([.mq] :
    List Part), p ∈ W) (h : Frame W R s0 s) :
    Frame W R s0 (State.flushPut s n r) := by
  unfold State.flushPut
  repeat' first
    | with_reducible exact h
    | with_reducible assumption
    | with_reducible refine State.updMq_frame ?_    ?_

theorem State.flushCollect_frame {W : List Part} {R : List Regs} {s0 s : State} {n : ℕ} (hW : ∀ p ∈ ([.mireIrq, .fenIrq,
    .seqs, .chans, .stg, .lev, .peat, .mq] : List Part), p ∈ W) (hR : RegsIn (alarmRegs ++ haltRegs ++ ([.arr
    (.REED_ST_STATUS_EVT_CNT 0) 0x100 8] : List Regs)) R) (h : Frame W R s0 s) :
    Frame W R s0 (State.flushCollect s n) := by
  unfold State.flushCollect
  repeat' first
    | with_reducible exact h
    | with_reducible assumption
    | (extract_lets +onlyGivenNames x; refine have_frame (x := x) ?_ (fun hx => ?_); (on_goal 2 => (clear_value x; revert x; intro _ _)); (on_goal 1 => (unfold x; clear x)))
    | (extract_lets +onlyGivenNames y; clear_value y; revert y; intro _)
    | exact parts_sub hW rfl
    | exact regs_sub hR (by decide +kernel)
    | with_reducible refine State.when_frame ?_ (fun t ht => ?_)
    | with_reducible refine State.flushPut_frame ?_    ?_
    | with_reducible refine State.programRecord_frame ?_ ?_   ?_
    | with_reducible refine State.collect_frame ?_ ?_   ?_
    | with_reducible refine State.served_frame ?_    ?_
    | split

theorem State.flushAbandon_frame {W : List Part} {R : List Regs} {s0 s : State} {n : ℕ} (hW : ∀ p ∈ ([.mq] : List Part), p ∈
    W) (h : Frame W R s0 s) :
    Frame W R s0 (State.flushAbandon s n) := by
  unfold State.flushAbandon
  repeat' first
    | with_reducible exact h
    | with_reducible assumption
    | with_reducible refine ite_frame (fun _ => ?_) (fun _ => ?_)
    | with_reducible refine State.when_frame ?_ (fun t ht => ?_)
    | with_reducible refine State.flushPut_frame ?_    ?_
    | with_reducible refine State.updMq_frame ?_    ?_
    | split

theorem State.assignFlush_frame {W : List Part} {R : List Regs} {s0 s : State} (hW : ∀ p ∈ ([.mq] : List Part), p ∈ W) (h :
    Frame W R s0 s) :
    Frame W R s0 (State.assignFlush s) := by
  unfold State.assignFlush
  repeat' first
    | with_reducible exact h
    | with_reducible assumption
    | with_reducible refine ite_frame (fun _ => ?_) (fun _ => ?_)
    | with_reducible refine State.forN_frame ?_ (fun i t ht => ?_)
    | with_reducible refine State.flushPut_frame ?_    ?_
    | with_reducible refine State.updMq_frame ?_    ?_
    | split

theorem State.flushSeek_frame {W : List Part} {R : List Regs} {s0 s : State} {k : ℕ} (hW : ∀ p ∈ ([.tus] : List Part), p ∈ W)
    (hR : RegsIn (([.arr (.TUS_SEEK_CTRL_HINT 0) 0x20 4, .grid (.TUS_SEEK_TGT_TRACK 0 0) 0x20 4 0x4 2, .grid
    (.TUS_SEEK_TGT_FRAC 0 0) 0x20 4 0x4 2] : List Regs)) R) (h : Frame W R s0 s) :
    Frame W R s0 (State.flushSeek s k) := by
  unfold State.flushSeek
  repeat' first
    | with_reducible exact h
    | with_reducible assumption
    | (extract_lets +onlyGivenNames f; have := fun a => f a; clear this; unfold f; clear f)
    | (extract_lets +onlyGivenNames y; clear_value y; revert y; intro _)
    | exact regs_sub hR (by decide +kernel)
    | with_reducible refine State.when_frame ?_ (fun t ht => ?_)
    | with_reducible refine State.putTarget_frame  ?_   ?_
    | with_reducible refine State.latchSeek_frame ?_    ?_
    | with_reducible refine State.set_frame ?_ ?_
    | exact cov_arr (f := .TUS_SEEK_CTRL_HINT 0) (k := 0x20) (m := 4) hR (by decide +kernel) (by decide) rfl
    | split

theorem State.flushIssue_frame {W : List Part} {R : List Regs} {s0 s : State} {n : ℕ} (hW : ∀ p ∈ ([.mireIrq, .fenIrq, .seqs,
    .chans, .stg, .tide, .lev, .peat, .mq] : List Part), p ∈ W) (hR : RegsIn (alarmRegs ++ haltRegs ++ ([.arr
    (.TIDE_ST_CBPC_CBPC 0) 0x4 8, .arr (.REED_ST_CTRL_ABORT 0) 0x100 8, .arr (.REED_ST_CTRL_FLUSH 0) 0x100 8, .arr
    (.REED_ST_CTRL_ENTRY 0) 0x100 8, .arr (.REED_ST_STATUS_RESTARTS 0) 0x100 8, .arr (.REED_ST_PC_MARK_PC 0) 0x100 8, .arr
    (.REED_ST_PC_PC 0) 0x100 8, .arr (.REED_ST_THRESH_THRESH 0) 0x100 8, .grid (.REED_OP_VALUE 0 0) 0x100 8 0x4 8, .grid
    (.REED_ST_G_VALUE 0 0) 0x100 8 0x4 16, .arr (.SDG_ST_CTRL_COMB 0) 0x400 8, .arr (.SDG_ST_CTRL_FORCE_TIMED 0) 0x400 8] :
    List Regs) ++ ([.arr (.SDG_ST_CTRL_ALT_SET 0) 0x400 8, .arr (.SDG_ST_CTRL_STEP 0) 0x400 8, .arr (.SDG_ST_CTRL_MODE 0)
    0x400 8, .arr (.SDG_ST_STATUS_CODE_ERR 0) 0x400 8, .arr (.SDG_CODE_C 0) 0x400 8, .arr (.SDG_CODE_META 0) 0x400 8, .arr
    (.SDG_SEAL_TRK_SURF 0) 0x400 8, .arr (.SDG_SEAL_TRK_TRACK 0) 0x400 8, .arr (.SDG_WR_CFG_MARKER 0) 0x400 8] : List Regs))
    R) (h : Frame W R s0 s) :
    Frame W R s0 (State.flushIssue s n) := by
  unfold State.flushIssue
  repeat' first
    | with_reducible exact h
    | with_reducible assumption
    | (extract_lets +onlyGivenNames y; clear_value y; revert y; intro _)
    | exact parts_sub hW rfl
    | with_reducible refine State.when_frame ?_ (fun t ht => ?_)
    | with_reducible refine State.flushPut_frame ?_    ?_
    | with_reducible refine State.issueOp_frame ?_ ?_   ?_
    | split

theorem State.startFlushing_frame {W : List Part} {R : List Regs} {s0 s : State} (hW : ∀ p ∈ ([.chans, .tus, .slu, .mq] : List
    Part), p ∈ W) (hR : RegsIn (([.arr (.TIDE_ST_PHASE_PHASE 0) 0x4 8, .arr (.WTH_MA_CTRL_HOLD 0) 0x4 8, .arr
    (.WTH_MA_STATUS_VOUT 0) 0x4 8, .arr (.TUS_SEC_CTRL_HEAD1 0) 0x40 4, .arr (.TUS_SEC_CTRL_HEAD0 0) 0x40 4, .arr
    (.TUS_SEC_CTRL_LANE_EN 0) 0x40 4, .arr (.SDG_WR_CFG_ADV 0) 0x400 8, .arr (.SDG_VFY_CFG_DLY 0) 0x400 8, .arr
    (.SDG_VFY_CFG_VAMP_CAL 0) 0x400 8, .grid (.SDG_WPC_SHIFT 0 0) 0x400 8 0x4 8, .grid (.SDG_WPC_ANG_SCALE 0 0) 0x400 8 0x4
    16] : List Regs)) R) (h : Frame W R s0 s) :
    Frame W R s0 (State.startFlushing s) := by
  unfold State.startFlushing
  repeat' first
    | with_reducible exact h
    | with_reducible assumption
    | (extract_lets +onlyGivenNames x; refine have_frame (x := x) ?_ (fun hx => ?_); (on_goal 2 => (clear_value x; revert x; intro _ _)); (on_goal 1 => (unfold x; clear x)))
    | exact parts_sub hW rfl
    | with_reducible refine State.when_frame ?_ (fun t ht => ?_)
    | with_reducible refine State.forN_frame ?_ (fun i t ht => ?_)
    | with_reducible refine State.updSlu_frame ?_    ?_
    | with_reducible refine State.selectHead_frame ?_ ?_   ?_
    | with_reducible refine State.updMq_frame ?_    ?_
    | split

theorem State.flushWork_frame {W : List Part} {R : List Regs} {s0 s : State} (hW : ∀ p ∈ ([.mireIrq, .fenIrq, .seqs, .chans,
    .stg, .tide, .lev, .peat, .tus, .mq] : List Part), p ∈ W) (hR : RegsIn (alarmRegs ++ haltRegs ++ ([.arr
    (.TIDE_ST_CBPC_CBPC 0) 0x4 8, .arr (.TUS_SEEK_CTRL_HINT 0) 0x20 4, .grid (.TUS_SEEK_TGT_TRACK 0 0) 0x20 4 0x4 2, .grid
    (.TUS_SEEK_TGT_FRAC 0 0) 0x20 4 0x4 2, .arr (.REED_ST_CTRL_ABORT 0) 0x100 8, .arr (.REED_ST_CTRL_FLUSH 0) 0x100 8, .arr
    (.REED_ST_CTRL_ENTRY 0) 0x100 8, .arr (.REED_ST_STATUS_RESTARTS 0) 0x100 8, .arr (.REED_ST_STATUS_EVT_CNT 0) 0x100 8, .arr
    (.REED_ST_PC_MARK_PC 0) 0x100 8, .arr (.REED_ST_PC_PC 0) 0x100 8, .arr (.REED_ST_THRESH_THRESH 0) 0x100 8] : List Regs) ++
    ([.grid (.REED_OP_VALUE 0 0) 0x100 8 0x4 8, .grid (.REED_ST_G_VALUE 0 0) 0x100 8 0x4 16, .arr (.SDG_ST_CTRL_COMB 0) 0x400
    8, .arr (.SDG_ST_CTRL_FORCE_TIMED 0) 0x400 8, .arr (.SDG_ST_CTRL_ALT_SET 0) 0x400 8, .arr (.SDG_ST_CTRL_STEP 0) 0x400 8,
    .arr (.SDG_ST_CTRL_MODE 0) 0x400 8, .arr (.SDG_ST_STATUS_CODE_ERR 0) 0x400 8, .arr (.SDG_CODE_C 0) 0x400 8, .arr
    (.SDG_CODE_META 0) 0x400 8, .arr (.SDG_SEAL_TRK_SURF 0) 0x400 8, .arr (.SDG_SEAL_TRK_TRACK 0) 0x400 8] : List Regs) ++
    ([.arr (.SDG_WR_CFG_MARKER 0) 0x400 8] : List Regs)) R) (h : Frame W R s0 s) :
    Frame W R s0 (State.flushWork s) := by
  unfold State.flushWork
  repeat' first
    | with_reducible exact h
    | with_reducible assumption
    | (extract_lets +onlyGivenNames x; refine have_frame (x := x) ?_ (fun hx => ?_); (on_goal 2 => (clear_value x; revert x; intro _ _)); (on_goal 1 => (unfold x; clear x)))
    | exact parts_sub hW rfl
    | exact regs_sub hR (by decide +kernel)
    | with_reducible refine State.forN_frame ?_ (fun i t ht => ?_)
    | with_reducible refine State.flushSeek_frame ?_ ?_   ?_
    | with_reducible refine State.flushAbandon_frame ?_    ?_
    | with_reducible refine State.flushCollect_frame ?_ ?_   ?_
    | with_reducible refine State.assignFlush_frame ?_    ?_
    | with_reducible refine State.flushIssue_frame ?_ ?_   ?_

theorem State.writeDeferred_frame {W : List Part} {R : List Regs} {s0 s : State} (hW : ∀ p ∈ ([.sth] : List Part), p ∈ W) (hR
    : RegsIn (([.fld .STH_FATE_STATUS_UNRESOLVED, .fld .STH_FATE_STATUS_RECORDS, .fld .STH_FATE_DROP_COUNT] : List Regs)) R)
    (h : Frame W R s0 s) :
    Frame W R s0 (State.writeDeferred s) := by
  unfold State.writeDeferred
  repeat' first
    | with_reducible exact h
    | with_reducible assumption
    | (extract_lets +onlyGivenNames x; refine have_frame (x := x) ?_ (fun hx => ?_); (on_goal 2 => (clear_value x; revert x; intro _ _)); (on_goal 1 => (unfold x; clear x)))
    | (extract_lets +onlyGivenNames y; clear_value y; revert y; intro _)
    | with_reducible refine foldl_frame ?_ (fun t x ht => ?_)
    | with_reducible refine State.addFate_frame ?_ ?_   ?_
    | with_reducible refine State.updSth_frame ?_    ?_

theorem State.mirrorFates_frame {W : List Part} {R : List Regs} {s0 s : State} (hW : ∀ p ∈ ([.sth] : List Part), p ∈ W) (h :
    Frame W R s0 s) :
    Frame W R s0 (State.mirrorFates s) := by
  unfold State.mirrorFates
  repeat' first
    | with_reducible exact h
    | with_reducible assumption
    | with_reducible refine State.updSth_frame ?_    ?_

theorem State.endFlushing_frame {W : List Part} {R : List Regs} {s0 s : State} (hW : ∀ p ∈ ([.seqs, .chans, .withy, .slu,
    .sth, .mq] : List Part), p ∈ W) (hR : RegsIn (([.fld .SDG_WF_STATUS_CAUSE_SEEN, .arr (.SDG_WR_STATUS_WG 0) 0x400 8, .arr
    (.SDG_WR_STATUS_CAUSE 0) 0x400 8, .arr (.SDG_WR_STATUS_DROPS 0) 0x400 8, .arr (.SDG_WR_DROP_MANG 0) 0x400 8, .arr
    (.WTH_VCM_STATUS_RET_ACTIVE 0) 0x4 4, .arr (.WTH_VCM_STATUS_ENABLED 0) 0x4 4, .arr (.WTH_MA_CTRL_HOLD 0) 0x4 8, .arr
    (.WTH_MA_STATUS_VOUT 0) 0x4 8, .arr (.MWQ_STATUS_BLOCKED 0) 0x20 16, .arr (.MWQ_STATUS_OUTST 0) 0x20 16, .fld
    .MWQ_SYS_STATUS_FLUSH] : List Regs) ++ ([.fld .MWQ_SYS_STATUS_CAL, .fld .STH_FATE_STATUS_UNRESOLVED, .fld
    .STH_FATE_STATUS_RECORDS, .fld .STH_FATE_DROP_COUNT] : List Regs)) R) (h : Frame W R s0 s) :
    Frame W R s0 (State.endFlushing s) := by
  unfold State.endFlushing
  repeat' first
    | with_reducible exact h
    | with_reducible assumption
    | (extract_lets +onlyGivenNames x; refine have_frame (x := x) ?_ (fun hx => ?_); (on_goal 2 => (clear_value x; revert x; intro _ _)); (on_goal 1 => (unfold x; clear x)))
    | exact parts_sub hW rfl
    | exact regs_sub hR (by decide +kernel)
    | with_reducible refine State.forN_frame ?_ (fun i t ht => ?_)
    | with_reducible refine State.writeDeferred_frame ?_ ?_   ?_
    | with_reducible refine State.updSlu_frame ?_    ?_
    | with_reducible refine State.mirrorFates_frame ?_    ?_
    | with_reducible refine State.updMq_frame ?_    ?_
    | with_reducible refine State.startRetract_frame ?_ ?_   ?_
    | with_reducible refine State.mwqSync_frame  ?_   ?_

theorem execPowerFailFlush_frame {W : List Part} {R : List Regs} {s : State} (hW : ∀ p ∈ ([.mireIrq, .fenIrq, .seqs, .chans,
    .stg, .tide, .lev, .peat, .withy, .tus, .slu, .sth, .mq] : List Part), p ∈ W) (hR : RegsIn (alarmRegs ++ haltRegs ++
    ([.arr (.TIDE_ST_CBPC_CBPC 0) 0x4 8, .arr (.TIDE_ST_PHASE_PHASE 0) 0x4 8, .arr (.WTH_VCM_STATUS_RET_ACTIVE 0) 0x4 4, .arr
    (.WTH_VCM_STATUS_ENABLED 0) 0x4 4, .arr (.WTH_MA_CTRL_HOLD 0) 0x4 8, .arr (.WTH_MA_STATUS_VOUT 0) 0x4 8, .arr
    (.TUS_SEC_CTRL_HEAD1 0) 0x40 4, .arr (.TUS_SEC_CTRL_HEAD0 0) 0x40 4, .arr (.TUS_SEC_CTRL_LANE_EN 0) 0x40 4, .arr
    (.TUS_SEEK_CTRL_HINT 0) 0x20 4, .grid (.TUS_SEEK_TGT_TRACK 0 0) 0x20 4 0x4 2, .grid (.TUS_SEEK_TGT_FRAC 0 0) 0x20 4 0x4 2]
    : List Regs) ++ ([.arr (.REED_ST_CTRL_ABORT 0) 0x100 8, .arr (.REED_ST_CTRL_FLUSH 0) 0x100 8, .arr (.REED_ST_CTRL_ENTRY 0)
    0x100 8, .arr (.REED_ST_STATUS_RESTARTS 0) 0x100 8, .arr (.REED_ST_STATUS_EVT_CNT 0) 0x100 8, .arr (.REED_ST_PC_MARK_PC 0)
    0x100 8, .arr (.REED_ST_PC_PC 0) 0x100 8, .arr (.REED_ST_THRESH_THRESH 0) 0x100 8, .grid (.REED_OP_VALUE 0 0) 0x100 8 0x4
    8, .grid (.REED_ST_G_VALUE 0 0) 0x100 8 0x4 16, .arr (.SDG_ST_CTRL_COMB 0) 0x400 8, .arr (.SDG_ST_CTRL_FORCE_TIMED 0)
    0x400 8] : List Regs) ++ ([.arr (.SDG_ST_CTRL_ALT_SET 0) 0x400 8, .arr (.SDG_ST_CTRL_STEP 0) 0x400 8, .arr
    (.SDG_ST_CTRL_MODE 0) 0x400 8, .arr (.SDG_ST_STATUS_CODE_ERR 0) 0x400 8, .arr (.SDG_CODE_C 0) 0x400 8, .arr
    (.SDG_CODE_META 0) 0x400 8, .arr (.SDG_SEAL_TRK_SURF 0) 0x400 8, .arr (.SDG_SEAL_TRK_TRACK 0) 0x400 8, .arr
    (.SDG_WR_CFG_MARKER 0) 0x400 8, .arr (.SDG_WR_CFG_ADV 0) 0x400 8, .arr (.SDG_VFY_CFG_DLY 0) 0x400 8, .arr
    (.SDG_VFY_CFG_VAMP_CAL 0) 0x400 8] : List Regs) ++ ([.grid (.SDG_WPC_SHIFT 0 0) 0x400 8 0x4 8, .grid (.SDG_WPC_ANG_SCALE 0
    0) 0x400 8 0x4 16, .arr (.MWQ_STATUS_BLOCKED 0) 0x20 16, .arr (.MWQ_STATUS_OUTST 0) 0x20 16, .fld .MWQ_SYS_STATUS_FLUSH,
    .fld .MWQ_SYS_STATUS_CAL, .fld .STH_FATE_STATUS_UNRESOLVED, .fld .STH_FATE_STATUS_RECORDS, .fld .STH_FATE_DROP_COUNT] :
    List Regs)) R) :
    OutFrame W R s (execPowerFailFlush s) := by
  unfold execPowerFailFlush
  repeat' first
    | (extract_lets +onlyGivenNames x; refine have_out (x := x) ?_ (fun hx => ?_); (on_goal 2 => (clear_value x; revert x; intro _ _)); (on_goal 1 => (unfold x; clear x)))
    | exact parts_sub hW rfl
    | with_reducible refine next_frame ?_
    | with_reducible refine ite_out (fun _ => ?_) (fun _ => ?_)
    | with_reducible assumption
    | exact regs_sub hR (by decide +kernel)
    | with_reducible exact Frame.refl _ _ _
    | with_reducible refine ite_frame (fun _ => ?_) (fun _ => ?_)
    | with_reducible refine State.when_frame ?_ (fun t ht => ?_)
    | with_reducible refine State.flushWork_frame ?_ ?_   ?_
    | with_reducible refine State.startFlushing_frame ?_ ?_   ?_
    | with_reducible refine State.endFlushing_frame ?_ ?_   ?_
    | with_reducible refine State.mwqSync_frame  ?_   ?_

theorem execFlushEntryDone_frame {W : List Part} {R : List Regs} {s : State} {n : ℕ} {entry : ℕ} (hW : ∀ p ∈ ([.mireIrq,
    .fenIrq, .seqs, .chans, .stg, .lev, .peat, .slu, .mq] : List Part), p ∈ W) (hR : RegsIn (alarmRegs ++ haltRegs ++ ([.arr
    (.REED_ST_STATUS_EVT_CNT 0) 0x100 8, .arr (.MWQ_STATUS_BLOCKED 0) 0x20 16, .arr (.MWQ_STATUS_OUTST 0) 0x20 16, .fld
    .MWQ_SYS_STATUS_FLUSH, .fld .MWQ_SYS_STATUS_CAL, .fld .SLU_STATUS_LED_FREE, .arr (.SLU_SEC_FREE_FREE 0) 0x4 4, .arr
    (.SLU_SEC_RUN_RUN 0) 0x4 4, .arr (.SLU_CRED_USED_USED 0) 0x4 32] : List Regs)) R) :
    OutFrame W R s (execFlushEntryDone n entry s) := by
  unfold execFlushEntryDone
  repeat' first
    | (extract_lets +onlyGivenNames x; refine have_frame (x := x) ?_ (fun hx => ?_); (on_goal 2 => (clear_value x; revert x; intro _ _)); (on_goal 1 => (unfold x; clear x)))
    | exact parts_sub hW rfl
    | with_reducible refine next_frame ?_
    | with_reducible assumption
    | exact regs_sub hR (by decide +kernel)
    | with_reducible exact Frame.refl _ _ _
    | with_reducible refine State.when_frame ?_ (fun t ht => ?_)
    | with_reducible refine State.flushPut_frame ?_    ?_
    | with_reducible refine State.flushCollect_frame ?_ ?_   ?_
    | with_reducible refine State.updEntry_frame ?_ ?_   ?_
    | with_reducible refine State.assignFlush_frame ?_    ?_
    | with_reducible refine State.updMq_frame ?_    ?_
    | with_reducible refine State.mwqSync_frame  ?_   ?_
    | split

theorem State.endSequence_frame {W : List Part} {R : List Regs} {s0 s : State} (hW : ∀ p ∈ ([.mireIrq, .seqs, .chans, .stg,
    .tide, .withy, .slu, .sth, .mq] : List Part), p ∈ W) (hR : RegsIn (haltRegs ++ ([.fld .TIDE_STATUS_STATE, .fld
    .TIDE_CELL_PERIOD_PERIOD, .fld .WTH_SPN_STATUS_STATE, .fld .WTH_SPN_STATUS_AT_SPEED, .fld .WTH_SPN_STATUS_FW_ACTIVE, .fld
    .WTH_SPN_STATUS_FW_SAT, .fld .WTH_SPN_STATUS_STOP_BLOCKED, .fld .WTH_SPN_MEAS_TRACK, .fld .WTH_SPN_FOC_ID, .fld
    .WTH_SPN_FOC_MI, .fld .STH_FATE_STATUS_UNRESOLVED, .fld .STH_FATE_STATUS_RECORDS] : List Regs) ++ ([.fld
    .STH_FATE_DROP_COUNT, .fld .SLU_STATUS_LED_FREE, .arr (.SLU_SEC_FREE_FREE 0) 0x4 4, .arr (.SLU_SEC_RUN_RUN 0) 0x4 4, .arr
    (.SLU_CRED_USED_USED 0) 0x4 32, .fld .WEIR_STATUS_PF, .fld .WEIR_AON_STATUS_WARM_PF, .fld .WEIR_AON_STATUS_LAST_MIN] :
    List Regs)) R) (h : Frame W R s0 s) :
    Frame W R s0 (State.endSequence s) := by
  unfold State.endSequence
  repeat' first
    | with_reducible exact h
    | with_reducible assumption
    | (extract_lets +onlyGivenNames x; refine have_frame (x := x) ?_ (fun hx => ?_); (on_goal 2 => (clear_value x; revert x; intro _ _)); (on_goal 1 => (unfold x; clear x)))
    | (extract_lets +onlyGivenNames f; have := fun a => f a; clear this; unfold f; clear f)
    | exact parts_sub hW rfl
    | exact regs_sub hR (by decide +kernel)
    | with_reducible refine State.when_frame ?_ (fun t ht => ?_)
    | with_reducible refine State.spinTo_frame ?_ ?_   ?_
    | with_reducible refine State.writeDeferred_frame ?_ ?_   ?_
    | with_reducible refine State.updSlu_frame ?_    ?_
    | with_reducible refine State.sluStatus_frame  ?_   ?_
    | with_reducible refine State.set_frame ?_ ?_
    | with_reducible refine State.updMq_frame ?_    ?_
    | exact cov_fld hR (by decide +kernel)

theorem execPfDone_frame {W : List Part} {R : List Regs} {s : State} (hW : ∀ p ∈ ([.mireIrq, .fenIrq, .seqs, .chans, .stg,
    .tide, .lev, .peat, .withy, .slu, .sth, .mq] : List Part), p ∈ W) (hR : RegsIn (alarmRegs ++ haltRegs ++ ([.fld
    .TIDE_STATUS_STATE, .fld .TIDE_CELL_PERIOD_PERIOD, .fld .WTH_SPN_STATUS_STATE, .fld .WTH_SPN_STATUS_AT_SPEED, .fld
    .WTH_SPN_STATUS_FW_ACTIVE, .fld .WTH_SPN_STATUS_FW_SAT, .fld .WTH_SPN_STATUS_STOP_BLOCKED, .fld .WTH_SPN_MEAS_TRACK, .fld
    .WTH_SPN_FOC_ID, .fld .WTH_SPN_FOC_MI, .fld .STH_FATE_STATUS_UNRESOLVED, .fld .STH_FATE_STATUS_RECORDS] : List Regs) ++
    ([.fld .STH_FATE_DROP_COUNT, .fld .SLU_STATUS_LED_FREE, .arr (.SLU_SEC_FREE_FREE 0) 0x4 4, .arr (.SLU_SEC_RUN_RUN 0) 0x4
    4, .arr (.SLU_CRED_USED_USED 0) 0x4 32, .fld .WEIR_STATUS_PF, .fld .WEIR_AON_STATUS_WARM_PF, .fld
    .WEIR_AON_STATUS_LAST_MIN] : List Regs)) R) :
    OutFrame W R s (execPfDone s) := by
  unfold execPfDone
  repeat' first
    | (extract_lets +onlyGivenNames x; refine have_frame (x := x) ?_ (fun hx => ?_); (on_goal 2 => (clear_value x; revert x; intro _ _)); (on_goal 1 => (unfold x; clear x)))
    | exact parts_sub hW rfl
    | with_reducible refine next_frame ?_
    | with_reducible assumption
    | exact regs_sub hR (by decide +kernel)
    | with_reducible exact Frame.refl _ _ _
    | with_reducible refine State.when_frame ?_ (fun t ht => ?_)
    | with_reducible refine State.peatRecord_frame ?_ ?_   ?_
    | with_reducible refine State.endSequence_frame ?_ ?_   ?_
    | with_reducible refine State.mirrorFates_frame ?_    ?_

theorem execWeirPfLate_frame {W : List Part} {R : List Regs} {s : State} (hW : ∀ p ∈ ([.mireIrq, .fenIrq, .seqs, .chans, .stg,
    .lev, .peat, .weir, .withy, .slu, .sth, .mq] : List Part), p ∈ W) (hR : RegsIn (alarmRegs ++ haltRegs ++ ([.arr
    (.WTH_VCM_STATUS_RET_ACTIVE 0) 0x4 4, .arr (.WTH_VCM_STATUS_ENABLED 0) 0x4 4, .arr (.WTH_MA_CTRL_HOLD 0) 0x4 8, .arr
    (.WTH_MA_STATUS_VOUT 0) 0x4 8, .arr (.MWQ_STATUS_BLOCKED 0) 0x20 16, .arr (.MWQ_STATUS_OUTST 0) 0x20 16, .fld
    .MWQ_SYS_STATUS_FLUSH, .fld .MWQ_SYS_STATUS_CAL, .fld .STH_FATE_STATUS_UNRESOLVED, .fld .STH_FATE_STATUS_RECORDS, .fld
    .STH_FATE_DROP_COUNT, .fld .WEIR_STATUS_PF_MS] : List Regs) ++ ([.fld .WEIR_FAULT_SRC] : List Regs)) R) :
    OutFrame W R s (execWeirPfLate s) := by
  unfold execWeirPfLate
  repeat' first
    | (extract_lets +onlyGivenNames x; refine have_frame (x := x) ?_ (fun hx => ?_); (on_goal 2 => (clear_value x; revert x; intro _ _)); (on_goal 1 => (unfold x; clear x)))
    | (extract_lets +onlyGivenNames y; clear_value y; revert y; intro _)
    | exact parts_sub hW rfl
    | with_reducible refine next_frame ?_
    | with_reducible assumption
    | exact regs_sub hR (by decide +kernel)
    | with_reducible exact Frame.refl _ _ _
    | with_reducible refine State.when_frame ?_ (fun t ht => ?_)
    | with_reducible refine State.forN_frame ?_ (fun i t ht => ?_)
    | with_reducible refine State.weirFault_frame ?_ ?_   ?_
    | with_reducible refine State.terminate_frame ?_ ?_   ?_
    | with_reducible refine State.endFlushing_frame ?_ ?_   ?_
    | with_reducible refine State.irqMire_frame ?_    ?_
    | with_reducible refine State.set_frame ?_ ?_
    | exact cov_fld hR (by decide +kernel)
    | with_reducible refine upd_weir ?_ ?_

theorem execPfBudget_frame {W : List Part} {R : List Regs} {s : State} (hW : ∀ p ∈ ([.mireIrq, .seqs, .chans, .stg, .tide,
    .withy, .slu, .sth, .mq] : List Part), p ∈ W) (hR : RegsIn (haltRegs ++ ([.fld .TIDE_STATUS_STATE, .fld
    .TIDE_CELL_PERIOD_PERIOD, .fld .WTH_SPN_STATUS_STATE, .fld .WTH_SPN_STATUS_AT_SPEED, .fld .WTH_SPN_STATUS_FW_ACTIVE, .fld
    .WTH_SPN_STATUS_FW_SAT, .fld .WTH_SPN_STATUS_STOP_BLOCKED, .fld .WTH_SPN_MEAS_TRACK, .fld .WTH_SPN_FOC_ID, .fld
    .WTH_SPN_FOC_MI, .arr (.WTH_VCM_STATUS_RET_ACTIVE 0) 0x4 4, .arr (.WTH_VCM_STATUS_ENABLED 0) 0x4 4] : List Regs) ++ ([.arr
    (.WTH_MA_CTRL_HOLD 0) 0x4 8, .arr (.WTH_MA_STATUS_VOUT 0) 0x4 8, .fld .STH_FATE_STATUS_UNRESOLVED, .fld
    .STH_FATE_STATUS_RECORDS, .fld .STH_FATE_DROP_COUNT, .fld .SLU_STATUS_LED_FREE, .arr (.SLU_SEC_FREE_FREE 0) 0x4 4, .arr
    (.SLU_SEC_RUN_RUN 0) 0x4 4, .arr (.SLU_CRED_USED_USED 0) 0x4 32, .fld .WEIR_STATUS_PF, .fld .WEIR_STATUS_PF_MS, .fld
    .WEIR_AON_STATUS_WARM_PF] : List Regs) ++ ([.fld .WEIR_AON_STATUS_LAST_MIN] : List Regs)) R) :
    OutFrame W R s (execPfBudget s) := by
  unfold execPfBudget
  repeat' first
    | exact parts_sub hW rfl
    | with_reducible refine next_frame ?_
    | with_reducible assumption
    | exact regs_sub hR (by decide +kernel)
    | with_reducible exact Frame.refl _ _ _
    | with_reducible refine State.when_frame ?_ (fun t ht => ?_)
    | with_reducible refine State.retractAll_frame ?_ ?_   ?_
    | with_reducible refine State.set_frame ?_ ?_
    | with_reducible refine State.endSequence_frame ?_ ?_   ?_
    | exact cov_fld hR (by decide +kernel)

theorem execPfEnd_frame {W : List Part} {R : List Regs} {s : State} {restart : Bool} (hW : ∀ p ∈ ([.dram, .sram, .mireIrq,
    .fenIrq, .seqs, .chans, .shockQuiet, .stg, .tide, .lev, .peat, .weir, .mireRuns, .warmBusy, .withy, .tus, .links, .slu,
    .sth, .dma, .carr, .mq, .aq, .dyke] : List Part), p ∈ W) (hR : RegsIn (([.all] : List Regs)) R) :
    OutFrame W R s (execPfEnd restart s) := by
  unfold execPfEnd
  repeat' first
    | (extract_lets +onlyGivenNames x; refine have_out (x := x) ?_ (fun hx => ?_); (on_goal 2 => (clear_value x; revert x; intro _ _)); (on_goal 1 => (unfold x; clear x)))
    | (extract_lets +onlyGivenNames y; clear_value y; revert y; intro _)
    | exact parts_sub hW rfl
    | with_reducible refine next_frame ?_
    | with_reducible refine ite_out (fun _ => ?_) (fun _ => ?_)
    | with_reducible assumption
    | with_reducible exact Frame.refl _ _ _
    | with_reducible refine State.railsOff_frame ?_ ?_   ?_
    | with_reducible refine State.requestReset_frame ?_    ?_
    | with_reducible refine State.set_frame ?_ ?_
    | exact cov_all hR (by decide +kernel)
    | with_reducible refine upd_weir ?_ ?_

theorem State.resetRegs_frame {W : List Part} {R : List Regs} {s0 s : State} {named : ℕ → Bool} (hR : RegsIn [.all] R)
    (h : Frame W R s0 s) : Frame W R s0 (State.resetRegs s named) := by
  refine h.trans ⟨rfl, fun x => ⟨tabFilterMap_wf _ _ _ x.1 ?_, x.2⟩, fun p _ => by cases p <;> rfl, fun g hg => (hR g hg .all (by simp)).elim⟩
  intro e he y hy
  split at hy
  · split at hy
    · cases hy
    · rename_i hne
      cases hy
      exact ⟨rfl, hne⟩
  · cases hy
    exact ⟨rfl, x.1.2 e he⟩

theorem State.drainCarr_frame {W : List Part} {R : List Regs} {s0 s : State} (hW : ∀ p ∈ ([.dram, .mireIrq, .fenIrq, .seqs,
    .chans, .stg, .lev, .peat, .slu, .carr] : List Part), p ∈ W) (hR : RegsIn (alarmRegs ++ haltRegs) R) (h : Frame W R s0 s)
    :
    Frame W R s0 (State.drainCarr s) := by
  unfold State.drainCarr
  repeat' first
    | with_reducible exact h
    | with_reducible assumption
    | exact parts_sub hW rfl
    | with_reducible refine State.when_frame ?_ (fun t ht => ?_)
    | with_reducible refine foldl_frame ?_ (fun t x ht => ?_)
    | with_reducible refine State.postedWrite_frame ?_ ?_   ?_
    | with_reducible refine State.updCarr_frame ?_    ?_

theorem State.resetStaithe_frame {W : List Part} {R : List Regs} {s0 s : State} (hW : ∀ p ∈ ([.sth] : List Part), p ∈ W) (hR :
    RegsIn (([.fld .STH_FATE_STATUS_UNRESOLVED, .fld .STH_FATE_STATUS_RECORDS, .fld .STH_FATE_DROP_COUNT] : List Regs)) R) (h
    : Frame W R s0 s) :
    Frame W R s0 (State.resetStaithe s) := by
  unfold State.resetStaithe
  repeat' first
    | with_reducible exact h
    | with_reducible assumption
    | (extract_lets +onlyGivenNames x; refine have_frame (x := x) ?_ (fun hx => ?_); (on_goal 2 => (clear_value x; revert x; intro _ _)); (on_goal 1 => (unfold x; clear x)))
    | (extract_lets +onlyGivenNames y; clear_value y; revert y; intro _)
    | with_reducible refine State.when_frame ?_ (fun t ht => ?_)
    | with_reducible refine State.forN_frame ?_ (fun i t ht => ?_)
    | with_reducible refine foldl_frame ?_ (fun t x ht => ?_)
    | with_reducible refine State.updSth_frame ?_    ?_
    | with_reducible refine State.addFate_frame ?_ ?_   ?_

theorem State.resetSluice_frame {W : List Part} {R : List Regs} {s0 s : State} (hW : ∀ p ∈ ([.slu] : List Part), p ∈ W) (h :
    Frame W R s0 s) :
    Frame W R s0 (State.resetSluice s) := by
  unfold State.resetSluice
  repeat' first
    | with_reducible exact h
    | with_reducible assumption
    | (extract_lets +onlyGivenNames f; have := fun a => f a; clear this; unfold f; clear f)
    | with_reducible refine State.updSlu_frame ?_    ?_

theorem State.resetLevee_frame {W : List Part} {R : List Regs} {s0 s : State} (hW : ∀ p ∈ ([.lev] : List Part), p ∈ W) (hR :
    RegsIn (([.fld .LEV_STATUS_F_LATCHED, .fld .LEV_STATUS_ERROR, .fld .LEV_STATUS_ALIVE_RUN, .arr (.LEV_LATCH_LINE 0) 0x4 7,
    .fld .LEV_RESET_CAUSE_CAUSE, .fld .LEV_RESET_CAUSE_INSTANCE, .fld .LEV_RESET_CAUSE_SOURCE] : List Regs)) R) (h : Frame W R
    s0 s) :
    Frame W R s0 (State.resetLevee s) := by
  unfold State.resetLevee
  repeat' first
    | with_reducible exact h
    | with_reducible assumption
    | (extract_lets +onlyGivenNames x; refine have_frame (x := x) ?_ (fun hx => ?_); (on_goal 2 => (clear_value x; revert x; intro _ _)); (on_goal 1 => (unfold x; clear x)))
    | (extract_lets +onlyGivenNames y; clear_value y; revert y; intro _)
    | exact regs_sub hR (by decide +kernel)
    | with_reducible refine State.when_frame ?_ (fun t ht => ?_)
    | with_reducible refine State.forN_frame ?_ (fun i t ht => ?_)
    | with_reducible refine State.unlatch_frame ?_ ?_   ?_
    | with_reducible refine State.levStatus_frame  ?_   ?_
    | with_reducible refine State.set_frame ?_ ?_
    | exact cov_fld hR (by decide +kernel)
    | split
    | with_reducible refine upd_lev ?_ ?_

theorem State.resetPeat_frame {W : List Part} {R : List Regs} {s0 s : State} (hW : ∀ p ∈ ([.peat] : List Part), p ∈ W) (hR :
    RegsIn (([.fld .PEAT_STATUS_STAMP_WAIT, .fld .PEAT_STATUS_HELD, .fld .PEAT_STATUS_USED, .arr (.PEAT_AREA_REC_COUNT 0) 0x4
    10, .arr (.PEAT_AREA_BYTES_BYTES 0) 0x4 10, .fld .PEAT_MRSETS_COUNT] : List Regs)) R) (h : Frame W R s0 s) :
    Frame W R s0 (State.resetPeat s) := by
  unfold State.resetPeat
  repeat' first
    | with_reducible exact h
    | with_reducible assumption
    | (extract_lets +onlyGivenNames x; refine have_frame (x := x) ?_ (fun hx => ?_); (on_goal 2 => (clear_value x; revert x; intro _ _)); (on_goal 1 => (unfold x; clear x)))
    | (extract_lets +onlyGivenNames y; clear_value y; revert y; intro _)
    | exact regs_sub hR (by decide +kernel)
    | with_reducible refine State.forN_frame ?_ (fun i t ht => ?_)
    | with_reducible refine State.areaStatus_frame  ?_   ?_
    | with_reducible refine State.peatStatus_frame  ?_   ?_
    | with_reducible refine State.set_frame ?_ ?_
    | exact cov_fld hR (by decide +kernel)
    | with_reducible refine upd_peat ?_ ?_

theorem State.resetFirmware_frame {W : List Part} {R : List Regs} {s0 s : State} (hW : ∀ p ∈ ([.mireIrq, .fenIrq, .mireRuns,
    .warmBusy, .aq, .dyke] : List Part), p ∈ W) (h : Frame W R s0 s) :
    Frame W R s0 (State.resetFirmware s) := by
  unfold State.resetFirmware
  repeat' first
    | with_reducible exact h
    | with_reducible assumption
    | (extract_lets +onlyGivenNames y; clear_value y; revert y; intro _)
    | with_reducible refine upd_mireIrq_fenIrq_mireRuns_warmBusy_aq_dyke ?_ ?_

/-- What a warm reset empties or starts again at once. -/
theorem upd_sram_seqs_chans_shockQuiet_stg_tide_weir_tus_links_dma_carr {W : List Part} {R : List Regs} {s0 s : State} {a :
    Tide} {b : Weir} {c : Tus}
    {d : Tab Link} {e : Carr} (hW : ∀ p ∈ ([.sram, .seqs, .chans, .shockQuiet, .stg, .tide, .weir, .tus, .links, .dma, .carr] : List Part), p ∈ W)
    (h : Frame W R s0 s) :
    Frame W R s0 { s with seqs := [], chans := [], shockQuiet := 0, stg := [], sram := [], dma := [], carr := e, links := d, tide := a, tus := c,
                          weir := b } := by
  refine h.trans ⟨rfl, fun x => ⟨x.1, x.2.1, tabWf_nil _⟩, fun p hp => ?_, fun _ _ => rfl⟩
  cases p <;> first
    | rfl
    | exact absurd (hW _ (by simp)) hp

theorem State.warmReset_frame {W : List Part} {R : List Regs} {s0 s : State} (hW : ∀ p ∈ ([.dram, .sram, .bus, .drawn,
    .mireIrq, .fenIrq, .seqs, .chans, .shockQuiet, .stg, .tide, .lev, .peat, .weir, .mireRuns, .warmBusy, .withy, .tus,
    .links, .slu, .sth, .dma, .carr, .mq, .aq, .dyke] : List Part), p ∈ W) (hR : RegsIn (([.all] : List Regs)) R) (h : Frame W
    R s0 s) :
    Frame W R s0 (State.warmReset s) := by
  unfold State.warmReset
  repeat' first
    | with_reducible exact h
    | with_reducible assumption
    | (extract_lets +onlyGivenNames x; refine have_frame (x := x) ?_ (fun hx => ?_); (on_goal 2 => (clear_value x; revert x; intro _ _)); (on_goal 1 => (unfold x; clear x)))
    | (extract_lets +onlyGivenNames y; clear_value y; revert y; intro _)
    | exact parts_sub hW rfl
    | with_reducible refine State.forN_frame ?_ (fun i t ht => ?_)
    | with_reducible refine State.resetQueuesMq_frame ?_    ?_
    | with_reducible refine State.fateStatus_frame  ?_   ?_
    | with_reducible refine State.sthStatus_frame  ?_   ?_
    | with_reducible refine State.inc_frame ?_ ?_
    | with_reducible refine State.levStatus_frame  ?_   ?_
    | with_reducible refine State.resetPeat_frame ?_ ?_   ?_
    | with_reducible refine State.drainCarr_frame ?_ ?_   ?_
    | with_reducible refine State.resetStaithe_frame ?_ ?_   ?_
    | with_reducible refine State.slotCap_frame  ?_   ?_
    | with_reducible refine State.resetFirmware_frame ?_    ?_
    | with_reducible refine State.stopDma_frame ?_ ?_   ?_
    | with_reducible refine State.resetRegs_frame  ?_   ?_
    | with_reducible refine State.setIf_frame ?_ ?_
    | with_reducible refine State.sluStatus_frame  ?_   ?_
    | with_reducible refine State.resetLevee_frame ?_ ?_   ?_
    | with_reducible refine State.resetSluice_frame ?_    ?_
    | with_reducible refine State.freezeRegion_frame ?_ ?_   ?_
    | with_reducible refine State.set_frame ?_ ?_
    | with_reducible refine State.mwqSync_frame  ?_   ?_
    | exact regs_all hR
    | exact cov_all hR (by decide +kernel)
    | with_reducible refine upd_sram_seqs_chans_shockQuiet_stg_tide_weir_tus_links_dma_carr ?_ ?_

theorem execWarmReset_frame {W : List Part} {R : List Regs} {s : State} (hW : ∀ p ∈ ([.dram, .sram, .bus, .drawn, .mireIrq,
    .fenIrq, .seqs, .chans, .shockQuiet, .stg, .tide, .lev, .peat, .weir, .mireRuns, .warmBusy, .withy, .tus, .links, .slu,
    .sth, .dma, .carr, .mq, .aq, .dyke] : List Part), p ∈ W) (hR : RegsIn (([.all] : List Regs)) R) :
    OutFrame W R s (execWarmReset s) := by
  unfold execWarmReset
  repeat' first
    | exact parts_sub hW rfl
    | with_reducible refine next_frame ?_
    | with_reducible assumption
    | with_reducible exact Frame.refl _ _ _
    | with_reducible refine State.when_frame ?_ (fun t ht => ?_)
    | with_reducible refine State.warmReset_frame ?_ ?_   ?_

theorem State.blockTerminate_frame {W : List Part} {R : List Regs} {s0 s : State} {n : ℕ} {again : Bool} (hW : ∀ p ∈ ([.dram,
    .drawn, .mireIrq, .fenIrq, .seqs, .chans, .stg, .lev, .peat, .slu, .mq] : List Part), p ∈ W) (hR : RegsIn (alarmRegs ++
    haltRegs ++ ([.arr (.MWQ_STATUS_BLOCKED 0) 0x20 16, .arr (.MWQ_STATUS_OUTST 0) 0x20 16, .arr (.MWC_PI_PASS 0) 0x20 4, .arr
    (.MWC_PI_PI 0) 0x20 4, .arr (.MWC_STATUS_SCAN_STOP 0) 0x20 4, .arr (.MWC_STATUS_SPILL_CNT 0) 0x20 4, .fld
    .MWQ_SYS_STATUS_FLUSH, .fld .MWQ_SYS_STATUS_CAL, .fld .SLU_STATUS_LED_FREE, .arr (.SLU_SEC_FREE_FREE 0) 0x4 4, .arr
    (.SLU_SEC_RUN_RUN 0) 0x4 4, .arr (.SLU_CRED_USED_USED 0) 0x4 32] : List Regs)) R) (h : Frame W R s0 s) :
    Frame W R s0 (State.blockTerminate s n again) := by
  unfold State.blockTerminate
  repeat' first
    | with_reducible exact h
    | with_reducible assumption
    | (extract_lets +onlyGivenNames x; refine have_frame (x := x) ?_ (fun hx => ?_); (on_goal 2 => (clear_value x; revert x; intro _ _)); (on_goal 1 => (unfold x; clear x)))
    | exact parts_sub hW rfl
    | exact regs_sub hR (by decide +kernel)
    | with_reducible refine ite_frame (fun _ => ?_) (fun _ => ?_)
    | with_reducible refine State.when_frame ?_ (fun t ht => ?_)
    | with_reducible refine State.terminate_frame ?_ ?_   ?_
    | with_reducible refine State.updMwd_frame ?_    ?_
    | with_reducible refine State.endOp_frame ?_ ?_   ?_
    | with_reducible refine State.mwqSync_frame  ?_   ?_
    | with_reducible refine State.served_frame ?_    ?_
    | split

theorem State.blockEffect_frame {W : List Part} {R : List Regs} {s0 s : State} {sub : ℕ} (hW : ∀ p ∈ ([.dram, .sram, .bus,
    .drawn, .mireIrq, .fenIrq, .seqs, .chans, .shockQuiet, .stg, .tide, .lev, .peat, .weir, .withy, .tus, .slu, .sth, .dma,
    .carr, .mq, .dyke] : List Part), p ∈ W) (hR : RegsIn (([.all] : List Regs)) R) (h : Frame W R s0 s) :
    Frame W R s0 (State.blockEffect s sub) := by
  unfold State.blockEffect
  repeat' first
    | with_reducible exact h
    | with_reducible assumption
    | (extract_lets +onlyGivenNames x; refine have_frame (x := x) ?_ (fun hx => ?_); (on_goal 2 => (clear_value x; revert x; intro _ _)); (on_goal 1 => (unfold x; clear x)))
    | exact parts_sub hW rfl
    | with_reducible refine State.when_frame ?_ (fun t ht => ?_)
    | with_reducible refine State.forN_frame ?_ (fun i t ht => ?_)
    | with_reducible refine State.blockTerminate_frame ?_ ?_   ?_
    | with_reducible refine State.stopDma_frame ?_ ?_   ?_
    | with_reducible refine State.drainCarr_frame ?_ ?_   ?_
    | with_reducible refine State.resetRegs_frame  ?_   ?_
    | exact regs_all hR
    | split
    | with_reducible refine upd_carr ?_ ?_
    | with_reducible refine upd_chans_shockQuiet ?_ ?_
    | with_reducible refine upd_dma ?_ ?_
    | with_reducible refine upd_seqs ?_ ?_

theorem execBlockReset_frame {W : List Part} {R : List Regs} {s : State} {sub : ℕ} (hW : ∀ p ∈ ([.dram, .sram, .bus, .drawn,
    .mireIrq, .fenIrq, .seqs, .chans, .shockQuiet, .stg, .tide, .lev, .peat, .weir, .withy, .tus, .slu, .sth, .dma, .carr,
    .mq, .dyke] : List Part), p ∈ W) (hR : RegsIn (([.all] : List Regs)) R) :
    OutFrame W R s (execBlockReset sub s) := by
  unfold execBlockReset
  repeat' first
    | (extract_lets +onlyGivenNames x; refine have_frame (x := x) ?_ (fun hx => ?_); (on_goal 2 => (clear_value x; revert x; intro _ _)); (on_goal 1 => (unfold x; clear x)))
    | (extract_lets +onlyGivenNames y; clear_value y; revert y; intro _)
    | exact parts_sub hW rfl
    | with_reducible refine next_frame ?_
    | with_reducible assumption
    | with_reducible exact Frame.refl _ _ _
    | with_reducible refine State.when_frame ?_ (fun t ht => ?_)
    | with_reducible refine State.blockEffect_frame ?_ ?_   ?_
    | with_reducible refine upd_lev ?_ ?_

theorem execBlockResetEnd_frame {W : List Part} {R : List Regs} {s : State} {sub : ℕ} (hW : ∀ p ∈ ([.mireIrq, .fenIrq, .seqs,
    .chans, .stg, .lev, .peat] : List Part), p ∈ W) (hR : RegsIn (alarmRegs ++ haltRegs ++ ([.arr (.TIDE_ST_PHASE_PHASE 0) 0x4
    8, .fld .REED_UCODE_VER_BASE, .fld .REED_UCODE_VER_PATCH, .fld .REED_CS_CTRL_SEQ_MASK, .fld .REED_CS_CTRL_ADDR, .arr
    (.SDG_WR_CFG_ADV 0) 0x400 8, .arr (.SDG_VFY_CFG_DLY 0) 0x400 8, .arr (.SDG_VFY_CFG_VAMP_CAL 0) 0x400 8, .grid
    (.SDG_WPC_SHIFT 0 0) 0x400 8 0x4 8, .grid (.SDG_WPC_ANG_SCALE 0 0) 0x400 8 0x4 16] : List Regs)) R) :
    OutFrame W R s (execBlockResetEnd sub s) := by
  unfold execBlockResetEnd
  repeat' first
    | (extract_lets +onlyGivenNames x; refine have_frame (x := x) ?_ (fun hx => ?_); (on_goal 2 => (clear_value x; revert x; intro _ _)); (on_goal 1 => (unfold x; clear x)))
    | (extract_lets +onlyGivenNames y; clear_value y; revert y; intro _)
    | exact parts_sub hW rfl
    | with_reducible refine next_frame ?_
    | with_reducible assumption
    | exact regs_sub hR (by decide +kernel)
    | with_reducible exact Frame.refl _ _ _
    | with_reducible refine State.when_frame ?_ (fun t ht => ?_)
    | with_reducible refine State.forN_frame ?_ (fun i t ht => ?_)
    | with_reducible refine State.setIf_frame ?_ ?_
    | with_reducible refine State.loadReed_frame ?_ ?_   ?_
    | with_reducible refine State.irqMire_frame ?_    ?_
    | with_reducible refine State.loadCal_frame ?_ ?_   ?_
    | exact cov_fld hR (by decide +kernel)
    | with_reducible refine upd_lev ?_ ?_

theorem State.millisecond_frame {W : List Part} {R : List Regs} {s0 s : State} (hW : ∀ p ∈ ([.fenIrq, .sth] : List Part), p ∈
    W) (hR : RegsIn (([.fld .TIDE_OPT_LO_MS_LO, .fld .TIDE_OPT_HI_MS_HI, .fld .STH_IDLE_STATUS_EXPIRED, .fld
    .STH_IDLE_STATUS_IDLE, .fld .WEIR_STATUS_PF_MS] : List Regs)) R) (h : Frame W R s0 s) :
    Frame W R s0 (State.millisecond s) := by
  unfold State.millisecond
  repeat' first
    | with_reducible exact h
    | with_reducible assumption
    | exact regs_sub hR (by decide +kernel)
    | with_reducible refine State.when_frame ?_ (fun t ht => ?_)
    | with_reducible refine State.idleMs_frame ?_ ?_   ?_
    | with_reducible refine State.countOpt_frame  ?_   ?_
    | with_reducible refine State.incSat_frame ?_ ?_
    | exact cov_fld hR (by decide +kernel)

end Sys2Proof.Machine
end

