-- ==== Sys2Proof/Laws/State.lean ====
section
/-! SUPPORT. The fields of a state after one named update of it: each is the updated part, or what it was. -/

namespace Sys2Proof.Machine

variable (s : State)

@[simp] theorem State.putReg_pending (a : Nat) (w : Word) : (s.putReg a w).pending = s.pending := by rfl
@[simp] theorem State.putReg_dram (a : Nat) (w : Word) : (s.putReg a w).dram = s.dram := by rfl
@[simp] theorem State.putReg_sram (a : Nat) (w : Word) : (s.putReg a w).sram = s.sram := by rfl
@[simp] theorem State.putReg_bus (a : Nat) (w : Word) : (s.putReg a w).bus = s.bus := by rfl
@[simp] theorem State.putReg_drawn (a : Nat) (w : Word) : (s.putReg a w).drawn = s.drawn := by rfl
@[simp] theorem State.putReg_mireIrq (a : Nat) (w : Word) : (s.putReg a w).mireIrq = s.mireIrq := by rfl
@[simp] theorem State.putReg_fenIrq (a : Nat) (w : Word) : (s.putReg a w).fenIrq = s.fenIrq := by rfl
@[simp] theorem State.putReg_seqs (a : Nat) (w : Word) : (s.putReg a w).seqs = s.seqs := by rfl
@[simp] theorem State.putReg_chans (a : Nat) (w : Word) : (s.putReg a w).chans = s.chans := by rfl
@[simp] theorem State.putReg_shockQuiet (a : Nat) (w : Word) : (s.putReg a w).shockQuiet = s.shockQuiet := by rfl
@[simp] theorem State.putReg_stg (a : Nat) (w : Word) : (s.putReg a w).stg = s.stg := by rfl
@[simp] theorem State.putReg_tide (a : Nat) (w : Word) : (s.putReg a w).tide = s.tide := by rfl
@[simp] theorem State.putReg_lev (a : Nat) (w : Word) : (s.putReg a w).lev = s.lev := by rfl
@[simp] theorem State.putReg_peat (a : Nat) (w : Word) : (s.putReg a w).peat = s.peat := by rfl
@[simp] theorem State.putReg_weir (a : Nat) (w : Word) : (s.putReg a w).weir = s.weir := by rfl
@[simp] theorem State.putReg_mireRuns (a : Nat) (w : Word) : (s.putReg a w).mireRuns = s.mireRuns := by rfl
@[simp] theorem State.putReg_warmBusy (a : Nat) (w : Word) : (s.putReg a w).warmBusy = s.warmBusy := by rfl
@[simp] theorem State.putReg_withy (a : Nat) (w : Word) : (s.putReg a w).withy = s.withy := by rfl
@[simp] theorem State.putReg_tus (a : Nat) (w : Word) : (s.putReg a w).tus = s.tus := by rfl
@[simp] theorem State.putReg_links (a : Nat) (w : Word) : (s.putReg a w).links = s.links := by rfl
@[simp] theorem State.putReg_slu (a : Nat) (w : Word) : (s.putReg a w).slu = s.slu := by rfl
@[simp] theorem State.putReg_sth (a : Nat) (w : Word) : (s.putReg a w).sth = s.sth := by rfl
@[simp] theorem State.putReg_dma (a : Nat) (w : Word) : (s.putReg a w).dma = s.dma := by rfl
@[simp] theorem State.putReg_carr (a : Nat) (w : Word) : (s.putReg a w).carr = s.carr := by rfl
@[simp] theorem State.putReg_mq (a : Nat) (w : Word) : (s.putReg a w).mq = s.mq := by rfl
@[simp] theorem State.putReg_aq (a : Nat) (w : Word) : (s.putReg a w).aq = s.aq := by rfl
@[simp] theorem State.putReg_dyke (a : Nat) (w : Word) : (s.putReg a w).dyke = s.dyke := by rfl
@[simp] theorem State.putReg_byteAt (a : Nat) (w : Word) (i : Nat) : (s.putReg a w).byteAt i = s.byteAt i := by rfl

@[simp] theorem State.set_pending (f : Fld) (v : Nat) : (s.set f v).pending = s.pending := by rfl
@[simp] theorem State.set_dram (f : Fld) (v : Nat) : (s.set f v).dram = s.dram := by rfl
@[simp] theorem State.set_sram (f : Fld) (v : Nat) : (s.set f v).sram = s.sram := by rfl
@[simp] theorem State.set_bus (f : Fld) (v : Nat) : (s.set f v).bus = s.bus := by rfl
@[simp] theorem State.set_drawn (f : Fld) (v : Nat) : (s.set f v).drawn = s.drawn := by rfl
@[simp] theorem State.set_mireIrq (f : Fld) (v : Nat) : (s.set f v).mireIrq = s.mireIrq := by rfl
@[simp] theorem State.set_fenIrq (f : Fld) (v : Nat) : (s.set f v).fenIrq = s.fenIrq := by rfl
@[simp] theorem State.set_seqs (f : Fld) (v : Nat) : (s.set f v).seqs = s.seqs := by rfl
@[simp] theorem State.set_chans (f : Fld) (v : Nat) : (s.set f v).chans = s.chans := by rfl
@[simp] theorem State.set_shockQuiet (f : Fld) (v : Nat) : (s.set f v).shockQuiet = s.shockQuiet := by rfl
@[simp] theorem State.set_stg (f : Fld) (v : Nat) : (s.set f v).stg = s.stg := by rfl
@[simp] theorem State.set_tide (f : Fld) (v : Nat) : (s.set f v).tide = s.tide := by rfl
@[simp] theorem State.set_lev (f : Fld) (v : Nat) : (s.set f v).lev = s.lev := by rfl
@[simp] theorem State.set_peat (f : Fld) (v : Nat) : (s.set f v).peat = s.peat := by rfl
@[simp] theorem State.set_weir (f : Fld) (v : Nat) : (s.set f v).weir = s.weir := by rfl
@[simp] theorem State.set_mireRuns (f : Fld) (v : Nat) : (s.set f v).mireRuns = s.mireRuns := by rfl
@[simp] theorem State.set_warmBusy (f : Fld) (v : Nat) : (s.set f v).warmBusy = s.warmBusy := by rfl
@[simp] theorem State.set_withy (f : Fld) (v : Nat) : (s.set f v).withy = s.withy := by rfl
@[simp] theorem State.set_tus (f : Fld) (v : Nat) : (s.set f v).tus = s.tus := by rfl
@[simp] theorem State.set_links (f : Fld) (v : Nat) : (s.set f v).links = s.links := by rfl
@[simp] theorem State.set_slu (f : Fld) (v : Nat) : (s.set f v).slu = s.slu := by rfl
@[simp] theorem State.set_sth (f : Fld) (v : Nat) : (s.set f v).sth = s.sth := by rfl
@[simp] theorem State.set_dma (f : Fld) (v : Nat) : (s.set f v).dma = s.dma := by rfl
@[simp] theorem State.set_carr (f : Fld) (v : Nat) : (s.set f v).carr = s.carr := by rfl
@[simp] theorem State.set_mq (f : Fld) (v : Nat) : (s.set f v).mq = s.mq := by rfl
@[simp] theorem State.set_aq (f : Fld) (v : Nat) : (s.set f v).aq = s.aq := by rfl
@[simp] theorem State.set_dyke (f : Fld) (v : Nat) : (s.set f v).dyke = s.dyke := by rfl
@[simp] theorem State.set_byteAt (f : Fld) (v : Nat) (i : Nat) : (s.set f v).byteAt i = s.byteAt i := by rfl

@[simp] theorem State.setIf_pending (f : Fld) (b : Bool) : (s.setIf f b).pending = s.pending := by rfl
@[simp] theorem State.setIf_dram (f : Fld) (b : Bool) : (s.setIf f b).dram = s.dram := by rfl
@[simp] theorem State.setIf_sram (f : Fld) (b : Bool) : (s.setIf f b).sram = s.sram := by rfl
@[simp] theorem State.setIf_bus (f : Fld) (b : Bool) : (s.setIf f b).bus = s.bus := by rfl
@[simp] theorem State.setIf_drawn (f : Fld) (b : Bool) : (s.setIf f b).drawn = s.drawn := by rfl
@[simp] theorem State.setIf_mireIrq (f : Fld) (b : Bool) : (s.setIf f b).mireIrq = s.mireIrq := by rfl
@[simp] theorem State.setIf_fenIrq (f : Fld) (b : Bool) : (s.setIf f b).fenIrq = s.fenIrq := by rfl
@[simp] theorem State.setIf_seqs (f : Fld) (b : Bool) : (s.setIf f b).seqs = s.seqs := by rfl
@[simp] theorem State.setIf_chans (f : Fld) (b : Bool) : (s.setIf f b).chans = s.chans := by rfl
@[simp] theorem State.setIf_shockQuiet (f : Fld) (b : Bool) : (s.setIf f b).shockQuiet = s.shockQuiet := by rfl
@[simp] theorem State.setIf_stg (f : Fld) (b : Bool) : (s.setIf f b).stg = s.stg := by rfl
@[simp] theorem State.setIf_tide (f : Fld) (b : Bool) : (s.setIf f b).tide = s.tide := by rfl
@[simp] theorem State.setIf_lev (f : Fld) (b : Bool) : (s.setIf f b).lev = s.lev := by rfl
@[simp] theorem State.setIf_peat (f : Fld) (b : Bool) : (s.setIf f b).peat = s.peat := by rfl
@[simp] theorem State.setIf_weir (f : Fld) (b : Bool) : (s.setIf f b).weir = s.weir := by rfl
@[simp] theorem State.setIf_mireRuns (f : Fld) (b : Bool) : (s.setIf f b).mireRuns = s.mireRuns := by rfl
@[simp] theorem State.setIf_warmBusy (f : Fld) (b : Bool) : (s.setIf f b).warmBusy = s.warmBusy := by rfl
@[simp] theorem State.setIf_withy (f : Fld) (b : Bool) : (s.setIf f b).withy = s.withy := by rfl
@[simp] theorem State.setIf_tus (f : Fld) (b : Bool) : (s.setIf f b).tus = s.tus := by rfl
@[simp] theorem State.setIf_links (f : Fld) (b : Bool) : (s.setIf f b).links = s.links := by rfl
@[simp] theorem State.setIf_slu (f : Fld) (b : Bool) : (s.setIf f b).slu = s.slu := by rfl
@[simp] theorem State.setIf_sth (f : Fld) (b : Bool) : (s.setIf f b).sth = s.sth := by rfl
@[simp] theorem State.setIf_dma (f : Fld) (b : Bool) : (s.setIf f b).dma = s.dma := by rfl
@[simp] theorem State.setIf_carr (f : Fld) (b : Bool) : (s.setIf f b).carr = s.carr := by rfl
@[simp] theorem State.setIf_mq (f : Fld) (b : Bool) : (s.setIf f b).mq = s.mq := by rfl
@[simp] theorem State.setIf_aq (f : Fld) (b : Bool) : (s.setIf f b).aq = s.aq := by rfl
@[simp] theorem State.setIf_dyke (f : Fld) (b : Bool) : (s.setIf f b).dyke = s.dyke := by rfl
@[simp] theorem State.setIf_byteAt (f : Fld) (b : Bool) (i : Nat) : (s.setIf f b).byteAt i = s.byteAt i := by rfl

@[simp] theorem State.inc_pending (f : Fld) : (s.inc f).pending = s.pending := by rfl
@[simp] theorem State.inc_dram (f : Fld) : (s.inc f).dram = s.dram := by rfl
@[simp] theorem State.inc_sram (f : Fld) : (s.inc f).sram = s.sram := by rfl
@[simp] theorem State.inc_bus (f : Fld) : (s.inc f).bus = s.bus := by rfl
@[simp] theorem State.inc_drawn (f : Fld) : (s.inc f).drawn = s.drawn := by rfl
@[simp] theorem State.inc_mireIrq (f : Fld) : (s.inc f).mireIrq = s.mireIrq := by rfl
@[simp] theorem State.inc_fenIrq (f : Fld) : (s.inc f).fenIrq = s.fenIrq := by rfl
@[simp] theorem State.inc_seqs (f : Fld) : (s.inc f).seqs = s.seqs := by rfl
@[simp] theorem State.inc_chans (f : Fld) : (s.inc f).chans = s.chans := by rfl
@[simp] theorem State.inc_shockQuiet (f : Fld) : (s.inc f).shockQuiet = s.shockQuiet := by rfl
@[simp] theorem State.inc_stg (f : Fld) : (s.inc f).stg = s.stg := by rfl
@[simp] theorem State.inc_tide (f : Fld) : (s.inc f).tide = s.tide := by rfl
@[simp] theorem State.inc_lev (f : Fld) : (s.inc f).lev = s.lev := by rfl
@[simp] theorem State.inc_peat (f : Fld) : (s.inc f).peat = s.peat := by rfl
@[simp] theorem State.inc_weir (f : Fld) : (s.inc f).weir = s.weir := by rfl
@[simp] theorem State.inc_mireRuns (f : Fld) : (s.inc f).mireRuns = s.mireRuns := by rfl
@[simp] theorem State.inc_warmBusy (f : Fld) : (s.inc f).warmBusy = s.warmBusy := by rfl
@[simp] theorem State.inc_withy (f : Fld) : (s.inc f).withy = s.withy := by rfl
@[simp] theorem State.inc_tus (f : Fld) : (s.inc f).tus = s.tus := by rfl
@[simp] theorem State.inc_links (f : Fld) : (s.inc f).links = s.links := by rfl
@[simp] theorem State.inc_slu (f : Fld) : (s.inc f).slu = s.slu := by rfl
@[simp] theorem State.inc_sth (f : Fld) : (s.inc f).sth = s.sth := by rfl
@[simp] theorem State.inc_dma (f : Fld) : (s.inc f).dma = s.dma := by rfl
@[simp] theorem State.inc_carr (f : Fld) : (s.inc f).carr = s.carr := by rfl
@[simp] theorem State.inc_mq (f : Fld) : (s.inc f).mq = s.mq := by rfl
@[simp] theorem State.inc_aq (f : Fld) : (s.inc f).aq = s.aq := by rfl
@[simp] theorem State.inc_dyke (f : Fld) : (s.inc f).dyke = s.dyke := by rfl
@[simp] theorem State.inc_byteAt (f : Fld) (i : Nat) : (s.inc f).byteAt i = s.byteAt i := by rfl

@[simp] theorem State.incSat_pending (f : Fld) (k : Nat) : (s.incSat f k).pending = s.pending := by rfl
@[simp] theorem State.incSat_dram (f : Fld) (k : Nat) : (s.incSat f k).dram = s.dram := by rfl
@[simp] theorem State.incSat_sram (f : Fld) (k : Nat) : (s.incSat f k).sram = s.sram := by rfl
@[simp] theorem State.incSat_bus (f : Fld) (k : Nat) : (s.incSat f k).bus = s.bus := by rfl
@[simp] theorem State.incSat_drawn (f : Fld) (k : Nat) : (s.incSat f k).drawn = s.drawn := by rfl
@[simp] theorem State.incSat_mireIrq (f : Fld) (k : Nat) : (s.incSat f k).mireIrq = s.mireIrq := by rfl
@[simp] theorem State.incSat_fenIrq (f : Fld) (k : Nat) : (s.incSat f k).fenIrq = s.fenIrq := by rfl
@[simp] theorem State.incSat_seqs (f : Fld) (k : Nat) : (s.incSat f k).seqs = s.seqs := by rfl
@[simp] theorem State.incSat_chans (f : Fld) (k : Nat) : (s.incSat f k).chans = s.chans := by rfl
@[simp] theorem State.incSat_shockQuiet (f : Fld) (k : Nat) : (s.incSat f k).shockQuiet = s.shockQuiet := by rfl
@[simp] theorem State.incSat_stg (f : Fld) (k : Nat) : (s.incSat f k).stg = s.stg := by rfl
@[simp] theorem State.incSat_tide (f : Fld) (k : Nat) : (s.incSat f k).tide = s.tide := by rfl
@[simp] theorem State.incSat_lev (f : Fld) (k : Nat) : (s.incSat f k).lev = s.lev := by rfl
@[simp] theorem State.incSat_peat (f : Fld) (k : Nat) : (s.incSat f k).peat = s.peat := by rfl
@[simp] theorem State.incSat_weir (f : Fld) (k : Nat) : (s.incSat f k).weir = s.weir := by rfl
@[simp] theorem State.incSat_mireRuns (f : Fld) (k : Nat) : (s.incSat f k).mireRuns = s.mireRuns := by rfl
@[simp] theorem State.incSat_warmBusy (f : Fld) (k : Nat) : (s.incSat f k).warmBusy = s.warmBusy := by rfl
@[simp] theorem State.incSat_withy (f : Fld) (k : Nat) : (s.incSat f k).withy = s.withy := by rfl
@[simp] theorem State.incSat_tus (f : Fld) (k : Nat) : (s.incSat f k).tus = s.tus := by rfl
@[simp] theorem State.incSat_links (f : Fld) (k : Nat) : (s.incSat f k).links = s.links := by rfl
@[simp] theorem State.incSat_slu (f : Fld) (k : Nat) : (s.incSat f k).slu = s.slu := by rfl
@[simp] theorem State.incSat_sth (f : Fld) (k : Nat) : (s.incSat f k).sth = s.sth := by rfl
@[simp] theorem State.incSat_dma (f : Fld) (k : Nat) : (s.incSat f k).dma = s.dma := by rfl
@[simp] theorem State.incSat_carr (f : Fld) (k : Nat) : (s.incSat f k).carr = s.carr := by rfl
@[simp] theorem State.incSat_mq (f : Fld) (k : Nat) : (s.incSat f k).mq = s.mq := by rfl
@[simp] theorem State.incSat_aq (f : Fld) (k : Nat) : (s.incSat f k).aq = s.aq := by rfl
@[simp] theorem State.incSat_dyke (f : Fld) (k : Nat) : (s.incSat f k).dyke = s.dyke := by rfl
@[simp] theorem State.incSat_byteAt (f : Fld) (k : Nat) (i : Nat) : (s.incSat f k).byteAt i = s.byteAt i := by rfl

@[simp] theorem State.setS_pending (f : Fld) (v : Int) : (s.setS f v).pending = s.pending := by rfl
@[simp] theorem State.setS_dram (f : Fld) (v : Int) : (s.setS f v).dram = s.dram := by rfl
@[simp] theorem State.setS_sram (f : Fld) (v : Int) : (s.setS f v).sram = s.sram := by rfl
@[simp] theorem State.setS_bus (f : Fld) (v : Int) : (s.setS f v).bus = s.bus := by rfl
@[simp] theorem State.setS_drawn (f : Fld) (v : Int) : (s.setS f v).drawn = s.drawn := by rfl
@[simp] theorem State.setS_mireIrq (f : Fld) (v : Int) : (s.setS f v).mireIrq = s.mireIrq := by rfl
@[simp] theorem State.setS_fenIrq (f : Fld) (v : Int) : (s.setS f v).fenIrq = s.fenIrq := by rfl
@[simp] theorem State.setS_seqs (f : Fld) (v : Int) : (s.setS f v).seqs = s.seqs := by rfl
@[simp] theorem State.setS_chans (f : Fld) (v : Int) : (s.setS f v).chans = s.chans := by rfl
@[simp] theorem State.setS_shockQuiet (f : Fld) (v : Int) : (s.setS f v).shockQuiet = s.shockQuiet := by rfl
@[simp] theorem State.setS_stg (f : Fld) (v : Int) : (s.setS f v).stg = s.stg := by rfl
@[simp] theorem State.setS_tide (f : Fld) (v : Int) : (s.setS f v).tide = s.tide := by rfl
@[simp] theorem State.setS_lev (f : Fld) (v : Int) : (s.setS f v).lev = s.lev := by rfl
@[simp] theorem State.setS_peat (f : Fld) (v : Int) : (s.setS f v).peat = s.peat := by rfl
@[simp] theorem State.setS_weir (f : Fld) (v : Int) : (s.setS f v).weir = s.weir := by rfl
@[simp] theorem State.setS_mireRuns (f : Fld) (v : Int) : (s.setS f v).mireRuns = s.mireRuns := by rfl
@[simp] theorem State.setS_warmBusy (f : Fld) (v : Int) : (s.setS f v).warmBusy = s.warmBusy := by rfl
@[simp] theorem State.setS_withy (f : Fld) (v : Int) : (s.setS f v).withy = s.withy := by rfl
@[simp] theorem State.setS_tus (f : Fld) (v : Int) : (s.setS f v).tus = s.tus := by rfl
@[simp] theorem State.setS_links (f : Fld) (v : Int) : (s.setS f v).links = s.links := by rfl
@[simp] theorem State.setS_slu (f : Fld) (v : Int) : (s.setS f v).slu = s.slu := by rfl
@[simp] theorem State.setS_sth (f : Fld) (v : Int) : (s.setS f v).sth = s.sth := by rfl
@[simp] theorem State.setS_dma (f : Fld) (v : Int) : (s.setS f v).dma = s.dma := by rfl
@[simp] theorem State.setS_carr (f : Fld) (v : Int) : (s.setS f v).carr = s.carr := by rfl
@[simp] theorem State.setS_mq (f : Fld) (v : Int) : (s.setS f v).mq = s.mq := by rfl
@[simp] theorem State.setS_aq (f : Fld) (v : Int) : (s.setS f v).aq = s.aq := by rfl
@[simp] theorem State.setS_dyke (f : Fld) (v : Int) : (s.setS f v).dyke = s.dyke := by rfl
@[simp] theorem State.setS_byteAt (f : Fld) (v : Int) (i : Nat) : (s.setS f v).byteAt i = s.byteAt i := by rfl

@[simp] theorem State.atMang_pending (m : Word) : (s.atMang m).pending = s.pending := by rfl
@[simp] theorem State.atMang_dram (m : Word) : (s.atMang m).dram = s.dram := by rfl
@[simp] theorem State.atMang_sram (m : Word) : (s.atMang m).sram = s.sram := by rfl
@[simp] theorem State.atMang_bus (m : Word) : (s.atMang m).bus = s.bus := by rfl
@[simp] theorem State.atMang_drawn (m : Word) : (s.atMang m).drawn = s.drawn := by rfl
@[simp] theorem State.atMang_mireIrq (m : Word) : (s.atMang m).mireIrq = s.mireIrq := by rfl
@[simp] theorem State.atMang_fenIrq (m : Word) : (s.atMang m).fenIrq = s.fenIrq := by rfl
@[simp] theorem State.atMang_seqs (m : Word) : (s.atMang m).seqs = s.seqs := by rfl
@[simp] theorem State.atMang_chans (m : Word) : (s.atMang m).chans = s.chans := by rfl
@[simp] theorem State.atMang_shockQuiet (m : Word) : (s.atMang m).shockQuiet = s.shockQuiet := by rfl
@[simp] theorem State.atMang_stg (m : Word) : (s.atMang m).stg = s.stg := by rfl
@[simp] theorem State.atMang_tide (m : Word) : (s.atMang m).tide = s.tide := by rfl
@[simp] theorem State.atMang_lev (m : Word) : (s.atMang m).lev = s.lev := by rfl
@[simp] theorem State.atMang_peat (m : Word) : (s.atMang m).peat = s.peat := by rfl
@[simp] theorem State.atMang_weir (m : Word) : (s.atMang m).weir = s.weir := by rfl
@[simp] theorem State.atMang_mireRuns (m : Word) : (s.atMang m).mireRuns = s.mireRuns := by rfl
@[simp] theorem State.atMang_warmBusy (m : Word) : (s.atMang m).warmBusy = s.warmBusy := by rfl
@[simp] theorem State.atMang_withy (m : Word) : (s.atMang m).withy = s.withy := by rfl
@[simp] theorem State.atMang_tus (m : Word) : (s.atMang m).tus = s.tus := by rfl
@[simp] theorem State.atMang_links (m : Word) : (s.atMang m).links = s.links := by rfl
@[simp] theorem State.atMang_slu (m : Word) : (s.atMang m).slu = s.slu := by rfl
@[simp] theorem State.atMang_sth (m : Word) : (s.atMang m).sth = s.sth := by rfl
@[simp] theorem State.atMang_dma (m : Word) : (s.atMang m).dma = s.dma := by rfl
@[simp] theorem State.atMang_carr (m : Word) : (s.atMang m).carr = s.carr := by rfl
@[simp] theorem State.atMang_mq (m : Word) : (s.atMang m).mq = s.mq := by rfl
@[simp] theorem State.atMang_aq (m : Word) : (s.atMang m).aq = s.aq := by rfl
@[simp] theorem State.atMang_dyke (m : Word) : (s.atMang m).dyke = s.dyke := by rfl
@[simp] theorem State.atMang_byteAt (m : Word) (i : Nat) : (s.atMang m).byteAt i = s.byteAt i := by rfl

@[simp] theorem State.answer_pending (v : Nat) : (s.answer v).pending = s.pending := by rfl
@[simp] theorem State.answer_regs (v : Nat) : (s.answer v).regs = s.regs := by rfl
@[simp] theorem State.answer_dram (v : Nat) : (s.answer v).dram = s.dram := by rfl
@[simp] theorem State.answer_sram (v : Nat) : (s.answer v).sram = s.sram := by rfl
@[simp] theorem State.answer_bus (v : Nat) : (s.answer v).bus = .value v := by rfl
@[simp] theorem State.answer_drawn (v : Nat) : (s.answer v).drawn = s.drawn := by rfl
@[simp] theorem State.answer_mireIrq (v : Nat) : (s.answer v).mireIrq = s.mireIrq := by rfl
@[simp] theorem State.answer_fenIrq (v : Nat) : (s.answer v).fenIrq = s.fenIrq := by rfl
@[simp] theorem State.answer_seqs (v : Nat) : (s.answer v).seqs = s.seqs := by rfl
@[simp] theorem State.answer_chans (v : Nat) : (s.answer v).chans = s.chans := by rfl
@[simp] theorem State.answer_shockQuiet (v : Nat) : (s.answer v).shockQuiet = s.shockQuiet := by rfl
@[simp] theorem State.answer_stg (v : Nat) : (s.answer v).stg = s.stg := by rfl
@[simp] theorem State.answer_tide (v : Nat) : (s.answer v).tide = s.tide := by rfl
@[simp] theorem State.answer_lev (v : Nat) : (s.answer v).lev = s.lev := by rfl
@[simp] theorem State.answer_peat (v : Nat) : (s.answer v).peat = s.peat := by rfl
@[simp] theorem State.answer_weir (v : Nat) : (s.answer v).weir = s.weir := by rfl
@[simp] theorem State.answer_mireRuns (v : Nat) : (s.answer v).mireRuns = s.mireRuns := by rfl
@[simp] theorem State.answer_warmBusy (v : Nat) : (s.answer v).warmBusy = s.warmBusy := by rfl
@[simp] theorem State.answer_withy (v : Nat) : (s.answer v).withy = s.withy := by rfl
@[simp] theorem State.answer_tus (v : Nat) : (s.answer v).tus = s.tus := by rfl
@[simp] theorem State.answer_links (v : Nat) : (s.answer v).links = s.links := by rfl
@[simp] theorem State.answer_slu (v : Nat) : (s.answer v).slu = s.slu := by rfl
@[simp] theorem State.answer_sth (v : Nat) : (s.answer v).sth = s.sth := by rfl
@[simp] theorem State.answer_dma (v : Nat) : (s.answer v).dma = s.dma := by rfl
@[simp] theorem State.answer_carr (v : Nat) : (s.answer v).carr = s.carr := by rfl
@[simp] theorem State.answer_mq (v : Nat) : (s.answer v).mq = s.mq := by rfl
@[simp] theorem State.answer_aq (v : Nat) : (s.answer v).aq = s.aq := by rfl
@[simp] theorem State.answer_dyke (v : Nat) : (s.answer v).dyke = s.dyke := by rfl
@[simp] theorem State.answer_get (v : Nat) (g : Fld) : (s.answer v).get g = s.get g := by rfl
@[simp] theorem State.answer_regAt (v : Nat) (i : Nat) : (s.answer v).regAt i = s.regAt i := by rfl
@[simp] theorem State.answer_byteAt (v : Nat) (i : Nat) : (s.answer v).byteAt i = s.byteAt i := by rfl

@[simp] theorem State.ack_pending  : (s.ack).pending = s.pending := by rfl
@[simp] theorem State.ack_regs  : (s.ack).regs = s.regs := by rfl
@[simp] theorem State.ack_dram  : (s.ack).dram = s.dram := by rfl
@[simp] theorem State.ack_sram  : (s.ack).sram = s.sram := by rfl
@[simp] theorem State.ack_bus  : (s.ack).bus = .done := by rfl
@[simp] theorem State.ack_drawn  : (s.ack).drawn = s.drawn := by rfl
@[simp] theorem State.ack_mireIrq  : (s.ack).mireIrq = s.mireIrq := by rfl
@[simp] theorem State.ack_fenIrq  : (s.ack).fenIrq = s.fenIrq := by rfl
@[simp] theorem State.ack_seqs  : (s.ack).seqs = s.seqs := by rfl
@[simp] theorem State.ack_chans  : (s.ack).chans = s.chans := by rfl
@[simp] theorem State.ack_shockQuiet  : (s.ack).shockQuiet = s.shockQuiet := by rfl
@[simp] theorem State.ack_stg  : (s.ack).stg = s.stg := by rfl
@[simp] theorem State.ack_tide  : (s.ack).tide = s.tide := by rfl
@[simp] theorem State.ack_lev  : (s.ack).lev = s.lev := by rfl
@[simp] theorem State.ack_peat  : (s.ack).peat = s.peat := by rfl
@[simp] theorem State.ack_weir  : (s.ack).weir = s.weir := by rfl
@[simp] theorem State.ack_mireRuns  : (s.ack).mireRuns = s.mireRuns := by rfl
@[simp] theorem State.ack_warmBusy  : (s.ack).warmBusy = s.warmBusy := by rfl
@[simp] theorem State.ack_withy  : (s.ack).withy = s.withy := by rfl
@[simp] theorem State.ack_tus  : (s.ack).tus = s.tus := by rfl
@[simp] theorem State.ack_links  : (s.ack).links = s.links := by rfl
@[simp] theorem State.ack_slu  : (s.ack).slu = s.slu := by rfl
@[simp] theorem State.ack_sth  : (s.ack).sth = s.sth := by rfl
@[simp] theorem State.ack_dma  : (s.ack).dma = s.dma := by rfl
@[simp] theorem State.ack_carr  : (s.ack).carr = s.carr := by rfl
@[simp] theorem State.ack_mq  : (s.ack).mq = s.mq := by rfl
@[simp] theorem State.ack_aq  : (s.ack).aq = s.aq := by rfl
@[simp] theorem State.ack_dyke  : (s.ack).dyke = s.dyke := by rfl
@[simp] theorem State.ack_get  (g : Fld) : (s.ack).get g = s.get g := by rfl
@[simp] theorem State.ack_regAt  (i : Nat) : (s.ack).regAt i = s.regAt i := by rfl
@[simp] theorem State.ack_byteAt  (i : Nat) : (s.ack).byteAt i = s.byteAt i := by rfl

@[simp] theorem State.busErr_pending  : (s.busErr).pending = s.pending := by rfl
@[simp] theorem State.busErr_regs  : (s.busErr).regs = s.regs := by rfl
@[simp] theorem State.busErr_dram  : (s.busErr).dram = s.dram := by rfl
@[simp] theorem State.busErr_sram  : (s.busErr).sram = s.sram := by rfl
@[simp] theorem State.busErr_bus  : (s.busErr).bus = .busError := by rfl
@[simp] theorem State.busErr_drawn  : (s.busErr).drawn = s.drawn := by rfl
@[simp] theorem State.busErr_mireIrq  : (s.busErr).mireIrq = s.mireIrq := by rfl
@[simp] theorem State.busErr_fenIrq  : (s.busErr).fenIrq = s.fenIrq := by rfl
@[simp] theorem State.busErr_seqs  : (s.busErr).seqs = s.seqs := by rfl
@[simp] theorem State.busErr_chans  : (s.busErr).chans = s.chans := by rfl
@[simp] theorem State.busErr_shockQuiet  : (s.busErr).shockQuiet = s.shockQuiet := by rfl
@[simp] theorem State.busErr_stg  : (s.busErr).stg = s.stg := by rfl
@[simp] theorem State.busErr_tide  : (s.busErr).tide = s.tide := by rfl
@[simp] theorem State.busErr_lev  : (s.busErr).lev = s.lev := by rfl
@[simp] theorem State.busErr_peat  : (s.busErr).peat = s.peat := by rfl
@[simp] theorem State.busErr_weir  : (s.busErr).weir = s.weir := by rfl
@[simp] theorem State.busErr_mireRuns  : (s.busErr).mireRuns = s.mireRuns := by rfl
@[simp] theorem State.busErr_warmBusy  : (s.busErr).warmBusy = s.warmBusy := by rfl
@[simp] theorem State.busErr_withy  : (s.busErr).withy = s.withy := by rfl
@[simp] theorem State.busErr_tus  : (s.busErr).tus = s.tus := by rfl
@[simp] theorem State.busErr_links  : (s.busErr).links = s.links := by rfl
@[simp] theorem State.busErr_slu  : (s.busErr).slu = s.slu := by rfl
@[simp] theorem State.busErr_sth  : (s.busErr).sth = s.sth := by rfl
@[simp] theorem State.busErr_dma  : (s.busErr).dma = s.dma := by rfl
@[simp] theorem State.busErr_carr  : (s.busErr).carr = s.carr := by rfl
@[simp] theorem State.busErr_mq  : (s.busErr).mq = s.mq := by rfl
@[simp] theorem State.busErr_aq  : (s.busErr).aq = s.aq := by rfl
@[simp] theorem State.busErr_dyke  : (s.busErr).dyke = s.dyke := by rfl
@[simp] theorem State.busErr_get  (g : Fld) : (s.busErr).get g = s.get g := by rfl
@[simp] theorem State.busErr_regAt  (i : Nat) : (s.busErr).regAt i = s.regAt i := by rfl
@[simp] theorem State.busErr_byteAt  (i : Nat) : (s.busErr).byteAt i = s.byteAt i := by rfl

@[simp] theorem State.putByte_pending (a : Nat) (b : Byte) : (s.putByte a b).pending = s.pending := by rfl
@[simp] theorem State.putByte_regs (a : Nat) (b : Byte) : (s.putByte a b).regs = s.regs := by rfl
@[simp] theorem State.putByte_sram (a : Nat) (b : Byte) : (s.putByte a b).sram = s.sram := by rfl
@[simp] theorem State.putByte_bus (a : Nat) (b : Byte) : (s.putByte a b).bus = s.bus := by rfl
@[simp] theorem State.putByte_drawn (a : Nat) (b : Byte) : (s.putByte a b).drawn = s.drawn := by rfl
@[simp] theorem State.putByte_mireIrq (a : Nat) (b : Byte) : (s.putByte a b).mireIrq = s.mireIrq := by rfl
@[simp] theorem State.putByte_fenIrq (a : Nat) (b : Byte) : (s.putByte a b).fenIrq = s.fenIrq := by rfl
@[simp] theorem State.putByte_seqs (a : Nat) (b : Byte) : (s.putByte a b).seqs = s.seqs := by rfl
@[simp] theorem State.putByte_chans (a : Nat) (b : Byte) : (s.putByte a b).chans = s.chans := by rfl
@[simp] theorem State.putByte_shockQuiet (a : Nat) (b : Byte) : (s.putByte a b).shockQuiet = s.shockQuiet := by rfl
@[simp] theorem State.putByte_stg (a : Nat) (b : Byte) : (s.putByte a b).stg = s.stg := by rfl
@[simp] theorem State.putByte_tide (a : Nat) (b : Byte) : (s.putByte a b).tide = s.tide := by rfl
@[simp] theorem State.putByte_lev (a : Nat) (b : Byte) : (s.putByte a b).lev = s.lev := by rfl
@[simp] theorem State.putByte_peat (a : Nat) (b : Byte) : (s.putByte a b).peat = s.peat := by rfl
@[simp] theorem State.putByte_weir (a : Nat) (b : Byte) : (s.putByte a b).weir = s.weir := by rfl
@[simp] theorem State.putByte_mireRuns (a : Nat) (b : Byte) : (s.putByte a b).mireRuns = s.mireRuns := by rfl
@[simp] theorem State.putByte_warmBusy (a : Nat) (b : Byte) : (s.putByte a b).warmBusy = s.warmBusy := by rfl
@[simp] theorem State.putByte_withy (a : Nat) (b : Byte) : (s.putByte a b).withy = s.withy := by rfl
@[simp] theorem State.putByte_tus (a : Nat) (b : Byte) : (s.putByte a b).tus = s.tus := by rfl
@[simp] theorem State.putByte_links (a : Nat) (b : Byte) : (s.putByte a b).links = s.links := by rfl
@[simp] theorem State.putByte_slu (a : Nat) (b : Byte) : (s.putByte a b).slu = s.slu := by rfl
@[simp] theorem State.putByte_sth (a : Nat) (b : Byte) : (s.putByte a b).sth = s.sth := by rfl
@[simp] theorem State.putByte_dma (a : Nat) (b : Byte) : (s.putByte a b).dma = s.dma := by rfl
@[simp] theorem State.putByte_carr (a : Nat) (b : Byte) : (s.putByte a b).carr = s.carr := by rfl
@[simp] theorem State.putByte_mq (a : Nat) (b : Byte) : (s.putByte a b).mq = s.mq := by rfl
@[simp] theorem State.putByte_aq (a : Nat) (b : Byte) : (s.putByte a b).aq = s.aq := by rfl
@[simp] theorem State.putByte_dyke (a : Nat) (b : Byte) : (s.putByte a b).dyke = s.dyke := by rfl
@[simp] theorem State.putByte_get (a : Nat) (b : Byte) (g : Fld) : (s.putByte a b).get g = s.get g := by rfl
@[simp] theorem State.putByte_regAt (a : Nat) (b : Byte) (i : Nat) : (s.putByte a b).regAt i = s.regAt i := by rfl

@[simp] theorem State.served_pending (x : MireIrq) : (s.served x).pending = s.pending := by rfl
@[simp] theorem State.served_regs (x : MireIrq) : (s.served x).regs = s.regs := by rfl
@[simp] theorem State.served_dram (x : MireIrq) : (s.served x).dram = s.dram := by rfl
@[simp] theorem State.served_sram (x : MireIrq) : (s.served x).sram = s.sram := by rfl
@[simp] theorem State.served_bus (x : MireIrq) : (s.served x).bus = s.bus := by rfl
@[simp] theorem State.served_drawn (x : MireIrq) : (s.served x).drawn = s.drawn := by rfl
@[simp] theorem State.served_mireIrq (x : MireIrq) : (s.served x).mireIrq = s.mireIrq.filter (· ≠ x) := by rfl
@[simp] theorem State.served_fenIrq (x : MireIrq) : (s.served x).fenIrq = s.fenIrq := by rfl
@[simp] theorem State.served_seqs (x : MireIrq) : (s.served x).seqs = s.seqs := by rfl
@[simp] theorem State.served_chans (x : MireIrq) : (s.served x).chans = s.chans := by rfl
@[simp] theorem State.served_shockQuiet (x : MireIrq) : (s.served x).shockQuiet = s.shockQuiet := by rfl
@[simp] theorem State.served_stg (x : MireIrq) : (s.served x).stg = s.stg := by rfl
@[simp] theorem State.served_tide (x : MireIrq) : (s.served x).tide = s.tide := by rfl
@[simp] theorem State.served_lev (x : MireIrq) : (s.served x).lev = s.lev := by rfl
@[simp] theorem State.served_peat (x : MireIrq) : (s.served x).peat = s.peat := by rfl
@[simp] theorem State.served_weir (x : MireIrq) : (s.served x).weir = s.weir := by rfl
@[simp] theorem State.served_mireRuns (x : MireIrq) : (s.served x).mireRuns = s.mireRuns := by rfl
@[simp] theorem State.served_warmBusy (x : MireIrq) : (s.served x).warmBusy = s.warmBusy := by rfl
@[simp] theorem State.served_withy (x : MireIrq) : (s.served x).withy = s.withy := by rfl
@[simp] theorem State.served_tus (x : MireIrq) : (s.served x).tus = s.tus := by rfl
@[simp] theorem State.served_links (x : MireIrq) : (s.served x).links = s.links := by rfl
@[simp] theorem State.served_slu (x : MireIrq) : (s.served x).slu = s.slu := by rfl
@[simp] theorem State.served_sth (x : MireIrq) : (s.served x).sth = s.sth := by rfl
@[simp] theorem State.served_dma (x : MireIrq) : (s.served x).dma = s.dma := by rfl
@[simp] theorem State.served_carr (x : MireIrq) : (s.served x).carr = s.carr := by rfl
@[simp] theorem State.served_mq (x : MireIrq) : (s.served x).mq = s.mq := by rfl
@[simp] theorem State.served_aq (x : MireIrq) : (s.served x).aq = s.aq := by rfl
@[simp] theorem State.served_dyke (x : MireIrq) : (s.served x).dyke = s.dyke := by rfl
@[simp] theorem State.served_get (x : MireIrq) (g : Fld) : (s.served x).get g = s.get g := by rfl
@[simp] theorem State.served_regAt (x : MireIrq) (i : Nat) : (s.served x).regAt i = s.regAt i := by rfl
@[simp] theorem State.served_byteAt (x : MireIrq) (i : Nat) : (s.served x).byteAt i = s.byteAt i := by rfl

@[simp] theorem State.updSeq_pending (n : Nat) (f : Seq → Seq) : (s.updSeq n f).pending = s.pending := by rfl
@[simp] theorem State.updSeq_regs (n : Nat) (f : Seq → Seq) : (s.updSeq n f).regs = s.regs := by rfl
@[simp] theorem State.updSeq_dram (n : Nat) (f : Seq → Seq) : (s.updSeq n f).dram = s.dram := by rfl
@[simp] theorem State.updSeq_sram (n : Nat) (f : Seq → Seq) : (s.updSeq n f).sram = s.sram := by rfl
@[simp] theorem State.updSeq_bus (n : Nat) (f : Seq → Seq) : (s.updSeq n f).bus = s.bus := by rfl
@[simp] theorem State.updSeq_drawn (n : Nat) (f : Seq → Seq) : (s.updSeq n f).drawn = s.drawn := by rfl
@[simp] theorem State.updSeq_mireIrq (n : Nat) (f : Seq → Seq) : (s.updSeq n f).mireIrq = s.mireIrq := by rfl
@[simp] theorem State.updSeq_fenIrq (n : Nat) (f : Seq → Seq) : (s.updSeq n f).fenIrq = s.fenIrq := by rfl
@[simp] theorem State.updSeq_seqs (n : Nat) (f : Seq → Seq) : (s.updSeq n f).seqs = s.seqs.upd n f := by rfl
@[simp] theorem State.updSeq_chans (n : Nat) (f : Seq → Seq) : (s.updSeq n f).chans = s.chans := by rfl
@[simp] theorem State.updSeq_shockQuiet (n : Nat) (f : Seq → Seq) : (s.updSeq n f).shockQuiet = s.shockQuiet := by rfl
@[simp] theorem State.updSeq_stg (n : Nat) (f : Seq → Seq) : (s.updSeq n f).stg = s.stg := by rfl
@[simp] theorem State.updSeq_tide (n : Nat) (f : Seq → Seq) : (s.updSeq n f).tide = s.tide := by rfl
@[simp] theorem State.updSeq_lev (n : Nat) (f : Seq → Seq) : (s.updSeq n f).lev = s.lev := by rfl
@[simp] theorem State.updSeq_peat (n : Nat) (f : Seq → Seq) : (s.updSeq n f).peat = s.peat := by rfl
@[simp] theorem State.updSeq_weir (n : Nat) (f : Seq → Seq) : (s.updSeq n f).weir = s.weir := by rfl
@[simp] theorem State.updSeq_mireRuns (n : Nat) (f : Seq → Seq) : (s.updSeq n f).mireRuns = s.mireRuns := by rfl
@[simp] theorem State.updSeq_warmBusy (n : Nat) (f : Seq → Seq) : (s.updSeq n f).warmBusy = s.warmBusy := by rfl
@[simp] theorem State.updSeq_withy (n : Nat) (f : Seq → Seq) : (s.updSeq n f).withy = s.withy := by rfl
@[simp] theorem State.updSeq_tus (n : Nat) (f : Seq → Seq) : (s.updSeq n f).tus = s.tus := by rfl
@[simp] theorem State.updSeq_links (n : Nat) (f : Seq → Seq) : (s.updSeq n f).links = s.links := by rfl
@[simp] theorem State.updSeq_slu (n : Nat) (f : Seq → Seq) : (s.updSeq n f).slu = s.slu := by rfl
@[simp] theorem State.updSeq_sth (n : Nat) (f : Seq → Seq) : (s.updSeq n f).sth = s.sth := by rfl
@[simp] theorem State.updSeq_dma (n : Nat) (f : Seq → Seq) : (s.updSeq n f).dma = s.dma := by rfl
@[simp] theorem State.updSeq_carr (n : Nat) (f : Seq → Seq) : (s.updSeq n f).carr = s.carr := by rfl
@[simp] theorem State.updSeq_mq (n : Nat) (f : Seq → Seq) : (s.updSeq n f).mq = s.mq := by rfl
@[simp] theorem State.updSeq_aq (n : Nat) (f : Seq → Seq) : (s.updSeq n f).aq = s.aq := by rfl
@[simp] theorem State.updSeq_dyke (n : Nat) (f : Seq → Seq) : (s.updSeq n f).dyke = s.dyke := by rfl
@[simp] theorem State.updSeq_get (n : Nat) (f : Seq → Seq) (g : Fld) : (s.updSeq n f).get g = s.get g := by rfl
@[simp] theorem State.updSeq_regAt (n : Nat) (f : Seq → Seq) (i : Nat) : (s.updSeq n f).regAt i = s.regAt i := by rfl
@[simp] theorem State.updSeq_byteAt (n : Nat) (f : Seq → Seq) (i : Nat) : (s.updSeq n f).byteAt i = s.byteAt i := by rfl

@[simp] theorem State.updChan_pending (n : Nat) (f : Channel → Channel) : (s.updChan n f).pending = s.pending := by rfl
@[simp] theorem State.updChan_regs (n : Nat) (f : Channel → Channel) : (s.updChan n f).regs = s.regs := by rfl
@[simp] theorem State.updChan_dram (n : Nat) (f : Channel → Channel) : (s.updChan n f).dram = s.dram := by rfl
@[simp] theorem State.updChan_sram (n : Nat) (f : Channel → Channel) : (s.updChan n f).sram = s.sram := by rfl
@[simp] theorem State.updChan_bus (n : Nat) (f : Channel → Channel) : (s.updChan n f).bus = s.bus := by rfl
@[simp] theorem State.updChan_drawn (n : Nat) (f : Channel → Channel) : (s.updChan n f).drawn = s.drawn := by rfl
@[simp] theorem State.updChan_mireIrq (n : Nat) (f : Channel → Channel) : (s.updChan n f).mireIrq = s.mireIrq := by rfl
@[simp] theorem State.updChan_fenIrq (n : Nat) (f : Channel → Channel) : (s.updChan n f).fenIrq = s.fenIrq := by rfl
@[simp] theorem State.updChan_seqs (n : Nat) (f : Channel → Channel) : (s.updChan n f).seqs = s.seqs := by rfl
@[simp] theorem State.updChan_chans (n : Nat) (f : Channel → Channel) : (s.updChan n f).chans = s.chans.upd n f := by rfl
@[simp] theorem State.updChan_shockQuiet (n : Nat) (f : Channel → Channel) : (s.updChan n f).shockQuiet = s.shockQuiet := by rfl
@[simp] theorem State.updChan_stg (n : Nat) (f : Channel → Channel) : (s.updChan n f).stg = s.stg := by rfl
@[simp] theorem State.updChan_tide (n : Nat) (f : Channel → Channel) : (s.updChan n f).tide = s.tide := by rfl
@[simp] theorem State.updChan_lev (n : Nat) (f : Channel → Channel) : (s.updChan n f).lev = s.lev := by rfl
@[simp] theorem State.updChan_peat (n : Nat) (f : Channel → Channel) : (s.updChan n f).peat = s.peat := by rfl
@[simp] theorem State.updChan_weir (n : Nat) (f : Channel → Channel) : (s.updChan n f).weir = s.weir := by rfl
@[simp] theorem State.updChan_mireRuns (n : Nat) (f : Channel → Channel) : (s.updChan n f).mireRuns = s.mireRuns := by rfl
@[simp] theorem State.updChan_warmBusy (n : Nat) (f : Channel → Channel) : (s.updChan n f).warmBusy = s.warmBusy := by rfl
@[simp] theorem State.updChan_withy (n : Nat) (f : Channel → Channel) : (s.updChan n f).withy = s.withy := by rfl
@[simp] theorem State.updChan_tus (n : Nat) (f : Channel → Channel) : (s.updChan n f).tus = s.tus := by rfl
@[simp] theorem State.updChan_links (n : Nat) (f : Channel → Channel) : (s.updChan n f).links = s.links := by rfl
@[simp] theorem State.updChan_slu (n : Nat) (f : Channel → Channel) : (s.updChan n f).slu = s.slu := by rfl
@[simp] theorem State.updChan_sth (n : Nat) (f : Channel → Channel) : (s.updChan n f).sth = s.sth := by rfl
@[simp] theorem State.updChan_dma (n : Nat) (f : Channel → Channel) : (s.updChan n f).dma = s.dma := by rfl
@[simp] theorem State.updChan_carr (n : Nat) (f : Channel → Channel) : (s.updChan n f).carr = s.carr := by rfl
@[simp] theorem State.updChan_mq (n : Nat) (f : Channel → Channel) : (s.updChan n f).mq = s.mq := by rfl
@[simp] theorem State.updChan_aq (n : Nat) (f : Channel → Channel) : (s.updChan n f).aq = s.aq := by rfl
@[simp] theorem State.updChan_dyke (n : Nat) (f : Channel → Channel) : (s.updChan n f).dyke = s.dyke := by rfl
@[simp] theorem State.updChan_get (n : Nat) (f : Channel → Channel) (g : Fld) : (s.updChan n f).get g = s.get g := by rfl
@[simp] theorem State.updChan_regAt (n : Nat) (f : Channel → Channel) (i : Nat) : (s.updChan n f).regAt i = s.regAt i := by rfl
@[simp] theorem State.updChan_byteAt (n : Nat) (f : Channel → Channel) (i : Nat) : (s.updChan n f).byteAt i = s.byteAt i := by rfl

@[simp] theorem State.updStage_pending (n : Nat) (f : Staging → Staging) : (s.updStage n f).pending = s.pending := by rfl
@[simp] theorem State.updStage_regs (n : Nat) (f : Staging → Staging) : (s.updStage n f).regs = s.regs := by rfl
@[simp] theorem State.updStage_dram (n : Nat) (f : Staging → Staging) : (s.updStage n f).dram = s.dram := by rfl
@[simp] theorem State.updStage_sram (n : Nat) (f : Staging → Staging) : (s.updStage n f).sram = s.sram := by rfl
@[simp] theorem State.updStage_bus (n : Nat) (f : Staging → Staging) : (s.updStage n f).bus = s.bus := by rfl
@[simp] theorem State.updStage_drawn (n : Nat) (f : Staging → Staging) : (s.updStage n f).drawn = s.drawn := by rfl
@[simp] theorem State.updStage_mireIrq (n : Nat) (f : Staging → Staging) : (s.updStage n f).mireIrq = s.mireIrq := by rfl
@[simp] theorem State.updStage_fenIrq (n : Nat) (f : Staging → Staging) : (s.updStage n f).fenIrq = s.fenIrq := by rfl
@[simp] theorem State.updStage_seqs (n : Nat) (f : Staging → Staging) : (s.updStage n f).seqs = s.seqs := by rfl
@[simp] theorem State.updStage_chans (n : Nat) (f : Staging → Staging) : (s.updStage n f).chans = s.chans := by rfl
@[simp] theorem State.updStage_shockQuiet (n : Nat) (f : Staging → Staging) : (s.updStage n f).shockQuiet = s.shockQuiet := by rfl
@[simp] theorem State.updStage_stg (n : Nat) (f : Staging → Staging) : (s.updStage n f).stg = s.stg.upd n f := by rfl
@[simp] theorem State.updStage_tide (n : Nat) (f : Staging → Staging) : (s.updStage n f).tide = s.tide := by rfl
@[simp] theorem State.updStage_lev (n : Nat) (f : Staging → Staging) : (s.updStage n f).lev = s.lev := by rfl
@[simp] theorem State.updStage_peat (n : Nat) (f : Staging → Staging) : (s.updStage n f).peat = s.peat := by rfl
@[simp] theorem State.updStage_weir (n : Nat) (f : Staging → Staging) : (s.updStage n f).weir = s.weir := by rfl
@[simp] theorem State.updStage_mireRuns (n : Nat) (f : Staging → Staging) : (s.updStage n f).mireRuns = s.mireRuns := by rfl
@[simp] theorem State.updStage_warmBusy (n : Nat) (f : Staging → Staging) : (s.updStage n f).warmBusy = s.warmBusy := by rfl
@[simp] theorem State.updStage_withy (n : Nat) (f : Staging → Staging) : (s.updStage n f).withy = s.withy := by rfl
@[simp] theorem State.updStage_tus (n : Nat) (f : Staging → Staging) : (s.updStage n f).tus = s.tus := by rfl
@[simp] theorem State.updStage_links (n : Nat) (f : Staging → Staging) : (s.updStage n f).links = s.links := by rfl
@[simp] theorem State.updStage_slu (n : Nat) (f : Staging → Staging) : (s.updStage n f).slu = s.slu := by rfl
@[simp] theorem State.updStage_sth (n : Nat) (f : Staging → Staging) : (s.updStage n f).sth = s.sth := by rfl
@[simp] theorem State.updStage_dma (n : Nat) (f : Staging → Staging) : (s.updStage n f).dma = s.dma := by rfl
@[simp] theorem State.updStage_carr (n : Nat) (f : Staging → Staging) : (s.updStage n f).carr = s.carr := by rfl
@[simp] theorem State.updStage_mq (n : Nat) (f : Staging → Staging) : (s.updStage n f).mq = s.mq := by rfl
@[simp] theorem State.updStage_aq (n : Nat) (f : Staging → Staging) : (s.updStage n f).aq = s.aq := by rfl
@[simp] theorem State.updStage_dyke (n : Nat) (f : Staging → Staging) : (s.updStage n f).dyke = s.dyke := by rfl
@[simp] theorem State.updStage_get (n : Nat) (f : Staging → Staging) (g : Fld) : (s.updStage n f).get g = s.get g := by rfl
@[simp] theorem State.updStage_regAt (n : Nat) (f : Staging → Staging) (i : Nat) : (s.updStage n f).regAt i = s.regAt i := by rfl
@[simp] theorem State.updStage_byteAt (n : Nat) (f : Staging → Staging) (i : Nat) : (s.updStage n f).byteAt i = s.byteAt i := by rfl

@[simp] theorem State.updSec_pending (k : Nat) (f : Section → Section) : (s.updSec k f).pending = s.pending := by rfl
@[simp] theorem State.updSec_regs (k : Nat) (f : Section → Section) : (s.updSec k f).regs = s.regs := by rfl
@[simp] theorem State.updSec_dram (k : Nat) (f : Section → Section) : (s.updSec k f).dram = s.dram := by rfl
@[simp] theorem State.updSec_sram (k : Nat) (f : Section → Section) : (s.updSec k f).sram = s.sram := by rfl
@[simp] theorem State.updSec_bus (k : Nat) (f : Section → Section) : (s.updSec k f).bus = s.bus := by rfl
@[simp] theorem State.updSec_drawn (k : Nat) (f : Section → Section) : (s.updSec k f).drawn = s.drawn := by rfl
@[simp] theorem State.updSec_mireIrq (k : Nat) (f : Section → Section) : (s.updSec k f).mireIrq = s.mireIrq := by rfl
@[simp] theorem State.updSec_fenIrq (k : Nat) (f : Section → Section) : (s.updSec k f).fenIrq = s.fenIrq := by rfl
@[simp] theorem State.updSec_seqs (k : Nat) (f : Section → Section) : (s.updSec k f).seqs = s.seqs := by rfl
@[simp] theorem State.updSec_chans (k : Nat) (f : Section → Section) : (s.updSec k f).chans = s.chans := by rfl
@[simp] theorem State.updSec_shockQuiet (k : Nat) (f : Section → Section) : (s.updSec k f).shockQuiet = s.shockQuiet := by rfl
@[simp] theorem State.updSec_stg (k : Nat) (f : Section → Section) : (s.updSec k f).stg = s.stg := by rfl
@[simp] theorem State.updSec_tide (k : Nat) (f : Section → Section) : (s.updSec k f).tide = s.tide := by rfl
@[simp] theorem State.updSec_lev (k : Nat) (f : Section → Section) : (s.updSec k f).lev = s.lev := by rfl
@[simp] theorem State.updSec_peat (k : Nat) (f : Section → Section) : (s.updSec k f).peat = s.peat := by rfl
@[simp] theorem State.updSec_weir (k : Nat) (f : Section → Section) : (s.updSec k f).weir = s.weir := by rfl
@[simp] theorem State.updSec_mireRuns (k : Nat) (f : Section → Section) : (s.updSec k f).mireRuns = s.mireRuns := by rfl
@[simp] theorem State.updSec_warmBusy (k : Nat) (f : Section → Section) : (s.updSec k f).warmBusy = s.warmBusy := by rfl
@[simp] theorem State.updSec_withy (k : Nat) (f : Section → Section) : (s.updSec k f).withy = s.withy := by rfl
@[simp] theorem State.updSec_tus (k : Nat) (f : Section → Section) : (s.updSec k f).tus = { s.tus with secs := s.tus.secs.upd k f } := by rfl
@[simp] theorem State.updSec_links (k : Nat) (f : Section → Section) : (s.updSec k f).links = s.links := by rfl
@[simp] theorem State.updSec_slu (k : Nat) (f : Section → Section) : (s.updSec k f).slu = s.slu := by rfl
@[simp] theorem State.updSec_sth (k : Nat) (f : Section → Section) : (s.updSec k f).sth = s.sth := by rfl
@[simp] theorem State.updSec_dma (k : Nat) (f : Section → Section) : (s.updSec k f).dma = s.dma := by rfl
@[simp] theorem State.updSec_carr (k : Nat) (f : Section → Section) : (s.updSec k f).carr = s.carr := by rfl
@[simp] theorem State.updSec_mq (k : Nat) (f : Section → Section) : (s.updSec k f).mq = s.mq := by rfl
@[simp] theorem State.updSec_aq (k : Nat) (f : Section → Section) : (s.updSec k f).aq = s.aq := by rfl
@[simp] theorem State.updSec_dyke (k : Nat) (f : Section → Section) : (s.updSec k f).dyke = s.dyke := by rfl
@[simp] theorem State.updSec_get (k : Nat) (f : Section → Section) (g : Fld) : (s.updSec k f).get g = s.get g := by rfl
@[simp] theorem State.updSec_regAt (k : Nat) (f : Section → Section) (i : Nat) : (s.updSec k f).regAt i = s.regAt i := by rfl
@[simp] theorem State.updSec_byteAt (k : Nat) (f : Section → Section) (i : Nat) : (s.updSec k f).byteAt i = s.byteAt i := by rfl

@[simp] theorem State.updLane_pending (n : Nat) (f : Lane → Lane) : (s.updLane n f).pending = s.pending := by rfl
@[simp] theorem State.updLane_regs (n : Nat) (f : Lane → Lane) : (s.updLane n f).regs = s.regs := by rfl
@[simp] theorem State.updLane_dram (n : Nat) (f : Lane → Lane) : (s.updLane n f).dram = s.dram := by rfl
@[simp] theorem State.updLane_sram (n : Nat) (f : Lane → Lane) : (s.updLane n f).sram = s.sram := by rfl
@[simp] theorem State.updLane_bus (n : Nat) (f : Lane → Lane) : (s.updLane n f).bus = s.bus := by rfl
@[simp] theorem State.updLane_drawn (n : Nat) (f : Lane → Lane) : (s.updLane n f).drawn = s.drawn := by rfl
@[simp] theorem State.updLane_mireIrq (n : Nat) (f : Lane → Lane) : (s.updLane n f).mireIrq = s.mireIrq := by rfl
@[simp] theorem State.updLane_fenIrq (n : Nat) (f : Lane → Lane) : (s.updLane n f).fenIrq = s.fenIrq := by rfl
@[simp] theorem State.updLane_seqs (n : Nat) (f : Lane → Lane) : (s.updLane n f).seqs = s.seqs := by rfl
@[simp] theorem State.updLane_chans (n : Nat) (f : Lane → Lane) : (s.updLane n f).chans = s.chans := by rfl
@[simp] theorem State.updLane_shockQuiet (n : Nat) (f : Lane → Lane) : (s.updLane n f).shockQuiet = s.shockQuiet := by rfl
@[simp] theorem State.updLane_stg (n : Nat) (f : Lane → Lane) : (s.updLane n f).stg = s.stg := by rfl
@[simp] theorem State.updLane_tide (n : Nat) (f : Lane → Lane) : (s.updLane n f).tide = s.tide := by rfl
@[simp] theorem State.updLane_lev (n : Nat) (f : Lane → Lane) : (s.updLane n f).lev = s.lev := by rfl
@[simp] theorem State.updLane_peat (n : Nat) (f : Lane → Lane) : (s.updLane n f).peat = s.peat := by rfl
@[simp] theorem State.updLane_weir (n : Nat) (f : Lane → Lane) : (s.updLane n f).weir = s.weir := by rfl
@[simp] theorem State.updLane_mireRuns (n : Nat) (f : Lane → Lane) : (s.updLane n f).mireRuns = s.mireRuns := by rfl
@[simp] theorem State.updLane_warmBusy (n : Nat) (f : Lane → Lane) : (s.updLane n f).warmBusy = s.warmBusy := by rfl
@[simp] theorem State.updLane_withy (n : Nat) (f : Lane → Lane) : (s.updLane n f).withy = s.withy := by rfl
@[simp] theorem State.updLane_tus (n : Nat) (f : Lane → Lane) : (s.updLane n f).tus = { s.tus with lanes := s.tus.lanes.upd n f } := by rfl
@[simp] theorem State.updLane_links (n : Nat) (f : Lane → Lane) : (s.updLane n f).links = s.links := by rfl
@[simp] theorem State.updLane_slu (n : Nat) (f : Lane → Lane) : (s.updLane n f).slu = s.slu := by rfl
@[simp] theorem State.updLane_sth (n : Nat) (f : Lane → Lane) : (s.updLane n f).sth = s.sth := by rfl
@[simp] theorem State.updLane_dma (n : Nat) (f : Lane → Lane) : (s.updLane n f).dma = s.dma := by rfl
@[simp] theorem State.updLane_carr (n : Nat) (f : Lane → Lane) : (s.updLane n f).carr = s.carr := by rfl
@[simp] theorem State.updLane_mq (n : Nat) (f : Lane → Lane) : (s.updLane n f).mq = s.mq := by rfl
@[simp] theorem State.updLane_aq (n : Nat) (f : Lane → Lane) : (s.updLane n f).aq = s.aq := by rfl
@[simp] theorem State.updLane_dyke (n : Nat) (f : Lane → Lane) : (s.updLane n f).dyke = s.dyke := by rfl
@[simp] theorem State.updLane_get (n : Nat) (f : Lane → Lane) (g : Fld) : (s.updLane n f).get g = s.get g := by rfl
@[simp] theorem State.updLane_regAt (n : Nat) (f : Lane → Lane) (i : Nat) : (s.updLane n f).regAt i = s.regAt i := by rfl
@[simp] theorem State.updLane_byteAt (n : Nat) (f : Lane → Lane) (i : Nat) : (s.updLane n f).byteAt i = s.byteAt i := by rfl

@[simp] theorem State.updLink_pending (l : Nat) (f : Link → Link) : (s.updLink l f).pending = s.pending := by rfl
@[simp] theorem State.updLink_regs (l : Nat) (f : Link → Link) : (s.updLink l f).regs = s.regs := by rfl
@[simp] theorem State.updLink_dram (l : Nat) (f : Link → Link) : (s.updLink l f).dram = s.dram := by rfl
@[simp] theorem State.updLink_sram (l : Nat) (f : Link → Link) : (s.updLink l f).sram = s.sram := by rfl
@[simp] theorem State.updLink_bus (l : Nat) (f : Link → Link) : (s.updLink l f).bus = s.bus := by rfl
@[simp] theorem State.updLink_drawn (l : Nat) (f : Link → Link) : (s.updLink l f).drawn = s.drawn := by rfl
@[simp] theorem State.updLink_mireIrq (l : Nat) (f : Link → Link) : (s.updLink l f).mireIrq = s.mireIrq := by rfl
@[simp] theorem State.updLink_fenIrq (l : Nat) (f : Link → Link) : (s.updLink l f).fenIrq = s.fenIrq := by rfl
@[simp] theorem State.updLink_seqs (l : Nat) (f : Link → Link) : (s.updLink l f).seqs = s.seqs := by rfl
@[simp] theorem State.updLink_chans (l : Nat) (f : Link → Link) : (s.updLink l f).chans = s.chans := by rfl
@[simp] theorem State.updLink_shockQuiet (l : Nat) (f : Link → Link) : (s.updLink l f).shockQuiet = s.shockQuiet := by rfl
@[simp] theorem State.updLink_stg (l : Nat) (f : Link → Link) : (s.updLink l f).stg = s.stg := by rfl
@[simp] theorem State.updLink_tide (l : Nat) (f : Link → Link) : (s.updLink l f).tide = s.tide := by rfl
@[simp] theorem State.updLink_lev (l : Nat) (f : Link → Link) : (s.updLink l f).lev = s.lev := by rfl
@[simp] theorem State.updLink_peat (l : Nat) (f : Link → Link) : (s.updLink l f).peat = s.peat := by rfl
@[simp] theorem State.updLink_weir (l : Nat) (f : Link → Link) : (s.updLink l f).weir = s.weir := by rfl
@[simp] theorem State.updLink_mireRuns (l : Nat) (f : Link → Link) : (s.updLink l f).mireRuns = s.mireRuns := by rfl
@[simp] theorem State.updLink_warmBusy (l : Nat) (f : Link → Link) : (s.updLink l f).warmBusy = s.warmBusy := by rfl
@[simp] theorem State.updLink_withy (l : Nat) (f : Link → Link) : (s.updLink l f).withy = s.withy := by rfl
@[simp] theorem State.updLink_tus (l : Nat) (f : Link → Link) : (s.updLink l f).tus = s.tus := by rfl
@[simp] theorem State.updLink_links (l : Nat) (f : Link → Link) : (s.updLink l f).links = s.links.upd l f := by rfl
@[simp] theorem State.updLink_slu (l : Nat) (f : Link → Link) : (s.updLink l f).slu = s.slu := by rfl
@[simp] theorem State.updLink_sth (l : Nat) (f : Link → Link) : (s.updLink l f).sth = s.sth := by rfl
@[simp] theorem State.updLink_dma (l : Nat) (f : Link → Link) : (s.updLink l f).dma = s.dma := by rfl
@[simp] theorem State.updLink_carr (l : Nat) (f : Link → Link) : (s.updLink l f).carr = s.carr := by rfl
@[simp] theorem State.updLink_mq (l : Nat) (f : Link → Link) : (s.updLink l f).mq = s.mq := by rfl
@[simp] theorem State.updLink_aq (l : Nat) (f : Link → Link) : (s.updLink l f).aq = s.aq := by rfl
@[simp] theorem State.updLink_dyke (l : Nat) (f : Link → Link) : (s.updLink l f).dyke = s.dyke := by rfl
@[simp] theorem State.updLink_get (l : Nat) (f : Link → Link) (g : Fld) : (s.updLink l f).get g = s.get g := by rfl
@[simp] theorem State.updLink_regAt (l : Nat) (f : Link → Link) (i : Nat) : (s.updLink l f).regAt i = s.regAt i := by rfl
@[simp] theorem State.updLink_byteAt (l : Nat) (f : Link → Link) (i : Nat) : (s.updLink l f).byteAt i = s.byteAt i := by rfl

@[simp] theorem State.updSlu_pending (f : Sluice → Sluice) : (s.updSlu f).pending = s.pending := by rfl
@[simp] theorem State.updSlu_regs (f : Sluice → Sluice) : (s.updSlu f).regs = s.regs := by rfl
@[simp] theorem State.updSlu_dram (f : Sluice → Sluice) : (s.updSlu f).dram = s.dram := by rfl
@[simp] theorem State.updSlu_sram (f : Sluice → Sluice) : (s.updSlu f).sram = s.sram := by rfl
@[simp] theorem State.updSlu_bus (f : Sluice → Sluice) : (s.updSlu f).bus = s.bus := by rfl
@[simp] theorem State.updSlu_drawn (f : Sluice → Sluice) : (s.updSlu f).drawn = s.drawn := by rfl
@[simp] theorem State.updSlu_mireIrq (f : Sluice → Sluice) : (s.updSlu f).mireIrq = s.mireIrq := by rfl
@[simp] theorem State.updSlu_fenIrq (f : Sluice → Sluice) : (s.updSlu f).fenIrq = s.fenIrq := by rfl
@[simp] theorem State.updSlu_seqs (f : Sluice → Sluice) : (s.updSlu f).seqs = s.seqs := by rfl
@[simp] theorem State.updSlu_chans (f : Sluice → Sluice) : (s.updSlu f).chans = s.chans := by rfl
@[simp] theorem State.updSlu_shockQuiet (f : Sluice → Sluice) : (s.updSlu f).shockQuiet = s.shockQuiet := by rfl
@[simp] theorem State.updSlu_stg (f : Sluice → Sluice) : (s.updSlu f).stg = s.stg := by rfl
@[simp] theorem State.updSlu_tide (f : Sluice → Sluice) : (s.updSlu f).tide = s.tide := by rfl
@[simp] theorem State.updSlu_lev (f : Sluice → Sluice) : (s.updSlu f).lev = s.lev := by rfl
@[simp] theorem State.updSlu_peat (f : Sluice → Sluice) : (s.updSlu f).peat = s.peat := by rfl
@[simp] theorem State.updSlu_weir (f : Sluice → Sluice) : (s.updSlu f).weir = s.weir := by rfl
@[simp] theorem State.updSlu_mireRuns (f : Sluice → Sluice) : (s.updSlu f).mireRuns = s.mireRuns := by rfl
@[simp] theorem State.updSlu_warmBusy (f : Sluice → Sluice) : (s.updSlu f).warmBusy = s.warmBusy := by rfl
@[simp] theorem State.updSlu_withy (f : Sluice → Sluice) : (s.updSlu f).withy = s.withy := by rfl
@[simp] theorem State.updSlu_tus (f : Sluice → Sluice) : (s.updSlu f).tus = s.tus := by rfl
@[simp] theorem State.updSlu_links (f : Sluice → Sluice) : (s.updSlu f).links = s.links := by rfl
@[simp] theorem State.updSlu_slu (f : Sluice → Sluice) : (s.updSlu f).slu = f s.slu := by rfl
@[simp] theorem State.updSlu_sth (f : Sluice → Sluice) : (s.updSlu f).sth = s.sth := by rfl
@[simp] theorem State.updSlu_dma (f : Sluice → Sluice) : (s.updSlu f).dma = s.dma := by rfl
@[simp] theorem State.updSlu_carr (f : Sluice → Sluice) : (s.updSlu f).carr = s.carr := by rfl
@[simp] theorem State.updSlu_mq (f : Sluice → Sluice) : (s.updSlu f).mq = s.mq := by rfl
@[simp] theorem State.updSlu_aq (f : Sluice → Sluice) : (s.updSlu f).aq = s.aq := by rfl
@[simp] theorem State.updSlu_dyke (f : Sluice → Sluice) : (s.updSlu f).dyke = s.dyke := by rfl
@[simp] theorem State.updSlu_get (f : Sluice → Sluice) (g : Fld) : (s.updSlu f).get g = s.get g := by rfl
@[simp] theorem State.updSlu_regAt (f : Sluice → Sluice) (i : Nat) : (s.updSlu f).regAt i = s.regAt i := by rfl
@[simp] theorem State.updSlu_byteAt (f : Sluice → Sluice) (i : Nat) : (s.updSlu f).byteAt i = s.byteAt i := by rfl

@[simp] theorem State.updSth_pending (f : Staithe → Staithe) : (s.updSth f).pending = s.pending := by rfl
@[simp] theorem State.updSth_regs (f : Staithe → Staithe) : (s.updSth f).regs = s.regs := by rfl
@[simp] theorem State.updSth_dram (f : Staithe → Staithe) : (s.updSth f).dram = s.dram := by rfl
@[simp] theorem State.updSth_sram (f : Staithe → Staithe) : (s.updSth f).sram = s.sram := by rfl
@[simp] theorem State.updSth_bus (f : Staithe → Staithe) : (s.updSth f).bus = s.bus := by rfl
@[simp] theorem State.updSth_drawn (f : Staithe → Staithe) : (s.updSth f).drawn = s.drawn := by rfl
@[simp] theorem State.updSth_mireIrq (f : Staithe → Staithe) : (s.updSth f).mireIrq = s.mireIrq := by rfl
@[simp] theorem State.updSth_fenIrq (f : Staithe → Staithe) : (s.updSth f).fenIrq = s.fenIrq := by rfl
@[simp] theorem State.updSth_seqs (f : Staithe → Staithe) : (s.updSth f).seqs = s.seqs := by rfl
@[simp] theorem State.updSth_chans (f : Staithe → Staithe) : (s.updSth f).chans = s.chans := by rfl
@[simp] theorem State.updSth_shockQuiet (f : Staithe → Staithe) : (s.updSth f).shockQuiet = s.shockQuiet := by rfl
@[simp] theorem State.updSth_stg (f : Staithe → Staithe) : (s.updSth f).stg = s.stg := by rfl
@[simp] theorem State.updSth_tide (f : Staithe → Staithe) : (s.updSth f).tide = s.tide := by rfl
@[simp] theorem State.updSth_lev (f : Staithe → Staithe) : (s.updSth f).lev = s.lev := by rfl
@[simp] theorem State.updSth_peat (f : Staithe → Staithe) : (s.updSth f).peat = s.peat := by rfl
@[simp] theorem State.updSth_weir (f : Staithe → Staithe) : (s.updSth f).weir = s.weir := by rfl
@[simp] theorem State.updSth_mireRuns (f : Staithe → Staithe) : (s.updSth f).mireRuns = s.mireRuns := by rfl
@[simp] theorem State.updSth_warmBusy (f : Staithe → Staithe) : (s.updSth f).warmBusy = s.warmBusy := by rfl
@[simp] theorem State.updSth_withy (f : Staithe → Staithe) : (s.updSth f).withy = s.withy := by rfl
@[simp] theorem State.updSth_tus (f : Staithe → Staithe) : (s.updSth f).tus = s.tus := by rfl
@[simp] theorem State.updSth_links (f : Staithe → Staithe) : (s.updSth f).links = s.links := by rfl
@[simp] theorem State.updSth_slu (f : Staithe → Staithe) : (s.updSth f).slu = s.slu := by rfl
@[simp] theorem State.updSth_sth (f : Staithe → Staithe) : (s.updSth f).sth = f s.sth := by rfl
@[simp] theorem State.updSth_dma (f : Staithe → Staithe) : (s.updSth f).dma = s.dma := by rfl
@[simp] theorem State.updSth_carr (f : Staithe → Staithe) : (s.updSth f).carr = s.carr := by rfl
@[simp] theorem State.updSth_mq (f : Staithe → Staithe) : (s.updSth f).mq = s.mq := by rfl
@[simp] theorem State.updSth_aq (f : Staithe → Staithe) : (s.updSth f).aq = s.aq := by rfl
@[simp] theorem State.updSth_dyke (f : Staithe → Staithe) : (s.updSth f).dyke = s.dyke := by rfl
@[simp] theorem State.updSth_get (f : Staithe → Staithe) (g : Fld) : (s.updSth f).get g = s.get g := by rfl
@[simp] theorem State.updSth_regAt (f : Staithe → Staithe) (i : Nat) : (s.updSth f).regAt i = s.regAt i := by rfl
@[simp] theorem State.updSth_byteAt (f : Staithe → Staithe) (i : Nat) : (s.updSth f).byteAt i = s.byteAt i := by rfl

@[simp] theorem State.updDma_pending (c : Nat) (f : DmaChannel → DmaChannel) : (s.updDma c f).pending = s.pending := by rfl
@[simp] theorem State.updDma_regs (c : Nat) (f : DmaChannel → DmaChannel) : (s.updDma c f).regs = s.regs := by rfl
@[simp] theorem State.updDma_dram (c : Nat) (f : DmaChannel → DmaChannel) : (s.updDma c f).dram = s.dram := by rfl
@[simp] theorem State.updDma_sram (c : Nat) (f : DmaChannel → DmaChannel) : (s.updDma c f).sram = s.sram := by rfl
@[simp] theorem State.updDma_bus (c : Nat) (f : DmaChannel → DmaChannel) : (s.updDma c f).bus = s.bus := by rfl
@[simp] theorem State.updDma_drawn (c : Nat) (f : DmaChannel → DmaChannel) : (s.updDma c f).drawn = s.drawn := by rfl
@[simp] theorem State.updDma_mireIrq (c : Nat) (f : DmaChannel → DmaChannel) : (s.updDma c f).mireIrq = s.mireIrq := by rfl
@[simp] theorem State.updDma_fenIrq (c : Nat) (f : DmaChannel → DmaChannel) : (s.updDma c f).fenIrq = s.fenIrq := by rfl
@[simp] theorem State.updDma_seqs (c : Nat) (f : DmaChannel → DmaChannel) : (s.updDma c f).seqs = s.seqs := by rfl
@[simp] theorem State.updDma_chans (c : Nat) (f : DmaChannel → DmaChannel) : (s.updDma c f).chans = s.chans := by rfl
@[simp] theorem State.updDma_shockQuiet (c : Nat) (f : DmaChannel → DmaChannel) : (s.updDma c f).shockQuiet = s.shockQuiet := by rfl
@[simp] theorem State.updDma_stg (c : Nat) (f : DmaChannel → DmaChannel) : (s.updDma c f).stg = s.stg := by rfl
@[simp] theorem State.updDma_tide (c : Nat) (f : DmaChannel → DmaChannel) : (s.updDma c f).tide = s.tide := by rfl
@[simp] theorem State.updDma_lev (c : Nat) (f : DmaChannel → DmaChannel) : (s.updDma c f).lev = s.lev := by rfl
@[simp] theorem State.updDma_peat (c : Nat) (f : DmaChannel → DmaChannel) : (s.updDma c f).peat = s.peat := by rfl
@[simp] theorem State.updDma_weir (c : Nat) (f : DmaChannel → DmaChannel) : (s.updDma c f).weir = s.weir := by rfl
@[simp] theorem State.updDma_mireRuns (c : Nat) (f : DmaChannel → DmaChannel) : (s.updDma c f).mireRuns = s.mireRuns := by rfl
@[simp] theorem State.updDma_warmBusy (c : Nat) (f : DmaChannel → DmaChannel) : (s.updDma c f).warmBusy = s.warmBusy := by rfl
@[simp] theorem State.updDma_withy (c : Nat) (f : DmaChannel → DmaChannel) : (s.updDma c f).withy = s.withy := by rfl
@[simp] theorem State.updDma_tus (c : Nat) (f : DmaChannel → DmaChannel) : (s.updDma c f).tus = s.tus := by rfl
@[simp] theorem State.updDma_links (c : Nat) (f : DmaChannel → DmaChannel) : (s.updDma c f).links = s.links := by rfl
@[simp] theorem State.updDma_slu (c : Nat) (f : DmaChannel → DmaChannel) : (s.updDma c f).slu = s.slu := by rfl
@[simp] theorem State.updDma_sth (c : Nat) (f : DmaChannel → DmaChannel) : (s.updDma c f).sth = s.sth := by rfl
@[simp] theorem State.updDma_dma (c : Nat) (f : DmaChannel → DmaChannel) : (s.updDma c f).dma = s.dma.upd c f := by rfl
@[simp] theorem State.updDma_carr (c : Nat) (f : DmaChannel → DmaChannel) : (s.updDma c f).carr = s.carr := by rfl
@[simp] theorem State.updDma_mq (c : Nat) (f : DmaChannel → DmaChannel) : (s.updDma c f).mq = s.mq := by rfl
@[simp] theorem State.updDma_aq (c : Nat) (f : DmaChannel → DmaChannel) : (s.updDma c f).aq = s.aq := by rfl
@[simp] theorem State.updDma_dyke (c : Nat) (f : DmaChannel → DmaChannel) : (s.updDma c f).dyke = s.dyke := by rfl
@[simp] theorem State.updDma_get (c : Nat) (f : DmaChannel → DmaChannel) (g : Fld) : (s.updDma c f).get g = s.get g := by rfl
@[simp] theorem State.updDma_regAt (c : Nat) (f : DmaChannel → DmaChannel) (i : Nat) : (s.updDma c f).regAt i = s.regAt i := by rfl
@[simp] theorem State.updDma_byteAt (c : Nat) (f : DmaChannel → DmaChannel) (i : Nat) : (s.updDma c f).byteAt i = s.byteAt i := by rfl

@[simp] theorem State.updCarr_pending (f : Carr → Carr) : (s.updCarr f).pending = s.pending := by rfl
@[simp] theorem State.updCarr_regs (f : Carr → Carr) : (s.updCarr f).regs = s.regs := by rfl
@[simp] theorem State.updCarr_dram (f : Carr → Carr) : (s.updCarr f).dram = s.dram := by rfl
@[simp] theorem State.updCarr_sram (f : Carr → Carr) : (s.updCarr f).sram = s.sram := by rfl
@[simp] theorem State.updCarr_bus (f : Carr → Carr) : (s.updCarr f).bus = s.bus := by rfl
@[simp] theorem State.updCarr_drawn (f : Carr → Carr) : (s.updCarr f).drawn = s.drawn := by rfl
@[simp] theorem State.updCarr_mireIrq (f : Carr → Carr) : (s.updCarr f).mireIrq = s.mireIrq := by rfl
@[simp] theorem State.updCarr_fenIrq (f : Carr → Carr) : (s.updCarr f).fenIrq = s.fenIrq := by rfl
@[simp] theorem State.updCarr_seqs (f : Carr → Carr) : (s.updCarr f).seqs = s.seqs := by rfl
@[simp] theorem State.updCarr_chans (f : Carr → Carr) : (s.updCarr f).chans = s.chans := by rfl
@[simp] theorem State.updCarr_shockQuiet (f : Carr → Carr) : (s.updCarr f).shockQuiet = s.shockQuiet := by rfl
@[simp] theorem State.updCarr_stg (f : Carr → Carr) : (s.updCarr f).stg = s.stg := by rfl
@[simp] theorem State.updCarr_tide (f : Carr → Carr) : (s.updCarr f).tide = s.tide := by rfl
@[simp] theorem State.updCarr_lev (f : Carr → Carr) : (s.updCarr f).lev = s.lev := by rfl
@[simp] theorem State.updCarr_peat (f : Carr → Carr) : (s.updCarr f).peat = s.peat := by rfl
@[simp] theorem State.updCarr_weir (f : Carr → Carr) : (s.updCarr f).weir = s.weir := by rfl
@[simp] theorem State.updCarr_mireRuns (f : Carr → Carr) : (s.updCarr f).mireRuns = s.mireRuns := by rfl
@[simp] theorem State.updCarr_warmBusy (f : Carr → Carr) : (s.updCarr f).warmBusy = s.warmBusy := by rfl
@[simp] theorem State.updCarr_withy (f : Carr → Carr) : (s.updCarr f).withy = s.withy := by rfl
@[simp] theorem State.updCarr_tus (f : Carr → Carr) : (s.updCarr f).tus = s.tus := by rfl
@[simp] theorem State.updCarr_links (f : Carr → Carr) : (s.updCarr f).links = s.links := by rfl
@[simp] theorem State.updCarr_slu (f : Carr → Carr) : (s.updCarr f).slu = s.slu := by rfl
@[simp] theorem State.updCarr_sth (f : Carr → Carr) : (s.updCarr f).sth = s.sth := by rfl
@[simp] theorem State.updCarr_dma (f : Carr → Carr) : (s.updCarr f).dma = s.dma := by rfl
@[simp] theorem State.updCarr_carr (f : Carr → Carr) : (s.updCarr f).carr = f s.carr := by rfl
@[simp] theorem State.updCarr_mq (f : Carr → Carr) : (s.updCarr f).mq = s.mq := by rfl
@[simp] theorem State.updCarr_aq (f : Carr → Carr) : (s.updCarr f).aq = s.aq := by rfl
@[simp] theorem State.updCarr_dyke (f : Carr → Carr) : (s.updCarr f).dyke = s.dyke := by rfl
@[simp] theorem State.updCarr_get (f : Carr → Carr) (g : Fld) : (s.updCarr f).get g = s.get g := by rfl
@[simp] theorem State.updCarr_regAt (f : Carr → Carr) (i : Nat) : (s.updCarr f).regAt i = s.regAt i := by rfl
@[simp] theorem State.updCarr_byteAt (f : Carr → Carr) (i : Nat) : (s.updCarr f).byteAt i = s.byteAt i := by rfl

@[simp] theorem State.updMq_pending (f : MediaQueues → MediaQueues) : (s.updMq f).pending = s.pending := by rfl
@[simp] theorem State.updMq_regs (f : MediaQueues → MediaQueues) : (s.updMq f).regs = s.regs := by rfl
@[simp] theorem State.updMq_dram (f : MediaQueues → MediaQueues) : (s.updMq f).dram = s.dram := by rfl
@[simp] theorem State.updMq_sram (f : MediaQueues → MediaQueues) : (s.updMq f).sram = s.sram := by rfl
@[simp] theorem State.updMq_bus (f : MediaQueues → MediaQueues) : (s.updMq f).bus = s.bus := by rfl
@[simp] theorem State.updMq_drawn (f : MediaQueues → MediaQueues) : (s.updMq f).drawn = s.drawn := by rfl
@[simp] theorem State.updMq_mireIrq (f : MediaQueues → MediaQueues) : (s.updMq f).mireIrq = s.mireIrq := by rfl
@[simp] theorem State.updMq_fenIrq (f : MediaQueues → MediaQueues) : (s.updMq f).fenIrq = s.fenIrq := by rfl
@[simp] theorem State.updMq_seqs (f : MediaQueues → MediaQueues) : (s.updMq f).seqs = s.seqs := by rfl
@[simp] theorem State.updMq_chans (f : MediaQueues → MediaQueues) : (s.updMq f).chans = s.chans := by rfl
@[simp] theorem State.updMq_shockQuiet (f : MediaQueues → MediaQueues) : (s.updMq f).shockQuiet = s.shockQuiet := by rfl
@[simp] theorem State.updMq_stg (f : MediaQueues → MediaQueues) : (s.updMq f).stg = s.stg := by rfl
@[simp] theorem State.updMq_tide (f : MediaQueues → MediaQueues) : (s.updMq f).tide = s.tide := by rfl
@[simp] theorem State.updMq_lev (f : MediaQueues → MediaQueues) : (s.updMq f).lev = s.lev := by rfl
@[simp] theorem State.updMq_peat (f : MediaQueues → MediaQueues) : (s.updMq f).peat = s.peat := by rfl
@[simp] theorem State.updMq_weir (f : MediaQueues → MediaQueues) : (s.updMq f).weir = s.weir := by rfl
@[simp] theorem State.updMq_mireRuns (f : MediaQueues → MediaQueues) : (s.updMq f).mireRuns = s.mireRuns := by rfl
@[simp] theorem State.updMq_warmBusy (f : MediaQueues → MediaQueues) : (s.updMq f).warmBusy = s.warmBusy := by rfl
@[simp] theorem State.updMq_withy (f : MediaQueues → MediaQueues) : (s.updMq f).withy = s.withy := by rfl
@[simp] theorem State.updMq_tus (f : MediaQueues → MediaQueues) : (s.updMq f).tus = s.tus := by rfl
@[simp] theorem State.updMq_links (f : MediaQueues → MediaQueues) : (s.updMq f).links = s.links := by rfl
@[simp] theorem State.updMq_slu (f : MediaQueues → MediaQueues) : (s.updMq f).slu = s.slu := by rfl
@[simp] theorem State.updMq_sth (f : MediaQueues → MediaQueues) : (s.updMq f).sth = s.sth := by rfl
@[simp] theorem State.updMq_dma (f : MediaQueues → MediaQueues) : (s.updMq f).dma = s.dma := by rfl
@[simp] theorem State.updMq_carr (f : MediaQueues → MediaQueues) : (s.updMq f).carr = s.carr := by rfl
@[simp] theorem State.updMq_mq (f : MediaQueues → MediaQueues) : (s.updMq f).mq = f s.mq := by rfl
@[simp] theorem State.updMq_aq (f : MediaQueues → MediaQueues) : (s.updMq f).aq = s.aq := by rfl
@[simp] theorem State.updMq_dyke (f : MediaQueues → MediaQueues) : (s.updMq f).dyke = s.dyke := by rfl
@[simp] theorem State.updMq_get (f : MediaQueues → MediaQueues) (g : Fld) : (s.updMq f).get g = s.get g := by rfl
@[simp] theorem State.updMq_regAt (f : MediaQueues → MediaQueues) (i : Nat) : (s.updMq f).regAt i = s.regAt i := by rfl
@[simp] theorem State.updMq_byteAt (f : MediaQueues → MediaQueues) (i : Nat) : (s.updMq f).byteAt i = s.byteAt i := by rfl

@[simp] theorem State.updAq_pending (f : Aqsia → Aqsia) : (s.updAq f).pending = s.pending := by rfl
@[simp] theorem State.updAq_regs (f : Aqsia → Aqsia) : (s.updAq f).regs = s.regs := by rfl
@[simp] theorem State.updAq_dram (f : Aqsia → Aqsia) : (s.updAq f).dram = s.dram := by rfl
@[simp] theorem State.updAq_sram (f : Aqsia → Aqsia) : (s.updAq f).sram = s.sram := by rfl
@[simp] theorem State.updAq_bus (f : Aqsia → Aqsia) : (s.updAq f).bus = s.bus := by rfl
@[simp] theorem State.updAq_drawn (f : Aqsia → Aqsia) : (s.updAq f).drawn = s.drawn := by rfl
@[simp] theorem State.updAq_mireIrq (f : Aqsia → Aqsia) : (s.updAq f).mireIrq = s.mireIrq := by rfl
@[simp] theorem State.updAq_fenIrq (f : Aqsia → Aqsia) : (s.updAq f).fenIrq = s.fenIrq := by rfl
@[simp] theorem State.updAq_seqs (f : Aqsia → Aqsia) : (s.updAq f).seqs = s.seqs := by rfl
@[simp] theorem State.updAq_chans (f : Aqsia → Aqsia) : (s.updAq f).chans = s.chans := by rfl
@[simp] theorem State.updAq_shockQuiet (f : Aqsia → Aqsia) : (s.updAq f).shockQuiet = s.shockQuiet := by rfl
@[simp] theorem State.updAq_stg (f : Aqsia → Aqsia) : (s.updAq f).stg = s.stg := by rfl
@[simp] theorem State.updAq_tide (f : Aqsia → Aqsia) : (s.updAq f).tide = s.tide := by rfl
@[simp] theorem State.updAq_lev (f : Aqsia → Aqsia) : (s.updAq f).lev = s.lev := by rfl
@[simp] theorem State.updAq_peat (f : Aqsia → Aqsia) : (s.updAq f).peat = s.peat := by rfl
@[simp] theorem State.updAq_weir (f : Aqsia → Aqsia) : (s.updAq f).weir = s.weir := by rfl
@[simp] theorem State.updAq_mireRuns (f : Aqsia → Aqsia) : (s.updAq f).mireRuns = s.mireRuns := by rfl
@[simp] theorem State.updAq_warmBusy (f : Aqsia → Aqsia) : (s.updAq f).warmBusy = s.warmBusy := by rfl
@[simp] theorem State.updAq_withy (f : Aqsia → Aqsia) : (s.updAq f).withy = s.withy := by rfl
@[simp] theorem State.updAq_tus (f : Aqsia → Aqsia) : (s.updAq f).tus = s.tus := by rfl
@[simp] theorem State.updAq_links (f : Aqsia → Aqsia) : (s.updAq f).links = s.links := by rfl
@[simp] theorem State.updAq_slu (f : Aqsia → Aqsia) : (s.updAq f).slu = s.slu := by rfl
@[simp] theorem State.updAq_sth (f : Aqsia → Aqsia) : (s.updAq f).sth = s.sth := by rfl
@[simp] theorem State.updAq_dma (f : Aqsia → Aqsia) : (s.updAq f).dma = s.dma := by rfl
@[simp] theorem State.updAq_carr (f : Aqsia → Aqsia) : (s.updAq f).carr = s.carr := by rfl
@[simp] theorem State.updAq_mq (f : Aqsia → Aqsia) : (s.updAq f).mq = s.mq := by rfl
@[simp] theorem State.updAq_aq (f : Aqsia → Aqsia) : (s.updAq f).aq = f s.aq := by rfl
@[simp] theorem State.updAq_dyke (f : Aqsia → Aqsia) : (s.updAq f).dyke = s.dyke := by rfl
@[simp] theorem State.updAq_get (f : Aqsia → Aqsia) (g : Fld) : (s.updAq f).get g = s.get g := by rfl
@[simp] theorem State.updAq_regAt (f : Aqsia → Aqsia) (i : Nat) : (s.updAq f).regAt i = s.regAt i := by rfl
@[simp] theorem State.updAq_byteAt (f : Aqsia → Aqsia) (i : Nat) : (s.updAq f).byteAt i = s.byteAt i := by rfl

@[simp] theorem State.updRun_pending (p : Nat) (f : CmdRun → CmdRun) : (s.updRun p f).pending = s.pending := by rfl
@[simp] theorem State.updRun_regs (p : Nat) (f : CmdRun → CmdRun) : (s.updRun p f).regs = s.regs := by rfl
@[simp] theorem State.updRun_dram (p : Nat) (f : CmdRun → CmdRun) : (s.updRun p f).dram = s.dram := by rfl
@[simp] theorem State.updRun_sram (p : Nat) (f : CmdRun → CmdRun) : (s.updRun p f).sram = s.sram := by rfl
@[simp] theorem State.updRun_bus (p : Nat) (f : CmdRun → CmdRun) : (s.updRun p f).bus = s.bus := by rfl
@[simp] theorem State.updRun_drawn (p : Nat) (f : CmdRun → CmdRun) : (s.updRun p f).drawn = s.drawn := by rfl
@[simp] theorem State.updRun_mireIrq (p : Nat) (f : CmdRun → CmdRun) : (s.updRun p f).mireIrq = s.mireIrq := by rfl
@[simp] theorem State.updRun_fenIrq (p : Nat) (f : CmdRun → CmdRun) : (s.updRun p f).fenIrq = s.fenIrq := by rfl
@[simp] theorem State.updRun_seqs (p : Nat) (f : CmdRun → CmdRun) : (s.updRun p f).seqs = s.seqs := by rfl
@[simp] theorem State.updRun_chans (p : Nat) (f : CmdRun → CmdRun) : (s.updRun p f).chans = s.chans := by rfl
@[simp] theorem State.updRun_shockQuiet (p : Nat) (f : CmdRun → CmdRun) : (s.updRun p f).shockQuiet = s.shockQuiet := by rfl
@[simp] theorem State.updRun_stg (p : Nat) (f : CmdRun → CmdRun) : (s.updRun p f).stg = s.stg := by rfl
@[simp] theorem State.updRun_tide (p : Nat) (f : CmdRun → CmdRun) : (s.updRun p f).tide = s.tide := by rfl
@[simp] theorem State.updRun_lev (p : Nat) (f : CmdRun → CmdRun) : (s.updRun p f).lev = s.lev := by rfl
@[simp] theorem State.updRun_peat (p : Nat) (f : CmdRun → CmdRun) : (s.updRun p f).peat = s.peat := by rfl
@[simp] theorem State.updRun_weir (p : Nat) (f : CmdRun → CmdRun) : (s.updRun p f).weir = s.weir := by rfl
@[simp] theorem State.updRun_mireRuns (p : Nat) (f : CmdRun → CmdRun) : (s.updRun p f).mireRuns = s.mireRuns := by rfl
@[simp] theorem State.updRun_warmBusy (p : Nat) (f : CmdRun → CmdRun) : (s.updRun p f).warmBusy = s.warmBusy := by rfl
@[simp] theorem State.updRun_withy (p : Nat) (f : CmdRun → CmdRun) : (s.updRun p f).withy = s.withy := by rfl
@[simp] theorem State.updRun_tus (p : Nat) (f : CmdRun → CmdRun) : (s.updRun p f).tus = s.tus := by rfl
@[simp] theorem State.updRun_links (p : Nat) (f : CmdRun → CmdRun) : (s.updRun p f).links = s.links := by rfl
@[simp] theorem State.updRun_slu (p : Nat) (f : CmdRun → CmdRun) : (s.updRun p f).slu = s.slu := by rfl
@[simp] theorem State.updRun_sth (p : Nat) (f : CmdRun → CmdRun) : (s.updRun p f).sth = s.sth := by rfl
@[simp] theorem State.updRun_dma (p : Nat) (f : CmdRun → CmdRun) : (s.updRun p f).dma = s.dma := by rfl
@[simp] theorem State.updRun_carr (p : Nat) (f : CmdRun → CmdRun) : (s.updRun p f).carr = s.carr := by rfl
@[simp] theorem State.updRun_mq (p : Nat) (f : CmdRun → CmdRun) : (s.updRun p f).mq = s.mq := by rfl
@[simp] theorem State.updRun_aq (p : Nat) (f : CmdRun → CmdRun) : (s.updRun p f).aq = { s.aq with runs := s.aq.runs.upd p f } := by rfl
@[simp] theorem State.updRun_dyke (p : Nat) (f : CmdRun → CmdRun) : (s.updRun p f).dyke = s.dyke := by rfl
@[simp] theorem State.updRun_get (p : Nat) (f : CmdRun → CmdRun) (g : Fld) : (s.updRun p f).get g = s.get g := by rfl
@[simp] theorem State.updRun_regAt (p : Nat) (f : CmdRun → CmdRun) (i : Nat) : (s.updRun p f).regAt i = s.regAt i := by rfl
@[simp] theorem State.updRun_byteAt (p : Nat) (f : CmdRun → CmdRun) (i : Nat) : (s.updRun p f).byteAt i = s.byteAt i := by rfl

@[simp] theorem State.irqMire_pending (x : MireIrq) : (s.irqMire x).pending = s.pending := by
  unfold State.irqMire
  split <;> rfl
@[simp] theorem State.irqMire_regs (x : MireIrq) : (s.irqMire x).regs = s.regs := by
  unfold State.irqMire
  split <;> rfl
@[simp] theorem State.irqMire_dram (x : MireIrq) : (s.irqMire x).dram = s.dram := by
  unfold State.irqMire
  split <;> rfl
@[simp] theorem State.irqMire_sram (x : MireIrq) : (s.irqMire x).sram = s.sram := by
  unfold State.irqMire
  split <;> rfl
@[simp] theorem State.irqMire_bus (x : MireIrq) : (s.irqMire x).bus = s.bus := by
  unfold State.irqMire
  split <;> rfl
@[simp] theorem State.irqMire_drawn (x : MireIrq) : (s.irqMire x).drawn = s.drawn := by
  unfold State.irqMire
  split <;> rfl
@[simp] theorem State.irqMire_fenIrq (x : MireIrq) : (s.irqMire x).fenIrq = s.fenIrq := by
  unfold State.irqMire
  split <;> rfl
@[simp] theorem State.irqMire_seqs (x : MireIrq) : (s.irqMire x).seqs = s.seqs := by
  unfold State.irqMire
  split <;> rfl
@[simp] theorem State.irqMire_chans (x : MireIrq) : (s.irqMire x).chans = s.chans := by
  unfold State.irqMire
  split <;> rfl
@[simp] theorem State.irqMire_shockQuiet (x : MireIrq) : (s.irqMire x).shockQuiet = s.shockQuiet := by
  unfold State.irqMire
  split <;> rfl
@[simp] theorem State.irqMire_stg (x : MireIrq) : (s.irqMire x).stg = s.stg := by
  unfold State.irqMire
  split <;> rfl
@[simp] theorem State.irqMire_tide (x : MireIrq) : (s.irqMire x).tide = s.tide := by
  unfold State.irqMire
  split <;> rfl
@[simp] theorem State.irqMire_lev (x : MireIrq) : (s.irqMire x).lev = s.lev := by
  unfold State.irqMire
  split <;> rfl
@[simp] theorem State.irqMire_peat (x : MireIrq) : (s.irqMire x).peat = s.peat := by
  unfold State.irqMire
  split <;> rfl
@[simp] theorem State.irqMire_weir (x : MireIrq) : (s.irqMire x).weir = s.weir := by
  unfold State.irqMire
  split <;> rfl
@[simp] theorem State.irqMire_mireRuns (x : MireIrq) : (s.irqMire x).mireRuns = s.mireRuns := by
  unfold State.irqMire
  split <;> rfl
@[simp] theorem State.irqMire_warmBusy (x : MireIrq) : (s.irqMire x).warmBusy = s.warmBusy := by
  unfold State.irqMire
  split <;> rfl
@[simp] theorem State.irqMire_withy (x : MireIrq) : (s.irqMire x).withy = s.withy := by
  unfold State.irqMire
  split <;> rfl
@[simp] theorem State.irqMire_tus (x : MireIrq) : (s.irqMire x).tus = s.tus := by
  unfold State.irqMire
  split <;> rfl
@[simp] theorem State.irqMire_links (x : MireIrq) : (s.irqMire x).links = s.links := by
  unfold State.irqMire
  split <;> rfl
@[simp] theorem State.irqMire_slu (x : MireIrq) : (s.irqMire x).slu = s.slu := by
  unfold State.irqMire
  split <;> rfl
@[simp] theorem State.irqMire_sth (x : MireIrq) : (s.irqMire x).sth = s.sth := by
  unfold State.irqMire
  split <;> rfl
@[simp] theorem State.irqMire_dma (x : MireIrq) : (s.irqMire x).dma = s.dma := by
  unfold State.irqMire
  split <;> rfl
@[simp] theorem State.irqMire_carr (x : MireIrq) : (s.irqMire x).carr = s.carr := by
  unfold State.irqMire
  split <;> rfl
@[simp] theorem State.irqMire_mq (x : MireIrq) : (s.irqMire x).mq = s.mq := by
  unfold State.irqMire
  split <;> rfl
@[simp] theorem State.irqMire_aq (x : MireIrq) : (s.irqMire x).aq = s.aq := by
  unfold State.irqMire
  split <;> rfl
@[simp] theorem State.irqMire_dyke (x : MireIrq) : (s.irqMire x).dyke = s.dyke := by
  unfold State.irqMire
  split <;> rfl
@[simp] theorem State.irqMire_get (x : MireIrq) (g : Fld) : (s.irqMire x).get g = s.get g := State.get_of_regs (s.irqMire_regs x) g
@[simp] theorem State.irqMire_regAt (x : MireIrq) (i : Nat) : (s.irqMire x).regAt i = s.regAt i := State.regAt_of_regs (s.irqMire_regs x) i

@[simp] theorem State.irqFen_pending (c : Nat) (x : FenIrq) : (s.irqFen c x).pending = s.pending := by
  unfold State.irqFen
  split <;> rfl
@[simp] theorem State.irqFen_regs (c : Nat) (x : FenIrq) : (s.irqFen c x).regs = s.regs := by
  unfold State.irqFen
  split <;> rfl
@[simp] theorem State.irqFen_dram (c : Nat) (x : FenIrq) : (s.irqFen c x).dram = s.dram := by
  unfold State.irqFen
  split <;> rfl
@[simp] theorem State.irqFen_sram (c : Nat) (x : FenIrq) : (s.irqFen c x).sram = s.sram := by
  unfold State.irqFen
  split <;> rfl
@[simp] theorem State.irqFen_bus (c : Nat) (x : FenIrq) : (s.irqFen c x).bus = s.bus := by
  unfold State.irqFen
  split <;> rfl
@[simp] theorem State.irqFen_drawn (c : Nat) (x : FenIrq) : (s.irqFen c x).drawn = s.drawn := by
  unfold State.irqFen
  split <;> rfl
@[simp] theorem State.irqFen_mireIrq (c : Nat) (x : FenIrq) : (s.irqFen c x).mireIrq = s.mireIrq := by
  unfold State.irqFen
  split <;> rfl
@[simp] theorem State.irqFen_seqs (c : Nat) (x : FenIrq) : (s.irqFen c x).seqs = s.seqs := by
  unfold State.irqFen
  split <;> rfl
@[simp] theorem State.irqFen_chans (c : Nat) (x : FenIrq) : (s.irqFen c x).chans = s.chans := by
  unfold State.irqFen
  split <;> rfl
@[simp] theorem State.irqFen_shockQuiet (c : Nat) (x : FenIrq) : (s.irqFen c x).shockQuiet = s.shockQuiet := by
  unfold State.irqFen
  split <;> rfl
@[simp] theorem State.irqFen_stg (c : Nat) (x : FenIrq) : (s.irqFen c x).stg = s.stg := by
  unfold State.irqFen
  split <;> rfl
@[simp] theorem State.irqFen_tide (c : Nat) (x : FenIrq) : (s.irqFen c x).tide = s.tide := by
  unfold State.irqFen
  split <;> rfl
@[simp] theorem State.irqFen_lev (c : Nat) (x : FenIrq) : (s.irqFen c x).lev = s.lev := by
  unfold State.irqFen
  split <;> rfl
@[simp] theorem State.irqFen_peat (c : Nat) (x : FenIrq) : (s.irqFen c x).peat = s.peat := by
  unfold State.irqFen
  split <;> rfl
@[simp] theorem State.irqFen_weir (c : Nat) (x : FenIrq) : (s.irqFen c x).weir = s.weir := by
  unfold State.irqFen
  split <;> rfl
@[simp] theorem State.irqFen_mireRuns (c : Nat) (x : FenIrq) : (s.irqFen c x).mireRuns = s.mireRuns := by
  unfold State.irqFen
  split <;> rfl
@[simp] theorem State.irqFen_warmBusy (c : Nat) (x : FenIrq) : (s.irqFen c x).warmBusy = s.warmBusy := by
  unfold State.irqFen
  split <;> rfl
@[simp] theorem State.irqFen_withy (c : Nat) (x : FenIrq) : (s.irqFen c x).withy = s.withy := by
  unfold State.irqFen
  split <;> rfl
@[simp] theorem State.irqFen_tus (c : Nat) (x : FenIrq) : (s.irqFen c x).tus = s.tus := by
  unfold State.irqFen
  split <;> rfl
@[simp] theorem State.irqFen_links (c : Nat) (x : FenIrq) : (s.irqFen c x).links = s.links := by
  unfold State.irqFen
  split <;> rfl
@[simp] theorem State.irqFen_slu (c : Nat) (x : FenIrq) : (s.irqFen c x).slu = s.slu := by
  unfold State.irqFen
  split <;> rfl
@[simp] theorem State.irqFen_sth (c : Nat) (x : FenIrq) : (s.irqFen c x).sth = s.sth := by
  unfold State.irqFen
  split <;> rfl
@[simp] theorem State.irqFen_dma (c : Nat) (x : FenIrq) : (s.irqFen c x).dma = s.dma := by
  unfold State.irqFen
  split <;> rfl
@[simp] theorem State.irqFen_carr (c : Nat) (x : FenIrq) : (s.irqFen c x).carr = s.carr := by
  unfold State.irqFen
  split <;> rfl
@[simp] theorem State.irqFen_mq (c : Nat) (x : FenIrq) : (s.irqFen c x).mq = s.mq := by
  unfold State.irqFen
  split <;> rfl
@[simp] theorem State.irqFen_aq (c : Nat) (x : FenIrq) : (s.irqFen c x).aq = s.aq := by
  unfold State.irqFen
  split <;> rfl
@[simp] theorem State.irqFen_dyke (c : Nat) (x : FenIrq) : (s.irqFen c x).dyke = s.dyke := by
  unfold State.irqFen
  split <;> rfl
@[simp] theorem State.irqFen_get (c : Nat) (x : FenIrq) (g : Fld) : (s.irqFen c x).get g = s.get g := State.get_of_regs (s.irqFen_regs c x) g
@[simp] theorem State.irqFen_regAt (c : Nat) (x : FenIrq) (i : Nat) : (s.irqFen c x).regAt i = s.regAt i := State.regAt_of_regs (s.irqFen_regs c x) i

/-- An interrupt to Mire that is raised is pending. -/
theorem State.mem_irqMire (x : MireIrq) : x ∈ (s.irqMire x).mireIrq := by
  unfold State.irqMire
  split
  · assumption
  · simp

/-- An interrupt to a Fen core that is raised is pending. -/
theorem State.mem_irqFen (c : Nat) (x : FenIrq) : (c, x) ∈ (s.irqFen c x).fenIrq := by
  unfold State.irqFen
  split
  · assumption
  · simp

@[simp] theorem State.when_true (f : State → State) : s.when true f = f s := rfl
@[simp] theorem State.when_false (f : State → State) : s.when false f = s := rfl

end Sys2Proof.Machine
end

