-- ==== Sys2Proof/Laws/Recording.lean ====
section
/-! SUPPORT. A line that asserts is latched, and stays so while other lines are recorded. -/

namespace Sys2Proof.Machine

variable {s : State} {α : Type} [Inhabited α] [DecidableEq α]

@[simp] theorem Tab.at_put_self (t : Tab α) (k : Nat) (v : α) : (t.put k v).at k = v := tabGet_put_self _ _ _ _

theorem Tab.at_put_ne (t : Tab α) {k i : Nat} (v : α) (h : i ≠ k) : (t.put k v).at i = t.at i := tabGet_put_ne _ _ _ h

@[simp] theorem Tab.at_upd_self (t : Tab α) (k : Nat) (f : α → α) : (t.upd k f).at k = f (t.at k) := tabGet_put_self _ _ _ _

theorem Tab.at_upd_ne (t : Tab α) {k i : Nat} (f : α → α) (h : i ≠ k) : (t.upd k f).at i = t.at i := tabGet_put_ne _ _ _ h

/-- What `f` keeps, `f` where a condition holds keeps. -/
theorem State.when_latches {c : Bool} {f : State → State} (h : ∀ t : State, (f t).lev.latches = t.lev.latches) :
    (s.when c f).lev.latches = s.lev.latches := by
  cases c
  · rfl
  · exact h s

theorem State.forN_latches {f : Nat → State → State} (h : ∀ i (t : State), (f i t).lev.latches = t.lev.latches) (k : Nat) :
    (s.forN k f).lev.latches = s.lev.latches := by
  unfold State.forN
  generalize List.range k = l
  induction l generalizing s with
  | nil => rfl
  | cons x l ih => rw [List.foldl_cons, ih, h]

theorem State.requestReset_latches (a b c : Nat) : (s.requestReset a b c).lev.latches = s.lev.latches := by
  unfold State.requestReset
  split <;> rfl

theorem State.requestBlock_latches (a : Nat) : (s.requestBlock a).lev.latches = s.lev.latches := by
  unfold State.requestBlock
  split <;> rfl

theorem State.writeHistory_latches (e : List Byte) : (s.writeHistory e).lev.latches = s.lev.latches := by
  unfold State.writeHistory
  exact State.forN_latches (fun _ _ => rfl) 4

theorem State.react_latches (a b c : Nat) : (s.react a b c).lev.latches = s.lev.latches := by
  unfold State.react
  extract_lets core s1 s2
  have h1 : s1.lev.latches = s.lev.latches := State.when_latches (fun t => by rw [State.irqFen_lev]; rfl)
  have h2 : s2.lev.latches = s1.lev.latches := State.when_latches (fun t => by
    rw [State.forN_latches (fun i u => State.when_latches (fun v => by rw [State.irqFen_lev]))]
    rfl)
  split
  · rw [State.requestReset_latches, h2, h1]
  · rw [State.when_latches (fun t => State.requestBlock_latches _), h2, h1]

theorem State.levStatus_latches : s.levStatus.lev.latches = s.lev.latches := by
  unfold State.levStatus
  rw [State.setIf_lev, State.setIf_lev, State.setIf_lev]

theorem State.startFlush_lev : s.startFlush.lev = s.lev :=
  (State.startFlush_frame (fun _ h => h) (fun _ h _ hr => h _ hr) (Frame.refl _ _ _)).same .lev (by decide)

theorem State.fatalDrop_lev : s.fatalDrop.lev = s.lev :=
  (State.fatalDrop_frame (fun _ h => h) (fun _ h _ hr => h _ hr) (Frame.refl _ _ _)).same .lev (by decide)

theorem State.unfreeze_lev (a : Nat) : (s.unfreeze a).lev = s.lev := rfl

theorem State.stageRecord_lev (a b : Nat) (l : List Byte) : (s.stageRecord a b l).lev = s.lev :=
  (State.stageRecord_frame (fun _ h => h) (fun _ h _ hr => h _ hr) (Frame.refl _ _ _)).same .lev (by decide)

theorem State.when_lev {c : Bool} {f : State → State} (h : ∀ t : State, (f t).lev = t.lev) : (s.when c f).lev = s.lev := by
  cases c
  · rfl
  · exact h s

/-- Recording line k leaves the other lines' latches, and latches its own. -/
theorem State.recordLine_latches (code inst detail : Nat) (inj : Bool) :
    (∀ k, (s.lev.latches.at k).isSome = true → ((s.recordLine code inst detail inj).lev.latches.at k).isSome = true) ∧
      (s.recordLine code inst detail inj).latched code inst = (sourceRow code).isSome := by
  unfold State.recordLine State.latched
  split
  next h => simp [h]
  next x h =>
    simp -zeta only [h, Option.isSome_some]
    extract_lets line cls u rep slot w rep2 r flags e l v1 src v2 v3 v4
    have hu : u.lev = s.lev := State.when_lev (fun t => State.fatalDrop_lev)
    split
    next hc =>
      have hk : (u.lev.latches.at line).isSome = true := by
        unfold rep at hc
        split at hc
        · next l hl => rw [hl]; rfl
        · exact absurd hc (by simp)
      constructor
      · intro k hk'
        rw [State.set_lev, hu]
        exact hk'
      · rw [State.set_lev]
        exact hk
    next hc =>
      have h1 : v1.lev.latches = s.lev.latches := by
        unfold v1
        rw [State.set_lev, State.writeHistory_latches, hu]
      have h2 : v2.lev.latches = s.lev.latches.put line (some l) := by
        unfold v2
        rw [← h1]
      have h4 : v4.lev.latches = s.lev.latches.put line (some l) := by
        unfold v4 v3
        rw [State.irqMire_lev, State.stageRecord_lev, State.levStatus_latches, State.react_latches, h2]
      rw [State.when_lev (fun t => State.startFlush_lev), h4]
      constructor
      · intro k hk
        by_cases e : k = line
        · rw [e, Tab.at_put_self]; rfl
        · rw [Tab.at_put_ne _ _ e]; exact hk
      · rw [Tab.at_put_self]; rfl

/-- Making room in Peat's staging leaves every latched line latched. -/
theorem State.relieve_keeps (k : Nat) (h : (s.lev.latches.at k).isSome = true) : (s.relieve.lev.latches.at k).isSome = true := by
  unfold State.relieve
  split
  · split
    · exact (State.recordLine_latches _ _ _ _).1 k h
    · exact h
  · exact h

/-- A latched line stays latched when another condition is raised. -/
theorem State.raise_keeps (code inst detail k : Nat) (h : (s.lev.latches.at k).isSome = true) :
    ((s.raise code inst detail).lev.latches.at k).isSome = true :=
  State.relieve_keeps k ((s.recordLine_latches code inst detail false).1 k h)

/-- A condition that is raised is latched. -/
theorem State.raise_latched (code inst detail : Nat) : (s.raise code inst detail).latched code inst = (sourceRow code).isSome := by
  have h0 := (s.recordLine_latches code inst detail false).2
  unfold State.latched at h0 ⊢
  cases hx : sourceRow code with
  | none => rfl
  | some x =>
    simp only [hx, Option.isSome_some] at h0 ⊢
    exact State.relieve_keeps _ h0

/-- What recording a line leaves of Levee: all but the latches, the count of entries and the requested resets. -/
def Levee.rest (l : Levee) : Levee := { l with latches := [], written := 0, resetReq := none, blockReq := [] }

theorem State.when_rest {c : Bool} {f : State → State} (h : ∀ t : State, (f t).lev.rest = t.lev.rest) :
    (s.when c f).lev.rest = s.lev.rest := by
  cases c
  · rfl
  · exact h s

theorem State.forN_rest {f : Nat → State → State} (h : ∀ i (t : State), (f i t).lev.rest = t.lev.rest) (k : Nat) :
    (s.forN k f).lev.rest = s.lev.rest := by
  unfold State.forN
  generalize List.range k = l
  induction l generalizing s with
  | nil => rfl
  | cons x l ih => rw [List.foldl_cons, ih, h]

theorem State.react_rest (a b c : Nat) : (s.react a b c).lev.rest = s.lev.rest := by
  unfold State.react
  extract_lets core s1 s2
  have h1 : s1.lev.rest = s.lev.rest := State.when_rest (fun t => by rw [State.irqFen_lev, State.set_lev])
  have h2 : s2.lev.rest = s1.lev.rest := State.when_rest (fun t => by
    rw [State.forN_rest (fun i u => State.when_rest (fun v => by rw [State.irqFen_lev])), State.set_lev])
  split
  · unfold State.requestReset
    split
    · rw [h2, h1]
    · exact h2.trans h1
  · refine (State.when_rest (fun t => ?_)).trans (h2.trans h1)
    unfold State.requestBlock
    split
    · rfl
    · rw [State.set_lev]
      rfl

theorem State.writeHistory_rest (e : List Byte) : (s.writeHistory e).lev.rest = s.lev.rest := by
  unfold State.writeHistory
  extract_lets k a b c
  have h : c.lev.rest = s.lev.rest := by
    unfold c b
    rw [State.incSat_lev, State.set_lev, State.set_lev]
    exact State.forN_rest (fun _ _ => by rw [State.set_lev]) 4
  exact h

theorem State.recordLine_rest (code inst detail : Nat) (inj : Bool) : (s.recordLine code inst detail inj).lev.rest = s.lev.rest := by
  unfold State.recordLine
  split
  · rfl
  · extract_lets line cls u rep slot w rep2 r flags e l v1 src v2 v3 v4
    have hu : u.lev = s.lev := State.when_lev (fun t => State.fatalDrop_lev)
    split
    · rw [State.set_lev, hu]
    · rw [State.when_lev (fun t => State.startFlush_lev)]
      unfold v4 v3
      rw [State.irqMire_lev, State.stageRecord_lev]
      unfold State.levStatus
      rw [State.setIf_lev, State.setIf_lev, State.setIf_lev, State.react_rest]
      have h1 : v1.lev.rest = s.lev.rest := by
        unfold v1
        rw [State.set_lev, State.writeHistory_rest, hu]
      exact h1

theorem State.raise_rest (code inst detail : Nat) : (s.raise code inst detail).lev.rest = s.lev.rest := by
  unfold State.raise State.relieve
  have hu : (s.recordLine code inst detail false).lev.rest = s.lev.rest := s.recordLine_rest code inst detail false
  split
  · split
    · rw [State.recordLine_rest, State.unfreeze_lev, hu]
    · exact hu
  · exact hu

end Sys2Proof.Machine
end

