-- ==== Sys2Proof/Laws/Holding.lean ====
section
/-! SUPPORT. What holding power-on reset leaves: after the record of what outlives it, only the identity, counters and fuses, the event
recorder's status and the retracts that started before. -/

namespace Sys2Proof.Machine

/-- From what outlives power-on reset to the held state. -/
theorem State.holdReset_held (s : State) :
    Frame []
      [.fld .DYKE_STATUS_LIFECYCLE, .arr (.DYKE_FLOOR_COUNT 0) 0x4 8, .arr (.PEAT_RSEQ_NEXT 0) 0x4 5,
       .fld .PEAT_MRSETS_COUNT, .arr (.PEAT_AREA_REC_COUNT 0) 0x4 10, .arr (.PEAT_AREA_BYTES_BYTES 0) 0x4 10,
       .arr (.WTH_VCM_STATUS_ENABLED 0) 0x4 4, .arr (.WTH_VCM_STATUS_RET_ACTIVE 0) 0x4 4, .arr (.WTH_VCM_STATUS_PARKED 0) 0x4 4]
      s.retractAll.heldDies s.holdReset := by
  have hR : RegsIn
      [.fld .DYKE_STATUS_LIFECYCLE, .arr (.DYKE_FLOOR_COUNT 0) 0x4 8, .arr (.PEAT_RSEQ_NEXT 0) 0x4 5,
       .fld .PEAT_MRSETS_COUNT, .arr (.PEAT_AREA_REC_COUNT 0) 0x4 10, .arr (.PEAT_AREA_BYTES_BYTES 0) 0x4 10,
       .arr (.WTH_VCM_STATUS_ENABLED 0) 0x4 4, .arr (.WTH_VCM_STATUS_RET_ACTIVE 0) 0x4 4, .arr (.WTH_VCM_STATUS_PARKED 0) 0x4 4]
      [.fld .DYKE_STATUS_LIFECYCLE, .arr (.DYKE_FLOOR_COUNT 0) 0x4 8, .arr (.PEAT_RSEQ_NEXT 0) 0x4 5,
       .fld .PEAT_MRSETS_COUNT, .arr (.PEAT_AREA_REC_COUNT 0) 0x4 10, .arr (.PEAT_AREA_BYTES_BYTES 0) 0x4 10,
       .arr (.WTH_VCM_STATUS_ENABLED 0) 0x4 4, .arr (.WTH_VCM_STATUS_RET_ACTIVE 0) 0x4 4, .arr (.WTH_VCM_STATUS_PARKED 0) 0x4 4] :=
    fun _ h _ hr => h _ hr
  unfold State.holdReset
  extract_lets r a b c d
  repeat' first
    | with_reducible exact Frame.refl _ _ _
    | with_reducible assumption
    | exact parts_in rfl
    | exact regs_sub hR (by decide +kernel)
    | (unfold d; clear d)
    | (unfold c; clear c)
    | (unfold b; clear b)
    | (unfold a; clear a)
    | with_reducible refine State.forN_frame ?_ (fun i t ht => ?_)
    | with_reducible refine State.areaStatus_frame ?_ ?_
    | with_reducible refine State.set_frame ?_ ?_
    | exact cov_fld hR (by decide +kernel)
    | exact cov_arr (f := .DYKE_FLOOR_COUNT 0) (k := 0x4) (m := 8) hR (by decide +kernel) (by decide) rfl
    | exact cov_arr (f := .PEAT_RSEQ_NEXT 0) (k := 0x4) (m := 5) hR (by decide +kernel) (by decide) rfl
    | exact cov_arr (f := .WTH_VCM_STATUS_ENABLED 0) (k := 0x4) (m := 4) hR (by decide +kernel) (by decide) rfl
    | exact cov_arr (f := .WTH_VCM_STATUS_RET_ACTIVE 0) (k := 0x4) (m := 4) hR (by decide +kernel) (by decide) rfl
    | exact cov_arr (f := .WTH_VCM_STATUS_PARKED 0) (k := 0x4) (m := 4) hR (by decide +kernel) (by decide) rfl

@[simp] theorem State.retractAll_weir (s : State) : s.retractAll.weir = s.weir :=
  (State.retractAll_frame (fun _ h => h) (fun _ h _ hr => h _ hr) (Frame.refl _ _ s)).same .weir (by decide)

@[simp] theorem State.holdReset_weir (s : State) : s.holdReset.weir = { iso := s.weir.iso } := by
  rw [← s.retractAll_weir]
  exact s.holdReset_held.same .weir (by decide)

@[simp] theorem State.holdReset_mireRuns (s : State) : s.holdReset.mireRuns = false := s.holdReset_held.same .mireRuns (by decide)

@[simp] theorem State.holdReset_dram (s : State) : s.holdReset.dram = [] := s.holdReset_held.same .dram (by decide)

@[simp] theorem State.holdReset_tcm (s : State) : s.holdReset.sram = [] := s.holdReset_held.same .sram (by decide)

/-- The always-on domain keeps its two registers (R408). -/
theorem State.holdReset_aon (s : State) : s.holdReset.get ⟨0x4A000040, 0, 32⟩ = s.get ⟨0x4A000040, 0, 32⟩ ∧
    s.holdReset.get ⟨0x4A000044, 0, 32⟩ = s.get ⟨0x4A000044, 0, 32⟩ := by
  have hget := fun g c => Frame.get (g := g) (State.retractAll_frame (fun _ h => h) (fun _ h _ hr => h _ hr) (Frame.refl _ _ s)) c
  constructor
  · rw [s.holdReset_held.get (by decide +kernel), ← hget _ (by decide +kernel)]
    unfold State.heldDies State.get
    rw [State.regAt_putReg_ne _ _ (by decide), State.regAt_putReg_self]
  · rw [s.holdReset_held.get (by decide +kernel), ← hget _ (by decide +kernel)]
    unfold State.heldDies State.get
    rw [State.regAt_putReg_self]

end Sys2Proof.Machine
end

