-- ==== Sys2Proof/Tests/Slice0.lean ====
section
/-! SUPPORT. Small tests of one step each, with expected results from the manual's tables and worked cases, and the ill-formed terms that
well-formedness refuses. -/

set_option Elab.async false

open Sys2Proof Sys2Proof.Machine

/-! ### Well-formedness: one term for each check, with one operand just out of its range -/

theorem test_ill_formed_1 : (([
   .registerWrite (.fen 8) 0 4 none, .registerWrite .mire 4294967296 4 none, .registerWrite .mire 0 3 none,
   .flushEntryDone 8 0, .flushEntryDone 0 32769, .weirMinV12Read (.fen 8), .levResetWarm (.fen 8), .blockReset 5,
   .blockResetEnd 5, .tideCgEn 4 0, .tideTimingLost 16, .tideOptLoRead (.fen 8), .pesDemod 8 default, .tusPesLost 8,
   .tusNumSat 4, .winhLift 8, .seekSettled 4, .reload 4, .regionFetchDone 4, .capGo 4, .seekGo 4 false false, .seekAbandon 4,
   .wthVcmOc 4, .wthMaOc 8, .retractGo 16, .retractStall 4] :
    List Instr).all (fun c => !c.wf)) = true := by decide +kernel

theorem test_ill_formed_2 : (([
   .wthRetTimeout 4, .retractEnd 4, .park 4, .vcmEnable 4, .maHold 8 false, .reedGo 8, .reedKill 8, .reedRestart 8,
   .reedAbort 8 false, .restartEvent 8, .wait 8, .waitc 8, .waita 8 0, .gate 8 0 none, .sync 8 0 default,
   .syncWindowClose 8 0, .markDetected 8 0 0, .xfer 8 0 [], .skipw 8 0, .mark 8, .jmp 8, .jcc 8, .call 8, .ret 8, .ldi 8,
   .microAdd 8] :
    List Instr).all (fun c => !c.wf)) = true := by decide +kernel

theorem test_ill_formed_3 : (([
   .microSub 8, .microCmp 8, .emit 8, .microEnd 8, .illegalMicroword 8, .waitTimeout 8, .protectedSpanStart 8 0 [],
   .operationEnd 8, .csRead (.fen 8), .reedEventRead (.fen 8) 0, .reedEventRead .mire 8, .sectorDecode 8,
   .alignRetry 8 0 [] [], .alignRetry 0 8 [] [], .sectorOverrun 8, .thermalAsperity 8 false 0 0 0, .dropout 8 false 0 0 0,
   .resultRead (.fen 8) 0, .resultRead .mire 8, .coefWrite 8 0, .coefRead (.fen 8) 0, .coefRead .mire 8,
   .verifyOutcome 8 default, .vfyResultRead (.fen 8) 0, .vfyResultRead .mire 8, .ladderStep 8] :
    List Instr).all (fun c => !c.wf)) = true := by decide +kernel

theorem test_ill_formed_4 : (([
   .mbxRing (.fen 8) 0, .mbxRing .mire 64, .mbxAck (.fen 8) 0, .mbxAck .mire 64, .mbxCancel (.fen 8) 0, .mbxCancel .mire 64,
   .sessionOpen 64, .sessionClose 64, .sessionPing 64, .spindleSet 64, .spindleStatus 64, .sectionLoad 64 none,
   .sectionPark 64 0, .sectionPark 0 16, .retract 64, .motorClear 64 0, .sectionStatus 64, .encSyncSet 64, .servoReload 64,
   .servoRegionWrite 64, .servoLimits 64, .servoCoupling 64, .servoCapture 64, .zoneInfo 64, .channelAdapt 64,
   .channelCal 64 []] :
    List Instr).all (fun c => !c.wf)) = true := by decide +kernel

theorem test_ill_formed_5 : (([
   .preampInfo 64, .fprogBegin 64, .fprogData 64, .fprogCommit 64 false, .fprogBind 64 false, .fprogDelete 64 false,
   .fprogList 64, .powerStateSet 64 none 0, .powerStateSet 0 none 16, .powerStatus 64 0, .fenGate 64, .peatAppend 64,
   .peatFreeze 64, .peatRead 64, .peatRelease 64, .peatClear 64 false, .aqPeatFlush 64 false, .updateBegin 64 false,
   .updateData 64 false, .updateApply 64 false, .updateActivate 64 false, .updateStatus 64, .updateAbort 64, .updateFloor 64,
   .telVersions 64, .telChannel 64] :
    List Instr).all (fun c => !c.wf)) = true := by decide +kernel

theorem test_ill_formed_6 : (([
   .telServo 64, .telEnv 64 [], .faultHistory 64, .faultReaction 64, .faultInject 64, .faultClear 64, .attestRead 64,
   .attestQuote 64, .authChallenge 64, .spdmMessage 64, .factoryUnlock 64, .svcResponse 256 false, .mwqDb 16, .queueScan 16,
   .mwqCfg 16 false 0, .mwqCfg 0 false 16, .mwcCfg 4 false false false 0 0, .mwcCfg 0 false false false 8 0,
   .mwcCfg 0 false false false 0 16, .descriptorStart 8 0 0, .descriptorStart 0 18 0, .descriptorStart 0 0 4096, .mwdRead 8,
   .mwdWrite 8, .writeVerify 8, .mwdVerify 8] :
    List Instr).all (fun c => !c.wf)) = true := by decide +kernel

theorem test_ill_formed_7 : (([
   .readAhead 8, .seekHint 8, .formatTracks 8, .eraseBand 8, .mwdFence 16 0, .mwdFence 0 4096, .mwdBarrier 16 0,
   .mwdBarrier 0 4096, .hintTimeout 4, .mwcCi 4 0, .mwcCi 0 4096, .mwqCancel 32 0, .mwqCancel 0 4096, .sqDoorbell 32 0 0,
   .sqDoorbell 0 65536 0, .cqDoorbell 32 0 0, .cqDoorbell 0 65536 0, .commandFetch 4096 default,
   .commandFetch 0 { cntlid := 32 }, .commandFetch 0 { size := 4097 }, .sthCpl (.fen 8) 0 0 0, .sthCpl .mire 8 0 0,
   .sthCpl .mire 0 4096 0, .sthCpl .mire 0 0 32768, .completionPost 4096 0, .completionPost 0 4097] :
    List Instr).all (fun c => !c.wf)) = true := by decide +kernel

theorem test_ill_formed_8 : (([
   .sthCtxEnd (.fen 8) 0 0 0, .sthCtxEnd .mire 4 0 0, .sthCtxEnd .mire 0 256 0, .sthCtxEnd .mire 0 0 4096, .sthZaSet 4096,
   .sthFateSet 4 0 0, .sthFateSet 0 256 0, .sthFateSet 0 0 8192, .sthFateClr 32, .sthNewRead 8, .flushReady 4096,
   .idleExpired 5, .perst 2 false, .linkUp 2, .ledgerFilled 32768 [], .sluLedRel 32768, .sluLedFill 4096, .regionSet 512,
   .regionDiscard 512, .regionUnpin 512, .regionTtlExpire 512, .keyLoad 64, .keyZero 64, .frameBoundary [{ target := 3 }],
   .frameBoundary [{ slot := 256 }], .cswHog 16 0] :
    List Instr).all (fun c => !c.wf)) = true := by decide +kernel

theorem test_ill_formed_9 : (([
   .cswHog 0 17, .lodeStart (.fen 8) 0, .lodeStart .mire 32, .lodeStop (.fen 8) 0 false, .lodeStop .mire 32 false,
   .lodePause (.fen 8) 0 false, .lodePause .mire 32 false, .lodePaused 32 0 [], .lodePaused 0 1025 [],
   .lodeDescriptorLoad 32 none, .lodeDescriptorDone 32 [], .lodeBusErr 32 0 false [], .lodeBusErr 0 16777216 false [],
   .requestCommit 32 0 0 false [], .requestCommit 0 65536 0 false [], .requestCommit 0 0 4097 false [], .carrLoad 8 0 0,
   .carrStore 8 0 [], .carrAmo 8 0 0 default 0, .preload 16, .sramRead 12 0 default default none,
   .sramRead 0 16777216 default default none, .sluPmAck 1024, .faultRecord 65536 0 0, .faultRecord 0 256 0,
   .levHeartbeat (.fen 8)] :
    List Instr).all (fun c => !c.wf)) = true := by decide +kernel

theorem test_ill_formed_10 : (([
   .levClr (.fen 8) false 0 0, .levClr .mire false 65536 0, .levClr .mire false 0 256, .levInj (.fen 8) 0 0 0,
   .levInj .mire 65536 0 0, .levInj .mire 0 256 0, .levInj .mire 0 0 256, .dykeMrExt (.fen 8) 0, .dykeMrExt .mire 16,
   .recordStage 5 0 [], .peatNorFail 10, .peatPcc 4294967296, .peatCur 4294967296, .preampDiscovery 5 none,
   .plWriteFrame 5 0 0 0, .plReadFrame 5 0 0, .plResponse 5 0, .plTimeout 5, .preampFault 5 false, .bandCheck 4,
   .configurationRequest 2 0 default none, .configurationRequest 0 16 default none, .controllerRegisterWrite 32 0 none,
   .sthLinkDown 2, .moverSectorDone 8] :
    List Instr).all (fun c => !c.wf)) = true := by decide +kernel

theorem test_well_formed_bounds : (([.reedGo 7, .seekSettled 3, .mbxRing (.fen 7) 63, .mwqDb 15, .regionSet 511, .sthFateClr 31,
    .registerWrite .mire 0xFFFFFFFF 4 (some 0)] : List Instr).all Instr.wf) = true := by decide +kernel

/-! ### Registers (R3, R11, R335, R508) -/

/-- The stepping that R2 checks. -/
theorem test_chip_id : State.reset.get .DYKE_CHIP_ID_PART = 0x9640 ∧ State.reset.get .DYKE_CHIP_ID_STEP_LETTER = 2 ∧
    State.reset.get .DYKE_CHIP_ID_STEP_NUM = 1 := by decide +kernel

/-- Worked case of 23: SDG_RESULT(5) and MWQ_DB(5). -/
theorem test_two_addresses : (findReg 0x47002450).map (fun x => (x.1.id, x.2)) = some (.SDG_RESULT, [5]) ∧
    (findReg 0x450200B0).map (fun x => (x.1.id, x.2)) = some (.MWQ_DB, [5]) := by decide +kernel

/-- The worked case of 05: TUS_SEEK_TGT(3, 0) = 0x322B_C000 is track 822,000. -/
theorem test_seek_target : (State.reset.putReg 0x48000264 0x322BC000).get (.TUS_SEEK_TGT_TRACK 3 0) = 822000 ∧
    (State.reset.putReg 0x48000264 0x322BC000).get (.TUS_SEEK_TGT_FRAC 3 0) = 0 := by decide +kernel

/-- The pattern of R335. -/
theorem test_slot_pattern : slotPattern 0 = 0 ∧ slotPattern 33 = 4 ∧ slotPattern 3 = 8 := by decide

/-- Tussock's reset settle values (R116). -/
theorem test_settle_reset : State.reset.get (.TUS_SETTLE_SETTLE_WIN 2) = 82 ∧ State.reset.get (.TUS_SETTLE_SETTLE_CNT 2) = 4 := by
  decide +kernel

/-! ### The map cache's index (worked case of R362) -/

theorem test_set_hashed : (State.reset.set .CARR_CFG_HASH 1).carrSet (0x1081234540 / 64) = 0x0107 ∧
    (State.reset.set .CARR_CFG_HASH 1).carrSet (0x1081334540 / 64) = 0x0106 := by decide +kernel

theorem test_set_plain : (State.reset.set .CARR_CFG_HASH 0).carrSet (0x1081234540 / 64) = 0x0D15 := by decide +kernel

/-! ### Descriptors (worked case of 11) -/

/-- Slot 14 of the worked case. -/
def workedSlot : Mwd :=
  { bytes := [0x01, 0x02, 0x05, 0x07, 0xF0, 0x8A, 0x0C, 0x00, 0xB4, 0x04, 0x20, 0x00, 0, 0, 0, 0, 0x00, 0x00, 0x80, 0x40, 0x10] }

theorem test_descriptor_bytes : workedSlot.op = 1 ∧ workedSlot.ladder = 5 ∧ workedSlot.surface = 7 ∧ workedSlot.track = 822000 ∧
    workedSlot.sector = 1204 ∧ workedSlot.count = 32 ∧ workedSlot.buf = 0x1040800000 := by decide +kernel

/-! ### Faults (worked case of 18) -/

/-- The operating time and the record of the worked case. -/
def workedFault : State :=
  match execFaultRecord 0x0904 0 0x1010201A40 ((State.reset.set .TIDE_OPT_LO_MS_LO 0x96B43F).set .TIDE_STATUS_OPT_LOADED 1) with
  | .next t => t
  | _ => State.reset

theorem test_fault_line : workedFault.get (.LEV_LATCH_LINE 4) = 2 ^ 31 ∧ workedFault.lev.resetReq = some (1, 0x0904, 0) := by
  decide +kernel

theorem test_fault_history : (List.range 4).map (fun w => workedFault.get (.LEV_HIST_DATA 0 w)) =
    [0x02000904, 0xB43F001A, 0x40000096, 0x1010201A] := by decide +kernel

/-! ### Sessions and requests -/

/-- The worked case of R243: FPROG_BEGIN's fields are read from pair 5's buffer. -/
theorem test_request_fields :
    (((State.reset.set (.MBX_REQ_DATA 5 4) 0x001E0007).set (.MBX_REQ_DATA 5 5) 0x00013000).req 5 16 2,
      ((State.reset.set (.MBX_REQ_DATA 5 4) 0x001E0007).set (.MBX_REQ_DATA 5 5) 0x00013000).req 5 18 2,
      ((State.reset.set (.MBX_REQ_DATA 5 4) 0x001E0007).set (.MBX_REQ_DATA 5 5) 0x00013000).req 5 20 2) = (7, 30, 0x3000) := by
  decide +kernel

/-! ### Single steps -/

/-- A step from reset with one command in front, and the outcome's test. -/
def after (cs : List Instr) (s : State) (p : State → Bool) : Bool :=
  match step { s with pending := cs } with
  | .next t => p t
  | _ => false

/-- A queue's front goes first, and the rest waits. -/
theorem test_first_in_first_out : after [.rootLock, .acqStart] State.reset (fun t => t.is .TIDE_STATUS_ROOT_LOCK &&
    t.pending == [.acqStart]) = true := by decide +kernel

/-- On an empty queue a millisecond passes (log entry 1): the operating time, not loaded yet, stands still. -/
theorem test_idle : after [] State.reset (fun t => t.pending == [] && t.get .TIDE_OPT_LO_MS_LO == 0) = true := by decide +kernel

theorem test_power_on : after [.powerOn true { dramSize := 1, dramRate := 2 }] State.reset (fun t => t.get .WEIR_REG_STATUS_PG == 15 && t.get .SLU_DRAM_CFG_SIZE == 1 &&
    t.get .SLU_DRAM_CFG_RATE == 2) = true := by decide +kernel

/-- A warning opens the window only while it is armed. -/
theorem test_warning_unarmed : after [.powerFailWarning 9000] State.reset (fun t => t.get .WEIR_STATUS_PF == 0) = true := by
  decide +kernel

/-- A Fen core's store to Dyke is denied (R14); Mire's to the chip's identity changes nothing (R8). -/
theorem test_denied_store : after [.registerWrite (.fen 3) 0x4C000020 4 (some 0)] State.reset (fun t => t.bus == .busError &&
    t.latched 0x0101 3) = true := by decide +kernel

theorem test_odd_store : after [.registerWrite .mire 0x41000822 4 (some 0)] State.reset (fun t => t.bus == .busError) = true := by
  decide +kernel

/-- The access codes of R8: RW takes the value, W1C clears what is written 1. -/
theorem test_write_one_clears : after [.registerWrite .mire 0x4A000028 4 (some 0x80)] (State.reset.set .WEIR_FAULT_SRC 0x181)
    (fun t => t.get .WEIR_FAULT_SRC == 0x101) = true := by decide +kernel

/-- A Fen core's load of Reed is denied (R14); Mire's of the chip's identity answers its word. -/
theorem test_loads : after [.registerWrite (.fen 3) 0x46000000 4 none] State.reset (fun t => t.bus == .busError && t.latched 0x0101 3) = true ∧
    after [.registerWrite .mire 0x4C000000 4 none] State.reset (fun t => t.bus == .value (State.reset.wordOf .DYKE_CHIP_ID_PART)) = true := by
  decide +kernel

/-- MR0 to MR9 are extended by Dyke alone (R435). -/
theorem test_mr_ext : after [.dykeMrExt .mire 9] State.reset (fun t => t.get .DYKE_MR_EXT_ERR == 1) = true := by decide +kernel

/-- A core whose clock runs takes the watchdog's heartbeat only from Mire (R417). -/
theorem test_heartbeat : after [.levHeartbeat .mire] State.reset (fun t => t.is .LEV_STATUS_WDOG_ARMED) = true ∧
    after [.levHeartbeat (.fen 0)] State.reset (fun t => !t.is .LEV_STATUS_WDOG_ARMED && t.is .LEV_STATUS_WR_DENY) = true := by
  decide +kernel

/-- The worked case of 03: 5.170 V at 4,100 rpm reads 12,610. -/
theorem test_ke : keOf 51700 (4100 * 1024) = 12610 := by decide
end

