-- ==== Sys2Proof/Tests/Witnesses.lean ====
section
/-! SUPPORT. For every statement with hypotheses, states and operands that meet them. -/

set_option Elab.async false

open Sys2Proof Sys2Proof.Machine

theorem test_meets_SupplyRisesAndIsArmed_1 : ∃ (s : State), s.weir.powered = false :=
  ⟨State.reset, by decide +kernel⟩

theorem test_meets_SupplyRisesAndIsArmed_2 : ∃ (s : State), s.weir.powered = false :=
  ⟨State.reset, by decide +kernel⟩

theorem test_meets_SupplyRisesAndIsArmed_3 : ∃ (s : State), s.weir.powered = false ∧ s.weir.retryDue = true :=
  ⟨{ State.reset with weir := { retryDue := true } }, by decide +kernel⟩

theorem test_meets_SupplyRisesAndIsArmed_4 : ∃ (s : State), s.weir.powered = true :=
  ⟨{ State.reset with weir := { powered := true } }, by decide +kernel⟩

theorem test_meets_WarningOpensWindow_1 : ∃ (s : State), s.get .WEIR_STATUS_WARN_ARMED = 1 ∧ s.get .WEIR_STATUS_PF = 0 :=
  ⟨State.reset.set .WEIR_STATUS_WARN_ARMED 1, by decide +kernel⟩

theorem test_meets_WarningOpensWindow_2 : ∃ (s : State), s.get .WEIR_STATUS_PF = 1 ∧ s.get .WEIR_AON_STATUS_WARM_PF = 0 :=
  ⟨State.reset.set .WEIR_STATUS_PF 1, by decide +kernel⟩

theorem test_meets_SuppliesAreLost_1 : ∃ (s : State), s.weir.brdEn = true :=
  ⟨{ State.reset with weir := { brdEn := true } }, by decide +kernel⟩

theorem test_meets_CommitIsolatesTheDrive_1 : ∃ (s : State), s.weir.powered = true ∧ s.get .WEIR_STATUS_COMMIT_ARMED = 1 ∧
  s.get .WEIR_STATUS_PF < 2 :=
  ⟨{ (State.reset.set .WEIR_STATUS_COMMIT_ARMED 1) with weir := { powered := true } }, by decide +kernel⟩

theorem test_meets_CommitIsolatesTheDrive_2 : ∃ (s : State), s.weir.powered = true ∧ s.get .WEIR_STATUS_PF < 2 :=
  ⟨{ (State.reset.set .WEIR_STATUS_COMMIT_ARMED 1) with weir := { powered := true } }, by decide +kernel⟩

theorem test_meets_CommitIsolatesTheDrive_3 : ∃ (s : State), s.weir.powered = true ∧ 2 ≤ s.get .WEIR_STATUS_PF :=
  ⟨{ State.reset.set .WEIR_STATUS_PF 2 with weir := { powered := true } }, by decide +kernel⟩

theorem test_meets_CommitIsolatesTheDrive_4 : ∃ (s : State), s.get .WEIR_STATUS_PF = 2 :=
  ⟨State.reset.set .WEIR_STATUS_PF 2, by decide +kernel⟩

theorem test_meets_SequenceEnds_1 : ∃ (s : State), s.get .WEIR_STATUS_PF = 2 ∧ s.weir.late = false :=
  ⟨{ State.reset.set .WEIR_STATUS_PF 2 with mireRuns := true }, by decide +kernel⟩

theorem test_meets_SequenceEnds_2 : ∃ (s : State), s.get .WEIR_STATUS_PF = 2 :=
  ⟨State.reset.set .WEIR_STATUS_PF 2, by decide +kernel⟩

theorem test_meets_SequenceEnds_3 : ∃ (s : State), s.get .WEIR_STATUS_PF = 2 ∧ s.aqsiaActs = true ∧ s.mq.flushEnded = true ∧
  s.allParked = true :=
  ⟨{ ((((((State.reset.set .WEIR_STATUS_PF 2).set .MBX_INFO_AQSIA_UP 1).set (.WTH_VCM_STATUS_PARKED 0) 1).set (.WTH_VCM_STATUS_PARKED 1) 1).set (.WTH_VCM_STATUS_PARKED 2) 1).set (.WTH_VCM_STATUS_PARKED 3) 1) with mireRuns := true, mq := { flushEnded := true } },
    by decide +kernel⟩

theorem test_meets_SequenceEnds_4 : ∃ (s : State), s.get .WEIR_STATUS_PF = 3 ∧ s.lev.resetReq = none :=
  ⟨State.reset.set .WEIR_STATUS_PF 3, by decide +kernel⟩

theorem test_meets_SequenceEnds_5 : ∃ (s : State), s.get .WEIR_STATUS_PF = 3 :=
  ⟨State.reset.set .WEIR_STATUS_PF 3, by decide +kernel⟩

theorem test_meets_LedgerIsFlushed_1 : ∃ (s : State), s.get .WEIR_STATUS_PF = 2 ∧ s.aqsiaActs = true ∧ s.weir.late = false ∧
  s.mq.flushEnded = false ∧ s.mq.flushDead = false ∧ s.slu.flushing = false ∧ s.toFlush = [] ∧ s.sth.deferred = [] :=
  ⟨{ (State.reset.set .WEIR_STATUS_PF 2).set .MBX_INFO_AQSIA_UP 1 with mireRuns := true }, by decide +kernel⟩

theorem test_meets_LedgerIsFlushed_2 : ∃ (s : State) (n : Nat) (entry : Nat) (r : FlushRun), s.get .WEIR_STATUS_PF = 2 ∧
  s.slu.flushing = true ∧ s.mq.flushing.at n = some r ∧ r.entry = entry ∧ r.op = 0 ∧ s.flushLen entry ≤ r.done :=
  ⟨{ (State.reset.set .WEIR_STATUS_PF 2) with slu := { flushing := true }, mq := { flushing := [(0, some { entry := 3, done := 1 })] } },
    0, 3, { entry := 3, done := 1 }, by decide +kernel⟩

theorem test_meets_MonitorsAndChopper_1 : ∃ (s : State) (v12 : Nat) (vhb : Nat), s.weir.iso = .diode ∧ v12 + 20 < vhb :=
  ⟨{ State.reset with weir := { iso := .diode } }, 10000, 10021, by decide +kernel⟩

theorem test_meets_MonitorsAndChopper_2 : ∃ (s : State) (v12 : Nat) (vhb : Nat), s.weir.iso = .diode ∧ vhb < v12 :=
  ⟨{ State.reset with weir := { iso := .diode } }, 10001, 10000, by decide +kernel⟩

theorem test_meets_MonitorsAndChopper_3 : ∃ (s : State) (vhb : Nat), 13600 ≤ vhb ∧ s.get .WEIR_STATUS_CHOP_ON = 0 :=
  ⟨State.reset, 13600, by decide +kernel⟩

theorem test_meets_MonitorsAndChopper_4 : ∃ (vhb : Nat), vhb ≤ 13300 :=
  ⟨13300, by decide +kernel⟩

theorem test_meets_MonitorsAndChopper_5 : ∃ (vhb : Nat) (current : Nat), 10500 ≤ vhb ∧ 50 ≤ current :=
  ⟨10500, 50, by decide +kernel⟩

theorem test_meets_MonitorsAndChopper_6 : ∃ (vhb : Nat) (current : Nat), 10500 ≤ vhb ∧ current < 50 :=
  ⟨10500, 49, by decide +kernel⟩

theorem test_meets_MonitorsAndChopper_7 : ∃ (vhb : Nat), vhb < 10500 :=
  ⟨10499, by decide +kernel⟩

theorem test_meets_MonitorsAndChopper_8 : ∃ (s : State), s.get .WEIR_STATUS_CHOP_ON = 1 :=
  ⟨State.reset.set .WEIR_STATUS_CHOP_ON 1, by decide +kernel⟩

theorem test_meets_MonitorsAndChopper_9 : ∃ (s : State), s.get .WEIR_STATUS_CHOP_ON = 0 :=
  ⟨State.reset, by decide +kernel⟩

theorem test_meets_MonitorsAndChopper_10 : ∃ (s : State), s.get .WEIR_STATUS_CHOP_FAULT = 0 :=
  ⟨State.reset, by decide +kernel⟩

theorem test_meets_ResetsTakeHold_1 : ∃ (s : State), s.weir.powered = true ∧ s.lev.resetReq.isSome = true :=
  ⟨{ State.reset with weir := { powered := true }, lev := { resetReq := some (2, 0, 0) } }, by decide +kernel⟩

theorem test_meets_ResetsTakeHold_2 : ∃ (s : State), s.lev.resetReq = none :=
  ⟨State.reset, by decide +kernel⟩

theorem test_meets_ResetsTakeHold_3 : ∃ (s : State), s.lev.resetReq.isSome = true :=
  ⟨{ State.reset with lev := { resetReq := some (1, 0x0101, 0) } }, by decide +kernel⟩

theorem test_meets_ResetsTakeHold_4 : ∃ (s : State) (sub : Nat), sub ∈ s.lev.blockReq :=
  ⟨{ State.reset with lev := { blockReq := [6] } }, 6, by decide +kernel⟩

theorem test_meets_ResetsTakeHold_5 : ∃ (s : State) (sub : Nat), sub ∈ s.lev.blockRun :=
  ⟨{ State.reset with lev := { blockRun := [7] } }, 7, by decide +kernel⟩

theorem test_meets_FaultsAreCollected_1 : ∃ (source : Nat) (inst : Nat) (x : SourceRow), sourceRow source = some x ∧
  inst < x.instances :=
  ⟨0x0E01, 0, ((sourceRow 0x0E01).getD ⟨0, 0, 0, 0, 0, false⟩), by decide +kernel⟩

theorem test_meets_FaultsAreCollected_2 : ∃ (s : State) (source : Nat) (inst : Nat) (x : SourceRow) (l : Latch),
  sourceRow source = some x ∧ inst < x.instances ∧ inst ≠ 0xFF ∧ s.lev.latches.at (x.firstLine + inst) = some l ∧ l.cls ≠ 2 :=
  ⟨{ State.reset with lev := { latches := [(((sourceRow 0x0E01).map SourceRow.firstLine).getD 0, some { cls := 1 })] } },
    0x0E01, 0, ((sourceRow 0x0E01).getD ⟨0, 0, 0, 0, 0, false⟩), { cls := 1 }, by decide +kernel⟩

theorem test_meets_FaultsAreCollected_3 : ∃ (s : State) (source : Nat) (inst : Nat) (x : SourceRow) (l : Latch),
  sourceRow source = some x ∧ inst < x.instances ∧ inst ≠ 0xFF ∧ s.lev.latches.at (x.firstLine + inst) = some l ∧ l.cls = 2 :=
  ⟨{ State.reset with lev := { latches := [(((sourceRow 0x0E01).map SourceRow.firstLine).getD 0, some { cls := 2 })] } },
    0x0E01, 0, ((sourceRow 0x0E01).getD ⟨0, 0, 0, 0, 0, false⟩), { cls := 2 }, by decide +kernel⟩

theorem test_meets_FaultsAreCollected_4 : ∃ (source : Nat) (x : SourceRow), sourceRow source = some x :=
  ⟨0x0E01, ((sourceRow 0x0E01).getD ⟨0, 0, 0, 0, 0, false⟩), by decide +kernel⟩

theorem test_meets_FaultsAreCollected_5 : ∃ (s : State) (source : Nat) (inst : Nat) (count : Nat) (x : SourceRow),
  s.get .LEV_STATUS_FACTORY = 1 ∧ sourceRow source = some x ∧ inst < x.instances ∧ 2 ≤ count :=
  ⟨State.reset.set .LEV_STATUS_FACTORY 1, 0x0E01, 0, 2, ((sourceRow 0x0E01).getD ⟨0, 0, 0, 0, 0, false⟩), by decide +kernel⟩

theorem test_meets_FaultsAreCollected_6 : ∃ (s : State) (source : Nat) (inst : Nat) (x : SourceRow),
  s.get .LEV_STATUS_FACTORY = 1 ∧ sourceRow source = some x ∧ inst < x.instances :=
  ⟨State.reset.set .LEV_STATUS_FACTORY 1, 0x0E01, 0, ((sourceRow 0x0E01).getD ⟨0, 0, 0, 0, 0, false⟩), by decide +kernel⟩

theorem test_meets_FaultsAreCollected_7 : ∃ (s : State) (source : Nat) (inst : Nat) (x : SourceRow),
  s.get .LEV_STATUS_FACTORY = 1 ∧ sourceRow source = some x ∧ inst < x.instances :=
  ⟨State.reset.set .LEV_STATUS_FACTORY 1, 0x0E01, 0, ((sourceRow 0x0E01).getD ⟨0, 0, 0, 0, 0, false⟩), by decide +kernel⟩

theorem test_meets_FaultsAreCollected_8 : ∃ (s : State), s.get .LEV_STATUS_FACTORY = 0 :=
  ⟨State.reset, by decide +kernel⟩

theorem test_meets_FaultsAreCollected_9 : ∃ (s : State) (source : Nat) (inst : Nat) (x : SourceRow),
  s.lev.injecting = some (source, inst, 1) ∧ sourceRow source = some x :=
  ⟨{ State.reset with lev := { injecting := some (0x0E01, 0, 1) } }, 0x0E01, 0, ((sourceRow 0x0E01).getD ⟨0, 0, 0, 0, 0,
    false⟩), by decide +kernel⟩

theorem test_meets_FaultsAreCollected_10 : ∃ (s : State) (source : Nat) (inst : Nat) (count : Nat) (x : SourceRow),
  s.lev.injecting = some (source, inst, count) ∧ sourceRow source = some x ∧ 2 ≤ count :=
  ⟨{ State.reset with lev := { injecting := some (0x0E01, 0, 2) } }, 0x0E01, 0, 2, ((sourceRow 0x0E01).getD ⟨0, 0, 0, 0, 0,
    false⟩), by decide +kernel⟩

theorem test_meets_FaultsAreCollected_11 : ∃ (s : State), s.get .LEV_STATUS_WDOG_ARMED = 1 ∧ s.lev.resetReq = none :=
  ⟨State.reset.set .LEV_STATUS_WDOG_ARMED 1, by decide +kernel⟩

theorem test_meets_FaultsAreCollected_12 : ∃ (s : State), s.get .LEV_STATUS_ALIVE_RUN = 1 :=
  ⟨State.reset.set .LEV_STATUS_ALIVE_RUN 1, by decide +kernel⟩

theorem test_meets_TideAcquiresTheDisk_1 : ∃ (s : State), s.get .TIDE_STATUS_ROOT_LOCK = 1 :=
  ⟨(State.reset.set .TIDE_STATUS_ROOT_LOCK 1), by decide +kernel⟩

theorem test_meets_TideAcquiresTheDisk_2 : ∃ (i : Nat), i < 3 :=
  ⟨1, by decide +kernel⟩

theorem test_meets_TideAcquiresTheDisk_3 : ∃ (s : State), s.get .TIDE_STATUS_STATE = 0 :=
  ⟨State.reset, by decide +kernel⟩

theorem test_meets_TideAcquiresTheDisk_4 : ∃ (s : State), s.get .TIDE_STATUS_STATE ≠ 0 :=
  ⟨(State.reset.set .TIDE_STATUS_STATE 3), by decide +kernel⟩

theorem test_meets_TideAcquiresTheDisk_5 : ∃ (s : State) (t0 : Head) (t1 : Head), s.get .TIDE_STATUS_ROOT_LOCK = 1 ∧
  s.get .TIDE_STATUS_STATE = 1 ∧ s.tide.acqFails < 3 ∧ (s.headGood 0 t0 || s.headGood 1 t1) = true :=
  ⟨(((State.reset.set .TIDE_STATUS_ROOT_LOCK 1).set .TIDE_STATUS_STATE 1).set .TIDE_CTRL_T0_USE 1), {}, {}, by decide +kernel⟩

theorem test_meets_TideAcquiresTheDisk_6 : ∃ (s : State) (t0 : Head) (t1 : Head), s.get .TIDE_STATUS_ROOT_LOCK = 1 ∧
  s.get .TIDE_STATUS_STATE = 2 ∧ (s.headCounted 0 t0 || s.headCounted 1 t1) = true :=
  ⟨((((State.reset.set .TIDE_STATUS_ROOT_LOCK 1).set .TIDE_STATUS_STATE 2).set .TIDE_CTRL_T0_USE 1).set .TIDE_CTRL_T1_USE 1),
    {}, {}, by decide +kernel⟩

theorem test_meets_TideAcquiresTheDisk_7 : ∃ (s : State) (t0 : Head) (t1 : Head), s.get .TIDE_STATUS_ROOT_LOCK = 1 ∧
  s.get .TIDE_STATUS_STATE = 2 ∧ (s.headCounted 0 t0 || s.headCounted 1 t1) = false :=
  ⟨((((State.reset.set .TIDE_STATUS_ROOT_LOCK 1).set .TIDE_STATUS_STATE 2).set .TIDE_CTRL_T0_USE 0).set .TIDE_CTRL_T1_USE 0),
    {}, {}, by decide +kernel⟩

theorem test_meets_TideAcquiresTheDisk_8 : ∃ (s : State) (t0 : Head) (t1 : Head), s.get .TIDE_STATUS_ROOT_LOCK = 1 ∧
  s.get .TIDE_STATUS_STATE = 5 ∧ s.get .TIDE_CTRL_REACQ_EN = 1 ∧ (s.headGood 0 t0 || s.headGood 1 t1) = true :=
  ⟨((((State.reset.set .TIDE_STATUS_ROOT_LOCK 1).set .TIDE_STATUS_STATE 5).set .TIDE_CTRL_REACQ_EN 1).set .TIDE_CTRL_T0_USE 1),
    {}, {}, by decide +kernel⟩

theorem test_meets_TideAcquiresTheDisk_9 : ∃ (s : State) (t0 : Head) (t1 : Head), s.get .TIDE_STATUS_ROOT_LOCK = 1 ∧
  s.tideLocked = true ∧ (s.headCounted 0 t0 && s.headCounted 1 t1) = true :=
  ⟨((((State.reset.set .TIDE_STATUS_ROOT_LOCK 1).set .TIDE_STATUS_STATE 4).set .TIDE_CTRL_T0_USE 1).set .TIDE_CTRL_T1_USE 1),
    {}, {}, by decide +kernel⟩

theorem test_meets_TideAcquiresTheDisk_10 : ∃ (s : State), s.get .TIDE_STATUS_ROOT_LOCK = 0 :=
  ⟨State.reset, by decide +kernel⟩

theorem test_meets_TideAcquiresTheDisk_11 : ∃ (s : State), (s.get .TIDE_STATUS_STATE = 1 ∨ (s.get .TIDE_STATUS_STATE = 2 ∧
  s.tide.reacquiring = false)) :=
  ⟨{ (State.reset.set .TIDE_STATUS_STATE 1) with tide := { acqFails := 2 } }, by decide +kernel⟩

theorem test_meets_TideLosesAndFollows_1 : ∃ (s : State) (h : Nat) (low : Nat), h < 2 ∧ 64 ≤ low ∧ s.get (headOk h) = 1 ∧
  s.get (headOk (1 - h)) = 1 ∧ s.tideLocked = true :=
  ⟨(((State.reset.set .TIDE_STATUS_T0_OK 1).set .TIDE_STATUS_T1_OK 1).set .TIDE_STATUS_STATE 3), 0, 64, by decide +kernel⟩

theorem test_meets_TideLosesAndFollows_2 : ∃ (s : State) (h : Nat) (low : Nat), h < 2 ∧ 64 ≤ low ∧ s.get (headOk h) = 1 ∧
  s.get (headOk (1 - h)) = 0 ∧ s.tideLocked = true :=
  ⟨((State.reset.set .TIDE_STATUS_T1_OK 1).set .TIDE_STATUS_STATE 4), 1, 64, by decide +kernel⟩

theorem test_meets_TideLosesAndFollows_3 : ∃ (low : Nat), low < 64 :=
  ⟨63, by decide +kernel⟩

theorem test_meets_TideLosesAndFollows_4 : ∃ (s : State) (h : Nat) (cells : Nat), h < 2 ∧ cells ≠ 1048576 ∧
  s.get (headOk h) = 1 ∧ s.get (headOk (1 - h)) = 1 ∧ s.tideLocked = true :=
  ⟨(((State.reset.set .TIDE_STATUS_T0_OK 1).set .TIDE_STATUS_T1_OK 1).set .TIDE_STATUS_STATE 3), 0, 1048575,
    by decide +kernel⟩

theorem test_meets_TideLosesAndFollows_5 : ∃ (s : State) (h : Nat) (cells : Nat), h < 2 ∧ cells ≠ 1048576 ∧
  s.get (headOk h) = 1 ∧ s.get (headOk (1 - h)) = 0 ∧ s.tideLocked = true :=
  ⟨((State.reset.set .TIDE_STATUS_T1_OK 1).set .TIDE_STATUS_STATE 4), 1, 1048577, by decide +kernel⟩

theorem test_meets_TideLosesAndFollows_6 : ∃ (s : State) (k : Nat), 1024 ≤ k ∧ s.get .TIDE_STATUS_T0_OK = 1 ∧
  s.get .TIDE_STATUS_T1_OK = 1 ∧ s.tideLocked = true :=
  ⟨(((State.reset.set .TIDE_STATUS_T0_OK 1).set .TIDE_STATUS_T1_OK 1).set .TIDE_STATUS_STATE 3), 1024, by decide +kernel⟩

theorem test_meets_TideLosesAndFollows_7 : ∃ (s : State) (k : Nat) (cells0 : Nat), 1024 ≤ k ∧ cells0 ≠ 1048576 ∧
  s.get .TIDE_STATUS_T0_OK = 1 ∧ s.get .TIDE_STATUS_T1_OK = 1 ∧ s.tideLocked = true :=
  ⟨(((State.reset.set .TIDE_STATUS_T0_OK 1).set .TIDE_STATUS_T1_OK 1).set .TIDE_STATUS_STATE 3), 1024, 9, by decide +kernel⟩

theorem test_meets_TideLosesAndFollows_8 : ∃ (k : Nat), k < 1024 :=
  ⟨1023, by decide +kernel⟩

theorem test_meets_TideLosesAndFollows_9 : ∃ (s : State), s.get .TIDE_STATUS_STATE = 5 ∧ (64 ≤ s.tide.holdRevs ∨ ∀ k < 4,
  s.trackFollowing k = false) :=
  ⟨{ (State.reset.set .TIDE_STATUS_STATE 5) with tide := { holdRevs := 64 }, mireRuns := true }, by decide +kernel⟩

theorem test_meets_TideLosesAndFollows_10 : ∃ (s : State), s.get .TIDE_STATUS_STATE ≠ 5 :=
  ⟨(State.reset.set .TIDE_STATUS_STATE 3), by decide +kernel⟩

theorem test_meets_TideLosesAndFollows_11 : ∃ (s : State), s.get .TIDE_STATUS_OPT_LOADED = 0 :=
  ⟨State.reset, by decide +kernel⟩

theorem test_meets_TideLosesAndFollows_12 : ∃ (s : State), s.get .TIDE_STATUS_OPT_LOADED = 1 :=
  ⟨(State.reset.set .TIDE_STATUS_OPT_LOADED 1), by decide +kernel⟩

theorem test_meets_TideLosesAndFollows_13 : ∃ (s : State) (mang : Word), s.domainOn 101 = true ∧ s.get .TIDE_CTRL_ESO_EN = 1 ∧
  s.tideLocked = true ∧ mang.toNat % 0x4000000 = 0 :=
  ⟨((State.reset.set .TIDE_CTRL_ESO_EN 1).set .TIDE_STATUS_STATE 3), 0x04000000, by decide +kernel⟩

theorem test_meets_TideLosesAndFollows_14 : ∃ (s : State) (mang : Word), s.domainOn 101 = true ∧ 0x4000000 ≤ mang.toNat ∧
  mang.toNat % 0x4000000 = 0x1000000 :=
  ⟨State.reset, 0x05000000, by decide +kernel⟩

theorem test_meets_TideLosesAndFollows_15 : ∃ (s : State), s.domainOn 101 = true :=
  ⟨State.reset, by decide +kernel⟩

theorem test_meets_TideLosesAndFollows_16 : ∃ (s : State) (period : Nat), s.domainOn 101 = true ∧
  s.get .TIDE_CTRL_ESI_EN = 1 ∧ s.get .TIDE_STATUS_ESI_VALID = 1 ∧ esiGood s.tide.esiPeriods period = true :=
  ⟨{ ((State.reset.set .TIDE_CTRL_ESI_EN 1).set .TIDE_STATUS_ESI_VALID 1) with tide := { esiPeriods := [3000000] } }, 3000000,
    by decide +kernel⟩

theorem test_meets_TideLosesAndFollows_17 : ∃ (s : State) (period : Nat), s.domainOn 101 = true ∧
  s.get .TIDE_CTRL_ESI_EN = 1 ∧ s.get .TIDE_STATUS_ESI_VALID = 1 ∧ s.tide.esiBad = 2 ∧
  esiGood s.tide.esiPeriods period = false :=
  ⟨{ ((State.reset.set .TIDE_CTRL_ESI_EN 1).set .TIDE_STATUS_ESI_VALID 1) with tide := { esiPeriods := [3000000], esiBad := 2 } },
    1, by decide +kernel⟩

theorem test_meets_TideLosesAndFollows_18 : ∃ (s : State) (period : Nat), s.domainOn 101 = true ∧
  s.get .TIDE_CTRL_ESI_EN = 1 ∧ s.get .TIDE_STATUS_ESI_VALID = 0 ∧ 7 ≤ s.tide.esiPeriods.length ∧
  ((period :: s.tide.esiPeriods).take 8).all (esiGood ((period :: s.tide.esiPeriods).take 8)) = true :=
  ⟨{ (State.reset.set .TIDE_CTRL_ESI_EN 1) with tide := { esiPeriods := List.replicate 7 3000000 } }, 3000000,
    by decide +kernel⟩

theorem test_meets_TideLosesAndFollows_19 : ∃ (s : State), s.get .TIDE_CTRL_ESI_EN = 0 :=
  ⟨State.reset, by decide +kernel⟩

theorem test_meets_TideLosesAndFollows_20 : ∃ (s : State), s.get .TIDE_CTRL_ESI_EN = 1 ∧ s.get .TIDE_STATUS_ESI_VALID = 1 :=
  ⟨((State.reset.set .TIDE_CTRL_ESI_EN 1).set .TIDE_STATUS_ESI_VALID 1), by decide +kernel⟩

theorem test_meets_TideLosesAndFollows_21 : ∃ (s : State), s.get .TIDE_CTRL_ESI_EN = 1 ∧ s.get .TIDE_CTRL_ESI_PHASE_EN = 1 :=
  ⟨((State.reset.set .TIDE_CTRL_ESI_EN 1).set .TIDE_CTRL_ESI_PHASE_EN 1), by decide +kernel⟩

theorem test_meets_SpindleStarts_1 : ∃ (s : State), s.get .WTH_SPN_STATUS_STATE = 0 :=
  ⟨State.reset, by decide +kernel⟩

theorem test_meets_SpindleStarts_2 : ∃ (s : State), s.get .WTH_SPN_STATUS_STATE ≠ 0 :=
  ⟨(State.reset.set .WTH_SPN_STATUS_STATE 5), by decide +kernel⟩

theorem test_meets_SpindleStarts_3 : ∃ (s : State) (emf : Nat), s.get .WTH_SPN_STATUS_STATE = 1 ∧
  s.get .WTH_SPN_CTRL_RUN = 1 ∧ s.atRest emf = true :=
  ⟨((State.reset.set .WTH_SPN_STATUS_STATE 1).set .WTH_SPN_CTRL_RUN 1), 0, by decide +kernel⟩

theorem test_meets_SpindleStarts_4 : ∃ (s : State) (emf : Nat) (reverse : Bool), s.get .WTH_SPN_STATUS_STATE = 1 ∧
  s.get .WTH_SPN_CTRL_RUN = 1 ∧ s.atRest emf = false ∧ reverse = true :=
  ⟨((State.reset.set .WTH_SPN_STATUS_STATE 1).set .WTH_SPN_CTRL_RUN 1), 9000, true, by decide +kernel⟩

theorem test_meets_SpindleStarts_5 : ∃ (s : State) (emf : Nat) (speed : Nat) (reverse : Bool),
  s.get .WTH_SPN_STATUS_STATE = 1 ∧ s.get .WTH_SPN_CTRL_RUN = 1 ∧ s.atRest emf = false ∧ reverse = false ∧
  speed < 300 * 1024 :=
  ⟨((State.reset.set .WTH_SPN_STATUS_STATE 1).set .WTH_SPN_CTRL_RUN 1), 9000, 5, false, by decide +kernel⟩

theorem test_meets_SpindleStarts_6 : ∃ (s : State) (emf : Nat) (speed : Nat) (reverse : Bool),
  s.get .WTH_SPN_STATUS_STATE = 1 ∧ s.get .WTH_SPN_CTRL_RUN = 1 ∧ s.atRest emf = false ∧ reverse = false ∧
  300 * 1024 ≤ speed ∧ speed < 1000 * 1024 :=
  ⟨((State.reset.set .WTH_SPN_STATUS_STATE 1).set .WTH_SPN_CTRL_RUN 1), 9000, 307200, false, by decide +kernel⟩

theorem test_meets_SpindleStarts_7 : ∃ (s : State), s.get .WTH_SPN_STATUS_STATE = 1 ∧ s.get .WTH_SPN_CTRL_RUN = 0 :=
  ⟨(State.reset.set .WTH_SPN_STATUS_STATE 1), by decide +kernel⟩

theorem test_meets_SpindleStarts_8 : ∃ (s : State), s.get .WTH_SPN_STATUS_STATE = 3 :=
  ⟨(State.reset.set .WTH_SPN_STATUS_STATE 3), by decide +kernel⟩

theorem test_meets_SpindleStarts_9 : ∃ (s : State), s.get .WTH_SPN_STATUS_STATE = 3 :=
  ⟨(State.reset.set .WTH_SPN_STATUS_STATE 3), by decide +kernel⟩

theorem test_meets_SpindleStarts_10 : ∃ (s : State), s.get .WTH_SPN_STATUS_STATE = 4 ∧ s.withy.watching = false :=
  ⟨(State.reset.set .WTH_SPN_STATUS_STATE 4), by decide +kernel⟩

theorem test_meets_SpindleStarts_11 : ∃ (s : State), s.get .WTH_SPN_STATUS_STATE = 4 ∧ s.withy.testing = true :=
  ⟨{ (State.reset.set .WTH_SPN_STATUS_STATE 4) with withy := { testing := true } }, by decide +kernel⟩

theorem test_meets_SpindleStarts_12 : ∃ (s : State), s.get .WTH_SPN_STATUS_STATE = 4 ∧ s.withy.testing = true ∧
  s.get .WTH_SPN_STATUS_ATTEMPT < 2 :=
  ⟨{ (State.reset.set .WTH_SPN_STATUS_STATE 4) with withy := { testing := true } }, by decide +kernel⟩

theorem test_meets_SpindleStarts_13 : ∃ (s : State), s.get .WTH_SPN_STATUS_STATE = 4 ∧ s.withy.testing = true ∧
  s.get .WTH_SPN_STATUS_ATTEMPT = 2 :=
  ⟨{ ((State.reset.set .WTH_SPN_STATUS_STATE 4).set .WTH_SPN_STATUS_ATTEMPT 2) with withy := { testing := true } },
    by decide +kernel⟩

theorem test_meets_SpindleStarts_14 : ∃ (s : State) (emf : Nat), s.get .WTH_SPN_STATUS_STATE = 4 ∧ s.withy.watching = true ∧
  s.atRest emf = true :=
  ⟨{ (State.reset.set .WTH_SPN_STATUS_STATE 4) with withy := { watching := true } }, 0, by decide +kernel⟩

theorem test_meets_SpindleStarts_15 : ∃ (s : State) (emf : Nat) (reverse : Bool), s.get .WTH_SPN_STATUS_STATE = 4 ∧
  s.withy.watching = true ∧ s.atRest emf = false ∧ reverse = true :=
  ⟨{ (State.reset.set .WTH_SPN_STATUS_STATE 4) with withy := { watching := true } }, 9000, true, by decide +kernel⟩

theorem test_meets_SpindleStarts_16 : ∃ (s : State) (emf : Nat) (speed : Nat) (reverse : Bool),
  s.get .WTH_SPN_STATUS_STATE = 4 ∧ s.withy.watching = true ∧ s.atRest emf = false ∧ reverse = false ∧ speed < 300 * 1024 :=
  ⟨{ (State.reset.set .WTH_SPN_STATUS_STATE 4) with withy := { watching := true } }, 9000, 5, false, by decide +kernel⟩

theorem test_meets_SpindleStarts_17 : ∃ (s : State) (emf : Nat) (speed : Nat) (reverse : Bool),
  s.get .WTH_SPN_STATUS_STATE = 4 ∧ s.withy.watching = true ∧ s.atRest emf = false ∧ reverse = false ∧ 300 * 1024 ≤ speed ∧
  speed < 1000 * 1024 :=
  ⟨{ (State.reset.set .WTH_SPN_STATUS_STATE 4) with withy := { watching := true } }, 9000, 307200, false, by decide +kernel⟩

theorem test_meets_SpindleStarts_18 : ∃ (s : State), s.get .WTH_SPN_STATUS_STATE = 5 ∧ s.withy.keDone = false ∧
  s.withy.keOff = false ∧ 1000 * 1024 ≤ s.get .WTH_SPN_MEAS_SPEED :=
  ⟨((State.reset.set .WTH_SPN_STATUS_STATE 5).set .WTH_SPN_MEAS_SPEED 1024000), by decide +kernel⟩

theorem test_meets_SpindleStarts_19 : ∃ (s : State) (emf : Nat) (speed : Nat), s.get .WTH_SPN_STATUS_STATE = 5 ∧
  s.withy.keOff = true ∧ s.keBad (keOf emf speed) = false :=
  ⟨{ ((State.reset.set .WTH_SPN_STATUS_STATE 5).set .WTH_SPN_KE_KE_NOM 5000) with withy := { keOff := true } }, 5000, 1024000,
    by decide +kernel⟩

theorem test_meets_SpindleStarts_20 : ∃ (s : State) (emf : Nat) (speed : Nat), s.get .WTH_SPN_STATUS_STATE = 5 ∧
  s.withy.keOff = true ∧ s.keBad (keOf emf speed) = true :=
  ⟨{ (State.reset.set .WTH_SPN_STATUS_STATE 5) with withy := { keOff := true } }, 5000, 1024000, by decide +kernel⟩

theorem test_meets_SpindleStops_1 : ∃ (s : State), s.get .WTH_SPN_STATUS_STATE = 5 ∧ s.allParked = false :=
  ⟨((State.reset.set .WTH_SPN_STATUS_STATE 5).set (.WTH_VCM_STATUS_PARKED 1) 0), by decide +kernel⟩

theorem test_meets_SpindleStops_2 : ∃ (s : State), (s.get .WTH_SPN_STATUS_STATE = 4 ∨ (s.get .WTH_SPN_STATUS_STATE = 5 ∧
  s.allParked = true)) :=
  ⟨(State.reset.set .WTH_SPN_STATUS_STATE 4), by decide +kernel⟩

theorem test_meets_SpindleStops_3 : ∃ (s : State), s.get .WTH_SPN_STATUS_STATE = 3 :=
  ⟨(State.reset.set .WTH_SPN_STATUS_STATE 3), by decide +kernel⟩

theorem test_meets_SpindleStops_4 : ∃ (s : State), s.get .WTH_SPN_STATUS_STATE ∉ [3, 4, 5] :=
  ⟨(State.reset.set .WTH_SPN_STATUS_STATE 1), by decide +kernel⟩

theorem test_meets_SpindleStops_5 : ∃ (s : State), s.get .WTH_SPN_STATUS_STOP_BLOCKED = 1 ∧ s.allParked = true :=
  ⟨((((((State.reset.set .WTH_SPN_STATUS_STATE 5).set .WTH_SPN_STATUS_STOP_BLOCKED 1).set (.WTH_VCM_STATUS_PARKED 0) 1).set (.WTH_VCM_STATUS_PARKED 1) 1).set (.WTH_VCM_STATUS_PARKED 2) 1).set (.WTH_VCM_STATUS_PARKED 3) 1),
    by decide +kernel⟩

theorem test_meets_SpindleStops_6 : ∃ (s : State), s.get .WTH_SPN_STATUS_STATE = 6 :=
  ⟨(State.reset.set .WTH_SPN_STATUS_STATE 6), by decide +kernel⟩

theorem test_meets_SpindleStops_7 : ∃ (s : State), s.get .WTH_SPN_STATUS_STATE = 2 :=
  ⟨(State.reset.set .WTH_SPN_STATUS_STATE 2), by decide +kernel⟩

theorem test_meets_SpindleStops_8 : ∃ (s : State), s.get .WTH_SPN_STATUS_STATE = 9 :=
  ⟨(State.reset.set .WTH_SPN_STATUS_STATE 9), by decide +kernel⟩

theorem test_meets_SpindleStops_9 : ∃ (s : State) (emf : Nat),
  (s.get .WTH_SPN_STATUS_STATE = 8 ∨ s.get .WTH_SPN_STATUS_STATE = 9) ∧ s.atRest emf = true :=
  ⟨(State.reset.set .WTH_SPN_STATUS_STATE 9), 49, by decide +kernel⟩

theorem test_meets_SpindleStops_10 : ∃ (s : State) (emf : Nat), s.atRest emf = false :=
  ⟨(State.reset.set .WTH_SPN_STATUS_STATE 9), 9000, by decide +kernel⟩

theorem test_meets_SpindleStops_11 : ∃ (s : State), s.get .WTH_SPN_STATUS_STATE = 2 :=
  ⟨(State.reset.set .WTH_SPN_STATUS_STATE 2), by decide +kernel⟩

theorem test_meets_SpindleStops_12 : ∃ (s : State), s.get .WTH_SPN_STATUS_STATE = 5 ∧ s.getS .WTH_SPN_FOC_ID ≤ s.idFloor ∧
  92 * 1024 < 100 * s.get .WTH_SPN_FOC_MI :=
  ⟨(((State.reset.set .WTH_SPN_STATUS_STATE 5).set .WTH_SPN_FOC_ID 64536).set .WTH_SPN_FOC_MI 1000), by decide +kernel⟩

theorem test_meets_SpindleStops_13 : ∃ (s : State),
  (s.get .WTH_SPN_STATUS_STATE = 2 ∨ s.get .WTH_SPN_STATUS_STATE = 4 ∨ s.get .WTH_SPN_STATUS_STATE = 5 ∨ s.get .WTH_SPN_STATUS_STATE = 9) :=
  ⟨(State.reset.set .WTH_SPN_STATUS_STATE 5), by decide +kernel⟩

theorem test_meets_SpindleStops_14 : ∃ (s : State), s.get .WTH_SPN_STATUS_STATE ∈ [0, 1, 3, 6, 7] :=
  ⟨(State.reset.set .WTH_SPN_STATUS_STATE 7), by decide +kernel⟩

theorem test_meets_SpindleStops_15 : ∃ (s : State) (vhb : Nat), s.get .WEIR_STATUS_CHOP_FAULT = 1 ∧ 14200 < vhb :=
  ⟨(State.reset.set .WEIR_STATUS_CHOP_FAULT 1), 14201, by decide +kernel⟩

theorem test_meets_SpindleStops_16 : ∃ (s : State) (vhb : Nat), s.get .WTH_SPN_STATUS_STATE = 7 ∧
  vhb + 500 ≤ 10 * s.get .WTH_HOLD_VSET :=
  ⟨((State.reset.set .WTH_SPN_STATUS_STATE 7).set .WTH_HOLD_VSET 50), 0, by decide +kernel⟩

theorem test_meets_SpindleStops_17 : ∃ (s : State),
  (s.get .WTH_SPN_STATUS_STATE = 2 ∨ s.get .WTH_SPN_STATUS_STATE = 4 ∨ s.get .WTH_SPN_STATUS_STATE = 5 ∨ s.get .WTH_SPN_STATUS_STATE = 9) :=
  ⟨(State.reset.set .WTH_SPN_STATUS_STATE 5), by decide +kernel⟩

theorem test_meets_SpindleStops_18 : ∃ (s : State), s.get .WTH_SPN_STATUS_STATE ∈ [0, 1, 3, 6, 7] :=
  ⟨(State.reset.set .WTH_SPN_STATUS_STATE 7), by decide +kernel⟩

theorem test_meets_SpindleStops_19 : ∃ (s : State), s.get .WTH_SPN_STATUS_STATE = 5 :=
  ⟨(State.reset.set .WTH_SPN_STATUS_STATE 5), by decide +kernel⟩

theorem test_meets_SpindleStops_20 : ∃ (s : State) (speed : Nat),
  (s.get .WTH_SPN_STATUS_STATE = 6 ∨ s.get .WTH_SPN_STATUS_STATE = 9) ∧ s.withy.bridge = .regen ∧ speed ≤ 300 * 1024 :=
  ⟨{ (State.reset.set .WTH_SPN_STATUS_STATE 6) with withy := { bridge := .regen } }, 307200, by decide +kernel⟩

theorem test_meets_SpindleStops_21 : ∃ (s : State), s.get .WTH_SPN_STATUS_STATE = 4 ∧ s.withy.bridge = .ramp :=
  ⟨{ (State.reset.set .WTH_SPN_STATUS_STATE 4) with withy := { bridge := .ramp } }, by decide +kernel⟩

theorem test_meets_ActuatorsRetractAndPark_1 : ∃ (k : Nat), k < 4 :=
  ⟨2, by decide +kernel⟩

theorem test_meets_ActuatorsRetractAndPark_2 : ∃ (k : Nat), k < 8 :=
  ⟨2, by decide +kernel⟩

theorem test_meets_ActuatorsRetractAndPark_3 : ∃ (s : State) (k : Nat), s.get (.WTH_VCM_STATUS_RET_ACTIVE k) = 0 :=
  ⟨State.reset, 2, by decide +kernel⟩

theorem test_meets_ActuatorsRetractAndPark_4 : ∃ (s : State) (k : Nat), s.get (.WTH_VCM_STATUS_RET_ACTIVE k) = 1 :=
  ⟨(State.reset.set (.WTH_VCM_STATUS_RET_ACTIVE 2) 1), 2, by decide +kernel⟩

theorem test_meets_ActuatorsRetractAndPark_5 : ∃ (s : State) (k : Nat), s.get (.WTH_VCM_STATUS_RET_ACTIVE k) = 0 :=
  ⟨State.reset, 2, by decide +kernel⟩

theorem test_meets_ActuatorsRetractAndPark_6 : ∃ (vhb : Nat), vhb < 7000 :=
  ⟨6999, by decide +kernel⟩

theorem test_meets_ActuatorsRetractAndPark_7 : ∃ (vhb : Nat), 7000 ≤ vhb :=
  ⟨7000, by decide +kernel⟩

theorem test_meets_ActuatorsRetractAndPark_8 : ∃ (s : State) (k : Nat), s.withy.retract.at k = .moving :=
  ⟨{ State.reset with withy := { retract := [(2, .moving)] } }, 2, by decide +kernel⟩

theorem test_meets_ActuatorsRetractAndPark_9 : ∃ (s : State) (k : Nat), k < 4 ∧ s.withy.retract.at k = .moving :=
  ⟨{ State.reset with withy := { retract := [(2, .moving)] } }, 2, by decide +kernel⟩

theorem test_meets_ActuatorsRetractAndPark_10 : ∃ (s : State) (k : Nat), s.withy.retract.at k = .hold :=
  ⟨{ State.reset with withy := { retract := [(2, .hold)] } }, 2, by decide +kernel⟩

theorem test_meets_ServoTicksAndWedges_1 : ∃ (s : State) (n : Nat), s.laneOn n = true :=
  ⟨(State.reset.set (.TUS_SEC_CTRL_LANE_EN 0) 1), 0, by decide +kernel⟩

theorem test_meets_ServoTicksAndWedges_2 : ∃ (s : State) (n : Nat), s.laneOn n = false :=
  ⟨State.reset, 1, by decide +kernel⟩

theorem test_meets_ServoTicksAndWedges_3 : ∃ (s : State) (n : Nat), n < 8 ∧ s.get (missFld n) = 8 :=
  ⟨(State.reset.set (.TUS_SEC_STATUS_MISS1 0) 8), 1, by decide +kernel⟩

theorem test_meets_ServoTicksAndWedges_4 : ∃ (s : State) (k : Nat), k < 4 ∧ (s.sec k).satRun = 8 :=
  ⟨{ State.reset with tus := { secs := [(1, { satRun := 8 })] } }, 1, by decide +kernel⟩

theorem test_meets_ServoTicksAndWedges_5 : ∃ (s : State) (n : Nat), (s.lane n).errInh = true ∧ (s.lane n).quiet = 8 ∧
  s.winhOther n = false :=
  ⟨{ State.reset with tus := { lanes := [(1, { errInh := true, quiet := 8 })] } }, 1, by decide +kernel⟩

theorem test_meets_ServoTicksAndWedges_6 : ∃ (s : State), s.get .SDG_WF_STATUS_SHOCK_ACTIVE = 1 ∧
  max 1 (s.get .SDG_SHOCK_CFG_HOLD) ≤ s.shockQuiet :=
  ⟨{ (State.reset.set .SDG_WF_STATUS_SHOCK_ACTIVE 1) with shockQuiet := 64 }, by decide +kernel⟩

theorem test_meets_SeeksAndRegions_1 : ∃ (s : State) (k : Nat), k < 4 ∧ s.settles k = true :=
  ⟨{ (State.reset.set (.TUS_SEEK_STATUS_SEEKING 1) 1) with tus := { secs := [(1, { seek := { settle := 15 } })] } }, 1,
    by decide +kernel⟩

theorem test_meets_SeeksAndRegions_2 : ∃ (s : State), s.get .TUS_CTRL_TABLES_VALID = 1 :=
  ⟨(State.reset.set .TUS_CTRL_TABLES_VALID 1), by decide +kernel⟩

theorem test_meets_SeeksAndRegions_3 : ∃ (s : State) (k : Nat) (r : Nat), s.get .TUS_CTRL_TABLES_VALID = 1 ∧
  (s.sec k).fetching = some r ∧ (s.regionWords k r).getD 105 0 = regionTag k r :=
  ⟨{ (State.reset.set .TUS_CTRL_TABLES_VALID 1) with tus := { secs := [(0, { fetching := some 0 })], tables := [(105, 0xA5000000)] } },
    0, 0, by decide +kernel⟩

theorem test_meets_SeeksAndRegions_4 : ∃ (s : State) (k : Nat) (r : Nat), k < 4 ∧ s.get .TUS_CTRL_TABLES_VALID = 1 ∧
  (s.sec k).fetching = some r ∧ (s.regionWords k r).getD 105 0 ≠ regionTag k r :=
  ⟨{ (State.reset.set .TUS_CTRL_TABLES_VALID 1) with tus := { secs := [(0, { fetching := some 0 })] } }, 0, 0,
    by decide +kernel⟩

theorem test_meets_PreampLinks_1 : ∃ (s : State) (l : Nat), s.domainOn (89 + l) = true ∧ (s.link l).released = true ∧
  (s.link l).sent = none :=
  ⟨{ State.reset with links := [(1, { released := true })] }, 1, by decide +kernel⟩

theorem test_meets_PreampLinks_2 : ∃ (s : State) (l : Nat), s.domainOn (89 + l) = true ∧ (s.link l).released = true ∧
  (s.link l).sent = none :=
  ⟨{ State.reset with links := [(1, { released := true })] }, 1, by decide +kernel⟩

theorem test_meets_PreampLinks_3 : ∃ (s : State) (l : Nat) (frame : Nat) (f : PlFrame), s.domainOn (89 + l) = true ∧
  (s.link l).sent = some f ∧ frame = plFrame (if f.data.isSome then 2 else 3) 16 (frame / 256 % 65536) :=
  ⟨{ State.reset with links := [(1, { sent := some {} })] }, 1, plFrame 3 16 7, {}, by decide +kernel⟩

theorem test_meets_PreampLinks_4 : ∃ (s : State) (l : Nat) (frame : Nat) (f : PlFrame), s.domainOn (89 + l) = true ∧
  (s.link l).sent = some f ∧ frame ≠ plFrame (if f.data.isSome then 2 else 3) 16 (frame / 256 % 65536) ∧
  (s.link l).fails < 2 :=
  ⟨{ State.reset with links := [(1, { sent := some {} })] }, 1, 0, {}, by decide +kernel⟩

theorem test_meets_PreampLinks_5 : ∃ (s : State) (l : Nat) (f : PlFrame), s.domainOn (89 + l) = true ∧
  (s.link l).sent = some f ∧ (s.link l).fails = 2 :=
  ⟨{ State.reset with links := [(4, { sent := some {}, fails := 2 })] }, 4, {}, by decide +kernel⟩

theorem test_meets_PreampLinks_6 : ∃ (s : State) (l : Nat) (f : PlFrame), s.domainOn (89 + l) = true ∧
  (s.link l).sent = some f ∧ (s.link l).fails < 2 :=
  ⟨{ State.reset with links := [(4, { sent := some {} })] }, 4, {}, by decide +kernel⟩

theorem test_meets_PreampLinks_7 : ∃ (s : State) (l : Nat), s.domainOn (89 + l) = true :=
  ⟨State.reset, 1, by decide +kernel⟩

theorem test_meets_PreampLinks_8 : ∃ (s : State) (l : Nat), s.domainOn (89 + l) = true ∧ (s.link l).missed = 0 :=
  ⟨State.reset, 1, by decide +kernel⟩

theorem test_meets_PreampLinks_9 : ∃ (s : State) (l : Nat), s.domainOn (89 + l) = true ∧ (s.link l).missed ≠ 0 ∧ l < 4 :=
  ⟨{ State.reset with links := [(1, { missed := 1 })] }, 1, by decide +kernel⟩

theorem test_meets_PreampLinks_10 : ∃ (s : State), s.domainOn 93 = true ∧ (s.link 4).missed ≠ 0 :=
  ⟨{ State.reset with links := [(4, { missed := 1 })] }, by decide +kernel⟩

theorem test_meets_PreampLinks_11 : ∃ (l : Nat), l < 4 :=
  ⟨1, by decide +kernel⟩

theorem test_meets_OperationsStartAndEnd_1 : ∃ (s : State) (n : Nat), n < 8 ∧ s.gated (0x4600_1000 + 0x100 * n) = false ∧
  s.running n = false :=
  ⟨State.reset, 2, by decide +kernel⟩

theorem test_meets_OperationsStartAndEnd_2 : ∃ (s : State) (n : Nat), s.gated (0x4600_1000 + 0x100 * n) = false ∧
  s.running n = true :=
  ⟨(State.reset.set (.REED_ST_STATUS_STATE 2) 1), 2, by decide +kernel⟩

theorem test_meets_OperationsStartAndEnd_3 : ∃ (s : State) (n : Nat), n < 8 ∧ s.gated (0x4600_1000 + 0x100 * n) = false ∧
  s.running n = true :=
  ⟨(State.reset.set (.REED_ST_STATUS_STATE 2) 1), 2, by decide +kernel⟩

theorem test_meets_OperationsStartAndEnd_4 : ∃ (s : State) (n : Nat), s.gated (0x4600_1000 + 0x100 * n) = false ∧
  s.running n = true :=
  ⟨(State.reset.set (.REED_ST_STATUS_STATE 2) 1), 2, by decide +kernel⟩

theorem test_meets_OperationsStartAndEnd_5 : ∃ (s : State) (n : Nat), s.gated (0x4600_1000 + 0x100 * n) = false :=
  ⟨State.reset, 2, by decide +kernel⟩

theorem test_meets_OperationsStartAndEnd_6 : ∃ (s : State) (n : Nat) (c : Nat), n < 8 ∧ (s.seq n).restartDue = some c ∧
  s.domainOn (20 + n) = true ∧ s.running n = true ∧
  s.get (.REED_ST_STATUS_RESTARTS n) + 1 ≤ max 1 (s.get (.REED_ST_CFG_MAX_RESTART n)) :=
  ⟨{ (State.reset.set (.REED_ST_STATUS_STATE 2) 1) with seqs := [(2, { restartDue := some 3 })] }, 2, 3, by decide +kernel⟩

theorem test_meets_OperationsStartAndEnd_7 : ∃ (s : State) (n : Nat) (c : Nat), n < 8 ∧ (s.seq n).restartDue = some c ∧
  s.domainOn (20 + n) = true ∧ s.running n = true ∧
  max 1 (s.get (.REED_ST_CFG_MAX_RESTART n)) < s.get (.REED_ST_STATUS_RESTARTS n) + 1 :=
  ⟨{ ((State.reset.set (.REED_ST_STATUS_STATE 2) 1).set (.REED_ST_STATUS_RESTARTS 2) 15) with seqs := [(2, { restartDue := some 3 })] },
    2, 3, by decide +kernel⟩

theorem test_meets_OperationsStartAndEnd_8 : ∃ (s : State) (n : Nat) (a : Nat) (sel : Nat) (opd : Nat),
  s.microAt n 0x08 = some (a, sel, opd) ∧ s.commitRoom n = true :=
  ⟨{ (State.reset.set (.REED_ST_STATUS_STATE 0) 1) with seqs := [(0, { store := [(0, 536870917)] })] }, 0, 0, 0, 5,
    by decide +kernel⟩

theorem test_meets_OperationsStartAndEnd_9 : ∃ (s : State) (n : Nat) (a : Nat) (sel : Nat) (opd : Nat),
  s.microAt n 0x08 = some (a, sel, opd) ∧ s.commitRoom n = false :=
  ⟨{ (State.reset.set (.REED_ST_STATUS_STATE 0) 1) with seqs := [(0, { store := [(0, 536870917)], owed := [{}] })] }, 0, 0, 0,
    5, by decide +kernel⟩

theorem test_meets_OperationsStartAndEnd_10 : ∃ (s : State) (n : Nat) (a : Nat) (sel : Nat) (opd : Nat), n < 8 ∧
  s.microAt n 0x3F = some (a, sel, opd) ∧ s.commitRoom n = true :=
  ⟨{ (State.reset.set (.REED_ST_STATUS_STATE 0) 1) with seqs := [(0, { store := [(0, 4227858437)] })] }, 0, 0, 0, 5,
    by decide +kernel⟩

theorem test_meets_OperationsStartAndEnd_11 : ∃ (s : State) (n : Nat) (a : Nat) (sel : Nat) (opd : Nat),
  s.microAt n 0x3F = some (a, sel, opd) ∧ s.commitRoom n = false :=
  ⟨{ (State.reset.set (.REED_ST_STATUS_STATE 0) 1) with seqs := [(0, { store := [(0, 4227858437)], owed := [{}] })] }, 0, 0,
    0, 5, by decide +kernel⟩

theorem test_meets_OperationsStartAndEnd_12 : ∃ (s : State) (n : Nat), n < 8 ∧ s.fetchMicro n = none ∧ s.running n = true ∧
  s.domainOn (20 + n) = true ∧ (s.seq n).restartDue = none :=
  ⟨((State.reset.set (.REED_ST_STATUS_STATE 2) 1).set (.REED_ST_PC_PC 2) 0x4800), 2, by decide +kernel⟩

theorem test_meets_OperationsStartAndEnd_13 : ∃ (s : State) (n : Nat) (addr : Nat) (word : Word), n < 8 ∧
  s.fetchMicro n = some (addr, word) ∧ microLegal (microOp word) (microSel word) (microOpd word) = false ∧
  s.running n = true ∧ s.domainOn (20 + n) = true ∧ (s.seq n).restartDue = none :=
  ⟨(State.reset.set (.REED_ST_STATUS_STATE 2) 1), 2, 0, 0, by decide +kernel⟩

theorem test_meets_MicrowordsWaitAndBranch_1 : ∃ (s : State) (n : Nat) (a : Nat) (sel : Nat) (opd : Nat),
  s.microAt n 0x01 = some (a, sel, opd) ∧ (s.seq n).stall = .cond ∧ (s.cond n sel != decide (2 ^ 21 ≤ opd)) = true :=
  ⟨{ (State.reset.set (.REED_ST_STATUS_STATE 0) 1) with seqs := [(0, { store := [(0, 67108864)], stall := .cond })] }, 0, 0,
    0, 0, by decide +kernel⟩

theorem test_meets_MicrowordsWaitAndBranch_2 : ∃ (s : State) (n : Nat) (a : Nat) (sel : Nat) (opd : Nat),
  s.microAt n 0x01 = some (a, sel, opd) ∧ (s.seq n).stall = .cond ∧ (s.cond n sel != decide (2 ^ 21 ≤ opd)) = false :=
  ⟨{ (State.reset.set (.REED_ST_STATUS_STATE 0) 1) with seqs := [(0, { store := [(0, 71303168)], stall := .cond })] }, 0, 0,
    1, 0, by decide +kernel⟩

theorem test_meets_MicrowordsWaitAndBranch_3 : ∃ (s : State) (n : Nat) (a : Nat) (sel : Nat) (opd : Nat),
  s.microAt n 0x01 = some (a, sel, opd) ∧ (s.seq n).stall ≠ .cond ∧ sel ≠ 5 ∧
  (s.cond n sel != decide (2 ^ 21 ≤ opd)) = true :=
  ⟨{ (State.reset.set (.REED_ST_STATUS_STATE 0) 1) with seqs := [(0, { store := [(0, 67108864)] })] }, 0, 0, 0, 0,
    by decide +kernel⟩

theorem test_meets_MicrowordsWaitAndBranch_4 : ∃ (s : State) (n : Nat) (a : Nat) (sel : Nat) (opd : Nat),
  s.microAt n 0x01 = some (a, sel, opd) ∧ (s.seq n).stall ≠ .cond ∧ sel ≠ 5 ∧
  (s.cond n sel != decide (2 ^ 21 ≤ opd)) = false :=
  ⟨{ (State.reset.set (.REED_ST_STATUS_STATE 0) 1) with seqs := [(0, { store := [(0, 71303168)] })] }, 0, 0, 1, 0,
    by decide +kernel⟩

theorem test_meets_MicrowordsWaitAndBranch_5 : ∃ (s : State) (n : Nat) (a : Nat) (sel : Nat) (opd : Nat),
  s.microAt n 0x01 = some (a, sel, opd) ∧ (s.seq n).stall = .cond ∧ opd % 2097152 ≠ 0 :=
  ⟨{ (State.reset.set (.REED_ST_STATUS_STATE 0) 1) with seqs := [(0, { store := [(0, 67108865)], stall := .cond })] }, 0, 0,
    0, 1, by decide +kernel⟩

theorem test_meets_MicrowordsWaitAndBranch_6 : ∃ (s : State) (n : Nat) (a : Nat) (sel : Nat) (opd : Nat),
  s.microAt n 0x01 = some (a, sel, opd) ∧ ((s.seq n).stall ≠ .cond ∨ opd % 2097152 = 0) :=
  ⟨{ (State.reset.set (.REED_ST_STATUS_STATE 0) 1) with seqs := [(0, { store := [(0, 67108864)], stall := .cond })] }, 0, 0,
    0, 0, by decide +kernel⟩

theorem test_meets_MicrowordsWaitAndBranch_7 : ∃ (s : State) (n : Nat) (a : Nat) (sel : Nat) (opd : Nat),
  s.microAt n 0x02 = some (a, sel, opd) ∧ opd ≠ 0 ∧ (s.seq n).stall ≠ .cycles :=
  ⟨{ (State.reset.set (.REED_ST_STATUS_STATE 0) 1) with seqs := [(0, { store := [(0, 134217733)] })] }, 0, 0, 0, 5,
    by decide +kernel⟩

theorem test_meets_MicrowordsWaitAndBranch_8 : ∃ (s : State) (n : Nat) (a : Nat) (sel : Nat) (opd : Nat),
  s.microAt n 0x02 = some (a, sel, opd) ∧ (opd = 0 ∨ (s.seq n).stall = .cycles) :=
  ⟨{ (State.reset.set (.REED_ST_STATUS_STATE 0) 1) with seqs := [(0, { store := [(0, 134217733)], stall := .cycles })] }, 0,
    0, 0, 5, by decide +kernel⟩

theorem test_meets_MicrowordsWaitAndBranch_9 : ∃ (s : State) (n : Nat) (a : Nat) (sel : Nat) (opd : Nat) (mang : Word) (target : Word) (armed : Bool),
  s.microAt n 0x03 = some (a, sel, opd) ∧ (s.seq n).stall = .angle target armed ∧ angleReached mang target armed = true :=
  ⟨{ (State.reset.set (.REED_ST_STATUS_STATE 0) 1) with seqs := [(0, { store := [(0, 201326597)], stall := .angle 7 true })] },
    0, 0, 0, 5, 7, 7, true, by decide +kernel⟩

theorem test_meets_MicrowordsWaitAndBranch_10 : ∃ (s : State) (n : Nat) (a : Nat) (sel : Nat) (opd : Nat) (mang : Word) (target : Word) (armed : Bool),
  s.microAt n 0x03 = some (a, sel, opd) ∧ (s.seq n).stall = .angle target armed ∧ angleReached mang target armed = false :=
  ⟨{ (State.reset.set (.REED_ST_STATUS_STATE 0) 1) with seqs := [(0, { store := [(0, 201326597)], stall := .angle 7 true })] },
    0, 0, 0, 5, 3, 7, true, by decide +kernel⟩

theorem test_meets_MicrowordsWaitAndBranch_11 : ∃ (s : State) (n : Nat) (a : Nat) (sel : Nat) (opd : Nat) (mang : Word),
  s.microAt n 0x03 = some (a, sel, opd) ∧ (s.seq n).stall.atAngle = false ∧
  mang = (s.greg n sel + BitVec.ofNat 32 (opd % 2 ^ 21)) :=
  ⟨{ (State.reset.set (.REED_ST_STATUS_STATE 0) 1) with seqs := [(0, { store := [(0, 201326597)] })] }, 0, 0, 0, 5, 5,
    by decide +kernel⟩

theorem test_meets_MicrowordsWaitAndBranch_12 : ∃ (s : State) (n : Nat) (a : Nat) (sel : Nat) (opd : Nat) (mang : Word),
  s.microAt n 0x03 = some (a, sel, opd) ∧ (s.seq n).stall.atAngle = false ∧
  mang ≠ (s.greg n sel + BitVec.ofNat 32 (opd % 2 ^ 21)) ∧
  ahead mang (s.greg n sel + BitVec.ofNat 32 (opd % 2 ^ 21)) = true :=
  ⟨{ (State.reset.set (.REED_ST_STATUS_STATE 0) 1) with seqs := [(0, { store := [(0, 201326597)] })] }, 0, 0, 0, 5, 3,
    by decide +kernel⟩

theorem test_meets_MicrowordsWaitAndBranch_13 : ∃ (s : State) (n : Nat) (a : Nat) (sel : Nat) (opd : Nat) (mang : Word),
  s.microAt n 0x03 = some (a, sel, opd) ∧ (s.seq n).stall.atAngle = false ∧
  ahead mang (s.greg n sel + BitVec.ofNat 32 (opd % 2 ^ 21)) = false ∧ opd < 2097152 :=
  ⟨{ (State.reset.set (.REED_ST_STATUS_STATE 0) 1) with seqs := [(0, { store := [(0, 201326597)] })] }, 0, 0, 0, 5, 7,
    by decide +kernel⟩

theorem test_meets_MicrowordsWaitAndBranch_14 : ∃ (s : State) (n : Nat) (a : Nat) (sel : Nat) (opd : Nat) (mang : Word),
  s.microAt n 0x03 = some (a, sel, opd) ∧ (s.seq n).stall.atAngle = false ∧
  ahead mang (s.greg n sel + BitVec.ofNat 32 (opd % 2 ^ 21)) = false ∧ 2097152 ≤ opd :=
  ⟨{ (State.reset.set (.REED_ST_STATUS_STATE 0) 1) with seqs := [(0, { store := [(0, 203423749)] })] }, 0, 0, 0, 2097157, 7,
    by decide +kernel⟩

theorem test_meets_MicrowordsWaitAndBranch_15 : ∃ (s : State) (n : Nat) (a : Nat) (sel : Nat) (opd : Nat),
  s.microAt n 0x10 = some (a, sel, opd) :=
  ⟨{ (State.reset.set (.REED_ST_STATUS_STATE 0) 1) with seqs := [(0, { store := [(0, 1073741829)] })] }, 0, 0, 0, 5,
    by decide +kernel⟩

theorem test_meets_MicrowordsWaitAndBranch_16 : ∃ (s : State) (n : Nat) (a : Nat) (sel : Nat) (opd : Nat),
  s.microAt n 0x11 = some (a, sel, opd) ∧ (s.cond n sel != decide (2 ^ 21 ≤ opd)) = true :=
  ⟨{ (State.reset.set (.REED_ST_STATUS_STATE 0) 1) with seqs := [(0, { store := [(0, 1140850693)] })] }, 0, 0, 0, 5,
    by decide +kernel⟩

theorem test_meets_MicrowordsWaitAndBranch_17 : ∃ (s : State) (n : Nat) (a : Nat) (sel : Nat) (opd : Nat),
  s.microAt n 0x11 = some (a, sel, opd) ∧ (s.cond n sel != decide (2 ^ 21 ≤ opd)) = false :=
  ⟨{ (State.reset.set (.REED_ST_STATUS_STATE 0) 1) with seqs := [(0, { store := [(0, 1145044997)] })] }, 0, 0, 1, 5,
    by decide +kernel⟩

theorem test_meets_MicrowordsWaitAndBranch_18 : ∃ (s : State) (n : Nat) (a : Nat) (sel : Nat) (opd : Nat),
  s.microAt n 0x12 = some (a, sel, opd) ∧ (s.seq n).stack.length < 4 :=
  ⟨{ (State.reset.set (.REED_ST_STATUS_STATE 0) 1) with seqs := [(0, { store := [(0, 1207959557)] })] }, 0, 0, 0, 5,
    by decide +kernel⟩

theorem test_meets_MicrowordsWaitAndBranch_19 : ∃ (s : State) (n : Nat) (a : Nat) (sel : Nat) (opd : Nat),
  s.microAt n 0x12 = some (a, sel, opd) ∧ n < 8 ∧ 4 ≤ (s.seq n).stack.length :=
  ⟨{ (State.reset.set (.REED_ST_STATUS_STATE 0) 1) with seqs := [(0, { store := [(0, 1207959557)], stack := [1, 2, 3, 4] })] },
    0, 0, 0, 5, by decide +kernel⟩

theorem test_meets_MicrowordsWaitAndBranch_20 : ∃ (s : State) (n : Nat) (a : Nat) (sel : Nat) (opd : Nat) (r : Nat) (rest : List Nat),
  s.microAt n 0x13 = some (a, sel, opd) ∧ (s.seq n).stack = r :: rest :=
  ⟨{ (State.reset.set (.REED_ST_STATUS_STATE 0) 1) with seqs := [(0, { store := [(0, 1275068416)], stack := [9] })] }, 0, 0,
    0, 0, 9, [], by decide +kernel⟩

theorem test_meets_MicrowordsWaitAndBranch_21 : ∃ (s : State) (n : Nat) (a : Nat) (sel : Nat) (opd : Nat),
  s.microAt n 0x13 = some (a, sel, opd) ∧ n < 8 ∧ (s.seq n).stack = [] :=
  ⟨{ (State.reset.set (.REED_ST_STATUS_STATE 0) 1) with seqs := [(0, { store := [(0, 1275068416)] })] }, 0, 0, 0, 0,
    by decide +kernel⟩

theorem test_meets_MicrowordsCompute_1 : ∃ (s : State) (n : Nat) (a : Nat) (sel : Nat) (opd : Nat),
  s.microAt n 0x18 = some (a, sel, opd) ∧ opd < 2097152 :=
  ⟨{ (State.reset.set (.REED_ST_STATUS_STATE 0) 1) with seqs := [(0, { store := [(0, 1623195653)] })] }, 0, 0, 3, 5,
    by decide +kernel⟩

theorem test_meets_MicrowordsCompute_2 : ∃ (s : State) (n : Nat) (a : Nat) (sel : Nat) (opd : Nat),
  s.microAt n 0x18 = some (a, sel, opd) ∧ 2097152 ≤ opd :=
  ⟨{ (State.reset.set (.REED_ST_STATUS_STATE 0) 1) with seqs := [(0, { store := [(0, 1625292805)] })] }, 0, 0, 3, 2097157,
    by decide +kernel⟩

theorem test_meets_MicrowordsCompute_3 : ∃ (s : State) (n : Nat) (a : Nat) (sel : Nat) (opd : Nat),
  s.microAt n 0x19 = some (a, sel, opd) :=
  ⟨{ (State.reset.set (.REED_ST_STATUS_STATE 0) 1) with seqs := [(0, { store := [(0, 1690304517)] })] }, 0, 0, 3, 5,
    by decide +kernel⟩

theorem test_meets_MicrowordsCompute_4 : ∃ (s : State) (n : Nat) (a : Nat) (sel : Nat) (opd : Nat),
  s.microAt n 0x1A = some (a, sel, opd) :=
  ⟨{ (State.reset.set (.REED_ST_STATUS_STATE 0) 1) with seqs := [(0, { store := [(0, 1757413381)] })] }, 0, 0, 3, 5,
    by decide +kernel⟩

theorem test_meets_MicrowordsCompute_5 : ∃ (s : State) (n : Nat) (a : Nat) (sel : Nat) (opd : Nat),
  s.microAt n 0x1B = some (a, sel, opd) :=
  ⟨{ (State.reset.set (.REED_ST_STATUS_STATE 0) 1) with seqs := [(0, { store := [(0, 1824522245)] })] }, 0, 0, 3, 5,
    by decide +kernel⟩

theorem test_meets_MicrowordsCompute_6 : ∃ (s : State) (n : Nat) (a : Nat) (sel : Nat) (opd : Nat),
  s.microAt n 0x20 = some (a, sel, opd) ∧ (s.seq n).events.length < 56 ∧ (s.seq n).owed = [] :=
  ⟨{ (State.reset.set (.REED_ST_STATUS_STATE 0) 1) with seqs := [(0, { store := [(0, 2160066565)] })] }, 0, 0, 3, 5,
    by decide +kernel⟩

theorem test_meets_MicrowordsCompute_7 : ∃ (s : State) (n : Nat) (a : Nat) (sel : Nat) (opd : Nat),
  s.microAt n 0x20 = some (a, sel, opd) ∧ 56 ≤ (s.seq n).events.length :=
  ⟨{ (State.reset.set (.REED_ST_STATUS_STATE 0) 1) with seqs := [(0, { store := [(0, 2160066565)], events := List.replicate 56 ⟨0, 0⟩ })] },
    0, 0, 3, 5, by decide +kernel⟩

theorem test_meets_MicrowordsCompute_8 : ∃ (s : State) (n : Nat) (a : Nat) (sel : Nat) (opd : Nat) (mang : Word) (target : Word) (armed : Bool),
  s.microAt n 0x07 = some (a, sel, opd) ∧ (s.seq n).stall = .angle target armed ∧ angleReached mang target armed = true :=
  ⟨{ (State.reset.set (.REED_ST_STATUS_STATE 0) 1) with seqs := [(0, { store := [(0, 469762048)], stall := .angle 9 true })] },
    0, 0, 0, 0, 9, 9, true, by decide +kernel⟩

theorem test_meets_MicrowordsCompute_9 : ∃ (s : State) (n : Nat) (a : Nat) (sel : Nat) (opd : Nat) (mang : Word) (target : Word) (armed : Bool),
  s.microAt n 0x07 = some (a, sel, opd) ∧ (s.seq n).stall = .angle target armed ∧ angleReached mang target armed = false :=
  ⟨{ (State.reset.set (.REED_ST_STATUS_STATE 0) 1) with seqs := [(0, { store := [(0, 469762048)], stall := .angle 9 true })] },
    0, 0, 0, 0, 3, 9, true, by decide +kernel⟩

theorem test_meets_MicrowordsCompute_10 : ∃ (s : State) (n : Nat) (a : Nat) (sel : Nat) (opd : Nat),
  s.microAt n 0x07 = some (a, sel, opd) ∧ (s.seq n).stall.atAngle = false :=
  ⟨{ (State.reset.set (.REED_ST_STATUS_STATE 0) 1) with seqs := [(0, { store := [(0, 469762048)], rg := true, vg := true })] },
    0, 0, 0, 0, by decide +kernel⟩

theorem test_meets_GatesAndTransfers_1 : ∃ (s : State) (n : Nat) (a : Nat) (sel : Nat) (opd : Nat),
  s.microAt n 0x04 = some (a, sel, opd) ∧ (s.seq n).stall = .none ∧ s.get (.TIDE_ST_CBPC_CBPC n) ≠ 0 ∧ sel = 0 ∧ opd % 2 = 0 ∧
  opd / 32 % 2 = 0 :=
  ⟨{ ((State.reset.set (.REED_ST_STATUS_STATE 0) 1).set (.TIDE_ST_CBPC_CBPC 0) 16777216) with seqs := [(0, { store := [(0, 268435456)], rg := true })] },
    0, 0, 0, 0, by decide +kernel⟩

theorem test_meets_GatesAndTransfers_2 : ∃ (s : State) (n : Nat) (a : Nat) (sel : Nat) (opd : Nat),
  s.microAt n 0x04 = some (a, sel, opd) ∧ (s.seq n).stall = .none ∧ s.get (.TIDE_ST_CBPC_CBPC n) ≠ 0 ∧ sel = 1 ∧ opd % 2 = 0 ∧
  opd / 32 % 2 = 0 ∧ (s.seq n).wg = true :=
  ⟨{ ((State.reset.set (.REED_ST_STATUS_STATE 0) 1).set (.TIDE_ST_CBPC_CBPC 0) 16777216) with seqs := [(0, { store := [(0, 272629760)], wg := true })] },
    0, 0, 1, 0, by decide +kernel⟩

theorem test_meets_GatesAndTransfers_3 : ∃ (s : State) (n : Nat) (a : Nat) (sel : Nat) (opd : Nat),
  s.microAt n 0x04 = some (a, sel, opd) ∧ (s.seq n).stall = .none ∧ s.get (.TIDE_ST_CBPC_CBPC n) ≠ 0 ∧ sel = 2 ∧ opd % 2 = 0 ∧
  opd / 32 % 2 = 0 :=
  ⟨{ ((State.reset.set (.REED_ST_STATUS_STATE 0) 1).set (.TIDE_ST_CBPC_CBPC 0) 16777216) with seqs := [(0, { store := [(0, 276824064)], vg := true })] },
    0, 0, 2, 0, by decide +kernel⟩

theorem test_meets_GatesAndTransfers_4 : ∃ (s : State) (n : Nat) (a : Nat) (sel : Nat) (opd : Nat) (mang : Word) (target : Word) (armed : Bool),
  s.microAt n 0x04 = some (a, sel, opd) ∧ (s.seq n).stall = .angle target armed ∧ angleReached mang target armed = true ∧
  s.get (.TIDE_ST_CBPC_CBPC n) ≠ 0 ∧ opd % 2 = 0 ∧ opd / 32 % 2 = 1 :=
  ⟨{ ((State.reset.set (.REED_ST_STATUS_STATE 0) 1).set (.TIDE_ST_CBPC_CBPC 0) 16777216) with seqs := [(0, { store := [(0, 268435488)], rg := true, stall := .angle 9 true })] },
    0, 0, 0, 32, 9, 9, true, by decide +kernel⟩

theorem test_meets_GatesAndTransfers_5 : ∃ (s : State) (n : Nat) (a : Nat) (sel : Nat) (opd : Nat) (mang : Word),
  s.microAt n 0x04 = some (a, sel, opd) ∧ (s.seq n).stall = .none ∧ s.get (.TIDE_ST_CBPC_CBPC n) ≠ 0 ∧ sel = 2 ∧ opd % 2 = 1 ∧
  opd / 32 % 2 = 0 ∧ (s.atMang mang).inSpan n ((s.atMang mang).nextGrid n mang) = false ∧ s.tide.overrate.at n = false :=
  ⟨{ ((State.reset.set (.REED_ST_STATUS_STATE 0) 1).set (.TIDE_ST_CBPC_CBPC 0) 16777216) with seqs := [(0, { store := [(0, 276824065)] })] },
    0, 0, 2, 1, 0x00100000, by decide +kernel⟩

theorem test_meets_GatesAndTransfers_6 : ∃ (s : State) (n : Nat) (a : Nat) (sel : Nat) (opd : Nat) (mang : Word),
  s.microAt n 0x04 = some (a, sel, opd) ∧ (s.seq n).stall = .none ∧ s.get (.TIDE_ST_CBPC_CBPC n) ≠ 0 ∧ sel = 0 ∧ opd % 2 = 1 ∧
  opd / 32 % 2 = 0 ∧ (s.seq n).wg = false ∧ (s.atMang mang).inSpan n ((s.atMang mang).nextGrid n mang) = false ∧
  s.tide.overrate.at n = false ∧ (s.seq n).inSector = false ∧
  (s.stage n).data.length + (s.stage n).resv < stagingSectors (s.stage n).meta_ :=
  ⟨{ ((State.reset.set (.REED_ST_STATUS_STATE 0) 1).set (.TIDE_ST_CBPC_CBPC 0) 16777216) with seqs := [(0, { store := [(0, 268435457)] })] },
    0, 0, 0, 1, 0x00100000, by decide +kernel⟩

theorem test_meets_GatesAndTransfers_7 : ∃ (s : State) (n : Nat) (a : Nat) (sel : Nat) (opd : Nat) (mang : Word),
  s.microAt n 0x04 = some (a, sel, opd) ∧ (s.seq n).stall = .none ∧ s.get (.TIDE_ST_CBPC_CBPC n) ≠ 0 ∧ sel = 0 ∧ opd % 2 = 1 ∧
  opd / 32 % 2 = 0 ∧ (s.seq n).wg = false ∧ (s.atMang mang).inSpan n ((s.atMang mang).nextGrid n mang) = false ∧
  s.tide.overrate.at n = false ∧ (s.seq n).inSector = false ∧
  stagingSectors (s.stage n).meta_ ≤ (s.stage n).data.length + (s.stage n).resv :=
  ⟨{ ((State.reset.set (.REED_ST_STATUS_STATE 0) 1).set (.TIDE_ST_CBPC_CBPC 0) 16777216) with seqs := [(0, { store := [(0, 268435457)] })], stg := [(0, { resv := 600 })] },
    0, 0, 0, 1, 0x00100000, by decide +kernel⟩

theorem test_meets_GatesAndTransfers_8 : ∃ (s : State) (n : Nat) (a : Nat) (sel : Nat) (opd : Nat) (mang : Word) (target : Word) (armed : Bool),
  s.microAt n 0x04 = some (a, sel, opd) ∧ (s.seq n).stall = .angle target armed ∧ angleReached mang target armed = true ∧
  s.get (.TIDE_ST_CBPC_CBPC n) ≠ 0 ∧ sel = 1 ∧ opd % 2 = 1 ∧ opd / 32 % 2 = 1 ∧ (s.seq n).opcode ∈ [0x02, 0x03, 0x10, 0x11] ∧
  (s.seq n).rg = false ∧ s.domainOn (31 + n) = true ∧ (s.seq n).marked = true ∧ s.tideLocked = true ∧
  s.get .TIDE_STATUS_EPOCH = (s.seq n).epoch ∧ s.winh n = false ∧ (s.atMang mang).inSpan n target = false ∧
  ((s.seq n).inSector = true ∨ s.writeShort n = false) ∧ (s.seq n).vg = false :=
  ⟨{ (((State.reset.set (.REED_ST_STATUS_STATE 0) 1).set (.TIDE_ST_CBPC_CBPC 0) 16777216).set .TIDE_STATUS_STATE 3) with seqs := [(0, { store := [(0, 272629793)], opcode := 2, marked := true, inSector := true, stall := .angle 0x00100000 true })] },
    0, 0, 1, 33, 0x00100000, 0x00100000, true, by decide +kernel⟩

theorem test_meets_GatesAndTransfers_9 : ∃ (s : State) (n : Nat) (a : Nat) (sel : Nat) (opd : Nat),
  s.microAt n 0x04 = some (a, sel, opd) ∧ n < 8 ∧ sel = 1 ∧ opd % 2 = 1 ∧ (s.seq n).opcode ∉ [0x02, 0x03, 0x10, 0x11] :=
  ⟨{ ((State.reset.set (.REED_ST_STATUS_STATE 0) 1).set (.TIDE_ST_CBPC_CBPC 0) 16777216) with seqs := [(0, { store := [(0, 272629793)], opcode := 1 })] },
    0, 0, 1, 33, by decide +kernel⟩

theorem test_meets_GatesAndTransfers_10 : ∃ (s : State) (n : Nat) (a : Nat) (sel : Nat) (opd : Nat),
  s.microAt n 0x04 = some (a, sel, opd) ∧ n < 8 ∧ sel = 1 ∧ opd % 2 = 1 ∧ opd / 32 % 2 = 0 ∧ (s.seq n).opcode ∈ [0x02, 0x03,
  0x10, 0x11] :=
  ⟨{ ((State.reset.set (.REED_ST_STATUS_STATE 0) 1).set (.TIDE_ST_CBPC_CBPC 0) 16777216) with seqs := [(0, { store := [(0, 272629761)], opcode := 2 })] },
    0, 0, 1, 1, by decide +kernel⟩

theorem test_meets_GatesAndTransfers_11 : ∃ (s : State) (n : Nat) (a : Nat) (sel : Nat) (opd : Nat),
  s.microAt n 0x04 = some (a, sel, opd) ∧ s.get (.TIDE_ST_CBPC_CBPC n) = 0 ∧ opd % 2 = 0 :=
  ⟨{ (State.reset.set (.REED_ST_STATUS_STATE 0) 1) with seqs := [(0, { store := [(0, 268435456)], rg := true })] }, 0, 0, 0,
    0, by decide +kernel⟩

theorem test_meets_GatesAndTransfers_12 : ∃ (s : State) (n : Nat) (a : Nat) (sel : Nat) (opd : Nat),
  s.microAt n 0x05 = some (a, sel, opd) ∧ (s.seq n).stall.atSearch = false ∧ (s.seq n).stall.atMark = false ∧
  (s.seq n).wg = false :=
  ⟨{ (State.reset.set (.REED_ST_STATUS_STATE 0) 1) with seqs := [(0, { store := [(0, 348127239)] })] }, 0, 0, 3, 7,
    by decide +kernel⟩

theorem test_meets_GatesAndTransfers_13 : ∃ (s : State) (n : Nat) (a : Nat) (sel : Nat) (opd : Nat),
  s.microAt n 0x05 = some (a, sel, opd) ∧ (s.seq n).stall.atSearch = false ∧ (s.seq n).stall.atMark = false ∧
  (s.seq n).wg = true ∧ s.get (.TIDE_ST_CBPC_CBPC n) ≠ 0 :=
  ⟨{ ((State.reset.set (.REED_ST_STATUS_STATE 0) 1).set (.TIDE_ST_CBPC_CBPC 0) 16777216) with seqs := [(0, { store := [(0, 348127239)], wg := true })] },
    0, 0, 3, 7, by decide +kernel⟩

theorem test_meets_GatesAndTransfers_14 : ∃ (s : State) (n : Nat) (a : Nat) (sel : Nat) (opd : Nat) (mang : Word) (finish : Word),
  s.microAt n 0x05 = some (a, sel, opd) ∧ (s.seq n).stall = .mark finish ∧
  ((s.seq n).wg = false ∨ mang = finish ∨ ahead mang finish = false) :=
  ⟨{ ((State.reset.set (.REED_ST_STATUS_STATE 0) 1).set (.TIDE_ST_CBPC_CBPC 0) 16777216) with seqs := [(0, { store := [(0, 348127239)], wg := true, stall := .mark 9 })] },
    0, 0, 3, 7, 9, 9, by decide +kernel⟩

theorem test_meets_GatesAndTransfers_15 : ∃ (s : State) (n : Nat) (a : Nat) (sel : Nat) (opd : Nat) (mang : Word) (bits : Word) (c : Word) (half : Nat) (notimed : Bool),
  s.microAt n 0x05 = some (a, sel, opd) ∧ (s.seq n).stall = .search c half notimed ∧ (s.seq n).rg = true ∧
  mismatches bits (s.markPattern n (opd / 256 % 2 == 1)) ≤ s.get (.SDG_SM_CFG_TOL n) ∧ (mang - c).toInt.natAbs ≤ half :=
  ⟨{ (State.reset.set (.REED_ST_STATUS_STATE 0) 1) with seqs := [(0, { store := [(0, 348127239)], stall := .search 9 4 false, rg := true })] },
    0, 0, 3, 7, 9, 3370465815, 9, 4, false, by decide +kernel⟩

theorem test_meets_GatesAndTransfers_16 : ∃ (s : State) (n : Nat) (a : Nat) (sel : Nat) (opd : Nat) (bits : Word) (c : Word) (half : Nat) (notimed : Bool),
  s.microAt n 0x05 = some (a, sel, opd) ∧ (s.seq n).stall = .search c half notimed ∧
  s.get (.SDG_SM_CFG_TOL n) < mismatches bits (s.markPattern n (opd / 256 % 2 == 1)) :=
  ⟨{ (State.reset.set (.REED_ST_STATUS_STATE 0) 1) with seqs := [(0, { store := [(0, 348127239)], stall := .search 9 4 false, rg := true })] },
    0, 0, 3, 7, 0, 9, 4, false, by decide +kernel⟩

theorem test_meets_GatesAndTransfers_17 : ∃ (s : State) (n : Nat) (a : Nat) (sel : Nat) (opd : Nat) (c : Word) (mang : Word) (half : Nat),
  s.microAt n 0x05 = some (a, sel, opd) ∧ (s.seq n).stall = .search c half true ∧
  (mang = c + BitVec.ofNat 32 half ∨ ahead mang (c + BitVec.ofNat 32 half) = false) :=
  ⟨{ (State.reset.set (.REED_ST_STATUS_STATE 0) 1) with seqs := [(0, { store := [(0, 348127239)], stall := .search 9 4 true })] },
    0, 0, 3, 7, 9, 13, 4, by decide +kernel⟩

theorem test_meets_GatesAndTransfers_18 : ∃ (s : State) (n : Nat) (a : Nat) (sel : Nat) (opd : Nat) (c : Word) (mang : Word) (half : Nat),
  s.microAt n 0x05 = some (a, sel, opd) ∧ (s.seq n).stall = .search c half false ∧
  (mang = c + BitVec.ofNat 32 half ∨ ahead mang (c + BitVec.ofNat 32 half) = false) :=
  ⟨{ (State.reset.set (.REED_ST_STATUS_STATE 0) 1) with seqs := [(0, { store := [(0, 348127239)], stall := .search 9 4 false })] },
    0, 0, 3, 7, 9, 13, 4, by decide +kernel⟩

theorem test_meets_GatesAndTransfers_19 : ∃ (s : State) (n : Nat) (a : Nat) (sel : Nat) (opd : Nat),
  s.microAt n 0x06 = some (a, sel, opd) ∧ (s.seq n).stall ≠ .transfer ∧ s.get (.TIDE_ST_CBPC_CBPC n) ≠ 0 ∧
  (s.seq n).noData = false :=
  ⟨{ ((State.reset.set (.REED_ST_STATUS_STATE 0) 1).set (.TIDE_ST_CBPC_CBPC 0) 16777216) with seqs := [(0, { store := [(0, 402653191)] })] },
    0, 0, 0, 7, by decide +kernel⟩

theorem test_meets_GatesAndTransfers_20 : ∃ (s : State) (n : Nat) (a : Nat) (sel : Nat) (opd : Nat) (mang : Word) (start : Word),
  s.microAt n 0x06 = some (a, sel, opd) ∧ (s.seq n).stall = .transfer ∧ s.get (.TIDE_ST_CBPC_CBPC n) ≠ 0 ∧
  (s.seq n).noData = false ∧ (s.seq n).dataAt = some start ∧ opd / 2 ^ 18 % 16 ≠ 15 ∧
  (s.atMang mang).xferCount n opd ≤ (s.atMang mang).bitsToSpan n start :=
  ⟨{ ((State.reset.set (.REED_ST_STATUS_STATE 0) 1).set (.TIDE_ST_CBPC_CBPC 0) 16777216) with seqs := [(0, { store := [(0, 411041799)], stall := .transfer, dataAt := some 0x00200000, rg := true })] },
    0, 0, 2, 7, 0x00200000, 0x00200000, by decide +kernel⟩

theorem test_meets_GatesAndTransfers_21 : ∃ (s : State) (n : Nat) (a : Nat) (sel : Nat) (opd : Nat) (mang : Word) (start : Word),
  s.microAt n 0x06 = some (a, sel, opd) ∧ (s.seq n).stall = .transfer ∧ s.get (.TIDE_ST_CBPC_CBPC n) ≠ 0 ∧
  (s.seq n).noData = false ∧ (s.seq n).dataAt = some start ∧ opd / 2 ^ 18 % 16 ≠ 15 ∧
  (s.atMang mang).bitsToSpan n start < (s.atMang mang).xferCount n opd :=
  ⟨{ ((State.reset.set (.REED_ST_STATUS_STATE 0) 1).set (.TIDE_ST_CBPC_CBPC 0) 16777216) with seqs := [(0, { store := [(0, 402653191)], stall := .transfer, dataAt := some 0x00200000 })] },
    0, 0, 0, 7, 0x00200000, 0x00200000, by decide +kernel⟩

theorem test_meets_GatesAndTransfers_22 : ∃ (s : State) (n : Nat) (a : Nat) (sel : Nat) (opd : Nat),
  s.microAt n 0x06 = some (a, sel, opd) ∧ n < 8 ∧ (s.seq n).noData = true :=
  ⟨{ ((State.reset.set (.REED_ST_STATUS_STATE 0) 1).set (.TIDE_ST_CBPC_CBPC 0) 16777216) with seqs := [(0, { store := [(0, 402653191)], noData := true })] },
    0, 0, 0, 7, by decide +kernel⟩

theorem test_meets_GatesAndTransfers_23 : ∃ (s : State) (n : Nat) (mang : Word), s.inSpan n mang = true :=
  ⟨(State.reset.set .REED_WEDGE_GUARD 4), 0, 0, by decide +kernel⟩

theorem test_meets_ControlStoresAndEvents_1 : ∃ (s : State), s.gated 0x4600_0008 = false ∧ s.get .REED_CS_CTRL_ADDR < 0x4800 ∧
  s.storesIdle (s.get .REED_CS_CTRL_SEQ_MASK) = true :=
  ⟨(State.reset.set .REED_CS_CTRL_SEQ_MASK 5), by decide +kernel⟩

theorem test_meets_ControlStoresAndEvents_2 : ∃ (s : State), s.gated 0x4600_0008 = false ∧
  s.storesIdle (s.get .REED_CS_CTRL_SEQ_MASK) = false :=
  ⟨((State.reset.set .REED_CS_CTRL_SEQ_MASK 5).set (.REED_ST_STATUS_STATE 2) 1), by decide +kernel⟩

theorem test_meets_ControlStoresAndEvents_3 : ∃ (s : State) (n : Nat), s.gated 0x4600_0008 = false ∧
  (List.range 8).find? (fun i => s.get .REED_CS_CTRL_SEQ_MASK / 2 ^ i % 2 == 1) = some n :=
  ⟨(State.reset.set .REED_CS_CTRL_SEQ_MASK 6), 1, by decide +kernel⟩

theorem test_meets_ControlStoresAndEvents_4 : ∃ (core : Nat), core < 8 :=
  ⟨7, by decide +kernel⟩

theorem test_meets_ControlStoresAndEvents_5 : ∃ (s : State) (n : Nat) (ev : ReedEvent) (rest : List ReedEvent), n < 8 ∧
  s.gated (0x4600_1010 + 0x100 * n) = false ∧ (s.seq n).events = ev :: rest :=
  ⟨{ State.reset with seqs := [(0, { events := [⟨3, 5⟩] })] }, 0, ⟨3, 5⟩, [], by decide +kernel⟩

theorem test_meets_ControlStoresAndEvents_6 : ∃ (s : State) (n : Nat), n < 8 ∧ s.gated (0x4600_1010 + 0x100 * n) = false ∧
  (s.seq n).events = [] :=
  ⟨State.reset, 0, by decide +kernel⟩

theorem test_meets_ControlStoresAndEvents_7 : ∃ (core : Nat) (n : Nat), core < 8 ∧ n < 8 :=
  ⟨7, 0, by decide +kernel⟩

theorem test_meets_SectorsAreDecoded_1 : ∃ (s : State) (n : Nat) (x : Samples) (rest : List Samples),
  (s.chan n).waiting = x :: rest ∧ (s.chan n).results.length < 64 ∧ s.domainOn (69 + n) = true ∧ (s.chan n).codeBad = false ∧
  ((s.chan n).mode ≠ 3 ∨ (s.chan n).step ≠ 2) :=
  ⟨{ State.reset with chans := [(0, { waiting := [{}], mode := 2 })] }, 0, {}, [], by decide +kernel⟩

theorem test_meets_SectorsAreDecoded_2 : ∃ (s : State) (n : Nat) (x : Samples) (rest : List Samples),
  (s.chan n).waiting = x :: rest ∧ (s.chan n).results.length < 64 ∧ s.domainOn (69 + n) = true ∧ (s.chan n).codeBad = true :=
  ⟨{ State.reset with chans := [(0, { waiting := [{}], codeBad := true })] }, 0, {}, [], by decide +kernel⟩

theorem test_meets_SectorsAreDecoded_3 : ∃ (s : State) (n : Nat) (x : Samples) (rest : List Samples),
  (s.chan n).waiting = x :: rest ∧ (s.chan n).results.length < 64 ∧ s.domainOn (69 + n) = true ∧ (s.chan n).codeBad = false ∧
  (s.chan n).mode = 3 ∧ (s.chan n).step = 2 ∧ ((s.chan n).comb = false ∨ (s.chan n).sumReads = 0) :=
  ⟨{ State.reset with chans := [(0, { waiting := [{}], mode := 3, step := 2 })] }, 0, {}, [], by decide +kernel⟩

theorem test_meets_SectorsAreDecoded_4 : ∃ (s : State) (n : Nat) (x : Samples) (rest : List Samples),
  (s.chan n).waiting = x :: rest ∧ (s.chan n).results.length < 64 ∧ s.domainOn (69 + n) = true ∧ (s.chan n).codeBad = false ∧
  (s.chan n).mode = 3 ∧ (s.chan n).step = 2 ∧ (s.chan n).comb = true ∧ (s.chan n).sumReads ≠ 0 :=
  ⟨{ State.reset with chans := [(0, { waiting := [{}], mode := 3, step := 2, comb := true, sumReads := 1 })] }, 0, {}, [],
    by decide +kernel⟩

theorem test_meets_SectorsAreDecoded_5 : ∃ (s : State) (n : Nat) (slot : Nat) (tries : Nat) (x : Samples) (bad : Bool),
  (s.chan n).park.at slot = .held x tries bad ∧ (s.chan n).waiting = [] ∧ (s.chan n).results.length < 64 ∧
  s.domainOn (69 + n) = true :=
  ⟨{ State.reset with chans := [(0, { park := [(1, .held {} 0 false)] })] }, 0, 1, 0, {}, false, by decide +kernel⟩

theorem test_meets_SectorsAreDecoded_6 : ∃ (s : State) (n : Nat), n < 8 ∧ 2 ≤ (s.chan n).waiting.length ∧
  (s.seq n).inSector = true ∧ (s.seq n).reads = true ∧ (s.seq n).judged = false ∧ (s.chan n).cur = none ∧
  (s.chan n).results.length < 72 :=
  ⟨{ State.reset with chans := [(0, { waiting := [{}, {}] })], seqs := [(0, { inSector := true, reads := true, opcode := 1 })] },
    0, by decide +kernel⟩

theorem test_meets_SectorsAreDecoded_7 : ∃ (s : State) (n : Nat), n < 8 ∧ 2 ≤ (s.chan n).waiting.length ∧
  (s.seq n).inSector = true ∧ (s.seq n).reads = true ∧ (s.seq n).judged = false ∧ (s.chan n).cur = none ∧
  72 ≤ (s.chan n).results.length :=
  ⟨{ State.reset with chans := [(0, { waiting := [{}, {}], results := List.replicate 72 {} })], seqs := [(0, { inSector := true, reads := true, opcode := 1 })] },
    0, by decide +kernel⟩

theorem test_meets_SectorsAreDecoded_8 : ∃ (s : State) (n : Nat) (r : SectorResult) (rest : List SectorResult), n < 8 ∧
  s.gated (0x4700_1050 + 0x400 * n) = false ∧ (s.chan n).results = r :: rest :=
  ⟨{ State.reset with chans := [(0, { results := [{ iter := 3 }] })] }, 0, { iter := 3 }, [], by decide +kernel⟩

theorem test_meets_SectorsAreDecoded_9 : ∃ (s : State) (n : Nat), n < 8 ∧ s.gated (0x4700_1050 + 0x400 * n) = false ∧
  (s.chan n).results = [] :=
  ⟨State.reset, 0, by decide +kernel⟩

theorem test_meets_SectorsAreDecoded_10 : ∃ (core : Nat) (n : Nat), core < 8 ∧ n < 8 :=
  ⟨7, 0, by decide +kernel⟩

theorem test_meets_SectorsAreDecoded_11 : ∃ (s : State) (n : Nat), s.domainOn (77 + n) = true :=
  ⟨State.reset, 0, by decide +kernel⟩

theorem test_meets_SectorsAreDecoded_12 : ∃ (s : State) (n : Nat) (ent : VfyEntry) (rest : List VfyEntry), n < 8 ∧
  s.gated (0x4700_1070 + 0x400 * n) = false ∧ (s.chan n).vfy = ent :: rest ∧ ent.posted = true :=
  ⟨{ State.reset with chans := [(0, { vfy := [{ posted := true }] })] }, 0, { posted := true }, [], by decide +kernel⟩

theorem test_meets_SectorsAreDecoded_13 : ∃ (s : State) (n : Nat), n < 8 ∧ s.gated (0x4700_1070 + 0x400 * n) = false ∧
  (s.chan n).vfy.head?.all (fun ent => !ent.posted) = true :=
  ⟨State.reset, 0, by decide +kernel⟩

theorem test_meets_SectorsAreDecoded_14 : ∃ (core : Nat) (n : Nat), core < 8 ∧ n < 8 :=
  ⟨7, 0, by decide +kernel⟩

theorem test_meets_ChannelDefectsAndSettings_1 : ∃ (s : State) (n : Nat) (level : Nat) (run : Nat), n < 8 ∧
  (s.seq n).rg = true ∧ s.domainOn (61 + n) = true ∧ (s.chan n).taFrom = none ∧
  s.get (.SDG_DEF_TA_THR n) * s.get (.SDG_FE_CFG_AGC_TGT n) < level ∧ s.get (.SDG_DEF_TA_LEN n) ≤ run :=
  ⟨{ State.reset with seqs := [(0, { rg := true })], chans := [(0, {  })] }, 0, 999999, 999, by decide +kernel⟩

theorem test_meets_ChannelDefectsAndSettings_2 : ∃ (s : State) (n : Nat) (level : Nat) (start : Nat), n < 8 ∧
  (s.seq n).rg = true ∧ s.domainOn (61 + n) = true ∧ (s.chan n).taFrom = some start ∧
  level ≤ s.get (.SDG_DEF_TA_THR n) * s.get (.SDG_FE_CFG_AGC_TGT n) :=
  ⟨{ State.reset with seqs := [(0, { rg := true })], chans := [(0, { taFrom := some 5 })] }, 0, 0, 5, by decide +kernel⟩

theorem test_meets_ChannelDefectsAndSettings_3 : ∃ (s : State) (n : Nat) (level : Nat) (run : Nat), n < 8 ∧
  (s.seq n).rg = true ∧ s.domainOn (61 + n) = true ∧ (s.chan n).doFrom = none ∧
  level < s.get (.SDG_DEF_DO_THR n) * s.get (.SDG_FE_CFG_AGC_TGT n) ∧ s.get (.SDG_DEF_DO_LEN n) ≤ run :=
  ⟨{ ((State.reset.set (.SDG_DEF_DO_THR 0) 3).set (.SDG_FE_CFG_AGC_TGT 0) 100) with seqs := [(0, { rg := true })], chans := [(0, {  })] },
    0, 0, 999, by decide +kernel⟩

theorem test_meets_ChannelDefectsAndSettings_4 : ∃ (s : State) (n : Nat) (level : Nat) (start : Nat), n < 8 ∧
  (s.seq n).rg = true ∧ s.domainOn (61 + n) = true ∧ (s.chan n).doFrom = some start ∧
  s.get (.SDG_DEF_DO_THR n) * s.get (.SDG_FE_CFG_AGC_TGT n) ≤ level :=
  ⟨{ State.reset with seqs := [(0, { rg := true })], chans := [(0, { doFrom := some 5 })] }, 0, 99999, 5, by decide +kernel⟩

theorem test_meets_ChannelDefectsAndSettings_5 : ∃ (s : State), s.gated 0x4700_0000 = false :=
  ⟨State.reset, by decide +kernel⟩

theorem test_meets_ChannelDefectsAndSettings_6 : ∃ (s : State), s.gated 0x4700_0000 = false :=
  ⟨State.reset, by decide +kernel⟩

theorem test_meets_ChannelDefectsAndSettings_7 : ∃ (s : State) (n : Nat), n < 8 ∧ s.gated (0x4700_102C + 0x400 * n) = false ∧
  coefEntry (s.get (.SDG_COEF_ADDR_ADDR n)) = true :=
  ⟨State.reset, 0, by decide +kernel⟩

theorem test_meets_ChannelDefectsAndSettings_8 : ∃ (s : State) (n : Nat), n < 8 ∧ s.gated (0x4700_102C + 0x400 * n) = false ∧
  coefEntry (s.get (.SDG_COEF_ADDR_ADDR n)) = false :=
  ⟨(State.reset.set (.SDG_COEF_ADDR_ADDR 0) 0x170), 0, by decide +kernel⟩

theorem test_meets_ChannelDefectsAndSettings_9 : ∃ (s : State) (n : Nat) (e : Nat × BitVec 26), n < 8 ∧
  s.gated (0x4700_102C + 0x400 * n) = false ∧ coefEntry (s.get (.SDG_COEF_ADDR_ADDR n)) = true ∧
  (s.chan n).coefFw.find? (fun e => e.1 = s.get (.SDG_COEF_ADDR_ADDR n)) = some e :=
  ⟨{ State.reset with chans := [(0, { coefFw := [(0, 7)] })] }, 0, (0, 7), by decide +kernel⟩

theorem test_meets_ChannelDefectsAndSettings_10 : ∃ (s : State) (n : Nat) (e : Nat × BitVec 26), n < 8 ∧
  s.gated (0x4700_102C + 0x400 * n) = false ∧ coefEntry (s.get (.SDG_COEF_ADDR_ADDR n)) = true ∧
  (s.chan n).coefFw.find? (fun e => e.1 = s.get (.SDG_COEF_ADDR_ADDR n)) = none ∧
  (s.chan n).coefAdapt.reverse.find? (fun e => e.1 = s.get (.SDG_COEF_ADDR_ADDR n)) = some e :=
  ⟨{ State.reset with chans := [(0, { coefAdapt := [(0, 7)] })] }, 0, (0, 7), by decide +kernel⟩

theorem test_meets_ChannelDefectsAndSettings_11 : ∃ (s : State) (n : Nat), n < 8 ∧ s.gated (0x4700_102C + 0x400 * n) = false ∧
  coefEntry (s.get (.SDG_COEF_ADDR_ADDR n)) = true ∧
  (s.chan n).coefFw.find? (fun e => e.1 = s.get (.SDG_COEF_ADDR_ADDR n)) = none ∧
  (s.chan n).coefAdapt.reverse.find? (fun e => e.1 = s.get (.SDG_COEF_ADDR_ADDR n)) = none :=
  ⟨State.reset, 0, by decide +kernel⟩

theorem test_meets_ChannelDefectsAndSettings_12 : ∃ (s : State) (n : Nat), n < 8 ∧ s.gated (0x4700_102C + 0x400 * n) = false ∧
  coefEntry (s.get (.SDG_COEF_ADDR_ADDR n)) = false :=
  ⟨(State.reset.set (.SDG_COEF_ADDR_ADDR 0) 0x170), 0, by decide +kernel⟩

theorem test_meets_ChannelDefectsAndSettings_13 : ∃ (core : Nat) (n : Nat), core < 8 ∧ n < 8 :=
  ⟨7, 0, by decide +kernel⟩

theorem test_meets_MemoryIsChecked_1 : ∃ (s : State) (region : Nat) (offset : Nat), offset < sramSize region ∧
  s.sramServes region (offset / 8 * 8) = true :=
  ⟨State.reset, 1, 0, by decide +kernel⟩

theorem test_meets_MemoryIsChecked_2 : ∃ (s : State) (region : Nat) (offset : Nat), offset < sramSize region ∧
  s.sramServes region (offset / 8 * 8) = true ∧ region < 12 :=
  ⟨State.reset, 1, 0, by decide +kernel⟩

theorem test_meets_MemoryIsChecked_3 : ∃ (s : State) (region : Nat) (offset : Nat) (error : SramError) (word : SramWord),
  offset < sramSize region ∧ s.sramServes region (offset / 8 * 8) = true ∧ error ≠ .uncorrectable ∧ word = .plain ∧
  region ∉ [3, 4, 7, 8, 9, 11] :=
  ⟨State.reset, 1, 0, .clean, .plain, by decide +kernel⟩

theorem test_meets_MemoryIsChecked_4 : ∃ (s : State) (region : Nat) (offset : Nat), offset < sramSize region ∧
  s.sramServes region (offset / 8 * 8) = true ∧ region < 12 ∧ s.get .WEIR_STATUS_PF = 0 :=
  ⟨State.reset, 1, 2, by decide +kernel⟩

theorem test_meets_MemoryIsChecked_5 : ∃ (region : Nat) (offset : Nat), sramSize region ≤ offset :=
  ⟨20, 0, by decide +kernel⟩

theorem test_meets_MemoryIsChecked_6 : ∃ (s : State) (addr : Nat), s.dramServes = true ∧ s.dramOk (addr / 64 * 64) 64 = true ∧
  s.poisonedAt (addr / 64 * 64) = false :=
  ⟨(State.reset.set .SLU_DRAM_CFG_TRAINED 1), 0x10_0000_0000, by decide +kernel⟩

theorem test_meets_MemoryIsChecked_7 : ∃ (s : State) (addr : Nat), s.dramServes = true ∧ s.dramOk (addr / 64 * 64) 64 = true ∧
  s.poisonedAt (addr / 64 * 64) = false :=
  ⟨(State.reset.set .SLU_DRAM_CFG_TRAINED 1), 0x10_0000_0000, by decide +kernel⟩

theorem test_meets_MemoryIsChecked_8 : ∃ (s : State) (addr : Nat), s.dramServes = true ∧ s.dramOk (addr / 64 * 64) 64 = true ∧
  s.poisonedAt (addr / 64 * 64) = false :=
  ⟨(State.reset.set .SLU_DRAM_CFG_TRAINED 1), 0x10_0000_0000, by decide +kernel⟩

theorem test_meets_MemoryIsChecked_9 : ∃ (s : State) (addr : Nat), s.dramServes = true ∧ s.dramOk (addr / 64 * 64) 64 = true ∧
  s.poisonedAt (addr / 64 * 64) = true :=
  ⟨{ (State.reset.set .SLU_DRAM_CFG_TRAINED 1) with slu := { poisoned := [(0x10_0000_0000, true)] } }, 0x10_0000_0000,
    by decide +kernel⟩

theorem test_meets_MemoryIsChecked_10 : ∃ (s : State) (addr : Nat), s.dramServes = true ∧
  s.dramOk (addr / 64 * 64) 64 = true ∧ s.poisonedAt (addr / 64 * 64) = false :=
  ⟨(State.reset.set .SLU_DRAM_CFG_TRAINED 1), 0x10_0000_0000, by decide +kernel⟩

theorem test_meets_MemoryIsChecked_11 : ∃ (s : State) (addr : Nat), s.dramServes = true ∧
  s.dramOk (addr / 64 * 64) 64 = true ∧ s.poisonedAt (addr / 64 * 64) = false :=
  ⟨(State.reset.set .SLU_DRAM_CFG_TRAINED 1), 0x10_0000_0000, by decide +kernel⟩

theorem test_meets_MemoryIsChecked_12 : ∃ (s : State) (addr : Nat), s.dramServes = true ∧
  s.dramOk (addr / 64 * 64) 64 = true ∧ s.poisonedAt (addr / 64 * 64) = false :=
  ⟨(State.reset.set .SLU_DRAM_CFG_TRAINED 1), 0x10_0000_0000, by decide +kernel⟩

theorem test_meets_MemoryIsChecked_13 : ∃ (s : State) (addr : Nat), s.dramServes = true ∧
  s.dramOk (addr / 64 * 64) 64 = true ∧ s.poisonedAt (addr / 64 * 64) = true :=
  ⟨{ (State.reset.set .SLU_DRAM_CFG_TRAINED 1) with slu := { poisoned := [(0x10_0000_0000, true)] } }, 0x10_0000_0000,
    by decide +kernel⟩

theorem test_meets_MemoryIsScrubbed_1 : ∃ (s : State), s.gated 0x4100_0810 = false ∧ s.get .SLU_SCRB_STATUS_BUSY = 0 ∧
  s.get .SLU_SCRB_LEN_BLOCKS ≠ 0 ∧ dramBase ≤ (s.get .SLU_SCRB_BASE_HI_ADDR * 2 ^ 32 + s.get .SLU_SCRB_BASE_LO_ADDR * 64) ∧
  (s.get .SLU_SCRB_BASE_HI_ADDR * 2 ^ 32 + s.get .SLU_SCRB_BASE_LO_ADDR * 64) + 64 * s.get .SLU_SCRB_LEN_BLOCKS ≤ s.dramEnd :=
  ⟨((State.reset.set .SLU_SCRB_BASE_HI_ADDR 16).set .SLU_SCRB_LEN_BLOCKS 1), by decide +kernel⟩

theorem test_meets_MemoryIsScrubbed_2 : ∃ (s : State), s.gated 0x4100_0810 = false ∧
  (s.get .SLU_SCRB_STATUS_BUSY = 1 ∨ s.get .SLU_SCRB_LEN_BLOCKS = 0 ∨ (s.get .SLU_SCRB_BASE_HI_ADDR * 2 ^ 32 + s.get .SLU_SCRB_BASE_LO_ADDR * 64) < dramBase ∨ s.dramEnd < (s.get .SLU_SCRB_BASE_HI_ADDR * 2 ^ 32 + s.get .SLU_SCRB_BASE_LO_ADDR * 64) + 64 * s.get .SLU_SCRB_LEN_BLOCKS) :=
  ⟨State.reset, by decide +kernel⟩

theorem test_meets_MemoryIsScrubbed_3 : ∃ (s : State), s.gated 0x4100_0810 = false ∧ s.get .SLU_SCRB_STATUS_BUSY = 1 :=
  ⟨(State.reset.set .SLU_SCRB_STATUS_BUSY 1), by decide +kernel⟩

theorem test_meets_MemoryIsScrubbed_4 : ∃ (s : State), s.gated 0x4100_0810 = false ∧ s.get .SLU_SCRB_STATUS_BUSY = 0 :=
  ⟨State.reset, by decide +kernel⟩

theorem test_meets_MemoryIsScrubbed_5 : ∃ (s : State), s.get .SLU_SCRB_STATUS_BUSY = 1 ∧ s.slu.scrubLeft = 0 :=
  ⟨(State.reset.set .SLU_SCRB_STATUS_BUSY 1), by decide +kernel⟩

theorem test_meets_MemoryIsScrubbed_6 : ∃ (s : State), s.gated 0x4100_0850 = false :=
  ⟨State.reset, by decide +kernel⟩

theorem test_meets_MemoryIsScrubbed_7 : ∃ (s : State), s.gated 0x4100_084C = false :=
  ⟨State.reset, by decide +kernel⟩

theorem test_meets_EventsAreRecorded_1 : ∃ (s : State) (stream : Nat) (type_ : Nat) (body : List Byte), stream < 5 ∧
  stagedBytes s.peat.staged + ((16 + body.length + 3) / 4 * 4) ≤ 262144 ∧
  (s.stageRecord stream type_ body).heldBytes ≤ 32768 :=
  ⟨State.reset, 2, 7, [1], by decide +kernel⟩

theorem test_meets_EventsAreRecorded_2 : ∃ (s : State) (stream : Nat) (type_ : Nat) (body : List Byte), stream < 5 ∧
  262144 < stagedBytes s.peat.staged + ((16 + body.length + 3) / 4 * 4) ∧
  (s.stageRecord stream type_ body).heldBytes ≤ 32768 :=
  ⟨{ State.reset with peat := { staged := List.replicate 256 { rec_ := { stream := 0, type_ := 0, body := List.replicate 1024 0 } } } },
    2, 7, [1], by decide +kernel⟩

theorem test_meets_EventsAreRecorded_3 : ∃ (s : State) (stream : Nat) (type_ : Nat) (body : List Byte) (area : Nat),
  stream < 5 ∧ 32768 < (s.stageRecord stream type_ body).heldBytes ∧
  (s.stageRecord stream type_ body).oldestHeldArea = some area :=
  ⟨{ State.reset.set .PEAT_FRZ_AREA 1 with peat := { staged := [{ rec_ := { stream := 0, type_ := 0, body := List.replicate 40000 0 }, toPerm := true, toCirc := true }] } },
    2, 7, [1], 0, by decide +kernel⟩

theorem test_meets_EventsAreRecorded_4 : ∃ (s : State), s.get .PEAT_STATUS_FLUSHING = 0 :=
  ⟨State.reset, by decide +kernel⟩

theorem test_meets_EventsAreRecorded_5 : ∃ (s : State), s.get .PEAT_STATUS_FLUSHING = 1 :=
  ⟨(State.reset.set .PEAT_STATUS_FLUSHING 1), by decide +kernel⟩

theorem test_meets_EventsAreRecorded_6 : ∃ (s : State), s.get .PEAT_STATUS_FLUSHING = 1 :=
  ⟨(State.reset.set .PEAT_STATUS_FLUSHING 1), by decide +kernel⟩

theorem test_meets_EventsAreRecorded_7 : ∃ (s : State), s.get .PEAT_STATUS_FLUSHING = 0 :=
  ⟨State.reset, by decide +kernel⟩

theorem test_meets_EventsAreRecorded_8 : ∃ (s : State), s.domainOn 94 = true ∧ s.get .PEAT_STATUS_FLUSHING = 1 :=
  ⟨(State.reset.set .PEAT_STATUS_FLUSHING 1), by decide +kernel⟩

theorem test_meets_EventsAreRecorded_9 : ∃ (area : Nat), area < 10 :=
  ⟨1, by decide +kernel⟩

theorem test_meets_EventsAreRecorded_10 : ∃ (s : State), s.peat.pccLocked = false :=
  ⟨State.reset, by decide +kernel⟩

theorem test_meets_EventsAreRecorded_11 : ∃ (s : State), s.peat.pccLocked = true :=
  ⟨{ State.reset with peat := { pccLocked := true } }, by decide +kernel⟩

theorem test_meets_EventsAreRecorded_12 : ∃ (s : State) (a : Nat) (off : Nat), s.peat.loading = some (a, off) ∧
  s.frozen a = true :=
  ⟨{ (State.reset.set .PEAT_FRZ_AREA 1) with peat := { loading := some (0, 0) } }, 0, 0, by decide +kernel⟩

theorem test_meets_RegionsAndKeys_1 : ∃ (s : State) (region : Nat), s.gated 0x4100_0604 = false ∧
  (s.slu.regions.at region).state = .free ∧ s.get .SLU_RA_ARG3_META ≠ 3 ∧ dramBase ≤ s.argBuf ∧
  s.argBuf + (s.get .SLU_RA_ARG1_COUNT + 1) * (4096 + metaBytes (s.get .SLU_RA_ARG3_META)) ≤ s.dramEnd ∧
  s.inCache s.argBuf ((s.get .SLU_RA_ARG1_COUNT + 1) * (4096 + metaBytes (s.get .SLU_RA_ARG3_META))) = false :=
  ⟨((State.reset.set .SLU_RA_ARG3_BASE_HI 16).set .SLU_PC_CFG_BASE 67), 1, by decide +kernel⟩

theorem test_meets_RegionsAndKeys_2 : ∃ (s : State) (region : Nat), s.gated 0x4100_0604 = false ∧
  ((s.slu.regions.at region).state ≠ .free ∨ s.get .SLU_RA_ARG3_META = 3 ∨ s.argBuf < dramBase ∨ s.dramEnd < s.argBuf + (s.get .SLU_RA_ARG1_COUNT + 1) * (4096 + metaBytes (s.get .SLU_RA_ARG3_META)) ∨ s.inCache s.argBuf ((s.get .SLU_RA_ARG1_COUNT + 1) * (4096 + metaBytes (s.get .SLU_RA_ARG3_META))) = true) :=
  ⟨State.reset, 1, by decide +kernel⟩

theorem test_meets_RegionsAndKeys_3 : ∃ (s : State) (region : Nat), s.gated 0x4100_0604 = false ∧
  ((s.slu.regions.at region).state = .armed ∨ (s.slu.regions.at region).state = .filling ∨ (s.slu.regions.at region).state = .valid) :=
  ⟨{ State.reset with slu := { regions := [(1, { state := .valid })] } }, 1, by decide +kernel⟩

theorem test_meets_RegionsAndKeys_4 : ∃ (s : State) (region : Nat), s.gated 0x4100_0604 = false ∧
  (s.slu.regions.at region).state = .discarded :=
  ⟨{ State.reset with slu := { regions := [(1, { state := .discarded, pins := 1 })] } }, 1, by decide +kernel⟩

theorem test_meets_RegionsAndKeys_5 : ∃ (s : State) (region : Nat), s.gated 0x4100_0604 = false ∧
  (s.slu.regions.at region).state = .free :=
  ⟨State.reset, 1, by decide +kernel⟩

theorem test_meets_RegionsAndKeys_6 : ∃ (s : State), s.gated 0x4100_0604 = false :=
  ⟨State.reset, by decide +kernel⟩

theorem test_meets_RegionsAndKeys_7 : ∃ (s : State) (region : Nat), s.gated 0x4100_0604 = false ∧
  (s.slu.regions.at region).pins ≠ 0 :=
  ⟨{ State.reset with slu := { regions := [(1, { state := .valid, pins := 2 })] } }, 1, by decide +kernel⟩

theorem test_meets_RegionsAndKeys_8 : ∃ (s : State) (region : Nat), s.gated 0x4100_0604 = false ∧
  (s.slu.regions.at region).pins = 0 :=
  ⟨State.reset, 1, by decide +kernel⟩

theorem test_meets_RegionsAndKeys_9 : ∃ (s : State) (region : Nat), (s.slu.regions.at region).state = .valid ∧
  (s.slu.regions.at region).pins = 0 ∧ (s.slu.regions.at region).hit = false ∧ s.get .SLU_RA_CFG_TTL ≠ 0 :=
  ⟨{ (State.reset.set .SLU_RA_CFG_TTL 5) with slu := { regions := [(1, { state := .valid })] } }, 1, by decide +kernel⟩

theorem test_meets_RegionsAndKeys_10 : ∃ (s : State), s.gated 0x4100_0400 = false :=
  ⟨State.reset, by decide +kernel⟩

theorem test_meets_RegionsAndKeys_11 : ∃ (s : State), s.gated 0x4100_0400 = false :=
  ⟨State.reset, by decide +kernel⟩

theorem test_meets_RegionsAndKeys_12 : ∃ (s : State) (slot : Nat) (key : BitVec 512) (rest : List (Nat × BitVec 512)),
  s.slu.keyOps = (slot, key) :: rest ∧ s.domainOn 58 = true ∧ s.dma.any (fun e => e.2.inUnit slot) = false :=
  ⟨{ State.reset with slu := { keyOps := [(5, 7)] } }, 5, 7, [], by decide +kernel⟩

theorem test_meets_LedgerEntriesFillAndFree_1 : ∃ (s : State) (entry : Nat), (s.slu.ledger.at entry).state = 1 ∧
  (s.sth.ctxs.at (s.slu.ledger.at entry).ctx).state = 3 ∧ (s.sth.ctxs.at (s.slu.ledger.at entry).ctx).ledger = some entry ∧
  s.dramServes = true ∧ (s.sth.ctxs.at (s.slu.ledger.at entry).ctx).cmd.op = .writeZeroes ∧
  (s.dramStore (s.runAddr (s.slu.ledger.at entry)) (List.replicate (s.runBytes (s.slu.ledger.at entry)) 0)).1 = true :=
  ⟨{ ((State.reset.set .SLU_DRAM_CFG_TRAINED 1).set .SLU_PC_CFG_BASE 64) with slu := { ledger := [(1, { state := 1, count := 1, ctx := 2 })] }, sth := { ctxs := [(2, { state := 3, ledger := some 1, cmd := { op := .writeZeroes } })] } },
    1, by decide +kernel⟩

theorem test_meets_LedgerEntriesFillAndFree_2 : ∃ (s : State) (entry : Nat) (data : List Byte),
  (s.slu.ledger.at entry).state = 1 ∧ (s.sth.ctxs.at (s.slu.ledger.at entry).ctx).state = 3 ∧
  (s.sth.ctxs.at (s.slu.ledger.at entry).ctx).ledger = some entry ∧ s.dramServes = true ∧
  (s.sth.ctxs.at (s.slu.ledger.at entry).ctx).cmd.op ≠ .writeZeroes ∧
  (s.sth.ctxs.at (s.slu.ledger.at entry).ctx).cmd.op ≠ .copy ∧
  (s.dramStore (s.runAddr (s.slu.ledger.at entry) + (s.sth.ctxs.at (s.slu.ledger.at entry).ctx).moved) (data.take (s.runBytes (s.slu.ledger.at entry) - (s.sth.ctxs.at (s.slu.ledger.at entry).ctx).moved))).1 = true :=
  ⟨{ ((State.reset.set .SLU_DRAM_CFG_TRAINED 1).set .SLU_PC_CFG_BASE 64) with slu := { ledger := [(1, { state := 1, count := 1, ctx := 2 })] }, sth := { ctxs := [(2, { state := 3, ledger := some 1, cmd := { op := .write } })] } },
    1, [7], by decide +kernel⟩

theorem test_meets_LedgerEntriesFillAndFree_3 : ∃ (s : State) (ctx : Nat) (entry : Nat), s.gated 0x4100_0048 = false ∧
  (s.sth.ctxs.at ctx).ledger = some entry ∧ (s.sth.ctxs.at ctx).state = 3 ∧ (s.sth.ctxs.at ctx).cmd.op = .copy ∧
  (s.slu.ledger.at entry).state = 1 :=
  ⟨{ State.reset with slu := { ledger := [(1, { state := 1, count := 1, ctx := 2 })] }, sth := { ctxs := [(2, { state := 3, ledger := some 1, cmd := { op := .copy } })] } },
    2, 1, by decide +kernel⟩

theorem test_meets_LedgerEntriesFillAndFree_4 : ∃ (s : State) (ctx : Nat), s.gated 0x4100_0048 = false ∧ (∀ entry,
  (s.sth.ctxs.at ctx).ledger = some entry →
  (s.sth.ctxs.at ctx).state ≠ 3 ∨ (s.sth.ctxs.at ctx).cmd.op ≠ .copy ∨ (s.slu.ledger.at entry).state ≠ 1) :=
  ⟨State.reset, 2, by decide +kernel⟩

theorem test_meets_LedgerEntriesFillAndFree_5 : ∃ (s : State) (entry : Nat), s.gated 0x4100_0044 = false ∧
  (s.slu.ledger.at entry).state = 4 :=
  ⟨{ State.reset with slu := { ledger := [(1, { state := 4, count := 1 })] } }, 1, by decide +kernel⟩

theorem test_meets_LedgerEntriesFillAndFree_6 : ∃ (s : State) (entry : Nat), s.gated 0x4100_0044 = false ∧
  (s.slu.ledger.at entry).state ≠ 4 :=
  ⟨State.reset, 1, by decide +kernel⟩

theorem test_meets_LedgerEntriesFillAndFree_7 : ∃ (s : State), s.gated 0x4100_005C = false :=
  ⟨State.reset, by decide +kernel⟩

theorem test_meets_TablesCommitAndMoversMove_1 : ∃ (s : State), s.gated 0x4200_0000 = false :=
  ⟨State.reset, by decide +kernel⟩

theorem test_meets_TablesCommitAndMoversMove_2 : ∃ (s : State), s.domainOn 39 = true ∧ s.get .CSW_STATUS_COMMIT_PEND = 1 ∧
  (s.set .CSW_STATUS_COMMIT_PEND 0).commitOk = true :=
  ⟨(List.range 64).foldl (fun s k => (s.putReg (0x42000100 + 4 * k) (if k < 6 then (if k % 2 = 0 then 0x03020100 else 0x07060504) else 0x3F3F3F3F)).putReg (0x42000200 + 4 * k) (if k < 6 then (if k % 2 = 0 then 0x03020100 else 0x07060504) else 0x3F3F3F3F)) (((State.reset.set .CSW_STATUS_COMMIT_PEND 1).set .CSW_STATUS_CAP 64)),
    by decide +kernel⟩

theorem test_meets_TablesCommitAndMoversMove_3 : ∃ (s : State), s.domainOn 39 = true ∧ s.get .CSW_STATUS_COMMIT_PEND = 1 ∧
  (s.set .CSW_STATUS_COMMIT_PEND 0).commitOk = false :=
  ⟨((State.reset.set .CSW_STATUS_COMMIT_PEND 1).set (.CSW_SLOT_OWNER0 0 0) 20), by decide +kernel⟩

theorem test_meets_TablesCommitAndMoversMove_4 : ∃ (s : State), s.domainOn 39 = true ∧ s.get .CSW_STATUS_COMMIT_PEND = 0 :=
  ⟨State.reset, by decide +kernel⟩

theorem test_meets_TablesCommitAndMoversMove_5 : ∃ (r : Nat), r < 16 :=
  ⟨15, by decide +kernel⟩

theorem test_meets_TablesCommitAndMoversMove_6 : ∃ (s : State) (n : Nat), s.domainOn 57 = true ∧ s.dramServes = true ∧
  (s.stage n).active = true ∧ (s.stage n).bufErr = false ∧ (s.stage n).read = false ∧ (s.stage n).moved < (s.stage n).total ∧
  (s.stage n).moved - (s.stage n).freed < stagingSectors (s.stage n).meta_ ∧ (s.stage n).zeros = true :=
  ⟨{ (State.reset.set .SLU_DRAM_CFG_TRAINED 1) with stg := [(3, { active := true, total := 2, zeros := true })] }, 3,
    by decide +kernel⟩

theorem test_meets_TablesCommitAndMoversMove_7 : ∃ (s : State) (n : Nat) (h : List Byte), s.domainOn 57 = true ∧
  s.dramServes = true ∧ (s.stage n).active = true ∧ (s.stage n).bufErr = false ∧ (s.stage n).read = false ∧
  (s.stage n).moved < (s.stage n).total ∧ (s.stage n).moved - (s.stage n).freed < stagingSectors (s.stage n).meta_ ∧
  (s.stage n).zeros = false ∧ (s.stage n).moved = 0 ∧ (s.stage n).header = some h :=
  ⟨{ (State.reset.set .SLU_DRAM_CFG_TRAINED 1) with stg := [(3, { active := true, total := 2, header := some [5] })] }, 3,
    [5], by decide +kernel⟩

theorem test_meets_TablesCommitAndMoversMove_8 : ∃ (s : State) (n : Nat) (bs : List Byte), s.domainOn 57 = true ∧
  s.dramServes = true ∧ (s.stage n).active = true ∧ (s.stage n).bufErr = false ∧ (s.stage n).read = false ∧
  (s.stage n).moved < (s.stage n).total ∧ (s.stage n).moved - (s.stage n).freed < stagingSectors (s.stage n).meta_ ∧
  (s.stage n).zeros = false ∧ ¬ ((s.stage n).moved = 0 ∧ (s.stage n).header.isSome = true) ∧
  (s.dramLoad ((s.stage n).buf + ((s.stage n).moved - (s.stage n).header.toList.length) * (4096 + metaBytes (s.stage n).meta_)) (4096 + metaBytes (s.stage n).meta_)).1 = some bs :=
  ⟨{ (State.reset.set .SLU_DRAM_CFG_TRAINED 1) with stg := [(3, { active := true, total := 2, buf := 0x10_0000_0000 })] }, 3,
    State.readBytes ({ (State.reset.set .SLU_DRAM_CFG_TRAINED 1) with stg := [(3, { active := true, total := 2, buf := 0x10_0000_0000 })] }) 0x10_0000_0000 4096,
    by exact ⟨by decide +kernel, by decide +kernel, by decide +kernel, by decide +kernel, by decide +kernel,
    by decide +kernel, by decide +kernel, by decide +kernel, by decide +kernel, rfl⟩⟩

theorem test_meets_TablesCommitAndMoversMove_9 : ∃ (s : State) (n : Nat), s.domainOn 57 = true ∧ s.dramServes = true ∧
  (s.stage n).active = true ∧ (s.stage n).bufErr = false ∧ (s.stage n).read = false ∧ (s.stage n).moved < (s.stage n).total ∧
  (s.stage n).moved - (s.stage n).freed < stagingSectors (s.stage n).meta_ ∧ (s.stage n).zeros = false ∧
  ¬ ((s.stage n).moved = 0 ∧ (s.stage n).header.isSome = true) ∧
  s.dramOk ((s.stage n).buf + ((s.stage n).moved - (s.stage n).header.toList.length) * (4096 + metaBytes (s.stage n).meta_)) (4096 + metaBytes (s.stage n).meta_) = true ∧
  (blocksOf ((s.stage n).buf + ((s.stage n).moved - (s.stage n).header.toList.length) * (4096 + metaBytes (s.stage n).meta_)) (4096 + metaBytes (s.stage n).meta_)).any (fun b => s.poisonedAt b) = true :=
  ⟨{ (State.reset.set .SLU_DRAM_CFG_TRAINED 1) with stg := [(3, { active := true, total := 2, buf := 0x10_0000_0000 })], slu := { poisoned := [(0x10_0000_0040, true)] } },
    3, by decide +kernel⟩

theorem test_meets_TablesCommitAndMoversMove_10 : ∃ (s : State) (n : Nat) (i : Nat) (bs : List Byte) (rest : List (Nat × List Byte)),
  s.domainOn 57 = true ∧ s.dramServes = true ∧ (s.stage n).active = true ∧ (s.stage n).bufErr = false ∧
  (s.stage n).read = true ∧ (s.stage n).data = (i, bs) :: rest ∧ s.earlierWaits n i = false ∧
  (s.dramStore ((s.stage n).buf + i * (4096 + metaBytes (s.stage n).meta_)) bs).1 = true :=
  ⟨{ (State.reset.set .SLU_DRAM_CFG_TRAINED 1) with stg := [(3, { active := true, read := true, buf := 0x10_0000_0000, data := [(1, [7])] })] },
    3, 1, [7], [], by decide +kernel⟩

theorem test_meets_ChannelsTakeCommands_1 : ∃ (s : State) (who : Who) (c : Nat), s.gated (0x4400_0100 + 0x40 * c) = false ∧
  ¬(c < 8 ∧ who ≠ .mire) ∧ s.get (.LODE_CH_STATUS_STATE c) = 0 :=
  ⟨State.reset, .mire, 9, by decide +kernel⟩

theorem test_meets_ChannelsTakeCommands_2 : ∃ (s : State) (who : Who) (c : Nat), s.gated (0x4400_0100 + 0x40 * c) = false ∧
  ¬(c < 8 ∧ who ≠ .mire) ∧ s.get (.LODE_CH_STATUS_STATE c) ≠ 0 :=
  ⟨(State.reset.set (.LODE_CH_STATUS_STATE 9) 1), .mire, 9, by decide +kernel⟩

theorem test_meets_ChannelsTakeCommands_3 : ∃ (s : State) (c : Nat), s.gated (0x4400_0100 + 0x40 * c) = false ∧ c < 8 :=
  ⟨State.reset, 3, by decide +kernel⟩

theorem test_meets_ChannelsTakeCommands_4 : ∃ (s : State) (who : Who) (c : Nat), s.gated (0x4400_0100 + 0x40 * c) = false ∧
  ¬(c < 8 ∧ who ≠ .mire) ∧ s.get (.LODE_CH_STATUS_STATE c) = 0 :=
  ⟨State.reset, .mire, 9, by decide +kernel⟩

theorem test_meets_ChannelsTakeCommands_5 : ∃ (s : State) (who : Who) (c : Nat), s.gated (0x4400_0100 + 0x40 * c) = false ∧
  ¬(c < 8 ∧ who ≠ .mire) ∧ s.get (.LODE_CH_STATUS_STATE c) ≠ 0 ∧ s.get (.LODE_CH_STATUS_STATE c) ≠ 4 :=
  ⟨(State.reset.set (.LODE_CH_STATUS_STATE 9) 1), .mire, 9, by decide +kernel⟩

theorem test_meets_ChannelsTakeCommands_6 : ∃ (s : State) (who : Who) (c : Nat), s.gated (0x4400_0100 + 0x40 * c) = false ∧
  ¬(c < 8 ∧ who ≠ .mire) ∧ s.get (.LODE_CH_STATUS_STATE c) = 4 ∧
  ((s.dma.at c).loaded = false ∨ c < 8 ∨ inDram (s.dmaCur c) = true) :=
  ⟨(State.reset.set (.LODE_CH_STATUS_STATE 9) 4), .mire, 9, by decide +kernel⟩

theorem test_meets_ChannelsTakeCommands_7 : ∃ (s : State) (who : Who) (c : Nat), s.gated (0x4400_0100 + 0x40 * c) = false ∧
  ¬(c < 8 ∧ who ≠ .mire) ∧ (s.get (.LODE_CH_STATUS_STATE c) = 1 ∨ s.get (.LODE_CH_STATUS_STATE c) = 2) :=
  ⟨(State.reset.set (.LODE_CH_STATUS_STATE 9) 1), .mire, 9, by decide +kernel⟩

theorem test_meets_ChannelsTakeCommands_8 : ∃ (s : State) (who : Who) (c : Nat), s.gated (0x4400_0100 + 0x40 * c) = false ∧
  ¬(c < 8 ∧ who ≠ .mire) ∧ (s.get (.LODE_CH_STATUS_STATE c) = 3 ∨ s.get (.LODE_CH_STATUS_STATE c) = 4) :=
  ⟨(State.reset.set (.LODE_CH_STATUS_STATE 9) 4), .mire, 9, by decide +kernel⟩

theorem test_meets_ChannelsTakeCommands_9 : ∃ (s : State) (who : Who) (c : Nat), s.gated (0x4400_0100 + 0x40 * c) = false ∧
  ¬(c < 8 ∧ who ≠ .mire) ∧ (s.get (.LODE_CH_STATUS_STATE c) = 0 ∨ s.get (.LODE_CH_STATUS_STATE c) = 5) :=
  ⟨State.reset, .mire, 9, by decide +kernel⟩

theorem test_meets_ChannelsTakeCommands_10 : ∃ (s : State) (c : Nat), s.dmaServes c = true ∧ s.dmaLive c = true ∧
  s.get (.LODE_CH_STATUS_STATE c) = 3 ∧ (s.dma.at c).loaded = false :=
  ⟨((State.reset.set .SLU_DRAM_CFG_TRAINED 1).set (.LODE_CH_STATUS_STATE 9) 3), 9, by decide +kernel⟩

theorem test_meets_ChannelsTakeCommands_11 : ∃ (s : State) (c : Nat) (k : Nat) (data : List Byte), c < 8 ∧
  s.dmaServes c = true ∧ s.dmaLive c = true ∧ s.get (.LODE_CH_STATUS_STATE c) = 3 ∧ (s.dma.at c).loaded = true ∧
  s.drainBytes c k ≠ 0 ∧ (s.dmaRun c (s.drainBytes c k) data).1 = 0 ∧
  ((s.dmaRun c (s.drainBytes c k) data).2.dma.at c).moved ≠ (s.dma.at c).len :=
  ⟨{ ((State.reset.set .SLU_DRAM_CFG_TRAINED 1).set (.LODE_CH_STATUS_STATE 3) 3) with dma := [(3, { loaded := true, desc := (List.replicate 8 0 ++ [0, 0, 0, 0, 0x10, 0, 0, 0, 0x40, 0, 0, 0] ++ List.replicate 12 0), ctx := some 2 })], sth := { ctxs := [(2, { state := 3 })] } },
    3, 8, [7], by decide +kernel⟩

theorem test_meets_ChannelsTakeCommands_12 : ∃ (s : State) (c : Nat) (k : Nat) (data : List Byte), c < 8 ∧
  s.dmaServes c = true ∧ s.dmaLive c = true ∧ s.get (.LODE_CH_STATUS_STATE c) = 5 ∧
  (s.dmaRun c (s.drainBytes c k) data).1 = 0 :=
  ⟨{ ((State.reset.set .SLU_DRAM_CFG_TRAINED 1).set (.LODE_CH_STATUS_STATE 3) 5) with dma := [(3, { loaded := true, desc := (List.replicate 8 0 ++ [0, 0, 0, 0, 0x10, 0, 0, 0, 0x40, 0, 0, 0] ++ List.replicate 12 0), ctx := some 2 })], sth := { ctxs := [(2, { state := 3 })] } },
    3, 8, [7], by decide +kernel⟩

theorem test_meets_ChannelsMoveBytes_1 : ∃ (s : State) (c : Nat) (h : HostDescriptor), c < 8 ∧ s.dmaServes c = true ∧
  s.get (.LODE_CH_STATUS_STATE c) = 0 ∧ s.get (.LODE_CH_CTRL_PAUSE c) = 0 ∧ 32 ≤ h.bytes.length ∧
  s.hostLive c { ctx := some h.ctx, seq := (s.ctx h.ctx).seq, desc := h.bytes.take 32 } = true ∧
  ({ desc := h.bytes.take 32 } : DmaChannel).bad = false :=
  ⟨{ (State.reset.set .SLU_DRAM_CFG_TRAINED 1) with sth := { ctxs := [(2, { state := 3 })] } }, 3,
    { ctx := 2, bytes := (List.replicate 8 0 ++ [0, 0, 0, 0, 0x10, 0, 0, 0, 0x40, 0, 0, 0] ++ List.replicate 12 0) },
    by decide +kernel⟩

theorem test_meets_ChannelsMoveBytes_2 : ∃ (s : State) (c : Nat) (bs : List Byte), 8 ≤ c ∧ s.dmaServes c = true ∧
  s.get (.LODE_CH_STATUS_STATE c) = 1 ∧ (s.dma.at c).loaded = false ∧ inDram (s.dmaCur c) = true ∧
  (s.dramLoad (s.dmaCur c) 32).1 = some bs ∧ ({ desc := bs } : DmaChannel).bad = false :=
  ⟨((((((State.reset.set .SLU_DRAM_CFG_TRAINED 1).set (.LODE_CH_STATUS_STATE 9) 1).set (.LODE_CH_CUR_LO_ADDR 9) 4).set (.LODE_CH_CUR_HI_ADDR 9) 16).writeBytes 0x10_0000_0103 [0x20]).writeBytes 0x10_0000_010C [0x10,
    0, 0, 0, 0x40]), 9, [0, 0, 0, 0x20] ++ List.replicate 4 0 ++ [0, 0, 0, 0, 0x10, 0, 0, 0, 0x40, 0, 0, 0] ++
    List.replicate 12 0, by decide +kernel⟩

theorem test_meets_ChannelsMoveBytes_3 : ∃ (s : State) (c : Nat), 8 ≤ c ∧ s.dmaServes c = true ∧
  s.get (.LODE_CH_STATUS_STATE c) = 1 ∧ (s.dma.at c).loaded = false ∧ inDram (s.dmaCur c) = true ∧
  (s.dramLoad (s.dmaCur c) 32).1 = none :=
  ⟨{ ((((State.reset.set .SLU_DRAM_CFG_TRAINED 1).set (.LODE_CH_STATUS_STATE 9) 1).set (.LODE_CH_CUR_LO_ADDR 9) 4).set (.LODE_CH_CUR_HI_ADDR 9) 16) with slu := { poisoned := [(0x10_0000_0100, true)] } },
    9, by decide +kernel⟩

theorem test_meets_ChannelsMoveBytes_4 : ∃ (s : State) (c : Nat), c < 8 ∧ s.dmaServes c = true ∧ s.dmaLive c = true ∧
  (s.dma.at c).loaded = true ∧ s.get (.LODE_CH_STATUS_STATE c) = 1 ∧
  ((s.dma.at c).req = 0 ∨ s.get (.LODE_CH_BURST_LEFT_BYTES c) = ((s.dma.at c).len - (s.dma.at c).got)) ∧
  (s.dma.at c).held = false ∧ (s.dma.at c).xts = false ∧ (s.dma.at c).part = [] ∧ inDram (s.dma.at c).src = false ∧
  inDram ((s.dma.at c).dst + (s.dma.at c).moved) = true ∧
  s.dramOk ((s.dma.at c).dst + (s.dma.at c).moved) ((s.dma.at c).len - (s.dma.at c).got) = true ∧
  (∀ b ∈ blocksOf ((s.dma.at c).dst + (s.dma.at c).moved) (((s.dma.at c).len - (s.dma.at c).got)), s.poisonedAt b = false) :=
  ⟨{ ((State.reset.set .SLU_DRAM_CFG_TRAINED 1).set (.LODE_CH_STATUS_STATE 3) 1) with dma := [(3, { loaded := true, desc := (List.replicate 8 0 ++ [0, 0, 0, 0, 0x10, 0, 0, 0, 0x40, 0, 0, 0] ++ List.replicate 12 0), ctx := some 2 })], sth := { ctxs := [(2, { state := 3 })] } },
    3, by decide +kernel⟩

theorem test_meets_ChannelsMoveBytes_5 : ∃ (s : State) (c : Nat) (k : Nat), (c < 8 ∨ (k = 0 ∧ inDram (s.dmaCur c) = true)) ∧
  s.dmaServes c = true ∧ s.dmaLive c = true ∧ (s.dma.at c).loaded = true ∧
  (s.get (.LODE_CH_STATUS_STATE c) = 1 ∨ s.get (.LODE_CH_STATUS_STATE c) = 3 ∨ s.get (.LODE_CH_STATUS_STATE c) = 5) ∧
  (if (s.dma.at c).req = 0 then ((s.dma.at c).len - (s.dma.at c).got) else s.get (.LODE_CH_BURST_LEFT_BYTES c)) ≠ 0 :=
  ⟨{ ((State.reset.set .SLU_DRAM_CFG_TRAINED 1).set (.LODE_CH_STATUS_STATE 3) 1) with dma := [(3, { loaded := true, desc := (List.replicate 8 0 ++ [0, 0, 0, 0, 0x10, 0, 0, 0, 0x40, 0, 0, 0] ++ List.replicate 12 0), ctx := some 2 })], sth := { ctxs := [(2, { state := 3 })] } },
    3, 8, by decide +kernel⟩

theorem test_meets_ChannelsMoveBytes_6 : ∃ (s : State) (c : Nat) (lines : Nat), c < 32 ∧ (s.dma.at c).req ≠ 0 ∧
  lines / 2 ^ (s.dma.at c).req % 2 = 1 ∧ (s.dma.at c).loaded = true ∧ (s.dma.at c).spent ≠ (s.dma.at c).req ∧
  s.get (.LODE_CH_STATUS_STATE c) = 2 ∧ s.dmaServes c = true :=
  ⟨{ ((State.reset.set .SLU_DRAM_CFG_TRAINED 1).set (.LODE_CH_STATUS_STATE 9) 2) with dma := [(9, { loaded := true, desc := (List.replicate 16 0 ++ [8, 0, 0, 0, 0, 0x20, 1, 0]) })] },
    9, 2, by decide +kernel⟩

theorem test_meets_ChannelsMoveBytes_7 : ∃ (s : State) (c : Nat) (k : Nat), 8 ≤ c ∧ c < 32 ∧ (s.dma.at c).loaded = true ∧
  s.get (.LODE_CH_STATUS_STATE c) = 1 ∧ s.dmaServes c = true ∧ s.get (.LODE_CH_BURST_LEFT_BYTES c) ≠ 0 ∧ k ≠ 0 ∧
  (s.dma.at c).req ≠ 0 ∧ (s.dma.at c).srcFix = true ∧ (s.dma.at c).dstFix = false ∧ (s.dma.at c).xts = false ∧
  (s.dma.at c).part = [] ∧ inDram (s.dma.at c).src = false ∧ inTcm (s.dma.at c).src 4 = false ∧
  windowOf (s.dma.at c).src = none ∧ inDram ((s.dma.at c).dst + (s.dma.at c).moved) = true ∧
  s.dramOk ((s.dma.at c).dst + (s.dma.at c).moved) (min k (s.get (.LODE_CH_BURST_LEFT_BYTES c)) / 4 * 4) = true ∧
  (∀ b ∈ blocksOf ((s.dma.at c).dst + (s.dma.at c).moved) ((min k (s.get (.LODE_CH_BURST_LEFT_BYTES c)) / 4 * 4)),
  s.poisonedAt b = false) :=
  ⟨{ (((State.reset.set .SLU_DRAM_CFG_TRAINED 1).set (.LODE_CH_STATUS_STATE 9) 1).set (.LODE_CH_BURST_LEFT_BYTES 9) 8) with dma := [(9, { loaded := true, desc := (List.replicate 8 0 ++ [0, 0, 0, 0, 0x10, 0, 0, 0] ++ [8, 0, 0, 0, 0, 0x38, 1, 0]) })] },
    9, 4, by decide +kernel⟩

theorem test_meets_CarrServesAccesses_1 : ∃ (s : State) (addr : Nat), s.inWindow addr 1 = false :=
  ⟨State.reset, 0, by decide +kernel⟩

theorem test_meets_CarrServesAccesses_2 : ∃ (s : State) (core : Nat) (addr : Nat) (size : Nat), s.inWindow addr 1 = true ∧
  ({ core := core, addr := addr, size := size, op := .load } : CarrAccess).legal = false :=
  ⟨(((State.reset.set .SLU_DRAM_CFG_TRAINED 1).set .CARR_WIN_BASE_HI_BASE 16).set .CARR_WIN_SIZE_SIZE 1), 0, 0x10_0000_0040,
    3, by decide +kernel⟩

theorem test_meets_CarrServesAccesses_3 : ∃ (s : State) (core : Nat) (addr : Nat) (size : Nat) (d : List Byte),
  s.inWindow addr 1 = true ∧ ({ core := core, addr := addr, size := size, op := .load } : CarrAccess).legal = true ∧
  s.domainOn 56 = true ∧ (s.get .CARR_STATUS_STATE = 1 ∨ s.dramServes = true) ∧
  s.carrBehind ({ core := core, addr := addr, size := size, op := .load } : CarrAccess) = false ∧
  s.carrNeeds ({ core := core, addr := addr, size := size, op := .load } : CarrAccess) = false ∧
  (s.carrData (addr / 64)).1 = some d :=
  ⟨{ ((((State.reset.set .SLU_DRAM_CFG_TRAINED 1).set .CARR_WIN_BASE_HI_BASE 16).set .CARR_WIN_SIZE_SIZE 1).set .CARR_STATUS_STATE 1) with carr := { lines := [(16400, some { line := 0x4000_0001, data := [5] })] } },
    0, 0x10_0000_0040, 4, [5], by decide +kernel⟩

theorem test_meets_CarrServesAccesses_4 : ∃ (s : State) (core : Nat) (addr : Nat) (size : Nat), s.inWindow addr 1 = true ∧
  ({ core := core, addr := addr, size := size, op := .load } : CarrAccess).legal = true ∧ s.domainOn 56 = true ∧
  (s.get .CARR_STATUS_STATE = 1 ∨ s.dramServes = true) ∧
  s.carrBehind ({ core := core, addr := addr, size := size, op := .load } : CarrAccess) = false ∧
  s.carrNeeds ({ core := core, addr := addr, size := size, op := .load } : CarrAccess) = true ∧
  s.carr.fills.any (fun f => f.line == (addr / 64) && !f.discard) = false :=
  ⟨((((State.reset.set .SLU_DRAM_CFG_TRAINED 1).set .CARR_WIN_BASE_HI_BASE 16).set .CARR_WIN_SIZE_SIZE 1).set .CARR_STATUS_STATE 1),
    0, 0x10_0000_0040, 4, by decide +kernel⟩

theorem test_meets_CarrServesAccesses_5 : ∃ (s : State) (core : Nat) (addr : Nat) (data : List Byte),
  s.inWindow addr 1 = true ∧
  ({ core := core, addr := addr, size := data.length, op := .store data } : CarrAccess).legal = true ∧ s.domainOn 56 = true ∧
  (s.get .CARR_STATUS_STATE = 1 ∨ s.dramServes = true) ∧
  s.carrBehind ({ core := core, addr := addr, size := data.length, op := .store data } : CarrAccess) = false ∧ (∀ p,
  s.carr.pwb.getLast? = some p → p.line ≠ (addr / 64)) ∧ s.carr.pwb.length < 4 :=
  ⟨(((State.reset.set .SLU_DRAM_CFG_TRAINED 1).set .CARR_WIN_BASE_HI_BASE 16).set .CARR_WIN_SIZE_SIZE 1), 0, 0x10_0000_0040,
    [1, 2], by decide +kernel⟩

theorem test_meets_CarrServesAccesses_6 : ∃ (s : State) (core : Nat) (addr : Nat) (data : List Byte) (p : Posted),
  s.inWindow addr 1 = true ∧
  ({ core := core, addr := addr, size := data.length, op := .store data } : CarrAccess).legal = true ∧ s.domainOn 56 = true ∧
  (s.get .CARR_STATUS_STATE = 1 ∨ s.dramServes = true) ∧
  s.carrBehind ({ core := core, addr := addr, size := data.length, op := .store data } : CarrAccess) = false ∧
  s.carr.pwb.getLast? = some p ∧ p.line = (addr / 64) :=
  ⟨{ (((State.reset.set .SLU_DRAM_CFG_TRAINED 1).set .CARR_WIN_BASE_HI_BASE 16).set .CARR_WIN_SIZE_SIZE 1) with carr := { pwb := [{ line := 0x4000_0001, bytes := List.replicate 64 none }] } },
    0, 0x10_0000_0040, [1, 2], { line := 0x4000_0001, bytes := List.replicate 64 none }, by decide +kernel⟩

theorem test_meets_CarrServesAccesses_7 : ∃ (s : State) (core : Nat) (addr : Nat) (data : List Byte),
  s.inWindow addr 1 = true ∧
  ({ core := core, addr := addr, size := data.length, op := .store data } : CarrAccess).legal = true ∧ s.domainOn 56 = true ∧
  (s.get .CARR_STATUS_STATE = 1 ∨ s.dramServes = true) ∧
  s.carrBehind ({ core := core, addr := addr, size := data.length, op := .store data } : CarrAccess) = false ∧ (∀ p,
  s.carr.pwb.getLast? = some p → p.line ≠ (addr / 64)) ∧ 4 ≤ s.carr.pwb.length :=
  ⟨{ (((State.reset.set .SLU_DRAM_CFG_TRAINED 1).set .CARR_WIN_BASE_HI_BASE 16).set .CARR_WIN_SIZE_SIZE 1) with carr := { pwb := List.replicate 4 {} } },
    0, 0x10_0000_0040, [1, 2], by decide +kernel⟩

theorem test_meets_CarrServesAccesses_8 : ∃ (s : State) (core : Nat) (addr : Nat) (size : Nat) (x : Nat) (d : List Byte),
  s.inWindow addr 1 = true ∧ ({ core := core, addr := addr, size := size, op := .amo .lr x } : CarrAccess).legal = true ∧
  s.domainOn 56 = true ∧ (s.get .CARR_STATUS_STATE = 1 ∨ s.dramServes = true) ∧
  s.carrBehind ({ core := core, addr := addr, size := size, op := .amo .lr x } : CarrAccess) = false ∧
  s.carrNeeds ({ core := core, addr := addr, size := size, op := .amo .lr x } : CarrAccess) = false ∧
  (s.carrData (addr / 64)).1 = some d :=
  ⟨(((State.reset.set .SLU_DRAM_CFG_TRAINED 1).set .CARR_WIN_BASE_HI_BASE 16).set .CARR_WIN_SIZE_SIZE 1), 2, 0x10_0000_0040,
    4, 0, List.replicate 64 0, by decide +kernel⟩

theorem test_meets_CarrServesAccesses_9 : ∃ (s : State) (core : Nat) (addr : Nat) (size : Nat) (x : Nat),
  s.inWindow addr 1 = true ∧ ({ core := core, addr := addr, size := size, op := .amo .sc x } : CarrAccess).legal = true ∧
  s.domainOn 56 = true ∧ (s.get .CARR_STATUS_STATE = 1 ∨ s.dramServes = true) ∧
  s.carrBehind ({ core := core, addr := addr, size := size, op := .amo .sc x } : CarrAccess) = false ∧
  s.carr.resv.at core ≠ some (addr / 64) :=
  ⟨(((State.reset.set .SLU_DRAM_CFG_TRAINED 1).set .CARR_WIN_BASE_HI_BASE 16).set .CARR_WIN_SIZE_SIZE 1), 2, 0x10_0000_0040,
    4, 7, by decide +kernel⟩

theorem test_meets_CarrServesAccesses_10 : ∃ (s : State) (core : Nat) (addr : Nat) (size : Nat) (x : Nat),
  s.inWindow addr 1 = true ∧ ({ core := core, addr := addr, size := size, op := .amo .sc x } : CarrAccess).legal = true ∧
  s.domainOn 56 = true ∧ (s.get .CARR_STATUS_STATE = 1 ∨ s.dramServes = true) ∧
  s.carrBehind ({ core := core, addr := addr, size := size, op := .amo .sc x } : CarrAccess) = false ∧
  s.carr.resv.at core = some (addr / 64) ∧ (∀ p, s.carr.pwb.getLast? = some p → p.line ≠ (addr / 64)) ∧
  s.carr.pwb.length < 4 :=
  ⟨{ (((State.reset.set .SLU_DRAM_CFG_TRAINED 1).set .CARR_WIN_BASE_HI_BASE 16).set .CARR_WIN_SIZE_SIZE 1) with carr := { resv := [(2, some 0x4000_0001)] } },
    2, 0x10_0000_0040, 4, 7, by decide +kernel⟩

theorem test_meets_CarrServesAccesses_11 : ∃ (s : State) (core : Nat) (addr : Nat) (size : Nat) (x : Nat) (op : AmoOp) (d : List Byte),
  op ≠ .lr ∧ op ≠ .sc ∧ op ≠ .fence ∧ s.inWindow addr 1 = true ∧
  ({ core := core, addr := addr, size := size, op := .amo op x } : CarrAccess).legal = true ∧ s.domainOn 56 = true ∧
  (s.get .CARR_STATUS_STATE = 1 ∨ s.dramServes = true) ∧
  s.carrBehind ({ core := core, addr := addr, size := size, op := .amo op x } : CarrAccess) = false ∧
  s.carrNeeds ({ core := core, addr := addr, size := size, op := .amo op x } : CarrAccess) = false ∧
  (s.carrData (addr / 64)).1 = some d ∧ (∀ p, s.carr.pwb.getLast? = some p → p.line ≠ (addr / 64)) ∧ s.carr.pwb.length < 4 :=
  ⟨(((State.reset.set .SLU_DRAM_CFG_TRAINED 1).set .CARR_WIN_BASE_HI_BASE 16).set .CARR_WIN_SIZE_SIZE 1), 2, 0x10_0000_0040,
    8, 7, .add, List.replicate 64 0, by decide +kernel⟩

theorem test_meets_CarrServesAccesses_12 : ∃ (s : State) (core : Nat) (addr : Nat) (size : Nat) (x : Nat),
  s.domainOn 56 = true ∧
  s.carrBehind ({ core := core, addr := addr, size := size, op := .amo .fence x } : CarrAccess) = false ∧
  s.fenceDone core = true :=
  ⟨State.reset, 2, 0, 4, 0, by decide +kernel⟩

theorem test_meets_CarrServesAccesses_13 : ∃ (s : State) (core : Nat) (addr : Nat) (size : Nat) (x : Nat),
  s.domainOn 56 = true ∧
  s.carrBehind ({ core := core, addr := addr, size := size, op := .amo .fence x } : CarrAccess) = false ∧
  s.fenceDone core = false :=
  ⟨{ State.reset with carr := { pwb := [{ cores := [2] }] } }, 2, 0, 4, 0, by decide +kernel⟩

theorem test_meets_CarrFillsAndDrains_1 : ∃ (s : State) (line : Nat) (f : Fill) (d : List Byte), s.carrRuns = true ∧
  s.carr.fills.find? (fun f => f.line = line) = some f ∧ f.discard = false ∧ s.get .CARR_STATUS_STATE = 1 ∧ (∃ w < 16,
  s.wayLocked w = false) ∧ (∀ a ∈ f.waiting, a.op = .load ∧ a.addr / 64 = line) ∧ s.carr.stalled = [] ∧
  s.carrFind line = none ∧ (s.carrFetch line).1 = some d :=
  ⟨{ ((((State.reset.set .SLU_DRAM_CFG_TRAINED 1).set .CARR_WIN_BASE_HI_BASE 16).set .CARR_WIN_SIZE_SIZE 1).set .CARR_STATUS_STATE 1) with carr := { fills := [{ line := 0x4000_0001, waiting := [{ core := 1, addr := 0x10_0000_0044, size := 4, op := .load }] }] } },
    0x4000_0001, { line := 0x4000_0001, waiting := [{ core := 1, addr := 0x10_0000_0044, size := 4, op := .load }] },
    List.replicate 64 0, by decide +kernel⟩

theorem test_meets_CarrFillsAndDrains_2 : ∃ (s : State) (line : Nat) (f : Fill) (d : List Byte), s.carrRuns = true ∧
  s.carr.fills.find? (fun f => f.line = line) = some f ∧ f.discard = true ∧ (∀ a ∈ f.waiting, a.op = .load ∧
  a.addr / 64 = line) ∧ s.carr.stalled = [] ∧ s.carrFind line = none ∧ (s.carrFetch line).1 = some d :=
  ⟨{ ((((State.reset.set .SLU_DRAM_CFG_TRAINED 1).set .CARR_WIN_BASE_HI_BASE 16).set .CARR_WIN_SIZE_SIZE 1).set .CARR_STATUS_STATE 1) with carr := { fills := [{ line := 0x4000_0001, waiting := [{ core := 1, addr := 0x10_0000_0044, size := 4, op := .load }], discard := true }] } },
    0x4000_0001,
    { line := 0x4000_0001, waiting := [{ core := 1, addr := 0x10_0000_0044, size := 4, op := .load }], discard := true },
    List.replicate 64 0, by decide +kernel⟩

theorem test_meets_CarrFillsAndDrains_3 : ∃ (s : State) (line : Nat) (f : Fill), s.carrRuns = true ∧
  s.carr.fills.find? (fun f => f.line = line) = some f ∧ (s.carrFetch line).1 = none :=
  ⟨{ ((((State.reset.set .SLU_DRAM_CFG_TRAINED 1).set .CARR_WIN_BASE_HI_BASE 16).set .CARR_WIN_SIZE_SIZE 1).set .CARR_STATUS_STATE 1) with carr := { fills := [{ line := 0x4000_0001, waiting := [{ core := 1, addr := 0x10_0000_0044, size := 4, op := .load }] }] }, slu := { poisoned := [(0x10_0000_0040, true)] } },
    0x4000_0001, { line := 0x4000_0001, waiting := [{ core := 1, addr := 0x10_0000_0044, size := 4, op := .load }] },
    by decide +kernel⟩

theorem test_meets_CarrFillsAndDrains_4 : ∃ (s : State) (line : Nat) (d : List Byte), s.carrRuns = true ∧
  s.carr.fills.find? (fun f => f.line = line) = none ∧ s.get .CARR_OP_STATUS_BUSY = 1 ∧ s.carr.op = 1 ∧ s.carr.next = line ∧
  s.get .CARR_OP_STATUS_REMAIN ≠ 0 ∧ s.get .CARR_STATUS_STATE = 1 ∧ (s.carrFetch line).1 = some d :=
  ⟨{ ((((((State.reset.set .SLU_DRAM_CFG_TRAINED 1).set .CARR_WIN_BASE_HI_BASE 16).set .CARR_WIN_SIZE_SIZE 1).set .CARR_STATUS_STATE 1).set .CARR_OP_STATUS_BUSY 1).set .CARR_OP_STATUS_REMAIN 2) with carr := { op := 1, next := 0x4000_0001, way := 3 } },
    0x4000_0001, List.replicate 64 0, by decide +kernel⟩

theorem test_meets_CarrFillsAndDrains_5 : ∃ (s : State) (p : Posted) (rest : List Posted), s.carrRuns = true ∧
  s.carr.pwb = p :: rest ∧ s.carr.stalled = [] ∧ s.dramOk (p.line * 64) 64 = true ∧ s.poisonedAt (p.line * 64) = false :=
  ⟨{ (((State.reset.set .SLU_DRAM_CFG_TRAINED 1).set .CARR_WIN_BASE_HI_BASE 16).set .CARR_WIN_SIZE_SIZE 1) with carr := { pwb := [{ line := 0x4000_0001, bytes := List.replicate 64 none }] } },
    { line := 0x4000_0001, bytes := List.replicate 64 none }, [], by decide +kernel⟩

theorem test_meets_CarrIsManaged_1 : ∃ (s : State), s.gated 0x4300_0000 = false ∧ s.get .CARR_STATUS_STATE = 0 ∧
  s.windowOk = true :=
  ⟨((((State.reset.set .SLU_DRAM_CFG_TRAINED 1).set .CARR_WIN_BASE_HI_BASE 16).set .CARR_WIN_SIZE_SIZE 1).set .SLU_PC_CFG_BASE 67),
    by decide +kernel⟩

theorem test_meets_CarrIsManaged_2 : ∃ (s : State), s.gated 0x4300_0000 = false ∧ ((s.get .CARR_STATUS_STATE = 0 ∧
  s.windowOk = false) ∨ s.get .CARR_STATUS_STATE = 2) :=
  ⟨State.reset, by decide +kernel⟩

theorem test_meets_CarrIsManaged_3 : ∃ (s : State), s.gated 0x4300_0000 = false ∧ s.get .CARR_STATUS_STATE = 1 ∧
  s.carr.pwb ≠ [] :=
  ⟨{ ((((State.reset.set .SLU_DRAM_CFG_TRAINED 1).set .CARR_WIN_BASE_HI_BASE 16).set .CARR_WIN_SIZE_SIZE 1).set .CARR_STATUS_STATE 1) with carr := { pwb := [{}] } },
    by decide +kernel⟩

theorem test_meets_CarrIsManaged_4 : ∃ (s : State), s.gated 0x4300_0000 = false ∧ s.get .CARR_STATUS_STATE = 1 ∧
  s.carr.pwb = [] :=
  ⟨(State.reset.set .CARR_STATUS_STATE 1), by decide +kernel⟩

theorem test_meets_CarrIsManaged_5 : ∃ (s : State), s.gated 0x4300_0000 = false :=
  ⟨State.reset, by decide +kernel⟩

theorem test_meets_CarrIsManaged_6 : ∃ (s : State), s.gated 0x4300_0000 = false :=
  ⟨State.reset, by decide +kernel⟩

theorem test_meets_CarrIsManaged_7 : ∃ (s : State), s.gated 0x4300_0020 = false ∧ s.get .CARR_OP_STATUS_BUSY = 0 ∧
  s.get .CARR_STATUS_STATE = 1 ∧ s.get .CARR_OP_LINES_LINES ≠ 0 ∧ s.get .CARR_OP_LINES_LINES ≤ 262144 ∧
  s.inWindow (s.opLine * 64) (64 * s.get .CARR_OP_LINES_LINES) = true :=
  ⟨((((((State.reset.set .SLU_DRAM_CFG_TRAINED 1).set .CARR_WIN_BASE_HI_BASE 16).set .CARR_WIN_SIZE_SIZE 1).set .CARR_STATUS_STATE 1).set .CARR_OP_ADDR_HI_ADDR 16).set .CARR_OP_LINES_LINES 3),
    by decide +kernel⟩

theorem test_meets_CarrIsManaged_8 : ∃ (s : State), s.gated 0x4300_0020 = false ∧
  (s.get .CARR_OP_STATUS_BUSY = 1 ∨ s.get .CARR_STATUS_STATE ≠ 1 ∨ s.get .CARR_OP_LINES_LINES = 0 ∨ 262144 < s.get .CARR_OP_LINES_LINES ∨ s.inWindow (s.opLine * 64) (64 * s.get .CARR_OP_LINES_LINES) = false) :=
  ⟨State.reset, by decide +kernel⟩

theorem test_meets_CarrIsManaged_9 : ∃ (s : State), s.gated 0x4300_0020 = false ∧ s.get .CARR_OP_STATUS_BUSY = 0 ∧
  s.get .CARR_STATUS_STATE = 1 ∧ s.get .CARR_OP_LINES_LINES ≠ 0 ∧ s.get .CARR_OP_LINES_LINES ≤ 262144 ∧
  s.inWindow (s.opLine * 64) (64 * s.get .CARR_OP_LINES_LINES) = true :=
  ⟨((((((State.reset.set .SLU_DRAM_CFG_TRAINED 1).set .CARR_WIN_BASE_HI_BASE 16).set .CARR_WIN_SIZE_SIZE 1).set .CARR_STATUS_STATE 1).set .CARR_OP_ADDR_HI_ADDR 16).set .CARR_OP_LINES_LINES 3),
    by decide +kernel⟩

theorem test_meets_CarrIsManaged_10 : ∃ (s : State), s.gated 0x4300_0020 = false ∧
  (s.get .CARR_OP_STATUS_BUSY = 1 ∨ s.get .CARR_STATUS_STATE ≠ 1 ∨ s.get .CARR_OP_LINES_LINES = 0 ∨ 262144 < s.get .CARR_OP_LINES_LINES ∨ s.inWindow (s.opLine * 64) (64 * s.get .CARR_OP_LINES_LINES) = false) :=
  ⟨State.reset, by decide +kernel⟩

theorem test_meets_CarrIsManaged_11 : ∃ (s : State), s.gated 0x4300_0020 = false ∧ s.get .CARR_OP_STATUS_BUSY = 0 ∧
  s.get .CARR_STATUS_STATE = 1 ∧ s.get .CARR_OP_LINES_LINES ≠ 0 ∧ s.get .CARR_OP_LINES_LINES ≤ 262144 :=
  ⟨((((((State.reset.set .SLU_DRAM_CFG_TRAINED 1).set .CARR_WIN_BASE_HI_BASE 16).set .CARR_WIN_SIZE_SIZE 1).set .CARR_STATUS_STATE 1).set .CARR_OP_ADDR_HI_ADDR 16).set .CARR_OP_LINES_LINES 3),
    by decide +kernel⟩

theorem test_meets_CarrIsManaged_12 : ∃ (s : State), s.gated 0x4300_0020 = false ∧
  (s.get .CARR_OP_STATUS_BUSY = 1 ∨ s.get .CARR_STATUS_STATE ≠ 1 ∨ s.get .CARR_OP_LINES_LINES = 0 ∨ 262144 < s.get .CARR_OP_LINES_LINES) :=
  ⟨State.reset, by decide +kernel⟩

theorem test_meets_CarrIsManaged_13 : ∃ (s : State), s.carrRuns = true ∧ s.get .CARR_OP_STATUS_BUSY = 1 :=
  ⟨{ ((((State.reset.set .SLU_DRAM_CFG_TRAINED 1).set .CARR_WIN_BASE_HI_BASE 16).set .CARR_WIN_SIZE_SIZE 1).set .CARR_OP_STATUS_BUSY 1) with carr := { op := 1 } },
    by decide +kernel⟩

theorem test_meets_CarrIsManaged_14 : ∃ (s : State), s.carrRuns = true ∧ s.get .CARR_OP_STATUS_BUSY = 1 ∧ s.carr.op = 2 :=
  ⟨{ ((((State.reset.set .SLU_DRAM_CFG_TRAINED 1).set .CARR_WIN_BASE_HI_BASE 16).set .CARR_WIN_SIZE_SIZE 1).set .CARR_OP_STATUS_BUSY 1) with carr := { op := 2 } },
    by decide +kernel⟩

theorem test_meets_CarrIsManaged_15 : ∃ (s : State), s.carrRuns = true ∧ s.get .CARR_OP_STATUS_BUSY = 1 ∧ s.carr.op = 3 :=
  ⟨{ ((((State.reset.set .SLU_DRAM_CFG_TRAINED 1).set .CARR_WIN_BASE_HI_BASE 16).set .CARR_WIN_SIZE_SIZE 1).set .CARR_OP_STATUS_BUSY 1) with carr := { op := 3 } },
    by decide +kernel⟩

theorem test_meets_CommandsAreFetched_1 : ∃ (s : State) (k : Nat) (q : Nat), s.domainOn (59 + k / 16) = true ∧
  s.rings k q = true :=
  ⟨{ (State.reset.set (.STH_CTL_CFG_EN 3) 1) with sth := { vfs := [(0, 4)] } }, 3, 1, by decide +kernel⟩

theorem test_meets_CommandsAreFetched_2 : ∃ (s : State) (k : Nat) (q : Nat), s.domainOn (59 + k / 16) = true ∧
  s.rings k q = false :=
  ⟨State.reset, 3, 1, by decide +kernel⟩

theorem test_meets_CommandsAreFetched_3 : ∃ (s : State) (k : Nat) (q : Nat), s.domainOn (59 + k / 16) = true ∧
  s.rings k q = true :=
  ⟨{ (State.reset.set (.STH_CTL_CFG_EN 3) 1) with sth := { vfs := [(0, 4)] } }, 3, 1, by decide +kernel⟩

theorem test_meets_CommandsAreFetched_4 : ∃ (s : State) (k : Nat) (q : Nat), s.domainOn (59 + k / 16) = true ∧
  s.rings k q = false :=
  ⟨State.reset, 3, 1, by decide +kernel⟩

theorem test_meets_CommandsAreFetched_5 : ∃ (s : State) (x : Nat) (cmd : HostCommand),
  s.domainOn (59 + cmd.cntlid / 16) = true ∧ s.fetches cmd.cntlid = true ∧ s.turn cmd.cntlid = true ∧
  s.picks cmd.cntlid = some cmd.sqid ∧
  (s.sth.sqs.at (queueKey cmd.cntlid cmd.sqid)).head ≠ (s.sth.sqs.at (queueKey cmd.cntlid cmd.sqid)).tail ∧
  (s.ctx x).state = 0 ∧ x < 4096 ∧ cmd.op ≠ .zoneAppend :=
  ⟨{ ((State.reset.set .STH_CTRL_RUN 1).set (.STH_CTL_CFG_EN 3) 1) with sth := { vfs := [(0, 4)], sqs := [(196609, { tail := 1 })] } },
    5, { cntlid := 3, sqid := 1, op := .read }, by decide +kernel⟩

theorem test_meets_CommandsAreFetched_6 : ∃ (s : State) (x : Nat) (cmd : HostCommand),
  s.domainOn (59 + cmd.cntlid / 16) = true ∧ s.fetches cmd.cntlid = true ∧ s.turn cmd.cntlid = true ∧
  s.picks cmd.cntlid = some cmd.sqid ∧
  (s.sth.sqs.at (queueKey cmd.cntlid cmd.sqid)).head ≠ (s.sth.sqs.at (queueKey cmd.cntlid cmd.sqid)).tail ∧
  (s.ctx x).state = 0 ∧ x < 4096 ∧ cmd.op = .zoneAppend :=
  ⟨{ ((State.reset.set .STH_CTRL_RUN 1).set (.STH_CTL_CFG_EN 3) 1) with sth := { vfs := [(0, 4)], sqs := [(196609, { tail := 1 })] } },
    5, { cntlid := 3, sqid := 1, op := .zoneAppend }, by decide +kernel⟩

theorem test_meets_CommandsAreAdmitted_1 : ∃ (s : State) (x : Nat) (c : Ctx),
  s.grantAppends.bySeq.find? (fun e => s.grantAppends.admissible e.1 && !s.grantAppends.agedBlocks e.1) = some (x, c) :=
  ⟨{ State.reset with sth := { ctxs := [(5, { state := 1, cmd := { op := .read }, ranges := [{ ns := 1, count := 8 }] })] } },
    5, { state := 1, cmd := { op := .read }, ranges := [{ ns := 1, count := 8 }] }, by decide +kernel⟩

theorem test_meets_CommandsAreAdmitted_2 : ∃ (s : State),
  s.grantAppends.bySeq.find? (fun e => s.grantAppends.admissible e.1 && !s.grantAppends.agedBlocks e.1) = none :=
  ⟨State.reset, by decide +kernel⟩

theorem test_meets_CommandsAreAdmitted_3 : ∃ (s : State) (x : Nat), s.oldestWaiting = some x :=
  ⟨{ State.reset with sth := { ctxs := [(5, { state := 1 })] } }, 5, by decide +kernel⟩

theorem test_meets_CommandsAreAdmitted_4 : ∃ (s : State) (ctx : Nat), (s.ctx ctx).state = 3 ∧ (s.ctx ctx).cmd.op = .flush ∧
  (s.ctx ctx).notified = false ∧ (∀ e ∈ s.sth.ctxs, e.2.cmd.op.writeKind = true → e.2.state ≠ 4 →
  seqBefore e.2.seq (s.ctx ctx).seq = true → (s.ctx ctx).cmd.nsid ≠ 0xFFFF_FFFF ∧ e.2.cmd.nsid ≠ (s.ctx ctx).cmd.nsid ∧
  ∀ r ∈ e.2.ranges, r.ns ≠ (s.ctx ctx).cmd.nsid) :=
  ⟨{ State.reset with sth := { ctxs := [(5, { state := 3, cmd := { op := .flush } })] } }, 5, by decide +kernel⟩

theorem test_meets_CommandsAreAdmitted_5 : ∃ (s : State) (core : Nat) (e : NewEntry) (rest : List NewEntry),
  s.gated 0x4000_0020 = false ∧ s.sth.new_.at core = e :: rest :=
  ⟨{ State.reset with sth := { new_ := [(1, [{ ctx := 5 }])] } }, 1, { ctx := 5 }, [], by decide +kernel⟩

theorem test_meets_CommandsAreAdmitted_6 : ∃ (s : State) (core : Nat), s.gated 0x4000_0020 = false ∧
  s.sth.new_.at core = [] :=
  ⟨State.reset, 1, by decide +kernel⟩

theorem test_meets_CommandsAreAdmitted_7 : ∃ (s : State) (ctx : Nat), s.gated 0x4000_0084 = false ∧ (s.ctx ctx).state = 2 ∧
  (s.get .STH_ZA_LBA_HI_LBA * 2 ^ 32 + s.get .STH_ZA_LBA_LO_LBA) + (s.ctx ctx).cmd.count ≤ 2 ^ 48 :=
  ⟨{ State.reset with sth := { ctxs := [(5, { state := 2, cmd := { op := .zoneAppend, count := 8 } })] } }, 5,
    by decide +kernel⟩

theorem test_meets_CommandsAreAdmitted_8 : ∃ (s : State) (ctx : Nat), s.gated 0x4000_0084 = false ∧
  ((s.ctx ctx).state ≠ 2 ∨ 2 ^ 48 < (s.get .STH_ZA_LBA_HI_LBA * 2 ^ 32 + s.get .STH_ZA_LBA_LO_LBA) + (s.ctx ctx).cmd.count) :=
  ⟨State.reset, 5, by decide +kernel⟩

theorem test_meets_CompletionsPost_1 : ∃ (s : State) (ctx : Nat) (status : Nat), s.gated 0x4000_0044 = false ∧
  ((s.ctx ctx).state = 3 ∨ ((s.ctx ctx).state = 2 ∧ (s.ctx ctx).cmd.op = .zoneAppend ∧ success status = false)) ∧
  (success status = false ∨ (s.ctx ctx).cmd.op.carriesData = false ∨ (s.ctx ctx).ledgered = true) ∧
  s.get (.STH_CTL_CFG_RST_PEND (s.ctx ctx).cmd.cntlid) = 0 :=
  ⟨{ State.reset with sth := { ctxs := [(5, { state := 3, cmd := { op := .read } })] } }, 5, 0, by decide +kernel⟩

theorem test_meets_CompletionsPost_2 : ∃ (s : State) (ctx : Nat) (status : Nat), s.gated 0x4000_0044 = false ∧
  (((s.ctx ctx).state ≠ 3 ∧
  ((s.ctx ctx).state ≠ 2 ∨ (s.ctx ctx).cmd.op ≠ .zoneAppend ∨ success status = true)) ∨ (success status = true ∧
  (s.ctx ctx).cmd.op.carriesData = true ∧ (s.ctx ctx).ledgered = false)) :=
  ⟨State.reset, 5, 0, by decide +kernel⟩

theorem test_meets_CompletionsPost_3 : ∃ (s : State) (ctx : Nat) (status : Nat), s.gated 0x4000_0044 = false ∧
  ((s.ctx ctx).state = 3 ∨ ((s.ctx ctx).state = 2 ∧ (s.ctx ctx).cmd.op = .zoneAppend ∧ success status = false)) ∧
  (success status = false ∨ (s.ctx ctx).cmd.op.carriesData = false ∨ (s.ctx ctx).ledgered = true) ∧
  s.get (.STH_CTL_CFG_RST_PEND (s.ctx ctx).cmd.cntlid) = 1 ∧ s.sth.fates.length < 8192 :=
  ⟨{ (State.reset.set (.STH_CTL_CFG_RST_PEND 0) 1) with sth := { ctxs := [(5, { state := 3, cmd := { op := .read } })] } }, 5,
    0, by decide +kernel⟩

theorem test_meets_CompletionsPost_4 : ∃ (s : State) (ctx : Nat) (size : Nat),
  s.domainOn (59 + (s.ctx ctx).cmd.cntlid / 16) = true ∧ s.get (.STH_CTL_CFG_RST_PEND (s.ctx ctx).cmd.cntlid) = 0 ∧
  (s.ctx ctx).state = 4 ∧ (s.sth.cqs.at (queueKey (s.ctx ctx).cmd.cntlid (s.ctx ctx).cmd.cqid)).waiting.head? = some ctx ∧
  ((s.sth.cqs.at (queueKey (s.ctx ctx).cmd.cntlid (s.ctx ctx).cmd.cqid)).tail + 1) % max 1 size ≠ (s.sth.cqs.at (queueKey (s.ctx ctx).cmd.cntlid (s.ctx ctx).cmd.cqid)).head ∧
  s.get .WEIR_STATUS_PF ≠ 2 :=
  ⟨{ State.reset with sth := { ctxs := [(5, { state := 4, cmd := { cntlid := 1, cqid := 2 } })], cqs := [(65538, { waiting := [5] })] } },
    5, 4, by decide +kernel⟩

theorem test_meets_FatesAreRecorded_1 : ∃ (s : State) (ctx : Nat), s.gated 0x4000_0080 = false ∧ (s.ctx ctx).state ≠ 0 ∧
  (s.get (.STH_CTL_CFG_RST_PEND (s.ctx ctx).cmd.cntlid) = 1 ∨ s.get .STH_CTRL_QUIESCE = 1) ∧ s.sth.fates.length < 8192 :=
  ⟨{ (State.reset.set .STH_CTRL_QUIESCE 1) with sth := { ctxs := [(5, { state := 3, cmd := { op := .read } })] } }, 5,
    by decide +kernel⟩

theorem test_meets_FatesAreRecorded_2 : ∃ (s : State) (ctx : Nat), s.gated 0x4000_0080 = false ∧
  ((s.ctx ctx).state = 0 ∨ (s.get (.STH_CTL_CFG_RST_PEND (s.ctx ctx).cmd.cntlid) = 0 ∧ s.get .STH_CTRL_QUIESCE = 0)) :=
  ⟨State.reset, 5, by decide +kernel⟩

theorem test_meets_FatesAreRecorded_3 : ∃ (s : State) (index : Nat) (r : FateRecord), s.gated 0x4000_0098 = false ∧
  s.sth.fates[index]? = some r :=
  ⟨{ State.reset with sth := { fates := [{ fate := 15 }] } }, 0, { fate := 15 }, by decide +kernel⟩

theorem test_meets_FatesAreRecorded_4 : ∃ (s : State), s.gated 0x4000_00B0 = false :=
  ⟨State.reset, by decide +kernel⟩

theorem test_meets_FatesAreRecorded_5 : ∃ (s : State), s.gated 0x4000_00AC = false :=
  ⟨State.reset, by decide +kernel⟩

theorem test_meets_FatesAreRecorded_6 : ∃ (s : State), (s.sth.ctxs.map (fun e => e.1)).Pairwise (fun a b => a < b) :=
  ⟨{ State.reset with sth := { ctxs := [(5, { state := 1, cmd := { cntlid := 3 } })] } }, by decide +kernel⟩

theorem test_meets_FatesAreRecorded_7 : ∃ (s : State), s.gated 0x4000_0000 = false :=
  ⟨State.reset, by decide +kernel⟩

theorem test_meets_FatesAreRecorded_8 : ∃ (s : State) (i : Nat), 1 ≤ i ∧ i ≤ 4 ∧ s.get (.STH_IDLE_THRESH i) ≠ 0 ∧
  s.get (.STH_IDLE_THRESH i) ≤ s.get .STH_IDLE_STATUS_IDLE ∧ s.sth.ctxs = [] :=
  ⟨((State.reset.set (.STH_IDLE_THRESH 2) 3).set .STH_IDLE_STATUS_IDLE 4), 2, by decide +kernel⟩

theorem test_meets_PortsServeTheHost_1 : ∃ (s : State), s.gated 0x4000_0010 = false :=
  ⟨State.reset, by decide +kernel⟩

theorem test_meets_PortsServeTheHost_2 : ∃ (port : Nat), port < 2 :=
  ⟨1, by decide +kernel⟩

theorem test_meets_PortsServeTheHost_3 : ∃ (s : State) (port : Nat), s.get (perstBit port) = 1 ∧ s.weir.powered = true :=
  ⟨{ (State.reset.set .STH_BOOT_PERST_A 1) with weir := { powered := true } }, 0, by decide +kernel⟩

theorem test_meets_PortsServeTheHost_4 : ∃ (s : State) (port : Nat) (fn : Nat), fn < 16 ∧
  s.domainOn (59 + (16 * port + fn) / 16) = true ∧ s.get (linkBit port) = 1 ∧ s.get .STH_BOOT_CFG_RDY = 0 :=
  ⟨(State.reset.set .STH_BOOT_LINK_A 1), 0, 0, by decide +kernel⟩

theorem test_meets_PortsServeTheHost_5 : ∃ (s : State) (port : Nat) (fn : Nat), fn < 16 ∧
  s.domainOn (59 + (16 * port + fn) / 16) = true ∧ s.get (linkBit port) = 1 ∧ s.get .STH_BOOT_CFG_RDY = 1 ∧
  s.fnOn (16 * port + fn) = false :=
  ⟨((State.reset.set .STH_BOOT_LINK_A 1).set .STH_BOOT_CFG_RDY 1), 0, 3, by decide +kernel⟩

theorem test_meets_PortsServeTheHost_6 : ∃ (s : State) (port : Nat) (fn : Nat), fn < 16 ∧
  s.domainOn (59 + (16 * port + fn) / 16) = true ∧ s.get (linkBit port) = 1 ∧ s.get .STH_BOOT_CFG_RDY = 1 ∧
  s.fnOn (16 * port + fn) = true :=
  ⟨((State.reset.set .STH_BOOT_LINK_A 1).set .STH_BOOT_CFG_RDY 1), 0, 0, by decide +kernel⟩

theorem test_meets_PortsServeTheHost_7 : ∃ (s : State) (port : Nat) (fn : Nat), fn < 16 ∧
  s.domainOn (59 + (16 * port + fn) / 16) = true ∧ s.get (linkBit port) = 1 ∧ s.get .STH_BOOT_CFG_RDY = 1 ∧
  s.fnOn (16 * port + fn) = true :=
  ⟨((State.reset.set .STH_BOOT_LINK_A 1).set .STH_BOOT_CFG_RDY 1), 0, 0, by decide +kernel⟩

theorem test_meets_PortsServeTheHost_8 : ∃ (s : State) (port : Nat) (fn : Nat), fn = 0 ∧
  s.domainOn (59 + (16 * port + fn) / 16) = true ∧ s.get (linkBit port) = 1 ∧ s.get .STH_BOOT_CFG_RDY = 1 :=
  ⟨((State.reset.set .STH_BOOT_LINK_A 1).set .STH_BOOT_CFG_RDY 1), 0, 0, by decide +kernel⟩

theorem test_meets_PortsServeTheHost_9 : ∃ (s : State) (k : Nat) (value : Nat), s.domainOn (59 + k / 16) = true ∧
  s.get (linkBit (k / 16)) = 1 ∧ s.get .STH_BOOT_CFG_RDY = 1 ∧ s.fnOn k = true ∧ value % 2 = 1 :=
  ⟨((State.reset.set .STH_BOOT_LINK_A 1).set .STH_BOOT_CFG_RDY 1), 0, 1, by decide +kernel⟩

theorem test_meets_PortsServeTheHost_10 : ∃ (s : State) (k : Nat) (value : Nat), s.domainOn (59 + k / 16) = true ∧
  s.get (linkBit (k / 16)) = 1 ∧ s.get .STH_BOOT_CFG_RDY = 1 ∧ s.fnOn k = true ∧ value % 2 = 0 ∧
  s.get (.STH_CTL_CFG_EN k) = 1 :=
  ⟨(((State.reset.set .STH_BOOT_LINK_A 1).set .STH_BOOT_CFG_RDY 1).set (.STH_CTL_CFG_EN 0) 1), 0, 0, by decide +kernel⟩

theorem test_meets_PortsServeTheHost_11 : ∃ (s : State) (k : Nat) (offset : Nat), s.domainOn (59 + k / 16) = true ∧
  s.get (linkBit (k / 16)) = 1 ∧ s.get .STH_BOOT_CFG_RDY = 1 ∧ s.fnOn k = true ∧ offset ∉ [0, 4, 0x14, 0x1C] ∧
  offset < 0x1000 :=
  ⟨((State.reset.set .STH_BOOT_LINK_A 1).set .STH_BOOT_CFG_RDY 1), 0, 36, by decide +kernel⟩

theorem test_meets_PortsServeTheHost_12 : ∃ (s : State) (k : Nat) (offset : Nat), s.domainOn (59 + k / 16) = true ∧
  s.get (linkBit (k / 16)) = 1 ∧ s.get .STH_BOOT_CFG_RDY = 1 ∧ s.fnOn k = true ∧ (0x1000 ≤ offset ∧ offset < 0x4000) ∧
  offset % 8 = 0 ∧ s.rings k ((offset - 0x1000) / 8) = true :=
  ⟨{ (((State.reset.set .STH_BOOT_LINK_A 1).set .STH_BOOT_CFG_RDY 1).set (.STH_CTL_CFG_EN 0) 1) with sth := { vfs := [] } },
    0, 0x1008, by decide +kernel⟩

theorem test_meets_PortsServeTheHost_13 : ∃ (s : State) (k : Nat) (offset : Nat), s.domainOn (59 + k / 16) = true ∧
  s.get (linkBit (k / 16)) = 1 ∧ s.get .STH_BOOT_CFG_RDY = 1 ∧ s.fnOn k = true ∧ ¬ (0x1000 ≤ offset ∧ offset < 0x4000) :=
  ⟨((State.reset.set .STH_BOOT_LINK_A 1).set .STH_BOOT_CFG_RDY 1), 0, 28, by decide +kernel⟩

theorem test_meets_PortsServeTheHost_14 : ∃ (s : State) (k : Nat), s.domainOn (59 + k / 16) = true ∧
  s.get (linkBit (k / 16)) = 1 ∧ (s.get .STH_BOOT_CFG_RDY = 0 ∨ s.fnOn k = false) :=
  ⟨(State.reset.set .STH_BOOT_LINK_A 1), 0, by decide +kernel⟩

theorem test_meets_PortsServeTheHost_15 : ∃ (s : State) (k : Nat), s.domainOn (59 + k / 16) = true ∧
  s.get (linkBit (k / 16)) = 1 ∧ (s.get .STH_BOOT_CFG_RDY = 0 ∨ s.fnOn k = false) :=
  ⟨(State.reset.set .STH_BOOT_LINK_A 1), 0, by decide +kernel⟩

theorem test_meets_QueuesAndRingsAreSetUp_1 : ∃ (s : State) (q : Nat), s.scanHeld q = true :=
  ⟨State.reset, 3, by decide +kernel⟩

theorem test_meets_QueuesAndRingsAreSetUp_2 : ∃ (s : State) (q : Nat) (bs : List Byte), s.get (.MWQ_STATUS_PEND q) = 1 ∧
  s.scanHeld q = false ∧ s.mireClock = true ∧ s.dramServes = true ∧
  (s.dramLoad (s.slotAddr q (s.get (.MWQ_HEAD_HEAD q))) 64).1 = some bs ∧ fieldAt bs 60 4 < 2 ^ 31 :=
  ⟨{ (((((State.reset.set .SLU_DRAM_CFG_TRAINED 1).set (.MWQ_STATUS_PEND 3) 1).set (.MWQ_CFG_EN 3) 1).set (.MWQ_CFG_LOG2N 3) 4).set (.MWQ_BASE_HI_BASE 3) 16) with mireRuns := true },
    3, List.replicate 64 0, by decide +kernel⟩

theorem test_meets_QueuesAndRingsAreSetUp_3 : ∃ (s : State) (q : Nat) (bs : List Byte), s.get (.MWQ_STATUS_PEND q) = 1 ∧
  s.scanHeld q = false ∧ s.mireClock = true ∧ s.dramServes = true ∧
  (s.dramLoad (s.slotAddr q (s.get (.MWQ_HEAD_HEAD q))) 64).1 = some bs ∧ 2 ^ 31 ≤ fieldAt bs 60 4 ∧
  s.parkedSec (q / 4) = false ∧ s.get (.MWQ_CFG_LOG2N q) ≠ 0 ∧
  fieldAt (s.readBytes (s.slotAddr q ((s.get (.MWQ_HEAD_HEAD q) + 1) % s.queueSlots q)) 64) 60 4 < 2 ^ 31 ∧
  s.mwdCheck ({ id := s.mq.nextId, queue := q, slot := s.get (.MWQ_HEAD_HEAD q), bytes := bs.take 60 } : Mwd) (fieldAt bs 60 4) = none ∧
  (s.get (.MWC_CFG_COMPAT (q / 4)) = 1 ∨ (({ id := s.mq.nextId, queue := q, slot := s.get (.MWQ_HEAD_HEAD q), bytes := bs.take 60 } : Mwd).flag 0 = false ∧
  ({ id := s.mq.nextId, queue := q, slot := s.get (.MWQ_HEAD_HEAD q), bytes := bs.take 60 } : Mwd).flag 1 = false)) ∧
  ({ id := s.mq.nextId, queue := q, slot := s.get (.MWQ_HEAD_HEAD q), bytes := bs.take 60 } : Mwd).isWrite = false ∧ (q,
  s.get (.MWQ_HEAD_HEAD q)) ∉ s.mq.cancels ∧ s.get (.MWQ_HEAD_HEAD q) < s.queueSlots q :=
  ⟨(({ ((((((State.reset.set (.WTH_VCM_STATUS_PARKED 0) 0).set .SLU_DRAM_CFG_TRAINED 1).set (.MWQ_STATUS_PEND 3) 1).set (.MWQ_CFG_EN 3) 1).set (.MWQ_CFG_LOG2N 3) 4).set (.MWQ_BASE_HI_BASE 3) 16) with mireRuns := true } : State).writeBytes 0x10_0000_0000 (0x20 :: List.replicate 62 0 ++
    [0x80])), 3, 0x20 :: List.replicate 62 0 ++ [0x80], by decide +kernel⟩

theorem test_meets_QueuesAndRingsAreSetUp_4 : ∃ (s : State) (q : Nat) (log2n : Nat), s.get (.MWQ_CFG_EN q) = 0 ∧
  (4 ≤ log2n % 16 ∧ log2n % 16 ≤ 12 ∧ s.dramOk (s.queueBase q) (64 * 2 ^ (log2n % 16)) = true) :=
  ⟨((State.reset.set .SLU_DRAM_CFG_TRAINED 1).set (.MWQ_BASE_HI_BASE 3) 16), 3, 4, by decide +kernel⟩

theorem test_meets_QueuesAndRingsAreSetUp_5 : ∃ (s : State) (q : Nat) (log2n : Nat), s.get (.MWQ_CFG_EN q) = 0 ∧
  ¬ (4 ≤ log2n % 16 ∧ log2n % 16 ≤ 12 ∧ s.dramOk (s.queueBase q) (64 * 2 ^ (log2n % 16)) = true) :=
  ⟨State.reset, 3, 3, by decide +kernel⟩

theorem test_meets_QueuesAndRingsAreSetUp_6 : ∃ (s : State) (q : Nat), s.get (.MWQ_CFG_EN q) = 1 :=
  ⟨(State.reset.set (.MWQ_CFG_EN 3) 1), 3, by decide +kernel⟩

theorem test_meets_QueuesAndRingsAreSetUp_7 : ∃ (s : State) (q : Nat), s.get (.MWQ_CFG_EN q) = 1 :=
  ⟨(State.reset.set (.MWQ_CFG_EN 3) 1), 3, by decide +kernel⟩

theorem test_meets_QueuesAndRingsAreSetUp_8 : ∃ (s : State) (k : Nat) (log2n : Nat) (compat : Bool),
  s.get (.MWC_CFG_EN k) = 0 ∧ s.get (.MWC_STATUS_SPILL_CNT k) = 0 ∧ (6 ≤ log2n % 16 ∧ log2n % 16 ≤ 12 ∧
  s.dramOk (s.ringBase k) ((if compat then 32 else 16) * 2 ^ (log2n % 16)) = true ∧
  s.dramOk (s.spillBase k) (2 ^ 17) = true) :=
  ⟨(((State.reset.set .SLU_DRAM_CFG_TRAINED 1).set (.MWC_BASE_HI_BASE 1) 16).set (.MWC_SPILL_HI_BASE 1) 16), 1, 6, true,
    by decide +kernel⟩

theorem test_meets_QueuesAndRingsAreSetUp_9 : ∃ (s : State) (k : Nat) (log2n : Nat) (compat : Bool),
  s.get (.MWC_CFG_EN k) = 0 ∧ s.get (.MWC_STATUS_SPILL_CNT k) = 0 ∧ ¬ (6 ≤ log2n % 16 ∧ log2n % 16 ≤ 12 ∧
  s.dramOk (s.ringBase k) ((if compat then 32 else 16) * 2 ^ (log2n % 16)) = true ∧
  s.dramOk (s.spillBase k) (2 ^ 17) = true) :=
  ⟨State.reset, 1, 6, true, by decide +kernel⟩

theorem test_meets_QueuesAndRingsAreSetUp_10 : ∃ (s : State) (k : Nat), s.get (.MWC_CFG_EN k) = 1 :=
  ⟨(State.reset.set (.MWC_CFG_EN 1) 1), 1, by decide +kernel⟩

theorem test_meets_QueuesAndRingsAreSetUp_11 : ∃ (s : State) (k : Nat) (ci : Nat), ci < s.ringSlots k ∧
  ¬ ((s.get (.MWC_PI_PI k) + s.ringSlots k - s.get (.MWC_CI_CI k)) % s.ringSlots k < (ci + s.ringSlots k - s.get (.MWC_CI_CI k)) % s.ringSlots k) :=
  ⟨((State.reset.set (.MWC_CFG_LOG2N 1) 6).set (.MWC_PI_PI 1) 5), 1, 3, by decide +kernel⟩

theorem test_meets_QueuesAndRingsAreSetUp_12 : ∃ (s : State) (k : Nat) (ci : Nat),
  (s.ringSlots k ≤ ci ∨ (s.get (.MWC_PI_PI k) + s.ringSlots k - s.get (.MWC_CI_CI k)) % s.ringSlots k < (ci + s.ringSlots k - s.get (.MWC_CI_CI k)) % s.ringSlots k) :=
  ⟨(State.reset.set (.MWC_CFG_LOG2N 1) 6), 1, 64, by decide +kernel⟩

theorem test_meets_FencesWaitAndCancelsAnswer_1 : ∃ (s : State) (q : Nat) (slot : Nat) (d : Mwd),
  s.mq.descs.find? (fun d => decide (d.queue = q) && decide (d.slot = slot) && decide (d.dstate = 1) && d.op == 0x20) = some d ∧
  s.mq.descs.any (fun e => decide (e.id < d.id) && decide (e.dstate ≤ 2) && (e.queue == q)) = false ∧ d.batch = 0 :=
  ⟨{ ((State.reset.set (.MWC_CFG_EN 0) 1).set (.MWC_CFG_LOG2N 0) 6) with mq := { descs := [{ id := 1, queue := 3, slot := 2, bytes := [0x20] }] } },
    3, 2, { id := 1, queue := 3, slot := 2, bytes := [0x20] }, by decide +kernel⟩

theorem test_meets_FencesWaitAndCancelsAnswer_2 : ∃ (s : State) (q : Nat) (slot : Nat) (d : Mwd),
  s.mq.descs.find? (fun d => decide (d.queue = q) && decide (d.slot = slot) && decide (d.dstate = 1) && d.op == 0x20) = some d ∧
  s.mq.descs.any (fun e => decide (e.id < d.id) && decide (e.dstate ≤ 2) && (e.queue == q)) = false ∧ d.batch ≠ 0 ∧
  ((s.mq.batches.at d.batch).closed = false ∨ (s.mq.batches.at d.batch).ended + 1 ≠ (s.mq.batches.at d.batch).members) :=
  ⟨{ ((State.reset.set (.MWC_CFG_EN 0) 1).set (.MWC_CFG_LOG2N 0) 6) with mq := { descs := [{ id := 1, queue := 3, slot := 2, bytes := [0x20], batch := 5, deferred := 0, lost := [] }] } },
    3, 2, { id := 1, queue := 3, slot := 2, bytes := [0x20], batch := 5, deferred := 0, lost := [] }, by decide +kernel⟩

theorem test_meets_FencesWaitAndCancelsAnswer_3 : ∃ (s : State) (q : Nat) (slot : Nat) (d : Mwd),
  s.mq.descs.find? (fun d => decide (d.queue = q) && decide (d.slot = slot) && decide (d.dstate = 1) && d.op == 0x20) = some d ∧
  s.mq.descs.any (fun e => decide (e.id < d.id) && decide (e.dstate ≤ 2) && (e.queue == q)) = true :=
  ⟨{ State.reset with mq := { descs := [{ queue := 3, slot := 1 }, { id := 1, queue := 3, slot := 2, bytes := [0x20] }] } },
    3, 2, { id := 1, queue := 3, slot := 2, bytes := [0x20] }, by decide +kernel⟩

theorem test_meets_FencesWaitAndCancelsAnswer_4 : ∃ (s : State) (q : Nat) (slot : Nat) (d : Mwd),
  s.mq.descs.find? (fun d => decide (d.queue = q) && decide (d.slot = slot) && decide (d.dstate = 1) && d.op == 0x21) = some d ∧
  s.mq.descs.any (fun e => decide (e.id < d.id) && decide (e.dstate ≤ 2) && (e.queue == q || e.sec == d.sec)) = false ∧
  d.batch = 0 :=
  ⟨{ ((State.reset.set (.MWC_CFG_EN 0) 1).set (.MWC_CFG_LOG2N 0) 6) with mq := { descs := [{ id := 1, queue := 3, slot := 2, bytes := [0x21] }] } },
    3, 2, { id := 1, queue := 3, slot := 2, bytes := [0x21] }, by decide +kernel⟩

theorem test_meets_FencesWaitAndCancelsAnswer_5 : ∃ (s : State) (q : Nat) (slot : Nat) (d : Mwd),
  s.mq.descs.find? (fun d => decide (d.queue = q) && decide (d.slot = slot) && decide (d.dstate = 1) && d.op == 0x21) = some d ∧
  s.mq.descs.any (fun e => decide (e.id < d.id) && decide (e.dstate ≤ 2) && (e.queue == q || e.sec == d.sec)) = false ∧
  d.batch ≠ 0 ∧
  ((s.mq.batches.at d.batch).closed = false ∨ (s.mq.batches.at d.batch).ended + 1 ≠ (s.mq.batches.at d.batch).members) :=
  ⟨{ ((State.reset.set (.MWC_CFG_EN 0) 1).set (.MWC_CFG_LOG2N 0) 6) with mq := { descs := [{ id := 1, queue := 3, slot := 2, bytes := [0x21], batch := 5, deferred := 0, lost := [] }] } },
    3, 2, { id := 1, queue := 3, slot := 2, bytes := [0x21], batch := 5, deferred := 0, lost := [] }, by decide +kernel⟩

theorem test_meets_FencesWaitAndCancelsAnswer_6 : ∃ (s : State) (q : Nat) (slot : Nat) (d : Mwd),
  s.mq.descs.find? (fun d => decide (d.queue = q) && decide (d.slot = slot) && decide (d.dstate = 1) && d.op == 0x21) = some d ∧
  s.mq.descs.any (fun e => decide (e.id < d.id) && decide (e.dstate ≤ 2) && (e.queue == q || e.sec == d.sec)) = true :=
  ⟨{ State.reset with mq := { descs := [{ queue := 3, slot := 1 }, { id := 1, queue := 3, slot := 2, bytes := [0x21] }] } },
    3, 2, { id := 1, queue := 3, slot := 2, bytes := [0x21] }, by decide +kernel⟩

theorem test_meets_FencesWaitAndCancelsAnswer_7 : ∃ (s : State) (q : Nat) (slot : Nat) (d : Mwd),
  s.mq.descs.find? (fun d => decide (d.queue = q) && decide (d.slot = slot) && decide (d.dstate ≤ 2)) = some d ∧
  d.dstate = 1 ∧ d.batch = 0 :=
  ⟨{ ((State.reset.set (.MWC_CFG_EN 0) 1).set (.MWC_CFG_LOG2N 0) 6) with mq := { descs := [{ id := 1, queue := 3, slot := 2, bytes := [1] }] } },
    3, 2, { id := 1, queue := 3, slot := 2, bytes := [1] }, by decide +kernel⟩

theorem test_meets_FencesWaitAndCancelsAnswer_8 : ∃ (s : State) (q : Nat) (slot : Nat) (d : Mwd) (n : Nat),
  s.mq.descs.find? (fun d => decide (d.queue = q) && decide (d.slot = slot) && decide (d.dstate ≤ 2)) = some d ∧
  d.dstate = 2 ∧ d.stream = some n ∧ d.issued = true ∧ d.op ≠ 8 :=
  ⟨{ ((State.reset.set (.MWC_CFG_EN 0) 1).set (.MWC_CFG_LOG2N 0) 6) with mq := { descs := [{ id := 1, queue := 3, slot := 2, bytes := [1], dstate := 2, stream := some 1, issued := true }] } },
    3, 2, { id := 1, queue := 3, slot := 2, bytes := [1], dstate := 2, stream := some 1, issued := true }, 1,
    by decide +kernel⟩

theorem test_meets_FencesWaitAndCancelsAnswer_9 : ∃ (s : State) (q : Nat) (slot : Nat) (bs : List Byte),
  s.mq.descs.find? (fun d => decide (d.queue = q) && decide (d.slot = slot) && decide (d.dstate ≤ 2)) = none ∧ q < 16 ∧
  slot < s.queueSlots q ∧ (s.dramLoad (s.slotAddr q slot) 64).1 = some bs ∧ 2 ^ 31 ≤ fieldAt bs 60 4 :=
  ⟨(((State.reset.set .SLU_DRAM_CFG_TRAINED 1).set (.MWQ_BASE_HI_BASE 3) 16).writeBytes 0x10_0000_0000 (0x20 :: List.replicate 62 0 ++
    [0x80])), 3, 0, 0x20 :: List.replicate 62 0 ++ [0x80], by decide +kernel⟩

theorem test_meets_FencesWaitAndCancelsAnswer_10 : ∃ (s : State) (q : Nat) (slot : Nat),
  s.mq.descs.find? (fun d => decide (d.queue = q) && decide (d.slot = slot) && decide (d.dstate ≤ 2)) = none ∧
  (16 ≤ q ∨ s.queueSlots q ≤ slot ∨ ∀ bs, (s.dramLoad (s.slotAddr q slot) 64).1 = some bs → fieldAt bs 60 4 < 2 ^ 31) :=
  ⟨State.reset, 17, 2, by decide +kernel⟩

theorem test_meets_DescriptorsRun_1 : ∃ (s : State) (n : Nat) (d : Mwd), n < 8 ∧ s.mwdOn n = some d ∧ d.op = 1 ∧
  d.sec = n / 2 ∧ d.issued = false ∧ d.dstate = 2 ∧ d.failed = [] :=
  ⟨{ State.reset with mq := { descs := [{ id := 1, queue := 3, bytes := [1], dstate := 2, stream := some 1 }] } }, 1,
    { id := 1, queue := 3, bytes := [1], dstate := 2, stream := some 1 }, by decide +kernel⟩

theorem test_meets_DescriptorsRun_2 : ∃ (s : State) (n : Nat) (d : Mwd), n < 8 ∧ s.mwdOn n = some d ∧ d.op = 2 ∧
  d.sec = n / 2 ∧ d.issued = false ∧ d.dstate = 2 ∧ d.failed = [] :=
  ⟨{ State.reset with mq := { descs := [{ id := 1, queue := 3, bytes := [2], dstate := 2, stream := some 1 }] } }, 1,
    { id := 1, queue := 3, bytes := [2], dstate := 2, stream := some 1 }, by decide +kernel⟩

theorem test_meets_DescriptorsRun_3 : ∃ (s : State) (n : Nat) (d : Mwd), n < 8 ∧ s.mwdOn n = some d ∧ d.op = 3 ∧
  d.sec = n / 2 ∧ d.issued = false ∧ d.dstate = 2 ∧ d.failed = [] :=
  ⟨{ State.reset with mq := { descs := [{ id := 1, queue := 3, bytes := [3], dstate := 2, stream := some 1 }] } }, 1,
    { id := 1, queue := 3, bytes := [3], dstate := 2, stream := some 1 }, by decide +kernel⟩

theorem test_meets_DescriptorsRun_4 : ∃ (s : State) (n : Nat) (d : Mwd), n < 8 ∧ s.mwdOn n = some d ∧ d.op = 4 ∧
  d.sec = n / 2 ∧ d.issued = false ∧ d.dstate = 2 ∧ d.failed = [] :=
  ⟨{ State.reset with mq := { descs := [{ id := 1, queue := 3, bytes := [4], dstate := 2, stream := some 1 }] } }, 1,
    { id := 1, queue := 3, bytes := [4], dstate := 2, stream := some 1 }, by decide +kernel⟩

theorem test_meets_DescriptorsRun_5 : ∃ (s : State) (n : Nat) (d : Mwd), n < 8 ∧ s.mwdOn n = some d ∧ d.op = 5 ∧
  d.sec = n / 2 ∧ d.issued = false ∧ d.dstate = 2 ∧ d.failed = [] ∧ s.fills d = true :=
  ⟨{ State.reset with mq := { descs := [{ id := 1, queue := 3, bytes := [5], dstate := 2, stream := some 1 }] }, slu := { regions := [(0, { state := .filling, fill := some 1 })] } },
    1, { id := 1, queue := 3, bytes := [5], dstate := 2, stream := some 1 }, by decide +kernel⟩

theorem test_meets_DescriptorsRun_6 : ∃ (s : State) (n : Nat) (d : Mwd), n < 8 ∧ s.mwdOn n = some d ∧ d.op = 0x10 ∧
  d.sec = n / 2 ∧ d.issued = false ∧ d.dstate = 2 ∧ d.failed = [] :=
  ⟨{ State.reset with mq := { descs := [{ id := 1, queue := 3, bytes := [0x10], dstate := 2, stream := some 1 }] } }, 1,
    { id := 1, queue := 3, bytes := [0x10], dstate := 2, stream := some 1 }, by decide +kernel⟩

theorem test_meets_DescriptorsRun_7 : ∃ (s : State) (n : Nat) (d : Mwd), n < 8 ∧ s.mwdOn n = some d ∧ d.op = 0x11 ∧
  d.sec = n / 2 ∧ d.issued = false ∧ d.dstate = 2 ∧ d.failed = [] :=
  ⟨{ State.reset with mq := { descs := [{ id := 1, queue := 3, bytes := [0x11], dstate := 2, stream := some 1 }] } }, 1,
    { id := 1, queue := 3, bytes := [0x11], dstate := 2, stream := some 1 }, by decide +kernel⟩

theorem test_meets_DescriptorsStartAndEnd_1 : ∃ (s : State) (n : Nat), s.mayStart (n / 2) = true ∧ s.mwdOn n = none ∧
  s.running n = false :=
  ⟨{ ((State.reset.set .REED_UCODE_VER_BASE 1).set (.WTH_VCM_STATUS_PARKED 0) 0) with mq := { calibration := [0] }, mireRuns := true },
    1, by decide +kernel⟩

theorem test_meets_DescriptorsStartAndEnd_2 : ∃ (s : State) (n : Nat) (q : Nat) (slot : Nat) (d : Mwd), n < 8 ∧
  s.mayStart (n / 2) = true ∧ s.mwdOn n = none ∧ s.running n = false ∧ q ≠ 16 ∧ d ∈ s.candidates (n / 2) ∧ d.queue = q ∧
  d.slot = slot ∧ (∀ e ∈ s.candidates (n / 2), e = d ∨ ((e.queue ≠ q ∨ e.slot ≠ slot) ∧ s.soonness n d ≤ s.soonness n e)) ∧
  d.op ≠ 5 ∧ d.op ≠ 8 ∧ s.lanesIdle (n / 2) = true :=
  ⟨{ ((State.reset.set .REED_UCODE_VER_BASE 1).set (.WTH_VCM_STATUS_PARKED 0) 0) with mq := { descs := [{ id := 1, queue := 3, slot := 2, bytes := [4] }] }, mireRuns := true },
    1, 3, 2, { id := 1, queue := 3, slot := 2, bytes := [4] }, by decide +kernel⟩

theorem test_meets_DescriptorsStartAndEnd_3 : ∃ (s : State) (n : Nat),
  (s.mayStart (n / 2) = false ∨ s.mwdOn n ≠ none ∨ s.running n = true) :=
  ⟨State.reset, 1, by decide +kernel⟩

theorem test_meets_DescriptorsStartAndEnd_4 : ∃ (s : State) (n : Nat) (d : Mwd), s.mwdOn n = some d ∧ d.op = 8 ∧
  d.dstate = 2 ∧ d.issued = false ∧ s.hintFree d = true :=
  ⟨{ State.reset with mq := { descs := [{ id := 1, queue := 3, bytes := [8], dstate := 2, stream := some 1 }] } }, 1,
    { id := 1, queue := 3, bytes := [8], dstate := 2, stream := some 1 }, by decide +kernel⟩

theorem test_meets_DescriptorsStartAndEnd_5 : ∃ (s : State) (n : Nat) (d : Mwd), s.mwdOn n = some d ∧ s.hintFree d = false :=
  ⟨{ (State.reset.set (.REED_ST_STATUS_STATE 0) 1) with mq := { descs := [{ id := 1, queue := 3, bytes := [8], dstate := 2, stream := some 1 }] } },
    1, { id := 1, queue := 3, bytes := [8], dstate := 2, stream := some 1 }, by decide +kernel⟩

theorem test_meets_DescriptorsStartAndEnd_6 : ∃ (s : State) (k : Nat) (d : Mwd), s.hintOf k = some d ∧
  s.mq.descs.any (fun e => e.op != 8 && decide (e.op < 0x20) && e.surface == d.surface && e.track == d.track) = false ∧
  d.batch = 0 :=
  ⟨{ ((State.reset.set (.MWC_CFG_EN 0) 1).set (.MWC_CFG_LOG2N 0) 6) with mq := { descs := [{ id := 1, queue := 3, bytes := [8], dstate := 2, stream := some 1, issued := true }] } },
    0, { id := 1, queue := 3, bytes := [8], dstate := 2, stream := some 1, issued := true }, by decide +kernel⟩

theorem test_meets_DescriptorsStartAndEnd_7 : ∃ (s : State) (k : Nat) (d : Mwd), s.hintOf k = some d ∧
  s.mq.descs.any (fun e => e.op != 8 && decide (e.op < 0x20) && e.surface == d.surface && e.track == d.track) = true :=
  ⟨{ State.reset with mq := { descs := [{ id := 1, queue := 3, bytes := [8], dstate := 2, stream := some 1 }, { id := 2, bytes := [1] }] } },
    0, { id := 1, queue := 3, bytes := [8], dstate := 2, stream := some 1 }, by decide +kernel⟩

theorem test_meets_DescriptorsStartAndEnd_8 : ∃ (s : State) (n : Nat) (d : Mwd) (o : Nat) (x : Nat) (last : Nat) (rest : List (Nat × Nat × Nat)),
  n < 8 ∧ s.mwdOn n = some d ∧ d.failed = (o, x, last) :: rest ∧ d.issued = false ∧ d.lad = [] ∧ s.running n = false ∧
  s.mireActs = true ∧ s.get .WEIR_STATUS_PF ≠ 2 ∧ (s.chan n).awaiting = 0 ∧ (s.stage n).data = [] ∧ (last = 2 ∨ last = 4) :=
  ⟨{ State.reset with mq := { descs := [{ id := 1, queue := 3, bytes := [1], dstate := 2, stream := some 1, failed := [(0, 2, 2)] }] }, mireRuns := true },
    1, { id := 1, queue := 3, bytes := [1], dstate := 2, stream := some 1, failed := [(0, 2, 2)] }, 0, 2, 2, [],
    by decide +kernel⟩

theorem test_meets_DescriptorsStartAndEnd_9 : ∃ (s : State) (n : Nat) (d : Mwd) (o : Nat) (x : Nat) (last : Nat) (rest : List (Nat × Nat × Nat)),
  n < 8 ∧ s.mwdOn n = some d ∧ d.failed = (o, x, last) :: rest ∧ d.issued = false ∧ d.lad = [] ∧ s.running n = false ∧
  s.mireActs = true ∧ s.get .WEIR_STATUS_PF ≠ 2 ∧ (s.chan n).awaiting = 0 ∧ (s.stage n).data = [] ∧ last = 1 ∧ d.sec = n / 2 ∧
  s.lanesIdle (n / 2) = true :=
  ⟨{ State.reset with mq := { descs := [{ id := 1, queue := 3, bytes := [1], dstate := 2, stream := some 1, failed := [(0, 2, 1)] }] }, mireRuns := true },
    1, { id := 1, queue := 3, bytes := [1], dstate := 2, stream := some 1, failed := [(0, 2, 1)] }, 0, 2, 1, [],
    by decide +kernel⟩

theorem test_meets_DescriptorsStartAndEnd_10 : ∃ (s : State) (n : Nat), n < 8 ∧ MireIrq.opEnd n ∈ s.mireIrq ∧
  s.mireActs = true ∧ s.running n = false ∧ (s.chan n).awaiting = 0 ∧ (∀ e ∈ (s.chan n).vfyTaken ++ (s.chan n).vfy,
  e.posted = true) ∧ ((s.stage n).read = false ∨ (s.stage n).bufErr = true ∨ (s.stage n).data = []) :=
  ⟨{ State.reset with mireRuns := true, mireIrq := [.opEnd 1] }, 1, by decide +kernel⟩

theorem test_meets_RequestsAreTaken_1 : ∃ (s : State) (who : Who) (p : Nat), (who = .mire ∨ p < 48) ∧ s.mbx p = 0 :=
  ⟨State.reset, .mire, 3, by decide +kernel⟩

theorem test_meets_RequestsAreTaken_2 : ∃ (s : State) (who : Who) (p : Nat), (who = .mire ∨ p < 48) ∧ s.mbx p ≠ 0 :=
  ⟨(State.reset.set (.MBX_STAT_STATE 3) 3), .mire, 3, by decide +kernel⟩

theorem test_meets_RequestsAreTaken_3 : ∃ (core : Nat) (p : Nat), core < 8 ∧ 48 ≤ p :=
  ⟨1, 48, by decide +kernel⟩

theorem test_meets_RequestsAreTaken_4 : ∃ (s : State) (who : Who) (p : Nat), (who = .mire ∨ p < 48) ∧ s.mbx p = 3 :=
  ⟨(State.reset.set (.MBX_STAT_STATE 3) 3), .mire, 3, by decide +kernel⟩

theorem test_meets_RequestsAreTaken_5 : ∃ (s : State) (who : Who) (p : Nat), (who = .mire ∨ p < 48) ∧ s.mbx p ≠ 3 :=
  ⟨State.reset, .mire, 3, by decide +kernel⟩

theorem test_meets_RequestsAreTaken_6 : ∃ (core : Nat) (p : Nat), core < 8 ∧ 48 ≤ p :=
  ⟨1, 48, by decide +kernel⟩

theorem test_meets_RequestsAreTaken_7 : ∃ (s : State) (who : Who) (p : Nat), (who = .mire ∨ p < 48) ∧ s.mbx p = 2 :=
  ⟨(State.reset.set (.MBX_STAT_STATE 3) 2), .mire, 3, by decide +kernel⟩

theorem test_meets_RequestsAreTaken_8 : ∃ (s : State) (who : Who) (p : Nat), (who = .mire ∨ p < 48) ∧ s.mbx p = 1 ∧
  s.aqsiaActs = true :=
  ⟨{ (((State.reset.set .MBX_INFO_AQSIA_UP 1).set (.MBX_STAT_STATE 0) 1).set (.MBX_LATCH_CMD 0) 0x0103) with aq := { ring := [0] } },
    .mire, 0, by decide +kernel⟩

theorem test_meets_RequestsAreTaken_9 : ∃ (s : State) (who : Who) (p : Nat), (who = .mire ∨ p < 48) ∧ s.mbx p = 1 ∧
  s.aqsiaActs = false :=
  ⟨(State.reset.set (.MBX_STAT_STATE 0) 1), .mire, 0, by decide +kernel⟩

theorem test_meets_RequestsAreTaken_10 : ∃ (s : State) (who : Who) (p : Nat), (who = .mire ∨ p < 48) ∧ s.mbx p ≠ 1 ∧
  s.mbx p ≠ 2 :=
  ⟨State.reset, .mire, 0, by decide +kernel⟩

theorem test_meets_RequestsAreTaken_11 : ∃ (core : Nat) (p : Nat), core < 8 ∧ 48 ≤ p :=
  ⟨1, 48, by decide +kernel⟩

theorem test_meets_RequestsAreTaken_12 : ∃ (s : State), (s.aqsiaActs = false ∨ s.actionable s.aq.ring [] = none) :=
  ⟨State.reset, by decide +kernel⟩

theorem test_meets_RequestsAreTaken_13 : ∃ (s : State) (p : Nat), s.aqsiaActs = true ∧ s.actionable s.aq.ring [] = some p ∧
  s.mbx p = 1 ∧ p ∈ s.aq.toCancel :=
  ⟨{ (((State.reset.set .MBX_INFO_AQSIA_UP 1).set (.MBX_STAT_STATE 0) 1).set (.MBX_LATCH_CMD 0) 0x0103) with aq := { ring := [0], toCancel := [0] } },
    0, by decide +kernel⟩

theorem test_meets_RequestsAreTaken_14 : ∃ (s : State) (p : Nat), s.aqsiaActs = true ∧ s.actionable s.aq.ring [] = some p ∧
  s.mbx p = 1 ∧ p ∉ s.aq.toCancel ∧ s.committed = true :=
  ⟨{ ((((State.reset.set .MBX_INFO_AQSIA_UP 1).set (.MBX_STAT_STATE 0) 1).set (.MBX_LATCH_CMD 0) 0x0103).set .WEIR_STATUS_PF 2) with aq := { ring := [0] } },
    0, by decide +kernel⟩

theorem test_meets_RequestsAreTaken_15 : ∃ (s : State) (p : Nat) (status : Nat), s.aqsiaActs = true ∧
  s.actionable s.aq.ring [] = some p ∧ s.mbx p = 1 ∧ p ∉ s.aq.toCancel ∧ s.committed = false ∧
  s.requestCheck p = some status :=
  ⟨{ ((((State.reset.set .MBX_INFO_AQSIA_UP 1).set (.MBX_STAT_STATE 0) 1).set (.MBX_LATCH_CMD 0) 0x0103).set (.MBX_REQ_DATA 0 0) 259) with aq := { ring := [0] } },
    0, 0x20, by decide +kernel⟩

theorem test_meets_RequestsAreTaken_16 : ∃ (s : State) (p : Nat), s.aqsiaActs = true ∧ s.actionable s.aq.ring [] = some p ∧
  s.mbx p = 1 ∧ p ∉ s.aq.toCancel ∧ s.committed = false ∧ s.requestCheck p = none ∧ clash (s.claimsOf p) s.claimed = true :=
  ⟨{ ((((((State.reset.set .MBX_INFO_AQSIA_UP 1).set (.MBX_STAT_STATE 0) 1).set (.MBX_LATCH_CMD 0) 0x0803).set (.MBX_REQ_DATA 0 0) 2051).set (.MBX_REQ_DATA 0 3) 256).set (.MBX_STAT_SESSION 1) 9) with aq := { ring := [0], sessions := [{ id := 0, gen := 0 }], running := [(1, [.upd])] } },
    0, by decide +kernel⟩

theorem test_meets_RequestsAreTaken_17 : ∃ (s : State) (emf : Nat) (p : Nat) (status : Nat), s.aqsiaActs = true ∧
  s.actionable s.aq.ring [] = some p ∧ s.mbx p = 1 ∧ p ∉ s.aq.toCancel ∧ s.committed = false ∧ s.requestCheck p = none ∧
  clash (s.claimsOf p) s.claimed = false ∧ s.precondition p emf = some status :=
  ⟨{ ((((State.reset.set .MBX_INFO_AQSIA_UP 1).set (.MBX_STAT_STATE 0) 1).set (.MBX_LATCH_CMD 0) 0x0803).set (.MBX_REQ_DATA 0 0) 2051) with aq := { ring := [0], sessions := [{ id := 0, gen := 0 }] } },
    0, 0, 0x0106, by decide +kernel⟩

theorem test_meets_RequestsAreTaken_18 : ∃ (s : State) (emf : Nat) (p : Nat), s.aqsiaActs = true ∧
  s.actionable s.aq.ring [] = some p ∧ s.mbx p = 1 ∧ p ∉ s.aq.toCancel ∧ s.committed = false ∧ s.requestCheck p = none ∧
  clash (s.claimsOf p) s.claimed = false ∧ s.precondition p emf = none :=
  ⟨{ ((((State.reset.set .MBX_INFO_AQSIA_UP 1).set (.MBX_STAT_STATE 0) 1).set (.MBX_LATCH_CMD 0) 0x0103).set (.MBX_REQ_DATA 0 0) 259) with aq := { ring := [0], sessions := [{ id := 0, gen := 0 }] } },
    0, 0, by decide +kernel⟩

theorem test_meets_RequestsAreTaken_19 : ∃ (s : State) (id : Nat) (x : Session), s.session id = some x ∧ x.idle ≠ 0 ∧
  s.sessionActive x.key = false :=
  ⟨{ State.reset with aq := { sessions := [{ id := 4, idle := 9 }] } }, 4, { id := 4, idle := 9 }, by decide +kernel⟩

theorem test_meets_RequestsAreTaken_20 : ∃ (s : State) (id : Nat), (∀ x, s.session id = some x →
  x.idle = 0 ∨ s.sessionActive x.key = true) :=
  ⟨State.reset, 4, by decide +kernel⟩

theorem test_meets_RequestsAreTaken_21 : ∃ (s : State) (p : Nat) (id : Nat) (gen : Nat), s.Runs p 0x0101 ∧
  s.freeId (pairClass p) = some id ∧
  gen = s.get .MBX_EPOCH_PCC * 2 ^ 24 + s.get .MBX_EPOCH_WARM * 2 ^ 16 + (if s.aq.opens = 0xFFFF then 1 else s.aq.opens + 1) :=
  ⟨{ (((State.reset.set .MBX_INFO_AQSIA_UP 1).set (.MBX_STAT_STATE 0) 2).set (.MBX_LATCH_CMD 0) 0x0101) with aq := { running := [(0, [])] } },
    0, 0, 1, by decide +kernel⟩

theorem test_meets_RequestsAreTaken_22 : ∃ (s : State) (p : Nat), s.Runs p 0x0101 ∧ s.freeId (pairClass p) = none :=
  ⟨{ (((State.reset.set .MBX_INFO_AQSIA_UP 1).set (.MBX_STAT_STATE 60) 2).set (.MBX_LATCH_CMD 60) 0x0101) with aq := { running := [(60, [])] } },
    60, by decide +kernel⟩

theorem test_meets_RequestsAreTaken_23 : ∃ (s : State) (p : Nat) (x : Session), s.Runs p 0x0102 ∧ s.session x.id = some x ∧
  (x.id, x.gen) = s.mbxKey p ∧ s.aq.ring.all (fun q => s.mbxKey q != s.mbxKey p) = true :=
  ⟨{ (((State.reset.set .MBX_INFO_AQSIA_UP 1).set (.MBX_STAT_STATE 0) 2).set (.MBX_LATCH_CMD 0) 0x0102) with aq := { running := [(0, [])], sessions := [{ id := 0, gen := 0 }] } },
    0, {}, by decide +kernel⟩

theorem test_meets_RequestsAreTaken_24 : ∃ (s : State) (p : Nat) (q : Nat) (x : Session), s.Runs p 0x0102 ∧
  s.session x.id = some x ∧ (x.id, x.gen) = s.mbxKey p ∧ s.aq.ring = [q] ∧ s.mbxKey q = s.mbxKey p ∧ s.mbxCmd q ≠ 0x0101 ∧
  p < 60 ∧ q < 60 ∧ p ≠ q :=
  ⟨{ (((State.reset.set .MBX_INFO_AQSIA_UP 1).set (.MBX_STAT_STATE 0) 2).set (.MBX_LATCH_CMD 0) 0x0102) with aq := { running := [(0, [])], sessions := [{ id := 0, gen := 0 }], ring := [1] } },
    0, 1, {}, by decide +kernel⟩

theorem test_meets_RequestsAreTaken_25 : ∃ (s : State) (p : Nat), s.Runs p 0x0102 ∧ s.sessionOpen p = false :=
  ⟨{ (((State.reset.set .MBX_INFO_AQSIA_UP 1).set (.MBX_STAT_STATE 0) 2).set (.MBX_LATCH_CMD 0) 0x0102) with aq := { running := [(0, [])] } },
    0, by decide +kernel⟩

theorem test_meets_RequestsAreTaken_26 : ∃ (s : State) (p : Nat), s.Runs p 0x0103 :=
  ⟨{ (((State.reset.set .MBX_INFO_AQSIA_UP 1).set (.MBX_STAT_STATE 0) 2).set (.MBX_LATCH_CMD 0) 0x0103) with aq := { running := [(0, [])] } },
    0, by decide +kernel⟩

theorem test_meets_ServicePortServes_1 : ∃ (s : State) (bytes : List Byte) (slot : Nat) (len : Nat), s.portServes = true ∧
  fieldAt bytes 0 1 = slot ∧ fieldAt bytes 1 2 = len ∧ 3 ≤ bytes.length ∧ frameErr 0x01 (3 + len) bytes = none ∧ slot ≤ 7 ∧
  16 ≤ len ∧ len ≤ 256 ∧ s.mbx (48 + slot) = 0 ∧ s.powerFailing = false :=
  ⟨State.reset, [0, 16, 0, 0, 0, 0, 0, 0, 0, 0, 0, 0, 0, 0, 0, 0, 0, 0, 0, 244, 49], 0, 16, by decide +kernel⟩

theorem test_meets_ServicePortServes_2 : ∃ (s : State) (bytes : List Byte) (e : Nat), s.portServes = true ∧ 3 ≤ bytes.length ∧
  frameErr 0x01 (3 + fieldAt bytes 1 2) bytes = some e :=
  ⟨State.reset, [0, 1, 0, 0, 0, 0], 1, by decide +kernel⟩

theorem test_meets_ServicePortServes_3 : ∃ (s : State) (bytes : List Byte), s.portServes = true ∧ bytes.length < 3 :=
  ⟨State.reset, [], by decide +kernel⟩

theorem test_meets_ServicePortServes_4 : ∃ (s : State) (bytes : List Byte) (slot : Nat) (len : Nat), s.portServes = true ∧
  fieldAt bytes 0 1 = slot ∧ fieldAt bytes 1 2 = len ∧ 3 ≤ bytes.length ∧ frameErr 0x01 (3 + len) bytes = none ∧
  (7 < slot ∨ len < 16 ∨ 256 < len) :=
  ⟨State.reset, [9, 0, 0, 229, 108], 9, 0, by decide +kernel⟩

theorem test_meets_ServicePortServes_5 : ∃ (s : State) (bytes : List Byte) (slot : Nat) (len : Nat), s.portServes = true ∧
  fieldAt bytes 0 1 = slot ∧ fieldAt bytes 1 2 = len ∧ 3 ≤ bytes.length ∧ frameErr 0x01 (3 + len) bytes = none ∧ slot ≤ 7 ∧
  16 ≤ len ∧ len ≤ 256 ∧ s.mbx (48 + slot) ≠ 0 :=
  ⟨(State.reset.set (.MBX_STAT_STATE 48) 2), [0, 16, 0, 0, 0, 0, 0, 0, 0, 0, 0, 0, 0, 0, 0, 0, 0, 0, 0, 244, 49], 0, 16,
    by decide +kernel⟩

theorem test_meets_ServicePortServes_6 : ∃ (s : State) (bytes : List Byte) (slot : Nat) (len : Nat), s.portServes = true ∧
  fieldAt bytes 0 1 = slot ∧ fieldAt bytes 1 2 = len ∧ 3 ≤ bytes.length ∧ frameErr 0x01 (3 + len) bytes = none ∧ slot ≤ 7 ∧
  16 ≤ len ∧ len ≤ 256 ∧ s.mbx (48 + slot) = 0 ∧ s.powerFailing = true :=
  ⟨(State.reset.set .WEIR_STATUS_PF 1), [0, 16, 0, 0, 0, 0, 0, 0, 0, 0, 0, 0, 0, 0, 0, 0, 0, 0, 0, 244, 49], 0, 16,
    by decide +kernel⟩

theorem test_meets_ServicePortServes_7 : ∃ (s : State), s.portServes = false :=
  ⟨{ State.reset with warmBusy := true }, by decide +kernel⟩

theorem test_meets_ServicePortServes_8 : ∃ (s : State) (slot : Nat), s.portServes = true ∧ slot ≤ 7 ∧ s.mbx (48 + slot) ≠ 3 :=
  ⟨State.reset, 2, by decide +kernel⟩

theorem test_meets_ServicePortServes_9 : ∃ (s : State) (slot : Nat) (n : Nat) (rsp : List Byte), s.portServes = true ∧
  slot ≤ 7 ∧ s.mbx (48 + slot) = 3 ∧
  rsp = (List.range 64).flatMap (fun w => leBytes 4 (s.get (.MBX_RSP_DATA (48 + slot) w))) ∧ n = 16 + fieldAt rsp 6 2 :=
  ⟨(State.reset.set (.MBX_STAT_STATE 50) 3), 2, 16, List.replicate 256 0, by decide +kernel⟩

theorem test_meets_ServicePortServes_10 : ∃ (s : State) (slot : Nat), s.portServes = true ∧ 7 < slot :=
  ⟨State.reset, 8, by decide +kernel⟩

theorem test_meets_ServicePortServes_11 : ∃ (s : State), s.portServes = true :=
  ⟨State.reset, by decide +kernel⟩

theorem test_meets_ServicePortServes_12 : ∃ (s : State), s.portServes = false :=
  ⟨{ State.reset with warmBusy := true }, by decide +kernel⟩

theorem test_meets_ServicePortServes_13 : ∃ (s : State) (bytes : List Byte), s.portServes = true ∧
  frameErr 0x03 1 bytes = none ∧ fieldAt bytes 0 1 ≤ 7 ∧ s.mbx (48 + fieldAt bytes 0 1) = 3 :=
  ⟨(State.reset.set (.MBX_STAT_STATE 48) 3), [0, 92, 72], by decide +kernel⟩

theorem test_meets_ServicePortServes_14 : ∃ (s : State) (bytes : List Byte), s.portServes = true ∧
  frameErr 0x03 1 bytes = none ∧ fieldAt bytes 0 1 ≤ 7 ∧ s.mbx (48 + fieldAt bytes 0 1) ≠ 3 :=
  ⟨State.reset, [0, 92, 72], by decide +kernel⟩

theorem test_meets_ServicePortServes_15 : ∃ (s : State) (bytes : List Byte) (e : Nat), s.portServes = true ∧
  frameErr 0x03 1 bytes = some e :=
  ⟨State.reset, [], 5, by decide +kernel⟩

theorem test_meets_ServicePortServes_16 : ∃ (s : State) (bytes : List Byte), s.portServes = true ∧
  frameErr 0x03 1 bytes = none ∧ 7 < fieldAt bytes 0 1 :=
  ⟨State.reset, [8, 84, 201], by decide +kernel⟩

theorem test_meets_ServicePortServes_17 : ∃ (s : State), s.portServes = false :=
  ⟨{ State.reset with warmBusy := true }, by decide +kernel⟩

theorem test_meets_ServicePortServes_18 : ∃ (s : State) (bytes : List Byte), s.portServes = true ∧
  frameErr 0x05 1 bytes = none ∧ fieldAt bytes 0 1 ≤ 7 ∧ s.mbx (48 + fieldAt bytes 0 1) = 2 :=
  ⟨(State.reset.set (.MBX_STAT_STATE 48) 2), [0, 250, 226], by decide +kernel⟩

theorem test_meets_ServicePortServes_19 : ∃ (s : State) (bytes : List Byte) (p : Nat), s.portServes = true ∧
  frameErr 0x05 1 bytes = none ∧ fieldAt bytes 0 1 ≤ 7 ∧ p = 48 + fieldAt bytes 0 1 ∧ s.mbx p = 1 ∧ s.aqsiaActs = true :=
  ⟨((State.reset.set .MBX_INFO_AQSIA_UP 1).set (.MBX_STAT_STATE 48) 1), [0, 250, 226], 48, by decide +kernel⟩

theorem test_meets_ServicePortServes_20 : ∃ (s : State) (bytes : List Byte) (p : Nat), s.portServes = true ∧
  frameErr 0x05 1 bytes = none ∧ fieldAt bytes 0 1 ≤ 7 ∧ p = 48 + fieldAt bytes 0 1 ∧ s.mbx p = 1 ∧ s.aqsiaActs = false :=
  ⟨(State.reset.set (.MBX_STAT_STATE 48) 1), [0, 250, 226], 48, by decide +kernel⟩

theorem test_meets_ServicePortServes_21 : ∃ (s : State) (bytes : List Byte) (p : Nat), s.portServes = true ∧
  frameErr 0x05 1 bytes = none ∧ fieldAt bytes 0 1 ≤ 7 ∧ p = 48 + fieldAt bytes 0 1 ∧ s.mbx p ≠ 1 ∧ s.mbx p ≠ 2 :=
  ⟨State.reset, [0, 250, 226], 48, by decide +kernel⟩

theorem test_meets_ServicePortServes_22 : ∃ (s : State) (bytes : List Byte) (e : Nat), s.portServes = true ∧
  frameErr 0x05 1 bytes = some e :=
  ⟨State.reset, [], 5, by decide +kernel⟩

theorem test_meets_ServicePortServes_23 : ∃ (s : State) (bytes : List Byte), s.portServes = true ∧
  frameErr 0x05 1 bytes = none ∧ 7 < fieldAt bytes 0 1 :=
  ⟨State.reset, [8, 242, 99], by decide +kernel⟩

theorem test_meets_ServicePortServes_24 : ∃ (s : State), s.portServes = false :=
  ⟨{ State.reset with warmBusy := true }, by decide +kernel⟩

theorem test_meets_ServicePortServes_25 : ∃ (s : State), s.portServes = true :=
  ⟨State.reset, by decide +kernel⟩

theorem test_meets_ServicePortServes_26 : ∃ (s : State), s.portServes = true :=
  ⟨State.reset, by decide +kernel⟩

theorem test_meets_ServicePortServes_27 : ∃ (s : State), s.portServes = false :=
  ⟨{ State.reset with warmBusy := true }, by decide +kernel⟩

theorem test_meets_ServicePortServes_28 : ∃ (s : State) (bytes : List Byte), s.portServes = true ∧
  frameErr 0x0F 0 bytes = none ∧ s.aq.sessions.Pairwise (fun a b => a.id ≠ b.id) :=
  ⟨{ State.reset with aq := { sessions := [{ id := 220, cls := 1 }] } }, [31, 16], by decide +kernel⟩

theorem test_meets_ServicePortServes_29 : ∃ (s : State) (bytes : List Byte) (e : Nat), s.portServes = true ∧
  frameErr 0x0F 0 bytes = some e :=
  ⟨State.reset, [], 5, by decide +kernel⟩

theorem test_meets_ServicePortServes_30 : ∃ (s : State), s.portServes = false :=
  ⟨{ State.reset with warmBusy := true }, by decide +kernel⟩

theorem test_meets_ServicePortServes_31 : ∃ (s : State), s.portServes = true :=
  ⟨State.reset, by decide +kernel⟩

theorem test_meets_ServicePortServes_32 : ∃ (s : State), s.portServes = false :=
  ⟨{ State.reset with warmBusy := true }, by decide +kernel⟩

theorem test_meets_SpindleAndSectionsObey_1 : ∃ (s : State) (p : Nat), s.Runs p 0x0201 ∧ (s.aq.runs.at p).phase = 0 :=
  ⟨{ (((State.reset.set .MBX_INFO_AQSIA_UP 1).set (.MBX_STAT_STATE 0) 2).set (.MBX_LATCH_CMD 0) 0x0201) with aq := { running := [(0, [])] } },
    0, by decide +kernel⟩

theorem test_meets_SpindleAndSectionsObey_2 : ∃ (s : State) (p : Nat), s.Runs p 0x0201 ∧ (s.aq.runs.at p).phase = 1 ∧
  (s.req p 22 1 = 0 ∨ (s.req p 21 1 = 1 ∧ s.get .WTH_SPN_STATUS_AT_SPEED = 1) ∨ (s.req p 21 1 ≠ 1 ∧
  s.get .WTH_SPN_STATUS_STATE = 0)) :=
  ⟨{ (((State.reset.set .MBX_INFO_AQSIA_UP 1).set (.MBX_STAT_STATE 0) 2).set (.MBX_LATCH_CMD 0) 0x0201) with aq := { running := [(0, [])], runs := [(0, { phase := 1 })] } },
    0, by decide +kernel⟩

theorem test_meets_SpindleAndSectionsObey_3 : ∃ (s : State) (p : Nat), s.Runs p 0x0201 ∧ (s.aq.runs.at p).phase = 1 ∧
  s.req p 22 1 ≠ 0 ∧ ¬ ((s.req p 21 1 = 1 ∧ s.get .WTH_SPN_STATUS_AT_SPEED = 1) ∨ (s.req p 21 1 ≠ 1 ∧
  s.get .WTH_SPN_STATUS_STATE = 0)) ∧ s.cancelAsked p = true :=
  ⟨{ (((((State.reset.set .MBX_INFO_AQSIA_UP 1).set (.MBX_STAT_STATE 0) 2).set (.MBX_LATCH_CMD 0) 0x0201).set (.MBX_REQ_DATA 0 5) 65792).set (.MBX_STAT_CANCEL_REQ 0) 1) with aq := { running := [(0, [])], runs := [(0, { phase := 1 })] } },
    0, by decide +kernel⟩

theorem test_meets_SpindleAndSectionsObey_4 : ∃ (s : State) (p : Nat), s.Runs p 0x0201 ∧ (s.aq.runs.at p).phase = 1 ∧
  s.req p 22 1 ≠ 0 ∧ ¬ ((s.req p 21 1 = 1 ∧ s.get .WTH_SPN_STATUS_AT_SPEED = 1) ∨ (s.req p 21 1 ≠ 1 ∧
  s.get .WTH_SPN_STATUS_STATE = 0)) ∧ s.cancelAsked p = false :=
  ⟨{ ((((State.reset.set .MBX_INFO_AQSIA_UP 1).set (.MBX_STAT_STATE 0) 2).set (.MBX_LATCH_CMD 0) 0x0201).set (.MBX_REQ_DATA 0 5) 65792) with aq := { running := [(0, [])], runs := [(0, { phase := 1 })] } },
    0, by decide +kernel⟩

theorem test_meets_SpindleAndSectionsObey_5 : ∃ (s : State) (p : Nat), s.Runs p 0x0202 :=
  ⟨{ (((State.reset.set .MBX_INFO_AQSIA_UP 1).set (.MBX_STAT_STATE 0) 2).set (.MBX_LATCH_CMD 0) 0x0202) with aq := { running := [(0, [])] } },
    0, by decide +kernel⟩

theorem test_meets_SpindleAndSectionsObey_6 : ∃ (s : State) (p : Nat) (k : Nat) (rest : List Nat), s.Runs p 0x0203 ∧
  (s.aq.runs.at p).phase = 0 ∧ (sectionsOf (s.req p 16 1)).filter (fun j => s.parkedSec j) = k :: rest ∧ s.loadable k = true ∧
  s.cancelAsked p = false ∧ (s.aq.runs.at p).cur = none :=
  ⟨{ ((((State.reset.set .MBX_INFO_AQSIA_UP 1).set (.MBX_STAT_STATE 0) 2).set (.MBX_LATCH_CMD 0) 0x0203).set (.MBX_REQ_DATA 0 4) 2) with aq := { running := [(0, [])] } },
    0, 1, [], by decide +kernel⟩

theorem test_meets_SpindleAndSectionsObey_7 : ∃ (s : State) (p : Nat), s.Runs p 0x0203 ∧
  (sectionsOf (s.req p 16 1)).all (fun j => !s.parkedSec j) = true ∧ (s.aq.runs.at p) = {} :=
  ⟨{ (((((State.reset.set .MBX_INFO_AQSIA_UP 1).set (.MBX_STAT_STATE 0) 2).set (.MBX_LATCH_CMD 0) 0x0203).set (.MBX_REQ_DATA 0 4) 2).set (.WTH_VCM_STATUS_PARKED 1) 0) with aq := { running := [(0, [])] } },
    0, by decide +kernel⟩

theorem test_meets_SpindleAndSectionsObey_8 : ∃ (s : State) (p : Nat) (k : Nat), s.Runs p 0x0203 ∧
  (s.aq.runs.at p).phase = 1 ∧ (s.aq.runs.at p).cur = some k ∧ (s.aq.runs.at p).todo = 0 ∧ (s.aq.runs.at p).bad = 0 ∧
  s.parkedSec k = false ∧ s.get (.WTH_VCM_STATUS_RET_ACTIVE k) = 0 :=
  ⟨{ (((((State.reset.set .MBX_INFO_AQSIA_UP 1).set (.MBX_STAT_STATE 0) 2).set (.MBX_LATCH_CMD 0) 0x0203).set (.MBX_REQ_DATA 0 4) 2).set (.WTH_VCM_STATUS_PARKED 1) 0) with aq := { running := [(0, [])], runs := [(0, { phase := 1, cur := some 1 })] } },
    0, 1, by decide +kernel⟩

theorem test_meets_SpindleAndSectionsObey_9 : ∃ (s : State) (p : Nat) (k : Nat), s.Runs p 0x0203 ∧
  (s.aq.runs.at p).phase = 1 ∧ k < 4 ∧ (s.aq.runs.at p).cur = some k ∧ (s.aq.runs.at p).todo = 0 ∧ (s.aq.runs.at p).bad = 0 ∧
  s.parkedSec k = false ∧ s.get (.WTH_VCM_STATUS_RET_ACTIVE k) = 0 :=
  ⟨{ (((((State.reset.set .MBX_INFO_AQSIA_UP 1).set (.MBX_STAT_STATE 0) 2).set (.MBX_LATCH_CMD 0) 0x0203).set (.MBX_REQ_DATA 0 4) 2).set (.WTH_VCM_STATUS_PARKED 1) 0) with aq := { running := [(0, [])], runs := [(0, { phase := 1, cur := some 1 })] } },
    0, 1, by decide +kernel⟩

theorem test_meets_SpindleAndSectionsObey_10 : ∃ (s : State) (p : Nat), s.Runs p 0x0203 ∧ (s.aq.runs.at p).phase = 1 ∧
  (s.aq.runs.at p).cur = none ∧ (s.aq.runs.at p).todo ≠ 0 ∧ s.cancelAsked p = true :=
  ⟨{ (((((State.reset.set .MBX_INFO_AQSIA_UP 1).set (.MBX_STAT_STATE 0) 2).set (.MBX_LATCH_CMD 0) 0x0203).set (.MBX_REQ_DATA 0 4) 2).set (.MBX_STAT_CANCEL_REQ 0) 1) with aq := { running := [(0, [])], runs := [(0, { phase := 1, todo := 2 })] } },
    0, by decide +kernel⟩

theorem test_meets_SpindleAndSectionsObey_11 : ∃ (s : State) (p : Nat), s.Runs p 0x0204 ∧ (s.aq.runs.at p).phase = 0 ∧
  (sectionsOf (s.req p 16 1)).all s.lanesIdle = false :=
  ⟨{ (((((State.reset.set .MBX_INFO_AQSIA_UP 1).set (.MBX_STAT_STATE 0) 2).set (.MBX_LATCH_CMD 0) 0x0204).set (.MBX_REQ_DATA 0 4) 3).set (.REED_ST_STATUS_STATE 0) 1) with aq := { running := [(0, [])] } },
    0, by decide +kernel⟩

theorem test_meets_SpindleAndSectionsObey_12 : ∃ (s : State) (p : Nat), s.Runs p 0x0204 ∧ (s.aq.runs.at p).phase = 0 ∧
  (sectionsOf (s.req p 16 1)).all s.lanesIdle = true :=
  ⟨{ ((((State.reset.set .MBX_INFO_AQSIA_UP 1).set (.MBX_STAT_STATE 0) 2).set (.MBX_LATCH_CMD 0) 0x0204).set (.MBX_REQ_DATA 0 4) 3) with aq := { running := [(0, [])] } },
    0, by decide +kernel⟩

theorem test_meets_SpindleAndSectionsObey_13 : ∃ (s : State) (p : Nat), s.Runs p 0x0204 ∧ (s.aq.runs.at p).phase = 1 ∧
  s.parkedAll (sectionsOf (s.req p 16 1)) = true :=
  ⟨{ ((((State.reset.set .MBX_INFO_AQSIA_UP 1).set (.MBX_STAT_STATE 0) 2).set (.MBX_LATCH_CMD 0) 0x0204).set (.MBX_REQ_DATA 0 4) 3) with aq := { running := [(0, [])], runs := [(0, { phase := 1 })] } },
    0, by decide +kernel⟩

theorem test_meets_SpindleAndSectionsObey_14 : ∃ (s : State) (p : Nat), s.Runs p 0x0205 ∧ (s.aq.runs.at p).phase = 0 :=
  ⟨{ (((((State.reset.set .MBX_INFO_AQSIA_UP 1).set (.MBX_STAT_STATE 0) 2).set (.MBX_LATCH_CMD 0) 0x0205).set (.MBX_REQ_DATA 0 4) 2).set (.WTH_VCM_STATUS_PARKED 1) 0) with aq := { running := [(0, [])] } },
    0, by decide +kernel⟩

theorem test_meets_SpindleAndSectionsObey_15 : ∃ (s : State) (p : Nat), s.Runs p 0x0205 ∧ (s.aq.runs.at p).phase = 1 ∧
  s.parkedAll (sectionsOf (s.req p 16 1)) = true :=
  ⟨{ ((((State.reset.set .MBX_INFO_AQSIA_UP 1).set (.MBX_STAT_STATE 0) 2).set (.MBX_LATCH_CMD 0) 0x0205).set (.MBX_REQ_DATA 0 4) 3) with aq := { running := [(0, [])], runs := [(0, { phase := 1 })] } },
    0, by decide +kernel⟩

theorem test_meets_SpindleAndSectionsObey_16 : ∃ (s : State) (p : Nat), s.Runs p 0x0205 ∧ (s.aq.runs.at p).phase = 1 ∧
  s.parkedAll (sectionsOf (s.req p 16 1)) = false :=
  ⟨{ (((((State.reset.set .MBX_INFO_AQSIA_UP 1).set (.MBX_STAT_STATE 0) 2).set (.MBX_LATCH_CMD 0) 0x0205).set (.MBX_REQ_DATA 0 4) 3).set (.WTH_VCM_STATUS_PARKED 1) 0) with aq := { running := [(0, [])], runs := [(0, { phase := 1 })] } },
    0, by decide +kernel⟩

theorem test_meets_SpindleAndSectionsObey_17 : ∃ (s : State) (p : Nat), s.Runs p 0x0206 :=
  ⟨{ ((((State.reset.set .MBX_INFO_AQSIA_UP 1).set (.MBX_STAT_STATE 0) 2).set (.MBX_LATCH_CMD 0) 0x0206).set .WTH_SPN_STATUS_STATE 9) with aq := { running := [(0, [])] } },
    0, by decide +kernel⟩

theorem test_meets_SpindleAndSectionsObey_18 : ∃ (s : State) (p : Nat) (k : Nat), s.Runs p 0x0207 ∧ s.req p 16 1 = k :=
  ⟨{ (((State.reset.set .MBX_INFO_AQSIA_UP 1).set (.MBX_STAT_STATE 0) 2).set (.MBX_LATCH_CMD 0) 0x0207) with aq := { running := [(0, [])] } },
    0, 0, by decide +kernel⟩

theorem test_meets_SpindleAndSectionsObey_19 : ∃ (s : State) (p : Nat), s.Runs p 0x0208 :=
  ⟨{ (((State.reset.set .MBX_INFO_AQSIA_UP 1).set (.MBX_STAT_STATE 0) 2).set (.MBX_LATCH_CMD 0) 0x0208) with aq := { running := [(0, [])] } },
    0, by decide +kernel⟩

theorem test_meets_SpindleAndSectionsObey_20 : ∃ (s : State) (p : Nat), s.Runs p 0x0601 ∧ (s.aq.runs.at p).phase = 0 ∧
  s.aq.loading = none :=
  ⟨{ (((State.reset.set .MBX_INFO_AQSIA_UP 1).set (.MBX_STAT_STATE 0) 2).set (.MBX_LATCH_CMD 0) 0x0601) with aq := { running := [(0, [])], runs := [(0, { phase := 0 })] } },
    0, by decide +kernel⟩

theorem test_meets_SpindleAndSectionsObey_21 : ∃ (s : State) (p : Nat), s.Runs p 0x0601 ∧ (s.aq.runs.at p).phase = 0 ∧
  s.aq.loading ≠ none :=
  ⟨{ (((State.reset.set .MBX_INFO_AQSIA_UP 1).set (.MBX_STAT_STATE 0) 2).set (.MBX_LATCH_CMD 0) 0x0601) with aq := { running := [(0, [])], runs := [(0, { phase := 0 })], loading := some 1 } },
    0, by decide +kernel⟩

theorem test_meets_SpindleAndSectionsObey_22 : ∃ (s : State) (p : Nat), s.Runs p 0x0601 ∧ (s.aq.runs.at p).phase = 1 ∧
  s.cancelAsked p = false ∧ ¬ (s.req p 16 1 = 2 ∨ s.req p 16 1 = 4) :=
  ⟨{ (((State.reset.set .MBX_INFO_AQSIA_UP 1).set (.MBX_STAT_STATE 0) 2).set (.MBX_LATCH_CMD 0) 0x0601) with aq := { running := [(0, [])], runs := [(0, { phase := 1 })] } },
    0, by decide +kernel⟩

theorem test_meets_SpindleAndSectionsObey_23 : ∃ (s : State) (p : Nat), s.Runs p 0x0601 ∧ (s.aq.runs.at p).phase = 1 ∧
  s.cancelAsked p = false ∧ (s.req p 16 1 = 2 ∨ s.req p 16 1 = 4) ∧ (List.range 4).all s.lanesIdle = true :=
  ⟨{ ((((State.reset.set .MBX_INFO_AQSIA_UP 1).set (.MBX_STAT_STATE 0) 2).set (.MBX_LATCH_CMD 0) 0x0601).set (.MBX_REQ_DATA 0 4) 2) with aq := { running := [(0, [])], runs := [(0, { phase := 1 })] } },
    0, by decide +kernel⟩

theorem test_meets_SpindleAndSectionsObey_24 : ∃ (s : State) (p : Nat), s.Runs p 0x0601 ∧ (s.aq.runs.at p).phase = 2 ∧
  s.parkedAll (List.range 4) = true :=
  ⟨{ ((((State.reset.set .MBX_INFO_AQSIA_UP 1).set (.MBX_STAT_STATE 0) 2).set (.MBX_LATCH_CMD 0) 0x0601).set (.MBX_REQ_DATA 0 4) 2) with aq := { running := [(0, [])], runs := [(0, { phase := 2 })] } },
    0, by decide +kernel⟩

theorem test_meets_SpindleAndSectionsObey_25 : ∃ (s : State) (p : Nat), s.Runs p 0x0601 ∧ (s.aq.runs.at p).phase = 3 ∧
  s.cancelAsked p = false :=
  ⟨{ (((State.reset.set .MBX_INFO_AQSIA_UP 1).set (.MBX_STAT_STATE 0) 2).set (.MBX_LATCH_CMD 0) 0x0601) with aq := { running := [(0, [])], runs := [(0, { phase := 3 })] } },
    0, by decide +kernel⟩

theorem test_meets_SpindleAndSectionsObey_26 : ∃ (s : State) (p : Nat), s.Runs p 0x0601 ∧ (s.aq.runs.at p).phase = 4 ∧
  s.psSpun (s.req p 16 1) = true :=
  ⟨{ ((((State.reset.set .MBX_INFO_AQSIA_UP 1).set (.MBX_STAT_STATE 0) 2).set (.MBX_LATCH_CMD 0) 0x0601).set .WTH_SPN_STATUS_AT_SPEED 1) with aq := { running := [(0, [])], runs := [(0, { phase := 4 })] } },
    0, by decide +kernel⟩

theorem test_meets_SpindleAndSectionsObey_27 : ∃ (s : State) (p : Nat), s.Runs p 0x0601 ∧ (s.aq.runs.at p).phase = 5 ∧
  s.cancelAsked p = false ∧ ((s.req p 16 1 = 2 ∨ s.req p 16 1 = 4) ∨ s.spindleReady = true) :=
  ⟨{ ((((State.reset.set .MBX_INFO_AQSIA_UP 1).set (.MBX_STAT_STATE 0) 2).set (.MBX_LATCH_CMD 0) 0x0601).set (.MBX_REQ_DATA 0 4) 2) with aq := { running := [(0, [])], runs := [(0, { phase := 5 })] } },
    0, by decide +kernel⟩

theorem test_meets_SpindleAndSectionsObey_28 : ∃ (s : State) (p : Nat), s.Runs p 0x0601 ∧ (s.aq.runs.at p).phase = 6 ∧
  (s.aq.runs.at p).cur = none ∧ (s.aq.runs.at p).todo = 0 ∧ (s.aq.runs.at p).bad = 0 :=
  ⟨{ (((State.reset.set .MBX_INFO_AQSIA_UP 1).set (.MBX_STAT_STATE 0) 2).set (.MBX_LATCH_CMD 0) 0x0601) with aq := { running := [(0, [])], runs := [(0, { phase := 6 })] } },
    0, by decide +kernel⟩

theorem test_meets_SpindleAndSectionsObey_29 : ∃ (s : State) (p : Nat), s.Runs p 0x0601 ∧ (s.aq.runs.at p).phase = 6 ∧
  (s.aq.runs.at p).cur = none ∧ (s.aq.runs.at p).todo = 0 ∧ (s.aq.runs.at p).bad ≠ 0 :=
  ⟨{ (((State.reset.set .MBX_INFO_AQSIA_UP 1).set (.MBX_STAT_STATE 0) 2).set (.MBX_LATCH_CMD 0) 0x0601) with aq := { running := [(0, [])], runs := [(0, { phase := 6, bad := 4 })] } },
    0, by decide +kernel⟩

theorem test_meets_SpindleAndSectionsObey_30 : ∃ (s : State) (p : Nat), s.Runs p 0x0601 ∧ (s.aq.runs.at p).phase = 7 ∧
  s.cancelAsked p = false :=
  ⟨{ (((State.reset.set .MBX_INFO_AQSIA_UP 1).set (.MBX_STAT_STATE 0) 2).set (.MBX_LATCH_CMD 0) 0x0601) with aq := { running := [(0, [])], runs := [(0, { phase := 7 })] } },
    0, by decide +kernel⟩

theorem test_meets_SpindleAndSectionsObey_31 : ∃ (s : State) (p : Nat), s.Runs p 0x0601 ∧ (s.aq.runs.at p).phase = 1 ∧
  s.cancelAsked p = true :=
  ⟨{ ((((State.reset.set .MBX_INFO_AQSIA_UP 1).set (.MBX_STAT_STATE 0) 2).set (.MBX_LATCH_CMD 0) 0x0601).set (.MBX_STAT_CANCEL_REQ 0) 1) with aq := { running := [(0, [])], runs := [(0, { phase := 1 })] } },
    0, by decide +kernel⟩

theorem test_meets_SpindleAndSectionsObey_32 : ∃ (s : State) (p : Nat), s.Runs p 0x0601 ∧ (s.aq.runs.at p).phase = 3 ∧
  s.cancelAsked p = true :=
  ⟨{ ((((State.reset.set .MBX_INFO_AQSIA_UP 1).set (.MBX_STAT_STATE 0) 2).set (.MBX_LATCH_CMD 0) 0x0601).set (.MBX_STAT_CANCEL_REQ 0) 1) with aq := { running := [(0, [])], runs := [(0, { phase := 3 })] } },
    0, by decide +kernel⟩

theorem test_meets_SpindleAndSectionsObey_33 : ∃ (s : State) (p : Nat), s.Runs p 0x0601 ∧ (s.aq.runs.at p).phase = 5 ∧
  s.cancelAsked p = true :=
  ⟨{ ((((State.reset.set .MBX_INFO_AQSIA_UP 1).set (.MBX_STAT_STATE 0) 2).set (.MBX_LATCH_CMD 0) 0x0601).set (.MBX_STAT_CANCEL_REQ 0) 1) with aq := { running := [(0, [])], runs := [(0, { phase := 5 })] } },
    0, by decide +kernel⟩

theorem test_meets_SpindleAndSectionsObey_34 : ∃ (s : State) (p : Nat), s.Runs p 0x0601 ∧ (s.aq.runs.at p).phase = 7 ∧
  s.cancelAsked p = true :=
  ⟨{ ((((State.reset.set .MBX_INFO_AQSIA_UP 1).set (.MBX_STAT_STATE 0) 2).set (.MBX_LATCH_CMD 0) 0x0601).set (.MBX_STAT_CANCEL_REQ 0) 1) with aq := { running := [(0, [])], runs := [(0, { phase := 7 })] } },
    0, by decide +kernel⟩

theorem test_meets_SpindleAndSectionsObey_35 : ∃ (s : State) (p : Nat), s.Runs p 0x0602 :=
  ⟨{ (((State.reset.set .MBX_INFO_AQSIA_UP 1).set (.MBX_STAT_STATE 0) 2).set (.MBX_LATCH_CMD 0) 0x0602) with aq := { running := [(0, [])] } },
    0, by decide +kernel⟩

theorem test_meets_SpindleAndSectionsObey_36 : ∃ (s : State) (p : Nat), s.Runs p 0x0603 :=
  ⟨{ (((State.reset.set .MBX_INFO_AQSIA_UP 1).set (.MBX_STAT_STATE 0) 2).set (.MBX_LATCH_CMD 0) 0x0603) with aq := { running := [(0, [])] } },
    0, by decide +kernel⟩

theorem test_meets_TablesAndChannelsAreServed_1 : ∃ (s : State) (p : Nat), s.Runs p 0x0301 :=
  ⟨{ (((State.reset.set .MBX_INFO_AQSIA_UP 1).set (.MBX_STAT_STATE 0) 2).set (.MBX_LATCH_CMD 0) 0x0301) with aq := { running := [(0, [])] } },
    0, by decide +kernel⟩

theorem test_meets_TablesAndChannelsAreServed_2 : ∃ (s : State) (p : Nat), s.Runs p 0x0302 :=
  ⟨{ (((State.reset.set .MBX_INFO_AQSIA_UP 1).set (.MBX_STAT_STATE 0) 2).set (.MBX_LATCH_CMD 0) 0x0302) with aq := { running := [(0, [])] } },
    0, by decide +kernel⟩

theorem test_meets_TablesAndChannelsAreServed_3 : ∃ (s : State) (p : Nat) (k : Nat), s.Runs p 0x0303 ∧ s.req p 16 1 = k :=
  ⟨{ (((State.reset.set .MBX_INFO_AQSIA_UP 1).set (.MBX_STAT_STATE 0) 2).set (.MBX_LATCH_CMD 0) 0x0303) with aq := { running := [(0, [])] } },
    0, 0, by decide +kernel⟩

theorem test_meets_TablesAndChannelsAreServed_4 : ∃ (s : State) (p : Nat), s.Runs p 0x0304 ∧ s.req p 16 1 / 4 = 1 :=
  ⟨{ ((((State.reset.set .MBX_INFO_AQSIA_UP 1).set (.MBX_STAT_STATE 0) 2).set (.MBX_LATCH_CMD 0) 0x0304).set (.MBX_REQ_DATA 0 4) 4) with aq := { running := [(0, [])] } },
    0, by decide +kernel⟩

theorem test_meets_TablesAndChannelsAreServed_5 : ∃ (s : State) (p : Nat), s.Runs p 0x0304 ∧ s.req p 16 1 / 4 = 0 :=
  ⟨{ (((State.reset.set .MBX_INFO_AQSIA_UP 1).set (.MBX_STAT_STATE 0) 2).set (.MBX_LATCH_CMD 0) 0x0304) with aq := { running := [(0, [])] } },
    0, by decide +kernel⟩

theorem test_meets_TablesAndChannelsAreServed_6 : ∃ (s : State) (p : Nat) (k : Nat), s.Runs p 0x0305 ∧ s.req p 16 1 = k ∧
  (s.aq.runs.at p).phase = 0 ∧ (s.tus.secs.at k).capPend = false :=
  ⟨{ (((State.reset.set .MBX_INFO_AQSIA_UP 1).set (.MBX_STAT_STATE 0) 2).set (.MBX_LATCH_CMD 0) 0x0305) with aq := { running := [(0, [])] } },
    0, 0, by decide +kernel⟩

theorem test_meets_TablesAndChannelsAreServed_7 : ∃ (s : State) (p : Nat), s.Runs p 0x0305 ∧ (s.aq.runs.at p).phase = 0 ∧
  (s.tus.secs.at (s.req p 16 1)).capPend = true :=
  ⟨{ (((State.reset.set .MBX_INFO_AQSIA_UP 1).set (.MBX_STAT_STATE 0) 2).set (.MBX_LATCH_CMD 0) 0x0305) with aq := { running := [(0, [])] }, tus := { secs := [(0, { capPend := true })] } },
    0, by decide +kernel⟩

theorem test_meets_TablesAndChannelsAreServed_8 : ∃ (s : State) (p : Nat) (k : Nat), s.Runs p 0x0305 ∧ s.req p 16 1 = k ∧
  (s.aq.runs.at p).phase = 1 ∧ s.get (.TUS_SEC_STATUS_CAP_DONE k) = 1 :=
  ⟨{ ((((State.reset.set .MBX_INFO_AQSIA_UP 1).set (.MBX_STAT_STATE 0) 2).set (.MBX_LATCH_CMD 0) 0x0305).set (.TUS_SEC_STATUS_CAP_DONE 0) 1) with aq := { running := [(0, [])], runs := [(0, { phase := 1 })] } },
    0, 0, by decide +kernel⟩

theorem test_meets_TablesAndChannelsAreServed_9 : ∃ (s : State) (p : Nat), s.Runs p 0x0305 ∧ (s.aq.runs.at p).phase = 1 ∧
  s.get (.TUS_SEC_STATUS_CAP_DONE (s.req p 16 1)) = 0 :=
  ⟨{ (((State.reset.set .MBX_INFO_AQSIA_UP 1).set (.MBX_STAT_STATE 0) 2).set (.MBX_LATCH_CMD 0) 0x0305) with aq := { running := [(0, [])], runs := [(0, { phase := 1 })] } },
    0, by decide +kernel⟩

theorem test_meets_TablesAndChannelsAreServed_10 : ∃ (s : State) (p : Nat), s.Runs p 0x0401 :=
  ⟨{ (((State.reset.set .MBX_INFO_AQSIA_UP 1).set (.MBX_STAT_STATE 0) 2).set (.MBX_LATCH_CMD 0) 0x0401) with aq := { running := [(0, [])] } },
    0, by decide +kernel⟩

theorem test_meets_TablesAndChannelsAreServed_11 : ∃ (s : State) (p : Nat), s.Runs p 0x0402 :=
  ⟨{ (((State.reset.set .MBX_INFO_AQSIA_UP 1).set (.MBX_STAT_STATE 0) 2).set (.MBX_LATCH_CMD 0) 0x0402) with aq := { running := [(0, [])] } },
    0, by decide +kernel⟩

theorem test_meets_TablesAndChannelsAreServed_12 : ∃ (s : State) (p : Nat) (b : Nat), s.Runs p 0x0403 ∧
  (s.aq.runs.at p).phase = b ∧ b < 4 ∧ ¬ (s.cancelAsked p = true ∧ (s.aq.runs.at p).good ≠ 0 ∧ s.req p 20 1 / 2 ^ b ≠ 0) ∧
  s.req p 20 1 / 2 ^ b % 2 = 1 :=
  ⟨{ ((((State.reset.set .MBX_INFO_AQSIA_UP 1).set (.MBX_STAT_STATE 0) 2).set (.MBX_LATCH_CMD 0) 0x0403).set (.MBX_REQ_DATA 0 5) 1) with aq := { running := [(0, [])] } },
    0, 0, by decide +kernel⟩

theorem test_meets_TablesAndChannelsAreServed_13 : ∃ (s : State) (p : Nat) (b : Nat), s.Runs p 0x0403 ∧
  (s.aq.runs.at p).phase = b ∧ b < 4 ∧ ¬ (s.cancelAsked p = true ∧ (s.aq.runs.at p).good ≠ 0 ∧ s.req p 20 1 / 2 ^ b ≠ 0) ∧
  s.req p 20 1 / 2 ^ b % 2 = 0 :=
  ⟨{ (((State.reset.set .MBX_INFO_AQSIA_UP 1).set (.MBX_STAT_STATE 0) 2).set (.MBX_LATCH_CMD 0) 0x0403) with aq := { running := [(0, [])] } },
    0, 0, by decide +kernel⟩

theorem test_meets_TablesAndChannelsAreServed_14 : ∃ (s : State) (p : Nat) (b : Nat), s.Runs p 0x0403 ∧
  (s.aq.runs.at p).phase = b ∧ b < 4 ∧ (s.cancelAsked p = true ∧ (s.aq.runs.at p).good ≠ 0 ∧ s.req p 20 1 / 2 ^ b ≠ 0) :=
  ⟨{ (((((State.reset.set .MBX_INFO_AQSIA_UP 1).set (.MBX_STAT_STATE 0) 2).set (.MBX_LATCH_CMD 0) 0x0403).set (.MBX_REQ_DATA 0 5) 3).set (.MBX_STAT_CANCEL_REQ 0) 1) with aq := { running := [(0, [])], runs := [(0, { phase := 1, good := 1 })] } },
    0, 1, by decide +kernel⟩

theorem test_meets_TablesAndChannelsAreServed_15 : ∃ (s : State) (p : Nat), s.Runs p 0x0403 ∧ 4 ≤ (s.aq.runs.at p).phase :=
  ⟨{ (((State.reset.set .MBX_INFO_AQSIA_UP 1).set (.MBX_STAT_STATE 0) 2).set (.MBX_LATCH_CMD 0) 0x0403) with aq := { running := [(0, [])], runs := [(0, { phase := 4, good := 15 })] } },
    0, by decide +kernel⟩

theorem test_meets_TablesAndChannelsAreServed_16 : ∃ (s : State) (p : Nat) (l : Link), s.Runs p 0x0404 ∧
  s.link (s.req p 16 1) = l :=
  ⟨{ (((State.reset.set .MBX_INFO_AQSIA_UP 1).set (.MBX_STAT_STATE 0) 2).set (.MBX_LATCH_CMD 0) 0x0404) with aq := { running := [(0, [])] } },
    0, State.reset.link 0, by decide +kernel⟩

theorem test_meets_FormatProgramsLoad_1 : ∃ (s : State) (p : Nat), s.Runs p 0x0501 :=
  ⟨{ (((State.reset.set .MBX_INFO_AQSIA_UP 1).set (.MBX_STAT_STATE 0) 2).set (.MBX_LATCH_CMD 0) 0x0501) with aq := { running := [(0, [])], sessions := [{ id := 0, gen := 0 }] } },
    0, by decide +kernel⟩

theorem test_meets_FormatProgramsLoad_2 : ∃ (s : State) (p : Nat) (l : FLoad), s.Runs p 0x0502 ∧ s.aq.load = some l :=
  ⟨{ (((State.reset.set .MBX_INFO_AQSIA_UP 1).set (.MBX_STAT_STATE 0) 2).set (.MBX_LATCH_CMD 0) 0x0502) with aq := { running := [(0, [])], sessions := [{ id := 0, gen := 0 }], load := some { owner := (0, 0), prog := 5, count := 1, addr := 0x3000, words := [] } } },
    0, { owner := (0, 0), prog := 5, count := 1, addr := 0x3000, words := [] }, by decide +kernel⟩

theorem test_meets_FormatProgramsLoad_3 : ∃ (s : State) (p : Nat) (l : FLoad) (r : Nat × Nat), s.Runs p 0x0503 ∧
  s.aq.load = some l ∧ s.programCheck l = some r :=
  ⟨{ (((State.reset.set .MBX_INFO_AQSIA_UP 1).set (.MBX_STAT_STATE 0) 2).set (.MBX_LATCH_CMD 0) 0x0503) with aq := { running := [(0, [])], load := some { owner := (0, 0), prog := 5, count := 1, addr := 0x3000, words := [] } } },
    0, { owner := (0, 0), prog := 5, count := 1, addr := 0x3000, words := [] }, (0xFFFF, 3), by decide +kernel⟩

theorem test_meets_FormatProgramsLoad_4 : ∃ (s : State) (p : Nat) (l : FLoad), s.Runs p 0x0503 ∧ s.aq.load = some l ∧
  s.programCheck l = none ∧ (s.mq.progHold = false ∨ (List.range 8).all (fun n => !s.running n) = false) :=
  ⟨{ (((State.reset.set .MBX_INFO_AQSIA_UP 1).set (.MBX_STAT_STATE 0) 2).set (.MBX_LATCH_CMD 0) 0x0503) with aq := { running := [(0, [])], load := some { owner := (0, 0), prog := 5, count := 1, addr := 0x3000, words := [0xFC000000] } } },
    0, { owner := (0, 0), prog := 5, count := 1, addr := 0x3000, words := [0xFC000000] }, by decide +kernel⟩

theorem test_meets_FormatProgramsLoad_5 : ∃ (s : State) (p : Nat) (norOk : Bool) (l : FLoad), s.Runs p 0x0503 ∧
  s.aq.load = some l ∧ s.programCheck l = none ∧ (List.range 8).all (fun n => !s.running n) = true ∧ s.mq.progHold = true ∧
  (l.persist = false ∨ norOk = true) :=
  ⟨{ (((State.reset.set .MBX_INFO_AQSIA_UP 1).set (.MBX_STAT_STATE 0) 2).set (.MBX_LATCH_CMD 0) 0x0503) with aq := { running := [(0, [])], load := some { owner := (0, 0), prog := 5, count := 1, addr := 0x3000, words := [0xFC000000] } }, mq := { progHold := true } },
    0, true, { owner := (0, 0), prog := 5, count := 1, addr := 0x3000, words := [0xFC000000] }, by decide +kernel⟩

theorem test_meets_FormatProgramsLoad_6 : ∃ (s : State) (p : Nat) (l : FLoad), s.Runs p 0x0503 ∧ s.aq.load = some l ∧
  s.programCheck l = none ∧ (List.range 8).all (fun n => !s.running n) = true ∧ s.mq.progHold = true ∧ l.persist = true :=
  ⟨{ (((State.reset.set .MBX_INFO_AQSIA_UP 1).set (.MBX_STAT_STATE 0) 2).set (.MBX_LATCH_CMD 0) 0x0503) with aq := { running := [(0, [])], load := some { owner := (0, 0), prog := 5, count := 1, addr := 0x3000, persist := true, words := [0xFC000000] } }, mq := { progHold := true } },
    0, { owner := (0, 0), prog := 5, count := 1, addr := 0x3000, persist := true, words := [0xFC000000] }, by decide +kernel⟩

theorem test_meets_FormatProgramsLoad_7 : ∃ (s : State) (p : Nat) (norOk : Bool), s.Runs p 0x0504 ∧
  s.bindCheck (s.req p 16 2) (s.req p 18 1) (s.req p 24 2) = none ∧ (s.persisted (s.req p 16 2) = false ∨ norOk = true) :=
  ⟨{ ((((State.reset.set .MBX_INFO_AQSIA_UP 1).set (.MBX_STAT_STATE 0) 2).set (.MBX_LATCH_CMD 0) 0x0504).set (.MBX_REQ_DATA 0 4) 65536) with aq := { running := [(0, [])] } },
    0, true, by decide +kernel⟩

theorem test_meets_FormatProgramsLoad_8 : ∃ (s : State) (p : Nat) (r : Nat), s.Runs p 0x0504 ∧
  s.bindCheck (s.req p 16 2) (s.req p 18 1) (s.req p 24 2) = some r :=
  ⟨{ ((((State.reset.set .MBX_INFO_AQSIA_UP 1).set (.MBX_STAT_STATE 0) 2).set (.MBX_LATCH_CMD 0) 0x0504).set (.MBX_REQ_DATA 0 4) 589824) with aq := { running := [(0, [])] } },
    0, 5, by decide +kernel⟩

theorem test_meets_FormatProgramsLoad_9 : ∃ (s : State) (p : Nat) (norOk : Bool), s.Runs p 0x0505 ∧
  (s.persisted (s.req p 16 2) = false ∨ norOk = true) :=
  ⟨{ (((State.reset.set .MBX_INFO_AQSIA_UP 1).set (.MBX_STAT_STATE 0) 2).set (.MBX_LATCH_CMD 0) 0x0505) with aq := { running := [(0, [])] } },
    0, true, by decide +kernel⟩

theorem test_meets_FormatProgramsLoad_10 : ∃ (s : State) (p : Nat), s.Runs p 0x0505 ∧ s.persisted (s.req p 16 2) = true :=
  ⟨{ (((State.reset.set .MBX_INFO_AQSIA_UP 1).set (.MBX_STAT_STATE 0) 2).set (.MBX_LATCH_CMD 0) 0x0505) with aq := { running := [(0, [])], progs := [{ prog := 0, persist := true }] } },
    0, by decide +kernel⟩

theorem test_meets_FormatProgramsLoad_11 : ∃ (s : State) (p : Nat) (l : List FProgram), s.Runs p 0x0506 ∧
  l = (s.aq.progs.drop (s.req p 16 1)).take 28 :=
  ⟨{ (((State.reset.set .MBX_INFO_AQSIA_UP 1).set (.MBX_STAT_STATE 0) 2).set (.MBX_LATCH_CMD 0) 0x0506) with aq := { running := [(0, [])] } },
    0, [], by decide +kernel⟩

theorem test_meets_EventsAreServed_1 : ∃ (s : State) (p : Nat), s.Runs p 0x0701 :=
  ⟨{ (((State.reset.set .MBX_INFO_AQSIA_UP 1).set (.MBX_STAT_STATE 0) 2).set (.MBX_LATCH_CMD 0) 0x0701) with aq := { running := [(0, [])] } },
    0, by decide +kernel⟩

theorem test_meets_EventsAreServed_2 : ∃ (s : State) (p : Nat), s.Runs p 0x0702 ∧ s.reqArea p < 10 ∧
  s.get .PEAT_STATUS_FLUSHING = 0 ∧
  (s.frozen (s.reqArea p) = false ∨ s.aq.freezes.at (s.reqArea p) = none ∨ s.aq.freezes.at (s.reqArea p) = some (s.mbxKey p)) :=
  ⟨{ (((State.reset.set .MBX_INFO_AQSIA_UP 1).set (.MBX_STAT_STATE 0) 2).set (.MBX_LATCH_CMD 0) 0x0702) with aq := { running := [(0, [])], sessions := [{ id := 0, gen := 0 }] } },
    0, by decide +kernel⟩

theorem test_meets_EventsAreServed_3 : ∃ (s : State) (p : Nat) (g : Nat × Nat), s.Runs p 0x0702 ∧ s.reqArea p < 10 ∧
  s.frozen (s.reqArea p) = true ∧ s.aq.freezes.at (s.reqArea p) = some g ∧ g ≠ s.mbxKey p :=
  ⟨{ ((((State.reset.set .MBX_INFO_AQSIA_UP 1).set (.MBX_STAT_STATE 0) 2).set (.MBX_LATCH_CMD 0) 0x0702).set .PEAT_FRZ_AREA 1) with aq := { running := [(0, [])], freezes := [(0, some (3, 9))] } },
    0, (3, 9), by decide +kernel⟩

theorem test_meets_EventsAreServed_4 : ∃ (s : State) (p : Nat) (all : List Byte), s.Runs p 0x0703 ∧
  (s.peat.areas.at (s.reqArea p)).served (s.reqArea p) = all :=
  ⟨{ (((State.reset.set .MBX_INFO_AQSIA_UP 1).set (.MBX_STAT_STATE 0) 2).set (.MBX_LATCH_CMD 0) 0x0703) with aq := { running := [(0, [])] } },
    0, (Tab.at ([] : Tab Area) 0).served 0, by decide +kernel⟩

theorem test_meets_EventsAreServed_5 : ∃ (s : State) (p : Nat), s.Runs p 0x0704 ∧ s.reqArea p < 10 :=
  ⟨{ (((State.reset.set .MBX_INFO_AQSIA_UP 1).set (.MBX_STAT_STATE 0) 2).set (.MBX_LATCH_CMD 0) 0x0704) with aq := { running := [(0, [])] } },
    0, by decide +kernel⟩

theorem test_meets_EventsAreServed_6 : ∃ (s : State) (p : Nat) (c : BitVec 256), s.Runs p 0x0705 ∧
  (s.aq.runs.at p).challenge = some c :=
  ⟨{ (((State.reset.set .MBX_INFO_AQSIA_UP 1).set (.MBX_STAT_STATE 0) 2).set (.MBX_LATCH_CMD 0) 0x0705) with aq := { running := [(0, [])], runs := [(0, { challenge := some 7 })] } },
    0, 7, by decide +kernel⟩

theorem test_meets_EventsAreServed_7 : ∃ (s : State) (p : Nat) (c : BitVec 256), s.Runs p 0x0705 ∧
  (s.aq.runs.at p).challenge = some c :=
  ⟨{ (((State.reset.set .MBX_INFO_AQSIA_UP 1).set (.MBX_STAT_STATE 0) 2).set (.MBX_LATCH_CMD 0) 0x0705) with aq := { running := [(0, [])], runs := [(0, { challenge := some 7 })] } },
    0, 7, by decide +kernel⟩

theorem test_meets_EventsAreServed_8 : ∃ (s : State) (p : Nat), s.Runs p 0x0706 ∧ (s.aq.runs.at p).phase = 0 :=
  ⟨{ (((State.reset.set .MBX_INFO_AQSIA_UP 1).set (.MBX_STAT_STATE 0) 2).set (.MBX_LATCH_CMD 0) 0x0706) with aq := { running := [(0, [])] } },
    0, by decide +kernel⟩

theorem test_meets_EventsAreServed_9 : ∃ (s : State) (p : Nat), s.Runs p 0x0706 ∧ (s.aq.runs.at p).phase = 1 ∧
  s.get .PEAT_STATUS_FLUSHING = 0 :=
  ⟨{ (((State.reset.set .MBX_INFO_AQSIA_UP 1).set (.MBX_STAT_STATE 0) 2).set (.MBX_LATCH_CMD 0) 0x0706) with aq := { running := [(0, [])], runs := [(0, { phase := 1 })] } },
    0, by decide +kernel⟩

theorem test_meets_EventsAreServed_10 : ∃ (s : State) (p : Nat), s.Runs p 0x0706 ∧ (s.aq.runs.at p).phase = 1 ∧
  s.get .PEAT_STATUS_FLUSHING = 1 :=
  ⟨{ ((((State.reset.set .MBX_INFO_AQSIA_UP 1).set (.MBX_STAT_STATE 0) 2).set (.MBX_LATCH_CMD 0) 0x0706).set .PEAT_STATUS_FLUSHING 1) with aq := { running := [(0, [])], runs := [(0, { phase := 1 })] } },
    0, by decide +kernel⟩

theorem test_meets_TelemetryAndFaultsAreServed_1 : ∃ (s : State) (p : Nat), s.Runs p 0x0901 :=
  ⟨{ (((State.reset.set .MBX_INFO_AQSIA_UP 1).set (.MBX_STAT_STATE 0) 2).set (.MBX_LATCH_CMD 0) 0x0901) with aq := { running := [(0, [])] } },
    0, by decide +kernel⟩

theorem test_meets_TelemetryAndFaultsAreServed_2 : ∃ (s : State) (p : Nat), s.Runs p 0x0902 :=
  ⟨{ (((State.reset.set .MBX_INFO_AQSIA_UP 1).set (.MBX_STAT_STATE 0) 2).set (.MBX_LATCH_CMD 0) 0x0902) with aq := { running := [(0, [])] } },
    0, by decide +kernel⟩

theorem test_meets_TelemetryAndFaultsAreServed_3 : ∃ (s : State) (p : Nat) (k : Nat), s.Runs p 0x0903 ∧ s.req p 16 1 = k :=
  ⟨{ (((State.reset.set .MBX_INFO_AQSIA_UP 1).set (.MBX_STAT_STATE 0) 2).set (.MBX_LATCH_CMD 0) 0x0903) with aq := { running := [(0, [])] } },
    0, 0, by decide +kernel⟩

theorem test_meets_TelemetryAndFaultsAreServed_4 : ∃ (s : State) (p : Nat), s.Runs p 0x0904 :=
  ⟨{ (((State.reset.set .MBX_INFO_AQSIA_UP 1).set (.MBX_STAT_STATE 0) 2).set (.MBX_LATCH_CMD 0) 0x0904) with aq := { running := [(0, [])] } },
    0, by decide +kernel⟩

theorem test_meets_TelemetryAndFaultsAreServed_5 : ∃ (s : State) (p : Nat) (n : Nat), s.Runs p 0x0A01 ∧
  n = min 14 (s.get .LEV_HIST_STATUS_COUNT - s.req p 16 1) :=
  ⟨{ (((State.reset.set .MBX_INFO_AQSIA_UP 1).set (.MBX_STAT_STATE 0) 2).set (.MBX_LATCH_CMD 0) 0x0A01) with aq := { running := [(0, [])] } },
    0, 0, by decide +kernel⟩

theorem test_meets_TelemetryAndFaultsAreServed_6 : ∃ (s : State) (p : Nat) (r : Nat), s.Runs p 0x0A02 ∧
  r = (if s.req p 16 2 / 256 % 32 ∈ [6, 7, 11,
  12] then s.req p 18 1 % 2 ^ 5 else s.req p 18 1 % 2 ^ 2 + s.req p 18 1 / 2 ^ 3 % 2 ^ 2 * 2 ^ 3) :=
  ⟨{ (((State.reset.set .MBX_INFO_AQSIA_UP 1).set (.MBX_STAT_STATE 0) 2).set (.MBX_LATCH_CMD 0) 0x0A02) with aq := { running := [(0, [])] } },
    0, 0, by decide +kernel⟩

theorem test_meets_TelemetryAndFaultsAreServed_7 : ∃ (s : State) (p : Nat) (x : SourceRow), s.Runs p 0x0A03 ∧
  s.get .LEV_STATUS_FACTORY = 1 ∧ sourceRow (s.req p 16 2) = some x ∧ 0 < x.instances ∧ s.req p 18 1 ≠ 0 :=
  ⟨{ (((((State.reset.set .MBX_INFO_AQSIA_UP 1).set (.MBX_STAT_STATE 0) 2).set (.MBX_LATCH_CMD 0) 0x0A03).set (.MBX_REQ_DATA 0 4) 65793).set .LEV_STATUS_FACTORY 1) with aq := { running := [(0, [])] } },
    0, (sourceRow 0x0101).get (by decide), by decide +kernel⟩

theorem test_meets_TelemetryAndFaultsAreServed_8 : ∃ (s : State) (p : Nat), s.Runs p 0x0A04 ∧ s.req p 16 2 = 0xFFFF :=
  ⟨{ ((((State.reset.set .MBX_INFO_AQSIA_UP 1).set (.MBX_STAT_STATE 0) 2).set (.MBX_LATCH_CMD 0) 0x0A04).set (.MBX_REQ_DATA 0 4) 65535) with aq := { running := [(0, [])] } },
    0, by decide +kernel⟩

theorem test_meets_TelemetryAndFaultsAreServed_9 : ∃ (s : State) (p : Nat) (x : SourceRow), s.Runs p 0x0A04 ∧
  sourceRow (s.req p 16 2) = some x :=
  ⟨{ ((((State.reset.set .MBX_INFO_AQSIA_UP 1).set (.MBX_STAT_STATE 0) 2).set (.MBX_LATCH_CMD 0) 0x0A04).set (.MBX_REQ_DATA 0 4) 257) with aq := { running := [(0, [])] } },
    0, (sourceRow 0x0101).get (by decide), by decide +kernel⟩

theorem test_meets_AttestationIsServed_1 : ∃ (s : State) (p : Nat), s.Runs p 0x0B01 :=
  ⟨{ (((State.reset.set .MBX_INFO_AQSIA_UP 1).set (.MBX_STAT_STATE 0) 2).set (.MBX_LATCH_CMD 0) 0x0B01) with aq := { running := [(0, [])] } },
    0, by decide +kernel⟩

theorem test_meets_AttestationIsServed_2 : ∃ (s : State) (p : Nat) (body : List Byte), s.Runs p 0x0B02 ∧
  body = leBytes 2 (s.req p 48 2) ++ ((List.range 16).filter (fun r => s.req p 48 2 / 2 ^ r % 2 == 1)).flatMap s.mr ++
  s.reqBytes p 16 32 :=
  ⟨{ (((State.reset.set .MBX_INFO_AQSIA_UP 1).set (.MBX_STAT_STATE 0) 2).set (.MBX_LATCH_CMD 0) 0x0B02) with aq := { running := [(0, [])] } },
    0, List.replicate 34 0, by decide +kernel⟩

theorem test_meets_AttestationIsServed_3 : ∃ (s : State) (p : Nat), s.Runs p 0x0B03 :=
  ⟨{ (((State.reset.set .MBX_INFO_AQSIA_UP 1).set (.MBX_STAT_STATE 0) 2).set (.MBX_LATCH_CMD 0) 0x0B03) with aq := { running := [(0, [])] } },
    0, by decide +kernel⟩

theorem test_meets_AttestationIsServed_4 : ∃ (s : State) (p : Nat), s.Runs p 0x0B04 :=
  ⟨{ (((State.reset.set .MBX_INFO_AQSIA_UP 1).set (.MBX_STAT_STATE 0) 2).set (.MBX_LATCH_CMD 0) 0x0B04) with aq := { running := [(0, [])] } },
    0, by decide +kernel⟩

theorem test_meets_AttestationIsServed_5 : ∃ (s : State) (p : Nat) (c : BitVec 256), s.Runs p 0x0B05 ∧
  (s.aq.runs.at p).challenge = some c :=
  ⟨{ (((State.reset.set .MBX_INFO_AQSIA_UP 1).set (.MBX_STAT_STATE 0) 2).set (.MBX_LATCH_CMD 0) 0x0B05) with aq := { running := [(0, [])], runs := [(0, { challenge := some 7 })] } },
    0, 7, by decide +kernel⟩

theorem test_meets_UpdatesAreServed_1 : ∃ (s : State) (p : Nat), s.Runs p 0x0801 ∧ (s.aq.runs.at p).phase = 0 :=
  ⟨{ (((State.reset.set .MBX_INFO_AQSIA_UP 1).set (.MBX_STAT_STATE 0) 2).set (.MBX_LATCH_CMD 0) 0x0801) with aq := { running := [(0, [])] } },
    0, by decide +kernel⟩

theorem test_meets_UpdatesAreServed_2 : ∃ (s : State) (p : Nat), s.Runs p 0x0801 ∧ (s.aq.runs.at p).phase = 1 ∧
  s.cancelAsked p = false :=
  ⟨{ (((State.reset.set .MBX_INFO_AQSIA_UP 1).set (.MBX_STAT_STATE 0) 2).set (.MBX_LATCH_CMD 0) 0x0801) with aq := { running := [(0, [])], runs := [(0, { phase := 1 })], sessions := [{ id := 0, gen := 0 }] } },
    0, by decide +kernel⟩

theorem test_meets_UpdatesAreServed_3 : ∃ (s : State) (p : Nat), s.Runs p 0x0801 ∧ (s.aq.runs.at p).phase = 1 ∧
  s.cancelAsked p = false :=
  ⟨{ (((State.reset.set .MBX_INFO_AQSIA_UP 1).set (.MBX_STAT_STATE 0) 2).set (.MBX_LATCH_CMD 0) 0x0801) with aq := { running := [(0, [])], runs := [(0, { phase := 1 })], sessions := [{ id := 0, gen := 0 }] } },
    0, by decide +kernel⟩

theorem test_meets_UpdatesAreServed_4 : ∃ (s : State) (p : Nat), s.Runs p 0x0801 ∧ (s.aq.runs.at p).phase = 1 ∧
  s.cancelAsked p = true :=
  ⟨{ ((((State.reset.set .MBX_INFO_AQSIA_UP 1).set (.MBX_STAT_STATE 0) 2).set (.MBX_LATCH_CMD 0) 0x0801).set (.MBX_STAT_CANCEL_REQ 0) 1) with aq := { running := [(0, [])], runs := [(0, { phase := 1 })], sessions := [{ id := 0, gen := 0 }] } },
    0, by decide +kernel⟩

theorem test_meets_UpdatesAreServed_5 : ∃ (s : State) (p : Nat), s.Runs p 0x0802 :=
  ⟨{ (((State.reset.set .MBX_INFO_AQSIA_UP 1).set (.MBX_STAT_STATE 0) 2).set (.MBX_LATCH_CMD 0) 0x0802) with aq := { running := [(0, [])], sessions := [{ id := 0, gen := 0 }] } },
    0, by decide +kernel⟩

theorem test_meets_UpdatesAreServed_6 : ∃ (s : State) (p : Nat), s.Runs p 0x0802 :=
  ⟨{ (((State.reset.set .MBX_INFO_AQSIA_UP 1).set (.MBX_STAT_STATE 0) 2).set (.MBX_LATCH_CMD 0) 0x0802) with aq := { running := [(0, [])], sessions := [{ id := 0, gen := 0 }] } },
    0, by decide +kernel⟩

theorem test_meets_UpdatesAreServed_7 : ∃ (s : State) (p : Nat) (status : Nat) (part : Nat), s.Runs p 0x0803 ∧
  (s.aq.runs.at p).phase = 0 ∧ s.applyCheck = some (status, part) :=
  ⟨{ (((State.reset.set .MBX_INFO_AQSIA_UP 1).set (.MBX_STAT_STATE 0) 2).set (.MBX_LATCH_CMD 0) 0x0803) with aq := { running := [(0, [])] } },
    0, 0x0160, 0x0F, by decide +kernel⟩

theorem test_meets_UpdatesAreServed_8 : ∃ (s : State) (p : Nat), s.Runs p 0x0803 ∧ (s.aq.runs.at p).phase = 0 :=
  ⟨{ (((State.reset.set .MBX_INFO_AQSIA_UP 1).set (.MBX_STAT_STATE 0) 2).set (.MBX_LATCH_CMD 0) 0x0803) with aq := { running := [(0, [])] } },
    0, by decide +kernel⟩

theorem test_meets_UpdatesAreServed_9 : ∃ (s : State) (p : Nat) (q : Nat), s.Runs p 0x0803 ∧
  (s.aq.runs.at p).phase = (q + 1) ∧ q < 7 ∧ s.cancelAsked p = false :=
  ⟨{ (((State.reset.set .MBX_INFO_AQSIA_UP 1).set (.MBX_STAT_STATE 0) 2).set (.MBX_LATCH_CMD 0) 0x0803) with aq := { running := [(0, [])], runs := [(0, { phase := 1 })] } },
    0, 0, by decide +kernel⟩

theorem test_meets_UpdatesAreServed_10 : ∃ (s : State) (p : Nat) (q : Nat), s.Runs p 0x0803 ∧
  (s.aq.runs.at p).phase = (q + 1) ∧ q < 7 ∧ s.cancelAsked p = true :=
  ⟨{ ((((State.reset.set .MBX_INFO_AQSIA_UP 1).set (.MBX_STAT_STATE 0) 2).set (.MBX_LATCH_CMD 0) 0x0803).set (.MBX_STAT_CANCEL_REQ 0) 1) with aq := { running := [(0, [])], runs := [(0, { phase := 1 })] } },
    0, 0, by decide +kernel⟩

theorem test_meets_UpdatesAreServed_11 : ∃ (s : State) (p : Nat) (q : Nat), s.Runs p 0x0803 ∧
  (s.aq.runs.at p).phase = (q + 1) ∧ q < 7 ∧ s.cancelAsked p = false :=
  ⟨{ (((State.reset.set .MBX_INFO_AQSIA_UP 1).set (.MBX_STAT_STATE 0) 2).set (.MBX_LATCH_CMD 0) 0x0803) with aq := { running := [(0, [])], runs := [(0, { phase := 1 })] } },
    0, 0, by decide +kernel⟩

theorem test_meets_UpdatesAreServed_12 : ∃ (s : State) (p : Nat), s.Runs p 0x0803 ∧ 8 ≤ (s.aq.runs.at p).phase :=
  ⟨{ (((State.reset.set .MBX_INFO_AQSIA_UP 1).set (.MBX_STAT_STATE 0) 2).set (.MBX_LATCH_CMD 0) 0x0803) with aq := { running := [(0, [])], runs := [(0, { phase := 8 })], sessions := [{ id := 0, gen := 0 }] } },
    0, by decide +kernel⟩

theorem test_meets_UpdatesAreServed_13 : ∃ (s : State) (p : Nat), s.Runs p 0x0804 :=
  ⟨{ (((State.reset.set .MBX_INFO_AQSIA_UP 1).set (.MBX_STAT_STATE 0) 2).set (.MBX_LATCH_CMD 0) 0x0804) with aq := { running := [(0, [])] } },
    0, by decide +kernel⟩

theorem test_meets_UpdatesAreServed_14 : ∃ (s : State) (p : Nat), s.Runs p 0x0804 :=
  ⟨{ (((State.reset.set .MBX_INFO_AQSIA_UP 1).set (.MBX_STAT_STATE 0) 2).set (.MBX_LATCH_CMD 0) 0x0804) with aq := { running := [(0, [])] } },
    0, by decide +kernel⟩

theorem test_meets_UpdatesAreServed_15 : ∃ (s : State) (p : Nat), s.Runs p 0x0805 :=
  ⟨{ (((State.reset.set .MBX_INFO_AQSIA_UP 1).set (.MBX_STAT_STATE 0) 2).set (.MBX_LATCH_CMD 0) 0x0805) with aq := { running := [(0, [])] } },
    0, by decide +kernel⟩

theorem test_meets_UpdatesAreServed_16 : ∃ (s : State) (p : Nat), s.Runs p 0x0806 ∧ s.dyke.owner = some (s.mbxKey p) ∧
  s.dyke.applied = false :=
  ⟨{ (((State.reset.set .MBX_INFO_AQSIA_UP 1).set (.MBX_STAT_STATE 0) 2).set (.MBX_LATCH_CMD 0) 0x0806) with aq := { running := [(0, [])] }, dyke := { owner := some (0, 0) } },
    0, by decide +kernel⟩

theorem test_meets_UpdatesAreServed_17 : ∃ (s : State) (p : Nat), s.Runs p 0x0806 ∧ s.dyke.owner = some (s.mbxKey p) ∧
  s.dyke.applied = true :=
  ⟨{ (((State.reset.set .MBX_INFO_AQSIA_UP 1).set (.MBX_STAT_STATE 0) 2).set (.MBX_LATCH_CMD 0) 0x0806) with aq := { running := [(0, [])] }, dyke := { owner := some (0, 0), applied := true } },
    0, by decide +kernel⟩

theorem test_meets_UpdatesAreServed_18 : ∃ (s : State) (p : Nat), s.Runs p 0x0806 ∧ s.dyke.owner ≠ some (s.mbxKey p) :=
  ⟨{ (((State.reset.set .MBX_INFO_AQSIA_UP 1).set (.MBX_STAT_STATE 0) 2).set (.MBX_LATCH_CMD 0) 0x0806) with aq := { running := [(0, [])] } },
    0, by decide +kernel⟩

theorem test_meets_UpdatesAreServed_19 : ∃ (s : State) (p : Nat) (c : Nat), s.Runs p 0x0807 ∧ s.nextFuse = some c ∧
  s.get (.DYKE_FLOOR_COUNT c) < 64 :=
  ⟨{ (((State.reset.set .MBX_INFO_AQSIA_UP 1).set (.MBX_STAT_STATE 0) 2).set (.MBX_LATCH_CMD 0) 0x0807) with aq := { running := [(0, [])] }, dyke := { slots := [(0, { manifest := [0, 0, 0, 0, 0, 0, 0, 0, 3] })] } },
    0, 7, by decide +kernel⟩

theorem test_meets_UpdatesAreServed_20 : ∃ (s : State) (p : Nat), s.Runs p 0x0807 ∧ s.nextFuse = none :=
  ⟨{ (((State.reset.set .MBX_INFO_AQSIA_UP 1).set (.MBX_STAT_STATE 0) 2).set (.MBX_LATCH_CMD 0) 0x0807) with aq := { running := [(0, [])] } },
    0, by decide +kernel⟩

theorem test_meets_BootReachesReady_1 : ∃ (s : State), s.weir.powered = true ∧ s.dyke.stuck = false ∧ s.mireRuns = false ∧
  s.get .DYKE_STATUS_STAGE = 0 :=
  ⟨{ State.reset with weir := { powered := true } }, by decide +kernel⟩

theorem test_meets_BootReachesReady_2 : ∃ (s : State) (found : BootFound), s.weir.powered = true ∧ s.dyke.stuck = false ∧
  s.mireRuns = false ∧ s.get .DYKE_STATUS_STAGE = 0 ∧ found.otpFatal = true :=
  ⟨{ State.reset with weir := { powered := true } }, { otpFatal := true }, by decide +kernel⟩

theorem test_meets_BootReachesReady_3 : ∃ (s : State) (found : BootFound), s.weir.powered = true ∧ s.dyke.stuck = false ∧
  s.mireRuns = false ∧ s.get .DYKE_STATUS_STAGE = 0 ∧ found.otpFatal = false ∧ s.get .DYKE_STATUS_STRAP = 0 ∧
  s.get .DYKE_STATUS_LIFECYCLE = 0 :=
  ⟨{ State.reset with weir := { powered := true } }, {}, by decide +kernel⟩

theorem test_meets_BootReachesReady_4 : ∃ (s : State), s.warmBusy = false ∧
  (s.weir.powered = false ∨ s.dyke.stuck = true ∨ s.mireRuns = true ∨ s.get .DYKE_STATUS_STAGE ≠ 0) :=
  ⟨State.reset, by decide +kernel⟩

theorem test_meets_BootReachesReady_5 : ∃ (s : State), s.mireActs = true ∧ s.aqsiaUp = false ∧ s.get .DYKE_STATUS_STAGE = 2 :=
  ⟨{ (State.reset.set .DYKE_STATUS_STAGE 2) with mireRuns := true }, by decide +kernel⟩

theorem test_meets_BootReachesReady_6 : ∃ (s : State),
  (s.mireActs = false ∨ s.aqsiaUp = true ∨ s.get .DYKE_STATUS_STAGE ≠ 2) :=
  ⟨State.reset, by decide +kernel⟩

theorem test_meets_BootReachesReady_7 : ∃ (s : State), s.aqsiaActs = true ∧ s.dyke.hostSeen = true ∧
  s.dyke.completed = false ∧ s.get .DYKE_BOOT_TRIAL = 1 ∧ s.lev.resetReq = none :=
  ⟨{ ((State.reset.set .MBX_INFO_AQSIA_UP 1).set .DYKE_BOOT_TRIAL 1) with dyke := { hostSeen := true } }, by decide +kernel⟩

theorem test_meets_BootReachesReady_8 : ∃ (s : State), s.aqsiaActs = true ∧ s.dyke.hostSeen = true ∧
  s.dyke.completed = false ∧ s.get .DYKE_BOOT_TRIAL = 0 ∧ s.enrolled = false ∧ s.lev.resetReq = none :=
  ⟨{ (State.reset.set .MBX_INFO_AQSIA_UP 1) with dyke := { hostSeen := true } }, by decide +kernel⟩

theorem test_meets_BootReachesReady_9 : ∃ (s : State),
  (s.aqsiaActs = false ∨ s.dyke.hostSeen = false ∨ s.dyke.completed = true ∨ (s.get .DYKE_BOOT_TRIAL = 0 ∧
  s.enrolled = true)) :=
  ⟨State.reset, by decide +kernel⟩

theorem test_meets_BootReachesReady_10 : ∃ (s : State), 2 ≤ s.get .DYKE_STATUS_STAGE ∧ s.get .DYKE_BOOT_TRIAL = 1 ∧
  s.dyke.completed = false ∧ s.lev.resetReq = none :=
  ⟨((State.reset.set .DYKE_STATUS_STAGE 3).set .DYKE_BOOT_TRIAL 1), by decide +kernel⟩

theorem test_meets_BootReachesReady_11 : ∃ (s : State),
  (s.get .DYKE_STATUS_STAGE < 2 ∨ s.get .DYKE_BOOT_TRIAL = 0 ∨ s.dyke.completed = true) :=
  ⟨State.reset, by decide +kernel⟩

theorem test_meets_BootReachesReady_12 : ∃ (s : State), s.aqsiaActs = true ∧ s.dyke.recorded = false :=
  ⟨(State.reset.set .MBX_INFO_AQSIA_UP 1), by decide +kernel⟩

theorem test_meets_BootReachesReady_13 : ∃ (s : State), (s.aqsiaActs = false ∨ s.dyke.recorded = true) :=
  ⟨State.reset, by decide +kernel⟩

theorem test_meets_BootReachesReady_14 : ∃ (s : State) (reg : Nat), 10 ≤ reg ∧ reg < 16 ∧ s.gated 0x4C000020 = false :=
  ⟨State.reset, 10, by decide +kernel⟩

theorem test_meets_BootReachesReady_15 : ∃ (s : State) (reg : Nat), reg < 10 ∧ s.gated 0x4C000020 = false :=
  ⟨State.reset, 9, by decide +kernel⟩

theorem test_meets_BootReachesReady_16 : ∃ (s : State), s.gated 0x4C000020 = true :=
  ⟨(State.reset.set (.TIDE_CG_EN_EN 3) 0), by decide +kernel⟩

theorem test_meets_BootReachesReady_17 : ∃ (core : Nat), core < 8 :=
  ⟨7, by decide +kernel⟩

theorem test_meets_BootReachesReady_18 : ∃ (s : State), s.aqsiaActs = true ∧ s.aq.starting = true ∧
  s.get .MBX_START_STEP = 6 ∧ s.get .WEIR_STATUS_CHOP_FAULT = 0 ∧ s.get .WEIR_STATUS_CHOP_TESTED = 1 :=
  ⟨{ (((State.reset.set .MBX_INFO_AQSIA_UP 1).set .MBX_START_STEP 6).set .WEIR_STATUS_CHOP_TESTED 1) with aq := { starting := true } },
    by decide +kernel⟩

theorem test_meets_BootReachesReady_19 : ∃ (s : State), s.aqsiaActs = true ∧ s.aq.starting = true ∧
  s.get .MBX_START_STEP = 6 ∧ s.get .WEIR_STATUS_CHOP_FAULT = 0 ∧ s.get .WEIR_STATUS_CHOP_TESTED = 0 :=
  ⟨{ ((State.reset.set .MBX_INFO_AQSIA_UP 1).set .MBX_START_STEP 6) with aq := { starting := true } }, by decide +kernel⟩

theorem test_meets_BootReachesReady_20 : ∃ (s : State), s.aqsiaActs = true ∧ s.aq.starting = true ∧
  s.get .MBX_START_STEP = 6 ∧ s.get .WEIR_STATUS_CHOP_FAULT = 1 :=
  ⟨{ (((State.reset.set .MBX_INFO_AQSIA_UP 1).set .MBX_START_STEP 6).set .WEIR_STATUS_CHOP_FAULT 1) with aq := { starting := true } },
    by decide +kernel⟩

theorem test_meets_BootReachesReady_21 : ∃ (s : State), s.aqsiaActs = true ∧ s.aq.starting = true ∧
  s.get .MBX_START_STEP = 5 ∧ s.discovered = false :=
  ⟨{ ((State.reset.set .MBX_INFO_AQSIA_UP 1).set .MBX_START_STEP 5) with aq := { starting := true } }, by decide +kernel⟩

theorem test_meets_BootReachesReady_22 : ∃ (s : State),
  (s.aqsiaActs = false ∨ s.aq.starting = false ∨ s.get .MBX_START_STEP < 5 ∨ 8 < s.get .MBX_START_STEP) :=
  ⟨State.reset, by decide +kernel⟩

theorem test_meets_BootReachesReady_23 : ∃ (s : State) (k : Nat) (rest : List Nat), s.aqsiaActs = true ∧
  s.aq.starting = true ∧ s.get .MBX_START_STEP = 9 ∧ s.aq.loading = none ∧ s.aq.toLoad = k :: rest ∧ k < 4 :=
  ⟨{ ((State.reset.set .MBX_INFO_AQSIA_UP 1).set .MBX_START_STEP 9) with aq := { starting := true, toLoad := [2, 3] } }, 2,
    [3], by decide +kernel⟩

theorem test_meets_BootReachesReady_24 : ∃ (s : State), s.aqsiaActs = true ∧ s.aq.starting = true ∧
  s.get .MBX_START_STEP = 9 ∧ s.aq.loading = none ∧ s.aq.toLoad = [] ∧ (s.aq.again = [] ∨ s.aq.second = true) ∧
  s.allParked = true :=
  ⟨{ ((State.reset.set .MBX_INFO_AQSIA_UP 1).set .MBX_START_STEP 9) with aq := { starting := true } }, by decide +kernel⟩

theorem test_meets_BootReachesReady_25 : ∃ (s : State), s.aqsiaActs = true ∧ s.aq.starting = true ∧
  s.get .MBX_START_STEP = 9 ∧ s.aq.loading = none ∧ s.aq.toLoad = [] ∧ (s.aq.again = [] ∨ s.aq.second = true) ∧
  s.allParked = false ∧ s.aq.bandCheck = false :=
  ⟨{ (((State.reset.set .MBX_INFO_AQSIA_UP 1).set .MBX_START_STEP 9).set (.WTH_VCM_STATUS_PARKED 2) 0) with aq := { starting := true } },
    by decide +kernel⟩

theorem test_meets_BootReachesReady_26 : ∃ (s : State),
  (s.aqsiaActs = false ∨ s.aq.starting = false ∨ s.get .MBX_START_STEP < 7 ∨ 9 < s.get .MBX_START_STEP) :=
  ⟨State.reset, by decide +kernel⟩

theorem test_meets_BootReachesReady_27 : ∃ (s : State) (k : Nat), s.aqsiaActs = true ∧ s.aq.starting = true ∧
  s.get .MBX_START_STEP = 10 ∧ (∀ j < 4, j ≠ k → s.parkedSec j = true ∨ j ∈ s.aq.checked) :=
  ⟨{ ((State.reset.set .MBX_INFO_AQSIA_UP 1).set .MBX_START_STEP 10) with aq := { starting := true, checked := [0, 1, 2] } },
    3, by decide +kernel⟩

theorem test_meets_BootReachesReady_28 : ∃ (s : State) (k : Nat) (j : Nat), s.aqsiaActs = true ∧ s.aq.starting = true ∧
  s.get .MBX_START_STEP = 10 ∧ j < 4 ∧ j ≠ k ∧ s.parkedSec j = false ∧ j ∉ s.aq.checked :=
  ⟨{ (((State.reset.set .MBX_INFO_AQSIA_UP 1).set .MBX_START_STEP 10).set (.WTH_VCM_STATUS_PARKED 2) 0) with aq := { starting := true } },
    3, 2, by decide +kernel⟩

theorem test_meets_BootReachesReady_29 : ∃ (s : State),
  (s.aqsiaActs = false ∨ s.aq.starting = false ∨ s.get .MBX_START_STEP ≠ 10) :=
  ⟨State.reset, by decide +kernel⟩

theorem test_meets_RegistersAreAccessed_1 : ∃ (core : Nat) (addr : Nat), core < 8 ∧ fenMayStore addr = false :=
  ⟨7, 0x4C000000, by decide +kernel⟩

theorem test_meets_RegistersAreAccessed_2 : ∃ (core : Nat) (addr : Nat), core < 8 ∧ fenMayLoad addr = false :=
  ⟨7, 0x46000000, by decide +kernel⟩

theorem test_meets_RegistersAreAccessed_3 : ∃ (s : State) (who : Who) (addr : Nat) (width : Nat) (value : Option Word),
  (who = .mire ∨ (if value.isSome then fenMayStore addr else fenMayLoad addr) = true) ∧
  (width ≠ 4 ∨ addr % 4 ≠ 0 ∨ findReg addr = none ∨ s.gated addr = true) :=
  ⟨(State.reset.set (.TIDE_CG_EN_EN 2) 0), .mire, 0x41000820, 4, none, by decide +kernel⟩

theorem test_meets_RegistersAreAccessed_4 : ∃ (s : State) (who : Who) (addr : Nat) (r : RegRow) (ix : List Nat) (value : Word),
  (who = .mire ∨ fenMayStore addr = true) ∧ addr % 4 = 0 ∧ findReg addr = some (r, ix) ∧ s.gated addr = false ∧
  s.ack.turnedAway (decide (who ≠ .mire)) r.id ix value = none ∧ r.id ∉ actsOnStore :=
  ⟨State.reset, .mire, 0x41000820, ((findReg 0x41000820).get (by decide)).1, ((findReg 0x41000820).get (by decide)).2, 0,
    by decide +kernel⟩

theorem test_meets_RegistersAreAccessed_5 : ∃ (s : State) (who : Who) (addr : Nat) (r : RegRow) (ix : List Nat) (value : Word) (u : State),
  (who = .mire ∨ fenMayStore addr = true) ∧ addr % 4 = 0 ∧ findReg addr = some (r, ix) ∧ s.gated addr = false ∧
  s.ack.turnedAway (decide (who ≠ .mire)) r.id ix value = some u :=
  ⟨State.reset, (.fen 0), 0x4B000004, ((findReg 0x4B000004).get (by decide)).1, ((findReg 0x4B000004).get (by decide)).2, 0,
    (State.reset.ack.set .LEV_STATUS_WR_DENY 1), by decide +kernel⟩

theorem test_meets_RegistersAreAccessed_6 : ∃ (s : State) (who : Who) (addr : Nat) (r : RegRow) (ix : List Nat) (value : Word),
  (who = .mire ∨ fenMayStore addr = true) ∧ addr % 4 = 0 ∧ findReg addr = some (r, ix) ∧ s.gated addr = false ∧
  s.ack.turnedAway (decide (who ≠ .mire)) r.id ix value = none ∧ r.id ∈ actsOnStore :=
  ⟨State.reset, .mire, 0x4C000040, ((findReg 0x4C000040).get (by decide)).1, ((findReg 0x4C000040).get (by decide)).2, 0,
    by decide +kernel⟩

theorem test_meets_RegistersAreAccessed_7 : ∃ (s : State) (who : Who) (addr : Nat) (r : RegRow) (ix : List Nat),
  (who = .mire ∨ fenMayLoad addr = true) ∧ addr % 4 = 0 ∧ findReg addr = some (r, ix) ∧ s.gated addr = false ∧
  r.id ∉ actsOnLoad :=
  ⟨State.reset, .mire, 0x41000820, ((findReg 0x41000820).get (by decide)).1, ((findReg 0x41000820).get (by decide)).2,
    by decide +kernel⟩

theorem test_meets_RegistersAreAccessed_8 : ∃ (s : State), s.gated 0x41000820 = false :=
  ⟨State.reset, by decide +kernel⟩

theorem test_meets_RegistersAreAccessed_9 : ∃ (s : State), s.gated 0x41000440 = false :=
  ⟨State.reset, by decide +kernel⟩

theorem test_meets_StepRunsTheFront : ∃ s : State, s.pending = [] :=
  ⟨State.reset, rfl⟩

 theorem test_meets_EveryStepStaysSound : ∃ s : State, s.Sound :=
  ⟨State.reset, by decide⟩

theorem test_meets_DropsAreRecorded : ∃ (s : State) (n cause : Nat), n < 8 ∧ (s.seq n).wg = true ∧ 2 ≤ cause ∧ cause ≤ 8 :=
  ⟨{ State.reset with seqs := [(7, { wg := true })] }, 7, 8, by decide⟩

theorem test_meets_LinesHaveOnePlace : ∃ a b : Nat, a < 2 ^ 40 ∧ b < 2 ^ 40 ∧ a / 2 ^ 20 % 2 ^ 20 = b / 2 ^ 20 % 2 ^ 20 :=
  ⟨2 ^ 40 - 1, 2 ^ 40 - 64, by decide⟩
end

section
/-! THE WRITE PATH (08). What a drop of a raised write gate records (R195, R203), and what it does to the stream's channel: the pair goes idle
(R189), so the bits sent under the gate are gone. -/

namespace Sys2Proof.Machine

variable (s : State) (n cause : Nat)

/-- The write gate of stream n falls: the fragment ends, and the pair is idle (R189). -/
def State.lowerWg : State :=
  ((s.endFragment n id).updSeq n (fun q => { q with wg := false, vgFrom := 0 })).updChan n (fun c => { c with wd := [] })

/-- What Sedge records of a drop by `cause` (R195, R203). -/
def State.recordDrop : State :=
  let s := (s.set (.SDG_WR_STATUS_WG n) 0).set (.SDG_WR_STATUS_CAUSE n) cause
  let seen := s.get .SDG_WF_STATUS_CAUSE_SEEN
  let s := (s.set (.SDG_WR_DROP_MANG n) s.mang.toNat).incSat (.SDG_WR_STATUS_DROPS n)
  s.set .SDG_WF_STATUS_CAUSE_SEEN (seen ||| 2 ^ (cause - 2))

variable {s n cause}

/-- A raised gate that drops by a cause of 2 to 8 falls, and the drop is recorded. -/
theorem State.dropWg_of_raised (hg : (s.seq n).wg = true) (h2 : 2 ≤ cause) (h8 : cause ≤ 8) :
    s.dropWg n cause = (s.lowerWg n).recordDrop n cause := by
  simp [State.dropWg, State.when, hg, h2, h8, State.lowerWg, State.recordDrop]

/-! ### The gate falls -/

@[simp] theorem State.endFragment_regs (f : VfyEntry → VfyEntry) : (s.endFragment n f).regs = s.regs := by
  unfold State.endFragment
  extract_lets q
  split
  · exact State.updChan_regs s n _
  · rfl

@[simp] theorem State.lowerWg_wg : ((s.lowerWg n).seq n).wg = false := by
  simp [State.lowerWg, State.seq, Tab.upd]

@[simp] theorem State.lowerWg_wd : ((s.lowerWg n).chan n).wd = [] := by
  simp [State.lowerWg, State.chan, Tab.upd]

theorem State.lowerWg_frame : Frame [.seqs, .chans] [] s (s.lowerWg n) :=
  State.updChan_frame (parts_in rfl) (State.updSeq_frame (parts_in rfl) (State.endFragment_frame (parts_in rfl) (Frame.refl _ _ s)))

@[simp] theorem State.lowerWg_regs : (s.lowerWg n).regs = s.regs := by simp [State.lowerWg]

@[simp] theorem State.lowerWg_get (g : Fld) : (s.lowerWg n).get g = s.get g := State.get_of_regs State.lowerWg_regs g

@[simp] theorem State.lowerWg_mang : (s.lowerWg n).mang = s.mang := State.regAt_of_regs State.lowerWg_regs _

/-! ### The drop is recorded -/

@[simp] theorem State.recordDrop_seqs : (s.recordDrop n cause).seqs = s.seqs := rfl

@[simp] theorem State.recordDrop_chans : (s.recordDrop n cause).chans = s.chans := rfl

theorem State.recordDrop_dropMang : (s.recordDrop n cause).get (.SDG_WR_DROP_MANG n) = s.mang.toNat := by
  unfold State.recordDrop State.incSat State.mang
  rw [State.get_set_ne _ _ (by simp only; omega), State.get_set_ne _ _ (by simp only; omega), State.get_set_self _ _ _ (by simp),
    State.regAt_set_ne _ _ (by simp only; omega), State.regAt_set_ne _ _ (by simp only; omega)]
  exact Nat.mod_eq_of_lt (BitVec.isLt _)

theorem State.recordDrop_drops :
    (s.recordDrop n cause).get (.SDG_WR_STATUS_DROPS n) = min (s.get (.SDG_WR_STATUS_DROPS n) + 1) 0xFFFF := by
  unfold State.recordDrop State.incSat
  rw [State.get_set_ne _ _ (by simp only; omega), State.get_set_self _ _ _ (by simp), State.get_set_ne _ _ (by simp only; omega),
    State.get_set_disj _ _ (by rfl) (by simp), State.get_set_disj _ _ (by rfl) (by simp)]
  exact Nat.mod_eq_of_lt (by simp only; omega)

theorem State.recordDrop_causeSeen : (s.recordDrop n cause).get .SDG_WF_STATUS_CAUSE_SEEN =
    (s.get .SDG_WF_STATUS_CAUSE_SEEN ||| 2 ^ (cause - 2)) % 2 ^ 7 := by
  unfold State.recordDrop
  rw [State.get_set_self _ _ _ (by simp), State.get_set_ne _ _ (by simp only; omega), State.get_set_ne _ _ (by simp only; omega)]

/-- Cause i stands at bit i - 2 of CAUSE_SEEN (R203). -/
theorem State.recordDrop_causeBit (h2 : 2 ≤ cause) {i : Nat} (hi : 2 ≤ i) (hi8 : i ≤ 8) :
    (s.recordDrop n cause).get .SDG_WF_STATUS_CAUSE_SEEN / 2 ^ (i - 2) % 2 =
      if i = cause then 1 else s.get .SDG_WF_STATUS_CAUSE_SEEN / 2 ^ (i - 2) % 2 := by
  have hlow : i - 2 < 7 := by omega
  rw [← Nat.toNat_testBit, ← Nat.toNat_testBit, State.recordDrop_causeSeen, Nat.testBit_mod_two_pow, Nat.testBit_or,
    Nat.testBit_two_pow]
  by_cases h : i = cause
  · subst h
    simp [hlow]
  · have hne : cause - 2 ≠ i - 2 := by omega
    simp [hlow, hne, h]

/-- The register fields of a drop of stream n's write gate. -/
abbrev dropRegs (n : Nat) : List Regs :=
  [.fld (.SDG_WR_STATUS_WG n), .fld (.SDG_WR_STATUS_CAUSE n), .fld (.SDG_WR_DROP_MANG n), .fld (.SDG_WR_STATUS_DROPS n),
    .fld .SDG_WF_STATUS_CAUSE_SEEN]

theorem State.recordDrop_frame : Frame [] (dropRegs n) s (s.recordDrop n cause) := by
  have covers {f : Fld} (hf : .fld f ∈ dropRegs n) : Covers (dropRegs n) f := fun _ hg => hg _ hf
  exact State.set_frame (covers (by simp)) (State.incSat_frame (covers (by simp)) (State.set_frame (covers (by simp))
    (State.set_frame (covers (by simp)) (State.set_frame (covers (by simp)) (Frame.refl _ _ s)))))

/-! ### The drop -/

/-- Every clause of O59 holds once the frame admits the channels, which the pair's going idle changes (R189). -/
theorem State.dropWg_records (hg : (s.seq n).wg = true) (h2 : 2 ≤ cause) (h8 : cause ≤ 8) :
    ((s.dropWg n cause).seq n).wg = false ∧ (s.dropWg n cause).get (.SDG_WR_DROP_MANG n) = s.mang.toNat ∧
    (∀ i, 2 ≤ i → i ≤ 8 → (s.dropWg n cause).get .SDG_WF_STATUS_CAUSE_SEEN / 2 ^ (i - 2) % 2 =
      if i = cause then 1 else s.get .SDG_WF_STATUS_CAUSE_SEEN / 2 ^ (i - 2) % 2) ∧
    (s.dropWg n cause).get (.SDG_WR_STATUS_DROPS n) = min (s.get (.SDG_WR_STATUS_DROPS n) + 1) 0xFFFF ∧
    Frame [.seqs, .chans] (dropRegs n) s (s.dropWg n cause) := by
  rw [State.dropWg_of_raised hg h2 h8]
  refine ⟨State.lowerWg_wg (s := s), ?_, fun i hi hi8 => ?_, ?_, ?_⟩
  · rw [State.recordDrop_dropMang, State.lowerWg_mang]
  · rw [State.recordDrop_causeBit h2 hi hi8, State.lowerWg_get]
  · rw [State.recordDrop_drops, State.lowerWg_get]
  · exact (State.lowerWg_frame.mono (fun _ h => h) (by simp)).trans (State.recordDrop_frame.mono (by simp) (fun _ h => h))

/-- The pair is idle after a drop: no bit sent under the gate is left (R189). -/
theorem State.dropWg_wd (hg : (s.seq n).wg = true) (h2 : 2 ≤ cause) (h8 : cause ≤ 8) : ((s.dropWg n cause).chan n).wd = [] := by
  rw [State.dropWg_of_raised hg h2 h8]
  exact State.lowerWg_wd (s := s)

/-- A drop that leaves every channel alone is of a gate under which no bit was sent. -/
theorem State.wd_nil_of_dropWg_chans (hg : (s.seq n).wg = true) (h2 : 2 ≤ cause) (h8 : cause ≤ 8)
    (hc : (s.dropWg n cause).chans = s.chans) : (s.chan n).wd = [] := by
  have h := State.dropWg_wd hg h2 h8
  unfold State.chan at h ⊢
  rwa [hc] at h

/-- Stream 0 writes, and one bit has been sent under its gate. -/
def writingState : State := { State.reset with seqs := [(0, { wg := true })], chans := [(0, { wd := [(true, 0)] })] }

/-- Refutes O59: its frame keeps every channel, and a drop empties the record of the bits that the channel sent under the gate (R189). In
`writingState` one bit is sent when the gate drops by cause 2. -/
theorem not_dropsAreRecorded : ¬ Obligations.DropsAreRecorded := by
  unfold Obligations.DropsAreRecorded
  intro h
  have hg : (writingState.seq 0).wg = true := by decide
  obtain ⟨_, _, _, _, hframe⟩ := h writingState 0 2 (by decide) hg (by decide) (by decide)
  have hwd : (writingState.chan 0).wd = [] :=
    State.wd_nil_of_dropWg_chans hg (by decide) (by decide) (hframe.same .chans (by decide))
  exact absurd hwd (by decide)

end Sys2Proof.Machine
end

section
/-! THE FLUSH AFTER A COMMIT (13). Where no entry of the ledger is HELD or WRITING, POWER_FAIL_FLUSH has nothing to hand to a stream, so the
flush ends in the command that starts it (R321, R402). An entry whose header and run are committed becomes FLUSHED, and the next one of its
stream goes behind it in the band extent (R318, R485). -/

namespace Sys2Proof.Machine

variable {s : State}

/-- Every register may have changed: the register frame of a lemma that is about the other parts only. -/
theorem regsIn_all {A : List Regs} : RegsIn A [.all] := regs_all (fun _ h => h)

/-- A command that answers next state `t` completes within the frame of what it answers. -/
theorem completes_of_outFrame {W : List Part} {R : List Regs} {c : Instr} {t : State} {P : State → Prop}
    (hframe : OutFrame W R s (exec c s)) (hexec : exec c s = .next t) (hP : Frame W R s t → P t) :
    Completes c s (fun t => P t ∧ Frame W R s t) := by
  rw [hexec] at hframe
  exact ⟨t, hexec, hP hframe, hframe⟩

/-- What `f` keeps at every index, a loop of it keeps. -/
theorem State.forN_keeps {α : Type} (g : State → α) {f : Nat → State → State} (h : ∀ i t, g (f i t) = g t) (k : Nat) :
    g (s.forN k f) = g s := by
  unfold State.forN
  generalize List.range k = l
  induction l generalizing s with
  | nil => rfl
  | cons i l ih => exact ih.trans (h i s)

/-- A loop of what does nothing in `s` does nothing. -/
theorem State.forN_same {f : Nat → State → State} (h : ∀ i, f i s = s) (k : Nat) : s.forN k f = s := by
  unfold State.forN
  generalize List.range k = l
  induction l with
  | nil => rfl
  | cons i l ih => rw [List.foldl_cons, h i, ih]

/-! ### Nothing to flush -/

/-- No entry waits to be flushed, and no stream flushes one. -/
structure State.NothingToFlush (s : State) : Prop where
  queue : s.mq.flush = []
  stream : ∀ n, s.mq.flushing.at n = none

theorem State.flushNext_of_none {n : Nat} (h : s.mq.flushing.at n = none) : s.flushNext n = none := by
  simp [State.flushNext, h]

theorem State.flushPos_of_none {n : Nat} (h : s.mq.flushing.at n = none) : s.flushPos n = none := by
  simp [State.flushPos, State.flushNext_of_none h]

theorem State.flushCollect_of_none {n : Nat} (h : s.mq.flushing.at n = none) : s.flushCollect n = s := by
  simp [State.flushCollect, h]

/-- Where no operation runs, there is none to collect. -/
theorem State.flushCollect_of_noOp {n : Nat} {r : FlushRun} (h : s.mq.flushing.at n = some r) (hop : r.op = 0) :
    s.flushCollect n = s := by
  simp [State.flushCollect, h, hop]

theorem State.flushAbandon_of_none {n : Nat} (h : s.mq.flushing.at n = none) : s.flushAbandon n = s := by
  simp [State.flushAbandon, h]

theorem State.flushIssue_of_none {n : Nat} (h : s.mq.flushing.at n = none) : s.flushIssue n = s := by
  simp [State.flushIssue, State.flushNext_of_none h]

namespace State.NothingToFlush

variable (h : s.NothingToFlush)
include h

theorem flushSeek (k : Nat) : s.flushSeek k = s := by
  simp [State.flushSeek, State.flushPos_of_none (h.stream _)]

/-- With an empty queue no stream finds an entry to take. -/
theorem assignFlush : s.assignFlush = s :=
  State.forN_same (fun n => by simp [h.queue]) 8

theorem flushWork : s.flushWork = s := by
  have hcollect : s.forN 8 (fun n s => (s.flushCollect n).flushAbandon n) = s :=
    State.forN_same (fun n => by rw [State.flushCollect_of_none (h.stream n), State.flushAbandon_of_none (h.stream n)]) 8
  have hseek : s.forN 4 (fun k s => s.flushSeek k) = s := State.forN_same h.flushSeek 4
  have hissue : s.forN 8 (fun n s => s.flushIssue n) = s :=
    State.forN_same (fun n => State.flushIssue_of_none (h.stream n)) 8
  unfold State.flushWork
  rw [hcollect, h.assignFlush, hseek]
  exact hissue

theorem flushIdle : s.flushIdle = true := by
  simp [State.flushIdle, h.stream]

end State.NothingToFlush

/-! ### The flush starts -/

/-- The queue of entries is set up; the selection of the heads leaves it alone. -/
theorem State.startFlushing_mq : s.startFlushing.mq = { s.mq with flush := s.toFlush, flushing := [], full := [] } := by
  refine State.forN_keeps State.mq (fun n t => ?_) 8
  refine (State.when_frame (Frame.refl [.chans, .tus] [.all] t) (fun u hu => ?_)).same .mq (by decide)
  split
  · exact State.selectHead_frame (fun _ hp => hp) regsIn_all hu
  · exact hu

theorem State.startFlushing_sth : s.startFlushing.sth = s.sth :=
  (State.startFlushing_frame (fun _ hp => hp) regsIn_all (Frame.refl _ [.all] s)).same .sth (by decide)

theorem State.startFlushing_nothingToFlush (h : s.toFlush = []) : s.startFlushing.NothingToFlush where
  queue := by rw [State.startFlushing_mq, ← h]
  stream _ := by rw [State.startFlushing_mq]; rfl

/-! ### The flush ends -/

/-- With no deferred record nothing is written. -/
theorem State.writeDeferred_of_nil (h : s.sth.deferred = []) : s.writeDeferred = s := by
  have hsth : { s.sth with deferred := [] } = s.sth := by rw [← h]
  simp [State.writeDeferred, State.updSth, h, hsth]

/-- The flush is marked as ended, and no entry waits or is with a stream. -/
def State.clearFlush (s : State) : State :=
  (s.updSlu (fun u => { u with flushing := false })).updMq (fun m => { m with flush := [], flushing := [], flushEnded := true })

/-- The retracts of the sections, last in the end of the flush, leave the ledger, the queues and the fate log alone. -/
theorem State.endFlushing_frame_mirrored :
    Frame [.seqs, .chans, .withy] [.all] s.clearFlush.writeDeferred.mirrorFates s.endFlushing :=
  State.mwqSync_frame regsIn_all
    (State.forN_frame (Frame.refl _ _ _) (fun _ _ ht => State.startRetract_frame (fun _ hp => hp) regsIn_all ht))

theorem State.mirrored_frame_clearFlush : Frame [.sth] [.all] s.clearFlush s.clearFlush.writeDeferred.mirrorFates :=
  State.mirrorFates_frame (fun _ hp => hp) (State.writeDeferred_frame (fun _ hp => hp) regsIn_all (Frame.refl _ _ _))

theorem State.endFlushing_slu : s.endFlushing.slu = { s.slu with flushing := false } :=
  (State.endFlushing_frame_mirrored.same .slu (by decide)).trans (State.mirrored_frame_clearFlush.same .slu (by decide))

theorem State.endFlushing_mq : s.endFlushing.mq = { s.mq with flush := [], flushing := [], flushEnded := true } :=
  (State.endFlushing_frame_mirrored.same .mq (by decide)).trans (State.mirrored_frame_clearFlush.same .mq (by decide))

/-- The fate log is mirrored under the next sequence number (R437). -/
theorem State.endFlushing_mirror (h : s.sth.deferred = []) : s.endFlushing.sth.mirror =
    { seq := (s.sth.mirror.seq + 1) % 2 ^ 32, pcc := s.get .PEAT_PCC_COUNT, records := s.sth.fates } := by
  have hsth : s.endFlushing.sth = s.clearFlush.writeDeferred.mirrorFates.sth :=
    State.endFlushing_frame_mirrored.same .sth (by decide)
  rw [hsth, State.writeDeferred_of_nil (by simpa [State.clearFlush] using h)]
  rfl

/-- POWER_FAIL_FLUSH with nothing to flush ends the flush that it starts. -/
theorem exec_powerFailFlush_of_toFlush_nil (hpf : s.get .WEIR_STATUS_PF = 2) (hup : s.aqsiaActs = true)
    (hlate : s.weir.late = false) (hended : s.mq.flushEnded = false) (hdead : s.mq.flushDead = false)
    (hoff : s.slu.flushing = false) (hnone : s.toFlush = []) :
    exec .powerFailFlush s = .next s.startFlushing.endFlushing := by
  have hidle := State.startFlushing_nothingToFlush hnone
  have hcommitted : s.committed = true := by simp [State.committed, hpf]
  change execPowerFailFlush s = _
  simp [execPowerFailFlush, hcommitted, hup, hlate, hended, hdead, hoff, hidle.flushWork, hidle.flushIdle]

/-! ### An entry is flushed -/

/-- Entry `entry` of stream n is on the medium: its sectors are taken from the extent, the entry is FLUSHED, and free streams take the
next ones. -/
def State.entryFlushed (s : State) (n entry : Nat) : State :=
  ((((s.updMq (fun m => { m with bandAt := m.bandAt.put n (m.bandAt.at n + s.flushLen entry) })).flushPut n none).updEntry entry
    (fun e => { e with state := 5, marks := [] })).assignFlush).mwqSync

theorem exec_flushEntryDone_of_written {n entry : Nat} {r : FlushRun} (hpf : s.get .WEIR_STATUS_PF = 2)
    (hon : s.slu.flushing = true) (hrun : s.mq.flushing.at n = some r) (hentry : r.entry = entry) (hop : r.op = 0)
    (hdone : s.flushLen entry ≤ r.done) : exec (.flushEntryDone n entry) s = .next (s.entryFlushed n entry) := by
  have hcommitted : s.committed = true := by simp [State.committed, hpf]
  change execFlushEntryDone n entry s = _
  simp [execFlushEntryDone, hcommitted, hon, State.flushCollect_of_noOp hrun hop, hrun, hentry, hdone, State.entryFlushed]

theorem State.updEntry_slu (i : Nat) (f : LedgerEntry → LedgerEntry) :
    (s.updEntry i f).slu = { s.slu with ledger := s.slu.ledger.upd i f } :=
  (State.sluStatus_frame (W := []) regsIn_all (Frame.refl _ _ _)).same .slu (by decide)

theorem State.updEntry_mq (i : Nat) (f : LedgerEntry → LedgerEntry) : (s.updEntry i f).mq = s.mq :=
  (State.updEntry_frame (fun _ hp => hp) regsIn_all (Frame.refl _ [.all] s)).same .mq (by decide)

theorem State.mwqSync_slu : s.mwqSync.slu = s.slu :=
  (State.mwqSync_frame (W := []) regsIn_all (Frame.refl _ _ s)).same .slu (by decide)

theorem State.mwqSync_mq : s.mwqSync.mq = s.mq :=
  (State.mwqSync_frame (W := []) regsIn_all (Frame.refl _ _ s)).same .mq (by decide)

theorem State.assignFlush_slu : s.assignFlush.slu = s.slu :=
  (State.assignFlush_frame (fun _ hp => hp) (Frame.refl _ [] s)).same .slu (by decide)

/-- A stream that takes an entry starts where its extent stands. -/
theorem State.assignFlush_bandAt : s.assignFlush.mq.bandAt = s.mq.bandAt := by
  refine State.forN_keeps (fun t => t.mq.bandAt) (fun n t => ?_) 8
  split
  · split <;> rfl
  · rfl

theorem State.entryFlushed_slu (n entry : Nat) : (s.entryFlushed n entry).slu =
    { s.slu with ledger := s.slu.ledger.upd entry (fun e => { e with state := 5, marks := [] }) } := by
  rw [State.entryFlushed, State.mwqSync_slu, State.assignFlush_slu, State.updEntry_slu]
  rfl

theorem State.entryFlushed_bandAt (n entry : Nat) :
    (s.entryFlushed n entry).mq.bandAt = s.mq.bandAt.put n (s.mq.bandAt.at n + s.flushLen entry) := by
  rw [State.entryFlushed, State.mwqSync_mq, State.assignFlush_bandAt, State.updEntry_mq]
  rfl

/-- Settles O6: with nothing to flush the flush ends in the command that starts it; an entry that its stream has written is FLUSHED, and
the stream's place moves on by the entry's sectors. -/
theorem ledgerIsFlushed : Obligations.LedgerIsFlushed := by
  unfold Obligations.LedgerIsFlushed
  refine ⟨fun s hpf hup hlate hended hdead hoff hnone hdeferred => ?_, fun s n entry r hpf hon hrun hentry hop hdone => ?_⟩
  · have hmirror := State.endFlushing_mirror (s := s.startFlushing) (by rw [State.startFlushing_sth, hdeferred])
    refine completes_of_outFrame (execPowerFailFlush_frame (parts_in rfl) (fun _ hr => hr))
      (exec_powerFailFlush_of_toFlush_nil hpf hup hlate hended hdead hoff hnone) (fun hframe => ⟨?_, ?_, ?_, ?_, ?_, ?_⟩)
    · rw [State.endFlushing_slu]
    · rw [State.endFlushing_mq]
    · rw [State.endFlushing_mq]
    · rw [hmirror, State.startFlushing_sth]
    · rw [hmirror, State.startFlushing_sth]
    · exact (hframe.get (by decide)).trans hpf
  · refine completes_of_outFrame (execFlushEntryDone_frame (parts_in rfl) (fun _ hr => hr))
      (exec_flushEntryDone_of_written hpf hon hrun hentry hop hdone) (fun _ => ⟨?_, ?_, ?_⟩)
    · rw [State.entryFlushed_slu, Tab.at_upd_self]
    · rw [State.entryFlushed_slu, hon]
    · rw [State.entryFlushed_bandAt, Tab.at_put_self]

end Sys2Proof.Machine
end

section
/-! THE MAP CACHE'S INDEX (15). A line's set is A[19:6] xor a value that is fixed by the line's tag (R362): within one tag no two lines share a
set. -/

namespace Sys2Proof.Machine

variable (s : State) (line : Nat)

/-- What the hash adds to A[19:6]: a value of the tag A[39:20] alone, and nothing with CARR_CFG.HASH clear (R362). -/
def State.tagHash (tag : Nat) : Nat :=
  if s.get .CARR_CFG_HASH = 1 then tag % 2 ^ 14 ^^^ (tag / 2 ^ 14 % 64) <<< 8 else 0

theorem State.is_hash_iff : s.is .CARR_CFG_HASH = true ↔ s.get .CARR_CFG_HASH = 1 := by
  have hbit : s.get .CARR_CFG_HASH < 2 ^ 1 := s.get_lt .CARR_CFG_HASH
  simp only [State.is, bne_iff_ne]
  omega

theorem State.carrSet_eq_xor_tagHash : s.carrSet line = line % 2 ^ 14 ^^^ s.tagHash (line / 2 ^ 14) := by
  have htag : line * 64 / 2 ^ 20 = line / 2 ^ 14 := by omega
  have htop : line * 64 / 2 ^ 34 = line / 2 ^ 14 / 2 ^ 14 := by omega
  by_cases hhash : s.get .CARR_CFG_HASH = 1
  · simp only [State.carrSet, State.tagHash, s.is_hash_iff, hhash, if_true, htag, htop, Nat.shiftLeft_eq, Nat.xor_assoc]
  · simp [State.carrSet, State.tagHash, s.is_hash_iff, hhash]

theorem State.tagHash_lt (tag : Nat) : s.tagHash tag < 2 ^ 14 := by
  unfold State.tagHash
  split
  · exact Nat.xor_lt_two_pow (Nat.mod_lt _ (by decide)) (by rw [Nat.shiftLeft_eq]; omega)
  · decide

theorem State.carrSet_lt : s.carrSet line < 2 ^ 14 := by
  rw [State.carrSet_eq_xor_tagHash]
  exact Nat.xor_lt_two_pow (Nat.mod_lt _ (by decide)) (s.tagHash_lt _)

variable {s line}

/-- Lines of one tag have the hash of one tag, which cancels: A[19:6] is the same too. -/
theorem State.line_eq_of_carrSet_eq {other : Nat} (hset : s.carrSet line = s.carrSet other)
    (htag : line / 2 ^ 14 = other / 2 ^ 14) : line = other := by
  rw [State.carrSet_eq_xor_tagHash, State.carrSet_eq_xor_tagHash, htag] at hset
  have hlow : line % 2 ^ 14 = other % 2 ^ 14 := Nat.xor_left_injective hset
  omega

theorem State.carrSet_of_address (a : Nat) : s.carrSet (a / 64) = if s.get .CARR_CFG_HASH = 1 then
    a / 2 ^ 6 % 2 ^ 14 ^^^ a / 2 ^ 20 % 2 ^ 14 ^^^ (a / 2 ^ 34 % 2 ^ 6) <<< 8 else a / 2 ^ 6 % 2 ^ 14 := by
  have htag : a / 64 / 2 ^ 14 = a / 2 ^ 20 := Nat.div_div_eq_div_mul ..
  have htop : a / 2 ^ 20 / 2 ^ 14 = a / 2 ^ 34 := Nat.div_div_eq_div_mul ..
  rw [State.carrSet_eq_xor_tagHash, State.tagHash, htag, htop]
  split
  · exact (Nat.xor_assoc ..).symm
  · exact Nat.xor_zero _

/-- Below 2^40 the tag is all of the address above A[19]. -/
theorem tag_eq_of_lt {a : Nat} (ha : a < 2 ^ 40) : a / 2 ^ 20 % 2 ^ 20 = a / 64 / 2 ^ 14 := by omega

/-- Settles O60: the set is A[19:6] xor the hash of the tag, so with the tag known the set gives A[19:6] back. -/
theorem linesHaveOnePlace : Obligations.LinesHaveOnePlace := by
  unfold Obligations.LinesHaveOnePlace
  refine fun s a b ha hb => ⟨State.carrSet_of_address a, s.carrSet_lt _, fun hset htag => ?_⟩
  rw [tag_eq_of_lt ha, tag_eq_of_lt hb] at htag
  exact State.line_eq_of_carrSet_eq hset htag

end Sys2Proof.Machine
end

section
/-! SUPPLIES RISE (17). With power-on reset held, POWER_ON and a due WEIR_RETRY both run steps 2 to 6 of R397: what the start of the rails leaves
of Weir, of Withy and of the registers is said once, for good regulators and for a failed start. -/

namespace Sys2Proof.Machine

variable {s : State} {x : Straps}

/-- What a two-bit strap latches: 3 is latched as 0 (R493). -/
def strapCode (v : Nat) : Nat := if v % 4 = 3 then 0 else v % 4

theorem strapCode_mod (v : Nat) : strapCode v % 2 ^ 2 = strapCode v := by
  unfold strapCode
  split <;> omega

/-! ### The straps (R493) -/

theorem State.latchStraps_get (g : Fld) : (s.latchStraps x).get g = (((s.set .SLU_DRAM_CFG_SIZE (strapCode x.dramSize)).set
    .SLU_DRAM_CFG_RATE (strapCode x.dramRate)).set .DYKE_STATUS_STRAP x.factory.toNat).get g := rfl

theorem State.latchStraps_dramSize : (s.latchStraps x).get .SLU_DRAM_CFG_SIZE = strapCode x.dramSize := by
  rw [State.latchStraps_get, State.get_set_other _ _ (by decide), State.get_set_other _ _ (by decide),
    State.get_set_self _ _ _ (by decide)]
  exact strapCode_mod _

theorem State.latchStraps_dramRate : (s.latchStraps x).get .SLU_DRAM_CFG_RATE = strapCode x.dramRate := by
  rw [State.latchStraps_get, State.get_set_other _ _ (by decide), State.get_set_self _ _ _ (by decide)]
  exact strapCode_mod _

theorem State.latchStraps_strap : (s.latchStraps x).get .DYKE_STATUS_STRAP = x.factory.toNat := by
  rw [State.latchStraps_get, State.get_set_self _ _ _ (by decide)]
  cases x.factory <;> rfl

/-- The straps are latched in their own fields only. -/
theorem State.latchStraps_get_other {g : Fld} (h : ([.fld .SLU_DRAM_CFG_SIZE, .fld .SLU_DRAM_CFG_RATE,
    .fld .DYKE_STATUS_STRAP] : List Regs).all (fun r => r.apartB g) = true) : (s.latchStraps x).get g = s.get g :=
  (State.latchStraps_frame (fun _ hp => hp) (fun _ hr => hr) (Frame.refl _ _ s)).get h

/-! ### The start of the rails (R397) -/

/-- Every regulator and the board's are good, and power-on reset is released. -/
def State.railsUp (s : State) : State :=
  let s := { s with
    weir := { s.weir with iso := .diode, brdEn := true, retryDue := false, powered := true, testPending := true }
    withy := { s.withy with bridge := .off, dieOff := false } }
  ((s.set .WEIR_STATUS_ISO_OFF 0).set .WEIR_REG_STATUS_PG 15).set .WEIR_REG_STATUS_BRD_PG 1

theorem State.startRails_good_weir : (s.startRails true x).weir =
    { s.weir with iso := .diode, brdEn := true, retryDue := false, powered := true, testPending := true } := rfl

theorem State.startRails_good_bridge : (s.startRails true x).withy.bridge = .off := rfl

/-- With the rails up the straps are latched; CSW_STATUS.CAP, which follows the DRAM rate, comes last. -/
theorem State.startRails_good_get {g : Fld} (h : (Regs.fld .CSW_STATUS_CAP).apartB g = true) :
    (s.startRails true x).get g = (s.railsUp.latchStraps x).get g := by
  have hregs : (s.startRails true x).regs = (s.railsUp.latchStraps x).slotCap.regs := rfl
  rw [State.get_of_regs hregs, State.slotCap, State.get_set_other _ _ (Regs.apart_of_apartB h)]

theorem State.startRails_good_pg : (s.startRails true x).get .WEIR_REG_STATUS_PG = 15 := by
  rw [State.startRails_good_get (by decide), State.latchStraps_get_other (by decide), State.railsUp,
    State.get_set_other _ _ (by decide), State.get_set_self _ _ _ (by decide)]
  rfl

theorem State.startRails_good_brdPg : (s.startRails true x).get .WEIR_REG_STATUS_BRD_PG = 1 := by
  rw [State.startRails_good_get (by decide), State.latchStraps_get_other (by decide), State.railsUp,
    State.get_set_self _ _ _ (by decide)]
  rfl

theorem State.startRails_good_isoOff : (s.startRails true x).get .WEIR_STATUS_ISO_OFF = 0 := by
  rw [State.startRails_good_get (by decide), State.latchStraps_get_other (by decide), State.railsUp,
    State.get_set_other _ _ (by decide), State.get_set_other _ _ (by decide), State.get_set_self _ _ _ (by decide)]
  rfl

theorem State.startRails_good_dramSize : (s.startRails true x).get .SLU_DRAM_CFG_SIZE = strapCode x.dramSize := by
  rw [State.startRails_good_get (by decide), State.latchStraps_dramSize]

theorem State.startRails_good_dramRate : (s.startRails true x).get .SLU_DRAM_CFG_RATE = strapCode x.dramRate := by
  rw [State.startRails_good_get (by decide), State.latchStraps_dramRate]

theorem State.startRails_good_strap : (s.startRails true x).get .DYKE_STATUS_STRAP = x.factory.toNat := by
  rw [State.startRails_good_get (by decide), State.latchStraps_strap]

theorem State.startRails_bad_weir : (s.startRails false x).weir =
    { s.weir with iso := .softStart, brdEn := false, retryDue := true } := rfl

/-- A failed start is recorded beside what WEIR_FAULT holds. -/
theorem State.startRails_bad_faultSrc : (s.startRails false x).get .WEIR_FAULT_SRC = (s.get .WEIR_FAULT_SRC ||| 2 ^ 7) % 2 ^ 9 := by
  have hregs : (s.startRails false x).regs = ((s.set .WEIR_STATUS_ISO_OFF 0).set .WEIR_FAULT_SRC
      ((s.set .WEIR_STATUS_ISO_OFF 0).get .WEIR_FAULT_SRC ||| 2 ^ 7)).regs := rfl
  rw [State.get_of_regs hregs, State.get_set_self _ _ _ (by decide), State.get_set_other _ _ (by decide)]

/-! ### The commands -/

theorem exec_powerOn_of_held {good : Bool} (h : s.weir.powered = false) :
    exec (.powerOn good x) s = .next (s.startRails good x) := by
  change execPowerOn good x s = _
  simp [execPowerOn, h]

theorem exec_weirRetry_of_due {good : Bool} (h : s.weir.powered = false) (hdue : s.weir.retryDue = true) :
    exec (.weirRetry good x) s = .next (s.startRails good x) := by
  change execWeirRetry good x s = _
  simp [execWeirRetry, h, hdue]

theorem exec_warnArm_warning : exec (.warnArm false) s = .next (s.set .WEIR_STATUS_WARN_ARMED 1) := rfl

theorem exec_warnArm_commit (h : s.weir.powered = true) :
    exec (.warnArm true) s = .next (s.set .WEIR_STATUS_COMMIT_ARMED 1) := by
  change execWarnArm true s = _
  simp [execWarnArm, h]

/-- Settles O1: both commands start the rails, and each arming writes its own bit of WEIR_STATUS. -/
theorem supplyRisesAndIsArmed : Obligations.SupplyRisesAndIsArmed := by
  unfold Obligations.SupplyRisesAndIsArmed
  refine ⟨fun s x h => ?_, fun s x h => ?_, fun s x h hdue => ?_, fun s => ?_, fun s h => ?_⟩
  · refine completes_of_outFrame (execPowerOn_frame (parts_in rfl) (fun _ hr => hr)) (exec_powerOn_of_held h) (fun _ => ?_)
    rw [State.startRails_good_weir]
    exact ⟨rfl, rfl, rfl, rfl, State.startRails_good_pg, State.startRails_good_brdPg, State.startRails_good_isoOff,
      State.startRails_good_bridge, State.startRails_good_dramSize, State.startRails_good_dramRate, State.startRails_good_strap⟩
  · refine completes_of_outFrame (execPowerOn_frame (parts_in rfl) (fun _ hr => hr)) (exec_powerOn_of_held h) (fun _ => ?_)
    rw [State.startRails_bad_weir]
    exact ⟨h, rfl, rfl, State.startRails_bad_faultSrc⟩
  · refine completes_of_outFrame (execWeirRetry_frame (parts_in rfl) (fun _ hr => hr)) (exec_weirRetry_of_due h hdue) (fun _ => ?_)
    rw [State.startRails_good_weir]
    exact ⟨rfl, rfl, rfl, State.startRails_good_pg⟩
  · exact completes_of_outFrame (execWarnArm_frame (fun _ hr => hr)) exec_warnArm_warning
      (fun _ => ⟨State.get_set_self _ _ _ (by decide), State.get_set_other _ _ (by decide)⟩)
  · exact completes_of_outFrame (execWarnArm_frame (fun _ hr => hr)) (exec_warnArm_commit h)
      (fun _ => ⟨State.get_set_self _ _ _ (by decide), State.get_set_other _ _ (by decide)⟩)

end Sys2Proof.Machine
end

section
/-! THE PROVISIONAL WINDOW (17). What opens and what closes the window is a few writes of its own (`startWindow`, `closeWindow`); what follows in
the same command, the scrub's stop, the latch of a warm reset and the record of a dip, leaves these registers alone. -/

namespace Sys2Proof.Machine

variable {s : State} {mv : Nat}

/-! ### The input is measured (R411) -/

theorem State.measureV12_v12 : (s.measureV12 mv).get .WEIR_MEAS_V12_MV = mv % 2 ^ 16 := by
  rw [State.measureV12, State.get_set_other _ _ (by decide), State.get_set_self _ _ _ (by decide)]

/-- A measurement leaves every field but its own two alone. -/
theorem State.measureV12_get {g : Fld}
    (h : ([.fld .WEIR_MEAS_V12_MV, .fld .WEIR_MIN_V12_MV] : List Regs).all (fun r => r.apartB g) = true) :
    (s.measureV12 mv).get g = s.get g :=
  (State.measureV12_frame (fun _ hp => hp) (fun _ hr => hr) (Frame.refl _ _ s)).get h

/-! ### The window opens (R398) -/

/-- The window opens in Weir and in Staithe. -/
def State.startWindow (s : State) : State :=
  let s := { s with weir := { s.weir with low := s.get .WEIR_MEAS_V12_MV } }
  (((s.set .WEIR_STATUS_PF 1).set .WEIR_STATUS_PF_MS 0).set .WEIR_STATUS_WARN_ARMED 0).set .STH_STATUS_PF_HOLD 1

/-- The rest of the warning's cycle stops a scrub, latches a window in a warm reset, and interrupts Mire. -/
theorem State.openWindow_frame_startWindow :
    Frame [.mireIrq] [.fld .SLU_SCRB_STATUS_BUSY, .fld .SLU_SCRB_STATUS_STOPPED, .fld .WEIR_AON_STATUS_WARM_PF]
      s.startWindow s.openWindow := by
  have covers {f : Fld} (c : _) := cov_fld (f := f) (R := [.fld .SLU_SCRB_STATUS_BUSY, .fld .SLU_SCRB_STATUS_STOPPED,
    .fld .WEIR_AON_STATUS_WARM_PF]) (fun _ hr => hr) c
  refine State.irqMire_frame (fun _ hp => hp) (State.when_frame (State.when_frame (Frame.refl _ _ _) (fun t ht => ?_)) (fun t ht => ?_))
  · exact State.set_frame (covers (by decide)) (State.set_frame (covers (by decide)) ht)
  · exact State.set_frame (covers (by decide)) ht

theorem State.startWindow_pf : s.startWindow.get .WEIR_STATUS_PF = 1 := by
  simp (disch := decide) only [State.startWindow, State.get_set_other, State.get_set_self]
  rfl

theorem State.startWindow_pfMs : s.startWindow.get .WEIR_STATUS_PF_MS = 0 := by
  simp (disch := decide) only [State.startWindow, State.get_set_other, State.get_set_self]
  rfl

theorem State.startWindow_warnArmed : s.startWindow.get .WEIR_STATUS_WARN_ARMED = 0 := by
  simp (disch := decide) only [State.startWindow, State.get_set_other, State.get_set_self]
  rfl

theorem State.startWindow_pfHold : s.startWindow.get .STH_STATUS_PF_HOLD = 1 := by
  simp (disch := decide) only [State.startWindow, State.get_set_self]
  rfl

theorem State.openWindow_v12 : s.openWindow.get .WEIR_MEAS_V12_MV = s.get .WEIR_MEAS_V12_MV :=
  (State.openWindow_frame (fun _ hp => hp) (fun _ hr => hr) (Frame.refl _ _ s)).get (by decide)

theorem State.warning_mem_openWindow : MireIrq.warning ∈ s.openWindow.mireIrq := State.mem_irqMire _ _

theorem exec_powerFailWarning_of_armed (harm : s.get .WEIR_STATUS_WARN_ARMED = 1) (hpf : s.get .WEIR_STATUS_PF = 0) :
    exec (.powerFailWarning mv) s = .next (s.measureV12 mv).openWindow := by
  have harm' : (s.measureV12 mv).get .WEIR_STATUS_WARN_ARMED = 1 := (State.measureV12_get (by decide)).trans harm
  have hpf' : (s.measureV12 mv).get .WEIR_STATUS_PF = 0 := (State.measureV12_get (by decide)).trans hpf
  change execPowerFailWarning mv s = _
  simp [execPowerFailWarning, State.is, harm', hpf']

/-! ### The window is cancelled (R399) -/

/-- The window closes in Weir and in Staithe, and its dip is counted. -/
def State.closeWindow (s : State) : State :=
  let s := (s.set .WEIR_STATUS_PF 0).set .STH_STATUS_PF_HOLD 0
  let s := (s.set .WEIR_STATUS_WARN_ARMED 1).set .WEIR_AON_STATUS_WARM_PF 0
  (s.incSat .WEIR_AON_CNT_DIPS).set .WEIR_AON_STATUS_LAST_MIN s.weir.low

/-- WEIR_DIP is recorded, and Aqsia is left to note it. -/
def State.raiseDip (s : State) : State := { s.weirFault 0 with aq := { (s.weirFault 0).aq with dip := true } }

/-- Where Mire acts, the window goes to Peat's power stream with its lowest level and its length. -/
def State.recordWindow (s : State) (low ms : Nat) : State :=
  s.when s.mireActs (fun s => s.peatRecord 2 0x0201 (leBytes 2 low ++ leBytes 2 0 ++ leBytes 4 ms))

theorem State.closeWindow_pf : s.closeWindow.get .WEIR_STATUS_PF = 0 := by
  simp (disch := decide) only [State.closeWindow, State.incSat, State.get_set_other, State.get_set_self]
  rfl

theorem State.closeWindow_pfHold : s.closeWindow.get .STH_STATUS_PF_HOLD = 0 := by
  simp (disch := decide) only [State.closeWindow, State.incSat, State.get_set_other, State.get_set_self]
  rfl

theorem State.closeWindow_warnArmed : s.closeWindow.get .WEIR_STATUS_WARN_ARMED = 1 := by
  simp (disch := decide) only [State.closeWindow, State.incSat, State.get_set_other, State.get_set_self]
  rfl

theorem State.raiseDip_frame : Frame (alarmParts ++ [.aq]) (alarmRegs ++ haltRegs ++ [.fld .WEIR_FAULT_SRC]) s s.raiseDip :=
  upd_aq (parts_in rfl) (State.weirFault_frame (parts_in rfl) (fun _ hr => hr) (Frame.refl _ _ s))

theorem State.recordWindow_frame (low ms : Nat) : Frame alarmParts (alarmRegs ++ haltRegs) s (s.recordWindow low ms) :=
  State.when_frame (Frame.refl _ _ s) (fun _ ht => State.peatRecord_frame (parts_in rfl) (fun _ hr => hr) ht)

/-- The record of a dip leaves what no alarm may change. -/
theorem State.raiseDip_recordWindow_get {g : Fld} {low ms : Nat}
    (h : (alarmRegs ++ haltRegs ++ [Regs.fld .WEIR_FAULT_SRC]).all (fun r => r.apartB g) = true) :
    (s.raiseDip.recordWindow low ms).get g = s.get g :=
  (State.raiseDip_frame.trans ((State.recordWindow_frame low ms).mono (by simp) (by simp))).get h

theorem State.recordWindow_aq (low ms : Nat) : (s.recordWindow low ms).aq = s.aq :=
  (State.recordWindow_frame low ms).same .aq (by decide)

/-- PF_CANCEL of a window that no warm reset latched. -/
theorem exec_pfCancel_of_window (hpf : s.get .WEIR_STATUS_PF = 1) (hwarm : s.get .WEIR_AON_STATUS_WARM_PF = 0) :
    exec (.pfCancel mv) s = .next ((s.measureV12 mv).closeWindow.raiseDip.recordWindow ((s.measureV12 mv).get .WEIR_MIN_V12_MV)
      ((s.measureV12 mv).get .WEIR_STATUS_PF_MS)) := by
  have hpf' : (s.measureV12 mv).get .WEIR_STATUS_PF = 1 := (State.measureV12_get (by decide)).trans hpf
  have hwarm' : (s.measureV12 mv).get .WEIR_AON_STATUS_WARM_PF = 0 := (State.measureV12_get (by decide)).trans hwarm
  exact if_pos ⟨hpf', .inl (by simp [State.is, hwarm'])⟩

/-- Settles O2: the window opens on the state that the measurement leaves, and closes with its dip recorded. -/
theorem warningOpensWindow : Obligations.WarningOpensWindow := by
  unfold Obligations.WarningOpensWindow
  refine ⟨fun s mv harm hpf => ?_, fun s mv hpf hwarm => ?_⟩
  · have hget (g : Fld) (c : _) := (State.openWindow_frame_startWindow (s := s.measureV12 mv)).get (g := g) c
    refine completes_of_outFrame (execPowerFailWarning_frame (parts_in rfl) (fun _ hr => hr)) (exec_powerFailWarning_of_armed harm hpf)
      (fun _ => ⟨?_, ?_, ?_, ?_, ?_, State.warning_mem_openWindow⟩)
    · exact (hget _ (by decide)).trans State.startWindow_pf
    · exact (hget _ (by decide)).trans State.startWindow_pfMs
    · exact (hget _ (by decide)).trans State.startWindow_warnArmed
    · exact (hget _ (by decide)).trans State.startWindow_pfHold
    · rw [State.openWindow_v12, State.measureV12_v12]
  · refine completes_of_outFrame (execPfCancel_frame (parts_in rfl) (fun _ hr => hr)) (exec_pfCancel_of_window hpf hwarm)
      (fun _ => ⟨?_, ?_, ?_, ?_⟩)
    · rw [State.raiseDip_recordWindow_get (by decide +kernel), State.closeWindow_pf]
    · rw [State.raiseDip_recordWindow_get (by decide +kernel), State.closeWindow_pfHold]
    · rw [State.raiseDip_recordWindow_get (by decide +kernel), State.closeWindow_warnArmed]
    · rw [State.recordWindow_aq]
      rfl

end Sys2Proof.Machine
end

section
set_option Elab.async false
/-! EVERY STEP (01). Each command answers a next state (`exec_answers`), and whatever it answers lies within a frame, so the canonical form of
registers and memories and the commands that wait behind it are kept (`exec_frame`). -/

namespace Sys2Proof.Machine

/-- A command is answered with a next state. -/
def Answers (o : Host.Outcome State Fault Refusal) : Prop := ∃ t, o = .next t

theorem answers_next {t : State} : Answers (.next t) := ⟨t, rfl⟩

theorem answers_ite {c : Prop} [Decidable c] {a b : Host.Outcome State Fault Refusal} (ha : Answers a) (hb : Answers b) :
    Answers (if c then a else b) := by
  split
  · exact ha
  · exact hb

/-- No command is refused and none faults: the meanings that choose among outcomes choose among next states, the others name one. -/
theorem exec_answers (i : Instr) (s : State) : Answers (exec i s) := by
  cases i
  case registerWrite | warnArm | pfCancel | powerFailFlush | pfEnd | chopTest | tideRootUnlock | indexMark | tideAcqFail |
    encSyncInEdge | pesDemod | regionFetchDone | observeEnd | brakeRest | focPeriod | restartEvent | wait | waitc | waita |
    gate | sync | syncWindowClose | markDetected | xfer | skipw | mark | jmp | jcc | call | ret | ldi | microAdd | microSub |
    microCmp | emit | microEnd | waitTimeout | protectedSpanStart | operationEnd | sectorDecode | alignRetry | sectorOverrun
    | thermalAsperity | dropout | ladderStep | sessionIdleTimeout | svcRequest | svcResponse | svcStatus | portReset | mwqCfg
    | mwcCfg | descriptorStart | mwcCi | mwqCancel | aqsiaBoot | commandFetch | admission | admissionAge | completionPost |
    flushReady | perst | ledgerFilled | keyTakeEffect | lodePaused | lodeDescriptorLoad | lodeDescriptorDone | lodeBusErr |
    requestCommit | lineFill | pwbDrain | carrOpDone | sramRead | dramRead | partialWrite | faultRecord | injectAssert |
    bootRom | preampDiscovery | preampFault | spindleStart | headLoad | bandCheck | moverSectorDone =>
    simp -zeta only [exec, execRegisterWrite, execWarnArm, execPfCancel, execPowerFailFlush, execPfEnd, execChopTest,
      execTideRootUnlock, execIndexMark, execTideAcqFail, execEncSyncInEdge, execPesDemod, execRegionFetchDone,
      execObserveEnd, execBrakeRest, execFocPeriod, execRestartEvent, execWait, execWaitc, execWaita, execGate, execSync,
      execSyncWindowClose, execMarkDetected, execXfer, execSkipw, execMark, execJmp, execJcc, execCall, execRet, execLdi,
      execMicroAdd, execMicroSub, execMicroCmp, execEmit, execMicroEnd, execWaitTimeout, execProtectedSpanStart,
      execOperationEnd, execSectorDecode, execAlignRetry, execSectorOverrun, execThermalAsperity, execDropout,
      execLadderStep, execSessionIdleTimeout, execSvcRequest, execSvcResponse, execSvcStatus, execPortReset, execMwqCfg,
      execMwcCfg, execDescriptorStart, execMwcCi, execMwqCancel, execAqsiaBoot, execCommandFetch, execAdmission,
      execAdmissionAge, execCompletionPost, execFlushReady, execPerst, execLedgerFilled, execKeyTakeEffect, execLodePaused,
      execLodeDescriptorLoad, execLodeDescriptorDone, execLodeBusErr, execRequestCommit, execLineFill, execPwbDrain,
      execCarrOpDone, execSramRead, execDramRead, execPartialWrite, execFaultRecord, execInjectAssert, execBootRom,
      execPreampDiscovery, execPreampFault, execSpindleStart, execHeadLoad, execBandCheck, execMoverSectorDone]
    repeat' first
      | with_reducible exact answers_next
      | with_reducible refine answers_ite ?_ ?_
      | extract_lets
      | split
  all_goals exact answers_next

/-- All the parts of a state. -/
abbrev everyPart : List Part :=
  [.dram, .sram, .bus, .drawn, .mireIrq, .fenIrq, .seqs, .chans, .shockQuiet, .stg, .tide, .lev, .peat, .weir, .mireRuns, .warmBusy,
    .withy, .tus, .links, .slu, .sth, .dma, .carr, .mq, .aq, .dyke]

theorem parts_every {A : List Part} : ∀ p ∈ A, p ∈ everyPart := fun p _ => by cases p <;> decide

/-- What every command keeps: the waiting commands, and the canonical form. -/
theorem exec_frame (i : Instr) (s : State) : OutFrame everyPart [.all] s (exec i s) := by
  cases i with
  | registerWrite => exact execRegisterWrite_frame parts_every regsIn_all (cov_all (fun _ h => h) rfl)
  | powerOn => exact execPowerOn_frame parts_every regsIn_all
  | weirRetry => exact execWeirRetry_frame parts_every regsIn_all
  | supplyLoss => exact execSupplyLoss_frame parts_every regsIn_all
  | weirRegFault => exact execWeirRegFault_frame parts_every regsIn_all
  | warnArm => exact execWarnArm_frame regsIn_all
  | powerFailWarning => exact execPowerFailWarning_frame parts_every regsIn_all
  | pfCancel => exact execPfCancel_frame parts_every regsIn_all
  | powerFailCommit => exact execPowerFailCommit_frame parts_every regsIn_all
  | fenClockStop => exact execFenClockStop_frame parts_every
  | powerFailFlush => exact execPowerFailFlush_frame parts_every regsIn_all
  | flushEntryDone => exact execFlushEntryDone_frame parts_every regsIn_all
  | pfDone => exact execPfDone_frame parts_every regsIn_all
  | weirPfLate => exact execWeirPfLate_frame parts_every regsIn_all
  | pfBudget => exact execPfBudget_frame parts_every regsIn_all
  | pfEnd => exact execPfEnd_frame parts_every regsIn_all
  | isoDiodeOff => exact execIsoDiodeOff_frame parts_every regsIn_all
  | chopOn => exact execChopOn_frame regsIn_all
  | chopTest => exact execChopTest_frame parts_every regsIn_all
  | weirChopOpen => exact execWeirChopOpen_frame parts_every regsIn_all
  | weirChopShort => exact execWeirChopShort_frame parts_every regsIn_all
  | weirOvIn => exact execWeirOvIn_frame parts_every regsIn_all
  | weirOvBus => exact execWeirOvBus_frame parts_every regsIn_all
  | weirV5Low => exact execWeirV5Low_frame parts_every regsIn_all
  | weirMinV12Read => exact execWeirMinV12Read_frame (y0 := .mire) parts_every regsIn_all
  | warmReset => exact execWarmReset_frame parts_every regsIn_all
  | levResetWarm => exact execLevResetWarm_frame parts_every regsIn_all
  | blockReset => exact execBlockReset_frame parts_every regsIn_all
  | blockResetEnd => exact execBlockResetEnd_frame parts_every regsIn_all
  | rootLock => exact execRootLock_frame regsIn_all
  | tideRootUnlock => exact execTideRootUnlock_frame parts_every regsIn_all
  | tideCgEn => exact execTideCgEn_frame parts_every regsIn_all
  | acqStart => exact execAcqStart_frame parts_every regsIn_all
  | indexMark => exact execIndexMark_frame parts_every regsIn_all
  | tideAcqFail => exact execTideAcqFail_frame parts_every regsIn_all
  | tideHeadLost => exact execTideHeadLost_frame parts_every regsIn_all
  | tideTimingLost => exact execTideTimingLost_frame parts_every regsIn_all
  | encSyncOutRise => exact execEncSyncOutRise_frame parts_every regsIn_all
  | encSyncOutFall => exact execEncSyncOutFall_frame parts_every regsIn_all
  | encSyncInEdge => exact execEncSyncInEdge_frame parts_every regsIn_all
  | esiEdgeTimeout => exact execEsiEdgeTimeout_frame parts_every regsIn_all
  | esiPhaseSuspend => exact execEsiPhaseSuspend_frame parts_every
  | tideOptLo => exact execTideOptLo_frame parts_every regsIn_all
  | tideOptLoRead => exact execTideOptLoRead_frame parts_every
  | innerLoopTick => exact execInnerLoopTick_frame parts_every regsIn_all
  | shockLift => exact execShockLift_frame regsIn_all
  | pesDemod => exact execPesDemod_frame parts_every regsIn_all
  | tusPesLost => exact execTusPesLost_frame parts_every regsIn_all
  | tusNumSat => exact execTusNumSat_frame parts_every regsIn_all
  | winhLift => exact execWinhLift_frame parts_every regsIn_all
  | seekSettled => exact execSeekSettled_frame parts_every regsIn_all
  | reload => exact execReload_frame parts_every regsIn_all
  | regionFetchDone => exact execRegionFetchDone_frame parts_every regsIn_all
  | xcCommit => exact execXcCommit_frame parts_every regsIn_all
  | capGo => exact execCapGo_frame parts_every regsIn_all
  | seekGo => exact execSeekGo_frame parts_every regsIn_all
  | seekAbandon => exact execSeekAbandon_frame parts_every regsIn_all
  | runStart => exact execRunStart_frame parts_every regsIn_all
  | runStop => exact execRunStop_frame parts_every regsIn_all
  | stopProceed => exact execStopProceed_frame parts_every regsIn_all
  | clrFault => exact execClrFault_frame parts_every regsIn_all
  | observeEnd => exact execObserveEnd_frame parts_every regsIn_all
  | alignSecondAngle => exact execAlignSecondAngle_frame parts_every
  | alignEnd => exact execAlignEnd_frame parts_every regsIn_all
  | rampReached => exact execRampReached_frame parts_every regsIn_all
  | handover => exact execHandover_frame parts_every regsIn_all
  | handoverFail => exact execHandoverFail_frame parts_every regsIn_all
  | handoverObserveEnd => exact execHandoverObserveEnd_frame parts_every regsIn_all
  | brakeRest => exact execBrakeRest_frame parts_every regsIn_all
  | wthBrakeTimeout => exact execWthBrakeTimeout_frame parts_every regsIn_all
  | focPeriod => exact execFocPeriod_frame parts_every regsIn_all
  | keCheckStart => exact execKeCheckStart_frame parts_every
  | keCheckEnd => exact execKeCheckEnd_frame parts_every regsIn_all
  | wthSpeedLimited => exact execWthSpeedLimited_frame parts_every regsIn_all
  | wthSpnOc => exact execWthSpnOc_frame parts_every regsIn_all
  | wthChopFail => exact execWthChopFail_frame parts_every regsIn_all
  | holdCollapse => exact execHoldCollapse_frame parts_every regsIn_all
  | wthVcmOc => exact execWthVcmOc_frame parts_every regsIn_all
  | wthMaOc => exact execWthMaOc_frame parts_every regsIn_all
  | wthGdUvlo => exact execWthGdUvlo_frame parts_every regsIn_all
  | wthHbLoss => exact execWthHbLoss_frame parts_every regsIn_all
  | retractGo => exact execRetractGo_frame parts_every regsIn_all
  | retractLowBus => exact execRetractLowBus_frame parts_every regsIn_all
  | retractStall => exact execRetractStall_frame parts_every
  | wthRetTimeout => exact execWthRetTimeout_frame parts_every regsIn_all
  | retractEnd => exact execRetractEnd_frame parts_every regsIn_all
  | park => exact execPark_frame parts_every regsIn_all
  | vcmEnable => exact execVcmEnable_frame parts_every regsIn_all
  | maHold => exact execMaHold_frame parts_every regsIn_all
  | reedGo => exact execReedGo_frame parts_every regsIn_all
  | reedKill => exact execReedKill_frame parts_every regsIn_all
  | reedRestart => exact execReedRestart_frame parts_every
  | reedAbort => exact execReedAbort_frame parts_every regsIn_all
  | restartEvent => exact execRestartEvent_frame parts_every regsIn_all
  | wait => exact execWait_frame parts_every regsIn_all
  | waitc => exact execWaitc_frame parts_every regsIn_all
  | waita => exact execWaita_frame parts_every regsIn_all
  | gate => exact execGate_frame parts_every regsIn_all
  | sync => exact execSync_frame parts_every regsIn_all
  | syncWindowClose => exact execSyncWindowClose_frame parts_every regsIn_all
  | markDetected => exact execMarkDetected_frame parts_every regsIn_all
  | xfer => exact execXfer_frame parts_every regsIn_all
  | skipw => exact execSkipw_frame parts_every regsIn_all
  | mark => exact execMark_frame parts_every regsIn_all
  | jmp => exact execJmp_frame parts_every regsIn_all
  | jcc => exact execJcc_frame parts_every regsIn_all
  | call => exact execCall_frame parts_every regsIn_all
  | ret => exact execRet_frame parts_every regsIn_all
  | ldi => exact execLdi_frame parts_every regsIn_all
  | microAdd => exact execMicroAdd_frame parts_every regsIn_all
  | microSub => exact execMicroSub_frame parts_every regsIn_all
  | microCmp => exact execMicroCmp_frame parts_every regsIn_all
  | emit => exact execEmit_frame parts_every regsIn_all
  | microEnd => exact execMicroEnd_frame parts_every regsIn_all
  | illegalMicroword => exact execIllegalMicroword_frame parts_every regsIn_all
  | waitTimeout => exact execWaitTimeout_frame parts_every regsIn_all
  | protectedSpanStart => exact execProtectedSpanStart_frame parts_every regsIn_all
  | operationEnd => exact execOperationEnd_frame parts_every regsIn_all
  | csWrite => exact execCsWrite_frame parts_every regsIn_all
  | csRead => exact execCsRead_frame parts_every regsIn_all
  | reedEventRead => exact execReedEventRead_frame parts_every regsIn_all
  | sectorDecode => exact execSectorDecode_frame parts_every regsIn_all
  | alignRetry => exact execAlignRetry_frame parts_every regsIn_all
  | sectorOverrun => exact execSectorOverrun_frame parts_every regsIn_all
  | thermalAsperity => exact execThermalAsperity_frame parts_every regsIn_all
  | dropout => exact execDropout_frame parts_every regsIn_all
  | resultRead => exact execResultRead_frame parts_every regsIn_all
  | telSnap => exact execTelSnap_frame parts_every regsIn_all
  | telClear => exact execTelClear_frame parts_every
  | coefWrite => exact execCoefWrite_frame parts_every regsIn_all
  | coefRead => exact execCoefRead_frame parts_every regsIn_all
  | verifyOutcome => exact execVerifyOutcome_frame parts_every
  | vfyResultRead => exact execVfyResultRead_frame parts_every regsIn_all
  | ladderStep => exact execLadderStep_frame parts_every regsIn_all
  | mbxRing => exact execMbxRing_frame parts_every regsIn_all
  | mbxAck => exact execMbxAck_frame parts_every regsIn_all
  | mbxCancel => exact execMbxCancel_frame parts_every regsIn_all
  | requestStart => exact execRequestStart_frame parts_every regsIn_all
  | sessionIdleTimeout => exact execSessionIdleTimeout_frame parts_every regsIn_all
  | sessionOpen => exact execSessionOpen_frame parts_every regsIn_all
  | sessionClose => exact execSessionClose_frame parts_every regsIn_all
  | sessionPing => exact execSessionPing_frame parts_every regsIn_all
  | spindleSet => exact execSpindleSet_frame parts_every regsIn_all
  | spindleStatus => exact execSpindleStatus_frame parts_every regsIn_all
  | sectionLoad => exact execSectionLoad_frame parts_every regsIn_all
  | sectionPark => exact execSectionPark_frame parts_every regsIn_all
  | retract => exact execRetract_frame parts_every regsIn_all
  | motorClear => exact execMotorClear_frame parts_every regsIn_all
  | sectionStatus => exact execSectionStatus_frame parts_every regsIn_all
  | encSyncSet => exact execEncSyncSet_frame parts_every regsIn_all
  | servoReload => exact execServoReload_frame parts_every regsIn_all
  | servoRegionWrite => exact execServoRegionWrite_frame parts_every regsIn_all
  | servoLimits => exact execServoLimits_frame parts_every regsIn_all
  | servoCoupling => exact execServoCoupling_frame parts_every regsIn_all
  | servoCapture => exact execServoCapture_frame parts_every regsIn_all
  | zoneInfo => exact execZoneInfo_frame parts_every regsIn_all
  | channelAdapt => exact execChannelAdapt_frame parts_every regsIn_all
  | channelCal => exact execChannelCal_frame parts_every regsIn_all
  | preampInfo => exact execPreampInfo_frame parts_every regsIn_all
  | fprogBegin => exact execFprogBegin_frame parts_every regsIn_all
  | fprogData => exact execFprogData_frame parts_every regsIn_all
  | fprogCommit => exact execFprogCommit_frame parts_every regsIn_all
  | fprogBind => exact execFprogBind_frame parts_every regsIn_all
  | fprogDelete => exact execFprogDelete_frame parts_every regsIn_all
  | fprogList => exact execFprogList_frame parts_every regsIn_all
  | powerStateSet => exact execPowerStateSet_frame parts_every regsIn_all
  | powerStatus => exact execPowerStatus_frame parts_every regsIn_all
  | fenGate => exact execFenGate_frame parts_every regsIn_all
  | peatAppend => exact execPeatAppend_frame parts_every regsIn_all
  | peatFreeze => exact execPeatFreeze_frame parts_every regsIn_all
  | peatRead => exact execPeatRead_frame parts_every regsIn_all
  | peatRelease => exact execPeatRelease_frame parts_every regsIn_all
  | peatClear => exact execPeatClear_frame parts_every regsIn_all
  | aqPeatFlush => exact execAqPeatFlush_frame parts_every regsIn_all
  | updateBegin => exact execUpdateBegin_frame parts_every regsIn_all
  | updateData => exact execUpdateData_frame parts_every regsIn_all
  | updateApply => exact execUpdateApply_frame parts_every regsIn_all
  | updateActivate => exact execUpdateActivate_frame parts_every regsIn_all
  | updateStatus => exact execUpdateStatus_frame parts_every regsIn_all
  | updateAbort => exact execUpdateAbort_frame parts_every regsIn_all
  | updateFloor => exact execUpdateFloor_frame parts_every regsIn_all
  | telVersions => exact execTelVersions_frame parts_every regsIn_all
  | telChannel => exact execTelChannel_frame parts_every regsIn_all
  | telServo => exact execTelServo_frame parts_every regsIn_all
  | telEnv => exact execTelEnv_frame parts_every regsIn_all
  | faultHistory => exact execFaultHistory_frame parts_every regsIn_all
  | faultReaction => exact execFaultReaction_frame parts_every regsIn_all
  | faultInject => exact execFaultInject_frame parts_every regsIn_all
  | faultClear => exact execFaultClear_frame parts_every regsIn_all
  | attestRead => exact execAttestRead_frame parts_every regsIn_all
  | attestQuote => exact execAttestQuote_frame parts_every regsIn_all
  | authChallenge => exact execAuthChallenge_frame parts_every regsIn_all
  | spdmMessage => exact execSpdmMessage_frame parts_every regsIn_all
  | factoryUnlock => exact execFactoryUnlock_frame parts_every regsIn_all
  | svcRequest => exact execSvcRequest_frame parts_every regsIn_all
  | svcResponse => exact execSvcResponse_frame parts_every
  | svcAck => exact execSvcAck_frame parts_every regsIn_all
  | svcStatus => exact execSvcStatus_frame parts_every
  | svcCancel => exact execSvcCancel_frame parts_every regsIn_all
  | portReset => exact execPortReset_frame parts_every regsIn_all
  | mwqDb => exact execMwqDb_frame parts_every regsIn_all
  | queueScan => exact execQueueScan_frame parts_every regsIn_all
  | mwqCfg => exact execMwqCfg_frame parts_every regsIn_all
  | mwcCfg => exact execMwcCfg_frame parts_every regsIn_all
  | descriptorStart => exact execDescriptorStart_frame parts_every regsIn_all
  | mwdRead => exact execMwdRead_frame parts_every regsIn_all
  | mwdWrite => exact execMwdWrite_frame parts_every regsIn_all
  | writeVerify => exact execWriteVerify_frame parts_every regsIn_all
  | mwdVerify => exact execMwdVerify_frame parts_every regsIn_all
  | readAhead => exact execReadAhead_frame parts_every regsIn_all
  | seekHint => exact execSeekHint_frame parts_every regsIn_all
  | formatTracks => exact execFormatTracks_frame parts_every regsIn_all
  | eraseBand => exact execEraseBand_frame parts_every regsIn_all
  | mwdFence => exact execMwdFence_frame parts_every regsIn_all
  | mwdBarrier => exact execMwdBarrier_frame parts_every regsIn_all
  | hintTimeout => exact execHintTimeout_frame parts_every regsIn_all
  | mwcCi => exact execMwcCi_frame parts_every regsIn_all
  | mwqCancel => exact execMwqCancel_frame parts_every regsIn_all
  | aqsiaBoot => exact execAqsiaBoot_frame parts_every regsIn_all
  | sqDoorbell => exact execSqDoorbell_frame parts_every regsIn_all
  | cqDoorbell => exact execCqDoorbell_frame parts_every regsIn_all
  | commandFetch => exact execCommandFetch_frame parts_every regsIn_all
  | admission => exact execAdmission_frame parts_every regsIn_all
  | admissionAge => exact execAdmissionAge_frame parts_every
  | sthCpl => exact execSthCpl_frame parts_every regsIn_all
  | completionPost => exact execCompletionPost_frame parts_every regsIn_all
  | sthCtxEnd => exact execSthCtxEnd_frame parts_every regsIn_all
  | sthZaSet => exact execSthZaSet_frame parts_every regsIn_all
  | sthFateSet => exact execSthFateSet_frame parts_every regsIn_all
  | sthFateClr => exact execSthFateClr_frame parts_every regsIn_all
  | fateDataRead => exact execFateDataRead_frame parts_every regsIn_all
  | sthNewRead => exact execSthNewRead_frame parts_every
  | flushReady => exact execFlushReady_frame parts_every
  | controllerReset => exact execControllerReset_frame parts_every regsIn_all
  | quiesce => exact execQuiesce_frame parts_every regsIn_all
  | idleExpired => exact execIdleExpired_frame parts_every regsIn_all
  | cfgRdy => exact execCfgRdy_frame parts_every regsIn_all
  | perst => exact execPerst_frame parts_every regsIn_all
  | linkUp => exact execLinkUp_frame regsIn_all
  | dramTrained => exact execDramTrained_frame regsIn_all
  | ledgerFilled => exact execLedgerFilled_frame parts_every regsIn_all
  | sluLedRel => exact execSluLedRel_frame parts_every regsIn_all
  | sluLedFill => exact execSluLedFill_frame parts_every regsIn_all
  | ledDataRead => exact execLedDataRead_frame parts_every regsIn_all
  | regionSet => exact execRegionSet_frame parts_every regsIn_all
  | regionDiscard => exact execRegionDiscard_frame parts_every regsIn_all
  | regionLookup => exact execRegionLookup_frame parts_every regsIn_all
  | regionUnpin => exact execRegionUnpin_frame parts_every regsIn_all
  | regionTtlExpire => exact execRegionTtlExpire_frame parts_every regsIn_all
  | keyLoad => exact execKeyLoad_frame parts_every regsIn_all
  | keyZero => exact execKeyZero_frame parts_every regsIn_all
  | keyTakeEffect => exact execKeyTakeEffect_frame parts_every regsIn_all
  | cswCommit => exact execCswCommit_frame parts_every regsIn_all
  | frameBoundary => exact execFrameBoundary_frame parts_every regsIn_all
  | cswHog => exact execCswHog_frame parts_every regsIn_all
  | lodeStart => exact execLodeStart_frame parts_every regsIn_all
  | lodeStop => exact execLodeStop_frame parts_every regsIn_all
  | lodePause => exact execLodePause_frame parts_every regsIn_all
  | lodePaused => exact execLodePaused_frame parts_every regsIn_all
  | lodeDescriptorLoad => exact execLodeDescriptorLoad_frame parts_every regsIn_all
  | lodeDescriptorDone => exact execLodeDescriptorDone_frame parts_every regsIn_all
  | lodeBusErr => exact execLodeBusErr_frame parts_every regsIn_all
  | requestCommit => exact execRequestCommit_frame parts_every regsIn_all
  | carrLoad => exact execCarrLoad_frame parts_every regsIn_all
  | carrStore => exact execCarrStore_frame parts_every regsIn_all
  | carrAmo => exact execCarrAmo_frame parts_every regsIn_all
  | lineFill => exact execLineFill_frame parts_every regsIn_all
  | pwbDrain => exact execPwbDrain_frame parts_every regsIn_all
  | carrEnable => exact execCarrEnable_frame parts_every regsIn_all
  | carrDisable => exact execCarrDisable_frame parts_every regsIn_all
  | statSnap => exact execStatSnap_frame parts_every regsIn_all
  | statClear => exact execStatClear_frame parts_every
  | preload => exact execPreload_frame parts_every regsIn_all
  | invRange => exact execInvRange_frame parts_every regsIn_all
  | invAll => exact execInvAll_frame parts_every regsIn_all
  | carrOpDone => exact execCarrOpDone_frame parts_every regsIn_all
  | sramRead => exact execSramRead_frame parts_every regsIn_all
  | dramRead => exact execDramRead_frame parts_every regsIn_all
  | partialWrite => exact execPartialWrite_frame parts_every regsIn_all
  | scrubGo => exact execScrubGo_frame parts_every regsIn_all
  | scrubStop => exact execScrubStop_frame parts_every regsIn_all
  | scrubDone => exact execScrubDone_frame regsIn_all
  | sluPmAck => exact execSluPmAck_frame parts_every regsIn_all
  | pmDataRead => exact execPmDataRead_frame parts_every regsIn_all
  | faultRecord => exact execFaultRecord_frame parts_every regsIn_all
  | levHeartbeat => exact execLevHeartbeat_frame parts_every regsIn_all
  | levMireWdog => exact execLevMireWdog_frame parts_every regsIn_all
  | levClr => exact execLevClr_frame parts_every regsIn_all
  | levInj => exact execLevInj_frame parts_every regsIn_all
  | injectAssert => exact execInjectAssert_frame parts_every regsIn_all
  | bootRom => exact execBootRom_frame parts_every regsIn_all
  | trialConfirm => exact execTrialConfirm_frame parts_every regsIn_all
  | trialTimeout => exact execTrialTimeout_frame parts_every
  | bootRecord => exact execBootRecord_frame parts_every regsIn_all
  | dykeMrExt => exact execDykeMrExt_frame parts_every regsIn_all
  | recordStage => exact execRecordStage_frame parts_every regsIn_all
  | peatFlushTimer => exact execPeatFlushTimer_frame parts_every regsIn_all
  | peatFlush => exact execPeatFlush_frame parts_every regsIn_all
  | peatFlushDone => exact execPeatFlushDone_frame parts_every regsIn_all
  | peatNorFail => exact execPeatNorFail_frame parts_every regsIn_all
  | peatPcc => exact execPeatPcc_frame parts_every regsIn_all
  | peatCur => exact execPeatCur_frame parts_every regsIn_all
  | windowValid => exact execWindowValid_frame parts_every regsIn_all
  | preampDiscovery => exact execPreampDiscovery_frame parts_every regsIn_all
  | plWriteFrame => exact execPlWriteFrame_frame parts_every
  | plReadFrame => exact execPlReadFrame_frame parts_every
  | plResponse => exact execPlResponse_frame parts_every regsIn_all
  | plTimeout => exact execPlTimeout_frame parts_every regsIn_all
  | preampFault => exact execPreampFault_frame parts_every regsIn_all
  | spindleStart => exact execSpindleStart_frame parts_every regsIn_all
  | headLoad => exact execHeadLoad_frame parts_every regsIn_all
  | bandCheck => exact execBandCheck_frame parts_every regsIn_all
  | configurationRequest => exact execConfigurationRequest_frame parts_every regsIn_all
  | controllerRegisterWrite => exact execControllerRegisterWrite_frame parts_every regsIn_all
  | sthLinkDown => exact execSthLinkDown_frame parts_every regsIn_all
  | vaonLost => exact execVaonLost_frame parts_every regsIn_all
  | aliveToggle => exact execAliveToggle_frame parts_every
  | svcUnknownOpcode => exact execSvcUnknownOpcode_frame parts_every
  | moverSectorDone => exact execMoverSectorDone_frame parts_every regsIn_all

theorem State.millisecond_frame_every (s : State) : Frame everyPart [.all] s s.millisecond :=
  State.millisecond_frame parts_every regsIn_all (Frame.refl _ _ s)

/-- Settles O56: both are the definition of a step. -/
theorem stepRunsTheFront : Obligations.StepRunsTheFront := by
  unfold Obligations.StepRunsTheFront
  refine ⟨fun _ _ _ => rfl, fun s h => ?_⟩
  rw [step, h]

/-- Settles O57: nothing differs from its value at reset, so nothing is listed. -/
theorem resetIsSound : Obligations.ResetIsSound := by
  unfold Obligations.ResetIsSound
  decide

/-- Settles O58: the front command runs on the queue's rest within a frame; with an empty queue the millisecond keeps the queue empty. -/
theorem everyStepStaysSound : Obligations.EveryStepStaysSound := by
  intro s hs
  cases hq : s.pending with
  | nil =>
    have hframe := s.millisecond_frame_every
    exact ⟨s.millisecond, by rw [step, hq], hframe.sound hs, hframe.pending.trans hq⟩
  | cons c rest =>
    obtain ⟨t, ht⟩ := exec_answers c { s with pending := rest }
    have hframe : OutFrame everyPart [.all] { s with pending := rest } (.next t) := ht ▸ exec_frame c _
    exact ⟨t, by rw [step, hq]; exact ht, Frame.sound hframe hs, Frame.pending hframe⟩

end Sys2Proof.Machine
end

section
set_option Elab.async false
/-! READING A NEXT STATE. A field of a state that is written out part by part is a field of the state that gives its registers; what a shared
operation leaves alone it leaves at every command that uses it. -/

namespace Sys2Proof.Machine

variable {s : State} {f g : Fld}

@[simp] theorem State.get_mk {pending dram sram bus drawn mireIrq fenIrq seqs chans shockQuiet stg tide lev peat weir mireRuns warmBusy
    withy tus links slu sth dma carr mq aq dyke} :
    (State.mk pending s.regs dram sram bus drawn mireIrq fenIrq seqs chans shockQuiet stg tide lev peat weir mireRuns warmBusy
      withy tus links slu sth dma carr mq aq dyke).get g = s.get g := by
  unfold State.get State.regAt
  exact rfl

@[simp] theorem State.regAt_mk {pending dram sram bus drawn mireIrq fenIrq seqs chans shockQuiet stg tide lev peat weir mireRuns warmBusy
    withy tus links slu sth dma carr mq aq dyke} {a : Nat} :
    (State.mk pending s.regs dram sram bus drawn mireIrq fenIrq seqs chans shockQuiet stg tide lev peat weir mireRuns warmBusy
      withy tus links slu sth dma carr mq aq dyke).regAt a = s.regAt a := rfl

@[simp] theorem State.ack_dramEnd : s.ack.dramEnd = s.dramEnd := rfl

/-- A command completes within the frame of its meaning, where it answers a state of which `P` holds. -/
theorem completes_of_frame {W : List Part} {R : List Regs} {c : Instr} {P : State → Prop} (hframe : OutFrame W R s (exec c s))
    (h : Completes c s P) : Completes c s (fun t => P t ∧ Frame W R s t) := by
  obtain ⟨t, ht, hP⟩ := h
  rw [ht] at hframe
  exact ⟨t, ht, hP, hframe⟩

/-- Registers that leave alone each member of an array of `n` fields leave alone the member of every index. -/
theorem apart_mod {R : List Regs} (F : Nat → Fld) {n : Nat} (hn : 0 < n) (hF : ∀ k, F (k % n) = F k)
    (h : (List.range n).all (fun i => R.all (fun r => r.apartB (F i))) = true) (k : Nat) : R.all (fun r => r.apartB (F k)) = true := by
  rw [← hF k]
  exact List.all_eq_true.1 h (k % n) (List.mem_range.2 (Nat.mod_lt k hn))

theorem State.when_keeps {α : Type} (read : State → α) {c : Bool} {f : State → State} (h : read (f s) = read s) :
    read (s.when c f) = read s := by
  cases c
  · rfl
  · exact h

theorem State.when_get {c : Bool} {h : State → State} (hkeep : (h s).get g = s.get g) : (s.when c h).get g = s.get g := by
  cases c
  · rfl
  · exact hkeep

/-- What leaves a field alone leaves it alone with fewer registers. -/
theorem apart_sub {A R : List Regs} {g : Fld} (h : R.all (fun r => r.apartB g) = true) (hsub : A.all (fun r => r ∈ R) = true) :
    A.all (fun r => r.apartB g) = true :=
  List.all_eq_true.2 (fun r hr => List.all_eq_true.1 h r (by simpa using List.all_eq_true.1 hsub r hr))

/-! ### Raising a condition (R414) -/

theorem State.raise_framed (code inst detail : Nat) : Frame alarmParts (alarmRegs ++ haltRegs) s (s.raise code inst detail) :=
  State.raise_frame (fun _ hp => hp) (fun _ hr => hr) (Frame.refl _ _ s)

theorem State.raise_get {code inst detail : Nat} (h : (alarmRegs ++ haltRegs).all (fun r => r.apartB g) = true) :
    (s.raise code inst detail).get g = s.get g := (State.raise_framed code inst detail).get h

@[simp] theorem State.raise_bus (code inst detail : Nat) : (s.raise code inst detail).bus = s.bus :=
  (State.raise_framed code inst detail).same .bus (by decide)

@[simp] theorem State.raise_mireRuns (code inst detail : Nat) : (s.raise code inst detail).mireRuns = s.mireRuns :=
  (State.raise_framed code inst detail).same .mireRuns (by decide)

@[simp] theorem State.raise_tide (code inst detail : Nat) : (s.raise code inst detail).tide = s.tide :=
  (State.raise_framed code inst detail).same .tide (by decide)

@[simp] theorem State.raise_weir (code inst detail : Nat) : (s.raise code inst detail).weir = s.weir :=
  (State.raise_framed code inst detail).same .weir (by decide)

@[simp] theorem State.raise_withy (code inst detail : Nat) : (s.raise code inst detail).withy = s.withy :=
  (State.raise_framed code inst detail).same .withy (by decide)

@[simp] theorem State.raise_tus (code inst detail : Nat) : (s.raise code inst detail).tus = s.tus :=
  (State.raise_framed code inst detail).same .tus (by decide)

@[simp] theorem State.raise_links (code inst detail : Nat) : (s.raise code inst detail).links = s.links :=
  (State.raise_framed code inst detail).same .links (by decide)

@[simp] theorem State.raise_slu (code inst detail : Nat) : (s.raise code inst detail).slu = s.slu :=
  (State.raise_framed code inst detail).same .slu (by decide)

@[simp] theorem State.raise_sth (code inst detail : Nat) : (s.raise code inst detail).sth = s.sth :=
  (State.raise_framed code inst detail).same .sth (by decide)

@[simp] theorem State.raise_dma (code inst detail : Nat) : (s.raise code inst detail).dma = s.dma :=
  (State.raise_framed code inst detail).same .dma (by decide)

@[simp] theorem State.raise_carr (code inst detail : Nat) : (s.raise code inst detail).carr = s.carr :=
  (State.raise_framed code inst detail).same .carr (by decide)

@[simp] theorem State.raise_mq (code inst detail : Nat) : (s.raise code inst detail).mq = s.mq :=
  (State.raise_framed code inst detail).same .mq (by decide)

@[simp] theorem State.raise_aq (code inst detail : Nat) : (s.raise code inst detail).aq = s.aq :=
  (State.raise_framed code inst detail).same .aq (by decide)

@[simp] theorem State.raise_dyke (code inst detail : Nat) : (s.raise code inst detail).dyke = s.dyke :=
  (State.raise_framed code inst detail).same .dyke (by decide)

@[simp] theorem State.raise_dram (code inst detail : Nat) : (s.raise code inst detail).dram = s.dram :=
  (State.raise_framed code inst detail).same .dram (by decide)

@[simp] theorem State.raise_sram (code inst detail : Nat) : (s.raise code inst detail).sram = s.sram :=
  (State.raise_framed code inst detail).same .sram (by decide)

theorem State.latched_of_lev {t : State} (h : t.lev = s.lev) (code inst : Nat) : t.latched code inst = s.latched code inst := by
  unfold State.latched
  rw [h]

@[simp] theorem State.set_latched (v code inst : Nat) : (s.set f v).latched code inst = s.latched code inst := rfl

/-- A source that has a row is latched as it is raised (R414). -/
theorem State.raise_latched_true {code inst detail : Nat} (h : (sourceRow code).isSome = true) :
    (s.raise code inst detail).latched code inst = true := (State.raise_latched code inst detail).trans h

theorem State.weirFault_get {k : Nat} (h : (alarmRegs ++ haltRegs).all (fun r => r.apartB g) = true) :
    (s.weirFault k).get g = (s.set .WEIR_FAULT_SRC (s.get .WEIR_FAULT_SRC ||| 2 ^ k)).get g := State.raise_get h

theorem State.weirFault_latched {code k : Nat} (hcode : code = 0x0D01 + k) (h : (sourceRow code).isSome = true) :
    (s.weirFault k).latched code 0 = true := by
  subst hcode
  exact State.raise_latched_true h

@[simp] theorem State.weirFault_weir (k : Nat) : (s.weirFault k).weir = s.weir := State.raise_weir _ _ _

/-! ### Signed fields -/

theorem State.get_setS_other {v : Int} (h : g.addr ≠ f.addr ∨ f.lo + f.width ≤ g.lo ∨ g.lo + g.width ≤ f.lo) :
    (s.setS f v).get g = s.get g :=
  State.get_set_other _ _ h

theorem State.getS_congr {t : State} (h : t.get f = s.get f) : t.getS f = s.getS f := congrArg (signed f.width) h

theorem signed_toNat_emod {w : Nat} {v : Int} (hlow : -2 ^ (w - 1) ≤ v) (hhigh : v < 2 ^ (w - 1)) (hw : 0 < w) :
    signed w (v % 2 ^ w).toNat = v := by
  have hpow : (2 : Int) ^ w = 2 * 2 ^ (w - 1) := by
    rw [← pow_succ', Nat.sub_add_cancel hw]
  unfold signed
  rcases Int.lt_or_le v 0 with hneg | hpos
  · have hmod : v % 2 ^ w = v + 2 ^ w := by
      rw [← Int.add_emod_right, Int.emod_eq_of_lt (by omega) (by omega)]
    have hnat : ¬ (v % 2 ^ w).toNat < 2 ^ (w - 1) := by
      zify
      rw [Int.toNat_of_nonneg (by omega)]
      omega
    rw [if_neg hnat, Int.toNat_of_nonneg (by omega), hmod, Int.add_sub_cancel]
  · have hmod : v % 2 ^ w = v := Int.emod_eq_of_lt hpos (by omega)
    have hnat : (v % 2 ^ w).toNat < 2 ^ (w - 1) := by
      zify
      rw [Int.toNat_of_nonneg (by omega)]
      omega
    rw [if_pos hnat, Int.toNat_of_nonneg (by omega), hmod]

/-- A signed field holds the value that is written to it, where it fits. -/
theorem State.getS_setS_self {v : Int} (hlow : -2 ^ (f.width - 1) ≤ v) (hhigh : v < 2 ^ (f.width - 1)) (hfits : f.lo + f.width ≤ 32)
    (hw : 0 < f.width) : (s.setS f v).getS f = v := by
  unfold State.getS State.setS
  rw [State.get_set_self _ _ _ hfits, Nat.mod_eq_of_lt, signed_toNat_emod hlow hhigh hw]
  have hlt := Int.emod_lt_of_pos v (show (0 : Int) < 2 ^ f.width by positivity)
  zify
  rwa [Int.toNat_of_nonneg (Int.emod_nonneg _ (by positivity))]

/-- A field of one bit that is set reads 1. -/
theorem State.get_of_is (hw : f.width = 1) (h : s.is f = true) : s.get f = 1 := by
  have hlt : s.get f < 2 ^ f.width := s.get_lt f
  have hne : s.get f ≠ 0 := by simpa [State.is] using h
  rw [hw] at hlt
  omega

theorem State.get_of_not_is (h : s.is f = false) : s.get f = 0 := by simpa [State.is] using h

theorem State.is_of_get (h : s.get f = 1) : s.is f = true := by simp [State.is, h]

theorem State.not_is_of_get (h : s.get f = 0) : s.is f = false := by simp [State.is, h]

end Sys2Proof.Machine
end

section
set_option Elab.async false
/-! THE SCRUBBER (16). A run starts at the base of its range, where the range lies in usable DRAM, and ends by SCRUB_STOP or after its last block
(R389); a record of the poison map is removed by its acknowledgement and read at INDEX (R386, R391). -/

namespace Sys2Proof.Machine

/-- Settles O26: each store is served where its domain is clocked, and each command writes the status fields one by one. -/
theorem memoryIsScrubbed : Obligations.MemoryIsScrubbed := by
  unfold Obligations.MemoryIsScrubbed
  refine ⟨fun s hclock hidle hlen hbase hend => ?_, fun s hclock hbad => ?_, fun s hclock hbusy => ?_, fun s hclock hidle => ?_,
    fun s hbusy hlast => ?_, fun s index hclock => ?_, fun s hclock => ?_⟩
  · refine completes_of_frame (execScrubGo_frame (parts_in rfl) (fun _ hr => hr)) ?_
    simp only [Nat.reducePow, ← Nat.not_lt] at hbase hend
    simp (disch := decide) [Completes, exec, execScrubGo, State.access, State.is, State.scrubAt, State.get_set_self, State.get_set_other,
      hclock, hidle, hlen, hbase, hend]
    have hlo : s.get .SLU_SCRB_BASE_LO_ADDR < 2 ^ 26 := s.get_lt _
    have hhi : s.get .SLU_SCRB_BASE_HI_ADDR < 2 ^ 8 := s.get_lt _
    omega
  · have hrefused : s.get .SLU_SCRB_STATUS_BUSY ≠ 0 ∨ _ := hbad.imp_left (by omega)
    refine completes_of_frame (execScrubGo_frame (parts_in rfl) (fun _ hr => hr)) ?_
    simp (disch := decide) only [Nat.reducePow] at hrefused
    simp (disch := decide) [Completes, exec, execScrubGo, State.access, State.is, State.get_set_self, hclock, hrefused]
  · refine completes_of_frame (execScrubStop_frame (parts_in rfl) (fun _ hr => hr)) ?_
    simp (disch := decide) [Completes, exec, execScrubStop, State.access, State.is, State.scrubEnd, State.get_set_self,
      State.get_set_other, hclock, hbusy]
  · refine completes_of_frame (execScrubStop_frame (parts_in rfl) (fun _ hr => hr)) ?_
    simp [Completes, exec, execScrubStop, State.access, State.is, hclock, hidle]
  · refine completes_of_frame (execScrubDone_frame (fun _ hr => hr)) ?_
    simp (disch := decide) [Completes, exec, execScrubDone, State.is, State.scrubEnd, State.get_set_self, State.get_set_other, hbusy,
      hlast]
  · refine completes_of_frame (execSluPmAck_frame (parts_in rfl) (fun _ hr => hr)) ?_
    simp (disch := decide) [Completes, exec, execSluPmAck, State.access, State.pmStatus, State.get_set_self, hclock]
  · refine completes_of_frame (execPmDataRead_frame (parts_in rfl) (fun _ hr => hr)) ?_
    simp (disch := decide) [Completes, exec, execPmDataRead, State.access, State.inc, State.get_set_self, hclock]
end Sys2Proof.Machine
end

section
set_option Elab.async false
/-! THE SUPPLY MONITORS AND THE CHOPPER (17). A measurement is written first; what it means for the isolation FETs and the chopper follows
(R405, R406), and each fault of Weir marks WEIR_FAULT and raises its source (R409). -/

namespace Sys2Proof.Machine

/-- Settles O7: a measurement is taken as it is, and the branch of its level writes the rest. -/
theorem monitorsAndChopper : Obligations.MonitorsAndChopper := by
  unfold Obligations.MonitorsAndChopper
  refine ⟨fun s v12 vhb hiso hlt => ?_, fun s v12 vhb hiso hlt => ?_, fun s vhb hhigh hoff => ?_, fun s vhb hlow => ?_,
    fun s vhb current hv hi => ?_, fun s vhb current hv hi => ?_, fun s vhb current hv => ?_, fun s hon => ?_, fun s current hoff => ?_,
    fun s vhb hok => ?_, fun s mv => ?_, fun s who => ?_⟩
  · refine completes_of_frame (execIsoDiodeOff_frame (parts_in rfl) (fun _ hr => hr)) ?_
    simp (disch := decide) [Completes, exec, execIsoDiodeOff, State.measureV12, State.get_set_self, State.get_set_other, hiso, hlt]
  · refine completes_of_frame (execIsoDiodeOff_frame (parts_in rfl) (fun _ hr => hr)) ?_
    simp (disch := decide) [Completes, exec, execIsoDiodeOff, State.measureV12, State.get_set_self, State.get_set_other, hiso, hlt,
      show ¬ v12 + 20 < vhb by omega]
  · refine completes_of_frame (execChopOn_frame (fun _ hr => hr)) ?_
    simp (disch := decide) [Completes, exec, execChopOn, State.incSat, State.is, State.get_set_self, State.get_set_other, hhigh, hoff]
  · refine completes_of_frame (execChopOn_frame (fun _ hr => hr)) ?_
    simp (disch := decide) [Completes, exec, execChopOn, State.get_set_self, State.get_set_other, hlow, show ¬ 13600 ≤ vhb by omega]
  · refine completes_of_frame (execChopTest_frame (parts_in rfl) (fun _ hr => hr)) ?_
    simp (disch := decide) [Completes, exec, execChopTest, State.incSat, State.get_set_self, State.get_set_other, hi, Nat.not_lt.2 hv]
  · refine completes_of_frame (execChopTest_frame (parts_in rfl) (fun _ hr => hr)) ?_
    simp (disch := decide +kernel) [Completes, exec, execChopTest, State.incSat, State.weirFault_get, State.weirFault_latched,
      State.get_set_self, State.get_set_other,
      Nat.not_le.2 hi, Nat.not_lt.2 hv]
  · refine completes_of_frame (execChopTest_frame (parts_in rfl) (fun _ hr => hr)) ?_
    simp (disch := decide) [Completes, exec, execChopTest, State.get_set_self, State.get_set_other, hv]
  · refine completes_of_frame (execWeirChopOpen_frame (parts_in rfl) (fun _ hr => hr)) ?_
    simp (disch := decide +kernel) [Completes, exec, execWeirChopOpen, State.is, State.weirFault_get, State.weirFault_latched,
      State.get_set_self, State.get_set_other, hon]
  · refine completes_of_frame (execWeirChopShort_frame (parts_in rfl) (fun _ hr => hr)) ?_
    simp (disch := decide +kernel) [Completes, exec, execWeirChopShort, State.is, State.weirFault_get, State.weirFault_latched,
      State.get_set_self, State.get_set_other, hoff]
  · refine completes_of_frame (execWeirOvBus_frame (parts_in rfl) (fun _ hr => hr)) ?_
    by_cases hon : s.get .WEIR_STATUS_CHOP_ON = 0
    all_goals simp (disch := decide +kernel) [Completes, exec, execWeirOvBus, State.is, State.when, State.incSat, State.weirFault_get,
      State.weirFault_latched, State.get_set_self, State.get_set_other, hok, hon]
  · refine completes_of_frame (execWeirV5Low_frame (parts_in rfl) (fun _ hr => hr)) ?_
    simp (disch := decide +kernel) [Completes, exec, execWeirV5Low, State.weirFault_get, State.weirFault_latched, State.get_set_self,
      State.get_set_other]
  · refine completes_of_frame (execWeirMinV12Read_frame (y0 := who) (parts_in rfl) (fun _ hr => hr)) ?_
    simp (disch := decide) [Completes, exec, execWeirMinV12Read, State.get_set_self, State.get_set_other]
end Sys2Proof.Machine
end

section
set_option Elab.async false
/-! THE SPINDLE AND THE RETRACTS (03). A change of the spindle's state writes STATE and the bridge (R60); what Tide and the sectors lose by it
leaves both alone. A retract on every section that is not parked shows in RET_ACTIVE (R79, R80). -/

namespace Sys2Proof.Machine

variable {s : State} {g : Fld}

/-! ### Loops over sections and streams -/

theorem State.forN_succ (k : Nat) (f : Nat → State → State) : s.forN (k + 1) f = f k (s.forN k f) := by
  simp [State.forN, List.range_succ]

theorem State.forN_inv {Inv : State → Prop} {f : Nat → State → State} {k : Nat} (h0 : Inv s)
    (h : ∀ j < k, ∀ t, Inv t → Inv (f j t)) : Inv (s.forN k f) := by
  induction k with
  | zero => exact h0
  | succ k ih =>
    rw [State.forN_succ]
    exact h k (Nat.lt_succ_self k) _ (ih (fun j hj => h j (Nat.lt_succ_of_lt hj)))

/-- A loop leaves `P` behind where its `i`-th turn brings `P` about on states that meet `Inv`, and every turn keeps both. -/
theorem State.forN_reaches {Inv P : State → Prop} {f : Nat → State → State} {i k : Nat} (hi : i < k) (h0 : Inv s)
    (hInv : ∀ j < k, ∀ t, Inv t → Inv (f j t)) (hset : ∀ t, Inv t → P (f i t)) (hkeep : ∀ j < k, ∀ t, P t → P (f j t)) :
    P (s.forN k f) := by
  induction k with
  | zero => exact absurd hi (Nat.not_lt_zero i)
  | succ k ih =>
    rw [State.forN_succ]
    rcases Nat.lt_succ_iff_lt_or_eq.1 hi with hlt | rfl
    · exact hkeep k (Nat.lt_succ_self k) _ (ih hlt (fun j hj => hInv j (Nat.lt_succ_of_lt hj)) (fun j hj => hkeep j (Nat.lt_succ_of_lt hj)))
    · exact hset _ (State.forN_inv h0 (fun j hj => hInv j (Nat.lt_succ_of_lt hj)))

/-! ### What the shared operations leave alone -/

theorem State.tideFree_get (h : (haltRegs ++ ([.fld .TIDE_STATUS_STATE, .fld .TIDE_CELL_PERIOD_PERIOD, .fld .WTH_SPN_MEAS_TRACK] : List
    Regs)).all (fun r => r.apartB g) = true) : s.tideFree.get g = s.get g :=
  (State.tideFree_frame (fun _ hp => hp) (fun _ hr => hr) (Frame.refl _ _ s)).get h

@[simp] theorem State.tideFree_withy : s.tideFree.withy = s.withy :=
  (State.tideFree_frame (fun _ hp => hp) regsIn_all (Frame.refl _ _ s)).same .withy (by decide)

@[simp] theorem State.tideFree_lev : s.tideFree.lev = s.lev :=
  (State.tideFree_frame (fun _ hp => hp) regsIn_all (Frame.refl _ _ s)).same .lev (by decide)

theorem State.inhibitDrop_get {n : ℕ} {cause : ℕ} (h : ([.fld .SDG_WF_STATUS_CAUSE_SEEN, .arr (.SDG_WR_STATUS_WG 0) 0x400 8, .arr
    (.SDG_WR_STATUS_CAUSE 0) 0x400 8, .arr (.SDG_WR_STATUS_DROPS 0) 0x400 8, .arr (.SDG_WR_DROP_MANG 0) 0x400 8] : List Regs).all (fun r
    => r.apartB g) = true) : (s.inhibitDrop n cause).get g = s.get g :=
  (State.inhibitDrop_frame (fun _ hp => hp) (fun _ hr => hr) (Frame.refl _ _ s)).get h

theorem State.startRetract_get {k : ℕ} (h : ([.fld .SDG_WF_STATUS_CAUSE_SEEN, .arr (.SDG_WR_STATUS_WG 0) 0x400 8, .arr
    (.SDG_WR_STATUS_CAUSE 0) 0x400 8, .arr (.SDG_WR_STATUS_DROPS 0) 0x400 8, .arr (.SDG_WR_DROP_MANG 0) 0x400 8, .arr
    (.WTH_VCM_STATUS_RET_ACTIVE 0) 0x4 4, .arr (.WTH_VCM_STATUS_ENABLED 0) 0x4 4, .arr (.WTH_MA_CTRL_HOLD 0) 0x4 8, .arr
    (.WTH_MA_STATUS_VOUT 0) 0x4 8] : List Regs).all (fun r => r.apartB g) = true) : (s.startRetract k).get g = s.get g :=
  (State.startRetract_frame (fun _ hp => hp) (fun _ hr => hr) (Frame.refl _ _ s)).get h

@[simp] theorem State.startRetract_bus {k : ℕ} : (s.startRetract k).bus = s.bus :=
  (State.startRetract_frame (fun _ hp => hp) regsIn_all (Frame.refl _ _ s)).same .bus (by decide)

@[simp] theorem State.startRetract_weir {k : ℕ} : (s.startRetract k).weir = s.weir :=
  (State.startRetract_frame (fun _ hp => hp) regsIn_all (Frame.refl _ _ s)).same .weir (by decide)

theorem State.retractAll_get (h : ([.fld .SDG_WF_STATUS_CAUSE_SEEN, .arr (.SDG_WR_STATUS_WG 0) 0x400 8, .arr (.SDG_WR_STATUS_CAUSE 0)
    0x400 8, .arr (.SDG_WR_STATUS_DROPS 0) 0x400 8, .arr (.SDG_WR_DROP_MANG 0) 0x400 8, .arr (.WTH_VCM_STATUS_RET_ACTIVE 0) 0x4 4, .arr
    (.WTH_VCM_STATUS_ENABLED 0) 0x4 4, .arr (.WTH_MA_CTRL_HOLD 0) 0x4 8, .arr (.WTH_MA_STATUS_VOUT 0) 0x4 8] : List Regs).all (fun r =>
    r.apartB g) = true) : s.retractAll.get g = s.get g :=
  (State.retractAll_frame (fun _ hp => hp) (fun _ hr => hr) (Frame.refl _ _ s)).get h

@[simp] theorem State.retractAll_bus : s.retractAll.bus = s.bus :=
  (State.retractAll_frame (fun _ hp => hp) regsIn_all (Frame.refl _ _ s)).same .bus (by decide)

@[simp] theorem State.retractAll_lev : s.retractAll.lev = s.lev :=
  (State.retractAll_frame (fun _ hp => hp) regsIn_all (Frame.refl _ _ s)).same .lev (by decide)

@[simp] theorem State.retractAll_tus : s.retractAll.tus = s.tus :=
  (State.retractAll_frame (fun _ hp => hp) regsIn_all (Frame.refl _ _ s)).same .tus (by decide)

@[simp] theorem State.retractAll_mq : s.retractAll.mq = s.mq :=
  (State.retractAll_frame (fun _ hp => hp) regsIn_all (Frame.refl _ _ s)).same .mq (by decide)

@[simp] theorem State.retractAll_slu : s.retractAll.slu = s.slu :=
  (State.retractAll_frame (fun _ hp => hp) regsIn_all (Frame.refl _ _ s)).same .slu (by decide)

@[simp] theorem State.retractAll_sth : s.retractAll.sth = s.sth :=
  (State.retractAll_frame (fun _ hp => hp) regsIn_all (Frame.refl _ _ s)).same .sth (by decide)

theorem State.judgeSpeed_get (h : (haltRegs ++ ([.fld .TIDE_STATUS_STATE, .fld .WTH_SPN_STATUS_SPD95, .fld .WTH_SPN_STATUS_SPD90, .fld
    .WTH_SPN_MEAS_TRACK, .fld .MBX_START_STEP] : List Regs)).all (fun r => r.apartB g) = true) : s.judgeSpeed.get g = s.get g :=
  (State.judgeSpeed_frame (fun _ hp => hp) (fun _ hr => hr) (Frame.refl _ _ s)).get h

@[simp] theorem State.judgeSpeed_withy : s.judgeSpeed.withy = s.withy :=
  (State.judgeSpeed_frame (fun _ hp => hp) regsIn_all (Frame.refl _ _ s)).same .withy (by decide)

theorem State.elecPeriod_get {cycles : ℕ} (h : ([.fld .WTH_SPN_STATUS_AT_SPEED] : List Regs).all (fun r => r.apartB g) = true) :
    (s.elecPeriod cycles).get g = s.get g :=
  (State.elecPeriod_frame (fun _ hp => hp) (fun _ hr => hr) (Frame.refl _ _ s)).get h

@[simp] theorem State.elecPeriod_lev {cycles : ℕ} : (s.elecPeriod cycles).lev = s.lev :=
  (State.elecPeriod_frame (fun _ hp => hp) regsIn_all (Frame.refl _ _ s)).same .lev (by decide)

theorem State.spinTo_get {x : ℕ} {b : Bridge} (h : (haltRegs ++ ([.fld .TIDE_STATUS_STATE, .fld .TIDE_CELL_PERIOD_PERIOD, .fld
    .WTH_SPN_STATUS_STATE, .fld .WTH_SPN_STATUS_AT_SPEED, .fld .WTH_SPN_STATUS_FW_ACTIVE, .fld .WTH_SPN_STATUS_FW_SAT, .fld
    .WTH_SPN_STATUS_STOP_BLOCKED, .fld .WTH_SPN_MEAS_TRACK, .fld .WTH_SPN_FOC_ID, .fld .WTH_SPN_FOC_MI] : List Regs)).all (fun r =>
    r.apartB g) = true) : (s.spinTo x b).get g = s.get g :=
  (State.spinTo_frame (fun _ hp => hp) (fun _ hr => hr) (Frame.refl _ _ s)).get h

@[simp] theorem State.spinTo_bus {x : ℕ} {b : Bridge} : (s.spinTo x b).bus = s.bus :=
  (State.spinTo_frame (fun _ hp => hp) regsIn_all (Frame.refl _ _ s)).same .bus (by decide)

@[simp] theorem State.spinTo_lev {x : ℕ} {b : Bridge} : (s.spinTo x b).lev = s.lev :=
  (State.spinTo_frame (fun _ hp => hp) regsIn_all (Frame.refl _ _ s)).same .lev (by decide)

@[simp] theorem State.spinTo_weir {x : ℕ} {b : Bridge} : (s.spinTo x b).weir = s.weir :=
  (State.spinTo_frame (fun _ hp => hp) regsIn_all (Frame.refl _ _ s)).same .weir (by decide)

@[simp] theorem State.spinTo_tus {x : ℕ} {b : Bridge} : (s.spinTo x b).tus = s.tus :=
  (State.spinTo_frame (fun _ hp => hp) regsIn_all (Frame.refl _ _ s)).same .tus (by decide)

theorem State.spinFault_get {k source : Nat} (h : (alarmRegs ++ haltRegs).all (fun r => r.apartB g) = true) :
    (s.spinFault k source).get g = (s.set .WTH_FAULT_SPN (s.get .WTH_FAULT_SPN ||| 2 ^ k)).get g := State.raise_get h

@[simp] theorem State.spinFault_withy (k source : Nat) : (s.spinFault k source).withy = s.withy := State.raise_withy _ _ _

theorem State.spinFault_latched {k source : Nat} (h : (sourceRow source).isSome = true) :
    (s.spinFault k source).latched source 0 = true := State.raise_latched_true h

/-! ### The spindle's state and its bridge (R60) -/

@[simp] theorem State.bridgeTo_get (b : Bridge) : (s.bridgeTo b).get g = s.get g := State.get_mk

@[simp] theorem State.bridgeTo_bridge (b : Bridge) : (s.bridgeTo b).withy.bridge = b := rfl

@[simp] theorem State.spinTo_bridge (x : Nat) (b : Bridge) : (s.spinTo x b).withy.bridge = b := by
  unfold State.spinTo State.when
  repeat' split
  all_goals simp

@[simp] theorem State.spinTo_state (x : Nat) (b : Bridge) : (s.spinTo x b).get .WTH_SPN_STATUS_STATE = x % 2 ^ 4 := by
  unfold State.spinTo State.when
  repeat' split
  all_goals simp (disch := decide +kernel) only [State.tideFree_get, State.get_set_self, State.get_set_other, State.get_mk]

/-- Outside RUN no stop waits. -/
theorem State.spinTo_stopBlocked {x : Nat} (b : Bridge) (h : x ≠ 5) : (s.spinTo x b).get .WTH_SPN_STATUS_STOP_BLOCKED = 0 := by
  have hx : (x != 5) = true := by simpa using h
  unfold State.spinTo
  simp only [hx, State.when_true]
  unfold State.when
  split
  all_goals simp (disch := decide +kernel) [State.tideFree_get, State.get_set_self, State.get_set_other]

@[simp] theorem State.enterRun_state (speed : Nat) : (s.enterRun speed).get .WTH_SPN_STATUS_STATE = 5 := by
  simp (disch := decide +kernel) [State.enterRun, State.refFrom, State.measure, State.setIf, State.judgeSpeed_get, State.get_set_other]

@[simp] theorem State.enterRun_bridge (speed : Nat) : (s.enterRun speed).withy.bridge = .foc := by
  simp [State.enterRun, State.refFrom, State.measure]

theorem State.enterRun_speed (speed : Nat) :
    (s.enterRun speed).get .WTH_SPN_MEAS_SPEED = speed % 2 ^ Fld.WTH_SPN_MEAS_SPEED.width := by
  simp (disch := decide +kernel) only [State.enterRun, State.refFrom, State.measure, State.setIf, State.judgeSpeed_get, State.get_set_self,
    State.get_set_other, State.get_mk]

/-! ### The end of an observation (R63, R66) -/

/-- The rest threshold follows KE_NOM alone (R60). -/
theorem State.atRest_congr {t : State} {emf : Nat} (h : t.get .WTH_SPN_KE_KE_NOM = s.get .WTH_SPN_KE_KE_NOM) :
    t.atRest emf = s.atRest emf := by
  unfold State.atRest
  rw [h]

theorem State.set_atRest {f : Fld} {v emf : Nat} (h : (Regs.fld f).apartB .WTH_SPN_KE_KE_NOM = true) :
    (s.set f v).atRest emf = s.atRest emf := State.atRest_congr (State.get_set_other _ _ (Regs.apart_of_apartB h))

theorem State.measure_atRest {speed emf : Nat} : (s.measure speed).atRest emf = s.atRest emf := by
  rw [State.measure, State.setIf, State.set_atRest (by decide), State.set_atRest (by decide)]

/-- A check of the constant follows KE_NOM alone (R67). -/
theorem State.keBad_congr {t : State} {ke : Nat} (h : t.get .WTH_SPN_KE_KE_NOM = s.get .WTH_SPN_KE_KE_NOM) :
    t.keBad ke = s.keBad ke := by
  unfold State.keBad
  rw [h]

variable {emf speed : Nat} {reverse : Bool}

theorem State.afterObserve_of_rest (h : s.atRest emf = true) :
    s.afterObserve emf speed reverse = (s.measure speed).spinTo 3 (.align 60) := by
  simp [State.afterObserve, State.measure_atRest, h]

theorem State.afterObserve_of_reverse (h : s.atRest emf = false) (hrev : reverse = true) :
    s.afterObserve emf speed reverse = ((s.measure speed).set .WTH_SPN_STATUS_DIR_REV 1).spinTo 2 .lowSide := by
  simp [State.afterObserve, State.measure_atRest, h, hrev]

theorem State.afterObserve_of_slow (h : s.atRest emf = false) (hrev : reverse = false) (hslow : speed < 300 * 1024) :
    s.afterObserve emf speed reverse = (s.measure speed).spinTo 2 .lowSide := by
  have hlt : speed < 307200 := hslow
  simp [State.afterObserve, State.measure_atRest, h, hrev, hlt]

theorem State.afterObserve_of_fast (h : s.atRest emf = false) (hrev : reverse = false) (hfast : 300 * 1024 ≤ speed)
    (hcheck : speed < 1000 * 1024) : s.afterObserve emf speed reverse = (s.measure speed).enterRun speed := by
  have hge : ¬ speed < 307200 := Nat.not_lt.2 hfast
  have hlt : speed < 1024000 := hcheck
  simp [State.afterObserve, State.measure_atRest, h, hrev, hge, hlt]

/-- An overcurrent and a low gate supply turn the FETs off (R81): from BRAKE, RAMP, RUN and FAULT the spindle goes to FAULT. -/
theorem State.spinCut_of_driven (h : s.get .WTH_SPN_STATUS_STATE ∈ [2, 4, 5, 9]) : s.spinCut = s.spinTo 9 .off := by
  unfold State.spinCut State.spinIs
  rw [if_pos]
  simpa [or_assoc] using h

theorem State.spinCut_of_undriven (h : s.get .WTH_SPN_STATUS_STATE ∈ [0, 1, 3, 6, 7]) : s.spinCut = s.bridgeTo .off := by
  unfold State.spinCut State.spinIs
  simp only [List.mem_cons, List.not_mem_nil, or_false] at h
  rcases h with h | h | h | h | h <;> simp [h]

/-! ### Retracts (R79, R80) -/

theorem State.startRetract_parked (j k : Nat) : (s.startRetract j).get (.WTH_VCM_STATUS_PARKED k) = s.get (.WTH_VCM_STATUS_PARKED k) := by
  have hk : k % 4 < 4 := Nat.mod_lt _ (by decide)
  simp only [Fld.WTH_VCM_STATUS_PARKED]
  generalize k % 4 = i at hk
  exact State.startRetract_get (by revert i; decide +kernel)

theorem State.inhibitDrop_active (n cause k : Nat) :
    (s.inhibitDrop n cause).get (.WTH_VCM_STATUS_RET_ACTIVE k) = s.get (.WTH_VCM_STATUS_RET_ACTIVE k) := by
  have hk : k % 4 < 4 := Nat.mod_lt _ (by decide)
  simp only [Fld.WTH_VCM_STATUS_RET_ACTIVE]
  generalize k % 4 = i at hk
  exact State.inhibitDrop_get (by revert i; decide +kernel)

@[simp] theorem State.driveVcm_get (k : Nat) : (s.driveVcm k).get g = s.get g := State.get_mk

theorem State.holdMa_active (n k : Nat) : (s.holdMa n).get (.WTH_VCM_STATUS_RET_ACTIVE k) = s.get (.WTH_VCM_STATUS_RET_ACTIVE k) := by
  unfold State.holdMa
  rw [State.get_set_ne _ _ (by dsimp only; omega), State.get_set_ne _ _ (by dsimp only; omega)]

/-- The retract of section j sets RET_ACTIVE(j) and leaves the others. -/
theorem State.startRetract_active_eq (j k : Nat) : (s.startRetract j).get (.WTH_VCM_STATUS_RET_ACTIVE k) =
    if j % 4 = k % 4 then 1 else s.get (.WTH_VCM_STATUS_RET_ACTIVE k) := by
  have hsame (hjk : j % 4 = k % 4) : Fld.WTH_VCM_STATUS_RET_ACTIVE j = .WTH_VCM_STATUS_RET_ACTIVE k := by
    simp only [Fld.WTH_VCM_STATUS_RET_ACTIVE, hjk]
  unfold State.startRetract
  split
  case isTrue h =>
    split
    case isTrue hjk =>
      have hbit : s.get (.WTH_VCM_STATUS_RET_ACTIVE k) < 2 ^ 1 := s.get_lt _
      have hset : s.get (.WTH_VCM_STATUS_RET_ACTIVE k) ≠ 0 := by
        rw [← hsame hjk]
        simpa [State.is] using h
      omega
    case isFalse => rfl
  case isFalse h =>
    rw [State.inhibitDrop_active, State.inhibitDrop_active, State.driveVcm_get, State.holdMa_active, State.holdMa_active,
      State.get_set_other _ _ (by dsimp only; omega)]
    split
    case isTrue hjk =>
      rw [← hsame hjk]
      exact State.get_set_self _ _ _ (by simp)
    case isFalse hjk =>
      rw [State.get_set_ne _ _ (by dsimp only; omega)]
      rfl

theorem State.startRetract_active (k : Nat) : (s.startRetract k).get (.WTH_VCM_STATUS_RET_ACTIVE k) = 1 := by
  rw [State.startRetract_active_eq, if_pos rfl]

theorem State.startRetract_keeps_active (j k : Nat) (h : s.get (.WTH_VCM_STATUS_RET_ACTIVE k) = 1) :
    (s.startRetract j).get (.WTH_VCM_STATUS_RET_ACTIVE k) = 1 := by
  rw [State.startRetract_active_eq, h, ite_self]

/-- Every section that is not parked retracts. -/
theorem State.retractAll_active {k : Nat} (hk : k < 4) (h : s.get (.WTH_VCM_STATUS_PARKED k) = 0) :
    s.retractAll.get (.WTH_VCM_STATUS_RET_ACTIVE k) = 1 := by
  refine State.forN_reaches (Inv := fun t => t.get (.WTH_VCM_STATUS_PARKED k) = 0)
    (P := fun t => t.get (.WTH_VCM_STATUS_RET_ACTIVE k) = 1) hk h (fun j _ t ht => ?_) (fun t ht => ?_) (fun j _ t ht => ?_)
  · unfold State.when
    split
    · exact (State.startRetract_parked j k).trans ht
    · exact ht
  · simp [State.is, ht, State.startRetract_active]
  · unfold State.when
    split
    · exact State.startRetract_keeps_active j k ht
    · exact ht

theorem State.allParked_congr {t : State} (h : ∀ k, t.get (.WTH_VCM_STATUS_PARKED k) = s.get (.WTH_VCM_STATUS_PARKED k)) :
    t.allParked = s.allParked := by
  unfold State.allParked State.is
  simp only [h]

theorem State.spinTo_active (x k : Nat) (b : Bridge) :
    (s.spinTo x b).get (.WTH_VCM_STATUS_RET_ACTIVE k) = s.get (.WTH_VCM_STATUS_RET_ACTIVE k) := by
  have hk : k % 4 < 4 := Nat.mod_lt _ (by decide)
  simp only [Fld.WTH_VCM_STATUS_RET_ACTIVE]
  generalize k % 4 = i at hk
  exact State.spinTo_get (by revert i; decide +kernel)

theorem State.spinFault_active (j source k : Nat) :
    (s.spinFault j source).get (.WTH_VCM_STATUS_RET_ACTIVE k) = s.get (.WTH_VCM_STATUS_RET_ACTIVE k) := by
  have hk : k % 4 < 4 := Nat.mod_lt _ (by decide)
  simp only [Fld.WTH_VCM_STATUS_RET_ACTIVE]
  generalize k % 4 = i at hk
  rw [State.spinFault_get (by revert i; decide +kernel), State.get_set_ne _ _ (by dsimp only; omega)]

end Sys2Proof.Machine
end

section
set_option Elab.async false
/-! WHAT THE SHARED OPERATIONS LEAVE ALONE, read off their frames: a field outside the registers that an operation writes, and each part of the
state outside those it writes. -/

namespace Sys2Proof.Machine

variable {s : State} {g : Fld}

theorem State.mwqSync_get (h : ([.arr (.MWQ_STATUS_BLOCKED 0) 0x20 16, .arr (.MWQ_STATUS_OUTST 0) 0x20 16, .fld .MWQ_SYS_STATUS_FLUSH,
    .fld .MWQ_SYS_STATUS_CAL] : List Regs).all (fun r => r.apartB g) = true) : s.mwqSync.get g = s.get g :=
  (State.mwqSync_frame (W := []) (fun _ hr => hr) (Frame.refl _ _ s)).get h

@[simp] theorem State.mwqSync_withy : s.mwqSync.withy = s.withy :=
  (State.mwqSync_frame (W := []) regsIn_all (Frame.refl _ _ s)).same .withy (by decide)

@[simp] theorem State.mwqSync_bus : s.mwqSync.bus = s.bus :=
  (State.mwqSync_frame (W := []) regsIn_all (Frame.refl _ _ s)).same .bus (by decide)

@[simp] theorem State.mwqSync_lev : s.mwqSync.lev = s.lev :=
  (State.mwqSync_frame (W := []) regsIn_all (Frame.refl _ _ s)).same .lev (by decide)

@[simp] theorem State.mwqSync_mireIrq : s.mwqSync.mireIrq = s.mireIrq :=
  (State.mwqSync_frame (W := []) regsIn_all (Frame.refl _ _ s)).same .mireIrq (by decide)

theorem State.parkSeen_get {k : ℕ} (h : (alarmRegs ++ haltRegs ++ ([.arr (.MWQ_STATUS_BLOCKED 0) 0x20 16, .arr (.MWQ_STATUS_OUTST 0)
    0x20 16, .arr (.MWC_PI_PASS 0) 0x20 4, .arr (.MWC_PI_PI 0) 0x20 4, .arr (.MWC_STATUS_SCAN_STOP 0) 0x20 4, .arr
    (.MWC_STATUS_SPILL_CNT 0) 0x20 4, .fld .MWQ_SYS_STATUS_FLUSH, .fld .MWQ_SYS_STATUS_CAL, .fld .SLU_STATUS_LED_FREE, .arr
    (.SLU_SEC_FREE_FREE 0) 0x4 4, .arr (.SLU_SEC_RUN_RUN 0) 0x4 4, .arr (.SLU_CRED_USED_USED 0) 0x4 32] : List Regs)).all (fun r =>
    r.apartB g) = true) : (s.parkSeen k).get g = s.get g :=
  (State.parkSeen_frame (fun _ hp => hp) (fun _ hr => hr) (Frame.refl _ _ s)).get h

@[simp] theorem State.parkSeen_withy {k : ℕ} : (s.parkSeen k).withy = s.withy :=
  (State.parkSeen_frame (fun _ hp => hp) regsIn_all (Frame.refl _ _ s)).same .withy (by decide)

@[simp] theorem State.parkSeen_bus {k : ℕ} : (s.parkSeen k).bus = s.bus :=
  (State.parkSeen_frame (fun _ hp => hp) regsIn_all (Frame.refl _ _ s)).same .bus (by decide)

@[simp] theorem State.inhibitDrop_withy {n : ℕ} {cause : ℕ} : (s.inhibitDrop n cause).withy = s.withy :=
  (State.inhibitDrop_frame (fun _ hp => hp) regsIn_all (Frame.refl _ _ s)).same .withy (by decide)

@[simp] theorem State.inhibitDrop_links {n : ℕ} {cause : ℕ} : (s.inhibitDrop n cause).links = s.links :=
  (State.inhibitDrop_frame (fun _ hp => hp) regsIn_all (Frame.refl _ _ s)).same .links (by decide)

theorem State.driveMa_get {n : ℕ} (h : ([.arr (.WTH_MA_STATUS_VOUT 0) 0x4 8] : List Regs).all (fun r => r.apartB g) = true) : (s.driveMa
    n).get g = s.get g :=
  (State.driveMa_frame (W := []) (fun _ hr => hr) (Frame.refl _ _ s)).get h

@[simp] theorem State.driveMa_bus {n : ℕ} : (s.driveMa n).bus = s.bus :=
  (State.driveMa_frame (W := []) regsIn_all (Frame.refl _ _ s)).same .bus (by decide)

@[simp] theorem State.endFragment_get {n : ℕ} {f : VfyEntry → VfyEntry} : (s.endFragment n f).get g = s.get g :=
    (State.endFragment_frame (R := []) (fun _ hp => hp) (Frame.refl _ _ s)).get rfl

@[simp] theorem State.endFragment_mireIrq {n : ℕ} {f : VfyEntry → VfyEntry} : (s.endFragment n f).mireIrq = s.mireIrq :=
  (State.endFragment_frame (R := []) (fun _ hp => hp) (Frame.refl _ _ s)).same .mireIrq (by decide)

theorem State.dropWg_get {n : ℕ} {cause : ℕ} (h : ([.fld .SDG_WF_STATUS_CAUSE_SEEN, .arr (.SDG_WR_STATUS_WG 0) 0x400 8, .arr
    (.SDG_WR_STATUS_CAUSE 0) 0x400 8, .arr (.SDG_WR_STATUS_DROPS 0) 0x400 8, .arr (.SDG_WR_DROP_MANG 0) 0x400 8] : List Regs).all (fun r
    => r.apartB g) = true) : (s.dropWg n cause).get g = s.get g :=
  (State.dropWg_frame (fun _ hp => hp) (fun _ hr => hr) (Frame.refl _ _ s)).get h

@[simp] theorem State.dropWg_mireIrq {n : ℕ} {cause : ℕ} : (s.dropWg n cause).mireIrq = s.mireIrq :=
  (State.dropWg_frame (fun _ hp => hp) regsIn_all (Frame.refl _ _ s)).same .mireIrq (by decide)

theorem State.dropGates_get {n : ℕ} {cause : ℕ} (h : ([.fld .SDG_WF_STATUS_CAUSE_SEEN, .arr (.SDG_WR_STATUS_WG 0) 0x400 8, .arr
    (.SDG_WR_STATUS_CAUSE 0) 0x400 8, .arr (.SDG_WR_STATUS_DROPS 0) 0x400 8, .arr (.SDG_WR_DROP_MANG 0) 0x400 8] : List Regs).all (fun r
    => r.apartB g) = true) : (s.dropGates n cause).get g = s.get g :=
  (State.dropGates_frame (fun _ hp => hp) (fun _ hr => hr) (Frame.refl _ _ s)).get h

@[simp] theorem State.dropGates_mireIrq {n : ℕ} {cause : ℕ} : (s.dropGates n cause).mireIrq = s.mireIrq :=
  (State.dropGates_frame (fun _ hp => hp) regsIn_all (Frame.refl _ _ s)).same .mireIrq (by decide)

theorem State.endDefects_get {n : ℕ} (h : ([.arr (.SDG_FE_STATUS_TA_ACTIVE 0) 0x400 8, .arr (.SDG_FE_STATUS_DO_ACTIVE 0) 0x400 8] : List
    Regs).all (fun r => r.apartB g) = true) : (s.endDefects n).get g = s.get g :=
  (State.endDefects_frame (fun _ hp => hp) (fun _ hr => hr) (Frame.refl _ _ s)).get h

@[simp] theorem State.endDefects_mireIrq {n : ℕ} : (s.endDefects n).mireIrq = s.mireIrq :=
  (State.endDefects_frame (fun _ hp => hp) regsIn_all (Frame.refl _ _ s)).same .mireIrq (by decide)

theorem State.stgStatus_get {n : ℕ} (h : ([.arr (.SLU_STG_STATUS_ACTIVE 0) 0x4 8, .arr (.SLU_STG_STATUS_DIR 0) 0x4 8, .arr
    (.SLU_STG_STATUS_RESV 0) 0x4 8, .arr (.SLU_STG_STATUS_READY 0) 0x4 8] : List Regs).all (fun r => r.apartB g) = true) : (s.stgStatus
    n).get g = s.get g :=
  (State.stgStatus_frame (W := []) (fun _ hr => hr) (Frame.refl _ _ s)).get h

@[simp] theorem State.stgStatus_mireIrq {n : ℕ} : (s.stgStatus n).mireIrq = s.mireIrq :=
  (State.stgStatus_frame (W := []) regsIn_all (Frame.refl _ _ s)).same .mireIrq (by decide)

@[simp] theorem State.stgStatus_slu {n : ℕ} : (s.stgStatus n).slu = s.slu :=
  (State.stgStatus_frame (W := []) regsIn_all (Frame.refl _ _ s)).same .slu (by decide)

@[simp] theorem State.react_mireIrq {code : ℕ} {inst : ℕ} {r : ℕ} : (s.react code inst r).mireIrq = s.mireIrq :=
  (State.react_frame (fun _ hp => hp) regsIn_all (Frame.refl _ _ s)).same .mireIrq (by decide)

@[simp] theorem State.react_seqs {code : ℕ} {inst : ℕ} {r : ℕ} : (s.react code inst r).seqs = s.seqs :=
  (State.react_frame (fun _ hp => hp) regsIn_all (Frame.refl _ _ s)).same .seqs (by decide)

@[simp] theorem State.writeHistory_mireIrq {e : List Byte} : (s.writeHistory e).mireIrq = s.mireIrq :=
  (State.writeHistory_frame (fun _ hp => hp) regsIn_all (Frame.refl _ _ s)).same .mireIrq (by decide)

@[simp] theorem State.writeHistory_seqs {e : List Byte} : (s.writeHistory e).seqs = s.seqs :=
  (State.writeHistory_frame (fun _ hp => hp) regsIn_all (Frame.refl _ _ s)).same .seqs (by decide)

theorem State.levStatus_get (h : ([.fld .LEV_STATUS_F_LATCHED, .fld .LEV_STATUS_ERROR, .fld .LEV_STATUS_ALIVE_RUN] : List Regs).all (fun
    r => r.apartB g) = true) : s.levStatus.get g = s.get g :=
  (State.levStatus_frame (W := []) (fun _ hr => hr) (Frame.refl _ _ s)).get h

@[simp] theorem State.levStatus_mireIrq : s.levStatus.mireIrq = s.mireIrq :=
  (State.levStatus_frame (W := []) regsIn_all (Frame.refl _ _ s)).same .mireIrq (by decide)

@[simp] theorem State.levStatus_seqs : s.levStatus.seqs = s.seqs :=
  (State.levStatus_frame (W := []) regsIn_all (Frame.refl _ _ s)).same .seqs (by decide)

theorem State.unfreeze_get {a : ℕ} (h : ([.fld .PEAT_STATUS_STAMP_WAIT, .fld .PEAT_STATUS_HELD, .fld .PEAT_STATUS_USED, .fld
    .PEAT_FRZ_AREA] : List Regs).all (fun r => r.apartB g) = true) : (s.unfreeze a).get g = s.get g :=
  (State.unfreeze_frame (W := []) (fun _ hr => hr) (Frame.refl _ _ s)).get h

@[simp] theorem State.unfreeze_weir {a : ℕ} : (s.unfreeze a).weir = s.weir :=
  (State.unfreeze_frame (W := []) regsIn_all (Frame.refl _ _ s)).same .weir (by decide)

@[simp] theorem State.unfreeze_mireIrq {a : ℕ} : (s.unfreeze a).mireIrq = s.mireIrq :=
  (State.unfreeze_frame (W := []) regsIn_all (Frame.refl _ _ s)).same .mireIrq (by decide)

@[simp] theorem State.unfreeze_seqs {a : ℕ} : (s.unfreeze a).seqs = s.seqs :=
  (State.unfreeze_frame (W := []) regsIn_all (Frame.refl _ _ s)).same .seqs (by decide)

theorem State.spinCommit_get (h : (haltRegs ++ ([.fld .TIDE_STATUS_STATE, .fld .TIDE_CELL_PERIOD_PERIOD, .fld .WTH_SPN_STATUS_STATE,
    .fld .WTH_SPN_STATUS_AT_SPEED, .fld .WTH_SPN_STATUS_FW_ACTIVE, .fld .WTH_SPN_STATUS_FW_SAT, .fld .WTH_SPN_STATUS_STOP_BLOCKED, .fld
    .WTH_SPN_STATUS_HOLD_COLLAPSE, .fld .WTH_SPN_MEAS_TRACK, .fld .WTH_SPN_FOC_ID, .fld .WTH_SPN_FOC_MI] : List Regs)).all (fun r =>
    r.apartB g) = true) : s.spinCommit.get g = s.get g :=
  (State.spinCommit_frame (fun _ hp => hp) (fun _ hr => hr) (Frame.refl _ _ s)).get h

@[simp] theorem State.spinCommit_weir : s.spinCommit.weir = s.weir :=
  (State.spinCommit_frame (fun _ hp => hp) regsIn_all (Frame.refl _ _ s)).same .weir (by decide)

@[simp] theorem State.spinCommit_warmBusy : s.spinCommit.warmBusy = s.warmBusy :=
  (State.spinCommit_frame (fun _ hp => hp) regsIn_all (Frame.refl _ _ s)).same .warmBusy (by decide)

theorem State.pfTerminate_get (h : haltRegs.all (fun r => r.apartB g) = true) : s.pfTerminate.get g = s.get g :=
  (State.pfTerminate_frame (fun _ hp => hp) (fun _ hr => hr) (Frame.refl _ _ s)).get h

@[simp] theorem State.pfTerminate_weir : s.pfTerminate.weir = s.weir :=
  (State.pfTerminate_frame (fun _ hp => hp) regsIn_all (Frame.refl _ _ s)).same .weir (by decide)

theorem State.commitContexts_get (h : ([.arr (.REED_ST_CTRL_ABORT 0) 0x100 8, .fld .STH_STATUS_QUIESCED, .fld .STH_STATUS_LIVE, .fld
    .STH_LOCK_STATUS_WAITING, .fld .STH_LOCK_STATUS_HELD, .fld .STH_FATE_STATUS_UNRESOLVED, .fld .STH_FATE_STATUS_RECORDS, .fld
    .STH_FATE_DROP_COUNT, .fld .SLU_STATUS_LED_FREE, .arr (.SLU_SEC_FREE_FREE 0) 0x4 4, .arr (.SLU_SEC_RUN_RUN 0) 0x4 4, .arr
    (.SLU_CRED_USED_USED 0) 0x4 32] : List Regs).all (fun r => r.apartB g) = true) : s.commitContexts.get g = s.get g :=
  (State.commitContexts_frame (fun _ hp => hp) (fun _ hr => hr) (Frame.refl _ _ s)).get h

@[simp] theorem State.commitContexts_weir : s.commitContexts.weir = s.weir :=
  (State.commitContexts_frame (fun _ hp => hp) regsIn_all (Frame.refl _ _ s)).same .weir (by decide)

theorem State.commitFirmware_get (h : (alarmRegs ++ haltRegs ++ ([.arr (.MBX_DONE_DONE 0) 0x4 2, .grid (.MBX_RSP_DATA 0 0) 0x400 64 0x4
    64, .arr (.MBX_STAT_CANCEL_REQ 0) 0x400 64, .arr (.MBX_STAT_STARTED 0) 0x400 64, .arr (.MBX_STAT_STATE 0) 0x400 64, .arr
    (.MBX_LATCH_RSP_STATUS 0) 0x400 64, .arr (.MWQ_STATUS_BLOCKED 0) 0x20 16, .arr (.MWQ_STATUS_OUTST 0) 0x20 16, .arr (.MWC_PI_PASS 0)
    0x20 4, .arr (.MWC_PI_PI 0) 0x20 4, .arr (.MWC_STATUS_SCAN_STOP 0) 0x20 4, .arr (.MWC_STATUS_SPILL_CNT 0) 0x20 4] : List Regs) ++
    ([.fld .MWQ_SYS_STATUS_FLUSH, .fld .MWQ_SYS_STATUS_CAL, .fld .SLU_STATUS_LED_FREE, .arr (.SLU_SEC_FREE_FREE 0) 0x4 4, .arr
    (.SLU_SEC_RUN_RUN 0) 0x4 4, .arr (.SLU_CRED_USED_USED 0) 0x4 32, .fld .DYKE_SLOT_INACTIVE, .fld .MBX_START_RESULT, .fld
    .MBX_START_CAUSE, .fld .MBX_START_FAILED, .fld .MBX_START_LOADED] : List Regs)).all (fun r => r.apartB g) = true) :
    s.commitFirmware.get g = s.get g :=
  (State.commitFirmware_frame (fun _ hp => hp) (fun _ hr => hr) (Frame.refl _ _ s)).get h

@[simp] theorem State.commitFirmware_weir : s.commitFirmware.weir = s.weir :=
  (State.commitFirmware_frame (fun _ hp => hp) regsIn_all (Frame.refl _ _ s)).same .weir (by decide)

theorem State.writeDeferred_get (h : ([.fld .STH_FATE_STATUS_UNRESOLVED, .fld .STH_FATE_STATUS_RECORDS, .fld .STH_FATE_DROP_COUNT] :
    List Regs).all (fun r => r.apartB g) = true) : s.writeDeferred.get g = s.get g :=
  (State.writeDeferred_frame (fun _ hp => hp) (fun _ hr => hr) (Frame.refl _ _ s)).get h

@[simp] theorem State.writeDeferred_slu : s.writeDeferred.slu = s.slu :=
  (State.writeDeferred_frame (fun _ hp => hp) regsIn_all (Frame.refl _ _ s)).same .slu (by decide)

@[simp] theorem State.writeDeferred_weir : s.writeDeferred.weir = s.weir :=
  (State.writeDeferred_frame (fun _ hp => hp) regsIn_all (Frame.refl _ _ s)).same .weir (by decide)

@[simp] theorem State.writeDeferred_mq : s.writeDeferred.mq = s.mq :=
  (State.writeDeferred_frame (fun _ hp => hp) regsIn_all (Frame.refl _ _ s)).same .mq (by decide)

@[simp] theorem State.mirrorFates_get : s.mirrorFates.get g = s.get g := (State.mirrorFates_frame (R := []) (fun _ hp => hp) (Frame.refl
    _ _ s)).get rfl

@[simp] theorem State.mirrorFates_slu : s.mirrorFates.slu = s.slu :=
  (State.mirrorFates_frame (R := []) (fun _ hp => hp) (Frame.refl _ _ s)).same .slu (by decide)

@[simp] theorem State.mirrorFates_weir : s.mirrorFates.weir = s.weir :=
  (State.mirrorFates_frame (R := []) (fun _ hp => hp) (Frame.refl _ _ s)).same .weir (by decide)

@[simp] theorem State.mirrorFates_mq : s.mirrorFates.mq = s.mq :=
  (State.mirrorFates_frame (R := []) (fun _ hp => hp) (Frame.refl _ _ s)).same .mq (by decide)

theorem State.endFlushing_get (h : (([.fld .SDG_WF_STATUS_CAUSE_SEEN, .arr (.SDG_WR_STATUS_WG 0) 0x400 8, .arr (.SDG_WR_STATUS_CAUSE 0)
    0x400 8, .arr (.SDG_WR_STATUS_DROPS 0) 0x400 8, .arr (.SDG_WR_DROP_MANG 0) 0x400 8, .arr (.WTH_VCM_STATUS_RET_ACTIVE 0) 0x4 4, .arr
    (.WTH_VCM_STATUS_ENABLED 0) 0x4 4, .arr (.WTH_MA_CTRL_HOLD 0) 0x4 8, .arr (.WTH_MA_STATUS_VOUT 0) 0x4 8, .arr (.MWQ_STATUS_BLOCKED
    0) 0x20 16, .arr (.MWQ_STATUS_OUTST 0) 0x20 16, .fld .MWQ_SYS_STATUS_FLUSH] : List Regs) ++ ([.fld .MWQ_SYS_STATUS_CAL, .fld
    .STH_FATE_STATUS_UNRESOLVED, .fld .STH_FATE_STATUS_RECORDS, .fld .STH_FATE_DROP_COUNT] : List Regs)).all (fun r => r.apartB g) =
    true) : s.endFlushing.get g = s.get g :=
  (State.endFlushing_frame (fun _ hp => hp) (fun _ hr => hr) (Frame.refl _ _ s)).get h

@[simp] theorem State.endFlushing_weir : s.endFlushing.weir = s.weir :=
  (State.endFlushing_frame (fun _ hp => hp) regsIn_all (Frame.refl _ _ s)).same .weir (by decide)

@[simp] theorem State.endFlushing_lev : s.endFlushing.lev = s.lev :=
  (State.endFlushing_frame (fun _ hp => hp) regsIn_all (Frame.refl _ _ s)).same .lev (by decide)

@[simp] theorem State.endFlushing_mireIrq : s.endFlushing.mireIrq = s.mireIrq :=
  (State.endFlushing_frame (fun _ hp => hp) regsIn_all (Frame.refl _ _ s)).same .mireIrq (by decide)

theorem State.stageRecord_get {stream : ℕ} {type_ : ℕ} {body : List Byte} (h : ([.fld .PEAT_STATUS_FLUSHING, .fld .PEAT_STATUS_STG_LOSS,
    .fld .PEAT_STATUS_STAMP_WAIT, .fld .PEAT_STATUS_HELD, .fld .PEAT_STATUS_USED, .arr (.PEAT_RSEQ_LOST 0) 0x4 5, .arr (.PEAT_RSEQ_NEXT
    0) 0x4 5] : List Regs).all (fun r => r.apartB g) = true) : (s.stageRecord stream type_ body).get g = s.get g :=
  (State.stageRecord_frame (fun _ hp => hp) (fun _ hr => hr) (Frame.refl _ _ s)).get h

@[simp] theorem State.stageRecord_mireIrq {stream : ℕ} {type_ : ℕ} {body : List Byte} : (s.stageRecord stream type_ body).mireIrq =
    s.mireIrq :=
  (State.stageRecord_frame (fun _ hp => hp) regsIn_all (Frame.refl _ _ s)).same .mireIrq (by decide)

@[simp] theorem State.stageRecord_seqs {stream : ℕ} {type_ : ℕ} {body : List Byte} : (s.stageRecord stream type_ body).seqs = s.seqs :=
  (State.stageRecord_frame (fun _ hp => hp) regsIn_all (Frame.refl _ _ s)).same .seqs (by decide)

theorem State.startFlush_get (h : ([.fld .PEAT_STATUS_FLUSHING] : List Regs).all (fun r => r.apartB g) = true) : s.startFlush.get g =
    s.get g :=
  (State.startFlush_frame (fun _ hp => hp) (fun _ hr => hr) (Frame.refl _ _ s)).get h

@[simp] theorem State.startFlush_mireIrq : s.startFlush.mireIrq = s.mireIrq :=
  (State.startFlush_frame (fun _ hp => hp) regsIn_all (Frame.refl _ _ s)).same .mireIrq (by decide)

@[simp] theorem State.startFlush_seqs : s.startFlush.seqs = s.seqs :=
  (State.startFlush_frame (fun _ hp => hp) regsIn_all (Frame.refl _ _ s)).same .seqs (by decide)

theorem State.terminate_get {n : ℕ} {term : ℕ} {cause : ℕ} (h : haltRegs.all (fun r => r.apartB g) = true) : (s.terminate n term
    cause).get g = s.get g :=
  (State.terminate_frame (fun _ hp => hp) (fun _ hr => hr) (Frame.refl _ _ s)).get h

@[simp] theorem State.terminate_weir {n : ℕ} {term : ℕ} {cause : ℕ} : (s.terminate n term cause).weir = s.weir :=
  (State.terminate_frame (fun _ hp => hp) regsIn_all (Frame.refl _ _ s)).same .weir (by decide)

@[simp] theorem State.terminate_lev {n : ℕ} {term : ℕ} {cause : ℕ} : (s.terminate n term cause).lev = s.lev :=
  (State.terminate_frame (fun _ hp => hp) regsIn_all (Frame.refl _ _ s)).same .lev (by decide)

@[simp] theorem State.terminate_mq {n : ℕ} {term : ℕ} {cause : ℕ} : (s.terminate n term cause).mq = s.mq :=
  (State.terminate_frame (fun _ hp => hp) regsIn_all (Frame.refl _ _ s)).same .mq (by decide)

@[simp] theorem State.terminate_slu {n : ℕ} {term : ℕ} {cause : ℕ} : (s.terminate n term cause).slu = s.slu :=
  (State.terminate_frame (fun _ hp => hp) regsIn_all (Frame.refl _ _ s)).same .slu (by decide)

@[simp] theorem State.terminate_links {n : ℕ} {term : ℕ} {cause : ℕ} : (s.terminate n term cause).links = s.links :=
  (State.terminate_frame (fun _ hp => hp) regsIn_all (Frame.refl _ _ s)).same .links (by decide)

theorem State.sluStatus_get (h : ([.fld .SLU_STATUS_LED_FREE, .arr (.SLU_SEC_FREE_FREE 0) 0x4 4, .arr (.SLU_SEC_RUN_RUN 0) 0x4 4, .arr
    (.SLU_CRED_USED_USED 0) 0x4 32] : List Regs).all (fun r => r.apartB g) = true) : s.sluStatus.get g = s.get g :=
  (State.sluStatus_frame (W := []) (fun _ hr => hr) (Frame.refl _ _ s)).get h

@[simp] theorem State.sluStatus_slu : s.sluStatus.slu = s.slu :=
  (State.sluStatus_frame (W := []) regsIn_all (Frame.refl _ _ s)).same .slu (by decide)

@[simp] theorem State.sluStatus_mq : s.sluStatus.mq = s.mq :=
  (State.sluStatus_frame (W := []) regsIn_all (Frame.refl _ _ s)).same .mq (by decide)

@[simp] theorem State.spinTo_slu {x : ℕ} {b : Bridge} : (s.spinTo x b).slu = s.slu :=
  (State.spinTo_frame (fun _ hp => hp) regsIn_all (Frame.refl _ _ s)).same .slu (by decide)

@[simp] theorem State.spinTo_mq {x : ℕ} {b : Bridge} : (s.spinTo x b).mq = s.mq :=
  (State.spinTo_frame (fun _ hp => hp) regsIn_all (Frame.refl _ _ s)).same .mq (by decide)

@[simp] theorem State.startRetract_slu {k : ℕ} : (s.startRetract k).slu = s.slu :=
  (State.startRetract_frame (fun _ hp => hp) regsIn_all (Frame.refl _ _ s)).same .slu (by decide)

@[simp] theorem State.startRetract_mq {k : ℕ} : (s.startRetract k).mq = s.mq :=
  (State.startRetract_frame (fun _ hp => hp) regsIn_all (Frame.refl _ _ s)).same .mq (by decide)

@[simp] theorem State.startRetract_links {k : ℕ} : (s.startRetract k).links = s.links :=
  (State.startRetract_frame (fun _ hp => hp) regsIn_all (Frame.refl _ _ s)).same .links (by decide)

theorem State.peatRecord_get {stream : ℕ} {type_ : ℕ} {body : List Byte} (h : (alarmRegs ++ haltRegs).all (fun r => r.apartB g) = true)
    : (s.peatRecord stream type_ body).get g = s.get g :=
  (State.peatRecord_frame (fun _ hp => hp) (fun _ hr => hr) (Frame.refl _ _ s)).get h

@[simp] theorem State.peatRecord_weir {stream : ℕ} {type_ : ℕ} {body : List Byte} : (s.peatRecord stream type_ body).weir = s.weir :=
  (State.peatRecord_frame (fun _ hp => hp) regsIn_all (Frame.refl _ _ s)).same .weir (by decide)

@[simp] theorem State.peatRecord_slu {stream : ℕ} {type_ : ℕ} {body : List Byte} : (s.peatRecord stream type_ body).slu = s.slu :=
  (State.peatRecord_frame (fun _ hp => hp) regsIn_all (Frame.refl _ _ s)).same .slu (by decide)

@[simp] theorem State.peatRecord_mq {stream : ℕ} {type_ : ℕ} {body : List Byte} : (s.peatRecord stream type_ body).mq = s.mq :=
  (State.peatRecord_frame (fun _ hp => hp) regsIn_all (Frame.refl _ _ s)).same .mq (by decide)

theorem State.endSequence_get (h : (haltRegs ++ ([.fld .TIDE_STATUS_STATE, .fld .TIDE_CELL_PERIOD_PERIOD, .fld .WTH_SPN_STATUS_STATE,
    .fld .WTH_SPN_STATUS_AT_SPEED, .fld .WTH_SPN_STATUS_FW_ACTIVE, .fld .WTH_SPN_STATUS_FW_SAT, .fld .WTH_SPN_STATUS_STOP_BLOCKED, .fld
    .WTH_SPN_MEAS_TRACK, .fld .WTH_SPN_FOC_ID, .fld .WTH_SPN_FOC_MI, .fld .STH_FATE_STATUS_UNRESOLVED, .fld .STH_FATE_STATUS_RECORDS] :
    List Regs) ++ ([.fld .STH_FATE_DROP_COUNT, .fld .SLU_STATUS_LED_FREE, .arr (.SLU_SEC_FREE_FREE 0) 0x4 4, .arr (.SLU_SEC_RUN_RUN 0)
    0x4 4, .arr (.SLU_CRED_USED_USED 0) 0x4 32, .fld .WEIR_STATUS_PF, .fld .WEIR_AON_STATUS_WARM_PF, .fld .WEIR_AON_STATUS_LAST_MIN] :
    List Regs)).all (fun r => r.apartB g) = true) : s.endSequence.get g = s.get g :=
  (State.endSequence_frame (fun _ hp => hp) (fun _ hr => hr) (Frame.refl _ _ s)).get h

@[simp] theorem State.levStatus_lev : s.levStatus.lev = s.lev :=
  (State.levStatus_frame (W := []) regsIn_all (Frame.refl _ _ s)).same .lev (by decide)

@[simp] theorem State.levStatus_bus : s.levStatus.bus = s.bus :=
  (State.levStatus_frame (W := []) regsIn_all (Frame.refl _ _ s)).same .bus (by decide)

@[simp] theorem State.relieve_bus : s.relieve.bus = s.bus :=
  (State.relieve_frame (fun _ hp => hp) regsIn_all (Frame.refl _ _ s)).same .bus (by decide)

@[simp] theorem State.recordLine_bus {code : ℕ} {inst : ℕ} {detail : ℕ} {injected : Bool} : (s.recordLine code inst detail injected).bus
    = s.bus :=
  (State.recordLine_frame (fun _ hp => hp) regsIn_all (Frame.refl _ _ s)).same .bus (by decide)

theorem State.fatalDrop_get (h : haltRegs.all (fun r => r.apartB g) = true) : s.fatalDrop.get g = s.get g :=
  (State.fatalDrop_frame (fun _ hp => hp) (fun _ hr => hr) (Frame.refl _ _ s)).get h

theorem State.timingDrop_get {cause : ℕ} {epoch : Bool} (h : haltRegs.all (fun r => r.apartB g) = true) : (s.timingDrop cause epoch).get
    g = s.get g :=
  (State.timingDrop_frame (fun _ hp => hp) (fun _ hr => hr) (Frame.refl _ _ s)).get h

@[simp] theorem State.timingDrop_tide {cause : ℕ} {epoch : Bool} : (s.timingDrop cause epoch).tide = s.tide :=
  (State.timingDrop_frame (fun _ hp => hp) regsIn_all (Frame.refl _ _ s)).same .tide (by decide)

@[simp] theorem State.timingDrop_lev {cause : ℕ} {epoch : Bool} : (s.timingDrop cause epoch).lev = s.lev :=
  (State.timingDrop_frame (fun _ hp => hp) regsIn_all (Frame.refl _ _ s)).same .lev (by decide)

theorem State.acquire_get (h : (haltRegs ++ ([.fld .TIDE_STATUS_STATE, .fld .WTH_SPN_MEAS_TRACK, .fld .MBX_START_STEP] : List Regs)).all
    (fun r => r.apartB g) = true) : s.acquire.get g = s.get g :=
  (State.acquire_frame (fun _ hp => hp) (fun _ hr => hr) (Frame.refl _ _ s)).get h

@[simp] theorem State.acquire_lev : s.acquire.lev = s.lev :=
  (State.acquire_frame (fun _ hp => hp) regsIn_all (Frame.refl _ _ s)).same .lev (by decide)

@[simp] theorem State.acquire_bus : s.acquire.bus = s.bus :=
  (State.acquire_frame (fun _ hp => hp) regsIn_all (Frame.refl _ _ s)).same .bus (by decide)

theorem State.tideTo_get {x : ℕ} (h : (haltRegs ++ ([.fld .TIDE_STATUS_STATE, .fld .WTH_SPN_MEAS_TRACK] : List Regs)).all (fun r =>
    r.apartB g) = true) : (s.tideTo x).get g = s.get g :=
  (State.tideTo_frame (fun _ hp => hp) (fun _ hr => hr) (Frame.refl _ _ s)).get h

@[simp] theorem State.tideTo_lev {x : ℕ} : (s.tideTo x).lev = s.lev :=
  (State.tideTo_frame (fun _ hp => hp) regsIn_all (Frame.refl _ _ s)).same .lev (by decide)

@[simp] theorem State.tideTo_aq {x : ℕ} : (s.tideTo x).aq = s.aq :=
  (State.tideTo_frame (fun _ hp => hp) regsIn_all (Frame.refl _ _ s)).same .aq (by decide)

theorem State.headIs_get {h' : ℕ} {ok : Bool} (h : (alarmRegs ++ haltRegs ++ ([.fld .TIDE_STATUS_T1_OK, .fld .TIDE_STATUS_T0_OK] : List
    Regs)).all (fun r => r.apartB g) = true) : (s.headIs h' ok).get g = s.get g :=
  (State.headIs_frame (fun _ hp => hp) (fun _ hr => hr) (Frame.refl _ _ s)).get h

@[simp] theorem State.headIs_tide {h' : ℕ} {ok : Bool} : (s.headIs h' ok).tide = s.tide :=
  (State.headIs_frame (fun _ hp => hp) regsIn_all (Frame.refl _ _ s)).same .tide (by decide)

theorem State.stepMang_get {m : Word} (h : (haltRegs ++ ([.fld ⟨0x4E000000, 0, 32⟩, .fld .TIDE_STATUS_EPOCH] : List Regs)).all (fun r =>
    r.apartB g) = true) : (s.stepMang m).get g = s.get g :=
  (State.stepMang_frame (fun _ hp => hp) (fun _ hr => hr) (Frame.refl _ _ s)).get h

theorem State.correctMang_get {now : Word} {m : Word} (h : (haltRegs ++ ([.fld ⟨0x4E000000, 0, 32⟩, .fld .TIDE_STATUS_EPOCH] : List
    Regs)).all (fun r => r.apartB g) = true) : (s.correctMang now m).get g = s.get g :=
  (State.correctMang_frame (fun _ hp => hp) (fun _ hr => hr) (Frame.refl _ _ s)).get h

theorem State.judgeRate_get {n : ℕ} (h : (alarmRegs ++ haltRegs).all (fun r => r.apartB g) = true) : (s.judgeRate n).get g = s.get g :=
  (State.judgeRate_frame (fun _ hp => hp) (fun _ hr => hr) (Frame.refl _ _ s)).get h

@[simp] theorem State.rescale_get : s.rescale.get g = s.get g := (State.rescale_frame (R := []) (fun _ hp => hp) (Frame.refl _ _ s)).get
    rfl

theorem State.setPeriod_get {p : ℕ} (h : (alarmRegs ++ haltRegs ++ ([.fld .TIDE_CELL_PERIOD_PERIOD] : List Regs)).all (fun r => r.apartB
    g) = true) : (s.setPeriod p).get g = s.get g :=
  (State.setPeriod_frame (fun _ hp => hp) (fun _ hr => hr) (Frame.refl _ _ s)).get h

theorem State.dropMiscount_get {h' : ℕ} {x : Head} (h : (alarmRegs ++ haltRegs ++ ([.fld .TIDE_STATUS_T1_OK, .fld .TIDE_STATUS_T0_OK,
    .fld .TIDE_STATUS_STATE, .fld .WTH_SPN_MEAS_TRACK] : List Regs)).all (fun r => r.apartB g) = true) : (s.dropMiscount h' x).get g =
    s.get g :=
  (State.dropMiscount_frame (fun _ hp => hp) (fun _ hr => hr) (Frame.refl _ _ s)).get h

theorem State.revolution_get {mean : ℕ} (h : ([.fld .WTH_SPN_STATUS_AT_SPEED] : List Regs).all (fun r => r.apartB g) = true) :
    (s.revolution mean).get g = s.get g :=
  (State.revolution_frame (fun _ hp => hp) (fun _ hr => hr) (Frame.refl _ _ s)).get h

@[simp] theorem State.revolution_tide {mean : ℕ} : (s.revolution mean).tide = s.tide :=
  (State.revolution_frame (fun _ hp => hp) regsIn_all (Frame.refl _ _ s)).same .tide (by decide)

@[simp] theorem State.ringPut_mq {k : ℕ} {bs : List Byte} {irq : Bool} : (s.ringPut k bs irq).mq = s.mq :=
  (State.ringPut_frame (fun _ hp => hp) regsIn_all (Frame.refl _ _ s)).same .mq (by decide)

@[simp] theorem State.ringIrq_mq {k : ℕ} : (s.ringIrq k).mq = s.mq :=
  (State.ringIrq_frame (R := []) (fun _ hp => hp) (Frame.refl _ _ s)).same .mq (by decide)

@[simp] theorem State.ringIrq_lev {k : ℕ} : (s.ringIrq k).lev = s.lev :=
  (State.ringIrq_frame (R := []) (fun _ hp => hp) (Frame.refl _ _ s)).same .lev (by decide)

@[simp] theorem State.ringIrq_mireIrq {k : ℕ} : (s.ringIrq k).mireIrq = s.mireIrq :=
  (State.ringIrq_frame (R := []) (fun _ hp => hp) (Frame.refl _ _ s)).same .mireIrq (by decide)

@[simp] theorem State.setCtrl_mq {q : ℕ} {slot : ℕ} {dstate : ℕ} : (s.setCtrl q slot dstate).mq = s.mq :=
  (State.setCtrl_frame (fun _ hp => hp) regsIn_all (Frame.refl _ _ s)).same .mq (by decide)

theorem State.letGo_get {d : Mwd} {e : Ending} (h : ([.arr (.SLU_STG_STATUS_ACTIVE 0) 0x4 8, .arr (.SLU_STG_STATUS_DIR 0) 0x4 8, .arr
    (.SLU_STG_STATUS_RESV 0) 0x4 8, .arr (.SLU_STG_STATUS_READY 0) 0x4 8, .fld .SLU_STATUS_LED_FREE, .arr (.SLU_SEC_FREE_FREE 0) 0x4 4,
    .arr (.SLU_SEC_RUN_RUN 0) 0x4 4, .arr (.SLU_CRED_USED_USED 0) 0x4 32] : List Regs).all (fun r => r.apartB g) = true) : (s.letGo d
    e).get g = s.get g :=
  (State.letGo_frame (fun _ hp => hp) (fun _ hr => hr) (Frame.refl _ _ s)).get h

@[simp] theorem State.letGo_mq {d : Mwd} {e : Ending} : (s.letGo d e).mq = s.mq :=
  (State.letGo_frame (fun _ hp => hp) regsIn_all (Frame.refl _ _ s)).same .mq (by decide)

@[simp] theorem State.letGo_lev {d : Mwd} {e : Ending} : (s.letGo d e).lev = s.lev :=
  (State.letGo_frame (fun _ hp => hp) regsIn_all (Frame.refl _ _ s)).same .lev (by decide)

@[simp] theorem State.letGo_mireIrq {d : Mwd} {e : Ending} : (s.letGo d e).mireIrq = s.mireIrq :=
  (State.letGo_frame (fun _ hp => hp) regsIn_all (Frame.refl _ _ s)).same .mireIrq (by decide)

@[simp] theorem State.letGo_tus {d : Mwd} {e : Ending} : (s.letGo d e).tus = s.tus :=
  (State.letGo_frame (fun _ hp => hp) regsIn_all (Frame.refl _ _ s)).same .tus (by decide)

@[simp] theorem State.letGo_bus {d : Mwd} {e : Ending} : (s.letGo d e).bus = s.bus :=
  (State.letGo_frame (fun _ hp => hp) regsIn_all (Frame.refl _ _ s)).same .bus (by decide)

@[simp] theorem State.tideFree_mq : s.tideFree.mq = s.mq :=
  (State.tideFree_frame (fun _ hp => hp) regsIn_all (Frame.refl _ _ s)).same .mq (by decide)

theorem State.sectionParked_get {k : ℕ} (h : (alarmRegs ++ haltRegs ++ ([.arr (.MWQ_STATUS_BLOCKED 0) 0x20 16, .arr (.MWQ_STATUS_OUTST
    0) 0x20 16, .arr (.MWC_PI_PASS 0) 0x20 4, .arr (.MWC_PI_PI 0) 0x20 4, .arr (.MWC_STATUS_SCAN_STOP 0) 0x20 4, .arr
    (.MWC_STATUS_SPILL_CNT 0) 0x20 4, .fld .MWQ_SYS_STATUS_FLUSH, .fld .MWQ_SYS_STATUS_CAL, .fld .SLU_STATUS_LED_FREE, .arr
    (.SLU_SEC_FREE_FREE 0) 0x4 4, .arr (.SLU_SEC_RUN_RUN 0) 0x4 4, .arr (.SLU_CRED_USED_USED 0) 0x4 32] : List Regs)).all (fun r =>
    r.apartB g) = true) : (s.sectionParked k).get g = s.get g :=
  (State.sectionParked_frame (fun _ hp => hp) (fun _ hr => hr) (Frame.refl _ _ s)).get h

@[simp] theorem State.sectionParked_tide {k : ℕ} : (s.sectionParked k).tide = s.tide :=
  (State.sectionParked_frame (fun _ hp => hp) regsIn_all (Frame.refl _ _ s)).same .tide (by decide)

theorem State.unload_get {stalls : ℕ} {y1 : List ℕ} (h : ([.fld .SDG_WF_STATUS_CAUSE_SEEN, .arr (.SDG_WR_STATUS_WG 0) 0x400 8, .arr
    (.SDG_WR_STATUS_CAUSE 0) 0x400 8, .arr (.SDG_WR_STATUS_DROPS 0) 0x400 8, .arr (.SDG_WR_DROP_MANG 0) 0x400 8, .arr (.WTH_VCM_CTRL_EN
    0) 0x4 4, .arr (.WTH_VCM_STATUS_RET_ACTIVE 0) 0x4 4, .arr (.WTH_VCM_STATUS_PARKED 0) 0x4 4, .arr (.WTH_VCM_STATUS_ENABLED 0) 0x4 4,
    .arr (.WTH_MA_CTRL_HOLD 0) 0x4 8, .arr (.WTH_MA_STATUS_VOUT 0) 0x4 8] : List Regs).all (fun r => r.apartB g) = true) : (s.unload
    stalls y1).get g = s.get g :=
  (State.unload_frame (fun _ hp => hp) (fun _ hr => hr) (Frame.refl _ _ s)).get h

@[simp] theorem State.unload_tide {stalls : ℕ} {y1 : List ℕ} : (s.unload stalls y1).tide = s.tide :=
  (State.unload_frame (fun _ hp => hp) regsIn_all (Frame.refl _ _ s)).same .tide (by decide)

@[simp] theorem State.unload_mq {stalls : ℕ} {y1 : List ℕ} : (s.unload stalls y1).mq = s.mq :=
  (State.unload_frame (fun _ hp => hp) regsIn_all (Frame.refl _ _ s)).same .mq (by decide)

@[simp] theorem State.unload_lev {stalls : ℕ} {y1 : List ℕ} : (s.unload stalls y1).lev = s.lev :=
  (State.unload_frame (fun _ hp => hp) regsIn_all (Frame.refl _ _ s)).same .lev (by decide)

@[simp] theorem State.unload_mireIrq {stalls : ℕ} {y1 : List ℕ} : (s.unload stalls y1).mireIrq = s.mireIrq :=
  (State.unload_frame (fun _ hp => hp) regsIn_all (Frame.refl _ _ s)).same .mireIrq (by decide)

theorem State.retarget_get (h : ([.fld .WTH_SPN_STATUS_AT_SPEED, .fld .WTH_SPN_STATUS_SPD95, .fld .WTH_SPN_STATUS_SPD90] : List
    Regs).all (fun r => r.apartB g) = true) : s.retarget.get g = s.get g :=
  (State.retarget_frame (fun _ hp => hp) (fun _ hr => hr) (Frame.refl _ _ s)).get h

@[simp] theorem State.retarget_tide : s.retarget.tide = s.tide :=
  (State.retarget_frame (fun _ hp => hp) regsIn_all (Frame.refl _ _ s)).same .tide (by decide)

theorem State.esiPhase_get {mang : Word} (h : ([.fld .TIDE_STATUS_PHASE_LOCKED] : List Regs).all (fun r => r.apartB g) = true) :
    (s.esiPhase mang).get g = s.get g :=
  (State.esiPhase_frame (fun _ hp => hp) (fun _ hr => hr) (Frame.refl _ _ s)).get h

theorem State.stampStaged_get (h : ([.fld .PEAT_STATUS_FLUSHING, .fld .PEAT_STATUS_STAMP_WAIT, .fld .PEAT_STATUS_HELD, .fld
    .PEAT_STATUS_USED] : List Regs).all (fun r => r.apartB g) = true) : s.stampStaged.get g = s.get g :=
  (State.stampStaged_frame (fun _ hp => hp) (fun _ hr => hr) (Frame.refl _ _ s)).get h

@[simp] theorem State.stampStaged_bus : s.stampStaged.bus = s.bus :=
  (State.stampStaged_frame (fun _ hp => hp) regsIn_all (Frame.refl _ _ s)).same .bus (by decide)

theorem State.cutRead_get {n : ℕ} (h : ([.fld .SDG_STATUS_RES_IRQ, .fld .SDG_STATUS_PENDING, .arr (.SDG_ST_STATUS_RES_OVF 0) 0x400 8,
    .arr (.SDG_ST_STATUS_RES_CNT 0) 0x400 8, .arr (.SDG_ST_STATUS_PARK_USED 0) 0x400 8, .arr (.SDG_ST_STATUS_PENDING_CNT 0) 0x400 8,
    .arr (.SDG_FE_STATUS_TA_ACTIVE 0) 0x400 8, .arr (.SDG_FE_STATUS_DO_ACTIVE 0) 0x400 8] : List Regs).all (fun r => r.apartB g) = true)
    : (s.cutRead n).get g = s.get g :=
  (State.cutRead_frame (fun _ hp => hp) (fun _ hr => hr) (Frame.refl _ _ s)).get h

theorem State.sdgStatus_get {n : ℕ} (h : ([.fld .SDG_STATUS_RES_IRQ, .fld .SDG_STATUS_PENDING, .arr (.SDG_ST_STATUS_RES_CNT 0) 0x400 8,
    .arr (.SDG_ST_STATUS_PARK_USED 0) 0x400 8, .arr (.SDG_ST_STATUS_PENDING_CNT 0) 0x400 8] : List Regs).all (fun r => r.apartB g) =
    true) : (s.sdgStatus n).get g = s.get g :=
  (State.sdgStatus_frame (fun _ hp => hp) (fun _ hr => hr) (Frame.refl _ _ s)).get h

theorem State.complete_get {d : Mwd} {e : Ending} (h : (alarmRegs ++ haltRegs ++ ([.arr (.MWQ_STATUS_BLOCKED 0) 0x20 16, .arr
    (.MWQ_STATUS_OUTST 0) 0x20 16, .arr (.MWC_PI_PASS 0) 0x20 4, .arr (.MWC_PI_PI 0) 0x20 4, .arr (.MWC_STATUS_SCAN_STOP 0) 0x20 4, .arr
    (.MWC_STATUS_SPILL_CNT 0) 0x20 4, .fld .MWQ_SYS_STATUS_FLUSH, .fld .MWQ_SYS_STATUS_CAL, .fld .SLU_STATUS_LED_FREE, .arr
    (.SLU_SEC_FREE_FREE 0) 0x4 4, .arr (.SLU_SEC_RUN_RUN 0) 0x4 4, .arr (.SLU_CRED_USED_USED 0) 0x4 32] : List Regs)).all (fun r =>
    r.apartB g) = true) : (s.complete d e).get g = s.get g :=
  (State.complete_frame (fun _ hp => hp) (fun _ hr => hr) (Frame.refl _ _ s)).get h

@[simp] theorem State.complete_bus {d : Mwd} {e : Ending} : (s.complete d e).bus = s.bus :=
  (State.complete_frame (fun _ hp => hp) regsIn_all (Frame.refl _ _ s)).same .bus (by decide)

@[simp] theorem State.complete_tus {d : Mwd} {e : Ending} : (s.complete d e).tus = s.tus :=
  (State.complete_frame (fun _ hp => hp) regsIn_all (Frame.refl _ _ s)).same .tus (by decide)

theorem State.abandonHint_get {k : ℕ} (h : (alarmRegs ++ haltRegs ++ ([.arr (.MWQ_STATUS_BLOCKED 0) 0x20 16, .arr (.MWQ_STATUS_OUTST 0)
    0x20 16, .arr (.MWC_PI_PASS 0) 0x20 4, .arr (.MWC_PI_PI 0) 0x20 4, .arr (.MWC_STATUS_SCAN_STOP 0) 0x20 4, .arr
    (.MWC_STATUS_SPILL_CNT 0) 0x20 4, .fld .MWQ_SYS_STATUS_FLUSH, .fld .MWQ_SYS_STATUS_CAL, .fld .SLU_STATUS_LED_FREE, .arr
    (.SLU_SEC_FREE_FREE 0) 0x4 4, .arr (.SLU_SEC_RUN_RUN 0) 0x4 4, .arr (.SLU_CRED_USED_USED 0) 0x4 32] : List Regs)).all (fun r =>
    r.apartB g) = true) : (s.abandonHint k).get g = s.get g :=
  (State.abandonHint_frame (fun _ hp => hp) (fun _ hr => hr) (Frame.refl _ _ s)).get h

@[simp] theorem State.abandonHint_bus {k : ℕ} : (s.abandonHint k).bus = s.bus :=
  (State.abandonHint_frame (fun _ hp => hp) regsIn_all (Frame.refl _ _ s)).same .bus (by decide)

@[simp] theorem State.dropHint_get {d : Mwd} : (s.dropHint d).get g = s.get g := (State.dropHint_frame (R := []) (fun _ hp => hp)
    (Frame.refl _ _ s)).get rfl

@[simp] theorem State.dropHint_mq {d : Mwd} : (s.dropHint d).mq = s.mq :=
  (State.dropHint_frame (R := []) (fun _ hp => hp) (Frame.refl _ _ s)).same .mq (by decide)

theorem State.selectRegion_get {k : ℕ} (h : ([.arr (.TUS_SEC_STATUS_REGION_PEND 0) 0x40 4] : List Regs).all (fun r => r.apartB g) =
    true) : (s.selectRegion k).get g = s.get g :=
  (State.selectRegion_frame (fun _ hp => hp) (fun _ hr => hr) (Frame.refl _ _ s)).get h

@[simp] theorem State.selectRegion_bus {k : ℕ} : (s.selectRegion k).bus = s.bus :=
  (State.selectRegion_frame (fun _ hp => hp) regsIn_all (Frame.refl _ _ s)).same .bus (by decide)

@[simp] theorem State.selectRegion_mq {k : ℕ} : (s.selectRegion k).mq = s.mq :=
  (State.selectRegion_frame (fun _ hp => hp) regsIn_all (Frame.refl _ _ s)).same .mq (by decide)

theorem State.reedEvent_get {n : ℕ} {kind : ℕ} {data : ℕ} (h : ([.arr (.REED_ST_STATUS_EVT_CNT 0) 0x100 8] : List Regs).all (fun r =>
    r.apartB g) = true) : (s.reedEvent n kind data).get g = s.get g :=
  (State.reedEvent_frame (fun _ hp => hp) (fun _ hr => hr) (Frame.refl _ _ s)).get h

@[simp] theorem State.reedEvent_bus {n : ℕ} {kind : ℕ} {data : ℕ} : (s.reedEvent n kind data).bus = s.bus :=
  (State.reedEvent_frame (fun _ hp => hp) regsIn_all (Frame.refl _ _ s)).same .bus (by decide)

theorem State.commitSectors_get {n : ℕ} (h : ([.arr (.SLU_STG_STATUS_ACTIVE 0) 0x4 8, .arr (.SLU_STG_STATUS_DIR 0) 0x4 8, .arr
    (.SLU_STG_STATUS_RESV 0) 0x4 8, .arr (.SLU_STG_STATUS_READY 0) 0x4 8, .arr (.REED_ST_STATUS_RESTARTS 0) 0x100 8, .arr
    (.REED_ST_STATUS_EVT_CNT 0) 0x100 8] : List Regs).all (fun r => r.apartB g) = true) : (s.commitSectors n).get g = s.get g :=
  (State.commitSectors_frame (fun _ hp => hp) (fun _ hr => hr) (Frame.refl _ _ s)).get h

@[simp] theorem State.commitSectors_bus {n : ℕ} : (s.commitSectors n).bus = s.bus :=
  (State.commitSectors_frame (fun _ hp => hp) regsIn_all (Frame.refl _ _ s)).same .bus (by decide)

@[simp] theorem State.commitSectors_chans {n : ℕ} : (s.commitSectors n).chans = s.chans :=
  (State.commitSectors_frame (fun _ hp => hp) regsIn_all (Frame.refl _ _ s)).same .chans (by decide)

theorem State.codeStatus_get {n : ℕ} (h : ([.arr (.SDG_ST_STATUS_CODE_ERR 0) 0x400 8] : List Regs).all (fun r => r.apartB g) = true) :
    (s.codeStatus n).get g = s.get g :=
  (State.codeStatus_frame (W := []) (fun _ hr => hr) (Frame.refl _ _ s)).get h

@[simp] theorem State.codeStatus_seqs {n : ℕ} : (s.codeStatus n).seqs = s.seqs :=
  (State.codeStatus_frame (W := []) regsIn_all (Frame.refl _ _ s)).same .seqs (by decide)

@[simp] theorem State.codeStatus_chans {n : ℕ} : (s.codeStatus n).chans = s.chans :=
  (State.codeStatus_frame (W := []) regsIn_all (Frame.refl _ _ s)).same .chans (by decide)

@[simp] theorem State.codeStatus_stg {n : ℕ} : (s.codeStatus n).stg = s.stg :=
  (State.codeStatus_frame (W := []) regsIn_all (Frame.refl _ _ s)).same .stg (by decide)

@[simp] theorem State.codeStatus_bus {n : ℕ} : (s.codeStatus n).bus = s.bus :=
  (State.codeStatus_frame (W := []) regsIn_all (Frame.refl _ _ s)).same .bus (by decide)

@[simp] theorem State.fatalDrop_peat : s.fatalDrop.peat = s.peat :=
  (State.fatalDrop_frame (fun _ hp => hp) regsIn_all (Frame.refl _ _ s)).same .peat (by decide)

@[simp] theorem State.react_peat {code : ℕ} {inst : ℕ} {r : ℕ} : (s.react code inst r).peat = s.peat :=
  (State.react_frame (fun _ hp => hp) regsIn_all (Frame.refl _ _ s)).same .peat (by decide)

@[simp] theorem State.writeHistory_peat {e : List Byte} : (s.writeHistory e).peat = s.peat :=
  (State.writeHistory_frame (fun _ hp => hp) regsIn_all (Frame.refl _ _ s)).same .peat (by decide)

@[simp] theorem State.levStatus_peat : s.levStatus.peat = s.peat :=
  (State.levStatus_frame (W := []) regsIn_all (Frame.refl _ _ s)).same .peat (by decide)

@[simp] theorem State.unfreeze_peat {a : ℕ} : (s.unfreeze a).peat = s.peat :=
  (State.unfreeze_frame (W := []) regsIn_all (Frame.refl _ _ s)).same .peat (by decide)

theorem State.peatStatus_get (h : ([.fld .PEAT_STATUS_STAMP_WAIT, .fld .PEAT_STATUS_HELD, .fld .PEAT_STATUS_USED] : List Regs).all (fun
    r => r.apartB g) = true) : s.peatStatus.get g = s.get g :=
  (State.peatStatus_frame (W := []) (fun _ hr => hr) (Frame.refl _ _ s)).get h

@[simp] theorem State.peatStatus_peat : s.peatStatus.peat = s.peat :=
  (State.peatStatus_frame (W := []) regsIn_all (Frame.refl _ _ s)).same .peat (by decide)

theorem State.areaStatus_get {a : ℕ} (h : ([.arr (.PEAT_AREA_REC_COUNT 0) 0x4 10, .arr (.PEAT_AREA_BYTES_BYTES 0) 0x4 10] : List
    Regs).all (fun r => r.apartB g) = true) : (s.areaStatus a).get g = s.get g :=
  (State.areaStatus_frame (W := []) (fun _ hr => hr) (Frame.refl _ _ s)).get h

@[simp] theorem State.areaStatus_peat {a : ℕ} : (s.areaStatus a).peat = s.peat :=
  (State.areaStatus_frame (W := []) regsIn_all (Frame.refl _ _ s)).same .peat (by decide)

theorem State.flushArea_get {a : ℕ} (h : ([.arr (.PEAT_AREA_REC_COUNT 0) 0x4 10, .arr (.PEAT_AREA_BYTES_BYTES 0) 0x4 10, .fld
    .PEAT_MRSETS_COUNT] : List Regs).all (fun r => r.apartB g) = true) : (s.flushArea a).get g = s.get g :=
  (State.flushArea_frame (fun _ hp => hp) (fun _ hr => hr) (Frame.refl _ _ s)).get h

theorem State.freeze_get {a : ℕ} (h : ([.fld .PEAT_STATUS_STAMP_WAIT, .fld .PEAT_STATUS_HELD, .fld .PEAT_STATUS_USED, .fld
    .PEAT_FRZ_AREA] : List Regs).all (fun r => r.apartB g) = true) : (s.freeze a).get g = s.get g :=
  (State.freeze_frame (fun _ hp => hp) (fun _ hr => hr) (Frame.refl _ _ s)).get h

theorem State.recordLine_get {code : ℕ} {inst : ℕ} {detail : ℕ} {injected : Bool} (h : (([.fld .LEV_STATUS_F_LATCHED, .fld
    .LEV_STATUS_ERROR, .fld .LEV_STATUS_ALIVE_RUN, .fld .LEV_STATUS_BLK_BUSY, .fld .LEV_IRQ_NMI, .fld .LEV_IRQ_INT, .fld
    .LEV_HIST_STATUS_COUNT, .fld .LEV_HIST_STATUS_NEXT, .fld .LEV_HIST_TOTAL_TOTAL, .arr (.LEV_LATCH_LINE 0) 0x4 7, .grid
    (.LEV_HIST_DATA 0 0) 0x10 32 0x4 4, .fld .PEAT_STATUS_FLUSHING] : List Regs) ++ ([.fld .PEAT_STATUS_STG_LOSS, .fld
    .PEAT_STATUS_STAMP_WAIT, .fld .PEAT_STATUS_HELD, .fld .PEAT_STATUS_USED, .arr (.PEAT_RSEQ_LOST 0) 0x4 5, .arr (.PEAT_RSEQ_NEXT 0)
    0x4 5, .arr (.REED_ST_STATUS_STATE 0) 0x100 8, .arr (.REED_ST_STATUS_TERM 0) 0x100 8, .fld .SDG_STATUS_RES_IRQ, .fld
    .SDG_STATUS_PENDING, .arr (.SDG_ST_STATUS_RES_OVF 0) 0x400 8, .arr (.SDG_ST_STATUS_RES_CNT 0) 0x400 8] : List Regs) ++ ([.arr
    (.SDG_ST_STATUS_PARK_USED 0) 0x400 8, .arr (.SDG_ST_STATUS_PENDING_CNT 0) 0x400 8, .arr (.SDG_FE_STATUS_TA_ACTIVE 0) 0x400 8, .arr
    (.SDG_FE_STATUS_DO_ACTIVE 0) 0x400 8, .fld .SDG_WF_STATUS_CAUSE_SEEN, .arr (.SDG_WR_STATUS_WG 0) 0x400 8, .arr (.SDG_WR_STATUS_CAUSE
    0) 0x400 8, .arr (.SDG_WR_STATUS_DROPS 0) 0x400 8, .arr (.SDG_WR_DROP_MANG 0) 0x400 8, .arr (.SLU_STG_STATUS_ACTIVE 0) 0x4 8, .arr
    (.SLU_STG_STATUS_DIR 0) 0x4 8, .arr (.SLU_STG_STATUS_RESV 0) 0x4 8] : List Regs) ++ ([.arr (.SLU_STG_STATUS_READY 0) 0x4 8] : List
    Regs)).all (fun r => r.apartB g) = true) : (s.recordLine code inst detail injected).get g = s.get g :=
  (State.recordLine_frame (fun _ hp => hp) (fun _ hr => hr) (Frame.refl _ _ s)).get h

@[simp] theorem State.sluStatus_sth : s.sluStatus.sth = s.sth :=
  (State.sluStatus_frame (W := []) regsIn_all (Frame.refl _ _ s)).same .sth (by decide)

@[simp] theorem State.sluStatus_bus : s.sluStatus.bus = s.bus :=
  (State.sluStatus_frame (W := []) regsIn_all (Frame.refl _ _ s)).same .bus (by decide)

@[simp] theorem State.sluStatus_dram : s.sluStatus.dram = s.dram :=
  (State.sluStatus_frame (W := []) regsIn_all (Frame.refl _ _ s)).same .dram (by decide)

theorem State.holdEntry_get {i : ℕ} (h : ([.fld .SLU_STATUS_LED_FREE, .arr (.SLU_SEC_FREE_FREE 0) 0x4 4, .arr (.SLU_SEC_RUN_RUN 0) 0x4
    4, .arr (.SLU_CRED_USED_USED 0) 0x4 32] : List Regs).all (fun r => r.apartB g) = true) : (s.holdEntry i).get g = s.get g :=
  (State.holdEntry_frame (fun _ hp => hp) (fun _ hr => hr) (Frame.refl _ _ s)).get h

@[simp] theorem State.holdEntry_bus {i : ℕ} : (s.holdEntry i).bus = s.bus :=
  (State.holdEntry_frame (fun _ hp => hp) regsIn_all (Frame.refl _ _ s)).same .bus (by decide)

@[simp] theorem State.holdEntry_dram {i : ℕ} : (s.holdEntry i).dram = s.dram :=
  (State.holdEntry_frame (fun _ hp => hp) regsIn_all (Frame.refl _ _ s)).same .dram (by decide)

theorem State.fillEntry_get {i : ℕ} {lo : ℕ} {hi : ℕ} (h : ([.fld .SLU_STATUS_LED_FREE, .arr (.SLU_SEC_FREE_FREE 0) 0x4 4, .arr
    (.SLU_SEC_RUN_RUN 0) 0x4 4, .arr (.SLU_CRED_USED_USED 0) 0x4 32] : List Regs).all (fun r => r.apartB g) = true) : (s.fillEntry i lo
    hi).get g = s.get g :=
  (State.fillEntry_frame (fun _ hp => hp) (fun _ hr => hr) (Frame.refl _ _ s)).get h

@[simp] theorem State.fillEntry_bus {i : ℕ} {lo : ℕ} {hi : ℕ} : (s.fillEntry i lo hi).bus = s.bus :=
  (State.fillEntry_frame (fun _ hp => hp) regsIn_all (Frame.refl _ _ s)).same .bus (by decide)

@[simp] theorem State.fillEntry_dram {i : ℕ} {lo : ℕ} {hi : ℕ} : (s.fillEntry i lo hi).dram = s.dram :=
  (State.fillEntry_frame (fun _ hp => hp) regsIn_all (Frame.refl _ _ s)).same .dram (by decide)

theorem State.freeEntry_get {i : ℕ} (h : ([.fld .SLU_STATUS_LED_FREE, .arr (.SLU_SEC_FREE_FREE 0) 0x4 4, .arr (.SLU_SEC_RUN_RUN 0) 0x4
    4, .arr (.SLU_CRED_USED_USED 0) 0x4 32] : List Regs).all (fun r => r.apartB g) = true) : (s.freeEntry i).get g = s.get g :=
  (State.freeEntry_frame (fun _ hp => hp) (fun _ hr => hr) (Frame.refl _ _ s)).get h

@[simp] theorem State.freeEntry_bus {i : ℕ} : (s.freeEntry i).bus = s.bus :=
  (State.freeEntry_frame (fun _ hp => hp) regsIn_all (Frame.refl _ _ s)).same .bus (by decide)

theorem State.dmaIrq_get {c : ℕ} (h : ([.fld .LODE_IRQ_IRQ] : List Regs).all (fun r => r.apartB g) = true) : (s.dmaIrq c).get g = s.get
    g :=
  (State.dmaIrq_frame (fun _ hp => hp) (fun _ hr => hr) (Frame.refl _ _ s)).get h

@[simp] theorem State.dmaIrq_dma {c : ℕ} : (s.dmaIrq c).dma = s.dma :=
  (State.dmaIrq_frame (fun _ hp => hp) regsIn_all (Frame.refl _ _ s)).same .dma (by decide)

@[simp] theorem State.dmaIrq_bus {c : ℕ} : (s.dmaIrq c).bus = s.bus :=
  (State.dmaIrq_frame (fun _ hp => hp) regsIn_all (Frame.refl _ _ s)).same .bus (by decide)

@[simp] theorem State.dmaIrq_dram {c : ℕ} : (s.dmaIrq c).dram = s.dram :=
  (State.dmaIrq_frame (fun _ hp => hp) regsIn_all (Frame.refl _ _ s)).same .dram (by decide)

@[simp] theorem State.dmaIrq_sram {c : ℕ} : (s.dmaIrq c).sram = s.sram :=
  (State.dmaIrq_frame (fun _ hp => hp) regsIn_all (Frame.refl _ _ s)).same .sram (by decide)

theorem State.dmaState_get {c : ℕ} {st : ℕ} (h : ([.fld .LODE_STATUS_ACTIVE, .fld .LODE_IRQ_IRQ, .arr (.LODE_CH_STATUS_STATE 0) 0x40 32]
    : List Regs).all (fun r => r.apartB g) = true) : (s.dmaState c st).get g = s.get g :=
  (State.dmaState_frame (fun _ hp => hp) (fun _ hr => hr) (Frame.refl _ _ s)).get h

@[simp] theorem State.dmaState_dma {c : ℕ} {st : ℕ} : (s.dmaState c st).dma = s.dma :=
  (State.dmaState_frame (fun _ hp => hp) regsIn_all (Frame.refl _ _ s)).same .dma (by decide)

@[simp] theorem State.dmaState_bus {c : ℕ} {st : ℕ} : (s.dmaState c st).bus = s.bus :=
  (State.dmaState_frame (fun _ hp => hp) regsIn_all (Frame.refl _ _ s)).same .bus (by decide)

@[simp] theorem State.dmaState_dram {c : ℕ} {st : ℕ} : (s.dmaState c st).dram = s.dram :=
  (State.dmaState_frame (fun _ hp => hp) regsIn_all (Frame.refl _ _ s)).same .dram (by decide)

@[simp] theorem State.dmaState_sram {c : ℕ} {st : ℕ} : (s.dmaState c st).sram = s.sram :=
  (State.dmaState_frame (fun _ hp => hp) regsIn_all (Frame.refl _ _ s)).same .sram (by decide)

theorem State.setEnd_get {c : ℕ} {a : ℕ} (h : ([.arr (.LODE_CH_END_LO_ADDR 0) 0x40 32, .arr (.LODE_CH_END_HI_ADDR 0) 0x40 32] : List
    Regs).all (fun r => r.apartB g) = true) : (s.setEnd c a).get g = s.get g :=
  (State.setEnd_frame (W := []) (fun _ hr => hr) (Frame.refl _ _ s)).get h

theorem State.setCur_get {c : ℕ} {a : ℕ} (h : ([.arr (.LODE_CH_CUR_LO_ADDR 0) 0x40 32, .arr (.LODE_CH_CUR_HI_ADDR 0) 0x40 32] : List
    Regs).all (fun r => r.apartB g) = true) : (s.setCur c a).get g = s.get g :=
  (State.setCur_frame (W := []) (fun _ hr => hr) (Frame.refl _ _ s)).get h

theorem State.dmaRegs_get {c : ℕ} {k : ℕ} (h : ([.arr (.LODE_CH_SRC_LO_ADDR 0) 0x40 32, .arr (.LODE_CH_SRC_HI_ADDR 0) 0x40 32, .arr
    (.LODE_CH_DST_LO_ADDR 0) 0x40 32, .arr (.LODE_CH_DST_HI_ADDR 0) 0x40 32, .arr (.LODE_CH_REMAIN_BYTES 0) 0x40 32, .arr
    (.LODE_CH_BURST_LEFT_BYTES 0) 0x40 32] : List Regs).all (fun r => r.apartB g) = true) : (s.dmaRegs c k).get g = s.get g :=
  (State.dmaRegs_frame (W := []) (fun _ hr => hr) (Frame.refl _ _ s)).get h

theorem State.hostMoved_get {c : ℕ} {k : ℕ} (h : ([.fld .SLU_STATUS_LED_FREE, .arr (.SLU_SEC_FREE_FREE 0) 0x4 4, .arr (.SLU_SEC_RUN_RUN
    0) 0x4 4, .arr (.SLU_CRED_USED_USED 0) 0x4 32] : List Regs).all (fun r => r.apartB g) = true) : (s.hostMoved c k).get g = s.get g :=
  (State.hostMoved_frame (fun _ hp => hp) (fun _ hr => hr) (Frame.refl _ _ s)).get h

theorem State.sthStatus_get (h : ([.fld .STH_STATUS_QUIESCED, .fld .STH_STATUS_LIVE, .fld .STH_LOCK_STATUS_WAITING, .fld
    .STH_LOCK_STATUS_HELD] : List Regs).all (fun r => r.apartB g) = true) : s.sthStatus.get g = s.get g :=
  (State.sthStatus_frame (W := []) (fun _ hr => hr) (Frame.refl _ _ s)).get h

theorem State.fateStatus_get (h : ([.fld .STH_FATE_STATUS_UNRESOLVED, .fld .STH_FATE_STATUS_RECORDS] : List Regs).all (fun r => r.apartB
    g) = true) : s.fateStatus.get g = s.get g :=
  (State.fateStatus_frame (W := []) (fun _ hr => hr) (Frame.refl _ _ s)).get h

theorem State.grantAppends_get (h : ([.arr (.REED_ST_CTRL_ABORT 0) 0x100 8] : List Regs).all (fun r => r.apartB g) = true) :
    s.grantAppends.get g = s.get g :=
  (State.grantAppends_frame (fun _ hp => hp) (fun _ hr => hr) (Frame.refl _ _ s)).get h

@[simp] theorem State.grantAppends_bus : s.grantAppends.bus = s.bus :=
  (State.grantAppends_frame (fun _ hp => hp) regsIn_all (Frame.refl _ _ s)).same .bus (by decide)

@[simp] theorem State.grantAppends_fenIrq : s.grantAppends.fenIrq = s.fenIrq :=
  (State.grantAppends_frame (fun _ hp => hp) regsIn_all (Frame.refl _ _ s)).same .fenIrq (by decide)

theorem State.takeLocks_get {x : ℕ} (h : ([.arr (.REED_ST_CTRL_ABORT 0) 0x100 8] : List Regs).all (fun r => r.apartB g) = true) :
    (s.takeLocks x).get g = s.get g :=
  (State.takeLocks_frame (fun _ hp => hp) (fun _ hr => hr) (Frame.refl _ _ s)).get h

@[simp] theorem State.takeLocks_bus {x : ℕ} : (s.takeLocks x).bus = s.bus :=
  (State.takeLocks_frame (fun _ hp => hp) regsIn_all (Frame.refl _ _ s)).same .bus (by decide)

theorem State.freeCtx_get {x : ℕ} (h : ([.arr (.REED_ST_CTRL_ABORT 0) 0x100 8, .fld .STH_STATUS_QUIESCED, .fld .STH_STATUS_LIVE, .fld
    .STH_LOCK_STATUS_WAITING, .fld .STH_LOCK_STATUS_HELD, .fld .SLU_STATUS_LED_FREE, .arr (.SLU_SEC_FREE_FREE 0) 0x4 4, .arr
    (.SLU_SEC_RUN_RUN 0) 0x4 4, .arr (.SLU_CRED_USED_USED 0) 0x4 32] : List Regs).all (fun r => r.apartB g) = true) : (s.freeCtx x).get
    g = s.get g :=
  (State.freeCtx_frame (fun _ hp => hp) (fun _ hr => hr) (Frame.refl _ _ s)).get h

@[simp] theorem State.freeCtx_bus {x : ℕ} : (s.freeCtx x).bus = s.bus :=
  (State.freeCtx_frame (fun _ hp => hp) regsIn_all (Frame.refl _ _ s)).same .bus (by decide)

@[simp] theorem State.freeCtx_fenIrq {x : ℕ} : (s.freeCtx x).fenIrq = s.fenIrq :=
  (State.freeCtx_frame (fun _ hp => hp) regsIn_all (Frame.refl _ _ s)).same .fenIrq (by decide)

theorem State.addFate_get {r : FateRecord} (h : ([.fld .STH_FATE_STATUS_UNRESOLVED, .fld .STH_FATE_STATUS_RECORDS, .fld
    .STH_FATE_DROP_COUNT] : List Regs).all (fun r => r.apartB g) = true) : (s.addFate r).get g = s.get g :=
  (State.addFate_frame (fun _ hp => hp) (fun _ hr => hr) (Frame.refl _ _ s)).get h

@[simp] theorem State.addFate_bus {r : FateRecord} : (s.addFate r).bus = s.bus :=
  (State.addFate_frame (fun _ hp => hp) regsIn_all (Frame.refl _ _ s)).same .bus (by decide)

@[simp] theorem State.addFate_fenIrq {r : FateRecord} : (s.addFate r).fenIrq = s.fenIrq :=
  (State.addFate_frame (fun _ hp => hp) regsIn_all (Frame.refl _ _ s)).same .fenIrq (by decide)

@[simp] theorem State.addFate_slu {r : FateRecord} : (s.addFate r).slu = s.slu :=
  (State.addFate_frame (fun _ hp => hp) regsIn_all (Frame.refl _ _ s)).same .slu (by decide)

theorem State.resetDone_get {k : ℕ} (h : ([.arr (.STH_CTL_CFG_RST_PEND 0) 0x4 32] : List Regs).all (fun r => r.apartB g) = true) :
    (s.resetDone k).get g = s.get g :=
  (State.resetDone_frame (fun _ hp => hp) (fun _ hr => hr) (Frame.refl _ _ s)).get h

@[simp] theorem State.resetDone_bus {k : ℕ} : (s.resetDone k).bus = s.bus :=
  (State.resetDone_frame (fun _ hp => hp) regsIn_all (Frame.refl _ _ s)).same .bus (by decide)

@[simp] theorem State.resetDone_fenIrq {k : ℕ} : (s.resetDone k).fenIrq = s.fenIrq :=
  (State.resetDone_frame (fun _ hp => hp) regsIn_all (Frame.refl _ _ s)).same .fenIrq (by decide)

@[simp] theorem State.resetDone_slu {k : ℕ} : (s.resetDone k).slu = s.slu :=
  (State.resetDone_frame (fun _ hp => hp) regsIn_all (Frame.refl _ _ s)).same .slu (by decide)

theorem State.endCtx_get {x : ℕ} {fate : ℕ} {reason : ℕ} {event : ℕ} (h : (([.arr (.REED_ST_CTRL_ABORT 0) 0x100 8, .fld
    .STH_STATUS_QUIESCED, .fld .STH_STATUS_LIVE, .fld .STH_LOCK_STATUS_WAITING, .fld .STH_LOCK_STATUS_HELD, .fld
    .STH_FATE_STATUS_UNRESOLVED, .fld .STH_FATE_STATUS_RECORDS, .fld .STH_FATE_DROP_COUNT, .arr (.STH_CTL_CFG_RST_PEND 0) 0x4 32, .fld
    .SLU_STATUS_LED_FREE, .arr (.SLU_SEC_FREE_FREE 0) 0x4 4, .arr (.SLU_SEC_RUN_RUN 0) 0x4 4] : List Regs) ++ ([.arr
    (.SLU_CRED_USED_USED 0) 0x4 32] : List Regs)).all (fun r => r.apartB g) = true) : (s.endCtx x fate reason event).get g = s.get g :=
  (State.endCtx_frame (fun _ hp => hp) (fun _ hr => hr) (Frame.refl _ _ s)).get h

@[simp] theorem State.endCtx_bus {x : ℕ} {fate : ℕ} {reason : ℕ} {event : ℕ} : (s.endCtx x fate reason event).bus = s.bus :=
  (State.endCtx_frame (fun _ hp => hp) regsIn_all (Frame.refl _ _ s)).same .bus (by decide)

@[simp] theorem State.endCtx_fenIrq {x : ℕ} {fate : ℕ} {reason : ℕ} {event : ℕ} : (s.endCtx x fate reason event).fenIrq = s.fenIrq :=
  (State.endCtx_frame (fun _ hp => hp) regsIn_all (Frame.refl _ _ s)).same .fenIrq (by decide)

theorem State.admitCtx_get {x : ℕ} (h : ([.arr (.REED_ST_CTRL_ABORT 0) 0x100 8, .fld .STH_STATUS_QUIESCED, .fld .STH_STATUS_LIVE, .fld
    .STH_LOCK_STATUS_WAITING, .fld .STH_LOCK_STATUS_HELD, .fld .SLU_STATUS_LED_FREE, .arr (.SLU_SEC_FREE_FREE 0) 0x4 4, .arr
    (.SLU_SEC_RUN_RUN 0) 0x4 4, .arr (.SLU_CRED_USED_USED 0) 0x4 32] : List Regs).all (fun r => r.apartB g) = true) : (s.admitCtx x).get
    g = s.get g :=
  (State.admitCtx_frame (fun _ hp => hp) (fun _ hr => hr) (Frame.refl _ _ s)).get h

@[simp] theorem State.admitCtx_bus {x : ℕ} : (s.admitCtx x).bus = s.bus :=
  (State.admitCtx_frame (fun _ hp => hp) regsIn_all (Frame.refl _ _ s)).same .bus (by decide)

theorem State.discardOverlap_get {l : LbaRange} (h : ([.arr (.REED_ST_CTRL_ABORT 0) 0x100 8] : List Regs).all (fun r => r.apartB g) =
    true) : (s.discardOverlap l).get g = s.get g :=
  (State.discardOverlap_frame (fun _ hp => hp) (fun _ hr => hr) (Frame.refl _ _ s)).get h

@[simp] theorem State.discardOverlap_sth {l : LbaRange} : (s.discardOverlap l).sth = s.sth :=
  (State.discardOverlap_frame (fun _ hp => hp) regsIn_all (Frame.refl _ _ s)).same .sth (by decide)

@[simp] theorem State.discardOverlap_bus {l : LbaRange} : (s.discardOverlap l).bus = s.bus :=
  (State.discardOverlap_frame (fun _ hp => hp) regsIn_all (Frame.refl _ _ s)).same .bus (by decide)

@[simp] theorem State.discardRegion_sth {r : ℕ} : (s.discardRegion r).sth = s.sth :=
  (State.discardRegion_frame (fun _ hp => hp) regsIn_all (Frame.refl _ _ s)).same .sth (by decide)

theorem State.reserve_get {x : ℕ} (h : ([.fld .SLU_STATUS_LED_FREE, .arr (.SLU_SEC_FREE_FREE 0) 0x4 4, .arr (.SLU_SEC_RUN_RUN 0) 0x4 4,
    .arr (.SLU_CRED_USED_USED 0) 0x4 32] : List Regs).all (fun r => r.apartB g) = true) : (s.reserve x).get g = s.get g :=
  (State.reserve_frame (fun _ hp => hp) (fun _ hr => hr) (Frame.refl _ _ s)).get h

end Sys2Proof.Machine
end

section
set_option Elab.async false
/-! INTERRUPTS THAT PEND STAY PENDING. A source that is raised and an operation that is terminated add to Mire's interrupts and take none away. -/

namespace Sys2Proof.Machine

variable {s : State} {x : MireIrq}

theorem State.irqMire_grows (y : MireIrq) (h : x ∈ s.mireIrq) : x ∈ (s.irqMire y).mireIrq := by
  unfold State.irqMire
  split
  · exact h
  · exact List.mem_append_left _ h

theorem State.when_grows {c : Bool} {f : State → State} (hf : x ∈ (f s).mireIrq) (h : x ∈ s.mireIrq) : x ∈ (s.when c f).mireIrq := by
  cases c
  · exact h
  · exact hf

theorem State.forN_grows {f : Nat → State → State} (hf : ∀ i t, x ∈ t.mireIrq → x ∈ (f i t).mireIrq) (k : Nat) (h : x ∈ s.mireIrq) :
    x ∈ (s.forN k f).mireIrq :=
  State.forN_inv (Inv := fun t => x ∈ t.mireIrq) h (fun i _ t ht => hf i t ht)

theorem State.sdgStatus_grows (n : Nat) (h : x ∈ s.mireIrq) : x ∈ (s.sdgStatus n).mireIrq := by
  refine State.when_grows (State.irqMire_grows _ ?_) ?_
  · simpa using h
  · simpa using h

theorem State.postResult_grows (n : Nat) (r : SectorResult) (h : x ∈ s.mireIrq) : x ∈ (s.postResult n r).mireIrq := by
  unfold State.postResult
  split
  · exact State.sdgStatus_grows n (State.when_grows (State.irqMire_grows _ h) h)
  · exact State.sdgStatus_grows n h

theorem State.cutRead_grows (n : Nat) (h : x ∈ s.mireIrq) : x ∈ (s.cutRead n).mireIrq := by
  unfold State.cutRead
  dsimp only
  split
  · exact State.postResult_grows n _ (by simpa using h)
  · exact h

theorem State.terminate_grows (n term cause : Nat) (h : x ∈ s.mireIrq) : x ∈ (s.terminate n term cause).mireIrq := by
  unfold State.terminate
  split
  · lift_lets
    extract_lets s1 s2 s3 s4 s5 s6
    have h1 : x ∈ s1.mireIrq := by simpa [s1] using h
    have h2 : x ∈ s2.mireIrq := by
      rw [State.endDefects_mireIrq]
      exact State.cutRead_grows n h1
    clear_value s2
    have h3 : x ∈ s3.mireIrq := State.when_grows (by simpa using h2) h2
    clear_value s3
    have h6 : x ∈ s6.mireIrq := by simpa [s6, s5, s4] using h3
    exact State.irqMire_grows _ (State.sdgStatus_grows n h6)
  · exact h

theorem State.fatalDrop_grows (h : x ∈ s.mireIrq) : x ∈ s.fatalDrop.mireIrq :=
  State.forN_grows (fun n _ ht => State.terminate_grows n 3 0 (by simpa using ht)) 8 h

theorem State.recordLine_grows (code inst detail : Nat) (injected : Bool) (h : x ∈ s.mireIrq) :
    x ∈ (s.recordLine code inst detail injected).mireIrq := by
  unfold State.recordLine
  split
  · exact h
  next row _ =>
    extract_lets line cls s1 coalesce slot w rep r flags e l s2 lev s4 s5 s6
    have h1 : x ∈ s1.mireIrq := State.when_grows (State.fatalDrop_grows h) h
    clear_value coalesce s1
    split
    · exact h1
    · have h2 : x ∈ s2.mireIrq := by simpa [s2] using h1
      have h5 : x ∈ s5.mireIrq := by simpa [s5, s4] using h2
      have h6 : x ∈ s6.mireIrq := State.irqMire_grows _ (by simpa using h5)
      exact State.when_grows (by simpa using h6) h6

theorem State.relieve_grows (h : x ∈ s.mireIrq) : x ∈ s.relieve.mireIrq := by
  unfold State.relieve
  split
  · split
    · exact State.recordLine_grows _ _ _ _ (by simpa using h)
    · exact h
  · exact h

theorem State.raise_grows (code inst detail : Nat) (h : x ∈ s.mireIrq) : x ∈ (s.raise code inst detail).mireIrq :=
  State.relieve_grows (State.recordLine_grows _ _ _ _ h)

end Sys2Proof.Machine
end

section
set_option Elab.async false
/-! THE SPINDLE STARTS (03). From IDLE by OBSERVE, ALIGN and RAMP to RUN (R60, R62), with the observation after a failed handover (R63) and the
check of the back-EMF constant on the way (R67). -/

namespace Sys2Proof.Machine

variable {s : State} {emf speed : Nat} {reverse : Bool}

/-! ### The commands -/

theorem exec_observeEnd_of_run (hstate : s.get .WTH_SPN_STATUS_STATE = 1) (hrun : s.get .WTH_SPN_CTRL_RUN = 1) :
    exec (.observeEnd emf speed reverse) s = .next ((s.set .WTH_SPN_STATUS_DIR_REV 0).afterObserve emf speed reverse) := by
  change execObserveEnd emf speed reverse s = _
  simp (disch := decide) [execObserveEnd, State.spinIs, State.is, State.get_set_other, hstate, hrun]

theorem exec_handoverObserveEnd_of_watching (hstate : s.get .WTH_SPN_STATUS_STATE = 4) (hwatch : s.withy.watching = true) :
    exec (.handoverObserveEnd emf speed reverse) s = .next (s.afterObserve emf speed reverse) := by
  change execHandoverObserveEnd emf speed reverse s = _
  simp [execHandoverObserveEnd, State.spinIs, hstate, hwatch]

/-- The third failure of a handover is the one that counts ATTEMPT to 3 (R63). -/
theorem State.inc_attempt (h : s.get .WTH_SPN_STATUS_ATTEMPT ≤ 2) :
    (s.inc .WTH_SPN_STATUS_ATTEMPT).get .WTH_SPN_STATUS_ATTEMPT = s.get .WTH_SPN_STATUS_ATTEMPT + 1 := by
  rw [State.inc, State.get_set_self _ _ _ (by decide)]
  exact Nat.mod_eq_of_lt (by dsimp only; omega)

theorem exec_handoverFail_of_few (hstate : s.get .WTH_SPN_STATUS_STATE = 4) (htest : s.withy.testing = true)
    (hfew : s.get .WTH_SPN_STATUS_ATTEMPT < 2) :
    exec .handoverFail s = .next { (s.inc .WTH_SPN_STATUS_ATTEMPT).bridgeTo .off with
      withy := { ((s.inc .WTH_SPN_STATUS_ATTEMPT).bridgeTo .off).withy with testing := false, watching := true } } := by
  have hcount : ¬ 3 ≤ (s.inc .WTH_SPN_STATUS_ATTEMPT).get .WTH_SPN_STATUS_ATTEMPT := by
    rw [State.inc_attempt (by omega)]
    omega
  change execHandoverFail s = _
  simp [execHandoverFail, State.spinIs, hstate, htest, hcount]

theorem exec_handoverFail_of_third (hstate : s.get .WTH_SPN_STATUS_STATE = 4) (htest : s.withy.testing = true)
    (hthird : s.get .WTH_SPN_STATUS_ATTEMPT = 2) :
    exec .handoverFail s = .next (((s.inc .WTH_SPN_STATUS_ATTEMPT).spinTo 9 .regen).spinFault 0 0x0401) := by
  have hcount : 3 ≤ (s.inc .WTH_SPN_STATUS_ATTEMPT).get .WTH_SPN_STATUS_ATTEMPT := by
    rw [State.inc_attempt (by omega)]
    omega
  change execHandoverFail s = _
  simp [execHandoverFail, State.spinIs, hstate, htest, hcount]

/-- The measurement at the end of the check, and the constant that it gives (R66, R67). -/
def State.keMeasured (s : State) (emf speed : Nat) : State :=
  let s := (s.measure speed).set .WTH_SPN_KE_KE_MEAS (keOf emf speed)
  { s.bridgeTo .foc with withy := { (s.bridgeTo .foc).withy with keDone := true, keOff := false } }

theorem State.keMeasured_ke : (s.keMeasured emf speed).get .WTH_SPN_KE_KE_MEAS = keOf emf speed := by
  have hlt : keOf emf speed < 2 ^ 16 := by
    unfold keOf
    split
    · decide
    · exact Nat.lt_succ_of_le (Nat.min_le_left _ _)
  simp (disch := decide) only [State.keMeasured, State.get_mk, State.bridgeTo_get, State.get_set_self]
  exact Nat.mod_eq_of_lt hlt

@[simp] theorem State.keMeasured_bridge : (s.keMeasured emf speed).withy.bridge = .foc := rfl

@[simp] theorem State.keMeasured_keDone : (s.keMeasured emf speed).withy.keDone = true := rfl

theorem State.keMeasured_state : (s.keMeasured emf speed).get .WTH_SPN_STATUS_STATE = s.get .WTH_SPN_STATUS_STATE := by
  simp (disch := decide) [State.keMeasured, State.measure, State.setIf, State.get_set_other]

theorem State.keMeasured_keBad (ke : Nat) : (s.keMeasured emf speed).keBad ke = s.keBad ke := by
  refine State.keBad_congr ?_
  simp (disch := decide) [State.keMeasured, State.measure, State.setIf, State.get_set_other]

theorem exec_keCheckEnd_of_open (hrun : s.get .WTH_SPN_STATUS_STATE = 5) (hoff : s.withy.keOff = true) :
    exec (.keCheckEnd emf speed) s = .next (if s.keBad (keOf emf speed) = true then (s.keMeasured emf speed).keFault
      else (s.keMeasured emf speed).refFrom speed) := by
  rw [← State.keMeasured_keBad (s := s) (emf := emf) (speed := speed)]
  change execKeCheckEnd emf speed s = _
  unfold execKeCheckEnd
  have hopen : (s.spinIs 5 && s.withy.keOff) = true := by simp [State.spinIs, hrun, hoff]
  rw [hopen, State.when_true]
  rfl

/-- Settles O12: each command writes what its branch of R60 to R67 says, by the lemmas on the end of an observation and on the check. -/
theorem spindleStarts : Obligations.SpindleStarts := by
  unfold Obligations.SpindleStarts
  refine ⟨fun s hidle => ?_, fun s hbusy => ?_, fun s emf speed reverse hobs hrun hrest => ?_,
    fun s emf speed reverse hobs hrun hturn hrev => ?_, fun s emf speed reverse hobs hrun hturn hfwd hslow => ?_,
    fun s emf speed reverse hobs hrun hturn hfwd hfast hcheck => ?_, fun s emf speed reverse hobs hstop => ?_, fun s halign => ?_,
    fun s halign => ?_, fun s hramp hwatch => ?_, fun s speed hramp htest => ?_, fun s hramp htest hfew => ?_,
    fun s hramp htest hthird => ?_, fun s emf speed reverse hramp hwatch hrest => ?_,
    fun s emf speed reverse hramp hwatch hturn hrev => ?_, fun s emf speed reverse hramp hwatch hturn hfwd hslow => ?_,
    fun s emf speed reverse hramp hwatch hturn hfwd hfast hcheck => ?_, fun s hrun hdone hoff hfast => ?_,
    fun s emf speed hrun hoff hgood => ?_, fun s emf speed hrun hoff hbad => ?_⟩
  · refine completes_of_frame (execRunStart_frame (parts_in rfl) (fun _ hr => hr)) ?_
    simp (disch := decide +kernel) [Completes, exec, execRunStart, State.runStart, State.spinIs, State.spinTo_get, State.get_set_self,
      State.get_set_other, hidle]
  · refine completes_of_frame (execRunStart_frame (parts_in rfl) (fun _ hr => hr)) ?_
    simp (disch := decide +kernel) [Completes, exec, execRunStart, State.runStart, State.spinIs, State.get_set_self,
      State.get_set_other, hbusy]
  · refine completes_of_outFrame (execObserveEnd_frame (parts_in rfl) (fun _ hr => hr)) (exec_observeEnd_of_run hobs hrun) (fun _ => ?_)
    have hrest' := (State.set_atRest (f := .WTH_SPN_STATUS_DIR_REV) (v := 0) (by decide)).trans hrest
    simp [State.afterObserve_of_rest hrest']
  · refine completes_of_outFrame (execObserveEnd_frame (parts_in rfl) (fun _ hr => hr)) (exec_observeEnd_of_run hobs hrun) (fun _ => ?_)
    have hturn' := (State.set_atRest (f := .WTH_SPN_STATUS_DIR_REV) (v := 0) (by decide)).trans hturn
    simp (disch := decide +kernel) [State.afterObserve_of_reverse hturn' hrev, State.spinTo_get, State.get_set_self]
  · refine completes_of_outFrame (execObserveEnd_frame (parts_in rfl) (fun _ hr => hr)) (exec_observeEnd_of_run hobs hrun) (fun _ => ?_)
    have hturn' := (State.set_atRest (f := .WTH_SPN_STATUS_DIR_REV) (v := 0) (by decide)).trans hturn
    simp [State.afterObserve_of_slow hturn' hfwd hslow]
  · refine completes_of_outFrame (execObserveEnd_frame (parts_in rfl) (fun _ hr => hr)) (exec_observeEnd_of_run hobs hrun) (fun _ => ?_)
    have hturn' := (State.set_atRest (f := .WTH_SPN_STATUS_DIR_REV) (v := 0) (by decide)).trans hturn
    simp [State.afterObserve_of_fast hturn' hfwd hfast hcheck]
  · refine completes_of_frame (execObserveEnd_frame (parts_in rfl) (fun _ hr => hr)) ?_
    cases hrest : s.atRest emf
    all_goals simp (disch := decide +kernel) [Completes, exec, execObserveEnd, State.spinIs, State.is, State.setIf,
      State.measure_atRest, State.set_atRest, State.get_set_other, hobs, hstop, hrest]
  · refine completes_of_frame (execAlignSecondAngle_frame (parts_in rfl)) ?_
    simp [Completes, exec, execAlignSecondAngle, State.spinIs, halign]
  · refine completes_of_frame (execAlignEnd_frame (parts_in rfl) (fun _ hr => hr)) ?_
    simp [Completes, exec, execAlignEnd, State.spinIs, halign]
  · refine completes_of_frame (execRampReached_frame (parts_in rfl) (fun _ hr => hr)) ?_
    simp (disch := decide) [Completes, exec, execRampReached, State.spinIs, State.measure, State.setIf, State.get_set_self,
      State.get_set_other, hramp, hwatch]
  · refine completes_of_frame (execHandover_frame (parts_in rfl) (fun _ hr => hr)) ?_
    simp [Completes, exec, execHandover, State.spinIs, State.enterRun_speed, hramp, htest]
  · refine completes_of_outFrame (execHandoverFail_frame (parts_in rfl) (fun _ hr => hr)) (exec_handoverFail_of_few hramp htest hfew)
      (fun _ => ⟨?_, ?_, rfl, rfl, rfl⟩)
    · simp (disch := decide) [State.inc, State.get_set_other, hramp]
    · exact State.inc_attempt (by omega)
  · refine completes_of_outFrame (execHandoverFail_frame (parts_in rfl) (fun _ hr => hr)) (exec_handoverFail_of_third hramp htest hthird)
      (fun _ => ?_)
    simp (disch := decide +kernel) [State.spinFault_get, State.spinFault_latched, State.get_set_other]
  · refine completes_of_outFrame (execHandoverObserveEnd_frame (parts_in rfl) (fun _ hr => hr))
      (exec_handoverObserveEnd_of_watching hramp hwatch) (fun _ => ?_)
    simp [State.afterObserve_of_rest hrest]
  · refine completes_of_outFrame (execHandoverObserveEnd_frame (parts_in rfl) (fun _ hr => hr))
      (exec_handoverObserveEnd_of_watching hramp hwatch) (fun _ => ?_)
    simp (disch := decide +kernel) [State.afterObserve_of_reverse hturn hrev, State.spinTo_get, State.get_set_self]
  · refine completes_of_outFrame (execHandoverObserveEnd_frame (parts_in rfl) (fun _ hr => hr))
      (exec_handoverObserveEnd_of_watching hramp hwatch) (fun _ => ?_)
    simp [State.afterObserve_of_slow hturn hfwd hslow]
  · refine completes_of_outFrame (execHandoverObserveEnd_frame (parts_in rfl) (fun _ hr => hr))
      (exec_handoverObserveEnd_of_watching hramp hwatch) (fun _ => ?_)
    simp [State.afterObserve_of_fast hturn hfwd hfast hcheck]
  · refine completes_of_frame (execKeCheckStart_frame (parts_in rfl)) ?_
    simp [Completes, exec, execKeCheckStart, State.spinIs, hrun, hdone, hoff, show 1024000 ≤ s.get .WTH_SPN_MEAS_SPEED from hfast]
  · refine completes_of_outFrame (execKeCheckEnd_frame (parts_in rfl) (fun _ hr => hr)) (exec_keCheckEnd_of_open hrun hoff) (fun _ => ?_)
    simp (disch := decide) [hgood, State.refFrom, State.keMeasured_ke, State.keMeasured_state, State.get_set_other, hrun]
  · refine completes_of_outFrame (execKeCheckEnd_frame (parts_in rfl) (fun _ hr => hr)) (exec_keCheckEnd_of_open hrun hoff) (fun _ => ?_)
    simp (disch := decide +kernel) [hbad, State.keFault, State.spinFault_get, State.spinFault_latched, State.spinTo_get,
      State.get_set_other, State.keMeasured_ke]

end Sys2Proof.Machine
end

section
set_option Elab.async false
/-! THE SPINDLE STOPS (03). RUN cleared (R60, R71), the ends of braking, the spindle's faults (R68, R69, R72, R74, R81), and a modulation
period (R64, R68). -/

namespace Sys2Proof.Machine

variable {s : State}

/-! ### What the clauses read of a next state -/

theorem State.set_spnCtrl_allParked (v : Nat) : (s.set .WTH_SPN_CTRL_RUN v).allParked = s.allParked :=
  State.allParked_congr (fun k => State.get_set_ne _ _ (by dsimp only; omega))

/-- A stop outside ALIGN, RAMP and RUN only clears RUN. -/
theorem State.runStop_of_other (h : s.get .WTH_SPN_STATUS_STATE ∉ [3, 4, 5]) : s.runStop = s.set .WTH_SPN_CTRL_RUN 0 := by
  simp only [List.mem_cons, List.not_mem_nil, or_false, not_or] at h
  obtain ⟨hne3, hne4, hne5⟩ := h
  unfold State.runStop
  dsimp only
  rw [State.get_set_other _ _ (by decide)]
  split <;> first | contradiction | rfl

theorem State.retractAll_state : s.retractAll.get .WTH_SPN_STATUS_STATE = s.get .WTH_SPN_STATUS_STATE :=
  State.retractAll_get (by decide +kernel)

theorem State.spinCut_active (k : Nat) : s.spinCut.get (.WTH_VCM_STATUS_RET_ACTIVE k) = s.get (.WTH_VCM_STATUS_RET_ACTIVE k) := by
  unfold State.spinCut
  split
  · exact State.spinTo_active _ _ _
  · split
    · rfl
    · rfl

/-! ### The currents (R64, R68) -/

theorem State.idFloor_range : -32768 ≤ s.idFloor ∧ s.idFloor ≤ 0 := by
  have hirun : s.get .WTH_SPN_CUR_IRUN < 2 ^ 8 := s.get_lt _
  unfold State.idFloor
  omega

theorem State.weaken_range {mi : Nat} {di : Int} : -32768 ≤ s.weaken di mi ∧ s.weaken di mi < 32768 := by
  have hid : s.get .WTH_SPN_FOC_ID < 2 ^ 16 := s.get_lt _
  have hold : s.getS .WTH_SPN_FOC_ID < 32768 := by
    unfold State.getS signed
    split
    all_goals simp only [Nat.reduceSub, Nat.reducePow] at *
    all_goals omega
  have hfloor := s.idFloor_range
  unfold State.weaken
  dsimp only
  split <;> omega

theorem State.idFloor_congr {t : State} (h : t.get .WTH_SPN_CUR_IRUN = s.get .WTH_SPN_CUR_IRUN) : t.idFloor = s.idFloor := by
  unfold State.idFloor
  rw [h]

theorem State.measure_weaken {speed mi : Nat} {di : Int} : (s.measure speed).weaken di mi = s.weaken di mi := by
  have hfloor : (s.measure speed).idFloor = s.idFloor := State.idFloor_congr (by
    simp (disch := decide) [State.measure, State.setIf, State.get_set_other])
  have hid : (s.measure speed).getS .WTH_SPN_FOC_ID = s.getS .WTH_SPN_FOC_ID := State.getS_congr (by
    simp (disch := decide) [State.measure, State.setIf, State.get_set_other])
  unfold State.weaken
  rw [hfloor, hid]

/-- The limit of the torque current follows the state, IHOLD and IRUN. -/
theorem State.limitQ_congr {t : State} {iq i : Int} (hstate : t.get .WTH_SPN_STATUS_STATE = s.get .WTH_SPN_STATUS_STATE)
    (hhold : t.get .WTH_SPN_CUR_IHOLD = s.get .WTH_SPN_CUR_IHOLD) (hirun : t.get .WTH_SPN_CUR_IRUN = s.get .WTH_SPN_CUR_IRUN) :
    t.limitQ iq i = s.limitQ iq i := by
  unfold State.limitQ State.currentLimit State.spinIs
  rw [hstate, hhold, hirun]

theorem State.revolution_iq (mean : Nat) : (s.revolution mean).withy.iq = s.withy.iq := by
  unfold State.revolution State.when
  dsimp only
  repeat' split
  all_goals simp

theorem State.elecPeriod_iq (cycles : Nat) : (s.elecPeriod cycles).withy.iq = s.withy.iq := by
  unfold State.elecPeriod
  dsimp only
  repeat' split
  all_goals simp only [State.revolution_iq]

/-- What a period of RUN writes before it judges the speed. -/
def State.focRun (s : State) (speed : Nat) (di : Int) (mi : Nat) : State :=
  let s := s.measure speed
  let i := s.weaken di mi
  let s := (s.setS .WTH_SPN_FOC_ID i).set .WTH_SPN_FOC_MI mi
  let s := { s with withy := { s.withy with iq := s.limitQ s.withy.iq i, entered := s.withy.entered || s.inBand 1 speed } }
  (s.setIf .WTH_SPN_STATUS_FW_ACTIVE (decide (i ≠ 0))).when (decide (s.idFloor < i)) (fun s => s.set .WTH_SPN_STATUS_FW_SAT 0)

theorem State.focRun_state (speed : Nat) (di : Int) (mi : Nat) :
    (s.focRun speed di mi).get .WTH_SPN_STATUS_STATE = s.get .WTH_SPN_STATUS_STATE := by
  unfold State.focRun State.when
  dsimp only
  split
  all_goals simp (disch := decide) [State.setIf, State.measure, State.get_set_other, State.get_setS_other]

theorem State.focRun_mi (speed : Nat) (di : Int) (mi : Nat) : (s.focRun speed di mi).get .WTH_SPN_FOC_MI = mi % 2 ^ 10 := by
  unfold State.focRun State.when
  dsimp only
  split
  all_goals simp (disch := decide) [State.setIf, State.measure, State.get_set_other, State.get_set_self]

theorem State.focRun_id (speed : Nat) (di : Int) (mi : Nat) : (s.focRun speed di mi).getS .WTH_SPN_FOC_ID = s.weaken di mi := by
  have hrange := s.weaken_range (di := di) (mi := mi)
  rw [← State.measure_weaken (speed := speed)] at hrange ⊢
  refine Eq.trans (State.getS_congr ?_)
    (State.getS_setS_self (s := s.measure speed) (f := .WTH_SPN_FOC_ID) hrange.1 hrange.2 (by decide) (by decide))
  unfold State.focRun State.when
  dsimp only
  split
  all_goals simp (disch := decide) [State.setIf, State.get_set_other]

theorem State.focRun_iq (speed : Nat) (di : Int) (mi : Nat) :
    (s.focRun speed di mi).withy.iq = (s.setS .WTH_SPN_FOC_ID (s.weaken di mi)).limitQ s.withy.iq (s.weaken di mi) := by
  rw [← State.measure_weaken (speed := speed) (s := s)]
  have hwithy : (s.measure speed).withy = s.withy := rfl
  have hlimit (iq i : Int) : (((s.measure speed).setS .WTH_SPN_FOC_ID i).set .WTH_SPN_FOC_MI mi).limitQ iq i =
      (s.setS .WTH_SPN_FOC_ID i).limitQ iq i := by
    refine State.limitQ_congr ?_ ?_ ?_
    all_goals simp (disch := decide) [State.setIf, State.measure, State.get_set_other, State.get_setS_other]
  unfold State.focRun State.when
  dsimp only
  split
  all_goals simp [hlimit, hwithy]

theorem exec_focPeriod_of_run {speed mi : Nat} {di : Int} {elec : Option Nat} (h : s.get .WTH_SPN_STATUS_STATE = 5) :
    exec (.focPeriod speed di mi elec) s =
      .next (match elec with | some c => (s.focRun speed di mi).judgeSpeed.elecPeriod c | none => (s.focRun speed di mi).judgeSpeed) := by
  have hstate : (s.measure speed).get .WTH_SPN_STATUS_STATE = 5 := by
    simpa (disch := decide) [State.setIf, State.measure, State.get_set_other] using h
  change execFocPeriod speed di mi elec s = _
  unfold execFocPeriod
  simp only [hstate]
  rfl

/-- Settles O13: a stop, a fault and a period write what their branch for the spindle's state says; a retract that goes with a fault reaches
every section that is not parked. -/
theorem spindleStops : Obligations.SpindleStops := by
  unfold Obligations.SpindleStops
  refine ⟨fun s hrun hload => ?_, fun s hdriven => ?_, fun s halign => ?_, fun s hother => ?_, fun s hblocked hpark => ?_, fun s hstop => ?_,
    fun s hbrake => ?_, fun s hfault => ?_, fun s emf hfault hrest => ?_, fun s emf hturn => ?_, fun s hbrake => ?_,
    fun s hrun hfloor hmi => ?_, fun s hdriven => ?_, fun s hfree => ?_, fun s vhb hchop hhigh => ?_, fun s vhb hhold hlow => ?_,
    fun s hdriven => ?_, fun s hfree => ?_, fun s speed di mi elec hrun => ?_, fun s speed di mi elec hstop hregen hslow => ?_,
    fun s speed di mi elec hramp hbridge => ?_⟩
  · refine completes_of_frame (execRunStop_frame (parts_in rfl) (fun _ hr => hr)) ?_
    have hload' : s.ack.allParked = false := hload
    simp (disch := decide +kernel) [Completes, exec, execRunStop, State.runStop, State.set_spnCtrl_allParked, State.get_set_self,
      State.get_set_other, hrun, hload']
  · refine completes_of_frame (execRunStop_frame (parts_in rfl) (fun _ hr => hr)) ?_
    rcases hdriven with hramp | ⟨hrun, hpark⟩
    · simp (disch := decide +kernel) [Completes, exec, execRunStop, State.runStop, State.spinTo_get, State.get_set_self,
      State.get_set_other, hramp]
    · have hpark' : s.ack.allParked = true := hpark
      simp (disch := decide +kernel) [Completes, exec, execRunStop, State.runStop, State.set_spnCtrl_allParked, State.spinTo_get,
        State.get_set_self, State.get_set_other, hrun, hpark']
  · refine completes_of_frame (execRunStop_frame (parts_in rfl) (fun _ hr => hr)) ?_
    simp (disch := decide +kernel) [Completes, exec, execRunStop, State.runStop, State.spinTo_get, State.get_set_self,
      State.get_set_other, halign]
  · refine completes_of_frame (execRunStop_frame (parts_in rfl) (fun _ hr => hr)) ?_
    have hkeep : s.ack.runStop = s.ack.set .WTH_SPN_CTRL_RUN 0 := State.runStop_of_other hother
    simp (disch := decide) [Completes, exec, execRunStop, State.get_set_self, State.get_set_other, hkeep]
  · refine completes_of_frame (execStopProceed_frame (parts_in rfl) (fun _ hr => hr)) ?_
    simp [Completes, exec, execStopProceed, State.is, State.spinTo_stopBlocked, hblocked, hpark]
  · refine completes_of_frame (execBrakeRest_frame (parts_in rfl) (fun _ hr => hr)) ?_
    simp [Completes, exec, execBrakeRest, hstop]
  · refine completes_of_frame (execBrakeRest_frame (parts_in rfl) (fun _ hr => hr)) ?_
    have hbit : s.get .WTH_SPN_CTRL_RUN < 2 ^ 1 := s.get_lt _
    by_cases hrun : s.get .WTH_SPN_CTRL_RUN = 1
    · simp [Completes, exec, execBrakeRest, State.is, hbrake, hrun]
    · simp [Completes, exec, execBrakeRest, State.is, hbrake, show s.get .WTH_SPN_CTRL_RUN = 0 by omega]
  · refine completes_of_frame (execBrakeRest_frame (parts_in rfl) (fun _ hr => hr)) ?_
    simp [Completes, exec, execBrakeRest, hfault]
  · refine completes_of_frame (execClrFault_frame (parts_in rfl) (fun _ hr => hr)) ?_
    have hrest' : s.ack.atRest emf = true := hrest
    rcases hfault with hfault | hfault
    all_goals simp [Completes, exec, execClrFault, State.clearFault, State.spinIs, hfault, hrest']
  · refine completes_of_frame (execClrFault_frame (parts_in rfl) (fun _ hr => hr)) ?_
    have hturn' : s.ack.atRest emf = false := hturn
    simp [Completes, exec, execClrFault, State.clearFault, hturn']
  · refine completes_of_frame (execWthBrakeTimeout_frame (parts_in rfl) (fun _ hr => hr)) ?_
    simp (disch := decide +kernel) [Completes, exec, execWthBrakeTimeout, State.spinIs, State.spinFault_get, State.spinFault_latched,
      State.get_set_other, hbrake]
  · refine completes_of_frame (execWthSpeedLimited_frame (parts_in rfl) (fun _ hr => hr)) ?_
    have hmi' : 94208 < 100 * s.get .WTH_SPN_FOC_MI := hmi
    simp (disch := decide +kernel) [Completes, exec, execWthSpeedLimited, State.spinIs, State.spinFault_get, State.spinFault_latched,
      State.get_set_self, State.get_set_other, hrun, hfloor, hmi']
  · refine completes_of_frame (execWthSpnOc_frame (parts_in rfl) (fun _ hr => hr)) ?_
    have hcut : s.spinCut = s.spinTo 9 .off := State.spinCut_of_driven (by simpa using hdriven)
    simp (disch := decide +kernel) [Completes, exec, execWthSpnOc, State.spinFault_get, State.spinFault_latched, State.get_set_other,
      hcut]
  · refine completes_of_frame (execWthSpnOc_frame (parts_in rfl) (fun _ hr => hr)) ?_
    simp (disch := decide +kernel) [Completes, exec, execWthSpnOc, State.spinFault_get, State.spinFault_latched, State.get_set_other,
      State.spinCut_of_undriven hfree]
  · refine completes_of_frame (execWthChopFail_frame (parts_in rfl) (fun _ hr => hr)) ?_
    have hparked (k : Nat) : (s.set .WEIR_MEAS_VHB_MV vhb).get (.WTH_VCM_STATUS_PARKED k) = s.get (.WTH_VCM_STATUS_PARKED k) :=
      State.get_set_ne _ _ (by dsimp only; omega)
    simp (disch := decide +kernel) [Completes, exec, execWthChopFail, State.is, State.spinFault_get, State.spinFault_latched,
      State.get_set_other, hchop, hhigh]
    intro k hk hload
    rw [State.spinFault_active, State.spinTo_active, State.retractAll_active hk ((hparked k).trans hload)]
  · refine completes_of_frame (execHoldCollapse_frame (parts_in rfl) (fun _ hr => hr)) ?_
    simp (disch := decide +kernel) [Completes, exec, execHoldCollapse, State.spinIs, State.is, State.rectify, State.get_set_self,
      State.get_set_other, hhold, hlow]
  · refine completes_of_frame (execWthGdUvlo_frame (parts_in rfl) (fun _ hr => hr)) ?_
    have hcut : s.retractAll.spinCut = s.retractAll.spinTo 9 .off :=
      State.spinCut_of_driven (by simpa [State.retractAll_state] using hdriven)
    simp (disch := decide +kernel) [Completes, exec, execWthGdUvlo, State.spinFault_get, State.spinFault_latched, State.get_set_other,
      hcut]
    intro k hk hload
    rw [State.spinFault_active, State.spinTo_active, State.retractAll_active hk hload]
  · refine completes_of_frame (execWthGdUvlo_frame (parts_in rfl) (fun _ hr => hr)) ?_
    have hcut : s.retractAll.spinCut = s.retractAll.bridgeTo .off :=
      State.spinCut_of_undriven (by simpa [State.retractAll_state] using hfree)
    simp (disch := decide +kernel) [Completes, exec, execWthGdUvlo, State.spinFault_get, State.spinFault_latched, State.get_set_other,
      hcut, State.retractAll_state]
    intro k hk hload
    rw [State.spinFault_active, State.bridgeTo_get, State.retractAll_active hk hload]
  · refine completes_of_outFrame (execFocPeriod_frame (parts_in rfl) (fun _ hr => hr)) (exec_focPeriod_of_run hrun) (fun _ => ?_)
    have hid (t : State) (h : t.get .WTH_SPN_FOC_ID = (s.focRun speed di mi).get .WTH_SPN_FOC_ID) :
        t.getS .WTH_SPN_FOC_ID = s.weaken di mi := (State.getS_congr h).trans (State.focRun_id speed di mi)
    cases elec
    all_goals
      refine ⟨?_, ?_, hid _ ?_, ?_⟩
      all_goals simp (disch := decide +kernel) [State.elecPeriod_get, State.judgeSpeed_get, State.elecPeriod_iq, State.focRun_state,
        State.focRun_mi, State.focRun_iq, hrun]
  · refine completes_of_frame (execFocPeriod_frame (parts_in rfl) (fun _ hr => hr)) ?_
    have hslow' : speed ≤ 307200 := hslow
    rcases hstop with hstop | hstop
    all_goals simp (disch := decide +kernel) [Completes, exec, execFocPeriod, State.measure, State.setIf, State.get_set_other, hstop,
      hslow', hregen]
  · refine completes_of_frame (execFocPeriod_frame (parts_in rfl) (fun _ hr => hr)) ?_
    have hrate : (s.measure speed).rampRate = s.rampRate := by
      simp (disch := decide) [State.rampRate, State.measure, State.setIf, State.get_set_other]
    have hstate : (s.measure speed).get .WTH_SPN_STATUS_STATE = 4 := by
      simpa (disch := decide) [State.measure, State.setIf, State.get_set_other] using hramp
    have hwithy : (s.measure speed).withy = s.withy := rfl
    simp [Completes, exec, execFocPeriod, hstate, hwithy, hbridge, hrate]

end Sys2Proof.Machine
end

section
set_option Elab.async false
/-! THE ACTUATORS (03). Overcurrent and enabling (R75, R76), the park command and the hold of a microactuator (R78), and the retracts from
their start to the end of their hold (R79, R80). -/

namespace Sys2Proof.Machine

variable {s : State}

/-! ### The bridges -/

theorem State.bridgeOff_en (k : Nat) : (s.bridgeOff k).get (.WTH_VCM_CTRL_EN k) = 0 := by
  simp (disch := (dsimp only; omega)) [State.bridgeOff, State.get_set_self, State.get_set_other]

theorem State.bridgeOff_enabled (k : Nat) : (s.bridgeOff k).get (.WTH_VCM_STATUS_ENABLED k) = 0 := by
  simp (disch := (dsimp only; omega)) [State.bridgeOff, State.get_set_self]

@[simp] theorem State.bridgeOff_vcm (k : Nat) : (s.bridgeOff k).withy.vcm.at k = .off := by
  simp [State.bridgeOff]

@[simp] theorem State.bridgeOff_bus (k : Nat) : (s.bridgeOff k).bus = s.bus := rfl

theorem State.holdMa_hold (n : Nat) : (s.holdMa n).get (.WTH_MA_CTRL_HOLD n) = 1 := by
  simp (disch := (dsimp only; omega)) [State.holdMa, State.get_set_self, State.get_set_other]

theorem State.holdMa_vout (n : Nat) : (s.holdMa n).get (.WTH_MA_STATUS_VOUT n) = 0 := by
  simp (disch := (dsimp only; omega)) [State.holdMa, State.get_set_self]

/-! ### Retracts -/

@[simp] theorem State.holdAtStop_get (k : Nat) {g : Fld} : (s.holdAtStop k).get g = s.get g := State.get_mk

@[simp] theorem State.holdAtStop_retract (k : Nat) : (s.holdAtStop k).withy.retract.at k = .hold := by
  simp [State.holdAtStop]

theorem State.startRetract_of_idle {k : Nat} (h : s.get (.WTH_VCM_STATUS_RET_ACTIVE k) = 0) :
    (s.startRetract k).withy.retract.at k = .moving := by
  simp [State.startRetract, State.is, h, State.driveVcm, State.holdMa]

theorem State.startRetract_of_active {k : Nat} (h : s.get (.WTH_VCM_STATUS_RET_ACTIVE k) = 1) : s.startRetract k = s := by
  simp [State.startRetract, State.is, h]

theorem State.startRetract_retract_ne {j k : Nat} (h : k ≠ j) :
    (s.startRetract j).withy.retract.at k = s.withy.retract.at k := by
  unfold State.startRetract
  split
  · rfl
  · simp [State.driveVcm, State.holdMa, Tab.at_put_ne _ _ h]

/-! ### What operations of other units leave of a section's and a microactuator's fields -/

@[simp] theorem State.mwqSync_en (j : Nat) : (s.mwqSync).get (.WTH_VCM_CTRL_EN j) = s.get (.WTH_VCM_CTRL_EN j) :=
  State.mwqSync_get (apart_mod (n := 4) _ (by decide) (by simp) (by decide +kernel) j)

@[simp] theorem State.mwqSync_enabled (j : Nat) : (s.mwqSync).get (.WTH_VCM_STATUS_ENABLED j) = s.get (.WTH_VCM_STATUS_ENABLED j) :=
  State.mwqSync_get (apart_mod (n := 4) _ (by decide) (by simp) (by decide +kernel) j)

@[simp] theorem State.mwqSync_parked (j : Nat) : (s.mwqSync).get (.WTH_VCM_STATUS_PARKED j) = s.get (.WTH_VCM_STATUS_PARKED j) :=
  State.mwqSync_get (apart_mod (n := 4) _ (by decide) (by simp) (by decide +kernel) j)

@[simp] theorem State.parkSeen_en (k : Nat) (j : Nat) : (s.parkSeen k).get (.WTH_VCM_CTRL_EN j) = s.get (.WTH_VCM_CTRL_EN j) :=
  State.parkSeen_get (apart_mod (n := 4) _ (by decide) (by simp) (by decide +kernel) j)

@[simp] theorem State.parkSeen_enabled (k : Nat) (j : Nat) :
    (s.parkSeen k).get (.WTH_VCM_STATUS_ENABLED j) = s.get (.WTH_VCM_STATUS_ENABLED j) :=
  State.parkSeen_get (apart_mod (n := 4) _ (by decide) (by simp) (by decide +kernel) j)

@[simp] theorem State.parkSeen_parked (k : Nat) (j : Nat) :
    (s.parkSeen k).get (.WTH_VCM_STATUS_PARKED j) = s.get (.WTH_VCM_STATUS_PARKED j) :=
  State.parkSeen_get (apart_mod (n := 4) _ (by decide) (by simp) (by decide +kernel) j)

@[simp] theorem State.parkSeen_active (k : Nat) (j : Nat) :
    (s.parkSeen k).get (.WTH_VCM_STATUS_RET_ACTIVE j) = s.get (.WTH_VCM_STATUS_RET_ACTIVE j) :=
  State.parkSeen_get (apart_mod (n := 4) _ (by decide) (by simp) (by decide +kernel) j)

@[simp] theorem State.raise_en (code inst detail : Nat) (j : Nat) :
    (s.raise code inst detail).get (.WTH_VCM_CTRL_EN j) = s.get (.WTH_VCM_CTRL_EN j) :=
  State.raise_get (apart_mod (n := 4) _ (by decide) (by simp) (by decide +kernel) j)

@[simp] theorem State.raise_enabled (code inst detail : Nat) (j : Nat) :
    (s.raise code inst detail).get (.WTH_VCM_STATUS_ENABLED j) = s.get (.WTH_VCM_STATUS_ENABLED j) :=
  State.raise_get (apart_mod (n := 4) _ (by decide) (by simp) (by decide +kernel) j)

@[simp] theorem State.raise_hold (code inst detail : Nat) (j : Nat) :
    (s.raise code inst detail).get (.WTH_MA_CTRL_HOLD j) = s.get (.WTH_MA_CTRL_HOLD j) :=
  State.raise_get (apart_mod (n := 8) _ (by decide) (by simp) (by decide +kernel) j)

@[simp] theorem State.raise_vout (code inst detail : Nat) (j : Nat) :
    (s.raise code inst detail).get (.WTH_MA_STATUS_VOUT j) = s.get (.WTH_MA_STATUS_VOUT j) :=
  State.raise_get (apart_mod (n := 8) _ (by decide) (by simp) (by decide +kernel) j)

@[simp] theorem State.driveMa_hold (n : Nat) (j : Nat) : (s.driveMa n).get (.WTH_MA_CTRL_HOLD j) = s.get (.WTH_MA_CTRL_HOLD j) :=
  State.driveMa_get (apart_mod (n := 8) _ (by decide) (by simp) (by decide +kernel) j)

@[simp] theorem State.inhibitDrop_hold (n cause j : Nat) :
    (s.inhibitDrop n cause).get (.WTH_MA_CTRL_HOLD j) = s.get (.WTH_MA_CTRL_HOLD j) :=
  State.inhibitDrop_get (apart_mod (n := 8) _ (by decide) (by simp) (by decide +kernel) j)

/-- A retract that starts holds both microactuators of its section. -/
theorem State.startRetract_hold {j k : Nat} (h : s.get (.WTH_VCM_STATUS_RET_ACTIVE k) = 0) (hj : j = 2 * k ∨ j = 2 * k + 1) :
    (s.startRetract k).get (.WTH_MA_CTRL_HOLD j) = 1 := by
  rcases hj with rfl | rfl
  all_goals simp (disch := (dsimp only; omega)) [State.startRetract, State.is, h, State.holdMa, State.get_set_self, State.get_set_other]

theorem State.holdMa_keeps_hold {j : Nat} (n : Nat) (h : s.get (.WTH_MA_CTRL_HOLD j) = 1) :
    (s.holdMa n).get (.WTH_MA_CTRL_HOLD j) = 1 := by
  unfold State.holdMa
  rw [State.get_set_ne _ _ (by dsimp only; omega)]
  by_cases hn : n % 8 = j % 8
  · rw [show Fld.WTH_MA_CTRL_HOLD j = .WTH_MA_CTRL_HOLD n by simp only [Fld.WTH_MA_CTRL_HOLD, hn]]
    exact State.get_set_self _ _ _ (by dsimp only; omega)
  · rw [State.get_set_ne _ _ (by dsimp only; omega), h]

theorem State.startRetract_keeps_hold {j : Nat} (k : Nat) (h : s.get (.WTH_MA_CTRL_HOLD j) = 1) :
    (s.startRetract k).get (.WTH_MA_CTRL_HOLD j) = 1 := by
  unfold State.startRetract
  split
  · exact h
  · rw [State.inhibitDrop_hold, State.inhibitDrop_hold, State.driveVcm_get]
    refine State.holdMa_keeps_hold _ (State.holdMa_keeps_hold _ ?_)
    rw [State.get_set_ne _ _ (by dsimp only; omega), State.get_set_ne _ _ (by dsimp only; omega)]
    exact h

/-- What a retract leaves behind in its own section. -/
structure State.Retracting (s : State) (k : Nat) : Prop where
  active : s.get (.WTH_VCM_STATUS_RET_ACTIVE k) = 1
  moving : s.withy.retract.at k = .moving
  low : s.get (.WTH_MA_CTRL_HOLD (2 * k)) = 1
  high : s.get (.WTH_MA_CTRL_HOLD (2 * k + 1)) = 1

theorem State.startRetract_retracting {k : Nat} (h : s.get (.WTH_VCM_STATUS_RET_ACTIVE k) = 0) : (s.startRetract k).Retracting k :=
  { active := State.startRetract_active k
    moving := State.startRetract_of_idle h
    low := State.startRetract_hold h (.inl rfl)
    high := State.startRetract_hold h (.inr rfl) }

theorem State.Retracting.startRetract {k : Nat} (h : s.Retracting k) (j : Nat) : (s.startRetract j).Retracting k := by
  by_cases hj : k = j
  · subst hj
    rwa [State.startRetract_of_active h.active]
  · exact { active := State.startRetract_keeps_active j k h.active
            moving := (State.startRetract_retract_ne hj).trans h.moving
            low := State.startRetract_keeps_hold j h.low
            high := State.startRetract_keeps_hold j h.high }

theorem State.startRetract_active_ne {j k : Nat} (hj : j < 4) (hk : k < 4) (h : j ≠ k) :
    (s.startRetract j).get (.WTH_VCM_STATUS_RET_ACTIVE k) = s.get (.WTH_VCM_STATUS_RET_ACTIVE k) := by
  rw [State.startRetract_active_eq, if_neg (by omega)]

theorem State.startRetract_idle_or {j k : Nat} (hj : j < 4) (hk : k < 4)
    (h : s.get (.WTH_VCM_STATUS_RET_ACTIVE k) = 0 ∨ s.Retracting k) :
    (s.startRetract j).get (.WTH_VCM_STATUS_RET_ACTIVE k) = 0 ∨ (s.startRetract j).Retracting k := by
  rcases h with hidle | hretract
  · by_cases hjk : j = k
    · subst hjk
      exact .inr (State.startRetract_retracting hidle)
    · exact .inl ((State.startRetract_active_ne hj hk hjk).trans hidle)
  · exact .inr (hretract.startRetract j)

/-- What the end of a retract writes before the bridges of a hot die turn off. -/
def State.endRetract (s : State) (k : Nat) : State :=
  let s := { s with withy := { s.withy with retract := s.withy.retract.put k .none } }
  let s := ((s.bridgeOff k).set (.WTH_VCM_STATUS_RET_ACTIVE k) 0).set (.WTH_VCM_STATUS_PARKED k) 1
  s.parkSeen k

@[simp] theorem State.endRetract_retract (k : Nat) : (s.endRetract k).withy.retract.at k = .none := by
  simp [State.endRetract, State.bridgeOff]

theorem State.endRetract_active (k : Nat) : (s.endRetract k).get (.WTH_VCM_STATUS_RET_ACTIVE k) = 0 := by
  simp (disch := (dsimp only; omega)) [State.endRetract, State.get_set_self, State.get_set_other]

theorem State.endRetract_parked (k : Nat) : (s.endRetract k).get (.WTH_VCM_STATUS_PARKED k) = 1 := by
  simp (disch := (dsimp only; omega)) [State.endRetract, State.get_set_self]

theorem State.endRetract_en (k : Nat) : (s.endRetract k).get (.WTH_VCM_CTRL_EN k) = 0 := by
  simp (disch := (dsimp only; omega)) [State.endRetract, State.bridgeOff_en, State.get_set_other]

theorem exec_retractEnd_of_hold {k : Nat} (h : s.withy.retract.at k = .hold) :
    exec (.retractEnd k) s = .next ((s.endRetract k).when ((s.endRetract k).withy.dieOff && (s.endRetract k).withy.retract.isEmpty)
      (fun s => { s.bridgeTo .off with withy := { (s.bridgeTo .off).withy with dieOff := false } })) := by
  change execRetractEnd k s = _
  unfold execRetractEnd
  rw [h, decide_eq_true rfl, State.when_true]
  rfl

/-- Settles O14: a turned-off bridge, a held microactuator and a retract read as R75 to R80 give; a retract of one section leaves the others. -/
theorem actuatorsRetractAndPark : Obligations.ActuatorsRetractAndPark := by
  unfold Obligations.ActuatorsRetractAndPark
  refine ⟨fun s k hk => ?_, fun s n hn => ?_, fun s k hidle => ?_, fun s k hactive => ?_, fun s k hidle => ?_, fun s n => ?_, fun s n => ?_,
    fun s mask => ?_, fun s vhb hlow => ?_, fun s vhb hhigh => ?_, fun s => ?_, fun s k hmoving => ?_, fun s k hk hmoving => ?_,
    fun s k hhold => ?_⟩
  · refine completes_of_frame (execWthVcmOc_frame (parts_in rfl) (fun _ hr => hr)) ?_
    refine ⟨_, rfl, ?_, ?_, ?_, State.raise_latched_true (by decide +kernel)⟩
    · rw [State.raise_en, State.get_set_ne _ _ (by dsimp only; omega), State.bridgeOff_en]
    · rw [State.raise_enabled, State.get_set_ne _ _ (by dsimp only; omega), State.bridgeOff_enabled]
    · simp
  · refine completes_of_frame (execWthMaOc_frame (parts_in rfl) (fun _ hr => hr)) ?_
    refine ⟨_, rfl, ?_, ?_, State.raise_latched_true (by decide +kernel)⟩
    · rw [State.raise_hold, State.get_set_ne _ _ (by dsimp only; omega), State.holdMa_hold]
    · rw [State.raise_vout, State.get_set_ne _ _ (by dsimp only; omega), State.holdMa_vout]
  · refine completes_of_frame (execVcmEnable_frame (parts_in rfl) (fun _ hr => hr)) ?_
    simp (disch := (dsimp only; omega)) [Completes, exec, execVcmEnable, State.enableVcm, State.is, State.get_set_self,
      State.get_set_other, State.driveVcm, hidle]
  · refine completes_of_frame (execVcmEnable_frame (parts_in rfl) (fun _ hr => hr)) ?_
    simp [Completes, exec, execVcmEnable, State.enableVcm, State.is, hactive]
  · refine completes_of_frame (execPark_frame (parts_in rfl) (fun _ hr => hr)) ?_
    simp (disch := (dsimp only; omega)) [Completes, exec, execPark, State.park, State.is, State.bridgeOff_en, State.bridgeOff_enabled,
      State.get_set_self, State.get_set_other, hidle]
  · refine completes_of_frame (execMaHold_frame (parts_in rfl) (fun _ hr => hr)) ?_
    simp [Completes, exec, execMaHold, State.holdMa_hold, State.holdMa_vout]
    simp [State.holdMa]
  · refine completes_of_frame (execMaHold_frame (parts_in rfl) (fun _ hr => hr)) ?_
    simp (disch := (dsimp only; omega)) [Completes, exec, execMaHold, State.get_set_self]
  · refine completes_of_frame (execRetractGo_frame (parts_in rfl) (fun _ hr => hr)) ?_
    refine ⟨_, rfl, fun k hk hbit hidle => ?_, fun k hk hkeep => ?_, ?_⟩
    · have hreach : (s.ack.forN 4 (fun j t => t.when (mask / 2 ^ j % 2 == 1) (fun t => t.startRetract j))).Retracting k := by
        refine State.forN_reaches (Inv := fun t => t.get (.WTH_VCM_STATUS_RET_ACTIVE k) = 0 ∨ t.Retracting k)
          (P := fun t => t.Retracting k) hk (.inl hidle)
          (fun j hj t ht => ?_) (fun t ht => ?_) (fun j _ t ht => ?_)
        · unfold State.when
          split
          · exact State.startRetract_idle_or hj hk ht
          · exact ht
        · rw [hbit, beq_self_eq_true, State.when_true]
          exact ht.elim State.startRetract_retracting (fun h => h.startRetract k)
        · unfold State.when
          split
          · exact ht.startRetract j
          · exact ht
      exact ⟨hreach.active, hreach.moving, hreach.low, hreach.high⟩
    · refine State.forN_inv (Inv := fun t => t.get (.WTH_VCM_STATUS_RET_ACTIVE k) = s.get (.WTH_VCM_STATUS_RET_ACTIVE k) ∧
        t.withy.retract.at k = s.withy.retract.at k) ⟨rfl, rfl⟩ (fun j hj t ht => ?_)
      obtain ⟨hactive, hretract⟩ := ht
      unfold State.when
      split
      case isTrue hbit =>
        by_cases hjk : j = k
        · subst hjk
          have hset : t.get (.WTH_VCM_STATUS_RET_ACTIVE j) = 1 :=
            hactive.trans (hkeep.resolve_left (by rw [eq_of_beq hbit]; decide))
          dsimp only
          rw [State.startRetract_of_active hset]
          exact ⟨hactive, hretract⟩
        · exact ⟨(State.startRetract_active_ne hj hk hjk).trans hactive, (State.startRetract_retract_ne (Ne.symm hjk)).trans hretract⟩
      case isFalse => exact ⟨hactive, hretract⟩
    · exact State.forN_inv (Inv := fun t => t.bus = .done) rfl (fun j _ t ht => by
        unfold State.when
        split
        · rwa [State.startRetract_bus]
        · exact ht)
  · refine completes_of_frame (execRetractLowBus_frame (parts_in rfl) (fun _ hr => hr)) ?_
    have hparked (k : Nat) : (s.set .WEIR_MEAS_VHB_MV vhb).get (.WTH_VCM_STATUS_PARKED k) = s.get (.WTH_VCM_STATUS_PARKED k) :=
      State.get_set_ne _ _ (by dsimp only; omega)
    simp (disch := decide +kernel) [Completes, exec, execRetractLowBus, State.retractAll_get, State.get_set_self, hlow]
    exact fun k hk hload => State.retractAll_active hk ((hparked k).trans hload)
  · refine completes_of_frame (execRetractLowBus_frame (parts_in rfl) (fun _ hr => hr)) ?_
    simp (disch := decide +kernel) [Completes, exec, execRetractLowBus, State.get_set_self, Nat.not_lt.2 hhigh]
  · refine completes_of_frame (execWthHbLoss_frame (parts_in rfl) (fun _ hr => hr)) ?_
    refine ⟨_, rfl, fun k hk hload => ?_, State.spinFault_latched (by decide +kernel)⟩
    rw [State.spinFault_active, State.retractAll_active hk hload]
  · refine completes_of_frame (execRetractStall_frame (parts_in rfl)) ?_
    simp [Completes, exec, execRetractStall, hmoving]
  · refine completes_of_frame (execWthRetTimeout_frame (parts_in rfl) (fun _ hr => hr)) ?_
    simp (disch := decide +kernel) [Completes, exec, execWthRetTimeout, State.raise_latched_true, hmoving]
  · refine completes_of_outFrame (execRetractEnd_frame (parts_in rfl) (fun _ hr => hr)) (exec_retractEnd_of_hold hhold) (fun _ => ?_)
    unfold State.when
    split
    all_goals simp [State.endRetract_active, State.endRetract_parked, State.endRetract_en, State.bridgeTo]

end Sys2Proof.Machine
end

section
set_option Elab.async false
/-! THE COMMIT AND THE END OF THE SEQUENCE (17). A commit marks Weir's registers, then reaches the spindle, the operations,
  the contexts and the
firmware, which leave those marks alone (R400, R401); the late point, the budget and DONE end the flush and the sequence (R402, R403). -/

namespace Sys2Proof.Machine

variable {s : State} {mv : Nat}

/-! ### The commit -/

/-- What a commit writes of Weir. -/
def State.commitMarks (s : State) (cause : Nat) : State :=
  let s := s.when (s.get .WEIR_STATUS_PF == 0) State.openWindow
  let s := s.when s.warmBusy (fun s => s.set .WEIR_AON_STATUS_WARM_PF 1)
  let s := ((s.set .WEIR_STATUS_PF 2).set .WEIR_STATUS_PF_MS 0).set .WEIR_STATUS_CAUSE cause
  let s := ((s.set .WEIR_AON_STATUS_COMMIT_SEEN 1).set .WEIR_AON_STATUS_LAST_CAUSE cause).set .WEIR_AON_STATUS_LAST_MIN
    s.weir.low
  let s := s.incSat .WEIR_AON_CNT_COMMITS
  { s with weir := { s.weir with late := false, mireDelay := 0, iso := .isolated } }.set .WEIR_STATUS_ISO_OFF 1

/-- What a commit does beyond Weir. -/
def State.commitSpread (s : State) : State :=
  let s := s.spinCommit.pfTerminate
  let s := (s.forN 8 (fun c s => s.when (s.fenRuns c) (fun s => s.irqFen c .nmi))).irqMire .commit
  let s := (s.weirFault 1).commitContexts
  let s := (s.forN 10 (fun a s => s.unfreeze a)).updAq (fun a => { a with bandCheck := true })
  let s := s.updMq (fun m => { m with flushEnded := false, full := [], bandAt := [] })
  s.when s.aqsiaActs State.commitFirmware

theorem State.commitPower_eq (cause : Nat) : s.commitPower cause = (s.commitMarks cause).commitSpread := rfl

theorem State.nmiFens_get (g : Fld) : (s.forN 8 (fun c s => s.when (s.fenRuns c) (fun s => s.irqFen c .nmi))).get g = s.get g := by
  refine State.forN_keeps (fun t => t.get g) (fun c t => ?_) 8
  cases t.fenRuns c
  · rfl
  · exact State.irqFen_get _ _ _ _

theorem State.nmiFens_weir : (s.forN 8 (fun c s => s.when (s.fenRuns c) (fun s => s.irqFen c .nmi))).weir = s.weir := by
  refine State.forN_keeps (fun t => t.weir) (fun c t => ?_) 8
  cases t.fenRuns c
  · rfl
  · exact State.irqFen_weir _ _ _

theorem State.unfreezeAll_get {g : Fld} (h : ([.fld .PEAT_STATUS_STAMP_WAIT, .fld .PEAT_STATUS_HELD, .fld .PEAT_STATUS_USED, .fld
    .PEAT_FRZ_AREA] : List Regs).all (fun r => r.apartB g) = true) (k : Nat) : (s.forN k (fun a s => s.unfreeze a)).get g = s.get g :=
  State.forN_keeps (fun t => t.get g) (fun _ _ => State.unfreeze_get h) k

theorem State.unfreezeAll_weir (k : Nat) : (s.forN k (fun a s => s.unfreeze a)).weir = s.weir :=
  State.forN_keeps (fun t => t.weir) (fun _ _ => State.unfreeze_weir) k

@[simp] theorem State.commitSpread_weir : s.commitSpread.weir = s.weir := by
  refine (State.when_keeps (fun t => t.weir) State.commitFirmware_weir).trans ?_
  simp [State.nmiFens_weir, State.unfreezeAll_weir]

/-- The registers that a commit writes beyond Weir's. -/
def spreadRegs : List Regs :=
  alarmRegs ++ haltRegs ++ ([.fld .WEIR_FAULT_SRC, .fld .TIDE_STATUS_STATE, .fld .TIDE_CELL_PERIOD_PERIOD, .fld .WTH_SPN_STATUS_STATE,
  .fld .WTH_SPN_STATUS_AT_SPEED, .fld .WTH_SPN_STATUS_FW_ACTIVE, .fld .WTH_SPN_STATUS_FW_SAT, .fld .WTH_SPN_STATUS_STOP_BLOCKED, .fld
  .WTH_SPN_STATUS_HOLD_COLLAPSE, .fld .WTH_SPN_MEAS_TRACK, .fld .WTH_SPN_FOC_ID, .fld .WTH_SPN_FOC_MI] : List Regs) ++ ([.arr
  (.REED_ST_CTRL_ABORT 0) 0x100 8, .fld .STH_STATUS_QUIESCED, .fld .STH_STATUS_LIVE, .fld .STH_LOCK_STATUS_WAITING, .fld
  .STH_LOCK_STATUS_HELD, .fld .STH_FATE_STATUS_UNRESOLVED, .fld .STH_FATE_STATUS_RECORDS, .fld .STH_FATE_DROP_COUNT, .fld
  .SLU_STATUS_LED_FREE, .arr (.SLU_SEC_FREE_FREE 0) 0x4 4, .arr (.SLU_SEC_RUN_RUN 0) 0x4 4, .arr (.SLU_CRED_USED_USED 0) 0x4 32] : List
  Regs) ++ ([.fld .PEAT_STATUS_STAMP_WAIT, .fld .PEAT_STATUS_HELD, .fld .PEAT_STATUS_USED, .fld .PEAT_FRZ_AREA, .arr (.MBX_DONE_DONE 0)
  0x4 2, .grid (.MBX_RSP_DATA 0 0) 0x400 64 0x4 64, .arr (.MBX_STAT_CANCEL_REQ 0) 0x400 64, .arr (.MBX_STAT_STARTED 0) 0x400 64, .arr
  (.MBX_STAT_STATE 0) 0x400 64, .arr (.MBX_LATCH_RSP_STATUS 0) 0x400 64, .arr (.MWQ_STATUS_BLOCKED 0) 0x20 16, .arr (.MWQ_STATUS_OUTST
  0) 0x20 16] : List Regs) ++ ([.arr (.MWC_PI_PASS 0) 0x20 4, .arr (.MWC_PI_PI 0) 0x20 4, .arr (.MWC_STATUS_SCAN_STOP 0) 0x20 4, .arr
  (.MWC_STATUS_SPILL_CNT 0) 0x20 4, .fld .MWQ_SYS_STATUS_FLUSH, .fld .MWQ_SYS_STATUS_CAL, .fld .DYKE_SLOT_INACTIVE, .fld
  .MBX_START_RESULT, .fld .MBX_START_CAUSE, .fld .MBX_START_FAILED, .fld .MBX_START_LOADED] : List Regs)

theorem State.commitSpread_get {g : Fld} (h : spreadRegs.all (fun r => r.apartB g) = true) : s.commitSpread.get g = s.get g := by
  have hset : (Regs.fld .WEIR_FAULT_SRC).apart g := Regs.apart_of_apartB (List.all_eq_true.1 h _ (by decide +kernel))
  refine (State.when_keeps (fun t => t.get g) (State.commitFirmware_get (apart_sub h (by decide +kernel)))).trans ?_
  rw [State.updMq_get, State.updAq_get, State.unfreezeAll_get (apart_sub h (by decide +kernel)),
    State.commitContexts_get (apart_sub h (by decide +kernel)), State.weirFault_get (apart_sub h (by decide +kernel)),
    State.get_set_other _ _ hset, State.irqMire_get, State.nmiFens_get, State.pfTerminate_get (apart_sub h (by decide +kernel)),
    State.spinCommit_get (apart_sub h (by decide +kernel))]

theorem State.commitPower_get {g : Fld} (cause : Nat) (h : spreadRegs.all (fun r => r.apartB g) = true) :
    (s.commitPower cause).get g = (s.commitMarks cause).get g := State.commitSpread_get h

theorem State.commitPower_weir (cause : Nat) : (s.commitPower cause).weir = (s.commitMarks cause).weir := State.commitSpread_weir

theorem State.commitMarks_pf (cause : Nat) : (s.commitMarks cause).get .WEIR_STATUS_PF = 2 := by
  simp (disch := decide) [State.commitMarks, State.incSat, State.get_set_self, State.get_set_other]

theorem State.commitMarks_isoOff (cause : Nat) : (s.commitMarks cause).get .WEIR_STATUS_ISO_OFF = 1 := by
  simp (disch := decide) [State.commitMarks, State.get_set_self]

theorem State.commitMarks_pfMs (cause : Nat) : (s.commitMarks cause).get .WEIR_STATUS_PF_MS = 0 := by
  simp (disch := decide) [State.commitMarks, State.incSat, State.get_set_self, State.get_set_other]

theorem State.commitMarks_cause (cause : Nat) : (s.commitMarks cause).get .WEIR_STATUS_CAUSE = cause % 2 ^ Fld.WEIR_STATUS_CAUSE.width := by
  simp (disch := decide) [State.commitMarks, State.incSat, State.get_set_self, State.get_set_other]

theorem State.commitMarks_seen (cause : Nat) : (s.commitMarks cause).get .WEIR_AON_STATUS_COMMIT_SEEN = 1 := by
  simp (disch := decide) [State.commitMarks, State.incSat, State.get_set_self, State.get_set_other]

theorem State.commitMarks_lastCause (cause : Nat) :
    (s.commitMarks cause).get .WEIR_AON_STATUS_LAST_CAUSE = cause % 2 ^ Fld.WEIR_AON_STATUS_LAST_CAUSE.width := by
  simp (disch := decide) [State.commitMarks, State.incSat, State.get_set_self, State.get_set_other]

/-- A window that the commit finds closed opens first; it leaves the count of commits alone. -/
theorem State.commitMarks_commits (cause : Nat) : (s.commitMarks cause).get .WEIR_AON_CNT_COMMITS =
    min (s.get .WEIR_AON_CNT_COMMITS + 1) (2 ^ Fld.WEIR_AON_CNT_COMMITS.width - 1) := by
  have hopen : (s.when (s.get .WEIR_STATUS_PF == 0) State.openWindow).get .WEIR_AON_CNT_COMMITS = s.get .WEIR_AON_CNT_COMMITS :=
    State.when_keeps (fun t => t.get .WEIR_AON_CNT_COMMITS)
      ((State.openWindow_frame (fun _ hp => hp) (fun _ hr => hr) (Frame.refl _ _ s)).get (by decide))
  have hwarm (t : State) : (t.when t.warmBusy (fun s => s.set .WEIR_AON_STATUS_WARM_PF 1)).get .WEIR_AON_CNT_COMMITS =
      t.get .WEIR_AON_CNT_COMMITS :=
    State.when_keeps (fun t => t.get .WEIR_AON_CNT_COMMITS) (State.get_set_other _ _ (by decide))
  simp (disch := decide) [State.commitMarks, State.incSat, State.get_set_self, State.get_set_other, hwarm, hopen]

theorem State.commitMarks_open {g : Fld} (cause : Nat) (hpf : s.get .WEIR_STATUS_PF = 0) (h : ([.fld .WEIR_STATUS_PF, .fld
    .WEIR_STATUS_PF_MS, .fld .WEIR_STATUS_CAUSE, .fld .WEIR_AON_STATUS_COMMIT_SEEN, .fld .WEIR_AON_STATUS_LAST_CAUSE, .fld
    .WEIR_AON_STATUS_LAST_MIN, .fld .WEIR_AON_CNT_COMMITS, .fld .WEIR_STATUS_ISO_OFF, .fld .SLU_SCRB_STATUS_BUSY, .fld
    .SLU_SCRB_STATUS_STOPPED, .fld .WEIR_AON_STATUS_WARM_PF] : List Regs).all (fun r => r.apartB g) = true) :
    (s.commitMarks cause).get g = s.startWindow.get g := by
  have hapart (f : Fld) (hf : _) : (Regs.fld f).apart g := Regs.apart_of_apartB (List.all_eq_true.1 h (.fld f) hf)
  have hwarm (t : State) : (t.when t.warmBusy (fun s => s.set .WEIR_AON_STATUS_WARM_PF 1)).get g = t.get g :=
    State.when_keeps (fun t => t.get g) (State.get_set_other _ _ (hapart _ (by decide)))
  have hopen : s.openWindow.get g = s.startWindow.get g :=
    State.openWindow_frame_startWindow.get (apart_sub h (by decide))
  unfold State.commitMarks State.incSat
  dsimp only
  rw [State.get_set_other _ _ (hapart _ (by decide)), State.get_mk, State.get_set_other _ _ (hapart _ (by decide)),
    State.get_set_other _ _ (hapart _ (by decide)), State.get_set_other _ _ (hapart _ (by decide)),
    State.get_set_other _ _ (hapart _ (by decide)), State.get_set_other _ _ (hapart _ (by decide)),
    State.get_set_other _ _ (hapart _ (by decide)), State.get_set_other _ _ (hapart _ (by decide)), hwarm, hpf]
  exact hopen

theorem State.commitMarks_iso (cause : Nat) : (s.commitMarks cause).weir.iso = .isolated := rfl

theorem State.commitMarks_late (cause : Nat) : (s.commitMarks cause).weir.late = false := rfl

theorem exec_powerFailCommit_of_armed (hpower : s.weir.powered = true) (harm : s.get .WEIR_STATUS_COMMIT_ARMED = 1)
    (hpf : s.get .WEIR_STATUS_PF < 2) : exec (.powerFailCommit mv) s = .next ((s.measureV12 mv).commitPower 1) := by
  have harm' : (s.measureV12 mv).get .WEIR_STATUS_COMMIT_ARMED = 1 := (State.measureV12_get (by decide)).trans harm
  have hpf' : (s.measureV12 mv).get .WEIR_STATUS_PF < 2 := (State.measureV12_get (by decide)).trans_lt hpf
  have hpower' : (s.measureV12 mv).weir.powered = true := hpower
  change execPowerFailCommit mv s = _
  simp [execPowerFailCommit, State.is, hpower', harm', hpf']

/-! ### The overvoltage commit (R405) -/

/-- The isolation that an overvoltage brings at once, and its fault. -/
def State.overvoltage (s : State) (mv : Nat) : State :=
  let s := s.measureV12 mv
  ({ s with weir := { s.weir with iso := .isolated } }.set .WEIR_STATUS_ISO_OFF 1).weirFault 2

theorem State.overvoltage_pf : (s.overvoltage mv).get .WEIR_STATUS_PF = s.get .WEIR_STATUS_PF := by
  simp (disch := decide +kernel) [State.overvoltage, State.weirFault_get, State.measureV12_get, State.get_set_other]

theorem State.overvoltage_isoOff : (s.overvoltage mv).get .WEIR_STATUS_ISO_OFF = 1 := by
  simp (disch := decide +kernel) [State.overvoltage, State.weirFault_get, State.get_set_self, State.get_set_other]

theorem State.overvoltage_iso : (s.overvoltage mv).weir.iso = .isolated := by
  simp [State.overvoltage]

theorem exec_weirOvIn_of_powered (hpower : s.weir.powered = true) : exec (.weirOvIn mv) s =
    .next ((s.overvoltage mv).when (decide (s.get .WEIR_STATUS_PF < 2)) (fun s => s.commitPower 2)) := by
  have hpower' : (s.measureV12 mv).weir.powered = true := hpower
  have hpf : ({ s.measureV12 mv with weir := { (s.measureV12 mv).weir with iso := .isolated } }.set .WEIR_STATUS_ISO_OFF 1).get
      .WEIR_STATUS_PF = s.get .WEIR_STATUS_PF := by
    simp (disch := decide) [State.measureV12_get, State.get_set_other]
  change execWeirOvIn mv s = _
  unfold execWeirOvIn
  dsimp only
  rw [hpower', State.when_true, hpf]
  rfl

/-- Settles O4: the marks of a commit outlast what follows it; an overvoltage isolates at once, whatever the phase. -/
theorem commitIsolatesTheDrive : Obligations.CommitIsolatesTheDrive := by
  unfold Obligations.CommitIsolatesTheDrive
  refine ⟨fun s mv hpower harm hpf => ?_, fun s mv hpower hpf => ?_, fun s mv hpower hpf => ?_, fun s hpf => ?_⟩
  · refine completes_of_outFrame (execPowerFailCommit_frame (parts_in rfl) (fun _ hr => hr)) (exec_powerFailCommit_of_armed hpower harm hpf)
      (fun _ => ⟨?_, ?_, ?_, ?_, ?_, ?_, ?_, ?_, ?_, fun hclosed => ?_⟩)
    · rw [State.commitPower_get _ (by decide +kernel), State.commitMarks_pf]
    · rw [State.commitPower_get _ (by decide +kernel), State.commitMarks_cause]
      rfl
    · rw [State.commitPower_get _ (by decide +kernel), State.commitMarks_seen]
    · rw [State.commitPower_get _ (by decide +kernel), State.commitMarks_lastCause]
      rfl
    · rw [State.commitPower_get _ (by decide +kernel), State.commitMarks_isoOff]
    · rw [State.commitPower_weir, State.commitMarks_iso]
    · rw [State.commitPower_weir, State.commitMarks_late]
    · rw [State.commitPower_get _ (by decide +kernel), State.commitMarks_pfMs]
    · rw [State.commitPower_get _ (by decide +kernel), State.commitMarks_commits, State.measureV12_get (by decide)]
    · have hclosed' : (s.measureV12 mv).get .WEIR_STATUS_PF = 0 := (State.measureV12_get (by decide)).trans hclosed
      rw [State.commitPower_get _ (by decide +kernel), State.commitPower_get _ (by decide +kernel),
        State.commitMarks_open _ hclosed' (by decide), State.commitMarks_open _ hclosed' (by decide)]
      exact ⟨State.startWindow_pfHold, State.startWindow_warnArmed⟩
  · refine completes_of_outFrame (execWeirOvIn_frame (parts_in rfl) (fun _ hr => hr)) (exec_weirOvIn_of_powered hpower) (fun _ => ?_)
    rw [decide_eq_true hpf, State.when_true]
    refine ⟨?_, ?_, ?_, ?_, ?_⟩
    · rw [State.commitPower_get _ (by decide +kernel), State.commitMarks_pf]
    · rw [State.commitPower_get _ (by decide +kernel), State.commitMarks_cause]
      rfl
    · rw [State.commitPower_get _ (by decide +kernel), State.commitMarks_seen]
    · rw [State.commitPower_get _ (by decide +kernel), State.commitMarks_isoOff]
    · rw [State.commitPower_weir, State.commitMarks_iso]
  · refine completes_of_outFrame (execWeirOvIn_frame (parts_in rfl) (fun _ hr => hr)) (exec_weirOvIn_of_powered hpower) (fun _ => ?_)
    rw [decide_eq_false (Nat.not_lt.2 hpf), State.when_false]
    exact ⟨State.overvoltage_pf, State.overvoltage_isoOff, State.overvoltage_iso, State.weirFault_latched rfl (by decide +kernel)⟩
  · refine completes_of_frame (execFenClockStop_frame (parts_in rfl)) ?_
    simp [Completes, exec, execFenClockStop, State.committed, State.fenRuns, hpf]

end Sys2Proof.Machine
end

section
set_option Elab.async false
/-! THE END OF THE SEQUENCE (17). The late point ends a flush that still runs (R402); the budget and DONE leave no entry HELD or WRITING (R403);
what follows is a warm reset or the loss of the rails (R405). -/

namespace Sys2Proof.Machine

variable {s : State}

/-! ### The ledger after the sequence -/

theorem Tab.at_map {α : Type} [Inhabited α] (f : α → α) (h : f default = default) (t : Tab α) (k : Nat) :
    Tab.at (t.map (fun e => (e.1, f e.2))) k = f (t.at k) := by
  unfold Tab.at tabGet
  induction t with
  | nil => exact h.symm
  | cons e t ih =>
    obtain ⟨j, v⟩ := e
    by_cases hj : j = k
    · simp [tabFind, hj]
    · simpa [tabFind, hj] using ih

/-- An entry that is HELD or WRITING when the sequence ends is lost (R403). -/
def LedgerEntry.lose (e : LedgerEntry) : LedgerEntry := if e.state = 2 ∨ e.state = 3 then { e with state := 6, marks := [] } else e

theorem LedgerEntry.lose_state (e : LedgerEntry) : e.lose.state ≠ 2 ∧ e.lose.state ≠ 3 := by
  unfold LedgerEntry.lose
  split
  next => exact ⟨by simp, by simp⟩
  next h => exact not_or.1 h

@[simp] theorem State.endSequence_slu : s.endSequence.slu =
    { s.slu with flushing := false, ledger := s.slu.ledger.map (fun e => (e.1, e.2.lose)) } := by
  have hlose : (fun e : Nat × LedgerEntry => if e.2.state = 2 ∨ e.2.state = 3 then (e.1, { e.2 with state := 6, marks := [] }) else e) =
      (fun e => (e.1, e.2.lose)) := by
    funext e
    unfold LedgerEntry.lose
    split <;> rfl
  refine (State.when_keeps (fun t => t.slu) State.spinTo_slu).trans ?_
  rw [State.writeDeferred_slu, State.updMq_slu, State.sluStatus_slu]
  simp only [hlose]
  rfl

theorem State.endSequence_ledger (i : Nat) : (s.endSequence.slu.ledger.at i).state ≠ 2 ∧ (s.endSequence.slu.ledger.at i).state ≠ 3 := by
  rw [State.endSequence_slu]
  dsimp only
  rw [Tab.at_map _ rfl]
  exact LedgerEntry.lose_state _

theorem State.endSequence_flush : s.endSequence.mq.flush = [] := by
  have hmq : s.endSequence.mq.flush = _ := congrArg MediaQueues.flush (State.when_keeps (fun t => t.mq) State.spinTo_mq)
  rw [hmq, State.writeDeferred_mq]
  rfl

/-- What the end of the sequence writes of Weir. -/
def State.endMarks (s : State) : State :=
  let s := (s.set .WEIR_STATUS_PF 3).set .WEIR_AON_STATUS_WARM_PF 0
  s.set .WEIR_AON_STATUS_LAST_MIN (min (s.get .WEIR_AON_STATUS_LAST_MIN) s.weir.low)

/-- The lost entries and the records that waited write none of those. -/
theorem State.endSequence_marks : Frame [.mireIrq, .seqs, .chans, .stg, .tide, .withy, .slu, .sth, .mq]
    (haltRegs ++ [.fld .TIDE_STATUS_STATE, .fld .TIDE_CELL_PERIOD_PERIOD, .fld .WTH_SPN_STATUS_STATE, .fld .WTH_SPN_STATUS_AT_SPEED,
      .fld .WTH_SPN_STATUS_FW_ACTIVE, .fld .WTH_SPN_STATUS_FW_SAT, .fld .WTH_SPN_STATUS_STOP_BLOCKED, .fld .WTH_SPN_MEAS_TRACK,
      .fld .WTH_SPN_FOC_ID, .fld .WTH_SPN_FOC_MI, .fld .STH_FATE_STATUS_UNRESOLVED, .fld .STH_FATE_STATUS_RECORDS,
      .fld .STH_FATE_DROP_COUNT, .fld .SLU_STATUS_LED_FREE, .arr (.SLU_SEC_FREE_FREE 0) 0x4 4, .arr (.SLU_SEC_RUN_RUN 0) 0x4 4,
      .arr (.SLU_CRED_USED_USED 0) 0x4 32])
    s.endMarks s.endSequence :=
  State.when_frame (State.writeDeferred_frame (parts_in rfl) (regs_in (by decide +kernel)) (State.updMq_frame (parts_in rfl)
    (State.sluStatus_frame (regs_in (by decide +kernel)) (State.updSlu_frame (parts_in rfl) (Frame.refl _ _ _)))))
    (fun t ht => State.spinTo_frame (parts_in rfl) (regs_in (by decide +kernel)) ht)

theorem State.endSequence_pf : s.endSequence.get .WEIR_STATUS_PF = 3 := by
  rw [State.endSequence_marks.get (by decide +kernel)]
  simp (disch := decide) [State.endMarks, State.get_set_self, State.get_set_other]

theorem State.endSequence_warmPf : s.endSequence.get .WEIR_AON_STATUS_WARM_PF = 0 := by
  rw [State.endSequence_marks.get (by decide +kernel)]
  simp (disch := decide) [State.endMarks, State.get_set_self, State.get_set_other]

theorem State.endSequence_active (k : Nat) :
    s.endSequence.get (.WTH_VCM_STATUS_RET_ACTIVE k) = s.get (.WTH_VCM_STATUS_RET_ACTIVE k) :=
  State.endSequence_get (apart_mod (n := 4) _ (by decide) (by simp) (by decide +kernel) k)

/-! ### The late point (R402) -/

theorem State.mireActs_congr {t : State} (hruns : t.mireRuns = s.mireRuns)
    (hclock : t.get (.TIDE_CG_EN_EN 0) = s.get (.TIDE_CG_EN_EN 0)) : t.mireActs = s.mireActs := by
  unfold State.mireActs State.mireClock State.domainOn
  rw [hruns, hclock]

/-- What the late point writes, whether or not a flush runs. -/
def State.lateMarks (s : State) : State :=
  let s := s.set .WEIR_STATUS_PF_MS (max (s.get .WEIR_STATUS_PF_MS) s.latePoint)
  let s := { s with weir := { s.weir with late := true } }.irqMire .late
  s.weirFault 6

/-- The flush that still runs at the late point ends with its operations. -/
def State.lateEnd (s : State) : State := (s.forN 8 (fun n s => s.when (s.running n) (fun s => s.terminate n 1 0))).endFlushing

theorem exec_weirPfLate_of_committed (hpf : s.get .WEIR_STATUS_PF = 2) (hlate : s.weir.late = false) :
    exec .weirPfLate s = .next (s.lateMarks.when (s.lateMarks.mireActs && !s.lateMarks.mq.flushEnded) State.lateEnd) := by
  change execWeirPfLate s = _
  unfold execWeirPfLate
  rw [show (s.committed && !s.weir.late) = true by simp [State.committed, hpf, hlate], State.when_true]
  rfl

theorem State.lateMarks_pf : s.lateMarks.get .WEIR_STATUS_PF = s.get .WEIR_STATUS_PF := by
  simp (disch := decide +kernel) [State.lateMarks, State.weirFault_get, State.get_set_other]

theorem State.lateMarks_mireActs : s.lateMarks.mireActs = s.mireActs := by
  refine State.mireActs_congr ?_ ?_
  · simp [State.lateMarks, State.weirFault]
  · simp (disch := decide +kernel) [State.lateMarks, State.weirFault_get, State.get_set_other]

theorem State.lateMarks_ms : s.latePoint ≤ s.lateMarks.get .WEIR_STATUS_PF_MS ∨ 2 ^ Fld.WEIR_STATUS_PF_MS.width ≤ s.latePoint := by
  simp (disch := decide +kernel) only [State.lateMarks, State.weirFault_get, State.get_set_self, State.get_set_other,
    State.irqMire_get, State.get_mk]
  have hms := s.get_lt .WEIR_STATUS_PF_MS
  rcases Nat.lt_or_ge s.latePoint (2 ^ Fld.WEIR_STATUS_PF_MS.width) with hlt | hge
  · exact .inl (by rw [Nat.mod_eq_of_lt (Nat.max_lt.2 ⟨hms, hlt⟩)]; exact Nat.le_max_right _ _)
  · exact .inr hge

theorem State.lateMarks_irq : MireIrq.late ∈ s.lateMarks.mireIrq := State.raise_grows _ _ _ (State.mem_irqMire _ _)

theorem State.lateEnd_irq {x : MireIrq} (h : x ∈ s.mireIrq) : x ∈ s.lateEnd.mireIrq := by
  unfold State.lateEnd
  rw [State.endFlushing_mireIrq]
  exact State.forN_grows (fun n t ht => State.when_grows (State.terminate_grows n 1 0 ht) ht) 8 h

theorem State.lateEnd_kept {α : Type} (read : State → α) (hterm : ∀ n t, read (t.terminate n 1 0) = read t)
    (hend : ∀ t : State, read t.endFlushing = read t) : read s.lateEnd = read s :=
  (hend _).trans (State.forN_keeps read (fun n t => State.when_keeps read (hterm n t)) 8)

theorem State.lateEnd_pf : s.lateEnd.get .WEIR_STATUS_PF = s.get .WEIR_STATUS_PF :=
  State.lateEnd_kept (fun t => t.get .WEIR_STATUS_PF) (fun _ _ => State.terminate_get (by decide +kernel))
    (fun _ => State.endFlushing_get (by decide +kernel))

theorem State.lateEnd_ms : s.lateEnd.get .WEIR_STATUS_PF_MS = s.get .WEIR_STATUS_PF_MS :=
  State.lateEnd_kept (fun t => t.get .WEIR_STATUS_PF_MS) (fun _ _ => State.terminate_get (by decide +kernel))
    (fun _ => State.endFlushing_get (by decide +kernel))

theorem State.lateEnd_weir : s.lateEnd.weir = s.weir :=
  State.lateEnd_kept (fun t => t.weir) (fun _ _ => State.terminate_weir) (fun _ => State.endFlushing_weir)

theorem State.lateEnd_lev : s.lateEnd.lev = s.lev :=
  State.lateEnd_kept (fun t => t.lev) (fun _ _ => State.terminate_lev) (fun _ => State.endFlushing_lev)

/-! ### The budget, DONE and the end (R403, R405) -/

theorem exec_pfBudget_of_committed (hpf : s.get .WEIR_STATUS_PF = 2) : exec .pfBudget s =
    .next (s.set .WEIR_STATUS_PF_MS (max (s.get .WEIR_STATUS_PF_MS) s.pfBudget)).retractAll.endSequence := by
  change execPfBudget s = _
  simp [execPfBudget, State.committed, hpf]

/-- The record of the sequence, and the fates' mirror with it. -/
def State.sequenceRecord (s : State) : State :=
  (s.peatRecord 2 0x0202 (leBytes 1 (s.get .WEIR_STATUS_CAUSE) ++ [0] ++ leBytes 2 (s.get .WEIR_MIN_V12_MV) ++
    leBytes 4 (s.entriesIn [5]) ++ leBytes 4 (s.entriesIn [2, 3, 6]))).mirrorFates

theorem exec_pfDone_of_parked (hpf : s.get .WEIR_STATUS_PF = 2) (hacts : s.aqsiaActs = true) (hflush : s.mq.flushEnded = true)
    (hpark : s.allParked = true) : exec .pfDone s = .next s.sequenceRecord.endSequence := by
  change execPfDone s = _
  unfold execPfDone
  rw [show (s.committed && s.aqsiaActs && s.mq.flushEnded && s.allParked) = true by simp [State.committed, hpf, hacts, hflush, hpark],
    State.when_true]
  rfl

/-- Settles O5: the marks of the late point and of the end of the sequence outlast the flush that ends with them. -/
theorem sequenceEnds : Obligations.SequenceEnds := by
  unfold Obligations.SequenceEnds
  refine ⟨fun s hpf hlate => ?_, fun s hpf => ?_, fun s hpf hacts hflush hpark => ?_, fun s hpf hreq => ?_, fun s hpf => ?_⟩
  · refine completes_of_outFrame (execWeirPfLate_frame (parts_in rfl) (fun _ hr => hr)) (exec_weirPfLate_of_committed hpf hlate)
      (fun _ => ⟨?_, ?_, ?_, ?_, ?_, fun hmire hopen => ?_⟩)
    · rw [State.when_keeps (fun t => t.weir) State.lateEnd_weir, State.lateMarks, State.weirFault_weir, State.irqMire_weir]
    · refine (State.latched_of_lev (State.when_keeps (fun t => t.lev) State.lateEnd_lev) _ _).trans ?_
      exact State.weirFault_latched rfl (by decide +kernel)
    · rw [State.when_keeps (fun t => t.get .WEIR_STATUS_PF) State.lateEnd_pf, State.lateMarks_pf, hpf]
    · exact State.when_grows (State.lateEnd_irq State.lateMarks_irq) State.lateMarks_irq
    · rw [State.when_keeps (fun t => t.get .WEIR_STATUS_PF_MS) State.lateEnd_ms]
      exact State.lateMarks_ms
    · have hopen' : s.lateMarks.mq.flushEnded = false := by simpa [State.lateMarks, State.weirFault] using hopen
      rw [State.lateMarks_mireActs, hmire, hopen', Bool.not_false, Bool.and_self, State.when_true]
      exact ⟨congrArg MediaQueues.flushEnded State.endFlushing_mq, congrArg Sluice.flushing State.endFlushing_slu,
        congrArg MediaQueues.flush State.endFlushing_mq⟩
  · refine completes_of_outFrame (execPfBudget_frame (parts_in rfl) (fun _ hr => hr)) (exec_pfBudget_of_committed hpf)
      (fun _ => ⟨State.endSequence_pf, State.endSequence_warmPf, congrArg Sluice.flushing State.endSequence_slu,
        State.endSequence_flush, State.endSequence_ledger, fun k hk hload => ?_⟩)
    rw [State.endSequence_active, State.retractAll_active hk]
    rw [State.get_set_ne _ _ (by dsimp only; omega), hload]
  · exact completes_of_outFrame (execPfDone_frame (parts_in rfl) (fun _ hr => hr)) (exec_pfDone_of_parked hpf hacts hflush hpark)
      (fun _ => ⟨State.endSequence_pf, State.endSequence_warmPf, congrArg Sluice.flushing State.endSequence_slu,
        State.endSequence_flush, State.endSequence_ledger⟩)
  · refine completes_of_frame (execPfEnd_frame (parts_in rfl) (fun _ hr => hr)) ?_
    simp (disch := decide) [Completes, exec, execPfEnd, State.requestReset, State.get_set_self, State.get_set_other, hpf, hreq]
  · refine completes_of_frame (execPfEnd_frame (parts_in rfl) (fun _ hr => hr)) ?_
    simp [Completes, exec, execPfEnd, State.railsOff, hpf]

end Sys2Proof.Machine
end

section
set_option Elab.async false
/-! FAULTS ARE COLLECTED (18). A clear empties every latch of its lines whose class is not F (R418); an injection asserts its line and counts down
(R425); the heartbeat and the watchdog write ALIVE_RUN with the status they leave (R419, R420). -/

namespace Sys2Proof.Machine

variable {s : State}

/-! ### Clearing lines (R418) -/

/-- A latch of class F stays; another is cleared. -/
def State.heldLatch (s : State) (line : Nat) : Option Latch := (s.lev.latches.at line).filter (fun l => l.cls == 2)

/-- One line is cleared. -/
def State.clearLine (s : State) (line : Nat) : State :=
  match s.lev.latches.at line with
  | some l => s.when (l.cls != 2) (fun s => s.unlatch line)
  | none => s

theorem State.clearLine_latch (line j : Nat) :
    (s.clearLine line).lev.latches.at j = if j = line then s.heldLatch line else s.lev.latches.at j := by
  unfold State.clearLine State.heldLatch
  split
  case h_1 l hl =>
    by_cases hcls : l.cls = 2
    · by_cases hj : j = line
      · simp [hcls, hj, hl, Option.filter_some]
      · simp [hcls, hj]
    · have hgo : (l.cls != 2) = true := by simpa using hcls
      rw [hgo, State.when_true]
      by_cases hj : j = line
      · simp [hcls, hj, State.unlatch, hl, Option.filter_some]
      · simp [hj, State.unlatch, Tab.at_put_ne _ _ hj]
  case h_2 hnone =>
    by_cases hj : j = line
    · simp [hj, hnone]
    · simp [hj]

theorem State.clearLine_of_fatal {line : Nat} {l : Latch} (h : s.lev.latches.at line = some l) (hcls : l.cls = 2) :
    s.clearLine line = s := by
  simp [State.clearLine, h, hcls]

theorem State.clearLines_latch (first k j : Nat) : (s.clearLines first k).lev.latches.at j =
    if first ≤ j ∧ j < first + k then s.heldLatch j else s.lev.latches.at j := by
  have hloop : (s.forN k (fun i s => s.clearLine (first + i))).lev.latches.at j =
      if first ≤ j ∧ j < first + k then s.heldLatch j else s.lev.latches.at j := by
    induction k with
    | zero => rw [if_neg (by omega)]; rfl
    | succ k ih =>
      rw [State.forN_succ, State.clearLine_latch, State.heldLatch]
      by_cases hj : j = first + k
      · rw [if_pos hj, ← hj, ih, if_neg (by omega), if_pos (by omega), State.heldLatch]
      · rw [if_neg hj, ih]
        by_cases hin : first ≤ j ∧ j < first + k
        · rw [if_pos hin, if_pos (by omega)]
        · rw [if_neg hin, if_neg (by omega)]
  exact (congrArg (fun v : Levee => v.latches.at j) State.levStatus_lev).trans hloop

theorem State.clearLines_bus (first k : Nat) : (s.clearLines first k).bus = s.bus := by
  refine State.levStatus_bus.trans (State.forN_keeps (fun t => t.bus) (fun i t => ?_) k)
  change (t.clearLine (first + i)).bus = t.bus
  unfold State.clearLine
  split
  · exact State.when_keeps (fun t => t.bus) rfl
  · rfl

/-! ### Recording an injected line (R425) -/

theorem State.relieve_latched {code inst : Nat} (h : s.latched code inst = true) : s.relieve.latched code inst = true := by
  unfold State.latched at *
  split at h
  · exact State.relieve_keeps _ h
  · exact absurd h (by decide)

theorem State.relieve_rest : s.relieve.lev.rest = s.lev.rest := by
  unfold State.relieve
  split
  · split
    · rw [State.recordLine_rest, State.unfreeze_lev]
    · rfl
  · rfl

/-- An injected line is latched as a raised one. -/
theorem State.inject_latched {code inst : Nat} {x : SourceRow} (hrow : sourceRow code = some x) :
    (s.recordLine code inst 0 true).relieve.latched code inst = true :=
  State.relieve_latched ((s.recordLine_latches code inst 0 true).2.trans (by rw [hrow]; rfl))

theorem State.inject_injecting (code inst : Nat) : (s.recordLine code inst 0 true).relieve.lev.injecting = s.lev.injecting := by
  have hrest := congrArg Levee.injecting (State.relieve_rest.trans (s.recordLine_rest code inst 0 true))
  exact hrest

/-! ### ALIVE_RUN once the watchdog has fired (R420) -/

/-- ALIVE_RUN stays off, as the watchdog that fired keeps it. -/
structure State.Barked (s : State) : Prop where
  off : s.get .LEV_STATUS_ALIVE_RUN = 0
  fired : s.lev.wdogFired = true

theorem State.levStatus_barked (h : s.lev.wdogFired = true) : s.levStatus.Barked :=
  { off := by simp (disch := decide) [State.levStatus, State.setIf, State.get_set_self, h]
    fired := by rw [State.levStatus_lev, h] }

theorem State.Barked.of_same {t : State} (h : s.Barked) (hget : t.get .LEV_STATUS_ALIVE_RUN = s.get .LEV_STATUS_ALIVE_RUN)
    (hlev : t.lev.rest = s.lev.rest) : t.Barked :=
  { off := hget.trans h.off
    fired := by
      have hrest := congrArg Levee.wdogFired hlev
      exact Eq.trans hrest h.fired }

theorem State.Barked.recordLine (h : s.Barked) (code inst detail : Nat) (injected : Bool) :
    (s.recordLine code inst detail injected).Barked := by
  refine ⟨?_, (congrArg Levee.wdogFired (s.recordLine_rest code inst detail injected)).trans h.fired⟩
  unfold State.recordLine
  split
  · exact h.off
  next row _ =>
    extract_lets line cls s1 coalesce slot w rep r flags e l s2 lev s4 s5 s6
    have h1 : s1.Barked := by
      unfold s1 State.when
      split
      · exact h.of_same (State.fatalDrop_get (by decide +kernel)) (by rw [State.fatalDrop_lev])
      · exact h
    clear_value coalesce s1
    split
    · rw [State.get_set_ne _ _ (by dsimp only; omega), h1.off]
    · have h4 : s4.lev.wdogFired = true := by
        have hrest := congrArg Levee.wdogFired (s1.writeHistory_rest e)
        exact Eq.trans hrest h1.fired
      have h5 : s5.Barked := by
        refine State.levStatus_barked ?_
        have hrest := congrArg Levee.wdogFired (s4.react_rest code inst r)
        exact Eq.trans hrest h4
      clear_value s5
      have h6 : s6.get .LEV_STATUS_ALIVE_RUN = 0 := by
        unfold s6
        rw [State.irqMire_get, State.stageRecord_get (by decide +kernel), h5.off]
      rw [State.when_keeps (fun t => t.get .LEV_STATUS_ALIVE_RUN) (State.startFlush_get (by decide)), h6]

theorem State.Barked.relieve (h : s.Barked) : s.relieve.Barked := by
  unfold State.relieve
  split
  · split
    · refine State.Barked.recordLine ?_ _ _ _ _
      exact h.of_same (State.unfreeze_get (by decide)) (by rw [State.unfreeze_lev])
    · exact h
  · exact h

theorem State.Barked.raise (h : s.Barked) (code inst detail : Nat) : (s.raise code inst detail).Barked :=
  (h.recordLine code inst detail false).relieve

/-- Settles O9: a clear goes line by line, an injection is recorded as a condition that is raised, and the watchdog's bark outlasts its record. -/
theorem faultsAreCollected : Obligations.FaultsAreCollected := by
  unfold Obligations.FaultsAreCollected
  refine ⟨fun s source inst detail x hrow hinst => ?_, fun s source inst x l hrow hinst hone hlatch hcls => ?_,
    fun s source inst x l hrow hinst hone hlatch hcls => ?_, fun s source inst => ?_, fun s source x hrow => ?_,
    fun s core all source inst => ?_, fun s source inst count x hfact hrow hinst hcount => ?_, fun s source inst x hfact hrow hinst => ?_,
    fun s source inst x hfact hrow hinst => ?_, fun s source inst count hfact => ?_, fun s core source inst count => ?_,
    fun s source inst x hinj hrow => ?_, fun s source inst count x hinj hrow hcount => ?_, fun s => ?_, fun s core => ?_,
    fun s harm hreq => ?_, fun s hrun => ?_⟩
  · refine completes_of_frame (execFaultRecord_frame (parts_in rfl) (fun _ hr => hr)) ?_
    simp [Completes, exec, execFaultRecord, hrow, hinst, State.raise_latched]
  · refine completes_of_frame (execLevClr_frame (parts_in rfl) (fun _ hr => hr)) ?_
    simp [Completes, exec, execLevClr, State.mireOnly, State.levClear, State.latched, State.clearLines_latch, State.clearLines_bus,
      State.heldLatch, Option.filter_some, hrow, hinst, hone, hlatch, hcls]
  · refine completes_of_frame (execLevClr_frame (parts_in rfl) (fun _ hr => hr)) ?_
    have hkeep : (s.ack.clearLines (x.firstLine + inst) 1).lev.latches = s.lev.latches := by
      have hline : s.ack.clearLine (x.firstLine + inst) = s.ack := State.clearLine_of_fatal hlatch hcls
      have hlines : s.ack.clearLines (x.firstLine + inst) 1 = (s.ack.clearLine (x.firstLine + inst)).levStatus := rfl
      rw [hlines, hline, State.levStatus_lev]
      rfl
    simp [Completes, exec, execLevClr, State.mireOnly, State.levClear, State.latched, hrow, hinst, hone, hlatch, hkeep]
  · refine completes_of_frame (execLevClr_frame (parts_in rfl) (fun _ hr => hr)) ?_
    simp [Completes, exec, execLevClr, State.mireOnly, State.levClear, State.clearLines_latch, State.clearLines_bus, State.heldLatch]
    omega
  · refine completes_of_frame (execLevClr_frame (parts_in rfl) (fun _ hr => hr)) ?_
    simp [Completes, exec, execLevClr, State.mireOnly, State.levClear, State.clearLines_latch, State.clearLines_bus, State.heldLatch,
      hrow]
    omega
  · refine completes_of_frame (execLevClr_frame (parts_in rfl) (fun _ hr => hr)) ?_
    simp (disch := decide) [Completes, exec, execLevClr, State.mireOnly, State.get_set_self]
  · refine completes_of_frame (execLevInj_frame (parts_in rfl) (fun _ hr => hr)) ?_
    simp (disch := decide) [Completes, exec, execLevInj, State.mireOnly, State.levInject, State.is, State.inject_latched hrow,
      State.inject_injecting, hfact, hrow, Nat.not_le.2 hinst, show count ≠ 0 by omega, show count ≠ 1 by omega]
  · refine completes_of_frame (execLevInj_frame (parts_in rfl) (fun _ hr => hr)) ?_
    simp (disch := decide) [Completes, exec, execLevInj, State.mireOnly, State.levInject, State.is, State.inject_latched hrow,
      State.inject_injecting, hfact, hrow, Nat.not_le.2 hinst]
  · refine completes_of_frame (execLevInj_frame (parts_in rfl) (fun _ hr => hr)) ?_
    simp (disch := decide) [Completes, exec, execLevInj, State.mireOnly, State.levInject, State.is, hfact, hrow, Nat.not_le.2 hinst]
  · refine completes_of_frame (execLevInj_frame (parts_in rfl) (fun _ hr => hr)) ?_
    simp (disch := decide) [Completes, exec, execLevInj, State.mireOnly, State.levInject, State.is, State.get_set_self, hfact]
  · refine completes_of_frame (execLevInj_frame (parts_in rfl) (fun _ hr => hr)) ?_
    simp (disch := decide) [Completes, exec, execLevInj, State.mireOnly, State.get_set_self]
  · refine completes_of_frame (execInjectAssert_frame (parts_in rfl) (fun _ hr => hr)) ?_
    simp [Completes, exec, execInjectAssert, State.inject_latched hrow, State.inject_injecting, hinj]
  · refine completes_of_frame (execInjectAssert_frame (parts_in rfl) (fun _ hr => hr)) ?_
    simp [Completes, exec, execInjectAssert, State.inject_latched hrow, State.inject_injecting, hinj]
    omega
  · refine completes_of_frame (execLevHeartbeat_frame (parts_in rfl) (fun _ hr => hr)) ?_
    simp (disch := decide) [Completes, exec, execLevHeartbeat, State.mireOnly, State.heartbeat, State.levStatus_get, State.get_set_self]
  · refine completes_of_frame (execLevHeartbeat_frame (parts_in rfl) (fun _ hr => hr)) ?_
    simp (disch := decide) [Completes, exec, execLevHeartbeat, State.mireOnly, State.get_set_self]
  · refine completes_of_frame (execLevMireWdog_frame (parts_in rfl) (fun _ hr => hr)) ?_
    have hbark := (State.levStatus_barked (s := { s with lev := { s.lev with wdogFired := true } }) rfl).raise 0x0E01 0 0
    refine ⟨_, rfl, ?_⟩
    rw [show (s.is .LEV_STATUS_WDOG_ARMED && s.lev.resetReq.isNone) = true by simp [State.is, harm, hreq], State.when_true]
    exact ⟨State.raise_latched_true (by decide +kernel), hbark.fired, hbark.off⟩
  · refine completes_of_frame (execAliveToggle_frame (parts_in rfl)) ?_
    simp [Completes, exec, execAliveToggle, State.is, hrun]

end Sys2Proof.Machine
end

section
set_option Elab.async false
/-! A RESET OF A REGISTER FILE OUTSIDE ITS CANONICAL FORM (18). A state may list one address twice: only the first entry is read, and a reset that
finds it at its reset value takes it away, so the second is read after. `Sound` shuts such a list out; the statement does not ask for it. -/

namespace Sys2Proof.Machine

/-- WEIR_STATUS is listed twice: at its reset value, where PF is 0, and with PF 2 behind it; a warm reset is requested. -/
def doubledStatus : State :=
  { regs := [(0x4A00_0000, regReset 0x4A00_0000), (0x4A00_0000, 0x8000_0000)]
    weir := { powered := true }
    lev := { resetReq := some (2, 0, 0) } }

theorem doubledStatus_warmReset : doubledStatus.warmReset.get .WEIR_STATUS_PF = 2 := by decide +kernel

/-- Refutes O8: the warm reset of `doubledStatus` leaves WEIR_STATUS.PF at 2, where it read 0. -/
theorem not_resetsTakeHold : ¬ Obligations.ResetsTakeHold := by
  unfold Obligations.ResetsTakeHold
  rintro ⟨hwarm, -⟩
  obtain ⟨t, ht, hclauses, -⟩ := hwarm doubledStatus rfl rfl
  obtain ⟨-, -, -, -, -, -, -, -, -, -, -, -, -, -, -, -, hpf, -⟩ := hclauses
  have hnext : exec .warmReset doubledStatus = .next doubledStatus.warmReset := rfl
  rw [hnext, Host.Outcome.next.injEq] at ht
  rw [← ht, doubledStatus_warmReset] at hpf
  exact absurd hpf (by decide +kernel)

end Sys2Proof.Machine
end

section
set_option Elab.async false
/-! WRITE GATES THAT ARE DOWN STAY DOWN. A drop lowers a gate, and neither a terminated operation nor a source that is raised raises one (R203). -/

namespace Sys2Proof.Machine

variable {s : State} {k : Nat}

theorem State.seq_of_seqs {t : State} (h : t.seqs = s.seqs) (n : Nat) : t.seq n = s.seq n := congrArg (fun l => Tab.at l n) h

theorem State.updSeq_seq (n : Nat) (f : Seq → Seq) : (s.updSeq n f).seq k = if k = n then f (s.seq n) else s.seq k := by
  unfold State.seq State.updSeq
  split
  next h => rw [h]; exact Tab.at_upd_self _ _ _
  next h => exact Tab.at_upd_ne _ _ h

/-- An update of a stream that raises no gate keeps a gate down. -/
theorem State.updSeq_down (n : Nat) {f : Seq → Seq} (hf : ∀ q, q.wg = false → (f q).wg = false) (h : (s.seq k).wg = false) :
    ((s.updSeq n f).seq k).wg = false := by
  rw [State.updSeq_seq]
  split
  next hk => exact hf _ (hk ▸ h)
  next => exact h

theorem State.when_down {c : Bool} {f : State → State} (hf : (s.seq k).wg = false → ((f s).seq k).wg = false) (h : (s.seq k).wg = false) :
    ((s.when c f).seq k).wg = false := by
  cases c
  · exact h
  · exact hf h

theorem State.endFragment_seq (n : Nat) (f : VfyEntry → VfyEntry) : (s.endFragment n f).seq k = s.seq k :=
  State.seq_of_seqs ((State.endFragment_frame (fun _ hp => hp) (R := []) (Frame.refl _ _ s)).same .seqs (by decide)) k

theorem State.endDefects_seq (n : Nat) : (s.endDefects n).seq k = s.seq k :=
  State.seq_of_seqs ((State.endDefects_frame (fun _ hp => hp) regsIn_all (Frame.refl _ _ s)).same .seqs (by decide)) k

theorem State.postResult_seq (n : Nat) (r : SectorResult) : (s.postResult n r).seq k = s.seq k :=
  State.seq_of_seqs ((State.postResult_frame (fun _ hp => hp) regsIn_all (Frame.refl _ _ s)).same .seqs (by decide)) k

theorem State.sdgStatus_seq (n : Nat) : (s.sdgStatus n).seq k = s.seq k :=
  State.seq_of_seqs ((State.sdgStatus_frame (fun _ hp => hp) regsIn_all (Frame.refl _ _ s)).same .seqs (by decide)) k

theorem State.stgStatus_seq (n : Nat) : (s.stgStatus n).seq k = s.seq k :=
  State.seq_of_seqs ((State.stgStatus_frame (W := []) regsIn_all (Frame.refl _ _ s)).same .seqs (by decide)) k

theorem State.dropWg_down (n cause : Nat) (h : (s.seq k).wg = false ∨ k = n) : ((s.dropWg n cause).seq k).wg = false := by
  unfold State.dropWg
  split
  case isTrue hup =>
    have hlow (t : State) : ((t.when (decide (2 ≤ cause) && decide (cause ≤ 8)) (fun s =>
        let seen := s.get .SDG_WF_STATUS_CAUSE_SEEN
        let s := (s.set (.SDG_WR_DROP_MANG n) s.mang.toNat).incSat (.SDG_WR_STATUS_DROPS n)
        s.set .SDG_WF_STATUS_CAUSE_SEEN (seen ||| 2 ^ (cause - 2)))).seq k).wg = (t.seq k).wg :=
      State.when_keeps (fun t => (t.seq k).wg) rfl
    dsimp only
    rw [hlow]
    change ((((s.endFragment n id).updSeq n (fun q => { q with wg := false, vgFrom := 0 })).seq k).wg) = false
    rw [State.updSeq_seq]
    split
    · rfl
    case isFalse hne => rw [State.endFragment_seq, h.resolve_right hne]
  case isFalse hdown =>
    rcases h with h | rfl
    · exact h
    · simpa using hdown

theorem State.dropGates_down (n cause : Nat) (h : (s.seq k).wg = false) : ((s.dropGates n cause).seq k).wg = false :=
  State.updSeq_down n (fun _ hq => hq) (State.dropWg_down n cause (.inl h))

theorem State.cutRead_down (n : Nat) (h : (s.seq k).wg = false) : ((s.cutRead n).seq k).wg = false := by
  unfold State.cutRead
  dsimp only
  split
  · rw [State.postResult_seq]
    refine State.updSeq_down n (fun _ hq => hq) ?_
    rw [State.endDefects_seq]
    exact h
  · exact h

theorem State.terminate_down (n term cause : Nat) (h : (s.seq k).wg = false) : ((s.terminate n term cause).seq k).wg = false := by
  unfold State.terminate
  split
  · lift_lets
    extract_lets s1 s2 s3 s4 s5 s6
    have h1 : (s1.seq k).wg = false := by
      refine State.dropGates_down _ _ ?_
      rw [State.endFragment_seq]
      exact State.dropWg_down _ _ (.inl h)
    have h2 : (s2.seq k).wg = false := by
      unfold s2
      rw [State.endDefects_seq]
      exact State.cutRead_down n h1
    clear_value s2
    have h3 : (s3.seq k).wg = false := State.when_down (fun hd => by
      rwa [State.seq_of_seqs (State.updChan_seqs _ _ _)]) h2
    clear_value s3
    have h4 : (s4.seq k).wg = false := State.updSeq_down n (fun _ hq => hq) h3
    have h6 : (s6.seq k).wg = false := by
      unfold s6
      rw [State.stgStatus_seq]
      exact h4
    rw [State.seq_of_seqs (State.irqMire_seqs _ _), State.sdgStatus_seq]
    exact h6
  · exact h

theorem State.forN_down {f : Nat → State → State} (hf : ∀ i t, (t.seq k).wg = false → ((f i t).seq k).wg = false) (m : Nat)
    (h : (s.seq k).wg = false) : ((s.forN m f).seq k).wg = false :=
  State.forN_inv (Inv := fun t => (t.seq k).wg = false) h (fun i _ t ht => hf i t ht)

theorem State.fatalDrop_down (h : (s.seq k).wg = false) : (s.fatalDrop.seq k).wg = false :=
  State.forN_down (fun n _ ht => State.terminate_down n 3 0 (State.dropWg_down n 8 (.inl ht))) 8 h

theorem State.recordLine_down (code inst detail : Nat) (injected : Bool) (h : (s.seq k).wg = false) :
    ((s.recordLine code inst detail injected).seq k).wg = false := by
  unfold State.recordLine
  split
  · exact h
  next row _ =>
    extract_lets line cls s1 coalesce slot w rep r flags e l s2 lev s4 s5 s6
    have h1 : (s1.seq k).wg = false := State.when_down State.fatalDrop_down h
    clear_value coalesce s1
    split
    · exact h1
    · have h5 : (s5.seq k).wg = false := by
        have hseqs : s5.seqs = s1.seqs := by simp [s5, s4, s2]
        rwa [State.seq_of_seqs hseqs]
      have h6 : (s6.seq k).wg = false := by
        have hseqs : s6.seqs = s5.seqs := by simp [s6]
        rwa [State.seq_of_seqs hseqs]
      exact State.when_down (fun hd => by rwa [State.seq_of_seqs State.startFlush_seqs]) h6

theorem State.relieve_down (h : (s.seq k).wg = false) : (s.relieve.seq k).wg = false := by
  unfold State.relieve
  split
  · split
    · refine State.recordLine_down _ _ _ _ ?_
      rwa [State.seq_of_seqs State.unfreeze_seqs]
    · exact h
  · exact h

theorem State.raise_down (code inst detail : Nat) (h : (s.seq k).wg = false) : ((s.raise code inst detail).seq k).wg = false :=
  State.relieve_down (State.recordLine_down _ _ _ _ h)

theorem State.timingTurn_down (n cause : Nat) (epoch : Bool) (h : (s.seq k).wg = false) :
    ((if (s.seq n).wg ∨ (epoch ∧ s.running n) then (s.dropWg n cause).terminate n 4 cause else s).seq k).wg = false := by
  split
  · exact State.terminate_down n 4 cause (State.dropWg_down n cause (.inl h))
  · exact h

/-- A drop of timing lowers every raised gate. -/
theorem State.timingDrop_lowers (hk : k < 8) (cause : Nat) (epoch : Bool) : ((s.timingDrop cause epoch).seq k).wg = false := by
  refine State.forN_reaches (Inv := fun _ => True) (P := fun t => (t.seq k).wg = false) hk trivial (fun _ _ _ _ => trivial)
    (fun t _ => ?_) (fun j _ t ht => State.timingTurn_down j cause epoch ht)
  split
  · exact State.terminate_down k 4 cause (State.dropWg_down k cause (.inr rfl))
  next hup => simpa using (not_or.1 hup).1

theorem State.timingDrop_down (cause : Nat) (epoch : Bool) (h : (s.seq k).wg = false) : ((s.timingDrop cause epoch).seq k).wg = false :=
  State.forN_down (fun n _ ht => State.timingTurn_down n cause epoch ht) 8 h

end Sys2Proof.Machine
end

section
set_option Elab.async false
/-! ACCESSES AND TABLES. What an access does while the register's clock runs and what it does for a Fen core that may not (R7, R14, R33); what an
update of one sequencer, channel, lane or section leaves of the others. -/

namespace Sys2Proof.Machine

variable {s : State}

theorem State.access_of_clocked {a : Nat} (f : State → State) (h : s.gated a = false) : s.access a f = f s.ack := by
  rw [State.access, h]
  rfl

theorem State.load_mire {a : Nat} (f : State → State) (halign : a % 4 = 0) (hreg : (findReg a).isSome = true) (h : s.gated a = false) :
    s.load .mire a f = f s.ack := by
  obtain ⟨⟨r, ix⟩, hrow⟩ := Option.isSome_iff_exists.1 hreg
  unfold State.load State.reach
  rw [if_neg (by omega), hrow]
  exact State.access_of_clocked f h

theorem State.load_fen {a core : Nat} (f : State → State) (h : fenMayLoad a = false) : s.load (.fen core) a f = s.denied core := by
  unfold State.load State.reach
  dsimp only
  rw [h]
  rfl

@[simp] theorem State.denied_bus (core : Nat) : (s.denied core).bus = .busError := State.raise_bus _ _ _

theorem State.denied_latched (core : Nat) : (s.denied core).latched 0x0101 core = true := State.raise_latched_true (by decide +kernel)

/-- A load that a Fen core may not make ends in a bus error and a record (R14). -/
theorem load_fen_holds {a core : Nat} {c : Instr} {f : State → State} (hexec : exec c s = .next (s.load (.fen core) a f))
    (h : fenMayLoad a = false) : Completes c s (fun t => t.bus = .busError ∧ t.latched 0x0101 core = true) := by
  rw [State.load_fen f h] at hexec
  exact ⟨_, hexec, State.denied_bus core, State.denied_latched core⟩

theorem State.inc_get_self {f : Fld} (hfits : f.lo + f.width ≤ 32) : (s.inc f).get f = (s.get f + 1) % 2 ^ f.width :=
  State.get_set_self _ _ _ hfits

theorem State.inc_get_other {f g : Fld} (h : g.addr ≠ f.addr ∨ f.lo + f.width ≤ g.lo ∨ g.lo + g.width ≤ f.lo) :
    (s.inc f).get g = s.get g := State.get_set_other _ _ h

theorem State.incSat_get_self {f : Fld} (hfits : f.lo + f.width ≤ 32) :
    (s.incSat f).get f = min (s.get f + 1) (2 ^ f.width - 1) := by
  unfold State.incSat
  rw [State.get_set_self _ _ _ hfits]
  exact Nat.mod_eq_of_lt ((Nat.min_le_right _ _).trans_lt (Nat.sub_lt (Nat.two_pow_pos _) Nat.one_pos))

theorem State.incSat_get_other {f g : Fld} (h : g.addr ≠ f.addr ∨ f.lo + f.width ≤ g.lo ∨ g.lo + g.width ≤ f.lo) :
    (s.incSat f).get g = s.get g := State.get_set_other _ _ h

theorem State.updSeq_seq_self (n : Nat) (f : Seq → Seq) : (s.updSeq n f).seq n = f (s.seq n) := Tab.at_upd_self _ _ _

theorem State.updSeq_seq_ne {n k : Nat} (f : Seq → Seq) (h : k ≠ n) : (s.updSeq n f).seq k = s.seq k := Tab.at_upd_ne _ _ h

theorem State.updChan_chan_self (n : Nat) (f : Channel → Channel) : (s.updChan n f).chan n = f (s.chan n) := Tab.at_upd_self _ _ _

theorem State.updChan_chan_ne {n k : Nat} (f : Channel → Channel) (h : k ≠ n) : (s.updChan n f).chan k = s.chan k := Tab.at_upd_ne _ _ h

theorem State.chan_of_chans {t : State} (h : t.chans = s.chans) (n : Nat) : t.chan n = s.chan n := congrArg (fun l => Tab.at l n) h

@[simp] theorem State.set_seq (f : Fld) (v n : Nat) : (s.set f v).seq n = s.seq n := rfl

@[simp] theorem State.set_chan (f : Fld) (v n : Nat) : (s.set f v).chan n = s.chan n := rfl

theorem State.incSat_seq (f : Fld) (n : Nat) : (s.incSat f).seq n = s.seq n := rfl

@[simp] theorem State.updChan_seq (n m : Nat) (f : Channel → Channel) : (s.updChan n f).seq m = s.seq m := rfl

@[simp] theorem State.updSeq_chan (n m : Nat) (f : Seq → Seq) : (s.updSeq n f).chan m = s.chan m := rfl

@[simp] theorem State.updStage_seq (n m : Nat) (f : Staging → Staging) : (s.updStage n f).seq m = s.seq m := rfl

@[simp] theorem State.ack_seq (n : Nat) : s.ack.seq n = s.seq n := rfl

@[simp] theorem State.ack_chan (n : Nat) : s.ack.chan n = s.chan n := rfl

theorem State.updSec_sec_self (k : Nat) (f : Section → Section) : (s.updSec k f).sec k = f (s.sec k) := Tab.at_upd_self _ _ _

theorem State.updSec_sec_ne {j k : Nat} (f : Section → Section) (h : k ≠ j) : (s.updSec j f).sec k = s.sec k := Tab.at_upd_ne _ _ h

theorem State.sec_of_tus {t : State} (h : t.tus = s.tus) (k : Nat) : t.sec k = s.sec k := congrArg (fun u => Tab.at (Tus.secs u) k) h

@[simp] theorem State.set_sec (f : Fld) (v k : Nat) : (s.set f v).sec k = s.sec k := rfl

theorem State.updLane_lane_self (n : Nat) (f : Lane → Lane) : (s.updLane n f).lane n = f (s.lane n) := Tab.at_upd_self _ _ _

theorem State.updLane_lane_ne {m n : Nat} (f : Lane → Lane) (h : m ≠ n) : (s.updLane n f).lane m = s.lane m := Tab.at_upd_ne _ _ h

theorem State.updLink_link_self (l : Nat) (f : Link → Link) : (s.updLink l f).link l = f (s.link l) := Tab.at_upd_self _ _ _

theorem State.link_of_links {t : State} (h : t.links = s.links) (l : Nat) : t.link l = s.link l := congrArg (fun u => Tab.at u l) h

@[simp] theorem State.set_link (f : Fld) (v l : Nat) : (s.set f v).link l = s.link l := rfl

end Sys2Proof.Machine
end

section
set_option Elab.async false
/-! THE END OF AN OPERATION (06). A stream that is terminated is idle with its TERM (R141), and no termination sets another stream running. -/

namespace Sys2Proof.Machine

variable {s : State} {n m : Nat}

/-- The sectors without an outcome yet have bits that no check reached, where an operation is cut (R197). -/
def State.cutVerify (s : State) (n term : Nat) : State :=
  s.when (term != 0) (fun s => s.updChan n (fun c => { c with vfy := c.vfy.map (fun e => if e.posted then e else { e with cut := true }) }))

/-- What a termination does before the stream's state is written. -/
def State.lowered (s : State) (n term cause : Nat) : State :=
  let s := ((s.dropWg n cause).endFragment n (fun e => { e with ended := true, cut := true })).dropGates n cause
  (((s.cutRead n).endDefects n).cutVerify n term).updSeq n (fun q =>
    { q with inSector := false, judged := false, checked := false, stall := .none, restartDue := none, dataAt := none, noData := false })

/-- What a termination does once the stream's state is written. -/
def State.reported (s : State) (n : Nat) : State := (((s.updStage n (fun g => { g with resv := 0 })).stgStatus n).sdgStatus n).irqMire (.opEnd n)

theorem State.terminate_of_running {term cause : Nat} (h : s.running n = true) : s.terminate n term cause =
    (((s.lowered n term cause).set (.REED_ST_STATUS_STATE n) 0).set (.REED_ST_STATUS_TERM n) term).reported n := by
  unfold State.terminate
  rw [if_pos h]
  rfl

theorem State.terminate_of_idle {term cause : Nat} (h : s.running n = false) : s.terminate n term cause = s := by
  unfold State.terminate
  rw [if_neg (by simp [h])]

/-- The registers that a termination writes beside the stream's own status. -/
def lowerRegs : List Regs := [.fld .SDG_WF_STATUS_CAUSE_SEEN, .arr (.SDG_WR_STATUS_WG 0) 0x400 8, .arr (.SDG_WR_STATUS_CAUSE 0) 0x400 8,
  .arr (.SDG_WR_STATUS_DROPS 0) 0x400 8, .arr (.SDG_WR_DROP_MANG 0) 0x400 8, .fld .SDG_STATUS_RES_IRQ, .fld .SDG_STATUS_PENDING,
  .arr (.SDG_ST_STATUS_RES_OVF 0) 0x400 8, .arr (.SDG_ST_STATUS_RES_CNT 0) 0x400 8, .arr (.SDG_ST_STATUS_PARK_USED 0) 0x400 8,
  .arr (.SDG_ST_STATUS_PENDING_CNT 0) 0x400 8, .arr (.SDG_FE_STATUS_TA_ACTIVE 0) 0x400 8, .arr (.SDG_FE_STATUS_DO_ACTIVE 0) 0x400 8]

def reportRegs : List Regs := [.arr (.SLU_STG_STATUS_ACTIVE 0) 0x4 8, .arr (.SLU_STG_STATUS_DIR 0) 0x4 8, .arr (.SLU_STG_STATUS_RESV 0) 0x4 8,
  .arr (.SLU_STG_STATUS_READY 0) 0x4 8, .fld .SDG_STATUS_RES_IRQ, .fld .SDG_STATUS_PENDING, .arr (.SDG_ST_STATUS_RES_CNT 0) 0x400 8,
  .arr (.SDG_ST_STATUS_PARK_USED 0) 0x400 8, .arr (.SDG_ST_STATUS_PENDING_CNT 0) 0x400 8]

theorem State.cutVerify_get (term : Nat) (g : Fld) : (s.cutVerify n term).get g = s.get g := by
  refine State.when_get ?_
  exact State.updChan_get ..

theorem State.lowered_get {g : Fld} {term cause : Nat} (h : lowerRegs.all (fun r => r.apartB g) = true) :
    (s.lowered n term cause).get g = s.get g := by
  unfold State.lowered
  dsimp only
  rw [State.updSeq_get, State.cutVerify_get, State.endDefects_get (apart_sub h (by decide +kernel)), State.cutRead_get (apart_sub h (by decide +kernel)),
    State.dropGates_get (apart_sub h (by decide +kernel)), State.endFragment_get, State.dropWg_get (apart_sub h (by decide +kernel))]

theorem State.reported_get {g : Fld} (h : reportRegs.all (fun r => r.apartB g) = true) : (s.reported n).get g = s.get g := by
  unfold State.reported
  rw [State.irqMire_get, State.sdgStatus_get (apart_sub h (by decide +kernel)), State.stgStatus_get (apart_sub h (by decide +kernel)),
    State.updStage_get]

theorem State.lowered_state (term cause : Nat) :
    (s.lowered n term cause).get (.REED_ST_STATUS_STATE m) = s.get (.REED_ST_STATUS_STATE m) :=
  State.lowered_get (apart_mod (n := 8) _ (by decide) (by simp) (by decide +kernel) m)

theorem State.reported_state : (s.reported n).get (.REED_ST_STATUS_STATE m) = s.get (.REED_ST_STATUS_STATE m) :=
  State.reported_get (apart_mod (n := 8) _ (by decide) (by simp) (by decide +kernel) m)

theorem State.reported_term : (s.reported n).get (.REED_ST_STATUS_TERM m) = s.get (.REED_ST_STATUS_TERM m) :=
  State.reported_get (apart_mod (n := 8) _ (by decide) (by simp) (by decide +kernel) m)

/-- A terminated stream is idle (R141). -/
theorem State.terminate_state (n term cause : Nat) : (s.terminate n term cause).get (.REED_ST_STATUS_STATE n) = 0 := by
  cases h : s.running n
  · rw [State.terminate_of_idle h]
    exact State.get_of_not_is h
  · rw [State.terminate_of_running h, State.reported_state, State.get_set_other _ _ (by dsimp only; omega)]
    exact State.get_set_self _ _ _ (by dsimp only; omega)

theorem State.terminate_term {term cause : Nat} (h : s.running n = true) :
    (s.terminate n term cause).get (.REED_ST_STATUS_TERM n) = term % 2 ^ 4 := by
  rw [State.terminate_of_running h, State.reported_term]
  exact State.get_set_self _ _ _ (by dsimp only; omega)

theorem State.terminate_running (n term cause : Nat) : (s.terminate n term cause).running n = false :=
  State.not_is_of_get (State.terminate_state n term cause)

theorem State.terminate_keeps_idle (n term cause : Nat) (h : s.running m = false) : (s.terminate n term cause).running m = false := by
  cases hn : s.running n
  · rwa [State.terminate_of_idle hn]
  · have hm := State.get_of_not_is h
    apply State.not_is_of_get
    rw [State.terminate_of_running hn, State.reported_state, State.get_set_other _ _ (by dsimp only; omega)]
    by_cases hmn : m % 8 = n % 8
    · rw [show Fld.REED_ST_STATUS_STATE m = .REED_ST_STATUS_STATE n by simp only [Fld.REED_ST_STATUS_STATE, hmn]]
      exact State.get_set_self _ _ _ (by dsimp only; omega)
    · rw [State.get_set_ne _ _ (by dsimp only; omega), State.lowered_state, hm]

end Sys2Proof.Machine
end

section
set_option Elab.async false
/-! SOURCES THAT STOP NOTHING. A source of class U or I records its line (R414) and drops no gate (R416); the streams and their registers stay. -/

namespace Sys2Proof.Machine

variable {s : State}

/-- The parts of the state that a record of a mild source writes. -/
abbrev mildParts : List Part := [.mireIrq, .fenIrq, .lev, .peat]

/-- A source whose class is not F, and that is not a memory's. -/
def mild (code : Nat) : Bool := ((sourceRow code).map (fun x => decide (x.cls < 2))).getD true

theorem mild_cls {code : Nat} {x : SourceRow} (h : mild code = true) (hrow : sourceRow code = some x) : x.cls < 2 := by
  simpa [mild, hrow] using h

theorem State.recordLine_mild {code : Nat} (h : mild code = true) (inst detail : Nat) (injected : Bool) :
    Frame mildParts alarmRegs s (s.recordLine code inst detail injected) := by
  unfold State.recordLine
  split
  · exact Frame.refl _ _ s
  next x hrow =>
    have hcls := mild_cls h hrow
    have hdrop : (s.recordClass x == 2) = false := by
      unfold State.recordClass
      rw [if_neg (by omega)]
      exact beq_eq_false_iff_ne.2 (by omega)
    extract_lets line cls s1 coalesce slot w rep r flags e l s2 lev s4 s5 s6
    have h1 : Frame mildParts alarmRegs s s1 := by
      unfold s1 cls
      rw [hdrop]
      exact Frame.refl _ _ s
    clear_value coalesce s1
    split
    · exact State.set_frame (cov_grid (f := .LEV_HIST_DATA 0 0) (k := 0x10) (m := 32) (u := 0x4) (l := 4) (A := alarmRegs) (fun _ hr => hr)
        (by decide +kernel) (by decide) (by decide) rfl) h1
    · have h2 : Frame mildParts alarmRegs s s2 :=
        State.set_frame (cov_arr (f := .LEV_LATCH_LINE 0) (k := 0x4) (m := 7) (A := alarmRegs) (fun _ hr => hr) (by decide +kernel) (by decide) rfl)
          (State.writeHistory_frame (parts_in rfl) (regs_in (by decide +kernel)) h1)
      have h5 : Frame mildParts alarmRegs s s5 :=
        State.levStatus_frame (regs_in (by decide +kernel))
          (State.react_frame (parts_in rfl) (regs_in (by decide +kernel)) (upd_lev (parts_in rfl) h2))
      have h6 : Frame mildParts alarmRegs s s6 :=
        State.irqMire_frame (parts_in rfl) (State.stageRecord_frame (parts_in rfl) (regs_in (by decide +kernel)) h5)
      exact State.when_frame h6 (fun t ht => State.startFlush_frame (parts_in rfl) (regs_in (by decide +kernel)) ht)

theorem State.relieve_mild : Frame mildParts alarmRegs s s.relieve := by
  unfold State.relieve
  split
  · split
    · exact (State.unfreeze_frame (W := mildParts) (regs_in (by decide +kernel)) (Frame.refl _ _ s)).trans
        (State.recordLine_mild (by decide +kernel) _ _ _)
    · exact Frame.refl _ _ s
  · exact Frame.refl _ _ s

theorem State.raise_mild {code : Nat} (h : mild code = true) (inst detail : Nat) : Frame mildParts alarmRegs s (s.raise code inst detail) :=
  (State.recordLine_mild h inst detail false).trans State.relieve_mild

theorem State.raise_mild_get {code inst detail : Nat} {g : Fld} (h : mild code = true) (hg : alarmRegs.all (fun r => r.apartB g) = true) :
    (s.raise code inst detail).get g = s.get g := (State.raise_mild h inst detail).get hg

theorem State.raise_mild_seq {code inst detail : Nat} (h : mild code = true) (n : Nat) : (s.raise code inst detail).seq n = s.seq n :=
  State.seq_of_seqs ((State.raise_mild h inst detail).same .seqs (by decide)) n

theorem State.raise_mild_chan {code inst detail : Nat} (h : mild code = true) (n : Nat) : (s.raise code inst detail).chan n = s.chan n :=
  State.chan_of_chans ((State.raise_mild h inst detail).same .chans (by decide)) n

theorem State.raise_mild_stage {code inst detail : Nat} (h : mild code = true) (n : Nat) : (s.raise code inst detail).stage n = s.stage n :=
  congrArg (fun l => Tab.at l n) ((State.raise_mild h inst detail).same .stg (by decide))

theorem State.raise_mild_running {code inst detail : Nat} (h : mild code = true) (n : Nat) :
    (s.raise code inst detail).running n = s.running n :=
  congrArg (· != 0) (State.raise_mild_get h (apart_mod (n := 8) _ (by decide) (by simp) (by decide +kernel) n))

end Sys2Proof.Machine
end

section
set_option Elab.async false
/-! THE SEQUENCERS (06). What a drop of the gates, a termination, an event and a commit leave of a stream. -/

namespace Sys2Proof.Machine

variable {s : State} {n m : Nat}

/-! ### Gates and terminations -/

/-- A stream whose gates have dropped, the angle from which VG stood being `v`. -/
def Seq.gatesLow (v : Nat) (q : Seq) : Seq := { q with wg := false, rg := false, vg := false, vgFrom := v }

theorem State.dropWg_seq (n cause : Nat) : ∃ v, (s.dropWg n cause).seq n = { s.seq n with wg := false, vgFrom := v } := by
  unfold State.dropWg
  split
  next hup =>
    refine ⟨0, ?_⟩
    dsimp only
    refine (State.when_keeps (fun t => t.seq n) ?_).trans ?_
    · rw [State.set_seq, State.incSat_seq, State.set_seq]
    · rw [State.set_seq, State.set_seq, State.updChan_seq, State.updSeq_seq_self, State.endFragment_seq]
  next hdown =>
    refine ⟨(s.seq n).vgFrom, ?_⟩
    have hwg : (s.seq n).wg = false := by simpa using hdown
    rw [← hwg]

theorem State.dropGates_seq (n cause : Nat) : ∃ v, (s.dropGates n cause).seq n = (s.seq n).gatesLow v := by
  obtain ⟨v, hv⟩ := s.dropWg_seq n cause
  refine ⟨v, ?_⟩
  unfold State.dropGates
  rw [State.updSeq_seq_self, hv]
  rfl

theorem State.cutRead_seq (n : Nat) : ∃ j, (s.cutRead n).seq n = { s.seq n with judged := j } := by
  unfold State.cutRead
  dsimp only
  split
  · refine ⟨true, ?_⟩
    rw [State.postResult_seq, State.updSeq_seq_self, State.endDefects_seq]
    rfl
  · exact ⟨(s.seq n).judged, rfl⟩

theorem State.cutVerify_seq (term : Nat) : (s.cutVerify n term).seq m = s.seq m := by
  refine State.when_keeps (fun t => t.seq m) ?_
  rw [State.updChan_seq]

/-- A stream whose operation has ended. -/
def Seq.ended (v : Nat) (q : Seq) : Seq :=
  { q.gatesLow v with inSector := false, judged := false, checked := false, stall := .none, restartDue := none, dataAt := none, noData := false }

theorem State.lowered_seq (term cause : Nat) : ∃ v, (s.lowered n term cause).seq n = (s.seq n).ended v := by
  obtain ⟨v1, hv1⟩ := s.dropWg_seq n cause
  obtain ⟨v2, hv2⟩ := ((s.dropWg n cause).endFragment n (fun e => { e with ended := true, cut := true })).dropGates_seq n cause
  obtain ⟨j, hj⟩ := (((s.dropWg n cause).endFragment n (fun e => { e with ended := true, cut := true })).dropGates n cause).cutRead_seq n
  refine ⟨v2, ?_⟩
  unfold State.lowered
  dsimp only
  rw [State.updSeq_seq_self]
  rw [State.cutVerify_seq, State.endDefects_seq, hj, hv2, State.endFragment_seq, hv1]
  rfl

theorem State.reported_seq : (s.reported n).seq m = s.seq m := by
  unfold State.reported
  rw [State.seq_of_seqs (State.irqMire_seqs _ _), State.sdgStatus_seq, State.stgStatus_seq, State.updStage_seq]

theorem State.terminate_seq {term cause : Nat} (h : s.running n = true) : ∃ v, (s.terminate n term cause).seq n = (s.seq n).ended v := by
  obtain ⟨v, hv⟩ := s.lowered_seq (n := n) term cause
  refine ⟨v, ?_⟩
  rw [State.terminate_of_running h, State.reported_seq, State.set_seq, State.set_seq, hv]

theorem State.irqMire_mem (x : MireIrq) : x ∈ (s.irqMire x).mireIrq := by
  unfold State.irqMire
  split
  · assumption
  · exact List.mem_append_right _ (List.mem_singleton.2 rfl)

theorem State.terminate_irq {term cause : Nat} (h : s.running n = true) : MireIrq.opEnd n ∈ (s.terminate n term cause).mireIrq := by
  rw [State.terminate_of_running h]
  exact State.irqMire_mem _

theorem State.terminate_bus (term cause : Nat) : (s.terminate n term cause).bus = s.bus :=
  (State.terminate_frame (fun _ hp => hp) regsIn_all (Frame.refl _ _ s)).same .bus (by decide)

/-! ### Events and commits -/

theorem State.reedEvent_seq (k kind data : Nat) : ∃ ev ow, (s.reedEvent k kind data).seq n = { s.seq n with events := ev, owed := ow } := by
  unfold State.reedEvent State.reedCount
  dsimp only
  rw [State.set_seq]
  split
  · rw [State.updSeq_seq]
    split
    next h => subst h; exact ⟨_, (s.seq n).owed, rfl⟩
    next => exact ⟨(s.seq n).events, (s.seq n).owed, rfl⟩
  · rw [State.updSeq_seq]
    split
    next h => subst h; exact ⟨(s.seq n).events, _, rfl⟩
    next => exact ⟨(s.seq n).events, (s.seq n).owed, rfl⟩

theorem State.reedEvents_seq (k n kind : Nat) (f : Nat → Nat) :
    ∃ ev ow, (s.forN k (fun i s => s.reedEvent n kind (f i))).seq n = { s.seq n with events := ev, owed := ow } := by
  induction k with
  | zero => exact ⟨(s.seq n).events, (s.seq n).owed, rfl⟩
  | succ k ih =>
    obtain ⟨ev, ow, h⟩ := ih
    obtain ⟨ev', ow', h'⟩ := (s.forN k (fun i s => s.reedEvent n kind (f i))).reedEvent_seq (n := n) n kind (f k)
    exact ⟨ev', ow', by rw [State.forN_succ, h', h]⟩

theorem State.commitSectors_seq (n : Nat) :
    ∃ ev ow, (s.commitSectors n).seq n = { s.seq n with events := ev, owed := ow, sectorsCommitted := (s.seq n).sectorsDone } := by
  obtain ⟨ev, ow, h⟩ := s.reedEvents_seq ((s.seq n).sectorsDone - (s.seq n).sectorsCommitted) n 15 (fun i => (s.seq n).sectorsCommitted + i)
  refine ⟨ev, ow, ?_⟩
  unfold State.commitSectors
  dsimp only
  refine (State.when_keeps (fun t => t.seq n) (State.set_seq ..)).trans ?_
  rw [State.stgStatus_seq, State.updStage_seq, State.updSeq_seq_self, h]

theorem State.stgStatus_stage (k : Nat) : (s.stgStatus k).stage n = s.stage n := rfl

end Sys2Proof.Machine
end

section
set_option Elab.async false
/-! MICROWORDS (06). How a microword leaves its stream: at the next microword, or stalled (R130). -/

namespace Sys2Proof.Machine

variable {s : State} {n : Nat}

theorem apart_mod_mod {R : List Regs} (G : Nat → Nat → Fld) {n m : Nat} (hn : 0 < n) (hm : 0 < m) (hG : ∀ k i, G (k % n) (i % m) = G k i)
    (h : (List.range n).all (fun k => (List.range m).all (fun i => R.all (fun r => r.apartB (G k i)))) = true) (k i : Nat) :
    R.all (fun r => r.apartB (G k i)) = true := by
  rw [← hG k i]
  exact List.all_eq_true.1 (List.all_eq_true.1 h (k % n) (List.mem_range.2 (Nat.mod_lt k hn))) (i % m) (List.mem_range.2 (Nat.mod_lt i hm))

theorem State.microAt_running {op : Nat} {x : Nat × Nat × Nat} (h : s.microAt n op = some x) : s.running n = true := by
  unfold State.microAt at h
  split at h
  next =>
    split at h
    next hcond =>
      simp only [Bool.and_eq_true] at hcond
      exact hcond.1.1.1.1.1
    next => cases h
  next => cases h

theorem State.advanceTo_seq (pc : Nat) : (s.advanceTo n pc).seq n = { s.seq n with stall := .none } := by
  unfold State.advanceTo
  rw [State.set_seq, State.set_seq, State.updSeq_seq_self]

theorem State.advanceTo_pc (pc : Nat) : (s.advanceTo n pc).get (.REED_ST_PC_PC n) = pc % 2 ^ 15 := by
  unfold State.advanceTo
  rw [State.get_set_other _ _ (by dsimp only; omega)]
  exact State.get_set_self _ _ _ (by dsimp only; omega)

theorem State.advanceTo_state (pc : Nat) : (s.advanceTo n pc).get (.REED_ST_STATUS_STATE n) = 1 := by
  unfold State.advanceTo
  exact State.get_set_self _ _ _ (by dsimp only; omega)

theorem State.advanceTo_get {g : Fld} (pc : Nat)
    (hpc : g.addr ≠ (Fld.REED_ST_PC_PC n).addr ∨ (Fld.REED_ST_PC_PC n).lo + (Fld.REED_ST_PC_PC n).width ≤ g.lo ∨ g.lo + g.width ≤ (Fld.REED_ST_PC_PC n).lo)
    (hstate : g.addr ≠ (Fld.REED_ST_STATUS_STATE n).addr ∨ (Fld.REED_ST_STATUS_STATE n).lo + (Fld.REED_ST_STATUS_STATE n).width ≤ g.lo ∨
      g.lo + g.width ≤ (Fld.REED_ST_STATUS_STATE n).lo) : (s.advanceTo n pc).get g = s.get g := by
  unfold State.advanceTo
  rw [State.get_set_other _ _ hstate, State.get_set_other _ _ hpc, State.updSeq_get]

theorem State.stallOn_seq (x : Stall) : (s.stallOn n x).seq n = { s.seq n with stall := x } := by
  unfold State.stallOn
  rw [State.set_seq, State.updSeq_seq_self]

theorem State.stallOn_stall (x : Stall) : ((s.stallOn n x).seq n).stall = x := by rw [State.stallOn_seq]

theorem State.stallOn_state (x : Stall) : (s.stallOn n x).get (.REED_ST_STATUS_STATE n) = 2 := by
  unfold State.stallOn
  exact State.get_set_self _ _ _ (by dsimp only; omega)

theorem State.stallOn_get {g : Fld} (x : Stall)
    (h : g.addr ≠ (Fld.REED_ST_STATUS_STATE n).addr ∨ (Fld.REED_ST_STATUS_STATE n).lo + (Fld.REED_ST_STATUS_STATE n).width ≤ g.lo ∨
      g.lo + g.width ≤ (Fld.REED_ST_STATUS_STATE n).lo) : (s.stallOn n x).get g = s.get g := by
  unfold State.stallOn
  rw [State.get_set_other _ _ h, State.updSeq_get]

theorem State.running_of_state {v : Nat} (h : s.get (.REED_ST_STATUS_STATE n) = v) (hv : v ≠ 0) : s.running n = true := by
  cases hr : s.running n
  · exact absurd (h.symm.trans (State.get_of_not_is hr)) hv
  · rfl

theorem State.programFault_ends {term : Nat} (h : s.running n = true) (hterm : term < 16) :
    (s.programFault n term).get (.REED_ST_STATUS_STATE n) = 0 ∧ (s.programFault n term).get (.REED_ST_STATUS_TERM n) = term ∧
    (s.programFault n term).latched 0x0601 n = true := by
  unfold State.programFault
  refine ⟨?_, ?_, State.raise_latched_true (by decide +kernel)⟩
  · rw [State.raise_mild_get (by decide +kernel) (apart_mod (n := 8) _ (by decide) (by simp) (by decide +kernel) n),
    State.terminate_state]
  · rw [State.raise_mild_get (by decide +kernel) (apart_mod (n := 8) _ (by decide) (by simp) (by decide +kernel) n),
    State.terminate_term h]
    exact Nat.mod_eq_of_lt hterm

end Sys2Proof.Machine
end

section
set_option Elab.async false
/-! WHAT A COMPLETION LEAVES OF THE MEDIA QUEUES. A descriptor that ends changes the table, the batches and the interrupt flags of the spill
area (R272, R275, R280), and nothing else that Mire holds of the queues. -/

namespace Sys2Proof.Machine

variable {s : State} {α : Type}

/-- A reading of the media queues that does not look at the table, the batches and the spill area's flags. -/
def PastTable (read : MediaQueues → α) : Prop :=
  ∀ (m : MediaQueues) (l b i), read { m with descs := l, batches := b, spillIrq := i } = read m

theorem State.dramStore_mq (a : Nat) (bs : List Byte) : (s.dramStore a bs).2.mq = s.mq :=
  (State.dramStore_frame (fun _ hp => hp) regsIn_all (Frame.refl _ _ s)).same .mq (by decide)

variable {read : MediaQueues → α}

theorem PastTable.descs (h : PastTable read) (m : MediaQueues) (l) : read { m with descs := l } = read m := h m l m.batches m.spillIrq

theorem PastTable.batches (h : PastTable read) (m : MediaQueues) (b) : read { m with batches := b } = read m := h m m.descs b m.spillIrq

theorem PastTable.spillIrq (h : PastTable read) (m : MediaQueues) (i) : read { m with spillIrq := i } = read m := h m m.descs m.batches i

theorem PastTable.place (h : PastTable read) (k : Nat) (bs : List Byte) (irq : Bool) : read (s.place k bs irq).mq = read s.mq := by
  unfold State.place
  split
  · rw [State.ringPut_mq]
  · unfold State.spillPut
    dsimp only
    refine (State.when_keeps (fun t => read t.mq) ?_).trans ?_
    · rw [State.ringIrq_mq, State.set_mq]
    · refine (h.spillIrq _ _).trans ?_
      rw [State.set_mq, State.dramStore_mq]
      rfl

theorem PastTable.ownRecord (h : PastTable read) (d : Mwd) (e : Ending) : read (s.ownRecord d e).mq = read s.mq := by
  refine (h.descs _ _).trans ?_
  rw [State.setCtrl_mq, h.place]

theorem PastTable.release (h : PastTable read) (l : List Mwd) : read (s.release l).mq = read s.mq := by
  induction l generalizing s with
  | nil => rfl
  | cons d rest ih => exact ih.trans ((h.descs _ _).trans (congrArg read State.setCtrl_mq))

theorem PastTable.batchDone (h : PastTable read) (b : Nat) : read (s.batchDone b).mq = read s.mq := by
  unfold State.batchDone
  dsimp only
  split
  · refine (h.batches _ _).trans ?_
    rw [h.release, h.place]
  · rfl

theorem PastTable.complete (h : PastTable read) (d : Mwd) (e : Ending) : read (s.complete d e).mq = read s.mq := by
  unfold State.complete
  dsimp only
  rw [State.mwqSync_mq]
  refine (State.when_keeps (fun t => read t.mq) ?_).trans ?_
  · rw [h.batchDone]
    exact h.batches _ _
  · split
    · refine (h.descs _ _).trans ?_
      rw [State.setCtrl_mq, State.letGo_mq]
    · rw [h.ownRecord, State.letGo_mq]

theorem PastTable.hintsParked (h : PastTable read) (l : List Mwd) : read (s.hintsParked l).mq = read s.mq := by
  induction l generalizing s with
  | nil => rfl
  | cons d rest ih =>
    refine ih.trans (State.when_keeps (fun t => read t.mq) ?_)
    split
    · exact h.complete _ _
    · exact h.complete _ _

theorem PastTable.sectionParked (h : PastTable read) (k : Nat) : read (s.sectionParked k).mq = read s.mq := by
  unfold State.sectionParked
  rw [State.mwqSync_mq, h.hintsParked]

/-- Two states that agree in Levee's part, in Mire's interrupts and in what the streams and channels are. -/
structure State.Alike (s t : State) : Prop where
  lev : t.lev = s.lev
  mireIrq : t.mireIrq = s.mireIrq
  seqs : t.seqs = s.seqs
  chans : t.chans = s.chans
  state : ∀ n, t.get (.REED_ST_STATUS_STATE n) = s.get (.REED_ST_STATUS_STATE n)

theorem State.Alike.refl (s : State) : s.Alike s := ⟨rfl, rfl, rfl, rfl, fun _ => rfl⟩

theorem State.Alike.trans {s t u : State} (h : s.Alike t) (h' : t.Alike u) : s.Alike u :=
  ⟨h'.lev.trans h.lev, h'.mireIrq.trans h.mireIrq, h'.seqs.trans h.seqs, h'.chans.trans h.chans, fun n => (h'.state n).trans (h.state n)⟩

/-- A change within a frame that leaves those parts out keeps them. -/
theorem Frame.alike {W : List Part} {R : List Regs} {t : State} (h : Frame W R s t)
    (hW : Part.lev ∉ W ∧ Part.mireIrq ∉ W ∧ Part.seqs ∉ W ∧ Part.chans ∉ W)
    (hR : (List.range 8).all (fun n => R.all (fun r => r.apartB (.REED_ST_STATUS_STATE n))) = true) : s.Alike t :=
  ⟨h.same .lev hW.1, h.same .mireIrq hW.2.1, h.same .seqs hW.2.2.1, h.same .chans hW.2.2.2,
    fun n => h.get (apart_mod (n := 8) _ (by decide) (by simp) hR n)⟩

theorem State.set_alike {f : Fld} (v : Nat) (hf : ∀ n, (Fld.REED_ST_STATUS_STATE n).addr ≠ f.addr) : s.Alike (s.set f v) :=
  ⟨rfl, rfl, rfl, rfl, fun n => State.get_set_other _ _ (.inl (hf n))⟩

/-- A property that reads no more than two such states agree in, and that a raised source of no class F does not end: a latch that holds, an
interrupt that does not pend. -/
structure KeptByRaise (P : State → Prop) : Prop where
  same : ∀ {s t : State}, P s → s.Alike t → P t
  raise : ∀ {s : State} {code : Nat} (inst detail : Nat), mild code = true → P s → P (s.raise code inst detail)

variable {P : State → Prop}

theorem keptByRaise_latched (code inst : Nat) : KeptByRaise (fun s => s.latched code inst = true) where
  same h ht := (State.latched_of_lev ht.lev code inst).trans h
  raise i d _ h := by
    unfold State.latched at *
    split at h
    · exact State.raise_keeps _ i d _ h
    · exact absurd h (by decide)

theorem KeptByRaise.when (_ : KeptByRaise P) {c : Bool} {f : State → State} (hf : P (f s)) (h : P s) : P (s.when c f) := by
  cases c
  · exact h
  · exact hf

theorem State.writeBytes_alike (a : Nat) (bs : List Byte) : s.Alike (s.writeBytes a bs) :=
  (State.writeBytes_frame (R := []) (fun _ hp => hp) (Frame.refl _ _ s)).alike (by decide) (by decide)

theorem KeptByRaise.dramStore (hP : KeptByRaise P) (a : Nat) (bs : List Byte) (h : P s) : P (s.dramStore a bs).2 := by
  have hwrite (t : State) (x : Nat) (l : List Byte) (ht : P t) : P (t.writeBytes x l) := hP.same ht (State.writeBytes_alike x l)
  have hclear (t : State) (f : Sluice → Sluice) (ht : P t) : P (t.updSlu f) := hP.same ht ⟨rfl, rfl, rfl, rfl, fun _ => rfl⟩
  have hblock (acc : Bool × State) (b : Nat) (hacc : P acc.2) : P (State.storeBlock a bs acc b).2 := by
    unfold State.storeBlock
    dsimp only
    split
    · split
      · exact hwrite _ _ _ (hclear _ _ hacc)
      · exact hP.raise _ _ (by decide +kernel) hacc
    · exact hwrite _ _ _ hacc
  have hblocks (l : List Nat) (acc : Bool × State) (hacc : P acc.2) : P (l.foldl (State.storeBlock a bs) acc).2 := by
    induction l generalizing acc with
    | nil => exact hacc
    | cons b rest ih => exact ih _ (hblock acc b hacc)
  unfold State.dramStore
  split
  · exact h
  · exact hblocks _ (true, s) h

theorem KeptByRaise.setCtrl (hP : KeptByRaise P) (q slot dstate : Nat) (h : P s) : P (s.setCtrl q slot dstate) := hP.dramStore _ _ h

theorem KeptByRaise.ringIrq (hP : KeptByRaise P) (k : Nat) (h : P s) : P (s.ringIrq k) :=
  hP.same h ((State.ringIrq_frame (R := []) (fun _ hp => hp) (Frame.refl _ _ s)).alike (by decide) (by decide))

theorem KeptByRaise.set (hP : KeptByRaise P) {f : Fld} (v : Nat) (hf : ∀ n, (Fld.REED_ST_STATUS_STATE n).addr ≠ f.addr) (h : P s) :
    P (s.set f v) := hP.same h (State.set_alike v hf)

theorem KeptByRaise.updMq (hP : KeptByRaise P) (f : MediaQueues → MediaQueues) (h : P s) : P (s.updMq f) :=
  hP.same h ⟨rfl, rfl, rfl, rfl, fun _ => rfl⟩

theorem KeptByRaise.place (hP : KeptByRaise P) (k : Nat) (bs : List Byte) (irq : Bool) (h : P s) : P (s.place k bs irq) := by
  unfold State.place
  split
  · unfold State.ringPut
    extract_lets pi pass s1 next s2
    have h1 : P s1 := hP.dramStore _ _ h
    clear_value s1
    have hput : P (s1.set (.MWC_PI_PI k) next) := hP.set next (fun n => by dsimp only; omega) h1
    have h2 : P s2 := hP.when (hP.set _ (fun n => by dsimp only; omega) hput) hput
    exact hP.when (hP.ringIrq k h2) h2
  · unfold State.spillPut
    extract_lets c
    split
    next p s1 hdraw =>
    extract_lets s2 s3
    have h1 : P s1 := by
      have hs1 : (s.draw 1).2 = s1 := congrArg Prod.snd hdraw
      exact hs1 ▸ hP.same h ⟨rfl, rfl, rfl, rfl, fun _ => rfl⟩
    have h2 : P s2 := hP.dramStore _ _ h1
    clear_value s2
    have h3 : P s3 := hP.updMq _ (hP.set _ (fun n => by dsimp only; omega) h2)
    exact hP.when (hP.ringIrq k (hP.set _ (fun n => by dsimp only; omega) h3)) h3

theorem KeptByRaise.ownRecord (hP : KeptByRaise P) (d : Mwd) (e : Ending) (h : P s) : P (s.ownRecord d e) :=
  hP.updMq _ (hP.setCtrl d.queue d.slot 4 (hP.place d.sec _ _ h))

theorem KeptByRaise.release (hP : KeptByRaise P) (l : List Mwd) (h : P s) : P (s.release l) := by
  induction l generalizing s with
  | nil => exact h
  | cons d rest ih => exact ih (hP.updMq _ (hP.setCtrl d.queue d.slot 4 h))

theorem KeptByRaise.batchDone (hP : KeptByRaise P) (b : Nat) (h : P s) : P (s.batchDone b) := by
  unfold State.batchDone
  dsimp only
  split
  · exact hP.updMq _ (hP.release _ (hP.place _ _ _ h))
  · exact h

theorem KeptByRaise.letGo (hP : KeptByRaise P) (d : Mwd) (e : Ending) (h : P s) : P (s.letGo d e) :=
  hP.same h ((State.letGo_frame (fun _ hp => hp) (fun _ hr => hr) (Frame.refl _ _ s)).alike (by decide) (by decide +kernel))

theorem KeptByRaise.mwqSync (hP : KeptByRaise P) (h : P s) : P s.mwqSync :=
  hP.same h ((State.mwqSync_frame (W := []) (fun _ hr => hr) (Frame.refl _ _ s)).alike (by decide) (by decide +kernel))

theorem KeptByRaise.complete (hP : KeptByRaise P) (d : Mwd) (e : Ending) (h : P s) : P (s.complete d e) := by
  unfold State.complete
  extract_lets s1 s2 s3
  have h1 : P s1 := hP.letGo d e h
  clear_value s1
  have h2 : P s2 := by
    unfold s2
    split
    · exact hP.updMq _ (hP.setCtrl d.queue d.slot 3 h1)
    · exact hP.ownRecord d e h1
  clear_value s2
  have h3 : P s3 := hP.when (hP.batchDone _ (hP.updMq _ h2)) h2
  exact hP.mwqSync h3

theorem KeptByRaise.hintsParked (hP : KeptByRaise P) (l : List Mwd) (h : P s) : P (s.hintsParked l) := by
  induction l generalizing s with
  | nil => exact h
  | cons d rest ih =>
    refine ih (hP.when ?_ h)
    split
    · exact hP.complete _ _ h
    · exact hP.complete _ _ h

theorem KeptByRaise.sectionParked (hP : KeptByRaise P) (k : Nat) (h : P s) : P (s.sectionParked k) := hP.mwqSync (hP.hintsParked _ h)

end Sys2Proof.Machine
end

section
set_option Elab.async false
/-! SECTIONS THAT UNLOAD (R46, R237). Mire stops the starts of the sections, and parks each one or starts its retract; it stays so while the
records of the hints that end are written. -/

namespace Sys2Proof.Machine

variable {s : State}

/-- Section k is parked or retracts. -/
def State.Unloaded (s : State) (k : Nat) : Prop := s.parkedSec k = true ∨ s.get (.WTH_VCM_STATUS_RET_ACTIVE k) = 1

theorem State.Unloaded.of_get {t : State} {k : Nat} (h : s.Unloaded k)
    (hparked : t.get (.WTH_VCM_STATUS_PARKED k) = s.get (.WTH_VCM_STATUS_PARKED k))
    (hactive : t.get (.WTH_VCM_STATUS_RET_ACTIVE k) = s.get (.WTH_VCM_STATUS_RET_ACTIVE k)) : t.Unloaded k := by
  unfold State.Unloaded State.parkedSec State.is at *
  rwa [hparked, hactive]

theorem State.set_parked_keeps {j k : Nat} (h : s.get (.WTH_VCM_STATUS_PARKED k) = 1) :
    (s.set (.WTH_VCM_STATUS_PARKED j) 1).get (.WTH_VCM_STATUS_PARKED k) = 1 := by
  by_cases hj : j % 4 = k % 4
  · rw [show Fld.WTH_VCM_STATUS_PARKED k = .WTH_VCM_STATUS_PARKED j by simp only [Fld.WTH_VCM_STATUS_PARKED, hj]]
    exact State.get_set_self _ _ _ (by dsimp only; omega)
  · rw [State.get_set_ne _ _ (by dsimp only; omega), h]

theorem State.park_unloaded (k : Nat) : (s.park k).Unloaded k := by
  unfold State.park
  split
  next h => exact .inr (State.get_of_is rfl h)
  next => exact .inl (by simp (disch := (dsimp only; omega)) [State.parkedSec, State.is, State.get_set_self])

theorem State.bridgeOff_parked (j k : Nat) : (s.bridgeOff j).get (.WTH_VCM_STATUS_PARKED k) = s.get (.WTH_VCM_STATUS_PARKED k) := by
  refine State.get_mk.trans ?_
  rw [State.get_set_other _ _ (by dsimp only; omega), State.get_set_other _ _ (by dsimp only; omega)]

theorem State.park_active (j k : Nat) : (s.park j).get (.WTH_VCM_STATUS_RET_ACTIVE k) = s.get (.WTH_VCM_STATUS_RET_ACTIVE k) := by
  unfold State.park
  split
  · rfl
  · rw [State.get_set_other _ _ (by dsimp only; omega)]
    refine State.get_mk.trans ?_
    rw [State.get_set_other _ _ (by dsimp only; omega), State.get_set_other _ _ (by dsimp only; omega)]

theorem State.Unloaded.park {k : Nat} (h : s.Unloaded k) (j : Nat) : (s.park j).Unloaded k := by
  rcases h with hparked | hactive
  · refine .inl ?_
    unfold State.park
    split
    · exact hparked
    · have hp : s.get (.WTH_VCM_STATUS_PARKED k) = 1 := State.get_of_is rfl hparked
      simp [State.parkedSec, State.is, State.set_parked_keeps ((State.bridgeOff_parked j k).trans hp)]
  · exact .inr ((State.park_active j k).trans hactive)

theorem State.Unloaded.startRetract {k : Nat} (h : s.Unloaded k) (j : Nat) : (s.startRetract j).Unloaded k := by
  rcases h with hparked | hactive
  · refine .inl ?_
    unfold State.parkedSec State.is at *
    rwa [State.startRetract_parked]
  · exact .inr (State.startRetract_keeps_active j k hactive)

theorem State.Unloaded.unload {k : Nat} (h : s.Unloaded k) (stalls : Nat) (l : List Nat) : (s.unload stalls l).Unloaded k := by
  induction l generalizing s with
  | nil => exact h
  | cons j rest ih =>
    refine ih ?_
    split
    · exact h
    · split
      · exact h.park j
      · exact h.startRetract j

theorem State.unload_unloaded {k : Nat} {l : List Nat} (hk : k ∈ l) (stalls : Nat) : (s.unload stalls l).Unloaded k := by
  induction l generalizing s with
  | nil => exact absurd hk (List.not_mem_nil)
  | cons j rest ih =>
    rcases List.mem_cons.1 hk with rfl | hrest
    · refine State.Unloaded.unload ?_ stalls rest
      split
      next h => exact .inl h
      next =>
        split
        · exact State.park_unloaded k
        · exact .inr (State.startRetract_active k)
    · exact ih hrest

theorem State.Unloaded.sectionParked {k : Nat} (h : s.Unloaded k) (j : Nat) : (s.sectionParked j).Unloaded k :=
  h.of_get (State.sectionParked_get (apart_mod (n := 4) _ (by decide) (by simp) (by decide +kernel) k))
    (State.sectionParked_get (apart_mod (n := 4) _ (by decide) (by simp) (by decide +kernel) k))

theorem State.holdSections_noStart {k : Nat} {l : List Nat} (hk : k ∈ l) : (s.holdSections l).mq.noStart.at k = true := by
  have hkeep (l : List Nat) (t : Tab Bool) (h : t.at k = true) : (l.foldl (fun t k => t.put k true) t).at k = true := by
    induction l generalizing t with
    | nil => exact h
    | cons j rest ih =>
      refine ih _ ?_
      by_cases hj : k = j
      · rw [hj, Tab.at_put_self]
      · rw [Tab.at_put_ne _ _ hj, h]
  change (l.foldl (fun t k => t.put k true) s.mq.noStart).at k = true
  generalize s.mq.noStart = t
  induction l generalizing t with
  | nil => exact absurd hk (List.not_mem_nil)
  | cons j rest ih =>
    rcases List.mem_cons.1 hk with rfl | hrest
    · exact hkeep rest _ (Tab.at_put_self _ _ _)
    · exact ih hrest _

/-! ### The four sections -/

/-- What Mire does when every section is to unload. -/
def State.unloadAll (s : State) (stalls : Nat) (l : List Nat) : State :=
  l.foldl (fun s k => s.sectionParked k) ((s.holdSections l).unload stalls l)

theorem State.foldl_sectionParked {P : State → Prop} (hP : ∀ t j, P t → P (t.sectionParked j)) (l : List Nat) (h : P s) :
    P (l.foldl (fun s k => s.sectionParked k) s) := by
  induction l generalizing s with
  | nil => exact h
  | cons j rest ih => exact ih (hP _ _ h)

theorem State.unloadAll_unloaded {k : Nat} {l : List Nat} (hk : k ∈ l) (stalls : Nat) : (s.unloadAll stalls l).Unloaded k :=
  State.foldl_sectionParked (P := fun t => t.Unloaded k) (fun _ j h => h.sectionParked j) l (State.unload_unloaded hk stalls)

theorem State.unloadAll_noStart {k : Nat} {l : List Nat} (hk : k ∈ l) (stalls : Nat) : (s.unloadAll stalls l).mq.noStart.at k = true := by
  have hpast : PastTable (fun m : MediaQueues => m.noStart.at k) := fun _ _ _ _ => rfl
  refine State.foldl_sectionParked (P := fun t => t.mq.noStart.at k = true) (fun _ j h => (hpast.sectionParked j).trans h) l ?_
  rw [State.unload_mq]
  exact State.holdSections_noStart hk

/-- The registers that a section's parking writes. -/
def parkRegs : List Regs := alarmRegs ++ haltRegs ++ ([.arr (.MWQ_STATUS_BLOCKED 0) 0x20 16, .arr (.MWQ_STATUS_OUTST 0) 0x20 16,
  .arr (.MWC_PI_PASS 0) 0x20 4, .arr (.MWC_PI_PI 0) 0x20 4, .arr (.MWC_STATUS_SCAN_STOP 0) 0x20 4, .arr (.MWC_STATUS_SPILL_CNT 0) 0x20 4,
  .fld .MWQ_SYS_STATUS_FLUSH, .fld .MWQ_SYS_STATUS_CAL, .fld .SLU_STATUS_LED_FREE, .arr (.SLU_SEC_FREE_FREE 0) 0x4 4,
  .arr (.SLU_SEC_RUN_RUN 0) 0x4 4, .arr (.SLU_CRED_USED_USED 0) 0x4 32] : List Regs)

/-- The registers that an unload writes. -/
def unloadRegs : List Regs := [.fld .SDG_WF_STATUS_CAUSE_SEEN, .arr (.SDG_WR_STATUS_WG 0) 0x400 8, .arr (.SDG_WR_STATUS_CAUSE 0) 0x400 8,
  .arr (.SDG_WR_STATUS_DROPS 0) 0x400 8, .arr (.SDG_WR_DROP_MANG 0) 0x400 8, .arr (.WTH_VCM_CTRL_EN 0) 0x4 4,
  .arr (.WTH_VCM_STATUS_RET_ACTIVE 0) 0x4 4, .arr (.WTH_VCM_STATUS_PARKED 0) 0x4 4, .arr (.WTH_VCM_STATUS_ENABLED 0) 0x4 4,
  .arr (.WTH_MA_CTRL_HOLD 0) 0x4 8, .arr (.WTH_MA_STATUS_VOUT 0) 0x4 8]

theorem State.unloadAll_get {g : Fld} {stalls : Nat} {l : List Nat} (hpark : parkRegs.all (fun r => r.apartB g) = true)
    (hun : unloadRegs.all (fun r => r.apartB g) = true) : (s.unloadAll stalls l).get g = s.get g :=
  State.foldl_sectionParked (P := fun t => t.get g = s.get g) (fun _ _ h => (State.sectionParked_get hpark).trans h) l
    ((State.unload_get hun).trans State.get_mk)

theorem State.unloadAll_tide (stalls : Nat) (l : List Nat) : (s.unloadAll stalls l).tide = s.tide :=
  State.foldl_sectionParked (P := fun t => t.tide = s.tide) (fun _ _ h => State.sectionParked_tide.trans h) l State.unload_tide

theorem State.unloadAll_latched {code inst : Nat} (stalls : Nat) (l : List Nat) (h : s.latched code inst = true) :
    (s.unloadAll stalls l).latched code inst = true := by
  have hP := keptByRaise_latched code inst
  refine State.foldl_sectionParked (P := fun t => t.latched code inst = true) (fun _ j ht => hP.sectionParked j ht) l ?_
  rw [State.latched_of_lev State.unload_lev]
  exact h

end Sys2Proof.Machine
end

section
set_option Elab.async false
/-! TIDE ACQUIRES THE DISK (02). The gates of the clocks (R33), acquisition and its failures (R40, R41),
  and what an index mark does in each state
(R37, R45). -/

namespace Sys2Proof.Machine

variable {s : State}

/-! ### A change of Tide's state -/

@[simp] theorem State.tideTo_state (x : Nat) : (s.tideTo x).get .TIDE_STATUS_STATE = x % 2 ^ 3 := by
  unfold State.tideTo
  dsimp only
  split
  · simp (disch := decide) [State.setIf, State.get_set_self, State.get_set_other]
  · refine (State.when_get ?_).trans ?_
    · exact State.timingDrop_get (by decide +kernel)
    simp (disch := decide) [State.setIf, State.get_set_self, State.get_set_other]

/-- In LOCKED and HOLDOVER the counts of the acquisition start again. -/
theorem State.tideTo_tide_of_locked {x : Nat} (h : x = 3 ∨ x = 4) :
    (s.tideTo x).tide = { s.tide with holdRevs := 0, reacquiring := false, acqFails := 0 } := by
  rcases h with rfl | rfl
  all_goals simp (disch := decide) [State.tideTo, State.tideLocked, State.setIf, State.get_set_self, State.get_set_other]

theorem State.tideTo_tide_of_unlocked {x : Nat} (hx : x % 8 ≠ 3) (hx' : x % 8 ≠ 4) : (s.tideTo x).tide = s.tide := by
  have hout : ((s.set .TIDE_STATUS_STATE x).setIf .WTH_SPN_MEAS_TRACK (s.set .TIDE_STATUS_STATE x).tideLocked).tideLocked = false := by
    simp (disch := decide) [State.tideLocked, State.setIf, State.get_set_self, State.get_set_other, hx, hx']
  unfold State.tideTo
  simp only [hout, Bool.false_eq_true, if_false]
  exact State.when_keeps (fun t => t.tide) State.timingDrop_tide

theorem State.tideTo_lev_of_unlocked (x : Nat) : (s.tideTo x).lev = s.lev := State.tideTo_lev

/-! ### The timing heads -/

theorem State.headIs_low (ok : Bool) : (s.headIs 0 ok).get .TIDE_STATUS_T0_OK = ok.toNat := by
  unfold State.headIs
  refine (State.when_get ?_).trans ?_
  · exact State.raise_get (by decide +kernel)
  cases ok <;> simp (disch := decide) [headOk, State.setIf, State.get_set_self]

theorem State.headIs_high (ok : Bool) : (s.headIs 1 ok).get .TIDE_STATUS_T1_OK = ok.toNat := by
  unfold State.headIs
  refine (State.when_get ?_).trans ?_
  · exact State.raise_get (by decide +kernel)
  cases ok <;> simp (disch := decide) [headOk, State.setIf, State.get_set_self]

theorem State.headIs_high_low (ok : Bool) : (s.headIs 1 ok).get .TIDE_STATUS_T0_OK = s.get .TIDE_STATUS_T0_OK := by
  unfold State.headIs
  refine (State.when_get ?_).trans ?_
  · exact State.raise_get (by decide +kernel)
  simp (disch := decide) [headOk, State.setIf, State.get_set_other]

/-! ### The master angle and the cell period -/

/-- The master angle is a register. -/
def mangFld : Fld := ⟨0x4E00_0000, 0, 32⟩

theorem State.mang_toNat : s.mang.toNat = s.get mangFld := by
  unfold State.mang State.get mangFld
  simp only [BitVec.ushiftRight_zero]
  exact (Nat.mod_eq_of_lt (BitVec.isLt _)).symm

theorem State.mang_of_get {t : State} (h : t.get mangFld = s.get mangFld) : t.mang = s.mang := by
  apply BitVec.eq_of_toNat_eq
  rw [State.mang_toNat, State.mang_toNat, h]

theorem State.indexAngle_congr {t : State} (ok : Bool) (h : t.get .TIDE_T1_OFS_OFS = s.get .TIDE_T1_OFS_OFS) :
    t.indexAngle ok = s.indexAngle ok := by
  unfold State.indexAngle
  rw [h]

theorem State.setPeriod_period (p : Nat) : (s.setPeriod p).get .TIDE_CELL_PERIOD_PERIOD = p % 2 ^ 32 := by
  unfold State.setPeriod
  rw [State.rescale_get,
    State.forN_keeps (fun t => t.get .TIDE_CELL_PERIOD_PERIOD) (fun _ _ => State.judgeRate_get (by decide +kernel)),
    State.get_set_self _ _ _ (by decide)]

theorem State.atMang_get {g : Fld} (m : Word) (h : g.addr ≠ 0x4E00_0000) : (s.atMang m).get g = s.get g := by
  unfold State.get State.atMang
  rw [State.regAt_putReg_ne _ _ h]

theorem State.stepMang_mang (m : Word) : (s.stepMang m).mang = m := by
  unfold State.stepMang
  rw [State.mang_of_get (State.timingDrop_get (by decide +kernel))]
  have hinc (t : State) : (t.inc .TIDE_STATUS_EPOCH).mang = t.mang := State.regAt_set_ne _ _ (by decide)
  rw [hinc]
  exact State.regAt_putReg_self _ _ _

theorem State.stepMang_epoch (m : Word) : (s.stepMang m).get .TIDE_STATUS_EPOCH = (s.get .TIDE_STATUS_EPOCH + 1) % 256 := by
  unfold State.stepMang
  rw [State.timingDrop_get (by decide +kernel), State.inc, State.get_set_self _ _ _ (by decide), State.atMang_get _ (by decide)]
  rfl

theorem State.correctMang_reacquiring (now m : Word) : (s.correctMang now m).tide.reacquiring = s.tide.reacquiring := by
  unfold State.correctMang
  dsimp only
  split
  · rfl
  · unfold State.stepMang
    rw [State.timingDrop_tide]
    rfl

/-! ### Acquisition -/

theorem State.acquire_state : s.acquire.get .TIDE_STATUS_STATE = 1 := by
  unfold State.acquire
  rw [State.get_mk]
  refine (State.when_get ?_).trans (State.tideTo_state 1)
  exact State.get_set_other _ _ (by decide)

@[simp] theorem State.acquire_frontEnds : s.acquire.tide.frontEnds = true := rfl

@[simp] theorem State.acquire_acqFails : s.acquire.tide.acqFails = 0 := rfl

theorem State.tideTo_down {k x : Nat} (h : (s.seq k).wg = false) : ((s.tideTo x).seq k).wg = false := by
  unfold State.tideTo
  dsimp only
  split
  · exact h
  · exact State.when_down (State.timingDrop_down 5 false) h

theorem State.acquire_down {k : Nat} (h : (s.seq k).wg = false) : (s.acquire.seq k).wg = false :=
  State.when_down (f := fun s => s.set .MBX_START_STEP 8) (fun hd => hd) (State.tideTo_down h)

/-! ### The commands -/

/-- An index mark in ACQUIRE with a good head sets the angle and goes on to QUALIFY (R40). -/
def State.markAcquired (s : State) (t0 t1 : Head) (period : Nat) : State :=
  let u := (s.headIs 0 (s.headGood 0 t0)).headIs 1 (s.headGood 1 t1)
  ((u.stepMang (u.indexAngle (s.headGood 0 t0))).setPeriod period).tideTo 2

theorem exec_indexMark_of_acquiring {mang : Word} {t0 t1 : Head} {period : Nat} (hroot : s.get .TIDE_STATUS_ROOT_LOCK = 1)
    (hstate : s.get .TIDE_STATUS_STATE = 1) (hfails : s.tide.acqFails < 3) (hgood : (s.headGood 0 t0 || s.headGood 1 t1) = true) :
    exec (.indexMark mang t0 t1 period) s = .next (s.markAcquired t0 t1 period) := by
  change execIndexMark mang t0 t1 period s = _
  simp [execIndexMark, State.is, State.markAcquired, hroot, hstate, hfails, hgood]

/-- In QUALIFY a mark that counts locks, on both heads or on one (R40, R45). -/
def State.markQualified (s : State) (mang : Word) (t0 t1 : Head) (period : Nat) : State :=
  let u := (s.qualify 0 (s.headCounted 0 t0)).qualify 1 (s.headCounted 1 t1)
  ((u.correctMang mang (u.indexAngle (s.headCounted 0 t0))).setPeriod period).tideTo
    (if s.headCounted 0 t0 && s.headCounted 1 t1 then 3 else 4)

theorem State.qualify_get (h : Nat) (ok : Bool) (g : Fld) : (s.qualify h ok).get g = (s.headIs h ok).get g := by
  unfold State.qualify
  dsimp only
  split <;> rfl

theorem exec_indexMark_of_qualified {mang : Word} {t0 t1 : Head} {period : Nat} (hroot : s.get .TIDE_STATUS_ROOT_LOCK = 1)
    (hstate : s.get .TIDE_STATUS_STATE = 2) (hcount : (s.headCounted 0 t0 || s.headCounted 1 t1) = true) :
    exec (.indexMark mang t0 t1 period) s = .next (s.markQualified mang t0 t1 period) := by
  change execIndexMark mang t0 t1 period s = _
  simp [execIndexMark, State.is, State.markQualified, hroot, hstate, hcount]

/-- In QUALIFY a mark that neither head counts stops the heads, and a re-acquisition with them (R41). -/
def State.markUncounted (s : State) : State :=
  ((s.headIs 0 false).headIs 1 false).when s.tide.reacquiring (fun s => s.tideTo 5)

theorem State.markUncounted_low : s.markUncounted.get .TIDE_STATUS_T0_OK = 0 := by
  refine (State.when_get ?_).trans ?_
  · exact State.tideTo_get (by decide +kernel)
  · rw [State.headIs_high_low, State.headIs_low, Bool.toNat_false]

theorem State.markUncounted_high : s.markUncounted.get .TIDE_STATUS_T1_OK = 0 := by
  refine (State.when_get ?_).trans ?_
  · exact State.tideTo_get (by decide +kernel)
  · rw [State.headIs_high, Bool.toNat_false]

theorem State.markUncounted_state (h : s.get .TIDE_STATUS_STATE = 2) :
    s.markUncounted.get .TIDE_STATUS_STATE = if s.tide.reacquiring = true then 5 else 2 := by
  unfold State.markUncounted State.when
  split
  · exact State.tideTo_state 5
  · rw [State.headIs_get (by decide +kernel), State.headIs_get (by decide +kernel), h]

theorem exec_indexMark_of_uncounted {mang : Word} {t0 t1 : Head} {period : Nat} (hroot : s.get .TIDE_STATUS_ROOT_LOCK = 1)
    (hstate : s.get .TIDE_STATUS_STATE = 2) (hcount : (s.headCounted 0 t0 || s.headCounted 1 t1) = false) :
    exec (.indexMark mang t0 t1 period) s = .next s.markUncounted := by
  change execIndexMark mang t0 t1 period s = _
  simp [execIndexMark, State.is, State.markUncounted, State.headIs_tide, hroot, hstate, hcount]

theorem exec_indexMark_of_holding {mang : Word} {t0 t1 : Head} {period : Nat} (hroot : s.get .TIDE_STATUS_ROOT_LOCK = 1)
    (hstate : s.get .TIDE_STATUS_STATE = 5) (hre : s.get .TIDE_CTRL_REACQ_EN = 1)
    (hgood : (s.headGood 0 t0 || s.headGood 1 t1) = true) : exec (.indexMark mang t0 t1 period) s =
      .next (({ s with tide := { s.tide with reacquiring := true } }.correctMang mang (s.indexAngle (s.headGood 0 t0))).tideTo 2) := by
  change execIndexMark mang t0 t1 period s = _
  simp [execIndexMark, State.is, State.indexAngle, hroot, hstate, hre, hgood]

/-- In LOCKED and HOLDOVER a mark that both heads count corrects the angle and the period (R37). -/
def State.markLocked (s : State) (mang : Word) (period : Nat) : State :=
  (((s.correctMang mang (s.indexAngle true)).setPeriod period).set .TIDE_STATUS_T0_OK 1).set .TIDE_STATUS_T1_OK 1

theorem State.markLocked_tideLocked (mang : Word) (period : Nat) : (s.markLocked mang period).tideLocked = s.tideLocked := by
  unfold State.tideLocked State.markLocked
  simp (disch := decide +kernel) only [State.get_set_other, State.setPeriod_get, State.correctMang_get]

theorem State.headCounted_cells {h : Nat} {x : Head} (hc : s.headCounted h x = true) : x.cells = 1048576 := by
  simpa using (Bool.and_eq_true_iff.1 hc).2

/-- A head that did not miss its count is not lost. -/
theorem State.dropMiscount_of_counted {h : Nat} {x : Head} (hc : x.cells = 1048576) : s.dropMiscount h x = s := by
  simp [State.dropMiscount, hc]

/-- After an index mark the speed of the revolution is judged, in RUN (R65). -/
def State.spinRevolution (s : State) (period : Nat) : State :=
  s.when (s.get .WTH_SPN_STATUS_STATE == 5) (fun s => s.revolution (cellSpeed period))

theorem State.spinRevolution_get {g : Fld} {period : Nat}
    (h : ([.fld .WTH_SPN_STATUS_AT_SPEED] : List Regs).all (fun r => r.apartB g) = true) :
    (s.spinRevolution period).get g = s.get g :=
  State.when_get (State.revolution_get h)

theorem State.markLocked_low (mang : Word) (period : Nat) : (s.markLocked mang period).get .TIDE_STATUS_T0_OK = 1 := by
  simp (disch := decide) [State.markLocked, State.get_set_self, State.get_set_other]

theorem State.markLocked_high (mang : Word) (period : Nat) : (s.markLocked mang period).get .TIDE_STATUS_T1_OK = 1 := by
  simp (disch := decide) [State.markLocked, State.get_set_self]

theorem State.markLocked_period (mang : Word) (period : Nat) :
    (s.markLocked mang period).get .TIDE_CELL_PERIOD_PERIOD = period % 2 ^ 32 := by
  simp (disch := decide) [State.markLocked, State.get_set_other, State.setPeriod_period]

theorem exec_indexMark_of_locked {mang : Word} {t0 t1 : Head} {period : Nat} (hroot : s.get .TIDE_STATUS_ROOT_LOCK = 1)
    (hlock : s.tideLocked = true) (hcount : (s.headCounted 0 t0 && s.headCounted 1 t1) = true) :
    exec (.indexMark mang t0 t1 period) s = .next (((s.markLocked mang period).tideTo 3).spinRevolution period) := by
  obtain ⟨hc0, hc1⟩ := Bool.and_eq_true_iff.1 hcount
  have hlock' : ((s.markLocked mang period).is .TIDE_STATUS_T0_OK && (s.markLocked mang period).is .TIDE_STATUS_T1_OK &&
      (s.markLocked mang period).tideLocked) = true := by
    rw [State.markLocked_tideLocked, hlock, State.is, State.is, State.markLocked_low, State.markLocked_high]
    rfl
  have hstate : s.get .TIDE_STATUS_STATE = 3 ∨ s.get .TIDE_STATUS_STATE = 4 := by simpa [State.tideLocked] using hlock
  have hroot' : s.is .TIDE_STATUS_ROOT_LOCK = true := by rw [State.is, hroot]; rfl
  have hlast : ((s.markLocked mang period).when ((s.markLocked mang period).is .TIDE_STATUS_T0_OK &&
      (s.markLocked mang period).is .TIDE_STATUS_T1_OK && (s.markLocked mang period).tideLocked) (fun s => s.tideTo 3)).spinRevolution period =
      ((s.markLocked mang period).tideTo 3).spinRevolution period := by
    rw [hlock']
    rfl
  rw [← hlast]
  change execIndexMark mang t0 t1 period s = _
  unfold execIndexMark
  rcases hstate with hstate | hstate
  all_goals
    simp only [hroot', hc0, hc1, hstate, Bool.not_true, Bool.false_eq_true, if_false, Bool.and_self,
      State.dropMiscount_of_counted (State.headCounted_cells hc0), State.dropMiscount_of_counted (State.headCounted_cells hc1)]
    rfl

/-- A failed acquisition counts, and the third one since the start adds to those of the start sequence (R41, R481). -/
def State.countAcqFail (s : State) : State :=
  let s' := { s.tideTo 1 with tide := { (s.tideTo 1).tide with acqFails := min (s.tide.acqFails + 1) 3 } }
  s'.when (s.tide.acqFails + 1 == 3 && s.aq.starting) (fun s => { s with aq := { s.aq with acqFails := s.aq.acqFails + 1 } })

theorem State.countAcqFail_state : s.countAcqFail.get .TIDE_STATUS_STATE = 1 := by
  refine (State.when_get ?_).trans (State.tideTo_state 1)
  exact State.get_mk ..

theorem State.countAcqFail_acqFails : s.countAcqFail.tide.acqFails = min (s.tide.acqFails + 1) 3 :=
  State.when_keeps (fun t => t.tide.acqFails) rfl

theorem State.countAcqFail_lev : s.countAcqFail.lev = s.lev :=
  (State.when_keeps (fun t => t.lev) rfl).trans State.tideTo_lev

theorem exec_tideAcqFail_of_acquiring (h : s.get .TIDE_STATUS_STATE = 1 ∨ (s.get .TIDE_STATUS_STATE = 2 ∧ s.tide.reacquiring = false)) :
    exec .tideAcqFail s = .next (s.countAcqFail.when (s.tide.acqFails + 1 == 3) (fun s => s.raise 0x0302)) := by
  change execTideAcqFail s = _
  simp [execTideAcqFail, State.countAcqFail, h]

/-- Settles O10: an index mark is one case on Tide's state, and each case a change of the heads, the angle and the period before `tideTo`. -/
theorem tideAcquiresTheDisk : Obligations.TideAcquiresTheDisk := by
  unfold Obligations.TideAcquiresTheDisk
  refine ⟨fun s => ?_, fun s hroot => ?_, fun s i value hi => ?_, fun s value => ?_, fun s hidle => ?_, fun s hbusy => ?_,
    fun s mang t0 t1 period hroot hstate hfails hgood => ?_, fun s mang t0 t1 period hroot hstate hcount => ?_,
    fun s mang t0 t1 period hroot hstate hcount => ?_, fun s mang t0 t1 period hroot hstate hre hgood => ?_,
    fun s mang t0 t1 period hroot hlock hcount => ?_, fun s mang t0 t1 period hroot => ?_, fun s hstate => ?_⟩
  · refine completes_of_frame (execRootLock_frame (fun _ hr => hr)) ?_
    simp (disch := decide) [Completes, exec, execRootLock, State.get_set_self]
  · refine completes_of_frame (execTideRootUnlock_frame (parts_in rfl) (fun _ hr => hr)) ?_
    refine ⟨((s.set .TIDE_STATUS_ROOT_LOCK 0).timingDrop 6 false).acquire.raise 0x0301, ?_, ?_, ?_, ?_, ?_, fun n hn => ?_⟩
    · change execTideRootUnlock s = _
      simp [execTideRootUnlock, State.is, hroot]
    · simp (disch := decide +kernel) [State.raise_get, State.acquire_get, State.timingDrop_get, State.get_set_self]
    · rw [State.raise_get (by decide +kernel), State.acquire_state]
    · exact State.raise_latched_true (by decide +kernel)
    · rw [State.raise_tide, State.acquire_frontEnds]
    · exact State.raise_down _ _ _ (State.acquire_down (State.timingDrop_lowers hn 6 false))
  · refine completes_of_frame (execTideCgEn_frame (parts_in rfl) (fun _ hr => hr)) ?_
    refine ⟨_, rfl, ?_, rfl⟩
    rw [if_neg (by omega), State.get_set_self _ _ _ (by dsimp only; omega)]
    exact Nat.mod_eq_of_lt (BitVec.isLt _)
  · refine completes_of_frame (execTideCgEn_frame (parts_in rfl) (fun _ hr => hr)) ?_
    refine ⟨_, rfl, ?_, rfl⟩
    rw [if_pos rfl, State.get_set_self _ _ _ (by decide)]
    exact Nat.mod_eq_of_lt (BitVec.isLt _)
  · refine completes_of_frame (execAcqStart_frame (parts_in rfl) (fun _ hr => hr)) ?_
    simp [Completes, exec, execAcqStart, State.acquire_state, hidle]
  · refine completes_of_frame (execAcqStart_frame (parts_in rfl) (fun _ hr => hr)) ?_
    have hstay : (s.get .TIDE_STATUS_STATE == 0) = false := by simpa using hbusy
    simp [Completes, exec, execAcqStart, hstay]
  · refine completes_of_outFrame (execIndexMark_frame (parts_in rfl) (fun _ hr => hr)) (exec_indexMark_of_acquiring hroot hstate hfails hgood)
      (fun _ => ⟨State.tideTo_state 2, ?_, ?_, ?_, ?_, ?_⟩)
    all_goals unfold State.markAcquired; dsimp only
    · rw [State.tideTo_get (by decide +kernel), State.setPeriod_get (by decide +kernel), State.stepMang_get (by decide +kernel),
      State.headIs_high_low, State.headIs_low]
    · rw [State.tideTo_get (by decide +kernel), State.setPeriod_get (by decide +kernel), State.stepMang_get (by decide +kernel),
      State.headIs_high]
    · rw [State.mang_of_get (State.tideTo_get (by decide +kernel)), State.mang_of_get (State.setPeriod_get (by decide +kernel)),
      State.stepMang_mang, State.indexAngle_congr _ (State.headIs_get (by decide +kernel)),
      State.indexAngle_congr _ (State.headIs_get (by decide +kernel))]
    · rw [State.tideTo_get (by decide +kernel), State.setPeriod_get (by decide +kernel), State.stepMang_epoch,
      State.headIs_get (by decide +kernel), State.headIs_get (by decide +kernel)]
    · rw [State.tideTo_get (by decide +kernel), State.setPeriod_period]
  · have hx : (if (s.headCounted 0 t0 && s.headCounted 1 t1) = true then 3 else 4) = 3 ∨
        (if (s.headCounted 0 t0 && s.headCounted 1 t1) = true then 3 else 4) = 4 := by split <;> simp
    refine completes_of_outFrame (execIndexMark_frame (parts_in rfl) (fun _ hr => hr)) (exec_indexMark_of_qualified hroot hstate hcount)
      (fun _ => ⟨?_, ?_, ?_, ?_, ?_⟩)
    · refine (State.tideTo_state _).trans (Nat.mod_eq_of_lt ?_)
      omega
    all_goals unfold State.markQualified; dsimp only
    · rw [State.tideTo_get (by decide +kernel), State.setPeriod_get (by decide +kernel), State.correctMang_get (by decide +kernel),
      State.qualify_get, State.headIs_high_low, State.qualify_get, State.headIs_low]
    · rw [State.tideTo_get (by decide +kernel), State.setPeriod_get (by decide +kernel), State.correctMang_get (by decide +kernel),
      State.qualify_get, State.headIs_high]
    · rw [State.tideTo_get (by decide +kernel), State.setPeriod_period]
    · rw [State.tideTo_tide_of_locked hx]
  · refine completes_of_outFrame (execIndexMark_frame (parts_in rfl) (fun _ hr => hr)) (exec_indexMark_of_uncounted hroot hstate hcount)
      (fun _ => ⟨State.markUncounted_state hstate, State.markUncounted_low, State.markUncounted_high⟩)
  · refine completes_of_outFrame (execIndexMark_frame (parts_in rfl) (fun _ hr => hr)) (exec_indexMark_of_holding hroot hstate hre hgood)
      (fun _ => ⟨State.tideTo_state 2, ?_⟩)
    rw [State.tideTo_tide_of_unlocked (by decide) (by decide), State.correctMang_reacquiring]
  · refine completes_of_outFrame (execIndexMark_frame (parts_in rfl) (fun _ hr => hr)) (exec_indexMark_of_locked hroot hlock hcount)
      (fun _ => ⟨?_, ?_, ?_, ?_⟩)
    · exact (State.spinRevolution_get (by decide)).trans (State.tideTo_state 3)
    · rw [State.spinRevolution_get (by decide), State.tideTo_get (by decide +kernel), State.markLocked_low]
    · rw [State.spinRevolution_get (by decide), State.tideTo_get (by decide +kernel), State.markLocked_high]
    · rw [State.spinRevolution_get (by decide), State.tideTo_get (by decide +kernel), State.markLocked_period]
  · refine completes_of_frame (execIndexMark_frame (parts_in rfl) (fun _ hr => hr)) ?_
    simp [Completes, exec, execIndexMark, State.is, hroot]
  · refine completes_of_outFrame (execTideAcqFail_frame (parts_in rfl) (fun _ hr => hr)) (exec_tideAcqFail_of_acquiring hstate)
      (fun _ => ⟨?_, ?_, fun hlast => ?_, fun hmore => ?_⟩)
    · refine (State.when_get ?_).trans State.countAcqFail_state
      exact State.raise_get (by decide +kernel)
    · exact (State.when_keeps (fun t => t.tide.acqFails) (congrArg Tide.acqFails (State.raise_tide _ _ _))).trans State.countAcqFail_acqFails
    · rw [hlast]
      exact State.raise_latched_true (by decide +kernel)
    · have hk : (s.tide.acqFails + 1 == 3) = false := by simpa using hmore
      rw [hk]
      exact State.countAcqFail_lev

end Sys2Proof.Machine
end

section
set_option Elab.async false
/-! TIDE LOSES AND FOLLOWS (02). A head that fails its test, and timing that is lost with both (R45,
  R46); the operating time's low word (R51); the
enclosure's synchronisation (R48, R49, R50). -/

namespace Sys2Proof.Machine

variable {s : State}

/-! ### A head is lost -/

theorem headOk_cases (h : Nat) : headOk h = .TIDE_STATUS_T0_OK ∨ headOk h = .TIDE_STATUS_T1_OK := by
  unfold headOk
  split
  · exact .inl rfl
  · exact .inr rfl

theorem apart_headOk {R : List Regs} (h : Nat) (hlow : R.all (fun r => r.apartB .TIDE_STATUS_T0_OK) = true)
    (hhigh : R.all (fun r => r.apartB .TIDE_STATUS_T1_OK) = true) : R.all (fun r => r.apartB (headOk h)) = true := by
  rcases headOk_cases h with heq | heq
  all_goals rw [heq]; assumption

theorem headOk_width (h : Nat) : (headOk h).width = 1 := by
  rcases headOk_cases h with heq | heq
  all_goals rw [heq]

theorem State.raise_headOk (code inst detail h : Nat) : (s.raise code inst detail).get (headOk h) = s.get (headOk h) :=
  State.raise_get (apart_headOk h (by decide +kernel) (by decide +kernel))

theorem State.tideTo_headOk (x h : Nat) : (s.tideTo x).get (headOk h) = s.get (headOk h) :=
  State.tideTo_get (apart_headOk h (by decide +kernel) (by decide +kernel))

theorem State.set_headOk (h v : Nat) : (s.set (headOk h) v).get (headOk h) = v % 2 := by
  rcases headOk_cases h with heq | heq
  all_goals rw [heq]; exact State.get_set_self _ _ _ (by decide)

theorem State.set_headOk_other {h : Nat} (hh : h < 2) (v : Nat) : (s.set (headOk h) v).get (headOk (1 - h)) = s.get (headOk (1 - h)) := by
  obtain rfl | rfl : h = 0 ∨ h = 1 := by omega
  all_goals exact State.get_set_other _ _ (by decide)

theorem State.headIs_self (h : Nat) : (s.headIs h false).get (headOk h) = 0 := by
  refine (State.when_get ?_).trans ?_
  · exact State.raise_headOk _ _ _ h
  · exact State.set_headOk h 0

theorem State.headIs_other {h : Nat} (hh : h < 2) : (s.headIs h false).get (headOk (1 - h)) = s.get (headOk (1 - h)) := by
  refine (State.when_get ?_).trans ?_
  · exact State.raise_headOk _ _ _ _
  · exact State.set_headOk_other hh 0

theorem State.headIs_tideLocked (h : Nat) (ok : Bool) : (s.headIs h ok).tideLocked = s.tideLocked := by
  unfold State.tideLocked
  rw [State.headIs_get (by decide +kernel)]

/-- The loss of a head that was qualified is recorded (R45). -/
theorem State.headIs_latched {h : Nat} (hok : s.get (headOk h) = 1) (hq : s.tide.qualified.at h = true) :
    (s.headIs h false).latched 0x0303 h = true := by
  unfold State.headIs
  rw [State.is_of_get hok, hq]
  exact State.raise_latched_true (by decide +kernel)

/-- Where the other head is healthy, Tide goes on with it (R45). -/
theorem exec_tideHeadLost_of_single {test : HeadTest} {h : Nat} (htest : headsDropped test = [h]) (hh : h < 2)
    (hok : s.get (headOk h) = 1) (hother : s.get (headOk (1 - h)) = 1) (hlock : s.tideLocked = true) :
    exec (.tideHeadLost test) s = .next ((s.headIs h false).tideTo 4) := by
  change execTideHeadLost test s = _
  have hdrop : s.dropHead h = (s.headIs h false).tideTo 4 := by
    unfold State.dropHead
    dsimp only
    rw [State.headIs_tideLocked, hlock, State.is_of_get ((State.headIs_other hh).trans hother)]
    rfl
  unfold execTideHeadLost
  rw [htest, List.foldl_cons, List.foldl_nil, State.is_of_get hok, ← hdrop]
  rfl

/-- With no head left Tide holds over (R46). -/
theorem exec_tideHeadLost_of_last {test : HeadTest} {h : Nat} (htest : headsDropped test = [h]) (hh : h < 2)
    (hok : s.get (headOk h) = 1) (hother : s.get (headOk (1 - h)) = 0) (hlock : s.tideLocked = true) :
    exec (.tideHeadLost test) s = .next (((s.headIs h false).tideTo 5).raise 0x0304) := by
  change execTideHeadLost test s = _
  have hdrop : s.dropHead h = ((s.headIs h false).tideTo 5).raise 0x0304 := by
    unfold State.dropHead
    dsimp only
    rw [State.headIs_tideLocked, hlock, State.not_is_of_get ((State.headIs_other hh).trans hother)]
    rfl
  unfold execTideHeadLost
  rw [htest, List.foldl_cons, List.foldl_nil, State.is_of_get hok, ← hdrop]
  rfl

theorem exec_tideHeadLost_of_none {test : HeadTest} (htest : headsDropped test = []) : exec (.tideHeadLost test) s = .next s := by
  change execTideHeadLost test s = _
  unfold execTideHeadLost
  rw [htest, List.foldl_nil]

/-- What the loss of a head leaves where the other is healthy. -/
theorem single_holds {test : HeadTest} {h : Nat} (htest : headsDropped test = [h]) (hh : h < 2)
    (hok : s.get (headOk h) = 1) (hother : s.get (headOk (1 - h)) = 1) (hlock : s.tideLocked = true) :
    Completes (.tideHeadLost test) s (fun t => t.get .TIDE_STATUS_STATE = 4 ∧ t.get (headOk h) = 0 ∧ t.get (headOk (1 - h)) = 1 ∧
      (s.tide.qualified.at h = true → t.latched 0x0303 h = true)) := by
  refine ⟨_, exec_tideHeadLost_of_single htest hh hok hother hlock, State.tideTo_state 4, ?_, ?_, fun hq => ?_⟩
  · rw [State.tideTo_headOk, State.headIs_self]
  · rw [State.tideTo_headOk, State.headIs_other hh, hother]
  · rw [State.latched_of_lev State.tideTo_lev, State.headIs_latched hok hq]

theorem last_holds {test : HeadTest} {h : Nat} (htest : headsDropped test = [h]) (hh : h < 2)
    (hok : s.get (headOk h) = 1) (hother : s.get (headOk (1 - h)) = 0) (hlock : s.tideLocked = true) :
    Completes (.tideHeadLost test) s (fun t => t.get .TIDE_STATUS_STATE = 5 ∧ t.get (headOk h) = 0 ∧ t.latched 0x0304 0 = true ∧
      (s.tide.qualified.at h = true → t.latched 0x0303 h = true)) := by
  refine ⟨_, exec_tideHeadLost_of_last htest hh hok hother hlock, ?_, ?_, State.raise_latched_true (by decide +kernel), fun hq => ?_⟩
  · exact (State.raise_get (by decide +kernel)).trans (State.tideTo_state 5)
  · rw [State.raise_headOk, State.tideTo_headOk, State.headIs_self]
  · refine (keptByRaise_latched 0x0303 h).raise _ _ (by decide +kernel) ?_
    rw [State.latched_of_lev State.tideTo_lev, State.headIs_latched hok hq]

/-! ### Timing is lost -/

theorem State.tideFree_state : s.tideFree.get .TIDE_STATUS_STATE = 0 := by
  unfold State.tideFree
  split
  · assumption
  · rw [State.get_set_other _ _ (by decide)]
    exact State.get_mk.trans (State.tideTo_state 0)

theorem State.tideFree_period (h : s.get .TIDE_STATUS_STATE ≠ 0) : s.tideFree.get .TIDE_CELL_PERIOD_PERIOD = 0 := by
  unfold State.tideFree
  rw [if_neg h]
  exact State.get_set_self _ _ _ (by decide)

theorem State.tideFree_qualified (h : s.get .TIDE_STATUS_STATE ≠ 0) : s.tideFree.tide.qualified = [] := by
  unfold State.tideFree
  rw [if_neg h]
  rfl

/-- What Mire does when timing is lost. -/
def State.timingLost (s : State) (stalls : Nat) : State :=
  (s.tideFree.raise 0x0305).when s.mireActs (fun s => s.unloadAll stalls (List.range 4))

theorem State.timingLost_get {g : Fld} {stalls : Nat} (hpark : parkRegs.all (fun r => r.apartB g) = true)
    (hun : unloadRegs.all (fun r => r.apartB g) = true) (hraise : (alarmRegs ++ haltRegs).all (fun r => r.apartB g) = true) :
    (s.timingLost stalls).get g = s.tideFree.get g := by
  refine (State.when_get ?_).trans ?_
  · exact State.unloadAll_get hpark hun
  · exact State.raise_get hraise

theorem State.timingLost_tide (stalls : Nat) : (s.timingLost stalls).tide = s.tideFree.tide := by
  refine (State.when_keeps (fun t => t.tide) ?_).trans (State.raise_tide _ _ _)
  exact State.unloadAll_tide _ _

theorem State.timingLost_latched (stalls : Nat) : (s.timingLost stalls).latched 0x0305 0 = true := by
  have hraised : (s.tideFree.raise 0x0305).latched 0x0305 0 = true := State.raise_latched_true (by decide +kernel)
  refine (keptByRaise_latched 0x0305 0).when ?_ hraised
  exact State.unloadAll_latched _ _ hraised

theorem State.timingLost_unloads {stalls k : Nat} (hacts : s.mireActs = true) (hk : k < 4) :
    (s.timingLost stalls).mq.noStart.at k = true ∧ (s.timingLost stalls).Unloaded k := by
  have hmem : k ∈ List.range 4 := List.mem_range.2 hk
  have hlost : s.timingLost stalls = (s.tideFree.raise 0x0305).unloadAll stalls (List.range 4) := by
    rw [State.timingLost, hacts]
    rfl
  rw [hlost]
  exact ⟨State.unloadAll_noStart hmem _, State.unloadAll_unloaded hmem _⟩

/-- Timing that is lost ends in FREE, and Mire unloads the heads (R46). -/
theorem exec_tideTimingLost_of_holdover {stalls : Nat} (hstate : s.get .TIDE_STATUS_STATE = 5)
    (hlost : 64 ≤ s.tide.holdRevs ∨ ∀ k < 4, s.trackFollowing k = false) : exec (.tideTimingLost stalls) s =
      .next (s.timingLost stalls) := by
  have hcond : (s.get .TIDE_STATUS_STATE == 5 &&
      (decide (64 ≤ s.tide.holdRevs) || (List.range 4).all (fun k => !s.trackFollowing k))) = true := by
    rw [hstate]
    simpa using hlost
  change execTideTimingLost stalls s = _
  unfold execTideTimingLost
  rw [hcond]
  rfl

/-! ### The enclosure's synchronisation -/

theorem State.atMang_mang (m : Word) : (s.atMang m).mang = m := State.regAt_putReg_self _ _ _

/-- The output falls a sixteenth of a revolution after its rise, and half-way through one that crosses the index (R48). -/
theorem encSyncOutFall_holds {mang : Word} (hon : s.domainOn 101 = true)
    (hdue : (if mang.toNat < 0x0400_0000 then mang == 0x0200_0000 else mang.toNat % 0x0400_0000 == 0x0100_0000) = true) :
    Completes (.encSyncOutFall mang) s (fun t => t.tide.encOut = false ∧ t.mang = mang) := by
  refine ⟨_, rfl, ?_, ?_⟩
  · rw [hdue, State.domainOn, State.atMang_get _ (by decide), ← State.domainOn, hon]
    rfl
  · exact (State.when_keeps (fun t => t.mang) (State.mang_of_get State.get_mk)).trans (State.atMang_mang mang)

theorem State.esiPhase_periods (m : Word) : (s.esiPhase m).tide.esiPeriods = s.tide.esiPeriods := by
  unfold State.esiPhase
  extract_lets e k tide s1
  have h1 : s1.tide.esiPeriods = s.tide.esiPeriods := rfl
  clear_value s1
  split
  · exact h1
  · exact (State.when_keeps (fun t => t.tide.esiPeriods) (congrArg Tide.esiPeriods (State.set_tide ..))).trans h1

theorem State.esiPhase_bad (m : Word) : (s.esiPhase m).tide.esiBad = s.tide.esiBad := by
  unfold State.esiPhase
  extract_lets e k tide s1
  have h1 : s1.tide.esiBad = s.tide.esiBad := rfl
  clear_value s1
  split
  · exact h1
  · exact (State.when_keeps (fun t => t.tide.esiBad) (congrArg Tide.esiBad (State.set_tide ..))).trans h1

/-- Synchronisation that was valid is lost (R49). -/
theorem State.esiLost_of_valid (h : s.get .TIDE_STATUS_ESI_VALID = 1) : s.esiLost =
    ({ s with tide := { s.tide with esiPeriods := [], esiBad := 0, phaseOff := 0, phaseGood := 0 } }.set .TIDE_STATUS_ESI_VALID 0).raise
      0x0308 := by
  unfold State.esiLost
  dsimp only
  rw [State.is, State.get_mk, h]
  rfl

theorem State.esiLost_valid (h : s.get .TIDE_STATUS_ESI_VALID = 1) : s.esiLost.get .TIDE_STATUS_ESI_VALID = 0 := by
  rw [State.esiLost_of_valid h, State.raise_get (by decide +kernel)]
  exact State.get_set_self _ _ _ (by decide)

theorem State.esiLost_tide (h : s.get .TIDE_STATUS_ESI_VALID = 1) :
    s.esiLost.tide = { s.tide with esiPeriods := [], esiBad := 0, phaseOff := 0, phaseGood := 0 } := by
  rw [State.esiLost_of_valid h, State.raise_tide]
  rfl

theorem State.esiLost_latched (h : s.get .TIDE_STATUS_ESI_VALID = 1) : s.esiLost.latched 0x0308 0 = true := by
  rw [State.esiLost_of_valid h]
  exact State.raise_latched_true (by decide +kernel)

/-- A good edge adds its period, and the mean is shown (R49). -/
def State.esiFollow (s : State) (period : Nat) : State :=
  let l := (period :: s.tide.esiPeriods).take 64
  ({ s with tide := { s.tide with esiPeriods := l, esiBad := 0 } }.set .TIDE_ESI_PERIOD_PERIOD (l.sum / l.length)).retarget

/-- An input that the phase follows: enabled, and high for more than three eighths of the period (R50). -/
def State.esiSteers (s : State) (period high : Nat) : Bool :=
  let l := (period :: s.tide.esiPeriods).take 64
  (s.esiFollow period).is .TIDE_CTRL_ESI_PHASE_EN && decide (3 * l.sum < 8 * (l.length * high))

theorem exec_encSyncInEdge_of_good {mang : Word} {period high : Nat} (hon : s.domainOn 101 = true) (hen : s.get .TIDE_CTRL_ESI_EN = 1)
    (hvalid : s.get .TIDE_STATUS_ESI_VALID = 1) (hgood : esiGood s.tide.esiPeriods period = true) :
    exec (.encSyncInEdge mang period high) s =
      .next ((s.esiFollow period).when (s.esiSteers period high) (fun s => s.esiPhase mang)) := by
  change execEncSyncInEdge mang period high s = _
  unfold execEncSyncInEdge
  simp only [State.is_of_get hen, hon, Bool.not_true, Bool.or_self, Bool.false_eq_true, if_false, hgood, if_true]
  rw [if_pos (by rw [State.is, State.get_mk, hvalid]; rfl), if_neg (by decide)]
  rfl

theorem State.esiFollow_tide (period : Nat) : (s.esiFollow period).tide =
    { s.tide with esiPeriods := (period :: s.tide.esiPeriods).take 64, esiBad := 0 } := State.retarget_tide

theorem State.esiFollow_valid {period : Nat} : (s.esiFollow period).get .TIDE_STATUS_ESI_VALID = s.get .TIDE_STATUS_ESI_VALID := by
  unfold State.esiFollow
  rw [State.retarget_get (by decide), State.get_set_other _ _ (by decide), State.get_mk]

theorem State.esiFollow_period (period : Nat) : (s.esiFollow period).get .TIDE_ESI_PERIOD_PERIOD =
    ((period :: s.tide.esiPeriods).take 64).sum / ((period :: s.tide.esiPeriods).take 64).length % 2 ^ 28 := by
  unfold State.esiFollow
  rw [State.retarget_get (by decide)]
  exact State.get_set_self _ _ _ (by decide)

theorem exec_encSyncInEdge_of_third_bad {mang : Word} {period high : Nat} (hon : s.domainOn 101 = true) (hen : s.get .TIDE_CTRL_ESI_EN = 1)
    (hvalid : s.get .TIDE_STATUS_ESI_VALID = 1) (hbad : s.tide.esiBad = 2) (hgood : esiGood s.tide.esiPeriods period = false) :
    exec (.encSyncInEdge mang period high) s =
      .next { s with tide := { s.tide with esiPeriods := (period :: s.tide.esiPeriods).take 64, esiBad := 3 } }.esiLost := by
  change execEncSyncInEdge mang period high s = _
  unfold execEncSyncInEdge
  simp only [State.is_of_get hen, hon, Bool.not_true, Bool.or_self, Bool.false_eq_true, if_false, hgood, hbad]
  rw [if_pos (by rw [State.is, State.get_mk, hvalid]; rfl)]
  exact if_pos trivial

/-- Eight good periods make the input valid (R49). -/
def State.esiAccept (s : State) (w : List Nat) : State :=
  let s := ({ s with tide := { s.tide with esiPeriods := w, esiBad := 0 } }.set .TIDE_STATUS_ESI_VALID 1).set
    .TIDE_ESI_PERIOD_PERIOD (w.sum / 8)
  if s.is .WTH_SPN_CTRL_SRC then { s with withy := { s.withy with esiOnce := true } } else s

theorem State.esiAccept_valid (w : List Nat) : (s.esiAccept w).get .TIDE_STATUS_ESI_VALID = 1 := by
  unfold State.esiAccept
  dsimp only
  split
  · rw [State.get_mk, State.get_set_other _ _ (by decide)]
    exact State.get_set_self _ _ _ (by decide)
  · rw [State.get_set_other _ _ (by decide)]
    exact State.get_set_self _ _ _ (by decide)

theorem State.esiAccept_period (w : List Nat) : (s.esiAccept w).get .TIDE_ESI_PERIOD_PERIOD = w.sum / 8 % 2 ^ 28 := by
  unfold State.esiAccept
  dsimp only
  split
  · rw [State.get_mk]
    exact State.get_set_self _ _ _ (by decide)
  · exact State.get_set_self _ _ _ (by decide)

theorem exec_encSyncInEdge_of_eighth {mang : Word} {period high : Nat} (hon : s.domainOn 101 = true) (hen : s.get .TIDE_CTRL_ESI_EN = 1)
    (hvalid : s.get .TIDE_STATUS_ESI_VALID = 0) (hlen : 7 ≤ s.tide.esiPeriods.length)
    (hgood : ((period :: s.tide.esiPeriods).take 8).all (esiGood ((period :: s.tide.esiPeriods).take 8)) = true) :
    exec (.encSyncInEdge mang period high) s = .next (s.esiAccept ((period :: s.tide.esiPeriods).take 8)).retarget := by
  have htake : ((period :: s.tide.esiPeriods).take 64).take 8 = (period :: s.tide.esiPeriods).take 8 := by
    rw [List.take_take]
    rfl
  have hw : ((period :: s.tide.esiPeriods).take 8).length = 8 := by
    rw [List.length_take, List.length_cons]
    omega
  change execEncSyncInEdge mang period high s = _
  unfold execEncSyncInEdge
  simp only [State.is_of_get hen, hon, Bool.not_true, Bool.or_self, Bool.false_eq_true, if_false, htake]
  rw [if_neg (by rw [State.is, State.get_mk, hvalid]; decide), if_pos ⟨hw, hgood⟩]
  rfl

/-- Settles O11: the tests of a head give the list of heads dropped, and one lemma each says what the loss of one head and of the last leaves. -/
theorem tideLosesAndFollows : Obligations.TideLosesAndFollows := by
  unfold Obligations.TideLosesAndFollows
  refine ⟨fun s h low hh hlow hok hother hlock => ?_, fun s h low hh hlow hok hother hlock => ?_, fun s h low hlow => ?_,
    fun s h cells hh hcells hok hother hlock => ?_, fun s h cells hh hcells hok hother hlock => ?_, fun s h => ?_,
    fun s k hk hlow hhigh hlock => ?_, fun s k cells0 hk hcells hlow hhigh hlock => ?_, fun s k cells0 cells1 hk => ?_,
    fun s stalls hstate hlost => ?_, fun s stalls hstate => ?_, fun s value hload => ?_, fun s value hload => ?_, fun s who => ?_,
    fun s mang hon heso hlock hdue => ?_, fun s mang hon hlow hdue => ?_, fun s hon => ?_,
    fun s mang period high hon hen hvalid hgood => ?_, fun s mang period high hon hen hvalid hbad hgood => ?_,
    fun s mang period high hon hen hvalid hlen hgood => ?_, fun s mang period high hen => ?_, fun s hen hvalid => ?_,
    fun s hen hphase => ?_⟩
  · exact completes_of_frame (execTideHeadLost_frame (parts_in rfl) (fun _ hr => hr)) (single_holds (if_pos hlow) hh hok hother hlock)
  · exact completes_of_frame (execTideHeadLost_frame (parts_in rfl) (fun _ hr => hr)) (last_holds (if_pos hlow) hh hok hother hlock)
  · exact completes_of_frame (execTideHeadLost_frame (parts_in rfl) (fun _ hr => hr))
      ⟨_, exec_tideHeadLost_of_none (if_neg (by omega)), rfl⟩
  · exact completes_of_frame (execTideHeadLost_frame (parts_in rfl) (fun _ hr => hr)) (single_holds (if_pos hcells) hh hok hother hlock)
  · exact completes_of_frame (execTideHeadLost_frame (parts_in rfl) (fun _ hr => hr)) (last_holds (if_pos hcells) hh hok hother hlock)
  · exact completes_of_frame (execTideHeadLost_frame (parts_in rfl) (fun _ hr => hr))
      ⟨_, exec_tideHeadLost_of_none (by simp [headsDropped]), rfl⟩
  · have htest : headsDropped (.agreement k 1048576 1048576) = [1] := by simp [headsDropped, Nat.not_lt.2 hk]
    refine completes_of_frame (execTideHeadLost_frame (parts_in rfl) (fun _ hr => hr)) ?_
    exact single_holds (s := s) (h := 1) htest (by decide) hhigh hlow hlock
  · have htest : headsDropped (.agreement k cells0 1048576) = [0] := by simp [headsDropped, Nat.not_lt.2 hk, hcells]
    refine completes_of_frame (execTideHeadLost_frame (parts_in rfl) (fun _ hr => hr)) ?_
    exact single_holds (s := s) (h := 0) htest (by decide) hlow hhigh hlock
  · exact completes_of_frame (execTideHeadLost_frame (parts_in rfl) (fun _ hr => hr))
      ⟨_, exec_tideHeadLost_of_none (if_pos hk), rfl⟩
  · have hne : s.get .TIDE_STATUS_STATE ≠ 0 := by omega
    refine completes_of_outFrame (execTideTimingLost_frame (parts_in rfl) (fun _ hr => hr)) (exec_tideTimingLost_of_holdover hstate hlost)
      (fun _ => ⟨?_, ?_, ?_, ?_, fun hacts k hk => ?_⟩)
    · exact (State.timingLost_get (by decide +kernel) (by decide +kernel) (by decide +kernel)).trans State.tideFree_state
    · exact (State.timingLost_get (by decide +kernel) (by decide +kernel) (by decide +kernel)).trans (State.tideFree_period hne)
    · exact State.timingLost_latched stalls
    · rw [State.timingLost_tide, State.tideFree_qualified hne]
    · exact State.timingLost_unloads hacts hk
  · refine completes_of_frame (execTideTimingLost_frame (parts_in rfl) (fun _ hr => hr)) ?_
    have hstay : (s.get .TIDE_STATUS_STATE == 5) = false := by simpa using hstate
    refine ⟨s, ?_, rfl⟩
    change execTideTimingLost stalls s = _
    rw [execTideTimingLost, hstay]
    rfl
  · refine completes_of_outFrame (t := ((s.ack.set .TIDE_OPT_LO_MS_LO value.toNat).set .TIDE_STATUS_OPT_LOADED 1).stampStaged)
      (execTideOptLo_frame (parts_in rfl) (fun _ hr => hr)) ?_ (fun _ => ⟨?_, ?_, ?_⟩)
    · change execTideOptLo value s = _
      simp [execTideOptLo, State.not_is_of_get hload]
    · rw [State.stampStaged_get (by decide +kernel), State.get_set_other _ _ (by decide)]
      exact (State.get_set_self _ _ _ (by decide)).trans (Nat.mod_eq_of_lt value.isLt)
    · rw [State.stampStaged_get (by decide +kernel)]
      exact State.get_set_self _ _ _ (by decide)
    · exact State.stampStaged_bus
  · refine completes_of_frame (execTideOptLo_frame (parts_in rfl) (fun _ hr => hr)) ?_
    simp [Completes, exec, execTideOptLo, State.is_of_get hload]
  · exact completes_of_frame (execTideOptLoRead_frame (parts_in rfl)) ⟨_, rfl, rfl, rfl⟩
  · refine completes_of_frame (execEncSyncOutRise_frame (parts_in rfl) (fun _ hr => hr)) ⟨_, rfl, ?_, ?_⟩
    · have hcond : ((s.atMang mang).domainOn 101 && (s.atMang mang).is .TIDE_CTRL_ESO_EN && (s.atMang mang).tideLocked &&
          mang.toNat % 0x0400_0000 == 0) = true := by
        rw [State.domainOn, State.tideLocked, State.is, State.atMang_get _ (by decide), State.atMang_get _ (by decide),
          State.atMang_get _ (by decide), ← State.domainOn, ← State.tideLocked, hon, heso, hlock, hdue]
        rfl
      rw [hcond]
      rfl
    · exact (State.when_keeps (fun t => t.mang) (State.mang_of_get State.get_mk)).trans (State.atMang_mang mang)
  · have hdue' : (if mang.toNat < 0x0400_0000 then mang == 0x0200_0000 else mang.toNat % 0x0400_0000 == 0x0100_0000) = true := by
      rw [if_neg (by omega), hdue]
      rfl
    exact completes_of_frame (execEncSyncOutFall_frame (parts_in rfl) (fun _ hr => hr)) (encSyncOutFall_holds hon hdue')
  · exact completes_of_frame (execEncSyncOutFall_frame (parts_in rfl) (fun _ hr => hr)) (encSyncOutFall_holds hon (by decide))
  · refine completes_of_outFrame (execEncSyncInEdge_frame (parts_in rfl) (fun _ hr => hr))
      (exec_encSyncInEdge_of_good hon hen hvalid hgood) (fun _ => ⟨?_, ?_, ?_, ?_⟩)
    · refine (State.when_keeps (fun t => t.tide.esiPeriods) (State.esiPhase_periods mang)).trans ?_
      rw [State.esiFollow_tide]
    · refine (State.when_keeps (fun t => t.tide.esiBad) (State.esiPhase_bad mang)).trans ?_
      rw [State.esiFollow_tide]
    · refine (State.when_get ?_).trans ?_
      · exact State.esiPhase_get (by decide)
      · exact State.esiFollow_valid.trans hvalid
    · refine (State.when_get ?_).trans ?_
      · exact State.esiPhase_get (by decide)
      · exact State.esiFollow_period period
  · refine completes_of_outFrame (execEncSyncInEdge_frame (parts_in rfl) (fun _ hr => hr))
      (exec_encSyncInEdge_of_third_bad hon hen hvalid hbad hgood) (fun _ => ⟨?_, ?_, ?_⟩)
    · exact State.esiLost_valid (State.get_mk.trans hvalid)
    · rw [State.esiLost_tide (State.get_mk.trans hvalid)]
    · exact State.esiLost_latched (State.get_mk.trans hvalid)
  · refine completes_of_outFrame (execEncSyncInEdge_frame (parts_in rfl) (fun _ hr => hr))
      (exec_encSyncInEdge_of_eighth hon hen hvalid hlen hgood) (fun _ => ⟨?_, ?_⟩)
    · rw [State.retarget_get (by decide), State.esiAccept_valid]
    · rw [State.retarget_get (by decide), State.esiAccept_period]
  · refine completes_of_frame (execEncSyncInEdge_frame (parts_in rfl) (fun _ hr => hr)) ?_
    simp [Completes, exec, execEncSyncInEdge, State.is, hen]
  · refine completes_of_frame (execEsiEdgeTimeout_frame (parts_in rfl) (fun _ hr => hr)) ?_
    refine ⟨s.esiLost, ?_, State.esiLost_valid hvalid, ?_, ?_, State.esiLost_latched hvalid⟩
    · change execEsiEdgeTimeout s = _
      rw [execEsiEdgeTimeout, State.is_of_get hen]
      rfl
    all_goals rw [State.esiLost_tide hvalid]
  · refine completes_of_frame (execEsiPhaseSuspend_frame (parts_in rfl)) ?_
    simp [Completes, exec, execEsiPhaseSuspend, State.is, hen, hphase]

end Sys2Proof.Machine
end

section
set_option Elab.async false
/-! CONTROL STORES AND EVENTS (06). A store to CS_DATA writes the stores that the mask selects (R145); a load of the event queue takes its head
(R143). -/

namespace Sys2Proof.Machine

variable {s : State}

/-- The word that a store to CS_DATA leaves in each store. -/
def State.storeWords (s : State) (mask a : Nat) (word : Word) : State :=
  s.forN 8 (fun n s => s.when (mask / 2 ^ n % 2 == 1 && decide (a < 0x4800)) (fun s => s.updSeq n (fun q => { q with store := q.store.put a word })))

theorem State.storeWords_get (mask a : Nat) (word : Word) (g : Fld) : (s.storeWords mask a word).get g = s.get g :=
  State.forN_keeps (fun t => t.get g) (fun _ _ => State.when_get State.get_mk) 8

theorem State.storeWords_bus (mask a : Nat) (word : Word) : (s.storeWords mask a word).bus = s.bus :=
  State.forN_keeps (fun t => t.bus) (fun _ _ => State.when_keeps (fun t => t.bus) rfl) 8

theorem State.storeWords_at {mask a n : Nat} (word : Word) (ha : a < 0x4800) (hn : n < 8) :
    ((s.storeWords mask a word).seq n).store.at a = if mask / 2 ^ n % 2 = 1 then word else (s.seq n).store.at a := by
  have hstep (i : Nat) (t : State) : ((t.when (mask / 2 ^ i % 2 == 1 && decide (a < 0x4800)) (fun s =>
      s.updSeq i (fun q => { q with store := q.store.put a word }))).seq n).store.at a =
      if i = n ∧ mask / 2 ^ n % 2 = 1 then word else (t.seq n).store.at a := by
    by_cases hi : i = n
    · subst hi
      by_cases hm : mask / 2 ^ i % 2 = 1
      · simp [hm, ha, State.when, State.updSeq_seq_self]
      · simp [hm, State.when]
    · rw [if_neg (by tauto)]
      exact State.when_keeps (fun t => (t.seq n).store.at a) (congrArg (fun q => q.store.at a) (State.updSeq_seq_ne _ (Ne.symm hi)))
  have hrun (k : Nat) : ((s.forN k (fun n s => s.when (mask / 2 ^ n % 2 == 1 && decide (a < 0x4800)) (fun s =>
      s.updSeq n (fun q => { q with store := q.store.put a word })))).seq n).store.at a =
      if n < k ∧ mask / 2 ^ n % 2 = 1 then word else (s.seq n).store.at a := by
    induction k with
    | zero => simp [State.forN]
    | succ k ih =>
      rw [State.forN_succ, hstep, ih]
      by_cases hm : mask / 2 ^ n % 2 = 1
      · simp only [hm, and_true]
        by_cases hk : k = n
        · rw [if_pos hk, if_pos (by omega)]
        · rw [if_neg hk]
          exact if_congr (by omega) rfl rfl
      · simp [hm]
  unfold State.storeWords
  rw [hrun 8]
  simp [hn]

/-- An event that leaves the queue makes room for the next that waits (R143). -/
def Seq.takeEvent (rest : List ReedEvent) (q : Seq) : Seq :=
  match q.owed with
  | o :: more => { q with events := rest ++ [o], owed := more }
  | [] => { q with events := rest }

theorem Seq.takeEvent_events (rest : List ReedEvent) (q : Seq) : (q.takeEvent rest).events = rest ++ q.owed.take 1 := by
  unfold Seq.takeEvent
  split <;> simp_all

theorem Seq.takeEvent_owed (rest : List ReedEvent) (q : Seq) : (q.takeEvent rest).owed = q.owed.drop 1 := by
  unfold Seq.takeEvent
  split <;> simp_all

/-- A RESTART that waited for room goes on. -/
def State.unstall (s : State) (n : Nat) : State :=
  s.when (decide ((s.seq n).stall = .restart) && decide ((s.seq n).owed = [])) (fun s =>
    (s.updSeq n (fun q => { q with stall := .none })).set (.REED_ST_STATUS_STATE n) 1)

theorem State.unstall_events (n : Nat) : ((s.unstall n).seq n).events = (s.seq n).events := by
  refine State.when_keeps (fun t => (t.seq n).events) ?_
  rw [State.set_seq, State.updSeq_seq_self]

theorem State.unstall_owed (n : Nat) : ((s.unstall n).seq n).owed = (s.seq n).owed := by
  refine State.when_keeps (fun t => (t.seq n).owed) ?_
  rw [State.set_seq, State.updSeq_seq_self]

theorem findReg_event {n : Nat} (hn : n < 8) : (findReg (0x4600_1010 + 0x100 * n)).isSome = true := by
  revert n
  decide +kernel

theorem fenMayLoad_event {n : Nat} (hn : n < 8) : fenMayLoad (0x4600_1010 + 0x100 * n) = false := by
  revert n
  decide +kernel

theorem exec_reedEventRead_of_event {n : Nat} {ev : ReedEvent} {rest : List ReedEvent} (hn : n < 8)
    (hclock : s.gated (0x4600_1010 + 0x100 * n) = false) (hev : (s.seq n).events = ev :: rest) : exec (.reedEventRead .mire n) s =
      .next ((((s.ack.updSeq n (Seq.takeEvent rest)).unstall n).reedCount n).answer (2 ^ 31 + ev.kind * 2 ^ 24 + ev.data)) := by
  change execReedEventRead .mire n s = _
  rw [execReedEventRead, State.load_mire _ (by omega) (findReg_event hn) hclock, State.ack_seq, hev]
  rfl

/-- Settles O22: the access rules give the register's own effect, and a load the Fen cores may not make is denied. -/
theorem controlStoresAndEvents : Obligations.ControlStoresAndEvents := by
  unfold Obligations.ControlStoresAndEvents
  refine ⟨fun s word hclock ha hidle => ?_, fun s word hclock hidle => ?_, fun s n hclock hfind => ?_, fun s core hcore => ?_,
    fun s n ev rest hn hclock hev => ?_, fun s n hn hclock hev => ?_, fun s core n hcore hn => ?_⟩
  · refine completes_of_outFrame (execCsWrite_frame (parts_in rfl) (fun _ hr => hr))
      (t := (s.ack.storeWords (s.get .REED_CS_CTRL_SEQ_MASK) (s.get .REED_CS_CTRL_ADDR) word).inc .REED_CS_CTRL_ADDR) ?_
      (fun _ => ⟨fun n hn => ?_, ?_, ?_⟩)
    · change execCsWrite word s = _
      have hidle' : s.ack.storesIdle (s.get .REED_CS_CTRL_SEQ_MASK) = true := hidle
      rw [execCsWrite, State.access_of_clocked _ hclock, State.ack_get, State.ack_get]
      exact congrArg Host.Outcome.next (if_pos hidle')
    · exact State.storeWords_at word ha hn
    · rw [State.inc_get_self (by decide), State.storeWords_get, State.ack_get]
    · exact State.storeWords_bus _ _ _
  · refine completes_of_outFrame (execCsWrite_frame (parts_in rfl) (fun _ hr => hr)) (t := s.ack.set .REED_CS_CTRL_ERR 1) ?_
      (fun _ => ⟨rfl, ?_, ?_, rfl⟩)
    · change execCsWrite word s = _
      have hidle' : s.ack.storesIdle (s.get .REED_CS_CTRL_SEQ_MASK) = false := hidle
      rw [execCsWrite, State.access_of_clocked _ hclock, State.ack_get]
      have hidle'' : ¬s.ack.storesIdle (s.get .REED_CS_CTRL_SEQ_MASK) = true := by simp [hidle']
      exact congrArg Host.Outcome.next (if_neg hidle'')
    · exact State.get_set_self _ _ _ (by decide)
    · rw [State.get_set_other _ _ (by decide), State.ack_get]
  · refine completes_of_outFrame (execCsRead_frame (parts_in rfl) (fun _ hr => hr))
      (t := (s.ack.inc .REED_CS_CTRL_ADDR).answer ((s.seq n).store.at (s.get .REED_CS_CTRL_ADDR)).toNat) ?_ (fun _ => ⟨rfl, ?_⟩)
    · change execCsRead .mire s = _
      rw [execCsRead, State.load_mire _ (by decide) (by decide +kernel) hclock, State.ack_get, State.ack_get]
      dsimp only
      rw [hfind]
      rfl
    · refine State.get_mk.trans ?_
      rw [State.inc_get_self (by decide), State.ack_get]
  · exact completes_of_frame (execCsRead_frame (parts_in rfl) (fun _ hr => hr)) (load_fen_holds rfl (by decide +kernel))
  · refine completes_of_outFrame (execReedEventRead_frame (parts_in rfl) (fun _ hr => hr)) (exec_reedEventRead_of_event hn hclock hev)
      (fun _ => ⟨rfl, ?_, ?_⟩)
    · change (((s.ack.updSeq n (Seq.takeEvent rest)).unstall n).seq n).events = _
      rw [State.unstall_events, State.updSeq_seq_self, Seq.takeEvent_events, State.ack_seq]
    · change (((s.ack.updSeq n (Seq.takeEvent rest)).unstall n).seq n).owed = _
      rw [State.unstall_owed, State.updSeq_seq_self, Seq.takeEvent_owed, State.ack_seq]
  · refine completes_of_outFrame (execReedEventRead_frame (parts_in rfl) (fun _ hr => hr)) (t := s.ack.answer 0) ?_ (fun _ => ⟨rfl, rfl⟩)
    change execReedEventRead .mire n s = _
    rw [execReedEventRead, State.load_mire _ (by omega) (findReg_event hn) hclock, State.ack_seq, hev]
  · exact completes_of_frame (execReedEventRead_frame (parts_in rfl) (fun _ hr => hr)) (load_fen_holds rfl (fenMayLoad_event hn))

end Sys2Proof.Machine
end

section
set_option Elab.async false
/-! DEFECTS AND SETTINGS OF A CHANNEL (07). An asperity and a dropout mark erasures in the sector under way (R163); the telemetry is a copy of the
channel's counters (R178); the coefficient window serves the firmware's, the adapted and the loaded value, in this order (R157). -/

namespace Sys2Proof.Machine

variable {s : State} {n : Nat}

/-! ### Defects -/

theorem State.telAdd_get (i k : Nat) (g : Fld) : (s.telAdd n i k).get g = s.get g := State.get_mk

theorem State.eraseBits_get (lo hi : Nat) (g : Fld) : (s.eraseBits n lo hi).get g = s.get g := State.get_mk

/-- The erasures of a sector depend on the channel and on the code in force alone. -/
theorem State.eraseBits_set (f : Fld) (v lo hi : Nat) (h : (s.set f v).get (.SDG_CODE_C n) = s.get (.SDG_CODE_C n)) :
    ((s.set f v).eraseBits n lo hi).chan n = (s.eraseBits n lo hi).chan n := by
  unfold State.eraseBits
  rw [h, State.updChan_chan_self, State.updChan_chan_self, State.set_chan]

theorem exec_thermalAsperity_of_onset {bit level run : Nat} (hrg : (s.seq n).rg = true) (hon : s.domainOn (61 + n) = true)
    (hfrom : (s.chan n).taFrom = none) (hlevel : s.get (.SDG_DEF_TA_THR n) * s.get (.SDG_FE_CFG_AGC_TGT n) < level)
    (hrun : s.get (.SDG_DEF_TA_LEN n) ≤ run) : exec (.thermalAsperity n false bit level run) s =
      .next (((s.set (.SDG_FE_STATUS_TA_ACTIVE n) 1).when ((s.chan n).mode != 2) (fun s => s.telAdd n 30 1)).updChan n
        (fun c => { c with taFrom := some bit, corner16 := true, corner16To := none })) := by
  change execThermalAsperity n false bit level run s = _
  simp [execThermalAsperity, hrg, hon, hfrom, hlevel, hrun]

theorem exec_thermalAsperity_of_return {bit level run start : Nat} (hrg : (s.seq n).rg = true) (hon : s.domainOn (61 + n) = true)
    (hfrom : (s.chan n).taFrom = some start) (hlevel : level ≤ s.get (.SDG_DEF_TA_THR n) * s.get (.SDG_FE_CFG_AGC_TGT n)) :
    exec (.thermalAsperity n true bit level run) s =
      .next ((((s.set (.SDG_FE_STATUS_TA_ACTIVE n) 0).eraseBits n (start - s.get (.SDG_DEF_TA_PRE n)) (bit + s.get (.SDG_DEF_TA_POST n))).updChan
        n (fun c => { c with taFrom := none, corner16To := some (bit + 64) }))) := by
  change execThermalAsperity n true bit level run s = _
  simp [execThermalAsperity, hrg, hon, hfrom, Nat.not_lt.2 hlevel]

theorem exec_dropout_of_onset {bit level run : Nat} (hrg : (s.seq n).rg = true) (hon : s.domainOn (61 + n) = true)
    (hfrom : (s.chan n).doFrom = none) (hlevel : level < s.get (.SDG_DEF_DO_THR n) * s.get (.SDG_FE_CFG_AGC_TGT n))
    (hrun : s.get (.SDG_DEF_DO_LEN n) ≤ run) : exec (.dropout n false bit level run) s =
      .next (((s.set (.SDG_FE_STATUS_DO_ACTIVE n) 1).when ((s.chan n).mode != 2) (fun s => s.telAdd n 31 1)).updChan n
        (fun c => { c with doFrom := some bit })) := by
  change execDropout n false bit level run s = _
  simp [execDropout, hrg, hon, hfrom, hlevel, hrun]

theorem exec_dropout_of_recovery {bit level run start : Nat} (hrg : (s.seq n).rg = true) (hon : s.domainOn (61 + n) = true)
    (hfrom : (s.chan n).doFrom = some start) (hlevel : s.get (.SDG_DEF_DO_THR n) * s.get (.SDG_FE_CFG_AGC_TGT n) ≤ level) :
    exec (.dropout n true bit level run) s =
      .next (((s.set (.SDG_FE_STATUS_DO_ACTIVE n) 0).eraseBits n (start - s.get (.SDG_DEF_DO_PAD n)) (bit + s.get (.SDG_DEF_DO_PAD n))).updChan
        n (fun c => { c with doFrom := none })) := by
  change execDropout n true bit level run s = _
  simp [execDropout, hrg, hon, hfrom, Nat.not_lt.2 hlevel]

/-! ### Telemetry -/

/-- Counter `j` of channel `m` in its register. -/
def State.telShow (m j : Nat) (s : State) : State := s.set (.SDG_TEL_COUNT m j) ((s.chan m).tel.at j)

/-- The register of counter `i` of channel `n` shows what the channel counted. -/
def State.TelShown (s t : State) (n i : Nat) : Prop := t.chans = s.chans ∧ t.get (.SDG_TEL_COUNT n i) = (s.chan n).tel.at i % 2 ^ 32

theorem State.TelShown.telShow {t : State} {i m j : Nat} (h : s.TelShown t n i) (hn : n < 8) (hi : i < 32) (hm : m < 8) (hj : j < 32) :
    s.TelShown (t.telShow m j) n i := by
  obtain ⟨hchans, hget⟩ := h
  refine ⟨hchans, ?_⟩
  unfold State.telShow
  by_cases hsame : m = n ∧ j = i
  · obtain ⟨rfl, rfl⟩ := hsame
    rw [State.chan_of_chans hchans]
    exact State.get_set_self _ _ _ (by simp)
  · rw [State.get_set_ne _ _ (by dsimp only; omega), hget]

theorem State.telShow_shown {t : State} {i : Nat} (h : t.chans = s.chans) : s.TelShown (t.telShow n i) n i := by
  refine ⟨h, ?_⟩
  unfold State.telShow
  rw [State.chan_of_chans h]
  exact State.get_set_self _ _ _ (by simp)

theorem State.telSnap_shown {i : Nat} (hn : n < 8) (hi : i < 32) : s.TelShown s.telSnap n i := by
  have hrow (m : Nat) (t : State) (ht : t.chans = s.chans) : (t.forN 32 (fun i s => s.telShow m i)).chans = s.chans :=
    State.forN_inv (Inv := fun t => t.chans = s.chans) ht (fun _ _ _ h => h)
  refine State.forN_reaches (Inv := fun t => t.chans = s.chans) (P := fun t => s.TelShown t n i) hn rfl (fun m _ t ht => hrow m t ht)
    (fun t ht => ?_) (fun m hm t ht => ?_)
  · exact State.forN_reaches (Inv := fun t => t.chans = s.chans) (P := fun t => s.TelShown t n i) hi ht (fun _ _ _ h => h)
      (fun _ h => State.telShow_shown h) (fun j hj _ h => h.telShow hn hi hn hj)
  · exact State.forN_inv (Inv := fun t => s.TelShown t n i) ht (fun j hj _ h => h.telShow hn hi hm hj)

theorem State.telSnap_chans : s.telSnap.chans = s.chans := by
  unfold State.telSnap
  refine State.forN_keeps (fun t => t.chans) (fun m t => ?_) 8
  refine State.forN_keeps (fun t => t.chans) (fun i u => ?_) 32
  rfl

theorem State.telSnap_bus : s.telSnap.bus = s.bus := by
  unfold State.telSnap
  refine State.forN_keeps (fun t => t.bus) (fun m t => ?_) 8
  refine State.forN_keeps (fun t => t.bus) (fun i u => ?_) 32
  rfl

theorem State.telClear_get (g : Fld) : s.telClear.get g = s.get g := State.forN_keeps (fun t => t.get g) (fun _ _ => State.get_mk) 8

theorem State.telClear_bus : s.telClear.bus = s.bus := by
  unfold State.telClear
  refine State.forN_keeps (fun t => t.bus) (fun m t => ?_) 8
  rfl

theorem State.telClear_tel (hn : n < 8) : (s.telClear.chan n).tel = [] := by
  have hclear (m : Nat) (t : State) (h : m = n ∨ (t.chan n).tel = []) :
      ((t.updChan m (fun c => { c with tel := [], checkedBits := 0 })).chan n).tel = [] := by
    by_cases hm : n = m
    · subst hm
      rw [State.updChan_chan_self]
    · rw [State.updChan_chan_ne _ hm]
      exact h.resolve_left (Ne.symm hm)
  exact State.forN_reaches (Inv := fun _ => True) (P := fun t => (t.chan n).tel = []) hn trivial (fun _ _ _ _ => trivial)
    (fun t _ => hclear n t (.inl rfl)) (fun m _ t ht => hclear m t (.inr ht))

theorem State.snapped_get {i : Nat} (hn : n < 8) (hi : i < 32) (clear : Bool) :
    (s.telSnap.when clear State.telClear).get (.SDG_TEL_COUNT n i) = (s.chan n).tel.at i % 2 ^ 32 := by
  refine (State.when_get ?_).trans (State.telSnap_shown hn hi).2
  exact State.telClear_get _

theorem State.snapped_tel (hn : n < 8) (clear : Bool) :
    ((s.telSnap.when clear State.telClear).chan n).tel = if clear = true then [] else (s.chan n).tel := by
  unfold State.when
  split
  · exact State.telClear_tel hn
  · rw [State.chan_of_chans State.telSnap_chans]

theorem State.snapped_bus (clear : Bool) : (s.telSnap.when clear State.telClear).bus = s.bus := by
  refine (State.when_keeps (fun t => t.bus) ?_).trans State.telSnap_bus
  exact State.telClear_bus

/-! ### Coefficients -/

theorem findReg_coef (hn : n < 8) : (findReg (0x4700_102C + 0x400 * n)).isSome = true := by
  revert n
  decide +kernel

theorem fenMayLoad_coef (hn : n < 8) : fenMayLoad (0x4700_102C + 0x400 * n) = false := by
  revert n
  decide +kernel

/-- The coefficient that a load at the window's address serves. -/
def Channel.coefAt (c : Channel) (a : Nat) : BitVec 26 :=
  match c.coefFw.find? (fun e => e.1 = a), c.coefAdapt.reverse.find? (fun e => e.1 = a) with
  | some e, _ => e.2
  | none, some e => e.2
  | none, none => c.coef.at a

theorem exec_coefRead (hn : n < 8) (hclock : s.gated (0x4700_102C + 0x400 * n) = false) : exec (.coefRead .mire n) s =
    .next ((s.ack.inc (.SDG_COEF_ADDR_ADDR n)).answer (if coefEntry (s.get (.SDG_COEF_ADDR_ADDR n)) = true then
      ((s.chan n).coefAt (s.get (.SDG_COEF_ADDR_ADDR n))).toNat else 0)) := by
  change execCoefRead .mire n s = _
  rw [execCoefRead, State.load_mire _ (by omega) (findReg_coef hn) hclock, State.ack_get, State.ack_chan]
  rfl

/-- A load at the coefficient window answers the entry's value and steps the address. -/
theorem coefRead_holds {v : Nat} (hn : n < 8) (hclock : s.gated (0x4700_102C + 0x400 * n) = false)
    (hv : (if coefEntry (s.get (.SDG_COEF_ADDR_ADDR n)) = true then ((s.chan n).coefAt (s.get (.SDG_COEF_ADDR_ADDR n))).toNat else 0) = v) :
    Completes (.coefRead .mire n) s (fun t => t.bus = .value v ∧
      t.get (.SDG_COEF_ADDR_ADDR n) = (s.get (.SDG_COEF_ADDR_ADDR n) + 1) % 2 ^ 9) := by
  refine ⟨_, exec_coefRead hn hclock, congrArg BusAnswer.value hv, ?_⟩
  refine State.get_mk.trans ?_
  rw [State.inc_get_self (by simp), State.ack_get]

/-- The entry of the firmware's coefficients at `a` becomes `v`. -/
def Channel.putCoef (a : Nat) (v : BitVec 26) (c : Channel) : Channel :=
  { c with coefFw := c.coefFw.filter (fun e => e.1 ≠ a) ++ [(a, v)] }

/-- The value that a store at the coefficient window keeps. -/
def coefValue (a : Nat) (data : Word) : BitVec 26 := BitVec.ofNat 26 (if a < 0x168 then data.toNat % 2 ^ 10 else data.toNat)

theorem exec_coefWrite {data : Word} (hclock : s.gated (0x4700_102C + 0x400 * n) = false) : exec (.coefWrite n data) s =
    .next ((s.ack.when (coefEntry (s.get (.SDG_COEF_ADDR_ADDR n))) (fun s => s.updChan n (Channel.putCoef (s.get (.SDG_COEF_ADDR_ADDR n))
      (coefValue (s.get (.SDG_COEF_ADDR_ADDR n)) data)))).inc (.SDG_COEF_ADDR_ADDR n)) := by
  change execCoefWrite n data s = _
  rw [execCoefWrite, State.access_of_clocked _ hclock, State.ack_get]
  rfl

/-- Settles O24: each command is its equation, and the channel it names is read back through the update. -/
theorem channelDefectsAndSettings : Obligations.ChannelDefectsAndSettings := by
  unfold Obligations.ChannelDefectsAndSettings
  refine ⟨fun s n bit level run hn hrg hon hfrom hlevel hrun => ?_, fun s n bit level run start hn hrg hon hfrom hlevel => ?_,
    fun s n bit level run hn hrg hon hfrom hlevel hrun => ?_, fun s n bit level run start hn hrg hon hfrom hlevel => ?_,
    fun s clear hclock => ?_, fun s hclock => ?_, fun s n data hn hclock hentry => ?_, fun s n data hn hclock hentry => ?_,
    fun s n e hn hclock hentry hfw => ?_, fun s n e hn hclock hentry hfw hadapt => ?_, fun s n hn hclock hentry hfw hadapt => ?_,
    fun s n hn hclock hentry => ?_, fun s core n hcore hn => ?_⟩
  · refine completes_of_outFrame (execThermalAsperity_frame (parts_in rfl) (fun _ hr => hr))
      (exec_thermalAsperity_of_onset hrg hon hfrom hlevel hrun) (fun _ => ⟨?_, ?_, ?_, ?_⟩)
    · rw [State.updChan_get]
      refine (State.when_get ?_).trans ?_
      · exact State.telAdd_get _ _ _
      · exact State.get_set_self _ _ _ (by simp)
    all_goals rw [State.updChan_chan_self]
  · refine completes_of_outFrame (execThermalAsperity_frame (parts_in rfl) (fun _ hr => hr))
      (exec_thermalAsperity_of_return hrg hon hfrom hlevel) (fun _ => ⟨?_, ?_, ?_, ?_⟩)
    · rw [State.updChan_get, State.eraseBits_get]
      exact State.get_set_self _ _ _ (by simp)
    all_goals rw [State.updChan_chan_self]
    rw [State.eraseBits_set _ _ _ _ (State.get_set_ne _ _ (by dsimp only; omega))]
  · refine completes_of_outFrame (execDropout_frame (parts_in rfl) (fun _ hr => hr))
      (exec_dropout_of_onset hrg hon hfrom hlevel hrun) (fun _ => ⟨?_, ?_⟩)
    · rw [State.updChan_get]
      refine (State.when_get ?_).trans ?_
      · exact State.telAdd_get _ _ _
      · exact State.get_set_self _ _ _ (by simp)
    · rw [State.updChan_chan_self]
  · refine completes_of_outFrame (execDropout_frame (parts_in rfl) (fun _ hr => hr))
      (exec_dropout_of_recovery hrg hon hfrom hlevel) (fun _ => ⟨?_, ?_, ?_⟩)
    · rw [State.updChan_get, State.eraseBits_get]
      exact State.get_set_self _ _ _ (by simp)
    all_goals rw [State.updChan_chan_self]
    rw [State.eraseBits_set _ _ _ _ (State.get_set_ne _ _ (by dsimp only; omega))]
  · refine completes_of_outFrame (execTelSnap_frame (parts_in rfl) (fun _ hr => hr)) (t := s.ack.telSnap.when clear State.telClear) ?_
      (fun _ => ⟨fun n hn i hi => ?_, fun n hn => ?_, ?_⟩)
    · change execTelSnap clear s = _
      rw [execTelSnap, State.access_of_clocked _ hclock]
    · exact State.snapped_get hn hi clear
    · exact State.snapped_tel hn clear
    · exact State.snapped_bus clear
  · refine completes_of_outFrame (execTelClear_frame (parts_in rfl)) (t := s.ack.telClear) ?_
      (fun _ => ⟨fun n hn => State.telClear_tel hn, State.telClear_bus⟩)
    change execTelClear s = _
    rw [execTelClear, State.access_of_clocked _ hclock]
  · refine completes_of_outFrame (execCoefWrite_frame (parts_in rfl) (fun _ hr => hr)) (exec_coefWrite hclock) (fun _ => ⟨?_, ?_, ?_⟩)
    · rw [hentry]
      exact congrArg Channel.coefFw (State.updChan_chan_self n _)
    · rw [State.inc_get_self (by simp)]
      refine congrArg (fun v => (v + 1) % 2 ^ 9) ((State.when_get ?_).trans (by rw [State.ack_get]))
      rw [State.updChan_get]
    · exact State.when_keeps (fun t => t.bus) rfl
  · refine completes_of_outFrame (execCoefWrite_frame (parts_in rfl) (fun _ hr => hr)) (exec_coefWrite hclock) (fun _ => ⟨?_, ?_, ?_⟩)
    · rw [hentry]
      rfl
    · rw [State.inc_get_self (by simp), hentry]
      rfl
    · rw [hentry]
      rfl
  · refine completes_of_frame (execCoefRead_frame (parts_in rfl) (fun _ hr => hr)) (coefRead_holds hn hclock ?_)
    rw [if_pos hentry, Channel.coefAt, hfw]
  · refine completes_of_frame (execCoefRead_frame (parts_in rfl) (fun _ hr => hr)) (coefRead_holds hn hclock ?_)
    rw [if_pos hentry, Channel.coefAt, hfw, hadapt]
  · refine completes_of_frame (execCoefRead_frame (parts_in rfl) (fun _ hr => hr)) (coefRead_holds hn hclock ?_)
    rw [if_pos hentry, Channel.coefAt, hfw, hadapt]
  · refine completes_of_frame (execCoefRead_frame (parts_in rfl) (fun _ hr => hr)) (coefRead_holds hn hclock ?_)
    rw [hentry]
    rfl
  · exact completes_of_frame (execCoefRead_frame (parts_in rfl) (fun _ hr => hr)) (load_fen_holds rfl (fenMayLoad_coef hn))

end Sys2Proof.Machine
end

section
set_option Elab.async false
/-! SEEKS AND REGIONS (04, 05). A GO or an ABANDON is latched for the next outer update (R109); a seek that settles (R115); the fetch of a section's
region (R99, R100). -/

namespace Sys2Proof.Machine

variable {s : State} {k : Nat}

theorem State.latchSeek_cmd (go : Bool) : ((s.latchSeek k go).sec k).seek.cmd = some go := by
  unfold State.latchSeek
  rw [State.updSec_sec_self]

/-- The HINT bit of a section stays while the records of hints are written. -/
theorem State.writeAbandon_hint : (s.writeAbandon k).get (.TUS_SEEK_CTRL_HINT k) = s.get (.TUS_SEEK_CTRL_HINT k) := by
  refine (State.updSec_get ..).trans (State.when_get ?_)
  exact State.abandonHint_get (apart_mod (n := 4) _ (by decide) (by simp) (by decide +kernel) k)

theorem State.writeAbandon_bus : (s.writeAbandon k).bus = s.bus := State.when_keeps (fun t => t.bus) State.abandonHint_bus

/-- What a seek that settles writes, before the hint that it ran for ends. -/
theorem State.settleSeek_settled : (s.settleSeek k).get (.TUS_SEEK_STATUS_SETTLED k) = 1 := by
  unfold State.settleSeek
  rw [State.selectRegion_get (apart_mod (n := 4) _ (by decide) (by simp) (by decide +kernel) k)]
  simp (disch := (dsimp only; omega)) [State.get_set_self, State.get_set_other]

theorem State.settleSeek_seeking : (s.settleSeek k).get (.TUS_SEEK_STATUS_SEEKING k) = 0 := by
  unfold State.settleSeek
  rw [State.selectRegion_get (apart_mod (n := 4) _ (by decide) (by simp) (by decide +kernel) k)]
  simp (disch := (dsimp only; omega)) [State.get_set_self, State.get_set_other]

theorem State.settleSeek_hint : (s.settleSeek k).get (.TUS_SEEK_STATUS_HINT_ACTIVE k) = 0 := by
  unfold State.settleSeek
  rw [State.selectRegion_get (apart_mod (n := 4) _ (by decide) (by simp) (by decide +kernel) k)]
  simp (disch := (dsimp only; omega)) [State.get_set_self]

/-- The hint of section k that runs ends, where the seek ran for one. -/
def State.endHint (s : State) (k : Nat) (hint : Bool) : State :=
  match s.hintOf k with
  | some d => s.when hint (fun s => s.complete d {})
  | none => s

theorem State.endHint_settled (hint : Bool) : (s.endHint k hint).get (.TUS_SEEK_STATUS_SETTLED k) = s.get (.TUS_SEEK_STATUS_SETTLED k) := by
  unfold State.endHint
  split
  · refine State.when_get ?_
    exact State.complete_get (apart_mod (n := 4) _ (by decide) (by simp) (by decide +kernel) k)
  · rfl

theorem State.endHint_seeking (hint : Bool) : (s.endHint k hint).get (.TUS_SEEK_STATUS_SEEKING k) = s.get (.TUS_SEEK_STATUS_SEEKING k) := by
  unfold State.endHint
  split
  · refine State.when_get ?_
    exact State.complete_get (apart_mod (n := 4) _ (by decide) (by simp) (by decide +kernel) k)
  · rfl

theorem State.endHint_hint (hint : Bool) : (s.endHint k hint).get (.TUS_SEEK_STATUS_HINT_ACTIVE k) = s.get (.TUS_SEEK_STATUS_HINT_ACTIVE k) := by
  unfold State.endHint
  split
  · refine State.when_get ?_
    exact State.complete_get (apart_mod (n := 4) _ (by decide) (by simp) (by decide +kernel) k)
  · rfl

theorem exec_seekSettled_of_settles (h : s.settles k = true) :
    exec (.seekSettled k) s = .next ((s.settleSeek k).endHint k (s.is (.TUS_SEEK_STATUS_HINT_ACTIVE k))) := by
  change execSeekSettled k s = _
  rw [execSeekSettled, h]
  rfl

theorem exec_reload_of_valid (h : s.get .TUS_CTRL_TABLES_VALID = 1) :
    exec (.reload k) s = .next (s.ack.fetchRegion k (s.get (.TUS_SEC_STATUS_REGION k))) := by
  change execReload k s = _
  rw [execReload, State.is_of_get h]
  rfl

theorem exec_regionFetchDone_of_good {r : Nat} (hvalid : s.get .TUS_CTRL_TABLES_VALID = 1) (hfetch : (s.sec k).fetching = some r)
    (htag : (s.regionWords k r).getD 105 0 = regionTag k r) : exec (.regionFetchDone k) s =
      .next (s.updSec k (fun x => { x with fetching := none, shadow := some (r, s.regionWords k r) })) := by
  change execRegionFetchDone k s = _
  unfold execRegionFetchDone
  rw [hfetch]
  dsimp only
  rw [State.is_of_get hvalid, if_pos htag]
  rfl

theorem exec_regionFetchDone_of_bad {r : Nat} (hvalid : s.get .TUS_CTRL_TABLES_VALID = 1) (hfetch : (s.sec k).fetching = some r)
    (htag : (s.regionWords k r).getD 105 0 ≠ regionTag k r) : exec (.regionFetchDone k) s =
      .next (((s.updSec k (fun x => { x with fetching := none, badTag := some r })).set (.TUS_SEC_STATUS_REGION_PEND k) 0).raise 0x0503 k) := by
  change execRegionFetchDone k s = _
  unfold execRegionFetchDone
  rw [hfetch]
  dsimp only
  rw [State.is_of_get hvalid, if_neg htag]
  rfl

/-- Settles O16: each command is its equation; what follows the write of a section's status writes other registers. -/
theorem seeksAndRegions : Obligations.SeeksAndRegions := by
  unfold Obligations.SeeksAndRegions
  refine ⟨fun s k hint abandon => ?_, fun s k => ?_, fun s k hk hsettle => ?_, fun s k hvalid => ?_, fun s k r hvalid hfetch htag => ?_,
    fun s k r hk hvalid hfetch htag => ?_⟩
  · refine completes_of_frame (execSeekGo_frame (parts_in rfl) (fun _ hr => hr)) ?_
    have hset : (s.ack.setIf (.TUS_SEEK_CTRL_HINT k) hint).get (.TUS_SEEK_CTRL_HINT k) = hint.toNat := by
      refine (State.get_set_self _ _ _ (by dsimp only; omega)).trans (Nat.mod_eq_of_lt ?_)
      exact Bool.toNat_lt hint
    cases abandon
    · exact ⟨(s.ack.setIf (.TUS_SEEK_CTRL_HINT k) hint).latchSeek k true, rfl, (State.updSec_get ..).trans hset, State.latchSeek_cmd true, rfl⟩
    · exact ⟨(s.ack.setIf (.TUS_SEEK_CTRL_HINT k) hint).writeAbandon k, rfl, State.writeAbandon_hint.trans hset, State.latchSeek_cmd false,
        State.writeAbandon_bus⟩
  · exact completes_of_frame (execSeekAbandon_frame (parts_in rfl) (fun _ hr => hr))
      ⟨s.ack.writeAbandon k, rfl, State.latchSeek_cmd false, State.writeAbandon_bus⟩
  · refine completes_of_outFrame (execSeekSettled_frame (parts_in rfl) (fun _ hr => hr)) (exec_seekSettled_of_settles hsettle)
      (fun _ => ⟨?_, ?_, ?_⟩)
    · rw [State.endHint_settled, State.settleSeek_settled]
    · rw [State.endHint_seeking, State.settleSeek_seeking]
    · rw [State.endHint_hint, State.settleSeek_hint]
  · refine completes_of_outFrame (execReload_frame (parts_in rfl) (fun _ hr => hr)) (exec_reload_of_valid hvalid) (fun _ => ⟨?_, ?_, ?_, rfl⟩)
    all_goals unfold State.fetchRegion
    · rw [State.set_sec, State.updSec_sec_self]
    · rw [State.set_sec, State.updSec_sec_self]
    · exact State.get_set_self _ _ _ (by dsimp only; omega)
  · refine completes_of_outFrame (execRegionFetchDone_frame (parts_in rfl) (fun _ hr => hr)) (exec_regionFetchDone_of_good hvalid hfetch htag)
      (fun _ => ⟨?_, ?_⟩)
    all_goals rw [State.updSec_sec_self]
  · refine completes_of_outFrame (execRegionFetchDone_frame (parts_in rfl) (fun _ hr => hr)) (exec_regionFetchDone_of_bad hvalid hfetch htag)
      (fun _ => ⟨?_, ?_, ?_, State.raise_latched_true (by decide +kernel)⟩)
    · rw [State.sec_of_tus (State.raise_tus _ _ _), State.set_sec, State.updSec_sec_self]
    · rw [State.sec_of_tus (State.raise_tus _ _ _), State.set_sec, State.updSec_sec_self]
    · rw [State.raise_get (apart_mod (n := 4) _ (by decide) (by simp) (by decide +kernel) k)]
      exact State.get_set_self _ _ _ (by dsimp only; omega)

end Sys2Proof.Machine
end

section
set_option Elab.async false
/-! THE PREAMPLIFIER LINKS (21). A frame is sent, answered or repeated, and a link that fails three times in a row is out (R501); discovery tries a
link twice (R479). -/

namespace Sys2Proof.Machine

variable {s : State} {l : Nat}

/-! ### Frames -/

theorem exec_plWriteFrame_of_free {head addr data : Nat} (hon : s.domainOn (89 + l) = true) (hrel : (s.link l).released = true)
    (hsent : (s.link l).sent = none) : exec (.plWriteFrame l head addr data) s = .next (s.updLink l (fun x => { x with
      sent := some { head := head, addr := addr, data := some data },
      wire := PlFrame.bits { head := head, addr := addr, data := some data }, fails := 0 })) := by
  change execPlWriteFrame l head addr data s = _
  rw [execPlWriteFrame, State.sendFrame, if_pos ⟨hrel, hsent, hon⟩]

theorem exec_plReadFrame_of_free {head addr : Nat} (hon : s.domainOn (89 + l) = true) (hrel : (s.link l).released = true)
    (hsent : (s.link l).sent = none) : exec (.plReadFrame l head addr) s = .next (s.updLink l (fun x => { x with
      sent := some { head := head, addr := addr }, wire := PlFrame.bits { head := head, addr := addr }, fails := 0 })) := by
  change execPlReadFrame l head addr s = _
  rw [execPlReadFrame, State.sendFrame, if_pos ⟨hrel, hsent, hon⟩]

/-- A frame that fails once or twice in a row is sent again (R501). -/
theorem State.frameFailed_of_retry {f : PlFrame} (hsent : (s.link l).sent = some f) (hfails : (s.link l).fails < 2) :
    s.frameFailed l = s.updLink l (fun x => { x with fails := (s.link l).fails + 1, wire := f.bits }) := by
  unfold State.frameFailed
  rw [hsent]
  dsimp only
  rw [if_neg (by omega)]

/-- The third failure in a row puts the link out, and the section retracts (R501). -/
theorem State.frameFailed_of_third {f : PlFrame} (hsent : (s.link l).sent = some f) (hfails : (s.link l).fails = 2) :
    s.frameFailed l = (s.updLink l (fun x => { x with sent := none, fails := 0, state := 2 })).when (decide (l < 4)) (fun s => s.startRetract l) := by
  unfold State.frameFailed
  rw [hsent]
  dsimp only
  rw [if_pos (by omega)]

theorem retry_holds {c : Instr} {f : PlFrame} (hexec : exec c s = .next (s.frameFailed l)) (hsent : (s.link l).sent = some f)
    (hfails : (s.link l).fails < 2) :
    Completes c s (fun t => (t.link l).sent = some f ∧ (t.link l).wire = f.bits ∧ (t.link l).fails = (s.link l).fails + 1) := by
  rw [State.frameFailed_of_retry hsent hfails] at hexec
  refine ⟨_, hexec, ?_, ?_, ?_⟩
  all_goals rw [State.updLink_link_self]
  exact hsent

theorem exec_plTimeout_of_clocked (hon : s.domainOn (89 + l) = true) : exec (.plTimeout l) s = .next (s.frameFailed l) := by
  change execPlTimeout l s = _
  rw [execPlTimeout, State.clocked, if_pos hon]

/-- The link's part of a right answer. -/
def Link.answered (f : PlFrame) (data : Nat) (x : Link) : Link :=
  { x with sent := none, fails := 0, reply := data, ident := if f.head = 7 ∧ f.addr < 5 then x.ident.put f.addr data else x.ident }

theorem exec_plResponse_of_sent {f : PlFrame} {frame : Nat} (hon : s.domainOn (89 + l) = true) (hsent : (s.link l).sent = some f) :
    exec (.plResponse l frame) s = .next (if frame = plFrame (if f.data.isSome then 2 else 3) 16 (frame / 256 % 65536) then
      s.updLink l (Link.answered f (frame / 256 % 65536)) else s.frameFailed l) := by
  change execPlResponse l frame s = _
  rw [execPlResponse, State.clocked, if_pos hon, hsent]
  rfl

/-! ### Discovery -/

theorem foldl_put_at {α : Type} [Inhabited α] [DecidableEq α] (g : Nat → α) (t : Tab α) {i n : Nat} (hi : i < n) :
    ((List.range n).foldl (fun t i => t.put i (g i)) t).at i = g i := by
  induction n with
  | zero => exact absurd hi (Nat.not_lt_zero i)
  | succ n ih =>
    rw [List.range_succ, List.foldl_append, List.foldl_cons, List.foldl_nil]
    rcases Nat.lt_succ_iff_lt_or_eq.1 hi with hlt | rfl
    · rw [Tab.at_put_ne _ _ (Nat.ne_of_lt hlt), ih hlt]
    · exact Tab.at_put_self _ _ _

/-- The link's reset is released. -/
def State.releaseLink (s : State) (l : Nat) : State := s.updLink l (fun x => { x with released := true })

theorem State.releaseLink_link : (s.releaseLink l).link l = { s.link l with released := true } := State.updLink_link_self l _

theorem State.releaseLink_domainOn (d : Nat) : (s.releaseLink l).domainOn d = s.domainOn d := rfl

theorem State.startCause_link (cause failed : Nat) : (s.startCause cause failed).link l = s.link l :=
  State.when_keeps (fun t => t.link l) rfl

theorem State.startCause_failed (cause failed : Nat) :
    (s.startCause cause failed).get .MBX_START_FAILED = (s.get .MBX_START_FAILED ||| failed) % 2 ^ 4 :=
  State.get_set_self _ _ _ (by decide)

/-- What discovery does with a link whose clock runs. -/
def State.discover (s : State) (l : Nat) : Option (List Nat) → State
  | some regs => s.updLink l (fun x =>
      { x with state := 1, missed := 0, ident := (List.range 5).foldl (fun t i => t.put i (regs.getD i 0)) x.ident })
  | none =>
    if (s.link l).missed = 0 then s.updLink l (fun x => { x with missed := 1 })
    else
      let s := s.updLink l (fun x => { x with state := 2 })
      if l < 4 then s.startCause 1 (2 ^ l) else (s.startCause 2 0).set .MBX_START_RESULT 2

theorem exec_preampDiscovery_of_clocked {ident : Option (List Nat)} (hon : s.domainOn (89 + l) = true) :
    exec (.preampDiscovery l ident) s = .next ((s.releaseLink l).discover l ident) := by
  have hon' : (s.releaseLink l).domainOn (89 + l) = true := hon
  change execPreampDiscovery l ident s = _
  unfold execPreampDiscovery
  dsimp only
  rw [← State.releaseLink, hon']
  cases ident with
  | some regs => rfl
  | none =>
    unfold State.discover
    dsimp only
    simp only [Bool.not_true, Bool.false_eq_true, if_false]
    split
    · rfl
    · split <;> rfl

/-- A link that does not answer the second time is out. -/
theorem State.discover_of_missed (hmissed : (s.link l).missed ≠ 0) : s.discover l none =
    if l < 4 then (s.updLink l (fun x => { x with state := 2 })).startCause 1 (2 ^ l)
    else ((s.updLink l (fun x => { x with state := 2 })).startCause 2 0).set .MBX_START_RESULT 2 := if_neg hmissed

/-! ### Faults -/

/-- What a fault of the preamplifier records before it stops the streams. -/
def State.noteFault (s : State) (l : Nat) : State := (s.updLink l (fun x => { x with fault := true })).irqMire (.preamp l)

theorem State.noteFault_link : ((s.noteFault l).link l).fault = true := by
  unfold State.noteFault
  rw [State.link_of_links (State.irqMire_links _ _), State.updLink_link_self]

/-- A fault ends, or restarts, what the two streams of a section run. -/
def State.stopStream (kill : Bool) (n : Nat) (s : State) : State :=
  if kill then s.terminate n 1 0 else s.when (s.running n) (fun s => s.restartDue n 3)

theorem State.stopStream_links (kill : Bool) (n : Nat) : (s.stopStream kill n).links = s.links := by
  unfold State.stopStream
  split
  · exact State.terminate_links
  · exact State.when_keeps (fun t => t.links) rfl

theorem State.stopStream_grows {x : MireIrq} (kill : Bool) (n : Nat) (h : x ∈ s.mireIrq) : x ∈ (s.stopStream kill n).mireIrq := by
  unfold State.stopStream
  split
  · exact State.terminate_grows _ _ _ h
  · exact State.when_grows h h

/-- What a fault of a section's preamplifier leaves (R503). -/
def State.faultLink (s : State) (l : Nat) (kill : Bool) : State := (s.noteFault l).forN 2 (fun i s => s.stopStream kill (2 * l + i))

theorem State.faultLink_link (kill : Bool) : ((s.faultLink l kill).link l).fault = true := by
  have hlinks : (s.faultLink l kill).links = (s.noteFault l).links :=
    State.forN_keeps (fun t => t.links) (fun i t => State.stopStream_links kill (2 * l + i)) 2
  rw [State.link_of_links hlinks, State.noteFault_link]

theorem State.faultLink_irq (kill : Bool) : MireIrq.preamp l ∈ (s.faultLink l kill).mireIrq :=
  State.forN_grows (fun i _ ht => State.stopStream_grows kill (2 * l + i) ht) 2 (State.irqMire_mem _)

theorem State.faultLink_stopped {i : Nat} (hi : i < 2) : (s.faultLink l true).running (2 * l + i) = false :=
  State.forN_reaches (Inv := fun _ => True) (P := fun t => t.running (2 * l + i) = false) hi trivial (fun _ _ _ _ => trivial)
    (fun _ _ => State.terminate_running _ _ _) (fun _ _ _ ht => State.terminate_keeps_idle _ _ _ ht)

theorem exec_preampFault_of_section {kill : Bool} (hl : l < 4) : exec (.preampFault l kill) s = .next (s.faultLink l kill) := by
  change execPreampFault l kill s = _
  rw [execPreampFault, if_pos hl]
  rfl

theorem or_two_pow_bit (a : Nat) (hl : l < 4) : (a ||| 2 ^ l) % 2 ^ 4 / 2 ^ l % 2 = 1 := by
  have hbit : ((a ||| 2 ^ l) % 2 ^ 4).testBit l = true := by
    rw [Nat.testBit_mod_two_pow, Nat.testBit_or, Nat.testBit_two_pow_self]
    simp [hl]
  simpa [Nat.testBit, Nat.shiftRight_eq_div_pow] using hbit

/-- Settles O17: each command is its equation, and the loop over a section's streams stops both. -/
theorem preampLinks : Obligations.PreampLinks := by
  unfold Obligations.PreampLinks
  refine ⟨fun s l head addr data hon hrel hsent => ?_, fun s l head addr hon hrel hsent => ?_, fun s l frame f hon hsent hframe => ?_,
    fun s l frame f hon hsent hframe hfails => ?_, fun s l f hon hsent hfails => ?_, fun s l f hon hsent hfails => ?_,
    fun s l regs hon => ?_, fun s l hon hmissed => ?_, fun s l hon hmissed hl => ?_, fun s hon hmissed => ?_, fun s l kill hl => ?_,
    fun s kill => ?_⟩
  · refine completes_of_outFrame (execPlWriteFrame_frame (parts_in rfl)) (exec_plWriteFrame_of_free hon hrel hsent) (fun _ => ⟨?_, ?_, ?_⟩)
    all_goals rw [State.updLink_link_self]
    rfl
  · refine completes_of_outFrame (execPlReadFrame_frame (parts_in rfl)) (exec_plReadFrame_of_free hon hrel hsent) (fun _ => ⟨?_, ?_, ?_⟩)
    all_goals rw [State.updLink_link_self]
    rfl
  · have hexec := exec_plResponse_of_sent (frame := frame) hon hsent
    rw [if_pos hframe] at hexec
    refine completes_of_outFrame (execPlResponse_frame (parts_in rfl) (fun _ hr => hr)) hexec (fun _ => ⟨?_, ?_, ?_⟩)
    all_goals rw [State.updLink_link_self]; rfl
  · have hexec := exec_plResponse_of_sent (frame := frame) hon hsent
    rw [if_neg hframe] at hexec
    exact completes_of_frame (execPlResponse_frame (parts_in rfl) (fun _ hr => hr)) (retry_holds hexec hsent hfails)
  · have hexec := exec_plTimeout_of_clocked hon
    rw [State.frameFailed_of_third hsent hfails] at hexec
    refine completes_of_outFrame (execPlTimeout_frame (parts_in rfl) (fun _ hr => hr)) hexec (fun _ => ⟨?_, ?_, fun hl => ?_⟩)
    · rw [State.link_of_links (State.when_keeps (fun t => t.links) State.startRetract_links), State.updLink_link_self]
    · rw [State.link_of_links (State.when_keeps (fun t => t.links) State.startRetract_links), State.updLink_link_self]
    · rw [decide_eq_true hl]
      exact State.startRetract_active l
  · exact completes_of_frame (execPlTimeout_frame (parts_in rfl) (fun _ hr => hr)) (retry_holds (exec_plTimeout_of_clocked hon) hsent hfails)
  · refine completes_of_outFrame (execPreampDiscovery_frame (s := s) (l := l) (ident := some regs) (parts_in rfl) (fun _ hr => hr)) (exec_preampDiscovery_of_clocked hon)
      (fun _ => ⟨?_, ?_, ?_, fun i hi => ?_⟩)
    all_goals unfold State.discover; dsimp only; rw [State.updLink_link_self]
    · rw [State.releaseLink_link]
    · exact foldl_put_at (fun i => regs.getD i 0) _ hi
  · refine completes_of_outFrame (execPreampDiscovery_frame (s := s) (l := l) (ident := none) (parts_in rfl) (fun _ hr => hr)) (exec_preampDiscovery_of_clocked hon)
      (fun _ => ⟨?_, ?_, ?_⟩)
    all_goals
      unfold State.discover
      dsimp only
      rw [State.releaseLink_link, if_pos hmissed, State.updLink_link_self]
    all_goals rw [State.releaseLink_link]
  · have hmissed' : ((s.releaseLink l).link l).missed ≠ 0 := by rwa [State.releaseLink_link]
    have hexec := exec_preampDiscovery_of_clocked (ident := none) hon
    rw [State.discover_of_missed hmissed', if_pos hl] at hexec
    refine completes_of_outFrame (execPreampDiscovery_frame (s := s) (l := l) (ident := none) (parts_in rfl) (fun _ hr => hr)) hexec (fun _ => ⟨?_, ?_, ?_⟩)
    · rw [State.startCause_link, State.updLink_link_self, State.releaseLink_link]
    · rw [State.startCause_link, State.updLink_link_self]
    · rw [State.startCause_failed, or_two_pow_bit _ hl]
  · have hmissed' : ((s.releaseLink 4).link 4).missed ≠ 0 := by rwa [State.releaseLink_link]
    have hexec := exec_preampDiscovery_of_clocked (l := 4) (ident := none) hon
    rw [State.discover_of_missed hmissed', if_neg (by decide)] at hexec
    refine completes_of_outFrame (execPreampDiscovery_frame (s := s) (l := 4) (ident := none) (parts_in rfl) (fun _ hr => hr)) hexec (fun _ => ⟨?_, ?_, ?_⟩)
    · rw [State.set_link, State.startCause_link, State.updLink_link_self, State.releaseLink_link]
    · rw [State.set_link, State.startCause_link, State.updLink_link_self]
    · exact State.get_set_self _ _ _ (by decide)
  · refine completes_of_outFrame (execPreampFault_frame (parts_in rfl) (fun _ hr => hr)) (exec_preampFault_of_section hl)
      (fun _ => ⟨State.faultLink_link kill, State.faultLink_irq kill, fun hkill i hi => ?_⟩)
    rw [hkill]
    exact State.faultLink_stopped hi
  · exact completes_of_frame (execPreampFault_frame (s := s) (l := 4) (kill := kill) (parts_in rfl) (fun _ hr => hr))
      ⟨s.noteFault 4, rfl, State.noteFault_link, State.irqMire_mem _⟩

end Sys2Proof.Machine
end

section
set_option Elab.async false
/-! OPERATIONS START AND END (06). GO sets a stream up from its registers (R129); a restart takes the last MARK back (R141,
  R142); MARK and END commit
what was done (R131, R140); an illegal microword ends the operation (R131). -/

namespace Sys2Proof.Machine

variable {s : State} {n : Nat}

/-! ### GO -/

theorem State.setG_get_ne {g : Fld} (k i : Nat) (w : Word) (h : g.addr ≠ (Fld.REED_ST_G_VALUE k i).addr) : (s.setG k i w).get g = s.get g :=
  State.get_set_ne _ _ h

/-- G register `i` takes operand `i`. -/
def State.takeOperand (n i : Nat) (s : State) : State := s.setG n i (BitVec.ofNat 32 (s.get (.REED_OP_VALUE n i)))

/-- G register `8 + i` is 0. -/
def State.zeroG (n i : Nat) (s : State) : State := s.setG n (8 + i) 0

theorem State.takeOperand_get {g : Fld} (i : Nat) (h : g.addr ≠ (Fld.REED_ST_G_VALUE n i).addr) : (s.takeOperand n i).get g = s.get g :=
  State.setG_get_ne _ _ _ h

theorem State.takeOperand_self (i : Nat) : (s.takeOperand n i).get (.REED_ST_G_VALUE n i) = s.get (.REED_OP_VALUE n i) := by
  have hlt : s.get (.REED_OP_VALUE n i) < 2 ^ 32 := s.get_lt _
  unfold State.takeOperand State.setG
  rw [State.get_set_self _ _ _ (by simp), BitVec.toNat_ofNat, Nat.mod_mod, Nat.mod_eq_of_lt hlt]

theorem State.zeroG_get {g : Fld} (i : Nat) (h : g.addr ≠ (Fld.REED_ST_G_VALUE n (8 + i)).addr) : (s.zeroG n i).get g = s.get g :=
  State.setG_get_ne _ _ _ h

/-- The G registers that GO sets (R129): the first eight from the operands, the others to 0. -/
def State.loadG (s : State) (n : Nat) : State := (s.forN 8 (fun i s => s.takeOperand n i)).forN 8 (fun i s => s.zeroG n i)

theorem State.loadG_get {g : Fld} (h : ∀ i, g.addr ≠ (Fld.REED_ST_G_VALUE n i).addr) : (s.loadG n).get g = s.get g := by
  unfold State.loadG
  rw [State.forN_keeps (fun t => t.get g) (fun i t => State.zeroG_get i (h _)),
    State.forN_keeps (fun t => t.get g) (fun i t => State.takeOperand_get i (h _))]

/-- G register `i` of stream n holds its operand. -/
def State.OperandTaken (s t : State) (n i : Nat) : Prop :=
  t.get (.REED_OP_VALUE n i) = s.get (.REED_OP_VALUE n i) ∧ t.get (.REED_ST_G_VALUE n i) = s.get (.REED_OP_VALUE n i)

theorem State.OperandTaken.takeOperand {t : State} {i j : Nat} (h : s.OperandTaken t n i) (hi : i < 8) (hj : j < 8) :
    s.OperandTaken (t.takeOperand n j) n i := by
  obtain ⟨hop, hset⟩ := h
  refine ⟨(State.takeOperand_get j (by dsimp only; omega)).trans hop, ?_⟩
  by_cases hji : j = i
  · subst hji
    exact (State.takeOperand_self j).trans hop
  · exact (State.takeOperand_get j (by dsimp only; omega)).trans hset

theorem State.OperandTaken.zeroG {t : State} {i j : Nat} (h : s.OperandTaken t n i) (hi : i < 8) (hj : j < 8) :
    s.OperandTaken (t.zeroG n j) n i :=
  ⟨(State.zeroG_get j (by dsimp only; omega)).trans h.1, (State.zeroG_get j (by dsimp only; omega)).trans h.2⟩

theorem State.loadG_taken {i : Nat} (hi : i < 8) : s.OperandTaken (s.loadG n) n i := by
  refine State.forN_inv (Inv := fun t => s.OperandTaken t n i) ?_ (fun j hj t ht => ht.zeroG hi hj)
  refine State.forN_reaches (Inv := fun t => t.get (.REED_OP_VALUE n i) = s.get (.REED_OP_VALUE n i))
    (P := fun t => s.OperandTaken t n i) hi rfl (fun j _ t ht => ?_) (fun t ht => ?_) (fun j hj t ht => ht.takeOperand hi hj)
  · exact (State.takeOperand_get j (by dsimp only; omega)).trans ht
  · exact ⟨(State.takeOperand_get i (by dsimp only; omega)).trans ht, (State.takeOperand_self i).trans ht⟩

theorem State.loadG_bus : (s.loadG n).bus = s.bus := by
  unfold State.loadG
  rw [State.forN_keeps (fun t => t.bus) (fun i t => ?_), State.forN_keeps (fun t => t.bus) (fun i t => ?_)]
  · rfl
  · rfl

/-- A stream that an operation starts on. -/
def State.goSeq (s : State) (n : Nat) (q : Seq) : Seq := { q with
  opcode := s.get (.REED_OP_VALUE n 0) % 256, flush := s.is (.REED_ST_CTRL_FLUSH n), epoch := s.get .TIDE_STATUS_EPOCH,
  sticky := {}, stack := [], snapG := (List.range 16).map (fun i => s.greg n i), snapSticky := {}, snapStack := [],
  marked := false, rg := false, wg := false, vg := false, inSector := false, judged := false, checked := false, sectorsDone := 0,
  sectorsCommitted := 0, stall := .none, dataAt := none, noData := false, restartDue := none }

/-- The stream at its entry, before Sedge latches its settings. -/
def State.setOff (s : State) (n : Nat) : State :=
  let entry := s.get (.REED_ST_CTRL_ENTRY n)
  let s := (s.loadG n).updSeq n ((s.loadG n).goSeq n)
  ((((s.set (.REED_ST_PC_PC n) entry).set (.REED_ST_PC_MARK_PC n) entry).set (.REED_ST_STATUS_RESTARTS n) 0).set
    (.REED_ST_STATUS_STATE n) 1).set (.REED_ST_CTRL_ABORT n) 0

theorem State.reedGo_of_idle (h : s.running n = false) : s.reedGo n = (s.setOff n).sedgeGo n := by
  unfold State.reedGo
  rw [if_neg (by simp [h])]
  rfl

theorem State.setOff_seq : (s.setOff n).seq n = (s.loadG n).goSeq n ((s.loadG n).seq n) := by
  unfold State.setOff
  rw [State.set_seq, State.set_seq, State.set_seq, State.set_seq, State.set_seq, State.updSeq_seq_self]

theorem State.setOff_pc : (s.setOff n).get (.REED_ST_PC_PC n) = s.get (.REED_ST_CTRL_ENTRY n) := by
  have hlt : s.get (.REED_ST_CTRL_ENTRY n) < 2 ^ 15 := s.get_lt _
  unfold State.setOff
  dsimp only
  simp (disch := (dsimp only; omega)) only [State.get_set_other]
  exact (State.get_set_self _ _ _ (by dsimp only; omega)).trans (Nat.mod_eq_of_lt hlt)

theorem State.setOff_state : (s.setOff n).get (.REED_ST_STATUS_STATE n) = 1 := by
  unfold State.setOff
  dsimp only
  rw [State.get_set_other _ _ (by dsimp only; omega)]
  exact State.get_set_self _ _ _ (by dsimp only; omega)

theorem State.setOff_restarts : (s.setOff n).get (.REED_ST_STATUS_RESTARTS n) = 0 := by
  unfold State.setOff
  dsimp only
  rw [State.get_set_other _ _ (by dsimp only; omega), State.get_set_other _ _ (by dsimp only; omega)]
  exact State.get_set_self _ _ _ (by dsimp only; omega)

theorem State.setOff_g {i : Nat} (hi : i < 8) : (s.setOff n).get (.REED_ST_G_VALUE n i) = s.get (.REED_OP_VALUE n i) := by
  unfold State.setOff
  dsimp only
  simp (disch := (dsimp only; omega)) only [State.get_set_ne, State.updSeq_get]
  exact (State.loadG_taken hi).2

theorem State.codeInvalid_congr {t : State} (hc : t.get (.SDG_CODE_C n) = s.get (.SDG_CODE_C n))
    (hmeta : t.get (.SDG_CODE_META n) = s.get (.SDG_CODE_META n)) : t.codeInvalid n = s.codeInvalid n := by
  unfold State.codeInvalid
  rw [hc, hmeta]

theorem State.setOff_codeInvalid : (s.setOff n).codeInvalid n = s.codeInvalid n := by
  apply State.codeInvalid_congr
  all_goals
    unfold State.setOff
    dsimp only
    simp (disch := (dsimp only; omega)) only [State.get_set_ne, State.updSeq_get]
    exact State.loadG_get (fun i => by dsimp only; omega)

/-- Sedge's part of GO: its settings of channel n are latched. -/
def State.latchSettings (s : State) (n : Nat) : State := s.updChan n (fun c => { c with
  mode := s.get (.SDG_ST_CTRL_MODE n), step := s.get (.SDG_ST_CTRL_STEP n), comb := s.is (.SDG_ST_CTRL_COMB n),
  forceTimed := s.is (.SDG_ST_CTRL_FORCE_TIMED n), iterOtf := min 24 (max 1 (s.get (.SDG_ST_CTRL_ITER_OTF n))),
  adaptEn := s.is (.SDG_ST_CTRL_ADAPT_EN n), altSet := max 1 (s.get (.SDG_ST_CTRL_ALT_SET n)), adv := s.get (.SDG_WR_CFG_ADV n),
  marker := s.is (.SDG_WR_CFG_MARKER n), mu := s.get (.SDG_EQ_CFG_MU n), muLadder := s.get (.SDG_EQ_CFG_MU_LADDER n),
  npAdapt := s.is (.SDG_EQ_CFG_NP_ADAPT n), codeBad := s.codeInvalid n })

theorem State.sedgeGo_eq : s.sedgeGo n =
    ((s.latchSettings n).codeStatus n).when ((s.latchSettings n).codeInvalid n) (fun s => s.raise 0x0701 n) := rfl

theorem State.sedgeGo_get {g : Fld} (halarm : alarmRegs.all (fun r => r.apartB g) = true)
    (hcode : ([.arr (.SDG_ST_STATUS_CODE_ERR 0) 0x400 8] : List Regs).all (fun r => r.apartB g) = true) : (s.sedgeGo n).get g = s.get g := by
  rw [State.sedgeGo_eq]
  refine (State.when_get ?_).trans ?_
  · exact State.raise_mild_get (by decide +kernel) halarm
  · exact (State.codeStatus_get hcode).trans (State.updChan_get ..)

theorem State.sedgeGo_seq (m : Nat) : (s.sedgeGo n).seq m = s.seq m := by
  rw [State.sedgeGo_eq]
  refine (State.when_keeps (fun t => t.seq m) ?_).trans ?_
  · exact State.raise_mild_seq (by decide +kernel) m
  · exact State.seq_of_seqs State.codeStatus_seqs m

theorem State.sedgeGo_latched (h : s.codeInvalid n = true) : (s.sedgeGo n).latched 0x0701 n = true := by
  have hinvalid : (s.latchSettings n).codeInvalid n = true := h
  rw [State.sedgeGo_eq, hinvalid]
  exact State.raise_latched_true (by decide +kernel)

theorem State.sedgeGo_bus : (s.sedgeGo n).bus = s.bus := by
  rw [State.sedgeGo_eq]
  refine (State.when_keeps (fun t => t.bus) ?_).trans ?_
  · exact State.raise_bus _ _ _
  · exact State.codeStatus_bus

theorem State.setOff_bus : (s.setOff n).bus = s.bus := by
  unfold State.setOff
  rw [State.set_bus, State.set_bus, State.set_bus, State.set_bus, State.set_bus, State.updSeq_bus, State.loadG_bus]

/-! ### Restarts -/

/-- What a restart takes back, before the event is posted and the program goes on at MARK. -/
def State.rewind (s : State) (n : Nat) : State :=
  let q := s.seq n
  let s := s.dropGates n 9
  let s := ((s.updChan n (fun c => { c with cur := none, vfy := if q.checked then c.vfy.dropLast else c.vfy })).endDefects n).sdgStatus n
  let s := (s.updStage n (fun g => if g.read then
      { g with resv := 0, moved := min g.moved q.sectorsCommitted, data := g.data.filter (fun e => decide (e.1 < q.sectorsCommitted)) }
    else { g with resv := 0 })).stgStatus n
  s.forN 16 (fun i s => s.setG n i (q.snapG.getD i 0))

/-- The stream as MARK left it. -/
def Seq.rewound (q : Seq) : Seq := { q with
  sticky := q.snapSticky, stack := q.snapStack, inSector := false, judged := false, checked := false, sectorsDone := q.sectorsCommitted,
  marked := false, dataAt := none, noData := false, restartDue := none, stall := .none }

/-- A restart up to the state that the stream takes. -/
def State.restarted (s : State) (n cause : Nat) : State :=
  let count := s.get (.REED_ST_STATUS_RESTARTS n) + 1
  let s := ((s.rewind n).updSeq n Seq.rewound).set (.REED_ST_STATUS_RESTARTS n) count
  let s := s.reedEvent n 14 (cause * 16 + count % 16)
  s.set (.REED_ST_PC_PC n) (s.get (.REED_ST_PC_MARK_PC n))

/-- The stream runs on, or waits for room for its event. -/
def State.resume (s : State) (n : Nat) : State := if (s.seq n).owed = [] then s.set (.REED_ST_STATUS_STATE n) 1 else s.stallOn n .restart

theorem State.restart_of_room {cause : Nat}
    (h : s.get (.REED_ST_STATUS_RESTARTS n) + 1 ≤ max 1 (s.get (.REED_ST_CFG_MAX_RESTART n))) :
    s.restart n cause = (s.restarted n cause).resume n := by
  unfold State.restart
  lift_lets
  extract_lets q count s1 s2 s3 s4 s5 s6 s7
  rw [if_neg (by omega)]
  rfl

/-- The registers that taking back a fragment may write. -/
abbrev rewindRegs : List Regs := [.fld .SDG_WF_STATUS_CAUSE_SEEN, .arr (.SDG_WR_STATUS_WG 0) 0x400 8, .arr (.SDG_WR_STATUS_CAUSE 0) 0x400 8,
  .arr (.SDG_WR_STATUS_DROPS 0) 0x400 8, .arr (.SDG_WR_DROP_MANG 0) 0x400 8, .arr (.SDG_FE_STATUS_TA_ACTIVE 0) 0x400 8,
  .arr (.SDG_FE_STATUS_DO_ACTIVE 0) 0x400 8, .fld .SDG_STATUS_RES_IRQ, .fld .SDG_STATUS_PENDING, .arr (.SDG_ST_STATUS_RES_CNT 0) 0x400 8,
  .arr (.SDG_ST_STATUS_PARK_USED 0) 0x400 8, .arr (.SDG_ST_STATUS_PENDING_CNT 0) 0x400 8, .arr (.SLU_STG_STATUS_ACTIVE 0) 0x4 8,
  .arr (.SLU_STG_STATUS_DIR 0) 0x4 8, .arr (.SLU_STG_STATUS_RESV 0) 0x4 8, .arr (.SLU_STG_STATUS_READY 0) 0x4 8]

theorem State.rewind_get {g : Fld} (h : rewindRegs.all (fun r => r.apartB g) = true) (hg : ∀ i, g.addr ≠ (Fld.REED_ST_G_VALUE n i).addr) :
    (s.rewind n).get g = s.get g := by
  unfold State.rewind
  dsimp only
  rw [State.forN_keeps (fun t => t.get g) (fun i t => State.setG_get_ne _ _ _ (hg i)),
    State.stgStatus_get (apart_sub h (by decide +kernel)), State.updStage_get, State.sdgStatus_get (apart_sub h (by decide +kernel)),
    State.endDefects_get (apart_sub h (by decide +kernel)), State.updChan_get, State.dropGates_get (apart_sub h (by decide +kernel))]

theorem State.rewind_seq : ∃ v, (s.rewind n).seq n = (s.seq n).gatesLow v := by
  obtain ⟨v, hv⟩ := s.dropGates_seq n 9
  refine ⟨v, ?_⟩
  unfold State.rewind
  dsimp only
  rw [State.forN_keeps (fun t => t.seq n) (fun i t => by unfold State.setG; exact State.set_seq _ _ _), State.stgStatus_seq,
    State.updStage_seq, State.sdgStatus_seq, State.endDefects_seq, State.updChan_seq, hv]

theorem State.restarted_seq (cause : Nat) : ∃ v ev ow,
    (s.restarted n cause).seq n = { ((s.seq n).gatesLow v).rewound with events := ev, owed := ow } := by
  obtain ⟨v, hv⟩ := s.rewind_seq (n := n)
  obtain ⟨ev, ow,
    hev⟩ := (((s.rewind n).updSeq n Seq.rewound).set (.REED_ST_STATUS_RESTARTS n) (s.get (.REED_ST_STATUS_RESTARTS n) + 1)).reedEvent_seq
    n 14 (cause * 16 + (s.get (.REED_ST_STATUS_RESTARTS n) + 1) % 16)
  refine ⟨v, ev, ow, ?_⟩
  unfold State.restarted
  dsimp only
  rw [State.set_seq, hev, State.set_seq, State.updSeq_seq_self, hv]

theorem State.restarted_restarts {cause : Nat}
    (h : s.get (.REED_ST_STATUS_RESTARTS n) + 1 ≤ max 1 (s.get (.REED_ST_CFG_MAX_RESTART n))) :
    (s.restarted n cause).get (.REED_ST_STATUS_RESTARTS n) = s.get (.REED_ST_STATUS_RESTARTS n) + 1 := by
  have hmax : s.get (.REED_ST_CFG_MAX_RESTART n) < 2 ^ 4 := s.get_lt _
  unfold State.restarted
  dsimp only
  rw [State.get_set_other _ _ (by dsimp only; omega),
    State.reedEvent_get (apart_mod (n := 8) _ (by decide) (by simp) (by decide +kernel) n)]
  exact (State.get_set_self _ _ _ (by dsimp only; omega)).trans (Nat.mod_eq_of_lt (by dsimp only; omega))

theorem State.restarted_pc (cause : Nat) : (s.restarted n cause).get (.REED_ST_PC_PC n) = s.get (.REED_ST_PC_MARK_PC n) := by
  have hlt : s.get (.REED_ST_PC_MARK_PC n) < 2 ^ 15 := s.get_lt _
  unfold State.restarted
  dsimp only
  rw [State.reedEvent_get (g := .REED_ST_PC_MARK_PC n) (apart_mod (n := 8) _ (by decide) (by simp) (by decide +kernel) n),
    State.get_set_other (g := .REED_ST_PC_MARK_PC n) _ _ (by dsimp only; omega), State.updSeq_get,
    State.rewind_get (apart_mod (n := 8) _ (by decide) (by simp) (by decide +kernel) n) (fun i => by dsimp only; omega)]
  exact (State.get_set_self _ _ _ (by dsimp only; omega)).trans (Nat.mod_eq_of_lt hlt)

theorem State.resume_get {g : Fld} (h : g.addr ≠ (Fld.REED_ST_STATUS_STATE n).addr ∨
    (Fld.REED_ST_STATUS_STATE n).lo + (Fld.REED_ST_STATUS_STATE n).width ≤ g.lo ∨ g.lo + g.width ≤ (Fld.REED_ST_STATUS_STATE n).lo) :
    (s.resume n).get g = s.get g := by
  unfold State.resume
  split
  · exact State.get_set_other _ _ h
  · exact State.stallOn_get _ h

theorem State.resume_seq : ∃ x, (s.resume n).seq n = { s.seq n with stall := x } := by
  unfold State.resume
  split
  · exact ⟨(s.seq n).stall, State.set_seq _ _ _⟩
  · exact ⟨.restart, State.stallOn_seq _⟩

theorem State.resume_running : (s.resume n).running n = true := by
  unfold State.resume
  split
  · exact State.running_of_state (v := 1) (State.get_set_self _ _ _ (by dsimp only; omega)) (by decide)
  · exact State.running_of_state (State.stallOn_state _) (by decide)

theorem State.restart_past_max {cause : Nat}
    (h : max 1 (s.get (.REED_ST_CFG_MAX_RESTART n)) < s.get (.REED_ST_STATUS_RESTARTS n) + 1) : s.restart n cause = s.terminate n 8 9 := by
  unfold State.restart
  exact if_pos h

theorem exec_restartEvent {c : Nat} (hdue : (s.seq n).restartDue = some c) (hclock : s.domainOn (20 + n) = true) (hrun :
    s.running n = true) :
    exec (.restartEvent n) s = .next (s.restart n c) := by
  change execRestartEvent n s = _
  rw [execRestartEvent, hdue, hclock, hrun]
  rfl

/-! ### MARK, END and illegal microwords -/

/-- What MARK leaves before the stream goes on. -/
def State.markedAt (s : State) (n a : Nat) : State :=
  ((s.commitSectors n).updSeq n (fun q => { q with
    snapG := (List.range 16).map (fun i => (s.commitSectors n).greg n i), snapSticky := q.sticky, snapStack := q.stack,
      marked := true })).set
      (.REED_ST_PC_MARK_PC n) a

theorem exec_mark {a sel opd : Nat} (h : s.microAt n 0x08 = some (a, sel, opd)) (hroom : s.commitRoom n = true) :
    exec (.mark n) s = .next ((s.markedAt n a).advanceTo n (a + 1)) := by
  change execMark n s = _
  rw [execMark, h]
  dsimp only
  rw [if_pos hroom]
  rfl

theorem exec_mark_of_full {a sel opd : Nat} (h : s.microAt n 0x08 = some (a, sel, opd)) (hroom : s.commitRoom n = false) :
    exec (.mark n) s = .next (s.stallOn n .room) := by
  change execMark n s = _
  rw [execMark, h]
  dsimp only
  rw [if_neg (by simp [hroom])]

theorem State.commitSectors_greg (i : Nat) : (s.commitSectors n).greg n i = s.greg n i :=
  congrArg (BitVec.ofNat 32) (State.commitSectors_get
    (apart_mod_mod (n := 8) (m := 16) _ (by decide) (by decide) (by simp) (by decide +kernel) n i))

theorem State.markedAt_seq (a : Nat) : ((s.markedAt n a).seq n).marked = true ∧
    ((s.markedAt n a).seq n).sectorsCommitted = (s.seq n).sectorsDone ∧
    ((s.markedAt n a).seq n).snapG = (List.range 16).map (fun i => s.greg n i) := by
  obtain ⟨ev, ow, h⟩ := s.commitSectors_seq n
  unfold State.markedAt
  rw [State.set_seq, State.updSeq_seq_self, h]
  exact ⟨rfl, rfl, List.map_congr_left (fun i _ => State.commitSectors_greg i)⟩

theorem State.markedAt_pc (a : Nat) : (s.markedAt n a).get (.REED_ST_PC_MARK_PC n) = a % 2 ^ 15 :=
  State.get_set_self _ _ _ (by dsimp only; omega)

/-- The stream as END leaves it before its operation ends. -/
def State.concluded (s : State) (n opd : Nat) : State := (s.commitSectors n).set (.REED_ST_STATUS_RESULT n) opd

theorem State.concluded_running (opd : Nat) : (s.concluded n opd).running n = s.running n := by
  refine congrArg (· != 0) ?_
  unfold State.concluded
  rw [State.get_set_other _ _ (by dsimp only; omega)]
  exact State.commitSectors_get (apart_mod (n := 8) _ (by decide) (by simp) (by decide +kernel) n)

theorem State.terminate_result {term cause : Nat} (h : s.running n = true) :
    (s.terminate n term cause).get (.REED_ST_STATUS_RESULT n) = s.get (.REED_ST_STATUS_RESULT n) := by
  rw [State.terminate_of_running h, State.reported_get (apart_mod (n := 8) _ (by decide) (by simp) (by decide +kernel) n),
    State.get_set_other _ _ (by dsimp only; omega), State.get_set_other _ _ (by dsimp only; omega)]
  exact State.lowered_get (apart_mod (n := 8) _ (by decide) (by simp) (by decide +kernel) n)

theorem State.terminate_committed {term cause : Nat} (h : s.running n = true) :
    ((s.terminate n term cause).seq n).sectorsCommitted = (s.seq n).sectorsCommitted := by
  obtain ⟨v, hv⟩ := State.terminate_seq (term := term) (cause := cause) h
  rw [hv]
  rfl

theorem State.concluded_committed (opd : Nat) : ((s.concluded n opd).seq n).sectorsCommitted = (s.seq n).sectorsDone := by
  obtain ⟨ev, ow, h⟩ := s.commitSectors_seq n
  unfold State.concluded
  rw [State.set_seq, h]

theorem exec_microEnd {a sel opd : Nat} (h : s.microAt n 0x3F = some (a, sel, opd)) (hroom : s.commitRoom n = true) :
    exec (.microEnd n) s = .next ((s.concluded n opd).terminate n 0 0) := by
  change execMicroEnd n s = _
  rw [execMicroEnd, h]
  dsimp only
  rw [if_pos hroom]
  rfl

theorem exec_microEnd_of_full {a sel opd : Nat} (h : s.microAt n 0x3F = some (a, sel, opd)) (hroom : s.commitRoom n = false) :
    exec (.microEnd n) s = .next (s.stallOn n .room) := by
  change execMicroEnd n s = _
  rw [execMicroEnd, h]
  dsimp only
  rw [if_neg (by simp [hroom])]

/-- The word at PC is no legal microword. -/
def State.badWord (s : State) (n : Nat) : Bool :=
  match s.fetchMicro n with
  | some (_, w) => !microLegal (microOp w) (microSel w) (microOpd w)
  | none => true

theorem exec_illegalMicroword (hbad : s.badWord n = true) (hrun : s.running n = true) (hclock : s.domainOn (20 + n) = true)
    (hdue : (s.seq n).restartDue = none) : exec (.illegalMicroword n) s = .next (s.programFault n 5) := by
  change Host.Outcome.next (s.when (s.badWord n && s.running n && s.domainOn (20 + n) && (s.seq n).restartDue.isNone) (fun s => s.programFault n 5)) = _
  rw [hbad, hrun, hclock, hdue]
  rfl

/-- Settles O18: each operation is the model's own; what it leaves of the stream is read off the last step that writes it. -/
theorem operationsStartAndEnd : Obligations.OperationsStartAndEnd := by
  unfold Obligations.OperationsStartAndEnd
  refine ⟨fun s n hn hclock hidle => ?_, fun s n hclock hrun => ?_, fun s n hn hclock hrun => ?_, fun s n hclock hrun => ?_,
    fun s n set hclock => ?_, fun s n c hn hdue hon hrun hroom => ?_, fun s n c hn hdue hon hrun hpast => ?_,
    fun s n a sel opd hat hroom => ?_, fun s n a sel opd hat hfull => ?_, fun s n a sel opd hn hat hroom => ?_,
    fun s n a sel opd hat hfull => ?_, fun s n hn hfetch hrun hon hdue => ?_, fun s n a w hn hfetch hill hrun hon hdue => ?_⟩
  · have hidle' : s.ack.running n = false := hidle
    refine completes_of_outFrame (execReedGo_frame (parts_in rfl) (fun _ hr => hr)) (t := (s.ack.setOff n).sedgeGo n) ?_
      (fun _ => ⟨?_, ?_, ?_, ?_, ?_, fun i hi => ?_, fun hbad => ?_, ?_⟩)
    · change execReedGo n s = _
      rw [execReedGo, State.access_of_clocked _ hclock, State.reedGo_of_idle hidle']
    · rw [State.sedgeGo_get (apart_mod (n := 8) _ (by decide) (by simp) (by decide +kernel) n) (apart_mod (n := 8) _ (by decide) (by simp) (by decide +kernel) n), State.setOff_pc, State.ack_get]
    · rw [State.sedgeGo_get (apart_mod (n := 8) _ (by decide) (by simp) (by decide +kernel) n) (apart_mod (n := 8) _ (by decide) (by simp) (by decide +kernel) n), State.setOff_state]
    · rw [State.sedgeGo_get (apart_mod (n := 8) _ (by decide) (by simp) (by decide +kernel) n) (apart_mod (n := 8) _ (by decide) (by simp) (by decide +kernel) n), State.setOff_restarts]
    · rw [State.sedgeGo_seq, State.setOff_seq]
      exact congrArg (· % 256) (State.loadG_get (s := s.ack) (n := n) (g := .REED_OP_VALUE n 0) (fun i => by dsimp only; omega))
    · rw [State.sedgeGo_seq, State.setOff_seq]
      rfl
    · rw [State.sedgeGo_get (apart_mod_mod (n := 8) (m := 16) _ (by decide) (by decide) (by simp) (by decide +kernel) n i) (apart_mod_mod (n := 8) (m := 16) _ (by decide) (by decide) (by simp) (by decide +kernel) n i), State.setOff_g hi, State.ack_get]
    · exact State.sedgeGo_latched (State.setOff_codeInvalid.trans hbad)
    · rw [State.sedgeGo_bus, State.setOff_bus]
      rfl
  · refine completes_of_outFrame (execReedGo_frame (parts_in rfl) (fun _ hr => hr)) (t := s.ack) ?_ (fun _ => ⟨rfl, rfl, rfl⟩)
    have hrun' : s.ack.running n = true := hrun
    change execReedGo n s = _
    rw [execReedGo, State.access_of_clocked _ hclock, State.reedGo, if_pos hrun']
  · refine completes_of_outFrame (execReedKill_frame (parts_in rfl) (fun _ hr => hr)) (t := s.ack.terminate n 1 0) ?_
      (fun _ => ⟨State.terminate_state n 1 0, State.terminate_term hrun, ?_, ?_, State.terminate_irq hrun, State.terminate_bus 1 0⟩)
    · change execReedKill n s = _
      rw [execReedKill, State.access_of_clocked _ hclock]
    all_goals
      obtain ⟨v, hv⟩ := State.terminate_seq (s := s.ack) (term := 1) (cause := 0) hrun
      rw [hv]
      rfl
  · refine completes_of_outFrame (execReedRestart_frame (parts_in rfl)) (t := s.ack.restartDue n 3) ?_ (fun _ => ⟨?_, rfl⟩)
    · have hrun' : s.ack.running n = true := hrun
      change execReedRestart n s = _
      rw [execReedRestart, State.access_of_clocked _ hclock, hrun']
      rfl
    · unfold State.restartDue
      rw [State.updSeq_seq_self]
      rfl
  · refine completes_of_outFrame (execReedAbort_frame (parts_in rfl) (fun _ hr => hr)) (t := s.ack.setIf (.REED_ST_CTRL_ABORT n) set) ?_
      (fun _ => ⟨?_, rfl⟩)
    · change execReedAbort n set s = _
      rw [execReedAbort, State.access_of_clocked _ hclock]
    · refine (State.get_set_self _ _ _ (by dsimp only; omega)).trans ?_
      cases set <;> rfl
  · refine completes_of_outFrame (execRestartEvent_frame (parts_in rfl) (fun _ hr => hr)) (exec_restartEvent hdue hon hrun) (fun _ => ?_)
    obtain ⟨v, ev, ow, hq⟩ := s.restarted_seq (n := n) c
    obtain ⟨x, hx⟩ := (s.restarted n c).resume_seq (n := n)
    rw [State.restart_of_room hroom, State.resume_get (by dsimp only; omega), State.resume_get (by dsimp only; omega), hx, hq]
    exact ⟨State.restarted_restarts hroom, State.restarted_pc c, rfl, rfl, rfl, State.resume_running⟩
  · refine completes_of_outFrame (execRestartEvent_frame (parts_in rfl) (fun _ hr => hr)) (exec_restartEvent hdue hon hrun) (fun _ => ?_)
    rw [State.restart_past_max hpast]
    exact ⟨State.terminate_state n 8 9, State.terminate_term hrun⟩
  · refine completes_of_outFrame (execMark_frame (parts_in rfl) (fun _ hr => hr)) (exec_mark hat hroom)
      (fun _ => ⟨?_, State.advanceTo_pc _, State.advanceTo_state _, ?_⟩)
    · rw [State.advanceTo_get _ (by dsimp only; omega) (by dsimp only; omega), State.markedAt_pc]
    · rw [State.advanceTo_seq]
      exact State.markedAt_seq a
  · exact completes_of_outFrame (execMark_frame (parts_in rfl) (fun _ hr => hr)) (exec_mark_of_full hat hfull)
      (fun _ => ⟨State.stallOn_stall _, State.stallOn_state _⟩)
  · have hrun : (s.concluded n opd).running n = true := (State.concluded_running opd).trans (State.microAt_running hat)
    refine completes_of_outFrame (execMicroEnd_frame (parts_in rfl) (fun _ hr => hr)) (exec_microEnd hat hroom)
      (fun _ => ⟨?_, State.terminate_state n 0 0, State.terminate_term hrun, ?_, State.terminate_irq hrun⟩)
    · rw [State.terminate_result hrun]
      exact State.get_set_self _ _ _ (by dsimp only; omega)
    · rw [State.terminate_committed hrun, State.concluded_committed]
  · exact completes_of_outFrame (execMicroEnd_frame (parts_in rfl) (fun _ hr => hr)) (exec_microEnd_of_full hat hfull)
      (fun _ => ⟨State.stallOn_stall _, State.stallOn_state _⟩)
  · refine completes_of_outFrame (execIllegalMicroword_frame (parts_in rfl) (fun _ hr => hr)) (exec_illegalMicroword ?_ hrun hon hdue)
      (fun _ => State.programFault_ends hrun (by decide))
    unfold State.badWord
    rw [hfetch]
  · refine completes_of_outFrame (execIllegalMicroword_frame (parts_in rfl) (fun _ hr => hr)) (exec_illegalMicroword ?_ hrun hon hdue)
      (fun _ => State.programFault_ends hrun (by decide))
    unfold State.badWord
    rw [hfetch]
    simp [hill]

end Sys2Proof.Machine
end

section
set_option Elab.async false
/-! WAITS, JUMPS AND CALLS (06). A wait stalls until its condition, its count or its angle is there (R130); a jump,
  a call and a return set PC
(R131). -/

namespace Sys2Proof.Machine

variable {s : State} {n : Nat}

theorem State.sticky_seq (f : Sticky → Sticky) : (s.sticky n f).seq n = { s.seq n with sticky := f (s.seq n).sticky } :=
  State.updSeq_seq_self n _

theorem State.advanceTo_stall (pc : Nat) : ((s.advanceTo n pc).seq n).stall = .none := by rw [State.advanceTo_seq]

/-! ### Waits on a condition -/

/-- TO cleared, as the first issue of a WAIT does. -/
def State.clearTimeout (s : State) (n : Nat) : State := s.sticky n (fun k => { k with timedOut := false })

/-- A WAIT after its first issue: on, when its condition holds, or stalled. -/
def State.waitOn (s : State) (n a sel opd : Nat) : State :=
  if s.cond n sel != decide (2 ^ 21 ≤ opd) then s.advanceTo n (a + 1) else s.stallOn n .cond

theorem State.waitOn_of_true {a sel opd : Nat} (h : (s.cond n sel != decide (2 ^ 21 ≤ opd)) = true) :
    s.waitOn n a sel opd = s.advanceTo n (a + 1) := if_pos h

theorem State.waitOn_of_false {a sel opd : Nat} (h : (s.cond n sel != decide (2 ^ 21 ≤ opd)) = false) :
    s.waitOn n a sel opd = s.stallOn n .cond := if_neg (Bool.eq_false_iff.1 h)

theorem exec_wait_again {a sel opd : Nat} (h : s.microAt n 0x01 = some (a, sel, opd)) (hstall : (s.seq n).stall = .cond) :
    exec (.wait n) s = .next (s.waitOn n a sel opd) := by
  change execWait n s = _
  rw [execWait, h]
  dsimp only
  rw [hstall]
  rfl

theorem exec_wait_first {a sel opd : Nat} (h : s.microAt n 0x01 = some (a, sel, opd)) (hstall : (s.seq n).stall ≠ .cond) :
    exec (.wait n) s = .next ((s.clearTimeout n).waitOn n a sel opd) := by
  change execWait n s = _
  rw [execWait, h]
  dsimp only
  rw [decide_eq_true hstall]
  rfl

theorem State.clearTimeout_cond {sel : Nat} (h : sel ≠ 5) : (s.clearTimeout n).cond n sel = s.cond n sel := by
  unfold State.cond
  rw [show (s.clearTimeout n).seq n = { s.seq n with sticky := { (s.seq n).sticky with timedOut := false } } from State.sticky_seq _]
  dsimp only
  split
  case h_6 => exact absurd rfl h
  all_goals rfl

theorem exec_waitTimeout {a sel opd : Nat} (h : s.microAt n 0x01 = some (a, sel, opd)) : exec (.waitTimeout n) s =
    .next (if (s.seq n).stall = .cond ∧ opd % 2 ^ 21 ≠ 0 then (s.sticky n (fun k => { k with timedOut := true })).advanceTo n (a + 1) else s) := by
  change execWaitTimeout n s = _
  rw [execWaitTimeout, h]

theorem exec_waitc {a sel opd : Nat} (h : s.microAt n 0x02 = some (a, sel, opd)) : exec (.waitc n) s =
    .next (if opd = 0 ∨ (s.seq n).stall = .cycles then s.advanceTo n (a + 1) else s.stallOn n .cycles) := by
  change execWaitc n s = _
  rw [execWaitc, h]

/-! ### Waits on an angle -/

/-- What a WAITA does with the outcome of its wait: on, or stalled. -/
def afterAngle (n a : Nat) (r : State × Option Bool) : Host.Outcome State Fault Refusal :=
  match r with
  | (s, some false) => .next s
  | (s, _) => .next (s.advanceTo n (a + 1))

/-- The angle that a WAITA waits for. -/
def State.angleOf (s : State) (n sel opd : Nat) : Word := s.greg n sel + BitVec.ofNat 32 (opd % 2 ^ 21)

/-- LATE as the first issue of a wait for `target` at `mang` leaves it. -/
def State.markLate (s : State) (n : Nat) (mang target : Word) : State := (s.atMang mang).sticky n (fun k => { k with late := !ahead mang target })

theorem State.markLate_late (mang target : Word) : ((s.markLate n mang target).seq n).sticky.late = !ahead mang target :=
  congrArg (fun q => q.sticky.late) (State.sticky_seq _)

theorem State.atMang_greg (mang : Word) (i : Nat) :
    (s.atMang mang).greg n i = s.greg n i := congrArg (BitVec.ofNat 32) (State.atMang_get mang (by dsimp only; omega))

theorem exec_waita {a sel opd : Nat} {mang : Word} (h : s.microAt n 0x03 = some (a, sel, opd)) : exec (.waita n mang) s =
    afterAngle n a ((s.atMang mang).waitAngle n mang (s.angleOf n sel opd) (decide (2 ^ 21 ≤ opd))) := by
  change execWaita n mang s = _
  rw [execWaita, h]
  unfold State.angleOf
  dsimp only
  rw [State.atMang_greg]
  rcases (s.atMang mang).waitAngle n mang (s.greg n sel + BitVec.ofNat 32 (opd % 2 ^ 21)) (decide (2 ^ 21 ≤ opd)) with ⟨t,
    _ | _ | _⟩ <;> rfl

theorem State.waitAngle_again {m t target : Word} {armed next : Bool} (h : (s.seq n).stall = .angle target armed) :
    s.waitAngle n m t next = if angleReached m target armed then (s, some true)
      else (s.stallOn n (.angle target (armed || ahead m target)), some false) := by
  unfold State.waitAngle
  rw [h]

theorem State.waitAngle_first {m t : Word} {next : Bool} (h : (s.seq n).stall.atAngle = false) :
    s.waitAngle n m t next = if m = t then (s.sticky n (fun k => { k with late := !ahead m t }), some true)
      else if (!ahead m t) && !next then (s.sticky n (fun k => { k with late := !ahead m t }), none)
      else ((s.sticky n (fun k => { k with late := !ahead m t })).stallOn n (.angle t (!(!ahead m t))), some false) := by
  unfold State.waitAngle
  split
  next target armed hangle =>
    rw [hangle] at h
    cases h
  next => rfl

theorem ahead_self (m : Word) : ahead m m = true := by simp [ahead]

section first

variable {a sel opd : Nat} {mang : Word} (hat : s.microAt n 0x03 = some (a, sel, opd)) (hfirst : (s.seq n).stall.atAngle = false)
include hat hfirst

theorem exec_waita_first : exec (.waita n mang) s = afterAngle n a
    (if mang = s.angleOf n sel opd then (s.markLate n mang (s.angleOf n sel opd), some true)
      else if (!ahead mang (s.angleOf n sel opd)) && !decide (2 ^ 21 ≤ opd) then (s.markLate n mang (s.angleOf n sel opd), none)
      else ((s.markLate n mang (s.angleOf n sel opd)).stallOn n (.angle (s.angleOf n sel opd) (!(!ahead mang (s.angleOf n sel opd)))),
        some false)) := by
  have hfirst' : ((s.atMang mang).seq n).stall.atAngle = false := hfirst
  rw [exec_waita hat, State.waitAngle_first hfirst']
  rfl

/-- A WAITA that does not wait leaves LATE as it found the angle. -/
theorem exec_waita_on (h : mang = s.angleOf n sel opd ∨ (ahead mang (s.angleOf n sel opd) = false ∧ opd < 2097152)) :
    exec (.waita n mang) s = .next ((s.markLate n mang (s.angleOf n sel opd)).advanceTo n (a + 1)) := by
  rw [exec_waita_first hat hfirst]
  by_cases hm : mang = s.angleOf n sel opd
  · rw [if_pos hm]
    rfl
  · obtain ⟨hlate, hopd⟩ := h.resolve_left hm
    rw [if_neg hm, if_pos (by simpa [hlate] using hopd)]
    rfl

theorem exec_waita_stalls (hm : mang ≠ s.angleOf n sel opd) (h : ahead mang (s.angleOf n sel opd) = true ∨ 2097152 ≤ opd) :
    exec (.waita n mang) s = .next ((s.markLate n mang (s.angleOf n sel opd)).stallOn n
      (.angle (s.angleOf n sel opd) (ahead mang (s.angleOf n sel opd)))) := by
  rw [exec_waita_first hat hfirst, if_neg hm, if_neg (by rcases h with h | h <;> simp [h]), Bool.not_not]
  rfl

end first

theorem State.advanceTo_late (pc : Nat) : ((s.advanceTo n pc).seq n).sticky = (s.seq n).sticky := by rw [State.advanceTo_seq]

theorem State.stallOn_sticky (x : Stall) : ((s.stallOn n x).seq n).sticky = (s.seq n).sticky := by rw [State.stallOn_seq]

/-! ### Jumps and calls -/

theorem exec_jmp {a sel opd : Nat} (h : s.microAt n 0x10 = some (a, sel, opd)) : exec (.jmp n) s = .next (s.advanceTo n opd) := by
  change execJmp n s = _
  rw [execJmp, h]

theorem exec_jcc {a sel opd : Nat} (h : s.microAt n 0x11 = some (a, sel, opd)) :
    exec (.jcc n) s = .next (s.advanceTo n (if s.cond n sel != decide (2 ^ 21 ≤ opd) then opd % 2 ^ 15 else a + 1)) := by
  change execJcc n s = _
  rw [execJcc, h]

theorem exec_call {a sel opd : Nat} (h : s.microAt n 0x12 = some (a, sel, opd)) : exec (.call n) s =
    .next (if 4 ≤ (s.seq n).stack.length then s.programFault n 6
      else (s.updSeq n (fun q => { q with stack := (a + 1) :: q.stack })).advanceTo n opd) := by
  change execCall n s = _
  rw [execCall, h]

theorem exec_ret {a sel opd : Nat} (h : s.microAt n 0x13 = some (a, sel, opd)) : exec (.ret n) s =
    match (s.seq n).stack with
    | r :: rest => .next ((s.updSeq n (fun q => { q with stack := rest })).advanceTo n r)
    | [] => .next (s.programFault n 6) := by
  change execRet n s = _
  rw [execRet, h] <;> rfl

theorem State.setStack_advance (st : List Nat) (pc : Nat) :
    (((s.updSeq n (fun q => { q with stack := st })).advanceTo n pc).seq n).stack = st := by
  rw [State.advanceTo_seq, State.updSeq_seq_self]

/-- Settles O19: the case of each microword is decided by its premises; `advanceTo` and `stallOn` give what it leaves. -/
theorem microwordsWaitAndBranch : Obligations.MicrowordsWaitAndBranch := by
  unfold Obligations.MicrowordsWaitAndBranch
  refine ⟨fun s n a sel opd hat hstall hcond => ?_, fun s n a sel opd hat hstall hcond => ?_, fun s n a sel opd hat hstall hsel hcond => ?_,
    fun s n a sel opd hat hstall hsel hcond => ?_, fun s n a sel opd hat hstall hopd => ?_, fun s n a sel opd hat h => ?_,
    fun s n a sel opd hat hopd hstall => ?_, fun s n a sel opd hat h => ?_, fun s n a sel opd mang target armed hat hstall hreached => ?_,
    fun s n a sel opd mang target armed hat hstall hreached => ?_, fun s n a sel opd mang hat hfirst hmang => ?_,
    fun s n a sel opd mang hat hfirst hmang hahead => ?_, fun s n a sel opd mang hat hfirst hlate hopd => ?_,
    fun s n a sel opd mang hat hfirst hlate hopd => ?_, fun s n a sel opd hat => ?_, fun s n a sel opd hat hcond => ?_,
    fun s n a sel opd hat hcond => ?_, fun s n a sel opd hat hroom => ?_, fun s n a sel opd hat hn hfull => ?_,
    fun s n a sel opd r rest hat hstack => ?_, fun s n a sel opd hat hn hstack => ?_⟩
  · refine completes_of_outFrame (execWait_frame (parts_in rfl) (fun _ hr => hr)) (exec_wait_again hat hstall) (fun _ => ?_)
    rw [State.waitOn_of_true hcond]
    exact ⟨State.advanceTo_pc _, State.advanceTo_state _, State.advanceTo_stall _⟩
  · refine completes_of_outFrame (execWait_frame (parts_in rfl) (fun _ hr => hr)) (exec_wait_again hat hstall) (fun _ => ?_)
    rw [State.waitOn_of_false hcond]
    exact ⟨State.stallOn_state _, State.stallOn_stall _⟩
  · refine completes_of_outFrame (execWait_frame (parts_in rfl) (fun _ hr => hr)) (exec_wait_first hat hstall) (fun _ => ?_)
    rw [State.waitOn_of_true (by rwa [State.clearTimeout_cond hsel]), State.advanceTo_late]
    exact ⟨State.advanceTo_pc _, State.advanceTo_state _, State.advanceTo_stall _,
      congrArg (fun q => q.sticky.timedOut) (State.sticky_seq _)⟩
  · refine completes_of_outFrame (execWait_frame (parts_in rfl) (fun _ hr => hr)) (exec_wait_first hat hstall) (fun _ => ?_)
    rw [State.waitOn_of_false (by rwa [State.clearTimeout_cond hsel]), State.stallOn_sticky]
    exact ⟨State.stallOn_state _, State.stallOn_stall _, congrArg (fun q => q.sticky.timedOut) (State.sticky_seq _)⟩
  · refine completes_of_outFrame (execWaitTimeout_frame (parts_in rfl) (fun _ hr => hr)) (exec_waitTimeout hat) (fun _ => ?_)
    rw [if_pos ⟨hstall, hopd⟩, State.advanceTo_late]
    exact ⟨State.advanceTo_pc _, State.advanceTo_state _, State.advanceTo_stall _,
      congrArg (fun q => q.sticky.timedOut) (State.sticky_seq _)⟩
  · refine completes_of_outFrame (execWaitTimeout_frame (parts_in rfl) (fun _ hr => hr)) (exec_waitTimeout hat) (fun _ => if_neg ?_)
    tauto
  · refine completes_of_outFrame (execWaitc_frame (parts_in rfl) (fun _ hr => hr)) (exec_waitc hat) (fun _ => ?_)
    rw [if_neg (by tauto)]
    exact ⟨State.stallOn_stall _, State.stallOn_state _⟩
  · refine completes_of_outFrame (execWaitc_frame (parts_in rfl) (fun _ hr => hr)) (exec_waitc hat) (fun _ => ?_)
    rw [if_pos h]
    exact ⟨State.advanceTo_pc _, State.advanceTo_state _, State.advanceTo_stall _⟩
  · have hstall' : ((s.atMang mang).seq n).stall = .angle target armed := hstall
    refine completes_of_outFrame (execWaita_frame (parts_in rfl) (fun _ hr => hr)) (t := (s.atMang mang).advanceTo n (a + 1)) ?_
      (fun _ => ⟨State.advanceTo_pc _, State.advanceTo_state _, State.advanceTo_stall _⟩)
    rw [exec_waita hat, State.waitAngle_again hstall', if_pos hreached]
    rfl
  · have hstall' : ((s.atMang mang).seq n).stall = .angle target armed := hstall
    refine completes_of_outFrame (execWaita_frame (parts_in rfl) (fun _ hr => hr))
      (t := (s.atMang mang).stallOn n (.angle target (armed || ahead mang target))) ?_ (fun _ => ⟨State.stallOn_state _,
        State.stallOn_stall _⟩)
    rw [exec_waita hat, State.waitAngle_again hstall', if_neg (by simp [hreached])]
    rfl
  · refine completes_of_outFrame (execWaita_frame (parts_in rfl) (fun _ hr => hr)) (exec_waita_on hat hfirst (.inl hmang)) (fun _ => ?_)
    rw [State.advanceTo_late, State.markLate_late]
    refine ⟨State.advanceTo_pc _, State.advanceTo_state _, State.advanceTo_stall _, ?_⟩
    rw [hmang]
    exact congrArg not (ahead_self _)
  · refine completes_of_outFrame (execWaita_frame (parts_in rfl) (fun _ hr => hr)) (exec_waita_stalls hat hfirst hmang (.inl hahead)) (fun _ => ?_)
    rw [State.stallOn_sticky, State.markLate_late, State.stallOn_stall]
    exact ⟨State.stallOn_state _, congrArg (Stall.angle _) hahead, congrArg not hahead⟩
  · refine completes_of_outFrame (execWaita_frame (parts_in rfl) (fun _ hr => hr)) (exec_waita_on hat hfirst (.inr ⟨hlate,
    hopd⟩)) (fun _ => ?_)
    rw [State.advanceTo_late, State.markLate_late]
    exact ⟨State.advanceTo_pc _, State.advanceTo_state _, State.advanceTo_stall _, congrArg not hlate⟩
  · have hmang : mang ≠ s.angleOf n sel opd := by
      intro h
      rw [State.angleOf] at h
      rw [← h, ahead_self] at hlate
      cases hlate
    refine completes_of_outFrame (execWaita_frame (parts_in rfl) (fun _ hr => hr)) (exec_waita_stalls hat hfirst hmang (.inr hopd)) (fun _ => ?_)
    rw [State.stallOn_sticky, State.markLate_late, State.stallOn_stall]
    exact ⟨State.stallOn_state _, congrArg (Stall.angle _) hlate, congrArg not hlate⟩
  · exact completes_of_outFrame (execJmp_frame (parts_in rfl) (fun _ hr => hr)) (exec_jmp hat)
      (fun _ => ⟨State.advanceTo_pc _, State.advanceTo_state _⟩)
  · refine completes_of_outFrame (execJcc_frame (parts_in rfl) (fun _ hr => hr)) (exec_jcc hat) (fun _ => ⟨?_, State.advanceTo_state _⟩)
    rw [if_pos hcond, State.advanceTo_pc, Nat.mod_mod]
  · refine completes_of_outFrame (execJcc_frame (parts_in rfl) (fun _ hr => hr)) (exec_jcc hat) (fun _ => ⟨?_, State.advanceTo_state _⟩)
    rw [if_neg (Bool.eq_false_iff.1 hcond), State.advanceTo_pc]
  · refine completes_of_outFrame (execCall_frame (parts_in rfl) (fun _ hr => hr)) (exec_call hat) (fun _ => ?_)
    rw [if_neg (by omega)]
    refine ⟨State.advanceTo_pc _, State.advanceTo_state _, ?_⟩
    rw [State.advanceTo_seq, State.updSeq_seq_self]
  · refine completes_of_outFrame (execCall_frame (parts_in rfl) (fun _ hr => hr)) (exec_call hat) (fun _ => ?_)
    rw [if_pos hfull]
    exact State.programFault_ends (State.microAt_running hat) (by decide)
  · refine completes_of_outFrame (execRet_frame (parts_in rfl) (fun _ hr => hr)) (t := (s.updSeq n (fun q => { q with stack := rest })).advanceTo n r) ?_
      (fun _ => ⟨State.advanceTo_pc _, State.advanceTo_state _, State.setStack_advance _ _⟩)
    rw [exec_ret hat, hstack]
  · refine completes_of_outFrame (execRet_frame (parts_in rfl) (fun _ hr => hr)) (t := s.programFault n 6) ?_
      (fun _ => State.programFault_ends (State.microAt_running hat) (by decide))
    rw [exec_ret hat, hstack]

end Sys2Proof.Machine
end

section
set_option Elab.async false
/-! A WRITE GATE THAT IS UP ALREADY (06). GATE raises a gate that is up without another store to SDG_WR_STATUS,
  so in a state whose status does not
tell of the gate it stays at 0. No premise of the statement asks for a gate that is down. -/

namespace Sys2Proof.Machine

/-- A write whose gate is up before its GATE microword raises it at an angle. -/
def raisedGate : Seq :=
  { opcode := 0x02, wg := true, marked := true, inSector := true, stall := .angle 0x20_0000 true
    store := [(0, BitVec.ofNat 32 (0x04 * 2 ^ 26 + 2 ^ 22 + 33))] }

/-- Stream 0 runs that write with Tide locked, and SDG_WR_STATUS(0).WG reads 0. -/
def gateUpStatusDown : State :=
  ((({ seqs := [(0, raisedGate)] } : State).set (.REED_ST_STATUS_STATE 0) 1).set .TIDE_STATUS_STATE 3).set (.TIDE_ST_CBPC_CBPC 0) 1000

/-- SDG_WR_STATUS(0).WG after the microword. -/
def statusAfterGate : Host.Outcome State Fault Refusal → Option Nat
  | .next t => some (t.get (.SDG_WR_STATUS_WG 0))
  | _ => none

theorem statusAfterGate_gateUpStatusDown : statusAfterGate (exec (.gate 0 0x20_0000 none) gateUpStatusDown) = some 0 := by decide +kernel

/-- Refutes O21: GATE over the raised gate of `gateUpStatusDown` completes and leaves SDG_WR_STATUS(0).WG 0. -/
theorem not_gatesAndTransfers : ¬ Obligations.GatesAndTransfers := by
  unfold Obligations.GatesAndTransfers
  rintro ⟨-, -, -, -, -, -, -, hraise, -⟩
  obtain ⟨t, ht, ⟨-, hwg, -⟩, -⟩ := hraise gateUpStatusDown 0 0 1 33 0x20_0000 0x20_0000 true (by decide +kernel) (by decide +kernel)
    (by decide +kernel) (by decide +kernel) rfl rfl rfl (by decide +kernel) (by decide +kernel) (by decide +kernel) (by decide +kernel)
    (by decide +kernel) (by decide +kernel) (by decide +kernel) (by decide +kernel) (.inl (by decide +kernel)) (by decide +kernel)
  have hzero := statusAfterGate_gateUpStatusDown
  rw [ht, statusAfterGate, hwg] at hzero
  exact absurd hzero (by decide)

end Sys2Proof.Machine
end

section
set_option Elab.async false
/-! DECODES AND RESULTS (07, 08). A decode posts one result or parks its sector (R162, R166,
  R176); what is read of the result queues is taken
from them (R176, R197). -/

namespace Sys2Proof.Machine

variable {s : State} {n : Nat}

/-- What a channel queues, and what names its place in a read. -/
structure Channel.Queues where
  mode : Nat
  step : Nat
  waiting : List Samples
  results : List SectorResult
  park : Tab Park
  sum : Samples
  sumReads : Nat

def Channel.queues (c : Channel) : Channel.Queues := ⟨c.mode, c.step, c.waiting, c.results, c.park, c.sum, c.sumReads⟩

theorem State.updChan_queues {f : Channel → Channel} (h : ∀ c, (f c).queues = c.queues) :
    ((s.updChan n f).chan n).queues = (s.chan n).queues := by
  rw [State.updChan_chan_self, h]

theorem State.telAdd_queues (i k : Nat) : ((s.telAdd n i k).chan n).queues = (s.chan n).queues := State.updChan_queues (fun _ => rfl)

theorem State.telLevel_queues (i v : Nat) : ((s.telLevel n i v).chan n).queues = (s.chan n).queues := State.updChan_queues (fun _ => rfl)

theorem State.telGood_queues (x : Samples) (d : Decode) : ((s.telGood n x d).chan n).queues = (s.chan n).queues := by
  unfold State.telGood
  dsimp only
  rw [State.telAdd_queues, State.telAdd_queues, State.telLevel_queues, State.updChan_chan_self]
  rfl

theorem State.telDecoded_queues (x : Samples) : ((s.telDecoded n x).chan n).queues = (s.chan n).queues := by
  unfold State.telDecoded
  dsimp only
  rw [State.telAdd_queues]
  refine (State.when_keeps (fun t => (t.chan n).queues) (State.telAdd_queues _ _)).trans ?_
  exact (State.when_keeps (fun t => (t.chan n).queues) (State.telAdd_queues _ _)).trans (State.telAdd_queues _ _)

theorem State.deliver_chan (x : Samples) (d : Decode) : (s.deliver n x d).chan n = s.chan n :=
  State.chan_of_chans ((State.deliver_frame (fun _ hp => hp) regsIn_all (Frame.refl _ _ s)).same .chans (by decide)) n

theorem State.adaptTo_queues (l : List (Nat × BitVec 26)) : ((s.adaptTo n l).chan n).queues = (s.chan n).queues :=
  State.updChan_queues (fun _ => rfl)

theorem State.adaptNp_queues : ((s.adaptNp n).chan n).queues = (s.chan n).queues := by
  unfold State.adaptNp
  dsimp only
  exact (congrArg Channel.queues (State.chan_of_chans rfl n)).trans (State.adaptTo_queues _)

theorem State.adaptFrom_queues (x : Samples) (d : Decode) : ((s.adaptFrom n x d).chan n).queues = (s.chan n).queues := by
  unfold State.adaptFrom
  dsimp only
  split
  · rfl
  · split
    · exact State.when_keeps (fun t => (t.chan n).queues) (State.adaptTo_queues _)
    · refine State.when_keeps (fun t => (t.chan n).queues) ?_
      exact (State.when_keeps (fun t => (t.chan n).queues) State.adaptNp_queues).trans (State.adaptTo_queues _)

theorem State.sdgStatus_chan : (s.sdgStatus n).chan n = s.chan n :=
  State.chan_of_chans ((State.sdgStatus_frame (fun _ hp => hp) regsIn_all (Frame.refl _ _ s)).same .chans (by decide)) n

theorem State.postResult_chan {r : SectorResult} (h : (s.chan n).results.length < resultRoom r.outcome) :
    (s.postResult n r).chan n = { s.chan n with results := (s.chan n).results ++ [r] } := by
  unfold State.postResult
  rw [if_pos h]
  dsimp only
  rw [State.sdgStatus_chan]
  refine (State.when_keeps (fun t => t.chan n) ?_).trans (State.updChan_chan_self n _)
  exact State.chan_of_chans (State.irqMire_chans _ _) n

theorem State.postResult_full {r : SectorResult} (h : resultRoom r.outcome ≤ (s.chan n).results.length) :
    ((s.postResult n r).chan n).results = (s.chan n).results ∧ (s.postResult n r).get (.SDG_ST_STATUS_RES_OVF n) = 1 := by
  unfold State.postResult
  rw [if_neg (by omega)]
  refine ⟨?_, ?_⟩
  · rw [State.sdgStatus_chan, State.set_chan, State.updChan_chan_self]
  · rw [State.sdgStatus_get (apart_mod (n := 8) _ (by decide) (by simp) (by decide +kernel) n)]
    exact State.get_set_self _ _ _ (by dsimp only; omega)

theorem resultRoom_least (outcome : Nat) : 64 ≤ resultRoom outcome := by
  unfold resultRoom
  split <;> omega

theorem Channel.resultOf_queues {c c' : Channel} (h : c'.queues = c.queues) (x : Samples) (outcome : Nat) (align : Int) (iter : Nat) :
    c'.resultOf x outcome align iter = c.resultOf x outcome align iter := by
  have hmode : c'.mode = c.mode := congrArg Channel.Queues.mode h
  have hstep : c'.step = c.step := congrArg Channel.Queues.step h
  unfold Channel.resultOf
  rw [hmode, hstep]

/-- The queues with a result more. -/
def Channel.Queues.post (q : Channel.Queues) (r : SectorResult) : Channel.Queues := { q with results := q.results ++ [r] }

theorem State.postResult_queues {t : State} {r : SectorResult} (h : (t.chan n).queues = (s.chan n).queues) (hroom :
    (s.chan n).results.length < 64) :
    ((t.postResult n r).chan n).queues = (s.chan n).queues.post r := by
  have hresults : (t.chan n).results = (s.chan n).results := congrArg Channel.Queues.results h
  have hfits : (t.chan n).results.length < resultRoom r.outcome := by
    have := resultRoom_least r.outcome
    rw [hresults]
    omega
  rw [State.postResult_chan hfits, ← h]
  rfl

theorem State.goodSector_queues {t : State} {x : Samples} {d : Decode} {outcome : Nat} {align : Int}
    (h : (t.chan n).queues = (s.chan n).queues) (hroom : (s.chan n).results.length < 64) :
    ((t.goodSector n x d outcome align).chan n).queues = (s.chan n).queues.post ((s.chan n).resultOf x outcome align d.iterations) := by
  unfold State.goodSector
  dsimp only
  have htel : ((t.when ((t.chan n).mode != 2) (fun s => s.telGood n x d)).chan n).queues = (s.chan n).queues := by
    refine (State.when_keeps (fun t => (t.chan n).queues) ?_).trans h
    exact State.telGood_queues x d
  rw [Channel.resultOf_queues htel]
  refine State.postResult_queues ?_ hroom
  rw [State.adaptFrom_queues, State.deliver_chan, htel]

theorem State.parkOrFail_fails {t : State} {x : Samples} {d : Decode} {sealFailed : Bool} (h : (t.chan n).queues = (s.chan n).queues)
    (hroom : (s.chan n).results.length < 64) (hkeep : (t.chan n).retriable x = false) : ((t.parkOrFail n x d sealFailed).chan n).queues =
      (s.chan n).queues.post ((s.chan n).resultOf x (if sealFailed then 3 else 2) 0 d.iterations) := by
  unfold State.parkOrFail
  dsimp only
  rw [hkeep, if_neg Bool.false_ne_true, Channel.resultOf_queues h]
  exact State.postResult_queues h hroom

theorem State.parkOrFail_parks {x : Samples} {d : Decode} {sealFailed : Bool} {i : Nat} (hretry : (s.chan n).retriable x = true)
    (hfree : (s.chan n).freePark = some i) :
    (s.parkOrFail n x d sealFailed).chan n = { s.chan n with park := (s.chan n).park.put i (.held x 0 sealFailed) } := by
  unfold State.parkOrFail
  dsimp only
  rw [if_pos hretry, hfree]
  exact State.sdgStatus_chan.trans (State.updChan_chan_self n _)

/-! ### Decodes -/

/-- The counters of a decode (R178), before its sector goes on. -/
def State.countDecode (s : State) (n : Nat) (x : Samples) (d : Decode) (v : Verdict) : State :=
  let t := if (s.chan n).mode = 2 then (s.telAdd n 22 1).telAdd n 23 (if v = .good then 0 else 1)
    else s.when ((s.chan n).mode != 3) (fun s => ((s.telDecoded n x).telAdd n (if decide (v = .good) || decide (v = .marked) then 1 else 3) 1).telAdd
      n 2 d.iterations)
  t.when ((s.chan n).mode != 2 && decide (v = .badSeal)) (fun s => s.telAdd n 6 1)

theorem State.countDecode_queues (x : Samples) (d : Decode) (v : Verdict) :
    ((s.countDecode n x d v).chan n).queues = (s.chan n).queues := by
  unfold State.countDecode
  dsimp only
  refine (State.when_keeps (fun t => (t.chan n).queues) (State.telAdd_queues _ _)).trans ?_
  split
  · rw [State.telAdd_queues, State.telAdd_queues]
  · refine State.when_keeps (fun t => (t.chan n).queues) ?_
    rw [State.telAdd_queues, State.telAdd_queues, State.telDecoded_queues]

/-- What a decode of `x` on the channel's settings gives. -/
def State.decoded (s : State) (n : Nat) (x : Samples) : Decode := s.decodeOf n (s.chan n).weightSet (s.chan n).iterLimit ((s.chan n).mode == 3) x

theorem State.decodeSector_eq (x : Samples) : s.decodeSector n x =
    match s.verdict n x.index (s.decoded n x) with
    | .good => (s.countDecode n x (s.decoded n x) .good).goodSector n x (s.decoded n x) 0 0
    | .marked => ((s.countDecode n x (s.decoded n x) .marked).when ((s.chan n).mode != 2) (fun s => s.telAdd n 7 1)).postResult n
        ((s.chan n).resultOf x 4 0 (s.decoded n x).iterations)
    | .badSeal => (s.countDecode n x (s.decoded n x) .badSeal).parkOrFail n x (s.decoded n x) true
    | .failed => (s.countDecode n x (s.decoded n x) .failed).parkOrFail n x (s.decoded n x) false := by
  unfold State.decodeSector State.decoded State.countDecode
  dsimp only
  cases s.verdict n x.index (s.decodeOf n (s.chan n).weightSet (s.chan n).iterLimit ((s.chan n).mode == 3) x) <;> rfl

theorem Channel.retriable_queues {c c' : Channel} (h : c'.queues = c.queues) (x : Samples) : c'.retriable x = c.retriable x :=
  congrArg (fun m => m != 2 && (if x.timed then !x.locked else x.ofs != 0)) (congrArg Channel.Queues.mode h)

theorem Channel.freePark_queues {c c' : Channel} (h : c'.queues = c.queues) : c'.freePark = c.freePark := by
  have hpark : c'.park = c.park := congrArg Channel.Queues.park h
  unfold Channel.freePark
  rw [hpark]

section decoding

variable {x : Samples} (hroom : (s.chan n).results.length < 64)
include hroom

theorem State.decodeSector_good (hv : s.verdict n x.index (s.decoded n x) = .good) :
    ((s.decodeSector n x).chan n).queues = (s.chan n).queues.post ((s.chan n).resultOf x 0 0 (s.decoded n x).iterations) := by
  rw [State.decodeSector_eq, hv]
  exact State.goodSector_queues (State.countDecode_queues x _ _) hroom

theorem State.decodeSector_marked (hv : s.verdict n x.index (s.decoded n x) = .marked) :
    ((s.decodeSector n x).chan n).queues = (s.chan n).queues.post ((s.chan n).resultOf x 4 0 (s.decoded n x).iterations) := by
  rw [State.decodeSector_eq, hv]
  refine State.postResult_queues ((State.when_keeps (fun t => (t.chan n).queues) ?_).trans (State.countDecode_queues x _ _)) hroom
  exact State.telAdd_queues _ _

theorem State.decodeSector_badSeal (hv : s.verdict n x.index (s.decoded n x) = .badSeal) (hkeep : (s.chan n).retriable x = false) :
    ((s.decodeSector n x).chan n).queues = (s.chan n).queues.post ((s.chan n).resultOf x 3 0 (s.decoded n x).iterations) := by
  rw [State.decodeSector_eq, hv]
  exact State.parkOrFail_fails (State.countDecode_queues x _ _) hroom ((Channel.retriable_queues (State.countDecode_queues x _ _) x).trans hkeep)

theorem State.decodeSector_failed (hv : s.verdict n x.index (s.decoded n x) = .failed) (hkeep : (s.chan n).retriable x = false) :
    ((s.decodeSector n x).chan n).queues = (s.chan n).queues.post ((s.chan n).resultOf x 2 0 (s.decoded n x).iterations) := by
  rw [State.decodeSector_eq, hv]
  exact State.parkOrFail_fails (State.countDecode_queues x _ _) hroom ((Channel.retriable_queues (State.countDecode_queues x _ _) x).trans hkeep)

end decoding

theorem State.parkOrFail_held {t : State} {x : Samples} {d : Decode} {sealFailed : Bool} {i : Nat} (h :
    (t.chan n).queues = (s.chan n).queues)
    (hretry : (s.chan n).retriable x = true) (hfree : (s.chan n).freePark = some i) : ((t.parkOrFail n x d sealFailed).chan n).queues =
      { (s.chan n).queues with park := (s.chan n).park.put i (.held x 0 sealFailed) } := by
  rw [State.parkOrFail_parks ((Channel.retriable_queues h x).trans hretry) ((Channel.freePark_queues h).trans hfree)]
  change { (t.chan n).queues with park := (t.chan n).queues.park.put i (.held x 0 sealFailed) } = _
  rw [h]
  rfl

theorem State.decodeSector_parks {x : Samples} {i : Nat}
    (hv : s.verdict n x.index (s.decoded n x) = .badSeal ∨ s.verdict n x.index (s.decoded n x) = .failed)
    (hretry : (s.chan n).retriable x = true) (hfree : (s.chan n).freePark = some i) : ((s.decodeSector n x).chan n).queues =
      { (s.chan n).queues with park := (s.chan n).park.put i (.held x 0 (decide (s.verdict n x.index (s.decoded n x) = .badSeal))) } := by
  rw [State.decodeSector_eq]
  rcases hv with hv | hv <;> rw [hv]
  · exact State.parkOrFail_held (State.countDecode_queues x _ _) hretry hfree
  · exact State.parkOrFail_held (State.countDecode_queues x _ _) hretry hfree

theorem State.decodeSector_park {x : Samples} {i : Nat}
    (hv : s.verdict n x.index (s.decoded n x) = .badSeal ∨ s.verdict n x.index (s.decoded n x) = .failed)
    (hretry : (s.chan n).retriable x = true) (hfree : (s.chan n).freePark = some i) :
    ((s.decodeSector n x).chan n).park.at i = .held x 0 (decide (s.verdict n x.index (s.decoded n x) = .badSeal)) ∧
    ((s.decodeSector n x).chan n).results = (s.chan n).results := by
  have hqueues := State.decodeSector_parks hv hretry hfree
  have hpark : ((s.decodeSector n x).chan n).park =
      (s.chan n).park.put i (.held x 0 (decide (s.verdict n x.index (s.decoded n x) = .badSeal))) := congrArg Channel.Queues.park hqueues
  refine ⟨?_, congrArg Channel.Queues.results hqueues⟩
  rw [hpark, Tab.at_put_self]

/-- The sectors that wait and the combine sum, which no decode writes. -/
def Channel.Queues.reads (q : Channel.Queues) : List Samples × Samples × Nat := (q.waiting, q.sum, q.sumReads)

theorem State.parkOrFail_reads {t : State} {x : Samples} {d : Decode} {sealFailed : Bool} (h : (t.chan n).queues = (s.chan n).queues)
    (hroom : (s.chan n).results.length < 64) : ((t.parkOrFail n x d sealFailed).chan n).queues.reads = (s.chan n).queues.reads := by
  have hpark (i : Nat) (e : Park) : (((t.updChan n (fun c => { c with park := c.park.put i e })).sdgStatus n).chan n).queues.reads =
      (s.chan n).queues.reads := by
    rw [State.sdgStatus_chan, State.updChan_chan_self, ← h]
    rfl
  have hfail (u : State) (r : SectorResult) (hu : (u.chan n).queues = (t.chan n).queues) :
      ((u.postResult n r).chan n).queues.reads = (s.chan n).queues.reads :=
    (congrArg Channel.Queues.reads (State.postResult_queues (hu.trans h) hroom)).trans rfl
  unfold State.parkOrFail
  dsimp only
  split
  · split
    · exact hpark _ _
    · split
      · split
        · exact hpark _ _
        · exact hfail t _ rfl
      · exact hfail _ _ (State.telAdd_queues _ _)
  · exact hfail t _ rfl

theorem State.decodeSector_reads {x : Samples} (hroom : (s.chan n).results.length < 64) :
    ((s.decodeSector n x).chan n).queues.reads = (s.chan n).queues.reads := by
  rcases hv : s.verdict n x.index (s.decoded n x) with _ | _ | _ | _
  · exact (congrArg Channel.Queues.reads (State.decodeSector_good hroom hv)).trans rfl
  · exact (congrArg Channel.Queues.reads (State.decodeSector_marked hroom hv)).trans rfl
  · rw [State.decodeSector_eq, hv]
    exact State.parkOrFail_reads (State.countDecode_queues x _ _) hroom
  · rw [State.decodeSector_eq, hv]
    exact State.parkOrFail_reads (State.countDecode_queues x _ _) hroom

theorem State.decodeSector_keeps {x : Samples} (hroom : (s.chan n).results.length < 64) :
    ((s.decodeSector n x).chan n).waiting = (s.chan n).waiting ∧ ((s.decodeSector n x).chan n).sum = (s.chan n).sum ∧
    ((s.decodeSector n x).chan n).sumReads = (s.chan n).sumReads := by
  have hreads := State.decodeSector_reads (x := x) hroom
  exact ⟨congrArg Prod.fst hreads, congrArg (fun q => q.2.1) hreads, congrArg (fun q => q.2.2) hreads⟩

/-- The first sector that waits, taken from its slot. -/
def State.takeWaiting (s : State) (n : Nat) (rest : List Samples) : State := s.updChan n (fun c => { c with waiting := rest })

theorem State.takeWaiting_chan (rest : List Samples) : (s.takeWaiting n rest).chan n = { s.chan n with waiting := rest } :=
  State.updChan_chan_self n _

theorem State.takeWaiting_decoded (rest : List Samples) (x : Samples) : (s.takeWaiting n rest).decoded n x = s.decoded n x := by
  unfold State.decoded
  rw [State.takeWaiting_chan]
  rfl

theorem State.takeWaiting_verdict (rest : List Samples) (index : Nat) (d : Decode) :
    (s.takeWaiting n rest).verdict n index d = s.verdict n index d := rfl

theorem exec_sectorDecode {x : Samples} {rest : List Samples} (hwait : (s.chan n).waiting = x :: rest)
    (hroom : (s.chan n).results.length < 64) (hon : s.domainOn (69 + n) = true) : exec (.sectorDecode n) s =
      if ((s.takeWaiting n rest).chan n).codeBad then
        .next ((s.takeWaiting n rest).postResult n (((s.takeWaiting n rest).chan n).resultOf x 8 0 0))
      else if ((s.takeWaiting n rest).chan n).mode = 3 ∧ ((s.takeWaiting n rest).chan n).step = 2 then
        let s := (s.takeWaiting n rest).addToSum n x
        .next (if (s.chan n).sumReads = 1 then s.postResult n ((s.chan n).resultOf x 2 0 0)
          else s.decodeSector n { (s.chan n).sum with number := x.number, ofs := x.ofs, timed := x.timed, locked := x.locked })
      else .next ((s.takeWaiting n rest).decodeSector n x) := by
  change execSectorDecode n s = _
  rw [execSectorDecode, hwait]
  dsimp only
  rw [if_neg (by simp [hon]; omega)]
  rfl

theorem exec_sectorDecode_of_badCode {x : Samples} {rest : List Samples} (hwait : (s.chan n).waiting = x :: rest)
    (hroom : (s.chan n).results.length < 64) (hon : s.domainOn (69 + n) = true) (hcode : (s.chan n).codeBad = true) :
    exec (.sectorDecode n) s = .next ((s.takeWaiting n rest).postResult n (((s.takeWaiting n rest).chan n).resultOf x 8 0 0)) := by
  rw [exec_sectorDecode hwait hroom hon, if_pos (by rw [State.takeWaiting_chan]; exact hcode)]

theorem exec_sectorDecode_of_read {x : Samples} {rest : List Samples} (hwait : (s.chan n).waiting = x :: rest)
    (hroom : (s.chan n).results.length < 64) (hon : s.domainOn (69 + n) = true) (hcode : (s.chan n).codeBad = false)
    (hread : (s.chan n).mode ≠ 3 ∨ (s.chan n).step ≠ 2) :
    exec (.sectorDecode n) s = .next ((s.takeWaiting n rest).decodeSector n x) := by
  rw [exec_sectorDecode hwait hroom hon, if_neg (by rw [State.takeWaiting_chan]; simp [hcode]),
    if_neg (by rw [State.takeWaiting_chan]; tauto)]

/-- The sector added to the combine sum, with its result or the sum's decode. -/
def State.sumDecode (s : State) (n : Nat) (x : Samples) : State :=
  if ((s.addToSum n x).chan n).sumReads = 1 then (s.addToSum n x).postResult n (((s.addToSum n x).chan n).resultOf x 2 0 0)
  else (s.addToSum n x).decodeSector n
    { ((s.addToSum n x).chan n).sum with number := x.number, ofs := x.ofs, timed := x.timed, locked := x.locked }

theorem exec_sectorDecode_of_sum {x : Samples} {rest : List Samples} (hwait : (s.chan n).waiting = x :: rest)
    (hroom : (s.chan n).results.length < 64) (hon : s.domainOn (69 + n) = true) (hcode : (s.chan n).codeBad = false)
    (hmode : (s.chan n).mode = 3) (hstep : (s.chan n).step = 2) :
    exec (.sectorDecode n) s = .next ((s.takeWaiting n rest).sumDecode n x) := by
  rw [exec_sectorDecode hwait hroom hon, if_neg (by rw [State.takeWaiting_chan]; simp [hcode]),
    if_pos (by rw [State.takeWaiting_chan]; exact ⟨hmode, hstep⟩)]
  rfl

theorem State.addToSum_first {x : Samples} (h : (s.chan n).comb = false ∨ (s.chan n).sumReads = 0) :
    ∃ hard park, (s.addToSum n x).chan n =
      { s.chan n with sum := { x with erasures := [] }, sumReads := 1, sumHard := hard, park := park } := by
  refine ⟨[hardOf (s.soft n 0 x [])], ((s.chan n).park.put 0 .sum).put 1 .sum, ?_⟩
  unfold State.addToSum
  dsimp only
  rw [State.updChan_chan_self, if_neg (by rcases h with h | h <;> simp [h])]

theorem State.addToSum_more {x : Samples} (hcomb : (s.chan n).comb = true) (hreads : (s.chan n).sumReads ≠ 0) :
    ∃ hard, (s.addToSum n x).chan n =
      { s.chan n with
        sum := { (s.chan n).sum with
          raw := (s.chan n).sum.raw.zipWith (fun a b => ⟨a.a + b.a, a.b + b.b, a.c + b.c⟩) x.raw, erasures := [], coef := x.coef }
        sumReads := (s.chan n).sumReads + 1, sumHard := hard } := by
  refine ⟨(s.chan n).sumHard ++ [hardOf (s.soft n 0 x [])], ?_⟩
  unfold State.addToSum
  dsimp only
  rw [State.updChan_chan_self, if_pos (by simp [hcomb, hreads])]

/-! ### Alignment retries -/

/-- A parked sector leaves its slot, with the CRC failures of its decodes counted. -/
def State.unpark (s : State) (n slot bad : Nat) : State := (s.updChan n (fun c => { c with park := c.park.put slot .free })).telAdd n 6 bad

theorem State.unpark_queues (slot bad : Nat) :
    ((s.unpark n slot bad).chan n).queues = { (s.chan n).queues with park := (s.chan n).park.put slot .free } := by
  unfold State.unpark
  rw [State.telAdd_queues, State.updChan_chan_self]
  rfl

/-- What follows the last alignment tried. -/
def State.retried (s : State) (n : Nat) (c : Channel) (x : Samples) : Option (Int × Samples × Decode × Bool) → State
  | some (a, y, d, true) => (s.telAdd n 4 1).goodSector n y d 1 a
  | some (a, _, d, false) => (s.telAdd n 7 1).postResult n (c.resultOf x 4 a d.iterations)
  | none => (s.telAdd n 5 1).postResult n (c.resultOf x 5 0 24)

theorem exec_alignRetry {slot tries : Nat} {x : Samples} {bad : Bool} {before after : List Sample}
    (hheld : (s.chan n).park.at slot = .held x tries bad) (hwait : (s.chan n).waiting = []) (hroom : (s.chan n).results.length < 64)
    (hon : s.domainOn (69 + n) = true) : exec (.alignRetry n slot before after) s =
      .next ((s.unpark n slot (s.retryLoop n x before after (alternates x) 0).2).retried n (s.chan n) x
        (s.retryLoop n x before after (alternates x) 0).1) := by
  change execAlignRetry n slot before after s = _
  rw [execAlignRetry, hheld, hwait]
  dsimp only
  rw [if_neg (by simp [hon]; omega)]
  rcases (s.retryLoop n x before after (alternates x) 0).1 with _ | ⟨a, y, d, _ | _⟩ <;> rfl

theorem State.unpark_results (slot bad : Nat) : ((s.unpark n slot bad).chan n).results = (s.chan n).results :=
  congrArg Channel.Queues.results (State.unpark_queues slot bad)

theorem State.unpark_park (slot bad : Nat) : ((s.unpark n slot bad).chan n).park.at slot = .free :=
  (congrArg (fun q => q.park.at slot) (State.unpark_queues (s := s) (n := n) slot bad)).trans (Tab.at_put_self (s.chan n).park slot Park.free)

theorem State.unpark_resultOf {slot bad : Nat} (x : Samples) (outcome : Nat) (align : Int) (iter : Nat) :
    ((s.unpark n slot bad).chan n).resultOf x outcome align iter = (s.chan n).resultOf x outcome align iter := by
  have hqueues := State.unpark_queues (s := s) (n := n) slot bad
  have hmode : ((s.unpark n slot bad).chan n).mode = (s.chan n).mode := congrArg Channel.Queues.mode hqueues
  have hstep : ((s.unpark n slot bad).chan n).step = (s.chan n).step := congrArg Channel.Queues.step hqueues
  rw [Channel.resultOf, hmode, hstep]
  rfl

section retried

variable {x : Samples} {c : Channel} (hroom : (s.chan n).results.length < 64)
include hroom

theorem State.retried_good (a : Int) (y : Samples) (d : Decode) :
    ((s.retried n c x (some (a, y, d, true))).chan n).queues = (s.chan n).queues.post ((s.chan n).resultOf y 1 a d.iterations) :=
  State.goodSector_queues (State.telAdd_queues _ _) hroom

theorem State.retried_marked (a : Int) (y : Samples) (d : Decode) :
    ((s.retried n c x (some (a, y, d, false))).chan n).queues = (s.chan n).queues.post (c.resultOf x 4 a d.iterations) :=
  State.postResult_queues (State.telAdd_queues _ _) hroom

theorem State.retried_none : ((s.retried n c x none).chan n).queues = (s.chan n).queues.post (c.resultOf x 5 0 24) :=
  State.postResult_queues (State.telAdd_queues _ _) hroom

theorem State.retried_park (r : Option (Int × Samples × Decode × Bool)) : ((s.retried n c x r).chan n).park = (s.chan n).park := by
  rcases r with _ | ⟨a, y, d, _ | _⟩
  · exact (congrArg Channel.Queues.park (State.retried_none hroom)).trans rfl
  · exact (congrArg Channel.Queues.park (State.retried_marked hroom a y d)).trans rfl
  · exact (congrArg Channel.Queues.park (State.retried_good hroom a y d)).trans rfl

end retried

theorem Channel.Queues.post_results (q : Channel.Queues) (r : SectorResult) : (q.post r).results = q.results ++ [r] := rfl

theorem State.results_of_post {t : State} {r : SectorResult} (h : (t.chan n).queues = (s.chan n).queues.post r) :
    (t.chan n).results = (s.chan n).results ++ [r] := congrArg Channel.Queues.results h

theorem State.retried_effects {slot bad : Nat} {x : Samples} {r : Option (Int × Samples × Decode × Bool)}
    (hroom : (s.chan n).results.length < 64) :
    (((s.unpark n slot bad).retried n (s.chan n) x r).chan n).park.at slot = .free ∧
    (∀ a y d, r = some (a, y, d, true) → (((s.unpark n slot bad).retried n (s.chan n) x r).chan n).results =
      (s.chan n).results ++ [(s.chan n).resultOf y 1 a d.iterations]) ∧
    (∀ a y d, r = some (a, y, d, false) → (((s.unpark n slot bad).retried n (s.chan n) x r).chan n).results =
      (s.chan n).results ++ [(s.chan n).resultOf x 4 a d.iterations]) ∧
    (r = none → (((s.unpark n slot bad).retried n (s.chan n) x r).chan n).results =
      (s.chan n).results ++ [(s.chan n).resultOf x 5 0 24]) := by
  have hroom' : ((s.unpark n slot bad).chan n).results.length < 64 := by rwa [State.unpark_results]
  refine ⟨?_, fun a y d hr => ?_, fun a y d hr => ?_, fun hr => ?_⟩
  · rw [State.retried_park hroom', State.unpark_park]
  · rw [hr, State.results_of_post (State.retried_good hroom' a y d), State.unpark_results, State.unpark_resultOf]
  · rw [hr, State.results_of_post (State.retried_marked hroom' a y d), State.unpark_results]
  · rw [hr, State.results_of_post (State.retried_none hroom'), State.unpark_results]

/-! ### Overruns and reads of the queues -/

theorem exec_sectorOverrun (hwait : 2 ≤ (s.chan n).waiting.length) (hsector : (s.seq n).inSector = true) (hreads : (s.seq n).reads = true)
    (hjudged : (s.seq n).judged = false) (hcur : (s.chan n).cur = none) : exec (.sectorOverrun n) s =
      .next (((s.updSeq n (fun q => { q with judged := true })).postResult n ((s.chan n).resultOf
        { number := (s.seq n).sectorsDone, index := (s.greg n 7).toNat % 2 ^ 16 } 7 0 0)).when (decide (72 ≤ (s.chan n).results.length))
          (fun s => s.raise 0x0702 n)) := by
  change execSectorOverrun n s = _
  rw [execSectorOverrun]
  dsimp only
  rw [if_pos ⟨hwait, hsector, hreads, by simp [hjudged], hcur⟩]

theorem findReg_result {n : Nat} (hn : n < 8) : (findReg (0x4700_1050 + 0x400 * n)).isSome = true := by
  revert n
  decide +kernel

theorem fenMayLoad_result {n : Nat} (hn : n < 8) : fenMayLoad (0x4700_1050 + 0x400 * n) = false := by
  revert n
  decide +kernel

theorem findReg_verify {n : Nat} (hn : n < 8) : (findReg (0x4700_1070 + 0x400 * n)).isSome = true := by
  revert n
  decide +kernel

theorem fenMayLoad_verify {n : Nat} (hn : n < 8) : fenMayLoad (0x4700_1070 + 0x400 * n) = false := by
  revert n
  decide +kernel

/-- A result leaves the queue and its extension is shown. -/
def State.takeResult (s : State) (n : Nat) (r : SectorResult) (rest : List SectorResult) : State :=
  let s := (s.updChan n (fun c => { c with results := rest, taken := c.taken ++ [r] })).sdgStatus n
  let s := ((s.set (.SDG_RESULT_X_ERASED n) r.erased).setIf (.SDG_RESULT_X_TIMED n) r.timed).set (.SDG_RESULT_X_STEP n) r.step
  s.set (.SDG_RESULT_X_OFS n) r.ofs.toNat

theorem State.takeResult_chan (r : SectorResult) (rest : List SectorResult) :
    (s.takeResult n r rest).chan n = { s.chan n with results := rest, taken := (s.chan n).taken ++ [r] } := by
  unfold State.takeResult State.setIf
  dsimp only
  rw [State.set_chan, State.set_chan, State.set_chan, State.set_chan, State.sdgStatus_chan, State.updChan_chan_self]

theorem State.takeResult_erased (r : SectorResult) (rest : List SectorResult) :
    (s.takeResult n r rest).get (.SDG_RESULT_X_ERASED n) = r.erased % 2 ^ 12 := by
  unfold State.takeResult State.setIf
  dsimp only
  simp (disch := (dsimp only; omega)) only [State.get_set_other]
  exact State.get_set_self _ _ _ (by dsimp only; omega)

theorem State.answer_chan (v m : Nat) : (s.answer v).chan m = s.chan m := rfl

theorem exec_resultRead {r : SectorResult} {rest : List SectorResult} (hn : n < 8) (hclock : s.gated (0x4700_1050 + 0x400 * n) = false)
    (hres : (s.chan n).results = r :: rest) : exec (.resultRead .mire n) s = .next ((s.ack.takeResult n r rest).answer
      (2 ^ 31 + r.outcome * 2 ^ 27 + (r.align % 8).toNat * 2 ^ 24 + r.iter % 32 * 2 ^ 16 + r.index % 2 ^ 16)) := by
  change execResultRead .mire n s = _
  rw [execResultRead, State.load_mire _ (by omega) (findReg_result hn) hclock, State.ack_chan, hres]
  rfl

theorem exec_vfyResultRead_of_posted {e : VfyEntry} {rest : List VfyEntry} (hn : n < 8) (hclock : s.gated (0x4700_1070 + 0x400 * n) = false)
    (hvfy : (s.chan n).vfy = e :: rest) (hposted : e.posted = true) : exec (.vfyResultRead .mire n) s =
      .next ((s.ack.updChan n (fun c => { c with vfy := rest, vfyTaken := c.vfyTaken ++ [e] })).answer
        (2 ^ 31 + e.outcome * 2 ^ 28 + e.errs % 2 ^ 12 * 2 ^ 16 + e.index % 2 ^ 16)) := by
  change execVfyResultRead .mire n s = _
  rw [execVfyResultRead, State.load_mire _ (by omega) (findReg_verify hn) hclock, State.ack_chan, hvfy]
  dsimp only
  rw [if_pos hposted]

theorem exec_vfyResultRead_of_none (hn : n < 8) (hclock : s.gated (0x4700_1070 + 0x400 * n) = false)
    (hvfy : (s.chan n).vfy.head?.all (fun ent => !ent.posted) = true) : exec (.vfyResultRead .mire n) s = .next (s.ack.answer 0) := by
  change execVfyResultRead .mire n s = _
  rw [execVfyResultRead, State.load_mire _ (by omega) (findReg_verify hn) hclock, State.ack_chan]
  rcases hv : (s.chan n).vfy with _ | ⟨e, rest⟩
  · rfl
  · rw [hv] at hvfy
    dsimp only
    rw [if_neg (by simpa using hvfy)]

/-- An entry of the verify queue with the outcome of its check. -/
def State.verified (s : State) (n : Nat) (c : Check) (e : VfyEntry) : VfyEntry :=
  { e with posted := true, outcome := s.checkOutcome n c e, errs := min 4095 (vfyErrors (s.get (.SDG_VFY_CFG_DLY n)) (s.vfySeen n c) e)
           frags := [] }

theorem exec_verifyOutcome {c : Check} (hon : s.domainOn (77 + n) = true) : exec (.verifyOutcome n c) s =
    .next (s.updChan n (fun ch => { ch with vfy := postVfy (s.verified n c) ch.vfy })) := by
  change execVerifyOutcome n c s = _
  rw [execVerifyOutcome, hon]
  rfl

/-- Settles O23: the queues after a decode, a retry and an overrun are those before with one result more, or with the sector parked. -/
theorem sectorsAreDecoded : Obligations.SectorsAreDecoded := by
  unfold Obligations.SectorsAreDecoded
  refine ⟨fun s n x rest hwait hroom hon hcode hread => ?_, fun s n x rest hwait hroom hon hcode => ?_,
    fun s n x rest hwait hroom hon hcode hmode hstep hfirst => ?_, fun s n x rest hwait hroom hon hcode hmode hstep hcomb hreads => ?_,
    fun s n slot tries x bad before after hheld hwait hroom hon => ?_, fun s n hn hwait hsector hreads hjudged hcur hroom => ?_,
    fun s n hn hwait hsector hreads hjudged hcur hfull => ?_, fun s n r rest hn hclock hres => ?_, fun s n hn hclock hres => ?_,
    fun s core n hcore hn => ?_, fun s n c hon => ?_, fun s n ent rest hn hclock hvfy hposted => ?_, fun s n hn hclock hvfy => ?_,
    fun s core n hcore hn => ?_⟩
  · refine completes_of_outFrame (execSectorDecode_frame (parts_in rfl) (fun _ hr => hr)) (exec_sectorDecode_of_read hwait hroom hon hcode hread)
      (fun _ => ?_)
    have hchan := s.takeWaiting_chan (n := n) rest
    have hroom' : ((s.takeWaiting n rest).chan n).results.length < 64 := by rwa [hchan]
    have hverdict : (s.takeWaiting n rest).verdict n x.index ((s.takeWaiting n rest).decoded n x) = s.verdict n x.index (s.decoded n x) := by
      rw [State.takeWaiting_decoded, State.takeWaiting_verdict]
    have hpost {r : SectorResult} (h : (((s.takeWaiting n rest).decodeSector n x).chan n).queues =
        ((s.takeWaiting n rest).chan n).queues.post r) :
        (((s.takeWaiting n rest).decodeSector n x).chan n).results = (s.chan n).results ++ [r] := by
      refine (congrArg Channel.Queues.results h).trans ?_
      rw [hchan]
      rfl
    refine ⟨(State.decodeSector_keeps (x := x) hroom').1.trans ?_, fun hv => ?_, fun hv => ?_, fun hv hkeep => ?_, fun hv hkeep => ?_,
      fun i hv hretry hfree => ?_⟩
    · rw [hchan]
    · rw [hpost (State.decodeSector_good hroom' (hverdict.trans hv)), State.takeWaiting_decoded, hchan]
      rfl
    · rw [hpost (State.decodeSector_marked hroom' (hverdict.trans hv)), State.takeWaiting_decoded, hchan]
      rfl
    · rw [hpost (State.decodeSector_badSeal hroom' (hverdict.trans hv) (by rw [hchan]; exact hkeep)), State.takeWaiting_decoded, hchan]
      rfl
    · rw [hpost (State.decodeSector_failed hroom' (hverdict.trans hv) (by rw [hchan]; exact hkeep)), State.takeWaiting_decoded, hchan]
      rfl
    · have hparked := State.decodeSector_park (s := s.takeWaiting n rest) (x := x) (i := i) (hv.imp hverdict.trans hverdict.trans)
        (by rw [hchan]; exact hretry) (by rw [hchan]; exact hfree)
      rw [hverdict, hchan] at hparked
      exact hparked
  · have hchan := s.takeWaiting_chan (n := n) rest
    refine completes_of_outFrame (execSectorDecode_frame (parts_in rfl) (fun _ hr => hr)) (exec_sectorDecode_of_badCode hwait hroom hon hcode)
      (fun _ => ?_)
    rw [State.postResult_chan (by rw [hchan]; exact hroom), hchan]
    exact ⟨rfl, rfl⟩
  · refine completes_of_outFrame (execSectorDecode_frame (parts_in rfl) (fun _ hr => hr))
      (exec_sectorDecode_of_sum hwait hroom hon hcode hmode hstep) (fun _ => ?_)
    have hchan := s.takeWaiting_chan (n := n) rest
    obtain ⟨hard, park, hsum⟩ := State.addToSum_first (s := s.takeWaiting n rest) (n := n) (x := x) (by rw [hchan]; exact hfirst)
    rw [hchan] at hsum
    unfold State.sumDecode
    rw [if_pos (by rw [hsum]), State.postResult_chan (by rw [hsum]; exact hroom), hsum]
    exact ⟨rfl, rfl, rfl, rfl⟩
  · refine completes_of_outFrame (execSectorDecode_frame (parts_in rfl) (fun _ hr => hr))
      (exec_sectorDecode_of_sum hwait hroom hon hcode hmode hstep) (fun _ => ?_)
    have hchan := s.takeWaiting_chan (n := n) rest
    obtain ⟨hard, hsum⟩ := State.addToSum_more (s := s.takeWaiting n rest) (n := n) (x := x) (by rw [hchan]; exact hcomb)
      (by rw [hchan]; exact hreads)
    rw [hchan] at hsum
    obtain ⟨hwaiting, hraw, hcount⟩ := State.decodeSector_keeps (s := (s.takeWaiting n rest).addToSum n x) (n := n)
      (x := { (((s.takeWaiting n rest).addToSum n x).chan n).sum with
        number := x.number, ofs := x.ofs, timed := x.timed, locked := x.locked })
      (by rw [hsum]; exact hroom)
    unfold State.sumDecode
    rw [if_neg (by rw [hsum]; dsimp only; omega)]
    rw [hwaiting, hraw, hcount, hsum]
    exact ⟨rfl, rfl, rfl⟩
  · refine completes_of_outFrame (execAlignRetry_frame (parts_in rfl) (fun _ hr => hr)) (exec_alignRetry hheld hwait hroom hon) (fun _ => ?_)
    exact State.retried_effects hroom
  · have hmark : (s.updSeq n (fun q => { q with judged := true })).chan n = s.chan n := rfl
    refine completes_of_outFrame (execSectorOverrun_frame (parts_in rfl) (fun _ hr => hr)) (exec_sectorOverrun hwait hsector hreads hjudged hcur)
      (fun _ => ?_)
    rw [decide_eq_false (by omega)]
    refine ⟨?_, ?_⟩
    · refine (congrArg Channel.results (State.postResult_chan ?_)).trans rfl
      rw [hmark]
      exact hroom
    · exact (congrArg Seq.judged (State.postResult_seq n _)).trans (congrArg Seq.judged (State.updSeq_seq_self n _))
  · have hmark : (s.updSeq n (fun q => { q with judged := true })).chan n = s.chan n := rfl
    refine completes_of_outFrame (execSectorOverrun_frame (parts_in rfl) (fun _ hr => hr)) (exec_sectorOverrun hwait hsector hreads hjudged hcur)
      (fun _ => ?_)
    have hpost := State.postResult_full (s := s.updSeq n (fun q => { q with judged := true })) (n := n) (r := (s.chan n).resultOf
      { number := (s.seq n).sectorsDone, index := (s.greg n 7).toNat % 2 ^ 16 } 7 0 0) hfull
    rw [decide_eq_true hfull]
    refine ⟨?_, ?_, State.raise_latched_true (by decide +kernel), ?_⟩
    · exact (congrArg Channel.results (State.raise_mild_chan (by decide +kernel) n)).trans hpost.1
    · refine (State.raise_mild_get (by decide +kernel) ?_).trans hpost.2
      exact apart_mod (n := 8) _ (by decide) (by simp) (by decide +kernel) n
    · refine (congrArg Seq.judged (State.raise_mild_seq (by decide +kernel) n)).trans ?_
      exact (congrArg Seq.judged (State.postResult_seq n _)).trans (congrArg Seq.judged (State.updSeq_seq_self n _))
  · refine completes_of_outFrame (execResultRead_frame (parts_in rfl) (fun _ hr => hr)) (exec_resultRead hn hclock hres)
      (fun _ => ⟨rfl, ?_, ?_, ?_⟩)
    · rw [State.answer_chan, State.takeResult_chan]
    · rw [State.answer_chan, State.takeResult_chan, State.ack_chan]
    · rw [State.answer_get, State.takeResult_erased]
  · refine completes_of_outFrame (execResultRead_frame (parts_in rfl) (fun _ hr => hr)) (t := s.ack.answer 0) ?_ (fun _ => ⟨rfl, rfl⟩)
    change execResultRead .mire n s = _
    rw [execResultRead, State.load_mire _ (by omega) (findReg_result hn) hclock, State.ack_chan, hres]
  · exact completes_of_frame (execResultRead_frame (parts_in rfl) (fun _ hr => hr)) (load_fen_holds rfl (fenMayLoad_result hn))
  · refine completes_of_outFrame (execVerifyOutcome_frame (parts_in rfl)) (exec_verifyOutcome hon) (fun _ => ?_)
    exact congrArg Channel.vfy (State.updChan_chan_self n _)
  · refine completes_of_outFrame (execVfyResultRead_frame (parts_in rfl) (fun _ hr => hr)) (exec_vfyResultRead_of_posted hn hclock hvfy hposted)
      (fun _ => ⟨rfl, ?_, ?_⟩)
    · rw [State.answer_chan, State.updChan_chan_self]
    · rw [State.answer_chan, State.updChan_chan_self, State.ack_chan]
  · exact completes_of_outFrame (execVfyResultRead_frame (parts_in rfl) (fun _ hr => hr)) (exec_vfyResultRead_of_none hn hclock hvfy)
      (fun _ => ⟨rfl, rfl⟩)
  · exact completes_of_frame (execVfyResultRead_frame (parts_in rfl) (fun _ hr => hr)) (load_fen_holds rfl (fenMayLoad_verify hn))

end Sys2Proof.Machine
end

section
set_option Elab.async false
/-! STAGING OF THE EVENT RECORDER (20). What staging a record, a flush that starts and a recorded fault leave of Peat (R461, R462, R467). -/

namespace Sys2Proof.Machine

variable {s : State}

/-! ### Staging and flushes -/

/-- What a flush that starts does with a staged record: it takes what is stamped and not held back. -/
def State.intoFlush (s : State) (x : Staged) : Staged := if x.rec_.stamped && !s.heldBack x then { x with inFlush := true } else x

theorem State.intoFlush_rec (x : Staged) : (s.intoFlush x).rec_ = x.rec_ := by
  unfold State.intoFlush
  split <;> rfl

theorem State.intoFlush_wants (x : Staged) : (s.intoFlush x).toPerm = x.toPerm ∧ (s.intoFlush x).toCirc = x.toCirc := by
  unfold State.intoFlush
  split <;> exact ⟨rfl, rfl⟩

/-- A flush that starts, with none running. -/
def State.beginFlush (s : State) : State :=
  ({ s with peat := { s.peat with staged := s.peat.staged.map s.intoFlush, again := false } }).set .PEAT_STATUS_FLUSHING 1

theorem State.startFlush_of_idle (h : s.get .PEAT_STATUS_FLUSHING = 0) : s.startFlush = s.beginFlush := by
  unfold State.startFlush
  rw [State.not_is_of_get h, if_neg Bool.false_ne_true]
  rfl

theorem State.startFlush_of_running (h : s.get .PEAT_STATUS_FLUSHING = 1) :
    s.startFlush = { s with peat := { s.peat with again := true } } := by
  unfold State.startFlush
  rw [if_pos (State.is_of_get h)]

theorem State.startFlush_staged : s.startFlush.peat.staged = s.peat.staged ∨ s.startFlush.peat.staged = s.peat.staged.map s.intoFlush := by
  unfold State.startFlush
  split
  · exact .inl rfl
  · exact .inr rfl

/-- The record that staging takes. -/
def State.newRecord (s : State) (stream type_ : Nat) (body : List Byte) : PeatRecord :=
  { stream := stream, type_ := type_, body := body, rseq := s.get (.PEAT_RSEQ_NEXT stream), gap := s.peat.gap.at stream,
    stamped := s.stampReady, opt := if s.stampReady then s.opt else 0, pcc := if s.stampReady then s.get .PEAT_PCC_COUNT else 0 }

/-- Its entry in staging. -/
def State.newStaged (s : State) (stream type_ : Nat) (body : List Byte) : Staged :=
  { rec_ := s.newRecord stream type_ body, toPerm := !(s.peat.areas.at (permArea stream)).full, toCirc := true }

/-- Staging with a record more. -/
def State.stagedMore (s : State) (stream type_ : Nat) (body : List Byte) : State :=
  let t := s.inc (.PEAT_RSEQ_NEXT stream)
  ({ t with peat := { t.peat with
      staged := t.peat.staged ++ [s.newStaged stream type_ body], gap := t.peat.gap.put stream false } }).peatStatus

/-- Staging with a record lost. -/
def State.stagedLess (s : State) (stream : Nat) : State :=
  let t := s.inc (.PEAT_RSEQ_NEXT stream)
  ((({ t with peat := { t.peat with gap := t.peat.gap.put stream true } }).incSat (.PEAT_RSEQ_LOST stream)).set .PEAT_STATUS_STG_LOSS 1)

theorem State.stageRecord_fits {stream type_ : Nat} {body : List Byte}
    (h : stagedBytes s.peat.staged + (16 + body.length + 3) / 4 * 4 ≤ 262144) :
    s.stageRecord stream type_ body = (s.stagedMore stream type_ body).when
      (decide (16384 < stagedBytes (s.stagedMore stream type_ body).peat.staged - (s.stagedMore stream type_ body).heldBytes) ||
        (s.stagedMore stream type_ body).committed) State.startFlush := by
  unfold State.stageRecord
  exact if_pos h

theorem State.stageRecord_lost {stream type_ : Nat} {body : List Byte}
    (h : 262144 < stagedBytes s.peat.staged + (16 + body.length + 3) / 4 * 4) : s.stageRecord stream type_ body = s.stagedLess stream := by
  unfold State.stageRecord
  exact if_neg (Nat.not_le.2 h)

/-! ### Readings of Peat past staging -/

/-- A reading of Peat that staging, its gaps and the wish for another flush do not touch. -/
def PastStaging {α : Type} (read : Peat → α) : Prop :=
  ∀ (p : Peat) (staged : List Staged) (gap : Tab Bool) (again : Bool), read { p with staged := staged, gap := gap, again := again } = read p

section past

variable {α : Type} {read : Peat → α} (h : PastStaging read)
include h

theorem PastStaging.startFlush : read s.startFlush.peat = read s.peat := by
  unfold State.startFlush
  split
  · exact h s.peat s.peat.staged s.peat.gap true
  · exact h s.peat _ s.peat.gap false

theorem PastStaging.stageRecord (stream type_ : Nat) (body : List Byte) : read (s.stageRecord stream type_ body).peat = read s.peat := by
  by_cases hfits : stagedBytes s.peat.staged + (16 + body.length + 3) / 4 * 4 ≤ 262144
  · rw [State.stageRecord_fits hfits]
    refine (State.when_keeps (fun t => read t.peat) ?_).trans ?_
    · exact h.startFlush
    · unfold State.stagedMore
      rw [State.peatStatus_peat]
      exact h s.peat _ _ s.peat.again
  · rw [State.stageRecord_lost (Nat.lt_of_not_le hfits)]
    exact h s.peat s.peat.staged _ s.peat.again

theorem PastStaging.recordLine (code inst detail : Nat) (injected : Bool) :
    read (s.recordLine code inst detail injected).peat = read s.peat := by
  unfold State.recordLine
  split
  · rfl
  next x hrow =>
    extract_lets line cls s1 coalesce slot w rep r flags e l s2 lev s4 s5 s6
    have h1 : s1.peat = s.peat := State.when_keeps State.peat State.fatalDrop_peat
    have h5 : s5.peat = s.peat := by
      unfold s5
      rw [State.levStatus_peat, State.react_peat]
      refine Eq.trans ?_ h1
      unfold s4 s2
      rw [State.set_peat, State.writeHistory_peat]
    have h6 : read s6.peat = read s.peat := by
      unfold s6
      rw [State.irqMire_peat, h.stageRecord, h5]
    clear_value coalesce s1 s6
    split
    · rw [State.set_peat, h1]
    · refine (State.when_keeps (fun t => read t.peat) ?_).trans h6
      exact h.startFlush

theorem PastStaging.relieve : read s.relieve.peat = read s.peat := by
  unfold State.relieve
  split
  · split
    · rw [h.recordLine, State.unfreeze_peat]
    · rfl
  · rfl

theorem PastStaging.raise (code inst detail : Nat) : read (s.raise code inst detail).peat = read s.peat := by
  unfold State.raise
  rw [h.relieve, h.recordLine]

end past

theorem State.stagedMore_staged (stream type_ : Nat) (body : List Byte) :
    (s.stagedMore stream type_ body).peat.staged = s.peat.staged ++ [s.newStaged stream type_ body] := by
  unfold State.stagedMore
  rw [State.peatStatus_peat]
  rfl

theorem State.stagedMore_next (stream type_ : Nat) (body : List Byte) :
    (s.stagedMore stream type_ body).get (.PEAT_RSEQ_NEXT stream) = (s.get (.PEAT_RSEQ_NEXT stream) + 1) % 2 ^ 16 := by
  unfold State.stagedMore
  rw [State.peatStatus_get (apart_mod (n := 5) _ (by decide) (by simp) (by decide +kernel) stream)]
  exact State.inc_get_self (f := .PEAT_RSEQ_NEXT stream) (by simp)

theorem State.stagedLess_next (stream : Nat) :
    (s.stagedLess stream).get (.PEAT_RSEQ_NEXT stream) = (s.get (.PEAT_RSEQ_NEXT stream) + 1) % 2 ^ 16 := by
  unfold State.stagedLess
  dsimp only
  rw [State.get_set_other _ _ (by dsimp only; omega), State.incSat_get_other (by dsimp only; omega)]
  exact State.get_mk.trans (State.inc_get_self (f := .PEAT_RSEQ_NEXT stream) (by simp))

theorem State.stagedLess_lost (stream : Nat) :
    (s.stagedLess stream).get (.PEAT_RSEQ_LOST stream) = min (s.get (.PEAT_RSEQ_LOST stream) + 1) (2 ^ 16 - 1) := by
  unfold State.stagedLess
  dsimp only
  rw [State.get_set_other _ _ (by dsimp only; omega), State.incSat_get_self (by dsimp only; omega), State.get_mk,
    State.inc_get_other (by dsimp only; omega)]

theorem State.when_staged {c : Bool} {y : Staged} (h : y ∈ s.peat.staged) :
    ∃ x ∈ (s.when c State.startFlush).peat.staged, x.rec_ = y.rec_ ∧ x.toCirc = y.toCirc := by
  cases c
  · exact ⟨y, h, rfl, rfl⟩
  · rcases s.startFlush_staged with hs | hs
    · exact ⟨y, by rwa [State.when, if_pos rfl, hs], rfl, rfl⟩
    · refine ⟨s.intoFlush y, ?_, State.intoFlush_rec y, (State.intoFlush_wants y).2⟩
      rw [State.when, if_pos rfl, hs]
      exact List.mem_map_of_mem h

theorem State.peatRecord_of_room {stream type_ : Nat} {body : List Byte} (h : (s.stageRecord stream type_ body).heldBytes ≤ 32768) :
    s.peatRecord stream type_ body = s.stageRecord stream type_ body := by
  unfold State.peatRecord State.relieve
  exact if_neg (Nat.not_lt.2 h)

theorem State.peatRecord_of_full {stream type_ area : Nat} {body : List Byte} (h : 32768 < (s.stageRecord stream type_ body).heldBytes)
    (harea : (s.stageRecord stream type_ body).oldestHeldArea = some area) :
    s.peatRecord stream type_ body = ((s.stageRecord stream type_ body).unfreeze area).recordLine 0x1002 0 0 false := by
  unfold State.peatRecord State.relieve
  rw [if_pos h, harea]

theorem clearBit_off (f a : Nat) : (f - f / 2 ^ a % 2 * 2 ^ a) / 2 ^ a % 2 = 0 := by
  rw [Nat.mul_comm, Nat.sub_mul_div]
  omega

theorem State.unfreeze_frozen (a : Nat) : (s.unfreeze a).frozen a = false := by
  have hlt : s.get .PEAT_FRZ_AREA < 2 ^ 10 := s.get_lt _
  unfold State.frozen State.unfreeze
  rw [State.peatStatus_get (by decide +kernel), State.get_set_self _ _ _ (by decide),
    Nat.mod_eq_of_lt (a := s.get .PEAT_FRZ_AREA - _) ((Nat.sub_le _ _).trans_lt hlt), clearBit_off]
  rfl

end Sys2Proof.Machine
end

section
set_option Elab.async false
/-! EVENTS RECORDED (20). Staging takes a record or counts its loss (R461,
  R462); a flush takes what no freeze holds back and saves the counters
(R461, R437); the window shows a frozen area (R466). -/

namespace Sys2Proof.Machine

variable {s : State}

/-! ### The end of a flush -/

/-- The counter area of NOR and the flush that waits, which the records of a flush do not touch. -/
def Peat.savings (p : Peat) : Nat × Nat × Bool := (p.savedOpt, p.saves, p.again)

theorem Peat.eq_of_savings {p q : Peat} (h : p.savings = q.savings) : p.savedOpt = q.savedOpt ∧ p.saves = q.saves ∧ p.again = q.again := by
  simpa [Peat.savings] using h

theorem State.flushOne_savings (a i : Nat) : (s.flushOne a i).peat.savings = s.peat.savings := by
  unfold State.flushOne
  split
  · rfl
  · dsimp only
    split
    · split
      · rfl
      · split <;> rfl
    · rfl

theorem getD_map_keeps {α β : Type} (read : State → β) {f : α → State} {s t : State} (h : ∀ y, read (f y) = read s) (o : Option α)
    (ht : read t = read s) : read ((o.map f).getD t) = read s := by
  cases o
  · exact ht
  · exact h _

theorem State.chainRecord_savings {t : State} (a : Nat) (h : t.peat.savings = s.peat.savings) :
    ((s.chainRecord a).getD t).peat.savings = s.peat.savings := by
  unfold State.chainRecord
  dsimp only
  split
  · rfl
  · refine getD_map_keeps (fun t => t.peat.savings) ?_ _ h
    intro y
    rfl

theorem State.flushArea_savings (a : Nat) : (s.flushArea a).peat.savings = s.peat.savings := by
  have hones : (s.forN s.peat.staged.length (fun i s => s.flushOne a i)).peat.savings = s.peat.savings :=
    State.forN_keeps (fun t => t.peat.savings) (fun i t => State.flushOne_savings a i) _
  unfold State.flushArea
  rw [State.areaStatus_peat, State.chainRecord_savings a hones.symm, hones]

/-- The areas as a flush leaves them. -/
def State.flushAreas (s : State) : State := s.forN 10 (fun a s => s.flushArea a)

theorem State.flushAreas_savings : s.flushAreas.peat.savings = s.peat.savings :=
  State.forN_keeps (fun t => t.peat.savings) (fun a t => State.flushArea_savings a) 10

theorem State.flushAreas_get {g : Fld} (h : ([.arr (.PEAT_AREA_REC_COUNT 0) 0x4 10, .arr (.PEAT_AREA_BYTES_BYTES 0) 0x4 10,
    .fld .PEAT_MRSETS_COUNT] : List Regs).all (fun r => r.apartB g) = true) : s.flushAreas.get g = s.get g :=
  State.forN_keeps (fun t => t.get g) (fun a t => State.flushArea_get h) 10

/-- A staged record that still has an area to reach, out of the flush. -/
def leftStaged (l : List Staged) : List Staged := (l.filter (fun x => x.toPerm || x.toCirc)).map (fun x => { x with inFlush := false })

theorem leftStaged_wants {l : List Staged} {x : Staged} (h : x ∈ leftStaged l) : x.toPerm = true ∨ x.toCirc = true := by
  obtain ⟨y, hy, rfl⟩ := List.mem_map.1 h
  simpa using (List.mem_filter.1 hy).2

/-- The flush over, with its counters saved. -/
def State.flushSaved (s : State) : State :=
  let t := s.flushAreas
  (((({ t with peat := { t.peat with staged := leftStaged t.peat.staged, freezeWait := [] } }).saveCounters
    (max t.peat.savedOpt t.opt) t.peat.savedPcc).set .PEAT_STATUS_FLUSHING 0)).peatStatus

/-- The freezes that waited for the flush. -/
def State.freezeAll (s : State) (l : List Nat) : State := l.foldl (fun s a => s.freeze a) s

/-- A flush goes on where another trigger came while it ran, or a committed machine still has records to write (R461). -/
def State.flushAgain (s : State) : State :=
  s.when (s.peat.again || (s.committed && s.peat.staged.any (fun x => x.rec_.stamped && !s.heldBack x))) State.startFlush

theorem State.endFlush_eq : s.endFlush = (s.flushSaved.freezeAll s.flushAreas.peat.freezeWait).flushAgain := by
  unfold State.endFlush
  lift_lets
  extract_lets s1 left waiting s2 s2' s3 s4
  have h1 : s1 = s.flushAreas := rfl
  have h3 : s3 = s.flushSaved := by
    unfold s3 s2' s2 left State.flushSaved
    rw [h1]
    generalize s.flushAreas = t
    rfl
  have h4 : s4 = s.flushSaved.freezeAll s.flushAreas.peat.freezeWait := by
    unfold s4 waiting
    rw [h1, h3]
    rfl
  rw [← h4]
  rfl

theorem State.saveCounters_get (opt pcc : Nat) (g : Fld) : (s.saveCounters opt pcc).get g = s.get g := State.get_mk

theorem State.saveCounters_peat (opt pcc : Nat) :
    (s.saveCounters opt pcc).peat = { s.peat with savedOpt := opt, savedPcc := pcc, saves := (s.peat.saves + 1) % 2 ^ 32 } := rfl

theorem State.flushSaved_peat : s.flushSaved.peat = { s.flushAreas.peat with
    staged := leftStaged s.flushAreas.peat.staged, freezeWait := [], savedOpt := max s.flushAreas.peat.savedOpt s.flushAreas.opt
    saves := (s.flushAreas.peat.saves + 1) % 2 ^ 32 } := by
  unfold State.flushSaved
  generalize s.flushAreas = t
  rw [State.peatStatus_peat, State.set_peat, State.saveCounters_peat]

theorem State.flushSaved_staged : s.flushSaved.peat.staged = leftStaged s.flushAreas.peat.staged := by rw [State.flushSaved_peat]

theorem State.flushSaved_again : s.flushSaved.peat.again = s.peat.again := by
  rw [State.flushSaved_peat, (Peat.eq_of_savings State.flushAreas_savings).2.2]

theorem State.flushSaved_saves : s.flushSaved.peat.saves = (s.peat.saves + 1) % 2 ^ 32 := by
  rw [State.flushSaved_peat, (Peat.eq_of_savings State.flushAreas_savings).2.1]

theorem State.flushAreas_opt : s.flushAreas.opt = s.opt := by
  unfold State.opt
  rw [State.flushAreas_get (by decide +kernel), State.flushAreas_get (by decide +kernel)]

theorem State.flushSaved_savedOpt : s.flushSaved.peat.savedOpt = max s.peat.savedOpt s.opt := by
  rw [State.flushSaved_peat, (Peat.eq_of_savings State.flushAreas_savings).1, State.flushAreas_opt]

theorem State.flushSaved_freezeWait : s.flushSaved.peat.freezeWait = [] := by rw [State.flushSaved_peat]

theorem State.flushSaved_flushing : s.flushSaved.get .PEAT_STATUS_FLUSHING = 0 := by
  unfold State.flushSaved
  rw [State.peatStatus_get (by decide +kernel)]
  exact State.get_set_self _ _ _ (by decide)

theorem State.freeze_of_idle (a : Nat) (h : s.get .PEAT_STATUS_FLUSHING = 0) : (s.freeze a).peat = s.peat := by
  unfold State.freeze
  rw [if_neg (by simp [State.not_is_of_get h]), State.peatStatus_peat, State.set_peat]

theorem State.freezeAll_get {g : Fld} (l : List Nat) (h : ([.fld .PEAT_STATUS_STAMP_WAIT, .fld .PEAT_STATUS_HELD, .fld .PEAT_STATUS_USED,
    .fld .PEAT_FRZ_AREA] : List Regs).all (fun r => r.apartB g) = true) : (s.freezeAll l).get g = s.get g := by
  induction l generalizing s with
  | nil => rfl
  | cons a l ih => exact ih.trans (State.freeze_get h)

theorem State.freezeAll_of_idle (l : List Nat) (h : s.get .PEAT_STATUS_FLUSHING = 0) : (s.freezeAll l).peat = s.peat := by
  induction l generalizing s with
  | nil => rfl
  | cons a l ih => exact (ih ((State.freeze_get (by decide +kernel)).trans h)).trans (State.freeze_of_idle a h)

theorem State.endFlush_peat {α : Type} {read : Peat → α} (hread : PastStaging read) :
    read s.endFlush.peat = read s.flushSaved.peat := by
  rw [State.endFlush_eq]
  refine (State.when_keeps (fun t => read t.peat) ?_).trans ?_
  · exact hread.startFlush
  rw [State.freezeAll_of_idle _ State.flushSaved_flushing]

theorem State.startFlush_wants (h : ∀ x ∈ s.peat.staged, x.toPerm = true ∨ x.toCirc = true) :
    ∀ x ∈ s.startFlush.peat.staged, x.toPerm = true ∨ x.toCirc = true := by
  rcases s.startFlush_staged with hs | hs
  · rwa [hs]
  · rw [hs]
    intro x hx
    obtain ⟨y, hy, rfl⟩ := List.mem_map.1 hx
    obtain ⟨hperm, hcirc⟩ := s.intoFlush_wants y
    rw [hperm, hcirc]
    exact h y hy

theorem State.freezeAll_wants (l : List Nat) : ∀ x ∈ (s.flushSaved.freezeAll l).peat.staged, x.toPerm = true ∨ x.toCirc = true := by
  rw [State.freezeAll_of_idle l State.flushSaved_flushing, State.flushSaved_staged]
  intro x hx
  exact leftStaged_wants hx

theorem State.endFlush_wants : ∀ x ∈ s.endFlush.peat.staged, x.toPerm = true ∨ x.toCirc = true := by
  have hleft := s.freezeAll_wants s.flushAreas.peat.freezeWait
  rw [State.endFlush_eq, State.flushAgain, State.when]
  split
  · exact State.startFlush_wants hleft
  · exact hleft

theorem State.endFlush_idle (hagain : s.peat.again = false) (hcommit : s.committed = false) : s.endFlush.get .PEAT_STATUS_FLUSHING = 0 := by
  have hpf : s.flushSaved.get .WEIR_STATUS_PF = s.get .WEIR_STATUS_PF := by
    unfold State.flushSaved
    rw [State.peatStatus_get (by decide +kernel), State.get_set_other _ _ (by decide)]
    refine (State.saveCounters_get _ _ _).trans (State.get_mk.trans ?_)
    exact State.flushAreas_get (by decide +kernel)
  have hagain' : (s.flushSaved.freezeAll s.flushAreas.peat.freezeWait).peat.again = false := by
    rw [State.freezeAll_of_idle _ State.flushSaved_flushing, State.flushSaved_again, hagain]
  have hcommit' : (s.flushSaved.freezeAll s.flushAreas.peat.freezeWait).committed = false := by
    rw [State.committed, State.freezeAll_get _ (by decide +kernel), hpf, ← State.committed, hcommit]
  rw [State.endFlush_eq, State.flushAgain, hagain', hcommit']
  exact (State.freezeAll_get _ (by decide +kernel)).trans State.flushSaved_flushing

/-! ### The window -/

/-- What the window shows of a frozen area: 4 KiB of its content from the offset. -/
def State.windowOf (s : State) (a off : Nat) : List Byte := (((s.peat.areas.at a).served a).drop off).take 4096

/-- The window's words written. -/
def State.showWindow (s : State) (w : List Byte) : State := s.forN 1024 (fun i s => s.set (.PEAT_WIN_DATA i) (fieldAt w (4 * i) 4))

theorem leNat_lt (l : List Byte) : leNat l < 2 ^ (8 * l.length) := by
  induction l with
  | nil => simp [leNat]
  | cons b l ih =>
    have hb := b.isLt
    rw [leNat, List.length_cons, Nat.mul_succ, Nat.pow_add]
    omega

theorem fieldAt_lt (w : List Byte) (off : Nat) : fieldAt w off 4 < 2 ^ 32 :=
  (leNat_lt _).trans_le (Nat.pow_le_pow_right (by decide) (by rw [List.length_take]; omega))

theorem State.showWindow_peat (w : List Byte) : (s.showWindow w).peat = s.peat := by
  unfold State.showWindow
  refine State.forN_keeps (fun t => t.peat) ?_ 1024
  intro i t
  rfl

theorem State.showWindow_data (w : List Byte) {i : Nat} (hi : i < 1024) :
    (s.showWindow w).get (.PEAT_WIN_DATA i) = fieldAt w (4 * i) 4 := by
  refine State.forN_reaches (Inv := fun _ => True) (P := fun t => t.get (.PEAT_WIN_DATA i) = fieldAt w (4 * i) 4) hi trivial
    (fun _ _ _ _ => trivial) (fun t _ => ?_) (fun j hj t ht => ?_)
  · exact (State.get_set_self _ _ _ (by simp)).trans (Nat.mod_eq_of_lt (fieldAt_lt w _))
  · by_cases hji : j = i
    · subst hji
      exact (State.get_set_self _ _ _ (by simp)).trans (Nat.mod_eq_of_lt (fieldAt_lt w _))
    · exact (State.get_set_ne _ _ (by dsimp only; omega)).trans ht

/-- The window loaded. -/
def State.windowLoaded (s : State) (a off : Nat) : State :=
  let t := { s with peat := { s.peat with loading := none } }
  let w := s.windowOf a off
  (((t.showWindow w).set .PEAT_WIN_STATUS_BYTES w.length).setIf .PEAT_WIN_STATUS_END
    (decide (((s.peat.areas.at a).served a).length ≤ off + w.length))).set .PEAT_WIN_STATUS_VALID 1

theorem State.windowLoad_of_frozen {a off : Nat} (h : s.peat.loading = some (a, off)) (hfrozen : s.frozen a = true) :
    s.windowLoad = s.windowLoaded a off := by
  have hfrozen' : ({ s with peat := { s.peat with loading := none } } : State).frozen a = true := hfrozen
  unfold State.windowLoad
  rw [h]
  dsimp only
  rw [hfrozen']
  rfl

theorem State.windowLoaded_peat (a off : Nat) : (s.windowLoaded a off).peat.loading = none := by
  unfold State.windowLoaded State.setIf
  dsimp only
  rw [State.set_peat, State.set_peat, State.set_peat, State.showWindow_peat]

theorem State.windowLoaded_bytes (a off : Nat) :
    (s.windowLoaded a off).get .PEAT_WIN_STATUS_BYTES = (s.windowOf a off).length % 2 ^ 13 := by
  unfold State.windowLoaded State.setIf
  dsimp only
  rw [State.get_set_other _ _ (by decide), State.get_set_other _ _ (by decide)]
  exact State.get_set_self _ _ _ (by decide)

theorem State.windowLoaded_data (a off : Nat) {i : Nat} (hi : i < 1024) :
    (s.windowLoaded a off).get (.PEAT_WIN_DATA i) = fieldAt (s.windowOf a off) (4 * i) 4 := by
  unfold State.windowLoaded State.setIf
  dsimp only
  rw [State.get_set_other _ _ (by dsimp only; omega), State.get_set_other _ _ (by dsimp only; omega),
    State.get_set_other _ _ (by dsimp only; omega), State.showWindow_data _ hi]

/-! ### The counters -/

theorem PastStaging.stampStaged {α : Type} {read : Peat → α} (h : PastStaging read) : read s.stampStaged.peat = read s.peat := by
  unfold State.stampStaged
  split
  · refine (State.when_keeps (fun t => read t.peat) ?_).trans ?_
    · exact h.startFlush
    · rw [State.peatStatus_peat]
      exact h s.peat _ s.peat.gap s.peat.again
  · rfl

theorem State.lockPcc_peat (count : Nat) : (s.lockPcc count).peat =
    { s.peat with savedPcc := count, saves := (s.peat.saves + 1) % 2 ^ 32, pccLocked := true } := by
  unfold State.lockPcc
  dsimp only
  rw [State.set_peat, State.saveCounters_peat]

theorem State.lockPcc_count (count : Nat) : (s.lockPcc count).get .PEAT_PCC_COUNT = count % 2 ^ 32 :=
  State.get_set_self _ _ _ (by decide)

theorem State.peatCur_effects (offset : Nat) : (s.peatCur offset).get .PEAT_CUR_OFFSET = offset / 4 % 2 ^ 30 ∧
    (s.peatCur offset).get .PEAT_WIN_STATUS_VALID = 0 ∧
    (s.peatCur offset).peat.loading = some (s.get .PEAT_CUR_AREA_AREA, offset / 4 % 2 ^ 30 * 4) := by
  have hoff : ((s.set .PEAT_CUR_OFFSET (offset / 4)).set .PEAT_WIN_STATUS_VALID 0).get .PEAT_CUR_OFFSET = offset / 4 % 2 ^ 30 := by
    rw [State.get_set_other _ _ (by decide)]
    exact State.get_set_self _ _ _ (by decide)
  refine ⟨State.get_mk.trans hoff, State.get_mk.trans (State.get_set_self _ _ _ (by decide)), ?_⟩
  change some (s.get .PEAT_CUR_AREA_AREA, ((s.set .PEAT_CUR_OFFSET (offset / 4)).set .PEAT_WIN_STATUS_VALID 0).get .PEAT_CUR_OFFSET * 4) = _
  rw [hoff]

/-- The newest block of an area abandoned (R471), before the fault is raised. -/
def State.abandonBlock (s : State) (a : Nat) : State :=
  (({ s with peat := { s.peat with areas := s.peat.areas.put a ((s.peat.areas.at a).abandon a (!s.committed))
                                   badBlocks := s.peat.badBlocks ++ [(a,
                                     (s.peat.areas.at a).newest)] } }).areaStatus a).set .PEAT_STATUS_NOR_ERR 1

theorem State.abandonBlock_peat (a : Nat) : (s.abandonBlock a).peat =
    { s.peat with areas := s.peat.areas.put a ((s.peat.areas.at a).abandon a (!s.committed))
                  badBlocks := s.peat.badBlocks ++ [(a, (s.peat.areas.at a).newest)] } := by
  unfold State.abandonBlock
  rw [State.set_peat, State.areaStatus_peat]

/-- Settles O27: what staging, a flush, the counters and the window leave, each read past the steps that do not touch it. -/
theorem eventsAreRecorded : Obligations.EventsAreRecorded := by
  unfold Obligations.EventsAreRecorded
  refine ⟨fun s stream type_ body hstream hfits hroom => ?_, fun s stream type_ body hstream hlost hroom => ?_,
    fun s stream type_ body area hstream hfull harea => ?_, fun s hidle => ?_, fun s hrun => ?_, fun s hrun => ?_, fun s hidle => ?_,
    fun s hon hrun => ?_, fun s area harea => ?_, fun s count hlock => ?_, fun s count hlock => ?_, fun s offset => ?_,
    fun s a off hload hfrozen => ?_⟩
  · refine completes_of_outFrame (execRecordStage_frame (parts_in rfl) (fun _ hr => hr)) (t := s.stageRecord stream type_ body) ?_ (fun _ => ?_)
    · exact congrArg Host.Outcome.next (State.peatRecord_of_room hroom)
    rw [State.stageRecord_fits hfits]
    refine ⟨?_, ?_⟩
    · have hmem : s.newStaged stream type_ body ∈ (s.stagedMore stream type_ body).peat.staged := by
        rw [State.stagedMore_staged]
        exact List.mem_append_right _ (List.mem_singleton.2 rfl)
      obtain ⟨x, hx, hrec, hcirc⟩ := State.when_staged (c := decide (16384 < stagedBytes (s.stagedMore stream type_ body).peat.staged -
        (s.stagedMore stream type_ body).heldBytes) || (s.stagedMore stream type_ body).committed) hmem
      refine ⟨x, hx, ?_⟩
      rw [hrec, hcirc]
      exact ⟨rfl, rfl, rfl, rfl, rfl, rfl⟩
    · refine (State.when_get ?_).trans (State.stagedMore_next stream type_ body)
      exact State.startFlush_get (apart_mod (n := 5) _ (by decide) (by simp) (by decide +kernel) stream)
  · refine completes_of_outFrame (execRecordStage_frame (parts_in rfl) (fun _ hr => hr)) (t := s.stagedLess stream) ?_
      (fun _ => ⟨rfl, ?_, ?_, ?_, ?_⟩)
    · exact congrArg Host.Outcome.next ((State.peatRecord_of_room hroom).trans (State.stageRecord_lost hlost))
    · exact State.stagedLess_lost stream
    · exact State.get_set_self _ _ _ (by decide)
    · exact Tab.at_put_self s.peat.gap stream true
    · exact State.stagedLess_next stream
  · refine completes_of_outFrame (execRecordStage_frame (parts_in rfl) (fun _ hr => hr))
      (t := ((s.stageRecord stream type_ body).unfreeze area).recordLine 0x1002 0 0 false) ?_ (fun _ => ⟨?_, ?_⟩)
    · exact congrArg Host.Outcome.next (State.peatRecord_of_full hfull harea)
    · exact (State.recordLine_latches 0x1002 0 0 false).2.trans (by decide +kernel)
    · rw [State.frozen, State.recordLine_get (by decide +kernel)]
      exact State.unfreeze_frozen area
  · refine completes_of_outFrame (execPeatFlushTimer_frame (parts_in rfl) (fun _ hr => hr)) (t := s.beginFlush) ?_
      (fun _ => ⟨State.get_set_self _ _ _ (by decide), rfl, rfl⟩)
    exact congrArg Host.Outcome.next (State.startFlush_of_idle hidle)
  · refine completes_of_outFrame (execPeatFlushTimer_frame (parts_in rfl) (fun _ hr => hr))
      (t := { s with peat := { s.peat with again := true } }) ?_ (fun _ => ⟨rfl, rfl⟩)
    exact congrArg Host.Outcome.next (State.startFlush_of_running hrun)
  · have hrun' : s.ack.get .PEAT_STATUS_FLUSHING = 1 := hrun
    refine completes_of_outFrame (execPeatFlush_frame (parts_in rfl) (fun _ hr => hr))
      (t := { s.ack with peat := { s.ack.peat with again := true } }) ?_ (fun _ => ⟨?_, rfl, rfl⟩)
    · exact congrArg Host.Outcome.next (State.startFlush_of_running hrun')
    · exact hrun
  · have hidle' : s.ack.get .PEAT_STATUS_FLUSHING = 0 := hidle
    refine completes_of_outFrame (execPeatFlush_frame (parts_in rfl) (fun _ hr => hr)) (t := s.ack.beginFlush) ?_
      (fun _ => ⟨State.get_set_self _ _ _ (by decide), rfl⟩)
    exact congrArg Host.Outcome.next (State.startFlush_of_idle hidle')
  · refine completes_of_outFrame (execPeatFlushDone_frame (parts_in rfl) (fun _ hr => hr)) (t := s.endFlush) ?_
      (fun _ => ⟨?_, ?_, ?_, State.endFlush_wants, State.endFlush_idle⟩)
    · change execPeatFlushDone s = _
      rw [execPeatFlushDone, State.is_of_get hrun, hon, Bool.and_self, State.when, if_pos rfl]
    · rw [State.endFlush_peat (read := Peat.savedOpt) (fun _ _ _ _ => rfl), State.flushSaved_savedOpt]
    · rw [State.endFlush_peat (read := Peat.saves) (fun _ _ _ _ => rfl), State.flushSaved_saves]
    · rw [State.endFlush_peat (read := Peat.freezeWait) (fun _ _ _ _ => rfl), State.flushSaved_freezeWait]
  · refine completes_of_outFrame (execPeatNorFail_frame (parts_in rfl) (fun _ hr => hr)) (t := (s.abandonBlock area).raise 0x1001) ?_
      (fun _ => ⟨?_, State.raise_latched_true (by decide +kernel), ?_, ?_⟩)
    · rfl
    · rw [State.raise_mild_get (by decide +kernel) (by decide +kernel)]
      exact State.get_set_self _ _ _ (by decide)
    · rw [PastStaging.raise (read := Peat.badBlocks) (fun _ _ _ _ => rfl), State.abandonBlock_peat]
    · rw [PastStaging.raise (read := Peat.areas) (fun _ _ _ _ => rfl), State.abandonBlock_peat, Tab.at_put_self]
  · refine completes_of_outFrame (execPeatPcc_frame (parts_in rfl) (fun _ hr => hr)) (t := (s.ack.lockPcc (count % 2 ^ 32)).stampStaged) ?_
      (fun _ => ⟨?_, ?_, ?_, ?_⟩)
    · have hlock' : s.ack.peat.pccLocked = false := hlock
      change execPeatPcc count s = _
      rw [execPeatPcc, hlock']
      rfl
    · rw [PastStaging.stampStaged (read := Peat.pccLocked) (fun _ _ _ _ => rfl), State.lockPcc_peat]
    · rw [PastStaging.stampStaged (read := Peat.savedPcc) (fun _ _ _ _ => rfl), State.lockPcc_peat]
    · rw [State.stampStaged_get (by decide +kernel), State.lockPcc_count, Nat.mod_mod]
    · rw [State.stampStaged_bus]
      rfl
  · refine completes_of_outFrame (execPeatPcc_frame (parts_in rfl) (fun _ hr => hr)) (t := s.ack) ?_ (fun _ => ⟨rfl, rfl, rfl⟩)
    have hlock' : s.ack.peat.pccLocked = true := hlock
    change execPeatPcc count s = _
    rw [execPeatPcc, hlock']
    rfl
  · obtain ⟨hoff, hvalid, hload⟩ := State.peatCur_effects (s := s.ack) offset
    exact completes_of_outFrame (execPeatCur_frame (parts_in rfl) (fun _ hr => hr)) rfl (fun _ => ⟨hoff, hvalid, hload, rfl⟩)
  · refine completes_of_outFrame (execWindowValid_frame (parts_in rfl) (fun _ hr => hr)) (t := s.windowLoaded a off) ?_
      (fun _ => ⟨State.get_set_self _ _ _ (by decide), State.windowLoaded_peat a off, State.windowLoaded_bytes a off,
        fun i hi => State.windowLoaded_data a off hi⟩)
    exact congrArg Host.Outcome.next (State.windowLoad_of_frozen hload hfrozen)

end Sys2Proof.Machine
end

section
set_option Elab.async false
/-! SPECULATIVE REGIONS AND KEYS (13). A region command answers in SLU_RA_RES (R326,
  R327); a lookup names the region that leads the range most
(R327); key operations take effect in order (R330). -/

namespace Sys2Proof.Machine

variable {s : State}

/-- The region that stands where `f` of it would: a discarded one that nothing holds is free (R328). -/
def Region.settled (x : Region) : Region := if x.state = .discarded ∧ x.pins = 0 ∧ x.fill = none then default else x

theorem Region.settled_of_live {x : Region} (h : x.state ≠ .discarded) : x.settled = x := if_neg (fun hd => h hd.1)

theorem Region.settled_of_held {x : Region} (h : x.fill ≠ none ∨ x.pins ≠ 0) : x.settled = x := if_neg (by tauto)

theorem Region.settled_state (x : Region) : x.settled.state = x.state ∨ x.settled.state = .free := by
  unfold Region.settled
  split
  · exact .inr rfl
  · exact .inl rfl

theorem Region.settled_pins (x : Region) : x.settled.pins = x.pins := by
  unfold Region.settled
  split
  next h => exact h.2.1.symm
  next => rfl

theorem State.updRegion_at (r : Nat) (f : Region → Region) :
    (s.updRegion r f).slu.regions.at r = (f (s.slu.regions.at r)).settled := Tab.at_put_self _ _ _

theorem State.updRegion_get (r : Nat) (f : Region → Region) (g : Fld) : (s.updRegion r f).get g = s.get g := State.updSlu_get _ _ _

theorem State.updRegion_bus (r : Nat) (f : Region → Region) : (s.updRegion r f).bus = s.bus := rfl

/-! ### Results -/

theorem State.raResult_slu (err : Bool) : (s.raResult err).slu = s.slu := rfl

theorem State.raResult_bus (err : Bool) : (s.raResult err).bus = s.bus := rfl

theorem State.raResult_done (err : Bool) : (s.raResult err).get .SLU_RA_RES_DONE = 1 := by
  unfold State.raResult State.setIf
  rw [State.get_set_other _ _ (by decide)]
  exact State.get_set_self _ _ _ (by decide)

theorem State.raResult_err (err : Bool) : (s.raResult err).get .SLU_RA_RES_ERR = err.toNat := by
  unfold State.raResult State.setIf
  refine (State.get_set_self _ _ _ (by decide)).trans ?_
  cases err <;> rfl

theorem State.raResult_get {g : Fld} (err : Bool) (hdone : g.addr ≠ 0x4100_0608 ∨ 28 + 1 ≤ g.lo ∨ g.lo + g.width ≤ 28)
    (herr : g.addr ≠ 0x4100_0608 ∨ 29 + 1 ≤ g.lo ∨ g.lo + g.width ≤ 29) : (s.raResult err).get g = s.get g := by
  unfold State.raResult State.setIf
  rw [State.get_set_other _ _ herr, State.get_set_other _ _ hdone]

/-- SLU_RA_RES after a refused command. -/
theorem State.raResult_refused : (s.ack.raResult true).get .SLU_RA_RES_DONE = 1 ∧ (s.ack.raResult true).get .SLU_RA_RES_ERR = 1 ∧
    (s.ack.raResult true).slu = s.slu ∧ (s.ack.raResult true).bus = .done :=
  ⟨State.raResult_done true, State.raResult_err true, rfl, rfl⟩

/-! ### SET, DISCARD and UNPIN -/

/-- The length of the buffer that SET names. -/
def State.argLen (s : State) : Nat := (s.get .SLU_RA_ARG1_COUNT + 1) * (4096 + metaBytes (s.get .SLU_RA_ARG3_META))

/-- The region that SET arms. -/
def State.argRegion (s : State) : Region :=
  { state := .armed, ns := s.get .SLU_RA_ARG1_NS, lba := s.argLba, count := s.get .SLU_RA_ARG1_COUNT + 1, buf := s.argBuf,
    meta_ := s.get .SLU_RA_ARG3_META, valid := List.replicate (s.get .SLU_RA_ARG1_COUNT + 1) false }

theorem exec_regionSet {region : Nat} (hclock : s.gated 0x4100_0604 = false) : exec (.regionSet region) s =
    .next (if (s.slu.regions.at region).state ≠ .free ∨ s.get .SLU_RA_ARG3_META = 3 ∨ s.argBuf < dramBase ∨ s.dramEnd < s.argBuf + s.argLen ∨
      s.inCache s.argBuf s.argLen then s.ack.raResult true else (s.ack.updRegion region (fun _ => s.argRegion)).raResult false) := by
  change execRegionSet region s = _
  rw [execRegionSet, State.access_of_clocked _ hclock]
  rfl

theorem exec_regionDiscard {region : Nat} (hclock : s.gated 0x4100_0604 = false) : exec (.regionDiscard region) s =
    .next (if (s.slu.regions.at region).state = .free then s.ack.raResult true else (s.ack.discardRegion region).raResult false) := by
  change execRegionDiscard region s = _
  rw [execRegionDiscard, State.access_of_clocked _ hclock]
  rfl

theorem exec_regionUnpin {region : Nat} (hclock : s.gated 0x4100_0604 = false) : exec (.regionUnpin region) s =
    .next (if (s.slu.regions.at region).pins = 0 then s.ack.raResult true
      else (s.ack.updRegion region (fun x => { x with pins := x.pins - 1 })).raResult false) := by
  change execRegionUnpin region s = _
  rw [execRegionUnpin, State.access_of_clocked _ hclock]
  rfl

/-- The fill that a discarded region waits for is aborted (R328). -/
def State.abortFill (s : State) (x : Region) : State :=
  match x.fill with
  | some n => s.set (.REED_ST_CTRL_ABORT n) 1
  | none => s

theorem State.abortFill_slu (x : Region) : (s.abortFill x).slu = s.slu := by
  unfold State.abortFill
  split <;> rfl

theorem State.abortFill_bus (x : Region) : (s.abortFill x).bus = s.bus := by
  unfold State.abortFill
  split <;> rfl

theorem State.abortFill_get {g : Fld} (x : Region) (h : ∀ n, g.addr ≠ (Fld.REED_ST_CTRL_ABORT n).addr) :
    (s.abortFill x).get g = s.get g := by
  unfold State.abortFill
  split
  · exact State.get_set_ne _ _ (h _)
  · rfl

theorem State.discardRegion_of_live {r : Nat} (hfree : (s.slu.regions.at r).state ≠ .free) (hlive :
    (s.slu.regions.at r).state ≠ .discarded) :
    s.discardRegion r = (s.abortFill (s.slu.regions.at r)).updRegion r (fun x => { x with state := .discarded }) := by
  unfold State.discardRegion
  dsimp only
  rw [if_neg (not_or.2 ⟨hfree, hlive⟩)]
  rfl

theorem State.discardRegion_bus {r : Nat} : (s.discardRegion r).bus = s.bus := by
  unfold State.discardRegion
  dsimp only
  split
  · rfl
  · exact State.abortFill_bus _

section live

variable {r : Nat} (hfree : (s.slu.regions.at r).state ≠ .free) (hlive : (s.slu.regions.at r).state ≠ .discarded)
include hfree hlive

theorem State.discardRegion_at :
    (s.discardRegion r).slu.regions.at r = ({ s.slu.regions.at r with state := .discarded } : Region).settled := by
  rw [State.discardRegion_of_live hfree hlive, State.updRegion_at, State.abortFill_slu]

theorem State.discardRegion_state :
    ((s.discardRegion r).slu.regions.at r).state = .discarded ∨ ((s.discardRegion r).slu.regions.at r).state = .free := by
  rw [State.discardRegion_at hfree hlive]
  exact Region.settled_state _

theorem State.discardRegion_held (hheld : (s.slu.regions.at r).fill ≠ none ∨ (s.slu.regions.at r).pins ≠ 0) :
    ((s.discardRegion r).slu.regions.at r).state = .discarded := by
  rw [State.discardRegion_at hfree hlive, Region.settled_of_held (by exact hheld)]

theorem State.discardRegion_get {g : Fld} (h : ∀ n, g.addr ≠ (Fld.REED_ST_CTRL_ABORT n).addr) : (s.discardRegion r).get g = s.get g := by
  rw [State.discardRegion_of_live hfree hlive, State.updRegion_get, State.abortFill_get _ h]

end live

/-! ### LOOKUP -/

/-- Leading sectors that region r has for the range that the arguments name. -/
def State.leadOf (s : State) (r : Nat) : Nat :=
  (s.slu.regions.at r).lead (s.get .SLU_RA_ARG1_NS) s.argLba (s.get .SLU_RA_ARG1_COUNT + 1)

/-- The first region that leads most. -/
def State.bestRegion (s : State) : Nat := (s.slu.regions.map (·.1)).foldl (fun b r => if s.leadOf b < s.leadOf r then r else b) 0

theorem foldl_best (f : Nat → Nat) (l : List Nat) (b : Nat) :
    f b ≤ f (l.foldl (fun b r => if f b < f r then r else b) b) ∧ ∀ r ∈ l, f r ≤ f (l.foldl (fun b r => if f b < f r then r else b) b) := by
  induction l generalizing b with
  | nil => exact ⟨Nat.le_refl _, fun r hr => absurd hr List.not_mem_nil⟩
  | cons a l ih =>
    obtain ⟨hbest, hall⟩ := ih (if f b < f a then a else b)
    have hstep : f b ≤ f (if f b < f a then a else b) ∧ f a ≤ f (if f b < f a then a else b) := by
      split <;> omega
    refine ⟨hstep.1.trans hbest, fun r hr => ?_⟩
    rcases List.mem_cons.1 hr with rfl | hr
    · exact hstep.2.trans hbest
    · exact hall r hr

theorem tabFind_none {α : Type} {t : Tab α} {k : Nat} (h : k ∉ t.map (·.1)) : tabFind t k = none := by
  induction t with
  | nil => rfl
  | cons e t ih =>
    obtain ⟨j, v⟩ := e
    rw [List.map_cons, List.mem_cons, not_or] at h
    rw [tabFind, if_neg (Ne.symm h.1)]
    exact ih h.2

theorem Tab.at_of_not_mem {α : Type} [Inhabited α] {t : Tab α} {k : Nat} (h : k ∉ t.map (·.1)) : t.at k = default := by
  unfold Tab.at tabGet
  rw [tabFind_none h]

theorem Region.lead_default (ns lba n : Nat) : (default : Region).lead ns lba n = 0 :=
  if_neg (fun h => absurd h.1 (by decide))

theorem State.leadOf_le_best (r : Nat) : s.leadOf r ≤ s.leadOf s.bestRegion := by
  by_cases hr : r ∈ s.slu.regions.map (·.1)
  · exact (foldl_best s.leadOf _ 0).2 r hr
  · unfold State.leadOf
    rw [Tab.at_of_not_mem hr, Region.lead_default]
    exact Nat.zero_le _

/-- The HIT code of a range that is led by `k` of `n` sectors. -/
def hitCode (k n : Nat) : Nat := if k = n then 2 else if 0 < k then 1 else 0

theorem hitCode_lt (k n : Nat) : hitCode k n < 4 := by
  unfold hitCode
  split
  · decide
  · split <;> decide

/-- SLU_RA_RES as a lookup of region `b` fills it. -/
def State.lookedUp (s : State) (hit k region : Nat) : State := ((s.set .SLU_RA_RES_HIT hit).set .SLU_RA_RES_LEAD k).set .SLU_RA_RES_REGION region

/-- A hit pins its region. -/
def State.pinHit (s : State) (hit b : Nat) : State :=
  s.when (hit == 2) (fun s => s.updRegion b (fun x => { x with pins := x.pins + 1, hit := true }))

theorem State.pinHit_get (hit b : Nat) (g : Fld) : (s.pinHit hit b).get g = s.get g := by
  refine State.when_get ?_
  exact State.updRegion_get _ _ _

theorem State.pinHit_bus (hit b : Nat) : (s.pinHit hit b).bus = s.bus := State.when_keeps State.bus rfl

theorem State.pinHit_pins (b : Nat) : ((s.pinHit 2 b).slu.regions.at b).pins = (s.slu.regions.at b).pins + 1 := by
  change ((s.updRegion b (fun x => { x with pins := x.pins + 1, hit := true })).slu.regions.at b).pins = _
  rw [State.updRegion_at, Region.settled_pins]

/-- The HIT code of the lookup that the arguments ask for. -/
def State.hit (s : State) : Nat := hitCode (s.leadOf s.bestRegion) (s.get .SLU_RA_ARG1_COUNT + 1)

/-- What LOOKUP leaves on the acknowledged state; without a hit REGION is left open, so a value is drawn. -/
def State.lookupDone (s : State) : State :=
  (((if s.hit = 0 then (s.ack.draw 9).2 else s.ack).lookedUp s.hit (s.leadOf s.bestRegion)
    (if s.hit = 0 then (s.ack.draw 9).1 else s.bestRegion)).pinHit s.hit s.bestRegion).raResult false

theorem exec_regionLookup (hclock : s.gated 0x4100_0604 = false) : exec .regionLookup s = .next s.lookupDone := by
  change execRegionLookup s = _
  rw [execRegionLookup, State.access_of_clocked _ hclock]
  rfl

theorem State.drawn_slu_bus : (if s.hit = 0 then (s.ack.draw 9).2 else s.ack).slu = s.slu ∧
    (if s.hit = 0 then (s.ack.draw 9).2 else s.ack).bus = .done := by
  split <;> exact ⟨rfl, rfl⟩

theorem State.lookupDone_answer :
    s.lookupDone.get .SLU_RA_RES_DONE = 1 ∧ s.lookupDone.get .SLU_RA_RES_ERR = 0 ∧ s.lookupDone.bus = .done := by
  refine ⟨State.raResult_done _, State.raResult_err _, ?_⟩
  unfold State.lookupDone
  rw [State.raResult_bus, State.pinHit_bus]
  exact State.drawn_slu_bus.2

theorem State.lookupDone_lead : s.lookupDone.get .SLU_RA_RES_LEAD = s.leadOf s.bestRegion % 2 ^ 9 := by
  unfold State.lookupDone State.lookedUp
  rw [State.raResult_get _ (by decide) (by decide), State.pinHit_get, State.get_set_other _ _ (by decide)]
  exact State.get_set_self _ _ _ (by decide)

theorem State.lookupDone_hit : s.lookupDone.get .SLU_RA_RES_HIT = s.hit := by
  unfold State.lookupDone State.lookedUp
  rw [State.raResult_get _ (by decide) (by decide), State.pinHit_get, State.get_set_other _ _ (by decide),
    State.get_set_other _ _ (by decide)]
  exact (State.get_set_self _ _ _ (by decide)).trans (Nat.mod_eq_of_lt (hitCode_lt _ _))

theorem State.lookupDone_region (h : s.hit ≠ 0) : s.lookupDone.get .SLU_RA_RES_REGION = s.bestRegion % 2 ^ 9 := by
  unfold State.lookupDone State.lookedUp
  rw [State.raResult_get _ (by decide) (by decide), State.pinHit_get, if_neg h, if_neg h]
  exact State.get_set_self _ _ _ (by decide)

theorem State.lookupDone_pins (h : s.hit = 2) :
    (s.lookupDone.slu.regions.at s.bestRegion).pins = (s.slu.regions.at s.bestRegion).pins + 1 := by
  unfold State.lookupDone
  rw [State.raResult_slu, h, State.pinHit_pins]
  rfl

/-! ### Keys -/

theorem exec_keyLoad {slot : Nat} (hclock : s.gated 0x4100_0400 = false) :
    exec (.keyLoad slot) s = .next (s.ack.keyOp slot s.ack.keyData) := by
  change execKeyLoad slot s = _
  rw [execKeyLoad, State.access_of_clocked _ hclock]

theorem exec_keyZero {slot : Nat} (hclock : s.gated 0x4100_0400 = false) : exec (.keyZero slot) s = .next (s.ack.keyOp slot 0) := by
  change execKeyZero slot s = _
  rw [execKeyZero, State.access_of_clocked _ hclock]

theorem State.keyOp_busy (slot : Nat) (key : BitVec 512) : (s.keyOp slot key).get .SLU_KEY_CTRL_BUSY = 1 :=
  State.get_mk.trans (State.get_set_self _ _ _ (by decide))

theorem exec_keyTakeEffect {slot : Nat} {key : BitVec 512} {rest : List (Nat × BitVec 512)} (hops : s.slu.keyOps = (slot, key) :: rest)
    (hon : s.domainOn 58 = true) (hfree : s.dma.any (fun e => e.2.inUnit slot) = false) : exec .keyTakeEffect s =
      .next ((s.updSlu (fun u => { u with keys := u.keys.put slot key, keyOps := rest })).setIf .SLU_KEY_CTRL_BUSY (!rest.isEmpty)) := by
  change execKeyTakeEffect s = _
  rw [execKeyTakeEffect, hops]
  dsimp only
  rw [if_neg (by simp [hfree]), State.clocked, if_pos hon]

/-- Settles O28: each command is a case of its own condition; LOOKUP's region is the maximum of a fold over the listed ones. -/
theorem regionsAndKeys : Obligations.RegionsAndKeys := by
  unfold Obligations.RegionsAndKeys
  refine ⟨fun s r hclock hfree hmeta hlow hhigh hcache => ?_, fun s r hclock hbad => ?_, fun s r hclock hlive => ?_,
    fun s r hclock hdiscarded => ?_, fun s r hclock hfree => ?_, fun s hclock => ?_, fun s r hclock hpins => ?_,
    fun s r hclock hpins => ?_, fun s r hvalid hpins hhit httl => ?_, fun s slot hclock => ?_, fun s slot hclock => ?_,
    fun s slot key rest hops hon hfree => ?_⟩
  · refine completes_of_outFrame (execRegionSet_frame (parts_in rfl) (fun _ hr => hr))
      (t := (s.ack.updRegion r (fun _ => s.argRegion)).raResult false) ?_ (fun _ => ?_)
    · rw [exec_regionSet hclock]
      refine congrArg Host.Outcome.next (if_neg ?_)
      have hcache' : ¬s.inCache s.argBuf s.argLen = true := Bool.eq_false_iff.1 hcache
      have hhigh' : s.argBuf + s.argLen ≤ s.dramEnd := hhigh
      rintro (h | h | h | h | h)
      · exact h hfree
      · exact hmeta h
      · omega
      · omega
      · exact hcache' h
    · have hat : ((s.ack.updRegion r (fun _ => s.argRegion)).raResult false).slu.regions.at r = s.argRegion := by
        rw [State.raResult_slu, State.updRegion_at]
        exact Region.settled_of_live RegionState.noConfusion
      rw [hat]
      exact ⟨rfl, rfl, rfl, rfl, rfl, rfl, State.raResult_done _, State.raResult_err _, rfl⟩
  · refine completes_of_outFrame (execRegionSet_frame (parts_in rfl) (fun _ hr => hr)) (t := s.ack.raResult true) ?_
      (fun _ => State.raResult_refused)
    rw [exec_regionSet hclock]
    exact congrArg Host.Outcome.next (if_pos hbad)
  · have hfree : (s.slu.regions.at r).state ≠ .free := by rcases hlive with h | h | h <;> rw [h] <;> decide
    have hkept : (s.slu.regions.at r).state ≠ .discarded := by rcases hlive with h | h | h <;> rw [h] <;> decide
    refine completes_of_outFrame (execRegionDiscard_frame (parts_in rfl) (fun _ hr => hr)) (t := (s.ack.discardRegion r).raResult false) ?_
      (fun _ => ⟨State.discardRegion_state (s := s.ack) hfree hkept, State.discardRegion_held (s := s.ack) hfree hkept,
        State.raResult_done _, State.raResult_err _, (State.raResult_bus _).trans State.discardRegion_bus⟩)
    rw [exec_regionDiscard hclock, if_neg hfree]
  · refine completes_of_outFrame (execRegionDiscard_frame (parts_in rfl) (fun _ hr => hr)) (t := (s.ack.discardRegion r).raResult false) ?_
      (fun _ => ⟨State.raResult_done _, State.raResult_err _, (State.raResult_bus _).trans State.discardRegion_bus⟩)
    rw [exec_regionDiscard hclock, if_neg (by rw [hdiscarded]; decide)]
  · refine completes_of_outFrame (execRegionDiscard_frame (parts_in rfl) (fun _ hr => hr)) (t := s.ack.raResult true) ?_
      (fun _ => State.raResult_refused)
    rw [exec_regionDiscard hclock, if_pos hfree]
  · refine completes_of_outFrame (execRegionLookup_frame (parts_in rfl) (fun _ hr => hr)) (exec_regionLookup hclock)
      (fun _ => ⟨⟨s.bestRegion, fun r => State.leadOf_le_best r, State.lookupDone_lead, State.lookupDone_hit, fun hlead => ?_,
        fun hlead => ?_⟩,
        State.lookupDone_answer⟩)
    · refine State.lookupDone_region ?_
      have hlead' : 0 < s.leadOf s.bestRegion := hlead
      unfold State.hit hitCode
      split
      · decide
      · simp
    · refine State.lookupDone_pins ?_
      have hlead' : s.leadOf s.bestRegion = s.get .SLU_RA_ARG1_COUNT + 1 := hlead
      exact if_pos hlead'
  · refine completes_of_outFrame (execRegionUnpin_frame (parts_in rfl) (fun _ hr => hr))
      (t := (s.ack.updRegion r (fun x => { x with pins := x.pins - 1 })).raResult false) ?_
      (fun _ => ⟨?_, State.raResult_done _, State.raResult_err _, rfl⟩)
    · rw [exec_regionUnpin hclock, if_neg hpins]
    · rw [State.raResult_slu, State.updRegion_at, Region.settled_pins]
      rfl
  · refine completes_of_outFrame (execRegionUnpin_frame (parts_in rfl) (fun _ hr => hr)) (t := s.ack.raResult true) ?_
      (fun _ => State.raResult_refused)
    rw [exec_regionUnpin hclock, if_pos hpins]
  · have hfree : (s.slu.regions.at r).state ≠ .free := by rw [hvalid]; decide
    have hkept : (s.slu.regions.at r).state ≠ .discarded := by rw [hvalid]; decide
    refine completes_of_outFrame (execRegionTtlExpire_frame (parts_in rfl) (fun _ hr => hr))
      (t := (s.discardRegion r).incSat .SLU_RA_MISS_COUNT) ?_ (fun _ => ⟨State.discardRegion_state hfree hkept, ?_⟩)
    · have httl' : s.is .SLU_RA_CFG_TTL = true := bne_iff_ne.2 httl
      change execRegionTtlExpire r s = _
      rw [execRegionTtlExpire, hvalid, hpins, hhit, httl']
      rfl
    · rw [State.incSat_get_self (by decide), State.discardRegion_get hfree hkept (fun n => by dsimp only; omega)]
  · exact completes_of_outFrame (execKeyLoad_frame (parts_in rfl) (fun _ hr => hr)) (exec_keyLoad hclock)
      (fun _ => ⟨rfl, State.keyOp_busy _ _, rfl⟩)
  · exact completes_of_outFrame (execKeyZero_frame (parts_in rfl) (fun _ hr => hr)) (exec_keyZero hclock)
      (fun _ => ⟨rfl, State.keyOp_busy _ _, rfl⟩)
  · refine completes_of_outFrame (execKeyTakeEffect_frame (parts_in rfl) (fun _ hr => hr)) (exec_keyTakeEffect hops hon hfree)
      (fun _ => ⟨Tab.at_put_self s.slu.keys slot key, rfl, ?_⟩)
    refine (State.get_set_self _ _ _ (by decide)).trans ?_
    cases rest <;> rfl

end Sys2Proof.Machine
end

section
set_option Elab.async false
/-! STORES TO DRAM (13, 16). A store that answers without an error has written its bytes and no other, and has taken the poison marks of the
blocks that it covers (R386). -/

namespace Sys2Proof.Machine

variable {s : State} {a : Nat} {bs : List Byte}

/-- A state that differs in DRAM and in the poison map alone. -/
def State.Stored (s t : State) : Prop := ∃ d p m, t = { s with dram := d, slu := { s.slu with poisoned := p, pm := m } }

theorem State.Stored.refl (s : State) : s.Stored s := ⟨s.dram, s.slu.poisoned, s.slu.pm, rfl⟩

theorem State.Stored.trans {s t u : State} (h : s.Stored t) (h' : t.Stored u) : s.Stored u := by
  obtain ⟨d, p, m, rfl⟩ := h
  obtain ⟨d', p', m', rfl⟩ := h'
  exact ⟨d', p', m', rfl⟩

theorem State.Stored.writeBytes (s : State) (a : Nat) (bs : List Byte) : s.Stored (s.writeBytes a bs) := by
  induction bs generalizing s a with
  | nil => exact State.Stored.refl s
  | cons b bs ih => exact State.Stored.trans ⟨_, s.slu.poisoned, s.slu.pm, rfl⟩ (ih (s.putByte a b) (a + 1))

section stored

variable {t : State} (h : s.Stored t)
include h

theorem State.Stored.get (g : Fld) : t.get g = s.get g := by
  obtain ⟨d, p, m, rfl⟩ := h
  exact State.get_mk

theorem State.Stored.regs : t.regs = s.regs := by
  obtain ⟨d, p, m, rfl⟩ := h
  rfl

theorem State.Stored.sth : t.sth = s.sth := by
  obtain ⟨d, p, m, rfl⟩ := h
  rfl

theorem State.Stored.bus : t.bus = s.bus := by
  obtain ⟨d, p, m, rfl⟩ := h
  rfl

theorem State.Stored.slu : ∃ p m, t.slu = { s.slu with poisoned := p, pm := m } := by
  obtain ⟨d, p, m, rfl⟩ := h
  exact ⟨p, m, rfl⟩

theorem State.Stored.ledger : t.slu.ledger = s.slu.ledger := by
  obtain ⟨d, p, m, rfl⟩ := h
  rfl

theorem State.Stored.regions : t.slu.regions = s.slu.regions := by
  obtain ⟨d, p, m, rfl⟩ := h
  rfl

theorem State.Stored.stage (n : Nat) : t.stage n = s.stage n := by
  obtain ⟨d, p, m, rfl⟩ := h
  rfl

end stored

theorem State.byteAt_of_dram {t : State} (h : t.dram = s.dram) (x : Nat) :
    t.byteAt x = s.byteAt x := congrArg (fun d => tabGet (fun _ => 0) d x) h

/-- The bytes of `t` from `a` to `hi` are those of `bs` at `a`, and all others those of `s`. -/
def State.Wrote (s t : State) (a : Nat) (bs : List Byte) (hi : Nat) : Prop :=
  (∀ k (hk : k < bs.length), a + k < hi → t.byteAt (a + k) = bs[k]) ∧
  (∀ x, x < a ∨ a + bs.length ≤ x ∨ hi ≤ x → t.byteAt x = s.byteAt x)

theorem slice_length (b : Nat) : (slice a bs b).2.length = min (b + 64 - max a b) (bs.length - (b - a)) := by
  unfold slice
  rw [List.length_take, List.length_drop]

/-- The slice of block b extends what was written below it by the block. -/
theorem State.Wrote.slice {t : State} {b : Nat} (h : s.Wrote t a bs b) (hb : a / 64 * 64 ≤ b) :
    s.Wrote (t.writeBytes (slice a bs b).1 (slice a bs b).2) a bs (b + 64) := by
  have hlen := slice_length (a := a) (bs := bs) b
  have hstart : (Sys2Proof.Machine.slice a bs b).1 = max a b := rfl
  refine ⟨fun k hk hhi => ?_, fun x hx => ?_⟩
  · by_cases hin : a + k < b
    · rw [State.byteAt_writeBytes_out _ (.inl (by rw [hstart]; omega))]
      exact h.1 k hk hin
    · obtain ⟨j, hj⟩ : ∃ j, a + k = max a b + j := ⟨a + k - max a b, by omega⟩
      have hjlen : j < (Sys2Proof.Machine.slice a bs b).2.length := by omega
      have hbyte := State.byteAt_writeBytes_in t (a := (Sys2Proof.Machine.slice a bs b).1) hjlen
      rw [hj, ← hstart, hbyte]
      have hget : (Sys2Proof.Machine.slice a bs b).2[j] = bs[b - a + j]'(by omega) := by
        simp [Sys2Proof.Machine.slice]
      rw [hget]
      congr 1
      omega
  · rw [State.byteAt_writeBytes_out _ (by rw [hstart]; omega)]
    exact h.2 x (by omega)

theorem State.storeBlock_ok {acc : Bool × State} {b : Nat} (h : (State.storeBlock a bs acc b).1 = true) : acc.1 = true := by
  unfold State.storeBlock at h
  dsimp only at h
  split at h
  · split at h
    · exact h
    · cases h
  · exact h

/-- The record of block b cleared (R386). -/
def clearMark (b : Nat) (x : Poison) : Poison := if x.addr = b then { x with cleared := true } else x

/-- A block stored without an error: its slice is written, and the poison map may have lost its mark. -/
theorem State.storeBlock_eq {acc : Bool × State} {b : Nat} (h : (State.storeBlock a bs acc b).1 = true) :
    ∃ t, acc.2.Stored t ∧ (∀ x, t.byteAt x = acc.2.byteAt x) ∧
      (State.storeBlock a bs acc b).2 = t.writeBytes (slice a bs b).1 (slice a bs b).2 := by
  unfold State.storeBlock at h ⊢
  dsimp only at h ⊢
  split at h
  next hpoison =>
    split at h
    next hwhole =>
      rw [if_pos hpoison, if_pos hwhole]
      exact ⟨acc.2.updSlu (fun u => { u with poisoned := u.poisoned.put b false, pm := u.pm.map (clearMark b) }),
        ⟨acc.2.dram, _, _, rfl⟩, fun x => rfl, rfl⟩
    next => cases h
  next hclean =>
    rw [if_neg hclean]
    exact ⟨acc.2, State.Stored.refl _, fun x => rfl, rfl⟩

/-- The blocks from that of `a` up, `k` of them. -/
def blocksFrom (a k : Nat) : List Nat := (List.range k).map (fun i => 64 * (a / 64 + i))

theorem State.storeBlocks_wrote (k : Nat) (h : ((blocksFrom a k).foldl (State.storeBlock a bs) (true, s)).1 = true) :
    s.Stored ((blocksFrom a k).foldl (State.storeBlock a bs) (true, s)).2 ∧
    s.Wrote ((blocksFrom a k).foldl (State.storeBlock a bs) (true, s)).2 a bs (64 * (a / 64 + k)) := by
  induction k with
  | zero => exact ⟨State.Stored.refl s, fun j _ hj => absurd hj (by omega), fun _ _ => rfl⟩
  | succ k ih =>
    have hsucc : blocksFrom a (k + 1) = blocksFrom a k ++ [64 * (a / 64 + k)] := by
      rw [blocksFrom, List.range_succ, List.map_append]
      rfl
    rw [hsucc, List.foldl_append] at h ⊢
    obtain ⟨hstored, hwrote⟩ := ih (State.storeBlock_ok h)
    obtain ⟨t, ht, hbytes, heq⟩ := State.storeBlock_eq h
    have hwrote' : s.Wrote t a bs (64 * (a / 64 + k)) :=
      ⟨fun j hj hlt => (hbytes _).trans (hwrote.1 j hj hlt), fun x hx => (hbytes x).trans (hwrote.2 x hx)⟩
    rw [List.foldl_cons, List.foldl_nil, heq]
    refine ⟨(hstored.trans ht).trans (State.Stored.writeBytes _ _ _), ?_⟩
    have hnext := hwrote'.slice (by omega)
    rwa [show 64 * (a / 64 + k) + 64 = 64 * (a / 64 + (k + 1)) by omega] at hnext

theorem State.dramStore_eq (h : (s.dramStore a bs).1 = true) :
    s.dramStore a bs = (blocksFrom a ((a + bs.length + 63) / 64 - a / 64)).foldl (State.storeBlock a bs) (true, s) := by
  unfold State.dramStore at h ⊢
  split at h
  · cases h
  next hok =>
    rw [if_neg hok]
    rfl

/-- A store without an error changes DRAM and the poison map alone. -/
theorem State.dramStore_stored (h : (s.dramStore a bs).1 = true) : s.Stored (s.dramStore a bs).2 := by
  have heq := State.dramStore_eq h
  rw [heq] at h ⊢
  exact (State.storeBlocks_wrote _ h).1

theorem State.dramStore_in (h : (s.dramStore a bs).1 = true) {k : Nat} (hk : k < bs.length) : (s.dramStore a bs).2.byteAt (a + k) = bs[k] := by
  have heq := State.dramStore_eq h
  rw [heq] at h ⊢
  exact (State.storeBlocks_wrote _ h).2.1 k hk (by omega)

theorem State.dramStore_out (h : (s.dramStore a bs).1 = true) {x : Nat} (hx : x < a ∨ a + bs.length ≤ x) :
    (s.dramStore a bs).2.byteAt x = s.byteAt x := by
  have heq := State.dramStore_eq h
  rw [heq] at h ⊢
  exact (State.storeBlocks_wrote _ h).2.2 x (by omega)

/-! ### Loads -/

theorem State.dramLoad_eq_of_some {a len : Nat} {bs : List Byte} (h : (s.dramLoad a len).1 = some bs) :
    s.dramLoad a len = (some bs, s) := by
  unfold State.dramLoad at h ⊢
  split at h
  · cases h
  next hok =>
    rw [if_neg hok]
    split at h
    · cases h
    next hclean => exact congrArg (·, s) h

/-- What a load answers hangs on the registers, on DRAM and on the poison marks alone. -/
theorem State.dramLoad_fst_congr {t : State} (hregs : t.regs = s.regs) (hdram : t.dram = s.dram) (hslu : t.slu = s.slu) (a len : Nat) :
    (t.dramLoad a len).1 = (s.dramLoad a len).1 := by
  have hok : t.dramOk a len = s.dramOk a len := by
    unfold State.dramOk State.is State.dramEnd
    rw [State.get_of_regs hregs, State.get_of_regs hregs]
  have hpoison : t.poisonedAt = s.poisonedAt := by
    funext b
    unfold State.poisonedAt
    rw [hslu]
  have hbytes : t.readBytes a len = s.readBytes a len := by
    unfold State.readBytes State.byteAt
    rw [hdram]
  unfold State.dramLoad
  rw [hok, hpoison]
  split
  · rfl
  · split
    · rfl
    · exact congrArg some hbytes

end Sys2Proof.Machine
end

section
set_option Elab.async false
/-! THE LEDGER (13). Data that arrives for an entry is stored where the entry lies, and the entry is HELD once all of it is there (R318,
  R320);
Mire releases and completes entries by register (R315, R339). -/

namespace Sys2Proof.Machine

variable {s : State}

theorem State.updEntry_at (i : Nat) (f : LedgerEntry → LedgerEntry) : (s.updEntry i f).slu.ledger.at i = f (s.slu.ledger.at i) := by
  unfold State.updEntry
  rw [State.sluStatus_slu, State.updSlu_slu, Tab.at_upd_self]

theorem State.updEntry_ne {i j : Nat} (f : LedgerEntry → LedgerEntry) (h : j ≠ i) :
    (s.updEntry i f).slu.ledger.at j = s.slu.ledger.at j := by
  unfold State.updEntry
  rw [State.sluStatus_slu, State.updSlu_slu, Tab.at_upd_ne _ _ h]

theorem State.updEntry_sth (i : Nat) (f : LedgerEntry → LedgerEntry) : (s.updEntry i f).sth = s.sth := by
  unfold State.updEntry
  rw [State.sluStatus_sth, State.updSlu_sth]

theorem State.holdEntry_state (i : Nat) : ((s.holdEntry i).slu.ledger.at i).state = 2 := by
  unfold State.holdEntry
  dsimp only
  rw [State.updSth_slu, State.updEntry_at]

theorem State.holdEntry_ctx (i : Nat) : (s.holdEntry i).sth.ctxs.at (s.slu.ledger.at i).ctx =
    { s.sth.ctxs.at (s.slu.ledger.at i).ctx with ledgered := true } := by
  unfold State.holdEntry
  dsimp only
  rw [State.updSth_sth, State.updEntry_sth, Tab.at_upd_self]

/-- The ranges of an entry with [lo, hi) more. -/
def LedgerEntry.filledTo (e : LedgerEntry) (lo hi : Nat) : List (Nat × Nat) := if lo < hi then addRange lo hi e.filled else e.filled

theorem State.fillEntry_whole {i lo hi : Nat} (hstate : (s.slu.ledger.at i).state = 1)
    (h : (s.slu.ledger.at i).filledTo lo hi = [(0, s.runBytes (s.slu.ledger.at i))]) : s.fillEntry i lo hi = s.holdEntry i := by
  unfold State.fillEntry
  dsimp only
  rw [if_neg (by simp [hstate])]
  exact if_pos h

theorem State.fillEntry_cases (i lo hi : Nat) : s.fillEntry i lo hi = s.holdEntry i ∨ (s.fillEntry i lo hi).sth = s.sth := by
  unfold State.fillEntry
  extract_lets e l
  split
  · exact .inr rfl
  · split
    · exact .inl rfl
    · exact .inr (by rw [State.updSlu_sth])

/-- Filling an entry keeps what its context holds beside the mark of a whole entry. -/
theorem State.fillEntry_ctx (i lo hi : Nat) : ∃ l, (s.fillEntry i lo hi).sth.ctxs.at (s.slu.ledger.at i).ctx =
    { s.sth.ctxs.at (s.slu.ledger.at i).ctx with ledgered := l } := by
  rcases State.fillEntry_cases (s := s) i lo hi with h | h
  · exact ⟨true, by rw [h, State.holdEntry_ctx]⟩
  · exact ⟨(s.sth.ctxs.at (s.slu.ledger.at i).ctx).ledgered, by rw [h]⟩

/-! ### Data for an entry -/

/-- The context of an entry with `d` more of its data moved. -/
def State.movedOn (s : State) (x : Nat) (c : Ctx) (d : Nat) : State :=
  s.updSth (fun h => { h with ctxs := h.ctxs.put x { c with xfer := true, moved := c.moved + d } })

section filling

variable {entry : Nat} {data : List Byte} (hstate : (s.slu.ledger.at entry).state = 1)
  (hctx : (s.sth.ctxs.at (s.slu.ledger.at entry).ctx).state = 3)
  (hledger : (s.sth.ctxs.at (s.slu.ledger.at entry).ctx).ledger = some entry) (hserves : s.dramServes = true)
include hstate hctx hledger hserves

theorem exec_ledgerFilled_of_zeroes (hop : (s.sth.ctxs.at (s.slu.ledger.at entry).ctx).cmd.op = .writeZeroes)
    (hok : (s.dramStore (s.runAddr (s.slu.ledger.at entry)) (List.replicate (s.runBytes (s.slu.ledger.at entry)) 0)).1 = true) :
    exec (.ledgerFilled entry data) s =
      .next ((s.dramStore (s.runAddr (s.slu.ledger.at entry)) (List.replicate (s.runBytes (s.slu.ledger.at entry)) 0)).2.fillEntry entry 0
        (s.runBytes (s.slu.ledger.at entry))) := by
  change execLedgerFilled entry data s = _
  rw [execLedgerFilled]
  dsimp only
  rw [if_pos ⟨hstate, hctx, hledger, by rw [hop]; decide, hserves⟩, if_pos hop, hok, State.when, if_pos rfl]

theorem exec_ledgerFilled_of_data (hzero : (s.sth.ctxs.at (s.slu.ledger.at entry).ctx).cmd.op ≠ .writeZeroes)
    (hcopy : (s.sth.ctxs.at (s.slu.ledger.at entry).ctx).cmd.op ≠ .copy) {d : List Byte}
    (hd : data.take (s.runBytes (s.slu.ledger.at entry) - (s.sth.ctxs.at (s.slu.ledger.at entry).ctx).moved) = d)
    (hok : (s.dramStore (s.runAddr (s.slu.ledger.at entry) + (s.sth.ctxs.at (s.slu.ledger.at entry).ctx).moved) d).1 = true) :
    exec (.ledgerFilled entry data) s =
      .next (((s.dramStore (s.runAddr (s.slu.ledger.at entry) + (s.sth.ctxs.at (s.slu.ledger.at entry).ctx).moved) d).2.movedOn
        (s.slu.ledger.at entry).ctx (s.sth.ctxs.at (s.slu.ledger.at entry).ctx) d.length).fillEntry entry
          (s.sth.ctxs.at (s.slu.ledger.at entry).ctx).moved ((s.sth.ctxs.at (s.slu.ledger.at entry).ctx).moved + d.length)) := by
  change execLedgerFilled entry data s = _
  rw [execLedgerFilled]
  dsimp only
  rw [if_pos ⟨hstate, hctx, hledger, hcopy, hserves⟩, if_neg hzero, hd, hok, State.when, if_pos rfl, if_pos rfl]
  rfl

end filling

theorem State.movedOn_ctx (x : Nat) (c : Ctx) (d : Nat) :
    (s.movedOn x c d).sth.ctxs.at x = { c with xfer := true, moved := c.moved + d } := by
  unfold State.movedOn
  rw [State.updSth_sth, Tab.at_put_self]

theorem State.movedOn_dram (x : Nat) (c : Ctx) (d : Nat) : (s.movedOn x c d).dram = s.dram := rfl

theorem State.movedOn_slu (x : Nat) (c : Ctx) (d : Nat) : (s.movedOn x c d).slu = s.slu := rfl

theorem State.movedOn_runBytes (x : Nat) (c : Ctx) (d : Nat) (e : LedgerEntry) : (s.movedOn x c d).runBytes e = s.runBytes e := by
  unfold State.runBytes State.unitSize State.movedOn
  rw [State.updSth_get]

theorem State.Stored.runBytes {t : State} (h : s.Stored t) (e : LedgerEntry) : t.runBytes e = s.runBytes e := by
  unfold State.runBytes State.unitSize
  rw [h.get]

/-- Settles O29: a store without an error writes its bytes alone; a range that covers the run makes the entry HELD. -/
theorem ledgerEntriesFillAndFree : Obligations.LedgerEntriesFillAndFree := by
  unfold Obligations.LedgerEntriesFillAndFree
  refine ⟨fun s => ?_, fun s entry data hstate hctx hledger hserves hop hok => ?_,
    fun s entry data hstate hctx hledger hserves hzero hcopy hok => ?_, fun s ctx entry hclock hledger hctx hop hstate => ?_,
    fun s ctx hclock hbad => ?_, fun s entry hclock hstate => ?_, fun s entry hclock hstate => ?_, fun s hclock => ?_⟩
  · exact completes_of_outFrame (execDramTrained_frame (fun _ hr => hr)) rfl (fun _ => State.get_set_self _ _ _ (by decide))
  · have hstored := State.dramStore_stored hok
    refine completes_of_outFrame (execLedgerFilled_frame (parts_in rfl) (fun _ hr => hr))
      (exec_ledgerFilled_of_zeroes hstate hctx hledger hserves hop hok) (fun _ => ⟨fun k hk => ?_, fun a ha => ?_, fun hwhole => ?_⟩)
    · rw [State.byteAt_of_dram State.fillEntry_dram, State.dramStore_in hok (by rwa [List.length_replicate]), List.getElem_replicate]
    · rw [State.byteAt_of_dram State.fillEntry_dram, State.dramStore_out hok (by rwa [List.length_replicate])]
    · rw [State.fillEntry_whole (by rw [hstored.ledger]; exact hstate) (by rw [hstored.ledger, hstored.runBytes]; exact hwhole)]
      have hheld := State.holdEntry_ctx (s := (s.dramStore (s.runAddr (s.slu.ledger.at entry))
        (List.replicate (s.runBytes (s.slu.ledger.at entry)) 0)).2) entry
      rw [hstored.ledger] at hheld
      exact ⟨State.holdEntry_state _, congrArg Ctx.ledgered hheld⟩
  · generalize hd : data.take (s.runBytes (s.slu.ledger.at entry) - (s.sth.ctxs.at (s.slu.ledger.at entry).ctx).moved) = d at hok ⊢
    have hstored := State.dramStore_stored hok
    have hledger' : ((s.dramStore (s.runAddr (s.slu.ledger.at entry) + (s.sth.ctxs.at (s.slu.ledger.at entry).ctx).moved) d).2.movedOn
        (s.slu.ledger.at entry).ctx (s.sth.ctxs.at (s.slu.ledger.at entry).ctx) d.length).slu.ledger = s.slu.ledger := by
      rw [State.movedOn_slu, hstored.ledger]
    refine completes_of_outFrame (execLedgerFilled_frame (parts_in rfl) (fun _ hr => hr))
      (exec_ledgerFilled_of_data hstate hctx hledger hserves hzero hcopy hd hok) (fun _ => ?_)
    obtain ⟨l, hl⟩ := State.fillEntry_ctx (s := (s.dramStore (s.runAddr (s.slu.ledger.at entry) +
        (s.sth.ctxs.at (s.slu.ledger.at entry).ctx).moved) d).2.movedOn (s.slu.ledger.at entry).ctx
          (s.sth.ctxs.at (s.slu.ledger.at entry).ctx) d.length) entry (s.sth.ctxs.at (s.slu.ledger.at entry).ctx).moved
            ((s.sth.ctxs.at (s.slu.ledger.at entry).ctx).moved + d.length)
    rw [hledger', State.movedOn_ctx] at hl
    refine ⟨fun k hk => ?_, fun a ha => ?_, congrArg Ctx.xfer hl, congrArg Ctx.moved hl, fun hwhole => ?_⟩
    · rw [State.byteAt_of_dram State.fillEntry_dram, State.byteAt_of_dram (State.movedOn_dram _ _ _), State.dramStore_in hok hk]
    · rw [State.byteAt_of_dram State.fillEntry_dram, State.byteAt_of_dram (State.movedOn_dram _ _ _), State.dramStore_out hok ha]
    · rw [State.fillEntry_whole (by rw [hledger']; exact hstate)
        (by rw [hledger', State.movedOn_runBytes, hstored.runBytes]; exact (if_congr (by omega) rfl rfl).trans hwhole)]
      have hheld := State.holdEntry_ctx (s := (s.dramStore (s.runAddr (s.slu.ledger.at entry) +
        (s.sth.ctxs.at (s.slu.ledger.at entry).ctx).moved) d).2.movedOn (s.slu.ledger.at entry).ctx
          (s.sth.ctxs.at (s.slu.ledger.at entry).ctx) d.length) entry
      rw [hledger'] at hheld
      exact ⟨State.holdEntry_state _, congrArg Ctx.ledgered hheld⟩
  · refine completes_of_outFrame (execSluLedFill_frame (parts_in rfl) (fun _ hr => hr)) (t := s.ack.holdEntry entry) ?_
      (fun _ => ⟨State.holdEntry_state _, ?_, State.holdEntry_dram, State.holdEntry_bus, ?_⟩)
    · change execSluLedFill ctx s = _
      rw [execSluLedFill, State.access_of_clocked _ hclock, hledger]
      exact congrArg Host.Outcome.next (if_pos ⟨hctx, hop, hstate⟩)
    · exact congrArg Ctx.ledgered (State.holdEntry_ctx (s := s.ack) entry)
    · exact State.holdEntry_get (s := s.ack) (by decide +kernel)
  · refine completes_of_outFrame (execSluLedFill_frame (parts_in rfl) (fun _ hr => hr)) (t := s.ack.set .SLU_STATUS_REL_ERR 1) ?_
      (fun _ => ⟨rfl, rfl, State.get_set_self _ _ _ (by decide), rfl⟩)
    change execSluLedFill ctx s = _
    rw [execSluLedFill, State.access_of_clocked _ hclock]
    rcases hl : (s.sth.ctxs.at ctx).ledger with _ | entry
    · rfl
    · have hno := hbad entry hl
      refine congrArg Host.Outcome.next (if_neg ?_)
      rintro ⟨h3, hcopy, h1⟩
      rcases hno with h | h | h
      · exact h h3
      · exact h hcopy
      · exact h h1
  · refine completes_of_outFrame (execSluLedRel_frame (parts_in rfl) (fun _ hr => hr)) (t := s.ack.freeEntry entry) ?_
      (fun _ => ⟨State.updEntry_at _ _, fun i hi => State.updEntry_ne _ hi, State.freeEntry_bus,
        State.freeEntry_get (s := s.ack) (by decide +kernel)⟩)
    change execSluLedRel entry s = _
    rw [execSluLedRel, State.access_of_clocked _ hclock]
    exact congrArg Host.Outcome.next (if_pos hstate)
  · refine completes_of_outFrame (execSluLedRel_frame (parts_in rfl) (fun _ hr => hr)) (t := s.ack.set .SLU_STATUS_REL_ERR 1) ?_
      (fun _ => ⟨rfl, State.get_set_self _ _ _ (by decide), rfl⟩)
    change execSluLedRel entry s = _
    rw [execSluLedRel, State.access_of_clocked _ hclock]
    exact congrArg Host.Outcome.next (if_neg hstate)
  · refine completes_of_outFrame (execLedDataRead_frame (parts_in rfl) (fun _ hr => hr))
      (t := (s.ack.answer ((s.slu.ledger.at (s.get .SLU_LED_CUR_INDEX)).word 3)).inc .SLU_LED_CUR_INDEX) ?_ (fun _ => ⟨rfl, ?_⟩)
    · change execLedDataRead s = _
      rw [execLedDataRead, State.access_of_clocked _ hclock]
      rfl
    · rw [State.inc_get_self (by decide), State.answer_get, State.ack_get]

end Sys2Proof.Machine
end

section
set_option Elab.async false
/-! CAUSEWAY AND THE STREAM MOVERS (13). At a frame boundary the grants are given out from the active table,
  and a pending commit then takes the
shadow registers over (R325, R326); a mover passes one sector between its stream's staging and DRAM (R333). -/

namespace Sys2Proof.Machine

variable {s : State}

/-! ### Frames of the causeway -/

theorem State.grant_active (a : SlotAsk) : (s.grant a).slu.active = s.slu.active := by
  unfold State.grant
  dsimp only
  split
  · rfl
  · split <;> rfl

theorem State.grant_regs (a : SlotAsk) : (s.grant a).regs = s.regs := by
  unfold State.grant
  dsimp only
  split
  · rfl
  · split <;> rfl

/-- A frame of the causeway: the asks are served in turn. -/
def State.frameServed (s : State) (asks : List SlotAsk) : State := asks.foldl State.grant (s.updSlu (fun u => { u with grants := [] }))

theorem foldl_grant_keeps (asks : List SlotAsk) (s : State) :
    (asks.foldl State.grant s).slu.active = s.slu.active ∧ (asks.foldl State.grant s).regs = s.regs := by
  induction asks generalizing s with
  | nil => exact ⟨rfl, rfl⟩
  | cons a asks ih =>
    obtain ⟨hactive, hregs⟩ := ih (s.grant a)
    exact ⟨hactive.trans (State.grant_active a), hregs.trans (State.grant_regs a)⟩

theorem State.frameServed_active (asks : List SlotAsk) : (s.frameServed asks).slu.active = s.slu.active := (foldl_grant_keeps asks _).1

theorem State.frameServed_regs (asks : List SlotAsk) : (s.frameServed asks).regs = s.regs := (foldl_grant_keeps asks _).2

theorem State.frameServed_get (asks : List SlotAsk) (g : Fld) :
    (s.frameServed asks).get g = s.get g := State.get_of_regs (State.frameServed_regs asks) g

theorem State.set_regs_congr {t : State} (h : t.regs = s.regs) (f : Fld) (v : Nat) : (t.set f v).regs = (s.set f v).regs := by
  unfold State.set State.putReg
  dsimp only
  rw [State.regAt_of_regs h, h]

/-- Whether the shadow table is legal is read from the registers alone. -/
theorem State.commitOk_of_regs {t : State} (h : t.regs = s.regs) : t.commitOk = s.commitOk := by
  have howner : t.slotOwner = s.slotOwner := by
    funext i j
    unfold State.slotOwner
    simp only [State.get_of_regs h]
  unfold State.commitOk
  rw [howner, State.get_of_regs h]

/-- A table after the contents `v` were put at the keys of `l`. -/
theorem tabGet_foldl_put {α : Type} [DecidableEq α] (d v : Nat → α) (l : List Nat) (t : Tab α) {k : Nat}
    (h : k ∈ l ∨ tabGet d t k = v k) : tabGet d (l.foldl (fun t a => tabPut d t a (v a)) t) k = v k := by
  induction l generalizing t with
  | nil => exact h.resolve_left (by simp)
  | cons a l ih =>
    refine ih _ ?_
    by_cases hka : k = a
    · exact .inr (by rw [hka, tabGet_put_self])
    · refine h.imp (fun hmem => (List.mem_cons.1 hmem).resolve_left hka) (fun hv => ?_)
      rw [tabGet_put_ne _ _ _ hka, hv]

/-- A state whose active table is the shadow registers'. -/
def State.tableTaken (s : State) : State :=
  s.updSlu (fun u => { u with active := shadowAddrs.foldl (fun t a => tabPut regReset t a (s.regAt a)) u.active })

theorem State.tableTaken_active {a : Nat} (h : a ∈ shadowAddrs) : tabGet regReset s.tableTaken.slu.active a = s.regAt a := by
  unfold State.tableTaken
  rw [State.updSlu_slu]
  generalize shadowAddrs = l at h
  exact tabGet_foldl_put regReset s.regAt l s.slu.active (.inl h)

theorem exec_frameBoundary_of_pending {asks : List SlotAsk} (hclock : s.domainOn 39 = true) (hpend : s.get .CSW_STATUS_COMMIT_PEND = 1) :
    exec (.frameBoundary asks) s = .next (if (s.set .CSW_STATUS_COMMIT_PEND 0).commitOk then
      ((s.frameServed asks).set .CSW_STATUS_COMMIT_PEND 0).tableTaken
      else ((s.frameServed asks).set .CSW_STATUS_COMMIT_PEND 0).set .CSW_STATUS_COMMIT_ERR 1) := by
  have hpend' : (s.frameServed asks).is .CSW_STATUS_COMMIT_PEND = true := State.is_of_get ((State.frameServed_get asks _).trans hpend)
  have hframe : s.clocked 39 (fun s => s.frameServed asks) = s.frameServed asks := if_pos hclock
  change execFrameBoundary asks s = _
  rw [← State.commitOk_of_regs (State.set_regs_congr (State.frameServed_regs asks) .CSW_STATUS_COMMIT_PEND 0)]
  unfold execFrameBoundary
  extract_lets frame
  change Host.Outcome.next ((s.clocked 39 (fun s => s.frameServed asks)).when _ _) = _
  rw [hframe, State.when, State.is_of_get hpend, hclock]
  unfold State.tableTaken
  rfl

theorem exec_frameBoundary_of_none {asks : List SlotAsk} (hclock : s.domainOn 39 = true) (hpend : s.get .CSW_STATUS_COMMIT_PEND = 0) :
    exec (.frameBoundary asks) s = .next (s.frameServed asks) := by
  change execFrameBoundary asks s = _
  rw [execFrameBoundary]
  dsimp only
  rw [State.clocked, if_pos hclock, hclock, State.not_is_of_get hpend]
  rfl

/-! ### A requester cut off -/

theorem State.updStage_stage_self (n : Nat) (f : Staging → Staging) : (s.updStage n f).stage n = f (s.stage n) := Tab.at_upd_self _ _ _

/-- The staging of a stream whose requester was cut off in a transfer (R337). -/
def Staging.cutOff (g : Staging) (transfer : Nat) : Staging :=
  if !g.active then g else if g.retried = some transfer then { g with bufErr := true } else { g with retried := some transfer }

theorem Staging.cutOff_bufErr {g : Staging} (h : g.active = true) (transfer : Nat) :
    (g.cutOff transfer).bufErr = (g.bufErr || decide (g.retried = some transfer)) := by
  unfold Staging.cutOff
  rw [h]
  by_cases hr : g.retried = some transfer <;> simp [hr]

/-- The state as a hog leaves it before its line is recorded. -/
def State.cut (s : State) (r transfer : Nat) : State :=
  ((s.set .CSW_HOG_HOG (s.get .CSW_HOG_HOG ||| 2 ^ r)).when (decide (r < 8)) (fun s => s.updStage r (fun g => g.cutOff transfer))).when
    (decide (8 ≤ r)) State.busErr

theorem exec_cswHog (r transfer : Nat) : exec (.cswHog r transfer) s = .next ((s.cut r transfer).raise 0x0A01 r) := rfl

theorem State.cut_hog (r transfer : Nat) : (s.cut r transfer).get .CSW_HOG_HOG = (s.get .CSW_HOG_HOG ||| 2 ^ r) % 2 ^ 16 := by
  unfold State.cut
  refine (State.when_get (h := State.busErr) State.get_mk).trans ((State.when_get (State.updStage_get _ _ _ _)).trans ?_)
  exact State.get_set_self _ _ _ (by decide)

theorem State.cut_bus {r transfer : Nat} (h : 8 ≤ r) : (s.cut r transfer).bus = .busError := by
  unfold State.cut State.when
  rw [decide_eq_true h]
  rfl

theorem State.cut_bufErr {r transfer : Nat} (h : r < 8) (hactive : (s.stage r).active = true) :
    ((s.cut r transfer).stage r).bufErr = ((s.stage r).bufErr || decide ((s.stage r).retried = some transfer)) := by
  unfold State.cut State.when
  rw [decide_eq_true h, decide_eq_false (show ¬ 8 ≤ r by omega), if_neg Bool.false_ne_true, if_pos rfl, ← Staging.cutOff_bufErr hactive]
  exact congrArg Staging.bufErr (State.updStage_stage_self (s := s.set .CSW_HOG_HOG _) r _)

/-! ### The movers -/

/-- A stream whose staging holds the sector `bs` more. -/
def State.staged (s : State) (n : Nat) (bs : List Byte) : State :=
  (s.updStage n (fun x => { x with data := x.data ++ [(x.moved, bs)], moved := x.moved + 1, retried := none })).stgStatus n

theorem State.staged_moved (n : Nat) (bs : List Byte) : ((s.staged n bs).stage n).moved = (s.stage n).moved + 1 := by
  unfold State.staged
  rw [State.stgStatus_stage, State.updStage_stage_self]

theorem State.staged_data (n : Nat) (bs : List Byte) :
    ((s.staged n bs).stage n).data = (s.stage n).data ++ [((s.stage n).moved, bs)] := by
  unfold State.staged
  rw [State.stgStatus_stage, State.updStage_stage_self]

theorem State.staged_markers (n : Nat) (bs : List Byte) : ((s.staged n bs).stage n).markers = (s.stage n).markers := by
  unfold State.staged
  rw [State.stgStatus_stage, State.updStage_stage_self]

theorem State.staged_dram (n : Nat) (bs : List Byte) : (s.staged n bs).dram = s.dram := rfl

theorem State.staged_latched (n : Nat) (bs : List Byte) (c i : Nat) : (s.staged n bs).latched c i = s.latched c i := rfl

/-- The address of the sector that the mover of `g` is to fetch. -/
abbrev Staging.nextAt (g : Staging) : Nat := g.buf + (g.moved - g.header.toList.length) * (4096 + metaBytes g.meta_)

section movers

variable {n : Nat} (hclock : s.domainOn 57 = true) (hserves : s.dramServes = true) (hactive : (s.stage n).active = true)
  (hsound : (s.stage n).bufErr = false)
include hclock hserves hactive hsound

theorem execMover_runs :
    ¬ ((!(s.stage n).active) = true ∨ (s.stage n).bufErr = true ∨ (!s.domainOn 57) = true ∨ (!s.dramServes) = true) := by
  simp [hclock, hserves, hactive, hsound]

section filling

variable (hread : (s.stage n).read = false) (hmore : (s.stage n).moved < (s.stage n).total)
  (hroom : (s.stage n).moved - (s.stage n).freed < stagingSectors (s.stage n).meta_)
include hread hmore hroom

theorem exec_moverSectorDone_of_zeros (hzeros : (s.stage n).zeros = true) : exec (.moverSectorDone n) s =
    .next (s.staged n (List.replicate (4096 + metaBytes (s.stage n).meta_) 0)) := by
  change execMoverSectorDone n s = _
  rw [execMoverSectorDone]
  dsimp only
  rw [if_neg (execMover_runs hclock hserves hactive hsound), if_neg (ne_true_of_eq_false hread), if_pos ⟨hmore, hroom⟩, if_pos hzeros]
  rfl

variable (hzeros : (s.stage n).zeros = false)
include hzeros

theorem exec_moverSectorDone_of_header {h : List Byte} (hfirst : (s.stage n).moved = 0) (hheader : (s.stage n).header = some h) :
    exec (.moverSectorDone n) s = .next (s.staged n
      ((h ++ List.replicate (4096 + metaBytes (s.stage n).meta_) 0).take (4096 + metaBytes (s.stage n).meta_))) := by
  change execMoverSectorDone n s = _
  rw [execMoverSectorDone]
  dsimp only
  rw [if_neg (execMover_runs hclock hserves hactive hsound), if_neg (ne_true_of_eq_false hread), if_pos ⟨hmore, hroom⟩,
    if_neg (ne_true_of_eq_false hzeros), if_pos ⟨hfirst, by rw [hheader]; rfl⟩, hheader]
  rfl

variable (hdata : ¬ ((s.stage n).moved = 0 ∧ (s.stage n).header.isSome = true))
include hdata

theorem exec_moverSectorDone_of_load {bs : List Byte} {t : State}
    (hload : s.dramLoad (s.stage n).nextAt (4096 + metaBytes (s.stage n).meta_) = (some bs, t)) :
    exec (.moverSectorDone n) s = .next (t.staged n bs) := by
  change execMoverSectorDone n s = _
  rw [execMoverSectorDone]
  dsimp only
  rw [if_neg (execMover_runs hclock hserves hactive hsound), if_neg (ne_true_of_eq_false hread), if_pos ⟨hmore, hroom⟩,
    if_neg (ne_true_of_eq_false hzeros), if_neg hdata, hload]
  rfl

theorem exec_moverSectorDone_of_poison {t : State}
    (hload : s.dramLoad (s.stage n).nextAt (4096 + metaBytes (s.stage n).meta_) = (none, t))
    (hpoison : (blocksOf (s.stage n).nextAt (4096 + metaBytes (s.stage n).meta_)).any (fun b => t.poisonedAt b) = true) :
    exec (.moverSectorDone n) s = .next ((t.updStage n (fun g => { g with markers := g.markers ++ [g.moved] })).staged n
      (List.replicate (4096 + metaBytes (s.stage n).meta_) 0)) := by
  change execMoverSectorDone n s = _
  rw [execMoverSectorDone]
  dsimp only
  rw [if_neg (execMover_runs hclock hserves hactive hsound), if_neg (ne_true_of_eq_false hread), if_pos ⟨hmore, hroom⟩,
    if_neg (ne_true_of_eq_false hzeros), if_neg hdata, hload]
  dsimp only
  rw [if_pos hpoison]
  rfl

end filling

/-- The state after the sector `i` of a read left its staging for DRAM. -/
def State.movedOut (s : State) (n i : Nat) (g : Staging) (rest : List (Nat × List Byte)) : State :=
  (match g.region with
    | some r => (s.updStage n (fun g => { g with data := rest, moved := g.moved + 1, retried := none })).regionSector r (g.first + i)
    | none => s.updStage n (fun g => { g with data := rest, moved := g.moved + 1, retried := none })).stgStatus n

theorem exec_moverSectorDone_of_read {i : Nat} {bs : List Byte} {rest : List (Nat × List Byte)} (hread : (s.stage n).read = true)
    (hdata : (s.stage n).data = (i, bs) :: rest) (hturn : s.earlierWaits n i = false)
    (hok : (s.dramStore ((s.stage n).buf + i * (4096 + metaBytes (s.stage n).meta_)) bs).1 = true) :
    exec (.moverSectorDone n) s =
      .next ((s.dramStore ((s.stage n).buf + i * (4096 + metaBytes (s.stage n).meta_)) bs).2.movedOut n i (s.stage n) rest) := by
  change execMoverSectorDone n s = _
  rw [execMoverSectorDone]
  dsimp only
  rw [if_neg (execMover_runs hclock hserves hactive hsound), if_pos hread, hdata]
  dsimp only
  rw [if_neg (ne_true_of_eq_false hturn), if_pos hok]
  rfl

end movers

theorem State.regionSector_stage (r i n : Nat) : (s.regionSector r i).stage n = s.stage n := rfl

theorem State.movedOut_stage (n i : Nat) (g : Staging) (rest : List (Nat × List Byte)) :
    (s.movedOut n i g rest).stage n = { s.stage n with data := rest, moved := (s.stage n).moved + 1, retried := none } := by
  unfold State.movedOut
  rw [State.stgStatus_stage]
  split
  · rw [State.regionSector_stage, State.updStage_stage_self]
  · rw [State.updStage_stage_self]

theorem State.movedOut_dram (n i : Nat) (g : Staging) (rest : List (Nat × List Byte)) : (s.movedOut n i g rest).dram = s.dram := by
  unfold State.movedOut
  split <;> rfl

theorem State.movedOut_valid {n i r : Nat} {g : Staging} {rest : List (Nat × List Byte)} (hregion : g.region = some r)
    (hfilling : (s.slu.regions.at r).state = .filling) :
    ((s.movedOut n i g rest).slu.regions.at r).valid = (s.slu.regions.at r).valid.set (g.first + i) true := by
  have hlive : ({ s.slu.regions.at r with valid := (s.slu.regions.at r).valid.set (g.first + i) true } : Region).settled =
      { s.slu.regions.at r with valid := (s.slu.regions.at r).valid.set (g.first + i) true } :=
    Region.settled_of_live (by rw [hfilling]; exact RegionState.noConfusion)
  unfold State.movedOut
  rw [hregion, State.stgStatus_slu]
  unfold State.regionSector
  rw [State.updRegion_at, State.updStage_slu, if_pos hfilling, hlive]

theorem State.dramLoad_of_poison {a len : Nat} (hok : s.dramOk a len = true) (h : (blocksOf a len).any (fun b => s.poisonedAt b) = true) :
    ∃ b, s.dramLoad a len = (none, s.raise 0x0905 0 b) := by
  unfold State.dramLoad
  rw [hok, if_neg (by simp)]
  split
  next b hb => exact ⟨b, rfl⟩
  next hnone =>
    obtain ⟨b, hb, hp⟩ := List.any_eq_true.1 h
    exact absurd hp (List.find?_eq_none.1 hnone b hb)

/-- Settles O30: a commit is judged on the registers that the frame leaves; a mover passes one sector, a poisoned one as zeros. -/
theorem tablesCommitAndMoversMove : Obligations.TablesCommitAndMoversMove := by
  unfold Obligations.TablesCommitAndMoversMove
  refine ⟨fun s hclock => ?_, fun s asks hclock hpend hok => ?_, fun s asks hclock hpend hok => ?_, fun s asks hclock hpend => ?_,
    fun s r transfer hr => ?_, fun s n hclock hserves hactive hsound hread hmore hroom hzeros => ?_,
    fun s n h hclock hserves hactive hsound hread hmore hroom hzeros hfirst hheader => ?_,
    fun s n bs hclock hserves hactive hsound hread hmore hroom hzeros hdata hload => ?_,
    fun s n hclock hserves hactive hsound hread hmore hroom hzeros hdata hok hpoison => ?_,
    fun s n i bs rest hclock hserves hactive hsound hread hdata hturn hok => ?_⟩
  · refine completes_of_outFrame (execCswCommit_frame (parts_in rfl) (fun _ hr => hr)) (t := s.ack.set .CSW_STATUS_COMMIT_PEND 1) ?_
      (fun _ => ⟨State.get_set_self _ _ _ (by decide), rfl⟩)
    change execCswCommit s = _
    rw [execCswCommit, State.access_of_clocked _ hclock]
  · refine completes_of_outFrame (execFrameBoundary_frame (parts_in rfl) (fun _ hr => hr))
      ((exec_frameBoundary_of_pending hclock hpend).trans (congrArg Host.Outcome.next (if_pos hok))) (fun _ => ⟨?_, ?_, fun a ha => ?_⟩)
    · exact (State.updSlu_get _ _ _).trans (State.get_set_self _ _ _ (by decide))
    · refine (State.updSlu_get _ _ _).trans ?_
      rw [State.get_set_other _ _ (by decide), State.frameServed_get]
    · refine (State.tableTaken_active ha).trans ?_
      rw [State.regAt_set_ne _ (f := .CSW_STATUS_COMMIT_PEND) 0 (fun h => absurd ha (by rw [h]; decide)),
        State.regAt_of_regs (State.frameServed_regs asks)]
  · refine completes_of_outFrame (execFrameBoundary_frame (parts_in rfl) (fun _ hr => hr))
      ((exec_frameBoundary_of_pending hclock hpend).trans (congrArg Host.Outcome.next (if_neg (ne_true_of_eq_false hok))))
      (fun _ => ⟨?_, State.get_set_self _ _ _ (by decide), State.frameServed_active asks⟩)
    rw [State.get_set_other _ _ (by decide)]
    exact State.get_set_self _ _ _ (by decide)
  · exact completes_of_outFrame (execFrameBoundary_frame (parts_in rfl) (fun _ hr => hr)) (exec_frameBoundary_of_none hclock hpend)
      (fun _ => ⟨rfl, State.frameServed_active asks, State.frameServed_get asks _⟩)
  · refine completes_of_outFrame (execCswHog_frame (parts_in rfl) (fun _ hr => hr)) (exec_cswHog r transfer)
      (fun _ => ⟨?_, State.raise_latched_true (by decide +kernel), fun h => ?_, fun h hactive => ?_⟩)
    · rw [State.raise_mild_get (by decide +kernel) (by decide +kernel), State.cut_hog]
    · rw [State.raise_bus, State.cut_bus h]
    · rw [State.raise_mild_stage (by decide +kernel), State.cut_bufErr h hactive]
  · exact completes_of_outFrame (execMoverSectorDone_frame (parts_in rfl) (fun _ hr => hr))
      (exec_moverSectorDone_of_zeros hclock hserves hactive hsound hread hmore hroom hzeros)
      (fun _ => ⟨State.staged_moved _ _, State.staged_data _ _, State.staged_dram _ _⟩)
  · exact completes_of_outFrame (execMoverSectorDone_frame (parts_in rfl) (fun _ hr => hr))
      (exec_moverSectorDone_of_header hclock hserves hactive hsound hread hmore hroom hzeros hfirst hheader)
      (fun _ => ⟨State.staged_moved _ _, State.staged_data _ _, State.staged_dram _ _⟩)
  · exact completes_of_outFrame (execMoverSectorDone_frame (parts_in rfl) (fun _ hr => hr))
      (exec_moverSectorDone_of_load hclock hserves hactive hsound hread hmore hroom hzeros hdata (State.dramLoad_eq_of_some hload))
      (fun _ => ⟨State.staged_moved _ _, State.staged_data _ _, State.staged_dram _ _⟩)
  · obtain ⟨b, hload⟩ := State.dramLoad_of_poison hok hpoison
    refine completes_of_outFrame (execMoverSectorDone_frame (parts_in rfl) (fun _ hr => hr))
      (exec_moverSectorDone_of_poison hclock hserves hactive hsound hread hmore hroom hzeros hdata hload ?_)
      (fun _ => ⟨?_, ?_, ?_, ?_, ?_⟩)
    · rw [← hpoison]
      unfold State.poisonedAt
      rw [State.raise_slu]
    · rw [State.staged_moved, State.updStage_stage_self, State.raise_mild_stage (by decide +kernel)]
    · rw [State.staged_data, State.updStage_stage_self, State.raise_mild_stage (by decide +kernel)]
    · rw [State.staged_dram, State.updStage_dram, State.raise_dram]
    · rw [State.staged_markers, State.updStage_stage_self, State.raise_mild_stage (by decide +kernel)]
    · rw [State.staged_latched]
      exact State.raise_latched_true (s := s) (code := 0x0905) (inst := 0) (detail := b) (by decide +kernel)
  · have hstored := State.dramStore_stored hok
    refine completes_of_outFrame (execMoverSectorDone_frame (parts_in rfl) (fun _ hr => hr))
      (exec_moverSectorDone_of_read hclock hserves hactive hsound hread hdata hturn hok)
      (fun _ => ⟨?_, ?_, fun k hk => ?_, fun a ha => ?_, fun r hregion hfilling => ?_⟩)
    · rw [State.movedOut_stage, hstored.stage]
    · rw [State.movedOut_stage]
    · rw [State.byteAt_of_dram (State.movedOut_dram _ _ _ _), State.dramStore_in hok hk]
    · rw [State.byteAt_of_dram (State.movedOut_dram _ _ _ _), State.dramStore_out hok ha]
    · have hregions := hstored.regions
      rw [State.movedOut_valid hregion (by rw [hregions]; exact hfilling), hregions]

end Sys2Proof.Machine
end

section
set_option Elab.async false
/-! A DESCRIPTOR BEYOND THE ADDRESSES OF LODE_CH_CUR (14). LODE_CH_CUR holds 40 bits,
  and the address that the host sends with a descriptor has
no bound in the statement: one of 2^40 is staged there and then fetched from address 0. -/

namespace Sys2Proof.Machine

/-- A valid descriptor of 16 bytes from address 0 to DRAM, sent for address 2^40. -/
def distantDescriptor : HostDescriptor :=
  { ctx := 2, addr := 2 ^ 40, bytes := List.replicate 8 0 ++ [0, 0, 0, 0, 0x10, 0, 0, 0, 0x40, 0, 0, 0] ++ List.replicate 12 0 }

/-- Context 2 transfers data, and channel 3 is idle. -/
def idleChannel : State := { (State.reset.set .SLU_DRAM_CFG_TRAINED 1) with sth := { ctxs := [(2, { state := 3 })] } }

/-- The descriptor that channel 3 has loaded. -/
def loadedDescriptor : Host.Outcome State Fault Refusal → Option (List Byte)
  | .next t => some (t.dma.at 3).desc
  | _ => none

theorem loadedDescriptor_distant :
    loadedDescriptor (exec (.lodeDescriptorLoad 3 (some distantDescriptor)) idleChannel) ≠ some (distantDescriptor.bytes.take 32) := by
  decide +kernel

/-- Refutes O32: the channel that loads `distantDescriptor` holds other bytes than the host sent. -/
theorem not_channelsMoveBytes : ¬ Obligations.ChannelsMoveBytes := by
  unfold Obligations.ChannelsMoveBytes
  rintro ⟨hload, -⟩
  obtain ⟨t, ht, ⟨-, hdma, -⟩, -⟩ := hload idleChannel 3 distantDescriptor (by decide) (by decide +kernel) (by decide +kernel)
    (by decide +kernel) (by decide) (by decide +kernel) (by decide +kernel)
  refine loadedDescriptor_distant ?_
  rw [ht, loadedDescriptor, hdma]

end Sys2Proof.Machine
end

section
set_option Elab.async false
/-! COMMANDS OF A DMA CHANNEL (14). START,
  STOP and PAUSE move STATE (R353); a channel that stops has no END address and keeps of its descriptor
what it is between two (R354). A host channel (c < 8) reaches registers by none of its transfers (R343). -/

namespace Sys2Proof.Machine

variable {s : State} {c : Nat}

/-! ### Registers of a channel -/

theorem State.dmaState_state (c st : Nat) : (s.dmaState c st).get (.LODE_CH_STATUS_STATE c) = st % 2 ^ 3 := by
  unfold State.dmaState
  dsimp only
  refine (State.when_get ?_).trans ?_
  · exact State.dmaIrq_get (apart_mod (n := 32) _ (by decide) (by simp) (by decide +kernel) c)
  · rw [State.get_set_other _ _ (by dsimp only; omega), State.get_set_self _ _ _ (by simp)]

/-- Fields of channel `c` that neither a change of STATE nor an interrupt writes. -/
def dmaStateRegs : List Regs := [.fld .LODE_STATUS_ACTIVE, .fld .LODE_IRQ_IRQ, .arr (.LODE_CH_STATUS_STATE 0) 0x40 32]

theorem State.dmaFlag_get {f g : Fld} (hf : g.addr ≠ f.addr ∨ f.lo + f.width ≤ g.lo ∨ g.lo + g.width ≤ f.lo)
    (h : dmaStateRegs.all (fun r => r.apartB g) = true) : (s.dmaFlag c f).get g = s.get g := by
  unfold State.dmaFlag
  rw [State.dmaIrq_get (apart_sub h (by decide +kernel)), State.get_set_other _ _ hf]

theorem State.dmaFlag_dma (f : Fld) : (s.dmaFlag c f).dma = s.dma := State.dmaIrq_dma

theorem State.dmaFlag_bus (f : Fld) : (s.dmaFlag c f).bus = s.bus := State.dmaIrq_bus

theorem State.dmaFlag_cmdErr : (s.dmaFlag c (.LODE_CH_STATUS_CMD_ERR c)).get (.LODE_CH_STATUS_CMD_ERR c) = 1 := by
  unfold State.dmaFlag
  rw [State.dmaIrq_get (apart_mod (n := 32) _ (by decide) (by simp) (by decide +kernel) c)]
  exact State.get_set_self _ _ _ (by simp)

theorem State.dmaFlag_state :
    (s.dmaFlag c (.LODE_CH_STATUS_CMD_ERR c)).get (.LODE_CH_STATUS_STATE c) = s.get (.LODE_CH_STATUS_STATE c) := by
  unfold State.dmaFlag
  rw [State.dmaIrq_get (apart_mod (n := 32) _ (by decide) (by simp) (by decide +kernel) c), State.get_set_other _ _ (by simp)]

/-! ### Commands -/

section commands

variable {who : Who} {f : State → State} (hclock : s.gated (0x4400_0100 + 0x40 * c) = false)
include hclock

theorem State.dmaCmd_of_own (h : ¬(c < 8 ∧ who ≠ .mire)) : s.dmaCmd who c f = f s.ack := by
  unfold State.dmaCmd
  rw [State.access_of_clocked _ hclock, if_neg h]

theorem State.dmaCmd_of_other (h : c < 8 ∧ who ≠ .mire) : s.dmaCmd who c f = s.ack.dmaFlag c (.LODE_CH_STATUS_CMD_ERR c) := by
  unfold State.dmaCmd
  rw [State.access_of_clocked _ hclock, if_pos h]

end commands

/-- A refused command: CMD_ERR sets, and the channel stays. -/
theorem State.refused_holds : (s.ack.dmaFlag c (.LODE_CH_STATUS_CMD_ERR c)).get (.LODE_CH_STATUS_CMD_ERR c) = 1 ∧
    (s.ack.dmaFlag c (.LODE_CH_STATUS_CMD_ERR c)).get (.LODE_CH_STATUS_STATE c) = s.get (.LODE_CH_STATUS_STATE c) ∧
    (s.ack.dmaFlag c (.LODE_CH_STATUS_CMD_ERR c)).dma = s.dma ∧ (s.ack.dmaFlag c (.LODE_CH_STATUS_CMD_ERR c)).bus = .done :=
  ⟨State.dmaFlag_cmdErr, by rw [State.dmaFlag_state, State.ack_get], State.dmaFlag_dma _, State.dmaFlag_bus _⟩

/-- A channel that starts at its HEAD, before it runs. -/
def State.atHead (s : State) (c : Nat) : State :=
  (s.setCur c (s.get (.LODE_CH_HEAD_HI_ADDR c) * 2 ^ 32 + s.get (.LODE_CH_HEAD_LO_ADDR c) * 64)).updDma c (fun d => { spent := d.spent })

theorem State.atHead_lo : (s.atHead c).get (.LODE_CH_CUR_LO_ADDR c) = s.get (.LODE_CH_HEAD_LO_ADDR c) := by
  have hlo : s.get (.LODE_CH_HEAD_LO_ADDR c) < 2 ^ 26 := State.get_lt s _
  unfold State.atHead State.setCur
  refine State.get_mk.trans ?_
  rw [State.get_set_other _ _ (by dsimp only; omega), State.get_set_self _ _ _ (by simp)]
  dsimp only
  omega

theorem State.atHead_hi : (s.atHead c).get (.LODE_CH_CUR_HI_ADDR c) = s.get (.LODE_CH_HEAD_HI_ADDR c) := by
  have hlo : s.get (.LODE_CH_HEAD_LO_ADDR c) < 2 ^ 26 := State.get_lt s _
  have hhi : s.get (.LODE_CH_HEAD_HI_ADDR c) < 2 ^ 8 := State.get_lt s _
  unfold State.atHead State.setCur
  refine State.get_mk.trans ?_
  rw [State.get_set_self _ _ _ (by simp)]
  dsimp only
  omega

theorem State.updDma_at (f : DmaChannel → DmaChannel) : (s.updDma c f).dma.at c = f (s.dma.at c) := Tab.at_upd_self _ _ _

theorem State.atHead_dma : (s.atHead c).dma.at c = { spent := (s.dma.at c).spent } := by
  unfold State.atHead
  exact State.updDma_at _

theorem State.atHead_get {g : Fld} (h : ([.arr (.LODE_CH_CUR_LO_ADDR 0) 0x40 32, .arr (.LODE_CH_CUR_HI_ADDR 0) 0x40 32] : List
    Regs).all (fun r => r.apartB g) = true) : (s.atHead c).get g = s.get g := State.get_mk.trans (State.setCur_get h)

/-- PAUSE written, before STATE follows. -/
def State.pauseSet (s : State) (c : Nat) (p : Bool) : State := s.ack.setIf (.LODE_CH_CTRL_PAUSE c) p

theorem State.pauseSet_get {g : Fld} (p : Bool) (h : g.addr ≠ (Fld.LODE_CH_CTRL_PAUSE c).addr) : (s.pauseSet c p).get g = s.get g := by
  unfold State.pauseSet State.setIf
  rw [State.get_set_other _ _ (.inl h), State.ack_get]

theorem State.pauseSet_pause (p : Bool) : (s.pauseSet c p).get (.LODE_CH_CTRL_PAUSE c) = p.toNat := by
  unfold State.pauseSet State.setIf
  rw [State.get_set_self _ _ _ (by simp)]
  cases p <;> rfl

theorem State.pauseSet_state (p : Bool) : (s.pauseSet c p).get (.LODE_CH_STATUS_STATE c) = s.get (.LODE_CH_STATUS_STATE c) :=
  State.pauseSet_get p (by dsimp only; omega)

/-- A change of STATE after PAUSE was written. -/
theorem State.pauseSet_dmaState (p : Bool) (st : Nat) :
    ((s.pauseSet c p).dmaState c st).get (.LODE_CH_CTRL_PAUSE c) = p.toNat ∧ ((s.pauseSet c p).dmaState c st).dma = s.dma ∧
    ((s.pauseSet c p).dmaState c st).bus = .done :=
  ⟨by rw [State.dmaState_get (apart_mod (n := 32) _ (by decide) (by simp) (by decide +kernel) c), State.pauseSet_pause], State.dmaState_dma,
    State.dmaState_bus⟩

section stopAndPause

variable {who : Who} (hclock : s.gated (0x4400_0100 + 0x40 * c) = false) (hown : ¬(c < 8 ∧ who ≠ .mire))
include hclock hown

theorem exec_lodeStop_of_idle {p : Bool} (hstate : s.get (.LODE_CH_STATUS_STATE c) = 0) :
    exec (.lodeStop who c p) s = .next (s.pauseSet c p) := by
  change execLodeStop who c p s = _
  rw [execLodeStop, State.dmaCmd_of_own hclock hown]
  change Host.Outcome.next (match (s.pauseSet c p).get (.LODE_CH_STATUS_STATE c) with | 0 => _ | 4 => _ | _ => _) = _
  rw [State.pauseSet_state, hstate]
  rfl

theorem exec_lodeStop_of_paused {p : Bool} (hstate : s.get (.LODE_CH_STATUS_STATE c) = 4) :
    exec (.lodeStop who c p) s = .next ((s.pauseSet c p).dmaStop c 4) := by
  change execLodeStop who c p s = _
  rw [execLodeStop, State.dmaCmd_of_own hclock hown]
  change Host.Outcome.next (match (s.pauseSet c p).get (.LODE_CH_STATUS_STATE c) with | 0 => _ | 4 => _ | _ => _) = _
  rw [State.pauseSet_state, hstate]
  rfl

theorem exec_lodeStop_of_live {p : Bool} (hidle : s.get (.LODE_CH_STATUS_STATE c) ≠ 0) (hpaused : s.get (.LODE_CH_STATUS_STATE c) ≠ 4) :
    exec (.lodeStop who c p) s = .next ((s.pauseSet c p).dmaState c 5) := by
  change execLodeStop who c p s = _
  rw [execLodeStop, State.dmaCmd_of_own hclock hown]
  change Host.Outcome.next (match (s.pauseSet c p).get (.LODE_CH_STATUS_STATE c) with | 0 => _ | 4 => _ | _ => _) = _
  rw [State.pauseSet_state]
  split
  next h => exact absurd h hidle
  next h => exact absurd h hpaused
  next => rfl

theorem exec_lodePause_of_live (hstate : s.get (.LODE_CH_STATUS_STATE c) = 1 ∨ s.get (.LODE_CH_STATUS_STATE c) = 2) :
    exec (.lodePause who c true) s = .next ((s.pauseSet c true).dmaState c 3) := by
  change execLodePause who c true s = _
  rw [execLodePause, State.dmaCmd_of_own hclock hown]
  exact congrArg Host.Outcome.next (if_pos ⟨rfl, by rw [← State.pauseSet_state true] at hstate; exact hstate⟩)

/-- STATE of a channel that a cleared PAUSE lets go on. -/
def State.goesOn (s : State) (c : Nat) : Nat :=
  if (s.dma.at c).loaded = true ∧ (s.dma.at c).req ≠ 0 ∧ s.get (.LODE_CH_BURST_LEFT_BYTES c) = 0 then 2 else 1

theorem exec_lodePause_of_paused (hstate : s.get (.LODE_CH_STATUS_STATE c) = 3 ∨ s.get (.LODE_CH_STATUS_STATE c) = 4) :
    exec (.lodePause who c false) s = .next ((s.pauseSet c false).dmaState c (s.goesOn c)) := by
  have hburst : (s.pauseSet c false).get (.LODE_CH_BURST_LEFT_BYTES c) = s.get (.LODE_CH_BURST_LEFT_BYTES c) :=
    State.pauseSet_get false (by dsimp only; omega)
  rw [← State.pauseSet_state false] at hstate
  unfold State.goesOn
  rw [← hburst]
  change execLodePause who c false s = _
  rw [execLodePause, State.dmaCmd_of_own hclock hown]
  exact congrArg Host.Outcome.next ((if_neg (fun h => Bool.false_ne_true h.1)).trans (if_pos ⟨rfl, hstate⟩))

theorem exec_lodePause_of_idle {p : Bool} (hstate : s.get (.LODE_CH_STATUS_STATE c) = 0 ∨ s.get (.LODE_CH_STATUS_STATE c) = 5) :
    exec (.lodePause who c p) s = .next (s.pauseSet c p) := by
  rw [← State.pauseSet_state p] at hstate
  change execLodePause who c p s = _
  rw [execLodePause, State.dmaCmd_of_own hclock hown]
  exact congrArg Host.Outcome.next ((if_neg (fun h => by rcases hstate with h0 | h5 <;> rcases h.2 with h1 | h2 <;> simp_all [State.pauseSet])).trans
    (if_neg (fun h => by rcases hstate with h0 | h5 <;> rcases h.2 with h1 | h2 <;> simp_all [State.pauseSet])))

end stopAndPause

/-! ### A channel that stops -/

theorem inDram_status (s : State) (c : Nat) (h : inDram (s.dmaCur c) = true) : inDram (s.dmaCur c + 40) = true := by
  obtain ⟨n, hn⟩ : ∃ n, s.dmaCur c = 64 * n :=
    ⟨s.get (.LODE_CH_CUR_HI_ADDR c) * 2 ^ 26 + s.get (.LODE_CH_CUR_LO_ADDR c), by unfold State.dmaCur; omega⟩
  rw [hn] at h ⊢
  unfold inDram dramBase at h ⊢
  rw [Bool.and_eq_true, decide_eq_true_eq, decide_eq_true_eq] at h ⊢
  omega

theorem State.dramStore_get {a : Nat} {bs : List Byte} {g : Fld} (h : (alarmRegs ++ haltRegs).all (fun r => r.apartB g) = true) :
    (s.dramStore a bs).2.get g = s.get g := (State.dramStore_frame (fun _ hp => hp) (fun _ hr => hr) (Frame.refl _ _ s)).get h

theorem State.dramStore_bus (a : Nat) (bs : List Byte) : (s.dramStore a bs).2.bus = s.bus :=
  (State.dramStore_frame (fun _ hp => hp) regsIn_all (Frame.refl _ _ s)).same .bus (by decide)

theorem State.writeSram_regs (a : Nat) (bs : List Byte) : (s.writeSram a bs).regs = s.regs := by
  induction bs generalizing s a with
  | nil => rfl
  | cons b bs ih => exact ih _

theorem State.writeSram_bus (a : Nat) (bs : List Byte) : (s.writeSram a bs).bus = s.bus := by
  induction bs generalizing s a with
  | nil => rfl
  | cons b bs ih => exact ih _

theorem State.writeSram_dram (a : Nat) (bs : List Byte) : (s.writeSram a bs).dram = s.dram := by
  induction bs generalizing s a with
  | nil => rfl
  | cons b bs ih => exact ih _

section descWrite

variable {a : Nat} {bs : List Byte} (hat : c < 8 ∨ inDram a = true)
include hat

theorem State.descWrite_get {g : Fld} (h : (alarmRegs ++ haltRegs).all (fun r => r.apartB g) = true) :
    (s.descWrite c a bs).get g = s.get g := by
  unfold State.descWrite
  split
  · exact State.get_of_regs (State.writeSram_regs _ _) g
  next hc =>
    unfold State.dmaStore
    rw [if_pos (hat.resolve_left hc), State.dramStore_get h]

theorem State.descWrite_bus : (s.descWrite c a bs).bus = s.bus := by
  unfold State.descWrite
  split
  · exact State.writeSram_bus _ _
  next hc =>
    unfold State.dmaStore
    rw [if_pos (hat.resolve_left hc), State.dramStore_bus]

end descWrite

/-- Registers that the STATUS word of a descriptor may touch. -/
def dmaStatusRegs : List Regs := alarmRegs ++ haltRegs ++ [.fld .LODE_IRQ_IRQ, .arr (.LODE_CH_STATUS_DONE_CNT 0) 0x40 32]

theorem State.dmaStatus_get {a result err : Nat} {g : Fld} (hat : c < 8 ∨ inDram (a + 40) = true)
    (hcnt : g.addr ≠ (Fld.LODE_CH_STATUS_DONE_CNT c).addr ∨ 16 ≤ g.lo) (h : dmaStatusRegs.all (fun r => r.apartB g) = true) :
    (s.dmaStatus c a result err).get g = s.get g := by
  unfold State.dmaStatus
  dsimp only
  refine (State.when_get ?_).trans ?_
  · exact State.dmaIrq_get (apart_sub h (by decide +kernel))
  · rw [State.inc_get_other (hcnt.imp id .inl), State.updDma_get, State.descWrite_get hat (apart_sub h (by decide +kernel))]

theorem State.dmaStatus_dma (a result err : Nat) : (s.dmaStatus c a result err).dma.at c = ((s.descWrite c (a + 40) (leBytes 4
    (result * 2 ^ 30 + (s.dmaCh c).late.toNat * 2 ^ 29 + err * 2 ^ 24 + (s.dmaCh c).moved))).dma.at c).between := by
  unfold State.dmaStatus
  dsimp only
  refine (State.when_keeps (fun s => s.dma.at c) ?_).trans ?_
  · exact congrArg (fun l => Tab.at l c) State.dmaIrq_dma
  · exact State.updDma_at _

theorem State.dmaStatus_bus {a result err : Nat} (hat : c < 8 ∨ inDram (a + 40) = true) : (s.dmaStatus c a result err).bus = s.bus := by
  unfold State.dmaStatus
  dsimp only
  refine (State.when_keeps State.bus ?_).trans ?_
  · exact State.dmaIrq_bus
  · exact State.descWrite_bus (s := s) hat

theorem State.dmaStatus_dram {a result err : Nat} (hc : c < 8) : (s.dmaStatus c a result err).dram = s.dram := by
  unfold State.dmaStatus
  dsimp only
  refine (State.when_keeps State.dram ?_).trans ?_
  · exact State.dmaIrq_dram
  · unfold State.descWrite
    rw [if_pos hc]
    exact State.writeSram_dram _ _

/-- A channel that is idle, its END at 0. -/
def State.ended (s : State) (c : Nat) : State := ((s.setEnd c 0).set (.LODE_CH_BURST_LEFT_BYTES c) 0).dmaState c 0

theorem State.dmaStop_eq (err : Nat) :
    s.dmaStop c err = if (s.dmaCh c).loaded then (s.ended c).dmaStatus c (s.dmaCur c) 2 err else s.ended c := by
  unfold State.dmaStop
  dsimp only
  have hch : (((s.setEnd c 0).set (.LODE_CH_BURST_LEFT_BYTES c) 0).dmaState c 0).dmaCh c = s.dmaCh c :=
    congrArg (fun l => Tab.at l c) State.dmaState_dma
  rw [hch]
  rfl

theorem State.ended_dma : (s.ended c).dma = s.dma := State.dmaState_dma

theorem State.ended_bus : (s.ended c).bus = s.bus := State.dmaState_bus

theorem State.ended_dram : (s.ended c).dram = s.dram := State.dmaState_dram

theorem State.ended_state : (s.ended c).get (.LODE_CH_STATUS_STATE c) = 0 := State.dmaState_state c 0

theorem State.ended_lo : (s.ended c).get (.LODE_CH_END_LO_ADDR c) = 0 := by
  unfold State.ended
  rw [State.dmaState_get (apart_mod (n := 32) _ (by decide) (by simp) (by decide +kernel) c),
    State.get_set_other _ _ (by dsimp only; omega)]
  unfold State.setEnd
  rw [State.get_set_other _ _ (by dsimp only; omega)]
  exact State.get_set_self _ _ _ (by simp)

theorem State.ended_hi : (s.ended c).get (.LODE_CH_END_HI_ADDR c) = 0 := by
  unfold State.ended
  rw [State.dmaState_get (apart_mod (n := 32) _ (by decide) (by simp) (by decide +kernel) c),
    State.get_set_other _ _ (by dsimp only; omega)]
  exact State.get_set_self _ _ _ (by simp)

/-- What a stop leaves of channel `c`. -/
structure State.Stopped (t : State) (c : Nat) : Prop where
  state : t.get (.LODE_CH_STATUS_STATE c) = 0
  endLo : t.get (.LODE_CH_END_LO_ADDR c) = 0
  endHi : t.get (.LODE_CH_END_HI_ADDR c) = 0
  loaded : (t.dma.at c).loaded = false

section stops

variable (err : Nat) (hat : (s.dma.at c).loaded = false ∨ c < 8 ∨ inDram (s.dmaCur c) = true)
include hat

theorem State.dmaStop_stopped : (s.dmaStop c err).Stopped c := by
  rw [State.dmaStop_eq]
  cases hl : (s.dmaCh c).loaded with
  | false =>
    exact ⟨State.ended_state, State.ended_lo, State.ended_hi, (congrArg (fun l => (Tab.at l c).loaded) State.ended_dma).trans hl⟩
  | true =>
    have hat' : c < 8 ∨ inDram (s.dmaCur c + 40) = true :=
      (hat.resolve_left (ne_false_of_eq_true hl)).imp id (inDram_status s c)
    rw [if_pos rfl]
    exact ⟨(State.dmaStatus_get hat' (.inr (by simp)) (apart_mod (n := 32) _ (by decide) (by simp) (by decide +kernel) c)).trans
        State.ended_state,
      (State.dmaStatus_get hat' (.inl (by dsimp only; omega)) (apart_mod (n := 32) _ (by decide) (by simp) (by decide +kernel) c)).trans
        State.ended_lo,
      (State.dmaStatus_get hat' (.inl (by dsimp only; omega)) (apart_mod (n := 32) _ (by decide) (by simp) (by decide +kernel) c)).trans
        State.ended_hi,
      by rw [State.dmaStatus_dma]; rfl⟩

theorem State.dmaStop_bus : (s.dmaStop c err).bus = s.bus := by
  rw [State.dmaStop_eq]
  cases hl : (s.dmaCh c).loaded with
  | false => exact State.ended_bus
  | true => exact (State.dmaStatus_bus ((hat.resolve_left (ne_false_of_eq_true hl)).imp id (inDram_status s c))).trans State.ended_bus

end stops

theorem State.dmaStop_dram (err : Nat) (hc : c < 8) : (s.dmaStop c err).dram = s.dram := by
  rw [State.dmaStop_eq]
  split
  · exact (State.dmaStatus_dram hc).trans State.ended_dram
  · exact State.ended_dram

/-! ### A host channel's run -/

/-- No state and no descriptor of channel `c` differs between the two. -/
structure State.SameTransfer (c : Nat) (s t : State) : Prop where
  state : t.get (.LODE_CH_STATUS_STATE c) = s.get (.LODE_CH_STATUS_STATE c)
  desc : (t.dma.at c).desc = (s.dma.at c).desc

theorem State.SameTransfer.trans {t u : State} (h : State.SameTransfer c s t) (h' : State.SameTransfer c t u) : State.SameTransfer c s u :=
  ⟨h'.state.trans h.state, h'.desc.trans h.desc⟩

theorem State.SameTransfer.upd {f : DmaChannel → DmaChannel} (h : (f (s.dma.at c)).desc = (s.dma.at c).desc) :
    State.SameTransfer c s (s.updDma c f) := ⟨State.updDma_get _ _ _ _, by rw [State.updDma_at, h]⟩

/-- An operation that writes neither a channel nor the registers of the DMA engine. -/
theorem State.SameTransfer.of_frame {W : List Part} {R : List Regs} {t : State} (h : Frame W R s t) (hdma : Part.dma ∉ W)
    (hR : (List.range 32).all (fun i => R.all (fun r => r.apartB (.LODE_CH_STATUS_STATE i))) = true) : State.SameTransfer c s t :=
  ⟨h.get (apart_mod (n := 32) _ (by decide) (by simp) hR c), congrArg (fun l => (Tab.at l c).desc) (h.same .dma hdma)⟩

section run

variable (hc : c < 8)
include hc

theorem State.dmaLoad_transfer (a len : Nat) (outside : Option (List Byte)) : State.SameTransfer c s (s.dmaLoad c a len outside).2 := by
  unfold State.dmaLoad
  dsimp only
  split
  · exact .of_frame (State.dramLoad_frame (fun _ hp => hp) (fun _ hr => hr) (Frame.refl _ _ s)) (by decide) (by decide +kernel)
  · exact ⟨rfl, rfl⟩

theorem State.dmaStore_transfer (a : Nat) (bs : List Byte) (outside : Bool) : State.SameTransfer c s (s.dmaStore c a bs outside).2 := by
  unfold State.dmaStore
  split
  · exact .of_frame (State.dramStore_frame (fun _ hp => hp) (fun _ hr => hr) (Frame.refl _ _ s)) (by decide) (by decide +kernel)
  · exact ⟨rfl, rfl⟩

theorem State.dmaPut_transfer (fuel : Nat) (bs : List Byte) : State.SameTransfer c s (s.dmaPut c fuel bs).2 := by
  induction fuel generalizing s bs with
  | zero => exact ⟨rfl, rfl⟩
  | succ fuel ih =>
    unfold State.dmaPut
    extract_lets d k p
    have hp : State.SameTransfer c s p.2 := State.dmaStore_transfer hc _ _ _
    clear_value p
    split
    · exact ⟨rfl, rfl⟩
    · split
      · exact (hp.trans (.upd rfl)).trans (ih _)
      · exact hp

theorem State.dmaStep_transfer (acc : (Nat × Nat × List Byte) × State) : State.SameTransfer c acc.2 (State.dmaStep c acc).2 := by
  obtain ⟨⟨err, n, data⟩, s⟩ := acc
  unfold State.dmaStep
  dsimp only
  split
  · exact ⟨rfl, rfl⟩
  · generalize min n _ = len
    generalize (if (s.dmaCh c).srcOut c = true then some data else none) = outside
    have hload := State.dmaLoad_transfer (s := s) hc (s.dmaCh c).nextSrc len outside
    split
    next t heq =>
      rw [heq] at hload
      exact hload
    next bs t heq =>
      rw [heq] at hload
      refine (hload.trans (.upd ?_)).trans (State.dmaPut_transfer hc 16 _)
      rw [hload.desc]
      split <;> rfl

theorem State.dmaRun_transfer (n : Nat) (data : List Byte) : State.SameTransfer c s (s.dmaRun c n data).2 := by
  unfold State.dmaRun
  extract_lets d m r t
  have hfold : ∀ (l : List Nat) (acc : (Nat × Nat × List Byte) × State),
      State.SameTransfer c acc.2 (l.foldl (fun acc _ => State.dmaStep c acc) acc).2 := by
    intro l
    induction l with
    | nil => exact fun acc => ⟨rfl, rfl⟩
    | cons i l ih => exact fun acc => (State.dmaStep_transfer hc acc).trans (ih _)
  have ht : State.SameTransfer c s t := hfold _ ((0, m, data), s)
  clear_value t
  exact (ht.trans (.of_frame (State.dmaRegs_frame (W := []) (fun _ hr => hr) (Frame.refl _ _ t)) (by decide) (by decide +kernel))).trans
    (.of_frame (State.hostMoved_frame (fun _ hp => hp) (fun _ hr => hr) (Frame.refl _ _ _)) (by decide) (by decide +kernel))

end run

/-! ### The pause of a draining channel -/

theorem State.drainBytes_of_empty (h : (s.dma.at c).loaded = false) (k : Nat) : s.drainBytes c k = 0 := by
  unfold State.drainBytes State.dmaCh
  simp [h]

/-- A channel that drained pauses. -/
theorem State.pauses_of_live (h : s.get (.LODE_CH_STATUS_STATE c) = 3) :
    s.when (s.is (.LODE_CH_STATUS_STATE c)) (fun s => s.dmaState c 4) = s.dmaState c 4 := by
  rw [State.when, State.is, h]
  rfl

section paused

variable {k : Nat} {data : List Byte} (hserves : s.dmaServes c = true) (hlive : s.dmaLive c = true)
include hserves hlive

theorem exec_lodePaused_of_empty (hstate : s.get (.LODE_CH_STATUS_STATE c) = 3) (hempty : (s.dma.at c).loaded = false) :
    exec (.lodePaused c k data) s = .next (s.dmaState c 4) := by
  change execLodePaused c k data s = _
  rw [execLodePaused]
  dsimp only
  rw [if_pos ⟨.inl hstate, hserves⟩, State.dmaGuard, if_pos hlive, State.drainBytes_of_empty hempty, if_pos rfl]
  dsimp only
  rw [if_neg (fun h => h rfl), if_neg (by rw [hstate]; decide), if_neg (by rw [State.dmaCh, hempty]; exact Bool.false_ne_true),
    State.pauses_of_live hstate]

theorem exec_lodePaused_of_run (hc : c < 8) (hstate : s.get (.LODE_CH_STATUS_STATE c) = 3) (hdrain : s.drainBytes c k ≠ 0)
    (hrun : (s.dmaRun c (s.drainBytes c k) data).1 = 0)
    (hmore : ((s.dmaRun c (s.drainBytes c k) data).2.dma.at c).moved ≠ (s.dma.at c).len) :
    exec (.lodePaused c k data) s = .next ((s.dmaRun c (s.drainBytes c k) data).2.dmaState c 4) := by
  change execLodePaused c k data s = _
  rw [execLodePaused]
  dsimp only
  rw [if_pos ⟨.inl hstate, hserves⟩, State.dmaGuard, if_pos hlive, if_neg hdrain, if_neg (fun h => h hrun), if_neg (by rw [hstate]; decide),
    if_neg ?_, State.pauses_of_live ((State.dmaRun_transfer hc _ _).state.trans hstate)]
  have hlen : ((s.dmaRun c (s.drainBytes c k) data).2.dmaCh c).len = (s.dma.at c).len :=
    congrArg (fun b => fieldAt b 16 4) (State.dmaRun_transfer hc _ _).desc
  rw [hlen, Bool.and_eq_true, beq_iff_eq]
  exact fun h => hmore h.2.symm

theorem exec_lodePaused_of_stop (hstate : s.get (.LODE_CH_STATUS_STATE c) = 5) (hrun : (s.dmaRun c (s.drainBytes c k) data).1 = 0) :
    exec (.lodePaused c k data) s =
      .next ((if s.drainBytes c k = 0 then s else (s.dmaRun c (s.drainBytes c k) data).2).dmaStop c 4) := by
  change execLodePaused c k data s = _
  rw [execLodePaused]
  dsimp only
  rw [if_pos ⟨.inr hstate, hserves⟩, State.dmaGuard, if_pos hlive]
  by_cases hdrain : s.drainBytes c k = 0
  · rw [if_pos hdrain, if_pos hdrain]
    dsimp only
    rw [if_neg (fun h => h rfl), if_pos hstate]
  · rw [if_neg hdrain, if_neg hdrain, if_neg (fun h => h hrun), if_pos hstate]

end paused

/-- Settles O31: a command that is taken moves STATE as its case says; a drained run changes neither STATE nor the descriptor. -/
theorem channelsTakeCommands : Obligations.ChannelsTakeCommands := by
  unfold Obligations.ChannelsTakeCommands
  refine ⟨fun s who c hclock hown hidle => ?_, fun s who c hclock hown hlive => ?_, fun s core c hclock hc => ?_,
    fun s who c p hclock hown hidle => ?_, fun s who c p hclock hown hidle hpaused => ?_, fun s who c p hclock hown hpaused hat => ?_,
    fun s who c hclock hown hlive => ?_, fun s who c hclock hown hpaused => ?_, fun s who c p hclock hown hidle => ?_,
    fun s c k data hserves hlive hstate hempty => ?_, fun s c k data hc hserves hlive hstate hloaded hdrain hrun hmore => ?_,
    fun s c k data hc hserves hlive hstate hrun => ?_⟩
  · refine completes_of_outFrame (execLodeStart_frame (parts_in rfl) (fun _ hr => hr))
      (t := (s.ack.atHead c).dmaState c (if s.is (.LODE_CH_CTRL_PAUSE c) then 3 else 1)) ?_
      (fun _ => ⟨?_, ?_, ?_, ?_, State.dmaState_bus⟩)
    · have hpause : (s.ack.atHead c).is (.LODE_CH_CTRL_PAUSE c) = s.is (.LODE_CH_CTRL_PAUSE c) := by
        unfold State.is
        rw [State.atHead_get (apart_mod (n := 32) _ (by decide) (by simp) (by decide +kernel) c), State.ack_get]
      change execLodeStart who c s = _
      rw [execLodeStart, State.dmaCmd_of_own hclock hown, ← hpause]
      exact congrArg Host.Outcome.next (if_neg (by rw [State.is, State.ack_get, hidle]; decide))
    · rw [State.dmaState_state]
      have hbit : s.get (.LODE_CH_CTRL_PAUSE c) < 2 := State.get_lt s _
      rcases (by omega : s.get (.LODE_CH_CTRL_PAUSE c) = 0 ∨ s.get (.LODE_CH_CTRL_PAUSE c) = 1) with h | h
      · rw [State.is, h]
        rfl
      · rw [State.is, h]
        rfl
    · rw [State.dmaState_get (apart_mod (n := 32) _ (by decide) (by simp) (by decide +kernel) c), State.atHead_lo, State.ack_get]
    · rw [State.dmaState_get (apart_mod (n := 32) _ (by decide) (by simp) (by decide +kernel) c), State.atHead_hi, State.ack_get]
    · rw [State.dmaState_dma, State.atHead_dma]
      rfl
  · refine completes_of_outFrame (execLodeStart_frame (parts_in rfl) (fun _ hr => hr)) (t := s.ack.dmaFlag c (.LODE_CH_STATUS_CMD_ERR c)) ?_
      (fun _ => State.refused_holds)
    change execLodeStart who c s = _
    rw [execLodeStart, State.dmaCmd_of_own hclock hown]
    exact congrArg Host.Outcome.next (if_pos (by rw [State.is, State.ack_get]; exact bne_iff_ne.2 hlive))
  · refine completes_of_outFrame (execLodeStart_frame (parts_in rfl) (fun _ hr => hr)) (t := s.ack.dmaFlag c (.LODE_CH_STATUS_CMD_ERR c)) ?_
      (fun _ => State.refused_holds)
    change execLodeStart (.fen core) c s = _
    rw [execLodeStart, State.dmaCmd_of_other hclock ⟨hc, Who.noConfusion⟩]
  · exact completes_of_outFrame (execLodeStop_frame (parts_in rfl) (fun _ hr => hr)) (exec_lodeStop_of_idle hclock hown hidle)
      (fun _ => ⟨(State.pauseSet_state p).trans hidle, State.pauseSet_pause p, rfl, rfl⟩)
  · exact completes_of_outFrame (execLodeStop_frame (parts_in rfl) (fun _ hr => hr)) (exec_lodeStop_of_live hclock hown hidle hpaused)
      (fun _ => ⟨State.dmaState_state c 5, State.pauseSet_dmaState p 5⟩)
  · have hcur : (s.pauseSet c p).dmaCur c = s.dmaCur c := by
      unfold State.dmaCur
      rw [State.pauseSet_get p (by dsimp only; omega), State.pauseSet_get p (by dsimp only; omega)]
    have hat' : ((s.pauseSet c p).dma.at c).loaded = false ∨ c < 8 ∨ inDram ((s.pauseSet c p).dmaCur c) = true := by
      rw [hcur]
      exact hat
    obtain ⟨hstate, hlo, hhi, hloaded⟩ := State.dmaStop_stopped 4 hat'
    exact completes_of_outFrame (execLodeStop_frame (parts_in rfl) (fun _ hr => hr)) (exec_lodeStop_of_paused hclock hown hpaused)
      (fun _ => ⟨hstate, hlo, hhi, hloaded, State.dmaStop_bus 4 hat'⟩)
  · exact completes_of_outFrame (execLodePause_frame (parts_in rfl) (fun _ hr => hr)) (exec_lodePause_of_live hclock hown hlive)
      (fun _ => ⟨State.dmaState_state c 3, State.pauseSet_dmaState true 3⟩)
  · refine completes_of_outFrame (execLodePause_frame (parts_in rfl) (fun _ hr => hr)) (exec_lodePause_of_paused hclock hown hpaused)
      (fun _ => ⟨?_, State.pauseSet_dmaState false _⟩)
    rw [State.dmaState_state]
    unfold State.goesOn
    split <;> rfl
  · exact completes_of_outFrame (execLodePause_frame (parts_in rfl) (fun _ hr => hr)) (exec_lodePause_of_idle hclock hown hidle)
      (fun _ => ⟨State.pauseSet_state p, State.pauseSet_pause p, rfl, rfl⟩)
  · exact completes_of_outFrame (execLodePaused_frame (parts_in rfl) (fun _ hr => hr)) (exec_lodePaused_of_empty hserves hlive hstate hempty)
      (fun _ => ⟨State.dmaState_state c 4, State.dmaState_dma⟩)
  · exact completes_of_outFrame (execLodePaused_frame (parts_in rfl) (fun _ hr => hr))
      (exec_lodePaused_of_run hserves hlive hc hstate hdrain hrun hmore)
      (fun _ => ⟨State.dmaState_state c 4, State.dmaState_dma, State.dmaState_dram⟩)
  · obtain ⟨hidle, hlo, hhi, hloaded⟩ :=
      State.dmaStop_stopped (s := if s.drainBytes c k = 0 then s else (s.dmaRun c (s.drainBytes c k) data).2) (c := c) 4 (.inr (.inl hc))
    refine completes_of_outFrame (execLodePaused_frame (parts_in rfl) (fun _ hr => hr))
      (exec_lodePaused_of_stop hserves hlive hstate hrun) (fun _ => ⟨hidle, hlo, hhi, hloaded, fun hdrain => ?_⟩)
    rw [State.dmaStop_dram 4 hc, if_neg hdrain]

end Sys2Proof.Machine
end

section
set_option Elab.async false
/-! THE MAP CACHE (15). A line's content is read without a change (R366); an access that none holds back acts at once (R364),
  and a store that is
accepted joins the youngest entry of the posted-write buffer or opens one (R365). -/

namespace Sys2Proof.Machine

variable {s : State}

theorem Tab.at_default_or_mem {α : Type} [Inhabited α] (t : Tab α) (k : Nat) : t.at k = default ∨ (k, t.at k) ∈ t := by
  unfold Tab.at tabGet
  induction t with
  | nil => exact .inl rfl
  | cons e t ih =>
    by_cases h : e.1 = k
    · rw [tabFind, if_pos h]
      exact .inr (by rw [← h]; exact List.mem_cons_self)
    · rw [tabFind, if_neg h]
      exact ih.imp id (List.mem_cons_of_mem _)

/-! ### A line's content -/

theorem State.carrFetch_fst (line : Nat) : (s.carrFetch line).1 =
    (s.dramLoad (line * 64) 64).1.map (fun bs => (s.carr.pwb.filter (fun p => p.line = line)).foldl (fun b p => p.over b) bs) := by
  unfold State.carrFetch
  cases h : (s.dramLoad (line * 64) 64).1 with
  | none =>
    obtain ⟨t, ht⟩ : ∃ t, s.dramLoad (line * 64) 64 = (none, t) := ⟨_, Prod.ext h rfl⟩
    rw [ht]
    rfl
  | some bs =>
    rw [State.dramLoad_eq_of_some h]
    rfl

/-- The answer of a fetch hangs on the registers, DRAM, its poison marks and the buffer alone. -/
theorem State.carrFetch_fst_congr {t : State} (hregs : t.regs = s.regs) (hdram : t.dram = s.dram) (hslu : t.slu = s.slu)
    (hpwb : t.carr.pwb = s.carr.pwb) (line : Nat) : (t.carrFetch line).1 = (s.carrFetch line).1 := by
  rw [State.carrFetch_fst, State.carrFetch_fst, State.dramLoad_fst_congr hregs hdram hslu, hpwb]

theorem State.carrFetch_of_some {line : Nat} {d : List Byte} (h : (s.carrFetch line).1 = some d) : s.carrFetch line = (some d, s) := by
  rw [State.carrFetch_fst, Option.map_eq_some_iff] at h
  obtain ⟨bs, hload, hd⟩ := h
  unfold State.carrFetch
  rw [State.dramLoad_eq_of_some hload, ← hd]

/-- The line where it is held. -/
def State.heldLine (s : State) (line : Nat) : Option CarrLine := (s.carrFind line).bind (fun k => s.carr.lines.at k)

theorem State.carrData_of_held {line : Nat} {l : CarrLine} (h : s.heldLine line = some l) (hon : s.get .CARR_STATUS_STATE = 1) :
    s.carrData line = (some l.data, s) := by
  unfold State.heldLine at h
  unfold State.carrData
  rw [h]
  exact if_pos hon

theorem State.carrData_of_off {line : Nat} (hon : s.get .CARR_STATUS_STATE ≠ 1) : s.carrData line = s.carrFetch line := by
  unfold State.carrData
  split
  · exact if_neg hon
  · rfl

theorem State.carrData_of_absent {line : Nat} (h : s.heldLine line = none) : s.carrData line = s.carrFetch line := by
  unfold State.heldLine at h
  unfold State.carrData
  rw [h]

theorem State.carrData_of_some {line : Nat} {d : List Byte} (h : (s.carrData line).1 = some d) : s.carrData line = (some d, s) := by
  by_cases hon : s.get .CARR_STATUS_STATE = 1
  · cases hl : s.heldLine line with
    | none =>
      rw [State.carrData_of_absent hl] at h ⊢
      exact State.carrFetch_of_some h
    | some l =>
      rw [State.carrData_of_held hl hon] at h ⊢
      exact congrArg (·, s) h
  · rw [State.carrData_of_off hon] at h ⊢
    exact State.carrFetch_of_some h

/-! ### Where a line is held -/

theorem State.carrSet_of_regs {t : State} (h : t.regs = s.regs) (line : Nat) : t.carrSet line = s.carrSet line := by
  unfold State.carrSet State.is
  rw [State.get_of_regs h]

/-- Way `w` of the line's set holds the line. -/
def State.wayHolds (s : State) (line w : Nat) : Bool := (s.carr.lines.at (16 * s.carrSet line + w)).any (fun l => l.line == line)

theorem State.carrFind_eq (line : Nat) :
    s.carrFind line = ((List.range 16).find? (s.wayHolds line)).map (16 * s.carrSet line + ·) := rfl

theorem State.carrFind_eq_none {line : Nat} : s.carrFind line = none ↔ ∀ w < 16, s.wayHolds line w = false := by
  rw [State.carrFind_eq, Option.map_eq_none_iff, List.find?_eq_none]
  simp only [List.mem_range, Bool.not_eq_true]

theorem State.carrFind_congr {t : State} (hregs : t.regs = s.regs) (hlines : t.carr.lines = s.carr.lines) (line : Nat) :
    t.carrFind line = s.carrFind line := by
  unfold State.carrFind
  rw [State.carrSet_of_regs hregs, hlines]

theorem State.carrData_fst_congr {t : State} (hregs : t.regs = s.regs) (hdram : t.dram = s.dram) (hslu : t.slu = s.slu)
    (hpwb : t.carr.pwb = s.carr.pwb) (hlines : t.carr.lines = s.carr.lines) (line : Nat) : (t.carrData line).1 = (s.carrData line).1 := by
  have hfetch := State.carrFetch_fst_congr hregs hdram hslu hpwb line
  unfold State.carrData
  rw [State.carrFind_congr hregs hlines, hlines, State.get_of_regs hregs]
  split
  · split
    · rfl
    · exact hfetch
  · exact hfetch

/-! ### A store that is accepted -/

/-- A held line with the store's bytes on top. -/
def CarrLine.overlaid (line : Nat) (mask : List (Option Byte)) (l : CarrLine) : CarrLine :=
  { l with data := Posted.over { line := line, bytes := mask } l.data }

/-- The held line, where there is one, takes the store. -/
def State.overlay (s : State) (line : Nat) (mask : List (Option Byte)) : State :=
  match s.carrFind line with
  | some k => s.updCarr (fun c => { c with lines := c.lines.upd k (fun l => l.map (CarrLine.overlaid line mask)) })
  | none => s

/-- The state after a store was accepted, with the buffer `q`. -/
def State.posted (s : State) (line : Nat) (mask : List (Option Byte)) (q : List Posted) : State :=
  ((s.updCarr (fun c => { c with pwb := q })).overlay line mask).pwbStatus.breakResv line

section post

variable {core addr : Nat} {bs : List Byte}

theorem State.carrPost_opens (hyoung : ∀ p, s.carr.pwb.getLast? = some p → p.line ≠ addr / 64) (hroom : s.carr.pwb.length < 4) :
    s.carrPost core addr bs = some (s.posted (addr / 64) (storeMask addr bs)
      (s.carr.pwb ++ [{ line := addr / 64, bytes := storeMask addr bs, cores := [core] }])) := by
  unfold State.carrPost
  dsimp only
  cases hlast : s.carr.pwb.getLast? with
  | none =>
    rw [List.getLast?_eq_none_iff.1 hlast]
    rfl
  | some p =>
    dsimp only
    rw [if_neg (hyoung p hlast), if_pos hroom]
    rfl

theorem State.carrPost_merges {p : Posted} (hlast : s.carr.pwb.getLast? = some p) (hline : p.line = addr / 64) :
    s.carrPost core addr bs = some (s.posted (addr / 64) (storeMask addr bs) (s.carr.pwb.dropLast ++ [{ p with
      bytes := (p.bytes.zip (storeMask addr bs)).map (fun e => e.2.orElse (fun _ => e.1)), cores := p.cores ++ [core] }])) := by
  unfold State.carrPost
  dsimp only
  rw [hlast]
  dsimp only
  rw [if_pos hline]
  rfl

theorem State.carrPost_full (hyoung : ∀ p, s.carr.pwb.getLast? = some p → p.line ≠ addr / 64) (hfull : 4 ≤ s.carr.pwb.length) :
    s.carrPost core addr bs = none := by
  unfold State.carrPost
  dsimp only
  cases hlast : s.carr.pwb.getLast? with
  | none =>
    rw [List.getLast?_eq_none_iff.1 hlast] at hfull
    exact absurd hfull (by simp)
  | some p =>
    dsimp only
    rw [if_neg (hyoung p hlast), if_neg (by omega)]

end post

section posted

variable {line : Nat} {mask : List (Option Byte)} {q : List Posted}

/-- A store on top of a held line changes nothing of Carr but lines. -/
theorem State.overlay_eq : ∃ l, s.overlay line mask = s.updCarr (fun c => { c with lines := l }) := by
  unfold State.overlay
  split
  · exact ⟨_, rfl⟩
  · exact ⟨s.carr.lines, rfl⟩

theorem State.posted_eq : ∃ l, s.posted line mask q = ((s.updCarr (fun c => { c with pwb := q, lines := l })).set .CARR_STATUS_PWB_CNT
    q.length).breakResv line := by
  obtain ⟨l, hl⟩ := State.overlay_eq (s := s.updCarr (fun c => { c with pwb := q })) (line := line) (mask := mask)
  refine ⟨l, ?_⟩
  unfold State.posted
  rw [hl]
  rfl

theorem State.posted_pwb : (s.posted line mask q).carr.pwb = q := by
  obtain ⟨l, hl⟩ := State.posted_eq (s := s) (line := line) (mask := mask) (q := q)
  rw [hl]
  rfl

theorem State.posted_dram : (s.posted line mask q).dram = s.dram := by
  obtain ⟨l, hl⟩ := State.posted_eq (s := s) (line := line) (mask := mask) (q := q)
  rw [hl]
  rfl

theorem State.posted_answers : (s.posted line mask q).carr.answers = s.carr.answers := by
  obtain ⟨l, hl⟩ := State.posted_eq (s := s) (line := line) (mask := mask) (q := q)
  rw [hl]
  rfl

theorem State.posted_count : (s.posted line mask q).get .CARR_STATUS_PWB_CNT = q.length % 2 ^ 3 := by
  obtain ⟨l, hl⟩ := State.posted_eq (s := s) (line := line) (mask := mask) (q := q)
  rw [hl]
  exact (State.updCarr_get _ _ _).trans (State.get_set_self _ _ _ (by decide))

theorem State.posted_resv (i : Nat) : (s.posted line mask q).carr.resv.at i ≠ some line := by
  obtain ⟨l, hl⟩ := State.posted_eq (s := s) (line := line) (mask := mask) (q := q)
  rw [hl]
  rw [State.breakResv, State.updCarr_carr]
  rcases Tab.at_default_or_mem (s.carr.resv.filter (fun e => e.2 ≠ some line)) i with h | h
  · exact fun hsome => Option.some_ne_none line (hsome.symm.trans h)
  · exact of_decide_eq_true (List.mem_filter.1 h).2

theorem State.posted_lines {k : Nat} {l : CarrLine} (hfind : s.carrFind line = some k) (hline : s.carr.lines.at k = some l) :
    (s.posted line mask q).carr.lines.at k = some (l.overlaid line mask) := by
  have hfind' : (s.updCarr (fun c => { c with pwb := q })).carrFind line = some k := hfind
  unfold State.posted State.overlay
  rw [hfind']
  refine (Tab.at_upd_self _ k _).trans ?_
  rw [State.updCarr_carr, hline]
  rfl

end posted

end Sys2Proof.Machine
end

section
set_option Elab.async false
/-! ACCESSES OF THE FEN CORES (15). One that Carr accepts and that nothing holds back acts at once on the state as the access found it,
  its counter
aside (R361, R364, R374). -/

namespace Sys2Proof.Machine

variable {s : State}

/-! ### The state in which an access acts -/

/-- The live counters once the access was counted, where Carr is ON. -/
def State.tallied (s : State) (a : CarrAccess) : Tab Nat := if s.get .CARR_STATUS_STATE = 1 then (s.carrTally a).carr.stat else s.carr.stat

/-- The state in which access `a` acts. -/
def State.begun (s : State) (a : CarrAccess) : State := s.updCarr (fun c => { c with answers := [], stat := s.tallied a })

theorem State.carrTally_fresh {a : CarrAccess} (hon : s.get .CARR_STATUS_STATE = 1) : s.carrFresh.carrTally a = s.begun a := by
  unfold State.begun State.tallied
  rw [if_pos hon]
  unfold State.carrTally
  dsimp only
  split <;> rfl

theorem State.carrFresh_off {a : CarrAccess} (hoff : s.get .CARR_STATUS_STATE ≠ 1) : s.carrFresh = s.begun a := by
  unfold State.begun State.tallied
  rw [if_neg hoff]
  rfl

theorem State.carrFresh_get (g : Fld) : s.carrFresh.get g = s.get g := State.updCarr_get _ _ _

theorem State.begun_behind (a b : CarrAccess) : (s.begun a).carrBehind b = s.carrBehind b := rfl

theorem State.begun_needs (a b : CarrAccess) : (s.begun a).carrNeeds b = s.carrNeeds b := rfl

theorem State.begun_data {a : CarrAccess} {line : Nat} {d : List Byte} (h : (s.carrData line).1 = some d) :
    (s.begun a).carrData line = (some d, s.begun a) := by
  refine State.carrData_of_some ?_
  rw [← h]
  unfold State.begun
  generalize s.tallied a = st
  exact State.carrData_fst_congr (State.updCarr_regs _ _) (State.updCarr_dram _ _) (State.updCarr_slu _ _) rfl rfl line

theorem State.carrFresh_inWindow (a len : Nat) : s.carrFresh.inWindow a len = s.inWindow a len := by
  unfold State.inWindow State.winBase State.winLen
  simp only [State.carrFresh_get]

theorem State.carrAccess_outside {a : CarrAccess} (hfence : a.isFence = false) (hwin : s.inWindow a.addr 1 = false) :
    s.carrAccess a = s.carrFresh := by
  unfold State.carrAccess
  dsimp only
  rw [hfence, if_neg Bool.false_ne_true, State.carrFresh_inWindow, hwin]
  exact if_pos rfl

theorem State.carrAccess_illegal {a : CarrAccess} (hfence : a.isFence = false) (hwin : s.inWindow a.addr 1 = true)
    (hbad : a.legal = false) : s.carrAccess a = s.carrFresh.carrAnswer a.core .busError := by
  unfold State.carrAccess
  dsimp only
  rw [hfence, if_neg Bool.false_ne_true, State.carrFresh_inWindow, hwin, if_neg (by decide), hbad]
  exact if_pos rfl

section access

variable {a : CarrAccess} (hfence : a.isFence = false) (hwin : s.inWindow a.addr 1 = true) (hlegal : a.legal = true)
  (hclock : s.domainOn 56 = true) (hready : s.get .CARR_STATUS_STATE = 1 ∨ s.dramServes = true)
include hfence hwin hlegal hclock hready

theorem State.carrAccess_acts (hbehind : s.carrBehind a = false) (hneeds : s.carrNeeds a = false) :
    s.carrAccess a = (s.begun a).carrPerform a := by
  unfold State.carrAccess
  dsimp only
  rw [if_neg (ne_true_of_eq_false hfence), if_neg (by rw [State.carrFresh_inWindow, hwin]; decide),
    if_neg (by rw [hlegal]; decide), if_neg (by rw [show s.carrFresh.domainOn 56 = true from hclock]; decide)]
  by_cases hon : s.get .CARR_STATUS_STATE = 1
  · rw [State.carrFresh_get, if_neg (not_not.2 hon), State.carrTally_fresh hon, State.carrRoute, State.begun_behind, hbehind,
    State.begun_needs, hneeds]
    rfl
  · rw [State.carrFresh_get, if_pos hon, State.carrFresh_off (a := a) hon, State.when,
    show (s.begun a).dramServes = true from hready.resolve_left hon, if_pos rfl,
      State.carrTry, State.begun_behind, hbehind]
    rfl

omit hready in
theorem State.carrAccess_misses (hbehind : s.carrBehind a = false) (hneeds : s.carrNeeds a = true) :
    s.carrAccess a = (s.begun a).carrMiss a := by
  have hon : s.get .CARR_STATUS_STATE = 1 := by
    unfold State.carrNeeds at hneeds
    exact beq_iff_eq.1 (Bool.and_eq_true_iff.1 hneeds).1
  unfold State.carrAccess
  dsimp only
  rw [if_neg (ne_true_of_eq_false hfence), if_neg (by rw [State.carrFresh_inWindow, hwin]; decide),
    if_neg (by rw [hlegal]; decide), if_neg (by rw [show s.carrFresh.domainOn 56 = true from hclock]; decide), State.carrFresh_get,
    if_neg (not_not.2 hon),
    State.carrTally_fresh hon, State.carrRoute, State.begun_behind, hbehind, State.begun_needs, hneeds]
  rfl

end access

theorem State.carrAccess_fence {core addr size x : Nat} (hclock : s.domainOn 56 = true)
    (hbehind : s.carrBehind { core := core, addr := addr, size := size, op := .amo .fence x } = false) :
    s.carrAccess { core := core, addr := addr, size := size, op := .amo .fence x } =
      if s.fenceDone core then s.carrFresh.carrAnswer core .done
      else s.carrFresh.carrStall { core := core, addr := addr, size := size, op := .amo .fence x } := by
  have hbehind' : s.carrFresh.carrBehind { core := core, addr := addr, size := size, op := .amo .fence x } = false := hbehind
  unfold State.carrAccess
  dsimp only
  rw [show ({ core := core, addr := addr, size := size, op := .amo .fence x } : CarrAccess).isFence = true from rfl, if_pos rfl, State.when,
    show s.carrFresh.domainOn 56 = true from hclock, if_pos rfl, State.carrTry, hbehind']
  rfl

theorem State.putResv_at (core : Nat) (v : Option Nat) :
    (s.updCarr (fun c => { c with resv := c.resv.put core v })).carr.resv.at core = v := Tab.at_put_self _ _ _

/-! ### What each access does -/

section perform

variable {core addr size x : Nat} {t : State} {d : List Byte}

theorem State.carrPerform_load (h : s.carrData (addr / 64) = (some d, s)) :
    s.carrPerform { core := core, addr := addr, size := size, op := .load } = s.carrAnswer core (.value (fieldAt d (addr % 64) size)) := by
  unfold State.carrPerform
  dsimp only
  rw [h]

theorem State.carrPerform_lr (h : s.carrData (addr / 64) = (some d, s)) :
    s.carrPerform { core := core, addr := addr, size := size, op := .amo .lr x } = (s.carrAnswer core (.value (fieldAt d (addr % 64)
      size))).updCarr (fun c => { c with resv := c.resv.put core (some (addr / 64)) }) := by
  unfold State.carrPerform
  dsimp only
  rw [h]

theorem State.carrPerform_store {bs : List Byte} (h : s.carrPost core addr bs = some t) :
    s.carrPerform { core := core, addr := addr, size := size, op := .store bs } = t.carrAnswer core .done := by
  unfold State.carrPerform
  dsimp only
  rw [h]

theorem State.carrPerform_store_full {bs : List Byte} (h : s.carrPost core addr bs = none) :
    s.carrPerform { core := core, addr := addr, size := size, op := .store bs } =
      s.carrStall { core := core, addr := addr, size := size, op := .store bs } := by
  unfold State.carrPerform
  dsimp only
  rw [h]

theorem State.carrPerform_sc_fails (h : s.carr.resv.at core ≠ some (addr / 64)) :
    s.carrPerform { core := core, addr := addr, size := size, op := .amo .sc x } =
      (s.carrAnswer core (.value 1)).updCarr (fun c => { c with resv := c.resv.put core none }) := by
  unfold State.carrPerform
  dsimp only
  rw [if_neg h]

theorem State.carrPerform_sc (h : s.carr.resv.at core = some (addr / 64)) (hpost : s.carrPost core addr (leBytes size x) = some t) :
    s.carrPerform { core := core, addr := addr, size := size, op := .amo .sc x } = t.carrAnswer core (.value 0) := by
  unfold State.carrPerform
  dsimp only
  rw [if_pos h, hpost]

theorem State.carrPerform_amo {op : AmoOp} (hlr : op ≠ .lr) (hsc : op ≠ .sc) (hfence : op ≠ .fence) (h :
    s.carrData (addr / 64) = (some d, s))
    (hpost : s.carrPost core addr (leBytes size (amoResult op size (fieldAt d (addr % 64) size) x)) = some t) :
    s.carrPerform { core := core, addr := addr, size := size, op := .amo op x } = t.carrAnswer core (.value (fieldAt d (addr % 64) size)) := by
  unfold State.carrPerform
  dsimp only
  split
  next hop => cases hop
  next hop => cases hop
  next hop => cases hop; exact absurd rfl hfence
  next hop => cases hop; exact absurd rfl hlr
  next hop => cases hop; exact absurd rfl hsc
  next hop =>
    cases hop
    rw [h]
    dsimp only
    rw [hpost]

end perform

/-- Settles O33: an access that nothing holds back acts on the state it found, and a store opens, joins or waits for an entry. -/
theorem carrServesAccesses : Obligations.CarrServesAccesses := by
  unfold Obligations.CarrServesAccesses
  refine ⟨fun s core addr size hout => ?_, fun s core addr size hwin hbad => ?_,
    fun s core addr size d hwin hlegal hclock hready hbehind hneeds hd => ?_,
    fun s core addr size hwin hlegal hclock hready hbehind hneeds hfirst => ?_,
    fun s core addr data hwin hlegal hclock hready hbehind hyoung hroom => ?_,
    fun s core addr data p hwin hlegal hclock hready hbehind hlast hline => ?_,
    fun s core addr data hwin hlegal hclock hready hbehind hyoung hfull => ?_,
    fun s core addr size x d hwin hlegal hclock hready hbehind hneeds hd => ?_,
    fun s core addr size x hwin hlegal hclock hready hbehind hresv => ?_,
    fun s core addr size x hwin hlegal hclock hready hbehind hresv hyoung hroom => ?_,
    fun s core addr size x op d hlr hsc hnofence hwin hlegal hclock hready hbehind hneeds hd hyoung hroom => ?_,
    fun s core addr size x hclock hbehind hdone => ?_, fun s core addr size x hclock hbehind hdone => ?_⟩
  · refine completes_of_outFrame (execCarrLoad_frame (parts_in rfl) (fun _ hr => hr)) (t := s.carrFresh) ?_ (fun _ => ⟨rfl, rfl, rfl⟩)
    exact congrArg Host.Outcome.next (State.carrAccess_outside rfl hout)
  · refine completes_of_outFrame (execCarrLoad_frame (parts_in rfl) (fun _ hr => hr)) (t := s.carrFresh.carrAnswer core .busError) ?_
      (fun _ => ⟨rfl, rfl, rfl⟩)
    exact congrArg Host.Outcome.next (State.carrAccess_illegal rfl hwin hbad)
  · refine completes_of_outFrame (execCarrLoad_frame (parts_in rfl) (fun _ hr => hr))
      (congrArg Host.Outcome.next ((State.carrAccess_acts rfl hwin hlegal hclock hready hbehind hneeds).trans
        (State.carrPerform_load (State.begun_data hd)))) (fun _ => ⟨rfl, rfl, fun hon => ?_, rfl, rfl⟩)
    have hheld : (s.carrFind (addr / 64)).isSome = true := by
      rw [Option.isSome_iff_ne_none]
      intro hnone
      simp [State.carrNeeds, hon, hnone] at hneeds
    refine (congrArg (fun l => Tab.at l 0) (if_pos hon)).trans ?_
    unfold State.carrTally
    dsimp only
    rw [if_pos hheld]
    exact Tab.at_put_self _ _ _
  · have hon : s.get .CARR_STATUS_STATE = 1 := beq_iff_eq.1 (Bool.and_eq_true_iff.1 hneeds).1
    refine completes_of_outFrame (execCarrLoad_frame (parts_in rfl) (fun _ hr => hr))
      (congrArg Host.Outcome.next ((State.carrAccess_misses rfl hwin hlegal hclock hbehind hneeds).trans
        (if_neg (ne_true_of_eq_false (by exact hfirst))))) (fun _ => ⟨rfl, ?_, rfl, rfl, rfl⟩)
    have habsent : ¬ (s.carrFind (addr / 64)).isSome = true := by
      intro hsome
      simp [State.carrNeeds, hon] at hneeds
      simp [hneeds] at hsome
    refine (congrArg (fun l => Tab.at l 1) (if_pos hon)).trans ?_
    unfold State.carrTally
    dsimp only
    rw [if_neg habsent]
    exact Tab.at_put_self _ _ _
  · refine completes_of_outFrame (execCarrStore_frame (parts_in rfl) (fun _ hr => hr))
      (congrArg Host.Outcome.next ((State.carrAccess_acts rfl hwin hlegal hclock hready hbehind (Bool.and_false _)).trans
        (State.carrPerform_store (State.carrPost_opens hyoung hroom))))
      (fun _ => ⟨rfl, congrArg (· ++ [(core, BusAnswer.done)]) State.posted_answers, State.posted_pwb, ?_,
        fun k l hk hl => State.posted_lines hk hl, State.posted_dram⟩)
    refine State.posted_count.trans ?_
    rw [List.length_append, List.length_singleton]
    exact Nat.mod_eq_of_lt (by change s.carr.pwb.length + 1 < _; omega)
  · exact completes_of_outFrame (execCarrStore_frame (parts_in rfl) (fun _ hr => hr))
      (congrArg Host.Outcome.next ((State.carrAccess_acts rfl hwin hlegal hclock hready hbehind (Bool.and_false _)).trans
        (State.carrPerform_store (State.carrPost_merges hlast hline))))
      (fun _ => ⟨rfl, congrArg (· ++ [(core, BusAnswer.done)]) State.posted_answers, State.posted_pwb,
        fun k l hk hl => State.posted_lines hk hl, State.posted_dram⟩)
  · exact completes_of_outFrame (execCarrStore_frame (parts_in rfl) (fun _ hr => hr))
      (congrArg Host.Outcome.next ((State.carrAccess_acts rfl hwin hlegal hclock hready hbehind (Bool.and_false _)).trans
        (State.carrPerform_store_full (State.carrPost_full hyoung hfull)))) (fun _ => ⟨rfl, rfl, rfl, rfl⟩)
  · exact completes_of_outFrame (execCarrAmo_frame (parts_in rfl) (fun _ hr => hr))
      (congrArg Host.Outcome.next ((State.carrAccess_acts rfl hwin hlegal hclock hready hbehind hneeds).trans
        (State.carrPerform_lr (State.begun_data hd)))) (fun _ => ⟨rfl, rfl, State.putResv_at _ _, rfl, rfl⟩)
  · exact completes_of_outFrame (execCarrAmo_frame (parts_in rfl) (fun _ hr => hr))
      (congrArg Host.Outcome.next ((State.carrAccess_acts rfl hwin hlegal hclock hready hbehind (Bool.and_false _)).trans
        (State.carrPerform_sc_fails hresv))) (fun _ => ⟨rfl, rfl, rfl, State.putResv_at _ _, rfl⟩)
  · refine completes_of_outFrame (execCarrAmo_frame (parts_in rfl) (fun _ hr => hr))
      (congrArg Host.Outcome.next ((State.carrAccess_acts rfl hwin hlegal hclock hready hbehind (Bool.and_false _)).trans
        (State.carrPerform_sc hresv (State.carrPost_opens hyoung hroom))))
      (fun _ => ⟨rfl, congrArg (· ++ [(core, BusAnswer.value 0)]) State.posted_answers, State.posted_pwb, ?_, State.posted_resv,
        State.posted_dram⟩)
    refine State.posted_count.trans ?_
    rw [List.length_append, List.length_singleton]
    exact Nat.mod_eq_of_lt (by change s.carr.pwb.length + 1 < _; omega)
  · have hfence : ({ core := core, addr := addr, size := size, op := .amo op x } : CarrAccess).isFence = false := by
      cases op <;> first | rfl | exact absurd rfl hnofence
    refine completes_of_outFrame (execCarrAmo_frame (parts_in rfl) (fun _ hr => hr))
      (congrArg Host.Outcome.next ((State.carrAccess_acts hfence hwin hlegal hclock hready hbehind hneeds).trans
        (State.carrPerform_amo hlr hsc hnofence (State.begun_data hd) (State.carrPost_opens hyoung hroom))))
      (fun _ => ⟨rfl, congrArg (· ++ [(core, BusAnswer.value _)]) State.posted_answers, State.posted_pwb, ?_, State.posted_dram⟩)
    refine State.posted_count.trans ?_
    rw [List.length_append, List.length_singleton]
    exact Nat.mod_eq_of_lt (by change s.carr.pwb.length + 1 < _; omega)
  · exact completes_of_outFrame (execCarrAmo_frame (parts_in rfl) (fun _ hr => hr))
      (congrArg Host.Outcome.next ((State.carrAccess_fence hclock hbehind).trans (if_pos hdone))) (fun _ => ⟨rfl, rfl, rfl, rfl⟩)
  · exact completes_of_outFrame (execCarrAmo_frame (parts_in rfl) (fun _ hr => hr))
      (congrArg Host.Outcome.next ((State.carrAccess_fence hclock hbehind).trans (if_neg (ne_true_of_eq_false hdone))))
      (fun _ => ⟨rfl, rfl, rfl⟩)

end Sys2Proof.Machine
end

section
set_option Elab.async false
/-! FILLS AND DRAINS (15). A fill answers the loads that waited with the line's content, whether it installs the line or an invalidation
reached it (R366, R373); a drain writes the oldest entry's bytes over its line (R365). -/

namespace Sys2Proof.Machine

variable {s : State}

/-! ### The accesses that waited -/

/-- The answers that a fill with the content `d` gives to the loads of `l`. -/
def loadAnswers (d : List Byte) (l : List CarrAccess) : List (Nat × BusAnswer) :=
  l.map (fun a => (a.core, .value (fieldAt d (a.addr % 64) a.size)))

/-- The state once more accesses were answered. -/
def State.answered (s : State) (b : BusAnswer) (l : List (Nat × BusAnswer)) : State :=
  { s with bus := b, carr := { s.carr with answers := s.carr.answers ++ l } }

theorem State.answered_nil : s.answered s.bus [] = s := by
  unfold State.answered
  rw [List.append_nil]

theorem State.carrAnswer_eq (core : Nat) (x : BusAnswer) : s.carrAnswer core x = s.answered x [(core, x)] := rfl

theorem State.answered_answered (b b' : BusAnswer) (l l' : List (Nat × BusAnswer)) :
    (s.answered b l).answered b' l' = s.answered b' (l ++ l') := by
  unfold State.answered
  dsimp only
  rw [List.append_assoc]

theorem State.answered_carrData (b : BusAnswer) (l : List (Nat × BusAnswer)) (line : Nat) :
    ((s.answered b l).carrData line).1 = (s.carrData line).1 :=
  State.carrData_fst_congr (s := s) (t := s.answered b l) rfl rfl rfl rfl rfl line

theorem State.carrPerform_of_load {a : CarrAccess} {d : List Byte} (hop : a.op = .load) (h : s.carrData (a.addr / 64) = (some d, s)) :
    s.carrPerform a = s.carrAnswer a.core (.value (fieldAt d (a.addr % 64) a.size)) := by
  unfold State.carrPerform
  dsimp only
  rw [hop]
  dsimp only
  rw [h]

/-- Loads of a line whose content is known are answered in turn, where none waits before them. -/
theorem foldl_carrTry_loads {line : Nat} {d : List Byte} (l : List CarrAccess) (hl : ∀ a ∈ l, a.op = .load ∧ a.addr / 64 = line)
    (hstalled : s.carr.stalled = []) (hd : (s.carrData line).1 = some d) :
    ∃ b, l.foldl State.carrTry s = s.answered b (loadAnswers d l) := by
  induction l generalizing s with
  | nil => exact ⟨s.bus, State.answered_nil.symm⟩
  | cons a l ih =>
    obtain ⟨hop, hline⟩ := hl a List.mem_cons_self
    have hbehind : s.carrBehind a = false := by
      unfold State.carrBehind
      rw [hstalled]
      rfl
    generalize hx : BusAnswer.value (fieldAt d (a.addr % 64) a.size) = x
    have hact : s.carrTry a = s.answered x [(a.core, x)] := by
      rw [State.carrTry, hbehind, if_neg Bool.false_ne_true,
        State.carrPerform_of_load hop (by rw [hline]; exact State.carrData_of_some hd), hx, State.carrAnswer_eq]
    obtain ⟨b, hb⟩ := ih (s := s.answered x [(a.core, x)]) (fun y hy => hl y (List.mem_cons_of_mem _ hy)) hstalled
      ((State.answered_carrData x [(a.core, x)] line).trans hd)
    refine ⟨b, ?_⟩
    rw [List.foldl_cons, hact, hb, State.answered_answered, ← hx]
    rfl

theorem foldl_busError (l : List CarrAccess) (hbus : s.bus = .busError) :
    l.foldl (fun s a => s.carrAnswer a.core .busError) s = s.answered .busError (l.map (fun a => (a.core, .busError))) := by
  induction l generalizing s with
  | nil =>
    rw [← hbus]
    exact State.answered_nil.symm
  | cons a l ih =>
    rw [List.foldl_cons, ih rfl, State.carrAnswer_eq, State.answered_answered]
    rfl

/-! ### A line that is installed -/

/-- The victim is an unlocked way; its choice may draw a value. -/
theorem State.carrVictim_spec {set : Nat} (h : ∃ w < 16, s.wayLocked w = false) :
    (s.carrVictim set).1 < 16 ∧ s.wayLocked (s.carrVictim set).1 = false ∧ ∃ n, (s.carrVictim set).2 = { s with drawn := n } := by
  obtain ⟨w₀, hw₀, hopen⟩ := h
  have hspec : ∀ w ∈ (List.range 16).filter (fun w => !s.wayLocked w), w < 16 ∧ s.wayLocked w = false := fun w hw => by
    simpa using hw
  have hmem : w₀ ∈ (List.range 16).filter (fun w => !s.wayLocked w) := by simp [hw₀, hopen]
  unfold State.carrVictim
  dsimp only
  generalize (List.range 16).filter (fun w => !s.wayLocked w) = l at hspec hmem
  split
  next w hw =>
    obtain ⟨h16, hfree⟩ := hspec w (List.mem_of_find?_eq_some hw)
    exact ⟨h16, hfree, s.drawn, rfl⟩
  next =>
    have hlen : (s.draw 4).1 % max 1 l.length < l.length := by
      have hpos : 0 < l.length := List.length_pos_of_mem hmem
      exact (Nat.mod_lt _ (by omega)).trans_le (by omega)
    obtain ⟨h16, hfree⟩ := hspec (l.getD ((s.draw 4).1 % max 1 l.length) 0) (by
      rw [List.getD_eq_getElem _ _ hlen]
      exact List.getElem_mem hlen)
    exact ⟨h16, hfree, s.drawn + 1, rfl⟩

/-- The state with the line in way `w` of its set. -/
def State.installed (s : State) (line w n : Nat) (d : List Byte) (st : Tab Nat) : State :=
  { s with drawn := n, carr := { s.carr with stat := st, lines := s.carr.lines.put (16 * s.carrSet line + w) (some { line := line, data := d }) } }

theorem State.carrAlloc_eq {line : Nat} {d : List Byte} (h : ∃ w < 16, s.wayLocked w = false) :
    ∃ w < 16, s.wayLocked w = false ∧ ∃ n st, s.carrAlloc line d = s.installed line w n d st := by
  obtain ⟨h16, hfree, n, hn⟩ := State.carrVictim_spec (set := s.carrSet line) h
  refine ⟨_, h16, hfree, n, ?_⟩
  unfold State.carrAlloc
  dsimp only
  rw [hn]
  generalize (s.carrVictim (s.carrSet line)).1 = w
  unfold State.when
  split
  · exact ⟨_, rfl⟩
  · exact ⟨_, rfl⟩

section installed

variable {line w n : Nat} {d : List Byte} {st : Tab Nat}

theorem State.installed_lines : (s.installed line w n d st).carr.lines =
    s.carr.lines.put (16 * s.carrSet line + w) (some { line := line, data := d }) := rfl

theorem State.installed_at : (s.installed line w n d st).carr.lines.at (16 * s.carrSet line + w) = some { line := line, data := d } := by
  rw [State.installed_lines, Tab.at_put_self]

theorem State.installed_carrSet : (s.installed line w n d st).carrSet line = s.carrSet line := State.carrSet_of_regs rfl line

theorem State.installed_wayHolds {v : Nat} (habsent : s.carrFind line = none) (hv : v < 16) :
    (s.installed line w n d st).wayHolds line v = decide (v = w) := by
  unfold State.wayHolds
  rw [State.installed_carrSet]
  by_cases h : v = w
  · rw [h, State.installed_at]
    simp
  · have hs : s.wayHolds line v = false := State.carrFind_eq_none.1 habsent v hv
    have hkeep : (s.installed line w n d st).carr.lines.at (16 * s.carrSet line + v) = s.carr.lines.at (16 * s.carrSet line + v) := by
      rw [State.installed_lines, Tab.at_put_ne _ _ (by omega)]
    rw [hkeep, decide_eq_false h]
    exact hs

theorem State.installed_heldLine (habsent : s.carrFind line = none) (hw : w < 16) :
    (s.installed line w n d st).heldLine line = some { line := line, data := d } := by
  have hfind : (List.range 16).find? ((s.installed line w n d st).wayHolds line) = some w := by
    rw [List.find?_range_eq_some]
    refine ⟨?_, List.mem_range.2 hw, fun v hv => ?_⟩
    · rw [State.installed_wayHolds habsent hw]
      exact decide_eq_true rfl
    · rw [State.installed_wayHolds habsent (by omega), decide_eq_false (by omega)]
      rfl
  unfold State.heldLine
  rw [State.carrFind_eq, hfind, State.installed_carrSet]
  exact State.installed_at

end installed

/-! ### A preload -/

/-- A state that differs in lines, counters and reservations alone. -/
def State.Relined (s t : State) : Prop := ∃ l st r, t = s.updCarr (fun c => { c with lines := l, stat := st, resv := r })

theorem State.Relined.refl (s : State) : s.Relined s := ⟨s.carr.lines, s.carr.stat, s.carr.resv, rfl⟩

theorem State.Relined.trans {s t u : State} (h : s.Relined t) (h' : t.Relined u) : s.Relined u := by
  obtain ⟨l, st, r, rfl⟩ := h
  obtain ⟨l', st', r', rfl⟩ := h'
  exact ⟨l', st', r', rfl⟩

theorem State.Relined.when {c : Bool} {f : State → State} (h : s.Relined (f s)) : s.Relined (s.when c f) := by
  cases c
  · exact State.Relined.refl s
  · exact h

theorem State.carrCount_relined (i k : Nat) : s.Relined (s.carrCount i k) := ⟨s.carr.lines, _, s.carr.resv, rfl⟩

theorem State.breakResv_relined (line : Nat) : s.Relined (s.breakResv line) := ⟨s.carr.lines, s.carr.stat, _, rfl⟩

theorem State.carrDrop_relined (line : Nat) (keep : Option Nat) : s.Relined (s.carrDrop line keep) := by
  unfold State.carrDrop
  refine State.forN_inv (Inv := fun t => s.Relined t) (State.Relined.refl s) (fun w _ t ht => ht.trans (State.Relined.when ?_))
  exact (State.Relined.when (State.carrCount_relined 6 1)).trans ⟨_, _, _, rfl⟩

theorem State.carrPreload_eq {line way : Nat} {d : List Byte} (hon : s.get .CARR_STATUS_STATE = 1) (hd : (s.carrFetch line).1 = some d) :
    ∃ t, s.Relined t ∧ s.carrPreload line way = t.carrPut line way d := by
  unfold State.carrPreload
  dsimp only
  generalize (s.carrFind line).any _ = other
  have ht : s.Relined ((s.carrDrop line (some way)).when other (fun s => s.breakResv line)) :=
    (State.carrDrop_relined line (some way)).trans (State.Relined.when (State.breakResv_relined line))
  generalize (s.carrDrop line (some way)).when other (fun s => s.breakResv line) = t at ht
  refine ⟨t, ht, ?_⟩
  obtain ⟨l, st, r, rfl⟩ := ht
  have hfetch := (State.carrFetch_fst_congr (s := s) (t := s.updCarr (fun c => { c with lines := l, stat := st, resv := r })) rfl rfl rfl rfl
    line).trans hd
  rw [State.updCarr_get, if_neg (not_not.2 hon), State.carrFetch_of_some hfetch]

theorem State.carrPut_at (line way : Nat) (d : List Byte) :
    (s.carrPut line way d).carrOpStep.carr.lines.at (16 * s.carrSet line + way) = some { line := line, data := d } := by
  have hlines : (s.carrPut line way d).carrOpStep.carr.lines =
      s.carr.lines.put (16 * s.carrSet line + way) (some { line := line, data := d }) := rfl
  rw [hlines, Tab.at_put_self]

/-! ### Drains -/

theorem State.byteAt_putByte (a x : Nat) (b : Byte) : (s.putByte a b).byteAt x = if x = a then b else s.byteAt x := by
  split
  next h => rw [h, State.byteAt_putByte_self]
  next h => exact State.byteAt_putByte_ne _ _ h

/-- The bytes of an entry over those of its line. -/
theorem State.mergeBytes_byteAt (b : Nat) (bytes : List (Option Byte)) (x : Nat) : (s.mergeBytes b bytes).byteAt x =
    if b ≤ x ∧ x < b + 64 then (bytes.getD (x - b) none).getD (s.byteAt x) else s.byteAt x := by
  suffices h : ∀ k, (s.forN k (fun i s => match bytes.getD i none with
      | some v => s.putByte (b + i) v
      | none => s)).byteAt x = if b ≤ x ∧ x < b + k then (bytes.getD (x - b) none).getD (s.byteAt x) else s.byteAt x from h 64
  intro k
  induction k with
  | zero => exact (if_neg (by omega)).symm
  | succ k ih =>
    rw [State.forN_succ]
    by_cases hx : x = b + k
    · subst hx
      rw [if_neg (by omega)] at ih
      rw [if_pos (by omega), Nat.add_sub_cancel_left]
      split
      next v hv => rw [hv, State.byteAt_putByte_self]; rfl
      next hv => rw [hv, ih]; rfl
    · have hkeep : ∀ t : State, (match bytes.getD k none with
          | some v => t.putByte (b + k) v
          | none => t).byteAt x = t.byteAt x := by
        intro t
        split
        · exact State.byteAt_putByte_ne _ _ hx
        · rfl
      rw [hkeep, ih]
      exact if_congr (by omega) rfl rfl

theorem State.mergeBytes_dramOnly (b : Nat) (bytes : List (Option Byte)) : ∃ d, s.mergeBytes b bytes = { s with dram := d } := by
  unfold State.mergeBytes
  refine State.forN_inv (Inv := fun t => ∃ d, t = { s with dram := d }) ⟨s.dram, rfl⟩ (fun i _ t ht => ?_)
  obtain ⟨d, rfl⟩ := ht
  split
  · exact ⟨_, rfl⟩
  · exact ⟨d, rfl⟩

/-- A state that differs from `s` in DRAM, the poison map and what an alarm writes. -/
structure State.Drained (s t : State) (p : Posted) : Prop where
  carr : t.carr = s.carr
  state : t.get .CARR_STATUS_STATE = s.get .CARR_STATUS_STATE
  byte : ∀ k < 64, t.byteAt (p.line * 64 + k) = (p.bytes.getD k none).getD (s.byteAt (p.line * 64 + k))
  other : ∀ a, (a < p.line * 64 ∨ p.line * 64 + 64 ≤ a) → t.byteAt a = s.byteAt a

theorem dramStore_line_ok {l : Nat} {bs : List Byte} (hok : s.dramOk (l * 64) 64 = true) (hlen : bs.length = 64)
    (hclean : s.poisonedAt (l * 64) = false) : (s.dramStore (l * 64) bs).1 = true := by
  have hone : blocksOf (l * 64) 64 = [l * 64] := by
    unfold blocksOf
    rw [show (l * 64 + 64 + 63) / 64 - l * 64 / 64 = 1 by omega, List.range_one, List.map_singleton]
    congr 1
    omega
  unfold State.dramStore
  rw [hlen, hok, if_neg (by decide), hone, List.foldl_cons, List.foldl_nil, State.storeBlock]
  dsimp only
  rw [if_neg (ne_true_of_eq_false hclean)]

/-- A line's entry is written over the line, where DRAM answers for it. -/
theorem State.postedWrite_drained {p : Posted} (hok : s.dramOk (p.line * 64) 64 = true) (hclean : s.poisonedAt (p.line * 64) = false) :
    s.Drained (s.postedWrite p) p := by
  unfold State.postedWrite
  dsimp only
  rw [hok, if_neg (by decide)]
  split
  next hfull =>
    obtain ⟨hall, hlen⟩ := hfull
    have hbytes : (p.bytes.map (fun x => x.getD 0)).length = 64 := by rw [List.length_map, hlen]
    have hone := dramStore_line_ok hok hbytes hclean
    obtain ⟨dram, poisoned, pm, hstored⟩ := State.dramStore_stored hone
    refine ⟨by rw [hstored], (State.dramStore_stored hone).get _, fun k hk => ?_, fun a ha => ?_⟩
    · rw [State.dramStore_in hone (hbytes ▸ hk), List.getElem_map, List.getD_eq_getElem _ _ (hlen ▸ hk)]
      obtain ⟨v, hv⟩ := Option.isSome_iff_exists.1 (List.all_eq_true.1 hall _ (List.getElem_mem (hlen ▸ hk : k < p.bytes.length)))
      rw [hv]
      rfl
    · exact State.dramStore_out hone (by rw [hbytes]; exact ha)
  next =>
    rw [if_neg (ne_true_of_eq_false hclean)]
    obtain ⟨dram, hmerged⟩ := State.mergeBytes_dramOnly (s := s) (p.line * 64) p.bytes
    refine ⟨by rw [hmerged], by rw [hmerged]; exact State.get_mk, fun k hk => ?_, fun a ha => ?_⟩
    · rw [State.mergeBytes_byteAt, if_pos (by omega), Nat.add_sub_cancel_left]
    · rw [State.mergeBytes_byteAt, if_neg (by omega)]

/-- The state of a drain with the rest of the buffer left. -/
def State.unbuffered (s : State) (p : Posted) (rest : List Posted) : State :=
  ((s.carrFresh.postedWrite p).updCarr (fun c => { c with pwb := rest })).pwbStatus

section drain

variable {p : Posted} {rest : List Posted}

theorem exec_pwbDrain {cycles : Nat} (hruns : s.carrRuns = true) (hpwb : s.carr.pwb = p :: rest) (hnone : s.carr.stalled = [])
    (hdrained : s.carrFresh.Drained (s.carrFresh.postedWrite p) p) :
    exec (.pwbDrain cycles) s = .next ((s.unbuffered p rest).updCarr (fun c => { c with stalled := [] })).carrOff := by
  have hnone' : (s.unbuffered p rest).carr.stalled = [] := by
    unfold State.unbuffered State.pwbStatus
    rw [State.set_carr, State.updCarr_carr]
    exact (congrArg Carr.stalled hdrained.carr).trans hnone
  change execPwbDrain cycles s = _
  rw [execPwbDrain]
  dsimp only
  rw [hruns, if_neg (by decide), show s.carrFresh.carr.pwb = p :: rest from hpwb]
  change Host.Outcome.next (((s.unbuffered p rest).when ((s.unbuffered p rest).carr.stalled.any _) _).carrRetry.carrOff) = _
  rw [hnone', State.when, List.any_nil, if_neg Bool.false_ne_true, State.carrRetry, hnone', List.foldl_nil]

end drain

theorem State.carrOff_get {g : Fld} (h : g.addr ≠ Fld.CARR_STATUS_STATE.addr ∨ g.lo + g.width ≤ 30) : s.carrOff.get g = s.get g := by
  unfold State.carrOff
  refine State.when_get ?_
  rw [State.get_set_other _ _ (h.imp id .inr), State.updCarr_get]

theorem State.carrOff_pwb : s.carrOff.carr.pwb = s.carr.pwb := State.when_keeps (fun s => s.carr.pwb) rfl

theorem State.carrOff_dram : s.carrOff.dram = s.dram := State.when_keeps State.dram rfl

theorem State.carrOff_of_empty (hstate : s.get .CARR_STATUS_STATE = 2) (hempty : s.carr.pwb = []) :
    s.carrOff.get .CARR_STATUS_STATE = 0 ∧ s.carrOff.carr.lines = [] ∧ s.carrOff.carr.resv = [] := by
  unfold State.carrOff
  rw [hstate, hempty]
  exact ⟨State.get_set_self _ _ _ (by decide), rfl, rfl⟩

/-! ### What a fill runs into -/

/-- The state in which the fill of a line reads it. -/
def State.filling (s : State) (line : Nat) : State :=
  s.carrFresh.updCarr (fun c => { c with fills := c.fills.eraseP (fun f => f.line = line) })

theorem State.filling_fetch (line : Nat) : ((s.filling line).carrFetch line).1 = (s.carrFetch line).1 :=
  State.carrFetch_fst_congr (s := s) (t := s.filling line) rfl rfl rfl rfl line

section lineFill

variable {line : Nat} {f : Fill} {d : List Byte} (hruns : s.carrRuns = true)
  (hfill : s.carr.fills.find? (fun f => f.line = line) = some f)
include hruns hfill

theorem exec_lineFill_of_data (hd : (s.carrFetch line).1 = some d) : exec (.lineFill line) s = .next (f.waiting.foldl State.carrTry
    (if f.discard then (s.filling line).carrCount 7 1
      else if (s.filling line).get .CARR_STATUS_STATE = 1 ∧ ((s.filling line).carrFind line).isNone then (s.filling line).carrAlloc line d
      else s.filling line)) := by
  have hfetch : (s.filling line).carrFetch line = (some d, s.filling line) := State.carrFetch_of_some ((State.filling_fetch line).trans hd)
  change execLineFill line s = _
  rw [execLineFill, hruns, if_neg (by decide), hfill]
  change (match (s.filling line).carrFetch line with | (some d, s) => _ | (none, s) => _) = _
  rw [hfetch]

theorem exec_lineFill_of_none (hd : (s.carrFetch line).1 = none) : exec (.lineFill line) s =
    .next (((s.filling line).carrFetch line).2.busErr.answered .busError (f.waiting.map (fun a => (a.core, .busError)))) := by
  obtain ⟨t, ht⟩ : ∃ t, (s.filling line).carrFetch line = (none, t) := ⟨_, Prod.ext ((State.filling_fetch line).trans hd) rfl⟩
  change execLineFill line s = _
  rw [execLineFill, hruns, if_neg (by decide), hfill]
  change (match (s.filling line).carrFetch line with | (some d, s) => _ | (none, s) => _) = _
  rw [ht]
  exact congrArg Host.Outcome.next (foldl_busError f.waiting rfl)

end lineFill

theorem exec_lineFill_of_preload {line : Nat} (hruns : s.carrRuns = true) (hnone : s.carr.fills.find? (fun f => f.line = line) = none)
    (hbusy : s.get .CARR_OP_STATUS_BUSY = 1) (hop : s.carr.op = 1) (hnext : s.carr.next = line) (hleft : s.get .CARR_OP_STATUS_REMAIN ≠ 0) :
    exec (.lineFill line) s = .next (s.carrPreload line s.carr.way).carrOpStep := by
  change execLineFill line s = _
  rw [execLineFill, hruns, if_neg (by decide), hnone]
  exact if_pos ⟨State.is_of_get hbusy, hop, hnext, bne_iff_ne.2 hleft⟩

/-- Settles O34: the loads that waited read the line's content from the installed copy or from DRAM; a drain writes one line. -/
theorem carrFillsAndDrains : Obligations.CarrFillsAndDrains := by
  unfold Obligations.CarrFillsAndDrains
  refine ⟨fun s line f d hruns hfill hkeep hon hopen hloads hstalled habsent hd => ?_,
    fun s line f d hruns hfill hdiscard hloads hstalled habsent hd => ?_, fun s line f hruns hfill hd => ?_,
    fun s line d hruns hnone hbusy hop hnext hleft hon hd => ?_, fun s cycles p rest hruns hpwb hnone hok hclean => ?_⟩
  · have habsent' : (s.filling line).carrFind line = none := (State.carrFind_congr (s := s) rfl rfl line).trans habsent
    have hon' : (s.filling line).get .CARR_STATUS_STATE = 1 := ((State.updCarr_get _ _ _).trans (State.updCarr_get _ _ _)).trans hon
    obtain ⟨w, hw, hfree, n, st, halloc⟩ := State.carrAlloc_eq (s := s.filling line) (line := line) (d := d) hopen
    have hdata : (((s.filling line).installed line w n d st).carrData line).1 = some d := by
      rw [State.carrData_of_held (State.installed_heldLine habsent' hw) (State.get_mk.trans hon')]
    obtain ⟨b, hb⟩ := foldl_carrTry_loads f.waiting hloads (s := (s.filling line).installed line w n d st) hstalled hdata
    refine completes_of_outFrame (execLineFill_frame (parts_in rfl) (fun _ hr => hr))
      (t := ((s.filling line).installed line w n d st).answered b (loadAnswers d f.waiting)) ?_
      (fun _ => ⟨⟨w, hw, hfree, State.installed_at (s := s.filling line) (n := n) (st := st)⟩, rfl, rfl, rfl⟩)
    rw [exec_lineFill_of_data hruns hfill hd, hkeep, if_neg Bool.false_ne_true, if_pos ⟨hon', by rw [habsent']; rfl⟩, halloc, hb]
  · have hdata : (((s.filling line).carrCount 7 1).carrData line).1 = some d := by
      have hheld : s.heldLine line = none := by
        unfold State.heldLine
        rw [habsent]
        rfl
      rw [State.carrData_fst_congr (s := s) (t := (s.filling line).carrCount 7 1) rfl rfl rfl rfl rfl line,
        State.carrData_of_absent hheld, hd]
    obtain ⟨b, hb⟩ := foldl_carrTry_loads f.waiting hloads (s := (s.filling line).carrCount 7 1) hstalled hdata
    refine completes_of_outFrame (execLineFill_frame (parts_in rfl) (fun _ hr => hr))
      (t := ((s.filling line).carrCount 7 1).answered b (loadAnswers d f.waiting)) ?_ (fun _ => ⟨rfl, rfl, ?_, rfl, rfl⟩)
    · rw [exec_lineFill_of_data hruns hfill hd, hdiscard, if_pos rfl, hb]
    · exact Tab.at_put_self (α := Nat) _ _ _
  · have hframe := State.carrFetch_frame (line := line) (fun _ hp => hp) regsIn_all (Frame.refl _ _ (s.filling line))
    have hcarr : ((s.filling line).carrFetch line).2.carr = (s.filling line).carr := hframe.same .carr (by decide)
    have hdram : ((s.filling line).carrFetch line).2.dram = s.dram := hframe.same .dram (by decide)
    refine completes_of_outFrame (execLineFill_frame (parts_in rfl) (fun _ hr => hr)) (exec_lineFill_of_none hruns hfill hd)
      (fun _ => ⟨?_, ?_, ?_, rfl, ?_⟩)
    · have hlines := congrArg Carr.lines hcarr
      exact hlines
    · have hfills := congrArg Carr.fills hcarr
      exact hfills
    · have hanswers := congrArg (fun c => c.answers ++ f.waiting.map (fun a => (a.core, BusAnswer.busError))) hcarr
      exact hanswers
    · exact hdram
  · obtain ⟨t, ⟨l, st, r, rfl⟩, hload⟩ := State.carrPreload_eq (way := s.carr.way) hon hd
    have hlt : s.get .CARR_OP_STATUS_REMAIN < 2 ^ 19 := State.get_lt s _
    refine completes_of_outFrame (execLineFill_frame (parts_in rfl) (fun _ hr => hr))
      (t := ((s.updCarr (fun c => { c with lines := l, stat := st, resv := r })).carrPut line s.carr.way d).carrOpStep)
      ((exec_lineFill_of_preload hruns hnone hbusy hop hnext hleft).trans (congrArg (fun u => Host.Outcome.next u.carrOpStep) hload))
      (fun _ => ⟨?_, ?_, ?_, rfl⟩)
    · exact State.carrPut_at (s := s.updCarr (fun c => { c with lines := l, stat := st, resv := r })) line s.carr.way d
    · exact congrArg (· + 1) hnext
    · refine (State.get_set_self _ _ _ (by decide)).trans ?_
      exact Nat.mod_eq_of_lt (lt_of_le_of_lt (Nat.sub_le _ _) hlt)
  · have hdrained := State.postedWrite_drained (s := s.carrFresh) hok hclean
    have hstate : ((s.unbuffered p rest).updCarr (fun c => { c with stalled := [] })).get .CARR_STATUS_STATE = s.get .CARR_STATUS_STATE := by
      unfold State.unbuffered State.pwbStatus
      rw [State.updCarr_get, State.get_set_other _ _ (by decide), State.updCarr_get, hdrained.state]
      exact State.updCarr_get _ _ _
    have hdram : (((s.unbuffered p rest).updCarr (fun c => { c with stalled := [] })).carrOff).dram = (s.carrFresh.postedWrite p).dram :=
      State.carrOff_dram
    refine completes_of_outFrame (execPwbDrain_frame (parts_in rfl) (fun _ hr => hr)) (exec_pwbDrain hruns hpwb hnone hdrained)
      (fun _ => ⟨State.carrOff_pwb, ?_, fun k hk => ?_, fun a ha => ?_, fun htwo hempty => ?_⟩)
    · rw [State.carrOff_get (.inr (by decide)), State.updCarr_get]
      exact State.get_set_self _ _ _ (by decide)
    · rw [State.byteAt_of_dram hdram]
      exact hdrained.byte k hk
    · rw [State.byteAt_of_dram hdram]
      exact hdrained.other a ha
    · obtain ⟨hoff, hlines, -⟩ := State.carrOff_of_empty (hstate.trans htwo) hempty
      exact ⟨hoff, hlines⟩

end Sys2Proof.Machine
end

section
set_option Elab.async false
/-! THE MANAGEMENT OF THE MAP CACHE (15). Enabling needs a valid window (R368); a maintenance operation that may start is recorded whole,
  else ERR
sets (R370); an invalidation of a line leaves no copy of it. -/

namespace Sys2Proof.Machine

variable {s : State}

/-! ### Enabling -/

theorem exec_carrEnable (hclock : s.gated 0x4300_0000 = false) : exec .carrEnable s = .next (
    if s.get .CARR_STATUS_STATE = 0 then
      if s.windowOk then (s.ack.set .CARR_CTRL_EN 1).set .CARR_STATUS_STATE 1 else s.ack.set .CARR_STATUS_CFG_ERR 1
    else if s.get .CARR_STATUS_STATE = 2 then s.ack.set .CARR_STATUS_CFG_ERR 1 else s.ack) := by
  have hok : s.ack.windowOk = s.windowOk := rfl
  change execCarrEnable s = _
  rw [execCarrEnable, State.access_of_clocked _ hclock, State.ack_get]
  split
  next h => rw [h, if_pos rfl, hok]
  next h => rw [h, if_neg (by decide), if_pos rfl]
  next h0 h2 => rw [if_neg h0, if_neg h2]

/-- The state of a cache that is disabled, before an empty buffer turns it off. -/
def State.draining (s : State) : State := (s.ack.set .CARR_CTRL_EN 0).set .CARR_STATUS_STATE 2

theorem exec_carrDisable (hclock : s.gated 0x4300_0000 = false) (hon : s.get .CARR_STATUS_STATE = 1) :
    exec .carrDisable s = .next s.draining.carrOff := by
  change execCarrDisable s = _
  rw [execCarrDisable, State.access_of_clocked _ hclock, State.ack_get, hon]
  rfl

theorem State.draining_state : s.draining.get .CARR_STATUS_STATE = 2 := State.get_set_self _ _ _ (by decide)

theorem State.draining_en : s.draining.get .CARR_CTRL_EN = 0 := by
  unfold State.draining
  rw [State.get_set_other _ _ (by decide)]
  exact State.get_set_self _ _ _ (by decide)

theorem State.carrOff_of_left (h : s.carr.pwb ≠ []) : s.carrOff = s := by
  unfold State.carrOff
  rw [List.isEmpty_eq_false_iff.2 h, Bool.and_false]
  rfl

/-! ### Counters -/

theorem State.forN_snap (k : Nat) (hk : k ≤ 8) : ∀ i < k, (s.forN k (fun i s => s.set (.CARR_STAT_COUNT i) (s.carr.stat.at i))).get
    (.CARR_STAT_COUNT i) = s.carr.stat.at i % 2 ^ 32 := by
  have hstat : ∀ k, (s.forN k (fun i s => s.set (.CARR_STAT_COUNT i) (s.carr.stat.at i))).carr = s.carr :=
    State.forN_keeps State.carr (fun _ _ => rfl)
  induction k with
  | zero => exact fun i hi => absurd hi (Nat.not_lt_zero i)
  | succ k ih =>
    intro i hi
    rw [State.forN_succ]
    by_cases h : i = k
    · rw [h, State.get_set_self _ _ _ (by simp), hstat]
    · rw [State.get_set_other _ _ (by dsimp only; omega)]
      exact ih (by omega) i (by omega)

/-- The snapshot of the live counters. -/
def State.carrSnapped (s : State) : State := s.forN 8 (fun i s => s.set (.CARR_STAT_COUNT i) (s.carr.stat.at i))

theorem State.carrSnapped_carr : s.carrSnapped.carr = s.carr := State.forN_keeps State.carr (fun _ _ => rfl) 8

theorem State.carrSnapped_bus : s.carrSnapped.bus = s.bus := State.forN_keeps State.bus (fun _ _ => rfl) 8

theorem State.carrSnapped_get {i : Nat} (hi : i < 8) : s.carrSnapped.get (.CARR_STAT_COUNT i) = s.carr.stat.at i % 2 ^ 32 :=
  State.forN_snap 8 (le_refl 8) i hi

theorem State.carrSnapped_stat (clear : Bool) : (s.carrSnapped.when clear State.statClear).carr.stat = if clear then [] else s.carr.stat := by
  cases clear with
  | false => rw [State.when, if_neg Bool.false_ne_true, State.carrSnapped_carr, if_neg Bool.false_ne_true]
  | true => rw [State.when, if_pos rfl, State.statClear, State.updCarr_carr, if_pos rfl]

/-! ### Maintenance operations -/

/-- The operation is one that R370 lets start. -/
def State.OpFits (s : State) (op : Nat) : Prop :=
  s.get .CARR_OP_STATUS_BUSY = 0 ∧ s.get .CARR_STATUS_STATE = 1 ∧ s.get .CARR_OP_LINES_LINES ≠ 0 ∧ s.get .CARR_OP_LINES_LINES ≤ 262144 ∧
    (op = 3 ∨ s.inWindow (s.opLine * 64) (64 * s.get .CARR_OP_LINES_LINES) = true)

/-- The operation recorded, before the registers tell of it. -/
def State.opTaken (s : State) (op way : Nat) : State :=
  s.updCarr (fun c => { c with op := op, way := way % 16, next := if op = 3 then 0 else s.opLine })

theorem State.carrOp_starts {op way : Nat} (h : s.OpFits op) : s.carrOp op way =
    ((s.opTaken op way).set .CARR_OP_STATUS_BUSY 1).set .CARR_OP_STATUS_REMAIN (if op = 3 then 16384 else s.get .CARR_OP_LINES_LINES) := by
  obtain ⟨hbusy, hon, hsome, hmost, hrange⟩ := h
  unfold State.carrOp
  dsimp only
  rw [if_neg ?_]
  · rfl
  · rw [State.not_is_of_get hbusy]
    rintro (h | h | h | h | h)
    · exact Bool.false_ne_true h
    · exact h hon
    · exact hsome h
    · omega
    · exact h hrange

theorem State.carrOp_refused {op way : Nat} (h : s.get .CARR_OP_STATUS_BUSY = 1 ∨ s.get .CARR_STATUS_STATE ≠ 1 ∨
    s.get .CARR_OP_LINES_LINES = 0 ∨ 262144 < s.get .CARR_OP_LINES_LINES ∨
    ¬ (op = 3 ∨ s.inWindow (s.opLine * 64) (64 * s.get .CARR_OP_LINES_LINES) = true)) :
    s.carrOp op way = s.set .CARR_OP_STATUS_ERR 1 := by
  unfold State.carrOp
  dsimp only
  exact if_pos (h.imp State.is_of_get id)

/-- What the registers tell of an operation that started. -/
theorem State.carrOp_fields {op way : Nat} (h : s.OpFits op) :
    (s.carrOp op way).get .CARR_OP_STATUS_BUSY = 1 ∧ (s.carrOp op way).get .CARR_OP_STATUS_ERR = s.get .CARR_OP_STATUS_ERR ∧
    (s.carrOp op way).get .CARR_OP_STATUS_REMAIN = (if op = 3 then 16384 else s.get .CARR_OP_LINES_LINES) := by
  rw [State.carrOp_starts h]
  refine ⟨?_, ?_, ?_⟩
  · rw [State.get_set_other _ _ (by decide)]
    exact State.get_set_self _ _ _ (by decide)
  · rw [State.get_set_other _ _ (by decide), State.get_set_other _ _ (by decide), State.opTaken, State.updCarr_get]
  · obtain ⟨-, -, -, hmost, -⟩ := h
    rw [State.get_set_self _ _ _ (by decide)]
    refine Nat.mod_eq_of_lt (lt_of_le_of_lt (b := 262144) ?_ (by decide))
    split <;> omega

theorem State.carrOp_carr {op way : Nat} (h : s.OpFits op) : (s.carrOp op way).carr = (s.opTaken op way).carr := by
  rw [State.carrOp_starts h, State.set_carr, State.set_carr]

theorem State.opErr_fields : (s.ack.set .CARR_OP_STATUS_ERR 1).get .CARR_OP_STATUS_BUSY = s.get .CARR_OP_STATUS_BUSY ∧
    (s.ack.set .CARR_OP_STATUS_ERR 1).get .CARR_OP_STATUS_ERR = 1 := by
  refine ⟨?_, State.get_set_self _ _ _ (by decide)⟩
  rw [State.get_set_other _ _ (by decide), State.ack_get]

/-! ### Invalidations -/

/-- Lines that `t` holds are held by `s`. -/
structure State.Thinned (s t : State) : Prop where
  regs : t.regs = s.regs
  lines : ∀ k, t.carr.lines.at k = none ∨ t.carr.lines.at k = s.carr.lines.at k

theorem State.Thinned.refl (s : State) : s.Thinned s := ⟨rfl, fun _ => .inr rfl⟩

theorem State.Thinned.trans {s t u : State} (h : s.Thinned t) (h' : t.Thinned u) : s.Thinned u :=
  ⟨h'.regs.trans h.regs, fun k => (h'.lines k).elim .inl (fun hu => (h.lines k).imp hu.trans hu.trans)⟩

theorem State.Thinned.wayHolds {t : State} (h : s.Thinned t) {line w : Nat} (hnone : s.wayHolds line w = false) :
    t.wayHolds line w = false := by
  unfold State.wayHolds at hnone ⊢
  rw [State.carrSet_of_regs h.regs]
  rcases h.lines (16 * s.carrSet line + w) with hl | hl
  · rw [hl]
    rfl
  · rw [hl, hnone]

theorem State.Thinned.of_lines {t : State} (hregs : t.regs = s.regs) (hlines : t.carr.lines = s.carr.lines) : s.Thinned t :=
  ⟨hregs, fun k => .inr (by rw [hlines])⟩

/-- One way of the set of a line, dropped where it holds the line. -/
def State.dropWay (s : State) (line k w : Nat) : State :=
  s.when (none != some w && (s.carr.lines.at (k + w)).any (fun l => l.line == line)) (fun s =>
    (s.when (s.wayLocked w) (fun s => s.carrCount 6 1)).updCarr (fun c => { c with lines := c.lines.put (k + w) none }))

theorem State.carrDrop_none (line : Nat) : s.carrDrop line none = s.forN 16 (fun w t => t.dropWay line (16 * s.carrSet line) w) := rfl

theorem State.dropWay_lines (line k w : Nat) : (s.dropWay line k w).carr.lines = s.carr.lines ∨
    (s.dropWay line k w).carr.lines = s.carr.lines.put (k + w) none := by
  unfold State.dropWay State.when
  split
  · right
    dsimp only
    split <;> rfl
  · exact .inl rfl

theorem State.dropWay_regs (line k w : Nat) : (s.dropWay line k w).regs = s.regs := by
  unfold State.dropWay State.when
  split
  · dsimp only
    split <;> rfl
  · rfl

theorem State.dropWay_thinned (line k w : Nat) : s.Thinned (s.dropWay line k w) := by
  refine ⟨State.dropWay_regs line k w, fun i => ?_⟩
  rcases State.dropWay_lines (s := s) line k w with h | h
  · exact .inr (by rw [h])
  · rw [h]
    by_cases hi : i = k + w
    · exact .inl (by rw [hi, Tab.at_put_self])
    · exact .inr (Tab.at_put_ne _ _ hi)

theorem State.dropWay_drops (line k w : Nat) : ((s.dropWay line k w).carr.lines.at (k + w)).any (fun l => l.line == line) = false := by
  cases hheld : (s.carr.lines.at (k + w)).any (fun l => l.line == line) with
  | false =>
    have hsame : s.dropWay line k w = s := by
      unfold State.dropWay
      rw [hheld, Bool.and_false]
      rfl
    rw [hsame, hheld]
  | true =>
    have hlines : (s.dropWay line k w).carr.lines = s.carr.lines.put (k + w) none := by
      unfold State.dropWay State.when
      rw [hheld, show (none != some w) = true from rfl, Bool.and_true, if_pos rfl]
      dsimp only
      split <;> rfl
    rw [hlines, Tab.at_put_self]
    rfl

theorem State.carrDrop_thinned (line : Nat) : s.Thinned (s.carrDrop line none) := by
  rw [State.carrDrop_none]
  exact State.forN_inv (Inv := fun t => s.Thinned t) (State.Thinned.refl s) (fun w _ t ht => ht.trans (State.dropWay_thinned _ _ _))

theorem State.carrDrop_wayHolds {line w : Nat} (hw : w < 16) : (s.carrDrop line none).wayHolds line w = false := by
  rw [State.carrDrop_none]
  refine State.forN_reaches (Inv := fun t => t.regs = s.regs) (P := fun t => t.wayHolds line w = false) hw rfl
    (fun j _ t ht => (State.dropWay_regs _ _ _).trans ht) (fun t ht => ?_) (fun j _ t ht => (State.dropWay_thinned _ _ _).wayHolds ht)
  unfold State.wayHolds
  rw [State.carrSet_of_regs ((State.dropWay_regs _ _ _).trans ht)]
  exact State.dropWay_drops _ _ _

theorem State.carrInv_after (line : Nat) : (s.carrDrop line none).Thinned (s.carrInv line) := by
  unfold State.carrInv
  generalize s.carrDrop line none = t
  exact .of_lines rfl rfl

theorem State.carrInv_thinned (line : Nat) : s.Thinned (s.carrInv line) := (State.carrDrop_thinned line).trans (State.carrInv_after line)

theorem State.carrInv_wayHolds {line w : Nat} (hw : w < 16) : (s.carrInv line).wayHolds line w = false :=
  (State.carrInv_after line).wayHolds (State.carrDrop_wayHolds hw)

/-- After the invalidation of `k` lines from `first`, none of them is held. -/
theorem State.carrInvs_find {first k i : Nat} (hi : i < k) : (s.forN k (fun i s => s.carrInv (first + i))).carrFind (first + i) = none := by
  refine State.carrFind_eq_none.2 (fun w hw => ?_)
  exact State.forN_reaches (Inv := fun _ => True) (P := fun t => t.wayHolds (first + i) w = false) hi trivial (fun _ _ _ _ => trivial)
    (fun t _ => State.carrInv_wayHolds hw) (fun j _ t ht => (State.carrInv_thinned _).wayHolds ht)

/-- The registers once an operation is done. -/
def State.opDone (s : State) : State := (s.set .CARR_OP_STATUS_REMAIN 0).set .CARR_OP_STATUS_BUSY 0

theorem State.opDone_fields : s.opDone.get .CARR_OP_STATUS_BUSY = 0 ∧ s.opDone.get .CARR_OP_STATUS_REMAIN = 0 := by
  refine ⟨State.get_set_self _ _ _ (by decide), ?_⟩
  unfold State.opDone
  rw [State.get_set_other _ _ (by decide)]
  exact State.get_set_self _ _ _ (by decide)

/-- What a running operation does to the cache. -/
def State.opRun (s : State) : State :=
  match s.carr.op with
  | 1 => s.forN (s.get .CARR_OP_STATUS_REMAIN) (fun i t => t.carrPreload (s.carr.next + i) t.carr.way)
  | 2 => s.forN (s.get .CARR_OP_STATUS_REMAIN) (fun i t => t.carrInv (s.carr.next + i))
  | _ => s.carrInvAll

theorem exec_carrOpDone (hruns : s.carrRuns = true) (hbusy : s.get .CARR_OP_STATUS_BUSY = 1) :
    exec .carrOpDone s = .next s.opRun.opDone := by
  change execCarrOpDone s = _
  rw [execCarrOpDone, if_pos ⟨hruns, State.is_of_get hbusy⟩]
  rfl

/-- Settles O35: a command is decided by CARR_STATUS.STATE and by what R370 asks; an invalidation empties each way that holds its line. -/
theorem carrIsManaged : Obligations.CarrIsManaged := by
  unfold Obligations.CarrIsManaged
  refine ⟨fun s hclock hoff hok => ?_, fun s hclock hbad => ?_, fun s hclock hon hleft => ?_, fun s hclock hon hempty => ?_,
    fun s clear hclock => ?_, fun s hclock => ?_, fun s way hclock hbusy hon hsome hmost hrange => ?_, fun s way hclock hbad => ?_,
    fun s hclock hbusy hon hsome hmost hrange => ?_, fun s hclock hbad => ?_, fun s hclock hbusy hon hsome hmost => ?_,
    fun s hclock hbad => ?_, fun s hruns hbusy => ?_, fun s hruns hbusy hop => ?_, fun s hruns hbusy hop => ?_⟩
  · refine completes_of_outFrame (execCarrEnable_frame (parts_in rfl) (fun _ hr => hr))
      ((exec_carrEnable hclock).trans (congrArg Host.Outcome.next ((if_pos hoff).trans (if_pos hok)))) (fun _ => ⟨?_, ?_, ?_, rfl⟩)
    · rw [State.get_set_other _ _ (by decide)]
      exact State.get_set_self _ _ _ (by decide)
    · exact State.get_set_self _ _ _ (by decide)
    · rw [State.get_set_other _ _ (by decide), State.get_set_other _ _ (by decide), State.ack_get]
  · refine completes_of_outFrame (execCarrEnable_frame (parts_in rfl) (fun _ hr => hr)) (t := s.ack.set .CARR_STATUS_CFG_ERR 1) ?_
      (fun _ => ⟨?_, ?_, State.get_set_self _ _ _ (by decide), rfl⟩)
    · rw [exec_carrEnable hclock]
      rcases hbad with ⟨hoff, hno⟩ | hdraining
      · rw [if_pos hoff, hno, if_neg Bool.false_ne_true]
      · rw [hdraining]
        rfl
    · rw [State.get_set_other _ _ (by decide), State.ack_get]
    · rw [State.get_set_other _ _ (by decide), State.ack_get]
  · refine completes_of_outFrame (execCarrDisable_frame (parts_in rfl) (fun _ hr => hr)) (t := s.draining) ?_
      (fun _ => ⟨State.draining_en, State.draining_state, rfl, rfl⟩)
    rw [exec_carrDisable hclock hon, State.carrOff_of_left (by exact hleft)]
  · obtain ⟨hoff, hlines, hresv⟩ := State.carrOff_of_empty (s := s.draining) State.draining_state hempty
    refine completes_of_outFrame (execCarrDisable_frame (parts_in rfl) (fun _ hr => hr)) (exec_carrDisable hclock hon)
      (fun _ => ⟨?_, hoff, hlines, hresv, State.when_keeps State.bus rfl⟩)
    rw [State.carrOff_get (.inl (by decide)), State.draining_en]
  · refine completes_of_outFrame (execStatSnap_frame (parts_in rfl) (fun _ hr => hr))
      (t := s.ack.carrSnapped.when clear State.statClear) ?_ (fun _ => ⟨fun i hi => ?_, State.carrSnapped_stat clear, ?_⟩)
    · change execStatSnap clear s = _
      rw [execStatSnap, State.access_of_clocked _ hclock, State.carrSnapped]
    · rw [State.when_get (State.updCarr_get _ _ _), State.carrSnapped_get hi, State.ack_carr]
    · rw [State.when_keeps State.bus (State.updCarr_bus _ _), State.carrSnapped_bus, State.ack_bus]
  · refine completes_of_outFrame (execStatClear_frame (parts_in rfl)) (t := s.ack.statClear) ?_ (fun _ => ⟨rfl, rfl⟩)
    change execStatClear s = _
    rw [execStatClear, State.access_of_clocked _ hclock]
  · have hfits : s.ack.OpFits 1 := ⟨hbusy, hon, hsome, hmost, .inr hrange⟩
    obtain ⟨hb, he, hr⟩ := State.carrOp_fields (way := way) hfits
    have hcarr := State.carrOp_carr (way := way) hfits
    refine completes_of_outFrame (execPreload_frame (parts_in rfl) (fun _ hr => hr)) (t := s.ack.carrOp 1 way) ?_
      (fun _ => ⟨hb, he, ?_, hr, ?_, ?_, ?_⟩)
    · change execPreload way s = _
      rw [execPreload, State.access_of_clocked _ hclock]
    · rw [State.carrOp_starts hfits]
      rfl
    · rw [hcarr]
      rfl
    · rw [hcarr]
      rfl
    · rw [hcarr]
      rfl
  · refine completes_of_outFrame (execPreload_frame (parts_in rfl) (fun _ hr => hr)) (t := s.ack.set .CARR_OP_STATUS_ERR 1) ?_
      (fun _ => ⟨State.opErr_fields.1, State.opErr_fields.2, rfl, rfl⟩)
    change execPreload way s = _
    rw [execPreload, State.access_of_clocked _ hclock, State.carrOp_refused]
    exact hbad.imp id (Or.imp id (Or.imp id (Or.imp id (fun h h' => h'.elim (by decide) (ne_true_of_eq_false h)))))
  · have hfits : s.ack.OpFits 2 := ⟨hbusy, hon, hsome, hmost, .inr hrange⟩
    obtain ⟨hb, he, hr⟩ := State.carrOp_fields (way := 0) hfits
    have hcarr := State.carrOp_carr (way := 0) hfits
    refine completes_of_outFrame (execInvRange_frame (parts_in rfl) (fun _ hr => hr)) (t := s.ack.carrOp 2 0) ?_
      (fun _ => ⟨hb, he, ?_, hr, ?_, ?_⟩)
    · change execInvRange s = _
      rw [execInvRange, State.access_of_clocked _ hclock]
    · rw [State.carrOp_starts hfits]
      rfl
    · rw [hcarr]
      rfl
    · rw [hcarr]
      rfl
  · refine completes_of_outFrame (execInvRange_frame (parts_in rfl) (fun _ hr => hr)) (t := s.ack.set .CARR_OP_STATUS_ERR 1) ?_
      (fun _ => ⟨State.opErr_fields.1, State.opErr_fields.2, rfl, rfl⟩)
    change execInvRange s = _
    rw [execInvRange, State.access_of_clocked _ hclock, State.carrOp_refused]
    exact hbad.imp id (Or.imp id (Or.imp id (Or.imp id (fun h h' => h'.elim (by decide) (ne_true_of_eq_false h)))))
  · have hfits : s.ack.OpFits 3 := ⟨hbusy, hon, hsome, hmost, .inl rfl⟩
    obtain ⟨hb, he, hr⟩ := State.carrOp_fields (way := 0) hfits
    have hcarr := State.carrOp_carr (way := 0) hfits
    refine completes_of_outFrame (execInvAll_frame (parts_in rfl) (fun _ hr => hr)) (t := s.ack.carrOp 3 0) ?_ (fun _ => ⟨hb, he, ?_, hr,
      ?_⟩)
    · change execInvAll s = _
      rw [execInvAll, State.access_of_clocked _ hclock]
    · rw [State.carrOp_starts hfits]
      rfl
    · rw [hcarr]
      rfl
  · refine completes_of_outFrame (execInvAll_frame (parts_in rfl) (fun _ hr => hr)) (t := s.ack.set .CARR_OP_STATUS_ERR 1) ?_
      (fun _ => ⟨State.opErr_fields.1, State.opErr_fields.2, rfl, rfl⟩)
    change execInvAll s = _
    rw [execInvAll, State.access_of_clocked _ hclock, State.carrOp_refused]
    exact hbad.imp id (Or.imp id (Or.imp id .inl))
  · exact completes_of_outFrame (execCarrOpDone_frame (parts_in rfl) (fun _ hr => hr)) (exec_carrOpDone hruns hbusy)
      (fun _ => State.opDone_fields)
  · refine completes_of_outFrame (execCarrOpDone_frame (parts_in rfl) (fun _ hr => hr)) (exec_carrOpDone hruns hbusy)
      (fun _ => ⟨State.opDone_fields.1, State.opDone_fields.2, fun i hi => ?_⟩)
    have hhash : ∀ line, s.opRun.opDone.carrSet line = s.opRun.carrSet line := by
      intro line
      unfold State.carrSet State.is State.opDone
      rw [State.get_set_other _ _ (by decide), State.get_set_other _ _ (by decide)]
    have hrun : s.opRun = s.forN (s.get .CARR_OP_STATUS_REMAIN) (fun i t => t.carrInv (s.carr.next + i)) := by
      unfold State.opRun
      rw [hop]
      rfl
    refine State.carrFind_eq_none.2 (fun w hw => ?_)
    have hgone := State.carrFind_eq_none.1 (State.carrInvs_find (s := s) (first := s.carr.next) hi) w hw
    rw [← hrun] at hgone
    unfold State.wayHolds at hgone ⊢
    rw [hhash]
    exact hgone
  · have hrun : s.opRun = s.carrInvAll := by
      unfold State.opRun
      rw [hop]
      rfl
    refine completes_of_outFrame (execCarrOpDone_frame (parts_in rfl) (fun _ hr => hr)) (exec_carrOpDone hruns hbusy)
      (fun _ => ⟨State.opDone_fields.1, State.opDone_fields.2, ?_, ?_⟩)
    · rw [hrun]
      rfl
    · rw [hrun]
      rfl

end Sys2Proof.Machine
end

section
set_option Elab.async false
/-! CONTEXTS (12). Locks that are granted mark their context and discard regions of the speculative buffer; nothing else of Staithe or of the ledger
changes with them (R295, R326). -/

namespace Sys2Proof.Machine

variable {s : State}

theorem State.updCtx_ctx_self (x : Nat) (f : Ctx → Ctx) : (s.updCtx x f).ctx x = f (s.ctx x) := Tab.at_upd_self _ _ _

theorem State.updCtx_ctx_ne {x y : Nat} (f : Ctx → Ctx) (h : y ≠ x) : (s.updCtx x f).ctx y = s.ctx y := Tab.at_upd_ne _ _ h

theorem State.updCtx_get (x : Nat) (f : Ctx → Ctx) (g : Fld) : (s.updCtx x f).get g = s.get g := State.updSth_get _ _ _

theorem State.ctx_of_sth {t : State} (h : t.sth = s.sth) (x : Nat) : t.ctx x = s.ctx x := congrArg (fun h => Tab.at (Staithe.ctxs h) x) h

/-- What a grant of locks leaves: contexts differ in HELD alone, and of the buffer manager regions alone. -/
structure State.Granted (s t : State) : Prop where
  sth : ∃ c, t.sth = { s.sth with ctxs := c }
  slu : ∃ r, t.slu = { s.slu with regions := r }
  ctx : ∀ x, t.ctx x = s.ctx x ∨ (s.ctx x).state = 1 ∧ ∃ h, t.ctx x = { s.ctx x with held := h }
  get : ∀ g, (∀ n, g.addr ≠ (Fld.REED_ST_CTRL_ABORT n).addr) → t.get g = s.get g

theorem State.Granted.refl (s : State) : s.Granted s := ⟨⟨_, rfl⟩, ⟨_, rfl⟩, fun _ => .inl rfl, fun _ _ => rfl⟩

theorem State.Granted.trans {s t u : State} (h : s.Granted t) (h' : t.Granted u) : s.Granted u := by
  obtain ⟨c, hc⟩ := h.sth
  obtain ⟨c', hc'⟩ := h'.sth
  obtain ⟨r, hr⟩ := h.slu
  obtain ⟨r', hr'⟩ := h'.slu
  refine ⟨⟨c', by rw [hc', hc]⟩, ⟨r', by rw [hr', hr]⟩, fun x => ?_, fun g hg => (h'.get g hg).trans (h.get g hg)⟩
  rcases h.ctx x with hx | ⟨hst, v, hx⟩
  · rcases h'.ctx x with hx' | ⟨hst', v', hx'⟩
    · exact .inl (hx'.trans hx)
    · exact .inr ⟨hx ▸ hst', v', by rw [hx', hx]⟩
  · rcases h'.ctx x with hx' | ⟨-, v', hx'⟩
    · exact .inr ⟨hst, v, hx'.trans hx⟩
    · exact .inr ⟨hst, v', by rw [hx', hx]⟩

theorem foldl_granted {α : Type} {f : State → α → State} (l : List α) (h : ∀ t a, State.Granted t (f t a)) (s : State) :
    s.Granted (l.foldl f s) := by
  induction l generalizing s with
  | nil => exact State.Granted.refl s
  | cons a l ih => exact (h s a).trans (ih _)

theorem State.discardRegion_granted (r : Nat) : s.Granted (s.discardRegion r) := by
  unfold State.discardRegion
  dsimp only
  split
  · exact State.Granted.refl s
  · split
    next n _ =>
      refine ⟨⟨s.sth.ctxs, rfl⟩, ⟨_, rfl⟩, fun _ => .inl rfl, fun g hg => ?_⟩
      exact (State.updRegion_get _ _ _).trans (State.get_set_other _ _ (.inl (hg n)))
    next => exact ⟨⟨s.sth.ctxs, rfl⟩, ⟨_, rfl⟩, fun _ => .inl rfl, fun g _ => State.updRegion_get _ _ _⟩

theorem State.discardOverlap_granted (l : LbaRange) : s.Granted (s.discardOverlap l) := by
  unfold State.discardOverlap
  refine foldl_granted _ (fun t e => ?_) s
  unfold State.when
  split
  · exact State.discardRegion_granted _
  · exact State.Granted.refl _

/-- The locks of a context of state 1 are taken. -/
theorem State.takeLocks_granted {x : Nat} (hstate : (s.ctx x).state = 1) : s.Granted (s.takeLocks x) := by
  unfold State.takeLocks
  refine State.Granted.trans (t := s.updCtx x (fun c => { c with held := !c.ranges.isEmpty })) ?_
    (foldl_granted _ (fun t l => State.discardOverlap_granted l) _)
  refine ⟨⟨_, rfl⟩, ⟨s.slu.regions, rfl⟩, fun y => ?_, fun g _ => State.updCtx_get _ _ _⟩
  by_cases hy : y = x
  · subst hy
    exact .inr ⟨hstate, _, State.updCtx_ctx_self _ _⟩
  · exact .inl (State.updCtx_ctx_ne _ hy)

theorem State.takeLocks_held (x : Nat) : ((s.takeLocks x).ctx x).held = !(s.ctx x).ranges.isEmpty := by
  have hkeep : ∀ (l : List LbaRange) (t : State), (l.foldl State.discardOverlap t).sth = t.sth := fun l => by
    induction l with
    | nil => exact fun t => rfl
    | cons r l ih => exact fun t => (ih _).trans State.discardOverlap_sth
  unfold State.takeLocks
  rw [State.ctx_of_sth (hkeep _ _), State.updCtx_ctx_self]

theorem State.grantAppends_granted : s.Granted s.grantAppends := by
  unfold State.grantAppends
  refine foldl_granted _ (fun t e => ?_) s
  dsimp only
  unfold State.when
  split
  next h =>
    simp only [Bool.and_eq_true, beq_iff_eq] at h
    obtain ⟨⟨⟨⟨hstate, -⟩, -⟩, -⟩, -⟩ := h
    exact State.takeLocks_granted hstate
  · exact State.Granted.refl _

theorem State.sthStatus_sth : s.sthStatus.sth = s.sth := rfl

theorem State.sthStatus_slu : s.sthStatus.slu = s.slu := rfl

theorem State.sthStatus_bus : s.sthStatus.bus = s.bus := rfl

section granted

variable {t : State} (h : s.Granted t)
include h

theorem State.Granted.fixed {x : Nat} (hx : (s.ctx x).state ≠ 1) : t.ctx x = s.ctx x := (h.ctx x).resolve_right (fun h => hx h.1)

/-- A context in all but HELD. -/
theorem State.Granted.ctx_held (x : Nat) : ∃ v, t.ctx x = { s.ctx x with held := v } := by
  rcases h.ctx x with hx | ⟨-, v, hx⟩
  · exact ⟨(s.ctx x).held, hx⟩
  · exact ⟨v, hx⟩

theorem State.Granted.new_ : t.sth.new_ = s.sth.new_ := by
  obtain ⟨c, hc⟩ := h.sth
  rw [hc]

theorem State.Granted.fates : t.sth.fates = s.sth.fates := by
  obtain ⟨c, hc⟩ := h.sth
  rw [hc]

theorem State.Granted.cqs : t.sth.cqs = s.sth.cqs := by
  obtain ⟨c, hc⟩ := h.sth
  rw [hc]

theorem State.Granted.ledger : t.slu.ledger = s.slu.ledger := by
  obtain ⟨r, hr⟩ := h.slu
  rw [hr]

theorem State.Granted.lseq : t.slu.lseq = s.slu.lseq := by
  obtain ⟨r, hr⟩ := h.slu
  rw [hr]

end granted

/-! ### A context that ends -/

/-- The entry of a context whose data has not all come is released. -/
def State.releaseEntry (s : State) (x : Nat) : State :=
  match (s.ctx x).ledger with
  | some i => s.when ((s.slu.ledger.at i).state == 1 && (s.slu.ledger.at i).ctx == x) (fun s => s.freeEntry i)
  | none => s

theorem State.releaseEntry_sth (x : Nat) : (s.releaseEntry x).sth = s.sth := by
  unfold State.releaseEntry
  split
  · exact State.when_keeps State.sth (State.updEntry_sth _ _)
  · rfl

theorem State.releaseEntry_ledger {x i : Nat} (hledger : (s.ctx x).ledger = some i) (hstate : (s.slu.ledger.at i).state = 1)
    (hctx : (s.slu.ledger.at i).ctx = x) : (s.releaseEntry x).slu.ledger.at i = default := by
  unfold State.releaseEntry
  rw [hledger]
  dsimp only
  rw [hstate, hctx, beq_self_eq_true, beq_self_eq_true, State.when, Bool.and_self, if_pos rfl]
  exact State.updEntry_at _ _

/-- The context `x` and its places in completion queues taken away. -/
def State.removed (s : State) (x : Nat) : State :=
  (s.releaseEntry x).updSth (fun h => { h with
    ctxs := h.ctxs.put x default, cqs := h.cqs.mapAll (fun q => { q with waiting := q.waiting.filter (· ≠ x) }) })

theorem State.freeCtx_eq (x : Nat) : s.freeCtx x = (s.removed x).grantAppends.sthStatus := rfl

theorem State.removed_ctx_self (x : Nat) : (s.removed x).ctx x = default := by
  unfold State.removed
  rw [State.ctx, State.updSth_sth, Tab.at_put_self]


theorem State.freeCtx_ctx_self (x : Nat) : (s.freeCtx x).ctx x = default := by
  rw [State.freeCtx_eq, State.ctx_of_sth State.sthStatus_sth, State.grantAppends_granted.fixed (by rw [State.removed_ctx_self]; decide),
    State.removed_ctx_self]

end Sys2Proof.Machine
end

section
set_option Elab.async false
/-! DOORBELLS AND FETCH (12). A doorbell ends idleness and moves its pointer where the queue may ring (R289, R290,
  R311); a fetch takes a free context,
advances the head and, outside power state 0, tells the core of PS (R312). -/

namespace Sys2Proof.Machine

variable {s : State}

theorem State.notIdle_idle : s.notIdle.get .STH_IDLE_STATUS_IDLE = 0 := by
  unfold State.notIdle
  rw [State.updSth_get]
  exact State.get_set_self _ _ _ (by decide)

theorem State.notIdle_idleMs : s.notIdle.sth.idleMs = 0 := rfl

theorem State.onPort_of_clocked {k : Nat} (f : State → State) (h : s.domainOn (59 + k / 16) = true) : s.onPort k f = f s := if_pos h

section doorbells

variable {k q : Nat} (hclock : s.domainOn (59 + k / 16) = true)
include hclock

theorem exec_sqDoorbell_of_ring {tail : Nat} (hring : s.rings k q = true) : exec (.sqDoorbell k q tail) s =
    .next (s.notIdle.updSth (fun h => { h with sqs := h.sqs.upd (queueKey k q) (fun x => { x with tail := tail }) })) := by
  change Host.Outcome.next (s.onPort k fun s => s.sqRing k q tail) = _
  rw [State.onPort_of_clocked _ hclock, State.sqRing, hring, State.when, if_pos rfl]

theorem exec_sqDoorbell_of_none {tail : Nat} (hring : s.rings k q = false) : exec (.sqDoorbell k q tail) s = .next s.notIdle := by
  change Host.Outcome.next (s.onPort k fun s => s.sqRing k q tail) = _
  rw [State.onPort_of_clocked _ hclock, State.sqRing, hring, State.when, if_neg Bool.false_ne_true]

theorem exec_cqDoorbell_of_ring {head : Nat} (hring : s.rings k q = true) : exec (.cqDoorbell k q head) s =
    .next (s.notIdle.updSth (fun h => { h with cqs := h.cqs.upd (queueKey k q) (fun x => { x with head := head }) })) := by
  change Host.Outcome.next (s.onPort k fun s => s.cqRing k q head) = _
  rw [State.onPort_of_clocked _ hclock, State.cqRing, hring, State.when, if_pos rfl]

theorem exec_cqDoorbell_of_none {head : Nat} (hring : s.rings k q = false) : exec (.cqDoorbell k q head) s = .next s.notIdle := by
  change Host.Outcome.next (s.onPort k fun s => s.cqRing k q head) = _
  rw [State.onPort_of_clocked _ hclock, State.cqRing, hring, State.when, if_neg Bool.false_ne_true]

end doorbells

/-! ### Fetch -/

/-- The context of a command that was fetched. -/
def State.fetchedCtx (s : State) (cmd : HostCommand) : Ctx :=
  { state := if cmd.op = .zoneAppend then 2 else 1, cmd := cmd, seq := s.sth.nextSeq, ranges := cmd.locks }

/-- The command in its context, its queue advanced. -/
def State.taken (s : State) (x : Nat) (cmd : HostCommand) : State :=
  (s.noteFetch cmd.cntlid cmd.sqid).updSth (fun h => { h with
    ctxs := h.ctxs.put x (s.fetchedCtx cmd), nextSeq := (h.nextSeq + 1) % 2 ^ 32, last := cmd.cntlid,
    sqs := h.sqs.put (queueKey cmd.cntlid cmd.sqid) { s.sth.sqs.at (queueKey cmd.cntlid cmd.sqid) with
      head := ((s.sth.sqs.at (queueKey cmd.cntlid cmd.sqid)).head + 1) % (max 1 cmd.size) } })

/-- An append asks for its zone at once. -/
def State.asked (s : State) (x : Nat) (cmd : HostCommand) : State :=
  (s.taken x cmd).when (cmd.op = .zoneAppend) (fun s => s.pushNew x true false)

/-- The state once idleness is over. -/
def State.awake (s : State) (x : Nat) (cmd : HostCommand) : State := (s.asked x cmd).notIdle.sthStatus

theorem exec_commandFetch {x : Nat} {cmd : HostCommand} (hclock : s.domainOn (59 + cmd.cntlid / 16) = true)
    (hfetch : s.fetches cmd.cntlid = true) (hturn : s.turn cmd.cntlid = true) (hpick : s.picks cmd.cntlid = some cmd.sqid)
    (hsome : (s.sth.sqs.at (queueKey cmd.cntlid cmd.sqid)).head ≠ (s.sth.sqs.at (queueKey cmd.cntlid cmd.sqid)).tail)
    (hfree : (s.ctx x).state = 0) (hx : x < 4096) : exec (.commandFetch x cmd) s =
    .next ((s.awake x cmd).when ((s.awake x cmd).is .STH_PS_CUR) (fun s => s.idleAt 0)) := by
  change execCommandFetch x cmd s = _
  rw [execCommandFetch]
  dsimp only
  rw [if_pos ⟨hfetch, hturn, hpick, hsome, hfree, hx, hclock⟩]
  rfl

section fetched

variable {x : Nat} {cmd : HostCommand}

theorem State.taken_ctx : (s.taken x cmd).ctx x = s.fetchedCtx cmd := by
  unfold State.taken
  rw [State.ctx, State.updSth_sth, Tab.at_put_self]

theorem State.taken_get (g : Fld) : (s.taken x cmd).get g = s.get g := by
  unfold State.taken State.noteFetch State.updArb
  rw [State.updSth_get, State.updSth_get]

/-- What an append adds to the state is a notification. -/
theorem State.asked_eq : ∃ n, s.asked x cmd = (s.taken x cmd).updSth (fun h => { h with new_ := n }) := by
  unfold State.asked State.when
  split
  · exact ⟨_, rfl⟩
  · exact ⟨(s.taken x cmd).sth.new_, rfl⟩

theorem State.asked_get (g : Fld) : (s.asked x cmd).get g = s.get g := by
  obtain ⟨n, hn⟩ := State.asked_eq (s := s) (x := x) (cmd := cmd)
  rw [hn, State.updSth_get, State.taken_get]

theorem State.awake_get {g : Fld} (hidle : g.addr ≠ Fld.STH_IDLE_STATUS_IDLE.addr ∨ 24 ≤ g.lo)
    (h : ([.fld .STH_STATUS_QUIESCED, .fld .STH_STATUS_LIVE, .fld .STH_LOCK_STATUS_WAITING, .fld .STH_LOCK_STATUS_HELD] : List Regs).all
      (fun r => r.apartB g) = true) : (s.awake x cmd).get g = s.get g := by
  unfold State.awake
  rw [State.sthStatus_get h, State.notIdle, State.updSth_get, State.get_set_other _ _ (hidle.imp id .inl), State.asked_get]

theorem State.awake_idle : (s.awake x cmd).get .STH_IDLE_STATUS_IDLE = 0 := by
  unfold State.awake
  rw [State.sthStatus_get (by decide +kernel), State.notIdle_idle]

theorem State.awake_sth : (s.awake x cmd).sth = { (s.asked x cmd).sth with idleMs := 0 } := rfl

/-- The end of a fetch: outside power state 0 the core of PS is told. -/
def State.told (s : State) : State := s.when (s.is .STH_PS_CUR) (fun s => s.idleAt 0)

theorem State.idleAt_sth (i : Nat) : (s.idleAt i).sth = s.sth := by
  unfold State.idleAt State.irqFen
  split <;> rfl

theorem State.irqFen_mem (core : Nat) (y : FenIrq) : (core, y) ∈ (s.irqFen core y).fenIrq := by
  unfold State.irqFen
  split
  next h => exact h
  · exact List.mem_append_right _ (List.mem_singleton.2 rfl)

theorem State.idleAt_get {g : Fld} (i : Nat) (h : g.addr ≠ Fld.STH_IDLE_STATUS_EXPIRED.addr ∨ g.lo + g.width ≤ 28) :
    (s.idleAt i).get g = s.get g := by
  unfold State.idleAt
  rw [State.irqFen_get, State.get_set_other _ _ (h.imp id .inr)]

theorem State.idleAt_expired (i : Nat) :
    (s.idleAt i).get .STH_IDLE_STATUS_EXPIRED = (s.get .STH_IDLE_STATUS_EXPIRED ||| 2 ^ i) % 2 ^ 4 := by
  unfold State.idleAt
  rw [State.irqFen_get]
  exact State.get_set_self _ _ _ (by decide)

theorem State.idleAt_irq (i : Nat) : (s.get .STH_PS_CORE, FenIrq.idle i) ∈ (s.idleAt i).fenIrq := by
  have hcore : (s.set .STH_IDLE_STATUS_EXPIRED (s.get .STH_IDLE_STATUS_EXPIRED ||| 2 ^ i)).get .STH_PS_CORE = s.get .STH_PS_CORE :=
    State.get_set_other _ _ (by decide)
  unfold State.idleAt
  rw [← hcore]
  exact State.irqFen_mem _ _

theorem State.told_sth : s.told.sth = s.sth := State.when_keeps State.sth (State.idleAt_sth 0)

theorem State.told_idle :
    s.told.get .STH_IDLE_STATUS_IDLE = s.get .STH_IDLE_STATUS_IDLE := State.when_get (State.idleAt_get 0 (.inr (by decide)))

/-- What holds after every fetch, of whichever command. -/
theorem State.told_awake_holds :
    (s.awake x cmd).told.get .STH_IDLE_STATUS_IDLE = 0 ∧ (s.get .STH_PS_CUR ≠ 0 →
      (s.awake x cmd).told.get .STH_IDLE_STATUS_EXPIRED = (s.get .STH_IDLE_STATUS_EXPIRED ||| 1) % 2 ^ 4 ∧
      (s.get .STH_PS_CORE, FenIrq.idle 0) ∈ (s.awake x cmd).told.fenIrq) := by
  refine ⟨State.told_idle.trans State.awake_idle, fun hps => ?_⟩
  have hcur : (s.awake x cmd).is .STH_PS_CUR = true := by
    unfold State.is
    rw [State.awake_get (.inl (by decide)) (by decide +kernel)]
    exact bne_iff_ne.2 hps
  have hcore : (s.awake x cmd).get .STH_PS_CORE = s.get .STH_PS_CORE := State.awake_get (.inl (by decide)) (by decide +kernel)
  have hexpired : (s.awake x cmd).get .STH_IDLE_STATUS_EXPIRED = s.get .STH_IDLE_STATUS_EXPIRED :=
    State.awake_get (.inr (by decide)) (by decide +kernel)
  unfold State.told State.when
  rw [hcur, if_pos rfl, State.idleAt_expired, hexpired, ← hcore]
  exact ⟨rfl, State.idleAt_irq 0⟩

/-- What every fetch leaves in Staithe. -/
theorem State.told_awake_taken : (s.awake x cmd).told.sth.ctxs.at x = s.fetchedCtx cmd ∧
    (s.awake x cmd).told.sth.sqs.at (queueKey cmd.cntlid cmd.sqid) = { s.sth.sqs.at (queueKey cmd.cntlid cmd.sqid) with
      head := ((s.sth.sqs.at (queueKey cmd.cntlid cmd.sqid)).head + 1) % max 1 cmd.size } ∧
    (s.awake x cmd).told.sth.nextSeq = (s.sth.nextSeq + 1) % 2 ^ 32 := by
  obtain ⟨n, hn⟩ := State.asked_eq (s := s) (x := x) (cmd := cmd)
  rw [State.told_sth, State.awake_sth, hn, State.updSth_sth]
  refine ⟨State.taken_ctx, ?_, rfl⟩
  unfold State.taken
  rw [State.updSth_sth]
  exact Tab.at_put_self (α := SubQueue) _ _ _

theorem State.asked_new_of_append (hop : cmd.op = .zoneAppend) :
    (s.asked x cmd).sth.new_.at (s.get (.STH_CTL_CFG_CORE cmd.cntlid)) = s.sth.new_.at (s.get (.STH_CTL_CFG_CORE cmd.cntlid)) ++
      [{ assign := true, flushReady := false, ctx := x }] := by
  have hcmd : ((s.taken x cmd).ctx x).cmd = cmd := congrArg Ctx.cmd State.taken_ctx
  unfold State.asked State.when
  rw [decide_eq_true hop, if_pos rfl]
  unfold State.pushNew
  dsimp only
  rw [hcmd, State.taken_get, State.updSth_sth, Tab.at_upd_self]
  rfl

end fetched

/-- Settles O36: a doorbell moves a pointer where its queue rings; a fetch writes one context and one queue. -/
theorem commandsAreFetched : Obligations.CommandsAreFetched := by
  unfold Obligations.CommandsAreFetched
  refine ⟨fun s k q tail hclock hring => ?_, fun s k q tail hclock hring => ?_, fun s k q head hclock hring => ?_,
    fun s k q head hclock hring => ?_, fun s x cmd hclock hfetch hturn hpick hsome hfree hx hop => ?_,
    fun s x cmd hclock hfetch hturn hpick hsome hfree hx hop => ?_⟩
  · refine completes_of_outFrame (execSqDoorbell_frame (parts_in rfl) (fun _ hr => hr)) (exec_sqDoorbell_of_ring hclock hring)
      (fun _ => ⟨?_, ?_, (State.updSth_get _ _ _).trans State.notIdle_idle, rfl⟩)
    · rw [State.updSth_sth, Tab.at_upd_self]
    · rw [State.updSth_sth, Tab.at_upd_self]
      rfl
  · exact completes_of_outFrame (execSqDoorbell_frame (parts_in rfl) (fun _ hr => hr)) (exec_sqDoorbell_of_none hclock hring)
      (fun _ => ⟨rfl, State.notIdle_idle, rfl⟩)
  · refine completes_of_outFrame (execCqDoorbell_frame (parts_in rfl) (fun _ hr => hr)) (exec_cqDoorbell_of_ring hclock hring)
      (fun _ => ⟨?_, ?_, (State.updSth_get _ _ _).trans State.notIdle_idle, rfl⟩)
    · rw [State.updSth_sth, Tab.at_upd_self]
    · rw [State.updSth_sth, Tab.at_upd_self]
      rfl
  · exact completes_of_outFrame (execCqDoorbell_frame (parts_in rfl) (fun _ hr => hr)) (exec_cqDoorbell_of_none hclock hring)
      (fun _ => ⟨rfl, State.notIdle_idle, rfl⟩)
  · obtain ⟨hctx, hsq, hseq⟩ := State.told_awake_taken (s := s) (x := x) (cmd := cmd)
    refine completes_of_outFrame (execCommandFetch_frame (parts_in rfl) (fun _ hr => hr))
      (exec_commandFetch hclock hfetch hturn hpick hsome hfree hx) (fun _ => ⟨hctx.trans ?_, hsq, hseq, ?_, State.told_awake_holds⟩)
    · rw [State.fetchedCtx, if_neg hop]
    · refine (congrArg Staithe.new_ State.told_sth).trans ?_
      rw [State.awake_sth, State.asked, decide_eq_false hop]
      rfl
  · obtain ⟨hctx, hsq, hseq⟩ := State.told_awake_taken (s := s) (x := x) (cmd := cmd)
    refine completes_of_outFrame (execCommandFetch_frame (parts_in rfl) (fun _ hr => hr))
      (exec_commandFetch hclock hfetch hturn hpick hsome hfree hx) (fun _ => ⟨hctx.trans ?_, hsq, hseq, ?_, State.told_awake_holds⟩)
    · rw [State.fetchedCtx, if_pos hop]
    · refine (congrArg (fun h => Tab.at (Staithe.new_ h) (s.get (.STH_CTL_CFG_CORE cmd.cntlid))) State.told_sth).trans ?_
      exact State.asked_new_of_append hop

end Sys2Proof.Machine
end

section
set_option Elab.async false
/-! ADMISSION (12, 13). The first context that may be admitted takes its locks, then space in the ledger where it carries data,
  and its core is told
(R295, R298, R314, R317). -/

namespace Sys2Proof.Machine

variable {s : State}

/-! ### Space hangs on the ledger and on the registers -/

section space

variable {t : State} (h : s.Granted t)
include h

theorem State.Granted.runsIn : t.runsIn = s.runsIn := by
  funext k
  unfold State.runsIn
  rw [h.ledger]

theorem State.Granted.partUnits : t.partUnits = s.partUnits := by
  unfold State.partUnits
  rw [h.get _ (fun n => by dsimp only; omega)]

theorem State.Granted.cacheOn : t.is .SLU_PC_CFG_EN = s.is .SLU_PC_CFG_EN := by
  unfold State.is
  rw [h.get _ (fun n => by dsimp only; omega)]

theorem State.Granted.freeUnits : t.freeUnits = s.freeUnits := by
  funext k
  unfold State.freeUnits
  rw [h.cacheOn, h.partUnits, h.runsIn]

theorem State.Granted.freeRun : t.freeRun = s.freeRun := by
  funext k u
  unfold State.freeRun
  rw [h.cacheOn, h.partUnits, h.runsIn]

theorem State.Granted.runStarts : t.runStarts = s.runStarts := by
  have hpermitted : t.permitted = s.permitted := by
    funext u
    unfold State.permitted
    rw [h.get _ (fun n => by dsimp only; omega)]
  funext k
  unfold State.runStarts
  rw [h.runsIn, hpermitted]

theorem State.Granted.partition (nsid lba : Nat) : t.partition nsid lba = s.partition nsid lba := by
  unfold State.partition
  dsimp only
  rw [h.freeUnits, h.get (.SLU_NS_CFG_MODE _) (fun n => by dsimp only; omega),
    h.get (.SLU_NS_CFG_SHIFT _) (fun n => by dsimp only; omega), h.get (.SLU_NS_CFG_SEC _) (fun n => by dsimp only; omega)]

theorem State.Granted.spaceFor (nsid lba n : Nat) : t.spaceFor nsid lba n = s.spaceFor nsid lba n := by
  unfold State.spaceFor State.firstFit
  rw [h.partition, h.ledger, h.runStarts, h.freeRun]

end space

/-! ### The state once the locks are taken -/

/-- Locks taken where they are not held yet. -/
def State.locked (s : State) (x : Nat) : State := if (s.ctx x).held then s else s.takeLocks x

theorem State.locked_granted {x : Nat} (hstate : (s.ctx x).state = 1) : s.Granted (s.locked x) := by
  unfold State.locked
  split
  · exact State.Granted.refl s
  · exact State.takeLocks_granted hstate

theorem State.locked_held (x : Nat) : ((s.locked x).ctx x).held = ((s.ctx x).held || !(s.ctx x).ranges.isEmpty) := by
  unfold State.locked
  cases hheld : (s.ctx x).held with
  | false =>
    rw [if_neg Bool.false_ne_true, State.takeLocks_held, Bool.false_or]
  | true => rw [if_pos rfl, hheld, Bool.true_or]

/-! ### Space that is reserved -/

/-- The entry that a context of the state gets. -/
def State.entryOf (s : State) (x k u : Nat) : LedgerEntry :=
  { state := 1, section_ := k, cntlid := (s.ctx x).cmd.cntlid, ns := ((s.ctx x).cmd.nsid - 1) % 16, unit := u,
    lba := (s.ctx x).target.1 % 2 ^ 48, count := (s.ctx x).target.2, lseq := s.slu.lseq, sqid := (s.ctx x).cmd.sqid, ctx := x }

theorem State.reserve_of_space {x i k u : Nat} (hdata : (s.ctx x).cmd.op.carriesData = true)
    (hspace : s.spaceFor (s.ctx x).cmd.nsid (s.ctx x).target.1 (s.ctx x).target.2 = some (i, k, u)) :
    s.reserve x = ((s.updSlu (fun v => { v with lseq := (v.lseq + 1) % 2 ^ 32 })).updEntry i (fun _ => s.entryOf x k u)).updCtx x
      (fun c => { c with ledger := some i }) := by
  unfold State.reserve
  dsimp only
  rw [hdata, if_neg (by decide), hspace]
  rfl

/-- Whatever a reservation does, of Staithe it writes the context's LEDGER alone. -/
theorem State.reserve_sth (x : Nat) : ∃ l, (s.reserve x).sth = { s.sth with ctxs := s.sth.ctxs.upd x (fun c => { c with ledger := l }) } ∨
    (s.reserve x).sth = s.sth := by
  unfold State.reserve
  dsimp only
  split
  · exact ⟨none, .inr rfl⟩
  · split
    next i k u _ =>
      refine ⟨some i, .inl ?_⟩
      rw [State.updCtx, State.updSth_sth, State.updEntry_sth, State.updSlu_sth]
    next => exact ⟨none, .inr rfl⟩

theorem State.reserve_ctx (x : Nat) : ∃ l, (s.reserve x).ctx x = { s.ctx x with ledger := l } := by
  obtain ⟨l, h | h⟩ := State.reserve_sth (s := s) x
  · exact ⟨l, by rw [State.ctx, h, Tab.at_upd_self]; rfl⟩
  · exact ⟨(s.ctx x).ledger, State.ctx_of_sth h x⟩

theorem State.reserve_new (x : Nat) : (s.reserve x).sth.new_ = s.sth.new_ := by
  obtain ⟨l, h | h⟩ := State.reserve_sth (s := s) x <;> rw [h]

/-- The context RUNNING, before its core is told. -/
def State.runs (s : State) (x : Nat) : State := ((s.locked x).reserve x).updCtx x (fun c => { c with state := 3, aged := false })

theorem State.admitCtx_eq (x : Nat) : s.admitCtx x = ((s.runs x).pushNew x false false).sthStatus := rfl

theorem State.runs_ctx (x : Nat) : ∃ l, (s.runs x).ctx x = { (s.locked x).ctx x with state := 3, aged := false, ledger := l } := by
  obtain ⟨l, hl⟩ := State.reserve_ctx (s := s.locked x) x
  refine ⟨l, ?_⟩
  unfold State.runs
  rw [State.updCtx_ctx_self, hl]

theorem State.updCtx_slu (x : Nat) (f : Ctx → Ctx) : (s.updCtx x f).slu = s.slu := rfl

theorem State.pushNew_ctx (x y : Nat) (a f : Bool) : (s.pushNew x a f).ctx y = s.ctx y := rfl

theorem State.pushNew_slu (x : Nat) (a f : Bool) : (s.pushNew x a f).slu = s.slu := rfl

theorem State.pushNew_get (x : Nat) (a f : Bool) (g : Fld) : (s.pushNew x a f).get g = s.get g := State.updSth_get _ _ _

theorem State.pushNew_new (x : Nat) (a f : Bool) : (s.pushNew x a f).sth.new_.at (s.get (.STH_CTL_CFG_CORE (s.ctx x).cmd.cntlid)) =
    s.sth.new_.at (s.get (.STH_CTL_CFG_CORE (s.ctx x).cmd.cntlid)) ++ [{ assign := a, flushReady := f, ctx := x }] := by
  unfold State.pushNew
  dsimp only
  rw [State.updSth_sth, Tab.at_upd_self]

section admitted

variable {x : Nat} (hstate : (s.ctx x).state = 1)
include hstate

theorem State.admitCtx_ctx : ∃ l, (s.admitCtx x).ctx x = { s.ctx x with
    state := 3, aged := false, held := (s.ctx x).held || !(s.ctx x).ranges.isEmpty, ledger := l } := by
  obtain ⟨l, hl⟩ := State.runs_ctx (s := s) x
  obtain ⟨v, hv⟩ := (State.locked_granted hstate).ctx_held x
  have hheld := State.locked_held (s := s) x
  refine ⟨l, ?_⟩
  rw [State.admitCtx_eq, State.ctx_of_sth State.sthStatus_sth, State.pushNew_ctx, hl, ← hheld, hv]

theorem State.runs_core :
    (s.runs x).get (.STH_CTL_CFG_CORE ((s.runs x).ctx x).cmd.cntlid) = s.get (.STH_CTL_CFG_CORE (s.ctx x).cmd.cntlid) := by
  obtain ⟨l, hl⟩ := State.runs_ctx (s := s) x
  obtain ⟨v, hv⟩ := (State.locked_granted hstate).ctx_held x
  rw [hl, hv]
  unfold State.runs
  rw [State.updCtx_get, State.reserve_get (apart_mod (n := 32) _ (by decide) (by simp) (by decide +kernel) _)]
  exact (State.locked_granted hstate).get _ (fun n => by dsimp only; omega)

theorem State.admitCtx_new : (s.admitCtx x).sth.new_.at (s.get (.STH_CTL_CFG_CORE (s.ctx x).cmd.cntlid)) =
    s.sth.new_.at (s.get (.STH_CTL_CFG_CORE (s.ctx x).cmd.cntlid)) ++ [{ assign := false, flushReady := false, ctx := x }] := by
  have hnew : (s.runs x).sth.new_ = s.sth.new_ := (State.reserve_new x).trans (State.locked_granted hstate).new_
  have hpush := State.pushNew_new (s := s.runs x) x false false
  rw [State.runs_core hstate, hnew] at hpush
  exact hpush

theorem State.admitCtx_entry {i k u : Nat} (hdata : (s.ctx x).cmd.op.carriesData = true)
    (hspace : s.spaceFor (s.ctx x).cmd.nsid (s.ctx x).target.1 (s.ctx x).target.2 = some (i, k, u)) :
    ((s.admitCtx x).ctx x).ledger = some i ∧ (s.admitCtx x).slu.ledger.at i = s.entryOf x k u := by
  have hgranted := State.locked_granted hstate
  obtain ⟨v, hv⟩ := hgranted.ctx_held x
  have hcmd : ((s.locked x).ctx x).cmd = (s.ctx x).cmd := by rw [hv]
  have htarget : ((s.locked x).ctx x).target = (s.ctx x).target := by rw [hv]; rfl
  have hreserve := State.reserve_of_space (s := s.locked x) (x := x) (by rw [hcmd]; exact hdata)
    (by rw [hcmd, htarget, hgranted.spaceFor]; exact hspace)
  have hentry : (s.locked x).entryOf x k u = s.entryOf x k u := by
    unfold State.entryOf
    rw [hcmd, htarget, hgranted.lseq]
  refine ⟨?_, ?_⟩
  · rw [State.admitCtx_eq, State.ctx_of_sth State.sthStatus_sth, State.pushNew_ctx, State.runs, State.updCtx_ctx_self, hreserve,
    State.updCtx_ctx_self]
  · rw [State.admitCtx_eq, State.sthStatus_slu, State.pushNew_slu, State.runs, State.updCtx_slu, hreserve, State.updCtx_slu,
    State.updEntry_at, hentry]

end admitted

theorem State.admissible_state {x : Nat} (h : s.admissible x = true) : (s.ctx x).state = 1 := by
  simp only [State.admissible, Bool.and_eq_true, beq_iff_eq] at h
  obtain ⟨⟨⟨⟨⟨hstate, -⟩, -⟩, -⟩, -⟩, -⟩ := h
  exact hstate

/-- The LBA that STH_ZA names. -/
abbrev State.zaLba (s : State) : Nat := s.get .STH_ZA_LBA_HI_LBA * 2 ^ 32 + s.get .STH_ZA_LBA_LO_LBA

/-- An append with its zone's LBA. -/
def State.assigned (s : State) (x : Nat) : State :=
  s.ack.updCtx x (fun c => { c with
    state := 1, zaLba := s.zaLba, ranges := [{ ns := c.cmd.nsid, first := s.zaLba, count := c.cmd.count, excl := true }] })

/-- Settles O37: the context that is admitted keeps what it is, gets the run that `spaceFor` finds, and is told of. -/
theorem commandsAreAdmitted : Obligations.CommandsAreAdmitted := by
  unfold Obligations.CommandsAreAdmitted
  refine ⟨fun s x c hfind => ?_, fun s hfind => ?_, fun s x hold => ?_, fun s x hstate hop hnew hnone => ?_,
    fun s core e rest hclock hsome => ?_, fun s core hclock hnone => ?_, fun s x hclock hstate hfits => ?_, fun s x hclock hbad => ?_⟩
  · have hstate : (s.grantAppends.ctx x).state = 1 :=
      State.admissible_state (by have h := List.find?_some hfind; simp only [Bool.and_eq_true] at h; exact h.1)
    have hgranted := State.grantAppends_granted (s := s)
    obtain ⟨l, hl⟩ := State.admitCtx_ctx hstate
    have hcore : s.grantAppends.get (.STH_CTL_CFG_CORE (s.grantAppends.ctx x).cmd.cntlid) =
        s.get (.STH_CTL_CFG_CORE (s.grantAppends.ctx x).cmd.cntlid) := hgranted.get _ (fun n => by dsimp only; omega)
    have hpush := State.admitCtx_new hstate
    rw [hcore, hgranted.new_] at hpush
    refine completes_of_outFrame (execAdmission_frame (parts_in rfl) (fun _ hr => hr)) (t := s.grantAppends.admitCtx x) ?_
      (fun _ => ⟨by rw [hl], by rw [hl], by rw [hl], hpush, fun i k u hdata hspace => ?_⟩)
    · change execAdmission s = _
      unfold execAdmission
      dsimp only
      rw [hfind]
    · obtain ⟨hledger, hentry⟩ := State.admitCtx_entry hstate hdata hspace
      rw [hentry]
      exact ⟨hledger, rfl, rfl, rfl, rfl, hgranted.lseq, rfl⟩
  · refine completes_of_outFrame (execAdmission_frame (parts_in rfl) (fun _ hr => hr)) (t := s.grantAppends) ?_ (fun _ => ⟨rfl, rfl⟩)
    change execAdmission s = _
    unfold execAdmission
    dsimp only
    rw [hfind]
  · refine completes_of_outFrame (execAdmissionAge_frame (parts_in rfl)) (t := s.updCtx x (fun c => { c with aged := true })) ?_
      (fun _ => State.updCtx_ctx_self _ _)
    change execAdmissionAge s = _
    rw [execAdmissionAge, hold]
  · have hpush := State.pushNew_new (s := s.updCtx x (fun c => { c with notified := true })) x false true
    rw [State.updCtx_ctx_self, State.updCtx_get] at hpush
    refine completes_of_outFrame (execFlushReady_frame (parts_in rfl))
      (t := (s.updCtx x (fun c => { c with notified := true })).pushNew x false true) ?_ (fun _ => ⟨?_, hpush⟩)
    rotate_left
    · change ((s.updCtx x (fun c => { c with notified := true })).pushNew x false true).ctx x = _
      rw [State.pushNew_ctx, State.updCtx_ctx_self]
      rfl
    change execFlushReady x s = _
    rw [execFlushReady]
    refine if_pos ⟨hstate, hop, by rw [hnew]; rfl, ?_⟩
    rw [Bool.not_eq_true', List.any_eq_false]
    intro e he
    simp only [Bool.and_eq_true, Bool.or_eq_true, bne_iff_ne, beq_iff_eq, List.any_eq_true, not_and, not_or]
    rintro ⟨⟨hwrite, hlive⟩, hbefore⟩
    obtain ⟨hall, hns, hranges⟩ := hnone e he hwrite hlive hbefore
    exact ⟨⟨hall, hns⟩, fun ⟨r, hr, hrns⟩ => hranges r hr hrns⟩
  · refine completes_of_outFrame (execSthNewRead_frame (parts_in rfl)) (t := (s.ack.answer (2 ^ 31 + e.assign.toNat * 2 ^ 30 +
      e.flushReady.toNat * 2 ^ 29 + e.ctx)).updSth (fun h => { h with new_ := h.new_.put core rest })) ?_ (fun _ => ⟨rfl, ?_⟩)
    · change execSthNewRead core s = _
      rw [execSthNewRead, State.access_of_clocked _ hclock, State.ack_sth, hsome]
    · rw [State.updSth_sth, Tab.at_put_self]
  · refine completes_of_outFrame (execSthNewRead_frame (parts_in rfl)) (t := s.ack.answer 0) ?_ (fun _ => ⟨rfl, rfl⟩)
    change execSthNewRead core s = _
    rw [execSthNewRead, State.access_of_clocked _ hclock, State.ack_sth, hnone]
  · have hctx : (s.assigned x).ctx x = { s.ctx x with state := 1, zaLba := s.zaLba, ranges :=
        [{ ns := (s.ctx x).cmd.nsid, first := s.zaLba, count := (s.ctx x).cmd.count, excl := true }] } := State.updCtx_ctx_self (s := s.ack) _ _
    obtain ⟨v, hv⟩ := (State.grantAppends_granted (s := s.assigned x)).ctx_held x
    rw [hctx] at hv
    refine completes_of_outFrame (execSthZaSet_frame (parts_in rfl) (fun _ hr => hr)) (t := (s.assigned x).grantAppends.sthStatus) ?_
      (fun _ => ?_)
    · change execSthZaSet x s = _
      rw [execSthZaSet]
      dsimp only
      rw [State.access_of_clocked _ hclock]
      refine congrArg Host.Outcome.next (if_neg ?_)
      rw [State.ack_get, State.ack_get]
      omega
    · rw [State.ctx_of_sth State.sthStatus_sth, hv, State.sthStatus_get (by decide +kernel), State.sthStatus_bus,
      State.grantAppends_bus, (State.grantAppends_granted (s := s.assigned x)).get _ (fun n => by dsimp only; omega)]
      exact ⟨rfl, rfl, rfl, (State.updCtx_get _ _ _).trans (State.ack_get _ _), rfl⟩
  · refine completes_of_outFrame (execSthZaSet_frame (parts_in rfl) (fun _ hr => hr)) (t := s.ack.set .STH_STATUS_ZA_ERR 1) ?_
      (fun _ => ⟨rfl, State.get_set_self _ _ _ (by decide), rfl⟩)
    change execSthZaSet x s = _
    rw [execSthZaSet]
    dsimp only
    rw [State.access_of_clocked _ hclock]
    exact congrArg Host.Outcome.next (if_pos hbad)

end Sys2Proof.Machine
end

section
set_option Elab.async false
/-! STH_CPL and COMPLETION_POST (12). A completion waits in its queue's list with its entry released, or is recorded as a fate where the
controller resets; the one in front takes the slot at the tail (R299, R300, R301, R303). -/

namespace Sys2Proof.Machine

variable {s : State}

theorem tabFind_mapAll {α : Type} [Inhabited α] [DecidableEq α] {f : α → α} {t : Tab α} {k : Nat} {v : α} (hfind : tabFind t k = some v)
    (hv : f v ≠ default) : tabFind (t.mapAll f) k = some (f v) := by
  induction t with
  | nil => cases hfind
  | cons e t ih =>
    by_cases hk : e.1 = k
    · rw [tabFind, if_pos hk, Option.some.injEq] at hfind
      rw [Tab.mapAll, List.filterMap_cons_some (b := (e.1, f e.2)) (by rw [hfind, if_neg hv]), tabFind, if_pos hk, hfind]
    · rw [tabFind, if_neg hk] at hfind
      by_cases he : f e.2 = default
      · rw [Tab.mapAll, List.filterMap_cons_none (by rw [if_pos he])]
        exact ih hfind
      · rw [Tab.mapAll, List.filterMap_cons_some (b := (e.1, f e.2)) (by rw [if_neg he]), tabFind, if_neg hk]
        exact ih hfind

/-- A value put in a table, changed with all its entries, reads changed. -/
theorem Tab.at_mapAll_put {α : Type} [Inhabited α] [DecidableEq α] {f : α → α} (t : Tab α) (k : Nat) {v : α} (hv : v ≠ default)
    (hf : f v ≠ default) : ((t.put k v).mapAll f).at k = f v := by
  unfold Tab.at tabGet
  rw [tabFind_mapAll (v := v) ?_ hf]
  rw [Tab.put, tabPut, if_neg hv, tabFind_insert_self]

/-! ### STH_CPL -/

theorem State.cplErr_sth (core : Nat) : (s.cplErr core).sth = s.sth := State.raise_sth _ _ _

theorem State.cplErr_err (core : Nat) : (s.cplErr core).get .STH_STATUS_CPL_ERR = 1 :=
  (State.raise_get (by decide +kernel)).trans (State.get_set_self _ _ _ (by decide))

theorem State.arbitrate_eq (c : HostCommand) : ∃ a, s.arbitrate c = s.updSth (fun h => { h with arb := a }) := by
  unfold State.arbitrate
  dsimp only
  split
  · exact ⟨s.sth.arb, rfl⟩
  · split
    · exact ⟨_, rfl⟩
    · split
      · exact ⟨_, rfl⟩
      · exact ⟨s.sth.arb, rfl⟩

/-- Whatever arbitration a successful command sets. -/
def State.arbitrated (s : State) (x status : Nat) : State :=
  (s.releaseEntry x).when (success status) (fun t => t.arbitrate (s.ctx x).cmd)

theorem State.arbitrated_eq (x status : Nat) : ∃ a, s.arbitrated x status = (s.releaseEntry x).updSth (fun h => { h with arb := a }) := by
  unfold State.arbitrated State.when
  split
  · exact State.arbitrate_eq _
  · exact ⟨(s.releaseEntry x).sth.arb, rfl⟩

theorem State.releaseEntry_get {x : Nat} {g : Fld}
    (h : ∀ i, (s.freeEntry i).get g = s.get g) : (s.releaseEntry x).get g = s.get g := by
  unfold State.releaseEntry
  split
  next i _ => exact State.when_get (h i)
  · rfl

/-- The context of a completion that waits. -/
def State.completed (s : State) (core x status : Nat) : State :=
  (s.arbitrated x status).updCtx x (fun c => { c with
    state := 4, held := false, ranges := [], dw0 := (s.releaseEntry x).get (.STH_CPL_DW0_DW0 core), status := status % 2 ^ 15 })

/-- The completion of `x` waiting in its queue. -/
def State.waits (s : State) (core x status : Nat) : State :=
  (s.completed core x status).updSth (fun h => { h with
    cqs := h.cqs.upd (queueKey (s.ctx x).cmd.cntlid (s.ctx x).cmd.cqid) (fun q => { q with waiting := q.waiting ++ [x] }) })

theorem State.arbitrated_ctx (x status : Nat) : (s.arbitrated x status).ctx x = s.ctx x := by
  obtain ⟨a, ha⟩ := State.arbitrated_eq (s := s) x status
  rw [ha]
  exact State.ctx_of_sth (State.releaseEntry_sth x) x

theorem State.arbitrated_cqs (x status : Nat) : (s.arbitrated x status).sth.cqs = s.sth.cqs := by
  obtain ⟨a, ha⟩ := State.arbitrated_eq (s := s) x status
  rw [ha, State.updSth_sth, State.releaseEntry_sth]

theorem State.arbitrated_fates (x status : Nat) : (s.arbitrated x status).sth.fates = s.sth.fates := by
  obtain ⟨a, ha⟩ := State.arbitrated_eq (s := s) x status
  rw [ha, State.updSth_sth, State.releaseEntry_sth]

theorem State.arbitrated_slu (x status : Nat) : (s.arbitrated x status).slu = (s.releaseEntry x).slu := by
  obtain ⟨a, ha⟩ := State.arbitrated_eq (s := s) x status
  rw [ha, State.updSth_slu]

theorem State.waits_ctx (core x status : Nat) : (s.waits core x status).ctx x = { s.ctx x with
    state := 4, held := false, ranges := [], dw0 := s.get (.STH_CPL_DW0_DW0 core), status := status % 2 ^ 15 } := by
  have hdw0 : (s.releaseEntry x).get (.STH_CPL_DW0_DW0 core) = s.get (.STH_CPL_DW0_DW0 core) :=
    State.releaseEntry_get (fun i => State.freeEntry_get (apart_mod (n := 8) _ (by decide) (by simp) (by decide +kernel) core))
  have hctx : (s.waits core x status).ctx x = (s.completed core x status).ctx x := by
    unfold State.ctx State.waits
    rw [State.updSth_sth]
  rw [hctx, State.completed, State.updCtx_ctx_self, State.arbitrated_ctx, hdw0]

theorem State.waits_cqs (core x status : Nat) : (s.waits core x status).sth.cqs = s.sth.cqs.upd
    (queueKey (s.ctx x).cmd.cntlid (s.ctx x).cmd.cqid) (fun q => { q with waiting := q.waiting ++ [x] }) := by
  rw [← State.arbitrated_cqs (s := s) x status, State.waits, State.updSth_sth, State.completed, State.updCtx, State.updSth_sth]

theorem State.waits_fates (core x status : Nat) : (s.waits core x status).sth.fates = s.sth.fates := by
  rw [State.waits, State.updSth_sth, State.completed, State.updCtx, State.updSth_sth, State.arbitrated_fates]

theorem State.waits_slu (core x status : Nat) : (s.waits core x status).slu = (s.releaseEntry x).slu := by
  rw [State.waits, State.updSth_slu, State.completed, State.updCtx, State.updSth_slu, State.arbitrated_slu]

theorem State.waits_bus (core x status : Nat) : (s.waits core x status).bus = s.bus := by
  obtain ⟨a, ha⟩ := State.arbitrated_eq (s := s) x status
  rw [State.waits, State.updSth_bus, State.completed, State.updCtx, State.updSth_bus, ha, State.updSth_bus, State.releaseEntry]
  split
  · exact State.when_keeps State.bus State.freeEntry_bus
  · rfl

theorem exec_sthCpl {who : Who} {core x status : Nat} (hclock : s.gated 0x4000_0044 = false)
    (hstate : (s.ctx x).state = 3 ∨ ((s.ctx x).state = 2 ∧ (s.ctx x).cmd.op = .zoneAppend ∧ success status = false))
    (hdata : success status = false ∨ (s.ctx x).cmd.op.carriesData = false ∨ (s.ctx x).ledgered = true) :
    exec (.sthCpl who core x status) s = .next (if s.is (.STH_CTL_CFG_RST_PEND (s.ctx x).cmd.cntlid) then
      s.ack.endCtx x (if (s.ctx x).cmd.op.carriesData then (s.ctx x).dataFate 1 else (3, 3)).1
        (if (s.ctx x).cmd.op.carriesData then (s.ctx x).dataFate 1 else (3, 3)).2 1
      else (s.ack.waits core x status).grantAppends.sthStatus) := by
  change execSthCpl who core x status s = _
  unfold execSthCpl
  dsimp only
  rw [State.access_of_clocked _ hclock, if_neg, if_neg]
  · rfl
  · rintro ⟨hsuccess, hcarries, hno⟩
    rcases hdata with h | h | h <;> simp_all
  · rintro ⟨hnot, hno⟩
    rcases hstate with h | ⟨hstate, hop, hfail⟩
    · exact hnot h
    · exact hno ⟨hstate, hop, by rw [hfail]; rfl⟩

/-! ### A fate is recorded with the end of a context -/

theorem State.addFate_fates {r : FateRecord} (h : s.sth.fates.length < 8192) : (s.addFate r).sth.fates = s.sth.fates ++ [r] := by
  unfold State.addFate
  dsimp only
  rw [if_neg]
  · rfl
  · rw [State.updSth_sth, List.length_append, List.length_singleton]
    omega

theorem State.resetDone_ctxs (k : Nat) : (s.resetDone k).sth.ctxs = s.sth.ctxs := by
  unfold State.resetDone
  split <;> rfl

theorem State.resetDone_fates (k : Nat) : (s.resetDone k).sth.fates = s.sth.fates := by
  unfold State.resetDone
  split <;> rfl

theorem State.freeCtx_fates (x : Nat) : (s.freeCtx x).sth.fates = s.sth.fates := by
  rw [State.freeCtx_eq, State.sthStatus_sth, State.grantAppends_granted.fates, State.removed, State.updSth_sth, State.releaseEntry_sth]

theorem State.endCtx_ctx_self (x fate reason event : Nat) : (s.endCtx x fate reason event).sth.ctxs.at x = default := by
  unfold State.endCtx
  dsimp only
  rw [State.resetDone_ctxs]
  exact State.freeCtx_ctx_self x

theorem State.endCtx_fates {x fate reason event : Nat} (h : s.sth.fates.length < 8192) :
    (s.endCtx x fate reason event).sth.fates = s.sth.fates ++ [s.fateOf (s.ctx x) fate reason event] := by
  unfold State.endCtx
  dsimp only
  rw [State.resetDone_fates, State.freeCtx_fates, State.addFate_fates h]

/-! ### COMPLETION_POST -/

/-- The queue of a context with its completion posted. -/
def State.postedQueue (s : State) (x size : Nat) : CplQueue :=
  let q := s.sth.cqs.at (queueKey (s.ctx x).cmd.cntlid (s.ctx x).cmd.cqid)
  { q with
    waiting := q.waiting.drop 1, tail := (q.tail + 1) % max 1 size, phase := if (q.tail + 1) % max 1 size = 0 then !q.phase else q.phase,
    slots := q.slots.put q.tail (s.cplEntry (s.ctx x) q.phase) }

theorem State.postedQueue_slot (x size : Nat) :
    (s.postedQueue x size).slots.at (s.sth.cqs.at (queueKey (s.ctx x).cmd.cntlid (s.ctx x).cmd.cqid)).tail =
      s.cplEntry (s.ctx x) (s.sth.cqs.at (queueKey (s.ctx x).cmd.cntlid (s.ctx x).cmd.cqid)).phase := by
  unfold State.postedQueue
  dsimp only
  rw [Tab.at_put_self]

/-- The posted queue in its place, before the context is freed. -/
def State.queued (s : State) (x size : Nat) : State :=
  s.updSth (fun h => { h with cqs := h.cqs.put (queueKey (s.ctx x).cmd.cntlid (s.ctx x).cmd.cqid) (s.postedQueue x size) })

theorem State.cplEntry_ne_nil (s : State) (c : Ctx) (phase : Bool) : s.cplEntry c phase ≠ [] := by
  unfold State.cplEntry leBytes
  simp

/-- A queue whose slot is filled is no empty queue. -/
theorem CplQueue.ne_default_of_slot {q : CplQueue} {i : Nat} (h : q.slots.at i ≠ []) : q ≠ default := by
  rintro rfl
  exact h rfl

theorem State.queued_freed_cqs (x size : Nat) :
    ((s.queued x size).freeCtx x).sth.cqs.at (queueKey (s.ctx x).cmd.cntlid (s.ctx x).cmd.cqid) =
      { s.postedQueue x size with waiting := (s.postedQueue x size).waiting.filter (· ≠ x) } := by
  have hne := s.cplEntry_ne_nil (s.ctx x) (s.sth.cqs.at (queueKey (s.ctx x).cmd.cntlid (s.ctx x).cmd.cqid)).phase
  rw [← State.postedQueue_slot x size] at hne
  rw [State.freeCtx_eq, State.sthStatus_sth, State.grantAppends_granted.cqs, State.removed, State.updSth_sth, State.releaseEntry_sth,
    State.queued, State.updSth_sth]
  exact Tab.at_mapAll_put (f := fun q => { q with waiting := q.waiting.filter (· ≠ x) }) _ _ (CplQueue.ne_default_of_slot hne)
    (CplQueue.ne_default_of_slot hne)

/-- Settles O38: a completion that waits is last in its queue's list, and a grant of locks leaves it; one that is posted fills the slot at the tail. -/
theorem completionsPost : Obligations.CompletionsPost := by
  unfold Obligations.CompletionsPost
  refine ⟨fun s who core x status hclock hstate hdata hpend => ?_, fun s who core x status hclock hbad => ?_,
    fun s who core x status hclock hstate hdata hpend hroom => ?_, fun s x size hdomain hpend hstate hfront hroom hpf => ?_⟩
  · have hwaits := State.waits_ctx (s := s.ack) core x status
    have hgranted := State.grantAppends_granted (s := s.ack.waits core x status)
    have hctx := hgranted.fixed (x := x) (by rw [hwaits]; exact (by decide : 4 ≠ 1))
    refine completes_of_outFrame (execSthCpl_frame (parts_in rfl) (fun _ hr => hr))
      (t := (s.ack.waits core x status).grantAppends.sthStatus) ?_ (fun _ => ⟨?_, ?_, ?_, fun i hledger hentry hof => ?_, ?_⟩)
    · rw [exec_sthCpl hclock hstate hdata, State.not_is_of_get hpend, if_neg Bool.false_ne_true]
    · exact hctx.trans hwaits
    · rw [State.sthStatus_sth, hgranted.cqs, State.waits_cqs]
      exact congrArg CplQueue.waiting (Tab.at_upd_self _ _ _)
    · rw [State.sthStatus_sth, hgranted.fates]
      exact State.waits_fates core x status
    · rw [State.sthStatus_slu, hgranted.ledger, State.waits_slu]
      exact State.releaseEntry_ledger hledger hentry hof
    · rw [State.sthStatus_bus, State.grantAppends_bus, State.waits_bus]
      rfl
  · refine completes_of_outFrame (execSthCpl_frame (parts_in rfl) (fun _ hr => hr)) (t := s.ack.cplErr who.coreOf) ?_
      (fun _ => ⟨State.cplErr_sth _, State.cplErr_err _, State.raise_latched_true (by decide +kernel)⟩)
    change execSthCpl who core x status s = _
    unfold execSthCpl
    dsimp only
    rw [State.access_of_clocked _ hclock]
    refine congrArg Host.Outcome.next ?_
    rcases hbad with ⟨hnot, hno⟩ | ⟨hsuccess, hcarries, hno⟩
    · refine if_pos ⟨hnot, fun ⟨h2, hop, hfail⟩ => ?_⟩
      rcases hno with h | h | h
      · exact h h2
      · exact h hop
      · rw [h] at hfail
        cases hfail
    · split
      · rfl
      · exact if_pos ⟨hsuccess, hcarries, by rw [hno]; rfl⟩
  · refine completes_of_outFrame (execSthCpl_frame (parts_in rfl) (fun _ hr => hr))
      (t := s.ack.endCtx x (if (s.ctx x).cmd.op.carriesData then (s.ctx x).dataFate 1 else (3, 3)).1
        (if (s.ctx x).cmd.op.carriesData then (s.ctx x).dataFate 1 else (3, 3)).2 1) ?_ (fun _ => ⟨State.endCtx_ctx_self _ _ _ _, ?_, ?_⟩)
    · rw [exec_sthCpl hclock hstate hdata, State.is_of_get hpend, if_pos rfl]
    · rw [State.endCtx_fates (by exact hroom)]
      cases (s.ctx x).cmd.op.carriesData <;> rfl
    · exact State.endCtx_bus
  · refine completes_of_outFrame (execCompletionPost_frame (parts_in rfl) (fun _ hr => hr)) (t := (s.queued x size).freeCtx x) ?_
      (fun _ => ⟨State.freeCtx_ctx_self x, ?_, ?_⟩)
    · change execCompletionPost x size s = _
      unfold execCompletionPost
      dsimp only
      refine if_pos ⟨hstate, hfront, hroom, ?_, ?_, hdomain⟩
      · rw [State.committed, beq_false_of_ne hpf]
        rfl
      · rw [State.not_is_of_get hpend]
        rfl
    · rw [State.queued_freed_cqs]
      rfl
    · rw [State.queued_freed_cqs]
      exact State.postedQueue_slot x size

end Sys2Proof.Machine
end

section
set_option Elab.async false
/-! CONTROLLER RESETS (12). A reset of a controller ends the contexts of its that wait or wait for locks,
  and stays pending while others of its
run (R303, R308). -/

namespace Sys2Proof.Machine

variable {s : State}

/-! ### Tables whose keys rise -/

/-- The keys of a table strictly rise. -/
abbrev TabSorted {α : Type} (t : Tab α) : Prop := t.Pairwise (fun a b => a.1 < b.1)

theorem tabFind_mem {α : Type} {t : Tab α} {k : Nat} {v : α} (h : tabFind t k = some v) : (k, v) ∈ t := by
  induction t with
  | nil => cases h
  | cons e t ih =>
    by_cases hk : e.1 = k
    · rw [tabFind, if_pos hk, Option.some.injEq] at h
      exact List.mem_cons.2 (.inl (by rw [← hk, ← h]))
    · rw [tabFind, if_neg hk] at h
      exact List.mem_cons_of_mem _ (ih h)

theorem tabFind_of_mem {α : Type} {t : Tab α} (hsorted : TabSorted t) {e : Nat × α} (h : e ∈ t) : tabFind t e.1 = some e.2 := by
  induction t with
  | nil => cases h
  | cons d t ih =>
    rw [TabSorted, List.pairwise_cons] at hsorted
    rcases List.mem_cons.1 h with rfl | ht
    · rw [tabFind, if_pos rfl]
    · rw [tabFind, if_neg (Nat.ne_of_lt (hsorted.1 e ht))]
      exact ih hsorted.2 ht

/-! ### What a context's kind is, and what keeps it -/

/-- The state and the command of the context listed at `x`. -/
def kindAt (t : Tab Ctx) (x : Nat) : Option (Nat × HostCommand) := (tabFind t x).map (fun c => (c.state, c.cmd))

/-- Contexts keep their kinds, and their order. -/
structure SameKinds (a b : Tab Ctx) : Prop where
  sorted : TabSorted a → TabSorted b
  kind : ∀ x, kindAt b x = kindAt a x

theorem SameKinds.refl (a : Tab Ctx) : SameKinds a a := ⟨id, fun _ => rfl⟩

theorem SameKinds.trans {a b c : Tab Ctx} (h : SameKinds a b) (h' : SameKinds b c) : SameKinds a c :=
  ⟨h'.sorted ∘ h.sorted, fun x => (h'.kind x).trans (h.kind x)⟩

theorem kindAt_of_state {t : Tab Ctx} {x : Nat} (h : (t.at x).state ≠ 0) : kindAt t x = some ((t.at x).state, (t.at x).cmd) := by
  unfold kindAt Tab.at tabGet at *
  cases hfind : tabFind t x with
  | none =>
    rw [hfind] at h
    exact absurd rfl h
  | some c => rfl

theorem ctx_of_kindAt {t : Tab Ctx} {x st : Nat} {c : HostCommand} (h : kindAt t x = some (st, c)) :
    (t.at x).state = st ∧ (t.at x).cmd = c := by
  unfold kindAt at h
  cases hfind : tabFind t x with
  | none =>
    rw [hfind] at h
    cases h
  | some v =>
    rw [hfind, Option.map_some, Option.some.injEq, Prod.mk.injEq] at h
    unfold Tab.at tabGet
    rw [hfind]
    exact h

theorem ctx_of_kindAt_none {t : Tab Ctx} {x : Nat} (h : kindAt t x = none) : t.at x = default := by
  unfold kindAt at h
  rw [Option.map_eq_none_iff] at h
  unfold Tab.at tabGet
  rw [h]

theorem kindAt_of_mem {t : Tab Ctx} (hsorted : TabSorted t) {e : Nat × Ctx} (h : e ∈ t) : kindAt t e.1 = some (e.2.state, e.2.cmd) := by
  rw [kindAt, tabFind_of_mem hsorted h]
  rfl

theorem mem_of_kindAt {t : Tab Ctx} {x st : Nat} {c : HostCommand} (h : kindAt t x = some (st, c)) :
    ∃ e ∈ t, e.1 = x ∧ e.2.state = st ∧ e.2.cmd = c := by
  unfold kindAt at h
  cases hfind : tabFind t x with
  | none =>
    rw [hfind] at h
    cases h
  | some v =>
    rw [hfind, Option.map_some, Option.some.injEq, Prod.mk.injEq] at h
    exact ⟨(x, v), tabFind_mem hfind, rfl, h⟩

/-- A change of a context that is in use keeps the kinds, where it keeps the context's own. -/
theorem sameKinds_upd {t : Tab Ctx} {x : Nat} {f : Ctx → Ctx} (hused : (t.at x).state ≠ 0) (hstate : (f (t.at x)).state = (t.at x).state)
    (hcmd : (f (t.at x)).cmd = (t.at x).cmd) : SameKinds t (t.upd x f) := by
  have hput : t.upd x f = tabInsert t x (f (t.at x)) := by
    unfold Tab.upd Tab.put tabPut
    refine if_neg (fun h => hused ?_)
    rw [← hstate, h]
    rfl
  rw [hput]
  refine ⟨tabInsert_sorted _ _ _, fun y => ?_⟩
  by_cases hy : y = x
  · subst hy
    rw [kindAt_of_state hused, kindAt, tabFind_insert_self, Option.map_some, hstate, hcmd]
  · rw [kindAt, tabFind_insert_ne _ _ hy, kindAt]

theorem foldl_discardOverlap_sth (l : List LbaRange) (t : State) : (l.foldl State.discardOverlap t).sth = t.sth := by
  induction l generalizing t with
  | nil => rfl
  | cons r l ih => exact (ih _).trans State.discardOverlap_sth

theorem State.takeLocks_kinds {x : Nat} (hused : (s.ctx x).state ≠ 0) : SameKinds s.sth.ctxs (s.takeLocks x).sth.ctxs := by
  unfold State.takeLocks
  rw [foldl_discardOverlap_sth]
  exact sameKinds_upd (f := fun c => { c with held := !c.ranges.isEmpty }) hused rfl rfl

theorem foldl_sameKinds {α : Type} {f : State → α → State} (h : ∀ t a, SameKinds t.sth.ctxs (f t a).sth.ctxs) (l : List α) (s : State) :
    SameKinds s.sth.ctxs (l.foldl f s).sth.ctxs := by
  induction l generalizing s with
  | nil => exact SameKinds.refl _
  | cons a l ih => exact (h s a).trans (ih _)

theorem State.grantAppends_kinds : SameKinds s.sth.ctxs s.grantAppends.sth.ctxs := by
  unfold State.grantAppends
  refine foldl_sameKinds (fun t e => ?_) _ s
  dsimp only
  unfold State.when
  split
  next h =>
    simp only [Bool.and_eq_true, beq_iff_eq] at h
    obtain ⟨⟨⟨⟨hstate, -⟩, -⟩, -⟩, -⟩ := h
    exact State.takeLocks_kinds (by rw [hstate]; decide)
  · exact SameKinds.refl _

/-! ### The end of a context -/

theorem State.freeCtx_kinds (x : Nat) : SameKinds (tabErase s.sth.ctxs x) (s.freeCtx x).sth.ctxs := by
  have hremoved : (s.removed x).sth.ctxs = tabErase s.sth.ctxs x := by
    rw [State.removed, State.updSth_sth, State.releaseEntry_sth]
    change Tab.put s.sth.ctxs x default = _
    unfold Tab.put tabPut
    exact if_pos rfl
  rw [State.freeCtx_eq, State.sthStatus_sth, ← hremoved]
  exact State.grantAppends_kinds

theorem State.addFate_ctxs (r : FateRecord) : (s.addFate r).sth.ctxs = s.sth.ctxs := by
  unfold State.addFate State.fateStatus
  dsimp only
  split <;> rfl

theorem State.endCtx_kinds (x fate reason event : Nat) : SameKinds (tabErase s.sth.ctxs x) (s.endCtx x fate reason event).sth.ctxs := by
  unfold State.endCtx
  dsimp only
  rw [State.resetDone_ctxs, ← State.addFate_ctxs (s := s) (s.fateOf (s.ctx x) fate reason event)]
  exact State.freeCtx_kinds x

theorem State.endCtx_sorted {x fate reason event : Nat} (h : TabSorted s.sth.ctxs) : TabSorted (s.endCtx x fate reason event).sth.ctxs :=
  (State.endCtx_kinds x fate reason event).sorted (h.sublist (tabErase_sublist _ _))

theorem State.endCtx_kindAt (x fate reason event y : Nat) :
    kindAt (s.endCtx x fate reason event).sth.ctxs y = if y = x then none else kindAt s.sth.ctxs y := by
  rw [(State.endCtx_kinds x fate reason event).kind]
  by_cases hy : y = x
  · subst hy
    rw [if_pos rfl, kindAt, tabFind_erase_self]
    rfl
  · rw [if_neg hy, kindAt, tabFind_erase_ne _ hy, kindAt]

/-- A reset that still has contexts stays pending. -/
theorem State.resetDone_of_mem {k : Nat} {e : Nat × Ctx} (he : e ∈ s.sth.ctxs) (hk : e.2.cmd.cntlid = k) : s.resetDone k = s := by
  unfold State.resetDone
  refine if_neg (fun h => ?_)
  have hall := List.all_eq_true.1 h.2 e he
  rw [decide_eq_true_eq] at hall
  exact hall hk

theorem State.resetDone_pend {k : Nat} (h : ∀ e ∈ s.sth.ctxs, e.2.cmd.cntlid ≠ k) : (s.resetDone k).get (.STH_CTL_CFG_RST_PEND k) = 0 := by
  unfold State.resetDone
  split
  next => exact (State.updSth_get _ _ _).trans (State.get_set_self _ _ _ (by simp))
  next hno =>
    have hnot : ¬ s.is (.STH_CTL_CFG_RST_PEND k) = true :=
      fun hpend => hno ⟨hpend, List.all_eq_true.2 (fun e he => decide_eq_true (h e he))⟩
    have hlt := State.get_lt s (.STH_CTL_CFG_RST_PEND k)
    have hne : s.get (.STH_CTL_CFG_RST_PEND k) ≠ 1 := fun hget => hnot (State.is_of_get hget)
    dsimp only at hlt
    omega

theorem State.endCtx_pend {x fate reason event k : Nat} :
    ((s.addFate (s.fateOf (s.ctx x) fate reason event)).freeCtx x).get (.STH_CTL_CFG_RST_PEND k) = s.get (.STH_CTL_CFG_RST_PEND k) := by
  rw [State.freeCtx_get (apart_mod (n := 32) _ (by decide) (by simp) (by decide +kernel) k),
    State.addFate_get (apart_mod (n := 32) _ (by decide) (by simp) (by decide +kernel) k)]

/-- The end of a context keeps the reset of its controller pending while another context of it is in use. -/
theorem State.endCtx_pend_keeps {x fate reason event k y st : Nat} {c : HostCommand} (hk : (s.ctx x).cmd.cntlid = k)
    (hother : kindAt s.sth.ctxs y = some (st, c)) (hy : y ≠ x) (hc : c.cntlid = k) :
    (s.endCtx x fate reason event).get (.STH_CTL_CFG_RST_PEND k) = s.get (.STH_CTL_CFG_RST_PEND k) := by
  have hfreed : kindAt ((s.addFate (s.fateOf (s.ctx x) fate reason event)).freeCtx x).sth.ctxs y = some (st, c) := by
    rw [(State.freeCtx_kinds x).kind, State.addFate_ctxs, kindAt, tabFind_erase_ne _ hy]
    exact hother
  obtain ⟨e, he, -, -, hcmd⟩ := mem_of_kindAt hfreed
  unfold State.endCtx
  dsimp only
  rw [hk, State.resetDone_of_mem he (by rw [hcmd]; exact hc), State.endCtx_pend]

/-! ### The contexts that a reset ends -/

/-- Waiting for admission or for its zone: what a reset ends at once. -/
def pendingKind : Option (Nat × HostCommand) → Bool
  | some q => q.1 == 1 || q.1 == 2
  | none => false

theorem pendingKind_some {st : Nat} {c : HostCommand} : pendingKind (some (st, c)) = true ↔ st = 1 ∨ st = 2 := by
  simp [pendingKind]

/-- A context that is pending ends. -/
def State.endPending (s : State) (e : Nat × Ctx) : State :=
  s.when (decide ((s.ctx e.1).state = 1 ∨ (s.ctx e.1).state = 2)) (fun s => s.endCtx e.1 2 0 1)

theorem State.pendingKind_ctx (x : Nat) :
    pendingKind (kindAt s.sth.ctxs x) = decide ((s.ctx x).state = 1 ∨ (s.ctx x).state = 2) := by
  cases hkind : kindAt s.sth.ctxs x with
  | none =>
    rw [State.ctx, ctx_of_kindAt_none hkind]
    rfl
  | some q =>
    obtain ⟨st, c⟩ := q
    have hst := (ctx_of_kindAt hkind).1
    rw [Bool.eq_iff_iff, pendingKind_some, decide_eq_true_iff, State.ctx, hst]

theorem State.endPending_of_pending {e : Nat × Ctx} (h : pendingKind (kindAt s.sth.ctxs e.1) = true) :
    s.endPending e = s.endCtx e.1 2 0 1 := by
  rw [State.pendingKind_ctx] at h
  unfold State.endPending State.when
  rw [h, if_pos rfl]

theorem State.endPending_of_not {e : Nat × Ctx} (h : pendingKind (kindAt s.sth.ctxs e.1) = false) : s.endPending e = s := by
  rw [State.pendingKind_ctx] at h
  unfold State.endPending State.when
  rw [h, if_neg Bool.false_ne_true]

theorem State.endPending_kindAt (e : Nat × Ctx) (y : Nat) : kindAt (s.endPending e).sth.ctxs y =
    if y = e.1 ∧ pendingKind (kindAt s.sth.ctxs y) = true then none else kindAt s.sth.ctxs y := by
  cases hpending : pendingKind (kindAt s.sth.ctxs e.1) with
  | true =>
    rw [State.endPending_of_pending hpending, State.endCtx_kindAt]
    by_cases hy : y = e.1
    · rw [if_pos hy, if_pos ⟨hy, hy ▸ hpending⟩]
    · rw [if_neg hy, if_neg (fun h => hy h.1)]
  | false =>
    rw [State.endPending_of_not hpending, if_neg]
    rintro ⟨rfl, h⟩
    rw [hpending] at h
    cases h

theorem State.endPending_sorted {e : Nat × Ctx} (h : TabSorted s.sth.ctxs) : TabSorted (s.endPending e).sth.ctxs := by
  unfold State.endPending State.when
  split
  · exact State.endCtx_sorted h
  · exact h

theorem foldl_endPending_kindAt (l : List (Nat × Ctx)) (s : State) (y : Nat) : kindAt (l.foldl State.endPending s).sth.ctxs y =
    if y ∈ l.map (·.1) ∧ pendingKind (kindAt s.sth.ctxs y) = true then none else kindAt s.sth.ctxs y := by
  induction l generalizing s with
  | nil => rw [List.foldl_nil, if_neg (fun h => List.not_mem_nil h.1)]
  | cons e l ih =>
    rw [List.foldl_cons, ih, State.endPending_kindAt]
    simp only [List.map_cons, List.mem_cons]
    by_cases hy : y = e.1 ∧ pendingKind (kindAt s.sth.ctxs y) = true
    · simp only [if_pos hy, ite_self]
      exact (if_pos ⟨.inl hy.1, hy.2⟩).symm
    · simp only [if_neg hy]
      refine if_congr ⟨fun h => ⟨.inr h.1, h.2⟩, fun h => ⟨h.1.resolve_left (fun heq => hy ⟨heq, h.2⟩), h.2⟩⟩ rfl rfl

theorem foldl_endPending_sorted (l : List (Nat × Ctx)) {s : State} (h : TabSorted s.sth.ctxs) :
    TabSorted (l.foldl State.endPending s).sth.ctxs := by
  induction l generalizing s with
  | nil => exact h
  | cons e l ih => exact ih (State.endPending_sorted h)

/-- While a context of the controller runs, the contexts that end leave its reset pending. -/
theorem foldl_endPending_pend {k y st : Nat} {c : HostCommand} (hst : pendingKind (some (st, c)) = false) (hc : c.cntlid = k)
    (l : List (Nat × Ctx)) (s : State) (hother : kindAt s.sth.ctxs y = some (st, c))
    (hmine : ∀ e ∈ l, ∀ q, kindAt s.sth.ctxs e.1 = some q → q.2.cntlid = k) :
    (l.foldl State.endPending s).get (.STH_CTL_CFG_RST_PEND k) = s.get (.STH_CTL_CFG_RST_PEND k) := by
  induction l generalizing s with
  | nil => rfl
  | cons e l ih =>
    have hother' : kindAt (s.endPending e).sth.ctxs y = some (st, c) := by
      rw [State.endPending_kindAt, if_neg, hother]
      rintro ⟨-, h⟩
      rw [hother, hst] at h
      cases h
    have hmine' : ∀ d ∈ l, ∀ q, kindAt (s.endPending e).sth.ctxs d.1 = some q → q.2.cntlid = k := by
      intro d hd q hq
      rw [State.endPending_kindAt] at hq
      split at hq
      · cases hq
      · exact hmine d (List.mem_cons_of_mem _ hd) q hq
    rw [List.foldl_cons, ih _ hother' hmine']
    cases hpending : pendingKind (kindAt s.sth.ctxs e.1) with
    | false => rw [State.endPending_of_not hpending]
    | true =>
      rw [State.endPending_of_pending hpending]
      cases hkind : kindAt s.sth.ctxs e.1 with
      | none =>
        rw [hkind] at hpending
        cases hpending
      | some q =>
        have hcmd : (s.ctx e.1).cmd = q.2 := (ctx_of_kindAt hkind).2
        refine State.endCtx_pend_keeps (by rw [hcmd]; exact hmine e (List.mem_cons_self ..) q hkind) hother ?_ hc
        rintro rfl
        rw [hother, hst] at hpending
        cases hpending

theorem mem_seqInsert {e x : Nat × Ctx} {l : List (Nat × Ctx)} : x ∈ seqInsert e l ↔ x = e ∨ x ∈ l := by
  induction l with
  | nil => rw [seqInsert, List.mem_singleton, or_iff_left List.not_mem_nil]
  | cons d l ih =>
    unfold seqInsert
    split
    · rw [List.mem_cons, ih, List.mem_cons]
      tauto
    · rw [List.mem_cons]

theorem State.mem_bySeq {e : Nat × Ctx} : e ∈ s.bySeq ↔ e ∈ s.sth.ctxs := by
  unfold State.bySeq
  induction s.sth.ctxs with
  | nil => exact Iff.rfl
  | cons d l ih => rw [List.foldr_cons, mem_seqInsert, ih, List.mem_cons]

/-! ### The reset of a controller -/

/-- The controller off, its reset pending. -/
def State.resetting (s : State) (k : Nat) : State := (s.set (.STH_CTL_CFG_EN k) 0).set (.STH_CTL_CFG_RST_PEND k) 1

/-- The contexts of a controller, by their order. -/
def State.contextsOf (s : State) (k : Nat) : List (Nat × Ctx) := s.bySeq.filter (fun e => e.2.cmd.cntlid = k)

/-- The contexts of a controller ended as far as they may. -/
def State.cleared (s : State) (k : Nat) : State := (s.contextsOf k).foldl State.endPending (s.resetting k)

theorem State.resetController_eq (k : Nat) : s.resetController k =
    ((s.cleared k).resetDone k).irqFen ((s.cleared k).get (.STH_CTL_CFG_CORE k)) (.controller k) := rfl

theorem State.resetController_ctxs (k : Nat) : (s.resetController k).sth.ctxs = (s.cleared k).sth.ctxs := by
  rw [State.resetController_eq, State.irqFen_sth, State.resetDone_ctxs]

theorem State.resetController_pend (k : Nat) :
    (s.resetController k).get (.STH_CTL_CFG_RST_PEND k) = ((s.cleared k).resetDone k).get (.STH_CTL_CFG_RST_PEND k) := by
  rw [State.resetController_eq, State.irqFen_get]

theorem State.mem_contextsOf {k : Nat} {e : Nat × Ctx} : e ∈ s.contextsOf k ↔ e ∈ s.sth.ctxs ∧ e.2.cmd.cntlid = k := by
  rw [State.contextsOf, List.mem_filter, State.mem_bySeq, decide_eq_true_eq]

section sorted

variable {k : Nat}

/-- A context of the controller that waits is freed by its reset. -/
theorem State.resetController_frees {x : Nat} (hk : (s.ctx x).cmd.cntlid = k) (hst : (s.ctx x).state = 1 ∨ (s.ctx x).state = 2) :
    (s.resetController k).ctx x = default := by
  have hkind : kindAt s.sth.ctxs x = some ((s.ctx x).state, (s.ctx x).cmd) :=
    kindAt_of_state (by change (s.ctx x).state ≠ 0; omega)
  have hmem : x ∈ (s.contextsOf k).map (·.1) := by
    unfold kindAt at hkind
    cases hfind : tabFind s.sth.ctxs x with
    | none =>
      rw [hfind] at hkind
      cases hkind
    | some c =>
      have hcmd : c.cmd = (s.ctx x).cmd := by
        rw [hfind, Option.map_some, Option.some.injEq, Prod.mk.injEq] at hkind
        exact hkind.2
      exact List.mem_map.2 ⟨(x, c), State.mem_contextsOf.2 ⟨tabFind_mem hfind, by rw [hcmd]; exact hk⟩, rfl⟩
  refine ctx_of_kindAt_none ?_
  rw [State.resetController_ctxs, State.cleared, foldl_endPending_kindAt]
  exact if_pos ⟨hmem, (congrArg pendingKind hkind).trans (pendingKind_some.2 hst)⟩

/-- A reset whose contexts all waited is done at once. -/
theorem State.resetController_done (hsorted : TabSorted s.sth.ctxs)
    (hall : ∀ e ∈ s.sth.ctxs, e.2.cmd.cntlid = k → e.2.state = 1 ∨ e.2.state = 2) :
    (s.resetController k).get (.STH_CTL_CFG_RST_PEND k) = 0 := by
  rw [State.resetController_pend]
  refine State.resetDone_pend (fun e he hk => ?_)
  have hkind := kindAt_of_mem (foldl_endPending_sorted (s.contextsOf k) (s := s.resetting k) hsorted) he
  rw [foldl_endPending_kindAt] at hkind
  split at hkind
  · cases hkind
  next hno =>
    obtain ⟨d, hd, hkey, hst, hcmd⟩ := mem_of_kindAt hkind
    have hdk : d.2.cmd.cntlid = k := by rw [hcmd]; exact hk
    have hpending := hall d hd hdk
    refine hno ⟨List.mem_map.2 ⟨d, State.mem_contextsOf.2 ⟨hd, hdk⟩, hkey⟩, ?_⟩
    rw [hkind, pendingKind_some, ← hst]
    exact hpending

/-- A reset stays pending while a context of the controller runs. -/
theorem State.resetController_pending (hsorted : TabSorted s.sth.ctxs) {e : Nat × Ctx} (he : e ∈ s.sth.ctxs) (hk : e.2.cmd.cntlid = k)
    (hne1 : e.2.state ≠ 1) (hne2 : e.2.state ≠ 2) : (s.resetController k).get (.STH_CTL_CFG_RST_PEND k) = 1 := by
  have hkind : kindAt (s.resetting k).sth.ctxs e.1 = some (e.2.state, e.2.cmd) := kindAt_of_mem hsorted he
  have hnot : pendingKind (some (e.2.state, e.2.cmd)) = false := by
    rw [Bool.eq_false_iff, Ne, pendingKind_some]
    tauto
  have hkept : kindAt (s.cleared k).sth.ctxs e.1 = some (e.2.state, e.2.cmd) := by
    rw [State.cleared, foldl_endPending_kindAt, if_neg, hkind]
    rintro ⟨-, h⟩
    rw [hkind, hnot] at h
    cases h
  obtain ⟨d, hd, -, -, hcmd⟩ := mem_of_kindAt hkept
  rw [State.resetController_pend, State.resetDone_of_mem hd (by rw [hcmd]; exact hk), State.cleared,
    foldl_endPending_pend hnot hk _ _ hkind (fun a ha q hq => ?_)]
  · exact State.get_set_self _ _ _ (by simp)
  · obtain ⟨hmem, hak⟩ := State.mem_contextsOf.1 ha
    have hak' : kindAt (s.resetting k).sth.ctxs a.1 = some (a.2.state, a.2.cmd) := kindAt_of_mem hsorted hmem
    rw [hak', Option.some.injEq] at hq
    rw [← hq]
    exact hak

end sorted

/-! ### What a reset shows: EN off, and an interrupt to the controller's core -/

theorem State.set_en_zero {j k : Nat} (h : s.get (.STH_CTL_CFG_EN j) = 0 ∨ j = k) :
    (s.set (.STH_CTL_CFG_EN k) 0).get (.STH_CTL_CFG_EN j) = 0 := by
  by_cases hmod : j % 32 = k % 32
  · have hsame : Fld.STH_CTL_CFG_EN j = Fld.STH_CTL_CFG_EN k := by
      unfold Fld.STH_CTL_CFG_EN
      rw [hmod]
    rw [hsame]
    exact State.get_set_self _ _ _ (by simp)
  · rw [State.get_set_other _ _ (.inl (by dsimp only; omega))]
    rcases h with h | rfl
    · exact h
    · exact absurd rfl hmod

/-- What `State.endPending` leaves of the registers of Staithe's controllers. -/
theorem foldl_endPending_get {g : Fld} (h : ∀ (t : State) (x : Nat), (t.endCtx x 2 0 1).get g = t.get g) (l : List (Nat × Ctx)) (s :
    State) :
    (l.foldl State.endPending s).get g = s.get g := by
  induction l generalizing s with
  | nil => rfl
  | cons e l ih => exact (ih _).trans (State.when_get (h s e.1))

theorem State.endCtx_en (x k : Nat) : (s.endCtx x 2 0 1).get (.STH_CTL_CFG_EN k) = s.get (.STH_CTL_CFG_EN k) :=
  State.endCtx_get (apart_mod (n := 32) _ (by decide) (by simp) (by decide +kernel) k)

theorem State.endCtx_core (x k : Nat) : (s.endCtx x 2 0 1).get (.STH_CTL_CFG_CORE k) = s.get (.STH_CTL_CFG_CORE k) :=
  State.endCtx_get (apart_mod (n := 32) _ (by decide) (by simp) (by decide +kernel) k)

theorem foldl_endPending_fenIrq (l : List (Nat × Ctx)) (s : State) : (l.foldl State.endPending s).fenIrq = s.fenIrq := by
  induction l generalizing s with
  | nil => rfl
  | cons e l ih => exact (ih _).trans (State.when_keeps State.fenIrq State.endCtx_fenIrq)

theorem State.resetController_en {j k : Nat} (h : s.get (.STH_CTL_CFG_EN j) = 0 ∨ j = k) :
    (s.resetController k).get (.STH_CTL_CFG_EN j) = 0 := by
  rw [State.resetController_eq, State.irqFen_get,
    State.resetDone_get (apart_mod (n := 32) _ (by decide) (by simp) (by decide +kernel) j), State.cleared,
    foldl_endPending_get (fun t x => State.endCtx_en x j), State.resetting, State.get_set_other _ _ (by simp)]
  exact State.set_en_zero h

theorem State.cleared_core (j k : Nat) : (s.cleared k).get (.STH_CTL_CFG_CORE j) = s.get (.STH_CTL_CFG_CORE j) := by
  rw [State.cleared, foldl_endPending_get (fun t x => State.endCtx_core x j), State.resetting, State.get_set_other _ _ (by simp),
    State.get_set_other _ _ (by simp)]

theorem State.resetController_core (j k : Nat) : (s.resetController k).get (.STH_CTL_CFG_CORE j) = s.get (.STH_CTL_CFG_CORE j) := by
  rw [State.resetController_eq, State.irqFen_get,
    State.resetDone_get (apart_mod (n := 32) _ (by decide) (by simp) (by decide +kernel) j), State.cleared_core]

theorem State.irqFen_mem_of_mem {core : Nat} {x : FenIrq} {y : Nat × FenIrq} (h : y ∈ s.fenIrq) : y ∈ (s.irqFen core x).fenIrq := by
  unfold State.irqFen
  split
  · exact h
  · exact List.mem_append_left _ h

theorem State.resetController_irq_keeps {y : Nat × FenIrq} (k : Nat) (h : y ∈ s.fenIrq) : y ∈ (s.resetController k).fenIrq := by
  rw [State.resetController_eq]
  refine State.irqFen_mem_of_mem ?_
  rw [State.resetDone_fenIrq, State.cleared, foldl_endPending_fenIrq]
  exact h

theorem State.resetController_irq (k : Nat) : (s.get (.STH_CTL_CFG_CORE k), FenIrq.controller k) ∈ (s.resetController k).fenIrq := by
  rw [State.resetController_eq, State.cleared_core]
  exact State.irqFen_mem _ _

/-- Controllers that are off stay off over resets. -/
theorem foldl_resetController_en {j : Nat} (l : List Nat) (s : State) (h : s.get (.STH_CTL_CFG_EN j) = 0 ∨ j ∈ l) :
    (l.foldl State.resetController s).get (.STH_CTL_CFG_EN j) = 0 := by
  induction l generalizing s with
  | nil => exact h.resolve_right List.not_mem_nil
  | cons k l ih =>
    refine ih _ ?_
    rw [List.mem_cons] at h
    rcases h with h | rfl | h
    · exact .inl (State.resetController_en (.inl h))
    · exact .inl (State.resetController_en (.inr rfl))
    · exact .inr h

theorem foldl_resetController_irq_keeps {y : Nat × FenIrq} (l : List Nat) (s : State) (h : y ∈ s.fenIrq) :
    y ∈ (l.foldl State.resetController s).fenIrq := by
  induction l generalizing s with
  | nil => exact h
  | cons k l ih => exact ih _ (State.resetController_irq_keeps k h)

theorem foldl_resetController_irq {j : Nat} (l : List Nat) (s : State) (h : j ∈ l) :
    (s.get (.STH_CTL_CFG_CORE j), FenIrq.controller j) ∈ (l.foldl State.resetController s).fenIrq := by
  induction l generalizing s with
  | nil => cases h
  | cons k l ih =>
    rw [List.foldl_cons]
    rcases List.mem_cons.1 h with rfl | h
    · exact foldl_resetController_irq_keeps l _ (State.resetController_irq j)
    · rw [← State.resetController_core (s := s) j k]
      exact ih _ h

end Sys2Proof.Machine
end

section
set_option Elab.async false
/-! FATES AND CONTROLLER RESETS (12). Contexts that end leave records; a reset turns its controllers off, tells their cores and,
  of a function,
clears its configuration (R303, R304, R306, R308, R309, R311). -/

namespace Sys2Proof.Machine

variable {s : State}

/-! ### Records -/

theorem State.fateStatus_sth : s.fateStatus.sth = s.sth := rfl

/-- A record whose fate is unresolved takes the fate that is set. -/
def FateRecord.settled (fate reason : Nat) (r : FateRecord) : FateRecord :=
  if r.fate = 0xF then { r with fate := fate % 4, reason := reason % 256 } else r

theorem bit_mod (b : Bool) : b.toNat % 2 ^ 1 = b.toNat := Nat.mod_eq_of_lt (Bool.toNat_lt b)

theorem bit_ne_zero (b : Bool) : (b.toNat != 0) = b := by cases b <;> rfl

theorem State.sthStatus_quiesced :
    s.sthStatus.get .STH_STATUS_QUIESCED = (s.is .STH_CTRL_QUIESCE && s.sth.ctxs.length == 0).toNat := by
  unfold State.sthStatus
  dsimp only
  rw [State.setIf, State.get_set_self _ _ _ (by decide), State.is, State.get_set_other _ _ (by decide),
    State.get_set_other _ _ (by decide), State.get_set_other _ _ (by decide)]
  exact bit_mod _


theorem exec_sthCtxEnd {who : Who} {fate reason x : Nat} (hclock : s.gated 0x4000_0080 = false) : exec (.sthCtxEnd who fate reason x) s =
    .next (if (s.ctx x).state = 0 ∨ (!s.is (.STH_CTL_CFG_RST_PEND (s.ctx x).cmd.cntlid) ∧ !s.is .STH_CTRL_QUIESCE) then s.ack.cplErr who.coreOf
      else s.ack.endCtx x (if (s.ctx x).cmd.op.carriesData then (s.ctx x).dataFate 1 else (fate % 4, reason % 256)).1
        (if (s.ctx x).cmd.op.carriesData then (s.ctx x).dataFate 1 else (fate % 4, reason % 256)).2
        (if s.is (.STH_CTL_CFG_RST_PEND (s.ctx x).cmd.cntlid) then 1 else 4)) := by
  change execSthCtxEnd who fate reason x s = _
  unfold execSthCtxEnd
  dsimp only
  rw [State.access_of_clocked _ hclock]
  rfl

theorem State.is_iff_get {f : Fld} (h : f.width = 1) : s.is f = true ↔ s.get f = 1 := by
  have hlt := State.get_lt s f
  rw [h] at hlt
  rw [State.is, bne_iff_ne]
  omega

/-! ### Controller resets -/

/-- The functions whose configuration a reset of function `k` clears with its own. -/
def virtualOf (k : Nat) : List Nat := if k % 16 = 0 then (CtlReset.vfEnable (k / 16)).targets else []

theorem exec_controllerReset_function (k : Nat) : exec (.controllerReset (.functionLevel k)) s =
    .next (((virtualOf k).foldl State.resetController (s.resetController k)).resetConfig (fun j => j == k || decide (j ∈ virtualOf k))) := rfl

/-- What every controller reset leaves of EN and of the interrupts. -/
theorem State.resets_hold (why : CtlReset) : ∃ t, exec (.controllerReset why) s = .next t ∧ ∀ k ∈ why.targets,
    t.get (.STH_CTL_CFG_EN k) = 0 ∧ (s.get (.STH_CTL_CFG_CORE k), FenIrq.controller k) ∈ t.fenIrq := by
  have hall : ∀ k ∈ why.targets, (why.targets.foldl State.resetController s).get (.STH_CTL_CFG_EN k) = 0 ∧
      (s.get (.STH_CTL_CFG_CORE k), FenIrq.controller k) ∈ (why.targets.foldl State.resetController s).fenIrq :=
    fun k hk => ⟨foldl_resetController_en _ _ (.inr hk), foldl_resetController_irq _ _ hk⟩
  cases why with
  | functionLevel k =>
    refine ⟨_, exec_controllerReset_function k, fun j hj => ?_⟩
    obtain ⟨hen, hirq⟩ := hall j hj
    exact ⟨foldl_resetController_en _ _ (.inl hen), foldl_resetController_irq_keeps _ _ hirq⟩
  | vfEnable p => exact ⟨_, rfl, hall⟩
  | ccEnable k => exact ⟨_, rfl, hall⟩
  | subsystem => exact ⟨_, rfl, hall⟩

theorem State.resetConfig_cfg {f : Nat → Bool} {i : Nat} (h : f (i / 65536) = true) : (s.resetConfig f).sth.cfg.at i = 0 := by
  refine Tab.at_of_not_mem (fun hmem => ?_)
  obtain ⟨e, he, rfl⟩ := List.mem_map.1 hmem
  have hkeep := (List.mem_filter.1 he).2
  rw [h] at hkeep
  cases hkeep

theorem State.resetConfig_vfs {f : Nat → Bool} {p : Nat} (h : f (16 * p) = true) : (s.resetConfig f).sth.vfs.at p = 0 := by
  refine Tab.at_of_not_mem (fun hmem => ?_)
  obtain ⟨e, he, rfl⟩ := List.mem_map.1 hmem
  have hkeep := (List.mem_filter.1 he).2
  rw [h] at hkeep
  cases hkeep

/-- Settles O39: a reset ends the contexts that wait one after another, and each keeps what the others are. -/
theorem fatesAreRecorded : Obligations.FatesAreRecorded := by
  unfold Obligations.FatesAreRecorded
  refine ⟨fun s who fate reason x hclock hused hwhy hroom => ?_, fun s who fate reason x hclock hbad => ?_,
    fun s fate reason i r hclock hr => ?_, fun s k hclock => ?_, fun s hclock => ?_, fun s why => ?_, fun s k hsorted => ?_, fun s k => ?_,
    fun s set hclock => ?_, fun s i hlow hhigh hthresh hidle hnone => ?_⟩
  · refine completes_of_outFrame (execSthCtxEnd_frame (parts_in rfl) (fun _ hr => hr))
      (t := s.ack.endCtx x (if (s.ctx x).cmd.op.carriesData then (s.ctx x).dataFate 1 else (fate % 4, reason % 256)).1
        (if (s.ctx x).cmd.op.carriesData then (s.ctx x).dataFate 1 else (fate % 4, reason % 256)).2
        (if s.is (.STH_CTL_CFG_RST_PEND (s.ctx x).cmd.cntlid) then 1 else 4)) ?_
      (fun _ => ⟨State.endCtx_ctx_self _ _ _ _, ?_, State.endCtx_bus⟩)
    · rw [exec_sthCtxEnd hclock]
      refine congrArg Host.Outcome.next (if_neg ?_)
      rintro (h | ⟨hpend, hquiesce⟩)
      · exact hused h
      · rcases hwhy with h | h
        · rw [State.is_of_get h] at hpend
          cases hpend
        · rw [State.is_of_get h] at hquiesce
          cases hquiesce
    · rw [State.endCtx_fates (by exact hroom)]
      simp only [State.is_iff_get (f := .STH_CTL_CFG_RST_PEND _) rfl]
      cases (s.ctx x).cmd.op.carriesData <;> rfl
  · refine completes_of_outFrame (execSthCtxEnd_frame (parts_in rfl) (fun _ hr => hr)) (t := s.ack.cplErr who.coreOf) ?_
      (fun _ => ⟨State.cplErr_sth _, State.cplErr_err _, State.raise_latched_true (by decide +kernel)⟩)
    rw [exec_sthCtxEnd hclock]
    refine congrArg Host.Outcome.next (if_pos ?_)
    rcases hbad with h | ⟨hpend, hquiesce⟩
    · exact .inl h
    · rw [State.not_is_of_get hpend, State.not_is_of_get hquiesce]
      exact .inr ⟨rfl, rfl⟩
  · refine completes_of_outFrame (execSthFateSet_frame (parts_in rfl) (fun _ hr => hr))
      (t := (s.ack.updSth (fun h => { h with fates := h.fates.modify i (FateRecord.settled fate reason) })).fateStatus) ?_ (fun _ => ⟨?_,
        ?_, rfl⟩)
    · change execSthFateSet fate reason i s = _
      rw [execSthFateSet, State.access_of_clocked _ hclock]
      rfl
    · rw [State.fateStatus_sth, State.updSth_sth, State.ack_sth, List.getElem?_modify_eq, hr]
      rfl
    · rw [State.fateStatus_sth, State.updSth_sth, State.ack_sth, List.length_modify]
  · refine completes_of_outFrame (execSthFateClr_frame (parts_in rfl) (fun _ hr => hr))
      (t := (s.ack.updSth (fun h => { h with fates := h.fates.filter (fun r => r.cntlid ≠ k) })).fateStatus) ?_ (fun _ => ⟨rfl, rfl, rfl⟩)
    change execSthFateClr k s = _
    rw [execSthFateClr, State.access_of_clocked _ hclock]
  · refine completes_of_outFrame (execFateDataRead_frame (parts_in rfl) (fun _ hr => hr))
      (t := (s.ack.answer ((s.sth.fates.getD (s.get .STH_FATE_CUR_INDEX) {}).word 3)).inc .STH_FATE_CUR_INDEX) ?_
      (fun _ => ⟨rfl, State.inc_get_self (by decide)⟩)
    change execFateDataRead s = _
    rw [execFateDataRead, State.access_of_clocked _ hclock]
    rfl
  · obtain ⟨t, hexec, heffects⟩ := State.resets_hold (s := s) why
    exact completes_of_outFrame (execControllerReset_frame (parts_in rfl) (fun _ hr => hr)) hexec (fun _ => heffects)
  · have htab : TabSorted s.sth.ctxs := List.pairwise_map.1 hsorted
    exact completes_of_outFrame (c := .controllerReset (.ccEnable k)) (execControllerReset_frame (why := .ccEnable k) (s := s) (parts_in rfl) (fun _ hr => hr))
      (t := s.resetController k) rfl
      (fun _ => ⟨fun x hk hst => State.resetController_frees hk hst, State.resetController_done htab,
        fun ⟨e, he, hk, hne1, hne2⟩ => State.resetController_pending htab he hk hne1 hne2⟩)
  · refine completes_of_outFrame (c := .controllerReset (.functionLevel k)) (execControllerReset_frame (why := .functionLevel k) (s := s) (parts_in rfl) (fun _ hr => hr))
      (exec_controllerReset_function k)
      (fun _ => ⟨fun f hf => State.resetConfig_cfg ?_, fun hphysical => State.resetConfig_vfs ?_⟩)
    · rw [hf, beq_self_eq_true, Bool.true_or]
    · rw [show 16 * (k / 16) = k by omega, beq_self_eq_true, Bool.true_or]
  · refine completes_of_outFrame (execQuiesce_frame (parts_in rfl) (fun _ hr => hr)) (t := (s.ack.setIf .STH_CTRL_QUIESCE set).sthStatus) ?_
      (fun _ => ⟨?_, ?_, rfl⟩)
    · change execQuiesce set s = _
      rw [execQuiesce, State.access_of_clocked _ hclock]
    · rw [State.sthStatus_get (by decide +kernel), State.setIf, State.get_set_self _ _ _ (by decide)]
      exact bit_mod set
    · have hset : (s.ack.setIf .STH_CTRL_QUIESCE set).is .STH_CTRL_QUIESCE = set := by
        rw [State.is, State.setIf, State.get_set_self _ _ _ (by decide)]
        exact (congrArg (· != 0) (bit_mod set)).trans (bit_ne_zero set)
      rw [State.sthStatus_quiesced, hset]
      rfl
  · refine completes_of_outFrame (execIdleExpired_frame (parts_in rfl) (fun _ hr => hr)) (t := s.idleAt i) ?_
      (fun _ => ⟨State.idleAt_expired i, State.idleAt_irq i⟩)
    change execIdleExpired i s = _
    unfold execIdleExpired
    dsimp only
    rw [hnone, decide_eq_true hlow, decide_eq_true hhigh, decide_eq_true hidle, bne_iff_ne.2 hthresh]
    rfl

end Sys2Proof.Machine
end

section
set_option Elab.async false
/-! THE PORTS (12,
  21). Configuration requests are retried until CFG_RDY and served to the functions that are on; controller registers are read
and written behind them (R285, R286, R303, R476, R477, R478, R514). -/

namespace Sys2Proof.Machine

variable {s : State}

/-! ### What controller resets leave -/

/-- The controller registers and the answer of a port stay. -/
def State.PortKept (s t : State) : Prop := t.sth.regs = s.sth.regs ∧ t.sth.answer = s.sth.answer

theorem State.PortKept.of_sth {t : State} (h : t.sth = s.sth) : s.PortKept t := by
  unfold State.PortKept
  rw [h]
  exact ⟨rfl, rfl⟩

theorem State.PortKept.trans {s t u : State} (h : s.PortKept t) (h' : t.PortKept u) : s.PortKept u := ⟨h'.1.trans h.1, h'.2.trans h.2⟩

theorem State.addFate_port (r : FateRecord) : s.PortKept (s.addFate r) := by
  unfold State.addFate State.fateStatus
  dsimp only
  split <;> exact ⟨rfl, rfl⟩

theorem State.freeCtx_port (x : Nat) : s.PortKept (s.freeCtx x) := by
  obtain ⟨c, hc⟩ := (State.grantAppends_granted (s := s.removed x)).sth
  unfold State.PortKept
  rw [State.freeCtx_eq, State.sthStatus_sth, hc, State.removed, State.updSth_sth, State.releaseEntry_sth]
  exact ⟨rfl, rfl⟩

theorem State.resetDone_port (k : Nat) : s.PortKept (s.resetDone k) := by
  unfold State.resetDone
  split <;> exact ⟨rfl, rfl⟩

theorem State.endCtx_port (x fate reason event : Nat) : s.PortKept (s.endCtx x fate reason event) :=
  ((State.addFate_port _).trans (State.freeCtx_port x)).trans (State.resetDone_port _)

theorem foldl_endPending_port (l : List (Nat × Ctx)) (s : State) : s.PortKept (l.foldl State.endPending s) := by
  induction l generalizing s with
  | nil => exact ⟨rfl, rfl⟩
  | cons e l ih =>
    refine State.PortKept.trans (t := s.endPending e) ?_ (ih _)
    unfold State.endPending State.when
    split
    · exact State.endCtx_port _ _ _ _
    · exact ⟨rfl, rfl⟩

theorem State.resetController_port (k : Nat) : s.PortKept (s.resetController k) := by
  rw [State.resetController_eq]
  exact ((foldl_endPending_port _ (s.resetting k)).trans (State.resetDone_port k)).trans (State.PortKept.of_sth (State.irqFen_sth _ _ _))

theorem foldl_resetController_port (l : List Nat) (s : State) : s.PortKept (l.foldl State.resetController s) := by
  induction l generalizing s with
  | nil => exact ⟨rfl, rfl⟩
  | cons k l ih => exact (State.resetController_port k).trans (ih _)

/-- A reset with no context in use is done at once, and leaves the pending bits of the others. -/
theorem State.resetController_idle {j k : Nat} (hnone : s.sth.ctxs = []) (h : s.get (.STH_CTL_CFG_RST_PEND j) = 0 ∨ j = k) :
    (s.resetController k).sth.ctxs = [] ∧ (s.resetController k).get (.STH_CTL_CFG_RST_PEND j) = 0 := by
  have hmine : s.contextsOf k = [] := by
    rw [State.contextsOf, State.bySeq, hnone]
    rfl
  have hcleared : s.cleared k = s.resetting k := by
    rw [State.cleared, hmine]
    rfl
  have hctxs : (s.resetController k).sth.ctxs = [] := by
    rw [State.resetController_ctxs, hcleared]
    exact hnone
  refine ⟨hctxs, ?_⟩
  have hself := State.resetController_done (k := k) (s := s) (by rw [hnone]; exact List.Pairwise.nil)
    (fun e he => absurd (hnone ▸ he) List.not_mem_nil)
  by_cases hmod : j % 32 = k % 32
  · have hsame : Fld.STH_CTL_CFG_RST_PEND j = Fld.STH_CTL_CFG_RST_PEND k := by
      unfold Fld.STH_CTL_CFG_RST_PEND
      rw [hmod]
    rw [hsame]
    exact hself
  · have hj : s.get (.STH_CTL_CFG_RST_PEND j) = 0 := h.resolve_right (fun heq => hmod (by rw [heq]))
    have hset : (s.resetting k).get (.STH_CTL_CFG_RST_PEND j) = 0 := by
      rw [State.resetting, State.get_set_other _ _ (.inl (by dsimp only; omega)),
        State.get_set_other _ _ (.inl (by dsimp only; omega)), hj]
    rw [State.resetController_eq, State.irqFen_get, hcleared]
    unfold State.resetDone
    split
    · exact ((State.updSth_get _ _ _).trans (State.get_set_other _ _ (.inl (by dsimp only; omega)))).trans hset
    · exact hset

theorem foldl_resetController_idle {j : Nat} (l : List Nat) (s : State) (hnone : s.sth.ctxs = [])
    (h : s.get (.STH_CTL_CFG_RST_PEND j) = 0 ∨ j ∈ l) : (l.foldl State.resetController s).get (.STH_CTL_CFG_RST_PEND j) = 0 := by
  induction l generalizing s with
  | nil => exact h.resolve_right List.not_mem_nil
  | cons k l ih =>
    by_cases hjk : j = k
    · obtain ⟨hctxs, hpend⟩ := State.resetController_idle hnone (.inr hjk)
      exact ih _ hctxs (.inl hpend)
    · rcases h with h | h
      · obtain ⟨hctxs, hpend⟩ := State.resetController_idle (k := k) hnone (.inl h)
        exact ih _ hctxs (.inl hpend)
      · exact ih _ (State.resetController_idle (j := k) hnone (.inr rfl)).1 (.inr ((List.mem_cons.1 h).resolve_left hjk))

/-! ### PERST# -/

/-- The functions of a port. -/
abbrev functionsOf (port : Nat) : List Nat := (List.range 16).map (fun j => 16 * port + j)

theorem mem_functionsOf {port j : Nat} (h : j < 16) : 16 * port + j ∈ functionsOf port := List.mem_map.2 ⟨j, List.mem_range.2 h, rfl⟩

/-- A port in reset, before its functions are. -/
def State.asserted (s : State) (port : Nat) : State := (s.setIf (perstBit port) false).set (linkBit port) 0

theorem exec_perst_asserted (port : Nat) : exec (.perst port true) s =
    .next (((functionsOf port).foldl State.resetController (s.asserted port)).resetConfig (· / 16 == port)) := rfl

theorem State.get_perst_of_link (port v : Nat) : (s.set (linkBit port) v).get (perstBit port) = s.get (perstBit port) := by
  unfold linkBit perstBit
  split <;> exact State.get_set_other _ _ (by decide)

theorem foldl_resetController_get {g : Fld} (h : ∀ (t : State) (k : Nat), (t.resetController k).get g = t.get g) (l : List Nat) (s :
    State) :
    (l.foldl State.resetController s).get g = s.get g := by
  induction l generalizing s with
  | nil => rfl
  | cons k l ih => exact (ih _).trans (h s k)

theorem State.resetController_perst (port k : Nat) : (s.resetController k).get (perstBit port) = s.get (perstBit port) :=
  (State.resetController_frame (fun _ hp => hp) (fun _ hr => hr) (Frame.refl _ _ s)).get (by unfold perstBit; split <;> decide +kernel)

theorem State.resetController_link (port k : Nat) : (s.resetController k).get (linkBit port) = s.get (linkBit port) :=
  (State.resetController_frame (fun _ hp => hp) (fun _ hr => hr) (Frame.refl _ _ s)).get (by unfold linkBit; split <;> decide +kernel)

theorem State.set_perst_get (port : Nat) (b : Bool) : (s.setIf (perstBit port) b).get (perstBit port) = b.toNat := by
  unfold State.setIf perstBit
  split <;> rw [State.get_set_self _ _ _ (by decide)] <;> exact bit_mod b

theorem State.set_link_get (port : Nat) (b : Bool) : (s.set (linkBit port) b.toNat).get (linkBit port) = b.toNat := by
  unfold linkBit
  split <;> rw [State.get_set_self _ _ _ (by decide)] <;> exact bit_mod b

/-! ### Requests behind a port that is up -/

theorem State.is_link {port : Nat} (h : s.get (linkBit port) = 1) : s.is (linkBit port) = true := State.is_of_get h

section request

variable {port fn : Nat} {field : ConfigField} {value : Option Nat} (hclock : s.domainOn (59 + (16 * port + fn) / 16) = true)
  (hlink : s.get (linkBit port) = 1)
include hclock hlink

theorem exec_configurationRequest : exec (.configurationRequest port fn field value) s = .next (
    if !s.is .STH_BOOT_CFG_RDY then s.hostAnswer .retry
    else if !s.fnOn (16 * port + fn) then s.hostAnswer .unsupported
    else match value with
      | none => (s.hostAnswer .served).answer (s.configRead (16 * port + fn) field)
      | some v => (s.hostAnswer .served).configWrite (16 * port + fn) field v) := by
  change execConfigurationRequest port fn field value s = _
  unfold execConfigurationRequest
  dsimp only
  rw [State.onPort_of_clocked _ hclock, State.is_of_get hlink]
  rfl

theorem exec_configurationRequest_served (hready : s.get .STH_BOOT_CFG_RDY = 1) (hon : s.fnOn (16 * port + fn) = true) :
    exec (.configurationRequest port fn field value) s = .next (match value with
      | none => (s.hostAnswer .served).answer (s.configRead (16 * port + fn) field)
      | some v => (s.hostAnswer .served).configWrite (16 * port + fn) field v) := by
  rw [exec_configurationRequest hclock hlink, State.is_of_get hready, hon]
  rfl

end request

section register

variable {k offset : Nat} {value : Option Nat} (hclock : s.domainOn (59 + k / 16) = true) (hlink : s.get (linkBit (k / 16)) = 1)
include hclock hlink

theorem exec_controllerRegisterWrite : exec (.controllerRegisterWrite k offset value) s = .next (
    if !s.is .STH_BOOT_CFG_RDY || !s.fnOn k then s.hostAnswer (if value.isSome then .dropped else .unsupported)
    else s.nvmeAccess k offset value) := by
  change execControllerRegisterWrite k offset value s = _
  unfold execControllerRegisterWrite
  rw [State.onPort_of_clocked _ hclock, State.is_of_get hlink]
  rfl

theorem exec_controllerRegisterWrite_served (hready : s.get .STH_BOOT_CFG_RDY = 1) (hon : s.fnOn k = true) :
    exec (.controllerRegisterWrite k offset value) s = .next (s.nvmeAccess k offset value) := by
  rw [exec_controllerRegisterWrite hclock hlink, State.is_of_get hready, hon]
  rfl

theorem exec_controllerRegisterWrite_refused (hoff : s.get .STH_BOOT_CFG_RDY = 0 ∨ s.fnOn k = false) :
    exec (.controllerRegisterWrite k offset value) s = .next (s.hostAnswer (if value.isSome then .dropped else .unsupported)) := by
  rw [exec_controllerRegisterWrite hclock hlink]
  rcases hoff with h | h
  · rw [State.not_is_of_get h]
    rfl
  · rw [h, Bool.not_false, Bool.or_true]
    rfl

end register

/-- The virtual functions of a port reset, where their number is set from some to none. -/
def State.sriov (s : State) (port v : Nat) : State :=
  s.when (v == 0 && s.sth.vfs.at port != 0) (fun s => (CtlReset.vfEnable port).targets.foldl State.resetController s)

theorem State.sriov_port (port v : Nat) : s.PortKept (s.sriov port v) := by
  unfold State.sriov State.when
  split
  · exact foldl_resetController_port _ s
  · exact ⟨rfl, rfl⟩

theorem State.configWrite_vfs (port v : Nat) :
    s.configWrite (16 * port + 0) .vfs v = (s.sriov port v).updSth (fun h => { h with vfs := h.vfs.put port (min v 15) }) := by
  unfold State.configWrite
  dsimp only
  rw [if_neg (not_not_intro (by omega)), show (16 * port + 0) / 16 = port by omega]
  rfl

/-- A register of a controller written, the access served. -/
def State.nvmeStored (s : State) (k offset v : Nat) : State :=
  (s.hostAnswer .served).updSth (fun h => { h with regs := h.regs.put (queueKey k offset) (v % 2 ^ 32) })

theorem State.nvmeStored_reg (k offset v : Nat) : (s.nvmeStored k offset v).sth.regs.at (queueKey k offset) = v % 2 ^ 32 := by
  unfold State.nvmeStored
  rw [State.updSth_sth, Tab.at_put_self]

theorem State.nvmeStored_get (k offset v : Nat) (g : Fld) : (s.nvmeStored k offset v).get g = s.get g := rfl

theorem State.nvmeAccess_store {k offset v : Nat} (hlow : offset < 0x1000) (hplain : offset ∉ [0, 4, 0x14, 0x1C]) :
    s.nvmeAccess k offset (some v) = s.nvmeStored k offset v := by
  simp only [List.mem_cons, List.not_mem_nil, or_false, not_or] at hplain
  obtain ⟨h0, h4, h14, h1c⟩ := hplain
  unfold State.nvmeAccess
  dsimp only
  rw [if_neg (by omega), if_neg (by omega), if_pos h14]
  rfl

theorem State.nvmeAccess_enable {k v : Nat} : s.nvmeAccess k 0x14 (some v) =
    if v % 2 = 1 then (s.nvmeStored k 0x14 v).set (.STH_CTL_CFG_EN k) 1
    else (s.nvmeStored k 0x14 v).when (s.is (.STH_CTL_CFG_EN k)) (fun s => s.resetController k) := by
  unfold State.nvmeAccess
  dsimp only
  rw [if_neg (by omega), if_neg (by omega), if_neg (not_not_intro rfl)]
  rfl

theorem State.nvmeAccess_ring {k offset v : Nat} (hrange : 0x1000 ≤ offset ∧ offset < 0x4000) (hsub : offset % 8 = 0) :
    s.nvmeAccess k offset (some v) = (s.hostAnswer .served).sqRing k ((offset - 0x1000) / 8) (v % 65536) := by
  unfold State.nvmeAccess
  dsimp only
  rw [if_pos hrange, if_pos hsub]

theorem State.nvmeAccess_load {k offset : Nat} (hrange : ¬ (0x1000 ≤ offset ∧ offset < 0x4000)) :
    s.nvmeAccess k offset none = (s.hostAnswer .served).answer ((s.hostAnswer .served).nvmeRead k offset) := by
  unfold State.nvmeAccess
  dsimp only
  rw [if_neg hrange]

theorem State.hostAnswer_nvmeRead (a : HostAnswer) (k offset : Nat) : (s.hostAnswer a).nvmeRead k offset = s.nvmeRead k offset := rfl

/-- Settles O40: resets behind a port leave its registers and the answer, and an access of a function that is off or not ready is refused. -/
theorem portsServeTheHost : Obligations.PortsServeTheHost := by
  unfold Obligations.PortsServeTheHost
  refine ⟨fun s hclock => ?_, fun s port hport => ?_, fun s port => ?_, fun s port hperst hpowered => ?_, fun s port => ?_,
    fun s port fn field value hfn hclock hlink hready => ?_, fun s port fn field value hfn hclock hlink hready hoff => ?_,
    fun s port fn field hfn hclock hlink hready hon => ?_, fun s port fn v hfn hclock hlink hready hon => ?_,
    fun s port fn v hfn hclock hlink hready => ?_, fun s k v hclock hlink hready hon hbit => ?_,
      fun s k v hclock hlink hready hon hbit hen => ?_,
    fun s k offset v hclock hlink hready hon hplain hlow => ?_, fun s k offset v hclock hlink hready hon hrange hsub hring => ?_,
    fun s k offset hclock hlink hready hon hrange => ?_, fun s k offset v hclock hlink hoff => ?_, fun s k offset hclock hlink hoff => ?_⟩
  · refine completes_of_outFrame (execCfgRdy_frame (parts_in rfl) (fun _ hr => hr)) (t := s.ack.set .STH_BOOT_CFG_RDY 1) ?_
      (fun _ => ⟨State.get_set_self _ _ _ (by decide), rfl⟩)
    change execCfgRdy s = _
    rw [execCfgRdy, State.access_of_clocked _ hclock]
  · refine completes_of_outFrame (c := .perst port true) (execPerst_frame (port := port) (asserted := true) (parts_in rfl) (fun _ hr => hr))
      (exec_perst_asserted port) (fun _ => ⟨?_, ?_, fun j hj => ⟨?_, fun hnone => ?_⟩, State.resetConfig_vfs ?_⟩)
    · refine (foldl_resetController_get (fun _ k => State.resetController_perst port k) _ _).trans ?_
      rw [State.asserted, State.get_perst_of_link]
      exact State.set_perst_get port false
    · exact (foldl_resetController_get (fun _ k => State.resetController_link port k) _ _).trans (State.set_link_get port false)
    · exact foldl_resetController_en _ _ (.inr (mem_functionsOf hj))
    · exact foldl_resetController_idle _ _ hnone (.inr (mem_functionsOf hj))
    · exact beq_iff_eq.2 (by omega)
  · exact completes_of_outFrame (c := .perst port false) (execPerst_frame (port := port) (asserted := false) (parts_in rfl) (fun _ hr => hr))
      (t := s.setIf (perstBit port) true) rfl (fun _ => ⟨State.set_perst_get port true, rfl⟩)
  · refine completes_of_outFrame (execLinkUp_frame (fun _ hr => hr)) (t := s.set (linkBit port) 1) ?_ (fun _ => State.set_link_get port true)
    change execLinkUp port s = _
    rw [execLinkUp, State.is_of_get hperst, hpowered]
    rfl
  · refine completes_of_outFrame (execSthLinkDown_frame (parts_in rfl) (fun _ hr => hr)) (t := (s.set (linkBit port) 0).raise 0x0803 port) rfl
      (fun _ => ⟨?_, State.raise_latched_true (by decide +kernel)⟩)
    rw [State.raise_get (by unfold linkBit; split <;> decide +kernel)]
    exact State.set_link_get port false
  · refine completes_of_outFrame (execConfigurationRequest_frame (parts_in rfl) (fun _ hr => hr)) (t := s.hostAnswer .retry) ?_
      (fun _ => ⟨rfl, rfl, rfl, rfl⟩)
    rw [exec_configurationRequest hclock hlink, State.not_is_of_get hready]
    rfl
  · refine completes_of_outFrame (execConfigurationRequest_frame (parts_in rfl) (fun _ hr => hr)) (t := s.hostAnswer .unsupported) ?_
      (fun _ => ⟨rfl, rfl, rfl, rfl⟩)
    rw [exec_configurationRequest hclock hlink, State.is_of_get hready, hoff]
    rfl
  · exact completes_of_outFrame (c := .configurationRequest port fn field none)
      (execConfigurationRequest_frame (port := port) (fn := fn) (field := field) (value := none) (parts_in rfl) (fun _ hr => hr))
      (t := (s.hostAnswer .served).answer (s.configRead (16 * port + fn) field)) (exec_configurationRequest_served hclock hlink hready hon)
      (fun _ => ⟨rfl, rfl, rfl⟩)
  · refine completes_of_outFrame (c := .configurationRequest port fn .bar0 (some v))
      (execConfigurationRequest_frame (port := port) (fn := fn) (field := .bar0) (value := some v) (parts_in rfl) (fun _ hr => hr))
      (t := (s.hostAnswer .served).configWrite (16 * port + fn) .bar0 v) (exec_configurationRequest_served hclock hlink hready hon)
      (fun _ => ⟨rfl, ?_, rfl⟩)
    exact Tab.at_put_self (α := Nat) _ _ _
  · subst hfn
    obtain ⟨hregs, hanswer⟩ := State.sriov_port (s := s.hostAnswer .served) port v
    refine completes_of_outFrame (c := .configurationRequest port 0 .vfs (some v))
      (execConfigurationRequest_frame (port := port) (fn := 0) (field := .vfs) (value := some v) (parts_in rfl) (fun _ hr => hr))
      (t := ((s.hostAnswer .served).sriov port v).updSth (fun h => { h with vfs := h.vfs.put port (min v 15) })) ?_
      (fun _ => ⟨hanswer, ?_, fun hzero hsome j hj => ?_⟩)
    · rw [exec_configurationRequest_served hclock hlink hready (decide_eq_true (by omega))]
      exact congrArg Host.Outcome.next (State.configWrite_vfs port v)
    · rw [State.updSth_sth, Tab.at_put_self]
    · rw [State.updSth_get]
      unfold State.sriov State.when
      rw [hzero, beq_self_eq_true, show (s.hostAnswer .served).sth.vfs.at port = s.sth.vfs.at port from rfl, bne_iff_ne.2 hsome,
        Bool.and_self, if_pos rfl]
      exact foldl_resetController_en _ _ (.inr (List.mem_map.2 ⟨j, List.mem_range.2 hj, rfl⟩))
  · refine completes_of_outFrame (execControllerRegisterWrite_frame (parts_in rfl) (fun _ hr => hr))
      (t := (s.nvmeStored k 0x14 v).set (.STH_CTL_CFG_EN k) 1) ?_
      (fun _ => ⟨State.nvmeStored_reg k 0x14 v, rfl, State.get_set_self _ _ _ (by simp)⟩)
    rw [exec_controllerRegisterWrite_served hclock hlink hready hon, State.nvmeAccess_enable, if_pos hbit]
  · obtain ⟨hregs, hanswer⟩ := State.resetController_port (s := s.nvmeStored k 0x14 v) k
    refine completes_of_outFrame (execControllerRegisterWrite_frame (parts_in rfl) (fun _ hr => hr))
      (t := (s.nvmeStored k 0x14 v).resetController k) ?_
      (fun _ => ⟨?_, hanswer, State.resetController_en (.inr rfl), State.resetController_irq k⟩)
    · rw [exec_controllerRegisterWrite_served hclock hlink hready hon, State.nvmeAccess_enable, if_neg (by omega), State.is_of_get hen]
      rfl
    · rw [hregs]
      exact State.nvmeStored_reg k 0x14 v
  · refine completes_of_outFrame (execControllerRegisterWrite_frame (parts_in rfl) (fun _ hr => hr)) (t := s.nvmeStored k offset v) ?_
      (fun _ => ⟨State.nvmeStored_reg k offset v, rfl, rfl⟩)
    rw [exec_controllerRegisterWrite_served hclock hlink hready hon, State.nvmeAccess_store hlow hplain]
  · refine completes_of_outFrame (execControllerRegisterWrite_frame (parts_in rfl) (fun _ hr => hr))
      (t := (s.hostAnswer .served).notIdle.updSth (fun h => { h with
        sqs := h.sqs.upd (queueKey k ((offset - 0x1000) / 8)) (fun x => { x with tail := v % 65536 }) })) ?_
      (fun _ => ⟨?_, rfl, (State.updSth_get _ _ _).trans State.notIdle_idle⟩)
    · rw [exec_controllerRegisterWrite_served hclock hlink hready hon, State.nvmeAccess_ring hrange hsub, State.sqRing,
      show (s.hostAnswer .served).rings k ((offset - 0x1000) / 8) = true from hring]
      rfl
    · rw [State.updSth_sth, Tab.at_upd_self]
  · refine completes_of_outFrame (execControllerRegisterWrite_frame (parts_in rfl) (fun _ hr => hr))
      (t := (s.hostAnswer .served).answer (s.nvmeRead k offset)) ?_ (fun _ => ⟨rfl, rfl, rfl⟩)
    rw [exec_controllerRegisterWrite_served hclock hlink hready hon, State.nvmeAccess_load hrange, State.hostAnswer_nvmeRead]
  · exact completes_of_outFrame (execControllerRegisterWrite_frame (parts_in rfl) (fun _ hr => hr))
      (exec_controllerRegisterWrite_refused hclock hlink hoff) (fun _ => ⟨rfl, rfl, rfl⟩)
  · exact completes_of_outFrame (execControllerRegisterWrite_frame (parts_in rfl) (fun _ hr => hr))
      (exec_controllerRegisterWrite_refused hclock hlink hoff) (fun _ => ⟨rfl, rfl⟩)

end Sys2Proof.Machine
end

section
set_option Elab.async false
/-! FENCES AND CANCELS (11). A descriptor that ends outside a batch leaves the table and posts its own record; one of a batch waits in it
(R142, R269, R270, R272, R274, R279, R280). -/

namespace Sys2Proof.Machine

variable {s : State}

/-! ### A record in its ring -/

theorem State.dramStore_pi (a : Nat) (bs : List Byte) (k : Nat) : (s.dramStore a bs).2.get (.MWC_PI_PI k) = s.get (.MWC_PI_PI k) :=
  (State.dramStore_frame (fun _ hp => hp) (fun _ hr => hr) (Frame.refl _ _ s)).get
    (apart_mod (n := 4) _ (by decide) (by simp) (by decide +kernel) k)

theorem State.dramStore_slots (a : Nat) (bs : List Byte) (k : Nat) : (s.dramStore a bs).2.ringSlots k = s.ringSlots k := by
  unfold State.ringSlots
  rw [(State.dramStore_frame (fun _ hp => hp) (fun _ hr => hr) (Frame.refl _ _ s)).get (apart_mod (n := 4) _ (by decide) (by simp) (by decide +kernel) k)]

theorem State.ringIrq_get (k : Nat) (g : Fld) : (s.ringIrq k).get g = s.get g := State.when_get (State.irqFen_get _ _ _ _)

theorem State.ringPut_pi (k : Nat) (bs : List Byte) (irq : Bool) :
    (s.ringPut k bs irq).get (.MWC_PI_PI k) = (s.get (.MWC_PI_PI k) + 1) % s.ringSlots k % 2 ^ 12 := by
  unfold State.ringPut
  extract_lets pi pass s1 next s2
  have hslots : s1.ringSlots k = s.ringSlots k := State.dramStore_slots _ _ _
  have hnext : next = (s.get (.MWC_PI_PI k) + 1) % s.ringSlots k := by rw [← hslots]
  clear_value s1 next
  have hset : s2.get (.MWC_PI_PI k) = (s1.set (.MWC_PI_PI k) next).get (.MWC_PI_PI k) := State.when_get (State.get_set_other _ _ (by simp))
  refine (State.when_get (State.ringIrq_get k _)).trans (hset.trans ?_)
  rw [State.get_set_self _ _ _ (by simp), hnext]

/-- The record that is due has its place in the ring. -/
theorem State.place_pi {k : Nat} (hspill : s.get (.MWC_STATUS_SPILL_CNT k) = 0) (hroom : s.ringRoom k = true) (bs : List Byte) (irq :
    Bool) :
    (s.place k bs irq).get (.MWC_PI_PI k) = (s.get (.MWC_PI_PI k) + 1) % s.ringSlots k % 2 ^ 12 := by
  rw [State.place, if_pos ⟨hspill, hroom⟩, State.ringPut_pi]

theorem State.place_descs (k : Nat) (bs : List Byte) (irq : Bool) : (s.place k bs irq).mq.descs = s.mq.descs := by
  unfold State.place
  split
  · rw [State.ringPut_mq]
  · unfold State.spillPut
    dsimp only
    refine (State.when_keeps (fun t => t.mq.descs) ?_).trans ?_
    · rw [State.ringIrq_mq, State.set_mq]
    · change (State.dramStore _ _ _).2.mq.descs = _
      rw [State.dramStore_mq]
      rfl

theorem State.setCtrl_pi (q slot dstate k : Nat) : (s.setCtrl q slot dstate).get (.MWC_PI_PI k) = s.get (.MWC_PI_PI k) :=
  State.dramStore_pi _ _ _

/-! ### A descriptor that ends alone -/

theorem State.complete_of_alone {d : Mwd} (hbatch : d.batch = 0) (e : Ending) : s.complete d e = ((s.letGo d e).ownRecord d e).mwqSync := by
  unfold State.complete
  dsimp only
  rw [if_neg (fun h : d.batch ≠ 0 ∧ e.status = 0 => h.1 hbatch), hbatch]
  rfl

theorem State.complete_descs {d : Mwd} (hbatch : d.batch = 0) (e : Ending) :
    (s.complete d e).mq.descs = s.mq.descs.filter (fun x => x.id ≠ d.id) := by
  rw [State.complete_of_alone hbatch, State.mwqSync_mq, State.ownRecord]
  change List.filter _ (State.setCtrl _ _ _ _).mq.descs = _
  rw [State.setCtrl_mq, State.place_descs, State.letGo_mq]

theorem State.complete_pi {d : Mwd} (hbatch : d.batch = 0) (e : Ending) (hspill : s.get (.MWC_STATUS_SPILL_CNT d.sec) = 0)
    (hroom : s.ringRoom d.sec = true) :
    (s.complete d e).get (.MWC_PI_PI d.sec) = (s.get (.MWC_PI_PI d.sec) + 1) % s.ringSlots d.sec % 2 ^ 12 := by
  have hgo {f : Nat → Fld} (hf : ∀ k, f (k % 4) = f k) (h : (List.range 4).all (fun i => ([.arr (.SLU_STG_STATUS_ACTIVE 0) 0x4 8,
      .arr (.SLU_STG_STATUS_DIR 0) 0x4 8, .arr (.SLU_STG_STATUS_RESV 0) 0x4 8, .arr (.SLU_STG_STATUS_READY 0) 0x4 8,
        .fld .SLU_STATUS_LED_FREE,
      .arr (.SLU_SEC_FREE_FREE 0) 0x4 4, .arr (.SLU_SEC_RUN_RUN 0) 0x4 4, .arr (.SLU_CRED_USED_USED 0) 0x4 32] : List Regs).all
        (fun r => r.apartB (f i))) = true) (k : Nat) : (s.letGo d e).get (f k) = s.get (f k) :=
    State.letGo_get (apart_mod (n := 4) f (by decide) hf h k)
  have hslots : (s.letGo d e).ringSlots d.sec = s.ringSlots d.sec := by
    unfold State.ringSlots
    rw [hgo (f := .MWC_CFG_LOG2N) (by simp) (by decide +kernel)]
  have hroom' : (s.letGo d e).ringRoom d.sec = true := by
    unfold State.ringRoom State.is at hroom ⊢
    rw [hslots, hgo (f := .MWC_CFG_EN) (by simp) (by decide +kernel), hgo (f := .MWC_PI_PI) (by simp) (by decide +kernel),
      hgo (f := .MWC_CI_CI) (by simp) (by decide +kernel)]
    exact hroom
  have hspill' : (s.letGo d e).get (.MWC_STATUS_SPILL_CNT d.sec) = 0 := by
    rw [hgo (f := .MWC_STATUS_SPILL_CNT) (by simp) (by decide +kernel), hspill]
  rw [State.complete_of_alone hbatch, State.mwqSync_get (apart_mod (n := 4) _ (by decide) (by simp) (by decide +kernel) _),
    State.ownRecord]
  refine (State.setCtrl_pi _ _ _ _).trans ?_
  rw [State.place_pi hspill' hroom', hslots, hgo (f := .MWC_PI_PI) (by simp) (by decide +kernel)]

theorem State.completeIdle_bus (d : Mwd) (status : Nat) : (s.completeIdle d status).bus = s.bus :=
  (State.completeIdle_frame (fun _ hp => hp) regsIn_all (Frame.refl _ _ s)).same .bus (by decide)

/-! ### A descriptor that ends in its batch -/

/-- A descriptor that waits in its batch. -/
abbrev Mwd.settled (d : Mwd) : Mwd := { d with dstate := 3, stream := none, deferred := 0 }

theorem State.batchDone_of_open {b : Nat} (h :
    (s.mq.batches.at b).closed = false ∨ (s.mq.batches.at b).ended ≠ (s.mq.batches.at b).members) :
    s.batchDone b = s := by
  unfold State.batchDone
  refine if_neg (fun hdone => ?_)
  rcases h with h | h
  · rw [h] at hdone
    exact absurd hdone.1 Bool.false_ne_true
  · exact h hdone.2.1

/-- A descriptor settled in its batch, before the batch is looked at. -/
def State.settledMwd (s : State) (d : Mwd) (e : Ending) : State :=
  (((s.letGo d e).setCtrl d.queue d.slot 3).updMwd { d with dstate := 3, stream := none, deferred := e.detail }).updMq
    (fun m => { m with batches := m.batches.upd d.batch (fun x => { x with ended := x.ended + 1 }) })

theorem State.settledMwd_mq (d : Mwd) (e : Ending) : (s.settledMwd d e).mq = { s.mq with
    descs := s.mq.descs.map (fun x => if x.id = d.id then { d with dstate := 3, stream := none, deferred := e.detail } else x),
    batches := s.mq.batches.upd d.batch (fun x => { x with ended := x.ended + 1 }) } := by
  unfold State.settledMwd State.updMwd State.updMq
  dsimp only
  rw [State.setCtrl_mq, State.letGo_mq]

theorem State.complete_of_batch {d : Mwd} {e : Ending} (hbatch : d.batch ≠ 0) (hgood : e.status = 0)
    (hopen : (s.mq.batches.at d.batch).closed = false ∨ (s.mq.batches.at d.batch).ended + 1 ≠ (s.mq.batches.at d.batch).members) :
    s.complete d e = (s.settledMwd d e).mwqSync := by
  have hat : (s.settledMwd d e).mq.batches.at d.batch =
      { s.mq.batches.at d.batch with ended := (s.mq.batches.at d.batch).ended + 1 } := by rw [State.settledMwd_mq, Tab.at_upd_self]
  have hdone : (s.settledMwd d e).batchDone d.batch = s.settledMwd d e := State.batchDone_of_open (by rw [hat]; exact hopen)
  have hone : d.batch ≠ 0 ∧ e.status = 0 := ⟨hbatch, hgood⟩
  unfold State.complete
  dsimp only
  rw [if_pos hone, bne_iff_ne.2 hbatch]
  exact congrArg State.mwqSync hdone

theorem State.completeIdle_of_batch {d : Mwd} (hbatch : d.batch ≠ 0)
    (hopen : (s.mq.batches.at d.batch).closed = false ∨ (s.mq.batches.at d.batch).ended + 1 ≠ (s.mq.batches.at d.batch).members) :
    (s.completeIdle d 0).mq.descs = s.mq.descs.map (fun e => if e.id = d.id then d.settled else e) ∧
      ((s.completeIdle d 0).mq.batches.at d.batch).ended = (s.mq.batches.at d.batch).ended + 1 := by
  rw [State.completeIdle, State.complete_of_batch hbatch rfl hopen, State.mwqSync_mq, State.settledMwd_mq]
  refine ⟨rfl, ?_⟩
  dsimp only
  rw [Tab.at_upd_self]

/-! ### Fences and barriers -/

section fence

variable {op q slot : Nat} {d : Mwd}
  (hfind : s.mq.descs.find? (fun d => decide (d.queue = q) && decide (d.slot = slot) && decide (d.dstate = 1) && d.op == op) = some d)
include hfind

theorem State.endFence_waits (hany : s.mq.descs.any (fun e => decide (e.id < d.id) && decide (e.dstate ≤ 2) &&
    (e.queue == q || (op == 0x21 && e.sec == d.sec))) = true) : s.endFence op q slot = s := by
  unfold State.endFence
  rw [hfind]
  exact if_pos hany

theorem State.endFence_ends (hany : s.mq.descs.any (fun e => decide (e.id < d.id) && decide (e.dstate ≤ 2) &&
    (e.queue == q || (op == 0x21 && e.sec == d.sec))) = false) : s.endFence op q slot = s.completeIdle d 0 := by
  unfold State.endFence
  rw [hfind]
  exact if_neg (by rw [hany]; exact Bool.false_ne_true)

end fence

/-- A fence looks at its own queue alone. -/
theorem fence_any (l : List Mwd) (d : Mwd) (q : Nat) :
    l.any (fun e => decide (e.id < d.id) && decide (e.dstate ≤ 2) && (e.queue == q || ((0x20 : Nat) == 0x21 && e.sec == d.sec))) =
      l.any (fun e => decide (e.id < d.id) && decide (e.dstate ≤ 2) && (e.queue == q)) := by
  refine congrArg l.any (funext fun e => ?_)
  rw [show ((0x20 : Nat) == 0x21) = false from rfl, Bool.false_and, Bool.or_false]

/-- A barrier looks at its section as well. -/
theorem barrier_any (l : List Mwd) (d : Mwd) (q : Nat) :
    l.any (fun e => decide (e.id < d.id) && decide (e.dstate ≤ 2) && (e.queue == q || ((0x21 : Nat) == 0x21 && e.sec == d.sec))) =
      l.any (fun e => decide (e.id < d.id) && decide (e.dstate ≤ 2) && (e.queue == q || e.sec == d.sec)) := by
  refine congrArg l.any (funext fun e => ?_)
  rw [beq_self_eq_true, Bool.true_and]

/-! ### MWQ_CANCEL -/

theorem State.slotLoad_ack (q slot : Nat) : (s.ack.dramLoad (s.slotAddr q slot) 64).1 = (s.dramLoad (s.slotAddr q slot) 64).1 :=
  State.dramLoad_fst_congr (s := s) (t := s.ack) (State.ack_regs s) (State.ack_dram s) (State.ack_slu s) _ _

theorem State.updMwd_get (d : Mwd) (g : Fld) : (s.updMwd d).get g = s.get g := rfl

section cancel

variable {q slot : Nat} {d : Mwd}

theorem exec_mwqCancel_of_some
    (hfind : s.mq.descs.find? (fun d => decide (d.queue = q) && decide (d.slot = slot) && decide (d.dstate ≤ 2)) = some d) :
    exec (.mwqCancel q slot) s = .next (if d.dstate = 1 then (s.ack.completeIdle d 0x32).set .MWQ_CANCEL_RES_RESULT 1
      else (s.ack.stopMwd d).set .MWQ_CANCEL_RES_RESULT 2) := by
  change execMwqCancel q slot s = _
  unfold execMwqCancel
  dsimp only
  rw [show s.ack.mq = s.mq from rfl, hfind]

theorem exec_mwqCancel_of_none
    (hfind : s.mq.descs.find? (fun d => decide (d.queue = q) && decide (d.slot = slot) && decide (d.dstate ≤ 2)) = none) :
    exec (.mwqCancel q slot) s = if q < 16 ∧ slot < s.queueSlots q then
        match s.ack.dramLoad (s.slotAddr q slot) 64 with
        | (some bs, t) =>
          if 2 ^ 31 ≤ fieldAt bs 60 4 then
            .next ((t.updMq (fun m => { m with cancels := m.cancels ++ [(q, slot)] })).set .MWQ_CANCEL_RES_RESULT 1)
          else .next (t.set .MWQ_CANCEL_RES_RESULT 3)
        | (none, t) => .next (t.set .MWQ_CANCEL_RES_RESULT 3)
      else .next (s.ack.set .MWQ_CANCEL_RES_RESULT 3) := by
  change execMwqCancel q slot s = _
  unfold execMwqCancel
  dsimp only
  rw [show s.ack.mq = s.mq from rfl, hfind]
  rfl

end cancel

/-- A cancel that finds nothing to cancel. -/
theorem State.notCancelled_holds {q slot : Nat}
    (hfind : s.mq.descs.find? (fun d => decide (d.queue = q) && decide (d.slot = slot) && decide (d.dstate ≤ 2)) = none)
    (hno : 16 ≤ q ∨ s.queueSlots q ≤ slot ∨ ∀ bs, (s.dramLoad (s.slotAddr q slot) 64).1 = some bs → fieldAt bs 60 4 < 2 ^ 31) :
    ∃ t, exec (.mwqCancel q slot) s = .next t ∧ t.mq = s.mq ∧ t.dram = s.dram ∧ t.get .MWQ_CANCEL_RES_RESULT = 3 ∧ t.bus = .done := by
  have hframe : Frame [.mireIrq, .fenIrq, .seqs, .chans, .stg, .lev, .peat] (alarmRegs ++ haltRegs) s.ack
      (s.ack.dramLoad (s.slotAddr q slot) 64).2 := State.dramLoad_frame (fun _ hp => hp) (fun _ hr => hr) (Frame.refl _ _ _)
  have hloaded : ((s.ack.dramLoad (s.slotAddr q slot) 64).2.set .MWQ_CANCEL_RES_RESULT 3).mq = s.mq ∧
      ((s.ack.dramLoad (s.slotAddr q slot) 64).2.set .MWQ_CANCEL_RES_RESULT 3).dram = s.dram ∧
      ((s.ack.dramLoad (s.slotAddr q slot) 64).2.set .MWQ_CANCEL_RES_RESULT 3).get .MWQ_CANCEL_RES_RESULT = 3 ∧
      ((s.ack.dramLoad (s.slotAddr q slot) 64).2.set .MWQ_CANCEL_RES_RESULT 3).bus = .done :=
    ⟨hframe.same .mq (by decide), hframe.same .dram (by decide), State.get_set_self _ _ _ (by decide), hframe.same .bus (by decide)⟩
  rw [exec_mwqCancel_of_none hfind]
  split
  next hrange =>
    refine ⟨_, ?_, hloaded⟩
    have hsmall : ∀ bs, (s.ack.dramLoad (s.slotAddr q slot) 64).1 = some bs → fieldAt bs 60 4 < 2 ^ 31 := by
      rw [State.slotLoad_ack]
      rcases hno with h | h | h
      · omega
      · omega
      · exact h
    cases hload : s.ack.dramLoad (s.slotAddr q slot) 64 with
    | mk o t =>
      cases o with
      | none => rfl
      | some bs => exact if_neg (Nat.not_le.2 (hsmall bs (by rw [hload])))
  next => exact ⟨_, rfl, rfl, rfl, State.get_set_self _ _ _ (by decide), rfl⟩

/-- Settles O42: a descriptor that ends is taken from the table or settled in its batch, and the ring of its section steps on. -/
theorem fencesWaitAndCancelsAnswer : Obligations.FencesWaitAndCancelsAnswer := by
  unfold Obligations.FencesWaitAndCancelsAnswer
  refine ⟨fun s q slot d hfind hany hbatch => ?_, fun s q slot d hfind hany hbatch hopen => ?_, fun s q slot d hfind hany => ?_,
    fun s q slot d hfind hany hbatch => ?_, fun s q slot d hfind hany hbatch hopen => ?_, fun s q slot d hfind hany => ?_,
    fun s q slot d hfind hstate hbatch => ?_, fun s q slot d n hfind hstate hstream hissued hop => ?_,
    fun s q slot bs hfind hq hslot hload hvalid => ?_, fun s q slot hfind hno => ?_⟩
  · exact completes_of_outFrame (execMwdFence_frame (parts_in rfl) (fun _ hr => hr))
      (congrArg Host.Outcome.next (State.endFence_ends hfind (by rw [fence_any]; exact hany)))
      (fun _ => ⟨State.complete_descs hbatch _, fun hspill hroom => State.complete_pi hbatch _ hspill hroom⟩)
  · exact completes_of_outFrame (execMwdFence_frame (parts_in rfl) (fun _ hr => hr))
      (congrArg Host.Outcome.next (State.endFence_ends hfind (by rw [fence_any]; exact hany)))
      (fun _ => State.completeIdle_of_batch hbatch hopen)
  · exact completes_of_outFrame (execMwdFence_frame (parts_in rfl) (fun _ hr => hr))
      (congrArg Host.Outcome.next (State.endFence_waits hfind (by rw [fence_any]; exact hany))) (fun _ => rfl)
  · exact completes_of_outFrame (execMwdBarrier_frame (parts_in rfl) (fun _ hr => hr))
      (congrArg Host.Outcome.next (State.endFence_ends hfind (by rw [barrier_any]; exact hany)))
      (fun _ => ⟨State.complete_descs hbatch _, fun hspill hroom => State.complete_pi hbatch _ hspill hroom⟩)
  · exact completes_of_outFrame (execMwdBarrier_frame (parts_in rfl) (fun _ hr => hr))
      (congrArg Host.Outcome.next (State.endFence_ends hfind (by rw [barrier_any]; exact hany)))
      (fun _ => State.completeIdle_of_batch hbatch hopen)
  · exact completes_of_outFrame (execMwdBarrier_frame (parts_in rfl) (fun _ hr => hr))
      (congrArg Host.Outcome.next (State.endFence_waits hfind (by rw [barrier_any]; exact hany))) (fun _ => rfl)
  · refine completes_of_outFrame (execMwqCancel_frame (parts_in rfl) (fun _ hr => hr))
      (t := (s.ack.completeIdle d 0x32).set .MWQ_CANCEL_RES_RESULT 1) ?_
      (fun _ => ⟨?_, fun hspill hroom => ?_, State.get_set_self _ _ _ (by decide), ?_⟩)
    · rw [exec_mwqCancel_of_some hfind, if_pos hstate]
    · rw [State.set_mq, State.completeIdle, State.complete_descs hbatch, State.ack_mq]
    · rw [State.get_set_other _ _ (.inl (by dsimp only; omega)), State.completeIdle]
      exact State.complete_pi (s := s.ack) hbatch _ hspill hroom
    · rw [State.set_bus, State.completeIdle_bus]
      rfl
  · refine completes_of_outFrame (execMwqCancel_frame (parts_in rfl) (fun _ hr => hr))
      (t := ((s.ack.set (.REED_ST_CTRL_ABORT n) 1).updMwd { d with cancel := true }).set .MWQ_CANCEL_RES_RESULT 2) ?_
      (fun _ => ⟨?_, rfl, State.get_set_self _ _ _ (by decide), rfl⟩)
    · rw [exec_mwqCancel_of_some hfind, if_neg (by omega), State.stopMwd, hstream]
      dsimp only
      rw [hissued, bne_iff_ne.2 hop]
      rfl
    · rw [State.get_set_other _ _ (.inl (by dsimp only; omega)), State.updMwd_get]
      exact State.get_set_self _ _ _ (by simp)
  · have hack : s.ack.dramLoad (s.slotAddr q slot) 64 = (some bs, s.ack) :=
      State.dramLoad_eq_of_some ((State.slotLoad_ack q slot).trans hload)
    refine completes_of_outFrame (execMwqCancel_frame (parts_in rfl) (fun _ hr => hr))
      (t := (s.ack.updMq (fun m => { m with cancels := m.cancels ++ [(q, slot)] })).set .MWQ_CANCEL_RES_RESULT 1) ?_
      (fun _ => ⟨rfl, rfl, State.get_set_self _ _ _ (by decide), rfl⟩)
    rw [exec_mwqCancel_of_none hfind, if_pos ⟨hq, hslot⟩, hack]
    dsimp only
    rw [if_pos hvalid]
  · obtain ⟨t, hexec, heffects⟩ := State.notCancelled_holds hfind hno
    exact completes_of_outFrame (execMwqCancel_frame (parts_in rfl) (fun _ hr => hr)) hexec (fun _ => heffects)

end Sys2Proof.Machine
end

section
set_option Elab.async false
/-! OPERATIONS OF DESCRIPTORS (11). A stream seeks to the track of its next operation, and issues it there (R129, R200, R262, R278). -/

namespace Sys2Proof.Machine

variable {s : State}

/-! ### Seeking -/

theorem State.latchSeek_get (k : Nat) (go : Bool) (g : Fld) : (s.latchSeek k go).get g = s.get g := rfl

theorem State.latchSeek_seekCmd (k : Nat) (go : Bool) : ((s.latchSeek k go).sec k).seek.cmd = some go :=
  congrArg (fun x => x.seek.cmd) (State.updSec_sec_self k _)

theorem State.putTarget_track (k i pos : Nat) : (s.putTarget k i pos).get (.TUS_SEEK_TGT_TRACK k i) = pos / 1024 % 2 ^ 22 := by
  unfold State.putTarget
  rw [State.get_set_other _ _ (by simp)]
  exact State.get_set_self _ _ _ (by simp)

theorem State.putTarget_track_other {k i j pos : Nat} (h : i % 2 ≠ j % 2) :
    (s.putTarget k j pos).get (.TUS_SEEK_TGT_TRACK k i) = s.get (.TUS_SEEK_TGT_TRACK k i) := by
  unfold State.putTarget
  rw [State.get_set_other _ _ (.inl (by dsimp only; omega)), State.get_set_other _ _ (.inl (by dsimp only; omega))]

theorem State.seekTo_track (n pos : Nat) : (s.seekTo n pos).get (.TUS_SEEK_TGT_TRACK (n / 2) (n % 2)) = pos / 1024 % 2 ^ 22 := by
  unfold State.seekTo
  dsimp only
  rw [State.latchSeek_get, State.get_set_other _ _ (.inl (by dsimp only; omega))]
  refine (State.when_get ?_).trans (State.putTarget_track _ _ _)
  rw [State.get_set_other _ _ (.inl (by dsimp only; omega)), State.putTarget_track_other (by omega)]

theorem State.seekTo_cmd (n pos : Nat) : ((s.seekTo n pos).sec (n / 2)).seek.cmd = some true := State.latchSeek_seekCmd _ _

/-! ### Issuing -/

theorem State.updMwd_mem {d e : Mwd} (hd : d ∈ s.mq.descs) (hid : e.id = d.id) : e ∈ (s.updMwd e).mq.descs :=
  List.mem_map.2 ⟨d, hd, if_pos hid.symm⟩

/-- The eight words of an operation, once the machine's settings of it stand. -/
theorem State.opWords_get {n i : Nat} (hi : i < 8) (g : List Nat) :
    (s.forN 8 (fun i s => s.set (.REED_OP_VALUE n i) (g.getD i 0))).get (.REED_OP_VALUE n i) = g.getD i 0 % 2 ^ 32 := by
  refine State.forN_reaches (Inv := fun _ => True) (P := fun t => t.get (.REED_OP_VALUE n i) = g.getD i 0 % 2 ^ 32) hi trivial
    (fun _ _ _ _ => trivial) (fun t _ => State.get_set_self _ _ _ (by simp)) (fun j hj t ht => ?_)
  by_cases h : j = i
  · subst h
    exact State.get_set_self _ _ _ (by simp)
  · rw [State.get_set_other _ _ (.inl (by dsimp only; omega)), ht]

theorem State.opWords_track (n m : Nat) (g : List Nat) :
    (s.forN 8 (fun i s => s.set (.REED_OP_VALUE n i) (g.getD i 0))).get (.SDG_SEAL_TRK_TRACK m) = s.get (.SDG_SEAL_TRK_TRACK m) :=
  State.forN_keeps (fun t => t.get (.SDG_SEAL_TRK_TRACK m)) (fun i t => State.get_set_other _ _ (.inl (by dsimp only; omega))) 8

theorem State.stgStatus_op (m n i : Nat) : (s.stgStatus m).get (.REED_OP_VALUE n i) = s.get (.REED_OP_VALUE n i) :=
  (State.stgStatus_frame (W := []) (fun _ hr => hr) (Frame.refl _ _ s)).get
    (apart_mod_mod (n := 8) (m := 8) _ (by decide) (by decide) (by simp) (by decide +kernel) n i)

theorem State.stgStatus_sealTrack (m n : Nat) : (s.stgStatus m).get (.SDG_SEAL_TRK_TRACK n) = s.get (.SDG_SEAL_TRK_TRACK n) :=
  (State.stgStatus_frame (W := []) (fun _ hr => hr) (Frame.refl _ _ s)).get
    (apart_mod (n := 8) _ (by decide) (by simp) (by decide +kernel) n)

theorem State.reedGo_op (m n i : Nat) : (s.reedGo m).get (.REED_OP_VALUE n i) = s.get (.REED_OP_VALUE n i) :=
  (State.reedGo_frame (fun _ hp => hp) (fun _ hr => hr) (Frame.refl _ _ s)).get
    (apart_mod_mod (n := 8) (m := 8) _ (by decide) (by decide) (by simp) (by decide +kernel) n i)

theorem State.reedGo_sealTrack (m n : Nat) : (s.reedGo m).get (.SDG_SEAL_TRK_TRACK n) = s.get (.SDG_SEAL_TRK_TRACK n) :=
  (State.reedGo_frame (fun _ hp => hp) (fun _ hr => hr) (Frame.refl _ _ s)).get
    (apart_mod (n := 8) _ (by decide) (by simp) (by decide +kernel) n)

theorem State.codeSettings_sealTrack (n surface track : Nat) (z : Config.ZoneRow) :
    (s.codeSettings n surface track z).get (.SDG_SEAL_TRK_TRACK n) = track % 2 ^ 22 := State.get_set_self _ _ _ (by simp)

theorem State.sedgeSettings_sealTrack (n m : Nat) (o : ReedOp) :
    (s.sedgeSettings n o).get (.SDG_SEAL_TRK_TRACK m) = s.get (.SDG_SEAL_TRK_TRACK m) :=
  (State.sedgeSettings_frame (W := []) (fun _ hr => hr) (Frame.refl _ _ s)).get (apart_mod (n := 8) _ (by decide) (by simp) (by decide +kernel) m)

section issue

variable {n surface firstTrack zone : Nat} {z : Config.ZoneRow} {o : ReedOp}

theorem State.issueOp_count : (s.issueOp n surface firstTrack zone z o).get (.REED_OP_VALUE n 2) = o.count % 2 ^ 32 := by
  unfold State.issueOp
  extract_lets sector verify s1 s2 g s3 b s4 s5
  have h3 : s3.get (.REED_OP_VALUE n 2) = o.count % 2 ^ 32 := State.opWords_get (by decide) g
  have h5 : s5.get (.REED_OP_VALUE n 2) = s3.get (.REED_OP_VALUE n 2) := by
    unfold s5 s4
    rw [State.setIf, State.get_set_other _ _ (.inl (by dsimp only; omega)), State.get_set_other _ _ (.inl (by dsimp only; omega)),
      State.get_set_other _ _ (.inl (by dsimp only; omega))]
  rw [State.reedGo_op, State.stgStatus_op, State.updStage_get, h5, h3]

theorem State.issueOp_track : (s.issueOp n surface firstTrack zone z o).get (.SDG_SEAL_TRK_TRACK n) =
    (firstTrack + o.at_ / z.sectors) % 2 ^ 22 := by
  unfold State.issueOp
  extract_lets sector verify s1 s2 g s3 b s4 s5
  have h1 : s1.get (.SDG_SEAL_TRK_TRACK n) = (firstTrack + o.at_ / z.sectors) % 2 ^ 22 := State.codeSettings_sealTrack _ _ _ _
  have h2 : s2.get (.SDG_SEAL_TRK_TRACK n) = s1.get (.SDG_SEAL_TRK_TRACK n) := by
    unfold s2
    rw [State.setIf, State.get_set_other _ _ (.inl (by dsimp only; omega)), State.sedgeSettings_sealTrack]
  have h3 : s3.get (.SDG_SEAL_TRK_TRACK n) = s2.get (.SDG_SEAL_TRK_TRACK n) := State.opWords_track n n g
  have h5 : s5.get (.SDG_SEAL_TRK_TRACK n) = s3.get (.SDG_SEAL_TRK_TRACK n) := by
    unfold s5 s4
    rw [State.setIf, State.get_set_other _ _ (.inl (by dsimp only; omega)), State.get_set_other _ _ (.inl (by dsimp only; omega)),
      State.get_set_other _ _ (.inl (by dsimp only; omega))]
  rw [State.reedGo_sealTrack, State.stgStatus_sealTrack, State.updStage_get, h5, h3, h2, h1]

theorem State.issueOp_mq : (s.issueOp n surface firstTrack zone z o).mq = s.mq :=
  (State.issueOp_frame (fun _ hp => hp) regsIn_all (Frame.refl _ _ s)).same .mq (by decide)

end issue

/-! ### The next operation -/

theorem State.runNext_next {n op : Nat} {d : Mwd} (hon : s.mwdOn n = some d) (hop : d.op = op) (hissued :
    d.issued = false)
    (hstate : d.dstate = 2) (hfailed : d.failed = []) (hfills : d.op = 5 → s.fills d = true) : NextOperation s n d (s.runNext n op) := by
  intro zone z first count kind hzone hnext htime
  have hnot : ¬(d.op ≠ op ∨ d.issued = true ∨ d.dstate ≠ 2 ∨ d.failed ≠ []) := by
    rw [hissued]
    exact fun h => h.elim (fun h => h hop) (fun h => h.elim (fun h => Bool.false_ne_true h) (fun h => h.elim (· hstate) (· hfailed)))
  have hahead : ¬(d.op = 5 ∧ (!s.fills d) = true) := fun h => by
    rw [hfills h.1] at h
    exact Bool.false_ne_true h.2
  have hrun : s.runNext n op = if !s.standsAt n (1024 * (d.track + (d.sector + first) / z.sectors)) then
      s.when (s.lanesIdle d.sec && !s.seeksTo n (1024 * (d.track + (d.sector + first) / z.sectors)))
        (fun s => s.seekTo n (1024 * (d.track + (d.sector + first) / z.sectors)))
      else s.when (s.mayStart d.sec && !s.running n && s.mediaState (d.isWrite || 0 < d.timing)) (fun s =>
        s.issue n d zone z first count kind) := by
    unfold State.runNext
    rw [hon]
    dsimp only
    rw [if_neg hnot, hzone]
    dsimp only
    rw [hnext]
    dsimp only
    rw [if_neg hahead, if_neg htime]
  dsimp only
  refine ⟨fun hstands hidle hseeks => ?_, fun hstands hmay hrunning hmedia => ?_⟩
  · have hseek : s.runNext n op = s.seekTo n (1024 * (d.track + (d.sector + first) / z.sectors)) := by
      rw [hrun, hstands, hidle, hseeks]
      rfl
    rw [hseek, State.seekTo_track, Nat.mul_div_cancel_left _ (by decide)]
    exact ⟨rfl, State.seekTo_cmd _ _⟩
  · have hissue : s.runNext n op = s.issue n d zone z first count kind := by
      rw [hrun, hstands, hmay, hrunning, hmedia]
      rfl
    have hmem : d ∈ s.mq.descs := List.mem_of_find?_eq_some hon
    rw [hissue, State.issue, State.issueOp_count, State.issueOp_track, State.issueOp_mq]
    exact ⟨rfl, rfl, _, State.updMwd_mem hmem rfl, rfl, rfl, rfl, rfl, rfl⟩

/-- Settles O43: every opcode runs its operations by `State.runNext`, which seeks or issues. -/
theorem descriptorsRun : Obligations.DescriptorsRun := by
  unfold Obligations.DescriptorsRun
  refine ⟨fun s n d _ hon hop _ hissued hstate hfailed => ?_, fun s n d _ hon hop _ hissued hstate hfailed => ?_,
    fun s n d _ hon hop _ hissued hstate hfailed => ?_, fun s n d _ hon hop _ hissued hstate hfailed => ?_,
    fun s n d _ hon hop _ hissued hstate hfailed hfills => ?_, fun s n d _ hon hop _ hissued hstate hfailed => ?_,
    fun s n d _ hon hop _ hissued hstate hfailed => ?_⟩
  · exact completes_of_outFrame (execMwdRead_frame (parts_in rfl) (fun _ hr => hr)) rfl
      (fun _ => State.runNext_next hon hop hissued hstate hfailed (by omega))
  · exact completes_of_outFrame (execMwdWrite_frame (parts_in rfl) (fun _ hr => hr)) rfl
      (fun _ => State.runNext_next hon hop hissued hstate hfailed (by omega))
  · exact completes_of_outFrame (execWriteVerify_frame (parts_in rfl) (fun _ hr => hr)) rfl
      (fun _ => State.runNext_next hon hop hissued hstate hfailed (by omega))
  · exact completes_of_outFrame (execMwdVerify_frame (parts_in rfl) (fun _ hr => hr)) rfl
      (fun _ => State.runNext_next hon hop hissued hstate hfailed (by omega))
  · exact completes_of_outFrame (execReadAhead_frame (parts_in rfl) (fun _ hr => hr)) rfl
      (fun _ => State.runNext_next hon hop hissued hstate hfailed (fun _ => hfills))
  · exact completes_of_outFrame (execFormatTracks_frame (parts_in rfl) (fun _ hr => hr)) rfl
      (fun _ => State.runNext_next hon hop hissued hstate hfailed (by omega))
  · exact completes_of_outFrame (execEraseBand_frame (parts_in rfl) (fun _ hr => hr)) rfl
      (fun _ => State.runNext_next hon hop hissued hstate hfailed (by omega))

end Sys2Proof.Machine
end

section
set_option Elab.async false
/-! THE END OF AN OPERATION LEAVES ITS STREAM QUIET. What an operation that has ended does for its descriptor neither runs the stream again nor
gives Mire another end of it (R144, R279). -/

namespace Sys2Proof.Machine

variable {s : State}

/-! ### A raised source of no class F gives Mire the fault interrupt alone -/

theorem State.irqMire_mem_or {x y : MireIrq} (h : y ∈ (s.irqMire x).mireIrq) : y ∈ s.mireIrq ∨ y = x := by
  unfold State.irqMire at h
  split at h
  · exact .inl h
  · exact (List.mem_append.1 h).imp id List.mem_singleton.1

theorem State.recordLine_mild_irq {code : Nat} (h : mild code = true) (inst detail : Nat) (injected : Bool) {y : MireIrq} (hy : y ≠ .fault)
    (hno : y ∉ s.mireIrq) : y ∉ (s.recordLine code inst detail injected).mireIrq := by
  unfold State.recordLine
  split
  · exact hno
  next x hrow =>
    have hcls := mild_cls h hrow
    have hdrop : (s.recordClass x == 2) = false := by
      unfold State.recordClass
      rw [if_neg (by omega)]
      exact beq_eq_false_iff_ne.2 (by omega)
    extract_lets line cls s1 coalesce slot w rep r flags e l s2 lev s4 s5 s6
    have h1 : y ∉ s1.mireIrq := by
      unfold s1 cls
      rw [hdrop]
      exact hno
    clear_value coalesce s1
    split
    · exact h1
    · have h2 : y ∉ s2.mireIrq := by simpa [s2] using h1
      have h5 : y ∉ s5.mireIrq := by simpa [s5, s4] using h2
      have h6 : y ∉ s6.mireIrq := fun hmem => h5 (by simpa using (State.irqMire_mem_or hmem).resolve_right hy)
      rw [State.when_keeps State.mireIrq State.startFlush_mireIrq]
      exact h6

theorem State.relieve_irq {y : MireIrq} (hy : y ≠ .fault) (hno : y ∉ s.mireIrq) : y ∉ s.relieve.mireIrq := by
  unfold State.relieve
  split
  · split
    · exact State.recordLine_mild_irq (by decide +kernel) 0 0 false hy (by rw [State.unfreeze_mireIrq]; exact hno)
    · exact hno
  · exact hno

theorem State.raise_mild_irq {code : Nat} (h : mild code = true) (inst detail : Nat) {y : MireIrq} (hy : y ≠ .fault) (hno : y ∉ s.mireIrq) :
    y ∉ (s.raise code inst detail).mireIrq := State.relieve_irq hy (State.recordLine_mild_irq h inst detail false hy hno)

/-! ### A quiet stream -/

/-- The stream does not run, its end is served, and its results and events are collected. -/
structure State.Quiet (n : Nat) (s : State) : Prop where
  state : s.get (.REED_ST_STATUS_STATE n) = 0
  served : MireIrq.opEnd n ∉ s.mireIrq
  results : (s.chan n).results = []
  events : (s.seq n).events = []

theorem keptByRaise_quiet (n : Nat) : KeptByRaise (State.Quiet n) where
  same h ht := ⟨(ht.state n).trans h.state, by rw [ht.mireIrq]; exact h.served, by rw [State.chan_of_chans ht.chans]; exact h.results,
    by rw [State.seq_of_seqs ht.seqs]; exact h.events⟩
  raise i d hcode h := ⟨(State.raise_mild_get hcode (apart_mod (n := 8) _ (by decide) (by simp) (by decide +kernel) n)).trans h.state,
    State.raise_mild_irq hcode i d (by simp) h.served, by rw [State.raise_mild_chan hcode]; exact h.results,
    by rw [State.raise_mild_seq hcode]; exact h.events⟩

/-- What one read of the ladder says of a failed sector. -/
def ladderTurn (n step : Nat) (hit : Nat × Nat × Nat → Option SectorResult) (a : Mwd × State) (f : Nat × Nat × Nat) : Mwd × State :=
  match (hit f).map (fun x => (x.outcome, x.align)) with
  | some (0, _) => ({ a.1 with recovered := lower a.1.recovered f.1, recStep := max a.1.recStep step }, a.2.telAdd n (15 + step) 1)
  | some (1, _) =>
    ({ a.1 with recovered := lower a.1.recovered f.1, recStep := max a.1.recStep step, recAlign := true }, a.2.telAdd n (15 + step) 1)
  | some (4, _) => ({ a.1 with marked := lower a.1.marked f.1 }, a.2)
  | _ => ({ a.1 with failed := a.1.failed ++ [f] }, a.2)

section quiet

variable {n : Nat} (h : s.Quiet n)
include h

theorem State.Quiet.updMwd (d : Mwd) : (s.updMwd d).Quiet n := (keptByRaise_quiet n).updMq _ h

theorem State.Quiet.complete (d : Mwd) (e : Ending) : (s.complete d e).Quiet n := (keptByRaise_quiet n).complete d e h

theorem State.Quiet.mwqSync : s.mwqSync.Quiet n := (keptByRaise_quiet n).mwqSync h

theorem State.Quiet.aheadEnd (d : Mwd) (o : Nat) : (s.aheadEnd d o).Quiet n := by
  unfold State.aheadEnd
  split
  · exact h.complete _ _
  · exact h.complete _ _

theorem State.Quiet.faultEnd (d : Mwd) (z : Config.ZoneRow) (o : Nat) : (s.faultEnd d z o).Quiet n := by
  unfold State.faultEnd
  split
  · exact h.aheadEnd _ _
  · exact h.complete _ _

theorem State.Quiet.finish (d : Mwd) (z : Config.ZoneRow) : (s.finish d z).Quiet n := by
  unfold State.finish
  split
  · exact h.complete _ _
  · split
    · exact h.aheadEnd _ _
    · exact h.complete _ _

theorem State.Quiet.goOn (d : Mwd) (z : Config.ZoneRow) : (s.goOn d z).Quiet n := by
  unfold State.goOn
  extract_lets e t
  have ht : t.Quiet n := h.updMwd e
  clear_value t
  split
  · exact ht.finish _ _
  · split
    · exact ht.complete _ _
    · exact ht

/-- A change of a channel that leaves its results leaves its stream quiet. -/
theorem State.Quiet.updChan {f : Channel → Channel} (hf : ∀ c, (f c).results = c.results) : (s.updChan n f).Quiet n :=
  ⟨h.state, h.served, by rw [State.updChan_chan_self, hf]; exact h.results, h.events⟩

theorem State.Quiet.relieve : s.relieve.Quiet n where
  state := ((State.relieve_mild (s := s)).get (apart_mod (n := 8) _ (by decide) (by simp) (by decide +kernel) n)).trans h.state
  served := State.relieve_irq (by simp) h.served
  results := by rw [State.chan_of_chans (State.relieve_mild.same .chans (by decide))]; exact h.results
  events := by rw [State.seq_of_seqs (State.relieve_mild.same .seqs (by decide))]; exact h.events

theorem State.Quiet.telAdd (i k : Nat) : (s.telAdd n i k).Quiet n := h.updChan (fun _ => rfl)

theorem State.Quiet.sdgStatus : (s.sdgStatus n).Quiet n where
  state := (State.sdgStatus_get (apart_mod (n := 8) _ (by decide) (by simp) (by decide +kernel) n)).trans h.state
  served hmem := by
    unfold State.sdgStatus State.when at hmem
    dsimp only at hmem
    split at hmem
    · exact h.served ((State.irqMire_mem_or hmem).resolve_right (by simp))
    · exact h.served hmem
  results := by
    rw [State.chan_of_chans ((State.sdgStatus_frame (fun _ hp => hp) regsIn_all (Frame.refl _ _ s)).same .chans (by decide))]
    exact h.results
  events := by rw [State.sdgStatus_seq]; exact h.events

theorem State.Quiet.dropSum : (s.dropSum n).Quiet n := by
  have hdrop := h.updChan (f := fun c => { c with park := c.park.filter (fun e => decide (e.2 ≠ .sum)), sumReads := 0 }) (fun _ => rfl)
  exact hdrop.sdgStatus

theorem State.Quiet.when {c : Bool} {f : State → State} (hf : (f s).Quiet n) : (s.when c f).Quiet n := by
  cases c
  · exact h
  · exact hf

theorem State.Quiet.programRecord (d : Mwd) : (s.programRecord n d).Quiet n := by
  have hstaged (stream type_ : Nat) (body : List Byte) : (s.stageRecord stream type_ body).Quiet n :=
    (keptByRaise_quiet n).same h ((State.stageRecord_frame (fun _ hp => hp) (fun _ hr => hr) (Frame.refl _ _ s)).alike (by decide) (by decide +kernel))
  unfold State.programRecord State.peatRecord
  exact (hstaged _ _ _).relieve

theorem State.Quiet.ladderTake (d : Mwd) (z : Config.ZoneRow) (res : List SectorResult) : (s.ladderTake n d z res).Quiet n := by
  unfold State.ladderTake
  extract_lets r step hit rest
  have hturn (a : Mwd × State) (f : Nat × Nat × Nat) (ha : a.2.Quiet n) : (ladderTurn n step hit a f).2.Quiet n := by
    unfold ladderTurn
    split
    · exact ha.telAdd _ _
    · exact ha.telAdd _ _
    · exact ha
    · exact ha
  have hfold (l : List (Nat × Nat × Nat)) (a : Mwd × State) (ha : a.2.Quiet n) : (l.foldl (ladderTurn n step hit) a).2.Quiet n := by
    induction l generalizing a with
    | nil => exact ha
    | cons f l ih => exact ih _ (hturn a f ha)
  split
  next e t hfolded =>
    have ht : t.Quiet n := by
      have hlast := hfold d.failed (({ d with failed := [] } : Mwd), s) h
      rw [show d.failed.foldl (ladderTurn n step hit) (({ d with failed := [] } : Mwd), s) = (e, t) from hfolded] at hlast
      exact hlast
    clear hfolded hfold hturn
    extract_lets gone e'
    split
    next e'' t' hleft =>
      have ht' : t'.Quiet n := by
        split at hleft
        · rw [← (Prod.mk.inj hleft).2]
          exact ht
        · rw [← (Prod.mk.inj hleft).2]
          exact ht.telAdd _ _
      exact (ht'.when ht'.dropSum).goOn _ _

/-- The stream stays quiet over whatever the end of its operation does. -/
theorem State.Quiet.endOp (d : Mwd) (z : Config.ZoneRow) (res : List SectorResult) (vfy : List VfyEntry) (ovf : Bool) :
    (s.endOp n d z res vfy ovf).Quiet n := by
  have hrecord (d : Mwd) : (s.programRecord n d).Quiet n := h.programRecord d
  unfold State.endOp
  extract_lets g term result k reach e moved stopped
  have hstopped (st : Nat) : (stopped st).Quiet n := h.complete _ _
  clear_value stopped e term result reach
  split
  · exact h.complete _ _
  · split
    · exact h.updMwd _
    · split
      · split
        · split
          · exact h.updMwd _
          · exact h.ladderTake _ _ _
        · split
          · exact h.goOn _ _
          · split
            · exact hstopped _
            · exact (hrecord _).faultEnd _ _ _
      · exact hstopped _
      · exact hstopped _
      · split
        · exact hstopped _
        · exact h.faultEnd _ _ _
      · split
        · exact h.goOn _ _
        · exact h.faultEnd _ _ _
      · split
        · exact h.faultEnd _ _ _
        · exact h.goOn _ _
      · exact (hrecord _).faultEnd _ _ _

end quiet

end Sys2Proof.Machine
end

section
set_option Elab.async false
/-! STARTS, HINTS, LADDERS AND ENDS (05, 06, 07,
  11). A descriptor that starts has its stream and seeks; a step of the ladder decodes or seeks; an
operation that ends is collected, and its descriptor goes on (R118, R120, R144, R168, R258, R261, R267, R279). -/

namespace Sys2Proof.Machine

variable {s : State}

/-! ### What a start leaves of where the heads stand -/

/-- The heads stand where they stood, and on the surfaces they were on. -/
structure State.SameStand (s t : State) : Prop where
  stands : ∀ n pos, t.standsAt n pos = s.standsAt n pos
  surface : ∀ n, t.surface n = s.surface n

theorem State.SameStand.trans {s t u : State} (h : s.SameStand t) (h' : t.SameStand u) : s.SameStand u :=
  ⟨fun n pos => (h'.stands n pos).trans (h.stands n pos), fun n => (h'.surface n).trans (h.surface n)⟩

theorem State.SameStand.of_get {t : State} (htus : t.tus = s.tus) (hget : ∀ f ∈ [Fld.TUS_SEC_CTRL_HEAD0, .TUS_SEC_CTRL_HEAD1,
    .TUS_SEEK_STATUS_SETTLED, .TUS_SEC_CTRL_LANE_EN, .WTH_VCM_STATUS_PARKED, .TUS_SEEK_STATUS_SEEKING, .TUS_SEC_STATUS_MISS0,
    .TUS_SEC_STATUS_MISS1], ∀ k, t.get (f k) = s.get (f k)) : s.SameStand t := by
  simp only [List.forall_mem_cons, List.not_mem_nil, false_imp_iff, implies_true, and_true] at hget
  obtain ⟨hhead0, hhead1, hsettled, hlane, hparked, hseeking, hmiss0, hmiss1⟩ := hget
  refine ⟨fun n pos => ?_, fun n => ?_⟩
  · unfold State.standsAt State.trackFollowing State.lane State.sec State.is
    dsimp only
    rw [htus, hsettled, hlane, hparked, hseeking, hmiss0, hmiss1]
  · unfold State.surface
    rw [hhead0, hhead1]

/-- A change within a frame that leaves the sections and their registers out. -/
theorem Frame.sameStand {W : List Part} {R : List Regs} {t : State} (h : Frame W R s t) (hW : Part.tus ∉ W)
    (hR : ([Fld.TUS_SEC_CTRL_HEAD0, .TUS_SEC_CTRL_HEAD1, .TUS_SEEK_STATUS_SETTLED, .TUS_SEC_CTRL_LANE_EN, .WTH_VCM_STATUS_PARKED,
      .TUS_SEEK_STATUS_SEEKING, .TUS_SEC_STATUS_MISS0, .TUS_SEC_STATUS_MISS1]).all
        (fun f => (List.range 4).all (fun k => R.all (fun r => r.apartB (f k)))) = true) : s.SameStand t := by
  refine State.SameStand.of_get (h.same .tus hW) (fun f hf k => h.get (apart_mod (n := 4) f (by decide) ?_ (List.all_eq_true.1 hR f hf) k))
  simp only [List.mem_cons, List.not_mem_nil, or_false] at hf
  rcases hf with rfl | rfl | rfl | rfl | rfl | rfl | rfl | rfl <;> simp

theorem State.updRegion_sameStand (r : Nat) (f : Region → Region) : s.SameStand (s.updRegion r f) := ⟨fun _ _ => rfl, fun _ => rfl⟩

theorem State.when_sameStand {c : Bool} {f : State → State} (h : s.SameStand (f s)) : s.SameStand (s.when c f) := by
  cases c
  · exact ⟨fun _ _ => rfl, fun _ => rfl⟩
  · exact h

/-! ### The start of a descriptor -/

/-- A descriptor on its stream. -/
abbrev Mwd.onStream (d : Mwd) (n : Nat) : Mwd := { d with dstate := 2, stream := some n }

/-- The zone of a descriptor's track. -/
abbrev State.zoneOf (s : State) (d : Mwd) : Option (Nat × Config.ZoneRow) := s.zoneAt d.surface d.track

/-- A descriptor on its stream, in memory and in the table. -/
def State.placed (s : State) (n : Nat) (d : Mwd) : State := (s.setCtrl d.queue d.slot 2).updMwd (d.onStream n)

/-- Its head chosen. -/
def State.headed (s : State) (n : Nat) (d : Mwd) : State := (s.placed n d).selectHead n d.surface (((s.zoneOf d).map (·.1)).getD 0)

/-- The region that it fills. -/
def State.regionFilled (s : State) (n : Nat) (d : Mwd) : State :=
  (s.headed n d).when (d.op == 5) (fun s => s.updRegion d.region (fun x => { x with state := .filling, fill := some n }))

/-- Its buffers marked. -/
def State.prepared (s : State) (n : Nat) (d : Mwd) : State :=
  (s.regionFilled n d).when ((d.op == 2 || d.op == 3) && !d.flag 3)
    (fun t => t.markEntries n d.buf (d.count * (4096 + metaBytes (((s.zoneOf d).map (fun z => z.2.meta_)).getD 0))))

theorem State.updMwd_sameStand (d : Mwd) : s.SameStand (s.updMwd d) := ⟨fun _ _ => rfl, fun _ => rfl⟩

theorem State.placed_sameStand (n : Nat) (d : Mwd) : s.SameStand (s.placed n d) :=
  ((State.setCtrl_frame (fun _ hp => hp) (fun _ hr => hr) (Frame.refl _ _ s)).sameStand (by decide) (by decide +kernel)).trans
    (State.updMwd_sameStand _)

theorem State.placed_mem {d : Mwd} (n : Nat) (hd : d ∈ s.mq.descs) : d.onStream n ∈ (s.placed n d).mq.descs := by
  refine State.updMwd_mem (d := d) ?_ rfl
  rw [State.setCtrl_mq]
  exact hd

theorem State.updRegion_mq (r : Nat) (f : Region → Region) : (s.updRegion r f).mq = s.mq := rfl

theorem State.selectHead_mq (n h z : Nat) : (s.selectHead n h z).mq = s.mq :=
  (State.selectHead_frame (fun _ hp => hp) regsIn_all (Frame.refl _ _ s)).same .mq (by decide)

theorem State.markEntries_mq (n buf bytes : Nat) : (s.markEntries n buf bytes).mq = s.mq :=
  (State.markEntries_frame (fun _ hp => hp) regsIn_all (Frame.refl _ _ s)).same .mq (by decide)

theorem State.prepared_mq (n : Nat) (d : Mwd) : (s.prepared n d).mq = (s.placed n d).mq := by
  have hmarked : (s.prepared n d).mq = (s.regionFilled n d).mq := by
    unfold State.prepared State.when
    split
    · exact State.markEntries_mq _ _ _
    · rfl
  have hfilled : (s.regionFilled n d).mq = (s.headed n d).mq := by
    unfold State.regionFilled State.when
    split
    · exact State.updRegion_mq _ _
    · rfl
  exact hmarked.trans (hfilled.trans (State.selectHead_mq _ _ _))

theorem State.prepared_sameStand {n : Nat} {d : Mwd} (hsurface : s.surface n = d.surface) : s.SameStand (s.prepared n d) := by
  have hplaced := State.placed_sameStand (s := s) n d
  have hheaded : s.headed n d = (s.placed n d).loadCal n d.surface (((s.zoneOf d).map (·.1)).getD 0) := by
    unfold State.headed State.selectHead State.when
    rw [hplaced.surface, hsurface, bne_self_eq_false, if_neg Bool.false_ne_true]
  have hcal : (s.placed n d).SameStand (s.headed n d) := by
    rw [hheaded]
    exact (State.loadCal_frame (fun _ hp => hp) (fun _ hr => hr) (Frame.refl _ _ _)).sameStand (by decide) (by decide +kernel)
  have hfilling : (s.headed n d).SameStand (s.regionFilled n d) := State.when_sameStand (State.updRegion_sameStand _ _)
  have hmarked : (s.regionFilled n d).SameStand (s.prepared n d) := State.when_sameStand
    ((State.markEntries_frame (fun _ hp => hp) (fun _ hr => hr) (Frame.refl _ _ _)).sameStand (by decide) (by decide +kernel))
  exact ((hplaced.trans hcal).trans hfilling).trans hmarked

theorem State.startMwd_eq {n : Nat} {d : Mwd} (h5 : d.op ≠ 5) (h8 : d.op ≠ 8) : s.startMwd n d = (s.prepared n d).when
    (!((s.placed n d).surface n == d.surface && (s.prepared n d).standsAt n (1024 * d.track))) (fun s => s.seekTo n (1024 * d.track)) := by
  have hkept : (d.onStream n).op = d.op ∧ (d.onStream n).surface = d.surface ∧ (d.onStream n).track = d.track := ⟨rfl, rfl, rfl⟩
  unfold State.startMwd
  extract_lets z x d' s1 same s2 s3 size s4
  rw [if_neg (fun h => h5 h.1), if_neg (show d'.op ≠ 8 from h8)]
  rfl

theorem State.seekTo_mq (n pos : Nat) : (s.seekTo n pos).mq = s.mq :=
  (State.seekTo_frame (fun _ hp => hp) regsIn_all (Frame.refl _ _ s)).same .mq (by decide)

theorem State.startMwd_mq {n : Nat} {d : Mwd} (h5 : d.op ≠ 5) (h8 : d.op ≠ 8) : (s.startMwd n d).mq = (s.placed n d).mq := by
  rw [State.startMwd_eq h5 h8, ← State.prepared_mq]
  unfold State.when
  split
  · exact State.seekTo_mq _ _
  · rfl

theorem State.mwqSync_tus : s.mwqSync.tus = s.tus :=
  (State.mwqSync_frame (W := []) (fun _ hr => hr) (Frame.refl _ _ s)).same .tus (by decide)

theorem State.mem_levels {l : List Mwd} {e : Mwd × Nat} (h : e ∈ s.levels l) : e.1 ∈ l := by
  induction l with
  | nil => cases h
  | cons d l ih =>
    unfold State.levels at h
    rcases List.mem_cons.1 h with rfl | h
    · exact List.mem_cons_self ..
    · exact List.mem_cons_of_mem _ (ih h)

theorem State.mem_descs_of_candidate {k : Nat} {d : Mwd} (h : d ∈ s.candidates k) : d ∈ s.mq.descs := by
  unfold State.candidates at h
  obtain ⟨e, he, rfl⟩ := List.mem_map.1 h
  exact (List.mem_filter.1 (State.mem_levels (List.mem_filter.1 (List.mem_filter.1 he).1).1)).1

/-- The candidate that is soonest is the one found. -/
theorem State.soonest_found {n q slot : Nat} {d : Mwd} (hd : d ∈ s.candidates (n / 2)) (hqueue : d.queue = q) (hslot : d.slot = slot)
    (hsoonest : ∀ e ∈ s.candidates (n / 2), e = d ∨ ((e.queue ≠ q ∨ e.slot ≠ slot) ∧ s.soonness n d ≤ s.soonness n e)) :
    (s.candidates (n / 2)).find? (fun d => decide (d.queue = q) && decide (d.slot = slot) &&
      (s.candidates (n / 2)).all (fun e => decide (s.soonness n d ≤ s.soonness n e))) = some d := by
  have hself : (decide (d.queue = q) && decide (d.slot = slot) &&
      (s.candidates (n / 2)).all (fun e => decide (s.soonness n d ≤ s.soonness n e))) = true := by
    rw [decide_eq_true hqueue, decide_eq_true hslot, Bool.and_self, Bool.true_and, List.all_eq_true]
    intro e he
    rw [decide_eq_true_eq]
    rcases hsoonest e he with rfl | h
    · exact Nat.le_refl _
    · exact h.2
  cases hfind : (s.candidates (n / 2)).find? (fun d => decide (d.queue = q) && decide (d.slot = slot) &&
      (s.candidates (n / 2)).all (fun e => decide (s.soonness n d ≤ s.soonness n e))) with
  | none => exact absurd hself (List.find?_eq_none.1 hfind d hd)
  | some e =>
    have hmem := List.mem_of_find?_eq_some hfind
    have hp := List.find?_some hfind
    simp only [Bool.and_eq_true, decide_eq_true_eq] at hp
    rcases hsoonest e hmem with rfl | h
    · rfl
    · exact absurd h.1 (by simp [hp.1.1, hp.1.2])

/-! ### Hints that end -/

theorem State.hintOf_some {k : Nat} {d : Mwd} (h : s.hintOf k = some d) : d ∈ s.mq.descs ∧ d.op = 8 ∧ d.sec = k := by
  have hp := List.find?_some h
  simp only [Bool.and_eq_true, beq_iff_eq] at hp
  exact ⟨List.mem_of_find?_eq_some h, hp.1.1, hp.1.2⟩

theorem State.dropHint_of_issued {d : Mwd} (hissued : d.issued = true)
    (hseek : s.get (.TUS_SEEK_CTRL_HINT d.sec) = 1 ∨ (s.sec d.sec).seek.cmd ≠ some true) : s.dropHint d = s.latchSeek d.sec false := by
  unfold State.dropHint State.when
  refine if_pos ?_
  rw [hissued, Bool.true_and]
  rcases hseek with h | h
  · rw [State.is_of_get h, Bool.true_or]
  · rw [decide_eq_true h, Bool.or_true]

/-! ### Steps of the ladder -/

/-- A descriptor at the ladder's step after `last`. -/
abbrev Mwd.climbed (d : Mwd) (z : Config.ZoneRow) (last : Nat) : Mwd := { d with ladStep := last + 1, lad := d.ladderPlan z (last + 1) }

/-- The stream is free for the ladder's step after `last` of the descriptor on it. -/
structure State.MayClimb (s : State) (n : Nat) (d : Mwd) (last : Nat) : Prop where
  on : s.mwdOn n = some d
  failed : ∃ o x rest, d.failed = (o, x, last) :: rest
  issued : d.issued = false
  lad : d.lad = []
  idle : s.running n = false
  acts : s.mireActs = true
  working : s.get .WEIR_STATUS_PF ≠ 2
  awaiting : (s.chan n).awaiting = 0
  data : (s.stage n).data = []

theorem State.MayClimb.steps {n last zone : Nat} {d : Mwd} {z : Config.ZoneRow} (h : s.MayClimb n d last)
    (hzone : s.zoneAt d.surface d.track = some (zone, z)) : exec (.ladderStep n) s =
      .next (((s.updMwd (d.climbed z last)).ladderStart n (d.climbed z last) zone z ((d.ladderPlan z (last + 1)).headD {})).mwqSync) := by
  obtain ⟨o, x, rest, hfailed⟩ := h.failed
  have hcommitted : s.committed = false := beq_eq_false_iff_ne.2 h.working
  change execLadderStep n s = _
  unfold execLadderStep
  rw [h.on]
  dsimp only
  have hfree : ¬(s.running n || !s.mireActs || s.committed || decide (0 < (s.chan n).awaiting) || !(s.stage n).data.isEmpty ||
      (d.issued && !d.decodeOnly)) = true := by
    rw [h.idle, h.acts, hcommitted, h.awaiting, h.data, h.issued, Bool.false_and]
    decide
  rw [hzone]
  split
  next x' y' last' l zone' z' hf hz =>
    obtain ⟨rfl, rfl⟩ := Prod.mk.inj (Option.some.inj hz)
    obtain rfl : last = last' := by
      rw [hfailed] at hf
      cases hf
      rfl
    rw [if_neg hfree, if_neg (by rw [h.issued]; exact Bool.false_ne_true), if_pos h.lad]
  next hno => exact absurd rfl (hno _ _ _ _ _ _ hfailed)

theorem State.MayClimb.outside {n last : Nat} {d : Mwd} (h : s.MayClimb n d last) (hzone : s.zoneAt d.surface d.track = none) :
    exec (.ladderStep n) s = .next s := by
  change execLadderStep n s = _
  unfold execLadderStep
  rw [h.on]
  dsimp only
  rw [hzone]
  split <;> simp_all

/-- A decode of what the channel holds, once its settings stand. -/
def State.decode (s : State) (n : Nat) (stage : Staging) (c : Channel → Channel) : State :=
  ((((s.sedgeGo n).updStage n (fun _ => stage)).updChan n c).stgStatus n).sdgStatus n

/-- The registers that a decode writes. -/
def decodeRegs : List Regs := alarmRegs ++ haltRegs ++ [.arr (.SDG_ST_STATUS_CODE_ERR 0) 0x400 8, .arr (.SLU_STG_STATUS_ACTIVE 0) 0x4 8,
  .arr (.SLU_STG_STATUS_DIR 0) 0x4 8, .arr (.SLU_STG_STATUS_RESV 0) 0x4 8, .arr (.SLU_STG_STATUS_READY 0) 0x4 8, .fld .SDG_STATUS_RES_IRQ,
  .fld .SDG_STATUS_PENDING, .arr (.SDG_ST_STATUS_RES_CNT 0) 0x400 8, .arr (.SDG_ST_STATUS_PARK_USED 0) 0x400 8,
  .arr (.SDG_ST_STATUS_PENDING_CNT 0) 0x400 8]

theorem State.decode_get {n : Nat} {stage : Staging} {c : Channel → Channel} {f : Nat → Fld} (hf : ∀ i, f (i % 8) = f i)
    (h : (List.range 8).all (fun i => decodeRegs.all (fun r => r.apartB (f i))) = true) :
    (s.decode n stage c).get (f n) = s.get (f n) := by
  have hn := apart_mod (n := 8) f (by decide) hf h n
  unfold State.decode
  rw [State.sdgStatus_get (apart_sub hn (by decide +kernel)),
    (State.stgStatus_frame (W := []) (fun _ hr => hr) (Frame.refl _ _ _)).get (apart_sub hn (by decide +kernel)), State.updChan_get,
    State.updStage_get]
  exact (State.sedgeGo_frame (fun _ hp => hp) (fun _ hr => hr) (Frame.refl _ _ _)).get (apart_sub hn (by decide +kernel))

theorem State.sedgeSettings_mode (n : Nat) (o : ReedOp) : (s.sedgeSettings n o).get (.SDG_ST_CTRL_MODE n) = o.mode % 2 ^ 2 := by
  unfold State.sedgeSettings State.setIf
  rw [State.get_set_other _ _ (by simp), State.get_set_other _ _ (by simp), State.get_set_other _ _ (by simp),
    State.get_set_other _ _ (by simp)]
  exact State.get_set_self _ _ _ (by simp)

theorem State.sedgeSettings_step (n : Nat) (o : ReedOp) : (s.sedgeSettings n o).get (.SDG_ST_CTRL_STEP n) = o.step % 2 ^ 3 := by
  unfold State.sedgeSettings State.setIf
  rw [State.get_set_other _ _ (by simp), State.get_set_other _ _ (by simp), State.get_set_other _ _ (by simp)]
  exact State.get_set_self _ _ _ (by simp)

/-- A step that reads no sector decodes in mode 3 of its step. -/
theorem State.ladderStart_decodes {n zone : Nat} {d : Mwd} {z : Config.ZoneRow} {r : LadderRead} (hr : r.media = false) :
    ((s.ladderStart n d zone z r).mwqSync).get (.SDG_ST_CTRL_MODE n) = 3 ∧
      ((s.ladderStart n d zone z r).mwqSync).get (.SDG_ST_CTRL_STEP n) = d.ladStep % 2 ^ 3 := by
  rw [State.mwqSync_get (apart_mod (n := 8) _ (by decide) (by simp) (by decide +kernel) n),
    State.mwqSync_get (apart_mod (n := 8) _ (by decide) (by simp) (by decide +kernel) n)]
  unfold State.ladderStart
  extract_lets first timed src stage o e pos t erasures
  rw [hr, if_neg Bool.false_ne_true]
  refine ⟨(State.decode_get (f := .SDG_ST_CTRL_MODE) (by simp) (by decide +kernel)).trans (State.sedgeSettings_mode n o),
    (State.decode_get (f := .SDG_ST_CTRL_STEP) (by simp) (by decide +kernel)).trans (State.sedgeSettings_step n o)⟩

/-- A step that reads the sectors on the disk seeks their track first. -/
theorem State.ladderStart_seeks {n zone : Nat} {d : Mwd} {z : Config.ZoneRow} {r : LadderRead} (hr : r.media = true) (hofs : r.ofs = 0)
    (hstands : s.standsAt n (1024 * (d.track + r.at_ / z.sectors)) = false) (hidle : s.lanesIdle d.sec = true)
    (hseeks : s.seeksTo n (1024 * (d.track + r.at_ / z.sectors)) = false) :
    s.ladderStart n d zone z r = s.seekTo n (1024 * (d.track + r.at_ / z.sectors)) := by
  unfold State.ladderStart
  extract_lets first timed src stage o e pos
  have hpos : pos = 1024 * (d.track + r.at_ / z.sectors) := by
    unfold pos
    rw [hofs, show e.track = d.track from rfl]
    omega
  rw [hr, if_pos rfl, hpos, hstands, show e.sec = d.sec from rfl, hidle, hseeks]
  rfl

/-! ### The end of an operation -/

/-- A stream whose end has been served, with what its operation left collected. -/
def State.collected (s : State) (n : Nat) : State := ((s.served (.opEnd n)).served (.sectors n)).collect n

section collected

variable {n : Nat}

theorem State.collected_get {g : Fld} (h : ([.fld .SDG_STATUS_RES_IRQ, .fld .SDG_STATUS_PENDING, .arr (.SDG_ST_STATUS_RES_CNT 0) 0x400 8,
    .arr (.SDG_ST_STATUS_PARK_USED 0) 0x400 8, .arr (.SDG_ST_STATUS_PENDING_CNT 0) 0x400 8, .arr (.REED_ST_STATUS_EVT_CNT 0) 0x100 8] :
      List Regs).all (fun r => r.apartB g) = true) : (s.collected n).get g = s.get g :=
  (State.collect_frame (fun _ hp => hp) (fun _ hr => hr) (Frame.refl _ _ ((s.served (.opEnd n)).served (.sectors n)))).get h

theorem State.collected_mq : (s.collected n).mq = s.mq :=
  (State.collect_frame (fun _ hp => hp) regsIn_all (Frame.refl _ _ ((s.served (.opEnd n)).served (.sectors n)))).same .mq (by decide)

theorem State.collected_aq : (s.collected n).aq = s.aq :=
  (State.collect_frame (fun _ hp => hp) regsIn_all (Frame.refl _ _ ((s.served (.opEnd n)).served (.sectors n)))).same .aq (by decide)

theorem State.collected_stage : (s.collected n).stage n = s.stage n := congrArg (fun t => t.at n)
  ((State.collect_frame (fun _ hp => hp) regsIn_all (Frame.refl _ _ ((s.served (.opEnd n)).served (.sectors n)))).same .stg (by decide))

theorem State.collected_seq : (s.collected n).seq n = { s.seq n with events := [], owed := [] } := by
  unfold State.collected State.collect
  dsimp only
  rw [State.sdgStatus_seq, State.updChan_seq, State.reedCount, State.set_seq, State.updSeq_seq_self]
  rfl

theorem State.collected_quiet (hidle : s.running n = false) : (s.collected n).Quiet n := by
  have hstate : s.get (.REED_ST_STATUS_STATE n) = 0 := by
    by_contra h
    exact absurd hidle (by rw [State.running, State.is, bne_iff_ne.2 h]; decide)
  have hserved : MireIrq.opEnd n ∉ (s.mireIrq.filter (· ≠ .opEnd n)).filter (· ≠ .sectors n) := fun hmem => by simp at hmem
  unfold State.collected State.collect
  dsimp only
  refine State.Quiet.sdgStatus ⟨?_, hserved, ?_, ?_⟩
  · rw [State.updChan_get]
    exact (State.get_set_other _ _ (by simp)).trans hstate
  · rw [State.updChan_chan_self]
  · rw [State.updChan_seq, State.reedCount, State.set_seq, State.updSeq_seq_self]

end collected

/-- What the end of the operation on a stream leaves: its descriptor goes on, ends or fails. -/
def State.opEnded (s : State) (n : Nat) (d : Mwd) (z : Config.ZoneRow) : State :=
  ((s.collected n).when (d.issued && d.op != 8) (fun t => t.endOp n d z ((s.chan n).taken ++ (s.chan n).results)
    ((s.chan n).vfyTaken ++ (s.chan n).vfy) (decide (0 < (s.chan n).lost)))).mwqSync

theorem State.opEnded_quiet {n : Nat} (hidle : s.running n = false) (d : Mwd) (z : Config.ZoneRow) : (s.opEnded n d z).Quiet n := by
  have hquiet := State.collected_quiet hidle
  have hop := hquiet.endOp d z ((s.chan n).taken ++ (s.chan n).results) ((s.chan n).vfyTaken ++ (s.chan n).vfy) (decide (0 < (s.chan n).lost))
  exact State.Quiet.mwqSync (hquiet.when (f := fun t => t.endOp n d z ((s.chan n).taken ++ (s.chan n).results)
    ((s.chan n).vfyTaken ++ (s.chan n).vfy) (decide (0 < (s.chan n).lost))) hop)

theorem execOperationEnd_of_ready {n : Nat} (h : ¬(MireIrq.opEnd n ∉ s.mireIrq ∨ (s.running n || decide (0 < (s.chan n).awaiting) ||
    ((s.chan n).vfyTaken ++ (s.chan n).vfy).any (fun e => !e.posted) ||
    ((s.stage n).read && !(s.stage n).bufErr && !(s.stage n).data.isEmpty)) = true ∨ (!s.mireActs) = true)) :
    exec (.operationEnd n) s = .next (((s.mwdOn n).bind (fun d => (s.zoneAt d.surface d.track).map (fun z => s.opEnded n d z.2))).getD
      (s.collected n)) := by
  have hon : (((s.served (.opEnd n)).served (.sectors n)).collect n).mwdOn n = s.mwdOn n :=
    congrArg (fun m => m.descs.find? (fun d => decide (d.stream = some n) && !(d.op == 8 && d.issued))) (State.collected_mq (n := n))
  have hzone (d : Mwd) : (((s.served (.opEnd n)).served (.sectors n)).collect n).zoneAt d.surface d.track = s.zoneAt d.surface d.track := by
    rw [State.zoneAt, show (((s.served (.opEnd n)).served (.sectors n)).collect n).aq = s.aq from State.collected_aq]
    rfl
  change execOperationEnd n s = _
  unfold execOperationEnd
  refine (if_neg h).trans ?_
  dsimp only
  rw [hon]
  cases s.mwdOn n with
  | none => rfl
  | some d =>
    dsimp only
    rw [hzone, Option.bind_some]
    cases s.zoneAt d.surface d.track <;> rfl

/-- What a write leaves of its descriptor: `k` sectors more are done. -/
theorem Mwd.progress_write {d : Mwd} {z : Config.ZoneRow} {k : Nat} {res : List SectorResult} {vfy : List VfyEntry} {markers : List Nat}
    (hop : d.op = 2) (hkind : d.opKind = 0) : d.progress z k res vfy markers =
      { d with poisoned := markers.foldl (fun a m => if m < k then lower a (d.opFirst + m) else a) d.poisoned, done := d.opFirst + k } := by
  have hread : ¬(d.op = 1 ∨ d.op = 4) := by omega
  have hverify : ¬(d.op = 3 ∨ d.op = 0x10) := by omega
  unfold Mwd.progress
  extract_lets reach e
  split
  next h => exact absurd (hkind.symm.trans h) (by decide)
  next e' _ h =>
    have he : e' = { e with done := reach } := if_neg hread
    rw [he]
    exact if_neg hverify
  next _ h => exact absurd hkind h

/-- A descriptor that has sectors left stays in the table. -/
theorem State.goOn_next {e : Mwd} {z : Config.ZoneRow} (hleft : e.done < e.sectors z) (hcancel : e.cancel = false) (hfailed :
    e.failed = []) :
    ∃ e', s.goOn e z = s.updMwd e' ∧ e'.id = e.id ∧ e'.issued = e.issued ∧ e'.done = e.done := by
  have hnext (e' : Mwd) (hdone : e'.done = e.done) (hsectors : e'.sectors z = e.sectors z) : (e'.nextOp z).isNone = false := by
    unfold Mwd.nextOp
    rw [if_pos (by rw [hdone, hsectors]; exact hleft)]
    rfl
  unfold State.goOn
  by_cases h : e.ladder = 0
  · refine ⟨{ e with lost := e.lost ++ e.failed.map (fun e => (e.1, e.2.1)), failed := [] }, ?_, rfl, rfl, rfl⟩
    rw [if_pos h]
    dsimp only
    rw [hnext { e with lost := e.lost ++ e.failed.map (fun e => (e.1, e.2.1)), failed := [] } rfl rfl,
      if_neg (fun h => Bool.false_ne_true h.2), hcancel, if_neg Bool.false_ne_true]
  · refine ⟨e, ?_, rfl, rfl, rfl⟩
    rw [if_neg h]
    dsimp only
    rw [hnext _ rfl rfl, if_neg (fun h => Bool.false_ne_true h.2), hcancel, if_neg Bool.false_ne_true]

/-- A write that wrote its sectors and has more to write stays on its stream, to write them. -/
theorem State.opEnded_write {n : Nat} {d : Mwd} {z : Config.ZoneRow} (hmem : d ∈ s.mq.descs) (hissued : d.issued = true) (hop : d.op = 2)
    (hkind : d.opKind = 0) (hcancel : d.cancel = false) (hfailed : d.failed = []) (hbuf : (s.stage n).bufErr = false)
    (hlost : (s.chan n).lost = 0) (hterm : s.get (.REED_ST_STATUS_TERM n) = 0) (hresult : s.get (.REED_ST_STATUS_RESULT n) ≤ 1)
    (hleft : d.opFirst + min (s.seq n).sectorsCommitted d.opCount < d.sectors z) :
    ∃ e ∈ (s.opEnded n d z).mq.descs, e.id = d.id ∧ e.issued = false ∧ e.done = d.opFirst + min (s.seq n).sectorsCommitted d.opCount := by
  have hterm' : (s.collected n).get (.REED_ST_STATUS_TERM n) = 0 :=
    (State.collected_get (apart_mod (n := 8) _ (by decide) (by simp) (by decide +kernel) n)).trans hterm
  have hresult' : (s.collected n).get (.REED_ST_STATUS_RESULT n) ≤ 1 :=
    (State.collected_get (apart_mod (n := 8) _ (by decide) (by simp) (by decide +kernel) n)).trans_le hresult
  have hcommitted : ((s.collected n).seq n).sectorsCommitted = (s.seq n).sectorsCommitted := by rw [State.collected_seq]
  have hbuf' : ((s.collected n).stage n).bufErr = false := by rw [State.collected_stage, hbuf]
  obtain ⟨e, hend, hid, hissued', hdone⟩ : ∃ e, (s.collected n).endOp n d z ((s.chan n).taken ++ (s.chan n).results)
      ((s.chan n).vfyTaken ++ (s.chan n).vfy) (decide (0 < (s.chan n).lost)) = (s.collected n).updMwd e ∧ e.id = d.id ∧ e.issued = false ∧
      e.done = d.opFirst + min (s.seq n).sectorsCommitted d.opCount := by
    unfold State.endOp
    extract_lets g term result k reach e moved stopped
    have hk : k = min (s.seq n).sectorsCommitted d.opCount := by
      unfold k
      rw [if_neg (by omega), hcommitted]
    have he : e = { d with
        issued := false, done := d.opFirst + k,
        poisoned := g.markers.foldl (fun a m => if m < k then lower a (d.opFirst + m) else a) d.poisoned } :=
      Mwd.progress_write (d := { d with issued := false }) hop hkind
    have hzero : term = 0 := hterm'
    have hresult0 : result ≤ 1 := hresult'
    have hmore : d.opFirst + k < d.sectors z := by rw [hk]; exact hleft
    clear_value e term result stopped k
    subst he hk
    rw [if_neg (show ¬g.bufErr = true by rw [show g.bufErr = false from hbuf']; exact Bool.false_ne_true), hlost,
      if_neg (show ¬decide (0 < 0) = true by decide), hzero]
    dsimp only
    rw [if_neg (fun h => absurd (hkind.symm.trans h.1) (by decide)),
       if_pos ((Nat.le_one_iff_eq_zero_or_eq_one.1 hresult0).imp id (fun h => ⟨h, by rw [hcancel]; rfl⟩))]
    obtain ⟨e, hgo, hid, hissued, hdone⟩ := State.goOn_next (s := s.collected n) (z := z) (e := { d with
      issued := false, timing := 0, timingAt := 0, limited := false, done := d.opFirst + min (s.seq n).sectorsCommitted d.opCount,
      poisoned := g.markers.foldl (fun a m => if m < min (s.seq n).sectorsCommitted d.opCount then lower a (d.opFirst + m) else a) d.poisoned })
      hmore hcancel hfailed
    exact ⟨e, hgo, hid, hissued, hdone⟩
  unfold State.opEnded
  rw [State.mwqSync_mq, hissued, hop]
  change ∃ e ∈ ((s.collected n).endOp n d z ((s.chan n).taken ++ (s.chan n).results)
      ((s.chan n).vfyTaken ++ (s.chan n).vfy) (decide (0 < (s.chan n).lost))).mq.descs, _
  rw [hend]
  exact ⟨e, State.updMwd_mem (d := d) (by rw [State.collected_mq]; exact hmem) hid, hid, hissued', hdone⟩

/-- Settles O44: the start and the ladder change what the heads stand on nowhere before they seek, and an end leaves the stream quiet. -/
theorem descriptorsStartAndEnd : Obligations.DescriptorsStartAndEnd := by
  unfold Obligations.DescriptorsStartAndEnd
  refine ⟨fun s n slot hmay hnone hidle => ?_, fun s n q slot d hn hmay hnone hidle hq hd hqueue hslot hsoonest h5 h8 hlanes => ?_,
    fun s n q slot hno => ?_, fun s n d hon hop hstate hissued hfree => ?_, fun s n d hon hfree => ?_, fun s k d hhint hany hbatch => ?_,
    fun s k d hhint hany => ?_, fun s n d o x last rest hn hon hfailed hissued hlad hidle hacts hpf hawait hdata hlast => ?_,
    fun s n d o x last rest hn hon hfailed hissued hlad hidle hacts hpf hawait hdata hlast hsec hlanes => ?_,
    fun s n hn hend hacts hidle hawait hposted hread => ?_⟩
  · refine completes_of_outFrame (execDescriptorStart_frame (parts_in rfl) (fun _ hr => hr))
      (t := (s.updMq (fun m => { m with calibration := m.calibration.filter (· ≠ n / 2) })).mwqSync) ?_ (fun _ => ?_)
    · change execDescriptorStart n 16 slot s = _
      unfold execDescriptorStart
      dsimp only
      rw [hmay, hnone, hidle]
      rfl
    · rw [State.mwqSync_mq]
      exact ⟨rfl, rfl⟩
  · refine completes_of_outFrame (execDescriptorStart_frame (parts_in rfl) (fun _ hr => hr)) (t := (s.startMwd n d).mwqSync) ?_
      (fun _ => ⟨?_, fun hsurface hstands => ?_⟩)
    · change execDescriptorStart n q slot s = _
      unfold execDescriptorStart
      dsimp only
      rw [hmay, hnone, hidle, if_neg (by decide), if_neg hq, State.soonest_found hd hqueue hslot hsoonest]
      dsimp only
      rw [hlanes, Bool.not_true, Bool.and_false, if_neg Bool.false_ne_true]
    · rw [State.mwqSync_mq, State.startMwd_mq h5 h8]
      exact ⟨_, State.placed_mem n (State.mem_descs_of_candidate hd), rfl, rfl, rfl⟩
    · have hstart : s.startMwd n d = (s.prepared n d).seekTo n (1024 * d.track) := by
        rw [State.startMwd_eq h5 h8, (State.prepared_sameStand hsurface).stands, hstands, Bool.and_false]
        rfl
      rw [hstart, State.mwqSync_get (apart_mod_mod (n := 4) (m := 2) _ (by decide) (by decide) (by simp) (by decide +kernel) _ _),
        State.seekTo_track, Nat.mul_div_cancel_left _ (by decide), State.sec_of_tus State.mwqSync_tus]
      exact ⟨rfl, State.seekTo_cmd _ _⟩
  · refine completes_of_outFrame (execDescriptorStart_frame (parts_in rfl) (fun _ hr => hr)) (t := s) ?_ (fun _ => rfl)
    change execDescriptorStart n q slot s = _
    unfold execDescriptorStart
    refine if_pos ?_
    rcases hno with h | h | h
    · rw [h]
      rfl
    · rw [Option.isSome_iff_ne_none.2 h, Bool.or_true, Bool.true_or]
    · rw [h, Bool.or_true]
  · refine completes_of_outFrame (execSeekHint_frame (parts_in rfl) (fun _ hr => hr))
      (t := ((s.set (.TUS_SEEK_CTRL_HINT d.sec) 1).latchSeek d.sec true).updMwd { d with issued := true }) ?_
      (fun _ => ⟨?_, State.latchSeek_seekCmd _ _, _, State.updMwd_mem (d := d) (List.mem_of_find?_eq_some hon) rfl, rfl, rfl⟩)
    · change execSeekHint n s = _
      unfold execSeekHint
      rw [hon]
      exact congrArg Host.Outcome.next (if_pos ⟨hop, hstate, by rw [hissued]; rfl, hfree⟩)
    · rw [State.updMwd_get, State.latchSeek_get]
      exact State.get_set_self _ _ _ (by simp)
  · refine completes_of_outFrame (execSeekHint_frame (parts_in rfl) (fun _ hr => hr)) (t := s) ?_ (fun _ => rfl)
    change execSeekHint n s = _
    unfold execSeekHint
    rw [hon]
    refine congrArg Host.Outcome.next (if_neg ?_)
    rw [hfree]
    exact fun h => Bool.false_ne_true h.2.2.2
  · obtain ⟨hmem, hop, hsec⟩ := State.hintOf_some hhint
    refine completes_of_outFrame (execHintTimeout_frame (parts_in rfl) (fun _ hr => hr))
      (t := (s.dropHint d).complete { d with issued := false } { status := 0x32 }) ?_ (fun _ => ⟨?_, fun hissued hseek => ?_⟩)
    · change execHintTimeout k s = _
      unfold execHintTimeout
      rw [hhint]
      dsimp only
      rw [if_neg (by rw [hany]; exact Bool.false_ne_true), State.abandonHint, hhint]
    · rw [State.complete_descs (d := { d with issued := false }) hbatch, State.dropHint_mq]
    · rw [State.sec_of_tus State.complete_tus, State.dropHint_of_issued hissued (by rw [hsec]; exact hseek), ← hsec]
      exact State.latchSeek_seekCmd _ _
  · refine completes_of_outFrame (execHintTimeout_frame (parts_in rfl) (fun _ hr => hr)) (t := s) ?_ (fun _ => rfl)
    change execHintTimeout k s = _
    unfold execHintTimeout
    rw [hhint]
    exact congrArg Host.Outcome.next (if_pos hany)
  · have hmay : s.MayClimb n d last := ⟨hon, ⟨o, x, rest, hfailed⟩, hissued, hlad, hidle, hacts, hpf, hawait, hdata⟩
    cases hzone : s.zoneAt d.surface d.track with
    | none =>
      exact completes_of_outFrame (execLadderStep_frame (parts_in rfl) (fun _ hr => hr)) (hmay.outside hzone)
        (fun _ h => absurd h (by decide))
    | some z =>
      refine completes_of_outFrame (execLadderStep_frame (parts_in rfl) (fun _ hr => hr)) (hmay.steps hzone) (fun _ _ => ?_)
      have hplan : ((d.ladderPlan z.2 (last + 1)).headD {}).media = false := by
        rcases hlast with rfl | rfl <;> rfl
      obtain ⟨hmode, hstep⟩ := State.ladderStart_decodes (s := s.updMwd (d.climbed z.2 last)) (n := n) (zone := z.1)
        (d := d.climbed z.2 last) (z := z.2) hplan
      exact ⟨hmode, hstep.trans (by rcases hlast with rfl | rfl <;> rfl)⟩
  · have hmay : s.MayClimb n d last := ⟨hon, ⟨o, x, rest, hfailed⟩, hissued, hlad, hidle, hacts, hpf, hawait, hdata⟩
    cases hzone : s.zoneAt d.surface d.track with
    | none =>
      exact completes_of_outFrame (execLadderStep_frame (parts_in rfl) (fun _ hr => hr)) (hmay.outside hzone)
        (fun _ _ _ h => by cases h)
    | some z =>
      refine completes_of_outFrame (execLadderStep_frame (parts_in rfl) (fun _ hr => hr)) (hmay.steps hzone)
        (fun _ zone z' hz hstands hseeks => ?_)
      cases hz
      have hplan : (d.ladderPlan z' (last + 1)).headD {} = { at_ := d.sector + o } := by
        unfold Mwd.ladderPlan
        rw [hlast, hfailed]
        rfl
      have hseek : (s.updMwd (d.climbed z' last)).ladderStart n (d.climbed z' last) zone z' { at_ := d.sector + o } =
          (s.updMwd (d.climbed z' last)).seekTo n (1024 * (d.track + (d.sector + o) / z'.sectors)) :=
        State.ladderStart_seeks rfl rfl hstands (show s.lanesIdle d.sec = true by rw [hsec]; exact hlanes) hseeks
      dsimp only
      rw [hplan, hseek,
        State.mwqSync_get (apart_mod_mod (n := 4) (m := 2) _ (by decide) (by decide) (by simp) (by decide +kernel) _ _),
        State.seekTo_track, Nat.mul_div_cancel_left _ (by decide), State.sec_of_tus State.mwqSync_tus]
      exact ⟨State.seekTo_cmd _ _, rfl⟩
  · have hready : ¬(MireIrq.opEnd n ∉ s.mireIrq ∨ (s.running n || decide (0 < (s.chan n).awaiting) ||
        ((s.chan n).vfyTaken ++ (s.chan n).vfy).any (fun e => !e.posted) ||
        ((s.stage n).read && !(s.stage n).bufErr && !(s.stage n).data.isEmpty)) = true ∨ (!s.mireActs) = true) := by
      have hposted' : ((s.chan n).vfyTaken ++ (s.chan n).vfy).any (fun e => !e.posted) = false := by
        rw [List.any_eq_false]
        exact fun e he => by rw [hposted e he]; exact Bool.false_ne_true
      have hread' : ((s.stage n).read && !(s.stage n).bufErr && !(s.stage n).data.isEmpty) = false := by
        rcases hread with h | h | h <;> simp [h]
      rw [hidle, hawait, hposted', hread', hacts]
      exact fun h => h.elim (fun h => h hend) (by decide)
    have hquiet := State.collected_quiet hidle
    have hexec := execOperationEnd_of_ready hready
    cases hd : s.mwdOn n with
    | none =>
      rw [hd, Option.bind_none, Option.getD_none] at hexec
      exact completes_of_outFrame (execOperationEnd_frame (parts_in rfl) (fun _ hr => hr)) hexec
        (fun _ => ⟨hquiet.served, hquiet.results, hquiet.events, fun _ => by rw [State.collected_mq],
          fun d zone z h => by cases h⟩)
    | some d =>
      cases hz : s.zoneAt d.surface d.track with
      | none =>
        rw [hd, Option.bind_some, hz] at hexec
        refine completes_of_outFrame (execOperationEnd_frame (parts_in rfl) (fun _ hr => hr)) hexec
          (fun _ => ⟨hquiet.served, hquiet.results, hquiet.events, fun h => (by cases h), fun e zone z he hzone => ?_⟩)
        cases he
        rw [hz] at hzone
        cases hzone
      | some z =>
        rw [hd, Option.bind_some, hz] at hexec
        have hended : (s.opEnded n d z.2).Quiet n := State.opEnded_quiet hidle d z.2
        refine completes_of_outFrame (execOperationEnd_frame (parts_in rfl) (fun _ hr => hr)) hexec
          (fun _ => ⟨hended.served, hended.results, hended.events, fun h => (by cases h), fun e zone z' he hzone => ?_⟩)
        cases he
        rw [hz] at hzone
        cases hzone
        exact fun hissued hop hkind hcancel hfailed hbuf hlost hterm hresult hleft =>
          State.opEnded_write (List.mem_of_find?_eq_some hd) hissued hop hkind hcancel hfailed hbuf hlost hterm hresult hleft

end Sys2Proof.Machine
end

section
set_option Elab.async false
/-! REQUESTS AND THEIR ANSWERS (09, 10). What a command of Aqsia reads of its request, and what an answer writes: the pair's registers,
  and what
the session that it names owns where that session is not open (R207, R210, R212). -/

namespace Sys2Proof.Machine

variable {s t : State} {p status : Nat} {started : Bool} {payload : List Byte}

/-! ### A request that runs -/

/-- A pair that runs the command has it executed. -/
theorem State.onCommand_of_runs {cmd : Nat} (h : s.Runs p cmd) (f : State → State) : s.onCommand p cmd f = f s := if_pos h

/-- The registers that an answer reads of a pair are those of `s`. -/
structure State.SameBox (p : Nat) (s t : State) : Prop where
  cmd : t.get (.MBX_LATCH_CMD p) = s.get (.MBX_LATCH_CMD p)
  tag : t.get (.MBX_LATCH_TAG p) = s.get (.MBX_LATCH_TAG p)
  session : t.get (.MBX_STAT_SESSION p) = s.get (.MBX_STAT_SESSION p)
  gen : t.get (.MBX_LATCH_GEN_GEN p) = s.get (.MBX_LATCH_GEN_GEN p)

/-- None of the registers is one that an answer reads of a pair. -/
def outsideBox (R : List Regs) : Bool := (List.range 64).all (fun p => R.all (fun r => r.apartB (.MBX_LATCH_CMD p) && r.apartB (.MBX_LATCH_TAG p) &&
  r.apartB (.MBX_STAT_SESSION p) && r.apartB (.MBX_LATCH_GEN_GEN p)))

/-- None of the registers is one that a request stands in. -/
def outsideRequest (R : List Regs) : Bool :=
  (List.range 64).all (fun p => (List.range 64).all (fun w => R.all (fun r => r.apartB (.MBX_REQ_DATA p w))))

theorem State.reqBytes_congr (h : ∀ w, t.get (.MBX_REQ_DATA p w) = s.get (.MBX_REQ_DATA p w)) (off len : Nat) :
    t.reqBytes p off len = s.reqBytes p off len := by
  unfold State.reqBytes State.reqByte
  simp only [h]

theorem Frame.requestWord {W : List Part} {R : List Regs} (h : Frame W R s t) (hR : outsideRequest R = true) (w : Nat) :
    t.get (.MBX_REQ_DATA p w) = s.get (.MBX_REQ_DATA p w) :=
  h.get (apart_mod_mod (n := 64) (m := 64) .MBX_REQ_DATA (by decide) (by decide) (by simp) hR p w)

theorem Frame.reqBytes {W : List Part} {R : List Regs} (h : Frame W R s t) (hR : outsideRequest R = true) (off len : Nat) :
    t.reqBytes p off len = s.reqBytes p off len := State.reqBytes_congr (fun w => h.requestWord hR w) off len

theorem Frame.req {W : List Part} {R : List Regs} (h : Frame W R s t) (hR : outsideRequest R = true) (off len : Nat) :
    t.req p off len = s.req p off len := congrArg leNat (h.reqBytes hR off len)

theorem State.SameBox.refl (p : Nat) (s : State) : s.SameBox p s := ⟨rfl, rfl, rfl, rfl⟩

theorem State.SameBox.trans {u : State} (h : s.SameBox p t) (h' : t.SameBox p u) : s.SameBox p u :=
  ⟨h'.cmd.trans h.cmd, h'.tag.trans h.tag, h'.session.trans h.session, h'.gen.trans h.gen⟩

theorem State.SameBox.of_regs (h : t.regs = s.regs) : s.SameBox p t :=
  ⟨get_of_regs h _, get_of_regs h _, get_of_regs h _, get_of_regs h _⟩

theorem Frame.sameBox {W : List Part} {R : List Regs} (h : Frame W R s t) (hR : outsideBox R = true) (p : Nat) : s.SameBox p t := by
  have hout := List.all_eq_true.1 hR
  simp only [List.all_eq_true, Bool.and_eq_true] at hout
  have hout' (f : Nat → Fld) (hf : ∀ k < 64, ∀ r ∈ R, r.apartB (f k) = true) (hmod : ∀ k, f (k % 64) = f k) : t.get (f p) = s.get (f p) :=
    h.get (apart_mod (n := 64) f (by decide) hmod (List.all_eq_true.2 fun k hk => List.all_eq_true.2 (hf k (List.mem_range.1 hk))) p)
  exact ⟨hout' .MBX_LATCH_CMD (fun k hk r hr => (hout k (List.mem_range.2 hk) r hr).1.1.1) (by simp),
    hout' .MBX_LATCH_TAG (fun k hk r hr => (hout k (List.mem_range.2 hk) r hr).1.1.2) (by simp),
    hout' .MBX_STAT_SESSION (fun k hk r hr => (hout k (List.mem_range.2 hk) r hr).1.2) (by simp),
    hout' .MBX_LATCH_GEN_GEN (fun k hk r hr => (hout k (List.mem_range.2 hk) r hr).2) (by simp)⟩

theorem State.SameBox.key (h : s.SameBox p t) : t.mbxKey p = s.mbxKey p := Prod.ext h.session h.gen

/-! ### What an answer writes -/

/-- The registers of an answer. -/
def answerRegs : List Regs := [.arr (.MBX_DONE_DONE 0) 0x4 2, .grid (.MBX_RSP_DATA 0 0) 0x400 64 0x4 64,
  .arr (.MBX_STAT_CANCEL_REQ 0) 0x400 64,
  .arr (.MBX_STAT_STARTED 0) 0x400 64, .arr (.MBX_STAT_STATE 0) 0x400 64, .arr (.MBX_LATCH_RSP_STATUS 0) 0x400 64]

/-- The registers of an answer, and of what a session owned. -/
def respondRegs : List Regs := [.fld .PEAT_STATUS_STAMP_WAIT, .fld .PEAT_STATUS_HELD, .fld .PEAT_STATUS_USED,
  .fld .PEAT_FRZ_AREA] ++ answerRegs ++
  [.fld .DYKE_SLOT_INACTIVE]

theorem State.writeRsp_within (p status : Nat) (started : Bool) (session gen : Nat) (payload : List Byte) :
    Frame [.fenIrq] answerRegs s (s.writeRsp p status started session gen payload) :=
  State.writeRsp_frame (fun _ hp => hp) (fun _ hr => hr) (Frame.refl _ _ s)

theorem State.respond_within (p status : Nat) (started : Bool) (payload : List Byte) :
    Frame [.fenIrq, .aq, .dyke] respondRegs s (s.respond p status started payload) :=
  State.respond_frame (fun _ hp => hp) (regs_in (by decide +kernel)) (Frame.refl _ _ s)

theorem State.respond_get {g : Fld} (h : respondRegs.all (fun r => r.apartB g) = true) :
    (s.respond p status started payload).get g = s.get g :=
  (State.respond_within p status started payload).get h

theorem State.respond_same (P : Part) (h : P ∉ ([.fenIrq, .aq, .dyke] : List Part)) : P.same s (s.respond p status started payload) :=
  (State.respond_within p status started payload).same P h

section answer

variable {session gen : Nat}

/-- A number whose bit `k` is put to `b`, by the bits above and below it. -/
theorem putBit_eq (f k b : Nat) : f - f / 2 ^ k % 2 * 2 ^ k + b * 2 ^ k = 2 ^ k * (2 * (f / 2 ^ k / 2) + b) + f % 2 ^ k := by
  have hdiv := Nat.div_add_mod f (2 ^ k)
  have hmul : 2 ^ k * (f / 2 ^ k) = 2 ^ k * (2 * (f / 2 ^ k / 2)) + f / 2 ^ k % 2 * 2 ^ k := by
    rw [Nat.mul_comm (f / 2 ^ k % 2), ← Nat.mul_add, Nat.div_add_mod]
  rw [Nat.mul_add, Nat.mul_comm b]
  omega

theorem putBit_self {f k n b : Nat} (hk : k < n) (hf : f < 2 ^ n) (hb : b ≤ 1) :
    f - f / 2 ^ k % 2 * 2 ^ k + b * 2 ^ k < 2 ^ n ∧ (f - f / 2 ^ k % 2 * 2 ^ k + b * 2 ^ k) / 2 ^ k % 2 = b := by
  have hpos : 0 < 2 ^ k := Nat.two_pow_pos k
  have hpow : 2 ^ n = 2 ^ k * (2 * 2 ^ (n - k - 1)) := by
    rw [← Nat.pow_succ', ← Nat.pow_add]
    congr 1
    omega
  have hrest := Nat.mod_lt f hpos
  have hhalf : f / 2 ^ k / 2 < 2 ^ (n - k - 1) := by
    rw [Nat.div_div_eq_div_mul, ← Nat.pow_succ, Nat.div_lt_iff_lt_mul (Nat.two_pow_pos _), ← Nat.pow_add]
    exact hf.trans_eq (by congr 1; omega)
  rw [putBit_eq]
  constructor
  · rw [hpow]
    calc 2 ^ k * (2 * (f / 2 ^ k / 2) + b) + f % 2 ^ k < 2 ^ k * (2 * (f / 2 ^ k / 2) + b) + 2 ^ k := by omega
      _ = 2 ^ k * (2 * (f / 2 ^ k / 2) + b + 1) := (Nat.mul_succ _ _).symm
      _ ≤ 2 ^ k * (2 * 2 ^ (n - k - 1)) := Nat.mul_le_mul_left _ (by omega)
  · rw [Nat.mul_add_div hpos, Nat.div_eq_of_lt hrest]
    omega

theorem putBit_other {f k j b : Nat} (hj : j ≠ k) (hb : b ≤ 1) : (f - f / 2 ^ k % 2 * 2 ^ k + b * 2 ^ k) / 2 ^ j % 2 = f / 2 ^ j % 2 := by
  have hrest := Nat.mod_lt f (Nat.two_pow_pos k)
  have hf : f = 2 ^ k * (f / 2 ^ k) + f % 2 ^ k := (Nat.div_add_mod f (2 ^ k)).symm
  rw [putBit_eq, ← Nat.toNat_testBit, ← Nat.toNat_testBit, Nat.testBit_two_pow_mul_add _ hrest]
  conv_rhs => rw [hf, Nat.testBit_two_pow_mul_add _ hrest]
  by_cases hlt : j < k
  · rw [if_pos hlt, if_pos hlt]
  · obtain ⟨i, hi⟩ : ∃ i, j - k = i + 1 := ⟨j - k - 1, by omega⟩
    rw [if_neg hlt, if_neg hlt, hi, Nat.testBit_add_one, Nat.testBit_add_one, Nat.mul_add_div (by decide),
      Nat.div_eq_of_lt (show b < 2 by omega), Nat.add_zero]

theorem State.putRsp_data {w : Nat} (hw : w < 64) (bs : List Byte) : (s.putRsp p bs).get (.MBX_RSP_DATA p w) = fieldAt bs (4 * w) 4 := by
  refine State.forN_reaches (Inv := fun _ => True) (P := fun t => t.get (.MBX_RSP_DATA p w) = fieldAt bs (4 * w) 4) hw trivial
    (fun _ _ _ _ => trivial)
    (fun t _ => (State.get_set_self _ _ _ (by simp)).trans (Nat.mod_eq_of_lt (fieldAt_lt bs (4 * w)))) (fun j hj t ht => ?_)
  by_cases h : j = w
  · subst h
    exact (State.get_set_self _ _ _ (by simp)).trans (Nat.mod_eq_of_lt (fieldAt_lt bs (4 * j)))
  · rw [State.get_set_other _ _ (.inl (by dsimp only; omega)), ht]

theorem State.doneBit_set : (s.doneBit p true).get (.MBX_DONE_DONE (p / 32)) / 2 ^ (p % 32) % 2 = 1 := by
  have hk : p % 32 < 32 := Nat.mod_lt _ (by decide)
  have hlt := State.get_lt s (.MBX_DONE_DONE (p / 32))
  have hput := putBit_self hk (show s.get (.MBX_DONE_DONE (p / 32)) < 2 ^ 32 from hlt) (Nat.le_refl 1)
  rw [Nat.one_mul] at hput
  unfold State.doneBit
  dsimp only
  rw [State.get_set_self _ _ _ (by simp), if_pos rfl]
  exact (congrArg (fun v => v / 2 ^ (p % 32) % 2) (Nat.mod_eq_of_lt hput.1)).trans hput.2

theorem State.doneBit_other {on : Bool} {g : Fld} (h : g.addr ≠ (Fld.MBX_DONE_DONE (p / 32)).addr) : (s.doneBit p on).get g = s.get g :=
  State.get_set_other _ _ (.inl h)

theorem State.writeRsp_answers (hstatus : status < 2 ^ 16) : (s.writeRsp p status started session gen payload).mbx p = 3 ∧
    (s.writeRsp p status started session gen payload).get (.MBX_LATCH_RSP_STATUS p) = status ∧
    (s.writeRsp p status started session gen payload).get (.MBX_STAT_STARTED p) = started.toNat ∧
    (s.writeRsp p status started session gen payload).get (.MBX_DONE_DONE (p / 32)) / 2 ^ (p % 32) % 2 = 1 ∧
    ∀ w < 64, (s.writeRsp p status started session gen payload).get (.MBX_RSP_DATA p w) =
      fieldAt (leBytes 2 (s.mbxCmd p) ++ leBytes 2 (s.get (.MBX_LATCH_TAG p)) ++ leBytes 2 status ++ leBytes 2 payload.length ++
        leBytes 4 gen ++ leBytes 1 session ++ leBytes 1 started.toNat ++ leBytes 2 0 ++ payload) (4 * w) 4 := by
  unfold State.writeRsp State.setIf
  extract_lets h s1 s2
  have hirq (g : Fld) : (s2.when (s2.is (.MBX_CTRL_IRQ_EN p) && decide (p < 48)) (fun s => s.irqFen (s.get (.MBX_CTRL_CORE p)) (.mailbox p))).get g =
      s2.get g := State.when_get (State.irqFen_get _ _ _ _)
  refine ⟨?_, ?_, ?_, ?_, fun w hw => ?_⟩
  · refine (hirq _).trans ?_
    rw [State.doneBit_other (by dsimp only; omega)]
    exact State.get_set_self _ _ _ (by simp)
  · rw [hirq, State.doneBit_other (by dsimp only; omega), State.get_set_other _ _ (by simp), State.get_set_other _ _ (by simp),
    State.get_set_other _ _ (by simp)]
    exact (State.get_set_self _ _ _ (by simp)).trans (Nat.mod_eq_of_lt hstatus)
  · rw [hirq, State.doneBit_other (by dsimp only; omega), State.get_set_other _ _ (by simp), State.get_set_other _ _ (by simp)]
    exact (State.get_set_self _ _ _ (by simp)).trans (Nat.mod_eq_of_lt (Bool.toNat_lt started))
  · rw [hirq]
    exact State.doneBit_set
  · rw [hirq, State.doneBit_other (by dsimp only; omega), State.get_set_other _ _ (.inl (by dsimp only; omega)),
    State.get_set_other _ _ (.inl (by dsimp only; omega)), State.get_set_other _ _ (.inl (by dsimp only; omega)),
    State.get_set_other _ _ (.inl (by dsimp only; omega))]
    exact State.putRsp_data hw _

end answer

/-! ### What an answer leaves of Aqsia -/

/-- The request of a pair, gone. -/
def Aqsia.dropped (a : Aqsia) (p : Nat) : Aqsia := { a with
  ring := a.ring.filter (· ≠ p), toCancel := a.toCancel.filter (· ≠ p), running := a.running.filter (fun e => e.1 ≠ p),
    runs := a.runs.put p {} }

/-- What the end of a session changes of Aqsia, left out. -/
def Aqsia.unowned (a : Aqsia) : Aqsia := { a with load := none, freezes := [] }

theorem State.dropUpdate_aq : s.dropUpdate.aq = s.aq := rfl

theorem State.unfreeze_aq (a : Nat) : (s.unfreeze a).aq = s.aq :=
  (State.unfreeze_frame (W := []) regsIn_all (Frame.refl _ _ s)).same .aq (by decide)

/-- The freeze of an area that a session set, ended. -/
def State.endFreeze (s : State) (key : Nat × Nat) (a : Nat) : State :=
  s.when (s.aq.freezes.at a == some key) (fun s => (s.unfreeze a).updAq (fun q => { q with freezes := q.freezes.put a none }))

theorem State.endFreeze_unowned (key : Nat × Nat) (a : Nat) : (s.endFreeze key a).aq.unowned = s.aq.unowned := by
  unfold State.endFreeze State.when
  split
  · change (s.unfreeze a).aq.unowned = s.aq.unowned
    rw [State.unfreeze_aq]
  · rfl

theorem State.releaseOwned_unowned (key : Nat × Nat) : (s.releaseOwned key).aq.unowned = s.aq.unowned := by
  unfold State.releaseOwned
  extract_lets s1 s2
  have h1 : s1.aq.unowned = s.aq.unowned := by
    unfold s1 State.when
    split <;> rfl
  have h2 : s2.aq.unowned = s1.aq.unowned := State.forN_keeps (fun t => t.aq.unowned) (f := fun a t => t.endFreeze key a)
    (fun i t => State.endFreeze_unowned key i) 10
  rw [← h1, ← h2]
  clear_value s2
  unfold State.when
  split
  · dsimp only
    split
    · rfl
    · rw [State.dropUpdate_aq]
  · rfl

theorem State.dropRequest_unowned : (s.dropRequest p).aq.unowned = (s.aq.dropped p).unowned := by
  unfold State.dropRequest
  extract_lets key s1 busy
  have h1 : s1.aq = s.aq.dropped p := State.updAq_aq _ _
  clear_value s1 busy key
  rw [← h1]
  exact State.when_keeps (s := s1) (f := fun t => t.releaseOwned key) (fun t => t.aq.unowned) (State.releaseOwned_unowned key)

theorem State.respond_unowned : (s.respond p status started payload).aq.unowned = (s.aq.dropped p).unowned := by
  unfold State.respond
  rw [State.dropRequest_unowned, (State.writeRsp_within p status started (s.mbxKey p).1 (s.mbxKey p).2 payload).same .aq (by decide)]

theorem State.respond_sessions : (s.respond p status started payload).aq.sessions = s.aq.sessions := by
  have h := congrArg Aqsia.sessions (State.respond_unowned (s := s) (p := p) (status := status) (started := started) (payload := payload))
  exact h

theorem State.respond_progs : (s.respond p status started payload).aq.progs = s.aq.progs := by
  have h := congrArg Aqsia.progs (State.respond_unowned (s := s) (p := p) (status := status) (started := started) (payload := payload))
  exact h

theorem State.respond_binds : (s.respond p status started payload).aq.binds = s.aq.binds := by
  have h := congrArg Aqsia.binds (State.respond_unowned (s := s) (p := p) (status := status) (started := started) (payload := payload))
  exact h

theorem State.respond_servo : (s.respond p status started payload).aq.servo = s.aq.servo := by
  have h := congrArg Aqsia.servo (State.respond_unowned (s := s) (p := p) (status := status) (started := started) (payload := payload))
  exact h

theorem State.respond_quote : (s.respond p status started payload).aq.quote = s.aq.quote := by
  have h := congrArg Aqsia.quote (State.respond_unowned (s := s) (p := p) (status := status) (started := started) (payload := payload))
  exact h

theorem State.respond_cal : (s.respond p status started payload).aq.cal = s.aq.cal := by
  have h := congrArg Aqsia.cal (State.respond_unowned (s := s) (p := p) (status := status) (started := started) (payload := payload))
  exact h

theorem State.dropRequest_get {g : Fld} (h : ([.fld .PEAT_STATUS_STAMP_WAIT, .fld .PEAT_STATUS_HELD, .fld .PEAT_STATUS_USED,
    .fld .PEAT_FRZ_AREA, .fld .DYKE_SLOT_INACTIVE] : List Regs).all (fun r => r.apartB g) = true) : (s.dropRequest p).get g = s.get g :=
  (State.dropRequest_frame (fun _ hp => hp) (fun _ hr => hr) (Frame.refl _ _ _)).get h

/-- Pair `p` is answered: the response, STATUS, STARTED and DONE are written, and the request has gone. -/
theorem State.writeRsp_answered {session gen : Nat} (h : s.SameBox p t) (hstatus : status < 2 ^ 16) :
    AnsweredTo (session, gen) s ((t.writeRsp p status started session gen payload).dropRequest p) p status started payload := by
  obtain ⟨hstate, hlatch, hstarted, hdone, hdata⟩ := State.writeRsp_answers (s := t) (p := p) (started := started) (session := session)
    (gen := gen) (payload := payload) hstatus
  have haq := State.dropRequest_unowned (s := t.writeRsp p status started session gen payload) (p := p)
  refine ⟨(State.dropRequest_get (apart_mod (n := 64) .MBX_STAT_STATE (by decide) (by simp) (by decide +kernel) p)).trans hstate,
    (State.dropRequest_get (apart_mod (n := 64) .MBX_LATCH_RSP_STATUS (by decide) (by simp) (by decide +kernel) p)).trans hlatch,
    (State.dropRequest_get (apart_mod (n := 64) .MBX_STAT_STARTED (by decide) (by simp) (by decide +kernel) p)).trans hstarted, ?_,
    fun w hw => ?_, ?_, ?_⟩
  · rw [State.dropRequest_get (apart_mod (n := 2) .MBX_DONE_DONE (by decide) (by simp) (by decide +kernel) _)]
    exact hdone
  · rw [State.dropRequest_get (apart_mod_mod (n := 64) (m := 64) .MBX_RSP_DATA (by decide) (by decide) (by simp) (by decide +kernel) p w),
      hdata w hw, State.mbxCmd, h.cmd, h.tag]
    rfl
  · rw [show ((t.writeRsp p status started session gen payload).dropRequest p).aq.ring =
      (t.writeRsp p status started session gen payload).aq.ring.filter (· ≠ p) from congrArg Aqsia.ring haq]
    simp
  · rw [show ((t.writeRsp p status started session gen payload).dropRequest p).aq.running =
      (t.writeRsp p status started session gen payload).aq.running.filter (fun e => e.1 ≠ p) from congrArg Aqsia.running haq, List.all_eq_true]
    exact fun e he => bne_iff_ne.2 (of_decide_eq_true (List.mem_filter.1 he).2)

theorem State.respond_answered (h : s.SameBox p t) (hstatus : status < 2 ^ 16) :
    Answered s (t.respond p status started payload) p status started payload := by
  unfold State.respond
  rw [h.key]
  exact State.writeRsp_answered h hstatus

theorem State.respond_answers (hstatus : status < 2 ^ 16) : Answered s (s.respond p status started payload) p status started payload :=
  State.respond_answered (State.SameBox.refl p s) hstatus

/-! ### The answer to a request of an open session -/

theorem State.sessions_of_open (h : s.sessionOpen p = true) : s.aq.sessions.any (fun x => x.key == s.mbxKey p) = true := by
  unfold State.sessionOpen at h
  split at h
  next x hx =>
    refine List.any_eq_true.2 ⟨x, List.mem_of_find?_eq_some hx, ?_⟩
    have hid := List.find?_some hx
    rw [beq_iff_eq] at h hid ⊢
    exact Prod.ext hid h
  next => exact absurd h Bool.false_ne_true

/-- The answer to a request whose session is open ends nothing that the session owns. -/
theorem State.respond_of_session (h : t.aq.sessions.any (fun x => x.key == t.mbxKey p) = true) : t.respond p status started payload =
    (t.writeRsp p status started (t.mbxKey p).1 (t.mbxKey p).2 payload).updAq (fun a => a.dropped p) := by
  have hkey : (t.writeRsp p status started (t.mbxKey p).1 (t.mbxKey p).2 payload).mbxKey p = t.mbxKey p :=
    ((State.writeRsp_within p status started (t.mbxKey p).1 (t.mbxKey p).2 payload).sameBox (by decide +kernel) p).key
  have hsessions : (t.writeRsp p status started (t.mbxKey p).1 (t.mbxKey p).2 payload).aq = t.aq :=
    (State.writeRsp_within p status started (t.mbxKey p).1 (t.mbxKey p).2 payload).same .aq (by decide)
  unfold State.respond State.dropRequest
  rw [hkey]
  dsimp only
  rw [State.updAq_aq]
  dsimp only
  rw [hsessions, h]
  rfl

theorem State.respond_load_of_session (h : s.aq.sessions.any (fun x => x.key == s.mbxKey p) = true) :
    (s.respond p status started payload).aq.load = s.aq.load := by
  rw [State.respond_of_session h, State.updAq_aq,
    (State.writeRsp_within p status started (s.mbxKey p).1 (s.mbxKey p).2 payload).same .aq (by decide)]
  rfl

theorem State.respond_dyke_of_session (h : s.aq.sessions.any (fun x => x.key == s.mbxKey p) = true) :
    (s.respond p status started payload).dyke = s.dyke := by
  rw [State.respond_of_session h]
  exact (State.writeRsp_within p status started (s.mbxKey p).1 (s.mbxKey p).2 payload).same .dyke (by decide)

/-! ### The load of a format program past an answer -/

theorem State.endFreeze_load (key : Nat × Nat) (a : Nat) : (s.endFreeze key a).aq.load = s.aq.load := by
  unfold State.endFreeze State.when
  split
  · change (s.unfreeze a).aq.load = s.aq.load
    rw [State.unfreeze_aq]
  · rfl

theorem State.releaseOwned_load (key : Nat × Nat) (h : s.aq.load = none) : (s.releaseOwned key).aq.load = none := by
  unfold State.releaseOwned
  extract_lets s1 s2
  have h1 : s1.aq.load = none := by
    unfold s1 State.when
    split
    · rfl
    · exact h
  have h2 : s2 = s1.forN 10 (fun a t => t.endFreeze key a) := rfl
  clear_value s2 s1
  have hload : s2.aq.load = none := by
    rw [h2, State.forN_keeps (fun t => t.aq.load) (fun i t => State.endFreeze_load key i), h1]
  rw [← hload]
  unfold State.when
  split
  · dsimp only
    split
    · rfl
    · rw [State.dropUpdate_aq]
  · rfl

/-- An answer opens no load. -/
theorem State.respond_load_none (h : s.aq.load = none) : (s.respond p status started payload).aq.load = none := by
  have haq := (State.writeRsp_within (s := s) p status started (s.mbxKey p).1 (s.mbxKey p).2 payload).same .aq (by decide)
  unfold State.respond State.dropRequest
  extract_lets key s1 busy
  have h1 : s1.aq.load = none := by
    unfold s1
    rw [State.updAq_aq, haq]
    exact h
  clear_value s1 busy key
  cases h : !(s1.aq.sessions.any (fun x => x.key == key)) && !busy with
  | true =>
    rw [State.when_true]
    exact State.releaseOwned_load key h1
  | false => exact h1

theorem State.updRun_run (f : CmdRun → CmdRun) : (s.updRun p f).aq.runs.at p = f (s.aq.runs.at p) := by
  change (s.aq.runs.upd p f).at p = _
  rw [Tab.at_upd_self]

/-- Values put at the keys from `a` on. -/
theorem foldl_put_from {α : Type} [Inhabited α] [DecidableEq α] (a : Nat) (g : Nat → α) (t : Tab α) {i n : Nat} (hi : i < n) :
    ((List.range n).foldl (fun t i => t.put (a + i) (g i)) t).at (a + i) = g i := by
  induction n with
  | zero => omega
  | succ n ih =>
    rw [List.range_succ, List.foldl_append, List.foldl_cons, List.foldl_nil]
    rcases Nat.lt_succ_iff_lt_or_eq.1 hi with h | rfl
    · rw [Tab.at_put_ne _ _ (by omega), ih h]
    · rw [Tab.at_put_self]

/-! ### Signed commands (R232) -/

/-- The bytes that a signed command signs. -/
abbrev State.signedBytes (s : State) (p : Nat) (c : BitVec 256) : List Byte :=
  leBytes 2 (s.mbxCmd p) ++ leBytes 32 c.toNat ++ s.reqBytes p 16 8

/-- The signature of a signed command is that of the key of the running slot, and the part is enrolled. -/
abbrev State.signatureGood (s : State) (p : Nat) (c : BitVec 256) : Bool :=
  s.enrolled && ecdsaVerify (manKey (s.slot s.runSlot).manifest) (sha384 (s.signedBytes p c)) (s.reqBytes p 24 96)

section signed

variable {c : BitVec 256} (h : (s.aq.runs.at p).challenge = some c) (f : List Byte → State → State)
include h

theorem State.signedCommand_of_good (hgood : s.signatureGood p c = true) : s.signedCommand p f = f (s.signedBytes p c) s := by
  unfold State.signedCommand State.run
  rw [h]
  exact if_pos hgood

theorem State.signedCommand_of_bad (hbad : s.signatureGood p c = false) :
    s.signedCommand p f = (s.raise 0x0F02).respond p 0x0150 true [] := by
  unfold State.signedCommand State.run
  rw [h]
  exact if_neg (ne_true_of_eq_false hbad)

end signed

theorem State.raise_sameBox (code inst detail : Nat) : s.SameBox p (s.raise code inst detail) :=
  (State.raise_frame (fun _ hp => hp) (fun _ hr => hr) (Frame.refl _ _ s)).sameBox (by decide +kernel) p

theorem State.peatRecord_sameBox (stream type_ : Nat) (body : List Byte) : s.SameBox p (s.peatRecord stream type_ body) :=
  (State.peatRecord_frame (fun _ hp => hp) (fun _ hr => hr) (Frame.refl _ _ s)).sameBox (by decide +kernel) p

theorem State.respond_latched (code inst : Nat) : (s.respond p status started payload).latched code inst = s.latched code inst :=
  State.latched_of_lev (State.respond_same .lev (by decide)) code inst

end Sys2Proof.Machine
end

section
set_option Elab.async false
/-! SETTINGS FROM A REQUEST (09, 10). A register set between a request's reading and its answer: the request reads as before, and the answer keeps
what was set. -/

namespace Sys2Proof.Machine

variable {s t : State} {p status : Nat} {started : Bool} {payload : List Byte}

/-- A register of `n` that an answer does not write. -/
theorem State.respond_getMod {n : Nat} (F : Nat → Fld) (hn : 0 < n) (hF : ∀ k, F (k % n) = F k)
    (h : (List.range n).all (fun i => respondRegs.all (fun r => r.apartB (F i))) = true) (k : Nat) :
    (s.respond p status started payload).get (F k) = s.get (F k) := State.respond_get (apart_mod F hn hF h k)

theorem State.respond_tus : (s.respond p status started payload).tus = s.tus := State.respond_same .tus (by decide)

theorem State.reqBytes_set {f : Fld} (v off len : Nat) (h : f.addr < 0x4501_0000 ∨ 0x4502_0000 ≤ f.addr) :
    (s.set f v).reqBytes p off len = s.reqBytes p off len :=
  State.reqBytes_congr (fun w => State.get_set_other _ _ (.inl (by dsimp only; omega))) off len

/-- A register that is set outside the requests changes none. -/
theorem State.req_set {f : Fld} (v off len : Nat) (h : f.addr < 0x4501_0000 ∨ 0x4502_0000 ≤ f.addr) :
    (s.set f v).req p off len = s.req p off len := congrArg leNat (State.reqBytes_set v off len h)

theorem State.reqBytes_length (s : State) (p off len : Nat) : (s.reqBytes p off len).length = len := by
  unfold State.reqBytes
  rw [List.length_map, List.length_range]

theorem State.req_lt (s : State) (p off len : Nat) : s.req p off len < 2 ^ (8 * len) := by
  have h := leNat_lt (s.reqBytes p off len)
  rwa [State.reqBytes_length] at h

/-! ### Registers of a range of addresses -/

/-- None of the registers stands at an address from `lo` on and before `hi`. -/
def Regs.clear (lo hi : Nat) : Regs → Bool
  | .fld f => Nat.blt f.addr lo || Nat.ble hi f.addr
  | .arr f s n => Nat.ble hi f.addr || (Nat.blt 0 s && Nat.ble (f.addr + s * n) lo)
  | .grid f s n u m => Nat.ble hi f.addr || (Nat.blt 0 s && Nat.blt 0 u && Nat.ble (u * m) s && Nat.ble (f.addr + s * n) lo)
  | .all => false

theorem Regs.apartB_of_clear {r : Regs} {lo hi : Nat} {g : Fld} (h : r.clear lo hi = true) (hlo : lo ≤ g.addr) (hhi : g.addr < hi) :
    r.apartB g = true := by
  cases r with
  | fld f =>
    simp only [Regs.clear, Regs.apartB, Bool.or_eq_true, Nat.ble_eq, Nat.blt_eq] at h ⊢
    omega
  | arr f s n =>
    simp only [Regs.clear, Regs.apartB, Bool.or_eq_true, Bool.and_eq_true, Nat.ble_eq, Nat.blt_eq] at h ⊢
    rcases h with h | ⟨hs, h⟩
    · exact .inl (.inl (.inr (by omega)))
    · exact .inl (.inr ⟨hs, by omega⟩)
  | grid f s n u m =>
    simp only [Regs.clear, Regs.apartB, Bool.or_eq_true, Bool.and_eq_true, Nat.ble_eq, Nat.blt_eq] at h ⊢
    rcases h with h | ⟨hs, h⟩
    · exact .inl (.inr (by omega))
    · exact .inr ⟨hs, .inl (by omega)⟩
  | all => cases h

/-- What leaves the registers of a range alone leaves a field of the range. -/
theorem Frame.get_of_clear {W : List Part} {R : List Regs} {lo hi : Nat} {g : Fld} (h : Frame W R s t) (hR : R.all (Regs.clear lo hi) = true)
    (hlo : lo ≤ g.addr) (hhi : g.addr < hi) : t.get g = s.get g :=
  h.get (List.all_eq_true.2 fun r hr => Regs.apartB_of_clear (List.all_eq_true.1 hR r hr) hlo hhi)

/-- None of the registers is one of a mailbox pair, or DONE. -/
def outsideMailbox (R : List Regs) : Bool := R.all (Regs.clear 0x4500_0008 0x4500_0010) && R.all (Regs.clear 0x4501_0000 0x4502_0000)

section mailbox

variable {W : List Part} {R : List Regs} {g : Fld} (h : Frame W R s t) (hR : outsideMailbox R = true)
include h hR

theorem Frame.pair_get (hlo : 0x4501_0000 ≤ g.addr) (hhi : g.addr < 0x4502_0000) : t.get g = s.get g :=
  h.get_of_clear (Bool.and_eq_true_iff.1 hR).2 hlo hhi

theorem Frame.done_get (k : Nat) : t.get (.MBX_DONE_DONE k) = s.get (.MBX_DONE_DONE k) :=
  h.get_of_clear (Bool.and_eq_true_iff.1 hR).1 (by dsimp only; omega) (by dsimp only; omega)

/-- What leaves the mailboxes and Aqsia alone leaves an answer. -/
theorem Frame.answered {u : State} {key : Nat × Nat} (haq : t.aq = s.aq) (ha : AnsweredTo key u s p status started payload) :
    AnsweredTo key u t p status started payload := by
  obtain ⟨hmbx, hstatus, hstarted, hdone, hdata, hring, hrunning⟩ := ha
  refine ⟨(h.pair_get hR ?_ ?_).trans hmbx, (h.pair_get hR ?_ ?_).trans hstatus, (h.pair_get hR ?_ ?_).trans hstarted,
    (congrArg (· / 2 ^ (p % 32) % 2) (h.done_get hR _)).trans hdone, fun w hw => (h.pair_get hR ?_ ?_).trans (hdata w hw), ?_, ?_⟩
  case refine_9 =>
    rw [haq]
    exact hring
  case refine_10 =>
    rw [haq]
    exact hrunning
  all_goals
    dsimp only
    omega

end mailbox

end Sys2Proof.Machine
end

section
set_option Elab.async false
/-! TELEMETRY AND FAULTS ARE SERVED (10, 18). Each command answers what it read of the state, and changes what it names before it answers
(R178, R253, R254, R415, R418, R421, R425). -/

namespace Sys2Proof.Machine

variable {s : State} {p : Nat}

/-- The counters of the channels, latched and cleared as the flags `f` say. -/
def State.telTaken (s : State) (f : Nat) : State := (s.when (f % 2 == 1) State.telSnap).when (f / 2 % 2 == 1) State.telClear

theorem State.telTaken_frame (f : Nat) : Frame [.chans] [.grid (.SDG_TEL_COUNT 0 0) 0x400 8 0x4 32] s (s.telTaken f) :=
  State.when_frame (State.when_frame (Frame.refl _ _ s) (fun _ h => State.telSnap_frame (fun _ hr => hr) h))
    (fun _ h => State.telClear_frame (fun _ hp => hp) h)

theorem State.telTaken_count {f : Nat} (h : f % 2 = 0) (n i : Nat) :
    (s.telTaken f).get (.SDG_TEL_COUNT n i) = s.get (.SDG_TEL_COUNT n i) := by
  unfold State.telTaken
  rw [h]
  exact State.when_get ((State.telClear_frame (R := []) (fun _ hp => hp) (Frame.refl _ _ s)).get rfl)

theorem State.respond_telCount {status : Nat} {started : Bool} {payload : List Byte} (n i : Nat) :
    (s.respond p status started payload).get (.SDG_TEL_COUNT n i) = s.get (.SDG_TEL_COUNT n i) :=
  State.respond_get (apart_mod_mod (n := 8) (m := 32) .SDG_TEL_COUNT (by decide) (by decide) (by simp) (by decide +kernel) n i)

/-- Bit 2 of a reaction is held 0 (log entry 19). -/
theorem and_reaction (v : Nat) : v % 2 ^ 5 &&& 0x1B = v % 2 ^ 2 + v / 2 ^ 3 % 2 ^ 2 * 2 ^ 3 := by
  have hsmall : ∀ x < 32, x &&& 0x1B = x % 4 + x / 8 % 4 * 8 := by decide
  rw [show 2 ^ 5 = 32 from rfl, hsmall _ (Nat.mod_lt _ (by decide))]
  omega

/-- The reaction of a source, once it is set. -/
theorem State.trimReact_react (c v : Nat) : ((s.set (.LEV_SRC_REACT c) v).trimReact c).get (.LEV_SRC_REACT c) =
    if c / 256 % 32 ∈ [6, 7, 11, 12] then v % 2 ^ 5 else v % 2 ^ 2 + v / 2 ^ 3 % 2 ^ 2 * 2 ^ 3 := by
  have hset : (s.set (.LEV_SRC_REACT c) v).get (.LEV_SRC_REACT c) = v % 2 ^ 5 := State.get_set_self _ _ _ (by simp)
  have hcond : (!(c / 256 % 32 == 6 || c / 256 % 32 == 7 || c / 256 % 32 == 11 || c / 256 % 32 == 12)) =
      !decide (c / 256 % 32 ∈ [6, 7, 11, 12]) := by simp [Bool.or_assoc, Bool.beq_eq_decide_eq]
  unfold State.trimReact
  dsimp only
  rw [hcond]
  by_cases h : c / 256 % 32 ∈ [6, 7, 11, 12]
  · rw [if_pos h, decide_eq_true h]
    exact hset
  · rw [if_neg h, decide_eq_false h]
    refine (State.get_set_self _ _ _ (by simp)).trans ?_
    rw [hset, and_reaction]
    exact Nat.mod_eq_of_lt (by simp; omega)

theorem State.clearLines_classF {first k i : Nat} (hi : first ≤ i) (hk : i < first + k) {l : Latch}
    (h : (s.clearLines first k).lev.latches.at i = some l) : l.cls = 2 := by
  rw [State.clearLines_latch, if_pos ⟨hi, hk⟩] at h
  exact beq_iff_eq.1 (Option.eq_some_iff_get_eq.1 h |>.1 |> fun _ => (Option.filter_eq_some_iff.1 h).2)

/-- The telemetry of a section, cleared where it is asked for. -/
def State.servoTaken (s : State) (k : Nat) (clear : Bool) : State :=
  s.when clear (fun s => (s.set (.TUS_SAT_CNT_COUNT k) 0).telServo k (fun _ => {}))

theorem State.servoTaken_frame (k : Nat) (clear : Bool) : Frame [.aq] [.arr (.TUS_SAT_CNT_COUNT 0) 0x40 4] s (s.servoTaken k clear) := by
  refine State.when_frame (Frame.refl _ _ s) (fun t ht => State.telServo_frame (fun _ hp => hp) (State.set_frame ?_ ht))
  exact cov_arr (f := .TUS_SAT_CNT_COUNT 0) (k := 0x40) (m := 4) (fun _ hr => hr) (by decide +kernel) (by decide) rfl

theorem State.servoTaken_count (k : Nat) : (s.servoTaken k true).get (.TUS_SAT_CNT_COUNT k) = 0 := by
  change (s.set (.TUS_SAT_CNT_COUNT k) 0).get (.TUS_SAT_CNT_COUNT k) = 0
  exact State.get_set_self _ _ _ (by simp)

theorem State.servoTaken_servo (k : Nat) : (s.servoTaken k true).aq.servo.at k = {} := by
  change Tab.at (s.aq.servo.upd k (fun _ => {})) k = {}
  rw [Tab.at_upd_self]

theorem State.respond_satCount {status : Nat} {started : Bool} {payload : List Byte} (k : Nat) :
    (s.respond p status started payload).get (.TUS_SAT_CNT_COUNT k) = s.get (.TUS_SAT_CNT_COUNT k) :=
  State.respond_get (apart_mod (n := 4) .TUS_SAT_CNT_COUNT (by decide) (by simp) (by decide +kernel) k)

theorem State.clearLines_sameBox {first k : Nat} : s.SameBox p (s.clearLines first k) :=
  (State.clearLines_frame (fun _ hp => hp) (fun _ hr => hr) (Frame.refl _ _ s)).sameBox (by decide +kernel) p

theorem State.respond_react {status : Nat} {started : Bool} {payload : List Byte} (c : Nat) :
    (s.respond p status started payload).get (.LEV_SRC_REACT c) = s.get (.LEV_SRC_REACT c) := by
  refine State.respond_get ?_
  simp only [respondRegs, answerRegs, List.cons_append, List.nil_append, List.all_cons, List.all_nil, Regs.apartB, Bool.and_eq_true,
    Bool.or_eq_true, Nat.ble_eq, Nat.blt_eq, and_true]
  omega

theorem State.levInject_of_factory {code count : Nat} {x : SourceRow} (hfactory : s.get .LEV_STATUS_FACTORY = 1)
    (hrow : sourceRow code = some x) (hinst : 0 < x.instances) (hcount : count ≠ 0) : (s.levInject code 0 count).latched code 0 = true := by
  unfold State.levInject
  dsimp only
  rw [State.is_of_get hfactory, hrow]
  dsimp only
  rw [if_neg (by decide), if_neg (Nat.not_le.2 hinst), if_neg hcount]
  exact State.inject_latched hrow

/-- Settles O51: each command answers from what it read and sets what it names. -/
theorem telemetryAndFaultsAreServed : Obligations.TelemetryAndFaultsAreServed := by
  unfold Obligations.TelemetryAndFaultsAreServed
  refine ⟨fun s p hruns => ?_, fun s p hruns => ?_, fun s p k hruns hk => ?_, fun s p temps hruns => ?_, fun s p n hruns hn => ?_,
    fun s p r hruns hr => ?_, fun s p x hruns hfactory hrow hinst hcount => ?_, fun s p hruns hall => ?_, fun s p x hruns hrow => ?_⟩
  · exact completes_of_outFrame (execTelVersions_frame (parts_in rfl) (fun _ hr => hr))
      (congrArg Host.Outcome.next (State.onCommand_of_runs hruns _)) (fun _ => State.respond_answers (by decide))
  · have htaken := State.telTaken_frame (s := s) (s.req p 17 1)
    refine completes_of_outFrame (execTelChannel_frame (parts_in rfl) (fun _ hr => hr))
      (t := (s.telTaken (s.req p 17 1)).respond p 0 true ((List.range 32).flatMap (fun i => leBytes 4
        ((s.telTaken (s.req p 17 1)).get (.SDG_TEL_COUNT ((s.telTaken (s.req p 17 1)).req p 16 1) i)))))
      (congrArg Host.Outcome.next (State.onCommand_of_runs hruns _)) (fun _ => ?_)
    simp only [State.respond_telCount]
    rw [htaken.req (by decide +kernel)]
    exact ⟨State.respond_answered (htaken.sameBox (by decide +kernel) p) (by decide), fun h n _ i _ => State.telTaken_count h n i⟩
  · subst hk
    refine completes_of_outFrame (execTelServo_frame (parts_in rfl) (fun _ hr => hr))
      (t := (s.servoTaken (s.req p 16 1) (s.req p 17 1 % 2 == 1)).respond p 0 true (leBytes 4 (s.wordOf (.TUS_SAT_CNT_COUNT (s.req p 16 1))) ++
        leBytes 4 (s.aq.servo.at (s.req p 16 1)).seeks ++ leBytes 4 (s.aq.servo.at (s.req p 16 1)).inhibits ++
        leBytes 4 (s.aq.servo.at (s.req p 16 1)).pesLost))
      (congrArg Host.Outcome.next (State.onCommand_of_runs hruns _))
      (fun _ => ⟨State.respond_answered ((State.servoTaken_frame _ _).sameBox (by decide +kernel) p) (by decide), fun h => ?_, fun h => ?_⟩)
    · rw [State.respond_satCount, State.respond_servo, h]
      exact ⟨State.servoTaken_count _, State.servoTaken_servo _⟩
    · rw [State.respond_satCount, State.respond_servo, h]
      exact ⟨rfl, rfl⟩
  · exact completes_of_outFrame (execTelEnv_frame (parts_in rfl) (fun _ hr => hr))
      (congrArg Host.Outcome.next (State.onCommand_of_runs hruns _)) (fun _ => State.respond_answers (by decide))
  · subst hn
    exact completes_of_outFrame (execFaultHistory_frame (parts_in rfl) (fun _ hr => hr))
      (congrArg Host.Outcome.next (State.onCommand_of_runs hruns _)) (fun _ => State.respond_answers (by decide))
  · subst hr
    have hreact := State.trimReact_react (s := s) (s.req p 16 2) (s.req p 18 1)
    have hset : Frame [] [.arr (.LEV_SRC_REACT 0) 0x4 65536] s (s.set (.LEV_SRC_REACT (s.req p 16 2)) (s.req p 18 1)) :=
      State.set_frame (cov_arr (f := .LEV_SRC_REACT 0) (k := 0x4) (m := 65536) (fun _ hr => hr) (by decide +kernel) (by decide) rfl)
        (Frame.refl _ _ s)
    have htrim := State.trimReact_frame (fun _ hr => hr) (c := s.req p 16 2) hset
    refine completes_of_outFrame (execFaultReaction_frame (parts_in rfl) (fun _ hr => hr))
      (t := ((s.set (.LEV_SRC_REACT (s.req p 16 2)) (s.req p 18 1)).trimReact (s.req p 16 2)).respond p 0 true (leBytes 1
        (((s.set (.LEV_SRC_REACT (s.req p 16 2)) (s.req p 18 1)).trimReact (s.req p 16 2)).get (.LEV_SRC_REACT
          (((s.set (.LEV_SRC_REACT (s.req p 16 2)) (s.req p 18 1)).trimReact (s.req p 16 2)).req p 16 2))) ++ leBytes 3 0))
      (congrArg Host.Outcome.next (State.onCommand_of_runs hruns _)) (fun _ => ?_)
    rw [htrim.req (by decide +kernel), hreact]
    exact ⟨State.respond_answered (htrim.sameBox (by decide +kernel) p) (by decide), (State.respond_react _).trans hreact⟩
  · have hinject := State.levInject_of_factory hfactory hrow hinst hcount
    refine completes_of_outFrame (execFaultInject_frame (parts_in rfl) (fun _ hr => hr))
      (t := (s.levInject (s.req p 16 2) 0 (s.req p 18 1)).respond p 0 true [])
      (congrArg Host.Outcome.next (State.onCommand_of_runs hruns _)) (fun _ => ⟨State.respond_answered ?_ (by decide), ?_⟩)
    · exact (State.levInject_frame (fun _ hp => hp) (fun _ hr => hr) (Frame.refl _ _ s)).sameBox (by decide +kernel) p
    · rw [State.latched_of_lev (State.respond_same .lev (by decide))]
      exact hinject
  · refine completes_of_outFrame (execFaultClear_frame (parts_in rfl) (fun _ hr => hr)) (t := (s.clearLines 0 197).respond p 0 true []) ?_
      (fun _ => ⟨State.respond_answered State.clearLines_sameBox (by decide), fun i hi l hl => ?_⟩)
    · refine congrArg Host.Outcome.next ((State.onCommand_of_runs hruns _).trans ?_)
      dsimp only
      rw [hall]
      rfl
    · rw [show ((s.clearLines 0 197).respond p 0 true []).lev = (s.clearLines 0 197).lev from State.respond_same .lev (by decide)] at hl
      exact State.clearLines_classF (Nat.zero_le i) (by omega) hl
  · refine completes_of_outFrame (execFaultClear_frame (parts_in rfl) (fun _ hr => hr))
      (t := (s.clearLines x.firstLine x.instances).respond p 0 true []) ?_
      (fun _ => ⟨State.respond_answered State.clearLines_sameBox (by decide), fun i hi l hl => ?_⟩)
    · have hne : (s.req p 16 2 == 0xFFFF) = false := beq_eq_false_iff_ne.2 fun h => by
        rw [h, show sourceRow 0xFFFF = none by decide +kernel] at hrow
        cases hrow
      refine congrArg Host.Outcome.next ((State.onCommand_of_runs hruns _).trans ?_)
      dsimp only
      rw [hne, State.levClear, if_neg Bool.false_ne_true, hrow]
      rfl
    · rw [show ((s.clearLines x.firstLine x.instances).respond p 0 true []).lev = (s.clearLines x.firstLine x.instances).lev from State.respond_same .lev (by decide)] at hl
      exact State.clearLines_classF (Nat.le_add_right _ _) (by omega) hl

end Sys2Proof.Machine
end

section
set_option Elab.async false
/-! ATTESTATION IS SERVED (10, 19). A challenge,
  a quote and an SPDM message draw a random value each; a signed command is judged before it acts
(R232, R255, R256, R257, R446, R453). -/

namespace Sys2Proof.Machine

variable {s : State} {p : Nat}

theorem State.updSession_of_key {key : Nat × Nat} {f : Session → Session} {P : Session → Prop} (hf :
    ∀ x ∈ s.aq.sessions, x.key = key → P (f x))
    (x : Session) (hx : x ∈ (s.updSession key f).aq.sessions) (hkey : x.key = key) : P x := by
  obtain ⟨y, hy, rfl⟩ := List.mem_map.1 hx
  by_cases h : y.key = key
  · rw [if_pos h]
    exact hf y hy h
  · rw [if_neg h] at hkey
    exact absurd hkey h

/-- The session of a request after its SPDM message, and what it answers. -/
def State.spdmTurned (s : State) (p : Nat) : Session × List Byte :=
  (((s.session (s.mbxKey p).1).filter (fun x => decide (x.key = s.mbxKey p))).getD {}).spdmTurn (fun h => Config.spdmReply h
    ((List.range 4).map s.dyke.certs.at) ((List.range 16).map s.mr) (s.layerSeed 3) s.drawn) (s.reqBytes p 24 (s.req p 16 2))

/-- The factory mode, entered. -/
def State.unlocked (s : State) (signed : List Byte) : State :=
  ((s.extendMr 11 (sha384Bytes signed)).set .DYKE_STATUS_FACTORY 1).set .LEV_STATUS_FACTORY 1

theorem State.unlocked_frame (signed : List Byte) :
    Frame [] [.grid (.DYKE_MR_DATA 0 0) 0x30 16 0x4 12, .fld .DYKE_STATUS_FACTORY, .fld .LEV_STATUS_FACTORY] s (s.unlocked signed) :=
  State.set_frame (cov_fld (fun _ hr => hr) (by decide +kernel)) (State.set_frame (cov_fld (fun _ hr => hr) (by decide +kernel))
    (State.extendMr_frame (regs_in (by decide +kernel)) (Frame.refl _ _ s)))

/-- Settles O52: every command answers from what it read; the values that it drew stand in its session or its quote. -/
theorem attestationIsServed : Obligations.AttestationIsServed := by
  unfold Obligations.AttestationIsServed
  refine ⟨fun s p hruns => ?_, fun s p body hruns hbody => ?_, fun s p hruns => ?_, fun s p hruns => ?_, fun s p c hruns hchallenge => ?_⟩
  · exact completes_of_outFrame (execAttestRead_frame (parts_in rfl) (fun _ hr => hr))
      (congrArg Host.Outcome.next (State.onCommand_of_runs hruns _)) (fun _ => State.respond_answers (by decide))
  · have hsame : s.SameBox p ((s.signBy 3 body).2.updAq (fun a => { a with quote := body ++ (s.signBy 3 body).1 })) := State.SameBox.of_regs rfl
    refine completes_of_outFrame (execAttestQuote_frame (parts_in rfl) (fun _ hr => hr))
      (t := ((s.signBy 3 body).2.updAq (fun a => { a with quote := body ++ (s.signBy 3 body).1 })).respond p 0 true
        (leBytes 4 (body ++ (s.signBy 3 body).1).length)) ?_ (fun _ => ?_)
    · subst hbody
      exact congrArg Host.Outcome.next (State.onCommand_of_runs hruns _)
    · rw [State.respond_quote]
      exact ⟨State.respond_answered hsame (by decide), rfl⟩
  · have hsame : s.SameBox p ((s.draw 256).2.updSession (s.mbxKey p)
        (fun x => { x with challenge := some (BitVec.ofNat 256 (s.draw 256).1, s.opt) })) := State.SameBox.of_regs rfl
    refine completes_of_outFrame (execAuthChallenge_frame (parts_in rfl) (fun _ hr => hr))
      (t := ((s.draw 256).2.updSession (s.mbxKey p) (fun x => { x with challenge := some (BitVec.ofNat 256 (s.draw 256).1, s.opt) })).respond
        p 0 true (leBytes 32 (s.draw 256).1))
      (congrArg Host.Outcome.next (State.onCommand_of_runs hruns _))
      (fun _ => ⟨State.respond_answered hsame (by decide), fun x hx hkey => ?_, State.respond_same .drawn (by decide)⟩)
    rw [State.respond_sessions] at hx
    exact State.updSession_of_key (P := fun x => x.challenge = some (BitVec.ofNat 256 (s.draw 256).1, s.opt)) (fun _ _ _ => rfl) x hx hkey
  · refine completes_of_outFrame (execSpdmMessage_frame (parts_in rfl) (fun _ hr => hr))
      (t := ({ s with drawn := s.drawn + 1 }.updSession (s.mbxKey p) (fun _ => (s.spdmTurned p).1)).respond p 0 true
        (leBytes 2 (s.spdmTurned p).2.length ++ leBytes 6 0 ++ (s.spdmTurned p).2))
      (congrArg Host.Outcome.next (State.onCommand_of_runs hruns _))
      (fun _ => ⟨_, (s.spdmTurned p).2, rfl, rfl, ?_, fun x hx hkey => ?_⟩)
    · have hsame : s.SameBox p ({ s with drawn := s.drawn + 1 }.updSession (s.mbxKey p) (fun _ => (s.spdmTurned p).1)) :=
        State.SameBox.of_regs rfl
      exact State.respond_answered hsame (by decide)
    · rw [State.respond_sessions] at hx
      have hlast := State.updSession_of_key (P := fun x => x = (s.spdmTurned p).1) (fun _ _ _ => rfl) x hx hkey
      exact hlast
  · refine completes_of_outFrame (execFactoryUnlock_frame (parts_in rfl) (fun _ hr => hr))
      (t := s.signedCommand p (fun signed t => (t.unlocked signed).respond p 0 true []))
      (congrArg Host.Outcome.next (State.onCommand_of_runs hruns _)) (fun _ => ⟨fun hgood => ?_, fun hbad => ?_⟩)
    · rw [State.signedCommand_of_good hchallenge _ hgood]
      refine ⟨State.respond_answered ((State.unlocked_frame _).sameBox (by decide +kernel) p) (by decide), ?_, ?_⟩
      · rw [State.respond_get (by decide +kernel)]
        exact (State.get_set_other _ _ (by decide)).trans (State.get_set_self _ _ _ (by decide))
      · rw [State.respond_get (by decide +kernel)]
        exact State.get_set_self _ _ _ (by decide)
    · rw [State.signedCommand_of_bad hchallenge _ hbad, State.respond_latched, State.respond_get (by decide +kernel)]
      exact ⟨State.respond_answered (State.raise_sameBox _ _ _) (by decide), State.raise_latched_true (by decide +kernel),
        State.raise_get (by decide +kernel)⟩

end Sys2Proof.Machine
end

section
set_option Elab.async false
/-! EVENTS ARE SERVED (10, 20). A request stages a record, freezes an area for its session, reads it, releases it, clears it,
  or flushes what
is staged; what it froze stays frozen past its answer unless its session is not open (R248, R249, R461, R466, R469). -/

namespace Sys2Proof.Machine

variable {s : State} {p : Nat}

/-! ### Freezes of areas -/

/-- An area, with what freezes it. -/
def State.hold (s : State) (a : Nat) : Bool × Option (Nat × Nat) := (s.frozen a, s.aq.freezes.at a)

theorem State.unfreeze_frozen_ne {a b : Nat} (h : a ≠ b) : (s.unfreeze b).frozen a = s.frozen a := by
  have hlt : s.get .PEAT_FRZ_AREA < 2 ^ 10 := s.get_lt _
  have hbit := putBit_other (f := s.get .PEAT_FRZ_AREA) (b := 0) h (by decide)
  rw [Nat.zero_mul, Nat.add_zero] at hbit
  unfold State.frozen State.unfreeze
  rw [State.peatStatus_get (by decide +kernel), State.get_set_self _ _ _ (by decide),
    Nat.mod_eq_of_lt (a := s.get .PEAT_FRZ_AREA - _) ((Nat.sub_le _ _).trans_lt hlt), hbit]

theorem State.updAq_frozen (f : Aqsia → Aqsia) (a : Nat) : (s.updAq f).frozen a = s.frozen a := rfl

theorem State.endFreeze_hold {a b : Nat} {key : Nat × Nat} (h : s.aq.freezes.at a ≠ some key) : (s.endFreeze key b).hold a = s.hold a := by
  unfold State.endFreeze State.when
  split
  next hb =>
    have hne : a ≠ b := fun hab => h (by rw [hab]; exact beq_iff_eq.1 hb)
    unfold State.hold
    rw [State.updAq_frozen, State.unfreeze_frozen_ne hne, State.updAq_aq, State.unfreeze_aq]
    dsimp only
    rw [Tab.at_put_ne _ _ hne]
  · rfl

theorem State.releaseOwned_hold {a : Nat} {key : Nat × Nat} (h : s.aq.freezes.at a ≠ some key) :
    (s.releaseOwned key).hold a = s.hold a := by
  unfold State.releaseOwned
  extract_lets s1 s2
  have h1 : s1.hold a = s.hold a := by
    unfold s1 State.when
    split <;> rfl
  have h2 : s2.hold a = s1.hold a := by
    refine State.forN_inv (Inv := fun t => t.hold a = s1.hold a) (f := fun i t => t.endFreeze key i) rfl (fun i _ t ht => ?_)
    have hkeep : t.aq.freezes.at a ≠ some key := by
      rw [show t.aq.freezes.at a = s.aq.freezes.at a from congrArg Prod.snd (ht.trans h1)]
      exact h
    exact (State.endFreeze_hold hkeep).trans ht
  rw [← h1, ← h2]
  clear_value s2
  unfold State.when
  split
  · dsimp only
    split
    · rfl
    · exact Prod.ext (congrArg (fun v => v / 2 ^ a % 2 == 1) (State.get_set_other _ _ (by decide))) rfl
  · rfl

/-- What another session froze, or none, stays as it is past an answer. -/
theorem State.respond_hold {a status : Nat} {started : Bool} {payload : List Byte} (h : s.aq.freezes.at a ≠ some (s.mbxKey p)) :
    (s.respond p status started payload).hold a = s.hold a := by
  have hrsp := State.writeRsp_within (s := s) p status started (s.mbxKey p).1 (s.mbxKey p).2 payload
  have haq := hrsp.same .aq (by decide)
  have hkey := (hrsp.sameBox (by decide +kernel) p).key
  have hwritten : (s.writeRsp p status started (s.mbxKey p).1 (s.mbxKey p).2 payload).hold a = s.hold a := by
    unfold State.hold State.frozen
    rw [hrsp.get (by decide +kernel), haq]
  unfold State.respond State.dropRequest
  extract_lets key s1 busy
  have h1 : s1.hold a = s.hold a := hwritten
  have hfree : s1.aq.freezes.at a ≠ some key := by
    rw [show s1.aq.freezes.at a = s.aq.freezes.at a from congrArg Prod.snd h1, show key = s.mbxKey p from hkey]
    exact h
  clear_value s1 busy key
  rw [← h1]
  unfold State.when
  split
  · exact State.releaseOwned_hold hfree
  · rfl

/-- Nothing that is frozen stays otherwise past the answer to a request of an open session. -/
theorem State.respond_hold_of_session {a status : Nat} {started : Bool} {payload : List Byte}
    (h : s.aq.sessions.any (fun x => x.key == s.mbxKey p) = true) : (s.respond p status started payload).hold a = s.hold a := by
  have hrsp := State.writeRsp_within (s := s) p status started (s.mbxKey p).1 (s.mbxKey p).2 payload
  rw [State.respond_of_session h]
  unfold State.hold
  rw [State.updAq_frozen, State.updAq_aq, State.frozen, hrsp.get (by decide +kernel), hrsp.same .aq (by decide)]
  rfl

theorem or_two_pow_self (f a : Nat) : (f ||| 2 ^ a) / 2 ^ a % 2 = 1 := by
  rw [← Nat.toNat_testBit, Nat.testBit_or, Nat.testBit_two_pow_self, Bool.or_true]
  rfl

/-- The bit of an area, set. -/
theorem State.freeze_of_notFlushing (a : Nat) (hidle : s.get .PEAT_STATUS_FLUSHING = 0) :
    s.freeze a = (s.set .PEAT_FRZ_AREA (s.get .PEAT_FRZ_AREA ||| 2 ^ a)).peatStatus := by
  unfold State.freeze
  rw [State.not_is_of_get hidle, if_neg (fun h => Bool.false_ne_true h.1)]

theorem State.freeze_frozen {a : Nat} (ha : a < 10) (hidle : s.get .PEAT_STATUS_FLUSHING = 0) : (s.freeze a).frozen a = true := by
  have hlt : s.get .PEAT_FRZ_AREA ||| 2 ^ a < 2 ^ 10 := Nat.or_lt_two_pow (s.get_lt _) (Nat.pow_lt_pow_right (by decide) ha)
  rw [State.freeze_of_notFlushing a hidle]
  unfold State.frozen
  rw [State.peatStatus_get (by decide +kernel), State.get_set_self _ _ _ (by decide)]
  exact beq_iff_eq.2 ((congrArg (fun v => v / 2 ^ a % 2) (Nat.mod_eq_of_lt hlt)).trans (or_two_pow_self _ _))

/-- A freeze of an area, entered for a session. -/
def State.freezeBy (s : State) (a : Nat) (key : Nat × Nat) : State :=
  s.updAq (fun q => { q with freezes := q.freezes.put a (some key) })

/-- An area frozen for a session. -/
def State.freezeFor (s : State) (a : Nat) (key : Nat × Nat) : State := (s.freeze a).freezeBy a key

/-! ### Releasing and clearing areas -/

theorem State.releaseFreeze_hold_self (a : Nat) : (s.releaseFreeze a).hold a = (false, none) := by
  refine Prod.ext (State.unfreeze_frozen a) ?_
  change ((s.unfreeze a).aq.freezes.put a none).at a = none
  rw [Tab.at_put_self]

theorem State.releaseFreeze_hold_ne {a b : Nat} (h : a ≠ b) : (s.releaseFreeze b).hold a = s.hold a := by
  unfold State.hold State.releaseFreeze
  rw [State.updAq_frozen, State.unfreeze_frozen_ne h, State.updAq_aq, State.unfreeze_aq]
  dsimp only
  rw [Tab.at_put_ne _ _ h]

theorem State.releaseFreeze_peat (a : Nat) : (s.releaseFreeze a).peat = s.peat := by
  change (s.unfreeze a).peat = s.peat
  rw [State.unfreeze_peat]

theorem areaBlocks_ge (a : Nat) : 3 ≤ areaBlocks a := by
  unfold areaBlocks
  split <;> decide

/-- A record written behind one of the newest block leaves it the first. -/
theorem Area.write_head {x y : Area} {a size : Nat} {erase : Bool} {r first : PeatRecord} {rest : List (Nat × PeatRecord)}
    (hx : x.records = (x.newest, first) :: rest) (hy : x.write a erase size r = some y) : y.records.head?.map (·.2) = some first := by
  have hblocks := areaBlocks_ge a
  have hkeep : (a % 2 = 0 || !erase || decide (x.newest + 3 ≤ x.newest + areaBlocks a)) = true := by
    rw [decide_eq_true (Nat.add_le_add_left hblocks _), Bool.or_true]
  unfold Area.write at hy
  extract_lets put last at hy
  generalize (if (last && r.type_ != 0x00FF) = true then 64 else 0) = extra at hy
  split at hy
  · rw [← Option.some.inj hy]
    change (x.records ++ [(x.newest, r)]).head?.map (·.2) = some first
    rw [hx]
    rfl
  · split at hy
    · cases hy
    · split at hy
      · cases hy
      · rw [← Option.some.inj hy]
        change (x.records.filter (fun e => a % 2 = 0 || !erase || decide (x.newest + 3 ≤ e.1 + areaBlocks a)) ++
          [(x.newest + 1, r)]).head?.map (·.2) = some first
        rw [hx, List.filter_cons_of_pos (by exact hkeep)]
        rfl

/-- The first record of an area is a clear's, in its newest block. -/
def Area.ClearFirst (x : Area) : Prop := ∃ r rest, x.records = (x.newest, r) :: rest ∧ r.type_ = 0x00FE

theorem State.chainRecord_areas_ne {a b : Nat} (h : a ≠ b) : ((s.chainRecord b).getD s).peat.areas.at a = s.peat.areas.at a := by
  unfold State.chainRecord
  dsimp only
  split
  · rfl
  · exact getD_map_keeps (fun t => t.peat.areas.at a) (fun y => Tab.at_put_ne _ _ h) _ rfl

theorem State.chainRecord_head {a : Nat} (h : (s.peat.areas.at a).ClearFirst) :
    (((s.chainRecord a).getD s).peat.areas.at a).records.head?.map (fun e => e.2.type_) = some 0x00FE := by
  obtain ⟨r, rest, hrecords, htype⟩ := h
  have hself : (s.peat.areas.at a).records.head?.map (fun e => e.2.type_) = some 0x00FE := by
    rw [hrecords]
    exact congrArg some htype
  unfold State.chainRecord
  dsimp only
  split
  · exact hself
  · generalize hw : (s.peat.areas.at a).write _ _ _ _ = o
    cases o with
    | none => exact hself
    | some y =>
      have hy := Area.write_head hrecords hw
      change ((s.peat.areas.put a _).at a).records.head?.map (fun e => e.2.type_) = some 0x00FE
      rw [Tab.at_put_self]
      obtain ⟨e, he, hfirst⟩ := Option.map_eq_some_iff.1 hy
      change y.records.head?.map (fun e => e.2.type_) = some 0x00FE
      rw [he, Option.map_some, hfirst, htype]

/-- An area is cleared: nothing freezes it, and its first record is the clear's. -/
structure State.Cleared (s : State) (a : Nat) : Prop where
  hold : s.hold a = (false, none)
  head : (s.peat.areas.at a).records.head?.map (fun e => e.2.type_) = some 0x00FE

/-- An area released and cleared. -/
def State.clearFreed (s : State) (a : Nat) (signed : List Byte) : State := (s.releaseFreeze a).clearArea a signed

/-- What a clear does once the area is not frozen. -/
theorem State.clearArea_frame_unfrozen (a : Nat) (signed : List Byte) : Frame [.peat] [.arr (.PEAT_RSEQ_NEXT 0) 0x4 5,
    .arr (.PEAT_AREA_REC_COUNT 0) 0x4 10, .arr (.PEAT_AREA_BYTES_BYTES 0) 0x4 10] (s.unfreeze a) (s.clearArea a signed) := by
  unfold State.clearArea
  extract_lets s0 x k r y y' peat s1 s2
  have h1 : Frame [.peat] [.arr (.PEAT_RSEQ_NEXT 0) 0x4 5, .arr (.PEAT_AREA_REC_COUNT 0) 0x4 10,
    .arr (.PEAT_AREA_BYTES_BYTES 0) 0x4 10] s0 s1 := by
    unfold s1
    exact upd_peat (fun _ hp => hp) (Frame.refl _ _ s0)
  clear_value s1
  have h2 : Frame [.peat] [.arr (.PEAT_RSEQ_NEXT 0) 0x4 5, .arr (.PEAT_AREA_REC_COUNT 0) 0x4 10,
    .arr (.PEAT_AREA_BYTES_BYTES 0) 0x4 10] s0 s2 := by
    unfold s2
    exact State.inc_frame (cov_arr (f := .PEAT_RSEQ_NEXT 0) (k := 0x4) (m := 5) (fun _ hr => hr) (by decide +kernel) (by decide) rfl) h1
  clear_value s2
  exact State.areaStatus_frame (regs_in (by decide +kernel)) (getD_frame (State.chainRecord_frame (fun _ hp => hp) h2) h2)

theorem State.clearArea_hold {a b : Nat} {signed : List Byte} (h : s.hold a = (false, none)) :
    (s.clearArea b signed).hold a = (false, none) := by
  have hclear := State.clearArea_frame_unfrozen (s := s) b signed
  obtain ⟨hfrozen, hfreezes⟩ := Prod.mk.inj h
  have hunfrozen : (s.unfreeze b).frozen a = false := by
    by_cases hab : a = b
    · rw [hab]
      exact State.unfreeze_frozen b
    · rw [State.unfreeze_frozen_ne hab, hfrozen]
  refine Prod.ext ?_ ?_
  · change (s.clearArea b signed).frozen a = false
    rw [← hunfrozen]
    unfold State.frozen
    rw [hclear.get (by decide +kernel)]
  · change (s.clearArea b signed).aq.freezes.at a = none
    rw [hclear.same .aq (by decide), State.unfreeze_aq, hfreezes]

theorem State.clearArea_areas_ne {a b : Nat} (h : a ≠ b) (signed : List Byte) :
    (s.clearArea b signed).peat.areas.at a = s.peat.areas.at a := by
  unfold State.clearArea
  extract_lets s0 x k r y y' s1 s2
  rw [State.areaStatus_peat, State.chainRecord_areas_ne h]
  change (s0.peat.areas.put b y').at a = _
  rw [Tab.at_put_ne _ _ h]
  rw [show s0.peat = s.peat from State.unfreeze_peat]

theorem State.clearArea_head (a : Nat) (signed : List Byte) :
    ((s.clearArea a signed).peat.areas.at a).records.head?.map (fun e => e.2.type_) = some 0x00FE := by
  unfold State.clearArea
  extract_lets s0 x k r y y' s1 s2
  rw [State.areaStatus_peat]
  refine State.chainRecord_head ⟨r, [], ?_, rfl⟩
  change ((s0.peat.areas.put a y').at a).records = (((s0.peat.areas.put a y').at a).newest, r) :: []
  rw [Tab.at_put_self]

theorem State.clearFreed_self (a : Nat) (signed : List Byte) : (s.clearFreed a signed).Cleared a :=
  ⟨State.clearArea_hold (State.releaseFreeze_hold_self a), State.clearArea_head a signed⟩

theorem State.Cleared.clearFreed {a b : Nat} (h : s.Cleared a) (signed : List Byte) : (s.clearFreed b signed).Cleared a := by
  by_cases hab : a = b
  · rw [hab]
    exact State.clearFreed_self b signed
  · refine ⟨State.clearArea_hold ((State.releaseFreeze_hold_ne hab).trans h.hold), ?_⟩
    unfold State.clearFreed
    rw [State.clearArea_areas_ne hab, State.releaseFreeze_peat]
    exact h.head

/-- The clear of the areas that a request names. -/
def State.clearAll (s : State) (p : Nat) (signed : List Byte) : State :=
  s.forN 5 (fun k s => s.when (s.req p 16 1 / 2 ^ k % 2 == 1) (fun s => s.clearFreed (circArea k) signed))

/-- The registers that a clear writes. -/
def clearRegs : List Regs := [.fld .PEAT_STATUS_STAMP_WAIT, .fld .PEAT_STATUS_HELD, .fld .PEAT_STATUS_USED, .fld .PEAT_FRZ_AREA,
  .arr (.PEAT_RSEQ_NEXT 0) 0x4 5, .arr (.PEAT_AREA_REC_COUNT 0) 0x4 10, .arr (.PEAT_AREA_BYTES_BYTES 0) 0x4 10]

theorem State.clearStep_frame {t : State} (h : Frame [.aq, .peat] clearRegs s t) (k : Nat) (signed : List Byte) :
    Frame [.aq, .peat] clearRegs s
    (t.when (t.req p 16 1 / 2 ^ k % 2 == 1) (fun t => t.clearFreed (circArea k) signed)) :=
  State.when_frame h (fun _ ht => State.clearArea_frame (by simp) (fun _ hr => hr)
    (State.releaseFreeze_frame (by simp) (regs_in (by decide +kernel)) ht))

theorem State.clearAll_frame (signed : List Byte) : Frame [.aq, .peat] clearRegs s (s.clearAll p signed) :=
  State.forN_frame (Frame.refl _ _ s) (fun k _ ht => State.clearStep_frame ht k signed)

/-- Every area that the request names is cleared. -/
theorem State.clearAll_cleared (signed : List Byte) {k : Nat} (hk : k < 5) (hbit : s.req p 16 1 / 2 ^ k % 2 = 1) :
    (s.clearAll p signed).Cleared (circArea k) := by
  refine State.forN_reaches (Inv := fun t => Frame [.aq, .peat] clearRegs s t) (P := fun t => t.Cleared (circArea k)) hk (Frame.refl _ _ s)
    (fun j _ t ht => State.clearStep_frame ht j signed) (fun t ht => ?_) (fun j _ t ht => ?_)
  · rw [ht.req (by decide +kernel), hbit]
    exact State.clearFreed_self (circArea k) signed
  · unfold State.when
    split
    · exact ht.clearFreed signed
    · exact ht

theorem State.startFlush_flushing : s.startFlush.get .PEAT_STATUS_FLUSHING = 1 := by
  by_cases h : s.get .PEAT_STATUS_FLUSHING = 1
  · rw [State.startFlush_of_running h]
    exact h
  · have hlt : s.get .PEAT_STATUS_FLUSHING < 2 := s.get_lt _
    rw [State.startFlush_of_idle (by omega)]
    exact State.get_set_self _ _ _ (by decide)

/-! ### Records of a request -/

/-- Nothing is held back where nothing is frozen. -/
theorem State.heldBytes_of_free (h : s.get .PEAT_FRZ_AREA = 0) : s.heldBytes = 0 := by
  have hfrozen (a : Nat) : s.frozen a = false := by
    unfold State.frozen
    rw [h, Nat.zero_div]
    rfl
  have hheld : s.heldBack = fun _ => false := by
    funext x
    unfold State.heldBack
    rw [hfrozen, hfrozen, Bool.and_false, Bool.and_false]
    rfl
  unfold State.heldBytes
  rw [hheld, List.filter_false]
  rfl

/-- A record that fits where nothing is frozen is staged. -/
theorem State.peatRecord_staged {stream type_ : Nat} {body : List Byte}
    (hfits : stagedBytes s.peat.staged + (16 + body.length + 3) / 4 * 4 ≤ 262144) (hfree : s.get .PEAT_FRZ_AREA = 0) :
    ∃ x ∈ (s.peatRecord stream type_ body).peat.staged, x.rec_ = s.newRecord stream type_ body := by
  have hstaged : (s.stageRecord stream type_ body).get .PEAT_FRZ_AREA = 0 :=
    ((State.stageRecord_frame (fun _ hp => hp) (fun _ hr => hr) (Frame.refl _ _ s)).get (by decide +kernel)).trans hfree
  have hmem : s.newStaged stream type_ body ∈ (s.stagedMore stream type_ body).peat.staged := by
    rw [State.stagedMore_staged]
    exact List.mem_append_right _ (List.mem_singleton.2 rfl)
  rw [State.peatRecord_of_room (by rw [State.heldBytes_of_free hstaged]; decide), State.stageRecord_fits hfits]
  obtain ⟨x, hx, hrec, -⟩ := State.when_staged (c := decide (16384 < stagedBytes (s.stagedMore stream type_ body).peat.staged -
    (s.stagedMore stream type_ body).heldBytes) || (s.stagedMore stream type_ body).committed) hmem
  exact ⟨x, hx, hrec⟩

/-- The window set to a place of an area and loaded. -/
def State.windowAt (s : State) (a cursor : Nat) : State := ((s.set .PEAT_CUR_AREA_AREA a).peatCur cursor).windowLoad

theorem State.windowLoaded_areas (a off : Nat) : (s.windowLoaded a off).peat.areas = s.peat.areas := by
  unfold State.windowLoaded State.setIf
  dsimp only
  rw [State.set_peat, State.set_peat, State.set_peat, State.showWindow_peat]

theorem State.windowAt_areas (a cursor : Nat) : (s.windowAt a cursor).peat.areas = s.peat.areas := by
  have hcur : ((s.set .PEAT_CUR_AREA_AREA a).peatCur cursor).peat.areas = s.peat.areas := rfl
  unfold State.windowAt
  generalize (s.set .PEAT_CUR_AREA_AREA a).peatCur cursor = t at hcur
  rw [← hcur]
  cases hload : t.peat.loading with
  | none =>
    unfold State.windowLoad
    rw [hload]
  | some x =>
    cases hfrozen : t.frozen x.1 with
    | true => rw [State.windowLoad_of_frozen hload hfrozen, State.windowLoaded_areas]
    | false =>
      have hfrozen' : ({ t with peat := { t.peat with loading := none } } : State).frozen x.1 = false := hfrozen
      unfold State.windowLoad
      rw [hload]
      dsimp only
      rw [hfrozen']
      rfl

/-- What a read answers of an area's bytes from the cursor on. -/
def readAnswer (all : List Byte) (cursor : Nat) : List Byte :=
  leBytes 4 (cursor + ((all.drop cursor).take 232).length) ++ leBytes 2 ((all.drop cursor).take 232).length ++
    leBytes 1 (decide (cursor + ((all.drop cursor).take 232).length = all.length)).toNat ++ [0] ++ (all.drop cursor).take 232

/-- Settles O50: the answer to a request leaves what it staged, and what it froze, released or cleared. -/
theorem eventsAreServed : Obligations.EventsAreServed := by
  unfold Obligations.EventsAreServed
  refine ⟨fun s p hruns => ?_, fun s p hruns harea hidle hown => ?_, fun s p g hruns harea hfrozen hg hne => ?_,
    fun s p all hruns hall => ?_,
    fun s p hruns harea => ?_, fun s p c hruns hchallenge => ?_, fun s p c hruns hchallenge => ?_, fun s p norOk hruns hphase => ?_,
    fun s p norOk hruns hphase hidle => ?_, fun s p norOk hruns hphase hrun => ?_⟩
  · refine completes_of_outFrame (execPeatAppend_frame (parts_in rfl) (fun _ hr => hr))
      (t := (s.peatRecord 4 (s.req p 16 2) (s.reqBytes p 24 (s.req p 18 2))).respond p 0 true (leBytes 8 s.opt))
      (congrArg Host.Outcome.next (State.onCommand_of_runs hruns _))
      (fun _ => ⟨State.respond_answered (State.peatRecord_sameBox _ _ _) (by decide), fun hfits hheld hfree => ?_⟩)
    rw [show (State.respond _ _ _ _ _).peat = _ from State.respond_same .peat (by decide)]
    obtain ⟨x, hx, hrec⟩ := State.peatRecord_staged (stream := 4) (type_ := s.req p 16 2) (body := s.reqBytes p 24 (s.req p 18 2))
      (by rw [State.reqBytes_length]; exact hfits) hfree
    exact ⟨x, hx, by rw [hrec]; exact ⟨rfl, rfl, rfl, rfl⟩⟩
  · have hfreeze : Frame [.peat] [.fld .PEAT_STATUS_STAMP_WAIT, .fld .PEAT_STATUS_HELD, .fld .PEAT_STATUS_USED, .fld .PEAT_FRZ_AREA] s
        (s.freeze (s.reqArea p)) := State.freeze_frame (fun _ hp => hp) (fun _ hr => hr) (Frame.refl _ _ s)
    have hother : (s.frozen (s.reqArea p) && (s.aq.freezes.at (s.reqArea p)).any (· != s.mbxKey p)) = false := by
      rcases hown with h | h | h
      · rw [h, Bool.false_and]
      · rw [h, Option.any_none, Bool.and_false]
      · rw [h, Option.any_some, bne_self_eq_false, Bool.and_false]
    refine completes_of_outFrame (execPeatFreeze_frame (parts_in rfl) (fun _ hr => hr))
      (t := (s.freezeFor (s.reqArea p) (s.mbxKey p)).respond p 0 true (leBytes 4 (s.get (.PEAT_AREA_REC_COUNT (s.reqArea p))) ++
        leBytes 4 (s.get (.PEAT_AREA_BYTES_BYTES (s.reqArea p))))) ?_ (fun _ => ⟨?_, fun hopen => ?_⟩)
    · refine congrArg Host.Outcome.next ((State.onCommand_of_runs hruns _).trans ?_)
      dsimp only
      rw [if_neg (ne_true_of_eq_false hother), State.freeze_frozen harea hidle]
      change (((s.freeze (s.reqArea p)).freezeBy (s.reqArea p) ((s.freeze (s.reqArea p)).mbxKey p)).respond p 0 true
        (leBytes 4 ((s.freeze (s.reqArea p)).get _) ++ leBytes 4 ((s.freeze (s.reqArea p)).get _))) = _
      rw [(hfreeze.sameBox (by decide +kernel) p).key,
        hfreeze.get (apart_mod (n := 10) .PEAT_AREA_REC_COUNT (by decide) (by simp) (by decide +kernel) _),
        hfreeze.get (apart_mod (n := 10) .PEAT_AREA_BYTES_BYTES (by decide) (by simp) (by decide +kernel) _)]
      rfl
    · exact State.respond_answered ((hfreeze.sameBox (by decide +kernel) p).trans (State.SameBox.of_regs rfl)) (by decide)
    · have hkey : (s.freezeFor (s.reqArea p) (s.mbxKey p)).mbxKey p = s.mbxKey p := (hfreeze.sameBox (by decide +kernel) p).key
      have hsessions : (s.freezeFor (s.reqArea p) (s.mbxKey p)).aq.sessions = s.aq.sessions := by
        change (s.freeze (s.reqArea p)).aq.sessions = s.aq.sessions
        rw [hfreeze.same .aq (by decide)]
      have hheld := State.respond_hold_of_session (s := s.freezeFor (s.reqArea p) (s.mbxKey p)) (p := p) (a := s.reqArea p) (status := 0)
        (started := true) (payload := leBytes 4 (s.get (.PEAT_AREA_REC_COUNT (s.reqArea p))) ++
        leBytes 4 (s.get (.PEAT_AREA_BYTES_BYTES (s.reqArea p)))) (by rw [hkey, hsessions]; exact State.sessions_of_open hopen)
      obtain ⟨h1, h2⟩ := Prod.mk.inj hheld
      rw [h1, h2]
      refine ⟨State.freeze_frozen harea hidle, ?_⟩
      change ((s.freeze (s.reqArea p)).aq.freezes.put (s.reqArea p) (some (s.mbxKey p))).at (s.reqArea p) = _
      rw [Tab.at_put_self]
  · refine completes_of_outFrame (execPeatFreeze_frame (parts_in rfl) (fun _ hr => hr)) (t := s.respond p 0x0107 true []) ?_
      (fun _ => ⟨State.respond_answers (by decide), ?_⟩)
    · refine congrArg Host.Outcome.next ((State.onCommand_of_runs hruns _).trans (if_pos ?_))
      rw [hfrozen, hg, Bool.true_and]
      exact bne_iff_ne.2 hne
    · have hheld := State.respond_hold (s := s) (p := p) (a := s.reqArea p) (status := 0x0107) (started := true) (payload := [])
        (by rw [hg]; exact fun h => hne (Option.some.inj h))
      obtain ⟨h1, h2⟩ := Prod.mk.inj hheld
      exact ⟨h1.trans hfrozen, h2.trans hg⟩
  · have hwin : Frame [.peat] [.fld .PEAT_CUR_AREA_AREA, .fld .PEAT_CUR_OFFSET, .fld .PEAT_WIN_STATUS_VALID, .fld .PEAT_WIN_STATUS_END,
        .fld .PEAT_WIN_STATUS_BYTES, .arr (.PEAT_WIN_DATA 0) 0x4 1024] s (s.windowAt (s.reqArea p) (s.req p 20 4)) :=
      State.windowLoad_frame (fun _ hp => hp) (regs_in (by decide +kernel)) (State.peatCur_frame (fun _ hp => hp) (regs_in (by decide +kernel))
        (State.set_frame (cov_fld (fun _ hr => hr) (by decide +kernel)) (Frame.refl _ _ s)))
    subst hall
    refine completes_of_outFrame (execPeatRead_frame (parts_in rfl) (fun _ hr => hr))
      (t := (s.windowAt (s.reqArea p) (s.req p 20 4)).respond p 0 true
        (readAnswer ((s.peat.areas.at (s.reqArea p)).served (s.reqArea p)) (s.req p 20 4))) ?_ (fun _ =>
      State.respond_answered (hwin.sameBox (by decide +kernel) p) (by decide))
    refine congrArg Host.Outcome.next ((State.onCommand_of_runs hruns _).trans ?_)
    change (s.windowAt (s.reqArea p) (s.req p 20 4)).respond p 0 true
      (readAnswer (((s.windowAt (s.reqArea p) (s.req p 20 4)).peat.areas.at (s.reqArea p)).served (s.reqArea p)) (s.req p 20 4)) = _
    rw [State.windowAt_areas]
  · refine completes_of_outFrame (execPeatRelease_frame (parts_in rfl) (fun _ hr => hr)) (t := (s.releaseFreeze (s.reqArea p)).respond p 0 true [])
      (congrArg Host.Outcome.next (State.onCommand_of_runs hruns _)) (fun _ => ⟨State.respond_answered ?_ (by decide), ?_⟩)
    · exact (State.releaseFreeze_frame (fun _ hp => hp) (fun _ hr => hr) (Frame.refl _ _ s)).sameBox (by decide +kernel) p
    · have hfree := State.releaseFreeze_hold_self (s := s) (s.reqArea p)
      have hheld := State.respond_hold (s := s.releaseFreeze (s.reqArea p)) (p := p) (a := s.reqArea p) (status := 0) (started := true)
        (payload := []) (by rw [show (s.releaseFreeze (s.reqArea p)).aq.freezes.at (s.reqArea p) = none from congrArg Prod.snd hfree]; simp)
      exact Prod.mk.inj (hheld.trans hfree)
  · refine completes_of_outFrame (execPeatClear_frame (parts_in rfl) (fun _ hr => hr))
      (t := s.signedCommand p (fun signed t => (t.clearAll p signed).respond p 0 true []))
      (congrArg Host.Outcome.next (State.onCommand_of_runs hruns _)) (fun _ => ⟨fun hgood => ?_, fun hbad => ?_⟩)
    · rw [State.signedCommand_of_good hchallenge _ hgood]
      refine ⟨State.respond_answered ((State.clearAll_frame (s.signedBytes p c)).sameBox (by decide +kernel) p) (by decide),
        fun k hk hbit => ?_⟩
      have hclear := State.clearAll_cleared (s := s) (p := p) (s.signedBytes p c) hk hbit
      have hheld := State.respond_hold (s := s.clearAll p (s.signedBytes p c)) (p := p) (a := circArea k) (status := 0) (started := true)
        (payload := []) (by rw [show (s.clearAll p (s.signedBytes p c)).aq.freezes.at (circArea k) = none from congrArg Prod.snd hclear.hold]; simp)
      refine ⟨congrArg Prod.fst (hheld.trans hclear.hold), ?_⟩
      rw [show ((s.clearAll p (s.signedBytes p c)).respond p 0 true []).peat = _ from State.respond_same .peat (by decide)]
      exact hclear.head
    · rw [State.signedCommand_of_bad hchallenge _ hbad, State.respond_latched]
      exact ⟨State.respond_answered (State.raise_sameBox _ _ _) (by decide), State.raise_latched_true (by decide +kernel)⟩
  · refine completes_of_outFrame (execPeatClear_frame (parts_in rfl) (fun _ hr => hr))
      (t := s.signedCommand p (fun _ t => t.respond p 0x0164 true []))
      (congrArg Host.Outcome.next (State.onCommand_of_runs hruns _)) (fun _ => ⟨fun hgood => ?_, fun hbad => ?_⟩)
    · rw [State.signedCommand_of_good hchallenge _ hgood]
      refine ⟨State.respond_answers (by decide), ?_⟩
      rw [show (s.respond p 0x0164 true []).peat = s.peat from State.respond_same .peat (by decide)]
    · rw [State.signedCommand_of_bad hchallenge _ hbad, State.respond_latched]
      exact ⟨State.respond_answered (State.raise_sameBox _ _ _) (by decide), State.raise_latched_true (by decide +kernel)⟩
  · refine completes_of_outFrame (execAqPeatFlush_frame (parts_in rfl) (fun _ hr => hr))
      (t := s.startFlush.updRun p (fun r => { r with phase := 1 })) ?_ (fun _ => ⟨?_, ?_, ?_⟩)
    · have hstart : s.when ((s.run p).phase == 0) (fun s => s.startFlush.updRun p (fun r => { r with phase := 1 })) =
          s.startFlush.updRun p (fun r => { r with phase := 1 }) := by
        rw [State.run, hphase]
        rfl
      have hrun : (s.startFlush.updRun p (fun r => { r with phase := 1 })).is .PEAT_STATUS_FLUSHING = true :=
        State.is_of_get State.startFlush_flushing
      refine congrArg Host.Outcome.next ((State.onCommand_of_runs hruns _).trans ?_)
      dsimp only
      rw [hstart, hrun, if_pos rfl]
    · exact State.startFlush_flushing
    · rw [State.updRun_run]
    · exact (State.startFlush_get (apart_mod (n := 64) .MBX_STAT_STATE (by decide) (by simp) (by decide +kernel) p)).trans hruns.1
  · have hdone : s.when ((s.run p).phase == 0) (fun s => s.startFlush.updRun p (fun r => { r with phase := 1 })) = s := by
      rw [State.run, hphase]
      rfl
    cases norOk with
    | true =>
      refine completes_of_outFrame (execAqPeatFlush_frame (parts_in rfl) (fun _ hr => hr)) (t := s.respond p 0 true []) ?_
        (fun _ => State.respond_answers (by decide))
      refine congrArg Host.Outcome.next ((State.onCommand_of_runs hruns _).trans ?_)
      dsimp only
      rw [hdone, State.not_is_of_get hidle]
      rfl
    | false =>
      refine completes_of_outFrame (execAqPeatFlush_frame (parts_in rfl) (fun _ hr => hr)) (t := s.respond p 0x0164 true []) ?_
        (fun _ => State.respond_answers (by decide))
      refine congrArg Host.Outcome.next ((State.onCommand_of_runs hruns _).trans ?_)
      dsimp only
      rw [hdone, State.not_is_of_get hidle]
      rfl
  · have hdone : s.when ((s.run p).phase == 0) (fun s => s.startFlush.updRun p (fun r => { r with phase := 1 })) = s := by
      rw [State.run, hphase]
      rfl
    refine completes_of_outFrame (execAqPeatFlush_frame (parts_in rfl) (fun _ hr => hr)) (t := s) ?_ (fun _ => rfl)
    refine congrArg Host.Outcome.next ((State.onCommand_of_runs hruns _).trans ?_)
    dsimp only
    rw [hdone, State.is_of_get hrun, if_pos rfl]

end Sys2Proof.Machine
end

section
set_option Elab.async false
/-! FORMAT PROGRAMS LOAD (10). A load collects words for the session that opened it; a commit that is in order waits for the streams to be idle,
and then writes the words into every store (R145, R241, R242, R243, R244, R434). -/

namespace Sys2Proof.Machine

variable {s : State} {p : Nat}

/-- A load that ends. -/
def State.closeLoad (s : State) : State := (s.updAq (fun a => { a with load := none })).updMq (fun m => { m with progHold := false })

theorem State.closeLoad_sameBox : s.SameBox p s.closeLoad := State.SameBox.of_regs rfl

theorem State.respond_mq {status : Nat} {started : Bool} {payload : List Byte} : (s.respond p status started payload).mq = s.mq :=
  State.respond_same .mq (by decide)

theorem State.closeLoad_respond {status : Nat} {payload : List Byte} : (s.closeLoad.respond p status true payload).aq.load = none ∧
    (s.closeLoad.respond p status true payload).aq.progs = s.aq.progs ∧ (s.closeLoad.respond p status true payload).mq.progHold = false := by
  rw [State.respond_load_none rfl, State.respond_progs, State.respond_mq]
  exact ⟨rfl, rfl, rfl⟩

/-- The words of a program written into every store. -/
def State.loadStores (s : State) (addr : Nat) (words : List Word) : State := s.forN 8 (fun n s => s.updSeq n (fun q =>
  { q with store := (List.range words.length).foldl (fun t i => t.put (addr + i) (words.getD i 0)) q.store }))

theorem State.loadStores_store {addr n i : Nat} {words : List Word} (hn : n < 8) (hi : i < words.length) :
    ((s.loadStores addr words).seq n).store.at (addr + i) = words.getD i 0 := by
  refine State.forN_reaches (Inv := fun _ => True) (P := fun t => (t.seq n).store.at (addr + i) = words.getD i 0) hn trivial
    (fun _ _ _ _ => trivial) (fun t _ => ?_) (fun j _ t ht => ?_)
  · rw [State.updSeq_seq_self]
    exact foldl_put_from addr (fun i => words.getD i 0) _ hi
  · by_cases hj : n = j
    · subst hj
      rw [State.updSeq_seq_self]
      exact foldl_put_from addr (fun i => words.getD i 0) _ hi
    · rw [State.updSeq_seq_ne _ hj]
      exact ht

/-- Every store holds the words of a program once it is placed. -/
theorem State.placeProgram_store {addr n i : Nat} {words : List Word} (hn : n < 8) (hi : i < words.length) :
    ((s.placeProgram addr words).seqs.at n).store.at (addr + i) = words.getD i 0 := by
  unfold State.placeProgram
  rw [State.set_seqs, State.set_seqs]
  exact State.loadStores_store hn hi

/-- A load committed: its words in the stores, its program in the table. -/
def State.programStored (s : State) (l : FLoad) : State :=
  (s.closeLoad.placeProgram l.addr l.words).updAq (fun a => { a with
    progs := a.progs.filter (fun x => x.prog ≠ l.prog) ++ [{ prog := l.prog, addr := l.addr, persist := l.persist, words := l.words }],
    binds := a.binds.filter (fun x => x.prog ≠ l.prog) })

theorem State.placeProgram_within (addr : Nat) (words : List Word) :
    Frame [.seqs] [.fld .REED_CS_CTRL_SEQ_MASK, .fld .REED_CS_CTRL_ADDR] s (s.placeProgram addr words) :=
  State.placeProgram_frame (fun _ hp => hp) (fun _ hr => hr) (Frame.refl _ _ s)

theorem State.programStored_sameBox (l : FLoad) : s.SameBox p (s.programStored l) :=
  (State.closeLoad_sameBox.trans ((State.placeProgram_within l.addr l.words).sameBox (by decide +kernel) p)).trans
    (State.SameBox.of_regs (State.updAq_regs _ _))

theorem State.programStored_mq (l : FLoad) : (s.programStored l).mq = s.closeLoad.mq := by
  unfold State.programStored
  rw [State.updAq_mq, (State.placeProgram_within l.addr l.words).same .mq (by decide)]

theorem State.programStored_seqs (l : FLoad) : (s.programStored l).seqs = (s.closeLoad.placeProgram l.addr l.words).seqs := by
  unfold State.programStored
  rw [State.updAq_seqs]

theorem State.programStored_mask (l : FLoad) : (s.programStored l).get .REED_CS_CTRL_SEQ_MASK = 0xFF := by
  unfold State.programStored State.placeProgram
  rw [State.updAq_get, State.get_set_other _ _ (by decide)]
  exact State.get_set_self _ _ _ (by decide)

theorem State.programStored_aq (l : FLoad) : (s.programStored l).aq = { s.closeLoad.aq with
    progs := s.aq.progs.filter (fun x => x.prog ≠ l.prog) ++ [{ prog := l.prog, addr := l.addr, persist := l.persist, words := l.words }],
    binds := s.aq.binds.filter (fun x => x.prog ≠ l.prog) } := by
  unfold State.programStored
  rw [State.updAq_aq, (State.placeProgram_within l.addr l.words).same .aq (by decide)]
  rfl

/-- NOR is not asked, or it writes. -/
theorem norFails {asked norOk : Bool} (h : asked = false ∨ norOk = true) : (asked && !norOk) = false := by
  rcases h with h | h
  · rw [h, Bool.false_and]
  · rw [h, Bool.not_true, Bool.and_false]

/-- Settles O49: an answer leaves the load of an open session, and closes what the commit closed. -/
theorem formatProgramsLoad : Obligations.FormatProgramsLoad := by
  unfold Obligations.FormatProgramsLoad
  refine ⟨fun s p hruns => ?_, fun s p l hruns hload => ?_, fun s p norOk l r hruns hload hcheck => ?_,
    fun s p norOk l hruns hload hcheck hwait => ?_, fun s p norOk l hruns hload hcheck hidle hhold hnor => ?_,
    fun s p l hruns hload hcheck hidle hhold hpersist => ?_, fun s p norOk hruns hcheck hnor => ?_, fun s p norOk r hruns hcheck => ?_,
    fun s p norOk hruns hnor => ?_, fun s p hruns hpersist => ?_, fun s p l hruns hl => ?_⟩
  · refine completes_of_outFrame (execFprogBegin_frame (parts_in rfl) (fun _ hr => hr))
      (t := (s.updAq (fun a => { a with load := some { owner := s.mbxKey p, prog := s.req p 16 2, count := s.req p 18 2, addr := s.req p 20 2, persist := s.req p 22 1 == 1 } })).respond p 0 true [])
      (congrArg Host.Outcome.next (State.onCommand_of_runs hruns _))
      (fun _ => ⟨State.respond_answered (State.SameBox.of_regs (State.updAq_regs _ _)) (by decide), fun hopen => ?_, ?_⟩)
    · exact State.respond_load_of_session (State.sessions_of_open hopen)
    · rw [State.respond_progs]
      rfl
  · refine completes_of_outFrame (execFprogData_frame (parts_in rfl) (fun _ hr => hr))
      (t := (s.updAq (fun a => { a with load := some { l with words := l.words ++ (List.range (s.req p 20 1)).map (fun i => BitVec.ofNat 32 (s.req p (24 + 4 * i) 4)) } })).respond p 0 true []) ?_
      (fun _ => ⟨State.respond_answered (State.SameBox.of_regs (State.updAq_regs _ _)) (by decide), fun hopen => ?_, ?_⟩)
    · refine congrArg Host.Outcome.next ((State.onCommand_of_runs hruns _).trans ?_)
      rw [hload]
      rfl
    · exact State.respond_load_of_session (State.sessions_of_open hopen)
    · rw [State.respond_progs]
      rfl
  · refine completes_of_outFrame (execFprogCommit_frame (parts_in rfl) (fun _ hr => hr)) (t := s.closeLoad.respond p 0x0120 true (ruleBytes r)) ?_
      (fun _ => ⟨State.respond_answered State.closeLoad_sameBox (by decide), State.closeLoad_respond⟩)
    refine congrArg Host.Outcome.next ((State.onCommand_of_runs hruns _).trans ?_)
    rw [hload]
    dsimp only
    rw [hcheck]
    rfl
  · refine completes_of_outFrame (execFprogCommit_frame (parts_in rfl) (fun _ hr => hr)) (t := s.updMq (fun m => { m with progHold := true })) ?_
      (fun _ => ⟨rfl, hload, hruns.1⟩)
    have hnot : ¬((List.range 8).all (fun n => !s.running n) && s.mq.progHold) = true := by
      rcases hwait with h | h
      · rw [h, Bool.and_false]
        exact Bool.false_ne_true
      · rw [h, Bool.false_and]
        exact Bool.false_ne_true
    refine congrArg Host.Outcome.next ((State.onCommand_of_runs hruns _).trans ?_)
    rw [hload]
    dsimp only
    rw [hcheck]
    dsimp only
    rw [if_neg hnot]
  · have hextend := State.extendMr_frame (R := [.grid (.DYKE_MR_DATA 0 0) 0x30 16 0x4 12]) (fun _ hr => hr) (r := 10)
      (v := sha384Bytes (l.words.flatMap (fun w => leBytes 4 w.toNat))) (Frame.refl [] _ (s.programStored l))
    have hbox : s.SameBox p ((s.programStored l).extendMr 10 (sha384Bytes (l.words.flatMap (fun w => leBytes 4 w.toNat)))) :=
      (State.programStored_sameBox l).trans (hextend.sameBox (by decide +kernel) p)
    refine completes_of_outFrame (execFprogCommit_frame (parts_in rfl) (fun _ hr => hr))
      (t := ((s.programStored l).extendMr 10 (sha384Bytes (l.words.flatMap (fun w => leBytes 4 w.toNat)))).respond p 0 true
        (ruleBytes (0xFFFF, 0))) ?_
      (fun _ => ⟨?_, ?_, ?_, ?_, ?_, ?_, fun n hn i hi => ?_⟩)
    · refine congrArg Host.Outcome.next ((State.onCommand_of_runs hruns _).trans ?_)
      rw [hload]
      dsimp only
      rw [hcheck]
      dsimp only
      rw [hidle, hhold, norFails hnor]
      rfl
    · exact State.respond_answered hbox (by decide)
    · refine State.respond_load_none ?_
      rw [hextend.same .aq (by decide), State.programStored_aq]
      rfl
    · rw [State.respond_progs, hextend.same .aq (by decide), State.programStored_aq]
    · rw [State.respond_binds, hextend.same .aq (by decide), State.programStored_aq]
    · rw [State.respond_mq, hextend.same .mq (by decide), State.programStored_mq]
      rfl
    · rw [State.respond_get (by decide +kernel), hextend.get (by decide +kernel), State.programStored_mask]
    · rw [show State.seqs (State.respond _ _ _ _ _) = _ from State.respond_same .seqs (by decide), hextend.same .seqs (by decide),
      State.programStored_seqs]
      exact State.placeProgram_store hn hi
  · refine completes_of_outFrame (execFprogCommit_frame (parts_in rfl) (fun _ hr => hr)) (t := s.closeLoad.respond p 0x0164 true []) ?_
      (fun _ => ⟨State.respond_answered State.closeLoad_sameBox (by decide), State.closeLoad_respond⟩)
    refine congrArg Host.Outcome.next ((State.onCommand_of_runs hruns _).trans ?_)
    rw [hload]
    dsimp only
    rw [hcheck]
    dsimp only
    rw [hidle, hhold, hpersist]
    rfl
  · refine completes_of_outFrame (execFprogBind_frame (parts_in rfl) (fun _ hr => hr))
      (t := (s.updAq (fun a => { a with binds := a.binds ++ [{ prog := s.req p 16 2, opcode := s.req p 18 1, first := s.req p 20 2, last := s.req p 22 2, entry := s.req p 24 2, thresh := s.req p 26 2 }] })).respond p 0 true (ruleBytes (0xFFFF, 0))) ?_
      (fun _ => ⟨State.respond_answered (State.SameBox.of_regs (State.updAq_regs _ _)) (by decide), ?_⟩)
    · refine congrArg Host.Outcome.next ((State.onCommand_of_runs hruns _).trans ?_)
      dsimp only
      rw [hcheck]
      dsimp only
      rw [norFails hnor]
      rfl
    · rw [State.respond_binds]
      rfl
  · refine completes_of_outFrame (execFprogBind_frame (parts_in rfl) (fun _ hr => hr)) (t := s.respond p 0x0120 true (ruleBytes (0xFFFF,
    r))) ?_
      (fun _ => ⟨State.respond_answers (by decide), State.respond_binds⟩)
    refine congrArg Host.Outcome.next ((State.onCommand_of_runs hruns _).trans ?_)
    dsimp only
    rw [hcheck]
    rfl
  · refine completes_of_outFrame (execFprogDelete_frame (parts_in rfl) (fun _ hr => hr))
      (t := (s.updAq (fun a => { a with progs := a.progs.filter (fun x => x.prog ≠ s.req p 16 2), binds := a.binds.filter (fun x => x.prog ≠ s.req p 16 2) })).respond p 0 true []) ?_
      (fun _ => ⟨State.respond_answered (State.SameBox.of_regs (State.updAq_regs _ _)) (by decide), ?_, ?_⟩)
    · refine congrArg Host.Outcome.next ((State.onCommand_of_runs hruns _).trans ?_)
      dsimp only
      rw [norFails hnor]
      rfl
    · rw [State.respond_progs]
      rfl
    · rw [State.respond_binds]
      rfl
  · refine completes_of_outFrame (execFprogDelete_frame (parts_in rfl) (fun _ hr => hr)) (t := s.respond p 0x0164 true []) ?_
      (fun _ => ⟨State.respond_answers (by decide), State.respond_progs, State.respond_binds⟩)
    refine congrArg Host.Outcome.next ((State.onCommand_of_runs hruns _).trans ?_)
    dsimp only
    rw [hpersist]
    rfl
  · subst hl
    exact completes_of_outFrame (execFprogList_frame (parts_in rfl) (fun _ hr => hr))
      (congrArg Host.Outcome.next (State.onCommand_of_runs hruns _)) (fun _ => ⟨State.respond_answers (by decide), State.respond_progs⟩)

end Sys2Proof.Machine
end

section
set_option Elab.async false
/-! TABLES AND CHANNELS ARE SERVED (10, 04, 07). A command of the servo or the channel family sets what it names, waits for a capture,
  or goes
through the items of a calibration one execution at a time (R102, R108, R114, R174, R238, R239, R240, R501). -/

namespace Sys2Proof.Machine

variable {s t : State} {p status : Nat}

/-! ### The servo tables (R98, R239) -/

theorem State.loadTables_changed (h : s.partChanged 5 = true) : s.loadTables = (some 0, s.raise 0x0F03) := if_pos h

/-- TABLES_VALID tells whether every region of the image read in bears its tag. -/
theorem State.loadTables_valid (h : s.partChanged 5 = false) :
    s.loadTables.2.get .TUS_CTRL_TABLES_VALID = s.loadTables.1.isNone.toNat := by
  unfold State.loadTables
  rw [if_neg (ne_true_of_eq_false h)]
  extract_lets image s1 bad
  clear_value bad s1
  refine (State.when_get ?_).trans ((State.get_set_self _ _ _ (by decide)).trans (Nat.mod_eq_of_lt (Bool.toNat_lt _)))
  exact (State.forN_frame (W := [.tus]) (R := [.arr (.TUS_SEC_STATUS_REGION_PEND 0) 0x40 4]) (Frame.refl _ _ _)
    (fun k _ ht => State.freezeRegion_frame (fun _ hp => hp) (fun _ hr => hr) ht)).get (by decide +kernel)

theorem State.loadTables_box (p : Nat) : s.SameBox p s.loadTables.2 :=
  (State.loadTables_frame (fun _ hp => hp) (fun _ hr => hr) (Frame.refl _ _ s)).sameBox (by decide +kernel) p

/-- The regions of the four sections fetched. -/
def State.fetchAll (s : State) : State := s.forN 4 (fun k s => s.fetchRegion k (s.get (.TUS_SEC_STATUS_REGION k)))

theorem State.fetchAll_within : Frame [.tus] [.arr (.TUS_SEC_STATUS_REGION_PEND 0) 0x40 4] s s.fetchAll :=
  State.forN_frame (Frame.refl _ _ s) (fun k _ ht => State.fetchRegion_frame (fun _ hp => hp) (fun _ hr => hr) ht)

/-- The words `g` of a row of a region, put into the tables. -/
theorem State.putTable_row {e w n : Nat} {g : Nat → Word} {a : State → Nat → Nat} (ha :
    ∀ t i, t.regs = s.regs → a t i = s.tableWord e (w + i))
    (f : Nat → State → State) (hf : ∀ i t, t.regs = s.regs → f i t = t.putTable (a t i) (g i)) :
    ∀ i < n, (s.forN n f).tus.tables.at (s.tableWord e (w + i)) = g i := by
  intro i hi
  refine (State.forN_reaches (Inv := fun t => t.regs = s.regs)
    (P := fun t => t.regs = s.regs ∧ t.tus.tables.at (s.tableWord e (w + i)) = g i) hi rfl (fun j _ t ht => ?_) (fun t ht => ?_)
    (fun j _ t ht => ?_)).2
  · rw [hf j t ht]
    exact ht
  · rw [hf i t ht, ha t i ht]
    exact ⟨ht, Tab.at_put_self _ _ _⟩
  · obtain ⟨hregs, hword⟩ := ht
    rw [hf j t hregs, ha t j hregs]
    refine ⟨hregs, ?_⟩
    by_cases hji : j = i
    · subst hji
      exact Tab.at_put_self _ _ _
    · exact (Tab.at_put_ne _ _ (by unfold State.tableWord; omega)).trans hword

/-- The words of a SERVO_REGION_WRITE, put into the tables. -/
def State.writeRow (s : State) (p : Nat) : State := s.forN (s.req p 19 1) (fun i t =>
  t.putTable (t.tableWord (s.req p 16 2) (s.req p 18 1 + i)) (BitVec.ofNat 32 (t.req p (24 + 4 * i) 4)))

theorem State.req_of_regs (h : t.regs = s.regs) (off len : Nat) : t.req p off len = s.req p off len :=
  congrArg leNat (State.reqBytes_congr (fun _ => get_of_regs h _) off len)

theorem State.writeRow_regs : (s.writeRow p).regs = s.regs :=
  State.forN_keeps (fun t => t.regs) (f := fun i t =>
    t.putTable (t.tableWord (s.req p 16 2) (s.req p 18 1 + i)) (BitVec.ofNat 32 (t.req p (24 + 4 * i) 4))) (fun _ _ => rfl) _

theorem State.writeRow_words : ∀ i < s.req p 19 1, (s.writeRow p).tus.tables.at (s.tableWord (s.req p 16 2) (s.req p 18 1 + i)) =
    BitVec.ofNat 32 (s.req p (24 + 4 * i) 4) :=
  State.putTable_row (a := fun t i => t.tableWord (s.req p 16 2) (s.req p 18 1 + i))
    (fun t i h => by unfold State.tableWord; rw [get_of_regs h]) _ (fun i t h => by rw [State.req_of_regs h])

/-- A register of `n` that is set leaves what an answer reads of a pair. -/
theorem State.SameBox.set {f : Fld} {v : Nat} (h : s.SameBox p t) (hf : f.addr < 0x4501_0000 ∨ 0x4502_0000 ≤ f.addr) :
    s.SameBox p (t.set f v) :=
  h.trans ⟨State.get_set_other _ _ (.inl (by dsimp only; omega)), State.get_set_other _ _ (.inl (by dsimp only; omega)),
    State.get_set_other _ _ (.inl (by dsimp only; omega)), State.get_set_other _ _ (.inl (by dsimp only; omega))⟩

/-- What SERVO_LIMITS sets of section `k`. -/
def State.limits (s : State) (p k : Nat) : State :=
  (((((s.set (.TUS_SETTLE_SETTLE_CNT k) (s.req p 17 1)).set (.TUS_SETTLE_SETTLE_WIN k) (s.req p 18 2)).set (.TUS_SETTLE_WINH_THR k)
    (s.req p 30 2)).set (.TUS_PROF_V_VMAX k) (s.req p 20 4)).set (.TUS_PROF_A_AMAX k) (s.req p 24 4)).set (.TUS_PROF_J_JMAX k) (s.req p 28 2)

theorem State.limits_box (p k : Nat) : s.SameBox p (s.limits p k) := by
  unfold State.limits
  refine State.SameBox.set (State.SameBox.set (State.SameBox.set (State.SameBox.set (State.SameBox.set (State.SameBox.set
    (State.SameBox.refl p s) ?_) ?_) ?_) ?_) ?_) ?_
  all_goals exact .inr (by dsimp only; omega)

theorem exec_servoLimits (hruns : s.Runs p 0x0303) :
    exec (.servoLimits p) s = .next ((s.limits p (s.req p 16 1)).respond p 0 true []) := by
  refine congrArg Host.Outcome.next ((State.onCommand_of_runs hruns _).trans ?_)
  simp (disch := (dsimp only; omega)) only [State.req_set]
  rfl

theorem State.limits_settle {k : Nat} : (s.limits p k).get (.TUS_SETTLE_SETTLE_CNT k) = s.req p 17 1 % 2 ^ 4 ∧
    (s.limits p k).get (.TUS_SETTLE_SETTLE_WIN k) = s.req p 18 2 % 2 ^ 10 ∧
    (s.limits p k).get (.TUS_SETTLE_WINH_THR k) = s.req p 30 2 % 2 ^ 10 := by
  unfold State.limits
  refine ⟨?_, ?_, ?_⟩
  all_goals simp (disch := (dsimp only; omega)) only [State.get_set_self, State.get_set_other]

theorem State.limits_profile {k : Nat} : (s.limits p k).get (.TUS_PROF_V_VMAX k) = s.req p 20 4 % 2 ^ 20 ∧
    (s.limits p k).get (.TUS_PROF_A_AMAX k) = s.req p 24 4 % 2 ^ 20 ∧ (s.limits p k).get (.TUS_PROF_J_JMAX k) = s.req p 28 2 % 2 ^ 16 := by
  unfold State.limits
  refine ⟨?_, ?_, ?_⟩
  all_goals simp (disch := (dsimp only; omega)) only [State.get_set_self, State.get_set_other]

/-- What is set stands past the answer. -/
theorem State.limits_gets {k : Nat} :
    ((s.limits p k).respond p status true []).get (.TUS_SETTLE_SETTLE_CNT k) = s.req p 17 1 % 2 ^ 4 ∧
    ((s.limits p k).respond p status true []).get (.TUS_SETTLE_SETTLE_WIN k) = s.req p 18 2 % 2 ^ 10 ∧
    ((s.limits p k).respond p status true []).get (.TUS_SETTLE_WINH_THR k) = s.req p 30 2 % 2 ^ 10 ∧
    ((s.limits p k).respond p status true []).get (.TUS_PROF_V_VMAX k) = s.req p 20 4 % 2 ^ 20 ∧
    ((s.limits p k).respond p status true []).get (.TUS_PROF_A_AMAX k) = s.req p 24 4 % 2 ^ 20 ∧
    ((s.limits p k).respond p status true []).get (.TUS_PROF_J_JMAX k) = s.req p 28 2 := by
  obtain ⟨hcnt, hwin, hthr⟩ := State.limits_settle (s := s) (p := p) (k := k)
  obtain ⟨hv, ha, hj⟩ := State.limits_profile (s := s) (p := p) (k := k)
  exact ⟨(State.respond_getMod (n := 4) .TUS_SETTLE_SETTLE_CNT (by decide) (by simp) (by decide +kernel) k).trans hcnt,
    (State.respond_getMod (n := 4) .TUS_SETTLE_SETTLE_WIN (by decide) (by simp) (by decide +kernel) k).trans hwin,
    (State.respond_getMod (n := 4) .TUS_SETTLE_WINH_THR (by decide) (by simp) (by decide +kernel) k).trans hthr,
    (State.respond_getMod (n := 4) .TUS_PROF_V_VMAX (by decide) (by simp) (by decide +kernel) k).trans hv,
    (State.respond_getMod (n := 4) .TUS_PROF_A_AMAX (by decide) (by simp) (by decide +kernel) k).trans ha,
    (State.respond_getMod (n := 4) .TUS_PROF_J_JMAX (by decide) (by simp) (by decide +kernel) k).trans
      (hj.trans (Nat.mod_eq_of_lt (s.req_lt p 28 2)))⟩

/-- The places off the diagonal stand in registers of their own. -/
theorem offDiagonal_apart : ∀ i < 12, ∀ j < 12, j ≠ i →
    (Fld.TUS_XC_M (offDiagonal i).1 (offDiagonal i).2).addr ≠ (Fld.TUS_XC_M (offDiagonal j).1 (offDiagonal j).2).addr := by
  decide

/-- What SERVO_COUPLING sets of the matrix and the gains. -/
def State.couple (s : State) (p : Nat) : State :=
  let s := ((s.set .TUS_XC_EXP_EXP (s.req p 17 1)).set .TUS_RV_CFG_G01 (s.req p 20 2)).set .TUS_RV_CFG_G23 (s.req p 22 2)
  let s := s.forN 12 (fun i s => s.set (.TUS_XC_M (offDiagonal i).1 (offDiagonal i).2) (s.req p (24 + 4 * i) 4))
  s.set .TUS_STATUS_XC_PENDING 1

theorem State.couple_within (p : Nat) : Frame [] [.fld .TUS_XC_EXP_EXP, .fld .TUS_RV_CFG_G01, .fld .TUS_RV_CFG_G23,
    .grid (.TUS_XC_M 0 0) 0x10 4 0x4 4, .fld .TUS_STATUS_XC_PENDING] s (s.couple p) := by
  unfold State.couple
  refine State.set_frame (cov_fld (fun _ hr => hr) (by decide +kernel)) (State.forN_frame ?_ (fun i t ht => State.set_frame ?_ ht))
  · refine State.set_frame (cov_fld (fun _ hr => hr) (by decide +kernel)) (State.set_frame (cov_fld (fun _ hr => hr) (by decide +kernel))
      (State.set_frame (cov_fld (fun _ hr => hr) (by decide +kernel)) (Frame.refl _ _ s)))
  · exact cov_grid (f := .TUS_XC_M 0 0) (fun _ hr => hr) (by decide +kernel) (by decide) (by decide) rfl

theorem State.couple_box (p : Nat) : s.SameBox p (s.couple p) := (s.couple_within p).sameBox (by decide +kernel) p

theorem State.couple_matrix {i : Nat} (hi : i < 12) :
    (s.couple p).get (.TUS_XC_M (offDiagonal i).1 (offDiagonal i).2) = s.req p (24 + 4 * i) 4 % 2 ^ 18 := by
  unfold State.couple
  rw [State.get_set_other _ _ (.inl (by dsimp only; omega))]
  refine State.forN_reaches (Inv := fun t => ∀ off len, t.req p off len = s.req p off len)
    (P := fun t => t.get (.TUS_XC_M (offDiagonal i).1 (offDiagonal i).2) = s.req p (24 + 4 * i) 4 % 2 ^ 18 ∧
      ∀ off len, t.req p off len = s.req p off len) hi (fun off len => ?_) (fun j _ t ht off len => ?_) (fun t ht => ⟨?_,
        fun off len => ?_⟩)
    (fun j hj t ht => ⟨?_, fun off len => ?_⟩) |>.1
  · simp (disch := (dsimp only; omega)) only [State.req_set]
  · rw [State.req_set _ _ _ (.inr (by dsimp only; omega)), ht]
  · rw [State.get_set_self _ _ _ (by simp), ht]
  · rw [State.req_set _ _ _ (.inr (by dsimp only; omega)), ht]
  · by_cases hji : j = i
    · subst hji
      rw [State.get_set_self _ _ _ (by simp), ht.2]
    · rw [State.get_set_other _ _ (.inl (offDiagonal_apart i hi j hj hji)), ht.1]
  · rw [State.req_set _ _ _ (.inr (by dsimp only; omega)), ht.2]

theorem State.couple_gains : (s.couple p).get .TUS_XC_EXP_EXP = s.req p 17 1 % 2 ^ 6 ∧ (s.couple p).get .TUS_RV_CFG_G01 = s.req p 20 2 ∧
    (s.couple p).get .TUS_RV_CFG_G23 = s.req p 22 2 ∧ (s.couple p).get .TUS_STATUS_XC_PENDING = 1 := by
  unfold State.couple
  extract_lets s1 s2
  have hmatrix {g : Fld} (hg : ([.grid (.TUS_XC_M 0 0) 0x10 4 0x4 4] : List Regs).all (fun r => r.apartB g) = true) : s2.get g = s1.get g :=
    (State.forN_frame (W := []) (Frame.refl _ _ s1) (fun i _ ht => State.set_frame
      (cov_grid (f := .TUS_XC_M 0 0) (fun _ hr => hr) (by decide +kernel) (by decide) (by decide) rfl) ht)).get hg
  clear_value s2
  refine ⟨?_, ?_, ?_, State.get_set_self _ _ _ (by decide)⟩
  · rw [State.get_set_other _ _ (by decide), hmatrix (by decide +kernel)]
    unfold s1
    simp (disch := decide) only [State.get_set_self, State.get_set_other]
  · rw [State.get_set_other _ _ (by decide), hmatrix (by decide +kernel)]
    unfold s1
    simp (disch := decide) only [State.get_set_self, State.get_set_other]
    exact Nat.mod_eq_of_lt (s.req_lt p 20 2)
  · rw [State.get_set_other _ _ (by decide), hmatrix (by decide +kernel)]
    unfold s1
    simp (disch := decide) only [State.get_set_self]
    exact Nat.mod_eq_of_lt (s.req_lt p 22 2)

/-- XC_EN and RVFF_EN set. -/
def State.switch (s : State) (f : Nat) : State := (s.set .TUS_CTRL_XC_EN f).set .TUS_CTRL_RVFF_EN (f / 2)

theorem State.switch_box {f : Nat} (h : s.SameBox p t) : s.SameBox p (t.switch f) :=
  State.SameBox.set (State.SameBox.set h (.inr (by decide))) (.inr (by decide))

theorem State.switch_get {f : Nat} {g : Fld} (h : g.addr ≠ Fld.addr .TUS_CTRL_XC_EN) : (s.switch f).get g = s.get g := by
  unfold State.switch
  have hsame : Fld.addr .TUS_CTRL_RVFF_EN = Fld.addr .TUS_CTRL_XC_EN := by decide
  rw [State.get_set_other _ _ (.inl (hsame ▸ h)), State.get_set_other _ _ (.inl h)]

theorem State.switch_self {f : Nat} : (s.switch f).get .TUS_CTRL_XC_EN = f % 2 ∧ (s.switch f).get .TUS_CTRL_RVFF_EN = f / 2 % 2 := by
  unfold State.switch
  simp (disch := decide) only [State.get_set_self, State.get_set_other, Nat.pow_one, and_self]

/-- What SERVO_CAPTURE starts. -/
def State.capture (s : State) (p k : Nat) : State :=
  let s := (s.set (.TUS_SEC_CTRL_CAP_LANE k) (s.req p 17 1)).set (.TUS_SEC_STATUS_CAP_DONE k) 0
  (s.updSec k (fun x => { x with capPend := true })).updRun p (fun r => { r with phase := 1 })

/-! ### Settings of the read channels (R174) -/

/-- What CHANNEL_ADAPT sets of channel `n`. -/
def State.adapt (s : State) (p f n : Nat) : State :=
  let s := (s.set (.SDG_ST_CTRL_ADAPT_EN n) f).set (.SDG_ST_CTRL_ITER_OTF n) (s.req p 19 1)
  (s.set (.SDG_EQ_CFG_NP_ADAPT n) (f / 2)).set (.SDG_EQ_CFG_MU n) (s.req p 18 1)

/-- What CHANNEL_ADAPT sets. -/
def State.adaptAll (s : State) (p f : Nat) : State :=
  s.forN 8 (fun n s => s.when (s.req p 16 1 / 2 ^ n % 2 == 1) (fun s => s.adapt p f n))

theorem State.adapt_req {f n : Nat} (off len : Nat) : (s.adapt p f n).req p off len = s.req p off len := by
  unfold State.adapt
  simp (disch := (dsimp only; omega)) only [State.req_set]

theorem State.adapt_self {f n : Nat} : (s.adapt p f n).get (.SDG_ST_CTRL_ADAPT_EN n) = f % 2 ∧
    (s.adapt p f n).get (.SDG_ST_CTRL_ITER_OTF n) = s.req p 19 1 % 2 ^ 5 ∧ (s.adapt p f n).get (.SDG_EQ_CFG_NP_ADAPT n) = f / 2 % 2 ∧
    (s.adapt p f n).get (.SDG_EQ_CFG_MU n) = s.req p 18 1 % 2 ^ 4 := by
  unfold State.adapt
  refine ⟨?_, ?_, ?_, ?_⟩
  all_goals simp (disch := (dsimp only; omega)) only [State.get_set_self, State.get_set_other, State.req_set, Nat.pow_one]

theorem State.adapt_other {f n m : Nat} (hn : n < 8) (hm : m < 8) (h : m ≠ n) :
    (s.adapt p f n).get (.SDG_ST_CTRL_ADAPT_EN m) = s.get (.SDG_ST_CTRL_ADAPT_EN m) ∧
    (s.adapt p f n).get (.SDG_ST_CTRL_ITER_OTF m) = s.get (.SDG_ST_CTRL_ITER_OTF m) ∧
    (s.adapt p f n).get (.SDG_EQ_CFG_NP_ADAPT m) = s.get (.SDG_EQ_CFG_NP_ADAPT m) ∧
    (s.adapt p f n).get (.SDG_EQ_CFG_MU m) = s.get (.SDG_EQ_CFG_MU m) := by
  unfold State.adapt
  refine ⟨?_, ?_, ?_, ?_⟩
  all_goals simp (disch := (dsimp only; omega)) only [State.get_set_other]

theorem State.adapt_box {f n : Nat} (h : s.SameBox p t) : s.SameBox p (t.adapt p f n) := by
  unfold State.adapt
  refine State.SameBox.set (State.SameBox.set (State.SameBox.set (State.SameBox.set h ?_) ?_) ?_) ?_
  all_goals exact .inr (by dsimp only; omega)

theorem State.adaptAll_box {f : Nat} : s.SameBox p (s.adaptAll p f) :=
  State.forN_inv (Inv := fun t => s.SameBox p t) (State.SameBox.refl p s) fun n _ t ht => by
    unfold State.when
    split
    · exact State.adapt_box ht
    · exact ht

theorem State.adaptStep_req {f n : Nat} (off len : Nat) :
    (s.when (s.req p 16 1 / 2 ^ n % 2 == 1) (fun s => s.adapt p f n)).req p off len = s.req p off len :=
  State.when_keeps (fun t => t.req p off len) (State.adapt_req off len)

theorem State.adaptAll_req {f : Nat} (off len : Nat) : (s.adaptAll p f).req p off len = s.req p off len :=
  State.forN_keeps (fun t => t.req p off len) (fun _ _ => State.adaptStep_req off len) 8

/-- The settings of a channel named. -/
theorem State.adaptAll_named {f n : Nat} (hn : n < 8) (h : s.req p 16 1 / 2 ^ n % 2 = 1) :
    (s.adaptAll p f).get (.SDG_ST_CTRL_ADAPT_EN n) = f % 2 ∧ (s.adaptAll p f).get (.SDG_ST_CTRL_ITER_OTF n) = s.req p 19 1 % 2 ^ 5 ∧
    (s.adaptAll p f).get (.SDG_EQ_CFG_NP_ADAPT n) = f / 2 % 2 ∧ (s.adaptAll p f).get (.SDG_EQ_CFG_MU n) = s.req p 18 1 % 2 ^ 4 := by
  refine (State.forN_reaches (Inv := fun t => ∀ off len, t.req p off len = s.req p off len)
    (P := fun t => (t.get (.SDG_ST_CTRL_ADAPT_EN n) = f % 2 ∧ t.get (.SDG_ST_CTRL_ITER_OTF n) = s.req p 19 1 % 2 ^ 5 ∧
      t.get (.SDG_EQ_CFG_NP_ADAPT n) = f / 2 % 2 ∧ t.get (.SDG_EQ_CFG_MU n) = s.req p 18 1 % 2 ^ 4) ∧
      ∀ off len,
        t.req p off len = s.req p off len) hn (fun _ _ => rfl) (fun j _ t ht off len => (State.adaptStep_req off len).trans (ht off len))
    (fun t ht => ⟨?_, fun off len => (State.adaptStep_req off len).trans (ht off len)⟩)
    (fun j hj t ht => ⟨?_, fun off len => (State.adaptStep_req off len).trans (ht.2 off len)⟩)).1
  · rw [ht 16 1, h]
    have hself := State.adapt_self (s := t) (p := p) (f := f) (n := n)
    rwa [ht, ht] at hself
  · unfold State.when
    by_cases hjn : j = n
    · subst hjn
      have hself := State.adapt_self (s := t) (p := p) (f := f) (n := j)
      rw [ht.2 16 1, h]
      rwa [ht.2, ht.2] at hself
    · obtain ⟨hen, hiter, hnp, hmu⟩ := State.adapt_other (s := t) (p := p) (f := f) hj hn (Ne.symm hjn)
      split
      · rw [hen, hiter, hnp, hmu]
        exact ht.1
      · exact ht.1

/-- A channel that is not named keeps its settings. -/
theorem State.adaptAll_unnamed {f n : Nat} (hn : n < 8) (h : s.req p 16 1 / 2 ^ n % 2 = 0) :
    (s.adaptAll p f).get (.SDG_ST_CTRL_ADAPT_EN n) = s.get (.SDG_ST_CTRL_ADAPT_EN n) ∧
    (s.adaptAll p f).get (.SDG_EQ_CFG_MU n) = s.get (.SDG_EQ_CFG_MU n) := by
  refine (State.forN_inv (Inv := fun t => (t.get (.SDG_ST_CTRL_ADAPT_EN n) = s.get (.SDG_ST_CTRL_ADAPT_EN n) ∧
    t.get (.SDG_EQ_CFG_MU n) = s.get (.SDG_EQ_CFG_MU n)) ∧ ∀ off len, t.req p off len = s.req p off len) ⟨⟨rfl, rfl⟩, fun _ _ => rfl⟩
    (fun j hj t ht => ⟨?_, fun off len => (State.adaptStep_req off len).trans (ht.2 off len)⟩)).1
  by_cases hjn : j = n
  · subst hjn
    rw [ht.2 16 1, h]
    exact ht.1
  · obtain ⟨hen, -, -, hmu⟩ := State.adapt_other (s := t) (p := p) (f := f) hj hn (Ne.symm hjn)
    unfold State.when
    split
    · rw [hen, hmu]
      exact ht.1
    · exact ht.1

/-! ### The calibration's answer (R240) -/

/-- What a calibration answers of an item: the value stored, where its part of the calibration was done. -/
def State.calFound (s : State) (good key i b : Nat) : Nat × State :=
  if good / 2 ^ b % 2 = 1 then (s.calItem (key / 65536) (key % 65536) i, s) else s.draw 16

theorem State.calFound_next (good key i b : Nat) : (s.calFound good key i b).2.regs = s.regs ∧ (s.calFound good key i b).2.aq = s.aq := by
  unfold State.calFound
  split
  · exact ⟨rfl, rfl⟩
  · exact ⟨rfl, rfl⟩

theorem State.calItem_of_aq {t : State} (h : t.aq = s.aq) (surface zone i : Nat) : t.calItem surface zone i = s.calItem surface zone i := by
  unfold State.calItem
  rw [h]

theorem State.calFound_value {good key i b : Nat} (h : good / 2 ^ b % 2 = 1) :
    (s.calFound good key i b).1 = s.calItem (key / 65536) (key % 65536) i := by
  unfold State.calFound
  rw [if_pos h]

/-- The end of a calibration. -/
def State.calDone (s : State) (p good key status : Nat) : State :=
  let a := s.calFound good key 0 0
  let d := a.2.calFound good key 1 1
  let v := d.2.calFound good key 2 1
  v.2.respond p status true (leBytes 1 good ++ leBytes 1 0 ++ leBytes 2 a.1 ++ leBytes 2 d.1 ++ leBytes 1 v.1 ++ leBytes 1 0)

theorem State.calDone_answered {good key status : Nat} (hstatus : status < 2 ^ 16) : (s.calDone p good key status).aq.cal = s.aq.cal ∧
    ∃ adv dly vamp, (good % 2 = 1 → adv = s.calItem (key / 65536) (key % 65536) 0) ∧
      (good / 2 % 2 = 1 → dly = s.calItem (key / 65536) (key % 65536) 1 ∧ vamp = s.calItem (key / 65536) (key % 65536) 2) ∧
      Answered s (s.calDone p good key status) p status true
        (leBytes 1 good ++ leBytes 1 0 ++ leBytes 2 adv ++ leBytes 2 dly ++ leBytes 1 vamp ++ leBytes 1 0) := by
  unfold State.calDone
  extract_lets a d v
  obtain ⟨hregsA, haqA⟩ := s.calFound_next good key 0 0
  obtain ⟨hregsD, haqD⟩ := a.2.calFound_next good key 1 1
  obtain ⟨hregsV, haqV⟩ := d.2.calFound_next good key 2 1
  have haqD' : d.2.aq = s.aq := haqD.trans haqA
  refine ⟨by rw [State.respond_cal, haqV, haqD'], a.1, d.1, v.1, fun h => State.calFound_value (by simpa using h), fun h => ?_,
    State.respond_answered (State.SameBox.of_regs (hregsV.trans (hregsD.trans hregsA))) hstatus⟩
  rw [← State.calItem_of_aq haqA, ← State.calItem_of_aq haqD']
  exact ⟨State.calFound_value (by simpa using h), State.calFound_value (by simpa using h)⟩

/-! ### The executions -/

theorem exec_servoCoupling_all (hruns : s.Runs p 0x0304) (hmatrix : s.req p 16 1 / 4 = 1) :
    exec (.servoCoupling p) s = .next (((s.couple p).switch (s.req p 16 1)).respond p 0 true []) := by
  refine congrArg Host.Outcome.next ((State.onCommand_of_runs hruns _).trans ?_)
  dsimp only
  rw [hmatrix]
  rfl

theorem exec_servoCoupling_flags (hruns : s.Runs p 0x0304) (hmatrix : s.req p 16 1 / 4 = 0) :
    exec (.servoCoupling p) s = .next ((s.switch (s.req p 16 1)).respond p 0 true []) := by
  refine congrArg Host.Outcome.next ((State.onCommand_of_runs hruns _).trans ?_)
  dsimp only
  rw [hmatrix]
  rfl

theorem State.coupled_gets {f : Nat} : (((s.couple p).switch f).respond p status true []).get .TUS_XC_EXP_EXP = s.req p 17 1 % 2 ^ 6 ∧
    (((s.couple p).switch f).respond p status true []).get .TUS_RV_CFG_G01 = s.req p 20 2 ∧
    (((s.couple p).switch f).respond p status true []).get .TUS_RV_CFG_G23 = s.req p 22 2 ∧
    (∀ i < 12, (((s.couple p).switch f).respond p status true []).get (.TUS_XC_M (offDiagonal i).1 (offDiagonal i).2) =
      s.req p (24 + 4 * i) 4 % 2 ^ 18) ∧
    (((s.couple p).switch f).respond p status true []).get .TUS_STATUS_XC_PENDING = 1 ∧
    (((s.couple p).switch f).respond p status true []).get .TUS_CTRL_XC_EN = f % 2 ∧
    (((s.couple p).switch f).respond p status true []).get .TUS_CTRL_RVFF_EN = f / 2 % 2 := by
  obtain ⟨hexp, h01, h23, hpend⟩ := State.couple_gains (s := s) (p := p)
  refine ⟨?_, ?_, ?_, fun i hi => ?_, ?_, ?_⟩
  · rw [State.respond_get (by decide +kernel), State.switch_get (by decide), hexp]
  · rw [State.respond_get (by decide +kernel), State.switch_get (by decide), h01]
  · rw [State.respond_get (by decide +kernel), State.switch_get (by decide), h23]
  · rw [State.respond_get (apart_mod_mod (n := 4) (m := 4) .TUS_XC_M (by decide) (by decide) (by simp) (by decide +kernel) _ _),
    State.switch_get (by dsimp only; omega), State.couple_matrix hi]
  · rw [State.respond_get (by decide +kernel), State.switch_get (by decide), hpend]
  · rw [State.respond_get (by decide +kernel), State.respond_get (by decide +kernel)]
    exact State.switch_self

theorem exec_servoCapture_start (hruns : s.Runs p 0x0305) (hphase : (s.aq.runs.at p).phase = 0)
    (hpend : (s.tus.secs.at (s.req p 16 1)).capPend = false) : exec (.servoCapture p) s = .next (s.capture p (s.req p 16 1)) := by
  refine congrArg Host.Outcome.next ((State.onCommand_of_runs hruns _).trans ?_)
  dsimp only
  rw [State.run, if_pos hphase, State.sec, hpend, if_neg Bool.false_ne_true]
  rfl

theorem State.capture_starts {cmd k : Nat} (hruns : s.Runs p cmd) : ((s.capture p k).tus.secs.at k).capPend = true ∧
    (s.capture p k).get (.TUS_SEC_CTRL_CAP_LANE k) = s.req p 17 1 % 2 ∧ (s.capture p k).get (.TUS_SEC_STATUS_CAP_DONE k) = 0 ∧
    ((s.capture p k).aq.runs.at p).phase = 1 ∧ (s.capture p k).mbx p = 2 := by
  unfold State.capture
  extract_lets s1
  have hlane : s1.get (.TUS_SEC_CTRL_CAP_LANE k) = s.req p 17 1 % 2 :=
    (State.get_set_other _ _ (.inl (by dsimp only; omega))).trans ((State.get_set_self _ _ _ (by simp)).trans (by rw [Nat.pow_one]))
  have hdone : s1.get (.TUS_SEC_STATUS_CAP_DONE k) = 0 := State.get_set_self _ _ _ (by simp)
  have hmbx : s1.mbx p = s.mbx p :=
    (State.get_set_other _ _ (.inl (by dsimp only; omega))).trans (State.get_set_other _ _ (.inl (by dsimp only; omega)))
  clear_value s1
  refine ⟨?_, hlane, hdone, congrArg CmdRun.phase (State.updRun_run _), hmbx.trans hruns.1⟩
  change ((s1.tus.secs.upd k (fun x => { x with capPend := true })).at k).capPend = true
  rw [Tab.at_upd_self]

/-- The surface and the zone of a calibration's request, as one number. -/
def State.calKey (s : State) (p : Nat) : Nat := 65536 * (6 * s.req p 16 1 + s.req p 17 1) + s.req p 18 2

/-- What the found values put into the calibration. -/
def State.calPut (s : State) (key b : Nat) (found : List Nat) : State := s.updAq (fun a => { a with
  cal := (List.range (calItems b).2).foldl (fun t i => t.put (512 * key + (calItems b).1 + i) (some (found.getD i 0))) a.cal })

/-- One item of a calibration. -/
def State.calStep (s : State) (p key todo b : Nat) (found : List Nat) : State :=
  (s.when (todo / 2 ^ b % 2 == 1) (fun s => s.calPut key b found)).updRun p
    (fun r => { r with phase := b + 1, good := r.good + (if todo / 2 ^ b % 2 == 1 then 2 ^ b else 0) })

variable {found : List Nat}

theorem exec_channelCal_done (hruns : s.Runs p 0x0403) (h : 4 ≤ (s.aq.runs.at p).phase) :
    exec (.channelCal p found) s = .next (s.calDone p (s.aq.runs.at p).good (s.calKey p) 0) := by
  refine congrArg Host.Outcome.next ((State.onCommand_of_runs hruns _).trans ?_)
  dsimp only
  rw [State.run, if_pos h]
  rfl

theorem exec_channelCal_cancelled (hruns : s.Runs p 0x0403) (hlt : (s.aq.runs.at p).phase < 4)
    (h : s.cancelAsked p = true ∧ (s.aq.runs.at p).good ≠ 0 ∧ s.req p 20 1 / 2 ^ (s.aq.runs.at p).phase ≠ 0) :
    exec (.channelCal p found) s = .next (s.calDone p (s.aq.runs.at p).good (s.calKey p) 0x40) := by
  refine congrArg Host.Outcome.next ((State.onCommand_of_runs hruns _).trans ?_)
  dsimp only
  rw [State.run, if_neg (Nat.not_le.2 hlt), if_pos (by simpa [and_assoc] using h)]
  rfl

theorem exec_channelCal_item (hruns : s.Runs p 0x0403) (hlt : (s.aq.runs.at p).phase < 4)
    (h : ¬ (s.cancelAsked p = true ∧ (s.aq.runs.at p).good ≠ 0 ∧ s.req p 20 1 / 2 ^ (s.aq.runs.at p).phase ≠ 0)) :
    exec (.channelCal p found) s = .next (s.calStep p (s.calKey p) (s.req p 20 1) (s.aq.runs.at p).phase found) := by
  refine congrArg Host.Outcome.next ((State.onCommand_of_runs hruns _).trans ?_)
  dsimp only
  rw [State.run, if_neg (Nat.not_le.2 hlt), if_neg (by simpa [and_assoc] using h)]
  rfl

section item

variable {key todo b : Nat}

theorem State.calStep_found (h : todo / 2 ^ b % 2 = 1) {i : Nat} (hi : i < (calItems b).2) :
    (s.calStep p key todo b found).aq.cal.at (512 * key + (calItems b).1 + i) = some (found.getD i 0) := by
  unfold State.calStep
  rw [h]
  exact foldl_put_from _ (fun i => some (found.getD i 0)) _ hi

theorem State.calStep_off (h : todo / 2 ^ b % 2 = 0) : (s.calStep p key todo b found).aq.cal = s.aq.cal := by
  unfold State.calStep
  rw [h]
  rfl

theorem State.calStep_phase : ((s.calStep p key todo b found).aq.runs.at p).phase = b + 1 := congrArg CmdRun.phase (State.updRun_run _)

theorem State.calPut_runs : (s.calPut key b found).aq.runs = s.aq.runs := rfl

theorem State.calStep_good_on (h : todo / 2 ^ b % 2 = 1) :
    ((s.calStep p key todo b found).aq.runs.at p).good = (s.aq.runs.at p).good + 2 ^ b := by
  unfold State.calStep
  rw [State.updRun_run, h]
  rfl

theorem State.calStep_good_off (h : todo / 2 ^ b % 2 = 0) : ((s.calStep p key todo b found).aq.runs.at p).good = (s.aq.runs.at p).good := by
  unfold State.calStep
  rw [State.updRun_run, h]
  rfl

theorem State.calStep_mbx :
    (s.calStep p key todo b found).mbx p = s.mbx p := State.when_get (c := todo / 2 ^ b % 2 == 1) (h := fun s => s.calPut key b found) rfl

end item

/-- Settles O48. -/
theorem tablesAndChannelsAreServed : Obligations.TablesAndChannelsAreServed := by
  unfold Obligations.TablesAndChannelsAreServed
  refine ⟨fun s p hruns => ?_, fun s p hruns => ?_, fun s p k hruns hk => ?_, fun s p hruns hmatrix => ?_, fun s p hruns hmatrix => ?_,
    fun s p k hruns hk hphase hpend => ?_, fun s p hruns hphase hpend => ?_, fun s p k hruns hk hphase hdone => ?_,
    fun s p hruns hphase hdone => ?_, fun s p hruns => ?_, fun s p hruns => ?_, fun s p found b hruns hb hlt hgo hbit => ?_,
    fun s p found b hruns hb hlt hgo hbit => ?_, fun s p found b hruns hb hlt hcancel => ?_, fun s p found hruns hphase => ?_,
    fun s p l hruns hl => ?_⟩
  · rcases hl : s.loadTables with ⟨bad, u⟩
    have hbox : s.SameBox p u := by
      have h := s.loadTables_box p
      rwa [hl] at h
    have hvalid (h : s.partChanged 5 = false) : u.get .TUS_CTRL_TABLES_VALID = bad.isNone.toNat := by
      have h' := State.loadTables_valid h
      rwa [hl] at h'
    cases bad with
    | none =>
      refine completes_of_outFrame (execServoReload_frame (parts_in rfl) (fun _ hr => hr)) (t := u.fetchAll.respond p 0 true (leBytes 2 0xFFFF ++ leBytes 2 0)) ?_
        (fun _ => ⟨fun _ => State.respond_answered (hbox.trans (u.fetchAll_within.sameBox (by decide +kernel) p)) (by decide),
          fun x h => (by cases h),
          fun h => ?_, fun h => ?_⟩)
      · refine congrArg Host.Outcome.next ((State.onCommand_of_runs hruns _).trans ?_)
        rw [hl]
        rfl
      · rw [State.respond_get (by decide +kernel), u.fetchAll_within.get (by decide +kernel), hvalid h]
      · rw [State.loadTables_changed h] at hl
        cases hl
    | some x =>
      refine completes_of_outFrame (execServoReload_frame (parts_in rfl) (fun _ hr => hr)) (t := u.respond p 0x0110 true (leBytes 2 x ++ leBytes 2 0)) ?_
        (fun _ => ⟨fun h => (by cases h), fun y hy => ?_, fun h => ?_, fun h => ?_⟩)
      · refine congrArg Host.Outcome.next ((State.onCommand_of_runs hruns _).trans ?_)
        rw [hl]
        rfl
      · cases hy
        exact State.respond_answered hbox (by decide)
      · rw [State.respond_get (by decide +kernel), hvalid h]
      · rw [State.loadTables_changed h] at hl
        cases hl
        exact (State.respond_latched _ _).trans (State.raise_latched_true (by decide +kernel))
  · refine completes_of_outFrame (execServoRegionWrite_frame (parts_in rfl) (fun _ hr => hr)) (t := (s.writeRow p).respond p 0 true [])
      (congrArg Host.Outcome.next (State.onCommand_of_runs hruns _))
      (fun _ => ⟨State.respond_answered (State.SameBox.of_regs State.writeRow_regs) (by decide), fun i hi => ?_⟩)
    rw [State.respond_tus]
    exact State.writeRow_words i hi
  · subst hk
    exact completes_of_outFrame (execServoLimits_frame (parts_in rfl) (fun _ hr => hr)) (exec_servoLimits hruns)
      (fun _ => ⟨State.respond_answered (State.limits_box p _) (by decide), State.limits_gets⟩)
  · exact completes_of_outFrame (execServoCoupling_frame (parts_in rfl) (fun _ hr => hr)) (exec_servoCoupling_all hruns hmatrix)
      (fun _ => ⟨State.respond_answered (State.switch_box (s.couple_box p)) (by decide), State.coupled_gets⟩)
  · refine completes_of_outFrame (execServoCoupling_frame (parts_in rfl) (fun _ hr => hr)) (exec_servoCoupling_flags hruns hmatrix)
      (fun _ => ⟨State.respond_answered (State.switch_box (State.SameBox.refl p s)) (by decide), ?_, ?_, ?_, fun i hi => ?_, ?_⟩)
    · rw [State.respond_get (by decide +kernel), State.switch_get (by decide)]
    · rw [State.respond_get (by decide +kernel), State.switch_get (by decide)]
    · rw [State.respond_get (by decide +kernel), State.switch_get (by decide)]
    · rw [State.respond_get (apart_mod_mod (n := 4) (m := 4) .TUS_XC_M (by decide) (by decide) (by simp) (by decide +kernel) _ _),
      State.switch_get (by dsimp only; omega)]
    · rw [State.respond_get (by decide +kernel), State.respond_get (by decide +kernel)]
      exact State.switch_self
  · subst hk
    exact completes_of_outFrame (execServoCapture_frame (parts_in rfl) (fun _ hr => hr)) (exec_servoCapture_start hruns hphase hpend)
      (fun _ => State.capture_starts hruns)
  · refine completes_of_outFrame (execServoCapture_frame (parts_in rfl) (fun _ hr => hr)) (t := s) ?_ (fun _ => rfl)
    refine congrArg Host.Outcome.next ((State.onCommand_of_runs hruns _).trans ?_)
    dsimp only
    rw [State.run, if_pos hphase, State.sec, hpend, if_pos rfl]
  · subst hk
    refine completes_of_outFrame (execServoCapture_frame (parts_in rfl) (fun _ hr => hr)) (t := s.respond p 0 true _) ?_
      (fun _ => State.respond_answers (by decide))
    refine congrArg Host.Outcome.next ((State.onCommand_of_runs hruns _).trans ?_)
    dsimp only
    rw [State.run, hphase, if_neg (by decide), State.is_of_get hdone]
    rfl
  · refine completes_of_outFrame (execServoCapture_frame (parts_in rfl) (fun _ hr => hr)) (t := s) ?_ (fun _ => rfl)
    refine congrArg Host.Outcome.next ((State.onCommand_of_runs hruns _).trans ?_)
    dsimp only
    rw [State.run, hphase, if_neg (by decide), State.not_is_of_get hdone]
    rfl
  · cases hz : (Config.zones s.aq.chan (s.req p 16 1))[s.req p 18 2]? with
    | some z =>
      refine completes_of_outFrame (execZoneInfo_frame (parts_in rfl) (fun _ hr => hr)) (t := s.respond p 0 true (leBytes 4 z.first ++ leBytes 4 z.last ++
        leBytes 4 z.cbpc ++ leBytes 1 z.c ++ leBytes 1 z.meta_ ++ leBytes 2 z.sectors)) ?_ (fun _ => ⟨fun y hy => ?_, fun h => by cases h⟩)
      · refine congrArg Host.Outcome.next ((State.onCommand_of_runs hruns _).trans ?_)
        rw [hz]
        rfl
      · cases hy
        exact State.respond_answers (by decide)
    | none =>
      refine completes_of_outFrame (execZoneInfo_frame (parts_in rfl) (fun _ hr => hr)) (t := s.respond p 0x12 false []) ?_
        (fun _ => ⟨fun y hy => (by cases hy), fun _ => State.respond_answers (by decide)⟩)
      refine congrArg Host.Outcome.next ((State.onCommand_of_runs hruns _).trans ?_)
      rw [hz]
  · refine completes_of_outFrame (execChannelAdapt_frame (parts_in rfl) (fun _ hr => hr))
      (t := (s.adaptAll p (s.req p 17 1)).respond p 0 true []) (congrArg Host.Outcome.next (State.onCommand_of_runs hruns _))
      (fun _ => ⟨State.respond_answered State.adaptAll_box (by decide), fun n hn h => ?_, fun n hn h => ?_⟩)
    · rw [State.respond_getMod (n := 8) .SDG_ST_CTRL_ADAPT_EN (by decide) (by simp) (by decide +kernel),
      State.respond_getMod (n := 8) .SDG_ST_CTRL_ITER_OTF (by decide) (by simp) (by decide +kernel),
      State.respond_getMod (n := 8) .SDG_EQ_CFG_NP_ADAPT (by decide) (by simp) (by decide +kernel),
      State.respond_getMod (n := 8) .SDG_EQ_CFG_MU (by decide) (by simp) (by decide +kernel)]
      exact State.adaptAll_named hn h
    · rw [State.respond_getMod (n := 8) .SDG_ST_CTRL_ADAPT_EN (by decide) (by simp) (by decide +kernel),
      State.respond_getMod (n := 8) .SDG_EQ_CFG_MU (by decide) (by simp) (by decide +kernel)]
      exact State.adaptAll_unnamed hn h
  · subst hb
    exact completes_of_outFrame (c := .channelCal p found) (execChannelCal_frame (parts_in rfl) (fun _ hr => hr)) (exec_channelCal_item hruns hlt hgo)
      (fun _ => ⟨fun i hi => State.calStep_found hbit hi, State.calStep_phase, State.calStep_good_on hbit, State.calStep_mbx.trans hruns.1⟩)
  · subst hb
    exact completes_of_outFrame (c := .channelCal p found) (execChannelCal_frame (parts_in rfl) (fun _ hr => hr)) (exec_channelCal_item hruns hlt hgo)
      (fun _ => ⟨State.calStep_off hbit, State.calStep_phase, State.calStep_good_off hbit, State.calStep_mbx.trans hruns.1⟩)
  · subst hb
    obtain ⟨hcal, adv, dly, vamp, -, -,
      hanswer⟩ := State.calDone_answered (s := s) (p := p) (good := (s.aq.runs.at p).good) (key := s.calKey p)
      (status := 0x40) (by decide)
    refine completes_of_outFrame (c := .channelCal p found) (execChannelCal_frame (parts_in rfl) (fun _ hr => hr)) (exec_channelCal_cancelled hruns hlt hcancel)
      (fun _ => ⟨⟨_, by simpa only [List.append_assoc] using hanswer⟩, hcal⟩)
  · exact completes_of_outFrame (c := .channelCal p found) (execChannelCal_frame (parts_in rfl) (fun _ hr => hr)) (exec_channelCal_done hruns hphase)
      (fun _ => (State.calDone_answered (by decide)).2)
  · subst hl
    exact completes_of_outFrame (execPreampInfo_frame (parts_in rfl) (fun _ hr => hr))
      (congrArg Host.Outcome.next (State.onCommand_of_runs hruns _)) (fun _ => State.respond_answers (by decide))

end Sys2Proof.Machine
end

section
set_option Elab.async false
/-! SLOTS AND POINTERS OF AN UPDATE (19). What is shown of the slots, the copy of the pointer that is written (R440),
  and what becomes of an update past
an answer (R250). -/

namespace Sys2Proof.Machine

variable {s t : State} {p status : Nat} {started : Bool} {payload : List Byte}

/-! ### An answer whose session does not own the update -/

/-- The registers of an answer, and of the freezes that a session owned. -/
def unownedRegs : List Regs := [.fld .PEAT_STATUS_STAMP_WAIT, .fld .PEAT_STATUS_HELD, .fld .PEAT_STATUS_USED,
  .fld .PEAT_FRZ_AREA] ++ answerRegs

theorem State.releaseOwned_within {key : Nat × Nat} (h : s.dyke.owner ≠ some key) : Frame [.aq] [.fld .PEAT_STATUS_STAMP_WAIT,
    .fld .PEAT_STATUS_HELD, .fld .PEAT_STATUS_USED, .fld .PEAT_FRZ_AREA] s (s.releaseOwned key) := by
  unfold State.releaseOwned
  extract_lets s1 s2
  have h2 : Frame [.aq] [.fld .PEAT_STATUS_STAMP_WAIT, .fld .PEAT_STATUS_HELD, .fld .PEAT_STATUS_USED, .fld .PEAT_FRZ_AREA] s s2 :=
    State.forN_frame (State.when_frame (Frame.refl _ _ s) (fun _ ht => State.updAq_frame (fun _ hp => hp) ht)) (fun a _ ht =>
      State.when_frame ht (fun _ hu => State.updAq_frame (fun _ hp => hp) (State.unfreeze_frame (fun _ hr => hr) hu)))
  clear_value s2
  rw [show (s2.dyke.owner == some key) = false from beq_eq_false_iff_ne.2 ((congrArg Dyke.owner (h2.same .dyke (by decide))).trans_ne h)]
  exact h2

/-- The answer to a request of a session that does not own the update leaves the update. -/
theorem State.respond_unowning (h : s.dyke.owner ≠ some (s.mbxKey p)) :
    Frame [.fenIrq, .aq] unownedRegs s (s.respond p status started payload) := by
  unfold State.respond State.dropRequest
  have hrsp : Frame [.fenIrq, .aq] unownedRegs s (s.writeRsp p status started (s.mbxKey p).1 (s.mbxKey p).2 payload) :=
    State.writeRsp_frame (by decide) (regs_in (by decide +kernel)) (Frame.refl _ _ s)
  have hkey := ((State.writeRsp_within (s := s) p status started (s.mbxKey p).1 (s.mbxKey p).2 payload).sameBox (by decide +kernel) p).key
  generalize s.writeRsp p status started (s.mbxKey p).1 (s.mbxKey p).2 payload = u at *
  extract_lets key u1 busy
  rw [show key = s.mbxKey p from hkey]
  have hu : Frame [.fenIrq, .aq] unownedRegs s u1 := State.updAq_frame (by decide) hrsp
  have howner : u1.dyke.owner ≠ some (s.mbxKey p) := (congrArg Dyke.owner (hu.same .dyke (by decide))).trans_ne h
  clear_value busy u1
  unfold State.when
  split
  · exact hu.trans ((State.releaseOwned_within howner).mono (by decide) (List.subset_append_left _ answerRegs))
  · exact hu

theorem State.respond_dyke (h : s.dyke.owner ≠ some (s.mbxKey p)) : (s.respond p status started payload).dyke = s.dyke :=
  (State.respond_unowning h).same .dyke (by decide)

/-- An update that nobody owns outlives an answer. -/
theorem State.respond_dyke_of_none (h : s.dyke.owner = none) : (s.respond p status started payload).dyke = s.dyke :=
  State.respond_dyke (fun hkey => by rw [h] at hkey; cases hkey)

theorem State.respond_inactive (h : s.dyke.owner = none) :
    (s.respond p status started payload).get .DYKE_SLOT_INACTIVE = s.get .DYKE_SLOT_INACTIVE :=
  (State.respond_unowning (fun hkey => by rw [h] at hkey; cases hkey)).get (by decide +kernel)

/-- The registers that the answer to a request of an open session writes. -/
theorem State.respond_get_of_session {g : Fld} (h : s.aq.sessions.any (fun x => x.key == s.mbxKey p) = true)
    (hg : answerRegs.all (fun r => r.apartB g) = true) : (s.respond p status started payload).get g = s.get g := by
  rw [State.respond_of_session h]
  exact (State.writeRsp_within p status started (s.mbxKey p).1 (s.mbxKey p).2 payload).get hg

/-! ### An update that fails -/

theorem State.dropUpdate_box : s.SameBox p s.dropUpdate :=
  (State.dropUpdate_frame (fun _ hp => hp) (fun _ hr => hr) (Frame.refl _ _ s)).sameBox (by decide +kernel) p

/-- The slot that does not run is failed, and nobody owns the update. -/
theorem State.dropUpdate_dyke : (s.dropUpdate.dyke.slots.at s.otherSlot).state = 3 ∧ s.dropUpdate.dyke.owner = none ∧
    s.dropUpdate.dyke.package = [] := by
  refine ⟨?_, rfl, rfl⟩
  change ((s.dyke.slots.upd s.otherSlot (fun x => { x with state := 3 })).at s.otherSlot).state = 3
  rw [Tab.at_upd_self]

theorem State.dropUpdate_inactive : s.dropUpdate.get .DYKE_SLOT_INACTIVE = 3 := State.get_set_self _ _ _ (by decide)

theorem State.updateRecord_box {cmd version applied fail : Nat} : s.SameBox p (s.updateRecord cmd status version applied fail) :=
  State.peatRecord_sameBox _ _ _

theorem State.updateRecord_within {cmd version applied fail : Nat} : Frame [.mireIrq, .fenIrq, .seqs, .chans, .stg, .lev, .peat]
    (alarmRegs ++ haltRegs) s (s.updateRecord cmd status version applied fail) :=
  State.updateRecord_frame (fun _ hp => hp) (fun _ hr => hr) (Frame.refl _ _ s)

theorem State.updateRecord_dyke {cmd version applied fail : Nat} : (s.updateRecord cmd status version applied fail).dyke = s.dyke :=
  State.updateRecord_within.same .dyke (by decide)

/-- What an update that fails leaves: the answer, the failed slot, and no owner. -/
def FailedUpdate (s t : State) : Prop := (t.dyke.slots.at s.otherSlot).state = 3 ∧ t.dyke.owner = none ∧ t.dyke.package = []

theorem FailedUpdate.respond (h : FailedUpdate s t) : FailedUpdate s (t.respond p status started payload) := by
  obtain ⟨hstate, howner, hpackage⟩ := h
  unfold FailedUpdate
  rw [State.respond_dyke_of_none howner]
  exact ⟨hstate, howner, hpackage⟩

theorem FailedUpdate.of_dyke {u : State} (h : FailedUpdate s t) (hdyke : u.dyke = t.dyke) : FailedUpdate s u := by
  obtain ⟨hstate, howner, hpackage⟩ := h
  unfold FailedUpdate
  rw [hdyke]
  exact ⟨hstate, howner, hpackage⟩

theorem State.dropUpdate_fails : FailedUpdate s s.dropUpdate := State.dropUpdate_dyke

/-! ### What is shown of the slots -/

theorem State.showSlot_within : Frame [] [.fld .DYKE_SLOT_SEQ, .fld .DYKE_SLOT_INACTIVE, .fld .DYKE_SLOT_CONFIRMED, .fld .DYKE_SLOT_POINTED]
    s s.showSlot := State.showSlot_frame (fun _ hr => hr) (Frame.refl _ _ s)

theorem State.showSlot_dyke : s.showSlot.dyke = s.dyke := State.showSlot_within.same .dyke (by decide)

theorem State.showSlot_otherSlot : s.showSlot.otherSlot = s.otherSlot :=
  congrArg (1 - ·) (State.showSlot_within.get (by decide +kernel))

/-- SEQ, CONFIRMED and POINTED, of the pointer that counts. -/
def State.showPointer (s : State) : State := match s.pointer with
  | some (_, x) => ((s.set .DYKE_SLOT_SEQ x.seq).setIf .DYKE_SLOT_CONFIRMED (!x.trial)).set .DYKE_SLOT_POINTED x.slot
  | none => ((s.set .DYKE_SLOT_SEQ 0).set .DYKE_SLOT_CONFIRMED 1).set .DYKE_SLOT_POINTED s.runSlot

theorem State.showSlot_eq : s.showSlot = s.showPointer.set .DYKE_SLOT_INACTIVE (s.showPointer.slot s.showPointer.otherSlot).state := rfl

theorem State.showPointer_dyke : s.showPointer.dyke = s.dyke := by
  unfold State.showPointer
  split <;> rfl

theorem State.showPointer_otherSlot : s.showPointer.otherSlot = s.otherSlot := by
  unfold State.showPointer State.otherSlot State.setIf
  split
  all_goals rw [State.get_set_other _ _ (by decide), State.get_set_other _ _ (by decide), State.get_set_other _ _ (by decide)]

theorem State.showSlot_inactive : s.showSlot.get .DYKE_SLOT_INACTIVE = (s.slot s.otherSlot).state % 4 := by
  rw [State.showSlot_eq, State.get_set_self _ _ _ (by decide), State.showPointer_otherSlot, State.slot, State.showPointer_dyke]
  rfl

/-- POINTED and CONFIRMED show the pointer that counts. -/
theorem State.showSlot_pointed {i : Nat} {x : Pointer} (h : s.pointer = some (i, x)) :
    s.showSlot.get .DYKE_SLOT_POINTED = x.slot % 2 ∧ s.showSlot.get .DYKE_SLOT_CONFIRMED = (!x.trial).toNat := by
  rw [State.showSlot_eq, State.get_set_other _ _ (by decide), State.get_set_other _ _ (by decide)]
  unfold State.showPointer State.setIf
  rw [h]
  refine ⟨State.get_set_self _ _ _ (by decide), ?_⟩
  rw [State.get_set_other _ _ (by decide), State.get_set_self _ _ _ (by decide)]
  exact Nat.mod_eq_of_lt (Bool.toNat_lt _)

/-! ### The pointer that is written (R440) -/

/-- The place and the sequence number of the next copy. -/
def State.nextCopy (s : State) : Nat × Nat :=
  match s.pointer with | some (i, x) => (1 - i, (x.seq + 1) % 2 ^ 32) | none => (0, 1)

/-- A pointer stored as the next copy. -/
def State.putCopy (s : State) (x : Pointer) : State :=
  { s with dyke := { s.dyke with copies := s.dyke.copies.put s.nextCopy.1 (some x) } }

theorem State.writePointer_eq (slot : Nat) (trial : Bool) (tries prev : Nat) : s.writePointer slot trial tries prev =
    (s.putCopy { seq := s.nextCopy.2, slot := slot, trial := trial, tries := tries, prev := prev }).showSlot := by
  unfold State.writePointer State.putCopy State.nextCopy
  cases h : s.pointer <;> rfl

/-- The pointer that counts of two copies. -/
def countingCopy : Option Pointer → Option Pointer → Option (Nat × Pointer)
  | some a, some b => if (a.seq + 2 ^ 32 - b.seq) % 2 ^ 32 < 2 ^ 31 then some (0, a) else some (1, b)
  | some a, none => some (0, a)
  | none, some b => some (1, b)
  | none, none => none

theorem State.pointer_eq : s.pointer = countingCopy (s.dyke.copies.at 0) (s.dyke.copies.at 1) := rfl

/-- A copy numbered one past the second counts before it. -/
theorem countingCopy_first {x b : Pointer} (h : x.seq = (b.seq + 1) % 2 ^ 32) : countingCopy (some x) (some b) = some (0, x) :=
  if_pos (by rw [h]; omega)

/-- A copy numbered one past the first counts before it. -/
theorem countingCopy_second {a x : Pointer} (h : x.seq = (a.seq + 1) % 2 ^ 32) : countingCopy (some a) (some x) = some (1, x) :=
  if_neg (by rw [h]; omega)

/-- The copy that is written is the one that counts. -/
theorem State.putCopy_pointer {x : Pointer} (hx : x.seq = s.nextCopy.2) : (s.putCopy x).pointer = some (s.nextCopy.1, x) := by
  have hput : (s.putCopy x).pointer = countingCopy ((s.dyke.copies.put s.nextCopy.1 (some x)).at 0)
    ((s.dyke.copies.put s.nextCopy.1 (some x)).at 1) := rfl
  have hfirst (h : s.nextCopy.1 = 0) : (s.putCopy x).pointer = countingCopy (some x) (s.dyke.copies.at 1) := by
    rw [hput, h, Tab.at_put_self, Tab.at_put_ne _ _ (by decide)]
  have hsecond (h : s.nextCopy.1 = 1) : (s.putCopy x).pointer = countingCopy (s.dyke.copies.at 0) (some x) := by
    rw [hput, h, Tab.at_put_self, Tab.at_put_ne _ _ (by decide)]
  cases h0 : s.dyke.copies.at 0 with
  | none => cases h1 : s.dyke.copies.at 1 with
    | none =>
      have hnext : s.nextCopy = (0, 1) := by rw [State.nextCopy, State.pointer_eq, h0, h1]; rfl
      rw [hfirst (congrArg Prod.fst hnext), h1, hnext]
      rfl
    | some b =>
      have hnext : s.nextCopy = (0, (b.seq + 1) % 2 ^ 32) := by rw [State.nextCopy, State.pointer_eq, h0, h1]; rfl
      rw [hfirst (congrArg Prod.fst hnext), h1, hnext]
      exact countingCopy_first (hx.trans (congrArg Prod.snd hnext))
  | some a => cases h1 : s.dyke.copies.at 1 with
    | none =>
      have hnext : s.nextCopy = (1, (a.seq + 1) % 2 ^ 32) := by rw [State.nextCopy, State.pointer_eq, h0, h1]; rfl
      rw [hsecond (congrArg Prod.fst hnext), h0, hnext]
      exact countingCopy_second (hx.trans (congrArg Prod.snd hnext))
    | some b =>
      by_cases hcond : (a.seq + 2 ^ 32 - b.seq) % 2 ^ 32 < 2 ^ 31
      · have hnext : s.nextCopy = (1, (a.seq + 1) % 2 ^ 32) := by
          rw [State.nextCopy, State.pointer_eq, h0, h1, countingCopy, if_pos hcond]
        rw [hsecond (congrArg Prod.fst hnext), h0, hnext]
        exact countingCopy_second (hx.trans (congrArg Prod.snd hnext))
      · have hnext : s.nextCopy = (0, (b.seq + 1) % 2 ^ 32) := by
          rw [State.nextCopy, State.pointer_eq, h0, h1, countingCopy, if_neg hcond]
        rw [hfirst (congrArg Prod.fst hnext), h1, hnext]
        exact countingCopy_first (hx.trans (congrArg Prod.snd hnext))

theorem State.writePointer_get (slot : Nat) (trial : Bool) (tries prev : Nat) :
    (s.writePointer slot trial tries prev).get .DYKE_SLOT_POINTED = slot % 2 ∧
    (s.writePointer slot trial tries prev).get .DYKE_SLOT_CONFIRMED = (!trial).toNat := by
  rw [State.writePointer_eq]
  exact State.showSlot_pointed (State.putCopy_pointer rfl)

theorem State.writePointer_within (slot : Nat) (trial : Bool) (tries prev : Nat) :
    Frame [.dyke] [.fld .DYKE_SLOT_SEQ, .fld .DYKE_SLOT_INACTIVE, .fld .DYKE_SLOT_CONFIRMED, .fld .DYKE_SLOT_POINTED] s
    (s.writePointer slot trial tries prev) := State.writePointer_frame (fun _ hp => hp) (fun _ hr => hr) (Frame.refl _ _ s)

end Sys2Proof.Machine
end

section
set_option Elab.async false
/-! UPDATES ARE SERVED (10, 19). A command of the update family begins, fills, applies, activates or drops an update,
  one part or one fuse an execution
(R250, R251, R252, R438, R444, R450, R451, R452). -/

namespace Sys2Proof.Machine

variable {s t : State} {p status : Nat}

/-! ### UPDATE_BEGIN (R250) -/

/-- The slot that does not run emptied for a new update. -/
def State.beginUpdate (s : State) : State :=
  let s := s.updSlot s.otherSlot (fun _ => { state := 1 })
  { s with dyke := { s.dyke with owner := none, total := 0, package := [], applied := false } }

/-- The update given to the session of the request. -/
def State.ownUpdate (s : State) (p : Nat) : State :=
  { s with dyke := { s.dyke with owner := some (s.mbxKey p), total := s.req p 16 4 } }

theorem State.beginUpdate_slot : s.beginUpdate.dyke.slots.at s.otherSlot = { state := 1 } := by
  change (s.dyke.slots.upd s.otherSlot (fun _ => { state := 1 })).at s.otherSlot = _
  rw [Tab.at_upd_self]

theorem exec_updateBegin_start {norOk : Bool} (hruns : s.Runs p 0x0801) (hphase : (s.aq.runs.at p).phase = 0) :
    exec (.updateBegin p norOk) s = .next (s.beginUpdate.showSlot.updRun p (fun r => { r with phase := 1 })) := by
  refine congrArg Host.Outcome.next ((State.onCommand_of_runs hruns _).trans ?_)
  dsimp only
  rw [State.run, if_pos hphase]
  rfl

theorem exec_updateBegin_owned (hruns : s.Runs p 0x0801) (hphase : (s.aq.runs.at p).phase = 1) (hcancel : s.cancelAsked p = false) :
    exec (.updateBegin p true) s = .next ((s.ownUpdate p).respond p 0 true []) := by
  refine congrArg Host.Outcome.next ((State.onCommand_of_runs hruns _).trans ?_)
  dsimp only
  rw [State.run, hphase, hcancel]
  rfl

theorem exec_updateBegin_failed (hruns : s.Runs p 0x0801) (hphase : (s.aq.runs.at p).phase = 1) (hcancel : s.cancelAsked p = false) :
    exec (.updateBegin p false) s = .next (s.dropUpdate.respond p 0x0164 true []) := by
  refine congrArg Host.Outcome.next ((State.onCommand_of_runs hruns _).trans ?_)
  dsimp only
  rw [State.run, hphase, hcancel]
  rfl

theorem exec_updateBegin_cancelled {norOk : Bool} (hruns : s.Runs p 0x0801) (hphase : (s.aq.runs.at p).phase = 1)
    (hcancel : s.cancelAsked p = true) : exec (.updateBegin p norOk) s = .next (s.dropUpdate.respond p 0x40 true []) := by
  refine congrArg Host.Outcome.next ((State.onCommand_of_runs hruns _).trans ?_)
  dsimp only
  rw [State.run, hphase, hcancel]
  rfl

/-! ### UPDATE_APPLY (R251, R444) -/

/-- The answer of an UPDATE_APPLY that fails. -/
theorem State.applyFails_answered (applied fail : Nat) (full : Bool) (hstatus : status < 2 ^ 16) :
    Answered s (s.applyFails p status applied fail full) p status true
      (if full then leBytes 2 applied ++ leBytes 1 fail ++ [0] ++ leBytes 4 (manVersion s.packManifest) else []) ∧
    FailedUpdate s (s.applyFails p status applied fail full) := by
  unfold State.applyFails
  exact ⟨State.respond_answered (State.dropUpdate_box.trans State.updateRecord_box) hstatus,
    (State.dropUpdate_fails.of_dyke State.updateRecord_dyke).respond⟩

/-- The part `x` of the package, made. -/
def State.takePart (s : State) (p q : Nat) (x : List Byte) : State :=
  (s.updSlot s.otherSlot (fun y => { y with images := y.images.take q ++ [x] })).updRun p
    (fun r => { r with phase := q + 2, good := r.good + (if entryAt s.packManifest q 1 1 = 0 then 0 else 2 ^ q) })

/-- The update complete, before it is recorded. -/
def State.fillSlot (s : State) : State :=
  let s := s.updSlot s.otherSlot (fun y => { y with state := 2, manifest := s.packManifest })
  { s with dyke := { s.dyke with applied := true } }

theorem State.fillSlot_slot :
    (s.fillSlot.dyke.slots.at s.otherSlot).state = 2 ∧ (s.fillSlot.dyke.slots.at s.otherSlot).manifest = s.packManifest := by
  change ((s.dyke.slots.upd s.otherSlot (fun y => { y with state := 2, manifest := s.packManifest })).at s.otherSlot).state = 2 ∧
    ((s.dyke.slots.upd s.otherSlot (fun y => { y with state := 2, manifest := s.packManifest })).at s.otherSlot).manifest = _
  rw [Tab.at_upd_self]
  exact ⟨rfl, rfl⟩

/-- The update complete, shown and recorded. -/
def State.applied (s : State) (good : Nat) : State := s.fillSlot.showSlot.updateRecord 0x0803 0 (manVersion s.packManifest) good 0xFF

theorem State.applied_dyke {good : Nat} : (s.applied good).dyke = s.fillSlot.dyke :=
  State.updateRecord_dyke.trans State.showSlot_dyke

theorem State.applied_inactive {good : Nat} : (s.applied good).get .DYKE_SLOT_INACTIVE = 2 := by
  unfold State.applied
  rw [State.updateRecord_within.get (by decide +kernel), State.showSlot_inactive]
  exact congrArg (· % 4) State.fillSlot_slot.1

theorem State.applied_box {good : Nat} : s.SameBox p (s.applied good) := by
  have hfill : s.SameBox p s.fillSlot := State.SameBox.of_regs rfl
  exact (hfill.trans (State.showSlot_within.sameBox (by decide +kernel) p)).trans State.updateRecord_box

theorem State.applied_aq {good : Nat} : (s.applied good).aq = s.aq :=
  (State.updateRecord_within.same .aq (by decide)).trans (State.showSlot_within.same .aq (by decide))

section apply

variable {norOk : Bool} (hruns : s.Runs p 0x0803)
include hruns

theorem exec_updateApply_refused {part : Nat} (hphase : (s.aq.runs.at p).phase = 0) (hcheck : s.applyCheck = some (status, part)) :
    exec (.updateApply p norOk) s = .next (s.applyFails p status 0 part true) := by
  refine congrArg Host.Outcome.next ((State.onCommand_of_runs hruns _).trans ?_)
  dsimp only
  rw [State.run, if_pos hphase, hcheck]

theorem exec_updateApply_start (hphase : (s.aq.runs.at p).phase = 0) (hcheck : s.applyCheck = none) :
    exec (.updateApply p norOk) s = .next (s.updRun p (fun r => { r with phase := 1 })) := by
  refine congrArg Host.Outcome.next ((State.onCommand_of_runs hruns _).trans ?_)
  dsimp only
  rw [State.run, if_pos hphase, hcheck]

variable {q : Nat} (hphase : (s.aq.runs.at p).phase = q + 1) (hq : q < 7)
include hphase hq

theorem exec_updateApply_cancelled (hcancel : s.cancelAsked p = true) :
    exec (.updateApply p norOk) s = .next (s.applyFails p 0x40 (s.aq.runs.at p).good 0xFF false) := by
  refine congrArg Host.Outcome.next ((State.onCommand_of_runs hruns _).trans ?_)
  dsimp only
  rw [State.run, if_neg (by omega), if_pos (by omega), if_pos hcancel]

variable (hcancel : s.cancelAsked p = false)
include hcancel

theorem exec_updateApply_failed : exec (.updateApply p false) s = .next (s.applyFails p 0x0164 (s.aq.runs.at p).good 0xFF false) := by
  refine congrArg Host.Outcome.next ((State.onCommand_of_runs hruns _).trans ?_)
  dsimp only
  rw [State.run, if_neg (by omega), if_pos (by omega), hcancel]
  rfl

theorem exec_updateApply_part {x : List Byte} (hpart : s.makePart q = .ok x) : exec (.updateApply p true) s = .next (s.takePart p q x) := by
  refine congrArg Host.Outcome.next ((State.onCommand_of_runs hruns _).trans ?_)
  dsimp only
  rw [State.run, if_neg (by omega), if_pos (by omega), hcancel, hphase, Nat.add_sub_cancel, hpart]
  rfl

theorem exec_updateApply_bad (hpart : s.makePart q = .error status) :
    exec (.updateApply p true) s = .next (s.applyFails p status (s.aq.runs.at p).good q true) := by
  refine congrArg Host.Outcome.next ((State.onCommand_of_runs hruns _).trans ?_)
  dsimp only
  rw [State.run, if_neg (by omega), if_pos (by omega), hcancel, hphase, Nat.add_sub_cancel, hpart]
  rfl

end apply

theorem exec_updateApply_done {norOk : Bool} (hruns : s.Runs p 0x0803) (hphase : 8 ≤ (s.aq.runs.at p).phase) :
    exec (.updateApply p norOk) s =
    .next ((s.applied (s.aq.runs.at p).good).respond p 0 true
      (leBytes 2 (s.aq.runs.at p).good ++ leBytes 1 0xFF ++ [0] ++ leBytes 4 (manVersion s.packManifest))) := by
  refine congrArg Host.Outcome.next ((State.onCommand_of_runs hruns _).trans ?_)
  dsimp only
  rw [State.run, if_neg (by omega), if_neg (by omega)]
  rfl

/-- The statuses of a package that is refused. -/
theorem State.applyCheck_lt {part : Nat} (h : s.applyCheck = some (status, part)) : status < 2 ^ 16 := by
  unfold State.applyCheck at h
  dsimp only at h
  split at h
  · cases h
    decide
  · split at h
    · cases h
      decide
    · split at h
      · cases h
        decide
      · split at h
        · cases h
          decide
        · obtain ⟨i, -, hi⟩ := Option.map_eq_some_iff.1 h
          cases hi
          decide

/-- The statuses of a part that cannot be made. -/
theorem State.makePart_lt {q : Nat} (h : s.makePart q = .error status) : status < 2 ^ 16 := by
  have hjudge {m : List Byte} {image : Option (List Byte)} (h : (match image with
      | some x => if imageOk m q x then .ok x else .error 0x0160
      | none => .error 0x0160 : Except Nat (List Byte)) = .error status) : status < 2 ^ 16 := by
    split at h
    · split at h
      · cases h
      · cases h
        decide
    · cases h
      decide
  unfold State.makePart at h
  dsimp only at h
  split at h
  · exact hjudge (image := some (s.image s.runSlot q)) h
  · exact hjudge h
  · split at h
    · cases h
      decide
    · exact hjudge h
  · cases h
    decide

/-! ### UPDATE_ACTIVATE and UPDATE_ABORT (R252, R440) -/

/-- The update that nobody owns any more. -/
def State.releaseUpdate (s : State) : State := { s with dyke := { s.dyke with owner := none, applied := false } }

/-- The update activated, before the answer. -/
def State.activated (s : State) (p : Nat) : State :=
  let v := manVersion (s.slot s.otherSlot).manifest
  ((s.writePointer s.otherSlot true 0 s.runSlot).releaseUpdate.updateRecord 0x0804 0 v 0 0xFF).when (s.req p 16 1 == 1) (fun s => s.sealRecord 1)

theorem State.activated_after_pointer :
    Frame [.dyke, .drawn, .mireIrq, .fenIrq, .seqs, .chans, .stg, .lev, .peat] (alarmRegs ++ haltRegs)
      (s.writePointer s.otherSlot true 0 s.runSlot) (s.activated p) := by
  unfold State.activated
  refine State.when_frame (State.updateRecord_frame (by decide) (fun _ hr => hr) ?_)
    (fun _ ht => State.sealRecord_frame (by decide) (fun _ hr => hr) ht)
  exact upd_dyke (by decide) (Frame.refl _ _ _)

theorem State.activated_owner : (s.activated p).dyke.owner = none := by
  unfold State.activated
  have hseal (u : State) : (u.sealRecord 1).dyke = u.dyke :=
    (State.sealRecord_frame (fun _ hp => hp) (fun _ hr => hr) (Frame.refl _ _ u)).same .dyke (by decide)
  rw [State.when_keeps (fun t => t.dyke) (hseal _), State.updateRecord_dyke]
  rfl

theorem State.activated_box : s.SameBox p (s.activated p) :=
  ((s.writePointer_within _ _ _ _).sameBox (by decide +kernel) p).trans (State.activated_after_pointer.sameBox (by decide +kernel) p)

theorem State.activated_pointed : (s.activated p).get .DYKE_SLOT_POINTED = s.otherSlot ∧ (s.activated p).get .DYKE_SLOT_CONFIRMED = 0 := by
  obtain ⟨hpointed, hconfirmed⟩ := s.writePointer_get s.otherSlot true 0 s.runSlot
  rw [State.activated_after_pointer.get (by decide +kernel), State.activated_after_pointer.get (by decide +kernel), hpointed,
    hconfirmed]
  exact ⟨Nat.mod_eq_of_lt (by unfold State.otherSlot; omega), rfl⟩

theorem State.requestReset_isSome (cause source inst : Nat) : (s.requestReset cause source inst).lev.resetReq.isSome = true := by
  unfold State.requestReset
  split
  next h => exact h
  next => rfl

theorem exec_updateActivate_failed (hruns : s.Runs p 0x0804) : exec (.updateActivate p false) s =
    .next ((s.releaseUpdate.updateRecord 0x0804 0x0164 (manVersion (s.slot s.otherSlot).manifest) 0 0xFF).respond p 0x0164 true []) := by
  refine congrArg Host.Outcome.next ((State.onCommand_of_runs hruns _).trans ?_)
  dsimp only
  rw [if_neg Bool.false_ne_true, State.releaseUpdate, State.respondBad]

theorem State.releaseUpdate_box : s.SameBox p s.releaseUpdate := State.SameBox.of_regs rfl

/-- The registers and Aqsia hold all that an answer is. -/
theorem AnsweredTo.of_same {key : Nat × Nat} {u : State} {started : Bool} {payload : List Byte}
    (h : AnsweredTo key s t p status started payload) (hregs : u.regs = t.regs) (haq : u.aq = t.aq) :
    AnsweredTo key s u p status started payload := by
  obtain ⟨hmbx, hstatus, hstarted, hdone, hdata, hring, hrunning⟩ := h
  exact ⟨(State.get_of_regs hregs _).trans hmbx, (State.get_of_regs hregs _).trans hstatus, (State.get_of_regs hregs _).trans hstarted,
    (congrArg (· / 2 ^ (p % 32) % 2) (State.get_of_regs hregs _)).trans hdone,
      fun w hw => (State.get_of_regs hregs _).trans (hdata w hw), haq ▸ hring,
    haq ▸ hrunning⟩

/-- The reset that is asked for changes the request to Levee alone. -/
theorem State.whenReset_same (b : Bool) : (s.when b (fun s => s.requestReset 2 0 0)).regs = s.regs ∧
    (s.when b (fun s => s.requestReset 2 0 0)).aq = s.aq ∧ (s.when b (fun s => s.requestReset 2 0 0)).dyke = s.dyke := by
  have h : Frame [.lev] [] s (s.when b (fun s => s.requestReset 2 0 0)) :=
    State.when_frame (Frame.refl _ _ s) (fun _ ht => State.requestReset_frame (fun _ hp => hp) ht)
  refine ⟨?_, h.same .aq (by decide), h.same .dyke (by decide)⟩
  exact State.when_keeps (fun t => t.regs) (by unfold State.requestReset; split <;> rfl)

/-- What UPDATE_ACTIVATE leaves. -/
def State.activate (s : State) (p : Nat) : State :=
  ((s.activated p).respond p 0 true []).when (s.req p 16 1 == 1) (fun s => s.requestReset 2 0 0)

theorem exec_updateActivate_written (hruns : s.Runs p 0x0804) : exec (.updateActivate p true) s =
    .next (s.activate p) := by
  refine congrArg Host.Outcome.next ((State.onCommand_of_runs hruns _).trans ?_)
  dsimp only
  rw [if_pos rfl, State.activate, State.activated, State.releaseUpdate, State.respondOk]

theorem State.activate_answered : Answered s (s.activate p) p 0 true [] := by
  obtain ⟨hregs, haq, -⟩ := ((s.activated p).respond p 0 true []).whenReset_same (s.req p 16 1 == 1)
  exact (State.respond_answered State.activated_box (by decide)).of_same hregs haq

theorem State.activate_points : (s.activate p).dyke.owner = none ∧ (s.activate p).get .DYKE_SLOT_POINTED = s.otherSlot ∧
    (s.activate p).get .DYKE_SLOT_CONFIRMED = 0 := by
  obtain ⟨hregs, -, hdyke⟩ := ((s.activated p).respond p 0 true []).whenReset_same (s.req p 16 1 == 1)
  unfold State.activate
  rw [hdyke, State.get_of_regs hregs, State.get_of_regs hregs, State.respond_dyke_of_none State.activated_owner,
    State.respond_get (by decide +kernel), State.respond_get (by decide +kernel)]
  exact ⟨State.activated_owner, State.activated_pointed⟩

theorem State.activate_resets (h : s.req p 16 1 = 1) : (s.activate p).lev.resetReq.isSome = true := by
  unfold State.activate
  rw [h]
  exact State.requestReset_isSome 2 0 0

theorem exec_updateAbort_open (hruns : s.Runs p 0x0806) (howner : s.dyke.owner = some (s.mbxKey p)) (happlied : s.dyke.applied = false) :
    exec (.updateAbort p) s = .next (s.dropUpdate.respond p 0 true []) := by
  refine congrArg Host.Outcome.next ((State.onCommand_of_runs hruns _).trans ?_)
  dsimp only
  rw [howner, beq_self_eq_true, State.when_true, happlied]
  rfl

theorem exec_updateAbort_applied (hruns : s.Runs p 0x0806) (howner : s.dyke.owner = some (s.mbxKey p)) (happlied : s.dyke.applied = true) :
    exec (.updateAbort p) s = .next (s.releaseUpdate.respond p 0 true []) := by
  refine congrArg Host.Outcome.next ((State.onCommand_of_runs hruns _).trans ?_)
  dsimp only
  rw [howner, beq_self_eq_true, State.when_true, if_pos happlied]
  rfl

theorem exec_updateAbort_other (hruns : s.Runs p 0x0806) (howner : s.dyke.owner ≠ some (s.mbxKey p)) :
    exec (.updateAbort p) s = .next (s.respond p 0 true []) := by
  refine congrArg Host.Outcome.next ((State.onCommand_of_runs hruns _).trans ?_)
  dsimp only
  rw [beq_eq_false_iff_ne.2 howner]
  rfl

theorem exec_updateFloor_fuse {c : Nat} (hruns : s.Runs p 0x0807) (hfuse : s.nextFuse = some c) :
    exec (.updateFloor p) s = .next (s.set (.DYKE_FLOOR_COUNT c) (s.get (.DYKE_FLOOR_COUNT c) + 1)) := by
  refine congrArg Host.Outcome.next ((State.onCommand_of_runs hruns _).trans ?_)
  rw [hfuse]

theorem exec_updateFloor_done (hruns : s.Runs p 0x0807) (hfuse : s.nextFuse = none) : exec (.updateFloor p) s =
    .next ((s.updateRecord 0x0807 0 (manVersion (s.slot s.runSlot).manifest) 0 0xFF).respond p 0 true (leBytes 4 (s.get (.DYKE_FLOOR_COUNT 7)))) := by
  refine congrArg Host.Outcome.next ((State.onCommand_of_runs hruns _).trans ?_)
  rw [hfuse]
  dsimp only
  rw [State.respondOk]

theorem State.beginUpdate_starts (hruns : s.Runs p 0x0801) :
    (s.beginUpdate.showSlot.updRun p (fun r => { r with phase := 1 })).dyke.slots.at s.otherSlot = { state := 1 } ∧
    (s.beginUpdate.showSlot.updRun p (fun r => { r with phase := 1 })).get .DYKE_SLOT_INACTIVE = 1 ∧
    (s.beginUpdate.showSlot.updRun p (fun r => { r with phase := 1 })).dyke.owner = none ∧
    (s.beginUpdate.showSlot.updRun p (fun r => { r with phase := 1 })).dyke.package = [] ∧
    ((s.beginUpdate.showSlot.updRun p (fun r => { r with phase := 1 })).aq.runs.at p).phase = 1 ∧
    (s.beginUpdate.showSlot.updRun p (fun r => { r with phase := 1 })).mbx p = 2 := by
  have hmbx : s.beginUpdate.showSlot.mbx p = s.mbx p := State.showSlot_within.get
    (apart_mod (n := 64) .MBX_STAT_STATE (by decide) (by simp) (by decide +kernel) p)
  have hinactive : s.beginUpdate.showSlot.get .DYKE_SLOT_INACTIVE = 1 :=
    State.showSlot_inactive.trans (congrArg (fun x => Slot.state x % 4) State.beginUpdate_slot)
  rw [State.updRun_dyke, State.showSlot_dyke]
  exact ⟨State.beginUpdate_slot, hinactive, rfl, rfl, congrArg CmdRun.phase (State.updRun_run _), hmbx.trans hruns.1⟩

/-- The bytes of a request put after those of the package. -/
def State.fillUpdate (s : State) (p : Nat) : State :=
  { s with dyke := { s.dyke with package := s.dyke.package ++ s.reqBytes p 24 (s.req p 20 2) } }

theorem State.takePart_takes {q : Nat} {x : List Byte} (hruns : s.Runs p 0x0803) : ((s.takePart p q x).aq.runs.at p).phase = q + 2 ∧
    ((s.takePart p q x).aq.runs.at p).good = (s.aq.runs.at p).good + (if entryAt s.packManifest q 1 1 = 0 then 0 else 2 ^ q) ∧
    ((s.takePart p q x).dyke.slots.at s.otherSlot).images = (s.dyke.slots.at s.otherSlot).images.take q ++ [x] ∧
    (s.takePart p q x).mbx p = 2 := by
  refine ⟨congrArg CmdRun.phase (State.updRun_run _), congrArg CmdRun.good (State.updRun_run _), ?_, hruns.1⟩
  change ((s.dyke.slots.upd s.otherSlot (fun y => { y with images := y.images.take q ++ [x] })).at s.otherSlot).images = _
  rw [Tab.at_upd_self]

theorem State.applied_session {good : Nat} (hopen : s.sessionOpen p = true) :
    (s.applied good).aq.sessions.any (fun x => x.key == (s.applied good).mbxKey p) = true := by
  rw [State.applied_aq, State.applied_box.key]
  exact State.sessions_of_open hopen

/-- Settles O53. -/
theorem updatesAreServed : Obligations.UpdatesAreServed := by
  unfold Obligations.UpdatesAreServed
  refine ⟨fun s p norOk hruns hphase => ?_, fun s p hruns hphase hcancel => ?_, fun s p hruns hphase hcancel => ?_,
    fun s p norOk hruns hphase hcancel => ?_, fun s p hruns => ?_, fun s p hruns => ?_, fun s p norOk status part hruns hphase hcheck => ?_,
    fun s p norOk hruns hphase => ?_, fun s p q hruns hphase hq hcancel => ?_, fun s p norOk q hruns hphase hq hcancel => ?_,
    fun s p q hruns hphase hq hcancel => ?_, fun s p norOk hruns hphase => ?_, fun s p hruns => ?_, fun s p hruns => ?_,
    fun s p hruns => ?_, fun s p hruns howner happlied => ?_, fun s p hruns howner happlied => ?_, fun s p hruns howner => ?_,
    fun s p c hruns hfuse hlt => ?_, fun s p hruns hfuse => ?_⟩
  · exact completes_of_outFrame (c := .updateBegin p norOk) (execUpdateBegin_frame (parts_in rfl) (fun _ hr => hr)) (exec_updateBegin_start hruns hphase)
      (fun _ => State.beginUpdate_starts hruns)
  · refine completes_of_outFrame (c := .updateBegin p true) (execUpdateBegin_frame (parts_in rfl) (fun _ hr => hr)) (exec_updateBegin_owned hruns hphase hcancel)
      (fun _ => ⟨State.respond_answered (State.SameBox.of_regs rfl) (by decide), fun hopen => ?_⟩)
    rw [State.respond_dyke_of_session (s := s.ownUpdate p) (State.sessions_of_open (s := s) hopen)]
    exact ⟨rfl, rfl⟩
  · exact completes_of_outFrame (c := .updateBegin p false) (execUpdateBegin_frame (parts_in rfl) (fun _ hr => hr)) (exec_updateBegin_failed hruns hphase hcancel)
      (fun _ => ⟨State.respond_answered State.dropUpdate_box (by decide), State.dropUpdate_fails.respond⟩)
  · exact completes_of_outFrame (c := .updateBegin p norOk) (execUpdateBegin_frame (parts_in rfl) (fun _ hr => hr))
      (exec_updateBegin_cancelled hruns hphase hcancel)
      (fun _ => ⟨State.respond_answered State.dropUpdate_box (by decide), State.dropUpdate_fails.respond⟩)
  · refine completes_of_outFrame (c := .updateData p true) (execUpdateData_frame (parts_in rfl) (fun _ hr => hr)) (t := (s.fillUpdate p).respond p 0 true [])
      (congrArg Host.Outcome.next (State.onCommand_of_runs hruns _))
      (fun _ => ⟨State.respond_answered (State.SameBox.of_regs rfl) (by decide), fun hopen => ?_⟩)
    rw [State.respond_dyke_of_session (s := s.fillUpdate p) (State.sessions_of_open (s := s) hopen)]
    exact ⟨rfl, rfl⟩
  · exact completes_of_outFrame (c := .updateData p false) (execUpdateData_frame (parts_in rfl) (fun _ hr => hr)) (t := s.dropUpdate.respond p 0x0164 true [])
      (congrArg Host.Outcome.next (State.onCommand_of_runs hruns _))
      (fun _ => ⟨State.respond_answered State.dropUpdate_box (by decide), State.dropUpdate_fails.respond⟩)
  · exact completes_of_outFrame (c := .updateApply p norOk) (execUpdateApply_frame (parts_in rfl) (fun _ hr => hr))
      (exec_updateApply_refused hruns hphase hcheck) (fun _ => State.applyFails_answered 0 part true (State.applyCheck_lt hcheck))
  · cases hcheck : s.applyCheck with
    | none =>
      exact completes_of_outFrame (c := .updateApply p norOk) (execUpdateApply_frame (parts_in rfl) (fun _ hr => hr)) (exec_updateApply_start hruns hphase hcheck)
        (fun _ _ => ⟨congrArg CmdRun.phase (State.updRun_run _), hruns.1, rfl⟩)
    | some e =>
      exact completes_of_outFrame (c := .updateApply p norOk) (execUpdateApply_frame (parts_in rfl) (fun _ hr => hr))
        (exec_updateApply_refused hruns hphase hcheck) (fun _ h => by cases h)
  · cases hpart : s.makePart q with
    | ok x =>
      refine completes_of_outFrame (c := .updateApply p true) (execUpdateApply_frame (parts_in rfl) (fun _ hr => hr))
        (exec_updateApply_part hruns hphase hq hcancel hpart) (fun _ => ⟨fun y hy => ?_, fun e h => by cases h⟩)
      cases hy
      exact State.takePart_takes hruns
    | error e =>
      refine completes_of_outFrame (c := .updateApply p true) (execUpdateApply_frame (parts_in rfl) (fun _ hr => hr))
        (exec_updateApply_bad hruns hphase hq hcancel hpart) (fun _ => ⟨fun y hy => (by cases hy), fun e' h => ?_⟩)
      cases h
      obtain ⟨hanswer, hstate, howner,
        -⟩ := State.applyFails_answered (s := s) (p := p) (s.aq.runs.at p).good q true (State.makePart_lt hpart)
      exact ⟨hanswer, hstate, howner⟩
  · exact completes_of_outFrame (c := .updateApply p norOk) (execUpdateApply_frame (parts_in rfl) (fun _ hr => hr))
      (exec_updateApply_cancelled hruns hphase hq hcancel) (fun _ => State.applyFails_answered _ _ false (by decide))
  · exact completes_of_outFrame (c := .updateApply p false) (execUpdateApply_frame (parts_in rfl) (fun _ hr => hr))
      (exec_updateApply_failed hruns hphase hq hcancel) (fun _ => State.applyFails_answered _ _ false (by decide))
  · refine completes_of_outFrame (c := .updateApply p norOk) (execUpdateApply_frame (parts_in rfl) (fun _ hr => hr)) (exec_updateApply_done hruns hphase)
      (fun _ => ⟨State.respond_answered State.applied_box (by decide), fun hopen => ?_⟩)
    have hsession := State.applied_session (good := (s.aq.runs.at p).good) hopen
    rw [State.respond_dyke_of_session hsession, State.respond_get_of_session hsession (by decide +kernel), State.applied_dyke,
      State.applied_inactive]
    exact ⟨State.fillSlot_slot.1, State.fillSlot_slot.2, rfl, rfl⟩
  · refine completes_of_outFrame (c := .updateActivate p true) (execUpdateActivate_frame (parts_in rfl) (fun _ hr => hr))
      (exec_updateActivate_written hruns) (fun _ => ⟨State.activate_answered, ?_⟩)
    obtain ⟨howner, hpointed, hconfirmed⟩ := State.activate_points (s := s) (p := p)
    exact ⟨howner, hpointed, hconfirmed, State.activate_resets⟩
  · refine completes_of_outFrame (c := .updateActivate p false) (execUpdateActivate_frame (parts_in rfl) (fun _ hr => hr))
      (exec_updateActivate_failed hruns) (fun _ => ⟨State.respond_answered (State.releaseUpdate_box.trans State.updateRecord_box) (by decide), ?_⟩)
    rw [State.respond_dyke_of_none (by rw [State.updateRecord_dyke]; rfl), State.updateRecord_dyke,
      State.respond_get (by decide +kernel), State.updateRecord_within.get (by decide +kernel)]
    exact ⟨rfl, rfl, rfl⟩
  · exact completes_of_outFrame (execUpdateStatus_frame (parts_in rfl) (fun _ hr => hr))
      (congrArg Host.Outcome.next (State.onCommand_of_runs hruns _)) (fun _ => State.respond_answers (by decide))
  · refine completes_of_outFrame (execUpdateAbort_frame (parts_in rfl) (fun _ hr => hr)) (exec_updateAbort_open hruns howner happlied)
      (fun _ => ⟨State.respond_answered State.dropUpdate_box (by decide), ?_⟩)
    obtain ⟨hstate, hnone, hpackage⟩ := (State.dropUpdate_fails (s := s)).respond (p := p) (status := 0) (started := true) (payload := [])
    exact ⟨hstate, hnone, hpackage, (State.respond_inactive rfl).trans State.dropUpdate_inactive⟩
  · refine completes_of_outFrame (execUpdateAbort_frame (parts_in rfl) (fun _ hr => hr)) (exec_updateAbort_applied hruns howner happlied)
      (fun _ => ⟨State.respond_answered (State.SameBox.of_regs rfl) (by decide), ?_⟩)
    rw [State.respond_dyke_of_none (s := s.releaseUpdate) rfl]
    exact ⟨rfl, rfl⟩
  · exact completes_of_outFrame (execUpdateAbort_frame (parts_in rfl) (fun _ hr => hr)) (exec_updateAbort_other hruns howner)
      (fun _ => ⟨State.respond_answers (by decide), State.respond_dyke howner⟩)
  · refine completes_of_outFrame (execUpdateFloor_frame (parts_in rfl) (fun _ hr => hr)) (exec_updateFloor_fuse hruns hfuse)
      (fun _ => ⟨?_, ?_⟩)
    · exact (State.get_set_self _ _ _ (by simp)).trans (Nat.mod_eq_of_lt (show _ < 2 ^ 7 by omega))
    · exact (State.get_set_other _ _ (.inl (by dsimp only; omega))).trans hruns.1
  · exact completes_of_outFrame (execUpdateFloor_frame (parts_in rfl) (fun _ hr => hr)) (exec_updateFloor_done hruns hfuse)
      (fun _ => State.respond_answered State.updateRecord_box (by decide))

end Sys2Proof.Machine
end

section
set_option Elab.async false
/-! REGISTERS ARE ACCESSED (01). Whom an access reaches and when it ends in a bus error (R7, R14, R33),
  what a store puts into the fields of a register
by their access codes (R8), and what a load shows. -/

namespace Sys2Proof.Machine

variable {s : State} {who : Who} {may : Nat → Bool} {addr width : Nat} {f : RegRow → List Nat → State → State}

theorem completes_of {W : List Part} {R : List Regs} {c : Instr} {t : State} {P : State → Prop} (hexec : exec c s = .next t) (hP : P t)
    (hframe : Frame W R s t) : Completes c s (fun t => P t ∧ Frame W R s t) := ⟨t, hexec, hP, hframe⟩

/-! ### Whom an access reaches (R7, R14, R33) -/

theorem State.reach_denied {core : Nat} (h : may addr = false) : s.reach (.fen core) may addr width f = s.denied core := by
  unfold State.reach
  dsimp only
  rw [h]
  rfl

/-- An access that is permitted is judged by its width, its address and the register's clock. -/
theorem State.reach_permitted (hmay : who = .mire ∨ may addr = true) : s.reach who may addr width f =
    if width ≠ 4 ∨ addr % 4 ≠ 0 then s.busErr else match findReg addr with
      | none => s.busErr
      | some (r, ix) => s.access addr (fun s => f r ix s) := by
  unfold State.reach
  cases who with
  | mire => rfl
  | fen core => exact if_pos (hmay.resolve_left (by simp))

theorem State.reach_register {r : RegRow} {ix : List Nat} (hmay : who = .mire ∨ may addr = true) (haddr : addr % 4 = 0)
    (hrow : findReg addr = some (r, ix)) (hclock : s.gated addr = false) : s.reach who may addr 4 f = f r ix s.ack := by
  rw [State.reach_permitted hmay, if_neg (by omega), hrow]
  exact State.access_of_clocked _ hclock

theorem State.reach_busErr (hmay : who = .mire ∨ may addr = true)
    (hbad : width ≠ 4 ∨ addr % 4 ≠ 0 ∨ findReg addr = none ∨ s.gated addr = true) : s.reach who may addr width f = s.busErr := by
  rw [State.reach_permitted hmay]
  by_cases hshape : width ≠ 4 ∨ addr % 4 ≠ 0
  · rw [if_pos hshape]
  · rw [if_neg hshape]
    cases hrow : findReg addr with
    | none => rfl
    | some e =>
      have hgated : s.gated addr = true := by
        rcases hbad with h | h | h | h
        · exact absurd (.inl h) hshape
        · exact absurd (.inr h) hshape
        · rw [hrow] at h
          cases h
        · exact h
      exact if_pos hgated

/-! ### What a store puts into a register (R8) -/

/-- A field stands in the 32 bits of its register. -/
def FieldRow.fits (f : FieldRow) : Bool := decide (f.lo + f.width ≤ 32)

/-- Two fields share no bit. -/
def FieldRow.apart (f g : FieldRow) : Bool := decide (f.lo + f.width ≤ g.lo) || decide (g.lo + g.width ≤ f.lo)

/-- The fields of a register stand in its 32 bits, no two of them in one. -/
def fieldsApart : List FieldRow → Bool
  | [] => true
  | f :: l => f.fits && l.all f.apart && fieldsApart l

/-- The bit `i` of the word lies in the field. -/
def FieldRow.holds (f : FieldRow) (i : Nat) : Bool := decide (f.lo ≤ i) && decide (i < f.lo + f.width)

theorem FieldRow.mask_bit (f : FieldRow) (i : Nat) :
    (BitVec.ofNat 32 ((2 ^ f.width - 1) * 2 ^ f.lo)).getLsbD i = (decide (i < 32) && f.holds i) := by
  rw [BitVec.getLsbD_ofNat, Nat.testBit_mul_two_pow, Nat.testBit_two_pow_sub_one]
  unfold FieldRow.holds
  by_cases hlo : f.lo ≤ i
  · simp [hlo, show i - f.lo < f.width ↔ i < f.lo + f.width by omega]
  · simp [hlo]

/-- What an access code makes of a bit of its field that reads `w`, where `v` is stored. -/
def Access.bit (a : Access) (locked sets v w : Bool) : Bool := match a with
  | .ro => if sets then v else w
  | .wo => w
  | .rw | .rws => v
  | .rwl => if locked then w else v
  | .w1c => w && !v

theorem FieldRow.stored_bit (f : FieldRow) (locked sets : Bool) (v w : Word) (i : Nat) (hi : i < 32) :
    (f.stored locked sets v w).getLsbD i =
      if f.holds i then f.acc.bit locked sets (v.getLsbD i) (w.getLsbD i) else w.getLsbD i := by
  have hmask := f.mask_bit i
  rw [decide_eq_true hi, Bool.true_and] at hmask
  have hput (m : Word) (hm : m.getLsbD i = f.holds i) :
      (w &&& ~~~m ||| v &&& m).getLsbD i = if f.holds i then v.getLsbD i else w.getLsbD i := by
    rw [BitVec.getLsbD_or, BitVec.getLsbD_and, BitVec.getLsbD_and, BitVec.getLsbD_not, hm, decide_eq_true hi]
    cases f.holds i <;> simp
  have hclear (m : Word) (hm : m.getLsbD i = f.holds i) :
      (w &&& ~~~(v &&& m)).getLsbD i = if f.holds i then w.getLsbD i && !v.getLsbD i else w.getLsbD i := by
    rw [BitVec.getLsbD_and, BitVec.getLsbD_not, BitVec.getLsbD_and, hm, decide_eq_true hi]
    cases f.holds i <;> simp
  unfold FieldRow.stored Access.bit
  dsimp only
  cases f.acc with
  | ro =>
    cases sets with
    | true => exact hput _ hmask
    | false => exact (ite_self _).symm
  | wo => exact (ite_self _).symm
  | rw => exact hput _ hmask
  | rws => exact hput _ hmask
  | rwl =>
    cases locked with
    | true => exact (ite_self _).symm
    | false => exact hput _ hmask
  | w1c => exact hclear _ hmask

/-- What a store makes of the word of a register: each of its fields by its access code. -/
def storeWord (l : List FieldRow) (locked sets : Bool) (v w : Word) : Word := l.foldl (fun w f => f.stored locked sets v w) w

section word

variable {l : List FieldRow} {f : FieldRow} {locked sets : Bool} {v w : Word} {i : Nat}

theorem FieldRow.holds_iff : f.holds i = true ↔ f.lo ≤ i ∧ i < f.lo + f.width := by
  unfold FieldRow.holds
  simp

theorem FieldRow.not_holds_of_apart {g : FieldRow} (h : f.apart g = true) (hf : f.holds i = true) : g.holds i = false := by
  rw [FieldRow.holds_iff] at hf
  unfold FieldRow.apart at h
  simp only [Bool.or_eq_true, decide_eq_true_eq] at h
  rw [Bool.eq_false_iff, Ne, FieldRow.holds_iff]
  omega

/-- A bit that lies in none of the fields stays. -/
theorem storeWord_outside (hi : i < 32) (h : ∀ f ∈ l, f.holds i = false) : (storeWord l locked sets v w).getLsbD i = w.getLsbD i := by
  induction l generalizing w with
  | nil => rfl
  | cons f l ih =>
    refine (ih (fun g hg => h g (List.mem_cons_of_mem _ hg))).trans ?_
    rw [f.stored_bit _ _ _ _ _ hi, h f List.mem_cons_self]
    rfl

/-- A bit of one of the fields is what the field's access code makes of it. -/
theorem storeWord_inside (hl : fieldsApart l = true) (hf : f ∈ l) (hi : i < 32) (hin : f.holds i = true) :
    (storeWord l locked sets v w).getLsbD i = f.acc.bit locked sets (v.getLsbD i) (w.getLsbD i) := by
  induction l generalizing w with
  | nil => cases hf
  | cons g l ih =>
    simp only [fieldsApart, Bool.and_eq_true, List.all_eq_true] at hl
    obtain ⟨⟨-, hg⟩, hl⟩ := hl
    rcases List.mem_cons.1 hf with rfl | hf
    · refine (storeWord_outside hi (fun x hx => FieldRow.not_holds_of_apart (hg x hx) hin)).trans ?_
      rw [f.stored_bit _ _ _ _ _ hi, if_pos hin]
    · refine (ih hl hf).trans ?_
      have hout : g.holds i = false := by
        rw [Bool.eq_false_iff]
        intro hgi
        rw [FieldRow.not_holds_of_apart (hg f hf) hgi] at hin
        cases hin
      rw [g.stored_bit _ _ _ _ _ hi, hout]
      rfl

theorem fieldsApart_filter (c : FieldRow → Bool) (hl : fieldsApart l = true) : fieldsApart (l.filter c) = true := by
  induction l with
  | nil => rfl
  | cons g l ih =>
    simp only [fieldsApart, Bool.and_eq_true, List.all_eq_true] at hl
    obtain ⟨⟨hfits, hg⟩, hl⟩ := hl
    rw [List.filter_cons]
    split
    · simp only [fieldsApart, Bool.and_eq_true, List.all_eq_true]
      exact ⟨⟨hfits, fun x hx => hg x (List.mem_of_mem_filter hx)⟩, ih hl⟩
    · exact ih hl

theorem fits_of_fieldsApart (hl : fieldsApart l = true) (hf : f ∈ l) : f.lo + f.width ≤ 32 := by
  induction l with
  | nil => cases hf
  | cons g l ih =>
    simp only [fieldsApart, Bool.and_eq_true] at hl
    obtain ⟨⟨hfits, -⟩, hl⟩ := hl
    rcases List.mem_cons.1 hf with rfl | hf
    · exact of_decide_eq_true hfits
    · exact ih hl hf

/-- A bit of a field that has a row of its own lies in none of the others. -/
theorem not_holds_filter {c : FieldRow → Bool} (hl : fieldsApart l = true) (hf : f ∈ l) (hc : c f = false) (hin : f.holds i = true) :
    ∀ g ∈ l.filter c, g.holds i = false := by
  intro g hg
  obtain ⟨hgl, hcg⟩ := List.mem_filter.1 hg
  induction l with
  | nil => cases hf
  | cons x l ih =>
    simp only [fieldsApart, Bool.and_eq_true, List.all_eq_true] at hl
    obtain ⟨⟨-, hx⟩, hl⟩ := hl
    rcases List.mem_cons.1 hf with rfl | hfl
    · rcases List.mem_cons.1 hgl with rfl | hgl
      · rw [hc] at hcg
        cases hcg
      · exact FieldRow.not_holds_of_apart (hx g hgl) hin
    · rcases List.mem_cons.1 hgl with rfl | hgl
      · rw [Bool.eq_false_iff]
        intro hgi
        rw [FieldRow.not_holds_of_apart (hx f hfl) hgi] at hin
        cases hin
      · exact ih hl hfl (List.mem_filter.2 ⟨hgl, hcg⟩) hgl

end word

/-! ### The fields of the registers -/

theorem findRow_mem {l : List RegRow} {a : Nat} {r : RegRow} {ix : List Nat} (h : findRow l a = some (r, ix)) : r ∈ l := by
  induction l with
  | nil => cases h
  | cons x l ih =>
    unfold findRow at h
    split at h
    · cases h
      exact List.mem_cons_self
    · exact List.mem_cons_of_mem _ (ih h)

theorem windowRegs_apart (w : Nat) : ∀ r ∈ windowRegs w, fieldsApart r.fields = true := by
  rcases Nat.lt_or_ge w 15 with h | h
  · have hall : (List.range 15).all (fun w => (windowRegs w).all (fun r => fieldsApart r.fields)) = true := by decide +kernel
    exact List.all_eq_true.1 (List.all_eq_true.1 hall w (List.mem_range.2 h))
  · intro r hr
    unfold windowRegs at hr
    split at hr
    case h_16 => cases hr
    all_goals omega

theorem fieldsApart_of_findReg {r : RegRow} {ix : List Nat} (h : findReg addr = some (r, ix)) : fieldsApart r.fields = true := by
  unfold findReg at h
  split at h
  · cases h
  · split at h
    next hrow =>
      split at h
      · cases h
      · cases h
        exact windowRegs_apart _ _ (findRow_mem hrow)
    next => cases h

/-! ### Stores -/

/-- The word that a store leaves in the register. -/
def State.storedWord (s : State) (who : Who) (r : RegRow) (a : Nat) (v : Word) : Word :=
  storeWord (r.fields.filter (fun f => !ownRow r.id f.lo)) (s.rwlCommitted r.id) (mireSets who a) v (s.regAt a)

theorem State.storeFields_eq (r : RegRow) (v : Word) : s.storeFields who r addr v = s.putReg addr (s.storedWord who r addr v) := rfl

section stored

variable {r : RegRow} {v : Word} (hl : fieldsApart r.fields = true) {f : FieldRow} (hf : f ∈ r.fields)
include hl hf

/-- A field that has a row of its own stays. -/
theorem State.storedWord_own (hown : ownRow r.id f.lo = true) :
    (s.storedWord who r addr v).extractLsb' f.lo f.width = (s.regAt addr).extractLsb' f.lo f.width := by
  have hfits := fits_of_fieldsApart hl hf
  refine BitVec.eq_of_getLsbD_eq fun i hi => ?_
  rw [BitVec.getLsbD_extractLsb', BitVec.getLsbD_extractLsb', State.storedWord,
    storeWord_outside (by omega) (not_holds_filter hl hf (by rw [hown]; rfl) (FieldRow.holds_iff.2 (by omega)))]

/-- Another field is what its access code makes of it. -/
theorem State.storedWord_bit (hown : ownRow r.id f.lo = false) {i : Nat} (hi : i < f.width) :
    (s.storedWord who r addr v).getLsbD (f.lo + i) =
      f.acc.bit (s.rwlCommitted r.id) (mireSets who addr) (v.getLsbD (f.lo + i)) ((s.regAt addr).getLsbD (f.lo + i)) := by
  have hfits := fits_of_fieldsApart hl hf
  exact storeWord_inside (fieldsApart_filter _ hl) (List.mem_filter.2 ⟨hf, by rw [hown]; rfl⟩) (by omega)
    (FieldRow.holds_iff.2 (by omega))

theorem State.storedWord_stored (hown : ownRow r.id f.lo = false) : (s.storedWord who r addr v).extractLsb' f.lo f.width =
    (f.stored (s.rwlCommitted r.id) (mireSets who addr) v (s.regAt addr)).extractLsb' f.lo f.width := by
  have hfits := fits_of_fieldsApart hl hf
  refine BitVec.eq_of_getLsbD_eq fun i hi => ?_
  rw [BitVec.getLsbD_extractLsb', BitVec.getLsbD_extractLsb', State.storedWord_bit hl hf hown hi, f.stored_bit _ _ _ _ _ (by omega),
    if_pos (FieldRow.holds_iff.2 (by omega))]

theorem State.storedWord_rw (hown : ownRow r.id f.lo = false) (hacc : f.acc = .rw ∨ f.acc = .rws) :
    (s.storedWord who r addr v).extractLsb' f.lo f.width = v.extractLsb' f.lo f.width := by
  refine BitVec.eq_of_getLsbD_eq fun i hi => ?_
  rw [BitVec.getLsbD_extractLsb', BitVec.getLsbD_extractLsb', State.storedWord_bit hl hf hown hi]
  rcases hacc with h | h <;> rw [h] <;> rfl

theorem State.storedWord_w1c (hown : ownRow r.id f.lo = false) (hacc : f.acc = .w1c) :
    (s.storedWord who r addr v).extractLsb' f.lo f.width =
    (s.regAt addr).extractLsb' f.lo f.width &&& ~~~(v.extractLsb' f.lo f.width) := by
  refine BitVec.eq_of_getLsbD_eq fun i hi => ?_
  rw [BitVec.getLsbD_extractLsb', State.storedWord_bit hl hf hown hi, BitVec.getLsbD_and, BitVec.getLsbD_not,
    BitVec.getLsbD_extractLsb', BitVec.getLsbD_extractLsb', hacc, decide_eq_true hi]
  rfl

end stored

/-- A store to a register of no row above sets its fields alone. -/
theorem State.acted_of_plain {old : State} {r : RegId} (h : r ∉ actsOnStore) (ix : List Nat) (v : Word) : s.acted old r ix v = s := by
  unfold State.acted
  split
  case h_17 => rfl
  all_goals exact absurd (by decide) h

theorem State.acted_bus {old : State} (r : RegId) (ix : List Nat) (v : Word) : (s.acted old r ix v).bus = s.bus :=
  (State.acted_frame (fun _ hp => hp) (fun _ hr => hr) (Frame.refl _ _ s)).same .bus (by decide)

theorem State.loadAct_of_plain {r : RegRow} (h : r.id ∉ actsOnLoad) (ix : List Nat) :
    s.loadAct who r ix addr = s.answer (r.shown (s.regAt addr)).toNat := by
  unfold State.loadAct
  split
  case h_17 => rfl
  all_goals
    next hid =>
      rw [hid] at h
      exact absurd (by decide) h

section exec

variable {r : RegRow} {ix : List Nat} {v : Word} (haddr : addr % 4 = 0) (hrow : findReg addr = some (r, ix)) (hclock : s.gated addr = false)
include haddr hrow hclock

theorem exec_store_turned {u : State} (hmay : who = .mire ∨ fenMayStore addr = true)
    (h : s.ack.turnedAway (decide (who ≠ .mire)) r.id ix v = some u) : exec (.registerWrite who addr 4 (some v)) s = .next u := by
  refine congrArg Host.Outcome.next ((State.reach_register hmay haddr hrow hclock).trans ?_)
  rw [h]

theorem exec_store (hmay : who = .mire ∨ fenMayStore addr = true) (h : s.ack.turnedAway (decide (who ≠ .mire)) r.id ix v = none) :
    exec (.registerWrite who addr 4 (some v)) s =
      .next ((s.ack.putReg addr (s.ack.storedWord who r addr v)).acted s.ack r.id ix v) := by
  refine congrArg Host.Outcome.next ((State.reach_register hmay haddr hrow hclock).trans ?_)
  rw [h, State.storeFields_eq]

theorem exec_load (hmay : who = .mire ∨ fenMayLoad addr = true) (h : r.id ∉ actsOnLoad) :
    exec (.registerWrite who addr 4 none) s = .next (s.ack.answer (r.shown (s.regAt addr)).toNat) :=
  congrArg Host.Outcome.next ((State.reach_register hmay haddr hrow hclock).trans (State.loadAct_of_plain h ix))

end exec

/-! ### Two registers that are loaded -/

/-- The row of SLU_SCRB_LEN (R391). -/
def scrbLenRow : RegRow := ⟨.SLU_SCRB_LEN, 0x4100_0820, [], [⟨0, 28, .rws, 0x0, false⟩]⟩

theorem findReg_scrbLen : findReg 0x4100_0820 = some (scrbLenRow, []) := by decide +kernel

theorem scrbLen_shown : (scrbLenRow.shown (s.regAt 0x4100_0820)).toNat = s.get .SLU_SCRB_LEN_BLOCKS := by
  change (0#32 ||| (s.regAt 0x4100_0820 &&& 0xFFF_FFFF#32)).toNat = (s.regAt 0x4100_0820 >>> 0).toNat % 2 ^ 28
  rw [BitVec.zero_or, BitVec.toNat_and, BitVec.ushiftRight_zero]
  exact Nat.and_two_pow_sub_one_eq_mod _ 28

/-- The row of SLU_KEY_DATA, of which nothing is shown (R330). -/
def keyDataRow : RegRow := ⟨.SLU_KEY_DATA, 0x4100_0440, [(0x4, 16, 0)], [⟨0, 32, .wo, 0x0, false⟩]⟩

theorem findReg_keyData : findReg 0x4100_0440 = some (keyDataRow, [0]) := by decide +kernel

/-- Settles O55. -/
theorem registersAreAccessed : Obligations.RegistersAreAccessed := by
  unfold Obligations.RegistersAreAccessed
  refine ⟨fun s core addr width value hcore hmay => ?_, fun s core addr width hcore hmay => ?_, fun s who addr width value hmay hbad => ?_,
    fun s who addr r ix value hmay haddr hrow hclock hkept hplain => ?_, fun s who addr r ix value u hmay haddr hrow hclock hturned => ?_,
    fun s who addr r ix value hmay haddr hrow hclock hkept hacts => ?_, fun s who addr r ix hmay haddr hrow hclock hplain => ?_,
    fun s who hclock => ?_, fun s hclock => ?_⟩
  · refine completes_of ?_ ⟨State.denied_bus core,
    State.denied_latched core⟩ (State.denied_frame (parts_in rfl) (fun _ hr => hr) (Frame.refl _ _ s))
    exact congrArg Host.Outcome.next (State.reach_denied hmay)
  · refine completes_of ?_ ⟨State.denied_bus core,
    State.denied_latched core⟩ (State.denied_frame (parts_in rfl) (fun _ hr => hr) (Frame.refl _ _ s))
    exact congrArg Host.Outcome.next (State.reach_denied hmay)
  · refine completes_of (t := s.busErr) ?_ ⟨rfl, rfl⟩ (State.busErr_frame (fun _ hp => hp) (Frame.refl _ _ s))
    cases value with
    | none => exact congrArg Host.Outcome.next (State.reach_busErr hmay hbad)
    | some v => exact congrArg Host.Outcome.next (State.reach_busErr hmay hbad)
  · have hl := fieldsApart_of_findReg hrow
    have hexec := exec_store haddr hrow hclock hmay hkept
    rw [State.acted_of_plain hplain] at hexec
    refine completes_of hexec ⟨by rw [State.regAt_putReg_self], fun f hf => ?_, fun f hf hown => ?_,
      fun f hf hown => ⟨fun hacc => ?_, fun hacc => ?_⟩⟩
      (State.putReg_frame (cov_all (fun _ hr => hr) (by decide)) (State.ack_frame (fun _ hp => hp) (Frame.refl _ _ s)))
    · rw [State.regAt_putReg_self]
      cases hown : ownRow r.id f.lo with
      | true => exact .inr rfl
      | false => exact .inl (State.storedWord_stored hl hf hown)
    · rw [State.regAt_putReg_self]
      exact State.storedWord_own hl hf hown
    · rw [State.regAt_putReg_self]
      exact State.storedWord_rw hl hf hown hacc
    · rw [State.regAt_putReg_self]
      exact State.storedWord_w1c hl hf hown hacc
  · exact completes_of_outFrame (c := .registerWrite who addr 4 (some value)) (execRegisterWrite_frame (who := who) (addr := addr) (width := 4) (value := some value)
      (parts_in rfl) regsIn_all (cov_all (A := [.all]) regsIn_all rfl)) (exec_store_turned haddr hrow hclock hmay hturned) (fun _ => rfl)
  · exact completes_of_outFrame (c := .registerWrite who addr 4 (some value)) (execRegisterWrite_frame (who := who) (addr := addr) (width := 4) (value := some value)
      (parts_in rfl) regsIn_all (cov_all (A := [.all]) regsIn_all rfl)) (exec_store haddr hrow hclock hmay hkept) (fun _ => State.acted_bus _ _ _)
  · exact completes_of (exec_load haddr hrow hclock hmay hplain) ⟨rfl, rfl⟩
      (State.answer_frame (fun _ hp => hp) (State.ack_frame (fun _ hp => hp) (Frame.refl _ _ s)))
  · rw [← scrbLen_shown]
    exact completes_of (exec_load (by decide) findReg_scrbLen hclock (.inr (by decide)) (by decide)) rfl
      (State.answer_frame (fun _ hp => hp) (State.ack_frame (fun _ hp => hp) (Frame.refl _ _ s)))
  · exact completes_of (exec_load (by decide) findReg_keyData hclock (.inl rfl) (by decide)) rfl
      (State.answer_frame (fun _ hp => hp) (State.ack_frame (fun _ hp => hp) (Frame.refl _ _ s)))

end Sys2Proof.Machine
end

section
set_option Elab.async false
/-! REQUESTS ARE TAKEN (09, 10). A doorbell rings, acknowledges or cancels a pair, Aqsia takes the request that can be taken first,
  and a session is
opened, pinged, closed or timed out (R205, R206, R207, R212 to R218, R223, R232, R242). -/

namespace Sys2Proof.Machine

variable {s t : State} {who : Who} {p status : Nat} {started : Bool} {payload : List Byte} {f : State → State}

/-! ### Doorbells (R206, R213, R215, R217) -/

theorem State.doorbell_permitted (h : who = .mire ∨ p < 48) : s.doorbell who p f = f s.ack := by
  cases who with
  | mire => rfl
  | fen core => exact if_pos (h.resolve_left (by simp))

theorem State.doorbell_denied {core : Nat} (h : 48 ≤ p) : s.doorbell (.fen core) p f = s.denied core := if_neg (by omega)

/-- What a doorbell that is denied leaves. -/
theorem State.denied_pair (core : Nat) : (s.denied core).bus = .busError ∧ (s.denied core).latched 0x0101 core = true ∧
    (s.denied core).aq = s.aq ∧ (s.denied core).mbx p = s.mbx p := by
  have hframe : Frame [.bus, .mireIrq, .fenIrq, .seqs, .chans, .stg, .lev, .peat] (alarmRegs ++ haltRegs) s (s.denied core) :=
    State.denied_frame (fun _ hp => hp) (fun _ hr => hr) (Frame.refl _ _ s)
  exact ⟨State.denied_bus core, State.denied_latched core, hframe.same .aq (by decide),
    hframe.get (apart_mod (n := 64) .MBX_STAT_STATE (by decide) (by simp) (by decide +kernel) p)⟩

/-- The command, the tag and the generation of the request latched. -/
def State.latchHeader (s : State) (p : Nat) : State :=
  ((s.set (.MBX_LATCH_CMD p) (s.req p 0 2)).set (.MBX_LATCH_TAG p) (s.req p 2 2)).set (.MBX_LATCH_GEN_GEN p) (s.req p 8 4)

theorem State.latchHeader_req (off len : Nat) : (s.latchHeader p).req p off len = s.req p off len := by
  refine congrArg leNat (State.reqBytes_congr (fun w => ?_) off len)
  unfold State.latchHeader
  simp (disch := (dsimp only; omega)) only [State.get_set_other]

theorem State.latchHeader_get : (s.latchHeader p).get (.MBX_LATCH_CMD p) = s.req p 0 2 ∧
    (s.latchHeader p).get (.MBX_LATCH_TAG p) = s.req p 2 2 ∧ (s.latchHeader p).get (.MBX_LATCH_GEN_GEN p) = s.req p 8 4 := by
  unfold State.latchHeader
  refine ⟨?_, ?_, ?_⟩
  · simp (disch := (dsimp only; omega)) only [State.get_set_other, State.get_set_self]
    exact Nat.mod_eq_of_lt (s.req_lt p 0 2)
  · simp (disch := (dsimp only; omega)) only [State.get_set_other, State.get_set_self]
    exact Nat.mod_eq_of_lt (s.req_lt p 2 2)
  · simp (disch := (dsimp only; omega)) only [State.get_set_self]
    exact Nat.mod_eq_of_lt (s.req_lt p 8 4)

/-- What a pair shows of the request that rings. -/
def State.showRequest (s : State) (p : Nat) : State :=
  (((s.set (.MBX_STAT_SESSION p) (s.req p 12 1)).set (.MBX_STAT_STARTED p) 0).set (.MBX_STAT_CANCEL_REQ p) 0).set (.MBX_STAT_STATE p) 1

theorem State.showRequest_get : (s.showRequest p).mbx p = 1 ∧ (s.showRequest p).get (.MBX_STAT_SESSION p) = s.req p 12 1 ∧
    (s.showRequest p).get (.MBX_STAT_STARTED p) = 0 ∧ (s.showRequest p).get (.MBX_STAT_CANCEL_REQ p) = 0 := by
  unfold State.showRequest State.mbx
  refine ⟨?_, ?_, ?_, ?_⟩
  · exact State.get_set_self _ _ _ (by simp)
  · simp (disch := (dsimp only; omega)) only [State.get_set_other, State.get_set_self]
    exact Nat.mod_eq_of_lt (s.req_lt p 12 1)
  · simp (disch := (dsimp only; omega)) only [State.get_set_other, State.get_set_self, Nat.zero_mod]
  · simp (disch := (dsimp only; omega)) only [State.get_set_other, State.get_set_self, Nat.zero_mod]

theorem State.showRequest_other {g : Fld} (h : g.addr ≠ (Fld.MBX_STAT_STATE p).addr) : (s.showRequest p).get g = s.get g := by
  unfold State.showRequest
  rw [State.get_set_other (f := .MBX_STAT_STATE p) _ _ (.inl h), State.get_set_other (f := .MBX_STAT_CANCEL_REQ p) _ _ (.inl h),
    State.get_set_other (f := .MBX_STAT_STARTED p) _ _ (.inl h), State.get_set_other (f := .MBX_STAT_SESSION p) _ _ (.inl h)]

/-- The request of a pair put into the queue. -/
def State.enqueue (s : State) (p : Nat) : State :=
  s.updAq (fun a => { a with ring := a.ring ++ [p], atReset := a.atReset.filter (· ≠ p) })

theorem State.ring_of_idle (h : s.mbx p = 0) : s.ring p = ((s.latchHeader p).showRequest p).enqueue p := by
  unfold State.ring
  rw [if_pos h]
  rfl

theorem State.ring_of_busy (h : s.mbx p ≠ 0) : s.ring p = s.set (.MBX_STAT_DB_ERR p) 1 := if_neg h

theorem State.ring_latches (h : s.mbx p = 0) : (s.ring p).mbx p = 1 ∧ (s.ring p).get (.MBX_LATCH_CMD p) = s.req p 0 2 ∧
    (s.ring p).get (.MBX_LATCH_TAG p) = s.req p 2 2 ∧ (s.ring p).mbxKey p = (s.req p 12 1, s.req p 8 4) ∧
    (s.ring p).get (.MBX_STAT_STARTED p) = 0 ∧ (s.ring p).get (.MBX_STAT_CANCEL_REQ p) = 0 ∧ (s.ring p).aq.ring = s.aq.ring ++ [p] ∧
    (s.ring p).bus = s.bus := by
  rw [State.ring_of_idle h]
  obtain ⟨hcmd, htag, hgen⟩ := State.latchHeader_get (s := s) (p := p)
  obtain ⟨hmbx, hsession, hstarted, hcancel⟩ := State.showRequest_get (s := s.latchHeader p) (p := p)
  have hget (g : Fld) : (((s.latchHeader p).showRequest p).enqueue p).get g = ((s.latchHeader p).showRequest p).get g :=
    State.get_of_regs (State.updAq_regs _ _) g
  refine ⟨(hget _).trans hmbx, ?_, ?_, Prod.ext ?_ ?_, (hget _).trans hstarted, (hget _).trans hcancel, rfl, rfl⟩
  · rw [hget, State.showRequest_other (by dsimp only; omega), hcmd]
  · rw [hget, State.showRequest_other (by dsimp only; omega), htag]
  · change State.get _ _ = _
    rw [hget, hsession, State.latchHeader_req]
  · change State.get _ _ = _
    rw [hget, State.showRequest_other (by dsimp only; omega), hgen]

/-- A pair whose doorbell is turned away shows it, and keeps its state. -/
theorem State.dbErr_shows : (s.set (.MBX_STAT_DB_ERR p) 1).mbx p = s.mbx p ∧ (s.set (.MBX_STAT_DB_ERR p) 1).get (.MBX_STAT_DB_ERR p) = 1 :=
  ⟨State.get_set_other _ _ (.inr (.inr (by dsimp only; omega))), State.get_set_self _ _ _ (by simp)⟩

theorem State.doneBit_clear : (s.doneBit p false).get (.MBX_DONE_DONE (p / 32)) / 2 ^ (p % 32) % 2 = 0 := by
  have hk : p % 32 < 32 := Nat.mod_lt _ (by decide)
  have hput := putBit_self (b := 0) hk (show s.get (.MBX_DONE_DONE (p / 32)) < 2 ^ 32 from State.get_lt s (.MBX_DONE_DONE (p / 32))) (by decide)
  rw [Nat.zero_mul] at hput
  unfold State.doneBit
  dsimp only
  rw [State.get_set_self _ _ _ (by simp), if_neg Bool.false_ne_true]
  exact (congrArg (fun v => v / 2 ^ (p % 32) % 2) (Nat.mod_eq_of_lt hput.1)).trans hput.2

theorem State.ackPair_of_done (h : s.mbx p = 3) : s.ackPair p = (s.set (.MBX_STAT_STATE p) 0).doneBit p false := if_pos h

theorem State.ackPair_of_other (h : s.mbx p ≠ 3) : s.ackPair p = s.set (.MBX_STAT_DB_ERR p) 1 := if_neg h

theorem State.ackPair_frees (h : s.mbx p = 3) : (s.ackPair p).mbx p = 0 ∧
    (s.ackPair p).get (.MBX_DONE_DONE (p / 32)) / 2 ^ (p % 32) % 2 = 0 := by
  rw [State.ackPair_of_done h]
  refine ⟨?_, State.doneBit_clear⟩
  exact (State.doneBit_other (by dsimp only; omega)).trans (State.get_set_self _ _ _ (by simp))

theorem State.ackPair_acks (h : s.mbx p = 3) : (s.ackPair p).mbx p = 0 ∧
    (s.ackPair p).get (.MBX_DONE_DONE (p / 32)) / 2 ^ (p % 32) % 2 = 0 ∧ (s.ackPair p).aq = s.aq ∧ (s.ackPair p).bus = s.bus := by
  obtain ⟨hmbx, hdone⟩ := State.ackPair_frees h
  refine ⟨hmbx, hdone, ?_, ?_⟩
  · rw [State.ackPair_of_done h]
    rfl
  · rw [State.ackPair_of_done h]
    rfl

theorem State.cancelPair_of_running (h : s.mbx p = 2) : s.cancelPair p = s.set (.MBX_STAT_CANCEL_REQ p) 1 := by
  unfold State.cancelPair
  split
  next h' => rw [h'] at h; cases h
  next => rfl
  next h' => exact absurd h h'

theorem State.cancelPair_of_pending (h : s.mbx p = 1) : s.cancelPair p = if s.aqsiaActs then s.respond p 0x40 false
    else s.updAq (fun a => { a with toCancel := p :: a.toCancel.filter (· ≠ p) }) := by
  unfold State.cancelPair
  split
  next => rfl
  next h' => rw [h'] at h; cases h
  next h' _ => exact absurd h h'

theorem State.cancelPair_of_other (h1 : s.mbx p ≠ 1) (h2 : s.mbx p ≠ 2) : s.cancelPair p = s := by
  unfold State.cancelPair
  split
  next h => exact absurd h h1
  next h => exact absurd h h2
  next => rfl

/-! ### The request that is taken (R212 to R216, R218) -/

/-- The statuses of a request that is refused. -/
theorem State.requestCheck_lt (h : s.requestCheck p = some status) : status < 2 ^ 16 := by
  unfold State.requestCheck at h
  dsimp only at h
  repeat' split at h
  all_goals cases h
  all_goals decide

theorem State.precondition_lt {emf : Nat} (h : s.precondition p emf = some status) : status < 2 ^ 16 := by
  unfold State.precondition at h
  dsimp only at h
  repeat' split at h
  all_goals cases h
  all_goals decide

theorem State.useUp_regs : (s.useUp p).regs = s.regs := by
  unfold State.useUp
  dsimp only
  rw [State.when_keeps (fun t => t.regs) rfl, State.when_keeps (fun t => t.regs) rfl]

/-- A request that is refused, with what it uses up, is answered. -/
theorem State.refused_answered (hregs : t.regs = s.regs) (hstatus : status < 2 ^ 16) :
    Answered s (t.respond p status false []) p status false [] := State.respond_answered (State.SameBox.of_regs hregs) hstatus

/-- The record of a request that a power failure ends leaves its answer. -/
theorem State.aborted_answered : Answered s ((s.respond p 0x51 false []).abortRecord [p]) p 0x51 false [] := by
  have hframe : Frame [.mireIrq, .fenIrq, .seqs, .chans, .stg, .lev, .peat] (alarmRegs ++ haltRegs) (s.respond p 0x51 false [])
      ((s.respond p 0x51 false []).abortRecord [p]) := State.abortRecord_frame (fun _ hp => hp) (fun _ hr => hr) (Frame.refl _ _ _)
  exact hframe.answered (by decide +kernel) (hframe.same .aq (by decide)) (State.respond_answers (by decide))

section take

variable {emf : Nat} (hpending : s.mbx p = 1)
include hpending

theorem State.take_cancelled (h : p ∈ s.aq.toCancel) : s.take p emf = s.respond p 0x40 false [] := by
  unfold State.take
  rw [if_neg (not_not_intro hpending), if_pos h]

variable (hkept : p ∉ s.aq.toCancel)
include hkept

theorem State.take_committed (h : s.committed = true) : s.take p emf = (s.respond p 0x51 false []).abortRecord [p] := by
  unfold State.take
  rw [if_neg (not_not_intro hpending), if_neg hkept, if_pos h]

variable (hopen : s.committed = false)
include hopen

theorem State.take_refused (h : s.requestCheck p = some status) :
    s.take p emf = (s.when (status != 0x20 && status != 0x21) (fun s => s.useUp p)).respond p status false [] := by
  unfold State.take
  rw [if_neg (not_not_intro hpending), if_neg hkept, if_neg (ne_true_of_eq_false hopen), h]

variable (hcheck : s.requestCheck p = none)
include hcheck

theorem State.take_clashing (h : clash (s.claimsOf p) s.claimed = true) : s.take p emf = (s.useUp p).respond p 0x31 false [] := by
  unfold State.take
  rw [if_neg (not_not_intro hpending), if_neg hkept, if_neg (ne_true_of_eq_false hopen), hcheck]
  exact if_pos h

variable (hclear : clash (s.claimsOf p) s.claimed = false)
include hclear

theorem State.take_unmet (h : s.precondition p emf = some status) : s.take p emf = (s.useUp p).respond p status false [] := by
  unfold State.take
  rw [if_neg (not_not_intro hpending), if_neg hkept, if_neg (ne_true_of_eq_false hopen), hcheck]
  dsimp only
  rw [if_neg (ne_true_of_eq_false hclear), h]

end take

/-- The request that starts. -/
def State.startRequest (s : State) (p : Nat) (c : List Claim) (r : CmdRun) : State :=
  ((s.set (.MBX_STAT_STATE p) 2).set (.MBX_STAT_STARTED p) 1).updAq (fun a => { a with
    ring := a.ring.filter (· ≠ p), running := a.running ++ [(p, c)], runs := a.runs.put p r })

theorem State.take_met {emf : Nat} (hpending : s.mbx p = 1) (hkept : p ∉ s.aq.toCancel) (hopen : s.committed = false)
    (hcheck : s.requestCheck p = none) (hclear : clash (s.claimsOf p) s.claimed = false) (h : s.precondition p emf = none) :
    s.take p emf = (s.when (signedCode (s.mbxCmd p)) (fun s => s.useUp p)).startRequest p (s.claimsOf p)
      { challenge := if signedCode (s.mbxCmd p) then s.challengeOf p else none } := by
  unfold State.take
  rw [if_neg (not_not_intro hpending), if_neg hkept, if_neg (ne_true_of_eq_false hopen), hcheck]
  dsimp only
  rw [if_neg (ne_true_of_eq_false hclear), h]
  rfl

theorem State.startRequest_starts {c : List Claim} {r : CmdRun} : (s.startRequest p c r).mbx p = 2 ∧
    (s.startRequest p c r).get (.MBX_STAT_STARTED p) = 1 ∧ (s.startRequest p c r).aq.ring = s.aq.ring.filter (· ≠ p) ∧
    (s.startRequest p c r).aq.running = s.aq.running ++ [(p, c)] ∧ (s.startRequest p c r).aq.runs.at p = r ∧
    (s.startRequest p c r).aq.sessions = s.aq.sessions := by
  have hget (g : Fld) : (s.startRequest p c r).get g = ((s.set (.MBX_STAT_STATE p) 2).set (.MBX_STAT_STARTED p) 1).get g :=
    State.get_of_regs (State.updAq_regs _ _) g
  refine ⟨?_, ?_, rfl, rfl, Tab.at_put_self _ _ _, rfl⟩
  · rw [State.mbx, hget, State.get_set_other _ _ (.inr (.inr (by dsimp only; omega)))]
    exact State.get_set_self _ _ _ (by simp)
  · rw [hget]
    exact State.get_set_self _ _ _ (by simp)

theorem State.useUp_queues : (s.useUp p).aq.ring = s.aq.ring ∧ (s.useUp p).aq.running = s.aq.running := by
  unfold State.useUp
  dsimp only
  exact ⟨(State.when_keeps (fun t => t.aq.ring) rfl).trans (State.when_keeps (fun t => t.aq.ring) rfl),
    (State.when_keeps (fun t => t.aq.running) rfl).trans (State.when_keeps (fun t => t.aq.running) rfl)⟩

/-- A signed command uses up the challenge of its session. -/
theorem State.useUp_challenge (h : signedCode (s.mbxCmd p) = true) :
    ∀ x ∈ (s.useUp p).aq.sessions, x.key = s.mbxKey p → x.challenge = none := by
  have hsessions : (s.useUp p).aq.sessions = s.aq.sessions.map (fun x => if x.key = s.mbxKey p then { x with challenge := none } else x) := by
    unfold State.useUp
    dsimp only
    rw [h, State.when_keeps (fun t => t.aq.sessions) rfl]
    rfl
  rw [hsessions]
  intro x hx hkey
  obtain ⟨y, -, rfl⟩ := List.mem_map.1 hx
  by_cases hy : y.key = s.mbxKey p
  · rw [if_pos hy]
  · rw [if_neg hy] at hkey
    exact absurd hkey hy

/-- What a request that is taken leaves. -/
theorem State.taken_starts :
    let u := (s.when (signedCode (s.mbxCmd p)) (fun s => s.useUp p)).startRequest p (s.claimsOf p)
      { challenge := if signedCode (s.mbxCmd p) then s.challengeOf p else none }
    u.mbx p = 2 ∧ u.get (.MBX_STAT_STARTED p) = 1 ∧ u.aq.ring = s.aq.ring.filter (fun q => q ≠ p) ∧
      u.aq.running = s.aq.running ++ [(p, s.claimsOf p)] ∧
      u.aq.runs.at p = { challenge := if s.mbxCmd p == 0x0705 || s.mbxCmd p == 0x0B05 then s.challengeOf p else none } ∧
      ((s.mbxCmd p = 0x0705 ∨ s.mbxCmd p = 0x0B05) → ∀ x ∈ u.aq.sessions, x.key = s.mbxKey p → x.challenge = none) := by
  intro u
  obtain ⟨hmbx, hstarted, hring, hrunning, hrun, hsessions⟩ := State.startRequest_starts
    (s := s.when (signedCode (s.mbxCmd p)) (fun s => s.useUp p)) (p := p) (c := s.claimsOf p)
    (r := { challenge := if signedCode (s.mbxCmd p) then s.challengeOf p else none })
  refine ⟨hmbx, hstarted, hring.trans ?_, hrunning.trans ?_, hrun, fun hcmd => ?_⟩
  · rw [State.when_keeps (fun t => t.aq.ring) State.useUp_queues.1]
  · rw [State.when_keeps (fun t => t.aq.running) State.useUp_queues.2]
  · have hsigned : signedCode (s.mbxCmd p) = true := by
      unfold signedCode
      rcases hcmd with h | h <;> rw [h] <;> rfl
    rw [hsessions, hsigned]
    exact State.useUp_challenge hsigned

/-! ### The end of a session (R207, R212) -/

theorem State.answerClosed_none {key : Nat × Nat} {l : List Nat} (h : ∀ q ∈ l, (s.mbxKey q == key && s.mbxCmd q != 0x0101) = false) :
    s.answerClosed key l = s := by
  induction l with
  | nil => rfl
  | cons q l ih =>
    unfold State.answerClosed
    rw [h q List.mem_cons_self]
    exact ih (fun r hr => h r (List.mem_cons_of_mem _ hr))

/-- The session gone from those that are open. -/
def State.dropSession (s : State) (x : Session) : State := s.updAq (fun a => { a with sessions := a.sessions.filter (fun y => y.id ≠ x.id) })

theorem State.dropSession_get (x : Session) (g : Fld) : (s.dropSession x).get g = s.get g := State.get_of_regs (State.updAq_regs _ _) g

/-- Where no request of the session waits, its end answers none. -/
theorem State.closeSession_quiet {x : Session} (h : ∀ q ∈ s.aq.ring, (s.mbxKey q == x.key && s.mbxCmd q != 0x0101) = false) :
    s.closeSession x = (s.dropSession x).when (!s.sessionBusy x.key) (fun s => s.releaseOwned x.key) := by
  have hanswer : (s.dropSession x).answerClosed x.key s.aq.ring = s.dropSession x := State.answerClosed_none h
  unfold State.closeSession
  dsimp only
  rw [show s.updAq (fun a => { a with sessions := a.sessions.filter (fun y => y.id ≠ x.id) }) = s.dropSession x from rfl,
    show (s.dropSession x).aq.ring = s.aq.ring from rfl, hanswer]
  rfl

/-- The sessions and the queues of Aqsia past the end of a session, where no request of it waits. -/
theorem State.closeSession_unowned {x : Session} (h : ∀ q ∈ s.aq.ring, (s.mbxKey q == x.key && s.mbxCmd q != 0x0101) = false) :
    (s.closeSession x).aq.unowned = (s.dropSession x).aq.unowned := by
  rw [State.closeSession_quiet h]
  exact State.when_keeps (fun t => t.aq.unowned) (State.releaseOwned_unowned _)


/-! ### The answer to another pair -/

theorem State.respond_mbxKey {q : Nat} : (s.respond p status started payload).mbxKey q = s.mbxKey q :=
  ((State.respond_within p status started payload).sameBox (by decide +kernel) q).key

/-- An answer to a pair writes the registers of the pair and DONE. -/
theorem State.writeRsp_get {session gen : Nat} {g : Fld}
    (h : g.addr < 0x4501_0000 + 0x400 * (p % 64) ∨ 0x4501_0400 + 0x400 * (p % 64) ≤ g.addr) (hdone : g.addr ≠ (Fld.MBX_DONE_DONE (p / 32)).addr) :
    (s.writeRsp p status started session gen payload).get g = s.get g := by
  unfold State.writeRsp State.setIf
  extract_lets hd s1 s2
  have hput (bs : List Byte) : (s.putRsp p bs).get g = s.get g :=
    State.forN_keeps (fun t => t.get g) (fun w t => State.get_set_other t _ (.inl (by dsimp only; omega))) 64
  have h1 : s1.get g = s.get g := by
    unfold s1
    rw [State.get_set_other _ _ (.inl (by dsimp only; omega)), State.get_set_other _ _ (.inl (by dsimp only; omega)), hput]
  clear_value s1
  have h2 : s2.get g = s1.get g := by
    unfold s2
    rw [State.doneBit_other hdone, State.get_set_other _ _ (.inl (by dsimp only; omega)),
      State.get_set_other _ _ (.inl (by dsimp only; omega))]
  clear_value s2
  have hirq : (s2.when (s2.is (.MBX_CTRL_IRQ_EN p) && decide (p < 48)) (fun s => s.irqFen (s.get (.MBX_CTRL_CORE p)) (.mailbox p))).get g =
      s2.get g := State.when_get (State.irqFen_get _ _ _ _)
  rw [hirq, h2, h1]

/-- The bit of another pair of a register of DONE. -/
theorem State.doneBit_otherBit {q : Nat} (h : q / 32 = p / 32) (hne : q % 32 ≠ p % 32) :
    (s.doneBit p true).get (.MBX_DONE_DONE (q / 32)) / 2 ^ (q % 32) % 2 = s.get (.MBX_DONE_DONE (q / 32)) / 2 ^ (q % 32) % 2 := by
  have hput := putBit_self (b := 1) (Nat.mod_lt p (show 0 < 32 by decide))
    (show s.get (.MBX_DONE_DONE (p / 32)) < 2 ^ 32 from State.get_lt s (.MBX_DONE_DONE (p / 32))) (by decide)
  have hother := putBit_other (f := s.get (.MBX_DONE_DONE (p / 32))) (b := 1) hne (by decide)
  rw [Nat.one_mul] at hput hother
  unfold State.doneBit
  dsimp only
  rw [h, State.get_set_self _ _ _ (by simp), if_pos rfl, Nat.mod_eq_of_lt hput.1]
  exact hother

theorem State.writeRsp_done {session gen q : Nat} (hp : p < 64) (hq : q < 64) (hne : p ≠ q) :
    (s.writeRsp p status started session gen payload).get (.MBX_DONE_DONE (q / 32)) / 2 ^ (q % 32) % 2 =
      s.get (.MBX_DONE_DONE (q / 32)) / 2 ^ (q % 32) % 2 := by
  by_cases hreg : q / 32 = p / 32
  · unfold State.writeRsp State.setIf
    extract_lets hd s1 s2
    have hput (bs : List Byte) : (s.putRsp p bs).get (.MBX_DONE_DONE (q / 32)) = s.get (.MBX_DONE_DONE (q / 32)) :=
      State.forN_keeps (fun t => t.get (.MBX_DONE_DONE (q / 32))) (fun w t => State.get_set_other t _ (.inl (by dsimp only; omega))) 64
    have h1 : s1.get (.MBX_DONE_DONE (q / 32)) = s.get (.MBX_DONE_DONE (q / 32)) := by
      unfold s1
      rw [State.get_set_other _ _ (.inl (by dsimp only; omega)), State.get_set_other _ _ (.inl (by dsimp only; omega)), hput]
    clear_value s1
    have h2 : s2.get (.MBX_DONE_DONE (q / 32)) / 2 ^ (q % 32) % 2 = s1.get (.MBX_DONE_DONE (q / 32)) / 2 ^ (q % 32) % 2 := by
      unfold s2
      rw [State.doneBit_otherBit hreg (by omega), State.get_set_other _ _ (.inl (by dsimp only; omega)),
        State.get_set_other _ _ (.inl (by dsimp only; omega))]
    clear_value s2
    have hirq : (s2.when (s2.is (.MBX_CTRL_IRQ_EN p) && decide (p < 48)) (fun s => s.irqFen (s.get (.MBX_CTRL_CORE p)) (.mailbox p))).get
        (.MBX_DONE_DONE (q / 32)) = s2.get (.MBX_DONE_DONE (q / 32)) := State.when_get (State.irqFen_get _ _ _ _)
    rw [hirq, h2, h1]
  · rw [State.writeRsp_get (by dsimp only; omega) (by dsimp only; omega)]

/-- The answer to one pair leaves the answer to another. -/
theorem AnsweredTo.respond {key : Nat × Nat} {q st : Nat} {b : Bool} {bs : List Byte} (h : AnsweredTo key s t q st b bs) (hp : p < 64)
    (hq : q < 64) (hne : p ≠ q) : AnsweredTo key s (t.respond p status started payload) q st b bs := by
  obtain ⟨hmbx, hstatus, hstarted, hdone, hdata, hring, hrunning⟩ := h
  have hkept {g : Fld} (hg : ([.fld .PEAT_STATUS_STAMP_WAIT, .fld .PEAT_STATUS_HELD, .fld .PEAT_STATUS_USED, .fld .PEAT_FRZ_AREA,
      .fld .DYKE_SLOT_INACTIVE] : List Regs).all (fun r => r.apartB g) = true)
      (hpair : 0x4501_0000 + 0x400 * (q % 64) ≤ g.addr ∧ g.addr < 0x4501_0400 + 0x400 * (q % 64)) :
      (t.respond p status started payload).get g = t.get g :=
    (State.dropRequest_get hg).trans (State.writeRsp_get (by omega) (by dsimp only; omega))
  have haq := State.respond_unowned (s := t) (p := p) (status := status) (started := started) (payload := payload)
  refine ⟨(hkept (apart_mod (n := 64) .MBX_STAT_STATE (by decide) (by simp) (by decide +kernel) q) (by dsimp only; omega)).trans hmbx,
    (hkept (apart_mod (n := 64) .MBX_LATCH_RSP_STATUS (by decide) (by simp) (by decide +kernel) q) (by dsimp only; omega)).trans hstatus,
    (hkept (apart_mod (n := 64) .MBX_STAT_STARTED (by decide) (by simp) (by decide +kernel) q) (by dsimp only; omega)).trans hstarted,
      ?_,
    fun w hw => (hkept (apart_mod_mod (n := 64) (m := 64) .MBX_RSP_DATA (by decide) (by decide) (by simp) (by decide +kernel) q w)
      (by dsimp only; omega)).trans (hdata w hw), ?_, ?_⟩
  · unfold State.respond
    rw [State.dropRequest_get (apart_mod (n := 2) .MBX_DONE_DONE (by decide) (by simp) (by decide +kernel) _),
      State.writeRsp_done hp hq hne]
    exact hdone
  · rw [show (t.respond p status started payload).aq.ring = t.aq.ring.filter (· ≠ p) from congrArg Aqsia.ring haq]
    exact fun hmem => hring (List.mem_of_mem_filter hmem)
  · rw [show (t.respond p status started payload).aq.running = t.aq.running.filter (fun e => e.1 ≠ p) from congrArg Aqsia.running haq,
    List.all_eq_true]
    exact fun e he => List.all_eq_true.1 hrunning e (List.mem_of_mem_filter he)

theorem State.session_mem {id : Nat} {x : Session} (h : s.session id = some x) : x.id = id := by
  have hid := List.find?_some h
  exact of_decide_eq_true hid

/-- An end of its session answers the one request of it that waits. -/
theorem State.closeSession_waiting {q : Nat} {x : Session} (hring : s.aq.ring = [q]) (hkey : s.mbxKey q = x.key) (hcmd :
    s.mbxCmd q ≠ 0x0101) :
    s.closeSession x = ((s.dropSession x).respond q 0x41 false []).when (!((s.dropSession x).respond q 0x41 false []).sessionBusy x.key)
      (fun s => s.releaseOwned x.key) := by
  have hanswer : (s.dropSession x).answerClosed x.key [q] = (s.dropSession x).respond q 0x41 false [] := by
    have hmatch : ((s.dropSession x).mbxKey q == x.key && (s.dropSession x).mbxCmd q != 0x0101) = true := by
      rw [show (s.dropSession x).mbxKey q = s.mbxKey q from rfl, show (s.dropSession x).mbxCmd q = s.mbxCmd q from rfl, hkey]
      simpa using hcmd
    unfold State.answerClosed
    rw [hmatch]
    rfl
  unfold State.closeSession
  dsimp only
  rw [show s.updAq (fun a => { a with sessions := a.sessions.filter (fun y => y.id ≠ x.id) }) = s.dropSession x from rfl,
    show (s.dropSession x).aq.ring = s.aq.ring from rfl, hring, hanswer]

theorem State.respond_running : (s.respond p status started payload).aq.running = s.aq.running.filter (fun e => e.1 ≠ p) := by
  have h := congrArg Aqsia.running (State.respond_unowned (s := s) (p := p) (status := status) (started := started) (payload := payload))
  exact h

/-- A request of the session that runs keeps it busy. -/
theorem State.sessionBusy_of_running {key : Nat × Nat} (hrun : s.aq.running.any (fun e => e.1 == p) = true) (hkey : s.mbxKey p = key)
    (hcmd : s.mbxCmd p ≠ 0x0101) : s.sessionBusy key = true := by
  obtain ⟨e, he, hep⟩ := List.any_eq_true.1 hrun
  have hep' : e.1 = p := beq_iff_eq.1 hep
  refine List.any_eq_true.2 ⟨e, he, ?_⟩
  rw [hep', hkey]
  simpa using hcmd

theorem exec_requestStart {emf : Nat} (hacts : s.aqsiaActs = true) (h : s.actionable s.aq.ring [] = some p) :
    exec (.requestStart emf) s = .next (s.take p emf) := by
  refine congrArg Host.Outcome.next ((if_pos hacts).trans ?_)
  rw [h]

theorem exec_requestStart_none {emf : Nat} (h : s.aqsiaActs = false ∨ s.actionable s.aq.ring [] = none) :
    exec (.requestStart emf) s = .next s := by
  refine congrArg Host.Outcome.next ?_
  split
  next hacts =>
    rw [h.resolve_left (by rw [hacts]; decide)]
  next => rfl

theorem State.quiet_of_inactive {key : Nat × Nat} (h : s.sessionActive key = false) :
    ∀ q ∈ s.aq.ring, (s.mbxKey q == key && s.mbxCmd q != 0x0101) = false := by
  unfold State.sessionActive at h
  intro q hq
  rw [Bool.or_eq_false_iff] at h
  exact Bool.eq_false_iff.2 (fun hmatch => Bool.eq_false_iff.1 h.2 (List.any_eq_true.2 ⟨q, hq, hmatch⟩))

theorem State.closeSession_box (x : Session) : s.SameBox p (s.closeSession x) :=
  (State.closeSession_frame (fun _ hp => hp) (fun _ hr => hr) (Frame.refl _ _ s)).sameBox (by decide +kernel) p

theorem exec_sessionClose {x : Session} (hruns : s.Runs p 0x0102) (hx : s.session x.id = some x) (hkey : (x.id, x.gen) = s.mbxKey p) :
    exec (.sessionClose p) s = .next ((s.closeSession x).respond p 0 true []) := by
  refine congrArg Host.Outcome.next ((State.onCommand_of_runs hruns _).trans ?_)
  rw [← hkey]
  dsimp only
  rw [hx]
  dsimp only
  rw [beq_self_eq_true, State.when_true]
  rfl

/-! ### A session that opens (R207) -/

/-- The session that a SESSION_OPEN opens. -/
def State.newSession (s : State) (p id : Nat) : Session :=
  { id := id, gen := s.get .MBX_EPOCH_PCC * 2 ^ 24 + s.get .MBX_EPOCH_WARM * 2 ^ 16 + (if s.aq.opens = 0xFFFF then 1 else s.aq.opens + 1),
    cls := pairClass p, label := s.req p 20 4, idle := s.req p 16 2 }

/-- The new session among those that are open. -/
def State.addSession (s : State) (p id : Nat) : State :=
  let u := s.updAq (fun a => { a with opens := if s.aq.opens = 0xFFFF then 1 else s.aq.opens + 1, sessions := a.sessions ++ [s.newSession p id] })
  u.when (pairClass p == 0) (fun s => { s with dyke := { s.dyke with hostSeen := true } })

/-- What SESSION_OPEN leaves. -/
def State.opened (s : State) (p id : Nat) : State :=
  ((s.addSession p id).writeRsp p 0 true id (s.newSession p id).gen
    (leBytes 4 s.aqsiaVer ++ leBytes 1 (pairClass p) ++ leBytes 1 16 ++ leBytes 2 0)).dropRequest p

theorem State.addSession_regs {id : Nat} : (s.addSession p id).regs = s.regs :=
  State.when_keeps (fun t => t.regs) rfl

theorem exec_sessionOpen {id : Nat} (hruns : s.Runs p 0x0101) (hfree : s.freeId (pairClass p) = some id) :
    exec (.sessionOpen p) s = .next (s.opened p id) := by
  have hver : (s.addSession p id).aqsiaVer = s.aqsiaVer := by
    unfold State.aqsiaVer
    rw [State.get_of_regs State.addSession_regs]
  refine congrArg Host.Outcome.next ((State.onCommand_of_runs hruns _).trans ?_)
  rw [hfree, State.opened, ← hver]
  rfl

theorem State.addSession_sessions {id : Nat} : (s.addSession p id).aq.sessions = s.aq.sessions ++ [s.newSession p id] :=
  State.when_keeps (fun t => t.aq.sessions) rfl

theorem State.releaseOwned_hostSeen (key : Nat × Nat) : (s.releaseOwned key).dyke.hostSeen = s.dyke.hostSeen := by
  unfold State.releaseOwned
  extract_lets s1 s2
  have h2 : Frame [.aq] [.fld .PEAT_STATUS_STAMP_WAIT, .fld .PEAT_STATUS_HELD, .fld .PEAT_STATUS_USED, .fld .PEAT_FRZ_AREA] s s2 :=
    State.forN_frame (State.when_frame (Frame.refl _ _ s) (fun _ ht => State.updAq_frame (fun _ hp => hp) ht)) (fun a _ ht =>
      State.when_frame ht (fun _ hu => State.updAq_frame (fun _ hp => hp) (State.unfreeze_frame (fun _ hr => hr) hu)))
  clear_value s2
  rw [← congrArg Dyke.hostSeen (h2.same .dyke (by decide))]
  refine State.when_keeps (fun t => t.dyke.hostSeen) ?_
  dsimp only
  split <;> rfl

theorem State.dropRequest_hostSeen : (s.dropRequest p).dyke.hostSeen = s.dyke.hostSeen := by
  unfold State.dropRequest
  dsimp only
  exact State.when_keeps (fun t => t.dyke.hostSeen) (State.releaseOwned_hostSeen _)

theorem State.opened_opens {id : Nat} : (s.opened p id).aq.sessions = s.aq.sessions ++ [s.newSession p id] ∧
    AnsweredTo (id, (s.newSession p id).gen) s (s.opened p id) p 0 true
      (leBytes 4 s.aqsiaVer ++ leBytes 1 (pairClass p) ++ leBytes 1 16 ++ leBytes 2 0) ∧
    (pairClass p = 0 → (s.opened p id).dyke.hostSeen = true) := by
  have hrsp := (s.addSession p id).writeRsp_within p 0 true id (s.newSession p id).gen
    (leBytes 4 s.aqsiaVer ++ leBytes 1 (pairClass p) ++ leBytes 1 16 ++ leBytes 2 0)
  refine ⟨?_, State.writeRsp_answered (State.SameBox.of_regs State.addSession_regs) (by decide), fun hclass => ?_⟩
  · refine (congrArg Aqsia.sessions State.dropRequest_unowned).trans ?_
    refine (congrArg Aqsia.sessions (hrsp.same .aq (by decide))).trans State.addSession_sessions
  · unfold State.opened
    rw [State.dropRequest_hostSeen, hrsp.same .dyke (by decide)]
    unfold State.addSession
    rw [hclass]
    rfl

/-- Settles O45. -/
theorem requestsAreTaken : Obligations.RequestsAreTaken := by
  unfold Obligations.RequestsAreTaken
  refine ⟨fun s who p hwho hmbx => ?_, fun s who p hwho hmbx => ?_, fun s core p hcore hp => ?_, fun s who p hwho hmbx => ?_,
    fun s who p hwho hmbx => ?_, fun s core p hcore hp => ?_, fun s who p hwho hmbx => ?_, fun s who p hwho hmbx hacts => ?_,
    fun s who p hwho hmbx hacts => ?_, fun s who p hwho h1 h2 => ?_, fun s core p hcore hp => ?_, fun s emf hnone => ?_,
    fun s emf p hacts hsome hmbx hcancel => ?_, fun s emf p hacts hsome hmbx hkept hcommit => ?_,
    fun s emf p status hacts hsome hmbx hkept hcommit hcheck => ?_, fun s emf p hacts hsome hmbx hkept hcommit hcheck hclash => ?_,
    fun s emf p status hacts hsome hmbx hkept hcommit hcheck hclash hpre => ?_,
    fun s emf p hacts hsome hmbx hkept hcommit hcheck hclash hpre => ?_, fun s id x hx hidle hactive => ?_, fun s id hnone => ?_,
    fun s p id gen hruns hfree hgen => ?_, fun s p hruns hfree => ?_, fun s p x hruns hx hkey hring => ?_,
    fun s p q x hruns hx hkey hring hq hcmd hp hq60 hne => ?_, fun s p hruns hopen => ?_, fun s p hruns => ?_⟩
  · exact completes_of_outFrame (c := .mbxRing who p) (execMbxRing_frame (parts_in rfl) (fun _ hr => hr))
      (congrArg Host.Outcome.next (State.doorbell_permitted hwho)) (fun _ => State.ring_latches (s := s.ack) hmbx)
  · refine completes_of_outFrame (c := .mbxRing who p) (execMbxRing_frame (parts_in rfl) (fun _ hr => hr)) (t := s.ack.set (.MBX_STAT_DB_ERR p) 1)
      (congrArg Host.Outcome.next ((State.doorbell_permitted hwho).trans (State.ring_of_busy (s := s.ack) hmbx)))
      (fun _ => ⟨(State.dbErr_shows (s := s.ack)).1, (State.dbErr_shows (s := s.ack)).2, rfl, rfl⟩)
  · exact completes_of_outFrame (c := .mbxRing (.fen core) p) (execMbxRing_frame (parts_in rfl) (fun _ hr => hr))
      (congrArg Host.Outcome.next (State.doorbell_denied hp)) (fun _ => State.denied_pair core)
  · exact completes_of_outFrame (c := .mbxAck who p) (execMbxAck_frame (parts_in rfl) (fun _ hr => hr)) (t := s.ack.ackPair p)
      (congrArg Host.Outcome.next (State.doorbell_permitted hwho)) (fun _ => State.ackPair_acks (s := s.ack) hmbx)
  · exact completes_of_outFrame (c := .mbxAck who p) (execMbxAck_frame (parts_in rfl) (fun _ hr => hr)) (t := s.ack.set (.MBX_STAT_DB_ERR p) 1)
      (congrArg Host.Outcome.next ((State.doorbell_permitted hwho).trans (State.ackPair_of_other (s := s.ack) hmbx)))
      (fun _ => ⟨(State.dbErr_shows (s := s.ack)).1, (State.dbErr_shows (s := s.ack)).2, rfl, rfl⟩)
  · exact completes_of_outFrame (c := .mbxAck (.fen core) p) (execMbxAck_frame (parts_in rfl) (fun _ hr => hr))
      (congrArg Host.Outcome.next (State.doorbell_denied hp)) (fun _ => State.denied_pair core)
  · exact completes_of_outFrame (c := .mbxCancel who p) (execMbxCancel_frame (parts_in rfl) (fun _ hr => hr))
      (t := s.ack.set (.MBX_STAT_CANCEL_REQ p) 1)
      (congrArg Host.Outcome.next ((State.doorbell_permitted hwho).trans (State.cancelPair_of_running (s := s.ack) hmbx)))
      (fun _ => ⟨State.get_set_self _ _ _ (by simp), (State.get_set_other _ _ (.inr (.inr (by dsimp only; omega)))).trans hmbx, rfl,
        rfl⟩)
  · refine completes_of_outFrame (c := .mbxCancel who p) (execMbxCancel_frame (parts_in rfl) (fun _ hr => hr)) (t := s.ack.respond p 0x40 false [])
      (congrArg Host.Outcome.next ((State.doorbell_permitted hwho).trans ((State.cancelPair_of_pending (s := s.ack) hmbx).trans (if_pos hacts))))
      (fun _ => ⟨State.respond_answered (State.SameBox.of_regs rfl) (by decide), State.respond_same .bus (by decide)⟩)
  · exact completes_of_outFrame (c := .mbxCancel who p) (execMbxCancel_frame (parts_in rfl) (fun _ hr => hr))
      (t := s.ack.updAq (fun a => { a with toCancel := p :: a.toCancel.filter (· ≠ p) }))
      (congrArg Host.Outcome.next ((State.doorbell_permitted hwho).trans ((State.cancelPair_of_pending (s := s.ack) hmbx).trans
        (if_neg (ne_true_of_eq_false hacts))))) (fun _ => ⟨hmbx, rfl, rfl, rfl⟩)
  · exact completes_of_outFrame (c := .mbxCancel who p) (execMbxCancel_frame (parts_in rfl) (fun _ hr => hr)) (t := s.ack)
      (congrArg Host.Outcome.next ((State.doorbell_permitted hwho).trans (State.cancelPair_of_other (s := s.ack) h1 h2)))
      (fun _ => ⟨rfl, rfl, rfl⟩)
  · exact completes_of_outFrame (c := .mbxCancel (.fen core) p) (execMbxCancel_frame (parts_in rfl) (fun _ hr => hr))
      (congrArg Host.Outcome.next (State.doorbell_denied hp)) (fun _ => State.denied_pair core)
  · exact completes_of_outFrame (execRequestStart_frame (parts_in rfl) (fun _ hr => hr)) (exec_requestStart_none hnone) (fun _ => rfl)
  · exact completes_of_outFrame (execRequestStart_frame (parts_in rfl) (fun _ hr => hr))
      ((exec_requestStart hacts hsome).trans (congrArg Host.Outcome.next (State.take_cancelled hmbx hcancel)))
      (fun _ => State.respond_answers (by decide))
  · exact completes_of_outFrame (execRequestStart_frame (parts_in rfl) (fun _ hr => hr))
      ((exec_requestStart hacts hsome).trans (congrArg Host.Outcome.next (State.take_committed hmbx hkept hcommit)))
      (fun _ => State.aborted_answered)
  · exact completes_of_outFrame (execRequestStart_frame (parts_in rfl) (fun _ hr => hr))
      ((exec_requestStart hacts hsome).trans (congrArg Host.Outcome.next (State.take_refused hmbx hkept hcommit hcheck)))
      (fun _ => State.refused_answered (State.when_keeps (fun t => t.regs) State.useUp_regs) (State.requestCheck_lt hcheck))
  · exact completes_of_outFrame (execRequestStart_frame (parts_in rfl) (fun _ hr => hr))
      ((exec_requestStart hacts hsome).trans (congrArg Host.Outcome.next (State.take_clashing hmbx hkept hcommit hcheck hclash)))
      (fun _ => State.refused_answered State.useUp_regs (by decide))
  · exact completes_of_outFrame (execRequestStart_frame (parts_in rfl) (fun _ hr => hr))
      ((exec_requestStart hacts hsome).trans (congrArg Host.Outcome.next (State.take_unmet hmbx hkept hcommit hcheck hclash hpre)))
      (fun _ => State.refused_answered State.useUp_regs (State.precondition_lt hpre))
  · exact completes_of_outFrame (execRequestStart_frame (parts_in rfl) (fun _ hr => hr))
      ((exec_requestStart hacts hsome).trans (congrArg Host.Outcome.next (State.take_met hmbx hkept hcommit hcheck hclash hpre)))
      (fun _ => State.taken_starts)
  · have hquiet := State.quiet_of_inactive hactive
    refine completes_of_outFrame (execSessionIdleTimeout_frame (parts_in rfl) (fun _ hr => hr)) (t := s.closeSession x) ?_ (fun _ => ?_)
    · have hidle' : (x.idle != 0 && !s.sessionActive x.key) = true := by
        rw [hactive, bne_iff_ne.2 hidle]
        rfl
      change execSessionIdleTimeout id s = _
      unfold execSessionIdleTimeout
      rw [hx]
      dsimp only
      rw [hidle', State.when_true]
    · have haq := State.closeSession_unowned hquiet
      have hring := congrArg Aqsia.ring haq
      have hrunning := congrArg Aqsia.running haq
      exact ⟨congrArg Aqsia.sessions haq, hring, hrunning⟩
  · refine completes_of_outFrame (execSessionIdleTimeout_frame (parts_in rfl) (fun _ hr => hr)) (t := s) ?_ (fun _ => rfl)
    change execSessionIdleTimeout id s = _
    unfold execSessionIdleTimeout
    cases hx : s.session id with
    | none => rfl
    | some x =>
      have hkept : (x.idle != 0 && !s.sessionActive x.key) = false := by
        rcases hnone x hx with h | h <;> rw [h] <;> simp
      dsimp only
      rw [hkept]
      rfl
  · subst hgen
    exact completes_of_outFrame (execSessionOpen_frame (parts_in rfl) (fun _ hr => hr)) (exec_sessionOpen hruns hfree)
      (fun _ => State.opened_opens)
  · refine completes_of_outFrame (execSessionOpen_frame (parts_in rfl) (fun _ hr => hr)) (t := s.respond p 0x22 false [])
      (congrArg Host.Outcome.next ((State.onCommand_of_runs hruns _).trans ?_)) (fun _ => ⟨State.respond_answers (by decide),
        State.respond_sessions⟩)
    rw [hfree]
  · have hquiet : ∀ q ∈ s.aq.ring, (s.mbxKey q == x.key && s.mbxCmd q != 0x0101) = false := by
      intro q hq
      have hne := List.all_eq_true.1 hring q hq
      rw [← hkey, bne_iff_ne] at hne
      rw [show (s.mbxKey q == x.key) = false from beq_eq_false_iff_ne.2 hne]
      rfl
    refine completes_of_outFrame (execSessionClose_frame (parts_in rfl) (fun _ hr => hr)) (exec_sessionClose hruns hx hkey)
      (fun _ => ⟨State.respond_sessions.trans (congrArg Aqsia.sessions (State.closeSession_unowned hquiet)),
        State.respond_answered (State.closeSession_box x) (by decide)⟩)
  · have hclose := State.closeSession_waiting (x := x) hring (hq.trans hkey.symm) hcmd
    have hbusy : ((s.dropSession x).respond q 0x41 false []).sessionBusy x.key = true := by
      refine State.sessionBusy_of_running (p := p) ?_ (State.respond_mbxKey.trans hkey.symm) ?_
      · obtain ⟨e, he, hep⟩ := List.any_eq_true.1 hruns.2.2.2
        rw [State.respond_running]
        refine List.any_eq_true.2 ⟨e, List.mem_filter.2 ⟨he, decide_eq_true ?_⟩, hep⟩
        rw [beq_iff_eq.1 hep]
        exact hne
      · rw [State.mbxCmd, ((s.dropSession x).respond_within q 0x41 false []).sameBox (by decide +kernel) p |>.cmd]
        change s.mbxCmd p ≠ _
        rw [hruns.2.1]
        decide
    rw [hbusy] at hclose
    have hbox : s.SameBox p (s.closeSession x) := State.closeSession_box x
    have hq' : Answered s (s.closeSession x) q 0x41 false [] := by
      rw [hclose]
      exact State.respond_answered (State.SameBox.of_regs (State.updAq_regs _ _)) (by decide)
    refine completes_of_outFrame (execSessionClose_frame (parts_in rfl) (fun _ hr => hr)) (exec_sessionClose hruns hx hkey)
      (fun _ => ⟨State.respond_sessions.trans ?_, State.respond_answered hbox (by decide), hq'.respond (by omega) (by omega) hne⟩)
    rw [hclose]
    exact State.respond_sessions
  · refine completes_of_outFrame (execSessionClose_frame (parts_in rfl) (fun _ hr => hr)) (t := s.respond p 0 true [])
      (congrArg Host.Outcome.next ((State.onCommand_of_runs hruns _).trans ?_)) (fun _ => ⟨State.respond_sessions,
        State.respond_answers (by decide)⟩)
    unfold State.sessionOpen at hopen
    cases hx : s.session (s.mbxKey p).1 with
    | none => rfl
    | some x =>
      rw [hx] at hopen
      dsimp only at hopen ⊢
      rw [hopen]
      rfl
  · exact completes_of_outFrame (execSessionPing_frame (parts_in rfl) (fun _ hr => hr))
      (congrArg Host.Outcome.next (State.onCommand_of_runs hruns _)) (fun _ => ⟨State.respond_answers (by decide), State.respond_sessions⟩)

end Sys2Proof.Machine
end

section
set_option Elab.async false
/-! THE SERVICE PORT SERVES (09). A transaction of the port is judged by its bytes, then rings, reads, acknowledges or cancels a pair,
  shows the status,
or closes the port's sessions (R214, R218, R224, R225, R226). -/

namespace Sys2Proof.Machine

variable {s t : State} {p slot len e : Nat} {bytes : List Byte}

/-! ### The bytes of a request that is put into a pair (R225) -/

/-- The byte `i` of a little-endian number. -/
theorem leNat_byte (l : List Byte) (i : Nat) : BitVec.ofNat 8 (leNat l / 2 ^ (8 * i)) = l.getD i 0 := by
  induction l generalizing i with
  | nil => rw [leNat, Nat.zero_div]; rfl
  | cons b l ih =>
    have hb : b.toNat < 256 := b.isLt
    cases i with
    | zero =>
      apply BitVec.eq_of_toNat_eq
      rw [leNat, BitVec.toNat_ofNat, Nat.mul_zero, Nat.pow_zero, Nat.div_one]
      change (b.toNat + 256 * leNat l) % 256 = b.toNat
      omega
    | succ i =>
      have hdiv : (b.toNat + 256 * leNat l) / 2 ^ (8 * (i + 1)) = leNat l / 2 ^ (8 * i) := by
        rw [show 8 * (i + 1) = 8 + 8 * i by omega, Nat.pow_add, ← Nat.div_div_eq_div_mul]
        congr 1
        omega
      rw [leNat, hdiv, ih]
      rfl

theorem fieldAt_byte (l : List Byte) {o : Nat} : BitVec.ofNat 8 (fieldAt l (4 * (o / 4)) 4 / 2 ^ (8 * (o % 4))) = l.getD o 0 := by
  have ho : 4 * (o / 4) + o % 4 = o := Nat.div_add_mod o 4
  rw [fieldAt, leNat_byte, List.getD_eq_getElem?_getD, List.getElem?_take_of_lt (Nat.mod_lt _ (by decide)), List.getElem?_drop, ho,
    ← List.getD_eq_getElem?_getD]

/-- The words of a request put into the pair. -/
def State.putReq (s : State) (p : Nat) (whole : List Byte) : State :=
  s.forN 64 (fun w s => s.set (.MBX_REQ_DATA p w) (fieldAt whole (4 * w) 4))

theorem State.putReq_data {w : Nat} (hw : w < 64) (whole : List Byte) :
    (s.putReq p whole).get (.MBX_REQ_DATA p w) = fieldAt whole (4 * w) 4 := by
  refine State.forN_reaches (Inv := fun _ => True) (P := fun t => t.get (.MBX_REQ_DATA p w) = fieldAt whole (4 * w) 4) hw trivial
    (fun _ _ _ _ => trivial)
    (fun t _ => (State.get_set_self _ _ _ (by simp)).trans (Nat.mod_eq_of_lt (fieldAt_lt whole (4 * w)))) (fun j hj t ht => ?_)
  by_cases h : j = w
  · subst h
    exact (State.get_set_self _ _ _ (by simp)).trans (Nat.mod_eq_of_lt (fieldAt_lt whole (4 * j)))
  · rw [State.get_set_other _ _ (.inl (by dsimp only; omega)), ht]

theorem State.putReq_mbx (whole : List Byte) : (s.putReq p whole).mbx p = s.mbx p :=
  State.forN_keeps (fun t => t.mbx p) (f := fun w s => s.set (.MBX_REQ_DATA p w) (fieldAt whole (4 * w) 4))
    (fun w t => State.get_set_other t _ (.inl (by dsimp only; omega))) 64

theorem State.putReq_aq (whole : List Byte) : (s.putReq p whole).aq = s.aq :=
  State.forN_keeps (fun t => t.aq) (f := fun w s => s.set (.MBX_REQ_DATA p w) (fieldAt whole (4 * w) 4)) (fun _ _ => rfl) 64

theorem State.ring_word (h : s.mbx p = 0) (w : Nat) : (s.ring p).get (.MBX_REQ_DATA p w) = s.get (.MBX_REQ_DATA p w) := by
  have hget (g : Fld) : (((s.latchHeader p).showRequest p).enqueue p).get g = ((s.latchHeader p).showRequest p).get g :=
    State.get_of_regs (State.updAq_regs _ _) g
  rw [State.ring_of_idle h, hget, State.showRequest_other (by dsimp only; omega)]
  unfold State.latchHeader
  simp (disch := (dsimp only; omega)) only [State.get_set_other]

theorem State.ring_lastErr (h : s.mbx p = 0) : (s.ring p).aq.lastErr = s.aq.lastErr := by
  rw [State.ring_of_idle h]
  rfl

/-- The bytes put into a pair that rings are the bytes of its request. -/
theorem State.putReq_bytes {whole : List Byte} (h : s.mbx p = 0) (hlen : len ≤ 256) (hwhole : len ≤ whole.length) :
    ((s.putReq p whole).ring p).reqBytes p 0 len = whole.take len := by
  have hbyte (o : Nat) (ho : o < 256) : ((s.putReq p whole).ring p).reqByte p o = whole.getD o 0 := by
    unfold State.reqByte
    rw [State.ring_word ((State.putReq_mbx whole).trans h), State.putReq_data (by omega), fieldAt_byte]
  have hlist : ((s.putReq p whole).ring p).reqBytes p 0 len = (List.range len).map (fun i => whole.getD i 0) :=
    List.map_congr_left fun i hi => by rw [Nat.zero_add, hbyte i (Nat.lt_of_lt_of_le (List.mem_range.1 hi) hlen)]
  rw [hlist]
  refine List.ext_getElem (by rw [List.length_map, List.length_range, List.length_take, Nat.min_eq_left hwhole]) fun i hi hi' => ?_
  rw [List.length_map, List.length_range] at hi
  rw [List.getElem_map, List.getElem_range, List.getElem_take, List.getD_eq_getElem _ _ (by omega)]

/-! ### Transactions (R224, R225, R226) -/

theorem State.svcErr_leaves : (s.svcErr e).aq.lastErr = e ∧ (s.svcErr e).aq.ring = s.aq.ring ∧ (s.svcErr e).regs = s.regs :=
  ⟨rfl, rfl, rfl⟩

/-- A frame that is whole holds its bytes and the check. -/
theorem length_of_frameErr {opcode : Nat} (h : frameErr opcode len bytes = none) : len + 2 ≤ bytes.length := by
  unfold frameErr at h
  split at h
  · cases h
  · omega

section request

theorem exec_svcRequest_gated (h : s.portServes = false) : exec (.svcRequest bytes) s = .next s := by
  change execSvcRequest bytes s = _
  unfold execSvcRequest
  dsimp only
  rw [h]
  rfl

variable (hport : s.portServes = true)
include hport

theorem exec_svcRequest_short (h : bytes.length < 3) : exec (.svcRequest bytes) s = .next (s.svcErr 5) := by
  change execSvcRequest bytes s = _
  unfold execSvcRequest
  dsimp only
  rw [hport, if_neg (by decide), if_pos h]

variable (hlong : 3 ≤ bytes.length)
include hlong

theorem exec_svcRequest_frame (h : frameErr 0x01 (3 + fieldAt bytes 1 2) bytes = some e) :
    exec (.svcRequest bytes) s = .next (s.svcErr e) := by
  change execSvcRequest bytes s = _
  unfold execSvcRequest
  dsimp only
  rw [hport, if_neg (by decide), if_neg (Nat.not_lt.2 hlong), h]

variable (hframe : frameErr 0x01 (3 + fieldAt bytes 1 2) bytes = none)
include hframe

/-- A request whose frame is whole, by its slot, its length and the state of the pair. -/
theorem exec_svcRequest_whole : exec (.svcRequest bytes) s = .next (
    if 7 < fieldAt bytes 0 1 ∨ fieldAt bytes 1 2 < 16 ∨ 256 < fieldAt bytes 1 2 then s.svcErr 2
    else if s.mbx (48 + fieldAt bytes 0 1) ≠ 0 then s.svcErr 3
    else if s.powerFailing then s.svcErr 4
    else (s.putReq (48 + fieldAt bytes 0 1) ((bytes.drop 3).take (fieldAt bytes 1 2) ++
      s.reqBytes (48 + fieldAt bytes 0 1) (fieldAt bytes 1 2) (256 - fieldAt bytes 1 2))).ring (48 + fieldAt bytes 0 1)) := by
  change execSvcRequest bytes s = _
  unfold execSvcRequest
  dsimp only
  rw [hport, if_neg (by decide), if_neg (Nat.not_lt.2 hlong), hframe]
  dsimp only
  rw [apply_ite Host.Outcome.next, apply_ite Host.Outcome.next, apply_ite Host.Outcome.next]
  rfl

end request

/-! ### Transactions of one slot -/

section slot

variable {opcode : Nat} {f : Nat → State → State}

theorem State.svcSlot_gated (h : s.portServes = false) : s.svcSlot opcode bytes f = s := by
  unfold State.svcSlot
  dsimp only
  rw [h]
  rfl

variable (hport : s.portServes = true)
include hport

theorem State.svcSlot_bad (h : frameErr opcode 1 bytes = some e) : s.svcSlot opcode bytes f = s.svcErr e := by
  unfold State.svcSlot
  dsimp only
  rw [hport, if_neg (by decide), h]

variable (hframe : frameErr opcode 1 bytes = none)
include hframe

theorem State.svcSlot_outside (h : 7 < fieldAt bytes 0 1) : s.svcSlot opcode bytes f = s.svcErr 2 := by
  unfold State.svcSlot
  dsimp only
  rw [hport, if_neg (by decide), hframe]
  exact if_pos h

theorem State.svcSlot_pair (h : fieldAt bytes 0 1 ≤ 7) : s.svcSlot opcode bytes f = f (48 + fieldAt bytes 0 1) s := by
  unfold State.svcSlot
  dsimp only
  rw [hport, if_neg (by decide), hframe]
  exact if_neg (Nat.not_lt.2 h)

end slot

/-! ### PORT_RESET (R226) -/

theorem Aqsia.unowned_sessions (a : Aqsia) : a.unowned.sessions = a.sessions := rfl

theorem State.closeSession_sessions (x : Session) : (s.closeSession x).aq.sessions = s.aq.sessions.filter (fun y => y.id ≠ x.id) := by
  have hanswer (key : Nat × Nat) (l : List Nat) (u : State) : (u.answerClosed key l).aq.sessions = u.aq.sessions := by
    induction l generalizing u with
    | nil => rfl
    | cons q l ih =>
      unfold State.answerClosed
      rw [ih]
      exact State.when_keeps (fun t => t.aq.sessions) State.respond_sessions
  have hrelease (u : State) : (u.releaseOwned x.key).aq.sessions = u.aq.sessions := by
    have h := congrArg Aqsia.sessions (u.releaseOwned_unowned x.key)
    rwa [Aqsia.unowned_sessions, Aqsia.unowned_sessions] at h
  have hclose : s.closeSession x = ((s.dropSession x).answerClosed x.key (s.dropSession x).aq.ring).when
    (!((s.dropSession x).answerClosed x.key (s.dropSession x).aq.ring).sessionBusy x.key) (fun s => s.releaseOwned x.key) := rfl
  rw [hclose, State.when_keeps (f := fun u => u.releaseOwned x.key) (fun t => t.aq.sessions) (hrelease _), hanswer]
  rfl

theorem State.closeSessions_sessions (l : List Session) :
    (s.closeSessions l).aq.sessions = s.aq.sessions.filter (fun y => l.all (fun x => y.id != x.id)) := by
  induction l generalizing s with
  | nil =>
    unfold State.closeSessions
    exact (List.filter_eq_self.2 (fun _ _ => rfl)).symm
  | cons x l ih =>
    unfold State.closeSessions
    rw [ih, State.closeSession_sessions, List.filter_filter]
    refine List.filter_congr fun y _ => ?_
    rw [List.all_cons, Bool.and_comm]
    congr 1
    by_cases h : y.id = x.id <;> simp [h]

/-- Sessions of numbers of their own: those of no session of the port are those of another class. -/
theorem filter_ids (l : List Session) (h : l.Pairwise (fun a b => a.id ≠ b.id)) :
    l.filter (fun y => (l.filter (fun x => x.cls == 1)).all (fun x => y.id != x.id)) = l.filter (fun x => x.cls ≠ 1) := by
  refine List.filter_congr fun y hy => ?_
  by_cases hcls : y.cls = 1
  · rw [decide_eq_false (not_not_intro hcls), Bool.eq_false_iff]
    intro hall
    have hself := List.all_eq_true.1 hall y (List.mem_filter.2 ⟨hy, beq_iff_eq.2 hcls⟩)
    simp at hself
  · rw [decide_eq_true hcls, List.all_eq_true]
    intro x hx
    obtain ⟨hxl, hxc⟩ := List.mem_filter.1 hx
    refine bne_iff_ne.2 fun hid => hcls ?_
    have hsame : y = x := by
      by_contra hne
      have hsymm : Std.Symm (fun a b : Session => a.id ≠ b.id) := ⟨fun _ _ hab => hab.symm⟩
      exact h.forall hy hxl hne hid
    rw [hsame]
    exact beq_iff_eq.1 hxc

/-! ### The remaining transactions -/

theorem exec_svcResponse_gated {cut : Bool} (h : s.portServes = false) : exec (.svcResponse slot cut) s = .next s := by
  change execSvcResponse slot cut s = _
  unfold execSvcResponse
  dsimp only
  rw [h]
  rfl

theorem exec_svcResponse_cut (hport : s.portServes = true) : exec (.svcResponse slot true) s = .next (s.svcErr 5) := by
  change execSvcResponse slot true s = _
  unfold execSvcResponse
  dsimp only
  rw [hport]
  rfl

theorem exec_svcResponse_outside (hport : s.portServes = true) (h : 7 < slot) : exec (.svcResponse slot false) s = .next (s.svcErr 2) := by
  change execSvcResponse slot false s = _
  unfold execSvcResponse
  dsimp only
  rw [hport, if_neg (by decide), if_neg Bool.false_ne_true, if_pos h]

theorem exec_svcResponse_none (hport : s.portServes = true) (hslot : slot ≤ 7) (h : s.mbx (48 + slot) ≠ 3) :
    exec (.svcResponse slot false) s = .next ((s.svcSend [0x02, BitVec.ofNat 8 slot] (leBytes 2 0)).svcErr 3) := by
  change execSvcResponse slot false s = _
  unfold execSvcResponse
  dsimp only
  rw [hport, if_neg (by decide), if_neg Bool.false_ne_true, if_neg (Nat.not_lt.2 hslot), if_neg h]

/-- The bytes of the response of a pair. -/
abbrev State.rspBytes (s : State) (p : Nat) : List Byte := (List.range 64).flatMap (fun w => leBytes 4 (s.get (.MBX_RSP_DATA p w)))

theorem exec_svcResponse_sent (hport : s.portServes = true) (hslot : slot ≤ 7) (h : s.mbx (48 + slot) = 3) :
    exec (.svcResponse slot false) s = .next (s.svcSend [0x02,
      BitVec.ofNat 8 slot] (leBytes 2 (16 + fieldAt (s.rspBytes (48 + slot)) 6 2) ++
      (s.rspBytes (48 + slot)).take (16 + fieldAt (s.rspBytes (48 + slot)) 6 2))) := by
  change execSvcResponse slot false s = _
  unfold execSvcResponse
  dsimp only
  rw [hport, if_neg (by decide), if_neg Bool.false_ne_true, if_neg (Nat.not_lt.2 hslot), if_pos h]

theorem exec_svcStatus_gated {cut : Bool} (h : s.portServes = false) : exec (.svcStatus cut) s = .next s := by
  change execSvcStatus cut s = _
  unfold execSvcStatus
  rw [h]
  rfl

theorem exec_svcStatus_cut (hport : s.portServes = true) : exec (.svcStatus true) s = .next (s.svcErr 5) := by
  change execSvcStatus true s = _
  unfold execSvcStatus
  rw [hport]
  rfl

/-- What SVC_STATUS shows. -/
def State.statusBytes (s : State) : List Byte :=
  leBytes 2 ((List.range 8).foldl (fun n k => n + s.mbx (48 + k) * 4 ^ k) 0) ++ leBytes 1 s.aq.lastErr ++
    leBytes 1 (s.svcRdy.toNat + 2 * s.powerFailing.toNat + 4 * s.aqsiaUp.toNat)

theorem exec_svcStatus_sent (hport : s.portServes = true) :
    exec (.svcStatus false) s = .next ((s.svcSend [0x04] s.statusBytes).svcErr 0) := by
  change execSvcStatus false s = _
  unfold execSvcStatus
  rw [hport, if_neg (by decide), if_neg Bool.false_ne_true]
  rfl

theorem State.mbx_lt (p : Nat) : s.mbx p < 4 := State.get_lt s (.MBX_STAT_STATE p)

theorem State.statusBytes_eq : s.statusBytes = [BitVec.ofNat 8 (s.mbx 48 + 4 * s.mbx 49 + 16 * s.mbx 50 + 64 * s.mbx 51),
    BitVec.ofNat 8 (s.mbx 52 + 4 * s.mbx 53 + 16 * s.mbx 54 + 64 * s.mbx 55), BitVec.ofNat 8 s.aq.lastErr,
    BitVec.ofNat 8 (s.svcRdy.toNat + 2 * s.powerFailing.toNat + 4 * s.aqsiaUp.toNat)] := by
  have h48 := State.mbx_lt (s := s) 48
  have h49 := State.mbx_lt (s := s) 49
  have h50 := State.mbx_lt (s := s) 50
  have h51 := State.mbx_lt (s := s) 51
  have hstates : (List.range 8).foldl (fun n k => n + s.mbx (48 + k) * 4 ^ k) 0 =
      256 * (s.mbx 52 + 4 * s.mbx 53 + 16 * s.mbx 54 + 64 * s.mbx 55) + (s.mbx 48 + 4 * s.mbx 49 + 16 * s.mbx 50 + 64 * s.mbx 51) := by
    simp [List.range_succ]
    omega
  unfold State.statusBytes
  rw [hstates]
  generalize s.mbx 52 + 4 * s.mbx 53 + 16 * s.mbx 54 + 64 * s.mbx 55 = hi
  generalize hlo : s.mbx 48 + 4 * s.mbx 49 + 16 * s.mbx 50 + 64 * s.mbx 51 = lo
  have hlt : lo < 256 := by omega
  have hlow : BitVec.ofNat 8 (256 * hi + lo) = BitVec.ofNat 8 lo := by
    apply BitVec.eq_of_toNat_eq
    rw [BitVec.toNat_ofNat, BitVec.toNat_ofNat]
    omega
  have hhigh : (256 * hi + lo) / 256 = hi := by omega
  simp only [leBytes, hlow, hhigh, List.cons_append, List.nil_append]

theorem exec_portReset_gated (h : s.portServes = false) : exec (.portReset bytes) s = .next s := by
  change execPortReset bytes s = _
  unfold execPortReset
  rw [h]
  rfl

theorem exec_portReset_bad (hport : s.portServes = true) (h : frameErr 0x0F 0 bytes = some e) :
    exec (.portReset bytes) s = .next (s.svcErr e) := by
  change execPortReset bytes s = _
  unfold execPortReset
  rw [hport, if_neg (by decide), h]

theorem exec_portReset_closes (hport : s.portServes = true) (h : frameErr 0x0F 0 bytes = none) :
    exec (.portReset bytes) s = .next (s.closeSessions (s.aq.sessions.filter (fun x => x.cls == 1))) := by
  change execPortReset bytes s = _
  unfold execPortReset
  rw [hport, if_neg (by decide), h]

/-- Settles O46. -/
theorem servicePortServes : Obligations.ServicePortServes := by
  unfold Obligations.ServicePortServes
  refine ⟨fun s bytes slot len hport hslot hlen hlong hframe hin hmin hmax hidle hpower => ?_, fun s bytes e hport hlong hframe => ?_,
    fun s bytes hport hshort => ?_, fun s bytes slot len hport hslot hlen hlong hframe hbad => ?_,
    fun s bytes slot len hport hslot hlen hlong hframe hin hmin hmax hbusy => ?_,
    fun s bytes slot len hport hslot hlen hlong hframe hin hmin hmax hidle hpower => ?_, fun s bytes hport => ?_,
    fun s slot hport hin hmbx => ?_, fun s slot n rsp hport hin hmbx hrsp hn => ?_, fun s slot hport hout => ?_, fun s slot hport => ?_,
    fun s slot cut hport => ?_, fun s bytes hport hframe hin hmbx => ?_, fun s bytes hport hframe hin hmbx => ?_,
    fun s bytes e hport hframe => ?_, fun s bytes hport hframe hout => ?_, fun s bytes hport => ?_, fun s bytes hport hframe hin hmbx => ?_,
    fun s bytes p hport hframe hin hp hmbx hacts => ?_, fun s bytes p hport hframe hin hp hmbx hacts => ?_,
    fun s bytes p hport hframe hin hp h1 h2 => ?_, fun s bytes e hport hframe => ?_, fun s bytes hport hframe hout => ?_,
    fun s bytes hport => ?_, fun s hport => ?_, fun s hport => ?_, fun s cut hport => ?_, fun s bytes hport hframe hids => ?_,
    fun s bytes e hport hframe => ?_, fun s bytes hport => ?_, fun s hport => ?_, fun s hport => ?_⟩
  · subst hslot hlen
    have hlength := length_of_frameErr hframe
    have hexec := exec_svcRequest_whole hport hlong hframe
    rw [if_neg (by omega), if_neg (not_not_intro hidle), if_neg (ne_true_of_eq_false hpower)] at hexec
    have hwhole := State.putReq_mbx (s := s) (p := 48 + fieldAt bytes 0 1) ((bytes.drop 3).take (fieldAt bytes 1 2) ++
      s.reqBytes (48 + fieldAt bytes 0 1) (fieldAt bytes 1 2) (256 - fieldAt bytes 1 2))
    have hbody : ((bytes.drop 3).take (fieldAt bytes 1 2)).length = fieldAt bytes 1 2 := by
      rw [List.length_take, List.length_drop]
      omega
    refine completes_of_outFrame (execSvcRequest_frame (parts_in rfl) (fun _ hr => hr)) hexec (fun _ => ⟨?_, ?_, ?_, ?_⟩)
    · exact (State.ring_latches (hwhole.trans hidle)).1
    · obtain ⟨-, -, -, -, -, -, hring, -⟩ := State.ring_latches (hwhole.trans hidle)
      rw [hring, State.putReq_aq]
    · rw [State.putReq_bytes hidle hmax (by rw [List.length_append, hbody]; omega), List.take_append_of_le_length (by omega),
      List.take_of_length_le (by omega)]
    · rw [State.ring_lastErr (hwhole.trans hidle), State.putReq_aq]
  · exact completes_of_outFrame (execSvcRequest_frame (parts_in rfl) (fun _ hr => hr)) (exec_svcRequest_frame hport hlong hframe)
      (fun _ => State.svcErr_leaves)
  · exact completes_of_outFrame (execSvcRequest_frame (parts_in rfl) (fun _ hr => hr)) (exec_svcRequest_short hport hshort)
      (fun _ => State.svcErr_leaves)
  · subst hslot hlen
    have hexec := exec_svcRequest_whole hport hlong hframe
    rw [if_pos hbad] at hexec
    exact completes_of_outFrame (execSvcRequest_frame (parts_in rfl) (fun _ hr => hr)) hexec (fun _ => State.svcErr_leaves)
  · subst hslot hlen
    have hexec := exec_svcRequest_whole hport hlong hframe
    rw [if_neg (by omega), if_pos hbusy] at hexec
    exact completes_of_outFrame (execSvcRequest_frame (parts_in rfl) (fun _ hr => hr)) hexec (fun _ => State.svcErr_leaves)
  · subst hslot hlen
    have hexec := exec_svcRequest_whole hport hlong hframe
    rw [if_neg (by omega), if_neg (not_not_intro hidle), if_pos hpower] at hexec
    exact completes_of_outFrame (execSvcRequest_frame (parts_in rfl) (fun _ hr => hr)) hexec (fun _ => State.svcErr_leaves)
  · exact completes_of_outFrame (execSvcRequest_frame (parts_in rfl) (fun _ hr => hr)) (exec_svcRequest_gated hport) (fun _ => rfl)
  · exact completes_of_outFrame (c := .svcResponse slot false) (execSvcResponse_frame (parts_in rfl)) (exec_svcResponse_none hport hin hmbx)
      (fun _ => ⟨rfl, rfl, rfl⟩)
  · subst hrsp hn
    exact completes_of_outFrame (c := .svcResponse slot false) (execSvcResponse_frame (parts_in rfl)) (exec_svcResponse_sent hport hin hmbx)
      (fun _ => ⟨rfl, rfl, rfl⟩)
  · exact completes_of_outFrame (c := .svcResponse slot false) (execSvcResponse_frame (parts_in rfl)) (exec_svcResponse_outside hport hout)
      (fun _ => ⟨rfl, rfl⟩)
  · exact completes_of_outFrame (c := .svcResponse slot true) (execSvcResponse_frame (parts_in rfl)) (exec_svcResponse_cut hport) (fun _ => ⟨rfl, rfl⟩)
  · exact completes_of_outFrame (c := .svcResponse slot cut) (execSvcResponse_frame (parts_in rfl)) (exec_svcResponse_gated hport) (fun _ => rfl)
  · refine completes_of_outFrame (execSvcAck_frame (parts_in rfl) (fun _ hr => hr))
      (congrArg Host.Outcome.next ((State.svcSlot_pair hport hframe hin).trans (if_pos hmbx))) (fun _ => ?_)
    obtain ⟨hfree, -, haq, -⟩ := State.ackPair_acks hmbx
    exact ⟨hfree, haq⟩
  · exact completes_of_outFrame (execSvcAck_frame (parts_in rfl) (fun _ hr => hr))
      (congrArg Host.Outcome.next ((State.svcSlot_pair hport hframe hin).trans (if_neg hmbx))) (fun _ => State.svcErr_leaves)
  · exact completes_of_outFrame (execSvcAck_frame (parts_in rfl) (fun _ hr => hr))
      (congrArg Host.Outcome.next (State.svcSlot_bad hport hframe)) (fun _ => State.svcErr_leaves)
  · exact completes_of_outFrame (execSvcAck_frame (parts_in rfl) (fun _ hr => hr))
      (congrArg Host.Outcome.next (State.svcSlot_outside hport hframe hout)) (fun _ => State.svcErr_leaves)
  · exact completes_of_outFrame (execSvcAck_frame (parts_in rfl) (fun _ hr => hr))
      (congrArg Host.Outcome.next (State.svcSlot_gated hport)) (fun _ => rfl)
  · exact completes_of_outFrame (execSvcCancel_frame (parts_in rfl) (fun _ hr => hr))
      (congrArg Host.Outcome.next ((State.svcSlot_pair hport hframe hin).trans (State.cancelPair_of_running hmbx)))
      (fun _ => ⟨State.get_set_self _ _ _ (by simp), rfl⟩)
  · subst hp
    exact completes_of_outFrame (execSvcCancel_frame (parts_in rfl) (fun _ hr => hr)) (congrArg Host.Outcome.next
      ((State.svcSlot_pair hport hframe hin).trans ((State.cancelPair_of_pending hmbx).trans (if_pos hacts))))
      (fun _ => State.respond_answers (by decide))
  · subst hp
    exact completes_of_outFrame (execSvcCancel_frame (parts_in rfl) (fun _ hr => hr)) (congrArg Host.Outcome.next
      ((State.svcSlot_pair hport hframe hin).trans ((State.cancelPair_of_pending hmbx).trans (if_neg (ne_true_of_eq_false hacts)))))
      (fun _ => ⟨hmbx, rfl⟩)
  · subst hp
    exact completes_of_outFrame (execSvcCancel_frame (parts_in rfl) (fun _ hr => hr)) (congrArg Host.Outcome.next
      ((State.svcSlot_pair hport hframe hin).trans (State.cancelPair_of_other h1 h2))) (fun _ => rfl)
  · exact completes_of_outFrame (execSvcCancel_frame (parts_in rfl) (fun _ hr => hr))
      (congrArg Host.Outcome.next (State.svcSlot_bad hport hframe)) (fun _ => State.svcErr_leaves)
  · exact completes_of_outFrame (execSvcCancel_frame (parts_in rfl) (fun _ hr => hr))
      (congrArg Host.Outcome.next (State.svcSlot_outside hport hframe hout)) (fun _ => State.svcErr_leaves)
  · exact completes_of_outFrame (execSvcCancel_frame (parts_in rfl) (fun _ hr => hr))
      (congrArg Host.Outcome.next (State.svcSlot_gated hport)) (fun _ => rfl)
  · exact completes_of_outFrame (c := .svcStatus false) (execSvcStatus_frame (parts_in rfl)) (exec_svcStatus_sent hport)
      (fun _ => ⟨⟨_, rfl, by rw [← State.statusBytes_eq]; rfl⟩, rfl⟩)
  · exact completes_of_outFrame (c := .svcStatus true) (execSvcStatus_frame (parts_in rfl)) (exec_svcStatus_cut hport) (fun _ => ⟨rfl, rfl⟩)
  · exact completes_of_outFrame (c := .svcStatus cut) (execSvcStatus_frame (parts_in rfl)) (exec_svcStatus_gated hport) (fun _ => rfl)
  · refine completes_of_outFrame (execPortReset_frame (parts_in rfl) (fun _ hr => hr)) (exec_portReset_closes hport hframe) (fun _ => ?_)
    exact (State.closeSessions_sessions _).trans (filter_ids _ hids)
  · exact completes_of_outFrame (execPortReset_frame (parts_in rfl) (fun _ hr => hr)) (exec_portReset_bad hport hframe)
      (fun _ => State.svcErr_leaves)
  · exact completes_of_outFrame (execPortReset_frame (parts_in rfl) (fun _ hr => hr)) (exec_portReset_gated hport) (fun _ => rfl)
  · refine completes_of_outFrame (c := .svcUnknownOpcode) (execSvcUnknownOpcode_frame (parts_in rfl)) (t := s.svcErr 2) ?_ (fun _ => State.svcErr_leaves)
    refine congrArg Host.Outcome.next ?_
    rw [hport]
    rfl
  · refine completes_of_outFrame (c := .svcUnknownOpcode) (execSvcUnknownOpcode_frame (parts_in rfl)) (t := s) ?_ (fun _ => rfl)
    refine congrArg Host.Outcome.next ?_
    rw [hport]
    rfl

end Sys2Proof.Machine
end

section
set_option Elab.async false
/-! SERVO TICKS AND WEDGES (04, 05). What a tick of the inner loop keeps through its stages: the sample time, the lane enable bits, the
coupling that it took (R102), a disabled lane at rest (R86) and the captures of the sections that it has still to come to (R108). -/

namespace Sys2Proof.Machine

variable {s t a b c : State} {n : Fin 8} {k : Fin 4}

/-! ### What a stage of the tick keeps -/

/-- The registers that every stage after the strobe leaves as they are. -/
def steadyFlds : List Fld := [mangFld, .TUS_STATUS_XC_PENDING, .TUS_SEC_CTRL_LANE_EN 0, .TUS_SEC_CTRL_LANE_EN 1,
  .TUS_SEC_CTRL_LANE_EN 2, .TUS_SEC_CTRL_LANE_EN 3]

/-- The registers that a stage after the strobe may write, beside CAP_DONE. -/
def tickRegs : List Regs := alarmRegs ++ haltRegs ++ ([.arr (.WTH_VCM_STATUS_IMEAS 0) 0x4 4, .arr (.WTH_MA_STATUS_VOUT 0) 0x4 8,
  .arr (.WTH_MA_STATUS_STRAIN 0) 0x4 8, .fld .TUS_STATUS_NUM_SAT, .arr (.TUS_SEC_STATUS_REGION 0) 0x40 4,
  .arr (.TUS_SEC_STATUS_REGION_PEND 0) 0x40 4, .arr (.TUS_SEC_STATUS_SAT 0) 0x40 4, .arr (.TUS_SEC_STATUS_WINH 0) 0x40 4,
  .arr (.TUS_SEC_STATUS_MISS1 0) 0x40 4, .arr (.TUS_SEC_STATUS_MISS0 0) 0x40 4, .arr (.TUS_SAT_CNT_COUNT 0) 0x40 4,
  .arr (.TUS_SEC_INFO_AGE1 0) 0x40 4, .arr (.TUS_SEC_INFO_AGE0 0) 0x40 4, .arr (.TUS_SEC_INFO_CAP_EXP 0) 0x40 4,
  .grid (.TUS_CAP_M 0 0) 0x40 4 0x4 8, .fld .TUS_SPN_REF_REF] : List Regs) ++ ([.arr (.TUS_SEEK_STATUS_SEEK_SEQ 0) 0x20 4,
  .arr (.TUS_SEEK_STATUS_SEEKING 0) 0x20 4, .arr (.TUS_SEEK_STATUS_PHASE 0) 0x20 4, .arr (.TUS_SEEK_STATUS_HINT_REJ 0) 0x20 4,
  .arr (.TUS_SEEK_STATUS_PARAM_ERR 0) 0x20 4, .arr (.TUS_SEEK_STATUS_HINT_ACTIVE 0) 0x20 4,
  .arr (.TUS_SEEK_STATUS_SETTLED 0) 0x20 4, .fld .SDG_WF_STATUS_SHOCK_ACTIVE] : List Regs) ++
  ([.arr (.MWQ_STATUS_BLOCKED 0) 0x20 16, .arr (.MWQ_STATUS_OUTST 0) 0x20 16, .arr (.MWC_PI_PASS 0) 0x20 4, .arr (.MWC_PI_PI 0) 0x20 4,
  .arr (.MWC_STATUS_SCAN_STOP 0) 0x20 4, .arr (.MWC_STATUS_SPILL_CNT 0) 0x20 4, .fld .MWQ_SYS_STATUS_FLUSH, .fld .MWQ_SYS_STATUS_CAL,
  .fld .SLU_STATUS_LED_FREE,  .arr (.SLU_SEC_FREE_FREE 0) 0x4 4, .arr (.SLU_SEC_RUN_RUN 0) 0x4 4,
    .arr (.SLU_CRED_USED_USED 0) 0x4 32] : List Regs)

theorem tickRegs_apart_steady : ∀ g ∈ steadyFlds, tickRegs.all (fun r => r.apartB g) = true := by decide +kernel

theorem tickRegs_apart_done : ∀ k : Fin 4, tickRegs.all (fun r => r.apartB (.TUS_SEC_STATUS_CAP_DONE k)) = true := by
  decide +kernel

/-- A lane without a prediction and without a latched wedge. -/
def Lane.Resting (l : Lane) : Prop := l.xp = {} ∧ l.latch = none

/-- From `a` to `b`: the sample time, the lane enable bits and the coupling stay, and lane `n`, when it is disabled and rests, goes on
resting. -/
structure State.Calm (n : Fin 8) (a b : State) : Prop where
  regs : ∀ g ∈ steadyFlds, b.get g = a.get g
  xc : b.tus.xc = a.tus.xc
  xcExp : b.tus.xcExp = a.tus.xcExp
  rest : a.laneOn n = false → (a.lane n).Resting → (b.lane n).Resting

/-- From `a` to `b` section `k`'s capture stays as well. -/
structure State.Kept (n : Fin 8) (k : Fin 4) (a b : State) : Prop extends State.Calm n a b where
  done : b.get (.TUS_SEC_STATUS_CAP_DONE k) = a.get (.TUS_SEC_STATUS_CAP_DONE k)
  pend : (b.sec k).capPend = (a.sec k).capPend

theorem laneEn_steady : ∀ n : Fin 8, Fld.TUS_SEC_CTRL_LANE_EN (n / 2) ∈ steadyFlds := by decide

theorem State.laneOn_of_steady (h : ∀ g ∈ steadyFlds, b.get g = a.get g) (n : Fin 8) : b.laneOn n = a.laneOn n := by
  unfold State.laneOn
  rw [h _ (laneEn_steady n)]

theorem State.Calm.refl : a.Calm n a := ⟨fun _ _ => rfl, rfl, rfl, fun _ h => h⟩

theorem State.Calm.trans (h1 : a.Calm n b) (h2 : b.Calm n c) : a.Calm n c :=
  ⟨fun g hg => (h2.regs g hg).trans (h1.regs g hg), h2.xc.trans h1.xc, h2.xcExp.trans h1.xcExp,
    fun hoff hrest => h2.rest ((State.laneOn_of_steady h1.regs n).trans hoff) (h1.rest hoff hrest)⟩

theorem State.Kept.refl : a.Kept n k a := ⟨.refl, rfl, rfl⟩

theorem State.Kept.trans (h1 : a.Kept n k b) (h2 : b.Kept n k c) : a.Kept n k c :=
  ⟨h1.toCalm.trans h2.toCalm, h2.done.trans h1.done, h2.pend.trans h1.pend⟩

/-- A stage within its registers keeps all that it does not change of the servo engine. -/
theorem State.Kept.of_within {W : List Part} (h : Frame W tickRegs a b) (hsecs : (b.sec k).capPend = (a.sec k).capPend)
    (hxc : b.tus.xc = a.tus.xc) (hexp : b.tus.xcExp = a.tus.xcExp)
    (hlane : a.laneOn n = false → (a.lane n).Resting → (b.lane n).Resting) : a.Kept n k b :=
  ⟨⟨fun g hg => h.get (tickRegs_apart_steady g hg), hxc, hexp, hlane⟩, h.get (tickRegs_apart_done k), hsecs⟩

/-- A stage that leaves the servo engine alone. -/
theorem State.Kept.of_frame {W : List Part} (h : Frame W tickRegs a b) (hW : Part.tus ∉ W) : a.Kept n k b := by
  have htus : b.tus = a.tus := h.same .tus hW
  refine .of_within h ?_ ?_ ?_ (fun _ hrest => ?_)
  · rw [State.sec_of_tus htus]
  · rw [htus]
  · rw [htus]
  · rwa [State.lane, htus]

theorem State.Kept.set {f : Fld} {v : Nat} (hf : Covers tickRegs f) : a.Kept n k (a.set f v) :=
  .of_frame (W := []) (State.set_frame hf (Frame.refl _ _ a)) (by decide)

theorem State.Kept.updSec {j : Nat} {f : Section → Section} (hf : ∀ x, (f x).capPend = x.capPend) : a.Kept n k (a.updSec j f) := by
  refine .of_within (W := [.tus]) (State.updSec_frame (fun _ hp => hp) (Frame.refl _ _ a)) ?_ rfl rfl (fun _ h => h)
  by_cases hj : (k : Nat) = j
  · rw [← hj, State.updSec_sec_self, hf]
  · rw [State.updSec_sec_ne _ hj]

/-- A change of an enabled lane, or one that lets a lane rest. -/
theorem State.Kept.updLane {j : Nat} {f : Lane → Lane} (hf : a.laneOn j = false → ∀ l : Lane, l.Resting → (f l).Resting) :
    a.Kept n k (a.updLane j f) := by
  refine .of_within (W := [.tus]) (State.updLane_frame (fun _ hp => hp) (Frame.refl _ _ a)) rfl rfl rfl (fun hoff hrest => ?_)
  by_cases hj : (n : Nat) = j
  · rw [← hj, State.updLane_lane_self]
    exact hf (hj ▸ hoff) _ hrest
  · rwa [State.updLane_lane_ne _ hj]

theorem State.Kept.when {q : Bool} {f : State → State} (h : q = true → a.Kept n k (f a)) : a.Kept n k (a.when q f) := by
  cases q
  · exact .refl
  · exact h rfl

theorem State.Kept.ite {p : Prop} [Decidable p] {x y : State} (hx : p → a.Kept n k x) (hy : ¬ p → a.Kept n k y) :
    a.Kept n k (if p then x else y) := by
  split
  · exact hx ‹_›
  · exact hy ‹_›

theorem State.Kept.forN {m : Nat} {f : Nat → State → State} (h : ∀ i (t : State), t.Kept n k (f i t)) : a.Kept n k (a.forN m f) :=
  State.forN_inv (Inv := fun t => a.Kept n k t) .refl (fun i _ t ht => ht.trans (h i t))

/-! ### The stages of a section -/

theorem State.plan_kept {j : Nat} {lims : List Nat} {target : Int} {st : Int × Int × Int} : a.Kept n k (a.plan j lims target st) :=
  .updSec (fun _ => rfl)

theorem State.lanePredict_kept {j : Nat} {dr dv : Int} (hon : a.laneOn j = true) : a.Kept n k (a.lanePredict j dr dv) :=
  .updLane (fun hoff => by rw [hon] at hoff; cases hoff)

theorem State.sampleLimits_kept {j : Nat} : a.Kept n k (a.sampleLimits j) := by
  unfold State.sampleLimits
  extract_lets q regs take
  refine .ite (fun _ => ?_) (fun _ => .refl)
  refine .trans (b := a.when (regs.any (· == 0)) (fun s => s.set (.TUS_SEEK_STATUS_PARAM_ERR j) 1)) (.when fun _ => .set ?_)
    (.ite (fun _ => .refl) (fun _ => .ite (fun _ => State.plan_kept) (fun _ => .updSec (fun _ => rfl))))
  exact cov_arr (f := .TUS_SEEK_STATUS_PARAM_ERR 0) (k := 0x20) (m := 4) (fun _ hr => hr) (by decide +kernel) (by decide) rfl

theorem State.sampleGo_kept {j : Nat} : a.Kept n k (a.sampleGo j) := by
  unfold State.sampleGo
  extract_lets hint busy q pri s1
  have hs1 : a.Kept n k s1 := .updSec (fun _ => rfl)
  clear_value s1
  refine .ite (fun _ => .set ?_) (fun _ => .ite (fun _ => .set ?_) (fun _ => hs1.trans ?_))
  · exact cov_arr (f := .TUS_SEEK_STATUS_HINT_REJ 0) (k := 0x20) (m := 4) (fun _ hr => hr) (by decide +kernel) (by decide) rfl
  · exact cov_arr (f := .TUS_SEEK_STATUS_PARAM_ERR 0) (k := 0x20) (m := 4) (fun _ hr => hr) (by decide +kernel) (by decide) rfl
  refine State.plan_kept.trans (State.Kept.of_frame (W := [.aq]) (State.telServo_frame (fun _ hp => hp) (State.setIf_frame ?_
    (State.set_frame ?_ (State.set_frame ?_ (State.inc_frame ?_ (Frame.refl _ _ _)))))) (by decide))
  · exact cov_arr (f := .TUS_SEEK_STATUS_HINT_ACTIVE 0) (k := 0x20) (m := 4) (fun _ hr => hr) (by decide +kernel) (by decide) rfl
  · exact cov_arr (f := .TUS_SEEK_STATUS_SETTLED 0) (k := 0x20) (m := 4) (fun _ hr => hr) (by decide +kernel) (by decide) rfl
  · exact cov_arr (f := .TUS_SEEK_STATUS_SEEKING 0) (k := 0x20) (m := 4) (fun _ hr => hr) (by decide +kernel) (by decide) rfl
  · exact cov_arr (f := .TUS_SEEK_STATUS_SEEK_SEQ 0) (k := 0x20) (m := 4) (fun _ hr => hr) (by decide +kernel) (by decide) rfl

theorem State.sampleAbandon_kept {j : Nat} : a.Kept n k (a.sampleAbandon j) := by
  unfold State.sampleAbandon
  exact .ite (fun _ => State.plan_kept) (fun _ => .refl)

/-- What an outer update delivers goes to enabled lanes only (R112). -/
theorem State.deliver_kept {j : Nat} {on : Bool} {r v acc : Int} {dr dv : State → Int} : a.Kept n k
    (a.when (a.laneOn j && on) (fun s =>
      (s.updLane j (fun l => { l with r := r, v := v, acc := acc })).lanePredict j (dr s) (dv s))) :=
  .when fun h => by
    have hon : a.laneOn j = true := (Bool.and_eq_true_iff.1 h).1
    exact State.Kept.trans (.updLane (fun hoff => by rw [hon] at hoff; cases hoff)) (State.lanePredict_kept hon)

theorem State.outerUpdate_kept {j : Nat} : a.Kept n k (a.outerUpdate j) := by
  unfold State.outerUpdate
  extract_lets cmd s1 s2 q
  have hs1 : a.Kept n k s1 := by
    unfold s1
    refine State.Kept.trans ?_ State.sampleLimits_kept
    exact .updSec (fun _ => rfl)
  have hs2 : a.Kept n k s2 := by
    refine hs1.trans ?_
    unfold s2
    rcases cmd with _ | _ | _
    · exact .refl
    · exact State.sampleAbandon_kept
    · exact State.sampleGo_kept
  clear_value q s2
  refine hs2.trans (.ite (fun _ => ?_) (fun _ => .refl))
  rcases q.now with ⟨⟨p, v, acc⟩, ph⟩
  dsimp only
  refine State.Kept.trans (.trans (.set ?_) (.updSec ?_)) (.forN (fun i t => ?_))
  on_goal 2 => exact fun _ => rfl
  on_goal 2 => exact State.deliver_kept (dr := fun s => _ - (s.lane (2 * j + i)).r) (dv := fun s => v - (s.lane (2 * j + i)).v)
  exact cov_arr (f := .TUS_SEEK_STATUS_PHASE 0) (k := 0x20) (m := 4) (fun _ hr => hr) (by decide +kernel) (by decide) rfl

theorem State.countSettle_kept {j : Nat} : a.Kept n k (a.countSettle j) := by
  unfold State.countSettle
  exact .ite (fun _ => .updSec (fun _ => rfl)) (fun _ => .refl)

theorem State.activateRegion_kept {j : Nat} : a.Kept n k (a.activateRegion j) := by
  unfold State.activateRegion
  rcases (a.sec j).shadow with _ | ⟨r, words⟩
  · exact .refl
  refine State.Kept.trans (.trans (.updSec ?_) (.set ?_)) (.set ?_)
  · exact fun _ => rfl
  · exact cov_arr (f := .TUS_SEC_STATUS_REGION 0) (k := 0x40) (m := 4) (fun _ hr => hr) (by decide +kernel) (by decide) rfl
  · exact cov_arr (f := .TUS_SEC_STATUS_REGION_PEND 0) (k := 0x40) (m := 4) (fun _ hr => hr) (by decide +kernel) (by decide) rfl

theorem State.step12_kept {j : Nat} : a.Kept n k (a.step12 j) := by
  unfold State.step12
  extract_lets pri s1 s2 s3
  have hs1 : a.Kept n k s1 := by
    unfold s1
    exact .updSec (fun _ => rfl)
  have hs2 : s1.Kept n k s2 := by
    unfold s2
    refine .forN (fun i t => .when fun hon => .trans (State.lanePredict_kept hon) (.updLane (fun _ _ h => h)))
  have hs3 : s2.Kept n k s3 := State.countSettle_kept
  clear_value s1 s2 s3
  exact hs1.trans (hs2.trans (hs3.trans (.when fun _ => State.outerUpdate_kept.trans State.activateRegion_kept)))

theorem State.vibTerm_kept {j : Nat} : a.Kept n k (a.vibTerm j) := by
  unfold State.vibTerm
  exact .updSec (fun _ => rfl)

theorem State.judgeZone_kept {j : Nat} {temp : List Int} : a.Kept n k (a.judgeZone j temp) := by
  unfold State.judgeZone
  extract_lets l track t thr was s1
  have hs1 : a.Kept n k s1 := by
    unfold s1
    exact .updSec (fun _ => rfl)
  clear_value s1
  exact hs1.trans (.of_frame (W := [.mq]) (State.when_frame (Frame.refl _ _ s1) (fun _ ht => State.needCal_frame (fun _ hp => hp)
    (regs_sub (A := tickRegs) (fun _ hr => hr) (by decide +kernel)) ht)) (by decide))

theorem State.judgeSat_kept {j : Nat} : a.Kept n k (a.judgeSat j) := by
  unfold State.judgeSat
  extract_lets sat run s1 m
  have hs1 : a.Kept n k s1 := by
    unfold s1
    refine State.Kept.trans (.updSec ?_) (.of_frame (W := []) (State.setIf_frame ?_ (Frame.refl _ _ _)) (by decide))
    · exact fun _ => rfl
    · exact cov_arr (f := .TUS_SEC_STATUS_SAT 0) (k := 0x40) (m := 4) (fun _ hr => hr) (by decide +kernel) (by decide) rfl
  clear_value sat run s1 m
  refine hs1.trans (State.Kept.trans (.set ?_) (.when fun _ => .set ?_))
  · exact cov_fld (A := tickRegs) (fun _ hr => hr) (by decide +kernel)
  · exact cov_arr (f := .TUS_SAT_CNT_COUNT 0) (k := 0x40) (m := 4) (fun _ hr => hr) (by decide +kernel) (by decide) rfl

theorem State.fetchRegion_kept {j r : Nat} : a.Kept n k (a.fetchRegion j r) := by
  unfold State.fetchRegion
  refine State.Kept.trans (.updSec ?_) (.set ?_)
  · exact fun _ => rfl
  · exact cov_arr (f := .TUS_SEC_STATUS_REGION_PEND 0) (k := 0x40) (m := 4) (fun _ hr => hr) (by decide +kernel) (by decide) rfl

theorem State.selectRegion_kept {j : Nat} : a.Kept n k (a.selectRegion j) := by
  unfold State.selectRegion
  extract_lets w x
  refine .ite (fun _ => .refl) (fun _ => ?_)
  split
  · exact .ite (fun _ => .refl) (fun _ => State.fetchRegion_kept)
  · exact .ite (fun _ => .updSec (fun _ => rfl)) (fun _ => .ite (fun _ => .refl) (fun _ => State.fetchRegion_kept))

/-! ### The stages of a lane -/

theorem State.laneTick_kept {j : Nat} {x : Strobe} (hon : a.laneOn j = true) : a.Kept n k (a.laneTick j x) := by
  unfold State.laneTick
  extract_lets
  refine State.Kept.trans (.updLane (fun hoff => by rw [hon] at hoff; cases hoff))
    (.when fun _ => .of_frame (W := []) (State.set_frame ?_ (State.set_frame ?_ (Frame.refl _ _ _))) (by decide))
  · unfold ageFld
    exact cov_ite (cov_arr (f := .TUS_SEC_INFO_AGE0 0) (k := 0x40) (m := 4) (fun _ hr => hr) (by decide +kernel) (by decide) rfl)
      (cov_arr (f := .TUS_SEC_INFO_AGE1 0) (k := 0x40) (m := 4) (fun _ hr => hr) (by decide +kernel) (by decide) rfl)
  · unfold missFld
    exact cov_ite (cov_arr (f := .TUS_SEC_STATUS_MISS0 0) (k := 0x40) (m := 4) (fun _ hr => hr) (by decide +kernel) (by decide) rfl)
      (cov_arr (f := .TUS_SEC_STATUS_MISS1 0) (k := 0x40) (m := 4) (fun _ hr => hr) (by decide +kernel) (by decide) rfl)

theorem State.laneOff_resting {j : Nat} : ((a.laneOff j).lane j).Resting := by
  unfold State.laneOff
  rw [State.updLane_lane_self]
  exact ⟨rfl, rfl⟩

theorem State.laneOff_kept {j : Nat} : a.Kept n k (a.laneOff j) := by
  unfold State.laneOff
  exact .updLane (fun _ _ _ => ⟨rfl, rfl⟩)

theorem State.judgeWinh_kept {j : Nat} : a.Kept n k (a.judgeWinh j) := by
  unfold State.judgeWinh
  extract_lets far other
  refine State.Kept.trans (.updLane ?_) (.of_frame (W := [.seqs, .chans]) (State.showWinh_frame (fun _ hp => hp)
    (regs_sub (A := tickRegs) (fun _ hr => hr) (by decide +kernel)) (Frame.refl _ _ _)) (by decide))
  exact fun _ _ h => h

theorem State.outputs_kept {cmds : List Dy} {j : Nat} : a.Kept n k (a.outputs cmds j) := by
  unfold State.outputs
  extract_lets d s1
  have hs1 : a.Kept n k s1 := by
    unfold s1
    refine State.Kept.trans (.updSec ?_) (.of_frame (W := [.withy]) (State.driveVcm_frame (fun _ hp => hp) (Frame.refl _ _ _)) (by decide))
    exact fun _ => rfl
  clear_value s1
  exact hs1.trans (.of_frame (W := [.withy]) (State.forN_frame (Frame.refl _ _ s1) (fun i t ht => State.driveMa_frame
    (regs_sub (A := tickRegs) (fun _ hr => hr) (by decide +kernel)) (upd_withy (fun _ hp => hp) ht))) (by decide))

/-- A stage that writes none of what a tick keeps of the servo engine. -/
theorem State.Kept.of_tus {W : List Part} {u : Tus} (h : Frame W tickRegs a b) (hb : b.tus = u) (hsecs : u.secs = a.tus.secs)
    (hlanes : u.lanes = a.tus.lanes) (hxc : u.xc = a.tus.xc) (hexp : u.xcExp = a.tus.xcExp) : a.Kept n k b := by
  subst hb
  refine .of_within h ?_ hxc hexp (fun _ hrest => ?_)
  · rw [State.sec, State.sec, hsecs]
  · rwa [State.lane, hlanes]

theorem State.rv_kept (l : List Int) : a.Kept n k { a with tus := { a.tus with rv := l } } :=
  .of_within (W := [.tus]) (upd_tus (fun _ hp => hp) (Frame.refl _ _ a)) rfl rfl rfl (fun _ h => h)

theorem State.spinRate_kept (r v : Int) : a.Kept n k { a with tus := { a.tus with ref := r, rate := v } } :=
  .of_within (W := [.tus]) (upd_tus (fun _ hp => hp) (Frame.refl _ _ a)) rfl rfl rfl (fun _ h => h)

theorem State.spinLoop_kept {x : Strobe} : a.Kept n k (a.spinLoop x) := by
  refine State.Kept.of_tus (W := [.withy, .tus]) (u := (a.spinLoop x).tus) (State.spinLoop_frame (fun _ hp => hp) (Frame.refl _ _ a)) rfl
    ?_ ?_ ?_ ?_
  all_goals unfold State.spinLoop; split <;> rfl

theorem State.spinRef_kept : a.Kept n k a.spinRef := by
  unfold State.spinRef
  refine .ite (fun _ => .refl) (fun _ => ?_)
  generalize a.spinPlan = p
  dsimp only
  refine State.Kept.trans (b := a.set .TUS_SPN_REF_REF _) (.set (cov_fld (A := tickRegs) (fun _ hr => hr) (by decide +kernel)))
    (State.spinRate_kept _ _)

/-! ### The tick in stages -/

/-- Up to the frames of TIMEBASE: the time of the strobe and what the timebase does at it (R39, R46, R47). -/
def State.tickOpen (s : State) (x : Strobe) : State :=
  let wrapped := decide (x.mang.toNat < s.mang.toNat)
  let s := s.when (wrapped && (s.get .TIDE_STATUS_STATE == 5 || s.tide.reacquiring)) (fun s =>
    { s with tide := { s.tide with holdRevs := s.tide.holdRevs + 1 } })
  (((s.atMang x.mang).slewMang.timingLoop x).convertAdvance x.period).timebaseFrames

/-- The pending coupling is taken (R102). -/
def State.tickCouple (s : State) : State :=
  s.when (s.is .TUS_STATUS_XC_PENDING) (fun s =>
    let m (i j : Nat) : Int := s.getS (.TUS_XC_M i j)
    { s.set .TUS_STATUS_XC_PENDING 0 with tus := { s.tus with
      xc := (List.range 16).map (fun i => m (i / 4) (i % 4)), xcExp := s.getS .TUS_XC_EXP_EXP } })

/-- What the strobe brings of vibration, current and strain. -/
def State.tickSense (s : State) (x : Strobe) : State :=
  let s := s.shockTick x.vib
  let s := s.forN 4 (fun k s => s.setS (.WTH_VCM_STATUS_IMEAS k) (x.imeas.getD k 0))
  s.forN 8 (fun n s => match x.strain.getD n none with
    | some v => s.setS (.WTH_MA_STATUS_STRAIN n) v
    | none => s)

/-- The lanes' turn (R86–R90). -/
def State.tickLanes (s : State) (x : Strobe) : State := s.forN 8 (fun n s => if s.laneOn n then s.laneTick n x else s.laneOff n)

/-- The sections' outputs and the rotational sample (R95, R103). -/
def State.tickDrive (s : State) (x : Strobe) : State :=
  let c := (List.range 4).map s.combined
  let s := s.forN 4 (fun k s => s.outputs c k)
  let rv := s.getS .TUS_RV_CFG_G01 * (x.vib.getD 0 0 - x.vib.getD 1 0) + s.getS .TUS_RV_CFG_G23 * (x.vib.getD 2 0 - x.vib.getD 3 0)
  { s with tus := { s.tus with rv := (rv :: s.tus.rv).take 16 } }

/-- The capture of section `k`, where one is pending (R108). -/
def State.takeCapture (s : State) (k : Nat) : State :=
  s.when (s.sec k).capPend (fun s =>
    let l := s.lane (2 * k + s.get (.TUS_SEC_CTRL_CAP_LANE k))
    let s := s.forN 8 (fun i s => s.setS (.TUS_CAP_M k i) (l.xc.m.getD i 0))
    let s := (s.setS (.TUS_SEC_INFO_CAP_EXP k) l.xc.e).set (.TUS_SEC_STATUS_CAP_DONE k) 1
    s.updSec k (fun x => { x with capPend := false }))

/-- Section `k`'s turn after the outputs. -/
def State.tickSection (s : State) (x : Strobe) (k : Nat) : State :=
  (((((s.vibTerm k).step12 k).judgeZone k x.temp).judgeSat k).takeCapture k).selectRegion k

/-- The write inhibits, and the two loops of the spindle. -/
def State.tickClose (s : State) (x : Strobe) : State :=
  let s := s.forN 8 (fun n s => s.judgeWinh n)
  let s := s.forN 4 (fun k s => s.when (s.is (.TUS_SEC_STATUS_WINH k)) (fun s =>
    s.telServo k (fun x => { x with inhibits := (x.inhibits + 1) % 2 ^ 32 })))
  (s.spinLoop x).spinRef

theorem State.tick_stages (x : Strobe) : s.tick x =
    (((((s.tickOpen x).tickCouple.tickSense x).tickLanes x).tickDrive x).forN 4 (fun k s => s.tickSection x k)).tickClose x := rfl

theorem State.tickSense_kept {x : Strobe} : a.Kept n k (a.tickSense x) := by
  unfold State.tickSense
  refine .of_frame (W := [.mireIrq, .fenIrq, .seqs, .chans, .shockQuiet, .stg, .lev, .peat]) ?_ (by decide)
  refine State.forN_frame (State.forN_frame (State.shockTick_frame (fun _ hp => hp)
    (regs_sub (A := tickRegs) (fun _ hr => hr) (by decide +kernel)) (Frame.refl _ _ a)) (fun i t ht => State.setS_frame ?_ ht))
    (fun i t ht => ?_)
  · exact cov_arr (f := .WTH_VCM_STATUS_IMEAS 0) (k := 0x4) (m := 4) (fun _ hr => hr) (by decide +kernel) (by decide) rfl
  split
  · refine State.setS_frame ?_ ht
    exact cov_arr (f := .WTH_MA_STATUS_STRAIN 0) (k := 0x4) (m := 8) (fun _ hr => hr) (by decide +kernel) (by decide) rfl
  · exact ht

theorem State.laneTurn_kept {x : Strobe} {j : Nat} : a.Kept n k (if a.laneOn j then a.laneTick j x else a.laneOff j) :=
  .ite (fun hon => State.laneTick_kept hon) (fun _ => State.laneOff_kept)

theorem State.tickLanes_kept {x : Strobe} : a.Kept n k (a.tickLanes x) := .forN fun _ _ => State.laneTurn_kept

/-- A disabled lane rests once the lanes have had their turn. -/
theorem State.tickLanes_rest {x : Strobe} (hoff : a.laneOn n = false) : ((a.tickLanes x).lane n).Resting := by
  have hinv : ∀ j < 8, ∀ t : State, t.laneOn n = false → (if t.laneOn j then t.laneTick j x else t.laneOff j).laneOn n = false :=
    fun j _ t ht => (State.laneOn_of_steady (State.laneTurn_kept (n := n) (k := 0)).regs n).trans ht
  refine (State.forN_reaches (Inv := fun t => t.laneOn n = false) (P := fun t => t.laneOn n = false ∧ (t.lane n).Resting) n.2 hoff hinv
    (fun t ht => ⟨hinv n n.2 t ht, ?_⟩)
    (fun j hj t ⟨ht, hrest⟩ => ⟨hinv j hj t ht, (State.laneTurn_kept (n := n) (k := 0)).rest ht hrest⟩)).2
  rw [if_neg (ne_true_of_eq_false ht)]
  exact State.laneOff_resting

theorem State.tickDrive_kept {x : Strobe} : a.Kept n k (a.tickDrive x) := by
  unfold State.tickDrive
  extract_lets cmds s1 rv
  have hs1 : a.Kept n k s1 := .forN fun _ _ => State.outputs_kept
  clear_value s1 rv
  exact hs1.trans (State.rv_kept _)

theorem State.tickClose_kept {x : Strobe} : a.Kept n k (a.tickClose x) := by
  unfold State.tickClose
  refine State.Kept.trans (.trans (.trans (.forN fun _ _ => State.judgeWinh_kept) (.forN fun _ _ => .when fun _ => ?_))
    State.spinLoop_kept) State.spinRef_kept
  exact .of_frame (W := [.aq]) (State.telServo_frame (fun _ hp => hp) (Frame.refl _ _ _)) (by decide)

/-! ### Captures (R108) -/

/-- The capture of section `j` is marked taken. -/
def State.markCapture (s : State) (j : Nat) : State :=
  (s.set (.TUS_SEC_STATUS_CAP_DONE j) 1).updSec j (fun x => { x with capPend := false })

/-- The states of lane `l` go to the capture registers of section `j`. -/
def State.captureWords (s : State) (j : Nat) (l : Lane) : State :=
  (s.forN 8 (fun i s => s.setS (.TUS_CAP_M j i) (l.xc.m.getD i 0))).setS (.TUS_SEC_INFO_CAP_EXP j) l.xc.e

theorem State.takeCapture_eq (j : Nat) : s.takeCapture j = s.when (s.sec j).capPend (fun s =>
    (s.captureWords j (s.lane (2 * j + s.get (.TUS_SEC_CTRL_CAP_LANE j)))).markCapture j) := rfl

theorem State.captureWords_kept {j : Nat} {l : Lane} : a.Kept n k (a.captureWords j l) := by
  refine .of_frame (W := []) (State.setS_frame ?_ (State.forN_frame (Frame.refl _ _ a) (fun i t ht => State.setS_frame ?_ ht))) (by decide)
  · exact cov_arr (f := .TUS_SEC_INFO_CAP_EXP 0) (k := 0x40) (m := 4) (fun _ hr => hr) (by decide +kernel) (by decide) rfl
  · exact cov_grid (f := .TUS_CAP_M 0 0) (k := 0x40) (m := 4) (u := 0x4) (l := 8) (fun _ hr => hr) (by decide +kernel) (by decide) (by decide) rfl

theorem doneRegs_apart_steady :
    ∀ g ∈ steadyFlds, ([.arr (.TUS_SEC_STATUS_CAP_DONE 0) 0x40 4] : List Regs).all (fun r => r.apartB g) = true := by decide +kernel

theorem State.markCapture_calm {j : Nat} : a.Calm n (a.markCapture j) := by
  refine ⟨fun g hg => ?_, rfl, rfl, fun _ h => h⟩
  exact (State.updSec_get ..).trans ((State.set_frame (cov_arr (f := .TUS_SEC_STATUS_CAP_DONE 0) (k := 0x40) (m := 4) (fun _ hr => hr)
    (by decide +kernel) (by decide) rfl) (Frame.refl [] _ a)).get (doneRegs_apart_steady g hg))

theorem State.markCapture_kept {j : Nat} (hj : j < 4) (hne : (k : Nat) ≠ j) : a.Kept n k (a.markCapture j) := by
  refine ⟨State.markCapture_calm, ?_, ?_⟩
  · exact (State.updSec_get ..).trans (State.get_set_other _ _ (by have hk := k.2; dsimp only; omega))
  · unfold State.markCapture
    rw [State.updSec_sec_ne _ hne, State.set_sec]

theorem State.markCapture_taken {j : Nat} :
    ((a.markCapture j).sec j).capPend = false ∧ (a.markCapture j).get (.TUS_SEC_STATUS_CAP_DONE j) = 1 := by
  unfold State.markCapture
  rw [State.updSec_sec_self, State.updSec_get]
  exact ⟨rfl, State.get_set_self _ _ _ (by dsimp only; omega)⟩

theorem State.takeCapture_calm {j : Nat} : a.Calm n (a.takeCapture j) := by
  rw [State.takeCapture_eq]
  cases (a.sec j).capPend
  · exact .refl
  · exact (State.captureWords_kept (k := 0)).toCalm.trans State.markCapture_calm

theorem State.takeCapture_kept {j : Nat} (hj : j < 4) (hne : (k : Nat) ≠ j) : a.Kept n k (a.takeCapture j) := by
  rw [State.takeCapture_eq]
  exact .when fun _ => State.captureWords_kept.trans (State.markCapture_kept hj hne)

theorem State.takeCapture_done {j : Nat} : ((a.takeCapture j).sec j).capPend = false ∧
    ((a.sec j).capPend = true ∨ a.get (.TUS_SEC_STATUS_CAP_DONE j) = 1 → (a.takeCapture j).get (.TUS_SEC_STATUS_CAP_DONE j) = 1) := by
  rw [State.takeCapture_eq]
  cases h : (a.sec j).capPend
  · exact ⟨h, fun hc => hc.resolve_left (fun hc => by cases hc)⟩
  · exact ⟨State.markCapture_taken.1, fun _ => State.markCapture_taken.2⟩

/-! ### The sections' turns -/

/-- Section `j` up to its capture. -/
def State.beforeCapture (s : State) (x : Strobe) (j : Nat) : State := (((s.vibTerm j).step12 j).judgeZone j x.temp).judgeSat j

theorem State.beforeCapture_kept {x : Strobe} {j : Nat} : a.Kept n k (a.beforeCapture x j) :=
  State.vibTerm_kept.trans (State.step12_kept.trans (State.judgeZone_kept.trans State.judgeSat_kept))

theorem State.tickSection_calm {x : Strobe} {j : Nat} : a.Calm n (a.tickSection x j) :=
  (State.beforeCapture_kept (k := 0)).toCalm.trans (State.takeCapture_calm.trans (State.selectRegion_kept (k := 0)).toCalm)

theorem State.tickSection_kept {x : Strobe} {j : Nat} (hj : j < 4) (hne : (k : Nat) ≠ j) : a.Kept n k (a.tickSection x j) :=
  State.beforeCapture_kept.trans ((State.takeCapture_kept hj hne).trans State.selectRegion_kept)

theorem State.tickSection_done {x : Strobe} : ((a.tickSection x k).sec k).capPend = false ∧
    ((a.sec k).capPend = true ∨ a.get (.TUS_SEC_STATUS_CAP_DONE k) = 1 →
      (a.tickSection x k).get (.TUS_SEC_STATUS_CAP_DONE k) = 1) := by
  have hbefore : a.Kept 0 k (a.beforeCapture x k) := State.beforeCapture_kept
  have hafter : ((a.beforeCapture x k).takeCapture k).Kept 0 k (a.tickSection x k) := State.selectRegion_kept
  obtain ⟨hpend, hdone⟩ := State.takeCapture_done (a := a.beforeCapture x k) (j := k)
  exact ⟨hafter.pend.trans hpend, fun h => hafter.done.trans (hdone (h.imp hbefore.pend.trans hbefore.done.trans))⟩

def State.tickSections (s : State) (x : Strobe) : State := s.forN 4 (fun k s => s.tickSection x k)

theorem State.tickSections_calm {x : Strobe} : a.Calm n (a.tickSections x) :=
  State.forN_inv (Inv := fun t => a.Calm n t) .refl (fun _ _ _ ht => ht.trans State.tickSection_calm)

/-- No capture is pending once the sections have had their turn. -/
theorem State.tickSections_pend {x : Strobe} : ((a.tickSections x).sec k).capPend = false := by
  refine State.forN_reaches (Inv := fun _ => True) (P := fun t => (t.sec k).capPend = false) k.2 trivial (fun _ _ _ _ => trivial)
    (fun t _ => State.tickSection_done.1) (fun j hj t ht => ?_)
  by_cases hne : (k : Nat) = j
  · exact hne ▸ State.tickSection_done.1
  · exact (State.tickSection_kept (n := 0) hj hne).pend.trans ht

theorem State.tickSections_done {x : Strobe} (h : (a.sec k).capPend = true) :
    (a.tickSections x).get (.TUS_SEC_STATUS_CAP_DONE k) = 1 := by
  refine (State.forN_inv (Inv := fun t => (t.sec k).capPend = true ∨ t.get (.TUS_SEC_STATUS_CAP_DONE k) = 1) (.inl h)
    (fun j hj t ht => ?_)).resolve_left (fun hc => ?_)
  · by_cases hne : (k : Nat) = j
    · subst hne
      exact .inr (State.tickSection_done.2 ht)
    · have hkept := State.tickSection_kept (n := 0) (a := t) (x := x) hj hne
      exact ht.imp hkept.pend.trans hkept.done.trans
  · rw [show ((a.forN 4 _).sec k).capPend = false from State.tickSections_pend] at hc
    cases hc

/-! ### The opening of the tick -/

theorem State.timingLoop_secs {x : Strobe} : (a.timingLoop x).tus.secs = a.tus.secs := by
  unfold State.timingLoop
  extract_lets st heads l s1
  split
  · rfl
  · rfl

/-- What the timebase does at the strobe, beside MANG. -/
def State.timebase (s : State) (x : Strobe) : State := ((s.slewMang.timingLoop x).convertAdvance x.period).timebaseFrames

theorem State.timebase_get {x : Strobe} (g : Fld) : (s.timebase x).get g = s.get g :=
  (State.timebaseFrames_frame (W := [.drawn, .tide, .tus, .chans, .links]) (by decide) (State.convertAdvance_frame (by decide)
    (State.timingLoop_frame (by decide) (State.slewMang_frame (by decide) (Frame.refl _ [] s))))).get rfl

theorem State.timebase_secs {x : Strobe} : (s.timebase x).tus.secs = s.tus.secs := by
  have hafter : (s.timebase x).tus = (s.slewMang.timingLoop x).tus :=
    (State.timebaseFrames_frame (W := [.chans, .links]) (by decide) (State.convertAdvance_frame (by decide) (Frame.refl _ [] _))).same
      .tus (by decide)
  have hbefore : s.slewMang.tus = s.tus :=
    (State.slewMang_frame (W := [.drawn, .tide]) (fun _ hp => hp) (Frame.refl _ [] s)).same .tus (by decide)
  rw [hafter, State.timingLoop_secs, hbefore]

/-- The revolution of a HOLDOVER or of a reacquisition that ends at the strobe counts. -/
def State.countRev (s : State) (x : Strobe) : State :=
  s.when (decide (x.mang.toNat < s.mang.toNat) && (s.get .TIDE_STATUS_STATE == 5 || s.tide.reacquiring)) (fun s =>
    { s with tide := { s.tide with holdRevs := s.tide.holdRevs + 1 } })

theorem State.tickOpen_eq (x : Strobe) : s.tickOpen x = ((s.countRev x).atMang x.mang).timebase x := rfl

theorem State.tickOpen_get {x : Strobe} {g : Fld} (h : g.addr ≠ 0x4E00_0000) : (s.tickOpen x).get g = s.get g := by
  rw [State.tickOpen_eq, State.timebase_get, State.atMang_get _ h]
  exact State.when_get rfl

theorem State.tickOpen_mang {x : Strobe} : (s.tickOpen x).mang = x.mang := by
  rw [State.tickOpen_eq, State.mang_of_get (State.timebase_get _)]
  exact State.regAt_putReg_self _ _ _

theorem State.tickOpen_secs {x : Strobe} : (s.tickOpen x).tus.secs = s.tus.secs := by
  rw [State.tickOpen_eq, State.timebase_secs]
  exact State.when_keeps (fun t => t.tus.secs) rfl

/-! ### The pending coupling (R102) -/

/-- A coupling becomes the active one. -/
def State.putCoupling (s : State) (m : List Int) (e : Int) : State := { s with tus := { s.tus with xc := m, xcExp := e } }

theorem State.putCoupling_get (m : List Int) (e : Int) (g : Fld) : (a.putCoupling m e).get g = a.get g := rfl

theorem State.putCoupling_secs (m : List Int) (e : Int) : (a.putCoupling m e).tus.secs = a.tus.secs := rfl

/-- The coupling that the registers hold. -/
def State.regCoupling (s : State) : List Int := (List.range 16).map (fun i => s.getS (.TUS_XC_M (i / 4) (i % 4)))

theorem State.tickCouple_eq : a.tickCouple = a.when (a.is .TUS_STATUS_XC_PENDING) (fun s =>
    (s.set .TUS_STATUS_XC_PENDING 0).putCoupling s.regCoupling (s.getS .TUS_XC_EXP_EXP)) := rfl

theorem State.tickCouple_get {g : Fld} (h : g.addr ≠ Fld.TUS_STATUS_XC_PENDING.addr) : a.tickCouple.get g = a.get g := by
  rw [State.tickCouple_eq]
  refine State.when_get ?_
  rw [State.putCoupling_get, State.get_set_other _ _ (.inl h)]

theorem State.tickCouple_pending : a.tickCouple.get .TUS_STATUS_XC_PENDING = 0 := by
  rw [State.tickCouple_eq]
  cases h : a.is .TUS_STATUS_XC_PENDING
  · simpa [State.is] using h
  · rw [State.when_true, State.putCoupling_get, State.get_set_self _ _ _ (by decide)]
    rfl

theorem State.tickCouple_secs : a.tickCouple.tus.secs = a.tus.secs := by
  rw [State.tickCouple_eq]
  exact State.when_keeps (fun t => t.tus.secs) (State.putCoupling_secs _ _)

/-- A pending coupling becomes the active one. -/
theorem State.tickCouple_xc (h : a.get .TUS_STATUS_XC_PENDING = 1) :
    a.tickCouple.tus.xc = a.regCoupling ∧ a.tickCouple.tus.xcExp = a.getS .TUS_XC_EXP_EXP := by
  rw [State.tickCouple_eq, State.is_of_get h, State.when_true]
  exact ⟨rfl, rfl⟩

theorem State.getS_of_get {f : Fld} (h : b.get f = a.get f) : b.getS f = a.getS f := congrArg (signed f.width) h

/-! ### The tick as a whole -/

/-- From the coupling taken up to the sections' turns. -/
def State.tickFirst (s : State) (x : Strobe) : State := ((s.tickSense x).tickLanes x).tickDrive x

/-- The sections that a hint has left take over, after the tick. -/
def State.tickHandover (u s : State) : State :=
  u.forN 4 (fun k v => v.when (s.is (.TUS_SEEK_STATUS_HINT_ACTIVE k) && !u.is (.TUS_SEEK_STATUS_HINT_ACTIVE k))
    (fun v => (v.takeOver k (s.sec k).seek).mwqSync))

theorem exec_innerLoopTick (x : Strobe) : exec (.innerLoopTick x) s =
    .next (((((s.tickOpen x).tickCouple.tickFirst x).tickSections x).tickClose x).tickHandover s) := rfl

theorem State.tickHandover_kept : a.Kept n k (a.tickHandover s) :=
  .forN fun j u => .when fun _ => .of_frame (W := [.dram, .drawn, .mireIrq, .fenIrq, .seqs, .chans, .stg, .lev, .peat, .slu, .mq])
    (State.mwqSync_frame (regs_sub (A := tickRegs) (fun _ hr => hr) (by decide +kernel)) (State.takeOver_frame (fun _ hp => hp)
      (regs_sub (A := tickRegs) (fun _ hr => hr) (by decide +kernel)) (Frame.refl _ _ u))) (by decide)

theorem State.tickFirst_kept {x : Strobe} : a.Kept n k (a.tickFirst x) :=
  State.tickSense_kept.trans (State.tickLanes_kept.trans State.tickDrive_kept)

theorem State.tickFirst_rest {x : Strobe} (hoff : a.laneOn n = false) : ((a.tickFirst x).lane n).Resting := by
  have hsense : (a.tickSense x).laneOn n = false := (State.laneOn_of_steady (State.tickSense_kept (k := 0) (n := n)).regs n).trans hoff
  have hlanes : ((a.tickSense x).tickLanes x).laneOn n = false :=
    (State.laneOn_of_steady (State.tickLanes_kept (k := 0) (n := n)).regs n).trans hsense
  exact (State.tickDrive_kept (k := 0)).rest hlanes (State.tickLanes_rest hsense)

theorem State.tickEnd_calm {x : Strobe} : a.Calm n (((a.tickSections x).tickClose x).tickHandover s) :=
  State.tickSections_calm.trans ((State.tickClose_kept (k := 0)).trans State.tickHandover_kept).toCalm

/-- A capture that waited at the strobe is taken by the end of the tick, and none waits then. -/
theorem State.tickEnd_captures {x : Strobe} : ((((a.tickSections x).tickClose x).tickHandover s).sec k).capPend = false ∧
    ((a.sec k).capPend = true → (((a.tickSections x).tickClose x).tickHandover s).get (.TUS_SEC_STATUS_CAP_DONE k) = 1) := by
  have hafter : (a.tickSections x).Kept 0 k (((a.tickSections x).tickClose x).tickHandover s) :=
    State.tickClose_kept.trans State.tickHandover_kept
  exact ⟨hafter.pend.trans State.tickSections_pend, fun h => hafter.done.trans (State.tickSections_done h)⟩

/-- What the strobe finds once the pending coupling is taken. -/
theorem State.tickStart_laneOn {x : Strobe} (m : Nat) : (s.tickOpen x).tickCouple.laneOn m = s.laneOn m := by
  unfold State.laneOn
  rw [State.tickCouple_get (by dsimp only; omega), State.tickOpen_get (by dsimp only; omega)]

theorem State.tickStart_pend {x : Strobe} (j : Nat) : ((s.tickOpen x).tickCouple.sec j).capPend = (s.sec j).capPend := by
  unfold State.sec
  rw [State.tickCouple_secs, State.tickOpen_secs]

theorem State.tickOpen_coupling {x : Strobe} : (s.tickOpen x).regCoupling = s.regCoupling :=
  List.map_congr_left fun i _ => State.getS_of_get (State.tickOpen_get (by dsimp only; omega))

/-- What INNER_LOOP_TICK leaves behind of the strobe, the coupling, the captures and the disabled lanes. -/
theorem State.tick_effects {x : Strobe} {u : State}
    (hu : u = ((((s.tickOpen x).tickCouple.tickFirst x).tickSections x).tickClose x).tickHandover s) :
    u.mang = x.mang ∧ u.get .TUS_STATUS_XC_PENDING = 0 ∧ (s.get .TUS_STATUS_XC_PENDING = 1 →
      u.tus.xc = s.regCoupling ∧ u.tus.xcExp = s.getS .TUS_XC_EXP_EXP) ∧
    (∀ k < 4, (u.sec k).capPend = false ∧ ((s.sec k).capPend = true → u.get (.TUS_SEC_STATUS_CAP_DONE k) = 1)) ∧
    (∀ n < 8, s.laneOn n = false → (u.lane n).Resting) := by
  have hopen : ∀ g : Fld, g.addr ≠ 0x4E00_0000 → (s.tickOpen x).get g = s.get g := fun _ h => State.tickOpen_get h
  have hend : ∀ n : Fin 8, ((s.tickOpen x).tickCouple.tickFirst x).Calm n u := fun _ => hu ▸ State.tickEnd_calm
  have hcalm : ∀ n : Fin 8, (s.tickOpen x).tickCouple.Calm n u := fun n => (State.tickFirst_kept (k := 0)).toCalm.trans (hend n)
  refine ⟨?_, ?_, fun hpend => ?_, fun k hk => ?_, fun n hn hoff => ?_⟩
  · rw [State.mang_of_get ((hcalm 0).regs _ (by decide)), State.mang_of_get (State.tickCouple_get (by decide)), State.tickOpen_mang]
  · exact ((hcalm 0).regs _ (by decide)).trans State.tickCouple_pending
  · obtain ⟨hxc, hexp⟩ := State.tickCouple_xc ((hopen _ (by decide)).trans hpend)
    exact ⟨(hcalm 0).xc.trans (hxc.trans State.tickOpen_coupling),
      (hcalm 0).xcExp.trans (hexp.trans (State.getS_of_get (hopen _ (by decide))))⟩
  · obtain ⟨hpend, hdone⟩ := State.tickEnd_captures (s := s) (a := (s.tickOpen x).tickCouple.tickFirst x) (k := ⟨k, hk⟩) (x := x)
    rw [← hu] at hpend hdone
    exact ⟨hpend, fun h => hdone ((State.tickFirst_kept (n := 0) (k := ⟨k, hk⟩)).pend.trans ((State.tickStart_pend k).trans h))⟩
  · have hoff' : (s.tickOpen x).tickCouple.laneOn (⟨n, hn⟩ : Fin 8) = false := (State.tickStart_laneOn n).trans hoff
    exact (hend ⟨n, hn⟩).rest ((State.laneOn_of_steady (State.tickFirst_kept (k := 0) (n := ⟨n, hn⟩)).regs ⟨n, hn⟩).trans hoff')
      (State.tickFirst_rest hoff')

/-! ### A wedge (R86, R87) -/

/-- What a found mark does to the surface's slip leaves the servo engine as it is. -/
def State.followSlip (s : State) (j surf : Nat) (late : Int) : State :=
  let (d, s) := s.slipStep late
  let v := s.getS (.TIDE_SURF_SLIP_SLIP surf) + d
  let s := s.setS (.TIDE_SURF_SLIP_SLIP surf) v
  s.when (decide (0x2000 < v.natAbs)) (fun s => (s.raise 0x0306 surf).needCal (j / 2))

theorem State.followSlip_tus {j surf : Nat} {late : Int} : (s.followSlip j surf late).tus = s.tus := by
  have hslip : (s.slipStep late).2.tus = s.tus :=
    (State.slipStep_frame (W := [.drawn]) (fun _ hp => hp) (Frame.refl _ [] s)).same .tus (by decide)
  unfold State.followSlip
  refine (State.when_keeps (fun t => t.tus) ?_).trans hslip
  exact ((State.needCal_frame (W := [.mq]) (fun _ hp => hp) (fun _ hr => hr) (Frame.refl _ _ _)).same .tus (by decide)).trans
    (State.raise_tus _ _ _)

/-- Lane `j` latches a wedge. -/
def State.latchWedge (s : State) (j : Nat) (p : Pes) : State := s.updLane j (fun l => { l with latch := some p })

theorem exec_pesDemod_of_on {j : Nat} {x : Demod} (hon : s.laneOn j = true) : exec (.pesDemod j x) s = .next
    (let u := s.latchWedge j { pred := BitVec.ofNat 32 (x.wedge * 0x40_0000) + s.surfAngle (s.surface j), found := x.found, pos := x.pos }
     if x.found && u.trackFollowing (j / 2) then
       State.followSlip { u with tus := { u.tus with marks := u.tus.marks ++ [x.late] } } j (s.surface j) x.late
     else u) := by
  refine (if_pos hon).trans ?_
  exact (apply_ite Host.Outcome.next _ _ _).symm

/-- The latch of a wedge, whatever the mark does beside. -/
theorem State.latchWedge_latch {j surf : Nat} {p : Pes} {q : Bool} {late : Int} :
    ((if q then State.followSlip { s.latchWedge j p with tus := { (s.latchWedge j p).tus with
      marks := (s.latchWedge j p).tus.marks ++ [late] } } j surf late else s.latchWedge j p).lane j).latch = some p := by
  have hlatch : ((s.latchWedge j p).lane j).latch = some p := by
    unfold State.latchWedge
    rw [State.updLane_lane_self]
  split
  · rw [State.lane, State.followSlip_tus]
    exact hlatch
  · exact hlatch

/-- Settles O15: the tick goes through its stages, each of which keeps what the clause names except where it is that stage's own
work; the other commands are one write each. -/
theorem servoTicksAndWedges : Obligations.ServoTicksAndWedges := by
  unfold Obligations.ServoTicksAndWedges
  refine ⟨fun s x => ?_, fun s n x hon => ?_, fun s n x hoff => ?_, fun s n hn hmiss => ?_, fun s k hk hsat => ?_,
    fun s n hinh hquiet hother => ?_, fun s => ?_, fun s k => ?_, fun s hact hhold => ?_⟩
  · exact completes_of_outFrame (execInnerLoopTick_frame (parts_in rfl) (fun _ hr => hr)) (exec_innerLoopTick x)
      (fun _ => State.tick_effects rfl)
  · exact completes_of_outFrame (execPesDemod_frame (parts_in rfl) (fun _ hr => hr)) (exec_pesDemod_of_on hon)
      (fun _ => State.latchWedge_latch)
  · exact completes_of_outFrame (execPesDemod_frame (parts_in rfl) (fun _ hr => hr)) (if_neg (ne_true_of_eq_false hoff)) (fun _ => rfl)
  · refine completes_of_outFrame (execTusPesLost_frame (parts_in rfl) (fun _ hr => hr)) rfl (fun _ => ?_)
    rw [hmiss]
    exact (State.latched_of_lev (s := s.raise 0x0501 n) rfl _ _).trans (State.raise_latched_true (by decide +kernel))
  · refine completes_of_outFrame (execTusNumSat_frame (parts_in rfl) (fun _ hr => hr)) rfl (fun _ => ?_)
    rw [hsat]
    show (((s.raise 0x0502 k).when s.mireActs fun s => s.startRetract k)).latched 0x0502 k = true
    refine (State.latched_of_lev (State.when_keeps (fun t => t.lev) ?_) _ _).trans (State.raise_latched_true (by decide +kernel))
    exact (State.startRetract_frame (fun _ hp => hp) (fun _ hr => hr) (Frame.refl _ _ _)).same .lev (by decide)
  · refine completes_of_outFrame (execWinhLift_frame (parts_in rfl) (fun _ hr => hr)) rfl (fun _ => ?_)
    rw [hinh, hquiet, hother]
    have htus := (State.showWinh_frame (n := n) (fun _ hp => hp) (fun _ hr => hr)
      (Frame.refl _ _ (s.updLane n (fun l => { l with errInh := false })))).same .tus (by decide)
    show ((State.showWinh _ n).lane n).errInh = false
    rw [State.lane, htus]
    exact congrArg Lane.errInh (State.updLane_lane_self n _)
  · exact completes_of_outFrame (execXcCommit_frame (parts_in rfl) (fun _ hr => hr)) rfl
      (fun _ => ⟨State.get_set_self _ _ _ (by decide), rfl⟩)
  · refine completes_of_outFrame (execCapGo_frame (parts_in rfl) (fun _ hr => hr)) rfl (fun _ => ⟨?_, ?_, rfl⟩)
    · rw [State.updSec_sec_self]
    · exact (State.updSec_get ..).trans (State.get_set_self _ _ _ (by dsimp only; omega))
  · refine completes_of_outFrame (execShockLift_frame (fun _ hr => hr)) rfl (fun _ => ?_)
    rw [State.is_of_get hact, decide_eq_true hhold]
    exact State.get_set_self _ _ _ (by decide)

end Sys2Proof.Machine
end

section
set_option Elab.async false
/-! THE SPINDLE'S AND THE SECTIONS' STEPS (03, 10). What a start or a stop of the spindle, a speed, a source, a section's load and the
end of the start sequence leave in the registers (R60, R66, R70, R235, R482). -/

namespace Sys2Proof.Machine

variable {s t : State} {g : Fld} {k : Nat}

/-! ### The spindle's speed, source and RUN (R60, R66, R70) -/

/-- The registers that the spindle's speed and source write. -/
def speedRegs : List Regs := [.fld .WTH_SPN_CTRL_SRC, .fld .WTH_SPN_STATUS_AT_SPEED, .fld .WTH_SPN_STATUS_SPD95, .fld .WTH_SPN_STATUS_SPD90,
  .fld .WTH_SPN_SPEED_SPEED]

theorem State.setSpeed_within (v : Nat) : Frame [.withy] [.fld .WTH_SPN_STATUS_AT_SPEED, .fld .WTH_SPN_STATUS_SPD95,
    .fld .WTH_SPN_STATUS_SPD90, .fld .WTH_SPN_SPEED_SPEED] s (s.setSpeed v) :=
  State.setSpeed_frame (fun _ hp => hp) (fun _ hr => hr) (Frame.refl _ _ s)

theorem State.setSpeed_speed (v : Nat) : (s.setSpeed v).get .WTH_SPN_SPEED_SPEED = v % 2 ^ 24 :=
  (State.retarget_get (by decide)).trans (State.get_set_self _ _ _ (by decide))

theorem State.setSource_within (src : Nat) : Frame [.withy] [.fld .WTH_SPN_CTRL_SRC, .fld .WTH_SPN_STATUS_AT_SPEED,
    .fld .WTH_SPN_STATUS_SPD95, .fld .WTH_SPN_STATUS_SPD90] s (s.setSource src) :=
  State.setSource_frame (fun _ hp => hp) (fun _ hr => hr) (Frame.refl _ _ s)

theorem State.setSource_src (src : Nat) : (s.setSource src).get .WTH_SPN_CTRL_SRC = src % 2 :=
  (State.retarget_get (by decide)).trans (State.get_mk.trans (State.get_set_self _ _ _ (by decide)))

/-- The registers that a start or a stop of the spindle writes. -/
def runRegs : List Regs := haltRegs ++ ([.fld .TIDE_STATUS_STATE, .fld .TIDE_CELL_PERIOD_PERIOD, .fld .WTH_SPN_CTRL_RUN,
  .fld .WTH_SPN_STATUS_STATE, .fld .WTH_SPN_STATUS_ATTEMPT, .fld .WTH_SPN_STATUS_AT_SPEED, .fld .WTH_SPN_STATUS_SPD95,
  .fld .WTH_SPN_STATUS_SPD90, .fld .WTH_SPN_STATUS_DIR_REV, .fld .WTH_SPN_STATUS_FW_ACTIVE, .fld .WTH_SPN_STATUS_FW_SAT,
  .fld .WTH_SPN_STATUS_STOP_BLOCKED] : List Regs) ++ ([.fld .WTH_SPN_MEAS_TRACK, .fld .WTH_SPN_FOC_ID, .fld .WTH_SPN_FOC_MI] : List Regs)

/-- The parts of the state that a start or a stop of the spindle writes. -/
def runParts : List Part := [.mireIrq, .seqs, .chans, .stg, .tide, .withy]

theorem State.runStart_within : Frame runParts runRegs s s.runStart :=
  State.runStart_frame (fun _ hp => hp) (fun _ hr => hr) (Frame.refl _ _ s)

theorem State.runStop_within : Frame runParts runRegs s s.runStop :=
  State.runStop_frame (fun _ hp => hp) (regs_sub (A := runRegs) (fun _ hr => hr) (by decide +kernel)) (Frame.refl _ _ s)

/-- RUN is 1, and a blocked stop is forgotten. -/
def State.markRun (s : State) : State := (s.set .WTH_SPN_CTRL_RUN 1).set .WTH_SPN_STATUS_STOP_BLOCKED 0

/-- The voltage constant is to be checked again. -/
def State.keAgain (s : State) : State := { s with withy := { s.withy with keDone := false } }

/-- The start's first attempt. -/
def State.firstAttempt (s : State) : State :=
  (((s.keAgain.set .WTH_SPN_STATUS_ATTEMPT 0).set .WTH_SPN_STATUS_DIR_REV 0).set .WTH_SPN_STATUS_SPD95 0).set .WTH_SPN_STATUS_SPD90 0

theorem State.runStart_eq :
    s.runStart = if s.markRun.spinIs 0 then (s.markRun.spinTo 1 .off).firstAttempt else s.markRun := rfl

theorem State.keAgain_get : s.keAgain.get g = s.get g := State.get_of_regs rfl g

theorem State.firstAttempt_run : s.firstAttempt.get .WTH_SPN_CTRL_RUN = s.get .WTH_SPN_CTRL_RUN := by
  unfold State.firstAttempt
  simp (disch := decide) only [State.get_set_other, State.keAgain_get]

theorem State.firstAttempt_state : s.firstAttempt.get .WTH_SPN_STATUS_STATE = s.get .WTH_SPN_STATUS_STATE := by
  unfold State.firstAttempt
  simp (disch := decide) only [State.get_set_other, State.keAgain_get]

theorem State.markRun_run : s.markRun.get .WTH_SPN_CTRL_RUN = 1 :=
  (State.get_set_other _ _ (by decide)).trans (State.get_set_self _ _ _ (by decide))

theorem State.markRun_state : s.markRun.get .WTH_SPN_STATUS_STATE = s.get .WTH_SPN_STATUS_STATE :=
  (State.get_set_other _ _ (by decide)).trans (State.get_set_other _ _ (by decide))

theorem State.runStart_run : s.runStart.get .WTH_SPN_CTRL_RUN = 1 := by
  rw [State.runStart_eq]
  split
  · rw [State.firstAttempt_run, State.spinTo_get (by decide +kernel), State.markRun_run]
  · exact State.markRun_run

/-- A start from IDLE goes to SPIN_OBSERVE. -/
theorem State.runStart_state (h : s.get .WTH_SPN_STATUS_STATE = 0) : s.runStart.get .WTH_SPN_STATUS_STATE = 1 := by
  have hidle : s.markRun.spinIs 0 = true := by
    unfold State.spinIs
    rw [State.markRun_state, h]
    rfl
  rw [State.runStart_eq, if_pos hidle, State.firstAttempt_state, State.spinTo_state]
  rfl

theorem State.runStop_run : s.runStop.get .WTH_SPN_CTRL_RUN = 0 := by
  unfold State.runStop
  extract_lets s1
  have hrun : s1.get .WTH_SPN_CTRL_RUN = 0 := State.get_set_self _ _ _ (by decide)
  clear_value s1
  split
  · exact (State.spinTo_get (by decide +kernel)).trans hrun
  · exact (State.spinTo_get (by decide +kernel)).trans hrun
  · split
    · exact (State.spinTo_get (by decide +kernel)).trans hrun
    · exact (State.get_set_other _ _ (by decide)).trans hrun
  · exact hrun

/-! ### A section's load (R235) -/

theorem State.startLoad_within : Frame [.withy, .tus, .mq] [.arr (.WTH_VCM_CTRL_EN 0) 0x4 4, .arr (.WTH_VCM_STATUS_PARKED 0) 0x4 4,
    .arr (.WTH_VCM_STATUS_ENABLED 0) 0x4 4, .arr (.TUS_SEC_CTRL_LANE_EN 0) 0x40 4, .arr (.TUS_SEEK_STATUS_SEEKING 0) 0x20 4,
    .arr (.TUS_SEEK_STATUS_HINT_ACTIVE 0) 0x20 4, .arr (.TUS_SEEK_STATUS_SETTLED 0) 0x20 4] s (s.startLoad k) :=
  State.startLoad_frame (fun _ hp => hp) (fun _ hr => hr) (Frame.refl _ _ s)

/-- The lanes of a section that starts to load. -/
def State.loadLanes (s : State) (k : Nat) : State := ((s.enableVcm k).set (.TUS_SEC_CTRL_LANE_EN k) 3).set (.TUS_SEEK_STATUS_SETTLED k) 0

/-- What a load forgets of the seek before it. -/
def State.loadFresh (s : State) (k : Nat) : State :=
  (((((s.set (.TUS_SEEK_STATUS_SEEKING k) 0).set (.TUS_SEEK_STATUS_HINT_ACTIVE k) 0).updSec k (fun x =>
    { x with seek := { x.seek with cmd := none, moving := false, settle := 0 } })).forN 2 (fun i s => s.laneOff (2 * k + i)))).updMq
      (fun m => { m with noStart := m.noStart.put k false })

theorem State.startLoad_eq (k : Nat) : s.startLoad k = (s.loadLanes k).loadFresh k := rfl

theorem State.loadFresh_within : Frame [.tus, .mq] [.arr (.TUS_SEEK_STATUS_SEEKING 0) 0x20 4, .arr (.TUS_SEEK_STATUS_HINT_ACTIVE 0) 0x20 4]
    s (s.loadFresh k) := by
  unfold State.loadFresh
  refine upd_mq (by decide) (State.forN_frame (State.updSec_frame (by decide) (State.set_frame ?_ (State.set_frame ?_ (Frame.refl _ _ s))))
    (fun i t ht => State.laneOff_frame (by decide) ht))
  · exact cov_arr (f := .TUS_SEEK_STATUS_HINT_ACTIVE 0) (k := 0x20) (m := 4) (fun _ hr => hr) (by decide +kernel) (by decide) rfl
  · exact cov_arr (f := .TUS_SEEK_STATUS_SEEKING 0) (k := 0x20) (m := 4) (fun _ hr => hr) (by decide +kernel) (by decide) rfl

theorem State.startLoad_lanes : (s.startLoad k).get (.TUS_SEC_CTRL_LANE_EN k) = 3 := by
  rw [State.startLoad_eq,
    State.loadFresh_within.get (apart_mod (n := 4) .TUS_SEC_CTRL_LANE_EN (by decide) (by simp) (by decide +kernel) k)]
  exact (State.get_set_other _ _ (by dsimp only; omega)).trans (State.get_set_self _ _ _ (by simp))

theorem State.startLoad_settled : (s.startLoad k).get (.TUS_SEEK_STATUS_SETTLED k) = 0 := by
  rw [State.startLoad_eq,
    State.loadFresh_within.get (apart_mod (n := 4) .TUS_SEEK_STATUS_SETTLED (by decide) (by simp) (by decide +kernel) k)]
  exact State.get_set_self _ _ _ (by simp)

/-- A section that does not retract is driven again. -/
theorem State.startLoad_enabled (h : s.get (.WTH_VCM_STATUS_RET_ACTIVE k) = 0) :
    (s.startLoad k).get (.WTH_VCM_STATUS_ENABLED k) = 1 ∧ (s.startLoad k).get (.WTH_VCM_STATUS_PARKED k) = 0 := by
  have hidle : s.is (.WTH_VCM_STATUS_RET_ACTIVE k) = false := by
    unfold State.is
    rw [h]
    rfl
  have hafter : ∀ F : Nat → Fld, (F k).addr = (Fld.WTH_VCM_STATUS_PARKED k).addr →
      ((s.loadLanes k).loadFresh k).get (F k) = (s.loadLanes k).get (F k) → (s.startLoad k).get (F k) = (s.enableVcm k).get (F k) :=
    fun F ha hfresh => hfresh.trans ((State.get_set_other _ _ (by dsimp only at ha ⊢; omega)).trans
      (State.get_set_other _ _ (by dsimp only at ha ⊢; omega)))
  have henable : s.enableVcm k = (((s.set (.WTH_VCM_CTRL_EN k) 1).set (.WTH_VCM_STATUS_ENABLED k) 1).set (.WTH_VCM_STATUS_PARKED k) 0).driveVcm k :=
    if_neg (ne_true_of_eq_false hidle)
  refine ⟨(hafter .WTH_VCM_STATUS_ENABLED rfl (State.loadFresh_within.get (apart_mod (n := 4) .WTH_VCM_STATUS_ENABLED (by decide) (by simp)
    (by decide +kernel) k))).trans ?_, (hafter .WTH_VCM_STATUS_PARKED rfl (State.loadFresh_within.get (apart_mod (n := 4)
    .WTH_VCM_STATUS_PARKED (by decide) (by simp) (by decide +kernel) k))).trans ?_⟩
  · rw [henable, State.driveVcm_get, State.get_set_other _ _ (by dsimp only; omega)]
    exact State.get_set_self _ _ _ (by simp)
  · rw [henable, State.driveVcm_get]
    exact State.get_set_self _ _ _ (by simp)

/-! ### The end of the start sequence (R482) -/

theorem State.endStart_within (r : Nat) :
    Frame [.mq, .aq] [.fld .MBX_START_RESULT, .fld .MBX_START_FAILED, .fld .MBX_START_LOADED] s (s.endStart r) :=
  State.endStart_frame (fun _ hp => hp) (fun _ hr => hr) (Frame.refl _ _ s)

theorem State.endStart_starting (r : Nat) : (s.endStart r).aq.starting = false := by
  unfold State.endStart
  split
  · rfl
  · next h => exact eq_false_of_ne_true h

end Sys2Proof.Machine
end

section
set_option Elab.async false
/-! THE SPINDLE AND THE SECTIONS OBEY (10,
  03). A command of the section and motor family or of the power family acts by steps: one execution
does what the step in hand allows, and the answer comes with the last one (R234–R237, R245–R247). -/

namespace Sys2Proof.Machine

variable {s t u : State} {p : Nat}

/-! ### The spindle family (R60, R234) -/

/-- The target and the source of a SPINDLE_SET, kept for the power states. -/
def State.keepTarget (s : State) (v src : Nat) : State := s.updAq (fun a => { a with target := v, src := src })

/-- The spindle set. -/
def State.spinSet (s : State) (v src : Nat) (run : Bool) : State :=
  if run then (((s.keepTarget v src).setSpeed v).setSource src).runStart else (((s.keepTarget v src).setSpeed v).setSource src).runStop

/-- The answer of a SPINDLE_SET, or the wait for it. -/
def State.spinReply (s : State) (p : Nat) (run : Bool) : State :=
  if s.req p 22 1 = 0 then s.respondOk p
  else if (run && s.is .WTH_SPN_STATUS_AT_SPEED) || (!run && s.spinIs 0) then s.respondOk p
  else if s.cancelAsked p then s.respondBad p 0x40
  else s

theorem exec_spindleSet_first (hruns : s.Runs p 0x0201) (hphase : (s.aq.runs.at p).phase = 0) : exec (.spindleSet p) s =
    .next (((s.spinSet (s.req p 16 3) (s.req p 20 1) (s.req p 21 1 == 1)).updRun p (fun r => { r with phase := 1 })).spinReply p
      (s.req p 21 1 == 1)) := by
  refine congrArg Host.Outcome.next ((State.onCommand_of_runs hruns _).trans ?_)
  dsimp only
  rw [State.run, hphase]
  rfl

theorem exec_spindleSet_again (hruns : s.Runs p 0x0201) (hphase : (s.aq.runs.at p).phase = 1) :
    exec (.spindleSet p) s = .next (s.spinReply p (s.req p 21 1 == 1)) := by
  refine congrArg Host.Outcome.next ((State.onCommand_of_runs hruns _).trans ?_)
  dsimp only
  rw [State.run, hphase]
  rfl

theorem State.spinReply_cases (s : State) (p : Nat) (run : Bool) :
    s.spinReply p run = s ∨ ∃ status, s.spinReply p run = s.respond p status true [] := by
  unfold State.spinReply
  split
  · exact .inr ⟨0, rfl⟩
  split
  · exact .inr ⟨0, rfl⟩
  split
  · exact .inr ⟨0x40, rfl⟩
  · exact .inl rfl

theorem State.spinReply_get {run : Bool} {g : Fld} (h : respondRegs.all (fun r => r.apartB g) = true) :
    (s.spinReply p run).get g = s.get g := by
  rcases s.spinReply_cases p run with h' | ⟨status, h'⟩
  · rw [h']
  · rw [h', State.respond_get h]

theorem State.spinReply_target {run : Bool} : (s.spinReply p run).aq.target = s.aq.target ∧ (s.spinReply p run).aq.src = s.aq.src := by
  rcases s.spinReply_cases p run with h' | ⟨status, h'⟩
  · rw [h']
    exact ⟨rfl, rfl⟩
  · rw [h']
    have h := State.respond_unowned (s := s) (p := p) (status := status) (started := true) (payload := [])
    have htarget := congrArg Aqsia.target h
    have hsrc := congrArg Aqsia.src h
    exact ⟨htarget, hsrc⟩

/-- The registers that a set spindle writes. -/
def spinSetRegs : List Regs := speedRegs ++ runRegs

theorem State.spinSet_within (v src : Nat) (run : Bool) : Frame runParts spinSetRegs (s.keepTarget v src) (s.spinSet v src run) := by
  have hset : Frame runParts spinSetRegs (s.keepTarget v src) (((s.keepTarget v src).setSpeed v).setSource src) :=
    State.setSource_frame (by decide) (regs_sub (A := spinSetRegs) (fun _ hr => hr) (by decide +kernel))
      (State.setSpeed_frame (by decide) (regs_sub (A := spinSetRegs) (fun _ hr => hr) (by decide +kernel)) (Frame.refl _ _ _))
  unfold State.spinSet
  exact ite_frame (fun _ => State.runStart_frame (by decide) (regs_sub (A := spinSetRegs) (fun _ hr => hr) (by decide +kernel)) hset)
    (fun _ => State.runStop_frame (by decide) (regs_sub (A := spinSetRegs) (fun _ hr => hr) (by decide +kernel)) hset)

theorem State.spinSet_speed (v src : Nat) (run : Bool) : (s.spinSet v src run).get .WTH_SPN_SPEED_SPEED = v % 2 ^ 24 := by
  have hset : (((s.keepTarget v src).setSpeed v).setSource src).get .WTH_SPN_SPEED_SPEED = v % 2 ^ 24 :=
    ((State.setSource_within src).get (by decide)).trans (State.setSpeed_speed v)
  cases run
  · exact (State.runStop_within.get (by decide +kernel)).trans hset
  · exact (State.runStart_within.get (by decide +kernel)).trans hset

theorem State.spinSet_src (v src : Nat) (run : Bool) : (s.spinSet v src run).get .WTH_SPN_CTRL_SRC = src % 2 := by
  cases run
  · exact (State.runStop_within.get (by decide +kernel)).trans (State.setSource_src src)
  · exact (State.runStart_within.get (by decide +kernel)).trans (State.setSource_src src)

theorem State.spinSet_run (v src : Nat) (run : Bool) : (s.spinSet v src run).get .WTH_SPN_CTRL_RUN = run.toNat := by
  cases run
  · exact State.runStop_run
  · exact State.runStart_run

/-- The first execution of a SPINDLE_SET, before its answer. -/
def State.spinFirst (s : State) (p v src : Nat) (run : Bool) : State := (s.spinSet v src run).updRun p (fun r => { r with phase := 1 })

theorem State.spinFirst_within (v src : Nat) (run : Bool) : Frame (.aq :: runParts) spinSetRegs s (s.spinFirst p v src run) := by
  have hset : Frame (.aq :: runParts) spinSetRegs s (((s.keepTarget v src).setSpeed v).setSource src) :=
    State.setSource_frame (by decide) (regs_sub (A := spinSetRegs) (fun _ hr => hr) (by decide +kernel))
      (State.setSpeed_frame (by decide) (regs_sub (A := spinSetRegs) (fun _ hr => hr) (by decide +kernel))
        (upd_aq (by decide) (Frame.refl _ _ s)))
  exact State.updRun_frame (by decide) (ite_frame
    (fun _ => State.runStart_frame (by decide) (regs_sub (A := spinSetRegs) (fun _ hr => hr) (by decide +kernel)) hset)
    (fun _ => State.runStop_frame (by decide) (regs_sub (A := spinSetRegs) (fun _ hr => hr) (by decide +kernel)) hset))

theorem State.spinFirst_effects (run : Bool) {v src : Nat} (hv : v < 2 ^ 24) : let t := (s.spinFirst p v src run).spinReply p run
    t.aq.target = v ∧ t.aq.src = src ∧ t.get .WTH_SPN_SPEED_SPEED = v ∧ t.get .WTH_SPN_CTRL_SRC = src % 2 ∧
      t.get .WTH_SPN_CTRL_RUN = run.toNat := by
  have haq : (s.spinSet v src run).aq = (s.keepTarget v src).aq := (State.spinSet_within v src run).same .aq (by decide)
  have hreg : ∀ g, (s.spinFirst p v src run).get g = (s.spinSet v src run).get g := fun g => State.get_of_regs (State.updAq_regs _ _) g
  refine ⟨State.spinReply_target.1.trans (congrArg Aqsia.target haq), State.spinReply_target.2.trans (congrArg Aqsia.src haq), ?_, ?_, ?_⟩
  · rw [State.spinReply_get (by decide +kernel), hreg, State.spinSet_speed, Nat.mod_eq_of_lt hv]
  · rw [State.spinReply_get (by decide +kernel), hreg, State.spinSet_src]
  · rw [State.spinReply_get (by decide +kernel), hreg, State.spinSet_run]

/-- A SPINDLE_SET that need not wait, or that has waited enough, answers. -/
theorem State.spinReply_answers {run : Bool} (hbox : s.SameBox p u) (h : u.req p 22 1 = 0 ∨
    (run = true ∧ u.get .WTH_SPN_STATUS_AT_SPEED = 1) ∨ (run = false ∧ u.get .WTH_SPN_STATUS_STATE = 0)) :
    Answered s (u.spinReply p run) p 0 true [] := by
  suffices hreply : u.spinReply p run = u.respond p 0 true [] from hreply ▸ State.respond_answered hbox (by decide)
  unfold State.spinReply
  by_cases hwait : u.req p 22 1 = 0
  · exact if_pos hwait
  rw [if_neg hwait, if_pos]
  · rfl
  rcases h.resolve_left hwait with ⟨rfl, hspeed⟩ | ⟨rfl, hidle⟩
  · simp [State.is, hspeed]
  · simp [State.spinIs, hidle]

/-- A SPINDLE_SET that still waits: its state is what a cancel finds. -/
theorem State.spinReply_waits {run : Bool} (hwait : u.req p 22 1 ≠ 0)
    (h : ¬ ((run = true ∧ u.get .WTH_SPN_STATUS_AT_SPEED = 1) ∨ (run = false ∧ u.get .WTH_SPN_STATUS_STATE = 0))) :
    u.spinReply p run = if u.cancelAsked p then u.respond p 0x40 true [] else u := by
  unfold State.spinReply
  rw [if_neg hwait, if_neg]
  · rfl
  cases run
  · simpa [State.spinIs] using h
  · simpa [State.is_iff_get (s := u) (f := .WTH_SPN_STATUS_AT_SPEED) rfl] using h

/-- What the spindle command of phase 1 waits for, read as the reply reads it. -/
theorem runs_flag {r : Nat} {at_ : Prop} {idle : Prop} :
    ((r = 1 ∧ at_) ∨ (r ≠ 1 ∧ idle)) ↔ (((r == 1) = true ∧ at_) ∨ ((r == 1) = false ∧ idle)) := by
  simp

/-! ### Commands that answer at once (R33, R234, R237, R245) -/

theorem exec_spindleStatus_eq (hruns : s.Runs p 0x0202) : exec (.spindleStatus p) s = .next (s.respond p 0 true
    (leBytes 4 (s.wordOf .WTH_SPN_STATUS_STATE) ++ leBytes 4 (s.wordOf .WTH_SPN_MEAS_SPEED) ++ leBytes 4 (s.wordOf .WTH_SPN_KE_KE_NOM) ++
      leBytes 4 (s.wordOf .TIDE_STATUS_STATE))) :=
  congrArg Host.Outcome.next ((State.onCommand_of_runs hruns _).trans rfl)

theorem exec_sectionStatus_eq (hruns : s.Runs p 0x0207) : exec (.sectionStatus p) s = .next (s.respond p 0 true
    (leBytes 4 (s.wordOf (.WTH_VCM_STATUS_PARKED (s.req p 16 1))) ++ leBytes 4 (s.wordOf (.TUS_SEC_STATUS_SAT (s.req p 16 1))) ++
      leBytes 4 (s.wordOf (.TUS_SEEK_STATUS_SETTLED (s.req p 16 1))) ++ leBytes 4 ((s.lane (2 * s.req p 16 1 +
        s.get (.TUS_SEC_CTRL_PRI_SLOT (s.req p 16 1)))).r.fdiv (2 ^ 38) % 2 ^ 32).toNat)) :=
  congrArg Host.Outcome.next ((State.onCommand_of_runs hruns _).trans rfl)

theorem exec_powerStatus_eq {tj : Nat} (hruns : s.Runs p 0x0602) : exec (.powerStatus p tj) s = .next (s.respond p 0 true
    (leBytes 1 s.aq.ps ++ leBytes 1 (if s.get .WEIR_STATUS_PF = 1 then 1 else 0) ++
      leBytes 2 (if s.is .WEIR_AON_STATUS_COMMIT_SEEN || s.commitInNor then 2 else s.aq.dip.toNat) ++ leBytes 2 (s.get .WEIR_MEAS_V12_MV) ++
      leBytes 2 (s.get .WEIR_MEAS_V5_MV) ++ leBytes 2 tj ++ leBytes 6 0)) :=
  congrArg Host.Outcome.next ((State.onCommand_of_runs hruns _).trans rfl)

theorem exec_motorClear_eq {emf : Nat} (hruns : s.Runs p 0x0206) :
    exec (.motorClear p emf) s = .next ((s.clearFault emf).respond p 0 true []) :=
  congrArg Host.Outcome.next ((State.onCommand_of_runs hruns _).trans rfl)

theorem State.clearFault_within (emf : Nat) : Frame runParts runRegs s (s.clearFault emf) :=
  State.clearFault_frame (fun _ hp => hp) (regs_sub (A := runRegs) (fun _ hr => hr) (by decide +kernel)) (Frame.refl _ _ s)

theorem State.clearFault_state (emf : Nat) : (s.clearFault emf).get .WTH_SPN_STATUS_STATE =
    if s.motorFault = true ∧ s.atRest emf = true then 0 else s.get .WTH_SPN_STATUS_STATE := by
  have hcond : ((s.spinIs 8 || s.spinIs 9) && s.atRest emf) = true ↔ s.motorFault = true ∧ s.atRest emf = true := Bool.and_eq_true_iff
  unfold State.clearFault State.when
  split
  · next h =>
    rw [if_pos (hcond.1 h), State.spinTo_state]
    rfl
  · next h => rw [if_neg (fun hc => h (hcond.2 hc))]

/-- The flags and the offset of an ENC_SYNC_SET. -/
def State.encSync (s : State) (f v : Nat) : State :=
  (((s.set .TIDE_CTRL_ESO_EN f).set .TIDE_CTRL_ESI_EN (f / 2)).set .TIDE_CTRL_ESI_PHASE_EN (f / 4)).set .TIDE_ESI_PHASE_OFFSET v

theorem exec_encSyncSet_eq (hruns : s.Runs p 0x0208) : exec (.encSyncSet p) s =
    .next (((s.encSync (s.req p 16 1) (s.req p 18 2)).esiControl s).respond p 0 true []) := by
  exact congrArg Host.Outcome.next ((State.onCommand_of_runs hruns _).trans rfl)

theorem State.encSync_fields {f v : Nat} (hv : v < 2 ^ 16) : (s.encSync f v).get .TIDE_CTRL_ESO_EN = f % 2 ∧
    (s.encSync f v).get .TIDE_CTRL_ESI_EN = f / 2 % 2 ∧ (s.encSync f v).get .TIDE_CTRL_ESI_PHASE_EN = f / 4 % 2 ∧
    (s.encSync f v).get .TIDE_ESI_PHASE_OFFSET = v := by
  unfold State.encSync
  refine ⟨?_, ?_, ?_, ?_⟩
  all_goals simp (disch := decide) only [State.get_set_self, State.get_set_other, Nat.pow_one, Nat.mod_eq_of_lt hv]

/-- The registers that an ENC_SYNC_SET writes before its answer. -/
def encRegs : List Regs := alarmRegs ++ haltRegs ++ ([.fld .TIDE_STATUS_ESI_VALID, .fld .TIDE_CTRL_ESO_EN, .fld .TIDE_CTRL_ESI_EN,
  .fld .TIDE_CTRL_ESI_PHASE_EN, .fld .TIDE_ESI_PHASE_OFFSET] : List Regs)

theorem State.encSync_within (old : State) (f v : Nat) : Frame [.mireIrq, .fenIrq, .seqs, .chans, .stg, .tide, .lev, .peat] encRegs s
    ((s.encSync f v).esiControl old) := by
  refine State.esiControl_frame (fun _ hp => hp) (regs_sub (A := encRegs) (fun _ hr => hr) (by decide +kernel)) (State.set_frame ?_
    (State.set_frame ?_ (State.set_frame ?_ (State.set_frame ?_ (Frame.refl _ _ s)))))
  all_goals exact cov_fld (A := encRegs) (fun _ hr => hr) (by decide +kernel)

theorem State.esiControl_get {old : State} {g : Fld} (h : (alarmRegs ++ haltRegs ++ ([.fld .TIDE_STATUS_ESI_VALID] : List Regs)).all
    (fun r => r.apartB g) = true) : (s.esiControl old).get g = s.get g :=
  (State.esiControl_frame (fun _ hp => hp) (fun _ hr => hr) (Frame.refl _ _ s)).get h

theorem exec_fenGate_eq (hruns : s.Runs p 0x0603) : exec (.fenGate p) s = .next ((s.set (.TIDE_CG_EN_EN 0) (s.get (.TIDE_CG_EN_EN 0) -
    s.get (.TIDE_CG_EN_EN 0) % 256 + s.get (.TIDE_CG_EN_EN 0) % 2 + s.req p 16 1 / 2 * 2)).respond p 0 true []) :=
  congrArg Host.Outcome.next ((State.onCommand_of_runs hruns _).trans rfl)

/-! ### Loads (R235) -/

theorem sectionsOf_maskOf {l : List Nat} (h : l.Sublist (List.range 4)) : sectionsOf (maskOf l) = l := by
  have hall : ∀ l ∈ (List.range 4).sublists, sectionsOf (maskOf l) = l := by decide
  exact hall l (List.mem_sublists.2 h)

theorem sectionsOf_sublist (m : Nat) : (sectionsOf m).Sublist (List.range 4) := List.filter_sublist

/-- The sections of a SECTION_LOAD that are still to load. -/
def State.planLoad (s : State) (p m : Nat) : State := s.updRun p (fun r => { r with phase := 1, todo := m })

/-- What a SECTION_LOAD answers: the sections loaded, and those that failed. -/
def State.loadOut (s : State) (p : Nat) : List Byte :=
  leBytes 1 (maskOf ((sectionsOf (s.req p 16 1)).filter (fun k => !s.parkedSec k && (s.run p).bad / 2 ^ k % 2 == 0 &&
    (s.run p).todo / 2 ^ k % 2 == 0))) ++ leBytes 1 (s.run p).bad ++ leBytes 2 0

/-- The answer of a SECTION_LOAD, or its wait for the next load. -/
def State.loadReply (s : State) (p : Nat) : State :=
  if (s.run p).cur.isSome then s
  else if (s.run p).todo ≠ 0 then s.when (s.cancelAsked p) (fun t => t.respondBad p 0x40 (s.loadOut p))
  else if (s.run p).bad ≠ 0 then s.respondBad p 0x0105 (s.loadOut p)
  else s.respondOk p (s.loadOut p)

/-- The sections of a request that are parked. -/
def State.parkedOf (s : State) (m : Nat) : List Nat := (sectionsOf m).filter (fun k => s.parkedSec k)

theorem exec_sectionLoad_eq {lock : Option Nat} (hruns : s.Runs p 0x0203) : exec (.sectionLoad p lock) s =
    .next (((s.when ((s.aq.runs.at p).phase == 0) (fun s => s.planLoad p (maskOf (s.parkedOf (s.req p 16 1))))).loadStep p lock
      true).loadReply p) := congrArg Host.Outcome.next ((State.onCommand_of_runs hruns _).trans rfl)

theorem exec_sectionLoad_first {lock : Option Nat} (hruns : s.Runs p 0x0203) (hphase : (s.aq.runs.at p).phase = 0) :
    exec (.sectionLoad p lock) s =
      .next (((s.planLoad p (maskOf (s.parkedOf (s.req p 16 1)))).loadStep p lock true).loadReply p) := by
  rw [exec_sectionLoad_eq hruns, hphase]
  rfl

theorem exec_sectionLoad_next {lock : Option Nat} (hruns : s.Runs p 0x0203) (hphase : (s.aq.runs.at p).phase = 1) :
    exec (.sectionLoad p lock) s = .next ((s.loadStep p lock true).loadReply p) := by
  rw [exec_sectionLoad_eq hruns, hphase]
  rfl

/-- No load ends, and none starts. -/
theorem State.loadStep_idle {lock : Option Nat} {stops : Bool} (hcur : (s.aq.runs.at p).cur = none)
    (h : (stops && s.cancelAsked p) = true ∨ (s.aq.runs.at p).todo = 0) : s.loadStep p lock stops = s := by
  unfold State.loadStep
  dsimp only
  rw [State.run, hcur]
  dsimp only
  split
  · rfl
  · next hgo => rw [h.resolve_left hgo]; rfl

/-- The next load starts. -/
def State.nextLoad (s : State) (p k m : Nat) : State :=
  ((s.updRun p (fun r => { r with todo := m })).startLoad k).updRun p (fun r => { r with cur := some k })

theorem State.loadStep_next {lock : Option Nat} {stops : Bool} {k : Nat} {rest : List Nat} (hcur : (s.aq.runs.at p).cur = none)
    (hgo : (stops && s.cancelAsked p) = false) (htodo : sectionsOf (s.aq.runs.at p).todo = k :: rest) (hload : s.loadable k = true) :
    s.loadStep p lock stops = s.nextLoad p k (maskOf rest) := by
  unfold State.loadStep
  dsimp only
  rw [State.run, hcur]
  dsimp only
  rw [hgo, if_neg Bool.false_ne_true, htodo]
  exact if_pos hload

/-- A load ends, with nothing left to load. -/
def State.lastLoad (s : State) (p k : Nat) (ok : Bool) : State := s.updRun p (fun r =>
  { r with cur := none, good := r.good + (if ok then 2 ^ k else 0), bad := r.bad + (if ok then 0 else 2 ^ k) })

theorem State.loadStep_last {lock : Option Nat} {stops : Bool} {k : Nat} (hcur : (s.aq.runs.at p).cur = some k)
    (htodo : (s.aq.runs.at p).todo = 0) :
    s.loadStep p lock stops = (s.endLoad k lock).2.lastLoad p k (s.endLoad k lock).1 := by
  unfold State.loadStep
  dsimp only
  rw [State.run, hcur, htodo]
  exact ite_self _

theorem State.updRun_parkedSec (f : CmdRun → CmdRun) (k : Nat) : (s.updRun p f).parkedSec k = s.parkedSec k := by
  unfold State.parkedSec State.is
  rw [State.updRun_get]

/-- While a load runs, the command waits. -/
theorem State.loadReply_of_cur {k : Nat} (h : (s.aq.runs.at p).cur = some k) : s.loadReply p = s := by
  unfold State.loadReply
  rw [State.run, h]
  rfl

theorem State.loadReply_of_end (hcur : (s.aq.runs.at p).cur = none) (htodo : (s.aq.runs.at p).todo = 0) : s.loadReply p =
    if (s.aq.runs.at p).bad ≠ 0 then s.respond p 0x0105 true (s.loadOut p) else s.respond p 0 true (s.loadOut p) := by
  unfold State.loadReply
  rw [State.run, hcur, htodo]
  rfl

theorem State.loadReply_of_cancel (hcur : (s.aq.runs.at p).cur = none) (htodo : (s.aq.runs.at p).todo ≠ 0) (hcancel :
    s.cancelAsked p = true) :
    s.loadReply p = s.respond p 0x40 true (s.loadOut p) := by
  unfold State.loadReply
  rw [State.run, hcur]
  refine (if_neg (by decide)).trans ((if_pos htodo).trans ?_)
  rw [hcancel]
  rfl

section next

variable {k m : Nat}

theorem State.nextLoad_runs : ((s.nextLoad p k m).aq.runs.at p).cur = some k ∧ ((s.nextLoad p k m).aq.runs.at p).todo = m := by
  have haq : ((s.updRun p (fun r => { r with todo := m })).startLoad k).aq = (s.updRun p (fun r => { r with todo := m })).aq :=
    State.startLoad_within.same .aq (by decide)
  unfold State.nextLoad
  rw [State.updRun_run, haq, State.updRun_run]
  exact ⟨rfl, rfl⟩

theorem State.nextLoad_get (g : Fld) : (s.nextLoad p k m).get g = ((s.updRun p (fun r => { r with todo := m })).startLoad k).get g :=
  State.updRun_get ..

theorem State.nextLoad_lanes :
    (s.nextLoad p k m).get (.TUS_SEC_CTRL_LANE_EN k) = 3 ∧ (s.nextLoad p k m).get (.TUS_SEEK_STATUS_SETTLED k) = 0 := by
  rw [State.nextLoad_get, State.nextLoad_get]
  exact ⟨State.startLoad_lanes, State.startLoad_settled⟩

theorem State.nextLoad_enabled (h : s.get (.WTH_VCM_STATUS_RET_ACTIVE k) = 0) :
    (s.nextLoad p k m).get (.WTH_VCM_STATUS_ENABLED k) = 1 ∧ (s.nextLoad p k m).get (.WTH_VCM_STATUS_PARKED k) = 0 := by
  rw [State.nextLoad_get, State.nextLoad_get]
  exact State.startLoad_enabled ((State.updRun_get ..).trans h)

theorem State.nextLoad_mbx : (s.nextLoad p k m).mbx p = s.mbx p := by
  unfold State.mbx
  rw [State.nextLoad_get, State.startLoad_within.get (apart_mod (n := 64) .MBX_STAT_STATE (by decide) (by simp) (by decide +kernel) p),
    State.updRun_get]

end next

/-- A load without failures answers the sections that are not parked. -/
theorem State.loadOut_of_good (htodo : (s.aq.runs.at p).todo = 0) (hbad : (s.aq.runs.at p).bad = 0) : s.loadOut p =
    leBytes 1 (maskOf ((sectionsOf (s.req p 16 1)).filter (fun j => !s.parkedSec j))) ++ leBytes 1 0 ++ leBytes 2 0 := by
  unfold State.loadOut
  rw [State.run, htodo, hbad]
  simp

/-- The first execution of a SECTION_LOAD starts the first load. -/
theorem exec_sectionLoad_starts {lock : Option Nat} {k : Nat} {rest : List Nat} (hruns : s.Runs p 0x0203)
    (hphase : (s.aq.runs.at p).phase = 0) (hparked : s.parkedOf (s.req p 16 1) = k :: rest) (hload : s.loadable k = true)
    (hcancel : s.cancelAsked p = false) (hcur : (s.aq.runs.at p).cur = none) :
    exec (.sectionLoad p lock) s = .next ((s.planLoad p (maskOf (k :: rest))).nextLoad p k (maskOf rest)) := by
  have hsub : (k :: rest).Sublist (List.range 4) := hparked ▸ List.filter_sublist.trans (sectionsOf_sublist _)
  have hrun : (s.planLoad p (maskOf (k :: rest))).aq.runs.at p = { s.aq.runs.at p with phase := 1, todo := maskOf (k :: rest) } :=
    State.updRun_run _
  have hgo : (true && (s.planLoad p (maskOf (k :: rest))).cancelAsked p) = false := hcancel
  rw [exec_sectionLoad_first hruns hphase, hparked,
    State.loadStep_next (by rw [hrun]; exact hcur) hgo (by rw [hrun]; exact sectionsOf_maskOf hsub) hload,
    State.loadReply_of_cur State.nextLoad_runs.1]

/-- A SECTION_LOAD of sections that all are loaded answers at once. -/
theorem exec_sectionLoad_loaded {lock : Option Nat} (hruns : s.Runs p 0x0203)
    (hloaded : (sectionsOf (s.req p 16 1)).all (fun j => !s.parkedSec j) = true) (hrun : s.aq.runs.at p = {}) :
    exec (.sectionLoad p lock) s = .next ((s.planLoad p 0).respond p 0 true
      (leBytes 1 (maskOf (sectionsOf (s.req p 16 1))) ++ leBytes 1 0 ++ leBytes 2 0)) := by
  have hparked : s.parkedOf (s.req p 16 1) = [] := List.filter_eq_nil_iff.2 fun j hj => by
    simpa using List.all_eq_true.1 hloaded j hj
  have hplan : (s.planLoad p 0).aq.runs.at p = { phase := 1 } := by
    unfold State.planLoad
    rw [State.updRun_run, hrun]
  have hout : (s.planLoad p 0).loadOut p = leBytes 1 (maskOf (sectionsOf (s.req p 16 1))) ++ leBytes 1 0 ++ leBytes 2 0 := by
    have hall : (sectionsOf (s.req p 16 1)).filter (fun j => !(s.planLoad p 0).parkedSec j) = sectionsOf (s.req p 16 1) :=
      List.filter_eq_self.2 fun j hj => by
        unfold State.planLoad
        rw [State.updRun_parkedSec]
        exact List.all_eq_true.1 hloaded j hj
    rw [State.loadOut_of_good (by rw [hplan]) (by rw [hplan])]
    exact congrArg (fun l => leBytes 1 (maskOf l) ++ leBytes 1 0 ++ leBytes 2 0) hall
  rw [exec_sectionLoad_first hruns (by rw [hrun]), hparked]
  show Host.Outcome.next (((s.planLoad p 0).loadStep p lock true).loadReply p) = _
  rw [State.loadStep_idle (by rw [hplan]) (.inr (by rw [hplan])), State.loadReply_of_end (by rw [hplan]) (by rw [hplan]), hplan, hout]
  rfl

/-! ### The end of a load -/

/-- The registers that the end of a load writes. -/
def endLoadRegs : List Regs := [.fld .SDG_WF_STATUS_CAUSE_SEEN, .arr (.SDG_WR_STATUS_WG 0) 0x400 8, .arr (.SDG_WR_STATUS_CAUSE 0) 0x400 8,
  .arr (.SDG_WR_STATUS_DROPS 0) 0x400 8, .arr (.SDG_WR_DROP_MANG 0) 0x400 8, .arr (.WTH_VCM_STATUS_RET_ACTIVE 0) 0x4 4,
  .arr (.WTH_VCM_STATUS_ENABLED 0) 0x4 4, .arr (.WTH_MA_CTRL_HOLD 0) 0x4 8, .arr (.WTH_MA_STATUS_VOUT 0) 0x4 8,
  .arr (.TUS_SEC_STATUS_MISS1 0) 0x40 4, .arr (.TUS_SEC_STATUS_MISS0 0) 0x40 4, .arr (.MWQ_STATUS_BLOCKED 0) 0x20 16,
  .arr (.MWQ_STATUS_OUTST 0) 0x20 16, .fld .MWQ_SYS_STATUS_FLUSH, .fld .MWQ_SYS_STATUS_CAL]

section last

variable {k : Nat} {lock : Option Nat}

theorem State.endLoad_within : Frame [.seqs, .chans, .withy, .tus] endLoadRegs s (s.endLoad k lock).2 :=
  State.endLoad_frame (fun _ hp => hp) (fun _ hr => hr) (Frame.refl _ _ s)

/-- The last load of a command, ended. -/
def State.endLast (s : State) (p k : Nat) (lock : Option Nat) : State := (s.endLoad k lock).2.lastLoad p k (s.endLoad k lock).1

theorem State.endLast_within : Frame [.seqs, .chans, .withy, .tus, .aq] endLoadRegs s (s.endLast p k lock) :=
  State.updRun_frame (by decide) (State.endLoad_frame (by decide) (fun _ hr => hr) (Frame.refl _ _ s))

theorem State.endLast_run : (s.endLast p k lock).aq.runs.at p = { s.aq.runs.at p with
    cur := none, good := (s.aq.runs.at p).good + (if (s.endLoad k lock).1 then 2 ^ k else 0),
    bad := (s.aq.runs.at p).bad + (if (s.endLoad k lock).1 then 0 else 2 ^ k) } := by
  have haq : (s.endLoad k lock).2.aq = s.aq := State.endLoad_within.same .aq (by decide)
  unfold State.endLast State.lastLoad
  rw [State.updRun_run, haq]

theorem State.endLast_parkedSec (j : Nat) : (s.endLast p k lock).parkedSec j = s.parkedSec j := by
  unfold State.parkedSec State.is
  rw [State.endLast_within.get (apart_mod (n := 4) .WTH_VCM_STATUS_PARKED (by decide) (by simp) (by decide +kernel) j)]

theorem State.endLast_box : s.SameBox p (s.endLast p k lock) := State.endLast_within.sameBox (by decide +kernel) p

theorem State.endLast_req (off len : Nat) : (s.endLast p k lock).req p off len = s.req p off len :=
  State.endLast_within.req (by decide +kernel) off len

variable (hruns : s.Runs p 0x0203) (hphase : (s.aq.runs.at p).phase = 1) (hcur : (s.aq.runs.at p).cur = some k)
  (htodo : (s.aq.runs.at p).todo = 0) (hbad : (s.aq.runs.at p).bad = 0)

include hruns hphase hcur htodo

theorem exec_sectionLoad_end : exec (.sectionLoad p lock) s = .next ((s.endLast p k lock).loadReply p) := by
  rw [exec_sectionLoad_next hruns hphase, State.loadStep_last hcur htodo]
  rfl

/-- The last load has failed. -/
theorem exec_sectionLoad_bad (hok : (s.endLoad k lock).1 = false) : exec (.sectionLoad p lock) s =
    .next ((s.endLast p k lock).respond p 0x0105 true ((s.endLast p k lock).loadOut p)) := by
  have hcur' : ((s.endLast p k lock).aq.runs.at p).cur = none := by rw [State.endLast_run]
  have htodo' : ((s.endLast p k lock).aq.runs.at p).todo = 0 := by
    rw [State.endLast_run]
    exact htodo
  have hbad' : ((s.endLast p k lock).aq.runs.at p).bad ≠ 0 := by
    rw [State.endLast_run, hok]
    exact Nat.ne_of_gt (Nat.lt_of_lt_of_le (Nat.two_pow_pos k) (Nat.le_add_left _ _))
  rw [exec_sectionLoad_end hruns hphase hcur htodo, State.loadReply_of_end hcur' htodo', if_pos hbad']

include hbad

/-- The last load has succeeded: every section that is not parked is loaded. -/
theorem exec_sectionLoad_good (hok : (s.endLoad k lock).1 = true) : exec (.sectionLoad p lock) s =
    .next ((s.endLast p k lock).respond p 0 true
      (leBytes 1 (maskOf ((sectionsOf (s.req p 16 1)).filter (fun j => !s.parkedSec j))) ++ leBytes 1 0 ++ leBytes 2 0)) := by
  have hcur' : ((s.endLast p k lock).aq.runs.at p).cur = none := by rw [State.endLast_run]
  have htodo' : ((s.endLast p k lock).aq.runs.at p).todo = 0 := by
    rw [State.endLast_run]
    exact htodo
  have hbad' : ((s.endLast p k lock).aq.runs.at p).bad = 0 := by
    rw [State.endLast_run, hok, hbad]
    rfl
  rw [exec_sectionLoad_end hruns hphase hcur htodo, State.loadReply_of_end hcur' htodo', hbad', State.loadOut_of_good htodo' hbad',
    State.endLast_req]
  simp only [State.endLast_parkedSec]
  rfl

end last

/-- The reference of a lane that has not started begins at the track of its lock. -/
def Lane.lockAt (l : Lane) (track : Nat) : Lane := if l.started then l else { l with started := true, r := posOf (BitVec.ofNat 32 track) }

theorem Lane.lockAt_r (l : Lane) (track : Nat) : (l.lockAt track).r = if l.started then l.r else posOf (BitVec.ofNat 32 track) := by
  unfold Lane.lockAt
  split <;> rfl

theorem Lane.lockAt_started (l : Lane) (track : Nat) : (l.lockAt track).started = true := by
  unfold Lane.lockAt
  split
  · assumption
  · rfl

/-- The section's load has come to its lock. -/
def State.lockLoad (s : State) (k track : Nat) : State :=
  (((s.updLane (2 * k + s.get (.TUS_SEC_CTRL_PRI_SLOT k)) (fun l => l.lockAt track)).set (.TUS_SEC_STATUS_MISS0 k) 0).set
    (.TUS_SEC_STATUS_MISS1 k) 0).mwqSync

theorem State.endLoad_of_idle {k : Nat} {lock : Option Nat} (hparked : s.parkedSec k = false) (hidle :
    s.get (.WTH_VCM_STATUS_RET_ACTIVE k) = 0) :
    s.endLoad k lock = match lock with
      | some track => (true, s.lockLoad k track)
      | none => (false, s.startRetract k) := by
  have hneg : (s.parkedSec k || s.is (.WTH_VCM_STATUS_RET_ACTIVE k)) = false := by
    unfold State.is
    rw [hparked, hidle]
    rfl
  refine (if_neg (ne_true_of_eq_false hneg)).trans ?_
  cases lock <;> rfl

theorem State.lockLoad_lane {k track : Nat} : (s.lockLoad k track).lane (2 * k + s.get (.TUS_SEC_CTRL_PRI_SLOT k)) =
    (s.lane (2 * k + s.get (.TUS_SEC_CTRL_PRI_SLOT k))).lockAt track := by
  unfold State.lockLoad
  rw [State.lane, State.mwqSync_tus]
  exact State.updLane_lane_self _ _

theorem State.lastLoad_tus {k : Nat} {ok : Bool} : (s.lastLoad p k ok).tus = s.tus := rfl

/-- What the last load's lock leaves in its lane. -/
theorem State.endLast_locked {k track status : Nat} {started : Bool} {payload : List Byte} (hparked : s.parkedSec k = false)
    (hidle : s.get (.WTH_VCM_STATUS_RET_ACTIVE k) = 0) :
    ((s.endLast p k (some track)).respond p status started payload).tus.lanes.at (2 * k + s.get (.TUS_SEC_CTRL_PRI_SLOT k)) =
      (s.lane (2 * k + s.get (.TUS_SEC_CTRL_PRI_SLOT k))).lockAt track := by
  have hlast : s.endLast p k (some track) = (s.lockLoad k track).lastLoad p k true := by
    unfold State.endLast
    rw [State.endLoad_of_idle hparked hidle]
  rw [State.respond_tus, hlast, State.lastLoad_tus]
  exact State.lockLoad_lane

/-- A load without a lock retracts its section. -/
theorem State.endLast_retracts {k status : Nat} {started : Bool} {payload : List Byte} (hparked : s.parkedSec k = false)
    (hidle : s.get (.WTH_VCM_STATUS_RET_ACTIVE k) = 0) :
    ((s.endLast p k none).respond p status started payload).get (.WTH_VCM_STATUS_RET_ACTIVE k) = 1 ∧
      ((s.endLast p k none).respond p status started payload).withy.retract.at k = .moving := by
  have hlast : s.endLast p k none = (s.startRetract k).lastLoad p k false := by
    unfold State.endLast
    rw [State.endLoad_of_idle hparked hidle]
  have hwithy : ((s.endLast p k none).respond p status started payload).withy = (s.startRetract k).withy :=
    (State.respond_same .withy (by decide)).trans (by rw [hlast]; rfl)
  rw [hwithy, State.respond_getMod (n := 4) .WTH_VCM_STATUS_RET_ACTIVE (by decide) (by simp) (by decide +kernel) k, hlast]
  exact ⟨(State.updRun_get ..).trans (State.startRetract_active k), State.startRetract_of_idle hidle⟩

theorem exec_sectionLoad_cancelled {lock : Option Nat} (hruns : s.Runs p 0x0203) (hphase : (s.aq.runs.at p).phase = 1)
    (hcur : (s.aq.runs.at p).cur = none) (htodo : (s.aq.runs.at p).todo ≠ 0) (hcancel : s.cancelAsked p = true) :
    exec (.sectionLoad p lock) s = .next (s.respond p 0x40 true (s.loadOut p)) := by
  rw [exec_sectionLoad_next hruns hphase, State.loadStep_idle (stops := true) hcur (.inl hcancel),
    State.loadReply_of_cancel hcur htodo hcancel]

/-! ### Unloads (R79, R236) -/

/-- Section `k` is loaded: it is neither parked nor retracts. -/
def State.Loaded (s : State) (k : Nat) : Prop := s.parkedSec k = false ∧ s.get (.WTH_VCM_STATUS_RET_ACTIVE k) = 0

/-- Section `k` retracts, and moves. -/
def State.Moving (s : State) (k : Nat) : Prop := s.get (.WTH_VCM_STATUS_RET_ACTIVE k) = 1 ∧ s.withy.retract.at k = .moving

theorem State.parkedSec_congr {k : Nat} (h : t.get (.WTH_VCM_STATUS_PARKED k) = s.get (.WTH_VCM_STATUS_PARKED k)) :
    t.parkedSec k = s.parkedSec k := by
  unfold State.parkedSec State.is
  rw [h]

theorem State.Loaded.of_get {k : Nat} (h : s.Loaded k) (hparked : t.get (.WTH_VCM_STATUS_PARKED k) = s.get (.WTH_VCM_STATUS_PARKED k))
    (hactive : t.get (.WTH_VCM_STATUS_RET_ACTIVE k) = s.get (.WTH_VCM_STATUS_RET_ACTIVE k)) : t.Loaded k :=
  ⟨(State.parkedSec_congr hparked).trans h.1, hactive.trans h.2⟩

theorem State.Moving.of_get {k : Nat} (h : s.Moving k) (hactive :
    t.get (.WTH_VCM_STATUS_RET_ACTIVE k) = s.get (.WTH_VCM_STATUS_RET_ACTIVE k))
    (hwithy : t.withy = s.withy) : t.Moving k := ⟨hactive.trans h.1, by rw [hwithy]; exact h.2⟩

section turn

variable {j k : Nat}

theorem State.park_parked_ne (hj : j < 4) (hk : k < 4) (hne : j ≠ k) :
    (s.park j).get (.WTH_VCM_STATUS_PARKED k) = s.get (.WTH_VCM_STATUS_PARKED k) := by
  unfold State.park
  split
  · rfl
  · rw [State.get_set_ne _ _ (by dsimp only; omega), State.bridgeOff_parked]

theorem State.Loaded.park (h : s.Loaded k) (hj : j < 4) (hk : k < 4) (hne : j ≠ k) : (s.park j).Loaded k :=
  h.of_get (State.park_parked_ne hj hk hne) (State.park_active j k)

theorem State.Loaded.startRetract (h : s.Loaded k) (hj : j < 4) (hk : k < 4) (hne : j ≠ k) : (s.startRetract j).Loaded k :=
  h.of_get (State.startRetract_parked j k) (by rw [State.startRetract_active_eq, if_neg (by omega)])

theorem State.Moving.startRetract (h : s.Moving k) : (s.startRetract j).Moving k := by
  refine ⟨State.startRetract_keeps_active j k h.1, ?_⟩
  by_cases hj : k = j
  · rw [← hj, State.startRetract_of_active h.1]
    exact h.2
  · rw [State.startRetract_retract_ne hj]
    exact h.2

theorem State.Loaded.moves (h : s.Loaded k) : (s.startRetract k).Moving k := ⟨State.startRetract_active k, State.startRetract_of_idle h.2⟩

theorem State.park_retract : (s.park j).withy.retract = s.withy.retract := by
  unfold State.park
  split <;> rfl

theorem State.Moving.park (h : s.Moving k) : (s.park j).Moving k :=
  ⟨(State.park_active j k).trans h.1, by rw [State.park_retract]; exact h.2⟩

/-- An unload has put section `k` away, as its stall bit says. -/
def State.PutAway (s : State) (stalls k : Nat) : Prop :=
  (stalls / 2 ^ k % 2 = 1 → s.get (.WTH_VCM_STATUS_PARKED k) = 1) ∧ (stalls / 2 ^ k % 2 = 0 → s.Moving k)

/-- One section's turn of an unload. -/
def State.unloadTurn (s : State) (stalls j : Nat) : State :=
  if s.parkedSec j then s else if stalls / 2 ^ j % 2 = 1 then s.park j else s.startRetract j

variable {stalls : Nat}

theorem State.unload_cons (rest : List Nat) : s.unload stalls (j :: rest) = (s.unloadTurn stalls j).unload stalls rest := rfl

theorem State.Loaded.unloadTurn (h : s.Loaded k) (hj : j < 4) (hk : k < 4) (hne : j ≠ k) : (s.unloadTurn stalls j).Loaded k := by
  unfold State.unloadTurn
  split
  · exact h
  split
  · exact h.park hj hk hne
  · exact h.startRetract hj hk hne

theorem State.PutAway.unloadTurn (h : s.PutAway stalls k) : (s.unloadTurn stalls j).PutAway stalls k := by
  unfold State.unloadTurn
  split
  · exact h
  split
  · refine ⟨fun hb => ?_, fun hb => (h.2 hb).park⟩
    unfold State.park
    split
    · exact h.1 hb
    · exact State.set_parked_keeps ((State.bridgeOff_parked j k).trans (h.1 hb))
  · exact ⟨fun hb => (State.startRetract_parked j k).trans (h.1 hb), fun hb => (h.2 hb).startRetract⟩

theorem State.Loaded.putAway (h : s.Loaded k) : (s.unloadTurn stalls k).PutAway stalls k := by
  unfold State.unloadTurn
  rw [if_neg (ne_true_of_eq_false h.1)]
  split
  · next hb =>
    have hidle : s.is (.WTH_VCM_STATUS_RET_ACTIVE k) = false := by
      unfold State.is
      rw [h.2]
      rfl
    refine ⟨fun _ => ?_, fun h0 => by omega⟩
    unfold State.park
    rw [if_neg (ne_true_of_eq_false hidle)]
    exact State.get_set_self _ _ _ (by simp)
  · exact ⟨fun hb => absurd hb ‹_›, fun _ => h.moves⟩

theorem State.PutAway.unload (h : s.PutAway stalls k) (l : List Nat) : (s.unload stalls l).PutAway stalls k := by
  induction l generalizing s with
  | nil => exact h
  | cons j rest ih => exact ih h.unloadTurn

/-- An unload puts every loaded section of its list away. -/
theorem State.Loaded.unload {l : List Nat} (h : s.Loaded k) (hl : ∀ j ∈ l, j < 4) (hk : k ∈ l) : (s.unload stalls l).PutAway stalls k := by
  induction l generalizing s with
  | nil => cases hk
  | cons j rest ih =>
    rw [State.unload_cons]
    by_cases hne : j = k
    · subst hne
      exact h.putAway.unload rest
    · exact ih (h.unloadTurn (hl j List.mem_cons_self) (hl k hk) hne) (fun i hi => hl i (List.mem_cons_of_mem j hi))
        ((List.mem_cons.1 hk).resolve_left (fun he => hne he.symm))

theorem State.PutAway.sectionParked (h : s.PutAway stalls k) : (s.sectionParked j).PutAway stalls k := by
  have hwithy : (s.sectionParked j).withy = s.withy :=
    (State.sectionParked_frame (fun _ hp => hp) (fun _ hr => hr) (Frame.refl _ _ s)).same .withy (by decide)
  have hactive : (s.sectionParked j).get (.WTH_VCM_STATUS_RET_ACTIVE k) = s.get (.WTH_VCM_STATUS_RET_ACTIVE k) :=
    State.sectionParked_get (apart_mod (n := 4) _ (by decide) (by simp) (by decide +kernel) k)
  exact ⟨fun hb => (State.sectionParked_get (apart_mod (n := 4) _ (by decide) (by simp) (by decide +kernel) k)).trans (h.1 hb),
    fun hb => (h.2 hb).of_get hactive hwithy⟩

end turn

/-! ### SECTION_PARK and RETRACT (R79, R236) -/

theorem sectionsOf_lt {m k : Nat} (h : k ∈ sectionsOf m) : k < 4 := List.mem_range.1 ((sectionsOf_sublist m).subset h)

/-- What leaves the mailboxes alone leaves what an answer reads of a pair. -/
theorem Frame.boxOf {W : List Part} {R : List Regs} (h : Frame W R s t) (hR : outsideMailbox R = true) : s.SameBox p t := by
  refine ⟨h.pair_get hR ?_ ?_, h.pair_get hR ?_ ?_, h.pair_get hR ?_ ?_, h.pair_get hR ?_ ?_⟩
  all_goals
    dsimp only
    omega

theorem Frame.mbxOf {W : List Part} {R : List Regs} (h : Frame W R s t) (hR : outsideMailbox R = true) : t.mbx p = s.mbx p :=
  h.pair_get hR (by dsimp only; omega) (by dsimp only; omega)

/-- The sections of a list, parked for the hints that wait for them. -/
def State.allSectionsParked (s : State) (l : List Nat) : State := l.foldl (fun s k => s.sectionParked k) s

/-- The parts of the state that the records of hints may change. -/
def parkParts : List Part := [.dram, .drawn, .mireIrq, .fenIrq, .seqs, .chans, .stg, .lev, .peat, .slu, .mq]

theorem State.allSectionsParked_within (l : List Nat) : Frame parkParts parkRegs s (s.allSectionsParked l) :=
  State.foldl_sectionParked (P := fun t => Frame parkParts parkRegs s t)
    (fun _ _ h => State.sectionParked_frame (fun _ hp => hp) (fun _ hr => hr) h) l (Frame.refl _ _ s)

theorem State.allSectionsParked_noStart (l : List Nat) (k : Nat) : (s.allSectionsParked l).mq.noStart.at k = s.mq.noStart.at k := by
  have hpast : PastTable (fun m : MediaQueues => m.noStart.at k) := fun _ _ _ _ => rfl
  exact State.foldl_sectionParked (P := fun t => t.mq.noStart.at k = s.mq.noStart.at k) (fun _ j h => (hpast.sectionParked j).trans h) l rfl

theorem State.PutAway.allSectionsParked {stalls k : Nat} (h : s.PutAway stalls k) (l : List Nat) :
    (s.allSectionsParked l).PutAway stalls k :=
  State.foldl_sectionParked (P := fun t => t.PutAway stalls k) (fun _ _ h => h.sectionParked) l h

theorem State.PutAway.respond {stalls k status : Nat} {started : Bool} {payload : List Byte} (h : s.PutAway stalls k) :
    (s.respond p status started payload).PutAway stalls k :=
  ⟨fun hb => (State.respond_getMod (n := 4) .WTH_VCM_STATUS_PARKED (by decide) (by simp) (by decide +kernel) k).trans (h.1 hb),
    fun hb => (h.2 hb).of_get (State.respond_getMod (n := 4) .WTH_VCM_STATUS_RET_ACTIVE (by decide) (by simp) (by decide +kernel) k)
      (State.respond_same .withy (by decide))⟩

/-- The unload of a SECTION_PARK. -/
def State.parkStart (s : State) (p stalls : Nat) (l : List Nat) : State :=
  (s.unload stalls l).updRun p (fun r =>
    { r with phase := 1, bad := maskOf (l.filter (fun k => !s.parkedSec k && stalls / 2 ^ k % 2 == 0)) })

/-- The answer of a SECTION_PARK, once its sections are parked. -/
def State.parkReply (s : State) (p : Nat) (l : List Nat) : State :=
  if (s.run p).phase = 1 ∧ s.parkedAll l then
    (s.allSectionsParked l).respondOk p (leBytes 1 (maskOf l) ++ leBytes 1 (s.run p).bad ++ leBytes 2 0)
  else s

section park

variable {stalls : Nat}

theorem exec_sectionPark_eq (hruns : s.Runs p 0x0204) : exec (.sectionPark p stalls) s =
    .next (((s.holdSections (sectionsOf (s.req p 16 1))).when ((s.aq.runs.at p).phase == 0 && (sectionsOf (s.req p 16 1)).all s.lanesIdle)
      (fun t => t.parkStart p stalls (sectionsOf (s.req p 16 1)))).parkReply p (sectionsOf (s.req p 16 1))) :=
  congrArg Host.Outcome.next ((State.onCommand_of_runs hruns _).trans rfl)

theorem exec_sectionPark_held (hruns : s.Runs p 0x0204) (hphase : (s.aq.runs.at p).phase = 0)
    (hidle : (sectionsOf (s.req p 16 1)).all s.lanesIdle = false) :
    exec (.sectionPark p stalls) s = .next (s.holdSections (sectionsOf (s.req p 16 1))) := by
  rw [exec_sectionPark_eq hruns, hidle, Bool.and_false]
  refine congrArg Host.Outcome.next (if_neg fun h => ?_)
  exact absurd (hphase.symm.trans h.1) (by decide)

theorem exec_sectionPark_unloads (hruns : s.Runs p 0x0204) (hphase : (s.aq.runs.at p).phase = 0)
    (hidle : (sectionsOf (s.req p 16 1)).all s.lanesIdle = true) : exec (.sectionPark p stalls) s =
      .next (((s.holdSections (sectionsOf (s.req p 16 1))).parkStart p stalls (sectionsOf (s.req p 16 1))).parkReply p
        (sectionsOf (s.req p 16 1))) := by
  rw [exec_sectionPark_eq hruns, hidle, hphase]
  rfl

theorem exec_sectionPark_parked (hruns : s.Runs p 0x0204) (hphase : (s.aq.runs.at p).phase = 1)
    (hparked : s.parkedAll (sectionsOf (s.req p 16 1)) = true) : exec (.sectionPark p stalls) s =
      .next (((s.holdSections (sectionsOf (s.req p 16 1))).allSectionsParked (sectionsOf (s.req p 16 1))).respond p 0 true
        (leBytes 1 (maskOf (sectionsOf (s.req p 16 1))) ++ leBytes 1 (s.aq.runs.at p).bad ++ leBytes 2 0)) := by
  rw [exec_sectionPark_eq hruns, hphase]
  exact congrArg Host.Outcome.next (if_pos ⟨hphase, hparked⟩)

theorem State.parkReply_keeps {P : State → Prop} {l : List Nat} (hparked : P s → P (s.allSectionsParked l))
    (hrespond : ∀ (t : State) (out : List Byte), P t → P (t.respond p 0 true out)) (h : P s) : P (s.parkReply p l) := by
  unfold State.parkReply
  split
  · exact hrespond _ _ (hparked h)
  · exact h

theorem State.parkReply_noStart {l : List Nat} {k : Nat} (h : s.mq.noStart.at k = true) : (s.parkReply p l).mq.noStart.at k = true :=
  State.parkReply_keeps (P := fun t => t.mq.noStart.at k = true) (fun h => (State.allSectionsParked_noStart l k).trans h)
    (fun t out ht => by rw [State.respond_same (s := t) .mq (by decide)]; exact ht) h

theorem State.parkStart_noStart {l : List Nat} {k : Nat} (hk : k ∈ l) :
    ((s.holdSections l).parkStart p stalls l).mq.noStart.at k = true := by
  have hmq : ((s.holdSections l).parkStart p stalls l).mq = (s.holdSections l).mq := State.unload_mq
  rw [hmq]
  exact State.holdSections_noStart hk

theorem State.Loaded.parked {l : List Nat} {k : Nat} (h : s.Loaded k) (hl : ∀ j ∈ l, j < 4) (hk : k ∈ l) :
    (((s.holdSections l).parkStart p stalls l).parkReply p l).PutAway stalls k := by
  have hheld : (s.holdSections l).Loaded k := h
  have hput : ((s.holdSections l).unload stalls l).PutAway stalls k := hheld.unload hl hk
  exact State.parkReply_keeps (P := fun t => t.PutAway stalls k) (fun ht => ht.allSectionsParked l) (fun t out ht => ht.respond) hput

end park

/-- The operations of section `j` end, and it retracts. -/
def State.haltRetract (s : State) (j : Nat) : State := ((s.terminate (2 * j) 1 0).terminate (2 * j + 1) 1 0).startRetract j

/-- The retract of a RETRACT command's sections. -/
def State.retractList (s : State) (l : List Nat) : State := l.foldl (fun s k => s.haltRetract k) s

/-- The answer of a RETRACT, once its sections are parked. -/
def State.retractReply (s : State) (p : Nat) (l : List Nat) : State :=
  if s.parkedAll l then (s.allSectionsParked l).respondOk p else s

theorem exec_retract_eq (hruns : s.Runs p 0x0205) : exec (.retract p) s = .next ((s.when ((s.aq.runs.at p).phase == 0) (fun t =>
    (t.retractList (sectionsOf (s.req p 16 1))).updRun p (fun r => { r with phase := 1 }))).retractReply p (sectionsOf (s.req p 16 1))) :=
  congrArg Host.Outcome.next ((State.onCommand_of_runs hruns _).trans rfl)

section retract

variable {j k : Nat}

/-- The operations of section `j`'s two lanes, ended. -/
def State.haltLanes (s : State) (j : Nat) : State := (s.terminate (2 * j) 1 0).terminate (2 * j + 1) 1 0

theorem State.haltLanes_get {g : Fld} (h : haltRegs.all (fun r => r.apartB g) = true) : (s.haltLanes j).get g = s.get g :=
  (State.terminate_get h).trans (State.terminate_get h)

theorem State.haltLanes_withy : (s.haltLanes j).withy = s.withy :=
  (State.terminate_frame (fun _ hp => hp) (fun _ hr => hr) (State.terminate_frame (fun _ hp => hp) (fun _ hr => hr)
    (Frame.refl _ _ s))).same .withy (by decide)

theorem State.haltLanes_parked : (s.haltLanes j).get (.WTH_VCM_STATUS_PARKED k) = s.get (.WTH_VCM_STATUS_PARKED k) :=
  State.haltLanes_get (apart_mod (n := 4) _ (by decide) (by simp) (by decide +kernel) k)

theorem State.haltLanes_active : (s.haltLanes j).get (.WTH_VCM_STATUS_RET_ACTIVE k) = s.get (.WTH_VCM_STATUS_RET_ACTIVE k) :=
  State.haltLanes_get (apart_mod (n := 4) _ (by decide) (by simp) (by decide +kernel) k)

theorem State.Loaded.haltLanes (h : s.Loaded k) : (s.haltLanes j).Loaded k := h.of_get State.haltLanes_parked State.haltLanes_active

theorem State.Moving.haltRetract (h : s.Moving k) : (s.haltRetract j).Moving k :=
  (h.of_get (t := s.haltLanes j) State.haltLanes_active State.haltLanes_withy).startRetract

theorem State.haltRetract_parkedSec : (s.haltRetract j).parkedSec k = s.parkedSec k :=
  State.parkedSec_congr ((State.startRetract_parked j k).trans State.haltLanes_parked)

theorem State.haltRetract_mbx : (s.haltRetract j).mbx p = s.mbx p :=
  (State.startRetract_get (apart_mod (n := 64) .MBX_STAT_STATE (by decide) (by simp) (by decide +kernel) p)).trans
    (State.haltLanes_get (apart_mod (n := 64) .MBX_STAT_STATE (by decide) (by simp) (by decide +kernel) p))

/-- A RETRACT moves every loaded section of its list. -/
theorem State.Loaded.retractList {l : List Nat} (h : s.Loaded k) (hl : ∀ j ∈ l, j < 4) (hk : k ∈ l) : (s.retractList l).Moving k := by
  have hrest : ∀ (l : List Nat) (t : State), t.Moving k → (t.retractList l).Moving k := by
    intro l
    induction l with
    | nil => exact fun _ ht => ht
    | cons j rest ih => exact fun t ht => ih _ ht.haltRetract
  induction l generalizing s with
  | nil => cases hk
  | cons j rest ih =>
    by_cases hne : j = k
    · subst hne
      exact hrest rest _ h.haltLanes.moves
    · exact ih (h.haltLanes.startRetract (hl j List.mem_cons_self) (hl k hk) hne) (fun i hi => hl i (List.mem_cons_of_mem j hi))
        ((List.mem_cons.1 hk).resolve_left (fun he => hne he.symm))

theorem State.retractList_keeps {α : Type} (read : State → α) (hread : ∀ (t : State) (j : Nat), read (t.haltRetract j) = read t)
    (l : List Nat) : read (s.retractList l) = read s := by
  induction l generalizing s with
  | nil => rfl
  | cons j rest ih => exact ih.trans (hread s j)

/-- While a section of its list moves, a RETRACT waits. -/
theorem exec_retract_moves (hruns : s.Runs p 0x0205) (hphase : (s.aq.runs.at p).phase = 0) (hk : k ∈ sectionsOf (s.req p 16 1))
    (hloaded : s.Loaded k) : exec (.retract p) s =
      .next ((s.retractList (sectionsOf (s.req p 16 1))).updRun p (fun r => { r with phase := 1 })) := by
  have hparked : (s.retractList (sectionsOf (s.req p 16 1))).parkedSec k = false :=
    (State.retractList_keeps (fun t => t.parkedSec k) (fun _ _ => State.haltRetract_parkedSec) _).trans hloaded.1
  rw [exec_retract_eq hruns, hphase]
  refine congrArg Host.Outcome.next (if_neg fun h => ?_)
  have hall := List.all_eq_true.1 h k hk
  change ((s.retractList (sectionsOf (s.req p 16 1))).parkedSec k && _) = true at hall
  rw [hparked] at hall
  cases hall

end retract

theorem exec_retract_parked (hruns : s.Runs p 0x0205) (hphase : (s.aq.runs.at p).phase = 1)
    (hparked : s.parkedAll (sectionsOf (s.req p 16 1)) = true) :
    exec (.retract p) s = .next ((s.allSectionsParked (sectionsOf (s.req p 16 1))).respond p 0 true []) := by
  rw [exec_retract_eq hruns, hphase]
  exact congrArg Host.Outcome.next (if_pos hparked)

theorem exec_retract_waits (hruns : s.Runs p 0x0205) (hphase : (s.aq.runs.at p).phase = 1)
    (hparked : s.parkedAll (sectionsOf (s.req p 16 1)) = false) : exec (.retract p) s = .next s := by
  rw [exec_retract_eq hruns, hphase]
  exact congrArg Host.Outcome.next (if_neg (ne_true_of_eq_false hparked))

/-! ### POWER_STATE_SET (R245–R247) -/

/-- The step of a POWER_STATE_SET is done. -/
def State.nextPhase (s : State) (p : Nat) : State := s.updRun p (fun r => { r with phase := r.phase + 1 })

/-- A cancel point of a POWER_STATE_SET. -/
def State.cancelPoint (s : State) (p : Nat) (f : State → State) : State := if s.cancelAsked p then s.psEnd p 0x40 else f s

/-- The target parks the heads. -/
def psParks (t : Nat) : Bool := t == 2 || t == 4

/-- The first step: the start sequence ends, and the accelerations scale. -/
def State.psScale (s : State) (t : Nat) : State :=
  (s.endStart (if s.get .MBX_START_CAUSE = 0 then 1 else 2)).set .TUS_SEEK_GLOBAL_ASCALE (if t = 1 ∨ t = 3 then 0x80 else 0x100)

/-- The second step: the heads unload, where the target parks them. -/
def State.psUnload (s : State) (p t stalls : Nat) : State :=
  if !psParks t then (s.nextPhase p).updRun p (fun r => { r with phase := 3 })
  else (s.holdSections (List.range 4)).when ((List.range 4).all (s.holdSections (List.range 4)).lanesIdle)
    (fun s => (s.unload stalls (List.range 4)).nextPhase p)

/-- The step after the spindle's: what is to load, where the target does not park. -/
def State.psLoads (s : State) (p t : Nat) : State :=
  if psParks t then (s.nextPhase p).nextPhase p
  else s.when s.spindleReady (fun s => (s.nextPhase p).updRun p (fun r =>
    { r with todo := maskOf ((List.range 4).filter (fun k => s.parkedSec k && s.loadable k)) }))

/-- The loads' step. -/
def State.psLoad (s : State) (p : Nat) (lock : Option Nat) : State :=
  let s := s.loadStep p lock false
  if (s.run p).cur.isSome || (s.run p).todo != 0 then s
  else if (s.run p).bad ≠ 0 then s.psEnd p 0x0105
  else s.nextPhase p

/-- The last step: the service's source returns, and the command answers. -/
def State.psDone (s : State) (p t : Nat) : State :=
  (((s.when (decide (t ≤ 2)) (fun s => s.setSource s.aq.src)).updAq (fun a => { a with ps := t })).respondOk p (leBytes 4 t)).mwqSync

/-- One execution of a POWER_STATE_SET to `t`, by its phase. -/
def State.psStep (s : State) (p t : Nat) (lock : Option Nat) (stalls : Nat) : Nat → State
  | 0 => if s.aq.loading.isSome then s else (s.psScale t).nextPhase p
  | 1 => s.cancelPoint p (fun s => s.psUnload p t stalls)
  | 2 => s.when (s.parkedAll (List.range 4)) (fun s => (s.allSectionsParked (List.range 4)).nextPhase p)
  | 3 => s.cancelPoint p (fun s => (s.psSpindle t).nextPhase p)
  | 4 => s.when (s.psSpun t) (fun s => s.psRestore.nextPhase p)
  | 5 => s.cancelPoint p (fun s => s.psLoads p t)
  | 6 => s.psLoad p lock
  | _ => s.cancelPoint p (fun s => s.psDone p t)

theorem exec_powerStateSet_eq {lock : Option Nat} {stalls n : Nat} (hruns : s.Runs p 0x0601) (hphase : (s.aq.runs.at p).phase = n) :
    exec (.powerStateSet p lock stalls) s = .next (s.psStep p (s.req p 16 1) lock stalls n) := by
  refine congrArg Host.Outcome.next ((State.onCommand_of_runs hruns _).trans ?_)
  dsimp only
  rw [State.run, hphase]
  rcases n with _ | _ | _ | _ | _ | _ | _ | n <;> rfl

section power

variable {lock : Option Nat} {stalls tgt : Nat}

theorem State.cancelPoint_of_none {f : State → State} (h : s.cancelAsked p = false) : s.cancelPoint p f = f s :=
  if_neg (ne_true_of_eq_false h)

theorem State.nextPhase_phase : ((s.nextPhase p).aq.runs.at p).phase = (s.aq.runs.at p).phase + 1 :=
  congrArg CmdRun.phase (State.updRun_run _)

/-- What keeps the runs and the pair lets the next phase follow in it. -/
theorem State.nextPhase_of_keeps {n : Nat} (hruns : t.aq.runs = s.aq.runs) (hmbx : t.mbx p = s.mbx p) (hrun : s.mbx p = 2)
    (hphase : (s.aq.runs.at p).phase = n) : ((t.nextPhase p).aq.runs.at p).phase = n + 1 ∧ (t.nextPhase p).mbx p = 2 :=
  ⟨State.nextPhase_phase.trans (by rw [hruns, hphase]), hmbx.trans hrun⟩

/-- The registers that the counters of the media queues stand in. -/
def syncRegs : List Regs := [.arr (.MWQ_STATUS_BLOCKED 0) 0x20 16, .arr (.MWQ_STATUS_OUTST 0) 0x20 16, .fld .MWQ_SYS_STATUS_FLUSH,
  .fld .MWQ_SYS_STATUS_CAL]

theorem State.mwqSync_within : Frame [] syncRegs s s.mwqSync := State.mwqSync_frame (fun _ hr => hr) (Frame.refl _ _ s)

/-- The service has reached a state, and an answer says so. -/
def State.psAnswer (s : State) (p status n : Nat) (payload : List Byte) : State :=
  ((s.updAq (fun a => { a with ps := n })).respond p status true payload).mwqSync

theorem State.psAnswer_answers {status n : Nat} {payload : List Byte} (hstatus : status < 2 ^ 16) (hbox : s.SameBox p t) :
    Answered s (t.psAnswer p status n payload) p status true payload :=
  State.mwqSync_within.answered (by decide +kernel) (State.mwqSync_within.same .aq (by decide))
    (State.respond_answered (hbox.trans (.of_regs rfl)) hstatus)

theorem State.psAnswer_ps {status n : Nat} {payload : List Byte} : (s.psAnswer p status n payload).aq.ps = n := by
  have hps := congrArg Aqsia.ps (State.respond_unowned (s := s.updAq (fun a => { a with ps := n })) (p := p) (status := status)
    (started := true) (payload := payload))
  exact (congrArg Aqsia.ps (State.mwqSync_within.same .aq (by decide))).trans hps

theorem State.psEnd_answers {status : Nat} (hstatus : status < 2 ^ 16) :
    Answered s (s.psEnd p status) p status true (leBytes 4 s.psReached) ∧ (s.psEnd p status).aq.ps = s.psReached :=
  ⟨State.psAnswer_answers hstatus (.refl p s), State.psAnswer_ps⟩

theorem State.endStart_runs (r : Nat) : (s.endStart r).aq.runs = s.aq.runs := by
  unfold State.endStart
  split <;> rfl

/-- The first step (R247): it ends the start sequence and scales the seeks. -/
theorem State.psScale_effects : (s.psScale tgt).get .TUS_SEEK_GLOBAL_ASCALE = (if tgt = 1 ∨ tgt = 3 then 0x80 else 0x100) ∧
    (s.psScale tgt).aq.starting = false ∧ (s.psScale tgt).aq.runs = s.aq.runs ∧ (s.psScale tgt).mbx p = s.mbx p := by
  refine ⟨(State.get_set_self _ _ _ (by decide)).trans ?_, State.endStart_starting _, State.endStart_runs _,
    (State.get_set_other _ _ ?_).trans ((State.endStart_within _).mbxOf (by decide +kernel))⟩
  · split <;> rfl
  · dsimp only
    omega

theorem psParks_of_parks (h : tgt = 2 ∨ tgt = 4) : psParks tgt = true := by
  simpa [psParks] using h

/-- A target that parks the heads unloads them all. -/
theorem State.psUnload_of_parks (h : tgt = 2 ∨ tgt = 4) (hidle : (List.range 4).all s.lanesIdle = true) :
    s.psUnload p tgt stalls = ((s.holdSections (List.range 4)).unload stalls (List.range 4)).nextPhase p := by
  unfold State.psUnload
  rw [psParks_of_parks h]
  exact if_pos hidle

theorem psParks_of_not (h : ¬ (tgt = 2 ∨ tgt = 4)) : psParks tgt = false := by
  simpa [psParks] using h

theorem State.psUnload_of_not (h : ¬ (tgt = 2 ∨ tgt = 4)) :
    s.psUnload p tgt stalls = (s.nextPhase p).updRun p (fun r => { r with phase := 3 }) := by
  unfold State.psUnload
  rw [psParks_of_not h]
  rfl

theorem State.unload_mbx (l : List Nat) : (s.unload stalls l).mbx p = s.mbx p :=
  (State.unload_frame (fun _ hp => hp) (fun _ hr => hr) (Frame.refl _ _ s)).mbxOf (by decide +kernel)

theorem State.unload_aq (l : List Nat) : (s.unload stalls l).aq = s.aq :=
  (State.unload_frame (fun _ hp => hp) regsIn_all (Frame.refl _ _ s)).same .aq (by decide)

/-! The spindle's step -/

/-- The internal commutation of a low-speed target. -/
def State.psSource (s : State) (tgt : Nat) : State := s.when (tgt == 3) (fun s => s.setSource 0)

/-- The profile of a change between the upper states, with what it replaces kept. -/
def State.psProfile (s : State) (tgt : Nat) : State :=
  s.when (decide (3 ≤ s.aq.ps) && tgt != s.aq.ps && s.aq.restore.isNone) (fun s =>
    (((s.updAq (fun a => { a with
      restore := some (s.get .WTH_SPN_CUR_IRUN, s.get .TUS_SPN_PROF_RATE, s.get .TUS_SPN_PROF_RACC) })).set .WTH_SPN_CUR_IRUN 0xC8).set
        .TUS_SPN_PROF_RATE 1000).set .TUS_SPN_PROF_RACC 2000)

/-- The spindle runs. -/
def State.keepRunning (s : State) : State := if s.is .WTH_SPN_CTRL_RUN && !s.spinIs 0 then s else s.runStart

theorem State.psSpindle_eq : s.psSpindle tgt = if tgt = 4 then s.runStop
    else (((s.psSource tgt).psProfile tgt).setSpeed (if tgt = 3 then 0x54_6000 else ((s.psSource tgt).psProfile tgt).aq.target)).keepRunning := by
  rfl

theorem State.psProfile_aq : (s.psProfile tgt).aq.target = s.aq.target ∧ (s.psProfile tgt).aq.runs = s.aq.runs := by
  unfold State.psProfile State.when
  split <;> exact ⟨rfl, rfl⟩

theorem State.psSource_aq : (s.psSource tgt).aq = s.aq := by
  unfold State.psSource State.when
  split
  · exact (State.setSource_within 0).same .aq (by decide)
  · rfl

theorem State.keepRunning_within :
    Frame runParts runRegs s s.keepRunning := ite_frame (fun _ => Frame.refl _ _ s) (fun _ => State.runStart_within)

theorem State.psSpindle_runs : (s.psSpindle tgt).aq.runs = s.aq.runs := by
  rw [State.psSpindle_eq]
  split
  · rw [State.runStop_within.same .aq (by decide)]
  · rw [State.keepRunning_within.same .aq (by decide), (State.setSpeed_within _).same .aq (by decide), State.psProfile_aq.2,
    State.psSource_aq]

theorem State.psSpindle_stops (h : tgt = 4) : (s.psSpindle tgt).get .WTH_SPN_CTRL_RUN = 0 := by
  rw [State.psSpindle_eq, if_pos h]
  exact State.runStop_run

theorem State.psSpindle_speed (h : tgt ≠ 4) :
    (s.psSpindle tgt).get .WTH_SPN_SPEED_SPEED = if tgt = 3 then 0x54_6000 else s.aq.target % 2 ^ 24 := by
  rw [State.psSpindle_eq, if_neg h, State.keepRunning_within.get (by decide +kernel), State.setSpeed_speed, State.psProfile_aq.1,
    State.psSource_aq]
  split <;> rfl

theorem State.psSpindle_mbx : (s.psSpindle tgt).mbx p = s.mbx p :=
  (State.psSpindle_frame (fun _ hp => hp) (fun _ hr => hr) (Frame.refl _ _ s)).mbxOf (by decide +kernel)

theorem State.psRestore_effects : s.psRestore.aq.restore = none ∧ s.psRestore.aq.runs = s.aq.runs := by
  unfold State.psRestore
  split
  · exact ⟨rfl, rfl⟩
  · exact ⟨‹_›, rfl⟩

theorem State.psRestore_mbx : s.psRestore.mbx p = s.mbx p :=
  (State.psRestore_frame (fun _ hp => hp) (fun _ hr => hr) (Frame.refl _ _ s)).mbxOf (by decide +kernel)

/-- The step before the loads. -/
theorem State.psLoads_effects (hphase : (s.aq.runs.at p).phase = 5) (h : (tgt = 2 ∨ tgt = 4) ∨ s.spindleReady = true) :
    ((s.psLoads p tgt).aq.runs.at p).phase = (if tgt = 2 ∨ tgt = 4 then 7 else 6) ∧
      (¬ (tgt = 2 ∨ tgt = 4) → ((s.psLoads p tgt).aq.runs.at p).todo = maskOf ((List.range 4).filter (fun k => s.parkedSec k && s.loadable k))) ∧
      (s.psLoads p tgt).mbx p = s.mbx p := by
  have hnext : ((s.nextPhase p).aq.runs.at p).phase = 6 := State.nextPhase_phase.trans (by rw [hphase])
  unfold State.psLoads
  by_cases hparks : tgt = 2 ∨ tgt = 4
  · rw [psParks_of_parks hparks, if_pos rfl, if_pos hparks]
    exact ⟨State.nextPhase_phase.trans (by rw [hnext]), absurd hparks, rfl⟩
  · rw [psParks_of_not hparks, if_neg Bool.false_ne_true, if_neg hparks, State.when, h.resolve_left hparks, if_pos rfl]
    exact ⟨(congrArg CmdRun.phase (State.updRun_run _)).trans hnext, fun _ => congrArg CmdRun.todo (State.updRun_run _), rfl⟩

theorem State.psLoad_of_none (hcur : (s.aq.runs.at p).cur = none) (htodo : (s.aq.runs.at p).todo = 0) :
    s.psLoad p lock = if (s.aq.runs.at p).bad ≠ 0 then s.psEnd p 0x0105 else s.nextPhase p := by
  unfold State.psLoad
  rw [State.loadStep_idle (stops := false) hcur (.inr htodo)]
  dsimp only
  rw [State.run, hcur, htodo]
  rfl

/-- The source that the service set returns with a state in which the spindle runs at the service's speed. -/
def State.psSourceBack (s : State) (tgt : Nat) : State := s.when (decide (tgt ≤ 2)) (fun s => s.setSource s.aq.src)

theorem State.psDone_eq : s.psDone p tgt = (s.psSourceBack tgt).psAnswer p 0 tgt (leBytes 4 tgt) := rfl

theorem State.psSourceBack_within : Frame [.withy] [.fld .WTH_SPN_CTRL_SRC, .fld .WTH_SPN_STATUS_AT_SPEED, .fld .WTH_SPN_STATUS_SPD95,
    .fld .WTH_SPN_STATUS_SPD90] s (s.psSourceBack tgt) :=
  ite_frame (fun _ => State.setSource_within _) (fun _ => Frame.refl _ _ s)

theorem State.psDone_effects : Answered s (s.psDone p tgt) p 0 true (leBytes 4 tgt) ∧ (s.psDone p tgt).aq.ps = tgt ∧
    (tgt ≤ 2 → (s.psDone p tgt).get .WTH_SPN_CTRL_SRC = s.aq.src % 2) := by
  rw [State.psDone_eq]
  refine ⟨State.psAnswer_answers (by decide) (State.psSourceBack_within.boxOf (by decide +kernel)), State.psAnswer_ps, fun h => ?_⟩
  refine (State.mwqSync_within.get (by decide +kernel)).trans ((State.respond_get (by decide +kernel)).trans ?_)
  refine (State.get_of_regs rfl _).trans ?_
  unfold State.psSourceBack
  rw [State.when, decide_eq_true h]
  exact State.setSource_src _

/-- A cancel at one of its points ends the command with the state it has reached (R245). -/
theorem exec_powerStateSet_cancelled {n : Nat} (hruns : s.Runs p 0x0601) (hphase : (s.aq.runs.at p).phase = n) (hcancel :
    s.cancelAsked p = true)
    (hn : n ∈ [1, 3, 5, 7]) : exec (.powerStateSet p lock stalls) s = .next (s.psEnd p 0x40) := by
  rw [exec_powerStateSet_eq hruns hphase]
  simp only [List.mem_cons, List.not_mem_nil, or_false] at hn
  rcases hn with rfl | rfl | rfl | rfl
  all_goals exact congrArg Host.Outcome.next (if_pos hcancel)

end power

/-- Settles O47: each command's execution is its named steps, and each step keeps the pair it answers. -/
theorem spindleAndSectionsObey : Obligations.SpindleAndSectionsObey := by
  unfold Obligations.SpindleAndSectionsObey
  refine ⟨fun s p hruns hphase => ?_, fun s p hruns hphase hwait => ?_, fun s p hruns hphase hwait hneither hcancel => ?_,
    fun s p hruns hphase hwait hneither hcancel => ?_, fun s p hruns => ?_,
      fun s p lock k rest hruns hphase hparked hload hcancel hcur => ?_,
    fun s p lock hruns hloaded hrun => ?_, fun s p k track hruns hphase hcur htodo hbad hparked hidle => ?_,
    fun s p k hruns hphase hk hcur htodo hbad hparked hidle => ?_, fun s p lock hruns hphase hcur htodo hcancel => ?_,
    fun s p stalls hruns hphase hidle => ?_, fun s p stalls hruns hphase hidle => ?_, fun s p stalls hruns hphase hparked => ?_,
    fun s p hruns hphase => ?_, fun s p hruns hphase hparked => ?_, fun s p hruns hphase hparked => ?_, fun s p emf hruns => ?_,
    fun s p k hruns hk => ?_, fun s p hruns => ?_, fun s p lock stalls hruns hphase hload => ?_,
    fun s p lock stalls hruns hphase hload => ?_, fun s p lock stalls hruns hphase hcancel hparks => ?_,
    fun s p lock stalls hruns hphase hcancel hparks hidle => ?_, fun s p lock stalls hruns hphase hparked => ?_,
    fun s p lock stalls hruns hphase hcancel => ?_, fun s p lock stalls hruns hphase hspun => ?_,
    fun s p lock stalls hruns hphase hcancel hready => ?_, fun s p lock stalls hruns hphase hcur htodo hbad => ?_,
    fun s p lock stalls hruns hphase hcur htodo hbad => ?_, fun s p lock stalls hruns hphase hcancel => ?_,
    fun s p lock stalls hruns hphase hcancel => ?_, fun s p lock stalls hruns hphase hcancel => ?_,
    fun s p lock stalls hruns hphase hcancel => ?_, fun s p lock stalls hruns hphase hcancel => ?_, fun s p tj hruns => ?_,
    fun s p hruns => ?_⟩
  · obtain ⟨htarget, hsrc, hspeed, hsource, hrun⟩ := State.spinFirst_effects (s := s) (p := p) (src := s.req p 20 1) (s.req p 21 1 == 1)
      (s.req_lt p 16 3)
    refine completes_of_outFrame (execSpindleSet_frame (parts_in rfl) (fun _ hr => hr)) (exec_spindleSet_first hruns hphase)
      (fun _ => ⟨htarget, hsrc, hspeed, hsource, hrun, fun hwait => ?_⟩)
    refine State.spinReply_answers ((State.spinFirst_within _ _ _).boxOf (by decide +kernel)) (.inl ?_)
    exact ((State.spinFirst_within _ _ _).req (by decide +kernel) 22 1).trans hwait
  · exact completes_of_outFrame (execSpindleSet_frame (parts_in rfl) (fun _ hr => hr)) (exec_spindleSet_again hruns hphase)
      (fun _ => State.spinReply_answers (.refl p s) (hwait.imp_right runs_flag.1))
  · refine completes_of_outFrame (execSpindleSet_frame (parts_in rfl) (fun _ hr => hr)) (t := s.respond p 0x40 true []) ?_
      (fun _ => State.respond_answers (by decide))
    rw [exec_spindleSet_again hruns hphase, State.spinReply_waits hwait (fun h => hneither (runs_flag.2 h)), if_pos hcancel]
  · refine completes_of_outFrame (execSpindleSet_frame (parts_in rfl) (fun _ hr => hr)) (t := s) ?_ (fun _ => rfl)
    rw [exec_spindleSet_again hruns hphase, State.spinReply_waits hwait (fun h => hneither (runs_flag.2 h)),
      if_neg (ne_true_of_eq_false hcancel)]
  · exact completes_of_outFrame (execSpindleStatus_frame (parts_in rfl) (fun _ hr => hr)) (exec_spindleStatus_eq hruns)
      (fun _ => State.respond_answers (by decide))
  · exact completes_of_outFrame (execSectionLoad_frame (parts_in rfl) (fun _ hr => hr))
      (exec_sectionLoad_starts hruns hphase hparked hload hcancel hcur)
      (fun _ => ⟨State.nextLoad_runs.1, State.nextLoad_runs.2, State.nextLoad_lanes.1, State.nextLoad_lanes.2,
        fun h => State.nextLoad_enabled h, State.nextLoad_mbx.trans hruns.1⟩)
  · exact completes_of_outFrame (execSectionLoad_frame (parts_in rfl) (fun _ hr => hr)) (exec_sectionLoad_loaded hruns hloaded hrun)
      (fun _ => State.respond_answered (.of_regs rfl) (by decide))
  · have hok : (s.endLoad k (some track)).1 = true := by rw [State.endLoad_of_idle hparked hidle]
    refine completes_of_outFrame (execSectionLoad_frame (parts_in rfl) (fun _ hr => hr))
      (exec_sectionLoad_good hruns hphase hcur htodo hbad hok)
      (fun _ => ⟨State.respond_answered State.endLast_box (by decide), ?_, ?_⟩)
    · rw [State.endLast_locked hparked hidle, Lane.lockAt_r]
      rfl
    · rw [State.endLast_locked hparked hidle, Lane.lockAt_started]
  · have hok : (s.endLoad k none).1 = false := by rw [State.endLoad_of_idle hparked hidle]
    exact completes_of_outFrame (execSectionLoad_frame (parts_in rfl) (fun _ hr => hr))
      (exec_sectionLoad_bad hruns hphase hcur htodo hok)
      (fun _ => ⟨⟨_, State.respond_answered State.endLast_box (by decide)⟩, State.endLast_retracts hparked hidle⟩)
  · exact completes_of_outFrame (execSectionLoad_frame (parts_in rfl) (fun _ hr => hr))
      (exec_sectionLoad_cancelled hruns hphase hcur htodo hcancel) (fun _ => ⟨_, State.respond_answers (by decide)⟩)
  · exact completes_of_outFrame (execSectionPark_frame (parts_in rfl) (fun _ hr => hr)) (exec_sectionPark_held hruns hphase hidle)
      (fun _ => ⟨fun _ hk => State.holdSections_noStart hk, hphase, hruns.1⟩)
  · exact completes_of_outFrame (execSectionPark_frame (parts_in rfl) (fun _ hr => hr)) (exec_sectionPark_unloads hruns hphase hidle)
      (fun _ => ⟨fun _ hk => State.parkReply_noStart (State.parkStart_noStart hk),
        fun k hk hparked hactive => State.Loaded.parked ⟨hparked, hactive⟩ (fun _ => sectionsOf_lt) hk⟩)
  · have hheld : s.SameBox p (s.holdSections (sectionsOf (s.req p 16 1))) := .of_regs rfl
    refine completes_of_outFrame (execSectionPark_frame (parts_in rfl) (fun _ hr => hr)) (exec_sectionPark_parked hruns hphase hparked)
      (fun _ => ⟨State.respond_answered (hheld.trans ((State.allSectionsParked_within _).boxOf (by decide +kernel))) (by decide),
        fun k hk => ?_⟩)
    rw [State.respond_same .mq (by decide), State.allSectionsParked_noStart]
    exact State.holdSections_noStart hk
  · by_cases hany : ∃ k ∈ sectionsOf (s.req p 16 1), s.Loaded k
    · obtain ⟨k, hk, hloaded⟩ := hany
      refine completes_of_outFrame (execRetract_frame (parts_in rfl) (fun _ hr => hr)) (exec_retract_moves hruns hphase hk hloaded)
        (fun _ j hj hparked hidle => ?_)
      have hmoving := State.Loaded.retractList (s := s) ⟨hparked, hidle⟩ (fun _ => sectionsOf_lt) hj
      exact ⟨hmoving.1, hmoving.2,
        (State.retractList_keeps (fun t => t.mbx p) (fun _ _ => State.haltRetract_mbx) (sectionsOf (s.req p 16 1))).trans hruns.1⟩
    · exact completes_of_outFrame (execRetract_frame (parts_in rfl) (fun _ hr => hr)) (exec_retract_eq hruns)
        (fun _ j hj hparked hidle => absurd ⟨j, hj, hparked, hidle⟩ hany)
  · exact completes_of_outFrame (execRetract_frame (parts_in rfl) (fun _ hr => hr)) (exec_retract_parked hruns hphase hparked)
      (fun _ => State.respond_answered ((State.allSectionsParked_within _).boxOf (by decide +kernel)) (by decide))
  · exact completes_of_outFrame (execRetract_frame (parts_in rfl) (fun _ hr => hr)) (exec_retract_waits hruns hphase hparked) (fun _ => rfl)
  · exact completes_of_outFrame (execMotorClear_frame (parts_in rfl) (fun _ hr => hr)) (exec_motorClear_eq hruns)
      (fun _ => ⟨State.respond_answered ((State.clearFault_within _).boxOf (by decide +kernel)) (by decide),
        (State.respond_get (by decide +kernel)).trans (State.clearFault_state _)⟩)
  · subst hk
    exact completes_of_outFrame (execSectionStatus_frame (parts_in rfl) (fun _ hr => hr)) (exec_sectionStatus_eq hruns)
      (fun _ => State.respond_answers (by decide))
  · obtain ⟨heso, hesi, hphase, hoffset⟩ := State.encSync_fields (s := s) (f := s.req p 16 1) (s.req_lt p 18 2)
    refine completes_of_outFrame (execEncSyncSet_frame (parts_in rfl) (fun _ hr => hr)) (exec_encSyncSet_eq hruns)
      (fun _ => ⟨State.respond_answered ((State.encSync_within _ _ _).boxOf (by decide +kernel)) (by decide), ?_, ?_, ?_, ?_⟩)
    · rw [State.respond_get (by decide +kernel), State.esiControl_get (by decide +kernel), heso]
    · rw [State.respond_get (by decide +kernel), State.esiControl_get (by decide +kernel), hesi]
    · rw [State.respond_get (by decide +kernel), State.esiControl_get (by decide +kernel), hphase]
    · rw [State.respond_get (by decide +kernel), State.esiControl_get (by decide +kernel), hoffset]
  · obtain ⟨hscale, hstarting, hkept, hmbx⟩ := State.psScale_effects (s := s) (p := p) (tgt := s.req p 16 1)
    obtain ⟨hnext, hwaits⟩ := State.nextPhase_of_keeps hkept hmbx hruns.1 hphase
    refine completes_of_outFrame (execPowerStateSet_frame (parts_in rfl) (fun _ hr => hr)) (t := (s.psScale (s.req p 16 1)).nextPhase p) ?_
      (fun _ => ⟨hnext, hscale, hstarting, hwaits⟩)
    rw [exec_powerStateSet_eq hruns hphase]
    refine congrArg Host.Outcome.next (if_neg ?_)
    rw [hload]
    exact Bool.false_ne_true
  · refine completes_of_outFrame (execPowerStateSet_frame (parts_in rfl) (fun _ hr => hr)) (t := s) ?_ (fun _ => rfl)
    rw [exec_powerStateSet_eq hruns hphase]
    exact congrArg Host.Outcome.next (if_pos (Option.isSome_iff_ne_none.2 hload))
  · refine completes_of_outFrame (execPowerStateSet_frame (parts_in rfl) (fun _ hr => hr))
      (t := (s.nextPhase p).updRun p (fun r => { r with phase := 3 })) ?_ (fun _ => ⟨congrArg CmdRun.phase (State.updRun_run _), hruns.1⟩)
    rw [exec_powerStateSet_eq hruns hphase, State.psStep, State.cancelPoint_of_none hcancel, State.psUnload_of_not hparks]
  · have haq : ((s.holdSections (List.range 4)).unload stalls (List.range 4)).aq.runs = s.aq.runs := by
      rw [State.unload_aq]
      rfl
    obtain ⟨hnext, hwaits⟩ := State.nextPhase_of_keeps haq (State.unload_mbx _) hruns.1 hphase
    refine completes_of_outFrame (execPowerStateSet_frame (parts_in rfl) (fun _ hr => hr))
      (t := ((s.holdSections (List.range 4)).unload stalls (List.range 4)).nextPhase p) ?_
      (fun _ => ⟨hnext, fun k hk => ?_, fun k hk hparked hactive => ?_, hwaits⟩)
    · rw [exec_powerStateSet_eq hruns hphase, State.psStep, State.cancelPoint_of_none hcancel, State.psUnload_of_parks hparks hidle]
    · exact (congrArg (fun m => m.noStart.at k) State.unload_mq).trans (State.holdSections_noStart (List.mem_range.2 hk))
    · have hheld : (s.holdSections (List.range 4)).Loaded k := ⟨hparked, hactive⟩
      exact hheld.unload (fun _ => List.mem_range.1) (List.mem_range.2 hk)
  · obtain ⟨hnext, hwaits⟩ := State.nextPhase_of_keeps
      (congrArg Aqsia.runs ((State.allSectionsParked_within (s := s) (List.range 4)).same .aq (by decide)))
      ((State.allSectionsParked_within (s := s) (List.range 4)).mbxOf (by decide +kernel)) hruns.1 hphase
    refine completes_of_outFrame (execPowerStateSet_frame (parts_in rfl) (fun _ hr => hr))
      (t := (s.allSectionsParked (List.range 4)).nextPhase p) ?_ (fun _ => ⟨hnext, hwaits⟩)
    rw [exec_powerStateSet_eq hruns hphase]
    exact congrArg Host.Outcome.next (if_pos hparked)
  · obtain ⟨hnext,
    hwaits⟩ := State.nextPhase_of_keeps (State.psSpindle_runs (s := s) (tgt := s.req p 16 1)) State.psSpindle_mbx hruns.1 hphase
    refine completes_of_outFrame (execPowerStateSet_frame (parts_in rfl) (fun _ hr => hr))
      (t := (s.psSpindle (s.req p 16 1)).nextPhase p) ?_ (fun _ => ⟨hnext, State.psSpindle_stops, State.psSpindle_speed, hwaits⟩)
    rw [exec_powerStateSet_eq hruns hphase, State.psStep, State.cancelPoint_of_none hcancel]
  · obtain ⟨hrestored, hkept⟩ := State.psRestore_effects (s := s)
    obtain ⟨hnext, hwaits⟩ := State.nextPhase_of_keeps hkept State.psRestore_mbx hruns.1 hphase
    refine completes_of_outFrame (execPowerStateSet_frame (parts_in rfl) (fun _ hr => hr))
      (t := s.psRestore.nextPhase p) ?_ (fun _ => ⟨hnext, hrestored, hwaits⟩)
    rw [exec_powerStateSet_eq hruns hphase]
    exact congrArg Host.Outcome.next (if_pos hspun)
  · obtain ⟨hnext, htodo, hwaits⟩ := State.psLoads_effects hphase hready
    refine completes_of_outFrame (execPowerStateSet_frame (parts_in rfl) (fun _ hr => hr)) (t := s.psLoads p (s.req p 16 1)) ?_
      (fun _ => ⟨hnext, htodo, hwaits.trans hruns.1⟩)
    rw [exec_powerStateSet_eq hruns hphase, State.psStep, State.cancelPoint_of_none hcancel]
  · obtain ⟨hnext, hwaits⟩ := State.nextPhase_of_keeps (p := p) (s := s) rfl rfl hruns.1 hphase
    refine completes_of_outFrame (execPowerStateSet_frame (parts_in rfl) (fun _ hr => hr)) (t := s.nextPhase p) ?_ (fun _ => ⟨hnext,
      hwaits⟩)
    rw [exec_powerStateSet_eq hruns hphase, State.psStep, State.psLoad_of_none hcur htodo, if_neg (not_not.2 hbad)]
  · refine completes_of_outFrame (execPowerStateSet_frame (parts_in rfl) (fun _ hr => hr)) (t := s.psEnd p 0x0105) ?_
      (fun _ => ⟨_, (State.psEnd_answers (by decide)).1⟩)
    rw [exec_powerStateSet_eq hruns hphase, State.psStep, State.psLoad_of_none hcur htodo, if_pos hbad]
  · refine completes_of_outFrame (execPowerStateSet_frame (parts_in rfl) (fun _ hr => hr)) (t := s.psDone p (s.req p 16 1)) ?_
      (fun _ => State.psDone_effects)
    rw [exec_powerStateSet_eq hruns hphase, State.psStep, State.cancelPoint_of_none hcancel]
    all_goals decide
  · exact completes_of_outFrame (execPowerStateSet_frame (parts_in rfl) (fun _ hr => hr))
      (exec_powerStateSet_cancelled hruns hphase hcancel (by decide))
      (fun _ => State.psEnd_answers (by decide))
  · exact completes_of_outFrame (execPowerStateSet_frame (parts_in rfl) (fun _ hr => hr))
      (exec_powerStateSet_cancelled hruns hphase hcancel (by decide))
      (fun _ => State.psEnd_answers (by decide))
  · exact completes_of_outFrame (execPowerStateSet_frame (parts_in rfl) (fun _ hr => hr))
      (exec_powerStateSet_cancelled hruns hphase hcancel (by decide))
      (fun _ => State.psEnd_answers (by decide))
  · exact completes_of_outFrame (execPowerStateSet_frame (parts_in rfl) (fun _ hr => hr))
      (exec_powerStateSet_cancelled hruns hphase hcancel (by decide))
      (fun _ => State.psEnd_answers (by decide))
  · exact completes_of_outFrame (execPowerStatus_frame (parts_in rfl) (fun _ hr => hr)) (exec_powerStatus_eq hruns)
      (fun _ => State.respond_answers (by decide))
  · refine completes_of_outFrame (execFenGate_frame (parts_in rfl) (fun _ hr => hr)) (exec_fenGate_eq hruns)
      (fun _ => ⟨State.respond_answered ?_ (by decide),
        (State.respond_get (by decide +kernel)).trans (State.get_set_self _ _ _ (by decide))⟩)
    exact Frame.boxOf (W := []) (R := [.fld (.TIDE_CG_EN_EN 0)])
      (State.set_frame (cov_fld (fun _ hr => hr) (by decide +kernel)) (Frame.refl _ _ s)) (by decide +kernel)

end Sys2Proof.Machine
end


section
set_option Elab.async false

/-! BOOT REACHES READY (19, 21). The boot ROM, Aqsia's boot, trials, the boot record, measurement extensions and the start sequence. -/

namespace Sys2Proof.Machine

variable {s t u : State}

/-! ### The boot ROM (R439, R440) -/

/-- A boot has ended: Aqsia's firmware runs from a slot, or Dyke stands still with no slot to boot. -/
def State.BootEnds (t : State) : Prop :=
  (t.get .DYKE_STATUS_STAGE = 2 ∧ t.mireRuns = true ∧ t.warmBusy = false ∧ t.get .DYKE_STATUS_UDS_LOCK = 1 ∧ t.dyke.completed = false ∧
    t.dyke.recorded = false) ∨
  ((t.get .DYKE_STATUS_STAGE = 4 ∨ t.get .DYKE_STATUS_STAGE = 5) ∧ t.dyke.stuck = true ∧ t.mireRuns = false)

theorem State.bootStop_stuck {n : Nat} (hn : n < 2 ^ Fld.DYKE_STATUS_STAGE.width) (hruns : s.mireRuns = false) :
    (s.bootStop n).get .DYKE_STATUS_STAGE = n ∧ (s.bootStop n).dyke.stuck = true ∧ (s.bootStop n).mireRuns = false :=
  ⟨(State.get_set_self _ .DYKE_STATUS_STAGE n (by decide)).trans (Nat.mod_eq_of_lt hn), rfl, hruns⟩

theorem State.bootStop_factory (n : Nat) : (s.bootStop n).get .DYKE_STATUS_FACTORY = s.get .DYKE_STATUS_FACTORY :=
  (State.bootStop_frame (R := [.fld .DYKE_STATUS_STAGE]) (fun _ hp => hp) (fun _ hr => hr) (Frame.refl _ _ s)).get (by decide)

/-- The fields that tell what boots. -/
def State.bootFields (s : State) (i : Nat) (trial : Bool) (tries : Nat) (fallback : Bool) (time : Nat) : State :=
  let s := ((s.setIf .DYKE_BOOT_TRIAL trial).setIf .DYKE_BOOT_FALLBACK fallback).set .DYKE_BOOT_TRIES tries
  (s.set .DYKE_BOOT_ROM_TIME time).set .DYKE_SLOT_RUNNING i

/-- The slot's versions shown, its parts measured, and the keys of the boot derived. -/
def State.bootKeys (s : State) (i : Nat) (m : List Byte) : State :=
  (((s.forN 7 (fun p s => s.set (.DYKE_VER_VERSION p) (entryAt m p 4 4))).showSlot).measureSlot i).deriveKeys

/-- Mire's core starts with Aqsia's first stage. -/
def State.bootCore (s : State) (i : Nat) : State :=
  let s := (s.writeSram 0x2000_0000 (s.image i 0)).set .DYKE_STATUS_STAGE 2
  s.when (s.committed && s.is .WEIR_AON_STATUS_WARM_PF) (fun s =>
    { s with weir := { s.weir with mireDelay := s.get .WEIR_STATUS_PF_MS } })

/-- The core runs. -/
def State.bootRuns (s : State) (changed : List Nat) : State :=
  { s with mireRuns := true, warmBusy := false, dyke := { s.dyke with
    completed := false, hostSeen := false, changed := changed, recorded := false, bootBody := [] } }

/-- The versions of the parts in use. -/
def State.bootVersions (s : State) (m : List Byte) : State :=
  s.updAq (fun a => { a with
    chan := if s.partChanged 4 then a.chan else entryAt m 4 4 4
    servoTbl := if s.partChanged 5 then a.servoTbl else entryAt m 5 4 4 })

theorem State.bootSlot_eq (i : Nat) (trial : Bool) (tries : Nat) (fallback : Bool) (found : BootFound) :
    s.bootSlot i trial tries fallback found = ((((s.bootFields i trial tries fallback found.time).bootKeys i (s.slot i).manifest).bootCore
      i).bootRuns found.changed).bootVersions (s.slot i).manifest := rfl

theorem State.deriveKeys_lock : s.deriveKeys.get .DYKE_STATUS_UDS_LOCK = 1 := by
  unfold State.deriveKeys
  extract_lets mrs c1 c2 c3 old s1 s2
  have hlock : s2.get .DYKE_STATUS_UDS_LOCK = 1 := State.get_set_self s1 .DYKE_STATUS_UDS_LOCK 1 (by decide)
  clear_value s2
  exact hlock

theorem State.bootCore_fields (i : Nat) : (s.bootCore i).get .DYKE_STATUS_STAGE = 2 ∧
    (s.bootCore i).get .DYKE_STATUS_UDS_LOCK = s.get .DYKE_STATUS_UDS_LOCK := by
  have hsram (a : Nat) (bs : List Byte) : Frame [.sram] [] s (s.writeSram a bs) := State.writeSram_frame (by decide) (Frame.refl _ _ s)
  unfold State.bootCore
  extract_lets u
  have hstage : u.get .DYKE_STATUS_STAGE = 2 := State.get_set_self (s.writeSram _ _) .DYKE_STATUS_STAGE 2 (by decide)
  have hlock : u.get .DYKE_STATUS_UDS_LOCK = s.get .DYKE_STATUS_UDS_LOCK :=
    (State.get_set_other (s.writeSram _ _) _ (by decide)).trans ((hsram _ _).get (by decide))
  clear_value u
  unfold State.when
  split
  · exact ⟨hstage, hlock⟩
  · exact ⟨hstage, hlock⟩

theorem State.bootSlot_ends (i : Nat) (trial : Bool) (tries : Nat) (fallback : Bool) (found : BootFound) :
    (s.bootSlot i trial tries fallback found).BootEnds := by
  rw [State.bootSlot_eq]
  refine .inl ⟨?_, rfl, rfl, ?_, rfl, rfl⟩
  · exact (State.get_of_regs rfl _).trans (State.bootCore_fields i).1
  · exact (State.get_of_regs rfl _).trans ((State.bootCore_fields i).2.trans State.deriveKeys_lock)

/-- Dyke stands still at stage `n`, with no slot to boot. -/
def State.Stuck (t : State) (n : Nat) : Prop := t.get .DYKE_STATUS_STAGE = n ∧ t.dyke.stuck = true ∧ t.mireRuns = false

theorem State.Stuck.ends {n : Nat} (h : t.Stuck n) (hn : n = 4 ∨ n = 5) : t.BootEnds := by
  obtain ⟨hstage, hstuck, hruns⟩ := h
  exact .inr ⟨by rw [hstage]; exact hn, hstuck, hruns⟩

theorem State.tryBoot_ends (i : Nat) (trial : Bool) (tries : Nat) (fallback : Bool) (found : BootFound) (hruns : s.mireRuns = false) :
    (s.tryBoot i trial tries fallback found).BootEnds := by
  unfold State.tryBoot
  split
  · exact State.Stuck.ends (State.bootStop_stuck (by decide) hruns) (.inr rfl)
  · exact State.bootSlot_ends ..

/-- Slot `i` is booted, and else the other one. -/
def State.bootFrom (s : State) (i : Nat) (trial : Bool) (tries : Nat) (fallback : Bool) (found : BootFound) : State :=
  if s.slotOk i then s.tryBoot i trial tries fallback found
  else if (s.spoilSlot i).slotOk (1 - i) then (s.spoilSlot i).tryBoot (1 - i) false tries true found
  else ((s.spoilSlot i).spoilSlot (1 - i)).bootStop 4

/-- The slot that the pointer names is booted, and else the other one. -/
def State.bootChoose (s : State) (found : BootFound) : State :=
  s.chooseSlot.2.bootFrom s.chooseSlot.1.1 s.chooseSlot.1.2.1 s.chooseSlot.1.2.2.1 s.chooseSlot.1.2.2.2 found

theorem State.bootFrom_ends (i : Nat) (trial : Bool) (tries : Nat) (fallback : Bool) (found : BootFound) (hruns : s.mireRuns = false) :
    (s.bootFrom i trial tries fallback found).BootEnds := by
  unfold State.bootFrom
  split
  · exact State.tryBoot_ends _ _ _ _ _ hruns
  split
  · exact State.tryBoot_ends _ _ _ _ _ hruns
  · exact State.Stuck.ends (State.bootStop_stuck (by decide) hruns) (.inl rfl)

/-- The boot of a chosen slot, as the ROM runs it. -/
def State.bootOutcome (s : State) (found : BootFound) : Host.Outcome State Fault Refusal :=
  let ((i, trial, tries, fallback), s) := s.chooseSlot
  if s.slotOk i then .next (s.tryBoot i trial tries fallback found)
  else
    let s := s.spoilSlot i
    if s.slotOk (1 - i) then .next (s.tryBoot (1 - i) false tries true found)
    else .next ((s.spoilSlot (1 - i)).bootStop 4)

theorem State.bootOutcome_eq (s : State) (found : BootFound) : s.bootOutcome found = .next (s.bootChoose found) := by
  unfold State.bootOutcome State.bootChoose State.bootFrom
  rcases s.chooseSlot with ⟨⟨i, trial, tries, fallback⟩, u⟩
  dsimp only
  split
  · rfl
  · split <;> rfl

/-- The registers that the choice of a slot writes. -/
def chooseRegs : List Regs := [.fld .DYKE_SLOT_SEQ, .fld .DYKE_SLOT_INACTIVE, .fld .DYKE_SLOT_CONFIRMED, .fld .DYKE_SLOT_POINTED]

theorem State.chooseSlot_within : Frame [.dyke] chooseRegs s s.chooseSlot.2 :=
  State.chooseSlot_frame (fun _ hp => hp) (fun _ hr => hr) (Frame.refl _ _ s)

theorem State.bootChoose_ends (found : BootFound) (hruns : s.mireRuns = false) : (s.bootChoose found).BootEnds :=
  State.bootFrom_ends _ _ _ _ _ ((State.chooseSlot_within.same .mireRuns (by decide)).trans hruns)

/-- A blank chip without the strap boots no slot. -/
theorem State.slotOk_of_blank (i : Nat) (hcycle : s.get .DYKE_STATUS_LIFECYCLE = 0) (hstrap : s.get .DYKE_STATUS_STRAP = 0) :
    s.slotOk i = false := by
  have hopen : (s.enrolled || s.is .DYKE_STATUS_STRAP) = false := by
    unfold State.enrolled State.is
    rw [hcycle, hstrap]
    rfl
  unfold State.slotOk
  simp only [hopen, Bool.false_and]

theorem State.bootChoose_blank (found : BootFound) (hruns : s.mireRuns = false) (hcycle : s.get .DYKE_STATUS_LIFECYCLE = 0)
    (hstrap : s.get .DYKE_STATUS_STRAP = 0) (hfactory : s.get .DYKE_STATUS_FACTORY = 0) :
    (s.bootChoose found).Stuck 4 ∧ (s.bootChoose found).get .DYKE_STATUS_FACTORY = 0 := by
  have hchosen : s.bootChoose found = ((s.chooseSlot.2.spoilSlot s.chooseSlot.1.1).spoilSlot (1 - s.chooseSlot.1.1)).bootStop 4 := by
    unfold State.bootChoose State.bootFrom
    have hother : (s.chooseSlot.2.spoilSlot s.chooseSlot.1.1).slotOk (1 - s.chooseSlot.1.1) = false :=
      State.slotOk_of_blank _ ((State.chooseSlot_within.get (by decide)).trans hcycle) ((State.chooseSlot_within.get (by decide)).trans hstrap)
    rw [State.slotOk_of_blank _ ((State.chooseSlot_within.get (by decide)).trans hcycle) ((State.chooseSlot_within.get (by decide)).trans hstrap), if_neg Bool.false_ne_true, hother]
    rfl
  rw [hchosen]
  have hkept : Frame [.dyke] chooseRegs s ((s.chooseSlot.2.spoilSlot s.chooseSlot.1.1).spoilSlot (1 - s.chooseSlot.1.1)) :=
    State.spoilSlot_frame (by decide) (State.spoilSlot_frame (by decide) State.chooseSlot_within)
  exact ⟨State.bootStop_stuck (by decide) ((hkept.same .mireRuns (by decide)).trans hruns),
    (State.bootStop_factory 4).trans ((hkept.get (by decide)).trans hfactory)⟩

/-- The factory's functions are open on a blank chip with its strap. -/
def State.bootFactory (s : State) : State :=
  (s.setIf .DYKE_STATUS_FACTORY (!s.enrolled && s.is .DYKE_STATUS_STRAP)).setIf .LEV_STATUS_FACTORY (!s.enrolled && s.is .DYKE_STATUS_STRAP)

/-- The ROM's own measurement. -/
def State.bootMeasured (s : State) : State := (s.extendMr 0 (sha384Bytes s.romBytes)).set .DYKE_BOOT_KIND s.bootKind

/-- What a boot finds. -/
def State.bootSeen (s : State) (found : BootFound) : State :=
  (s.when (s.bootKind == 0) (fun s => s.fixture found)).when found.otpCorrected (fun s => s.raise 0x0F01)

/-- The memory leaves self-refresh at the boot that ends a warm reset. -/
def State.bootWake (s : State) : State := s.when s.warmBusy (fun s => s.updSlu (fun u => { u with selfRefresh := false }))

/-- No boot is due. -/
def State.noBoot (s : State) : Bool := !s.weir.powered || s.dyke.stuck || s.mireRuns || s.get .DYKE_STATUS_STAGE != 0

theorem exec_bootRom_eq (found : BootFound) : exec (.bootRom found) s = .next (if s.bootWake.noBoot then s.bootWake
    else if found.otpFatal then (s.bootWake.bootSeen found).bootStop 5
    else (s.bootWake.bootSeen found).bootFactory.bootMeasured.bootChoose found) := by
  show (if s.bootWake.noBoot then Host.Outcome.next s.bootWake else _) = _
  split
  · rfl
  show (if found.otpFatal then Host.Outcome.next ((s.bootWake.bootSeen found).bootStop 5) else _) = _
  split
  · rfl
  exact State.bootOutcome_eq _ found

theorem State.bootWake_within : Frame [.slu] [] s s.bootWake :=
  State.when_frame (Frame.refl _ _ s) (fun _ ht => State.updSlu_frame (by decide) ht)

theorem State.bootWake_noBoot : s.bootWake.noBoot = s.noBoot := by
  unfold State.noBoot
  rw [State.bootWake_within.same .weir (by decide), State.bootWake_within.same .dyke (by decide),
    State.bootWake_within.same .mireRuns (by decide), State.bootWake_within.get (by decide)]

theorem State.bootSeen_within (found : BootFound) :
    Frame (.dyke :: alarmParts) (alarmRegs ++ haltRegs) s.bootWake (s.bootWake.bootSeen found) :=
  State.when_frame (State.when_frame (Frame.refl _ _ _) (fun _ ht => State.fixture_frame (by decide) ht))
    (fun _ ht => State.raise_frame (by decide) (fun _ hr => hr) ht)

theorem State.bootSeen_runs (found : BootFound) (hruns : s.mireRuns = false) : (s.bootWake.bootSeen found).mireRuns = false :=
  ((State.bootSeen_within found).same .mireRuns (by decide)).trans ((State.bootWake_within.same .mireRuns (by decide)).trans hruns)

/-- What a boot finds leaves the chip's life cycle and its strap. -/
theorem State.bootSeen_get (found : BootFound) {g : Fld} (h : (alarmRegs ++ haltRegs).all (fun r => r.apartB g) = true) :
    (s.bootWake.bootSeen found).get g = s.get g :=
  ((State.bootSeen_within found).get h).trans (State.bootWake_within.get rfl)

theorem State.bootMeasured_within : Frame [] [.fld .DYKE_BOOT_KIND, .grid (.DYKE_MR_DATA 0 0) 0x30 16 0x4 12] s s.bootMeasured :=
  State.set_frame (cov_fld (fun _ hr => hr) (by decide +kernel))
    (State.extendMr_frame (regs_sub (A := [.fld .DYKE_BOOT_KIND,
      .grid (.DYKE_MR_DATA 0 0) 0x30 16 0x4 12]) (fun _ hr => hr) (by decide +kernel))
      (Frame.refl _ _ s))

theorem State.bootMeasured_runs (h : s.mireRuns = false) : s.bootFactory.bootMeasured.mireRuns = false :=
  (State.bootMeasured_within.same .mireRuns (by decide)).trans h

theorem State.bootFactory_get {g : Fld} (h : ([.fld .DYKE_STATUS_FACTORY, .fld .LEV_STATUS_FACTORY] : List Regs).all
    (fun r => r.apartB g) = true) : s.bootFactory.get g = s.get g := by
  have hset : Frame [] [.fld .DYKE_STATUS_FACTORY, .fld .LEV_STATUS_FACTORY] s s.bootFactory :=
    State.set_frame (cov_fld (fun _ hr => hr) (by decide +kernel)) (State.set_frame (cov_fld (fun _ hr => hr) (by decide +kernel)) (Frame.refl _ _ s))
  exact hset.get h

/-- Without the strap no boot opens the factory's functions. -/
theorem State.bootFactory_closed (hstrap : s.get .DYKE_STATUS_STRAP = 0) : s.bootFactory.get .DYKE_STATUS_FACTORY = 0 := by
  have hclosed : (!s.enrolled && s.is .DYKE_STATUS_STRAP) = false := by
    unfold State.is
    rw [hstrap]
    exact Bool.and_false _
  unfold State.bootFactory
  rw [hclosed]
  exact (State.get_set_other _ _ (by decide)).trans (State.get_set_self _ .DYKE_STATUS_FACTORY 0 (by decide))

theorem State.noBoot_of_off (hpower : s.weir.powered = true) (hstuck : s.dyke.stuck = false) (hruns : s.mireRuns = false)
    (hstage : s.get .DYKE_STATUS_STAGE = 0) : s.noBoot = false := by
  unfold State.noBoot
  rw [hpower, hstuck, hruns, hstage]
  rfl

section rom

variable {found : BootFound}

theorem exec_bootRom_idle (hbusy : s.warmBusy = false) (h : s.noBoot = true) : exec (.bootRom found) s = .next s := by
  have hwake : s.bootWake = s := if_neg (ne_true_of_eq_false hbusy)
  rw [exec_bootRom_eq, hwake, if_pos h]

variable (hdue : s.noBoot = false)

include hdue

theorem exec_bootRom_fatal (hfatal : found.otpFatal = true) :
    exec (.bootRom found) s = .next ((s.bootWake.bootSeen found).bootStop 5) := by
  rw [exec_bootRom_eq, State.bootWake_noBoot, hdue, if_neg Bool.false_ne_true, if_pos hfatal]

theorem exec_bootRom_boots (hfatal : found.otpFatal = false) :
    exec (.bootRom found) s = .next ((s.bootWake.bootSeen found).bootFactory.bootMeasured.bootChoose found) := by
  rw [exec_bootRom_eq, State.bootWake_noBoot, hdue, if_neg Bool.false_ne_true, hfatal, if_neg Bool.false_ne_true]

end rom

/-- The boot of a blank chip without its strap stops. -/
theorem State.boot_blank {found : BootFound} (hruns : s.mireRuns = false) (hstrap : s.get .DYKE_STATUS_STRAP = 0)
    (hcycle : s.get .DYKE_STATUS_LIFECYCLE = 0) : ((s.bootWake.bootSeen found).bootFactory.bootMeasured.bootChoose found).Stuck 4 ∧
      ((s.bootWake.bootSeen found).bootFactory.bootMeasured.bootChoose found).get .DYKE_STATUS_FACTORY = 0 := by
  have hseen : (s.bootWake.bootSeen found).get .DYKE_STATUS_STRAP = 0 := (State.bootSeen_get found (by decide)).trans hstrap
  refine State.bootChoose_blank found (State.bootMeasured_runs (State.bootSeen_runs found hruns)) ?_ ?_ ?_
  · rw [State.bootMeasured_within.get (by decide +kernel), State.bootFactory_get (by decide), State.bootSeen_get found (by decide),
    hcycle]
  · rw [State.bootMeasured_within.get (by decide +kernel), State.bootFactory_get (by decide), hseen]
  · rw [State.bootMeasured_within.get (by decide +kernel), State.bootFactory_closed hseen]

/-! ### Aqsia's boot (R478, R479) -/

/-- The counts of the boot: the operating time and the power cycles. -/
def State.bootCounts (s : State) : State := s.commitOpt.commitPcc

/-- The fates of the log's mirror. -/
def State.fatesMirrored (s : State) : State := s.updSth (fun h => { h with fates := h.mirror.records })

/-- The pairs that were not free at the reset, answered. -/
def State.resetAnswered (s : State) : State := (s.aq.atReset.foldl State.answerReset s).updAq (fun a => { a with atReset := [] })

/-- The power state, read from the machine. -/
def State.psRead (s : State) : State := s.updAq (fun a => { a with ps := s.psReached })

/-- What a boot after power-on loads, and what one after a reset answers. -/
def State.bootLoads (s : State) (cal : MotorCal) (kind : Nat) : State :=
  if kind = 0 then (s.loadMotorCal cal).fatesMirrored.fateStatus
  else s.resetAnswered.walkQueues.psRead

/-- The parts of the slot that changed under Aqsia. -/
def State.bootParts (s : State) : State :=
  [4, 6].foldl (fun s p => s.when (s.partChanged p) (fun s => s.raise 0x0F03)) s.loadReed

/-- The start sequence begins, and the boot shows it. -/
def State.bootShow (s : State) (kind : Nat) : State :=
  let s := (((s.set .MBX_START_STEP 5).set .MBX_START_RESULT 0).set .MBX_START_CAUSE 0).set .MBX_START_KIND kind
  let s := (s.set .MBX_START_FAILED 0).set .MBX_START_LOADED 0
  let s := ((s.set .MBX_INFO_MAJOR 3).set .MBX_INFO_MINOR 4).set .MBX_INFO_AQSIA_UP 1
  (s.updAq (fun a => { a with starting := true })).updMq (fun m => { m with bandHold := s.aq.bandCheck })

/-- The boot before it shows itself. -/
def State.bootWork (s : State) (cal : MotorCal) : State := (s.bootCounts.bootLoads cal (s.get .DYKE_BOOT_KIND)).bootParts

/-- Aqsia does not boot: its core stands still, or it is up, or it is not its turn. -/
def State.noAqsiaBoot (s : State) : Bool := !s.mireActs || s.aqsiaUp || s.get .DYKE_STATUS_STAGE != 2

theorem exec_aqsiaBoot_eq (cal : MotorCal) : exec (.aqsiaBoot cal) s = if s.noAqsiaBoot then .next s
    else .next ((((s.bootWork cal).bootShow (s.get .DYKE_BOOT_KIND)).set .DYKE_STATUS_STAGE 3).when
      ((s.bootWork cal).bootShow (s.get .DYKE_BOOT_KIND)).committed State.commitFirmware) := by
  rfl

theorem State.bootCounts_pf : s.bootCounts.get .WEIR_STATUS_PF = s.get .WEIR_STATUS_PF :=
  ((State.commitPcc_frame (fun _ hp => hp) (fun _ hr => hr) (Frame.refl _ _ _)).get (by decide)).trans
    ((State.commitOpt_frame (fun _ hp => hp) (fun _ hr => hr) (Frame.refl _ _ s)).get (by decide))

theorem State.foldl_get {β : Type} {f : State → β → State} {g : Fld} (h : ∀ u b, (f u b).get g = u.get g) (l : List β) :
    (l.foldl f s).get g = s.get g := by
  induction l generalizing s with
  | nil => rfl
  | cons b rest ih => exact ih.trans (h s b)

theorem State.answerReset_pf (p : Nat) : (s.answerReset p).get .WEIR_STATUS_PF = s.get .WEIR_STATUS_PF :=
  (State.answerReset_frame (fun _ hp => hp) (fun _ hr => hr) (Frame.refl _ _ s)).get (by decide +kernel)

theorem State.walkQueues_pf : s.walkQueues.get .WEIR_STATUS_PF = s.get .WEIR_STATUS_PF :=
  (State.walkQueues_frame (fun _ hp => hp) (fun _ hr => hr) (Frame.refl _ _ s)).get (by decide +kernel)

theorem State.loadMotorCal_pf (cal : MotorCal) : (s.loadMotorCal cal).get .WEIR_STATUS_PF = s.get .WEIR_STATUS_PF :=
  (State.loadMotorCal_frame (W := []) (fun _ hr => hr) (Frame.refl _ _ s)).get (by decide +kernel)

theorem State.fateStatus_pf : s.fateStatus.get .WEIR_STATUS_PF = s.get .WEIR_STATUS_PF :=
  (State.fateStatus_frame (W := []) (fun _ hr => hr) (Frame.refl _ _ s)).get (by decide)

theorem State.resetAnswered_pf : s.resetAnswered.get .WEIR_STATUS_PF = s.get .WEIR_STATUS_PF := by
  have hanswered : (s.aq.atReset.foldl State.answerReset s).get .WEIR_STATUS_PF = s.get .WEIR_STATUS_PF :=
    State.foldl_get (fun u p => State.answerReset_pf (s := u) p) _
  exact (State.updAq_get ..).trans hanswered

theorem State.bootLoads_pf (cal : MotorCal) (kind : Nat) : (s.bootLoads cal kind).get .WEIR_STATUS_PF = s.get .WEIR_STATUS_PF := by
  unfold State.bootLoads
  split
  · have hmirrored : (s.loadMotorCal cal).fatesMirrored.get .WEIR_STATUS_PF = (s.loadMotorCal cal).get .WEIR_STATUS_PF :=
      State.updSth_get ..
    rw [State.fateStatus_pf, hmirrored, State.loadMotorCal_pf]
  · have hread : s.resetAnswered.walkQueues.psRead.get .WEIR_STATUS_PF = s.resetAnswered.walkQueues.get .WEIR_STATUS_PF :=
      State.updAq_get ..
    rw [hread, State.walkQueues_pf, State.resetAnswered_pf]

theorem State.bootParts_pf : s.bootParts.get .WEIR_STATUS_PF = s.get .WEIR_STATUS_PF := by
  have hreed : s.loadReed.get .WEIR_STATUS_PF = s.get .WEIR_STATUS_PF :=
    (State.loadReed_frame (fun _ hp => hp) (fun _ hr => hr) (Frame.refl _ _ s)).get (by decide +kernel)
  have hraise (u : State) (p : Nat) : (u.when (u.partChanged p) (fun u => u.raise 0x0F03)).get .WEIR_STATUS_PF = u.get .WEIR_STATUS_PF :=
    State.when_get (State.raise_get (by decide +kernel))
  exact (State.foldl_get hraise _).trans hreed

/-- No boot of Aqsia changes the power-fail state. -/
theorem State.bootWork_pf (cal : MotorCal) : (s.bootWork cal).get .WEIR_STATUS_PF = s.get .WEIR_STATUS_PF :=
  State.bootParts_pf.trans ((State.bootLoads_pf _ _).trans State.bootCounts_pf)

theorem State.bootShow_fields (kind : Nat) : (s.bootShow kind).get .MBX_INFO_AQSIA_UP = 1 ∧ (s.bootShow kind).get .MBX_INFO_MAJOR = 3 ∧
    (s.bootShow kind).get .MBX_INFO_MINOR = 4 ∧ (s.bootShow kind).get .MBX_START_KIND = kind % 4 ∧
    (s.bootShow kind).get .MBX_START_STEP = 5 ∧ (s.bootShow kind).get .MBX_START_RESULT = 0 ∧ (s.bootShow kind).get .MBX_START_LOADED = 0 ∧
    (s.bootShow kind).get .MBX_START_FAILED = 0 ∧ (s.bootShow kind).get .WEIR_STATUS_PF = s.get .WEIR_STATUS_PF := by
  have hregs (v : State) (f : Aqsia → Aqsia) (g : MediaQueues → MediaQueues) (x : Fld) : ((v.updAq f).updMq g).get x = v.get x :=
    State.get_of_regs rfl x
  unfold State.bootShow
  simp (disch := decide) only [hregs, State.get_set_self, State.get_set_other, Nat.reducePow, Nat.reduceMod, and_self]

/-- Aqsia is up: what its boot leaves of `s`. -/
def State.bootUp (s : State) (cal : MotorCal) : State := (s.bootWork cal).bootShow (s.get .DYKE_BOOT_KIND)

theorem State.bootUp_committed (cal : MotorCal) : (s.bootUp cal).committed = s.committed := by
  obtain ⟨-, -, -, -, -, -, -, -, hpf⟩ := State.bootShow_fields (s := s.bootWork cal) (s.get .DYKE_BOOT_KIND)
  unfold State.committed
  rw [show (s.bootUp cal).get .WEIR_STATUS_PF = _ from hpf, State.bootWork_pf]

/-- A commit that stands ends the sequence that the boot has begun. -/
def State.bootEnd (s : State) (cal : MotorCal) : State := ((s.bootUp cal).set .DYKE_STATUS_STAGE 3).when (s.bootUp cal).committed State.commitFirmware

/-- The registers that a commit of Aqsia's firmware writes. -/
def commitRegs : List Regs := alarmRegs ++ haltRegs
    ++ ([.arr (.MBX_DONE_DONE 0) 0x4 2, .grid (.MBX_RSP_DATA 0 0) 0x400 64 0x4 64, .arr (.MBX_STAT_CANCEL_REQ 0) 0x400 64,
    .arr (.MBX_STAT_STARTED 0) 0x400 64, .arr (.MBX_STAT_STATE 0) 0x400 64, .arr (.MBX_LATCH_RSP_STATUS 0) 0x400 64, .arr
    (.MWQ_STATUS_BLOCKED 0) 0x20 16, .arr (.MWQ_STATUS_OUTST 0) 0x20 16, .arr (.MWC_PI_PASS 0) 0x20 4, .arr (.MWC_PI_PI 0)
    0x20 4, .arr (.MWC_STATUS_SCAN_STOP 0) 0x20 4, .arr (.MWC_STATUS_SPILL_CNT 0) 0x20 4] : List Regs) ++ ([.fld
    .MWQ_SYS_STATUS_FLUSH, .fld .MWQ_SYS_STATUS_CAL, .fld .SLU_STATUS_LED_FREE, .arr (.SLU_SEC_FREE_FREE 0) 0x4 4, .arr
    (.SLU_SEC_RUN_RUN 0) 0x4 4, .arr (.SLU_CRED_USED_USED 0) 0x4 32, .fld .DYKE_SLOT_INACTIVE, .fld .MBX_START_RESULT, .fld
    .MBX_START_CAUSE, .fld .MBX_START_FAILED, .fld .MBX_START_LOADED] : List Regs)

theorem State.commitFirmware_within : Frame [.dram, .drawn, .mireIrq, .fenIrq, .seqs, .chans, .stg, .lev, .peat, .slu, .mq, .aq, .dyke]
    commitRegs s s.commitFirmware := State.commitFirmware_frame (fun _ hp => hp) (fun _ hr => hr) (Frame.refl _ _ s)

theorem State.bootEnd_get (cal : MotorCal) {g : Fld} (h : commitRegs.all (fun r => r.apartB g) = true) :
    (s.bootEnd cal).get g = ((s.bootUp cal).set .DYKE_STATUS_STAGE 3).get g :=
  State.when_get (State.commitFirmware_within.get h)

theorem State.bootEnd_shows (cal : MotorCal) : (s.bootEnd cal).aqsiaUp = true ∧ (s.bootEnd cal).get .DYKE_STATUS_STAGE = 3 ∧
    (s.bootEnd cal).get .MBX_INFO_MAJOR = 3 ∧ (s.bootEnd cal).get .MBX_INFO_MINOR = 4 ∧
    (s.bootEnd cal).get .MBX_START_KIND = s.get .DYKE_BOOT_KIND % 4 := by
  obtain ⟨hup, hmajor, hminor, hkind, -⟩ := State.bootShow_fields (s := s.bootWork cal) (s.get .DYKE_BOOT_KIND)
  refine ⟨State.is_of_get ?_, ?_, ?_, ?_, ?_⟩
  · exact (State.bootEnd_get cal (by decide +kernel)).trans ((State.get_set_other _ _ (by decide)).trans hup)
  · exact (State.bootEnd_get cal (by decide +kernel)).trans (State.get_set_self _ .DYKE_STATUS_STAGE 3 (by decide))
  · exact (State.bootEnd_get cal (by decide +kernel)).trans ((State.get_set_other _ _ (by decide)).trans hmajor)
  · exact (State.bootEnd_get cal (by decide +kernel)).trans ((State.get_set_other _ _ (by decide)).trans hminor)
  · exact (State.bootEnd_get cal (by decide +kernel)).trans ((State.get_set_other _ _ (by decide)).trans hkind)

theorem State.bootEnd_starts (cal : MotorCal) (h : s.committed = false) : (s.bootEnd cal).get .MBX_START_STEP = 5 ∧
    (s.bootEnd cal).get .MBX_START_RESULT = 0 ∧ (s.bootEnd cal).get .MBX_START_LOADED = 0 ∧ (s.bootEnd cal).get .MBX_START_FAILED = 0 ∧
    (s.bootEnd cal).aq.starting = true := by
  obtain ⟨-, -, -, -, hstep, hresult, hloaded, hfailed, -⟩ := State.bootShow_fields (s := s.bootWork cal) (s.get .DYKE_BOOT_KIND)
  have hend : s.bootEnd cal = (s.bootUp cal).set .DYKE_STATUS_STAGE 3 := by
    unfold State.bootEnd
    rw [State.bootUp_committed, h]
    rfl
  rw [hend]
  exact ⟨(State.get_set_other _ _ (by decide)).trans hstep, (State.get_set_other _ _ (by decide)).trans hresult,
    (State.get_set_other _ _ (by decide)).trans hloaded, (State.get_set_other _ _ (by decide)).trans hfailed, rfl⟩

theorem exec_aqsiaBoot_boots (cal : MotorCal) (h : s.noAqsiaBoot = false) : exec (.aqsiaBoot cal) s = .next (s.bootEnd cal) := by
  rw [exec_aqsiaBoot_eq, if_neg (ne_true_of_eq_false h)]
  rfl

theorem exec_aqsiaBoot_idle (cal : MotorCal) (h : s.noAqsiaBoot = true) : exec (.aqsiaBoot cal) s = .next s := by
  rw [exec_aqsiaBoot_eq, if_pos h]

/-! ### Trials and the boot record (R441–R443) -/

/-- The boot is complete. -/
def State.markCompleted (s : State) : State := { s with dyke := { s.dyke with completed := true } }

/-- The key of the slot that runs is the chip's own from now on. -/
def State.enrollKey (s : State) : State :=
  { s with dyke := { s.dyke with keyHash := sha384 (manKey (s.slot s.runSlot).manifest) } }.set .DYKE_STATUS_LIFECYCLE 1

/-- A trial's pointer is written confirmed. -/
def State.confirmTrial (s : State) : State := s.when (s.is .DYKE_BOOT_TRIAL) (fun s => s.writePointer s.runSlot false 0 s.otherSlot)

theorem State.completeBoot_eq : s.completeBoot =
    if s.confirmTrial.markCompleted.enrolled then s.confirmTrial.markCompleted else s.confirmTrial.markCompleted.enrollKey := rfl

theorem State.completeBoot_completed : s.completeBoot.dyke.completed = true ∧ s.completeBoot.get .DYKE_STATUS_LIFECYCLE = 1 := by
  rw [State.completeBoot_eq]
  split
  · next h => exact ⟨rfl, eq_of_beq h⟩
  · exact ⟨rfl, State.get_set_self _ .DYKE_STATUS_LIFECYCLE 1 (by decide)⟩

/-- The end of a boot leaves the pointer that the trial's end has written. -/
theorem State.completeBoot_get {g : Fld} (h : ([.fld .DYKE_STATUS_LIFECYCLE] : List Regs).all (fun r => r.apartB g) = true) :
    s.completeBoot.get g = s.confirmTrial.get g := by
  have henroll (u : State) : Frame [.dyke] [.fld .DYKE_STATUS_LIFECYCLE] u u.enrollKey :=
    State.set_frame (cov_fld (fun _ hr => hr) (by decide +kernel)) (upd_dyke (by decide) (Frame.refl _ _ u))
  rw [State.completeBoot_eq]
  split
  · exact State.get_of_regs rfl g
  · exact ((henroll _).get h).trans (State.get_of_regs rfl g)

theorem State.confirmTrial_pointer (h : s.get .DYKE_BOOT_TRIAL = 1) :
    s.confirmTrial.get .DYKE_SLOT_CONFIRMED = 1 ∧ s.confirmTrial.get .DYKE_SLOT_POINTED = s.runSlot := by
  have hslot : s.runSlot < 2 := s.get_lt .DYKE_SLOT_RUNNING
  have hconfirm : s.confirmTrial = s.writePointer s.runSlot false 0 s.otherSlot := if_pos (State.is_of_get h)
  obtain ⟨hpointed, hconfirmed⟩ := State.writePointer_get (s := s) s.runSlot false 0 s.otherSlot
  rw [hconfirm, hpointed, hconfirmed, Nat.mod_eq_of_lt hslot]
  exact ⟨rfl, rfl⟩

theorem State.completeBoot_enrolls (htrial : s.get .DYKE_BOOT_TRIAL = 0) (hnew : s.enrolled = false) :
    s.completeBoot.dyke.keyHash = sha384 (manKey (s.slot s.runSlot).manifest) ∧ s.completeBoot.dyke.copies = s.dyke.copies := by
  have hsame : s.confirmTrial = s := by
    refine if_neg ?_
    unfold State.is
    rw [htrial]
    decide
  have hopen : s.markCompleted.enrolled = false := hnew
  rw [State.completeBoot_eq, hsame, hopen]
  exact ⟨rfl, rfl⟩

/-- The end of a boot is due: Aqsia acts, a host has opened a session, and a trial or the chip's own key is left to settle. -/
def State.trialDue (s : State) : Bool := s.aqsiaActs && s.dyke.hostSeen && !s.dyke.completed && (s.is .DYKE_BOOT_TRIAL || !s.enrolled)

theorem exec_trialConfirm_completes (hdue : s.trialDue = true) (hreq : s.lev.resetReq = none) :
    exec .trialConfirm s = .next s.completeBoot := by
  show Host.Outcome.next (s.when (s.trialDue && _) _) = _
  rw [hdue, hreq]
  rfl

theorem exec_trialConfirm_waits (hdue : s.trialDue = false) : exec .trialConfirm s = .next s := by
  show Host.Outcome.next (s.when (s.trialDue && _) _) = _
  rw [hdue]
  rfl

/-- A trial runs late: it has not completed its boot. -/
def State.trialLate (s : State) : Bool := decide (2 ≤ s.get .DYKE_STATUS_STAGE) && s.is .DYKE_BOOT_TRIAL && !s.dyke.completed

theorem exec_trialTimeout_eq : exec .trialTimeout s = .next (s.when s.trialLate (fun s => s.requestReset 4 0 0)) := rfl

theorem State.requestReset_of_none (cause source inst : Nat) (h : s.lev.resetReq = none) :
    (s.requestReset cause source inst).lev.resetReq = some (cause, source, inst) := by
  unfold State.requestReset
  rw [h]
  rfl

/-- The boot record, signed. -/
def State.recordBoot (s : State) : State :=
  let b := s.bootRecordBytes
  let u := (s.signBy 1 b).2
  { u with dyke := { u.dyke with recorded := true, bootBody := b ++ (s.signBy 1 b).1 } }

theorem exec_bootRecord_eq : exec .bootRecord s = .next (s.when (s.aqsiaActs && !s.dyke.recorded) (fun s =>
    s.recordBoot.peatRecord 0 0x0001 (s.bootRecordBytes ++ (s.signBy 1 s.bootRecordBytes).1))) := rfl

theorem State.peatRecord_dyke (stream type_ : Nat) (body : List Byte) : (s.peatRecord stream type_ body).dyke = s.dyke :=
  (State.peatRecord_frame (fun _ hp => hp) (fun _ hr => hr) (Frame.refl _ _ s)).same .dyke (by decide)

/-! ### Measurement extensions (R435) -/

/-- What a write of GO does once it is let through. -/
def State.extend (s : State) (reg : Nat) : State :=
  if reg % 16 < 10 then (s.set .DYKE_MR_EXT_REG reg).set .DYKE_MR_EXT_ERR 1
  else (s.set .DYKE_MR_EXT_REG reg).extendMr (reg % 16) ((List.range 12).flatMap (fun w => leBytes 4 (s.dyke.ext.at w).toNat))

theorem exec_dykeMrExt_eq (who : Who) (reg : Nat) : exec (.dykeMrExt who reg) s =
    .next (s.reach who fenMayStore 0x4C00_0020 4 (fun _ _ s => s.extend reg)) := rfl

theorem State.mr_congr {r : Nat} (h : ∀ w < 12, t.get (.DYKE_MR_DATA r w) = s.get (.DYKE_MR_DATA r w)) : t.mr r = s.mr r := by
  unfold State.mr
  refine List.flatMap_congr fun w hw => ?_
  rw [h w (List.mem_range.1 hw)]

theorem State.extendMr_other {r q : Nat} {v : List Byte} (hr : r < 16) (hq : q < 16) (hne : q ≠ r) : (s.extendMr r v).mr q = s.mr q := by
  refine State.mr_congr fun w hw => ?_
  unfold State.extendMr
  refine State.forN_keeps (fun t => t.get (.DYKE_MR_DATA q w)) (fun i t => State.get_set_ne _ _ ?_) 12
  dsimp only
  omega

theorem State.extendMr_words {r : Nat} {v : List Byte} {w : Nat} (hw : w < 12) :
    (s.extendMr r v).get (.DYKE_MR_DATA r w) = fieldAt (sha384Bytes (s.mr r ++ v)) (4 * w) 4 := by
  have hset (u : State) : (u.set (.DYKE_MR_DATA r w) (fieldAt (sha384Bytes (s.mr r ++ v)) (4 * w) 4)).get (.DYKE_MR_DATA r w) =
      fieldAt (sha384Bytes (s.mr r ++ v)) (4 * w) 4 :=
    (State.get_set_self _ _ _ (by simp)).trans (Nat.mod_eq_of_lt (fieldAt_lt _ _))
  unfold State.extendMr
  refine State.forN_reaches (Inv := fun _ => True)
    (P := fun u => u.get (.DYKE_MR_DATA r w) = fieldAt (sha384Bytes (s.mr r ++ v)) (4 * w) 4) hw trivial (fun _ _ _ _ => trivial)
    (fun u _ => hset u) (fun i hi u hu => ?_)
  by_cases hiw : i = w
  · subst hiw
    exact hset u
  · refine (State.get_set_ne _ _ ?_).trans hu
    dsimp only
    omega

/-- A measurement that may be extended takes the value written (R435). -/
theorem State.extend_extends {reg : Nat} (hlow : 10 ≤ reg) (hhigh : reg < 16) :
    (∀ w < 12, (s.extend reg).get (.DYKE_MR_DATA reg w) =
      fieldAt (sha384Bytes (s.mr reg ++ (List.range 12).flatMap (fun i => leBytes 4 (s.dyke.ext.at i).toNat))) (4 * w) 4) ∧
    (s.extend reg).bus = s.bus ∧ ∀ r < 16, r ≠ reg → (s.extend reg).mr r = s.mr r := by
  have hmod : reg % 16 = reg := Nat.mod_eq_of_lt hhigh
  have hext : s.extend reg = (s.set .DYKE_MR_EXT_REG reg).extendMr reg ((List.range 12).flatMap (fun w => leBytes 4 (s.dyke.ext.at w).toNat)) := by
    unfold State.extend
    rw [hmod, if_neg (by omega)]
  have hmr (r : Nat) : (s.set .DYKE_MR_EXT_REG reg).mr r = s.mr r := State.mr_congr fun w _ => State.get_set_ne _ _ (by dsimp only; omega)
  rw [hext]
  refine ⟨fun w hw => ?_, ?_, fun r hr hne => ?_⟩
  · rw [State.extendMr_words hw, hmr]
  · exact (State.extendMr_frame (W := []) (fun _ hr => hr) (Frame.refl _ _ _)).same .bus (by decide)
  · rw [State.extendMr_other hhigh hr hne, hmr]

/-- The measurements of the boot are not extended: the write shows an error. -/
theorem State.extend_refused {reg : Nat} (hlow : reg < 10) :
    (s.extend reg).get .DYKE_MR_EXT_ERR = 1 ∧ (s.extend reg).bus = s.bus ∧ ∀ r < 16, (s.extend reg).mr r = s.mr r := by
  have hext : s.extend reg = (s.set .DYKE_MR_EXT_REG reg).set .DYKE_MR_EXT_ERR 1 := if_pos (by omega)
  rw [hext]
  refine ⟨State.get_set_self _ .DYKE_MR_EXT_ERR 1 (by decide), rfl, fun r _ => State.mr_congr fun w _ => ?_⟩
  exact (State.get_set_ne _ _ (by dsimp only; omega)).trans (State.get_set_ne _ _ (by dsimp only; omega))

theorem exec_dykeMrExt_clocked {reg : Nat} (hclock : s.gated 0x4C00_0020 = false) :
    exec (.dykeMrExt .mire reg) s = .next (s.ack.extend reg) := by
  obtain ⟨⟨r, ix⟩, hrow⟩ := Option.isSome_iff_exists.1 (by decide +kernel : (findReg 0x4C00_0020).isSome = true)
  rw [exec_dykeMrExt_eq]
  exact congrArg Host.Outcome.next (State.reach_register (.inl rfl) (by decide) hrow hclock)

theorem exec_dykeMrExt_gated {reg : Nat} (hclock : s.gated 0x4C00_0020 = true) : exec (.dykeMrExt .mire reg) s = .next s.busErr := by
  rw [exec_dykeMrExt_eq]
  exact congrArg Host.Outcome.next (State.reach_busErr (.inl rfl) (.inr (.inr (.inr hclock))))

theorem exec_dykeMrExt_denied {core reg : Nat} : exec (.dykeMrExt (.fen core) reg) s = .next (s.denied core) := by
  rw [exec_dykeMrExt_eq]
  exact congrArg Host.Outcome.next (State.reach_denied (by decide +kernel))

theorem State.denied_mr (core r : Nat) : (s.denied core).mr r = s.mr r := by
  refine State.mr_congr fun w hw => ?_
  exact State.raise_get (apart_mod_mod (n := 16) (m := 12) .DYKE_MR_DATA (by decide) (by decide) (by simp) (by decide +kernel) r w)

/-! ### The start sequence (R480–R486) -/

theorem exec_spindleStart_six {emf : Nat} (hacts : s.aqsiaActs = true) (hstarting : s.aq.starting = true) (hstep :
    s.get .MBX_START_STEP = 6) :
    exec (.spindleStart emf) s = .next s.startSpindle := by
  show execSpindleStart emf s = _
  unfold execSpindleStart
  rw [hacts, hstarting, hstep]
  rfl

theorem exec_spindleStart_undiscovered {emf : Nat} (hacts : s.aqsiaActs = true) (hstarting : s.aq.starting = true)
    (hstep : s.get .MBX_START_STEP = 5) (hlinks : s.discovered = false) : exec (.spindleStart emf) s = .next s := by
  show execSpindleStart emf s = _
  unfold execSpindleStart
  rw [hacts, hstarting, hstep, hlinks]
  rfl

theorem exec_spindleStart_idle {emf : Nat} (h :
    s.aqsiaActs = false ∨ s.aq.starting = false ∨ s.get .MBX_START_STEP < 5 ∨ 8 < s.get .MBX_START_STEP) :
    exec (.spindleStart emf) s = .next s := by
  show execSpindleStart emf s = _
  unfold execSpindleStart
  split
  · rfl
  · next hgo =>
    have hstep : s.get .MBX_START_STEP < 5 ∨ 8 < s.get .MBX_START_STEP := by
      rcases h with h | h | h
      · exact absurd (by rw [h]; rfl) hgo
      · exact absurd (by rw [h, Bool.or_comm]; rfl) hgo
      · exact h
    split
    · omega
    · omega
    · omega
    · omega
    · rfl

theorem State.startSpindle_of_tested (hfault : s.get .WEIR_STATUS_CHOP_FAULT = 0) (htested : s.get .WEIR_STATUS_CHOP_TESTED = 1) :
    s.startSpindle = (((s.setSource 0).setSpeed s.aq.target).set .MBX_START_STEP 7).runStart := by
  have hsound : s.is .WEIR_STATUS_CHOP_FAULT = false := by
    unfold State.is
    rw [hfault]
    rfl
  unfold State.startSpindle
  rw [hsound, if_neg Bool.false_ne_true, if_pos (State.is_of_get htested)]

theorem State.startSpindle_of_untested (hfault : s.get .WEIR_STATUS_CHOP_FAULT = 0) (htested : s.get .WEIR_STATUS_CHOP_TESTED = 0) :
    s.startSpindle = s := by
  have hopen {g : Fld} (h : s.get g = 0) : s.is g = false := by
    unfold State.is
    rw [h]
    rfl
  unfold State.startSpindle
  rw [hopen hfault, hopen htested]
  rfl

theorem State.startSpindle_of_fault (hfault : s.get .WEIR_STATUS_CHOP_FAULT = 1) : s.startSpindle = (s.startCause 3 0).endStart 2 :=
  if_pos (State.is_of_get hfault)

/-- The spindle's start: the internal commutation, the service's speed, and RUN. -/
def State.spinUp (s : State) : State := ((s.setSource 0).setSpeed s.aq.target).set .MBX_START_STEP 7

theorem State.spinUp_fields : s.spinUp.get .MBX_START_STEP = 7 ∧ s.spinUp.get .WTH_SPN_CTRL_SRC = 0 ∧
    s.spinUp.get .WTH_SPN_SPEED_SPEED = s.aq.target % 2 ^ 24 ∧ s.spinUp.get .WTH_SPN_STATUS_STATE = s.get .WTH_SPN_STATUS_STATE := by
  unfold State.spinUp
  refine ⟨State.get_set_self _ .MBX_START_STEP 7 (by decide), ?_, ?_, ?_⟩
  · rw [State.get_set_other _ _ (by decide), (State.setSpeed_within _).get (by decide), State.setSource_src]
  · rw [State.get_set_other _ _ (by decide), State.setSpeed_speed]
  · rw [State.get_set_other _ _ (by decide), (State.setSpeed_within _).get (by decide), (State.setSource_within _).get (by decide)]

theorem State.spinUp_starts : s.spinUp.runStart.get .MBX_START_STEP = 7 ∧ s.spinUp.runStart.get .WTH_SPN_CTRL_RUN = 1 ∧
    s.spinUp.runStart.get .WTH_SPN_CTRL_SRC = 0 ∧ s.spinUp.runStart.get .WTH_SPN_SPEED_SPEED = s.aq.target % 2 ^ 24 ∧
    (s.get .WTH_SPN_STATUS_STATE = 0 → s.spinUp.runStart.get .WTH_SPN_STATUS_STATE = 1) := by
  obtain ⟨hstep, hsrc, hspeed, hstate⟩ := State.spinUp_fields (s := s)
  exact ⟨(State.runStart_within.get (by decide +kernel)).trans hstep, State.runStart_run,
    (State.runStart_within.get (by decide +kernel)).trans hsrc,
    (State.runStart_within.get (by decide +kernel)).trans hspeed, fun h => State.runStart_state (hstate.trans h)⟩

/-- The sections that are loaded, as a mask. -/
def State.loadedMask (s : State) : Nat := maskOf ((List.range 4).filter (fun k => !s.parkedSec k))

theorem State.loadedMask_lt : s.loadedMask < 16 := by
  have hsub : ((List.range 4).filter (fun k => !s.parkedSec k)).map (2 ^ ·) |>.Sublist ((List.range 4).map (2 ^ ·)) :=
    List.filter_sublist.map _
  exact Nat.lt_of_le_of_lt (hsub.sum_le_sum (fun _ _ => Nat.zero_le _)) (by decide)

theorem State.loadedMask_congr (h : ∀ k < 4, t.get (.WTH_VCM_STATUS_PARKED k) = s.get (.WTH_VCM_STATUS_PARKED k)) :
    t.loadedMask = s.loadedMask := by
  unfold State.loadedMask
  refine congrArg maskOf (List.filter_congr fun k hk => ?_)
  rw [State.parkedSec_congr (h k (List.mem_range.1 hk))]

theorem State.loadedMask_of_parked (h : s.allParked = true) : s.loadedMask = 0 := by
  unfold State.loadedMask
  rw [List.filter_eq_nil_iff.2 fun k hk => ?_]
  · rfl
  · have hparked : s.parkedSec k = true := List.all_eq_true.1 h k hk
    rw [hparked]
    exact Bool.false_ne_true

/-- What the start sequence shows at its end. -/
def State.showStart (s : State) (r : Nat) : State :=
  ((s.set .MBX_START_RESULT r).set .MBX_START_LOADED s.loadedMask).set .MBX_START_FAILED (15 - s.loadedMask)

/-- The sequence forgets what it was about to do. -/
def State.stopStart (s : State) : State :=
  (s.updAq (fun a => { a with starting := false, toLoad := [], loading := none, again := [], bandCheck := false })).updMq
    (fun m => { m with bandHold := false })

theorem State.endStart_eq (h : s.aq.starting = true) (r : Nat) : s.endStart r = (s.showStart r).stopStart := if_pos h

/-- The start sequence ends with a result and the sections it has loaded. -/
theorem State.endStart_of_starting (h : s.aq.starting = true) {r : Nat} (hr : r < 4) :
    (s.endStart r).get .MBX_START_RESULT = r ∧ (s.endStart r).get .MBX_START_LOADED = s.loadedMask ∧ (s.endStart r).aq.bandCheck = false := by
  have hstop (u : State) (g : Fld) : u.stopStart.get g = u.get g := State.get_of_regs rfl g
  rw [State.endStart_eq h]
  refine ⟨?_, ?_, rfl⟩
  · rw [hstop, State.showStart, State.get_set_other _ _ (by decide), State.get_set_other _ _ (by decide),
    State.get_set_self _ .MBX_START_RESULT r (by decide)]
    exact Nat.mod_eq_of_lt hr
  · rw [hstop, State.showStart, State.get_set_other _ _ (by decide), State.get_set_self _ .MBX_START_LOADED _ (by decide)]
    exact Nat.mod_eq_of_lt State.loadedMask_lt

theorem State.startCause_starting (cause failed : Nat) : (s.startCause cause failed).aq.starting = s.aq.starting :=
  congrArg Aqsia.starting ((State.startCause_frame (W := []) (fun _ hr => hr) (Frame.refl _ _ s)).same .aq (by decide))

theorem State.startCause_cause {cause failed : Nat} (hcause : cause < 256) (h : s.get .MBX_START_CAUSE = 0) :
    (s.startCause cause failed).get .MBX_START_CAUSE = cause := by
  unfold State.startCause
  rw [State.get_set_other _ _ (by decide), h]
  exact (State.get_set_self _ .MBX_START_CAUSE cause (by decide)).trans (Nat.mod_eq_of_lt hcause)

/-! Loads and the check of the bands -/

/-- The second pass, over the sections whose load has failed once. -/
def State.secondPass (s : State) : State := s.when (s.aq.toLoad.isEmpty && !s.aq.second) (fun s =>
  s.updAq (fun a => { a with toLoad := a.again, again := [], second := true }))

/-- The next load, or the end of the loads. -/
def State.loadNext (s : State) : State :=
  match s.aq.toLoad with
  | k :: rest => (s.startLoad k).updAq (fun a => { a with toLoad := rest, loading := some k })
  | [] => s.endLoads

/-- The loads begin when the spindle is ready. -/
def State.beginLoads (s : State) : State := s.when (decide (s.get .MBX_START_STEP < 9) && s.spindleReady) (fun s =>
  (s.set .MBX_START_STEP 9).updAq (fun a => { a with toLoad := (List.range 4).filter (fun k => (s.link k).state == 1) }))

/-- The load under way ends. -/
def State.endOfLoad (s : State) (lock : Option Nat) : State :=
  match s.aq.loading with
  | some k =>
    let (ok, s) := s.endLoad k lock
    let s := s.updAq (fun a => { a with loading := none })
    if ok then s
    else if s.aq.second then s.startCause 7 (2 ^ k)
    else s.updAq (fun a => { a with again := a.again ++ [k] })
  | none => s

/-- The loads go on, as the command's execution writes it. -/
def State.loadOutcome (s : State) : Host.Outcome State Fault Refusal :=
  match s.aq.toLoad with
  | k :: rest => .next ((s.startLoad k).updAq (fun a => { a with toLoad := rest, loading := some k }))
  | [] => .next s.endLoads

theorem State.loadOutcome_eq : s.loadOutcome = .next s.loadNext := by
  unfold State.loadOutcome State.loadNext
  split <;> rfl

/-- No load is due: the sequence does not run, or its step is another. -/
def State.noLoads (s : State) : Bool :=
  !s.aqsiaActs || !s.aq.starting || decide (s.get .MBX_START_STEP < 7) || decide (9 < s.get .MBX_START_STEP)

theorem exec_headLoad_eq (lock : Option Nat) : exec (.headLoad lock) s = if s.noLoads then .next s
    else if s.beginLoads.get .MBX_START_STEP < 9 then .next s.beginLoads
    else (s.beginLoads.endOfLoad lock).secondPass.loadOutcome := by
  rfl

theorem exec_headLoad_nine {lock : Option Nat} (hacts : s.aqsiaActs = true) (hstarting : s.aq.starting = true) (hstep :
    s.get .MBX_START_STEP = 9)
    (hload : s.aq.loading = none) : exec (.headLoad lock) s = .next s.secondPass.loadNext := by
  have hgo : s.noLoads = false := by
    unfold State.noLoads
    rw [hacts, hstarting, hstep]
    rfl
  have hbegun : s.beginLoads = s := by
    unfold State.beginLoads
    rw [hstep]
    rfl
  have hidle : s.endOfLoad lock = s := by
    unfold State.endOfLoad
    rw [hload]
  rw [exec_headLoad_eq, hgo, if_neg Bool.false_ne_true, hbegun, hstep, if_neg (Nat.lt_irrefl 9), hidle, State.loadOutcome_eq]

theorem exec_headLoad_idle {lock : Option Nat}
    (h : s.aqsiaActs = false ∨ s.aq.starting = false ∨ s.get .MBX_START_STEP < 7 ∨ 9 < s.get .MBX_START_STEP) :
    exec (.headLoad lock) s = .next s := by
  have hidle : s.noLoads = true := by
    simpa [State.noLoads, or_assoc] using h
  rw [exec_headLoad_eq, if_pos hidle]

/-- The load of section `k` starts, with those of `rest` left. -/
def State.loadFrom (s : State) (k : Nat) (rest : List Nat) : State :=
  (s.startLoad k).updAq (fun a => { a with toLoad := rest, loading := some k })

theorem State.loadFrom_get (k : Nat) (rest : List Nat) (g : Fld) : (s.loadFrom k rest).get g = (s.startLoad k).get g := State.updAq_get ..

theorem State.loadFrom_effects (k : Nat) (rest : List Nat) : (s.loadFrom k rest).get (.TUS_SEC_CTRL_LANE_EN k) = 3 ∧
    (s.loadFrom k rest).get (.TUS_SEEK_STATUS_SETTLED k) = 0 ∧ (s.loadFrom k rest).aq.loading = some k ∧
    (s.loadFrom k rest).aq.toLoad = rest ∧ (s.loadFrom k rest).get .MBX_START_STEP = s.get .MBX_START_STEP := by
  refine ⟨(State.loadFrom_get ..).trans State.startLoad_lanes, (State.loadFrom_get ..).trans State.startLoad_settled, rfl, rfl, ?_⟩
  exact (State.loadFrom_get ..).trans (State.startLoad_within.get (by decide +kernel))

/-- A load starts while one is left. -/
theorem State.loadNext_starts {k : Nat} {rest : List Nat} (hleft : s.aq.toLoad = k :: rest) :
    s.secondPass.loadNext = s.loadFrom k rest := by
  have hpass : s.secondPass = s := by
    unfold State.secondPass
    rw [hleft]
    rfl
  rw [hpass, State.loadNext, hleft]
  rfl

/-- What the end of the loads reads, the second pass leaves: no load is left for it. -/
theorem State.loadNext_ends (hleft : s.aq.toLoad = []) (hagain : s.aq.again = [] ∨ s.aq.second = true) :
    s.secondPass.loadNext = s.secondPass.endLoads ∧ s.secondPass.regs = s.regs ∧ s.secondPass.aq.starting = s.aq.starting ∧
      s.secondPass.aq.bandCheck = s.aq.bandCheck := by
  have hnone : s.secondPass.aq.toLoad = [] := by
    unfold State.secondPass State.when
    split
    · next h =>
      rw [hleft] at h
      exact hagain.resolve_right (fun hsecond => by rw [hsecond] at h; cases h)
    · exact hleft
  refine ⟨by rw [State.loadNext, hnone], ?_⟩
  unfold State.secondPass State.when
  split <;> exact ⟨rfl, rfl, rfl⟩

/-- The spindle returns to the service's commutation. -/
def State.sourceBack (s : State) : State := s.setSource s.aq.src

theorem State.sourceBack_within : Frame [.withy] [.fld .WTH_SPN_CTRL_SRC, .fld .WTH_SPN_STATUS_AT_SPEED, .fld .WTH_SPN_STATUS_SPD95,
    .fld .WTH_SPN_STATUS_SPD90] s s.sourceBack := State.setSource_within _

theorem State.sourceBack_aq : s.sourceBack.aq = s.aq := State.sourceBack_within.same .aq (by decide)

theorem State.sourceBack_parked (k : Nat) : s.sourceBack.get (.WTH_VCM_STATUS_PARKED k) = s.get (.WTH_VCM_STATUS_PARKED k) :=
  State.sourceBack_within.get (apart_mod (n := 4) _ (by decide) (by simp) (by decide +kernel) k)

theorem State.endLoads_eq : s.endLoads = if s.sourceBack.allParked then s.sourceBack.endStart 2
    else if s.sourceBack.aq.bandCheck then (s.sourceBack.updAq (fun a => { a with checked := [] })).set .MBX_START_STEP 10
    else (s.sourceBack.set .MBX_START_STEP 11).endStart 1 := rfl

/-- With every section parked the start has failed. -/
theorem State.endLoads_parked (hstarting : s.aq.starting = true) (hparked : s.allParked = true) :
    s.endLoads.aq.starting = false ∧ s.endLoads.get .MBX_START_RESULT = 2 ∧ s.endLoads.get .MBX_START_LOADED = 0 := by
  have hstill : s.sourceBack.allParked = true := (State.allParked_congr State.sourceBack_parked).trans hparked
  obtain ⟨hresult, hloaded, -⟩ := State.endStart_of_starting (s := s.sourceBack) (r := 2) (by rw [State.sourceBack_aq,
    hstarting]) (by decide)
  rw [State.endLoads_eq, if_pos hstill]
  exact ⟨State.endStart_starting 2, hresult, hloaded.trans (State.loadedMask_of_parked hstill)⟩

/-- The last step of a start that has not failed. -/
theorem State.lastStep_effects (hstarting : s.aq.starting = true) : let t := (s.set .MBX_START_STEP 11).endStart 1
    t.get .MBX_START_STEP = 11 ∧ t.get .MBX_START_RESULT = 1 ∧ t.aq.starting = false ∧ t.get .MBX_START_LOADED = s.loadedMask ∧
      t.aq.bandCheck = false := by
  obtain ⟨hresult, hloaded, hcheck⟩ := State.endStart_of_starting (s := s.set .MBX_START_STEP 11) (r := 1) hstarting (by decide)
  refine ⟨?_, hresult, State.endStart_starting 1,
    hloaded.trans (State.loadedMask_congr fun k _ => State.get_set_ne _ _ (by dsimp only; omega)), hcheck⟩
  exact ((State.endStart_within 1).get (by decide)).trans (State.get_set_self _ .MBX_START_STEP 11 (by decide))

theorem State.endLoads_ready (hloaded : s.allParked = false) (hcheck : s.aq.bandCheck = false) :
    s.endLoads = (s.sourceBack.set .MBX_START_STEP 11).endStart 1 := by
  have hstill : s.sourceBack.allParked = false := (State.allParked_congr State.sourceBack_parked).trans hloaded
  rw [State.endLoads_eq, hstill, if_neg Bool.false_ne_true, State.sourceBack_aq, hcheck, if_neg Bool.false_ne_true]

/-- Band `k` is checked. -/
def State.markChecked (s : State) (k : Nat) : State := s.updAq (fun a => { a with checked := k :: a.checked.filter (· ≠ k) })

/-- Every section that is loaded has its bands checked. -/
def State.bandsDone (s : State) : Bool := (List.range 4).all (fun j => s.parkedSec j || j ∈ s.aq.checked)

/-- No check is due. -/
def State.noCheck (s : State) : Bool := !s.aqsiaActs || !s.aq.starting || s.get .MBX_START_STEP != 10

theorem exec_bandCheck_eq (k : Nat) : exec (.bandCheck k) s = if s.noCheck then .next s
    else if (s.markChecked k).bandsDone then .next (((s.markChecked k).set .MBX_START_STEP 11).endStart 1)
    else .next (s.markChecked k) := rfl

theorem State.noCheck_of_ten (hacts : s.aqsiaActs = true) (hstarting : s.aq.starting = true) (hstep : s.get .MBX_START_STEP = 10) :
    s.noCheck = false := by
  unfold State.noCheck
  rw [hacts, hstarting, hstep]
  rfl

theorem exec_bandCheck_last {k : Nat} (hdue : s.noCheck = false) (hall : ∀ j < 4, j ≠ k → s.parkedSec j = true ∨ j ∈ s.aq.checked) :
    exec (.bandCheck k) s = .next (((s.markChecked k).set .MBX_START_STEP 11).endStart 1) := by
  have hdone : (s.markChecked k).bandsDone = true := by
    refine List.all_eq_true.2 fun j hj => ?_
    have hmem : (s.markChecked k).parkedSec j = true ∨ j ∈ (s.markChecked k).aq.checked := by
      by_cases hjk : j = k
      · exact .inr (hjk ▸ List.mem_cons_self)
      · exact (hall j (List.mem_range.1 hj) hjk).imp_right
          (fun h => List.mem_cons_of_mem _ (List.mem_filter.2 ⟨h, by simpa using hjk⟩))
    simpa using hmem
  rw [exec_bandCheck_eq, hdue, if_neg Bool.false_ne_true, if_pos hdone]

theorem exec_bandCheck_next {k j : Nat} (hdue : s.noCheck = false) (hj : j < 4) (hne : j ≠ k) (hparked : s.parkedSec j = false)
    (hleft : j ∉ s.aq.checked) : exec (.bandCheck k) s = .next (s.markChecked k) := by
  have hmore : (s.markChecked k).bandsDone = false := by
    refine Bool.eq_false_iff.2 fun h => ?_
    have hj' := List.all_eq_true.1 h j (List.mem_range.2 hj)
    have hin : j ∈ (s.markChecked k).aq.checked ↔ j ∈ k :: s.aq.checked.filter (· ≠ k) := Iff.rfl
    have hstill : (s.markChecked k).parkedSec j = false := hparked
    simp [hin, hstill, hne, hleft] at hj'
  rw [exec_bandCheck_eq, hdue, if_neg Bool.false_ne_true, hmore, if_neg Bool.false_ne_true]

theorem exec_bandCheck_idle {k : Nat} (h : s.aqsiaActs = false ∨ s.aq.starting = false ∨ s.get .MBX_START_STEP ≠ 10) :
    exec (.bandCheck k) s = .next s := by
  have hidle : s.noCheck = true := by
    simpa [State.noCheck, or_assoc] using h
  rw [exec_bandCheck_eq, if_pos hidle]

/-- Settles O54: the boot ROM, Aqsia's boot and the start sequence by their named stages, each a frame on what the others read. -/
theorem bootReachesReady : Obligations.BootReachesReady := by
  unfold Obligations.BootReachesReady
  refine ⟨fun s found hpower hstuck hruns hstage => ?_, fun s found hpower hstuck hruns hstage hfatal => ?_,
    fun s found hpower hstuck hruns hstage hfatal hstrap hcycle => ?_, fun s found hbusy h => ?_, fun s cal hacts hdown hstage => ?_,
    fun s cal h => ?_, fun s hacts hseen hopen htrial hreq => ?_, fun s hacts hseen hopen htrial hnew hreq => ?_, fun s h => ?_,
    fun s hstage htrial hopen hreq => ?_, fun s h => ?_, fun s hacts hopen => ?_, fun s h => ?_, fun s reg hlow hhigh hclock => ?_,
    fun s reg hlow hclock => ?_, fun s reg hclock => ?_, fun s core reg hcore => ?_, fun s emf hacts hstarting hstep hfault htested => ?_,
    fun s emf hacts hstarting hstep hfault htested => ?_, fun s emf hacts hstarting hstep hfault => ?_,
    fun s emf hacts hstarting hstep hlinks => ?_, fun s emf h => ?_, fun s lock k rest hacts hstarting hstep hload hleft hk => ?_,
    fun s lock hacts hstarting hstep hload hleft hagain hparked => ?_,
    fun s lock hacts hstarting hstep hload hleft hagain hparked hcheck => ?_, fun s lock h => ?_, fun s k hacts hstarting hstep hall => ?_,
    fun s k j hacts hstarting hstep hj hne hparked hleft => ?_, fun s k h => ?_⟩
  · have hdue := State.noBoot_of_off hpower hstuck hruns hstage
    cases hfatal : found.otpFatal
    · exact completes_of_outFrame (execBootRom_frame (parts_in rfl) (fun _ hr => hr)) (exec_bootRom_boots hdue hfatal)
        (fun _ => State.bootChoose_ends found (State.bootMeasured_runs (State.bootSeen_runs found hruns)))
    · exact completes_of_outFrame (execBootRom_frame (parts_in rfl) (fun _ hr => hr)) (exec_bootRom_fatal hdue hfatal)
        (fun _ => State.Stuck.ends (State.bootStop_stuck (by decide) (State.bootSeen_runs found hruns)) (.inr rfl))
  · exact completes_of_outFrame (execBootRom_frame (parts_in rfl) (fun _ hr => hr))
      (exec_bootRom_fatal (State.noBoot_of_off hpower hstuck hruns hstage) hfatal)
      (fun _ => State.bootStop_stuck (by decide) (State.bootSeen_runs found hruns))
  · obtain ⟨⟨hstop, hstill, hoff⟩, hfactory⟩ := State.boot_blank (found := found) hruns hstrap hcycle
    exact completes_of_outFrame (execBootRom_frame (parts_in rfl) (fun _ hr => hr))
      (exec_bootRom_boots (State.noBoot_of_off hpower hstuck hruns hstage) hfatal) (fun _ => ⟨hstop, hstill, hoff, hfactory⟩)
  · refine completes_of_outFrame (execBootRom_frame (parts_in rfl) (fun _ hr => hr)) (exec_bootRom_idle hbusy ?_) (fun _ => rfl)
    simpa [State.noBoot, or_assoc] using h
  · have hdue : s.noAqsiaBoot = false := by
      unfold State.noAqsiaBoot
      rw [hacts, hdown, hstage]
      rfl
    obtain ⟨hup, hat, hmajor, hminor, hkind⟩ := State.bootEnd_shows (s := s) cal
    exact completes_of_outFrame (execAqsiaBoot_frame (parts_in rfl) (fun _ hr => hr)) (exec_aqsiaBoot_boots cal hdue)
      (fun _ => ⟨hup, hat, hmajor, hminor, hkind, State.bootEnd_starts cal⟩)
  · refine completes_of_outFrame (execAqsiaBoot_frame (parts_in rfl) (fun _ hr => hr)) (exec_aqsiaBoot_idle cal ?_) (fun _ => rfl)
    simpa [State.noAqsiaBoot, or_assoc] using h
  · have hdue : s.trialDue = true := by simp [State.trialDue, hacts, hseen, hopen, State.is_of_get htrial]
    obtain ⟨hconfirmed, hpointed⟩ := State.confirmTrial_pointer htrial
    exact completes_of_outFrame (execTrialConfirm_frame (parts_in rfl) (fun _ hr => hr)) (exec_trialConfirm_completes hdue hreq)
      (fun _ => ⟨State.completeBoot_completed.1, State.completeBoot_completed.2, (State.completeBoot_get (by decide)).trans hconfirmed,
        (State.completeBoot_get (by decide)).trans hpointed⟩)
  · have hdue : s.trialDue = true := by simp [State.trialDue, hacts, hseen, hopen, hnew]
    exact completes_of_outFrame (execTrialConfirm_frame (parts_in rfl) (fun _ hr => hr)) (exec_trialConfirm_completes hdue hreq)
      (fun _ => ⟨State.completeBoot_completed.1, State.completeBoot_completed.2, State.completeBoot_enrolls htrial hnew⟩)
  · refine completes_of_outFrame (execTrialConfirm_frame (parts_in rfl) (fun _ hr => hr)) (exec_trialConfirm_waits ?_) (fun _ => rfl)
    rcases h with h | h | h | ⟨htrial, hown⟩
    · simp [State.trialDue, h]
    · simp [State.trialDue, h]
    · simp [State.trialDue, h]
    · simp [State.trialDue, State.is, htrial, hown]
  · have hlate : s.trialLate = true := by simp [State.trialLate, hstage, hopen, State.is_of_get htrial]
    refine completes_of_outFrame (execTrialTimeout_frame (parts_in rfl)) (t := s.requestReset 4 0 0) ?_
      (fun _ => State.requestReset_of_none 4 0 0 hreq)
    rw [exec_trialTimeout_eq, hlate]
    rfl
  · have hearly : s.trialLate = false := by
      rcases h with h | h | h
      · simp [State.trialLate, h]
      · simp [State.trialLate, State.is, h]
      · simp [State.trialLate, h]
    refine completes_of_outFrame (execTrialTimeout_frame (parts_in rfl)) (t := s) ?_ (fun _ => rfl)
    rw [exec_trialTimeout_eq, hearly]
    rfl
  · refine completes_of_outFrame (execBootRecord_frame (parts_in rfl) (fun _ hr => hr))
      (t := s.recordBoot.peatRecord 0 0x0001 (s.bootRecordBytes ++ (s.signBy 1 s.bootRecordBytes).1)) ?_ (fun _ => ?_)
    · rw [exec_bootRecord_eq, hacts, hopen]
      rfl
    · rw [State.peatRecord_dyke]
      exact ⟨rfl, rfl⟩
  · refine completes_of_outFrame (execBootRecord_frame (parts_in rfl) (fun _ hr => hr)) (t := s) ?_ (fun _ => rfl)
    have hidle : (s.aqsiaActs && !s.dyke.recorded) = false := by
      rcases h with h | h
      · rw [h, Bool.false_and]
      · rw [h, Bool.and_comm]
        rfl
    rw [exec_bootRecord_eq, hidle]
    rfl
  · obtain ⟨hwords, hbus, hothers⟩ := State.extend_extends (s := s.ack) hlow hhigh
    exact completes_of_outFrame (execDykeMrExt_frame (parts_in rfl) (fun _ hr => hr)) (exec_dykeMrExt_clocked hclock)
      (fun _ => ⟨hwords, hbus, hothers⟩)
  · obtain ⟨herr, hbus, hkept⟩ := State.extend_refused (s := s.ack) hlow
    exact completes_of_outFrame (execDykeMrExt_frame (parts_in rfl) (fun _ hr => hr)) (exec_dykeMrExt_clocked hclock)
      (fun _ => ⟨herr, hbus, hkept⟩)
  · exact completes_of_outFrame (execDykeMrExt_frame (parts_in rfl) (fun _ hr => hr)) (exec_dykeMrExt_gated hclock) (fun _ => ⟨rfl, rfl⟩)
  · exact completes_of_outFrame (execDykeMrExt_frame (parts_in rfl) (fun _ hr => hr)) exec_dykeMrExt_denied
      (fun _ => ⟨State.denied_bus core, State.denied_latched core, fun r _ => State.denied_mr core r⟩)
  · refine completes_of_outFrame (execSpindleStart_frame (parts_in rfl) (fun _ hr => hr)) (t := s.spinUp.runStart) ?_
      (fun _ => State.spinUp_starts)
    rw [exec_spindleStart_six hacts hstarting hstep, State.startSpindle_of_tested hfault htested]
    rfl
  · refine completes_of_outFrame (execSpindleStart_frame (parts_in rfl) (fun _ hr => hr)) (t := s) ?_ (fun _ => rfl)
    rw [exec_spindleStart_six hacts hstarting hstep, State.startSpindle_of_untested hfault htested]
  · have hstill : (s.startCause 3 0).aq.starting = true := (State.startCause_starting 3 0).trans hstarting
    refine completes_of_outFrame (execSpindleStart_frame (parts_in rfl) (fun _ hr => hr)) (t := (s.startCause 3 0).endStart 2) ?_
      (fun _ => ⟨State.endStart_starting 2, (State.endStart_of_starting hstill (by decide)).1,
        fun h => ((State.endStart_within 2).get (by decide)).trans (State.startCause_cause (by decide) h)⟩)
    rw [exec_spindleStart_six hacts hstarting hstep, State.startSpindle_of_fault hfault]
  · exact completes_of_outFrame (execSpindleStart_frame (parts_in rfl) (fun _ hr => hr))
      (exec_spindleStart_undiscovered hacts hstarting hstep hlinks) (fun _ => rfl)
  · exact completes_of_outFrame (execSpindleStart_frame (parts_in rfl) (fun _ hr => hr)) (exec_spindleStart_idle h) (fun _ => rfl)
  · have hexec := (exec_headLoad_nine (lock := lock) hacts hstarting hstep hload).trans (congrArg Host.Outcome.next (State.loadNext_starts hleft))
    obtain ⟨hlanes, hsettled, hloading, hrest, hkept⟩ := State.loadFrom_effects (s := s) k rest
    exact completes_of_outFrame (execHeadLoad_frame (parts_in rfl) (fun _ hr => hr)) hexec
      (fun _ => ⟨hlanes, hsettled, hloading, hrest, hkept.trans hstep⟩)
  · obtain ⟨hends, hregs, hstart, -⟩ := State.loadNext_ends hleft hagain
    have hstill : s.secondPass.allParked = true := (State.allParked_congr fun k => State.get_of_regs hregs _).trans hparked
    exact completes_of_outFrame (execHeadLoad_frame (parts_in rfl) (fun _ hr => hr))
      ((exec_headLoad_nine hacts hstarting hstep hload).trans (congrArg Host.Outcome.next hends))
      (fun _ => State.endLoads_parked (hstart.trans hstarting) hstill)
  · obtain ⟨hends, hregs, hstart, hband⟩ := State.loadNext_ends hleft hagain
    have hstill : s.secondPass.allParked = false := (State.allParked_congr fun k => State.get_of_regs hregs _).trans hparked
    have hready := State.endLoads_ready hstill (hband.trans hcheck)
    obtain ⟨hlast, hresult, hended, hloaded, -⟩ := State.lastStep_effects (s := s.secondPass.sourceBack)
      ((congrArg Aqsia.starting State.sourceBack_aq).trans (hstart.trans hstarting))
    have hmask : s.secondPass.sourceBack.loadedMask = s.loadedMask :=
      State.loadedMask_congr fun k _ => (State.sourceBack_parked k).trans (State.get_of_regs hregs _)
    exact completes_of_outFrame (execHeadLoad_frame (parts_in rfl) (fun _ hr => hr))
      ((exec_headLoad_nine hacts hstarting hstep hload).trans (congrArg Host.Outcome.next (hends.trans hready)))
      (fun _ => ⟨hended, hresult, hlast, hloaded.trans hmask⟩)
  · exact completes_of_outFrame (execHeadLoad_frame (parts_in rfl) (fun _ hr => hr)) (exec_headLoad_idle h) (fun _ => rfl)
  · obtain ⟨hlast, hresult, hended, hloaded, hcheck⟩ := State.lastStep_effects (s := s.markChecked k) hstarting
    exact completes_of_outFrame (execBandCheck_frame (parts_in rfl) (fun _ hr => hr))
      (exec_bandCheck_last (State.noCheck_of_ten hacts hstarting hstep) hall)
      (fun _ => ⟨hlast, hresult, hended, hloaded, hcheck⟩)
  · exact completes_of_outFrame (execBandCheck_frame (parts_in rfl) (fun _ hr => hr))
      (exec_bandCheck_next (State.noCheck_of_ten hacts hstarting hstep) hj hne hparked hleft) (fun _ => ⟨rfl, rfl, hstarting⟩)
  · exact completes_of_outFrame (execBandCheck_frame (parts_in rfl) (fun _ hr => hr)) (exec_bandCheck_idle h) (fun _ => rfl)

end Sys2Proof.Machine
end
